-- ==== Sys2Proof/Syntax.lean ====
section
/-! DEFINITION. The commands that the block takes, one constructor for each row of the opcode table, and the data they carry. -/

namespace Sys2Proof

/-- An ADC sample as the delay stage of a channel takes it (R293): the code at the pin instant less the whole samples of the delay, and
with a fraction the 8 codes around it that its filter takes, newest first. -/
structure DSamp where
  code : Int
  near : List Int
  deriving DecidableEq, Repr, Inhabited

/-- What a kernel sample is made of: the 8 R ADC samples of the window that are new with it (R297, R300), and an uncorrectable error
of the weight read for it (R314). -/
structure KIn where
  adc : List DSamp
  ecc : Bool
  deriving DecidableEq, Repr, Inhabited

/-- An ADC sample: its code, whether the input was beyond full scale (R249), and whether no earlier window showed it. -/
structure Samp where
  code : Int
  beyond : Bool
  fresh : Bool
  deriving DecidableEq, Repr, Inhabited

/-- What a boundary message says of a grown remote edge (R370): the round of its window and its PAIR, the parity and boundary
flag of the sender's cluster, the sender's growth, and the routing bit of a peel message (R372). -/
structure BEdge where
  rnd : Nat
  pair : Nat
  odd : Bool
  bnd : Bool
  grown : Nat
  route : Bool
  deriving DecidableEq, Repr, Inhabited

/-- A boundary message between decoders (R370, Table 15-4): context, round, shot, replay count, pass, and the grown remote
edges. -/
structure BMsg where
  ctx : Nat
  round : Nat
  shot : Nat
  replay : Nat
  pass : Nat
  peel : Bool
  edges : List BEdge
  deriving DecidableEq, Repr, Inhabited

/-- A read of patch RAM by VERIFY: the yard, and an error of the read, 0 for none, 1 corrected, 2 uncorrectable (R134). -/
structure PatchRead where
  yard : Nat
  ecc : Nat
  deriving DecidableEq, Repr, Inhabited

/-- What a stage of BOOT found: its cause of failure, 0 for none (R622), and the temperature sensors whose self-test failed (R563). -/
structure StageFound where
  cause : Nat
  sens : List Nat
  deriving DecidableEq, Repr, Inhabited

/-- The commands of the block, one for each row of the opcode table. -/
inductive Instr
  /-- REG_WRITE (R11): A host write to a register that has no row of its own: it is stored, or discarded and counted by its chapter's rules. Operands: `a` the BAR0 offset; `v` the value; `n` the bytes of the access; `host` the bytes the device reads because of the write. -/
  | regWrite (a : Nat) (v : Nat) (n : Nat) (host : List (BitVec 8))
  /-- ITEM_ARRIVAL (R37): A stamped FB or CTRL item, or an out-bound sample batch, reaches its receiving island and is held until its release time. Operands: `k` the place of the item among those on their way. -/
  | itemArrival (k : Nat)
  /-- ITEM_RELEASE (R37): A held stamped item is applied when the receiver's TB1 reaches its release time. Operands: `dst` the receiving island. -/
  | itemRelease (dst : Nat)
  /-- ISLAND_HANG (R42): A handshake that does not complete within 1 µs raises E_FLT_ISL_HANG, and the island that is not the hub is reset. Operands: `a` one island; `b` the other island; `cls` the class. -/
  | islandHang (a : Nat) (b : Nat) (cls : Nat)
  /-- LSG_ARM (R121): GLB_LSG_CMD ARM is checked and staged for release, or refused. Operands: `g` the group; `svc` a Winch service sends it. -/
  | lsgArm (g : Nat) (svc : Bool)
  /-- LSG_START (R51): GLB_LSG_CMD START is staged for release, or refused. Operands: `g` the group; `svc` a Winch service sends it. -/
  | lsgStart (g : Nat) (svc : Bool)
  /-- LSG_PAUSE (R51): GLB_LSG_CMD PAUSE is staged for release, or refused. Operands: `g` the group; `svc` a Winch service sends it. -/
  | lsgPause (g : Nat) (svc : Bool)
  /-- LSG_RESUME (R51): GLB_LSG_CMD RESUME is staged for release, or refused. Operands: `g` the group; `svc` a Winch service sends it. -/
  | lsgResume (g : Nat) (svc : Bool)
  /-- LSG_ABORT (R51): GLB_LSG_CMD ABORT is staged for release and replaces any pending command. Operands: `g` the group; `svc` a Winch service sends it. -/
  | lsgAbort (g : Nat) (svc : Bool)
  /-- LSG_DISARM (R51): GLB_LSG_CMD DISARM is staged for release, or refused. Operands: `g` the group; `svc` a Winch service sends it. -/
  | lsgDisarm (g : Nat) (svc : Bool)
  /-- ARM_RELEASE (R195): At the ARM release the group becomes ARMED, frames reset, and every shadow class is handed over. Operands: `g` the group. -/
  | armRelease (g : Nat)
  /-- START_RELEASE (R49): At the START release the group becomes RUNNING and shot 0 starts. Operands: `g` the group. -/
  | startRelease (g : Nat)
  /-- PAUSE_RELEASE (R126): At the PAUSE release the group enters PAUSING until every member finishes its shot. Operands: `g` the group. -/
  | pauseRelease (g : Nat)
  /-- RESUME_RELEASE (R126): At the RESUME release a paused group runs again, starting its next shot at ENTRY. Operands: `g` the group. -/
  | resumeRelease (g : Nat)
  /-- ABORT_RELEASE (R54): At the ABORT release every member stops, the shot is discarded, and outputs go to zero. Operands: `g` the group. -/
  | abortRelease (g : Nat)
  /-- DISARM_RELEASE (R51): At the DISARM release an armed or paused group returns to IDLE. Operands: `g` the group. -/
  | disarmRelease (g : Nat)
  /-- GO_SAFE (R586): GLB_STATE_CMD GO_SAFE moves the device into SAFE with E_FLT_GO_SAFE. -/
  | goSafe
  /-- LEAVE_SAFE (R56): GLB_STATE_CMD LEAVE_SAFE moves the device to CONFIG if the recorded cause is cleared, and is otherwise refused. -/
  | leaveSafe
  /-- RECAL (R55): GLB_STATE_CMD RECAL moves the device from READY to CAL for foreground calibration, or is refused. -/
  | recal
  /-- IMG_LOAD (R72): IMG_CTL LOAD checks IMG_LEN and starts fetching an image into the staging store. Operands: `flash` the source is the boot flash; `full` the image is a full one. -/
  | imgLoad (flash : Bool) (full : Bool)
  /-- IMG_HEADER_STAGED (R72): Once the first 64 bytes are staged, a TOTAL_LEN that differs from IMG_LEN ends the fetch. Operands: `bs` the bytes that arrive. -/
  | imgHeaderStaged (bs : List (BitVec 8))
  /-- IMG_FETCH_COMPLETE (R72): TOTAL_LEN bytes are staged, and the image manager passes the image to Shroud for verification. Operands: `bs` the bytes that arrive. -/
  | imgFetchComplete (bs : List (BitVec 8))
  /-- IMG_VERIFY_COMPLETE (R673): Shroud accepts or refuses the signature part and decryption, and the image enters CHECKING or FAILED. -/
  | imgVerifyComplete
  /-- IMG_CHECK_COMPLETE (R73): The checker finishes in order, stops at the first failure, and the image becomes CHECKED or FAILED. -/
  | imgCheckComplete
  /-- IMG_COMMIT (R77): IMG_CTL COMMIT starts committing a checked image, or refuses it under R77. -/
  | imgCommit
  /-- IMG_ABORT (R74): IMG_CTL ABORT discards a staged or checked image and returns to IDLE with E_IMG_ABORTED. -/
  | imgAbort
  /-- IMG_CLEAR (R74): IMG_CTL CLEAR returns a failed image manager to IDLE. -/
  | imgClear
  /-- FULL_COMMIT_COMPLETE (R78): A full commit finishes applying every section, and the device enters CAL. -/
  | fullCommitComplete
  /-- PCOMMIT_START (R79): At time R of a yard or quadrant commit, the scope's groups enter RECONFIG, its outputs go to zero and its slots clear. -/
  | pcommitStart
  /-- PCOMMIT_APPLY (R79): At R + 64 ft the scope's routing, composition, allotment and ownership take effect. -/
  | pcommitApply
  /-- PCOMMIT_REGINIT_WORD (R79): One REG_INIT word of a partial commit is written in its ft. -/
  | pcommitReginitWord
  /-- PCOMMIT_END (R79): After the last REG_INIT word, the RECONFIG groups enter IDLE and the commit completes. -/
  | pcommitEnd
  /-- LINK_COMMIT (R85): A link commit takes the link down, applies LINK_TOPO and REG_INIT, and starts bring-up. -/
  | linkCommit
  /-- SHOT_START (R49): At T0 every member starts its shot, writes the journal entry and begins issue at ENTRY. Operands: `g` the group. -/
  | shotStart (g : Nat)
  /-- SHOT_END_SIGNAL (R124): A member signals the end of its shot when TB1 reaches the latest of its cursor, plays and windows. Operands: `y` the yard. -/
  | shotEndSignal (y : Nat)
  /-- REPLAY_START (R593): When every replayable cause has cleared, the replay starts with the reset pass or the replayed shot. Operands: `g` the group. -/
  | replayStart (g : Nat)
  /-- MAST_STOP_COMPLETE (R54): A stopping Mast reaches IDLE once its outputs are at zero and its records are flushed. Operands: `y` the yard. -/
  | mastStopComplete (y : Nat)
  /-- ISSUE_STALL_END (R94): A Mast stalled by the issue-ahead limit resumes issue when the release time comes within AHEAD_MAX. Operands: `y` the yard. -/
  | issueStallEnd (y : Nat)
  /-- NOP (R92): Instruction NOP issues one microword and does nothing else. Operands: `y` the yard; `ecc` the kind of error, 0 for none. -/
  | nop (y : Nat) (ecc : Nat)
  /-- END (R124): Instruction END stops issue and ends the shot, or the run with RUN = 1. Operands: `y` the yard. -/
  | end_ (y : Nat)
  /-- WAIT (R88): Instruction WAIT advances the time cursor by COUNT ft. Operands: `y` the yard. -/
  | wait (y : Nat)
  /-- SYNC_GROUP (R119): Instruction SYNC GROUP waits for every member of the group to reach a SYNC GROUP. Operands: `y` the yard. -/
  | syncGroup (y : Nat)
  /-- SYNC_TRIG (R119): Instruction SYNC TRIG waits for an edge on a TRIG input. Operands: `y` the yard. -/
  | syncTrig (y : Nat)
  /-- SYNC_ALIGN (R107): Instruction SYNC ALIGN rounds the time cursor up to a multiple of 2^K ft. Operands: `y` the yard. -/
  | syncAlign (y : Nat)
  /-- SYNC_SATISFIED (R119): A waiting SYNC is satisfied and the Mast resumes with TQ set as Table 3-8 states. Operands: `y` the yard. -/
  | syncSatisfied (y : Nat)
  /-- SYNC_TIMEOUT (R119): A SYNC that is not satisfied within TIMEOUT raises E_SEQ_SYNC_TIMEOUT. Operands: `y` the yard. -/
  | syncTimeout (y : Nat)
  /-- FENCE (R120): Instruction FENCE stalls issue until earlier CTRL items and RESULT records are done. Operands: `y` the yard. -/
  | fence (y : Nat)
  /-- FENCE_COMPLETE (R120): The conditions of a Mast FENCE hold, and issue resumes. Operands: `y` the yard. -/
  | fenceComplete (y : Nat)
  /-- COMMIT (R105): Instruction COMMIT requests a hand-over of the SHD classes in MASK at its release time. Operands: `y` the yard. -/
  | commit (y : Nat)
  /-- BR (R118): Instruction BR branches to TARGET. Operands: `y` the yard. -/
  | br (y : Nat)
  /-- BRC (R118): Instruction BRC compares G registers and branches to TARGET when the condition holds. Operands: `y` the yard. -/
  | brc (y : Nat)
  /-- WAITD (R108): Instruction WAITD stages the leading run of both paths and waits for a decision in SLOT. Operands: `y` the yard. -/
  | waitd (y : Nat)
  /-- WAITD_RESOLVE (R109): A counting decision releases one staged path and discards the other, and issue resumes. Operands: `y` the yard. -/
  | waitdResolve (y : Nat)
  /-- WAITD_DEADLINE (R109): The WAITD deadline passes with no decision, so the default path is taken and SEQ_TO_CNT is counted. Operands: `y` the yard. -/
  | waitdDeadline (y : Nat)
  /-- LOOP (R115): Instruction LOOP starts a hardware loop with a body and a count. Operands: `y` the yard. -/
  | loop (y : Nat)
  /-- PLAY (R157): Instruction PLAY sends a play request for a target and source to the Halyard. Operands: `y` the yard. -/
  | play (y : Nat)
  /-- ACQ (R255): Instruction ACQ opens acquisition windows on the channels in CHMASK. Operands: `y` the yard. -/
  | acq (y : Nat)
  /-- FRAME (R193): Instruction FRAME applies a phase, frequency or reset operation to a tone's frame from its release. Operands: `y` the yard. -/
  | frame (y : Nat)
  /-- BIAS (R231): Instruction BIAS sets a new bias target code at its release. Operands: `y` the yard. -/
  | bias (y : Nat)
  /-- MARK (R180): Instruction MARK places rise, fall or pulse edges on the yard's marker pin. Operands: `y` the yard. -/
  | mark (y : Nat)
  /-- SETR (R666): Instruction SETR writes a register of its own yard page at its release time. Operands: `y` the yard. -/
  | setr (y : Nat)
  /-- MOVI (R100): Instruction MOVI writes an immediate value to a G register. Operands: `y` the yard. -/
  | movi (y : Nat)
  /-- ALU (R100): Instruction ALU computes a 48-bit result into a G register. Operands: `y` the yard. -/
  | alu (y : Nat)
  /-- LDD (R114): Instruction LDD stalls until its time, then loads the slot's latest released decision. Operands: `y` the yard. -/
  | ldd (y : Nat)
  /-- LDD_RESOLVE (R114): The LDD stall ends and the slot's latest decision is written into GD. Operands: `y` the yard. -/
  | lddResolve (y : Nat)
  /-- GETS (R100): Instruction GETS reads the shot index, the replay count, TQ, the yard or the timeout count into a G register. Operands: `y` the yard. -/
  | gets (y : Nat)
  /-- RESULT (R129): Instruction RESULT places a USER record on the yard's result queue. Operands: `y` the yard. -/
  | result (y : Nat)
  /-- UC_LOAD (R136): UC_CTL LOAD starts fetching a microcode patch into a yard, or is refused. Operands: `y` the yard. -/
  | ucLoad (y : Nat)
  /-- UC_HEADER_ARRIVAL (R138): The patch header and map arrive and are checked before any write to patch RAM. Operands: `y` the yard; `bs` the bytes that arrive. -/
  | ucHeaderArrival (y : Nat) (bs : List (BitVec 8))
  /-- UC_BODY_COMPLETE (R141): The body phase ends with signature and CRC checks, and the patch becomes ACTIVE or FAILED. Operands: `y` the yard; `body` the body; `sig` Shroud's verdict on the signature; `ecc` an error of the read-back, 1 corrected and 2 uncorrectable. -/
  | ucBodyComplete (y : Nat) (body : List (BitVec 8)) (sig : Bool) (ecc : Nat)
  /-- UC_ROM_ONLY (R143): UC_CTL ROM_ONLY empties the patch map and returns the yard to ROM. Operands: `y` the yard. -/
  | ucRomOnly (y : Nat)
  /-- UC_VERIFY (R144): UC_CTL VERIFY recomputes the body CRC and sets FAILED on a mismatch. Operands: `r` the yard and an error of the reads. -/
  | ucVerify (r : PatchRead)
  /-- HAL_SEG_IDX_WRITE (R149): A write of HAL_SEG_IDX copies a segment entry and its state into the staging registers. Operands: `y` the yard; `v` the value. -/
  | halSegIdxWrite (y : Nat) (v : Nat)
  /-- HAL_SEG_FREE (R150): HAL_SEG_CTL FREE frees or drains a segment, or is refused. Operands: `y` the yard. -/
  | halSegFree (y : Nat)
  /-- HAL_SEG_ARM (R151): HAL_SEG_CTL ARM checks the staged entry and makes the segment READY. Operands: `y` the yard. -/
  | halSegArm (y : Nat)
  /-- STORE_SAMPLE_WRITE (R153): A host write to a waveform-store sample takes effect only where the covering segments allow it. Operands: `q` the quadrant; `i` the sample; `v` the value. -/
  | storeSampleWrite (q : Nat) (i : Nat) (v : Nat)
  /-- BAR2_WRITE (R493): A host write through BAR2 reaches a store where the store's chapter allows it. Operands: `a` the BAR2 offset; `bs` the bytes that arrive. -/
  | bar2Write (a : Nat) (bs : List (BitVec 8))
  /-- PLAY_CAPTURE (R158): At r − 3 ft the Halyard checks the play source, captures its descriptor and addresses sample 0. Operands: `y` the yard; `t` the target; `ecc` the index of a sample of the play whose read hits an uncorrectable error, if one does. -/
  | playCapture (y : Nat) (t : Nat) (ecc : Option Nat)
  /-- SEG_BOUNDARY (R160): At a pass boundary a segment play moves to its next pass, chain step or jump, or ends. Operands: `y` the yard; `t` the target; `ecc` the index of a sample after the boundary whose read hits an uncorrectable error, if one does. -/
  | segBoundary (y : Nat) (t : Nat) (ecc : Option Nat)
  /-- HAL_JUMP_WRITE (R164): A write of HAL_JUMP requests a jump or stop at the next boundary that it reaches in time. Operands: `y` the yard; `t` the target; `v` the value. -/
  | halJumpWrite (y : Nat) (t : Nat) (v : Nat)
  /-- STR_START (R171): A write of HAL_STR_CTL.EN from 0 to 1 checks and starts a streaming channel. Operands: `y` the yard; `c` the streaming channel; `v` the value. -/
  | strStart (y : Nat) (c : Nat) (v : Nat)
  /-- STR_STOP (R171): A write of HAL_STR_CTL.EN from 1 to 0 stops the channel and returns its ring to READY. Operands: `y` the yard; `c` the streaming channel; `v` the value. -/
  | strStop (y : Nat) (c : Nat) (v : Nat)
  /-- STR_BLOCK_AVAILABLE (R173): A refill block becomes available at the release time of the batch that completes it. Operands: `y` the yard; `c` the streaming channel. -/
  | strBlockAvailable (y : Nat) (c : Nat)
  /-- STREAM_BLOCK_ADDRESS (R174): A stream play addresses its next block in release order. Operands: `y` the yard; `t` the target. -/
  | streamBlockAddress (y : Nat) (t : Nat)
  /-- MARKER_EDGE (R180): A placed marker edge reaches its pin time and changes the pin level. Operands: `pin` the marker pin. -/
  | markerEdge (pin : Nat)
  /-- MARKER_RUN_EXIT_LOW (R670): After leaving RUN, a marker pin that is still high is driven low after its last edge. Operands: `pin` the marker pin. -/
  | markerRunExitLow (pin : Nat)
  /-- PF_CORRECTION (R196): A released decoder frame item toggles FX and FZ of its drive tone, or is rejected. Operands: `y` the yard. -/
  | pfCorrection (y : Nat)
  /-- SHADOW_WRITE (R206): A write to an SHD register updates the shadow copy and the set state, or is discarded. Operands: `y` the yard; `off` the offset in the yard page; `v` the value. -/
  | shadowWrite (y : Nat) (off : Nat) (v : Nat)
  /-- TON_SHD_CTL_WRITE (R208): A write of TON_SHD_CTL seals or reopens shadow sets and sets SEAL_EN. Operands: `y` the yard; `v` the value. -/
  | tonShdCtlWrite (y : Nat) (v : Nat)
  /-- TON_HO_CMD (R213): A write of TON_HO_CMD requests a host hand-over of the classes in MASK at H. Operands: `y` the yard; `mask` the classes. -/
  | tonHoCmd (y : Nat) (mask : Nat)
  /-- HANDOVER (R205): At hand-over tick H the shadow copies of the named classes become active, or the class is skipped. Operands: `y` the yard. -/
  | handover (y : Nat)
  /-- BIA_CODE_WRITE (R231): A write of BIA_CODE sets a new slew target for the bias source. Operands: `y` the yard; `v` the value. -/
  | biaCodeWrite (y : Nat) (v : Nat)
  /-- BIAS_COMPLIANCE (R238): After 10 µs at or above 3.9 V the source enters COMPLIANCE and reports it. Operands: `y` the yard. -/
  | biasCompliance (y : Nat)
  /-- BIAS_OPEN (R239): With OL_EN 1, an open load held for 10 µs puts the source in OPEN and reports it. Operands: `y` the yard. -/
  | biasOpen (y : Nat)
  /-- BIAS_LOAD_NORMAL (R240): After 10 µs without the condition, BIA_STS.LOAD returns to NORMAL. Operands: `y` the yard. -/
  | biasLoadNormal (y : Nat)
  /-- BIAS_LATCH_RELEASE (R242): A write of 1 to BIA_STS.LATCHED releases a latched source, which slews back to BIA_CODE. Operands: `y` the yard. -/
  | biasLatchRelease (y : Nat)
  /-- CNV_CFG_WRITE (R251): A write of CNV_CFG or CNV_CORR takes effect at the next ft boundary at the chiplet. Operands: `k` the ADC; `sel` which register; `v` the value. -/
  | cnvCfgWrite (k : Nat) (sel : Nat) (v : Nat)
  /-- SETTLING_END (R253): The count of UNSETTLED samples or words after a change runs out. Operands: `conv` the converter. -/
  | settlingEnd (conv : Nat)
  /-- CNV_ACQ_ARM (R258): A write of CNV_ACQ_CTL.ARM from 0 to 1 checks the start source and arms the channel. Operands: `y` the yard; `c` the read-out channel; `v` the value. -/
  | cnvAcqArm (y : Nat) (c : Nat) (v : Nat)
  /-- CNV_ACQ_DISARM (R259): A write that clears ARM stops further timer and trigger starts. Operands: `y` the yard; `c` the read-out channel; `v` the value. -/
  | cnvAcqDisarm (y : Nat) (c : Nat) (v : Nat)
  /-- ACQ_TIMER_START (R255): A hub event timer event opens a window on an armed channel. Operands: `y` the yard; `c` the read-out channel. -/
  | acqTimerStart (y : Nat) (c : Nat)
  /-- ACQ_TRIG_START (R255): A filtered TRIG edge opens a window on an armed channel. Operands: `y` the yard; `c` the read-out channel. -/
  | acqTrigStart (y : Nat) (c : Nat)
  /-- ACQ_WINDOW_END (R255): An acquisition window reaches its last sample and closes. Operands: `y` the yard; `c` the read-out channel; `xs` the samples. -/
  | acqWindowEnd (y : Nat) (c : Nat) (xs : List Samp)
  /-- MON_WORD_BOUNDARY (R265): At a monitor word boundary a word is delivered, and any change of input, rate or mode takes effect. Operands: `m` the monitor ADC; `code` the sample; `ovr` the sample was beyond full scale; `code1` the second sample; `ovr1` the same of the second sample. -/
  | monWordBoundary (m : Nat) (code : Nat) (ovr : Bool) (code1 : Nat) (ovr1 : Bool)
  /-- MON_SCAN_ENABLE (R267): A write of SCAN_EN from 0 to 1 checks and starts the scan. Operands: `m` the monitor ADC; `v` the value. -/
  | monScanEnable (m : Nat) (v : Nat)
  /-- MON_SCAN_DISABLE (R268): A write of SCAN_EN from 1 to 0 ends the scan at the next word boundary. Operands: `m` the monitor ADC; `v` the value. -/
  | monScanDisable (m : Nat) (v : Nat)
  /-- MON_INJ (R270): A write of MON_INJ makes an injected conversion request, or is refused. Operands: `m` the monitor ADC; `v` the value. -/
  | monInj (m : Nat) (v : Nat)
  /-- MON_XCHK_ENABLE (R277): A write of MON_XCHK.EN from 0 to 1 enables cross-checks of the pair, or is refused. Operands: `m` the monitor ADC; `v` the value. -/
  | monXchkEnable (m : Nat) (v : Nat)
  /-- MON_CAL_REQUEST (R278): Trim requests a monitor calibration, which starts at the next boundary or after one running injection. Operands: `m` the monitor ADC. -/
  | monCalRequest (m : Nat)
  /-- MON_CAL_END (R280): A monitor calibration ends at a word boundary, and waiting requests are served. Operands: `m` the monitor ADC. -/
  | monCalEnd (m : Nat)
  /-- RING_START (R283): A write of RING_CTL.EN from 0 to 1 checks the ring and starts it. Operands: `r` the converter; `v` the value. -/
  | ringStart (r : Nat) (v : Nat)
  /-- RING_STOP (R288): A write of RING_CTL.EN from 1 to 0 stops the ring after the record in progress. Operands: `r` the converter; `v` the value. -/
  | ringStop (r : Nat) (v : Nat)
  /-- RING_RP_WRITE (R285): A write of RING_RP advances the read pointer, or is refused. Operands: `r` the converter; `v` the value. -/
  | ringRpWrite (r : Nat) (v : Nat)
  /-- DEM_CTL_WRITE (R315): A write of DEM_CTL starts or stops a channel, or changes its filters while it is stopped. Operands: `y` the yard; `c` the read-out channel; `v` the value. -/
  | demCtlWrite (y : Nat) (c : Nat) (v : Nat)
  /-- DEM_SETTLING_END (R304): After N kernel samples a starting channel moves from SETTLING to RUNNING. Operands: `y` the yard; `c` the read-out channel. -/
  | demSettlingEnd (y : Nat) (c : Nat)
  /-- KERNEL_WEIGHT_WRITE (R309): A write of a kernel weight or DEM_KLEN takes effect on a bank not in use, or is discarded. Operands: `y` the yard; `c` the read-out channel; `b` the bank; `m` the weight, or 512 for the lengths; `v` the value. -/
  | kernelWeightWrite (y : Nat) (c : Nat) (b : Nat) (m : Nat) (v : Nat)
  /-- KERNEL_FADE_END (R312): The last fade step ends; the new bank is in force alone and any held request starts its own fade. Operands: `y` the yard; `c` the read-out channel. -/
  | kernelFadeEnd (y : Nat) (c : Nat)
  /-- CHECKPOINT_EVAL (R320): The score after kernel sample 16n − 1 is evaluated and may issue an early decision. Operands: `y` the yard; `c` the read-out channel; `xs` the samples. -/
  | checkpointEval (y : Nat) (c : Nat) (xs : List KIn)
  /-- FINAL_SCORE_EVAL (R322): The score with LAST gives the final decision or the result-record values, and the result record is written. Operands: `y` the yard; `c` the read-out channel; `xs` the samples. -/
  | finalScoreEval (y : Nat) (c : Nat) (xs : List KIn)
  /-- DSC_CFG_WRITE (R330): A write of DSC_CFG sets the mode and slot of a discriminator, or is refused. Operands: `y` the yard; `c` the read-out channel; `v` the value. -/
  | dscCfgWrite (y : Nat) (c : Nat) (v : Nat)
  /-- SHEET_ENTRY (R333): A decision enters the Sheet and is stamped with its release time. Operands: `y` the yard; `c` the read-out channel. -/
  | sheetEntry (y : Nat) (c : Nat)
  /-- SLOT_RELEASE (R333): At its release time a decision stands in its slot at every yard and at the decoder. Operands: `slot` the slot; `bad` the taps whose entry is found uncorrectable. -/
  | slotRelease (slot : Nat) (bad : List Nat)
  /-- FWD_COPY_ARRIVAL (R342): A forwarded copy arrives and is mapped into a local slot, or is discarded. Operands: `l` the link; `j` the source slot; `d` the decision or detector; `rel` the release time; `ecc` the map entry is found uncorrectable. -/
  | fwdCopyArrival (l : Nat) (j : Nat) (d : Nat) (rel : Nat) (ecc : Bool)
  /-- SHT_TAP_WRITE (R340): A write of SHT_TAP configures, enables or disables a parity tap, or is refused. Operands: `t` the tap; `v` the value. -/
  | shtTapWrite (t : Nat) (v : Nat)
  /-- SHT_IMAP_WRITE (R346): A write of SHT_IMAP maps a source slot of a link to a local slot, or is refused. Operands: `l` the link; `j` the source slot; `v` the value. -/
  | shtImapWrite (l : Nat) (j : Nat) (v : Nat)
  /-- DEC_ENABLE (R351): A write of DEC_EN.EN from 0 to 1 checks the context and graph and makes it READY. Operands: `x` the decoder context; `ecc` an uncorrectable error of the read. -/
  | decEnable (x : Nat) (ecc : Bool)
  /-- DEC_DISABLE (R352): A write of DEC_EN.EN from 1 to 0 turns the context OFF while its group is IDLE. Operands: `x` the decoder context. -/
  | decDisable (x : Nat)
  /-- DETECTOR_ARRIVAL (R355): A detector bit reaches the decoder and joins a round of its context, or is discarded. Operands: `d` the detector. -/
  | detectorArrival (d : Nat)
  /-- ROUND_CLOSE (R356): A round closes when it holds all its detectors, and the context decodes and commits its window. Operands: `x` the decoder context. -/
  | roundClose (x : Nat)
  /-- ROUND_DEADLINE (R356): A round closes at its opening plus RDL ft with missing detectors. Operands: `x` the decoder context. -/
  | roundDeadline (x : Nat)
  /-- ROUND_CLOCK_CLOSE (R357): With CLOSE 1, round r closes at its round-clock time C_r. Operands: `x` the decoder context. -/
  | roundClockClose (x : Nat)
  /-- DECODE_START (R363): The decode of round r starts at S_r with growth and merge. Operands: `x` the decoder context; `ecc` an uncorrectable error of the read. -/
  | decodeStart (x : Nat) (ecc : Bool)
  /-- BOUNDARY_PASS (R370): A growth or peel pass starts and sends one boundary message on each link. Operands: `x` the decoder context. -/
  | boundaryPass (x : Nat)
  /-- BOUNDARY_MSG_ARRIVAL (R371): A neighbour's boundary message is merged into the pass, or counts as missing. Operands: `x` the decoder context; `l` the link; `m` the message. -/
  | boundaryMsgArrival (x : Nat) (l : Nat) (m : Option BMsg)
  /-- FRAME_ITEM_SEND (R365): The committed corrections of a round are sent as frame items 10 ft before their release. Operands: `x` the decoder context. -/
  | frameItemSend (x : Nat)
  /-- LOGICAL_RECORD (R368): At F_r of a final round the context writes its logical record and DEC_OBS. Operands: `x` the decoder context. -/
  | logicalRecord (x : Nat)
  /-- DEC_FLUSH_COMPLETE (R366): The final decode has committed, and the context returns from FLUSH to READY. Operands: `x` the decoder context. -/
  | decFlushComplete (x : Nat)
  /-- WCH_RUN_START (R394): A write of WCH_CTL.RUN to 1 starts a core. Operands: `x` the core. -/
  | wchRunStart (x : Nat)
  /-- WCH_RUN_STOP (R394): A write of WCH_CTL.RUN to 0 moves a core to IDLE after its current work. Operands: `x` the core. -/
  | wchRunStop (x : Nat)
  /-- WCH_HALT_SET (R663): A write of WCH_CTL.HALT to 1 halts a core after its current instruction. Operands: `x` the core. -/
  | wchHaltSet (x : Nat)
  /-- WCH_HALT_CLEAR (R663): A write of WCH_CTL.HALT to 0 resumes a halted core. Operands: `x` the core. -/
  | wchHaltClear (x : Nat)
  /-- WCH_MODE_WRITE (R394): A write of WCH_CTL.MODE changes between SERVICE and USER in IDLE, or is refused. Operands: `x` the core; `m` MODE. -/
  | wchModeWrite (x : Nat) (m : Nat)
  /-- WCH_DOORBELL (R387): Host software sets IPEND.DOORBELL, which can raise a core interrupt. Operands: `x` the core. -/
  | wchDoorbell (x : Nat)
  /-- WCH_INTERRUPT_ENTRY (R387): A pending enabled interrupt is taken between instructions and the PC moves to WCH_IVEC. Operands: `x` the core. -/
  | wchInterruptEntry (x : Nat)
  /-- WCH_NOP (R376): Winch instruction NOP does nothing. Operands: `x` the core; `ecc` the kind of error, 0 for none. -/
  | wchNop (x : Nat) (ecc : Nat)
  /-- WCH_MOV (R376): Winch instruction MOV copies a data register. Operands: `x` the core. -/
  | wchMov (x : Nat)
  /-- WCH_MOVI (R376): Winch instruction MOVI loads a sign-extended immediate. Operands: `x` the core. -/
  | wchMovi (x : Nat)
  /-- WCH_MOVS (R376): Winch instruction MOVS shifts an immediate into a data register. Operands: `x` the core. -/
  | wchMovs (x : Nat)
  /-- WCH_ALU (R378): Winch instruction ALU operates on 48-bit or complex values. Operands: `x` the core. -/
  | wchAlu (x : Nat)
  /-- MAC (R379): Winch instruction MAC multiplies and accumulates. Operands: `x` the core. -/
  | mac (x : Nat)
  /-- MACP (R382): Winch instruction MACP multiplies and accumulates with an operand read through a pointer. Operands: `x` the core. -/
  | macp (x : Nat)
  /-- ACCX (R380): Winch instruction ACCX shifts, saturates and extracts an accumulator. Operands: `x` the core. -/
  | accx (x : Nat)
  /-- DIVS (R381): Winch instruction DIVS performs one restoring division step. Operands: `x` the core. -/
  | divs (x : Nat)
  /-- LD (R382): Winch instruction LD loads a word through a pointer with circular addressing. Operands: `x` the core. -/
  | ld (x : Nat)
  /-- ST (R382): Winch instruction ST stores a word through a pointer. Operands: `x` the core. -/
  | st (x : Nat)
  /-- MTS (R383): Winch instruction MTS writes a special register. Operands: `x` the core. -/
  | mts (x : Nat)
  /-- MFS (R376): Winch instruction MFS reads a special register into a data register. Operands: `x` the core. -/
  | mfs (x : Nat)
  /-- WCH_LOOP (R384): Winch instruction LOOP starts the hardware loop. Operands: `x` the core. -/
  | wchLoop (x : Nat)
  /-- WCH_BR (R385): Winch instruction BR branches on a condition. Operands: `x` the core. -/
  | wchBr (x : Nat)
  /-- JL (R385): Winch instruction JL jumps and links. Operands: `x` the core. -/
  | jl (x : Nat)
  /-- JR (R385): Winch instruction JR jumps to a register address. Operands: `x` the core. -/
  | jr (x : Nat)
  /-- GETT (R36): Winch instruction GETT reads TB1 from the hub. Operands: `x` the core. -/
  | gett (x : Nat)
  /-- EMIT (R389): Winch instruction EMIT sends a stamped register write to a yard, or refuses it. Operands: `x` the core. -/
  | emit (x : Nat)
  /-- XFER (R391): Winch instruction XFER checks a descriptor and starts a transfer. Operands: `x` the core. -/
  | xfer (x : Nat)
  /-- XFER_COMPLETE (R391): A transfer completes or is refused, writes STS and sets XFER_DONE. Operands: `x` the core; `i` the transfer, by its place among those outstanding. -/
  | xferComplete (x : Nat) (i : Nat)
  /-- WCH_FENCE (R392): Winch instruction FENCE stalls until earlier transfers and items are done. Operands: `x` the core. -/
  | wchFence (x : Nat)
  /-- WAITI (R387): Winch instruction WAITI waits for an enabled pending interrupt. Operands: `x` the core. -/
  | waiti (x : Nat)
  /-- RETI (R387): Winch instruction RETI returns from an interrupt. Operands: `x` the core. -/
  | reti (x : Nat)
  /-- HALT (R394): Winch instruction HALT enters HALTED. Operands: `x` the core. -/
  | halt (x : Nat)
  /-- SVC_RES_SPEC (R398): A RES_SPEC service request is checked and sweeps probe frequency on a held yard. Operands: `x` the core; `ws` the 64-bit words of the entry. -/
  | svcResSpec (x : Nat) (ws : List Nat)
  /-- SVC_RABI (R398): A RABI service request sweeps drive amplitude on a held yard. Operands: `x` the core; `ws` the 64-bit words of the entry. -/
  | svcRabi (x : Nat) (ws : List Nat)
  /-- SVC_RAMSEY (R398): A RAMSEY service request sweeps delay on a held yard. Operands: `x` the core; `ws` the 64-bit words of the entry. -/
  | svcRamsey (x : Nat) (ws : List Nat)
  /-- SVC_DRAG (R398): A DRAG service request sweeps BETA on a held yard. Operands: `x` the core; `ws` the 64-bit words of the entry. -/
  | svcDrag (x : Nat) (ws : List Nat)
  /-- SVC_KTRAIN (R398): A KTRAIN service request trains a kernel and discriminator on a held yard. Operands: `x` the core; `ws` the 64-bit words of the entry. -/
  | svcKtrain (x : Nat) (ws : List Nat)
  /-- SVC_FLUXID (R398): A FLUXID service request identifies flux distortion on a held yard. Operands: `x` the core; `ws` the 64-bit words of the entry. -/
  | svcFluxid (x : Nat) (ws : List Nat)
  /-- SVC_STATS (R401): A STATS service request counts the decisions of a yard's result records. Operands: `x` the core; `ws` the 64-bit words of the entry. -/
  | svcStats (x : Nat) (ws : List Nat)
  /-- SVC_HIST (R401): A HIST service request histograms margins from a yard's result records. Operands: `x` the core; `ws` the 64-bit words of the entry. -/
  | svcHist (x : Nat) (ws : List Nat)
  /-- SVC_MONINJ (R401): A MONINJ service request makes an injected monitor conversion. Operands: `x` the core; `ws` the 64-bit words of the entry. -/
  | svcMoninj (x : Nat) (ws : List Nat)
  /-- SVC_COMPLETE (R400): A service finishes, applies its fit if asked, releases the hold and writes its completion entry. Operands: `x` the core; `conv` the fit converged; `shots` the shots run; `out` the bytes of the outcome; `summary` SUMMARY; `writes` the APPLY writes. -/
  | svcComplete (x : Nat) (conv : Bool) (shots : Nat) (out : List (BitVec 8)) (summary : List Nat) (writes : List (Nat × Nat × Bool))
  /-- CNS_ARM (R413): A write of CNS_CTL.ARM to 1 checks and arms a capture channel. Operands: `c` the capture channel; `v` the value. -/
  | cnsArm (c : Nat) (v : Nat)
  /-- CNS_DISARM (R419): Clearing ARM ends the channel, closing an open record with ABORTED. Operands: `c` the capture channel; `v` the value. -/
  | cnsDisarm (c : Nat) (v : Nat)
  /-- CNS_FORCE (R409): A write of CNS_FORCE triggers the channel. Operands: `c` the capture channel. -/
  | cnsForce (c : Nat)
  /-- CNS_TRIGGER (R410): A LEVEL, CHAN, TRIG, timer or FORCE trigger reaches the channel and is accepted or ignored. Operands: `c` the capture channel; `src` the source in the encoding of CNS_TRIG.SRC, 7 for a FORCE; `inst` the trigger instant in TB1, for LEVEL the reference instant of the first of `xs`; `xs` the samples of the compared component. -/
  | cnsTrigger (c : Nat) (src : Nat) (inst : Nat) (xs : List Int)
  /-- CNS_RECORD_END (R414): A record's last output is written, the header goes last, and the channel is DONE or in hold-off. Operands: `c` the capture channel; `xs` the samples; `drops` the dropped samples; `uns` the samples carry UNSETTLED. -/
  | cnsRecordEnd (c : Nat) (xs : List Nat) (drops : List Nat) (uns : Bool)
  /-- CNS_HOLDOFF_END (R417): The hold-off ends and the channel returns to FILLING. Operands: `c` the capture channel. -/
  | cnsHoldoffEnd (c : Nat)
  /-- CNS_CHUNK_WRITE (R421): A stream chunk of one page is written to the ring, or its outputs are dropped. Operands: `c` the capture channel; `xs` the samples; `drops` the dropped samples; `uns` the samples carry UNSETTLED. -/
  | cnsChunkWrite (c : Nat) (xs : List Nat) (drops : Nat) (uns : Bool)
  /-- CNS_RP_WRITE (R422): A write of CNS_RP advances the stream reader, or is refused. Operands: `c` the capture channel; `v` the value. -/
  | cnsRpWrite (c : Nat) (v : Nat)
  /-- FRL_START (R430): FRL_CTL START checks and begins a compression job in a context. Operands: `e` the engine; `v` the value. -/
  | frlStart (e : Nat) (v : Nat)
  /-- FRL_RESUME (R430): FRL_CTL RESUME continues a suspended stream. Operands: `e` the engine; `v` the value. -/
  | frlResume (e : Nat) (v : Nat)
  /-- FRL_ABORT (R432): FRL_CTL ABORT ends the running job at the next symbol. Operands: `e` the engine. -/
  | frlAbort (e : Nat)
  /-- FRL_CLEAR (R430): FRL_CTL CLEAR returns a context to EMPTY. Operands: `e` the engine; `x` the context. -/
  | frlClear (e : Nat) (x : Nat)
  /-- FRL_BLOCK_END (R426): A DEFLATE block is closed after 16,384 input bytes, verified, and emitted. Operands: `e` the engine; `hdr` the bits of the block header; `syms` the bits of the symbols; `miss` a symbol overran the block; `ok` the input was read without error; `ecc` the kind of error, 0 for none. -/
  | frlBlockEnd (e : Nat) (hdr : List Bool) (syms : List (List Bool)) (miss : Bool) (ok : Bool) (ecc : Nat)
  /-- FRL_OUT_FULL (R428): The destination cannot take the next symbol, so the job suspends with E_FRL_OUT_FULL. Operands: `e` the engine. -/
  | frlOutFull (e : Nat)
  /-- FRL_JOB_END (R427): A job ends at the end of its input, and FRL_STS is written last. Operands: `e` the engine. -/
  | frlJobEnd (e : Nat)
  /-- TB1_START (R436): STAY_CMD TB1_START starts TB1 1 µs after it takes effect. -/
  | tb1Start
  /-- TB1_ARM_SYNC (R437): STAY_CMD TB1_ARM_SYNC makes the next SYNCIN edge start TB1. -/
  | tb1ArmSync
  /-- TB1_STOP (R436): STAY_CMD TB1_STOP stops TB1 when every group is IDLE. -/
  | tb1Stop
  /-- TB1_ZERO (R437): TB1 reaches 0 and becomes RUNNING. -/
  | tb1Zero
  /-- SKEWCAL (R439): STAY_CMD SKEWCAL starts measuring 256 SYNCIN edges. -/
  | skewcal
  /-- SKEWCAL_COMPLETE (R439): The 256 edges are measured and the sample clock is shifted, or the calibration times out. -/
  | skewcalComplete
  /-- SYNCIN_EDGE (R441): A SYNCIN edge is measured, starts TB1 if armed, or tests drift. Operands: `frac` the place of the edge in the st, in 1/128 st. -/
  | syncinEdge (frac : Nat)
  /-- STAY_STEP (R452): STAY_CMD STEP steps TB0, or is refused above STAY_JUMP_THR. -/
  | stayStep
  /-- STAY_SET (R452): STAY_CMD SET sets TB0 under SRC = FREE, or is refused. -/
  | staySet
  /-- ACCEPT_ASYM (R449): STAY_CMD ACCEPT_ASYM takes the new path delay as reference and leaves ASYM_HOLD. -/
  | acceptAsym
  /-- RELOCK (R453): STAY_CMD RELOCK returns the servo to FREERUN with the first lock allowed again. -/
  | relock
  /-- STAY_SNAP (R433): A write of STAY_SNAP captures every time base at one st. -/
  | staySnap
  /-- STAY_SRC_WRITE (R450): A write of STAY_CTL.SRC changes the time source and moves a locked servo to HOLDOVER. Operands: `src` the source. -/
  | staySrcWrite (src : Nat)
  /-- PTP_SYNC_RX (R444): A PTP Sync message is received and timestamped. Operands: `ds` the nanosecond and second fields received; `t1` t1; `corr` the correction; `t2` t2. -/
  | ptpSyncRx (ds : List Nat) (t1 : Option Int) (corr : Int) (t2 : Int)
  /-- PTP_FOLLOW_UP_RX (R444): A PTP Follow_Up carries t1 of a two-step Sync. Operands: `ds` the nanosecond and second fields received; `t1` t1; `corr` the correction. -/
  | ptpFollowUpRx (ds : List Nat) (t1 : Int) (corr : Int)
  /-- PTP_DELAY_REQ_TX (R444): The device sends a Delay_Req at the master's interval and timestamps it. Operands: `t3` t3. -/
  | ptpDelayReqTx (t3 : Int)
  /-- PTP_DELAY_RESP_RX (R445): A Delay_Resp completes an exchange, which the servo accepts or excludes. Operands: `ds` the nanosecond and second fields received; `t4` t4; `corr` the correction. -/
  | ptpDelayRespRx (ds : List Nat) (t4 : Int) (corr : Int)
  /-- PTP_ANNOUNCE_RX (R446): An Announce message enters master selection under the default BMCA. Operands: `domain` the domain number; `ds` the nanosecond and second fields received; `k` the message interval exponent, biased. -/
  | ptpAnnounceRx (domain : Nat) (ds : List Nat) (k : Nat)
  /-- TPORT_OTHER_FRAME (R443): A TPORT frame outside Table 14-4 is dropped. -/
  | tportOtherFrame
  /-- ANNOUNCE_TIMEOUT (R450): No Announce within ANN_TMO intervals moves the servo to HOLDOVER. -/
  | announceTimeout
  /-- TBN_SET_AT_WRITE (R442): A write of STAY_TBN_SET_AT schedules a SET of a user time base. Operands: `n` the time base; `v` the value. -/
  | tbnSetAtWrite (n : Nat) (v : Nat)
  /-- TBN_SET_APPLY (R442): A user time base takes its SET values at the scheduled ft boundary. Operands: `n` the time base. -/
  | tbnSetApply (n : Nat)
  /-- LINK_TIME_TX (R454): Every 1 ms a time message is sent on each link that is up. Operands: `l` the link. -/
  | linkTimeTx (l : Nat)
  /-- LINK_TIME_RX (R456): A neighbour's time message updates the link offset and delay, and may steer TB0. Operands: `l` the link. -/
  | linkTimeRx (l : Nat)
  /-- TIMER_ARM (R458): A write of STAY_TMR_CTL.EN from 0 to 1 checks and arms an event timer. Operands: `t` the timer; `v` the value. -/
  | timerArm (t : Nat) (v : Nat)
  /-- TIMER_FIX (R457): A TB0 or TBn timer fixes its event time E within 1 µs of its compare. Operands: `t` the timer. -/
  | timerFix (t : Nat)
  /-- TIMER_FIRE (R459): At E − 16 ft the timer sends its EVENT, GROUP_START or MON_INJ action. Operands: `t` the timer. -/
  | timerFire (t : Nat)
  /-- SYNCOUT_OFF (R438): STAY_SYNCOUT MODE OFF holds the pin low. -/
  | syncoutOff
  /-- SYNCOUT_PULSE (R438): STAY_SYNCOUT MODE PULSE emits one pulse. -/
  | syncoutPulse
  /-- SYNCOUT_BURST (R438): STAY_SYNCOUT MODE BURST emits 256 pulses at 1 µs. -/
  | syncoutBurst
  /-- SYNCOUT_TIMER (R438): STAY_SYNCOUT MODE TIMER emits one pulse at a timer's event time. Operands: `tsel` the timer. -/
  | syncoutTimer (tsel : Nat)
  /-- OZL_ENABLE (R477): A write of OZL_CTL.EN enables or disables a link. Operands: `l` the link; `en` EN; `maxrate` MAXRATE. -/
  | ozlEnable (l : Nat) (en : Bool) (maxrate : Nat)
  /-- OZL_RETRAIN (R477): OZL_CTL RETRAIN takes the link to DETECT. Operands: `l` the link. -/
  | ozlRetrain (l : Nat)
  /-- TRAIN_BLOCK_RX (R464): A TRAIN control block is received and drives detection, equalisation and lane order. Operands: `l` the link; `i` the lane; `b` the block; `inv` the polarity is inverted. -/
  | trainBlockRx (l : Nat) (i : Nat) (b : Nat) (inv : Bool)
  /-- TRAIN_PHASE_DONE (R478): A training phase completes and training moves on, to the next rate, or ends. Operands: `l` the link. -/
  | trainPhaseDone (l : Nat)
  /-- TRAIN_RATE_TIMEOUT (R478): A rate whose phases do not complete in 2 ms ends training as R478 states. Operands: `l` the link; `failed` the lanes whose phase failed. -/
  | trainRateTimeout (l : Nat) (failed : Nat)
  /-- OZL_DETECT_RETRY (R478): After 100 ms a failed link or lane tries training again. Operands: `l` the link; `i` the lane. -/
  | ozlDetectRetry (l : Nat) (i : Nat)
  /-- AM_RX (R466): An alignment marker is received and checks BIP-8 and lane alignment. Operands: `l` the link; `i` the lane; `b` the block; `bip` BIP-8 of the receiver; `inRange` the lane is within the deskew range. -/
  | amRx (l : Nat) (i : Nat) (b : Nat) (bip : Nat) (inRange : Bool)
  /-- RS_RX (R480): A re-stripe block switches the receiver to a new lane map. Operands: `l` the link; `b` the block. -/
  | rsRx (l : Nat) (b : Nat)
  /-- LANE_LOST (R480): A receiving lane is lost, so E_OZL_LANE_LOST is reported and LANE_DOWN is sent. Operands: `l` the link; `i` the lane. -/
  | laneLost (l : Nat) (i : Nat)
  /-- DATA_FLIT_RX (R469): A DATA flit is accepted in sequence, or triggers one NAK. Operands: `l` the link; `v` the flit. -/
  | dataFlitRx (l : Nat) (v : Nat)
  /-- NAK_RX (R469): A NAK makes the transmitter resend every flit after ACK. Operands: `l` the link; `v` the flit. -/
  | nakRx (l : Nat) (v : Nat)
  /-- IDLE_FLIT_RX (R472): An IDLE flit delivers its ACK and credits. Operands: `l` the link; `v` the flit. -/
  | idleFlitRx (l : Nat) (v : Nat)
  /-- TIME_FLIT_RX (R468): A TIME flit delivers a timestamp exchange. Operands: `l` the link; `v` the flit; `arr` the arrival in eighths of an st. -/
  | timeFlitRx (l : Nat) (v : Nat) (arr : Nat)
  /-- TIME_TB0_FLIT_RX (R468): A TIME_TB0 flit completes the TB0 value of a TIME flit. Operands: `l` the link; `v` the flit. -/
  | timeTb0FlitRx (l : Nat) (v : Nat)
  /-- LANE_DOWN_RX (R480): LINKCTL LANE_DOWN makes the transmitter re-stripe onto three lanes. Operands: `l` the link; `v` the flit. -/
  | laneDownRx (l : Nat) (v : Nat)
  /-- LANE_READY_RX (R481): LINKCTL LANE_READY makes the transmitter re-stripe onto four lanes. Operands: `l` the link; `v` the flit. -/
  | laneReadyRx (l : Nat) (v : Nat)
  /-- LS_ENTER_RX (R482): LINKCTL LS_ENTER asks to enter LS1 or LS2. Operands: `l` the link; `v` the flit. -/
  | lsEnterRx (l : Nat) (v : Nat)
  /-- LS_ACK_RX (R482): LINKCTL LS_ACK lets the transmitter stop sending. Operands: `l` the link; `v` the flit. -/
  | lsAckRx (l : Nat) (v : Nat)
  /-- ACK_TIMEOUT (R470): No ACK advance for 2 µs resends from the oldest flit, and the eighth resend enters RECOVERY. Operands: `l` the link. -/
  | ackTimeout (l : Nat)
  /-- RECOVERY_TIMEOUT (R478): RECOVERY that does not end in 2 ms retrains from rate 0. Operands: `l` the link. -/
  | recoveryTimeout (l : Nat)
  /-- TRACE_CREDIT_TIMEOUT (R473): A TRACE flit that waits for credit for 10 µs is dropped. Operands: `l` the link. -/
  | traceCreditTimeout (l : Nat)
  /-- FB_QUEUE_STALE (R475): An FB item still queued 32 ft after entry is discarded. Operands: `l` the link. -/
  | fbQueueStale (l : Nat)
  /-- LANE_RETRAIN_DONE (R481): A lost or parked lane finishes retraining and the receiver sends LANE_READY. Operands: `l` the link; `i` the lane. -/
  | laneRetrainDone (l : Nat) (i : Nat)
  /-- OZL_PM_REQUEST (R483): A write of OZL_PM.TX_LS requests LS0, LS1 or LS2, or is refused. Operands: `l` the link; `ls` the power state. -/
  | ozlPmRequest (l : Nat) (ls : Nat)
  /-- LS_AUTO_IDLE (R482): With AUTO, a direction enters LS1 after IDLE_FT ft without DATA. Operands: `l` the link. -/
  | lsAutoIdle (l : Nat)
  /-- LS_EXIT_COMPLETE (R482): An LS1 or LS2 exit completes and waiting DATA is sent. Operands: `l` the link. -/
  | lsExitComplete (l : Nat)
  /-- OZL_PARK (R485): A write of OZL_LCFG.PARK removes a lane from service or starts its retraining. Operands: `l` the link; `i` the lane; `on` parked. -/
  | ozlPark (l : Nat) (i : Nat) (on : Bool)
  /-- OZL_PRBS_CTL (R484): A write of GEN or CHK starts PRBS on an idle lane, or is refused. Operands: `l` the link; `i` the lane; `v` the value. -/
  | ozlPrbsCtl (l : Nat) (i : Nat) (v : Nat)
  /-- OZL_PRBS_INJ (R484): A write of OZL_LCFG.INJ inverts one bit of the PRBS stream. Operands: `l` the link; `i` the lane. -/
  | ozlPrbsInj (l : Nat) (i : Nat)
  /-- OZL_LOOPBACK (R486): A write of OZL_TEST.LB selects loopback while EN is 0, or is refused. Operands: `l` the link; `lb` the loopback. -/
  | ozlLoopback (l : Nat) (lb : Nat)
  /-- OZL_FLIT_INJ (R487): A write of OZL_INJ.FLIT corrupts the CRC of the next DATA flit. Operands: `l` the link. -/
  | ozlFlitInj (l : Nat)
  /-- QUEUE_DOORBELL (R499): A BAR4 queue doorbell moves a producer or consumer index, or is discarded. Operands: `q` the queue; `n` the bytes of the write; `v` the value. -/
  | queueDoorbell (q : Nat) (n : Nat) (v : Nat)
  /-- QM_FENCE_DOORBELL (R510): A QM_FENCE doorbell takes effect at F for a RESULT queue. Operands: `q` the queue; `n` the bytes of the write; `v` the value. -/
  | qmFenceDoorbell (q : Nat) (n : Nat) (v : Nat)
  /-- FENCE_RECORD_PLACE (R510): Within 2 µs of F the queue manager places a FENCE record. Operands: `q` the queue. -/
  | fenceRecordPlace (q : Nat)
  /-- QM_QIDX_WRITE (R497): A write of QM_QIDX loads a queue's descriptor and indices into the staging registers. Operands: `v` the value. -/
  | qmQidxWrite (v : Nat)
  /-- QM_WRITE (R497): QM_QCMD WRITE stores QM_QD into an OFF queue's descriptor. -/
  | qmWrite
  /-- QM_ENABLE (R497): QM_QCMD ENABLE checks the descriptor and makes the queue ACTIVE. -/
  | qmEnable
  /-- QM_DISABLE (R497): QM_QCMD DISABLE moves the queue to DRAINING, or a halted queue to OFF. -/
  | qmDisable
  /-- QM_RESUME (R497): QM_QCMD RESUME restarts a halted queue at the next entry. -/
  | qmResume
  /-- QUEUE_DRAINED (R497): A DRAINING queue whose fetched work or spill is done moves to OFF. Operands: `q` the queue. -/
  | queueDrained (q : Nat)
  /-- DESC_FETCH (R500): A fetched DMA descriptor is armed and checked before data moves. Operands: `q` the queue; `ws` the 64-bit words of the entry; `ecc` the descriptor store of the queue is found uncorrectable. -/
  | descFetch (q : Nat) (ws : List Nat) (ecc : Bool)
  /-- DMA_COPY (R500): Descriptor COPY moves LEN bytes between endpoints. Operands: `q` the queue; `i` the index of the descriptor; `bs` the bytes that arrive. -/
  | dmaCopy (q : Nat) (i : Nat) (bs : List (BitVec 8))
  /-- DMA_FENCE (R503): Descriptor FENCE completes when earlier descriptors' writes are visible. Operands: `q` the queue; `i` the index of the descriptor. -/
  | dmaFence (q : Nat) (i : Nat)
  /-- DMA_RQCOPY (R504): Descriptor RQCOPY empties a converter ring in bursts. Operands: `q` the queue; `i` the index of the descriptor. -/
  | dmaRqcopy (q : Nat) (i : Nat)
  /-- RQCOPY_BURST (R504): With RQ asserted, one burst moves and advances RP. Operands: `q` the queue; `i` the index of the descriptor. -/
  | rqcopyBurst (q : Nat) (i : Nat)
  /-- DESC_COMPLETE (R505): A descriptor ends, writing CODE and MOVED, then DONE last. Operands: `q` the queue; `i` the index of the descriptor. -/
  | descComplete (q : Nat) (i : Nat)
  /-- DMA_READ_FAIL (R506): A failed host read ends the descriptor, or halts the queue, with E_DMA_PCIE. Operands: `q` the queue; `i` the index of the descriptor. -/
  | dmaReadFail (q : Nat) (i : Nat)
  /-- RESULT_ENTRY (R509): A result item takes a ring slot, spills, or is dropped with LOST. Operands: `prod` the queue. -/
  | resultEntry (prod : Nat)
  /-- IRQ_TIMER (R512): ITIME passes since the first entry without an interrupt, so the MSI-X vector fires. Operands: `q` the queue. -/
  | irqTimer (q : Nat)
  /-- QM_YQID_WRITE (R511): A write of QM_YQID names the yard's result queue, or is refused. Operands: `y` the yard; `v` the value. -/
  | qmYqidWrite (y : Nat) (v : Nat)
  /-- POSTED_HDR_RX (R513): A peer checks a POSTED or TRACE transfer header and accepts it or returns NACK. Operands: `l` the link; `cls` the class; `p` the payload; `part` the partition of the sender's queue. -/
  | postedHdrRx (l : Nat) (cls : Nat) (p : Nat) (part : Nat)
  /-- POSTED_DATA_RX (R513): A peer writes the data flit of a transfer and returns credit. Operands: `l` the link; `cls` the class; `p` the payload. -/
  | postedDataRx (l : Nat) (cls : Nat) (p : Nat)
  /-- POSTED_NACK_RX (R513): A NACK ends the sender's descriptor with the carried code. Operands: `l` the link; `p` the payload. -/
  | postedNackRx (l : Nat) (p : Nat)
  /-- RESULT_FLIT_RX (R508): A remote RESULT entry arrives over a link for a local queue. Operands: `l` the link; `p` the payload. -/
  | resultFlitRx (l : Nat) (p : Nat)
  /-- PCIE_RESET (R618): A PCIe reset resets the link and config space and halts active submit and request queues. -/
  | pcieReset
  /-- SPDM_GET_VERSION (R518): SPDM GET_VERSION returns the supported version. -/
  | spdmGetVersion
  /-- SPDM_GET_CAPABILITIES (R518): SPDM GET_CAPABILITIES returns the capabilities of Table 17-2. -/
  | spdmGetCapabilities
  /-- SPDM_NEGOTIATE_ALGORITHMS (R518): SPDM NEGOTIATE_ALGORITHMS selects P-384 and SHA-384. Operands: `p384` P-384 is offered; `sha384` SHA-384 is offered. -/
  | spdmNegotiateAlgorithms (p384 : Bool) (sha384 : Bool)
  /-- SPDM_GET_DIGESTS (R518): SPDM GET_DIGESTS returns certificate chain digests. -/
  | spdmGetDigests
  /-- SPDM_GET_CERTIFICATE (R516): SPDM GET_CERTIFICATE returns the device certificate chain. Operands: `slot` the slot; `off` the offset; `len` the length. -/
  | spdmGetCertificate (slot : Nat) (off : Nat) (len : Nat)
  /-- SPDM_CHALLENGE (R515): SPDM CHALLENGE is answered with an IDK signature. Operands: `slot` the slot; `nonce` the nonce. -/
  | spdmChallenge (slot : Nat) (nonce : List (BitVec 8))
  /-- SPDM_GET_MEASUREMENTS (R519): SPDM GET_MEASUREMENTS returns the current signed measurements. Operands: `index` the index; `nonce` the nonce. -/
  | spdmGetMeasurements (index : Nat) (nonce : List (BitVec 8))
  /-- SPDM_UNSUPPORTED (R518): Any other SPDM request is answered with ERROR UnsupportedRequest. -/
  | spdmUnsupported
  /-- SHR_SEAL (R527): SHR_PCMD SEAL checks the conditions and starts sealing a partition. Operands: `p` the partition. -/
  | shrSeal (p : Nat)
  /-- SEAL_COMPLETE (R527): Sealing ends and the partition becomes SEALED with its statement formed. Operands: `p` the partition. -/
  | sealComplete (p : Nat)
  /-- SHR_STATEMENT (R530): SHR_PCMD STATEMENT forms a new signed partition statement. Operands: `p` the partition. -/
  | shrStatement (p : Nat)
  /-- SHR_KEY_IMPORT (R531): SHR_PCMD KEY_IMPORT unwraps the transport key and enters KEYED. Operands: `p` the partition; `blob` the blob. -/
  | shrKeyImport (p : Nat) (blob : List (BitVec 8))
  /-- SHR_IMPORT (R532): SHR_PCMD IMPORT decrypts an import blob into a partition destination. Operands: `p` the partition; `blob` the blob. -/
  | shrImport (p : Nat) (blob : List (BitVec 8))
  /-- SHR_EXPORT (R534): SHR_PCMD EXPORT writes a signed encrypted segment of results. Operands: `p` the partition. -/
  | shrExport (p : Nat)
  /-- SHR_RELEASE (R536): SHR_PCMD RELEASE checks a release token and starts zeroising the partition. Operands: `p` the partition; `blob` the blob. -/
  | shrRelease (p : Nat) (blob : List (BitVec 8))
  /-- ZEROISE_COMPLETE (R538): Zeroisation ends and the partition becomes OPEN or ABSENT. Operands: `p` the partition. -/
  | zeroiseComplete (p : Nat)
  /-- DBG_REQ (R540): SHR_DBG_CTL REQ places a fresh debug challenge, or is refused. -/
  | dbgReq
  /-- DBG_SUBMIT (R540): SHR_DBG_CTL SUBMIT checks the response and unlocks debug, or counts a failure. Operands: `level` LEVEL. -/
  | dbgSubmit (level : Nat)
  /-- DBG_LOCK (R658): SHR_DBG_CTL LOCK ends the unlock, and Ratline releases the lost scope. -/
  | dbgLock
  /-- DBG_SCRAP (R545): SHR_DBG_CTL SCRAP with a valid response scraps the part at the next reset. Operands: `level` LEVEL. -/
  | dbgScrap (level : Nat)
  /-- TRIM_FG (R550): TRIM_CMD FG starts a foreground calibration of one converter. Operands: `i` the converter. -/
  | trimFg (i : Nat)
  /-- TRIM_BG_NOW (R553): TRIM_CMD BG_NOW runs one background step on one converter. Operands: `i` the converter. -/
  | trimBgNow (i : Nat)
  /-- TRIM_FG_END (R552): A single foreground calibration ends and applies its result, or marks FAILED. Operands: `i` the converter; `bad` the elements outside their range. -/
  | trimFgEnd (i : Nat) (bad : List Nat)
  /-- CAL_COMPLETE (R548): Foreground calibration of every converter ends, and the device enters READY. Operands: `bad` the elements outside their range. -/
  | calComplete (bad : List (Nat × List Nat))
  /-- TRIM_BG_RUN (R553): Every BG_PER ms Trim starts a background run over the enabled classes. -/
  | trimBgRun
  /-- TRIM_BG_STEP_END (R553): A background step ends and stages a correction or swap, or retires an element. Operands: `i` the converter; `ok` the input was read without error. -/
  | trimBgStepEnd (i : Nat) (ok : Bool)
  /-- TRIM_APPLY (R554): A staged correction applies at the first boundary where no user is inside an attempt. Operands: `i` the converter. -/
  | trimApply (i : Nat)
  /-- REEF_SENSOR_CONVERSION (R562): Every 100 µs each sensor converts and is tested for failure and overtemperature. Operands: `i` the sensor; `v` the conversion. -/
  | reefSensorConversion (i : Nat) (v : Int)
  /-- TLEVEL_CHANGE (R566): The thermal level rises or falls by one, and shed actions follow the effective level. -/
  | tlevelChange
  /-- PLEVEL_CHANGE (R567): The power level rises or falls by one against REEF_PLIM. -/
  | plevelChange
  /-- REEF_RAIL_SAMPLE (R578): Every 100 µs the rails are sampled and the power means updated. Operands: `vs` voltage and current of each rail. -/
  | reefRailSample (vs : List (Nat × Nat))
  /-- REEF_PLIM_WRITE (R579): A write of REEF_PLIM sets the power limit, or is refused. Operands: `v` the value. -/
  | reefPlimWrite (v : Nat)
  /-- SENS_RETEST (R565): REEF_CMD SENS_RETEST self-tests a sensor and may make it valid again. Operands: `i` the sensor; `pass` the sensor passed; `xs` the samples. -/
  | sensRetest (i : Nat) (pass : Bool) (xs : List Int)
  /-- ANALOG_TRIP (R575): A sensor at 115 °C asserts THERMTRIP_N and holds the device in reset, OFF. -/
  | analogTrip
  /-- TRIP_RESTART (R576): After 1 s below 85 °C the always-on domain releases reset after a trip. -/
  | tripRestart
  /-- FAULT_REPORT (R582): A report reaches the fault manager and is logged in one class, or repeats an entry. -/
  | faultReport
  /-- FLT_DISCARD (R585): FLT_CMD DISCARD sets the read index to the write index. -/
  | fltDiscard
  /-- FLT_LOG_RP_WRITE (R585): A write of FLT_LOG_RP advances the log read index, or is refused. Operands: `v` the value. -/
  | fltLogRpWrite (v : Nat)
  /-- FLT_MARK (R595): A write of FLT_MARK stages a mark on a group's attempt, or is refused. Operands: `g` the group. -/
  | fltMark (g : Nat)
  /-- FLT_MARK_RELEASE (R595): At its release the pending mark marks the attempt in progress, or is dropped. Operands: `g` the group. -/
  | fltMarkRelease (g : Nat)
  /-- FLT_TRIG_CFG_WRITE (R590): A write of FLT_TRIG_CFG sets a TRIG filter and external fault input, or is refused. Operands: `i` the TRIG input; `v` the value. -/
  | fltTrigCfgWrite (i : Nat) (v : Nat)
  /-- TRIG_LEVEL_CHANGE (R587): A level change on a TRIG input starts the glitch filter. Operands: `i` the TRIG input; `up` the new level is high. -/
  | trigLevelChange (i : Nat) (up : Bool)
  /-- TRIG_EDGE_ACCEPT (R587): A level held for FILT ft becomes an edge, otherwise it counts as a glitch. Operands: `i` the TRIG input. -/
  | trigEdgeAccept (i : Nat)
  /-- TRIG_EDGE_DELIVERY (R588): An accepted edge reaches every consumer at E + 48 ft and may mark an attempt. Operands: `i` the TRIG input. -/
  | trigEdgeDelivery (i : Nat)
  /-- POWER_GOOD (R607): Every rail has stayed above its threshold for 10 ms, power-good is asserted and straps are sampled. Operands: `straps` the straps sampled. -/
  | powerGood (straps : Nat)
  /-- RAIL_LOSS (R608): A rail below its falling threshold for 2 µs removes power-good, and the device goes OFF. -/
  | railLoss
  /-- AUX_LOSS (R609): VDD_AUX below its threshold resets the always-on domain. -/
  | auxLoss
  /-- REFCLK_LOSS (R611): REFCLK shows no edge for 100 ns and is taken as lost. -/
  | refclkLoss
  /-- SYNTH_LOSS_OF_LOCK (R612): The synthesiser loses lock; islands move to fallback, TB1 stops and the device enters SAFE. -/
  | synthLossOfLock
  /-- SYNTH_RELOCK_TRY (R614): In SAFE the synthesiser tries to relock every 5 ms. Operands: `locks` it locks. -/
  | synthRelockTry (locks : Bool)
  /-- SYNTH_LOCK_HELD (R614): Lock held for 10 ms clears E_FLT_SYNTH_LOCK and returns the islands to the synthesiser. -/
  | synthLockHeld
  /-- RESET_N_ASSERT (R616): RESET_N or a device-reset PERST_N goes low and causes a device reset. Operands: `perst` it is PERST_N. -/
  | resetNAssert (perst : Bool)
  /-- RESET_RELEASE (R616): Device reset is released at the latest of its four conditions, and BOOT begins. -/
  | resetRelease
  /-- GLB_RESET (R617): A keyed write of GLB_RESET causes a device reset 1 µs later. Operands: `v` the value. -/
  | glbReset (v : Nat)
  /-- BOOT_STAGE_COMPLETE (R622): A boot stage completes and the next begins, or the failure ends BOOT in SAFE. Operands: `r` what the stage found; `a` copy A of the boot image; `b` copy B; `okr` the owner key records; `fw` the firmware. -/
  | bootStageComplete (r : StageFound) (a : List (BitVec 8)) (b : List (BitVec 8)) (okr : List (BitVec 8)) (fw : List (BitVec 8))
  /-- AUX_PLL_RETRY (R621): Without REFCLK, the auxiliary PLL retries lock every 5 ms in CLOCKS. Operands: `locks` it locks. -/
  | auxPllRetry (locks : Bool)
  /-- SMB_BOOT_STS_LOW (R629): SMBus command 0x00 returns GLB_BOOT_STS[15:0]. -/
  | smbBootStsLow
  /-- SMB_BOOT_STS_HIGH (R629): SMBus command 0x01 returns GLB_BOOT_STS[31:16]. -/
  | smbBootStsHigh
  /-- SMB_STATE (R629): SMBus command 0x02 returns GLB_STATE[15:0]. -/
  | smbState
  /-- SMB_REEF_STS (R629): SMBus command 0x03 returns REEF_STS[15:0]. -/
  | smbReefSts
  /-- SMB_TRIP_CNT (R629): SMBus command 0x04 returns REEF_TRIP_CNT[15:0]. -/
  | smbTripCnt
  /-- SMB_ZONE_TEMP (R629): SMBus command 0x10 + z returns a zone temperature. Operands: `z` the zone. -/
  | smbZoneTemp (z : Nat)
  /-- SMB_RAIL (R629): SMBus Block Read 0x40 + r returns a rail's means. Operands: `r` the rail. -/
  | smbRail (r : Nat)
  /-- SMB_OTHER (R629): Any other SMBus command or write is NACKed. -/
  | smbOther
  /-- TAP_RESET (R654): TRST_N resets the TAP controller. -/
  | tapReset
  /-- TAP_IDCODE (R654): Instruction IDCODE shifts out the identification code. -/
  | tapIdcode
  /-- TAP_DBG_STATUS (R654): Instruction DBG_STATUS captures RAT_STS. -/
  | tapDbgStatus
  /-- TAP_BYPASS (R654): BYPASS, or a reserved instruction, selects the 1-bit bypass register. Operands: `ir` the instruction code. -/
  | tapBypass (ir : Nat)
  /-- DBG_ACCESS_NOP (R655): DBG_ACCESS with OP NOP starts no access. Operands: `op` OP. -/
  | dbgAccessNop (op : Nat)
  /-- DBG_ACCESS_READ (R656): DBG_ACCESS READ reads BAR0 or BAR2 within scope. Operands: `w64` W64; `space` SPACE; `peek` PEEK; `addr` ADDR; `rsvd` the reserved bits. -/
  | dbgAccessRead (w64 : Bool) (space : Nat) (peek : Bool) (addr : Nat) (rsvd : Nat)
  /-- DBG_ACCESS_WRITE (R656): DBG_ACCESS WRITE writes BAR0 or BAR2 within scope. Operands: `w64` W64; `space` SPACE; `addr` ADDR; `rsvd` the reserved bits; `data` DATA. -/
  | dbgAccessWrite (w64 : Bool) (space : Nat) (addr : Nat) (rsvd : Nat) (data : Nat)
  /-- DBG_ACCESS_COMPLETE (R655): A Ratline access completes within 2 µs and its STATUS and DATA are held for capture. -/
  | dbgAccessComplete
  /-- RAT_MAST_HALT (R659): RAT_MCTL HALT halts the Mast at its next issue. Operands: `y` the yard. -/
  | ratMastHalt (y : Nat)
  /-- RAT_MAST_STEP (R661): RAT_MCTL STEP executes one instruction of a halted Mast without output. Operands: `y` the yard. -/
  | ratMastStep (y : Nat)
  /-- RAT_MAST_RELEASE (R662): RAT_MCTL RELEASE clears HALTED and leaves the Mast IDLE. Operands: `y` the yard. -/
  | ratMastRelease (y : Nat)
  /-- RAT_WCH_HALT (R663): RAT_WCTL HALT halts or resumes a Winch core. Operands: `x` the core; `v` HALT. -/
  | ratWchHalt (x : Nat) (v : Bool)
  /-- RAT_WCH_STEP (R664): RAT_WCTL STEP executes one instruction of a halted core. Operands: `x` the core. -/
  | ratWchStep (x : Nat)
  /-- REG_READ_CLEAR (R13): A host read of a register with an RC field returns the value and clears the field in the same access. Operands: `a` the BAR0 offset; `n` the bytes of the access. -/
  | regReadClear (a : Nat) (n : Nat)
  /-- BIAS_SLEW_END (R232): BIA_ACT reaches its target, the slew ends and SLEWING clears, which in SAFE completes the ramp to 0 mA. Operands: `y` the yard. -/
  | biasSlewEnd (y : Nat)
  /-- PLAY_END (R162): The last sample of a parametric or stream play passes its release-equivalent time, and the target returns to IDLE with the segment's last use ended. Operands: `y` the yard; `t` the target. -/
  | playEnd (y : Nat) (t : Nat)
  /-- SHR_JOB_END (R535): A STATEMENT, KEY_IMPORT, IMPORT, EXPORT or RELEASE job of a partition ends, writes its results and writes SHR_PSTS last. Operands: `p` the partition. -/
  | shrJobEnd (p : Nat)
  /-- REFCLK_RETURN (R613): REFCLK shows edges again after a loss, REFCLK_OK sets, and the auxiliary PLL leaves its held setting and relocks. -/
  | refclkReturn
  /-- PCIE_LINK_UP (R490): The PCIe link finishes training and HIF_STS shows its rate, width and Flit mode. Operands: `rate` the rate; `width` the width; `flit` Flit mode. -/
  | pcieLinkUp (rate : Nat) (width : Nat) (flit : Bool)
  deriving DecidableEq, Repr

end Sys2Proof
end

