-- ==== Sys2Proof/Decode.lean ====
section
/-! DEFINITION. Words of the opcode table. The part is no processor: its table lists events and gives no row any bits, so no word spells a
command. -/

namespace Sys2Proof

/-- The command that a word of the table spells: the table gives no row bits, so there is none. -/
def decodeTableWord (_nbits _w : Nat) : Option Instr := none

end Sys2Proof
end

