-- ==== Sys2Proof/Word.lean ====
section
/-! DEFINITION. The words of the part: bytes, 64-bit register values, and their plainest arithmetic. -/

namespace Sys2Proof

/-- A byte of a store. -/
abbrev Byte := BitVec 8

/-- A register value: 64 bits, a 32-bit register in the low half (R9). -/
abbrev Word := BitVec 64

end Sys2Proof
end

