-- ==== Sys2Proof/Config.lean ====
section
/-! DEFINITION. The values that the manual leaves open. Each is a constant without a body: nothing can be proved of its
value (the log entries name them). The operations apply them to the counter `bus.free` of State, which each use advances. -/

namespace Sys2Proof.Config

/-- A value that the manual does not determine (a random draw, a result of a cryptographic function, a measured or
generated value), as a fresh 64-bit word at each use. -/
opaque freeWord : Nat → BitVec 64

/-- A natural number that the manual does not determine. -/
opaque freeNat : Nat → Nat

/-- Bytes that the manual does not determine: use number, then byte index. -/
opaque freeByte : Nat → Nat → BitVec 8

/-- By how many LSB the samples I and Q of a parametric generator differ from the exact values, which R169 bounds by 4: descriptor words
and sample index. -/
opaque genError : List Nat → Nat → Int × Int

/-- The first 112 coefficients of the ×16 interpolator, in 2⁻³⁰ (R188): the manual states their band limits and prints none. -/
opaque interp : Nat → Int

/-- The first coefficients of one side of the ×2 half-band interpolator of the flux path, in 2⁻³⁰ (R222): the manual states its band limits
and prints none. -/
opaque fluxInterp : Nat → Int

/-- The DAC code of an interpolated flux sample that lies outside the range of R223. -/
opaque beyond16 : Int → BitVec 16

/-- What stage 3 delivers for a product that s1.17 does not hold (R190). -/
opaque beyond18 : Int → BitVec 18

/-- The input and the full scale that Trim gives a read-out ADC in CAL (R252), as fields of CNV_CFG. -/
opaque trimCnv : Nat → BitVec 64

/-- Coefficient C_i, s1.17, of the standard decimation set in ROM (R297, R298). -/
opaque firRom : Nat → BitVec 18

/-- What a ×2 half-band filter of 23 taps makes of its inputs at s1.23, newest first, rounded to s1.23 before saturation (Table 9-2, R300):
its fixed coefficients are not printed. -/
opaque halfBand : List Int → Int

/-- The sample, s1.15, that the fractional-delay filter makes of 8 corrected samples for a number of sixty-fourths (R293). -/
opaque fracDelay : Nat → List Int → BitVec 16

/-- Cosine and sine, s1.17, of a phase of 2⁻²⁰ turns (R296), whose rounding the manual does not state. -/
opaque cosSin : Nat → BitVec 18 × BitVec 18

/-- The 58 scrambled bits before the first block of a lane that Ozlink scrambles (R462): the code states no start value. Lane 4 l + i. -/
opaque scrSeed : Nat → BitVec 58

/-- The microwords of the ROM (Table 4-1), by address: the manual does not print them. -/
opaque ucRom : Nat → BitVec 32

/-- The ROM addresses that the routine of an instruction fetches (Table 4-1), by 8 × opcode + microwords: the manual does not print them. -/
opaque romPath : Nat → List Nat

/-! ### Cryptographic functions (chapter 17)

The standards that chapter 17 names define them; the manual uses them and does not print them. A key is the number of its
draw, 0 for the device identity key. -/

/-- SHA-384 (FIPS 180-4) of a byte string. -/
opaque sha384 : List (BitVec 8) → BitVec 384

/-- Is a signature valid under a public key (ECDSA on P-384 over SHA-384, FIPS 186-5)? Key, message, signature. -/
opaque ecdsaOk : List (BitVec 8) → List (BitVec 8) → List (BitVec 8) → Bool

/-- A signature: key, number of the draw of its nonce, message. -/
opaque ecdsaSig : Nat → Nat → List (BitVec 8) → BitVec 768

/-- The public half of a key pair, x then y. -/
opaque pubKey : Nat → BitVec 768

/-- Is a public key a point on P-384? -/
opaque onCurve : List (BitVec 8) → Bool

/-- The key stream of AES-256-GCM (SP 800-38D): key, IV, byte index. -/
opaque gcmByte : List (BitVec 8) → List (BitVec 8) → Nat → BitVec 8

/-- The tag of AES-256-GCM: key, IV, additional data, ciphertext. -/
opaque gcmTag : List (BitVec 8) → List (BitVec 8) → List (BitVec 8) → List (BitVec 8) → BitVec 128

/-- The key of R531: HKDF-SHA-384 over ECDH of a key pair and a public key, with a salt. -/
opaque kek : Nat → List (BitVec 8) → List (BitVec 8) → BitVec 256

/-- The digests of what is in ROM and fuses (measurements 1 and 3). -/
opaque romDigest : Nat → BitVec 384

/-- The fused digest of an owner key slot (R517). -/
opaque ownerDigest : Nat → BitVec 384

/-- The keys in the boot ROM: 0 that of microcode patches and firmware, 1 the Ryufen debug key. -/
opaque romKey : Nat → List (BitVec 8)

/-- The device serial number, and the certificate chain of R516. -/
opaque serial : List (BitVec 8)
opaque certChain : List (BitVec 8)

end Sys2Proof.Config
end

