-- ==== Sys2Proof/Machine/Codes.lean ====
section
/-! DEFINITION. The status codes of the chapters of spec/ (R15 to R18), each under its own name. -/

namespace Sys2Proof.Machine

/-- spec/01_architecture.md: the group named is unused. -/
def E_GLB_RANGE : Nat := 0x0103

/-- spec/01_architecture.md: a reserved command code was written. -/
def E_GLB_RSVD_ENC : Nat := 0x0105

/-- spec/01_architecture.md: a group command was refused under R51 or R52. -/
def E_GLB_LSG_BUSY : Nat := 0x0110

/-- spec/01_architecture.md: the command is not valid in the group's state (Table 1-8). -/
def E_GLB_LSG_STATE : Nat := 0x0111

/-- spec/01_architecture.md: the command is not valid in the device's state. -/
def E_GLB_DEV_STATE : Nat := 0x0112

/-- spec/01_architecture.md: the release time is earlier than the minimum lead allows. -/
def E_GLB_LEAD_SHORT : Nat := 0x0113

/-- spec/01_architecture.md: a stamped item arrived after its release time and was discarded. -/
def E_GLB_LATE_REL : Nat := 0x0114

/-- spec/01_architecture.md: TB1 is not running. -/
def E_GLB_TB1_STOPPED : Nat := 0x0115

/-- spec/02_configuration_image.md: IMG_LEN, a section LENGTH or an entry COUNT is 0. -/
def E_IMG_ZERO_LEN : Nat := 0x0201

/-- spec/02_configuration_image.md: IMG_LEN exceeds the staging store, or a section reaches past TOTAL_LEN. -/
def E_IMG_LEN_EXCEEDS : Nat := 0x0202

/-- spec/02_configuration_image.md: a field lies outside its range. -/
def E_IMG_RANGE : Nat := 0x0203

/-- spec/02_configuration_image.md: IMG_SRC, an OFFSET, a TOTAL_LEN, a section LENGTH (R674) or an ADDR is misaligned. -/
def E_IMG_ALIGN : Nat := 0x0204

/-- spec/02_configuration_image.md: a reserved encoding was found or written. -/
def E_IMG_RSVD_ENC : Nat := 0x0205

/-- spec/02_configuration_image.md: MAGIC is wrong. -/
def E_IMG_BAD_MAGIC : Nat := 0x0210

/-- spec/02_configuration_image.md: FORMAT or SVER is not supported. -/
def E_IMG_FORMAT : Nat := 0x0211

/-- spec/02_configuration_image.md: Shroud rejected the signature or the decryption. -/
def E_IMG_SIG : Nat := 0x0212

/-- spec/02_configuration_image.md: a required section or yard entry is missing. -/
def E_IMG_SECT_MISSING : Nat := 0x0213

/-- spec/02_configuration_image.md: a section type appears twice. -/
def E_IMG_SECT_DUP : Nat := 0x0214

/-- spec/02_configuration_image.md: sections overlap, or SIGNATURE is not last. -/
def E_IMG_SECT_OVERLAP : Nat := 0x0215

/-- spec/02_configuration_image.md: a tone, yard, unit or instance is named twice. -/
def E_IMG_RES_DOUBLE : Nat := 0x0216

/-- spec/02_configuration_image.md: a feature requested a resource it does not own. -/
def E_IMG_RES_BUSY : Nat := 0x0217

/-- spec/02_configuration_image.md: a route crosses a quadrant. -/
def E_IMG_ROUTE_QUAD : Nat := 0x0218

/-- spec/02_configuration_image.md: the yards of a pair are placed in different partitions (R31). -/
def E_IMG_PAIR_SPLIT : Nat := 0x0219

/-- spec/02_configuration_image.md: BASE_VER differs from IMG_VER. -/
def E_IMG_BASE_VER : Nat := 0x021A

/-- spec/02_configuration_image.md: a partial image reaches outside its scope, carries a forbidden section, or changes a partition. -/
def E_IMG_SCOPE : Nat := 0x021B

/-- spec/02_configuration_image.md: the COMMIT was refused under R77. -/
def E_IMG_SCOPE_BUSY : Nat := 0x021C

/-- spec/02_configuration_image.md: the loaded microcode is older than UCODE_MIN. -/
def E_IMG_UCODE_VER : Nat := 0x021D

/-- spec/02_configuration_image.md: the command is not valid in the image manager's or the device's state. -/
def E_IMG_STATE : Nat := 0x021E

/-- spec/02_configuration_image.md: LOAD while an image is already held. -/
def E_IMG_BUSY : Nat := 0x021F

/-- spec/02_configuration_image.md: the image was discarded by ABORT or by entry into SAFE. -/
def E_IMG_ABORTED : Nat := 0x0220

/-- spec/02_configuration_image.md: TOTAL_LEN differs from IMG_LEN, or IMG_LEN is below 64 bytes (R72). -/
def E_IMG_LEN_MISMATCH : Nat := 0x0221

/-- spec/02_configuration_image.md: a REG_INIT record addresses a register that it may not write (R70), or a word fails the value checks of R669. -/
def E_IMG_REGINIT : Nat := 0x0222

/-- spec/03_mast_sequencer.md: a count, length or timeout is 0 (R101, R121). -/
def E_SEQ_ZERO_LEN : Nat := 0x0301

/-- spec/03_mast_sequencer.md: an address lies at or above SEQ_PROG_LEN. -/
def E_SEQ_LEN_EXCEEDS : Nat := 0x0302

/-- spec/03_mast_sequencer.md: a field or register lies outside its range. -/
def E_SEQ_RANGE : Nat := 0x0303

/-- spec/03_mast_sequencer.md: reserved opcode, encoding or bit (R99). -/
def E_SEQ_RSVD_ENC : Nat := 0x0305

/-- spec/03_mast_sequencer.md: uncorrectable ECC error in the sequence store. -/
def E_SEQ_ECC_UNCORR : Nat := 0x0307

/-- spec/03_mast_sequencer.md: a timed instruction missed its lead (R93). -/
def E_SEQ_LATE : Nat := 0x0310

/-- spec/03_mast_sequencer.md: loop nesting or loop end violated (R116, R117). -/
def E_SEQ_LOOP : Nat := 0x0311

/-- spec/03_mast_sequencer.md: SYNC not satisfied in time (R119). -/
def E_SEQ_SYNC_TIMEOUT : Nat := 0x0312

/-- spec/03_mast_sequencer.md: TQ would overflow (R107). -/
def E_SEQ_TQ_OVF : Nat := 0x0313

/-- spec/03_mast_sequencer.md: SETR offset not writable (R104). -/
def E_SEQ_SETR_ACCESS : Nat := 0x0314

/-- spec/03_mast_sequencer.md: members differ in shot count or replay limit. -/
def E_SEQ_SHOT_MISMATCH : Nat := 0x0315

/-- spec/03_mast_sequencer.md: a shot used all its replays (R131); not a fault. -/
def E_SEQ_REPLAY_EXHAUSTED : Nat := 0x0316

/-- spec/04_microcode.md: UC_LEN, WORDS or MAPS is 0. -/
def E_UC_ZERO_LEN : Nat := 0x0401

/-- spec/04_microcode.md: UC_LEN exceeds 12,288 bytes, or a part reaches past TOTAL_LEN. -/
def E_UC_LEN_EXCEEDS : Nat := 0x0402

/-- spec/04_microcode.md: WORDS or MAPS exceeds its maximum. -/
def E_UC_RANGE : Nat := 0x0403

/-- spec/04_microcode.md: UC_SRC is not a multiple of 8. -/
def E_UC_ALIGN : Nat := 0x0404

/-- spec/04_microcode.md: reserved command, field value, class or selector. -/
def E_UC_RSVD_ENC : Nat := 0x0405

/-- spec/04_microcode.md: uncorrectable ECC error in the control store. -/
def E_UC_ECC_UNCORR : Nat := 0x0407

/-- spec/04_microcode.md: MAGIC is wrong. -/
def E_UC_BAD_MAGIC : Nat := 0x0410

/-- spec/04_microcode.md: FORMAT is not supported. -/
def E_UC_FORMAT : Nat := 0x0411

/-- spec/04_microcode.md: Shroud rejected the signature. -/
def E_UC_SIG : Nat := 0x0412

/-- spec/04_microcode.md: ROM_VER differs from UC_VER.ROM. -/
def E_UC_ROM_MISMATCH : Nat := 0x0413

/-- spec/04_microcode.md: LEVEL is below UC_FLOOR. -/
def E_UC_ROLLBACK : Nat := 0x0414

/-- spec/04_microcode.md: map entry refused under R135. -/
def E_UC_MAP : Nat := 0x0415

/-- spec/04_microcode.md: read-back CRC differs from BODY_CRC. -/
def E_UC_VERIFY : Nat := 0x0416

/-- spec/04_microcode.md: refused under R136, R142 or R143. -/
def E_UC_BUSY : Nat := 0x0417

/-- spec/04_microcode.md: ARM with a member in FAILED. -/
def E_UC_PATCH_FAIL : Nat := 0x0418

/-- spec/04_microcode.md: load ended by entry into SAFE. -/
def E_UC_ABORTED : Nat := 0x0419

/-- spec/04_microcode.md: microword count violated (R133). -/
def E_UC_SEQ_LEN : Nat := 0x041A

/-- spec/04_microcode.md: TOTAL_LEN differs from UC_LEN. -/
def E_UC_LEN_MISMATCH : Nat := 0x041B

/-- spec/04_microcode.md: LOAD outside CONFIG, READY or RUN. -/
def E_UC_STATE : Nat := 0x041C

/-- spec/05_halyard_waveforms.md: LEN, COUNT, EDGE or BLK is 0. -/
def E_HAL_ZERO_LEN : Nat := 0x0501

/-- spec/05_halyard_waveforms.md: ID, SIGMA, FLAT or L out of range (R158, R168). -/
def E_HAL_RANGE : Nat := 0x0503

/-- spec/05_halyard_waveforms.md: START not a multiple of 8, or refill length not whole blocks. -/
def E_HAL_ALIGN : Nat := 0x0504

/-- spec/05_halyard_waveforms.md: reserved command, shape or bit. -/
def E_HAL_RSVD_ENC : Nat := 0x0505

/-- spec/05_halyard_waveforms.md: uncorrectable ECC error in the store (R156). -/
def E_HAL_ECC_UNCORR : Nat := 0x0507

/-- spec/05_halyard_waveforms.md: command refused by segment state (Table 5-2), or because the entry changed after the staging registers were loaded (R150). -/
def E_HAL_SEG_BUSY : Nat := 0x0510

/-- spec/05_halyard_waveforms.md: a play, chain step, jump or ring names a segment not usable in its state. -/
def E_HAL_SEG_STATE : Nat := 0x0511

/-- spec/05_halyard_waveforms.md: START + 8 × LEN exceeds the quadrant store. -/
def E_HAL_SEG_LEN : Nat := 0x0512

/-- spec/05_halyard_waveforms.md: ring length not a multiple of BLK, or below 2 × BLK. -/
def E_HAL_STR_RING : Nat := 0x0513

/-- spec/05_halyard_waveforms.md: play of a stopped channel, or start or stop refused. -/
def E_HAL_STR_STATE : Nat := 0x0514

/-- spec/05_halyard_waveforms.md: fault mark of a starved attempt; replayable. -/
def E_HAL_UNDERRUN : Nat := 0x0515

/-- spec/05_halyard_waveforms.md: stream play during a reset pass. -/
def E_HAL_STR_RPASS : Nat := 0x0516

/-- spec/06_tone_synthesis.md: OUT_SHIFT above 5 written by SETR (R211). -/
def E_TON_RANGE : Nat := 0x0603

/-- spec/06_tone_synthesis.md: MODE 0b11 or a 1 in a reserved bit written by SETR (R211). -/
def E_TON_RSVD_ENC : Nat := 0x0605

/-- spec/06_tone_synthesis.md: a correction named a probe tone or a disabled tone (R197). -/
def E_TON_PF_TARGET : Nat := 0x0610

/-- spec/06_tone_synthesis.md: TON_HO_CMD written while a host hand-over was pending (R214). -/
def E_TON_HO_BUSY : Nat := 0x0611

/-- spec/06_tone_synthesis.md: a pending host hand-over was discarded by entry into SAFE (R214). -/
def E_TON_HO_DISCARDED : Nat := 0x0612

/-- spec/07_flux_bias.md: a bias source entered COMPLIANCE (R238). -/
def E_BIA_COMPLIANCE : Nat := 0x0710

/-- spec/07_flux_bias.md: a bias source entered OPEN (R239). -/
def E_BIA_OPEN : Nat := 0x0711

/-- spec/08_readout_converters.md: LEN, PAGES, WM, SCAN_LEN, COUNT or PER is 0. -/
def E_CNV_ZERO_LEN : Nat := 0x0801

/-- spec/08_readout_converters.md: PAGE + PAGES exceeds 8,192. -/
def E_CNV_LEN_EXCEEDS : Nat := 0x0802

/-- spec/08_readout_converters.md: SEL, SCAN_LEN, WM or RP out of range. -/
def E_CNV_RANGE : Nat := 0x0803

/-- spec/08_readout_converters.md: reserved SRC. -/
def E_CNV_RSVD_ENC : Nat := 0x0805

/-- spec/08_readout_converters.md: ring geometry written while running (R284). -/
def E_CNV_RUNNING : Nat := 0x0810

/-- spec/08_readout_converters.md: ACQ on a channel not started by Mast (R256); program fault. -/
def E_CNV_ACQ_SRC : Nat := 0x0811

/-- spec/08_readout_converters.md: a fifth injected request was waiting (R270). -/
def E_CNV_INJ_OVF : Nat := 0x0812

/-- spec/08_readout_converters.md: scan started without a running ring. -/
def E_CNV_RING_STATE : Nat := 0x0813

/-- spec/08_readout_converters.md: cross-check disagreement (R275). -/
def E_MON_XCHK_FAIL : Nat := 0x0814

/-- spec/08_readout_converters.md: injected request while OFF, or discarded at entry into SAFE. -/
def E_MON_STATE : Nat := 0x0815

/-- spec/09_demodulation.md: a kernel length of 0 was written. -/
def E_DEM_ZERO_LEN : Nat := 0x0901

/-- spec/09_demodulation.md: a kernel length above 512 was written. -/
def E_DEM_RANGE : Nat := 0x0903

/-- spec/09_demodulation.md: SECOND 0b11, or a 1 in a reserved bit. -/
def E_DEM_RSVD_ENC : Nat := 0x0905

/-- spec/09_demodulation.md: uncorrectable ECC error in a kernel bank (R314). -/
def E_DEM_ECC_UNCORR : Nat := 0x0907

/-- spec/09_demodulation.md: SECOND, FIRSEL or DEM_FIR written outside OFF and STOPPED (R301). -/
def E_DEM_RUNNING : Nat := 0x0910

/-- spec/09_demodulation.md: ACQ on an enabled channel in STOPPED (R316); program fault. -/
def E_DEM_STOPPED : Nat := 0x0911

/-- spec/09_demodulation.md: write to a bank in use (R309). -/
def E_DEM_BANK_BUSY : Nat := 0x0912

/-- spec/10_discrimination_sheet.md: a class-3 shadow write out of range (R211). -/
def E_DSC_RANGE : Nat := 0x0A03

/-- spec/10_discrimination_sheet.md: reserved MODE, or a 1 in a reserved bit. -/
def E_DSC_RSVD_ENC : Nat := 0x0A05

/-- spec/10_discrimination_sheet.md: uncorrectable ECC error in the tap or map tables; the tap or entry concerned is disabled. -/
def E_SHT_ECC_UNCORR : Nat := 0x0A07

/-- spec/10_discrimination_sheet.md: the slot already has a writer (R330). -/
def E_DSC_SLOT_BUSY : Nat := 0x0A10

/-- spec/10_discrimination_sheet.md: WAITD reached its deadline (Table 3-6). -/
def E_SHT_FB_TIMEOUT : Nat := 0x0A20

/-- spec/10_discrimination_sheet.md: SHT_IMAP names a slot that has a writer (R346). -/
def E_SHT_SLOT_BUSY : Nat := 0x0A21

/-- spec/10_discrimination_sheet.md: write to an enabled tap (R340). -/
def E_SHT_TAP_BUSY : Nat := 0x0A22

/-- spec/10_discrimination_sheet.md: tap enabled without a current input (R340). -/
def E_SHT_TAP_CFG : Nat := 0x0A23

/-- spec/11_syndrome_decoder.md: WIN, LANE_CNT, PAGES, RDL, RP or a graph count is 0 where 0 is not allowed. -/
def E_DEC_ZERO_LEN : Nat := 0x0B01

/-- spec/11_syndrome_decoder.md: PAGE + PAGES exceeds 2,048, or the graph reaches past its pages or TOTAL_LEN. -/
def E_DEC_LEN_EXCEEDS : Nat := 0x0B02

/-- spec/11_syndrome_decoder.md: a field or graph count out of range; GROUP unused. -/
def E_DEC_RANGE : Nat := 0x0B03

/-- spec/11_syndrome_decoder.md: an offset or TOTAL_LEN not a multiple of 8. -/
def E_DEC_ALIGN : Nat := 0x0B04

/-- spec/11_syndrome_decoder.md: reserved encoding or bit in the graph. -/
def E_DEC_RSVD_ENC : Nat := 0x0B05

/-- spec/11_syndrome_decoder.md: uncorrectable ECC error in the graph store or lane memory (R353). -/
def E_DEC_ECC_UNCORR : Nat := 0x0B07

/-- spec/11_syndrome_decoder.md: MAGIC is wrong. -/
def E_DEC_BAD_MAGIC : Nat := 0x0B10

/-- spec/11_syndrome_decoder.md: FORMAT not supported. -/
def E_DEC_FORMAT : Nat := 0x0B11

/-- spec/11_syndrome_decoder.md: graph CRC mismatch. -/
def E_DEC_CRC : Nat := 0x0B12

/-- spec/11_syndrome_decoder.md: configuration written while EN is 1 (R352). -/
def E_DEC_RUNNING : Nat := 0x0B13

/-- spec/11_syndrome_decoder.md: DET ranges overlap. -/
def E_DEC_DET_OVERLAP : Nat := 0x0B14

/-- spec/11_syndrome_decoder.md: frame target not an enabled drive tone of the group (R351, R354). -/
def E_DEC_TARGET : Nat := 0x0B15

/-- spec/11_syndrome_decoder.md: fault mark of an attempt in OVERLOAD (R364); not replayable. -/
def E_DEC_OVERLOAD : Nat := 0x0B16

/-- spec/11_syndrome_decoder.md: remote edges without CLOSE 1, passes or link (R351). -/
def E_DEC_XCFG : Nat := 0x0B17

/-- spec/11_syndrome_decoder.md: boundary message not sent or missing (R373); not a fault. -/
def E_DEC_XMISS : Nat := 0x0B18

/-- spec/11_syndrome_decoder.md: illegal edge (R351). -/
def E_DEC_GRAPH : Nat := 0x0B19

/-- spec/11_syndrome_decoder.md: DEC_EN written while the group is not IDLE. -/
def E_DEC_STATE : Nat := 0x0B1A

/-- spec/11_syndrome_decoder.md: a lane is used by another enabled context. -/
def E_DEC_LANE_BUSY : Nat := 0x0B1B

/-- spec/12_winch_services.md: BODY, loop count, LEN, NPTS, SHOTS or REP is 0. -/
def E_WCH_ZERO_LEN : Nat := 0x0C01

/-- spec/12_winch_services.md: a transfer or output block reaches past its memory. -/
def E_WCH_LEN_EXCEEDS : Nat := 0x0C02

/-- spec/12_winch_services.md: a value lies outside its range. -/
def E_WCH_RANGE : Nat := 0x0C03

/-- spec/12_winch_services.md: a transfer is misaligned. -/
def E_WCH_ALIGN : Nat := 0x0C04

/-- spec/12_winch_services.md: reserved opcode, field, SPR, KIND or bit. -/
def E_WCH_RSVD_ENC : Nat := 0x0C05

/-- spec/12_winch_services.md: uncorrectable ECC error in local memory. -/
def E_WCH_ECC_UNCORR : Nat := 0x0C07

/-- spec/12_winch_services.md: an address or LPE is beyond local memory. -/
def E_WCH_ADDR : Nat := 0x0C10

/-- spec/12_winch_services.md: R386. -/
def E_WCH_LOOP : Nat := 0x0C11

/-- spec/12_winch_services.md: command not valid in the core's state. -/
def E_WCH_STATE : Nat := 0x0C12

/-- spec/12_winch_services.md: reserved service. -/
def E_WCH_SVC : Nat := 0x0C13

/-- spec/12_winch_services.md: the group is not IDLE or has other members. -/
def E_WCH_GRP_BUSY : Nat := 0x0C14

/-- spec/12_winch_services.md: the yard is held by another service. -/
def E_WCH_YARD_HELD : Nat := 0x0C15

/-- spec/12_winch_services.md: the service was ended by ABORT, by RUN written 0 or by R375. -/
def E_WCH_SVC_ABORTED : Nat := 0x0C16

/-- spec/12_winch_services.md: the group left the service's state sequence. -/
def E_WCH_SVC_INTERFERED : Nat := 0x0C17

/-- spec/12_winch_services.md: the fit did not converge; APPLY skipped. -/
def E_WCH_FIT : Nat := 0x0C18

/-- spec/13_crowsnest_furler.md: POST, PAGES or NREC is 0. -/
def E_CNS_ZERO_LEN : Nat := 0x0D01

/-- spec/13_crowsnest_furler.md: slots exceed the region, or the region exceeds the store. -/
def E_CNS_LEN_EXCEEDS : Nat := 0x0D02

/-- spec/13_crowsnest_furler.md: D, INDEX, MINMAX with D = 0, or RP out of range. -/
def E_CNS_RANGE : Nat := 0x0D03

/-- spec/13_crowsnest_furler.md: odd PRE + POST for packed ADC samples. -/
def E_CNS_ALIGN : Nat := 0x0D04

/-- spec/13_crowsnest_furler.md: reserved MODE, DECM, KIND, SRC or SLOPE. -/
def E_CNS_RSVD_ENC : Nat := 0x0D05

/-- spec/13_crowsnest_furler.md: configuration written while armed (R418). -/
def E_CNS_RUNNING : Nat := 0x0D10

/-- spec/13_crowsnest_furler.md: rate limit of R406 exceeded. -/
def E_CNS_BW : Nat := 0x0D11

/-- spec/13_crowsnest_furler.md: trigger source refused (R412). -/
def E_CNS_TRIG_SRC : Nat := 0x0D12

/-- spec/13_crowsnest_furler.md: ARM while Crow's Nest is shed. -/
def E_CNS_SHED : Nat := 0x0D13

/-- spec/13_crowsnest_furler.md: DST_LEN, or SRC_LEN on START, is 0. -/
def E_FRL_ZERO_LEN : Nat := 0x0E01

/-- spec/13_crowsnest_furler.md: a region reaches past the store. -/
def E_FRL_LEN_EXCEEDS : Nat := 0x0E02

/-- spec/13_crowsnest_furler.md: reserved CMD or MODE. -/
def E_FRL_RSVD_ENC : Nat := 0x0E05

/-- spec/13_crowsnest_furler.md: uncorrectable ECC error (R432). -/
def E_FRL_ECC_UNCORR : Nat := 0x0E07

/-- spec/13_crowsnest_furler.md: mode not allowed (R424, R430). -/
def E_FRL_MODE : Nat := 0x0E10

/-- spec/13_crowsnest_furler.md: engine running or context ACTIVE. -/
def E_FRL_BUSY : Nat := 0x0E11

/-- spec/13_crowsnest_furler.md: command not valid in the context state. -/
def E_FRL_CTX_STATE : Nat := 0x0E12

/-- spec/13_crowsnest_furler.md: destination full (R428); not an error. -/
def E_FRL_OUT_FULL : Nat := 0x0E13

/-- spec/13_crowsnest_furler.md: block would not shrink, NOGAIN = 0 (R426). -/
def E_FRL_NO_GAIN : Nat := 0x0E14

/-- spec/13_crowsnest_furler.md: self-verification mismatch (R429). -/
def E_FRL_VERIFY : Nat := 0x0E15

/-- spec/13_crowsnest_furler.md: job ended by ABORT or SAFE. -/
def E_FRL_ABORTED : Nat := 0x0E16

/-- spec/13_crowsnest_furler.md: job suspended or RESUME refused by Reef shedding. -/
def E_FRL_SHED : Nat := 0x0E17

/-- spec/13_crowsnest_furler.md: source and destination overlap. -/
def E_FRL_OVERLAP : Nat := 0x0E18

/-- spec/13_crowsnest_furler.md: region of a capture channel in use (R430). -/
def E_FRL_SRC_BUSY : Nat := 0x0E19

/-- spec/13_crowsnest_furler.md: invalid STATIC table (R425). -/
def E_FRL_TABLE : Nat := 0x0E1A

/-- spec/14_stay_time.md: periodic timer with PER 0. -/
def E_STAY_ZERO_LEN : Nat := 0x0F01

/-- spec/14_stay_time.md: SET with NS above 999,999,999; unused group. -/
def E_STAY_RANGE : Nat := 0x0F03

/-- spec/14_stay_time.md: reserved command, BASE, MODE or ACTION. -/
def E_STAY_RSVD_ENC : Nat := 0x0F05

/-- spec/14_stay_time.md: SKEWCAL received fewer than 256 edges in 1 ms. -/
def E_STAY_TIMEOUT : Nat := 0x0F06

/-- spec/14_stay_time.md: R451. -/
def E_STAY_JUMP_REFUSED : Nat := 0x0F10

/-- spec/14_stay_time.md: R448. -/
def E_STAY_ASYM_SUSPECT : Nat := 0x0F11

/-- spec/14_stay_time.md: TB1_STOP or SKEWCAL with a group not IDLE. -/
def E_STAY_BUSY : Nat := 0x0F12

/-- spec/14_stay_time.md: command not valid in the TB1, servo or SRC state. -/
def E_STAY_STATE : Nat := 0x0F13

/-- spec/14_stay_time.md: R455. -/
def E_STAY_TB1_MISALIGN : Nat := 0x0F14

/-- spec/14_stay_time.md: R441. -/
def E_STAY_SKEW_DRIFT : Nat := 0x0F15

/-- spec/14_stay_time.md: R450; not a fault. -/
def E_STAY_HOLDOVER : Nat := 0x0F16

/-- spec/15_ozlink.md: reserved command. -/
def E_OZL_RSVD_ENC : Nat := 0x1005

/-- spec/15_ozlink.md: training at rate 0 did not complete (R478). -/
def E_OZL_TIMEOUT : Nat := 0x1006

/-- spec/15_ozlink.md: link came up in UP_SLOW (R478). -/
def E_OZL_TRAIN_RATE : Nat := 0x1010

/-- spec/15_ozlink.md: wrong peer seen in training (R489). -/
def E_OZL_PEER : Nat := 0x1011

/-- spec/15_ozlink.md: a lane was lost and re-striped (R480); not a fault. -/
def E_OZL_LANE_LOST : Nat := 0x1012

/-- spec/15_ozlink.md: the link went to DETECT (R477). -/
def E_OZL_LINK_DOWN : Nat := 0x1013

/-- spec/15_ozlink.md: LS1 or LS2 refused (R483). -/
def E_OZL_PM_BUSY : Nat := 0x1014

/-- spec/15_ozlink.md: PRBS, PARK or loopback refused (R484 to R486). -/
def E_OZL_STATE : Nat := 0x1015

/-- spec/15_ozlink.md: retry without progress (R470). -/
def E_OZL_RETRY_LIMIT : Nat := 0x1016

/-- spec/16_host_queues_dma.md: ENTRIES, LEN or BURST is 0. -/
def E_HIF_ZERO_LEN : Nat := 0x1101

/-- spec/16_host_queues_dma.md: a ring, spill or transfer region reaches past its store. -/
def E_HIF_LEN_EXCEEDS : Nat := 0x1102

/-- spec/16_host_queues_dma.md: ENTRIES not a power of two from 16 to 2²⁰, or ICOAL 0. -/
def E_HIF_RANGE : Nat := 0x1103

/-- spec/16_host_queues_dma.md: BASE, WB or an endpoint address misaligned. -/
def E_HIF_ALIGN : Nat := 0x1104

/-- spec/16_host_queues_dma.md: reserved KIND, OP, endpoint kind, unit or bit. -/
def E_HIF_RSVD_ENC : Nat := 0x1105

/-- spec/16_host_queues_dma.md: uncorrectable ECC error in the queue descriptor store; the queue halts. -/
def E_HIF_ECC_UNCORR : Nat := 0x1107

/-- spec/16_host_queues_dma.md: command or QM_QD write not valid in the queue state. -/
def E_QM_STATE : Nat := 0x1110

/-- spec/16_host_queues_dma.md: doorbell INDEX outside the ring (R499). -/
def E_QM_DB_RANGE : Nat := 0x1111

/-- spec/16_host_queues_dma.md: endpoint refused under Table 16-8. -/
def E_DMA_DST_BUSY : Nat := 0x1112

/-- spec/16_host_queues_dma.md: converter ring not running or already served. -/
def E_DMA_RQ_STATE : Nat := 0x1113

/-- spec/16_host_queues_dma.md: host read failed (R506). -/
def E_DMA_PCIE : Nat := 0x1114

/-- spec/16_host_queues_dma.md: descriptor ended by entry into SAFE. -/
def E_DMA_ABORTED : Nat := 0x1115

/-- spec/16_host_queues_dma.md: peer link not up, or lost during the transfer. -/
def E_DMA_LINK_DOWN : Nat := 0x1116

/-- spec/16_host_queues_dma.md: a TRACE flit of a RQCOPY to a peer store was dropped for lack of credit (R514). -/
def E_DMA_TRACE_DROP : Nat := 0x1117

/-- spec/17_shroud_security.md: SHR_PLEN 0, or nothing to export. -/
def E_SHR_ZERO_LEN : Nat := 0x1201

/-- spec/17_shroud_security.md: a blob, region or segment does not fit, or an object is too short for its signature part (R668, R673). -/
def E_SHR_LEN_EXCEEDS : Nat := 0x1202

/-- spec/17_shroud_security.md: wrong MAGIC, PART, SEAL_ID or IV byte 0. -/
def E_SHR_RANGE : Nat := 0x1203

/-- spec/17_shroud_security.md: SHR_PSRC, SHR_PDST or a region misaligned. -/
def E_SHR_ALIGN : Nat := 0x1204

/-- spec/17_shroud_security.md: reserved command, level, KEYSEL or bit. -/
def E_SHR_RSVD_ENC : Nat := 0x1205

/-- spec/17_shroud_security.md: access or object refused by a seal (Table 17-8, R521, R525). -/
def E_SHR_SEALED : Nat := 0x1210

/-- spec/17_shroud_security.md: ECDSA signature invalid. -/
def E_SHR_SIG : Nat := 0x1211

/-- spec/17_shroud_security.md: GCM tag or key unwrap failed. -/
def E_SHR_AUTH : Nat := 0x1212

/-- spec/17_shroud_security.md: signer not allowed for the object (R521). -/
def E_SHR_KEY : Nat := 0x1213

/-- spec/17_shroud_security.md: tenant VERSION or import SEQ not above the last. -/
def E_SHR_ROLLBACK : Nat := 0x1214

/-- spec/17_shroud_security.md: command not valid in the partition state. -/
def E_SHR_STATE : Nat := 0x1215

/-- spec/17_shroud_security.md: a job of the partition is running (R535). -/
def E_SHR_BUSY : Nat := 0x1216

/-- spec/17_shroud_security.md: seal condition not met (R527). -/
def E_SHR_SEAL_COND : Nat := 0x1217

/-- spec/17_shroud_security.md: debug response invalid, or lockout. -/
def E_SHR_DBG : Nat := 0x1218

/-- spec/17_shroud_security.md: the partition holds no TK. -/
def E_SHR_NOKEY : Nat := 0x1219

/-- spec/18_trim_calibration.md: IDX outside Table 18-1. -/
def E_TRIM_RANGE : Nat := 0x1303

/-- spec/18_trim_calibration.md: reserved command. -/
def E_TRIM_RSVD_ENC : Nat := 0x1305

/-- spec/18_trim_calibration.md: a user is not IDLE, or a foreground run is in progress (R550, R551). -/
def E_TRIM_BUSY : Nat := 0x1310

/-- spec/18_trim_calibration.md: foreground calibration failed (R549). -/
def E_TRIM_FAILED : Nat := 0x1311

/-- spec/18_trim_calibration.md: an element was retired (R558); not a fault. -/
def E_TRIM_SPARE_USED : Nat := 0x1312

/-- spec/18_trim_calibration.md: no free spare remains (R559). -/
def E_TRIM_DEGRADED : Nat := 0x1313

/-- spec/18_trim_calibration.md: foreground run ended by entry into SAFE. -/
def E_TRIM_ABORTED : Nat := 0x1314

/-- spec/18_trim_calibration.md: FG or BG_NOW outside READY and RUN. -/
def E_TRIM_STATE : Nat := 0x1315

/-- spec/19_reef_thermal.md: REEF_PLIM or SENSOR out of range. -/
def E_REEF_RANGE : Nat := 0x1403

/-- spec/19_reef_thermal.md: reserved command. -/
def E_REEF_RSVD_ENC : Nat := 0x1405

/-- spec/19_reef_thermal.md: a sensor failed (R563); not a fault. -/
def E_REEF_SENS_FAIL : Nat := 0x1410

/-- spec/19_reef_thermal.md: partner sensors differ by more than 8 °C (R564); not a fault. -/
def E_REEF_SENS_DISAGREE : Nat := 0x1411

/-- spec/19_reef_thermal.md: both sensors of a zone failed (R574). -/
def E_REEF_ZONE_LOST : Nat := 0x1412

/-- spec/19_reef_thermal.md: a valid sensor reached 111.0 °C (R573). -/
def E_REEF_OVERTEMP : Nat := 0x1413

/-- spec/19_reef_thermal.md: the device restarted after an analogue trip (R576). -/
def E_REEF_TRIP : Nat := 0x1414

/-- spec/19_reef_thermal.md: the power limit was not met at PLEVEL 7 (R567); not a fault. -/
def E_REEF_PLIM : Nat := 0x1415

/-- spec/20_faults_replay.md: FILT above 24, unused group, or RP outside the log. -/
def E_FLT_RANGE : Nat := 0x1503

/-- spec/20_faults_replay.md: reserved command. -/
def E_FLT_RSVD_ENC : Nat := 0x1505

/-- spec/01_architecture.md: a handshake did not complete within 1 µs (1,250 ft). -/
def E_FLT_ISL_HANG : Nat := 0x1510

/-- spec/20_faults_replay.md: hangs on three or more islands within 10 µs (R43); FATAL. -/
def E_FLT_HUB_HANG : Nat := 0x1511

/-- spec/20_faults_replay.md: synthesiser loss of lock; FATAL. -/
def E_FLT_SYNTH_LOCK : Nat := 0x1512

/-- spec/20_faults_replay.md: GO_SAFE written by host software; FATAL. -/
def E_FLT_GO_SAFE : Nat := 0x1513

/-- spec/20_faults_replay.md: boot failure; FATAL. -/
def E_FLT_BOOT : Nat := 0x1514

/-- spec/20_faults_replay.md: external fault input marked an attempt; replayable. -/
def E_FLT_EXT : Nat := 0x1515

/-- spec/20_faults_replay.md: host software marked an attempt; replayable. -/
def E_FLT_MARKED : Nat := 0x1516

/-- spec/20_faults_replay.md: an external fault edge marked nothing (R590). -/
def E_FLT_EXT_LATE : Nat := 0x1517

/-- spec/20_faults_replay.md: FLT_MARK refused (R595). -/
def E_FLT_STATE : Nat := 0x1518

/-- spec/24_ratline_debug.md: reserved OP, bit or misalignment (R655). -/
def E_RAT_RSVD_ENC : Nat := 0x1605

/-- spec/24_ratline_debug.md: outside scope (R657). -/
def E_RAT_SCOPE : Nat := 0x1610

/-- spec/24_ratline_debug.md: access not yet complete (R655). -/
def E_RAT_BUSY : Nat := 0x1611

/-- spec/24_ratline_debug.md: ARM of a halted Mast's group, or END stepped. -/
def E_RAT_STATE : Nat := 0x1612

/-- spec/24_ratline_debug.md: Mast halted (R659); program fault. -/
def E_RAT_HALT : Nat := 0x1613

end Sys2Proof.Machine
end

