-- ==== Sys2Proof/Machine/Regs.lean ====
section
/-! DEFINITION. The registers of BAR0 as the register tables of spec/ give them: the address of each register (a
function of its indices), the place of each named field, and one row per register with its masks and its reset value. -/

namespace Sys2Proof.Machine

/-- A field of a register: its lowest bit and its width. -/
abbrev Fld := Nat × Nat

/-- One register of a table of spec/: its name, the address of its first instance, the distance and number of its
instances along each index, its width in bits, its reset value, and the bits that a write stores (RW, RWL, SHD), clears
(W1C), sets (W1S) or hands to an action (WO), the bits that a read clears (RC), and those of a stored bit that are RWL or SHD. -/
structure RegRow where
  name : String
  base : Nat
  strides : List (Nat × Nat)
  width : Nat
  rst : Nat
  rw : Nat
  w1c : Nat
  w1s : Nat
  rc : Nat
  wo : Nat
  rwl : Nat
  shd : Nat
  deriving DecidableEq, Repr

/-- spec/01_architecture.md Table 1-11: SAFE_STATUS [31:16] RO reset 0x0000; STATE [2:0] RO reset 0b001. -/
def GLB_STATE : Nat := 0x8000
def GLB_STATE_SAFE_STATUS : Fld := (16, 16)
def GLB_STATE_STATE : Fld := (0, 3)

/-- spec/01_architecture.md Table 1-11: CMD [2:0] WO reset 0b000. -/
def GLB_STATE_CMD : Nat := 0x8004
def GLB_STATE_CMD_CMD : Fld := (0, 3)

/-- spec/01_architecture.md Table 1-11: GROUP [13:8] WO; CMD [2:0] WO reset 0b000. -/
def GLB_LSG_CMD : Nat := 0x8008
def GLB_LSG_CMD_GROUP : Fld := (8, 6)
def GLB_LSG_CMD_CMD : Fld := (0, 3)

/-- spec/01_architecture.md Table 1-11: REL [63:0] RW. -/
def GLB_LSG_REL : Nat := 0x8010

/-- spec/01_architecture.md Table 1-11: COUNT [31:0] RC. -/
def GLB_LATE_CNT : Nat := 0x8018

/-- spec/01_architecture.md Table 1-11: ISL_A [31:24] RO; ISL_B [23:16] RO; CLASS [2:0] RO. -/
def GLB_HANG_INFO : Nat := 0x801C
def GLB_HANG_INFO_ISL_A : Fld := (24, 8)
def GLB_HANG_INFO_ISL_B : Fld := (16, 8)
def GLB_HANG_INFO_CLASS : Fld := (0, 3)

/-- spec/01_architecture.md Table 1-11: LSG_STATUS [31:16] RO reset 0x0000; STATE_STATUS [15:0] RO reset 0x0000. -/
def GLB_CMD_STS : Nat := 0x8020
def GLB_CMD_STS_LSG_STATUS : Fld := (16, 16)
def GLB_CMD_STS_STATE_STATUS : Fld := (0, 16)

/-- spec/01_architecture.md Table 1-11: MEMBERS [22:16] RO reset image; PENDING [3:3] RO; GSTATE [2:0] RO reset 0b000. -/
def GLB_LSG_STAT (g : Nat) : Nat := 0x8100 + 0x4 * g
def GLB_LSG_STAT_MEMBERS : Fld := (16, 7)
def GLB_LSG_STAT_PENDING : Fld := (3, 1)
def GLB_LSG_STAT_GSTATE : Fld := (0, 3)

/-- spec/02_configuration_image.md Table 2-14: SRC [4:4] WO; CMD [3:0] WO reset 0x0. -/
def IMG_CTL : Nat := 0xE00000
def IMG_CTL_SRC : Fld := (4, 1)
def IMG_CTL_CMD : Fld := (0, 4)

/-- spec/02_configuration_image.md Table 2-14: STATUS [31:16] RO reset 0x0000; ISTATE [2:0] RO reset 0b000. -/
def IMG_STS : Nat := 0xE00004
def IMG_STS_STATUS : Fld := (16, 16)
def IMG_STS_ISTATE : Fld := (0, 3)

/-- spec/02_configuration_image.md Table 2-14: ADDR [63:0] RW. -/
def IMG_SRC : Nat := 0xE00008

/-- spec/02_configuration_image.md Table 2-14: LEN [21:0] RW. -/
def IMG_LEN : Nat := 0xE00010
def IMG_LEN_LEN : Fld := (0, 22)

/-- spec/02_configuration_image.md Table 2-14: INSTANCE [63:32] RO; RECORD [31:16] RO; CLASS [7:0] RO. -/
def IMG_DETAIL : Nat := 0xE00018
def IMG_DETAIL_INSTANCE : Fld := (32, 32)
def IMG_DETAIL_RECORD : Fld := (16, 16)
def IMG_DETAIL_CLASS : Fld := (0, 8)

/-- spec/02_configuration_image.md Table 2-14: VERSION [31:0] RO. -/
def IMG_VER : Nat := 0xE00020

/-- spec/02_configuration_image.md Table 2-14: COUNT [31:0] RC. -/
def IMG_DROP_CNT : Nat := 0xE00024

/-- spec/02_configuration_image.md Table 2-14: COUNT [31:0] RC. -/
def IMG_DENY_CNT : Nat := 0xE00028

/-- spec/02_configuration_image.md Table 2-14: INSTANCE [63:32] RO; CLASS [31:24] RO; RKIND [23:16] RO; RINDEX [15:0] RO. -/
def IMG_DENY : Nat := 0xE00030
def IMG_DENY_INSTANCE : Fld := (32, 32)
def IMG_DENY_CLASS : Fld := (24, 8)
def IMG_DENY_RKIND : Fld := (16, 8)
def IMG_DENY_RINDEX : Fld := (0, 16)

/-- spec/02_configuration_image.md Table 2-14: VERSION [31:0] RO. -/
def IMG_PVER_YARD (n : Nat) : Nat := 0xE00100 + 0x4 * n

/-- spec/02_configuration_image.md Table 2-14: VERSION [31:0] RO. -/
def IMG_PVER_LINK (l : Nat) : Nat := 0xE00200 + 0x4 * l

/-- spec/03_mast_sequencer.md Table 3-1: AHEAD_MAX [31:16] RW reset 1,250; REPLAY_MAX [11:8] RW reset 0x3; RST_EN [0:0] RW. -/
def SEQ_CTL (y : Nat) : Nat := 0x1000000 + 0x40000 * y
def SEQ_CTL_AHEAD_MAX : Fld := (16, 16)
def SEQ_CTL_REPLAY_MAX : Fld := (8, 4)
def SEQ_CTL_RST_EN : Fld := (0, 1)

/-- spec/03_mast_sequencer.md Table 3-1: REPLAY [19:16] RO; RPASS [5:5] RO; STAGED [4:4] RO; MSTATE [3:0] RO reset 0x0. -/
def SEQ_STS (y : Nat) : Nat := 0x1000004 + 0x40000 * y
def SEQ_STS_REPLAY : Fld := (16, 4)
def SEQ_STS_RPASS : Fld := (5, 1)
def SEQ_STS_STAGED : Fld := (4, 1)
def SEQ_STS_MSTATE : Fld := (0, 4)

/-- spec/03_mast_sequencer.md Table 3-1: ENTRY [14:0] RW. -/
def SEQ_ENTRY (y : Nat) : Nat := 0x1000008 + 0x40000 * y
def SEQ_ENTRY_ENTRY : Fld := (0, 15)

/-- spec/03_mast_sequencer.md Table 3-1: ENTRY [14:0] RW. -/
def SEQ_RST_ENTRY (y : Nat) : Nat := 0x100000C + 0x40000 * y
def SEQ_RST_ENTRY_ENTRY : Fld := (0, 15)

/-- spec/03_mast_sequencer.md Table 3-1: LEN [15:0] RW. -/
def SEQ_PROG_LEN (y : Nat) : Nat := 0x1000010 + 0x40000 * y
def SEQ_PROG_LEN_LEN : Fld := (0, 16)

/-- spec/03_mast_sequencer.md Table 3-1: COUNT [31:0] RW. -/
def SEQ_SHOT_CNT (y : Nat) : Nat := 0x1000014 + 0x40000 * y

/-- spec/03_mast_sequencer.md Table 3-1: INDEX [31:0] RO. -/
def SEQ_SHOT_IDX (y : Nat) : Nat := 0x1000018 + 0x40000 * y

/-- spec/03_mast_sequencer.md Table 3-1: CODE [31:16] RO reset 0x0000; PC [14:0] RO. -/
def SEQ_FAULT (y : Nat) : Nat := 0x100001C + 0x40000 * y
def SEQ_FAULT_CODE : Fld := (16, 16)
def SEQ_FAULT_PC : Fld := (0, 15)

/-- spec/03_mast_sequencer.md Table 3-1: PC [14:0] RO. -/
def SEQ_PC (y : Nat) : Nat := 0x1000020 + 0x40000 * y
def SEQ_PC_PC : Fld := (0, 15)

/-- spec/03_mast_sequencer.md Table 3-1: COUNT [31:0] RC. -/
def SEQ_WDROP_CNT (y : Nat) : Nat := 0x1000024 + 0x40000 * y

/-- spec/03_mast_sequencer.md Table 3-1: COUNT [31:0] RC. -/
def SEQ_TO_CNT (y : Nat) : Nat := 0x1000028 + 0x40000 * y

/-- spec/03_mast_sequencer.md Table 3-1: COUNT [31:0] RC. -/
def SEQ_REPLAY_TOT (y : Nat) : Nat := 0x100002C + 0x40000 * y

/-- spec/03_mast_sequencer.md Table 3-1: TQ [47:0] RO. -/
def SEQ_TQ (y : Nat) : Nat := 0x1000030 + 0x40000 * y
def SEQ_TQ_TQ : Fld := (0, 48)

/-- spec/03_mast_sequencer.md Table 3-1: O [63:0] RO. -/
def SEQ_ORIGIN (y : Nat) : Nat := 0x1000038 + 0x40000 * y

/-- spec/03_mast_sequencer.md Table 3-1: VALUE [47:0] RW. -/
def SEQ_G (y i : Nat) : Nat := 0x1000100 + 0x40000 * y + 0x8 * i
def SEQ_G_VALUE : Fld := (0, 48)

/-- spec/03_mast_sequencer.md Table 3-1: COUNT [19:0] RO. -/
def SEQ_LC (y j : Nat) : Nat := 0x1000200 + 0x40000 * y + 0x4 * j
def SEQ_LC_COUNT : Fld := (0, 20)

/-- spec/04_microcode.md Table 4-8: CMD [3:0] WO reset 0x0. -/
def UC_CTL (y : Nat) : Nat := 0x1000400 + 0x40000 * y
def UC_CTL_CMD : Fld := (0, 4)

/-- spec/04_microcode.md Table 4-8: STATUS [31:16] RO reset 0x0000; PSTATE [2:0] RO reset 0b000. -/
def UC_STS (y : Nat) : Nat := 0x1000404 + 0x40000 * y
def UC_STS_STATUS : Fld := (16, 16)
def UC_STS_PSTATE : Fld := (0, 3)

/-- spec/04_microcode.md Table 4-8: ADDR [63:0] RW. -/
def UC_SRC (y : Nat) : Nat := 0x1000408 + 0x40000 * y

/-- spec/04_microcode.md Table 4-8: LEN [13:0] RW. -/
def UC_LEN (y : Nat) : Nat := 0x1000410 + 0x40000 * y
def UC_LEN_LEN : Fld := (0, 14)

/-- spec/04_microcode.md Table 4-8: ROM [31:16] RO reset 1; LEVEL [15:0] RO. -/
def UC_VER (y : Nat) : Nat := 0x1000414 + 0x40000 * y
def UC_VER_ROM : Fld := (16, 16)
def UC_VER_LEVEL : Fld := (0, 16)

/-- spec/04_microcode.md Table 4-8: FLOOR [15:0] RO. -/
def UC_FLOOR (y : Nat) : Nat := 0x1000418 + 0x40000 * y
def UC_FLOOR_FLOOR : Fld := (0, 16)

/-- spec/04_microcode.md Table 4-8: CRC [31:0] RO. -/
def UC_CRC (y : Nat) : Nat := 0x100041C + 0x40000 * y

/-- spec/04_microcode.md Table 4-8: COUNT [31:0] RC. -/
def UC_ECC_CNT (y : Nat) : Nat := 0x1000420 + 0x40000 * y

/-- spec/05_halyard_waveforms.md Table 5-7: UNDERRUN [3:3] W1C; MRK_COLL [2:2] W1C; JUMP_LATE [1:1] W1C; OVERLAP [0:0] W1C. -/
def HAL_STS (y : Nat) : Nat := 0x1000800 + 0x40000 * y
def HAL_STS_UNDERRUN : Fld := (3, 1)
def HAL_STS_MRK_COLL : Fld := (2, 1)
def HAL_STS_JUMP_LATE : Fld := (1, 1)
def HAL_STS_OVERLAP : Fld := (0, 1)

/-- spec/05_halyard_waveforms.md Table 5-7: IDX [11:0] RW. -/
def HAL_SEG_IDX (y : Nat) : Nat := 0x1000804 + 0x40000 * y
def HAL_SEG_IDX_IDX : Fld := (0, 12)

/-- spec/05_halyard_waveforms.md Table 5-7: START [20:0] RW. -/
def HAL_SEG_START (y : Nat) : Nat := 0x1000808 + 0x40000 * y
def HAL_SEG_START_START : Fld := (0, 21)

/-- spec/05_halyard_waveforms.md Table 5-7: LEN [19:0] RW. -/
def HAL_SEG_LEN (y : Nat) : Nat := 0x100080C + 0x40000 * y
def HAL_SEG_LEN_LEN : Fld := (0, 20)

/-- spec/05_halyard_waveforms.md Table 5-7: COUNT [19:0] RW. -/
def HAL_SEG_LOOP (y : Nat) : Nat := 0x1000810 + 0x40000 * y
def HAL_SEG_LOOP_COUNT : Fld := (0, 20)

/-- spec/05_halyard_waveforms.md Table 5-7: NEXT_EN [12:12] RW; NEXT [11:0] RW. -/
def HAL_SEG_LINK (y : Nat) : Nat := 0x1000814 + 0x40000 * y
def HAL_SEG_LINK_NEXT_EN : Fld := (12, 1)
def HAL_SEG_LINK_NEXT : Fld := (0, 12)

/-- spec/05_halyard_waveforms.md Table 5-7: STATE [1:0] WO reset 0b00. -/
def HAL_SEG_CTL (y : Nat) : Nat := 0x1000818 + 0x40000 * y
def HAL_SEG_CTL_STATE : Fld := (0, 2)

/-- spec/05_halyard_waveforms.md Table 5-7: STATUS [31:16] RO reset 0x0000; SSTATE [2:0] RO reset 0b000. -/
def HAL_SEG_STS (y : Nat) : Nat := 0x100081C + 0x40000 * y
def HAL_SEG_STS_STATUS : Fld := (16, 16)
def HAL_SEG_STS_SSTATE : Fld := (0, 3)

/-- spec/05_halyard_waveforms.md Table 5-7: COUNT [31:0] RC. -/
def HAL_WDROP_CNT (y : Nat) : Nat := 0x1000820 + 0x40000 * y

/-- spec/05_halyard_waveforms.md Table 5-7: COUNT [31:0] RC. -/
def HAL_OVL_CNT (y : Nat) : Nat := 0x1000824 + 0x40000 * y

/-- spec/05_halyard_waveforms.md Table 5-7: COUNT [31:0] RC. -/
def HAL_JLATE_CNT (y : Nat) : Nat := 0x1000828 + 0x40000 * y

/-- spec/05_halyard_waveforms.md Table 5-7: COUNT [31:0] RC. -/
def HAL_JDROP_CNT (y : Nat) : Nat := 0x100082C + 0x40000 * y

/-- spec/05_halyard_waveforms.md Table 5-7: PIN [5:0] RW reset n. -/
def HAL_MRK_PIN (y : Nat) : Nat := 0x1000830 + 0x40000 * y
def HAL_MRK_PIN_PIN : Fld := (0, 6)

/-- spec/05_halyard_waveforms.md Table 5-7: COUNT [31:0] RC. -/
def HAL_MRK_COLL_CNT (y : Nat) : Nat := 0x1000834 + 0x40000 * y

/-- spec/05_halyard_waveforms.md Table 5-7: FALL_DLY [27:16] RW; RISE_DLY [11:0] RW. -/
def HAL_MRK_SET (y s : Nat) : Nat := 0x1000840 + 0x40000 * y + 0x4 * s
def HAL_MRK_SET_FALL_DLY : Fld := (16, 12)
def HAL_MRK_SET_RISE_DLY : Fld := (0, 12)

/-- spec/05_halyard_waveforms.md Table 5-7: STOP [12:12] RW; SEG [11:0] RW. -/
def HAL_JUMP (y t : Nat) : Nat := 0x1000880 + 0x40000 * y + 0x4 * t
def HAL_JUMP_STOP : Fld := (12, 1)
def HAL_JUMP_SEG : Fld := (0, 12)

/-- spec/05_halyard_waveforms.md Table 5-7: SEG [27:16] RO; JPEND [3:3] RO; TSTATE [2:0] RO reset 0b000. -/
def HAL_TGT_STS (y t : Nat) : Nat := 0x1000900 + 0x40000 * y + 0x4 * t
def HAL_TGT_STS_SEG : Fld := (16, 12)
def HAL_TGT_STS_JPEND : Fld := (3, 1)
def HAL_TGT_STS_TSTATE : Fld := (0, 3)

/-- spec/05_halyard_waveforms.md Table 5-7: EN [31:31] RW; BLK [27:16] RW; RING [11:0] RW. -/
def HAL_STR_CTL (y c : Nat) : Nat := 0x1000A00 + 0x40000 * y + 0x20 * c
def HAL_STR_CTL_EN : Fld := (31, 1)
def HAL_STR_CTL_BLK : Fld := (16, 12)
def HAL_STR_CTL_RING : Fld := (0, 12)

/-- spec/05_halyard_waveforms.md Table 5-7: QID [17:0] RW. -/
def HAL_STR_QID (y c : Nat) : Nat := 0x1000A04 + 0x40000 * y + 0x20 * c
def HAL_STR_QID_QID : Fld := (0, 18)

/-- spec/05_halyard_waveforms.md Table 5-7: STATUS [31:16] RO reset 0x0000; NOREPLAY [2:2] RO; STARVED [1:1] RO; RUNNING [0:0] RO. -/
def HAL_STR_STS (y c : Nat) : Nat := 0x1000A08 + 0x40000 * y + 0x20 * c
def HAL_STR_STS_STATUS : Fld := (16, 16)
def HAL_STR_STS_NOREPLAY : Fld := (2, 1)
def HAL_STR_STS_STARVED : Fld := (1, 1)
def HAL_STR_STS_RUNNING : Fld := (0, 1)

/-- spec/05_halyard_waveforms.md Table 5-7: AVAIL [19:0] RO. -/
def HAL_STR_LVL (y c : Nat) : Nat := 0x1000A0C + 0x40000 * y + 0x20 * c
def HAL_STR_LVL_AVAIL : Fld := (0, 20)

/-- spec/05_halyard_waveforms.md Table 5-7: PROT [19:0] RO. -/
def HAL_STR_PROT (y c : Nat) : Nat := 0x1000A10 + 0x40000 * y + 0x20 * c
def HAL_STR_PROT_PROT : Fld := (0, 20)

/-- spec/05_halyard_waveforms.md Table 5-7: COUNT [31:0] RC. -/
def HAL_STR_UNDER_CNT (y c : Nat) : Nat := 0x1000A14 + 0x40000 * y + 0x20 * c

/-- spec/05_halyard_waveforms.md Table 5-7: COUNT [31:0] RC. -/
def HAL_STR_SKIP_CNT (y c : Nat) : Nat := 0x1000A18 + 0x40000 * y + 0x20 * c

/-- spec/05_halyard_waveforms.md Table 5-7: W [31:0] RW. -/
def HAL_PRM (y p w : Nat) : Nat := 0x1001000 + 0x40000 * y + 0x20 * p + 0x4 * w

/-- spec/06_tone_synthesis.md Table 6-8: SEAL_EN [7:4] RW reset image; SEAL [3:0] RW. -/
def TON_SHD_CTL (y : Nat) : Nat := 0x1001800 + 0x40000 * y
def TON_SHD_CTL_SEAL_EN : Fld := (4, 4)
def TON_SHD_CTL_SEAL : Fld := (0, 4)

/-- spec/06_tone_synthesis.md Table 6-8: SSTATE [7:0] RO reset 0x00. -/
def TON_SHD_STS (y : Nat) : Nat := 0x1001804 + 0x40000 * y
def TON_SHD_STS_SSTATE : Fld := (0, 8)

/-- spec/06_tone_synthesis.md Table 6-8: MASK [3:0] WO reset 0x0. -/
def TON_HO_CMD (y : Nat) : Nat := 0x1001808 + 0x40000 * y
def TON_HO_CMD_MASK : Fld := (0, 4)

/-- spec/06_tone_synthesis.md Table 6-8: STATUS [31:16] RO reset 0x0000; PENDING [4:4] RO; SKIPPED [3:0] RO reset 0x0. -/
def TON_HO_STS (y : Nat) : Nat := 0x100180C + 0x40000 * y
def TON_HO_STS_STATUS : Fld := (16, 16)
def TON_HO_STS_PENDING : Fld := (4, 1)
def TON_HO_STS_SKIPPED : Fld := (0, 4)

/-- spec/06_tone_synthesis.md Table 6-8: REL [63:0] RW. -/
def TON_HO_REL (y : Nat) : Nat := 0x1001810 + 0x40000 * y

/-- spec/06_tone_synthesis.md Table 6-8: COUNT [31:0] RC. -/
def TON_SHADOW_LATE (y : Nat) : Nat := 0x1001818 + 0x40000 * y

/-- spec/06_tone_synthesis.md Table 6-8: COUNT [31:0] RC. -/
def TON_SHD_REJ_CNT (y : Nat) : Nat := 0x100181C + 0x40000 * y

/-- spec/06_tone_synthesis.md Table 6-8: COUNT [31:0] RC. -/
def TON_HO_SKIP_CNT (y : Nat) : Nat := 0x1001820 + 0x40000 * y

/-- spec/06_tone_synthesis.md Table 6-8: COUNT [31:0] RC. -/
def TON_WDROP_CNT (y : Nat) : Nat := 0x1001824 + 0x40000 * y

/-- spec/06_tone_synthesis.md Table 6-8: PF_REJ [4:4] W1C; SHD_REJ [3:3] W1C; HO_SKIP [2:2] W1C; CLIP [1:1] W1C; SAT [0:0] W1C. -/
def TON_STS (y : Nat) : Nat := 0x1001828 + 0x40000 * y
def TON_STS_PF_REJ : Fld := (4, 1)
def TON_STS_SHD_REJ : Fld := (3, 1)
def TON_STS_HO_SKIP : Fld := (2, 1)
def TON_STS_CLIP : Fld := (1, 1)
def TON_STS_SAT : Fld := (0, 1)

/-- spec/06_tone_synthesis.md Table 6-8: MUTE [6:6] SHD reset image; MODE [5:4] SHD reset image; OUT_SHIFT [2:0] SHD reset image. -/
def TON_TXD_CFG (y : Nat) : Nat := 0x1001830 + 0x40000 * y
def TON_TXD_CFG_MUTE : Fld := (6, 1)
def TON_TXD_CFG_MODE : Fld := (4, 2)
def TON_TXD_CFG_OUT_SHIFT : Fld := (0, 3)

/-- spec/06_tone_synthesis.md Table 6-8: FS [3:0] RW reset image. -/
def TON_TXD_FS (y : Nat) : Nat := 0x1001834 + 0x40000 * y
def TON_TXD_FS_FS : Fld := (0, 4)

/-- spec/06_tone_synthesis.md Table 6-8: COUNT [31:0] RC. -/
def TON_TXD_CLIP_CNT (y : Nat) : Nat := 0x1001838 + 0x40000 * y

/-- spec/06_tone_synthesis.md Table 6-8: MUTE [6:6] SHD reset image; MODE [5:4] SHD reset image; OUT_SHIFT [2:0] SHD reset image. -/
def TON_TXP_CFG (y : Nat) : Nat := 0x1001840 + 0x40000 * y
def TON_TXP_CFG_MUTE : Fld := (6, 1)
def TON_TXP_CFG_MODE : Fld := (4, 2)
def TON_TXP_CFG_OUT_SHIFT : Fld := (0, 3)

/-- spec/06_tone_synthesis.md Table 6-8: FS [3:0] RW reset image. -/
def TON_TXP_FS (y : Nat) : Nat := 0x1001844 + 0x40000 * y
def TON_TXP_FS_FS : Fld := (0, 4)

/-- spec/06_tone_synthesis.md Table 6-8: COUNT [31:0] RC. -/
def TON_TXP_CLIP_CNT (y : Nat) : Nat := 0x1001848 + 0x40000 * y

/-- spec/06_tone_synthesis.md Table 6-8: F [39:0] RW reset image. -/
def TON_FREQ0 (y t : Nat) : Nat := 0x1002000 + 0x40000 * y + 0x40 * t
def TON_FREQ0_F : Fld := (0, 40)

/-- spec/06_tone_synthesis.md Table 6-8: THETA [31:0] RW reset image. -/
def TON_PHASE0 (y t : Nat) : Nat := 0x1002008 + 0x40000 * y + 0x40 * t

/-- spec/06_tone_synthesis.md Table 6-8: GAIN [15:0] SHD reset image. -/
def TON_GAIN (y t : Nat) : Nat := 0x100200C + 0x40000 * y + 0x40 * t
def TON_GAIN_GAIN : Fld := (0, 16)

/-- spec/06_tone_synthesis.md Table 6-8: F [39:0] RO reset image. -/
def TON_FRAME_F (y t : Nat) : Nat := 0x1002010 + 0x40000 * y + 0x40 * t
def TON_FRAME_F_F : Fld := (0, 40)

/-- spec/06_tone_synthesis.md Table 6-8: THETA [31:0] RO reset image. -/
def TON_FRAME_P (y t : Nat) : Nat := 0x1002018 + 0x40000 * y + 0x40 * t

/-- spec/06_tone_synthesis.md Table 6-8: FX [1:1] RW; FZ [0:0] RW. -/
def TON_PF (y t : Nat) : Nat := 0x100201C + 0x40000 * y + 0x40 * t
def TON_PF_FX : Fld := (1, 1)
def TON_PF_FZ : Fld := (0, 1)

/-- spec/06_tone_synthesis.md Table 6-8: OUT [23:22] RO reset image; INDEX [21:16] RO reset image; TSTATE [1:0] RO reset image. -/
def TON_TSTS (y t : Nat) : Nat := 0x1002020 + 0x40000 * y + 0x40 * t
def TON_TSTS_OUT : Fld := (22, 2)
def TON_TSTS_INDEX : Fld := (16, 6)
def TON_TSTS_TSTATE : Fld := (0, 2)

/-- spec/06_tone_synthesis.md Table 6-8: COUNT [31:0] RC. -/
def TON_SAT_CNT (y t : Nat) : Nat := 0x1002024 + 0x40000 * y + 0x40 * t

/-- spec/07_flux_bias.md Table 7-6: IIR_EN [19:16] SHD reset image; FIR_EN [12:12] SHD reset image; HOLD [10:8] SHD reset image; DGL [5:4] SHD reset image. -/
def FLX_CFG (y f : Nat) : Nat := 0x1002800 + 0x40000 * y + 0x100 * f
def FLX_CFG_IIR_EN : Fld := (16, 4)
def FLX_CFG_FIR_EN : Fld := (12, 1)
def FLX_CFG_HOLD : Fld := (8, 3)
def FLX_CFG_DGL : Fld := (4, 2)

/-- spec/07_flux_bias.md Table 7-6: GAIN [15:0] SHD reset image. -/
def FLX_GAIN (y f : Nat) : Nat := 0x1002804 + 0x40000 * y + 0x100 * f
def FLX_GAIN_GAIN : Fld := (0, 16)

/-- spec/07_flux_bias.md Table 7-6: SAT [2:2] W1C; FSTATE [1:0] RO reset 0b00. -/
def FLX_STS (y f : Nat) : Nat := 0x1002808 + 0x40000 * y + 0x100 * f
def FLX_STS_SAT : Fld := (2, 1)
def FLX_STS_FSTATE : Fld := (0, 2)

/-- spec/07_flux_bias.md Table 7-6: COUNT [31:0] RC. -/
def FLX_SAT_CNT (y f : Nat) : Nat := 0x100280C + 0x40000 * y + 0x100 * f

/-- spec/07_flux_bias.md Table 7-6: COUNT [31:0] RC. -/
def FLX_DGL_CNT (y f : Nat) : Nat := 0x1002810 + 0x40000 * y + 0x100 * f

/-- spec/07_flux_bias.md Table 7-6: K [23:0] SHD reset image. -/
def FLX_IIR_K (y f i : Nat) : Nat := 0x1002820 + 0x40000 * y + 0x100 * f + 0x8 * i
def FLX_IIR_K_K : Fld := (0, 24)

/-- spec/07_flux_bias.md Table 7-6: L [23:0] SHD reset image. -/
def FLX_IIR_L (y f i : Nat) : Nat := 0x1002824 + 0x40000 * y + 0x100 * f + 0x8 * i
def FLX_IIR_L_L : Fld := (0, 24)

/-- spec/07_flux_bias.md Table 7-6: C [17:0] SHD reset image. -/
def FLX_FIR (y f j : Nat) : Nat := 0x1002840 + 0x40000 * y + 0x100 * f + 0x4 * j
def FLX_FIR_C : Fld := (0, 18)

/-- spec/07_flux_bias.md Table 7-6: COUNT [31:0] RC. -/
def FLX_WDROP_CNT (y : Nat) : Nat := 0x1002C00 + 0x40000 * y

/-- spec/07_flux_bias.md Table 7-6: SEL [2:0] RW. -/
def FLX_RB (y : Nat) : Nat := 0x1002C04 + 0x40000 * y
def FLX_RB_SEL : Fld := (0, 3)

/-- spec/07_flux_bias.md Table 7-6: CODE [19:0] RW reset image. -/
def BIA_CODE (y : Nat) : Nat := 0x1002D00 + 0x40000 * y
def BIA_CODE_CODE : Fld := (0, 20)

/-- spec/07_flux_bias.md Table 7-6: STEP [31:16] SHD reset 64; RB_SEL [5:5] SHD; OL_EN [4:4] SHD reset 1; FLT_ACT [3:3] SHD. -/
def BIA_CFG (y : Nat) : Nat := 0x1002D04 + 0x40000 * y
def BIA_CFG_STEP : Fld := (16, 16)
def BIA_CFG_RB_SEL : Fld := (5, 1)
def BIA_CFG_OL_EN : Fld := (4, 1)
def BIA_CFG_FLT_ACT : Fld := (3, 1)

/-- spec/07_flux_bias.md Table 7-6: BSTATE [9:8] RO reset 0b01; LATCHED [7:7] W1C; OPEN_SEEN [6:6] W1C; COMPL_SEEN [5:5] W1C; SLEWING [4:4] RO; LOAD [1:0] RO reset 0b00. -/
def BIA_STS (y : Nat) : Nat := 0x1002D08 + 0x40000 * y
def BIA_STS_BSTATE : Fld := (8, 2)
def BIA_STS_LATCHED : Fld := (7, 1)
def BIA_STS_OPEN_SEEN : Fld := (6, 1)
def BIA_STS_COMPL_SEEN : Fld := (5, 1)
def BIA_STS_SLEWING : Fld := (4, 1)
def BIA_STS_LOAD : Fld := (0, 2)

/-- spec/07_flux_bias.md Table 7-6: ACT [19:0] RO. -/
def BIA_ACT (y : Nat) : Nat := 0x1002D0C + 0x40000 * y
def BIA_ACT_ACT : Fld := (0, 20)

/-- spec/07_flux_bias.md Table 7-6: COUNT [31:0] RC. -/
def BIA_EVT_CNT (y : Nat) : Nat := 0x1002D10 + 0x40000 * y

/-- spec/08_readout_converters.md Table 8-10: ZONE [8:8] RW reset image; FS [4:2] RW reset image; INSEL [1:0] RW reset image. -/
def CNV_CFG (q a : Nat) : Nat := 0x2000000 + 0x400000 * q + 0x1000 * a
def CNV_CFG_ZONE : Fld := (8, 1)
def CNV_CFG_FS : Fld := (2, 3)
def CNV_CFG_INSEL : Fld := (0, 2)

/-- spec/08_readout_converters.md Table 8-10: SETTLING [2:2] RO; SAT [1:1] W1C; OVR [0:0] W1C. -/
def CNV_STS (q a : Nat) : Nat := 0x2000004 + 0x400000 * q + 0x1000 * a
def CNV_STS_SETTLING : Fld := (2, 1)
def CNV_STS_SAT : Fld := (1, 1)
def CNV_STS_OVR : Fld := (0, 1)

/-- spec/08_readout_converters.md Table 8-10: GAIN [31:16] RW reset image; OFF [15:0] RW reset image. -/
def CNV_CORR_A (q a : Nat) : Nat := 0x2000008 + 0x400000 * q + 0x1000 * a
def CNV_CORR_A_GAIN : Fld := (16, 16)
def CNV_CORR_A_OFF : Fld := (0, 16)

/-- spec/08_readout_converters.md Table 8-10: GAIN [31:16] RW reset image; OFF [15:0] RW reset image. -/
def CNV_CORR_B (q a : Nat) : Nat := 0x200000C + 0x400000 * q + 0x1000 * a
def CNV_CORR_B_GAIN : Fld := (16, 16)
def CNV_CORR_B_OFF : Fld := (0, 16)

/-- spec/08_readout_converters.md Table 8-10: COUNT [31:0] RC. -/
def CNV_CLIP_CNT (q a : Nat) : Nat := 0x2000010 + 0x400000 * q + 0x1000 * a

/-- spec/08_readout_converters.md Table 8-10: COUNT [31:0] RC. -/
def CNV_WDROP_CNT (q a : Nat) : Nat := 0x2000014 + 0x400000 * q + 0x1000 * a

/-- spec/08_readout_converters.md Table 8-10: SCAN_LEN [11:8] RW reset image; DR [6:4] RW reset image; SCAN_EN [0:0] RW. -/
def MON_CTL (q b : Nat) : Nat := 0x2010000 + 0x400000 * q + 0x1000 * b
def MON_CTL_SCAN_LEN : Fld := (8, 4)
def MON_CTL_DR : Fld := (4, 3)
def MON_CTL_SCAN_EN : Fld := (0, 1)

/-- spec/08_readout_converters.md Table 8-10: STATUS [31:16] RO reset 0x0000; CAL_DEFERRED [5:5] W1C; XCHK_FAIL [4:4] W1C; OVR [3:3] W1C; MSTATE [2:0] RO reset 0b000. -/
def MON_STS (q b : Nat) : Nat := 0x2010004 + 0x400000 * q + 0x1000 * b
def MON_STS_STATUS : Fld := (16, 16)
def MON_STS_CAL_DEFERRED : Fld := (5, 1)
def MON_STS_XCHK_FAIL : Fld := (4, 1)
def MON_STS_OVR : Fld := (3, 1)
def MON_STS_MSTATE : Fld := (0, 3)

/-- spec/08_readout_converters.md Table 8-10: TAG [31:20] WO; INPUT [2:0] WO. -/
def MON_INJ (q b : Nat) : Nat := 0x2010008 + 0x400000 * q + 0x1000 * b
def MON_INJ_TAG : Fld := (20, 12)
def MON_INJ_INPUT : Fld := (0, 3)

/-- spec/08_readout_converters.md Table 8-10: ACTIVE [3:3] RO; WAIT [2:0] RO. -/
def MON_INJ_Q (q b : Nat) : Nat := 0x201000C + 0x400000 * q + 0x1000 * b
def MON_INJ_Q_ACTIVE : Fld := (3, 1)
def MON_INJ_Q_WAIT : Fld := (0, 3)

/-- spec/08_readout_converters.md Table 8-10: WORD [63:0] RO. -/
def MON_INJ_RES (q b : Nat) : Nat := 0x2010010 + 0x400000 * q + 0x1000 * b

/-- spec/08_readout_converters.md Table 8-10: EN [31:31] RW; XIN [30:27] RW; PER [26:19] RW; THR [15:0] RW. -/
def MON_XCHK (q b : Nat) : Nat := 0x2010018 + 0x400000 * q + 0x1000 * b
def MON_XCHK_EN : Fld := (31, 1)
def MON_XCHK_XIN : Fld := (27, 4)
def MON_XCHK_PER : Fld := (19, 8)
def MON_XCHK_THR : Fld := (0, 16)

/-- spec/08_readout_converters.md Table 8-10: COUNT [31:0] RC. -/
def MON_XCHK_FAIL_CNT (q b : Nat) : Nat := 0x201001C + 0x400000 * q + 0x1000 * b

/-- spec/08_readout_converters.md Table 8-10: COUNT [31:0] RC. -/
def MON_XCHK_SKIP_CNT (q b : Nat) : Nat := 0x2010020 + 0x400000 * q + 0x1000 * b

/-- spec/08_readout_converters.md Table 8-10: COUNT [31:0] RC. -/
def MON_CAL_DEF_CNT (q b : Nat) : Nat := 0x2010024 + 0x400000 * q + 0x1000 * b

/-- spec/08_readout_converters.md Table 8-10: COUNT [31:0] RC. -/
def MON_INJ_OVF_CNT (q b : Nat) : Nat := 0x2010028 + 0x400000 * q + 0x1000 * b

/-- spec/08_readout_converters.md Table 8-10: COUNT [31:0] RC. -/
def MON_WDROP_CNT (q b : Nat) : Nat := 0x201002C + 0x400000 * q + 0x1000 * b

/-- spec/08_readout_converters.md Table 8-10: COUNT [15:8] RW reset image; INPUT [2:0] RW reset image. -/
def MON_SCAN (q b s : Nat) : Nat := 0x2010040 + 0x400000 * q + 0x1000 * b + 0x4 * s
def MON_SCAN_COUNT : Fld := (8, 8)
def MON_SCAN_INPUT : Fld := (0, 3)

/-- spec/08_readout_converters.md Table 8-13: PAGE [12:0] RW. -/
def CNV_RING_BASE (q a : Nat) : Nat := 0x2000100 + 0x400000 * q + 0x1000 * a
def CNV_RING_BASE_PAGE : Fld := (0, 13)

/-- spec/08_readout_converters.md Table 8-13: PAGES [13:0] RW. -/
def CNV_RING_PAGES (q a : Nat) : Nat := 0x2000104 + 0x400000 * q + 0x1000 * a
def CNV_RING_PAGES_PAGES : Fld := (0, 14)

/-- spec/08_readout_converters.md Table 8-13: WM [16:0] RW. -/
def CNV_RING_WM (q a : Nat) : Nat := 0x2000108 + 0x400000 * q + 0x1000 * a
def CNV_RING_WM_WM : Fld := (0, 17)

/-- spec/08_readout_converters.md Table 8-13: EN [31:31] RW; RQ [6:0] RW. -/
def CNV_RING_CTL (q a : Nat) : Nat := 0x200010C + 0x400000 * q + 0x1000 * a
def CNV_RING_CTL_EN : Fld := (31, 1)
def CNV_RING_CTL_RQ : Fld := (0, 7)

/-- spec/08_readout_converters.md Table 8-13: STATUS [31:16] RO reset 0x0000; FULL [2:2] W1C; REQ [1:1] RO; RUNNING [0:0] RO. -/
def CNV_RING_STS (q a : Nat) : Nat := 0x2000110 + 0x400000 * q + 0x1000 * a
def CNV_RING_STS_STATUS : Fld := (16, 16)
def CNV_RING_STS_FULL : Fld := (2, 1)
def CNV_RING_STS_REQ : Fld := (1, 1)
def CNV_RING_STS_RUNNING : Fld := (0, 1)

/-- spec/08_readout_converters.md Table 8-13: WP [31:0] RO. -/
def CNV_RING_WP (q a : Nat) : Nat := 0x2000118 + 0x400000 * q + 0x1000 * a

/-- spec/08_readout_converters.md Table 8-13: RP [31:0] RW. -/
def CNV_RING_RP (q a : Nat) : Nat := 0x200011C + 0x400000 * q + 0x1000 * a

/-- spec/08_readout_converters.md Table 8-13: COUNT [31:0] RC. -/
def CNV_RING_DROP_CNT (q a : Nat) : Nat := 0x2000120 + 0x400000 * q + 0x1000 * a

/-- spec/08_readout_converters.md Table 8-13: PAGE [12:0] RW. -/
def MON_RING_BASE (q b : Nat) : Nat := 0x2010100 + 0x400000 * q + 0x1000 * b
def MON_RING_BASE_PAGE : Fld := (0, 13)

/-- spec/08_readout_converters.md Table 8-13: PAGES [13:0] RW. -/
def MON_RING_PAGES (q b : Nat) : Nat := 0x2010104 + 0x400000 * q + 0x1000 * b
def MON_RING_PAGES_PAGES : Fld := (0, 14)

/-- spec/08_readout_converters.md Table 8-13: WM [16:0] RW. -/
def MON_RING_WM (q b : Nat) : Nat := 0x2010108 + 0x400000 * q + 0x1000 * b
def MON_RING_WM_WM : Fld := (0, 17)

/-- spec/08_readout_converters.md Table 8-13: EN [31:31] RW; RQ [6:0] RW. -/
def MON_RING_CTL (q b : Nat) : Nat := 0x201010C + 0x400000 * q + 0x1000 * b
def MON_RING_CTL_EN : Fld := (31, 1)
def MON_RING_CTL_RQ : Fld := (0, 7)

/-- spec/08_readout_converters.md Table 8-13: STATUS [31:16] RO reset 0x0000; FULL [2:2] W1C; REQ [1:1] RO; RUNNING [0:0] RO. -/
def MON_RING_STS (q b : Nat) : Nat := 0x2010110 + 0x400000 * q + 0x1000 * b
def MON_RING_STS_STATUS : Fld := (16, 16)
def MON_RING_STS_FULL : Fld := (2, 1)
def MON_RING_STS_REQ : Fld := (1, 1)
def MON_RING_STS_RUNNING : Fld := (0, 1)

/-- spec/08_readout_converters.md Table 8-13: WP [31:0] RO. -/
def MON_RING_WP (q b : Nat) : Nat := 0x2010118 + 0x400000 * q + 0x1000 * b

/-- spec/08_readout_converters.md Table 8-13: RP [31:0] RW. -/
def MON_RING_RP (q b : Nat) : Nat := 0x201011C + 0x400000 * q + 0x1000 * b

/-- spec/08_readout_converters.md Table 8-13: COUNT [31:0] RC. -/
def MON_RING_DROP_CNT (q b : Nat) : Nat := 0x2010120 + 0x400000 * q + 0x1000 * b

/-- spec/08_readout_converters.md Table 8-14: ARM [31:31] RW; RAW [30:30] RW reset image; SRC [29:28] RW reset image; TAG [27:16] RW; EDGE [7:7] RW; SEL [6:0] RW. -/
def CNV_ACQ_CTL (y c : Nat) : Nat := 0x1003000 + 0x40000 * y + 0x10 * c
def CNV_ACQ_CTL_ARM : Fld := (31, 1)
def CNV_ACQ_CTL_RAW : Fld := (30, 1)
def CNV_ACQ_CTL_SRC : Fld := (28, 2)
def CNV_ACQ_CTL_TAG : Fld := (16, 12)
def CNV_ACQ_CTL_EDGE : Fld := (7, 1)
def CNV_ACQ_CTL_SEL : Fld := (0, 7)

/-- spec/08_readout_converters.md Table 8-14: DLY [15:0] RW. -/
def CNV_ACQ_DLY (y c : Nat) : Nat := 0x1003004 + 0x40000 * y + 0x10 * c
def CNV_ACQ_DLY_DLY : Fld := (0, 16)

/-- spec/08_readout_converters.md Table 8-14: LEN [23:0] RW. -/
def CNV_ACQ_LEN (y c : Nat) : Nat := 0x1003008 + 0x40000 * y + 0x10 * c
def CNV_ACQ_LEN_LEN : Fld := (0, 24)

/-- spec/08_readout_converters.md Table 8-14: STATUS [31:16] RO reset 0x0000; ASTATE [1:0] RO reset 0b00. -/
def CNV_ACQ_STS (y c : Nat) : Nat := 0x100300C + 0x40000 * y + 0x10 * c
def CNV_ACQ_STS_STATUS : Fld := (16, 16)
def CNV_ACQ_STS_ASTATE : Fld := (0, 2)

/-- spec/08_readout_converters.md Table 8-14: COUNT [31:0] RC. -/
def CNV_ACQ_OVL_CNT (y : Nat) : Nat := 0x1003080 + 0x40000 * y

/-- spec/08_readout_converters.md Table 8-14: COUNT [31:0] RC. -/
def CNV_ACQ_WDROP_CNT (y : Nat) : Nat := 0x1003084 + 0x40000 * y

/-- spec/09_demodulation.md Table 9-7: COUNT [31:0] RC. -/
def DEM_WDROP_CNT (y : Nat) : Nat := 0x1003100 + 0x40000 * y

/-- spec/09_demodulation.md Table 9-7: COUNT [31:0] RC. -/
def DEM_XFADE_HELD (y : Nat) : Nat := 0x1003104 + 0x40000 * y

/-- spec/09_demodulation.md Table 9-7: COUNT [31:0] RC. -/
def DEM_MISS_CNT (y : Nat) : Nat := 0x1003108 + 0x40000 * y

/-- spec/09_demodulation.md Table 9-7: RUN [31:31] RW reset image; SECOND [5:4] RW reset image; FIRSEL [0:0] RW reset image. -/
def DEM_CTL (y c : Nat) : Nat := 0x1003200 + 0x40000 * y + 0x200 * c
def DEM_CTL_RUN : Fld := (31, 1)
def DEM_CTL_SECOND : Fld := (4, 2)
def DEM_CTL_FIRSEL : Fld := (0, 1)

/-- spec/09_demodulation.md Table 9-7: STATUS [31:16] RO reset 0x0000; SHORT [11:11] W1C; ZONE_MISS [10:10] RO; SAT [9:9] W1C; HELD [7:7] RO; HBANK [6:6] RO; FADING [5:5] RO; ABANK [4:4] RO reset image; CSTATE [1:0] RO reset 0b01. -/
def DEM_STS (y c : Nat) : Nat := 0x1003204 + 0x40000 * y + 0x200 * c
def DEM_STS_STATUS : Fld := (16, 16)
def DEM_STS_SHORT : Fld := (11, 1)
def DEM_STS_ZONE_MISS : Fld := (10, 1)
def DEM_STS_SAT : Fld := (9, 1)
def DEM_STS_HELD : Fld := (7, 1)
def DEM_STS_HBANK : Fld := (6, 1)
def DEM_STS_FADING : Fld := (5, 1)
def DEM_STS_ABANK : Fld := (4, 1)
def DEM_STS_CSTATE : Fld := (0, 2)

/-- spec/09_demodulation.md Table 9-7: F [39:0] SHD reset image. -/
def DEM_FREQ (y c : Nat) : Nat := 0x1003208 + 0x40000 * y + 0x200 * c
def DEM_FREQ_F : Fld := (0, 40)

/-- spec/09_demodulation.md Table 9-7: PHI [31:0] SHD reset image. -/
def DEM_PHASE (y c : Nat) : Nat := 0x1003210 + 0x40000 * y + 0x200 * c

/-- spec/09_demodulation.md Table 9-7: INT [13:6] SHD reset image; FRAC [5:0] SHD reset image. -/
def DEM_DLY (y c : Nat) : Nat := 0x1003214 + 0x40000 * y + 0x200 * c
def DEM_DLY_INT : Fld := (6, 8)
def DEM_DLY_FRAC : Fld := (0, 6)

/-- spec/09_demodulation.md Table 9-7: BANK [0:0] SHD reset image. -/
def DEM_KSEL (y c : Nat) : Nat := 0x1003218 + 0x40000 * y + 0x200 * c
def DEM_KSEL_BANK : Fld := (0, 1)

/-- spec/09_demodulation.md Table 9-7: XF [27:16] SHD reset image; SHIFT [4:0] SHD reset image. -/
def DEM_KCFG (y c : Nat) : Nat := 0x100321C + 0x40000 * y + 0x200 * c
def DEM_KCFG_XF : Fld := (16, 12)
def DEM_KCFG_SHIFT : Fld := (0, 5)

/-- spec/09_demodulation.md Table 9-7: LEN_B [25:16] RW reset image; LEN_A [9:0] RW reset image. -/
def DEM_KLEN (y c : Nat) : Nat := 0x1003220 + 0x40000 * y + 0x200 * c
def DEM_KLEN_LEN_B : Fld := (16, 10)
def DEM_KLEN_LEN_A : Fld := (0, 10)

/-- spec/09_demodulation.md Table 9-7: STEP [27:16] RO; XF_RUN [11:0] RO. -/
def DEM_FADE (y c : Nat) : Nat := 0x1003224 + 0x40000 * y + 0x200 * c
def DEM_FADE_STEP : Fld := (16, 12)
def DEM_FADE_XF_RUN : Fld := (0, 12)

/-- spec/09_demodulation.md Table 9-7: COUNT [31:0] RC. -/
def DEM_SAT_CNT (y c : Nat) : Nat := 0x1003228 + 0x40000 * y + 0x200 * c

/-- spec/09_demodulation.md Table 9-7: COUNT [31:0] RC. -/
def DEM_UNS_CNT (y c : Nat) : Nat := 0x100322C + 0x40000 * y + 0x200 * c

/-- spec/09_demodulation.md Table 9-7: C [17:0] RW. -/
def DEM_FIR (y c i : Nat) : Nat := 0x1003300 + 0x40000 * y + 0x200 * c + 0x4 * i
def DEM_FIR_C : Fld := (0, 18)

/-- spec/09_demodulation.md Table 9-7: WI [31:16] RW; WQ [15:0] RW. -/
def DEM_KW (y c b m : Nat) : Nat := 0x1008000 + 0x40000 * y + 0x1000 * c + 0x800 * b + 0x4 * m
def DEM_KW_WI : Fld := (16, 16)
def DEM_KW_WQ : Fld := (0, 16)

/-- spec/10_discrimination_sheet.md Table 10-5: COUNT [31:0] RC. -/
def DSC_WDROP_CNT (y : Nat) : Nat := 0x1004200 + 0x40000 * y

/-- spec/10_discrimination_sheet.md Table 10-5: MODE [17:16] RW reset image; SLOT_EN [10:10] RW reset image; SLOT [9:0] RW reset image. -/
def DSC_CFG (y c : Nat) : Nat := 0x1004400 + 0x40000 * y + 0x100 * c
def DSC_CFG_MODE : Fld := (16, 2)
def DSC_CFG_SLOT_EN : Fld := (10, 1)
def DSC_CFG_SLOT : Fld := (0, 10)

/-- spec/10_discrimination_sheet.md Table 10-5: EEN [31:31] SHD reset image; LAST_CP [13:8] SHD reset image; FIRST_CP [5:0] SHD reset image. -/
def DSC_ECFG (y c : Nat) : Nat := 0x1004404 + 0x40000 * y + 0x100 * c
def DSC_ECFG_EEN : Fld := (31, 1)
def DSC_ECFG_LAST_CP : Fld := (8, 6)
def DSC_ECFG_FIRST_CP : Fld := (0, 6)

/-- spec/10_discrimination_sheet.md Table 10-5: STATUS [31:16] RO reset 0x0000; CP [15:10] RO; DEC [9:4] RO; DSTATE [1:0] RO reset image. -/
def DSC_STS (y c : Nat) : Nat := 0x1004408 + 0x40000 * y + 0x100 * c
def DSC_STS_STATUS : Fld := (16, 16)
def DSC_STS_CP : Fld := (10, 6)
def DSC_STS_DEC : Fld := (4, 6)
def DSC_STS_DSTATE : Fld := (0, 2)

/-- spec/10_discrimination_sheet.md Table 10-5: QTHR [23:0] SHD reset image. -/
def DSC_QTHR (y c : Nat) : Nat := 0x100440C + 0x40000 * y + 0x100 * c
def DSC_QTHR_QTHR : Fld := (0, 24)

/-- spec/10_discrimination_sheet.md Table 10-5: V [23:0] SHD reset image. -/
def DSC_A (y c i : Nat) : Nat := 0x1004410 + 0x40000 * y + 0x100 * c + 0x10 * i
def DSC_A_V : Fld := (0, 24)

/-- spec/10_discrimination_sheet.md Table 10-5: V [23:0] SHD reset image. -/
def DSC_B (y c i : Nat) : Nat := 0x1004414 + 0x40000 * y + 0x100 * c + 0x10 * i
def DSC_B_V : Fld := (0, 24)

/-- spec/10_discrimination_sheet.md Table 10-5: V [23:0] SHD reset image. -/
def DSC_C (y c i : Nat) : Nat := 0x1004418 + 0x40000 * y + 0x100 * c + 0x10 * i
def DSC_C_V : Fld := (0, 24)

/-- spec/10_discrimination_sheet.md Table 10-5: ETHR [23:0] SHD reset image. -/
def DSC_ETHR (y c i : Nat) : Nat := 0x100441C + 0x40000 * y + 0x100 * c + 0x10 * i
def DSC_ETHR_ETHR : Fld := (0, 24)

/-- spec/10_discrimination_sheet.md Table 10-5: COUNT [31:0] RC. -/
def DSC_EARLY_CNT (y c : Nat) : Nat := 0x1004440 + 0x40000 * y + 0x100 * c

/-- spec/10_discrimination_sheet.md Table 10-5: COUNT [31:0] RC. -/
def DSC_LOWQ_CNT (y c : Nat) : Nat := 0x1004444 + 0x40000 * y + 0x100 * c

/-- spec/10_discrimination_sheet.md Table 10-5: COUNT [31:0] RC. -/
def DSC_LEAK_CNT (y c : Nat) : Nat := 0x1004448 + 0x40000 * y + 0x100 * c

/-- spec/10_discrimination_sheet.md Table 10-5: COUNT [31:0] RC. -/
def DSC_FLIP_CNT (y c : Nat) : Nat := 0x100444C + 0x40000 * y + 0x100 * c

/-- spec/10_discrimination_sheet.md Table 10-5: F [15:0] SHD reset image. -/
def DSC_CPF (y c n : Nat) : Nat := 0x1004480 + 0x40000 * y + 0x100 * c + 0x4 * (n - 1)
def DSC_CPF_F : Fld := (0, 16)

/-- spec/10_discrimination_sheet.md Table 10-7: STATUS [31:16] RO reset 0x0000. -/
def SHT_STS : Nat := 0xB00000
def SHT_STS_STATUS : Fld := (16, 16)

/-- spec/10_discrimination_sheet.md Table 10-7: COUNT [31:0] RC. -/
def SHT_FWD_LATE_CNT : Nat := 0xB00004

/-- spec/10_discrimination_sheet.md Table 10-7: COUNT [31:0] RC. -/
def SHT_FWD_DOWN_CNT : Nat := 0xB00008

/-- spec/10_discrimination_sheet.md Table 10-7: COUNT [31:0] RC. -/
def SHT_FWD_DROP_CNT : Nat := 0xB0000C

/-- spec/10_discrimination_sheet.md Table 10-7: COUNT [31:0] RC. -/
def SHT_TAP_OVW_CNT : Nat := 0xB00010

/-- spec/10_discrimination_sheet.md Table 10-7: COUNT [31:0] RC. -/
def SHT_TAP_FIRE_CNT : Nat := 0xB00014

/-- spec/10_discrimination_sheet.md Table 10-7: REL [63:24] RO; SRC [23:16] RO reset 0xFF; DEC [5:0] RO. -/
def SHT_SLOT (i : Nat) : Nat := 0xB10000 + 0x8 * i
def SHT_SLOT_REL : Fld := (24, 40)
def SHT_SLOT_SRC : Fld := (16, 8)
def SHT_SLOT_DEC : Fld := (0, 6)

/-- spec/10_discrimination_sheet.md Table 10-7: LINKS [5:0] RWL. -/
def SHT_FWD (i : Nat) : Nat := 0xB20000 + 0x4 * i
def SHT_FWD_LINKS : Fld := (0, 6)

/-- spec/10_discrimination_sheet.md Table 10-7: EN [31:31] RWL; LOCAL [9:0] RWL. -/
def SHT_IMAP (l j : Nat) : Nat := 0xB30000 + 0x1000 * l + 0x4 * j
def SHT_IMAP_EN : Fld := (31, 1)
def SHT_IMAP_LOCAL : Fld := (0, 10)

/-- spec/10_discrimination_sheet.md Table 10-7: EN [63:63] RWL; DET [60:50] RWL; IN3 [47:36] RWL; IN2 [35:24] RWL; IN1 [23:12] RWL; IN0 [11:0] RWL. -/
def SHT_TAP (t : Nat) : Nat := 0xB40000 + 0x8 * t
def SHT_TAP_EN : Fld := (63, 1)
def SHT_TAP_DET : Fld := (50, 11)
def SHT_TAP_IN3 : Fld := (36, 12)
def SHT_TAP_IN2 : Fld := (24, 12)
def SHT_TAP_IN1 : Fld := (12, 12)
def SHT_TAP_IN0 : Fld := (0, 12)

/-- spec/11_syndrome_decoder.md Table 11-9: LANES_EFF [20:16] RO reset 16. -/
def DEC_STS : Nat := 0xA00000
def DEC_STS_LANES_EFF : Fld := (16, 5)

/-- spec/11_syndrome_decoder.md Table 11-9: COUNT [31:0] RC. -/
def DEC_WDROP_CNT : Nat := 0xA00004

/-- spec/11_syndrome_decoder.md Table 11-9: COUNT [31:0] RC. -/
def DEC_DISC_CNT : Nat := 0xA00008

/-- spec/11_syndrome_decoder.md Table 11-9: COUNT [31:0] RC. -/
def DEC_PF_REJ_CNT : Nat := 0xA0000C

/-- spec/11_syndrome_decoder.md Table 11-9: EN [0:0] RW. -/
def DEC_EN (x : Nat) : Nat := 0xA01000 + 0x100 * x
def DEC_EN_EN : Fld := (0, 1)

/-- spec/11_syndrome_decoder.md Table 11-9: GROUP [29:24] RWL; WIN [23:18] RWL; LANE_CNT [17:13] RWL; LANE_FIRST [12:9] RWL; RAW [8:8] RWL. -/
def DEC_CTL (x : Nat) : Nat := 0xA01004 + 0x100 * x
def DEC_CTL_GROUP : Fld := (24, 6)
def DEC_CTL_WIN : Fld := (18, 6)
def DEC_CTL_LANE_CNT : Fld := (13, 5)
def DEC_CTL_LANE_FIRST : Fld := (9, 4)
def DEC_CTL_RAW : Fld := (8, 1)

/-- spec/11_syndrome_decoder.md Table 11-9: PAGES [23:12] RWL; PAGE [10:0] RWL. -/
def DEC_GRAPH (x : Nat) : Nat := 0xA01008 + 0x100 * x
def DEC_GRAPH_PAGES : Fld := (12, 12)
def DEC_GRAPH_PAGE : Fld := (0, 11)

/-- spec/11_syndrome_decoder.md Table 11-9: CLOSE [31:31] RWL; RDL [15:0] RWL. -/
def DEC_ROUND (x : Nat) : Nat := 0xA0100C + 0x100 * x
def DEC_ROUND_CLOSE : Fld := (31, 1)
def DEC_ROUND_RDL : Fld := (0, 16)

/-- spec/11_syndrome_decoder.md Table 11-9: RB [39:16] RWL; RP [15:0] RWL. -/
def DEC_RCLK (x : Nat) : Nat := 0xA01010 + 0x100 * x
def DEC_RCLK_RB : Fld := (16, 24)
def DEC_RCLK_RP : Fld := (0, 16)

/-- spec/11_syndrome_decoder.md Table 11-9: LINKS [21:16] RWL; PT [15:8] RWL; PASSES [2:0] RWL. -/
def DEC_XCFG (x : Nat) : Nat := 0xA01018 + 0x100 * x
def DEC_XCFG_LINKS : Fld := (16, 6)
def DEC_XCFG_PT : Fld := (8, 8)
def DEC_XCFG_PASSES : Fld := (0, 3)

/-- spec/11_syndrome_decoder.md Table 11-9: QID [17:0] RWL. -/
def DEC_QID (x : Nat) : Nat := 0xA0101C + 0x100 * x
def DEC_QID_QID : Fld := (0, 18)

/-- spec/11_syndrome_decoder.md Table 11-9: STATUS [31:16] RO reset 0x0000; BACKLOG [15:12] RO; OVL_SEEN [6:6] W1C; XMISS_SEEN [5:5] W1C; DEGRADED [4:4] W1C; CSTATE [2:0] RO reset 0b000. -/
def DEC_CSTS (x : Nat) : Nat := 0xA01020 + 0x100 * x
def DEC_CSTS_STATUS : Fld := (16, 16)
def DEC_CSTS_BACKLOG : Fld := (12, 4)
def DEC_CSTS_OVL_SEEN : Fld := (6, 1)
def DEC_CSTS_XMISS_SEEN : Fld := (5, 1)
def DEC_CSTS_DEGRADED : Fld := (4, 1)
def DEC_CSTS_CSTATE : Fld := (0, 3)

/-- spec/11_syndrome_decoder.md Table 11-9: INDEX [31:0] RO. -/
def DEC_DETAIL (x : Nat) : Nat := 0xA01024 + 0x100 * x

/-- spec/11_syndrome_decoder.md Table 11-9: BOUND [31:16] RO; WORST [15:0] RC. -/
def DEC_LAT (x : Nat) : Nat := 0xA01028 + 0x100 * x
def DEC_LAT_BOUND : Fld := (16, 16)
def DEC_LAT_WORST : Fld := (0, 16)

/-- spec/11_syndrome_decoder.md Table 11-9: LCOUNT [31:8] RO; OBS [7:0] RO. -/
def DEC_OBS (x : Nat) : Nat := 0xA0102C + 0x100 * x
def DEC_OBS_LCOUNT : Fld := (8, 24)
def DEC_OBS_OBS : Fld := (0, 8)

/-- spec/11_syndrome_decoder.md Table 11-9: COUNT [31:0] RC. -/
def DEC_RND_CNT (x : Nat) : Nat := 0xA01030 + 0x100 * x

/-- spec/11_syndrome_decoder.md Table 11-9: COUNT [31:0] RC. -/
def DEC_MISS_CNT (x : Nat) : Nat := 0xA01034 + 0x100 * x

/-- spec/11_syndrome_decoder.md Table 11-9: COUNT [31:0] RC. -/
def DEC_FORCE_CNT (x : Nat) : Nat := 0xA01038 + 0x100 * x

/-- spec/11_syndrome_decoder.md Table 11-9: COUNT [31:0] RC. -/
def DEC_XMISS_CNT (x : Nat) : Nat := 0xA0103C + 0x100 * x

/-- spec/11_syndrome_decoder.md Table 11-9: COUNT [31:0] RC. -/
def DEC_OVL_CNT (x : Nat) : Nat := 0xA01040 + 0x100 * x

/-- spec/12_winch_services.md Table 12-8: CLK [9:8] RO reset 0b00; ALLOT [7:0] RO reset image. -/
def WCH_STS : Nat := 0xC00000
def WCH_STS_CLK : Fld := (8, 2)
def WCH_STS_ALLOT : Fld := (0, 8)

/-- spec/12_winch_services.md Table 12-8: VER [31:0] RO reset fuse. -/
def WCH_SVC_VER : Nat := 0xC00004

/-- spec/12_winch_services.md Table 12-8: YARDS [63:0] RO. -/
def WCH_HOLD : Nat := 0xC00008

/-- spec/12_winch_services.md Table 12-8: MODE [8:8] RWL; HALT [1:1] RW; RUN [0:0] RW. -/
def WCH_CTL (x : Nat) : Nat := 0xC10000 + 0x1000 * x
def WCH_CTL_MODE : Fld := (8, 1)
def WCH_CTL_HALT : Fld := (1, 1)
def WCH_CTL_RUN : Fld := (0, 1)

/-- spec/12_winch_services.md Table 12-8: STATUS [31:16] RO reset 0x0000; CIRC_CLAMP [8:8] W1C; ACC_OVF [7:7] W1C; SAT [6:6] W1C; DIV0 [5:5] W1C; LA [4:4] RO; CSTATE [2:0] RO reset image. -/
def WCH_CSTS (x : Nat) : Nat := 0xC10004 + 0x1000 * x
def WCH_CSTS_STATUS : Fld := (16, 16)
def WCH_CSTS_CIRC_CLAMP : Fld := (8, 1)
def WCH_CSTS_ACC_OVF : Fld := (7, 1)
def WCH_CSTS_SAT : Fld := (6, 1)
def WCH_CSTS_DIV0 : Fld := (5, 1)
def WCH_CSTS_LA : Fld := (4, 1)
def WCH_CSTS_CSTATE : Fld := (0, 3)

/-- spec/12_winch_services.md Table 12-8: PC [16:0] RW. -/
def WCH_PC (x : Nat) : Nat := 0xC10008 + 0x1000 * x
def WCH_PC_PC : Fld := (0, 17)

/-- spec/12_winch_services.md Table 12-8: PC [16:0] RW. -/
def WCH_IVEC (x : Nat) : Nat := 0xC1000C + 0x1000 * x
def WCH_IVEC_PC : Fld := (0, 17)

/-- spec/12_winch_services.md Table 12-8: EN [2:0] RW. -/
def WCH_IEN (x : Nat) : Nat := 0xC10010 + 0x1000 * x
def WCH_IEN_EN : Fld := (0, 3)

/-- spec/12_winch_services.md Table 12-8: EMIT_REF [2:2] RO; XFER_DONE [1:1] RO; DOORBELL [0:0] W1S. -/
def WCH_IPEND (x : Nat) : Nat := 0xC10014 + 0x1000 * x
def WCH_IPEND_EMIT_REF : Fld := (2, 1)
def WCH_IPEND_XFER_DONE : Fld := (1, 1)
def WCH_IPEND_DOORBELL : Fld := (0, 1)

/-- spec/12_winch_services.md Table 12-8: CODE [31:16] RO reset 0x0000. -/
def WCH_FAULT (x : Nat) : Nat := 0xC10018 + 0x1000 * x
def WCH_FAULT_CODE : Fld := (16, 16)

/-- spec/12_winch_services.md Table 12-8: PC [16:0] RO. -/
def WCH_FAULT_PC (x : Nat) : Nat := 0xC1001C + 0x1000 * x
def WCH_FAULT_PC_PC : Fld := (0, 17)

/-- spec/12_winch_services.md Table 12-8: QID [17:0] RWL. -/
def WCH_RQID (x : Nat) : Nat := 0xC10020 + 0x1000 * x
def WCH_RQID_QID : Fld := (0, 18)

/-- spec/12_winch_services.md Table 12-8: COUNT [31:0] RC. -/
def WCH_SVC_CNT (x : Nat) : Nat := 0xC10024 + 0x1000 * x

/-- spec/12_winch_services.md Table 12-8: COUNT [31:0] RC. -/
def WCH_CLAMP_CNT (x : Nat) : Nat := 0xC10028 + 0x1000 * x

/-- spec/12_winch_services.md Table 12-8: COUNT [31:0] RC. -/
def WCH_WDROP_CNT (x : Nat) : Nat := 0xC1002C + 0x1000 * x

/-- spec/12_winch_services.md Table 12-8: COUNT [31:0] RC. -/
def WCH_ECC_CNT (x : Nat) : Nat := 0xC10030 + 0x1000 * x

/-- spec/12_winch_services.md Table 12-8: VALUE [63:0] RW. -/
def WCH_REG (x r : Nat) : Nat := 0xC10800 + 0x1000 * x + 0x8 * r

/-- spec/13_crowsnest_furler.md Table 13-7: SHED [16:16] RO; ALLOT [15:0] RO reset image. -/
def CNS_GSTS : Nat := 0x900000
def CNS_GSTS_SHED : Fld := (16, 1)
def CNS_GSTS_ALLOT : Fld := (0, 16)

/-- spec/13_crowsnest_furler.md Table 13-7: ARM [31:31] RW; MODE [29:28] RW reset 0b00; DECM [25:24] RW reset 0b00; D [19:16] RW. -/
def CNS_CTL (c : Nat) : Nat := 0x901000 + 0x100 * c
def CNS_CTL_ARM : Fld := (31, 1)
def CNS_CTL_MODE : Fld := (28, 2)
def CNS_CTL_DECM : Fld := (24, 2)
def CNS_CTL_D : Fld := (16, 4)

/-- spec/13_crowsnest_furler.md Table 13-7: STATUS [31:16] RO reset 0x0000; CSTATE [2:0] RO reset image. -/
def CNS_STS (c : Nat) : Nat := 0x901004 + 0x100 * c
def CNS_STS_STATUS : Fld := (16, 16)
def CNS_STS_CSTATE : Fld := (0, 3)

/-- spec/13_crowsnest_furler.md Table 13-7: KIND [27:24] RW; INDEX [9:0] RW. -/
def CNS_TAP (c : Nat) : Nat := 0x901008 + 0x100 * c
def CNS_TAP_KIND : Fld := (24, 4)
def CNS_TAP_INDEX : Fld := (0, 10)

/-- spec/13_crowsnest_furler.md Table 13-7: SRC [31:29] RW reset 0b000; SLOPE [28:27] RW reset 0b00; COMP [26:26] RW; TSEL [22:16] RW. -/
def CNS_TRIG (c : Nat) : Nat := 0x90100C + 0x100 * c
def CNS_TRIG_SRC : Fld := (29, 3)
def CNS_TRIG_SLOPE : Fld := (27, 2)
def CNS_TRIG_COMP : Fld := (26, 1)
def CNS_TRIG_TSEL : Fld := (16, 7)

/-- spec/13_crowsnest_furler.md Table 13-7: LEVEL [31:16] RW; HYST [15:0] RW. -/
def CNS_LVL (c : Nat) : Nat := 0x901010 + 0x100 * c
def CNS_LVL_LEVEL : Fld := (16, 16)
def CNS_LVL_HYST : Fld := (0, 16)

/-- spec/13_crowsnest_furler.md Table 13-7: COUNT [23:0] RW. -/
def CNS_PRE (c : Nat) : Nat := 0x901014 + 0x100 * c
def CNS_PRE_COUNT : Fld := (0, 24)

/-- spec/13_crowsnest_furler.md Table 13-7: COUNT [23:0] RW. -/
def CNS_POST (c : Nat) : Nat := 0x901018 + 0x100 * c
def CNS_POST_COUNT : Fld := (0, 24)

/-- spec/13_crowsnest_furler.md Table 13-7: PAGE [12:0] RW. -/
def CNS_REGION (c : Nat) : Nat := 0x90101C + 0x100 * c
def CNS_REGION_PAGE : Fld := (0, 13)

/-- spec/13_crowsnest_furler.md Table 13-7: PAGES [13:0] RW. -/
def CNS_PAGES (c : Nat) : Nat := 0x901020 + 0x100 * c
def CNS_PAGES_PAGES : Fld := (0, 14)

/-- spec/13_crowsnest_furler.md Table 13-7: NREC [15:0] RW. -/
def CNS_NREC (c : Nat) : Nat := 0x901024 + 0x100 * c
def CNS_NREC_NREC : Fld := (0, 16)

/-- spec/13_crowsnest_furler.md Table 13-7: FT [23:0] RW. -/
def CNS_HOLDOFF (c : Nat) : Nat := 0x901028 + 0x100 * c
def CNS_HOLDOFF_FT : Fld := (0, 24)

/-- spec/13_crowsnest_furler.md Table 13-7: FORCE [0:0] WO. -/
def CNS_FORCE (c : Nat) : Nat := 0x90102C + 0x100 * c
def CNS_FORCE_FORCE : Fld := (0, 1)

/-- spec/13_crowsnest_furler.md Table 13-7: CHUNK [12:0] RO. -/
def CNS_WP (c : Nat) : Nat := 0x901030 + 0x100 * c
def CNS_WP_CHUNK : Fld := (0, 13)

/-- spec/13_crowsnest_furler.md Table 13-7: CHUNK [12:0] RW. -/
def CNS_RP (c : Nat) : Nat := 0x901034 + 0x100 * c
def CNS_RP_CHUNK : Fld := (0, 13)

/-- spec/13_crowsnest_furler.md Table 13-7: COUNT [31:0] RO. -/
def CNS_REC_CNT (c : Nat) : Nat := 0x901038 + 0x100 * c

/-- spec/13_crowsnest_furler.md Table 13-7: COUNT [31:0] RC. -/
def CNS_DROP_CNT (c : Nat) : Nat := 0x90103C + 0x100 * c

/-- spec/13_crowsnest_furler.md Table 13-7: COUNT [31:0] RC. -/
def CNS_TRIG_IGN_CNT (c : Nat) : Nat := 0x901040 + 0x100 * c

/-- spec/13_crowsnest_furler.md Table 13-7: COUNT [31:0] RC. -/
def CNS_WDROP_CNT (c : Nat) : Nat := 0x901044 + 0x100 * c

/-- spec/13_crowsnest_furler.md Table 13-9: TABLES [5:5] RO reset image; SHED [4:4] RO; ALLOT [3:0] RO reset image. -/
def FRL_GSTS : Nat := 0x800000
def FRL_GSTS_TABLES : Fld := (5, 1)
def FRL_GSTS_SHED : Fld := (4, 1)
def FRL_GSTS_ALLOT : Fld := (0, 4)

/-- spec/13_crowsnest_furler.md Table 13-9: NBITS [10:8] RO; MODE [4:3] RO reset 0b00; XSTATE [2:0] RO reset 0b000. -/
def FRL_CTXS (x : Nat) : Nat := 0x800100 + 0x4 * x
def FRL_CTXS_NBITS : Fld := (8, 3)
def FRL_CTXS_MODE : Fld := (3, 2)
def FRL_CTXS_XSTATE : Fld := (0, 3)

/-- spec/13_crowsnest_furler.md Table 13-9: VERIFY [22:22] WO; NOGAIN [21:21] WO; FINAL [20:20] WO; MODE [17:16] WO reset 0b00; SRCK [13:13] WO; CTX [9:8] WO; CMD [3:0] WO reset 0x0. -/
def FRL_CTL (e : Nat) : Nat := 0x801000 + 0x100 * e
def FRL_CTL_VERIFY : Fld := (22, 1)
def FRL_CTL_NOGAIN : Fld := (21, 1)
def FRL_CTL_FINAL : Fld := (20, 1)
def FRL_CTL_MODE : Fld := (16, 2)
def FRL_CTL_SRCK : Fld := (13, 1)
def FRL_CTL_CTX : Fld := (8, 2)
def FRL_CTL_CMD : Fld := (0, 4)

/-- spec/13_crowsnest_furler.md Table 13-9: STATUS [31:16] RO reset 0x0000; ESTATE [0:0] RO. -/
def FRL_STS (e : Nat) : Nat := 0x801004 + 0x100 * e
def FRL_STS_STATUS : Fld := (16, 16)
def FRL_STS_ESTATE : Fld := (0, 1)

/-- spec/13_crowsnest_furler.md Table 13-9: OFFSET [24:0] RW. -/
def FRL_SRC (e : Nat) : Nat := 0x801008 + 0x100 * e
def FRL_SRC_OFFSET : Fld := (0, 25)

/-- spec/13_crowsnest_furler.md Table 13-9: LEN [24:0] RW. -/
def FRL_SRC_LEN (e : Nat) : Nat := 0x80100C + 0x100 * e
def FRL_SRC_LEN_LEN : Fld := (0, 25)

/-- spec/13_crowsnest_furler.md Table 13-9: OFFSET [24:0] RW. -/
def FRL_DST (e : Nat) : Nat := 0x801010 + 0x100 * e
def FRL_DST_OFFSET : Fld := (0, 25)

/-- spec/13_crowsnest_furler.md Table 13-9: LEN [24:0] RW. -/
def FRL_DST_LEN (e : Nat) : Nat := 0x801014 + 0x100 * e
def FRL_DST_LEN_LEN : Fld := (0, 25)

/-- spec/13_crowsnest_furler.md Table 13-9: OFFSET [24:0] RW. -/
def FRL_TBL (e : Nat) : Nat := 0x801018 + 0x100 * e
def FRL_TBL_OFFSET : Fld := (0, 25)

/-- spec/13_crowsnest_furler.md Table 13-9: BYTES [31:0] RO. -/
def FRL_CONSUMED (e : Nat) : Nat := 0x80101C + 0x100 * e

/-- spec/13_crowsnest_furler.md Table 13-9: BYTES [31:0] RO. -/
def FRL_PRODUCED (e : Nat) : Nat := 0x801020 + 0x100 * e

/-- spec/13_crowsnest_furler.md Table 13-9: CRC [31:0] RO. -/
def FRL_CRC (e : Nat) : Nat := 0x801024 + 0x100 * e

/-- spec/13_crowsnest_furler.md Table 13-9: COUNT [31:0] RC. -/
def FRL_NOGAIN_CNT (e : Nat) : Nat := 0x801028 + 0x100 * e

/-- spec/13_crowsnest_furler.md Table 13-9: COUNT [31:0] RC. -/
def FRL_TBLMISS_CNT (e : Nat) : Nat := 0x80102C + 0x100 * e

/-- spec/14_stay_time.md Table 14-6: LNK_THR [23:16] RW reset 20; SRC [3:0] RW reset 0x0. -/
def STAY_CTL : Nat := 0x400000
def STAY_CTL_LNK_THR : Fld := (16, 8)
def STAY_CTL_SRC : Fld := (0, 4)

/-- spec/14_stay_time.md Table 14-6: STATUS [31:16] RO reset 0x0000; SKEW_DRIFT [11:11] W1C; TB1_MISALIGN [10:10] W1C; ASYM_SUSPECT [9:9] RO; JUMP_REFUSED [8:8] W1C; SYNC_ARMED [7:7] RO; SKEWCAL [6:6] RO; TB1STATE [5:4] RO reset 0b00; SSTATE [2:0] RO reset 0b000. -/
def STAY_STS : Nat := 0x400004
def STAY_STS_STATUS : Fld := (16, 16)
def STAY_STS_SKEW_DRIFT : Fld := (11, 1)
def STAY_STS_TB1_MISALIGN : Fld := (10, 1)
def STAY_STS_ASYM_SUSPECT : Fld := (9, 1)
def STAY_STS_JUMP_REFUSED : Fld := (8, 1)
def STAY_STS_SYNC_ARMED : Fld := (7, 1)
def STAY_STS_SKEWCAL : Fld := (6, 1)
def STAY_STS_TB1STATE : Fld := (4, 2)
def STAY_STS_SSTATE : Fld := (0, 3)

/-- spec/14_stay_time.md Table 14-6: CMD [3:0] WO reset 0x0. -/
def STAY_CMD : Nat := 0x400008
def STAY_CMD_CMD : Fld := (0, 4)

/-- spec/14_stay_time.md Table 14-6: SNAP [0:0] WO. -/
def STAY_SNAP : Nat := 0x40000C
def STAY_SNAP_SNAP : Fld := (0, 1)

/-- spec/14_stay_time.md Table 14-6: TB1 [63:0] RO. -/
def STAY_TB1 : Nat := 0x400010

/-- spec/14_stay_time.md Table 14-6: TB1 [63:0] RO. -/
def STAY_SNAP_TB1 : Nat := 0x400018

/-- spec/14_stay_time.md Table 14-6: RATE [31:0] RW. -/
def STAY_TB0_RATE : Nat := 0x400020

/-- spec/14_stay_time.md Table 14-6: COUNT [31:0] RC. -/
def STAY_WDROP_CNT : Nat := 0x400024

/-- spec/14_stay_time.md Table 14-6: STEP [63:0] RW. -/
def STAY_TB0_STEP : Nat := 0x400028

/-- spec/14_stay_time.md Table 14-6: SEC [47:0] RW. -/
def STAY_TB0_SET_SEC : Nat := 0x400030
def STAY_TB0_SET_SEC_SEC : Fld := (0, 48)

/-- spec/14_stay_time.md Table 14-6: NS [47:16] RW; FRAC [15:0] RW. -/
def STAY_TB0_SET_NS : Nat := 0x400038
def STAY_TB0_SET_NS_NS : Fld := (16, 32)
def STAY_TB0_SET_NS_FRAC : Fld := (0, 16)

/-- spec/14_stay_time.md Table 14-6: NS [31:0] RW reset 1,000. -/
def STAY_JUMP_THR : Nat := 0x400040

/-- spec/14_stay_time.md Table 14-6: PS [31:0] RW reset 2,000. -/
def STAY_ASYM_THR : Nat := 0x400044

/-- spec/14_stay_time.md Table 14-6: PS [31:0] RW. -/
def STAY_ASYM : Nat := 0x400048

/-- spec/14_stay_time.md Table 14-6: PS [31:0] RO. -/
def STAY_MPD : Nat := 0x40004C

/-- spec/14_stay_time.md Table 14-6: PS [31:0] RO. -/
def STAY_MPD_REF : Nat := 0x400050

/-- spec/14_stay_time.md Table 14-6: PS [31:0] RO. -/
def STAY_OFFSET : Nat := 0x400054

/-- spec/14_stay_time.md Table 14-6: PPB [15:0] RW reset 1,000. -/
def STAY_SLEW_MAX : Nat := 0x400058
def STAY_SLEW_MAX_PPB : Fld := (0, 16)

/-- spec/14_stay_time.md Table 14-6: DOMAIN [31:24] RW; ANN_TMO [23:20] RW reset 3. -/
def STAY_PTP_CFG : Nat := 0x40005C
def STAY_PTP_CFG_DOMAIN : Fld := (24, 8)
def STAY_PTP_CFG_ANN_TMO : Fld := (20, 4)

/-- spec/14_stay_time.md Table 14-6: MAC [47:0] RW reset fuse. -/
def STAY_TP_MAC : Nat := 0x400060
def STAY_TP_MAC_MAC : Fld := (0, 48)

/-- spec/14_stay_time.md Table 14-6: TX [31:16] RW reset fuse; RX [15:0] RW reset fuse. -/
def STAY_TP_LAT : Nat := 0x400068
def STAY_TP_LAT_TX : Fld := (16, 16)
def STAY_TP_LAT_RX : Fld := (0, 16)

/-- spec/14_stay_time.md Table 14-6: COUNT [31:0] RC. -/
def STAY_ASYM_EXCL_CNT : Nat := 0x40006C

/-- spec/14_stay_time.md Table 14-6: COUNT [31:0] RC. -/
def STAY_JUMP_CNT : Nat := 0x400070

/-- spec/14_stay_time.md Table 14-6: COMP [15:0] RW. -/
def STAY_SYNC_COMP : Nat := 0x400080
def STAY_SYNC_COMP_COMP : Fld := (0, 16)

/-- spec/14_stay_time.md Table 14-6: SHIFT [7:0] RO. -/
def STAY_SKEW : Nat := 0x400084
def STAY_SKEW_SHIFT : Fld := (0, 8)

/-- spec/14_stay_time.md Table 14-6: PHASE [6:0] RO. -/
def STAY_SYNC_PHASE : Nat := 0x400088
def STAY_SYNC_PHASE_PHASE : Fld := (0, 7)

/-- spec/14_stay_time.md Table 14-6: MODE [9:8] RW reset 0b00; TSEL [6:0] RW. -/
def STAY_SYNCOUT : Nat := 0x40008C
def STAY_SYNCOUT_MODE : Fld := (8, 2)
def STAY_SYNCOUT_TSEL : Fld := (0, 7)

/-- spec/14_stay_time.md Table 14-6: SEC [47:0] RO. -/
def STAY_SNAP_SEC (n : Nat) : Nat := 0x400100 + 0x8 * n
def STAY_SNAP_SEC_SEC : Fld := (0, 48)

/-- spec/14_stay_time.md Table 14-6: NS [47:16] RO; FRAC [15:0] RO. -/
def STAY_SNAP_NS (n : Nat) : Nat := 0x400140 + 0x8 * n
def STAY_SNAP_NS_NS : Fld := (16, 32)
def STAY_SNAP_NS_FRAC : Fld := (0, 16)

/-- spec/14_stay_time.md Table 14-6: PS [31:0] RO. -/
def STAY_LNK_OFF (l : Nat) : Nat := 0x400200 + 0x10 * l

/-- spec/14_stay_time.md Table 14-6: PS [31:0] RO. -/
def STAY_LNK_DLY (l : Nat) : Nat := 0x400204 + 0x10 * l

/-- spec/14_stay_time.md Table 14-6: MISALIGN [1:1] W1C; VALID [0:0] RO. -/
def STAY_LNK_STS (l : Nat) : Nat := 0x400208 + 0x10 * l
def STAY_LNK_STS_MISALIGN : Fld := (1, 1)
def STAY_LNK_STS_VALID : Fld := (0, 1)

/-- spec/14_stay_time.md Table 14-6: RATE [31:0] RW. -/
def STAY_TBN_RATE (n : Nat) : Nat := 0x400440 + 0x20 * (n - 2)

/-- spec/14_stay_time.md Table 14-6: SEC [47:0] RW. -/
def STAY_TBN_SET_SEC (n : Nat) : Nat := 0x400448 + 0x20 * (n - 2)
def STAY_TBN_SET_SEC_SEC : Fld := (0, 48)

/-- spec/14_stay_time.md Table 14-6: NS [47:16] RW; FRAC [15:0] RW. -/
def STAY_TBN_SET_NS (n : Nat) : Nat := 0x400450 + 0x20 * (n - 2)
def STAY_TBN_SET_NS_NS : Fld := (16, 32)
def STAY_TBN_SET_NS_FRAC : Fld := (0, 16)

/-- spec/14_stay_time.md Table 14-6: AT [63:0] RW. -/
def STAY_TBN_SET_AT (n : Nat) : Nat := 0x400458 + 0x20 * (n - 2)

/-- spec/14_stay_time.md Table 14-6: EN [31:31] RW; BASE [30:28] RW reset 0b000; MODE [27:26] RW reset 0b00; ACTION [25:24] RW reset 0b00; ARG [23:0] RW. -/
def STAY_TMR_CTL (t : Nat) : Nat := 0x410000 + 0x40 * t
def STAY_TMR_CTL_EN : Fld := (31, 1)
def STAY_TMR_CTL_BASE : Fld := (28, 3)
def STAY_TMR_CTL_MODE : Fld := (26, 2)
def STAY_TMR_CTL_ACTION : Fld := (24, 2)
def STAY_TMR_CTL_ARG : Fld := (0, 24)

/-- spec/14_stay_time.md Table 14-6: STATUS [31:16] RO reset 0x0000; LATE [2:2] W1C; TSTATE [1:0] RO reset 0b00. -/
def STAY_TMR_STS (t : Nat) : Nat := 0x410004 + 0x40 * t
def STAY_TMR_STS_STATUS : Fld := (16, 16)
def STAY_TMR_STS_LATE : Fld := (2, 1)
def STAY_TMR_STS_TSTATE : Fld := (0, 2)

/-- spec/14_stay_time.md Table 14-6: CMP [63:0] RW. -/
def STAY_TMR_CMP (t : Nat) : Nat := 0x410008 + 0x40 * t

/-- spec/14_stay_time.md Table 14-6: NSF [47:0] RW. -/
def STAY_TMR_CMPF (t : Nat) : Nat := 0x410010 + 0x40 * t
def STAY_TMR_CMPF_NSF : Fld := (0, 48)

/-- spec/14_stay_time.md Table 14-6: PER [63:0] RW. -/
def STAY_TMR_PER (t : Nat) : Nat := 0x410018 + 0x40 * t

/-- spec/14_stay_time.md Table 14-6: E [63:0] RO. -/
def STAY_TMR_E (t : Nat) : Nat := 0x410020 + 0x40 * t

/-- spec/15_ozlink.md Table 15-11: UP [5:0] RO. -/
def OZL_GSTS : Nat := 0x500000
def OZL_GSTS_UP : Fld := (0, 6)

/-- spec/15_ozlink.md Table 15-11: EN [31:31] RW reset image; MAXRATE [26:24] RW reset image; CMD [3:0] WO reset 0x0. -/
def OZL_CTL (l : Nat) : Nat := 0x510000 + 0x1000 * l
def OZL_CTL_EN : Fld := (31, 1)
def OZL_CTL_MAXRATE : Fld := (24, 3)
def OZL_CTL_CMD : Fld := (0, 4)

/-- spec/15_ozlink.md Table 15-11: STATUS [31:16] RO reset 0x0000; LSTATE [15:12] RO reset 0x0; RATE [11:9] RO reset 0b000; REVERSED [8:8] RO; TXMAP [7:4] RO reset 0x0; RXMAP [3:0] RO reset 0x0. -/
def OZL_STS (l : Nat) : Nat := 0x510004 + 0x1000 * l
def OZL_STS_STATUS : Fld := (16, 16)
def OZL_STS_LSTATE : Fld := (12, 4)
def OZL_STS_RATE : Fld := (9, 3)
def OZL_STS_REVERSED : Fld := (8, 1)
def OZL_STS_TXMAP : Fld := (4, 4)
def OZL_STS_RXMAP : Fld := (0, 4)

/-- spec/15_ozlink.md Table 15-11: DEV [11:8] RO; TPHASE [7:3] RO; LINK [2:0] RO. -/
def OZL_PEER (l : Nat) : Nat := 0x510008 + 0x1000 * l
def OZL_PEER_DEV : Fld := (8, 4)
def OZL_PEER_TPHASE : Fld := (3, 5)
def OZL_PEER_LINK : Fld := (0, 3)

/-- spec/15_ozlink.md Table 15-11: AUTO [31:31] RW reset image; TX_LS [17:16] RW reset 0b00; IDLE_FT [15:0] RW reset 1,250. -/
def OZL_PM (l : Nat) : Nat := 0x51000C + 0x1000 * l
def OZL_PM_AUTO : Fld := (31, 1)
def OZL_PM_TX_LS : Fld := (16, 2)
def OZL_PM_IDLE_FT : Fld := (0, 16)

/-- spec/15_ozlink.md Table 15-11: STATUS [31:16] RO reset 0x0000; RX_LS [3:2] RO reset 0b00; TX_LS [1:0] RO reset 0b00. -/
def OZL_PMSTS (l : Nat) : Nat := 0x510010 + 0x1000 * l
def OZL_PMSTS_STATUS : Fld := (16, 16)
def OZL_PMSTS_RX_LS : Fld := (2, 2)
def OZL_PMSTS_TX_LS : Fld := (0, 2)

/-- spec/15_ozlink.md Table 15-11: LB [1:0] RW reset 0b00. -/
def OZL_TEST (l : Nat) : Nat := 0x510014 + 0x1000 * l
def OZL_TEST_LB : Fld := (0, 2)

/-- spec/15_ozlink.md Table 15-11: FLIT [0:0] WO. -/
def OZL_INJ (l : Nat) : Nat := 0x510018 + 0x1000 * l
def OZL_INJ_FLIT : Fld := (0, 1)

/-- spec/15_ozlink.md Table 15-11: COUNT [31:0] RC. -/
def OZL_RETRY_CNT (l : Nat) : Nat := 0x510020 + 0x1000 * l

/-- spec/15_ozlink.md Table 15-11: COUNT [31:0] RC. -/
def OZL_FB_STALE_CNT (l : Nat) : Nat := 0x510024 + 0x1000 * l

/-- spec/15_ozlink.md Table 15-11: COUNT [31:0] RC. -/
def OZL_TRACE_DROP_CNT (l : Nat) : Nat := 0x510028 + 0x1000 * l

/-- spec/15_ozlink.md Table 15-11: COUNT [31:0] RC. -/
def OZL_RESTRIPE_CNT (l : Nat) : Nat := 0x51002C + 0x1000 * l

/-- spec/15_ozlink.md Table 15-11: COUNT [31:0] RC. -/
def OZL_DOWN_CNT (l : Nat) : Nat := 0x510030 + 0x1000 * l

/-- spec/15_ozlink.md Table 15-11: PARK [31:31] RW; INJ [6:6] WO; PRBS_SEL [5:4] RW reset 0b00; GEN [3:3] RW; CHK [2:2] RW. -/
def OZL_LCFG (l i : Nat) : Nat := 0x510800 + 0x1000 * l + 0x80 * i
def OZL_LCFG_PARK : Fld := (31, 1)
def OZL_LCFG_INJ : Fld := (6, 1)
def OZL_LCFG_PRBS_SEL : Fld := (4, 2)
def OZL_LCFG_GEN : Fld := (3, 1)
def OZL_LCFG_CHK : Fld := (2, 1)

/-- spec/15_ozlink.md Table 15-11: LANESTATE [31:29] RO reset 0b000; POL_INV [28:28] RO; PRE [27:24] RO reset image; POST [23:19] RO reset image; MAIN [18:13] RO reset image. -/
def OZL_LSTS (l i : Nat) : Nat := 0x510804 + 0x1000 * l + 0x80 * i
def OZL_LSTS_LANESTATE : Fld := (29, 3)
def OZL_LSTS_POL_INV : Fld := (28, 1)
def OZL_LSTS_PRE : Fld := (24, 4)
def OZL_LSTS_POST : Fld := (19, 5)
def OZL_LSTS_MAIN : Fld := (13, 6)

/-- spec/15_ozlink.md Table 15-11: COUNT [31:0] RC. -/
def OZL_PRBS_ERR (l i : Nat) : Nat := 0x510808 + 0x1000 * l + 0x80 * i

/-- spec/15_ozlink.md Table 15-11: COUNT [31:0] RC. -/
def OZL_BIP_ERR (l i : Nat) : Nat := 0x51080C + 0x1000 * l + 0x80 * i

/-- spec/16_host_queues_dma.md Table 16-13: FLIT [11:11] RO; RATE [10:8] RO reset 0b000; WIDTH [4:0] RO. -/
def HIF_STS : Nat := 0x600000
def HIF_STS_FLIT : Fld := (11, 1)
def HIF_STS_RATE : Fld := (8, 3)
def HIF_STS_WIDTH : Fld := (0, 5)

/-- spec/16_host_queues_dma.md Table 16-13: COUNT [31:0] RC. -/
def HIF_DB_DROP_CNT : Nat := 0x600004

/-- spec/16_host_queues_dma.md Table 16-13: CAUSE [25:18] RO; QID [17:0] RO. -/
def HIF_DB_ERR : Nat := 0x600008
def HIF_DB_ERR_CAUSE : Fld := (18, 8)
def HIF_DB_ERR_QID : Fld := (0, 18)

/-- spec/16_host_queues_dma.md Table 16-13: QID [17:0] RW. -/
def QM_QIDX : Nat := 0x610000
def QM_QIDX_QID : Fld := (0, 18)

/-- spec/16_host_queues_dma.md Table 16-13: CMD [1:0] WO reset 0b00. -/
def QM_QCMD : Nat := 0x610004
def QM_QCMD_CMD : Fld := (0, 2)

/-- spec/16_host_queues_dma.md Table 16-13: STATUS [31:16] RO reset 0x0000; QSTATE [1:0] RO reset 0b00. -/
def QM_QSTS : Nat := 0x610008
def QM_QSTS_STATUS : Fld := (16, 16)
def QM_QSTS_QSTATE : Fld := (0, 2)

/-- spec/16_host_queues_dma.md Table 16-13: INDEX [20:0] RO. -/
def QM_QPROD : Nat := 0x61000C
def QM_QPROD_INDEX : Fld := (0, 21)

/-- spec/16_host_queues_dma.md Table 16-13: INDEX [20:0] RO. -/
def QM_QCONS : Nat := 0x610010
def QM_QCONS_INDEX : Fld := (0, 21)

/-- spec/16_host_queues_dma.md Table 16-13: COUNT [31:0] RC. -/
def QM_SPILL_CNT : Nat := 0x610014

/-- spec/16_host_queues_dma.md Table 16-13: COUNT [31:0] RC. -/
def QM_DROP_CNT : Nat := 0x610018

/-- spec/16_host_queues_dma.md Table 16-13: COUNT [31:0] RC. -/
def QM_FENCE_LATE_CNT : Nat := 0x61001C

/-- spec/16_host_queues_dma.md Table 16-13: DATA [31:0] RW. -/
def QM_QD (w : Nat) : Nat := 0x610020 + 0x4 * w

/-- spec/16_host_queues_dma.md Table 16-13: QID [17:0] RW reset image. -/
def QM_YQID (y : Nat) : Nat := 0x1005000 + 0x40000 * y
def QM_YQID_QID : Fld := (0, 18)

/-- spec/17_shroud_security.md Table 17-14: STATUS [31:16] RO reset 0x0000; SEALED [15:8] RO reset 0x00; DBG_LOCKOUT [4:4] RO; DBG_UNLOCKED [3:3] RO; LIFECYCLE [1:0] RO reset fuse. -/
def SHR_STS : Nat := 0x100000
def SHR_STS_STATUS : Fld := (16, 16)
def SHR_STS_SEALED : Fld := (8, 8)
def SHR_STS_DBG_LOCKOUT : Fld := (4, 1)
def SHR_STS_DBG_UNLOCKED : Fld := (3, 1)
def SHR_STS_LIFECYCLE : Fld := (0, 2)

/-- spec/17_shroud_security.md Table 17-14: COUNT [31:0] RC. -/
def SHR_SEAL_DROP_CNT : Nat := 0x100004

/-- spec/17_shroud_security.md Table 17-14: OFFSET [63:24] RO; SRC [23:20] RO reset 0x0; PART [19:16] RO reset 0x0; CODE [15:0] RO reset 0x0000. -/
def SHR_DENY : Nat := 0x100008
def SHR_DENY_OFFSET : Fld := (24, 40)
def SHR_DENY_SRC : Fld := (20, 4)
def SHR_DENY_PART : Fld := (16, 4)
def SHR_DENY_CODE : Fld := (0, 16)

/-- spec/17_shroud_security.md Table 17-14: LEVEL [9:8] WO reset 0b00; SCRAP [3:3] WO; LOCK [2:2] WO; SUBMIT [1:1] WO; REQ [0:0] WO. -/
def SHR_DBG_CTL : Nat := 0x100010
def SHR_DBG_CTL_LEVEL : Fld := (8, 2)
def SHR_DBG_CTL_SCRAP : Fld := (3, 1)
def SHR_DBG_CTL_LOCK : Fld := (2, 1)
def SHR_DBG_CTL_SUBMIT : Fld := (1, 1)
def SHR_DBG_CTL_REQ : Fld := (0, 1)

/-- spec/17_shroud_security.md Table 17-14: REVOKED [7:4] RO reset fuse; VALID [3:0] RO reset 0x0. -/
def SHR_OKEY : Nat := 0x100014
def SHR_OKEY_REVOKED : Fld := (4, 4)
def SHR_OKEY_VALID : Fld := (0, 4)

/-- spec/17_shroud_security.md Table 17-14: DATA [31:0] RO. -/
def SHR_DBG_CHAL (w : Nat) : Nat := 0x100020 + 0x4 * w

/-- spec/17_shroud_security.md Table 17-14: DATA [31:0] WO. -/
def SHR_DBG_RESP (w : Nat) : Nat := 0x100040 + 0x4 * w

/-- spec/17_shroud_security.md Table 17-14: DATA [31:0] RO. -/
def SHR_MEAS (i w : Nat) : Nat := 0x100440 + 0x40 * (i - 1) + 0x4 * w

/-- spec/17_shroud_security.md Table 17-14: CMD [3:0] WO reset 0x0. -/
def SHR_PCMD (p : Nat) : Nat := 0x110000 + 0x1000 * p
def SHR_PCMD_CMD : Fld := (0, 4)

/-- spec/17_shroud_security.md Table 17-14: STATUS [31:16] RO reset 0x0000; JOB [3:3] RO; PSTATE [2:0] RO reset image. -/
def SHR_PSTS (p : Nat) : Nat := 0x110004 + 0x1000 * p
def SHR_PSTS_STATUS : Fld := (16, 16)
def SHR_PSTS_JOB : Fld := (3, 1)
def SHR_PSTS_PSTATE : Fld := (0, 3)

/-- spec/17_shroud_security.md Table 17-14: ADDR [63:0] RW. -/
def SHR_PSRC (p : Nat) : Nat := 0x110008 + 0x1000 * p

/-- spec/17_shroud_security.md Table 17-14: LEN [23:0] RW. -/
def SHR_PLEN (p : Nat) : Nat := 0x110010 + 0x1000 * p
def SHR_PLEN_LEN : Fld := (0, 24)

/-- spec/17_shroud_security.md Table 17-14: REGION [31:31] RW; QID [17:0] RW. -/
def SHR_PQID (p : Nat) : Nat := 0x110014 + 0x1000 * p
def SHR_PQID_REGION : Fld := (31, 1)
def SHR_PQID_QID : Fld := (0, 18)

/-- spec/17_shroud_security.md Table 17-14: ADDR [63:0] RW. -/
def SHR_PDST (p : Nat) : Nat := 0x110018 + 0x1000 * p

/-- spec/17_shroud_security.md Table 17-14: LEN [23:0] RW. -/
def SHR_PDLEN (p : Nat) : Nat := 0x110020 + 0x1000 * p
def SHR_PDLEN_LEN : Fld := (0, 24)

/-- spec/17_shroud_security.md Table 17-14: VERSION [31:0] RO. -/
def SHR_PVER (p : Nat) : Nat := 0x110024 + 0x1000 * p

/-- spec/17_shroud_security.md Table 17-14: ID [63:0] RO. -/
def SHR_PSEAL_ID (p : Nat) : Nat := 0x110028 + 0x1000 * p

/-- spec/17_shroud_security.md Table 17-14: BYTES [31:0] RO. -/
def SHR_PRES (p : Nat) : Nat := 0x110030 + 0x1000 * p

/-- spec/17_shroud_security.md Table 17-14: SEQ [31:0] RO. -/
def SHR_PISEQ (p : Nat) : Nat := 0x110034 + 0x1000 * p

/-- spec/17_shroud_security.md Table 17-14: DATA [31:0] RW. -/
def SHR_PNONCE (p w : Nat) : Nat := 0x110040 + 0x1000 * p + 0x4 * w

/-- spec/17_shroud_security.md Table 17-14: DATA [31:0] RO. -/
def SHR_PSTMT (p w : Nat) : Nat := 0x110800 + 0x1000 * p + 0x4 * w

/-- spec/18_trim_calibration.md Table 18-5: BG_PER [31:16] RW reset 100; BG_EN [5:0] RW reset 0x3F. -/
def TRIM_CTL : Nat := 0x300000
def TRIM_CTL_BG_PER : Fld := (16, 16)
def TRIM_CTL_BG_EN : Fld := (0, 6)

/-- spec/18_trim_calibration.md Table 18-5: IDX [24:16] WO; CMD [3:0] WO reset 0x0. -/
def TRIM_CMD : Nat := 0x300004
def TRIM_CMD_IDX : Fld := (16, 9)
def TRIM_CMD_CMD : Fld := (0, 4)

/-- spec/18_trim_calibration.md Table 18-5: STATUS [31:16] RO reset 0x0000; FG_RUN [1:1] RO; BG_RUN [0:0] RO. -/
def TRIM_STS : Nat := 0x300008
def TRIM_STS_STATUS : Fld := (16, 16)
def TRIM_STS_FG_RUN : Fld := (1, 1)
def TRIM_STS_BG_RUN : Fld := (0, 1)

/-- spec/18_trim_calibration.md Table 18-5: COUNT [31:0] RC. -/
def TRIM_APPLY_CNT : Nat := 0x30000C

/-- spec/18_trim_calibration.md Table 18-5: COUNT [31:0] RC. -/
def TRIM_SUPERSEDE_CNT : Nat := 0x300010

/-- spec/18_trim_calibration.md Table 18-5: STATUS [31:16] RO reset 0x0000; PENDING [5:5] RO; FG [4:4] RO; HEALTH [1:0] RO reset 0b00. -/
def TRIM_CSTS (i : Nat) : Nat := 0x310000 + 0x20 * i
def TRIM_CSTS_STATUS : Fld := (16, 16)
def TRIM_CSTS_PENDING : Fld := (5, 1)
def TRIM_CSTS_FG : Fld := (4, 1)
def TRIM_CSTS_HEALTH : Fld := (0, 2)

/-- spec/18_trim_calibration.md Table 18-5: COUNT [31:0] RO. -/
def TRIM_CAL_COUNT (i : Nat) : Nat := 0x310004 + 0x20 * i

/-- spec/18_trim_calibration.md Table 18-5: SEC [47:0] RO. -/
def TRIM_CAL_LAST_SEC (i : Nat) : Nat := 0x310008 + 0x20 * i
def TRIM_CAL_LAST_SEC_SEC : Fld := (0, 48)

/-- spec/18_trim_calibration.md Table 18-5: NS [47:16] RO; FRAC [15:0] RO. -/
def TRIM_CAL_LAST_NS (i : Nat) : Nat := 0x310010 + 0x20 * i
def TRIM_CAL_LAST_NS_NS : Fld := (16, 32)
def TRIM_CAL_LAST_NS_FRAC : Fld := (0, 16)

/-- spec/18_trim_calibration.md Table 18-5: TOTAL [31:24] RO reset fuse; RETIRED [15:8] RO; FREE [7:0] RO reset fuse. -/
def TRIM_SPARE (i : Nat) : Nat := 0x310018 + 0x20 * i
def TRIM_SPARE_TOTAL : Fld := (24, 8)
def TRIM_SPARE_RETIRED : Fld := (8, 8)
def TRIM_SPARE_FREE : Fld := (0, 8)

/-- spec/19_reef_thermal.md Table 19-4: STATUS [31:16] RO reset 0x0000; HOLD [15:15] RO; PLEVEL [14:12] RO; TLEVEL [10:8] RO; LEVEL [6:4] RO; SENS_FAIL [3:3] RO; PLIM_FAIL [2:2] W1C; DISAGREE [1:1] W1C; TRIPPED [0:0] W1C. -/
def REEF_STS : Nat := 0x200000
def REEF_STS_STATUS : Fld := (16, 16)
def REEF_STS_HOLD : Fld := (15, 1)
def REEF_STS_PLEVEL : Fld := (12, 3)
def REEF_STS_TLEVEL : Fld := (8, 3)
def REEF_STS_LEVEL : Fld := (4, 3)
def REEF_STS_SENS_FAIL : Fld := (3, 1)
def REEF_STS_PLIM_FAIL : Fld := (2, 1)
def REEF_STS_DISAGREE : Fld := (1, 1)
def REEF_STS_TRIPPED : Fld := (0, 1)

/-- spec/19_reef_thermal.md Table 19-4: SENSOR [13:8] WO; CMD [3:0] WO reset 0x0. -/
def REEF_CMD : Nat := 0x200004
def REEF_CMD_SENSOR : Fld := (8, 6)
def REEF_CMD_CMD : Fld := (0, 4)

/-- spec/19_reef_thermal.md Table 19-4: W [8:0] RW reset 300. -/
def REEF_PLIM : Nat := 0x200008
def REEF_PLIM_W : Fld := (0, 9)

/-- spec/19_reef_thermal.md Table 19-4: MW [31:0] RO. -/
def REEF_PWR : Nat := 0x20000C

/-- spec/19_reef_thermal.md Table 19-4: TEMP [15:0] RC. -/
def REEF_PEAK : Nat := 0x200010
def REEF_PEAK_TEMP : Fld := (0, 16)

/-- spec/19_reef_thermal.md Table 19-4: COUNT [31:0] RC. -/
def REEF_LVL_CNT : Nat := 0x200014

/-- spec/19_reef_thermal.md Table 19-4: COUNT [31:0] RO. -/
def REEF_TRIP_CNT : Nat := 0x200018

/-- spec/19_reef_thermal.md Table 19-4: FAILED [31:31] RO; TEMP [15:0] RO. -/
def REEF_SENS (s : Nat) : Nat := 0x200100 + 0x4 * s
def REEF_SENS_FAILED : Fld := (31, 1)
def REEF_SENS_TEMP : Fld := (0, 16)

/-- spec/19_reef_thermal.md Table 19-4: LOST [17:17] RO; DISAGREE [16:16] W1C; TEMP [15:0] RO. -/
def REEF_ZONE (z : Nat) : Nat := 0x200200 + 0x4 * z
def REEF_ZONE_LOST : Fld := (17, 1)
def REEF_ZONE_DISAGREE : Fld := (16, 1)
def REEF_ZONE_TEMP : Fld := (0, 16)

/-- spec/19_reef_thermal.md Table 19-4: MV [47:32] RO; MA [31:0] RO. -/
def REEF_RAIL (r : Nat) : Nat := 0x200300 + 0x8 * r
def REEF_RAIL_MV : Fld := (32, 16)
def REEF_RAIL_MA : Fld := (0, 32)

/-- spec/20_faults_replay.md Table 20-8: STATUS [31:16] RO reset 0x0000; FATAL_SEEN [1:1] W1C; LOG_OVF [0:0] W1C. -/
def FLT_STS : Nat := 0xD00000
def FLT_STS_STATUS : Fld := (16, 16)
def FLT_STS_FATAL_SEEN : Fld := (1, 1)
def FLT_STS_LOG_OVF : Fld := (0, 1)

/-- spec/20_faults_replay.md Table 20-8: CMD [3:0] WO reset 0x0. -/
def FLT_CMD : Nat := 0xD00004
def FLT_CMD_CMD : Fld := (0, 4)

/-- spec/20_faults_replay.md Table 20-8: VEC [26:16] RW; EN [5:0] RW reset 0x20. -/
def FLT_IRQ : Nat := 0xD00008
def FLT_IRQ_VEC : Fld := (16, 11)
def FLT_IRQ_EN : Fld := (0, 6)

/-- spec/20_faults_replay.md Table 20-8: INDEX [8:0] RO. -/
def FLT_LOG_WP : Nat := 0xD0000C
def FLT_LOG_WP_INDEX : Fld := (0, 9)

/-- spec/20_faults_replay.md Table 20-8: INDEX [8:0] RW. -/
def FLT_LOG_RP : Nat := 0xD00010
def FLT_LOG_RP_INDEX : Fld := (0, 9)

/-- spec/20_faults_replay.md Table 20-8: COUNT [31:0] RC. -/
def FLT_LOG_LOST : Nat := 0xD00014

/-- spec/20_faults_replay.md Table 20-8: GROUP [5:0] WO. -/
def FLT_MARK : Nat := 0xD00018
def FLT_MARK_GROUP : Fld := (0, 6)

/-- spec/20_faults_replay.md Table 20-8: REL [63:0] RW. -/
def FLT_MARK_REL : Nat := 0xD00020

/-- spec/20_faults_replay.md Table 20-8: COUNT [31:0] RC. -/
def FLT_CNT (c : Nat) : Nat := 0xD00040 + 0x4 * c

/-- spec/20_faults_replay.md Table 20-8: COUNT [31:0] RC. -/
def FLT_CLS_WAIT (c : Nat) : Nat := 0xD00060 + 0x4 * c

/-- spec/20_faults_replay.md Table 20-8: XF_EN [31:31] RWL; XF_POL [30:30] RWL; GROUP [29:24] RWL; FILT [4:0] RWL reset 2. -/
def FLT_TRIG_CFG (i : Nat) : Nat := 0xD00100 + 0x4 * i
def FLT_TRIG_CFG_XF_EN : Fld := (31, 1)
def FLT_TRIG_CFG_XF_POL : Fld := (30, 1)
def FLT_TRIG_CFG_GROUP : Fld := (24, 6)
def FLT_TRIG_CFG_FILT : Fld := (0, 5)

/-- spec/20_faults_replay.md Table 20-8: COUNT [31:0] RC. -/
def FLT_GLITCH_CNT (i : Nat) : Nat := 0xD00140 + 0x4 * i

/-- spec/20_faults_replay.md Table 20-8: W [31:0] RO. -/
def FLT_LOG (e w : Nat) : Nat := 0xD01000 + 0x10 * e + 0x4 * w

/-- spec/21_power_clocks_startup.md Table 21-10: KEY [31:16] WO; RESET [0:0] WO. -/
def GLB_RESET : Nat := 0x8024
def GLB_RESET_KEY : Fld := (16, 16)
def GLB_RESET_RESET : Fld := (0, 1)

/-- spec/21_power_clocks_startup.md Table 21-10: CAUSE [31:24] RO reset 0x00; STAGE [19:16] RO reset 0x1; LAST_RESET [11:10] RO reset 0b00; COPY [9:9] RO; SMB_ADDR [4:3] RO reset strap; XSPI_MODE [2:2] RO reset strap; PERST_SEL [1:1] RO reset strap. -/
def GLB_BOOT_STS : Nat := 0x8028
def GLB_BOOT_STS_CAUSE : Fld := (24, 8)
def GLB_BOOT_STS_STAGE : Fld := (16, 4)
def GLB_BOOT_STS_LAST_RESET : Fld := (10, 2)
def GLB_BOOT_STS_COPY : Fld := (9, 1)
def GLB_BOOT_STS_SMB_ADDR : Fld := (3, 2)
def GLB_BOOT_STS_XSPI_MODE : Fld := (2, 1)
def GLB_BOOT_STS_PERST_SEL : Fld := (1, 1)

/-- spec/21_power_clocks_startup.md Table 21-10: REFCLK_OK [3:3] RO; AUX_LOCK [2:2] RO; SYNTH_LOCK [1:1] RO; FALLBACK [0:0] RO reset 1. -/
def GLB_CLK_STS : Nat := 0x802C
def GLB_CLK_STS_REFCLK_OK : Fld := (3, 1)
def GLB_CLK_STS_AUX_LOCK : Fld := (2, 1)
def GLB_CLK_STS_SYNTH_LOCK : Fld := (1, 1)
def GLB_CLK_STS_FALLBACK : Fld := (0, 1)

/-- spec/21_power_clocks_startup.md Table 21-10: FLOOR [31:16] RO reset fuse; VER [15:0] RO. -/
def GLB_FW_VER : Nat := 0x8030
def GLB_FW_VER_FLOOR : Fld := (16, 16)
def GLB_FW_VER_VER : Fld := (0, 16)

/-- spec/21_power_clocks_startup.md Table 21-10: COUNT [31:0] RC. -/
def GLB_SYNTH_LOL_CNT : Nat := 0x8034

/-- spec/24_ratline_debug.md Table 24-5: DENY_CNT [31:16] RC; MHALT [8:8] RO; WHALT [7:0] RO. -/
def RAT_STS : Nat := 0xF00000
def RAT_STS_DENY_CNT : Fld := (16, 16)
def RAT_STS_MHALT : Fld := (8, 1)
def RAT_STS_WHALT : Fld := (0, 8)

/-- spec/24_ratline_debug.md Table 24-5: RELEASE [2:2] WO; STEP [1:1] WO; HALT [0:0] WO. -/
def RAT_MCTL (y : Nat) : Nat := 0x1010000 + 0x40000 * y
def RAT_MCTL_RELEASE : Fld := (2, 1)
def RAT_MCTL_STEP : Fld := (1, 1)
def RAT_MCTL_HALT : Fld := (0, 1)

/-- spec/24_ratline_debug.md Table 24-5: STATUS [31:16] RO reset 0x0000; HALTED [15:15] RO; PC [14:0] RO. -/
def RAT_MSTS (y : Nat) : Nat := 0x1010004 + 0x40000 * y
def RAT_MSTS_STATUS : Fld := (16, 16)
def RAT_MSTS_HALTED : Fld := (15, 1)
def RAT_MSTS_PC : Fld := (0, 15)

/-- spec/24_ratline_debug.md Table 24-5: EN [31:31] RW; INDEX [14:0] RW. -/
def RAT_MBRK (y b : Nat) : Nat := 0x1010010 + 0x40000 * y + 0x4 * b
def RAT_MBRK_EN : Fld := (31, 1)
def RAT_MBRK_INDEX : Fld := (0, 15)

/-- spec/24_ratline_debug.md Table 24-5: STEP [1:1] WO; HALT [0:0] WO. -/
def RAT_WCTL (x : Nat) : Nat := 0xC10C00 + 0x1000 * x
def RAT_WCTL_STEP : Fld := (1, 1)
def RAT_WCTL_HALT : Fld := (0, 1)

/-- spec/24_ratline_debug.md Table 24-5: EN [31:31] RW; PC [16:0] RW. -/
def RAT_WBRK (x b : Nat) : Nat := 0xC10C08 + 0x1000 * x + 0x4 * b
def RAT_WBRK_EN : Fld := (31, 1)
def RAT_WBRK_PC : Fld := (0, 17)

/-- Rows of block b00, part 0. -/
def rows_b00_0 : List RegRow :=
  [⟨"GLB_STATE", 0x8000, [], 32, 0x1, 0x0, 0x0, 0x0, 0x0, 0x0, 0x0, 0x0⟩,
   ⟨"GLB_STATE_CMD", 0x8004, [], 32, 0x0, 0x0, 0x0, 0x0, 0x0, 0x7, 0x0, 0x0⟩,
   ⟨"GLB_LSG_CMD", 0x8008, [], 32, 0x0, 0x0, 0x0, 0x0, 0x0, 0x3F07, 0x0, 0x0⟩,
   ⟨"GLB_LSG_REL", 0x8010, [], 64, 0x0, 0xFFFFFFFFFFFFFFFF, 0x0, 0x0, 0x0, 0x0, 0x0, 0x0⟩,
   ⟨"GLB_LATE_CNT", 0x8018, [], 32, 0x0, 0x0, 0x0, 0x0, 0xFFFFFFFF, 0x0, 0x0, 0x0⟩,
   ⟨"GLB_HANG_INFO", 0x801C, [], 32, 0x0, 0x0, 0x0, 0x0, 0x0, 0x0, 0x0, 0x0⟩,
   ⟨"GLB_CMD_STS", 0x8020, [], 32, 0x0, 0x0, 0x0, 0x0, 0x0, 0x0, 0x0, 0x0⟩,
   ⟨"GLB_LSG_STAT", 0x8100, [(0x4, 64)], 32, 0x0, 0x0, 0x0, 0x0, 0x0, 0x0, 0x0, 0x0⟩,
   ⟨"GLB_RESET", 0x8024, [], 32, 0x0, 0x0, 0x0, 0x0, 0x0, 0xFFFF0001, 0x0, 0x0⟩,
   ⟨"GLB_BOOT_STS", 0x8028, [], 32, 0x10000, 0x0, 0x0, 0x0, 0x0, 0x0, 0x0, 0x0⟩,
   ⟨"GLB_CLK_STS", 0x802C, [], 32, 0x1, 0x0, 0x0, 0x0, 0x0, 0x0, 0x0, 0x0⟩,
   ⟨"GLB_FW_VER", 0x8030, [], 32, 0x0, 0x0, 0x0, 0x0, 0x0, 0x0, 0x0, 0x0⟩,
   ⟨"GLB_SYNTH_LOL_CNT", 0x8034, [], 32, 0x0, 0x0, 0x0, 0x0, 0xFFFFFFFF, 0x0, 0x0, 0x0⟩]

/-- Rows of block b0E, part 0. -/
def rows_b0E_0 : List RegRow :=
  [⟨"IMG_CTL", 0xE00000, [], 32, 0x0, 0x0, 0x0, 0x0, 0x0, 0x1F, 0x0, 0x0⟩,
   ⟨"IMG_STS", 0xE00004, [], 32, 0x0, 0x0, 0x0, 0x0, 0x0, 0x0, 0x0, 0x0⟩,
   ⟨"IMG_SRC", 0xE00008, [], 64, 0x0, 0xFFFFFFFFFFFFFFFF, 0x0, 0x0, 0x0, 0x0, 0x0, 0x0⟩,
   ⟨"IMG_LEN", 0xE00010, [], 32, 0x0, 0x3FFFFF, 0x0, 0x0, 0x0, 0x0, 0x0, 0x0⟩,
   ⟨"IMG_DETAIL", 0xE00018, [], 64, 0x0, 0x0, 0x0, 0x0, 0x0, 0x0, 0x0, 0x0⟩,
   ⟨"IMG_VER", 0xE00020, [], 32, 0x0, 0x0, 0x0, 0x0, 0x0, 0x0, 0x0, 0x0⟩,
   ⟨"IMG_DROP_CNT", 0xE00024, [], 32, 0x0, 0x0, 0x0, 0x0, 0xFFFFFFFF, 0x0, 0x0, 0x0⟩,
   ⟨"IMG_DENY_CNT", 0xE00028, [], 32, 0x0, 0x0, 0x0, 0x0, 0xFFFFFFFF, 0x0, 0x0, 0x0⟩,
   ⟨"IMG_DENY", 0xE00030, [], 64, 0x0, 0x0, 0x0, 0x0, 0x0, 0x0, 0x0, 0x0⟩,
   ⟨"IMG_PVER_YARD", 0xE00100, [(0x4, 64)], 32, 0x0, 0x0, 0x0, 0x0, 0x0, 0x0, 0x0, 0x0⟩,
   ⟨"IMG_PVER_LINK", 0xE00200, [(0x4, 6)], 32, 0x0, 0x0, 0x0, 0x0, 0x0, 0x0, 0x0, 0x0⟩]

/-- Rows of block yard, part 0. -/
def rows_yard_0 : List RegRow :=
  [⟨"SEQ_CTL", 0x1000000, [(0x40000, 64)], 32, 0x4E20300, 0xFFFF0F01, 0x0, 0x0, 0x0, 0x0, 0x0, 0x0⟩,
   ⟨"SEQ_STS", 0x1000004, [(0x40000, 64)], 32, 0x0, 0x0, 0x0, 0x0, 0x0, 0x0, 0x0, 0x0⟩,
   ⟨"SEQ_ENTRY", 0x1000008, [(0x40000, 64)], 32, 0x0, 0x7FFF, 0x0, 0x0, 0x0, 0x0, 0x0, 0x0⟩,
   ⟨"SEQ_RST_ENTRY", 0x100000C, [(0x40000, 64)], 32, 0x0, 0x7FFF, 0x0, 0x0, 0x0, 0x0, 0x0, 0x0⟩,
   ⟨"SEQ_PROG_LEN", 0x1000010, [(0x40000, 64)], 32, 0x0, 0xFFFF, 0x0, 0x0, 0x0, 0x0, 0x0, 0x0⟩,
   ⟨"SEQ_SHOT_CNT", 0x1000014, [(0x40000, 64)], 32, 0x0, 0xFFFFFFFF, 0x0, 0x0, 0x0, 0x0, 0x0, 0x0⟩,
   ⟨"SEQ_SHOT_IDX", 0x1000018, [(0x40000, 64)], 32, 0x0, 0x0, 0x0, 0x0, 0x0, 0x0, 0x0, 0x0⟩,
   ⟨"SEQ_FAULT", 0x100001C, [(0x40000, 64)], 32, 0x0, 0x0, 0x0, 0x0, 0x0, 0x0, 0x0, 0x0⟩,
   ⟨"SEQ_PC", 0x1000020, [(0x40000, 64)], 32, 0x0, 0x0, 0x0, 0x0, 0x0, 0x0, 0x0, 0x0⟩,
   ⟨"SEQ_WDROP_CNT", 0x1000024, [(0x40000, 64)], 32, 0x0, 0x0, 0x0, 0x0, 0xFFFFFFFF, 0x0, 0x0, 0x0⟩,
   ⟨"SEQ_TO_CNT", 0x1000028, [(0x40000, 64)], 32, 0x0, 0x0, 0x0, 0x0, 0xFFFFFFFF, 0x0, 0x0, 0x0⟩,
   ⟨"SEQ_REPLAY_TOT", 0x100002C, [(0x40000, 64)], 32, 0x0, 0x0, 0x0, 0x0, 0xFFFFFFFF, 0x0, 0x0, 0x0⟩,
   ⟨"SEQ_TQ", 0x1000030, [(0x40000, 64)], 64, 0x0, 0x0, 0x0, 0x0, 0x0, 0x0, 0x0, 0x0⟩,
   ⟨"SEQ_ORIGIN", 0x1000038, [(0x40000, 64)], 64, 0x0, 0x0, 0x0, 0x0, 0x0, 0x0, 0x0, 0x0⟩,
   ⟨"SEQ_G", 0x1000100, [(0x40000, 64), (0x8, 32)], 64, 0x0, 0xFFFFFFFFFFFF, 0x0, 0x0, 0x0, 0x0, 0x0, 0x0⟩,
   ⟨"SEQ_LC", 0x1000200, [(0x40000, 64), (0x4, 4)], 32, 0x0, 0x0, 0x0, 0x0, 0x0, 0x0, 0x0, 0x0⟩,
   ⟨"UC_CTL", 0x1000400, [(0x40000, 64)], 32, 0x0, 0x0, 0x0, 0x0, 0x0, 0xF, 0x0, 0x0⟩,
   ⟨"UC_STS", 0x1000404, [(0x40000, 64)], 32, 0x0, 0x0, 0x0, 0x0, 0x0, 0x0, 0x0, 0x0⟩,
   ⟨"UC_SRC", 0x1000408, [(0x40000, 64)], 64, 0x0, 0xFFFFFFFFFFFFFFFF, 0x0, 0x0, 0x0, 0x0, 0x0, 0x0⟩,
   ⟨"UC_LEN", 0x1000410, [(0x40000, 64)], 32, 0x0, 0x3FFF, 0x0, 0x0, 0x0, 0x0, 0x0, 0x0⟩,
   ⟨"UC_VER", 0x1000414, [(0x40000, 64)], 32, 0x10000, 0x0, 0x0, 0x0, 0x0, 0x0, 0x0, 0x0⟩,
   ⟨"UC_FLOOR", 0x1000418, [(0x40000, 64)], 32, 0x0, 0x0, 0x0, 0x0, 0x0, 0x0, 0x0, 0x0⟩,
   ⟨"UC_CRC", 0x100041C, [(0x40000, 64)], 32, 0x0, 0x0, 0x0, 0x0, 0x0, 0x0, 0x0, 0x0⟩,
   ⟨"UC_ECC_CNT", 0x1000420, [(0x40000, 64)], 32, 0x0, 0x0, 0x0, 0x0, 0xFFFFFFFF, 0x0, 0x0, 0x0⟩]

/-- Rows of block yard, part 1. -/
def rows_yard_1 : List RegRow :=
  [⟨"HAL_STS", 0x1000800, [(0x40000, 64)], 32, 0x0, 0x0, 0xF, 0x0, 0x0, 0x0, 0x0, 0x0⟩,
   ⟨"HAL_SEG_IDX", 0x1000804, [(0x40000, 64)], 32, 0x0, 0xFFF, 0x0, 0x0, 0x0, 0x0, 0x0, 0x0⟩,
   ⟨"HAL_SEG_START", 0x1000808, [(0x40000, 64)], 32, 0x0, 0x1FFFFF, 0x0, 0x0, 0x0, 0x0, 0x0, 0x0⟩,
   ⟨"HAL_SEG_LEN", 0x100080C, [(0x40000, 64)], 32, 0x0, 0xFFFFF, 0x0, 0x0, 0x0, 0x0, 0x0, 0x0⟩,
   ⟨"HAL_SEG_LOOP", 0x1000810, [(0x40000, 64)], 32, 0x0, 0xFFFFF, 0x0, 0x0, 0x0, 0x0, 0x0, 0x0⟩,
   ⟨"HAL_SEG_LINK", 0x1000814, [(0x40000, 64)], 32, 0x0, 0x1FFF, 0x0, 0x0, 0x0, 0x0, 0x0, 0x0⟩,
   ⟨"HAL_SEG_CTL", 0x1000818, [(0x40000, 64)], 32, 0x0, 0x0, 0x0, 0x0, 0x0, 0x3, 0x0, 0x0⟩,
   ⟨"HAL_SEG_STS", 0x100081C, [(0x40000, 64)], 32, 0x0, 0x0, 0x0, 0x0, 0x0, 0x0, 0x0, 0x0⟩,
   ⟨"HAL_WDROP_CNT", 0x1000820, [(0x40000, 64)], 32, 0x0, 0x0, 0x0, 0x0, 0xFFFFFFFF, 0x0, 0x0, 0x0⟩,
   ⟨"HAL_OVL_CNT", 0x1000824, [(0x40000, 64)], 32, 0x0, 0x0, 0x0, 0x0, 0xFFFFFFFF, 0x0, 0x0, 0x0⟩,
   ⟨"HAL_JLATE_CNT", 0x1000828, [(0x40000, 64)], 32, 0x0, 0x0, 0x0, 0x0, 0xFFFFFFFF, 0x0, 0x0, 0x0⟩,
   ⟨"HAL_JDROP_CNT", 0x100082C, [(0x40000, 64)], 32, 0x0, 0x0, 0x0, 0x0, 0xFFFFFFFF, 0x0, 0x0, 0x0⟩,
   ⟨"HAL_MRK_PIN", 0x1000830, [(0x40000, 64)], 32, 0x0, 0x3F, 0x0, 0x0, 0x0, 0x0, 0x0, 0x0⟩,
   ⟨"HAL_MRK_COLL_CNT", 0x1000834, [(0x40000, 64)], 32, 0x0, 0x0, 0x0, 0x0, 0xFFFFFFFF, 0x0, 0x0, 0x0⟩,
   ⟨"HAL_MRK_SET", 0x1000840, [(0x40000, 64), (0x4, 8)], 32, 0x0, 0xFFF0FFF, 0x0, 0x0, 0x0, 0x0, 0x0, 0x0⟩,
   ⟨"HAL_JUMP", 0x1000880, [(0x40000, 64), (0x4, 20)], 32, 0x0, 0x1FFF, 0x0, 0x0, 0x0, 0x0, 0x0, 0x0⟩,
   ⟨"HAL_TGT_STS", 0x1000900, [(0x40000, 64), (0x4, 20)], 32, 0x0, 0x0, 0x0, 0x0, 0x0, 0x0, 0x0, 0x0⟩,
   ⟨"HAL_STR_CTL", 0x1000A00, [(0x40000, 64), (0x20, 2)], 32, 0x0, 0x8FFF0FFF, 0x0, 0x0, 0x0, 0x0, 0x0, 0x0⟩,
   ⟨"HAL_STR_QID", 0x1000A04, [(0x40000, 64), (0x20, 2)], 32, 0x0, 0x3FFFF, 0x0, 0x0, 0x0, 0x0, 0x0, 0x0⟩,
   ⟨"HAL_STR_STS", 0x1000A08, [(0x40000, 64), (0x20, 2)], 32, 0x0, 0x0, 0x0, 0x0, 0x0, 0x0, 0x0, 0x0⟩,
   ⟨"HAL_STR_LVL", 0x1000A0C, [(0x40000, 64), (0x20, 2)], 32, 0x0, 0x0, 0x0, 0x0, 0x0, 0x0, 0x0, 0x0⟩,
   ⟨"HAL_STR_PROT", 0x1000A10, [(0x40000, 64), (0x20, 2)], 32, 0x0, 0x0, 0x0, 0x0, 0x0, 0x0, 0x0, 0x0⟩,
   ⟨"HAL_STR_UNDER_CNT", 0x1000A14, [(0x40000, 64), (0x20, 2)], 32, 0x0, 0x0, 0x0, 0x0, 0xFFFFFFFF, 0x0, 0x0, 0x0⟩,
   ⟨"HAL_STR_SKIP_CNT", 0x1000A18, [(0x40000, 64), (0x20, 2)], 32, 0x0, 0x0, 0x0, 0x0, 0xFFFFFFFF, 0x0, 0x0, 0x0⟩]

/-- Rows of block yard, part 2. -/
def rows_yard_2 : List RegRow :=
  [⟨"HAL_PRM", 0x1001000, [(0x40000, 64), (0x20, 64), (0x4, 8)], 32, 0x0, 0xFFFFFFFF, 0x0, 0x0, 0x0, 0x0, 0x0, 0x0⟩,
   ⟨"TON_SHD_CTL", 0x1001800, [(0x40000, 64)], 32, 0x0, 0xFF, 0x0, 0x0, 0x0, 0x0, 0x0, 0x0⟩,
   ⟨"TON_SHD_STS", 0x1001804, [(0x40000, 64)], 32, 0x0, 0x0, 0x0, 0x0, 0x0, 0x0, 0x0, 0x0⟩,
   ⟨"TON_HO_CMD", 0x1001808, [(0x40000, 64)], 32, 0x0, 0x0, 0x0, 0x0, 0x0, 0xF, 0x0, 0x0⟩,
   ⟨"TON_HO_STS", 0x100180C, [(0x40000, 64)], 32, 0x0, 0x0, 0x0, 0x0, 0x0, 0x0, 0x0, 0x0⟩,
   ⟨"TON_HO_REL", 0x1001810, [(0x40000, 64)], 64, 0x0, 0xFFFFFFFFFFFFFFFF, 0x0, 0x0, 0x0, 0x0, 0x0, 0x0⟩,
   ⟨"TON_SHADOW_LATE", 0x1001818, [(0x40000, 64)], 32, 0x0, 0x0, 0x0, 0x0, 0xFFFFFFFF, 0x0, 0x0, 0x0⟩,
   ⟨"TON_SHD_REJ_CNT", 0x100181C, [(0x40000, 64)], 32, 0x0, 0x0, 0x0, 0x0, 0xFFFFFFFF, 0x0, 0x0, 0x0⟩,
   ⟨"TON_HO_SKIP_CNT", 0x1001820, [(0x40000, 64)], 32, 0x0, 0x0, 0x0, 0x0, 0xFFFFFFFF, 0x0, 0x0, 0x0⟩,
   ⟨"TON_WDROP_CNT", 0x1001824, [(0x40000, 64)], 32, 0x0, 0x0, 0x0, 0x0, 0xFFFFFFFF, 0x0, 0x0, 0x0⟩,
   ⟨"TON_STS", 0x1001828, [(0x40000, 64)], 32, 0x0, 0x0, 0x1F, 0x0, 0x0, 0x0, 0x0, 0x0⟩,
   ⟨"TON_TXD_CFG", 0x1001830, [(0x40000, 64)], 32, 0x0, 0x77, 0x0, 0x0, 0x0, 0x0, 0x0, 0x77⟩,
   ⟨"TON_TXD_FS", 0x1001834, [(0x40000, 64)], 32, 0x0, 0xF, 0x0, 0x0, 0x0, 0x0, 0x0, 0x0⟩,
   ⟨"TON_TXD_CLIP_CNT", 0x1001838, [(0x40000, 64)], 32, 0x0, 0x0, 0x0, 0x0, 0xFFFFFFFF, 0x0, 0x0, 0x0⟩,
   ⟨"TON_TXP_CFG", 0x1001840, [(0x40000, 64)], 32, 0x0, 0x77, 0x0, 0x0, 0x0, 0x0, 0x0, 0x77⟩,
   ⟨"TON_TXP_FS", 0x1001844, [(0x40000, 64)], 32, 0x0, 0xF, 0x0, 0x0, 0x0, 0x0, 0x0, 0x0⟩,
   ⟨"TON_TXP_CLIP_CNT", 0x1001848, [(0x40000, 64)], 32, 0x0, 0x0, 0x0, 0x0, 0xFFFFFFFF, 0x0, 0x0, 0x0⟩,
   ⟨"TON_FREQ0", 0x1002000, [(0x40000, 64), (0x40, 16)], 64, 0x0, 0xFFFFFFFFFF, 0x0, 0x0, 0x0, 0x0, 0x0, 0x0⟩,
   ⟨"TON_PHASE0", 0x1002008, [(0x40000, 64), (0x40, 16)], 32, 0x0, 0xFFFFFFFF, 0x0, 0x0, 0x0, 0x0, 0x0, 0x0⟩,
   ⟨"TON_GAIN", 0x100200C, [(0x40000, 64), (0x40, 16)], 32, 0x0, 0xFFFF, 0x0, 0x0, 0x0, 0x0, 0x0, 0xFFFF⟩,
   ⟨"TON_FRAME_F", 0x1002010, [(0x40000, 64), (0x40, 16)], 64, 0x0, 0x0, 0x0, 0x0, 0x0, 0x0, 0x0, 0x0⟩,
   ⟨"TON_FRAME_P", 0x1002018, [(0x40000, 64), (0x40, 16)], 32, 0x0, 0x0, 0x0, 0x0, 0x0, 0x0, 0x0, 0x0⟩,
   ⟨"TON_PF", 0x100201C, [(0x40000, 64), (0x40, 16)], 32, 0x0, 0x3, 0x0, 0x0, 0x0, 0x0, 0x0, 0x0⟩,
   ⟨"TON_TSTS", 0x1002020, [(0x40000, 64), (0x40, 16)], 32, 0x0, 0x0, 0x0, 0x0, 0x0, 0x0, 0x0, 0x0⟩]

/-- Rows of block yard, part 3. -/
def rows_yard_3 : List RegRow :=
  [⟨"TON_SAT_CNT", 0x1002024, [(0x40000, 64), (0x40, 16)], 32, 0x0, 0x0, 0x0, 0x0, 0xFFFFFFFF, 0x0, 0x0, 0x0⟩,
   ⟨"FLX_CFG", 0x1002800, [(0x40000, 64), (0x100, 4)], 32, 0x0, 0xF1730, 0x0, 0x0, 0x0, 0x0, 0x0, 0xF1730⟩,
   ⟨"FLX_GAIN", 0x1002804, [(0x40000, 64), (0x100, 4)], 32, 0x0, 0xFFFF, 0x0, 0x0, 0x0, 0x0, 0x0, 0xFFFF⟩,
   ⟨"FLX_STS", 0x1002808, [(0x40000, 64), (0x100, 4)], 32, 0x0, 0x0, 0x4, 0x0, 0x0, 0x0, 0x0, 0x0⟩,
   ⟨"FLX_SAT_CNT", 0x100280C, [(0x40000, 64), (0x100, 4)], 32, 0x0, 0x0, 0x0, 0x0, 0xFFFFFFFF, 0x0, 0x0, 0x0⟩,
   ⟨"FLX_DGL_CNT", 0x1002810, [(0x40000, 64), (0x100, 4)], 32, 0x0, 0x0, 0x0, 0x0, 0xFFFFFFFF, 0x0, 0x0, 0x0⟩,
   ⟨"FLX_IIR_K", 0x1002820, [(0x40000, 64), (0x100, 4), (0x8, 4)], 32, 0x0, 0xFFFFFF, 0x0, 0x0, 0x0, 0x0, 0x0, 0xFFFFFF⟩,
   ⟨"FLX_IIR_L", 0x1002824, [(0x40000, 64), (0x100, 4), (0x8, 4)], 32, 0x0, 0xFFFFFF, 0x0, 0x0, 0x0, 0x0, 0x0, 0xFFFFFF⟩,
   ⟨"FLX_FIR", 0x1002840, [(0x40000, 64), (0x100, 4), (0x4, 16)], 32, 0x0, 0x3FFFF, 0x0, 0x0, 0x0, 0x0, 0x0, 0x3FFFF⟩,
   ⟨"FLX_WDROP_CNT", 0x1002C00, [(0x40000, 64)], 32, 0x0, 0x0, 0x0, 0x0, 0xFFFFFFFF, 0x0, 0x0, 0x0⟩,
   ⟨"FLX_RB", 0x1002C04, [(0x40000, 64)], 32, 0x0, 0x7, 0x0, 0x0, 0x0, 0x0, 0x0, 0x0⟩,
   ⟨"BIA_CODE", 0x1002D00, [(0x40000, 64)], 32, 0x0, 0xFFFFF, 0x0, 0x0, 0x0, 0x0, 0x0, 0x0⟩,
   ⟨"BIA_CFG", 0x1002D04, [(0x40000, 64)], 32, 0x400010, 0xFFFF0038, 0x0, 0x0, 0x0, 0x0, 0x0, 0xFFFF0038⟩,
   ⟨"BIA_STS", 0x1002D08, [(0x40000, 64)], 32, 0x100, 0x0, 0xE0, 0x0, 0x0, 0x0, 0x0, 0x0⟩,
   ⟨"BIA_ACT", 0x1002D0C, [(0x40000, 64)], 32, 0x0, 0x0, 0x0, 0x0, 0x0, 0x0, 0x0, 0x0⟩,
   ⟨"BIA_EVT_CNT", 0x1002D10, [(0x40000, 64)], 32, 0x0, 0x0, 0x0, 0x0, 0xFFFFFFFF, 0x0, 0x0, 0x0⟩,
   ⟨"CNV_ACQ_CTL", 0x1003000, [(0x40000, 64), (0x10, 8)], 32, 0x0, 0xFFFF00FF, 0x0, 0x0, 0x0, 0x0, 0x0, 0x0⟩,
   ⟨"CNV_ACQ_DLY", 0x1003004, [(0x40000, 64), (0x10, 8)], 32, 0x0, 0xFFFF, 0x0, 0x0, 0x0, 0x0, 0x0, 0x0⟩,
   ⟨"CNV_ACQ_LEN", 0x1003008, [(0x40000, 64), (0x10, 8)], 32, 0x0, 0xFFFFFF, 0x0, 0x0, 0x0, 0x0, 0x0, 0x0⟩,
   ⟨"CNV_ACQ_STS", 0x100300C, [(0x40000, 64), (0x10, 8)], 32, 0x0, 0x0, 0x0, 0x0, 0x0, 0x0, 0x0, 0x0⟩,
   ⟨"CNV_ACQ_OVL_CNT", 0x1003080, [(0x40000, 64)], 32, 0x0, 0x0, 0x0, 0x0, 0xFFFFFFFF, 0x0, 0x0, 0x0⟩,
   ⟨"CNV_ACQ_WDROP_CNT", 0x1003084, [(0x40000, 64)], 32, 0x0, 0x0, 0x0, 0x0, 0xFFFFFFFF, 0x0, 0x0, 0x0⟩,
   ⟨"DEM_WDROP_CNT", 0x1003100, [(0x40000, 64)], 32, 0x0, 0x0, 0x0, 0x0, 0xFFFFFFFF, 0x0, 0x0, 0x0⟩,
   ⟨"DEM_XFADE_HELD", 0x1003104, [(0x40000, 64)], 32, 0x0, 0x0, 0x0, 0x0, 0xFFFFFFFF, 0x0, 0x0, 0x0⟩]

/-- Rows of block yard, part 4. -/
def rows_yard_4 : List RegRow :=
  [⟨"DEM_MISS_CNT", 0x1003108, [(0x40000, 64)], 32, 0x0, 0x0, 0x0, 0x0, 0xFFFFFFFF, 0x0, 0x0, 0x0⟩,
   ⟨"DEM_CTL", 0x1003200, [(0x40000, 64), (0x200, 8)], 32, 0x0, 0x80000031, 0x0, 0x0, 0x0, 0x0, 0x0, 0x0⟩,
   ⟨"DEM_STS", 0x1003204, [(0x40000, 64), (0x200, 8)], 32, 0x1, 0x0, 0xA00, 0x0, 0x0, 0x0, 0x0, 0x0⟩,
   ⟨"DEM_FREQ", 0x1003208, [(0x40000, 64), (0x200, 8)], 64, 0x0, 0xFFFFFFFFFF, 0x0, 0x0, 0x0, 0x0, 0x0, 0xFFFFFFFFFF⟩,
   ⟨"DEM_PHASE", 0x1003210, [(0x40000, 64), (0x200, 8)], 32, 0x0, 0xFFFFFFFF, 0x0, 0x0, 0x0, 0x0, 0x0, 0xFFFFFFFF⟩,
   ⟨"DEM_DLY", 0x1003214, [(0x40000, 64), (0x200, 8)], 32, 0x0, 0x3FFF, 0x0, 0x0, 0x0, 0x0, 0x0, 0x3FFF⟩,
   ⟨"DEM_KSEL", 0x1003218, [(0x40000, 64), (0x200, 8)], 32, 0x0, 0x1, 0x0, 0x0, 0x0, 0x0, 0x0, 0x1⟩,
   ⟨"DEM_KCFG", 0x100321C, [(0x40000, 64), (0x200, 8)], 32, 0x0, 0xFFF001F, 0x0, 0x0, 0x0, 0x0, 0x0, 0xFFF001F⟩,
   ⟨"DEM_KLEN", 0x1003220, [(0x40000, 64), (0x200, 8)], 32, 0x0, 0x3FF03FF, 0x0, 0x0, 0x0, 0x0, 0x0, 0x0⟩,
   ⟨"DEM_FADE", 0x1003224, [(0x40000, 64), (0x200, 8)], 32, 0x0, 0x0, 0x0, 0x0, 0x0, 0x0, 0x0, 0x0⟩,
   ⟨"DEM_SAT_CNT", 0x1003228, [(0x40000, 64), (0x200, 8)], 32, 0x0, 0x0, 0x0, 0x0, 0xFFFFFFFF, 0x0, 0x0, 0x0⟩,
   ⟨"DEM_UNS_CNT", 0x100322C, [(0x40000, 64), (0x200, 8)], 32, 0x0, 0x0, 0x0, 0x0, 0xFFFFFFFF, 0x0, 0x0, 0x0⟩,
   ⟨"DEM_FIR", 0x1003300, [(0x40000, 64), (0x200, 8), (0x4, 33)], 32, 0x0, 0x3FFFF, 0x0, 0x0, 0x0, 0x0, 0x0, 0x0⟩,
   ⟨"DEM_KW", 0x1008000, [(0x40000, 64), (0x1000, 8), (0x800, 2), (0x4, 512)], 32, 0x0, 0xFFFFFFFF, 0x0, 0x0, 0x0, 0x0, 0x0, 0x0⟩,
   ⟨"DSC_WDROP_CNT", 0x1004200, [(0x40000, 64)], 32, 0x0, 0x0, 0x0, 0x0, 0xFFFFFFFF, 0x0, 0x0, 0x0⟩,
   ⟨"DSC_CFG", 0x1004400, [(0x40000, 64), (0x100, 8)], 32, 0x0, 0x307FF, 0x0, 0x0, 0x0, 0x0, 0x0, 0x0⟩,
   ⟨"DSC_ECFG", 0x1004404, [(0x40000, 64), (0x100, 8)], 32, 0x0, 0x80003F3F, 0x0, 0x0, 0x0, 0x0, 0x0, 0x80003F3F⟩,
   ⟨"DSC_STS", 0x1004408, [(0x40000, 64), (0x100, 8)], 32, 0x0, 0x0, 0x0, 0x0, 0x0, 0x0, 0x0, 0x0⟩,
   ⟨"DSC_QTHR", 0x100440C, [(0x40000, 64), (0x100, 8)], 32, 0x0, 0xFFFFFF, 0x0, 0x0, 0x0, 0x0, 0x0, 0xFFFFFF⟩,
   ⟨"DSC_A", 0x1004410, [(0x40000, 64), (0x100, 8), (0x10, 3)], 32, 0x0, 0xFFFFFF, 0x0, 0x0, 0x0, 0x0, 0x0, 0xFFFFFF⟩,
   ⟨"DSC_B", 0x1004414, [(0x40000, 64), (0x100, 8), (0x10, 3)], 32, 0x0, 0xFFFFFF, 0x0, 0x0, 0x0, 0x0, 0x0, 0xFFFFFF⟩,
   ⟨"DSC_C", 0x1004418, [(0x40000, 64), (0x100, 8), (0x10, 3)], 32, 0x0, 0xFFFFFF, 0x0, 0x0, 0x0, 0x0, 0x0, 0xFFFFFF⟩,
   ⟨"DSC_ETHR", 0x100441C, [(0x40000, 64), (0x100, 8), (0x10, 3)], 32, 0x0, 0xFFFFFF, 0x0, 0x0, 0x0, 0x0, 0x0, 0xFFFFFF⟩,
   ⟨"DSC_EARLY_CNT", 0x1004440, [(0x40000, 64), (0x100, 8)], 32, 0x0, 0x0, 0x0, 0x0, 0xFFFFFFFF, 0x0, 0x0, 0x0⟩]

/-- Rows of block yard, part 5. -/
def rows_yard_5 : List RegRow :=
  [⟨"DSC_LOWQ_CNT", 0x1004444, [(0x40000, 64), (0x100, 8)], 32, 0x0, 0x0, 0x0, 0x0, 0xFFFFFFFF, 0x0, 0x0, 0x0⟩,
   ⟨"DSC_LEAK_CNT", 0x1004448, [(0x40000, 64), (0x100, 8)], 32, 0x0, 0x0, 0x0, 0x0, 0xFFFFFFFF, 0x0, 0x0, 0x0⟩,
   ⟨"DSC_FLIP_CNT", 0x100444C, [(0x40000, 64), (0x100, 8)], 32, 0x0, 0x0, 0x0, 0x0, 0xFFFFFFFF, 0x0, 0x0, 0x0⟩,
   ⟨"DSC_CPF", 0x1004480, [(0x40000, 64), (0x100, 8), (0x4, 32)], 32, 0x0, 0xFFFF, 0x0, 0x0, 0x0, 0x0, 0x0, 0xFFFF⟩,
   ⟨"QM_YQID", 0x1005000, [(0x40000, 64)], 32, 0x0, 0x3FFFF, 0x0, 0x0, 0x0, 0x0, 0x0, 0x0⟩,
   ⟨"RAT_MCTL", 0x1010000, [(0x40000, 64)], 32, 0x0, 0x0, 0x0, 0x0, 0x0, 0x7, 0x0, 0x0⟩,
   ⟨"RAT_MSTS", 0x1010004, [(0x40000, 64)], 32, 0x0, 0x0, 0x0, 0x0, 0x0, 0x0, 0x0, 0x0⟩,
   ⟨"RAT_MBRK", 0x1010010, [(0x40000, 64), (0x4, 4)], 32, 0x0, 0x80007FFF, 0x0, 0x0, 0x0, 0x0, 0x0, 0x0⟩]

/-- Rows of block conv, part 0. -/
def rows_conv_0 : List RegRow :=
  [⟨"CNV_CFG", 0x2000000, [(0x400000, 4), (0x1000, 8)], 32, 0x0, 0x11F, 0x0, 0x0, 0x0, 0x0, 0x0, 0x0⟩,
   ⟨"CNV_STS", 0x2000004, [(0x400000, 4), (0x1000, 8)], 32, 0x0, 0x0, 0x3, 0x0, 0x0, 0x0, 0x0, 0x0⟩,
   ⟨"CNV_CORR_A", 0x2000008, [(0x400000, 4), (0x1000, 8)], 32, 0x0, 0xFFFFFFFF, 0x0, 0x0, 0x0, 0x0, 0x0, 0x0⟩,
   ⟨"CNV_CORR_B", 0x200000C, [(0x400000, 4), (0x1000, 8)], 32, 0x0, 0xFFFFFFFF, 0x0, 0x0, 0x0, 0x0, 0x0, 0x0⟩,
   ⟨"CNV_CLIP_CNT", 0x2000010, [(0x400000, 4), (0x1000, 8)], 32, 0x0, 0x0, 0x0, 0x0, 0xFFFFFFFF, 0x0, 0x0, 0x0⟩,
   ⟨"CNV_WDROP_CNT", 0x2000014, [(0x400000, 4), (0x1000, 8)], 32, 0x0, 0x0, 0x0, 0x0, 0xFFFFFFFF, 0x0, 0x0, 0x0⟩,
   ⟨"MON_CTL", 0x2010000, [(0x400000, 4), (0x1000, 4)], 32, 0x0, 0xF71, 0x0, 0x0, 0x0, 0x0, 0x0, 0x0⟩,
   ⟨"MON_STS", 0x2010004, [(0x400000, 4), (0x1000, 4)], 32, 0x0, 0x0, 0x38, 0x0, 0x0, 0x0, 0x0, 0x0⟩,
   ⟨"MON_INJ", 0x2010008, [(0x400000, 4), (0x1000, 4)], 32, 0x0, 0x0, 0x0, 0x0, 0x0, 0xFFF00007, 0x0, 0x0⟩,
   ⟨"MON_INJ_Q", 0x201000C, [(0x400000, 4), (0x1000, 4)], 32, 0x0, 0x0, 0x0, 0x0, 0x0, 0x0, 0x0, 0x0⟩,
   ⟨"MON_INJ_RES", 0x2010010, [(0x400000, 4), (0x1000, 4)], 64, 0x0, 0x0, 0x0, 0x0, 0x0, 0x0, 0x0, 0x0⟩,
   ⟨"MON_XCHK", 0x2010018, [(0x400000, 4), (0x1000, 4)], 32, 0x0, 0xFFF8FFFF, 0x0, 0x0, 0x0, 0x0, 0x0, 0x0⟩,
   ⟨"MON_XCHK_FAIL_CNT", 0x201001C, [(0x400000, 4), (0x1000, 4)], 32, 0x0, 0x0, 0x0, 0x0, 0xFFFFFFFF, 0x0, 0x0, 0x0⟩,
   ⟨"MON_XCHK_SKIP_CNT", 0x2010020, [(0x400000, 4), (0x1000, 4)], 32, 0x0, 0x0, 0x0, 0x0, 0xFFFFFFFF, 0x0, 0x0, 0x0⟩,
   ⟨"MON_CAL_DEF_CNT", 0x2010024, [(0x400000, 4), (0x1000, 4)], 32, 0x0, 0x0, 0x0, 0x0, 0xFFFFFFFF, 0x0, 0x0, 0x0⟩,
   ⟨"MON_INJ_OVF_CNT", 0x2010028, [(0x400000, 4), (0x1000, 4)], 32, 0x0, 0x0, 0x0, 0x0, 0xFFFFFFFF, 0x0, 0x0, 0x0⟩,
   ⟨"MON_WDROP_CNT", 0x201002C, [(0x400000, 4), (0x1000, 4)], 32, 0x0, 0x0, 0x0, 0x0, 0xFFFFFFFF, 0x0, 0x0, 0x0⟩,
   ⟨"MON_SCAN", 0x2010040, [(0x400000, 4), (0x1000, 4), (0x4, 8)], 32, 0x0, 0xFF07, 0x0, 0x0, 0x0, 0x0, 0x0, 0x0⟩,
   ⟨"CNV_RING_BASE", 0x2000100, [(0x400000, 4), (0x1000, 8)], 32, 0x0, 0x1FFF, 0x0, 0x0, 0x0, 0x0, 0x0, 0x0⟩,
   ⟨"CNV_RING_PAGES", 0x2000104, [(0x400000, 4), (0x1000, 8)], 32, 0x0, 0x3FFF, 0x0, 0x0, 0x0, 0x0, 0x0, 0x0⟩,
   ⟨"CNV_RING_WM", 0x2000108, [(0x400000, 4), (0x1000, 8)], 32, 0x0, 0x1FFFF, 0x0, 0x0, 0x0, 0x0, 0x0, 0x0⟩,
   ⟨"CNV_RING_CTL", 0x200010C, [(0x400000, 4), (0x1000, 8)], 32, 0x0, 0x8000007F, 0x0, 0x0, 0x0, 0x0, 0x0, 0x0⟩,
   ⟨"CNV_RING_STS", 0x2000110, [(0x400000, 4), (0x1000, 8)], 32, 0x0, 0x0, 0x4, 0x0, 0x0, 0x0, 0x0, 0x0⟩,
   ⟨"CNV_RING_WP", 0x2000118, [(0x400000, 4), (0x1000, 8)], 32, 0x0, 0x0, 0x0, 0x0, 0x0, 0x0, 0x0, 0x0⟩]

/-- Rows of block conv, part 1. -/
def rows_conv_1 : List RegRow :=
  [⟨"CNV_RING_RP", 0x200011C, [(0x400000, 4), (0x1000, 8)], 32, 0x0, 0xFFFFFFFF, 0x0, 0x0, 0x0, 0x0, 0x0, 0x0⟩,
   ⟨"CNV_RING_DROP_CNT", 0x2000120, [(0x400000, 4), (0x1000, 8)], 32, 0x0, 0x0, 0x0, 0x0, 0xFFFFFFFF, 0x0, 0x0, 0x0⟩,
   ⟨"MON_RING_BASE", 0x2010100, [(0x400000, 4), (0x1000, 4)], 32, 0x0, 0x1FFF, 0x0, 0x0, 0x0, 0x0, 0x0, 0x0⟩,
   ⟨"MON_RING_PAGES", 0x2010104, [(0x400000, 4), (0x1000, 4)], 32, 0x0, 0x3FFF, 0x0, 0x0, 0x0, 0x0, 0x0, 0x0⟩,
   ⟨"MON_RING_WM", 0x2010108, [(0x400000, 4), (0x1000, 4)], 32, 0x0, 0x1FFFF, 0x0, 0x0, 0x0, 0x0, 0x0, 0x0⟩,
   ⟨"MON_RING_CTL", 0x201010C, [(0x400000, 4), (0x1000, 4)], 32, 0x0, 0x8000007F, 0x0, 0x0, 0x0, 0x0, 0x0, 0x0⟩,
   ⟨"MON_RING_STS", 0x2010110, [(0x400000, 4), (0x1000, 4)], 32, 0x0, 0x0, 0x4, 0x0, 0x0, 0x0, 0x0, 0x0⟩,
   ⟨"MON_RING_WP", 0x2010118, [(0x400000, 4), (0x1000, 4)], 32, 0x0, 0x0, 0x0, 0x0, 0x0, 0x0, 0x0, 0x0⟩,
   ⟨"MON_RING_RP", 0x201011C, [(0x400000, 4), (0x1000, 4)], 32, 0x0, 0xFFFFFFFF, 0x0, 0x0, 0x0, 0x0, 0x0, 0x0⟩,
   ⟨"MON_RING_DROP_CNT", 0x2010120, [(0x400000, 4), (0x1000, 4)], 32, 0x0, 0x0, 0x0, 0x0, 0xFFFFFFFF, 0x0, 0x0, 0x0⟩]

/-- Rows of block b0B, part 0. -/
def rows_b0B_0 : List RegRow :=
  [⟨"SHT_STS", 0xB00000, [], 32, 0x0, 0x0, 0x0, 0x0, 0x0, 0x0, 0x0, 0x0⟩,
   ⟨"SHT_FWD_LATE_CNT", 0xB00004, [], 32, 0x0, 0x0, 0x0, 0x0, 0xFFFFFFFF, 0x0, 0x0, 0x0⟩,
   ⟨"SHT_FWD_DOWN_CNT", 0xB00008, [], 32, 0x0, 0x0, 0x0, 0x0, 0xFFFFFFFF, 0x0, 0x0, 0x0⟩,
   ⟨"SHT_FWD_DROP_CNT", 0xB0000C, [], 32, 0x0, 0x0, 0x0, 0x0, 0xFFFFFFFF, 0x0, 0x0, 0x0⟩,
   ⟨"SHT_TAP_OVW_CNT", 0xB00010, [], 32, 0x0, 0x0, 0x0, 0x0, 0xFFFFFFFF, 0x0, 0x0, 0x0⟩,
   ⟨"SHT_TAP_FIRE_CNT", 0xB00014, [], 32, 0x0, 0x0, 0x0, 0x0, 0xFFFFFFFF, 0x0, 0x0, 0x0⟩,
   ⟨"SHT_SLOT", 0xB10000, [(0x8, 1024)], 64, 0xFF0000, 0x0, 0x0, 0x0, 0x0, 0x0, 0x0, 0x0⟩,
   ⟨"SHT_FWD", 0xB20000, [(0x4, 1024)], 32, 0x0, 0x3F, 0x0, 0x0, 0x0, 0x0, 0x3F, 0x0⟩,
   ⟨"SHT_IMAP", 0xB30000, [(0x1000, 6), (0x4, 1024)], 32, 0x0, 0x800003FF, 0x0, 0x0, 0x0, 0x0, 0x800003FF, 0x0⟩,
   ⟨"SHT_TAP", 0xB40000, [(0x8, 2048)], 64, 0x0, 0x9FFCFFFFFFFFFFFF, 0x0, 0x0, 0x0, 0x0, 0x9FFCFFFFFFFFFFFF, 0x0⟩]

/-- Rows of block b0A, part 0. -/
def rows_b0A_0 : List RegRow :=
  [⟨"DEC_STS", 0xA00000, [], 32, 0x100000, 0x0, 0x0, 0x0, 0x0, 0x0, 0x0, 0x0⟩,
   ⟨"DEC_WDROP_CNT", 0xA00004, [], 32, 0x0, 0x0, 0x0, 0x0, 0xFFFFFFFF, 0x0, 0x0, 0x0⟩,
   ⟨"DEC_DISC_CNT", 0xA00008, [], 32, 0x0, 0x0, 0x0, 0x0, 0xFFFFFFFF, 0x0, 0x0, 0x0⟩,
   ⟨"DEC_PF_REJ_CNT", 0xA0000C, [], 32, 0x0, 0x0, 0x0, 0x0, 0xFFFFFFFF, 0x0, 0x0, 0x0⟩,
   ⟨"DEC_EN", 0xA01000, [(0x100, 8)], 32, 0x0, 0x1, 0x0, 0x0, 0x0, 0x0, 0x0, 0x0⟩,
   ⟨"DEC_CTL", 0xA01004, [(0x100, 8)], 32, 0x0, 0x3FFFFF00, 0x0, 0x0, 0x0, 0x0, 0x3FFFFF00, 0x0⟩,
   ⟨"DEC_GRAPH", 0xA01008, [(0x100, 8)], 32, 0x0, 0xFFF7FF, 0x0, 0x0, 0x0, 0x0, 0xFFF7FF, 0x0⟩,
   ⟨"DEC_ROUND", 0xA0100C, [(0x100, 8)], 32, 0x0, 0x8000FFFF, 0x0, 0x0, 0x0, 0x0, 0x8000FFFF, 0x0⟩,
   ⟨"DEC_RCLK", 0xA01010, [(0x100, 8)], 64, 0x0, 0xFFFFFFFFFF, 0x0, 0x0, 0x0, 0x0, 0xFFFFFFFFFF, 0x0⟩,
   ⟨"DEC_XCFG", 0xA01018, [(0x100, 8)], 32, 0x0, 0x3FFF07, 0x0, 0x0, 0x0, 0x0, 0x3FFF07, 0x0⟩,
   ⟨"DEC_QID", 0xA0101C, [(0x100, 8)], 32, 0x0, 0x3FFFF, 0x0, 0x0, 0x0, 0x0, 0x3FFFF, 0x0⟩,
   ⟨"DEC_CSTS", 0xA01020, [(0x100, 8)], 32, 0x0, 0x0, 0x70, 0x0, 0x0, 0x0, 0x0, 0x0⟩,
   ⟨"DEC_DETAIL", 0xA01024, [(0x100, 8)], 32, 0x0, 0x0, 0x0, 0x0, 0x0, 0x0, 0x0, 0x0⟩,
   ⟨"DEC_LAT", 0xA01028, [(0x100, 8)], 32, 0x0, 0x0, 0x0, 0x0, 0xFFFF, 0x0, 0x0, 0x0⟩,
   ⟨"DEC_OBS", 0xA0102C, [(0x100, 8)], 32, 0x0, 0x0, 0x0, 0x0, 0x0, 0x0, 0x0, 0x0⟩,
   ⟨"DEC_RND_CNT", 0xA01030, [(0x100, 8)], 32, 0x0, 0x0, 0x0, 0x0, 0xFFFFFFFF, 0x0, 0x0, 0x0⟩,
   ⟨"DEC_MISS_CNT", 0xA01034, [(0x100, 8)], 32, 0x0, 0x0, 0x0, 0x0, 0xFFFFFFFF, 0x0, 0x0, 0x0⟩,
   ⟨"DEC_FORCE_CNT", 0xA01038, [(0x100, 8)], 32, 0x0, 0x0, 0x0, 0x0, 0xFFFFFFFF, 0x0, 0x0, 0x0⟩,
   ⟨"DEC_XMISS_CNT", 0xA0103C, [(0x100, 8)], 32, 0x0, 0x0, 0x0, 0x0, 0xFFFFFFFF, 0x0, 0x0, 0x0⟩,
   ⟨"DEC_OVL_CNT", 0xA01040, [(0x100, 8)], 32, 0x0, 0x0, 0x0, 0x0, 0xFFFFFFFF, 0x0, 0x0, 0x0⟩]

/-- Rows of block b0C, part 0. -/
def rows_b0C_0 : List RegRow :=
  [⟨"WCH_STS", 0xC00000, [], 32, 0x0, 0x0, 0x0, 0x0, 0x0, 0x0, 0x0, 0x0⟩,
   ⟨"WCH_SVC_VER", 0xC00004, [], 32, 0x0, 0x0, 0x0, 0x0, 0x0, 0x0, 0x0, 0x0⟩,
   ⟨"WCH_HOLD", 0xC00008, [], 64, 0x0, 0x0, 0x0, 0x0, 0x0, 0x0, 0x0, 0x0⟩,
   ⟨"WCH_CTL", 0xC10000, [(0x1000, 8)], 32, 0x0, 0x103, 0x0, 0x0, 0x0, 0x0, 0x100, 0x0⟩,
   ⟨"WCH_CSTS", 0xC10004, [(0x1000, 8)], 32, 0x0, 0x0, 0x1E0, 0x0, 0x0, 0x0, 0x0, 0x0⟩,
   ⟨"WCH_PC", 0xC10008, [(0x1000, 8)], 32, 0x0, 0x1FFFF, 0x0, 0x0, 0x0, 0x0, 0x0, 0x0⟩,
   ⟨"WCH_IVEC", 0xC1000C, [(0x1000, 8)], 32, 0x0, 0x1FFFF, 0x0, 0x0, 0x0, 0x0, 0x0, 0x0⟩,
   ⟨"WCH_IEN", 0xC10010, [(0x1000, 8)], 32, 0x0, 0x7, 0x0, 0x0, 0x0, 0x0, 0x0, 0x0⟩,
   ⟨"WCH_IPEND", 0xC10014, [(0x1000, 8)], 32, 0x0, 0x0, 0x0, 0x1, 0x0, 0x0, 0x0, 0x0⟩,
   ⟨"WCH_FAULT", 0xC10018, [(0x1000, 8)], 32, 0x0, 0x0, 0x0, 0x0, 0x0, 0x0, 0x0, 0x0⟩,
   ⟨"WCH_FAULT_PC", 0xC1001C, [(0x1000, 8)], 32, 0x0, 0x0, 0x0, 0x0, 0x0, 0x0, 0x0, 0x0⟩,
   ⟨"WCH_RQID", 0xC10020, [(0x1000, 8)], 32, 0x0, 0x3FFFF, 0x0, 0x0, 0x0, 0x0, 0x3FFFF, 0x0⟩,
   ⟨"WCH_SVC_CNT", 0xC10024, [(0x1000, 8)], 32, 0x0, 0x0, 0x0, 0x0, 0xFFFFFFFF, 0x0, 0x0, 0x0⟩,
   ⟨"WCH_CLAMP_CNT", 0xC10028, [(0x1000, 8)], 32, 0x0, 0x0, 0x0, 0x0, 0xFFFFFFFF, 0x0, 0x0, 0x0⟩,
   ⟨"WCH_WDROP_CNT", 0xC1002C, [(0x1000, 8)], 32, 0x0, 0x0, 0x0, 0x0, 0xFFFFFFFF, 0x0, 0x0, 0x0⟩,
   ⟨"WCH_ECC_CNT", 0xC10030, [(0x1000, 8)], 32, 0x0, 0x0, 0x0, 0x0, 0xFFFFFFFF, 0x0, 0x0, 0x0⟩,
   ⟨"WCH_REG", 0xC10800, [(0x1000, 8), (0x8, 64)], 64, 0x0, 0xFFFFFFFFFFFFFFFF, 0x0, 0x0, 0x0, 0x0, 0x0, 0x0⟩,
   ⟨"RAT_WCTL", 0xC10C00, [(0x1000, 8)], 32, 0x0, 0x0, 0x0, 0x0, 0x0, 0x3, 0x0, 0x0⟩,
   ⟨"RAT_WBRK", 0xC10C08, [(0x1000, 8), (0x4, 2)], 32, 0x0, 0x8001FFFF, 0x0, 0x0, 0x0, 0x0, 0x0, 0x0⟩]

/-- Rows of block b09, part 0. -/
def rows_b09_0 : List RegRow :=
  [⟨"CNS_GSTS", 0x900000, [], 32, 0x0, 0x0, 0x0, 0x0, 0x0, 0x0, 0x0, 0x0⟩,
   ⟨"CNS_CTL", 0x901000, [(0x100, 16)], 32, 0x0, 0xB30F0000, 0x0, 0x0, 0x0, 0x0, 0x0, 0x0⟩,
   ⟨"CNS_STS", 0x901004, [(0x100, 16)], 32, 0x0, 0x0, 0x0, 0x0, 0x0, 0x0, 0x0, 0x0⟩,
   ⟨"CNS_TAP", 0x901008, [(0x100, 16)], 32, 0x0, 0xF0003FF, 0x0, 0x0, 0x0, 0x0, 0x0, 0x0⟩,
   ⟨"CNS_TRIG", 0x90100C, [(0x100, 16)], 32, 0x0, 0xFC7F0000, 0x0, 0x0, 0x0, 0x0, 0x0, 0x0⟩,
   ⟨"CNS_LVL", 0x901010, [(0x100, 16)], 32, 0x0, 0xFFFFFFFF, 0x0, 0x0, 0x0, 0x0, 0x0, 0x0⟩,
   ⟨"CNS_PRE", 0x901014, [(0x100, 16)], 32, 0x0, 0xFFFFFF, 0x0, 0x0, 0x0, 0x0, 0x0, 0x0⟩,
   ⟨"CNS_POST", 0x901018, [(0x100, 16)], 32, 0x0, 0xFFFFFF, 0x0, 0x0, 0x0, 0x0, 0x0, 0x0⟩,
   ⟨"CNS_REGION", 0x90101C, [(0x100, 16)], 32, 0x0, 0x1FFF, 0x0, 0x0, 0x0, 0x0, 0x0, 0x0⟩,
   ⟨"CNS_PAGES", 0x901020, [(0x100, 16)], 32, 0x0, 0x3FFF, 0x0, 0x0, 0x0, 0x0, 0x0, 0x0⟩,
   ⟨"CNS_NREC", 0x901024, [(0x100, 16)], 32, 0x0, 0xFFFF, 0x0, 0x0, 0x0, 0x0, 0x0, 0x0⟩,
   ⟨"CNS_HOLDOFF", 0x901028, [(0x100, 16)], 32, 0x0, 0xFFFFFF, 0x0, 0x0, 0x0, 0x0, 0x0, 0x0⟩,
   ⟨"CNS_FORCE", 0x90102C, [(0x100, 16)], 32, 0x0, 0x0, 0x0, 0x0, 0x0, 0x1, 0x0, 0x0⟩,
   ⟨"CNS_WP", 0x901030, [(0x100, 16)], 32, 0x0, 0x0, 0x0, 0x0, 0x0, 0x0, 0x0, 0x0⟩,
   ⟨"CNS_RP", 0x901034, [(0x100, 16)], 32, 0x0, 0x1FFF, 0x0, 0x0, 0x0, 0x0, 0x0, 0x0⟩,
   ⟨"CNS_REC_CNT", 0x901038, [(0x100, 16)], 32, 0x0, 0x0, 0x0, 0x0, 0x0, 0x0, 0x0, 0x0⟩,
   ⟨"CNS_DROP_CNT", 0x90103C, [(0x100, 16)], 32, 0x0, 0x0, 0x0, 0x0, 0xFFFFFFFF, 0x0, 0x0, 0x0⟩,
   ⟨"CNS_TRIG_IGN_CNT", 0x901040, [(0x100, 16)], 32, 0x0, 0x0, 0x0, 0x0, 0xFFFFFFFF, 0x0, 0x0, 0x0⟩,
   ⟨"CNS_WDROP_CNT", 0x901044, [(0x100, 16)], 32, 0x0, 0x0, 0x0, 0x0, 0xFFFFFFFF, 0x0, 0x0, 0x0⟩]

/-- Rows of block b08, part 0. -/
def rows_b08_0 : List RegRow :=
  [⟨"FRL_GSTS", 0x800000, [], 32, 0x0, 0x0, 0x0, 0x0, 0x0, 0x0, 0x0, 0x0⟩,
   ⟨"FRL_CTXS", 0x800100, [(0x4, 16)], 32, 0x0, 0x0, 0x0, 0x0, 0x0, 0x0, 0x0, 0x0⟩,
   ⟨"FRL_CTL", 0x801000, [(0x100, 4)], 32, 0x0, 0x0, 0x0, 0x0, 0x0, 0x73230F, 0x0, 0x0⟩,
   ⟨"FRL_STS", 0x801004, [(0x100, 4)], 32, 0x0, 0x0, 0x0, 0x0, 0x0, 0x0, 0x0, 0x0⟩,
   ⟨"FRL_SRC", 0x801008, [(0x100, 4)], 32, 0x0, 0x1FFFFFF, 0x0, 0x0, 0x0, 0x0, 0x0, 0x0⟩,
   ⟨"FRL_SRC_LEN", 0x80100C, [(0x100, 4)], 32, 0x0, 0x1FFFFFF, 0x0, 0x0, 0x0, 0x0, 0x0, 0x0⟩,
   ⟨"FRL_DST", 0x801010, [(0x100, 4)], 32, 0x0, 0x1FFFFFF, 0x0, 0x0, 0x0, 0x0, 0x0, 0x0⟩,
   ⟨"FRL_DST_LEN", 0x801014, [(0x100, 4)], 32, 0x0, 0x1FFFFFF, 0x0, 0x0, 0x0, 0x0, 0x0, 0x0⟩,
   ⟨"FRL_TBL", 0x801018, [(0x100, 4)], 32, 0x0, 0x1FFFFFF, 0x0, 0x0, 0x0, 0x0, 0x0, 0x0⟩,
   ⟨"FRL_CONSUMED", 0x80101C, [(0x100, 4)], 32, 0x0, 0x0, 0x0, 0x0, 0x0, 0x0, 0x0, 0x0⟩,
   ⟨"FRL_PRODUCED", 0x801020, [(0x100, 4)], 32, 0x0, 0x0, 0x0, 0x0, 0x0, 0x0, 0x0, 0x0⟩,
   ⟨"FRL_CRC", 0x801024, [(0x100, 4)], 32, 0x0, 0x0, 0x0, 0x0, 0x0, 0x0, 0x0, 0x0⟩,
   ⟨"FRL_NOGAIN_CNT", 0x801028, [(0x100, 4)], 32, 0x0, 0x0, 0x0, 0x0, 0xFFFFFFFF, 0x0, 0x0, 0x0⟩,
   ⟨"FRL_TBLMISS_CNT", 0x80102C, [(0x100, 4)], 32, 0x0, 0x0, 0x0, 0x0, 0xFFFFFFFF, 0x0, 0x0, 0x0⟩]

/-- Rows of block b04, part 0. -/
def rows_b04_0 : List RegRow :=
  [⟨"STAY_CTL", 0x400000, [], 32, 0x140000, 0xFF000F, 0x0, 0x0, 0x0, 0x0, 0x0, 0x0⟩,
   ⟨"STAY_STS", 0x400004, [], 32, 0x0, 0x0, 0xD00, 0x0, 0x0, 0x0, 0x0, 0x0⟩,
   ⟨"STAY_CMD", 0x400008, [], 32, 0x0, 0x0, 0x0, 0x0, 0x0, 0xF, 0x0, 0x0⟩,
   ⟨"STAY_SNAP", 0x40000C, [], 32, 0x0, 0x0, 0x0, 0x0, 0x0, 0x1, 0x0, 0x0⟩,
   ⟨"STAY_TB1", 0x400010, [], 64, 0x0, 0x0, 0x0, 0x0, 0x0, 0x0, 0x0, 0x0⟩,
   ⟨"STAY_SNAP_TB1", 0x400018, [], 64, 0x0, 0x0, 0x0, 0x0, 0x0, 0x0, 0x0, 0x0⟩,
   ⟨"STAY_TB0_RATE", 0x400020, [], 32, 0x0, 0xFFFFFFFF, 0x0, 0x0, 0x0, 0x0, 0x0, 0x0⟩,
   ⟨"STAY_WDROP_CNT", 0x400024, [], 32, 0x0, 0x0, 0x0, 0x0, 0xFFFFFFFF, 0x0, 0x0, 0x0⟩,
   ⟨"STAY_TB0_STEP", 0x400028, [], 64, 0x0, 0xFFFFFFFFFFFFFFFF, 0x0, 0x0, 0x0, 0x0, 0x0, 0x0⟩,
   ⟨"STAY_TB0_SET_SEC", 0x400030, [], 64, 0x0, 0xFFFFFFFFFFFF, 0x0, 0x0, 0x0, 0x0, 0x0, 0x0⟩,
   ⟨"STAY_TB0_SET_NS", 0x400038, [], 64, 0x0, 0xFFFFFFFFFFFF, 0x0, 0x0, 0x0, 0x0, 0x0, 0x0⟩,
   ⟨"STAY_JUMP_THR", 0x400040, [], 32, 0x3E8, 0xFFFFFFFF, 0x0, 0x0, 0x0, 0x0, 0x0, 0x0⟩,
   ⟨"STAY_ASYM_THR", 0x400044, [], 32, 0x7D0, 0xFFFFFFFF, 0x0, 0x0, 0x0, 0x0, 0x0, 0x0⟩,
   ⟨"STAY_ASYM", 0x400048, [], 32, 0x0, 0xFFFFFFFF, 0x0, 0x0, 0x0, 0x0, 0x0, 0x0⟩,
   ⟨"STAY_MPD", 0x40004C, [], 32, 0x0, 0x0, 0x0, 0x0, 0x0, 0x0, 0x0, 0x0⟩,
   ⟨"STAY_MPD_REF", 0x400050, [], 32, 0x0, 0x0, 0x0, 0x0, 0x0, 0x0, 0x0, 0x0⟩,
   ⟨"STAY_OFFSET", 0x400054, [], 32, 0x0, 0x0, 0x0, 0x0, 0x0, 0x0, 0x0, 0x0⟩,
   ⟨"STAY_SLEW_MAX", 0x400058, [], 32, 0x3E8, 0xFFFF, 0x0, 0x0, 0x0, 0x0, 0x0, 0x0⟩,
   ⟨"STAY_PTP_CFG", 0x40005C, [], 32, 0x300000, 0xFFF00000, 0x0, 0x0, 0x0, 0x0, 0x0, 0x0⟩,
   ⟨"STAY_TP_MAC", 0x400060, [], 64, 0x0, 0xFFFFFFFFFFFF, 0x0, 0x0, 0x0, 0x0, 0x0, 0x0⟩,
   ⟨"STAY_TP_LAT", 0x400068, [], 32, 0x0, 0xFFFFFFFF, 0x0, 0x0, 0x0, 0x0, 0x0, 0x0⟩,
   ⟨"STAY_ASYM_EXCL_CNT", 0x40006C, [], 32, 0x0, 0x0, 0x0, 0x0, 0xFFFFFFFF, 0x0, 0x0, 0x0⟩,
   ⟨"STAY_JUMP_CNT", 0x400070, [], 32, 0x0, 0x0, 0x0, 0x0, 0xFFFFFFFF, 0x0, 0x0, 0x0⟩,
   ⟨"STAY_SYNC_COMP", 0x400080, [], 32, 0x0, 0xFFFF, 0x0, 0x0, 0x0, 0x0, 0x0, 0x0⟩]

/-- Rows of block b04, part 1. -/
def rows_b04_1 : List RegRow :=
  [⟨"STAY_SKEW", 0x400084, [], 32, 0x0, 0x0, 0x0, 0x0, 0x0, 0x0, 0x0, 0x0⟩,
   ⟨"STAY_SYNC_PHASE", 0x400088, [], 32, 0x0, 0x0, 0x0, 0x0, 0x0, 0x0, 0x0, 0x0⟩,
   ⟨"STAY_SYNCOUT", 0x40008C, [], 32, 0x0, 0x37F, 0x0, 0x0, 0x0, 0x0, 0x0, 0x0⟩,
   ⟨"STAY_SNAP_SEC", 0x400100, [(0x8, 8)], 64, 0x0, 0x0, 0x0, 0x0, 0x0, 0x0, 0x0, 0x0⟩,
   ⟨"STAY_SNAP_NS", 0x400140, [(0x8, 8)], 64, 0x0, 0x0, 0x0, 0x0, 0x0, 0x0, 0x0, 0x0⟩,
   ⟨"STAY_LNK_OFF", 0x400200, [(0x10, 6)], 32, 0x0, 0x0, 0x0, 0x0, 0x0, 0x0, 0x0, 0x0⟩,
   ⟨"STAY_LNK_DLY", 0x400204, [(0x10, 6)], 32, 0x0, 0x0, 0x0, 0x0, 0x0, 0x0, 0x0, 0x0⟩,
   ⟨"STAY_LNK_STS", 0x400208, [(0x10, 6)], 32, 0x0, 0x0, 0x2, 0x0, 0x0, 0x0, 0x0, 0x0⟩,
   ⟨"STAY_TBN_RATE", 0x400440, [(0x20, 6)], 32, 0x0, 0xFFFFFFFF, 0x0, 0x0, 0x0, 0x0, 0x0, 0x0⟩,
   ⟨"STAY_TBN_SET_SEC", 0x400448, [(0x20, 6)], 64, 0x0, 0xFFFFFFFFFFFF, 0x0, 0x0, 0x0, 0x0, 0x0, 0x0⟩,
   ⟨"STAY_TBN_SET_NS", 0x400450, [(0x20, 6)], 64, 0x0, 0xFFFFFFFFFFFF, 0x0, 0x0, 0x0, 0x0, 0x0, 0x0⟩,
   ⟨"STAY_TBN_SET_AT", 0x400458, [(0x20, 6)], 64, 0x0, 0xFFFFFFFFFFFFFFFF, 0x0, 0x0, 0x0, 0x0, 0x0, 0x0⟩,
   ⟨"STAY_TMR_CTL", 0x410000, [(0x40, 128)], 32, 0x0, 0xFFFFFFFF, 0x0, 0x0, 0x0, 0x0, 0x0, 0x0⟩,
   ⟨"STAY_TMR_STS", 0x410004, [(0x40, 128)], 32, 0x0, 0x0, 0x4, 0x0, 0x0, 0x0, 0x0, 0x0⟩,
   ⟨"STAY_TMR_CMP", 0x410008, [(0x40, 128)], 64, 0x0, 0xFFFFFFFFFFFFFFFF, 0x0, 0x0, 0x0, 0x0, 0x0, 0x0⟩,
   ⟨"STAY_TMR_CMPF", 0x410010, [(0x40, 128)], 64, 0x0, 0xFFFFFFFFFFFF, 0x0, 0x0, 0x0, 0x0, 0x0, 0x0⟩,
   ⟨"STAY_TMR_PER", 0x410018, [(0x40, 128)], 64, 0x0, 0xFFFFFFFFFFFFFFFF, 0x0, 0x0, 0x0, 0x0, 0x0, 0x0⟩,
   ⟨"STAY_TMR_E", 0x410020, [(0x40, 128)], 64, 0x0, 0x0, 0x0, 0x0, 0x0, 0x0, 0x0, 0x0⟩]

/-- Rows of block b05, part 0. -/
def rows_b05_0 : List RegRow :=
  [⟨"OZL_GSTS", 0x500000, [], 32, 0x0, 0x0, 0x0, 0x0, 0x0, 0x0, 0x0, 0x0⟩,
   ⟨"OZL_CTL", 0x510000, [(0x1000, 6)], 32, 0x0, 0x87000000, 0x0, 0x0, 0x0, 0xF, 0x0, 0x0⟩,
   ⟨"OZL_STS", 0x510004, [(0x1000, 6)], 32, 0x0, 0x0, 0x0, 0x0, 0x0, 0x0, 0x0, 0x0⟩,
   ⟨"OZL_PEER", 0x510008, [(0x1000, 6)], 32, 0x0, 0x0, 0x0, 0x0, 0x0, 0x0, 0x0, 0x0⟩,
   ⟨"OZL_PM", 0x51000C, [(0x1000, 6)], 32, 0x4E2, 0x8003FFFF, 0x0, 0x0, 0x0, 0x0, 0x0, 0x0⟩,
   ⟨"OZL_PMSTS", 0x510010, [(0x1000, 6)], 32, 0x0, 0x0, 0x0, 0x0, 0x0, 0x0, 0x0, 0x0⟩,
   ⟨"OZL_TEST", 0x510014, [(0x1000, 6)], 32, 0x0, 0x3, 0x0, 0x0, 0x0, 0x0, 0x0, 0x0⟩,
   ⟨"OZL_INJ", 0x510018, [(0x1000, 6)], 32, 0x0, 0x0, 0x0, 0x0, 0x0, 0x1, 0x0, 0x0⟩,
   ⟨"OZL_RETRY_CNT", 0x510020, [(0x1000, 6)], 32, 0x0, 0x0, 0x0, 0x0, 0xFFFFFFFF, 0x0, 0x0, 0x0⟩,
   ⟨"OZL_FB_STALE_CNT", 0x510024, [(0x1000, 6)], 32, 0x0, 0x0, 0x0, 0x0, 0xFFFFFFFF, 0x0, 0x0, 0x0⟩,
   ⟨"OZL_TRACE_DROP_CNT", 0x510028, [(0x1000, 6)], 32, 0x0, 0x0, 0x0, 0x0, 0xFFFFFFFF, 0x0, 0x0, 0x0⟩,
   ⟨"OZL_RESTRIPE_CNT", 0x51002C, [(0x1000, 6)], 32, 0x0, 0x0, 0x0, 0x0, 0xFFFFFFFF, 0x0, 0x0, 0x0⟩,
   ⟨"OZL_DOWN_CNT", 0x510030, [(0x1000, 6)], 32, 0x0, 0x0, 0x0, 0x0, 0xFFFFFFFF, 0x0, 0x0, 0x0⟩,
   ⟨"OZL_LCFG", 0x510800, [(0x1000, 6), (0x80, 4)], 32, 0x0, 0x8000003C, 0x0, 0x0, 0x0, 0x40, 0x0, 0x0⟩,
   ⟨"OZL_LSTS", 0x510804, [(0x1000, 6), (0x80, 4)], 32, 0x0, 0x0, 0x0, 0x0, 0x0, 0x0, 0x0, 0x0⟩,
   ⟨"OZL_PRBS_ERR", 0x510808, [(0x1000, 6), (0x80, 4)], 32, 0x0, 0x0, 0x0, 0x0, 0xFFFFFFFF, 0x0, 0x0, 0x0⟩,
   ⟨"OZL_BIP_ERR", 0x51080C, [(0x1000, 6), (0x80, 4)], 32, 0x0, 0x0, 0x0, 0x0, 0xFFFFFFFF, 0x0, 0x0, 0x0⟩]

/-- Rows of block b06, part 0. -/
def rows_b06_0 : List RegRow :=
  [⟨"HIF_STS", 0x600000, [], 32, 0x0, 0x0, 0x0, 0x0, 0x0, 0x0, 0x0, 0x0⟩,
   ⟨"HIF_DB_DROP_CNT", 0x600004, [], 32, 0x0, 0x0, 0x0, 0x0, 0xFFFFFFFF, 0x0, 0x0, 0x0⟩,
   ⟨"HIF_DB_ERR", 0x600008, [], 32, 0x0, 0x0, 0x0, 0x0, 0x0, 0x0, 0x0, 0x0⟩,
   ⟨"QM_QIDX", 0x610000, [], 32, 0x0, 0x3FFFF, 0x0, 0x0, 0x0, 0x0, 0x0, 0x0⟩,
   ⟨"QM_QCMD", 0x610004, [], 32, 0x0, 0x0, 0x0, 0x0, 0x0, 0x3, 0x0, 0x0⟩,
   ⟨"QM_QSTS", 0x610008, [], 32, 0x0, 0x0, 0x0, 0x0, 0x0, 0x0, 0x0, 0x0⟩,
   ⟨"QM_QPROD", 0x61000C, [], 32, 0x0, 0x0, 0x0, 0x0, 0x0, 0x0, 0x0, 0x0⟩,
   ⟨"QM_QCONS", 0x610010, [], 32, 0x0, 0x0, 0x0, 0x0, 0x0, 0x0, 0x0, 0x0⟩,
   ⟨"QM_SPILL_CNT", 0x610014, [], 32, 0x0, 0x0, 0x0, 0x0, 0xFFFFFFFF, 0x0, 0x0, 0x0⟩,
   ⟨"QM_DROP_CNT", 0x610018, [], 32, 0x0, 0x0, 0x0, 0x0, 0xFFFFFFFF, 0x0, 0x0, 0x0⟩,
   ⟨"QM_FENCE_LATE_CNT", 0x61001C, [], 32, 0x0, 0x0, 0x0, 0x0, 0xFFFFFFFF, 0x0, 0x0, 0x0⟩,
   ⟨"QM_QD", 0x610020, [(0x4, 8)], 32, 0x0, 0xFFFFFFFF, 0x0, 0x0, 0x0, 0x0, 0x0, 0x0⟩]

/-- Rows of block b01, part 0. -/
def rows_b01_0 : List RegRow :=
  [⟨"SHR_STS", 0x100000, [], 32, 0x1, 0x0, 0x0, 0x0, 0x0, 0x0, 0x0, 0x0⟩,
   ⟨"SHR_SEAL_DROP_CNT", 0x100004, [], 32, 0x0, 0x0, 0x0, 0x0, 0xFFFFFFFF, 0x0, 0x0, 0x0⟩,
   ⟨"SHR_DENY", 0x100008, [], 64, 0x0, 0x0, 0x0, 0x0, 0x0, 0x0, 0x0, 0x0⟩,
   ⟨"SHR_DBG_CTL", 0x100010, [], 32, 0x0, 0x0, 0x0, 0x0, 0x0, 0x30F, 0x0, 0x0⟩,
   ⟨"SHR_OKEY", 0x100014, [], 32, 0x0, 0x0, 0x0, 0x0, 0x0, 0x0, 0x0, 0x0⟩,
   ⟨"SHR_DBG_CHAL", 0x100020, [(0x4, 8)], 32, 0x0, 0x0, 0x0, 0x0, 0x0, 0x0, 0x0, 0x0⟩,
   ⟨"SHR_DBG_RESP", 0x100040, [(0x4, 24)], 32, 0x0, 0x0, 0x0, 0x0, 0x0, 0xFFFFFFFF, 0x0, 0x0⟩,
   ⟨"SHR_MEAS", 0x100440, [(0x40, 15), (0x4, 12)], 32, 0x0, 0x0, 0x0, 0x0, 0x0, 0x0, 0x0, 0x0⟩,
   ⟨"SHR_PCMD", 0x110000, [(0x1000, 8)], 32, 0x0, 0x0, 0x0, 0x0, 0x0, 0xF, 0x0, 0x0⟩,
   ⟨"SHR_PSTS", 0x110004, [(0x1000, 8)], 32, 0x0, 0x0, 0x0, 0x0, 0x0, 0x0, 0x0, 0x0⟩,
   ⟨"SHR_PSRC", 0x110008, [(0x1000, 8)], 64, 0x0, 0xFFFFFFFFFFFFFFFF, 0x0, 0x0, 0x0, 0x0, 0x0, 0x0⟩,
   ⟨"SHR_PLEN", 0x110010, [(0x1000, 8)], 32, 0x0, 0xFFFFFF, 0x0, 0x0, 0x0, 0x0, 0x0, 0x0⟩,
   ⟨"SHR_PQID", 0x110014, [(0x1000, 8)], 32, 0x0, 0x8003FFFF, 0x0, 0x0, 0x0, 0x0, 0x0, 0x0⟩,
   ⟨"SHR_PDST", 0x110018, [(0x1000, 8)], 64, 0x0, 0xFFFFFFFFFFFFFFFF, 0x0, 0x0, 0x0, 0x0, 0x0, 0x0⟩,
   ⟨"SHR_PDLEN", 0x110020, [(0x1000, 8)], 32, 0x0, 0xFFFFFF, 0x0, 0x0, 0x0, 0x0, 0x0, 0x0⟩,
   ⟨"SHR_PVER", 0x110024, [(0x1000, 8)], 32, 0x0, 0x0, 0x0, 0x0, 0x0, 0x0, 0x0, 0x0⟩,
   ⟨"SHR_PSEAL_ID", 0x110028, [(0x1000, 8)], 64, 0x0, 0x0, 0x0, 0x0, 0x0, 0x0, 0x0, 0x0⟩,
   ⟨"SHR_PRES", 0x110030, [(0x1000, 8)], 32, 0x0, 0x0, 0x0, 0x0, 0x0, 0x0, 0x0, 0x0⟩,
   ⟨"SHR_PISEQ", 0x110034, [(0x1000, 8)], 32, 0x0, 0x0, 0x0, 0x0, 0x0, 0x0, 0x0, 0x0⟩,
   ⟨"SHR_PNONCE", 0x110040, [(0x1000, 8), (0x4, 8)], 32, 0x0, 0xFFFFFFFF, 0x0, 0x0, 0x0, 0x0, 0x0, 0x0⟩,
   ⟨"SHR_PSTMT", 0x110800, [(0x1000, 8), (0x4, 120)], 32, 0x0, 0x0, 0x0, 0x0, 0x0, 0x0, 0x0, 0x0⟩]

/-- Rows of block b03, part 0. -/
def rows_b03_0 : List RegRow :=
  [⟨"TRIM_CTL", 0x300000, [], 32, 0x64003F, 0xFFFF003F, 0x0, 0x0, 0x0, 0x0, 0x0, 0x0⟩,
   ⟨"TRIM_CMD", 0x300004, [], 32, 0x0, 0x0, 0x0, 0x0, 0x0, 0x1FF000F, 0x0, 0x0⟩,
   ⟨"TRIM_STS", 0x300008, [], 32, 0x0, 0x0, 0x0, 0x0, 0x0, 0x0, 0x0, 0x0⟩,
   ⟨"TRIM_APPLY_CNT", 0x30000C, [], 32, 0x0, 0x0, 0x0, 0x0, 0xFFFFFFFF, 0x0, 0x0, 0x0⟩,
   ⟨"TRIM_SUPERSEDE_CNT", 0x300010, [], 32, 0x0, 0x0, 0x0, 0x0, 0xFFFFFFFF, 0x0, 0x0, 0x0⟩,
   ⟨"TRIM_CSTS", 0x310000, [(0x20, 464)], 32, 0x0, 0x0, 0x0, 0x0, 0x0, 0x0, 0x0, 0x0⟩,
   ⟨"TRIM_CAL_COUNT", 0x310004, [(0x20, 464)], 32, 0x0, 0x0, 0x0, 0x0, 0x0, 0x0, 0x0, 0x0⟩,
   ⟨"TRIM_CAL_LAST_SEC", 0x310008, [(0x20, 464)], 64, 0x0, 0x0, 0x0, 0x0, 0x0, 0x0, 0x0, 0x0⟩,
   ⟨"TRIM_CAL_LAST_NS", 0x310010, [(0x20, 464)], 64, 0x0, 0x0, 0x0, 0x0, 0x0, 0x0, 0x0, 0x0⟩,
   ⟨"TRIM_SPARE", 0x310018, [(0x20, 464)], 32, 0x0, 0x0, 0x0, 0x0, 0x0, 0x0, 0x0, 0x0⟩]

/-- Rows of block b02, part 0. -/
def rows_b02_0 : List RegRow :=
  [⟨"REEF_STS", 0x200000, [], 32, 0x0, 0x0, 0x7, 0x0, 0x0, 0x0, 0x0, 0x0⟩,
   ⟨"REEF_CMD", 0x200004, [], 32, 0x0, 0x0, 0x0, 0x0, 0x0, 0x3F0F, 0x0, 0x0⟩,
   ⟨"REEF_PLIM", 0x200008, [], 32, 0x12C, 0x1FF, 0x0, 0x0, 0x0, 0x0, 0x0, 0x0⟩,
   ⟨"REEF_PWR", 0x20000C, [], 32, 0x0, 0x0, 0x0, 0x0, 0x0, 0x0, 0x0, 0x0⟩,
   ⟨"REEF_PEAK", 0x200010, [], 32, 0x0, 0x0, 0x0, 0x0, 0xFFFF, 0x0, 0x0, 0x0⟩,
   ⟨"REEF_LVL_CNT", 0x200014, [], 32, 0x0, 0x0, 0x0, 0x0, 0xFFFFFFFF, 0x0, 0x0, 0x0⟩,
   ⟨"REEF_TRIP_CNT", 0x200018, [], 32, 0x0, 0x0, 0x0, 0x0, 0x0, 0x0, 0x0, 0x0⟩,
   ⟨"REEF_SENS", 0x200100, [(0x4, 48)], 32, 0x0, 0x0, 0x0, 0x0, 0x0, 0x0, 0x0, 0x0⟩,
   ⟨"REEF_ZONE", 0x200200, [(0x4, 24)], 32, 0x0, 0x0, 0x10000, 0x0, 0x0, 0x0, 0x0, 0x0⟩,
   ⟨"REEF_RAIL", 0x200300, [(0x8, 8)], 64, 0x0, 0x0, 0x0, 0x0, 0x0, 0x0, 0x0, 0x0⟩]

/-- Rows of block b0D, part 0. -/
def rows_b0D_0 : List RegRow :=
  [⟨"FLT_STS", 0xD00000, [], 32, 0x0, 0x0, 0x3, 0x0, 0x0, 0x0, 0x0, 0x0⟩,
   ⟨"FLT_CMD", 0xD00004, [], 32, 0x0, 0x0, 0x0, 0x0, 0x0, 0xF, 0x0, 0x0⟩,
   ⟨"FLT_IRQ", 0xD00008, [], 32, 0x20, 0x7FF003F, 0x0, 0x0, 0x0, 0x0, 0x0, 0x0⟩,
   ⟨"FLT_LOG_WP", 0xD0000C, [], 32, 0x0, 0x0, 0x0, 0x0, 0x0, 0x0, 0x0, 0x0⟩,
   ⟨"FLT_LOG_RP", 0xD00010, [], 32, 0x0, 0x1FF, 0x0, 0x0, 0x0, 0x0, 0x0, 0x0⟩,
   ⟨"FLT_LOG_LOST", 0xD00014, [], 32, 0x0, 0x0, 0x0, 0x0, 0xFFFFFFFF, 0x0, 0x0, 0x0⟩,
   ⟨"FLT_MARK", 0xD00018, [], 32, 0x0, 0x0, 0x0, 0x0, 0x0, 0x3F, 0x0, 0x0⟩,
   ⟨"FLT_MARK_REL", 0xD00020, [], 64, 0x0, 0xFFFFFFFFFFFFFFFF, 0x0, 0x0, 0x0, 0x0, 0x0, 0x0⟩,
   ⟨"FLT_CNT", 0xD00040, [(0x4, 6)], 32, 0x0, 0x0, 0x0, 0x0, 0xFFFFFFFF, 0x0, 0x0, 0x0⟩,
   ⟨"FLT_CLS_WAIT", 0xD00060, [(0x4, 5)], 32, 0x0, 0x0, 0x0, 0x0, 0xFFFFFFFF, 0x0, 0x0, 0x0⟩,
   ⟨"FLT_TRIG_CFG", 0xD00100, [(0x4, 16)], 32, 0x2, 0xFF00001F, 0x0, 0x0, 0x0, 0x0, 0xFF00001F, 0x0⟩,
   ⟨"FLT_GLITCH_CNT", 0xD00140, [(0x4, 16)], 32, 0x0, 0x0, 0x0, 0x0, 0xFFFFFFFF, 0x0, 0x0, 0x0⟩,
   ⟨"FLT_LOG", 0xD01000, [(0x10, 256), (0x4, 4)], 32, 0x0, 0x0, 0x0, 0x0, 0x0, 0x0, 0x0, 0x0⟩]

/-- Rows of block b0F, part 0. -/
def rows_b0F_0 : List RegRow :=
  [⟨"RAT_STS", 0xF00000, [], 32, 0x0, 0x0, 0x0, 0x0, 0xFFFF0000, 0x0, 0x0, 0x0⟩]

/-- The rows among which a BAR0 address can lie: those of its block (the BAR0 map of the register tables). -/
def rowsOf (a : Nat) : List RegRow :=
  if a ≥ 0x2000000 then rows_conv_0 ++ rows_conv_1
  else if a ≥ 0x1000000 then rows_yard_0 ++ rows_yard_1 ++ rows_yard_2 ++ rows_yard_3 ++ rows_yard_4 ++ rows_yard_5
  else if a / 0x100000 = 0x00 then rows_b00_0
  else if a / 0x100000 = 0x0E then rows_b0E_0
  else if a / 0x100000 = 0x0B then rows_b0B_0
  else if a / 0x100000 = 0x0A then rows_b0A_0
  else if a / 0x100000 = 0x0C then rows_b0C_0
  else if a / 0x100000 = 0x09 then rows_b09_0
  else if a / 0x100000 = 0x08 then rows_b08_0
  else if a / 0x100000 = 0x04 then rows_b04_0 ++ rows_b04_1
  else if a / 0x100000 = 0x05 then rows_b05_0
  else if a / 0x100000 = 0x06 then rows_b06_0
  else if a / 0x100000 = 0x01 then rows_b01_0
  else if a / 0x100000 = 0x03 then rows_b03_0
  else if a / 0x100000 = 0x02 then rows_b02_0
  else if a / 0x100000 = 0x0D then rows_b0D_0
  else if a / 0x100000 = 0x0F then rows_b0F_0
  else []

/-- Does an offset lie on an instance of a row with these distances and numbers of instances? -/
def onStrides (off : Nat) : List (Nat × Nat) → Bool
  | [] => off == 0
  | (st, n) :: rest => decide (off / st < n) && onStrides (off % st) rest

/-- The row of the register at a BAR0 address, if one is implemented there (R12). STAY_SNAP_SEC and STAY_SNAP_NS have
no instance 1 (Table 14-6). -/
def regRow (a : Nat) : Option RegRow :=
  if a = 0x400108 ∨ a = 0x400148 then none
  else (rowsOf a).find? fun r => decide (r.base ≤ a) && onStrides (a - r.base) r.strides

/-- The instance numbers of a register within its row. -/
def strideIdx (off : Nat) : List (Nat × Nat) → List Nat
  | [] => []
  | (st, _) :: rest => off / st :: strideIdx (off % st) rest

end Sys2Proof.Machine
end

