-- ==== Sys2Proof/Machine/Tab.lean ====
section
/-! DEFINITION. Sparse tables in one canonical form: keys strictly rising, and no entry equal to what an unlisted key
reads as. The register file, the stores and the tables of contexts of State are all of this form. -/

namespace Sys2Proof.Machine

/-- A sparse table: (key, value) pairs. -/
abbrev Tab (α : Type) := List (Nat × α)

/-- The value at a key; `d` gives what an unlisted key reads as. -/
def sget {α : Type} (d : Nat → α) : Tab α → Nat → α
  | [], k => d k
  | (j, v) :: t, k => if j = k then v else sget d t k

/-- The table without any entry of a key. -/
def sdel {α : Type} : Tab α → Nat → Tab α
  | [], _ => []
  | (j, v) :: t, k => if j = k then sdel t k else (j, v) :: sdel t k

/-- The table with an entry put at its place in the order of the keys. -/
def sins {α : Type} : Tab α → Nat → α → Tab α
  | [], k, v => [(k, v)]
  | (j, w) :: t, k, v => if k < j then (k, v) :: (j, w) :: t else (j, w) :: sins t k v

/-- Writing a key: an entry equal to the unlisted value is removed, so that the canonical form is kept. -/
def sput {α : Type} [DecidableEq α] (d : Nat → α) (t : Tab α) (k : Nat) (v : α) : Tab α :=
  if v = d k then sdel t k else sins (sdel t k) k v

/-- The canonical form: keys strictly rising from `lo`, and no entry equal to the unlisted value. -/
def swfFrom {α : Type} [DecidableEq α] (d : Nat → α) : Nat → Tab α → Bool
  | _, [] => true
  | lo, (j, v) :: t => decide (lo ≤ j) && decide (v ≠ d j) && swfFrom d (j + 1) t

/-- The canonical form of a table. -/
def swf {α : Type} [DecidableEq α] (d : Nat → α) (t : Tab α) : Bool := swfFrom d 0 t

/-- A table whose unlisted keys read as the default of its type. -/
def tget {α : Type} [Inhabited α] (t : Tab α) (k : Nat) : α := sget (fun _ => default) t k

/-- Writing such a table. -/
def tput {α : Type} [Inhabited α] [DecidableEq α] (t : Tab α) (k : Nat) (v : α) : Tab α :=
  sput (fun _ => default) t k v

/-- The canonical form of such a table. -/
def twf {α : Type} [Inhabited α] [DecidableEq α] (t : Tab α) : Bool := swf (fun _ => (default : α)) t

/-- A store of bytes: unlisted bytes read 0 (device reset clears the stores). -/
abbrev Store := Tab (BitVec 8)

/-- A byte of a store. -/
def ldByte (m : Store) (a : Nat) : BitVec 8 := tget m a

/-- Writing a byte of a store. -/
def stByte (m : Store) (a : Nat) (b : BitVec 8) : Store := tput m a b

/-- `n` bytes from an address, read little-endian (R7). -/
def ldBytes (m : Store) (a : Nat) : Nat → Nat
  | 0 => 0
  | n + 1 => (ldByte m a).toNat + 256 * ldBytes m (a + 1) n

/-- Writing `n` bytes little-endian (R7). -/
def stBytes (m : Store) (a : Nat) : Nat → Nat → Store
  | 0, _ => m
  | n + 1, v => stBytes (stByte m a (BitVec.ofNat 8 v)) (a + 1) n (v / 256)

/-- Writing a list of bytes from an address on. -/
def stList (m : Store) (a : Nat) : List (BitVec 8) → Store
  | [] => m
  | b :: bs => stList (stByte m a b) (a + 1) bs

/-- The list of `n` bytes from an address on. -/
def ldList (m : Store) (a : Nat) : Nat → List (BitVec 8)
  | 0 => []
  | n + 1 => ldByte m a :: ldList m (a + 1) n

end Sys2Proof.Machine
end

