-- ==== Sys2Proof/Machine/State.lean ====
section
/-! DEFINITION. The state of the part as plain data, its faults and refusals, and the state right after reset. -/

namespace Sys2Proof.Machine

/-- Reasons for which a step stops. No rule of the manual stops the part: an event that is refused, discarded or out of
place leaves a next state. -/
inductive Fault
  /-- Raised by no command: it stands for a stop of the whole part, which the manual never describes. Safe. -/
  | stopped
  deriving DecidableEq, Repr

/-- Reasons for which a command has no meaning in the model. -/
inductive Refusal
  /-- Raised by an arm of `exec` whose command has no meaning yet, with the mnemonic of the command table. Safe. -/
  | notModelled (mnemonic : String)
  deriving DecidableEq, Repr

/-! ### Items that pass between islands (chapter 1) -/

/-- The traffic classes of Table 1-4. -/
inductive TClass | fb | ctrl | posted | result | trace
  deriving DecidableEq, Repr, Inhabited

/-- What a timed Mast instruction does at its release, with its operands captured at issue (R95). -/
inductive TAct
  /-- PLAY: target, source kind, source ID, amplitude, and the length in ft that ADV would add. -/
  | play (tgt src id amp len : Nat)
  /-- ACQ: channel mask, TAG, length in ft. -/
  | acq (chmask tag len : Nat)
  /-- FRAME: tone, operation, value. -/
  | frame (tone fop val : Nat)
  /-- BIAS: the 20-bit code. -/
  | bias (code : Nat)
  /-- MARK: timing set, action, width in ft. -/
  | mark (set act width : Nat)
  /-- SETR: offset in the yard page, value. -/
  | setr (off val : Nat)
  /-- COMMIT: class mask. -/
  | commit (mask : Nat)
  /-- A microcode EMIT or STAGE: target block and payload U0 to U3, whose layout the manual does not give. -/
  | micro (blk : Nat) (u : List Nat)
  deriving DecidableEq, Repr, Inhabited

/-- What a held item does when it is applied. -/
inductive ItemAct
  /-- A timed effect of yard `y`, issued at instruction index `pc`. -/
  | timed (y pc : Nat) (a : TAct)
  /-- A register write carried by a CTRL item (a Winch EMIT, R390): BAR0 address, value, 64-bit form, sending core. -/
  | emit (addr : Nat) (val : Word) (w64 : Bool) (core : Nat)
  /-- A correction of the Pauli frame of tone `t` of yard `y`, from a decoder context (R196). -/
  | corr (y t : Nat) (x z : Bool) (ctx : Nat)
  /-- An event of a hub timer for channel `c` of yard `y`, whose time is the release time (R255). -/
  | start (y c : Nat)
  /-- The event of hub timer `t` at the blocks of the hub, with the action and the argument it was sent with (R459). -/
  | timer (t act arg : Nat)
  /-- A command of a lockstep group (Table 1-8). -/
  | group (g cmd : Nat)
  /-- An out-bound sample batch for a streaming channel: it completes the given number of blocks (R173). -/
  | batch (y ch blocks : Nat)
  deriving DecidableEq, Repr, Inhabited

/-- A stamped item (R37): release time in st of TB1, sending and receiving island (the encoding of GLB_HANG_INFO). -/
structure Item where
  rel : Nat
  src : Nat
  dst : Nat
  cls : TClass
  act : ItemAct
  deriving DecidableEq, Repr, Inhabited

/-- A report on its way to the fault manager (R582): its status code, whether it raised a program fault (R580), the
island it comes from (the encoding of GLB_HANG_INFO) and the instance it names. -/
structure Report where
  code : Nat
  program : Bool
  src : Nat
  inst : Nat
  deriving DecidableEq, Repr, Inhabited

/-- A result record on its way to its queue (R508, R511): the queue named when it was formed, its producer (the SRC encoding
of Table 16-10), its stamp, its eight 64-bit words, the words of the CONT entries that follow it, and whether it belongs to no shot (a window
that a timer or a trigger started, a Winch core's). -/
structure Rec where
  qid : Nat
  prod : Nat
  time : Nat
  words : List Nat
  conts : List (List Nat)
  apart : Bool
  deriving DecidableEq, Repr, Inhabited

/-! ### Image manager (chapter 2) -/

/-- An ownership range in force (Table 2-8). -/
structure OwnRange where
  cls : Nat
  okind : Nat
  owner : Nat
  first : Nat
  count : Nat
  deriving DecidableEq, Repr, Inhabited

/-- An allotment in force (Table 2-7). -/
structure AllotRange where
  block : Nat
  part : Nat
  first : Nat
  count : Nat
  deriving DecidableEq, Repr, Inhabited

/-- The composition of a yard in force (Table 2-6); `present` once an image has named the yard. -/
structure YardComp where
  present : Bool
  group : Nat
  part : Nat
  driveEn : Nat
  probeEn : Nat
  demodEn : Nat
  misc : Nat
  deriving DecidableEq, Repr, Inhabited

/-- A route named by an image (Table 2-5): output kind and index; `named` false stands for the default of Table 1-2. -/
structure Route where
  named : Bool
  out : Nat
  index : Nat
  deriving DecidableEq, Repr, Inhabited

/-- A partition entry of the image: its flags and its token key (chapter 17). -/
structure PartCfg where
  flags : Nat
  tpk : List (BitVec 8)
  deriving DecidableEq, Repr, Inhabited

/-- A link entry of LINK_TOPO (chapter 15). -/
structure LinkCfg where
  flags : Nat
  peerDev : Nat
  peerLink : Nat
  maxRate : Nat
  pre : Nat
  post : Nat
  deriving DecidableEq, Repr, Inhabited

/-- A commit in progress: kind and scope of the image, the release time R, the phase of Table 2-13, the REG_INIT words
still to write (address, value), the yards of the scope and the groups left in RECONFIG. -/
structure Commit where
  kind : Nat
  scope : Nat
  rel : Nat
  phase : Nat
  words : List (Nat × Nat)
  next : Nat
  groups : List Nat
  deriving DecidableEq, Repr, Inhabited

/-- The configuration in force and the image manager's own state: `routeOrd` the tones that ROUTING names, in image order, `init` the
REG_INIT values in force, `staging` and `held` the staged bytes and their number, `sigLen` the bytes of the signature part,
`tenant` the partition whose key signed the image, `auto_` an autoload (R628), `full` whether the LOAD found a full image. -/
structure Img where
  owns : List OwnRange
  allots : List AllotRange
  yards : Tab YardComp
  routes : Tab Route
  routeOrd : List Nat
  init : Tab Word
  parts : Tab PartCfg
  links : Tab LinkCfg
  devId : Nat
  nDev : Nat
  staging : Store
  held : Nat
  fromFlash : Bool
  sigLen : Nat
  tenant : Option Nat
  auto_ : Bool
  full : Bool
  commit : Option Commit
  deriving DecidableEq, Repr, Inhabited

/-! ### Lockstep groups and Masts (chapters 1, 3, 4) -/

/-- A group command written and not yet released (R51): the command code of Table 1-14 and its release time. -/
structure LsgCmd where
  cmd : Nat
  rel : Nat
  deriving DecidableEq, Repr, Inhabited

/-- A lockstep group. GSTATE stands in GLB_LSG_STAT. `t0` is the start of the next shot or pass where one is due, `lastEnd`
the latest end signal, `shot` the shot index, `attempt` the replay count, `rpass` a reset pass in progress, `marks` the
replayable fault codes on the attempt, `causes` those not yet cleared, `holdT0` a shot start that Reef holds (R571),
`mark` a pending FLT_MARK with its release (R595), `pass` the number of passes started, and `past` the last of them that have ended: number,
shot index, replay count and marks (R129). -/
structure Group where
  cmd : Option LsgCmd
  t0 : Option Nat
  lastEnd : Nat
  shot : Nat
  attempt : Nat
  rpass : Bool
  replayDue : Bool
  marks : List Nat
  causes : List Nat
  noReplay : Bool
  held : Bool
  mark : Option Nat
  runEnd : Bool
  byService : Option Nat
  pass : Nat
  past : List (Nat × Nat × Nat × List Nat)
  deriving DecidableEq, Repr, Inhabited

/-- An active hardware loop: its LC register, first and last instruction of its body. -/
structure LoopCtx where
  lc : Nat
  first : Nat
  last : Nat
  deriving DecidableEq, Repr, Inhabited

/-- Why a Mast stands in STALL. -/
inductive MHold
  | none
  /-- R94: until the release time comes within AHEAD_MAX. -/
  | ahead (until_ : Nat)
  | fence
  /-- R114: until TB1 reaches `at_`, for a slot and a destination register. -/
  | ldd (slot gd at_ : Nat)
  /-- A routine at a WAITC microword (Table 4-3): the next address, the microwords done, U0 to U7, the program counter where it was set,
  the condition and its value; condition 4 stands for the microwords that follow until TB1 reaches the value (R132). -/
  | uc (addr done : Nat) (u : List Nat) (jump : Option Nat) (cond val : Nat)
  deriving DecidableEq, Repr, Inhabited

/-- A staged timed instruction of a WAITD path: its action and the ft its ADV adds. -/
structure Staged where
  act : TAct
  adv : Nat
  pc : Nat
  deriving DecidableEq, Repr, Inhabited

/-- A WAITD that waits (R108 to R113). -/
structure WaitD where
  slot : Nat
  dflt : Nat
  st : Nat
  lqd : Bool
  from_ : Nat
  deadline : Nat
  target : Nat
  pc : Nat
  clk : Nat
  stagedT : List Staged
  stagedF : List Staged
  deriving DecidableEq, Repr, Inhabited

/-- A SYNC that waits (R119): GROUP (mode 0) or TRIG (mode 1), the latest TB1 at which it may be satisfied, its cursor as
an absolute TB1, and the TB1 of its issue. -/
structure SyncW where
  mode : Nat
  trig : Nat
  edge : Nat
  until_ : Nat
  cursor : Nat
  at_ : Nat
  deriving DecidableEq, Repr, Inhabited

/-- The shot journal entry of a Mast (Table 3-9): index, G registers, the frames of the tones and their Pauli bits. -/
structure Journal where
  index : Nat
  g : List Word
  frames : List (Word × Word)
  deriving DecidableEq, Repr, Inhabited

/-- A map entry of the microcode (Table 4-7). -/
structure UcMap where
  kind : Nat
  opcode : Nat
  from_ : Nat
  to_ : Nat
  deriving DecidableEq, Repr, Inhabited

/-- A patch load in progress: its header fields and its map, held until the body phase ends. -/
structure UcLoad where
  body : Bool
  level : Nat
  words : Nat
  crc : Nat
  maps : List UcMap
  deriving DecidableEq, Repr, Inhabited

/-- What a Mast holds beside its registers: `clk` the TB1 of its next microword, `endAt` the latest pin end of a play and
end of a window of the shot, `outRes` RESULT records of the yard not yet at their queue. -/
structure Mast where
  clk : Nat
  loops : List LoopCtx
  hold : MHold
  waitd : Option WaitD
  sync : Option SyncW
  toShot : Nat
  endAt : Nat
  endRun : Bool
  signalled : Bool
  outRes : Nat
  journal : Journal
  ucMap : List UcMap
  ucGov : List UcMap
  ucLoad : Option UcLoad
  ucWords : Nat
  ucCrc : Nat
  haltReq : Bool
  deriving DecidableEq, Repr, Inhabited

/-- Chapters 1, 3 and 4: groups, Masts, the sequence store (yard y at byte 262,144 y) and the patch RAM (8,192 y), the hangs of the last
10 µs with their times, and the yards that need partial reconfiguration after one (Table 1-6). -/
structure Seq where
  groups : Tab Group
  masts : Tab Mast
  store : Store
  patch : Store
  hangs : List (Nat × Nat)
  hung : List Nat
  deriving DecidableEq, Repr, Inhabited

/-! ### Halyard (chapter 5) -/

/-- The states of a segment (Table 5-2). -/
inductive SegState | free | loading | ready | active | draining
  deriving DecidableEq, Repr, Inhabited

/-- A segment entry (Table 5-1) with its state, its users, and the number and the page of the last change
to it through a command (R150; page 64 for a DMA load). -/
structure Seg where
  start : Nat
  len : Nat
  count : Nat
  nextEn : Bool
  next : Nat
  state : SegState
  users : Nat
  stamp : Nat
  by_ : Nat
  deriving DecidableEq, Repr, Inhabited

/-- A pending jump (R164): STOP or a segment, and the jump time J; `late` once it has missed its first boundary. -/
structure Jump where
  stop : Bool
  seg : Nat
  j : Nat
  late : Bool
  deriving DecidableEq, Repr, Inhabited

/-- What a boundary was found to do when its next sample was addressed (R160). -/
inductive SegPlan
  | again
  | to_ (seg : Nat) (e : Seg)
  | stop
  | fail (code seg : Nat)
  deriving DecidableEq, Repr, Inhabited

/-- A play in progress on a target: source kind (0 segment, 1 parametric, 2 stream), release, end of the play where it is
known, the instruction index of its PLAY; for a segment the entry captured, the passes left (none: unbounded), the next
boundary and the plan for it; for a parametric play its eight words; for a stream its block; the release-equivalent times of
samples whose read hits an uncorrectable error (R156), each with whether its program fault has been raised. -/
structure Play where
  src : Nat
  id : Nat
  amp : Nat
  r : Nat
  pc : Nat
  entry : Seg
  passes : Option Nat
  bound : Nat
  plan : Option SegPlan
  prm : List Nat
  stop : Nat
  block : Nat
  bad : List (Nat × Bool)
  deriving DecidableEq, Repr, Inhabited

/-- A target: the play in progress and the jump pending; TSTATE stands in HAL_TGT_STS. -/
structure Target where
  play : Option Play
  jump : Option Jump
  deriving DecidableEq, Repr, Inhabited

/-- A play request of a Mast that the Halyard has not yet released, with what its capture found (R158). -/
structure PlayReq where
  y : Nat
  tgt : Nat
  r : Nat
  pc : Nat
  src : Nat
  id : Nat
  amp : Nat
  cap : Option Play
  deriving DecidableEq, Repr, Inhabited

/-- A streaming channel: blocks counted from the start of the stream. `wp` blocks available, `rp` the read pointer, `m` the
shot mark, `skip` blocks to discard on arrival (R177), `ringBlocks` the blocks of the ring and `ringSeg` its segment, `coming` blocks
of batches not yet released, `starved` the release-equivalent time of the sample that starved the attempt. -/
structure Strm where
  wp : Nat
  rp : Nat
  m : Nat
  skip : Nat
  ringBlocks : Nat
  ringSeg : Nat
  coming : Nat
  starved : Option Nat
  deriving DecidableEq, Repr, Inhabited

/-- A marker pin: level, time of the last edge and edges placed (time, level, yard of the MARK, in order of release), in steps of 6.25 ps
of `now`; `lowAt` the time at which the pin is driven low (R183). -/
structure Pin where
  level : Bool
  last : Option Nat
  edges : List (Nat × Bool × Nat)
  lowAt : Option Nat
  deriving DecidableEq, Repr, Inhabited

/-- Chapter 5: the segment tables (quadrant q, entry i at 4,096 q + i), the stamp each yard page took at its last
HAL_SEG_IDX write, requests, targets (32 y + t), streams (2 y + c), pins, the waveform stores (quadrant q at byte
12,582,912 q), the count of changes to the tables, and the batches whose lead runs on the island clock while TB1 does not run: time (`now`)
of release, yard, channel, blocks (R173, R665). -/
structure Hal where
  segs : Tab Seg
  idxStamp : Tab Nat
  reqs : List PlayReq
  tgts : Tab Target
  strms : Tab Strm
  pins : Tab Pin
  wave : Store
  changes : Nat
  batches : List (Nat × Nat × Nat × Nat)
  deriving DecidableEq, Repr, Inhabited

/-! ### Tones, flux and bias (chapters 6, 7) -/

/-- A stretch of a frequency history (R189, R294): from TB1 value `at_` on, where the phase is `acc`, the frequency word is `f`. -/
structure FSeg where
  at_ : Nat
  acc : Nat
  f : Nat
  deriving DecidableEq, Repr, Inhabited

/-- A hand-over due (R205): yard, tick, class mask, and whether it is the pending host command. -/
structure HoReq where
  y : Nat
  h : Nat
  mask : Nat
  host : Bool
  deriving DecidableEq, Repr, Inhabited

/-- The last hand-over of a class of a yard: its tick (plus 1; 0 for none), whether it made the class active, and
whether it found the set OPEN (R206, R208). -/
structure HoLast where
  tick1 : Nat
  made : Bool
  wasOpen : Bool
  deriving DecidableEq, Repr, Inhabited

/-- A frame correction applied in an ft (R196, R198): that ft, yard, tone, X and Z. -/
structure Corr where
  at_ : Nat
  y : Nat
  t : Nat
  x : Bool
  z : Bool
  deriving DecidableEq, Repr, Inhabited

/-- The filters of a flux output: the IIR states (s1.31), the FIR delay line and the last 8 samples of the interpolator (s1.23, newest
first), the last DAC code, and the time (`now`) at which the filters were last cleared. -/
structure FluxF where
  z : List Int
  dl : List Int
  up : List Int
  code : Int
  cut : Nat
  deriving DecidableEq, Repr, Inhabited

/-- Chapters 6 and 7. `ncos` the frequency history of each tone (newest first; empty while its word has not changed since TB1 = 0), `pf` the
corrections applied in the present ft, `env` the last stage 1 samples of each tone (newest first, none while all are zero), `fed` the
newest code of each output on its way to the pin, `line` the changes of code on their way (`now` at the pin, output, code), oldest first,
and `dac` the code at each pin. Outputs: TXDn n, TXPk 64 + k, FLXi 128 + i, BIASn 384 + n. `big`: the time (`now`, plus 1) since which
the code in force of a bias source has had a magnitude of at least 50 µA (R239). -/
structure Ton where
  ncos : Tab (List FSeg)
  hos : List HoReq
  last : Tab HoLast
  pf : List Corr
  flux : Tab FluxF
  env : Tab (List (Int × Int))
  fed : Tab Int
  line : List (Nat × Nat × Int)
  dac : Tab Int
  big : Tab Nat
  deriving DecidableEq, Repr, Inhabited

/-! ### Time -/

/-- The clocks: `now` counts st from the entry into BOOT, `tb1` is TB1 in st (R35; it counts while RUNNING). -/
structure Clock where
  now : Nat
  tb1 : Nat
  deriving DecidableEq, Repr, Inhabited

/-- What passes between islands: held items in order of release and, for equal releases, of sending (R37, R44), items sent
to another island that have not arrived, reports on their way to the fault manager, records on their way to their
queues, the counter of the free values and the last read data (the model's own), and the registers that a SETR has written in the
present ft, with that ft (R98). -/
structure Bus where
  held : List Item
  transit : List Item
  reports : List Report
  recs : List Rec
  free : Nat
  rdata : Word
  setrs : List (Nat × Nat)
  deriving DecidableEq, Repr, Inhabited


/-! ### Converters, demodulation, decisions (chapters 8, 9, 10) -/

/-- A read-out ADC: its settings (CNV_CFG, CNV_CORR_A, CNV_CORR_B) by the time (`now`) from which each was in force, newest first (none while
they have not changed since the image), and the spans of UNSETTLED samples (Table 8-2). -/
structure Adc where
  hist : List (Nat × Word × Word × Word)
  uns : List (Nat × Nat)
  deriving DecidableEq, Repr, Inhabited

/-- An injected request (R269): the requester's kind (0 host, 1 Winch, 2 timer) and its partition or core, TAG and input, and the timer that
made it. -/
structure Inj where
  kind : Nat
  who : Nat
  tag : Nat
  input : Nat
  timer : Option Nat
  deriving DecidableEq, Repr, Inhabited

/-- What a monitor ADC converts from a word boundary on (Table 8-7). -/
inductive MonRun
  | none
  | scan
  | inj (i : Inj)
  | xchk
  | cal
  deriving DecidableEq, Repr, Inhabited

/-- A monitor ADC: waiting requests, the conversion running, UNSETTLED and settled words still to come, the scan entry, the
mux input and rate in force, scan cycles since the last cross-check, a cross-check due, a calibration asked for and
deferred, the hub count of its last boundary (plus 1), and a cross-check that its partner has begun at a boundary it has still to take. -/
structure Mon where
  waiting : List Inj
  run : MonRun
  uns : Nat
  left : Nat
  entry : Nat
  input : Option Nat
  dr : Nat
  cycles : Nat
  due : Bool
  calReq : Bool
  deferred : Bool
  last1 : Nat
  join : Bool
  deriving DecidableEq, Repr, Inhabited

/-- A value on its way through a demodulation channel (R296 to R300): I and Q in s1.23 and the UNSETTLED mark (R304). -/
structure CSamp where
  i : Int
  q : Int
  uns : Bool
  deriving DecidableEq, Repr, Inhabited

/-- A kernel sample (R300), with an uncorrectable error of the weight read for it (R314). -/
structure KSample where
  i : Int
  q : Int
  uns : Bool
  ecc : Bool
  deriving DecidableEq, Repr, Inhabited

/-- An acquisition window of a channel: the pass of the group in which it opened, S in st of TB1, its length in ft (the ft covered once it was cut), TAG, source
(Table 8-3), the marks, the kernel samples accumulated with their sum, and the decision issued for it with its
checkpoint and release time. `open_` until ACQ_WINDOW_END. What the filters hold of the window, newest first: mixed samples,
first-stage outputs, and outputs of the first half-band filter (R292, R297, R300). -/
structure Win where
  pass : Nat
  s0 : Nat
  len : Nat
  tag : Nat
  src : Nat
  trunc : Bool
  open_ : Bool
  k : Nat
  accI : Int
  accQ : Int
  uns : Bool
  issued : Option (Nat × Nat × Nat)
  mix : List CSamp
  out1 : List CSamp
  out2 : List CSamp
  deriving DecidableEq, Repr, Inhabited

/-- A cross-fade (R310): the time (`now`) of the pin instant of its first kernel sample, XF, R in ft, the banks. -/
structure Fade where
  start : Nat
  xf : Nat
  r : Nat
  old : Nat
  new_ : Nat
  deriving DecidableEq, Repr, Inhabited

/-- A demodulation channel: its frequency history (newest first; empty while the word has not changed since TB1 = 0), its fades (newest first), a held swap
request, swap requests made active that do not govern yet (`now` of the pin instant, bank), the time (`now`) at which it started, that of an
ft boundary at which it follows RUN (Table 9-5), spans of UNSETTLED pin instants as `now` (Table 9-4), its windows (oldest first), and
the trigger edges that have reached it and opened none yet. -/
structure Dem where
  nco : List FSeg
  fades : List Fade
  held : Option Nat
  swaps : List (Nat × Nat)
  startAt : Nat
  edge : Option Nat
  uns : List (Nat × Nat)
  wins : List Win
  trigs : List Nat
  deriving DecidableEq, Repr, Inhabited

/-- The values that a hand-over of class 2 or 3 replaced (R303, R328): tick and the old values by address. -/
structure ActHist where
  y : Nat
  cls : Nat
  h : Nat
  old : Tab Word
  deriving DecidableEq, Repr, Inhabited

/-- A decision: formed for a score and not yet in the Sheet (`yard`, `chan`, S of its window, its checkpoint; slot 1,024 for one that goes to
none, R331), or in the Sheet and not yet released; `link` 1 to 6 for a forwarded copy from L0 to L5. -/
structure Dec where
  slot : Nat
  dec : Nat
  rel : Nat
  yard : Nat
  chan : Nat
  link : Nat
  mast : Bool
  s0 : Nat
  cp : Nat
  deriving DecidableEq, Repr, Inhabited

/-- A parity tap: per input the value its slot held at the last firing and the decision that satisfies it; for a tap that a write has
cleared, the time (`now`) from which it is off, and the word in force until then (R340). -/
structure TapSt where
  prev : List Nat
  sat : List (Option Nat)
  off : Option (Nat × Nat)
  deriving DecidableEq, Repr, Inhabited

/-- A detector bit on its way to the decoder (R337). -/
structure Det where
  det : Nat
  val : Nat
  erase : Bool
  soft : Bool
  replayed : Bool
  rel : Nat
  deriving DecidableEq, Repr, Inhabited

/-- A forwarded copy sent on a link (R341): link, source slot, decision, release time. -/
structure Copy where
  link : Nat
  slot : Nat
  dec : Nat
  rel : Nat
  deriving DecidableEq, Repr, Inhabited

/-- Chapters 8 to 10. Channels are keyed 8 y + c. `trigEv` holds the events of each edge (2 × input + EDGE) of the last 64 ft (TB1, newest
first); `rels` the releases of a slot that a WAITD of a shot in progress may count (release time, decision, newest first). `res` is the result and capture store. -/
structure Cnv where
  adcs : Tab Adc
  mons : Tab Mon
  dems : Tab Dem
  hist : List ActHist
  trigEv : Tab (List Nat)
  res : Store
  formed : List Dec
  entered : List Dec
  rels : Tab (List (Nat × Nat))
  taps : Tab TapSt
  dets : List Det
  copies : List Copy
  deriving DecidableEq, Repr, Inhabited


/-! ### Syndrome decoder (chapter 11) -/

/-- An edge of a detector graph (Table 11-2). -/
structure DEdge where
  u : Nat
  v : Nat
  w : Nat
  ws : Nat
  qubit : Nat
  pauli : Nat
  obs : Nat
  flags : Nat
  pair : Nat
  deriving DecidableEq, Repr, Inhabited

/-- A graph as the enable read it into the lanes (R352): detector counts and first DET indices, edges, frame targets
(yard, tone), and the slots of each observable. -/
structure DGraph where
  ndet : Nat
  ndetF : Nat
  base : Nat
  baseF : Nat
  edges : List DEdge
  edgesF : List DEdge
  targets : List (Nat × Nat)
  obs : List (List Nat)
  deriving DecidableEq, Repr, Inhabited

/-- A detector of a round: index in its layer, value, ERASE, SOFT, MISSING. -/
structure DBit where
  j : Nat
  val : Nat
  erase : Bool
  soft : Bool
  miss : Bool
  deriving DecidableEq, Repr, Inhabited

/-- An open round of a layer: when it opened and what it has received. -/
structure DOpen where
  final : Bool
  opened : Nat
  got : List DBit
  deriving DecidableEq, Repr, Inhabited

/-- The parts of a logical record that are fixed at the close of a final round (R368): its release F_r, the pass of the group,
the decisions of the observables' slots, and the counts of the experiment. -/
structure DLog where
  f : Nat
  pass : Nat
  slots : List (List Nat)
  rounds : Nat
  miss : Nat
  forced : Nat
  ovl : Bool
  deriving DecidableEq, Repr, Inhabited

/-- A closed round: its index, close, start of decode and processing times, its detectors, the weights its edges have
taken (R358), the detectors that hold an event (values and carries), and, for a final round, its logical record. `flush`: 1 for a round of an attempt that has
ended, 2 for the one whose decode commits the window of such an attempt in full (R366). -/
structure DRound where
  idx : Nat
  final : Bool
  c : Nat
  s : Nat
  v : Nat
  u : Nat
  bits : List DBit
  ws : List Nat
  events : List Nat
  log : Option DLog
  deg : Bool
  xcut : Bool
  flush : Nat
  deriving DecidableEq, Repr, Inhabited

/-- A cluster of the union-find procedure (R359): its nodes, parity, whether it touches a boundary, and whether it touches
an open boundary on this side. -/
structure DClu where
  nodes : List Nat
  odd : Bool
  bnd : Bool
  own : Bool
  deriving DecidableEq, Repr, Inhabited

/-- The growth of one decode: clusters, growth per edge, the growth made on this side of a remote edge, and the remote edges
whose neighbour's parity has been taken in. -/
structure DGrow where
  cl : List DClu
  g : List Nat
  own : List Nat
  joined : List Nat
  deriving DecidableEq, Repr, Inhabited

/-- A decode that exchanges boundary messages (R370): its growth, the next pass, the messages of links that wait for their release and the links that have answered the current
pass, the own routing bits (edge positions), and the remote edges in the correction so far. -/
structure DCur where
  grow : DGrow
  pass : Nat
  start : Nat
  open_ : Bool
  inbox : List (Nat × BMsg)
  answered : List Nat
  peel : List Nat
  route : List Nat
  agreed : List Nat
  deriving DecidableEq, Repr, Inhabited

/-- Frame items of one round that are not yet sent (target, X and Z), their release, and whether the mirror is cleared
after them (R366). -/
structure DItems where
  f : Nat
  items : List (Nat × Nat)
  clear : Bool
  deriving DecidableEq, Repr, Inhabited

/-- A boundary message that a context has sent (R370): link, release, and what it carries. -/
structure DSent where
  link : Nat
  rel : Nat
  msg : BMsg
  deriving DecidableEq, Repr, Inhabited

/-- A decoder context. `on`: an attempt runs; `org` its shot origin; `v`, `u`, `t` the values of R362 in ft for bulk and final
rounds; `idx` the next round; `free` when the lanes come free (S plus U of the last round); `flushAt` the end of a flush
and `tail` the S of a last decode of the window of an ended attempt that no waiting round brings; `prev` the detectors of the last
closed round; `acc` the observable accumulator; `mirror` per target. -/
structure DCtx where
  graph : DGraph
  on : Bool
  ovl : Bool
  org : Nat
  v : Nat
  vF : Nat
  x : Nat
  idx : Nat
  free : Nat
  flushAt : Nat
  tail : Option Nat
  opens : List DOpen
  prev : List DBit
  wait : List DRound
  win : List DRound
  cur : Option DCur
  acc : Nat
  deg : Bool
  xcut : Bool
  rounds : Nat
  miss : Nat
  forced : Nat
  items : List DItems
  logs : List (DLog × Nat × Bool × Bool)
  mirror : List (Nat × Nat)
  deriving DecidableEq, Repr, Inhabited

/-- Chapter 11: contexts, the graph store, and boundary messages sent and not yet on their link. -/
structure DecS where
  ctxs : Tab DCtx
  store : Store
  out : List DSent
  deriving DecidableEq, Repr, Inhabited


/-! ### Host interface, queues and DMA (chapter 16) -/

/-- What the device sends to the host: a write of host memory, or an interrupt message of a vector. -/
inductive HostOut
  | mem (addr : Nat) (bytes : List (BitVec 8))
  | irq (vec : Nat)
  deriving DecidableEq, Repr, Inhabited

/-- A descriptor that has been fetched: its index, its eight 64-bit words, the bytes moved, those of the present RQCOPY burst that have been
written or sent before it ends (`part`), whether it passed its checks (`arm`), whether its data moves or has moved (`run`) and has all
moved (`fin`), its code, and whether it has ended. -/
structure Desc where
  idx : Nat
  words : List Nat
  moved : Nat
  part : Nat
  arm : Bool
  run : Bool
  fin : Bool
  code : Nat
  done : Bool
  deriving DecidableEq, Repr, Inhabited

/-- A queue (Tables 16-4, 16-5): descriptor words, QSTATE, indices, the next entry to fetch, fetched descriptors, spilled
entries, the status, a drop not yet shown by LOST, QM_FENCE times waiting and the last one placed, and the entries made
visible without an interrupt with the time (`now`) of the first. -/
structure Que where
  desc : List Nat
  st : Nat
  prod : Nat
  cons : Nat
  fetch : Nat
  descs : List Desc
  spill : List (List Nat)
  status : Nat
  lost : Bool
  fences : List Nat
  fenced : Nat
  irqN : Nat
  irqAt : Option Nat
  deriving DecidableEq, Repr, Inhabited

/-- A transfer that a peer sends to a store of this device (R513, R514): link, class (2 POSTED, 4 TRACE), store kind, unit,
next address, bytes still to come, the sender's QID and slot, whether its header was accepted, and the bytes of a result
entry received so far (class 3). -/
structure XferIn where
  link : Nat
  cls : Nat
  kind : Nat
  unit_ : Nat
  addr : Nat
  left : Nat
  qid : Nat
  slot : Nat
  ok : Bool
  buf : List (BitVec 8)
  deriving DecidableEq, Repr, Inhabited

/-- Chapter 16: queues, what went to the host (oldest first), the MSI-X table (32-bit words), pending vectors, transfers from peers,
and a PCIe reset that no link training has followed (R618). -/
structure Hif where
  ques : Tab Que
  out : List HostOut
  msix : Tab Nat
  pba : List Nat
  ins : List XferIn
  down : Bool
  deriving DecidableEq, Repr, Inhabited

/-! ### Winch (chapter 12) -/

/-- A transfer of a core (Table 12-3): the byte address of its descriptor in local memory, its fields, and the code of its
check. -/
structure Xfer where
  desc : Nat
  kind : Nat
  st : Nat
  loc : Nat
  rem : Nat
  len : Nat
  code : Nat
  deriving DecidableEq, Repr, Inhabited

/-- A service in progress (Table 12-5): its request, the code with which it is to end early (0 for none), and the settled word of an injected
conversion that it asked for (R272). -/
structure Svc where
  words : List Nat
  code : Nat
  res : List Nat
  deriving DecidableEq, Repr, Inhabited

/-- A core: transfers not complete, RUN written 0 while one was outstanding, the service in progress, and a step by Ratline (R664). -/
structure Core where
  xfers : List Xfer
  stopping : Bool
  svc : Option Svc
  step : Bool
  deriving DecidableEq, Repr, Inhabited

/-- Chapter 12: cores and their local memories (core x at byte 524,288 x). -/
structure Wch where
  cores : Tab Core
  mem : Store
  deriving DecidableEq, Repr, Inhabited

/-! ### Crow's Nest and Furler (chapter 13) -/

/-- An accepted trigger (R409 to R411): its source, its instant, the reference instant of its sample, whether a FORCE fell
on the same instant, and the outputs complete when it was accepted. -/
structure CTrig where
  src : Nat
  inst : Nat
  t : Nat
  forced : Bool
  seen : Nat
  deriving DecidableEq, Repr, Inhabited

/-- A capture channel: reference instant of the first output since the arm or the end of hold-off, LEVEL readiness, the
trigger, records since the arm, the end of hold-off, chunks written since the arm, outputs since the arm, elements dropped
since the last chunk, why and when an open record closes early (1 ABORTED, 2 SHED), and the events (source, instant) on their way to
the channel. -/
structure Cns where
  start : Nat
  ready : Bool
  trig : Option CTrig
  recs : Nat
  holdEnd : Nat
  chunks : Nat
  outs : Nat
  drops : Nat
  closing : Nat
  closeAt : Nat
  evs : List (Nat × Nat)
  deriving DecidableEq, Repr, Inhabited

/-- A compression job of an engine: context, source, its length and the bytes read up to the end of the last block, destination, its length
and the bytes written, the controls, and what has been read of the next block. -/
structure FJob where
  ctx : Nat
  srck : Bool
  src : Nat
  len : Nat
  read : Nat
  dst : Nat
  room : Nat
  out : Nat
  final : Bool
  nogain : Bool
  verify : Bool
  buf : List (BitVec 8)
  deriving DecidableEq, Repr, Inhabited

/-- A Furler context: its history, the symbols of a block not yet emitted, the bit accumulator, and the CRC register. -/
structure FCtx where
  hist : List (BitVec 8)
  pend : List (List Bool)
  acc : List Bool
  crc : BitVec 32
  deriving DecidableEq, Repr, Inhabited

/-- Chapter 13: channels, contexts (4 e + x) and jobs by engine. -/
structure Cap where
  chans : Tab Cns
  ctxs : Tab FCtx
  jobs : Tab (Option FJob)
  deriving DecidableEq, Repr, Inhabited

/-! ### Stay (chapter 14) -/

/-- A hub event timer: compares passed since the arm (the k of R459). -/
structure Tmr where
  k : Nat
  deriving DecidableEq, Repr, Inhabited

/-- The clock of a neighbour: the last 16 round trips as (offset, delay) in ps, newest first. -/
structure LnkTime where
  trips : List (Int × Int)
  deriving DecidableEq, Repr, Inhabited

/-- An Announce message of a master (the data set that the default BMCA compares), as its fields in order, and the time (`now`)
at which it arrived. -/
structure Master where
  ds : List Nat
  at_ : Nat
  interval : Nat
  deriving DecidableEq, Repr, Inhabited

/-- Chapter 14. Bases count units of 50 ps × 2⁻⁴⁰ (`tb0`, `tbn` by number). `starts`: the time (`now`) at which TB1 reads 0;
`skew`: the start of SKEWCAL and the positions it has measured; `lock1`: the first lock is made; `gather`: (MPD, offset) in ps of
the exchanges that make a lock; `mpds`: the last 16 accepted; `excl`: consecutive excluded exchanges; `freq`: the frequency
estimate; `sync`: (t1 if known, t2) of the last Sync; `dreq`: t3; `sets`: scheduled SETs; `pulses`: trains of SYNCOUT pulses (`now` of the first
one's rise, count); `plan`: steps and rates that wait for an ft boundary (time, 0 step of TB0, 1 value of TB0, n rate of TBn; value); `rates`:
RATEn in force. -/
structure StayS where
  tb0 : Nat
  tbn : Tab Nat
  starts : Option Nat
  skew : Option (Nat × List Int)
  lock1 : Bool
  gather : List (Int × Int)
  mpds : List Int
  excl : Nat
  freq : Int
  master : Option Master
  others : List Master
  sync : Option (Option Int × Int)
  dreq : Option Int
  sets : Tab (Option Nat)
  tmrs : Tab Tmr
  lnks : Tab LnkTime
  pulses : List (Nat × Nat)
  plan : List (Nat × Nat × Int)
  rates : Tab Int
  deriving DecidableEq, Repr, Inhabited

/-! ### Ozlink (chapter 15) -/

/-- A payload in a transmit queue: class, 208 bits, the time (`now`) it entered, and the number of flits of its item still
queued behind it. -/
structure OzlTx where
  cls : Nat
  payload : Nat
  at_ : Nat
  item : Nat
  deriving DecidableEq, Repr, Inhabited

/-- A round trip of time messages that is complete (R454): t2 − t1 and t4 − t3 in units of 6.25 ps, the peer's TB1 (st), RATE0,
SSTATE, MSEQ, and its TB0 in 2⁻¹⁶ ns once the TIME_TB0 flit has brought it. -/
structure OzlTrip where
  out : Int
  back : Int
  tb1 : Nat
  rate : Int
  sst : Nat
  mseq : Nat
  tb0 : Option Nat
  deriving DecidableEq, Repr, Inhabited

/-- A link. Transmit side: waiting payloads `txq`, unacknowledged DATA flits `retry` and those to send again `resend` (SEQ, class,
payload), next SEQ, time of the last ACK advance, resends since, credits by class, LINKCTL payloads, corrupt the next DATA flit,
what has been sent `out` (control block or flit, oldest first), and the time in 1/45 st at which the next flit may start. Receive
side: SEQ expected, one accepted, NAK to send, NAK sent and not yet answered, credits owed. Training: time the rate was entered,
lanes seen in DETECT, the peer's MAXRATE, retry time. Lanes: RS epochs, AMs missed by lane. Power: state asked for, end of an
exit, last DATA. Time messages: last sent, one to send, a TIME_TB0 payload to send, MSEQ, TX_TS of the last TIME flit, the peer's
last MSEQ with its arrival, and the last round trip. Lanes sent on: the 66-bit blocks of each lane (sync header in [65:64]), oldest first
`wire`, the last 58 scrambled bits of each `scr`, BIP-8 of each since its last AM, the rows of blocks since that AM, the place in the
round of three lanes, and the number of the next TRAIN block. `ans`: the status of the last tap requests by lane (PRE_ST, POST_ST); `dry`:
when the credits of TRACE last ran out. `debts`: the flits of each class whose credit has not returned, oldest first: class,
queue and index of the descriptor (queue 2^18 for none), bytes (R513). -/
structure OzlLink where
  txq : List OzlTx
  debts : List (Nat × Nat × Nat × Nat)
  retry : List (Nat × Nat × Nat)
  resend : List (Nat × Nat × Nat)
  seq : Nat
  ackAt : Nat
  resends : Nat
  credits : Tab Nat
  ctl : List Nat
  inj : Bool
  out : List (Bool × Nat)
  slotAt : Nat
  items : Nat
  rxNext : Nat
  rxAny : Bool
  nak : Bool
  nakked : Bool
  owed : Tab Nat
  at_ : Nat
  seen : Nat
  peerMax : Nat
  retryAt : Nat
  epoch : Nat
  rxEpoch : Nat
  amMiss : Tab Nat
  lsAsk : Nat
  lsAt : Nat
  dataAt : Nat
  timeAt : Nat
  timeAsk : Bool
  timeB : Option Nat
  mseq : Nat
  txTs : Nat
  peerSeq : Nat
  peerAt : Nat
  trip : Option OzlTrip
  wire : Tab (List Nat)
  scr : Tab (Option Nat)
  bip : Tab Nat
  rows : Nat
  rr : Nat
  tcount : Nat
  ans : Tab (Nat × Nat)
  dry : Nat
  deriving DecidableEq, Repr, Inhabited

/-- Chapter 15: links, and the PRBS bits inverted by INJ per lane (4 l + i). -/
structure OzlS where
  links : Tab OzlLink
  fbLast : Tab Nat
  injected : Tab Nat
  deriving DecidableEq, Repr, Inhabited


/-! ### Shroud (chapter 17) -/

/-- A job of a partition (R535): the command and what it has read from the host. -/
structure ShrJob where
  cmd : Nat
  blob : List (BitVec 8)
  deriving DecidableEq, Repr, Inhabited

/-- A partition: its key pairs RK and XK as the numbers of their draws (plus 1, 0 for none), TK, the next SSEQ, the SIG of the
last export segment, the statement bytes 0x000 to 0x17F at SEAL and of the last statement, PMEAS of the last statement, and the
job. -/
structure ShrPart where
  rk : Nat
  xk : Nat
  tk : Option (List (BitVec 8))
  sseq : Nat
  lastSig : List (BitVec 8)
  sealStmt : List (BitVec 8)
  stmt : List (BitVec 8)
  pmeas : List (BitVec 8)
  job : Option ShrJob
  deriving DecidableEq, Repr, Inhabited

/-- Chapter 17: partitions, the response bytes written (R540), whether a challenge is out, its level once unlocked, failures since
reset, a scrap that waits for the next reset, the firmware and full-image digests (measurements 2, 5) and the log (6), the owner keys
by slot, the partitions whose jobs the AES-GCM engine serves, in order of arrival (R535), and the SPDM responses formed (code, payload). -/
structure Shr where
  parts : Tab ShrPart
  resp : Tab Nat
  chal : Bool
  level : Nat
  fails : Nat
  scrap : Bool
  fw : List (BitVec 8)
  full : List (BitVec 8)
  log : List (BitVec 8)
  okeys : Tab (List (BitVec 8))
  gcm : List Nat
  out : List (Nat × List (BitVec 8))
  deriving DecidableEq, Repr, Inhabited

/-! ### Trim (chapter 18) -/

/-- The elements of a converter: those mapped by position and the free spares, each with the number of its last calibration,
and those retired. -/
structure Elems where
  mapped : List (Nat × Nat)
  free : List (Nat × Nat)
  retired : List Nat
  deriving DecidableEq, Repr, Inhabited

/-- What a step stages: a swap of a spare (by its element number) for a mapped element, or new values. -/
inductive TrimSwap
  | swap (spare old : Nat)
  | values
  deriving DecidableEq, Repr, Inhabited

/-- A converter: its elements once they differ from the fitted ones, the staged correction, and a background step in progress. -/
structure TrimC where
  elems : Option Elems
  staged : Option TrimSwap
  step : Bool
  deriving DecidableEq, Repr, Inhabited

/-- Chapter 18: converters, the single converter in foreground calibration, the time (`now`) of the last background run, and the
number of the last element calibration. -/
structure TrimS where
  convs : Tab TrimC
  fg : Option Nat
  bgAt : Nat
  count : Nat
  deriving DecidableEq, Repr, Inhabited

/-! ### Reef (chapter 19) -/

/-- Chapter 19, times as `now`: the last ten conversions by sensor (newest first), the last changes of TLEVEL and PLEVEL, the time
since which every zone is below 85 °C (below 0 when it lies before the entry into BOOT), the limit in mW that is in force since the last sample, the last 100 samples of the sum of the rail powers in mW and of (mV, mA) by rail (newest
first), the time since which the mean stands above the limit, whether E_REEF_PLIM was reported for it, the time from which held attempts may start, and a
trip not yet over. -/
structure ReefS where
  conv : Tab (List Int)
  tAt : Option Nat
  pAt : Option Nat
  cool : Option Int
  lim : Nat
  power : List Nat
  rails : Tab (List (Nat × Nat))
  above : Option Nat
  told : Bool
  resume : Nat
  tripped : Bool
  deriving DecidableEq, Repr, Inhabited

/-! ### Fault manager (chapter 20) -/

/-- What the pass in progress at E is (R590): group, shot, replay count, reset pass. -/
structure PassId where
  group : Nat
  shot : Nat
  attempt : Nat
  rpass : Bool
  deriving DecidableEq, Repr, Inhabited

/-- A change of level that the glitch filter judges (R587): E, the level, and FLT_TRIG_CFG and the pass at E. -/
structure TrigCh where
  e : Nat
  level : Bool
  cfg : Nat
  pass : Option PassId
  deriving DecidableEq, Repr, Inhabited

/-- A TRIG input: the filtered level, the pin and the time of its last change, a change under judgement, accepted edges on their
way to the consumers, and FLT_TRIG_CFG before its last write with the boundary from which the written one is in force. -/
structure TrigIn where
  level : Bool
  pin : Bool
  pinAt : Nat
  pend : Option TrigCh
  edges : List TrigCh
  was : Nat
  cfgAt : Nat
  deriving DecidableEq, Repr, Inhabited

/-- Chapter 20: TRIG inputs, and the inputs whose edges marked the attempt of a group. -/
structure FltS where
  trig : Tab TrigIn
  ext : Tab (List Nat)
  deriving DecidableEq, Repr, Inhabited

/-! ### Supplies, clocks and resets (chapter 21) -/

/-- Chapter 21: power-good; the straps as sampled (SMB_ADDR, XSPI_MODE, PERST_SEL as in GLB_BOOT_STS [4:1]), none before power-good is
first asserted after power-on; the time (`now`) at which GLB_RESET acts; since when the synthesiser holds lock, and its last try;
the well-formed boot copies not yet tried (copy, FW_LEN, IMG_OFF, IMG_LEN); the autoload of the copy that booted (offset, length);
the bytes of the last SMBus answer (none: NACK). -/
structure PwrS where
  good : Bool
  straps : Option Nat
  glbAt : Option Nat
  lockAt : Option Nat
  tryAt : Nat
  copies : List (Nat × Nat × Nat × Nat)
  auto_ : Option (Nat × Nat)
  smb : List (BitVec 8)
  deriving DecidableEq, Repr, Inhabited

/-! ### Ratline (chapter 24) -/

/-- A DBG_ACCESS: OP, W64, SPACE, PEEK, ADDR, reserved bits, DATA. -/
structure DbgReq where
  op : Nat
  w64 : Bool
  space : Nat
  peek : Bool
  addr : Nat
  rsvd : Nat
  data : Nat
  deriving DecidableEq, Repr, Inhabited

/-- Chapter 24: the instruction register, what Capture-DR last took, the access in progress with its result, and STATUS and DATA of
the last one. -/
structure RatS where
  ir : Nat
  dr : Nat
  busy : Option (Nat × Nat)
  status : Nat
  data : Nat
  deriving DecidableEq, Repr, Inhabited

/-! ### The whole state -/

/-- The state of the part: the register file (the copies software reads; unlisted registers read their reset value), the
active copies of the SHD registers (R205), the chapters' own state, and the queue of waiting commands. -/
structure State where
  regs : Tab Word
  act : Tab Word
  clock : Clock
  bus : Bus
  img : Img
  seq : Seq
  hal : Hal
  ton : Ton
  cnv : Cnv
  dec : DecS
  hif : Hif
  wch : Wch
  cap : Cap
  stay : StayS
  ozl : OzlS
  shr : Shr
  trim : TrimS
  reef : ReefS
  flt : FltS
  pwr : PwrS
  rat : RatS
  pending : List Instr
  deriving DecidableEq, Repr

/-- The state right after the release of device reset: BOOT, every register at its reset value, the stores clear, nothing in flight,
power-good asserted and the straps sampled as 0. -/
def State.reset : State where
  regs := []
  act := []
  clock := default
  bus := default
  img := default
  seq := default
  hal := default
  ton := default
  cnv := default
  dec := default
  hif := default
  wch := default
  cap := default
  stay := default
  ozl := default
  shr := default
  trim := default
  reef := default
  flt := default
  pwr := { (default : PwrS) with good := true, straps := some 0 }
  rat := default
  pending := []

end Sys2Proof.Machine
end

