-- ==== Sys2Proof/Machine/Ops.lean ====
section
/-! DEFINITION. The named operations that every chapter shares: fields of registers, statuses and counters, time, reports,
ownership, held items and free values. -/

namespace Sys2Proof.Machine

/-! ### Bits and numbers -/

/-- `w` ones. -/
def lowMask (w : Nat) : Word := BitVec.ofNat 64 (2 ^ w - 1)

/-- The field of a word. -/
def getF (v : Word) (f : Fld) : Nat := ((v >>> f.1) &&& lowMask f.2).toNat

/-- The word with a field replaced. -/
def insF (v : Word) (f : Fld) (n : Nat) : Word :=
  (v &&& ~~~(lowMask f.2 <<< f.1)) ||| ((BitVec.ofNat 64 n &&& lowMask f.2) <<< f.1)

/-- Bits [hi:lo] of a number. -/
def bits (n hi lo : Nat) : Nat := n / 2 ^ lo % 2 ^ (hi + 1 - lo)

/-- Bit `i` of a number. -/
def bit (n i : Nat) : Bool := n.testBit i

/-- 0 or 1. -/
def b01 (b : Bool) : Nat := if b then 1 else 0

/-- A `w`-bit two's-complement number (R8). -/
def sgn (w n : Nat) : Int := if n % 2 ^ w < 2 ^ (w - 1) then (n % 2 ^ w : Nat) else (n % 2 ^ w : Nat) - (2 ^ w : Nat)

/-- An integer as `w` bits of two's complement. -/
def unsgn (w : Nat) (i : Int) : Nat := (i % (2 ^ w : Nat)).toNat

/-- An integer saturated to `w` bits of two's complement. -/
def sat (w : Nat) (i : Int) : Int :=
  if i < -(2 ^ (w - 1) : Nat) then -(2 ^ (w - 1) : Nat)
  else if (2 ^ (w - 1) : Nat) - 1 < i then (2 ^ (w - 1) : Nat) - 1 else i

/-- `n / 2 ^ sh` rounded half to even (the demodulation chain, R10). -/
def halfEven (n : Int) (sh : Nat) : Int :=
  let q := n >>> sh
  let r := 2 * (n - q * 2 ^ sh)
  if r < 2 ^ sh then q else if 2 ^ sh < r then q + 1 else if q % 2 = 0 then q else q + 1

/-- The largest value of a 32-bit counter. -/
def max32 : Nat := 0xFFFF_FFFF

/-! ### The register file -/

/-- The value of a BAR0 address after reset (the Reset column; unimplemented offsets read 0, R12). HAL_MRK_PIN of yard n
resets to n, and TRIM_SPARE to the spares fitted: 4 for classes 0 and 1, 2 for class 4. -/
def resetVal (a : Nat) : Word :=
  match regRow a with
  | some r => if r.base = 0x1000830 then BitVec.ofNat 64 ((a - r.base) / 0x40000)
    else if r.base = 0x310018 then
      let i := (a - r.base) / 0x20
      if i < 0x60 then 0x04000004 else if 0x1A0 ≤ i ∧ i < 0x1C0 then 0x02000002 else 0
    else BitVec.ofNat 64 r.rst
  | none => 0

/-- The stored value of a register. -/
def State.rd (s : State) (a : Nat) : Word := sget resetVal s.regs a

/-- Storing a value into a register. -/
def State.wr (s : State) (a : Nat) (v : Word) : State := { s with regs := sput resetVal s.regs a v }

/-- The bits of the words of a parametric slot that are not reserved (Table 5-5). -/
def prmMask (w : Nat) : Nat := [0xF8FFFFFF, 0xFFFFFFFF, 0x00FFFFFF, 0x0000FFFF].getD w 0

/-- The bits of a register that a write of its own sets (R11). -/
def rwMask (a : Nat) : Word :=
  match regRow a with
  | some r => BitVec.ofNat 64 (if r.base = 0x1001000 then prmMask ((a - r.base) % 0x20 / 4) else r.rw)
  | none => 0

/-- Storing a written value: a reserved bit is ignored and the bits software does not write stay (R11). -/
def State.wrRW (s : State) (a v : Nat) : State :=
  s.wr a ((s.rd a &&& ~~~(rwMask a)) ||| (BitVec.ofNat 64 v &&& rwMask a))

/-- A field of a register. -/
def State.fld (s : State) (a : Nat) (f : Fld) : Nat := getF (s.rd a) f

/-- Storing a field of a register. -/
def State.setF (s : State) (a : Nat) (f : Fld) (n : Nat) : State := s.wr a (insF (s.rd a) f n)

/-- A bit of a register field that is one bit wide. -/
def State.flag (s : State) (a : Nat) (f : Fld) : Bool := s.fld a f == 1

/-- A saturating counter that takes a whole 32-bit register. -/
def State.inc (s : State) (a : Nat) : State := s.wr a (BitVec.ofNat 64 (min max32 ((s.rd a).toNat + 1)))

/-- The same by more than one. -/
def State.incBy (s : State) (a n : Nat) : State := s.wr a (BitVec.ofNat 64 (min max32 ((s.rd a).toNat + n)))

/-- A saturating counter in a field. -/
def State.incF (s : State) (a : Nat) (f : Fld) : State :=
  s.setF a f (min (2 ^ f.2 - 1) (s.fld a f + 1))

/-- Storing a natural number into a register. -/
def State.wrN (s : State) (a n : Nat) : State := s.wr a (BitVec.ofNat 64 n)

/-- The stored value of a register as a number. -/
def State.rdN (s : State) (a : Nat) : Nat := (s.rd a).toNat

/-- The status field that most blocks keep in bits [31:16] of their status register. -/
def fSTATUS : Fld := (16, 16)

/-- Writing that status. -/
def State.status (s : State) (a code : Nat) : State := s.setF a fSTATUS code

/-- The active copy of a SHD register (R205); an address whose copies were never told apart reads its reset value. -/
def State.actRd (s : State) (a : Nat) : Word := sget resetVal s.act a

/-- Setting the active copy. -/
def State.actWr (s : State) (a : Nat) (v : Word) : State := { s with act := sput resetVal s.act a v }

/-- A field of an active copy. -/
def State.actF (s : State) (a : Nat) (f : Fld) : Nat := getF (s.actRd a) f

/-- Running an operation over a list of indices. -/
def forEach {α : Type} (xs : List α) (s : State) (f : α → State → State) : State := xs.foldl (fun t x => f x t) s

/-- An update made when a condition holds. -/
def State.when (s : State) (c : Bool) (f : State → State) : State := if c then f s else s

/-! ### Device state (Table 1-12) and time -/

def dOFF : Nat := 0
def dBOOT : Nat := 1
def dCONFIG : Nat := 2
def dCAL : Nat := 3
def dREADY : Nat := 4
def dRUN : Nat := 5
def dSAFE : Nat := 6

/-- The device state. -/
def State.dev (s : State) : Nat := s.fld GLB_STATE GLB_STATE_STATE

/-- Setting the device state. -/
def State.setDev (s : State) (d : Nat) : State := s.setF GLB_STATE GLB_STATE_STATE d

/-- TB1 states (Table 14-2). -/
def tbSTOPPED : Nat := 0
def tbSTARTING : Nat := 1
def tbRUNNING : Nat := 2

/-- Is TB1 RUNNING? -/
def State.tb1Run (s : State) : Bool := s.fld STAY_STS STAY_STS_TB1STATE == tbRUNNING

/-- TB1 in st, 0 while it does not run (R189, R582). -/
def State.tb1 (s : State) : Nat := if s.tb1Run then s.clock.tb1 else 0

/-- One ft in st. -/
def ft : Nat := 16

/-- The first ft boundary at or after a time in st. -/
def ceilFt (t : Nat) : Nat := (t + 15) / 16 * 16

/-- A receiver that acts once per ft applies a stamped item at the first ft boundary at or after its release time (R37, R38), and at no
other. -/
def State.due (s : State) (rel : Nat) : Bool := s.tb1Run && s.clock.tb1 == ceilFt rel

/-- Does TB1 stand at a time? -/
def State.atTb1 (s : State) (t : Nat) : Bool := s.tb1Run && s.clock.tb1 == t

/-- A pin instant of TB1 as `now`. -/
def State.pinNow (s : State) (p : Nat) : Nat := p + s.clock.now - s.clock.tb1

/-- Has TB1 reached a time? -/
def State.reached (s : State) (t : Nat) : Bool := s.tb1Run && decide (t ≤ s.clock.tb1)

/-- A time in st as the hub counts it, in ft (R264). -/
def State.hubFt (s : State) : Nat := s.clock.now / ft

/-! ### Reports and free values -/

/-- A report sets out for the fault manager (R582). -/
def State.report (s : State) (code src inst : Nat) : State :=
  { s with bus := { s.bus with reports := s.bus.reports ++ [⟨code, false, src, inst⟩] } }

/-- The report of a program fault (R126, R580). -/
def State.reportProg (s : State) (code src inst : Nat) : State :=
  { s with bus := { s.bus with reports := s.bus.reports ++ [⟨code, true, src, inst⟩] } }

/-- Moving to the next free value. -/
def State.nextFree (s : State) : State := { s with bus := { s.bus with free := s.bus.free + 1 } }

/-- The free word in turn. -/
def State.freeW (s : State) : Word := Config.freeWord s.bus.free

/-- The free number in turn. -/
def State.freeN (s : State) : Nat := Config.freeNat s.bus.free

/-- Island codes of GLB_HANG_INFO (Table 1-16): yards 0 to 63, the hub, links, Winch, host. -/
def islHub : Nat := 0x40
def islLink (l : Nat) : Nat := 0x41 + l
def islWinch : Nat := 0x47
def islHost : Nat := 0x48

/-! ### Held items (R37 to R44) -/

/-- An item in its place: in order of release, after those of equal release sent earlier (R44). -/
def insItem : List Item → Item → List Item
  | [], i => [i]
  | h :: t, i => if i.rel < h.rel then i :: h :: t else h :: insItem t i

/-- An item is held at its receiver. -/
def State.hold (s : State) (i : Item) : State := { s with bus := { s.bus with held := insItem s.bus.held i } }

/-- An item sets out for another island. -/
def State.send (s : State) (i : Item) : State := { s with bus := { s.bus with transit := s.bus.transit ++ [i] } }

/-- Held items that fail a test are discarded. -/
def State.keepHeld (s : State) (p : Item → Bool) : State := { s with bus := { s.bus with held := s.bus.held.filter p } }

/-- Items on their way that fail a test are discarded. -/
def State.keepTransit (s : State) (p : Item → Bool) : State := { s with bus := { s.bus with transit := s.bus.transit.filter p } }

/-- The yard of a timed item. -/
def Item.yard? (i : Item) : Option Nat :=
  match i.act with
  | .timed y _ _ => some y
  | _ => none

/-! ### Yards, groups, partitions and ownership (R63 to R69) -/

/-- The composition of a yard. -/
def State.comp (s : State) (y : Nat) : YardComp := tget s.img.yards y

/-- The quadrant of a yard. -/
def quad (y : Nat) : Nat := y / 16

/-- The pair of a yard. -/
def pairOf (y : Nat) : Nat := y / 2

/-- The yards of the device. -/
def allYards : List Nat := List.range 64

/-- The member yards of a group. -/
def State.members (s : State) (g : Nat) : List Nat :=
  allYards.filter fun y => (s.comp y).present && (s.comp y).group == g

/-- The group of a yard, one of 64 (R63). -/
def State.groupOf (s : State) (y : Nat) : Nat := (s.comp y).group % 64

/-- The partition of a yard. -/
def State.partOf (s : State) (y : Nat) : Nat := (s.comp y).part

/-- The owner range of an instance of a resource class, if it is owned. -/
def State.ownOf (s : State) (cls i : Nat) : Option OwnRange :=
  s.img.owns.find? fun o => o.cls == cls && decide (o.first ≤ i) && decide (i < o.first + o.count)

/-- May a yard use an instance (R68, R106)? It is owned by the yard or by the yard's partition. -/
def State.yardMay (s : State) (y cls i : Nat) : Bool :=
  match s.ownOf cls i with
  | some o => (o.okind == 1 && o.owner == y) || (o.okind == 3 && o.owner == s.partOf y)
  | none => false

/-- Does an instance belong to a partition (R68)? It is owned by it or by a yard of it. -/
def State.partHas (s : State) (p cls i : Nat) : Bool :=
  match s.ownOf cls i with
  | some o => (o.okind == 3 && o.owner == p) || (o.okind == 1 && (s.comp o.owner).present && s.partOf o.owner == p)
  | none => false

/-- The partition that an instance belongs to, if it belongs to one. -/
def State.partOfInst (s : State) (cls i : Nat) : Option Nat :=
  match s.ownOf cls i with
  | some o => if o.okind == 3 then some o.owner else if o.okind == 1 then some (s.partOf o.owner) else none
  | none => none

/-- The partition that a unit of a pooled block is allotted to (Table 2-7). -/
def State.allotOf (s : State) (block u : Nat) : Option Nat :=
  (s.img.allots.find? fun a => a.block == block && decide (a.first ≤ u) && decide (u < a.first + a.count)).map (·.part)

/-- A refused request is recorded and counted (R69). -/
def State.deny (s : State) (cls inst rkind rindex : Nat) : State :=
  (s.wrN IMG_DENY (inst % 2 ^ 32 * 2 ^ 32 + cls % 256 * 2 ^ 24 + rkind % 256 * 2 ^ 16 + rindex % 2 ^ 16)).inc IMG_DENY_CNT

/-- A request whose check ended in E_IMG_RES_BUSY is recorded (R69). -/
def State.denyIf (s : State) (code cls inst rkind rindex : Nat) : State :=
  s.when (code == E_IMG_RES_BUSY) fun s => s.deny cls inst rkind rindex

/-- The first of some instances that fails a test, 0 if none does. -/
def firstNot (xs : List Nat) (p : Nat → Bool) : Nat := (xs.find? fun i => !p i).getD 0

/-! ### Converters under Trim (Table 18-1, R549, R551) -/

/-- Is a converter out of service: FAILED, or in foreground calibration? -/
def State.trimBad (s : State) (i : Nat) : Bool :=
  s.fld (TRIM_CSTS i) TRIM_CSTS_HEALTH == 3 || s.flag (TRIM_CSTS i) TRIM_CSTS_FG

/-! ### Groups and Masts -/

/-- Group states (Table 1-16). -/
def gIDLE : Nat := 0
def gARMED : Nat := 1
def gRUNNING : Nat := 2
def gPAUSING : Nat := 3
def gPAUSED : Nat := 4
def gABORTING : Nat := 5
def gRECONFIG : Nat := 6

/-- The state of a group. -/
def State.gst (s : State) (g : Nat) : Nat := s.fld (GLB_LSG_STAT g) GLB_LSG_STAT_GSTATE

/-- Setting the state of a group. -/
def State.setGst (s : State) (g v : Nat) : State := s.setF (GLB_LSG_STAT g) GLB_LSG_STAT_GSTATE v

/-- The state of a yard's group. -/
def State.ygst (s : State) (y : Nat) : Nat := s.gst (s.groupOf y)

/-- Is the yard's group IDLE? -/
def State.yIdle (s : State) (y : Nat) : Bool := s.ygst y == gIDLE

/-- A group's own state. -/
def State.grp (s : State) (g : Nat) : Group := tget s.seq.groups g

/-- Changing it. -/
def State.setGrp (s : State) (g : Nat) (v : Group) : State :=
  { s with seq := { s.seq with groups := tput s.seq.groups g v } }

/-- Changing it by a function. -/
def State.modGrp (s : State) (g : Nat) (f : Group → Group) : State := s.setGrp g (f (s.grp g))

/-- A Mast's own state. -/
def State.mast (s : State) (y : Nat) : Mast := tget s.seq.masts y

/-- Changing it. -/
def State.setMast (s : State) (y : Nat) (m : Mast) : State :=
  { s with seq := { s.seq with masts := tput s.seq.masts y m } }

/-- Changing it by a function. -/
def State.modMast (s : State) (y : Nat) (f : Mast → Mast) : State := s.setMast y (f (s.mast y))

/-- Mast states (Table 3-10). -/
def mIDLE : Nat := 0
def mARMED : Nat := 1
def mISSUE : Nat := 2
def mSTALL : Nat := 3
def mWAITD : Nat := 4
def mWAITS : Nat := 5
def mSHOTEND : Nat := 6
def mPAUSED : Nat := 7
def mSTOPPING : Nat := 8

/-- MSTATE of a Mast. -/
def State.mst (s : State) (y : Nat) : Nat := s.fld (SEQ_STS y) SEQ_STS_MSTATE

/-- Setting MSTATE. -/
def State.setMst (s : State) (y v : Nat) : State := s.setF (SEQ_STS y) SEQ_STS_MSTATE v

/-! ### Result records (Tables 16-10, 16-11) -/

/-- The queue that QM_YQID names for a yard. -/
def State.yardQ (s : State) (y : Nat) : Nat := s.fld (QM_YQID y) (0, 18)

/-- MARKS of a record: the replay count and the marks of its attempt. -/
def markBits (attempt : Nat) (marks : List Nat) : Nat :=
  attempt % 16 * 2 ^ 12 + b01 (marks.contains E_HAL_UNDERRUN) * 2 ^ 11 + b01 (marks.contains E_DEC_OVERLOAD) * 2 ^ 10

/-- MARKS of a record that a group's attempt in progress produces. -/
def State.marks (s : State) (g : Nat) : Nat := markBits (s.grp g).attempt (s.grp g).marks

/-- MARKS and shot index of a record of a pass of a group (R129): of one that has ended, or of the one in progress with shot index
`shot`. -/
def State.passMarks (s : State) (g pass shot : Nat) : Nat × Nat :=
  match (s.grp g).past.find? fun p => p.1 == pass with
  | some p => (markBits p.2.2.1 p.2.2.2, p.2.1)
  | none => (s.marks g, shot)

/-- The first word of a record header: TYPE, SRC, MARKS, SHOT. -/
def recHead (type src marks shot : Nat) : Nat :=
  type % 256 + src % 256 * 2 ^ 8 + marks % 2 ^ 16 * 2 ^ 16 + shot % 2 ^ 32 * 2 ^ 32

/-- A record sets out for its queue, stamped with TB1 (R511). -/
def State.emitRec (s : State) (r : Rec) : State :=
  { s with bus := { s.bus with recs := s.bus.recs ++ [{ r with time := s.tb1 }] } }

/-- A record of a yard for a pass of its group: type, TIME and the six words of its body; `apart` where it belongs to no shot. -/
def State.passRec (s : State) (y pass type time : Nat) (body : List Nat) (apart : Bool) : State :=
  let m := s.passMarks (s.groupOf y) pass (s.fld (SEQ_SHOT_IDX y) (0, 32))
  (s.emitRec ⟨s.yardQ y, y, time, recHead type y m.1 m.2 :: time % 2 ^ 64 :: body, [], apart⟩).modMast y
    fun m => { m with outRes := m.outRes + 1 }

/-- The group of the producer of a record: a yard's, or that of a decoder context. -/
def State.prodGroup (s : State) (p : Nat) : Option Nat :=
  if p < 64 then (if (s.comp p).present then some (s.groupOf p) else none)
  else if p < 72 then some (s.fld (DEC_CTL (p - 64)) DEC_CTL_GROUP)
  else none

/-- Is a record one of the attempt in progress of a group: of its producers, with its shot index and replay count? -/
def State.recNow (s : State) (g : Nat) (r : Rec) : Bool :=
  let w := r.words.headD 0
  s.prodGroup r.prod == some g && bits w 63 32 == (s.grp g).shot && bits w 31 28 == (s.grp g).attempt % 16

/-- A shot delivers no more records (R54): those of its index that have not reached their queue are gone, but for FAULT records (R126). -/
def State.dropShotRecs (s : State) (g : Nat) : State :=
  let gone (r : Rec) : Bool :=
    let w := r.words.headD 0
    s.prodGroup r.prod == some g && bits w 63 32 == (s.grp g).shot && bits w 7 0 != 3 && !r.apart
  let t := forEach (s.bus.recs.filter fun r => gone r && decide (r.prod < 64)) s fun r s =>
    s.modMast r.prod fun m => { m with outRes := m.outRes - 1 }
  { t with bus := { t.bus with recs := t.bus.recs.filter fun r => !gone r } }

/-- A group mark: a replayable fault code on the attempt in progress, with its cause not yet cleared (R127, R593). The records of the
attempt that have not reached their queue show it (R174, R364). -/
def State.markGroup (s : State) (g code : Nat) (cause : Bool) : State :=
  let m := markBits 0 [code] * 2 ^ 16
  let add (r : Rec) : Rec :=
    match r.words with
    | w :: ws => if s.recNow g r then { r with words := (w ||| m) :: ws } else r
    | [] => r
  { s with bus := { s.bus with recs := s.bus.recs.map add } }.modGrp g
    fun x => { x with marks := x.marks ++ [code], causes := if cause then x.causes ++ [code] else x.causes }

/-- A record of a yard for the pass in progress. -/
def State.yardRec (s : State) (y type time : Nat) (body : List Nat) : State :=
  s.passRec y (s.grp (s.groupOf y)).pass type time body false

/-! ### Program faults (R126) -/

/-- Is an item a command of a group? -/
def Item.groupCmd (i : Item) (g : Nat) : Bool := match i.act with | .group h _ => h == g | _ => false

/-- A group takes a pending command with its release, in place of the one it has (R51): an item that the hub itself holds, or that island
`src` sends to it (R34, R37). -/
def State.setCmd (s : State) (g cmd rel src : Nat) : State :=
  let s := (s.keepHeld fun i => !i.groupCmd g).keepTransit fun i => !i.groupCmd g
  let s := (s.modGrp g fun x => { x with cmd := some ⟨cmd, rel⟩ }).setF (GLB_LSG_STAT g) GLB_LSG_STAT_PENDING 1
  let i : Item := ⟨rel, src, islHub, .ctrl, .group g cmd⟩
  if src = islHub then s.hold i else s.send i

/-- A group has no pending command any more. -/
def State.noCmd (s : State) (g : Nat) : State :=
  let s := (s.keepHeld fun i => !i.groupCmd g).keepTransit fun i => !i.groupCmd g
  (s.modGrp g fun x => { x with cmd := none }).setF (GLB_LSG_STAT g) GLB_LSG_STAT_PENDING 0

/-- The abort of a group that a program fault asks for: its release is the first ft boundary at least 16 ft after the
fault, and it replaces any pending command (R51) but an ABORT of an earlier release. -/
def State.faultAbort (s : State) (g : Nat) : State :=
  if (s.grp g).cmd.any fun c => c.cmd == 5 && decide (c.rel ≤ ceilFt (s.tb1 + 16 * ft)) then s
  else s.setCmd g 5 (ceilFt (s.tb1 + 16 * ft)) islHub

/-- A program fault of yard `y` at instruction index `pc`: the Mast stops, SEQ_FAULT records code and PC, the group is
aborted, a FAULT record is delivered and the fault manager is told. -/
def progFault (y pc code : Nat) (s : State) : State :=
  let s := s.wrN (SEQ_FAULT y) (code % 2 ^ 16 * 2 ^ 16 + pc % 2 ^ 15)
  let s := s.setMst y mSTOPPING
  let s := s.modMast y fun m => { m with hold := .none, waitd := none, sync := none }
  let s := (s.setF (SEQ_STS y) SEQ_STS_STAGED 0).faultAbort (s.groupOf y)
  let s := s.yardRec y 3 s.tb1 [code % 2 ^ 16 + pc % 2 ^ 15 * 2 ^ 16, 0, 0, 0, 0, 0]
  s.reportProg code y pc

end Sys2Proof.Machine
end

