-- ==== Sys2Proof/Machine/Flags.lean ====
section
/-! DEFINITION. Flags and counters that an access clears: RC fields on a read, W1C bits on a write of 1 (Table 0-3). -/

namespace Sys2Proof.Machine

/-- The fields of a register that a read clears (RC). -/
def rcMask (a : Nat) : Word := match regRow a with | some r => BitVec.ofNat 64 r.rc | none => 0

/-- A read clears the RC fields. -/
def clearRC (a : Nat) (s : State) : State := if rcMask a = 0 then s else s.wr a (s.rd a &&& ~~~(rcMask a))

/-- A write of 1 clears a W1C bit. -/
def clearW1C (a v mask : Nat) (s : State) : State := s.wr a (s.rd a &&& ~~~(BitVec.ofNat 64 v &&& BitVec.ofNat 64 mask))

end Sys2Proof.Machine
end

