-- ==== Sys2Proof/Machine/Gate.lean ====
section
/-! DEFINITION. What stands before every host write of a register: a commit that covers its page (R83) and a sealed
partition (R528, Table 17-8). -/

namespace Sys2Proof.Machine

/-- The yards of the scope of a partial image (Table 2-1): a yard image one yard, a quadrant image sixteen. -/
def scopeYards (kind scope : Nat) : List Nat :=
  if kind = 1 then allYards
  else if kind = 2 then [scope]
  else if kind = 3 then (List.range 16).map (fun i => 16 * scope + i)
  else []

/-- Does an address lie in the register pages of an image's scope (R70)? -/
def inScopePages (kind scope a : Nat) : Bool :=
  if kind = 2 then decide (0x1000000 + 0x40000 * scope ≤ a) && decide (a < 0x1000000 + 0x40000 * (scope + 1))
  else if kind = 3 then
    (decide (0x1000000 + 0x400000 * scope ≤ a) && decide (a < 0x1000000 + 0x400000 * (scope + 1)))
    || (decide (0x2000000 + 0x400000 * scope ≤ a) && decide (a < 0x2000000 + 0x400000 * (scope + 1)))
  else if kind = 4 then decide (0x510000 + 0x1000 * scope ≤ a) && decide (a < 0x510000 + 0x1000 * (scope + 1))
  else true

/-- Is a register page under a partial commit between R and its end (R83)? -/
def State.pageBusy (s : State) (a : Nat) : Bool :=
  match s.img.commit with
  | some c => (c.kind == 2 || c.kind == 3) && decide (1 ≤ c.phase) && inScopePages c.kind c.scope a
  | none => false

/-- Partition states (Table 17-7). -/
def pABSENT : Nat := 0
def pOPEN : Nat := 1
def pSEALING : Nat := 2
def pSEALED : Nat := 3
def pKEYED : Nat := 4
def pZEROISING : Nat := 5

/-- The state of a partition. -/
def State.pst (s : State) (p : Nat) : Nat := s.fld (SHR_PSTS p) SHR_PSTS_PSTATE

/-- Is a partition closed to host software (from the start of SEALING on)? -/
def State.closed (s : State) (p : Nat) : Bool := decide (pSEALING ≤ s.pst p)

/-- The partition that a register belongs to (R528): the yard of its page, the slot, the decoder context's group, the
Winch core, or the owner of the TRIG input. -/
def State.regPart (s : State) (a : Nat) : Option Nat :=
  if 0x1000000 ≤ a ∧ a < 0x2000000 then
    let y := (a - 0x1000000) / 0x40000
    if (s.comp y).present then some (s.partOf y) else none
  else if 0xB20000 ≤ a ∧ a < 0xB21000 then s.partOfInst 8 ((a - 0xB20000) / 4)
  else if 0xB30000 ≤ a ∧ a < 0xB36000 then s.partOfInst 8 (getF (s.rd a) SHT_IMAP_LOCAL)
  else if 0xB40000 ≤ a ∧ a < 0xB44000 then s.partOfInst 8 (getF (s.rd a) (0, 10))
  else if 0xA01000 ≤ a ∧ a < 0xA01800 then
    match s.members (s.fld (DEC_CTL ((a - 0xA01000) / 0x100)) DEC_CTL_GROUP) with
    | y :: _ => some (s.partOf y)
    | [] => none
  else if 0xC10000 ≤ a ∧ a < 0xC18000 then s.allotOf 0x0C ((a - 0xC10000) / 0x1000)
  else if 0xD00100 ≤ a ∧ a < 0xD00140 then s.partOfInst 2 ((a - 0xD00100) / 4)
  else none

/-- Does Table 17-8 close a register to writes: an RW, SHD or RWL register of a yard page, an RWL register elsewhere? -/
def sealable (a : Nat) : Bool :=
  match regRow a with
  | some r => if 0x1000000 ≤ a ∧ a < 0x2000000 then r.rw != 0 else r.rwl != 0
  | none => false

/-- The partition whose seal closes a register to host software, if one does. -/
def State.sealedBy (s : State) (a : Nat) : Option Nat :=
  if sealable a then
    match s.regPart a with
    | some p => if s.closed p then some p else none
    | none => none
  else none

/-- A refused access is recorded in SHR_DENY (R528): offset, source (Table 17-15), partition, code. -/
def State.shrDeny (s : State) (off src part code : Nat) : State :=
  s.wrN SHR_DENY (off % 2 ^ 40 * 2 ^ 24 + src % 16 * 2 ^ 20 + part % 16 * 2 ^ 16 + code % 2 ^ 16)

/-- Does the device answer BAR accesses? Not in OFF, and not before BOOT is complete (R620). -/
def State.barUp (s : State) : Bool := decide (dCONFIG ≤ s.dev)

/-- A host access that only an answering device takes. -/
def hostBar (h : State → State) (s : State) : State := if s.barUp then h s else s

/-- Has a SETR written the register in the present ft (R98)? -/
def State.setrNow (s : State) (a : Nat) : Bool := s.tb1Run && s.bus.setrs.contains (a, s.clock.tb1 / ft)

/-- A SETR writes a register; those of earlier ft are forgotten. -/
def State.noteSetr (s : State) (a : Nat) : State :=
  { s with bus := { s.bus with setrs := (a, s.clock.tb1 / ft) :: s.bus.setrs.filter fun e => e.2 == s.clock.tb1 / ft } }

/-- A host write of the register at `a`: not taken before BOOT is complete (R620), discarded and counted in a page under commit (R83) or behind a seal (R528), and
otherwise handed to the register's own rules; in the ft of a SETR of the same register the Mast's value stands (R98). -/
def hostWr (a : Nat) (h : State → State) (s : State) : State :=
  if ¬ s.barUp then s
  else if s.pageBusy a then s.inc IMG_DROP_CNT
  else
    match s.sealedBy a with
    | some p => (s.shrDeny a 0 p E_SHR_SEALED).inc SHR_SEAL_DROP_CNT
    | none => if s.setrNow a then (h s).wr a (s.rd a) else h s

end Sys2Proof.Machine
end

