-- ==== Sys2Proof/Machine/Wave.lean ====
section
/-! DEFINITION. Numbers that the manual gives by real functions: exponentials, cosines and sines as integers in units of 2⁻⁹⁶ (the error of a
term is some 2⁻⁹⁰, far below every resolution of the part), and the samples of the parametric pulse generators (R168, R169). -/

namespace Sys2Proof.Machine

/-! ### Elementary functions -/

/-- One, π and ln 2 in units of 2⁻⁹⁶. -/
def fxOne : Int := 2 ^ 96
def fxPi : Int := 248902613312231085230521944622
def fxLn2 : Int := 54916777467707473351141471128

/-- A product of two numbers in units of 2⁻⁹⁶. -/
def fxMul (a b : Int) : Int := a * b / fxOne

/-- The power series `t₀ + t₁ + …` of `n` terms in which term `i` follows from the last by `next i`. -/
def fxSeries (next : Nat → Int → Int) : Nat → Nat → Int → Int
  | 0, _, _ => 0
  | n + 1, i, t => t + fxSeries next n (i + 1) (next i t)

/-- exp(−n / d). -/
def fxExpNeg (n d : Nat) : Int :=
  let x : Int := (n : Int) * fxOne / (d : Int)
  let k := (x / fxLn2).toNat
  let r := x - (k : Int) * fxLn2
  if 128 < k then 0 else fxSeries (fun i t => -(fxMul t r) / ((i : Int) + 1)) 40 0 fxOne >>> k

/-- The cosine and the sine of an angle of at most a quarter turn, in radians. -/
def fxCosQ (a : Int) : Int :=
  fxSeries (fun i t => -(fxMul (fxMul t a) a) / ((2 * (i : Int) + 1) * (2 * i + 2))) 24 0 fxOne
def fxSinQ (a : Int) : Int :=
  fxSeries (fun i t => -(fxMul (fxMul t a) a) / ((2 * (i : Int) + 2) * (2 * i + 3))) 24 0 a

/-- Cosine and sine of `n / d` of a turn. -/
def fxCosSin (n d : Nat) : Int × Int :=
  let m := n % d
  let q := 4 * m / d
  let a := 2 * fxPi * ((4 * m - q * d : Nat) : Int) / (4 * (d : Int))
  let c := fxCosQ a
  let s := fxSinQ a
  match q with
  | 0 => (c, s)
  | 1 => (-s, c)
  | 2 => (-c, -s)
  | _ => (s, -c)

/-! ### Parametric pulses (Tables 5-5 and 5-6, R168, R169) -/

/-- The shape, flat length, edge and sigma of a slot (Table 5-5). -/
def prmShape (w : List Nat) : Nat := bits (w.getD 0 0) 31 28
def prmLift (w : List Nat) : Bool := bit (w.getD 0 0) 27
def prmFlat (w : List Nat) : Nat := bits (w.getD 0 0) 23 0
def prmEdge (w : List Nat) : Nat := bits (w.getD 1 0) 31 16
def prmSigma (w : List Nat) : Nat := bits (w.getD 1 0) 15 0
def prmAmp (w : List Nat) : Int := sgn 24 (w.getD 2 0)
def prmBeta (w : List Nat) : Int := sgn 16 (w.getD 3 0)

/-- L of Table 5-6. -/
def prmLen (w : List Nat) : Nat :=
  if prmShape w = 3 ∨ prmShape w = 4 then 2 * prmEdge w + prmFlat w else prmEdge w

/-- The check of a parametric descriptor (R168): 0 when it passes. -/
def prmCheck (w : List Nat) : Nat :=
  if 4 < prmShape w then E_HAL_RSVD_ENC
  else if prmEdge w = 0 then E_HAL_ZERO_LEN
  else if (prmSigma w = 0 ∧ (prmShape w = 0 ∨ prmShape w = 1 ∨ prmShape w = 4))
      ∨ (prmFlat w ≠ 0 ∧ prmShape w ≠ 3 ∧ prmShape w ≠ 4) ∨ 0xFFFFFF < prmLen w then E_HAL_RANGE
  else 0

/-- exp(−(d / 2)² / (2σ²)) for a distance of `d` half ft from the centre, with SIGMA in 2⁻⁸ ft. -/
def fxGauss (d sigma : Nat) : Int := fxExpNeg (8192 * d ^ 2) (sigma ^ 2)

/-- The rise (1 − cos) / 2 at `n / d` of a turn. -/
def fxRise (n d : Nat) : Int := (fxOne - (fxCosSin n d).1) / 2

/-- g and dg/dt (per ft) of a slot at sample `k`, before LIFT (Table 5-6, with t = k + 0.5 ft). -/
def prmG (w : List Nat) (k : Nat) : Int × Int :=
  let n := 2 * k + 1
  let l := prmLen w
  let e := prmEdge w
  let m := min n (2 * l - n)
  match prmShape w with
  | 2 => (fxRise n (2 * l), 0)
  | 3 => (if m < 2 * e then fxRise m (4 * e) else fxOne, 0)
  | 4 => (if m < 2 * e then fxGauss (2 * e - m) (prmSigma w) else fxOne, 0)
  | _ =>
    let d : Int := (n : Int) - l
    let g := fxGauss d.natAbs (prmSigma w)
    (g, -(d * 32768 * g) / ((prmSigma w : Int) ^ 2))

/-- The edge value g0 (Table 5-6), 0 for the shapes that start at 0. -/
def prmG0 (w : List Nat) : Int :=
  match prmShape w with
  | 2 | 3 => 0
  | 4 => fxGauss (2 * prmEdge w) (prmSigma w)
  | _ => fxGauss (prmLen w) (prmSigma w)

/-- g and dg/dt of a slot at sample `k`, lifted where LIFT is 1. -/
def prmEnv (w : List Nat) (k : Nat) : Int × Int :=
  let (g, dg) := prmG w k
  if prmLift w then
    let g0 := prmG0 w
    ((g - g0) * fxOne / (fxOne - g0), dg * fxOne / (fxOne - g0))
  else (g, dg)

/-- The exact I and Q of a slot at sample `k`, in units of 2⁻⁹⁶ LSB of s1.23: A × g, and for DRAG A × β × dg/dt. -/
def prmExact (w : List Nat) (k : Nat) : Int × Int :=
  let (g, dg) := prmEnv w k
  (prmAmp w * g, if prmShape w = 1 then prmAmp w * prmBeta w * dg / 256 else 0)

/-- A value of s1.23 within 4 LSB of an exact one: the nearest below it displaced by a free number, where that lies within the bound. -/
def nearLsb (exact e : Int) : Int :=
  let v := exact / fxOne + e
  sat 24 (if (v * fxOne - exact).natAbs ≤ 4 * 2 ^ 96 then v else exact / fxOne)

/-- The sample `k` that a generator outputs (R169). -/
def genSample (w : List Nat) (k : Nat) : Int × Int :=
  let (i, q) := prmExact w k
  (nearLsb i (Config.genError w k).1, if prmShape w = 1 then nearLsb q (Config.genError w k).2 else 0)

end Sys2Proof.Machine
end

