-- ==== Sys2Proof/Machine/Halyard.lean ====
section
/-! DEFINITION. The Halyard (chapter 5): the segment tables, plays and their sources, jumps, streaming channels, markers. -/

namespace Sys2Proof.Machine

/-! ### Segment tables (R148 to R155) -/

/-- Segment `i` of quadrant `q`. -/
def State.seg (s : State) (q i : Nat) : Seg := tget s.hal.segs (4096 * q + i)

/-- Changing it. -/
def State.setSeg (s : State) (q i : Nat) (e : Seg) : State :=
  { s with hal := { s.hal with segs := tput s.hal.segs (4096 * q + i) e } }

/-- A change made through a command of page `y` (64: a DMA load), numbered for the staleness test of R150. -/
def State.changeSeg (s : State) (y q i : Nat) (e : Seg) : State :=
  let n := s.hal.changes + 1
  { s with hal := { s.hal with changes := n, segs := tput s.hal.segs (4096 * q + i) { e with stamp := n, by_ := y } } }

/-- Did another page or a DMA load change the entry after page `y` last wrote HAL_SEG_IDX (R150)? -/
def State.segStale (s : State) (y i : Nat) : Bool :=
  let e := s.seg (quad y) i
  decide (tget s.hal.idxStamp y < e.stamp) && e.by_ != y

/-- A use of a segment begins (Table 5-2). -/
def Seg.beginUse (e : Seg) : Seg :=
  { e with users := e.users + 1, state := if e.state = .ready then .active else e.state }

/-- A use of a segment ends; the last one returns it to READY, or to FREE when it was draining (Table 5-2). -/
def Seg.endUse (e : Seg) : Seg :=
  let n := e.users - 1
  { e with users := n, state := if n = 0 then (match e.state with | .active => .ready | .draining => .free | x => x) else e.state }

/-- The waveform pages of quadrant `q` from START to the last sample, as instances of class 0x0A. -/
def segPages (q start len : Nat) : List Nat :=
  (List.range ((start + 8 * len - 1) / 4096 + 1 - start / 4096)).map fun i => 512 * q + start / 4096 + i

/-- The check of ARM and of a DMA load (R151): 0 when it passes. -/
def State.segArmCheck (s : State) (y start len count : Nat) : Nat :=
  if start % 8 ≠ 0 then E_HAL_ALIGN
  else if len = 0 ∨ count = 0 then E_HAL_ZERO_LEN
  else if 2097152 < start + 8 * len then E_HAL_SEG_LEN
  else if (segPages (quad y) start len).all (s.yardMay y 0x0A) then 0
  else E_IMG_RES_BUSY

/-- HAL_SEG_IDX: the entry is copied into the staging registers of the page (R149). -/
def segIdxWrite (y v : Nat) (s : State) : State :=
  let i := v % 4096
  let e := s.seg (quad y) i
  let s := s.wrN (HAL_SEG_IDX y) i
  let s := s.wrN (HAL_SEG_START y) e.start
  let s := s.wrN (HAL_SEG_LEN y) e.len
  let s := s.wrN (HAL_SEG_LOOP y) e.count
  let s := s.wrN (HAL_SEG_LINK y) (e.next + 4096 * b01 e.nextEn)
  { s with hal := { s.hal with idxStamp := tput s.hal.idxStamp y s.hal.changes } }

/-- The state code of HAL_SEG_STS.SSTATE. -/
def SegState.code : SegState → Nat
  | .free => 0
  | .loading => 1
  | .ready => 2
  | .active => 3
  | .draining => 4

/-- HAL_SEG_CTL FREE (Table 5-2). -/
def segFree (y : Nat) (s : State) : State :=
  let i := s.fld (HAL_SEG_IDX y) HAL_SEG_IDX_IDX
  let q := quad y
  let e := s.seg q i
  if s.segStale y i then s.status (HAL_SEG_STS y) E_HAL_SEG_BUSY
  else match e.state with
    | .free => s.status (HAL_SEG_STS y) 0
    | .loading => s.status (HAL_SEG_STS y) E_HAL_SEG_BUSY
    | .ready => (s.changeSeg y q i { e with state := .free }).status (HAL_SEG_STS y) 0
    | .active => (s.changeSeg y q i { e with state := .draining }).status (HAL_SEG_STS y) 0
    | .draining => s.status (HAL_SEG_STS y) 0

/-- HAL_SEG_CTL ARM: the state test of Table 5-2, then the checks of R151 on the staged values. -/
def segArm (y : Nat) (s : State) : State :=
  let i := s.fld (HAL_SEG_IDX y) HAL_SEG_IDX_IDX
  let q := quad y
  let e := s.seg q i
  let start := s.fld (HAL_SEG_START y) HAL_SEG_START_START
  let len := s.fld (HAL_SEG_LEN y) HAL_SEG_LEN_LEN
  let count := s.fld (HAL_SEG_LOOP y) HAL_SEG_LOOP_COUNT
  if s.segStale y i then s.status (HAL_SEG_STS y) E_HAL_SEG_BUSY
  else match e.state with
    | .loading | .active | .draining => s.status (HAL_SEG_STS y) E_HAL_SEG_BUSY
    | .free | .ready =>
      let c := s.segArmCheck y start len count
      let bad := firstNot (segPages q start len) (s.yardMay y 0x0A)
      if c ≠ 0 then (s.denyIf c 0x0A bad 1 y).status (HAL_SEG_STS y) c
      else
        (s.changeSeg y q i
          { e with start := start, len := len, count := count, nextEn := s.flag (HAL_SEG_LINK y) HAL_SEG_LINK_NEXT_EN,
                   next := s.fld (HAL_SEG_LINK y) HAL_SEG_LINK_NEXT, state := .ready }).status (HAL_SEG_STS y) 0

/-- A HAL_SEG_CTL write (R150): STATE 0b00 is no command, 0b10 is reserved. -/
def segCtlWrite (y v : Nat) (s : State) : State :=
  match v % 4 with
  | 1 => segFree y s
  | 2 => s.status (HAL_SEG_STS y) E_HAL_RSVD_ENC
  | 3 => segArm y s
  | _ => s

/-- Does a segment cover a sample? -/
def Seg.covers (e : Seg) (i : Nat) : Bool := decide (e.start ≤ i) && decide (i < e.start + 8 * e.len)

/-- May a host write change a sample (R153)? Every segment that covers it is FREE or READY. -/
def State.sampleFree (s : State) (q i : Nat) : Bool :=
  s.hal.segs.all fun p =>
    p.1 / 4096 != q || !p.2.covers i || p.2.state = .free || p.2.state = .ready

/-- Byte offset of sample `i` of quadrant `q` in the waveform stores. -/
def sampleAddr (q i : Nat) : Nat := 12582912 * q + 6 * i

/-- A host write of a waveform sample (R153, Table 17-8): 48 bits, little-endian. -/
def storeSample (q i v : Nat) (s : State) : State :=
  match s.partOfInst 0x0A (512 * q + i / 4096) with
  | some p =>
    if s.closed p then (s.shrDeny (6 * i) 2 p E_SHR_SEALED).inc SHR_SEAL_DROP_CNT
    else if s.sampleFree q i then { s with hal := { s.hal with wave := stBytes s.hal.wave (sampleAddr q i) 6 v } }
    else s.inc (HAL_WDROP_CNT (16 * q))
  | none =>
    if s.sampleFree q i then { s with hal := { s.hal with wave := stBytes s.hal.wave (sampleAddr q i) 6 v } }
    else s.inc (HAL_WDROP_CNT (16 * q))

/-! ### Targets and plays (R157 to R163) -/

/-- Target states (Table 5-4). -/
def tIDLE : Nat := 0
def tSEG : Nat := 1
def tPARAM : Nat := 2
def tSTREAM : Nat := 3
def tSTARVED : Nat := 4

/-- A target's own state. -/
def State.tgt (s : State) (y t : Nat) : Target := tget s.hal.tgts (32 * y + t)

/-- Changing it. -/
def State.setTgt (s : State) (y t : Nat) (x : Target) : State :=
  { s with hal := { s.hal with tgts := tput s.hal.tgts (32 * y + t) x } }

/-- Is a tone or flux target enabled by the image (R63)? -/
def State.tgtEn (s : State) (y t : Nat) : Bool :=
  let c := s.comp y
  if t < 8 then bit c.driveEn t else if t < 16 then bit c.probeEn (t - 8) else bit c.misc (t - 16)

/-- TON_TSTS.TSTATE follows the target (Table 6-5): OFF disabled, ACTIVE with a play in progress, IDLE otherwise. -/
def State.toneState (s : State) (y t : Nat) : State :=
  if t < 16 then
    s.setF (TON_TSTS y t) TON_TSTS_TSTATE
      (if s.tgtEn y t then
        (match s.fld (HAL_TGT_STS y t) HAL_TGT_STS_TSTATE with | 1 => 2 | 2 => 2 | 3 => 2 | _ => 1) else 0)
  else s

/-- TSTATE and SEG of a target. -/
def State.setTstate (s : State) (y t st seg : Nat) : State :=
  ((s.setF (HAL_TGT_STS y t) HAL_TGT_STS_TSTATE st).setF (HAL_TGT_STS y t) HAL_TGT_STS_SEG seg).toneState y t

/-- A pending jump is discarded and counted (R163, R166, R167). -/
def State.dropJump (s : State) (y t : Nat) : State :=
  match (s.tgt y t).jump with
  | some _ =>
    ((s.setTgt y t { s.tgt y t with jump := none }).setF (HAL_TGT_STS y t) HAL_TGT_STS_JPEND 0).inc (HAL_JDROP_CNT y)
  | none => s

/-- The use of the segment of a play ends (R152). -/
def State.endPlayUse (s : State) (y : Nat) (p : Play) : State :=
  if p.src = 0 then s.setSeg (quad y) p.id (s.seg (quad y) p.id).endUse else s

/-- The use of a segment that a boundary had already addressed ends. -/
def State.endPlanUse (s : State) (y : Nat) (p : Play) : State :=
  match p.plan with
  | some (.to_ i _) => s.setSeg (quad y) i (s.seg (quad y) i).endUse
  | _ => s

/-- A target returns to IDLE: zero samples from now on (R162). -/
def State.idleTgt (s : State) (y t : Nat) : State :=
  match (s.tgt y t).play with
  | some p =>
    let s := (s.endPlayUse y p).endPlanUse y p
    (s.setTgt y t { s.tgt y t with play := none }).setTstate y t tIDLE 0
  | none => s.setTstate y t tIDLE 0

/-- The length in samples of a segment, of a parametric slot (Table 5-6) and of a stream block. -/
def segSamples (e : Seg) : Nat := 8 * e.len

/-- The eight words of a parametric slot. -/
def State.prmWords (s : State) (y p : Nat) : List Nat := (List.range 8).map fun w => s.rdN (HAL_PRM y p w)

/-- A stream channel's own state. -/
def State.strm (s : State) (y c : Nat) : Strm := tget s.hal.strms (2 * y + c)

/-- Changing it. -/
def State.setStrm (s : State) (y c : Nat) (x : Strm) : State :=
  { s with hal := { s.hal with strms := tput s.hal.strms (2 * y + c) x } }

/-- BLK of a channel, in samples. -/
def State.blkSamples (s : State) (y c : Nat) : Nat := 8 * s.fld (HAL_STR_CTL y c) HAL_STR_CTL_BLK

/-- The play length that ADV adds (R103, R161), in ft. -/
def State.playLen (s : State) (y src id : Nat) : Nat :=
  if src = 0 then segSamples (s.seg (quad y) id)
  else if src = 1 then prmLen (s.prmWords y id)
  else s.blkSamples y id

/-- The check of a segment at the addressing of its first sample (R158): 0 when it passes. -/
def State.segPlayCheck (s : State) (y i : Nat) : Nat :=
  let e := s.seg (quad y) i
  if e.state ≠ .ready ∧ e.state ≠ .active then E_HAL_SEG_STATE
  else if (segPages (quad y) e.start e.len).all (s.yardMay y 0x0A) then 0
  else E_IMG_RES_BUSY

/-- The check of a play's source (R158): 0 when it passes. -/
def State.playCheck (s : State) (y src id : Nat) : Nat :=
  if src = 0 then s.segPlayCheck y id
  else if src = 1 then (if 63 < id then E_HAL_RANGE else prmCheck (s.prmWords y id))
  else if 1 < id then E_HAL_RANGE
  else if s.flag (HAL_STR_STS y id) HAL_STR_STS_RUNNING then
    (if (s.grp (s.groupOf y)).rpass then E_HAL_STR_RPASS else 0)
  else E_HAL_STR_STATE

/-- Passes of a segment entry: unbounded for 0xF_FFFF (R22). -/
def Seg.passes (e : Seg) : Option Nat := if e.count = 0xFFFFF then none else some e.count

/-- What a capture takes from the source of a request released at `r`. -/
def State.captured (s : State) (r : PlayReq) : Play :=
  let e := if r.src = 0 then s.seg (quad r.y) r.id else default
  { src := r.src, id := r.id, amp := r.amp, r := r.r, pc := r.pc,
    entry := e, passes := e.passes, bound := r.r + ft * segSamples e, plan := none,
    prm := if r.src = 1 then s.prmWords r.y r.id else [],
    stop := r.r + ft * s.playLen r.y r.src r.id, block := 0, bad := [] }

/-- Is this the last st of the ft in which the sample with release-equivalent time `τ` is addressed, τ − 3 ft (R157)? What is checked and
captured at an addressing takes account of every change of that ft (R158, R170). A play staged on a WAITD path is known to be released only
at D, 2 ft before its release: it is addressed in the ft of D (DEDUCED, log entry 105). -/
def State.addresses (s : State) (τ : Nat) : Bool :=
  s.tb1Run && decide (τ - 3 * ft ≤ s.clock.tb1) && decide (s.clock.tb1 < τ) && s.clock.tb1 % ft == 15

/-- A request is the one that a capture on a target takes: the earliest not yet captured whose sample 0 is addressed now (R157). -/
def State.capReq (s : State) (y t : Nat) : Option PlayReq :=
  s.hal.reqs.find? fun r => r.y == y && r.tgt == t && r.cap.isNone && s.addresses r.r

/-- Replacing the first request that passes a test. -/
def updReq (p : PlayReq → Bool) (f : PlayReq → PlayReq) : List PlayReq → List PlayReq
  | [] => []
  | r :: rs => if p r then f r :: rs else r :: updReq p f rs

/-- Removing the first request that passes a test. -/
def delReq (p : PlayReq → Bool) : List PlayReq → List PlayReq
  | [] => []
  | r :: rs => if p r then rs else r :: delReq p rs

/-- The same request. -/
def PlayReq.same (a b : PlayReq) : Bool := a.y == b.y && a.tgt == b.tgt && a.r == b.r && a.pc == b.pc && a.cap.isNone

/-- A segment refused for its pages is a refused request of the yard (R69). -/
def State.denySeg (s : State) (y i c : Nat) : State :=
  let e := s.seg (quad y) i
  s.denyIf c 0x0A (firstNot (segPages (quad y) e.start e.len) (s.yardMay y 0x0A)) 1 y

/-- A play request is withdrawn. -/
def State.dropReq (s : State) (r : PlayReq) : State := { s with hal := { s.hal with reqs := delReq r.same s.hal.reqs } }

/-- The release-equivalent time of a sample whose read hits an uncorrectable error, counted from the time `τ` of sample 0. -/
def badAt (τ : Nat) (ecc : Option Nat) : List (Nat × Bool) :=
  match ecc with
  | some k => [(τ + ft * k, false)]
  | none => []

/-- The play of a target, or the captured request for it, whose next failing sample has been addressed. -/
def Play.badDue (p : Play) (now : Nat) : Bool := p.bad.any fun b => !b.2 && decide (b.1 - 3 * ft ≤ now)

/-- The failing samples that have been addressed are marked as reported. -/
def Play.badTold (p : Play) (now : Nat) : Play :=
  { p with bad := p.bad.map fun b => (b.1, b.2 || decide (b.1 - 3 * ft ≤ now)) }

/-- An uncorrectable error of a sample read is a program fault of the playing yard when the sample is addressed (R156). -/
def storeError (y t : Nat) (s : State) : State :=
  let n := s.tb1
  let s :=
    match (s.tgt y t).play with
    | some p => if p.badDue n then progFault y p.pc E_HAL_ECC_UNCORR (s.setTgt y t { s.tgt y t with play := some (p.badTold n) }) else s
    | none => s
  let hit (r : PlayReq) : Bool := r.y == y && r.tgt == t && (match r.cap with | some p => p.badDue n | none => false)
  match s.hal.reqs.find? hit with
  | some r =>
    progFault y r.pc E_HAL_ECC_UNCORR
      { s with hal := { s.hal with reqs := updReq hit (fun r => { r with cap := r.cap.map (·.badTold n) }) s.hal.reqs } }
  | none => s

/-- PLAY_CAPTURE: the source is checked and its descriptor captured; a failed check plays nothing and is a program fault of
the yard that names the PLAY (R158). `ecc`: the sample of it whose read hits an uncorrectable ECC error (R156). -/
def playCapture (y t : Nat) (ecc : Option Nat) (s : State) : State :=
  match s.capReq y t with
  | none => s
  | some r =>
    let c := s.playCheck y r.src r.id
    if c ≠ 0 then
      progFault y r.pc c (s.denySeg y r.id c |>.dropReq r)
    else
      let p := { s.captured r with bad := if r.src = 1 then [] else badAt r.r ecc }
      let s := { s with hal := { s.hal with reqs := updReq r.same (fun x => { x with cap := some p }) s.hal.reqs } }
      storeError y t (if r.src = 0 then s.setSeg (quad y) r.id (s.seg (quad y) r.id).beginUse else s)

/-- A play has ended at `e` on its own: its last sample reaches the pin 16 ft later (R124). -/
def State.endsAt (s : State) (y e : Nat) : State := s.modMast y fun m => { m with endAt := max m.endAt (e + 16 * ft) }

/-- Is a target in STARVED, which it leaves at the end of the attempt only (Table 5-4)? -/
def State.starvedTgt (s : State) (y t : Nat) : Bool := s.fld (HAL_TGT_STS y t) HAL_TGT_STS_TSTATE == tSTARVED

/-- The end of a parametric or stream play (R162): its last sample has passed its release-equivalent time. -/
def playEnd (y t : Nat) (s : State) : State :=
  match (s.tgt y t).play with
  | none => s
  | some p =>
    if p.src = 0 ∨ ¬ s.reached p.stop then s
    else if s.starvedTgt y t then (s.setTgt y t { s.tgt y t with play := none }).endsAt y p.stop
    else (s.idleTgt y t).endsAt y p.stop

/-! ### Pass boundaries and jumps (R159, R160, R164 to R167) -/

/-- Where a segment play goes at its boundary: the jump that applies there, the next pass, the chain, or the end. -/
def State.boundaryGoal (s : State) (y t : Nat) (p : Play) : SegPlan :=
  let go (i : Nat) : SegPlan :=
    if i = p.id then .to_ i (s.seg (quad y) i)
    else if s.segPlayCheck y i ≠ 0 then .fail (s.segPlayCheck y i) i else .to_ i (s.seg (quad y) i)
  let on : SegPlan :=
    match p.passes with
    | none => .again
    | some n => if 1 < n then .again else if p.entry.nextEn then go p.entry.next else .stop
  match (s.tgt y t).jump with
  | some j => if j.j + 4 * ft ≤ p.bound then (if j.stop then .stop else go j.seg) else on
  | none => on

/-- Does the pending jump of a target apply at the boundary of its play (R164)? -/
def State.jumpApplies (s : State) (y t : Nat) (p : Play) : Bool :=
  match (s.tgt y t).jump with
  | some j => decide (j.j + 4 * ft ≤ p.bound)
  | none => false

/-- The goal of a boundary is fixed when its first sample is addressed, at B − 3 ft (R160): the segment it names is checked, and its use
begins. A check that fails is a program fault; the play ends at B. -/
def boundaryPlan (y t : Nat) (p : Play) (s : State) : State :=
  let g := s.boundaryGoal y t p
  let s := s.setTgt y t { s.tgt y t with play := some { p with plan := some g } }
  match g with
  | .to_ i _ => s.setSeg (quad y) i (s.seg (quad y) i).beginUse
  | .fail c i => progFault y p.pc c (s.denySeg y i c)
  | _ => s

/-- At B the play moves on (R159, R164): the jump that applies is used up; a late one is kept for the next boundary or, when the play
ends, discarded (R166). After a failed check the target receives zero samples, and the abort takes it to IDLE (R160). -/
def boundaryMove (y t : Nat) (p : Play) (g : SegPlan) (s : State) : State :=
  let s := if s.jumpApplies y t p then
      (s.setTgt y t { s.tgt y t with jump := none }).setF (HAL_TGT_STS y t) HAL_TGT_STS_JPEND 0
    else s
  match g with
  | .again =>
    s.setTgt y t { s.tgt y t with play := some { p with passes := p.passes.map (· - 1), bound := p.bound + ft * segSamples p.entry, plan := none } }
  | .to_ i e =>
    let s := s.endPlayUse y p
    let s := s.setTgt y t { s.tgt y t with play := some { p with id := i, entry := e, passes := e.passes, bound := p.bound + ft * segSamples e, plan := none } }
    s.setTstate y t tSEG i
  | .stop =>
    let s := ((s.dropJump y t).endPlayUse y p).endsAt y p.bound
    (s.setTgt y t { s.tgt y t with play := none }).setTstate y t tIDLE 0
  | .fail _ _ =>
    let s := ((s.dropJump y t).endPlayUse y p).endsAt y p.bound
    s.setTgt y t { s.tgt y t with play := none }

/-- Is a captured play released on a target at `r`? It governs from r (R163, R164). -/
def State.playDue (s : State) (y t r : Nat) : Bool :=
  s.hal.reqs.any fun q => q.y == y && q.tgt == t && q.r == r && q.cap.isSome

/-- SEG_BOUNDARY: at B − 3 ft the goal is fixed, at B the play moves, unless a play released at B preempts it. `ecc`: the sample from B
on whose read hits an uncorrectable ECC error, a program fault of the playing yard (R156). -/
def segBoundary (y t : Nat) (ecc : Option Nat) (s : State) : State :=
  match (s.tgt y t).play with
  | none => s
  | some p =>
    if p.src ≠ 0 then s
    else match p.plan with
      | none =>
        if s.reached (p.bound - 3 * ft + 15) then boundaryPlan y t { p with bad := p.bad ++ badAt p.bound ecc } s |> storeError y t
        else s
      | some g => if s.reached p.bound ∧ ¬ s.playDue y t p.bound then boundaryMove y t p g s else s

/-- A play released at `r` finds another on its target (R163): one that has samples from r on ends before r, its pending jump is
discarded and the overlap counted; one whose last sample was the one before r has ended on its own. -/
def preempt (y t r : Nat) (p : Play) (s : State) : State :=
  let ended : Option SegPlan :=
    if p.src ≠ 0 then (if p.stop ≤ r then some .stop else none)
    else if p.bound ≤ r then (match p.plan with | some .stop => some .stop | some (.fail c i) => some (.fail c i) | _ => none)
    else none
  match ended with
  | some g => if p.src = 0 then boundaryMove y t p g s else playEnd y t s
  | none =>
    let s := (s.dropJump y t).idleTgt y t
    (s.inc (HAL_OVL_CNT y)).setF (HAL_STS y) HAL_STS_OVERLAP 1

/-- Targets that play a starved channel receive zero samples and stand in STARVED (R174). -/
def starveTgts (y c r : Nat) (s : State) : State :=
  match (s.strm y c).starved with
  | some z =>
    if r < z then s
    else forEach ((List.range 20).filter fun t => match (s.tgt y t).play with | some p => p.src == 2 && p.id == c | none => false) s
      fun t s => s.setTstate y t tSTARVED 0
  | none => s

/-- A captured play is released at `r` (R157); one in progress on the target ends before it (R163). -/
def playRelease (y t r : Nat) (s : State) : State :=
  let mine (x : PlayReq) : Bool := x.y == y && x.tgt == t && x.r == r
  match (s.hal.reqs.find? fun q => mine q && q.cap.isSome) with
  | none => { s with hal := { s.hal with reqs := delReq mine s.hal.reqs } }
  | some q =>
    match q.cap with
    | none => s
    | some p =>
      let s := { s with hal := { s.hal with reqs := delReq (fun x => mine x && x.cap.isSome) s.hal.reqs } }
      let s := match (s.tgt y t).play with | some o => preempt y t r o s | none => s
      let s := s.setTgt y t { s.tgt y t with play := some p }
      let s := s.setTstate y t (if p.src = 0 then tSEG else if p.src = 1 then tPARAM else tSTREAM) (if p.src = 0 then p.id else 0)
      if p.src = 2 then starveTgts y p.id r s else s

/-- Is a jump written now late (R166)? It comes less than 4 ft before the first boundary after it. -/
def Play.jumpLate (p : Play) (j : Nat) : Bool := decide (j < p.bound) && decide (p.bound < j + 4 * ft)

/-- A jump request with jump time `j` (R164, R166, R167): a target without a segment play discards it; a pending one is replaced. -/
def jumpWrite (y t v j : Nat) (s : State) : State :=
  let s := s.wrN (HAL_JUMP y t) (v % 2 ^ 13)
  match (s.tgt y t).play with
  | some p =>
    if p.src = 0 then
      let s := if (s.tgt y t).jump.isSome then s.inc (HAL_JDROP_CNT y) else s
      let late := p.jumpLate j
      let s := if late then (s.setF (HAL_STS y) HAL_STS_JUMP_LATE 1).inc (HAL_JLATE_CNT y) else s
      (s.setTgt y t { s.tgt y t with jump := some ⟨bit v 12, v % 4096, j, late⟩ }).setF (HAL_TGT_STS y t) HAL_TGT_STS_JPEND 1
    else s.inc (HAL_JDROP_CNT y)
  | none => s.inc (HAL_JDROP_CNT y)

/-- A host write of HAL_JUMP. In the ft of a SETR of it the SETR stands (R98): the host's jump, of equal J, is the replaced one. -/
def jumpHost (y t v : Nat) (s : State) : State :=
  if s.setrNow (HAL_JUMP y t) then s.inc (HAL_JDROP_CNT y) else jumpWrite y t v s.tb1 s

/-! ### Streaming channels (R171 to R179) -/

/-- A write of HAL_STR_CTL is discarded and counted; a start or a stop so refused shows E_HAL_STR_STATE (R171, Table 5-9). -/
def strRefused (y c : Nat) (asked : Bool) (s : State) : State :=
  (s.inc (HAL_WDROP_CNT y)).when asked fun s => s.status (HAL_STR_STS y c) E_HAL_STR_STATE

/-- The fields of HAL_STR_CTL that a write stores. -/
def strFields (v : Nat) : Nat := bits v 31 31 * 2 ^ 31 + bits v 27 16 * 2 ^ 16 + bits v 11 0

/-- Start of a channel by a write of HAL_STR_CTL with EN 1 (R171). -/
def strStart (y c v : Nat) (s : State) : State :=
  let a := HAL_STR_CTL y c
  let ring := bits v 11 0
  let blk := bits v 27 16
  let e := s.seg (quad y) ring
  if ¬ s.yIdle y ∨ s.flag a HAL_STR_CTL_EN then strRefused y c (!s.flag a HAL_STR_CTL_EN) s
  else if e.state ≠ .ready then s.status (HAL_STR_STS y c) E_HAL_SEG_STATE
  else if blk = 0 then s.status (HAL_STR_STS y c) E_HAL_ZERO_LEN
  else if e.len % blk ≠ 0 ∨ e.len < 2 * blk then s.status (HAL_STR_STS y c) E_HAL_STR_RING
  else if ¬ s.yardMay y 6 (s.fld (HAL_STR_QID y c) (0, 18)) then
    (s.deny 6 (s.fld (HAL_STR_QID y c) (0, 18)) 1 y).status (HAL_STR_STS y c) E_IMG_RES_BUSY
  else
    let s := s.wrN a (strFields v)
    let s := s.setSeg (quad y) ring { e with state := .active, users := e.users + 1 }
    let s := s.setStrm y c { (default : Strm) with ringBlocks := e.len / blk, ringSeg := ring }
    (s.setF (HAL_STR_STS y c) HAL_STR_STS_RUNNING 1).status (HAL_STR_STS y c) 0

/-- A write of HAL_STR_CTL with EN 0 (R171): it stops a running channel and discards its blocks; on a stopped channel of an IDLE group it
stores the fields. -/
def strStop (y c v : Nat) (s : State) : State :=
  let a := HAL_STR_CTL y c
  if ¬ s.yIdle y then strRefused y c (s.flag a HAL_STR_CTL_EN) s
  else
    let s := s.wrN a (strFields (v % 2 ^ 31))
    if ¬ s.flag (HAL_STR_STS y c) HAL_STR_STS_RUNNING then s
    else
      let ring := (s.strm y c).ringSeg
      let s := s.setSeg (quad y) ring (s.seg (quad y) ring).endUse
      let s := s.setStrm y c default
      let other (i : Item) : Bool := match i.act with | .batch y' c' _ => !(y' == y && c' == c) | _ => true
      let s := ((s.wrN (HAL_STR_STS y c) 0).keepHeld other).keepTransit other
      { s with hal := { s.hal with batches := s.hal.batches.filter fun b => !(b.2.1 == y && b.2.2.1 == c) } }

/-- A write of HAL_STR_CTL. -/
def strCtlWrite (y c v : Nat) (s : State) : State := if bit v 31 then strStart y c v s else strStop y c v s

/-- One block that completes (R173): it is available, or discarded while blocks are to be skipped (R177). -/
def strmAdd (n : Nat) (x : Strm) : Strm × Nat :=
  let d := min n x.skip
  ({ x with wp := x.wp + n, skip := x.skip - d, coming := x.coming - n }, d)

/-- A batch of `n` blocks completes (R173); those to be skipped are counted (R177). -/
def strmArrive (y c n : Nat) (s : State) : State :=
  let (x, d) := strmAdd n (s.strm y c)
  (s.setStrm y c x).incBy (HAL_STR_SKIP_CNT y c) d

/-- The batches of a channel whose lead has run out on the island clock (R665). -/
def strmClock (y c : Nat) (s : State) : State :=
  let due (b : Nat × Nat × Nat × Nat) : Bool := b.2.1 == y && b.2.2.1 == c && decide (b.1 ≤ s.clock.now)
  forEach (s.hal.batches.filter due) { s with hal := { s.hal with batches := s.hal.batches.filter fun b => !due b } }
    fun b s => strmArrive y c b.2.2.2 s

/-- STR_BLOCK_AVAILABLE: the batch of the channel whose release time has come is applied (R173). -/
def strBlockAvailable (y c : Nat) (s : State) : State :=
  let isB (i : Item) : Bool := match i.act with | .batch y' c' _ => y' == y && c' == c && s.due i.rel | _ => false
  match s.bus.held.find? isB with
  | none => strmClock y c s
  | some i =>
    match i.act with
    | .batch _ _ n => strmArrive y c n { s with bus := { s.bus with held := s.bus.held.erase i } }
    | _ => s

/-- A channel starves from the sample of release-equivalent time `r` on (R174): every result record of the group in the attempt carries
UNDERRUN, and the mark is replayable unless the shot is no longer protected (R175). -/
def strStarve (y c r : Nat) (s : State) : State :=
  let s := s.setStrm y c { s.strm y c with starved := some r }
  let s := (s.setF (HAL_STS y) HAL_STS_UNDERRUN 1).inc (HAL_STR_UNDER_CNT y c)
  let s := s.setF (HAL_STR_STS y c) HAL_STR_STS_STARVED 1
  (s.markGroup (s.groupOf y) E_HAL_UNDERRUN true).report E_HAL_UNDERRUN y c

/-- A channel that has starved in a shot that is no longer protected leaves an attempt that is not replayed (R175, R177), whichever of
the two came first. -/
def strLost (y c : Nat) (s : State) : State :=
  if (s.strm y c).starved.isSome ∧ s.flag (HAL_STR_STS y c) HAL_STR_STS_NOREPLAY then
    s.modGrp (s.groupOf y) fun q => { q with noReplay := true }
  else s

/-- A stream play that addresses its first sample now and has no block yet. -/
def State.addressing (s : State) (r : PlayReq) : Bool :=
  r.src == 2 && s.addresses r.r && (match r.cap with | some p => p.block == 0 | none => false)

/-- STREAM_BLOCK_ADDRESS: the captured stream play of a target that addresses its first sample takes the next block, plays of equal
release in the order of issue; a block not available starves the channel, and the pointer advances all the same (R174). A shot that
consumes more than the ring holds minus one block is no longer protected (R175). -/
def streamBlock (y t : Nat) (s : State) : State :=
  match s.hal.reqs.find? fun r => r.y == y && r.tgt == t && s.addressing r with
  | none => s
  | some r =>
    match s.hal.reqs.find? fun q => q.y == y && q.id == r.id && s.addressing q with
    | none => s
    | some q =>
      if q ≠ r then s
      else
        let x := s.strm y r.id
        let take (q : PlayReq) : PlayReq := { q with cap := q.cap.map fun p => { p with block := x.rp + 1 } }
        let s : State := { s with hal := { s.hal with reqs := updReq (· == r) take s.hal.reqs } }
        let s := s.setStrm y r.id { x with rp := x.rp + 1 }
        let s := if x.ringBlocks - 1 < x.rp + 1 - x.m then s.setF (HAL_STR_STS y r.id) HAL_STR_STS_NOREPLAY 1 else s
        strLost y r.id (if x.starved.isNone ∧ x.wp ≤ x.rp then strStarve y r.id r.r s else s)

/-- At T0 of a first attempt the shot mark is set to the read pointer (R175). -/
def strShotStart (y : Nat) (first : Bool) (s : State) : State :=
  forEach [0, 1] s fun c s =>
    let x := s.strm y c
    let s := s.setStrm y c { x with m := if first then x.rp else x.m, starved := none }
    let s := s.setF (HAL_STR_STS y c) HAL_STR_STS_STARVED 0
    if first then s.setF (HAL_STR_STS y c) HAL_STR_STS_NOREPLAY 0 else s

/-- A replay returns the read pointer to the mark (R176). -/
def strReplay (y : Nat) (s : State) : State :=
  forEach [0, 1] s fun c s =>
    let x := s.strm y c
    s.setStrm y c { x with rp := x.m, starved := none }

/-- Are the blocks that a replay needs available (R176)? -/
def State.strReady (s : State) (y : Nat) : Bool :=
  [0, 1].all fun c => let x := s.strm y c; x.starved.isNone || decide (x.rp ≤ x.wp)

/-- At the end of an attempt starved targets go to IDLE (Table 5-4). -/
def strAttemptEnd (y : Nat) (s : State) : State :=
  forEach ((List.range 20).filter fun t => s.starvedTgt y t) s fun t s => s.idleTgt y t

/-- An attempt stands (R177): the mark moves to the read pointer, and blocks behind it that have not arrived are discarded on
arrival. -/
def strStands (y : Nat) (s : State) : State :=
  forEach [0, 1] s fun c s =>
    let x := s.strm y c
    s.setStrm y c { x with m := x.rp, skip := x.rp - x.wp }

/-- An ABORT release returns the read pointers to the marks (R178). -/
def strAbort (y : Nat) (s : State) : State :=
  forEach [0, 1] s fun c s => let x := s.strm y c; s.setStrm y c { x with rp := x.m }

/-! ### Markers (R180 to R184, R670), in steps of 6.25 ps -/

/-- Steps of 6.25 ps in one st. -/
def stepsPerSt : Nat := 8

/-- A pin's own state. -/
def State.pin (s : State) (p : Nat) : Pin := tget s.hal.pins p

/-- Changing it. -/
def State.setPin (s : State) (p : Nat) (x : Pin) : State := { s with hal := { s.hal with pins := tput s.hal.pins p x } }

/-- A time of TB1 as a time since BOOT (`now`), in steps: the edges of a pin keep their times when TB1 stops. -/
def State.pinTime (s : State) (τ : Nat) : Nat := (τ + s.clock.now - s.tb1) * stepsPerSt

/-- A MARK of yard `y` is applied at its release `rel`: its edges are placed with the delays of its set as they stand now
(R180). The cursor is 16 ft after the release (R91). -/
def markRelease (y set act width rel : Nat) (s : State) : State :=
  let pin := s.fld (HAL_MRK_PIN y) HAL_MRK_PIN_PIN
  let at0 := s.pinTime (rel + 16 * ft)
  let up := at0 + s.fld (HAL_MRK_SET y set) HAL_MRK_SET_RISE_DLY
  let fall := s.fld (HAL_MRK_SET y set) HAL_MRK_SET_FALL_DLY
  let es :=
    if act = 0 then [(up, true, y)]
    else if act = 1 then [(at0 + fall, false, y)]
    else [(up, true, y), (at0 + width * ft * stepsPerSt + fall, false, y)]
  let x := s.pin pin
  s.setPin pin { x with edges := x.edges ++ es }

/-- Has the st of an edge time come? -/
def State.pinDue (s : State) (τ : Nat) : Bool := decide (τ / stepsPerSt ≤ s.clock.now)

/-- MARKER_EDGE: the next placed edge of a pin, in release order, takes place, makes no edge on a pin that already has its
level (R181), or is discarded as too close to the last one and counted in the yard of its MARK (R182); after the edges that stand
before it, the pin is driven low (R183). -/
def markerEdge (pin : Nat) (s : State) : State :=
  let x := s.pin pin
  let low (s : State) : State :=
    match x.lowAt with
    | some l => if s.pinDue l then s.setPin pin { x with lowAt := none, level := false, last := if x.level then some l else x.last } else s
    | none => s
  match x.edges with
  | [] => low s
  | (t, up, y) :: rest =>
    if (match x.lowAt with | some l => decide (l ≤ t) | none => false) then low s
    else if ¬ s.pinDue t then s
    else if x.level = up then s.setPin pin { x with edges := rest }
    else if (match x.last with | some l => decide (t < l + 64) | none => false) then
      ((s.setPin pin { x with edges := rest }).inc (HAL_MRK_COLL_CNT y)).setF (HAL_STS y) HAL_STS_MRK_COLL 1
    else s.setPin pin { x with edges := rest, level := up, last := some t }

/-- At time A (of TB1) the edges of a pin at or after A + 16 ft are discarded, and the pin is driven low then (R183). -/
def pinCut (pin a : Nat) (s : State) : State :=
  let lim := s.pinTime (a + 16 * ft)
  let x := s.pin pin
  s.setPin pin { x with edges := x.edges.filter fun e => decide (e.1 < lim), lowAt := some lim }

/-- ABORT, a yard commit or SAFE at time A on the pin of a yard (R183). -/
def markerCut (y a : Nat) (s : State) : State := pinCut (s.fld (HAL_MRK_PIN y) HAL_MRK_PIN_PIN) a s

/-- Entry into CAL, CONFIG or SAFE on every pin (R670). -/
def markersCut (s : State) : State := forEach (List.range 64) s fun pin s => pinCut pin s.tb1 s

/-- MARKER_RUN_EXIT_LOW: outside RUN, a pin still high after its last placed edge is driven low, no earlier than 400 ps after
that edge (R670). -/
def markerExitLow (pin : Nat) (s : State) : State :=
  let x := s.pin pin
  let free : Bool := match x.last with | some l => decide (l + 64 ≤ s.clock.now * stepsPerSt) | none => true
  if s.dev ≠ dRUN ∧ x.level ∧ x.edges = [] ∧ x.lowAt = none ∧ free then
    s.setPin pin { x with level := false, last := some (s.clock.now * stepsPerSt) }
  else s

/-- A host write of HAL_MRK_PIN (R184). -/
def mrkPinWrite (y v : Nat) (s : State) : State :=
  if s.yIdle y then s.wrN (HAL_MRK_PIN y) (v % 64) else s.inc (HAL_WDROP_CNT y)

/-! ### Samples (R154, R162, R169) -/

/-- A stored sample as (I, Q) at s1.23 (R9). -/
def State.waveSample (s : State) (q i : Nat) : Int × Int :=
  let w := ldBytes s.hal.wave (sampleAddr q i) 6
  (sgn 24 (w / 2 ^ 24), sgn 24 w)

/-- The envelope sample that a target delivers at release-equivalent time `x` (R157, R159, R162, R174): zero where its read failed (R156). -/
def State.envelope (s : State) (y t x : Nat) : Int × Int :=
  match (s.tgt y t).play with
  | none => (0, 0)
  | some p =>
    if x < p.r ∨ p.bad.any (fun b => b.1 == x / ft * ft) then (0, 0)
    else if p.src = 0 then
      let n := segSamples p.entry
      s.waveSample (quad y) (p.entry.start + (n - (p.bound - x) / ft) % (max n 1))
    else if p.stop ≤ x then (0, 0)
    else if p.src = 1 then genSample p.prm ((x - p.r) / ft)
    else
      let st := s.strm y p.id
      let e := s.seg (quad y) st.ringSeg
      let b := s.blkSamples y p.id
      if (match st.starved with | some z => decide (z ≤ x) | none => false) then (0, 0)
      else s.waveSample (quad y) (e.start + (p.block - 1) % (max st.ringBlocks 1) * b + (x - p.r) / ft)

/-- Every target of a yard goes to IDLE at once; pending jumps and requests are dropped, and with a captured request the use of its
segment ends (ABORT, commit, SAFE; R54, R152). -/
def halIdle (y : Nat) (s : State) : State :=
  let s := forEach (s.hal.reqs.filter (·.y == y)) s fun r s =>
    match r.cap with
    | some p => s.endPlayUse y p
    | none => s
  let s := { s with hal := { s.hal with reqs := s.hal.reqs.filter (·.y != y) } }
  forEach (List.range 20) s fun t s =>
    let s := if (s.tgt y t).jump.isSome then
        (s.setTgt y t { s.tgt y t with jump := none }).setF (HAL_TGT_STS y t) HAL_TGT_STS_JPEND 0 else s
    s.idleTgt y t

/-! ### The commands -/

/-- HAL_SEG_IDX_WRITE. -/
def execHalSegIdxWrite (y v : Nat) (s : State) : Host.Outcome State Fault Refusal :=
  .next (hostWr (HAL_SEG_IDX y) (segIdxWrite y v) s)

/-- HAL_SEG_FREE. -/
def execHalSegFree (y : Nat) (s : State) : Host.Outcome State Fault Refusal :=
  .next (hostWr (HAL_SEG_CTL y) (segFree y) s)

/-- HAL_SEG_ARM. -/
def execHalSegArm (y : Nat) (s : State) : Host.Outcome State Fault Refusal :=
  .next (hostWr (HAL_SEG_CTL y) (segArm y) s)

/-- STORE_SAMPLE_WRITE. -/
def execStoreSampleWrite (q i v : Nat) (s : State) : Host.Outcome State Fault Refusal := .next (storeSample q i v s)

/-- PLAY_CAPTURE. -/
def execPlayCapture (y t : Nat) (ecc : Option Nat) (s : State) : Host.Outcome State Fault Refusal :=
  .next (playCapture y t ecc s)

/-- SEG_BOUNDARY. -/
def execSegBoundary (y t : Nat) (ecc : Option Nat) (s : State) : Host.Outcome State Fault Refusal :=
  .next (segBoundary y t ecc s)

/-- HAL_JUMP_WRITE: a host write; the jump time is the time at which it takes effect at the yard. -/
def execHalJumpWrite (y t v : Nat) (s : State) : Host.Outcome State Fault Refusal :=
  .next (hostWr (HAL_JUMP y t) (jumpHost y t v) s)

/-- STR_START. -/
def execStrStart (y c v : Nat) (s : State) : Host.Outcome State Fault Refusal :=
  .next (hostWr (HAL_STR_CTL y c) (strStart y c v) s)

/-- STR_STOP. -/
def execStrStop (y c v : Nat) (s : State) : Host.Outcome State Fault Refusal :=
  .next (hostWr (HAL_STR_CTL y c) (strStop y c v) s)

/-- STR_BLOCK_AVAILABLE. -/
def execStrBlockAvailable (y c : Nat) (s : State) : Host.Outcome State Fault Refusal := .next (strBlockAvailable y c s)

/-- STREAM_BLOCK_ADDRESS. -/
def execStreamBlockAddress (y t : Nat) (s : State) : Host.Outcome State Fault Refusal := .next (streamBlock y t s)

/-- MARKER_EDGE. -/
def execMarkerEdge (pin : Nat) (s : State) : Host.Outcome State Fault Refusal := .next (markerEdge pin s)

/-- MARKER_RUN_EXIT_LOW. -/
def execMarkerRunExitLow (pin : Nat) (s : State) : Host.Outcome State Fault Refusal := .next (markerExitLow pin s)

/-- PLAY_END. -/
def execPlayEnd (y t : Nat) (s : State) : Host.Outcome State Fault Refusal := .next (playEnd y t s)

end Sys2Proof.Machine
end

