-- ==== Sys2Proof/Machine/Tone.lean ====
section
/-! DEFINITION. Tone synthesis, frames, shadow registers and hand-over (chapter 6). -/

namespace Sys2Proof.Machine

/-! ### Frames and the NCO (R189 to R199) -/

/-- The frequency word in force, as a 40-bit number. -/
def State.toneF (s : State) (y t : Nat) : Nat := s.fld (TON_FRAME_F y t) TON_FRAME_F_F

/-- The frequency history of a tone, newest first (R189). -/
def State.nco (s : State) (y t : Nat) : List FSeg :=
  match tget s.ton.ncos (16 * y + t) with
  | [] => [⟨0, 0, s.toneF y t⟩]
  | l => l

/-- ACC at a TB1 value `x` by a frequency history, in 2⁻⁴⁰ turns (R189). -/
def accBy (l : List FSeg) (x : Nat) : Nat :=
  match l.find? fun g => decide (g.at_ ≤ x) with
  | some g => (g.acc + g.f * (x - g.at_)) % 2 ^ 40
  | none => 0

/-- ACC of a tone at TB1 value `x` (R189). -/
def State.accAt (s : State) (y t x : Nat) : Nat := accBy (s.nco y t) x

/-- The word of a tone changes at TB1 value `x`; its phase is continuous (R191). While TB1 is stopped ACC is 0 (R189). -/
def State.setToneF (s : State) (y t x f : Nat) : State :=
  let l : List FSeg := if s.tb1Run then (⟨x, s.accAt y t x, f % 2 ^ 40⟩ :: (s.nco y t).filter fun g => decide (g.at_ < x)).take 64 else []
  ({ s with ton := { s.ton with ncos := tput s.ton.ncos (16 * y + t) l } }).wrN (TON_FRAME_F y t) (f % 2 ^ 40)

/-- TB1 stops or reads 0: every ACC is 0 (R189), and no hand-over of the time before governs a sample to come. -/
def ncoClear (s : State) : State := { s with ton := { s.ton with ncos := [], last := [] } }

/-- A FRAME operation released at `r` (Table 6-2, R193, R194). -/
def frameOp (y t fop v r : Nat) (s : State) : State :=
  match fop with
  | 0 => s.wrN (TON_FRAME_P y t) ((s.rdN (TON_FRAME_P y t) + v) % 2 ^ 32)
  | 1 => s.wrN (TON_FRAME_P y t) (v % 2 ^ 32)
  | 2 => s.setToneF y t r (s.toneF y t + v)
  | 3 => s.setToneF y t r v
  | 4 => (s.setToneF y t r (s.rdN (TON_FREQ0 y t))).wrN (TON_FRAME_P y t) (s.rdN (TON_PHASE0 y t))
  | _ => s

/-- ARM's release: every tone takes its base frame, every drive tone a clear Pauli frame (R195). -/
def armFrames (y : Nat) (s : State) : State :=
  forEach (List.range 16) s fun t s =>
    let s := frameOp y t 4 0 s.tb1 s
    if t < 8 then s.wrN (TON_PF y t) 0 else s

/-- The Pauli frame bits of a tone. -/
def State.fx (s : State) (y t : Nat) : Bool := s.flag (TON_PF y t) TON_PF_FX
def State.fz (s : State) (y t : Nat) : Bool := s.flag (TON_PF y t) TON_PF_FZ

/-- The Pauli bits of a tone take a correction. -/
def State.xorPf (s : State) (y t : Nat) (x z : Bool) : State :=
  (s.setF (TON_PF y t) TON_PF_FX (b01 (s.fx y t != x))).setF (TON_PF y t) TON_PF_FZ (b01 (s.fz y t != z))

/-- A correction is applied (R196), or rejected when it names a probe tone or a disabled tone (R197). -/
def applyCorr (y t : Nat) (x z : Bool) (s : State) : State :=
  if t < 8 ∧ s.tgtEn y t then
    let n := s.clock.tb1 / ft
    let s := s.xorPf y t x z
    { s with ton := { s.ton with pf := ⟨n, y, t, x, z⟩ :: s.ton.pf.filter fun c => c.at_ == n } }
  else (s.setF (TON_STS y) TON_STS_PF_REJ 1).inc DEC_PF_REJ_CNT

/-- The correction of a yard whose release time has come, among the items it holds. -/
def State.corrDue (s : State) (y : Nat) : Option Item :=
  s.bus.held.find? fun i => match i.act with | .corr z _ _ _ _ => z == y && s.due i.rel | _ => false

/-- PF_CORRECTION: the correction whose release time has come is applied. -/
def pfCorrection (y : Nat) (s : State) : State :=
  match s.corrDue y with
  | some i =>
    match i.act with
    | .corr _ t x z _ => applyCorr y t x z { s with bus := { s.bus with held := s.bus.held.erase i } }
    | _ => s
  | none => s

/-- Of what takes effect on TON_PF in one ft, writes come first and corrections after them (R198): a value written after some have been
applied takes them. -/
def rePf (y t : Nat) (s : State) : State :=
  forEach (s.ton.pf.filter fun c => c.y == y && c.t == t && s.tb1Run && c.at_ == s.clock.tb1 / ft) s fun c s => s.xorPf y t c.x c.z

/-- A write of TON_FREQ0, TON_PHASE0 or TON_PF that is stored: probe tones have no Pauli bits. -/
def tonStore (a v : Nat) (s : State) : State :=
  let off := (a - 0x1000000) % 0x40000
  let t := (off - 0x2000) / 0x40
  if (off - 0x2000) % 0x40 = 0x1C then (if t < 8 then rePf ((a - 0x1000000) / 0x40000) t (s.wrN a (v % 4)) else s.wrN a 0)
  else if (off - 0x2000) % 0x40 = 0 then s.wrN a (v % 2 ^ 40)
  else s.wrN a (v % 2 ^ 32)

/-- A host write of those registers is accepted only while the yard's group is IDLE (R199). -/
def tonHostWrite (y a v : Nat) (s : State) : State :=
  if s.yIdle y then tonStore a v s else s.inc (TON_WDROP_CNT y)

/-! ### Routing and outputs (R60, R200 to R204) -/

/-- The output of a tone: kind (0 TXD, 1 TXP) and index, by its route or by default (Table 1-2). -/
def State.route (s : State) (y t : Nat) : Nat × Nat :=
  let r := tget s.img.routes (16 * y + t)
  if r.named then (r.out, r.index) else if t < 8 then (0, y) else (1, y / 2)

/-- The TXP registers of an odd yard's page read 0, and a write to them is discarded and counted (R202). -/
def txpOdd (y a : Nat) : Bool := y % 2 == 1 && [TON_TXP_CFG y, TON_TXP_FS y, TON_TXP_CLIP_CNT y].contains a

/-- A write of an output level takes effect on the write (R204). -/
def fsWrite (y a v : Nat) (s : State) : State :=
  if txpOdd y a then s.inc (TON_WDROP_CNT y) else s.wrN a (v % 16)

/-! ### Shadow registers (R205 to R212) -/

/-- Set states (Table 6-6). -/
def shCLEAN : Nat := 0
def shOPEN : Nat := 1
def shSEALED : Nat := 2

/-- The class of a SHD register by its offset in the yard page. -/
def shdClass (off : Nat) : Nat :=
  if off < 0x2800 then 0 else if off < 0x3000 then 1 else if off < 0x4200 then 2 else 3

/-- Is there a SHD register at a BAR0 address? -/
def isShd (a : Nat) : Bool := match regRow a with | some r => r.shd != 0 | none => false

/-- The SHD registers of a class in yard `y` (R205). -/
def shdRegs (y cls : Nat) : List Nat :=
  match cls with
  | 0 => TON_TXD_CFG y :: TON_TXP_CFG y :: (List.range 16).map (TON_GAIN y)
  | 1 =>
    BIA_CFG y :: (List.range 4).flatMap fun f =>
      FLX_CFG y f :: FLX_GAIN y f ::
        ((List.range 4).map (FLX_IIR_K y f) ++ (List.range 4).map (FLX_IIR_L y f) ++ (List.range 16).map (FLX_FIR y f))
  | 2 => (List.range 8).flatMap fun c => [DEM_FREQ y c, DEM_PHASE y c, DEM_DLY y c, DEM_KSEL y c, DEM_KCFG y c]
  | _ =>
    (List.range 8).flatMap fun c =>
      DSC_ECFG y c :: DSC_QTHR y c ::
        ((List.range 3).flatMap (fun i => [DSC_A y c i, DSC_B y c i, DSC_C y c i, DSC_ETHR y c i])
          ++ (List.range 32).map fun n => DSC_CPF y c (n + 1))

/-- The RSVD_ENC and RANGE codes of a class (R211). -/
def shdRsvd (cls : Nat) : Nat := if cls ≤ 1 then E_TON_RSVD_ENC else if cls = 2 then E_DEM_RSVD_ENC else E_DSC_RSVD_ENC
def shdRange (cls : Nat) : Nat := if cls ≤ 1 then E_TON_RANGE else if cls = 2 then E_DEM_RANGE else E_DSC_RANGE

/-- Reserved encodings and ranges of the SHD registers (Tables 6-9, 7-7, 9-8, 10-6): 0 when the value is allowed, 1 a
reserved encoding, 2 out of range. -/
def shdField (y a v : Nat) : Nat :=
  let off := a - (0x1000000 + 0x40000 * y)
  if off = 0x1830 ∨ off = 0x1840 then (if bits v 5 4 = 3 then 1 else if 5 < bits v 2 0 then 2 else 0)
  else if off = 0x2D04 then (if bits v 31 16 = 0 then 2 else 0)
  else if 0x2800 ≤ off ∧ off < 0x2C00 ∧ off % 0x100 = 0 then
    (if bits v 5 4 = 3 then 1 else if bits v 10 8 = 0 ∨ 4 < bits v 10 8 then 2 else 0)
  else if 0x3200 ≤ off ∧ off < 0x4200 ∧ off % 0x200 = 0x1C then (if 24 < bits v 4 0 then 2 else 0)
  else if 0x4400 ≤ off ∧ off < 0x4C00 ∧ off % 0x100 = 4 then
    (if bits v 13 8 = 0 ∨ 32 < bits v 13 8 ∨ bits v 5 0 = 0 ∨ 32 < bits v 5 0 ∨ bits v 13 8 < bits v 5 0 then 2 else 0)
  else 0

/-- The check of a shadow write (R211): reserved bits, then reserved encodings, then ranges; 0 when it passes. -/
def shdCheck (y a v : Nat) : Nat :=
  let cls := shdClass (a - (0x1000000 + 0x40000 * y))
  let rw := match regRow a with | some r => r.rw | none => 0
  if (BitVec.ofNat 64 v &&& ~~~(BitVec.ofNat 64 rw)) ≠ 0 then shdRsvd cls
  else if shdField y a v = 1 then shdRsvd cls
  else if shdField y a v = 2 then shdRange cls
  else 0

/-- The state of a set. -/
def State.shSt (s : State) (y cls : Nat) : Nat := s.fld (TON_SHD_STS y) (2 * cls, 2)

/-- Setting it; SEAL reads 1 while SEALED. -/
def State.setShSt (s : State) (y cls st : Nat) : State :=
  (s.setF (TON_SHD_STS y) (2 * cls, 2) st).setF (TON_SHD_CTL y) (cls, 1) (b01 (st == shSEALED))

/-- SEAL_EN of a class. -/
def State.sealEn (s : State) (y cls : Nat) : Bool := s.flag (TON_SHD_CTL y) (4 + cls, 1)

/-- The last hand-over of a class. -/
def State.hoLast (s : State) (y cls : Nat) : HoLast := tget s.ton.last (4 * y + cls)

/-- Did a hand-over of the class take place in the present ft? -/
def State.hoNow (s : State) (y cls : Nat) : Bool :=
  (s.hoLast y cls).tick1 == s.clock.tb1 / ft * ft + 1 && s.tb1Run

/-- A shadow write that passes R211: discarded for a SEALED set (R210), otherwise it updates the shadow copy and opens the
set; in the ft of a hand-over that made the class active it is late (R206). -/
def shadowStore (y a v : Nat) (s : State) : State :=
  let cls := shdClass (a - (0x1000000 + 0x40000 * y))
  if s.shSt y cls = shSEALED then (s.inc (TON_SHD_REJ_CNT y)).setF (TON_STS y) TON_STS_SHD_REJ 1
  else
    let s := if s.hoNow y cls && (s.hoLast y cls).made then s.inc (TON_SHADOW_LATE y) else s
    (s.wrN a v).setShSt y cls shOPEN

/-- A host write of a SHD register. -/
def shadowHost (y a v : Nat) (s : State) : State :=
  if txpOdd y a then s.inc (TON_WDROP_CNT y)
  else if shdCheck y a v ≠ 0 then s.inc (TON_WDROP_CNT y)
  else shadowStore y a v s

/-- One class of a TON_SHD_CTL write (Table 6-6, R208). -/
def sealWrite (y cls : Nat) (one : Bool) (s : State) : State :=
  let st := s.shSt y cls
  if one then
    let s := if s.hoNow y cls && (s.hoLast y cls).wasOpen then s.inc (TON_SHADOW_LATE y) else s
    if st = shOPEN then s.setShSt y cls shSEALED else s
  else if st = shSEALED then s.setShSt y cls shOPEN else s

/-- TON_SHD_CTL: SEAL per class by Table 6-6, and SEAL_EN. -/
def shdCtlWrite (y v : Nat) (s : State) : State :=
  let s := forEach (List.range 4) s fun c s => sealWrite y c (bit v c) s
  s.setF (TON_SHD_CTL y) TON_SHD_CTL_SEAL_EN (bits v 7 4)

/-- Every shadow copy of a class becomes active. -/
def makeActive (y cls : Nat) (s : State) : State := forEach (shdRegs y cls) s fun a s => s.actWr a (s.rd a)

/-- One class of a hand-over (Table 6-6, R209). The hand-overs of a tick stand at the start of its ft (`tick`), so what it finds is the set
as it stood then (R206, R208). -/
def handClass (y cls : Nat) (s : State) : State :=
  let st := s.shSt y cls
  let note (made : Bool) (s : State) : State :=
    { s with ton := { s.ton with last := tput s.ton.last (4 * y + cls) (⟨s.clock.tb1 / ft * ft + 1, made, st == shOPEN⟩ : HoLast) } }
  if st = shCLEAN then note false s
  else if st = shOPEN ∧ s.sealEn y cls then
    let s := (s.inc (TON_HO_SKIP_CNT y)).setF (TON_STS y) TON_STS_HO_SKIP 1
    note false (s.setF (TON_HO_STS y) (cls, 1) 1)
  else note true ((makeActive y cls s).setShSt y cls shCLEAN)

/-- The classes of a mask that no hand-over of the present tick has handed over: those of one tick form one hand-over (R205). -/
def State.handNew (s : State) (y mask : Nat) : List Nat := (List.range 4).filter fun c => bit mask c && !s.hoNow y c

/-- A hand-over of the classes in a mask; SKIPPED shows the classes skipped at the last hand-over. -/
def handBase (y mask : Nat) (s : State) : State :=
  let cs := s.handNew y mask
  let s := if (List.range 4).any (s.hoNow y) then s else s.setF (TON_HO_STS y) TON_HO_STS_SKIPPED 0
  forEach cs s fun c s => handClass y c s

/-- The hand-over requests of a yard whose tick has come. -/
def State.hoDue (s : State) (y : Nat) : List HoReq := s.ton.hos.filter fun h => h.y == y && s.due h.h

/-- The classes they name together (R205). -/
def hoMask (hs : List HoReq) : Nat := hs.foldl (fun m h => m ||| h.mask) 0

/-- They are used up; PENDING clears when the host command was among them. -/
def State.hoDone (s : State) (y : Nat) : State :=
  let hs := s.hoDue y
  let s := if hs.any (·.host) then s.setF (TON_HO_STS y) TON_HO_STS_PENDING 0 else s
  { s with ton := { s.ton with hos := s.ton.hos.filter fun h => !hs.contains h } }

/-- TON_HO_CMD (R213, R214, R665) with the lead of its sender in ft: refused while TB1 does not run, while one is pending, or below the
lead. -/
def hoCmdLead (y mask leadFt : Nat) (s : State) : State :=
  let m := mask % 16
  let rel := s.rdN (TON_HO_REL y)
  let lead := ceilFt (s.tb1 + leadFt * ft)
  if m = 0 then s
  else if ¬ s.tb1Run then s.status (TON_HO_STS y) E_GLB_TB1_STOPPED
  else if s.flag (TON_HO_STS y) TON_HO_STS_PENDING then s.status (TON_HO_STS y) E_TON_HO_BUSY
  else if rel ≠ 0 ∧ rel < s.tb1 + leadFt * ft then s.status (TON_HO_STS y) E_GLB_LEAD_SHORT
  else
    let h := if rel = 0 then lead else ceilFt rel
    let s := { s with ton := { s.ton with hos := s.ton.hos ++ [HoReq.mk y h m true] } }
    (s.setF (TON_HO_STS y) TON_HO_STS_PENDING 1).status (TON_HO_STS y) 0

/-- TON_HO_CMD of host software. -/
def hoCmd (y mask : Nat) (s : State) : State := hoCmdLead y mask 160 s

/-- Entry into SAFE discards a pending host hand-over (R214). -/
def hoDiscard (y : Nat) (s : State) : State :=
  if s.flag (TON_HO_STS y) TON_HO_STS_PENDING then
    let s := { s with ton := { s.ton with hos := s.ton.hos.filter fun h => !(h.y == y && h.host) } }
    (s.setF (TON_HO_STS y) TON_HO_STS_PENDING 0).status (TON_HO_STS y) E_TON_HO_DISCARDED
  else s

/-! ### Active values by pin time (R207, R303, R328) -/

/-- The value of a SHD register that governs pin time `p` of yard `y`: hand-overs of the class whose tick lies
less than 16 ft before `p` do not govern yet. -/
def actBack (y cls a p : Nat) : List ActHist → Word → Word
  | [], v => v
  | h :: hs, v =>
    if h.y = y ∧ h.cls = cls then (if p < h.h + 16 * ft then actBack y cls a p hs (sget resetVal h.old a) else v)
    else actBack y cls a p hs v

/-- The same, from the active copy of now. -/
def State.actAt (s : State) (y cls a p : Nat) : Word := actBack y cls a p s.cnv.hist (s.actRd a)

/-- A field of it. -/
def State.actAtF (s : State) (y cls a p : Nat) (f : Fld) : Nat := getF (s.actAt y cls a p) f

/-! ### Sample path (R186 to R190, R201): what a tone does with one envelope sample -/

/-- A product truncated to the given number of fraction bits (R10). -/
def mulTrunc (frac : Nat) (a b : Int) : Int := (a * b) >>> frac

/-- Stage 1 before saturation (R186): envelope, AMP (s1.15), GAIN (u1.15) and the frame rotation. -/
def stage1Raw (e : Int × Int) (amp gain th : Nat) : Int × Int :=
  let f (x : Int) : Int := mulTrunc 15 (mulTrunc 15 x (sgn 16 amp)) (gain : Int)
  let (c, n) := fxCosSin th (2 ^ 32)
  let i := f e.1
  let q := f e.2
  (mulTrunc 96 i c - mulTrunc 96 q n, mulTrunc 96 i n + mulTrunc 96 q c)

/-- Stage 1 of a tone: saturation (R186), then the Pauli bits of a drive tone (R187). -/
def stage1 (e : Int × Int) (amp gain th : Nat) (fx fz : Bool) : Int × Int :=
  let b := stage1Raw e amp gain th
  let b := (sat 24 b.1, sat 24 b.2)
  let b := if fx then (b.1, sat 24 (-b.2)) else b
  if fz then (sat 24 (-b.1), sat 24 (-b.2)) else b

/-- Did stage 1 saturate? -/
def stage1Sat (e : Int × Int) (amp gain th : Nat) : Bool :=
  let b := stage1Raw e amp gain th
  sat 24 b.1 != b.1 || sat 24 b.2 != b.2

/-- The sum of s1.17 tone outputs shifted right by OUT_SHIFT, in units of the 14-bit code (R201). -/
def summerRaw (xs : List Int) (shift : Nat) : Int := (xs.foldl (· + ·) 0) >>> (shift + 4)

/-- The summer (R201): the shifted sum saturated to 14 bits. -/
def summer (xs : List Int) (shift : Nat) : Int :=
  let v := summerRaw xs shift
  if v < -8191 then -8191 else if 8191 < v then 8191 else v

/-- Did it saturate? -/
def summerSat (xs : List Int) (shift : Nat) : Bool := summer xs shift != summerRaw xs shift

/-- Is a tone ACTIVE at a release-equivalent time (Table 6-5, R162)? -/
def State.toneLive (s : State) (y t x : Nat) : Bool :=
  s.tgtEn y t && match (s.tgt y t).play with | some p => decide (p.r ≤ x) && !s.starvedTgt y t | none => false

/-- The amplitude of the play on a target. -/
def State.tgtAmp (s : State) (y t : Nat) : Nat := match (s.tgt y t).play with | some p => p.amp | none => 0

/-- The last stage 1 samples of a tone, newest first. -/
def State.toneEnv (s : State) (y t : Nat) : List (Int × Int) := tget s.ton.env (16 * y + t)

/-- A sample joins the last 15 of a tone; none are kept while all are zero. -/
def pushEnv (b : Int × Int) (l : List (Int × Int)) : List (Int × Int) :=
  let l := (b :: l).take 15
  if l.all (· == (0, 0)) then [] else l

/-- One ft of stage 1 of a tone (R186, R187): the sample of a live tone, zero for any other; a saturated one is counted. -/
def toneTick (y t : Nat) (s : State) : State :=
  let e := s.envelope y t s.clock.tb1
  let gain := s.actF (TON_GAIN y t) TON_GAIN_GAIN
  let th := s.rdN (TON_FRAME_P y t)
  let b := if s.toneLive y t s.clock.tb1 then stage1 e (s.tgtAmp y t) gain th (s.fx y t) (s.fz y t) else (0, 0)
  let l := pushEnv b (s.toneEnv y t)
  let s : State := { s with ton := { s.ton with env := tput s.ton.env (16 * y + t) l } }
  if s.toneLive y t s.clock.tb1 && stage1Sat e (s.tgtAmp y t) gain th then
    (s.inc (TON_SAT_CNT y t)).setF (TON_STS y) TON_STS_SAT 1
  else s

/-- The tones of a yard that are live or have samples in the interpolator. -/
def State.toneOn (s : State) (y t : Nat) : Bool := s.toneLive y t s.tb1 || !(s.toneEnv y t).isEmpty

/-- The delay of the interpolator in st (Table 6-1). -/
def interpDelay : Nat := 7 * ft

/-- Coefficient `n` of the ×16 interpolator in 2⁻³⁰ (R188): 225 coefficients about the middle one, which is 7 ft late; symmetric, since the
phase is linear; their sum is 16, since the gain at 0 Hz is 1 for an input of one sample in 16. -/
def interpCoef (n : Nat) : Int :=
  if n < interpDelay then Config.interp n
  else if n = interpDelay then 16 * 2 ^ 30 - 2 * ((List.range interpDelay).map Config.interp).sum
  else if n ≤ 2 * interpDelay then Config.interp (2 * interpDelay - n)
  else 0

/-- The interpolated envelope at the st `p` after the newest sample, less the delay of 7 ft (R188), in 2⁻⁵³. -/
def interpolate : List (Int × Int) → Nat → Int × Int
  | [], _ => (0, 0)
  | b :: l, p =>
    let r := interpolate l (p + 16)
    (b.1 * interpCoef p + r.1, b.2 * interpCoef p + r.2)

/-- Stage 3 of a tone (R190): the real part of the interpolated envelope turned by the NCO phase `acc`, in s1.17; a product outside that
format is not told. -/
def stage3 (b : Int × Int) (acc : Nat) : Int :=
  let r := fxCosSin (acc / 2 ^ 20) (2 ^ 20)
  let v := (b.1 * r.1 - b.2 * r.2) >>> 132
  if -(2 ^ 17) ≤ v ∧ v < 2 ^ 17 then v else sgn 18 (Config.beyond18 v).toNat

/-- Where an st stands in its ft: on the grid of TB1 while it runs, else on that of the time since BOOT (R665, log entry 93). -/
def State.phase (s : State) : Nat := (if s.tb1Run then s.clock.tb1 else s.clock.now) % ft

/-- The stage 3 sample that a tone delivers in this st; its release-equivalent time lies 7 ft back (Table 6-1). -/
def State.toneOut (s : State) (y t : Nat) : Int := stage3 (interpolate (s.toneEnv y t) s.phase) (s.accAt y t (s.tb1 - interpDelay))

/-- The yard page that configures an output (R202): its own, or that of the even yard of the pair. -/
def outYard (kind i : Nat) : Nat := if kind = 0 then i else 2 * i

/-- A new code of an output sets out for the pin, which it reaches at a time (`now`); a code already on its way is no change. -/
def feed (out : Nat) (code : Int) (pin : Nat) (s : State) : State :=
  if tget s.ton.fed out = code then s
  else { s with ton := { s.ton with fed := tput s.ton.fed out code, line := s.ton.line ++ [(pin, out, code)] } }

/-- One sample of an output, of the tones routed to it (R201): the sum, shifted and saturated; a saturated one is counted, muted or
not. The configuration is that of the sample's release-equivalent time (R207), and the pin comes 16 ft after it (R185). -/
def outTick (kind i : Nat) (ts : List (Nat × Nat)) (s : State) : State :=
  let xs := ts.map fun u => s.toneOut u.1 u.2
  let y := outYard kind i
  let cfg := s.actAt y 0 (if kind = 0 then TON_TXD_CFG y else TON_TXP_CFG y) (s.tb1 - interpDelay + 16 * ft)
  let sh := getF cfg TON_TXD_CFG_OUT_SHIFT
  let s := feed (64 * kind + i) (if getF cfg TON_TXD_CFG_MUTE = 1 then 0 else summer xs sh) (s.clock.now + 16 * ft - interpDelay) s
  if summerSat xs sh then (s.inc (if kind = 0 then TON_TXD_CLIP_CNT y else TON_TXP_CLIP_CNT y)).setF (TON_STS y) TON_STS_CLIP 1 else s

/-- The tones of the part that are live or have samples in the interpolator, as (yard, tone). -/
def State.liveTones (s : State) : List (Nat × Nat) :=
  allYards.flatMap fun y => ((List.range 16).filter (s.toneOn y)).map fun t => (y, t)

/-- Is a tone gated by Reef (R570): at LEVEL 5 or above, when it is disabled or the group of its yard is IDLE or PAUSED? It contributes
zero, and its ACC counts on. -/
def State.reefGated (s : State) (y t : Nat) : Bool :=
  let g := s.gst (s.groupOf y)
  decide (5 ≤ s.fld REEF_STS REEF_STS_LEVEL) && (!s.tgtEn y t || g == gIDLE || g == gPAUSED)

/-- One st of the RF outputs: an output without such a tone is at zero code (R32, R162). -/
def rfTick (s : State) : State :=
  let ts := s.liveTones.filter fun u => !s.reefGated u.1 u.2
  forEach [0, 1] s fun kind s => forEach (List.range (if kind = 0 then 64 else 32)) s fun i s =>
    let us := ts.filter fun u => s.route u.1 u.2 == (kind, i)
    if us.isEmpty then feed (64 * kind + i) 0 (s.clock.now + 16 * ft - interpDelay) s else outTick kind i us s

/-- Codes whose time has come stand at their pins. -/
def pinTick (s : State) : State :=
  let due := s.ton.line.filter fun c => decide (c.1 ≤ s.clock.now)
  if due.isEmpty then s
  else
    { s with ton := { s.ton with line := s.ton.line.filter fun c => decide (s.clock.now < c.1), dac := due.foldl (fun d c => tput d c.2.1 c.2.2) s.ton.dac } }

/-- The code at the pin of an RF output (Tables 6-4, 18-2): zero outside READY and RUN and while the converter is out of service. -/
def State.rfPin (s : State) (kind i : Nat) : Int :=
  if (s.dev ≠ dREADY ∧ s.dev ≠ dRUN) ∨ s.trimBad (64 * kind + i) then 0 else tget s.ton.dac (64 * kind + i)

/-- The samples of a yard's tones in the interpolator are lost: the reset of its island (Table 1-6). -/
def envClear (y : Nat) (s : State) : State :=
  forEach (List.range 16) s fun t s => { s with ton := { s.ton with env := tput s.ton.env (16 * y + t) [] } }

/-! ### The commands -/

/-- PF_CORRECTION. -/
def execPfCorrection (y : Nat) (s : State) : Host.Outcome State Fault Refusal := .next (pfCorrection y s)

/-- SHADOW_WRITE: a host write of the SHD register at offset `off` of the page of yard `y`. -/
def execShadowWrite (y off v : Nat) (s : State) : Host.Outcome State Fault Refusal :=
  let a := 0x1000000 + 0x40000 * y + off
  .next (hostWr a (fun s => if isShd a then shadowHost y a v s else s) s)

/-- TON_SHD_CTL_WRITE. -/
def execTonShdCtlWrite (y v : Nat) (s : State) : Host.Outcome State Fault Refusal :=
  .next (hostWr (TON_SHD_CTL y) (shdCtlWrite y v) s)

/-- TON_HO_CMD. -/
def execTonHoCmd (y mask : Nat) (s : State) : Host.Outcome State Fault Refusal :=
  .next (hostWr (TON_HO_CMD y) (hoCmd y mask) s)

end Sys2Proof.Machine
end

