-- ==== Sys2Proof/Machine/Flux.lean ====
section
/-! DEFINITION. Flux outputs and bias current sources (chapter 7). -/

namespace Sys2Proof.Machine

/-! ### Flux path (R215 to R229) -/

/-- The filters of a flux output. -/
def State.fluxF (s : State) (y f : Nat) : FluxF := tget s.ton.flux (4 * y + f)

/-- Changing them. -/
def State.setFluxF (s : State) (y f : Nat) (x : FluxF) : State :=
  { s with ton := { s.ton with flux := tput s.ton.flux (4 * y + f) x } }

/-- Is the output ON (Table 7-3)? -/
def State.fluxOn (s : State) (y f : Nat) : Bool := bit (s.comp y).misc f && (s.dev == dREADY || s.dev == dRUN)

/-- Stage 1 (R215, R216): the I component with AMP and GAIN. -/
def fluxStage1 (i : Int) (amp gain : Nat) : Int := mulTrunc 15 (mulTrunc 15 i (sgn 16 amp)) (gain : Int)

/-- One IIR section (R219): the new state at s1.31 and the output before saturation, for an input at s1.23. -/
def iirStep (k l : Nat) (z x : Int) : Int × Int :=
  let x31 := x * 256
  let z' := z + mulTrunc 24 (l : Int) (x31 - z)
  (z', x + (mulTrunc 22 (sgn 24 k) (x31 - z')) >>> 8)

/-- The four sections in order (R220): a section that is off passes its input on and keeps updating its state. -/
def iirChain (en : Nat) : Nat → List (Nat × Nat) → List Int → Int → List Int × Int × Nat
  | i, (k, l) :: cs, z :: zs, x =>
    let (z', y) := iirStep k l z x
    let ys := sat 24 y
    let out := if bit en i then ys else x
    let (zs', o, n) := iirChain en (i + 1) cs zs out
    (z' :: zs', o, n + b01 (bit en i && ys != y))
  | _, _, _, x => ([], x, 0)

/-- The FIR sum (R221) before saturation: taps s2.16 over the delay line, newest sample first. -/
def firSum (cs : List Nat) (xs : List Int) : Int :=
  ((cs.zip xs).foldl (fun a p => a + sgn 18 p.1 * p.2) 0) >>> 16

/-- The DAC code of a sample (R223); that of an interpolated sample outside s1.23 is not told. -/
def fluxCode (u : Int) : Int :=
  let c := u >>> 8
  if -32768 ≤ c ∧ c ≤ 32767 then c else sgn 16 (Config.beyond16 u).toNat

/-- The delay of the interpolator in ft that the model lets it look ahead, within the 4 ft of stage 4 (Table 7-1). -/
def fluxAhead : Nat := 4

/-- The interpolated sample half an ft after sample `xs[4]`, from its eight neighbours, newest first (R222): a symmetric sum. -/
def fluxOdd (xs : List Int) : Int :=
  ((List.range 4).map fun j => Config.fluxInterp j * (xs.getD (4 + j) 0 + xs.getD (3 - j) 0)).sum >>> 30

/-- A transition is major when bits [15:10] of the two codes in offset binary differ (R224). -/
def majorStep (a b : Int) : Bool := unsgn 16 (a + 32768) / 1024 != unsgn 16 (b + 32768) / 1024

/-- Stages 1 to 3 of one ft for an input sample (R216 to R221): the filters' new state, the sample for the interpolator, and how many
samples saturated (R217). -/
def State.fluxFilter (s : State) (y f : Nat) (i : Int) (amp : Nat) : FluxF × Nat :=
  let cfg := s.actRd (FLX_CFG y f)
  let x0 := fluxStage1 i amp (s.actF (FLX_GAIN y f) FLX_GAIN_GAIN)
  let x := sat 24 x0
  let w := s.fluxF y f
  let zs := (List.range 4).map fun i => w.z.getD i 0
  let cs := (List.range 4).map fun i => ((s.actRd (FLX_IIR_K y f i)).toNat, (s.actRd (FLX_IIR_L y f i)).toNat)
  let (zs', v, n1) := iirChain (getF cfg FLX_CFG_IIR_EN) 0 cs zs x
  let dl := (v :: w.dl).take 16
  let taps := (List.range 16).map fun j => (s.actRd (FLX_FIR y f j)).toNat
  let u0 := firSum taps dl
  let fir : Bool := getF cfg FLX_CFG_FIR_EN == 1
  let u := if fir then sat 24 u0 else v
  ({ w with z := zs', dl := dl, up := (u :: w.up).take 8 }, b01 (x != x0) + n1 + b01 (fir && u != u0))

/-- How long a sample is held (R225): DGL and HOLD that govern it, the code before it and its own. -/
def dglHold (cfg : Word) (a b : Int) : Nat :=
  if getF cfg FLX_CFG_DGL = 2 ∨ (getF cfg FLX_CFG_DGL = 1 ∧ majorStep a b) then getF cfg FLX_CFG_HOLD else 0

/-- The samples of the interpolator as those of release-equivalent time 4 ft ago see them: after the filters were cleared nothing older
is left (R229). -/
def State.fluxSeen (s : State) (w : FluxF) : List Int :=
  let now := s.clock.now
  if w.cut + fluxAhead * ft ≤ now then
    (List.range 8).map fun i => if now - ft * i < w.cut then 0 else w.up.getD i 0
  else w.up

/-- What one ft does in the flux path: the filters take a sample (R215), the even and the odd DAC sample of 4 ft ago set out for the pin,
16 ft after their release-equivalent time (R218, R222), each held as the deglitcher says (R225). -/
def fluxTick (y f : Nat) (s : State) : State :=
  if ¬ s.fluxOn y f ∧ (s.fluxF y f).up.all (· == 0) then s
  else
    let t := 16 + f
    let (w, n) := if s.fluxOn y f then s.fluxFilter y f (s.envelope y t s.clock.tb1).1 (s.tgtAmp y t)
      else ({ s.fluxF y f with z := [], dl := [], up := (0 :: (s.fluxF y f).up).take 8 }, 0)
    let xs := s.fluxSeen w
    let cfg := s.actAt y 1 (FLX_CFG y f) (s.tb1 + (16 - fluxAhead) * ft)
    let even := fluxCode (xs.getD fluxAhead 0)
    let odd := fluxCode (fluxOdd xs)
    let pin := s.clock.now + (16 - fluxAhead) * ft
    let out := 128 + 4 * y + f
    let held := if getF cfg FLX_CFG_DGL = 1 then b01 (majorStep w.code even) + b01 (majorStep even odd) else 0
    let s := s.setFluxF y f { w with code := odd }
    let s := feed out odd (pin + 8 + dglHold cfg even odd) (feed out even (pin + dglHold cfg w.code even) s)
    let s := (s.incBy (FLX_SAT_CNT y f) n).incBy (FLX_DGL_CNT y f) held
    if 0 < n then s.setF (FLX_STS y f) FLX_STS_SAT 1 else s

/-- The code at the pin of a flux output (R218, Table 18-2): zero while its converter is out of service. -/
def State.fluxPin (s : State) (y f : Nat) : Int :=
  if s.trimBad (0x60 + 4 * y + f) then 0 else tget s.ton.dac (128 + 4 * y + f)

/-- Filter states and delay line are cleared (R229, Table 7-3); what has passed them goes on to the pin. -/
def fluxClear (y : Nat) (s : State) : State :=
  forEach (List.range 4) s fun f s => s.setFluxF y f { s.fluxF y f with z := [], dl := [], cut := s.clock.now }

/-- FSTATE of the outputs of a yard follows the device state and the composition. -/
def fluxStates (y : Nat) (s : State) : State :=
  forEach (List.range 4) s fun f s => s.setF (FLX_STS y f) FLX_STS_FSTATE (b01 (s.fluxOn y f))

/-! ### Bias sources (R230 to R242) -/

/-- Is the source enabled by the image (R63)? -/
def State.biaEn (s : State) (y : Nat) : Bool := bit (s.comp y).misc 4

/-- The code in force and the code written, signed. -/
def State.biaAct (s : State) (y : Nat) : Int := sgn 20 (s.rdN (BIA_ACT y))
def State.biaCode (s : State) (y : Nat) : Int := sgn 20 (s.rdN (BIA_CODE y))

/-- The target of the slew: BIA_CODE in READY and RUN, 0 mA in SAFE, when latched, disabled, out of service under Trim, or before READY (R235, R242,
R63, Table 18-2). -/
def State.biaTarget (s : State) (y : Nat) : Int :=
  if ¬ s.biaEn y ∨ s.flag (BIA_STS y) BIA_STS_LATCHED ∨ s.trimBad (0x160 + y) then 0
  else if s.dev = dREADY ∨ s.dev = dRUN then s.biaCode y else 0

/-- BSTATE (Table 7-4) and SLEWING follow from the rest. -/
def biaRefresh (y : Nat) (s : State) : State :=
  let st := if ¬ s.biaEn y then 0
    else if s.flag (BIA_STS y) BIA_STS_LATCHED then 3
    else if s.dev = dBOOT ∨ s.dev = dCONFIG ∨ s.dev = dCAL ∨ s.trimBad (0x160 + y) then 1 else 2
  (s.setF (BIA_STS y) BIA_STS_BSTATE st).setF (BIA_STS y) BIA_STS_SLEWING (b01 (s.biaAct y != s.biaTarget y))

/-- A new target code takes effect (R231); a target that arrives during a slew replaces the old one (R232). -/
def biaCodeSet (y v : Nat) (s : State) : State := biaRefresh y (s.wrN (BIA_CODE y) (v % 2 ^ 20))

/-- A host write of BIA_CODE; in the ft of a BIAS instruction's release the BIAS value stands (R234). -/
def biaCodeHost (y v : Nat) (s : State) : State := if s.setrNow (BIA_CODE y) then s else biaCodeSet y v s

/-- One ft of the slew: STEP codes toward the target, the remainder in the last step (R232). -/
def slewStep (act tgt : Int) (step : Nat) : Int :=
  if act < tgt then min tgt (act + step) else max tgt (act - step)

/-- BIA_ACT takes a code: the pin follows 16 ft later (R233), and the time since which its magnitude is at least 50 µA is kept (R239). -/
def biaActSet (y : Nat) (i : Int) (s : State) : State :=
  let s := feed (384 + y) i (s.clock.now + 16 * ft) (s.wrN (BIA_ACT y) (unsgn 20 i))
  let since := if i.natAbs < 2622 then 0 else if tget s.ton.big y = 0 then s.clock.now + 1 else tget s.ton.big y
  { s with ton := { s.ton with big := tput s.ton.big y since } }

/-- The slew of a source in one ft. -/
def biaTick (y : Nat) (s : State) : State :=
  if s.biaAct y = s.biaTarget y then s
  else biaActSet y (slewStep (s.biaAct y) (s.biaTarget y) (s.actF (BIA_CFG y) BIA_CFG_STEP)) s

/-- BIAS_SLEW_END: BIA_ACT has reached its target and SLEWING clears (R232). -/
def biaSlewEnd (y : Nat) (s : State) : State :=
  if s.biaAct y = s.biaTarget y then s.setF (BIA_STS y) BIA_STS_SLEWING 0 else s

/-- Before READY the source delivers 0 mA and BIA_ACT reads 0 (R235). -/
def biaZero (y : Nat) (s : State) : State := biaRefresh y (biaActSet y 0 s)

/-- An entry into COMPLIANCE (1) or OPEN (2): reported, remembered, counted, and with FLT_ACT latched (R241, R242). -/
def biaEntry (y load : Nat) (s : State) : State :=
  if ¬ s.biaEn y ∨ s.fld (BIA_STS y) BIA_STS_LOAD = load then s
  else
    let s := s.setF (BIA_STS y) BIA_STS_LOAD load
    let s := s.setF (BIA_STS y) (if load = 1 then BIA_STS_COMPL_SEEN else BIA_STS_OPEN_SEEN) 1
    let s := (s.inc (BIA_EVT_CNT y)).report (if load = 1 then E_BIA_COMPLIANCE else E_BIA_OPEN) y y
    if s.actF (BIA_CFG y) BIA_CFG_FLT_ACT = 1 then biaRefresh y (s.setF (BIA_STS y) BIA_STS_LATCHED 1) else s

/-- BIAS_COMPLIANCE: 10 µs at or above 3.9 V (R238). -/
def biaCompliance (y : Nat) (s : State) : State := biaEntry y 1 s

/-- Has the code in force had a magnitude of at least 50 µA throughout the last 10 µs (R239)? -/
def State.biaLarge (s : State) (y : Nat) : Bool :=
  let n := tget s.ton.big y
  n != 0 && decide (n - 1 + 12500 * ft ≤ s.clock.now)

/-- BIAS_OPEN: the measured current too was below a quarter of the code current throughout the 10 µs; with OL_EN 0 or a code that was
small in them an open load shows as COMPLIANCE (R239). -/
def biaOpen (y : Nat) (s : State) : State :=
  if s.actF (BIA_CFG y) BIA_CFG_OL_EN = 1 ∧ s.biaLarge y then biaEntry y 2 s else biaEntry y 1 s

/-- BIAS_LOAD_NORMAL: the condition has been absent for 10 µs (R240). -/
def biaNormal (y : Nat) (s : State) : State := s.setF (BIA_STS y) BIA_STS_LOAD 0

/-- BIAS_LATCH_RELEASE: a 1 written to LATCHED releases a latched source, which slews to BIA_CODE (R242). -/
def biaRelease (y : Nat) (s : State) : State :=
  if s.flag (BIA_STS y) BIA_STS_LATCHED then biaRefresh y (s.setF (BIA_STS y) BIA_STS_LATCHED 0) else s

/-! ### The commands -/

/-- BIA_CODE_WRITE. -/
def execBiaCodeWrite (y v : Nat) (s : State) : Host.Outcome State Fault Refusal :=
  .next (hostWr (BIA_CODE y) (biaCodeHost y v) s)

/-- BIAS_COMPLIANCE. -/
def execBiasCompliance (y : Nat) (s : State) : Host.Outcome State Fault Refusal := .next (biaCompliance y s)

/-- BIAS_OPEN. -/
def execBiasOpen (y : Nat) (s : State) : Host.Outcome State Fault Refusal := .next (biaOpen y s)

/-- BIAS_LOAD_NORMAL. -/
def execBiasLoadNormal (y : Nat) (s : State) : Host.Outcome State Fault Refusal := .next (biaNormal y s)

/-- BIAS_LATCH_RELEASE. -/
def execBiasLatchRelease (y : Nat) (s : State) : Host.Outcome State Fault Refusal :=
  .next (hostWr (BIA_STS y) (biaRelease y) s)

/-- BIAS_SLEW_END. -/
def execBiasSlewEnd (y : Nat) (s : State) : Host.Outcome State Fault Refusal := .next (biaSlewEnd y s)

end Sys2Proof.Machine
end

