-- ==== Sys2Proof/Machine/Convert.lean ====
section
/-! DEFINITION. Readout and monitor converters (chapter 8): read-out ADCs, acquisition windows, monitor ADCs, converter
rings. -/

namespace Sys2Proof.Machine

/-! ### Rings (R282 to R288): ring `r` is read-out ADC r below 32 and monitor ADC r − 32 from there -/

/-- The register page of a converter. -/
def convPage (r : Nat) : Nat := if r < 32 then CNV_CFG (r / 8) (r % 8) else MON_CTL ((r - 32) / 4) ((r - 32) % 4)

def ringBASE (r : Nat) : Nat := convPage r + 0x100
def ringPAGES (r : Nat) : Nat := convPage r + 0x104
def ringWM (r : Nat) : Nat := convPage r + 0x108
def ringCTL (r : Nat) : Nat := convPage r + 0x10C
def ringSTS (r : Nat) : Nat := convPage r + 0x110
def ringWP (r : Nat) : Nat := convPage r + 0x118
def ringRP (r : Nat) : Nat := convPage r + 0x11C
def ringDROP (r : Nat) : Nat := convPage r + 0x120

/-- The counter of writes discarded or refused in the page. -/
def convWdrop (r : Nat) : Nat := if r < 32 then convPage r + 0x14 else convPage r + 0x2C

/-- Is a ring running (R283)? -/
def State.ringOn (s : State) (r : Nat) : Bool := s.flag (ringSTS r) CNV_RING_STS_RUNNING

/-- Its size in bytes. -/
def State.ringSize (s : State) (r : Nat) : Nat := 4096 * s.fld (ringPAGES r) CNV_RING_PAGES_PAGES

/-- The bytes it holds. -/
def State.ringHeld (s : State) (r : Nat) : Nat :=
  (s.rdN (ringWP r) + s.ringSize r - s.rdN (ringRP r)) % s.ringSize r

/-- The free space of R286. -/
def State.ringRoom (s : State) (r : Nat) : Nat :=
  (s.rdN (ringRP r) + 2 * s.ringSize r - s.rdN (ringWP r) - 16) % s.ringSize r

/-- RQ follows the contents (R287). -/
def ringRefresh (r : Nat) (s : State) : State :=
  s.setF (ringSTS r) CNV_RING_STS_REQ (b01 (decide (256 * s.fld (ringWM r) CNV_RING_WM_WM ≤ s.ringHeld r)))

/-- Bytes placed in a store from a write pointer on, wrapping past the end of a ring (R285). -/
def ringStore (base size : Nat) : Nat → List (BitVec 8) → Store → Store
  | _, [], m => m
  | wp, b :: bs, m => ringStore base size ((wp + 1) % size) bs (stByte m (base + wp) b)

/-- A record or entry goes to a ring whole, or is dropped whole (R285, R286). -/
def ringPut (r : Nat) (bs : List (BitVec 8)) (s : State) : State :=
  if ¬ s.ringOn r then s
  else if s.ringRoom r < bs.length then (s.inc (ringDROP r)).setF (ringSTS r) CNV_RING_STS_FULL 1
  else
    let wp := s.rdN (ringWP r)
    let base := 4096 * s.fld (ringBASE r) CNV_RING_BASE_PAGE
    let res := ringStore base (s.ringSize r) wp bs s.cnv.res
    let s := { s with cnv := { s.cnv with res := res } }
    ringRefresh r (s.wrN (ringWP r) ((wp + bs.length) % s.ringSize r))

/-- The first page or request line of a ring, as class and instance, that keeps them from having one owner (R283). -/
def State.ringBad (s : State) (r page pages rq : Nat) : Option (Nat × Nat) :=
  let all := ((List.range pages).map fun i => (7, page + i)) ++ [(5, rq)]
  if r < 32 then all.find? fun x => !s.partHas (s.partOf (2 * r)) x.1 x.2
  else
    match s.ownOf 7 page with
    | some o =>
      if o.okind = 4 then all.find? fun x => !(match s.ownOf x.1 x.2 with | some o => o.okind == 4 | none => false)
      else match s.partOfInst 7 page with
        | some p => all.find? fun x => !s.partHas p x.1 x.2
        | none => some (7, page)
    | none => some (7, page)

/-- The checks of a ring start (R283): 0 when they pass. -/
def State.ringCheck (s : State) (r rq : Nat) : Nat :=
  let page := s.fld (ringBASE r) CNV_RING_BASE_PAGE
  let pages := s.fld (ringPAGES r) CNV_RING_PAGES_PAGES
  let wm := s.fld (ringWM r) CNV_RING_WM_WM
  if pages = 0 then E_CNV_ZERO_LEN
  else if 8192 < page + pages then E_CNV_LEN_EXCEEDS
  else if wm = 0 then E_CNV_ZERO_LEN
  else if 4096 * pages ≤ 256 * wm then E_CNV_RANGE
  else if (s.ringBad r page pages rq).isNone then 0 else E_IMG_RES_BUSY

/-- RING_CTL.EN from 0 to 1. -/
def ringStart (r v : Nat) (s : State) : State :=
  let code := s.ringCheck r (v % 128)
  let bad := (s.ringBad r (s.fld (ringBASE r) CNV_RING_BASE_PAGE) (s.fld (ringPAGES r) CNV_RING_PAGES_PAGES) (v % 128)).getD (7, 0)
  let s := s.denyIf code bad.1 bad.2 (if r < 32 then 1 else 4) (if r < 32 then 2 * r else 0)
  let s := s.status (ringSTS r) code
  if code ≠ 0 then s
  else
    let s := ((s.wrN (ringWP r) 0).wrN (ringRP r) 0).wrN (ringCTL r) (2 ^ 31 + v % 128)
    ringRefresh r (s.setF (ringSTS r) CNV_RING_STS_RUNNING 1)

/-- RING_CTL.EN from 1 to 0: records are written whole, so none is in progress between commands (R288). -/
def ringStop (r v : Nat) (s : State) : State :=
  ((s.wrN (ringCTL r) (v % 128)).setF (ringSTS r) CNV_RING_STS_RUNNING 0).status (ringSTS r) 0

/-- A write of RING_CTL. -/
def ringCtlWrite (r v : Nat) (s : State) : State :=
  let en := s.flag (ringCTL r) CNV_RING_CTL_EN
  if bit v 31 ∧ ¬ en then ringStart r v s
  else if ¬ bit v 31 ∧ en then ringStop r v s
  else s.wrN (ringCTL r) (b01 en * 2 ^ 31 + v % 128)

/-- RING_BASE, RING_PAGES, RING_WM (R284). -/
def ringGeomWrite (r a v : Nat) (s : State) : State :=
  if s.flag (ringCTL r) CNV_RING_CTL_EN then (s.status (ringSTS r) E_CNV_RUNNING).inc (convWdrop r)
  else s.wrRW a v

/-- RING_RP (R285). -/
def ringRpWrite (r v : Nat) (s : State) : State :=
  let size := s.ringSize r
  if v % 16 ≠ 0 ∨ size ≤ v ∨ s.ringHeld r < (v + size - s.rdN (ringRP r)) % size then
    (s.status (ringSTS r) E_CNV_RANGE).inc (convWdrop r)
  else ringRefresh r (s.wrN (ringRP r) v)

/-- The DMA engine advances RP (R504). -/
def ringAdvance (r n : Nat) (s : State) : State :=
  ringRefresh r (s.wrN (ringRP r) ((s.rdN (ringRP r) + n) % s.ringSize r))

/-! ### Read-out ADCs (R245 to R253) -/

/-- ADC `k`. -/
def State.adc (s : State) (k : Nat) : Adc := tget s.cnv.adcs k

/-- Changing it. -/
def State.setAdc (s : State) (k : Nat) (a : Adc) : State := { s with cnv := { s.cnv with adcs := tput s.cnv.adcs k a } }

/-- The settings of ADC `k` as written. -/
def State.adcRegs (s : State) (k : Nat) : Word × Word × Word := (s.rd (convPage k), s.rd (convPage k + 8), s.rd (convPage k + 0xC))

/-- One of three. -/
def pick3 {α : Type} (sel : Nat) (x : α × α × α) : α := if sel = 0 then x.1 else if sel = 1 then x.2.1 else x.2.2

/-- CNV_CFG, CNV_CORR_A or CNV_CORR_B (`sel` 0 to 2) in force at a time (`now`) (R251); in CAL, Trim controls the input and the full
scale (R252). -/
def State.adcOn (s : State) (k sel t : Nat) : Word :=
  let v := match (s.adc k).hist.find? fun h => decide (h.1 ≤ t) with
    | some h => pick3 sel h.2
    | none => pick3 sel (s.adcRegs k)
  if s.dev = dCAL ∧ sel = 0 then
    insF (insF v CNV_CFG_FS (getF (Config.trimCnv k) CNV_CFG_FS)) CNV_CFG_INSEL (getF (Config.trimCnv k) CNV_CFG_INSEL)
  else v

/-- The same, now. -/
def State.adcNow (s : State) (k sel : Nat) : Word := s.adcOn k sel s.clock.now

/-- The time (`now`) of the first ft boundary after now (R35, R665). -/
def State.nextEdge (s : State) : Nat := s.clock.now + (ft - s.phase)

/-- The first `n` samples from a time on carry UNSETTLED; a change during settling restarts the count (R253). -/
def settleFrom (k from_ n : Nat) (s : State) : State :=
  if n = 0 then s
  else
    let a := s.adc k
    let old := (a.uns.map fun u => (u.1, min u.2 from_)).filter fun u => decide (u.1 < u.2)
    (s.setAdc k { a with uns := (from_, from_ + 2 * n) :: old.take 63 }).setF (convPage k + 4) CNV_STS_SETTLING 1

/-- The number of samples that Table 8-2 marks after a change from one CNV_CFG value to another. -/
def adcSettle (old new_ : Word) : Nat :=
  if getF old CNV_CFG_FS ≠ getF new_ CNV_CFG_FS then 512
  else if getF old CNV_CFG_INSEL ≠ getF new_ CNV_CFG_INSEL ∨ getF old CNV_CFG_ZONE ≠ getF new_ CNV_CFG_ZONE then 256
  else 0

/-- A write of CNV_CFG, CNV_CORR_A or CNV_CORR_B: the reserved INSEL is discarded (Table 8-11); any other value governs
from the first ft boundary after the write (R251), a CNV_CFG written in CAL from the entry into READY (R252). -/
def cnvCfgWrite (k sel v : Nat) (s : State) : State :=
  if sel = 0 ∧ v % 4 = 3 then s.inc (convWdrop k)
  else
    let at_ := s.nextEdge
    let a := s.adc k
    let old := s.adcRegs k
    let s := s.wrRW (convPage k + (if sel = 0 then 0 else 4 + 4 * sel)) v
    let before := if a.hist.isEmpty then [(0, old)] else a.hist.filter fun h => decide (h.1 < at_)
    let s := s.setAdc k { a with hist := ((at_, s.adcRegs k) :: before).take 256 }
    if sel = 0 ∧ s.dev ≠ dCAL then settleFrom k at_ (adcSettle old.1 (s.rd (convPage k))) s else s

/-- The settings written are in force at once, with nothing before them (an image, R71). -/
def adcFresh (s : State) : State := { s with cnv := { s.cnv with adcs := s.cnv.adcs.map fun a => (a.1, { a.2 with hist := [] }) } }

/-- Entry into READY counts as a change of every read-out ADC (R252, Table 8-2). -/
def adcReady (s : State) : State := forEach (List.range 32) s fun k s => settleFrom k s.clock.now 512 s

/-- SETTLING_END: the count of UNSETTLED samples has run out; the words of a monitor ADC are counted at its boundaries. -/
def settlingEnd (conv : Nat) (s : State) : State :=
  if conv < 32 ∧ (s.adc conv).uns.all (fun u => decide (u.2 ≤ s.clock.now)) then
    s.setF (convPage conv + 4) CNV_STS_SETTLING 0
  else s

/-- Does the sample of pin instant `p` (TB1) of ADC `k` carry UNSETTLED (Table 8-2, Table 18-2, R551)? -/
def State.adcUns (s : State) (k p : Nat) : Bool :=
  let t := p + s.clock.now
  s.trimBad (0x1A0 + k) || (s.adc k).uns.any fun u => decide (u.1 + s.clock.tb1 ≤ t) && decide (t < u.2 + s.clock.tb1)

/-- Stage 3 (R250) before saturation, for a code of the input selected: (x − OFF) × GAIN truncated to s1.15. -/
def stage3Raw (code : Int) (insel : Nat) (corr : Word) : Int :=
  if insel = 2 then 16 * code
  else ((16 * code - sgn 16 (getF corr CNV_CORR_A_OFF)) * getF corr CNV_CORR_A_GAIN) >>> 15

/-- CNV_CFG, CNV_CORR_A or CNV_CORR_B (`sel` 0 to 2) that governs the sample of pin instant `p` (TB1) (R251). -/
def State.adcAt (s : State) (k sel p : Nat) : Word := s.adcOn k sel (p + s.clock.now - s.clock.tb1)

/-- The corrected sample of ADC `k` at pin instant `p`, before saturation. -/
def State.corrected (s : State) (k p : Nat) (code : Int) : Int :=
  let insel := getF (s.adcAt k 0 p) CNV_CFG_INSEL
  stage3Raw code insel (s.adcAt k (if insel = 0 then 1 else 2) p)

/-- Things with the pin instants of the samples of a window, from its first one on. -/
def pinned {α : Type} (p : Nat) : List α → List (Nat × α)
  | [] => []
  | x :: xs => (p, x) :: pinned (p + 2) xs

/-- The code of a sample: that of an input beyond full scale is the end of the range (R249). -/
def sampVal (x : Samp) : Int := if x.beyond then (if x.code < 0 then -2048 else 2047) else sat 12 x.code

/-- A sample counts as clipped when its input was beyond full scale or stage 3 saturated (R249, R250). -/
def countSample (k p : Nat) (x : Samp) (s : State) : State :=
  if ¬ x.fresh then s
  else
    let c := s.corrected k p (sampVal x)
    let sat_ : Bool := sat 16 c != c
    let s := if x.beyond then s.setF (convPage k + 4) CNV_STS_OVR 1 else s
    let s := if sat_ then s.setF (convPage k + 4) CNV_STS_SAT 1 else s
    s.incBy (convPage k + 0x10) (b01 x.beyond + b01 sat_)

/-! ### Acquisition (R255 to R262) -/

/-- A demodulation channel. -/
def State.dem (s : State) (y c : Nat) : Dem := tget s.cnv.dems (8 * y + c)

/-- Changing it. -/
def State.setDem (s : State) (y c : Nat) (d : Dem) : State :=
  { s with cnv := { s.cnv with dems := tput s.cnv.dems (8 * y + c) d } }

/-- Changing it by a function. -/
def State.modDem (s : State) (y c : Nat) (f : Dem → Dem) : State := s.setDem y c (f (s.dem y c))

/-- CSTATE of a channel (Table 9-6). -/
def cOFF : Nat := 0
def cSTOPPED : Nat := 1
def cSETTLING : Nat := 2
def cRUNNING : Nat := 3
def State.cst (s : State) (y c : Nat) : Nat := s.fld (DEM_STS y c) DEM_STS_CSTATE

/-- Is the channel enabled by the image (R63)? -/
def State.chanEn (s : State) (y c : Nat) : Bool := bit (s.comp y).demodEn c

/-- ASTATE and DSTATE (Tables 8-4, 10-2) follow from ARM, the open window and its decision. -/
def acqRefresh (y c : Nat) (s : State) : State :=
  let w := (s.dem y c).wins
  let opened : Bool := w.any (·.open_)
  let arm := s.flag (CNV_ACQ_CTL y c) CNV_ACQ_CTL_ARM && s.fld (CNV_ACQ_CTL y c) CNV_ACQ_CTL_SRC != 0
  let a := if opened then 2 else if arm then 1 else 0
  let d := if ¬ s.chanEn y c then 0
    else match w.getLast? with
      | none => 1
      | some x => if x.issued.isSome then 3 else 2
  (s.setF (CNV_ACQ_STS y c) CNV_ACQ_STS_ASTATE a).setF (DSC_STS y c) DSC_STS_DSTATE d

/-- A new start ends a window that is open with the last sample before the new S (R260); with no sample before it the
window is gone. -/
def cutWins (s0 : Nat) : List Win → List Win × Nat
  | [] => ([], 0)
  | w :: ws =>
    let (r, n) := cutWins s0 ws
    if w.open_ && decide (s0 < w.s0 + ft * w.len) then
      (if s0 ≤ w.s0 then (r, n + 1) else ({ w with len := (s0 - w.s0) / ft, trunc := true } :: r, n + 1))
    else (w :: r, n)

/-- A window opens at S (R255). -/
def openWindow (y c s0 len tag src : Nat) (s : State) : State :=
  let (ws, n) := cutWins s0 (s.dem y c).wins
  let w : Win := ⟨(s.grp (s.groupOf y)).pass, s0, len, tag, src, false, true, 0, 0, 0, false, none, [], [], []⟩
  acqRefresh y c ((s.incBy (CNV_ACQ_OVL_CNT y) n).modDem y c fun d => { d with wins := ws ++ [w] })

/-- A timer or trigger start (R257, R316): only while ARMED or OPEN by ARM, in READY or RUN, with TB1 running; a channel that
is OFF or STOPPED counts a miss. -/
def autoStart (y c s0 : Nat) (s : State) : State :=
  if ¬ (s.flag (CNV_ACQ_CTL y c) CNV_ACQ_CTL_ARM ∧ (s.dev = dREADY ∨ s.dev = dRUN) ∧ s.tb1Run) then s
  else if s.cst y c = cOFF ∨ s.cst y c = cSTOPPED then s.inc (DEM_MISS_CNT y)
  else openWindow y c s0 (s.fld (CNV_ACQ_LEN y c) CNV_ACQ_LEN_LEN) (s.fld (CNV_ACQ_CTL y c) CNV_ACQ_CTL_TAG)
    (s.fld (CNV_ACQ_CTL y c) CNV_ACQ_CTL_SRC) s

/-- The event of a timer reaches a channel at its time `e`: a channel with SRC TIMER opens a window at E + DLY (Table 8-3). -/
def acqEvent (y c e : Nat) (s : State) : State :=
  if s.fld (CNV_ACQ_CTL y c) CNV_ACQ_CTL_SRC = 1 then autoStart y c (ceilFt e + ft * s.fld (CNV_ACQ_DLY y c) CNV_ACQ_DLY_DLY) s else s

/-- ACQ_TIMER_START: the event of the timer that the channel selects has come, as an item held for its time E. -/
def acqTimerStart (y c : Nat) (s : State) : State :=
  match s.bus.held.find? fun i => i.act == .start y c && s.due i.rel with
  | none => s
  | some i => acqEvent y c i.rel { s with bus := { s.bus with held := s.bus.held.erase i } }

/-- ACQ_TRIG_START: a filtered edge of the input that the channel selects opens a window 48 ft and DLY after it (Table 8-3). -/
def acqTrigStart (y c : Nat) (s : State) : State :=
  match (s.dem y c).trigs with
  | [] => s
  | e :: es =>
    let s := s.modDem y c fun d => { d with trigs := es }
    if s.fld (CNV_ACQ_CTL y c) CNV_ACQ_CTL_SRC = 2 then
      autoStart y c (ceilFt (e + 48 * ft) + ft * s.fld (CNV_ACQ_DLY y c) CNV_ACQ_DLY_DLY) s
    else s

/-- The checks of an ARM (R258), on the written value: 0 when they pass. -/
def State.acqArmCheck (s : State) (y c v : Nat) : Nat :=
  let src := bits v 29 28
  if src = 3 then E_CNV_RSVD_ENC
  else if src = 0 then 0
  else if s.fld (CNV_ACQ_LEN y c) CNV_ACQ_LEN_LEN = 0 then E_CNV_ZERO_LEN
  else if src = 2 ∧ 15 < v % 128 then E_CNV_RANGE
  else if s.chanEn y c ∧ s.yardMay y (if src = 1 then 3 else 2) (v % 128) then 0
  else E_IMG_RES_BUSY

/-- ARM from 0 to 1 (R258): the second component is the status of a refusal. With SRC MAST ARM reads 0. -/
def acqArm (y c v : Nat) (s : State) : State × Nat :=
  let code := s.acqArmCheck y c v
  let s := s.denyIf code (if bits v 29 28 = 1 then 3 else 2) (v % 128) 1 y
  let s := s.status (CNV_ACQ_STS y c) code
  if code ≠ 0 then (s, code)
  else if bits v 29 28 = 0 then (s.wrRW (CNV_ACQ_CTL y c) (v % 2 ^ 31), 0)
  else (acqRefresh y c (s.wrRW (CNV_ACQ_CTL y c) v), 0)

/-- While ARM is 1 a write that only clears ARM stops further starts, and any other is discarded (R259). -/
def acqDisarm (y c v : Nat) (s : State) : State :=
  let a := CNV_ACQ_CTL y c
  if insF (BitVec.ofNat 64 v &&& rwMask a) CNV_ACQ_CTL_ARM 1 = s.rd a ∧ ¬ bit v 31 then
    acqRefresh y c (s.setF a CNV_ACQ_CTL_ARM 0)
  else s.inc (CNV_ACQ_WDROP_CNT y)

/-- A write of CNV_ACQ_CTL by host software or a SETR; the second component is the status of a refusal. -/
def acqCtlWrite (y c v : Nat) (s : State) : State × Nat :=
  if s.flag (CNV_ACQ_CTL y c) CNV_ACQ_CTL_ARM then (acqDisarm y c v s, 0)
  else if bit v 31 then acqArm y c v s
  else (s.wrRW (CNV_ACQ_CTL y c) v, 0)

/-- CNV_ACQ_DLY and CNV_ACQ_LEN: discarded while ARM is 1 (R259). -/
def acqGeomWrite (y c a v : Nat) (s : State) : State :=
  if s.flag (CNV_ACQ_CTL y c) CNV_ACQ_CTL_ARM then s.inc (CNV_ACQ_WDROP_CNT y) else s.wrRW a v

/-- Windows of a channel that pass a test end without a record (R261); a decision formed for one of them that has not entered the Sheet is
withdrawn, and is not counted (R326). -/
def endWins (y c : Nat) (p : Win → Bool) (s : State) : State :=
  let gone := ((s.dem y c).wins.filter p).map (·.s0)
  let keep := s.cnv.formed.filter fun d => !(d.yard == y && d.chan == c && gone.contains d.s0)
  acqRefresh y c ({ s with cnv := { s.cnv with formed := keep } }.modDem y c fun d => { d with wins := d.wins.filter fun w => !p w })

/-- An ABORT release ends the Mast-started windows of a yard (R261). -/
def acqAbort (y : Nat) (s : State) : State := forEach (List.range 8) s fun c s => endWins y c (fun w => w.src == 0) s

/-- A yard commit, an island-hang reset and entry into SAFE end every window and clear ARM (R261). -/
def acqClear (y : Nat) (s : State) : State :=
  forEach (List.range 8) s fun c s => endWins y c (fun _ => true) (s.setF (CNV_ACQ_CTL y c) CNV_ACQ_CTL_ARM 0)

/-- A 32-bit number as bytes. -/
def le (n w : Nat) : List (BitVec 8) := (List.range n).map fun i => BitVec.ofNat 8 (w / 256 ^ i)

/-- Two 12-bit samples in each 3 bytes (Table 8-8). -/
def pack12 : List Nat → List (BitVec 8)
  | a :: b :: t => le 3 (a % 4096 + b % 4096 * 4096) ++ pack12 t
  | [a] => le 2 (a % 4096)
  | [] => []

/-- Zero bytes up to a multiple of 16. -/
def pad16 (bs : List (BitVec 8)) : List (BitVec 8) := bs ++ List.replicate ((16 - bs.length % 16) % 16) 0

/-- The raw record of a window (Table 8-8) of its samples after stage 3, truncated to s1.11 (R262). -/
def State.rawRecord (s : State) (y c : Nat) (w : Win) (xs : List Samp) : List (BitVec 8) :=
  let k := pairOf y
  let n := 8 * w.len
  let cs := (pinned w.s0 xs).map fun x => s.corrected k x.1 (sampVal x.2)
  let uns : Bool := (List.range n).any fun i => s.adcUns k (w.s0 + 2 * i)
  let ovr : Bool := xs.any (·.beyond) || cs.any fun x => sat 16 x != x
  let w2 := b01 uns * 2 ^ 31 + b01 ovr * 2 ^ 30 + b01 w.trunc * 2 ^ 29 + n % 2 ^ 27
  let w3 := w.tag % 4096 * 2 ^ 10 + c * 2 ^ 7 + y
  pad16 (le 8 w.s0 ++ le 4 w2 ++ le 4 w3 ++ pack12 (cs.map fun x => unsgn 12 (sat 16 x >>> 4)))

/-- The first open window of a list closes. -/
def closeFirst : List Win → List Win
  | [] => []
  | w :: ws => if w.open_ then { w with open_ := false } :: ws else w :: closeFirst ws

/-- ACQ_WINDOW_END: the first open window of the channel has passed its last sample; its samples are counted (R249, R250) and
with RAW its record goes to the ring of the pair's ADC (R262). -/
def acqWindowEnd (y c : Nat) (xs : List Samp) (s : State) : State :=
  match (s.dem y c).wins.find? (·.open_) with
  | none => s
  | some w =>
    if ¬ s.reached (w.s0 + ft * w.len) then s
    else
      let s := forEach (pinned w.s0 xs) s fun x s => countSample (pairOf y) x.1 x.2 s
      let s := s.when (s.flag (CNV_ACQ_CTL y c) CNV_ACQ_CTL_RAW) (ringPut (pairOf y) (s.rawRecord y c w (xs.take (8 * w.len))))
      acqRefresh y c (s.modDem y c fun d => { d with wins := closeFirst d.wins })

/-- Does a window of the pair of ADC `k` show its sample of now? -/
def State.adcShown (s : State) (k : Nat) : Bool :=
  [2 * k, 2 * k + 1].any fun y => (List.range 8).any fun c => (s.dem y c).wins.any fun w =>
    w.open_ && decide (w.s0 ≤ s.clock.tb1) && decide (s.clock.tb1 < w.s0 + ft * w.len) && s.tb1Run

/-- The samples of this st (R33, R245, R249, R250): every read-out ADC converts in CAL, READY and RUN. A window brings those that it shows
(ACQ_WINDOW_END); what stands at the input for any other is not told, and its code is free. -/
def adcTick (s : State) : State :=
  if (s.dev = dCAL ∨ s.dev = dREADY ∨ s.dev = dRUN) ∧ s.phase % 2 = 0 then
    forEach ((List.range 32).filter fun k => !s.adcShown k) s fun k s =>
      let w := s.freeW.toNat
      countSample k s.clock.tb1 ⟨sgn 12 w, bit w 12, true⟩ s.nextFree
  else s

/-! ### Monitor ADCs (R263 to R281) -/

/-- Monitor ADC `m`. -/
def State.mon (s : State) (m : Nat) : Mon := tget s.cnv.mons m

/-- Changing it. -/
def State.setMon (s : State) (m : Nat) (x : Mon) : State := { s with cnv := { s.cnv with mons := tput s.cnv.mons m x } }

def monCTL (m : Nat) : Nat := convPage (32 + m)
def monSTS (m : Nat) : Nat := convPage (32 + m) + 4
def monXCHK (m : Nat) : Nat := convPage (32 + m) + 0x18
def monSCAN (m e : Nat) : Nat := convPage (32 + m) + 0x40 + 4 * e

/-- MSTATE (Table 8-7). -/
def State.monSt (s : State) (m : Nat) : Nat := s.fld (monSTS m) MON_STS_MSTATE

/-- MSTATE and MON_INJ_Q follow from the conversion and the queue; `on` is false while the ADCs are OFF (R281). -/
def monRefresh (m : Nat) (s : State) : State :=
  let x := s.mon m
  let on : Bool := s.dev == dCAL || s.dev == dREADY || s.dev == dRUN
  let st := if ¬ on then 0 else match x.run with
    | .none => 1 | .scan => 2 | .inj _ => 3 | .xchk => 4 | .cal => 5
  let act : Bool := match x.run with | .inj _ => true | _ => false
  ((s.setF (monSTS m) MON_STS_MSTATE st).setF (convPage (32 + m) + 0xC) MON_INJ_Q_WAIT x.waiting.length).setF
    (convPage (32 + m) + 0xC) MON_INJ_Q_ACTIVE (b01 act)

/-- The period of a rate in ft (Table 8-6). -/
def monPeriod (dr : Nat) : Nat := [1250000, 500000, 250000, 125000, 50000, 25000, 12500, 5000].getD dr 5000

/-- Is the hub count at a word boundary of the ADC that has not been taken yet (R264)? -/
def State.monBoundary (s : State) (m : Nat) : Bool :=
  s.hubFt % monPeriod (s.mon m).dr == 0 && (s.mon m).last1 != s.hubFt + 1

/-- The owner of the pages of a ring: `none` for host software or nobody. -/
def State.ringPart (s : State) (r : Nat) : Option Nat := s.partOfInst 7 (s.fld (ringBASE r) CNV_RING_BASE_PAGE)

/-- Does the requester of an injected conversion own the pages of the ADC's ring (R272)? -/
def State.injRing (s : State) (m : Nat) (i : Inj) : Bool :=
  match s.ringPart (32 + m) with
  | none => i.kind == 0
  | some p => i.kind != 0 && i.who == p

/-- A monitor ring entry (Table 8-9): mark bits UNSETTLED, OVR, PLAUS_FAIL, XCHK, INJ. -/
def monEntry (input code tag : Nat) (uns ovr plaus xchk inj : Bool) (time : Nat) : List (BitVec 8) :=
  le 4 (b01 uns * 2 ^ 31 + input % 128 * 2 ^ 24 + code % 2 ^ 24)
    ++ le 4 (tag % 4096 * 16 + b01 ovr * 8 + b01 plaus * 4 + b01 xchk * 2 + b01 inj) ++ le 8 time

/-- A change of the mux input makes the next three words UNSETTLED (Table 8-2). -/
def Mon.select (x : Mon) (input : Nat) : Mon :=
  if x.input = some input then x else { x with input := some input, uns := 3 }

/-- BIA_CFG.RB_SEL or FLX_RB.SEL of the input being converted has changed (R244, Table 8-2). -/
def monReadback (input : Nat) (s : State) : State :=
  let m := input / 8
  if (s.mon m).input = some input ∧ (s.mon m).run ≠ .none ∧ (s.mon m).run ≠ .cal then s.setMon m { s.mon m with uns := 3 } else s

/-- The monitor input that the flux sense of an even yard's pair stands on (Table 7-5). -/
def fluxSense (y : Nat) : Nat := 8 * (y / 4) + 4 + y / 2 % 2

/-- FLX_RB (R243): in the odd yard's page a write is discarded and counted; a change of SEL counts as a change of the monitor input (R244). -/
def flxRbWrite (y v : Nat) (s : State) : State :=
  if y % 2 = 1 then s.inc (FLX_WDROP_CNT y)
  else
    let old := s.fld (FLX_RB y) FLX_RB_SEL
    let s := s.wrN (FLX_RB y) (v % 8)
    if old = v % 8 then s else monReadback (fluxSense y) s

/-- RB_SEL and FLX_RB.SEL of every yard, as the monitor inputs see them. -/
def State.readbacks (s : State) : List (Nat × Nat) :=
  allYards.flatMap fun y =>
    (8 * (y / 4) + y % 4, s.actF (BIA_CFG y) BIA_CFG_RB_SEL) :: (if y % 2 = 0 then [(fluxSense y, s.fld (FLX_RB y) FLX_RB_SEL)] else [])

/-- A commit that changes them counts as a change of those inputs (R244). -/
def readbackChanged (old : List (Nat × Nat)) (s : State) : State :=
  forEach (s.readbacks.filter fun x => !old.contains x) s fun x s => monReadback x.1 s

/-- Entry `e` of the scan: its input and count. -/
def State.scanIn (s : State) (m e : Nat) : Nat := 8 * m + s.fld (monSCAN m e) MON_SCAN_INPUT

/-- A scan step starts at entry `e`. -/
def scanStep (m e : Nat) (s : State) : State :=
  let x := (s.mon m).select (s.scanIn m e)
  s.setMon m { x with run := .scan, entry := e, left := s.fld (monSCAN m e) MON_SCAN_COUNT }

/-- May ADCs 2j and 2j + 1 run a cross-check (R276), and are they free for it at this boundary (R274)? -/
def State.xchkSkip (s : State) (j : Nat) : Bool :=
  (s.mon (2 * j)).dr != (s.mon (2 * j + 1)).dr || !(s.flag (monCTL (2 * j)) MON_CTL_SCAN_EN)
    || !(s.flag (monCTL (2 * j + 1)) MON_CTL_SCAN_EN) || (s.mon (2 * j)).run == .cal || (s.mon (2 * j + 1)).run == .cal

def Mon.injBusy (x : Mon) : Bool := !x.waiting.isEmpty || (match x.run with | .inj _ => true | _ => false)

/-- The input of the cross-checks of pair `j`. -/
def State.xchkIn (s : State) (j : Nat) : Nat := 16 * j + s.fld (monXCHK (2 * j)) MON_XCHK_XIN

/-- An ADC converts XIN. -/
def xchkGo (m : Nat) (s : State) : State :=
  monRefresh m (s.setMon m { s.mon m with input := some (s.xchkIn (m / 2)), uns := 3, left := 1, run := .xchk, due := false, join := false })

/-- Both ADCs of a pair convert XIN from this common boundary on; the odd one that has still to deliver its own word of the boundary joins
with it (R274). -/
def xchkStart (j : Nat) (s : State) : State :=
  let s := xchkGo (2 * j) s
  if s.monBoundary (2 * j + 1) then s.setMon (2 * j + 1) { s.mon (2 * j + 1) with join := true } else xchkGo (2 * j + 1) s

/-- What an ADC does from this boundary on: a calibration (R278), the next injected request (R271), a due cross-check
(R273, R274), the scan, or nothing. -/
def monNext (m : Nat) (s : State) : State :=
  let x := s.mon m
  let scanOn : Bool := s.flag (monCTL m) MON_CTL_SCAN_EN && (s.dev == dREADY || s.dev == dRUN)
  if x.join then xchkGo m s
  else if x.calReq ∧ (x.waiting = [] ∨ x.deferred) then
    s.setMon m { x with run := .cal, calReq := false, deferred := false, input := none, uns := 0, left := 0 }
  else
    match x.waiting with
    | i :: rest =>
      let s := if x.calReq then (s.setF (monSTS m) MON_STS_CAL_DEFERRED 1).inc (convPage (32 + m) + 0x24) else s
      let y := x.select i.input
      s.setMon m { y with run := .inj i, waiting := rest, left := 1, deferred := x.calReq }
    | [] =>
      let skip : Bool := x.due && s.xchkSkip (m / 2)
      let s := if skip then (s.setMon m { x with due := false, cycles := 0 }).inc (convPage (32 + m) + 0x20) else s
      let x := s.mon m
      if x.due ∧ scanOn ∧ ¬ (s.mon (m + 1)).injBusy ∧ s.hubFt % monPeriod (s.mon (m + 1)).dr = 0 then xchkStart (m / 2) s
      else if ¬ scanOn then s.setMon m { x with run := .none, left := 0 }
      else if x.run = .scan then s
      else scanStep m (if x.entry < s.fld (monCTL m) MON_CTL_SCAN_LEN then x.entry else 0) s

/-- A settled scan word: after COUNT of them the next entry begins, and after the last entry a cycle is complete (R266). -/
def scanWord (m : Nat) (s : State) : State :=
  let x := s.mon m
  if 1 < x.left then s.setMon m { x with left := x.left - 1 }
  else
    let wrap : Bool := decide (s.fld (monCTL m) MON_CTL_SCAN_LEN ≤ x.entry + 1)
    let cyc := if wrap then x.cycles + 1 else x.cycles
    let due : Bool := m % 2 == 0 && s.flag (monXCHK m) MON_XCHK_EN && decide (s.fld (monXCHK m) MON_XCHK_PER ≤ cyc) && wrap
    let s := s.setMon m { x with cycles := if due then 0 else cyc, due := x.due || due, run := .none,
                                 entry := if wrap then 0 else x.entry + 1 }
    s

/-- The code of a word: that of an input beyond ±1.25 V is the end of the range (R263). -/
def monCode (code : Nat) (ovr : Bool) : Nat :=
  if ovr then (if code % 2 ^ 24 < 2 ^ 23 then 2 ^ 23 - 1 else 2 ^ 23) else code % 2 ^ 24

/-- The Winch service of the requesting partition that waits for the conversion of a request (R272). -/
def State.injSvc (s : State) (i : Inj) : Option Nat :=
  (List.range 8).find? fun x => i.kind == 1 && s.allotOf 0x0C x == some i.who && (tget s.wch.cores x).svc.any fun v =>
    v.words.getD 0 0 % 256 == 0x12 && v.res == [] && bits (v.words.getD 6 0) 6 0 == i.input && bits (v.words.getD 6 0) 27 16 == i.tag

/-- The service that waits for a request changes. -/
def injTell (i : Inj) (f : Svc → Svc) (s : State) : State :=
  match s.injSvc i with
  | some x =>
    let k := tget s.wch.cores x
    { s with wch := { s.wch with cores := tput s.wch.cores x { k with svc := k.svc.map f } } }
  | none => s

/-- The settled word of a request of a Winch service goes to that service (R272). -/
def injReturn (i : Inj) (w : Nat) (s : State) : State := injTell i (fun v => { v with res := [w] }) s

/-- The word that ends at this boundary (R263, R264, R266, R271, R272). -/
def monWord (m code : Nat) (ovr : Bool) (s : State) : State :=
  let x := s.mon m
  let uns : Bool := decide (0 < x.uns)
  let bad : Bool := uns || s.trimBad (0x1C0 + m)
  let inp := x.input.getD 0
  let code := monCode code ovr
  let s := if ovr then s.setF (monSTS m) MON_STS_OVR 1 else s
  match x.run with
  | .scan =>
    let s := ringPut (32 + m) (monEntry inp code 0 bad ovr false false false s.tb1) s
    if uns then s.setMon m { x with uns := x.uns - 1 } else scanWord m s
  | .inj i =>
    let e := monEntry inp code i.tag bad ovr false false true s.tb1
    let s := if s.injRing m i then ringPut (32 + m) e s else s
    if uns then s.setMon m { x with uns := x.uns - 1 }
    else
      let w := (b01 bad * 2 ^ 31 + inp % 128 * 2 ^ 24 + code % 2 ^ 24) + 2 ^ 32 * (i.tag % 4096 * 16 + b01 ovr * 8 + 1)
      let s := (s.wrN (convPage (32 + m) + 0x10) w).setMon m { x with run := .none, left := 0 }
      if i.kind = 1 then injReturn i w s else s
  | _ => s

/-- The words of both ADCs of a pair under cross-check (R274, R275). -/
def xchkWord (j code0 : Nat) (ovr0 : Bool) (code1 : Nat) (ovr1 : Bool) (s : State) : State :=
  let x := s.mon (2 * j)
  let inp := x.input.getD 0
  let uns : Bool := decide (0 < x.uns)
  let code0 := monCode code0 ovr0
  let code1 := monCode code1 ovr1
  let d := (sgn 24 code0 - sgn 24 code1).natAbs
  let bad : Bool := !uns && decide (s.fld (monXCHK (2 * j)) MON_XCHK_THR < d)
  let put (m code : Nat) (ovr : Bool) (s : State) : State :=
    let s := if ovr then s.setF (monSTS m) MON_STS_OVR 1 else s
    ringPut (32 + m) (monEntry inp code 0 (uns || s.trimBad (0x1C0 + m)) ovr bad true false s.tb1) s
  let s := put (2 * j + 1) code1 ovr1 (put (2 * j) code0 ovr0 s)
  let step (m : Nat) (s : State) : State :=
    let y := s.mon m
    s.setMon m (if uns then { y with uns := y.uns - 1 } else { y with run := .none, left := 0 })
  let s := step (2 * j + 1) (step (2 * j) s)
  if bad then
    (((s.setF (monSTS (2 * j)) MON_STS_XCHK_FAIL 1).setF (monSTS (2 * j + 1)) MON_STS_XCHK_FAIL 1).inc
      (convPage (32 + 2 * j) + 0x1C)).report E_MON_XCHK_FAIL islHub j
  else s

/-- A change of DR takes effect at the boundary (R265, Table 8-2). -/
def monRate (m : Nat) (s : State) : State :=
  let x := s.mon m
  let dr := s.fld (monCTL m) MON_CTL_DR
  if x.dr = dr then s else s.setMon m { x with dr := dr, uns := 3 }

/-- A scan step in progress ends where something with precedence starts (R271, R279). -/
def monBreak (m : Nat) (s : State) : State :=
  let x := s.mon m
  if x.run = .scan ∧ (x.waiting ≠ [] ∨ x.calReq) then s.setMon m { x with run := .none, left := 0 } else s

/-- A cross-check in progress ends for both ADCs of the pair where an injected conversion or a calibration starts on one of them, or in CAL
(R271, R279, R281); it is due again. -/
def xchkBreak (j : Nat) (s : State) : State :=
  let a := s.mon (2 * j)
  let b := s.mon (2 * j + 1)
  if a.run = .xchk ∧ (a.waiting ≠ [] ∨ a.calReq ∨ b.waiting ≠ [] ∨ b.calReq ∨ s.dev = dCAL) then
    (s.setMon (2 * j) { a with run := .none, left := 0, due := true }).setMon (2 * j + 1) { b with run := .none, left := 0, join := false }
  else s

/-- MON_WORD_BOUNDARY: the word that ends is delivered, and changes take effect. `code1` and `ovr1` are the odd ADC's word
of a cross-check. -/
def monWordBoundary (m code : Nat) (ovr : Bool) (code1 : Nat) (ovr1 : Bool) (s : State) : State :=
  if s.dev = dBOOT ∨ s.dev = dCONFIG ∨ s.dev = dSAFE ∨ ¬ s.monBoundary m then s
  else
    let x := s.mon m
    let s := s.setMon m { x with last1 := s.hubFt + 1 }
    match x.run with
    | .cal => monRefresh m (monRate m s)
    | .xchk =>
      if m % 2 = 1 then s.setMon m x
      else
        let s := s.setMon (m + 1) { s.mon (m + 1) with run := .xchk, last1 := s.hubFt + 1, join := false }
        let s := xchkBreak (m / 2) (xchkWord (m / 2) code ovr code1 ovr1 s)
        let next (m : Nat) (s : State) : State :=
          if (s.mon m).run = .xchk then s else monRefresh m (monNext m (monRate m s))
        next (m + 1) (next m s)
    | _ =>
      let s := monBreak m (monWord m code ovr s)
      match (s.mon m).run with
      | .inj _ =>
        let s := if (s.mon m).calReq ∧ ¬ (s.mon m).deferred then
            ((s.setF (monSTS m) MON_STS_CAL_DEFERRED 1).inc (convPage (32 + m) + 0x24)).setMon m { s.mon m with deferred := true }
          else s
        monRefresh m (monRate m s)
      | _ => monRefresh m (monNext m (monRate m s))

/-- May a scan of an ADC convert an input (R267)? -/
def State.scanMay (s : State) (m i : Nat) : Bool :=
  match s.ownOf 4 i with
  | none => true
  | some o => match s.ringPart (32 + m) with
    | none => o.okind == 4
    | some p => s.partHas p 4 i

/-- The first input in use that it may not. -/
def State.scanBad (s : State) (m len : Nat) : Nat := firstNot ((List.range (min len 8)).map (s.scanIn m)) (s.scanMay m)

/-- The checks of a scan start (R267). -/
def State.scanCheck (s : State) (m len : Nat) : Nat :=
  let es := List.range (min len 8)
  if len = 0 ∨ es.any (fun e => s.fld (monSCAN m e) MON_SCAN_COUNT == 0) then E_CNV_ZERO_LEN
  else if 8 < len then E_CNV_RANGE
  else if ¬ s.ringOn (32 + m) then E_CNV_RING_STATE
  else if es.all (fun e => s.scanMay m (s.scanIn m e)) then 0 else E_IMG_RES_BUSY

/-- MON_CTL changes DR or SCAN_LEN only in OFF or IDLE (R268). -/
def State.monCtlOpen (s : State) (m v : Nat) : Bool :=
  s.monSt m ≤ 1 || (bits v 6 4 == s.fld (monCTL m) MON_CTL_DR && bits v 11 8 == s.fld (monCTL m) MON_CTL_SCAN_LEN)

/-- SCAN_EN from 0 to 1 (R267): a write that fails a check changes nothing. -/
def monScanEnable (m v : Nat) (s : State) : State :=
  if ¬ s.monCtlOpen m v then s.inc (convWdrop (32 + m))
  else
    let code := s.scanCheck m (bits v 11 8)
    let s := s.denyIf code 4 (s.scanBad m (bits v 11 8)) 4 0
    let s := s.status (monSTS m) code
    if code ≠ 0 then s else (s.wrRW (monCTL m) v).setMon m { s.mon m with entry := 0, cycles := 0 }

/-- SCAN_EN from 1 to 0: the scan ends at the next word boundary (R268). -/
def monScanDisable (m v : Nat) (s : State) : State :=
  if ¬ s.monCtlOpen m v then s.inc (convWdrop (32 + m))
  else
    s.wrRW (monCTL m) v

/-- A write of MON_CTL. -/
def monCtlWrite (m v : Nat) (s : State) : State :=
  let en := s.flag (monCTL m) MON_CTL_SCAN_EN
  if bit v 0 ∧ ¬ en then monScanEnable m v s
  else if ¬ bit v 0 ∧ en then monScanDisable m v s
  else if s.monCtlOpen m v then s.wrRW (monCTL m) v else s.inc (convWdrop (32 + m))

/-- MON_SCAN (R268). -/
def monScanWrite (m a v : Nat) (s : State) : State :=
  if s.monSt m ≤ 1 then s.wrRW a v else s.inc (convWdrop (32 + m))

/-- May a requester use a monitor input (R269)? Host software: an input it owns or that nobody owns; a Winch service or a
timer: an input of its partition. -/
def State.injMay (s : State) (i : Inj) : Bool :=
  match s.ownOf 4 i.input with
  | none => i.kind == 0
  | some o => if i.kind = 0 then o.okind == 4 else s.partHas i.who 4 i.input

/-- An injected request (R269, R270, R281): its status. -/
def State.injCheck (s : State) (m : Nat) (i : Inj) : Nat :=
  if ¬ s.injMay i then E_IMG_RES_BUSY
  else if s.monSt m = 0 then E_MON_STATE
  else if 4 ≤ (s.mon m).waiting.length then E_CNV_INJ_OVF
  else 0

/-- It joins the queue, or is refused; the second component is its status. -/
def injRequest (m : Nat) (i : Inj) (s : State) : State × Nat :=
  let code := s.injCheck m i
  if code = 0 then (monRefresh m (s.setMon m { s.mon m with waiting := (s.mon m).waiting ++ [i] }), 0)
  else if code = E_CNV_INJ_OVF then (s.inc (convPage (32 + m) + 0x28), code)
  else if code = E_IMG_RES_BUSY then (s.deny 4 i.input (if i.kind = 0 then 4 else 3) i.who, code)
  else (s, code)

/-- A host write of MON_INJ. -/
def monInj (m v : Nat) (s : State) : State :=
  let (s, code) := injRequest m ⟨0, 0, bits v 31 20, 8 * m + v % 8, none⟩ s
  s.status (monSTS m) code

/-- The checks of MON_XCHK with EN 1 (R277). -/
def State.xchkCheck (s : State) (m v : Nat) : Nat :=
  if bits v 26 19 = 0 then E_CNV_ZERO_LEN
  else match s.ownOf 4 (8 * m + bits v 30 27) with
    | none => 0
    | some o => if o.okind = 4 then 0 else E_IMG_RES_BUSY

/-- MON_XCHK.EN from 0 to 1 (R277). -/
def monXchkEnable (m v : Nat) (s : State) : State :=
  if m % 2 = 1 then s.inc (convWdrop (32 + m))
  else
    let inp := 8 * m + bits v 30 27
    let code := s.xchkCheck m v
    let s := (s.denyIf code 4 inp 4 0).status (monSTS m) code
    if code ≠ 0 then s else (s.wrRW (monXCHK m) v).setMon m { s.mon m with cycles := 0, due := false }

/-- Any other write of MON_XCHK; in the page of an odd ADC it is discarded. -/
def monXchkWrite (m v : Nat) (s : State) : State :=
  if m % 2 = 1 then s.inc (convWdrop (32 + m))
  else if bit v 31 ∧ ¬ s.flag (monXCHK m) MON_XCHK_EN then monXchkEnable m v s
  else (s.wrRW (monXCHK m) v).when (!bit v 31) fun s => s.setMon m { s.mon m with due := false }

/-- MON_CAL_REQUEST: the calibration starts at a word boundary (R278). -/
def monCalRequest (m : Nat) (s : State) : State := s.setMon m { s.mon m with calReq := true }

/-- MON_CAL_END: at a word boundary the calibration ends and waiting requests are served (R280). -/
def monCalEnd (m : Nat) (s : State) : State :=
  if (s.mon m).run = .cal ∧ s.hubFt % monPeriod (s.mon m).dr = 0 then
    let s := s.setMon m { s.mon m with run := .none, input := none, last1 := s.hubFt + 1 }
    monRefresh m (monNext m s)
  else s

/-- A request ends with E_MON_STATE to its requester (R281): in the status of a Winch service, of a timer, or of MON_STS. -/
def injEnd (m : Nat) (i : Inj) (s : State) : State :=
  match i.timer with
  | some t => s.status (STAY_TMR_STS t) E_MON_STATE
  | none => if i.kind = 1 then injTell i (fun v => { v with code := E_MON_STATE }) s else s.status (monSTS m) E_MON_STATE

/-- The monitor ADCs go OFF (R281): requests that wait or run end with E_MON_STATE and SCAN_EN clears. -/
def monOff (s : State) : State :=
  forEach (List.range 16) s fun m s =>
    let x := s.mon m
    let s := forEach (x.waiting ++ match x.run with | .inj i => [i] | _ => []) s fun i s => injEnd m i s
    let s := s.setMon m { x with waiting := [], run := .none, calReq := false, deferred := false, left := 0, due := false, join := false }
    monRefresh m (s.setF (monCTL m) MON_CTL_SCAN_EN 0)

/-- Entry into CAL, READY or RUN: MSTATE leaves OFF. -/
def monOn (s : State) : State := forEach (List.range 16) s fun m s => monRefresh m s

/-! ### The commands -/

/-- CNV_CFG_WRITE: a host write of CNV_CFG, CNV_CORR_A or CNV_CORR_B (`sel` 0 to 2) of ADC `k`. -/
def execCnvCfgWrite (k sel v : Nat) (s : State) : Host.Outcome State Fault Refusal :=
  .next (hostWr (convPage k + (if sel = 0 then 0 else 4 + 4 * sel)) (cnvCfgWrite k sel v) s)

/-- SETTLING_END of converter `conv`: 0 to 31 read-out, 32 to 47 monitor. -/
def execSettlingEnd (conv : Nat) (s : State) : Host.Outcome State Fault Refusal := .next (settlingEnd conv s)

/-- CNV_ACQ_ARM. -/
def execCnvAcqArm (y c v : Nat) (s : State) : Host.Outcome State Fault Refusal :=
  .next (hostWr (CNV_ACQ_CTL y c)
    (fun s => if s.flag (CNV_ACQ_CTL y c) CNV_ACQ_CTL_ARM then acqDisarm y c v s else (acqArm y c v s).1) s)

/-- CNV_ACQ_DISARM. -/
def execCnvAcqDisarm (y c v : Nat) (s : State) : Host.Outcome State Fault Refusal :=
  .next (hostWr (CNV_ACQ_CTL y c) (fun s => (acqCtlWrite y c v s).1) s)

/-- ACQ_TIMER_START. -/
def execAcqTimerStart (y c : Nat) (s : State) : Host.Outcome State Fault Refusal := .next (acqTimerStart y c s)

/-- ACQ_TRIG_START. -/
def execAcqTrigStart (y c : Nat) (s : State) : Host.Outcome State Fault Refusal := .next (acqTrigStart y c s)

/-- ACQ_WINDOW_END, with the samples that the ADC took in the window. -/
def execAcqWindowEnd (y c : Nat) (xs : List Samp) (s : State) : Host.Outcome State Fault Refusal :=
  .next (acqWindowEnd y c xs s)

/-- MON_WORD_BOUNDARY. -/
def execMonWordBoundary (m code : Nat) (ovr : Bool) (code1 : Nat) (ovr1 : Bool) (s : State) :
    Host.Outcome State Fault Refusal := .next (monWordBoundary m code ovr code1 ovr1 s)

/-- MON_SCAN_ENABLE. -/
def execMonScanEnable (m v : Nat) (s : State) : Host.Outcome State Fault Refusal :=
  .next (hostWr (monCTL m) (fun s => if s.flag (monCTL m) MON_CTL_SCAN_EN then monCtlWrite m v s else monScanEnable m v s) s)

/-- MON_SCAN_DISABLE. -/
def execMonScanDisable (m v : Nat) (s : State) : Host.Outcome State Fault Refusal :=
  .next (hostWr (monCTL m) (monScanDisable m (v / 2 * 2)) s)

/-- MON_INJ. -/
def execMonInj (m v : Nat) (s : State) : Host.Outcome State Fault Refusal :=
  .next (hostWr (convPage (32 + m) + 8) (monInj m v) s)

/-- MON_XCHK_ENABLE. -/
def execMonXchkEnable (m v : Nat) (s : State) : Host.Outcome State Fault Refusal :=
  .next (hostWr (monXCHK m) (monXchkWrite m v) s)

/-- MON_CAL_REQUEST. -/
def execMonCalRequest (m : Nat) (s : State) : Host.Outcome State Fault Refusal := .next (monCalRequest m s)

/-- MON_CAL_END. -/
def execMonCalEnd (m : Nat) (s : State) : Host.Outcome State Fault Refusal := .next (monCalEnd m s)

/-- RING_START: a write of RING_CTL of converter `r` with EN 1. -/
def execRingStart (r v : Nat) (s : State) : Host.Outcome State Fault Refusal :=
  .next (hostWr (ringCTL r) (ringCtlWrite r v) s)

/-- RING_STOP: a write of RING_CTL with EN 0. -/
def execRingStop (r v : Nat) (s : State) : Host.Outcome State Fault Refusal :=
  .next (hostWr (ringCTL r) (fun s => if s.flag (ringCTL r) CNV_RING_CTL_EN then ringStop r v s else ringCtlWrite r v s) s)

/-- RING_RP_WRITE. -/
def execRingRpWrite (r v : Nat) (s : State) : Host.Outcome State Fault Refusal :=
  .next (hostWr (ringRP r) (ringRpWrite r v) s)

end Sys2Proof.Machine
end

