-- ==== Sys2Proof/Machine/Demod.lean ====
section
/-! DEFINITION. Demodulation channels (chapter 9) and discriminators (chapter 10, first half), and the hand-over of shadow
registers with what the classes 1 to 3 hang on it. -/

namespace Sys2Proof.Machine

/-! ### Kernels and fades (R305 to R313) -/

/-- The kernel sample period R in ft (Table 9-2). -/
def State.kR (s : State) (y c : Nat) : Nat := 2 ^ s.fld (DEM_CTL y c) DEM_CTL_SECOND

/-- The number of outputs marked after a change (Table 9-4). -/
def State.kN (s : State) (y c : Nat) : Nat := [8, 15, 18].getD (s.fld (DEM_CTL y c) DEM_CTL_SECOND) 8

/-- The pin time of the newest ft of kernel sample `m` of a window. -/
def kPin (s0 r m : Nat) : Nat := s0 + ft * ((m + 1) * r - 1)

/-- The kernel samples of a window of LEN ft (R300). -/
def State.kCount (s : State) (y c : Nat) (w : Win) : Nat := w.len / s.kR y c

/-- The end of a fade (`now`). -/
def Fade.stop (f : Fade) : Nat := f.start + ft * f.r * f.xf

/-- The fade that governs a pin instant (`now`): the newest that has begun. -/
def fadeAt (fs : List Fade) (p : Nat) : Option Fade := fs.find? fun f => decide (f.start ≤ p)

/-- The bank in force alone, or faded in, at a pin instant (`now`) (R310). -/
def State.bankAt (s : State) (y c p : Nat) : Nat :=
  match fadeAt (s.dem y c).fades p with
  | some f => f.new_
  | none => match (s.dem y c).fades.getLast? with
    | some f => f.old
    | none => s.fld (DEM_STS y c) DEM_STS_ABANK

/-- Does a fade run at a pin instant (`now`)? -/
def State.fading (s : State) (y c p : Nat) : Bool :=
  match fadeAt (s.dem y c).fades p with | some f => decide (p < f.stop) | none => false

/-- A bank's length (R307). -/
def State.kLen (s : State) (y c b : Nat) : Nat := s.fld (DEM_KLEN y c) (if b = 0 then DEM_KLEN_LEN_A else DEM_KLEN_LEN_B)

/-- Weight `m` of a bank (s1.15 I and Q), 0 at or above its length (R307). -/
def State.weight (s : State) (y c b m : Nat) : Int × Int :=
  if s.kLen y c b ≤ m then (0, 0)
  else (sgn 16 (s.fld (DEM_KW y c b m) DEM_KW_WI), sgn 16 (s.fld (DEM_KW y c b m) DEM_KW_WQ))

/-- α_j of a fade step, in 2⁻¹⁵ (R310). -/
def alpha (j xf : Nat) : Nat := (j + 1) * 2 ^ 15 / xf

/-- The mixed weight of a fade step, rounded half to even to s1.15. -/
def fadeMix (a : Nat) (o n : Int) : Int := halfEven (o * ((2 ^ 15 : Nat) - (a : Int)) + n * a) 15

/-- The weight that kernel sample `m` meets at its pin instant (`now`). -/
def State.weightAt (s : State) (y c m p : Nat) : Int × Int :=
  match fadeAt (s.dem y c).fades p with
  | some f =>
    if p < f.stop then
      let a := alpha ((p - f.start) / (ft * f.r)) f.xf
      let o := s.weight y c f.old m
      let n := s.weight y c f.new_ m
      (fadeMix a o.1 n.1, fadeMix a o.2 n.2)
    else s.weight y c f.new_ m
  | none => s.weight y c (s.bankAt y c p) m

/-- Is a sample of a pin time one of those marked after a change of the channel (Table 9-4)? -/
def State.chanUns (s : State) (y c p : Nat) : Bool :=
  (s.dem y c).uns.any fun u => decide (u.1 ≤ s.pinNow p) && decide (s.pinNow p < u.2)

/-- The next N kernel samples from a pin instant (`now`) on are marked. -/
def markChange (y c t : Nat) (s : State) : State :=
  s.modDem y c fun d => { d with uns := (t, t + ft * (s.kN y c * s.kR y c)) :: d.uns.take 63 }

/-! ### The sample path of a channel (R289 to R300) -/

/-- ACC_D (R294) at a time in 1/32 st, in 2⁻⁴⁵ turns: 0 up to TB1 = 0; between changes of the word the phase is linear. `f0` is the
word in force while the history is empty. -/
def accD (l : List FSeg) (f0 : Nat) (x : Int) : Int :=
  match l.find? fun g => decide ((32 * g.at_ : Nat) ≤ x) with
  | some g => (32 * g.acc : Nat) + g.f * (x - (32 * g.at_ : Nat))
  | none => if l.isEmpty && decide (0 < x) then f0 * x else 0

/-- The word of a channel changes at pin time `x`, with a continuous phase; while TB1 is stopped ACC_D is 0 (R294, R189). -/
def demRetune (y c x f0 : Nat) (s : State) : State :=
  let f1 := s.actF (DEM_FREQ y c) DEM_FREQ_F
  if f0 = f1 then s
  else if ¬ s.tb1Run then s.modDem y c fun d => { d with nco := [] }
  else s.modDem y c fun d =>
    let l := if d.nco.isEmpty then [⟨0, 0, f0⟩] else d.nco
    { d with nco := (⟨x, (accD l f0 (32 * x : Nat) / 32).toNat % 2 ^ 40, f1⟩ :: l).take 64 }

/-- The channels whose word differs from that of an earlier state, from the present TB1 on (a commit, R71). -/
def demRetuneAll (old s : State) : State :=
  forEach allYards s fun y s => forEach (List.range 8) s fun c s =>
    demRetune y c s.tb1 (old.actF (DEM_FREQ y c) DEM_FREQ_F) s

/-- The delay of a channel at a pin time: whole samples and sixty-fourths (R293). -/
def State.delayAt (s : State) (y c p : Nat) : Nat × Nat :=
  (s.actAtF y 2 (DEM_DLY y c) p DEM_DLY_INT, s.actAtF y 2 (DEM_DLY y c) p DEM_DLY_FRAC)

/-- The phase of the mixer for pin instant `p`, in 2⁻²⁰ turns (R294). -/
def State.mixPhase (s : State) (y c p : Nat) : Nat :=
  let d := s.delayAt y c p
  let x : Int := (32 * p : Nat) - (64 * d.1 + d.2 : Nat)
  let a := accD (s.dem y c).nco (s.actF (DEM_FREQ y c) DEM_FREQ_F) x
  ((a + ((s.actAt y 2 (DEM_PHASE y c) p).toNat * 2 ^ 13 : Nat)) / (2 ^ 25 : Nat) % (2 ^ 20 : Nat)).toNat

/-- The product of a sample (s1.15) with exp(−i2πθ) of s1.17 for a phase of 2⁻²⁰ turns, rounded half to even to s1.23 before
saturation (R296). -/
def mixRaw (x : Int) (phase : Nat) : Int × Int :=
  if x = 0 then (0, 0)
  else
    let r := Config.cosSin phase
    (halfEven (x * sgn 18 r.1.toNat) 9, halfEven (-(x * sgn 18 r.2.toNat)) 9)

/-- Both parts saturated to s1.23, and how many of them were. -/
def satPair (r : Int × Int) : (Int × Int) × Nat :=
  let i := sat 24 r.1
  let q := sat 24 r.2
  ((i, q), b01 (i != r.1) + b01 (q != r.2))

/-- The sample that stage 1 presents for pin instant `p` (R250, R293). -/
def State.delayed (s : State) (y c p : Nat) (x : DSamp) : Int :=
  let d := s.delayAt y c p
  let f (v : Int) : Int := sat 16 (s.corrected (pairOf y) (p - 2 * d.1) v)
  if d.2 = 0 then f x.code else sgn 16 (Config.fracDelay d.2 (x.near.map f)).toNat

/-- Does it carry UNSETTLED: does one of the ADC samples that it is made of (R254, R304)? -/
def State.delayedUns (s : State) (y c p : Nat) : Bool :=
  let d := s.delayAt y c p
  if d.2 = 0 then s.adcUns (pairOf y) (p - 2 * d.1)
  else (List.range 8).any fun i => s.adcUns (pairOf y) (p + 6 - 2 * d.1 - 2 * i)

/-- The mixer for one sample of a window (R294, R296): the value, and the saturated parts. -/
def State.mixed (s : State) (y c p : Nat) (x : DSamp) : CSamp × Nat :=
  let r := satPair (mixRaw (s.delayed y c p x) (s.mixPhase y c p))
  (⟨r.1.1, r.1.2, s.delayedUns y c p⟩, r.2)

/-- Coefficient C_i of the decimator, by FIRSEL (R297). -/
def State.firCoef (s : State) (y c i : Nat) : Int :=
  if s.flag (DEM_CTL y c) DEM_CTL_FIRSEL then sgn 18 (s.fld (DEM_FIR y c i) DEM_FIR_C) else sgn 18 (Config.firRom i).toNat

/-- One part of a decimator output before saturation (R297, R299): 65 taps, tap `i` and tap 64 − `i` alike, newest input first, inputs
before the window 0 (R292). -/
def firRaw (cs : List Int) (xs : List Int) : Int :=
  halfEven (((List.range 65).map fun i => cs.getD (min i (64 - i)) 0 * xs.getD i 0).foldl (· + ·) 0) 17

/-- A decimator output from the mixed samples of a window, newest first. -/
def State.decimated (s : State) (y c : Nat) (xs : List CSamp) : CSamp × Nat :=
  let cs := (List.range 33).map (s.firCoef y c)
  let r := satPair (firRaw cs (xs.map (·.i)), firRaw cs (xs.map (·.q)))
  (⟨r.1.1, r.1.2, (xs.take 65).any (·.uns)⟩, r.2)

/-- An output of a half-band filter of 23 taps from its inputs, newest first. -/
def halfOut (xs : List CSamp) : CSamp × Nat :=
  let ys := xs.take 23
  let f (vs : List Int) : Int := if vs.all (· == 0) then 0 else Config.halfBand ((List.range 23).map fun i => vs.getD i 0)
  let r := satPair (f (ys.map (·.i)), f (ys.map (·.q)))
  (⟨r.1.1, r.1.2, ys.any (·.uns)⟩, r.2)

/-- Eight samples of a window pass the mixer; `p` is the pin instant of the first of them. -/
def State.mixEight (s : State) (y c p : Nat) (xs : List DSamp) (w : Win) : Win × Nat :=
  ((List.range 8).map fun i => s.mixed y c (p + 2 * i) (xs.getD i default)).foldl
    (fun a m => ({ a.1 with mix := (m.1 :: a.1.mix).take 72 }, a.2 + m.2)) (w, 0)

/-- Ft `m` of a window: eight samples and one decimator output. -/
def State.chainFt (s : State) (y c m : Nat) (xs : List DSamp) (w : Win) : Win × Nat :=
  let a := s.mixEight y c (w.s0 + ft * m) xs w
  let o := s.decimated y c a.1.mix
  ({ a.1 with out1 := (o.1 :: a.1.out1).take 23 }, a.2 + o.2)

/-- Ft `m` and the ft after it, and an output of the first half-band filter. -/
def State.chainTwo (s : State) (y c m : Nat) (xs : List DSamp) (w : Win) : Win × Nat :=
  let a := s.chainFt y c m xs w
  let b := s.chainFt y c (m + 1) (xs.drop 8) a.1
  let o := halfOut b.1.out1
  ({ b.1 with out2 := (o.1 :: b.1.out2).take 23 }, a.2 + b.2 + o.2)

/-- The next kernel sample of a window (R300, Table 9-2), what the filters then hold, and the saturated outputs of the stages. -/
def State.chain (s : State) (y c : Nat) (x : KIn) (w : Win) : KSample × Win × Nat :=
  let out (v : CSamp) (w : Win) (n : Nat) : KSample × Win × Nat := (⟨v.i, v.q, v.uns, x.ecc⟩, w, n)
  match s.kR y c with
  | 1 =>
    let a := s.chainFt y c w.k x.adc w
    out (a.1.out1.headD default) a.1 a.2
  | 2 =>
    let a := s.chainTwo y c (2 * w.k) x.adc w
    out (a.1.out2.headD default) a.1 a.2
  | _ =>
    let a := s.chainTwo y c (4 * w.k) x.adc w
    let b := s.chainTwo y c (4 * w.k + 2) (x.adc.drop 16) a.1
    let o := halfOut b.1.out2
    out o.1 b.1 (a.2 + b.2 + o.2)

/-! ### The kernel -/

/-- The running score in s1.23 before saturation (R306): weights are s1.15 and samples s1.23. -/
def State.scoreRaw (s : State) (y c : Nat) (w : Win) : Int × Int :=
  let sh := s.actAtF y 2 (DEM_KCFG y c) (kPin w.s0 (s.kR y c) (w.k - 1)) DEM_KCFG_SHIFT
  (halfEven w.accI (15 + sh), halfEven w.accQ (15 + sh))

/-- The running score. -/
def State.score (s : State) (y c : Nat) (w : Win) : Int × Int := (satPair (s.scoreRaw y c w)).1

/-- Saturated outputs are counted (R296). -/
def noteSat (y c n : Nat) (s : State) : State :=
  if 0 < n then (s.incBy (DEM_SAT_CNT y c) n).setF (DEM_STS y c) DEM_STS_SAT 1 else s

/-- The report of a weight that cannot be corrected: in a Mast-started window a program fault (R314). -/
def kernelEcc (y c : Nat) (w : Win) (s : State) : State :=
  if w.src = 0 then progFault y (s.fld (SEQ_PC y) (0, 15)) E_DEM_ECC_UNCORR s else s.report E_DEM_ECC_UNCORR y (8 * y + c)

/-- One kernel sample joins a window and gives a running score (R304, R305, R306, R314). -/
def kernelStep (y c : Nat) (x : KSample) (w : Win) (s : State) : Win × State :=
  let p := kPin w.s0 (s.kR y c) w.k
  let v : Int × Int := if x.ecc then (0, 0) else s.weightAt y c w.k (s.pinNow p)
  let i0 := w.accI + (x.i * v.1 - x.q * v.2)
  let q0 := w.accQ + (x.i * v.2 + x.q * v.1)
  let i := sat 64 i0
  let q := sat 64 q0
  let sampleUns : Bool := x.uns || s.chanUns y c p
  let w := { w with k := w.k + 1, accI := i, accQ := q, uns := w.uns || sampleUns || x.ecc }
  let s := noteSat y c (b01 (i != i0) + b01 (q != q0) + (satPair (s.scoreRaw y c w)).2) s
  let s := if sampleUns then s.inc (DEM_UNS_CNT y c) else s
  (w, if x.ecc then kernelEcc y c w s else s)

/-- The samples of one kernel sample pass the chain and join a window. -/
def kernelIn (y c : Nat) (x : KIn) (w : Win) (s : State) : Win × State :=
  let r := s.chain y c x w
  kernelStep y c r.1 r.2.1 (noteSat y c r.2.2 s)

/-- A free sample of the pair's ADC as a channel outside its windows sees it. -/
def State.freeSamp (s : State) : DSamp :=
  ⟨sgn 12 s.freeN, (List.range 8).map fun i => sgn 12 (Config.freeNat (s.bus.free + 1 + i))⟩

/-- The channels that have ever started. -/
def State.demsOn (s : State) : List (Nat × Nat) :=
  (s.cnv.dems.map fun d => (d.1 / 8, d.1 % 8)).filter fun x => s.cst x.1 x.2 == cSETTLING || s.cst x.1 x.2 == cRUNNING

/-- The mixer at this st (R289, R296): the stages run at all times while a channel is in SETTLING or RUNNING. The windows bring their
samples with CHECKPOINT_EVAL and FINAL_SCORE_EVAL; any other sample is free. -/
def mixTick (s : State) : State :=
  if s.phase % 2 = 0 then
    forEach s.demsOn s fun x s =>
      if s.tb1Run ∧ (s.dem x.1 x.2).wins.any fun w => decide (w.s0 ≤ s.clock.tb1) && decide (s.clock.tb1 < w.s0 + ft * w.len) then s
      else noteSat x.1 x.2 (s.mixed x.1 x.2 s.tb1 s.freeSamp).2 { s with bus := { s.bus with free := s.bus.free + 9 } }
  else s

/-! ### Channel state (Tables 9-5, 9-6) -/

/-- Setting CSTATE. -/
def State.setCst (s : State) (y c v : Nat) : State := s.setF (DEM_STS y c) DEM_STS_CSTATE v

/-- A channel starts (Table 9-5): STOPPED to SETTLING, histories 0. -/
def demStart (y c : Nat) (s : State) : State :=
  if s.chanEn y c ∧ s.cst y c = cSTOPPED ∧ s.flag (DEM_CTL y c) DEM_CTL_RUN then
    markChange y c s.clock.now ((s.setCst y c cSETTLING).modDem y c fun d => { d with startAt := s.clock.now })
  else s

/-- A channel goes to STOPPED, or to OFF when the image disables it (Table 9-6). -/
def demHalt (y c : Nat) (s : State) : State :=
  acqRefresh y c (if s.chanEn y c then s.setCst y c cSTOPPED else s.setCst y c cOFF)

/-- The ft boundary at which a channel follows a change of RUN (Table 9-5): a stopped one starts; one that stops ends its open windows
without a record. -/
def demEdge (y c : Nat) (s : State) : State :=
  match (s.dem y c).edge with
  | none => s
  | some t =>
    if s.clock.now < t then s
    else
      let s := s.modDem y c fun d => { d with edge := none }
      if s.flag (DEM_CTL y c) DEM_CTL_RUN then demStart y c s
      else if s.cst y c = cSETTLING ∨ s.cst y c = cRUNNING then demHalt y c (endWins y c (·.open_) s)
      else s

/-- A channel follows RUN at the next ft boundary. -/
def demNext (y c : Nat) (s : State) : State := s.modDem y c fun d => { d with edge := some s.nextEdge }

/-- A channel stops by an event of the device or of its yard: histories, accumulator, fade and held request are cleared, and every window
ends without a record. -/
def demStop (y c : Nat) (s : State) : State :=
  let b := s.bankAt y c s.clock.now
  let s := ((s.setF (DEM_STS y c) DEM_STS_ABANK b).setF (DEM_STS y c) DEM_STS_HELD 0).setF (DEM_STS y c) DEM_STS_HBANK 0
  let s := (endWins y c (fun _ => true) s).modDem y c fun d => { d with fades := [], held := none, swaps := [], edge := none }
  demHalt y c s

/-- All channels of a yard stop (entry into BOOT, CONFIG or SAFE, yard commit, island-hang reset). -/
def demStopAll (y : Nat) (s : State) : State := forEach (List.range 8) s fun c s => demStop y c s

/-- A channel is OFF when the image disables it and otherwise no longer OFF (Table 9-6). -/
def demEnable (y c : Nat) (s : State) : State :=
  if s.chanEn y c then (if s.cst y c = cOFF then s.setCst y c cSTOPPED else s) else s.setCst y c cOFF

/-- All channels of a yard with RUN 1 start (entry into CAL, READY or RUN). -/
def demStartAll (y : Nat) (s : State) : State := forEach (List.range 8) s fun c s => demStart y c (demEnable y c s)

/-- They start at the next ft boundary (end of a commit, R317). -/
def demStartNext (y : Nat) (s : State) : State := forEach (List.range 8) s fun c s => demNext y c (demEnable y c s)

/-- DEM_SETTLING_END: N kernel samples have been delivered since the start (R304, Table 9-5). -/
def demSettlingEnd (y c : Nat) (s : State) : State :=
  if s.cst y c = cSETTLING ∧ (s.dem y c).startAt + ft * (s.kN y c * s.kR y c) ≤ s.clock.now then s.setCst y c cRUNNING else s

/-- DEM_CTL (R315, R301): a change of RUN only while the group is IDLE or PAUSED; SECOND and FIRSEL only in OFF or STOPPED. -/
def demCtlWrite (y c v : Nat) (s : State) : State :=
  let run := s.flag (DEM_CTL y c) DEM_CTL_RUN
  let st := s.cst y c
  if bit v 31 ≠ run ∧ s.ygst y ≠ gIDLE ∧ s.ygst y ≠ gPAUSED then s.inc (DEM_WDROP_CNT y)
  else if bits v 5 4 = 3 then (s.status (DEM_STS y c) E_DEM_RSVD_ENC).inc (DEM_WDROP_CNT y)
  else if (bits v 5 4 ≠ s.fld (DEM_CTL y c) DEM_CTL_SECOND ∨ v % 2 ≠ s.fld (DEM_CTL y c) DEM_CTL_FIRSEL)
      ∧ st ≠ cOFF ∧ st ≠ cSTOPPED then
    (s.status (DEM_STS y c) E_DEM_RUNNING).inc (DEM_WDROP_CNT y)
  else
    let s := s.wrRW (DEM_CTL y c) v
    if bit v 31 ≠ run ∧ (s.dev = dCAL ∨ s.dev = dREADY ∨ s.dev = dRUN) then demNext y c s else s

/-- DEM_FIR (R301). -/
def demFirWrite (y c a v : Nat) (s : State) : State :=
  if s.cst y c = cOFF ∨ s.cst y c = cSTOPPED then s.wrRW a v
  else (s.status (DEM_STS y c) E_DEM_RUNNING).inc (DEM_WDROP_CNT y)

/-- Is a kernel bank in use (R309)? -/
def State.bankBusy (s : State) (y c b : Nat) : Bool := s.fading y c s.clock.now || s.bankAt y c s.clock.now == b

/-- A write of a bank in use is discarded (R309). -/
def bankDrop (y c : Nat) (s : State) : State := (s.status (DEM_STS y c) E_DEM_BANK_BUSY).inc (DEM_WDROP_CNT y)

/-- A kernel weight (R309). -/
def kwWrite (y c b m v : Nat) (s : State) : State :=
  if s.bankBusy y c b then bankDrop y c s else s.wrN (DEM_KW y c b m) (v % 2 ^ 32)

/-- DEM_KLEN (R309, Table 9-8): lengths 1 to 512, or the write is discarded; a change of the field of a bank in use is discarded, the
other field is written. The second component is the status of a refusal that is no discard of R309. -/
def klenWrite (y c v : Nat) (s : State) : State × Nat :=
  let a := bits v 9 0
  let b := bits v 25 16
  let bad := if b = 0 ∨ a = 0 then E_DEM_ZERO_LEN else if 512 < b ∨ 512 < a then E_DEM_RANGE else 0
  if bad ≠ 0 then (s.status (DEM_STS y c) bad, bad)
  else
    let keepA : Bool := a != s.kLen y c 0 && s.bankBusy y c 0
    let keepB : Bool := b != s.kLen y c 1 && s.bankBusy y c 1
    let t := s.wrN (DEM_KLEN y c) ((if keepA then s.kLen y c 0 else a) + 2 ^ 16 * (if keepB then s.kLen y c 1 else b))
    (if keepA || keepB then bankDrop y c t else t, 0)

/-! ### Bank swaps (R310 to R313) -/

/-- The first kernel-sample period at or after a pin instant (`now`): on the grid of the open window if there is one. -/
def State.swapStart (s : State) (y c t : Nat) : Nat :=
  match (s.dem y c).wins.getLast? with
  | some w =>
    let r := ft * s.kR y c
    let s0 := s.pinNow w.s0
    if s0 + r ≤ t + ft then s0 + (t + ft - s0 + r - 1) / r * r - ft else t
  | none => t

/-- A fade, or with XF 0 a switch, begins (R310, R311). -/
def fadeStart (y c t old new_ : Nat) (s : State) : State :=
  let xf := s.actAtF y 2 (DEM_KCFG y c) s.tb1 DEM_KCFG_XF
  s.modDem y c fun d => { d with fades := ⟨t, xf, s.kR y c, old, new_⟩ :: d.fades.take 63 }

/-- The end of a fade: the new bank is in force alone; a held request starts its own fade, or is discarded when it names the bank in force
(R312). -/
def fadeEnd (y c : Nat) (s : State) : State :=
  match (s.dem y c).fades, (s.dem y c).held with
  | f :: _, some b =>
    if s.clock.now < f.stop then s
    else
      let s := (s.setF (DEM_STS y c) DEM_STS_HELD 0).setF (DEM_STS y c) DEM_STS_HBANK 0
      let s := s.modDem y c fun d => { d with held := none }
      if b = f.new_ then s else fadeStart y c f.stop f.new_ b s
  | _, _ => s

/-- A swap request for bank `b` governs from this kernel-sample period on: it is held while a fade runs, starts a fade, or changes nothing
(R310 to R313). -/
def swapGo (y c b : Nat) (s : State) : State :=
  let t := s.clock.now
  if s.fading y c t then
    ((s.inc (DEM_XFADE_HELD y)).setF (DEM_STS y c) DEM_STS_HELD 1).setF (DEM_STS y c) DEM_STS_HBANK b |>.modDem y c
      fun d => { d with held := some b }
  else if s.bankAt y c t = b then s
  else fadeStart y c t (s.bankAt y c t) b s

/-- The requests whose kernel-sample period has come. -/
def swapsDue (y c : Nat) (s : State) : State :=
  let here := (s.dem y c).swaps.filter fun w => decide (w.1 ≤ s.clock.now)
  let s := s.modDem y c fun d => { d with swaps := d.swaps.filter fun w => !decide (w.1 ≤ s.clock.now) }
  forEach here s fun w s =>
    let t := s.swapStart y c s.clock.now
    if s.clock.now < t then s.modDem y c fun d => { d with swaps := (t, w.2) :: d.swaps } else swapGo y c w.2 s

/-- KERNEL_FADE_END: what a fade's end and the swap requests that now govern bring. -/
def kernelFadeEnd (y c : Nat) (s : State) : State := swapsDue y c (fadeEnd y c s)

/-- A hand-over of class 2 at H has made DEM_KSEL active: a swap request from the first kernel sample that R303 governs. -/
def swapRequest (y c h : Nat) (s : State) : State :=
  s.modDem y c fun d =>
    { d with swaps := d.swaps ++ [(s.pinNow (h + 16 * ft), s.actF (DEM_KSEL y c) DEM_KSEL_BANK)] }

/-! ### Hand-over (R205 to R209) -/

/-- Does a hand-over make the class active: OPEN without SEAL_EN, or SEALED? -/
def State.willMake (s : State) (y cls : Nat) : Bool :=
  s.shSt y cls == shSEALED || (s.shSt y cls == shOPEN && !s.sealEn y cls)

/-- What hangs on a class that a hand-over makes active: class 1 the monitor input that RB_SEL moves (R244), class 2 marked
samples (Table 9-4) and bank swaps. -/
def afterHand (y cls h : Nat) (old : State) (s : State) : State :=
  if cls = 1 then
    (if old.actF (BIA_CFG y) BIA_CFG_RB_SEL ≠ s.actF (BIA_CFG y) BIA_CFG_RB_SEL then monReadback (8 * (y / 4) + y % 4) s else s)
  else if cls = 2 then
    forEach (List.range 8) s fun c s =>
      let moved : Bool := [DEM_FREQ y c, DEM_PHASE y c, DEM_DLY y c].any fun a => old.actRd a != s.actRd a
      let s := demRetune y c (h + 16 * ft) (old.actF (DEM_FREQ y c) DEM_FREQ_F) s
      swapRequest y c h (if moved then markChange y c (s.pinNow (h + 16 * ft)) s else s)
  else s

/-- A hand-over at tick `h` of the classes in a mask. -/
def handOver (y mask h : Nat) (s : State) : State :=
  let made := (s.handNew y mask).filter fun c => s.willMake y c
  let note (c : Nat) : ActHist := ⟨y, c, h, ((shdRegs y c).filter fun a => s.actRd a != resetVal a).map fun a => (a, s.actRd a)⟩
  let hs := made.map note
  let t := handBase y mask s
  let t := { t with cnv := { t.cnv with hist := (hs ++ t.cnv.hist).take 512 } }
  forEach made t fun c t => afterHand y c h s t

/-- HANDOVER: the requests of the yard whose tick is now are carried out together (R205). -/
def handover (y : Nat) (s : State) : State :=
  match s.hoDue y with
  | [] => s
  | hs => handOver y (hoMask hs) (s.clock.tb1 / ft * ft) (s.hoDone y)

/-! ### Discriminators (R318 to R331) -/

/-- The states in use (R319). -/
def State.dscStates (s : State) (y c : Nat) : List Nat := if s.fld (DSC_CFG y c) DSC_CFG_MODE = 1 then [0, 1, 2] else [0, 1]

/-- L_i in 2⁻³⁹ (R318), with f in 2⁻¹⁵; `p` is the pin time of the newest sample (R328). -/
def State.linear (s : State) (y c p i : Nat) (sc : Int × Int) (f : Nat) : Int :=
  let v (a : Nat) : Int := sgn 24 (s.actAt y 3 a p).toNat
  v (DSC_A y c i) * sc.1 + v (DSC_B y c i) * sc.2 + (f : Int) * v (DSC_C y c i) * 2 ^ 8

/-- The first state with the largest L (R319). -/
def bestState : List (Nat × Int) → Nat × Int
  | [] => (0, 0)
  | [x] => x
  | x :: xs => let b := bestState xs; if b.2 ≤ x.2 then x else b

/-- Decided state and margin (R319). -/
def State.decide_ (s : State) (y c p : Nat) (sc : Int × Int) (f : Nat) : Nat × Int :=
  let ls := (s.dscStates y c).map fun i => (i, s.linear y c p i sc f)
  let b := bestState ls
  let o := bestState (ls.filter fun x => x.1 != b.1)
  (b.1, b.2 - o.2)

/-- A threshold of u8.16 in the scale of L. -/
def thr (n : Nat) : Int := (n : Int) * 2 ^ 23

/-- REPLAYED (R325): in a reset pass or an attempt whose replay count is above 0. -/
def State.replayed (s : State) (y : Nat) : Bool :=
  let g := s.grp (s.groupOf y)
  (s.ygst y == gRUNNING || s.ygst y == gPAUSING || s.ygst y == gABORTING) && (g.rpass || decide (0 < g.attempt))

/-- The six bits of a decision (Table 10-1). -/
def decWord (st : Nat) (early lowq replayed : Bool) : Nat :=
  st % 4 + 4 + b01 early * 8 + b01 lowq * 16 + b01 replayed * 32

/-- The pin time after which the score is at the discriminator, rounded to the ft (R291: a channel delay adds τ). -/
def State.chanDelay (s : State) (y c p : Nat) : Nat :=
  let i := s.actAtF y 2 (DEM_DLY y c) p DEM_DLY_INT
  let f := s.actAtF y 2 (DEM_DLY y c) p DEM_DLY_FRAC
  ft * ((64 * i + f + 511) / 512)

/-- E of a score (R347), with the channel delay added. -/
def State.scoreE (s : State) (y c : Nat) (w : Win) : Nat :=
  let p := kPin w.s0 (s.kR y c) (w.k - 1)
  p + ft + s.chanDelay y c p

/-- The counters that match a decision (R327). -/
def countDecision (y c d : Nat) (s : State) : State :=
  let s := if bit d 3 then s.inc (DSC_EARLY_CNT y c) else s
  let s := if bit d 4 then s.inc (DSC_LOWQ_CNT y c) else s
  if d % 4 = 2 then s.inc (DSC_LEAK_CNT y c) else s

/-- A decision is formed and stands in DSC_STS; it sets out for the Sheet (R333), or with SLOT_EN 0 for none (R331). -/
def formDecision (y c d cp : Nat) (w : Win) (s : State) : State :=
  let slot := if s.flag (DSC_CFG y c) DSC_CFG_SLOT_EN then s.fld (DSC_CFG y c) DSC_CFG_SLOT else 1024
  let x : Dec := ⟨slot, d, s.scoreE y c w + 32 * ft, y, c, 0, w.src == 0, w.s0, cp⟩
  let s := { s with cnv := { s.cnv with formed := s.cnv.formed ++ [x] } }
  (s.setF (DSC_STS y c) DSC_STS_DEC d).setF (DSC_STS y c) DSC_STS_CP cp

/-- The first window of a channel that has not had its last score. -/
def setFirstWin (y c : Nat) (w : Win) (s : State) : State :=
  s.modDem y c fun d => { d with wins := w :: d.wins.drop 1 }

/-- Is checkpoint `n` evaluated (R320)? -/
def State.cpOpen (s : State) (y c n : Nat) (w : Win) : Bool :=
  let p := kPin w.s0 (s.kR y c) (w.k - 1)
  let f (fl : Fld) : Nat := s.actAtF y 3 (DSC_ECFG y c) p fl
  f DSC_ECFG_EEN == 1 && decide (f DSC_ECFG_FIRST_CP ≤ n) && decide (n ≤ f DSC_ECFG_LAST_CP) && w.issued.isNone && !w.uns
    && decide (w.k < s.kCount y c w)

/-- Does the margin allow an early decision (R321)? -/
def State.earlyOk (s : State) (y c p st : Nat) (m : Int) : Bool :=
  let e := s.actAtF y 3 (DSC_ETHR y c st) p DSC_ETHR_ETHR
  e != 0 && decide (thr e ≤ m)

/-- LOWQ (R324). -/
def State.lowq (s : State) (y c p : Nat) (m : Int) (w : Win) : Bool :=
  decide (m < thr (s.actAtF y 3 (DSC_QTHR y c) p DSC_QTHR_QTHR)) || w.uns || w.trunc

/-- The checkpoint after the kernel samples accumulated so far (R320, R321): the window with the decision issued. -/
def checkpoint (y c : Nat) (w : Win) (s : State) : Win × State :=
  let n := w.k / 16
  let p := kPin w.s0 (s.kR y c) (w.k - 1)
  if w.k % 16 = 0 ∧ 1 ≤ n ∧ n ≤ 32 ∧ s.cpOpen y c n w then
    let (st, m) := s.decide_ y c p (s.score y c w) (s.actAtF y 3 (DSC_CPF y c n) p DSC_CPF_F)
    if s.earlyOk y c p st m then
      let d := decWord st true (s.lowq y c p m w) (s.replayed y)
      ({ w with issued := some (d, n, s.scoreE y c w + 32 * ft) }, formDecision y c d n w s)
    else (w, s)
  else (w, s)

/-- Has the running score of the next kernel sample passed the discriminator, 22 ft after its E (R333)? -/
def State.scoreHere (s : State) (y c : Nat) (w : Win) : Bool := s.reached (s.scoreE y c { w with k := w.k + 1 } + 22 * ft)

/-- A run of kernel samples that have come to the discriminator, with the checkpoints that they pass. -/
def kernelRun (y c : Nat) : List KIn → Win → State → Win × State
  | [], w, s => (w, s)
  | x :: xs, w, s =>
    if s.kCount y c w ≤ w.k ∨ ¬ s.scoreHere y c w then (w, s)
    else
      let r := kernelIn y c x w s
      let r := checkpoint y c r.1 r.2
      kernelRun y c xs r.1 r.2

/-- CHECKPOINT_EVAL: the next samples of the channel's window are accumulated, and the checkpoints that they pass are evaluated. -/
def checkpointEval (y c : Nat) (xs : List KIn) (s : State) : State :=
  match (s.dem y c).wins with
  | [] => s
  | w :: _ =>
    let r := kernelRun y c xs w s
    acqRefresh y c (setFirstWin y c r.1 r.2)

/-- The margin of a WINDOW record: u8.16, truncated and saturated. -/
def marginField (m : Int) : Nat := min 0xFFFFFF (m.toNat / 2 ^ 23)

/-- The WINDOW record (Table 16-11). -/
def windowRecord (y c : Nat) (w : Win) (time dec cp fin : Nat) (m : Int) (sc : Int × Int) (short flip : Bool) (s : State) :
    State :=
  let w2 := w.tag % 4096 + c * 2 ^ 16 + dec * 2 ^ 24 + cp * 2 ^ 32 + fin * 2 ^ 40
    + (b01 flip + b01 w.trunc * 2 + b01 short * 4 + b01 w.uns * 8) * 2 ^ 48
  s.passRec y w.pass 2 time [w2, marginField m, unsgn 32 sc.1 + 2 ^ 32 * unsgn 32 sc.2, w.s0, 0, 0] (w.src != 0)

/-- The window leaves the channel. -/
def dropFirstWin (y c : Nat) (s : State) : State := acqRefresh y c (s.modDem y c fun d => { d with wins := d.wins.drop 1 })

/-- The evaluation of the score with LAST (R308, R322 to R327). -/
def finalScore (y c : Nat) (w : Win) (s : State) : State :=
  let sc := s.score y c w
  let p := kPin w.s0 (s.kR y c) (w.k - 1)
  let (st, m) := s.decide_ y c p sc (2 ^ 15)
  match w.issued with
  | some (d, n, t) =>
    let flip : Bool := st != d % 4
    dropFirstWin y c (windowRecord y c w t d n st m sc false flip (s.when flip fun s => s.inc (DSC_FLIP_CNT y c)))
  | none =>
    let d := decWord st false (s.lowq y c p m w) (s.replayed y)
    dropFirstWin y c (windowRecord y c w (s.scoreE y c w + 32 * ft) d 0 st m sc false false (formDecision y c d 0 w s))

/-- The single score of a window of fewer than R ft (R308): no decision (R326). -/
def shortScore (y c : Nat) (w : Win) (s : State) : State :=
  let s := s.setF (DEM_STS y c) DEM_STS_SHORT 1
  dropFirstWin y c (windowRecord y c w (w.s0 + ft * (w.len + 22)) 0 0 0 0 (0, 0) true false s)

/-- FINAL_SCORE_EVAL: the last kernel samples are accumulated, and once all have come the score with LAST is evaluated. -/
def finalScoreEval (y c : Nat) (xs : List KIn) (s : State) : State :=
  match (s.dem y c).wins with
  | [] => s
  | w :: _ =>
    if w.open_ then s
    else if s.kCount y c w = 0 then (if s.reached (w.s0 + ft * (w.len + 22)) then shortScore y c w s else s)
    else
      let r := kernelRun y c xs w s
      let s := setFirstWin y c r.1 r.2
      if r.1.k = s.kCount y c r.1 then finalScore y c r.1 s else s

/-- The writers of a slot (R332) other than a discriminator of the yard and channel named: no more than one of either
kind. -/
def State.slotWriters (s : State) (slot y c : Nat) : Bool :=
  s.regs.any fun (a, v) =>
    (decide (0x1000000 ≤ a ∧ a < 0x2000000) && decide (0x4400 ≤ a % 0x40000 ∧ a % 0x40000 < 0x4C00) && a % 0x100 == 0
      && getF v DSC_CFG_SLOT_EN == 1 && getF v DSC_CFG_SLOT == slot && a != DSC_CFG y c)
    || (decide (0xB30000 ≤ a ∧ a < 0xB36000) && getF v SHT_IMAP_EN == 1 && getF v SHT_IMAP_LOCAL == slot)

/-- The checks of a DSC_CFG write (R330): 0 when they pass. -/
def State.dscCfgCheck (s : State) (y c v : Nat) : Nat :=
  let en := bit v 10
  let slot := v % 1024
  let news : Bool := en && (!s.flag (DSC_CFG y c) DSC_CFG_SLOT_EN || slot != s.fld (DSC_CFG y c) DSC_CFG_SLOT)
  if 2 ≤ bits v 17 16 then E_DSC_RSVD_ENC
  else if news ∧ ¬ s.yardMay y 8 slot then E_IMG_RES_BUSY
  else if news ∧ s.slotWriters slot y c then E_DSC_SLOT_BUSY
  else 0

/-- DSC_CFG (R329, R330): only while the group is IDLE. -/
def dscCfgWrite (y c v : Nat) (s : State) : State :=
  if ¬ s.yIdle y then s.inc (DSC_WDROP_CNT y)
  else
    let code := s.dscCfgCheck y c v
    let s := s.denyIf code 8 (v % 1024) 1 y
    let s := s.status (DSC_STS y c) code
    if code = 0 then s.wrRW (DSC_CFG y c) v else s

/-! ### The commands -/

/-- HANDOVER of yard `y`. -/
def execHandover (y : Nat) (s : State) : Host.Outcome State Fault Refusal := .next (handover y s)

/-- DEM_CTL_WRITE. -/
def execDemCtlWrite (y c v : Nat) (s : State) : Host.Outcome State Fault Refusal :=
  .next (hostWr (DEM_CTL y c) (demCtlWrite y c v) s)

/-- DEM_SETTLING_END. -/
def execDemSettlingEnd (y c : Nat) (s : State) : Host.Outcome State Fault Refusal := .next (demSettlingEnd y c s)

/-- KERNEL_WEIGHT_WRITE: weight `m` of bank `b`, or with `m` 512 the lengths in DEM_KLEN. -/
def execKernelWeightWrite (y c b m v : Nat) (s : State) : Host.Outcome State Fault Refusal :=
  if m = 512 then .next (hostWr (DEM_KLEN y c) (fun s => (klenWrite y c v s).1) s)
  else .next (hostWr (DEM_KW y c b m) (kwWrite y c b m v) s)

/-- KERNEL_FADE_END. -/
def execKernelFadeEnd (y c : Nat) (s : State) : Host.Outcome State Fault Refusal := .next (kernelFadeEnd y c s)

/-- CHECKPOINT_EVAL, with the kernel samples since the last evaluation. -/
def execCheckpointEval (y c : Nat) (xs : List KIn) (s : State) : Host.Outcome State Fault Refusal :=
  .next (checkpointEval y c xs s)

/-- FINAL_SCORE_EVAL, with the kernel samples since the last evaluation. -/
def execFinalScoreEval (y c : Nat) (xs : List KIn) (s : State) : Host.Outcome State Fault Refusal :=
  .next (finalScoreEval y c xs s)

/-- DSC_CFG_WRITE. -/
def execDscCfgWrite (y c v : Nat) (s : State) : Host.Outcome State Fault Refusal :=
  .next (hostWr (DSC_CFG y c) (dscCfgWrite y c v) s)

end Sys2Proof.Machine
end

