-- ==== Sys2Proof/Machine/Sheet.lean ====
section
/-! DEFINITION. The Sheet (chapter 10, second half): slots, parity taps, forwarding. -/

namespace Sys2Proof.Machine

/-! ### Slots (R332 to R335) -/

/-- The six bits of the decision in a slot. -/
def State.slotDec (s : State) (i : Nat) : Nat := s.fld (SHT_SLOT i) SHT_SLOT_DEC

/-- The full release time of the decision in a slot. -/
def State.slotRel (s : State) (i : Nat) : Nat := ((tget s.cnv.rels i).headD (0, 0)).1

/-- The value of a decision (R336). -/
def decValue (d : Nat) : Nat := b01 (d % 4 == 1 || d % 4 == 2)

/-- A slot is cleared: decision 0, SRC 0xFF, REL 0; what has entered for it and is released after the clear is withdrawn (R335). -/
def slotClear (i : Nat) (s : State) : State :=
  let s := s.wrN (SHT_SLOT i) (0xFF * 2 ^ 16)
  { s with cnv := { s.cnv with rels := tput s.cnv.rels i [], entered := s.cnv.entered.filter fun d => d.slot != i || decide (s.tb1Run ∧ d.rel ≤ s.clock.tb1) } }

/-- Every slot is cleared (entry into SAFE). -/
def slotClearAll (s : State) : State := forEach (List.range 1024) s fun i s => slotClear i s

/-- The slots written by a yard alone (an island-hang reset). -/
def State.writtenSlots (s : State) (y : Nat) : List Nat :=
  (List.range 8).filterMap fun c =>
    if s.flag (DSC_CFG y c) DSC_CFG_SLOT_EN then some (s.fld (DSC_CFG y c) DSC_CFG_SLOT) else none

/-- SHEET_ENTRY: the decision that discriminator `c` of yard `y` formed enters the Sheet 8 ft before its release (R333), and counts (R327);
one that came later than its release is discarded (R40). -/
def sheetEntry (y c : Nat) (s : State) : State :=
  match s.cnv.formed.find? fun d => d.yard == y && d.chan == c with
  | none => s
  | some d =>
    if ¬ s.reached (d.rel - 8 * ft) then s
    else
      let s := countDecision y c d.dec { s with cnv := { s.cnv with formed := s.cnv.formed.erase d } }
      if 1024 ≤ d.slot then s
      else if d.rel < s.clock.tb1 then s.inc GLB_LATE_CNT
      else { s with cnv := { s.cnv with entered := s.cnv.entered ++ [d] } }

/-- Decisions of Mast-started windows that have not entered the Sheet are withdrawn at an ABORT (R54, R326). -/
def withdrawFormed (y : Nat) (p : Dec → Bool) (s : State) : State :=
  { s with cnv := { s.cnv with formed := s.cnv.formed.filter fun d => !(d.yard == y && p d) } }

/-! ### Parity taps (R336 to R340) -/

/-- Input `n` of a tap register: enabled, PREV, slot. -/
def tapIn (v : Word) (n : Nat) : Bool × Bool × Nat :=
  let x := getF v (12 * n, 12)
  (bit x 11, bit x 10, x % 1024)

/-- Its enabled current inputs. -/
def tapCurrent (v : Word) : List Nat := (List.range 4).filter fun n => (tapIn v n).1 && !(tapIn v n).2.1

/-- The state of a tap. -/
def State.tap (s : State) (t : Nat) : TapSt := tget s.cnv.taps t

/-- Changing it. -/
def State.setTap (s : State) (t : Nat) (x : TapSt) : State := { s with cnv := { s.cnv with taps := tput s.cnv.taps t x } }

/-- The decision held for an input. -/
def TapSt.got (x : TapSt) (n : Nat) : Option Nat := x.sat.getD n none

/-- The word of a tap in force: one that a write has cleared stands until the next ft boundary (R340). -/
def State.tapWord (s : State) (t : Nat) : Word :=
  match (s.tap t).off with
  | some o => if s.clock.now < o.1 then BitVec.ofNat 64 o.2 else s.rd (SHT_TAP t)
  | none => s.rd (SHT_TAP t)

/-- A slot has released `d`: the current inputs of the tap on it take it, and an earlier one that was held counts as
overwritten (R336, R338). -/
def tapTake (t slot d : Nat) (s : State) : State :=
  let v := s.tapWord t
  let x := s.tap t
  let ns := (tapCurrent v).filter fun n => (tapIn v n).2.2 == slot
  let n := (ns.filter fun n => (x.got n).isSome).length
  let sat := (List.range 4).map fun n => if ns.contains n then some d else x.got n
  (s.incBy SHT_TAP_OVW_CNT n).setTap t { x with sat := sat }

/-- The detector bit of a tap whose current inputs are all satisfied (R337). -/
def State.tapBit (s : State) (t rel : Nat) : Det :=
  let v := s.tapWord t
  let x := s.tap t
  let cur := (tapCurrent v).map fun n => (x.got n).getD 0
  let prev := ((List.range 4).filter fun n => (tapIn v n).1 && (tapIn v n).2.1).map fun n => x.prev.getD n 0
  let val := ((cur.map decValue ++ prev).foldl (· + ·) 0) % 2
  ⟨getF v SHT_TAP_DET, val, cur.any (fun d => d % 4 == 2), cur.any (fun d => bit d 4), cur.any (fun d => bit d 5), rel⟩

/-- The decision that a slot holds once everything due at a release time has been released. -/
def State.slotAt (s : State) (i rel : Nat) : Nat :=
  match s.cnv.entered.find? fun d => d.slot == i && d.rel == rel with
  | some d => d.dec
  | none => s.slotDec i

/-- Does the tap fire? -/
def State.tapFull (s : State) (t : Nat) : Bool := (tapCurrent (s.tapWord t)).all fun n => ((s.tap t).got n).isSome

/-- It fires: the bit sets out for the decoder and the inputs become unsatisfied; PREV inputs keep the value of their slot
(R336, R337). -/
def tapFire (t rel : Nat) (s : State) : State :=
  let v := s.tapWord t
  let d := s.tapBit t rel
  let prev := (List.range 4).map fun n => decValue (s.slotAt (tapIn v n).2.2 rel)
  let s := (s.setTap t { s.tap t with prev := prev, sat := [] }).inc SHT_TAP_FIRE_CNT
  { s with cnv := { s.cnv with dets := s.cnv.dets ++ [d] } }

/-- The enabled taps with a current input on a slot. -/
def State.tapsOn (s : State) (slot : Nat) : List Nat :=
  let regs := s.regs.filterMap fun (a, _) => if decide (0xB40000 ≤ a ∧ a < 0xB44000) then some ((a - 0xB40000) / 8) else none
  (regs ++ (s.cnv.taps.map (·.1)).filter fun t => !regs.contains t).filter fun t =>
    getF (s.tapWord t) SHT_TAP_EN == 1 && (tapCurrent (s.tapWord t)).any fun n => (tapIn (s.tapWord t) n).2.2 == slot

/-- One tap at the release of a slot. -/
def tapRelease (slot d rel t : Nat) (s : State) : State :=
  let s := tapTake t slot d s
  if s.tapFull t then tapFire t rel s else s

/-! ### Forwarding (R341 to R345) -/

/-- Is the transmit direction of a link up: UP or DEGRADED, in LS0 (R477)? -/
def State.linkUp (s : State) (l : Nat) : Bool :=
  (s.fld (OZL_STS l) OZL_STS_LSTATE == 3 || s.fld (OZL_STS l) OZL_STS_LSTATE == 4)
    && s.fld (OZL_PMSTS l) OZL_PMSTS_TX_LS == 0

/-- Does it run with one lane lost? -/
def State.linkThree (s : State) (l : Nat) : Bool := s.fld (OZL_STS l) OZL_STS_TXMAP != 0xF

/-- One copy per link named, but not back on the link it came from (R341, R343), and none on a link that is down (R345). A
copy is never released before an earlier one of the same direction (R474). -/
def fwdSend (d : Dec) (l : Nat) (s : State) : State :=
  if d.link = l + 1 then s
  else if s.linkUp l then
    let rel := max (d.rel + (if s.linkThree l then 1800 else 90 * ft)) (tget s.ozl.fbLast l)
    { s with cnv := { s.cnv with copies := s.cnv.copies ++ [⟨l, d.slot, d.dec, rel⟩] },
             ozl := { s.ozl with fbLast := tput s.ozl.fbLast l rel } }
  else s.inc SHT_FWD_DOWN_CNT

/-- An uncorrectable error in the entry of a tap disables it (Table 10-9). -/
def tapEcc (t : Nat) (s : State) : State := ((s.setF (SHT_TAP t) SHT_TAP_EN 0).setTap t default).report E_SHT_ECC_UNCORR islHub t

/-- The same for a map entry. -/
def imapEcc (l j : Nat) (s : State) : State := (s.setF (SHT_IMAP l j) SHT_IMAP_EN 0).report E_SHT_ECC_UNCORR islHub (1024 * l + j)

/-- The earliest shot origin of a Mast that is not IDLE: no release before it is counted any more (R108). -/
def State.firstOrigin (s : State) : Option Nat :=
  ((allYards.filter fun y => s.mst y != mIDLE).map fun y => s.rdN (SEQ_ORIGIN y)).min?

/-- A release joins those of its slot. -/
def State.noteRel (s : State) (slot rel dec : Nat) : State :=
  let old := match s.firstOrigin with
    | some o => (tget s.cnv.rels slot).filter fun r => decide (o ≤ r.1)
    | none => []
  { s with cnv := { s.cnv with rels := tput s.cnv.rels slot ((rel, dec) :: old) } }

/-- SLOT_RELEASE: at its release time the decision stands in its slot, satisfies tap inputs and is forwarded (R333, R336,
R341); `bad` are taps whose entry is found uncorrectable. -/
def slotRelease (slot : Nat) (bad : List Nat) (s : State) : State :=
  match s.cnv.entered.find? fun d => d.slot == slot && s.atTb1 d.rel with
  | none => s
  | some d =>
    let s := { s with cnv := { s.cnv with entered := s.cnv.entered.erase d } }.noteRel slot d.rel d.dec
    let src := if d.link = 0 then d.yard else 0x40 + d.link
    let s := s.wrN (SHT_SLOT slot) (d.rel % 2 ^ 40 * 2 ^ 24 + src * 2 ^ 16 + d.dec)
    let s := forEach ((s.tapsOn slot).filter bad.contains) s tapEcc
    let s := forEach (s.tapsOn slot) s fun t s => tapRelease slot d.dec d.rel t s
    forEach ((List.range 6).filter fun l => bit (s.fld (SHT_FWD slot) SHT_FWD_LINKS) l) s fun l s => fwdSend d l s

/-- FWD_COPY_ARRIVAL on link `l` from source slot `j` (R342, R344): discarded without a map entry or when late, otherwise
released into the local slot at its own time. -/
def fwdCopyArrival (l j d rel : Nat) (ecc : Bool) (s : State) : State :=
  let s := s.when (ecc && s.flag (SHT_IMAP l j) SHT_IMAP_EN) (imapEcc l j)
  let m := s.rd (SHT_IMAP l j)
  if getF m SHT_IMAP_EN = 0 then s.inc SHT_FWD_DROP_CNT
  else if rel < s.tb1 then (s.inc SHT_FWD_LATE_CNT).inc GLB_LATE_CNT
  else { s with cnv := { s.cnv with entered := s.cnv.entered ++ [⟨getF m SHT_IMAP_LOCAL, d % 64, rel, 0, 0, l + 1, false, 0, 0⟩] } }

/-! ### Register writes (R340, R346) -/

/-- Are the input slots of a tap all owned by one partition or by yards of one partition (R340)? -/
def State.tapOwned (s : State) (v : Word) : Bool :=
  let ps := ((List.range 4).filter fun n => (tapIn v n).1).map fun n => s.partOfInst 8 (tapIn v n).2.2
  match ps with
  | [] => true
  | p :: _ => p.isSome && ps.all fun q => q == p

/-- The first input slot of a tap that its partition does not hold. -/
def State.tapStray (s : State) (v : Word) : Nat :=
  let slots := ((List.range 4).filter fun n => (tapIn v n).1).map fun n => (tapIn v n).2.2
  firstNot slots fun i => (s.partOfInst 8 i).isSome && s.partOfInst 8 i == s.partOfInst 8 (slots.headD 0)

/-- SHT_TAP (R340): a tap that is cleared is off from the next ft boundary, with its satisfied inputs discarded. -/
def tapWrite (t v : Nat) (s : State) : State :=
  let w := BitVec.ofNat 64 v &&& rwMask (SHT_TAP t)
  let old := s.tapWord t
  let set (s : State) : State := (s.wr (SHT_TAP t) w).status SHT_STS 0
  if getF old SHT_TAP_EN = 1 then
    if bit v 63 then s.status SHT_STS E_SHT_TAP_BUSY
    else (set s).setTap t { s.tap t with off := some (((s.tap t).off.map (·.1)).getD s.nextEdge, old.toNat) }
  else if ¬ bit v 63 then set s
  else if tapCurrent w = [] then s.status SHT_STS E_SHT_TAP_CFG
  else if ¬ s.tapOwned w then (s.deny 8 (s.tapStray w) 4 0).status SHT_STS E_IMG_RES_BUSY
  else (set s).setTap t default

/-- The checks of SHT_IMAP with EN 1 (R332, R346): the slot has an owner and no other writer. -/
def State.imapCheck (s : State) (l j v : Nat) : Nat :=
  let slot := v % 1024
  let same : Bool := s.flag (SHT_IMAP l j) SHT_IMAP_EN && s.fld (SHT_IMAP l j) SHT_IMAP_LOCAL == slot
  if ¬ bit v 31 then 0
  else if (s.ownOf 8 slot).isNone then E_IMG_RES_BUSY
  else if ¬ same ∧ s.slotWriters slot 64 0 then E_SHT_SLOT_BUSY
  else 0

/-- SHT_IMAP. -/
def imapWrite (l j v : Nat) (s : State) : State :=
  let code := s.imapCheck l j v
  let s := (s.denyIf code 8 (v % 1024) 4 0).status SHT_STS code
  if code = 0 then s.wrRW (SHT_IMAP l j) v else s

/-- SHT_FWD. -/
def fwdWrite (i v : Nat) (s : State) : State := (s.wrRW (SHT_FWD i) v).status SHT_STS 0

/-! ### The commands -/

/-- SHEET_ENTRY. -/
def execSheetEntry (y c : Nat) (s : State) : Host.Outcome State Fault Refusal := .next (sheetEntry y c s)

/-- SLOT_RELEASE. -/
def execSlotRelease (slot : Nat) (bad : List Nat) (s : State) : Host.Outcome State Fault Refusal := .next (slotRelease slot bad s)

/-- FWD_COPY_ARRIVAL. -/
def execFwdCopyArrival (l j d rel : Nat) (ecc : Bool) (s : State) : Host.Outcome State Fault Refusal :=
  .next (fwdCopyArrival l j d rel ecc s)

/-- SHT_TAP_WRITE. -/
def execShtTapWrite (t v : Nat) (s : State) : Host.Outcome State Fault Refusal :=
  .next (hostWr (SHT_TAP t) (tapWrite t v) s)

/-- SHT_IMAP_WRITE. -/
def execShtImapWrite (l j v : Nat) (s : State) : Host.Outcome State Fault Refusal :=
  .next (hostWr (SHT_IMAP l j) (imapWrite l j v) s)

end Sys2Proof.Machine
end

