-- ==== Sys2Proof/Machine/Mast.lean ====
section
/-! DEFINITION. The Mast sequencers (chapter 3): instruction words and their checks, issue of timed instructions, loops,
waits, the journal. -/

namespace Sys2Proof.Machine

/-! ### Instruction words (Tables 3-4, 3-5) -/

/-- The instructions of Table 3-4, SYNC by its mode; `bad` stands for a reserved opcode. -/
inductive MOp
  | nop | end_ | wait | syncGroup | syncTrig | syncAlign | fence | commit | br | brc | waitd | loop
  | play | acq | frame | bias | mark | setr | movi | alu | ldd | gets | result | bad
  deriving DecidableEq, Repr, Inhabited

/-- The instruction of a word; a reserved SYNC mode falls under SYNC GROUP, whose issue checks it. -/
def mop (w : Nat) : MOp :=
  match bits w 63 56 with
  | 0x00 => .nop
  | 0x01 => .end_
  | 0x02 => .wait
  | 0x03 => if bits w 55 53 = 1 then .syncTrig else if bits w 55 53 = 2 then .syncAlign else .syncGroup
  | 0x04 => .fence
  | 0x05 => .commit
  | 0x08 => .br
  | 0x09 => .brc
  | 0x0A => .waitd
  | 0x0B => .loop
  | 0x10 => .play
  | 0x11 => .acq
  | 0x12 => .frame
  | 0x13 => .bias
  | 0x14 => .mark
  | 0x15 => .setr
  | 0x18 => .movi
  | 0x19 => .alu
  | 0x1A => .ldd
  | 0x1B => .gets
  | 0x1C => .result
  | _ => .bad

/-- The fields of an instruction in [55:0], from the highest bits down (Table 3-4). -/
def mFields : MOp → List (Nat × Nat)
  | .nop => []
  | .end_ => [(0, 0)]
  | .wait => [(55, 55), (52, 48), (39, 0)]
  | .syncGroup => [(55, 53), (52, 49), (48, 48), (39, 16), (5, 0)]
  | .syncTrig => [(55, 53), (52, 49), (48, 48), (39, 16), (5, 0)]
  | .syncAlign => [(55, 53), (52, 49), (48, 48), (39, 16), (5, 0)]
  | .fence => []
  | .commit => [(55, 52)]
  | .br => [(14, 0)]
  | .brc => [(55, 53), (52, 48), (47, 43), (42, 42), (14, 0)]
  | .waitd => [(55, 46), (45, 44), (43, 42), (41, 41), (39, 16), (14, 0)]
  | .loop => [(55, 54), (53, 53), (52, 48), (34, 20), (19, 0)]
  | .play => [(55, 51), (50, 49), (48, 37), (36, 36), (31, 16)]
  | .acq => [(55, 48), (47, 47), (43, 32), (23, 0)]
  | .frame => [(55, 52), (51, 49), (48, 48), (47, 43), (39, 0)]
  | .bias => [(53, 53), (52, 48), (19, 0)]
  | .mark => [(55, 53), (52, 51), (23, 0)]
  | .setr => [(55, 38), (37, 37), (36, 32), (31, 0)]
  | .movi => [(52, 48), (47, 0)]
  | .alu => [(55, 52), (51, 47), (46, 42), (41, 37), (36, 36), (31, 0)]
  | .ldd => [(55, 46), (45, 41)]
  | .gets => [(55, 52), (51, 47)]
  | .result => [(55, 44), (43, 39), (38, 34), (33, 33)]
  | .bad => []

/-- Is no reserved bit of the word 1 (R99)? -/
def rsvdClear (w : Nat) : Bool :=
  ((mFields (mop w)).foldl (fun n f => n + bits w f.1 f.2 * 2 ^ f.2) 0) == w % 2 ^ 56

/-- Does a field hold a reserved encoding (Table 3-5)? -/
def rsvdEnc (w : Nat) : Bool :=
  match mop w with
  | .syncGroup => decide (3 ≤ bits w 55 53)
  | .play => decide (20 ≤ bits w 55 51) || bits w 50 49 == 3
  | .frame => decide (5 ≤ bits w 51 49)
  | .mark => bits w 52 51 == 3
  | .brc => decide (6 ≤ bits w 55 53)
  | .waitd => bits w 45 44 == 3
  | .alu => decide (11 ≤ bits w 55 52)
  | .gets => decide (5 ≤ bits w 55 52)
  | _ => false

/-- The microwords of an instruction (Table 3-4). -/
def microCount (w : Nat) : Nat :=
  match mop w with
  | .end_ => 2
  | .syncGroup => 3
  | .syncTrig => 3
  | .syncAlign => 3
  | .brc => 2
  | .waitd => 4
  | .loop => 2
  | .play => 3
  | .acq => 3
  | .frame => if bits w 51 49 = 2 ∨ bits w 51 49 = 3 then 3 else 2
  | .bias => 2
  | .mark => 2
  | .setr => 2
  | .movi => 2
  | .alu => if bits w 55 52 = 10 then 6 else 1
  | .ldd => 2
  | .result => 2
  | _ => 1

/-- Is the instruction timed (class T of Table 3-4)? -/
def timedOp (o : MOp) : Bool :=
  match o with
  | .commit => true
  | .play => true
  | .acq => true
  | .frame => true
  | .bias => true
  | .mark => true
  | .setr => true
  | _ => false

/-- May the instruction not end a loop body (R117)? -/
def noBodyEnd (o : MOp) : Bool :=
  match o with
  | .end_ => true
  | .br => true
  | .brc => true
  | .waitd => true
  | .loop => true
  | _ => false

/-! ### Mast registers -/

/-- 2⁴⁸. -/
def p48 : Nat := 2 ^ 48

/-- G register `i`. -/
def State.g (s : State) (y i : Nat) : Nat := s.rdN (SEQ_G y i)

/-- Writing it modulo 2⁴⁸ (R100). -/
def State.setG (s : State) (y i v : Nat) : State := s.wrN (SEQ_G y i) (v % p48)

/-- The time cursor, the shot origin, the program counter, the program length. -/
def State.tq (s : State) (y : Nat) : Nat := s.rdN (SEQ_TQ y)
def State.setTq (s : State) (y v : Nat) : State := s.wrN (SEQ_TQ y) v
def State.origin (s : State) (y : Nat) : Nat := s.rdN (SEQ_ORIGIN y)
def State.pc (s : State) (y : Nat) : Nat := s.fld (SEQ_PC y) SEQ_PC_PC
def State.setPc (s : State) (y v : Nat) : State := s.setF (SEQ_PC y) SEQ_PC_PC v
def State.progLen (s : State) (y : Nat) : Nat := s.fld (SEQ_PROG_LEN y) SEQ_PROG_LEN_LEN

/-- LC register `j`, one of four. -/
def State.lc (s : State) (y j : Nat) : Nat := s.rdN (SEQ_LC y (j % 4))
def State.setLc (s : State) (y j v : Nat) : State := s.wrN (SEQ_LC y (j % 4)) (v % 2 ^ 20)

/-- The instruction word at an index of the yard's slice of the sequence store. -/
def State.word (s : State) (y pc : Nat) : Nat := ldBytes s.seq.store (262144 * y + 8 * pc) 8

/-- The largest value TQ may take (R107). -/
def tqMax : Nat := 2 ^ 48 - 16

/-- The release time of a timed instruction at the cursor (R91). -/
def State.relAt (s : State) (y : Nat) : Nat := s.origin y + s.tq y - 16 * ft

/-! ### Checks (R671) -/

/-- Zero counts, lengths and timeouts (R101). -/
def State.zeroErr (s : State) (y w : Nat) : Bool :=
  match mop w with
  | .wait => bits w 55 55 == 0 && bits w 39 0 == 0
  | .acq => bits w 23 0 == 0
  | .mark => bits w 52 51 == 2 && bits w 23 0 == 0
  | .loop => (if bits w 53 53 = 0 then bits w 19 0 else s.g y (bits w 52 48) % 2 ^ 20) == 0
  | .waitd => bits w 39 16 == 0
  | .syncGroup => bits w 39 16 == 0
  | .syncTrig => bits w 39 16 == 0
  | _ => false

/-- Does a SETR offset name an RW or SHD register of the yard page outside the Mast and microcode registers (R104, R147) that
no chapter closes to SETR (R302, R329)? -/
def setrMay (y off : Nat) : Bool :=
  let a := 0x1000000 + 0x40000 * y + off
  let closed : Bool := decide (off < 0x800)
    || (decide (0x3200 ≤ off ∧ off < 0x4200) && (off % 0x200 == 0 || decide (0x100 ≤ off % 0x200 ∧ off % 0x200 < 0x184)))
    || (decide (0x4400 ≤ off ∧ off < 0x4C00) && off % 0x100 == 0)
  !closed && (match regRow a with | some r => r.rw != 0 || r.shd != 0 | none => false)

/-- The ranges of Table 3-5 and R104; the value is the status. SYNC.K is judged where it is used, in ALIGN (log entry 95). -/
def State.rangeErr (s : State) (y w : Nat) : Nat :=
  match mop w with
  | .acq => if bits w 55 48 = 0 then E_SEQ_RANGE else 0
  | .commit => if bits w 55 52 = 0 then E_SEQ_RANGE else 0
  | .syncAlign => if 40 < bits w 5 0 then E_SEQ_RANGE else 0
  | .frame =>
    let v := if bits w 48 48 = 1 then s.g y (bits w 47 43) % 2 ^ 40 else bits w 39 0
    if bits w 51 49 ≤ 1 ∧ v / 2 ^ 32 ≠ 0 then E_SEQ_RANGE else 0
  | .setr => if bits w 55 38 % 4 ≠ 0 then E_SEQ_RANGE else if setrMay y (bits w 55 38) then 0 else E_SEQ_SETR_ACCESS
  | _ => 0

/-- The addresses that an instruction names: TARGET, END, and the fall-through of the two that branch (R102). -/
def mAddrs (pc w : Nat) : List Nat :=
  match mop w with
  | .br => [bits w 14 0]
  | .brc => [bits w 14 0, pc + 1]
  | .waitd => [bits w 14 0, pc + 1]
  | .loop => [bits w 34 20]
  | _ => []

/-- Steps 1 to 4 of R671; a fetch at or above LEN reports E_SEQ_LEN_EXCEEDS. -/
def State.decodeErr (s : State) (y pc w : Nat) : Nat :=
  if s.progLen y ≤ pc then E_SEQ_LEN_EXCEEDS
  else if mop w = .bad ∨ ¬ rsvdClear w ∨ rsvdEnc w then E_SEQ_RSVD_ENC
  else if s.zeroErr y w then E_SEQ_ZERO_LEN
  else if s.rangeErr y w ≠ 0 then s.rangeErr y w
  else if (mAddrs pc w).any (fun a => decide (s.progLen y ≤ a)) then E_SEQ_LEN_EXCEEDS
  else 0

/-- Is a slot owned by the yard's partition or by a yard in it (R106)? -/
def State.slotMay (s : State) (y slot : Nat) : Bool := s.partHas (s.partOf y) 8 slot

/-- May the yard use the elements that the instruction names (R106)? -/
def State.ownErr (s : State) (y w : Nat) : Bool :=
  match mop w with
  | .play => !s.tgtEn y (bits w 55 51)
  | .frame => !s.tgtEn y (bits w 55 52)
  | .acq => (List.range 8).any fun c => bit (bits w 55 48) c && !s.chanEn y c
  | .bias => !s.biaEn y
  | .mark => !(bit (s.comp y).misc 5 && s.yardMay y 1 (s.fld (HAL_MRK_PIN y) (0, 6)))
  | .syncTrig => !s.yardMay y 2 (bits w 52 49)
  | .waitd => !s.slotMay y (bits w 55 46)
  | .ldd => !s.slotMay y (bits w 55 46)
  | _ => false

/-- The class or block and the instance of the element that an instruction names (R69). -/
def State.ownInst (s : State) (y w : Nat) : Nat × Nat :=
  match mop w with
  | .play => if bits w 55 51 < 16 then (0x06, 16 * y + bits w 55 51) else (0x07, 4 * y + bits w 52 51)
  | .frame => (0x06, 16 * y + bits w 55 52)
  | .acq => (0x09, 8 * y + firstNot ((List.range 8).filter fun c => bit (bits w 55 48) c) (s.chanEn y))
  | .bias => (0x07, y)
  | .syncTrig => (2, bits w 52 49)
  | .waitd | .ldd => (8, bits w 55 46)
  | _ => (1, s.fld (HAL_MRK_PIN y) (0, 6))

/-- A status of R671 is a program fault; a refused use of an element is recorded as well (R69). -/
def faultUse (y pc w code : Nat) (s : State) : State :=
  progFault y pc code (s.denyIf code (s.ownInst y w).1 (s.ownInst y w).2 1 y)

/-- At its release a request names an instance that a commit has taken from the yard (R69, R82): it has no effect and is a program fault. -/
def lostUse (y pc cls i : Nat) (s : State) : State := progFault y pc E_IMG_RES_BUSY (s.deny cls i 1 y)

/-- The state checks of the target blocks (R256, R316), the channels in ascending order. -/
def State.stateErr (s : State) (y w : Nat) : Nat :=
  match mop w with
  | .acq =>
    (((List.range 8).filter fun c => bit (bits w 55 48) c).map fun c =>
      if s.fld (CNV_ACQ_CTL y c) CNV_ACQ_CTL_SRC ≠ 0 then E_CNV_ACQ_SRC
      else if s.cst y c = cSTOPPED then E_DEM_STOPPED else 0).find? (· != 0) |>.getD 0
  | _ => 0

/-- Steps 5 and 6 of R671. -/
def State.issueErr (s : State) (y w : Nat) : Nat := if s.ownErr y w then E_IMG_RES_BUSY else s.stateErr y w

/-- The issue check status (selector 49 of Table 4-4). -/
def State.checkStatus (s : State) (y pc w : Nat) : Nat :=
  if s.decodeErr y pc w ≠ 0 then s.decodeErr y pc w else s.issueErr y w

/-! ### Program flow and loops (R115 to R118) -/

/-- The end of an instruction at `pc`: loops whose body ends there count down and branch back, or end (R115). -/
def loopEnds (y pc : Nat) : List LoopCtx → State → List LoopCtx × Nat × State
  | [], s => ([], pc + 1, s)
  | l :: ls, s =>
    if l.last ≠ pc then (l :: ls, pc + 1, s)
    else if s.lc y l.lc = 0xFFFFF then (l :: ls, l.first, s)
    else
      let n := s.lc y l.lc - 1
      let s := s.setLc y l.lc n
      if n ≠ 0 then (l :: ls, l.first, s) else loopEnds y pc ls s

/-- The Mast moves past the instruction at `pc`. -/
def retire (y pc : Nat) (s : State) : State :=
  let (ls, n, s) := loopEnds y pc (s.mast y).loops s
  (s.modMast y fun m => { m with loops := ls }).setPc y n

/-- Loops whose body excludes an address end (R118). -/
def keepLoops (a : Nat) (ls : List LoopCtx) : List LoopCtx := ls.dropWhile fun l => decide (a < l.first ∨ l.last < a)

/-- A branch: loops left end, LC keeps its value (R118). -/
def jumpTo (y a : Nat) (s : State) : State :=
  (s.modMast y fun m => { m with loops := keepLoops a m.loops }).setPc y a

/-- The next microword of a Mast falls at `t`. -/
def State.setClk (s : State) (y t : Nat) : State := s.modMast y fun m => { m with clk := t }

/-- The condition of a BRC (Table 3-5). -/
def brcTaken (cond a b : Nat) : Bool :=
  match cond with
  | 0 => a == b
  | 1 => a != b
  | 2 => decide (sgn 48 a < sgn 48 b)
  | 3 => decide (sgn 48 b ≤ sgn 48 a)
  | 4 => decide (a < b)
  | _ => decide (b ≤ a)

/-- ALU functions on 48-bit values (R100). -/
def aluOp (f a b : Nat) : Nat :=
  let n := b % 64
  match f with
  | 0 => (a + b) % p48
  | 1 => (a + p48 - b % p48) % p48
  | 2 => a &&& b
  | 3 => a ||| b
  | 4 => a ^^^ b
  | 5 => if 48 ≤ n then 0 else a * 2 ^ n % p48
  | 6 => if 48 ≤ n then 0 else a / 2 ^ n
  | 7 => unsgn 48 (sgn 48 a >>> min n 48)
  | 8 => if sgn 48 a ≤ sgn 48 b then a else b
  | 9 => if sgn 48 a ≤ sgn 48 b then b else a
  | _ => a * b % p48

/-- Operand B of an ALU word. -/
def State.aluB (s : State) (y w : Nat) : Nat :=
  if bits w 36 36 = 1 then unsgn 48 (sgn 32 (bits w 31 0)) else s.g y (bits w 41 37)

/-- The effect of an ALU word. -/
def aluEffect (y w : Nat) (s : State) : State :=
  s.setG y (bits w 51 47) (aluOp (bits w 55 52) (s.g y (bits w 46 42)) (s.aluB y w))

/-- What GETS reads (Table 3-5). -/
def State.getsVal (s : State) (y sel : Nat) : Nat :=
  match sel with
  | 0 => s.rdN (SEQ_SHOT_IDX y)
  | 1 => (s.grp (s.groupOf y)).attempt
  | 2 => s.tq y
  | 3 => y
  | _ => (s.mast y).toShot

/-- What LDD loads (R114). -/
def State.lddVal (s : State) (slot : Nat) : Nat := s.slotDec slot + s.slotRel slot % 2 ^ 40 * 256

/-- Does a LOOP break R116? -/
def State.loopErr (s : State) (y pc w : Nat) : Bool :=
  let ls := (s.mast y).loops
  decide (bits w 34 20 < pc + 1) || ls.any (fun l => l.lc == bits w 55 54)
    || (match ls with | l :: _ => decide (l.last < bits w 34 20 ∨ pc + 1 < l.first) | [] => false)

/-- The effect of a LOOP word. -/
def loopEffect (y pc w : Nat) (s : State) : State :=
  let n := if bits w 53 53 = 1 then s.g y (bits w 52 48) % 2 ^ 20 else bits w 19 0
  (s.setLc y (bits w 55 54) n).modMast y fun m => { m with loops := ⟨bits w 55 54, pc + 1, bits w 34 20⟩ :: m.loops }

/-- TQ rounded up to a multiple of 2^K ft (Table 3-8). -/
def alignTq (tq k : Nat) : Nat := (tq + ft * 2 ^ k - 1) / (ft * 2 ^ k) * (ft * 2 ^ k)

/-- The ft that a WAIT adds (R101). -/
def State.waitFt (s : State) (y w : Nat) : Nat := if bits w 55 55 = 1 then s.g y (bits w 52 48) % 2 ^ 40 else bits w 39 0

/-! ### Timed instructions (R90 to R95) -/

/-- The action of a timed word with its operands captured at issue (R95). -/
def State.capture (s : State) (y w : Nat) : TAct :=
  match mop w with
  | .play => .play (bits w 55 51) (bits w 50 49) (bits w 48 37) (bits w 31 16) (s.playLen y (bits w 50 49) (bits w 48 37))
  | .acq => .acq (bits w 55 48) (bits w 43 32) (bits w 23 0)
  | .frame => .frame (bits w 55 52) (bits w 51 49)
      (if bits w 51 49 = 4 then 0 else if bits w 48 48 = 1 then s.g y (bits w 47 43) % 2 ^ 40 else bits w 39 0)
  | .bias => .bias (if bits w 53 53 = 1 then s.g y (bits w 52 48) % 2 ^ 20 else bits w 19 0)
  | .mark => .mark (bits w 55 53) (bits w 52 51) (bits w 23 0)
  | .setr => .setr (bits w 55 38) (if bits w 37 37 = 1 then s.g y (bits w 36 32) % 2 ^ 32 else bits w 31 0)
  | _ => .commit (bits w 55 52)

/-- The ft that its ADV adds to TQ (R103). -/
def State.advance (s : State) (y w : Nat) : Nat :=
  match mop w with
  | .play => if bits w 36 36 = 1 then s.playLen y (bits w 50 49) (bits w 48 37) else 0
  | .acq => if bits w 47 47 = 1 then bits w 23 0 else 0
  | _ => 0

/-- A timed action sets out for its block, to be released at `rel` (R91, R105, R157). -/
def sendTimed (y pc rel : Nat) (a : TAct) (s : State) : State :=
  match a with
  | .commit m => { s with ton := { s.ton with hos := s.ton.hos ++ [HoReq.mk y rel m false] } }
  | .play t src id amp _ =>
    let s := { s with hal := { s.hal with reqs := s.hal.reqs ++ [PlayReq.mk y t rel pc src id amp none] } }
    s.hold ⟨rel, y, y, .ctrl, .timed y pc a⟩
  | _ => s.hold ⟨rel, y, y, .ctrl, .timed y pc a⟩

/-- A timed instruction at issue time `t` (R93, R94, R107). -/
def timedIssue (y pc w t : Nat) (s : State) : State :=
  let rel := s.relAt y
  let ahead := s.fld (SEQ_CTL y) SEQ_CTL_AHEAD_MAX
  if t + ft * ahead < rel then
    (s.setMst y mSTALL).modMast y fun m => { m with hold := .ahead (rel - ft * ahead) }
  else if s.issueErr y w ≠ 0 then faultUse y pc w (s.issueErr y w) s
  else if rel < t + 4 * ft then progFault y pc E_SEQ_LATE s
  else
    let tq := s.tq y + ft * s.advance y w
    if tqMax < tq then progFault y pc E_SEQ_TQ_OVF s
    else
      let s := sendTimed y pc rel (s.capture y w) s
      retire y pc ((s.setTq y tq).setClk y (t + ft))

/-! ### WAITD (R108 to R113) -/

/-- The leading run of a path (R110): up to two timed instructions from `pc` on; the run stops after a body end. Each has its
microwords (the last one's end is the second result) and the first status of R671 that one of them breaks with its
index. -/
def stageRun (y : Nat) (s : State) : Nat → Nat → Nat → List Staged × Nat × Option (Nat × Nat)
  | 0, _, t => ([], t, none)
  | n + 1, pc, t =>
    let w := s.word y pc
    if s.progLen y ≤ pc ∨ ¬ timedOp (mop w) then ([], t, none)
    else if s.checkStatus y pc w ≠ 0 then ([], t + ft * microCount w, some (pc, s.checkStatus y pc w))
    else
      let t := t + ft * microCount w
      let x : Staged := ⟨s.capture y w, s.advance y w, pc⟩
      if ((s.mast y).loops.any fun l => l.last == pc) then ([x], t, none)
      else let (xs, t, e) := stageRun y s n (pc + 1) t; (x :: xs, t, e)

/-- WAITD stages both paths, the fall-through first, and waits. -/
def waitdIssue (y pc w t : Nat) (s : State) : State :=
  let (fs, t1, e1) := stageRun y s 2 (pc + 1) t
  let (ts, t2, e2) := stageRun y s 2 (bits w 14 0) t1
  match e1, e2 with
  | some (p, c), _ => faultUse y p (s.word y p) c s
  | none, some (p, c) => faultUse y p (s.word y p) c s
  | none, none =>
    let start := s.origin y + s.tq y
    let x : WaitD := ⟨bits w 55 46, bits w 45 44, bits w 43 42, bit w 41, start, start + ft * bits w 39 16, bits w 14 0, pc,
      t2, ts, fs⟩
    let s := s.modMast y fun m => { m with waitd := some x, clk := t2 + ft }
    (s.setMst y mWAITD).setF (SEQ_STS y) SEQ_STS_STAGED (b01 (!ts.isEmpty || !fs.isEmpty))

/-- The staged instructions of the chosen path go to their blocks (R111), from the cursor of R108 on. -/
def releaseStaged (y : Nat) : List Staged → State → State
  | [], s => s
  | x :: xs, s =>
    let tq := s.tq y + ft * x.adv
    if tqMax < tq then progFault y x.pc E_SEQ_TQ_OVF s
    else
      let s := sendTimed y x.pc (s.relAt y) x.act s
      releaseStaged y xs (retire y x.pc ((s.setPc y x.pc).setTq y tq))

/-- WAITD takes a path at D: `take` for TARGET (R111 to R113). A staged instruction that is late leaves the index of the WAITD in SEQ_FAULT,
and where nothing is staged and D lies before the WAITD's issue, issue resumes one ft after that issue (log entry 95). -/
def waitdTake (y d : Nat) (x : WaitD) (take : Bool) (s : State) : State :=
  let run := if take then x.stagedT else x.stagedF
  let staged : Bool := !x.stagedT.isEmpty || !x.stagedF.isEmpty
  let s := (s.setF (SEQ_STS y) SEQ_STS_STAGED 0).modMast y fun m => { m with waitd := none }
  if staged && decide (d < x.clk + 2 * ft) then progFault y x.pc E_SEQ_LATE s
  else
    let s := (s.setMst y mISSUE).setClk y (max (d + ft) (x.clk + ft))
    let s := s.setTq y (d + 18 * ft - s.origin y)
    let s := if take then jumpTo y x.target s else s.setPc y (x.pc + 1)
    releaseStaged y run s

/-- The default path (Table 3-6); DEF 0b10 is the program fault. -/
def waitdDefault (y d : Nat) (x : WaitD) (s : State) : State :=
  if x.dflt = 2 then progFault y x.pc E_SHT_FB_TIMEOUT s else waitdTake y d x (x.dflt == 1) s

/-- The first decision in the slot that counts: its release time and the decision (R108). None counts for a yard that a commit has taken the
slot from (R82, DEDUCED, log entry 95). -/
def State.waitdFirst (s : State) (y : Nat) (x : WaitD) : Option (Nat × Nat) :=
  if ¬ s.slotMay y x.slot then none
  else ((tget s.cnv.rels x.slot).filter fun r => bit r.2 2 && decide (x.from_ ≤ r.1) && decide (r.1 ≤ x.deadline)).getLast?

/-- The first decision that counts resolves the WAITD (R109). -/
def waitdResolve (y : Nat) (s : State) : State :=
  match (s.mast y).waitd with
  | none => s
  | some x =>
    match s.waitdFirst y x with
    | none => s
    | some (r, v) =>
      if x.lqd ∧ bit v 4 then waitdDefault y (ceilFt r) x s else waitdTake y (ceilFt r) x (v % 4 == x.st && x.st != 3) s

/-- The deadline passes with no decision that counts (Table 3-6). -/
def waitdDeadline (y : Nat) (s : State) : State :=
  match (s.mast y).waitd with
  | none => s
  | some x =>
    if (s.waitdFirst y x).isSome ∨ ¬ s.reached x.deadline then s
    else
      let s := (s.inc (SEQ_TO_CNT y)).modMast y fun m => { m with toShot := m.toShot + 1 }
      waitdDefault y x.deadline x s

/-! ### SYNC, FENCE, shot ends -/

/-- A SYNC waits (R119). -/
def syncWait (y mode trig edge tmo t : Nat) (s : State) : State :=
  let c := s.origin y + s.tq y
  let x : SyncW := ⟨mode, trig, edge, c + ft * tmo, c, t⟩
  (s.setMst y mWAITS).modMast y fun m => { m with sync := some x, clk := t + ft }

/-- A SYNC ends with its cursor at TB1 value `c`, and issue resumes at `t` (Table 3-8). -/
def syncEnd (y c t : Nat) (s : State) : State :=
  match (s.mast y).sync with
  | none => s
  | some _ =>
    let tq := ceilFt (c - s.origin y)
    if tqMax < tq then progFault y (s.pc y) E_SEQ_TQ_OVF s
    else
      let s := ((s.setTq y tq).setMst y mISSUE).modMast y fun m => { m with sync := none }
      retire y (s.pc y) (s.setClk y t)

/-- Does a member wait at SYNC GROUP? -/
def State.atSyncGroup (s : State) (y : Nat) : Bool :=
  match (s.mast y).sync with | some x => x.mode == 0 | none => false

/-- The cursor of a member's SYNC. -/
def State.syncCursor (s : State) (y : Nat) : Nat := match (s.mast y).sync with | some x => x.cursor | none => 0

/-- Is every SYNC of the group still within its TIMEOUT? -/
def State.syncInTime (s : State) (y : Nat) : Bool :=
  match (s.mast y).sync with | some x => decide (s.tb1 ≤ x.until_) | none => false

/-- SYNC_TIMEOUT (R119). -/
def syncTimeout (y : Nat) (s : State) : State :=
  match (s.mast y).sync with
  | none => s
  | some x => if x.until_ < s.tb1 then progFault y (s.pc y) E_SEQ_SYNC_TIMEOUT s else s

/-- The conditions of a Mast FENCE (Table 1-7): every earlier CTRL item of the Mast released or discarded, every earlier
record of the yard at its queue. -/
def State.fenceOk (s : State) (y : Nat) : Bool :=
  !(s.bus.held.any fun i => i.yard? == some y) && !(s.bus.transit.any fun i => i.yard? == some y)
    && !(s.ton.hos.any fun h => h.y == y && !h.host) && (s.mast y).outRes == 0

/-- END: issue stops; the shot's end lies at the cursor at the earliest (R124). -/
def endIssue (y w : Nat) (s : State) : State :=
  let c := s.origin y + s.tq y
  (s.setMst y mSHOTEND).modMast y fun m => { m with endRun := m.endRun || bit w 0, endAt := max m.endAt c, signalled := false }

/-! ### Journal (Table 3-9) -/

/-- The journal entry of the present state. -/
def State.journalNow (s : State) (y : Nat) : Journal :=
  ⟨s.rdN (SEQ_SHOT_IDX y), (List.range 32).map fun i => s.rd (SEQ_G y i),
    (List.range 16).map fun t => (s.rd (TON_FRAME_P y t), s.rd (TON_FRAME_F y t))⟩

/-- The journal entry is written at a shot start. -/
def journalWrite (y : Nat) (s : State) : State := s.modMast y fun m => { m with journal := s.journalNow y }

/-- A replay restores it; the NCOs run on with the restored frequency words (R128). -/
def journalRestore (y : Nat) (s : State) : State :=
  let j := (s.mast y).journal
  let s := forEach (List.range 32) s fun i s => s.wr (SEQ_G y i) (j.g.getD i 0)
  forEach (List.range 16) s fun t s =>
    let f := j.frames.getD t (0, 0)
    (s.setToneF y t s.tb1 f.2.toNat).wr (TON_FRAME_P y t) f.1

/-- A Mast starts issue at an entry with T0 (R89, R123): TQ 0, O = T0 + 32 ft, no loop active, LC clear. -/
def mastStart (y t0 entry shot attempt : Nat) (rpass : Bool) (s : State) : State :=
  let s := ((s.wrN (SEQ_ORIGIN y) (t0 + 32 * ft)).setTq y 0).wrN (SEQ_SHOT_IDX y) shot
  let s := forEach (List.range 4) s fun j s => s.setLc y j 0
  let s := (s.setF (SEQ_STS y) SEQ_STS_REPLAY attempt).setF (SEQ_STS y) SEQ_STS_RPASS (b01 rpass)
  let s := (s.setMst y mISSUE).setPc y entry
  s.modMast y fun m =>
    { m with clk := t0, loops := [], hold := .none, waitd := none, sync := none, toShot := 0, endAt := 0, endRun := false,
             signalled := false }

/-! ### Breakpoints and halts (R659) -/

/-- Does an issue at `pc` match an enabled breakpoint or a HALT written? -/
def State.ratStops (s : State) (y pc : Nat) : Bool :=
  (s.mast y).haltReq
    || (List.range 4).any fun b => s.flag (RAT_MBRK y b) RAT_MBRK_EN && s.fld (RAT_MBRK y b) RAT_MBRK_INDEX == pc

/-- The Mast halts: a program fault E_RAT_HALT; HALTED and PC show it. -/
def ratHalt (y pc : Nat) (s : State) : State :=
  let s := (s.setF (RAT_MSTS y) RAT_MSTS_HALTED 1).setF (RAT_MSTS y) RAT_MSTS_PC pc
  let s := (s.setF RAT_STS RAT_STS_MHALT 1).modMast y fun m => { m with haltReq := false }
  progFault y pc E_RAT_HALT s

/-! ### Host writes (R97) -/

/-- SEQ_CTL, SEQ_ENTRY, SEQ_RST_ENTRY, SEQ_PROG_LEN, SEQ_SHOT_CNT only while the group is IDLE, SEQ_G also while PAUSED. -/
def seqHostWrite (y a v : Nat) (s : State) : State :=
  let off := a - (0x1000000 + 0x40000 * y)
  let ok : Bool := s.yIdle y || (decide (0x100 ≤ off ∧ off < 0x200) && s.ygst y == gPAUSED)
  if ok then s.wrRW a v else s.inc (SEQ_WDROP_CNT y)

end Sys2Proof.Machine
end

