-- ==== Sys2Proof/Machine/Micro.lean ====
section
/-! DEFINITION. Microcode stores and patches (chapter 4): the microword interpreter that patched instructions run through,
and the loading of patches. -/

namespace Sys2Proof.Machine

/-! ### Control store (Table 4-1) -/

/-- A microword of the patch RAM of yard `y`. -/
def State.patchWord (s : State) (y i : Nat) : Nat := ldBytes s.seq.patch (8192 * y + 4 * i) 4

/-- The address that a fetch of ROM address `a` goes to under the patch in force (KIND 0x02). -/
def trapTo (ms : List UcMap) (a : Nat) : Nat :=
  match ms.find? fun m => m.kind == 2 && m.from_ == a with | some m => m.to_ | none => a

/-- The microword fetched at an address (R132); reserved addresses hold nothing. -/
def State.ucFetch (s : State) (y a : Nat) : Nat :=
  let a := trapTo (s.mast y).ucGov a
  if a < 0x2000 then (Config.ucRom a).toNat else if a < 0x2800 then s.patchWord y (a - 0x2000) else 0

/-- Where the routine of an instruction starts, if the patch in force dispatches its opcode (KIND 0x01) or traps a fetch of its routine in
ROM (KIND 0x02, R132); with neither, the instruction's own meaning is the routine's. -/
def State.patched (s : State) (y w : Nat) : Option Nat :=
  match (s.mast y).ucGov.find? fun m => m.kind == 1 && m.opcode == bits w 63 56 with
  | some m => some m.to_
  | none =>
    let path := Config.romPath (8 * bits w 63 56 + microCount w)
    if (s.mast y).ucGov.any fun m => m.kind == 2 && path.contains m.from_ then some (path.headD 0) else none

/-! ### Microwords (Tables 4-2 to 4-4) -/

/-- A routine in execution: yard, instruction index and word, U0 to U7, and the program counter where it was set. -/
structure UcCtx where
  y : Nat
  pc : Nat
  w : Nat
  u : List Nat
  jump : Option Nat
  deriving DecidableEq, Repr, Inhabited

/-- What a microword did: the routine goes on (at the next address or another), stalls, or faults. -/
inductive UcStep
  | go (c : UcCtx) (next : Option Nat) (s : State)
  | wait (c : UcCtx) (cond val : Nat)
  | fault (code : Nat)

/-- A selector read; `none` for a reserved one. -/
def ucRead (c : UcCtx) (sel : Nat) (s : State) : Option Nat :=
  if sel < 32 then some (s.g c.y sel)
  else if sel < 36 then some (s.lc c.y (sel - 32))
  else if sel = 36 then some (s.tq c.y)
  else if sel = 37 then some (bits c.w 31 0)
  else if sel = 38 then some (bits c.w 63 32)
  else if sel = 39 then some (s.origin c.y)
  else if sel < 48 then some (c.u.getD (sel - 40) 0)
  else if sel = 48 then some (c.jump.getD c.pc)
  else if sel = 49 then some (s.checkStatus c.y c.pc c.w)
  else none

/-- A selector written; the instruction bits and the shot origin keep their values. -/
def ucWrite (c : UcCtx) (sel v : Nat) (s : State) : UcStep :=
  if sel < 32 then .go c none (s.setG c.y sel v)
  else if sel < 36 then .go c none (s.setLc c.y (sel - 32) v)
  else if sel = 36 then .go c none (s.setTq c.y (v % p48 / 16 * 16))
  else if sel < 40 then .go c none s
  else if sel < 48 then
    .go { c with u := (List.range 8).map fun i => if i = sel - 40 then v % p48 else c.u.getD i 0 } none s
  else if sel = 48 then .go { c with jump := some (v % 2 ^ 15) } none s
  else .fault E_UC_RSVD_ENC

/-- Is a byte a block ID of Table 0-4? -/
def blockId (b : Nat) : Bool := decide (1 ≤ b ∧ b ≤ 0x16)

/-- CHECK (Table 4-3): the fault it raises for a value that is not 0. -/
def ucCheck (v func : Nat) : Nat :=
  if func = 0x100 then E_UC_RSVD_ENC
  else if func % 256 ≠ 0 then (if func / 256 = 0 then 0x0300 else 0x0400) + func % 256
  else if blockId (v / 256 % 256) then v % 2 ^ 16 else E_UC_RSVD_ENC

/-- One microword. -/
def ucExec (c : UcCtx) (m : Nat) (s : State) : UcStep :=
  let dst := bits m 26 21
  let sa := bits m 20 15
  let sb := bits m 14 9
  let f := bits m 8 0
  match bits m 31 28 with
  | 0 => match ucRead c sa s with | some a => ucWrite c dst a s | none => .fault E_UC_RSVD_ENC
  | 1 =>
    if sb = 0 ∨ 48 < sb then .fault E_UC_RSVD_ENC
    else ucWrite c dst (c.w / 2 ^ (f % 64) % 2 ^ sb) s
  | 2 =>
    match ucRead c sa s, ucRead c sb s with
    | some a, some b => if 11 ≤ f % 16 then .fault E_UC_RSVD_ENC else ucWrite c dst (aluOp (f % 16) (a % p48) (b % p48)) s
    | _, _ => .fault E_UC_RSVD_ENC
  | 3 => .go c none (if s.relAt c.y < s.tb1 then s.inc GLB_LATE_CNT else s.hold ⟨s.relAt c.y, c.y, c.y, .ctrl, .timed c.y c.pc (.micro (f / 32) (c.u.take 4))⟩)
  | 4 =>
    let x : Staged := ⟨.micro (f / 32) (c.u.take 4), 0, c.pc⟩
    .go c none ((s.setF (SEQ_STS c.y) SEQ_STS_STAGED 1).modMast c.y fun q =>
      match q.waitd with
      | some d => { q with waitd := some (if f % 2 = 1 then { d with stagedT := d.stagedT ++ [x] }
                                          else { d with stagedF := d.stagedF ++ [x] }) }
      | none => q)
  | 5 =>
    match f % 4 with
    | 0 => .go c none s
    | 1 => match ucRead c sa s with | some a => .go c (some (a % 2 ^ 14)) s | none => .fault E_UC_RSVD_ENC
    | 2 => match ucRead c dst s with | some a => .go { c with jump := some (a % 2 ^ 15) } none s | none => .fault E_UC_RSVD_ENC
    | _ => .fault E_UC_RSVD_ENC
  | 6 =>
    if 4 ≤ f % 8 then .fault E_UC_RSVD_ENC
    else match ucRead c sa s with | some a => .wait c (f % 8) a | none => .fault E_UC_RSVD_ENC
  | 7 =>
    let b := s.bus.free
    let body := (List.range 6).map fun i => (Config.freeWord (b + i)).toNat
    .go c none ({ s with bus := { s.bus with free := b + 6 } }.yardRec c.y 1 (s.tq c.y) body)
  | 8 =>
    match ucRead c sa s with
    | some a => if a = 0 then (if f = 0x100 then .fault E_UC_RSVD_ENC else .go c none s) else .fault (ucCheck a f)
    | none => .fault E_UC_RSVD_ENC
  | _ => .fault E_UC_RSVD_ENC

/-- The end of a patched instruction: the program counter it set, or the next one; issue goes on at `t`, for a taken branch 2 ft later
(Table 3-4), which no patch changes (R133). -/
def ucDone (c : UcCtx) (t : Nat) (s : State) : State :=
  let taken : Bool := mop c.w == .br || (mop c.w == .brc && c.jump.isSome)
  let s := s.setClk c.y (if taken then t + 2 * ft else t)
  match c.jump with
  | some a => jumpTo c.y a s
  | none => retire c.y c.pc s

/-- The microwords of a routine, `left` of them still to come, the next at address `a` (R133). -/
def ucRun (total t : Nat) : Nat → Nat → UcCtx → State → State
  | 0, _, c, s => ucDone c t s
  | left + 1, a, c, s =>
    let m := s.ucFetch c.y a
    if bit m 27 ≠ (left == 0) then progFault c.y c.pc E_UC_SEQ_LEN s
    else
      match ucExec c m s with
      | .fault code => progFault c.y c.pc code s
      | .go c' nx s' => ucRun total t left (nx.getD (a + 1)) c' s'
      | .wait c' cond val =>
        (s.setMst c.y (if cond = 1 then mWAITD else if cond = 2 then mWAITS else mSTALL)).modMast c.y fun q =>
          { q with hold := .uc (a + 1) (total - left) c'.u c'.jump cond val, clk := t }

/-- A patched instruction issues at time `t` through its routine; the fixed counts and the issue-ahead limit hold (R133). -/
def ucIssue (y pc w t a : Nat) (s : State) : State :=
  let rel := s.relAt y
  let ahead := s.fld (SEQ_CTL y) SEQ_CTL_AHEAD_MAX
  if timedOp (mop w) ∧ t + ft * ahead < rel then
    (s.setMst y mSTALL).modMast y fun m => { m with hold := .ahead (rel - ft * ahead) }
  else if timedOp (mop w) ∧ rel < t + 4 * ft then progFault y pc E_SEQ_LATE s
  else
    let c := s.origin y + s.tq y
    let s := s.modMast y fun m =>
      { m with waitd := if mop w = .waitd then some ⟨bits w 55 46, bits w 45 44, bits w 43 42, bit w 41, c,
                                               c + ft * bits w 39 16, bits w 14 0, pc, t, [], []⟩ else none,
               sync := if mop w = .syncGroup ∨ mop w = .syncTrig then
                   some ⟨bits w 55 53, bits w 52 49, bits w 48 48, c + ft * bits w 39 16, c, t⟩ else none }
    ucRun (microCount w) (t + ft) (microCount w) a ⟨y, pc, w, List.replicate 8 0, none⟩ s

/-- Does the Mast stand in a routine at a WAITC of a condition? -/
def State.atWaitc (s : State) (y cond : Nat) : Bool :=
  match (s.mast y).hold with | .uc _ _ _ _ k _ => k == cond | _ => false

/-- A routine at a WAITC goes on when its condition holds: 0 a time reached, 3 the fence conditions, 1 a decision, 2 a sync
(Table 4-3); `jump` is the program counter that the condition sets. What follows the WAITC takes one ft a microword (R132). -/
def ucResume (y cond : Nat) (ok : Bool) (jump : Option Nat) (s : State) : State :=
  match (s.mast y).hold with
  | .uc a done u j k v =>
    if k ≠ cond ∨ ¬ ok ∨ (k = 0 ∧ ¬ s.reached v) then s
    else
      let pc := s.pc y
      let w := s.word y pc
      let j := if jump.isSome then jump else j
      let s := s.setMst y mISSUE
      let t := ceilFt s.tb1
      if microCount w ≤ done then ucDone ⟨y, pc, w, u, j⟩ (t + ft) (s.modMast y fun m => { m with hold := .none })
      else s.modMast y fun m => { m with hold := .uc a done u j 4 (t + ft * (microCount w - done)) }
  | _ => s

/-- The microwords after a WAITC have had their time. -/
def ucRest (y : Nat) (s : State) : State :=
  match (s.mast y).hold with
  | .uc a done u j k v =>
    if k ≠ 4 ∨ ¬ s.reached v then s
    else
      let pc := s.pc y
      let w := s.word y pc
      let s := s.modMast y fun m => { m with hold := .none }
      ucRun (microCount w) (v + ft) (microCount w - done) a ⟨y, pc, w, u, j⟩ s
  | _ => s

/-- A decision, or the deadline, resolves the WAITC 1 of a patched WAITD at D: the cursor of R108, the staged items of the
chosen path (R111), then the rest of the routine. -/
def ucDecision (y d : Nat) (x : WaitD) (take : Bool) (s : State) : State :=
  let s := (s.setF (SEQ_STS y) SEQ_STS_STAGED 0).modMast y fun m => { m with waitd := none }
  let s := s.setTq y (d + 18 * ft - s.origin y)
  let run := if take then x.stagedT else x.stagedF
  let s := forEach run s fun e s => sendTimed y x.pc (s.relAt y) e.act s
  ucResume y 1 true (if take then some x.target else none) s

/-- The resolution of a patched WAITD (Table 3-6). -/
def ucWaitd (y : Nat) (deadline : Bool) (s : State) : State :=
  match (s.mast y).waitd with
  | none => s
  | some x =>
    let dflt (d : Nat) (s : State) : State :=
      if x.dflt = 2 then progFault y x.pc E_SHT_FB_TIMEOUT s else ucDecision y d x (x.dflt == 1) s
    match s.waitdFirst y x with
    | some (r, v) =>
      if deadline then s
      else if x.lqd ∧ bit v 4 then dflt (ceilFt r) s
      else ucDecision y (ceilFt r) x (v % 4 == x.st && x.st != 3) s
    | none =>
      if deadline ∧ s.reached x.deadline then
        dflt x.deadline ((s.inc (SEQ_TO_CNT y)).modMast y fun m => { m with toShot := m.toShot + 1 })
      else s

/-! ### Loading (R135 to R146) -/

/-- PSTATE (Table 4-9). -/
def uNONE : Nat := 0
def uLOADING : Nat := 1
def uACTIVE : Nat := 2
def uFAILED : Nat := 3
def State.ust (s : State) (y : Nat) : Nat := s.fld (UC_STS y) UC_STS_PSTATE

/-- The image manager's states that R136 and R143 name. -/
def State.imgBusy (s : State) : Bool :=
  let i := s.fld IMG_STS IMG_STS_ISTATE
  i == 3 || i == 4 || i == 5

/-- Is a partial commit that covers the yard in progress? -/
def State.yardCommit (s : State) (y : Nat) : Bool :=
  match s.img.commit with
  | some c => (c.kind == 2 || c.kind == 3) && (scopeYards c.kind c.scope).contains y
  | none => false

/-- The conditions of E_UC_BUSY (R136). -/
def State.ucBusy (s : State) (y : Nat) : Bool :=
  !s.yIdle y || s.ust y == uLOADING || s.yardCommit y || s.imgBusy

/-- UC_LEN is refused while a load runs (R27). -/
def ucLenWrite (y v : Nat) (s : State) : State :=
  if s.ust y = uLOADING then s.status (UC_STS y) E_UC_BUSY else s.wrRW (UC_LEN y) v

/-- LOAD (R136, R137, and R25 for the end of the image in host memory): the fetch begins, or the load is refused. -/
def ucLoad (y : Nat) (s : State) : State :=
  let len := s.fld (UC_LEN y) UC_LEN_LEN
  let code :=
    if ¬ (s.dev = dCONFIG ∨ s.dev = dREADY ∨ s.dev = dRUN) then E_UC_STATE
    else if s.ucBusy y then E_UC_BUSY
    else if len = 0 then E_UC_ZERO_LEN
    else if 12288 < len then E_UC_LEN_EXCEEDS
    else if s.rdN (UC_SRC y) % 8 ≠ 0 then E_UC_ALIGN
    else if 2 ^ 64 < s.rdN (UC_SRC y) + len then E_UC_LEN_EXCEEDS
    else 0
  let s := s.status (UC_STS y) code
  if code ≠ 0 then s
  else (s.setF (UC_STS y) UC_STS_PSTATE uLOADING).modMast y fun m =>
    { m with ucLoad := some ⟨false, s.ust y, 0, 0, []⟩ }

/-- A little-endian number in a list of bytes. -/
def leAt (bs : List (BitVec 8)) (o n : Nat) : Nat :=
  ((bs.drop o).take n).foldr (fun b acc => b.toNat + 256 * acc) 0

/-- Are the bytes of a reserved field 0? -/
def zeroAt (bs : List (BitVec 8)) (o n : Nat) : Bool := ((bs.drop o).take n).all fun b => b == 0

/-- Map entry `i` of a patch image. -/
def patchMap (bs : List (BitVec 8)) (i : Nat) : UcMap :=
  ⟨leAt bs (64 + 8 * i) 1, leAt bs (65 + 8 * i) 1, leAt bs (66 + 8 * i) 2, leAt bs (68 + 8 * i) 2⟩

/-- Is an opcode reserved in Table 3-4? -/
def opcodeRsvd (o : Nat) : Bool := mop (o * 2 ^ 56) == .bad

/-- Is map entry `i` refused under R135, or its encoding reserved (Table 4-7)? The value is the status. -/
def mapErr (bs : List (BitVec 8)) (words maps i : Nat) : Nat :=
  let m := patchMap bs i
  let earlier := (List.range maps).filter fun j => j != i && (patchMap bs j).kind == m.kind
    && (if m.kind = 1 then (patchMap bs j).opcode == m.opcode else (patchMap bs j).from_ == m.from_)
  if ¬ (m.kind = 1 ∨ m.kind = 2) ∨ ¬ zeroAt bs (70 + 8 * i) 2 ∨ (m.kind = 1 ∧ m.from_ ≠ 0) ∨ (m.kind = 2 ∧ m.opcode ≠ 0)
      ∨ (m.kind = 2 ∧ ¬ (0x100 ≤ m.from_ ∧ m.from_ ≤ 0x1FFF)) then E_UC_RSVD_ENC
  else if (m.kind = 1 ∧ opcodeRsvd m.opcode) ∨ earlier ≠ [] ∨ m.to_ < 0x2000 ∨ 0x2000 + words ≤ m.to_ then E_UC_MAP
  else 0

/-- TOTAL_LEN as Table 4-6 defines it. -/
def patchLen (maps words : Nat) : Nat := (64 + 8 * maps + 4 * words + 7) / 8 * 8 + 104

/-- The checks of the header phase (R137, R138, R140), in the order of the header: 0 when they pass. -/
def State.headerErr (s : State) (y : Nat) (bs : List (BitVec 8)) : Nat :=
  let words := leAt bs 0x0C 2
  let maps := leAt bs 0x0E 2
  if leAt bs 0 4 ≠ 0x54504355 then E_UC_BAD_MAGIC
  else if leAt bs 4 2 ≠ 1 then E_UC_FORMAT
  else if ¬ (zeroAt bs 6 2 ∧ zeroAt bs 0x18 8 ∧ zeroAt bs 0x30 16) then E_UC_RSVD_ENC
  else if leAt bs 8 2 ≠ s.fld (UC_VER y) UC_VER_ROM then E_UC_ROM_MISMATCH
  else if leAt bs 0x0A 2 < s.fld (UC_FLOOR y) UC_FLOOR_FLOOR then E_UC_ROLLBACK
  else if leAt bs 0x0A 2 = 0 then E_UC_RANGE
  else if words = 0 ∨ maps = 0 then E_UC_ZERO_LEN
  else if 2048 < words ∨ 64 < maps then E_UC_RANGE
  else if leAt bs 0x10 4 ≠ s.fld (UC_LEN y) UC_LEN_LEN then E_UC_LEN_MISMATCH
  else if leAt bs 0x10 4 ≠ patchLen maps words then E_UC_LEN_EXCEEDS
  else ((List.range maps).map (mapErr bs words maps)).find? (· != 0) |>.getD 0

/-- UC_HEADER_ARRIVAL: the header and the map have arrived. A failure leaves patch RAM, map, PSTATE and UC_VER as they were
(R138); otherwise the body phase begins: the map is cleared. -/
def ucHeader (y : Nat) (bs : List (BitVec 8)) (s : State) : State :=
  match (s.mast y).ucLoad with
  | none => s
  | some l =>
    if l.body then s
    else
      let code := s.headerErr y bs
      if code ≠ 0 then
        ((s.status (UC_STS y) code).setF (UC_STS y) UC_STS_PSTATE l.level).modMast y fun m => { m with ucLoad := none }
      else
        let maps := (List.range (leAt bs 0x0E 2)).map (patchMap bs)
        s.modMast y fun m =>
          { m with ucMap := [], ucLoad := some ⟨true, leAt bs 0x0A 2, leAt bs 0x0C 2, leAt bs 0x14 4, maps⟩ }

/-- A failure in the body phase leaves the yard on ROM only (R139); the body in patch RAM is then the new one. -/
def ucBodyFail (y code : Nat) (s : State) : State :=
  let s := (s.status (UC_STS y) code).setF (UC_STS y) UC_STS_PSTATE uFAILED
  (s.setF (UC_VER y) UC_VER_LEVEL 0).modMast y fun m =>
    match m.ucLoad with
    | some l => { m with ucMap := [], ucLoad := none, ucWords := l.words, ucCrc := l.crc }
    | none => { m with ucMap := [] }

/-- One step of CRC-32 (IEEE 802.3, reflected). -/
def crcBit (c : BitVec 32) : BitVec 32 := if c.getLsbD 0 then (c >>> 1) ^^^ 0xEDB88320#32 else c >>> 1

/-- CRC-32 of a list of bytes. -/
def crc32 (bs : List (BitVec 8)) : Nat :=
  (~~~(bs.foldl (fun c b =>
    let x := c ^^^ b.setWidth 32
    crcBit (crcBit (crcBit (crcBit (crcBit (crcBit (crcBit (crcBit x)))))))) (0xFFFFFFFF#32))).toNat

/-- Does the seal of the yard's partition refuse a patch (R525)? -/
def State.ucSealed (s : State) (y : Nat) : Bool :=
  (s.comp y).present && s.closed (s.partOf y) && !bit (tget s.img.parts (s.partOf y)).flags 1

/-- UC_BODY_COMPLETE: the body has been written and read back. `sig` is Shroud's verdict, `ecc` an error of the read-back, 1 corrected and
2 uncorrectable (R134); the read-back CRC is computed (R139, R141). -/
def ucBody (y : Nat) (body : List (BitVec 8)) (sig : Bool) (ecc : Nat) (s : State) : State :=
  match (s.mast y).ucLoad with
  | none => s
  | some l =>
    if ¬ l.body then s
    else
      let s := { s with seq := { s.seq with patch := stList s.seq.patch (8192 * y) (body.take (4 * l.words)) } }
      let s := s.when (ecc == 1) fun s => s.inc (UC_ECC_CNT y)
      if ¬ sig ∨ s.ucSealed y then ucBodyFail y E_UC_SIG s
      else if ecc = 2 then ucBodyFail y E_UC_ECC_UNCORR s
      else
        let crc := crc32 (ldList s.seq.patch (8192 * y) (4 * l.words))
        let s := s.wrN (UC_CRC y) crc
        if crc ≠ l.crc then ucBodyFail y E_UC_VERIFY s
        else
          let s := (s.status (UC_STS y) 0).setF (UC_STS y) UC_STS_PSTATE uACTIVE
          let s := s.setF (UC_VER y) UC_VER_LEVEL l.level
          let s := s.setF (UC_FLOOR y) UC_FLOOR_FLOOR (max (s.fld (UC_FLOOR y) UC_FLOOR_FLOOR) l.level)
          s.modMast y fun m => { m with ucMap := l.maps, ucLoad := none, ucWords := l.words, ucCrc := l.crc }

/-- A load in its body phase ends at an entry into SAFE (R139); one in its header phase leaves everything as it was. -/
def ucAbortLoad (y : Nat) (s : State) : State :=
  match (s.mast y).ucLoad with
  | none => s
  | some l =>
    if l.body then ucBodyFail y E_UC_ABORTED s
    else ((s.status (UC_STS y) E_UC_ABORTED).setF (UC_STS y) UC_STS_PSTATE l.level).modMast y fun m => { m with ucLoad := none }

/-- ROM_ONLY (R143). -/
def ucRomOnly (y : Nat) (s : State) : State :=
  if s.ucBusy y then s.status (UC_STS y) E_UC_BUSY
  else
    let s := ((s.status (UC_STS y) 0).setF (UC_STS y) UC_STS_PSTATE uNONE).setF (UC_VER y) UC_VER_LEVEL 0
    s.modMast y fun m => { m with ucMap := [] }

/-- VERIFY (R144), with an error of the reads, 1 corrected and 2 uncorrectable (R134). -/
def ucVerify (y ecc : Nat) (s : State) : State :=
  let m := s.mast y
  let crc := crc32 (ldList s.seq.patch (8192 * y) (4 * m.ucWords))
  let s := (s.wrN (UC_CRC y) crc).when (ecc == 1) fun s => s.inc (UC_ECC_CNT y)
  let bad (code : Nat) (s : State) : State := (s.status (UC_STS y) code).setF (UC_STS y) UC_STS_PSTATE uFAILED
  if ecc = 2 then bad E_UC_ECC_UNCORR s
  else if crc ≠ m.ucCrc then bad E_UC_VERIFY s
  else s.status (UC_STS y) 0

/-- UC_CTL: its command. -/
def ucCtlWrite (y v : Nat) (s : State) : State :=
  match v % 16 with
  | 0 => s
  | 1 => ucLoad y s
  | 2 => ucRomOnly y s
  | 3 => ucVerify y 0 s
  | _ => s.status (UC_STS y) E_UC_RSVD_ENC

/-- The patch governs from the yard's ARM on (R141). -/
def ucGovern (y : Nat) (s : State) : State := s.modMast y fun m => { m with ucGov := m.ucMap }

/-- A corrected error of the control store is counted; an uncorrectable one is a program fault, and in patch RAM sets FAILED
(R134). -/
def ucEcc (y kind : Nat) (s : State) : State :=
  if kind = 1 then s.inc (UC_ECC_CNT y)
  else
    let s := if kind = 3 then s.setF (UC_STS y) UC_STS_PSTATE uFAILED else s
    progFault y (s.pc y) E_UC_ECC_UNCORR s

/-! ### The commands -/

/-- UC_LOAD. -/
def execUcLoad (y : Nat) (s : State) : Host.Outcome State Fault Refusal := .next (hostWr (UC_CTL y) (ucLoad y) s)

/-- UC_HEADER_ARRIVAL, with the header and the map. -/
def execUcHeaderArrival (y : Nat) (bs : List (BitVec 8)) (s : State) : Host.Outcome State Fault Refusal :=
  .next (ucHeader y bs s)

/-- UC_BODY_COMPLETE, with the body, Shroud's verdict and an error of the read-back. -/
def execUcBodyComplete (y : Nat) (body : List (BitVec 8)) (sig : Bool) (ecc : Nat) (s : State) : Host.Outcome State Fault Refusal :=
  .next (ucBody y body sig ecc s)

/-- UC_ROM_ONLY. -/
def execUcRomOnly (y : Nat) (s : State) : Host.Outcome State Fault Refusal := .next (hostWr (UC_CTL y) (ucRomOnly y) s)

/-- UC_VERIFY, with an error of its reads. -/
def execUcVerify (r : PatchRead) (s : State) : Host.Outcome State Fault Refusal := .next (hostWr (UC_CTL r.yard) (ucVerify r.yard r.ecc) s)

end Sys2Proof.Machine
end

