-- ==== Sys2Proof/Machine/Issue.lean ====
section
/-! DEFINITION. The Mast instructions as commands (chapter 3): each issues the instruction at SEQ_PC of a yard when that
instruction is the one the command names and its last microword falls due. -/

namespace Sys2Proof.Machine

/-! ### Issue (R92, R99, R117, R126, R659) -/

/-- The issue time of the instruction at SEQ_PC: the ft of its last microword (R92). -/
def State.issueTime (s : State) (y : Nat) : Nat := (s.mast y).clk + ft * (microCount (s.word y (s.pc y)) - 1)

/-- May the instruction issue now, as the instruction named? -/
def State.issues (s : State) (y : Nat) (o : MOp) : Bool :=
  s.mst y == mISSUE && (s.mast y).hold == .none && mop (s.word y (s.pc y)) == o && s.reached (s.issueTime y)

/-- The issue of an instruction: a halt (R659), the program faults of decoding (R671) and of a body end (R117), the routine of
a patch, under which R99 holds as well (R135), or the instruction's own meaning `k` of its index, its word and its issue time. -/
def issueAt (y : Nat) (k : Nat → Nat → Nat → State → State) (s : State) : State :=
  let pc := s.pc y
  let w := s.word y pc
  let t := s.issueTime y
  if s.ratStops y pc then ratHalt y pc s
  else
    match s.patched y w with
    | some a => if ¬ rsvdClear w ∨ rsvdEnc w then progFault y pc E_SEQ_RSVD_ENC s else ucIssue y pc w t a s
    | none =>
      if s.decodeErr y pc w ≠ 0 then progFault y pc (s.decodeErr y pc w) s
      else if noBodyEnd (mop w) ∧ ((s.mast y).loops.any fun l => l.last == pc) then progFault y pc E_SEQ_LOOP s
      else k pc w t s

/-- A command that issues an instruction; it does nothing while another instruction stands at SEQ_PC. -/
def issue (y : Nat) (o : MOp) (k : Nat → Nat → Nat → State → State) (s : State) : State :=
  if s.issues y o then issueAt y k s else s

/-- An untimed instruction: its effect, then the next instruction one ft later. -/
def untimed (y pc t : Nat) (f : State → State) (s : State) : State := retire y pc ((f s).setClk y (t + ft))

/-- A taken branch costs 2 ft (Table 3-4). -/
def takeBranch (y a t : Nat) (s : State) : State := jumpTo y a (s.setClk y (t + 3 * ft))

/-- An instruction that moves the cursor (R107). -/
def moveTq (y pc t tq : Nat) (s : State) : State :=
  if tqMax < tq then progFault y pc E_SEQ_TQ_OVF s else untimed y pc t (fun s => s.setTq y tq) s

/-- An error of a fetch: 1 corrected and 2 uncorrectable in the ROM, 3 uncorrectable in patch RAM (R134), 4 uncorrectable in
the sequence store (Table 3-11). -/
def fetchEcc (y kind : Nat) (s : State) : State :=
  if s.mst y ≠ mISSUE then s
  else if kind = 4 then progFault y (s.pc y) E_SEQ_ECC_UNCORR s
  else ucEcc y kind s

/-- When the staging of a WAITD issued at `t` is complete, or has met a fault (R110, Table 3-10). -/
def State.stagedBy (s : State) (y pc w t : Nat) : Nat :=
  let (_, t1, e1) := stageRun y s 2 (pc + 1) t
  if e1.isSome then t1 else (stageRun y s 2 (bits w 14 0) t1).2.1

/-! ### The meanings -/

def issueNop (y : Nat) : State → State := issue y .nop fun pc _ t s => untimed y pc t id s
def issueBad (y : Nat) : State → State := issue y .bad fun pc _ _ s => progFault y pc E_SEQ_RSVD_ENC s
def issueEnd (y : Nat) : State → State := issue y .end_ fun _ w _ s => endIssue y w s
def issueWait (y : Nat) : State → State := issue y .wait fun pc w t s => moveTq y pc t (s.tq y + ft * s.waitFt y w) s
def issueSyncGroup (y : Nat) : State → State := issue y .syncGroup fun _ w t s => syncWait y 0 0 0 (bits w 39 16) t s
def issueSyncTrig (y : Nat) : State → State := issue y .syncTrig fun pc w t s =>
  if s.ownErr y w then faultUse y pc w E_IMG_RES_BUSY s
  else syncWait y 1 (bits w 52 49) (bits w 48 48) (bits w 39 16) t s
def issueSyncAlign (y : Nat) : State → State := issue y .syncAlign fun pc w t s =>
  moveTq y pc t (alignTq (s.tq y) (bits w 5 0)) s
def issueFence (y : Nat) : State → State := issue y .fence fun _ _ t s =>
  (s.setMst y mSTALL).modMast y fun m => { m with hold := .fence, clk := t + ft }
def issueBr (y : Nat) : State → State := issue y .br fun _ w t s => takeBranch y (bits w 14 0) t s
def issueBrc (y : Nat) : State → State := issue y .brc fun pc w t s =>
  let b := if bits w 42 42 = 1 then 0 else s.g y (bits w 47 43)
  if brcTaken (bits w 55 53) (s.g y (bits w 52 48)) b then takeBranch y (bits w 14 0) t s else untimed y pc t id s
/-- WAITD stages from its issue on and is in WAIT_D when that is complete. -/
def issueWaitd (y : Nat) : State → State := issue y .waitd fun pc w t s =>
  if s.ownErr y w then faultUse y pc w E_IMG_RES_BUSY s
  else if s.reached (s.stagedBy y pc w t) then waitdIssue y pc w t s else s
def issueLoop (y : Nat) : State → State := issue y .loop fun pc w t s =>
  if s.loopErr y pc w then progFault y pc E_SEQ_LOOP s
  else ((loopEffect y pc w s).setClk y (t + ft)).setPc y (pc + 1)
def issueMovi (y : Nat) : State → State := issue y .movi fun pc w t s =>
  untimed y pc t (fun s => s.setG y (bits w 52 48) (bits w 47 0)) s
def issueAlu (y : Nat) : State → State := issue y .alu fun pc w t s => untimed y pc t (aluEffect y w) s
def issueGets (y : Nat) : State → State := issue y .gets fun pc w t s =>
  untimed y pc t (fun s => s.setG y (bits w 51 47) (s.getsVal y (bits w 55 52))) s

/-- LDD stalls until TB1 reaches O + TQ − 16 ft (R114). -/
def issueLdd (y : Nat) : State → State := issue y .ldd fun pc w t s =>
  if s.ownErr y w then faultUse y pc w E_IMG_RES_BUSY s
  else (s.setMst y mSTALL).modMast y fun m =>
    { m with hold := .ldd (bits w 55 46) (bits w 45 41) (s.relAt y), clk := t + ft }

/-- RESULT: a USER record with TQ as its timestamp (Table 16-11). -/
def issueResult (y : Nat) : State → State := issue y .result fun pc w t s =>
  let two := bits w 33 33
  let b := if two = 1 then s.g y (bits w 38 34) else 0
  untimed y pc t (fun s =>
    s.yardRec y 1 (s.tq y) [bits w 55 44 + two * 2 ^ 16, s.g y (bits w 43 39), b, 0, 0, 0]) s

def issueTimed (y : Nat) (o : MOp) : State → State := issue y o fun pc w t s => timedIssue y pc w t s

/-- A SYNC ends in a Mast, or in a routine at WAITC 2, which goes on with the cursor set. -/
def syncFinish (y c t : Nat) (s : State) : State :=
  if s.atWaitc y 2 then
    ucResume y 2 true none ((s.setTq y (ceilFt (c - s.origin y))).modMast y fun m => { m with sync := none })
  else syncEnd y c t s

/-- SYNC_SATISFIED: the hub has received the last arrival of a group now, or the edge of a SYNC TRIG has been delivered
(Table 3-8). The edge is the first one at or after the SYNC's issue (log entry 95). -/
def syncSatisfied (y : Nat) (s : State) : State :=
  match (s.mast y).sync with
  | none => s
  | some x =>
    if x.mode = 0 then
      let ms := s.members (s.groupOf y)
      if ms.all (fun z => s.atSyncGroup z && s.syncInTime z && decide ((s.mast z).clk ≤ s.tb1 + ft)) then
        let c := max ((ms.map s.syncCursor).foldl max 0) (s.tb1 + 48 * ft)
        let t := ceilFt s.tb1 + 16 * ft
        forEach ms s fun z s => syncFinish z c t s
      else s
    else
      match ((tget s.cnv.trigEv (2 * x.trig + x.edge)).filter fun e => decide (x.at_ ≤ e)).getLast? with
      | none => s
      | some e =>
        if e + 48 * ft ≤ x.until_ ∧ s.reached (e + 48 * ft) then
          if ¬ s.yardMay y 2 x.trig then lostUse y (s.pc y) 2 x.trig s
          else syncFinish y (ceilFt (e + 48 * ft)) (ceilFt (e + 48 * ft)) s
        else s

/-- ISSUE_STALL_END: the release time has come within AHEAD_MAX, and the instruction's last microword issues then (R94). -/
def issueStallEnd (y : Nat) (s : State) : State :=
  match (s.mast y).hold with
  | .ahead t =>
    if s.reached t then
      (s.setMst y mISSUE).modMast y fun m => { m with hold := .none, clk := t - ft * (microCount (s.word y (s.pc y)) - 1) }
    else s
  | .uc _ _ _ _ k _ => if k = 4 then ucRest y s else ucResume y 0 true none s
  | _ => s

/-- FENCE_COMPLETE (R120). -/
def fenceComplete (y : Nat) (s : State) : State :=
  match (s.mast y).hold with
  | .fence =>
    if s.fenceOk y then
      let t := max (s.mast y).clk (ceilFt s.tb1)
      retire y (s.pc y) ((s.setMst y mISSUE).modMast y fun m => { m with hold := .none, clk := t })
    else s
  | .uc _ _ _ _ _ _ => ucResume y 3 (s.fenceOk y) none s
  | _ => s

/-- LDD_RESOLVE (R114). -/
def lddResolve (y : Nat) (s : State) : State :=
  match (s.mast y).hold with
  | .ldd slot gd t =>
    if ¬ s.reached t then s
    else if ¬ s.slotMay y slot then lostUse y (s.pc y) 8 slot s
    else
      let c := max (s.mast y).clk t
      let s := (s.setMst y mISSUE).modMast y fun m => { m with hold := .none, clk := c }
      retire y (s.pc y) (s.setG y gd (s.lddVal slot))
  | _ => s

/-! ### The commands -/

/-- ISSUE_STALL_END. -/
def execIssueStallEnd (y : Nat) (s : State) : Host.Outcome State Fault Refusal := .next (issueStallEnd y s)

/-- NOP: also the word with a reserved opcode (R99), and with `ecc` not 0 the error of the fetch (R134, Table 3-11). -/
def execNop (y ecc : Nat) (s : State) : Host.Outcome State Fault Refusal :=
  .next (if ecc = 0 then (if mop (s.word y (s.pc y)) = .bad then issueBad y s else issueNop y s) else fetchEcc y ecc s)

/-- END. -/
def execEnd (y : Nat) (s : State) : Host.Outcome State Fault Refusal := .next (issueEnd y s)

/-- WAIT. -/
def execWait (y : Nat) (s : State) : Host.Outcome State Fault Refusal := .next (issueWait y s)

/-- SYNC_GROUP. -/
def execSyncGroup (y : Nat) (s : State) : Host.Outcome State Fault Refusal := .next (issueSyncGroup y s)

/-- SYNC_TRIG. -/
def execSyncTrig (y : Nat) (s : State) : Host.Outcome State Fault Refusal := .next (issueSyncTrig y s)

/-- SYNC_ALIGN. -/
def execSyncAlign (y : Nat) (s : State) : Host.Outcome State Fault Refusal := .next (issueSyncAlign y s)

/-- SYNC_SATISFIED. -/
def execSyncSatisfied (y : Nat) (s : State) : Host.Outcome State Fault Refusal :=
  .next (syncSatisfied y s)

/-- SYNC_TIMEOUT. -/
def execSyncTimeout (y : Nat) (s : State) : Host.Outcome State Fault Refusal := .next (syncTimeout y s)

/-- FENCE. -/
def execFence (y : Nat) (s : State) : Host.Outcome State Fault Refusal := .next (issueFence y s)

/-- FENCE_COMPLETE. -/
def execFenceComplete (y : Nat) (s : State) : Host.Outcome State Fault Refusal := .next (fenceComplete y s)

/-- COMMIT. -/
def execCommit (y : Nat) (s : State) : Host.Outcome State Fault Refusal := .next (issueTimed y .commit s)

/-- BR. -/
def execBr (y : Nat) (s : State) : Host.Outcome State Fault Refusal := .next (issueBr y s)

/-- BRC. -/
def execBrc (y : Nat) (s : State) : Host.Outcome State Fault Refusal := .next (issueBrc y s)

/-- WAITD. -/
def execWaitd (y : Nat) (s : State) : Host.Outcome State Fault Refusal := .next (issueWaitd y s)

/-- WAITD_RESOLVE. -/
def execWaitdResolve (y : Nat) (s : State) : Host.Outcome State Fault Refusal :=
  .next (if s.atWaitc y 1 then ucWaitd y false s else if s.mst y = mWAITD then waitdResolve y s else s)

/-- WAITD_DEADLINE. -/
def execWaitdDeadline (y : Nat) (s : State) : Host.Outcome State Fault Refusal :=
  .next (if s.atWaitc y 1 then ucWaitd y true s else if s.mst y = mWAITD then waitdDeadline y s else s)

/-- LOOP. -/
def execLoop (y : Nat) (s : State) : Host.Outcome State Fault Refusal := .next (issueLoop y s)

/-- PLAY. -/
def execPlay (y : Nat) (s : State) : Host.Outcome State Fault Refusal := .next (issueTimed y .play s)

/-- ACQ. -/
def execAcq (y : Nat) (s : State) : Host.Outcome State Fault Refusal := .next (issueTimed y .acq s)

/-- FRAME. -/
def execFrame (y : Nat) (s : State) : Host.Outcome State Fault Refusal := .next (issueTimed y .frame s)

/-- BIAS. -/
def execBias (y : Nat) (s : State) : Host.Outcome State Fault Refusal := .next (issueTimed y .bias s)

/-- MARK. -/
def execMark (y : Nat) (s : State) : Host.Outcome State Fault Refusal := .next (issueTimed y .mark s)

/-- SETR. -/
def execSetr (y : Nat) (s : State) : Host.Outcome State Fault Refusal := .next (issueTimed y .setr s)

/-- MOVI. -/
def execMovi (y : Nat) (s : State) : Host.Outcome State Fault Refusal := .next (issueMovi y s)

/-- ALU. -/
def execAlu (y : Nat) (s : State) : Host.Outcome State Fault Refusal := .next (issueAlu y s)

/-- LDD. -/
def execLdd (y : Nat) (s : State) : Host.Outcome State Fault Refusal := .next (issueLdd y s)

/-- LDD_RESOLVE. -/
def execLddResolve (y : Nat) (s : State) : Host.Outcome State Fault Refusal := .next (lddResolve y s)

/-- GETS. -/
def execGets (y : Nat) (s : State) : Host.Outcome State Fault Refusal := .next (issueGets y s)

/-- RESULT. -/
def execResult (y : Nat) (s : State) : Host.Outcome State Fault Refusal := .next (issueResult y s)

end Sys2Proof.Machine
end

