-- ==== Sys2Proof/Machine/Decoder.lean ====
section
/-! DEFINITION. The syndrome decoder (chapter 11): graphs, rounds, the weighted union-find procedure, frame corrections,
logical read-out and boundary exchange. -/

namespace Sys2Proof.Machine

/-! ### Contexts -/

/-- A context's own state. -/
def State.ctx (s : State) (x : Nat) : DCtx := tget s.dec.ctxs x

/-- Changing it. -/
def State.setCtx (s : State) (x : Nat) (c : DCtx) : State := { s with dec := { s.dec with ctxs := tput s.dec.ctxs x c } }

/-- Changing it by a function. -/
def State.modCtx (s : State) (x : Nat) (f : DCtx → DCtx) : State := s.setCtx x (f (s.ctx x))

/-- Context states (Table 11-8). -/
def xOFF : Nat := 0
def xREADY : Nat := 1
def xRUN : Nat := 2
def xFLUSH : Nat := 3
def xOVERLOAD : Nat := 4

/-- CSTATE of a context. -/
def State.xst (s : State) (x : Nat) : Nat := s.fld (DEC_CSTS x) DEC_CSTS_CSTATE

/-- Setting it. -/
def State.setXst (s : State) (x v : Nat) : State := s.setF (DEC_CSTS x) DEC_CSTS_CSTATE v

/-- Is a context enabled? -/
def State.decEn (s : State) (x : Nat) : Bool := s.flag (DEC_EN x) DEC_EN_EN

/-- The group of a context. -/
def State.decGroup (s : State) (x : Nat) : Nat := s.fld (DEC_CTL x) DEC_CTL_GROUP

/-- The enabled contexts of a group. -/
def State.decOf (s : State) (g : Nat) : List Nat := (List.range 8).filter fun x => s.decEn x && s.decGroup x == g

/-- The growth passes and the pass time (DEC_XCFG), in ft. -/
def State.passes (s : State) (x : Nat) : Nat := s.fld (DEC_XCFG x) DEC_XCFG_PASSES
def State.passFt (s : State) (x : Nat) : Nat := s.fld (DEC_XCFG x) DEC_XCFG_PT

/-- The links a context exchanges boundary messages on. -/
def State.decLinks (s : State) (x : Nat) : List Nat := (List.range 6).filter fun l => bit (s.fld (DEC_XCFG x) DEC_XCFG_LINKS) l

/-- BACKLOG: the rounds that wait for S. -/
def decBacklog (x : Nat) (s : State) : State := s.setF (DEC_CSTS x) DEC_CSTS_BACKLOG (s.ctx x).wait.length

/-! ### Graphs (Tables 11-1 to 11-5) -/

/-- KIND of an endpoint (Table 11-3). -/
def endKind (e : Nat) : Nat := e / 2 ^ 14

/-- Detector index of an endpoint. -/
def endDet (e : Nat) : Nat := e % 2 ^ 11

/-- Link of a remote endpoint. -/
def endLink (e : Nat) : Nat := bits e 13 11

/-- Is an edge remote? -/
def DEdge.remote (e : DEdge) : Bool := endKind e.v == 2

/-- The edge entry at an address. -/
def readEdge (m : Store) (a : Nat) : DEdge :=
  ⟨ldBytes m a 2, ldBytes m (a + 2) 2, ldBytes m (a + 4) 2, ldBytes m (a + 6) 2, ldBytes m (a + 8) 2,
    ldBytes m (a + 10) 1, ldBytes m (a + 11) 1, ldBytes m (a + 12) 1, ldBytes m (a + 14) 2⟩

/-- The addresses of the observable entries, one after another (Table 11-5). -/
def obsAddrs (m : Store) : Nat → Nat → List Nat
  | _, 0 => []
  | a, n + 1 => a :: obsAddrs m (a + (4 + 2 * ldBytes m a 1 + 3) / 4 * 4) n

/-- The end of an observable entry. -/
def obsEnd (m : Store) (a : Nat) : Nat := a + (4 + 2 * ldBytes m a 1 + 3) / 4 * 4

/-- The graph whose header stands at address `p`. -/
def readGraph (m : Store) (p : Nat) : DGraph where
  ndet := ldBytes m (p + 0x08) 2
  ndetF := ldBytes m (p + 0x0A) 2
  base := ldBytes m (p + 0x0C) 2
  baseF := ldBytes m (p + 0x0E) 2
  edges := (List.range (ldBytes m (p + 0x10) 4)).map fun i => readEdge m (p + ldBytes m (p + 0x1C) 4 + 16 * i)
  edgesF := (List.range (ldBytes m (p + 0x14) 4)).map fun i => readEdge m (p + ldBytes m (p + 0x20) 4 + 16 * i)
  targets := (List.range (ldBytes m (p + 0x18) 2)).map fun i =>
    (ldBytes m (p + ldBytes m (p + 0x24) 4 + 4 * i) 1, ldBytes m (p + ldBytes m (p + 0x24) 4 + 4 * i + 1) 1)
  obs := (obsAddrs m (p + ldBytes m (p + 0x28) 4) (ldBytes m (p + 0x1A) 1)).map fun a =>
    (List.range (ldBytes m a 1)).map fun k => ldBytes m (a + 4 + 2 * k) 2

/-- Do two ranges meet? -/
def rangesMeet (a n b m : Nat) : Bool := decide (a < b + m) && decide (b < a + n) && n != 0 && m != 0

/-- The detector ranges of a graph. -/
def DGraph.dets (g : DGraph) : List (Nat × Nat) := [(g.base, g.ndet), (g.baseF, g.ndetF)]

/-- An edge with an endpoint of a reserved encoding, or with a bit that must be 0 (Tables 11-2, 11-3). -/
def DEdge.reserved (e : DEdge) (nobs : Nat) : Bool :=
  let end_ (v : Nat) : Bool :=
    ((endKind v == 0 || endKind v == 1) && bits v 13 11 != 0) || (endKind v == 2 && decide (5 < endLink v))
      || (endKind v == 3 && v != 0xFFFF)
  end_ e.u || end_ e.v || e.pauli / 4 != 0 || (e.qubit == 0xFFFF && e.pauli != 0) || e.obs / 2 ^ nobs != 0
    || e.flags / 2 != 0 || (!e.remote && (e.flags != 0 || e.pair != 0))

/-- An edge that R351 calls illegal: `n` detectors in its layer, `n1` in the layer of the previous round. -/
def DEdge.illegal (e : DEdge) (n n1 nq : Nat) : Bool :=
  endKind e.u != 0 || decide (n ≤ endDet e.u) || (endKind e.v == 0 && decide (n ≤ endDet e.v))
    || (endKind e.v == 1 && decide (n1 ≤ endDet e.v)) || e.u == e.v || (e.qubit != 0xFFFF && decide (nq ≤ e.qubit))

/-- The first check of a list that fails: its code and the index it names. -/
def firstFail : List (Bool × Nat × Nat) → Nat × Nat
  | [] => (0, 0)
  | (bad, code, ix) :: t => if bad then (code, ix) else firstFail t

/-- Checks of the context's registers (R351, first three points, and the field ranges of Table 11-10). -/
def State.decRegChecks (s : State) (x : Nat) : List (Bool × Nat × Nat) :=
  let g := s.decGroup x
  let f := s.fld (DEC_CTL x)
  let win := f DEC_CTL_WIN
  let cnt := f DEC_CTL_LANE_CNT
  let first := f DEC_CTL_LANE_FIRST
  let page := s.fld (DEC_GRAPH x) DEC_GRAPH_PAGE
  let pages := s.fld (DEC_GRAPH x) DEC_GRAPH_PAGES
  let close := s.flag (DEC_ROUND x) DEC_ROUND_CLOSE
  let part := match s.members g with | y :: _ => s.partOf y | [] => 0
  let lanes := (List.range cnt).map (first + ·)
  [(s.members g == [], E_DEC_RANGE, 0),
    (win == 0 || cnt == 0 || pages == 0, E_DEC_ZERO_LEN, 0),
    (!close && s.fld (DEC_ROUND x) DEC_ROUND_RDL == 0, E_DEC_ZERO_LEN, 0),
    (close && s.fld (DEC_RCLK x) DEC_RCLK_RP == 0, E_DEC_ZERO_LEN, 0),
    (decide (16 < first + cnt) || decide (32 < win), E_DEC_RANGE, 0),
    (decide (5 < s.passes x) || (s.passes x != 0 && decide (s.passFt x < 106)), E_DEC_RANGE, 0),
    (decide (2048 < page + pages), E_DEC_LEN_EXCEEDS, 0),
    (!(lanes.all fun l => s.allotOf 0x0B l == some part)
      || !((List.range pages).all fun i => s.partHas part 9 (page + i))
      || !s.partHas part 6 (s.fld (DEC_QID x) DEC_QID_QID), E_IMG_RES_BUSY, 0),
    ((List.range 8).any fun z => z != x && s.decEn z
      && rangesMeet first cnt (s.fld (DEC_CTL z) DEC_CTL_LANE_FIRST) (s.fld (DEC_CTL z) DEC_CTL_LANE_CNT), E_DEC_LANE_BUSY, 0)]

/-- Checks of the header (R351, fourth and fifth points). -/
def State.decHeadChecks (s : State) (x : Nat) : List (Bool × Nat × Nat) :=
  let m := s.dec.store
  let p := 4096 * s.fld (DEC_GRAPH x) DEC_GRAPH_PAGE
  let h (o n : Nat) : Nat := ldBytes m (p + o) n
  let total := h 0x2C 4
  let oas := obsAddrs m (p + h 0x28 4) (min 8 (h 0x1A 1))
  let obsLast := match oas.getLast? with | some a => obsEnd m a - p | none => 0
  [(h 0 4 != 0x48504744, E_DEC_BAD_MAGIC, 0), (h 4 2 != 1, E_DEC_FORMAT, 4),
    (decide (4096 * s.fld (DEC_GRAPH x) DEC_GRAPH_PAGES < total) || decide (total < 64), E_DEC_LEN_EXCEEDS, 0x2C),
    (decide (total < h 0x1C 4 + 16 * h 0x10 4), E_DEC_LEN_EXCEEDS, 0x1C),
    (h 0x14 4 != 0 && decide (total < h 0x20 4 + 16 * h 0x14 4), E_DEC_LEN_EXCEEDS, 0x20),
    (h 0x18 2 != 0 && decide (total < h 0x24 4 + 4 * h 0x18 2), E_DEC_LEN_EXCEEDS, 0x24),
    (decide (total < obsLast), E_DEC_LEN_EXCEEDS, 0x28),
    (h 0x1C 4 % 8 != 0, E_DEC_ALIGN, 0x1C), (h 0x20 4 % 8 != 0, E_DEC_ALIGN, 0x20), (h 0x24 4 % 8 != 0, E_DEC_ALIGN, 0x24),
    (h 0x28 4 % 8 != 0, E_DEC_ALIGN, 0x28), (total % 8 != 0, E_DEC_ALIGN, 0x2C),
    (crc32 (ldList m (p + 0x40) (total - 0x40)) != h 0x30 4, E_DEC_CRC, 0x30),
    (h 0x08 2 == 0, E_DEC_ZERO_LEN, 0x08), (decide (1152 < h 0x08 2), E_DEC_RANGE, 0x08),
    (decide (1152 < h 0x0A 2), E_DEC_RANGE, 0x0A), (h 0x10 4 == 0, E_DEC_ZERO_LEN, 0x10),
    (decide (8192 < h 0x10 4), E_DEC_RANGE, 0x10),
    (decide (8192 < h 0x14 4) || ((h 0x14 4 == 0) != (h 0x0A 2 == 0)), E_DEC_RANGE, 0x14),
    (decide (512 < h 0x18 2), E_DEC_RANGE, 0x18), (decide (8 < h 0x1A 1), E_DEC_RANGE, 0x1A),
    (oas.any fun a => ldBytes m a 1 == 0, E_DEC_ZERO_LEN, 0x28), (oas.any fun a => decide (64 < ldBytes m a 1), E_DEC_RANGE, 0x28),
    (h 0x06 2 != 0, E_DEC_RSVD_ENC, 0x06), (h 0x1B 1 != 0, E_DEC_RSVD_ENC, 0x1B),
    (h 0x34 4 != 0 || h 0x38 8 != 0, E_DEC_RSVD_ENC, 0x34),
    (oas.any fun a => ldBytes m (a + 1) 3 != 0, E_DEC_RSVD_ENC, 0x28)]

/-- Checks of the tables (R351, from the reserved fields of the entries on). -/
def State.decTableChecks (s : State) (x : Nat) : List (Bool × Nat × Nat) :=
  let m := s.dec.store
  let p := 4096 * s.fld (DEC_GRAPH x) DEC_GRAPH_PAGE
  let g := readGraph m p
  let es := g.edges ++ g.edgesF
  let offE (i : Nat) : Nat := if i < g.edges.length then ldBytes m (p + 0x1C) 4 + 16 * i
    else ldBytes m (p + 0x20) 4 + 16 * (i - g.edges.length)
  let ix (q : DEdge → Bool) : Nat := es.findIdx q
  let mem := s.members (s.decGroup x)
  let badT (q : Nat × Nat) : Bool := !(mem.contains q.1 && decide (q.2 < 8) && s.tgtEn q.1 q.2)
  let badE := g.edges.any (fun e => e.illegal g.ndet g.ndet g.targets.length)
    || g.edgesF.any (fun e => e.illegal g.ndetF g.ndet g.targets.length)
  let badIx := if g.edges.any (fun e => e.illegal g.ndet g.ndet g.targets.length)
    then g.edges.findIdx (fun e => e.illegal g.ndet g.ndet g.targets.length)
    else g.edgesF.findIdx (fun e => e.illegal g.ndetF g.ndet g.targets.length)
  let meets (z : DGraph) : Bool := g.dets.any fun a => z.dets.any fun b => rangesMeet a.1 a.2 b.1 b.2
  let rem := es.filter fun e => e.remote
  [(es.any fun e => e.reserved g.obs.length, E_DEC_RSVD_ENC, ix fun e => e.reserved g.obs.length),
    ((List.range es.length).any fun i => ldBytes m (p + offE i + 13) 1 != 0, E_DEC_RSVD_ENC,
      (List.range es.length).findIdx fun i => ldBytes m (p + offE i + 13) 1 != 0),
    ((List.range g.targets.length).any fun i => ldBytes m (p + ldBytes m (p + 0x24) 4 + 4 * i + 2) 2 != 0, E_DEC_RSVD_ENC,
      (List.range g.targets.length).findIdx fun i => ldBytes m (p + ldBytes m (p + 0x24) 4 + 4 * i + 2) 2 != 0),
    (g.obs.any fun o => o.any fun q => decide (1024 ≤ q), E_DEC_RSVD_ENC, g.obs.findIdx fun o => o.any fun q => decide (1024 ≤ q)),
    (badE, E_DEC_GRAPH, badIx),
    (g.targets.any badT, E_DEC_TARGET, g.targets.findIdx badT),
    (rangesMeet g.base g.ndet g.baseF g.ndetF || (List.range 8).any fun z => z != x && s.decEn z && meets (s.ctx z).graph,
      E_DEC_DET_OVERLAP, 0),
    (rem != [] && (!s.flag (DEC_ROUND x) DEC_ROUND_CLOSE || s.passes x == 0
      || rem.any fun e => !(s.decLinks x).contains (endLink e.v)), E_DEC_XCFG, ix fun e => e.remote)]

/-- The outcome of an enable: code and index (R351, R353). -/
def State.decCheck (s : State) (x : Nat) (ecc : Bool) : Nat × Nat :=
  match firstFail (s.decRegChecks x) with
  | (0, _) =>
    if ecc then (E_DEC_ECC_UNCORR, 0)
    else
      match firstFail (s.decHeadChecks x) with
      | (0, _) => firstFail (s.decTableChecks x)
      | r => r
  | r => r

/-- The resource that an enable lacks (R69, R351): a lane, a page or the queue, as class and instance. -/
def State.decLacks (s : State) (x : Nat) : Nat × Nat :=
  let part := match s.members (s.decGroup x) with | y :: _ => s.partOf y | [] => 0
  let lanes := (List.range (s.fld (DEC_CTL x) DEC_CTL_LANE_CNT)).map (s.fld (DEC_CTL x) DEC_CTL_LANE_FIRST + ·)
  let pages := (List.range (s.fld (DEC_GRAPH x) DEC_GRAPH_PAGES)).map (s.fld (DEC_GRAPH x) DEC_GRAPH_PAGE + ·)
  match lanes.find? fun l => s.allotOf 0x0B l != some part with
  | some l => (0x0B, l)
  | none =>
    match pages.find? fun p => !s.partHas part 9 p with
    | some p => (9, p)
    | none => (6, s.fld (DEC_QID x) DEC_QID_QID)

/-- DEC_EN (R351, R352). `ecc`: an uncorrectable error while the graph is read. -/
def decEnWrite (x v : Nat) (ecc : Bool) (s : State) : State :=
  if s.gst (s.decGroup x) ≠ gIDLE then s.status (DEC_CSTS x) E_DEC_STATE
  else if v % 2 = 1 ∧ ¬ s.decEn x then
    let r := s.decCheck x ecc
    let s := s.denyIf r.1 (s.decLacks x).1 (s.decLacks x).2 2 0x0B
    let s := (s.wrN (DEC_DETAIL x) r.2).status (DEC_CSTS x) r.1
    if r.1 = 0 then
      let s := ((s.setF (DEC_EN x) DEC_EN_EN 1).setXst x xREADY).setF (DEC_OBS x) DEC_OBS_LCOUNT 0
      s.setCtx x { (default : DCtx) with graph := readGraph s.dec.store (4096 * s.fld (DEC_GRAPH x) DEC_GRAPH_PAGE) }
    else s
  else if v % 2 = 0 ∧ s.decEn x then
    (((s.setF (DEC_EN x) DEC_EN_EN 0).setXst x xOFF).setCtx x default).status (DEC_CSTS x) 0
  else s.status (DEC_CSTS x) 0

/-- DEC_CTL, DEC_GRAPH, DEC_ROUND, DEC_RCLK, DEC_XCFG, DEC_QID (R352). -/
def decCfgWrite (x a v : Nat) (s : State) : State :=
  if s.decEn x then s.status (DEC_CSTS x) E_DEC_RUNNING else s.wrRW a v

/-- A write of bytes of the graph store by host software (R352). -/
def graphWrite (a : Nat) (bs : List (BitVec 8)) (s : State) : State :=
  let used := (List.range 8).any fun x => s.decEn x
    && rangesMeet (a / 4096) ((a + bs.length + 4095) / 4096 - a / 4096) (s.fld (DEC_GRAPH x) DEC_GRAPH_PAGE)
      (s.fld (DEC_GRAPH x) DEC_GRAPH_PAGES)
  if used then s.inc DEC_WDROP_CNT else { s with dec := { s.dec with store := stList s.dec.store a bs } }

/-! ### The window as a graph (R350, R358 to R360) -/

/-- An edge of the window: its place in the order, its round in the window, its weight, its nodes (none: open boundary). -/
structure WEdge where
  pos : Nat
  k : Nat
  e : DEdge
  w : Nat
  a : Nat
  b : Option Nat
  deriving DecidableEq, Repr

/-- A node of the window: round, then detector; remote nodes after the local ones (R350). -/
def wNode (k j : Nat) : Nat := 2048 * k + j
def wRemote (k v : Nat) : Nat := 2 ^ 20 + 2 ^ 14 * k + v % 2 ^ 14

/-- The nodes of an edge of round `k` of the window; the lower edge of the window is closed. -/
def wEnd (k v : Nat) : Option Nat :=
  match endKind v with
  | 0 => some (wNode k (endDet v))
  | 1 => if k = 0 then none else some (wNode (k - 1) (endDet v))
  | 2 => some (wRemote k v)
  | _ => none

/-- The edges of a layer. -/
def DGraph.layer (g : DGraph) (final : Bool) : List DEdge := if final then g.edgesF else g.edges

/-- The edges of the window in their order. -/
def windowEdges (g : DGraph) (win : List DRound) : List WEdge :=
  let es := (win.zipIdx.map fun (r, k) => ((g.layer r.final).zip r.ws).map fun (e, w) => (k, e, w)).flatten
  es.zipIdx.map fun (x, i) => ⟨i, x.1, x.2.1, x.2.2, wNode x.1 (endDet x.2.1.u), wEnd x.1 x.2.1.v⟩

/-- The nodes of the window that hold an event. -/
def windowEvents (win : List DRound) : List Nat := (win.zipIdx.map fun (r, k) => r.events.map (wNode k)).flatten

/-- The weight an edge takes at the close of its round (R358). -/
def edgeWeight (own prev : List DBit) (e : DEdge) : Nat :=
  let at_ (v : Nat) : Option DBit :=
    match endKind v with
    | 0 => own.find? fun b => b.j == endDet v
    | 1 => prev.find? fun b => b.j == endDet v
    | _ => none
  let any (p : DBit → Bool) : Bool :=
    (match at_ e.u with | some b => p b | none => false) || (match at_ e.v with | some b => p b | none => false)
  if e.qubit = 0xFFFF ∧ any (fun b => b.miss || b.erase) then 0
  else if e.qubit = 0xFFFF ∧ any (fun b => b.soft) then e.ws
  else e.w

/-! ### Growth and merge (R359) -/

/-- The cluster of a node; a node of none stands alone without an event. -/
def cluOf (cl : List DClu) (n : Nat) : DClu :=
  match cl.find? fun c => c.nodes.contains n with
  | some c => c
  | none => ⟨[n], false, false, false⟩

/-- Is a cluster odd, touching no boundary? -/
def DClu.active (c : DClu) : Bool := c.odd && !c.bnd

/-- The number of active clusters that hold an endpoint of an edge, 0 for an edge internal to one cluster. -/
def edgeRate (cl : List DClu) (e : WEdge) : Nat :=
  let ca := cluOf cl e.a
  match e.b with
  | none => b01 ca.active
  | some b => if ca.nodes.contains b then 0 else b01 ca.active + b01 (cluOf cl b).active

/-- The clusters after the merge of an edge's endpoints. -/
def mergeEdge (cl : List DClu) (e : WEdge) : List DClu :=
  let ca := cluOf cl e.a
  match e.b with
  | none => (cl.filter fun c => c != ca) ++ [{ ca with bnd := true, own := true }]
  | some b =>
    if ca.nodes.contains b then cl
    else
      let cb := cluOf cl b
      (cl.filter fun c => c != ca && c != cb) ++ [⟨ca.nodes ++ cb.nodes, ca.odd != cb.odd, ca.bnd || cb.bnd, ca.own || cb.own⟩]

/-- One turn of the loop: the step, the growth, the merges in edge order. -/
def growTurn (es : List WEdge) (x : DGrow) : DGrow :=
  let rates := es.map (edgeRate x.cl)
  let gaps := ((es.zip x.g).zip rates).filterMap fun ((e, g), r) => if r = 0 then none else some ((e.w - g + r - 1) / r)
  let step := gaps.foldl min (gaps.headD 0)
  let g := ((es.zip x.g).zip rates).map fun ((e, g), r) => if r = 0 then g else min e.w (g + step * r)
  let own := ((x.own.zip g).zip x.g).map fun ((o, g1), g0) => o + (g1 - g0)
  let cl := (es.zip g).foldl (fun cl (e, g) => if g = e.w then mergeEdge cl e else cl) x.cl
  { x with cl := cl, g := g, own := own }

/-- The loop: while some cluster is odd and touches no boundary, and some edge can still grow. -/
def growLoop (es : List WEdge) : Nat → DGrow → DGrow
  | 0, x => x
  | n + 1, x => if es.any fun e => edgeRate x.cl e != 0 then growLoop es n (growTurn es x) else x

/-- Growth from the events of the window. -/
def growStart (es : List WEdge) (events : List Nat) : DGrow :=
  growLoop es (2 * es.length + 2)
    ⟨events.map fun n => ⟨[n], true, false, false⟩, es.map fun _ => 0, es.map fun _ => 0, []⟩

/-! ### Peeling (R359, R372) -/

/-- A node of a spanning tree: the node (none: the open boundary), its tree edge and parent, its depth. -/
structure TNode where
  n : Option Nat
  edge : Nat
  parent : Option Nat
  depth : Nat
  deriving DecidableEq, Repr

/-- The other end of an edge that has an end at a node. -/
def WEdge.other (e : WEdge) (n : Option Nat) : Option (Option Nat) :=
  if some e.a = n then some e.b else if e.b = n then some (some e.a) else none

/-- Breadth first over the fully grown edges of a cluster, edges in edge order. -/
def spanTree (es : List WEdge) : Nat → List TNode → List TNode → List TNode
  | 0, _, tree => tree
  | _, [], tree => tree
  | fuel + 1, t :: queue, tree =>
    let new_ := es.foldl (fun acc e =>
      match e.other t.n with
      | some m => if (tree ++ acc).any (fun z => z.n == m) then acc else acc ++ [⟨m, e.pos, t.n, t.depth + 1⟩]
      | none => acc) []
    spanTree es fuel (queue ++ new_) (tree ++ new_)

/-- The order of peeling: deepest first, ties in reverse node order. -/
def peelBefore (a b : TNode) : Bool := decide (b.depth < a.depth) || (a.depth == b.depth && decide (b.n.getD 0 < a.n.getD 0))

/-- A tree node put at its place. -/
def peelIns (t : TNode) : List TNode → List TNode
  | [] => [t]
  | h :: r => if peelBefore t h then t :: h :: r else h :: peelIns t r

/-- An element put in or taken out. -/
def toggle {α : Type} [DecidableEq α] (x : α) (xs : List α) : List α := if xs.contains x then xs.filter (· != x) else xs ++ [x]

/-- Peeling a tree: the correction and the events left. -/
def peelTree (ts : List TNode) (events : List (Option Nat)) : List Nat × List (Option Nat) :=
  ts.foldl (fun (corr, ev) t =>
    if ev.contains t.n then (corr ++ [t.edge], toggle t.parent (ev.filter (· != t.n))) else (corr, ev)) ([], events)

/-- The fully grown edges with an end in a cluster. -/
def cluEdges (es : List WEdge) (x : DGrow) (c : DClu) : List WEdge :=
  (es.zip x.g).filterMap fun (e, g) => if g = e.w ∧ c.nodes.contains e.a then some e else none

/-- The fully grown remote edge of lowest PAIR of a cluster. -/
def lowRemote (es : List WEdge) : Option WEdge :=
  es.foldl (fun best e => if ¬ e.e.remote then best
    else match best with | none => some e | some b => if e.e.pair < b.e.pair then some e else some b) none

/-- Peeling one cluster: correction edges, and the routing bit's edge when an event is left at a remote root. -/
def peelClu (es : List WEdge) (x : DGrow) (events : List Nat) (c : DClu) : List Nat × List Nat :=
  let ce := cluEdges es x c
  let rem := lowRemote ce
  let root : Option Nat :=
    if c.own then none
    else match rem with
      | some e => some e.a
      | none => some (c.nodes.foldl min (c.nodes.headD 0))
  let tree := spanTree ce (c.nodes.length + 2) [⟨root, 0, none, 0⟩] [⟨root, 0, none, 0⟩]
  let order := (tree.drop 1).foldl (fun acc t => peelIns t acc) []
  let r := peelTree order ((events.filter c.nodes.contains).map some)
  let route := if c.own then [] else match rem with | some e => if r.2.contains root then [e.pos] else [] | none => []
  (r.1, route)

/-- Peeling every cluster: the local correction and the routing bits that are 1. -/
def peelAll (es : List WEdge) (x : DGrow) (events : List Nat) : List Nat × List Nat :=
  x.cl.foldl (fun (corr, route) c => let r := peelClu es x events c; (corr ++ r.1, route ++ r.2)) ([], [])

/-! ### Commit (R360, R361) -/

/-- XOR of a Pauli into the pending correction of a target. -/
def addPauli (q p : Nat) : List (Nat × Nat) → List (Nat × Nat)
  | [] => [(q, p)]
  | (a, b) :: t => if a = q then (a, b ^^^ p) :: t else (a, b) :: addPauli q p t

/-- Does a committed edge move a frame? -/
def movesFrame (win : List DRound) (e : WEdge) : Bool :=
  e.e.qubit != 0xFFFF && (!e.e.remote || e.e.flags % 2 == 1)
    && (match win[e.k]? with | some r => !r.final | none => false)

/-- The pending corrections of a list of committed edges, those of value (0, 0) dropped. -/
def pendingOf (win : List DRound) (es : List WEdge) : List (Nat × Nat) :=
  ((es.filter (movesFrame win)).foldl (fun acc e => addPauli e.e.qubit e.e.pauli acc) []).filter fun q => q.2 % 4 != 0

/-- The events of a round after the carries of the correction edges into the round below (R360). -/
def carryInto (events : List Nat) (es : List WEdge) : List Nat :=
  (es.filter fun e => e.k == 1 && endKind e.e.v == 1).foldl (fun ev e => toggle (endDet e.e.u) ev) events

/-- The window after its oldest round is committed. -/
def dropOldest (win : List DRound) (corr : List WEdge) : List DRound :=
  match win with
  | _ :: r :: t => { r with events := carryInto r.events corr } :: t
  | _ => []

/-- The decode of the newest round of the window has ended with a correction: it commits its oldest round once it holds WIN
rounds, or all of it at a final round or at the end of an attempt, and forms the frame items, none for an attempt that has ended
(R366). -/
def decCommit (x : Nat) (corr : List Nat) (s : State) : State :=
  let c := s.ctx x
  match c.win.getLast? with
  | none => s
  | some r =>
    let es := (windowEdges c.graph c.win).filter fun e => corr.contains e.pos
    let over_ : Bool := r.flush == 2
    let whole := over_ || r.final
    let due_ : Bool := whole || decide (s.fld (DEC_CTL x) DEC_CTL_WIN ≤ c.win.length)
    let done := if whole then es else if due_ then es.filter fun e => e.k == 0 else []
    let acc := done.foldl (fun a e => a ^^^ e.e.obs) c.acc
    let f := r.s + r.u * ft + 40 * ft
    let its := pendingOf c.win done
    let items := if r.flush = 0 ∧ (its ≠ [] ∨ r.final) then c.items ++ [⟨f, its, r.final⟩] else c.items
    let win := if whole then [] else if due_ then dropOldest c.win es else c.win
    match r.log with
    | some l => s.setCtx x { c with win := win, cur := none, items := items, acc := 0, deg := false, xcut := false,
                                    logs := c.logs ++ [(l, acc, c.deg, c.xcut)] }
    | none => s.setCtx x { c with win := win, cur := none, items := items, acc := if over_ then 0 else acc,
                                  deg := c.deg && !over_, xcut := c.xcut && !over_ }

/-- Growth, merge and peel of the window without a neighbour's messages. -/
def DCtx.localCorr (c : DCtx) : List Nat :=
  let es := windowEdges c.graph c.win
  let ev := windowEvents c.win
  (peelAll es (growStart es ev) ev).1

/-- Has the graph a remote edge? -/
def DGraph.spans (g : DGraph) : Bool := g.edges.any DEdge.remote || g.edgesF.any DEdge.remote

/-! ### Records (R364, R368, R369) -/

/-- The nibble of a detector in a raw round record. -/
def DBit.nibble (b : DBit) : Nat := b01 b.miss * 8 + b01 b.soft * 4 + b01 b.erase * 2 + b.val % 2

/-- Numbers of `w` bits as one little-endian value. -/
def packLE (w : Nat) : List Nat → Nat
  | [] => 0
  | n :: t => n % 2 ^ w + 2 ^ w * packLE w t

/-- The six words of a CONT body. -/
def contWords (n : Nat) : List Nat := (List.range 6).map fun i => n / 2 ^ (64 * i) % 2 ^ 64

/-- Entries of `n` items each. -/
def chunks {α : Type} (n : Nat) : Nat → List α → List (List α)
  | 0, _ => []
  | fuel + 1, xs => if xs.isEmpty then [] else xs.take n :: chunks n fuel (xs.drop n)

/-- MARKS and shot index of a record of a context for a pass of its group (R129). -/
def State.decMarks (s : State) (x pass : Nat) : Nat × Nat :=
  s.passMarks (s.decGroup x) pass (s.grp (s.decGroup x)).shot

/-- The pass in progress of a context's group. -/
def State.decPass (s : State) (x : Nat) : Nat := (s.grp (s.decGroup x)).pass

/-- A raw round record (R364, R369). -/
def rawRecord (x : Nat) (r : DRound) (s : State) : State :=
  let n := r.bits.length
  let cs := (chunks 96 n r.bits).map fun bs => contWords (packLE 4 (bs.map DBit.nibble))
  s.emitRec ⟨s.fld (DEC_QID x) DEC_QID_QID, 0x40 + x, r.c,
    [recHead 5 (0x40 + x) (s.decMarks x (s.decPass x)).1 (s.decMarks x (s.decPass x)).2, r.c % 2 ^ 64,
      x + b01 r.final * 2 ^ 8 + n % 2 ^ 16 * 2 ^ 16 + r.idx % 2 ^ 32 * 2 ^ 32, cs.length, 0, 0, 0, 0], cs, false⟩

/-- The observables of a logical record (R368). -/
def logObs (l : DLog) (acc : Nat) : Nat :=
  packLE 1 (l.slots.zipIdx.map fun (ds, o) => ((ds.map decValue).foldl (· + ·) (b01 (bit acc o))) % 2)

/-- LOGICAL_RECORD: at F_r of a final round (R368). -/
def logicalRecord (x : Nat) (s : State) : State :=
  let c := s.ctx x
  match c.logs with
  | (l, acc, deg, xcut) :: t =>
    if s.reached l.f then
      let o := logObs l acc
      let cs := if l.ovl then (chunks 48 l.slots.flatten.length l.slots.flatten).map fun ds => contWords (packLE 8 ds) else []
      let n := s.fld (DEC_OBS x) DEC_OBS_LCOUNT
      let s := s.setCtx x { c with logs := t }
      let s := s.wrN (DEC_OBS x) ((n + 1) % 2 ^ 24 * 2 ^ 8 + o)
      s.emitRec ⟨s.fld (DEC_QID x) DEC_QID_QID, 0x40 + x, l.f,
        [recHead 4 (0x40 + x) (s.decMarks x l.pass).1 (s.decMarks x l.pass).2, l.f % 2 ^ 64,
          x + o * 2 ^ 8 + (b01 l.ovl * 4 + b01 xcut * 2 + b01 deg) * 2 ^ 16 + l.rounds % 2 ^ 32 * 2 ^ 32,
          l.miss % 2 ^ 32 + l.forced % 2 ^ 32 * 2 ^ 32, cs.length, 0, 0, 0], cs, false⟩
    else s
  | [] => s

/-! ### Rounds (R355 to R358, R362 to R364) -/

/-- The context goes into OVERLOAD for the rest of the attempt (R364): the rounds of it that wait get raw records. What is left to
decode of an attempt that has ended stays. -/
def decOverload (x : Nat) (s : State) : State :=
  let c := s.ctx x
  let s := ((s.setXst x xOVERLOAD).setF (DEC_CSTS x) DEC_CSTS_OVL_SEEN 1).inc (DEC_OVL_CNT x)
  let s := s.markGroup (s.decGroup x) E_DEC_OVERLOAD false
  let now_ := c.wait.filter fun r => r.flush == 0
  let old := c.wait.filter fun r => r.flush != 0
  let s := forEach now_ s fun r s => rawRecord x r s
  let logs := now_.filterMap fun r => r.log.map fun l => ({ l with ovl := true }, c.acc, c.deg, c.xcut)
  let keep : Bool := old != [] || c.tail.isSome || c.win.any fun r => r.flush != 0
  decBacklog x (s.setCtx x { c with ovl := true, items := [], cur := if keep then c.cur else none, wait := old,
                                    win := if keep then c.win else [], logs := c.logs ++ logs })

/-- The closed round formed from what an open round has received, at close `at_` (R358, R362, R363, R368). -/
def State.closed_ (s : State) (x : Nat) (o : DOpen) (at_ : Nat) : DRound :=
  let c := s.ctx x
  let n := if o.final then c.graph.ndetF else c.graph.ndet
  let bs := (List.range n).map fun j => match o.got.find? fun b => b.j == j with | some b => b | none => ⟨j, 0, false, false, true⟩
  let v := if o.final then c.vF else c.v
  let u := v + c.x * s.passFt x
  let st := max (at_ + 8 * ft) c.free
  let miss := (bs.filter fun b => b.miss).length
  let log := if o.final then some ⟨st + u * ft + 40 * ft, s.decPass x,
      c.graph.obs.map fun q => q.map s.slotDec, c.rounds + 1, c.miss + miss, c.forced, c.ovl⟩ else none
  ⟨c.idx, o.final, at_, st, v, u, bs, (c.graph.layer o.final).map (edgeWeight bs c.prev),
    (bs.filter fun b => b.val % 2 == 1).map fun b => b.j, log, false, false, 0⟩

/-- A round closes: it waits for its decode, or it finds 8 rounds waiting (R364). -/
def closeRound (x : Nat) (o : DOpen) (at_ : Nat) (s : State) : State :=
  let r := s.closed_ x o at_
  let c := s.ctx x
  let n := (r.bits.filter fun b => b.miss).length
  let s := (s.inc (DEC_RND_CNT x)).incBy (DEC_MISS_CNT x) n
  let s := s.setF (DEC_LAT x) DEC_LAT_WORST (max (s.fld (DEC_LAT x) DEC_LAT_WORST)
    (min 0xFFFF ((r.s + r.u * ft + 40 * ft - at_) / ft)))
  let c := { c with idx := c.idx + 1, free := r.s + r.u * ft, prev := if o.final then [] else r.bits,
                    rounds := if o.final then 0 else c.rounds + 1, miss := if o.final then 0 else c.miss + n,
                    forced := if o.final then 0 else c.forced, items := if o.final then [] else c.items }
  if c.ovl then
    rawRecord x r (s.setCtx x { c with logs := c.logs ++ (r.log.map fun l => (l, c.acc, c.deg, c.xcut)).toList })
  else
    let full : Bool := decide (8 ≤ c.wait.length)
    let s := s.setCtx x { c with wait := c.wait ++ [r] }
    if full then decOverload x s
    else decBacklog x (if s.flag (DEC_CTL x) DEC_CTL_RAW then rawRecord x r s else s)

/-- The detectors of an open round's layer. -/
def DCtx.layerDets (c : DCtx) (o : DOpen) : Nat := if o.final then c.graph.ndetF else c.graph.ndet

/-- The oldest open round closes, and a newer one that is complete closes in the same ft (R356). -/
def closeOldest (x at_ : Nat) (s : State) : State :=
  match (s.ctx x).opens with
  | [] => s
  | o :: t =>
    let s := closeRound x o at_ (s.modCtx x fun c => { c with opens := t })
    match (s.ctx x).opens with
    | p :: u => if p.got.length = (s.ctx x).layerDets p
        then closeRound x p at_ (s.modCtx x fun c => { c with opens := u }) else s
    | [] => s

/-- A detector joins a round of its layer (R356, R357). -/
def joinRound (x : Nat) (final : Bool) (b : DBit) (rel : Nat) (s : State) : State :=
  let c := s.ctx x
  if s.flag (DEC_ROUND x) DEC_ROUND_CLOSE then
    let two : Bool := c.opens.any fun o => o.final == final && o.got.any fun z => z.j == b.j
    let opens := if c.opens.any fun o => o.final == final
      then c.opens.map fun o => if o.final == final then { o with got := (o.got.filter fun z => z.j != b.j) ++ [b] } else o
      else c.opens ++ [⟨final, rel, [b]⟩]
    let s := s.setCtx x { c with opens := opens, forced := c.forced + b01 two }
    s.when two fun s => s.inc (DEC_FORCE_CNT x)
  else
    let fits (o : DOpen) : Bool := o.final == final && !(o.got.any fun z => z.j == b.j)
    if c.opens.any fits then
      let i := c.opens.findIdx fits
      s.setCtx x { c with opens := c.opens.zipIdx.map fun (o, k) => if k = i then { o with got := o.got ++ [b] } else o }
    else
      let s := if 2 ≤ c.opens.length then
          closeOldest x (ceilFt rel) ((s.modCtx x fun c => { c with forced := c.forced + 1 }).inc (DEC_FORCE_CNT x)) else s
      s.modCtx x fun c => { c with opens := c.opens ++ [⟨final, rel, [b]⟩] }

/-- The context and layer of a detector. -/
def State.routeDet (s : State) (d : Nat) : Option (Nat × Bool × Nat) :=
  (List.range 8).findSome? fun x =>
    let g := (s.ctx x).graph
    if ¬ s.decEn x then none
    else if g.base ≤ d ∧ d < g.base + g.ndet then some (x, false, d - g.base)
    else if g.baseF ≤ d ∧ d < g.baseF + g.ndetF then some (x, true, d - g.baseF)
    else none

/-- DETECTOR_ARRIVAL (R355). -/
def detectorArrival (d : Nat) (s : State) : State :=
  match s.cnv.dets.find? fun x => x.det == d && s.due x.rel with
  | none => s
  | some b =>
    let s := { s with cnv := { s.cnv with dets := s.cnv.dets.erase b } }
    match s.routeDet d with
    | some (x, final, j) =>
      if (s.ctx x).on then joinRound x final ⟨j, b.val, b.erase, b.soft, false⟩ b.rel s else s.inc DEC_DISC_CNT
    | none => s.inc DEC_DISC_CNT

/-- Every detector whose release has come reaches the decoder: those of a close's own ft count as received (R357, R358). -/
def takeDets (s : State) : State := forEach (s.cnv.dets.filter fun d => s.due d.rel) s fun d s => detectorArrival d.det s

/-- ROUND_CLOSE: the oldest open round holds all its detectors, or a newer one does and waits for it (R356). -/
def roundClose (x : Nat) (s : State) : State :=
  let c := s.ctx x
  match c.opens with
  | o :: _ => if ¬ s.flag (DEC_ROUND x) DEC_ROUND_CLOSE ∧ o.got.length = c.layerDets o then closeOldest x (ceilFt s.tb1) s else s
  | [] => s

/-- ROUND_DEADLINE (R356). -/
def roundDeadline (x : Nat) (s : State) : State :=
  let s := takeDets s
  match (s.ctx x).opens with
  | o :: _ =>
    let d := ceilFt o.opened + s.fld (DEC_ROUND x) DEC_ROUND_RDL * ft
    if ¬ s.flag (DEC_ROUND x) DEC_ROUND_CLOSE ∧ s.reached d then closeOldest x d s else s
  | [] => s

/-- ROUND_CLOCK_CLOSE: round r closes at C_r (R357). A final round discards its bulk detectors. -/
def roundClockClose (x : Nat) (s : State) : State :=
  let s := takeDets s
  let c := s.ctx x
  let at_ := c.org + (s.fld (DEC_RCLK x) DEC_RCLK_RB + c.idx * s.fld (DEC_RCLK x) DEC_RCLK_RP) * ft
  if s.flag (DEC_ROUND x) DEC_ROUND_CLOSE ∧ c.on ∧ s.reached at_ then
    let bulk := (c.opens.find? fun o => !o.final).getD ⟨false, at_, []⟩
    let s := s.setCtx x { c with opens := [] }
    match c.opens.find? fun o => o.final with
    | some o => closeRound x o at_ (s.incBy DEC_DISC_CNT bulk.got.length)
    | none => closeRound x bulk at_ s
  else s

/-! ### Decoding a round (R359 to R363, R370 to R373) -/

/-- The decode of the window starts at S `at_`, with a processing time of `v` ft: at once, or exchanging messages (R359, R370). -/
def decodeWindow (x at_ v : Nat) (s : State) : State :=
  let c := s.ctx x
  if c.graph.spans then
    let es := windowEdges c.graph c.win
    s.setCtx x { c with cur := some ⟨growStart es (windowEvents c.win), 0, at_ + v * ft, false, [], [], [], [], []⟩ }
  else decCommit x c.localCorr s

/-- The newest round of a window marked as the one whose decode commits all of it (R366). -/
def flushNewest : List DRound → List DRound
  | [] => []
  | [r] => [{ r with flush := 2 }]
  | r :: t => r :: flushNewest t

/-- DECODE_START: what is left of the window of an attempt that has ended, or else the first waiting round, is decoded at its S. `ecc`: an
uncorrectable error in lane memory (R353); with no attempt in progress it is reported only. -/
def decodeStart (x : Nat) (ecc : Bool) (s : State) : State :=
  let c := s.ctx x
  let fails : Bool := ecc && c.on && !c.ovl
  let s' := if ecc then s.report E_DEC_ECC_UNCORR islHub x else s
  match c.tail, c.wait with
  | some t, _ =>
    if ¬ s.reached t ∨ c.cur.isSome then s
    else
      let s := if fails then decOverload x s' else s'
      decodeWindow x t c.v (s.modCtx x fun c => { c with tail := none, win := flushNewest c.win })
  | none, r :: rs =>
    if ¬ s.reached r.s ∨ c.cur.isSome then s
    else if fails ∧ r.flush = 0 then decOverload x s'
    else
      let s := if fails then decOverload x s' else s'
      let s := s.modCtx x fun c => { c with wait := if fails then c.wait.drop 1 else rs, win := c.win ++ [r] }
      decodeWindow x r.s r.v (decBacklog x s)
  | none, [] => s

/-- A remote edge on a link. -/
def onLink (l : Nat) (e : WEdge) : Bool := e.e.remote && endLink e.e.v == l

/-- The round index of a window edge. -/
def DCtx.roundAt (c : DCtx) (k : Nat) : Nat := match c.win[k]? with | some r => r.idx | none => 0

/-- The boundary message of a context on a link (R370, R372). -/
def State.boundaryMsg (s : State) (x l : Nat) (cur : DCur) : BMsg :=
  let c := s.ctx x
  let es := windowEdges c.graph c.win
  let g := s.grp (s.decGroup x)
  ⟨x, match c.win.getLast? with | some r => r.idx | none => 0, g.shot, g.attempt, cur.pass - 1, decide (s.passes x < cur.pass),
    ((es.zip cur.grow.g).zip cur.grow.own).filterMap fun ((e, gr), o) =>
      if onLink l e ∧ 0 < gr then
        some ⟨c.roundAt e.k, e.e.pair, (cluOf cur.grow.cl e.a).odd, (cluOf cur.grow.cl e.a).bnd, o, cur.route.contains e.pos⟩
      else none⟩

/-- One message of a pass: sent when its release can be met under the link's lead (R373, R474) and it needs no more than 8
flits (R475). -/
def boundarySend (x l start : Nat) (cur : DCur) (s : State) : State :=
  let lead := if s.linkThree l then 113 else 90
  let m := s.boundaryMsg x l cur
  let rel := start + (s.passFt x - 16) * ft
  if s.linkUp l ∧ lead ≤ s.passFt x - 16 ∧ tget s.ozl.fbLast l ≤ rel ∧ m.edges.length ≤ 30 then
    { s with dec := { s.dec with out := s.dec.out ++ [⟨l, rel, m⟩] }, ozl := { s.ozl with fbLast := tput s.ozl.fbLast l rel } }
  else s.inc (DEC_XMISS_CNT x)

/-- The growth of one remote edge on a growth pass (R371): both sides' growth, and the merge once it is full. -/
def growRemote (es : List WEdge) (c : DCtx) (l : Nat) (m : BMsg) (x : DGrow) : DGrow :=
  es.foldl (fun x e =>
    match m.edges.find? fun q => q.rnd == c.roundAt e.k && q.pair == e.e.pair with
    | some q =>
      if onLink l e then
        let gr := min e.w (x.own.getD e.pos 0 + q.grown)
        let x := { x with g := x.g.set e.pos gr }
        if gr = e.w ∧ ¬ x.joined.contains e.pos then
          let cl := mergeEdge x.cl e
          { x with cl := cl.map fun k => if k.nodes.contains e.a then { k with odd := k.odd != q.odd, bnd := k.bnd || q.bnd } else k,
                   joined := x.joined ++ [e.pos] }
        else x
      else x
    | none => x) x

/-- The remote edges of a link in the correction after a peel pass, and whether routing bits differ (R372). -/
def routeAgree (es : List WEdge) (c : DCtx) (l : Nat) (m : Option BMsg) (route : List Nat) : List Nat × Bool :=
  let theirs (e : WEdge) : Bool := match m with
    | some m => m.edges.any fun q => q.rnd == c.roundAt e.k && q.pair == e.e.pair && q.route
    | none => false
  let on := es.filter (onLink l)
  ((on.filter fun e => route.contains e.pos && theirs e).map fun e => e.pos, on.any fun e => route.contains e.pos != theirs e)

/-- What a link answers in the current pass: a valid message, or nothing (R371 to R373). -/
def answerPass (x l : Nat) (m : Option BMsg) (s : State) : State :=
  let c := s.ctx x
  match c.cur with
  | none => s
  | some cur =>
    let es := windowEdges c.graph c.win
    let s := if m.isNone then
        ((((s.inc (DEC_XMISS_CNT x)).setF (DEC_CSTS x) DEC_CSTS_XMISS_SEEN 1).setF (DEC_CSTS x) DEC_CSTS_DEGRADED 1).report
          E_DEC_XMISS islHub x) else s
    let cur := { cur with answered := cur.answered ++ [l] }
    if cur.pass ≤ s.passes x then
      let gw := match m with | some m => growRemote es c l m cur.grow | none => cur.grow
      let last : Bool := (s.decLinks x).all fun k => cur.answered.contains k
      let gw := if last then growLoop es (2 * es.length + 2) gw else gw
      s.setCtx x { c with deg := c.deg || m.isNone, cur := some { cur with grow := gw, open_ := !last } }
    else
      let r := routeAgree es c l m cur.route
      let s := s.when r.2 fun s => s.setF (DEC_CSTS x) DEC_CSTS_DEGRADED 1
      let s := s.setCtx x { c with deg := c.deg || m.isNone, xcut := c.xcut || r.2,
                                   cur := some { cur with agreed := cur.agreed ++ r.1 } }
      if (s.decLinks x).all fun k => cur.answered.contains k
      then decCommit x (cur.peel ++ cur.agreed ++ r.1) s else s

/-- The release of the messages of the pass in progress of a decode (R370). -/
def State.passRel (s : State) (x : Nat) (cur : DCur) : Nat :=
  cur.start + ((cur.pass - 1) * s.passFt x + s.passFt x - 16) * ft

/-- Does a message name the context, round, shot and replay count of the decode in progress (R373)? -/
def State.msgFits (s : State) (x : Nat) (q : BMsg) : Bool :=
  let g := s.grp (s.decGroup x)
  let idx := match (s.ctx x).win.getLast? with | some r => r.idx | none => 0
  q.ctx == x && q.round == idx && q.shot == g.shot && q.replay == g.attempt

/-- At the release time of a pass each link's message takes effect, and the links without one count as missing (R371 to R373). -/
def passAnswers (x : Nat) (s : State) : State :=
  match (s.ctx x).cur with
  | none => s
  | some c0 =>
    if ¬ c0.open_ ∨ ¬ s.reached (s.passRel x c0) then s
    else
      forEach (s.decLinks x) s fun l s =>
        match (s.ctx x).cur with
        | some cur =>
          if cur.open_ ∧ ¬ cur.answered.contains l
          then answerPass x l (((cur.inbox.find? fun m => m.1 == l).map (·.2)).filter (s.msgFits x)) s else s
        | none => s

/-- BOUNDARY_PASS: the next growth pass, or the peel pass, of the decode in progress starts (R370, R372). -/
def boundaryPass (x : Nat) (s : State) : State :=
  match (s.ctx x).cur with
  | none => s
  | some cur0 =>
    let start := cur0.start + cur0.pass * s.passFt x * ft
    if ¬ s.reached start ∨ s.passes x < cur0.pass then s
    else
      let s := passAnswers x s
      match (s.ctx x).cur with
      | none => s
      | some cur =>
        let c := s.ctx x
        let es := windowEdges c.graph c.win
        let p := if cur.pass = s.passes x then peelAll es cur.grow (windowEvents c.win) else ([], [])
        let cur := { cur with pass := cur.pass + 1, open_ := true, inbox := [], answered := [], peel := p.1, route := p.2 }
        let s := s.setCtx x { c with cur := some cur }
        forEach (s.decLinks x) s fun l s => boundarySend x l start cur s

/-- BOUNDARY_MSG_ARRIVAL: the message of a link waits for its release time, and one that comes later is discarded and counted (R40); or
its absence at that time (R371 to R373). -/
def boundaryArrival (x l : Nat) (m : Option BMsg) (s : State) : State :=
  match (s.ctx x).cur with
  | none => s
  | some cur =>
    let late : Bool := s.reached (s.passRel x cur + 1) || !cur.open_
    if ¬ (s.decLinks x).contains l then s
    else
      match m with
      | some q =>
        if late ∨ cur.answered.contains l then s.when late fun s => s.inc GLB_LATE_CNT
        else
          passAnswers x (s.modCtx x fun c => { c with cur := some { cur with inbox := cur.inbox.filter (·.1 != l) ++ [(l, q)] } })
      | none => passAnswers x s

/-! ### Frame items (R365 to R367) -/

/-- A frame item of a context for a target sets out, released at `rel`, and its mirror follows. -/
def sendItem (x rel : Nat) (q p : Nat) (s : State) : State :=
  let c := s.ctx x
  match c.graph.targets[q]? with
  | some (y, t) =>
    let s := s.setCtx x { c with mirror := (addPauli q p c.mirror).filter fun m => m.2 % 4 != 0 }
    s.send ⟨rel, islHub, y, .fb, .corr y t (bit p 1) (bit p 0) x⟩
  | none => s

/-- An item equal to the mirror for each target whose mirror is not (0, 0), released at `rel` (R366). -/
def clearMirror (x rel : Nat) (s : State) : State := forEach (s.ctx x).mirror s fun m s => sendItem x rel m.1 m.2 s

/-- FRAME_ITEM_SEND: 10 ft before their release (R365, R366). -/
def frameItemSend (x : Nat) (s : State) : State :=
  match (s.ctx x).items with
  | b :: t =>
    if s.reached (b.f - 10 * ft) then
      let s := s.modCtx x fun c => { c with items := t }
      let s := forEach b.items s fun i s => sendItem x b.f i.1 i.2 s
      if b.clear then clearMirror x b.f s else s
    else s
  | [] => s

/-! ### Attempts (R354, R362, R366) -/

/-- ceil(n × max(WIN, 16) / (3 N)) (R362); no value is stated for N = 0. -/
def decTime (n win lanes other : Nat) : Nat := if lanes = 0 then other else (n * max win 16 + 3 * lanes - 1) / (3 * lanes)

/-- An attempt of group `g` starts with shot origin `o` (R362): not called for a reset pass. -/
def decAttemptStart (g o : Nat) (s : State) : State :=
  forEach (s.decOf g) s fun x s =>
    let c := s.ctx x
    let first := s.fld (DEC_CTL x) DEC_CTL_LANE_FIRST
    let lanes := ((List.range (s.fld (DEC_CTL x) DEC_CTL_LANE_CNT)).filter fun i => decide (first + i < s.fld DEC_STS DEC_STS_LANES_EFF)).length
    let win := s.fld (DEC_CTL x) DEC_CTL_WIN
    let v := decTime c.graph.ndet win lanes s.freeN
    let vF := decTime (max c.graph.ndet c.graph.ndetF) win lanes s.freeN
    let s := s.when (lanes == 0) State.nextFree
    let xs := if c.graph.spans then s.passes x + 1 else 0
    let s := s.setF (DEC_LAT x) DEC_LAT_BOUND (v + xs * s.passFt x + 48)
    let c := { c with on := true, ovl := false, org := o, v := v, vF := vF, x := xs, idx := 0, opens := [], prev := [],
                      rounds := 0, miss := 0, forced := 0, items := [] }
    let s := if s.xst x = xFLUSH then s.setCtx x c
      else (s.setCtx x { c with wait := [], win := [], cur := none, tail := none, acc := 0, deg := false, xcut := false }).setXst x xRUN
    if lanes = 0 then decOverload x s else decBacklog x s

/-- Every open round closes at once. -/
def closeAll (x at_ : Nat) (s : State) : State :=
  let os := (s.ctx x).opens
  forEach os (s.modCtx x fun c => { c with opens := [] }) fun o s => closeRound x o at_ s

/-- The waiting rounds of an attempt that ends, marked; the last one's decode commits the whole window (R366). -/
def flushWait : List DRound → List DRound
  | [] => []
  | r :: t => { r with flush := if r.flush ≠ 0 then r.flush else if t.isEmpty then 2 else 1 } :: flushWait t

/-- What is left to decode of an attempt that ends: the waiting rounds, the decode in progress, or a last decode of the window as it
stands; and when all of it has committed (R366). -/
def State.flushCtx (s : State) (c : DCtx) (pt : Nat) : DCtx :=
  let new_ : Bool := c.win.getLast?.any fun r => r.flush == 0
  match c.wait.getLast? with
  | some r =>
    if r.flush = 0 then { c with wait := flushWait c.wait, flushAt := r.s + r.u * ft + 22 * ft } else c
  | none =>
    if ¬ new_ ∨ c.tail.isSome then { c with flushAt := max c.flushAt s.tb1 }
    else if c.cur.isSome then
      { c with win := flushNewest c.win, flushAt := (c.win.getLast?.elim 0 fun r => r.s + r.u * ft) + 22 * ft }
    else
      let at_ := max (ceilFt s.tb1 + 8 * ft) c.free
      let end_ := at_ + (c.v + c.x * pt) * ft
      { c with tail := some at_, free := end_, flushAt := end_ + 22 * ft }

/-- An attempt of group `g` ends (R366). -/
def decAttemptEnd (g : Nat) (s : State) : State :=
  forEach (s.decOf g) s fun x s =>
    if ¬ (s.ctx x).on then s
    else
      let s := closeAll x (ceilFt s.tb1) (s.modCtx x fun c => { c with items := [] })
      let s := clearMirror x (ceilFt (s.tb1 + 10 * ft)) s
      let s := s.modCtx x fun c => { c with on := false, items := [] }
      if (s.ctx x).ovl then decBacklog x (s.setXst x xREADY)
      else decBacklog x ((s.setCtx x (s.flushCtx (s.ctx x) (s.passFt x))).setXst x xFLUSH)

/-- DEC_FLUSH_COMPLETE: the final decode has committed and its records are written (Table 11-8). -/
def decFlushComplete (x : Nat) (s : State) : State :=
  let c := s.ctx x
  let owed : Bool := c.logs.any fun l => !c.on || l.1.pass != s.decPass x
  if s.xst x = xFLUSH ∧ s.reached c.flushAt ∧ ¬ owed then s.setXst x (if c.on then xRUN else xREADY) else s

/-- The release of an ABORT of group `g` (R366, Table 11-8). The aborted attempt delivers no record (R54); what is left to decode of one
that has ended stays. -/
def decAbort (g : Nat) (s : State) : State :=
  forEach (s.decOf g) s fun x s =>
    let on := (s.ctx x).on
    let s := s.modCtx x fun c => { c with items := [] }
    let s := clearMirror x (ceilFt (s.tb1 + 10 * ft)) s
    let s := s.modCtx x fun c =>
      let old := c.wait.filter fun r => r.flush != 0
      let keep : Bool := old != [] || c.tail.isSome || c.win.any fun r => r.flush != 0
      { c with on := false, opens := [], wait := old, win := if keep then c.win else [], cur := if keep then c.cur else none,
               logs := if on then c.logs.filter fun l => l.1.pass != s.decPass x else c.logs }
    decBacklog x (s.setXst x xREADY)

/-- Entry into SAFE: open rounds, backlog and items not sent are discarded; EN stands (R354). -/
def decSafe (s : State) : State :=
  forEach ((List.range 8).filter s.decEn) s fun x s =>
    let s := s.modCtx x fun c => { c with on := false, items := [], opens := [], wait := [], win := [], cur := none }
    let s := s.modCtx x fun c => { c with tail := none }
    decBacklog x (s.setXst x xREADY)

/-- ARM of group `g`: mirrors clear along with the frames (R365). -/
def decArm (g : Nat) (s : State) : State := forEach (s.decOf g) s fun x s => s.modCtx x fun c => { c with mirror := [] }

/-- After a commit or a reset has changed yards: a context one of whose targets is no enabled drive tone of its group any more
is switched off (R354). -/
def decRecheck (s : State) : State :=
  forEach ((List.range 8).filter s.decEn) s fun x s =>
    let mem := s.members (s.decGroup x)
    if (s.ctx x).graph.targets.all fun q => mem.contains q.1 && decide (q.2 < 8) && s.tgtEn q.1 q.2 then s
    else (((s.setF (DEC_EN x) DEC_EN_EN 0).setXst x xOFF).setCtx x default).status (DEC_CSTS x) E_DEC_TARGET

/-! ### The commands -/

/-- DEC_ENABLE. -/
def execDecEnable (x : Nat) (ecc : Bool) (s : State) : Host.Outcome State Fault Refusal :=
  .next (hostWr (DEC_EN x) (decEnWrite x 1 ecc) s)

/-- DEC_DISABLE. -/
def execDecDisable (x : Nat) (s : State) : Host.Outcome State Fault Refusal := .next (hostWr (DEC_EN x) (decEnWrite x 0 false) s)

/-- DETECTOR_ARRIVAL. -/
def execDetectorArrival (d : Nat) (s : State) : Host.Outcome State Fault Refusal := .next (detectorArrival d s)

/-- ROUND_CLOSE. -/
def execRoundClose (x : Nat) (s : State) : Host.Outcome State Fault Refusal := .next (roundClose x s)

/-- ROUND_DEADLINE. -/
def execRoundDeadline (x : Nat) (s : State) : Host.Outcome State Fault Refusal := .next (roundDeadline x s)

/-- ROUND_CLOCK_CLOSE. -/
def execRoundClockClose (x : Nat) (s : State) : Host.Outcome State Fault Refusal := .next (roundClockClose x s)

/-- DECODE_START. -/
def execDecodeStart (x : Nat) (ecc : Bool) (s : State) : Host.Outcome State Fault Refusal := .next (decodeStart x ecc s)

/-- BOUNDARY_PASS. -/
def execBoundaryPass (x : Nat) (s : State) : Host.Outcome State Fault Refusal := .next (boundaryPass x s)

/-- BOUNDARY_MSG_ARRIVAL. -/
def execBoundaryMsgArrival (x l : Nat) (m : Option BMsg) (s : State) : Host.Outcome State Fault Refusal :=
  .next (boundaryArrival x l m s)

/-- FRAME_ITEM_SEND. -/
def execFrameItemSend (x : Nat) (s : State) : Host.Outcome State Fault Refusal := .next (frameItemSend x s)

/-- LOGICAL_RECORD. -/
def execLogicalRecord (x : Nat) (s : State) : Host.Outcome State Fault Refusal := .next (logicalRecord x s)

/-- DEC_FLUSH_COMPLETE. -/
def execDecFlushComplete (x : Nat) (s : State) : Host.Outcome State Fault Refusal := .next (decFlushComplete x s)

end Sys2Proof.Machine
end

