-- ==== Sys2Proof/Machine/Queue.lean ====
section
/-! DEFINITION. The host interface, queues and DMA (chapter 16). -/

namespace Sys2Proof.Machine

/-! ### What goes to the host -/

/-- Something is sent to the host. -/
def State.toHost (s : State) (o : HostOut) : State := { s with hif := { s.hif with out := s.hif.out ++ [o] } }

/-- A word of the MSI-X table; Vector Control of an entry that was never written reads 1 (masked), as PCIe resets it. -/
def State.msix (s : State) (w : Nat) : Nat := sget (fun k => if k % 4 = 3 then 1 else 0) s.hif.msix w

/-- A vector fires: a masked one becomes pending (R512). -/
def fireVec (v : Nat) (s : State) : State :=
  if s.msix (4 * v + 3) % 2 = 1 then
    if s.hif.pba.contains v then s else { s with hif := { s.hif with pba := s.hif.pba ++ [v] } }
  else s.toHost (.irq v)

/-- A 32-bit write of the MSI-X table; an unmasked vector that is pending fires. -/
def msixWrite (w v : Nat) (s : State) : State :=
  let n := if w % 4 = 3 then v % 2 else v % 2 ^ 32
  let m := sput (fun k => if k % 4 = 3 then 1 else 0) s.hif.msix w n
  let s := { s with hif := { s.hif with msix := m } }
  if w % 4 = 3 ∧ v % 2 = 0 ∧ s.hif.pba.contains (w / 4) then
    ({ s with hif := { s.hif with pba := s.hif.pba.filter (· != w / 4) } }).toHost (.irq (w / 4))
  else s

/-! ### Queues (Tables 16-4, 16-5) -/

/-- A queue. -/
def State.que (s : State) (q : Nat) : Que := tget s.hif.ques q

/-- Changing it. -/
def State.setQue (s : State) (q : Nat) (x : Que) : State := { s with hif := { s.hif with ques := tput s.hif.ques q x } }

/-- Changing it by a function. -/
def State.modQue (s : State) (q : Nat) (f : Que → Que) : State := s.setQue q (f (s.que q))

/-- Queue states. -/
def qOFF : Nat := 0
def qACTIVE : Nat := 1
def qDRAINING : Nat := 2
def qHALTED : Nat := 3

/-- A 32-bit word of the descriptor, and its fields. -/
def Que.w (x : Que) (i : Nat) : Nat := x.desc.getD i 0
def Que.base (x : Que) : Nat := x.w 0 + x.w 1 * 2 ^ 32
def Que.wb (x : Que) : Nat := x.w 2 + x.w 3 * 2 ^ 32
def Que.entries (x : Que) : Nat := bits (x.w 4) 20 0
def Que.kind (x : Que) : Nat := bits (x.w 5) 3 0
def Que.loc (x : Que) : Bool := bit (x.w 5) 4
def Que.irqEn (x : Que) : Bool := bit (x.w 5) 6
def Que.vec (x : Que) : Nat := bits (x.w 5) 26 16
def Que.spillPage (x : Que) : Nat := bits (x.w 6) 12 0
def Que.spillPages (x : Que) : Nat := bits (x.w 6) 29 16
def Que.icoal (x : Que) : Nat := bits (x.w 7) 15 0
def Que.itime (x : Que) : Nat := bits (x.w 7) 31 16

/-- Queue kinds. -/
def kSUBMIT : Nat := 1
def kREQUEST : Nat := 2
def kRESULT : Nat := 3

/-- A bit of a reserved field of the descriptor is 1 (R11). -/
def Que.rsvd (x : Que) : Bool :=
  bits (x.w 4) 31 21 != 0 || bit (x.w 5) 7 || bits (x.w 5) 15 8 != 0 || bits (x.w 5) 31 27 != 0 || bits (x.w 6) 15 13 != 0
    || bits (x.w 6) 31 30 != 0

/-- The distance from one index to another (R499). -/
def Que.dist (x : Que) (a b : Nat) : Nat := (b + 2 * x.entries - a) % (2 * x.entries)

/-- The index after another. -/
def Que.next (x : Que) (i n : Nat) : Nat := (i + n) % (2 * x.entries)

/-- Does an instance belong to the owner of a queue itself? -/
def State.ownedBy (s : State) (o : OwnRange) (cls i : Nat) : Bool :=
  if o.okind = 3 then s.partHas o.owner cls i
  else match s.ownOf cls i with | some r => r.okind == o.okind && r.owner == o.owner | none => false

/-- The code of ENABLE (R497, Table 17-8): 0 when every check passes. -/
def State.enableCheck (s : State) (q : Nat) : Nat :=
  let x := s.que q
  let e := x.entries
  let ringPages := (List.range ((x.base % 4096 + 64 * e + 4095) / 4096)).map (x.base / 4096 + ·)
  let spill := (List.range x.spillPages).map (x.spillPage + ·)
  let top := if x.loc then 33554432 else 2 ^ 64
  if x.kind = 0 ∨ 3 < x.kind ∨ x.rsvd then E_HIF_RSVD_ENC
  else if e = 0 then E_HIF_ZERO_LEN
  else if e < 16 ∨ 1048576 < e ∨ e &&& (e - 1) ≠ 0 ∨ x.icoal = 0 then E_HIF_RANGE
  else if x.base % 64 ≠ 0 ∨ x.wb % 8 ≠ 0 then E_HIF_ALIGN
  else if top < x.base + 64 * e ∨ (x.spillPages ≠ 0 ∧ 8192 < x.spillPage + x.spillPages) then E_HIF_LEN_EXCEEDS
  else match s.ownOf 6 q with
    | none => E_IMG_RES_BUSY
    | some o =>
      if ((if x.loc then ringPages else []) ++ spill).any fun p => !s.ownedBy o 7 p then E_IMG_RES_BUSY
      else match s.partOfInst 6 q with
        | some p => if s.closed p ∧ ¬ x.loc then E_SHR_SEALED else 0
        | none => 0

/-- The resource that an ENABLE lacks (R69): a page that the queue's owner does not own, or the queue that has no owner. -/
def State.enableLacks (s : State) (q : Nat) : Nat × Nat :=
  let x := s.que q
  let ring := if x.loc then (List.range ((x.base % 4096 + 64 * x.entries + 4095) / 4096)).map (x.base / 4096 + ·) else []
  match s.ownOf 6 q with
  | some o =>
    match (ring ++ (List.range x.spillPages).map (x.spillPage + ·)).find? fun p => !s.ownedBy o 7 p with
    | some p => (7, p)
    | none => (6, q)
  | none => (6, q)

/-- The staging registers show a queue (R497). -/
def showQue (q : Nat) (s : State) : State :=
  let x := s.que q
  let s := forEach (List.range 8) s fun i s => s.wrN (QM_QD i) (x.w i)
  ((s.wrN QM_QSTS (x.status % 2 ^ 16 * 2 ^ 16 + x.st)).wrN QM_QPROD x.prod).wrN QM_QCONS x.cons

/-- The status of a queue command goes to QM_QSTS, which shows the queue's state. -/
def qStatus (q code : Nat) (s : State) : State :=
  let s := s.modQue q fun x => { x with status := code }
  (s.wrN QM_QSTS (code % 2 ^ 16 * 2 ^ 16 + (s.que q).st)).denyIf code (s.enableLacks q).1 (s.enableLacks q).2 4 0

/-- QM_QIDX. -/
def qidxWrite (v : Nat) (s : State) : State := showQue (v % 2 ^ 18) (s.wrN QM_QIDX (v % 2 ^ 18))

/-- The queue that QM_QIDX names. -/
def State.qidx (s : State) : Nat := s.rdN QM_QIDX

/-- QM_QCMD WRITE. -/
def qWrite (s : State) : State :=
  let q := s.qidx
  if (s.que q).st ≠ qOFF then qStatus q E_QM_STATE s
  else qStatus q 0 (s.modQue q fun x => { x with desc := (List.range 8).map fun i => s.rdN (QM_QD i) })

/-- QM_QCMD ENABLE. -/
def qEnable (s : State) : State :=
  let q := s.qidx
  if (s.que q).st ≠ qOFF then qStatus q E_QM_STATE s
  else
    let code := s.enableCheck q
    if code ≠ 0 then qStatus q code s
    else
      let s := s.modQue q fun x => { (default : Que) with desc := x.desc, lost := x.lost, st := qACTIVE }
      ((qStatus q 0 s).wrN QM_QPROD 0).wrN QM_QCONS 0

/-- QM_QCMD DISABLE. -/
def qDisable (s : State) : State :=
  let q := s.qidx
  let st := (s.que q).st
  let st' := if st = qACTIVE then qDRAINING else if st = qHALTED then qOFF else st
  qStatus q 0 (s.modQue q fun x => { x with st := st' })

/-- QM_QCMD RESUME: a halted queue runs on at the entry after the failed one. -/
def qResume (s : State) : State :=
  let q := s.qidx
  if (s.que q).st ≠ qHALTED then qStatus q E_QM_STATE s
  else qStatus q 0 (s.modQue q fun x => { x with st := qACTIVE })

/-- A write of QM_QCMD. -/
def qcmdWrite (v : Nat) (s : State) : State :=
  match v % 4 with
  | 0 => qWrite s
  | 1 => qEnable s
  | 2 => qDisable s
  | _ => qResume s

/-! ### Rings (R499, R507 to R509, R512) -/

/-- Little-endian bytes of 64-bit words. -/
def wordBytes (ws : List Nat) : List (BitVec 8) := (ws.map (le 8)).flatten

/-- Bytes written at an offset of a queue's ring: to the host, or to the result and capture store. -/
def ringWrite (q off : Nat) (bs : List (BitVec 8)) (s : State) : State :=
  let x := s.que q
  if x.loc then { s with cnv := { s.cnv with res := stList s.cnv.res (x.base + off) bs } }
  else s.toHost (.mem (x.base + off) bs)

/-- The index write-back (R507). -/
def writeBack (q i : Nat) (s : State) : State :=
  let x := s.que q
  if x.wb = 0 then s else s.toHost (.mem x.wb (le 8 i))

/-- Entries have become visible: the vector fires after ICOAL of them (R512). -/
def qVisible (q n : Nat) (s : State) : State :=
  let x := s.que q
  let k := x.irqN + n
  if x.irqEn ∧ x.icoal ≤ k then fireVec x.vec (s.setQue q { x with irqN := 0, irqAt := none })
  else s.setQue q { x with irqN := k, irqAt := if x.irqAt.isNone then some s.clock.now else x.irqAt }

/-- IRQ_TIMER (R512). -/
def irqTimer (q : Nat) (s : State) : State :=
  let x := s.que q
  match x.irqAt with
  | some t =>
    if x.irqEn ∧ x.itime ≠ 0 ∧ t + x.itime * 1250 * ft ≤ s.clock.now then
      fireVec x.vec (s.setQue q { x with irqN := 0, irqAt := none })
    else s
  | none => s

/-- An entry takes the next slot of the ring. -/
def takeSlot (q : Nat) (ws : List Nat) (s : State) : State :=
  let x := s.que q
  let s := ringWrite q (64 * (x.prod % x.entries)) (wordBytes ws) s
  let p := x.next x.prod 1
  qVisible q 1 (writeBack q p (s.modQue q fun x => { x with prod := p }))

/-- The first word of a record with LOST or FENCE_LATE set in its MARKS. -/
def markEntry (b : Nat) : List Nat → List Nat
  | [] => []
  | w :: t => (w ||| 2 ^ (16 + b)) :: t

/-- An entry for a RESULT queue (R509); `mk`: it is a record, whose MARKS can carry LOST. -/
def placeEntry (q : Nat) (mk : Bool) (ws : List Nat) (s : State) : State :=
  let x := s.que q
  if x.st ≠ qACTIVE ∨ x.kind ≠ kRESULT then (s.modQue q fun x => { x with lost := true }).inc QM_DROP_CNT
  else
    let ws := if x.lost ∧ mk then markEntry 9 ws else ws
    if x.dist x.cons x.prod < x.entries ∧ x.spill = [] ∧ ¬ (s.hif.down ∧ ¬ x.loc) then
      takeSlot q ws (s.modQue q fun x => { x with lost := false })
    else if x.spill.length < 64 * x.spillPages then
      (s.modQue q fun x => { x with lost := false, spill := x.spill ++ [ws] }).inc QM_SPILL_CNT
    else (s.modQue q fun x => { x with lost := true }).inc QM_DROP_CNT

/-- Spilled entries enter the ring in order while it has room (R509). -/
def unspill (q : Nat) : Nat → State → State
  | 0, s => s
  | n + 1, s =>
    let x := s.que q
    match x.spill with
    | ws :: t =>
      if x.dist x.cons x.prod < x.entries ∧ ¬ (s.hif.down ∧ ¬ x.loc) then unspill q n (takeSlot q ws (s.modQue q fun x => { x with spill := t })) else s
    | [] => s

/-- The partition's service that takes the records of a yard's group away from its queue (R398). -/
def State.serviceTakes (s : State) (prod : Nat) : Bool :=
  decide (prod < 64) && (s.grp (s.groupOf prod)).byService.isSome

/-- RESULT_ENTRY: the oldest record of a producer reaches the queue manager (R508, R509). One stamped after a waiting QM_FENCE
waits for its FENCE record, one stamped before a placed one is late (R510). -/
def resultEntry (prod : Nat) (s : State) : State :=
  match s.bus.recs.find? fun r => r.prod == prod with
  | none => s
  | some r =>
    let x := s.que r.qid
    if x.fences.any fun f => decide (f < r.time) then s
    else
      let s := { s with bus := { s.bus with recs := s.bus.recs.erase r } }
      let s := s.when (decide (prod < 64)) fun s => s.modMast prod fun m => { m with outRes := m.outRes - 1 }
      if s.serviceTakes prod then s
      else
        let rec_ : Bool := decide (prod < 0x50)
        let late : Bool := rec_ && decide (r.time ≤ x.fenced - 1) && x.fenced != 0
        let s := s.when late fun s => s.inc QM_FENCE_LATE_CNT
        let s := placeEntry r.qid rec_ (if late then markEntry 8 r.words else r.words) s
        let head := r.words.headD 0
        forEach r.conts.zipIdx s fun (c, i) s =>
          placeEntry r.qid rec_ ((6 + (i + 1) % 256 * 2 ^ 8 + head / 2 ^ 16 * 2 ^ 16) :: r.words.getD 1 0 :: c) s

/-! ### Doorbells (R494, R499, R510) -/

/-- A doorbell is discarded (R494). -/
def dbDrop (q cause : Nat) (s : State) : State :=
  (s.inc HIF_DB_DROP_CNT).wrN HIF_DB_ERR (cause % 256 * 2 ^ 18 + q)

/-- Does a queue belong to a partition that is closed? -/
def State.qClosed (s : State) (q : Nat) : Bool :=
  match s.partOfInst 6 q with | some p => s.closed p | none => false

/-- QUEUE_DOORBELL: `n` bytes of value `v` (R494, R499). -/
def queueDoorbell (q n v : Nat) (s : State) : State :=
  let x := s.que q
  let d0 := x.dist x.cons x.prod
  if n < 8 then dbDrop q 0x04 s
  else if 2 ^ 21 ≤ v then dbDrop q 0x05 s
  else if s.qClosed q then dbDrop q 0x10 s
  else if x.st ≠ qACTIVE ∧ ¬ (x.st = qDRAINING ∧ x.kind = kRESULT) then dbDrop q 0x10 s
  else if x.kind = kRESULT then
    if 2 * x.entries ≤ v ∨ d0 < x.dist x.cons v then dbDrop q 0x11 s
    else unspill q (64 * x.spillPages) (s.modQue q fun x => { x with cons := v })
  else
    let d1 := x.dist x.cons v
    if 2 * x.entries ≤ v ∨ x.entries < d1 ∨ d1 < d0 then dbDrop q 0x11 s
    else s.modQue q fun x => { x with prod := v }

/-- QM_FENCE_DOORBELL (R510): F is the TB1 value at which it reaches the hub. The exception of R494 for a queue in DRAINING is one for
consumer doorbells only. -/
def fenceDoorbell (q n v : Nat) (s : State) : State :=
  let x := s.que q
  if n < 8 then dbDrop q 0x04 s
  else if v ≠ 0 then dbDrop q 0x05 s
  else if x.st ≠ qACTIVE then dbDrop q 0x10 s
  else if x.kind ≠ kRESULT then dbDrop q 0x10 s
  else s.modQue q fun x => { x with fences := x.fences ++ [s.tb1] }

/-- FENCE_RECORD_PLACE: every item stamped at or before F has its slot, or 2.0 µs have passed (R510). -/
def fencePlace (q : Nat) (s : State) : State :=
  let x := s.que q
  match x.fences with
  | f :: t =>
    if (s.bus.recs.any fun r => r.qid == q && decide (r.time ≤ f)) ∧ ¬ s.reached (f + 2500 * ft) then s
    else
      let s := s.modQue q fun x => { x with fences := t, fenced := f + 1 }
      placeEntry q true [recHead 7 0x48 0 0, f % 2 ^ 64, 0, 0, 0, 0, 0, 0] s
  | [] => s

/-- Does a Winch core work on a request of a queue? -/
def State.svcFrom (s : State) (q : Nat) : Bool := s.wch.cores.any fun c => c.2.svc.isSome && s.rdN (WCH_RQID c.1) == q

/-- QUEUE_DRAINED (R497). -/
def queueDrained (q : Nat) (s : State) : State :=
  let x := s.que q
  if x.st = qDRAINING ∧ x.descs.all (fun d => d.done) ∧ x.spill = [] ∧ ¬ s.svcFrom q then s.modQue q fun x => { x with st := qOFF } else s

/-- QM_YQID of a yard (R511): the second component is the status of a refusal. -/
def yqidWrite (y v : Nat) (s : State) : State × Nat :=
  if ¬ s.yardMay y 6 (v % 2 ^ 18) then (s.deny 6 (v % 2 ^ 18) 1 y, E_IMG_RES_BUSY)
  else if ¬ s.yIdle y then (s, E_QM_STATE)
  else (s.wrN (QM_YQID y) (v % 2 ^ 18), 0)

/-! ### DMA descriptors (Tables 16-6 to 16-8, R500 to R506) -/

/-- Fields of a descriptor. -/
def Desc.w (d : Desc) (i : Nat) : Nat := d.words.getD i 0
def Desc.op (d : Desc) : Nat := bits (d.w 0) 7 0
def Desc.irq (d : Desc) : Bool := bit (d.w 0) 10
def Desc.skind (d : Desc) : Nat := bits (d.w 0) 23 16
def Desc.dkind (d : Desc) : Nat := bits (d.w 0) 31 24
def Desc.len (d : Desc) : Nat := bits (d.w 0) 55 32
def Desc.saddr (d : Desc) : Nat := d.w 1
def Desc.daddr (d : Desc) : Nat := d.w 2
def Desc.sunit (d : Desc) : Nat := bits (d.w 3) 15 0
def Desc.dunit (d : Desc) : Nat := bits (d.w 3) 31 16
def Desc.burst (d : Desc) : Nat := bits (d.w 3) 47 32

/-- Is a unit legal for an endpoint kind (Table 16-7)? -/
def unitOk (k u : Nat) : Bool :=
  match k with
  | 0 | 1 | 4 => u == 0
  | 2 => decide (u < 2 ^ 14)
  | 3 => decide (u < 64)
  | 5 => decide (u < 8)
  | 6 | 7 => decide (u < 128)
  | 8 => decide (u / 2 ^ 12 < 6) && decide (1 ≤ bits u 11 8) && decide (bits u 11 8 ≤ 5)
  | _ => false

/-- Step 1 of R500. -/
def Desc.rsvd (d : Desc) : Bool :=
  let f := bits (d.w 0) 15 8
  decide (d.op = 0 ∨ 3 < d.op) || decide (7 < f) || bits (d.w 0) 63 56 != 0 || bits (d.w 3) 63 48 != 0 || d.w 5 != 0 || d.w 6 != 0
    || (if d.op = 2 then f % 4 != 0 || d.w 0 / 2 ^ 16 != 0 || d.w 1 != 0 || d.w 2 != 0 || d.w 3 != 0
        else !unitOk d.skind d.sunit || !unitOk d.dkind d.dunit || d.dkind == 7 || d.skind == 6 || d.skind == 8
          || (d.op == 3) != (d.skind == 7) || (d.op != 3 && d.burst != 0) || (d.skind == 7 && d.saddr != 0)
          || (d.dkind == 6 && d.daddr != 0))

/-- Bytes of one block of a streaming channel (unit 2 y + c). -/
def State.blkBytes (s : State) (u : Nat) : Nat := 48 * s.fld (HAL_STR_CTL (u / 2) (u % 2)) HAL_STR_CTL_BLK

/-- The alignment of an endpoint (step 3). -/
def endAlign (k a : Nat) : Bool := match k with | 2 => a % 6 == 0 | 3 | 5 => a % 8 == 0 | _ => true

/-- The segment of a unit. -/
def State.segOf (s : State) (u : Nat) : Seg := s.seg (u / 4096 % 4) (u % 4096)

/-- The bytes of an endpoint's region (step 4); none for a region without a bound of its own. -/
def State.endSize (s : State) (k u : Nat) : Option Nat :=
  match k with
  | 0 => some (2 ^ 64)
  | 1 => some 33554432
  | 2 => some (48 * (s.segOf u).len)
  | 3 => some 262144
  | 4 => some 8388608
  | 5 => some 524288
  | _ => none

/-- Does a region lie within its endpoint? -/
def State.endFits (s : State) (k u a n : Nat) : Bool :=
  match s.endSize k u with | some m => decide (a + n ≤ m) | none => true

/-- The pages from `a` over `n` bytes. -/
def pagesOf (a n : Nat) : List Nat := (List.range ((a % 4096 + n + 4095) / 4096)).map (a / 4096 + ·)

/-- The owned elements that an endpoint names: class (or block) and instances. -/
def State.endInsts (s : State) (k u a n : Nat) : Nat × List Nat :=
  match k with
  | 1 => (7, pagesOf a n)
  | 2 => (0x0A, segPages (u / 4096 % 4) (s.segOf u).start (s.segOf u).len)
  | 3 => (0x03, [u])
  | 4 => (9, pagesOf a n)
  | 5 => (0x0C, [u])
  | 6 => (0x03, [u / 2])
  | 7 => (5, [u])
  | _ => (0, [])

/-- May the owner of a queue name an endpoint (step 5)? -/
def State.endMay (s : State) (o : OwnRange) (k u a n : Nat) : Bool :=
  let (cls, is) := s.endInsts k u a n
  is.all fun i =>
    match k with
    | 3 | 6 =>
      if (s.comp i).present then (o.okind == 3 && o.owner == s.partOf i) || (o.okind == 1 && o.owner == i) else o.okind != 3
    | 5 => match s.allotOf 0x0C i with | some p => o.okind == 3 && o.owner == p | none => o.okind != 3
    | _ => match s.ownOf cls i with | some _ => s.ownedBy o cls i | none => o.okind != 3

/-- The partition in which an endpoint lies. -/
def State.endPart (s : State) (k u a n : Nat) : Option Nat :=
  let (cls, is) := s.endInsts k u a n
  match is with
  | [] => none
  | i :: _ =>
    if k = 3 ∨ k = 6 then (if (s.comp i).present then some (s.partOf i) else none)
    else if k = 5 then s.allotOf 0x0C i
    else s.partOfInst cls i

/-- Is exactly one endpoint of a descriptor in a closed partition (Table 17-8)? -/
def State.sealSplit (s : State) (d : Desc) : Option Nat :=
  let a := s.endPart d.skind d.sunit d.saddr d.len
  let b := s.endPart d.dkind d.dunit d.daddr d.len
  if a = b then none
  else match a, b with
    | some p, _ => if s.closed p then some p else match b with | some q => if s.closed q then some q else none | none => none
    | none, some q => if s.closed q then some q else none
    | none, none => none

/-- Core states (Table 12-4). -/
def wOFF : Nat := 0
def wIDLE : Nat := 1
def wRUN : Nat := 2
def wWAIT : Nat := 3
def wHALTED : Nat := 4
def wFAULTED : Nat := 5

/-- CSTATE of a core. -/
def State.wst (s : State) (x : Nat) : Nat := s.fld (WCH_CSTS x) WCH_CSTS_CSTATE

/-- May host software reach a core's local memory (R377)? -/
def State.wchOpen (s : State) (x : Nat) : Bool :=
  s.flag (WCH_CTL x) WCH_CTL_MODE && (s.wst x == wIDLE || s.wst x == wHALTED || s.wst x == wFAULTED)

/-- The running ring that uses a request line. -/
def State.lineRing (s : State) (l : Nat) : Option Nat :=
  (List.range 48).find? fun r => s.ringOn r && s.fld (ringCTL r) CNV_RING_CTL_RQ == l

/-- Is a page of the graph store in use by an enabled context? -/
def State.graphUsed (s : State) (a n : Nat) : Bool :=
  (List.range 8).any fun x => s.decEn x && (pagesOf a n).any fun p =>
    decide (s.fld (DEC_GRAPH x) DEC_GRAPH_PAGE ≤ p)
      && decide (p < s.fld (DEC_GRAPH x) DEC_GRAPH_PAGE + s.fld (DEC_GRAPH x) DEC_GRAPH_PAGES)

/-- Does another descriptor serve a request line? One that waits for its turn does not serve it yet. -/
def State.lineServed (s : State) (l : Nat) : Bool :=
  s.hif.ques.any fun q => q.2.descs.any fun d => d.op == 3 && d.run && !d.done && d.sunit == l

/-- The state checks of Table 16-8 and of R501 (step 6). -/
def State.endState (s : State) (q : Nat) (d : Desc) : Nat :=
  let e := s.segOf d.dunit
  if d.dkind = 3 ∧ ¬ s.yIdle d.dunit then E_DMA_DST_BUSY
  else if d.dkind = 4 ∧ s.graphUsed d.daddr d.len then E_DMA_DST_BUSY
  else if (d.dkind = 5 ∧ ¬ s.wchOpen d.dunit) ∨ (d.skind = 5 ∧ ¬ s.wchOpen d.sunit) then E_DMA_DST_BUSY
  else if d.dkind = 6 ∧ s.fld (HAL_STR_QID (d.dunit / 2) (d.dunit % 2)) HAL_STR_QID_QID ≠ q then E_DMA_DST_BUSY
  else if d.dkind = 6 ∧ ¬ s.flag (HAL_STR_STS (d.dunit / 2) (d.dunit % 2)) HAL_STR_STS_RUNNING then E_HAL_STR_STATE
  else if d.skind = 7 ∧ ((s.lineRing d.sunit).isNone ∨ s.lineServed d.sunit) then E_DMA_RQ_STATE
  else if d.dkind = 8 ∧ ¬ (s.linkUp (d.dunit / 2 ^ 12) ∨ s.fld (OZL_STS (d.dunit / 2 ^ 12)) OZL_STS_LSTATE = 5) then E_DMA_LINK_DOWN
  else if d.dkind = 2 ∧ e.state ≠ .free ∧ e.state ≠ .ready then E_HAL_SEG_BUSY
  else if d.dkind = 2 ∧ e.start % 8 ≠ 0 then E_HAL_ALIGN
  else if d.dkind = 2 ∧ (e.len = 0 ∨ e.count = 0) then E_HAL_ZERO_LEN
  else if d.dkind = 2 ∧ 2097152 < e.start + 8 * e.len then E_HAL_SEG_LEN
  else 0

/-- The code of the arm of a descriptor (R500, Table 17-8): 0 when it is armed. -/
def State.descCheck (s : State) (q : Nat) (d : Desc) : Nat :=
  if d.rsvd then E_HIF_RSVD_ENC
  else if d.op = 2 then 0
  else if d.len = 0 ∨ (d.op = 3 ∧ d.burst = 0) then E_HIF_ZERO_LEN
  else if ¬ endAlign d.skind d.saddr ∨ ¬ endAlign d.dkind d.daddr then E_HIF_ALIGN
  else if d.dkind = 6 ∧ d.len % s.blkBytes d.dunit ≠ 0 then E_HAL_ALIGN
  else if ¬ s.endFits d.skind d.sunit d.saddr d.len ∨ ¬ s.endFits d.dkind d.dunit d.daddr d.len then E_HIF_LEN_EXCEEDS
  else match s.ownOf 6 q with
    | none => E_IMG_RES_BUSY
    | some o =>
      if ¬ s.endMay o d.skind d.sunit d.saddr d.len ∨ ¬ s.endMay o d.dkind d.dunit d.daddr d.len then E_IMG_RES_BUSY
      else if (s.sealSplit d).isSome then E_SHR_SEALED
      else s.endState q d

/-- A change of one descriptor of a queue. -/
def modDesc (q i : Nat) (f : Desc → Desc) (s : State) : State :=
  s.modQue q fun x => { x with descs := x.descs.map fun d => if d.idx == i then f d else d }

/-- The consumer index advances over the slots that are done, in order (R502). -/
def advanceCons (q : Nat) : Nat → State → State
  | 0, s => s
  | n + 1, s =>
    let x := s.que q
    match x.descs with
    | d :: t =>
      if d.done then
        let c := x.next d.idx 1
        advanceCons q n (writeBack q c (s.setQue q { x with descs := t, cons := c }))
      else s
    | [] => s

/-- The bytes of a descriptor sent to a peer for which no credit has returned (R513). -/
def State.owedBytes (s : State) (q i : Nat) : Nat :=
  let of_ (l : Nat) : List (Nat × Nat × Nat × Nat) := (tget s.ozl.links l).debts.filter fun d => d.2.1 == q && d.2.2.1 == i
  ((List.range 6).map of_).flatten.foldl (fun n d => n + d.2.2.2) 0

/-- Has every flit of a descriptor's transfer been credited? -/
def State.allCredited (s : State) (q i : Nat) : Bool :=
  (List.range 6).all fun l => !((tget s.ozl.links l).debts.any fun d => d.2.1 == q && d.2.2.1 == i)

/-- The end of a descriptor (R505): CODE and MOVED, then DONE, then the index and the interrupt; a segment destination
becomes READY or FREE (R501). A descriptor with IRQ fires the vector of a queue with IRQ_EN whatever the count (R512). -/
def descDone (q i code : Nat) (s : State) : State :=
  match (s.que q).descs.find? fun d => d.idx == i && !d.done with
  | none => s
  | some d =>
    let off := 64 * (i % (s.que q).entries)
    let s := ringWrite q (off + 0x38) (le 7 (code % 2 ^ 16 + (d.moved - s.owedBytes q i) % 2 ^ 24 * 2 ^ 16)) s
    let s := ringWrite q (off + 0x3F) [0x80] s
    let s := if d.dkind = 2 ∧ d.arm then
        s.changeSeg 64 (d.dunit / 4096 % 4) (d.dunit % 4096)
          { s.segOf d.dunit with state := if code = 0 then .ready else .free }
      else s
    let s := modDesc q i (fun d => { d with done := true, code := code }) s
    let s := advanceCons q ((s.que q).descs.length) s
    if d.irq ∧ (s.que q).irqEn then fireVec (s.que q).vec (s.modQue q fun x => { x with irqN := 0, irqAt := none }) else qVisible q 1 s

/-- DESC_FETCH: the next entry of a SUBMIT ring has been read: `ws` its words from host memory; a ring in the result store
is read there. `ecc`: an uncorrectable error in the descriptor store halts the queue (Table 16-15). It is armed and checked, and a check that fails ends it at once with MOVED 0 (R500 to R503). -/
def descFetch (q : Nat) (ws : List Nat) (ecc : Bool) (s : State) : State :=
  let x := s.que q
  if ecc ∧ x.st = qACTIVE then s.setQue q { x with st := qHALTED, status := E_HIF_ECC_UNCORR } else
  let open_ := x.descs.filter fun d => !d.done
  if x.st ≠ qACTIVE ∨ x.kind ≠ kSUBMIT ∨ x.fetch = x.prod ∨ 4 ≤ open_.length ∨ open_.any (fun d => d.op == 2) then s
  else
    let off := x.base + 64 * (x.fetch % x.entries)
    let ws := if x.loc then (List.range 8).map fun i => ldBytes s.cnv.res (off + 8 * i) 8
      else (List.range 8).map fun i => ws.getD i 0 % 2 ^ 64
    let d : Desc := ⟨x.fetch, ws, 0, 0, false, false, false, 0, false⟩
    let code := s.descCheck q d
    let s := s.setQue q { x with fetch := x.next x.fetch 1, descs := x.descs ++ [d] }
    if code = 0 then
      let s := modDesc q d.idx (fun d => { d with arm := true }) s
      if d.dkind = 2 then
          (s.changeSeg 64 (d.dunit / 4096 % 4) (d.dunit % 4096) { s.segOf d.dunit with state := .loading })
      else s
    else
      let o := (s.ownOf 6 q).getD ⟨0, 4, 0, 0, 0⟩
      let bad := if s.endMay o d.skind d.sunit d.saddr d.len then s.endInsts d.dkind d.dunit d.daddr d.len
        else s.endInsts d.skind d.sunit d.saddr d.len
      let s := s.denyIf code bad.1 (bad.2.headD 0) o.okind o.owner
      let s := match s.sealSplit d with
        | some p => s.when (code == E_SHR_SEALED) fun s => s.shrDeny q 8 p E_SHR_SEALED
        | none => s
      descDone q d.idx code s

/-- The bytes of a source on the chip. -/
def State.srcBytes (s : State) (k u a n : Nat) : List (BitVec 8) :=
  match k with
  | 1 => ldList s.cnv.res a n
  | 2 => ldList s.hal.wave (sampleAddr (u / 4096 % 4) (s.segOf u).start + a) n
  | 3 => ldList s.seq.store (262144 * u + a) n
  | 4 => ldList s.dec.store a n
  | 5 => ldList s.wch.mem (524288 * u + a) n
  | _ => []

/-- Bytes of the ring of a request line from its RP on. -/
def State.lineBytes (s : State) (r n : Nat) : List (BitVec 8) :=
  let base := 4096 * s.fld (ringBASE r) CNV_RING_BASE_PAGE
  (List.range n).map fun i => ldByte s.cnv.res (base + (s.rdN (ringRP r) + i) % s.ringSize r)

/-- The payloads of a run of bytes: DATA of up to 24 bytes each (Table 16-12). -/
def dataPayloads (bs : List (BitVec 8)) : List Nat :=
  (chunks 24 bs.length bs).map fun c => 2 ^ 204 + c.length * 2 ^ 198 + packLE 8 (c.map (·.toNat))

/-- An item of one or more payloads of a descriptor joins the transmit queues of a link (R472); the bytes of each DATA payload are owed until
its credit returns. -/
def ozlQueueBy (q i l cls : Nat) (ps : List Nat) (s : State) : State :=
  let x := tget s.ozl.links l
  let n := x.items + 1
  let owed (p : Nat) : Nat × Nat × Nat × Nat := (cls, q, i, if bits p 207 204 = 1 then bits p 203 198 else 0)
  let x := { x with items := n, txq := x.txq ++ ps.map (fun p => ⟨cls, p, s.clock.now, n⟩), debts := x.debts ++ ps.map owed }
  { s with ozl := { s.ozl with links := tput s.ozl.links l x } }

/-- An item of no descriptor. -/
def ozlQueue (l cls : Nat) (ps : List Nat) (s : State) : State := ozlQueueBy (2 ^ 18) 0 l cls ps s

/-- The header payload of a transfer to a peer (Table 16-12). -/
def hdrPayload (q : Nat) (d : Desc) (entries : Nat) : Nat :=
  bits d.dunit 11 8 * 2 ^ 196 + bits d.dunit 7 0 * 2 ^ 180 + d.daddr % 2 ^ 64 * 2 ^ 116 + d.len * 2 ^ 92 + q * 2 ^ 74
    + d.idx % entries * 2 ^ 54

/-- The blocks that a streaming ring can take: those from the mark on, or from the read pointer once the shot is no longer
protected, are kept (R172, R175). -/
def State.strmRoom (s : State) (u : Nat) : Nat :=
  let x := s.strm (u / 2) (u % 2)
  let low := if s.flag (HAL_STR_STS (u / 2) (u % 2)) HAL_STR_STS_NOREPLAY then x.rp else x.m
  x.ringBlocks - (x.wp + x.coming - low)

/-- The bytes that a streaming ring can take after `moved` bytes of a descriptor. -/
def State.strmSpace (s : State) (u moved : Nat) : Nat := s.strmRoom u * s.blkBytes u - moved % s.blkBytes u

/-- Blocks of a channel set out as a batch with release 1.0 µs on (R173); while TB1 does not run that lead is counted on the island's own
clock (R665). -/
def batchSend (y c n : Nat) (s : State) : State :=
  if s.tb1Run then s.send ⟨s.tb1 + 1250 * ft, islHost, y, .ctrl, .batch y c n⟩
  else { s with hal := { s.hal with batches := s.hal.batches ++ [(s.clock.now + 1250 * ft, y, c, n)] } }

/-- Bytes appended to a streaming ring; the blocks completed set out. -/
def strmAppend (u moved : Nat) (bs : List (BitVec 8)) (s : State) : State :=
  let y := u / 2
  let c := u % 2
  let x := s.strm y c
  let bb := s.blkBytes u
  let e := s.seg (quad y) x.ringSeg
  let size := bb * x.ringBlocks
  let first := ((x.wp + x.coming) * bb + moved % bb) % size
  let wave := ringStore (sampleAddr (quad y) e.start) size first bs s.hal.wave
  let n := (moved % bb + bs.length) / bb
  let s := { s with hal := { s.hal with wave := wave } }
  let s := s.setStrm y c { x with coming := x.coming + n }
  if n = 0 then s else batchSend y c n s

/-- Bytes of the sequence store, which takes them only while the yard's group is IDLE (R97). -/
def seqPut (y off : Nat) (bs : List (BitVec 8)) (s : State) : State :=
  if s.yIdle y then { s with seq := { s.seq with store := stList s.seq.store (262144 * y + off) bs } } else s.inc (SEQ_WDROP_CNT y)

/-- Bytes written at a destination. -/
def dstWrite (q : Nat) (d : Desc) (bs : List (BitVec 8)) (s : State) : State :=
  let a := d.daddr + d.moved
  match d.dkind with
  | 0 => s.toHost (.mem a bs)
  | 1 => { s with cnv := { s.cnv with res := stList s.cnv.res a bs } }
  | 2 => { s with hal := { s.hal with wave := stList s.hal.wave (sampleAddr (d.dunit / 4096 % 4) (s.segOf d.dunit).start + a) bs } }
  | 3 => seqPut d.dunit a bs s
  | 4 => { s with dec := { s.dec with store := stList s.dec.store a bs } }
  | 5 => { s with wch := { s.wch with mem := stList s.wch.mem (524288 * d.dunit + a) bs } }
  | 6 => strmAppend d.dunit d.moved bs s
  | _ =>
    let l := d.dunit / 2 ^ 12
    let cls := if d.op = 3 then 4 else 2
    let s := if d.moved = 0 then ozlQueueBy q d.idx l cls [hdrPayload q d (s.que q).entries] s else s
    ozlQueueBy q d.idx l cls (dataPayloads bs) s

/-- The descriptor of an index that is armed and has not ended. -/
def State.openDesc (s : State) (q i : Nat) : Option Desc := (s.que q).descs.find? fun d => d.idx == i && !d.done && !d.fin

/-- Descriptors that name a streaming channel, and RQCOPY descriptors, each run one at a time, in slot order (R502). -/
def State.inTurn (s : State) (q : Nat) (d : Desc) : Bool :=
  let first (p : Desc → Bool) : Bool := !p d || ((s.que q).descs.find? fun e => p e && !e.done).any fun e => e.idx == d.idx
  first (fun e => e.op == 3) && first fun e => e.op != 2 && e.dkind == 6

/-- `n` bytes have moved. -/
def descMoved (q i n : Nat) (s : State) : State :=
  modDesc q i (fun d => { d with moved := d.moved + n, part := 0, run := true, fin := decide (d.len ≤ d.moved + n) }) s

/-- DMA_COPY: the data of a COPY moves: what has been read of a source in host memory (`bs`), or a source on the chip. A streaming ring takes
what it has room for, and the queue waits with the rest (R172). -/
def dmaCopy (q i : Nat) (bs : List (BitVec 8)) (s : State) : State :=
  match s.openDesc q i with
  | none => s
  | some d =>
    let left := d.len - d.moved
    let n := if d.dkind = 6 then min left (s.strmSpace d.dunit d.moved) else left
    let bs := if d.skind = 0 then bs.take n else s.srcBytes d.skind d.sunit (d.saddr + d.moved) n
    if d.op ≠ 1 ∨ ¬ d.arm ∨ ¬ s.inTurn q d ∨ bs = [] then s else descMoved q i bs.length (dstWrite q d bs s)

/-- DMA_FENCE: every earlier descriptor of the queue has ended (R503). -/
def dmaFence (q i : Nat) (s : State) : State :=
  match s.openDesc q i with
  | none => s
  | some d =>
    if d.op = 2 ∧ ((s.que q).descs.takeWhile fun e => e.idx != i).all (fun e => e.done) then modDesc q i (fun d => { d with fin := true }) s
    else s

/-- DMA_RQCOPY: the descriptor begins to serve its request line (R504). -/
def dmaRqcopy (q i : Nat) (s : State) : State :=
  match s.openDesc q i with
  | some d => if d.op = 3 ∧ d.arm ∧ s.inTurn q d ∧ ¬ s.lineServed d.sunit then modDesc q i (fun d => { d with run := true }) s else s
  | none => s

/-- The end of a burst: RP advances by the bytes moved (R504). -/
def burstEnd (q i n : Nat) (d : Desc) (s : State) : State :=
  let s := descMoved q i n s
  match s.lineRing d.sunit with
  | some r => ringAdvance r n s
  | none => s

/-- RQCOPY_BURST: with RQ asserted one burst moves from RP, which advances by the bytes moved once they are at the destination (R504): for
a peer, when every flit has its credit (R514); for a streaming ring, piece by piece as it has room (R172). A burst waits while the ring
holds less than it. -/
def rqcopyBurst (q i : Nat) (s : State) : State :=
  match s.openDesc q i with
  | none => s
  | some d =>
    let n := min (256 * d.burst) (d.len - d.moved)
    if d.op ≠ 3 ∨ ¬ d.run then s
    else if d.dkind = 8 ∧ d.part ≠ 0 then
      if s.allCredited q i then (if d.code = 0 then burstEnd q i n d s else descDone q i d.code s) else s
    else
      match s.lineRing d.sunit with
      | none => s
      | some r =>
        let k := if d.dkind = 6 then min (n - d.part) (s.strmSpace d.dunit (d.moved + d.part)) else n
        if (d.part = 0 ∧ ¬ s.flag (ringSTS r) CNV_RING_STS_REQ) ∨ s.ringHeld r < n ∨ k = 0 then s
        else
          let bs := (s.lineBytes r (d.part + k)).drop d.part
          let s := dstWrite q { d with moved := d.moved + d.part } bs s
          if d.dkind = 8 ∨ d.part + k < n then modDesc q i (fun d => { d with part := d.part + k }) s else burstEnd q i n d s

/-- DESC_COMPLETE: a descriptor whose data has been delivered ends (R505, Table 16-9). -/
def descComplete (q i : Nat) (s : State) : State :=
  match (s.que q).descs.find? fun d => d.idx == i && !d.done && d.fin with
  | none => s
  | some d =>
    if d.dkind = 8 ∧ d.op ≠ 2 ∧ ¬ s.allCredited q i then s else descDone q i 0 s

/-- DMA_READ_FAIL: a host read fails. One of the data of a descriptor with a source in host memory ends it with E_DMA_PCIE, one of the entry
to be fetched halts the queue (R506). -/
def dmaReadFail (q i : Nat) (s : State) : State :=
  match s.openDesc q i with
  | some d => if d.op = 1 ∧ d.skind = 0 then descDone q i E_DMA_PCIE s else s
  | none =>
    let x := s.que q
    if x.st = qACTIVE ∧ x.kind ≠ kRESULT ∧ x.fetch ≠ x.prod ∧ i = x.fetch then
      s.setQue q { x with st := qHALTED, status := E_DMA_PCIE, fetch := x.next x.fetch 1 }
    else s

/-- Every descriptor in flight ends with a code: entry into SAFE, or a host-island hang (R506). -/
def dmaAbortAll (code : Nat) (s : State) : State :=
  forEach (s.hif.ques.map (·.1)) s fun q s =>
    forEach ((s.que q).descs.filter fun d => !d.done) s fun d s => descDone q d.idx code s

/-- Descriptors with a destination over a link that goes down end with E_DMA_LINK_DOWN (R513). -/
def dmaLinkDown (l : Nat) (s : State) : State :=
  forEach (s.hif.ques.map (·.1)) s fun q s =>
    forEach ((s.que q).descs.filter fun d => !d.done && d.op != 2 && d.dkind == 8 && d.dunit / 2 ^ 12 == l) s
      fun d s => descDone q d.idx E_DMA_LINK_DOWN s

/-- A TRACE flit of a RQCOPY was dropped: the descriptor ends after its present burst (R514). -/
def dmaTraceDrop (q i : Nat) (s : State) : State := modDesc q i (fun d => if d.done then d else { d with code := E_DMA_TRACE_DROP }) s

/-! ### Transfers from peers (R508, R513, R514) -/

/-- A free buffer of a class is owed to the peer as a credit. -/
def owe (l cls : Nat) (s : State) : State :=
  let x := tget s.ozl.links l
  { s with ozl := { s.ozl with links := tput s.ozl.links l { x with owed := tput x.owed cls (tget x.owed cls + 1) } } }

/-- The check of a header (R513): the sender's queue stands for the partition of the same number. -/
def State.inCheck (s : State) (k u a n part : Nat) : Nat :=
  let o : OwnRange := ⟨6, 3, part, 0, 1⟩
  let d : Desc := ⟨0, [1 + k * 2 ^ 24 + n * 2 ^ 32, 0, a, u * 2 ^ 16], 0, 0, false, false, false, 0, false⟩
  if k = 0 ∨ 5 < k ∨ ¬ unitOk k u then E_HIF_RSVD_ENC
  else if n = 0 then E_HIF_ZERO_LEN
  else if ¬ endAlign k a then E_HIF_ALIGN
  else if ¬ s.endFits k u a n then E_HIF_LEN_EXCEEDS
  else if ¬ s.endMay o k u a n then E_IMG_RES_BUSY
  else if (s.endPart k u a n).any s.closed then E_SHR_SEALED
  else s.endState 0 d

/-- The segment that a peer loads takes a state (R501). -/
def inSeg (i : XferIn) (v : SegState) (s : State) : State :=
  if i.kind = 2 ∧ i.cls ≠ 3 ∧ i.ok then
    s.changeSeg 64 (i.unit_ / 4096 % 4) (i.unit_ % 4096) { s.segOf i.unit_ with state := v }
  else s

/-- The transfers of a link that goes down end; a segment being loaded becomes FREE. -/
def insDrop (l : Nat) (s : State) : State :=
  let s := forEach (s.hif.ins.filter fun i => i.link == l) s fun i s => inSeg i .free s
  { s with hif := { s.hif with ins := s.hif.ins.filter fun i => i.link != l } }

/-- POSTED_HDR_RX: a POSTED (`cls` 2) or TRACE (4) header on link `l`; `part` the partition of the sender's queue (R513, R514). -/
def postedHdr (l cls p part : Nat) (s : State) : State :=
  let k := bits p 203 196
  let u := bits p 195 180
  let a := bits p 179 116
  let n := bits p 115 92
  let code := s.inCheck k u a n part
  let i : XferIn := ⟨l, cls, k, u, a, n, bits p 91 74, bits p 73 54, code == 0, []⟩
  let s := owe l cls { s with hif := { s.hif with ins := s.hif.ins ++ [i] } }
  if code = 0 then inSeg i .loading s
  else
    let s := s.denyIf code (s.endInsts k u a n).1 ((s.endInsts k u a n).2.headD 0) 3 part
    ozlQueue l 2 [2 * 2 ^ 204 + code * 2 ^ 188 + i.qid * 2 ^ 170 + i.slot * 2 ^ 150] s

/-- Bytes of a transfer from a peer are written. -/
def inWrite (i : XferIn) (bs : List (BitVec 8)) (s : State) : State :=
  dstWrite 0 ⟨0, [1 + i.kind * 2 ^ 24, 0, i.addr, i.unit_ * 2 ^ 16], 0, 0, true, true, false, 0, false⟩ bs s

/-- The bytes of a DATA payload. -/
def payloadBytes (p : Nat) : List (BitVec 8) := le (min 24 (bits p 203 198)) (bits p 191 0)

/-- A transfer in place of another, or gone when nothing of it is to come. -/
def putIn (i j : XferIn) (s : State) : State :=
  { s with hif := { s.hif with ins := s.hif.ins.filterMap fun x => if x = i then (if j.left = 0 then none else some j) else some x } }

/-- POSTED_DATA_RX: the data goes to its store, or is discarded when the header was refused, and its credit returns. -/
def postedData (l cls p : Nat) (s : State) : State :=
  match s.hif.ins.find? fun i => i.link == l && i.cls == cls with
  | none => s
  | some i =>
    let bs := (payloadBytes p).take i.left
    let s := if i.ok then inWrite i bs s else s
    let s := if i.left = bs.length then inSeg i .ready s else s
    owe l cls (putIn i { i with addr := i.addr + bs.length, left := i.left - bs.length } s)

/-- POSTED_NACK_RX: the sender's descriptor ends with the code that the NACK carries (R513). -/
def postedNack (l p : Nat) (s : State) : State :=
  let q := bits p 187 170
  let slot := bits p 169 150
  let s := owe l 2 s
  match (s.que q).descs.find? fun d => !d.done && d.idx % (s.que q).entries == slot && d.dkind == 8 with
  | some d => descDone q d.idx (bits p 203 188) (modDesc q d.idx (fun d => { d with moved := 0 }) s)
  | none => s

/-- Sixty-four bytes as words. -/
def bytesWords (bs : List (BitVec 8)) : List Nat := (chunks 8 8 bs).map fun c => packLE 8 (c.map (·.toNat))

/-- RESULT_FLIT_RX: header or data of a result entry for a local queue (R508, Table 16-12). -/
def resultFlit (l p : Nat) (s : State) : State :=
  if bits p 207 204 = 0 then
    owe l 3 { s with hif := { s.hif with ins := s.hif.ins ++ [⟨l, 3, 0, 0, 0, 64, bits p 203 186, 0, true, []⟩] } }
  else
    match s.hif.ins.find? fun i => i.link == l && i.cls == 3 with
    | none => s
    | some i =>
      let bs := (payloadBytes p).take i.left
      let j := { i with left := i.left - bs.length, buf := i.buf ++ bs }
      let s := owe l 3 (putIn i j s)
      if j.left = 0 then placeEntry i.qid true (bytesWords j.buf) s else s

/-! ### BAR2 (R491 to R493) -/

/-- A host write into a page behind a seal (Table 17-8). -/
def sealDrop (off p : Nat) (s : State) : State := (s.shrDeny off 2 p E_SHR_SEALED).inc SHR_SEAL_DROP_CNT

/-- Bytes of the waveform store: each takes effect where R153 allows it. -/
def waveWrite (q off : Nat) (bs : List (BitVec 8)) (s : State) : State :=
  let ok (i : Nat) : Bool := s.sampleFree q (i / 6)
  let xs := bs.zipIdx.map fun (b, k) => (off + k, b)
  let m := xs.foldl (fun m (i, b) => if i < 12582912 ∧ ok i then stByte m (12582912 * q + i) b else m) s.hal.wave
  let s := s.when (xs.any fun x => decide (x.1 < 12582912) && !ok x.1) fun s => s.inc (HAL_WDROP_CNT (16 * q))
  { s with hal := { s.hal with wave := m } }

/-- The store of a BAR2 offset: kind (of Table 16-7), unit, offset in the store. -/
def bar2Store (a : Nat) : Option (Nat × Nat × Nat) :=
  if a < 0x4000000 then some (2, a / 0x1000000, a % 0x1000000)
  else if 0x10000000 ≤ a ∧ a < 0x11000000 then some (3, (a - 0x10000000) / 0x40000, a % 0x40000)
  else if 0x20000000 ≤ a ∧ a < 0x22000000 then some (1, 0, a - 0x20000000)
  else if 0x30000000 ≤ a ∧ a < 0x30800000 then some (4, 0, a - 0x30000000)
  else if 0x40000000 ≤ a ∧ a < 0x40400000 then some (5, (a - 0x40000000) / 0x80000, a % 0x80000)
  else none

/-- The partition of a byte of a BAR2 store. -/
def State.bar2Part (s : State) (k u off : Nat) : Option Nat :=
  match k with
  | 1 => s.partOfInst 7 (off / 4096)
  | 2 => s.partOfInst 0x0A (512 * u + off / 24576)
  | 3 => if (s.comp u).present then some (s.partOf u) else none
  | 4 => s.partOfInst 9 (off / 4096)
  | _ => s.allotOf 0x0C u

/-- A write of a BAR2 store under the rules of its chapter (R97, R153, R352, R377). -/
def bar2Put (k u off : Nat) (bs : List (BitVec 8)) (s : State) : State :=
  match k with
  | 1 => { s with cnv := { s.cnv with res := stList s.cnv.res off bs } }
  | 2 => waveWrite u off bs s
  | 3 => seqPut u off bs s
  | 4 => graphWrite off bs s
  | _ => if s.wchOpen u then { s with wch := { s.wch with mem := stList s.wch.mem (524288 * u + off) bs } }
      else s.inc (WCH_WDROP_CNT u)

/-- The part of a host write that falls on one page of a store. -/
def bar2Piece (a : Nat) (bs : List (BitVec 8)) (s : State) : State :=
  match bar2Store a with
  | none => s
  | some (k, u, off) =>
    match (s.bar2Part k u off).filter s.closed with
    | some p => sealDrop a p s
    | none => bar2Put k u off bs s

/-- The bytes from a BAR2 offset to the end of its page of ownership. -/
def bar2Left (a : Nat) : Nat :=
  match bar2Store a with
  | some (2, _, off) => 24576 - off % 24576
  | _ => 4096 - a % 4096

/-- A host write through BAR2 (R493), of up to 512 bytes: unimplemented offsets discard it, a closed partition discards and records it. -/
def bar2Write (a : Nat) (bs : List (BitVec 8)) (s : State) : State :=
  let n := bar2Left a
  let s := bar2Piece a (bs.take n) s
  if n < bs.length then bar2Piece (a + n) (bs.drop n) s else s

/-! ### PCIe (R490, R618) -/

/-- PCIE_LINK_UP: the link finishes training (R490); entries held in spill enter their rings. -/
def pcieLinkUp (rate width : Nat) (flit : Bool) (s : State) : State :=
  let s := s.wrN HIF_STS (b01 flit * 2 ^ 11 + rate % 8 * 2 ^ 8 + width % 32)
  let s := { s with hif := { s.hif with down := false } }
  forEach (s.hif.ques.map (·.1)) s fun q s => unspill q (s.que q).spill.length s

/-- A segment that a descriptor was loading becomes FREE. -/
def loadFails (d : Desc) (s : State) : State :=
  if d.dkind = 2 ∧ d.arm ∧ ¬ d.done then
    s.changeSeg 64 (d.dunit / 4096 % 4) (d.dunit % 4096) { s.segOf d.dunit with state := .free }
  else s

/-- PCIE_RESET: configuration space and MSI-X table go back to their reset values; active SUBMIT and REQUEST queues halt, and
their descriptors in flight end without a status (R618). -/
def pcieReset (s : State) : State :=
  let s := s.wrN HIF_STS 0
  let s := { s with hif := { s.hif with msix := [], pba := [], down := true } }
  forEach (s.hif.ques.map (·.1)) s fun q s =>
    let x := s.que q
    if x.st = qACTIVE ∧ x.kind ≠ kRESULT then
      (forEach x.descs s loadFails).setQue q { x with st := qHALTED, status := E_DMA_PCIE, descs := [], cons := x.fetch }
    else s

/-! ### The commands -/

/-- BAR2_WRITE. -/
def execBar2Write (a : Nat) (bs : List (BitVec 8)) (s : State) : Host.Outcome State Fault Refusal :=
  .next (hostBar (bar2Write a bs) s)
/-- QUEUE_DOORBELL. -/
def execQueueDoorbell (q n v : Nat) (s : State) : Host.Outcome State Fault Refusal :=
  .next (hostBar (queueDoorbell q n v) s)
/-- QM_FENCE_DOORBELL. -/
def execQmFenceDoorbell (q n v : Nat) (s : State) : Host.Outcome State Fault Refusal :=
  .next (hostBar (fenceDoorbell q n v) s)
/-- FENCE_RECORD_PLACE. -/
def execFenceRecordPlace (q : Nat) (s : State) : Host.Outcome State Fault Refusal := .next (fencePlace q s)
/-- QM_QIDX_WRITE. -/
def execQmQidxWrite (v : Nat) (s : State) : Host.Outcome State Fault Refusal := .next (hostWr QM_QIDX (qidxWrite v) s)
/-- QM_WRITE. -/
def execQmWrite (s : State) : Host.Outcome State Fault Refusal := .next (hostWr QM_QCMD qWrite s)
/-- QM_ENABLE. -/
def execQmEnable (s : State) : Host.Outcome State Fault Refusal := .next (hostWr QM_QCMD qEnable s)
/-- QM_DISABLE. -/
def execQmDisable (s : State) : Host.Outcome State Fault Refusal := .next (hostWr QM_QCMD qDisable s)
/-- QM_RESUME. -/
def execQmResume (s : State) : Host.Outcome State Fault Refusal := .next (hostWr QM_QCMD qResume s)
/-- QUEUE_DRAINED. -/
def execQueueDrained (q : Nat) (s : State) : Host.Outcome State Fault Refusal := .next (queueDrained q s)
/-- DESC_FETCH. -/
def execDescFetch (q : Nat) (ws : List Nat) (ecc : Bool) (s : State) : Host.Outcome State Fault Refusal := .next (descFetch q ws ecc s)
/-- DMA_COPY. -/
def execDmaCopy (q i : Nat) (bs : List (BitVec 8)) (s : State) : Host.Outcome State Fault Refusal := .next (dmaCopy q i bs s)
/-- DMA_FENCE. -/
def execDmaFence (q i : Nat) (s : State) : Host.Outcome State Fault Refusal := .next (dmaFence q i s)
/-- DMA_RQCOPY. -/
def execDmaRqcopy (q i : Nat) (s : State) : Host.Outcome State Fault Refusal := .next (dmaRqcopy q i s)
/-- RQCOPY_BURST. -/
def execRqcopyBurst (q i : Nat) (s : State) : Host.Outcome State Fault Refusal := .next (rqcopyBurst q i s)
/-- DESC_COMPLETE. -/
def execDescComplete (q i : Nat) (s : State) : Host.Outcome State Fault Refusal := .next (descComplete q i s)
/-- DMA_READ_FAIL. -/
def execDmaReadFail (q i : Nat) (s : State) : Host.Outcome State Fault Refusal := .next (dmaReadFail q i s)
/-- RESULT_ENTRY. -/
def execResultEntry (prod : Nat) (s : State) : Host.Outcome State Fault Refusal := .next (resultEntry prod s)
/-- IRQ_TIMER. -/
def execIrqTimer (q : Nat) (s : State) : Host.Outcome State Fault Refusal := .next (irqTimer q s)
/-- QM_YQID_WRITE. -/
def execQmYqidWrite (y v : Nat) (s : State) : Host.Outcome State Fault Refusal :=
  .next (hostWr (QM_YQID y) (fun s => (yqidWrite y v s).1) s)
/-- POSTED_HDR_RX. -/
def execPostedHdrRx (l cls p part : Nat) (s : State) : Host.Outcome State Fault Refusal := .next (postedHdr l cls p part s)
/-- POSTED_DATA_RX. -/
def execPostedDataRx (l cls p : Nat) (s : State) : Host.Outcome State Fault Refusal := .next (postedData l cls p s)
/-- POSTED_NACK_RX. -/
def execPostedNackRx (l p : Nat) (s : State) : Host.Outcome State Fault Refusal := .next (postedNack l p s)
/-- RESULT_FLIT_RX. -/
def execResultFlitRx (l p : Nat) (s : State) : Host.Outcome State Fault Refusal := .next (resultFlit l p s)
/-- PCIE_RESET. -/
def execPcieReset (s : State) : Host.Outcome State Fault Refusal := .next (pcieReset s)
/-- PCIE_LINK_UP. -/
def execPcieLinkUp (rate width : Nat) (flit : Bool) (s : State) : Host.Outcome State Fault Refusal :=
  .next (pcieLinkUp rate width flit s)

end Sys2Proof.Machine
end

