-- ==== Sys2Proof/Machine/Winch.lean ====
section
/-! DEFINITION. The Winch cores (chapter 12, R374 to R396): instructions, circular addressing, loops, interrupts, items and
transfers. -/

namespace Sys2Proof.Machine

/-! ### Cores and their registers -/

/-- A core's own state. -/
def State.core (s : State) (x : Nat) : Core := tget s.wch.cores x

/-- Changing it. -/
def State.setCore (s : State) (x : Nat) (c : Core) : State := { s with wch := { s.wch with cores := tput s.wch.cores x c } }

/-- Setting CSTATE. -/
def State.setWst (s : State) (x v : Nat) : State := s.setF (WCH_CSTS x) WCH_CSTS_CSTATE v

/-- The partition that a core is allotted to (R374). -/
def State.wPart (s : State) (x : Nat) : Option Nat := s.allotOf 0x0C x

/-- 2^48. -/
def w48 : Nat := 2 ^ 48

/-- Data register D`i`. -/
def State.wD (s : State) (x i : Nat) : Nat := s.rdN (WCH_REG x i)
def State.setWD (s : State) (x i v : Nat) : State := s.wrN (WCH_REG x i) (v % w48)

/-- Accumulator `n`, 104 bits. -/
def State.wAcc (s : State) (x n : Nat) : Nat := s.rdN (WCH_REG x (16 + 2 * n)) + s.rdN (WCH_REG x (17 + 2 * n)) % 2 ^ 40 * 2 ^ 64
def State.setWAcc (s : State) (x n v : Nat) : State :=
  (s.wrN (WCH_REG x (16 + 2 * n)) (v % 2 ^ 64)).wrN (WCH_REG x (17 + 2 * n)) (v / 2 ^ 64 % 2 ^ 40)

/-- Width of a special register (Table 12-2). -/
def sprWidth (k : Nat) : Nat := if k < 0x10 then 16 else if k = 0x18 then 20 else if k = 0x1C then 2 else if k = 0x1D then 3 else 17

/-- A special register; IPEND stands in WCH_IPEND. -/
def State.wSpr (s : State) (x k : Nat) : Nat := if k = 0x1D then s.rdN (WCH_IPEND x) else s.rdN (WCH_REG x (24 + k))

/-- Storing one. -/
def State.setWSpr (s : State) (x k v : Nat) : State :=
  if k = 0x1D then s.wrN (WCH_IPEND x) (v % 8) else s.wrN (WCH_REG x (24 + k)) (v % 2 ^ sprWidth k)

/-- LA, PC and IE of a core. -/
def State.wLA (s : State) (x : Nat) : Bool := s.flag (WCH_CSTS x) WCH_CSTS_LA
def State.setWLA (s : State) (x : Nat) (b : Bool) : State := s.setF (WCH_CSTS x) WCH_CSTS_LA (b01 b)
def State.wPC (s : State) (x : Nat) : Nat := s.fld (WCH_PC x) WCH_PC_PC
def State.setWPC (s : State) (x v : Nat) : State := s.setF (WCH_PC x) WCH_PC_PC (v % 2 ^ 17)
def State.wIE (s : State) (x : Nat) : Bool := s.wSpr x 0x1C % 2 == 1

/-- Is an enabled interrupt pending (R387)? -/
def State.wPend (s : State) (x : Nat) : Bool := s.rdN (WCH_IPEND x) &&& s.rdN (WCH_IEN x) != 0

/-- A waiting core goes on once an enabled interrupt is pending (R387). -/
def wWake (x : Nat) (s : State) : State := if s.wst x = wWAIT ∧ s.wPend x then s.setWst x wRUN else s

/-- A bit of IPEND is set. -/
def wSetPend (x : Nat) (f : Fld) (s : State) : State := wWake x (s.setF (WCH_IPEND x) f 1)

/-- A word of local memory. -/
def State.wWord (s : State) (x a : Nat) : Nat := ldBytes s.wch.mem (524288 * x + 8 * a) 8

/-- Storing a word. -/
def State.setWWord (s : State) (x a v : Nat) : State := { s with wch := { s.wch with mem := stBytes s.wch.mem (524288 * x + 8 * a) 8 v } }

/-- The instruction word at the PC (R376). -/
def State.wInsn (s : State) (x : Nat) : Nat := ldBytes s.wch.mem (524288 * x + 4 * s.wPC x) 4

/-! ### Issue, retirement and faults (R384 to R386, R393) -/

/-- A fault stops the core (R393). -/
def wFault (x code : Nat) (s : State) : State :=
  ((s.setWst x wFAULTED).setF (WCH_FAULT x) WCH_FAULT_CODE code).wrN (WCH_FAULT_PC x) (s.wPC x)

/-- The next PC when the instruction at the PC retires (R385). -/
def wRetire (x : Nat) (s : State) : State :=
  let pc := s.wPC x
  if s.wLA x ∧ pc = s.wSpr x 0x1A then
    let n := s.wSpr x 0x18
    if n = 0xFFFFF then s.setWPC x (s.wSpr x 0x19)
    else
      let s := s.setWSpr x 0x18 (n - 1)
      if n - 1 ≠ 0 then s.setWPC x (s.wSpr x 0x19) else (s.setWLA x false).setWPC x (pc + 1)
  else s.setWPC x (pc + 1)

/-- A taken branch; one that leaves the loop clears LA (R385). -/
def wJump (x t : Nat) (s : State) : State :=
  let t := t % 2 ^ 17
  let s := if t < s.wSpr x 0x19 ∨ s.wSpr x 0x1A < t then s.setWLA x false else s
  s.setWPC x t

/-- The low bits of each opcode's word that Table 12-1 leaves reserved, and the gap below SPR of MTS and below DA or DD of LOOP
and JL. -/
def wRsvd (w : Nat) : Bool :=
  let low (n : Nat) : Bool := w % 2 ^ n != 0
  match bits w 31 26 with
  | 0x00 | 0x14 | 0x15 | 0x16 | 0x17 => low 26
  | 0x01 => low 18
  | 0x04 => low 9
  | 0x05 => low 12
  | 0x06 => low 5
  | 0x07 => low 13
  | 0x08 => low 20
  | 0x09 | 0x0A => low 11
  | 0x0B => bits w 19 17 != 0
  | 0x0C => low 17
  | 0x0D | 0x0F => bits w 21 17 != 0
  | 0x10 | 0x11 => low 22
  | 0x12 => low 18
  | 0x13 => low 23
  | _ => false

/-- The instructions that may not stand at LPE (R386). -/
def wNotLast (op : Nat) : Bool := [0x0E, 0x0F, 0x10, 0x0D, 0x15, 0x16, 0x17].contains op

/-- A core executes an instruction (R375, R396): in USER mode, in RUN, with a clock, and with no interrupt to take first; or in HALTED
by a step of Ratline, which takes no interrupt (R664). -/
def State.wReady (s : State) (x : Nat) : Bool :=
  decide (x < 8) && !(s.core x).stopping && (if (s.core x).step then s.wst x == wHALTED else s.wst x == wRUN && !(s.wIE x && s.wPend x))
    && s.flag (WCH_CTL x) WCH_CTL_MODE && s.fld WCH_STS WCH_STS_CLK != 2 && (s.dev == dREADY || s.dev == dRUN)

/-- Does the instruction at the PC match an enabled breakpoint of Ratline (R663)? A step passes it. -/
def State.wBreak (s : State) (x : Nat) : Bool :=
  !(s.core x).step && (List.range 2).any fun b =>
    s.flag (RAT_WBRK x b) RAT_WBRK_EN && s.fld (RAT_WBRK x b) RAT_WBRK_PC == s.wPC x

/-- Ratline halts a core (R663, Table 24-5). -/
def ratHalts (x : Nat) (s : State) : State :=
  (s.setWst x wHALTED).setF RAT_STS RAT_STS_WHALT (s.fld RAT_STS RAT_STS_WHALT ||| 2 ^ x)

/-- The instruction at the PC is executed when it has the opcode `op`: `f` gives its effect with the next PC. -/
def wExec (x op : Nat) (f : Nat → State → State) (s : State) : State :=
  let w := s.wInsn x
  if ¬ s.wReady x ∨ bits w 31 26 ≠ op then s
  else if s.wBreak x then ratHalts x s
  else if wRsvd w then wFault x E_WCH_RSVD_ENC s
  else if wNotLast op ∧ s.wLA x ∧ s.wPC x = s.wSpr x 0x1A then wFault x E_WCH_LOOP s
  else f w s

/-- An instruction that goes on to the next one. -/
def wPlain (x op : Nat) (f : Nat → State → State) (s : State) : State := wExec x op (fun w s => wRetire x (f w s)) s

/-! ### Arithmetic (R378 to R381) -/

/-- A FUNC of ALU on `w`-bit values (Table 3-5, R378). -/
def wAlu (w f a b : Nat) : Nat :=
  let n := b % 64
  match f with
  | 0 => (a + b) % 2 ^ w
  | 1 => (a + 2 ^ w - b % 2 ^ w) % 2 ^ w
  | 2 => a &&& b
  | 3 => a ||| b
  | 4 => a ^^^ b
  | 5 => if w ≤ n then 0 else a * 2 ^ n % 2 ^ w
  | 6 => if w ≤ n then 0 else a / 2 ^ n
  | 7 => unsgn w (sgn w a >>> min n w)
  | 8 => if sgn w a ≤ sgn w b then a else b
  | _ => if sgn w a ≤ sgn w b then b else a

/-- ALU: the whole value, or the two halves of a complex one. -/
def wAluCx (cx : Bool) (f a b : Nat) : Nat :=
  if cx then wAlu 24 f (a / 2 ^ 24) (b / 2 ^ 24) * 2 ^ 24 + wAlu 24 f (a % 2 ^ 24) (b % 2 ^ 24) else wAlu 48 f a b

/-- I and Q of a complex value. -/
def cxI (a : Nat) : Int := sgn 24 (a / 2 ^ 24)
def cxQ (a : Nat) : Int := sgn 24 (a % 2 ^ 24)

/-- A sum at `w` bits and whether it overflowed. -/
def addW (w : Nat) (a b : Int) : Nat × Bool := (unsgn w (a + b), sat w (a + b) != a + b)

/-- MAC (R379): accumulator, operands, CX, CJ, NEG, CLR to the new accumulator and its overflow. -/
def macVal (acc a b : Nat) (cx cj neg clr : Bool) : Nat × Bool :=
  let acc := if clr then 0 else acc
  let sg (p : Int) : Int := if neg then -p else p
  if cx then
    let qb := if cj then -(cxQ b) else cxQ b
    let i := addW 52 (sgn 52 (acc / 2 ^ 52)) (sg (cxI a * cxI b - cxQ a * qb))
    let q := addW 52 (sgn 52 (acc % 2 ^ 52)) (sg (cxI a * qb + cxQ a * cxI b))
    (i.1 * 2 ^ 52 + q.1, i.2 || q.2)
  else addW 104 (sgn 104 acc) (sg (sgn 48 a * sgn 48 b))

/-- The effect of a MAC on accumulator `n`. -/
def wMac (x n a b : Nat) (cx cj neg clr : Bool) (s : State) : State :=
  let r := macVal (s.wAcc x n) a b cx cj neg clr
  (s.setWAcc x n r.1).when r.2 fun s => s.setF (WCH_CSTS x) WCH_CSTS_ACC_OVF 1

/-- ACCX (R380): the value for DD and whether it was saturated. -/
def accxVal (acc sh : Nat) (cx : Bool) : Nat × Bool :=
  if cx then
    let i := sgn 52 (acc / 2 ^ 52) >>> sh
    let q := sgn 52 (acc % 2 ^ 52) >>> sh
    (unsgn 24 (sat 24 i) * 2 ^ 24 + unsgn 24 (sat 24 q), sat 24 i != i || sat 24 q != q)
  else
    let v := sgn 104 acc >>> sh
    (unsgn 48 (sat 48 v), sat 48 v != v)

/-- DIVS (R381): one restoring step. -/
def divStep (acc b : Nat) : Nat :=
  let a := acc * 2 % 2 ^ 104
  if b ≤ a / 2 ^ 48 then a - b * 2 ^ 48 + (1 - a % 2) else a

/-! ### Circular addressing (R382, R383) -/

/-- A pointer register beyond its ring is reduced before the address is formed (R383). -/
def wClamp (x n : Nat) (s : State) : State :=
  let l := s.wSpr x (0x10 + n)
  let p := s.wSpr x n
  if l ≠ 0 ∧ l ≤ p then
    ((s.setWSpr x n (p % l)).setF (WCH_CSTS x) WCH_CSTS_CIRC_CLAMP 1).inc (WCH_CLAMP_CNT x)
  else s

/-- The address Bn + Pn. -/
def State.wAddr (s : State) (x n : Nat) : Nat := s.wSpr x (0x08 + n) + s.wSpr x n

/-- Pn advances by STEP, modulo 2^16 or Ln. -/
def wStep (x n step : Nat) (s : State) : State :=
  let l := s.wSpr x (0x10 + n)
  let m := if l = 0 then 65536 else l
  s.setWSpr x n ((((s.wSpr x n : Int) + sgn 8 step) % (m : Int)).toNat)

/-- A memory access through a pointer: an address beyond local memory is a fault (R382). -/
def wAccess (x n : Nat) (f : Nat → State → State) (s : State) : State :=
  let s := wClamp x n s
  if 65536 ≤ s.wAddr x n then wFault x E_WCH_ADDR s else f (s.wAddr x n) s

/-! ### Instructions -/

/-- `ecc` 1 stands for a corrected error of local memory, 2 for an uncorrectable one, whatever the instruction (R393). A
reserved opcode is a fault. -/
def wNop (x ecc : Nat) (s : State) : State :=
  if ecc = 1 then s.inc (WCH_ECC_CNT x)
  else if ecc = 2 ∧ s.wReady x then wFault x E_WCH_ECC_UNCORR s
  else if s.wReady x ∧ 0x18 ≤ bits (s.wInsn x) 31 26 then (if s.wBreak x then ratHalts x s else wFault x E_WCH_RSVD_ENC s)
  else wPlain x 0x00 (fun _ s => s) s

def wMov (x : Nat) : State → State := wPlain x 0x01 fun w s => s.setWD x (bits w 25 22) (s.wD x (bits w 21 18))
def wMovi (x : Nat) : State → State := wPlain x 0x02 fun w s => s.setWD x (bits w 25 22) (unsgn 48 (sgn 22 (bits w 21 0)))
def wMovs (x : Nat) : State → State := wPlain x 0x03 fun w s =>
  s.setWD x (bits w 25 22) (s.wD x (bits w 25 22) * 2 ^ 22 + bits w 21 0)

/-- ALU; FUNC 0xA to 0xF are reserved. -/
def wAluI (x : Nat) : State → State := wExec x 0x04 fun w s =>
  if 0x9 < bits w 13 10 then wFault x E_WCH_RSVD_ENC s
  else wRetire x (s.setWD x (bits w 25 22) (wAluCx (bit w 9) (bits w 13 10) (s.wD x (bits w 21 18)) (s.wD x (bits w 17 14))))

def wMacI (x : Nat) : State → State := wPlain x 0x05 fun w s =>
  wMac x (bits w 25 24) (s.wD x (bits w 23 20)) (s.wD x (bits w 19 16)) (bit w 15) (bit w 14) (bit w 13) (bit w 12) s

def wMacp (x : Nat) : State → State := wExec x 0x06 fun w s =>
  wAccess x (bits w 19 17) (fun a s =>
    wRetire x (wStep x (bits w 19 17) (bits w 12 5)
      (wMac x (bits w 25 24) (s.wD x (bits w 23 20)) (s.wWord x a % w48) (bit w 16) (bit w 15) (bit w 14) (bit w 13) s))) s

def wAccxI (x : Nat) : State → State := wPlain x 0x07 fun w s =>
  let r := accxVal (s.wAcc x (bits w 21 20)) (bits w 19 14) (bit w 13)
  (s.setWD x (bits w 25 22) r.1).when r.2 fun s => s.setF (WCH_CSTS x) WCH_CSTS_SAT 1

def wDivs (x : Nat) : State → State := wPlain x 0x08 fun w s =>
  let b := s.wD x (bits w 23 20)
  (s.setWAcc x (bits w 25 24) (divStep (s.wAcc x (bits w 25 24)) b)).when (b == 0) fun s => s.setF (WCH_CSTS x) WCH_CSTS_DIV0 1

def wLd (x : Nat) : State → State := wExec x 0x09 fun w s =>
  wAccess x (bits w 21 19) (fun a s =>
    wRetire x (wStep x (bits w 21 19) (bits w 18 11) (s.setWD x (bits w 25 22) (s.wWord x a)))) s

def wSt (x : Nat) : State → State := wExec x 0x0A fun w s =>
  wAccess x (bits w 21 19) (fun a s =>
    wRetire x (wStep x (bits w 21 19) (bits w 18 11) (s.setWWord x a (s.wD x (bits w 25 22))))) s

/-- MTS: LPE sets LA as well, IPEND clears the bits written 1 (Table 12-2). -/
def wMts (x : Nat) : State → State := wExec x 0x0B fun w s =>
  let k := bits w 25 21
  let v := if bit w 20 then s.wD x (bits w 3 0) else bits w 16 0
  if 0x1D < k then wFault x E_WCH_RSVD_ENC s
  else if k = 0x1D then wRetire x (s.setWSpr x k (s.wSpr x k &&& (7 - v % 8)))
  else
    let s := wRetire x s
    (s.setWSpr x k v).when (k == 0x1A) fun s => s.setWLA x true

def wMfs (x : Nat) : State → State := wExec x 0x0C fun w s =>
  if 0x1D < bits w 21 17 then wFault x E_WCH_RSVD_ENC s
  else wRetire x (s.setWD x (bits w 25 22) (s.wSpr x (bits w 21 17)))

/-- LOOP (R384). -/
def wLoop (x : Nat) : State → State := wExec x 0x0D fun w s =>
  let n := s.wD x (bits w 25 22) % 2 ^ 20
  let b := bits w 16 0
  let pc := s.wPC x
  if b = 0 ∨ n = 0 then wFault x E_WCH_ZERO_LEN s
  else if 131071 < pc + b then wFault x E_WCH_ADDR s
  else ((((s.setWSpr x 0x18 n).setWSpr x 0x19 (pc + 1)).setWSpr x 0x1A (pc + b)).setWLA x true).setWPC x (pc + 1)

/-- Does a BR condition hold (COND)? -/
def wCond (c a b : Nat) : Bool :=
  match c with
  | 0 => a == b
  | 1 => a != b
  | 2 => decide (sgn 48 a < sgn 48 b)
  | 3 => decide (sgn 48 b ≤ sgn 48 a)
  | 4 => decide (a < b)
  | 5 => decide (b ≤ a)
  | _ => true

def wBr (x : Nat) : State → State := wExec x 0x0E fun w s =>
  if bits w 25 23 = 7 then wFault x E_WCH_RSVD_ENC s
  else if wCond (bits w 25 23) (s.wD x (bits w 22 19)) (s.wD x (bits w 18 15)) then
    wJump x (((s.wPC x : Int) + 1 + sgn 15 (bits w 14 0)) % 131072).toNat s
  else s.setWPC x (s.wPC x + 1)

def wJl (x : Nat) : State → State := wExec x 0x0F fun w s =>
  wJump x (bits w 16 0) (s.setWD x (bits w 25 22) (s.wPC x + 1))

def wJr (x : Nat) : State → State := wExec x 0x10 fun w s => wJump x (s.wD x (bits w 25 22)) s

def wGett (x : Nat) : State → State := wPlain x 0x11 fun w s => s.setWD x (bits w 25 22) s.tb1

/-- An EMIT that is refused (R389). -/
def wEmitRef (x code : Nat) (s : State) : State := wSetPend x WCH_IPEND_EMIT_REF (s.status (WCH_CSTS x) code)

/-- The yard of a BAR0 offset in the yard pages. -/
def pageYard (a : Nat) : Option Nat := if 0x1000000 ≤ a ∧ a < 0x2000000 then some ((a - 0x1000000) / 0x40000) else none

/-- Is an offset in the yard pages of a core's partition? -/
def State.wMayPage (s : State) (x a : Nat) : Bool :=
  match pageYard a with
  | some y => (s.comp y).present && s.wPart x == some (s.partOf y)
  | none => false

/-- The release time of an item (R389). -/
def emitRel (stamp d : Nat) (abs : Bool) : Nat :=
  if abs then stamp + (d + w48 - stamp % w48) % w48 else stamp + d

/-- The EMIT items of a core that have not reached their island. -/
def State.wItems (s : State) (x : Nat) : Nat :=
  (s.bus.transit.filter fun i => match i.act with | .emit _ _ _ c => c == x && i.src == islWinch | _ => false).length

/-- EMIT (R389): it stalls while 16 items wait. With TB1 stopped there is no release time to judge, so that refusal comes first (DESIGN CHOICE
of the order). -/
def wEmit (x : Nat) : State → State := wExec x 0x12 fun w s =>
  if 16 ≤ s.wItems x then s
  else wAccess x (bits w 20 18) (fun a s =>
    if 65535 ≤ a then wFault x E_WCH_ADDR s
    else
      let h := s.wWord x a
      let off := bits h 25 0
      let v := s.wWord x (a + 1)
      let rel := emitRel s.tb1 (s.wD x (bits w 25 22)) (bit w 21)
      let s := wRetire x s
      if ¬ s.tb1Run then wEmitRef x E_GLB_TB1_STOPPED s
      else if rel < s.tb1 + 40 * ft then wEmitRef x E_GLB_LEAD_SHORT s
      else if ¬ s.wMayPage x off then wEmitRef x E_IMG_RES_BUSY (s.deny 0x03 ((off - 0x1000000) / 0x40000) 3 ((s.wPart x).getD 0))
      else
        s.send ⟨rel, islWinch, (off - 0x1000000) / 0x40000, .ctrl,
          .emit off (BitVec.ofNat 64 (if bit h 28 then v % w48 else v % 2 ^ 32)) (bit h 28) x⟩) s

/-! ### Transfers (Table 12-3, R391) -/

/-- Bytes of a store and of one of its units (Table 12-3). -/
def xferSize (st : Nat) : Nat := if st = 1 then 33554432 else if st = 6 then 8388608 else 12582912
def xferUnit (st : Nat) : Nat := if 2 ≤ st ∧ st ≤ 5 then 6 else 8

/-- The owned instances of the region of a transfer. -/
def Xfer.insts (t : Xfer) : Nat × List Nat :=
  if t.kind = 3 then (6, [t.rem])
  else if t.st = 1 then (7, pagesOf t.rem t.len)
  else if t.st = 6 then (9, pagesOf t.rem t.len)
  else (0x0A, (List.range ((t.rem % 24576 + t.len + 24575) / 24576)).map fun i => 512 * (t.st - 2) + t.rem / 24576 + i)

/-- The checks of R391, in their order. `rsvd`: a reserved field of the descriptor is not 0. -/
def State.xferCheck (s : State) (x : Nat) (t : Xfer) (rsvd : Bool) : Nat :=
  if t.len = 0 then E_WCH_ZERO_LEN
  else if t.kind ≠ 3 ∧ (65536 < t.loc + t.len / xferUnit t.st ∨ xferSize t.st < t.rem + t.len) then E_WCH_LEN_EXCEEDS
  else if t.kind = 3 ∧ 65536 < t.loc + 8 then E_WCH_LEN_EXCEEDS
  else if t.kind ≠ 3 ∧ (t.rem % xferUnit t.st ≠ 0 ∨ t.len % xferUnit t.st ≠ 0) then E_WCH_ALIGN
  else if t.kind = 0 ∨ 3 < t.kind ∨ rsvd ∨ (t.kind = 3 ∧ t.st ≠ 0) ∨ (t.kind ≠ 3 ∧ (t.st = 0 ∨ 6 < t.st)) then E_WCH_RSVD_ENC
  else if 524288 < t.len ∨ (t.kind = 3 ∧ t.len ≠ 64) then E_WCH_RANGE
  else match s.wPart x with
    | some p => if t.insts.2.all (s.partHas p t.insts.1) then 0 else E_IMG_RES_BUSY
    | none => E_IMG_RES_BUSY

/-- XFER: the descriptor is read and checked; the transfer, or its refusal, completes later (R391). -/
def wXfer (x : Nat) : State → State := wExec x 0x13 fun w s =>
  wAccess x (bits w 25 23) (fun a s =>
    if 65533 ≤ a then wFault x E_WCH_ADDR s
    else
      let d := 8 * a
      let b (o n : Nat) : Nat := ldBytes s.wch.mem (524288 * x + d + o) n
      let t : Xfer := ⟨d, b 0 1, b 1 1, b 4 4, b 8 8, b 0x10 4, 0⟩
      let code := s.xferCheck x t (b 2 2 != 0 || b 0x18 8 != 0)
      let lacks := firstNot t.insts.2 fun i => (s.wPart x).any fun p => s.partHas p t.insts.1 i
      let s := wRetire x (s.denyIf code t.insts.1 lacks 3 ((s.wPart x).getD 0))
      let c := s.core x
      s.setCore x { c with xfers := c.xfers ++ [{ t with code := code }] }) s

/-- Words of local memory from samples of six bytes, and the other way. -/
def sampleWords (bs : List (BitVec 8)) : List (BitVec 8) := ((chunks 6 bs.length bs).map fun c => c ++ [0, 0]).flatten
def wordSamples (bs : List (BitVec 8)) : List (BitVec 8) := ((chunks 8 bs.length bs).map fun c => c.take 6).flatten

/-- The data of a transfer moves: it writes as host software writes (R153, R352), past a seal of its own partition. -/
def xferMove (x : Nat) (t : Xfer) (s : State) : State :=
  let la := 524288 * x + 8 * t.loc
  let wave := decide (2 ≤ t.st) && decide (t.st ≤ 5)
  let n := if wave then t.len / 6 * 8 else t.len
  let local_ := ldList s.wch.mem la n
  if t.kind = 1 then
    let src := if t.st = 1 then ldList s.cnv.res t.rem t.len
      else if t.st = 6 then ldList s.dec.store t.rem t.len
      else sampleWords (ldList s.hal.wave (12582912 * (t.st - 2) + t.rem) t.len)
    { s with wch := { s.wch with mem := stList s.wch.mem la src } }
  else if t.kind = 2 then
    if t.st = 1 then { s with cnv := { s.cnv with res := stList s.cnv.res t.rem local_ } }
    else if t.st = 6 then graphWrite t.rem local_ s
    else waveWrite (t.st - 2) t.rem (wordSamples local_) s
  else s.emitRec ⟨t.rem, 0x50 + x, 0, bytesWords (ldList s.wch.mem la 64), [], true⟩

/-- A core whose RUN was written 0 is IDLE once its transfers are done (R394). -/
def wStopped (x : Nat) (s : State) : State :=
  let c := s.core x
  if c.stopping ∧ c.xfers = [] then (s.setCore x { c with stopping := false }).setWst x wIDLE else s

/-- XFER_COMPLETE: transfer `i` of the core's outstanding ones completes or has been refused; STS is written, DONE last (R391).
Nothing moves while the Winch clock is stopped (R396). -/
def xferComplete (x i : Nat) (s : State) : State :=
  match (s.core x).xfers[i]? with
  | none => s
  | some t =>
    if s.fld WCH_STS WCH_STS_CLK = 2 then s
    else
      let s := if t.code = 0 then xferMove x t s else s
      let a := 524288 * x + t.desc + 0x14
      let s := { s with wch := { s.wch with mem := stBytes s.wch.mem a 4 (t.code % 2 ^ 16 * 2 ^ 16 + 1) } }
      let c := s.core x
      let s := s.setCore x { c with xfers := c.xfers.eraseIdx i }
      wStopped x (wSetPend x WCH_IPEND_XFER_DONE s)

/-- FENCE: it stalls until earlier transfers have written STS and earlier items have arrived (R392). -/
def wFence (x : Nat) : State → State := wExec x 0x14 fun _ s =>
  if (s.core x).xfers = [] ∧ s.wItems x = 0 then wRetire x s else s

/-! ### Interrupts (R387) -/

/-- WAITI. -/
def wWaiti (x : Nat) : State → State := wExec x 0x15 fun _ s =>
  let s := s.setWPC x (s.wPC x + 1)
  if s.wPend x then s else s.setWst x wWAIT

/-- RETI. -/
def wReti (x : Nat) : State → State := wExec x 0x16 fun _ s =>
  let i := s.wSpr x 0x1C
  ((s.setWPC x (s.wSpr x 0x1B)).setWLA x (bit i 1)).setWSpr x 0x1C (i ||| 1)

/-- HALT. -/
def wHalt (x : Nat) : State → State := wExec x 0x17 fun _ s => (s.setWPC x (s.wPC x + 1)).setWst x wHALTED

/-- WCH_INTERRUPT_ENTRY: a pending enabled interrupt is taken between instructions. -/
def wInterrupt (x : Nat) (s : State) : State :=
  if s.wst x = wRUN ∧ ¬ (s.core x).stopping ∧ s.flag (WCH_CTL x) WCH_CTL_MODE ∧ s.fld WCH_STS WCH_STS_CLK ≠ 2 ∧ s.wIE x ∧ s.wPend x then
    let s := s.setWSpr x 0x1B (s.wPC x)
    let s := s.setWSpr x 0x1C (2 * b01 (s.wLA x))
    (s.setWLA x false).setWPC x (s.fld (WCH_IVEC x) WCH_IVEC_PC)
  else s

/-- The instruction at the PC, whichever it is. -/
def wAny (x : Nat) (s : State) : State :=
  match bits (s.wInsn x) 31 26 with
  | 0x01 => wMov x s
  | 0x02 => wMovi x s
  | 0x03 => wMovs x s
  | 0x04 => wAluI x s
  | 0x05 => wMacI x s
  | 0x06 => wMacp x s
  | 0x07 => wAccxI x s
  | 0x08 => wDivs x s
  | 0x09 => wLd x s
  | 0x0A => wSt x s
  | 0x0B => wMts x s
  | 0x0C => wMfs x s
  | 0x0D => wLoop x s
  | 0x0E => wBr x s
  | 0x0F => wJl x s
  | 0x10 => wJr x s
  | 0x11 => wGett x s
  | 0x12 => wEmit x s
  | 0x13 => wXfer x s
  | 0x14 => wFence x s
  | 0x15 => wWaiti x s
  | 0x16 => wReti x s
  | 0x17 => wHalt x s
  | _ => wNop x 0 s

/-- A step of a halted core executes one instruction and leaves it HALTED, or FAULTED by its own fault (R664). -/
def wStepOne (x : Nat) (s : State) : State :=
  if s.wst x ≠ wHALTED then s
  else
    let s := wAny x (s.setCore x { s.core x with step := true })
    let s := s.setCore x { s.core x with step := false }
    if s.wst x = wRUN ∨ s.wst x = wWAIT then s.setWst x wHALTED else s

/-! ### Services: what every one of them shares (R397 to R401) -/

/-- Bytes 8 k to 8 k + 7 of a request (Table 12-5), and its fields. -/
def svcW (ws : List Nat) (i : Nat) : Nat := ws.getD i 0
def svcCode (ws : List Nat) : Nat := bits (svcW ws 0) 7 0
def svcFlags (ws : List Nat) : Nat := bits (svcW ws 0) 15 8
def svcYard (ws : List Nat) : Nat := bits (svcW ws 0) 23 16
def svcUnit (ws : List Nat) : Nat := bits (svcW ws 0) 31 24
def svcTag (ws : List Nat) : Nat := bits (svcW ws 0) 63 32
def svcCqid (ws : List Nat) : Nat := bits (svcW ws 1) 31 0
def svcPage (ws : List Nat) : Nat := bits (svcW ws 1) 47 32
def svcPages (ws : List Nat) : Nat := bits (svcW ws 1) 63 48
def svcProg (ws : List Nat) : Nat := bits (svcW ws 2) 15 0
def svcNpts (ws : List Nat) : Nat := bits (svcW ws 2) 31 16
def svcShots (ws : List Nat) : Nat := bits (svcW ws 2) 63 32
def svcSlot (ws : List Nat) : Nat := bits (svcW ws 5) 15 0
def svcRep (ws : List Nat) : Nat := bits (svcW ws 5) 63 32
def svcArg (ws : List Nat) (i : Nat) : Nat := bits (svcW ws (6 + i / 2)) (32 * (i % 2) + 31) (32 * (i % 2))

/-- Does a service hold its yard (Table 12-7)? -/
def svcHolds (ws : List Nat) : Bool := decide (1 ≤ svcCode ws) && decide (svcCode ws ≤ 6)

/-- Is a service code one of Table 12-7? -/
def svcKnown (c : Nat) : Bool := (decide (1 ≤ c) && decide (c ≤ 6)) || c == 0x10 || c == 0x11 || c == 0x12

/-- The completion entry of a service (Table 12-6), its core free for the next request. -/
def svcFinish (x : Nat) (ws : List Nat) (code outBytes shots : Nat) (summary : List Nat) (s : State) : State :=
  let c := s.core x
  let y := svcYard ws
  let held : Bool := svcHolds ws && c.svc.isSome
  let s := s.setCore x { c with svc := none }
  let s := s.when held fun s =>
    (s.wr WCH_HOLD (s.rd WCH_HOLD &&& ~~~(BitVec.ofNat 64 (2 ^ y)))).modGrp (s.groupOf y) fun g => { g with byService := none }
  let s := s.emitRec ⟨svcCqid ws % 2 ^ 18, 0x50 + x, 0,
    [code % 2 ^ 16 + svcCode ws * 2 ^ 16 + x * 2 ^ 24 + svcTag ws * 2 ^ 32, s.tb1, outBytes % 2 ^ 32 + shots % 2 ^ 32 * 2 ^ 32]
      ++ (List.range 5).map fun i => summary.getD i 0 % 2 ^ 64, [], true⟩
  s.inc (WCH_SVC_CNT x)

/-- A service in progress ends early with a code, or with the one that was set for it before (R281, R375, R394, R395, R399). -/
def svcEnd (x code : Nat) (s : State) : State :=
  match (s.core x).svc with
  | some v => svcFinish x v.words (if v.code = 0 then code else v.code) 0 0 [] s
  | none => s

/-- A group that a service holds was aborted, or left the service's sequence: the service ends at its next step with a code
(R399). -/
def svcDisturb (g code : Nat) (s : State) : State :=
  match (s.grp g).byService with
  | some x =>
    let c := s.core x
    s.setCore x { c with svc := c.svc.map fun v => if v.code = 0 then { v with code := code } else v }
  | none => s

/-! ### Control (Table 12-4, R394, R375) -/

/-- WCH_CTL.RUN from 0 to 1. -/
def wRunStart (x : Nat) (s : State) : State :=
  let user := s.flag (WCH_CTL x) WCH_CTL_MODE
  let shared : Bool := !user && (List.range 8).any fun z =>
    z != x && s.flag (WCH_CTL z) WCH_CTL_RUN && !s.flag (WCH_CTL z) WCH_CTL_MODE && s.rdN (WCH_RQID z) == s.rdN (WCH_RQID x)
  if s.wst x ≠ wIDLE ∨ (s.dev ≠ dREADY ∧ s.dev ≠ dRUN) ∨ shared then s.status (WCH_CSTS x) E_WCH_STATE
  else
    let s := (s.setF (WCH_CTL x) WCH_CTL_RUN 1).status (WCH_CSTS x) 0
    s.setWst x (if s.flag (WCH_CTL x) WCH_CTL_HALT then wHALTED else wRUN)

/-- WCH_CTL.RUN from 1 to 0: IDLE after the current instruction and the outstanding transfers; the core executes nothing more. -/
def wRunStop (x : Nat) (s : State) : State :=
  let s := s.setF (WCH_CTL x) WCH_CTL_RUN 0
  if s.wst x = wOFF ∨ s.wst x = wIDLE then s
  else
    let s := svcEnd x E_WCH_SVC_ABORTED s
    wStopped x (s.setCore x { s.core x with stopping := true })

/-- WCH_CTL.HALT to 1, and to 0. -/
def wHaltSet (x : Nat) (s : State) : State :=
  let s := s.setF (WCH_CTL x) WCH_CTL_HALT 1
  if s.wst x = wRUN ∨ s.wst x = wWAIT then s.setWst x wHALTED else s
def wHaltClear (x : Nat) (s : State) : State :=
  let s := s.setF (WCH_CTL x) WCH_CTL_HALT 0
  if s.wst x = wHALTED then s.setWst x wRUN else s

/-- WCH_CTL.MODE. -/
def wModeWrite (x m : Nat) (s : State) : State :=
  if s.wst x ≠ wIDLE then s.status (WCH_CSTS x) E_WCH_STATE
  else (s.setF (WCH_CTL x) WCH_CTL_MODE m).status (WCH_CSTS x) 0

/-- A write of WCH_CTL as a whole: MODE first, then RUN and HALT. -/
def wCtlWrite (x v : Nat) (s : State) : State :=
  let mode := s.fld (WCH_CTL x) WCH_CTL_MODE
  let run := s.fld (WCH_CTL x) WCH_CTL_RUN
  let halt := s.fld (WCH_CTL x) WCH_CTL_HALT
  if bits v 8 8 ≠ mode ∧ s.wst x ≠ wIDLE then s.status (WCH_CSTS x) E_WCH_STATE
  else
    let s := if bits v 8 8 ≠ mode then wModeWrite x (bits v 8 8) s else s
    let s := if bits v 1 1 = 1 ∧ halt = 0 then wHaltSet x s else if bits v 1 1 = 0 ∧ halt = 1 then wHaltClear x s else s
    if v % 2 = 1 ∧ run = 0 then wRunStart x s else if v % 2 = 0 ∧ run = 1 then wRunStop x s else s

/-- WCH_IPEND: host software sets DOORBELL. -/
def wDoorbell (x v : Nat) (s : State) : State := if v % 2 = 1 then wSetPend x WCH_IPEND_DOORBELL s else s

/-- WCH_IEN. -/
def wIenWrite (x v : Nat) (s : State) : State := wWake x (s.wrRW (WCH_IEN x) v)

/-- WCH_PC and WCH_IVEC. -/
def wPcWrite (x a v : Nat) (s : State) : State :=
  if s.wst x = wIDLE ∨ s.wst x = wHALTED then s.wrRW a v else s.inc (WCH_WDROP_CNT x)

/-- WCH_REG (R377). -/
def wRegWrite (x r v : Nat) (s : State) : State :=
  if ¬ s.wchOpen x then s.inc (WCH_WDROP_CNT x)
  else if r < 16 then s.setWD x r v
  else if r < 24 then s.wrN (WCH_REG x r) (if r % 2 = 0 then v % 2 ^ 64 else v % 2 ^ 40)
  else if r < 54 then s.setWSpr x (r - 24) v
  else s

/-- Every core that is not OFF stops: entry into CAL, CONFIG or SAFE (R375). -/
def wStopAll (s : State) : State :=
  forEach (List.range 8) s fun x s =>
    if s.wst x = wOFF then s
    else
      let s := svcEnd x E_WCH_SVC_ABORTED s
      ((s.setF (WCH_CTL x) WCH_CTL_RUN 0).setWst x wIDLE).setCore x { s.core x with stopping := false }

/-- An island-hang reset of the Winch island (R395). -/
def wHang (s : State) : State :=
  forEach (List.range 8) s fun x s =>
    if s.wst x = wOFF then s
    else if s.flag (WCH_CTL x) WCH_CTL_MODE then wFault x E_FLT_ISL_HANG s
    else svcEnd x E_FLT_ISL_HANG s

/-- A commit gives a core a new owner: local memory and registers are cleared (R394), and it is IDLE, or OFF without one. -/
def wNewOwner (x : Nat) (s : State) : State :=
  let m := s.wch.mem.filter fun p => p.1 / 524288 != x
  let s := { s with wch := { s.wch with mem := m } }
  let s := forEach (List.range 54) s fun r s => s.wrN (WCH_REG x r) 0
  let s := forEach [WCH_CTL x, WCH_PC x, WCH_IVEC x, WCH_IEN x, WCH_IPEND x, WCH_FAULT x, WCH_FAULT_PC x] s fun a s => s.wrN a 0
  (s.setCore x default).wrN (WCH_CSTS x) (if (s.wPart x).isSome then wIDLE else wOFF)

/-! ### The commands -/

/-- WCH_RUN_START. -/
def execWchRunStart (x : Nat) (s : State) : Host.Outcome State Fault Refusal := .next (hostWr (WCH_CTL x) (wRunStart x) s)
/-- WCH_RUN_STOP. -/
def execWchRunStop (x : Nat) (s : State) : Host.Outcome State Fault Refusal := .next (hostWr (WCH_CTL x) (wRunStop x) s)
/-- WCH_HALT_SET. -/
def execWchHaltSet (x : Nat) (s : State) : Host.Outcome State Fault Refusal := .next (hostWr (WCH_CTL x) (wHaltSet x) s)
/-- WCH_HALT_CLEAR. -/
def execWchHaltClear (x : Nat) (s : State) : Host.Outcome State Fault Refusal := .next (hostWr (WCH_CTL x) (wHaltClear x) s)
/-- WCH_MODE_WRITE. -/
def execWchModeWrite (x m : Nat) (s : State) : Host.Outcome State Fault Refusal := .next (hostWr (WCH_CTL x) (wModeWrite x m) s)
/-- WCH_DOORBELL. -/
def execWchDoorbell (x : Nat) (s : State) : Host.Outcome State Fault Refusal := .next (hostWr (WCH_IPEND x) (wDoorbell x 1) s)
/-- WCH_INTERRUPT_ENTRY. -/
def execWchInterruptEntry (x : Nat) (s : State) : Host.Outcome State Fault Refusal := .next (wInterrupt x s)
/-- WCH_NOP. -/
def execWchNop (x ecc : Nat) (s : State) : Host.Outcome State Fault Refusal := .next (wNop x ecc s)
/-- WCH_MOV. -/
def execWchMov (x : Nat) (s : State) : Host.Outcome State Fault Refusal := .next (wMov x s)
/-- WCH_MOVI. -/
def execWchMovi (x : Nat) (s : State) : Host.Outcome State Fault Refusal := .next (wMovi x s)
/-- WCH_MOVS. -/
def execWchMovs (x : Nat) (s : State) : Host.Outcome State Fault Refusal := .next (wMovs x s)
/-- WCH_ALU. -/
def execWchAlu (x : Nat) (s : State) : Host.Outcome State Fault Refusal := .next (wAluI x s)
/-- MAC. -/
def execMac (x : Nat) (s : State) : Host.Outcome State Fault Refusal := .next (wMacI x s)
/-- MACP. -/
def execMacp (x : Nat) (s : State) : Host.Outcome State Fault Refusal := .next (wMacp x s)
/-- ACCX. -/
def execAccx (x : Nat) (s : State) : Host.Outcome State Fault Refusal := .next (wAccxI x s)
/-- DIVS. -/
def execDivs (x : Nat) (s : State) : Host.Outcome State Fault Refusal := .next (wDivs x s)
/-- LD. -/
def execLd (x : Nat) (s : State) : Host.Outcome State Fault Refusal := .next (wLd x s)
/-- ST. -/
def execSt (x : Nat) (s : State) : Host.Outcome State Fault Refusal := .next (wSt x s)
/-- MTS. -/
def execMts (x : Nat) (s : State) : Host.Outcome State Fault Refusal := .next (wMts x s)
/-- MFS. -/
def execMfs (x : Nat) (s : State) : Host.Outcome State Fault Refusal := .next (wMfs x s)
/-- WCH_LOOP. -/
def execWchLoop (x : Nat) (s : State) : Host.Outcome State Fault Refusal := .next (wLoop x s)
/-- WCH_BR. -/
def execWchBr (x : Nat) (s : State) : Host.Outcome State Fault Refusal := .next (wBr x s)
/-- JL. -/
def execJl (x : Nat) (s : State) : Host.Outcome State Fault Refusal := .next (wJl x s)
/-- JR. -/
def execJr (x : Nat) (s : State) : Host.Outcome State Fault Refusal := .next (wJr x s)
/-- GETT. -/
def execGett (x : Nat) (s : State) : Host.Outcome State Fault Refusal := .next (wGett x s)
/-- EMIT. -/
def execEmit (x : Nat) (s : State) : Host.Outcome State Fault Refusal := .next (wEmit x s)
/-- XFER. -/
def execXfer (x : Nat) (s : State) : Host.Outcome State Fault Refusal := .next (wXfer x s)
/-- XFER_COMPLETE. -/
def execXferComplete (x i : Nat) (s : State) : Host.Outcome State Fault Refusal := .next (xferComplete x i s)
/-- WCH_FENCE. -/
def execWchFence (x : Nat) (s : State) : Host.Outcome State Fault Refusal := .next (wFence x s)
/-- WAITI. -/
def execWaiti (x : Nat) (s : State) : Host.Outcome State Fault Refusal := .next (wWaiti x s)
/-- RETI. -/
def execReti (x : Nat) (s : State) : Host.Outcome State Fault Refusal := .next (wReti x s)
/-- HALT. -/
def execHalt (x : Nat) (s : State) : Host.Outcome State Fault Refusal := .next (wHalt x s)

end Sys2Proof.Machine
end

