-- ==== Sys2Proof/Machine/Service.lean ====
section
/-! DEFINITION. The services of the Winch cores (chapter 12, R397 to R401): taking and checking a request, holding a yard, and
completing. -/

namespace Sys2Proof.Machine

/-! ### Which fields a service uses (Tables 12-5 and 12-7) -/

def usesSweep (c : Nat) : Bool := c == 1 || c == 2 || c == 3 || c == 4 || c == 6 || c == 0x11
def usesSlot (c : Nat) : Bool := decide (2 ≤ c) && decide (c ≤ 6)
def usesNpts (ws : List Nat) : Bool := svcHolds ws || svcCode ws == 0x11

/-- The used bits of ARG0 to ARG3. -/
def argMask (c i : Nat) : Nat :=
  match i with
  | 0 => if c = 5 then 0x3F0701 else if c = 6 then 0x7 else if c ≤ 4 then 0xFFFF3F07 else if c = 0x12 then 0x0FFF007F else 0
  | 1 => if c ≤ 4 then 0xFFFF else if c = 6 then 0xFFFFFF else 0
  | 2 => if c = 3 then 0xFFFF_FFFF else if c = 6 then 0x7 else 0
  | _ => 0

/-- The used bits of FLAGS. -/
def flagMask (c : Nat) : Nat := if c = 5 then 3 else if c < 5 ∨ c = 6 then 1 else 0

/-- A nonzero unused field, argument or reserved bit. -/
def svcUnused (ws : List Nat) : Bool :=
  let c := svcCode ws
  let n := svcHolds ws
  let set (used : Bool) (v : Nat) : Bool := !used && v != 0
  (svcFlags ws &&& flagMask c) != svcFlags ws
    || set (c != 0x12) (svcYard ws) || set (c != 0x12) (svcUnit ws)
    || decide (2 ^ 18 ≤ svcCqid ws)
    || set (c != 0x12) (svcPage ws) || set (c != 0x12) (svcPages ws)
    || set n (svcProg ws) || set (usesNpts ws) (svcNpts ws) || set (c != 0x12) (svcShots ws)
    || set (usesSweep c) (svcW ws 3) || set (usesSweep c) (svcW ws 4)
    || set (usesSlot c) (svcSlot ws) || bits (svcW ws 5) 31 16 != 0 || set n (svcRep ws)
    || (List.range 4).any fun i => (svcArg ws i &&& argMask c i) != svcArg ws i

/-- Bytes of the output block: 16 a point; KTRAIN has a second array in three-state mode; HIST has 4 a bin; STATS six counts of
32 bits for each channel of the mask. -/
def svcOutBytes (ws : List Nat) : Nat :=
  match svcCode ws with
  | 5 => 16 * svcNpts ws * (1 + svcArg ws 0 % 2)
  | 0x10 => 24 * ((List.range 8).filter fun i => bit (svcUnit ws) i).length
  | 0x11 => 4 * svcNpts ws
  | 0x12 => 0
  | _ => 16 * svcNpts ws

/-- The instances that a request needs and its core does not own under R374: class and instance of the first. -/
def State.svcForeign (s : State) (x : Nat) (ws : List Nat) : Option (Nat × Nat) :=
  match s.wPart x with
  | none => some (6, svcCqid ws)
  | some p =>
    let pages := (List.range (svcPages ws)).map (svcPage ws + ·)
    if svcCode ws ≠ 0x12 ∧ ¬ ((s.comp (svcYard ws)).present ∧ s.partOf (svcYard ws) = p) then some (0x03, svcYard ws)
    else if ¬ s.partHas p 6 (svcCqid ws) then some (6, svcCqid ws)
    else (pages.find? fun g => !s.partHas p 7 g).map fun g => (7, g)

/-- A used value out of its range. -/
def svcRange (ws : List Nat) : Bool :=
  let c := svcCode ws
  (usesNpts ws && decide ((if c = 5 then 512 else 1024) < svcNpts ws)) || decide (1048576 < svcShots ws)
    || (svcHolds ws && (decide (svcRep ws < 1024) || decide (0xFF_FFFF < svcRep ws) || decide (32768 < svcProg ws + 256)
      || decide ((if c = 6 then 3 else 7) < svcUnit ws)))
    || (c == 0x11 && decide (7 < svcUnit ws))
    || decide (63 < svcSlot ws) || decide (8192 < svcPages ws)
    || (c == 6 && (svcArg ws 2 == 0 || decide (4 < svcArg ws 2)))

/-- The check of a request, in the order of R397. -/
def State.svcCheck (s : State) (x : Nat) (ws : List Nat) : Nat :=
  let y := svcYard ws
  if ¬ svcKnown (svcCode ws) then E_WCH_SVC
  else if svcUnused ws then E_WCH_RSVD_ENC
  else if (s.svcForeign x ws).isSome then E_IMG_RES_BUSY
  else if (usesNpts ws ∧ svcNpts ws = 0) ∨ (svcCode ws ≠ 0x12 ∧ svcShots ws = 0) ∨ (svcHolds ws ∧ svcRep ws = 0) then E_WCH_ZERO_LEN
  else if svcRange ws then E_WCH_RANGE
  else if svcPages ws ≠ 0 ∧ svcPages ws * 4096 < svcOutBytes ws then E_WCH_LEN_EXCEEDS
  else if svcHolds ws ∧ bit (s.rdN WCH_HOLD) y then E_WCH_YARD_HELD
  else if svcHolds ws ∧ (¬ s.yIdle y ∨ s.members (s.groupOf y) ≠ [y]) then E_WCH_GRP_BUSY
  else 0

/-- May core `x` take a request: SERVICE mode, RUN, no service in progress, a clock (R375, R396), and an entry waits. -/
def State.svcReady (s : State) (x : Nat) : Bool :=
  let q := s.que (s.rdN (WCH_RQID x))
  decide (x < 8) && s.wst x == wRUN && !s.flag (WCH_CTL x) WCH_CTL_MODE && !(s.core x).stopping && (s.core x).svc.isNone
    && s.fld WCH_STS WCH_STS_CLK != 2 && (s.dev == dREADY || s.dev == dRUN)
    && (q.st == qACTIVE || q.st == qDRAINING) && q.kind == kREQUEST && q.cons != q.prod

/-- The next request of a core's queue: its words, `ws` where the ring lies in the host. -/
def State.svcWords (s : State) (x : Nat) (ws : List Nat) : List Nat :=
  let q := s.que (s.rdN (WCH_RQID x))
  if q.loc then (List.range 8).map fun i => ldBytes s.cnv.res (q.base + 64 * (q.cons % q.entries) + 8 * i) 8
  else (List.range 8).map fun i => ws.getD i 0 % 2 ^ 64

/-- A holding service begins (R398): the hold, and instructions PROG_BASE to PROG_BASE + 255, whose words the manual does not
give. -/
def svcHold (x : Nat) (ws : List Nat) (s : State) : State :=
  let y := svcYard ws
  let s := s.wr WCH_HOLD (s.rd WCH_HOLD ||| BitVec.ofNat 64 (2 ^ y))
  let s := s.modGrp (s.groupOf y) fun g => { g with byService := some x }
  let prog := (List.range 2048).map (Config.freeByte s.bus.free)
  ({ s with seq := { s.seq with store := stList s.seq.store (262144 * y + 8 * svcProg ws) prog } }).nextFree

/-- A core takes the next request when it is one of `row`, and begins its service or completes it at the first failed check. -/
def svcTake (x : Nat) (row : Nat → Bool) (ws : List Nat) (s : State) : State :=
  let ws := s.svcWords x ws
  let qi := s.rdN (WCH_RQID x)
  let q := s.que qi
  if ¬ s.svcReady x ∨ ¬ row (svcCode ws) then s
  else
    let code := s.svcCheck x ws
    let c := q.next q.cons 1
    let s1 := writeBack qi c (s.setQue qi { q with fetch := c, cons := c })
    if code ≠ 0 then
      let bad := (s.svcForeign x ws).getD (0, 0)
      svcFinish x ws code 0 0 [] (s1.denyIf code bad.1 bad.2 3 ((s.wPart x).getD 0))
    else if svcCode ws = 0x12 then
      let inp := svcArg ws 0 % 128
      let r := injRequest (inp / 8) ⟨1, (s.wPart x).getD 0, bits (svcArg ws 0) 27 16, inp, none⟩ s1
      if r.2 ≠ 0 then svcFinish x ws r.2 0 0 [] r.1
      else r.1.setCore x { r.1.core x with svc := some ⟨ws, 0, []⟩ }
    else
      let s2 := s1.setCore x { s1.core x with svc := some ⟨ws, 0, []⟩ }
      s2.when (svcHolds ws) (svcHold x ws)

/-! ### Completion (R399, R400) -/

/-- The registers that the APPLY column of Table 12-7 names. -/
def State.svcApplies (s : State) (ws : List Nat) (a : Nat) : Bool :=
  let y := svcYard ws
  let u := svcUnit ws
  let three := List.range 3
  match svcCode ws with
  | 1 => a == TON_FREQ0 y (8 + u) || a == DEM_FREQ y u
  | 2 => a == HAL_PRM y (svcSlot ws) 2
  | 3 => a == TON_FREQ0 y u
  | 4 => a == HAL_PRM y (svcSlot ws) 3
  | 5 =>
    let bank := 1 - s.actF (DEM_KSEL y u) (0, 1) % 2
    (decide (DEM_KW y u bank 0 ≤ a) && decide (a ≤ DEM_KW y u bank 511)) || a == DEM_KLEN y u || (bit (svcFlags ws) 1 && a == DEM_KSEL y u)
      || a == DSC_QTHR y u || three.any (fun i => a == DSC_A y u i || a == DSC_B y u i || a == DSC_C y u i)
      || (decide (DSC_CPF y u 1 ≤ a) && decide (a ≤ DSC_CPF y u 32))
  | 6 => a == FLX_CFG y u || (List.range 4).any (fun i => a == FLX_IIR_K y u i || a == FLX_IIR_L y u i)
  | _ => false

/-- What APPLY writes (Table 12-7): for the first four services what SUMMARY gives, its fields taken in the order of the table from the low
bits of its first word (DEDUCED); else `writes`. -/
def State.svcWrites (s : State) (ws summary : List Nat) (writes : List (Nat × Nat × Bool)) : List (Nat × Nat × Bool) :=
  let y := svcYard ws
  let u := svcUnit ws
  let v := summary.getD 0 0
  match svcCode ws with
  | 1 => [(TON_FREQ0 y (8 + u), v % 2 ^ 40, true), (DEM_FREQ y u, v % 2 ^ 40, true)]
  | 2 => [(HAL_PRM y (svcSlot ws) 2,
      unsgn 24 (sat 24 ((sgn 24 (s.rdN (HAL_PRM y (svcSlot ws) 2) % 2 ^ 24) * sgn 16 (v % 2 ^ 16)) >>> 15)), false)]
  | 3 => [(TON_FREQ0 y u, (s.rdN (TON_FREQ0 y u) + v) % 2 ^ 40, true)]
  | 4 => [(HAL_PRM y (svcSlot ws) 3, v % 2 ^ 16, false)]
  | _ => writes

/-- An APPLY write sets out as an EMIT item of the core (R400). -/
def svcEmit (x rel : Nat) (w : Nat × Nat × Bool) (s : State) : State :=
  if ¬ s.tb1Run then s else s.send ⟨rel, islWinch, (w.1 - 0x1000000) / 0x40000, .ctrl, .emit w.1 (BitVec.ofNat 64 w.2.1) w.2.2 x⟩

/-- APPLY: the writes of the fit, then SEAL for the classes written that use it, then the hand-over 1,250 ft after the last
write. With TB1 stopped no item has a release, and none is sent (R389). -/
def svcApply (x : Nat) (ws : List Nat) (writes : List (Nat × Nat × Bool)) (s : State) : State :=
  let y := svcYard ws
  let ok := writes.filter fun w => s.svcApplies ws w.1
  let r0 := s.tb1 + 40 * ft
  let s := forEach ok.zipIdx s fun (w, i) s => svcEmit x (r0 + i * ft) w s
  let cls := (List.range 4).filter fun c => ok.any fun w => isShd w.1 && shdClass ((w.1 - 0x1000000) % 0x40000) == c
  let mask := cls.foldl (fun m c => m + 2 ^ c) 0
  let sealed := cls.filter (s.sealEn y)
  let r1 := r0 + ok.length * ft
  let s := s.when (sealed != []) (svcEmit x r1 (TON_SHD_CTL y, s.rdN (TON_SHD_CTL y) ||| sealed.foldl (fun m c => m + 2 ^ c) 0, false))
  let last := if sealed = [] then r1 - ft else r1
  if mask = 0 ∨ ¬ s.tb1Run then s
  else
    let s := svcEmit x (r1 + ft) (TON_HO_REL y, last + 1250 * ft, true) s
    svcEmit x (r1 + 2 * ft) (TON_HO_CMD y, mask, false) s

/-- SVC_COMPLETE: the service of core `x` has done its points: `conv` tells whether its fit converged, `shots` how many shots
stood, `out` is its output block, `summary` its SUMMARY and `writes` what APPLY would write. A held group is IDLE by then; STATS and HIST have
seen SHOTS shots, or the group's run has ended (R401); MONINJ has its settled word, which is its SUMMARY (R272). -/
def svcComplete (x : Nat) (conv : Bool) (shots : Nat) (out : List (BitVec 8)) (summary : List Nat)
    (writes : List (Nat × Nat × Bool)) (s : State) : State :=
  match (s.core x).svc with
  | none => s
  | some v =>
    let ws := v.words
    let mon : Bool := svcCode ws == 0x12
    let looks : Bool := svcCode ws == 0x10 || svcCode ws == 0x11
    if s.fld WCH_STS WCH_STS_CLK = 2 ∨ s.wst x ≠ wRUN ∨ (svcHolds ws ∧ ¬ s.yIdle (svcYard ws)) then s
    else if v.code = 0 ∧ ((mon ∧ v.res = []) ∨ (looks ∧ shots < svcShots ws ∧ ¬ s.yIdle (svcYard ws))) then s
    else if v.code ≠ 0 then svcFinish x ws v.code 0 shots [] s
    else if mon then svcFinish x ws 0 0 0 v.res s
    else
      let bs := if svcPages ws = 0 then [] else out.take (svcOutBytes ws)
      let s := { s with cnv := { s.cnv with res := stList s.cnv.res (4096 * svcPage ws) bs } }
      let s := s.when (conv && bit (svcFlags ws) 0) (svcApply x ws (s.svcWrites ws summary writes))
      svcFinish x ws (if conv then 0 else E_WCH_FIT) bs.length shots summary s

/-! ### The commands: core, and the words of the request where its ring lies in the host -/

/-- SVC_RES_SPEC; also a request whose service is reserved (R397). -/
def execSvcResSpec (x : Nat) (ws : List Nat) (s : State) : Host.Outcome State Fault Refusal :=
  .next (svcTake x (fun c => c == 1 || !svcKnown c) ws s)
/-- SVC_RABI. -/
def execSvcRabi (x : Nat) (ws : List Nat) (s : State) : Host.Outcome State Fault Refusal := .next (svcTake x (· == 2) ws s)
/-- SVC_RAMSEY. -/
def execSvcRamsey (x : Nat) (ws : List Nat) (s : State) : Host.Outcome State Fault Refusal := .next (svcTake x (· == 3) ws s)
/-- SVC_DRAG. -/
def execSvcDrag (x : Nat) (ws : List Nat) (s : State) : Host.Outcome State Fault Refusal := .next (svcTake x (· == 4) ws s)
/-- SVC_KTRAIN. -/
def execSvcKtrain (x : Nat) (ws : List Nat) (s : State) : Host.Outcome State Fault Refusal := .next (svcTake x (· == 5) ws s)
/-- SVC_FLUXID. -/
def execSvcFluxid (x : Nat) (ws : List Nat) (s : State) : Host.Outcome State Fault Refusal := .next (svcTake x (· == 6) ws s)
/-- SVC_STATS. -/
def execSvcStats (x : Nat) (ws : List Nat) (s : State) : Host.Outcome State Fault Refusal := .next (svcTake x (· == 0x10) ws s)
/-- SVC_HIST. -/
def execSvcHist (x : Nat) (ws : List Nat) (s : State) : Host.Outcome State Fault Refusal := .next (svcTake x (· == 0x11) ws s)
/-- SVC_MONINJ. -/
def execSvcMoninj (x : Nat) (ws : List Nat) (s : State) : Host.Outcome State Fault Refusal := .next (svcTake x (· == 0x12) ws s)
/-- SVC_COMPLETE. -/
def execSvcComplete (x : Nat) (conv : Bool) (shots : Nat) (out : List (BitVec 8)) (summary : List Nat)
    (writes : List (Nat × Nat × Bool)) (s : State) : Host.Outcome State Fault Refusal :=
  .next (svcComplete x conv shots out summary writes s)

end Sys2Proof.Machine
end

