-- ==== Sys2Proof/Machine/Capture.lean ====
section
/-! DEFINITION. Crow's Nest and Furler (chapter 13, R402 to R432). -/

namespace Sys2Proof.Machine

/-! ### Capture channels -/

/-- A channel's own state. -/
def State.cns (s : State) (c : Nat) : Cns := tget s.cap.chans c

/-- Changing it. -/
def State.setCns (s : State) (c : Nat) (x : Cns) : State := { s with cap := { s.cap with chans := tput s.cap.chans c x } }

/-- Channel states (Table 13-3). -/
def capOFF : Nat := 0
def capIDLE : Nat := 1
def capFILLING : Nat := 2
def capTRIGGERED : Nat := 3
def capHOLDOFF : Nat := 4
def capDONE : Nat := 5
def capSTREAMING : Nat := 6

/-- CSTATE of a channel. -/
def State.cnsSt (s : State) (c : Nat) : Nat := s.fld (CNS_STS c) CNS_STS_CSTATE
def State.setCnsSt (s : State) (c v : Nat) : State := s.setF (CNS_STS c) CNS_STS_CSTATE v

/-- Sample period in st, half bytes of a sample, rate in units of 0.5 GB/s, and number of indices of a tap (Table 13-1). -/
def tapPeriod (k : Nat) : Nat := match k with | 1 => 2 | 2 | 3 => 16 | 4 | 5 => 1 | _ => 8
def tapNibbles (k : Nat) : Nat := match k with | 1 => 3 | 2 | 3 => 12 | _ => 4
def tapRate (k : Nat) : Nat := match k with | 1 => 30 | 2 | 3 => 15 | 4 | 5 => 80 | _ => 10
def tapCount (k : Nat) : Nat := match k with | 1 | 5 => 32 | 2 => 512 | 3 => 1024 | 4 => 64 | _ => 256

/-- The fields of a channel's setting that its records follow. -/
def State.cKind (s : State) (c : Nat) : Nat := s.fld (CNS_TAP c) CNS_TAP_KIND
def State.cIndex (s : State) (c : Nat) : Nat := s.fld (CNS_TAP c) CNS_TAP_INDEX
def State.cMode (s : State) (c : Nat) : Nat := s.fld (CNS_CTL c) CNS_CTL_MODE
def State.cMinmax (s : State) (c : Nat) : Bool := s.fld (CNS_CTL c) CNS_CTL_DECM == 1
def State.cD (s : State) (c : Nat) : Nat := s.fld (CNS_CTL c) CNS_CTL_D
def State.cPre (s : State) (c : Nat) : Nat := s.fld (CNS_PRE c) CNS_PRE_COUNT
def State.cPost (s : State) (c : Nat) : Nat := s.fld (CNS_POST c) CNS_POST_COUNT
def State.cPage (s : State) (c : Nat) : Nat := s.fld (CNS_REGION c) CNS_REGION_PAGE
def State.cPages (s : State) (c : Nat) : Nat := s.fld (CNS_PAGES c) CNS_PAGES_PAGES
def State.cNrec (s : State) (c : Nat) : Nat := if s.cMode c = 1 then s.fld (CNS_NREC c) CNS_NREC_NREC else 1

/-- Half bytes of an output element, and its time in st (R405). -/
def State.cNib (s : State) (c : Nat) : Nat := tapNibbles (s.cKind c) * (1 + b01 (s.cMinmax c))
def State.cStep (s : State) (c : Nat) : Nat := tapPeriod (s.cKind c) * 2 ^ s.cD c

/-- Bytes of the slot of a record (R413). -/
def State.cSlot (s : State) (c : Nat) : Nat := (64 + (s.cPre c + s.cPost c) * s.cNib c / 2 + 63) / 64 * 64

/-- The output rate of a channel in units of 0.5 GB/s / 4096 (R406). -/
def State.cRate (s : State) (c : Nat) : Nat := tapRate (s.cKind c) * (1 + b01 (s.cMinmax c)) * 4096 / 2 ^ s.cD c

/-- The yards that hold a tap (R403). -/
def tapYards (kind i : Nat) : List Nat :=
  match kind with
  | 1 | 5 => [2 * i, 2 * i + 1]
  | 2 => [i / 8]
  | 3 => [i / 16]
  | 4 => [i]
  | _ => [i / 4]

/-- The partition that a channel is allotted to. -/
def State.cnsPart (s : State) (c : Nat) : Option Nat := s.allotOf 0x0D c

/-- Is the tap of a channel one of its partition (R402, R403)? -/
def State.cTapOk (s : State) (c p : Nat) : Bool :=
  (tapYards (s.cKind c) (s.cIndex c)).any fun y => (s.comp y).present && s.partOf y == p

/-- The checks of an ARM, on a state that holds the written CNS_CTL, in the order of R413. -/
def State.armCheck (s : State) (c : Nat) : Nat :=
  let src := s.fld (CNS_TRIG c) CNS_TRIG_SRC
  let tsel := s.fld (CNS_TRIG c) CNS_TRIG_TSEL
  let k := s.cKind c
  let pages := (List.range (s.cPages c)).map (s.cPage c + ·)
  let others := (List.range 16).filter fun d => d != c && s.cnsSt d != capIDLE && s.cnsSt d != capOFF
  if s.flag CNS_GSTS CNS_GSTS_SHED then E_CNS_SHED
  else if s.cnsSt c = capOFF then E_IMG_RES_BUSY
  else if s.cMode c = 3 ∨ 1 < s.fld (CNS_CTL c) CNS_CTL_DECM ∨ k = 0 ∨ 6 < k ∨ 4 < src ∨ s.fld (CNS_TRIG c) CNS_TRIG_SLOPE = 3
    then E_CNS_RSVD_ENC
  else if s.cPost c = 0 ∨ s.cPages c = 0 ∨ s.cNrec c = 0 then E_CNS_ZERO_LEN
  else if k = 1 ∧ ¬ s.cMinmax c ∧ (s.cPre c + s.cPost c) % 2 = 1 then E_CNS_ALIGN
  else if 12 < s.cD c ∨ (s.cMinmax c ∧ s.cD c = 0) ∨ tapCount k ≤ s.cIndex c then E_CNS_RANGE
  else if 8192 < s.cPage c + s.cPages c ∨ (s.cMode c ≠ 2 ∧ s.cPages c * 4096 < s.cSlot c * s.cNrec c) then E_CNS_LEN_EXCEEDS
  else match s.cnsPart c with
    | none => E_IMG_RES_BUSY
    | some p =>
      if ¬ s.cTapOk c p ∨ ¬ pages.all (s.partHas p 7) then E_IMG_RES_BUSY
      else if src = 2 ∧ (15 < tsel ∨ s.fld (CNS_TRIG tsel) CNS_TRIG_SRC = 2 ∨ s.cnsPart tsel ≠ some p) then E_CNS_TRIG_SRC
      else if 960 * 4096 < (others.map s.cRate).foldl (· + ·) (s.cRate c) then E_CNS_BW
      else 0

/-- The first output at or after a time starts at the block boundary there (R405). -/
def ceilTo (n t : Nat) : Nat := if n = 0 then t else (t + n - 1) / n * n

/-- The channel begins to fill the slot of its next record, whose MAGIC it sets to 0 (R414, R416). -/
def cnsFill (c t : Nat) (s : State) : State :=
  let x := s.cns c
  let a := 4096 * s.cPage c + s.cSlot c * (x.recs % s.cNrec c)
  let s := { s with cnv := { s.cnv with res := stBytes s.cnv.res a 4 0 } }
  (s.setCns c { x with start := ceilTo (s.cStep c) t, trig := none }).setCnsSt c capFILLING

/-- The resource that an arm lacks (R69): the channel, a page of its region, or the yard of its tap. -/
def State.armLacks (s : State) (c : Nat) : Nat × Nat :=
  match s.cnsPart c with
  | none => (0x0D, c)
  | some p =>
    if ¬ s.cTapOk c p then (0x03, (tapYards (s.cKind c) (s.cIndex c)).headD 0)
    else match ((List.range (s.cPages c)).map (s.cPage c + ·)).find? fun g => !s.partHas p 7 g with
      | some g => (7, g)
      | none => (0x0D, c)

/-- CNS_CTL.ARM from 0 to 1 (R413). A refused arm leaves CNS_CTL as it was. -/
def cnsArm (c v : Nat) (s : State) : State :=
  let t := s.wrRW (CNS_CTL c) v
  let code := t.armCheck c
  if code ≠ 0 then
    (s.denyIf code (t.armLacks c).1 (t.armLacks c).2 3 ((s.cnsPart c).getD 0)).status (CNS_STS c) code
  else
    let t := (t.status (CNS_STS c) 0).setCns c { (default : Cns) with start := ceilTo (t.cStep c) t.tb1 }
    let t := ((t.wrN (CNS_REC_CNT c) 0).wrN (CNS_WP c) 0).wrN (CNS_RP c) 0
    if t.cMode c = 2 then t.setCnsSt c capSTREAMING else cnsFill c t.tb1 t

/-- ARM is cleared: a channel in TRIGGERED closes its record at the next output, any other armed one is IDLE (R419, R420). `why`:
1 for ABORTED, 2 for SHED. -/
def cnsClose (c why : Nat) (s : State) : State :=
  let s := s.setF (CNS_CTL c) CNS_CTL_ARM 0
  if s.cnsSt c = capOFF ∨ s.cnsSt c = capIDLE then s
  else if s.cnsSt c = capTRIGGERED then s.setCns c { s.cns c with closing := why, closeAt := s.tb1 }
  else s.setCnsSt c capIDLE

/-- A write of CNS_CTL (R418). -/
def cnsCtlWrite (c v : Nat) (s : State) : State :=
  let old := s.rdN (CNS_CTL c)
  if s.flag (CNS_CTL c) CNS_CTL_ARM then
    if v &&& (rwMask (CNS_CTL c)).toNat = old - 2 ^ 31 then (cnsClose c 1 s).status (CNS_STS c) 0
    else (s.status (CNS_STS c) E_CNS_RUNNING).inc (CNS_WDROP_CNT c)
  else if bit v 31 then cnsArm c v s
  else s.wrRW (CNS_CTL c) v

/-- A write of a channel's configuration (R418). -/
def cnsCfgWrite (c a v : Nat) (s : State) : State :=
  if s.flag (CNS_CTL c) CNS_CTL_ARM then (s.status (CNS_STS c) E_CNS_RUNNING).inc (CNS_WDROP_CNT c) else s.wrRW a v

/-- Entry into SAFE, and Reef shedding Crow's Nest: every open record closes (R420). -/
def cnsCloseAll (why : Nat) (s : State) : State := forEach (List.range 16) s fun c s => cnsClose c why s

/-- The channels whose tap a yard holds close their records (R420). -/
def cnsCloseYard (y : Nat) (s : State) : State :=
  forEach (List.range 16) s fun c s => s.when ((tapYards (s.cKind c) (s.cIndex c)).contains y) (cnsClose c 1)

/-! ### Triggers (R408 to R412) -/

/-- LEVEL over a run of samples: readiness after it and the samples that trigger. Each sample is first tested for a trigger, which ends
readiness, and then for readiness (R408). -/
def levelScan (slope : Nat) (level hyst : Int) : Bool → Nat → List Int → Bool × List Nat
  | r, _, [] => (r, [])
  | r, i, v :: t =>
    let up : Bool := slope == 0 || slope == 2
    let down : Bool := slope == 1 || slope == 2
    let hit : Bool := r && ((up && decide (level ≤ v)) || (down && decide (v ≤ level)))
    let now_ := (r && !hit) || (up && decide (v < level - hyst)) || (down && decide (level + hyst < v))
    let z := levelScan slope level hyst now_ (i + 1) t
    (z.1, if hit then i :: z.2 else z.2)

/-- Outputs complete at a time since the channel's first one. -/
def State.cDone (s : State) (c t : Nat) : Nat := if s.cStep c = 0 then 0 else (t - (s.cns c).start) / s.cStep c

/-- The index, since the channel's first output, of the output that holds a sample. -/
def State.cOut (s : State) (c t : Nat) : Nat := if s.cStep c = 0 then 0 else (t - (s.cns c).start) / s.cStep c

/-- An event of a source (2 CHAN, 3 TRIG, 4 TIMER) at an instant is on its way to an armed channel that uses it (Table 13-2). -/
def cnsEvent (c src inst : Nat) (s : State) : State :=
  if s.fld (CNS_TRIG c) CNS_TRIG_SRC = src ∧ s.cnsSt c ≠ capOFF ∧ s.cnsSt c ≠ capIDLE then
    s.setCns c { s.cns c with evs := (s.cns c).evs ++ [(src, inst)] }
  else s

/-- The trigger that a channel accepted goes to the channels that trigger from it (R409, R412). -/
def cnsFollow (c inst : Nat) (s : State) : State :=
  forEach ((List.range 16).filter fun d => s.fld (CNS_TRIG d) CNS_TRIG_TSEL == c) s fun d s => cnsEvent d 2 inst s

/-- An edge of a TRIG input (SLOPE 0 rising, 1 falling), or an event of a hub timer, goes to the channels that use it. -/
def cnsEdge (i : Nat) (falling : Bool) (inst : Nat) (s : State) : State :=
  forEach ((List.range 16).filter fun c => s.fld (CNS_TRIG c) CNS_TRIG_TSEL == i
    && s.fld (CNS_TRIG c) CNS_TRIG_SLOPE == b01 falling) s fun c s => cnsEvent c 3 inst s
def cnsTimer (t inst : Nat) (s : State) : State :=
  forEach ((List.range 16).filter fun c => s.fld (CNS_TRIG c) CNS_TRIG_TSEL == t) s fun c s => cnsEvent c 4 inst s

/-- A trigger with its source, instant and sample reaches the channel (R410, R411). -/
def cnsTrig (c src inst t : Nat) (s : State) : State :=
  let x := s.cns c
  let seen := s.cDone c s.tb1
  let held : Bool := decide (seen ≤ s.cOut c t + s.cPre c + s.cPost c) && decide (x.start ≤ t)
  let ignore := s.inc (CNS_TRIG_IGN_CNT c)
  let forced := src == 7
  if s.cnsSt c = capHOLDOFF then ignore
  else if s.cnsSt c = capFILLING then
    if held then cnsFollow c inst ((s.setCns c { x with trig := some ⟨src, inst, t, forced, seen⟩ }).setCnsSt c capTRIGGERED)
    else ignore
  else if s.cnsSt c = capTRIGGERED then
    match x.trig with
    | some g =>
      if inst < g.inst ∧ held then cnsFollow c inst (ignore.setCns c { x with trig := some ⟨src, inst, t, forced, seen⟩ })
      else if inst = g.inst ∧ forced then ignore.setCns c { x with trig := some { g with forced := true } }
      else ignore
    | none => s
  else s

/-- CNS_TRIGGER: for LEVEL (source 1) `xs` are the samples of the compared component from reference instant `inst` on; for CHAN,
TRIG and TIMER (2, 3, 4) `inst` is the instant of an event on its way to the channel, which it reaches at most 64 ft later; a FORCE
(7) has the instant at which its write takes effect. -/
def cnsTrigger (c src inst : Nat) (xs : List Int) (s : State) : State :=
  let p := tapPeriod (s.cKind c)
  let x := s.cns c
  if src = 1 then
    if s.fld (CNS_TRIG c) CNS_TRIG_SRC = 1 ∧ s.cnsSt c ≠ capOFF ∧ s.cnsSt c ≠ capIDLE then
      let r := levelScan (s.fld (CNS_TRIG c) CNS_TRIG_SLOPE) (sgn 16 (s.fld (CNS_LVL c) CNS_LVL_LEVEL)) (s.fld (CNS_LVL c) CNS_LVL_HYST)
        x.ready 0 xs
      forEach r.2 (s.setCns c { x with ready := r.1 }) fun i s => cnsTrig c 1 (ceilTo p inst + i * p) (ceilTo p inst + i * p) s
    else s
  else if src = 7 then (if inst = s.tb1 then cnsTrig c 7 inst (ceilTo p inst) s else s)
  else if x.evs.contains (src, inst) then
    let s := s.setCns c { x with evs := x.evs.erase (src, inst) }
    if inst + 64 * ft < s.tb1 then s else cnsTrig c src inst (ceilTo p inst) s
  else s

/-- CNS_FORCE (R409): its instant is the TB1 value at which the write takes effect. -/
def cnsForce (c v : Nat) (s : State) : State := if v % 2 = 1 then cnsTrigger c 7 s.tb1 [] s else s

/-! ### Records (R413 to R417) -/

/-- Half bytes of an element, low first, and bytes from half bytes. -/
def nibbles (n v : Nat) : List Nat := (List.range n).map fun i => v / 16 ^ i % 16
def nibBytes : List Nat → List (BitVec 8)
  | a :: b :: t => BitVec.ofNat 8 (a + 16 * b) :: nibBytes t
  | [a] => [BitVec.ofNat 8 a]
  | [] => []

/-- Elements placed in a ring of `size` elements from position `wrap` on. -/
def ringNibs (w size wrap : Nat) (xs : List Nat) (old : List Nat) : List Nat :=
  (List.range (size * w)).map fun i =>
    let k := (i / w + size - wrap % size) % size
    match xs[k]? with
    | some v => v / 16 ^ (i % w) % 16
    | none => old.getD i 0

/-- CNS_RECORD_END: `xs` are the record's elements in time order (MINMAX: minimum in the low half), `drops` the output indices of
the record that the store could not accept, whose elements are undefined, and `uns` an UNSETTLED mark on a sample. -/
def cnsRecordEnd (c : Nat) (xs : List Nat) (drops : List Nat) (uns : Bool) (s : State) : State :=
  let x := s.cns c
  match x.trig with
  | none => s
  | some g =>
    let n := s.cStep c
    let o := s.cOut c g.t
    let size := s.cPre c + s.cPost c
    let last := if x.closing = 0 then o + s.cPost c else min (o + s.cPost c) (s.cDone c x.closeAt + 1)
    let post := if last ≤ o then 1 else last - o
    let endT := x.start + (o + post) * n - tapPeriod (s.cKind c)
    if s.cnsSt c ≠ capTRIGGERED ∨ ¬ (s.reached endT ∨ (x.closing ≠ 0 ∧ ¬ s.tb1Run)) then s
    else
      let late := g.seen - o
      let pre := min (min (s.cPre c) o) (size - max post late)
      let wrap := (o - pre) % size
      let a := 4096 * s.cPage c + s.cSlot c * (x.recs % s.cNrec c)
      let nd := (size * s.cNib c + 1) / 2
      let old := ((ldList s.cnv.res (a + 64) nd).map fun b => [b.toNat % 16, b.toNat / 16]).flatten
      let data := nibBytes (ringNibs (s.cNib c) size wrap (xs.take (pre + post)) old)
      let gap := drops != []
      let flags := b01 (pre < s.cPre c) + 2 * b01 gap + 4 * b01 (x.closing == 2) + 8 * b01 (x.closing == 1) + 16 * b01 uns
        + 32 * b01 g.forced
      let dec := 64 * s.fld (CNS_CTL c) CNS_CTL_DECM + s.cD c
      let tail := le 1 c ++ le 1 (s.cKind c) ++ le 2 (s.cIndex c) ++ le 4 x.recs ++ le 1 dec ++ le 1 g.src
        ++ le 2 (g.t / tapPeriod (s.cKind c) % 2 ^ s.cD c) ++ le 8 g.t ++ le 8 (x.start + (o - pre) * n) ++ le 4 pre ++ le 4 post
        ++ le 4 wrap ++ le 4 flags ++ le 4 drops.length ++ le 4 (drops.headD 0xFFFF_FFFF) ++ le 8 0
      let res := stList (stList s.cnv.res (a + 64) data) (a + 4) tail
      let s : State := { s with cnv := { s.cnv with res := stBytes res a 4 0x5253_4E43 } }
      let s := (s.incBy (CNS_DROP_CNT c) drops.length).inc (CNS_REC_CNT c)
      let next := endT + tapPeriod (s.cKind c) + s.fld (CNS_HOLDOFF c) CNS_HOLDOFF_FT * ft
      let s := s.setCns c { x with trig := none, recs := x.recs + 1, closing := 0, holdEnd := next }
      if x.closing ≠ 0 then s.setCnsSt c capIDLE
      else if s.cMode c = 1 ∧ x.recs + 1 < s.cNrec c then s.setCnsSt c capHOLDOFF
      else s.setCnsSt c capDONE

/-- CNS_HOLDOFF_END (R417). -/
def cnsHoldoffEnd (c : Nat) (s : State) : State :=
  if s.cnsSt c = capHOLDOFF ∧ s.reached (s.cns c).holdEnd then cnsFill c (s.cns c).holdEnd s else s

/-! ### Streaming (R421, R422) -/

/-- Whole elements of a chunk (Table 13-5). -/
def State.chunkElems (s : State) (c : Nat) : Nat :=
  if s.cKind c = 1 ∧ ¬ s.cMinmax c then 2708 else if s.cNib c = 0 then 0 else 8128 / s.cNib c

/-- Unread chunks of a stream. -/
def State.unread (s : State) (c : Nat) : Nat := (s.rdN (CNS_WP c) + s.cPages c - s.rdN (CNS_RP c)) % s.cPages c

/-- CNS_CHUNK_WRITE: `xs` are the elements of the chunk, `drops` how many of them the store could not accept. -/
def cnsChunkWrite (c : Nat) (xs : List Nat) (drops : Nat) (uns : Bool) (s : State) : State :=
  let x := s.cns c
  let n := s.chunkElems c
  if s.cnsSt c ≠ capSTREAMING ∨ ¬ s.reached (x.start + (x.outs + n) * s.cStep c) then s
  else if s.cPages c - 1 ≤ s.unread c then
    (s.setCns c { x with outs := x.outs + n, drops := x.drops + n }).incBy (CNS_DROP_CNT c) n
  else
    let lost := x.drops + drops
    let head := le 4 x.chunks ++ le 4 n ++ le 8 (x.start + x.outs * s.cStep c) ++ le 4 lost
      ++ le 4 (2 * b01 (lost != 0) + 16 * b01 uns) ++ le 8 0
    let data := nibBytes (((xs.take n).map (nibbles (s.cNib c))).flatten)
    let page := head ++ data ++ List.replicate (4064 - data.length) 0
    let a := 4096 * (s.cPage c + s.rdN (CNS_WP c))
    let s := { s with cnv := { s.cnv with res := stList s.cnv.res a page } }
    let s := s.wrN (CNS_WP c) ((s.rdN (CNS_WP c) + 1) % s.cPages c)
    (s.setCns c { x with outs := x.outs + n, drops := 0, chunks := x.chunks + 1 }).incBy (CNS_DROP_CNT c) drops

/-- CNS_RP (R422). -/
def cnsRpWrite (c v : Nat) (s : State) : State :=
  let v := v % 2 ^ 13
  if s.cPages c ≤ v ∨ s.unread c < (v + s.cPages c - s.rdN (CNS_RP c)) % s.cPages c then s.status (CNS_STS c) E_CNS_RANGE
  else s.wrN (CNS_RP c) v

/-! ### Furler (R423 to R432) -/

/-- A context, and the job of an engine. -/
def State.fctx (s : State) (x : Nat) : FCtx := tget s.cap.ctxs x
def State.setFctx (s : State) (x : Nat) (v : FCtx) : State := { s with cap := { s.cap with ctxs := tput s.cap.ctxs x v } }
def State.fjob (s : State) (e : Nat) : Option FJob := tget s.cap.jobs e
def State.setFjob (s : State) (e : Nat) (v : Option FJob) : State := { s with cap := { s.cap with jobs := tput s.cap.jobs e v } }

/-- Context states (Table 13-6). -/
def ctxEMPTY : Nat := 0
def ctxACTIVE : Nat := 1
def ctxSUSPENDED : Nat := 2
def ctxDONE : Nat := 3
def ctxFAILED : Nat := 4

/-- XSTATE of a context; it shows NBITS beside it. -/
def State.ctxSt (s : State) (x : Nat) : Nat := s.fld (FRL_CTXS x) FRL_CTXS_XSTATE
def State.setCtxSt (s : State) (x v : Nat) : State :=
  (s.setF (FRL_CTXS x) FRL_CTXS_XSTATE v).setF (FRL_CTXS x) FRL_CTXS_NBITS (s.fctx x).acc.length

/-- A byte of the CRC-32 of IEEE 802.3 (reflected), on the value as it is read. -/
def crcByte (c : BitVec 32) (b : BitVec 8) : BitVec 32 :=
  let r := (List.range 8).foldl (fun v _ => if v.getLsbD 0 then v >>> 1 ^^^ 0xEDB88320#32 else v >>> 1) (~~~c ^^^ b.zeroExtend 32)
  ~~~r

/-- The code lengths of the STATIC table (R425). -/
def State.tblLens (s : State) (e : Nat) : List Nat :=
  (List.range 316).map fun i =>
    let b := (ldByte s.cnv.res (s.rdN (FRL_TBL e) + i / 2)).toNat
    if i % 2 = 0 then b % 16 else b / 16

/-- Does a set of code lengths satisfy the Kraft inequality? -/
def kraft (ls : List Nat) : Bool := decide ((ls.filter (· != 0)).foldl (fun n l => n + 2 ^ (15 - l)) 0 ≤ 2 ^ 15)

/-- Do two ranges of bytes meet? -/
def meet (a n b m : Nat) : Bool := decide (a < b + m) && decide (b < a + n) && n != 0 && m != 0

/-- Does a range meet the region of a channel that is not IDLE? -/
def State.capUses (s : State) (a n : Nat) : Bool :=
  (List.range 16).any fun c => s.cnsSt c != capIDLE && s.cnsSt c != capOFF && meet a n (4096 * s.cPage c) (4096 * s.cPages c)

/-- The checks of a START or RESUME, in the order of R430. -/
def State.frlCheck (s : State) (e v : Nat) : Nat :=
  let x := 4 * e + bits v 9 8
  let start := v % 16 == 1
  let mode := bits v 17 16
  let srck := bit v 13
  let src := s.rdN (FRL_SRC e)
  let len := s.rdN (FRL_SRC_LEN e)
  let dst := s.rdN (FRL_DST e)
  let room := s.rdN (FRL_DST_LEN e)
  let st := s.ctxSt x
  let p := s.allotOf 0x0E e
  let lens := s.tblLens e
  if mode = 3 then E_FRL_RSVD_ENC
  else if ¬ start ∧ s.flag FRL_GSTS FRL_GSTS_SHED then E_FRL_SHED
  else if s.flag (FRL_STS e) FRL_STS_ESTATE ∨ st = ctxACTIVE then E_FRL_BUSY
  else if (start ∧ st ≠ ctxEMPTY ∧ st ≠ ctxDONE) ∨ (¬ start ∧ st ≠ ctxSUSPENDED) then E_FRL_CTX_STATE
  else if (start ∧ mode ≠ 0 ∧ ¬ (List.range 4).all fun k => s.allotOf 0x0E k == p) ∨ (¬ start ∧ mode ≠ s.fld (FRL_CTXS x) FRL_CTXS_MODE)
    then E_FRL_MODE
  else if room = 0 ∨ (start ∧ len = 0) then E_FRL_ZERO_LEN
  else if 2 ^ 25 < dst + room ∨ (¬ srck ∧ 2 ^ 25 < src + len) ∨ (mode = 1 ∧ 2 ^ 25 < s.rdN (FRL_TBL e) + 158) then E_FRL_LEN_EXCEEDS
  else if ¬ srck ∧ meet src len dst room then E_FRL_OVERLAP
  else match p with
    | none => E_IMG_RES_BUSY
    | some p =>
      if ¬ (pagesOf dst room).all (s.partHas p 7) ∨ (¬ srck ∧ ¬ (pagesOf src len).all (s.partHas p 7))
        ∨ (srck ∧ s.cnsPart (src % 16) ≠ some p) then E_IMG_RES_BUSY
      else if s.capUses dst room ∨ (¬ srck ∧ s.capUses src len) ∨ (srck ∧ s.cnsSt (src % 16) ≠ capSTREAMING) then E_FRL_SRC_BUSY
      else if start ∧ mode = 1 ∧ (¬ kraft (lens.take 286) ∨ ¬ kraft (lens.drop 286) ∨ lens.getD 256 0 = 0) then E_FRL_TABLE
      else 0

/-- Bytes of a list of bits, low first, eight at a time, with the bits left over. -/
def bitBytes : Nat → List Bool → List (BitVec 8) × List Bool
  | 0, bs => ([], bs)
  | n + 1, bs =>
    if bs.length < 8 then ([], bs)
    else
      let r := bitBytes n (bs.drop 8)
      (BitVec.ofNat 8 (((bs.take 8).zipIdx.map fun p => b01 p.1 * 2 ^ p.2).foldl (· + ·) 0) :: r.1, r.2)

/-- Whole symbols that `room` bytes still take after the bits in hand (R428): the bits, and the symbols left. -/
def takeSyms (room : Nat) : List Bool → List (List Bool) → List Bool × List (List Bool)
  | acc, [] => (acc, [])
  | acc, b :: t => if (acc.length + b.length) / 8 ≤ room then takeSyms room (acc ++ b) t else (acc, b :: t)

/-- The waiting symbols of a job are written as far as the destination takes them. -/
def frlEmit (e : Nat) (s : State) : State :=
  match s.fjob e with
  | none => s
  | some j =>
    let x := s.fctx j.ctx
    let r := takeSyms (j.room - j.out) x.acc x.pend
    let w := bitBytes r.1.length r.1
    let s := { s with cnv := { s.cnv with res := stList s.cnv.res (j.dst + j.out) w.1 } }
    (s.setFctx j.ctx { x with acc := w.2, pend := r.2 }).setFjob e (some { j with out := j.out + w.1.length })

/-- The end of a job: the context's state, the counts, and FRL_STS last. -/
def frlEnd (e code xs : Nat) (s : State) : State :=
  match s.fjob e with
  | none => s
  | some j =>
    let s := if xs = ctxEMPTY then s.setFctx j.ctx default else s
    let s := s.setCtxSt j.ctx xs
    let s := ((s.wrN (FRL_CONSUMED e) j.read).wrN (FRL_PRODUCED e) j.out).wrN (FRL_CRC e) (s.fctx j.ctx).crc.toNat
    ((s.setFjob e none).status (FRL_STS e) code).setF (FRL_STS e) FRL_STS_ESTATE 0

/-- FRL_SRC_LEN and FRL_DST_LEN: refused while the engine runs (R27). -/
def frlLenWrite (e a v : Nat) (s : State) : State :=
  if s.flag (FRL_STS e) FRL_STS_ESTATE then s.status (FRL_STS e) E_FRL_BUSY else s.wrRW a v

/-- The resource that a START or RESUME lacks (R69): the engine, a page, or the source channel. -/
def State.frlLacks (s : State) (e : Nat) (srck : Bool) : Nat × Nat :=
  let pages := pagesOf (s.rdN (FRL_DST e)) (s.rdN (FRL_DST_LEN e))
    ++ if srck then [] else pagesOf (s.rdN (FRL_SRC e)) (s.rdN (FRL_SRC_LEN e))
  match s.allotOf 0x0E e with
  | none => (0x0E, e)
  | some p =>
    match pages.find? fun g => !s.partHas p 7 g with
    | some g => (7, g)
    | none => (0x0D, s.rdN (FRL_SRC e) % 16)

/-- START and RESUME (R430). -/
def frlBegin (e v : Nat) (s : State) : State :=
  let code := s.frlCheck e v
  let x := 4 * e + bits v 9 8
  if code ≠ 0 then
    let lacks := s.frlLacks e (bit v 13)
    (s.denyIf code lacks.1 lacks.2 3 ((s.allotOf 0x0E e).getD 0)).status (FRL_STS e) code
  else
    let s := s.when (v % 16 == 1) fun s => (s.setFctx x default).setF (FRL_CTXS x) FRL_CTXS_MODE (bits v 17 16)
    let j : FJob := ⟨x, bit v 13, s.rdN (FRL_SRC e), s.rdN (FRL_SRC_LEN e), 0, s.rdN (FRL_DST e), s.rdN (FRL_DST_LEN e), 0,
      bit v 20, bit v 21, bit v 22, []⟩
    let s := (s.setFjob e (some j)).setCtxSt x ctxACTIVE
    frlEmit e ((s.status (FRL_STS e) 0).setF (FRL_STS e) FRL_STS_ESTATE 1)

/-- ABORT (R432). -/
def frlAbort (e : Nat) (s : State) : State :=
  if (s.fjob e).isSome then frlEnd e E_FRL_ABORTED ctxEMPTY s else s.status (FRL_STS e) 0

/-- CLEAR (Table 13-6). -/
def frlClear (e v : Nat) (s : State) : State :=
  let x := 4 * e + bits v 9 8
  if s.ctxSt x = ctxACTIVE then s.status (FRL_STS e) E_FRL_BUSY
  else ((s.setFctx x default).setCtxSt x ctxEMPTY).status (FRL_STS e) 0

/-- A write of FRL_CTL. -/
def frlCtlWrite (e v : Nat) (s : State) : State :=
  match v % 16 with
  | 0 => s
  | 1 | 2 => frlBegin e v s
  | 3 => frlAbort e s
  | 4 => frlClear e v s
  | _ => s.status (FRL_STS e) E_FRL_RSVD_ENC

/-- Entry into SAFE: every job is aborted and every context EMPTY (R432). -/
def frlSafe (s : State) : State :=
  let s := forEach (List.range 4) s fun e s => s.when (s.fjob e).isSome (frlAbort e)
  forEach (List.range 16) s fun x s => (s.setFctx x default).setCtxSt x ctxEMPTY

/-- Reef sheds Furler: each running job ends after its current block (R432). -/
def frlShed (s : State) : State := forEach (List.range 4) s fun e s => frlEnd e E_FRL_SHED ctxSUSPENDED s

/-- Bytes that a job can read now: in a stream, those of the unread chunks (R431). -/
def State.frlAvail (s : State) (j : FJob) : Nat :=
  let at_ := j.read + j.buf.length
  if j.srck then 4096 * s.unread (j.src % 16) - at_ % 4096 else j.len - at_

/-- The next bytes of a job's source. -/
def State.frlInput (s : State) (j : FJob) (n : Nat) : List (BitVec 8) :=
  let at_ := j.read + j.buf.length
  if j.srck then
    let c := j.src % 16
    (List.range n).map fun i =>
      let k := at_ % 4096 + i
      ldByte s.cnv.res (4096 * (s.cPage c + (s.rdN (CNS_RP c) + k / 4096) % s.cPages c) + k % 4096)
  else ldList s.cnv.res (j.src + at_) n

/-- A job reads on for its next block as far as its source has data; whole chunks of a stream are given back (R431). -/
def frlRead (e : Nat) (s : State) : State :=
  match s.fjob e with
  | none => s
  | some j =>
    let k := min (min 16384 (j.len - j.read) - j.buf.length) (s.frlAvail j)
    let c := j.src % 16
    let rp := (s.rdN (CNS_RP c) + ((j.read + j.buf.length) % 4096 + k) / 4096) % s.cPages c
    let j' := { j with buf := j.buf ++ s.frlInput j k }
    (s.when j.srck fun s => s.wrN (CNS_RP c) rp).setFjob e (some j')

/-- The bits of a number, low first. -/
def bitsOf (n v : Nat) : List Bool := (List.range n).map fun i => bit v i

/-- FRL_BLOCK_END: the next block of up to 16,384 bytes is coded: `hdr` its code tables (after BFINAL and BTYPE), `syms` its
symbols with the end of block, as the engine's matching chose them; `miss`: the table lacks a symbol (R425); `ok`: verification
agreed (R429); `ecc` 2: an uncorrectable error. -/
def frlBlockEnd (e : Nat) (hdr : List Bool) (syms : List (List Bool)) (miss ok : Bool) (ecc : Nat) (s : State) : State :=
  let s := if ((s.fjob e).any fun j => (s.fctx j.ctx).pend != []) ∨ ecc = 2 then s else frlRead e s
  match s.fjob e with
  | none => s
  | some j =>
    let n := min 16384 (j.len - j.read)
    let x := s.fctx j.ctx
    if ecc = 2 then frlEnd e E_FRL_ECC_UNCORR ctxFAILED s
    else if n = 0 ∨ x.pend ≠ [] ∨ j.buf.length < n then s
    else
      let block := j.buf
      let mode := s.fld (FRL_CTXS j.ctx) FRL_CTXS_MODE
      let last := j.final && j.read + n == j.len
      let fixed := mode == 0 || miss
      let coded := (last :: (if fixed then [true, false] else [false, true]) ++ (if fixed then [] else hdr)) :: syms
      let pad := (8 - (x.acc.length + 3) % 8) % 8
      let stored := (last :: [false, false] ++ List.replicate pad false ++ bitsOf 16 n ++ bitsOf 16 (65535 - n))
        :: block.map fun b => bitsOf 8 b.toNat
      let len (b : List (List Bool)) : Nat := (b.map List.length).foldl (· + ·) 0
      let gain := decide (len coded < len stored)
      if ¬ gain ∧ ¬ j.nogain then frlEnd e E_FRL_NO_GAIN ctxSUSPENDED s
      else
        let s := s.when (mode == 1 && miss) fun s => s.inc (FRL_TBLMISS_CNT e)
        let s := s.when (!gain) fun s => s.inc (FRL_NOGAIN_CNT e)
        let h := x.hist ++ block
        let s := s.setFctx j.ctx { x with hist := h.drop (h.length - 32768), pend := if gain then coded else stored,
                                          crc := block.foldl crcByte x.crc }
        let s := frlEmit e (s.setFjob e (some { j with read := j.read + n, buf := [] }))
        if j.verify ∧ ¬ ok then frlEnd e E_FRL_VERIFY ctxFAILED s else s

/-- Has a job whose input is read still a last byte to pad and no room for it? -/
def State.frlNoPad (s : State) (j : FJob) : Bool :=
  j.final && j.read == j.len && (s.fctx j.ctx).acc != [] && decide (j.room ≤ j.out)

/-- FRL_OUT_FULL: the destination cannot take the next symbol (R428). -/
def frlOutFull (e : Nat) (s : State) : State :=
  match s.fjob e with
  | some j => if (s.fctx j.ctx).pend ≠ [] ∨ s.frlNoPad j then frlEnd e E_FRL_OUT_FULL ctxSUSPENDED s else s
  | none => s

/-- FRL_JOB_END: the end of the input; with FINAL the last byte is padded (R427). -/
def frlJobEnd (e : Nat) (s : State) : State :=
  match s.fjob e with
  | some j =>
    let x := s.fctx j.ctx
    if j.read ≠ j.len ∨ x.pend ≠ [] ∨ s.frlNoPad j then s
    else if j.final then
      let w := (bitBytes 1 (x.acc ++ List.replicate ((8 - x.acc.length) % 8) false)).1
      let s := { s with cnv := { s.cnv with res := stList s.cnv.res (j.dst + j.out) w } }
      let s := s.setFctx j.ctx { x with acc := [] }
      frlEnd e 0 ctxDONE (s.setFjob e (some { j with out := j.out + w.length }))
    else frlEnd e 0 ctxSUSPENDED s
  | none => s

/-! ### The commands -/

/-- CNS_ARM. -/
def execCnsArm (c v : Nat) (s : State) : Host.Outcome State Fault Refusal :=
  .next (hostWr (CNS_CTL c) (cnsCtlWrite c (2 ^ 31 + v % 2 ^ 31)) s)
/-- CNS_DISARM. -/
def execCnsDisarm (c v : Nat) (s : State) : Host.Outcome State Fault Refusal := .next (hostWr (CNS_CTL c) (cnsCtlWrite c (v % 2 ^ 31)) s)
/-- CNS_FORCE. -/
def execCnsForce (c : Nat) (s : State) : Host.Outcome State Fault Refusal := .next (hostWr (CNS_FORCE c) (cnsForce c 1) s)
/-- CNS_TRIGGER. -/
def execCnsTrigger (c src inst : Nat) (xs : List Int) (s : State) : Host.Outcome State Fault Refusal :=
  .next (cnsTrigger c src inst xs s)
/-- CNS_RECORD_END. -/
def execCnsRecordEnd (c : Nat) (xs drops : List Nat) (uns : Bool) (s : State) : Host.Outcome State Fault Refusal :=
  .next (cnsRecordEnd c xs drops uns s)
/-- CNS_HOLDOFF_END. -/
def execCnsHoldoffEnd (c : Nat) (s : State) : Host.Outcome State Fault Refusal := .next (cnsHoldoffEnd c s)
/-- CNS_CHUNK_WRITE. -/
def execCnsChunkWrite (c : Nat) (xs : List Nat) (drops : Nat) (uns : Bool) (s : State) : Host.Outcome State Fault Refusal :=
  .next (cnsChunkWrite c xs drops uns s)
/-- CNS_RP_WRITE. -/
def execCnsRpWrite (c v : Nat) (s : State) : Host.Outcome State Fault Refusal := .next (hostWr (CNS_RP c) (cnsRpWrite c v) s)
/-- FRL_START: the rest of the written FRL_CTL is `v`. -/
def execFrlStart (e v : Nat) (s : State) : Host.Outcome State Fault Refusal :=
  .next (hostWr (FRL_CTL e) (frlCtlWrite e (v / 16 * 16 + 1)) s)
/-- FRL_RESUME. -/
def execFrlResume (e v : Nat) (s : State) : Host.Outcome State Fault Refusal :=
  .next (hostWr (FRL_CTL e) (frlCtlWrite e (v / 16 * 16 + 2)) s)
/-- FRL_ABORT. -/
def execFrlAbort (e : Nat) (s : State) : Host.Outcome State Fault Refusal := .next (hostWr (FRL_CTL e) (frlCtlWrite e 3) s)
/-- FRL_CLEAR. -/
def execFrlClear (e x : Nat) (s : State) : Host.Outcome State Fault Refusal :=
  .next (hostWr (FRL_CTL e) (frlCtlWrite e (x % 4 * 256 + 4)) s)
/-- FRL_BLOCK_END. -/
def execFrlBlockEnd (e : Nat) (hdr : List Bool) (syms : List (List Bool)) (miss ok : Bool) (ecc : Nat) (s : State) :
    Host.Outcome State Fault Refusal := .next (frlBlockEnd e hdr syms miss ok ecc s)
/-- FRL_OUT_FULL. -/
def execFrlOutFull (e : Nat) (s : State) : Host.Outcome State Fault Refusal := .next (frlOutFull e s)
/-- FRL_JOB_END. -/
def execFrlJobEnd (e : Nat) (s : State) : Host.Outcome State Fault Refusal := .next (frlJobEnd e s)

end Sys2Proof.Machine
end

