-- ==== Sys2Proof/Machine/Group.lean ====
section
/-! DEFINITION. Lockstep group commands as they are sent (R51 to R53, Table 1-8). Their releases stand in Global.lean. -/

namespace Sys2Proof.Machine

/-- Command codes of GLB_LSG_CMD (Table 1-14). -/
def lcARM : Nat := 1
def lcSTART : Nat := 2
def lcPAUSE : Nat := 3
def lcRESUME : Nat := 4
def lcABORT : Nat := 5
def lcDISARM : Nat := 6

/-- Is a command valid in a group state (Table 1-8)? -/
def lsgValid (st cmd : Nat) : Bool :=
  match cmd with
  | 1 => st == gIDLE
  | 2 => st == gARMED
  | 3 => st == gRUNNING
  | 4 => st == gPAUSED
  | 5 => st != gABORTING
  | 6 => st == gARMED || st == gPAUSED
  | _ => false

/-- The check of a group command (R51 to R53, Table 1-8; a held group accepts PAUSE, R571) that is sent now for release `rel` (0: at once after the lead), with the minimum lead of its
sender in ft. Where several refusals hold the manual does not say which one is given: the order of the tests is the model's (DESIGN
CHOICE). -/
def State.lsgCheck (s : State) (g cmd rel lead : Nat) : Nat :=
  if cmd = 0 ∨ cmd = 7 then E_GLB_RSVD_ENC
  else if s.members g = [] then E_GLB_RANGE
  else if ¬ s.tb1Run then E_GLB_TB1_STOPPED
  else if s.gst g = gRECONFIG ∧ cmd ≠ lcABORT then E_GLB_LSG_BUSY
  else if (s.grp g).cmd.isSome ∧ cmd ≠ lcABORT then E_GLB_LSG_BUSY
  else if ¬ lsgValid (s.gst g) cmd ∧ ¬ (cmd = 3 ∧ (s.grp g).held) then E_GLB_LSG_STATE
  else if rel ≠ 0 ∧ rel < s.tb1 + lead * ft then E_GLB_LEAD_SHORT
  else 0

/-- The release time of a command: the first ft boundary at or after the one asked for. -/
def State.lsgRel (s : State) (rel lead : Nat) : Nat := ceilFt (if rel = 0 then s.tb1 + lead * ft else rel)

/-- A group command is sent by island `src` (the host, Winch, or the hub itself): it becomes the group's pending command, an ABORT replacing
the one that is pending (R51). The second component is its status. -/
def lsgSend (g cmd rel lead src : Nat) (s : State) : State × Nat :=
  let code := s.lsgCheck g cmd rel lead
  if code ≠ 0 then (s, code) else (s.setCmd g cmd (s.lsgRel rel lead) src, 0)

end Sys2Proof.Machine
end

