-- ==== Sys2Proof/Machine/Stay.lean ====
section
/-! DEFINITION. Stay (chapter 14, R433 to R460): time bases, SYNCIN and SYNCOUT, the servo, and event timers. -/

namespace Sys2Proof.Machine

/-- Changing Stay's own state. -/
def State.modStay (s : State) (f : StayS → StayS) : State := { s with stay := f s.stay }

/-- A report of Stay. -/
def stayReport (code : Nat) (s : State) : State := s.report code islHub 0

/-! ### Time bases (R433, R442) -/

/-- Units of 50 ps × 2⁻⁴⁰ in one second, in 2⁻¹⁶ ns and in one st, and the length of the 48-bit seconds. -/
def uSEC : Nat := 20 * 10 ^ 9 * 2 ^ 40
def uFRAC : Nat := 20 * 2 ^ 24
def uST : Nat := 2 ^ 40
def uWRAP : Nat := 2 ^ 48 * uSEC

/-- A base value moved by a signed amount. -/
def baseAdd (v : Nat) (d : Int) : Nat := (((v : Int) + d) % (uWRAP : Int)).toNat

/-- RATE0 in force, and RATEn. -/
def State.rate0 (s : State) : Int := sgn 32 (s.rdN STAY_TB0_RATE)
def State.rateN (s : State) (n : Nat) : Int := tget s.stay.rates n

/-- The value and the rate of TB0 (n = 0) or TBn. -/
def State.base (s : State) (n : Nat) : Nat := if n = 0 then s.stay.tb0 else tget s.stay.tbn n
def State.baseRate (s : State) (n : Nat) : Int := if n = 0 then s.rate0 else s.rateN n

/-- A base `st` later, at its rate. -/
def State.extrap (s : State) (n st : Nat) : Nat := baseAdd (s.base n) (st * ((uST : Int) + s.baseRate n))

/-- Seconds, and nanoseconds with the 16-bit fraction, as a base is presented: truncated. -/
def baseSec (v : Nat) : Nat := v / uSEC
def baseNs (v : Nat) : Nat := v % uSEC / uFRAC

/-- A base value from seconds and from [47:16] ns, [15:0] fraction. -/
def baseOf (sec nsf : Nat) : Nat := (sec % 2 ^ 48 * uSEC + (nsf / 65536 * 65536 + nsf % 65536) * uFRAC) % uWRAP

/-- Setting TB0, or TBn. -/
def State.setBase (s : State) (n v : Nat) : State :=
  s.modStay fun x => if n = 0 then { x with tb0 := v } else { x with tbn := tput x.tbn n v }

/-- The next ft boundary on the time of `now`: of TB1 while it runs, and of the 1.25 GHz clock otherwise (R665). -/
def State.nextFt (s : State) : Nat := s.clock.now + (16 - (if s.tb1Run then s.clock.tb1 else s.clock.now) % 16)

/-! ### Event timers: what a step does to them (R457, R460) -/

/-- The base of a timer: 0 for TB1, 1 for TB0, n for TBn; and its number for `base`. -/
def State.tmrBase (s : State) (t : Nat) : Nat := s.fld (STAY_TMR_CTL t) STAY_TMR_CTL_BASE
def baseNo (b : Nat) : Nat := if b = 1 then 0 else b

/-- The next compare value of a timer: TB1 in st, or a base value. -/
def State.tmrCmp (s : State) (t : Nat) : Nat :=
  let k := (tget s.stay.tmrs t).k
  if s.tmrBase t = 0 then s.rdN (STAY_TMR_CMP t) + k * s.rdN (STAY_TMR_PER t)
  else baseOf (s.rdN (STAY_TMR_CMP t)) (s.fld (STAY_TMR_CMPF t) STAY_TMR_CMPF_NSF) + k * s.rdN (STAY_TMR_PER t) * uFRAC

/-- TSTATE. -/
def tmIDLE : Nat := 0
def tmARMED : Nat := 1
def tmFIXED : Nat := 2
def State.tmrSt (s : State) (t : Nat) : Nat := s.fld (STAY_TMR_STS t) STAY_TMR_STS_TSTATE

/-- E is fixed. -/
def tmrFix (t e : Nat) (s : State) : State := (s.setF (STAY_TMR_STS t) STAY_TMR_STS_TSTATE tmFIXED).wrN (STAY_TMR_E t) e

/-- Compares up to the value of the base that a periodic timer has passed, counted from its next one. -/
def skipped (cmp per v : Nat) : Nat := if per = 0 ∨ v < cmp then 0 else (v - cmp) / per

/-- A timer whose base stands past its unfixed compare fires once, at the first ft boundary at least 16 ft from now, LATE; the periodic
occurrences between do not fire (R460). -/
def tmrLate (t : Nat) (s : State) : State :=
  let x := tget s.stay.tmrs t
  let m := skipped (s.tmrCmp t) (s.rdN (STAY_TMR_PER t) * uFRAC) (s.base (baseNo (s.tmrBase t)))
  let s := s.modStay fun y => { y with tmrs := tput y.tmrs t { x with k := x.k + m } }
  (tmrFix t (ceilFt (s.tb1 + 16 * ft)) s).setF (STAY_TMR_STS t) STAY_TMR_STS_LATE 1

/-- A step carried base `n` past unfixed compares (R460). -/
def tmrStepped (n : Nat) (s : State) : State :=
  forEach (List.range 128) s fun t s =>
    let b := s.tmrBase t
    if s.tmrSt t = tmARMED ∧ b ≠ 0 ∧ baseNo b = n ∧ s.tmrCmp t ≤ s.base n then tmrLate t s else s

/-- A planned change reaches its ft boundary: a step of TB0, a value of TB0, or a rate of TBn. -/
def applyPlan (p : Nat × Nat × Int) (s : State) : State :=
  match p.2.1 with
  | 0 => tmrStepped 0 (s.setBase 0 (baseAdd s.stay.tb0 p.2.2))
  | 1 => tmrStepped 0 (s.setBase 0 p.2.2.toNat)
  | n => s.modStay fun x => { x with rates := tput x.rates n p.2.2 }

/-- Planned changes whose time has come. -/
def stayDue (s : State) : State :=
  let now := s.stay.plan.filter fun p => decide (p.1 ≤ s.clock.now)
  let s := s.modStay fun x => { x with plan := x.plan.filter fun p => !decide (p.1 ≤ s.clock.now) }
  forEach now s applyPlan

/-- The time at which a train of SYNCOUT pulses ends: pulses 1,250 ft apart, each 400 st long (R438). -/
def trainEnd (p : Nat × Nat) : Nat := p.1 + (p.2 - 1) * (1250 * ft) + 400

/-- SYNCOUT is high in the first 400 st of each pulse (R438). -/
def State.syncoutPin (s : State) : Bool :=
  s.stay.pulses.any fun p =>
    decide (p.1 ≤ s.clock.now) && decide (s.clock.now < trainEnd p) && decide ((s.clock.now - p.1) % (1250 * ft) < 400)

/-- MODE reads OFF after the last pulse of PULSE and BURST (Table 14-3). -/
def syncoutDone (s : State) : State :=
  let m := s.fld STAY_SYNCOUT STAY_SYNCOUT_MODE
  s.when ((m == 1 || m == 2) && s.stay.pulses.all fun p => decide (trainEnd p ≤ s.clock.now))
    fun s => s.setF STAY_SYNCOUT STAY_SYNCOUT_MODE 0

/-- One st of TB0 and TB2 to TB7; planned changes take effect at their boundary. -/
def stayTick (s : State) : State :=
  let s := s.setBase 0 (s.extrap 0 1)
  syncoutDone (stayDue (forEach [2, 3, 4, 5, 6, 7] s fun n s => s.setBase n (s.extrap n 1)))

/-! ### TB1 (R435 to R437) -/

/-- TB1STATE. -/
def State.tb1St (s : State) : Nat := s.fld STAY_STS STAY_STS_TB1STATE
def State.setTb1St (s : State) (v : Nat) : State := s.setF STAY_STS STAY_STS_TB1STATE v

/-- The device states in which TB1 may be started and stopped. -/
def State.tb1Free (s : State) : Bool := s.dev == dCONFIG || s.dev == dCAL || s.dev == dREADY

/-- Is every lockstep group IDLE? -/
def State.allIdle (s : State) : Bool := (List.range 64).all fun g => s.gst g == gIDLE

/-- TB1_START. -/
def tb1Start (s : State) : State :=
  if ¬ s.tb1Free ∨ s.tb1St ≠ tbSTOPPED then s.status STAY_STS E_STAY_STATE
  else ((s.status STAY_STS 0).setTb1St tbSTARTING).modStay fun x => { x with starts := some (s.clock.now + 1250 * ft) }

/-- TB1_ARM_SYNC. -/
def tb1ArmSync (s : State) : State :=
  if ¬ s.tb1Free ∨ s.tb1St ≠ tbSTOPPED then s.status STAY_STS E_STAY_STATE
  else ((s.status STAY_STS 0).setTb1St tbSTARTING).setF STAY_STS STAY_STS_SYNC_ARMED 1

/-- TB1 takes another value than it counted to: every ACC is 0 (R189), and what the part kept of its past by TB1 is gone, hand-overs, edges
and releases. An item that is held keeps its release time, and so does a fixed E. -/
def tb1Clear (s : State) : State :=
  let s := ncoClear s
  let s : State := { s with cnv := { s.cnv with hist := [], trigEv := [], rels := [] } }
  forEach (s.cnv.dems.map (·.1)) s fun k s =>
    { s with cnv := { s.cnv with dems := tput s.cnv.dems k { tget s.cnv.dems k with nco := [], trigs := [] } } }

/-- TB1 is stopped: TB1_STOP, or loss of lock of the synthesiser (R435). -/
def tb1Halt (s : State) : State :=
  ({ tb1Clear s with clock := { s.clock with tb1 := 0 } }.setTb1St tbSTOPPED).setF STAY_STS STAY_STS_SYNC_ARMED 0
    |>.modStay fun x => { x with starts := none }

/-- TB1_STOP. -/
def tb1Stop (s : State) : State :=
  if ¬ s.tb1Free ∨ ¬ s.allIdle then s.status STAY_STS E_STAY_BUSY else tb1Halt (s.status STAY_STS 0)

/-- TB1_ZERO: TB1 reads 0 at the time it was started for, and the user domains start from 0. -/
def tb1Zero (s : State) : State :=
  match s.stay.starts with
  | some t =>
    if s.tb1St = tbSTARTING ∧ t ≤ s.clock.now then
      let s := { tb1Clear s with clock := { s.clock with tb1 := s.clock.now - t } }.setTb1St tbRUNNING
      s.modStay fun x => { x with starts := none, tbn := [] }
    else s
  | none => s

/-! ### SYNCIN and SYNCOUT (R437 to R441) -/

/-- SKEWCAL. -/
def skewcal (s : State) : State :=
  if s.dev ≠ dREADY ∨ ¬ s.allIdle then s.status STAY_STS E_STAY_BUSY
  else ((s.status STAY_STS 0).setF STAY_STS STAY_STS_SKEWCAL 1).modStay fun x => { x with skew := some (s.clock.now, []) }

/-- SYNCIN_EDGE: an edge reaches the balls `frac` 1/128 st after the st boundary `now`. -/
def syncinEdge (frac : Nat) (s : State) : State :=
  let e : Int := (128 * s.clock.now + frac % 128 : Nat) - sgn 16 (s.fld STAY_SYNC_COMP STAY_SYNC_COMP_COMP)
  let phase : Int := 128 - e % 128
  if s.flag STAY_STS STAY_STS_SYNC_ARMED then
    (s.setF STAY_STS STAY_STS_SYNC_ARMED 0).modStay fun x => { x with starts := some ((e / 128 + 1).toNat + 16000) }
  else match s.stay.skew with
    | some (t, ps) => if ps.length < 256 then s.modStay fun x => { x with skew := some (t, ps ++ [phase]) } else s
    | none =>
      let s := s.setF STAY_SYNC_PHASE STAY_SYNC_PHASE_PHASE (phase % 128).toNat
      if phase < 54 ∨ 74 < phase then stayReport E_STAY_SKEW_DRIFT (s.setF STAY_STS STAY_STS_SKEW_DRIFT 1) else s

/-- SKEWCAL_COMPLETE (R439): 256 positions are measured, and the sample clock is shifted so that st boundaries lie 64/128 st after e; or
1 ms has passed. -/
def skewcalComplete (s : State) : State :=
  match s.stay.skew with
  | none => s
  | some (t, ps) =>
    let close (s : State) : State := (s.setF STAY_STS STAY_STS_SKEWCAL 0).modStay fun x => { x with skew := none }
    if 256 ≤ ps.length then
      let sh : Int := 64 - ps.foldl (· + ·) 0 / 256
      (close (s.setF STAY_SKEW STAY_SKEW_SHIFT (unsgn 8 (max (-64) (min 63 sh))))).status STAY_STS 0
    else if t + 20000000 ≤ s.clock.now then (close s).status STAY_STS E_STAY_TIMEOUT
    else s

/-- Does an instance have an owner for which host software may write its registers? These registers lie in no yard page and no partition has
a page of its own, so that host software writes them for the yard or the partition that owns the instance (DEDUCED from R68 and R458); a hub
block's are closed to it (R68). -/
def State.hostMay (s : State) (cls i : Nat) : Bool := match s.ownOf cls i with | some o => o.okind != 2 | none => false

/-- A train of `n` pulses that rises at the st boundary `t`. -/
def syncoutTrain (t n : Nat) (s : State) : State := s.modStay fun x => { x with pulses := x.pulses ++ [(t, n)] }

/-- A write of STAY_SYNCOUT ends a train after the pulse that has risen: the pulses that have not do not come (DESIGN CHOICE: the manual does
not say what becomes of a burst). -/
def syncoutCut (s : State) : State :=
  let n := s.clock.now
  let cut (p : Nat × Nat) : Nat × Nat := (p.1, min p.2 ((n - p.1) / (1250 * ft) + 1))
  s.modStay fun x => { x with pulses := (x.pulses.filter fun p => decide (p.1 ≤ n)).map cut }

/-- STAY_SYNCOUT (Table 14-3). -/
def syncoutWrite (v : Nat) (s : State) : State :=
  if ¬ s.hostMay 0x0C 0 then (s.deny 0x0C 0 4 0).status STAY_STS E_IMG_RES_BUSY
  else
    let s := syncoutCut ((s.wrRW STAY_SYNCOUT v).status STAY_STS 0)
    let pulses (n : Nat) (s : State) : State := syncoutTrain (s.clock.now + 1) n s
    match bits v 9 8 with
    | 1 => pulses 1 s
    | 2 => pulses 256 s
    | _ => s

/-! ### The servo (R444 to R453) -/

/-- SSTATE (Table 14-5). -/
def svFREERUN : Nat := 0
def svACQUIRING : Nat := 1
def svLOCKED : Nat := 2
def svHOLDOVER : Nat := 3
def svASYM : Nat := 4
def svJUMP : Nat := 5
def State.sst (s : State) : Nat := s.fld STAY_STS STAY_STS_SSTATE
def State.setSst (s : State) (v : Nat) : State := s.setF STAY_STS STAY_STS_SSTATE v

/-- The source of TB0. -/
def State.staySrc (s : State) : Nat := s.fld STAY_CTL STAY_CTL_SRC

/-- A refused jump (R451). -/
def jumpRefused (s : State) : State :=
  stayReport E_STAY_JUMP_REFUSED ((s.setF STAY_STS STAY_STS_JUMP_REFUSED 1).inc STAY_JUMP_CNT)

/-- A step of TB0 by `ps` picoseconds, truncated to its units. -/
def stepUnits (ps : Int) : Int := ps * 2 ^ 40 / 50

/-- The steering term never exceeds STAY_SLEW_MAX (R447): parts per 10⁹ in units of 2⁻⁴⁰. -/
def State.slewMax (s : State) : Int := ((s.fld STAY_SLEW_MAX STAY_SLEW_MAX_PPB * 2 ^ 40 / 10 ^ 9 : Nat) : Int)

/-- RATE0 while the servo steers: the frequency estimate plus a bounded term, whose law the manual does not give. -/
def steer (s : State) : State :=
  let m := s.slewMax
  let t := max (-m) (min m (sgn 32 s.freeN))
  (s.wrN STAY_TB0_RATE (unsgn 32 (s.stay.freq + t))).nextFree

/-- The frequency estimate after an accepted exchange: the manual does not give the filter. -/
def estimate (s : State) : State := (s.modStay fun x => { x with freq := sgn 32 s.freeN }).nextFree

/-- The mean of some integers. -/
def mean (xs : List Int) : Int := if xs = [] then 0 else xs.foldl (· + ·) 0 / xs.length

/-- The servo judges an offset that may return it to LOCKED (R449, R450). -/
def judge (off : Int) (s : State) : State :=
  if off.natAbs ≤ s.rdN STAY_JUMP_THR * 1000 then steer (s.setSst svLOCKED) else jumpRefused (s.setSst svJUMP)

/-- One exchange with its MPD and offset in ps (R445 to R450); `asym`: the asymmetry test applies (not on links, R456); `rate`: the
neighbour's RATE0, which the estimate follows on a link. -/
def exchange (mpd off : Int) (asym : Bool) (rate : Option Int) (s : State) : State :=
  let refv := sgn 32 (s.rdN STAY_MPD_REF)
  let s := (s.wrN STAY_MPD (unsgn 32 mpd)).wrN STAY_OFFSET (unsgn 32 off)
  let first : Bool := s.sst == svACQUIRING && s.stay.gather == []
  let ok : Bool := !asym || first || decide ((mpd - refv).natAbs ≤ s.rdN STAY_ASYM_THR)
  let est (s : State) : State := match rate with | some r => s.modStay fun x => { x with freq := r } | none => estimate s
  if s.sst = svFREERUN then s
  else if s.sst = svACQUIRING then
    if ¬ ok then (s.inc STAY_ASYM_EXCL_CNT).modStay fun x => { x with gather := [] }
    else
      let g := s.stay.gather ++ [(mpd, off)]
      let s := est ((s.wrN STAY_MPD_REF (unsgn 32 (mean (g.map (·.1))))).modStay fun x => { x with gather := g })
      if g.length < 16 then s
      else
        let s := s.modStay fun x => { x with lock1 := true, gather := [], mpds := g.map (·.1), excl := 0 }
        steer ((tmrStepped 0 (s.setBase 0 (baseAdd s.stay.tb0 (stepUnits (-(mean (g.map (·.2)))))))).setSst svLOCKED)
  else if s.sst = svASYM ∧ ¬ s.flag STAY_STS STAY_STS_ASYM_SUSPECT then judge off s
  else if ok then
    let m := (s.stay.mpds ++ [mpd])
    let m := m.drop (m.length - 16)
    let s := (s.wrN STAY_MPD_REF (unsgn 32 (mean m))).modStay fun x => { x with mpds := m, excl := 0 }
    if s.sst = svLOCKED then steer (est s) else if s.sst = svHOLDOVER then judge off s else s
  else
    let n := s.stay.excl + 1
    let s := (s.inc STAY_ASYM_EXCL_CNT).modStay fun x => { x with excl := n }
    if (s.sst = svLOCKED ∨ s.sst = svHOLDOVER) ∧ 4 ≤ n then
      stayReport E_STAY_ASYM_SUSPECT (((s.setF STAY_STS STAY_STS_ASYM_SUSPECT 1).setSst svASYM).modStay fun x => { x with excl := 0 })
    else s

/-- FREERUN under PTP with a master selected goes to ACQUIRING (R446). -/
def tryAcquire (s : State) : State :=
  if s.sst = svFREERUN ∧ s.staySrc = 1 ∧ s.stay.master.isSome then (s.setSst svACQUIRING).modStay fun x => { x with gather := [] } else s

/-- STEP and SET after they are accepted: the servo enters LOCKED, or stays in FREERUN under SRC = FREE (R452). -/
def afterJump (s : State) : State :=
  let s := s.setF STAY_STS STAY_STS_ASYM_SUSPECT 0
  if ¬ s.stay.lock1 then s else if s.staySrc = 0 then s.setSst svFREERUN else s.setSst svLOCKED

/-- The magnitude, in units, above which a jump is refused. -/
def State.jumpUnits (s : State) : Nat := s.rdN STAY_JUMP_THR * 65536 * uFRAC

/-- STEP (R452). -/
def stayStep (s : State) : State :=
  let d := sgn 64 (s.rdN STAY_TB0_STEP) * uFRAC
  if s.stay.lock1 ∧ s.jumpUnits < d.natAbs then (jumpRefused s).status STAY_STS E_STAY_JUMP_REFUSED
  else (afterJump (s.modStay fun x => { x with plan := x.plan ++ [(s.nextFt, 0, d)] })).status STAY_STS 0

/-- SET (R452). -/
def staySet (s : State) : State :=
  let v := baseOf (s.fld STAY_TB0_SET_SEC STAY_TB0_SET_SEC_SEC) (s.rdN STAY_TB0_SET_NS % 2 ^ 48)
  if s.staySrc ≠ 0 then s.status STAY_STS E_STAY_STATE
  else if 999999999 < s.fld STAY_TB0_SET_NS STAY_TB0_SET_NS_NS then s.status STAY_STS E_STAY_RANGE
  else if s.stay.lock1 ∧ s.jumpUnits < ((v : Int) - s.stay.tb0).natAbs then (jumpRefused s).status STAY_STS E_STAY_JUMP_REFUSED
  else
    let s := afterJump (s.modStay fun x => { x with plan := x.plan ++ [(s.nextFt, 1, (v : Int))] })
    (s.modStay fun x => { x with lock1 := true }).status STAY_STS 0

/-- ACCEPT_ASYM (R449). -/
def acceptAsym (s : State) : State :=
  if s.sst ≠ svASYM then s.status STAY_STS E_STAY_STATE
  else
    let m := s.rdN STAY_MPD
    (((s.wrN STAY_MPD_REF m).setF STAY_STS STAY_STS_ASYM_SUSPECT 0).modStay fun x => { x with mpds := [sgn 32 m] }).status STAY_STS 0

/-- RELOCK (R453). -/
def relock (s : State) : State :=
  let s := ((s.setF STAY_STS STAY_STS_ASYM_SUSPECT 0).setSst svFREERUN).modStay fun x =>
    { x with lock1 := false, gather := [], mpds := [], excl := 0 }
  (tryAcquire s).status STAY_STS 0

/-- A write of STAY_CMD. -/
def stayCmd (v : Nat) (s : State) : State :=
  match v % 16 with
  | 0 => s
  | 1 => tb1Start s
  | 2 => tb1ArmSync s
  | 3 => tb1Stop s
  | 4 => skewcal s
  | 5 => stayStep s
  | 6 => staySet s
  | 7 => acceptAsym s
  | 8 => relock s
  | _ => s.status STAY_STS E_STAY_RSVD_ENC

/-- STAY_CTL: a write with a reserved SRC is discarded; a change of SRC moves a servo that has locked to HOLDOVER (R450). -/
def stayCtlWrite (v : Nat) (s : State) : State :=
  let old := s.staySrc
  let new := v % 16
  if 8 ≤ new then s
  else
  let s := s.wrRW STAY_CTL v
  if new = old then s
  else if s.stay.lock1 then s.setSst svHOLDOVER
  else tryAcquire (s.setSst svFREERUN)

/-- STAY_SNAP: every base at one st. -/
def staySnap (v : Nat) (s : State) : State :=
  if v % 2 = 0 then s
  else
    let s := s.wrN STAY_SNAP_TB1 s.tb1
    forEach [0, 2, 3, 4, 5, 6, 7] s fun n s =>
      (s.wrN (STAY_SNAP_SEC n) (baseSec (s.base n))).wrN (STAY_SNAP_NS n) (baseNs (s.base n))

/-- Registers of Stay with a rule of their own for a write: RATE0 under FREE only, SLEW_MAX not 0, ANN_TMO 2 to 10. -/
def stayRegWrite (a v : Nat) (s : State) : State :=
  if a = STAY_TB0_RATE then (if s.staySrc = 0 then s.wrRW a v else s)
  else if a = STAY_SLEW_MAX then (if v % 65536 = 0 then s else s.wrRW a v)
  else if a = STAY_PTP_CFG then
    let t := bits v 23 20
    let old := s.fld STAY_PTP_CFG STAY_PTP_CFG_ANN_TMO
    (s.wrRW a v).setF STAY_PTP_CFG STAY_PTP_CFG_ANN_TMO (if 2 ≤ t ∧ t ≤ 10 then t else old)
  else s.wrRW a v

/-! ### PTP on TPORT (R443, R444); timestamps in ps of TB0 -/

/-- Is a message of the selected master, under SRC = PTP? -/
def State.ptpFrom (s : State) (ds : List Nat) : Bool :=
  s.staySrc == 1 && (match s.stay.master with | some m => m.ds.drop 7 == ds.drop 7 | none => false)

/-- PTP_SYNC_RX: t2 as measured at the port, t1 for a one-step master, and the correction field. -/
def ptpSync (ds : List Nat) (t1 : Option Int) (corr t2 : Int) (s : State) : State :=
  if s.ptpFrom ds then
    let t2 := t2 - (s.fld STAY_TP_LAT STAY_TP_LAT_RX : Nat)
    s.modStay fun x => { x with sync := some (t1.map (· + corr), t2 - (if t1.isSome then 0 else corr)) }
  else s

/-- PTP_FOLLOW_UP_RX: t1 of a two-step Sync. -/
def ptpFollowUp (ds : List Nat) (t1 corr : Int) (s : State) : State :=
  match s.stay.sync with
  | some (none, t2) => if s.ptpFrom ds then s.modStay fun x => { x with sync := some (some (t1 + corr), t2) } else s
  | _ => s

/-- PTP_DELAY_REQ_TX: t3 as measured at the port. -/
def ptpDelayReq (t3 : Int) (s : State) : State :=
  if s.staySrc = 1 ∧ s.stay.master.isSome then
    s.modStay fun x => { x with dreq := some (t3 + (s.fld STAY_TP_LAT STAY_TP_LAT_TX : Nat)) }
  else s

/-- PTP_DELAY_RESP_RX: t4 ends an exchange (R444). -/
def ptpDelayResp (ds : List Nat) (t4 corr : Int) (s : State) : State :=
  match s.stay.sync, s.stay.dreq with
  | some (some t1, t2), some t3 =>
    if s.ptpFrom ds then
      let mpd := ((t2 - t1) + (t4 - corr - t3)) / 2
      let off := (t2 - t1) - mpd - sgn 32 (s.rdN STAY_ASYM)
      exchange mpd off true none (s.modStay fun x => { x with sync := none, dreq := none })
    else s
  | _, _ => s

/-- A data set is better than another when it is smaller in the order of the default BMCA. -/
def dsLess : List Nat → List Nat → Bool
  | [], [] => false
  | [], _ => true
  | _, [] => false
  | a :: t, b :: u => decide (a < b) || (a == b && dsLess t u)

/-- The best of some masters. -/
def bestMaster : List Master → Option Master
  | [] => none
  | m :: t => match bestMaster t with | some b => if dsLess b.ds m.ds then some b else some m | none => some m

/-- An announce interval in st, from logMessageInterval + 16. -/
def annInterval (k : Nat) : Nat := 20 * 10 ^ 9 * 2 ^ k / 2 ^ 16

/-- Has a master been silent for ANN_TMO intervals? -/
def State.silent (s : State) (m : Master) : Bool :=
  decide (m.at_ + s.fld STAY_PTP_CFG STAY_PTP_CFG_ANN_TMO * annInterval m.interval ≤ s.clock.now)

/-- PTP_ANNOUNCE_RX: `ds` holds priority1, clockClass, accuracy, variance, priority2, grandmaster identity, stepsRemoved, and the
sender's identity and port; `k` its logMessageInterval + 16. -/
def ptpAnnounce (domain : Nat) (ds : List Nat) (k : Nat) (s : State) : State :=
  if domain ≠ s.fld STAY_PTP_CFG STAY_PTP_CFG_DOMAIN then s
  else
    let all := (s.stay.master.toList ++ s.stay.others).filter fun m => m.ds.drop 7 != ds.drop 7
    let all := (all.filter fun m => !s.silent m) ++ [⟨ds, s.clock.now, k⟩]
    let best := bestMaster all
    tryAcquire (s.modStay fun x => { x with master := best, others := all.filter fun m => some m != best })

/-- ANNOUNCE_TIMEOUT (R450). -/
def announceTimeout (s : State) : State :=
  match s.stay.master with
  | some m =>
    if ¬ s.silent m then s
    else
      let rest := s.stay.others.filter fun m => !s.silent m
      let best := bestMaster rest
      let s := s.modStay fun x => { x with master := best, others := rest.filter fun m => some m != best }
      if s.staySrc ≠ 1 then s
      else if s.sst = svLOCKED then stayReport E_STAY_HOLDOVER (s.setSst svHOLDOVER)
      else if s.sst = svACQUIRING then tryAcquire (s.setSst svFREERUN)
      else s
  | none => s

/-! ### User domains (R442) -/

/-- A write of STAY_TBN_RATE or of the SET values. -/
def tbnWrite (n a v : Nat) (s : State) : State :=
  if ¬ s.hostMay 0x0B n then s.deny 0x0B n 4 0
  else
    let s := s.wrRW a v
    if a = STAY_TBN_RATE n then s.modStay fun x => { x with plan := x.plan ++ [(s.nextFt, n, sgn 32 v)] } else s

/-- TBN_SET_AT_WRITE (R442). A refused write changes nothing: STAY_STS.STATUS is that of STAY_CMD and STAY_SYNCOUT only (Table 14-7), so
that a refusal shows in no status; E_IMG_RES_BUSY shows in IMG_DENY. -/
def tbnSetAt (n v : Nat) (s : State) : State :=
  if ¬ s.hostMay 0x0B n then s.deny 0x0B n 4 0
  else if ¬ s.tb1Run then s
  else if v ≠ 0 ∧ v < s.tb1 + 160 * ft then s
  else
    let t := ceilFt (if v = 0 then s.tb1 + 160 * ft else v)
    (s.wrRW (STAY_TBN_SET_AT n) v).modStay fun x => { x with sets := tput x.sets n (some t) }

/-- TBN_SET_APPLY. -/
def tbnSetApply (n : Nat) (s : State) : State :=
  match tget s.stay.sets n with
  | some t =>
    if s.due t then
      let v := baseOf (s.fld (STAY_TBN_SET_SEC n) STAY_TBN_SET_SEC_SEC) (s.rdN (STAY_TBN_SET_NS n) % 2 ^ 48)
      tmrStepped n ((s.modStay fun x => { x with sets := tput x.sets n none }).setBase n v)
    else s
  | none => s

/-! ### Event timers (R457 to R460) -/

/-- The partition that the owner of an instance belongs to or is, if it is a yard or a partition. -/
def State.ownerPart (s : State) (o : OwnRange) : Option Nat :=
  if o.okind = 3 then some o.owner else if o.okind = 1 then some (s.partOf o.owner) else none

/-- May the owner of a timer use an instance (R68, R458)? Host software uses what it owns. -/
def State.ownerMay (s : State) (o : OwnRange) (cls i : Nat) : Bool :=
  match o.okind with
  | 1 => s.yardMay o.owner cls i
  | 3 => s.partHas o.owner cls i
  | 4 => (match s.ownOf cls i with | some q => q.okind == 4 | none => false)
  | _ => false

/-- What the requester of an arm must own (R458), in the order of the rule: for each the class and the instance that IMG_DENY names, and whether
it may use it. The requester is the owner of the timer, for whom host software writes. A monitor input that nobody owns is host software's
(R269); for the group, which belongs to no class, IMG_DENY names the timer (DESIGN CHOICE). -/
def State.tmrNeeds (s : State) (t v : Nat) : List (Nat × Nat × Bool) :=
  let b := bits v 30 28
  let m := v % 16 * 8 + bits v 6 4
  match s.ownOf 3 t with
  | none => [(3, t, false)]
  | some o =>
    let grp : Bool := match s.ownerPart o with | none => true | some p => (s.members (v % 64)).all fun y => s.partOf y == p
    [(3, t, o.okind != 2), (0x0B, b, decide (b < 2) || s.ownerMay o 0x0B b), (3, t, bits v 25 24 != 1 || grp),
     (4, m, bits v 25 24 != 2 || s.ownerMay o 4 m || (o.okind == 4 && (s.ownOf 4 m).isNone))]

/-- The owner of a timer may use what its base and its action name. -/
def State.tmrOwns (s : State) (t v : Nat) : Bool := (s.tmrNeeds t v).all (·.2.2)

/-- The check of an arm on a state that holds the written STAY_TMR_CTL, in the order of R458. -/
def State.tmrCheck (s : State) (t v : Nat) : Nat :=
  let b := bits v 30 28
  let passed : Bool := if b = 0 then decide (s.rdN (STAY_TMR_CMP t) ≤ s.tb1 + 16 * ft)
    else decide (baseOf (s.rdN (STAY_TMR_CMP t)) (s.fld (STAY_TMR_CMPF t) STAY_TMR_CMPF_NSF) ≤ s.extrap (baseNo b) (16 * ft))
  if 1 < bits v 27 26 ∨ bits v 25 24 = 3 then E_STAY_RSVD_ENC
  else if bits v 27 26 = 1 ∧ s.rdN (STAY_TMR_PER t) = 0 then E_STAY_ZERO_LEN
  else if ¬ s.tmrOwns t v then E_IMG_RES_BUSY
  else if bits v 25 24 = 1 ∧ s.members (v % 64) = [] then E_STAY_RANGE
  else if ¬ s.tb1Run then E_GLB_TB1_STOPPED
  else if passed then E_GLB_LEAD_SHORT
  else 0

/-- The next compare of an armed timer: E of a TB1 timer is fixed at once (R457). -/
def tmrNext (t : Nat) (s : State) : State :=
  if s.tmrBase t = 0 then tmrFix t (ceilFt (s.tmrCmp t)) s else s.setF (STAY_TMR_STS t) STAY_TMR_STS_TSTATE tmARMED

/-- TIMER_ARM: a write of STAY_TMR_CTL that sets EN (R458). -/
def tmrArm (t v : Nat) (s : State) : State :=
  let code := s.tmrCheck t v
  let bad := ((s.tmrNeeds t v).find? fun x => !x.2.2).getD (3, t, true)
  if code ≠ 0 then (s.denyIf code bad.1 bad.2.1 4 0).status (STAY_TMR_STS t) code
  else
    let s := ((s.wrRW (STAY_TMR_CTL t) v).status (STAY_TMR_STS t) 0).modStay fun x => { x with tmrs := tput x.tmrs t default }
    tmrNext t s

/-- A write of STAY_TMR_CTL. -/
def tmrCtlWrite (t v : Nat) (s : State) : State :=
  if s.flag (STAY_TMR_CTL t) STAY_TMR_CTL_EN then
    if bit v 31 then s.inc STAY_WDROP_CNT else (s.wrRW (STAY_TMR_CTL t) v).setF (STAY_TMR_STS t) STAY_TMR_STS_TSTATE tmIDLE
  else if bit v 31 then tmrArm t v s
  else s.wrRW (STAY_TMR_CTL t) v

/-- A write of another register of a timer. -/
def tmrCfgWrite (t a v : Nat) (s : State) : State :=
  if s.flag (STAY_TMR_CTL t) STAY_TMR_CTL_EN then s.inc STAY_WDROP_CNT else s.wrRW a v

/-- TIMER_FIX: the base, extrapolated, reaches the compare within 1,250 ft (R457). A periodic timer whose next compare a step carried past
while its E was fixed fires late as soon as it can (R460). -/
def timerFix (t : Nat) (s : State) : State :=
  let n := baseNo (s.tmrBase t)
  let r := (uST : Int) + s.baseRate n
  let gap : Int := (s.tmrCmp t : Int) - s.base n
  if s.tmrSt t ≠ tmARMED ∨ ¬ s.tb1Run ∨ r ≤ 0 then s
  else if gap ≤ 0 then tmrLate t s
  else
    let d := ((gap + r - 1) / r).toNat
    if d ≤ 1250 * ft then tmrFix t (ceilFt (s.tb1 + d)) s else s

/-- The read-out channels that name a timer (R459): yard and channel. -/
def State.tmrChans (s : State) (t : Nat) : List (Nat × Nat) :=
  allYards.flatMap fun y => ((List.range 8).filter fun c =>
    s.fld (CNV_ACQ_CTL y c) CNV_ACQ_CTL_SRC == 1 && s.fld (CNV_ACQ_CTL y c) CNV_ACQ_CTL_SEL == t).map fun c => (y, c)

/-- TIMER_FIRE: at E − 16 ft a timer sends its action for release at E (R459): an EVENT to the read-out channels that name it, START to its
group, and to the blocks of the hub what they do at E. A one-shot timer then clears EN, a periodic one goes on to its next compare. -/
def timerFire (t : Nat) (s : State) : State :=
  let e := s.rdN (STAY_TMR_E t)
  let act := s.fld (STAY_TMR_CTL t) STAY_TMR_CTL_ACTION
  let arg := s.fld (STAY_TMR_CTL t) STAY_TMR_CTL_ARG
  if s.tmrSt t ≠ tmFIXED ∨ ¬ s.reached (e - 16 * ft) then s
  else
    let s := s.hold ⟨e, islHub, islHub, .ctrl, .timer t act arg⟩
    let r : State × Nat :=
      if act = 1 then lsgSend (arg % 64) lcSTART e 16 islHub s
      else if act = 0 then (forEach (s.tmrChans t) s fun p s => s.send ⟨e, islHub, p.1, .ctrl, .start p.1 p.2⟩, 0)
      else (s, s.fld (STAY_TMR_STS t) fSTATUS)
    let s := r.1.status (STAY_TMR_STS t) r.2
    if s.fld (STAY_TMR_CTL t) STAY_TMR_CTL_MODE = 1 then
      let x := tget s.stay.tmrs t
      tmrNext t (s.modStay fun y => { y with tmrs := tput y.tmrs t { x with k := x.k + 1 } })
    else (s.setF (STAY_TMR_CTL t) STAY_TMR_CTL_EN 0).setF (STAY_TMR_STS t) STAY_TMR_STS_TSTATE tmIDLE

/-- The requester of the injected request of a timer (R269): the partition that its owner is or belongs to, else host software. -/
def State.tmrInj (s : State) (t arg : Nat) : Inj :=
  let inp := 8 * (arg % 16) + bits arg 6 4
  match (s.ownOf 3 t).bind s.ownerPart with
  | some p => ⟨2, p, bits arg 19 8, inp, some t⟩
  | none => ⟨0, 0, bits arg 19 8, inp, some t⟩

/-- What the blocks of the hub do at the event time E of a timer (R409, R438, R459): the capture channels that name it trigger, a monitor ADC
takes its request, whose outcome is the timer's STATUS, and SYNCOUT gives a pulse in MODE TIMER. -/
def timerEvent (t act arg e : Nat) (s : State) : State :=
  let s := s.when (s.fld STAY_SYNCOUT STAY_SYNCOUT_MODE == 3 && s.fld STAY_SYNCOUT STAY_SYNCOUT_TSEL == t) (syncoutTrain s.clock.now 1)
  match act with
  | 0 => cnsTimer t e s
  | 2 =>
    let r := injRequest (arg % 16) (s.tmrInj t arg) s
    r.1.status (STAY_TMR_STS t) r.2
  | _ => s

/-! ### Time over Ozlink (R454 to R456) -/

/-- LINK_TIME_RX: a round trip on link `l` is complete: t1 to t4 in units of 6.25 ps of TB1, and the neighbour's TB0 (2⁻¹⁶ ns) at a
TB1 value, its RATE0 and SSTATE. -/
def linkTimeRx (l : Nat) (t1 t2 t3 t4 : Int) (tb0 at_ : Nat) (rate : Int) (sst : Nat) (s : State) : State :=
  let x := tget s.stay.lnks l
  let off := ((t2 - t1) - (t4 - t3)) * 25 / 8
  let dly := ((t2 - t1) + (t4 - t3)) * 25 / 8
  let ts := (x.trips ++ [(off, dly)])
  let ts := ts.drop (ts.length - 16)
  let s := s.modStay fun y => { y with lnks := tput y.lnks l { x with trips := ts } }
  let s :=
    if ts.length < 16 then s
    else
      let o := mean (ts.map (·.1))
      let s := (s.wrN (STAY_LNK_OFF l) (unsgn 32 o)).wrN (STAY_LNK_DLY l) (unsgn 32 (mean (ts.map (·.2))))
      let s := s.setF (STAY_LNK_STS l) STAY_LNK_STS_VALID 1
      let thr := s.fld STAY_CTL STAY_CTL_LNK_THR
      if thr ≠ 0 ∧ thr < o.natAbs then
        stayReport E_STAY_TB1_MISALIGN ((s.setF (STAY_LNK_STS l) STAY_LNK_STS_MISALIGN 1).setF STAY_STS STAY_STS_TB1_MISALIGN 1)
      else s
  if s.staySrc ≠ 2 + l ∨ sst = svFREERUN ∨ sst = svACQUIRING ∨ ¬ s.tb1Run then s
  else
    let own : Int := (s.stay.tb0 : Int) - ((s.tb1 : Int) - at_) * ((uST : Int) + s.rate0)
    let d := (own - (tb0 * uFRAC : Nat)) * 50 / 2 ^ 40
    let s := if s.sst = svFREERUN then (s.setSst svACQUIRING).modStay fun y => { y with gather := [] } else s
    exchange dly d false (some rate) s

/-- A link comes up or goes down: its round trips begin anew. -/
def linkTimeReset (l : Nat) (s : State) : State :=
  (s.modStay fun y => { y with lnks := tput y.lnks l default }).setF (STAY_LNK_STS l) STAY_LNK_STS_VALID 0

/-! ### The commands -/

/-- TB1_START. -/
def execTb1Start (s : State) : Host.Outcome State Fault Refusal := .next (hostWr STAY_CMD (stayCmd 1) s)
/-- TB1_ARM_SYNC. -/
def execTb1ArmSync (s : State) : Host.Outcome State Fault Refusal := .next (hostWr STAY_CMD (stayCmd 2) s)
/-- TB1_STOP. -/
def execTb1Stop (s : State) : Host.Outcome State Fault Refusal := .next (hostWr STAY_CMD (stayCmd 3) s)
/-- TB1_ZERO. -/
def execTb1Zero (s : State) : Host.Outcome State Fault Refusal := .next (tb1Zero s)
/-- SKEWCAL. -/
def execSkewcal (s : State) : Host.Outcome State Fault Refusal := .next (hostWr STAY_CMD (stayCmd 4) s)
/-- SKEWCAL_COMPLETE. -/
def execSkewcalComplete (s : State) : Host.Outcome State Fault Refusal := .next (skewcalComplete s)
/-- SYNCIN_EDGE. -/
def execSyncinEdge (frac : Nat) (s : State) : Host.Outcome State Fault Refusal := .next (syncinEdge frac s)
/-- STAY_STEP. -/
def execStayStep (s : State) : Host.Outcome State Fault Refusal := .next (hostWr STAY_CMD (stayCmd 5) s)
/-- STAY_SET. -/
def execStaySet (s : State) : Host.Outcome State Fault Refusal := .next (hostWr STAY_CMD (stayCmd 6) s)
/-- ACCEPT_ASYM. -/
def execAcceptAsym (s : State) : Host.Outcome State Fault Refusal := .next (hostWr STAY_CMD (stayCmd 7) s)
/-- RELOCK. -/
def execRelock (s : State) : Host.Outcome State Fault Refusal := .next (hostWr STAY_CMD (stayCmd 8) s)
/-- STAY_SNAP. -/
def execStaySnap (s : State) : Host.Outcome State Fault Refusal := .next (hostWr STAY_SNAP (staySnap 1) s)
/-- STAY_SRC_WRITE: a write of STAY_CTL that changes SRC only. -/
def execStaySrcWrite (src : Nat) (s : State) : Host.Outcome State Fault Refusal :=
  .next (hostWr STAY_CTL (stayCtlWrite (s.rdN STAY_CTL / 16 * 16 + src % 16)) s)
/-- PTP_SYNC_RX. -/
def execPtpSyncRx (ds : List Nat) (t1 : Option Int) (corr t2 : Int) (s : State) : Host.Outcome State Fault Refusal :=
  .next (ptpSync ds t1 corr t2 s)
/-- PTP_FOLLOW_UP_RX. -/
def execPtpFollowUpRx (ds : List Nat) (t1 corr : Int) (s : State) : Host.Outcome State Fault Refusal := .next (ptpFollowUp ds t1 corr s)
/-- PTP_DELAY_REQ_TX. -/
def execPtpDelayReqTx (t3 : Int) (s : State) : Host.Outcome State Fault Refusal := .next (ptpDelayReq t3 s)
/-- PTP_DELAY_RESP_RX. -/
def execPtpDelayRespRx (ds : List Nat) (t4 corr : Int) (s : State) : Host.Outcome State Fault Refusal := .next (ptpDelayResp ds t4 corr s)
/-- PTP_ANNOUNCE_RX. -/
def execPtpAnnounceRx (domain : Nat) (ds : List Nat) (k : Nat) (s : State) : Host.Outcome State Fault Refusal :=
  .next (ptpAnnounce domain ds k s)
/-- TPORT_OTHER_FRAME: the frame is dropped (R443). -/
def execTportOtherFrame (s : State) : Host.Outcome State Fault Refusal := .next s
/-- ANNOUNCE_TIMEOUT. -/
def execAnnounceTimeout (s : State) : Host.Outcome State Fault Refusal := .next (announceTimeout s)
/-- TBN_SET_AT_WRITE. -/
def execTbnSetAtWrite (n v : Nat) (s : State) : Host.Outcome State Fault Refusal := .next (hostWr (STAY_TBN_SET_AT n) (tbnSetAt n v) s)
/-- TBN_SET_APPLY. -/
def execTbnSetApply (n : Nat) (s : State) : Host.Outcome State Fault Refusal := .next (tbnSetApply n s)
/-- TIMER_ARM: the rest of the written STAY_TMR_CTL is `v`. -/
def execTimerArm (t v : Nat) (s : State) : Host.Outcome State Fault Refusal :=
  .next (hostWr (STAY_TMR_CTL t) (tmrCtlWrite t (2 ^ 31 + v % 2 ^ 31)) s)
/-- TIMER_FIX. -/
def execTimerFix (t : Nat) (s : State) : Host.Outcome State Fault Refusal := .next (timerFix t s)
/-- TIMER_FIRE. -/
def execTimerFire (t : Nat) (s : State) : Host.Outcome State Fault Refusal := .next (timerFire t s)
/-- SYNCOUT_OFF. -/
def execSyncoutOff (s : State) : Host.Outcome State Fault Refusal := .next (hostWr STAY_SYNCOUT (syncoutWrite 0) s)
/-- SYNCOUT_PULSE. -/
def execSyncoutPulse (s : State) : Host.Outcome State Fault Refusal := .next (hostWr STAY_SYNCOUT (syncoutWrite 0x100) s)
/-- SYNCOUT_BURST. -/
def execSyncoutBurst (s : State) : Host.Outcome State Fault Refusal := .next (hostWr STAY_SYNCOUT (syncoutWrite 0x200) s)
/-- SYNCOUT_TIMER. -/
def execSyncoutTimer (tsel : Nat) (s : State) : Host.Outcome State Fault Refusal :=
  .next (hostWr STAY_SYNCOUT (syncoutWrite (0x300 + tsel % 128)) s)

end Sys2Proof.Machine
end

