-- ==== Sys2Proof/Machine/Ozlink.lean ====
section
/-! DEFINITION. Ozlink (chapter 15, R462 to R487): links, flits, retry, training, lanes, power states and test. -/

namespace Sys2Proof.Machine

/-! ### Links -/

/-- A link's own state. -/
def State.link (s : State) (l : Nat) : OzlLink := tget s.ozl.links l

/-- Changing it. -/
def State.setLink (s : State) (l : Nat) (x : OzlLink) : State := { s with ozl := { s.ozl with links := tput s.ozl.links l x } }
def State.modLink (s : State) (l : Nat) (f : OzlLink → OzlLink) : State := s.setLink l (f (s.link l))

/-- Link states (Table 15-8). -/
def lsDISABLED : Nat := 0
def lsDETECT : Nat := 1
def lsTRAIN : Nat := 2
def lsUP : Nat := 3
def lsDEGRADED : Nat := 4
def lsUPSLOW : Nat := 5
def lsRECOVERY : Nat := 6
def lsTEST : Nat := 7

/-- LSTATE; OZL_GSTS shows the links in UP or DEGRADED. -/
def State.lst (s : State) (l : Nat) : Nat := s.fld (OZL_STS l) OZL_STS_LSTATE
def State.setLst (s : State) (l v : Nat) : State :=
  (s.setF (OZL_STS l) OZL_STS_LSTATE v).setF OZL_GSTS (l, 1) (b01 (v == lsUP || v == lsDEGRADED))

/-- Does the link carry flits? -/
def State.lCarries (s : State) (l : Nat) : Bool := s.lst l == lsUP || s.lst l == lsDEGRADED || s.lst l == lsUPSLOW

/-- Lane maps, and the rate in force. -/
def State.txMap (s : State) (l : Nat) : Nat := s.fld (OZL_STS l) OZL_STS_TXMAP
def State.rxMap (s : State) (l : Nat) : Nat := s.fld (OZL_STS l) OZL_STS_RXMAP
def State.lRate (s : State) (l : Nat) : Nat := s.fld (OZL_STS l) OZL_STS_RATE

/-- An event of a link: its code in STATUS and at the fault manager. -/
def lEvent (l code : Nat) (s : State) : State := (s.status (OZL_STS l) code).report code (islLink l) l

/-- LANESTATE. -/
def lnOFF : Nat := 0
def lnTRAINING : Nat := 1
def lnACTIVE : Nat := 2
def lnLOST : Nat := 3
def lnPARKED : Nat := 4
def lnTEST : Nat := 5
def State.lane (s : State) (l i : Nat) : Nat := s.fld (OZL_LSTS l i) OZL_LSTS_LANESTATE
def State.setLane (s : State) (l i v : Nat) : State := s.setF (OZL_LSTS l i) OZL_LSTS_LANESTATE v
def State.setLanes (s : State) (l v : Nat) : State := forEach (List.range 4) s fun i s => s.setLane l i v

/-! ### CRC-16 and flits (R467, Tables 15-3 to 15-5) -/

/-- One bit of CRC-16 (polynomial 0x8BB7, most significant bit first). -/
def crc16Bit (c : Nat) (b : Bool) : Nat :=
  let x := 2 * c % 65536
  if Bool.xor (bit c 15) b then x ^^^ 0x8BB7 else x

/-- CRC-16 of the `n` bits of a value. -/
def crc16 (n v : Nat) : Nat := (List.range n).foldl (fun c i => crc16Bit c (bit v (n - 1 - i))) 0xFFFF

/-- A flit from its bits [255:16]. -/
def flitSeal (v : Nat) : Nat := v * 65536 + crc16 240 v

/-- Bits [255:16] of a flit. -/
def flitBody (typ cls seq : Nat) (ackv : Bool) (ack crCls crCnt payload : Nat) : Nat :=
  typ * 2 ^ 236 + cls * 2 ^ 233 + b01 ackv * 2 ^ 232 + seq * 2 ^ 224 + ack * 2 ^ 216 + crCls * 2 ^ 213 + crCnt * 2 ^ 208
    + payload % 2 ^ 208

/-- Fields of a received flit. -/
def flType (f : Nat) : Nat := bits f 255 252
def flClass (f : Nat) : Nat := bits f 251 249
def flSeq (f : Nat) : Nat := bits f 247 240
def flAck (f : Nat) : Nat := bits f 239 232
def flPay (f : Nat) : Nat := bits f 223 16

/-- A good CRC, a TYPE and a CLASS that are not reserved, and no reserved SUB of an FB payload. -/
def flGood (f : Nat) : Bool :=
  crc16 240 (bits f 255 16) == bits f 15 0 && decide (flType f ≤ 5)
    && (flType f != 1 || flClass f == 0 || flClass f == 2 || flClass f == 3 || flClass f == 4)
    && !(flType f == 1 && flClass f == 0 && decide (2 < bits (flPay f) 207 204))

/-- The classes in the order of R472, and their buffers (Table 15-6a). -/
def ozlClasses : List Nat := [0, 2, 3, 4]
def ozlBuffers (c : Nat) : Nat := match c with | 0 => 64 | 2 => 512 | 3 => 256 | _ => 128

/-! ### FB payloads (Table 15-4) -/

/-- A DEC payload of up to ten decisions of one release time. -/
def decPayload (rel : Nat) (ds : List (Nat × Nat)) : Nat :=
  rel % 2 ^ 40 * 2 ^ 164 + ds.length * 2 ^ 160
    + (ds.zipIdx.map fun (d, i) => (d.1 * 64 + d.2 % 64) * 2 ^ (144 - 16 * i)).foldl (· + ·) 0

/-- A boundary record. -/
def bndRecord (e : BEdge) : Nat :=
  e.pair % 65536 * 2 ^ 24 + b01 e.odd * 2 ^ 23 + b01 e.bnd * 2 ^ 22 + b01 e.route * 2 ^ 21 + min 65535 e.grown

/-- The payloads of a boundary message. -/
def bndPayloads (rel : Nat) (m : BMsg) : List Nat :=
  let rs := m.edges.map bndRecord
  let hdr := 2 ^ 204 + rel % 2 ^ 40 * 2 ^ 164 + m.ctx % 8 * 2 ^ 161 + m.pass % 8 * 2 ^ 158 + b01 m.peel * 2 ^ 157
    + m.replay % 16 * 2 ^ 153 + rs.length % 32 * 2 ^ 148 + m.round % 2 ^ 24 * 2 ^ 124 + m.shot % 2 ^ 32 * 2 ^ 92
    + rs.getD 0 0 * 2 ^ 52 + rs.getD 1 0 * 2 ^ 12
  hdr :: (chunks 4 rs.length (rs.drop 2)).map fun c =>
    2 * 2 ^ 204 + rel % 2 ^ 40 * 2 ^ 164 + c.length * 2 ^ 161
      + (c.zipIdx.map fun (r, i) => r * 2 ^ (121 - 40 * i)).foldl (· + ·) 0

/-- Runs of decisions of equal release time, at most ten each. -/
def decRuns : List Copy → List (Nat × List (Nat × Nat))
  | [] => []
  | c :: t =>
    match decRuns t with
    | (r, ds) :: u => if r = c.rel ∧ ds.length < 10 then (r, (c.slot, c.dec) :: ds) :: u else (c.rel, [(c.slot, c.dec)]) :: (r, ds) :: u
    | [] => [(c.rel, [(c.slot, c.dec)])]

/-- Copies and boundary messages sent for a link become items of its FB queue. -/
def ozlFeed (l : Nat) (s : State) : State :=
  let cs := s.cnv.copies.filter fun c => c.link == l
  let ms := s.dec.out.filter fun m => m.link == l
  if cs = [] ∧ ms = [] then s
  else
    let s := { s with cnv := { s.cnv with copies := s.cnv.copies.filter fun c => c.link != l },
                      dec := { s.dec with out := s.dec.out.filter fun m => m.link != l } }
    let s := forEach (decRuns cs) s fun r s => ozlQueue l 0 [decPayload r.1 r.2] s
    forEach ms s fun m s => ozlQueue l 0 (bndPayloads m.rel m.msg) s

/-! ### The transmitter (R469 to R475) -/

/-- Lanes of a mask. -/
def laneList (m : Nat) : List Nat := (List.range 4).filter fun i => bit m i

/-- The time of a 66-bit block at a rate (Table 15-1), in 1/45 st. -/
def blockTime (r : Nat) : Nat := [36, 9, 4, 2, 1].getD r 1 * 1056

/-- What a flit takes of the link, in 1/45 st: a block time on four lanes, 4/3 of it on three (R463). -/
def State.flitTime (s : State) (l : Nat) : Nat := if s.txMap l = 0xF then blockTime (s.lRate l) else blockTime (s.lRate l) * 4 / 3

/-- The self-synchronising scrambler x⁵⁸ + x³⁹ + 1 (R462): the scrambled payload of a block, after the 58 scrambled bits `st`. The bits of a
block go out from [63] on (PRESUMED: the block type leads, as in the code of Clause 49). -/
def scramble (st v : Nat) : Nat :=
  ((List.range 64).foldl (fun (p : Nat × Nat) k =>
    let o := b01 (bit v (63 - k)) ^^^ b01 (bit p.1 38) ^^^ b01 (bit p.1 57)
    ((2 * p.1 + o) % 2 ^ 58, 2 * p.2 + o)) (st, 0)).2

/-- The bytes of a payload under XOR: what a block adds to BIP-8 (R466). -/
def bipOf (v : Nat) : Nat := (List.range 8).foldl (fun b k => b ^^^ (v / 256 ^ k % 256)) 0

/-- Bits [63:16] of a control block with its CRC (R467). -/
def ctlBlock (v : Nat) : Nat := v * 65536 + crc16 48 v

/-- A scrambled block leaves on a lane: sync header 1 for data, 2 for control (R462). -/
def laneBlock (l i hdr v : Nat) (s : State) : State :=
  s.modLink l fun x =>
    let w := scramble ((tget x.scr i).getD (Config.scrSeed (4 * l + i)).toNat) v
    { x with wire := tput x.wire i (tget x.wire i ++ [hdr * 2 ^ 64 + w]), scr := tput x.scr i (some (w % 2 ^ 58)),
             bip := tput x.bip i (tget x.bip i ^^^ bipOf w) }

/-- The AM of a lane (Table 15-2). -/
def State.amBlock (s : State) (l i : Nat) : Nat :=
  let x := s.link l
  ctlBlock (0x5A * 2 ^ 40 + i * 2 ^ 38 + s.txMap l * 2 ^ 34 + x.epoch * 2 ^ 26 + tget x.bip i * 2 ^ 18)

/-- The TRAIN block of a lane with its requests (Table 15-2); RX_READY once the link stands in CONFIRM. -/
def State.trainSend (s : State) (l i preReq postReq : Nat) : Nat :=
  let x := s.link l
  let a := tget x.ans i
  ctlBlock (0x3C * 2 ^ 40 + i * 2 ^ 38 + s.lRate l * 2 ^ 35 + s.fld (OZL_CTL l) OZL_CTL_MAXRATE * 2 ^ 32
    + s.fld (OZL_PEER l) OZL_PEER_TPHASE / 4 * 2 ^ 29 + preReq * 2 ^ 27 + postReq * 2 ^ 25 + a.1 * 2 ^ 23 + a.2 * 2 ^ 21
    + b01 (s.fld (OZL_PEER l) OZL_PEER_TPHASE / 4 == 5) * 2 ^ 20 + s.img.devId % 16 * 2 ^ 12 + l * 2 ^ 9 + x.tcount % 512)

/-- A TRAIN block leaves on a lane, unscrambled (R462). What the receiver asks for in EQ the manual leaves to it. -/
def trainLane (l i : Nat) (s : State) : State :=
  let eq : Bool := s.fld (OZL_PEER l) OZL_PEER_TPHASE / 4 == 3
  let a := if eq then s.freeN % 3 else 0
  let b := if eq then s.nextFree.freeN % 3 else 0
  let v := s.trainSend l i a b
  (s.when eq fun s => s.nextFree.nextFree).modLink l fun x => { x with wire := tput x.wire i (tget x.wire i ++ [2 * 2 ^ 64 + v]) }

/-- One TRAIN block on each of some lanes. -/
def trainRow (l : Nat) (is : List Nat) (s : State) : State :=
  if is = [] then s else (forEach is s fun i s => trainLane l i s).modLink l fun x => { x with tcount := (x.tcount + 1) % 512 }

/-- A block position begins on every lane in use: after 16,383 others comes an AM on all of them (R466); a lane that retrains alone sends TRAIN
blocks (R481). -/
def rowStart (l : Nat) (s : State) : State :=
  let lanes := laneList (s.txMap l)
  let am (s : State) : State :=
    (forEach lanes s fun i s => (laneBlock l i 2 (s.amBlock l i) s).modLink l fun x => { x with bip := tput x.bip i 0 }).modLink l
      fun x => { x with rows := 0, slotAt := x.slotAt + blockTime (s.lRate l) }
  let s := s.when ((s.link l).rows == 16383) am
  let s := trainRow l ((List.range 4).filter fun i => !lanes.contains i && s.lane l i == lnTRAINING) s
  s.modLink l fun x => { x with rows := x.rows + 1 }

/-- The blocks of a flit on the lanes of the map (R463): block j on the lane in position j of four; on three lanes in turn, in ascending order,
from flit to flit. -/
def flitBlocks (l f : Nat) (s : State) : State :=
  let lanes := laneList (s.txMap l)
  forEach (List.range 4) s fun j s =>
    let p := (s.link l).rr % lanes.length
    let s := s.when (p == 0) (rowStart l)
    (laneBlock l (lanes.getD p 0) 1 (bits f (64 * j + 63) (64 * j)) s).modLink l fun x => { x with rr := (p + 1) % lanes.length }

/-- A flit leaves with the ACK and the credits that are due. -/
def ozlEmit (l typ cls seq payload : Nat) (s : State) : State :=
  let x := s.link l
  let cr := (ozlClasses.find? fun c => tget x.owed c != 0).getD 0
  let n := min 31 (tget x.owed cr)
  let f := flitSeal (flitBody typ cls seq x.rxAny ((x.rxNext + 255) % 256) (if n = 0 then 0 else cr) n payload)
  let bad := typ == 1 && x.inj
  let f := if bad then f ^^^ 1 else f
  flitBlocks l f (s.setLink l { x with out := x.out ++ [(false, f)], inj := x.inj && !bad,
                                       owed := tput x.owed cr (tget x.owed cr - n),
                                       slotAt := max x.slotAt (45 * s.clock.now) + s.flitTime l })

/-- A DATA flit leaves for the first time. -/
def ozlData (l cls payload : Nat) (s : State) : State :=
  let x := s.link l
  let q := x.seq
  let s := s.setLink l { x with seq := (q + 1) % 256, retry := x.retry ++ [(q, cls, payload)], dataAt := s.clock.now,
                                ackAt := if x.retry = [] then s.clock.now else x.ackAt,
                                dry := if cls = 4 ∧ tget x.credits 4 = 1 then s.clock.now else x.dry,
                                credits := tput x.credits cls (tget x.credits cls - 1) }
  ozlEmit l 1 cls q payload s

/-- The next new DATA payload that may go, in class order. -/
def State.ozlPick (s : State) (l : Nat) : Option OzlTx :=
  let x := s.link l
  if 128 ≤ x.retry.length then none
  else
    let cls := ozlClasses.filter fun c => tget x.credits c != 0 && (c != 0 || s.lst l != lsUPSLOW)
    cls.findSome? fun c => x.txq.find? fun t => t.cls == c

/-- TB1 in eighths of an st, 51 bits (R468). -/
def State.ts51 (s : State) : Nat := s.tb1 % 2 ^ 48 * 8

/-- The payload of a TIME flit and of the TIME_TB0 flit that completes it (Table 15-5). -/
def State.timePayload (s : State) (l : Nat) : Nat :=
  let x := s.link l
  (x.mseq + 1) % 256 * 2 ^ 200 + x.peerSeq * 2 ^ 192 + s.ts51 * 2 ^ 141 + x.peerAt % 2 ^ 51 * 2 ^ 90
    + s.rdN STAY_TB0_RATE % 2 ^ 32 * 2 ^ 58 + s.sst * 2 ^ 55
def State.timeTb0Payload (s : State) (l : Nat) : Nat :=
  let ns := baseNs s.stay.tb0
  ((s.link l).mseq + 1) % 256 * 2 ^ 200 + baseSec s.stay.tb0 % 2 ^ 48 * 2 ^ 152 + ns / 65536 % 2 ^ 32 * 2 ^ 120 + ns % 65536 * 2 ^ 104

/-- One flit slot of a link, in the order of R472. -/
def ozlSlot (l : Nat) (s : State) : State :=
  let x := s.link l
  if x.nak then ozlEmit l 2 0 0 0 (s.setLink l { x with nak := false })
  else match x.ctl with
    | p :: t => ozlEmit l 5 0 0 p (s.setLink l { x with ctl := t })
    | [] =>
      match x.timeB with
      | some p => ozlEmit l 4 0 0 p (s.setLink l { x with timeB := none })
      | none =>
        if x.timeAsk then
          let p := s.timePayload l
          let b := s.timeTb0Payload l
          ozlEmit l 3 0 0 p (s.setLink l { x with timeAsk := false, timeB := some b, mseq := (x.mseq + 1) % 256, txTs := s.ts51 })
        else match x.resend with
          | (q, c, p) :: t => ozlEmit l 1 c q p (s.setLink l { x with resend := t })
          | [] =>
            match s.ozlPick l with
            | some t => ozlData l t.cls t.payload (s.setLink l { x with txq := x.txq.erase t })
            | none => ozlEmit l 0 0 0 0 s

/-- Does a forwarding entry or an enabled decoder context name a link (R483)? -/
def State.linkNamed (s : State) (l : Nat) : Bool :=
  (s.regs.any fun (a, v) => decide (0xB20000 ≤ a ∧ a < 0xB21000) && (getF v SHT_FWD_LINKS).testBit l)
    || (List.range 8).any fun x => s.decEn x && (s.fld (DEC_XCFG x) DEC_XCFG_LINKS).testBit l

/-- The transmit direction starts to leave LS1 or LS2 (R482, R483). -/
def lsExit (l : Nat) (s : State) : State :=
  let ls := s.fld (OZL_PMSTS l) OZL_PMSTS_TX_LS
  if ls ≠ 0 ∧ (s.link l).lsAt = 0 then
    s.modLink l fun x => { x with lsAt := s.clock.now + (if ls = 1 then 250 else 50000) * ft }
  else s

/-- One st of a link that trains: TRAIN blocks on every lane, one each block time (Table 15-8). -/
def trainTick (l : Nat) (s : State) : State :=
  let x := s.link l
  if x.slotAt ≤ 45 * s.clock.now then
    (trainRow l (List.range 4) s).modLink l fun y => { y with slotAt := max x.slotAt (45 * s.clock.now) + blockTime (s.lRate l) }
  else s

/-- One st of a link: what was sent for it is queued, a power state ends when DATA waits or the link is named, and the transmitter
fills a flit slot when its time has come. -/
def ozlTick (l : Nat) (s : State) : State :=
  if s.lst l = lsDETECT ∨ s.lst l = lsTRAIN ∨ s.lst l = lsRECOVERY then trainTick l s
  else if ¬ s.lCarries l then s
  else
    let s := ozlFeed l s
    let x := s.link l
    let s := if s.fld (OZL_PMSTS l) OZL_PMSTS_TX_LS = 0 then s
      else if x.txq ≠ [] ∨ x.resend ≠ [] ∨ s.linkNamed l then lsExit l s else s
    if s.fld (OZL_PMSTS l) OZL_PMSTS_TX_LS = 0 ∧ x.slotAt ≤ 45 * s.clock.now then ozlSlot l s else s

/-! ### Link down and up (R477, R478) -/

/-- The link goes to DETECT: its queues and retry buffers are discarded, the transfers on it end, and those from its peer are forgotten. -/
def lClear (l : Nat) (s : State) : State :=
  let s := insDrop l (dmaLinkDown l s)
  let x := s.link l
  let keep : OzlLink :=
    { (default : OzlLink) with out := x.out, wire := x.wire, items := x.items, mseq := x.mseq, epoch := x.epoch, at_ := s.clock.now }
  let s := s.setLink l keep
  let s := { s with cnv := { s.cnv with copies := s.cnv.copies.filter fun c => c.link != l },
                    dec := { s.dec with out := s.dec.out.filter fun m => m.link != l } }
  let s := ((s.setF (OZL_STS l) OZL_STS_TXMAP 0).setF (OZL_STS l) OZL_STS_RXMAP 0).setF (OZL_STS l) OZL_STS_RATE 0
  let s := (s.setF (OZL_PMSTS l) OZL_PMSTS_TX_LS 0).setF (OZL_PMSTS l) OZL_PMSTS_RX_LS 0
  linkTimeReset l (s.setF (OZL_PEER l) OZL_PEER_TPHASE 0)

/-- R477: the link goes to DETECT with E_OZL_LINK_DOWN. -/
def linkDown (l : Nat) (s : State) : State :=
  if s.lst l = lsDISABLED ∨ s.lst l = lsTEST then s
  else lEvent l E_OZL_LINK_DOWN (((lClear l s).setLst l lsDETECT).setLanes l lnTRAINING |>.inc (OZL_DOWN_CNT l))

/-- Every link: entry into SAFE. -/
def linksDown (s : State) : State := forEach (List.range 6) s linkDown

/-- DISABLED and DETECT follow EN and the device state (Table 15-8). -/
def linksDevice (s : State) : State :=
  forEach (List.range 6) s fun l s =>
    if s.dev = dBOOT ∨ s.dev = dCONFIG then
      if s.lst l = lsDISABLED ∨ s.lst l = lsTEST then s else ((lClear l s).setLst l lsDISABLED).setLanes l lnOFF
    else if s.lst l = lsDISABLED ∧ s.flag (OZL_CTL l) OZL_CTL_EN ∧ (s.dev = dCAL ∨ s.dev = dREADY ∨ s.dev = dRUN) then
      ((s.setLst l lsDETECT).setLanes l lnTRAINING).modLink l fun x => { x with at_ := s.clock.now, seen := 0 }
    else s

/-- The credits of a class: its buffer less the flits sent whose credit has not returned. -/
def OzlLink.creditsOf (x : OzlLink) (c : Nat) : Nat :=
  let n (p : Bool) : Nat := b01 p
  let owed := (x.debts.map fun d => n (d.1 == c)).foldl (· + ·) 0
  let queued := (x.txq.map fun t => n (t.cls == c)).foldl (· + ·) 0
  ozlBuffers c - (owed - queued)

/-- Training has ended: the link comes up at a rate with its maps; flits not acknowledged are sent again. -/
def linkUpAt (l st rate map : Nat) (s : State) : State :=
  let s := ((s.setLst l st).setF (OZL_STS l) OZL_STS_RATE rate).setF (OZL_STS l) OZL_STS_TXMAP map
  let s := s.setF (OZL_STS l) OZL_STS_RXMAP map
  let s := forEach (List.range 4) s fun i s => s.setLane l i (if bit map i then lnACTIVE else lnLOST)
  let s := s.modLink l fun x =>
    { x with credits := ozlClasses.foldl (fun t c => tput t c (x.creditsOf c)) [], resend := x.retry, resends := 0, rr := 0,
             ackAt := s.clock.now, timeAt := s.clock.now, dataAt := s.clock.now, slotAt := 45 * s.clock.now }
  (linkTimeReset l s).status (OZL_STS l) 0

/-! ### Training (R464, R478, R479, R489) -/

/-- The training phase, shown in OZL_PEER.TPHASE. -/
def State.tphase (s : State) (l : Nat) : Nat := s.fld (OZL_PEER l) OZL_PEER_TPHASE / 4
def State.setPhase (s : State) (l p : Nat) : State := s.setF (OZL_PEER l) OZL_PEER_TPHASE (4 * p)

/-- The transmit taps of a lane, MAIN being 63 − PRE − POST (R479). -/
def setTaps (l i pre post : Nat) (s : State) : State :=
  ((s.setF (OZL_LSTS l i) OZL_LSTS_PRE pre).setF (OZL_LSTS l i) OZL_LSTS_POST post).setF (OZL_LSTS l i) OZL_LSTS_MAIN (63 - pre - post)

/-- Training (re)starts at a rate; at rate 0 every lane stands at its LINK_TOPO preset (R478). -/
def trainRate (l r : Nat) (s : State) : State :=
  let cfg := tget s.img.links l
  let s := s.when (r == 0) fun s => forEach (List.range 4) s fun i s => setTaps l i cfg.pre cfg.post s
  ((s.setF (OZL_STS l) OZL_STS_RATE r).setPhase l 0).modLink l fun x => { x with at_ := s.clock.now, slotAt := 45 * s.clock.now, ans := [] }

/-- A tap moves by one step on a request, within PRE ≤ 15, POST ≤ 23 and MAIN ≥ 40 (R479). -/
def tapStep (req cur limit other : Nat) : Nat :=
  if req = 1 then (if cur < limit ∧ cur + other < 23 then cur + 1 else cur) else if req = 2 then cur - 1 else cur

/-- The status that answers a request: not updated, updated or at limit (R479). -/
def tapAnswer (req cur new : Nat) : Nat := if req = 0 ∨ req = 3 then 0 else if new = cur then 2 else 1

/-- The peer's requests act on the transmit taps of a lane, and its next TRAIN blocks carry the answers. -/
def tapRequest (l i preReq postReq : Nat) (s : State) : State :=
  let pre0 := s.fld (OZL_LSTS l i) OZL_LSTS_PRE
  let post0 := s.fld (OZL_LSTS l i) OZL_LSTS_POST
  let pre := tapStep preReq pre0 15 post0
  let post := tapStep postReq post0 23 pre
  (setTaps l i pre post s).modLink l fun x => { x with ans := tput x.ans i (tapAnswer preReq pre0 pre, tapAnswer postReq post0 post) }

/-- TRAIN_BLOCK_RX: a control block (Table 15-2) arrives on lane `i`, its polarity inverted or not. -/
def trainBlock (l i b : Nat) (inv : Bool) (s : State) : State :=
  let st := s.lst l
  let cfg := tget s.img.links l
  let dev := bits b 31 28
  let peer := bits b 27 25
  if bits b 63 56 ≠ 0x3C ∨ crc16 48 (bits b 63 16) ≠ bits b 15 0 then s
  else if s.lCarries l ∧ s.lane l i = lnTRAINING then tapRequest l i (bits b 44 43) (bits b 42 41) s
  else if st ≠ lsDETECT ∧ st ≠ lsTRAIN ∧ st ≠ lsRECOVERY then s
  else if s.clock.now < (s.link l).retryAt then s
  else
    let s := (s.setF (OZL_PEER l) OZL_PEER_DEV dev).setF (OZL_PEER l) OZL_PEER_LINK peer
    let s := (s.setF (OZL_LSTS l i) OZL_LSTS_POL_INV (b01 inv)).setF (OZL_STS l) OZL_STS_REVERSED (b01 (bits b 55 54 != i))
    if dev ≠ cfg.peerDev ∨ peer ≠ cfg.peerLink then
      let s := if st = lsDETECT then s else (lClear l s).setLst l lsDETECT
      lEvent l E_OZL_PEER s
    else
      let s := s.modLink l fun x => { x with peerMax := bits b 50 48, seen := x.seen ||| 2 ^ i }
      let s := if 2 ≤ s.lRate l ∧ st = lsTRAIN then tapRequest l i (bits b 44 43) (bits b 42 41) s else s
      if st = lsDETECT ∧ (s.link l).seen = 0xF then trainRate l 0 (s.setLst l lsTRAIN) else s

/-- TRAIN_PHASE_DONE. -/
def trainPhaseDone (l : Nat) (s : State) : State :=
  let p := s.tphase l
  let r := s.lRate l
  if s.lst l = lsTRAIN then
    if p < 5 then s.setPhase l (if p = 2 ∧ r < 2 then 4 else p + 1)
    else if r < min (s.fld (OZL_CTL l) OZL_CTL_MAXRATE) (s.link l).peerMax then trainRate l (r + 1) s
    else if r = 4 then linkUpAt l lsUP 4 0xF s
    else linkUpAt l lsUPSLOW r 0xF s
  else if s.lst l = lsRECOVERY then
    if p < 5 then s.setPhase l (p + 1)
    else linkUpAt l (if s.txMap l = 0xF then lsUP else lsDEGRADED) 4 (s.txMap l) s
  else s

/-- TRAIN_RATE_TIMEOUT: the rate did not complete within 2 ms; `failed` names the lanes whose phase failed. -/
def trainRateTimeout (l failed : Nat) (s : State) : State :=
  let r := s.lRate l
  if s.lst l ≠ lsTRAIN ∨ s.clock.now < (s.link l).at_ + 40000000 then s
  else if r = 0 then
    (lEvent l E_OZL_TIMEOUT ((lClear l s).setLst l lsDETECT)).modLink l fun x => { x with retryAt := s.clock.now + 2000000000 }
  else if r = 4 ∧ (laneList failed).length = 1 ∧ 3 ≤ s.tphase l then linkUpAt l lsDEGRADED 4 (0xF - failed % 16) s
  else lEvent l E_OZL_TRAIN_RATE (linkUpAt l lsUPSLOW (r - 1) 0xF s)

/-- OZL_DETECT_RETRY: after 100 ms a failed link, or a lane that failed to retrain, tries again. -/
def detectRetry (l i : Nat) (s : State) : State :=
  let x := s.link l
  if s.clock.now < x.retryAt then s
  else if s.lst l = lsDETECT then s.setLink l { x with retryAt := 0, seen := 0, at_ := s.clock.now }
  else if s.lst l = lsDEGRADED ∧ s.lane l i = lnLOST then (s.setLane l i lnTRAINING).modLink l fun x => { x with retryAt := 0 }
  else s

/-- The link enters RECOVERY (R470). -/
def toRecovery (l : Nat) (s : State) : State :=
  lEvent l E_OZL_RETRY_LIMIT (((s.setLst l lsRECOVERY).setPhase l 1).modLink l fun x => { x with at_ := s.clock.now, resends := 0 })

/-- RECOVERY_TIMEOUT: after 2 ms the link trains from rate 0. -/
def recoveryTimeout (l : Nat) (s : State) : State :=
  if s.lst l = lsRECOVERY ∧ (s.link l).at_ + 40000000 ≤ s.clock.now then trainRate l 0 (s.setLst l lsTRAIN) else s

/-! ### Lanes: AM, re-striping, retraining, parking (R466, R480, R481, R485) -/

/-- An RS block leaves on the lanes of a new transmit map, which holds from the next block (R480, R481). -/
def sendRs (l map : Nat) (s : State) : State :=
  let x := s.link l
  let ep := (x.epoch + 1) % 256
  let v (i : Nat) : Nat := ctlBlock (0x66 * 2 ^ 40 + i * 2 ^ 38 + map * 2 ^ 34 + ep * 2 ^ 26)
  let s := s.setLink l { x with epoch := ep, out := x.out ++ [(true, v ((laneList map).headD 0))], rr := 0, rows := x.rows + 1,
                                slotAt := max x.slotAt (45 * s.clock.now) + blockTime (s.lRate l) }
  ((forEach (laneList map) s fun i s => laneBlock l i 2 (v i) s).setF (OZL_STS l) OZL_STS_TXMAP map).inc (OZL_RESTRIPE_CNT l)

/-- UP or DEGRADED, by the two maps. -/
def lMapState (l : Nat) (s : State) : State :=
  if s.lst l = lsUP ∨ s.lst l = lsDEGRADED then s.setLst l (if s.txMap l = 0xF ∧ s.rxMap l = 0xF then lsUP else lsDEGRADED) else s

/-- A LINKCTL payload waits to be sent. -/
def sendCtl (l cmd arg : Nat) (s : State) : State := s.modLink l fun x => { x with ctl := x.ctl ++ [cmd * 2 ^ 204 + arg * 2 ^ 200] }

/-- RS_RX: the receiver switches to the new map. -/
def rsRx (l b : Nat) (s : State) : State :=
  let map := bits b 53 50
  if ¬ s.lCarries l ∨ bits b 63 56 ≠ 0x66 ∨ crc16 48 (bits b 63 16) ≠ bits b 15 0 ∨ bits b 49 42 ≠ ((s.link l).rxEpoch + 1) % 256 then s
  else
    let s := (s.modLink l fun x => { x with rxEpoch := bits b 49 42 }).setF (OZL_STS l) OZL_STS_RXMAP map
    let s := forEach (laneList map) s fun i s => s.setLane l i lnACTIVE
    lMapState l (s.inc (OZL_RESTRIPE_CNT l))

/-- LANE_LOST: a receiving lane is lost; the second in one direction takes the link down (R477, R480). -/
def laneLost (l i : Nat) (s : State) : State :=
  if ¬ s.lCarries l ∨ ¬ bit (s.rxMap l) i ∨ s.lane l i ≠ lnACTIVE then s
  else if s.rxMap l ≠ 0xF ∨ (List.range 4).any (fun j => j != i && s.lane l j != lnACTIVE) then linkDown l s
  else lMapState l (sendCtl l 1 i (lEvent l E_OZL_LANE_LOST (s.setLane l i lnLOST)))

/-- AM_RX on lane `i`: the block, the BIP-8 that the receiver computed, and whether it is within the deskew range; after three that are not, in a
row, the lane is lost (R466, R480). -/
def amRx (l i b bip : Nat) (inRange : Bool) (s : State) : State :=
  if ¬ s.lCarries l ∨ bits b 63 56 ≠ 0x5A ∨ crc16 48 (bits b 63 16) ≠ bits b 15 0 then s
  else
    let s := s.when (bits b 41 34 != bip % 256) fun s => s.inc (OZL_BIP_ERR l i)
    let n := if inRange then 0 else tget (s.link l).amMiss i + 1
    let s := s.modLink l fun x => { x with amMiss := tput x.amMiss i (if n = 3 then 0 else n) }
    if n = 3 then laneLost l i s else s

/-- LANE_RETRAIN_DONE. -/
def laneRetrainDone (l i : Nat) (s : State) : State :=
  if s.lCarries l ∧ (s.lane l i = lnLOST ∨ s.lane l i = lnTRAINING) then sendCtl l 2 i (s.setLane l i lnTRAINING) else s

/-- A write of OZL_LCFG.PARK (R485). -/
def park (l i : Nat) (on : Bool) (s : State) : State :=
  let was := s.flag (OZL_LCFG l i) OZL_LCFG_PARK
  if on ∧ ¬ was then
    if (List.range 4).any fun j => j != i && (!bit (s.txMap l) j || !bit (s.rxMap l) j) then s.status (OZL_STS l) E_OZL_STATE
    else
      let s := sendCtl l 1 i ((s.setF (OZL_LCFG l i) OZL_LCFG_PARK 1).setLane l i lnPARKED)
      lMapState l (if bit (s.txMap l) i then sendRs l (s.txMap l - 2 ^ i) s else s)
  else if ¬ on ∧ was then (s.setF (OZL_LCFG l i) OZL_LCFG_PARK 0).setLane l i lnTRAINING
  else s

/-! ### Receiving flits (R469 to R472) -/

/-- The first `n` flits of a class whose credit has not returned are settled. -/
def payDebts (cls : Nat) : Nat → List (Nat × Nat × Nat × Nat) → List (Nat × Nat × Nat × Nat)
  | 0, ds => ds
  | _, [] => []
  | n + 1, d :: ds => if d.1 = cls then payDebts cls n ds else d :: payDebts cls (n + 1) ds

/-- ACK and credits of a good flit. -/
def rxAck (l f : Nat) (s : State) : State :=
  let x := s.link l
  let known : Bool := bit f 248 && x.retry.any fun r => r.1 == flAck f
  let rest := if known then (x.retry.dropWhile fun r => r.1 != flAck f).drop 1 else x.retry
  let cls := bits f 231 229
  let n := bits f 228 224
  let x := if known then { x with retry := rest, resend := x.resend.filter rest.contains, ackAt := s.clock.now, resends := 0 } else x
  let x := if n = 0 then x
    else { x with credits := tput x.credits cls (min (ozlBuffers cls) (tget x.credits cls + n)), debts := payDebts cls n x.debts }
  (s.setLink l x).setF (OZL_PMSTS l) OZL_PMSTS_RX_LS 0

/-- A corrupt flit, or a gap in SEQ: NAK once, until the expected SEQ arrives. -/
def rxNak (l : Nat) (s : State) : State := s.modLink l fun x => if x.nakked then x else { x with nak := true, nakked := true }

/-- A flit arrives on a link that carries flits: a corrupt one makes NAK, a good one delivers its ACK and credits and then does what
`f` says when it has the type that the row names. -/
def rxFlit (l typ v : Nat) (f : State → State) (s : State) : State :=
  if ¬ s.lCarries l then s
  else if ¬ flGood v then rxNak l s
  else if flType v ≠ typ then s
  else f (rxAck l v s)

/-- DATA_FLIT_RX: accepted in sequence (R469). A credit of FB returns at once; the other classes return theirs when the data has been
taken (Table 15-6a). -/
def dataFlit (l v : Nat) (s : State) : State :=
  rxFlit l 1 v (fun s =>
    let x := s.link l
    if flSeq v = x.rxNext then
      let s := s.setLink l { x with rxNext := (x.rxNext + 1) % 256, rxAny := true, nakked := false }
      if flClass v = 0 then owe l 0 s else s
    else if (flSeq v + 256 - x.rxNext) % 256 < 128 then rxNak l s
    else s) s

/-- Every unacknowledged flit is sent again, in order; the eighth time without an ACK advance the link enters RECOVERY (R470). -/
def ozlResend (l : Nat) (s : State) : State :=
  let x := s.link l
  let s := s.setLink l { x with resend := x.retry, resends := x.resends + 1 }
  if 8 ≤ x.resends + 1 then toRecovery l s else s

/-- NAK_RX: every flit after ACK is sent again, in order. -/
def nakFlit (l v : Nat) (s : State) : State :=
  rxFlit l 2 v (fun s => (if (s.link l).retry = [] then s else ozlResend l s).inc (OZL_RETRY_CNT l)) s

/-- IDLE_FLIT_RX. -/
def idleFlit (l v : Nat) (s : State) : State := rxFlit l 0 v (fun s => s) s

/-- A signed difference of 51-bit timestamps. -/
def diff51 (a b : Nat) : Int := sgn 51 (a + 2 ^ 51 - b % 2 ^ 51)

/-- TIME_FLIT_RX: the peer's message and its arrival in eighths of an st; an echo of the last message sent makes a round trip
(R454, R468). -/
def timeFlit (l v arr : Nat) (s : State) : State :=
  rxFlit l 3 v (fun s =>
    let p := flPay v
    let x := s.link l
    let t3 := bits p 191 141
    let trip : Option OzlTrip :=
      if bits p 199 192 = x.mseq ∧ x.timeAt ≠ 0 then
        some ⟨diff51 (bits p 140 90) x.txTs, diff51 arr t3, t3 / 8, sgn 32 (bits p 89 58), bits p 57 55, bits p 207 200, none⟩
      else none
    s.setLink l { x with peerSeq := bits p 207 200, peerAt := arr % 2 ^ 51, trip := trip }) s

/-- TIME_TB0_FLIT_RX: the TB0 value of the TIME flit of the same MSEQ. -/
def timeTb0Flit (l v : Nat) (s : State) : State :=
  rxFlit l 4 v (fun s =>
    let p := flPay v
    let tb0 := (bits p 199 152 * 10 ^ 9 + bits p 151 120) * 65536 + bits p 119 104
    let take (t : OzlTrip) : OzlTrip := if t.mseq = bits p 207 200 then { t with tb0 := some tb0 } else t
    s.modLink l fun x => { x with trip := x.trip.map take }) s

/-- A LINKCTL flit of a command. -/
def ctlFlit (l cmd v : Nat) (f : Nat → State → State) (s : State) : State :=
  rxFlit l 5 v (fun s => if bits (flPay v) 207 204 = cmd then f (bits (flPay v) 203 200) s else s) s

/-- LANE_DOWN_RX: the transmitter re-stripes onto three lanes; a second lane takes the link down. -/
def laneDownRx (l v : Nat) (s : State) : State :=
  ctlFlit l 1 v (fun i s =>
    if ¬ bit (s.txMap l) i then s
    else if s.txMap l ≠ 0xF then linkDown l s
    else lMapState l (sendRs l (0xF - 2 ^ i) s)) s

/-- LANE_READY_RX. -/
def laneReadyRx (l v : Nat) (s : State) : State :=
  ctlFlit l 2 v (fun i s => if bit (s.txMap l) i then s else lMapState l (sendRs l (s.txMap l + 2 ^ (i % 4)) s)) s

/-- LS_ENTER_RX: the receive direction follows, and LS_ACK answers. -/
def lsEnterRx (l v : Nat) (s : State) : State :=
  ctlFlit l 3 v (fun a s => sendCtl l 4 a (s.setF (OZL_PMSTS l) OZL_PMSTS_RX_LS a)) s

/-- Time messages stop in LS2, and VALID clears (R483). -/
def ls2Check (l : Nat) (s : State) : State :=
  if s.fld (OZL_PMSTS l) OZL_PMSTS_TX_LS = 2 ∨ s.fld (OZL_PMSTS l) OZL_PMSTS_RX_LS = 2 then s.setF (STAY_LNK_STS l) STAY_LNK_STS_VALID 0 else s

/-- LS_ACK_RX: the transmitter stops sending. -/
def lsAckRx (l v : Nat) (s : State) : State :=
  ls2Check l (ctlFlit l 4 v (fun a s =>
    if (s.link l).lsAsk = a ∧ a ≠ 0 then
      (s.modLink l fun x => { x with lsAsk := 0, lsAt := 0 }).setF (OZL_PMSTS l) OZL_PMSTS_TX_LS a
    else s) s)

/-! ### Time-outs (R470, R473, R475) -/

/-- ACK_TIMEOUT. -/
def ackTimeout (l : Nat) (s : State) : State :=
  let x := s.link l
  if s.lCarries l ∧ x.retry ≠ [] ∧ x.ackAt + 2500 * ft ≤ s.clock.now then
    ozlResend l (s.setLink l { x with ackAt := s.clock.now })
  else s

/-- The first entry of a class after `k` of them, and the list without it. -/
def cutDebt (cls : Nat) : Nat → List (Nat × Nat × Nat × Nat) → Option (Nat × Nat × Nat × Nat) × List (Nat × Nat × Nat × Nat)
  | _, [] => (none, [])
  | k, d :: ds =>
    if d.1 ≠ cls then (let r := cutDebt cls k ds; (r.1, d :: r.2))
    else match k with
      | 0 => (some d, ds)
      | k + 1 => (let r := cutDebt cls k ds; (r.1, d :: r.2))

/-- Flits of a class on their way or at the peer: those owed less those queued. -/
def OzlLink.aloft (x : OzlLink) (c : Nat) : Nat := ozlBuffers c - x.creditsOf c

/-- TRACE_CREDIT_TIMEOUT: the oldest TRACE flit has waited for credit longer than 10 µs (R473); its transfer ends with E_DMA_TRACE_DROP. -/
def traceTimeout (l : Nat) (s : State) : State :=
  let x := s.link l
  match x.txq.find? fun t => t.cls == 4 with
  | some t =>
    if tget x.credits 4 = 0 ∧ max t.at_ x.dry + 12500 * ft < s.clock.now then
      let r := cutDebt 4 (x.aloft 4) x.debts
      let s := (s.setLink l { x with txq := x.txq.erase t, debts := r.2 }).inc (OZL_TRACE_DROP_CNT l)
      match r.1 with
      | some d => dmaTraceDrop d.2.1 d.2.2.1 s
      | none => s
    else s
  | none => s

/-- FB_QUEUE_STALE: an FB item still in the transmit queue 32 ft after it entered is discarded, whole. -/
def fbStale (l : Nat) (s : State) : State :=
  let s := ozlFeed l s
  let x := s.link l
  match x.txq.find? fun t => t.cls == 0 && decide (t.at_ + 32 * ft ≤ s.clock.now) with
  | some t =>
    let gone (u : OzlTx) : Bool := u.cls == 0 && u.item == t.item
    let ds := (x.txq.filter gone).foldl (fun ds _ => (cutDebt 0 (x.aloft 0) ds).2) x.debts
    (s.setLink l { x with txq := x.txq.filter fun u => !gone u, debts := ds }).inc (OZL_FB_STALE_CNT l)
  | none => s

/-! ### Control (R477, R482 to R487) -/

/-- A write of OZL_CTL: EN, MAXRATE, CMD; one with a reserved MAXRATE is discarded (Table 15-1). -/
def ozlCtlWrite (l v : Nat) (s : State) : State :=
  if 4 < bits v 26 24 then s
  else
  let en := s.flag (OZL_CTL l) OZL_CTL_EN
  let s := s.wrRW (OZL_CTL l) v
  let s := if en ∧ ¬ bit v 31 then ((lClear l s).setLst l lsDISABLED).setLanes l lnOFF
    else if ¬ en ∧ bit v 31 then linksDevice (s.when (s.lst l == lsTEST) fun s => (s.setLst l lsDISABLED).wrN (OZL_TEST l) 0)
    else s
  match v % 16 with
  | 0 => s
  | 1 => linkDown l s
  | _ => s.status (OZL_STS l) E_OZL_RSVD_ENC

/-- A request for a power state, written or automatic (R482, R483). -/
def lsRequest (l ls : Nat) (s : State) : State :=
  if ls = 0 then lsExit l (s.status (OZL_PMSTS l) 0)
  else if s.linkNamed l then s.status (OZL_PMSTS l) E_OZL_PM_BUSY
  else sendCtl l 3 ls ((s.modLink l fun x => { x with lsAsk := ls }).status (OZL_PMSTS l) 0)

/-- A write of OZL_PM. -/
def ozlPmWrite (l v : Nat) (s : State) : State :=
  let idle := if v % 65536 = 0 then s.fld (OZL_PM l) OZL_PM_IDLE_FT else v % 65536
  let old := s.fld (OZL_PM l) OZL_PM_TX_LS
  let ls := if bits v 17 16 = 3 then old else bits v 17 16
  let s := ((s.wrRW (OZL_PM l) v).setF (OZL_PM l) OZL_PM_IDLE_FT idle).setF (OZL_PM l) OZL_PM_TX_LS ls
  if bits v 17 16 ≠ 3 ∧ s.lCarries l then lsRequest l ls s else s

/-- LS_AUTO_IDLE. -/
def lsAuto (l : Nat) (s : State) : State :=
  let x := s.link l
  if s.flag (OZL_PM l) OZL_PM_AUTO ∧ s.lCarries l ∧ s.fld (OZL_PMSTS l) OZL_PMSTS_TX_LS = 0 ∧ x.lsAsk = 0 ∧ x.txq = []
    ∧ x.dataAt + s.fld (OZL_PM l) OZL_PM_IDLE_FT * ft ≤ s.clock.now then lsRequest l 1 s else s

/-- LS_EXIT_COMPLETE. -/
def lsExitDone (l : Nat) (s : State) : State :=
  let x := s.link l
  if x.lsAt ≠ 0 ∧ x.lsAt ≤ s.clock.now then
    (s.setLink l { x with lsAt := 0, dataAt := s.clock.now }).setF (OZL_PMSTS l) OZL_PMSTS_TX_LS 0
  else s

/-- Is a lane idle for the PRBS (R481, R484)? -/
def State.laneIdle (s : State) (l i : Nat) : Bool :=
  s.lst l == lsTEST || s.lane l i == lnLOST || s.lane l i == lnPARKED || (s.lCarries l && !bit (s.rxMap l) i)

/-- A write of GEN, CHK and PRBS_SEL (R484). -/
def prbsCtl (l i v : Nat) (s : State) : State :=
  if (bit v 3 ∨ bit v 2) ∧ ¬ s.laneIdle l i then s.status (OZL_STS l) E_OZL_STATE
  else s.wrN (OZL_LCFG l i) (s.rdN (OZL_LCFG l i) / 2 ^ 31 * 2 ^ 31 + bits v 5 2 * 4)

/-- INJ inverts one bit of the generated stream; a checker on the same lane counts it in near-end loopback. -/
def prbsInj (l i : Nat) (s : State) : State :=
  let lb := s.fld (OZL_TEST l) OZL_TEST_LB
  if s.flag (OZL_LCFG l i) OZL_LCFG_GEN then
    let s := { s with ozl := { s.ozl with injected := tput s.ozl.injected (4 * l + i) (tget s.ozl.injected (4 * l + i) + 1) } }
    s.when ((lb == 1 || lb == 2) && s.flag (OZL_LCFG l i) OZL_LCFG_CHK) fun s => s.inc (OZL_PRBS_ERR l i)
  else s

/-- A write of OZL_LCFG: PARK, then GEN, CHK and PRBS_SEL, then INJ. -/
def ozlLcfgWrite (l i v : Nat) (s : State) : State :=
  let s := prbsCtl l i v (park l i (bit v 31) s)
  if bit v 6 then prbsInj l i s else s

/-- A write of OZL_TEST (R486). -/
def ozlTestWrite (l v : Nat) (s : State) : State :=
  if s.flag (OZL_CTL l) OZL_CTL_EN then s.status (OZL_STS l) E_OZL_STATE
  else
    let s := (s.wrRW (OZL_TEST l) v).status (OZL_STS l) 0
    if v % 4 = 0 then (s.setLst l lsDISABLED).setLanes l lnOFF else (s.setLst l lsTEST).setLanes l lnTEST

/-- A write of OZL_INJ (R487). -/
def ozlInjWrite (l v : Nat) (s : State) : State := if v % 2 = 1 then s.modLink l fun x => { x with inj := true } else s

/-- LINK_TIME_TX: every 1 ms on a link that is up, with neither direction in LS2 (R454, R483). -/
def linkTimeTx (l : Nat) (s : State) : State :=
  let x := s.link l
  if s.lCarries l ∧ s.tb1Run ∧ s.fld (OZL_PMSTS l) OZL_PMSTS_TX_LS ≠ 2 ∧ s.fld (OZL_PMSTS l) OZL_PMSTS_RX_LS ≠ 2
    ∧ x.timeAt + 20000000 ≤ s.clock.now then s.setLink l { x with timeAt := s.clock.now, timeAsk := true }
  else s

/-- A 48-bit TB1 value placed nearest the device's own TB1. -/
def State.near48 (s : State) (t : Nat) : Nat := ((s.tb1 : Int) + sgn 48 (t + 2 ^ 48 - s.tb1 % 2 ^ 48)).toNat

/-- LINK_TIME_RX: the round trip and the TB0 that the last TIME and TIME_TB0 flits brought. -/
def linkTimeTake (l : Nat) (s : State) : State :=
  match (s.link l).trip with
  | some t =>
    match t.tb0 with
    | some tb0 => linkTimeRx l 0 t.out 0 t.back tb0 (s.near48 t.tb1) t.rate t.sst (s.modLink l fun x => { x with trip := none })
    | none => s
  | none => s

/-! ### The commands -/

/-- LINK_TIME_TX. -/
def execLinkTimeTx (l : Nat) (s : State) : Host.Outcome State Fault Refusal := .next (linkTimeTx l s)
/-- LINK_TIME_RX. -/
def execLinkTimeRx (l : Nat) (s : State) : Host.Outcome State Fault Refusal := .next (linkTimeTake l s)
/-- OZL_ENABLE. -/
def execOzlEnable (l : Nat) (en : Bool) (maxrate : Nat) (s : State) : Host.Outcome State Fault Refusal :=
  .next (hostWr (OZL_CTL l) (ozlCtlWrite l (b01 en * 2 ^ 31 + maxrate % 8 * 2 ^ 24)) s)
/-- OZL_RETRAIN. -/
def execOzlRetrain (l : Nat) (s : State) : Host.Outcome State Fault Refusal :=
  .next (hostWr (OZL_CTL l) (ozlCtlWrite l (s.rdN (OZL_CTL l) / 16 * 16 + 1)) s)
/-- TRAIN_BLOCK_RX. -/
def execTrainBlockRx (l i b : Nat) (inv : Bool) (s : State) : Host.Outcome State Fault Refusal := .next (trainBlock l i b inv s)
/-- TRAIN_PHASE_DONE. -/
def execTrainPhaseDone (l : Nat) (s : State) : Host.Outcome State Fault Refusal := .next (trainPhaseDone l s)
/-- TRAIN_RATE_TIMEOUT. -/
def execTrainRateTimeout (l failed : Nat) (s : State) : Host.Outcome State Fault Refusal := .next (trainRateTimeout l failed s)
/-- OZL_DETECT_RETRY. -/
def execOzlDetectRetry (l i : Nat) (s : State) : Host.Outcome State Fault Refusal := .next (detectRetry l i s)
/-- AM_RX. -/
def execAmRx (l i b bip : Nat) (inRange : Bool) (s : State) : Host.Outcome State Fault Refusal := .next (amRx l i b bip inRange s)
/-- RS_RX. -/
def execRsRx (l b : Nat) (s : State) : Host.Outcome State Fault Refusal := .next (rsRx l b s)
/-- LANE_LOST. -/
def execLaneLost (l i : Nat) (s : State) : Host.Outcome State Fault Refusal := .next (laneLost l i s)
/-- DATA_FLIT_RX. -/
def execDataFlitRx (l v : Nat) (s : State) : Host.Outcome State Fault Refusal := .next (dataFlit l v s)
/-- NAK_RX. -/
def execNakRx (l v : Nat) (s : State) : Host.Outcome State Fault Refusal := .next (nakFlit l v s)
/-- IDLE_FLIT_RX. -/
def execIdleFlitRx (l v : Nat) (s : State) : Host.Outcome State Fault Refusal := .next (idleFlit l v s)
/-- TIME_FLIT_RX. -/
def execTimeFlitRx (l v arr : Nat) (s : State) : Host.Outcome State Fault Refusal := .next (timeFlit l v arr s)
/-- TIME_TB0_FLIT_RX. -/
def execTimeTb0FlitRx (l v : Nat) (s : State) : Host.Outcome State Fault Refusal := .next (timeTb0Flit l v s)
/-- LANE_DOWN_RX. -/
def execLaneDownRx (l v : Nat) (s : State) : Host.Outcome State Fault Refusal := .next (laneDownRx l v s)
/-- LANE_READY_RX. -/
def execLaneReadyRx (l v : Nat) (s : State) : Host.Outcome State Fault Refusal := .next (laneReadyRx l v s)
/-- LS_ENTER_RX. -/
def execLsEnterRx (l v : Nat) (s : State) : Host.Outcome State Fault Refusal := .next (ls2Check l (lsEnterRx l v s))
/-- LS_ACK_RX. -/
def execLsAckRx (l v : Nat) (s : State) : Host.Outcome State Fault Refusal := .next (lsAckRx l v s)
/-- ACK_TIMEOUT. -/
def execAckTimeout (l : Nat) (s : State) : Host.Outcome State Fault Refusal := .next (ackTimeout l s)
/-- RECOVERY_TIMEOUT. -/
def execRecoveryTimeout (l : Nat) (s : State) : Host.Outcome State Fault Refusal := .next (recoveryTimeout l s)
/-- TRACE_CREDIT_TIMEOUT. -/
def execTraceCreditTimeout (l : Nat) (s : State) : Host.Outcome State Fault Refusal := .next (traceTimeout l s)
/-- FB_QUEUE_STALE. -/
def execFbQueueStale (l : Nat) (s : State) : Host.Outcome State Fault Refusal := .next (fbStale l s)
/-- LANE_RETRAIN_DONE. -/
def execLaneRetrainDone (l i : Nat) (s : State) : Host.Outcome State Fault Refusal := .next (laneRetrainDone l i s)
/-- OZL_PM_REQUEST: the TX_LS that is written. -/
def execOzlPmRequest (l ls : Nat) (s : State) : Host.Outcome State Fault Refusal :=
  .next (hostWr (OZL_PM l) (ozlPmWrite l (s.rdN (OZL_PM l) &&& 0xFFFC_FFFF ||| ls % 4 * 2 ^ 16)) s)
/-- LS_AUTO_IDLE. -/
def execLsAutoIdle (l : Nat) (s : State) : Host.Outcome State Fault Refusal := .next (lsAuto l s)
/-- LS_EXIT_COMPLETE. -/
def execLsExitComplete (l : Nat) (s : State) : Host.Outcome State Fault Refusal := .next (lsExitDone l s)
/-- OZL_PARK. -/
def execOzlPark (l i : Nat) (on : Bool) (s : State) : Host.Outcome State Fault Refusal := .next (hostWr (OZL_LCFG l i) (park l i on) s)
/-- OZL_PRBS_CTL. -/
def execOzlPrbsCtl (l i v : Nat) (s : State) : Host.Outcome State Fault Refusal := .next (hostWr (OZL_LCFG l i) (prbsCtl l i v) s)
/-- OZL_PRBS_INJ. -/
def execOzlPrbsInj (l i : Nat) (s : State) : Host.Outcome State Fault Refusal := .next (hostWr (OZL_LCFG l i) (prbsInj l i) s)
/-- OZL_LOOPBACK. -/
def execOzlLoopback (l lb : Nat) (s : State) : Host.Outcome State Fault Refusal := .next (hostWr (OZL_TEST l) (ozlTestWrite l (lb % 4)) s)
/-- OZL_FLIT_INJ. -/
def execOzlFlitInj (l : Nat) (s : State) : Host.Outcome State Fault Refusal := .next (hostWr (OZL_INJ l) (ozlInjWrite l 1) s)

end Sys2Proof.Machine
end

