-- ==== Sys2Proof/Machine/Shroud.lean ====
section
/-! DEFINITION. Shroud: identity, partitions and authenticated results (chapter 17). The cryptographic functions are the
constants of Config. -/

namespace Sys2Proof.Machine

/-! ### Bytes -/

/-- A number as `n` bytes, most significant first. -/
def be (n v : Nat) : List (BitVec 8) := (le n v).reverse

/-- SHA-384 as bytes. -/
def sha (bs : List (BitVec 8)) : List (BitVec 8) := be 48 (Config.sha384 bs).toNat

/-- Bytes `o` to `o + n − 1` of a string. -/
def slice (bs : List (BitVec 8)) (o n : Nat) : List (BitVec 8) := (bs.drop o).take n

/-- `n` zero bytes. -/
def zeros (n : Nat) : List (BitVec 8) := List.replicate n 0

/-- AES-256-GCM: plaintext to ciphertext and back. -/
def gcm (key iv bs : List (BitVec 8)) : List (BitVec 8) := bs.zipIdx.map fun (b, i) => b ^^^ Config.gcmByte key iv i

/-- The tag of AES-256-GCM as bytes. -/
def gcmTag (key iv aad bs : List (BitVec 8)) : List (BitVec 8) := be 16 (Config.gcmTag key iv aad bs).toNat

/-! ### Partitions -/

/-- A partition's own state. -/
def State.shp (s : State) (p : Nat) : ShrPart := tget s.shr.parts p

/-- Changing it. -/
def State.setShp (s : State) (p : Nat) (x : ShrPart) : State := { s with shr := { s.shr with parts := tput s.shr.parts p x } }

/-- Changing it by a function. -/
def State.modShp (s : State) (p : Nat) (f : ShrPart → ShrPart) : State := s.setShp p (f (s.shp p))

/-- Setting PSTATE, with the partition's bit of SHR_STS.SEALED (SEALING, SEALED and KEYED). -/
def State.setPst (s : State) (p v : Nat) : State :=
  let m := s.fld SHR_STS SHR_STS_SEALED
  let m := if bit m p then m - 2 ^ p else m
  (s.setF (SHR_PSTS p) SHR_PSTS_PSTATE v).setF SHR_STS SHR_STS_SEALED (if pSEALING ≤ v ∧ v ≤ pKEYED then m + 2 ^ p else m)

/-- The entry of a partition in the committed image (Table 17-6), if there is one. -/
def State.partCfg (s : State) (p : Nat) : PartCfg := tget s.img.parts p

/-- The yards of a partition. -/
def State.partYards (s : State) (p : Nat) : List Nat :=
  allYards.filter fun y => (s.comp y).present && s.partOf y == p

/-- The Winch cores allotted to a partition. -/
def State.partCores (s : State) (p : Nat) : List Nat := (List.range 8).filter fun x => s.allotOf 0x0C x == some p

/-- The decoder contexts whose group lies in a partition. -/
def State.partCtxs (s : State) (p : Nat) : List Nat :=
  (List.range 8).filter fun x =>
    match s.members (s.decGroup x) with | y :: _ => s.partOf y == p | [] => false

/-- LIFECYCLE (Table 17-1). -/
def State.lifecycle (s : State) : Nat := s.fld SHR_STS SHR_STS_LIFECYCLE

/-! ### Measurements (Table 17-3) -/

/-- What measurement 4 digests: UC_VER of each yard, and its patch body while the patch is active. -/
def State.ucBytes (s : State) : List (BitVec 8) :=
  (allYards.map fun y =>
    le 4 (s.rdN (UC_VER y))
      ++ (if s.fld (UC_STS y) UC_STS_PSTATE = uACTIVE then ldList s.seq.patch (8192 * y) (4 * (s.mast y).ucWords) else [])).flatten

/-- A measurement as it stands (R519). -/
def State.meas (s : State) (i : Nat) : List (BitVec 8) :=
  match i with
  | 1 => be 48 (Config.romDigest 1).toNat
  | 2 => if s.shr.fw.isEmpty then zeros 48 else s.shr.fw
  | 3 => be 48 (Config.romDigest 3).toNat
  | 4 => sha s.ucBytes
  | 5 => if s.shr.full.isEmpty then zeros 48 else s.shr.full
  | 6 => if s.shr.log.isEmpty then zeros 48 else s.shr.log
  | 7 => sha (le 1 s.lifecycle ++ le 4 (s.rdN SHR_OKEY) ++ le 1 (s.fld SHR_STS SHR_STS_DBG_UNLOCKED) ++ le 1 s.shr.level)
  | _ =>
    let p := i - 8
    if s.pst p = pSEALED ∨ s.pst p = pKEYED then (if (s.shp p).pmeas.isEmpty then zeros 48 else (s.shp p).pmeas) else zeros 48

/-! ### The statement (Table 17-9, R529, R530) -/

/-- The PARTITIONS entry of a partition. -/
def State.partEntry (s : State) (p : Nat) : List (BitVec 8) :=
  le 1 p ++ le 1 (s.partCfg p).flags ++ zeros 14 ++ ((s.partCfg p).tpk ++ zeros 96).take 96 ++ zeros 16

/-- The YARD_COMP entry of a yard (Table 2-6). -/
def State.compEntry (s : State) (y : Nat) : List (BitVec 8) :=
  let c := s.comp y
  le 1 y ++ le 1 c.group ++ le 1 c.part ++ zeros 1 ++ le 1 c.driveEn ++ le 1 c.probeEn ++ le 1 c.demodEn ++ le 1 c.misc ++ zeros 8

/-- The ROUTING entry of a tone (Table 2-5): key 16 y + t, probe tones from t = 8. -/
def State.routeEntry (s : State) (k : Nat) : List (BitVec 8) :=
  let r := tget s.img.routes k
  le 2 (k % 16 / 8 * 2 ^ 15 + k / 16 * 2 ^ 6 + k % 8) ++ le 2 (r.out * 2 ^ 14 + r.index) ++ zeros 4

/-- The registers of a range that a test selects, by offset, as bytes. -/
def State.regBytes (s : State) (base words : Nat) (p : Nat → RegRow → Bool) : List (BitVec 8) :=
  ((List.range words).map fun i =>
    let a := base + 4 * i
    match regRow a with
    | some r => if p a r then le (r.width / 8) (s.rdN a) else []
    | none => []).flatten

/-- PMEAS of a partition (R530). -/
def State.pmeasNow (s : State) (p : Nat) : List (BitVec 8) :=
  let ys := s.partYards p
  sha (s.partEntry p
    ++ (ys.map s.compEntry).flatten
    ++ ((s.img.routeOrd.filter fun k => ys.contains (k / 16)).map s.routeEntry).flatten
    ++ ((s.img.allots.filter fun a => a.part == p).map fun a => le 1 a.block ++ le 1 a.part ++ le 1 a.first ++ le 1 a.count ++ zeros 4).flatten
    ++ ((s.img.owns.filter fun o => (o.okind == 3 && o.owner == p) || (o.okind == 1 && ys.contains o.owner)).map fun o =>
        le 1 o.cls ++ le 1 o.okind ++ le 2 o.owner ++ le 4 o.first ++ le 4 o.count ++ zeros 4).flatten
    ++ (ys.map fun y => s.regBytes (0x1000000 + 0x40000 * y) 0x10000 fun _ r => r.rw != 0).flatten
    ++ s.regBytes 0 0x400000 (fun a r => r.rwl != 0 && s.regPart a == some p)
    ++ s.meas 4 ++ le 4 (s.rdN (SHR_PVER p)) ++ le 8 (s.rdN (SHR_PSEAL_ID p)))

/-- LINKS of a partition. -/
def State.partLinks (s : State) (p : Nat) : Nat :=
  let slots := (List.range 1024).filter fun i => s.partHas p 8 i
  let uses (l : Nat) : Bool :=
    slots.any (fun i => bit (s.fld (SHT_FWD i) SHT_FWD_LINKS) l)
      || (List.range 1024).any (fun j => s.flag (SHT_IMAP l j) SHT_IMAP_EN && slots.contains (s.fld (SHT_IMAP l j) SHT_IMAP_LOCAL))
      || (s.partCtxs p).any fun x => bit (s.fld (DEC_XCFG x) DEC_XCFG_LINKS) l
  ((List.range 6).filter uses).foldl (fun a l => a + 2 ^ l) 0

/-- Statement bytes 0x000 to 0x17F. -/
def State.stmtBody (s : State) (p : Nat) (pmeas : List (BitVec 8)) : List (BitVec 8) :=
  le 4 0x54535053 ++ le 1 p ++ le 1 s.lifecycle ++ le 1 (s.fld SHR_STS SHR_STS_DBG_UNLOCKED) ++ le 1 (s.partLinks p)
    ++ le 8 (s.rdN (SHR_PSEAL_ID p)) ++ ((List.range 8).map fun w => le 4 (s.rdN (SHR_PNONCE p w))).flatten ++ pmeas
    ++ sha (((s.partCfg p).tpk ++ zeros 96).take 96) ++ be 96 (Config.pubKey (s.shp p).rk).toNat
    ++ be 96 (Config.pubKey (s.shp p).xk).toNat ++ sha (((List.range 7).map fun i => s.meas (i + 1)).flatten)

/-- Bytes shown by registers of 32 bits each. -/
def showBytes (reg : Nat → Nat) (n : Nat) (bs : List (BitVec 8)) (s : State) : State :=
  forEach (List.range n) s fun w s => s.wrN (reg w) (leAt bs (4 * w) 4)

/-- A statement is formed (R530). -/
def formStatement (p : Nat) (s : State) : State :=
  let pm := s.pmeasNow p
  let body := s.stmtBody p pm
  let sig := be 96 (Config.ecdsaSig 0 s.bus.free body).toNat
  let s := s.nextFree.modShp p fun x => { x with stmt := body, pmeas := pm }
  showBytes (SHR_PSTMT p) 120 (body ++ sig) s

/-! ### Scope of Ratline (R657, R658, Table 24-3) -/

/-- Does the unlock or lifecycle open the yards and cores of a partition to Ratline? -/
def State.ratPart (s : State) (p : Option Nat) : Bool :=
  if s.lifecycle = 1 then true
  else if s.lifecycle = 3 ∨ ¬ s.flag SHR_STS SHR_STS_DBG_UNLOCKED then false
  else match p with | some p => !(pSEALING ≤ s.pst p && s.pst p ≤ pKEYED) | none => true

/-- May Ratline reach a yard? -/
def State.ratYard (s : State) (y : Nat) : Bool := s.ratPart (if (s.comp y).present then some (s.partOf y) else none)

/-- May Ratline reach a core? -/
def State.ratCore (s : State) (x : Nat) : Bool := s.ratPart (s.allotOf 0x0C x)

/-- The halted Mast of a yard is released to IDLE (R662). -/
def ratRelease (y : Nat) (s : State) : State :=
  if s.flag (RAT_MSTS y) RAT_MSTS_HALTED then
    let s := (s.setF (RAT_MSTS y) RAT_MSTS_HALTED 0).setMst y mIDLE
    s.setF RAT_STS RAT_STS_MHALT (b01 (allYards.any fun y => s.flag (RAT_MSTS y) RAT_MSTS_HALTED))
  else s

/-- HALT 0 of a core that Ratline halted. -/
def ratResume (x : Nat) (s : State) : State :=
  let m := s.fld RAT_STS RAT_STS_WHALT
  if bit m x then
    let s := s.setF RAT_STS RAT_STS_WHALT (m - 2 ^ x)
    if s.wst x = wHALTED then s.setWst x wRUN else s
  else s

/-- What Ratline gives up where it has lost scope (R658); a HALT that has halted no Mast yet is dropped with the scope (DEDUCED, log
entry 101). -/
def ratLose (s : State) : State :=
  let s := forEach (allYards.filter fun y => !s.ratYard y) s fun y s =>
    ratRelease y ((forEach (List.range 4) s fun b s => s.setF (RAT_MBRK y b) RAT_MBRK_EN 0).modMast y fun m => { m with haltReq := false })
  forEach ((List.range 8).filter fun x => !s.ratCore x) s fun x s =>
    ratResume x (forEach (List.range 2) s fun b s => s.setF (RAT_WBRK x b) RAT_WBRK_EN 0)

/-! ### SEAL (R527, R535) -/

/-- The end of a job: its status is written last. -/
def shrEnd (p code : Nat) (s : State) : State :=
  let s : State := { s with shr := { s.shr with gcm := s.shr.gcm.filter fun g => g != p } }
  ((s.modShp p fun x => { x with job := none }).setF (SHR_PSTS p) SHR_PSTS_JOB 0).setF (SHR_PSTS p) SHR_PSTS_STATUS code

/-- A job begins; KEY_IMPORT, IMPORT and EXPORT take their turn at the AES-GCM engine (R535). -/
def shrBegin (p cmd : Nat) (blob : List (BitVec 8)) (s : State) : State :=
  let s : State := if 3 ≤ cmd ∧ cmd ≤ 5 then { s with shr := { s.shr with gcm := s.shr.gcm ++ [p] } } else s
  (s.modShp p fun x => { x with job := some ⟨cmd, blob⟩ }).setF (SHR_PSTS p) SHR_PSTS_JOB 1

/-- A write of SHR_PLEN or SHR_PDLEN: refused while a job of the partition runs (R27). -/
def shrLenWrite (p a v : Nat) (s : State) : State :=
  if (s.shp p).job.isSome then s.setF (SHR_PSTS p) SHR_PSTS_STATUS E_SHR_BUSY else s.wrRW a v

/-- Is a queue owned by a partition or by one of its yards? -/
def State.partQue (s : State) (p q : Nat) : Bool := s.partHas p 6 q

/-- The check of SEAL: 0 when it is accepted. -/
def State.sealCheck (s : State) (p : Nat) : Nat :=
  if s.pst p ≠ pOPEN then E_SHR_STATE
  else if s.lifecycle = 3 ∨ ¬ bit (s.partCfg p).flags 0 then E_SHR_SEAL_COND
  else if ¬ (s.partYards p).all (fun y => s.yIdle y) ∨ ¬ (s.partCores p).all (fun x => s.wst x == wOFF || s.wst x == wIDLE) then E_SHR_SEAL_COND
  else if ¬ (s.hif.ques.all fun (q, x) => !s.partQue p q || x.st == qOFF || x.loc) then E_SHR_SEAL_COND
  else 0

/-- Is a job of the partition running? -/
def State.shrBusy (s : State) (p : Nat) : Bool := (s.shp p).job.isSome

/-- SEAL: SEAL_ID, RK and XK are drawn, and the partition is SEALING. -/
def shrSeal (p : Nat) (s : State) : State :=
  if s.shrBusy p then s.setF (SHR_PSTS p) SHR_PSTS_STATUS E_SHR_BUSY
  else
    let code := s.sealCheck p
    if code ≠ 0 then shrEnd p code s
    else
      let id := s.freeW
      let n := s.bus.free
      let s := s.nextFree.nextFree.nextFree
      let s := (s.wr (SHR_PSEAL_ID p) id).modShp p fun x => { x with rk := n + 2, xk := n + 3 }
      ratLose ((shrBegin p 1 [] s).setPst p pSEALING)

/-- SEAL_COMPLETE: the statement of the seal is formed. -/
def sealComplete (p : Nat) (s : State) : State :=
  if s.pst p = pSEALING then
    let s := formStatement p s
    shrEnd p 0 ((s.modShp p fun x => { x with sealStmt := x.stmt }).setPst p pSEALED)
  else s

/-! ### The other commands (R530 to R536) -/

/-- The header of an import blob as a descriptor (Table 17-11). -/
def importDesc (bs : List (BitVec 8)) : Desc :=
  ⟨0, [1 + leAt bs 5 1 * 2 ^ 24 + leAt bs 0x10 4 * 2 ^ 32, 0, leAt bs 8 8, leAt bs 6 2 * 2 ^ 16], 0, 0, false, false, false, 0, false⟩

/-- The checks of IMPORT (R532): those of R500 on the destination, with the partition as the queue's owner, and then its own, a reserved field
(R11) before the rest (DESIGN CHOICE: the manual gives that check no place in the order, here as in KEY_IMPORT and RELEASE). -/
def State.importCheck (s : State) (p : Nat) (bs : List (BitVec 8)) : Nat :=
  let d := importDesc bs
  let len := leAt bs 0x10 4
  let q := s.fld (HAL_STR_QID (d.dunit / 2) (d.dunit % 2)) HAL_STR_QID_QID
  let st := s.endState q d
  if d.dkind = 0 ∨ 6 < d.dkind ∨ ¬ unitOk d.dkind d.dunit ∨ (d.dkind = 6 ∧ d.daddr ≠ 0) then E_HIF_RSVD_ENC
  else if len = 0 then E_HIF_ZERO_LEN
  else if ¬ endAlign d.dkind d.daddr then E_HIF_ALIGN
  else if d.dkind = 6 ∧ len % s.blkBytes d.dunit ≠ 0 then E_HAL_ALIGN
  else if ¬ s.endFits d.dkind d.dunit d.daddr len then E_HIF_LEN_EXCEEDS
  else if ¬ s.endMay ⟨6, 3, p, 0, 1⟩ d.dkind d.dunit d.daddr len then E_IMG_RES_BUSY
  else if st ≠ 0 then st
  else if ¬ zeroAt bs 0x24 12 then E_SHR_RSVD_ENC
  else if leAt bs 0 4 ≠ 0x504D4953 ∨ leAt bs 4 1 ≠ p ∨ leAt bs 0x18 1 ≠ 0 then E_SHR_RANGE
  else if len + 64 ≠ s.fld (SHR_PLEN p) SHR_PLEN_LEN then E_SHR_LEN_EXCEEDS
  else if leAt bs 0x14 4 ≤ s.rdN (SHR_PISEQ p) then E_SHR_ROLLBACK
  else 0

/-- The entries that an export takes now. -/
def State.exportCount (s : State) (p : Nat) : Nat :=
  let x := s.que (s.fld (SHR_PQID p) SHR_PQID_QID)
  min (min (x.dist x.cons x.prod) ((s.fld (SHR_PDLEN p) SHR_PDLEN_LEN - 224) / 64)) 1024

/-- The checks of EXPORT (R534). -/
def State.exportCheck (s : State) (p : Nat) : Nat :=
  let q := s.fld (SHR_PQID p) SHR_PQID_QID
  let room := s.fld (SHR_PDLEN p) SHR_PDLEN_LEN
  let len := s.fld (SHR_PLEN p) SHR_PLEN_LEN
  let src := s.rdN (SHR_PSRC p)
  if s.rdN (SHR_PDST p) % 64 ≠ 0 then E_SHR_ALIGN
  else if s.flag (SHR_PQID p) SHR_PQID_REGION then
    if src % 64 ≠ 0 ∨ len % 64 ≠ 0 then E_SHR_ALIGN
    else if len = 0 then E_SHR_ZERO_LEN
    else if room < 288 ∨ 65536 < len ∨ room < len + 224 ∨ 33554432 < src + len ∨ 2 ^ 64 < s.rdN (SHR_PDST p) + room then E_SHR_LEN_EXCEEDS
    else if ¬ (pagesOf src len).all (fun g => s.partHas p 7 g) then E_IMG_RES_BUSY
    else 0
  else
    let x := s.que q
    if room < 288 ∨ 2 ^ 64 < s.rdN (SHR_PDST p) + room then (if x.dist x.cons x.prod = 0 then E_SHR_ZERO_LEN else E_SHR_LEN_EXCEEDS)
    else if ¬ s.partQue p q ∨ x.kind ≠ kRESULT ∨ ¬ x.loc then E_IMG_RES_BUSY
    else if s.exportCount p = 0 then E_SHR_ZERO_LEN
    else 0

/-- The payload of an export: entries of the ring, or a region of the store. -/
def State.exportBytes (s : State) (p : Nat) : List (BitVec 8) :=
  if s.flag (SHR_PQID p) SHR_PQID_REGION then ldList s.cnv.res (s.rdN (SHR_PSRC p)) (s.fld (SHR_PLEN p) SHR_PLEN_LEN)
  else
    let x := s.que (s.fld (SHR_PQID p) SHR_PQID_QID)
    ((List.range (s.exportCount p)).map fun i => ldList s.cnv.res (x.base + 64 * ((x.cons + i) % x.entries)) 64).flatten

/-- A command other than SEAL: `blob` the bytes read from SHR_PSRC. A check that fails ends it at once; otherwise its job runs. A region at
SHR_PSRC that would pass the top of the address space does not fit (R25). EXPORT in another state than KEYED is E_SHR_STATE (DESIGN CHOICE:
R534 names no code). -/
def shrCommand (p cmd : Nat) (blob : List (BitVec 8)) (s : State) : State :=
  let st := s.pst p
  let len := s.fld (SHR_PLEN p) SHR_PLEN_LEN
  let live : Bool := st == pSEALED || st == pKEYED
  let bad (n : Nat) : Nat := if len = 0 then E_SHR_ZERO_LEN else if s.rdN (SHR_PSRC p) % 64 ≠ 0 then E_SHR_ALIGN
    else if len ≠ n ∨ blob.length ≠ n ∨ 2 ^ 64 < s.rdN (SHR_PSRC p) + len then E_SHR_LEN_EXCEEDS else 0
  let code :=
    match cmd with
    | 2 => if live then 0 else E_SHR_STATE
    | 3 => if live then bad 272 else E_SHR_STATE
    | 4 =>
      if st ≠ pKEYED then E_SHR_NOKEY
      else if len = 0 then E_SHR_ZERO_LEN
      else if s.rdN (SHR_PSRC p) % 64 ≠ 0 then E_SHR_ALIGN
      else if len < 64 ∨ blob.length ≠ len ∨ 2 ^ 64 < s.rdN (SHR_PSRC p) + len then E_SHR_LEN_EXCEEDS
      else s.importCheck p blob
    | 5 => if st = pKEYED then s.exportCheck p else E_SHR_STATE
    | 6 => if live then bad 112 else E_SHR_STATE
    | _ => E_SHR_RSVD_ENC
  if s.shrBusy p then s.setF (SHR_PSTS p) SHR_PSTS_STATUS E_SHR_BUSY
  else if code ≠ 0 then
    let d := importDesc blob
    let e := s.endInsts d.dkind d.dunit d.daddr d.len
    shrEnd p code (if cmd = 4 then s.denyIf code e.1 (e.2.headD 0) 3 p
      else s.denyIf code (if s.flag (SHR_PQID p) SHR_PQID_REGION then 7 else 6)
        (if s.flag (SHR_PQID p) SHR_PQID_REGION then s.rdN (SHR_PSRC p) / 4096 else s.fld (SHR_PQID p) SHR_PQID_QID) 3 p)
  else
    let d := importDesc blob
    let s := if cmd = 4 ∧ d.dkind = 2 then
        s.changeSeg 64 (d.dunit / 4096 % 4) (d.dunit % 4096) { s.segOf d.dunit with state := .loading }
      else s
    shrBegin p cmd (if cmd = 5 then s.exportBytes p else blob) s

/-- A write of SHR_PCMD. -/
def shrPcmd (p v : Nat) (blob : List (BitVec 8)) (s : State) : State :=
  match v % 16 with
  | 0 => s
  | 1 => shrSeal p s
  | c => shrCommand p c blob s

/-- KEY_IMPORT (R531); a public key that is no point of the curve gives no key agreement (SP 800-56A), so that nothing unwraps. -/
def keyImport (p : Nat) (bs : List (BitVec 8)) (s : State) : State :=
  let x := s.shp p
  if ¬ zeroAt bs 5 3 ∨ ¬ zeroAt bs 0x7C 4 then shrEnd p E_SHR_RSVD_ENC s
  else if leAt bs 0 4 ≠ 0x59454B53 ∨ leAt bs 4 1 ≠ p ∨ leAt bs 8 8 ≠ s.rdN (SHR_PSEAL_ID p) then shrEnd p E_SHR_RANGE s
  else if ¬ Config.ecdsaOk (s.partCfg p).tpk (slice bs 0 0xB0) (slice bs 0xB0 96) then shrEnd p E_SHR_SIG s
  else
    let kek := be 32 (Config.kek x.xk (slice bs 0x10 96) (sha x.sealStmt)).toNat
    if ¬ Config.onCurve (slice bs 0x10 96) ∨ gcmTag kek (slice bs 0x70 12) (slice bs 0 0x80) (slice bs 0x80 32) ≠ slice bs 0xA0 16 then
      shrEnd p E_SHR_AUTH s
    else
      let tk := gcm kek (slice bs 0x70 12) (slice bs 0x80 32)
      let s := s.modShp p fun x => { x with tk := some tk, sseq := 0, lastSig := [] }
      shrEnd p 0 ((s.wrN (SHR_PISEQ p) 0).setPst p pKEYED)

/-- The bytes of a streaming import whose tag failed are overwritten with 0. -/
def strmZero (u n : Nat) (s : State) : State :=
  let x := s.strm (u / 2) (u % 2)
  let bb := s.blkBytes u
  let e := s.seg (quad (u / 2)) x.ringSeg
  let size := bb * x.ringBlocks
  { s with hal := { s.hal with wave := ringStore (sampleAddr (quad (u / 2)) e.start) size ((x.wp + x.coming) * bb % size) (zeros n) s.hal.wave } }

/-- IMPORT (R533): for a streaming channel it waits while the ring has no room for its blocks (R172). -/
def importEnd (p : Nat) (bs : List (BitVec 8)) (s : State) : State :=
  let d := importDesc bs
  if d.dkind = 6 ∧ s.strmSpace d.dunit 0 < d.len then s
  else
  let tk := (s.shp p).tk.getD []
  let iv := slice bs 0x18 12
  let ct := bs.drop 64
  let seg (st : SegState) (s : State) : State :=
    if d.dkind = 2 then s.changeSeg 64 (d.dunit / 4096 % 4) (d.dunit % 4096) { s.segOf d.dunit with state := st } else s
  if gcmTag tk iv (slice bs 0 0x30) ct = slice bs 0x30 16 then
    shrEnd p 0 (seg .ready ((dstWrite 0 d (gcm tk iv ct) s).wrN (SHR_PISEQ p) (leAt bs 0x14 4)))
  else
    let s := if d.dkind = 6 then strmZero d.dunit ct.length s else dstWrite 0 d (zeros ct.length) s
    shrEnd p E_SHR_AUTH (seg .free s)

/-- EXPORT (Table 17-12, R534). -/
def exportEnd (p : Nat) (pay : List (BitVec 8)) (s : State) : State :=
  let x := s.shp p
  let region := s.flag (SHR_PQID p) SHR_PQID_REGION
  let q := s.fld (SHR_PQID p) SHR_PQID_QID
  let iv := [1, 0, 0, 0] ++ le 8 x.sseq
  let chain := if x.sseq = 0 then sha x.stmt else sha x.lastSig
  let head := le 4 0x50584553 ++ le 1 p ++ le 1 (b01 region) ++ zeros 2 ++ le 4 (if region then s.rdN (SHR_PSRC p) else q)
    ++ le 4 pay.length ++ le 8 (s.rdN (SHR_PSEAL_ID p)) ++ le 8 x.sseq ++ le 8 s.tb1 ++ iv ++ zeros 12 ++ chain
  let tk := x.tk.getD []
  let ct := gcm tk iv pay
  let body := head ++ gcmTag tk iv head ct ++ ct
  let sig := be 96 (Config.ecdsaSig x.rk s.bus.free body).toNat
  let s := s.nextFree.modShp p fun x => { x with sseq := x.sseq + 1, lastSig := sig }
  let s := if region then s
    else
      let n := pay.length / 64
      unspill q (64 * (s.que q).spillPages) (s.modQue q fun x => { x with cons := x.next x.cons n })
  let s := s.toHost (.mem (s.rdN (SHR_PDST p)) (body ++ sig))
  shrEnd p 0 (s.wrN (SHR_PRES p) (body.length + 96))

/-- RELEASE (R536). -/
def releaseEnd (p : Nat) (bs : List (BitVec 8)) (s : State) : State :=
  if ¬ zeroAt bs 5 3 then shrEnd p E_SHR_RSVD_ENC s
  else if leAt bs 0 4 ≠ 0x4C455253 ∨ leAt bs 4 1 ≠ p ∨ leAt bs 8 8 ≠ s.rdN (SHR_PSEAL_ID p) then shrEnd p E_SHR_RANGE s
  else if ¬ Config.ecdsaOk (s.partCfg p).tpk (slice bs 0 16) (slice bs 16 96) then shrEnd p E_SHR_SIG s
  else shrEnd p 0 (s.setPst p pZEROISING)

/-- SHR_JOB_END: the job of a partition ends; one that needs the AES-GCM engine only in its turn. -/
def shrJobEnd (p : Nat) (s : State) : State :=
  match (s.shp p).job with
  | none => s
  | some j =>
    if s.shr.gcm.contains p ∧ s.shr.gcm.head? ≠ some p then s
    else match j.cmd with
    | 2 => shrEnd p 0 (formStatement p s)
    | 3 => keyImport p j.blob s
    | 4 => importEnd p j.blob s
    | 5 => exportEnd p j.blob s
    | 6 => releaseEnd p j.blob s
    | _ => s

/-! ### Zeroisation (R536 to R539) -/

/-- Bytes of a store that a test selects go to 0. -/
def stClear (m : Store) (p : Nat → Bool) : Store := m.filter fun e => !p e.1

/-- ZEROISING of a full image load: every sealed partition (R537). -/
def zeroiseAll (s : State) : State :=
  forEach (List.range 8) s fun p s =>
    if s.pst p = pSEALED ∨ s.pst p = pKEYED ∨ s.pst p = pSEALING then (shrEnd p (s.fld (SHR_PSTS p) SHR_PSTS_STATUS) s).setPst p pZEROISING else s

/-- The image value of a register: its REG_INIT value, or its reset value (R71). -/
def State.imgVal (s : State) (a : Nat) : Word := sget resetVal s.img.init a

/-- Does an address hold a kernel weight? -/
def isWeight (a : Nat) : Bool := match regRow a with | some r => r.base == DEM_KW 0 0 0 0 | none => false

/-- The lane memory of a decoder context goes to 0. -/
def decZero (x : Nat) (s : State) : State := s.setCtx x default

/-- ZEROISE_COMPLETE (R538). -/
def zeroiseComplete (p : Nat) (s : State) : State :=
  if s.pst p ≠ pZEROISING then s
  else
    let ys := s.partYards p
    let cs := s.partCores p
    let xs := s.partCtxs p
    let has := s.partHas p
    let yardReg (a : Nat) : Bool := decide (0x1000000 ≤ a ∧ a < 0x2000000) && ys.contains ((a - 0x1000000) / 0x40000)
    let back (t : Tab Word) : Tab Word := t.foldl (fun t e =>
      match regRow e.1 with
      | some r =>
        if ¬ yardReg e.1 ∨ r.rw = 0 then t
        else sput resetVal t e.1 (if isWeight e.1 then 0 else (e.2 &&& ~~~(rwMask e.1)) ||| (s.imgVal e.1 &&& rwMask e.1))
      | none => t) t
    let img := s.img.init.filter fun e => yardReg e.1 && !isWeight e.1
    let put (t : Tab Word) (e : Nat × Word) : Tab Word := sput resetVal t e.1 ((sget resetVal t e.1 &&& ~~~(rwMask e.1)) ||| (e.2 &&& rwMask e.1))
    let regs := img.foldl put (back s.regs)
    let act := (img.filter fun e => isShd e.1).foldl put (back s.act)
    let cnv := { s.cnv with res := stClear s.cnv.res fun a => has 7 (a / 4096) }
    let hal := { s.hal with wave := stClear s.hal.wave fun a => has 0x0A (512 * (a / 12582912) + a % 12582912 / 24576) }
    let seq := { s.seq with store := stClear s.seq.store fun a => ys.contains (a / 262144) }
    let dec := { s.dec with store := stClear s.dec.store fun a => has 9 (a / 4096) }
    let wch := { s.wch with mem := stClear s.wch.mem fun a => cs.contains (a / 524288) }
    let s : State := { s with regs := regs, act := act, cnv := cnv, hal := hal, seq := seq, dec := dec, wch := wch }
    let s := forEach ys (forEach xs s decZero) fun y s => forEach (List.range 8) s fun c s => acqRefresh y c s
    let s := ((s.wrN (SHR_PVER p) 0).wrN (SHR_PISEQ p) 0).wrN (SHR_PSEAL_ID p) 0
    (s.setShp p default).setPst p pOPEN

/-! ### Debug unlock (R540 to R545) -/

/-- The status of a SHR_DBG_CTL command. -/
def dbgStatus (code : Nat) (s : State) : State := s.setF SHR_STS SHR_STS_STATUS code

/-- DBG_REQ. -/
def dbgReq (s : State) : State :=
  if s.lifecycle = 3 ∨ s.flag SHR_STS SHR_STS_DBG_LOCKOUT then dbgStatus E_SHR_DBG s
  else
    let s := forEach (List.range 8) s fun w s => (s.wrN (SHR_DBG_CHAL w) (s.freeW.toNat % 2 ^ 32)).nextFree
    dbgStatus 0 { s with shr := { s.shr with chal := true } }

/-- Is an owner key slot usable (R517)? -/
def State.okeyOk (s : State) (i : Nat) : Bool := decide (i < 4) && bit (s.fld SHR_OKEY SHR_OKEY_VALID) i

/-- Is the response written valid for a LEVEL (R540)? -/
def State.dbgValid (s : State) (level : Nat) : Bool :=
  let msg := ((List.range 8).map fun w => le 4 (s.rdN (SHR_DBG_CHAL w))).flatten ++ Config.serial ++ le 1 level
  let sig := ((List.range 24).map fun w => le 4 (tget s.shr.resp w)).flatten
  s.shr.chal && s.lifecycle != 3 && !s.flag SHR_STS SHR_STS_DBG_LOCKOUT
    && (Config.ecdsaOk (Config.romKey 1) msg sig
      || (List.range 4).any fun i => s.okeyOk i && Config.ecdsaOk (tget s.shr.okeys i) msg sig)

/-- An invalid response is counted; the third sets the lockout (R541). The challenge stands (DESIGN CHOICE: the manual does not say that an
invalid response ends it). -/
def dbgFail (s : State) : State :=
  let n := s.shr.fails + 1
  let s := dbgStatus E_SHR_DBG { s with shr := { s.shr with fails := n } }
  if 3 ≤ n then s.setF SHR_STS SHR_STS_DBG_LOCKOUT 1 else s

/-- DBG_SUBMIT. -/
def dbgSubmit (level : Nat) (s : State) : State :=
  if level ≠ 1 then dbgStatus E_SHR_RSVD_ENC s
  else if s.dbgValid level then
    let s := dbgStatus 0 { s with shr := { s.shr with chal := false, level := level } }
    s.setF SHR_STS SHR_STS_DBG_UNLOCKED 1
  else dbgFail s

/-- DBG_LOCK (R658). -/
def dbgLock (s : State) : State :=
  let s := dbgStatus 0 { s with shr := { s.shr with level := 0 } }
  ratLose (s.setF SHR_STS SHR_STS_DBG_UNLOCKED 0)

/-- DBG_SCRAP (R545). -/
def dbgScrap (level : Nat) (s : State) : State :=
  if level ≠ 3 then dbgStatus E_SHR_RSVD_ENC s
  else if s.dbgValid level then dbgStatus 0 { s with shr := { s.shr with chal := false, scrap := true } }
  else dbgFail s

/-- A write of SHR_DBG_CTL: its commands in the order of their bits. -/
def dbgCtlWrite (v : Nat) (s : State) : State :=
  let level := bits v 9 8
  let s := if bit v 0 then dbgReq s else s
  let s := if bit v 1 then dbgSubmit level s else s
  let s := if bit v 2 then dbgLock s else s
  if bit v 3 then dbgScrap level s else s

/-! ### SPDM (R515, R516, R518, R519) -/

/-- Does the mailbox answer: the host interface runs, and the part is not scrapped? `e` answers a scrapped part (R545). -/
def spdmOut (code : Nat) (pay : List (BitVec 8)) (s : State) : State :=
  if s.dev = dOFF ∨ s.dev = dBOOT then s
  else if s.lifecycle = 3 then { s with shr := { s.shr with out := s.shr.out ++ [(0x7F, [7])] } }
  else { s with shr := { s.shr with out := s.shr.out ++ [(code, pay)] } }

/-- An ERROR response with a code. -/
def spdmError (e : Nat) (s : State) : State := spdmOut 0x7F (le 1 e) s

/-- GET_VERSION: 1.3. -/
def spdmVersion (s : State) : State := spdmOut 0x04 [0x13] s

/-- GET_CAPABILITIES: CERT_CAP, CHAL_CAP, MEAS_CAP signed. -/
def spdmCaps (s : State) : State := spdmOut 0x61 (le 4 0x16) s

/-- NEGOTIATE_ALGORITHMS: what of P-384 and SHA-384 the requester offers. -/
def spdmAlgs (p384 sha384 : Bool) (s : State) : State :=
  spdmOut 0x63 (le 4 (if p384 then 0x80 else 0) ++ le 4 (if sha384 then 2 else 0)) s

/-- GET_DIGESTS: slot 0 holds the chain. -/
def spdmDigests (s : State) : State := spdmOut 0x01 ([1] ++ sha Config.certChain) s

/-- GET_CERTIFICATE: a part of the chain of slot 0; the other slots are empty. -/
def spdmCert (slot off len : Nat) (s : State) : State :=
  if slot = 0 then spdmOut 0x02 (slice Config.certChain off len) s else spdmError 1 s

/-- A response signed by IDK. -/
def spdmSigned (code : Nat) (nonce pay : List (BitVec 8)) (s : State) : State :=
  let msg := nonce ++ pay
  let sig := be 96 (Config.ecdsaSig 0 s.bus.free msg).toNat
  spdmOut code (pay ++ sig) s.nextFree

/-- A nonce of the responder. -/
def State.freshNonce (s : State) : List (BitVec 8) := (List.range 32).map fun i => Config.freeByte s.bus.free i

/-- CHALLENGE. -/
def spdmChallenge (slot : Nat) (nonce : List (BitVec 8)) (s : State) : State :=
  if slot = 0 then
    spdmSigned 0x03 nonce (sha Config.certChain ++ s.freshNonce ++ sha (((List.range 15).map fun i => s.meas (i + 1)).flatten)) s.nextFree
  else spdmError 1 s

/-- GET_MEASUREMENTS: the number of blocks (0), one block, or all of them (0xFF). -/
def spdmMeas (index : Nat) (nonce : List (BitVec 8)) (s : State) : State :=
  if index = 0 then spdmSigned 0x60 nonce (le 1 15 ++ s.freshNonce) s.nextFree
  else if index ≤ 15 then spdmSigned 0x60 nonce (le 1 1 ++ le 1 index ++ s.meas index ++ s.freshNonce) s.nextFree
  else if index = 0xFF then
    spdmSigned 0x60 nonce (le 1 15 ++ ((List.range 15).map fun i => le 1 (i + 1) ++ s.meas (i + 1)).flatten ++ s.freshNonce) s.nextFree
  else spdmError 1 s

/-! ### Signed images (R520 to R524, R668, R673) -/

/-- The signer that Table 17-5 asks for: none with a code, the owner, or the tenant of a partition. -/
inductive Signer
  | refuse (code : Nat)
  | owner
  | tenant (p : Nat)
  deriving DecidableEq, Repr

/-- The signer of an image of a kind and scope. -/
def State.signer (s : State) (kind scope : Nat) : Signer :=
  if kind = 2 ∨ kind = 3 then
    let ys := scopeYards kind scope
    let sealed (y : Nat) : Bool := (s.comp y).present && pSEALING ≤ s.pst (s.partOf y) && s.pst (s.partOf y) ≤ pKEYED
    match ys.find? sealed with
    | none => .owner
    | some y =>
      let p := s.partOf y
      if ys.all fun z => s.partOf z == p then (if (s.shp p).tk.isSome then .tenant p else .refuse E_SHR_NOKEY) else .refuse E_SHR_SEALED
  else .owner

/-- Shroud's verdict on a staged image (R668; a PART or SLOT other than the one that Table 17-4 asks for is a signer not allowed, E_SHR_KEY): its code (0 when it accepts), the bytes of its signature part, and the plaintext. -/
def State.imgVerify (s : State) (bs : List (BitVec 8)) : Nat × Nat × List (BitVec 8) :=
  let n := bs.length
  let d := n - 104
  let enc : Bool := bit (leAt bs (d + 3) 1) 0
  let part := if enc then 136 else 104
  let start := n - part
  let body := bs.take (n - 96)
  let sig := slice bs (n - 96) 96
  let keysel := leAt bs (d + 1) 1
  let slot := leAt bs (d + 4) 2
  let signer := s.signer (leAt bs 6 1) (leAt bs 7 1)
  let tenant : Option Nat := match signer with | .tenant p => some p | _ => none
  let key := match signer with | .tenant p => (s.partCfg p).tpk | _ => tget s.shr.okeys slot
  let tk := match tenant with | some p => (s.shp p).tk.getD [] | none => []
  let iv := slice bs start 12
  let ct := slice bs 0x40 (start - 0x40)
  let who : Nat := match signer with
    | .refuse c => c
    | .owner => if keysel = 2 ∧ ¬ enc ∧ leAt bs (d + 2) 1 = 0 ∧ s.okeyOk slot then 0 else E_SHR_KEY
    | .tenant p => if keysel = 3 ∧ enc ∧ leAt bs (d + 2) 1 = p ∧ slot = 0 then 0 else E_SHR_KEY
  let code :=
    if n < 184 ∨ (enc ∧ n < 216) then E_SHR_LEN_EXCEEDS
    else if leAt bs d 1 ≠ 1 ∨ keysel = 0 ∨ 3 < keysel ∨ 1 < leAt bs (d + 3) 1 ∨ ¬ zeroAt bs (d + 6) 2
        ∨ (enc ∧ ¬ zeroAt bs (start + 12) 4) then E_SHR_RSVD_ENC
    else if who ≠ 0 then who
    else if ¬ Config.ecdsaOk key body sig then E_SHR_SIG
    else if enc ∧ leAt bs start 1 ≠ 0 then E_SHR_RANGE
    else if enc ∧ gcmTag tk iv (bs.take 0x40) ct ≠ slice bs (start + 16) 16 then E_SHR_AUTH
    else match tenant with
      | some p => if leAt bs 8 4 ≤ s.rdN (SHR_PVER p) then E_SHR_ROLLBACK else 0
      | none => 0
  (code, part, if enc then bs.take 0x40 ++ gcm tk iv ct ++ bs.drop start else bs)

/-! ### The commands -/

/-- SPDM_GET_VERSION. -/
def execSpdmGetVersion (s : State) : Host.Outcome State Fault Refusal := .next (spdmVersion s)
/-- SPDM_GET_CAPABILITIES. -/
def execSpdmGetCapabilities (s : State) : Host.Outcome State Fault Refusal := .next (spdmCaps s)
/-- SPDM_NEGOTIATE_ALGORITHMS. -/
def execSpdmNegotiateAlgorithms (p384 sha384 : Bool) (s : State) : Host.Outcome State Fault Refusal := .next (spdmAlgs p384 sha384 s)
/-- SPDM_GET_DIGESTS. -/
def execSpdmGetDigests (s : State) : Host.Outcome State Fault Refusal := .next (spdmDigests s)
/-- SPDM_GET_CERTIFICATE. -/
def execSpdmGetCertificate (slot off len : Nat) (s : State) : Host.Outcome State Fault Refusal := .next (spdmCert slot off len s)
/-- SPDM_CHALLENGE. -/
def execSpdmChallenge (slot : Nat) (nonce : List (BitVec 8)) (s : State) : Host.Outcome State Fault Refusal :=
  .next (spdmChallenge slot nonce s)
/-- SPDM_GET_MEASUREMENTS. -/
def execSpdmGetMeasurements (index : Nat) (nonce : List (BitVec 8)) (s : State) : Host.Outcome State Fault Refusal :=
  .next (spdmMeas index nonce s)
/-- SPDM_UNSUPPORTED: any other request. -/
def execSpdmUnsupported (s : State) : Host.Outcome State Fault Refusal := .next (spdmError 7 s)
/-- SHR_SEAL. -/
def execShrSeal (p : Nat) (s : State) : Host.Outcome State Fault Refusal := .next (hostWr (SHR_PCMD p) (shrSeal p) s)
/-- SEAL_COMPLETE. -/
def execSealComplete (p : Nat) (s : State) : Host.Outcome State Fault Refusal := .next (sealComplete p s)
/-- SHR_STATEMENT. -/
def execShrStatement (p : Nat) (s : State) : Host.Outcome State Fault Refusal := .next (hostWr (SHR_PCMD p) (shrCommand p 2 []) s)
/-- SHR_KEY_IMPORT. -/
def execShrKeyImport (p : Nat) (blob : List (BitVec 8)) (s : State) : Host.Outcome State Fault Refusal :=
  .next (hostWr (SHR_PCMD p) (shrCommand p 3 blob) s)
/-- SHR_IMPORT. -/
def execShrImport (p : Nat) (blob : List (BitVec 8)) (s : State) : Host.Outcome State Fault Refusal :=
  .next (hostWr (SHR_PCMD p) (shrCommand p 4 blob) s)
/-- SHR_EXPORT. -/
def execShrExport (p : Nat) (s : State) : Host.Outcome State Fault Refusal := .next (hostWr (SHR_PCMD p) (shrCommand p 5 []) s)
/-- SHR_RELEASE. -/
def execShrRelease (p : Nat) (blob : List (BitVec 8)) (s : State) : Host.Outcome State Fault Refusal :=
  .next (hostWr (SHR_PCMD p) (shrCommand p 6 blob) s)
/-- ZEROISE_COMPLETE. -/
def execZeroiseComplete (p : Nat) (s : State) : Host.Outcome State Fault Refusal := .next (zeroiseComplete p s)
/-- DBG_REQ. -/
def execDbgReq (s : State) : Host.Outcome State Fault Refusal := .next (hostWr SHR_DBG_CTL dbgReq s)
/-- DBG_SUBMIT. -/
def execDbgSubmit (level : Nat) (s : State) : Host.Outcome State Fault Refusal := .next (hostWr SHR_DBG_CTL (dbgSubmit level) s)
/-- DBG_LOCK. -/
def execDbgLock (s : State) : Host.Outcome State Fault Refusal := .next (hostWr SHR_DBG_CTL dbgLock s)
/-- DBG_SCRAP. -/
def execDbgScrap (level : Nat) (s : State) : Host.Outcome State Fault Refusal := .next (hostWr SHR_DBG_CTL (dbgScrap level) s)
/-- SHR_JOB_END. -/
def execShrJobEnd (p : Nat) (s : State) : Host.Outcome State Fault Refusal := .next (shrJobEnd p s)

end Sys2Proof.Machine
end

