-- ==== Sys2Proof/Machine/Trim.lean ====
section
/-! DEFINITION. Trim: self-calibration and redundant elements (chapter 18). -/

namespace Sys2Proof.Machine

/-! ### Converters and users (Table 18-1, R547) -/

/-- The class of a converter index. -/
def convClass (i : Nat) : Nat :=
  if i < 0x40 then 0 else if i < 0x60 then 1 else if i < 0x160 then 2 else if i < 0x1A0 then 3 else if i < 0x1C0 then 4 else 5

/-- The converters. -/
def allConvs : List Nat := List.range 0x1D0

/-- The spares fitted, and the elements in service. -/
def spareTotal (i : Nat) : Nat := match convClass i with | 0 | 1 => 4 | 4 => 2 | _ => 0
def mappedTotal (i : Nat) : Nat := match convClass i with | 0 | 1 => 63 | 4 => 16 | _ => 0

/-- Is a tone enabled? -/
def State.toneIn (s : State) (y t : Nat) : Bool :=
  if t < 8 then bit (s.comp y).driveEn t else bit (s.comp y).probeEn (t - 8)

/-- Does a yard use a converter? -/
def State.usesConv (s : State) (y i : Nat) : Bool :=
  (s.comp y).present &&
    match convClass i with
    | 0 => (List.range 16).any fun t => s.toneIn y t && s.route y t == (0, i)
    | 1 => (List.range 16).any fun t => s.toneIn y t && s.route y t == (1, i - 0x40)
    | 2 => y == (i - 0x60) / 4
    | 3 => y == i - 0x160
    | 4 => y / 2 == i - 0x1A0
    | _ => false

/-- The yards that use a converter. -/
def State.convYards (s : State) (i : Nat) : List Nat := allYards.filter fun y => s.usesConv y i

/-- Is an attempt of a group in progress: from T0 to its end-of-shot signal, or until an abort has ended? -/
def State.inPass (s : State) (g : Nat) : Bool :=
  s.gst g == gABORTING
    || ((s.gst g == gRUNNING || s.gst g == gPAUSING) && (s.members g).any fun y =>
        let m := s.mst y
        !(s.mast y).signalled && ((2 ≤ m && m ≤ 6) || m == mSTOPPING))

/-- Does a yard use the converter in foreground calibration (R551)? -/
def State.trimHolds (s : State) (y : Nat) : Bool := match s.trim.fg with | some i => s.usesConv y i | none => false

/-- A converter's own state. -/
def State.trc (s : State) (i : Nat) : TrimC := tget s.trim.convs i

/-- Changing it. -/
def State.setTrc (s : State) (i : Nat) (x : TrimC) : State := { s with trim := { s.trim with convs := tput s.trim.convs i x } }

/-- Its elements. -/
def State.elems (s : State) (i : Nat) : Elems :=
  (s.trc i).elems.getD ⟨(List.range (mappedTotal i)).map fun n => (n, 0), (List.range (spareTotal i)).map fun n => (mappedTotal i + n, 0), []⟩

/-- Storing them, with RETIRED and FREE. -/
def setElems (i : Nat) (e : Elems) (s : State) : State :=
  let s := s.setTrc i { s.trc i with elems := some e }
  (s.setF (TRIM_SPARE i) TRIM_SPARE_RETIRED e.retired.length).setF (TRIM_SPARE i) TRIM_SPARE_FREE e.free.length

/-- The status of a TRIM_CMD or a foreground run. -/
def trimStatus (code : Nat) (s : State) : State := s.setF TRIM_STS TRIM_STS_STATUS code

/-- A code reported for a converter: to the fault manager and in TRIM_CSTS. -/
def trimReport (i code : Nat) (s : State) : State := (s.setF (TRIM_CSTS i) TRIM_CSTS_STATUS code).report code islHub i

/-- Setting HEALTH. -/
def setHealth (i h : Nat) (s : State) : State := s.setF (TRIM_CSTS i) TRIM_CSTS_HEALTH h

/-- An application: CAL_COUNT, and CAL_LAST with TB0 (R560). -/
def trimApplied (i : Nat) (s : State) : State :=
  ((s.inc (TRIM_CAL_COUNT i)).wrN (TRIM_CAL_LAST_SEC i) (baseSec (s.base 0))).wrN (TRIM_CAL_LAST_NS i) (baseNs (s.base 0))

/-- No correction waits. -/
def unstage (i : Nat) (s : State) : State :=
  (s.setTrc i { s.trc i with staged := none }).setF (TRIM_CSTS i) TRIM_CSTS_PENDING 0

/-! ### Foreground (R548 to R552) -/

/-- The checks of R550; BG_NOW skips the IDLE check (R553). -/
def State.trimCheck (s : State) (i : Nat) (fg : Bool) : Nat :=
  if s.dev ≠ dREADY ∧ s.dev ≠ dRUN then E_TRIM_STATE
  else if 0x1D0 ≤ i then E_TRIM_RANGE
  else if (s.convYards i).any (fun y => pSEALING ≤ s.pst (s.partOf y) && s.pst (s.partOf y) ≤ pKEYED) then E_SHR_SEALED
  else if (fg ∧ ¬ (s.convYards i).all (fun y => s.yIdle y)) ∨ s.trim.fg.isSome then E_TRIM_BUSY
  else 0

/-- TRIM_FG. -/
def trimFg (i : Nat) (s : State) : State :=
  let code := s.trimCheck i true
  let s := trimStatus code s
  if code ≠ 0 then s
  else
    let s : State := { s with trim := { s.trim with fg := some i } }
    let s := ((unstage i s).setF TRIM_STS TRIM_STS_FG_RUN 1).setF (TRIM_CSTS i) TRIM_CSTS_FG 1
    if convClass i = 3 then biaZero (i - 0x160) s else s

/-- The result of a foreground calibration: `bad` the elements outside their range (for a converter without redundant elements,
not empty when it cannot be brought within its range). -/
def fgResult (i : Nat) (bad : List Nat) (s : State) : State :=
  if spareTotal i < bad.length then trimReport i E_TRIM_FAILED (setHealth i 3 s)
  else
    let n := s.trim.count + 1
    let ids := ((List.range (mappedTotal i + spareTotal i)).filter fun e => !bad.contains e).map fun e => (e, n)
    let s := setElems i ⟨ids.take (mappedTotal i), ids.drop (mappedTotal i), bad⟩ { s with trim := { s.trim with count := n } }
    let h := if bad = [] then 0 else if ids.length ≤ mappedTotal i then 2 else 1
    let s := setHealth i h s
    trimApplied i (s.when (h == 2) (trimReport i E_TRIM_DEGRADED))

/-- The converter returns to service. -/
def fgReturn (i : Nat) (s : State) : State :=
  let s := s.setF (TRIM_CSTS i) TRIM_CSTS_FG 0
  match convClass i with
  | 3 => biaRefresh (i - 0x160) s
  | 4 => settleFrom (i - 0x1A0) s.clock.now 512 s
  | _ => s

/-- TRIM_FG_END. -/
def trimFgEnd (i : Nat) (bad : List Nat) (s : State) : State :=
  if s.trim.fg ≠ some i then s
  else
    let s := (({ s with trim := { s.trim with fg := none } } : State)).setF TRIM_STS TRIM_STS_FG_RUN 0
    let s := fgReturn i (fgResult i bad s)
    trimStatus (if spareTotal i < bad.length then E_TRIM_FAILED else 0) s

/-- Foreground calibration of every converter ends (R548, R549). -/
def calResults (bad : List (Nat × List Nat)) (s : State) : State :=
  let s := forEach allConvs s fun i s => fgResult i (((bad.find? fun b => b.1 == i).map (·.2)).getD []) s
  trimStatus 0 (s.setF TRIM_STS TRIM_STS_FG_RUN 0)

/-! ### Background (R553 to R559) -/

/-- May a converter run a background step? A converter with redundant elements needs a free spare (R559). -/
def State.bgMay (s : State) (i : Nat) : Bool :=
  !s.trimBad i && (spareTotal i == 0 || !(s.elems i).free.isEmpty)

/-- A step begins; that of a monitor ADC is its calibration (R278 to R280). -/
def bgStart (i : Nat) (s : State) : State :=
  if s.bgMay i then
    let s := s.setTrc i { s.trc i with step := true }
    if convClass i = 5 then monCalRequest (i - 0x1C0) s else s
  else s

/-- TRIM_BG_NOW. -/
def trimBgNow (i : Nat) (s : State) : State :=
  let code := s.trimCheck i false
  let s := trimStatus code s
  if code ≠ 0 then s else bgStart i s

/-- One millisecond in st. -/
def msSt : Nat := 20000000

/-- TRIM_BG_RUN: every BG_PER ms. -/
def trimBgRun (s : State) : State :=
  if (s.dev = dREADY ∨ s.dev = dRUN) ∧ s.trim.bgAt + s.fld TRIM_CTL TRIM_CTL_BG_PER * msSt ≤ s.clock.now then
    let en := s.fld TRIM_CTL TRIM_CTL_BG_EN
    let s : State := { s with trim := { s.trim with bgAt := s.clock.now } }
    let s := forEach (allConvs.filter fun i => bit en (convClass i)) s bgStart
    s.setF TRIM_STS TRIM_STS_BG_RUN (b01 (s.trim.convs.any fun c => c.2.step))
  else s

/-- The member of a list with the oldest calibration, the first of equals. -/
def oldest : List (Nat × Nat) → Option (Nat × Nat)
  | [] => none
  | x :: t => match oldest t with | some y => if y.2 < x.2 then some y else some x | none => some x

/-- A correction is staged (R556). -/
def stage (i : Nat) (w : TrimSwap) (s : State) : State :=
  let s := s.when (s.trc i).staged.isSome fun s => s.inc TRIM_SUPERSEDE_CNT
  (s.setTrc i { s.trc i with staged := some w }).setF (TRIM_CSTS i) TRIM_CSTS_PENDING 1

/-- A spare falls outside its range: it is retired (R558, R559). -/
def retireElem (i e : Nat) (s : State) : State :=
  let x := s.elems i
  let free := x.free.filter fun f => f.1 != e
  let s := trimReport i E_TRIM_SPARE_USED (setHealth i 1 (setElems i { x with free := free, retired := x.retired ++ [e] } s))
  if free.isEmpty then trimReport i E_TRIM_DEGRADED (setHealth i 2 s) else s

/-- Does the calibration that a step asked of a monitor ADC still wait or run (R557)? -/
def State.monCalibrates (s : State) (i : Nat) : Bool :=
  convClass i == 5 && ((s.mon (i - 0x1C0)).calReq || (s.mon (i - 0x1C0)).run == .cal)

/-- TRIM_BG_STEP_END: `ok` when the element calibrated lies in its correction range. -/
def trimStepEnd (i : Nat) (ok : Bool) (s : State) : State :=
  if ¬ (s.trc i).step ∨ s.monCalibrates i then s
  else
    let s := s.setTrc i { s.trc i with step := false }
    let s := s.setF TRIM_STS TRIM_STS_BG_RUN
      (if s.trim.convs.any fun c => c.2.step then s.fld TRIM_STS TRIM_STS_BG_RUN else 0)
    if s.trimBad i then s
    else if convClass i = 5 then trimApplied i s
    else if spareTotal i = 0 then stage i .values s
    else
      let x := s.elems i
      match oldest x.free, oldest x.mapped with
      | some e, some m =>
        if ¬ ok then retireElem i e.1 s
        else
          let n := s.trim.count + 1
          let s : State := { s with trim := { s.trim with count := n } }
          let s := setElems i { x with free := x.free.map fun f => if f.1 == e.1 then (f.1, n) else f } s
          stage i (.swap e.1 m.1) s
      | _, _ => s

/-- TRIM_APPLY: at an ft boundary at which none of the converter's users is inside an attempt (R554). -/
def trimApply (i : Nat) (s : State) : State :=
  match (s.trc i).staged with
  | none => s
  | some w =>
    if s.phase ≠ 0 ∨ (s.convYards i).any fun y => s.inPass (s.groupOf y) then s
    else
      let s : State := unstage i s
      let s : State := match w with
        | .values => s
        | .swap sp old =>
          let x : Elems := s.elems i
          let stamp (e : Nat) (l : List (Nat × Nat)) : Nat := ((l.find? fun f => f.1 == e).map (·.2)).getD 0
          setElems i { x with mapped := x.mapped.map (fun m => if m.1 == old then (sp, stamp sp x.free) else m),
                              free := x.free.map (fun f => if f.1 == sp then (old, stamp old x.mapped) else f) } s
      trimApplied i (s.inc TRIM_APPLY_CNT)

/-- Entry into SAFE stops Trim (R561). -/
def trimSafe (s : State) : State :=
  let run : Bool := s.trim.fg.isSome || s.dev == dCAL
  let s := match s.trim.fg with
    | some i => fgReturn i (s.setF (TRIM_CSTS i) TRIM_CSTS_STATUS E_TRIM_ABORTED)
    | none => s
  let s := if run then trimStatus E_TRIM_ABORTED s else s
  let s := forEach (s.trim.convs.map (·.1)) s fun i s => (unstage i s).setTrc i { (s.trc i) with staged := none, step := false }
  let s : State := { s with trim := { s.trim with fg := none } }
  (s.setF TRIM_STS TRIM_STS_FG_RUN 0).setF TRIM_STS TRIM_STS_BG_RUN 0

/-! ### Registers -/

/-- A write of TRIM_CTL: BG_PER 0 is discarded (Table 18-6). -/
def trimCtlWrite (v : Nat) (s : State) : State := if bits v 31 16 = 0 then s else s.wrRW TRIM_CTL v

/-- A write of TRIM_CMD. -/
def trimCmdWrite (v : Nat) (s : State) : State :=
  match v % 16 with
  | 0 => s
  | 1 => trimFg (bits v 24 16) s
  | 2 => trimBgNow (bits v 24 16) s
  | _ => trimStatus E_TRIM_RSVD_ENC s

/-! ### The commands -/

/-- TRIM_FG. -/
def execTrimFg (i : Nat) (s : State) : Host.Outcome State Fault Refusal := .next (hostWr TRIM_CMD (trimFg i) s)
/-- TRIM_BG_NOW. -/
def execTrimBgNow (i : Nat) (s : State) : Host.Outcome State Fault Refusal := .next (hostWr TRIM_CMD (trimBgNow i) s)
/-- TRIM_FG_END. -/
def execTrimFgEnd (i : Nat) (bad : List Nat) (s : State) : Host.Outcome State Fault Refusal := .next (trimFgEnd i bad s)
/-- TRIM_BG_RUN. -/
def execTrimBgRun (s : State) : Host.Outcome State Fault Refusal := .next (trimBgRun s)
/-- TRIM_BG_STEP_END. -/
def execTrimBgStepEnd (i : Nat) (ok : Bool) (s : State) : Host.Outcome State Fault Refusal := .next (trimStepEnd i ok s)
/-- TRIM_APPLY. -/
def execTrimApply (i : Nat) (s : State) : Host.Outcome State Fault Refusal := .next (trimApply i s)

end Sys2Proof.Machine
end

