-- ==== Sys2Proof/Machine/Modes.lean ====
section
/-! DEFINITION. What the chapters share above the blocks: the fault log (chapter 20), the stop of groups, and the device states
(Tables 1-9, 1-10). -/

namespace Sys2Proof.Machine

/-! ### The fault log (R580 to R584) -/

/-- The class of a report (Table 20-1). -/
def faultClass (code : Nat) (program : Bool) : Nat :=
  if program then 3
  else if [E_OZL_LANE_LOST, E_TRIM_SPARE_USED, E_REEF_SENS_FAIL, E_REEF_SENS_DISAGREE, E_REEF_PLIM, E_STAY_HOLDOVER,
      E_STAY_JUMP_REFUSED, E_SEQ_REPLAY_EXHAUSTED, E_FLT_EXT_LATE, E_DEC_XMISS].contains code then 0
  else if [E_HAL_UNDERRUN, E_FLT_EXT, E_FLT_MARKED].contains code then 1
  else if code = E_DEC_OVERLOAD then 2
  else if [E_FLT_HUB_HANG, E_FLT_SYNTH_LOCK, E_FLT_GO_SAFE, E_FLT_BOOT, E_REEF_OVERTEMP, E_REEF_ZONE_LOST, E_REEF_TRIP].contains code then 5
  else 4

/-- The indices of the log. -/
def State.logWp (s : State) : Nat := s.fld FLT_LOG_WP FLT_LOG_WP_INDEX
def State.logRp (s : State) : Nat := s.fld FLT_LOG_RP FLT_LOG_RP_INDEX

/-- Unread entries. -/
def State.logHeld (s : State) : Nat := (s.logWp + 512 - s.logRp) % 512

/-- The entry of an index. -/
def logE (i : Nat) : Nat := i % 256

/-- Writing an entry. -/
def putLog (i code cls src inst time : Nat) (s : State) : State :=
  let e := logE i
  (((s.wrN (FLT_LOG e 0) (code % 2 ^ 16 * 2 ^ 16 + cls * 2 ^ 8)).wrN (FLT_LOG e 1) (src % 256 * 2 ^ 24 + inst % 2 ^ 24)).wrN
    (FLT_LOG e 2) (time % 2 ^ 32)).wrN (FLT_LOG e 3) (time / 2 ^ 32 % 2 ^ 32)

/-- The vector of an entry's class fires (R584). -/
def logIrq (cls : Nat) (s : State) : State :=
  if bit (s.fld FLT_IRQ FLT_IRQ_EN) cls then fireVec (s.fld FLT_IRQ FLT_IRQ_VEC) s else s

/-- A report is logged in one class, or repeats an unread entry among the 8 newest (R580 to R584). -/
def logReport (code : Nat) (program : Bool) (src inst : Nat) (s : State) : State :=
  let cls := faultClass code program
  let s := s.inc (FLT_CNT cls)
  let n := s.logHeld
  let wp := s.logWp
  let same (k : Nat) : Bool :=
    let e := logE (wp + 512 - 1 - k)
    bits (s.rdN (FLT_LOG e 0)) 31 16 == code % 2 ^ 16 && s.rdN (FLT_LOG e 1) == src % 256 * 2 ^ 24 + inst % 2 ^ 24
  match (List.range (min 8 n)).find? same with
  | some k =>
    let a := FLT_LOG (logE (wp + 512 - 1 - k)) 0
    s.setF a (0, 8) (min 255 (s.fld a (0, 8) + 1))
  | none =>
    let s := s.when (cls == 5) fun s => s.setF FLT_STS FLT_STS_FATAL_SEEN 1
    if n < 256 then
      logIrq cls ((putLog wp code cls src inst s.tb1 s).setF FLT_LOG_WP FLT_LOG_WP_INDEX ((wp + 1) % 512))
    else
      let s := (s.inc FLT_LOG_LOST).setF FLT_STS FLT_STS_LOG_OVF 1
      if cls = 5 then logIrq cls (putLog (wp + 511) code cls src inst s.tb1 s) else s

/-! ### Device state (Tables 1-9, 1-10) -/

/-- READY and RUN follow the groups; a pin that is high when the device leaves RUN is driven low (R670). -/
def devRefresh (s : State) : State :=
  if s.dev = dREADY ∨ s.dev = dRUN then
    let run : Bool := (List.range 64).any fun g => s.gst g == gRUNNING || s.gst g == gPAUSING || s.gst g == gABORTING
    s.setDev (if run then dRUN else dREADY)
  else s

/-- Entry into READY (Table 1-10): biases slew to their codes, the read-out ADCs settle (R235, R252). -/
def enterReady (s : State) : State :=
  let s := adcReady (s.setDev dREADY)
  linksDevice (forEach allYards s fun y s => fluxStates y (biaRefresh y s))

/-- Entry into CAL: Trim calibrates every converter in foreground (R548); every marker pin is driven low (R670). -/
def enterCal (s : State) : State :=
  let s := markersCut (wStopAll (s.setDev dCAL))
  let s := forEach allYards s fun y s => demStartAll y (biaZero y (fluxStates y (fluxClear y s)))
  linksDevice (trimStatus 0 ((monOn s).setF TRIM_STS TRIM_STS_FG_RUN 1))

/-- Entry into CONFIG. -/
def enterConfig (s : State) : State :=
  let s := markersCut (wStopAll (monOff (s.setDev dCONFIG)))
  linksDevice (forEach allYards s fun y s => demStopAll y (biaZero y (fluxStates y (fluxClear y s))))

/-! ### The stop of groups and yards (R54) -/

/-- A Mast stops. -/
def mastAbort (y : Nat) (s : State) : State :=
  let m := s.mst y
  let s := s.setMst y (if m = mIDLE ∨ m = mARMED ∨ m = mPAUSED then mIDLE else mSTOPPING)
  (s.setF (SEQ_STS y) SEQ_STS_STAGED 0).modMast y fun m => { m with hold := .none, waitd := none, sync := none }

/-- Is an item a timed effect of a yard? -/
def Item.ofYard (i : Item) (y : Nat) : Bool :=
  match i.act with
  | .timed z _ _ => z == y
  | _ => false

/-- What a yard has not yet released goes with its shot at A (R54): timed effects, plays, Mast-started windows and decisions not yet
in the Sheet, hand-overs of COMMIT, marker edges (R183). -/
def yardCut (y a : Nat) (s : State) : State :=
  let s := s.keepHeld fun i => !i.ofYard y
  let s := { s with bus := { s.bus with transit := s.bus.transit.filter fun i => !i.ofYard y } }
  let s := { s with ton := { s.ton with hos := s.ton.hos.filter fun h => h.y != y || h.host } }
  markerCut y a (withdrawFormed y (fun d => d.mast) (acqAbort y (strAbort y (halIdle y s))))

/-- A group is left with nothing due. -/
def groupClear (g : Nat) (s : State) : State :=
  let s := (s.noCmd g).modGrp g fun x =>
    { x with t0 := none, replayDue := false, rpass := false, marks := [], causes := [], noReplay := false, held := false, runEnd := false }
  { s with flt := { s.flt with ext := tput s.flt.ext g [] } }

/-- ABORT takes effect at A (Table 1-8, R54): the members stop, and the shot is discarded without replay. -/
def groupAbort (g a : Nat) (s : State) : State :=
  let st := s.gst g
  let ys := s.members g
  let s := svcDisturb g E_WCH_SVC_ABORTED (groupClear g s)
  if st = gIDLE ∨ st = gABORTING then s
  else
    let s := if st = gARMED ∨ st = gPAUSED then s else s.dropShotRecs g
    let s := forEach ys s fun y s => mastAbort y (yardCut y a s)
    let s := (decAbort g s).modGrp g fun x => { x with lastEnd := a }
    s.setGst g (if st = gARMED ∨ st = gPAUSED then gIDLE else gABORTING)

/-- The group leaves ABORTING when every member has stopped, and not while a commit covers it (R84). -/
def groupSettle (g : Nat) (s : State) : State :=
  let committing : Bool := match s.img.commit with | some c => c.groups.contains g | none => false
  if s.gst g = gABORTING ∧ (s.members g).all (fun y => s.mst y == mIDLE) ∧ ¬ committing then devRefresh (s.setGst g gIDLE) else s

/-- MAST_STOP_COMPLETE: outputs are at zero and records are flushed (Table 3-10). -/
def mastStopped (y : Nat) (s : State) : State :=
  let g := s.groupOf y
  if s.mst y = mSTOPPING ∧ s.gst g = gABORTING ∧ (s.mast y).outRes = 0
      ∧ (¬ s.tb1Run ∨ (s.grp g).lastEnd + 16 * ft ≤ s.clock.tb1) then groupSettle g (s.setMst y mIDLE)
  else s

/-! ### SAFE -/

/-- The image manager's status. -/
def imgStatus (code : Nat) (s : State) : State := s.setF IMG_STS IMG_STS_STATUS code

/-- Image manager states (Table 2-11). -/
def iIDLE : Nat := 0
def iFETCHING : Nat := 1
def iVERIFYING : Nat := 2
def iCHECKING : Nat := 3
def iCHECKED : Nat := 4
def iCOMMITTING : Nat := 5
def iFAILED : Nat := 6

/-- ISTATE, and setting it. -/
def State.ist (s : State) : Nat := s.fld IMG_STS IMG_STS_ISTATE
def State.setIst (s : State) (v : Nat) : State := s.setF IMG_STS IMG_STS_ISTATE v

/-- The image manager holds no image any more. -/
def imgDrop (s : State) : State :=
  { s with img := { s.img with staging := [], held := 0, sigLen := 0, tenant := none, auto_ := false } }

/-- An image before its commit is discarded at an entry into SAFE (R78). -/
def imgSafe (s : State) : State :=
  if iFETCHING ≤ s.ist ∧ s.ist ≤ iCHECKED then imgDrop ((imgStatus E_IMG_ABORTED s).setIst iIDLE) else s

/-- Entry into SAFE (Table 1-9): the groups stop, the outputs go to zero, and the blocks act as their chapters state. -/
def enterSafe (code : Nat) (s : State) : State :=
  if s.dev = dOFF then s
  else
    let a := s.tb1
    let s := imgSafe (trimSafe s)
    let s := (s.setDev dSAFE).setF GLB_STATE GLB_STATE_SAFE_STATUS code
    let s := forEach (List.range 64) s fun g s => groupAbort g a s
    let timed (i : Item) : Bool := match i.act with | .timed _ _ _ => true | _ => false
    let s := (s.keepHeld fun i => !timed i).keepTransit fun i => !timed i
    let s := forEach allYards s fun y s =>
      let s := ucAbortLoad y (demStopAll y (acqClear y (fluxStates y (fluxClear y s))))
      biaRefresh y (hoDiscard y (halIdle y s))
    let s := slotClearAll (markersCut { s with cnv := { s.cnv with formed := [] } })
    let s := frlSafe (cnsCloseAll 1 (wStopAll (monOff (decSafe s))))
    linksDevice (linksDown (dmaAbortAll E_DMA_ABORTED s))

/-- A FATAL report: it is logged, and the device enters SAFE (Table 20-1). -/
def fatal (code src inst : Nat) (s : State) : State := enterSafe code (logReport code false src inst s)

/-- Is the cause of the last entry into SAFE cleared (Table 20-2, R577)? -/
def State.causeCleared (s : State) : Bool :=
  let c := s.fld GLB_STATE GLB_STATE_SAFE_STATUS
  if c = E_FLT_SYNTH_LOCK then !s.flag GLB_CLK_STS GLB_CLK_STS_FALLBACK
  else if c = E_FLT_GO_SAFE then allYards.all fun y => !s.biaEn y || s.rdN (BIA_ACT y) == 0
  else if c = E_REEF_OVERTEMP ∨ c = E_REEF_TRIP then
    match s.reef.cool with | some t => decide (t + 1000 * msSt ≤ s.clock.now) | none => false
  else if c = E_REEF_ZONE_LOST then (List.range 24).all fun z => !s.flag (REEF_ZONE z) REEF_ZONE_LOST
  else false

/-- The status of a GLB_STATE_CMD write. -/
def stateStatus (code : Nat) (s : State) : State := s.setF GLB_CMD_STS GLB_CMD_STS_STATE_STATUS code

/-- GO_SAFE. -/
def goSafe (s : State) : State := fatal E_FLT_GO_SAFE islHost 0 (stateStatus 0 s)

/-- LEAVE_SAFE (R56). -/
def leaveSafe (s : State) : State :=
  if s.dev = dSAFE ∧ s.causeCleared then enterConfig (stateStatus 0 s) else stateStatus E_GLB_DEV_STATE s

/-- RECAL (R55). -/
def recal (s : State) : State := if s.dev = dREADY then enterCal (stateStatus 0 s) else stateStatus E_GLB_DEV_STATE s

/-- A write of GLB_STATE_CMD. -/
def stateCmd (v : Nat) (s : State) : State :=
  match v % 8 with
  | 0 => s
  | 1 => goSafe s
  | 2 => leaveSafe s
  | 3 => recal s
  | _ => stateStatus E_GLB_RSVD_ENC s

/-! ### The commands -/

/-- GO_SAFE. -/
def execGoSafe (s : State) : Host.Outcome State Fault Refusal := .next (hostWr GLB_STATE_CMD goSafe s)
/-- LEAVE_SAFE. -/
def execLeaveSafe (s : State) : Host.Outcome State Fault Refusal := .next (hostWr GLB_STATE_CMD leaveSafe s)
/-- RECAL. -/
def execRecal (s : State) : Host.Outcome State Fault Refusal := .next (hostWr GLB_STATE_CMD recal s)
/-- CAL_COMPLETE: `bad` the elements outside their range, by converter (R548, R549). -/
def execCalComplete (bad : List (Nat × List Nat)) (s : State) : Host.Outcome State Fault Refusal :=
  .next (if s.dev = dCAL then enterReady (calResults bad s) else s)
/-- MAST_STOP_COMPLETE. -/
def execMastStopComplete (y : Nat) (s : State) : Host.Outcome State Fault Refusal := .next (mastStopped y s)

end Sys2Proof.Machine
end

