-- ==== Sys2Proof/Machine/Faults.lean ====
section
/-! DEFINITION. The fault manager: reports, the read side of the log, marks, and the TRIG inputs (chapter 20). -/

namespace Sys2Proof.Machine

/-- The status of a fault-manager write. -/
def fltStatus (code : Nat) (s : State) : State := s.setF FLT_STS FLT_STS_STATUS code

/-! ### Reports (R580, R582) -/

/-- FAULT_REPORT: the oldest report arrives. -/
def faultReport (s : State) : State :=
  match s.bus.reports with
  | [] => s
  | r :: rest =>
    let s := { s with bus := { s.bus with reports := rest } }
    if faultClass r.code r.program = 5 then fatal r.code r.src r.inst s else logReport r.code r.program r.src r.inst s

/-! ### The read index (R585) -/

/-- FLT_DISCARD. -/
def fltDiscard (s : State) : State := fltStatus 0 (s.setF FLT_LOG_RP FLT_LOG_RP_INDEX s.logWp)

/-- A write of FLT_CMD. -/
def fltCmd (v : Nat) (s : State) : State :=
  match v % 16 with
  | 0 => s
  | 1 => fltDiscard s
  | _ => fltStatus E_FLT_RSVD_ENC s

/-- FLT_LOG_RP_WRITE: forward, and not past the write index. -/
def logRpWrite (v : Nat) (s : State) : State :=
  if s.logHeld < (v % 512 + 512 - s.logRp) % 512 then fltStatus E_FLT_RANGE s
  else fltStatus 0 (s.setF FLT_LOG_RP FLT_LOG_RP_INDEX (v % 512))

/-! ### Marks (R595) -/

/-- The pass of a group that is in progress: its end-of-shot signal counts (R590). -/
def State.passNow (s : State) (g : Nat) : Option PassId :=
  let x := s.grp g
  let live : Bool := s.gst g == gRUNNING || s.gst g == gPAUSING
  if live && (s.inPass g || x.lastEnd == s.tb1) then some ⟨g, x.shot, x.attempt, x.rpass⟩ else none

/-- The check of a FLT_MARK write. -/
def State.markCheck (s : State) (g : Nat) : Nat :=
  let rel := s.rdN FLT_MARK_REL
  if ¬ s.tb1Run then E_GLB_TB1_STOPPED
  else if s.members g = [] then E_FLT_RANGE
  else if (s.members g).any (fun y => pSEALING ≤ s.pst (s.partOf y) && s.pst (s.partOf y) ≤ pKEYED) then E_SHR_SEALED
  else if rel ≠ 0 ∧ rel < s.clock.tb1 + 160 * ft then E_GLB_LEAD_SHORT
  else if (List.range 64).any (fun h => (s.grp h).mark.isSome) then E_FLT_STATE
  else 0

/-- FLT_MARK. -/
def fltMark (g : Nat) (s : State) : State :=
  let rel := s.rdN FLT_MARK_REL
  let code := s.markCheck g
  if code ≠ 0 then fltStatus code s
  else fltStatus 0 (s.modGrp g fun x => { x with mark := some (ceilFt (if rel = 0 then s.clock.tb1 + 160 * ft else rel)) })

/-- FLT_MARK_RELEASE. -/
def fltMarkRelease (g : Nat) (s : State) : State :=
  match (s.grp g).mark with
  | none => s
  | some r =>
    if ¬ s.atTb1 r then s
    else
      let s := s.modGrp g fun x => { x with mark := none }
      if (s.passNow g).isSome then (s.markGroup g E_FLT_MARKED false).report E_FLT_MARKED islHub g
      else fltStatus E_FLT_STATE s

/-! ### TRIG inputs (R587 to R590) -/

/-- An input's own state. -/
def State.trig (s : State) (i : Nat) : TrigIn := tget s.flt.trig i

/-- Changing it. -/
def State.setTrig (s : State) (i : Nat) (x : TrigIn) : State := { s with flt := { s.flt with trig := tput s.flt.trig i x } }

/-- FLT_TRIG_CFG in force (R589). -/
def State.trigCfg (s : State) (i : Nat) : Nat :=
  if (s.trig i).cfgAt ≤ s.clock.now then s.rdN (FLT_TRIG_CFG i) else (s.trig i).was

/-- FILT, GROUP, XF_POL and XF_EN of a configuration. -/
def cfgFilt (v : Nat) : Nat := bits v 4 0
def cfgGroup (v : Nat) : Nat := bits v 29 24

/-- TRIG_EDGE_ACCEPT: a change that has held for FILT ft becomes an edge. -/
def trigAccept (i : Nat) (s : State) : State :=
  let x := s.trig i
  match x.pend with
  | none => s
  | some p =>
    if p.e + cfgFilt p.cfg * ft ≤ s.clock.now then s.setTrig i { x with level := p.level, pend := none, edges := x.edges ++ [p] } else s

/-- TRIG_LEVEL_CHANGE: the pin shows a new level from this st on. A change that has not held is a glitch. -/
def trigLevel (i : Nat) (up : Bool) (s : State) : State :=
  let s := trigAccept i s
  let x := s.trig i
  if x.pin = up then s
  else
    let x := { x with pin := up, pinAt := s.clock.now }
    let glitch : Bool := x.pend.isSome
    let s := s.when glitch fun s => s.inc (FLT_GLITCH_CNT i)
    let cfg := s.trigCfg i
    if up = x.level then s.setTrig i { x with pend := none }
    else s.setTrig i { x with pend := some ⟨s.clock.now, up, cfg, s.passNow (cfgGroup cfg)⟩ }

/-- A time of `now` as TB1. -/
def State.tb1At (s : State) (t : Nat) : Nat := s.clock.tb1 + t - s.clock.now

/-- An edge reaches the consumers of its input: SYNC TRIG and acquisition starts, which need its time in TB1 (an edge before TB1 began
is no event of TB1), and the capture channels. -/
def trigConsumers (i : Nat) (p : TrigCh) (s : State) : State :=
  if s.tb1Run ∧ s.clock.now ≤ p.e + s.clock.tb1 then
    let e := s.tb1At p.e
    let k := 2 * i + b01 (!p.level)
    let evs := (e :: tget s.cnv.trigEv k).filter fun t => decide (s.clock.tb1 ≤ t + 128 * ft)
    let s : State := { s with cnv := { s.cnv with trigEv := tput s.cnv.trigEv k evs } }
    let s := forEach allYards s fun y s =>
      forEach ((List.range 8).filter fun c => s.fld (CNV_ACQ_CTL y c) CNV_ACQ_CTL_SRC == 2
        && s.fld (CNV_ACQ_CTL y c) CNV_ACQ_CTL_SEL == i && s.flag (CNV_ACQ_CTL y c) CNV_ACQ_CTL_EDGE == !p.level) s fun c s =>
        s.modDem y c fun d => { d with trigs := d.trigs ++ [e] }
    cnsEdge i (!p.level) e s
  else s

/-- TRIG_EDGE_DELIVERY: every consumer receives the edge at the first ft boundary at or after E + 48 ft, and it may mark the pass
that was in progress at E (R588, R590). -/
def trigDeliver (i : Nat) (s : State) : State :=
  let x := s.trig i
  match x.edges with
  | [] => s
  | p :: rest =>
    let at_ := p.e + 48 * ft
    let due : Bool := if s.tb1Run then decide (ceilFt (s.tb1At at_) ≤ s.clock.tb1) else decide (at_ ≤ s.clock.now)
    if ¬ due then s
    else
      let s := trigConsumers i p (s.setTrig i { x with edges := rest })
      let xf : Bool := bit p.cfg 31 && bit p.cfg 30 == !p.level
      let g := cfgGroup p.cfg
      if ¬ xf then s
      else if p.pass.isSome ∧ s.passNow g = p.pass then
        let s := { s with flt := { s.flt with ext := tput s.flt.ext g (tget s.flt.ext g ++ [i]) } }
        (s.markGroup g E_FLT_EXT true).report E_FLT_EXT islHub i
      else s.report E_FLT_EXT_LATE islHub i

/-- May XF_EN be set for an input and a group (R590)? -/
def State.xfMay (s : State) (i g : Nat) : Bool :=
  match s.members g with
  | [] => false
  | y :: ys => ys.all (fun z => s.partOf z == s.partOf y) && s.partHas (s.partOf y) 2 i

/-- FLT_TRIG_CFG_WRITE (R589, R590). -/
def trigCfgWrite (i v : Nat) (s : State) : State :=
  if 24 < cfgFilt v then fltStatus E_FLT_RANGE s
  else if bit v 31 ∧ ¬ s.xfMay i (cfgGroup v) then fltStatus E_IMG_RES_BUSY (s.deny 2 i 4 0)
  else
    let s := s.setTrig i { s.trig i with was := s.trigCfg i, cfgAt := s.nextFt }
    fltStatus 0 (s.wrRW (FLT_TRIG_CFG i) v)

/-- After a commit: XF_EN clears where it may not stand any more (R590). -/
def xfRecheck (s : State) : State :=
  forEach (List.range 16) s fun i s =>
    if s.flag (FLT_TRIG_CFG i) FLT_TRIG_CFG_XF_EN ∧ ¬ s.xfMay i (s.fld (FLT_TRIG_CFG i) FLT_TRIG_CFG_GROUP) then
      s.setF (FLT_TRIG_CFG i) FLT_TRIG_CFG_XF_EN 0
    else s

/-- Has every input whose edge marked the attempt held its inactive level for FILT ft (Table 20-4)? -/
def State.extClear (s : State) (g : Nat) : Bool :=
  (tget s.flt.ext g).all fun i =>
    let x := s.trig i
    x.pin == s.flag (FLT_TRIG_CFG i) FLT_TRIG_CFG_XF_POL && decide (x.pinAt + cfgFilt (s.trigCfg i) * ft ≤ s.clock.now)

/-! ### The commands -/

/-- FAULT_REPORT. -/
def execFaultReport (s : State) : Host.Outcome State Fault Refusal := .next (faultReport s)
/-- FLT_DISCARD. -/
def execFltDiscard (s : State) : Host.Outcome State Fault Refusal := .next (hostWr FLT_CMD fltDiscard s)
/-- FLT_LOG_RP_WRITE. -/
def execFltLogRpWrite (v : Nat) (s : State) : Host.Outcome State Fault Refusal := .next (hostWr FLT_LOG_RP (logRpWrite v) s)
/-- FLT_MARK. -/
def execFltMark (g : Nat) (s : State) : Host.Outcome State Fault Refusal := .next (hostWr FLT_MARK (fltMark g) s)
/-- FLT_MARK_RELEASE. -/
def execFltMarkRelease (g : Nat) (s : State) : Host.Outcome State Fault Refusal := .next (fltMarkRelease g s)
/-- FLT_TRIG_CFG_WRITE. -/
def execFltTrigCfgWrite (i v : Nat) (s : State) : Host.Outcome State Fault Refusal :=
  .next (hostWr (FLT_TRIG_CFG i) (trigCfgWrite i v) s)
/-- TRIG_LEVEL_CHANGE. -/
def execTrigLevelChange (i : Nat) (up : Bool) (s : State) : Host.Outcome State Fault Refusal := .next (trigLevel i up s)
/-- TRIG_EDGE_ACCEPT. -/
def execTrigEdgeAccept (i : Nat) (s : State) : Host.Outcome State Fault Refusal := .next (trigAccept i s)
/-- TRIG_EDGE_DELIVERY. -/
def execTrigEdgeDelivery (i : Nat) (s : State) : Host.Outcome State Fault Refusal := .next (trigDeliver i s)

end Sys2Proof.Machine
end

