-- ==== Sys2Proof/Machine/Reef.lean ====
section
/-! DEFINITION. Reef: temperature, power limits and the shutdown by temperature (chapter 19); the trip is in Power. Temperatures count 1/64 °C. -/

namespace Sys2Proof.Machine

/-- The outcome of a REEF_CMD or REEF_PLIM write. -/
def reefStatus (code : Nat) (s : State) : State := s.setF REEF_STS REEF_STS_STATUS code

/-- Degrees. -/
def deg (n : Int) : Int := 64 * n

/-- TEMP of a sensor, and of a zone. -/
def State.sensT (s : State) (i : Nat) : Int := sgn 16 (s.fld (REEF_SENS i) REEF_SENS_TEMP)
def State.zoneT (s : State) (z : Nat) : Int := sgn 16 (s.fld (REEF_ZONE z) REEF_ZONE_TEMP)

/-- Is a sensor failed? -/
def State.sensBad (s : State) (i : Nat) : Bool := s.flag (REEF_SENS i) REEF_SENS_FAILED

/-- The zones. -/
def allZones : List Nat := List.range 24

/-! ### Levels (R566 to R571) -/

/-- θ(n). -/
def theta (n : Nat) : Int := deg (93 + 2 * n)

/-- What a change of LEVEL sheds and lifts (Table 19-2, R569). -/
def shed (old new_ : Nat) (s : State) : State :=
  let s := s.setF CNS_GSTS CNS_GSTS_SHED (b01 (decide (1 ≤ new_)))
  let s := s.setF FRL_GSTS FRL_GSTS_SHED (b01 (decide (2 ≤ new_)))
  let s := if old < 1 ∧ 1 ≤ new_ then cnsCloseAll 2 s else s
  let s := if old < 2 ∧ 2 ≤ new_ then frlShed s else s
  let s := s.setF WCH_STS WCH_STS_CLK (if 6 ≤ new_ then 2 else if 3 ≤ new_ then 1 else 0)
  let s := s.setF DEC_STS DEC_STS_LANES_EFF (if 7 ≤ new_ then 2 else if 6 ≤ new_ then 4 else if 4 ≤ new_ then 8 else 16)
  let s := s.setF REEF_STS REEF_STS_HOLD (b01 (decide (5 ≤ new_)))
  if 5 ≤ old ∧ new_ < 5 then { s with reef := { s.reef with resume := s.clock.now + 16 * ft } } else s

/-- LEVEL follows TLEVEL and PLEVEL (R568). -/
def levelRefresh (s : State) : State :=
  let old := s.fld REEF_STS REEF_STS_LEVEL
  let new_ := max (s.fld REEF_STS REEF_STS_TLEVEL) (s.fld REEF_STS REEF_STS_PLEVEL)
  if old = new_ then s else shed old new_ ((s.setF REEF_STS REEF_STS_LEVEL new_).inc REEF_LVL_CNT)

/-- Has it been 10 ms since a change? -/
def State.tenMs (s : State) (t : Option Nat) : Bool := match t with | some t => decide (t + 10 * msSt ≤ s.clock.now) | none => true

/-- TLEVEL_CHANGE (R566). -/
def tlevelChange (s : State) : State :=
  let l := s.fld REEF_STS REEF_STS_TLEVEL
  let up : Bool := decide (l < 7) && allZones.any fun z => decide (theta (l + 1) ≤ s.zoneT z)
  let down : Bool := decide (0 < l) && allZones.all fun z => decide (s.zoneT z < theta l - deg 3)
  if s.dev = dOFF ∨ ¬ s.tenMs s.reef.tAt ∨ ¬ (up ∨ down) then s
  else levelRefresh (({ s with reef := { s.reef with tAt := some s.clock.now } } : State).setF REEF_STS REEF_STS_TLEVEL (if up then l + 1 else l - 1))

/-- PLEVEL_CHANGE (R567), with the limit that the last sample of the power took (R579). -/
def plevelChange (s : State) : State :=
  let l := s.fld REEF_STS REEF_STS_PLEVEL
  let lim := s.reef.lim
  let up : Bool := decide (l < 7) && decide (lim < s.rdN REEF_PWR)
  let down : Bool := decide (0 < l) && decide (100 * s.rdN REEF_PWR < 95 * lim)
  if s.dev = dOFF ∨ ¬ s.tenMs s.reef.pAt ∨ ¬ (up ∨ down) then s
  else levelRefresh (({ s with reef := { s.reef with pAt := some s.clock.now } } : State).setF REEF_STS REEF_STS_PLEVEL (if up then l + 1 else l - 1))

/-! ### Sensors and zones (R562 to R565, R573, R574, R577) -/

/-- The mean of some conversions, rounded down. -/
def meanT (xs : List Int) : Int := if xs = [] then 0 else xs.foldl (· + ·) 0 / xs.length

/-- Do conversions pass the checks of R563? -/
def convOk : List Int → Bool
  | [] => true
  | [x] => decide (deg (-40) ≤ x) && decide (x ≤ deg 150)
  | x :: y :: t => decide (deg (-40) ≤ x) && decide (x ≤ deg 150) && decide ((x - y).natAbs ≤ 5 * 64) && convOk (y :: t)

/-- Setting TEMP of a sensor. -/
def setTemp (i : Nat) (t : Int) (s : State) : State := s.setF (REEF_SENS i) REEF_SENS_TEMP (unsgn 16 t)

/-- SENS_FAIL follows the sensors. -/
def sensFail (s : State) : State := s.setF REEF_STS REEF_STS_SENS_FAIL (b01 ((List.range 48).any fun i => s.sensBad i))

/-- Does a sensor convert, and below 85 °C? A failed sensor counts 107 °C. -/
def State.sensCool (s : State) (i : Nat) : Bool :=
  let xs := tget s.reef.conv i
  xs != [] && decide (meanT xs < deg 85)

/-- The time since which every zone is below 85 °C. -/
def coolRefresh (s : State) : State :=
  if (List.range 48).all s.sensCool then
    if s.reef.cool.isSome then s else { s with reef := { s.reef with cool := some s.clock.now } }
  else { s with reef := { s.reef with cool := none } }

/-- A zone follows its sensors: temperature, peak, DISAGREE, LOST. -/
def zoneRefresh (z : Nat) (s : State) : State :=
  let a := s.sensT (2 * z)
  let b := s.sensT (2 * z + 1)
  let ok : Bool := !s.sensBad (2 * z) && !s.sensBad (2 * z + 1)
  let lost : Bool := s.sensBad (2 * z) && s.sensBad (2 * z + 1)
  let was : Bool := s.flag (REEF_ZONE z) REEF_ZONE_LOST
  let dis : Bool := ok && decide (8 * 64 < (a - b).natAbs)
  let newDis : Bool := dis && !s.flag (REEF_ZONE z) REEF_ZONE_DISAGREE
  let s := s.setF (REEF_ZONE z) REEF_ZONE_TEMP (unsgn 16 (max a b))
  let s := if sgn 16 (s.fld REEF_PEAK REEF_PEAK_TEMP) < max a b then s.setF REEF_PEAK REEF_PEAK_TEMP (unsgn 16 (max a b)) else s
  let s := if dis then (s.setF (REEF_ZONE z) REEF_ZONE_DISAGREE 1).setF REEF_STS REEF_STS_DISAGREE 1 else s
  let s := if newDis then s.report E_REEF_SENS_DISAGREE islHub z else s
  let s := coolRefresh (s.setF (REEF_ZONE z) REEF_ZONE_LOST (b01 lost))
  if lost ∧ ¬ was then fatal E_REEF_ZONE_LOST islHub z s else s

/-- A sensor fails (R563). -/
def sensFails (i : Nat) (s : State) : State :=
  let s := { s with reef := { s.reef with conv := tput s.reef.conv i [] } }
  let s := setTemp i (deg 107) (s.setF (REEF_SENS i) REEF_SENS_FAILED 1)
  zoneRefresh (i / 2) ((sensFail s).report E_REEF_SENS_FAIL islHub i)

/-- REEF_SENSOR_CONVERSION. In OFF the always-on part of Reef converts (R576, Table 21-9), and nothing else of Reef runs. -/
def sensorConv (i : Nat) (v : Int) (s : State) : State :=
  if 48 ≤ i ∨ s.sensBad i then s
  else
    let xs := tget s.reef.conv i
    if s.dev ≠ dOFF ∧ ¬ convOk (v :: xs.take 1) then sensFails i s
    else
      let xs := (v :: xs).take 10
      let t := meanT xs
      let s := setTemp i t { s with reef := { s.reef with conv := tput s.reef.conv i xs } }
      if s.dev = dOFF then
        coolRefresh (s.setF (REEF_ZONE (i / 2)) REEF_ZONE_TEMP (unsgn 16 (max (s.sensT (i / 2 * 2)) (s.sensT (i / 2 * 2 + 1)))))
      else
        let s := zoneRefresh (i / 2) s
        let known : Bool := s.dev == dSAFE && s.fld GLB_STATE GLB_STATE_SAFE_STATUS == E_REEF_OVERTEMP
        if deg 111 ≤ t ∧ ¬ known then fatal E_REEF_OVERTEMP islHub i s else s

/-- The self-tests of BOOT: the sensors that fail them (R563). -/
def sensBoot (is : List Nat) (s : State) : State :=
  forEach ((List.range 48).filter fun i => is.contains i) s fun i s => sensFails i s

/-- SENS_RETEST: the self-test, then 10 conversions, whose outcome the command brings with it (R565); a sensor that does not pass fails
(R563), also one that is failed already. -/
def sensRetest (i : Nat) (pass : Bool) (xs : List Int) (s : State) : State :=
  if 47 < i then reefStatus E_REEF_RANGE s
  else
    let s := reefStatus 0 s
    if pass ∧ xs.length = 10 ∧ convOk xs then
      let s := { s with reef := { s.reef with conv := tput s.reef.conv i xs.reverse } }
      zoneRefresh (i / 2) (sensFail (setTemp i (meanT xs) (s.setF (REEF_SENS i) REEF_SENS_FAILED 0)))
    else sensFails i s

/-- A write of REEF_CMD; what the test of the sensor finds comes with it. -/
def reefCmd (v : Nat) (pass : Bool) (xs : List Int) (s : State) : State :=
  match v % 16 with
  | 0 => s
  | 1 => sensRetest (bits v 13 8) pass xs s
  | _ => reefStatus E_REEF_RSVD_ENC s

/-! ### Power (R578, R579) -/

/-- The mean of some numbers, rounded down. -/
def meanN (xs : List Nat) : Nat := if xs = [] then 0 else xs.foldl (· + ·) 0 / xs.length

/-- REEF_RAIL_SAMPLE: voltage (mV) and current (mA) of the rails, every 100 µs; the means cover 10 ms. -/
def railSample (vs : List (Nat × Nat)) (s : State) : State :=
  if s.dev = dOFF then s else
  let rails := (List.range 6).foldl (fun t r => tput t r ((vs.getD r (0, 0) :: tget t r).take 100)) s.reef.rails
  let mw := (((List.range 6).map fun r => let p := vs.getD r (0, 0); p.1 * p.2).foldl (· + ·) 0) / 1000
  let power := (mw :: s.reef.power).take 100
  let lim := s.fld REEF_PLIM REEF_PLIM_W * 1000
  let s := { s with reef := { s.reef with rails := rails, power := power, lim := lim } }
  let s := forEach (List.range 6) s fun r s =>
    let xs := tget s.reef.rails r
    s.wrN (REEF_RAIL r) (meanN (xs.map (·.1)) % 2 ^ 16 * 2 ^ 32 + meanN (xs.map (·.2)) % 2 ^ 32)
  let mean := meanN power
  let s := s.wrN REEF_PWR (mean % 2 ^ 32)
  if lim < mean then
    let since := s.reef.above.getD s.clock.now
    let s := { s with reef := { s.reef with above := some since } }
    if s.fld REEF_STS REEF_STS_PLEVEL = 7 ∧ since + 100 * msSt ≤ s.clock.now ∧ ¬ s.reef.told then
      let s := { s with reef := { s.reef with told := true } }
      (s.setF REEF_STS REEF_STS_PLIM_FAIL 1).report E_REEF_PLIM islHub 0
    else s
  else { s with reef := { s.reef with above := none, told := false } }

/-- REEF_PLIM_WRITE. -/
def plimWrite (v : Nat) (s : State) : State :=
  if v % 512 < 150 ∨ 320 < v % 512 then reefStatus E_REEF_RANGE s else reefStatus 0 (s.wrN REEF_PLIM (v % 512))

/-! ### The commands -/

/-- REEF_SENSOR_CONVERSION. -/
def execReefSensorConversion (i : Nat) (v : Int) (s : State) : Host.Outcome State Fault Refusal := .next (sensorConv i v s)
/-- TLEVEL_CHANGE. -/
def execTlevelChange (s : State) : Host.Outcome State Fault Refusal := .next (tlevelChange s)
/-- PLEVEL_CHANGE. -/
def execPlevelChange (s : State) : Host.Outcome State Fault Refusal := .next (plevelChange s)
/-- REEF_RAIL_SAMPLE. -/
def execReefRailSample (vs : List (Nat × Nat)) (s : State) : Host.Outcome State Fault Refusal := .next (railSample vs s)
/-- REEF_PLIM_WRITE. -/
def execReefPlimWrite (v : Nat) (s : State) : Host.Outcome State Fault Refusal := .next (hostWr REEF_PLIM (plimWrite v) s)
/-- SENS_RETEST. -/
def execSensRetest (i : Nat) (pass : Bool) (xs : List Int) (s : State) : Host.Outcome State Fault Refusal :=
  .next (hostWr REEF_CMD (sensRetest i pass xs) s)

end Sys2Proof.Machine
end

