-- ==== Sys2Proof/Machine/Power.lean ====
section
/-! DEFINITION. Supplies, clocks, resets, boot and SMBus (chapter 21), and the start of an image load, which boot shares with the image
manager (R72, R75, R76). -/

namespace Sys2Proof.Machine

/-! ### The start of a load -/

/-- The check of a LOAD: `full` tells whether the image there is a full one, whose KIND the header of the fetch confirms. The order of the
tests is the model's (DESIGN CHOICE). A source region that passes the top of its address space is too long (R25): 64 bits of host
address, 32 bits of flash address (R623). -/
def State.loadCheck (s : State) (full flash : Bool) (src len : Nat) : Nat :=
  if s.ist ≠ iIDLE then E_IMG_BUSY
  else if len = 0 then E_IMG_ZERO_LEN
  else if 2097152 < len ∨ (if flash then 2 ^ 32 else 2 ^ 64) < src + len then E_IMG_LEN_EXCEEDS
  else if len < 64 then E_IMG_LEN_MISMATCH
  else if src % 8 ≠ 0 then E_IMG_ALIGN
  else if full ∧ s.dev ≠ dCONFIG ∧ s.dev ≠ dREADY then E_GLB_DEV_STATE
  else if ¬ full ∧ s.dev ≠ dREADY ∧ s.dev ≠ dRUN then E_IMG_STATE
  else 0

/-- A full image in READY takes the device to CONFIG, and any full image zeroises sealed partitions first (R75, R537). -/
def fullBegins (s : State) : State := zeroiseAll (if s.dev = dREADY then enterConfig s else s)

/-- LOAD: the fetch begins. A LOAD that is refused fetches no byte and leaves ISTATE IDLE: the model reads "any error" of Table 2-11 as one
of a LOAD that was accepted (DESIGN CHOICE). -/
def imgLoad (full flash auto_ : Bool) (src len : Nat) (s : State) : State :=
  let code := s.loadCheck full flash src len
  let s := imgStatus code s
  if code ≠ 0 then s
  else
    let s := imgDrop (s.setIst iFETCHING)
    let s := { s with img := { s.img with fromFlash := flash, auto_ := auto_, full := full } }
    if full then fullBegins s else s

/-! ### Resets (Table 21-3, R615 to R619) -/

/-- The state that a device reset leaves: the queue of commands, what has gone to the host, the count of free values, the fuses and the
always-on domain stand, with the conversions of Reef that it keeps (R576). -/
def deviceReset (kind : Nat) (s : State) : State :=
  let boot := insF (insF (s.rd GLB_BOOT_STS) GLB_BOOT_STS_LAST_RESET kind) GLB_BOOT_STS_STAGE 1
  let boot := insF (insF boot GLB_BOOT_STS_CAUSE 0) GLB_BOOT_STS_COPY 0
  let t : State := { State.reset with
    pending := s.pending
    clock := { (default : Clock) with now := s.clock.now }
    bus := { (default : Bus) with free := s.bus.free }
    hif := { (default : Hif) with out := s.hif.out, down := true }
    pwr := { (default : PwrS) with good := s.pwr.good, straps := s.pwr.straps, smb := s.pwr.smb }
    reef := { (default : ReefS) with conv := s.reef.conv, cool := s.reef.cool, tripped := s.reef.tripped } }
  let t := (t.wr GLB_BOOT_STS boot).wr REEF_TRIP_CNT (s.rd REEF_TRIP_CNT)
  let t := t.setF REEF_STS REEF_STS_TRIPPED (s.fld REEF_STS REEF_STS_TRIPPED)
  let t := t.setF SHR_OKEY SHR_OKEY_REVOKED (s.fld SHR_OKEY SHR_OKEY_REVOKED)
  let t := t.setF GLB_FW_VER GLB_FW_VER_FLOOR (s.fld GLB_FW_VER GLB_FW_VER_FLOOR)
  (t.setF SHR_STS SHR_STS_LIFECYCLE (if s.shr.scrap then 3 else s.lifecycle)).setDev dOFF

/-- LAST_RESET of the device. -/
def State.lastReset (s : State) : Nat := s.fld GLB_BOOT_STS GLB_BOOT_STS_LAST_RESET

/-- The release of device reset: BOOT begins, and time counts from here (R616). -/
def resetRelease (s : State) : State :=
  if s.dev = dOFF ∧ s.pwr.good ∧ ¬ s.reef.tripped then
    ({ s with clock := default, reef := { s.reef with cool := s.reef.cool.map (· - s.clock.now) } } : State).setDev dBOOT
  else s

/-- RESET_N, or PERST_N, goes low: PERST_N with PERST_SEL 1 is a PCIe reset (R616, R618). -/
def resetAssert (perst : Bool) (s : State) : State :=
  if perst ∧ s.flag GLB_BOOT_STS GLB_BOOT_STS_PERST_SEL then pcieReset s
  else if s.dev = dOFF then s
  else deviceReset 1 s

/-- A write of GLB_RESET: the reset comes 1 µs later (R617), also when another write follows meanwhile. -/
def glbReset (v : Nat) (s : State) : State :=
  if bits v 31 16 = 0xA5C3 ∧ v % 2 = 1 ∧ s.pwr.glbAt = none then { s with pwr := { s.pwr with glbAt := some (s.clock.now + 1250 * ft) } } else s

/-- The reset that GLB_RESET has asked for takes effect. -/
def glbResetTick (s : State) : State :=
  match s.pwr.glbAt with
  | some t => if t ≤ s.clock.now then deviceReset 2 s else s
  | none => s

/-! ### Trip and restart (R575, R576) -/

/-- ANALOG_TRIP: the device is held in reset, OFF, with THERMTRIP_N asserted. -/
def analogTrip (s : State) : State :=
  let s := deviceReset 3 s
  let s := (s.inc REEF_TRIP_CNT).setF REEF_STS REEF_STS_TRIPPED 1
  { s with reef := { s.reef with tripped := true, cool := none } }

/-- TRIP_RESTART: every zone has stayed below 85 °C for 1 s. -/
def tripRestart (s : State) : State :=
  match s.reef.cool with
  | some t =>
    if s.reef.tripped ∧ t + 1000 * msSt ≤ s.clock.now then resetRelease { s with reef := { s.reef with tripped := false } } else s
  | none => s

/-! ### Supplies (R607 to R609, R615) -/

/-- POWER_GOOD: the straps are sampled when it is first asserted after power-on. -/
def powerGood (straps : Nat) (s : State) : State :=
  let s : State := { s with pwr := { s.pwr with good := true } }
  match s.pwr.straps with
  | some _ => s
  | none =>
    let v := straps % 16
    ({ s with pwr := { s.pwr with straps := some v } } : State).wr GLB_BOOT_STS (insF (s.rd GLB_BOOT_STS) (1, 4) v)

/-- RAIL_LOSS: the device goes OFF at once; LAST_RESET has no code for it and stands. -/
def railLoss (s : State) : State :=
  let s := if s.dev = dOFF then s else deviceReset s.lastReset s
  { s with pwr := { s.pwr with good := false } }

/-- AUX_LOSS: the always-on domain is reset as well. -/
def auxLoss (s : State) : State :=
  let t := deviceReset 0 { s with reef := default }
  let t := ((t.wr GLB_BOOT_STS (resetVal GLB_BOOT_STS)).wrN REEF_TRIP_CNT 0).setF REEF_STS REEF_STS_TRIPPED 0
  { t with pwr := default }

/-! ### Clocks (R611 to R614) -/

/-- SYNTH_LOSS_OF_LOCK. -/
def synthLost (s : State) : State :=
  if s.flag GLB_CLK_STS GLB_CLK_STS_SYNTH_LOCK then
    let s := ((s.setF GLB_CLK_STS GLB_CLK_STS_SYNTH_LOCK 0).setF GLB_CLK_STS GLB_CLK_STS_FALLBACK 1).inc GLB_SYNTH_LOL_CNT
    let s : State := { s with pwr := { s.pwr with lockAt := none, tryAt := s.clock.now } }
    fatal E_FLT_SYNTH_LOCK islHub 0 (tb1Halt s)
  else s

/-- REFCLK_LOSS: it counts as loss of lock of both PLLs. -/
def refclkLost (s : State) : State :=
  synthLost ((s.setF GLB_CLK_STS GLB_CLK_STS_REFCLK_OK 0).setF GLB_CLK_STS GLB_CLK_STS_AUX_LOCK 0)

/-- REFCLK_RETURN. -/
def refclkBack (s : State) : State :=
  if s.dev = dOFF then s else (s.setF GLB_CLK_STS GLB_CLK_STS_REFCLK_OK 1).setF GLB_CLK_STS GLB_CLK_STS_AUX_LOCK 1

/-- SYNTH_RELOCK_TRY: every 5 ms in SAFE; `locks` when it finds lock, for which it needs REFCLK. -/
def relockTry (locks : Bool) (s : State) : State :=
  if s.dev = dSAFE ∧ s.flag GLB_CLK_STS GLB_CLK_STS_FALLBACK ∧ ¬ s.flag GLB_CLK_STS GLB_CLK_STS_SYNTH_LOCK ∧ s.flag GLB_CLK_STS GLB_CLK_STS_REFCLK_OK
      ∧ s.pwr.tryAt + 5 * msSt ≤ s.clock.now then
    let s : State := { s with pwr := { s.pwr with tryAt := s.clock.now } }
    if locks then
      ({ s with pwr := { s.pwr with lockAt := some s.clock.now } } : State).setF GLB_CLK_STS GLB_CLK_STS_SYNTH_LOCK 1
    else s
  else s

/-- SYNTH_LOCK_HELD: after 10 ms the islands return to the synthesiser. -/
def lockHeld (s : State) : State :=
  match s.pwr.lockAt with
  | some t => if t + 10 * msSt ≤ s.clock.now then s.setF GLB_CLK_STS GLB_CLK_STS_FALLBACK 0 else s
  | none => s

/-! ### Boot (Table 21-4, R620 to R628) -/

/-- STAGE. -/
def State.stage (s : State) : Nat := s.fld GLB_BOOT_STS GLB_BOOT_STS_STAGE
def State.setStage (s : State) (n : Nat) : State := s.setF GLB_BOOT_STS GLB_BOOT_STS_STAGE n

/-- A boot failure (R622). -/
def bootFail (cause : Nat) (s : State) : State := fatal E_FLT_BOOT islHub cause (s.setF GLB_BOOT_STS GLB_BOOT_STS_CAUSE cause)

/-- Is a header copy well formed (Table 21-6, R625)? -/
def hdrOk (xspi8 : Bool) (h : List (BitVec 8)) : Bool :=
  let fw := leAt h 0x10 4
  leAt h 0 4 == 0x5442514C && leAt h 4 2 == 1 && decide (leAt h 6 2 < 2) && leAt h 0x0C 4 % 8 == 0 && fw % 8 == 0
    && decide (168 ≤ fw ∧ fw ≤ 2097152) && leAt h 0x18 4 % 8 == 0 && (leAt h 0x1C 4 == 0) == (leAt h 6 2 == 0)
    && (!xspi8 || (decide (leAt h 0x20 1 ≤ 4) && decide (4 ≤ leAt h 0x21 1 ∧ leAt h 0x21 1 ≤ 30))) && zeroAt h 0x24 24
    && leAt h 0x3C 4 == crc32 (h.take 0x3C)

/-- What boot keeps of a copy: number, FW_LEN, IMG_OFF, IMG_LEN. -/
def hdrKeep (n : Nat) (h : List (BitVec 8)) : Nat × Nat × Nat × Nat := (n, leAt h 0x10 4, leAt h 0x18 4, leAt h 0x1C 4)

/-- The order in which the well-formed copies are tried (R625). -/
def bootCopies (xspi8 : Bool) (a b : List (BitVec 8)) : List (Nat × Nat × Nat × Nat) :=
  match hdrOk xspi8 a, hdrOk xspi8 b with
  | true, true => if leAt a 8 4 < leAt b 8 4 then [hdrKeep 1 b, hdrKeep 0 a] else [hdrKeep 0 a, hdrKeep 1 b]
  | true, false => [hdrKeep 0 a]
  | false, true => [hdrKeep 1 b]
  | false, false => []

/-- The owner keys from their record (R517, R626): SHR_OKEY.VALID shows the usable slots. -/
def ownerKeys (r : List (BitVec 8)) (s : State) : State :=
  let ok : Bool := decide (r.length = 400) && leAt r 0 4 == 0x59454B4F && zeroAt r 4 12
  let key (i : Nat) : List (BitVec 8) := slice r (16 + 96 * i) 96
  let usable (i : Nat) : Bool :=
    ok && !(key i).all (fun b => b == 0) && !bit (s.fld SHR_OKEY SHR_OKEY_REVOKED) i && sha (key i) == be 48 (Config.ownerDigest i).toNat
  let s : State := { s with shr := { s.shr with okeys := (List.range 4).foldl (fun t i => tput t i (if usable i then key i else [])) [] } }
  s.setF SHR_OKEY SHR_OKEY_VALID (((List.range 4).filter usable).foldl (fun m i => m + 2 ^ i) 0)

/-- The failure of a firmware body (R627), 0 for none. -/
def State.fwCause (s : State) (len : Nat) (fw : List (BitVec 8)) : Nat :=
  let d := len - 104
  if fw.length ≠ len ∨ leAt fw 0 4 ≠ 0x52574648 ∨ ¬ zeroAt fw 6 10 ∨ leAt fw d 1 ≠ 1 ∨ leAt fw (d + 1) 1 ≠ 1 ∨ ¬ zeroAt fw (d + 2) 6 then 5
  else if ¬ Config.ecdsaOk (Config.romKey 0) (fw.take (len - 96)) (slice fw (len - 96) 96) then 6
  else if leAt fw 4 2 < s.fld GLB_FW_VER GLB_FW_VER_FLOOR then 7
  else 0

/-- BOOT is complete: CONFIG with its autoload (R628), or SAFE after a trip (Table 1-10); a scrapped part boots only to SAFE (R545). -/
def bootDone (s : State) : State :=
  let s := s.setStage 7
  if s.lifecycle = 3 then fatal E_FLT_BOOT islHub 0 s
  else if s.lastReset = 3 then fatal E_REEF_TRIP islHub 0 s
  else
    let s := enterConfig s
    match s.pwr.auto_ with
    | some (off, len) => if len = 0 then s else imgLoad true true true off len s
    | none => s

/-- BOOT_STAGE_COMPLETE: `cause` the failure found by the stage (0 for none; 8 a failed flash read), `a`, `b` the header copies read,
`okr` the owner key record, `fw` the firmware read, `sens` the temperature sensors whose self-test fails, which runs in SELFTEST. -/
def bootStage (cause : Nat) (a b okr fw : List (BitVec 8)) (sens : List Nat) (s : State) : State :=
  if s.dev ≠ dBOOT then s
  else
    match s.stage with
    | 1 =>
      if cause ≠ 0 then bootFail cause s
      else ({ s with stay := { s.stay with tb0 := 0 } } : State).setStage 2
    | 2 =>
      let waits : Bool := s.fld GLB_BOOT_STS GLB_BOOT_STS_CAUSE == 1
      let s : State := if waits then s else { s with pwr := { s.pwr with tryAt := s.clock.now } }
      if waits then s
      else if cause = 1 then s.setF GLB_BOOT_STS GLB_BOOT_STS_CAUSE 1
      else
        let s := ((s.setF GLB_CLK_STS GLB_CLK_STS_REFCLK_OK 1).setF GLB_CLK_STS GLB_CLK_STS_AUX_LOCK 1).setF GLB_BOOT_STS GLB_BOOT_STS_CAUSE 0
        if cause ≠ 0 then bootFail cause s
        else ((s.setF GLB_CLK_STS GLB_CLK_STS_SYNTH_LOCK 1).setF GLB_CLK_STS GLB_CLK_STS_FALLBACK 0).setStage 3
    | 3 => if cause ≠ 0 then bootFail cause s else s.setStage 4
    | 4 =>
      let s := sensBoot sens s
      if s.dev ≠ dBOOT then s else if cause ≠ 0 then bootFail cause s else s.setStage 5
    | 5 =>
      let cs := bootCopies (s.flag GLB_BOOT_STS GLB_BOOT_STS_XSPI_MODE) a b
      if cause ≠ 0 then bootFail cause s
      else if cs = [] then bootFail 4 s
      else ownerKeys okr (({ s with pwr := { s.pwr with copies := cs } } : State).setStage 6)
    | 6 =>
      match s.pwr.copies with
      | [] => s
      | (n, len, off, ilen) :: rest =>
        let c := if cause ≠ 0 then cause else s.fwCause len fw
        if c = 0 then
          let s : State := { s with pwr := { s.pwr with copies := [], auto_ := some (off, ilen) }, shr := { s.shr with fw := sha fw } }
          bootDone ((s.setF GLB_FW_VER GLB_FW_VER_VER (leAt fw 4 2)).setF GLB_BOOT_STS GLB_BOOT_STS_COPY n)
        else
          let s : State := { s with pwr := { s.pwr with copies := rest } }
          if rest = [] then bootFail c s else s
    | _ => s

/-- AUX_PLL_RETRY: in CLOCKS without REFCLK, every 5 ms (R621). -/
def auxRetry (locks : Bool) (s : State) : State :=
  if s.dev = dBOOT ∧ s.stage = 2 ∧ s.fld GLB_BOOT_STS GLB_BOOT_STS_CAUSE = 1 ∧ s.pwr.tryAt + 5 * msSt ≤ s.clock.now then
    let s : State := { s with pwr := { s.pwr with tryAt := s.clock.now } }
    if locks then
      ((s.setF GLB_CLK_STS GLB_CLK_STS_REFCLK_OK 1).setF GLB_CLK_STS GLB_CLK_STS_AUX_LOCK 1).setF GLB_BOOT_STS GLB_BOOT_STS_CAUSE 0
    else s
  else s

/-! ### SMBus (R629) -/

/-- One byte of the CRC-8 of SMBus. -/
def pecByte (c b : BitVec 8) : BitVec 8 :=
  (List.range 8).foldl (fun c _ => if c.getLsbD 7 then (c <<< 1) ^^^ 0x07#8 else c <<< 1) (c ^^^ b)

/-- The answer to a read: its bytes and the PEC over address, command, address and data. -/
def smbAnswer (cmd : Nat) (bs : List (BitVec 8)) (s : State) : State :=
  let addr := 0x58 + s.fld GLB_BOOT_STS GLB_BOOT_STS_SMB_ADDR
  let pec := ([BitVec.ofNat 8 (2 * addr), BitVec.ofNat 8 cmd, BitVec.ofNat 8 (2 * addr + 1)] ++ bs).foldl pecByte 0
  { s with pwr := { s.pwr with smb := bs ++ [pec] } }

/-- A Read Word. -/
def smbWord (cmd v : Nat) (s : State) : State := smbAnswer cmd (le 2 v) s

/-- NACK. -/
def smbNack (s : State) : State := { s with pwr := { s.pwr with smb := [] } }

/-- REEF_ZONE[z].TEMP. -/
def smbZone (z : Nat) (s : State) : State :=
  if z < 24 then smbWord (0x10 + z) (s.fld (REEF_ZONE z) REEF_ZONE_TEMP) s else smbNack s

/-- REEF_RAIL[r]: a Block Read of 6 bytes, 0 in OFF. -/
def smbRail (r : Nat) (s : State) : State :=
  if r < 6 then smbAnswer (0x40 + r) (le 1 6 ++ le 6 (if s.dev = dOFF then 0 else s.rdN (REEF_RAIL r))) s else smbNack s

/-! ### The commands -/

/-- POWER_GOOD. -/
def execPowerGood (straps : Nat) (s : State) : Host.Outcome State Fault Refusal := .next (powerGood straps s)
/-- RAIL_LOSS. -/
def execRailLoss (s : State) : Host.Outcome State Fault Refusal := .next (railLoss s)
/-- AUX_LOSS. -/
def execAuxLoss (s : State) : Host.Outcome State Fault Refusal := .next (auxLoss s)
/-- REFCLK_LOSS. -/
def execRefclkLoss (s : State) : Host.Outcome State Fault Refusal := .next (refclkLost s)
/-- SYNTH_LOSS_OF_LOCK. -/
def execSynthLossOfLock (s : State) : Host.Outcome State Fault Refusal := .next (synthLost s)
/-- SYNTH_RELOCK_TRY. -/
def execSynthRelockTry (locks : Bool) (s : State) : Host.Outcome State Fault Refusal := .next (relockTry locks s)
/-- SYNTH_LOCK_HELD. -/
def execSynthLockHeld (s : State) : Host.Outcome State Fault Refusal := .next (lockHeld s)
/-- RESET_N_ASSERT. -/
def execResetNAssert (perst : Bool) (s : State) : Host.Outcome State Fault Refusal := .next (resetAssert perst s)
/-- RESET_RELEASE. -/
def execResetRelease (s : State) : Host.Outcome State Fault Refusal := .next (resetRelease s)
/-- GLB_RESET. -/
def execGlbReset (v : Nat) (s : State) : Host.Outcome State Fault Refusal := .next (hostWr GLB_RESET (glbReset v) s)
/-- BOOT_STAGE_COMPLETE. -/
def execBootStageComplete (r : StageFound) (a b okr fw : List (BitVec 8)) (s : State) : Host.Outcome State Fault Refusal :=
  .next (bootStage r.cause a b okr fw r.sens s)
/-- AUX_PLL_RETRY. -/
def execAuxPllRetry (locks : Bool) (s : State) : Host.Outcome State Fault Refusal := .next (auxRetry locks s)
/-- REFCLK_RETURN. -/
def execRefclkReturn (s : State) : Host.Outcome State Fault Refusal := .next (refclkBack s)
/-- SMB_BOOT_STS_LOW. -/
def execSmbBootStsLow (s : State) : Host.Outcome State Fault Refusal := .next (smbWord 0 (s.rdN GLB_BOOT_STS % 2 ^ 16) s)
/-- SMB_BOOT_STS_HIGH. -/
def execSmbBootStsHigh (s : State) : Host.Outcome State Fault Refusal := .next (smbWord 1 (s.rdN GLB_BOOT_STS / 2 ^ 16) s)
/-- SMB_STATE. -/
def execSmbState (s : State) : Host.Outcome State Fault Refusal :=
  .next (smbWord 2 (if s.dev = dOFF then 0 else s.rdN GLB_STATE % 2 ^ 16) s)
/-- SMB_REEF_STS. -/
def execSmbReefSts (s : State) : Host.Outcome State Fault Refusal := .next (smbWord 3 (s.rdN REEF_STS % 2 ^ 16) s)
/-- SMB_TRIP_CNT. -/
def execSmbTripCnt (s : State) : Host.Outcome State Fault Refusal := .next (smbWord 4 (s.rdN REEF_TRIP_CNT % 2 ^ 16) s)
/-- SMB_ZONE_TEMP. -/
def execSmbZoneTemp (z : Nat) (s : State) : Host.Outcome State Fault Refusal := .next (smbZone z s)
/-- SMB_RAIL. -/
def execSmbRail (r : Nat) (s : State) : Host.Outcome State Fault Refusal := .next (smbRail r s)
/-- SMB_OTHER. -/
def execSmbOther (s : State) : Host.Outcome State Fault Refusal := .next (smbNack s)

/-- ANALOG_TRIP. -/
def execAnalogTrip (s : State) : Host.Outcome State Fault Refusal := .next (analogTrip s)
/-- TRIP_RESTART. -/
def execTripRestart (s : State) : Host.Outcome State Fault Refusal := .next (tripRestart s)

end Sys2Proof.Machine
end

