-- ==== Sys2Proof/Machine/Lockstep.lean ====
section
/-! DEFINITION. Group commands as host software and services write them: the checks of ARM (R121, R122, R142, R551, R660) and the
status of a GLB_LSG_CMD write (R51 to R53). -/

namespace Sys2Proof.Machine

/-- The checks of R121 on one member. -/
def State.armErr (s : State) (y : Nat) : Nat :=
  let len := s.progLen y
  if len = 0 then E_SEQ_ZERO_LEN
  else if 32768 < len then E_SEQ_RANGE
  else if len ≤ s.fld (SEQ_ENTRY y) SEQ_ENTRY_ENTRY then E_SEQ_LEN_EXCEEDS
  else if s.flag (SEQ_CTL y) SEQ_CTL_RST_EN ∧ len ≤ s.fld (SEQ_RST_ENTRY y) SEQ_RST_ENTRY_ENTRY then E_SEQ_LEN_EXCEEDS
  else if s.rdN (SEQ_SHOT_CNT y) = 0 then E_SEQ_ZERO_LEN
  else if s.fld (SEQ_CTL y) SEQ_CTL_AHEAD_MAX < 20 then E_SEQ_RANGE
  else 0

/-- Does a member hold the SEQ_SHOT_CNT and the REPLAY_MAX of the lowest-numbered member? -/
def State.armAgrees (s : State) (y z : Nat) : Bool :=
  s.rdN (SEQ_SHOT_CNT y) == s.rdN (SEQ_SHOT_CNT z)
    && s.fld (SEQ_CTL y) SEQ_CTL_REPLAY_MAX == s.fld (SEQ_CTL z) SEQ_CTL_REPLAY_MAX

/-- The checks of one member at ARM; `z` is the lowest-numbered member. Of several that fail the manual does not say which one is reported:
the order is the model's, and so is the code for a yard that an island hang has reset and no commit has reconfigured (Table 1-6;
DESIGN CHOICE). -/
def State.memberErr (s : State) (z y : Nat) : Nat :=
  if s.armErr y ≠ 0 then s.armErr y
  else if ¬ s.armAgrees y z then E_SEQ_SHOT_MISMATCH
  else if s.seq.hung.contains y then E_FLT_ISL_HANG
  else if s.ust y = uLOADING then E_UC_BUSY
  else if s.ust y = uFAILED then E_UC_PATCH_FAIL
  else if s.flag (RAT_MSTS y) RAT_MSTS_HALTED then E_RAT_STATE
  else if s.trimHolds y then E_TRIM_BUSY
  else 0

/-- The first member that refuses an ARM, with its code. -/
def State.armRefusal (s : State) (g : Nat) : Option (Nat × Nat) :=
  match s.members g with
  | [] => none
  | z :: ys => ((z :: ys).find? fun y => s.memberErr z y != 0).map fun y => (y, s.memberErr z y)

/-- The status of the last GLB_LSG_CMD write. -/
def lsgStatus (code : Nat) (s : State) : State := s.setF GLB_CMD_STS GLB_CMD_STS_LSG_STATUS code

/-- A refused ARM shows its code in SEQ_FAULT of the member (R122). No instruction is at fault, and SEQ_FAULT.PC keeps its value: the manual
does not say what it holds (DESIGN CHOICE). -/
def armRefused (y code : Nat) (s : State) : State := s.setF (SEQ_FAULT y) SEQ_FAULT_CODE code

/-- Does a command start attempts, which only READY and RUN let run (Table 1-9)? In another device state it is refused, after the checks of
chapter 1 (DESIGN CHOICE). -/
def lcStarts (cmd : Nat) : Bool := cmd == lcARM || cmd == lcSTART || cmd == lcRESUME

/-- A command that passes every check is staged for its release; the second component is the status. The lead names the sender
(Table 1-5): 160 ft the host, 40 ft Winch. -/
def lsgStage (g cmd rel lead : Nat) (s : State) : State × Nat :=
  let code := s.lsgCheck g cmd rel lead
  if code ≠ 0 then (s, code)
  else if lcStarts cmd ∧ s.dev ≠ dREADY ∧ s.dev ≠ dRUN then (s, E_GLB_DEV_STATE)
  else
    match (if cmd = lcARM then s.armRefusal g else none) with
    | some (y, c) => (armRefused y c s, c)
    | none => lsgSend g cmd rel lead (if lead = 160 then islHost else islWinch) s

/-- GLB_LSG_CMD: host software commands a group (or, at the lead of a Winch item, a core); a command other than ABORT to a group that a service holds ends the
service (R399). -/
def lsgHost (g cmd lead : Nat) (s : State) : State :=
  let r := lsgStage g cmd (s.rdN GLB_LSG_REL) lead s
  let t := lsgStatus r.2 r.1
  if r.2 = 0 ∧ cmd ≠ lcABORT ∧ (s.grp g).byService.isSome then svcDisturb g E_WCH_SVC_INTERFERED t else t

/-- A service commands a group that it holds (R398): a refusal ends it with the code. -/
def lsgService (g cmd : Nat) (s : State) : State :=
  if (s.grp g).byService.isNone then s
  else
    let r := lsgStage g cmd 0 40 s
    if r.2 = 0 then r.1 else svcDisturb g r.2 r.1

/-- A group command by its sender. -/
def lsgCommand (g cmd : Nat) (svc : Bool) (s : State) : State :=
  if svc then lsgService g cmd s else hostWr GLB_LSG_CMD (lsgHost g cmd 160) s

/-! ### The commands: group, and whether a Winch service sends it -/

/-- LSG_ARM. -/
def execLsgArm (g : Nat) (svc : Bool) (s : State) : Host.Outcome State Fault Refusal := .next (lsgCommand g lcARM svc s)
/-- LSG_START. -/
def execLsgStart (g : Nat) (svc : Bool) (s : State) : Host.Outcome State Fault Refusal := .next (lsgCommand g lcSTART svc s)
/-- LSG_PAUSE. -/
def execLsgPause (g : Nat) (svc : Bool) (s : State) : Host.Outcome State Fault Refusal := .next (lsgCommand g lcPAUSE svc s)
/-- LSG_RESUME. -/
def execLsgResume (g : Nat) (svc : Bool) (s : State) : Host.Outcome State Fault Refusal := .next (lsgCommand g lcRESUME svc s)
/-- LSG_ABORT. -/
def execLsgAbort (g : Nat) (svc : Bool) (s : State) : Host.Outcome State Fault Refusal := .next (lsgCommand g lcABORT svc s)
/-- LSG_DISARM. -/
def execLsgDisarm (g : Nat) (svc : Bool) (s : State) : Host.Outcome State Fault Refusal := .next (lsgCommand g lcDISARM svc s)

end Sys2Proof.Machine
end

