-- ==== Sys2Proof/Machine/Graly.lean ====
section
/-! DEFINITION. The staged image as its tables lay it out (Tables 2-1 to 2-10, 15-10, 17-6), and the commands COMMIT, ABORT and CLEAR of
the image manager (Table 2-12, R76, R77, R79). -/

namespace Sys2Proof.Machine

/-! ### Fields of the staged image -/

/-- `n` bytes of the staged image, little-endian. -/
def State.ib (s : State) (off n : Nat) : Nat := ldBytes s.img.staging off n

/-- Header fields (Table 2-1). -/
def State.iKind (s : State) : Nat := s.ib 6 1
def State.iScope (s : State) : Nat := s.ib 7 1
def State.iVersion (s : State) : Nat := s.ib 8 4
def State.iTotal (s : State) : Nat := s.ib 0x10 4
def State.iSects (s : State) : Nat := s.ib 0x14 2

/-- Directory entry `i` (Table 2-2): TYPE, OFFSET, LENGTH. -/
def State.dType (s : State) (i : Nat) : Nat := s.ib (0x40 + 16 * i) 2
def State.dOff (s : State) (i : Nat) : Nat := s.ib (0x44 + 16 * i) 4
def State.dLen (s : State) (i : Nat) : Nat := s.ib (0x48 + 16 * i) 4

/-- Offset and length of the section of a type (0 bytes where the image carries none). -/
def State.sect (s : State) (t : Nat) : Nat × Nat :=
  match (List.range s.iSects).find? fun i => s.dType i == t with
  | some i => (s.dOff i, s.dLen i)
  | none => (0, 0)

/-- Offsets of the entries of a section of a type, with the size of an entry and of what stands before the first. -/
def State.entriesOf (s : State) (t head size : Nat) : List Nat :=
  let (o, n) := s.sect t
  (List.range ((n - head) / size)).map fun i => o + head + size * i

/-- The entries of the sections. -/
def State.iRoutes (s : State) : List Nat := s.entriesOf 1 0 8
def State.iComps (s : State) : List Nat := s.entriesOf 2 0 16
def State.iAllots (s : State) : List Nat := s.entriesOf 3 0 8
def State.iOwners (s : State) : List Nat := s.entriesOf 4 0 16
def State.iParts (s : State) : List Nat := s.entriesOf 5 0 128
def State.iLinks (s : State) : List Nat := s.entriesOf 6 16 16

/-- A ROUTING entry (Table 2-5): yard, tone engine (D0 to D7 as 0 to 7, P0 to P7 as 8 to 15), output kind, output index. -/
def State.rtYard (s : State) (o : Nat) : Nat := bits (s.ib o 2) 11 6
def State.rtTone (s : State) (o : Nat) : Nat := 8 * bits (s.ib o 2) 15 15 + bits (s.ib o 2) 2 0
def State.rtOut (s : State) (o : Nat) : Nat := bits (s.ib (o + 2) 2) 15 14
def State.rtIndex (s : State) (o : Nat) : Nat := bits (s.ib (o + 2) 2) 5 0

/-- A YARD_COMP entry (Table 2-6). -/
def State.ycYard (s : State) (o : Nat) : Nat := s.ib o 1
def State.ycComp (s : State) (o : Nat) : YardComp :=
  ⟨true, s.ib (o + 1) 1, s.ib (o + 2) 1, s.ib (o + 4) 1, s.ib (o + 5) 1, s.ib (o + 6) 1, s.ib (o + 7) 1⟩

/-- An ALLOT entry (Table 2-7), and an OWNERSHIP entry (Table 2-8). -/
def State.alRange (s : State) (o : Nat) : AllotRange := ⟨s.ib o 1, s.ib (o + 1) 1, s.ib (o + 2) 1, s.ib (o + 3) 1⟩
def State.owRange (s : State) (o : Nat) : OwnRange := ⟨s.ib o 1, s.ib (o + 1) 1, s.ib (o + 2) 2, s.ib (o + 4) 4, s.ib (o + 8) 4⟩

/-- A link entry (Table 15-10). -/
def State.lkLink (s : State) (o : Nat) : Nat := s.ib o 1
def State.lkCfg (s : State) (o : Nat) : LinkCfg :=
  ⟨s.ib (o + 1) 1, s.ib (o + 2) 1, s.ib (o + 3) 1, s.ib (o + 4) 1, s.ib (o + 5) 1, s.ib (o + 6) 1⟩

/-- The REG_INIT records from an offset to the end of the section (Table 2-10): offset, ADDR and COUNT of each. -/
def State.recsAt (s : State) (fin : Nat) : Nat → Nat → List (Nat × Nat × Nat)
  | 0, _ => []
  | k + 1, o =>
    if fin ≤ o then []
    else
      let n := s.ib (o + 4) 4
      (o, s.ib o 4, n) :: s.recsAt fin k (o + (8 + 4 * n + 7) / 8 * 8)

/-- The records of the staged image. -/
def State.iRecs (s : State) : List (Nat × Nat × Nat) :=
  let (o, n) := s.sect 7
  s.recsAt (o + n) (n / 8 + 1) o

/-- The words of the records in order: address and value. -/
def State.iWords (s : State) : List (Nat × Nat) :=
  (s.iRecs.map fun (o, a, n) => (List.range n).map fun k => (a + 4 * k, s.ib (o + 8 + 4 * k) 4)).flatten

/-! ### Failures -/

/-- IMG_DETAIL. -/
def imgDetail (cls record inst : Nat) (s : State) : State :=
  s.wrN IMG_DETAIL (inst % 2 ^ 32 * 2 ^ 32 + record % 2 ^ 16 * 2 ^ 16 + cls % 256)

/-- A failure: FAILED with its status and detail (Table 2-11). -/
def imgFail (code cls record inst : Nat) (s : State) : State := (imgDetail cls record inst (imgStatus code s)).setIst iFAILED

/-! ### COMMIT (R76, R77) -/

/-- Does an armed descriptor that has not ended name an instance (R24, R28)? -/
def State.descHolds (s : State) (cls i : Nat) : Bool :=
  s.hif.ques.any fun q => q.2.descs.any fun d => d.arm && !d.done &&
    (let a := s.endInsts d.skind d.sunit d.saddr d.len
     let b := s.endInsts d.dkind d.dunit d.daddr d.len
     (a.1 == cls && a.2.contains i) || (b.1 == cls && b.2.contains i))

/-- Does a queue that is not OFF hold a page of the result store: its ring (LOC 1) or its spill (R498)? -/
def State.queueHolds (s : State) (page : Nat) : Bool :=
  s.hif.ques.any fun q =>
    let x := q.2
    x.st != qOFF && ((x.loc && meet (4096 * page) 4096 x.base (64 * x.entries))
      || (decide (x.spillPage ≤ page) && decide (page < x.spillPage + x.spillPages)))

/-- Is an acquisition channel armed with a source (1 timer, 2 TRIG) and an instance? -/
def State.acqHolds (s : State) (src i : Nat) : Bool :=
  allYards.any fun y => (List.range 8).any fun c => s.flag (CNV_ACQ_CTL y c) CNV_ACQ_CTL_ARM
    && s.fld (CNV_ACQ_CTL y c) CNV_ACQ_CTL_SRC == src && s.fld (CNV_ACQ_CTL y c) CNV_ACQ_CTL_SEL == i

/-- Is a capture channel armed with a source (3 TRIG, 4 timer) and an instance? -/
def State.capHolds (s : State) (src i : Nat) : Bool :=
  (List.range 16).any fun c => s.flag (CNS_CTL c) CNS_CTL_ARM && s.fld (CNS_TRIG c) CNS_TRIG_SRC == src
    && s.fld (CNS_TRIG c) CNS_TRIG_TSEL == i

/-- Does a monitor ADC use an input: a running scan, an injected request, a cross-check that is enabled? -/
def State.monHolds (s : State) (i : Nat) : Bool :=
  let m := i / 8
  let x := s.mon m
  (s.flag (monCTL m) MON_CTL_SCAN_EN && (List.range (min 8 (s.fld (monCTL m) MON_CTL_SCAN_LEN))).any fun e => s.scanIn m e == i)
    || x.waiting.any (fun r => r.input == i) || (match x.run with | .inj r => r.input == i | _ => false)
    || (s.flag (monXCHK m) MON_XCHK_EN && 8 * m + s.fld (monXCHK m) MON_XCHK_XIN == i)

/-- Is a Sheet slot an input of an enabled tap, the target of an enabled import, or the slot of a channel outside the scope that is armed
or has a window? -/
def State.slotHeld (s : State) (i : Nat) : Bool :=
  ((List.range 2048).any fun t => s.flag (SHT_TAP t) SHT_TAP_EN && (List.range 4).any fun n =>
      (tapIn (s.rd (SHT_TAP t)) n).1 && (tapIn (s.rd (SHT_TAP t)) n).2.2 == i)
    || (List.range 6).any (fun l => (List.range 1024).any fun j => s.flag (SHT_IMAP l j) SHT_IMAP_EN && s.fld (SHT_IMAP l j) SHT_IMAP_LOCAL == i)
    || allYards.any fun y => !(scopeYards s.iKind s.iScope).contains y && (List.range 8).any fun c =>
      s.flag (DSC_CFG y c) DSC_CFG_SLOT_EN && s.fld (DSC_CFG y c) DSC_CFG_SLOT == i
        && (s.flag (CNV_ACQ_CTL y c) CNV_ACQ_CTL_ARM || !(s.dem y c).wins.isEmpty)

/-- Is an instance of a class held by an armed object (R28, R77)? What the manual means by an armed object beside a buffer, segment or store
is the model's reading: an object that is armed, enabled or running and names the instance. A MRK pin is held by none: a MARK that
names it is a request under R82. -/
def State.instHeld (s : State) (cls i : Nat) : Bool :=
  match cls with
  | 2 => s.acqHolds 2 i || s.capHolds 3 i
  | 3 => s.flag (STAY_TMR_CTL i) STAY_TMR_CTL_EN || s.acqHolds 1 i || s.capHolds 4 i
  | 4 => s.monHolds i
  | 5 => (s.lineRing i).isSome || s.descHolds 5 i
  | 6 => (s.que i).st != qOFF
  | 7 =>
    s.capUses (4096 * i) 4096 || s.queueHolds i || s.descHolds 7 i
      || ((List.range 48).any fun r => s.ringOn r && decide (s.fld (ringBASE r) CNV_RING_BASE_PAGE ≤ i)
          && decide (i < s.fld (ringBASE r) CNV_RING_BASE_PAGE + s.fld (ringPAGES r) CNV_RING_PAGES_PAGES))
      || ((List.range 4).any fun e => match s.fjob e with
          | some j => meet (4096 * i) 4096 j.dst j.room || (!j.srck && meet (4096 * i) 4096 j.src j.len)
          | none => false)
  | 8 => s.slotHeld i
  | 9 => s.graphUsed (4096 * i) 4096 || s.descHolds 9 i
  | 0x0A => s.descHolds 0x0A i || s.hal.segs.any fun e => e.1 / 4096 == i / 512 && e.2.state != .free && e.2.state != .ready
      && (segPages (e.1 / 4096) e.2.start e.2.len).contains i
  | 0x0B => (s.stay.sets.any fun e => e.1 == i && e.2.isSome) || (List.range 128).any fun t =>
      s.flag (STAY_TMR_CTL t) STAY_TMR_CTL_EN && s.fld (STAY_TMR_CTL t) STAY_TMR_CTL_BASE == i
  | 0x0C => !s.stay.pulses.isEmpty || s.fld STAY_SYNCOUT STAY_SYNCOUT_MODE == 3
  | _ => false

/-- Is a unit of a pooled block held by an armed object? -/
def State.unitHeld (s : State) (block u : Nat) : Bool :=
  match block with
  | 0x0B => (List.range 8).any fun x => s.decEn x && decide (s.fld (DEC_CTL x) DEC_CTL_LANE_FIRST ≤ u)
      && decide (u < s.fld (DEC_CTL x) DEC_CTL_LANE_FIRST + s.fld (DEC_CTL x) DEC_CTL_LANE_CNT)
  | 0x0C => s.wst u == wRUN || s.wst u == wWAIT || s.wst u == wHALTED
  | 0x0D => s.flag (CNS_CTL u) CNS_CTL_ARM
  | 0x0E => (s.fjob u).isSome
  | _ => false

/-- The first unit or instance that changes its owner while it is held: class or block, and number. -/
def State.changedHeld (s : State) : Option (Nat × Nat) :=
  let units := (s.iAllots.map fun o =>
    let a := s.alRange o
    (List.range a.count).filterMap fun k =>
      let u := a.first + k
      if s.allotOf a.block u != some a.part && s.unitHeld a.block u then some (a.block, u) else none).flatten
  let insts := (s.iOwners.map fun o =>
    let w := s.owRange o
    (List.range w.count).filterMap fun k =>
      let i := w.first + k
      let same : Bool := match s.ownOf w.cls i with | some v => v.okind == w.okind && v.owner == w.owner | none => false
      if !same && s.instHeld w.cls i then some (w.cls, i) else none).flatten
  (units ++ insts).head?

/-- The test of R77 on the staged partial image: what it finds first, as the CLASS and INSTANCE of IMG_DETAIL. -/
def State.scopeBusy (s : State) : Option (Nat × Nat) :=
  let ys := scopeYards s.iKind s.iScope
  let groups := List.range 64
  let now (g : Nat) : Bool := ys.any fun y => (s.comp y).present && s.groupOf y == g
  let new_ (g : Nat) : Bool := s.iComps.any fun o => (s.ycComp o).group == g
  match groups.find? fun g => now g && s.gst g != gIDLE && s.gst g != gPAUSED with
  | some g => some (0, g)
  | none =>
    match groups.find? fun g => new_ g && s.gst g != gIDLE && (s.members g).any fun y => !ys.contains y with
    | some g => some (0, g)
    | none => s.changedHeld

/-- The time (`now`) of the first ft boundary at least `lead` ft from now. While TB1 does not run R665 keeps the boundaries and gives them no
phase: they then stand where the time since BOOT is a multiple of 16 st (DESIGN CHOICE, log entry 93). -/
def State.boundaryIn (s : State) (lead : Nat) : Nat :=
  if s.tb1Run then s.clock.now + (ceilFt (s.clock.tb1 + lead * ft) - s.clock.tb1) else ceilFt (s.clock.now + lead * ft)

/-- The commit begins: it ends with the command of its kind. -/
def commitBegin (s : State) : State :=
  let c : Commit := ⟨s.iKind, s.iScope, s.boundaryIn 16, 0, s.iWords, 0, []⟩
  imgStatus 0 (({ s with img := { s.img with commit := some c } } : State).setIst iCOMMITTING)

/-- COMMIT: of a full image in CONFIG, of a partial one in READY or RUN. -/
def imgCommit (s : State) : State :=
  if s.ist ≠ iCHECKED then imgStatus E_IMG_STATE s
  else if s.iKind = 1 then (if s.dev = dCONFIG then commitBegin s else imgStatus E_IMG_STATE s)
  else if s.dev ≠ dREADY ∧ s.dev ≠ dRUN then imgStatus E_IMG_STATE s
  else
    match s.scopeBusy with
    | some (cls, i) => imgDetail cls 0 i (imgStatus E_IMG_SCOPE_BUSY s)
    | none => commitBegin s

/-- ABORT (Table 2-12). -/
def imgAbort (s : State) : State :=
  if iFETCHING ≤ s.ist ∧ s.ist ≤ iCHECKED then imgDrop ((imgStatus E_IMG_ABORTED s).setIst iIDLE)
  else if s.ist = iCOMMITTING then imgStatus E_IMG_STATE s
  else s

/-- CLEAR (Table 2-12). -/
def imgClear (s : State) : State :=
  if s.ist = iFAILED then imgDrop ((imgStatus 0 s).setIst iIDLE)
  else if s.ist = iIDLE then s
  else imgStatus E_IMG_STATE s

/-- IMG_LEN is refused while an image is being fetched or held (R27). -/
def imgLenWrite (v : Nat) (s : State) : State := if s.ist = iIDLE then s.wrRW IMG_LEN v else imgStatus E_IMG_BUSY s

/-- A write of IMG_CTL; `full` tells whether the image that a LOAD finds is a full one. -/
def imgCtlWrite (v : Nat) (full : Bool) (s : State) : State :=
  match v % 16 with
  | 0 => s
  | 1 => imgLoad full (bit v 4) false (s.rdN IMG_SRC) (s.fld IMG_LEN IMG_LEN_LEN) s
  | 2 => imgCommit s
  | 3 => imgAbort s
  | 4 => imgClear s
  | _ => imgStatus E_IMG_RSVD_ENC s

/-! ### The commands -/

/-- IMG_LOAD from host memory or, with `flash`, from the boot flash; `full` tells whether the image is a full one. -/
def execImgLoad (flash full : Bool) (s : State) : Host.Outcome State Fault Refusal :=
  .next (hostWr IMG_CTL (imgCtlWrite (1 + 16 * b01 flash) full) s)
/-- IMG_COMMIT. -/
def execImgCommit (s : State) : Host.Outcome State Fault Refusal := .next (hostWr IMG_CTL imgCommit s)
/-- IMG_ABORT. -/
def execImgAbort (s : State) : Host.Outcome State Fault Refusal := .next (hostWr IMG_CTL imgAbort s)
/-- IMG_CLEAR. -/
def execImgClear (s : State) : Host.Outcome State Fault Refusal := .next (hostWr IMG_CTL imgClear s)

end Sys2Proof.Machine
end

