-- ==== Sys2Proof/Machine/Operands.lean ====
section
/-! DEFINITION. The forms in which a command names what it acts on: the register that an access covers (R13, R667), and a value as
bytes (R8). -/

namespace Sys2Proof.Machine

/-- The width of the register that covers an address, and the address it begins at. -/
def regAt (a : Nat) : Nat × Nat :=
  match regRow (a / 4 * 4) with
  | some r => (a / 4 * 4, r.width)
  | none => match regRow (a / 8 * 8) with
    | some r => if r.width = 64 then (a / 8 * 8, 64) else (a / 4 * 4, 32)
    | none => (a / 4 * 4, 32)

/-- The bytes of a number, little-endian. -/
def leBytes : Nat → Nat → List (BitVec 8)
  | 0, _ => []
  | n + 1, v => BitVec.ofNat 8 v :: leBytes n (v / 256)

end Sys2Proof.Machine
end

