-- ==== Sys2Proof/Machine/Bus.lean ====
section
/-! DEFINITION. Reads and writes of BAR0: the rule of each register for a host write (R11 to R13, R667), for a Winch EMIT (R390) and for
a SETR (R104, R666), and what a read returns and clears. -/

namespace Sys2Proof.Machine

/-! ### Writes by block: `b` the address of the register's first instance, `ix` its instance numbers -/

/-- A write of W1C bits; a 1 to BIA_STS.LATCHED releases the source (R242). -/
def w1cWrite (b y a v mask : Nat) (s : State) : State :=
  let s := if b = BIA_STS 0 ∧ bit v 7 then biaRelease y s else s
  clearW1C a v mask s

/-- A host write, or a write of a Winch item with its own lead, of a register of a yard page. -/
def yardWrite (b : Nat) (ix : List Nat) (a v leadFt : Nat) (s : State) : State :=
  let y := ix.getD 0 0
  let c := ix.getD 1 0
  if [SEQ_CTL 0, SEQ_ENTRY 0, SEQ_RST_ENTRY 0, SEQ_PROG_LEN 0, SEQ_SHOT_CNT 0, SEQ_G 0 0].contains b then seqHostWrite y a v s
  else if b = UC_CTL 0 then ucCtlWrite y v s
  else if b = UC_LEN 0 then ucLenWrite y v s
  else if b = HAL_SEG_IDX 0 then segIdxWrite y v s
  else if b = HAL_SEG_CTL 0 then segCtlWrite y v s
  else if b = HAL_MRK_PIN 0 then mrkPinWrite y v s
  else if b = HAL_JUMP 0 0 then jumpHost y c v s
  else if b = HAL_STR_CTL 0 0 then strCtlWrite y c v s
  else if b = TON_SHD_CTL 0 then shdCtlWrite y v s
  else if b = TON_HO_CMD 0 then hoCmdLead y v leadFt s
  else if b = TON_TXD_FS 0 ∨ b = TON_TXP_FS 0 then fsWrite y a v s
  else if [TON_FREQ0 0 0, TON_PHASE0 0 0, TON_PF 0 0].contains b then tonHostWrite y a v s
  else if b = FLX_RB 0 then flxRbWrite y v s
  else if b = BIA_CODE 0 then biaCodeHost y v s
  else if b = CNV_ACQ_CTL 0 0 then (acqCtlWrite y c v s).1
  else if b = CNV_ACQ_DLY 0 0 ∨ b = CNV_ACQ_LEN 0 0 then acqGeomWrite y c a v s
  else if b = DEM_CTL 0 0 then demCtlWrite y c v s
  else if b = DEM_FIR 0 0 0 then demFirWrite y c a v s
  else if b = DEM_KLEN 0 0 then (klenWrite y c v s).1
  else if b = DEM_KW 0 0 0 0 then kwWrite y c (ix.getD 2 0) (ix.getD 3 0) v s
  else if b = DSC_CFG 0 0 then dscCfgWrite y c v s
  else if b = QM_YQID 0 then (yqidWrite y v s).1
  else if isShd a then shadowHost y a v s
  else s.wrRW a v

/-- A host write of a register of a converter page. -/
def convWrite (b : Nat) (ix : List Nat) (a v : Nat) (s : State) : State :=
  let k := 8 * ix.getD 0 0 + ix.getD 1 0
  let m := 4 * ix.getD 0 0 + ix.getD 1 0
  if b = CNV_CFG 0 0 then cnvCfgWrite k 0 v s
  else if b = CNV_CORR_A 0 0 then cnvCfgWrite k 1 v s
  else if b = CNV_CORR_B 0 0 then cnvCfgWrite k 2 v s
  else if b = MON_CTL 0 0 then monCtlWrite m v s
  else if b = MON_INJ 0 0 then monInj m v s
  else if b = MON_XCHK 0 0 then monXchkWrite m v s
  else if b = MON_SCAN 0 0 0 then monScanWrite m a v s
  else if [CNV_RING_BASE 0 0, CNV_RING_PAGES 0 0, CNV_RING_WM 0 0].contains b then ringGeomWrite k a v s
  else if b = CNV_RING_CTL 0 0 then ringCtlWrite k v s
  else if b = CNV_RING_RP 0 0 then ringRpWrite k v s
  else if [MON_RING_BASE 0 0, MON_RING_PAGES 0 0, MON_RING_WM 0 0].contains b then ringGeomWrite (32 + m) a v s
  else if b = MON_RING_CTL 0 0 then ringCtlWrite (32 + m) v s
  else if b = MON_RING_RP 0 0 then ringRpWrite (32 + m) v s
  else s.wrRW a v

/-- A host write of a register of the decision network, the decoder, Winch, capture or compression. -/
def poolWrite (b : Nat) (ix : List Nat) (a v : Nat) (s : State) : State :=
  let x := ix.getD 0 0
  let r := ix.getD 1 0
  if b = SHT_FWD 0 then fwdWrite x v s
  else if b = SHT_IMAP 0 0 then imapWrite x r v s
  else if b = SHT_TAP 0 then tapWrite x v s
  else if b = DEC_EN 0 then decEnWrite x v false s
  else if [DEC_CTL 0, DEC_GRAPH 0, DEC_ROUND 0, DEC_RCLK 0, DEC_XCFG 0, DEC_QID 0].contains b then decCfgWrite x a v s
  else if b = WCH_CTL 0 then wCtlWrite x v s
  else if b = WCH_PC 0 ∨ b = WCH_IVEC 0 then wPcWrite x a v s
  else if b = WCH_IEN 0 then wIenWrite x v s
  else if b = WCH_IPEND 0 then wDoorbell x v s
  else if b = WCH_REG 0 0 then wRegWrite x r v s
  else if b = CNS_CTL 0 then cnsCtlWrite x v s
  else if [CNS_TAP 0, CNS_TRIG 0, CNS_LVL 0, CNS_PRE 0, CNS_POST 0, CNS_REGION 0, CNS_PAGES 0, CNS_NREC 0, CNS_HOLDOFF 0].contains b then
    cnsCfgWrite x a v s
  else if b = CNS_FORCE 0 then cnsForce x v s
  else if b = CNS_RP 0 then cnsRpWrite x v s
  else if b = FRL_CTL 0 then frlCtlWrite x v s
  else if b = FRL_SRC_LEN 0 ∨ b = FRL_DST_LEN 0 then frlLenWrite x a v s
  else s.wrRW a v

/-- A host write of a register of Stay or Ozlink. -/
def timeWrite (b : Nat) (ix : List Nat) (a v : Nat) (s : State) : State :=
  let x := ix.getD 0 0
  let i := ix.getD 1 0
  if b = STAY_CTL then stayCtlWrite v s
  else if b = STAY_CMD then stayCmd v s
  else if b = STAY_SNAP then (if v % 2 = 1 then staySnap v s else s)
  else if b = STAY_SYNCOUT then syncoutWrite v s
  else if [STAY_TBN_RATE 2, STAY_TBN_SET_SEC 2, STAY_TBN_SET_NS 2].contains b then tbnWrite (x + 2) a v s
  else if b = STAY_TBN_SET_AT 2 then tbnSetAt (x + 2) v s
  else if b = STAY_TMR_CTL 0 then tmrCtlWrite x v s
  else if [STAY_TMR_CMP 0, STAY_TMR_CMPF 0, STAY_TMR_PER 0].contains b then tmrCfgWrite x a v s
  else if b = OZL_CTL 0 then ozlCtlWrite x v s
  else if b = OZL_PM 0 then ozlPmWrite x v s
  else if b = OZL_TEST 0 then ozlTestWrite x v s
  else if b = OZL_INJ 0 then ozlInjWrite x v s
  else if b = OZL_LCFG 0 0 then ozlLcfgWrite x i v s
  else stayRegWrite a v s

/-- A host write of a register of the other hub blocks; `host` is what the device finds where the write makes it read: the blob of a
SHR_PCMD command, the image of an IMG_CTL LOAD. What REEF_CMD's test finds here is not told: it is free. -/
def hubWrite (b : Nat) (ix : List Nat) (a v : Nat) (host : List (BitVec 8)) (s : State) : State :=
  let x := ix.getD 0 0
  if b = GLB_STATE_CMD then stateCmd v s
  else if b = GLB_LSG_CMD then lsgHost (bits v 13 8) (v % 8) 160 s
  else if b = GLB_RESET then glbReset v s
  else if b = IMG_CTL then imgCtlWrite v (host.getD 6 0 == 1) s
  else if b = IMG_LEN then imgLenWrite v s
  else if b = QM_QIDX then qidxWrite v s
  else if b = QM_QCMD then qcmdWrite v s
  else if b = SHR_PCMD 0 then shrPcmd x v host s
  else if b = SHR_PLEN 0 ∨ b = SHR_PDLEN 0 then shrLenWrite x a v s
  else if b = SHR_DBG_CTL then dbgCtlWrite v s
  else if b = SHR_DBG_RESP 0 then { s with shr := { s.shr with resp := tput s.shr.resp x (v % 2 ^ 32) } }
  else if b = TRIM_CTL then trimCtlWrite v s
  else if b = TRIM_CMD then trimCmdWrite v s
  else if b = REEF_CMD then (reefCmd v (s.freeN % 2 == 1) [] s).nextFree
  else if b = REEF_PLIM then plimWrite v s
  else if b = FLT_CMD then fltCmd v s
  else if b = FLT_LOG_RP then logRpWrite (v % 512) s
  else if b = FLT_MARK then fltMark (v % 64) s
  else if b = FLT_TRIG_CFG 0 then trigCfgWrite x v s
  else s.wrRW a v

/-- The registers that only Ratline reaches (R656). -/
def ratOnly (b : Nat) : Bool := [RAT_MCTL 0, RAT_MSTS 0, RAT_MBRK 0 0, RAT_WCTL 0, RAT_WBRK 0 0].contains b

/-- A write of a whole register by host software under the register's own rules; an unimplemented offset discards it (R12). -/
def hostStore (a v leadFt : Nat) (host : List (BitVec 8)) (s : State) : State :=
  match regRow a with
  | none => s
  | some r =>
    let b := r.base
    let ix := strideIdx (a - b) r.strides
    if ratOnly b then s
    else if r.w1c ≠ 0 then w1cWrite b (ix.getD 0 0) a v r.w1c s
    else if 0x2000000 ≤ b then convWrite b ix a v s
    else if 0x1000000 ≤ b then yardWrite b ix a v leadFt s
    else if 0x800000 ≤ b ∧ b < 0xD00000 then poolWrite b ix a v s
    else if 0x400000 ≤ b ∧ b < 0x600000 then timeWrite b ix a v s
    else hubWrite b ix a v host s

/-! ### Host writes (R11 to R13, R667) -/

/-- A write of 32 bits: a 64-bit register discards it (R13). -/
def write32 (a v leadFt : Nat) (host : List (BitVec 8)) (s : State) : State :=
  match regRow a with
  | some r => if r.width = 32 then hostWr a (hostStore a (v % 2 ^ 32) leadFt host) s else s
  | none => s

/-- A host write of `n` bytes: narrower than the register it is discarded, and 64 bits over two 32-bit registers are two writes. -/
def busWrite (a v n leadFt : Nat) (host : List (BitVec 8)) (s : State) : State :=
  if 0x700000 ≤ a ∧ a < 0x708000 then
    if n = 4 ∧ a % 4 = 0 then hostBar (msixWrite ((a - 0x700000) / 4) (v % 2 ^ 32)) s
    else if n = 8 ∧ a % 8 = 0 then
      hostBar (fun s => msixWrite ((a - 0x700000) / 4 + 1) (v / 2 ^ 32 % 2 ^ 32) (msixWrite ((a - 0x700000) / 4) (v % 2 ^ 32) s)) s
    else s
  else if n = 4 ∧ a % 4 = 0 then write32 a v leadFt host s
  else if n = 8 ∧ a % 8 = 0 then
    match regRow a with
    | some r =>
      if r.width = 64 then hostWr a (hostStore a (v % 2 ^ 64) leadFt host) s
      else write32 (a + 4) (v / 2 ^ 32) leadFt host (write32 a v leadFt host s)
    | none => write32 (a + 4) (v / 2 ^ 32) leadFt host s
  else s

/-- A write of a whole register before which no seal stands: of a Winch item, whose core is inside the partition (R528), or of Ratline (R656);
in the ft of a SETR of the same register the Mast's value stands (R98). -/
def openWrite (a v leadFt : Nat) (s : State) : State :=
  if s.pageBusy a then s.inc IMG_DROP_CNT
  else if s.setrNow a then (hostStore a v leadFt [] s).wr a (s.rd a)
  else hostStore a v leadFt [] s

/-- 32 bits of a Winch item. -/
def emit32 (a v : Nat) (s : State) : State :=
  match regRow a with
  | some r => if r.width = 32 then openWrite a (v % 2 ^ 32) 40 s else s
  | none => s

/-- A Winch item acts at its yard as a host write of the same width, but for its lead (R390, R528, R667). -/
def emitWrite (a v : Nat) (w64 : Bool) (s : State) : State :=
  if w64 = false then (if a % 4 = 0 then emit32 a v s else s)
  else if a % 8 ≠ 0 then s
  else match regRow a with
    | some r => if r.width = 64 then openWrite a (v % 2 ^ 64) 40 s else emit32 (a + 4) (v / 2 ^ 32) (emit32 a v s)
    | none => emit32 (a + 4) (v / 2 ^ 32) s

/-! ### SETR (R104, R666) -/

/-- A SETR write at its release, and the status of a refusal that is a program fault. -/
def setrStore (y off v : Nat) (s : State) : State × Nat :=
  let a := 0x1000000 + 0x40000 * y + off
  match regRow a with
  | none => (s, 0)
  | some r =>
    let b := r.base
    let c := (strideIdx (a - b) r.strides).getD 1 0
    let ix := strideIdx (a - b) r.strides
    if b = RAT_MBRK 0 0 then (s.wrRW a v, 0)
    else if ratOnly b then (s, 0)
    else if [TON_FREQ0 0 0, TON_PHASE0 0 0, TON_PF 0 0].contains b then (tonStore a v s, 0)
    else if b = BIA_CODE 0 then (biaCodeSet y v s, 0)
    else if b = HAL_JUMP 0 0 then (jumpWrite y c v s.tb1 s, 0)
    else if b = HAL_STR_CTL 0 0 then
      let checked : Bool := bit v 31 && s.yIdle y && !s.flag (HAL_STR_CTL y c) HAL_STR_CTL_EN
      let t := strCtlWrite y c v s
      (t, if checked then t.fld (HAL_STR_STS y c) HAL_STR_STS_STATUS else 0)
    else if b = CNV_ACQ_CTL 0 0 then acqCtlWrite y c v s
    else if b = DEM_KLEN 0 0 then klenWrite y c v s
    else if b = QM_YQID 0 then yqidWrite y v s
    else if isShd a ∧ ¬ txpOdd y a then
      if shdCheck y a v ≠ 0 then (s, shdCheck y a v) else (shadowStore y a v s, 0)
    else (yardWrite b ix a v 40 s, 0)

/-- The SETR of instruction `pc` is released: a refusal raises the program fault of its status (R126). -/
def setrRelease (y pc off v : Nat) (s : State) : State :=
  let r := setrStore y off v s
  if r.2 = 0 then r.1.noteSetr (0x1000000 + 0x40000 * y + off) else progFault y pc r.2 r.1

/-! ### Reads (R12, R13, R667) -/

/-- First page of a block in BAR0, and the instances and stride of its capability entry (Table 2-18). -/
def capBase (id : Nat) : Nat × Nat × Nat :=
  if [3, 4, 5, 6, 7, 9].contains id then (0x1000000, 64, 64)
  else if id = 8 then (0x2000000, 4, 1024)
  else ([0, 0, 0xE00000, 0, 0, 0, 0, 0, 0, 0, 0xB00000, 0xA00000, 0xC00000, 0x900000, 0x800000, 0x400000, 0x500000, 0x600000, 0x100000,
    0x300000, 0x200000, 0xD00000, 0xF00000].getD id 0, 1, 0)

/-- A word of the capability list: one entry for each block ID 0x01 to 0x16, in that order. Of a block that Table 2-18 gives no instances and
no stride, INST reads 1 and STRIDE 0 (DESIGN CHOICE, log entry 100). -/
def capWord (a : Nat) : Nat :=
  let id := (a - 0x100) / 16 + 1
  let (base, n, stride) := capBase id
  if a < 0x100 ∨ 0x16 < id then 0
  else match (a - 0x100) / 4 % 4 with
    | 0 => (if id = 0x16 then 0 else (0x100 + 16 * id) * 2 ^ 16) + 2 ^ 8 + id
    | 1 => base
    | 2 => n * 2 ^ 16 + stride
    | _ => 0

/-- Does DEM_FREQ lie outside the band of the zone in force (R247, R295)? A hundredth of 2⁴⁰ steps is 0.2 GHz. -/
def State.zoneMiss (s : State) (y c : Nat) : Bool :=
  let f : Int := 100 * sgn 40 (s.actF (DEM_FREQ y c) DEM_FREQ_F)
  let z : Int := getF (s.adcNow (pairOf y) 0) CNV_CFG_ZONE
  decide (f < (1 + 25 * z) * 2 ^ 40) || decide ((24 + 25 * z) * 2 ^ 40 < f)

/-- What a register shows that is not stored as such: states kept elsewhere, and values that follow time. -/
def State.shown (s : State) (b : Nat) (ix : List Nat) (a : Nat) : Word :=
  let y := ix.getD 0 0
  let c := ix.getD 1 0
  if b = GLB_LSG_STAT 0 then insF (s.rd a) GLB_LSG_STAT_MEMBERS (s.members y).length
  else if b = HAL_SEG_STS 0 then
    insF (s.rd a) HAL_SEG_STS_SSTATE (s.seg (quad y) (s.fld (HAL_SEG_IDX y) HAL_SEG_IDX_IDX)).state.code
  else if b = HAL_STR_LVL 0 0 then BitVec.ofNat 64 ((s.strm y c).wp - (s.strm y c).rp)
  else if b = HAL_STR_PROT 0 0 then BitVec.ofNat 64 ((s.strm y c).rp - (s.strm y c).m)
  else if b = TON_TSTS 0 0 then insF (insF (s.rd a) TON_TSTS_OUT (s.route y c).1) TON_TSTS_INDEX (s.route y c).2
  else if b = DEM_STS 0 0 then
    insF (insF (insF (s.rd a) DEM_STS_FADING (b01 (s.fading y c s.clock.now))) DEM_STS_ABANK (s.bankAt y c s.clock.now)) DEM_STS_ZONE_MISS
      (b01 (s.zoneMiss y c))
  else if b = DEM_FADE 0 0 then
    match fadeAt (s.dem y c).fades s.clock.now with
    | some f => if s.clock.now < f.stop then BitVec.ofNat 64 ((s.clock.now - f.start) / (ft * f.r) * 2 ^ 16 + f.xf) else 0
    | none => 0
  else if b = STAY_TB1 then BitVec.ofNat 64 s.tb1
  else if b = WCH_REG 0 0 then (if s.wchOpen y then (if c = 53 then s.rd (WCH_IPEND y) else s.rd a) else 0)
  else if b = SHR_MEAS 1 0 then BitVec.ofNat 64 (leAt (s.meas (y + 1)) (4 * c) 4)
  else if b = TRIM_CSTS 0 then (if s.dev = dCAL then insF (s.rd a) TRIM_CSTS_FG 1 else s.rd a)
  else if b = QM_QSTS then insF (s.rd a) QM_QSTS_QSTATE (s.que s.qidx).st
  else if b = QM_QPROD then BitVec.ofNat 64 (s.que s.qidx).prod
  else if b = QM_QCONS then BitVec.ofNat 64 (s.que s.qidx).cons
  else s.rd a

/-- The value that a whole register shows to Ratline (`rat`) or to host software, before a seal is looked at. -/
def State.view (s : State) (rat : Bool) (a : Nat) : Word :=
  if 0x100 ≤ a ∧ a < 0x260 then BitVec.ofNat 64 (capWord a)
  else if 0x700000 ≤ a ∧ a < 0x708000 then BitVec.ofNat 64 (s.msix ((a - 0x700000) / 4))
  else if 0x708000 ≤ a ∧ a < 0x708100 then
    BitVec.ofNat 64 ((List.range 32).foldl (fun n k => n + b01 (s.hif.pba.contains (8 * (a - 0x708000) + k)) * 2 ^ k) 0)
  else match regRow a with
    | some r => if ratOnly r.base ∧ ¬ rat then 0 else s.shown r.base (strideIdx (a - r.base) r.strides) a
    | none => 0

/-- What host software reads of a whole register: 0 behind a seal (Table 17-8). -/
def State.hostSees (s : State) (rat : Bool) (a : Nat) : Word := if (s.sealedBy a).isSome ∧ ¬ rat then 0 else s.view rat a

/-- A read of `n` bytes within one register: the whole register clears its RC fields, unless `peek`. -/
def readPart (rat peek : Bool) (a n : Nat) (s : State) : State × Nat :=
  let (r, w) := regAt a
  let v := (s.hostSees rat r).toNat / 2 ^ (8 * (a - r)) % 2 ^ (8 * n)
  (if 8 * n = w ∧ a = r ∧ ¬ peek then clearRC r s else s, v)

/-- A read of `n` bytes: 64 bits over two 32-bit registers are two reads (R667). -/
def busRead (rat peek : Bool) (a n : Nat) (s : State) : State × Nat :=
  if n = 8 ∧ a % 8 = 0 ∧ (regAt a).2 = 32 then
    let lo := readPart rat peek a 4 s
    let hi := readPart rat peek (a + 4) 4 lo.1
    (hi.1, lo.2 + hi.2 * 2 ^ 32)
  else readPart rat peek a n s

/-! ### The commands -/

/-- REG_WRITE: a host write of `n` bytes of value `v` at BAR0 offset `a`; `host` as at `hubWrite`. -/
def execRegWrite (a v n : Nat) (host : List (BitVec 8)) (s : State) : Host.Outcome State Fault Refusal :=
  .next (busWrite a v n 160 host s)

/-- REG_READ_CLEAR: a host read of `n` bytes at BAR0 offset `a`; the value goes to the reader. -/
def execRegReadClear (a n : Nat) (s : State) : Host.Outcome State Fault Refusal :=
  if s.barUp then
    let r := busRead false false a n s
    .next { r.1 with bus := { r.1.bus with rdata := BitVec.ofNat 64 r.2 } }
  else .next s

end Sys2Proof.Machine
end

