-- ==== Sys2Proof/Machine/Image.lean ====
section
/-! DEFINITION. The image checker and the commits (chapter 2): header, directory, sections and joining rules in the order of R73, the
configuration that an image puts in force, REG_INIT, and the phases of a commit. -/

namespace Sys2Proof.Machine

/-- A test of the checker: does it fail, and the status, CLASS, RECORD and INSTANCE of the failure. -/
abbrev Chk := Bool × Nat × Nat × Nat × Nat

/-- The first test that fails. -/
def chkFail (cs : List Chk) : Option (Nat × Nat × Nat × Nat) := (cs.find? fun c => c.1).map (·.2)

/-! ### Header and directory -/

/-- Do `n` bytes of the staged image hold a 1? -/
def State.iRsvd (s : State) (off n : Nat) : Bool := s.ib off n != 0

/-- The yards whose Masts an image covers. -/
def State.iYards (s : State) : List Nat := scopeYards s.iKind s.iScope

/-- UCODE_VER of a Mast as the checker takes it (R146). -/
def State.ucodeVer (s : State) (y : Nat) : Nat :=
  if s.ust y = uLOADING then s.fld (UC_VER y) UC_VER_ROM * 2 ^ 16 else s.rdN (UC_VER y)

/-- The tests of the header (Table 2-1, R73, R674). -/
def State.headerChecks (s : State) : List Chk :=
  let k := s.iKind
  let top := if k = 1 then 0 else if k = 2 then 63 else if k = 3 then 3 else 5
  let old := s.iYards.find? fun y => decide (s.ucodeVer y < s.ib 0x18 4)
  let f (b : Bool) (code : Nat) : Chk := (b, code, 0, 0, 0)
  [ f (s.ib 0 4 != 0x594C5247) E_IMG_BAD_MAGIC,
    f (s.ib 4 2 != 1) E_IMG_FORMAT,
    f (k == 0 || decide (5 ≤ k)) E_IMG_RSVD_ENC,
    f (decide (top < s.iScope)) E_IMG_RANGE,
    f (s.iVersion == 0) E_IMG_RANGE,
    f (k == 1 && s.ib 0xC 4 != 0) E_IMG_RANGE,
    f (k != 1 && s.ib 0xC 4 != s.rdN IMG_VER) E_IMG_BASE_VER,
    f (s.iTotal % 8 != 0) E_IMG_ALIGN,
    f (s.iSects == 0) E_IMG_ZERO_LEN,
    f (decide (32 < s.iSects)) E_IMG_RANGE,
    f (s.iRsvd 0x16 2) E_IMG_RSVD_ENC,
    (old.isSome, E_IMG_UCODE_VER, 0, 0, old.getD 0),
    f (s.iRsvd 0x1C 4 || s.iRsvd 0x30 16) E_IMG_RSVD_ENC ]

/-- Does a section length fail the entry size of its type (R674)? -/
def lenMisfit (t n : Nat) : Bool :=
  match t with
  | 1 | 3 | 7 => n % 8 != 0
  | 2 | 4 => n % 16 != 0
  | 5 => n % 128 != 0
  | 6 => n % 16 != 0 || decide (n < 16)
  | _ => false

/-- The tests of directory entry `i` (Table 2-2). -/
def State.dirChecks (s : State) (i : Nat) : List Chk :=
  let t := s.dType i
  let n := s.dLen i
  let enc := bit (s.ib (s.iTotal - 104 + 3) 1) 0
  let f (b : Bool) (code : Nat) : Chk := (b, code, t, i, s.dOff i)
  [ f (t == 0 || decide (9 ≤ t)) E_IMG_RSVD_ENC,
    f (s.ib (0x42 + 16 * i) 2 != 1) E_IMG_FORMAT,
    f (s.dOff i % 8 != 0) E_IMG_ALIGN,
    f (n == 0) E_IMG_ZERO_LEN,
    f (lenMisfit t n) E_IMG_ALIGN,
    f (t == 8 && n != (if enc then 136 else 104)) E_IMG_RANGE,
    f (decide (s.iTotal < s.dOff i + n)) E_IMG_LEN_EXCEEDS,
    f (s.iRsvd (0x4C + 16 * i) 4) E_IMG_RSVD_ENC ]

/-- Table 2-4: required and optional section types of an image kind. -/
def sectRequired (k : Nat) : List Nat := match k with | 1 => [1, 2, 3, 4, 5, 6, 7, 8] | 4 => [6, 8] | _ => [2, 8]
def sectOptional (k : Nat) : List Nat := match k with | 1 => [] | 2 => [1, 4, 7] | 3 => [1, 3, 4, 7] | _ => [7]

/-- The tests of the whole directory (R58, R59). R58 gives its three tests no order among themselves: the model makes them as missing,
forbidden, repeated (DESIGN CHOICE). -/
def State.dirWhole (s : State) : List Chk :=
  let is := List.range s.iSects
  let has (t : Nat) : Bool := is.any fun i => s.dType i == t
  let k := s.iKind
  let miss := (sectRequired k).map fun t => ((!has t, E_IMG_SECT_MISSING, t, 0, 0) : Chk)
  let forb := is.map fun i =>
    ((!(sectRequired k).contains (s.dType i) && !(sectOptional k).contains (s.dType i), E_IMG_SCOPE, s.dType i, i, 0) : Chk)
  let dup := is.map fun i => (((List.range i).any (fun j => s.dType j == s.dType i), E_IMG_SECT_DUP, s.dType i, i, 0) : Chk)
  let last := s.iSects - 1
  let place : Chk := (s.dType last != 8 || s.dOff last + s.dLen last != s.iTotal, E_IMG_SECT_OVERLAP, 8, last, s.dOff last)
  let laps := is.map fun i =>
    ((decide (s.dOff i < 0x40 + 16 * s.iSects) || (List.range i).any (fun j => rangesMeet (s.dOff i) (s.dLen i) (s.dOff j) (s.dLen j)),
      E_IMG_SECT_OVERLAP, s.dType i, i, s.dOff i) : Chk)
  miss ++ forb ++ dup ++ [place] ++ laps

/-! ### Sections -/

/-- Does a partial image leave its scope by naming a yard? -/
def State.outScope (s : State) (y : Nat) : Bool := s.iKind != 1 && !s.iYards.contains y

/-- The partitions of the scope (R672), and whether a partial image leaves them by naming a partition. -/
def State.outPart (s : State) (p : Nat) : Bool := s.iKind != 1 && !(s.iYards.any fun y => (s.comp y).present && s.partOf y == p)

/-- The entries of a section tested in order, each with the entries before it. -/
def entryChecks (os : List Nat) (f : Nat → Nat → List Nat → List Chk) : List Chk :=
  (os.zipIdx.map fun (o, i) => f o i (os.take i)).flatten

/-- The tones that the routes in force after the commit bring to each output (R60), for the yards of a quadrant: kind and index. -/
def State.routedTo (s : State) (kind i : Nat) : Nat :=
  let q := if kind = 0 then i / 16 else i / 8
  (((List.range 16).map (16 * q + ·)).map fun y => ((List.range 16).filter fun t => s.route y t == (kind, i)).length).sum

/-- R200: no output takes more than 32 tones, counted with the routes that the image leaves as they are. The test needs the whole section
and follows its last entry (R73); it names no entry, so RECORD is 0, and INSTANCE is the number of the output, that of TXPk being
64 + k (DESIGN CHOICE). -/
def State.routeCounts (s : State) : List Chk :=
  let add (t : Tab Route) (o : Nat) : Tab Route := tput t (16 * s.rtYard o + s.rtTone o) ⟨true, s.rtOut o, s.rtIndex o⟩
  let rs := s.iRoutes.foldl add (if s.iKind = 1 then [] else s.img.routes)
  let t : State := { s with img := { s.img with routes := rs } }
  (List.range 96).map fun o => ((decide (32 < t.routedTo (o / 64) (o % 64)), E_IMG_RANGE, 1, 0, o) : Chk)

/-- ROUTING (Table 2-5, R60, R61). Fields of one offset are tested in the order of the table. -/
def State.routeChecks (s : State) : List Chk := entryChecks s.iRoutes fun o i before =>
  let w := s.ib o 2
  let x := s.ib (o + 2) 2
  let y := s.rtYard o
  let t := s.rtTone o
  let f (b : Bool) (code : Nat) : Chk := (b, code, 1, i, 16 * y + t)
  [ f (bits w 14 12 != 0) E_IMG_RSVD_ENC,
    f (s.outScope y) E_IMG_SCOPE,
    f (bits w 5 3 != 0) E_IMG_RSVD_ENC,
    f (before.any fun p => s.rtYard p == y && s.rtTone p == t) E_IMG_RES_DOUBLE,
    f (decide (2 ≤ s.rtOut o)) E_IMG_RSVD_ENC,
    f (s.rtOut o != t / 8) E_IMG_RANGE,
    f (bits x 13 6 != 0) E_IMG_RSVD_ENC,
    f (s.rtOut o == 1 && decide (32 ≤ s.rtIndex o)) E_IMG_RANGE,
    f (s.rtIndex o / (if s.rtOut o = 0 then 16 else 8) != y / 16) E_IMG_ROUTE_QUAD,
    f (s.iRsvd (o + 4) 4) E_IMG_RSVD_ENC ]

/-- YARD_COMP (Table 2-6, R62, R64). A yard that is missing has no entry: RECORD is then 0 (DESIGN CHOICE). -/
def State.compChecks (s : State) : List Chk :=
  let each := entryChecks s.iComps fun o i before =>
    let y := s.ycYard o
    let f (b : Bool) (code : Nat) : Chk := (b, code, 2, i, y)
    [ f (decide (64 ≤ y)) E_IMG_RANGE,
      f (s.outScope y) E_IMG_SCOPE,
      f (before.any fun p => s.ycYard p == y) E_IMG_RES_DOUBLE,
      f (decide (64 ≤ s.ib (o + 1) 1)) E_IMG_RANGE,
      f (decide (8 ≤ s.ib (o + 2) 1)) E_IMG_RSVD_ENC,
      f (s.iKind != 1 && s.ib (o + 2) 1 != s.partOf y) E_IMG_SCOPE,
      f (s.iRsvd (o + 3) 1 || bits (s.ib (o + 7) 1) 7 6 != 0 || s.iRsvd (o + 8) 8) E_IMG_RSVD_ENC ]
  let miss := s.iYards.map fun y => ((!(s.iComps.any fun o => s.ycYard o == y), E_IMG_SECT_MISSING, 2, 0, y) : Chk)
  each ++ miss

/-- Units of a pooled block (Table 2-7), and instances of a resource class (Table 2-9). -/
def blockUnits (b : Nat) : Nat := match b with | 0x0B => 16 | 0x0C => 8 | 0x0D => 16 | 0x0E => 4 | _ => 0
def classEnd (c : Nat) : Nat := [0, 64, 16, 128, 128, 128, 262144, 8192, 1024, 2048, 2048, 8, 1].getD c 0
def classFirst (c : Nat) : Nat := if c = 0x0B then 2 else 0

/-- ALLOT (Table 2-7, R65, R67, R672). -/
def State.allotChecks (s : State) : List Chk := entryChecks s.iAllots fun o i before =>
  let a := s.alRange o
  let units := (List.range a.count).map (a.first + ·)
  let dbl := units.find? fun u => before.any fun p =>
    (s.alRange p).block == a.block && decide ((s.alRange p).first ≤ u) && decide (u < (s.alRange p).first + (s.alRange p).count)
  let far := units.find? fun u => match s.allotOf a.block u with | some p => s.outPart p | none => false
  let f (b : Bool) (code : Nat) : Chk := (b, code, a.block, i, a.first)
  [ f (blockUnits a.block == 0) E_IMG_RSVD_ENC,
    f (decide (8 ≤ a.part)) E_IMG_RANGE,
    f (s.outPart a.part) E_IMG_SCOPE,
    f (decide (blockUnits a.block ≤ a.first)) E_IMG_RANGE,
    f (a.count == 0) E_IMG_ZERO_LEN,
    f (decide (blockUnits a.block < a.first + a.count)) E_IMG_RANGE,
    (dbl.isSome, E_IMG_RES_DOUBLE, a.block, i, dbl.getD 0),
    (s.iKind != 1 && far.isSome, E_IMG_SCOPE, a.block, i, far.getD 0),
    f (s.iRsvd (o + 4) 4) E_IMG_RSVD_ENC ]

/-- OWNERSHIP (Table 2-8, R65, R67, R672). An OWNER outside the range of its OKIND is E_IMG_RANGE, also a block ID that Table 0-4 does not
give: the manual does not say whether that is a reserved encoding (DESIGN CHOICE). -/
def State.ownerChecks (s : State) : List Chk := entryChecks s.iOwners fun o i before =>
  let w := s.owRange o
  let insts := (List.range w.count).map (w.first + ·)
  let dbl := insts.find? fun k => before.any fun p =>
    (s.owRange p).cls == w.cls && decide ((s.owRange p).first ≤ k) && decide (k < (s.owRange p).first + (s.owRange p).count)
  let far := insts.find? fun k => match s.ownOf w.cls k with
    | some v => if v.okind = 1 then s.outScope v.owner else if v.okind = 3 then s.outPart v.owner else true
    | none => false
  let wrong : Bool := match w.okind with
    | 1 => decide (64 ≤ w.owner)
    | 2 => w.owner == 0 || decide (0x17 ≤ w.owner)
    | 3 => decide (8 ≤ w.owner)
    | _ => w.owner != 0
  let f (b : Bool) (code : Nat) : Chk := (b, code, w.cls, i, w.first)
  [ f (w.cls == 0 || decide (0x0D ≤ w.cls)) E_IMG_RSVD_ENC,
    f (w.okind == 0 || decide (5 ≤ w.okind)) E_IMG_RSVD_ENC,
    f (s.iKind != 1 && (w.okind == 2 || w.okind == 4)) E_IMG_SCOPE,
    f wrong E_IMG_RANGE,
    f (if w.okind = 1 then s.outScope w.owner else if w.okind = 3 then s.outPart w.owner else false) E_IMG_SCOPE,
    f (decide (w.first < classFirst w.cls) || decide (classEnd w.cls ≤ w.first)) E_IMG_RANGE,
    f (w.count == 0) E_IMG_ZERO_LEN,
    f (decide (classEnd w.cls < w.first + w.count)) E_IMG_RANGE,
    (dbl.isSome, E_IMG_RES_DOUBLE, w.cls, i, dbl.getD 0),
    (s.iKind != 1 && far.isSome, E_IMG_SCOPE, w.cls, i, far.getD 0),
    f (s.iRsvd (o + 0xC) 4) E_IMG_RSVD_ENC ]

/-- PARTITIONS (Table 17-6, R526). -/
def State.partChecks (s : State) : List Chk := entryChecks s.iParts fun o i before =>
  let p := s.ib o 1
  let fl := s.ib (o + 1) 1
  let f (b : Bool) (code : Nat) : Chk := (b, code, 5, i, p)
  [ f (decide (8 ≤ p)) E_IMG_RANGE,
    f (before.any fun q => s.ib q 1 == p) E_IMG_RES_DOUBLE,
    f (decide (4 ≤ fl) || s.iRsvd (o + 2) 14) E_IMG_RSVD_ENC,
    f (bit fl 0 && !Config.onCurve (ldList s.img.staging (o + 0x10) 96)) E_IMG_RANGE,
    f (s.iRsvd (o + 0x70) 16) E_IMG_RSVD_ENC ]

/-- LINK_TOPO (Table 15-10, R488). -/
def State.linkChecks (s : State) : List Chk :=
  let (h, _) := s.sect 6
  let dev := s.ib h 1
  let ndev := s.ib (h + 1) 1
  let head : List Chk :=
    [ (decide (16 ≤ dev), E_IMG_RANGE, 6, 0, 0),
      (s.iKind == 4 && dev != s.img.devId, E_IMG_SCOPE, 6, 0, 0),
      (ndev == 0 || decide (17 ≤ ndev), E_IMG_RANGE, 6, 0, 1),
      (s.iRsvd (h + 2) 14, E_IMG_RSVD_ENC, 6, 0, 2) ]
  let each := entryChecks s.iLinks fun o i before =>
    let c := s.lkCfg o
    let l := s.lkLink o
    let f (b : Bool) (code : Nat) : Chk := (b, code, 6, i, l)
    let same (q : Nat) : Bool := bit (s.lkCfg q).flags 0 && (s.lkCfg q).peerDev == c.peerDev && (s.lkCfg q).peerLink == c.peerLink
    [ f (decide (6 ≤ l)) E_IMG_RANGE,
      f (s.iKind == 4 && l != s.iScope) E_IMG_SCOPE,
      f (before.any fun q => s.lkLink q == l) E_IMG_RES_DOUBLE,
      f (decide (4 ≤ c.flags)) E_IMG_RSVD_ENC,
      f (decide (ndev ≤ c.peerDev) || c.peerDev == dev) E_IMG_RANGE,
      f (decide (6 ≤ c.peerLink)) E_IMG_RANGE,
      f (bit c.flags 0 && before.any same) E_IMG_RES_DOUBLE,
      f (decide (5 ≤ c.maxRate)) E_IMG_RANGE,
      f (decide (16 ≤ c.pre)) E_IMG_RANGE,
      f (decide (24 ≤ c.post) || decide (23 < c.pre + c.post)) E_IMG_RANGE,
      f (s.iRsvd (o + 7) 9) E_IMG_RSVD_ENC ]
  let named := if s.iKind = 4 then [s.iScope] else List.range 6
  head ++ each ++ named.map fun l => ((!(s.iLinks.any fun o => s.lkLink o == l), E_IMG_SECT_MISSING, 6, 0, l) : Chk)

/-! ### The configuration that an image puts in force (R60, R66, R74) -/

/-- The tables of a full image. -/
def fullConfig (s : State) : State :=
  let (h, _) := s.sect 6
  { s with img := { s.img with
      owns := s.iOwners.map s.owRange
      allots := s.iAllots.map s.alRange
      yards := s.iComps.foldl (fun t o => tput t (s.ycYard o) (s.ycComp o)) []
      routes := s.iRoutes.foldl (fun t o => tput t (16 * s.rtYard o + s.rtTone o) ⟨true, s.rtOut o, s.rtIndex o⟩) []
      routeOrd := s.iRoutes.map fun o => 16 * s.rtYard o + s.rtTone o
      parts := s.iParts.foldl (fun t o => tput t (s.ib o 1) ⟨s.ib (o + 1) 1, ldList s.img.staging (o + 0x10) 96⟩) []
      links := s.iLinks.foldl (fun t o => tput t (s.lkLink o) (s.lkCfg o)) []
      devId := s.ib h 1
      nDev := s.ib (h + 1) 1 } }

/-- The tables of a yard or quadrant image: what it does not name stays. -/
def yardConfig (s : State) : State :=
  let tones := s.iRoutes.map fun o => 16 * s.rtYard o + s.rtTone o
  { s with img := { s.img with
      owns := s.iOwners.map s.owRange ++ s.img.owns
      allots := s.iAllots.map s.alRange ++ s.img.allots
      yards := s.iComps.foldl (fun t o => tput t (s.ycYard o) (s.ycComp o)) s.img.yards
      routes := s.iRoutes.foldl (fun t o => tput t (16 * s.rtYard o + s.rtTone o) ⟨true, s.rtOut o, s.rtIndex o⟩) s.img.routes
      routeOrd := s.img.routeOrd ++ tones.filter fun t => !s.img.routeOrd.contains t } }

/-- The table of a link image. -/
def linkConfig (s : State) : State :=
  let (h, _) := s.sect 6
  { s with img := { s.img with
      links := s.iLinks.foldl (fun t o => tput t (s.lkLink o) (s.lkCfg o)) s.img.links
      nDev := s.ib (h + 1) 1 } }

/-- The configuration that the staged image puts in force. -/
def newConfig (s : State) : State := if s.iKind = 1 then fullConfig s else if s.iKind = 4 then linkConfig s else yardConfig s

/-- The registers that take their image value at a full commit (Reset column "image"): back to 0 before REG_INIT (R71). -/
def imageBases : List Nat :=
  [ TON_SHD_CTL 0, TON_TXD_CFG 0, TON_TXD_FS 0, TON_TXP_CFG 0, TON_TXP_FS 0, TON_FREQ0 0 0, TON_PHASE0 0 0, TON_GAIN 0 0, FLX_CFG 0 0,
    FLX_GAIN 0 0, FLX_IIR_K 0 0 0, FLX_IIR_L 0 0 0, FLX_FIR 0 0 0, BIA_CODE 0, CNV_CFG 0 0, CNV_CORR_A 0 0, CNV_CORR_B 0 0, MON_CTL 0 0,
    MON_SCAN 0 0 0, CNV_ACQ_CTL 0 0, DEM_CTL 0 0, DEM_FREQ 0 0, DEM_PHASE 0 0, DEM_DLY 0 0, DEM_KSEL 0 0, DEM_KCFG 0 0, DEM_KLEN 0 0,
    DSC_CFG 0 0, DSC_ECFG 0 0, DSC_QTHR 0 0, DSC_A 0 0 0, DSC_B 0 0 0, DSC_C 0 0 0, DSC_ETHR 0 0 0, DSC_CPF 0 0 0, OZL_CTL 0, OZL_PM 0,
    QM_YQID 0 ]

/-- Those registers go back in the pages of an image's scope (R71); a bias source of a partial commit holds its code (R80). The banks of the
demodulation channels go back with DEM_KSEL. -/
def imageReset (kind scope : Nat) (s : State) : State :=
  let gone (a : Nat) : Bool := inScopePages kind scope a
    && (match regRow a with | some r => imageBases.contains r.base && (kind == 1 || r.base != BIA_CODE 0) | none => false)
  let keep (t : Tab Word) : Tab Word := t.filter fun e => !gone e.1
  let s : State :=
    { s with regs := keep s.regs, act := keep s.act, img := { s.img with init := s.img.init.filter fun e => !inScopePages kind scope e.1 } }
  forEach (scopeYards kind scope) s fun y s => forEach (List.range 8) s fun c s =>
    (s.setF (DEM_STS y c) DEM_STS_ABANK 0).modDem y c fun d => { d with fades := [], held := none, swaps := [] }

/-- ALLOT bits of the pooled blocks follow the allotments. -/
def allotBits (s : State) : State :=
  let m (b n : Nat) : Nat := (List.range n).foldl (fun k u => k + b01 (s.allotOf b u).isSome * 2 ^ u) 0
  let one : Bool := (s.allotOf 0x0E 0).isSome && (List.range 4).all fun e => s.allotOf 0x0E e == s.allotOf 0x0E 0
  let s := (s.setF WCH_STS WCH_STS_ALLOT (m 0x0C 8)).setF CNS_GSTS CNS_GSTS_ALLOT (m 0x0D 16)
  (s.setF FRL_GSTS FRL_GSTS_ALLOT (m 0x0E 4)).setF FRL_GSTS FRL_GSTS_TABLES (b01 one)

/-- Units that changed hands since `old` start anew: cores (R394), capture channels, engine contexts. -/
def newHands (old s : State) : State :=
  let moved (b n : Nat) : List Nat := (List.range n).filter fun u => s.allotOf b u != old.allotOf b u
  let s := forEach (moved 0x0C 8) s wNewOwner
  let s := forEach (moved 0x0D 16) s fun c s =>
    ({ s with cap := { s.cap with chans := tput s.cap.chans c default } } : State).setCnsSt c (if (s.allotOf 0x0D c).isSome then capIDLE else capOFF)
  let s := forEach (moved 0x0E 4) s fun e s =>
    forEach (List.range 4) (s.setFjob e none) fun k s => (s.setFctx (4 * e + k) default).setCtxSt (4 * e + k) ctxEMPTY
  allotBits s

/-! ### REG_INIT (R70, R71, R669) -/

/-- The register that a 32-bit word belongs to, and the lowest bit of the word in it. -/
def wordReg (a : Nat) : Option (Nat × Nat × RegRow) :=
  match regRow a with
  | some r => some (a, 0, r)
  | none => match regRow (a - 4) with
    | some r => if r.width = 64 ∧ a % 8 = 4 then some (a - 4, 32, r) else none
    | none => none

/-- The value of the register with the word in it. -/
def State.wordVal (s : State) (a half v : Nat) (r : RegRow) : Nat := if r.width = 64 then (insF (s.rd a) (half, 32) v).toNat else v

/-- May REG_INIT address a register in the page it lies in (R70)? -/
def regInitMay (a : Nat) (r : RegRow) : Bool :=
  let y := (a - 0x1000000) / 0x40000
  let k := (a - 0x2000000) / 0x1000 % 0x400
  r.rw != 0 && !ratOnly r.base
    && !(decide (0x1000000 ≤ a ∧ a < 0x2000000) && (txpOdd y a || (r.base == FLX_RB 0 && y % 2 == 1)))
    && !(r.base == MON_XCHK 0 0 && k % 2 == 1)

/-- The state in which a word is judged and written: the scope is out of service, so no state condition of a host write stands in its
way (R669). -/
def outOfService (f : State → State) (s : State) : State :=
  let gs := List.range 64
  let t := f ((forEach gs s fun g s => s.setGst g gIDLE).setDev dREADY)
  (forEach gs t fun g t => t.setGst g (s.gst g)).setDev s.dev

/-- Writing a word: both copies of an SHD register (R71), any other register as a host write of it does, or the value alone where a state
condition of that write stands in its way (R669). With SRC MAST an acquisition channel is not armed (R258). -/
def regInitPut (a v : Nat) (s : State) : State :=
  match wordReg a with
  | none => s
  | some (b, half, r) =>
    let full := s.wordVal b half v r
    let t :=
      if isShd b then
        let t := s.wrRW b full
        t.actWr b (t.rd b)
      else
        let t := outOfService (hostStore b full 40 []) s
        let v := if r.base = CNV_ACQ_CTL 0 0 ∧ bits full 29 28 = 0 then full % 2 ^ 31 else full
        let want := (s.rd b &&& ~~~(rwMask b)) ||| (BitVec.ofNat 64 v &&& rwMask b)
        if t.rd b = want then t else s.wr b want
    let t := { t with img := { t.img with init := sput resetVal t.img.init b (t.rd b) } }
    if r.base = DEM_KSEL 0 0 then
      let y := (b - 0x1000000) / 0x40000
      let c := (b - DEM_KSEL y 0) / 0x200
      (t.setF (DEM_STS y c) DEM_STS_ABANK (t.actF (DEM_KSEL y c) DEM_KSEL_BANK)).modDem y c fun d => { d with fades := [], held := none }
    else t

/-- The value checks of a register of a yard page (R669): reserved encodings, ranges, ownership, single writers. -/
def State.yardBad (s : State) (b : Nat) (ix : List Nat) (a v : Nat) : Bool :=
  let y := ix.getD 0 0
  let c := ix.getD 1 0
  if isShd a then shdCheck y a v != 0
  else if b = HAL_STR_CTL 0 0 then
    bit v 31 && (bits v 27 16 == 0 || !s.yardMay y 6 (s.fld (HAL_STR_QID y c) HAL_STR_QID_QID))
  else if b = CNV_ACQ_CTL 0 0 then bit v 31 && s.acqArmCheck y c v != 0
  else if b = DEM_CTL 0 0 then bits v 5 4 == 3
  else if b = DEM_KLEN 0 0 then bits v 9 0 == 0 || bits v 25 16 == 0 || decide (512 < bits v 9 0) || decide (512 < bits v 25 16)
  else if b = DSC_CFG 0 0 then s.dscCfgCheck y c v != 0
  else if b = QM_YQID 0 then !s.yardMay y 6 (v % 2 ^ 18)
  else false

/-- The same for a converter page; that a ring runs is a state condition of a scan. -/
def State.convBad (s : State) (b : Nat) (ix : List Nat) (v : Nat) : Bool :=
  let k := 8 * ix.getD 0 0 + ix.getD 1 0
  let m := 4 * ix.getD 0 0 + ix.getD 1 0
  let ring (r : Nat) : Bool := bit v 31 && s.ringCheck r (v % 128) != 0
  let rp (r : Nat) : Bool := v % 16 != 0 || decide (s.ringSize r ≤ v)
  if b = CNV_CFG 0 0 then v % 4 == 3
  else if b = MON_CTL 0 0 then bit v 0 && !([0, E_CNV_RING_STATE] : List Nat).contains (s.scanCheck m (bits v 11 8))
  else if b = MON_XCHK 0 0 then bit v 31 && s.xchkCheck m v != 0
  else if b = CNV_RING_CTL 0 0 then ring k
  else if b = MON_RING_CTL 0 0 then ring (32 + m)
  else if b = CNV_RING_RP 0 0 then rp k
  else if b = MON_RING_RP 0 0 then rp (32 + m)
  else false

/-- The same for the decision network, the decoder, capture, Stay, Ozlink and the other hub blocks. -/
def State.hubBad (s : State) (b : Nat) (ix : List Nat) (a v : Nat) : Bool :=
  let x := ix.getD 0 0
  let w := BitVec.ofNat 64 v &&& rwMask a
  if b = SHT_IMAP 0 0 then s.imapCheck x (ix.getD 1 0) v != 0
  else if b = SHT_TAP 0 then bit v 63 && (tapCurrent w == [] || !s.tapOwned w)
  else if b = DEC_EN 0 then v % 2 == 1 && (s.decCheck x false).1 != 0
  else if b = CNS_CTL 0 then bit v 31 && !([0, E_CNS_SHED] : List Nat).contains ((s.wrRW a v).armCheck x)
  else if b = CNS_RP 0 then decide (s.cPages x ≤ v % 2 ^ 13)
  else if b = STAY_CTL then decide (8 ≤ v % 16)
  else if b = STAY_SLEW_MAX then v % 65536 == 0
  else if b = STAY_PTP_CFG then decide (bits v 23 20 < 2) || decide (10 < bits v 23 20)
  else if b = STAY_TMR_CTL 0 then
    bit v 31 && [E_STAY_RSVD_ENC, E_STAY_ZERO_LEN, E_STAY_RANGE, E_IMG_RES_BUSY].contains (s.tmrCheck x v)
  else if b = OZL_CTL 0 then decide (4 < bits v 26 24)
  else if b = OZL_PM 0 then bits v 17 16 == 3 || v % 65536 == 0
  else if b = TRIM_CTL then bits v 31 16 == 0
  else if b = REEF_PLIM then decide (v % 512 < 150) || decide (320 < v % 512)
  else if b = FLT_TRIG_CFG 0 then decide (24 < cfgFilt v) || (bit v 31 && !s.xfMay x (cfgGroup v))
  else false

/-- Does a word fail the value checks of its register (R669)? -/
def State.wordBad (s : State) (a v : Nat) : Bool :=
  match wordReg a with
  | none => true
  | some (b, half, r) =>
    let full := s.wordVal b half v r
    let ix := strideIdx (b - r.base) r.strides
    if 0x2000000 ≤ b then s.convBad r.base ix full
    else if 0x1000000 ≤ b then s.yardBad r.base ix b full
    else s.hubBad r.base ix b full

/-- The words of a record from index `k` on, judged in order on the state that the words before them leave; the state goes on. -/
def recordWords (rec a : Nat) (kind scope : Nat) : List Nat → State → Option (Nat × Nat × Nat × Nat) × State
  | [], s => (none, s)
  | v :: vs, s =>
    let may : Bool := match wordReg a with | some (b, _, r) => regInitMay b r | none => false
    if ¬ inScopePages kind scope a then (some (E_IMG_SCOPE, 7, rec, a), s)
    else if ¬ may then (some (E_IMG_REGINIT, 7, rec, a), s)
    else if s.wordBad a v then (some (E_IMG_REGINIT, 7, rec, a), s)
    else recordWords rec (a + 4) kind scope vs (regInitPut a v s)

/-- The records of REG_INIT (Table 2-10, R70, R674); `fin` is the end of the section. -/
def recordChecks (img : State) (fin : Nat) : List ((Nat × Nat × Nat) × Nat) → State → Option (Nat × Nat × Nat × Nat)
  | [], _ => none
  | ((o, a, n), i) :: rest, s =>
    let pad := (8 + 4 * n + 7) / 8 * 8 - (8 + 4 * n)
    if a % 4 ≠ 0 then some (E_IMG_ALIGN, 7, i, a)
    else if n = 0 then some (E_IMG_ZERO_LEN, 7, i, a)
    else if 65536 < n then some (E_IMG_RANGE, 7, i, a)
    else if fin < o + 8 + 4 * n + pad then some (E_IMG_LEN_EXCEEDS, 7, i, a)
    else
      match recordWords i a img.iKind img.iScope ((List.range n).map fun k => img.ib (o + 8 + 4 * k) 4) s with
      | (some e, _) => some e
      | (none, t) =>
        if img.iRsvd (o + 8 + 4 * n) pad then some (E_IMG_RSVD_ENC, 7, i, a)
        else recordChecks img fin rest t

/-- The configuration that the image puts in force, before its REG_INIT words: its tables, the registers that follow an image, and the units
that change hands. -/
def configBase (s : State) : State := newHands s (imageReset s.iKind s.iScope (newConfig s))

/-- The REG_INIT section. -/
def State.initCheck (s : State) : Option (Nat × Nat × Nat × Nat) :=
  let (o, n) := s.sect 7
  recordChecks s (o + n) s.iRecs.zipIdx (configBase s)

/-! ### Joining rules, and the whole check -/

/-- The partitions that YARD_COMP, ALLOT and OWNERSHIP name. -/
def State.namedParts (s : State) : List Nat :=
  s.iComps.map (fun o => s.ib (o + 2) 1) ++ s.iAllots.map (fun o => (s.alRange o).part)
    ++ ((s.iOwners.map s.owRange).filter (·.okind == 3)).map (·.owner)

/-- The rules that join sections (R31, R526). -/
def State.joinChecks (s : State) : List Chk :=
  if s.iKind ≠ 1 then []
  else
    let part (y : Nat) : Nat := match s.iComps.find? fun o => s.ycYard o == y with | some o => s.ib (o + 2) 1 | none => 0
    let split := (List.range 32).map fun k => ((part (2 * k) != part (2 * k + 1), E_IMG_PAIR_SPLIT, 2, 0, 2 * k + 1) : Chk)
    let named := (List.range 8).map fun p =>
      ((s.namedParts.contains p && !(s.iParts.any fun o => s.ib o 1 == p), E_IMG_SECT_MISSING, 5, 0, p) : Chk)
    split ++ named

/-- The first failure of the staged image, in the order of R73. -/
def State.imgCheck (s : State) : Option (Nat × Nat × Nat × Nat) :=
  match chkFail s.headerChecks with
  | some e => some e
  | none =>
    match chkFail (((List.range s.iSects).map s.dirChecks).flatten ++ s.dirWhole) with
    | some e => some e
    | none =>
      match chkFail (s.routeChecks ++ s.routeCounts ++ s.compChecks ++ s.allotChecks ++ s.ownerChecks ++ s.partChecks
          ++ (if s.iKind = 1 ∨ s.iKind = 4 then s.linkChecks else [])) with
      | some e => some e
      | none =>
        match s.initCheck with
        | some e => some e
        | none => chkFail s.joinChecks

/-! ### Fetch, verify, check -/

/-- What the header says of the kind where the LOAD found another (R75, R76): the test of the LOAD is made on it. -/
def kindStaged (s : State) : State :=
  let full : Bool := s.iKind == 1
  let dev := s.dev
  if full = s.img.full then s
  else if full ∧ dev ≠ dCONFIG ∧ dev ≠ dREADY then imgFail E_GLB_DEV_STATE 0 0 0 s
  else if ¬ full ∧ dev ≠ dREADY ∧ dev ≠ dRUN then imgFail E_IMG_STATE 0 0 0 s
  else
    let s : State := { s with img := { s.img with full := full } }
    if full then fullBegins s else s

/-- IMG_HEADER_STAGED: the first 64 bytes are staged, once no partition is being zeroised for a full image (R72, R537). TOTAL_LEN is compared
with IMG_LEN as it stands now; a write of it since the LOAD was refused (R27). -/
def headerStaged (bs : List (BitVec 8)) (s : State) : State :=
  let zer : Bool := (List.range 8).any fun p => s.pst p == pZEROISING
  let want := if s.img.auto_ then (match s.pwr.auto_ with | some (_, n) => n | none => 0) else s.fld IMG_LEN IMG_LEN_LEN
  if s.ist ≠ iFETCHING ∨ s.img.held ≠ 0 ∨ bs.length ≠ 64 ∨ zer then s
  else
    let s : State := { s with img := { s.img with staging := stList [] 0 bs, held := 64 } }
    if s.iTotal ≠ want then imgFail E_IMG_LEN_MISMATCH 0 0 0 s else kindStaged s

/-- IMG_FETCH_COMPLETE: all TOTAL_LEN bytes are staged, once no partition is being zeroised. -/
def fetchComplete (bs : List (BitVec 8)) (s : State) : State :=
  let zer : Bool := (List.range 8).any fun p => s.pst p == pZEROISING
  if s.ist ≠ iFETCHING ∨ s.img.held ≠ 64 ∨ bs.length ≠ s.iTotal ∨ bs.take 64 ≠ ldList s.img.staging 0 64 ∨ zer then s
  else ({ s with img := { s.img with staging := stList [] 0 bs, held := bs.length } } : State).setIst iVERIFYING

/-- IMG_VERIFY_COMPLETE (R524, R673). -/
def verifyComplete (s : State) : State :=
  if s.ist ≠ iVERIFYING then s
  else
    let bs := ldList s.img.staging 0 s.img.held
    let v := s.imgVerify bs
    let tenant := match s.signer s.iKind s.iScope with | .tenant p => some p | _ => none
    if v.1 ≠ 0 then imgFail E_IMG_SIG 8 0 v.1 s
    else
      ({ s with img := { s.img with staging := stList [] 0 v.2.2, sigLen := v.2.1, tenant := tenant } } : State).setIst iCHECKING

/-- IMG_CHECK_COMPLETE: CHECKED or FAILED; an autoload commits a full image at once (R628). -/
def checkComplete (s : State) : State :=
  if s.ist ≠ iCHECKING then s
  else
    match s.imgCheck with
    | some (code, cls, rec, inst) => imgFail code cls rec inst s
    | none =>
      let s := (imgStatus 0 s).setIst iCHECKED
      if s.img.auto_ ∧ s.iKind = 1 then imgCommit s else s

/-! ### What a new configuration changes elsewhere -/

/-- The slots of the disabled channels of a yard. -/
def State.deadSlots (s : State) (y : Nat) : List Nat :=
  (List.range 8).filterMap fun c =>
    if !s.chanEn y c && s.flag (DSC_CFG y c) DSC_CFG_SLOT_EN then some (s.fld (DSC_CFG y c) DSC_CFG_SLOT) else none

/-- The slots that the channels of a yard that are now disabled wrote before a commit. -/
def State.lostSlots (s old : State) (y : Nat) : List Nat :=
  (List.range 8).filterMap fun c =>
    if !s.chanEn y c && old.flag (DSC_CFG y c) DSC_CFG_SLOT_EN then some (old.fld (DSC_CFG y c) DSC_CFG_SLOT) else none

/-- The elements of a yard follow its new composition; the slot of a channel that is disabled reads not VALID (R63). -/
def yardRefresh (y : Nat) (s : State) : State :=
  let s := forEach (List.range 20) s fun t s => s.toneState y t
  let s := forEach (List.range 8) s fun c s => acqRefresh y c (if s.chanEn y c then s else s.setCst y c cOFF)
  biaRefresh y (fluxStates y (forEach (s.deadSlots y) s slotClear))

/-- A commit leaves both copies of every SHD register equal, every set of a yard CLEAN and SEAL 0 (R212). An SHD register that no record
addresses and that does not follow the image keeps its active value (DESIGN CHOICE). -/
def shadowClean (y : Nat) (s : State) : State :=
  forEach (List.range 4) s fun k s => (forEach (shdRegs y k) s fun a s => s.wr a (s.actRd a)).setShSt y k shCLEAN

/-- The read-out ADCs whose settings a commit has changed: nothing before them governs (R71), and they settle (R251, R253). -/
def adcChanged (old s : State) : State :=
  forEach ((List.range 32).filter fun k => s.adcRegs k != old.adcRegs k) s fun k s =>
    settleFrom k s.clock.now (adcSettle (old.rd (convPage k)) (s.rd (convPage k))) (s.setAdc k { s.adc k with hist := [] })

/-- R155: after a full commit, a segment that covers a page whose owner changed is FREE and 0; how the pages are listed does not matter. -/
def segRecheck (old s : State) : State :=
  let who (t : State) (i : Nat) : Option (Nat × Nat) := (t.ownOf 0x0A i).map fun o => (o.okind, o.owner)
  let same (i : Nat) : Bool := who s i == who old i
  { s with hal := { s.hal with segs := s.hal.segs.filter fun e =>
      e.2.len == 0 || (segPages (e.1 / 4096) e.2.start e.2.len).all same } }

/-- The Mast registers of a yard go back to their reset values (R81); microcode stays. -/
def mastReset (y : Nat) (s : State) : State :=
  let base := 0x1000000 + 0x40000 * y
  let s : State := { s with regs := s.regs.filter fun e => !(decide (base ≤ e.1) && decide (e.1 < base + 0x400)) }
  s.modMast y fun m => { (default : Mast) with ucMap := m.ucMap, ucGov := m.ucGov, ucLoad := m.ucLoad, ucWords := m.ucWords, ucCrc := m.ucCrc }

/-! ### Full commit -/

/-- EN, MAXRATE, AUTO and the presets of the taps of a link come from its LINK_TOPO entry (Table 15-10). -/
def linkRegs (l : Nat) (s : State) : State :=
  let c := tget s.img.links l
  let s := ((s.setF (OZL_CTL l) OZL_CTL_EN (c.flags % 2)).setF (OZL_CTL l) OZL_CTL_MAXRATE c.maxRate).setF (OZL_PM l) OZL_PM_AUTO (c.flags / 2 % 2)
  forEach (List.range 4) s fun i s => setTaps l i c.pre c.post s

/-- FULL_COMMIT_COMPLETE: every section is applied, and the device enters CAL from CONFIG (R78, Table 1-10). -/
def fullCommit (s : State) : State :=
  match s.img.commit with
  | none => s
  | some c =>
    if c.kind ≠ 1 then s
    else
      let old := s
      let bytes := ldList s.img.staging 0 s.img.held
      let ver := s.iVersion
      let s := forEach allYards (segRecheck old (configBase s)) fun y s => forEach (s.lostSlots old y) s slotClear
      let s := forEach (List.range 64) s fun g s => groupClear g (s.setGst g gIDLE)
      let s := forEach allYards s fun y s => ((mastAbort y s).setMst y mIDLE).wrN (IMG_PVER_YARD y) 0
      let s := forEach (List.range 6) s fun l s => linkRegs l (s.wrN (IMG_PVER_LINK l) 0)
      let s := demRetuneAll old (c.words.foldl (fun t w => regInitPut w.1 w.2 t) s)
      let s := readbackChanged old.readbacks (adcChanged old (forEach allYards s fun y s => shadowClean y (yardRefresh y s)))
      let s : State := { s with seq := { s.seq with hung := [] } }
      let s := forEach (List.range 8) s fun p s =>
        s.setPst p (if (s.img.parts.any fun e => e.1 == p) then pOPEN else pABSENT)
      let s : State := { s with shr := { s.shr with full := sha bytes, log := [] } }
      let s := imgDrop ((imgStatus 0 (s.wrN IMG_VER ver)).setIst iIDLE)
      let s : State := { s with img := { s.img with commit := none } }
      let s := xfRecheck (decRecheck s)
      if s.dev = dCONFIG then enterCal s else s

/-! ### Partial commits (Table 2-13) -/

/-- Is the time of a phase of the commit in progress reached: `n` ft after R? -/
def Commit.at_ (c : Commit) (n : Nat) (s : State) : Bool := decide (c.rel + n * ft ≤ s.clock.now)

/-- A yard of the scope goes out of service at R: outputs to zero, slots not VALID, samples in flight without a record. -/
def yardOut (y : Nat) (s : State) : State :=
  let s := yardCut y s.tb1 s
  let s := cnsCloseYard y (demStopAll y (acqClear y (fluxClear y (envClear y s))))
  forEach (s.writtenSlots y) s slotClear

/-- PCOMMIT_START, at R. -/
def pcommitStart (s : State) : State :=
  match s.img.commit with
  | some c =>
    if (c.kind = 2 ∨ c.kind = 3) ∧ c.phase = 0 ∧ c.at_ 0 s then
      let ys := scopeYards c.kind c.scope
      let gs := (List.range 64).filter fun g => ys.any fun y => (s.comp y).present && s.groupOf y == g
      let s := forEach gs s fun g s => (groupClear g s).setGst g gRECONFIG
      let s := forEach ys s yardOut
      devRefresh { s with img := { s.img with commit := some { c with phase := 1, groups := gs } } }
    else s
  | none => s

/-- PCOMMIT_APPLY, at R + 64 ft: the tables take effect; the groups that gain a yard of the scope are in RECONFIG too (R52). -/
def pcommitApply (s : State) : State :=
  match s.img.commit with
  | some c =>
    if (c.kind = 2 ∨ c.kind = 3) ∧ c.phase = 1 ∧ c.at_ 64 s then
      let old := s
      let ys := scopeYards c.kind c.scope
      let s := configBase s
      let more := (List.range 64).filter fun g => !c.groups.contains g && ys.any fun y => s.groupOf y == g
      let s := forEach more s fun g s => (groupClear g s).setGst g gRECONFIG
      let s := adcChanged old (forEach ys s fun y s => yardRefresh y (mastReset y s))
      xfRecheck (decRecheck { s with img := { s.img with commit := some { c with phase := 2, groups := c.groups ++ more } } })
    else s
  | none => s

/-- PCOMMIT_REGINIT_WORD: word `k` is written in ft R + 96 + k. -/
def pcommitWord (s : State) : State :=
  match s.img.commit with
  | some c =>
    if (c.kind = 2 ∨ c.kind = 3) ∧ c.phase = 2 ∧ c.at_ (96 + c.next) s then
      match c.words[c.next]? with
      | some w => let s := readbackChanged s.readbacks (demRetuneAll s (regInitPut w.1 w.2 s)); { s with img := { s.img with commit := some { c with next := c.next + 1 } } }
      | none => s
    else s
  | none => s

/-- A tenant's image raises SHR_PVER and extends the log of measurement 6 (R523). -/
def tenantLog (s : State) : State :=
  match s.img.tenant with
  | some p => (s.wrN (SHR_PVER (p % 8)) s.iVersion)
  | none => s

/-- A partial image is in force: the log of measurement 6 takes it, and the image manager is IDLE. -/
def pcommitDone (s : State) : State :=
  let s := tenantLog s
  let s : State := { s with shr := { s.shr with log := sha (s.shr.log ++ ldList s.img.staging 0 s.img.held) } }
  let s := imgDrop ((imgStatus 0 s).setIst iIDLE)
  { s with img := { s.img with commit := none } }

/-- PCOMMIT_END: the groups left in RECONFIG enter IDLE; one that was aborted enters it once its members have stopped (R84). -/
def pcommitEnd (s : State) : State :=
  match s.img.commit with
  | some c =>
    if (c.kind = 2 ∨ c.kind = 3) ∧ c.phase = 2 ∧ c.words.length ≤ c.next ∧ c.at_ (96 + c.words.length) s then
      let ys := scopeYards c.kind c.scope
      let ver := s.iVersion
      let s := forEach ys s fun y s => s.wrN (IMG_PVER_YARD y) ver
      let s := forEach ys (pcommitDone s) fun y s => demStartNext y (shadowClean y s)
      let s : State := { s with seq := { s.seq with hung := s.seq.hung.filter fun y => !ys.contains y } }
      let s := forEach c.groups s fun g s =>
        if s.gst g = gRECONFIG then
          forEach (s.members g) (s.setGst g gIDLE) fun y s => s.setMst y mIDLE
        else groupSettle g s
      devRefresh s
    else s
  | none => s

/-- LINK_COMMIT, at R (R85): the link goes down, LINK_TOPO and REG_INIT apply, and bring-up starts. -/
def linkCommit (s : State) : State :=
  match s.img.commit with
  | some c =>
    if c.kind = 4 ∧ c.at_ 0 s then
      let l := c.scope
      let ver := s.iVersion
      let s := linkRegs l (configBase (linkDown l s))
      let s := c.words.foldl (fun t w => regInitPut w.1 w.2 t) s
      let s := s.when (!s.flag (OZL_CTL l) OZL_CTL_EN) fun s => ((lClear l s).setLst l lsDISABLED).setLanes l lnOFF
      linksDevice (pcommitDone (s.wrN (IMG_PVER_LINK l) ver))
    else s
  | none => s

/-! ### The commands -/

/-- IMG_HEADER_STAGED, with the 64 bytes. -/
def execImgHeaderStaged (bs : List (BitVec 8)) (s : State) : Host.Outcome State Fault Refusal := .next (headerStaged bs s)
/-- IMG_FETCH_COMPLETE, with all bytes. -/
def execImgFetchComplete (bs : List (BitVec 8)) (s : State) : Host.Outcome State Fault Refusal := .next (fetchComplete bs s)
/-- IMG_VERIFY_COMPLETE. -/
def execImgVerifyComplete (s : State) : Host.Outcome State Fault Refusal := .next (verifyComplete s)
/-- IMG_CHECK_COMPLETE. -/
def execImgCheckComplete (s : State) : Host.Outcome State Fault Refusal := .next (checkComplete s)
/-- FULL_COMMIT_COMPLETE. -/
def execFullCommitComplete (s : State) : Host.Outcome State Fault Refusal := .next (fullCommit s)
/-- PCOMMIT_START. -/
def execPcommitStart (s : State) : Host.Outcome State Fault Refusal := .next (pcommitStart s)
/-- PCOMMIT_APPLY. -/
def execPcommitApply (s : State) : Host.Outcome State Fault Refusal := .next (pcommitApply s)
/-- PCOMMIT_REGINIT_WORD. -/
def execPcommitReginitWord (s : State) : Host.Outcome State Fault Refusal := .next (pcommitWord s)
/-- PCOMMIT_END. -/
def execPcommitEnd (s : State) : Host.Outcome State Fault Refusal := .next (pcommitEnd s)
/-- LINK_COMMIT. -/
def execLinkCommit (s : State) : Host.Outcome State Fault Refusal := .next (linkCommit s)

end Sys2Proof.Machine
end

