-- ==== Sys2Proof/Machine/Ratline.lean ====
section
/-! DEFINITION. Ratline (chapter 24): the test access port, its reads and writes, and halt, step and breakpoints of Mast and Winch
cores. -/

namespace Sys2Proof.Machine

/-! ### Test access port (R654, Table 24-1) -/

def irIDCODE : Nat := 0x01
def irDBG_STATUS : Nat := 0x10
def irDBG_ACCESS : Nat := 0x11
def irBYPASS : Nat := 0xFF

/-- The value of the IDCODE register. -/
def ratIdcode : Nat := 0x1A512B4B

/-- An instruction and the content that its data register captures. -/
def tapSet (ir dr : Nat) (s : State) : State := { s with rat := { s.rat with ir := ir, dr := dr } }

/-- A debug instruction, which a SCRAPPED part takes as BYPASS (Table 24-1). -/
def tapDebug (f : State → State) (s : State) : State := if s.lifecycle = 3 then tapSet irBYPASS 0 s else f s

/-! ### Scope (R657, Table 24-3) -/

/-- The registers that a locked SECURED part shows. -/
def ratLocked (b : Nat) : Bool :=
  b == RAT_STS || b == SHR_STS || b == SHR_DBG_CTL || b == SHR_DBG_CHAL 0 || b == SHR_DBG_RESP 0

/-- The registers of the Shroud block that every lifecycle reaches. -/
def ratShroud (b : Nat) : Bool :=
  b == SHR_STS || b == SHR_OKEY || b == SHR_MEAS 1 0 || b == SHR_DBG_CTL || b == SHR_DBG_CHAL 0 || b == SHR_DBG_RESP 0

/-- May Ratline reach the BAR0 offset `a`? -/
def State.ratBar0 (s : State) (a : Nat) : Bool :=
  let b := match regRow (regAt a).1 with | some r => r.base | none => 0
  let owned : Bool := match regRow (regAt a).1 with | some r => r.rwl != 0 | none => false
  if s.lifecycle = 3 then false
  else if 0x100000 ≤ a ∧ a < 0x200000 ∧ ¬ ratShroud b then false
  else if s.lifecycle = 1 then true
  else if ¬ s.flag SHR_STS SHR_STS_DBG_UNLOCKED then ratLocked b
  else if (0x1000000 ≤ a ∧ a < 0x2000000) ∨ owned then
    s.ratPart (s.regPart (regAt a).1)
  else if 0xC10000 ≤ a ∧ a < 0xC18000 then s.ratCore ((a - 0xC10000) / 0x1000)
  else true

/-- May Ratline reach the BAR2 offset `a`? -/
def State.ratBar2 (s : State) (a : Nat) : Bool :=
  match bar2Store a with
  | some (k, u, off) => s.ratPart (s.bar2Part k u off)
  | none => s.ratPart none

/-- An access outside scope is counted (R657). -/
def ratDeny (s : State) : State := s.incF RAT_STS RAT_STS_DENY_CNT

/-! ### Stepping a Mast (R661, Table 24-4) -/

/-- The step moves the cursor, or overflows it (R107). -/
def stepTq (y pc tq : Nat) (s : State) : State × Nat :=
  if tqMax < tq then (s, E_SEQ_TQ_OVF) else (retire y pc (s.setTq y tq), 0)

/-- WAITD, stepped (Table 24-4): it resolves on the slot's latest decision as LDD reads it, and by default where that is not VALID or is one of
low quality that the instruction does not take (DEDUCED, log entry 101). -/
def stepWaitd (y pc w : Nat) (s : State) : State × Nat :=
  let v := s.slotDec (bits w 55 46)
  let tq := s.tq y + 18 * ft
  let dflt : Bool := !bit v 2 || (bit w 41 && bit v 4)
  if dflt ∧ bits w 45 44 = 2 then (s, E_SHT_FB_TIMEOUT)
  else if tqMax < tq then (s, E_SEQ_TQ_OVF)
  else
    let take : Bool := if dflt then bits w 45 44 == 1 else v % 4 == bits w 43 42 && bits w 43 42 != 3
    (if take then jumpTo y (bits w 14 0) (s.setTq y tq) else (s.setTq y tq).setPc y (pc + 1), 0)

/-- The effect of the instruction `w` at `pc`, stepped, and the status. -/
def stepEffect (y pc w : Nat) (s : State) : State × Nat :=
  match mop w with
  | .end_ => (s, E_RAT_STATE)
  | .wait => stepTq y pc (s.tq y + ft * s.waitFt y w) s
  | .syncAlign => stepTq y pc (alignTq (s.tq y) (bits w 5 0)) s
  | .br => (jumpTo y (bits w 14 0) s, 0)
  | .brc =>
    let b := if bits w 42 42 = 1 then 0 else s.g y (bits w 47 43)
    (if brcTaken (bits w 55 53) (s.g y (bits w 52 48)) b then jumpTo y (bits w 14 0) s else retire y pc s, 0)
  | .waitd => stepWaitd y pc w s
  | .loop => if s.loopErr y pc w then (s, E_SEQ_LOOP) else ((loopEffect y pc w s).setPc y (pc + 1), 0)
  | .movi => (retire y pc (s.setG y (bits w 52 48) (bits w 47 0)), 0)
  | .alu => (retire y pc (aluEffect y w s), 0)
  | .gets => (retire y pc (s.setG y (bits w 51 47) (s.getsVal y (bits w 55 52))), 0)
  | .ldd => (retire y pc (s.setG y (bits w 45 41) (s.lddVal (bits w 55 46))), 0)
  | o => if timedOp o then stepTq y pc (s.tq y + ft * s.advance y w) s else (retire y pc s, 0)

/-- The faults of Table 3-12 that a step checks, then the effect. A stepped instruction is not released, so it meets no lead of R93
(DEDUCED, log entry 101); a refused use of an element is recorded (R69). -/
def stepInsn (y pc : Nat) (s : State) : State × Nat :=
  let w := s.word y pc
  if s.decodeErr y pc w ≠ 0 then (s, s.decodeErr y pc w)
  else if noBodyEnd (mop w) ∧ mop w ≠ .end_ ∧ ((s.mast y).loops.any fun l => l.last == pc) then (s, E_SEQ_LOOP)
  else if s.issueErr y w ≠ 0 then
    (s.denyIf (s.issueErr y w) (s.ownInst y w).1 (s.ownInst y w).2 1 y, s.issueErr y w)
  else stepEffect y pc w s

/-- STEP: the halted Mast executes the instruction at RAT_MSTS.PC. -/
def mastStep (y : Nat) (s : State) : State :=
  if s.flag (RAT_MSTS y) RAT_MSTS_HALTED then
    let pc := s.fld (RAT_MSTS y) RAT_MSTS_PC
    let r := stepInsn y pc (s.setPc y pc)
    let t := r.1.setF (RAT_MSTS y) RAT_MSTS_STATUS r.2
    if r.2 = 0 then t.setF (RAT_MSTS y) RAT_MSTS_PC (t.pc y) else t
  else s

/-- HALT: the Mast halts at its next issue (R659). -/
def mastHalt (y : Nat) (s : State) : State := s.modMast y fun m => { m with haltReq := true }

/-- RAT_MCTL, its bits in order from bit 0 (DESIGN CHOICE, log entry 101). -/
def mctlWrite (y v : Nat) (s : State) : State :=
  let s := s.when (bit v 0) (mastHalt y)
  let s := s.when (bit v 1) (mastStep y)
  s.when (bit v 2) (ratRelease y)

/-! ### Halting and stepping a Winch core (R663, R664) -/

/-- HALT of RAT_WCTL: 1 halts a core that runs or waits, 0 resumes one that Ratline halted. An instruction that stalls has not been executed: the
core halts before it (DESIGN CHOICE, log entry 101). -/
def wctlHalt (x : Nat) (v : Bool) (s : State) : State :=
  if v then (if s.wst x = wRUN ∨ s.wst x = wWAIT then ratHalts x s else s) else ratResume x s

/-- RAT_WCTL: a STEP of a halted core leaves it halted whatever HALT says (DESIGN CHOICE, log entry 101); otherwise HALT acts. -/
def wctlWrite (x v : Nat) (s : State) : State :=
  if bit v 1 ∧ s.wst x = wHALTED then wStepOne x s else wctlHalt x (bit v 0) s

/-! ### Accesses (R655, R656) -/

/-- A write of the RAT_ registers, which only Ratline reaches. -/
def ratReg (b : Nat) (ix : List Nat) (a v : Nat) (s : State) : State :=
  let u := ix.getD 0 0
  if b = RAT_MCTL 0 then mctlWrite u v s
  else if b = RAT_WCTL 0 then wctlWrite u v s
  else s.wrRW a v

/-- A write of a whole register through Ratline. -/
def ratStore (a v : Nat) (s : State) : State :=
  match regRow a with
  | none => s
  | some r =>
    if ratOnly r.base then (if s.pageBusy a then s.inc IMG_DROP_CNT else ratReg r.base (strideIdx (a - r.base) r.strides) a v s)
    else openWrite a v 160 s

/-- A write of 32 bits of BAR0. -/
def ratWrite32 (a v : Nat) (s : State) : State :=
  match regRow a with
  | some r => if r.width = 32 then ratStore a (v % 2 ^ 32) s else s
  | none => s

/-- A write of BAR0 with the width of a host write (R13, R667); no seal stands before what is in scope. -/
def ratBusWrite (a v n : Nat) (s : State) : State :=
  if 0x700000 ≤ a ∧ a < 0x708000 then busWrite a v n 160 [] s
  else if n = 4 then ratWrite32 a v s
  else match regRow a with
    | some r => if r.width = 64 then ratStore a v s else ratWrite32 (a + 4) (v / 2 ^ 32) (ratWrite32 a v s)
    | none => ratWrite32 (a + 4) (v / 2 ^ 32) s

/-- A write of BAR2. -/
def ratBar2Write (a v n : Nat) (s : State) : State :=
  match bar2Store a with
  | some (k, u, off) => bar2Put k u off (leBytes n v) s
  | none => s

/-- A read of BAR2: the bytes of the store. -/
def State.ratBar2Read (s : State) (a n : Nat) : Nat :=
  match bar2Store a with
  | some (1, _, off) => ldBytes s.cnv.res off n
  | some (2, u, off) => if off < 12582912 then ldBytes s.hal.wave (12582912 * u + off) n else 0
  | some (3, u, off) => ldBytes s.seq.store (262144 * u + off) n
  | some (4, _, off) => ldBytes s.dec.store off n
  | some (_, u, off) => if s.wchOpen u then ldBytes s.wch.mem (524288 * u + off) n else 0
  | none => 0

/-- Does the access break an encoding rule (R655)? -/
def DbgReq.bad (q : DbgReq) : Bool := q.op == 3 || q.rsvd != 0 || q.addr % (if q.w64 then 8 else 4) != 0

/-- Is the access within scope? A 64-bit one is, when both of its halves are. -/
def State.ratMay (s : State) (q : DbgReq) : Bool :=
  if q.space = 1 then s.ratBar2 q.addr else s.ratBar0 q.addr && (!q.w64 || s.ratBar0 (q.addr + 4))

/-- The access acts; its STATUS and DATA are held until it is complete. Before BOOT is complete the part answers no access (R620, R656): a read
returns 0 and a write does nothing (DEDUCED, log entry 101). -/
def dbgRun (q : DbgReq) (s : State) : State :=
  let n := if q.w64 then 8 else 4
  let fin (st da : Nat) (s : State) : State := { s with rat := { s.rat with busy := some (st, da) } }
  if q.bad then fin E_RAT_RSVD_ENC s.rat.data s
  else if ¬ s.ratMay q then fin E_RAT_SCOPE 0 (ratDeny s)
  else if ¬ s.barUp then fin 0 (if q.op = 1 then 0 else s.rat.data) s
  else if q.op = 1 then
    if q.space = 1 then fin 0 (s.ratBar2Read q.addr n) s
    else let r := busRead true q.peek q.addr n s; fin 0 r.2 r.1
  else fin 0 s.rat.data (if q.space = 1 then ratBar2Write q.addr q.data n s else ratBusWrite q.addr q.data n s)

/-- DBG_ACCESS: Capture-DR shows the previous access, Update-DR starts the one shifted in; while one is still under way it starts none
(DESIGN CHOICE, log entry 101). -/
def dbgAccess (q : Option DbgReq) (s : State) : State :=
  match s.rat.busy with
  | some _ => tapSet irDBG_ACCESS (E_RAT_BUSY * 2 ^ 112 + s.rat.data) s
  | none =>
    let s := tapSet irDBG_ACCESS (s.rat.status * 2 ^ 112 + s.rat.data) s
    match q with
    | some q => dbgRun q s
    | none => s

/-- A halt, step or release reached through the scope of R657. -/
def ratScoped (ok : Bool) (f : State → State) (s : State) : State :=
  if ok then f s else ratDeny { s with rat := { s.rat with status := E_RAT_SCOPE, data := 0 } }

/-! ### The commands -/

/-- TAP_RESET: the TAP controller selects IDCODE. -/
def execTapReset (s : State) : Host.Outcome State Fault Refusal := .next (tapSet irIDCODE 0 s)

/-- TAP_IDCODE. -/
def execTapIdcode (s : State) : Host.Outcome State Fault Refusal := .next (tapSet irIDCODE ratIdcode s)

/-- TAP_DBG_STATUS: RAT_STS is captured, and keeps its RC field. -/
def execTapDbgStatus (s : State) : Host.Outcome State Fault Refusal :=
  .next (tapDebug (tapSet irDBG_STATUS (s.view true RAT_STS).toNat) s)

/-- TAP_BYPASS, with the instruction code: BYPASS or a reserved one. -/
def execTapBypass (ir : Nat) (s : State) : Host.Outcome State Fault Refusal := .next (tapSet (ir % 256) 0 s)

/-- DBG_ACCESS_NOP, with OP: 0b00 starts no access, the reserved 0b11 one that does nothing. -/
def execDbgAccessNop (op : Nat) (s : State) : Host.Outcome State Fault Refusal :=
  .next (tapDebug (dbgAccess (if op = 0 then none else some ⟨3, false, 0, false, 0, 0, 0⟩)) s)

/-- DBG_ACCESS_READ, with W64, SPACE, PEEK, ADDR and the reserved bits. -/
def execDbgAccessRead (w64 : Bool) (space : Nat) (peek : Bool) (addr rsvd : Nat) (s : State) : Host.Outcome State Fault Refusal :=
  .next (tapDebug (dbgAccess (some ⟨1, w64, space, peek, addr, rsvd, 0⟩)) s)

/-- DBG_ACCESS_WRITE, with W64, SPACE, ADDR, the reserved bits and DATA. -/
def execDbgAccessWrite (w64 : Bool) (space addr rsvd data : Nat) (s : State) : Host.Outcome State Fault Refusal :=
  .next (tapDebug (dbgAccess (some ⟨2, w64, space, false, addr, rsvd, data⟩)) s)

/-- DBG_ACCESS_COMPLETE: STATUS and DATA of the access are held for the next Capture-DR. -/
def execDbgAccessComplete (s : State) : Host.Outcome State Fault Refusal :=
  match s.rat.busy with
  | some (st, da) => .next { s with rat := { s.rat with busy := none, status := st, data := da } }
  | none => .next s

/-- RAT_MAST_HALT. -/
def execRatMastHalt (y : Nat) (s : State) : Host.Outcome State Fault Refusal := .next (ratScoped (s.ratYard y) (mastHalt y) s)

/-- RAT_MAST_STEP. -/
def execRatMastStep (y : Nat) (s : State) : Host.Outcome State Fault Refusal := .next (ratScoped (s.ratYard y) (mastStep y) s)

/-- RAT_MAST_RELEASE. -/
def execRatMastRelease (y : Nat) (s : State) : Host.Outcome State Fault Refusal := .next (ratScoped (s.ratYard y) (ratRelease y) s)

/-- RAT_WCH_HALT: HALT written with `v`. -/
def execRatWchHalt (x : Nat) (v : Bool) (s : State) : Host.Outcome State Fault Refusal :=
  .next (ratScoped (s.ratCore x) (wctlHalt x v) s)

/-- RAT_WCH_STEP. -/
def execRatWchStep (x : Nat) (s : State) : Host.Outcome State Fault Refusal := .next (ratScoped (s.ratCore x) (wStepOne x) s)

end Sys2Proof.Machine
end

