-- ==== Sys2Proof/Machine/Global.lean ====
section
/-! DEFINITION. The stamped release of items (R34, R37 to R44), the releases of lockstep group commands (Table 1-8), shots and replays (R49,
R122 to R131, R592 to R594, R571), and island hangs (R42, R43). -/

namespace Sys2Proof.Machine

/-! ### Shots and passes -/

/-- The lowest-numbered member of a group. -/
def State.leader (s : State) (g : Nat) : Nat := (s.members g).headD 0

/-- Does Reef hold every attempt (R571)? -/
def State.hold5 (s : State) : Bool := s.flag REEF_STS REEF_STS_HOLD

/-- When the T0 due at `t` falls: not while attempts are held; after a hold, 16 ft after its end at the earliest (R571). -/
def State.startAt (s : State) (g t : Nat) : Option Nat :=
  if ¬ s.reached t ∨ s.hold5 then none
  else if ¬ (s.grp g).held then some t
  else
    let u := ceilFt (s.reef.resume + s.clock.tb1 - s.clock.now)
    if s.reef.resume ≤ s.clock.now ∧ s.reached u then some (max t u) else none

/-- A member starts a pass at T0: the reset pass, which a member without a reset routine ends at once (R128), or the shot, with the
journal written at a first attempt and restored at a replay (R123, R128). -/
def memberStart (y t0 shot attempt : Nat) (rpass : Bool) (s : State) : State :=
  let entry := if rpass then s.fld (SEQ_RST_ENTRY y) SEQ_RST_ENTRY_ENTRY else s.fld (SEQ_ENTRY y) SEQ_ENTRY_ENTRY
  let s := if attempt = 0 then strShotStart y true s else strReplay y (strShotStart y false s)
  if rpass then
    let skip : Bool := !s.flag (SEQ_CTL y) SEQ_CTL_RST_EN
    let s := mastStart y t0 entry shot attempt true s
    if skip then (s.setMst y mSHOTEND).modMast y fun m => { m with endAt := t0 } else s
  else
    let s := mastStart y t0 entry shot attempt false (if attempt = 0 then s else journalRestore y s)
    if attempt = 0 then journalWrite y s else s

/-- Every member of a group starts a pass at the same T0 (R49). -/
def passStart (g t0 : Nat) (rpass : Bool) (s : State) : State :=
  let x := s.grp g
  let s := s.modGrp g fun x =>
    { x with t0 := none, lastEnd := 0, replayDue := false, rpass := rpass, marks := [], causes := [], noReplay := false, held := false,
             pass := x.pass + 1, runEnd := x.runEnd && (decide (0 < x.attempt) || rpass) }
  let s := { s with flt := { s.flt with ext := tput s.flt.ext g [] } }
  let s := devRefresh (if s.gst g = gPAUSING then s else s.setGst g gRUNNING)
  let s := forEach (s.members g) s fun y s => memberStart y t0 x.shot x.attempt rpass s
  if rpass then s else decAttemptStart g (t0 + 32 * ft) s

/-- SHOT_START (R49): the shot due starts when its T0 is reached, or is held. -/
def shotStart (g : Nat) (s : State) : State :=
  match (s.grp g).t0 with
  | none => s
  | some t =>
    match s.startAt g t with
    | some u => passStart g u false s
    | none => if s.reached t ∧ s.hold5 then s.modGrp g fun x => { x with held := true } else s

/-- Is an attempt to be replayed (R592, R177)? -/
def replayable (x : Group) : Bool :=
  (x.marks.contains E_HAL_UNDERRUN || x.marks.contains E_FLT_EXT || x.marks.contains E_FLT_MARKED)
    && !x.marks.contains E_DEC_OVERLOAD && !x.noReplay

/-- The FAULT records of a marked attempt (R594). -/
def markRecords (g : Nat) (s : State) : State :=
  let x := s.grp g
  forEach ([E_FLT_EXT, E_FLT_MARKED].filter x.marks.contains) s fun code s =>
    forEach (s.members g) s fun y s => s.yardRec y 3 x.lastEnd [code, 0, 0, 0, 0, 0]

/-- The replay count has reached REPLAY_MAX (R131). -/
def exhausted (g : Nat) (s : State) : State :=
  let s := forEach (s.members g) s fun y s => s.setF (SEQ_FAULT y) SEQ_FAULT_CODE E_SEQ_REPLAY_EXHAUSTED
  s.report E_SEQ_REPLAY_EXHAUSTED islHub g

/-- Does the run end with this shot (R125): by its index, or because a member issued END with RUN = 1 in an attempt of it (DEDUCED, log entry
102)? -/
def State.runEnds (s : State) (g : Nat) : Bool :=
  let n := s.rdN (SEQ_SHOT_CNT (s.leader g))
  (n != max32 && decide (n ≤ (s.grp g).shot + 1)) || (s.grp g).runEnd

/-- Every member of a group takes a state. -/
def setMembers (g v : Nat) (s : State) : State := forEach (s.members g) s fun y s => s.setMst y v

/-- A shot stands: the run ends, the group is PAUSED, or the next shot is due (R49, R125, R126). -/
def shotStands (g : Nat) (ended : Bool) (s : State) : State :=
  let s := forEach (s.members g) s fun y s => strStands y s
  let next (t : Option Nat) (s : State) : State := s.modGrp g fun x =>
    { x with shot := (x.shot + 1) % 2 ^ 32, attempt := 0, rpass := false, replayDue := false, t0 := t }
  if ended then devRefresh (setMembers g mIDLE ((next none s).setGst g gIDLE))
  else if s.gst g = gPAUSING then devRefresh (setMembers g mPAUSED ((next none s).setGst g gPAUSED))
  else next (some (ceilFt ((s.grp g).lastEnd + 8 * ft))) s

/-- A pass that has ended: what the records formed later for it still name (R129), the targets that starved in it (Table 5-4), and whether a
member issued END with RUN = 1 in the shot. -/
def passClose (g : Nat) (s : State) : State :=
  let run : Bool := !(s.grp g).rpass && (s.members g).any fun y => (s.mast y).endRun
  let s := s.modGrp g fun x =>
    { x with runEnd := x.runEnd || run, past := ((x.pass, x.shot, x.attempt, x.marks) :: x.past).take 4 }
  forEach (s.members g) s strAttemptEnd

/-- The last member of a group has signalled: the pass ends (R124, R127 to R131, R592 to R594). -/
def passEnd (g : Nat) (s : State) : State :=
  let x := s.grp g
  let s := passClose g (markRecords g (if x.rpass then s else decAttemptEnd g s))
  let limit := s.fld (SEQ_CTL (s.leader g)) SEQ_CTL_REPLAY_MAX
  if replayable x then
    (if x.attempt < limit then s.modGrp g fun x => { x with replayDue := true }
     else shotStands g (s.runEnds g) (exhausted g s))
  else if x.rpass then s.modGrp g fun x => { x with t0 := some (ceilFt (x.lastEnd + 8 * ft)) }
  else shotStands g (s.runEnds g) s

/-- Has TB1 reached the end of a yard's shot (R124): O + TQ, the pin end of every play and the end of every window of it? None is still to be
released or in progress. -/
def State.shotDone (s : State) (y : Nat) : Bool :=
  let ahead (i : Item) : Bool := i.ofYard y
  s.reached (s.mast y).endAt && !(s.bus.held.any ahead) && !(s.bus.transit.any ahead) && !(s.hal.reqs.any (·.y == y))
    && ((List.range 20).all fun t => (s.tgt y t).play.isNone)
    && ((List.range 8).all fun c => (s.dem y c).wins.all fun w => w.src != 0 || s.reached (w.s0 + ft * w.len))

/-- SHOT_END_SIGNAL (R124). -/
def shotEndSignal (y : Nat) (s : State) : State :=
  let m := s.mast y
  let g := s.groupOf y
  if s.mst y = mSHOTEND ∧ ¬ m.signalled ∧ s.shotDone y ∧ (s.gst g = gRUNNING ∨ s.gst g = gPAUSING) then
    let s := s.modMast y fun m => { m with signalled := true }
    let s := s.modGrp g fun x => { x with lastEnd := max x.lastEnd s.tb1 }
    if (s.members g).all fun z => (s.mast z).signalled then passEnd g s else s
  else s

/-- Have the causes of the marks of the attempt cleared (Table 20-4)? -/
def State.causesClear (s : State) (g : Nat) : Bool :=
  let x := s.grp g
  (!x.marks.contains E_HAL_UNDERRUN || (s.members g).all s.strReady) && (!x.marks.contains E_FLT_EXT || s.extClear g)

/-- REPLAY_START (R128, R593): the T0 of the replay is the first ft boundary at which R49 is met and every cause has cleared. -/
def replayStart (g : Nat) (s : State) : State :=
  let x := s.grp g
  let t := max (ceilFt (x.lastEnd + 8 * ft)) (ceilFt s.clock.tb1)
  if ¬ x.replayDue ∨ ¬ s.reached t ∨ ¬ s.causesClear g ∨ (s.gst g = gPAUSED ∧ ¬ x.held) then s
  else match s.startAt g t with
    | none => if s.hold5 then s.modGrp g fun x => { x with held := true } else s
    | some u =>
      let s := forEach (s.members g) s fun y s => s.inc (SEQ_REPLAY_TOT y)
      let s := s.modGrp g fun x => { x with attempt := x.attempt + 1 }
      passStart g u ((s.members g).any fun y => s.flag (SEQ_CTL y) SEQ_CTL_RST_EN) s

/-! ### Releases of group commands (Table 1-8) -/

/-- A release command of a group: the command that the group has pending and the hub holds, in the st of its release and no other (R37). -/
def cmdRelease (g cmd : Nat) (f : Nat → State → State) (s : State) : State :=
  match (s.grp g).cmd with
  | some c => if c.cmd = cmd ∧ s.atTb1 c.rel ∧ s.bus.held.any (·.groupCmd g) then f c.rel (s.noCmd g) else s
  | none => s

/-- ARM (R121, R122, R141, R195, R365): the members are checked again, then frames are reset and every shadow class is handed
over. -/
def armRelease (g rel : Nat) (s : State) : State :=
  if s.gst g ≠ gIDLE then s
  else
    match s.armRefusal g with
    | some (y, c) => lsgStatus c (armRefused y c s)
    | none =>
      let s := s.setGst g gARMED
      let s := forEach (s.members g) s fun y s => ucGovern y (armFrames y (handOver y 15 rel (s.setMst y mARMED)))
      decArm g (s.modGrp g fun x => { x with t0 := none, replayDue := false, rpass := false, held := false })

/-- START: shot 0 starts at the release time; at LEVEL 5 or above it is held. -/
def startRelease (g rel : Nat) (s : State) : State :=
  if s.gst g ≠ gARMED then s
  else
    let s := s.modGrp g fun x => { x with shot := 0, attempt := 0, rpass := false, replayDue := false, held := false, t0 := some rel }
    shotStart g s

/-- RESUME: the next shot starts at the release time; a replay that was due stays due. -/
def resumeRelease (g rel : Nat) (s : State) : State :=
  if s.gst g ≠ gPAUSED then s
  else if (s.grp g).replayDue then
    (if s.hold5 then s.modGrp g fun x => { x with held := true } else devRefresh (s.setGst g gRUNNING))
  else shotStart g (s.modGrp g fun x => { x with t0 := some rel })

/-- PAUSE: at once between shots and for a held group, else when the shot has ended. -/
def pauseRelease (g : Nat) (s : State) : State :=
  let x := s.grp g
  let paused (s : State) : State :=
    devRefresh (setMembers g mPAUSED ((s.modGrp g fun x => { x with t0 := none, held := false }).setGst g gPAUSED))
  if x.held then paused s
  else if s.gst g ≠ gRUNNING then s
  else if x.t0.isSome ∧ ¬ x.rpass then paused s
  else s.setGst g gPAUSING

/-- ABORT (R54). -/
def abortRelease (g rel : Nat) (s : State) : State := devRefresh (groupAbort g rel s)

/-- DISARM: an ARMED or PAUSED group is IDLE again. -/
def disarmRelease (g : Nat) (s : State) : State :=
  if s.gst g = gARMED ∨ s.gst g = gPAUSED then devRefresh (setMembers g mIDLE ((groupClear g s).setGst g gIDLE)) else s

/-- What a group command does at its release (Table 1-8). -/
def groupRelease (g cmd rel : Nat) (s : State) : State :=
  if cmd = lcARM then armRelease g rel s
  else if cmd = lcSTART then startRelease g rel s
  else if cmd = lcPAUSE then pauseRelease g s
  else if cmd = lcRESUME then resumeRelease g rel s
  else if cmd = lcABORT then abortRelease g rel s
  else if cmd = lcDISARM then disarmRelease g s
  else s

/-! ### Items (R34, R37 to R44) -/

/-- An item is taken from its way or from its receiver. -/
def dropTransit (i : Item) (s : State) : State := { s with bus := { s.bus with transit := s.bus.transit.erase i } }
def dropHeld (i : Item) (s : State) : State := { s with bus := { s.bus with held := s.bus.held.erase i } }

/-- An item that arrives after its release time is discarded, counted and reported to its sender (R40, R389); a group command is then no
longer pending. -/
def lateItem (i : Item) (s : State) : State :=
  let s := s.inc GLB_LATE_CNT
  match i.act with
  | .emit _ _ _ x => wEmitRef x E_GLB_LATE_REL s
  | .group g _ => (s.noCmd g).report E_GLB_LATE_REL i.dst i.src
  | _ => s.report E_GLB_LATE_REL i.dst i.src

/-- An item leaves its FIFO at its receiver, which holds it for its release or, when that has passed, discards it. -/
def arrive (i : Item) (s : State) : State :=
  if i.rel < s.tb1 then lateItem i (dropTransit i s) else (dropTransit i s).hold i

/-- ITEM_ARRIVAL of the item that stands at a place among those on their way: of one FIFO, the first alone arrives (R34, R44). -/
def itemArrival (k : Nat) (s : State) : State :=
  match s.bus.transit[k]? with
  | none => s
  | some i =>
    if (s.bus.transit.take k).any fun j => j.src == i.src && j.dst == i.dst && j.cls == i.cls then s else arrive i s

/-- What a timed effect of a yard does at its release `rel` (R90 to R95). A MARK on a pin that a commit has taken from the yard is refused
(R82). -/
def timedRelease (y pc rel : Nat) (a : TAct) (s : State) : State :=
  match a with
  | .play t _ _ _ _ => playRelease y t rel s
  | .acq chmask tag len =>
    forEach ((List.range 8).filter fun c => bit chmask c) s fun c s => openWindow y c (rel + 16 * ft) len tag 0 s
  | .frame t fop v => frameOp y t fop v rel s
  | .bias code => (biaCodeSet y code s).noteSetr (BIA_CODE y)
  | .mark set act width =>
    let pin := s.fld (HAL_MRK_PIN y) HAL_MRK_PIN_PIN
    if bit (s.comp y).misc 5 && s.yardMay y 1 pin then markRelease y set act width rel s else lostUse y pc 1 pin s
  | .setr off v => setrRelease y pc off v s
  | .commit m => handOver y m rel s
  | .micro _ _ => s

/-- The effect of an item at its release. -/
def itemEffect (i : Item) (s : State) : State :=
  match i.act with
  | .timed y pc a => timedRelease y pc i.rel a s
  | .emit a v w64 _ => emitWrite a v.toNat w64 s
  | .corr y t x z _ => applyCorr y t x z s
  | .start y c => acqEvent y c i.rel s
  | .timer t act arg => timerEvent t act arg i.rel s
  | .group g cmd => groupRelease g cmd i.rel (s.noCmd g)
  | .batch y c n => strmArrive y c n s

/-- Is the release of a held item now? The hub releases a group command in its st, a receiver that acts once per ft at the first boundary
from the release time on (R37, R38). -/
def State.itemDue (s : State) (i : Item) : Bool := match i.act with | .group _ _ => s.atTb1 i.rel | _ => s.due i.rel

/-- ITEM_RELEASE: the first item that the island holds for now is applied (R37, R38, R44). -/
def itemRelease (dst : Nat) (s : State) : State :=
  match s.bus.held.find? fun i => i.dst == dst && s.itemDue i with
  | some i => itemEffect i (dropHeld i s)
  | none => s

/-! ### Island hangs (R42, R43, Table 1-6) -/

/-- A group is aborted by the fault manager: by a CTRL command with the lead of the hub (Table 1-5), at once while TB1 does not run. -/
def hangAbort (g : Nat) (s : State) : State :=
  if s.gst g = gIDLE ∨ s.gst g = gABORTING then s
  else if s.tb1Run then s.faultAbort g
  else groupAbort g 0 s

/-- The reset of a yard island, which then needs partial reconfiguration (Table 1-6). -/
def yardHang (y : Nat) (s : State) : State :=
  let s : State := { s with seq := { s.seq with hung := y :: s.seq.hung.filter (· != y) } }
  let s := envClear y (yardCut y s.tb1 s)
  let s := if s.mst y = mIDLE then s else mastAbort y s
  let s := forEach (s.writtenSlots y) s fun i s => slotClear i s
  let s := cnsCloseYard y (demStopAll y (acqClear y (fluxStates y (fluxClear y s))))
  decRecheck (hangAbort (s.groupOf y) (biaCodeSet y 0 s))

/-- The reset of the Winch island; the groups that its services held are aborted (R395). -/
def winchHang (s : State) : State :=
  let gs := (List.range 64).filter fun g => (s.grp g).byService.isSome
  wHang (forEach gs s fun g s => hangAbort g s)

/-- The reset of an island, by its code of Table 1-16. -/
def islandReset (i : Nat) (s : State) : State :=
  if i < 64 then yardHang i s
  else if 0x41 ≤ i ∧ i ≤ 0x46 then linkDown (i - 0x41) s
  else if i = islWinch then winchHang s
  else if i = islHost then dmaAbortAll E_FLT_ISL_HANG s
  else s

/-- The islands hung within the last 10 µs, this one first. -/
def hangList (i now : Nat) (l : List (Nat × Nat)) : List (Nat × Nat) :=
  (i, now) :: l.filter fun h => h.1 != i && decide (now < h.2 + 12500 * ft)

/-- ISLAND_HANG on the crossing of two islands, one of them the hub, with an item of a class. -/
def islandHang (a b cls : Nat) (s : State) : State :=
  let i := if a = islHub then b else a
  let s := s.wrN GLB_HANG_INFO (a % 256 * 2 ^ 24 + b % 256 * 2 ^ 16 + cls % 8)
  let s := (islandReset i s).report E_FLT_ISL_HANG i 0
  let l := hangList i s.clock.now s.seq.hangs
  let s := { s with seq := { s.seq with hangs := l } }
  if 3 ≤ l.length then fatal E_FLT_HUB_HANG islHub 0 s else s

/-! ### The commands -/

/-- ITEM_ARRIVAL of the `k`-th item on its way. -/
def execItemArrival (k : Nat) (s : State) : Host.Outcome State Fault Refusal := .next (itemArrival k s)
/-- ITEM_RELEASE at island `dst`. -/
def execItemRelease (dst : Nat) (s : State) : Host.Outcome State Fault Refusal := .next (itemRelease dst s)
/-- ISLAND_HANG. -/
def execIslandHang (a b cls : Nat) (s : State) : Host.Outcome State Fault Refusal := .next (islandHang a b cls s)
/-- ARM_RELEASE. -/
def execArmRelease (g : Nat) (s : State) : Host.Outcome State Fault Refusal := .next (cmdRelease g lcARM (armRelease g) s)
/-- START_RELEASE. -/
def execStartRelease (g : Nat) (s : State) : Host.Outcome State Fault Refusal := .next (cmdRelease g lcSTART (startRelease g) s)
/-- PAUSE_RELEASE. -/
def execPauseRelease (g : Nat) (s : State) : Host.Outcome State Fault Refusal :=
  .next (cmdRelease g lcPAUSE (fun _ => pauseRelease g) s)
/-- RESUME_RELEASE. -/
def execResumeRelease (g : Nat) (s : State) : Host.Outcome State Fault Refusal := .next (cmdRelease g lcRESUME (resumeRelease g) s)
/-- ABORT_RELEASE. -/
def execAbortRelease (g : Nat) (s : State) : Host.Outcome State Fault Refusal := .next (cmdRelease g lcABORT (abortRelease g) s)
/-- DISARM_RELEASE. -/
def execDisarmRelease (g : Nat) (s : State) : Host.Outcome State Fault Refusal :=
  .next (cmdRelease g lcDISARM (fun _ => disarmRelease g) s)
/-- SHOT_START. -/
def execShotStart (g : Nat) (s : State) : Host.Outcome State Fault Refusal := .next (shotStart g s)
/-- SHOT_END_SIGNAL. -/
def execShotEndSignal (y : Nat) (s : State) : Host.Outcome State Fault Refusal := .next (shotEndSignal y s)
/-- REPLAY_START. -/
def execReplayStart (g : Nat) (s : State) : Host.Outcome State Fault Refusal := .next (replayStart g s)

end Sys2Proof.Machine
end

