-- ==== Sys2Proof/Machine/Dispatch.lean ====
section
/-! DEFINITION. The command that exec runs, one arm for each. -/

namespace Sys2Proof.Machine

/-- The effect of a command on everything but the queue. -/
def exec (i : Instr) (s : State) : Host.Outcome State Fault Refusal :=
  match i with
  | .regWrite a v n host => Sys2Proof.Machine.execRegWrite a v n host s
  | .itemArrival k => Sys2Proof.Machine.execItemArrival k s
  | .itemRelease dst => Sys2Proof.Machine.execItemRelease dst s
  | .islandHang a b cls => Sys2Proof.Machine.execIslandHang a b cls s
  | .lsgArm g svc => Sys2Proof.Machine.execLsgArm g svc s
  | .lsgStart g svc => Sys2Proof.Machine.execLsgStart g svc s
  | .lsgPause g svc => Sys2Proof.Machine.execLsgPause g svc s
  | .lsgResume g svc => Sys2Proof.Machine.execLsgResume g svc s
  | .lsgAbort g svc => Sys2Proof.Machine.execLsgAbort g svc s
  | .lsgDisarm g svc => Sys2Proof.Machine.execLsgDisarm g svc s
  | .armRelease g => Sys2Proof.Machine.execArmRelease g s
  | .startRelease g => Sys2Proof.Machine.execStartRelease g s
  | .pauseRelease g => Sys2Proof.Machine.execPauseRelease g s
  | .resumeRelease g => Sys2Proof.Machine.execResumeRelease g s
  | .abortRelease g => Sys2Proof.Machine.execAbortRelease g s
  | .disarmRelease g => Sys2Proof.Machine.execDisarmRelease g s
  | .goSafe => Sys2Proof.Machine.execGoSafe s
  | .leaveSafe => Sys2Proof.Machine.execLeaveSafe s
  | .recal => Sys2Proof.Machine.execRecal s
  | .imgLoad flash full => Sys2Proof.Machine.execImgLoad flash full s
  | .imgHeaderStaged bs => Sys2Proof.Machine.execImgHeaderStaged bs s
  | .imgFetchComplete bs => Sys2Proof.Machine.execImgFetchComplete bs s
  | .imgVerifyComplete => Sys2Proof.Machine.execImgVerifyComplete s
  | .imgCheckComplete => Sys2Proof.Machine.execImgCheckComplete s
  | .imgCommit => Sys2Proof.Machine.execImgCommit s
  | .imgAbort => Sys2Proof.Machine.execImgAbort s
  | .imgClear => Sys2Proof.Machine.execImgClear s
  | .fullCommitComplete => Sys2Proof.Machine.execFullCommitComplete s
  | .pcommitStart => Sys2Proof.Machine.execPcommitStart s
  | .pcommitApply => Sys2Proof.Machine.execPcommitApply s
  | .pcommitReginitWord => Sys2Proof.Machine.execPcommitReginitWord s
  | .pcommitEnd => Sys2Proof.Machine.execPcommitEnd s
  | .linkCommit => Sys2Proof.Machine.execLinkCommit s
  | .shotStart g => Sys2Proof.Machine.execShotStart g s
  | .shotEndSignal y => Sys2Proof.Machine.execShotEndSignal y s
  | .replayStart g => Sys2Proof.Machine.execReplayStart g s
  | .mastStopComplete y => Sys2Proof.Machine.execMastStopComplete y s
  | .issueStallEnd y => Sys2Proof.Machine.execIssueStallEnd y s
  | .nop y ecc => Sys2Proof.Machine.execNop y ecc s
  | .end_ y => Sys2Proof.Machine.execEnd y s
  | .wait y => Sys2Proof.Machine.execWait y s
  | .syncGroup y => Sys2Proof.Machine.execSyncGroup y s
  | .syncTrig y => Sys2Proof.Machine.execSyncTrig y s
  | .syncAlign y => Sys2Proof.Machine.execSyncAlign y s
  | .syncSatisfied y => Sys2Proof.Machine.execSyncSatisfied y s
  | .syncTimeout y => Sys2Proof.Machine.execSyncTimeout y s
  | .fence y => Sys2Proof.Machine.execFence y s
  | .fenceComplete y => Sys2Proof.Machine.execFenceComplete y s
  | .commit y => Sys2Proof.Machine.execCommit y s
  | .br y => Sys2Proof.Machine.execBr y s
  | .brc y => Sys2Proof.Machine.execBrc y s
  | .waitd y => Sys2Proof.Machine.execWaitd y s
  | .waitdResolve y => Sys2Proof.Machine.execWaitdResolve y s
  | .waitdDeadline y => Sys2Proof.Machine.execWaitdDeadline y s
  | .loop y => Sys2Proof.Machine.execLoop y s
  | .play y => Sys2Proof.Machine.execPlay y s
  | .acq y => Sys2Proof.Machine.execAcq y s
  | .frame y => Sys2Proof.Machine.execFrame y s
  | .bias y => Sys2Proof.Machine.execBias y s
  | .mark y => Sys2Proof.Machine.execMark y s
  | .setr y => Sys2Proof.Machine.execSetr y s
  | .movi y => Sys2Proof.Machine.execMovi y s
  | .alu y => Sys2Proof.Machine.execAlu y s
  | .ldd y => Sys2Proof.Machine.execLdd y s
  | .lddResolve y => Sys2Proof.Machine.execLddResolve y s
  | .gets y => Sys2Proof.Machine.execGets y s
  | .result y => Sys2Proof.Machine.execResult y s
  | .ucLoad y => Sys2Proof.Machine.execUcLoad y s
  | .ucHeaderArrival y bs => Sys2Proof.Machine.execUcHeaderArrival y bs s
  | .ucBodyComplete y body sig ecc => Sys2Proof.Machine.execUcBodyComplete y body sig ecc s
  | .ucRomOnly y => Sys2Proof.Machine.execUcRomOnly y s
  | .ucVerify r => Sys2Proof.Machine.execUcVerify r s
  | .halSegIdxWrite y v => Sys2Proof.Machine.execHalSegIdxWrite y v s
  | .halSegFree y => Sys2Proof.Machine.execHalSegFree y s
  | .halSegArm y => Sys2Proof.Machine.execHalSegArm y s
  | .storeSampleWrite q ix v => Sys2Proof.Machine.execStoreSampleWrite q ix v s
  | .bar2Write a bs => Sys2Proof.Machine.execBar2Write a bs s
  | .playCapture y t ecc => Sys2Proof.Machine.execPlayCapture y t ecc s
  | .segBoundary y t ecc => Sys2Proof.Machine.execSegBoundary y t ecc s
  | .halJumpWrite y t v => Sys2Proof.Machine.execHalJumpWrite y t v s
  | .strStart y c v => Sys2Proof.Machine.execStrStart y c v s
  | .strStop y c v => Sys2Proof.Machine.execStrStop y c v s
  | .strBlockAvailable y c => Sys2Proof.Machine.execStrBlockAvailable y c s
  | .streamBlockAddress y t => Sys2Proof.Machine.execStreamBlockAddress y t s
  | .markerEdge pin => Sys2Proof.Machine.execMarkerEdge pin s
  | .markerRunExitLow pin => Sys2Proof.Machine.execMarkerRunExitLow pin s
  | .pfCorrection y => Sys2Proof.Machine.execPfCorrection y s
  | .shadowWrite y off v => Sys2Proof.Machine.execShadowWrite y off v s
  | .tonShdCtlWrite y v => Sys2Proof.Machine.execTonShdCtlWrite y v s
  | .tonHoCmd y mask => Sys2Proof.Machine.execTonHoCmd y mask s
  | .handover y => Sys2Proof.Machine.execHandover y s
  | .biaCodeWrite y v => Sys2Proof.Machine.execBiaCodeWrite y v s
  | .biasCompliance y => Sys2Proof.Machine.execBiasCompliance y s
  | .biasOpen y => Sys2Proof.Machine.execBiasOpen y s
  | .biasLoadNormal y => Sys2Proof.Machine.execBiasLoadNormal y s
  | .biasLatchRelease y => Sys2Proof.Machine.execBiasLatchRelease y s
  | .cnvCfgWrite k sel v => Sys2Proof.Machine.execCnvCfgWrite k sel v s
  | .settlingEnd conv => Sys2Proof.Machine.execSettlingEnd conv s
  | .cnvAcqArm y c v => Sys2Proof.Machine.execCnvAcqArm y c v s
  | .cnvAcqDisarm y c v => Sys2Proof.Machine.execCnvAcqDisarm y c v s
  | .acqTimerStart y c => Sys2Proof.Machine.execAcqTimerStart y c s
  | .acqTrigStart y c => Sys2Proof.Machine.execAcqTrigStart y c s
  | .acqWindowEnd y c xs => Sys2Proof.Machine.execAcqWindowEnd y c xs s
  | .monWordBoundary m code ovr code1 ovr1 => Sys2Proof.Machine.execMonWordBoundary m code ovr code1 ovr1 s
  | .monScanEnable m v => Sys2Proof.Machine.execMonScanEnable m v s
  | .monScanDisable m v => Sys2Proof.Machine.execMonScanDisable m v s
  | .monInj m v => Sys2Proof.Machine.execMonInj m v s
  | .monXchkEnable m v => Sys2Proof.Machine.execMonXchkEnable m v s
  | .monCalRequest m => Sys2Proof.Machine.execMonCalRequest m s
  | .monCalEnd m => Sys2Proof.Machine.execMonCalEnd m s
  | .ringStart r v => Sys2Proof.Machine.execRingStart r v s
  | .ringStop r v => Sys2Proof.Machine.execRingStop r v s
  | .ringRpWrite r v => Sys2Proof.Machine.execRingRpWrite r v s
  | .demCtlWrite y c v => Sys2Proof.Machine.execDemCtlWrite y c v s
  | .demSettlingEnd y c => Sys2Proof.Machine.execDemSettlingEnd y c s
  | .kernelWeightWrite y c b m v => Sys2Proof.Machine.execKernelWeightWrite y c b m v s
  | .kernelFadeEnd y c => Sys2Proof.Machine.execKernelFadeEnd y c s
  | .checkpointEval y c xs => Sys2Proof.Machine.execCheckpointEval y c xs s
  | .finalScoreEval y c xs => Sys2Proof.Machine.execFinalScoreEval y c xs s
  | .dscCfgWrite y c v => Sys2Proof.Machine.execDscCfgWrite y c v s
  | .sheetEntry y c => Sys2Proof.Machine.execSheetEntry y c s
  | .slotRelease slot bad => Sys2Proof.Machine.execSlotRelease slot bad s
  | .fwdCopyArrival l j d rel ecc => Sys2Proof.Machine.execFwdCopyArrival l j d rel ecc s
  | .shtTapWrite t v => Sys2Proof.Machine.execShtTapWrite t v s
  | .shtImapWrite l j v => Sys2Proof.Machine.execShtImapWrite l j v s
  | .decEnable x ecc => Sys2Proof.Machine.execDecEnable x ecc s
  | .decDisable x => Sys2Proof.Machine.execDecDisable x s
  | .detectorArrival d => Sys2Proof.Machine.execDetectorArrival d s
  | .roundClose x => Sys2Proof.Machine.execRoundClose x s
  | .roundDeadline x => Sys2Proof.Machine.execRoundDeadline x s
  | .roundClockClose x => Sys2Proof.Machine.execRoundClockClose x s
  | .decodeStart x ecc => Sys2Proof.Machine.execDecodeStart x ecc s
  | .boundaryPass x => Sys2Proof.Machine.execBoundaryPass x s
  | .boundaryMsgArrival x l m => Sys2Proof.Machine.execBoundaryMsgArrival x l m s
  | .frameItemSend x => Sys2Proof.Machine.execFrameItemSend x s
  | .logicalRecord x => Sys2Proof.Machine.execLogicalRecord x s
  | .decFlushComplete x => Sys2Proof.Machine.execDecFlushComplete x s
  | .wchRunStart x => Sys2Proof.Machine.execWchRunStart x s
  | .wchRunStop x => Sys2Proof.Machine.execWchRunStop x s
  | .wchHaltSet x => Sys2Proof.Machine.execWchHaltSet x s
  | .wchHaltClear x => Sys2Proof.Machine.execWchHaltClear x s
  | .wchModeWrite x m => Sys2Proof.Machine.execWchModeWrite x m s
  | .wchDoorbell x => Sys2Proof.Machine.execWchDoorbell x s
  | .wchInterruptEntry x => Sys2Proof.Machine.execWchInterruptEntry x s
  | .wchNop x ecc => Sys2Proof.Machine.execWchNop x ecc s
  | .wchMov x => Sys2Proof.Machine.execWchMov x s
  | .wchMovi x => Sys2Proof.Machine.execWchMovi x s
  | .wchMovs x => Sys2Proof.Machine.execWchMovs x s
  | .wchAlu x => Sys2Proof.Machine.execWchAlu x s
  | .mac x => Sys2Proof.Machine.execMac x s
  | .macp x => Sys2Proof.Machine.execMacp x s
  | .accx x => Sys2Proof.Machine.execAccx x s
  | .divs x => Sys2Proof.Machine.execDivs x s
  | .ld x => Sys2Proof.Machine.execLd x s
  | .st x => Sys2Proof.Machine.execSt x s
  | .mts x => Sys2Proof.Machine.execMts x s
  | .mfs x => Sys2Proof.Machine.execMfs x s
  | .wchLoop x => Sys2Proof.Machine.execWchLoop x s
  | .wchBr x => Sys2Proof.Machine.execWchBr x s
  | .jl x => Sys2Proof.Machine.execJl x s
  | .jr x => Sys2Proof.Machine.execJr x s
  | .gett x => Sys2Proof.Machine.execGett x s
  | .emit x => Sys2Proof.Machine.execEmit x s
  | .xfer x => Sys2Proof.Machine.execXfer x s
  | .xferComplete x ix => Sys2Proof.Machine.execXferComplete x ix s
  | .wchFence x => Sys2Proof.Machine.execWchFence x s
  | .waiti x => Sys2Proof.Machine.execWaiti x s
  | .reti x => Sys2Proof.Machine.execReti x s
  | .halt x => Sys2Proof.Machine.execHalt x s
  | .svcResSpec x ws => Sys2Proof.Machine.execSvcResSpec x ws s
  | .svcRabi x ws => Sys2Proof.Machine.execSvcRabi x ws s
  | .svcRamsey x ws => Sys2Proof.Machine.execSvcRamsey x ws s
  | .svcDrag x ws => Sys2Proof.Machine.execSvcDrag x ws s
  | .svcKtrain x ws => Sys2Proof.Machine.execSvcKtrain x ws s
  | .svcFluxid x ws => Sys2Proof.Machine.execSvcFluxid x ws s
  | .svcStats x ws => Sys2Proof.Machine.execSvcStats x ws s
  | .svcHist x ws => Sys2Proof.Machine.execSvcHist x ws s
  | .svcMoninj x ws => Sys2Proof.Machine.execSvcMoninj x ws s
  | .svcComplete x conv shots out summary writes => Sys2Proof.Machine.execSvcComplete x conv shots out summary writes s
  | .cnsArm c v => Sys2Proof.Machine.execCnsArm c v s
  | .cnsDisarm c v => Sys2Proof.Machine.execCnsDisarm c v s
  | .cnsForce c => Sys2Proof.Machine.execCnsForce c s
  | .cnsTrigger c src inst xs => Sys2Proof.Machine.execCnsTrigger c src inst xs s
  | .cnsRecordEnd c xs drops uns => Sys2Proof.Machine.execCnsRecordEnd c xs drops uns s
  | .cnsHoldoffEnd c => Sys2Proof.Machine.execCnsHoldoffEnd c s
  | .cnsChunkWrite c xs drops uns => Sys2Proof.Machine.execCnsChunkWrite c xs drops uns s
  | .cnsRpWrite c v => Sys2Proof.Machine.execCnsRpWrite c v s
  | .frlStart e v => Sys2Proof.Machine.execFrlStart e v s
  | .frlResume e v => Sys2Proof.Machine.execFrlResume e v s
  | .frlAbort e => Sys2Proof.Machine.execFrlAbort e s
  | .frlClear e x => Sys2Proof.Machine.execFrlClear e x s
  | .frlBlockEnd e hdr syms miss ok ecc => Sys2Proof.Machine.execFrlBlockEnd e hdr syms miss ok ecc s
  | .frlOutFull e => Sys2Proof.Machine.execFrlOutFull e s
  | .frlJobEnd e => Sys2Proof.Machine.execFrlJobEnd e s
  | .tb1Start => Sys2Proof.Machine.execTb1Start s
  | .tb1ArmSync => Sys2Proof.Machine.execTb1ArmSync s
  | .tb1Stop => Sys2Proof.Machine.execTb1Stop s
  | .tb1Zero => Sys2Proof.Machine.execTb1Zero s
  | .skewcal => Sys2Proof.Machine.execSkewcal s
  | .skewcalComplete => Sys2Proof.Machine.execSkewcalComplete s
  | .syncinEdge frac => Sys2Proof.Machine.execSyncinEdge frac s
  | .stayStep => Sys2Proof.Machine.execStayStep s
  | .staySet => Sys2Proof.Machine.execStaySet s
  | .acceptAsym => Sys2Proof.Machine.execAcceptAsym s
  | .relock => Sys2Proof.Machine.execRelock s
  | .staySnap => Sys2Proof.Machine.execStaySnap s
  | .staySrcWrite src => Sys2Proof.Machine.execStaySrcWrite src s
  | .ptpSyncRx ds t1 corr t2 => Sys2Proof.Machine.execPtpSyncRx ds t1 corr t2 s
  | .ptpFollowUpRx ds t1 corr => Sys2Proof.Machine.execPtpFollowUpRx ds t1 corr s
  | .ptpDelayReqTx t3 => Sys2Proof.Machine.execPtpDelayReqTx t3 s
  | .ptpDelayRespRx ds t4 corr => Sys2Proof.Machine.execPtpDelayRespRx ds t4 corr s
  | .ptpAnnounceRx domain ds k => Sys2Proof.Machine.execPtpAnnounceRx domain ds k s
  | .tportOtherFrame => Sys2Proof.Machine.execTportOtherFrame s
  | .announceTimeout => Sys2Proof.Machine.execAnnounceTimeout s
  | .tbnSetAtWrite n v => Sys2Proof.Machine.execTbnSetAtWrite n v s
  | .tbnSetApply n => Sys2Proof.Machine.execTbnSetApply n s
  | .linkTimeTx l => Sys2Proof.Machine.execLinkTimeTx l s
  | .linkTimeRx l => Sys2Proof.Machine.execLinkTimeRx l s
  | .timerArm t v => Sys2Proof.Machine.execTimerArm t v s
  | .timerFix t => Sys2Proof.Machine.execTimerFix t s
  | .timerFire t => Sys2Proof.Machine.execTimerFire t s
  | .syncoutOff => Sys2Proof.Machine.execSyncoutOff s
  | .syncoutPulse => Sys2Proof.Machine.execSyncoutPulse s
  | .syncoutBurst => Sys2Proof.Machine.execSyncoutBurst s
  | .syncoutTimer tsel => Sys2Proof.Machine.execSyncoutTimer tsel s
  | .ozlEnable l en maxrate => Sys2Proof.Machine.execOzlEnable l en maxrate s
  | .ozlRetrain l => Sys2Proof.Machine.execOzlRetrain l s
  | .trainBlockRx l ix b inv => Sys2Proof.Machine.execTrainBlockRx l ix b inv s
  | .trainPhaseDone l => Sys2Proof.Machine.execTrainPhaseDone l s
  | .trainRateTimeout l failed => Sys2Proof.Machine.execTrainRateTimeout l failed s
  | .ozlDetectRetry l ix => Sys2Proof.Machine.execOzlDetectRetry l ix s
  | .amRx l ix b bip inRange => Sys2Proof.Machine.execAmRx l ix b bip inRange s
  | .rsRx l b => Sys2Proof.Machine.execRsRx l b s
  | .laneLost l ix => Sys2Proof.Machine.execLaneLost l ix s
  | .dataFlitRx l v => Sys2Proof.Machine.execDataFlitRx l v s
  | .nakRx l v => Sys2Proof.Machine.execNakRx l v s
  | .idleFlitRx l v => Sys2Proof.Machine.execIdleFlitRx l v s
  | .timeFlitRx l v arr => Sys2Proof.Machine.execTimeFlitRx l v arr s
  | .timeTb0FlitRx l v => Sys2Proof.Machine.execTimeTb0FlitRx l v s
  | .laneDownRx l v => Sys2Proof.Machine.execLaneDownRx l v s
  | .laneReadyRx l v => Sys2Proof.Machine.execLaneReadyRx l v s
  | .lsEnterRx l v => Sys2Proof.Machine.execLsEnterRx l v s
  | .lsAckRx l v => Sys2Proof.Machine.execLsAckRx l v s
  | .ackTimeout l => Sys2Proof.Machine.execAckTimeout l s
  | .recoveryTimeout l => Sys2Proof.Machine.execRecoveryTimeout l s
  | .traceCreditTimeout l => Sys2Proof.Machine.execTraceCreditTimeout l s
  | .fbQueueStale l => Sys2Proof.Machine.execFbQueueStale l s
  | .laneRetrainDone l ix => Sys2Proof.Machine.execLaneRetrainDone l ix s
  | .ozlPmRequest l ls => Sys2Proof.Machine.execOzlPmRequest l ls s
  | .lsAutoIdle l => Sys2Proof.Machine.execLsAutoIdle l s
  | .lsExitComplete l => Sys2Proof.Machine.execLsExitComplete l s
  | .ozlPark l ix on => Sys2Proof.Machine.execOzlPark l ix on s
  | .ozlPrbsCtl l ix v => Sys2Proof.Machine.execOzlPrbsCtl l ix v s
  | .ozlPrbsInj l ix => Sys2Proof.Machine.execOzlPrbsInj l ix s
  | .ozlLoopback l lb => Sys2Proof.Machine.execOzlLoopback l lb s
  | .ozlFlitInj l => Sys2Proof.Machine.execOzlFlitInj l s
  | .queueDoorbell q n v => Sys2Proof.Machine.execQueueDoorbell q n v s
  | .qmFenceDoorbell q n v => Sys2Proof.Machine.execQmFenceDoorbell q n v s
  | .fenceRecordPlace q => Sys2Proof.Machine.execFenceRecordPlace q s
  | .qmQidxWrite v => Sys2Proof.Machine.execQmQidxWrite v s
  | .qmWrite => Sys2Proof.Machine.execQmWrite s
  | .qmEnable => Sys2Proof.Machine.execQmEnable s
  | .qmDisable => Sys2Proof.Machine.execQmDisable s
  | .qmResume => Sys2Proof.Machine.execQmResume s
  | .queueDrained q => Sys2Proof.Machine.execQueueDrained q s
  | .descFetch q ws ecc => Sys2Proof.Machine.execDescFetch q ws ecc s
  | .dmaCopy q ix bs => Sys2Proof.Machine.execDmaCopy q ix bs s
  | .dmaFence q ix => Sys2Proof.Machine.execDmaFence q ix s
  | .dmaRqcopy q ix => Sys2Proof.Machine.execDmaRqcopy q ix s
  | .rqcopyBurst q ix => Sys2Proof.Machine.execRqcopyBurst q ix s
  | .descComplete q ix => Sys2Proof.Machine.execDescComplete q ix s
  | .dmaReadFail q ix => Sys2Proof.Machine.execDmaReadFail q ix s
  | .resultEntry prod => Sys2Proof.Machine.execResultEntry prod s
  | .irqTimer q => Sys2Proof.Machine.execIrqTimer q s
  | .qmYqidWrite y v => Sys2Proof.Machine.execQmYqidWrite y v s
  | .postedHdrRx l cls p part => Sys2Proof.Machine.execPostedHdrRx l cls p part s
  | .postedDataRx l cls p => Sys2Proof.Machine.execPostedDataRx l cls p s
  | .postedNackRx l p => Sys2Proof.Machine.execPostedNackRx l p s
  | .resultFlitRx l p => Sys2Proof.Machine.execResultFlitRx l p s
  | .pcieReset => Sys2Proof.Machine.execPcieReset s
  | .spdmGetVersion => Sys2Proof.Machine.execSpdmGetVersion s
  | .spdmGetCapabilities => Sys2Proof.Machine.execSpdmGetCapabilities s
  | .spdmNegotiateAlgorithms p384 sha384 => Sys2Proof.Machine.execSpdmNegotiateAlgorithms p384 sha384 s
  | .spdmGetDigests => Sys2Proof.Machine.execSpdmGetDigests s
  | .spdmGetCertificate slot off len => Sys2Proof.Machine.execSpdmGetCertificate slot off len s
  | .spdmChallenge slot nonce => Sys2Proof.Machine.execSpdmChallenge slot nonce s
  | .spdmGetMeasurements index nonce => Sys2Proof.Machine.execSpdmGetMeasurements index nonce s
  | .spdmUnsupported => Sys2Proof.Machine.execSpdmUnsupported s
  | .shrSeal p => Sys2Proof.Machine.execShrSeal p s
  | .sealComplete p => Sys2Proof.Machine.execSealComplete p s
  | .shrStatement p => Sys2Proof.Machine.execShrStatement p s
  | .shrKeyImport p blob => Sys2Proof.Machine.execShrKeyImport p blob s
  | .shrImport p blob => Sys2Proof.Machine.execShrImport p blob s
  | .shrExport p => Sys2Proof.Machine.execShrExport p s
  | .shrRelease p blob => Sys2Proof.Machine.execShrRelease p blob s
  | .zeroiseComplete p => Sys2Proof.Machine.execZeroiseComplete p s
  | .dbgReq => Sys2Proof.Machine.execDbgReq s
  | .dbgSubmit level => Sys2Proof.Machine.execDbgSubmit level s
  | .dbgLock => Sys2Proof.Machine.execDbgLock s
  | .dbgScrap level => Sys2Proof.Machine.execDbgScrap level s
  | .trimFg ix => Sys2Proof.Machine.execTrimFg ix s
  | .trimBgNow ix => Sys2Proof.Machine.execTrimBgNow ix s
  | .trimFgEnd ix bad => Sys2Proof.Machine.execTrimFgEnd ix bad s
  | .calComplete bad => Sys2Proof.Machine.execCalComplete bad s
  | .trimBgRun => Sys2Proof.Machine.execTrimBgRun s
  | .trimBgStepEnd ix ok => Sys2Proof.Machine.execTrimBgStepEnd ix ok s
  | .trimApply ix => Sys2Proof.Machine.execTrimApply ix s
  | .reefSensorConversion ix v => Sys2Proof.Machine.execReefSensorConversion ix v s
  | .tlevelChange => Sys2Proof.Machine.execTlevelChange s
  | .plevelChange => Sys2Proof.Machine.execPlevelChange s
  | .reefRailSample vs => Sys2Proof.Machine.execReefRailSample vs s
  | .reefPlimWrite v => Sys2Proof.Machine.execReefPlimWrite v s
  | .sensRetest ix pass xs => Sys2Proof.Machine.execSensRetest ix pass xs s
  | .analogTrip => Sys2Proof.Machine.execAnalogTrip s
  | .tripRestart => Sys2Proof.Machine.execTripRestart s
  | .faultReport => Sys2Proof.Machine.execFaultReport s
  | .fltDiscard => Sys2Proof.Machine.execFltDiscard s
  | .fltLogRpWrite v => Sys2Proof.Machine.execFltLogRpWrite v s
  | .fltMark g => Sys2Proof.Machine.execFltMark g s
  | .fltMarkRelease g => Sys2Proof.Machine.execFltMarkRelease g s
  | .fltTrigCfgWrite ix v => Sys2Proof.Machine.execFltTrigCfgWrite ix v s
  | .trigLevelChange ix up => Sys2Proof.Machine.execTrigLevelChange ix up s
  | .trigEdgeAccept ix => Sys2Proof.Machine.execTrigEdgeAccept ix s
  | .trigEdgeDelivery ix => Sys2Proof.Machine.execTrigEdgeDelivery ix s
  | .powerGood straps => Sys2Proof.Machine.execPowerGood straps s
  | .railLoss => Sys2Proof.Machine.execRailLoss s
  | .auxLoss => Sys2Proof.Machine.execAuxLoss s
  | .refclkLoss => Sys2Proof.Machine.execRefclkLoss s
  | .synthLossOfLock => Sys2Proof.Machine.execSynthLossOfLock s
  | .synthRelockTry locks => Sys2Proof.Machine.execSynthRelockTry locks s
  | .synthLockHeld => Sys2Proof.Machine.execSynthLockHeld s
  | .resetNAssert perst => Sys2Proof.Machine.execResetNAssert perst s
  | .resetRelease => Sys2Proof.Machine.execResetRelease s
  | .glbReset v => Sys2Proof.Machine.execGlbReset v s
  | .bootStageComplete r a b okr fw => Sys2Proof.Machine.execBootStageComplete r a b okr fw s
  | .auxPllRetry locks => Sys2Proof.Machine.execAuxPllRetry locks s
  | .smbBootStsLow => Sys2Proof.Machine.execSmbBootStsLow s
  | .smbBootStsHigh => Sys2Proof.Machine.execSmbBootStsHigh s
  | .smbState => Sys2Proof.Machine.execSmbState s
  | .smbReefSts => Sys2Proof.Machine.execSmbReefSts s
  | .smbTripCnt => Sys2Proof.Machine.execSmbTripCnt s
  | .smbZoneTemp z => Sys2Proof.Machine.execSmbZoneTemp z s
  | .smbRail r => Sys2Proof.Machine.execSmbRail r s
  | .smbOther => Sys2Proof.Machine.execSmbOther s
  | .tapReset => Sys2Proof.Machine.execTapReset s
  | .tapIdcode => Sys2Proof.Machine.execTapIdcode s
  | .tapDbgStatus => Sys2Proof.Machine.execTapDbgStatus s
  | .tapBypass ir => Sys2Proof.Machine.execTapBypass ir s
  | .dbgAccessNop op => Sys2Proof.Machine.execDbgAccessNop op s
  | .dbgAccessRead w64 space peek addr rsvd => Sys2Proof.Machine.execDbgAccessRead w64 space peek addr rsvd s
  | .dbgAccessWrite w64 space addr rsvd data => Sys2Proof.Machine.execDbgAccessWrite w64 space addr rsvd data s
  | .dbgAccessComplete => Sys2Proof.Machine.execDbgAccessComplete s
  | .ratMastHalt y => Sys2Proof.Machine.execRatMastHalt y s
  | .ratMastStep y => Sys2Proof.Machine.execRatMastStep y s
  | .ratMastRelease y => Sys2Proof.Machine.execRatMastRelease y s
  | .ratWchHalt x v => Sys2Proof.Machine.execRatWchHalt x v s
  | .ratWchStep x => Sys2Proof.Machine.execRatWchStep x s
  | .regReadClear a n => Sys2Proof.Machine.execRegReadClear a n s
  | .biasSlewEnd y => Sys2Proof.Machine.execBiasSlewEnd y s
  | .playEnd y t => Sys2Proof.Machine.execPlayEnd y t s
  | .shrJobEnd p => Sys2Proof.Machine.execShrJobEnd p s
  | .refclkReturn => Sys2Proof.Machine.execRefclkReturn s
  | .pcieLinkUp rate width flit => Sys2Proof.Machine.execPcieLinkUp rate width flit s

end Sys2Proof.Machine
end

