-- ==== Sys2Proof/Machine/Time.lean ====
section
/-! DEFINITION. One st of time (log entry 3): what falls due in it without any word from outside, the samples taken in it, and the clocks. The
commands that stand for the same events do nothing before their time, so that one st does each of them once. -/

namespace Sys2Proof.Machine

/-! ### What falls due -/

/-- The held items that pass a test are released, in the order in which they are held; one that an earlier release has discarded is not. -/
def releaseAll (p : State → Item → Bool) (s : State) : State :=
  forEach (s.bus.held.filter (p s)) s fun i s => if s.bus.held.contains i then itemEffect i (dropHeld i s) else s

/-- Is an item a group command? -/
def Item.isGroup (i : Item) : Bool := match i.act with | .group _ _ => true | _ => false

/-- A set of operations in turn. -/
def inTurn (fs : List (State → State)) (s : State) : State := forEach fs s fun f s => f s

/-- Commits of images: their phases (Table 2-13), and the new configuration of a link (R85). -/
def settleCommit (s : State) : State := inTurn [pcommitStart, pcommitApply, pcommitWord, pcommitEnd, linkCommit] s

/-- The timing unit and its timers (chapter 14). -/
def settleStay (s : State) : State :=
  let s := forEach [2, 3, 4, 5, 6, 7] (tb1Zero s) tbnSetApply
  announceTimeout (skewcalComplete (forEach (List.range 128) s fun t s => timerFire t (timerFix t s)))

/-- Trigger inputs (R588, R590). -/
def settleTrig (s : State) : State := forEach (List.range 16) s fun i s => trigDeliver i (trigAccept i s)

/-- Plays that end or move on, and the edges of markers (R159, R162, R180, R670). -/
def settlePlay (s : State) : State :=
  let s := forEach (s.hal.tgts.map (·.1)) s fun k s => storeError (k / 32) (k % 32) (playEnd (k / 32) (k % 32) (segBoundary (k / 32) (k % 32) none s))
  forEach (s.hal.pins.map (·.1)) s fun pin s =>
    markerExitLow pin (forEach (List.range ((s.pin pin).edges.length + 1)) s fun _ s => markerEdge pin s)

/-- Converters and demodulation channels (chapters 8 and 9). -/
def settleConv (s : State) : State :=
  let s := forEach (s.cnv.adcs.map (·.1)) s settlingEnd
  forEach (s.cnv.dems.map (·.1)) s fun k s =>
    let y := k / 8
    let c := k % 8
    let s := forEach (s.dem y c).trigs s fun _ s => acqTrigStart y c s
    demSettlingEnd y c (kernelFadeEnd y c (demEdge y c s))

/-- The Sheet (chapter 10): decisions enter it and are released. -/
def settleSheet (s : State) : State :=
  let s := forEach s.cnv.formed s fun d s => sheetEntry d.yard d.chan s
  forEach s.cnv.entered s fun d s => slotRelease d.slot [] s

/-- A decoder context (chapter 11). -/
def settleDec (x : Nat) (s : State) : State :=
  let c := s.ctx x
  let s := forEach c.opens s fun _ s => roundDeadline x (roundClose x s)
  let s := passAnswers x (boundaryPass x (decodeStart x false (roundClockClose x s)))
  let s := forEach c.items s fun _ s => frameItemSend x s
  decFlushComplete x (forEach c.logs s fun _ s => logicalRecord x s)

/-- Capture channels: the events on their way, and holdoffs (R411, R417). -/
def settleCns (c : Nat) (s : State) : State :=
  cnsHoldoffEnd c (forEach (s.cns c).evs s fun e s => cnsTrigger c e.1 e.2 [] s)

/-- What a Mast waits for (Table 3-10). -/
def mastWaits (y : Nat) (s : State) : State :=
  let w (deadline : Bool) (s : State) : State :=
    if s.atWaitc y 1 then ucWaitd y deadline s
    else if s.mst y = mWAITD then (if deadline then waitdDeadline y s else waitdResolve y s) else s
  fenceComplete y (issueStallEnd y (lddResolve y (w true (w false (syncTimeout y (syncSatisfied y s))))))

/-- The instruction at SEQ_PC issues when its time has come. -/
def mastIssue (y : Nat) (s : State) : State :=
  match mop (s.word y (s.pc y)) with
  | .nop => issueNop y s
  | .bad => issueBad y s
  | .end_ => issueEnd y s
  | .wait => issueWait y s
  | .syncGroup => issueSyncGroup y s
  | .syncTrig => issueSyncTrig y s
  | .syncAlign => issueSyncAlign y s
  | .fence => issueFence y s
  | .br => issueBr y s
  | .brc => issueBrc y s
  | .waitd => issueWaitd y s
  | .loop => issueLoop y s
  | .movi => issueMovi y s
  | .alu => issueAlu y s
  | .ldd => issueLdd y s
  | .gets => issueGets y s
  | .result => issueResult y s
  | .commit => issueTimed y .commit s
  | .play => issueTimed y .play s
  | .acq => issueTimed y .acq s
  | .frame => issueTimed y .frame s
  | .bias => issueTimed y .bias s
  | .mark => issueTimed y .mark s
  | .setr => issueTimed y .setr s

/-- The Masts that are not IDLE. -/
def State.liveMasts (s : State) : List Nat := allYards.filter fun y => s.mst y != mIDLE

/-- Shots start, instructions issue, and what waits goes on (chapter 3). -/
def settleMast (s : State) : State :=
  let s := forEach (List.range 64) s fun g s => replayStart g (shotStart g s)
  let ys := s.liveMasts
  let s := forEach ys (forEach ys s mastWaits) fun y s => if s.mst y = mISSUE then mastIssue y s else s
  forEach ys s mastWaits

/-- What is captured at the end of the ft in which it is addressed (R158, R170, R174). -/
def settleCapture (s : State) : State :=
  let rs := s.hal.reqs
  let s := forEach rs s fun r s => if s.addresses r.r then playCapture r.y r.tgt none s else s
  forEach rs s fun r s => storeError r.y r.tgt (if r.src = 2 then streamBlock r.y r.tgt s else s)

/-- Shots end and Masts stop (R124, Table 3-10). -/
def settleShots (s : State) : State := forEach s.liveMasts s fun y s => mastStopped y (shotEndSignal y s)

/-- Trim, Reef, clocks and links by their own times. -/
def settleUnits (s : State) : State :=
  let s := forEach (s.trim.convs.map (·.1)) (trimBgRun s) trimApply
  let s := inTurn [tlevelChange, plevelChange, lockHeld, tripRestart] s
  forEach (List.range 6) s fun l s =>
    let s := inTurn [ackTimeout l, recoveryTimeout l, linkTimeTx l, traceTimeout l, fbStale l, lsAuto l, lsExitDone l] s
    forEach (List.range 4) s fun i s => if (s.link l).retryAt ≠ 0 then detectRetry l i s else s

/-- Has a record had the time in which it reaches its queue (R510)? -/
def State.recDue (s : State) (r : Rec) : Bool := !s.tb1Run || s.reached (r.time + 2500 * ft)

/-- Records reach their queues, FENCE records are placed, queues drain and interrupt; reports reach the fault manager. -/
def settleQueues (s : State) : State :=
  let s := forEach s.bus.recs s fun r s =>
    match s.bus.recs.find? fun q => q.prod == r.prod with
    | some q => if s.recDue q then resultEntry r.prod s else s
    | none => s
  let s := forEach (s.hif.ques.map (·.1)) s fun q s =>
    irqTimer q (queueDrained q (forEach (s.que q).fences s fun _ s => fencePlace q s))
  forEach s.bus.reports s fun _ s => faultReport s

/-- Everything that falls due in the present st. -/
def settle (s : State) : State :=
  let s := forEach s.bus.transit s arrive
  let s := settleCommit s
  let s := releaseAll (fun s i => i.isGroup && s.itemDue i) s
  let s := forEach (List.range 64) s fltMarkRelease
  let s := forEach s.hal.batches s fun b s => strmClock b.2.1 b.2.2.1 s
  let s := settleTrig (settleStay s)
  let s := releaseAll State.itemDue s
  let s := settleSheet (settleConv (settlePlay s))
  let s := forEach (List.range 8) s settleDec
  let s := settleShots (settleCapture (settleMast s))
  settleQueues (settleUnits (forEach (List.range 16) s settleCns))

/-! ### Samples -/

/-- The samples of a yard in one ft: stage 1 of its tones, its flux outputs and its bias source. -/
def sampleYard (y : Nat) (s : State) : State :=
  let s := forEach ((List.range 16).filter (s.toneOn y)) s fun t s => toneTick y t s
  let s := forEach (List.range 4) s fun f s => fluxTick y f s
  let s := biaTick y s
  if s.flag (BIA_STS y) BIA_STS_SLEWING then biaSlewEnd y s else s

/-- The samples of the present st. -/
def sample (s : State) : State :=
  let s := mixTick (adcTick s)
  rfTick (if s.phase = 0 then forEach allYards s sampleYard else s)

/-! ### The clocks -/

/-- One ft of the class FIFOs: a FIFO that was empty at some boundary of it may have counted a wait; which did is free (log entry 90). -/
def classWaitTick (s : State) : State :=
  forEach (List.range 5) s fun c s => (s.nextFree).when (s.freeN % 2 == 1) fun s => s.inc (FLT_CLS_WAIT c)

/-- The clocks count one st. -/
def clockTick (s : State) : State :=
  let run := s.tb1Run
  { s with clock := { now := s.clock.now + 1, tb1 := if run then s.clock.tb1 + 1 else s.clock.tb1 } }

/-- What the start of an ft brings (R205, R206): the hand-overs of its tick, those of an ARM and of a COMMIT released at it among them, before
anything is written in it. -/
def startFt (s : State) : State :=
  let s := forEach (List.range 64) s fun g s => cmdRelease g lcARM (armRelease g) s
  let commit (s : State) (i : Item) : Bool := (match i.act with | .timed _ _ (.commit _) => true | _ => false) && s.due i.rel
  let s := releaseAll commit s
  forEach ((s.ton.hos.filter fun h => s.due h.h).map (·.y)) s handover

/-- One st passes: what falls due in it, its samples, and then the clocks. -/
def tick (s : State) : State :=
  if s.dev = dOFF then glbResetTick (clockTick s)
  else
    let s := clockTick (sample (settle s))
    let s := forEach (List.range 6) (stayTick s) ozlTick
    let s := pinTick (glbResetTick (if s.phase = 0 then classWaitTick s else s))
    if s.tb1Run ∧ s.phase = 0 then startFt s else s

end Sys2Proof.Machine
end

