-- ==== Sys2Proof/WellFormed.lean ====
section
/-! DEFINITION. Which commands are well formed: every number that names a part of the block is one the block has, and every field fits
its width. -/

namespace Sys2Proof

/-- Is a command well formed? `exec` is total: it answers for every command. -/
def Instr.wf : Instr → Bool
  | .regWrite a v n _ => decide (a < 67108864 ∧ v < 18446744073709551616 ∧ n < 513)
  | .itemArrival k => decide (k < 65536)
  | .itemRelease dst => decide (dst < 73)
  | .islandHang a b cls => decide (a < 73 ∧ b < 73 ∧ cls < 8 ∧ (a = 0x40 ∨ b = 0x40))
  | .lsgArm g _ => decide (g < 64)
  | .lsgStart g _ => decide (g < 64)
  | .lsgPause g _ => decide (g < 64)
  | .lsgResume g _ => decide (g < 64)
  | .lsgAbort g _ => decide (g < 64)
  | .lsgDisarm g _ => decide (g < 64)
  | .armRelease g => decide (g < 64)
  | .startRelease g => decide (g < 64)
  | .pauseRelease g => decide (g < 64)
  | .resumeRelease g => decide (g < 64)
  | .abortRelease g => decide (g < 64)
  | .disarmRelease g => decide (g < 64)
  | .goSafe => true
  | .leaveSafe => true
  | .recal => true
  | .imgLoad _ _ => true
  | .imgHeaderStaged _ => true
  | .imgFetchComplete _ => true
  | .imgVerifyComplete => true
  | .imgCheckComplete => true
  | .imgCommit => true
  | .imgAbort => true
  | .imgClear => true
  | .fullCommitComplete => true
  | .pcommitStart => true
  | .pcommitApply => true
  | .pcommitReginitWord => true
  | .pcommitEnd => true
  | .linkCommit => true
  | .shotStart g => decide (g < 64)
  | .shotEndSignal y => decide (y < 64)
  | .replayStart g => decide (g < 64)
  | .mastStopComplete y => decide (y < 64)
  | .issueStallEnd y => decide (y < 64)
  | .nop y ecc => decide (y < 64 ∧ ecc < 5)
  | .end_ y => decide (y < 64)
  | .wait y => decide (y < 64)
  | .syncGroup y => decide (y < 64)
  | .syncTrig y => decide (y < 64)
  | .syncAlign y => decide (y < 64)
  | .syncSatisfied y => decide (y < 64)
  | .syncTimeout y => decide (y < 64)
  | .fence y => decide (y < 64)
  | .fenceComplete y => decide (y < 64)
  | .commit y => decide (y < 64)
  | .br y => decide (y < 64)
  | .brc y => decide (y < 64)
  | .waitd y => decide (y < 64)
  | .waitdResolve y => decide (y < 64)
  | .waitdDeadline y => decide (y < 64)
  | .loop y => decide (y < 64)
  | .play y => decide (y < 64)
  | .acq y => decide (y < 64)
  | .frame y => decide (y < 64)
  | .bias y => decide (y < 64)
  | .mark y => decide (y < 64)
  | .setr y => decide (y < 64)
  | .movi y => decide (y < 64)
  | .alu y => decide (y < 64)
  | .ldd y => decide (y < 64)
  | .lddResolve y => decide (y < 64)
  | .gets y => decide (y < 64)
  | .result y => decide (y < 64)
  | .ucLoad y => decide (y < 64)
  | .ucHeaderArrival y _ => decide (y < 64)
  | .ucBodyComplete y _ _ ecc => decide (y < 64 ∧ ecc < 3)
  | .ucRomOnly y => decide (y < 64)
  | .ucVerify r => decide (r.yard < 64 ∧ r.ecc < 3)
  | .halSegIdxWrite y v => decide (y < 64 ∧ v < 18446744073709551616)
  | .halSegFree y => decide (y < 64)
  | .halSegArm y => decide (y < 64)
  | .storeSampleWrite q i v => decide (q < 4 ∧ i < 2097152 ∧ v < 18446744073709551616)
  | .bar2Write a _ => decide (a < 274877906944)
  | .playCapture y t _ => decide (y < 64 ∧ t < 20)
  | .segBoundary y t _ => decide (y < 64 ∧ t < 20)
  | .halJumpWrite y t v => decide (y < 64 ∧ t < 20 ∧ v < 18446744073709551616)
  | .strStart y c v => decide (y < 64 ∧ c < 2 ∧ v < 18446744073709551616)
  | .strStop y c v => decide (y < 64 ∧ c < 2 ∧ v < 18446744073709551616)
  | .strBlockAvailable y c => decide (y < 64 ∧ c < 2)
  | .streamBlockAddress y t => decide (y < 64 ∧ t < 20)
  | .markerEdge pin => decide (pin < 64)
  | .markerRunExitLow pin => decide (pin < 64)
  | .pfCorrection y => decide (y < 64)
  | .shadowWrite y off v => decide (y < 64 ∧ off < 262144 ∧ v < 18446744073709551616)
  | .tonShdCtlWrite y v => decide (y < 64 ∧ v < 18446744073709551616)
  | .tonHoCmd y mask => decide (y < 64 ∧ mask < 16)
  | .handover y => decide (y < 64)
  | .biaCodeWrite y v => decide (y < 64 ∧ v < 18446744073709551616)
  | .biasCompliance y => decide (y < 64)
  | .biasOpen y => decide (y < 64)
  | .biasLoadNormal y => decide (y < 64)
  | .biasLatchRelease y => decide (y < 64)
  | .cnvCfgWrite k sel v => decide (k < 32 ∧ sel < 3 ∧ v < 18446744073709551616)
  | .settlingEnd conv => decide (conv < 48)
  | .cnvAcqArm y c v => decide (y < 64 ∧ c < 8 ∧ v < 18446744073709551616)
  | .cnvAcqDisarm y c v => decide (y < 64 ∧ c < 8 ∧ v < 18446744073709551616)
  | .acqTimerStart y c => decide (y < 64 ∧ c < 8)
  | .acqTrigStart y c => decide (y < 64 ∧ c < 8)
  | .acqWindowEnd y c _ => decide (y < 64 ∧ c < 8)
  | .monWordBoundary m code _ code1 _ => decide (m < 16 ∧ code < 16777216 ∧ code1 < 16777216)
  | .monScanEnable m v => decide (m < 16 ∧ v < 18446744073709551616)
  | .monScanDisable m v => decide (m < 16 ∧ v < 18446744073709551616)
  | .monInj m v => decide (m < 16 ∧ v < 18446744073709551616)
  | .monXchkEnable m v => decide (m < 16 ∧ v < 18446744073709551616)
  | .monCalRequest m => decide (m < 16)
  | .monCalEnd m => decide (m < 16)
  | .ringStart r v => decide (r < 48 ∧ v < 18446744073709551616)
  | .ringStop r v => decide (r < 48 ∧ v < 18446744073709551616)
  | .ringRpWrite r v => decide (r < 48 ∧ v < 18446744073709551616)
  | .demCtlWrite y c v => decide (y < 64 ∧ c < 8 ∧ v < 18446744073709551616)
  | .demSettlingEnd y c => decide (y < 64 ∧ c < 8)
  | .kernelWeightWrite y c b m v => decide (y < 64 ∧ c < 8 ∧ b < 2 ∧ m < 513 ∧ v < 18446744073709551616)
  | .kernelFadeEnd y c => decide (y < 64 ∧ c < 8)
  | .checkpointEval y c _ => decide (y < 64 ∧ c < 8)
  | .finalScoreEval y c _ => decide (y < 64 ∧ c < 8)
  | .dscCfgWrite y c v => decide (y < 64 ∧ c < 8 ∧ v < 18446744073709551616)
  | .sheetEntry y c => decide (y < 64 ∧ c < 8)
  | .slotRelease slot _ => decide (slot < 1024)
  | .fwdCopyArrival l j d rel _ => decide (l < 6 ∧ j < 1024 ∧ d < 2048 ∧ rel < 18446744073709551616)
  | .shtTapWrite t v => decide (t < 4096 ∧ v < 18446744073709551616)
  | .shtImapWrite l j v => decide (l < 6 ∧ j < 1024 ∧ v < 18446744073709551616)
  | .decEnable x _ => decide (x < 8)
  | .decDisable x => decide (x < 8)
  | .detectorArrival d => decide (d < 2048)
  | .roundClose x => decide (x < 8)
  | .roundDeadline x => decide (x < 8)
  | .roundClockClose x => decide (x < 8)
  | .decodeStart x _ => decide (x < 8)
  | .boundaryPass x => decide (x < 8)
  | .boundaryMsgArrival x l _ => decide (x < 8 ∧ l < 6)
  | .frameItemSend x => decide (x < 8)
  | .logicalRecord x => decide (x < 8)
  | .decFlushComplete x => decide (x < 8)
  | .wchRunStart x => decide (x < 8)
  | .wchRunStop x => decide (x < 8)
  | .wchHaltSet x => decide (x < 8)
  | .wchHaltClear x => decide (x < 8)
  | .wchModeWrite x m => decide (x < 8 ∧ m < 2)
  | .wchDoorbell x => decide (x < 8)
  | .wchInterruptEntry x => decide (x < 8)
  | .wchNop x ecc => decide (x < 8 ∧ ecc < 5)
  | .wchMov x => decide (x < 8)
  | .wchMovi x => decide (x < 8)
  | .wchMovs x => decide (x < 8)
  | .wchAlu x => decide (x < 8)
  | .mac x => decide (x < 8)
  | .macp x => decide (x < 8)
  | .accx x => decide (x < 8)
  | .divs x => decide (x < 8)
  | .ld x => decide (x < 8)
  | .st x => decide (x < 8)
  | .mts x => decide (x < 8)
  | .mfs x => decide (x < 8)
  | .wchLoop x => decide (x < 8)
  | .wchBr x => decide (x < 8)
  | .jl x => decide (x < 8)
  | .jr x => decide (x < 8)
  | .gett x => decide (x < 8)
  | .emit x => decide (x < 8)
  | .xfer x => decide (x < 8)
  | .xferComplete x i => decide (x < 8 ∧ i < 8)
  | .wchFence x => decide (x < 8)
  | .waiti x => decide (x < 8)
  | .reti x => decide (x < 8)
  | .halt x => decide (x < 8)
  | .svcResSpec x _ => decide (x < 8)
  | .svcRabi x _ => decide (x < 8)
  | .svcRamsey x _ => decide (x < 8)
  | .svcDrag x _ => decide (x < 8)
  | .svcKtrain x _ => decide (x < 8)
  | .svcFluxid x _ => decide (x < 8)
  | .svcStats x _ => decide (x < 8)
  | .svcHist x _ => decide (x < 8)
  | .svcMoninj x _ => decide (x < 8)
  | .svcComplete x _ shots _ _ _ => decide (x < 8 ∧ shots < 4294967296)
  | .cnsArm c v => decide (c < 16 ∧ v < 18446744073709551616)
  | .cnsDisarm c v => decide (c < 16 ∧ v < 18446744073709551616)
  | .cnsForce c => decide (c < 16)
  | .cnsTrigger c src inst _ => decide (c < 16 ∧ src < 8 ∧ inst < 18446744073709551616)
  | .cnsRecordEnd c _ _ _ => decide (c < 16)
  | .cnsHoldoffEnd c => decide (c < 16)
  | .cnsChunkWrite c _ drops _ => decide (c < 16 ∧ drops < 4294967296)
  | .cnsRpWrite c v => decide (c < 16 ∧ v < 18446744073709551616)
  | .frlStart e v => decide (e < 4 ∧ v < 18446744073709551616)
  | .frlResume e v => decide (e < 4 ∧ v < 18446744073709551616)
  | .frlAbort e => decide (e < 4)
  | .frlClear e x => decide (e < 4 ∧ x < 4)
  | .frlBlockEnd e _ _ _ _ ecc => decide (e < 4 ∧ ecc < 5)
  | .frlOutFull e => decide (e < 4)
  | .frlJobEnd e => decide (e < 4)
  | .tb1Start => true
  | .tb1ArmSync => true
  | .tb1Stop => true
  | .tb1Zero => true
  | .skewcal => true
  | .skewcalComplete => true
  | .syncinEdge frac => decide (frac < 128)
  | .stayStep => true
  | .staySet => true
  | .acceptAsym => true
  | .relock => true
  | .staySnap => true
  | .staySrcWrite src => decide (src < 256)
  | .ptpSyncRx _ _ _ _ => true
  | .ptpFollowUpRx _ _ _ => true
  | .ptpDelayReqTx _ => true
  | .ptpDelayRespRx _ _ _ => true
  | .ptpAnnounceRx domain _ k => decide (domain < 256 ∧ k < 256)
  | .tportOtherFrame => true
  | .announceTimeout => true
  | .tbnSetAtWrite n v => decide (n < 8 ∧ v < 18446744073709551616)
  | .tbnSetApply n => decide (n < 8)
  | .linkTimeTx l => decide (l < 6)
  | .linkTimeRx l => decide (l < 6)
  | .timerArm t v => decide (t < 128 ∧ v < 18446744073709551616)
  | .timerFix t => decide (t < 128)
  | .timerFire t => decide (t < 128)
  | .syncoutOff => true
  | .syncoutPulse => true
  | .syncoutBurst => true
  | .syncoutTimer tsel => decide (tsel < 128)
  | .ozlEnable l _ maxrate => decide (l < 6 ∧ maxrate < 8)
  | .ozlRetrain l => decide (l < 6)
  | .trainBlockRx l i b _ => decide (l < 6 ∧ i < 4 ∧ b < 18446744073709551616)
  | .trainPhaseDone l => decide (l < 6)
  | .trainRateTimeout l failed => decide (l < 6 ∧ failed < 16)
  | .ozlDetectRetry l i => decide (l < 6 ∧ i < 4)
  | .amRx l i b bip _ => decide (l < 6 ∧ i < 4 ∧ b < 18446744073709551616 ∧ bip < 256)
  | .rsRx l b => decide (l < 6 ∧ b < 18446744073709551616)
  | .laneLost l i => decide (l < 6 ∧ i < 4)
  | .dataFlitRx l v => decide (l < 6 ∧ v < 115792089237316195423570985008687907853269984665640564039457584007913129639936)
  | .nakRx l v => decide (l < 6 ∧ v < 115792089237316195423570985008687907853269984665640564039457584007913129639936)
  | .idleFlitRx l v => decide (l < 6 ∧ v < 115792089237316195423570985008687907853269984665640564039457584007913129639936)
  | .timeFlitRx l v arr => decide (l < 6 ∧ v < 115792089237316195423570985008687907853269984665640564039457584007913129639936 ∧ arr < 18446744073709551616)
  | .timeTb0FlitRx l v => decide (l < 6 ∧ v < 115792089237316195423570985008687907853269984665640564039457584007913129639936)
  | .laneDownRx l v => decide (l < 6 ∧ v < 115792089237316195423570985008687907853269984665640564039457584007913129639936)
  | .laneReadyRx l v => decide (l < 6 ∧ v < 115792089237316195423570985008687907853269984665640564039457584007913129639936)
  | .lsEnterRx l v => decide (l < 6 ∧ v < 115792089237316195423570985008687907853269984665640564039457584007913129639936)
  | .lsAckRx l v => decide (l < 6 ∧ v < 115792089237316195423570985008687907853269984665640564039457584007913129639936)
  | .ackTimeout l => decide (l < 6)
  | .recoveryTimeout l => decide (l < 6)
  | .traceCreditTimeout l => decide (l < 6)
  | .fbQueueStale l => decide (l < 6)
  | .laneRetrainDone l i => decide (l < 6 ∧ i < 4)
  | .ozlPmRequest l ls => decide (l < 6 ∧ ls < 4)
  | .lsAutoIdle l => decide (l < 6)
  | .lsExitComplete l => decide (l < 6)
  | .ozlPark l i _ => decide (l < 6 ∧ i < 4)
  | .ozlPrbsCtl l i v => decide (l < 6 ∧ i < 4 ∧ v < 18446744073709551616)
  | .ozlPrbsInj l i => decide (l < 6 ∧ i < 4)
  | .ozlLoopback l lb => decide (l < 6 ∧ lb < 4)
  | .ozlFlitInj l => decide (l < 6)
  | .queueDoorbell q n v => decide (q < 262144 ∧ n < 513 ∧ v < 18446744073709551616)
  | .qmFenceDoorbell q n v => decide (q < 262144 ∧ n < 513 ∧ v < 18446744073709551616)
  | .fenceRecordPlace q => decide (q < 262144)
  | .qmQidxWrite v => decide (v < 18446744073709551616)
  | .qmWrite => true
  | .qmEnable => true
  | .qmDisable => true
  | .qmResume => true
  | .queueDrained q => decide (q < 262144)
  | .descFetch q _ _ => decide (q < 262144)
  | .dmaCopy q i _ => decide (q < 262144 ∧ i < 4294967296)
  | .dmaFence q i => decide (q < 262144 ∧ i < 4294967296)
  | .dmaRqcopy q i => decide (q < 262144 ∧ i < 4294967296)
  | .rqcopyBurst q i => decide (q < 262144 ∧ i < 4294967296)
  | .descComplete q i => decide (q < 262144 ∧ i < 4294967296)
  | .dmaReadFail q i => decide (q < 262144 ∧ i < 4294967296)
  | .resultEntry prod => decide (prod < 262144)
  | .irqTimer q => decide (q < 262144)
  | .qmYqidWrite y v => decide (y < 64 ∧ v < 18446744073709551616)
  | .postedHdrRx l cls p part => decide (l < 6 ∧ cls < 8 ∧ p < 411376139330301510538742295639337626245683966408394965837152256 ∧ part < 8)
  | .postedDataRx l cls p => decide (l < 6 ∧ cls < 8 ∧ p < 411376139330301510538742295639337626245683966408394965837152256)
  | .postedNackRx l p => decide (l < 6 ∧ p < 411376139330301510538742295639337626245683966408394965837152256)
  | .resultFlitRx l p => decide (l < 6 ∧ p < 411376139330301510538742295639337626245683966408394965837152256)
  | .pcieReset => true
  | .spdmGetVersion => true
  | .spdmGetCapabilities => true
  | .spdmNegotiateAlgorithms _ _ => true
  | .spdmGetDigests => true
  | .spdmGetCertificate slot off len => decide (slot < 256 ∧ off < 65536 ∧ len < 65536)
  | .spdmChallenge slot _ => decide (slot < 256)
  | .spdmGetMeasurements index _ => decide (index < 256)
  | .spdmUnsupported => true
  | .shrSeal p => decide (p < 8)
  | .sealComplete p => decide (p < 8)
  | .shrStatement p => decide (p < 8)
  | .shrKeyImport p _ => decide (p < 8)
  | .shrImport p _ => decide (p < 8)
  | .shrExport p => decide (p < 8)
  | .shrRelease p _ => decide (p < 8)
  | .zeroiseComplete p => decide (p < 8)
  | .dbgReq => true
  | .dbgSubmit level => decide (level < 4)
  | .dbgLock => true
  | .dbgScrap level => decide (level < 4)
  | .trimFg i => decide (i < 512)
  | .trimBgNow i => decide (i < 512)
  | .trimFgEnd i _ => decide (i < 464)
  | .calComplete _ => true
  | .trimBgRun => true
  | .trimBgStepEnd i _ => decide (i < 464)
  | .trimApply i => decide (i < 464)
  | .reefSensorConversion i _ => decide (i < 48)
  | .tlevelChange => true
  | .plevelChange => true
  | .reefRailSample _ => true
  | .reefPlimWrite v => decide (v < 18446744073709551616)
  | .sensRetest i _ _ => decide (i < 64)
  | .analogTrip => true
  | .tripRestart => true
  | .faultReport => true
  | .fltDiscard => true
  | .fltLogRpWrite v => decide (v < 18446744073709551616)
  | .fltMark g => decide (g < 64)
  | .fltMarkRelease g => decide (g < 64)
  | .fltTrigCfgWrite i v => decide (i < 16 ∧ v < 18446744073709551616)
  | .trigLevelChange i _ => decide (i < 16)
  | .trigEdgeAccept i => decide (i < 16)
  | .trigEdgeDelivery i => decide (i < 16)
  | .powerGood straps => decide (straps < 65536)
  | .railLoss => true
  | .auxLoss => true
  | .refclkLoss => true
  | .synthLossOfLock => true
  | .synthRelockTry _ => true
  | .synthLockHeld => true
  | .resetNAssert _ => true
  | .resetRelease => true
  | .glbReset v => decide (v < 18446744073709551616)
  | .bootStageComplete r _ _ _ _ => decide (r.cause < 256)
  | .auxPllRetry _ => true
  | .smbBootStsLow => true
  | .smbBootStsHigh => true
  | .smbState => true
  | .smbReefSts => true
  | .smbTripCnt => true
  | .smbZoneTemp z => decide (z < 24)
  | .smbRail r => decide (r < 16)
  | .smbOther => true
  | .tapReset => true
  | .tapIdcode => true
  | .tapDbgStatus => true
  | .tapBypass ir => decide (ir < 256)
  | .dbgAccessNop op => decide (op < 4)
  | .dbgAccessRead _ space _ addr rsvd => decide (space < 2 ∧ addr < 1099511627776 ∧ rsvd < 524288)
  | .dbgAccessWrite _ space addr rsvd data => decide (space < 2 ∧ addr < 1099511627776 ∧ rsvd < 524288 ∧ data < 18446744073709551616)
  | .dbgAccessComplete => true
  | .ratMastHalt y => decide (y < 64)
  | .ratMastStep y => decide (y < 64)
  | .ratMastRelease y => decide (y < 64)
  | .ratWchHalt x _ => decide (x < 8)
  | .ratWchStep x => decide (x < 8)
  | .regReadClear a n => decide (a < 67108864 ∧ n < 513)
  | .biasSlewEnd y => decide (y < 64)
  | .playEnd y t => decide (y < 64 ∧ t < 20)
  | .shrJobEnd p => decide (p < 8)
  | .refclkReturn => true
  | .pcieLinkUp rate width _ => decide (rate < 8 ∧ width < 32)

end Sys2Proof
end

