-- ==== Sys2Proof/Safety.lean ====
section
/-! DEFINITION. What counts as a safe state: the form in which the stores and the register file are kept, and commands that name only what
the part has; and the terms in which the statements say what a command changes and what it leaves. -/

namespace Sys2Proof.Machine

/-- The canonical form of a store of bytes: addresses strictly rising, no entry equal to what an unlisted address reads as. -/
def Memory.wf (m : Store) : Bool := twf m

/-- The register file and its active copies are in canonical form: two files that read alike are the same data. -/
def State.regsWf (s : State) : Bool := swf resetVal s.regs && swf resetVal s.act

/-- Every store of the part is in canonical form: the waveform, sequence, patch, result, graph and capture stores and Winch memory. -/
def State.storesWf (s : State) : Bool :=
  Memory.wf s.hal.wave && Memory.wf s.seq.store && Memory.wf s.seq.patch && Memory.wf s.cnv.res && Memory.wf s.dec.store
    && Memory.wf s.wch.mem

/-- Every command that waits is well formed. -/
def State.queueWf (s : State) : Bool := s.pending.all Instr.wf

/-! ### Frames -/

/-- Every register but those listed reads in `t` as in `s`. -/
def State.keeps (s t : State) (as : List Nat) : Prop := ∀ a, a ∉ as → t.rd a = s.rd a

/-- `t` is `s` but for the registers listed. -/
def State.onlyRegs (s t : State) (as : List Nat) : Prop := { t with regs := s.regs } = s ∧ s.keeps t as

/-- Host software reaches a register: the part answers (R620), no commit covers its page (R83), no seal closes it (R528),
and no SETR has written it in the present ft (R98). -/
def State.opens (s : State) (a : Nat) : Prop :=
  s.barUp = true ∧ s.pageBusy a = false ∧ s.sealedBy a = none ∧ s.setrNow a = false

/-! ### Issue of Mast instructions -/

/-- The instruction word `w` stands at SEQ_PC of a yard and issues now as the instruction `o`: the Mast is in ISSUE and the last
microword falls due (R92), no debug stop (R659), no patched routine (R141), no fault of its decoding (R671), not a place in a
loop where it may not stand (R117). -/
def State.ready (s : State) (y : Nat) (o : MOp) (w : Nat) : Prop :=
  s.word y (s.pc y) = w ∧ s.issues y o = true ∧ s.ratStops y (s.pc y) = false ∧ s.patched y w = none
    ∧ s.decodeErr y (s.pc y) w = 0 ∧ (noBodyEnd o = true → ∀ l ∈ (s.mast y).loops, l.last ≠ s.pc y)

/-- A timed instruction that passes its checks and issues at least 4 ft before its release (R93) and within AHEAD_MAX of it (R94). -/
def State.timely (s : State) (y w : Nat) : Prop :=
  s.issueErr y w = 0 ∧ s.issueTime y + 64 ≤ s.origin y + s.tq y - 256
    ∧ s.origin y + s.tq y - 256 ≤ s.issueTime y + 16 * s.fld (SEQ_CTL y) SEQ_CTL_AHEAD_MAX

/-- `t` is `s` but for registers and the Mast of a yard. -/
def State.onlyMast (s t : State) (y : Nat) : Prop :=
  { t with regs := s.regs, seq := s.seq } = s ∧ { t.seq with masts := s.seq.masts } = s.seq ∧ ∀ z, z ≠ y → t.mast z = s.mast z

/-- The Mast of a yard has moved past the instruction at SEQ_PC: the next index is the one after it or, at the end of a loop body,
the first of the body (R115); the next microword falls one ft later; registers other than SEQ_PC, the LC registers of
active loops and those listed keep their values, and so does everything else that chapters 3 and 4 hold. -/
def State.passed (s t : State) (y : Nat) (as : List Nat) : Prop :=
  t.pc y = (loopEnds y (s.pc y) (s.mast y).loops s).2.1 % 2 ^ 15
    ∧ t.mast y = { s.mast y with loops := (loopEnds y (s.pc y) (s.mast y).loops s).1, clk := s.issueTime y + 16,
                                 outRes := (t.mast y).outRes }
    ∧ (∀ z, z ≠ y → t.mast z = s.mast z) ∧ { t.seq with masts := s.seq.masts } = s.seq
    ∧ s.keeps t (SEQ_PC y :: (s.mast y).loops.map (fun l => SEQ_LC y (l.lc % 4)) ++ as)

/-- The items that `t` holds and that are on their way in it are those of `s` but for the commands of a group (R51). -/
def State.itemsBut (s t : State) (g : Nat) : Prop :=
  (t.bus.held.filter fun i => !i.groupCmd g) = (s.bus.held.filter fun i => !i.groupCmd g)
    ∧ (t.bus.transit.filter fun i => !i.groupCmd g) = (s.bus.transit.filter fun i => !i.groupCmd g)

/-- The hub holds command `c` of a group for release `r`, and it is the one pending (R37, R51). -/
def State.holdsCmd (t : State) (g c r : Nat) : Prop :=
  (t.grp g).cmd = some ⟨c, r⟩ ∧ t.fld (GLB_LSG_STAT g) GLB_LSG_STAT_PENDING = 1
    ∧ (⟨r, islHub, islHub, .ctrl, .group g c⟩ : Item) ∈ t.bus.held

/-- A program fault of a yard at an instruction index (R126): the Mast stops, SEQ_FAULT records code and index, the group's pending
command is an ABORT released at the first ft boundary at least 16 ft later, unless one of no later release was pending, a FAULT record
and a report set out. -/
def State.progFaulted (s t : State) (y pc code : Nat) : Prop :=
  t.rdN (SEQ_FAULT y) = code * 2 ^ 16 + pc % 2 ^ 15 ∧ t.mst y = mSTOPPING ∧ t.fld (SEQ_STS y) SEQ_STS_STAGED = 0
    ∧ (t.mast y).hold = .none ∧ (t.mast y).waitd = none ∧ (t.mast y).sync = none
    ∧ (if (s.grp (s.groupOf y)).cmd.any (fun c => c.cmd == 5 && decide (c.rel ≤ ceilFt (s.tb1 + 256))) = true
        then t.grp (s.groupOf y) = s.grp (s.groupOf y) ∧ t.bus.held = s.bus.held
        else t.holdsCmd (s.groupOf y) 5 (ceilFt (s.tb1 + 256)))
    ∧ s.itemsBut t (s.groupOf y)
    ∧ (∃ r, { t.bus with held := s.bus.held, transit := s.bus.transit }
          = { s.bus with recs := s.bus.recs ++ [r], reports := s.bus.reports ++ [⟨code, true, y, pc⟩] }
        ∧ r.qid = s.yardQ y ∧ r.time = s.tb1 ∧ r.words.getD 2 0 = code % 2 ^ 16 + pc % 2 ^ 15 * 2 ^ 16)
    ∧ { t with regs := s.regs, seq := s.seq, bus := s.bus } = s
    ∧ s.keeps t [SEQ_FAULT y, SEQ_STS y, GLB_LSG_STAT (s.groupOf y)]

/-! ### Winch instructions -/

/-- The word `w` of opcode `op` stands at the PC of a core and is executed now (R375, R396): no breakpoint of Ratline (R663), no
reserved bit set (Table 12-1), and not an instruction at LPE that may not stand there (R386). -/
def State.wGoes (s : State) (x op w : Nat) : Prop :=
  s.wInsn x = w ∧ bits w 31 26 = op ∧ s.wReady x = true ∧ s.wBreak x = false ∧ wRsvd w = false
    ∧ (wNotLast op = true → ¬(s.wLA x = true ∧ s.wPC x = s.wSpr x 0x1A))

/-- The instruction at the PC is the last of the active loop. -/
def State.wLast (s : State) (x : Nat) : Bool := s.wLA x && s.wPC x == s.wSpr x 0x1A

/-- The loop runs once more after it (R384, R385). -/
def State.wAgain (s : State) (x : Nat) : Bool := s.wLast x && (s.wSpr x 0x18 == 0xFFFFF || decide (1 < s.wSpr x 0x18))

/-- A core has moved to the next instruction (R385): the first of the body where the loop runs again, otherwise the one after it; LC
counted down at the end of the body, LA cleared when the loop is left; no other register but those listed has changed. -/
def State.wMoved (s t : State) (x : Nat) (as : List Nat) : Prop :=
  t.wPC x = (if s.wAgain x = true then s.wSpr x 0x19 else s.wPC x + 1) % 2 ^ 17
    ∧ t.wLA x = (s.wLA x && (!s.wLast x || s.wAgain x))
    ∧ t.wSpr x 0x18 = (if s.wLast x = true ∧ s.wSpr x 0x18 ≠ 0xFFFFF then (s.wSpr x 0x18 - 1) % 2 ^ 20 else s.wSpr x 0x18)
    ∧ t.wst x = s.wst x ∧ s.keeps t (WCH_PC x :: WCH_CSTS x :: WCH_REG x 48 :: as)

/-- A fault has stopped a core (R393): FAULTED, with the code and the index of the instruction; nothing else has changed. -/
def State.wStruck (s t : State) (x code : Nat) : Prop :=
  t.wst x = wFAULTED ∧ t.fld (WCH_FAULT x) WCH_FAULT_CODE = code ∧ t.rdN (WCH_FAULT_PC x) = s.wPC x
    ∧ s.onlyRegs t [WCH_CSTS x, WCH_FAULT x, WCH_FAULT_PC x]

/-- The address of an access through pointer `n`, which lies in its ring or has none, is `a`, in local memory (R382, R383). -/
def State.wPoints (s : State) (x n a : Nat) : Prop :=
  (s.wSpr x (0x10 + n) = 0 ∨ s.wSpr x n < s.wSpr x (0x10 + n)) ∧ a = s.wSpr x (0x08 + n) + s.wSpr x n ∧ a < 65536

/-- The value of pointer `n` after an access with STEP (R382): modulo its ring, or 2^16 without one. -/
def State.wStepped (s : State) (x n step : Nat) : Nat :=
  ((((s.wSpr x n : Int) + sgn 8 step) % ((if s.wSpr x (0x10 + n) = 0 then 65536 else s.wSpr x (0x10 + n) : Nat) : Int)).toNat) % 2 ^ 16

/-! ### Device reset -/

/-- `t` is what a device reset leaves (Table 21-3): OFF, LAST_RESET its kind, every other register but those of the always-on domain and
the fuses at its reset value, the blocks and their stores as after reset, the waiting commands kept. -/
def State.resetBy (s t : State) (kind : Nat) : Prop :=
  t.dev = dOFF ∧ t.fld GLB_BOOT_STS GLB_BOOT_STS_LAST_RESET = kind ∧ t.pending = s.pending ∧ t.act = []
    ∧ (∀ a, a ∉ [GLB_BOOT_STS, REEF_TRIP_CNT, REEF_STS, SHR_OKEY, GLB_FW_VER, SHR_STS, GLB_STATE] → t.rd a = resetVal a)
    ∧ { t with regs := [], clock := s.clock, bus := s.bus, hif := s.hif, pwr := s.pwr, reef := s.reef, pending := [] }
        = { State.reset with clock := s.clock, bus := s.bus, hif := s.hif, pwr := s.pwr, reef := s.reef }

end Sys2Proof.Machine
end

