-- ==== Sys2Proof/Certificates/Slice0/Obligations.lean ====
section
/-! DEFINITION. The statements about the part, by chapter; each says the rules it rests on. -/

open Sys2Proof Sys2Proof.Machine

/-- R51 to R53, Table 1-8; that READY or RUN is needed by ARM, START and RESUME is the model's reading of Table 1-9. The second
part is R51's refusal. -/
def Obligations.GroupCommandsArePendingUntilTheirRelease : Prop :=
  (∀ s g c i lead svc, (c, i) ∈ [(1, Instr.lsgArm g svc), (2, .lsgStart g svc), (3, .lsgPause g svc), (4, .lsgResume g svc), (5, .lsgAbort g svc),
      (6, .lsgDisarm g svc)] → g < 64 →
    (if svc = true then (s.grp g).byService.isSome = true ∧ lead = s.tb1 + 640
     else s.opens GLB_LSG_CMD ∧ (c = 5 ∨ (s.grp g).byService = none) ∧ (s.rdN GLB_LSG_REL = 0 ∨ s.tb1 + 2560 ≤ s.rdN GLB_LSG_REL)
      ∧ lead = (if s.rdN GLB_LSG_REL = 0 then s.tb1 + 2560 else s.rdN GLB_LSG_REL)) →
    s.members g ≠ [] → s.tb1Run = true → (c ≠ 5 → (s.grp g).cmd = none ∧ s.gst g ≠ gRECONFIG) →
    ((c = 1 ∧ s.gst g = gIDLE ∧ s.armRefusal g = none) ∨ (c = 2 ∧ s.gst g = gARMED) ∨ (c = 3 ∧ s.gst g = gRUNNING) ∨ (c = 4 ∧ s.gst g = gPAUSED)
      ∨ (c = 5 ∧ s.gst g ≠ gABORTING) ∨ (c = 6 ∧ (s.gst g = gARMED ∨ s.gst g = gPAUSED))) →
    (c = 1 ∨ c = 2 ∨ c = 4 → s.dev = dREADY ∨ s.dev = dRUN) →
    ∃ t, exec i s = .next t ∧ t.grp g = { s.grp g with cmd := some ⟨c, ceilFt lead⟩ }
      ∧ t.rd (GLB_LSG_STAT g) = insF (s.rd (GLB_LSG_STAT g)) GLB_LSG_STAT_PENDING 1
      ∧ (svc = false → t.fld GLB_CMD_STS GLB_CMD_STS_LSG_STATUS = 0)
      ∧ (∀ h, h ≠ g → t.grp h = s.grp h) ∧ (∀ y, t.mast y = s.mast y)
      ∧ t.bus = { s.bus with held := s.bus.held.filter fun j => !j.groupCmd g, transit := (s.bus.transit.filter fun j => !j.groupCmd g) ++ [⟨ceilFt lead, if svc = true then 0x47 else 0x48, 0x40, .ctrl, .group g c⟩] }
      ∧ s.keeps t [GLB_LSG_STAT g, GLB_CMD_STS] ∧ { t with regs := s.regs, seq := s.seq, bus := s.bus } = s) ∧
  (∀ s g c i, (c, i) ∈ [(1, Instr.lsgArm g false), (2, .lsgStart g false), (3, .lsgPause g false), (4, .lsgResume g false),
      (6, .lsgDisarm g false)] → s.opens GLB_LSG_CMD → s.members g ≠ [] → s.tb1Run = true → (s.grp g).cmd ≠ none →
    ∃ t, exec i s = .next t ∧ t.fld GLB_CMD_STS GLB_CMD_STS_LSG_STATUS = 0x110 ∧ s.onlyRegs t [GLB_CMD_STS])

/-- R49, R54, R122, R123 and Table 1-8, with the group's registers and the members' Mast states. -/
def Obligations.GroupCommandReleasesMoveTheGroup : Prop :=
  (∀ s g r, (s.grp g).cmd = some ⟨1, r⟩ → s.atTb1 r = true → s.bus.held.any (fun j => j.groupCmd g) = true → g < 64 → s.gst g = gIDLE → s.armRefusal g = none →
    ∃ t, exec (.armRelease g) s = .next t ∧ t.gst g = gARMED ∧ (t.grp g).cmd = none ∧ t.fld (GLB_LSG_STAT g) GLB_LSG_STAT_PENDING = 0
      ∧ ∀ y ∈ s.members g, t.mst y = mARMED ∧ (t.mast y).ucGov = (s.mast y).ucMap) ∧
  (∀ s g r, (s.grp g).cmd = some ⟨2, r⟩ → s.atTb1 r = true → s.bus.held.any (fun j => j.groupCmd g) = true → g < 64 →
      s.gst g = gARMED → s.hold5 = false →
    ∃ t, exec (.startRelease g) s = .next t ∧ t.gst g = gRUNNING ∧ (t.grp g).cmd = none ∧ (t.grp g).shot = 0
      ∧ ∀ y ∈ s.members g, t.mst y = mISSUE ∧ t.rdN (SEQ_ORIGIN y) = (r + 512) % 2 ^ 64 ∧ t.tq y = 0 ∧ t.rdN (SEQ_SHOT_IDX y) = 0
          ∧ t.pc y = s.fld (SEQ_ENTRY y) SEQ_ENTRY_ENTRY) ∧
  (∀ s g r, (s.grp g).cmd = some ⟨3, r⟩ → s.atTb1 r = true → s.bus.held.any (fun j => j.groupCmd g) = true → g < 64 →
      s.gst g = gRUNNING → (s.grp g).held = false → (s.grp g).t0 = none →
    ∃ t, exec (.pauseRelease g) s = .next t ∧ t.gst g = gPAUSING ∧ t.grp g = { s.grp g with cmd := none } ∧ (∀ y, t.mast y = s.mast y)
      ∧ t.bus = { s.bus with held := s.bus.held.filter fun j => !j.groupCmd g, transit := s.bus.transit.filter fun j => !j.groupCmd g }
      ∧ s.keeps t [GLB_LSG_STAT g] ∧ { t with regs := s.regs, seq := s.seq, bus := s.bus } = s) ∧
  (∀ s g r, (s.grp g).cmd = some ⟨3, r⟩ → s.atTb1 r = true → s.bus.held.any (fun j => j.groupCmd g) = true → g < 64 →
      (s.grp g).held = true →
    ∃ t, exec (.pauseRelease g) s = .next t ∧ t.gst g = gPAUSED ∧ (t.grp g).t0 = none ∧ (t.grp g).held = false
      ∧ (∀ y ∈ s.members g, t.mst y = mPAUSED)) ∧
  (∀ s g r, (s.grp g).cmd = some ⟨4, r⟩ → s.atTb1 r = true → s.bus.held.any (fun j => j.groupCmd g) = true → g < 64 →
      s.gst g = gPAUSED → (s.grp g).replayDue = false →
      (s.grp g).held = false → s.hold5 = false →
    ∃ t, exec (.resumeRelease g) s = .next t ∧ t.gst g = gRUNNING ∧ (t.grp g).cmd = none ∧ (t.grp g).shot = (s.grp g).shot
      ∧ ∀ y ∈ s.members g, t.mst y = mISSUE ∧ t.rdN (SEQ_ORIGIN y) = (r + 512) % 2 ^ 64) ∧
  (∀ s g r, (s.grp g).cmd = some ⟨5, r⟩ → s.atTb1 r = true → s.bus.held.any (fun j => j.groupCmd g) = true → g < 64 →
      s.gst g ≠ gIDLE → s.gst g ≠ gABORTING → (s.grp g).byService = none →
    ∃ t, exec (.abortRelease g) s = .next t
      ∧ t.gst g = (if s.gst g = gARMED ∨ s.gst g = gPAUSED then gIDLE else gABORTING)
      ∧ (t.grp g).cmd = none ∧ (t.grp g).t0 = none ∧ (t.grp g).replayDue = false
      ∧ ∀ y ∈ s.members g, t.mst y = (if s.mst y = mIDLE ∨ s.mst y = mARMED ∨ s.mst y = mPAUSED then mIDLE else mSTOPPING)
          ∧ (t.mast y).waitd = none ∧ (t.mast y).sync = none) ∧
  (∀ s g r, (s.grp g).cmd = some ⟨6, r⟩ → s.atTb1 r = true → s.bus.held.any (fun j => j.groupCmd g) = true → g < 64 →
      (s.gst g = gARMED ∨ s.gst g = gPAUSED) →
    ∃ t, exec (.disarmRelease g) s = .next t ∧ t.gst g = gIDLE ∧ (t.grp g).cmd = none ∧ (t.grp g).t0 = none
      ∧ (∀ y ∈ s.members g, t.mst y = mIDLE))

/-- R49, R123, R124, R125, R128: shots, their ends, and replays. -/
def Obligations.ShotsStartTogetherAndEndWithTheLastMember : Prop :=
  (∀ s g r, (s.grp g).t0 = some r → s.reached r = true → g < 64 → s.hold5 = false → (s.grp g).held = false → s.gst g ≠ gPAUSING →
    ∃ t, exec (.shotStart g) s = .next t ∧ t.gst g = gRUNNING ∧ (t.grp g).t0 = none ∧ (t.grp g).shot = (s.grp g).shot
      ∧ ∀ y ∈ s.members g, t.mst y = mISSUE ∧ t.rdN (SEQ_ORIGIN y) = (r + 512) % 2 ^ 64 ∧ t.tq y = 0
          ∧ t.rdN (SEQ_SHOT_IDX y) = (s.grp g).shot % 2 ^ 64 ∧ t.pc y = s.fld (SEQ_ENTRY y) SEQ_ENTRY_ENTRY
          ∧ (t.mast y).loops = [] ∧ (t.mast y).clk = r) ∧
  (∀ s y g z, g = s.groupOf y → s.mst y = mSHOTEND → (s.mast y).signalled = false → s.shotDone y = true →
      (s.gst g = gRUNNING ∨ s.gst g = gPAUSING) → z ∈ s.members g → z ≠ y → (s.mast z).signalled = false →
    ∃ t, exec (.shotEndSignal y) s = .next t ∧ t.mast y = { s.mast y with signalled := true }
      ∧ t.grp g = { s.grp g with lastEnd := max (s.grp g).lastEnd s.tb1 }
      ∧ t.regs = s.regs ∧ { t with seq := s.seq } = s) ∧
  (∀ s y g, g = s.groupOf y → s.mst y = mSHOTEND → (s.mast y).signalled = false → s.shotDone y = true →
      s.gst g = gRUNNING → (∀ z ∈ s.members g, z ≠ y → (s.mast z).signalled = true) → (s.grp g).rpass = false → (s.grp g).marks = [] →
      (∀ z ∈ s.members g, (s.mast z).endRun = false) → s.runEnds g = false → s.decOf g = [] →
    ∃ t, exec (.shotEndSignal y) s = .next t ∧ (t.mast y).signalled = true
      ∧ (t.grp g).t0 = some (ceilFt (max (s.grp g).lastEnd s.tb1 + 128))
      ∧ (t.grp g).shot = ((s.grp g).shot + 1) % 2 ^ 32 ∧ (t.grp g).attempt = 0 ∧ (∀ a, (∀ z k, a ≠ HAL_TGT_STS z k) → t.rd a = s.rd a)) ∧
  (∀ s g r, (s.grp g).replayDue = true → r = max (ceilFt ((s.grp g).lastEnd + 128)) (ceilFt s.clock.tb1) → s.reached r = true → g < 64 →
      s.causesClear g = true → s.gst g = gRUNNING → s.hold5 = false → (s.grp g).held = false →
    ∃ t, exec (.replayStart g) s = .next t ∧ t.gst g = gRUNNING ∧ (t.grp g).attempt = (s.grp g).attempt + 1 ∧ (t.grp g).replayDue = false
      ∧ (t.grp g).shot = (s.grp g).shot
      ∧ ((t.grp g).rpass = true ↔ ∃ y ∈ s.members g, s.flag (SEQ_CTL y) SEQ_CTL_RST_EN = true)
      ∧ ∀ y ∈ s.members g, t.rdN (SEQ_ORIGIN y) = (r + 512) % 2 ^ 64 ∧ t.rdN (SEQ_REPLAY_TOT y) = min 0xFFFFFFFF (s.rdN (SEQ_REPLAY_TOT y) + 1))

/-- R37, R38, R40, R42, R44: items in transit and held. A hang on the crossing of the hub and a link 0 to 5 resets that link. -/
def Obligations.StampedItemsApplyAtTheirRelease : Prop :=
  (∀ s k i, s.bus.transit[k]? = some i → (s.bus.transit.take k).any (fun j => j.src == i.src && j.dst == i.dst && j.cls == i.cls) = false → s.tb1 ≤ i.rel → ∃ t, exec (.itemArrival k) s = .next t
      ∧ t = { s with bus := { s.bus with transit := s.bus.transit.erase i, held := s.bus.held.takeWhile (fun j => decide (j.rel ≤ i.rel)) ++ i :: s.bus.held.dropWhile (fun j => decide (j.rel ≤ i.rel)) } }) ∧
  (∀ s k i, s.bus.transit[k]? = some i → (s.bus.transit.take k).any (fun j => j.src == i.src && j.dst == i.dst && j.cls == i.cls) = false → i.rel < s.tb1 →
      (∀ a v w x, i.act ≠ .emit a v w x) → (∀ g c, i.act ≠ .group g c) → ∃ t, exec (.itemArrival k) s = .next t
      ∧ t.bus = { s.bus with transit := s.bus.transit.erase i, reports := s.bus.reports ++ [⟨0x114, false, i.dst, i.src⟩] }
      ∧ t.rdN GLB_LATE_CNT = min 0xFFFFFFFF (s.rdN GLB_LATE_CNT + 1) ∧ s.keeps t [GLB_LATE_CNT] ∧ { t with regs := s.regs, bus := s.bus } = s) ∧
  (∀ s k i g c, s.bus.transit[k]? = some i → (s.bus.transit.take k).any (fun j => j.src == i.src && j.dst == i.dst && j.cls == i.cls) = false → i.rel < s.tb1 →
      i.act = .group g c → ∃ t, exec (.itemArrival k) s = .next t
      ∧ t.grp g = { s.grp g with cmd := none } ∧ t.fld (GLB_LSG_STAT g) GLB_LSG_STAT_PENDING = 0 ∧ s.itemsBut t g
      ∧ t.bus.reports = s.bus.reports ++ [⟨0x114, false, i.dst, i.src⟩]
      ∧ t.rdN GLB_LATE_CNT = min 0xFFFFFFFF (s.rdN GLB_LATE_CNT + 1) ∧ s.keeps t [GLB_LATE_CNT, GLB_LSG_STAT g]) ∧
  (∀ s y pc v rel, s.bus.held.find? (fun i => i.dst == y && s.itemDue i) = some ⟨rel, y, y, .ctrl, .timed y pc (.bias v)⟩ → v < 2 ^ 20 → s.biaEn y = true →
    ∃ t, exec (.itemRelease y) s = .next t ∧ t.bus.held = s.bus.held.erase ⟨rel, y, y, .ctrl, .timed y pc (.bias v)⟩
      ∧ t.rdN (BIA_CODE y) = v) ∧
  (∀ s a b cls l, (s.seq.hangs.filter fun h => h.1 ≠ 0x41 + l) = [] → l < 6 → cls < 8 → ((a = 0x40 ∧ b = 0x41 + l) ∨ (a = 0x41 + l ∧ b = 0x40)) →
    ∃ t, exec (.islandHang a b cls) s = .next t ∧ t.rdN GLB_HANG_INFO = a * 2 ^ 24 + b * 2 ^ 16 + cls
      ∧ (∃ p, t.bus.reports = p ++ [⟨0x1510, false, 0x41 + l, 0⟩]) ∧ t.seq.hangs = [(0x41 + l, s.clock.now)])

/-- R55, R56, R548 and Tables 1-9, 1-10 and 3-10. -/
def Obligations.DeviceStateCommandsFollowTheTransitions : Prop :=
  (∀ s, s.opens GLB_STATE_CMD → ∃ t, exec .goSafe s = .next t ∧ t.dev = dSAFE ∧ t.fld GLB_STATE GLB_STATE_SAFE_STATUS = E_FLT_GO_SAFE) ∧
  (∀ s, s.opens GLB_STATE_CMD → s.dev = dSAFE → s.causeCleared = true → ∃ t, exec .leaveSafe s = .next t ∧ t.dev = dCONFIG) ∧
  (∀ s, s.opens GLB_STATE_CMD → ¬ (s.dev = dSAFE ∧ s.causeCleared = true) → ∃ t, exec .leaveSafe s = .next t
      ∧ t.fld GLB_CMD_STS GLB_CMD_STS_STATE_STATUS = E_GLB_DEV_STATE ∧ s.onlyRegs t [GLB_CMD_STS]) ∧
  (∀ s, s.opens GLB_STATE_CMD → s.dev = dREADY → ∃ t, exec .recal s = .next t ∧ t.dev = dCAL ∧ t.fld TRIM_STS TRIM_STS_FG_RUN = 1) ∧
  (∀ s, s.opens GLB_STATE_CMD → s.dev ≠ dREADY → ∃ t, exec .recal s = .next t
      ∧ t.fld GLB_CMD_STS GLB_CMD_STS_STATE_STATUS = E_GLB_DEV_STATE ∧ s.onlyRegs t [GLB_CMD_STS]) ∧
  (∀ s bad, s.dev = dCAL → ∃ t, exec (.calComplete bad) s = .next t ∧ t.dev = dREADY ∧ t.fld TRIM_STS TRIM_STS_FG_RUN = 0) ∧
  (∀ s y g, g = s.groupOf y → s.mst y = mSTOPPING → s.gst g = gABORTING → (s.mast y).outRes = 0 →
      (s.tb1Run = false ∨ (s.grp g).lastEnd + 256 ≤ s.clock.tb1) → s.img.commit = none → y ∈ s.members g →
    ∃ t, exec (.mastStopComplete y) s = .next t ∧ t.mst y = mIDLE
      ∧ t.gst g = (if ∀ z ∈ s.members g, z ≠ y → s.mst z = mIDLE then gIDLE else gABORTING)
      ∧ s.keeps t [SEQ_STS y, GLB_LSG_STAT g, GLB_STATE] ∧ { t with regs := s.regs } = s)

/-- R72 to R79. That IMG_LOAD is told whether the image it finds is a full one is the model's operand (log entry on outside
inputs). -/
def Obligations.ImagesAreStagedCheckedAndCommitted : Prop :=
  (∀ s flash, s.opens IMG_CTL → s.loadCheck false flash (s.rdN IMG_SRC) (s.fld IMG_LEN IMG_LEN_LEN) = 0 → ∃ t, exec (.imgLoad flash false) s = .next t
      ∧ t.ist = iFETCHING ∧ t.fld IMG_STS IMG_STS_STATUS = 0
      ∧ t.img = { s.img with staging := [], held := 0, sigLen := 0, tenant := none, fromFlash := flash, auto_ := false, full := false }
      ∧ s.keeps t [IMG_STS] ∧ { t with regs := s.regs, img := s.img } = s) ∧
  (∀ s flash, s.opens IMG_CTL → s.loadCheck true flash (s.rdN IMG_SRC) (s.fld IMG_LEN IMG_LEN_LEN) = 0 → ∃ t, exec (.imgLoad flash true) s = .next t
      ∧ t.ist = iFETCHING ∧ t.dev = dCONFIG ∧ t.img.staging = [] ∧ t.img.held = 0 ∧ t.img.fromFlash = flash ∧ t.img.full = true) ∧
  (∀ s bs, s.ist = iFETCHING → s.img.held = 0 → bs.length = 64 → s.img.auto_ = false → (∀ p, p < 8 → s.pst p ≠ pZEROISING) →
      ldBytes (stList [] 0 bs) 0x10 4 = s.fld IMG_LEN IMG_LEN_LEN → (s.img.full = true ↔ ldBytes (stList [] 0 bs) 6 1 = 1) → ∃ t, exec (.imgHeaderStaged bs) s = .next t
      ∧ t.img.held = 64 ∧ ldList t.img.staging 0 64 = bs ∧ t.regs = s.regs ∧ { t with img := s.img } = s) ∧
  (∀ s bs, s.ist = iFETCHING → s.img.held = 0 → bs.length = 64 → s.img.auto_ = false → (∀ p, p < 8 → s.pst p ≠ pZEROISING) →
      ldBytes (stList [] 0 bs) 0x10 4 = s.fld IMG_LEN IMG_LEN_LEN → s.img.full = false → ldBytes (stList [] 0 bs) 6 1 = 1 →
      s.dev ≠ dCONFIG → s.dev ≠ dREADY → ∃ t, exec (.imgHeaderStaged bs) s = .next t
      ∧ t.ist = iFAILED ∧ t.fld IMG_STS IMG_STS_STATUS = E_GLB_DEV_STATE ∧ s.keeps t [IMG_STS, IMG_DETAIL]) ∧
  (∀ s bs, s.ist = iFETCHING → (∀ p, p < 8 → s.pst p ≠ pZEROISING) → s.img.held = 64 → bs.length = s.iTotal → bs.take 64 = ldList s.img.staging 0 64 →
    ∃ t, exec (.imgFetchComplete bs) s = .next t ∧ t.ist = iVERIFYING ∧ t.img.held = bs.length ∧ ldList t.img.staging 0 bs.length = bs
      ∧ s.keeps t [IMG_STS] ∧ { t with regs := s.regs, img := s.img } = s) ∧
  (∀ s v, s.ist = iVERIFYING → v = s.imgVerify (ldList s.img.staging 0 s.img.held) → ∃ t, exec .imgVerifyComplete s = .next t
      ∧ (v.1 = 0 → t.ist = iCHECKING ∧ t.img.staging = stList [] 0 v.2.2 ∧ s.keeps t [IMG_STS])
      ∧ (v.1 ≠ 0 → t.ist = iFAILED ∧ t.fld IMG_STS IMG_STS_STATUS = E_IMG_SIG ∧ t.img = s.img ∧ s.onlyRegs t [IMG_STS, IMG_DETAIL])) ∧
  (∀ s, s.ist = iCHECKING → (s.img.auto_ = false ∨ s.iKind ≠ 1 ∨ s.dev = dCONFIG) → ∃ t, exec .imgCheckComplete s = .next t
      ∧ (s.imgCheck = none → (s.img.auto_ = false ∨ s.iKind ≠ 1) → t.ist = iCHECKED ∧ t.fld IMG_STS IMG_STS_STATUS = 0 ∧ s.onlyRegs t [IMG_STS])
      ∧ (s.imgCheck = none → s.img.auto_ = true → s.iKind = 1 → t.ist = iCOMMITTING ∧ t.img.commit.isSome = true)
      ∧ (∀ code cls rec i, s.imgCheck = some (code, cls, rec, i) → code < 2 ^ 16 → t.ist = iFAILED ∧ t.fld IMG_STS IMG_STS_STATUS = code
          ∧ t.rdN IMG_DETAIL = i % 2 ^ 32 * 2 ^ 32 + rec % 2 ^ 16 * 2 ^ 16 + cls % 256 ∧ s.onlyRegs t [IMG_STS, IMG_DETAIL])) ∧
  (∀ s, s.opens IMG_CTL → s.ist = iCHECKED → (s.iKind = 1 → s.dev = dCONFIG) →
      (s.iKind ≠ 1 → (s.dev = dREADY ∨ s.dev = dRUN) ∧ s.scopeBusy = none) → ∃ t, exec .imgCommit s = .next t
      ∧ t.ist = iCOMMITTING ∧ t.fld IMG_STS IMG_STS_STATUS = 0
      ∧ t.img = { s.img with commit := some ⟨s.iKind, s.iScope, s.boundaryIn 16, 0, s.iWords, 0, []⟩ }
      ∧ s.keeps t [IMG_STS] ∧ { t with regs := s.regs, img := s.img } = s) ∧
  (∀ s, s.opens IMG_CTL → iFETCHING ≤ s.ist → s.ist ≤ iCHECKED → ∃ t, exec .imgAbort s = .next t
      ∧ t.ist = iIDLE ∧ t.fld IMG_STS IMG_STS_STATUS = E_IMG_ABORTED ∧ t.img.staging = [] ∧ t.img.held = 0
      ∧ s.keeps t [IMG_STS] ∧ { t with regs := s.regs, img := s.img } = s) ∧
  (∀ s, s.opens IMG_CTL → s.ist = iFAILED → ∃ t, exec .imgClear s = .next t
      ∧ t.ist = iIDLE ∧ t.fld IMG_STS IMG_STS_STATUS = 0 ∧ t.img.staging = [] ∧ t.img.held = 0
      ∧ s.keeps t [IMG_STS] ∧ { t with regs := s.regs, img := s.img } = s)

/-- R71, R74, R79 and R85 with Table 2-13; the words of a full image here address shadowed registers. -/
def Obligations.CommitsPutTheImageInForce : Prop :=
  (∀ s c, s.img.commit = some c → c.kind = 1 → s.dev = dCONFIG → (∀ w ∈ c.words, ∃ b h r, wordReg w.1 = some (b, h, r) ∧ isShd b = true) →
    ∃ t, exec .fullCommitComplete s = .next t ∧ t.dev = dCAL ∧ t.ist = iIDLE ∧ t.fld IMG_STS IMG_STS_STATUS = 0
      ∧ t.rdN IMG_VER = s.iVersion % 2 ^ 64 ∧ t.img.commit = none ∧ t.img.held = 0
      ∧ t.img.owns = s.iOwners.map s.owRange ∧ t.img.allots = s.iAllots.map s.alRange
      ∧ t.img.yards = s.iComps.foldl (fun m o => tput m (s.ycYard o) (s.ycComp o)) []) ∧
  (∀ s c gs, s.img.commit = some c → c.kind = 2 ∨ c.kind = 3 → c.phase = 0 → c.rel ≤ s.clock.now →
      gs = (List.range 64).filter (fun g => (scopeYards c.kind c.scope).any fun y => (s.comp y).present && s.groupOf y == g) →
    ∃ t, exec .pcommitStart s = .next t ∧ t.img.commit = some { c with phase := 1, groups := gs } ∧ (∀ g ∈ gs, t.gst g = gRECONFIG)
      ∧ (∀ g ∈ gs, (t.grp g).cmd = none ∧ (t.grp g).t0 = none)) ∧
  (∀ s c, s.img.commit = some c → c.kind = 2 ∨ c.kind = 3 → c.phase = 1 → c.rel + 1024 ≤ s.clock.now →
    ∃ t, exec .pcommitApply s = .next t
      ∧ t.img.yards = s.iComps.foldl (fun m o => tput m (s.ycYard o) (s.ycComp o)) s.img.yards
      ∧ t.img.owns = s.iOwners.map s.owRange ++ s.img.owns ∧ t.img.allots = s.iAllots.map s.alRange ++ s.img.allots
      ∧ ∃ d, t.img.commit = some d ∧ d.phase = 2 ∧ d.words = c.words ∧ d.next = c.next) ∧
  (∀ s c a v b h r, s.img.commit = some c → c.kind = 2 ∨ c.kind = 3 → c.phase = 2 → c.rel + (96 + c.next) * 16 ≤ s.clock.now →
      c.words[c.next]? = some (a, v) → wordReg a = some (b, h, r) → isShd b = true → r.base ≠ DEM_KSEL 0 0 → ∃ t, exec .pcommitReginitWord s = .next t
      ∧ t.rd b = ((s.rd b &&& ~~~(rwMask b)) ||| (BitVec.ofNat 64 (s.wordVal b h v r) &&& rwMask b)) ∧ t.actRd b = t.rd b
      ∧ t.img.commit = some { c with next := c.next + 1 } ∧ s.keeps t [b] ∧ (∀ x, x ≠ b → t.actRd x = s.actRd x)) ∧
  (∀ s c, s.img.commit = some c → c.kind = 2 ∨ c.kind = 3 → c.phase = 2 → c.words.length ≤ c.next →
      c.rel + (96 + c.words.length) * 16 ≤ s.clock.now → ∃ t, exec .pcommitEnd s = .next t
      ∧ t.ist = iIDLE ∧ t.fld IMG_STS IMG_STS_STATUS = 0 ∧ t.img.commit = none ∧ t.img.held = 0
      ∧ (∀ g ∈ c.groups, g < 64 → s.gst g = gRECONFIG → t.gst g = gIDLE)
      ∧ (∀ y ∈ scopeYards c.kind c.scope, y < 64 → t.rdN (IMG_PVER_YARD y) = s.iVersion % 2 ^ 64)) ∧
  (∀ s c, s.img.commit = some c → c.kind = 4 → c.scope < 6 → c.rel ≤ s.clock.now →
      (∀ w ∈ c.words, ∃ b h r, wordReg w.1 = some (b, h, r) ∧ isShd b = true) → ∃ t, exec .linkCommit s = .next t
      ∧ t.ist = iIDLE ∧ t.img.commit = none ∧ t.rdN (IMG_PVER_LINK c.scope) = s.iVersion % 2 ^ 64
      ∧ t.img.links = s.iLinks.foldl (fun m o => tput m (s.lkLink o) (s.lkCfg o)) s.img.links
      ∧ t.img.yards = s.img.yards ∧ t.img.owns = s.img.owns)

/-- R95, R101, Tables 3-4, 3-5, 3-8 and 16-11: what the instructions without a pin effect do. -/
def Obligations.UntimedInstructionsMoveTheCursorOrRecord : Prop :=
  (∀ s y w, s.ready y .nop w → ∃ t, exec (.nop y 0) s = .next t ∧ s.passed t y [] ∧ { t with regs := s.regs, seq := s.seq } = s) ∧
  (∀ s y w n, s.ready y .wait w → n = s.tq y + 16 * (if bits w 55 55 = 1 then s.g y (bits w 52 48) % 2 ^ 40 else bits w 39 0) →
      n ≤ 2 ^ 48 - 16 → ∃ t, exec (.wait y) s = .next t ∧ t.tq y = n
      ∧ s.passed t y [SEQ_TQ y] ∧ { t with regs := s.regs, seq := s.seq } = s) ∧
  (∀ s y w n, s.ready y .syncAlign w → s.tq y ≤ n → n < s.tq y + 16 * 2 ^ bits w 5 0 → n % (16 * 2 ^ bits w 5 0) = 0 →
      n ≤ 2 ^ 48 - 16 → ∃ t, exec (.syncAlign y) s = .next t ∧ t.tq y = n
      ∧ s.passed t y [SEQ_TQ y] ∧ { t with regs := s.regs, seq := s.seq } = s) ∧
  (∀ s y w, s.ready y .result w → ∃ t, exec (.result y) s = .next t
      ∧ t.bus = { s.bus with recs := s.bus.recs ++ [⟨s.yardQ y, y, s.tb1, [recHead 1 y (s.passMarks (s.groupOf y) (s.grp (s.groupOf y)).pass (s.fld (SEQ_SHOT_IDX y) (0, 32))).1 (s.passMarks (s.groupOf y) (s.grp (s.groupOf y)).pass (s.fld (SEQ_SHOT_IDX y) (0, 32))).2, s.tq y % 2 ^ 64, bits w 55 44 + bits w 33 33 * 2 ^ 16, s.g y (bits w 43 39), if bits w 33 33 = 1 then s.g y (bits w 38 34) else 0, 0, 0, 0], [], false⟩] }
      ∧ (t.mast y).outRes = (s.mast y).outRes + 1 ∧ s.passed t y [] ∧ { t with regs := s.regs, seq := s.seq, bus := s.bus } = s)

/-- R100 and Table 3-5, ALU.FUNC and ALU.IMMB; operands are 48-bit register values. -/
def Obligations.AluMoviGetsWriteTheirLow48Bits : Prop :=
  (∀ s y w, s.ready y .movi w → ∃ t, exec (.movi y) s = .next t ∧ t.g y (bits w 52 48) = bits w 47 0
      ∧ s.passed t y [SEQ_G y (bits w 52 48)] ∧ { t with regs := s.regs, seq := s.seq } = s) ∧
  (∀ s y w, s.ready y .gets w → ∃ t, exec (.gets y) s = .next t
      ∧ (bits w 55 52 = 0 → t.g y (bits w 51 47) = s.rdN (SEQ_SHOT_IDX y) % 2 ^ 48)
      ∧ (bits w 55 52 = 1 → t.g y (bits w 51 47) = (s.grp (s.groupOf y)).attempt % 2 ^ 48)
      ∧ (bits w 55 52 = 2 → t.g y (bits w 51 47) = s.tq y % 2 ^ 48)
      ∧ (bits w 55 52 = 3 → t.g y (bits w 51 47) = y % 2 ^ 48)
      ∧ (bits w 55 52 = 4 → t.g y (bits w 51 47) = (s.mast y).toShot % 2 ^ 48)
      ∧ s.passed t y [SEQ_G y (bits w 51 47)] ∧ { t with regs := s.regs, seq := s.seq } = s) ∧
  (∀ s y w a b, s.ready y .alu w → a = s.g y (bits w 46 42) → a < 2 ^ 48 →
    b = (if bits w 36 36 = 1 then (sgn 32 (bits w 31 0) % 2 ^ 48).toNat else s.g y (bits w 41 37)) → b < 2 ^ 48 →
    ∃ t r, exec (.alu y) s = .next t ∧ t.g y (bits w 51 47) = r
      ∧ (bits w 55 52 = 0 → r = (a + b) % 2 ^ 48)
      ∧ (bits w 55 52 = 1 → (r + b) % 2 ^ 48 = a ∧ r < 2 ^ 48)
      ∧ (bits w 55 52 = 2 → r = a &&& b)
      ∧ (bits w 55 52 = 3 → r = a ||| b)
      ∧ (bits w 55 52 = 4 → r = a ^^^ b)
      ∧ (bits w 55 52 = 5 → r = if b % 64 < 48 then a * 2 ^ (b % 64) % 2 ^ 48 else 0)
      ∧ (bits w 55 52 = 6 → r = if b % 64 < 48 then a / 2 ^ (b % 64) else 0)
      ∧ (bits w 55 52 = 7 → sgn 48 r = sgn 48 a / 2 ^ min (b % 64) 48)
      ∧ (bits w 55 52 = 8 → r = if sgn 48 a ≤ sgn 48 b then a else b)
      ∧ (bits w 55 52 = 9 → r = if sgn 48 b ≤ sgn 48 a then a else b)
      ∧ (bits w 55 52 = 10 → r = a * b % 2 ^ 48)
      ∧ s.passed t y [SEQ_G y (bits w 51 47)] ∧ { t with regs := s.regs, seq := s.seq } = s)

/-- R115, R116, R118 and Tables 3-4 and 3-5: branches and loop starts. -/
def Obligations.BranchesAndLoopsSetThePc : Prop :=
  (∀ s y w, s.ready y .br w → ∃ t, exec (.br y) s = .next t ∧ t.pc y = bits w 14 0
      ∧ t.mast y = { s.mast y with clk := s.issueTime y + 48, loops := (s.mast y).loops.dropWhile fun l => decide (bits w 14 0 < l.first ∨ l.last < bits w 14 0) }
      ∧ s.onlyMast t y ∧ s.keeps t [SEQ_PC y]) ∧
  (∀ s y w b, s.ready y .brc w → b = (if bits w 42 42 = 1 then 0 else s.g y (bits w 47 43)) →
    ∃ t, exec (.brc y) s = .next t ∧ { t with regs := s.regs, seq := s.seq } = s
      ∧ (((bits w 55 53 = 0 ∧ s.g y (bits w 52 48) = b) ∨ (bits w 55 53 = 1 ∧ s.g y (bits w 52 48) ≠ b)
            ∨ (bits w 55 53 = 2 ∧ sgn 48 (s.g y (bits w 52 48)) < sgn 48 b) ∨ (bits w 55 53 = 3 ∧ sgn 48 b ≤ sgn 48 (s.g y (bits w 52 48)))
            ∨ (bits w 55 53 = 4 ∧ s.g y (bits w 52 48) < b) ∨ (bits w 55 53 = 5 ∧ b ≤ s.g y (bits w 52 48))) →
          t.pc y = bits w 14 0 ∧ (t.mast y).clk = s.issueTime y + 48 ∧ s.keeps t [SEQ_PC y]
            ∧ (t.mast y).loops = (s.mast y).loops.dropWhile fun l => decide (bits w 14 0 < l.first ∨ l.last < bits w 14 0))
      ∧ (¬ ((bits w 55 53 = 0 ∧ s.g y (bits w 52 48) = b) ∨ (bits w 55 53 = 1 ∧ s.g y (bits w 52 48) ≠ b)
            ∨ (bits w 55 53 = 2 ∧ sgn 48 (s.g y (bits w 52 48)) < sgn 48 b) ∨ (bits w 55 53 = 3 ∧ sgn 48 b ≤ sgn 48 (s.g y (bits w 52 48)))
            ∨ (bits w 55 53 = 4 ∧ s.g y (bits w 52 48) < b) ∨ (bits w 55 53 = 5 ∧ b ≤ s.g y (bits w 52 48))) → s.passed t y [])) ∧
  (∀ s y w n, s.ready y .loop w → n = (if bits w 53 53 = 1 then s.g y (bits w 52 48) % 2 ^ 20 else bits w 19 0) →
      s.pc y + 1 ≤ bits w 34 20 → (∀ l ∈ (s.mast y).loops, l.lc ≠ bits w 55 54) →
      (∀ l ls, (s.mast y).loops = l :: ls → bits w 34 20 ≤ l.last ∧ l.first ≤ s.pc y + 1) →
      ∃ t, exec (.loop y) s = .next t ∧ t.lc y (bits w 55 54) = n ∧ t.pc y = (s.pc y + 1) % 2 ^ 15
      ∧ t.mast y = { s.mast y with loops := ⟨bits w 55 54, s.pc y + 1, bits w 34 20⟩ :: (s.mast y).loops, clk := s.issueTime y + 16 }
      ∧ s.onlyMast t y ∧ s.keeps t [SEQ_PC y, SEQ_LC y (bits w 55 54)])

/-- R115: the end of a loop body, with the issue clock one ft later (zero issue time for the branch). -/
def Obligations.LoopBodyEndCountsDown : Prop :=
  ∀ s y w l ls, s.ready y .nop w → (s.mast y).loops = l :: ls → l.last = s.pc y → l.first < 2 ^ 15 →
    0 < s.lc y l.lc → s.lc y l.lc ≤ 0xFFFFF →
    ∃ t, exec (.nop y 0) s = .next t ∧ (t.mast y).clk = s.issueTime y + 16
      ∧ (s.lc y l.lc = 0xFFFFF → t.lc y l.lc = 0xFFFFF ∧ t.pc y = l.first ∧ (t.mast y).loops = l :: ls)
      ∧ (1 < s.lc y l.lc → s.lc y l.lc ≠ 0xFFFFF → t.lc y l.lc = s.lc y l.lc - 1 ∧ t.pc y = l.first ∧ (t.mast y).loops = l :: ls)
      ∧ (s.lc y l.lc = 1 → (∀ m ∈ ls, m.last ≠ s.pc y) → t.lc y l.lc = 0 ∧ t.pc y = (s.pc y + 1) % 2 ^ 15 ∧ (t.mast y).loops = ls)

/-- R91, R93 to R96, R103, R105: timed instructions in time. `timely` says that the checks of R671 pass and the release time lies
within the limits of R93 and R94. -/
def Obligations.TimedInstructionsAreHeldForTheirRelease : Prop :=
  (∀ s y w, s.ready y .commit w → s.timely y w → s.tq y ≤ 2 ^ 48 - 16 → ∃ t, exec (.commit y) s = .next t
      ∧ t.ton = { s.ton with hos := s.ton.hos ++ [⟨y, s.origin y + s.tq y - 256, bits w 55 52, false⟩] }
      ∧ t.tq y = s.tq y ∧ s.passed t y [SEQ_TQ y] ∧ { t with regs := s.regs, seq := s.seq, ton := s.ton } = s) ∧
  (∀ s y w n len, s.ready y .play w → s.timely y w → len = s.playLen y (bits w 50 49) (bits w 48 37) →
      n = s.tq y + (if bits w 36 36 = 1 then 16 * len else 0) → n ≤ 2 ^ 48 - 16 → ∃ t, exec (.play y) s = .next t
      ∧ t.bus = { s.bus with held := insItem s.bus.held ⟨s.origin y + s.tq y - 256, y, y, .ctrl, .timed y (s.pc y) (.play (bits w 55 51) (bits w 50 49) (bits w 48 37) (bits w 31 16) len)⟩ }
      ∧ t.hal = { s.hal with reqs := s.hal.reqs ++ [⟨y, bits w 55 51, s.origin y + s.tq y - 256, s.pc y, bits w 50 49, bits w 48 37, bits w 31 16, none⟩] }
      ∧ t.tq y = n ∧ s.passed t y [SEQ_TQ y] ∧ { t with regs := s.regs, seq := s.seq, bus := s.bus, hal := s.hal } = s) ∧
  (∀ s y w n, s.ready y .acq w → s.timely y w → n = s.tq y + (if bits w 47 47 = 1 then 16 * bits w 23 0 else 0) →
      n ≤ 2 ^ 48 - 16 → ∃ t, exec (.acq y) s = .next t
      ∧ t.bus = { s.bus with held := insItem s.bus.held ⟨s.origin y + s.tq y - 256, y, y, .ctrl, .timed y (s.pc y) (.acq (bits w 55 48) (bits w 43 32) (bits w 23 0))⟩ }
      ∧ t.tq y = n ∧ s.passed t y [SEQ_TQ y] ∧ { t with regs := s.regs, seq := s.seq, bus := s.bus } = s) ∧
  (∀ s y w v, s.ready y .frame w → s.timely y w → s.tq y ≤ 2 ^ 48 - 16 →
      v = (if bits w 51 49 = 4 then 0 else if bits w 48 48 = 1 then s.g y (bits w 47 43) % 2 ^ 40 else bits w 39 0) →
      ∃ t, exec (.frame y) s = .next t
      ∧ t.bus = { s.bus with held := insItem s.bus.held ⟨s.origin y + s.tq y - 256, y, y, .ctrl, .timed y (s.pc y) (.frame (bits w 55 52) (bits w 51 49) v)⟩ }
      ∧ t.tq y = s.tq y ∧ s.passed t y [SEQ_TQ y] ∧ { t with regs := s.regs, seq := s.seq, bus := s.bus } = s) ∧
  (∀ s y w, s.ready y .bias w → s.timely y w → s.tq y ≤ 2 ^ 48 - 16 → ∃ t, exec (.bias y) s = .next t
      ∧ t.bus = { s.bus with held := insItem s.bus.held ⟨s.origin y + s.tq y - 256, y, y, .ctrl, .timed y (s.pc y) (.bias (if bits w 53 53 = 1 then s.g y (bits w 52 48) % 2 ^ 20 else bits w 19 0))⟩ }
      ∧ t.tq y = s.tq y ∧ s.passed t y [SEQ_TQ y] ∧ { t with regs := s.regs, seq := s.seq, bus := s.bus } = s) ∧
  (∀ s y w, s.ready y .mark w → s.timely y w → s.tq y ≤ 2 ^ 48 - 16 → ∃ t, exec (.mark y) s = .next t
      ∧ t.bus = { s.bus with held := insItem s.bus.held ⟨s.origin y + s.tq y - 256, y, y, .ctrl, .timed y (s.pc y) (.mark (bits w 55 53) (bits w 52 51) (bits w 23 0))⟩ }
      ∧ t.tq y = s.tq y ∧ s.passed t y [SEQ_TQ y] ∧ { t with regs := s.regs, seq := s.seq, bus := s.bus } = s) ∧
  (∀ s y w, s.ready y .setr w → s.timely y w → s.tq y ≤ 2 ^ 48 - 16 → ∃ t, exec (.setr y) s = .next t
      ∧ t.bus = { s.bus with held := insItem s.bus.held ⟨s.origin y + s.tq y - 256, y, y, .ctrl, .timed y (s.pc y) (.setr (bits w 55 38) (if bits w 37 37 = 1 then s.g y (bits w 36 32) % 2 ^ 32 else bits w 31 0))⟩ }
      ∧ t.tq y = s.tq y ∧ s.passed t y [SEQ_TQ y] ∧ { t with regs := s.regs, seq := s.seq, bus := s.bus } = s)

/-- R93 with the effect of a program fault (R126). -/
def Obligations.LateTimedInstructionIsAProgramFault : Prop :=
  ∀ s y w o i, (o, i) ∈ [(MOp.frame, Instr.frame y), (.bias, .bias y), (.mark, .mark y), (.setr, .setr y), (.commit, .commit y), (.play, .play y), (.acq, .acq y)] → s.ready y o w →
    s.issueErr y w = 0 → 20 ≤ s.fld (SEQ_CTL y) SEQ_CTL_AHEAD_MAX → s.origin y + s.tq y - 256 < s.issueTime y + 64 →
    ∃ t, exec i s = .next t ∧ s.progFaulted t y (s.pc y) 0x310

/-- R108, R110, R114, R119, R120, R124: instructions that wait. -/
def Obligations.WaitsAndStallsBegin : Prop :=
  (∀ s y w, s.ready y .end_ w → ∃ t, exec (.end_ y) s = .next t ∧ t.rd (SEQ_STS y) = insF (s.rd (SEQ_STS y)) SEQ_STS_MSTATE 6
      ∧ t.mast y = { s.mast y with endRun := (s.mast y).endRun || bit w 0, endAt := max (s.mast y).endAt (s.origin y + s.tq y), signalled := false }
      ∧ s.onlyMast t y ∧ s.keeps t [SEQ_STS y]) ∧
  (∀ s y w, s.ready y .syncGroup w → ∃ t, exec (.syncGroup y) s = .next t
      ∧ t.rd (SEQ_STS y) = insF (s.rd (SEQ_STS y)) SEQ_STS_MSTATE 5
      ∧ t.mast y = { s.mast y with clk := s.issueTime y + 16, sync := some ⟨0, 0, 0, s.origin y + s.tq y + 16 * bits w 39 16, s.origin y + s.tq y, s.issueTime y⟩ }
      ∧ s.onlyMast t y ∧ s.keeps t [SEQ_STS y]) ∧
  (∀ s y w, s.ready y .syncTrig w → s.issueErr y w = 0 → ∃ t, exec (.syncTrig y) s = .next t
      ∧ t.rd (SEQ_STS y) = insF (s.rd (SEQ_STS y)) SEQ_STS_MSTATE 5
      ∧ t.mast y = { s.mast y with clk := s.issueTime y + 16, sync := some ⟨1, bits w 52 49, bits w 48 48, s.origin y + s.tq y + 16 * bits w 39 16, s.origin y + s.tq y, s.issueTime y⟩ }
      ∧ s.onlyMast t y ∧ s.keeps t [SEQ_STS y]) ∧
  (∀ s y w, s.ready y .fence w → ∃ t, exec (.fence y) s = .next t
      ∧ t.rd (SEQ_STS y) = insF (s.rd (SEQ_STS y)) SEQ_STS_MSTATE 3
      ∧ t.mast y = { s.mast y with hold := .fence, clk := s.issueTime y + 16 } ∧ s.onlyMast t y ∧ s.keeps t [SEQ_STS y]) ∧
  (∀ s y w, s.ready y .ldd w → s.issueErr y w = 0 → ∃ t, exec (.ldd y) s = .next t
      ∧ t.rd (SEQ_STS y) = insF (s.rd (SEQ_STS y)) SEQ_STS_MSTATE 3
      ∧ t.mast y = { s.mast y with hold := .ldd (bits w 55 46) (bits w 45 41) (s.origin y + s.tq y - 256), clk := s.issueTime y + 16 }
      ∧ s.onlyMast t y ∧ s.keeps t [SEQ_STS y]) ∧
  (∀ s y w fs ts t1 t2, s.ready y .waitd w → s.issueErr y w = 0 → stageRun y s 2 (s.pc y + 1) (s.issueTime y) = (fs, t1, none) →
      stageRun y s 2 (bits w 14 0) t1 = (ts, t2, none) → s.reached t2 = true → ∃ t, exec (.waitd y) s = .next t
      ∧ t.rd (SEQ_STS y) = insF (insF (s.rd (SEQ_STS y)) SEQ_STS_MSTATE 4) SEQ_STS_STAGED (if ts = [] ∧ fs = [] then 0 else 1)
      ∧ t.mast y = { s.mast y with clk := t2 + 16, waitd := some ⟨bits w 55 46, bits w 45 44, bits w 43 42, bit w 41, s.origin y + s.tq y, s.origin y + s.tq y + 16 * bits w 39 16, bits w 14 0, s.pc y, t2, ts, fs⟩ }
      ∧ s.onlyMast t y ∧ s.keeps t [SEQ_STS y])

/-- R94, R114, R119, R120 and Table 3-8: the ends of stalls and waits. Loops may end with the instruction that waited. -/
def Obligations.WaitsAndStallsEnd : Prop :=
  (∀ s y u, (s.mast y).hold = .ahead u → s.reached u = true → ∃ t, exec (.issueStallEnd y) s = .next t
      ∧ t.rd (SEQ_STS y) = insF (s.rd (SEQ_STS y)) SEQ_STS_MSTATE 2
      ∧ (t.mast y).hold = .none ∧ t.issueTime y = max u (16 * (microCount (s.word y (s.pc y)) - 1)) ∧ s.onlyMast t y ∧ s.keeps t [SEQ_STS y]) ∧
  (∀ s y, (s.mast y).hold = .fence → s.fenceOk y = true → (s.mast y).loops = [] → ∃ t, exec (.fenceComplete y) s = .next t
      ∧ t.rd (SEQ_STS y) = insF (s.rd (SEQ_STS y)) SEQ_STS_MSTATE 2 ∧ t.pc y = (s.pc y + 1) % 2 ^ 15
      ∧ t.mast y = { s.mast y with hold := .none, clk := max (s.mast y).clk (ceilFt s.tb1) }
      ∧ s.onlyMast t y ∧ s.keeps t [SEQ_STS y, SEQ_PC y]) ∧
  (∀ s y slot gd u, (s.mast y).hold = .ldd slot gd u → gd < 32 → s.reached u = true → s.slotMay y slot = true → (s.mast y).loops = [] →
      ∃ t, exec (.lddResolve y) s = .next t
      ∧ t.g y gd = s.slotDec slot % 2 ^ 8 + s.slotRel slot % 2 ^ 40 * 2 ^ 8
      ∧ t.rd (SEQ_STS y) = insF (s.rd (SEQ_STS y)) SEQ_STS_MSTATE 2 ∧ t.pc y = (s.pc y + 1) % 2 ^ 15
      ∧ t.mast y = { s.mast y with hold := .none, clk := max (s.mast y).clk u }
      ∧ s.onlyMast t y ∧ s.keeps t [SEQ_STS y, SEQ_PC y, SEQ_G y gd]) ∧
  (∀ s y x e n, (s.mast y).sync = some x → x.mode = 1 → (s.mast y).hold = .none → (s.mast y).loops = [] →
      ((tget s.cnv.trigEv (2 * x.trig + x.edge)).filter fun e => decide (x.at_ ≤ e)).getLast? = some e → s.yardMay y 2 x.trig = true → e + 768 ≤ x.until_ → s.reached (e + 768) = true →
      n = ceilFt (ceilFt (e + 768) - s.origin y) → n ≤ 2 ^ 48 - 16 → ∃ t, exec (.syncSatisfied y) s = .next t
      ∧ t.tq y = n ∧ t.rd (SEQ_STS y) = insF (s.rd (SEQ_STS y)) SEQ_STS_MSTATE 2 ∧ t.pc y = (s.pc y + 1) % 2 ^ 15
      ∧ t.mast y = { s.mast y with sync := none, clk := ceilFt (e + 768) }
      ∧ s.onlyMast t y ∧ s.keeps t [SEQ_STS y, SEQ_PC y, SEQ_TQ y]) ∧
  (∀ s y x m, (s.mast y).sync = some x → x.mode = 0 →
      (∀ z ∈ s.members (s.groupOf y), s.atSyncGroup z = true ∧ s.syncInTime z = true ∧ (s.mast z).clk ≤ s.tb1 + 16
        ∧ (s.mast z).hold = .none ∧ (s.mast z).loops = [] ∧ s.syncCursor z ≤ m ∧ ceilFt (max m (s.tb1 + 768) - s.origin z) ≤ 2 ^ 48 - 16) →
      (m = 0 ∨ ∃ z ∈ s.members (s.groupOf y), s.syncCursor z = m) →
      ∃ t, exec (.syncSatisfied y) s = .next t ∧ ∀ z ∈ s.members (s.groupOf y),
        t.tq z = ceilFt (max m (s.tb1 + 768) - s.origin z) ∧ t.mst z = 2 ∧ (t.mast z).sync = none ∧ t.pc z = (s.pc z + 1) % 2 ^ 15
        ∧ (t.mast z).clk = ceilFt s.tb1 + 256)

/-- R108, R109, R111 to R113, R119 and Table 3-6. `toTarget` says which path a counted decision takes. -/
def Obligations.WaitdTakesThePathOfItsDecision : Prop :=
  (∀ s y x r v d toTarget, s.mst y = 4 → (s.mast y).hold = .none → (s.mast y).waitd = some x → s.slotMay y x.slot = true →
      ((tget s.cnv.rels x.slot).filter fun r => bit r.2 2 && decide (x.from_ ≤ r.1) && decide (r.1 ≤ x.deadline)).getLast? = some (r, v) →
      d = ceilFt r → ¬ (x.lqd = true ∧ bit v 4 = true ∧ x.dflt = 2) →
      (toTarget = true ↔ if x.lqd = true ∧ bit v 4 = true then x.dflt = 1 else v % 4 = x.st ∧ x.st ≠ 3) →
      ((x.stagedT = [] ∧ x.stagedF = []) ∨ x.clk + 32 ≤ d) → (if toTarget = true then x.stagedT else x.stagedF) = [] →
      d + 288 - s.origin y < 2 ^ 48 → x.target < 2 ^ 15 → ∃ t, exec (.waitdResolve y) s = .next t
      ∧ t.tq y = d + 288 - s.origin y ∧ t.pc y = (if toTarget = true then x.target else (x.pc + 1) % 2 ^ 15)
      ∧ t.rd (SEQ_STS y) = insF (insF (s.rd (SEQ_STS y)) SEQ_STS_STAGED 0) SEQ_STS_MSTATE 2
      ∧ (t.mast y).waitd = none ∧ (t.mast y).clk = max (d + 16) (x.clk + 16)
      ∧ s.onlyMast t y ∧ s.keeps t [SEQ_STS y, SEQ_PC y, SEQ_TQ y]) ∧
  (∀ s y x, s.mst y = 4 → (s.mast y).hold = .none → (s.mast y).waitd = some x → (∀ r ∈ tget s.cnv.rels x.slot, ¬ (bit r.2 2 = true ∧ x.from_ ≤ r.1 ∧ r.1 ≤ x.deadline)) →
      s.reached x.deadline = true → x.dflt ≠ 2 → ((x.stagedT = [] ∧ x.stagedF = []) ∨ x.clk + 32 ≤ x.deadline) →
      (if x.dflt = 1 then x.stagedT else x.stagedF) = [] → x.deadline + 288 - s.origin y < 2 ^ 48 → x.target < 2 ^ 15 →
      ∃ t, exec (.waitdDeadline y) s = .next t
      ∧ t.tq y = x.deadline + 288 - s.origin y ∧ t.pc y = (if x.dflt = 1 then x.target else (x.pc + 1) % 2 ^ 15)
      ∧ t.rdN (SEQ_TO_CNT y) = min 0xFFFFFFFF (s.rdN (SEQ_TO_CNT y) + 1) ∧ (t.mast y).toShot = (s.mast y).toShot + 1
      ∧ t.rd (SEQ_STS y) = insF (insF (s.rd (SEQ_STS y)) SEQ_STS_STAGED 0) SEQ_STS_MSTATE 2
      ∧ (t.mast y).waitd = none ∧ s.onlyMast t y ∧ s.keeps t [SEQ_STS y, SEQ_PC y, SEQ_TQ y, SEQ_TO_CNT y]) ∧
  (∀ s y x, s.mst y = 4 → (s.mast y).hold = .none → (s.mast y).waitd = some x → (∀ r ∈ tget s.cnv.rels x.slot, ¬ (bit r.2 2 = true ∧ x.from_ ≤ r.1 ∧ r.1 ≤ x.deadline)) →
      s.reached x.deadline = true → x.dflt = 2 → ∃ t, exec (.waitdDeadline y) s = .next t
      ∧ t.rdN (SEQ_FAULT y) = 0x0A20 * 2 ^ 16 + x.pc % 2 ^ 15 ∧ t.mst y = 8
      ∧ t.rdN (SEQ_TO_CNT y) = min 0xFFFFFFFF (s.rdN (SEQ_TO_CNT y) + 1)) ∧
  (∀ s y x, (s.mast y).sync = some x → x.until_ < s.tb1 → ∃ t, exec (.syncTimeout y) s = .next t
      ∧ s.progFaulted t y (s.pc y) 0x312)

/-- R136 to R144. `ucBusy` says the four cases of E_UC_BUSY; `headerErr` the header checks in order. -/
def Obligations.MicrocodePatchesLoadVerifyAndLeave : Prop :=
  (∀ s y, s.opens (UC_CTL y) → (s.dev = dCONFIG ∨ s.dev = dREADY ∨ s.dev = dRUN) → s.ucBusy y = false → 0 < s.fld (UC_LEN y) UC_LEN_LEN →
      s.fld (UC_LEN y) UC_LEN_LEN ≤ 12288 → s.rdN (UC_SRC y) % 8 = 0 → s.rdN (UC_SRC y) + s.fld (UC_LEN y) UC_LEN_LEN ≤ 2 ^ 64 → ∃ t, exec (.ucLoad y) s = .next t
      ∧ t.ust y = uLOADING ∧ t.fld (UC_STS y) UC_STS_STATUS = 0 ∧ (∃ l, (t.mast y).ucLoad = some l ∧ l.body = false ∧ l.level = s.ust y)
      ∧ (t.mast y).ucMap = (s.mast y).ucMap ∧ s.onlyMast t y ∧ s.keeps t [UC_STS y]) ∧
  (∀ s y, s.opens (UC_CTL y) → (s.dev = dCONFIG ∨ s.dev = dREADY ∨ s.dev = dRUN) → s.ucBusy y = true → ∃ t, exec (.ucLoad y) s = .next t
      ∧ t.ust y = s.ust y ∧ t.fld (UC_STS y) UC_STS_STATUS = E_UC_BUSY ∧ s.onlyRegs t [UC_STS y]) ∧
  (∀ s y bs l, (s.mast y).ucLoad = some l → l.body = false → s.headerErr y bs = 0 → ∃ t, exec (.ucHeaderArrival y bs) s = .next t
      ∧ (t.mast y).ucMap = [] ∧ (∃ m, (t.mast y).ucLoad = some m ∧ m.body = true ∧ m.level = leAt bs 0x0A 2 ∧ m.words = leAt bs 0x0C 2
          ∧ m.crc = leAt bs 0x14 4 ∧ m.maps.length = leAt bs 0x0E 2) ∧ t.regs = s.regs ∧ s.onlyMast t y) ∧
  (∀ s y bs l, (s.mast y).ucLoad = some l → l.body = false → s.headerErr y bs ≠ 0 → l.level < 8 → ∃ t, exec (.ucHeaderArrival y bs) s = .next t
      ∧ (t.mast y).ucLoad = none ∧ (t.mast y).ucMap = (s.mast y).ucMap ∧ t.ust y = l.level
      ∧ t.fld (UC_STS y) UC_STS_STATUS = s.headerErr y bs % 2 ^ 16 ∧ t.seq.patch = s.seq.patch ∧ s.keeps t [UC_STS y]) ∧
  (∀ s y body ecc l, (s.mast y).ucLoad = some l → l.body = true → l.level < 2 ^ 16 → s.ucSealed y = false → l.crc < 2 ^ 64 → ecc < 2 →
      crc32 (ldList (stList s.seq.patch (8192 * y) (body.take (4 * l.words))) (8192 * y) (4 * l.words)) = l.crc →
    ∃ t, exec (.ucBodyComplete y body true ecc) s = .next t
      ∧ t.ust y = uACTIVE ∧ t.fld (UC_VER y) UC_VER_LEVEL = l.level ∧ t.fld (UC_VER y) UC_VER_ROM = s.fld (UC_VER y) UC_VER_ROM
      ∧ t.fld (UC_FLOOR y) UC_FLOOR_FLOOR = max (s.fld (UC_FLOOR y) UC_FLOOR_FLOOR) l.level ∧ t.rdN (UC_CRC y) = l.crc
      ∧ (t.mast y).ucMap = l.maps ∧ (t.mast y).ucLoad = none ∧ (t.mast y).ucGov = (s.mast y).ucGov
      ∧ (∀ a, a < 8192 * y ∨ 8192 * y + 4 * l.words ≤ a → ldByte t.seq.patch a = ldByte s.seq.patch a)
      ∧ (ecc = 1 → t.rdN (UC_ECC_CNT y) = min 0xFFFFFFFF (s.rdN (UC_ECC_CNT y) + 1))
      ∧ s.keeps t ([UC_STS y, UC_VER y, UC_FLOOR y, UC_CRC y] ++ if ecc = 1 then [UC_ECC_CNT y] else [])) ∧
  (∀ s y body ecc l, (s.mast y).ucLoad = some l → l.body = true → ∃ t, exec (.ucBodyComplete y body false ecc) s = .next t
      ∧ t.ust y = uFAILED ∧ t.fld (UC_STS y) UC_STS_STATUS = E_UC_SIG ∧ t.fld (UC_VER y) UC_VER_LEVEL = 0
      ∧ (t.mast y).ucMap = [] ∧ (t.mast y).ucLoad = none
      ∧ (t.mast y).ucWords = l.words ∧ (t.mast y).ucCrc = l.crc ∧ s.keeps t ([UC_STS y, UC_VER y] ++ if ecc = 1 then [UC_ECC_CNT y] else [])) ∧
  (∀ s y, s.opens (UC_CTL y) → s.ucBusy y = false → ∃ t, exec (.ucRomOnly y) s = .next t
      ∧ t.ust y = uNONE ∧ t.fld (UC_STS y) UC_STS_STATUS = 0 ∧ t.fld (UC_VER y) UC_VER_LEVEL = 0 ∧ (t.mast y).ucMap = []
      ∧ s.onlyMast t y ∧ s.keeps t [UC_STS y, UC_VER y]) ∧
  (∀ s y c ecc, s.opens (UC_CTL y) → c = crc32 (ldList s.seq.patch (8192 * y) (4 * (s.mast y).ucWords)) → ecc < 3 → ∃ t, exec (.ucVerify ⟨y, ecc⟩) s = .next t
      ∧ t.rdN (UC_CRC y) = c
      ∧ (ecc < 2 → c = (s.mast y).ucCrc → t.ust y = s.ust y ∧ t.fld (UC_STS y) UC_STS_STATUS = 0)
      ∧ (ecc < 2 → c ≠ (s.mast y).ucCrc → t.ust y = uFAILED ∧ t.fld (UC_STS y) UC_STS_STATUS = E_UC_VERIFY)
      ∧ (ecc = 1 → t.rdN (UC_ECC_CNT y) = min 0xFFFFFFFF (s.rdN (UC_ECC_CNT y) + 1))
      ∧ (ecc = 2 → t.ust y = uFAILED ∧ t.fld (UC_STS y) UC_STS_STATUS = E_UC_ECC_UNCORR)
      ∧ s.onlyRegs t ([UC_STS y, UC_CRC y] ++ if ecc = 1 then [UC_ECC_CNT y] else []))

/-- R149 to R153 and Table 5-2. -/
def Obligations.SegmentTableCommandsAndSampleWrites : Prop :=
  (∀ s y v, s.opens (HAL_SEG_IDX y) → ∃ t, exec (.halSegIdxWrite y v) s = .next t ∧ t.rdN (HAL_SEG_IDX y) = v % 4096
      ∧ t.rdN (HAL_SEG_START y) = (s.seg (quad y) (v % 4096)).start % 2 ^ 64 ∧ t.rdN (HAL_SEG_LEN y) = (s.seg (quad y) (v % 4096)).len % 2 ^ 64
      ∧ t.rdN (HAL_SEG_LOOP y) = (s.seg (quad y) (v % 4096)).count % 2 ^ 64
      ∧ t.rdN (HAL_SEG_LINK y) = ((s.seg (quad y) (v % 4096)).next + if (s.seg (quad y) (v % 4096)).nextEn = true then 4096 else 0) % 2 ^ 64 ∧ (∀ q i, t.seg q i = s.seg q i)
      ∧ s.keeps t [HAL_SEG_IDX y, HAL_SEG_START y, HAL_SEG_LEN y, HAL_SEG_LOOP y, HAL_SEG_LINK y] ∧ { t with regs := s.regs, hal := s.hal } = s) ∧
  (∀ s y i, s.opens (HAL_SEG_CTL y) → i = s.fld (HAL_SEG_IDX y) HAL_SEG_IDX_IDX → s.segStale y i = false → (s.seg (quad y) i).state ≠ .loading →
    ∃ t, exec (.halSegFree y) s = .next t ∧ t.fld (HAL_SEG_STS y) HAL_SEG_STS_STATUS = 0
      ∧ (t.seg (quad y) i).state = (match (s.seg (quad y) i).state with | .active => .draining | .draining => .draining | _ => .free)
      ∧ (∀ q j, (q, j) ≠ (quad y, i) → q < 4 → j < 4096 → t.seg q j = s.seg q j)
      ∧ s.keeps t [HAL_SEG_STS y] ∧ { t with regs := s.regs, hal := s.hal } = s) ∧
  (∀ s y i, s.opens (HAL_SEG_CTL y) → i = s.fld (HAL_SEG_IDX y) HAL_SEG_IDX_IDX → (s.segStale y i = true ∨ (s.seg (quad y) i).state = .loading) →
    ∃ t, exec (.halSegFree y) s = .next t ∧ t.fld (HAL_SEG_STS y) HAL_SEG_STS_STATUS = E_HAL_SEG_BUSY ∧ s.onlyRegs t [HAL_SEG_STS y]) ∧
  (∀ s y i start len count, s.opens (HAL_SEG_CTL y) → i = s.fld (HAL_SEG_IDX y) HAL_SEG_IDX_IDX → s.segStale y i = false →
      ((s.seg (quad y) i).state = .free ∨ (s.seg (quad y) i).state = .ready) → start = s.fld (HAL_SEG_START y) HAL_SEG_START_START →
      len = s.fld (HAL_SEG_LEN y) HAL_SEG_LEN_LEN → count = s.fld (HAL_SEG_LOOP y) HAL_SEG_LOOP_COUNT → start % 8 = 0 → 0 < len → 0 < count →
      start + 8 * len ≤ 2097152 → (∀ p ∈ segPages (quad y) start len, s.yardMay y 0x0A p = true) →
    ∃ t, exec (.halSegArm y) s = .next t ∧ t.fld (HAL_SEG_STS y) HAL_SEG_STS_STATUS = 0
      ∧ (t.seg (quad y) i).state = .ready ∧ (t.seg (quad y) i).start = start ∧ (t.seg (quad y) i).len = len ∧ (t.seg (quad y) i).count = count
      ∧ (t.seg (quad y) i).next = s.fld (HAL_SEG_LINK y) HAL_SEG_LINK_NEXT
      ∧ ((t.seg (quad y) i).nextEn = true ↔ s.fld (HAL_SEG_LINK y) HAL_SEG_LINK_NEXT_EN = 1)
      ∧ s.keeps t [HAL_SEG_STS y] ∧ { t with regs := s.regs, hal := s.hal } = s) ∧
  (∀ s q i v, (∀ p, s.partOfInst 0x0A (512 * q + i / 4096) = some p → s.closed p = false) → s.sampleFree q i = true →
    ∃ t, exec (.storeSampleWrite q i v) s = .next t ∧ ldBytes t.hal.wave (12582912 * q + 6 * i) 6 = v % 2 ^ 48
      ∧ (∀ a, a < 12582912 * q + 6 * i ∨ 12582912 * q + 6 * i + 6 ≤ a → ldByte t.hal.wave a = ldByte s.hal.wave a)
      ∧ t.regs = s.regs ∧ { t with hal := s.hal } = s) ∧
  (∀ s q i v, (∀ p, s.partOfInst 0x0A (512 * q + i / 4096) = some p → s.closed p = false) → s.sampleFree q i = false →
    ∃ t, exec (.storeSampleWrite q i v) s = .next t
      ∧ t.rdN (HAL_WDROP_CNT (16 * q)) = min 0xFFFFFFFF (s.rdN (HAL_WDROP_CNT (16 * q)) + 1) ∧ s.onlyRegs t [HAL_WDROP_CNT (16 * q)])

/-- R156 to R164, R166 and R167. `badDue` says that a read error told for a later sample falls due: none does here but the one
named. -/
def Obligations.PlaysAreCapturedChainedJumpedAndEnded : Prop :=
  (∀ s y t₀ r, s.capReq y t₀ = some r → s.playCheck y r.src r.id = 0 → (∀ p, (s.tgt y t₀).play = some p → p.badDue s.tb1 = false) →
      s.hal.reqs.all (fun q => match q.cap with | some p => !p.badDue s.tb1 | none => true) = true → ∃ t, exec (.playCapture y t₀ none) s = .next t
      ∧ (∃ q ∈ t.hal.reqs, q.y = y ∧ q.tgt = t₀ ∧ q.r = r.r ∧ q.cap = some (s.captured r))
      ∧ (r.src = 0 → (t.seg (quad y) r.id).state = .active ∧ (t.seg (quad y) r.id).users = (s.seg (quad y) r.id).users + 1)
      ∧ t.regs = s.regs ∧ { t with hal := s.hal } = s) ∧
  (∀ s y t₀ r, s.capReq y t₀ = some r → s.playCheck y r.src r.id ≠ 0 → ∃ t,
      exec (.playCapture y t₀ none) s = .next t ∧ t.mst y = mSTOPPING ∧ t.hal.reqs.length + 1 = s.hal.reqs.length
      ∧ t.rdN (SEQ_FAULT y) = s.playCheck y r.src r.id % 2 ^ 16 * 2 ^ 16 + r.pc % 2 ^ 15) ∧
  (∀ s y t₀ r, s.capReq y t₀ = some r → s.playCheck y r.src r.id = 0 → r.src ≠ 1 → (s.tgt y t₀).play = none →
      s.hal.reqs.all (fun q => match q.cap with | some p => !p.badDue s.tb1 | none => true) = true → ∃ t,
      exec (.playCapture y t₀ (some 0)) s = .next t ∧ t.mst y = mSTOPPING
      ∧ t.rdN (SEQ_FAULT y) = E_HAL_ECC_UNCORR * 2 ^ 16 + r.pc % 2 ^ 15) ∧
  (∀ s y t₀ p, (s.tgt y t₀).play = some p → p.src = 0 → p.plan = none → s.reached (p.bound - 48 + 15) = true → p.badDue s.tb1 = false →
      s.hal.reqs.all (fun q => match q.cap with | some p => !p.badDue s.tb1 | none => true) = true →
      (∀ c i, s.boundaryGoal y t₀ p ≠ .fail c i) → ∃ t, exec (.segBoundary y t₀ none) s = .next t
      ∧ (t.tgt y t₀).play = some { p with plan := some (s.boundaryGoal y t₀ p) } ∧ (t.tgt y t₀).jump = (s.tgt y t₀).jump
      ∧ t.regs = s.regs ∧ { t with hal := s.hal } = s) ∧
  (∀ s y t₀ p, (s.tgt y t₀).play = some p → p.src = 0 → p.plan = some .again → s.reached p.bound = true → s.playDue y t₀ p.bound = false →
      (s.tgt y t₀).jump = none → ∃ t, exec (.segBoundary y t₀ none) s = .next t
      ∧ (t.tgt y t₀).play = some { p with passes := p.passes.map (· - 1), bound := p.bound + 128 * p.entry.len, plan := none }
      ∧ t.regs = s.regs ∧ { t with hal := s.hal } = s) ∧
  (∀ s y t₀ p, (s.tgt y t₀).play = some p → p.src = 0 → p.plan = some .stop → s.reached p.bound = true → s.playDue y t₀ p.bound = false →
      (s.tgt y t₀).jump = none → t₀ < 20 →
    ∃ t, exec (.segBoundary y t₀ none) s = .next t ∧ (t.tgt y t₀).play = none ∧ t.fld (HAL_TGT_STS y t₀) HAL_TGT_STS_TSTATE = tIDLE
      ∧ (t.mast y).endAt = max (s.mast y).endAt (p.bound + 256) ∧ (t.seg (quad y) p.id).users = (s.seg (quad y) p.id).users - 1
      ∧ s.keeps t [HAL_TGT_STS y t₀, TON_TSTS y t₀]) ∧
  (∀ s y t₀ v p, s.opens (HAL_JUMP y t₀) → t₀ < 20 → (s.tgt y t₀).play = some p → p.src = 0 → ∃ t, exec (.halJumpWrite y t₀ v) s = .next t
      ∧ (t.tgt y t₀).jump = some ⟨bit v 12, v % 4096, s.tb1, decide (s.tb1 < p.bound) && decide (p.bound < s.tb1 + 64)⟩
      ∧ (t.tgt y t₀).play = some p
      ∧ (s.tb1 < p.bound ∧ p.bound < s.tb1 + 64 → t.rdN (HAL_JLATE_CNT y) = min 0xFFFFFFFF (s.rdN (HAL_JLATE_CNT y) + 1))
      ∧ (¬ (s.tb1 < p.bound ∧ p.bound < s.tb1 + 64) → s.keeps t [HAL_JUMP y t₀, HAL_TGT_STS y t₀, HAL_JDROP_CNT y])
      ∧ t.fld (HAL_TGT_STS y t₀) HAL_TGT_STS_JPEND = 1 ∧ t.rdN (HAL_JUMP y t₀) = v % 2 ^ 13
      ∧ s.keeps t [HAL_JUMP y t₀, HAL_TGT_STS y t₀, HAL_JDROP_CNT y, HAL_STS y, HAL_JLATE_CNT y] ∧ { t with regs := s.regs, hal := s.hal } = s) ∧
  (∀ s y t₀ v, s.opens (HAL_JUMP y t₀) → t₀ < 20 → (s.tgt y t₀).play = none → ∃ t, exec (.halJumpWrite y t₀ v) s = .next t
      ∧ t.rdN (HAL_JDROP_CNT y) = min 0xFFFFFFFF (s.rdN (HAL_JDROP_CNT y) + 1) ∧ s.onlyRegs t [HAL_JUMP y t₀, HAL_JDROP_CNT y]) ∧
  (∀ s y t₀ p, (s.tgt y t₀).play = some p → p.src ≠ 0 → p.plan = none → s.starvedTgt y t₀ = false → s.reached p.stop = true → t₀ < 20 →
    ∃ t, exec (.playEnd y t₀) s = .next t ∧ (t.tgt y t₀).play = none ∧ t.fld (HAL_TGT_STS y t₀) HAL_TGT_STS_TSTATE = tIDLE
      ∧ (t.mast y).endAt = max (s.mast y).endAt (p.stop + 256)
      ∧ s.keeps t [HAL_TGT_STS y t₀, TON_TSTS y t₀] ∧ { t with regs := s.regs, hal := s.hal, seq := s.seq } = s) ∧
  (∀ s y t₀ p, (s.tgt y t₀).play = some p → p.src ≠ 0 → s.starvedTgt y t₀ = true → s.reached p.stop = true →
    ∃ t, exec (.playEnd y t₀) s = .next t ∧ (t.tgt y t₀).play = none ∧ t.regs = s.regs
      ∧ (t.mast y).endAt = max (s.mast y).endAt (p.stop + 256) ∧ { t with hal := s.hal, seq := s.seq } = s)

/-- R171 to R175, R177, R181 to R183, R665 and R670. -/
def Obligations.StreamsAndMarkersMoveOn : Prop :=
  (∀ s y c v e, s.opens (HAL_STR_CTL y c) → c < 2 → bit v 31 = true → s.yIdle y = true → s.flag (HAL_STR_CTL y c) HAL_STR_CTL_EN = false →
      e = s.seg (quad y) (bits v 11 0) → e.state = .ready → 0 < bits v 27 16 → e.len % bits v 27 16 = 0 → 2 * bits v 27 16 ≤ e.len →
      s.yardMay y 6 (s.fld (HAL_STR_QID y c) (0, 18)) = true → v < 2 ^ 32 → ∃ t, exec (.strStart y c v) s = .next t
      ∧ t.fld (HAL_STR_CTL y c) HAL_STR_CTL_EN = 1 ∧ t.fld (HAL_STR_CTL y c) HAL_STR_CTL_BLK = bits v 27 16
      ∧ t.fld (HAL_STR_CTL y c) HAL_STR_CTL_RING = bits v 11 0 ∧ t.fld (HAL_STR_STS y c) HAL_STR_STS_RUNNING = 1
      ∧ t.fld (HAL_STR_STS y c) HAL_STR_STS_STATUS = 0 ∧ (t.seg (quad y) (bits v 11 0)).state = .active
      ∧ (t.seg (quad y) (bits v 11 0)).users = e.users + 1 ∧ (t.strm y c).ringBlocks = e.len / bits v 27 16 ∧ (t.strm y c).wp = 0
      ∧ s.keeps t [HAL_STR_CTL y c, HAL_STR_STS y c] ∧ { t with regs := s.regs, hal := s.hal } = s) ∧
  (∀ s y c v, s.opens (HAL_STR_CTL y c) → c < 2 → s.yIdle y = true → s.flag (HAL_STR_STS y c) HAL_STR_STS_RUNNING = true → bit v 31 = false →
    ∃ t, exec (.strStop y c v) s = .next t ∧ t.fld (HAL_STR_CTL y c) HAL_STR_CTL_EN = 0 ∧ t.rdN (HAL_STR_STS y c) = 0
      ∧ t.strm y c = default
      ∧ t.seg (quad y) (s.strm y c).ringSeg = (s.seg (quad y) (s.strm y c).ringSeg).endUse
      ∧ s.keeps t [HAL_STR_CTL y c, HAL_STR_STS y c] ∧ { t with regs := s.regs, hal := s.hal, bus := s.bus } = s) ∧
  (∀ s y c v, s.opens (HAL_STR_CTL y c) → c < 2 → s.yIdle y = true → s.flag (HAL_STR_STS y c) HAL_STR_STS_RUNNING = false → bit v 31 = false →
    ∃ t, exec (.strStop y c v) s = .next t ∧ t.rdN (HAL_STR_CTL y c) = bits v 27 16 * 2 ^ 16 + bits v 11 0 ∧ s.onlyRegs t [HAL_STR_CTL y c]) ∧
  (∀ s y c v, s.opens (HAL_STR_CTL y c) → c < 2 → s.yIdle y = false → s.flag (HAL_STR_CTL y c) HAL_STR_CTL_EN = true → bit v 31 = false →
    ∃ t, exec (.strStop y c v) s = .next t ∧ t.rdN (HAL_WDROP_CNT y) = min 0xFFFFFFFF (s.rdN (HAL_WDROP_CNT y) + 1)
      ∧ t.fld (HAL_STR_STS y c) HAL_STR_STS_STATUS = E_HAL_STR_STATE ∧ s.onlyRegs t [HAL_WDROP_CNT y, HAL_STR_STS y c]) ∧
  (∀ s y c n rel src dst cls, c < 2 → s.bus.held.find? (fun i => match i.act with | .batch y' c' _ => y' == y && c' == c && s.due i.rel | _ => false)
        = some ⟨rel, src, dst, cls, .batch y c n⟩ → ∃ t, exec (.strBlockAvailable y c) s = .next t
      ∧ t.strm y c = { s.strm y c with wp := (s.strm y c).wp + n, skip := (s.strm y c).skip - min n (s.strm y c).skip, coming := (s.strm y c).coming - n }
      ∧ t.rdN (HAL_STR_SKIP_CNT y c) = min 0xFFFFFFFF (s.rdN (HAL_STR_SKIP_CNT y c) + min n (s.strm y c).skip)
      ∧ t.bus.held = s.bus.held.erase ⟨rel, src, dst, cls, .batch y c n⟩ ∧ s.keeps t [HAL_STR_SKIP_CNT y c]) ∧
  (∀ s y c u n, s.bus.held = [] → s.hal.batches = [(u, y, c, n)] → u ≤ s.clock.now → ∃ t, exec (.strBlockAvailable y c) s = .next t
      ∧ (t.strm y c).wp = (s.strm y c).wp + n ∧ t.hal.batches = [] ∧ s.keeps t [HAL_STR_SKIP_CNT y c]) ∧
  (∀ s y t₀ r, s.hal.reqs.find? (fun q => q.y == y && q.tgt == t₀ && s.addressing q) = some r →
      s.hal.reqs.find? (fun q => q.y == y && q.id == r.id && s.addressing q) = some r → r.id < 2 → (s.strm y r.id).starved = none →
      (s.strm y r.id).rp < (s.strm y r.id).wp → ∃ t, exec (.streamBlockAddress y t₀) s = .next t
      ∧ t.strm y r.id = { s.strm y r.id with rp := (s.strm y r.id).rp + 1 }
      ∧ (∃ q ∈ t.hal.reqs, q.y = y ∧ q.tgt = t₀ ∧ q.r = r.r ∧ q.cap = r.cap.map fun p => { p with block := (s.strm y r.id).rp + 1 })
      ∧ s.keeps t [HAL_STR_STS y r.id] ∧ { t with regs := s.regs, hal := s.hal } = s) ∧
  (∀ s y t₀ r, s.hal.reqs.find? (fun q => q.y == y && q.tgt == t₀ && s.addressing q) = some r →
      s.hal.reqs.find? (fun q => q.y == y && q.id == r.id && s.addressing q) = some r → r.id < 2 → (s.strm y r.id).starved = none →
      (s.strm y r.id).wp ≤ (s.strm y r.id).rp → ∃ t, exec (.streamBlockAddress y t₀) s = .next t
      ∧ t.strm y r.id = { s.strm y r.id with rp := (s.strm y r.id).rp + 1, starved := some r.r }
      ∧ t.fld (HAL_STR_STS y r.id) HAL_STR_STS_STARVED = 1
      ∧ t.rdN (HAL_STR_UNDER_CNT y r.id) = min 0xFFFFFFFF (s.rdN (HAL_STR_UNDER_CNT y r.id) + 1)
      ∧ (t.grp (s.groupOf y)).marks = (s.grp (s.groupOf y)).marks ++ [E_HAL_UNDERRUN]
      ∧ t.bus.reports = s.bus.reports ++ [⟨E_HAL_UNDERRUN, false, y, r.id⟩]
      ∧ s.keeps t [HAL_STR_STS y r.id, HAL_STS y, HAL_STR_UNDER_CNT y r.id]) ∧
  (∀ s pin τ up y rest, (s.pin pin).edges = (τ, up, y) :: rest → (∀ l, (s.pin pin).lowAt = some l → τ < l) → τ / 8 ≤ s.clock.now →
      (s.pin pin).level ≠ up → (∀ l, (s.pin pin).last = some l → l + 64 ≤ τ) → ∃ t, exec (.markerEdge pin) s = .next t
      ∧ t.pin pin = { s.pin pin with edges := rest, level := up, last := some τ } ∧ t.regs = s.regs ∧ { t with hal := s.hal } = s) ∧
  (∀ s pin τ up y rest, (s.pin pin).edges = (τ, up, y) :: rest → (∀ l, (s.pin pin).lowAt = some l → τ < l) → τ / 8 ≤ s.clock.now →
      (s.pin pin).level = up → ∃ t, exec (.markerEdge pin) s = .next t
      ∧ t.pin pin = { s.pin pin with edges := rest } ∧ t.regs = s.regs ∧ { t with hal := s.hal } = s) ∧
  (∀ s pin τ up y rest l, (s.pin pin).edges = (τ, up, y) :: rest → (∀ k, (s.pin pin).lowAt = some k → τ < k) → τ / 8 ≤ s.clock.now →
      (s.pin pin).level ≠ up → (s.pin pin).last = some l → τ < l + 64 → ∃ t, exec (.markerEdge pin) s = .next t
      ∧ t.pin pin = { s.pin pin with edges := rest }
      ∧ t.rdN (HAL_MRK_COLL_CNT y) = min 0xFFFFFFFF (s.rdN (HAL_MRK_COLL_CNT y) + 1) ∧ t.flag (HAL_STS y) HAL_STS_MRK_COLL = true
      ∧ s.keeps t [HAL_MRK_COLL_CNT y, HAL_STS y] ∧ { t with regs := s.regs, hal := s.hal } = s) ∧
  (∀ s pin l, (s.pin pin).edges = [] → (s.pin pin).lowAt = some l → l / 8 ≤ s.clock.now → ∃ t, exec (.markerEdge pin) s = .next t
      ∧ (t.pin pin).level = false ∧ (t.pin pin).lowAt = none ∧ t.regs = s.regs ∧ { t with hal := s.hal } = s) ∧
  (∀ s pin, s.dev ≠ dRUN → (s.pin pin).level = true → (s.pin pin).edges = [] → (s.pin pin).lowAt = none →
      (∀ l, (s.pin pin).last = some l → l + 64 ≤ s.clock.now * 8) → ∃ t, exec (.markerRunExitLow pin) s = .next t
      ∧ (t.pin pin).level = false ∧ t.regs = s.regs ∧ { t with hal := s.hal } = s)

/-- R185, R196, R197, R201, R202, R205, R206, R207, R210, R211, R213 and Tables 6-4 and 6-6. -/
def Obligations.FramesShadowsAndHandOverCommands : Prop :=
  (∀ s y i t x z ctx, s.corrDue y = some i → i.act = .corr y t x z ctx → t < 8 → s.tgtEn y t = true → ∃ u, exec (.pfCorrection y) s = .next u
      ∧ u.fx y t = (s.fx y t != x) ∧ u.fz y t = (s.fz y t != z) ∧ u.bus = { s.bus with held := s.bus.held.erase i }
      ∧ u.ton = { s.ton with pf := ⟨s.clock.tb1 / 16, y, t, x, z⟩ :: s.ton.pf.filter fun c => c.at_ == s.clock.tb1 / 16 }
      ∧ s.keeps u [TON_PF y t] ∧ { u with regs := s.regs, ton := s.ton, bus := s.bus } = s) ∧
  (∀ s y i t x z ctx, s.corrDue y = some i → i.act = .corr y t x z ctx → (8 ≤ t ∨ s.tgtEn y t = false) →
    ∃ u, exec (.pfCorrection y) s = .next u ∧ u.flag (TON_STS y) TON_STS_PF_REJ = true
      ∧ u.rdN DEC_PF_REJ_CNT = min 0xFFFFFFFF (s.rdN DEC_PF_REJ_CNT + 1) ∧ u.bus = { s.bus with held := s.bus.held.erase i }
      ∧ s.keeps u [TON_STS y, DEC_PF_REJ_CNT] ∧ { u with regs := s.regs, bus := s.bus } = s) ∧
  (∀ s y off v a c, a = 0x1000000 + 0x40000 * y + off → c < 4 → a ∈ shdRegs y c → isShd a = true → s.opens a → txpOdd y a = false →
      shdCheck y a v = 0 → s.shSt y c ≠ shSEALED → ∃ t, exec (.shadowWrite y off v) s = .next t
      ∧ t.rdN a = v % 2 ^ 64 ∧ t.shSt y c = shOPEN ∧ t.act = s.act ∧ s.keeps t [a, TON_SHD_STS y, TON_SHD_CTL y, TON_SHADOW_LATE y]
      ∧ { t with regs := s.regs } = s) ∧
  (∀ s y off v a c, a = 0x1000000 + 0x40000 * y + off → c < 4 → a ∈ shdRegs y c → isShd a = true → s.opens a → txpOdd y a = false →
      shdCheck y a v = 0 → s.shSt y c = shSEALED → ∃ t, exec (.shadowWrite y off v) s = .next t
      ∧ t.rdN (TON_SHD_REJ_CNT y) = min 0xFFFFFFFF (s.rdN (TON_SHD_REJ_CNT y) + 1) ∧ s.onlyRegs t [TON_SHD_REJ_CNT y, TON_STS y]) ∧
  (∀ s y v, s.opens (TON_SHD_CTL y) → ∃ t, exec (.tonShdCtlWrite y v) s = .next t
      ∧ (∀ c, c < 4 → t.shSt y c = if bit v c = true then (if s.shSt y c = shOPEN then shSEALED else s.shSt y c)
          else (if s.shSt y c = shSEALED then shOPEN else s.shSt y c))
      ∧ t.fld (TON_SHD_CTL y) TON_SHD_CTL_SEAL_EN = bits v 7 4 ∧ s.onlyRegs t [TON_SHD_CTL y, TON_SHD_STS y, TON_SHADOW_LATE y]) ∧
  (∀ s y m h, s.opens (TON_HO_CMD y) → m % 16 ≠ 0 → s.tb1Run = true → s.flag (TON_HO_STS y) TON_HO_STS_PENDING = false →
      (s.rdN (TON_HO_REL y) = 0 ∨ s.tb1 + 2560 ≤ s.rdN (TON_HO_REL y)) →
      h = ceilFt (if s.rdN (TON_HO_REL y) = 0 then s.tb1 + 2560 else s.rdN (TON_HO_REL y)) → ∃ t, exec (.tonHoCmd y m) s = .next t
      ∧ t.ton = { s.ton with hos := s.ton.hos ++ [⟨y, h, m % 16, true⟩] } ∧ t.flag (TON_HO_STS y) TON_HO_STS_PENDING = true
      ∧ t.fld (TON_HO_STS y) (16, 16) = 0 ∧ s.keeps t [TON_HO_STS y] ∧ { t with regs := s.regs, ton := s.ton } = s) ∧
  (∀ s y m, s.opens (TON_HO_CMD y) → m % 16 ≠ 0 → s.tb1Run = true → s.flag (TON_HO_STS y) TON_HO_STS_PENDING = true →
    ∃ t, exec (.tonHoCmd y m) s = .next t ∧ t.fld (TON_HO_STS y) (16, 16) = E_TON_HO_BUSY ∧ t.flag (TON_HO_STS y) TON_HO_STS_PENDING = true
      ∧ s.onlyRegs t [TON_HO_STS y]) ∧
  (∀ s k i ts y cfg v code, k < 2 → y = outYard k i → y < 64 →
      cfg = s.actAt y 0 (if k = 0 then TON_TXD_CFG y else TON_TXP_CFG y) (s.tb1 - interpDelay + 256) →
      v = summerRaw (ts.map fun p => s.toneOut p.1 p.2) (getF cfg TON_TXD_CFG_OUT_SHIFT) →
      code = (if getF cfg TON_TXD_CFG_MUTE = 1 then 0 else max (-8191) (min 8191 v)) →
    tget (outTick k i ts s).ton.fed (64 * k + i) = code
      ∧ (outTick k i ts s).ton.line = s.ton.line ++ (if tget s.ton.fed (64 * k + i) = code then [] else [(s.clock.now + 256 - interpDelay, 64 * k + i, code)])
      ∧ (outTick k i ts s).rdN (if k = 0 then TON_TXD_CLIP_CNT y else TON_TXP_CLIP_CNT y)
          = (if -8191 ≤ v ∧ v ≤ 8191 then s.rdN (if k = 0 then TON_TXD_CLIP_CNT y else TON_TXP_CLIP_CNT y)
             else min 0xFFFFFFFF (s.rdN (if k = 0 then TON_TXD_CLIP_CNT y else TON_TXP_CLIP_CNT y) + 1))
      ∧ s.keeps (outTick k i ts s) [if k = 0 then TON_TXD_CLIP_CNT y else TON_TXP_CLIP_CNT y, TON_STS y]
      ∧ { outTick k i ts s with regs := s.regs, ton := s.ton } = s)

/-- R231, R232, R234, R238 to R242. -/
def Obligations.BiasSourcesTakeCodesAndReportLoads : Prop :=
  (∀ s y v, s.opens (BIA_CODE y) → s.biaEn y = true → s.flag (BIA_STS y) BIA_STS_LATCHED = false → s.trimBad (0x160 + y) = false →
      (s.dev = dREADY ∨ s.dev = dRUN) → ∃ t, exec (.biaCodeWrite y v) s = .next t
      ∧ t.rdN (BIA_CODE y) = v % 2 ^ 20 ∧ t.rd (BIA_ACT y) = s.rd (BIA_ACT y) ∧ t.fld (BIA_STS y) BIA_STS_BSTATE = 2
      ∧ (t.fld (BIA_STS y) BIA_STS_SLEWING = 1 ↔ sgn 20 (s.rdN (BIA_ACT y)) ≠ sgn 20 v) ∧ s.onlyRegs t [BIA_CODE y, BIA_STS y]) ∧
  (∀ s y v, s.barUp = true → s.pageBusy (BIA_CODE y) = false → s.sealedBy (BIA_CODE y) = none → s.setrNow (BIA_CODE y) = true → ∃ t, exec (.biaCodeWrite y v) s = .next t ∧ s.onlyRegs t []) ∧
  (∀ s y, s.biaAct y = s.biaTarget y → ∃ t, exec (.biasSlewEnd y) s = .next t ∧ t.fld (BIA_STS y) BIA_STS_SLEWING = 0
      ∧ s.onlyRegs t [BIA_STS y]) ∧
  (∀ s y, s.biaEn y = true → s.fld (BIA_STS y) BIA_STS_LOAD ≠ 1 → ∃ t, exec (.biasCompliance y) s = .next t
      ∧ t.fld (BIA_STS y) BIA_STS_LOAD = 1 ∧ t.flag (BIA_STS y) BIA_STS_COMPL_SEEN = true
      ∧ t.rdN (BIA_EVT_CNT y) = min 0xFFFFFFFF (s.rdN (BIA_EVT_CNT y) + 1)
      ∧ t.bus = { s.bus with reports := s.bus.reports ++ [⟨E_BIA_COMPLIANCE, false, y, y⟩] }
      ∧ (s.actF (BIA_CFG y) BIA_CFG_FLT_ACT = 1 → t.flag (BIA_STS y) BIA_STS_LATCHED = true)
      ∧ (s.actF (BIA_CFG y) BIA_CFG_FLT_ACT ≠ 1 → t.flag (BIA_STS y) BIA_STS_LATCHED = s.flag (BIA_STS y) BIA_STS_LATCHED)
      ∧ s.keeps t [BIA_STS y, BIA_EVT_CNT y] ∧ { t with regs := s.regs, bus := s.bus } = s) ∧
  (∀ s y, s.biaEn y = true → s.fld (BIA_STS y) BIA_STS_LOAD ≠ 2 → s.actF (BIA_CFG y) BIA_CFG_OL_EN = 1 → s.biaLarge y = true →
    ∃ t, exec (.biasOpen y) s = .next t ∧ t.fld (BIA_STS y) BIA_STS_LOAD = 2 ∧ t.flag (BIA_STS y) BIA_STS_OPEN_SEEN = true
      ∧ t.rdN (BIA_EVT_CNT y) = min 0xFFFFFFFF (s.rdN (BIA_EVT_CNT y) + 1)
      ∧ t.bus = { s.bus with reports := s.bus.reports ++ [⟨E_BIA_OPEN, false, y, y⟩] }
      ∧ s.keeps t [BIA_STS y, BIA_EVT_CNT y] ∧ { t with regs := s.regs, bus := s.bus } = s) ∧
  (∀ s y, (s.actF (BIA_CFG y) BIA_CFG_OL_EN ≠ 1 ∨ s.biaLarge y = false) → exec (.biasOpen y) s = exec (.biasCompliance y) s) ∧
  (∀ s y, ∃ t, exec (.biasLoadNormal y) s = .next t ∧ t.fld (BIA_STS y) BIA_STS_LOAD = 0
      ∧ t.flag (BIA_STS y) BIA_STS_LATCHED = s.flag (BIA_STS y) BIA_STS_LATCHED ∧ s.onlyRegs t [BIA_STS y]) ∧
  (∀ s y, s.opens (BIA_STS y) → s.flag (BIA_STS y) BIA_STS_LATCHED = true → s.biaEn y = true → s.trimBad (0x160 + y) = false →
      (s.dev = dREADY ∨ s.dev = dRUN) → ∃ t, exec (.biasLatchRelease y) s = .next t ∧ t.flag (BIA_STS y) BIA_STS_LATCHED = false
      ∧ t.fld (BIA_STS y) BIA_STS_BSTATE = 2 ∧ (t.fld (BIA_STS y) BIA_STS_SLEWING = 1 ↔ s.biaAct y ≠ s.biaCode y) ∧ s.onlyRegs t [BIA_STS y])

/-- R251 to R253, R283 to R288 and Table 8-2. -/
def Obligations.ConvertersAreConfiguredAndRingsRun : Prop :=
  (∀ s k sel v a, k < 32 → sel < 3 → a = convPage k + (if sel = 0 then 0 else 4 + 4 * sel) → s.opens a → (sel ≠ 0 ∨ v % 4 ≠ 3) →
    ∃ t, exec (.cnvCfgWrite k sel v) s = .next t ∧ t.rd a = ((s.rd a &&& ~~~(rwMask a)) ||| (BitVec.ofNat 64 v &&& rwMask a))
      ∧ (∀ x, s.nextEdge ≤ x → (s.dev ≠ dCAL ∨ sel ≠ 0) → t.adcOn k sel x = t.rd a)
      ∧ (∀ j x, j < 3 → x < s.nextEdge → (s.adc k).hist.length < 256 → ((s.adc k).hist = [] ∨ ∃ h ∈ (s.adc k).hist, h.1 ≤ x) →
          t.adcOn k j x = s.adcOn k j x)
      ∧ (∀ n, n = adcSettle (s.rd (CNV_CFG (k / 8) (k % 8))) (t.rd (CNV_CFG (k / 8) (k % 8))) → sel = 0 → 0 < n → s.dev ≠ dCAL →
          (t.adc k).uns.head? = some (s.nextEdge, s.nextEdge + 2 * n) ∧ t.fld (CNV_STS (k / 8) (k % 8)) CNV_STS_SETTLING = 1)
      ∧ s.keeps t [a, CNV_STS (k / 8) (k % 8)] ∧ { t with regs := s.regs, cnv := s.cnv } = s) ∧
  (∀ s k v, k < 32 → s.opens (CNV_CFG (k / 8) (k % 8)) → v % 4 = 3 → ∃ t, exec (.cnvCfgWrite k 0 v) s = .next t
      ∧ t.rdN (CNV_WDROP_CNT (k / 8) (k % 8)) = min 0xFFFFFFFF (s.rdN (CNV_WDROP_CNT (k / 8) (k % 8)) + 1)
      ∧ s.onlyRegs t [CNV_WDROP_CNT (k / 8) (k % 8)]) ∧
  (∀ s k, k < 32 → (∀ u ∈ (s.adc k).uns, u.2 ≤ s.clock.now) → ∃ t, exec (.settlingEnd k) s = .next t
      ∧ t.fld (CNV_STS (k / 8) (k % 8)) CNV_STS_SETTLING = 0 ∧ s.onlyRegs t [CNV_STS (k / 8) (k % 8)]) ∧
  (∀ s r v page pages, r < 48 → s.opens (ringCTL r) → s.flag (ringCTL r) CNV_RING_CTL_EN = false → bit v 31 = true →
      page = s.fld (ringBASE r) CNV_RING_BASE_PAGE → pages = s.fld (ringPAGES r) CNV_RING_PAGES_PAGES → 0 < pages → page + pages ≤ 8192 →
      0 < s.fld (ringWM r) CNV_RING_WM_WM → 256 * s.fld (ringWM r) CNV_RING_WM_WM < 4096 * pages → s.ringBad r page pages (v % 128) = none →
    ∃ t, exec (.ringStart r v) s = .next t ∧ t.rdN (ringCTL r) = 2 ^ 31 + v % 128 ∧ t.rdN (ringWP r) = 0 ∧ t.rdN (ringRP r) = 0
      ∧ t.fld (ringSTS r) CNV_RING_STS_RUNNING = 1 ∧ t.fld (ringSTS r) CNV_RING_STS_STATUS = 0 ∧ t.fld (ringSTS r) CNV_RING_STS_REQ = 0
      ∧ s.onlyRegs t [ringCTL r, ringWP r, ringRP r, ringSTS r]) ∧
  (∀ s r v, r < 48 → s.opens (ringCTL r) → s.flag (ringCTL r) CNV_RING_CTL_EN = true → ∃ t, exec (.ringStop r v) s = .next t
      ∧ t.rdN (ringCTL r) = v % 128 ∧ t.fld (ringSTS r) CNV_RING_STS_RUNNING = 0 ∧ t.fld (ringSTS r) CNV_RING_STS_STATUS = 0
      ∧ s.onlyRegs t [ringCTL r, ringSTS r]) ∧
  (∀ s r v, r < 48 → s.opens (ringRP r) → v % 16 = 0 → v < s.ringSize r →
      (v + s.ringSize r - s.rdN (ringRP r)) % s.ringSize r ≤ s.ringHeld r → ∃ t, exec (.ringRpWrite r v) s = .next t ∧ t.rdN (ringRP r) = v
      ∧ (t.fld (ringSTS r) CNV_RING_STS_REQ = 1 ↔ 256 * s.fld (ringWM r) CNV_RING_WM_WM ≤ t.ringHeld r)
      ∧ s.onlyRegs t [ringRP r, ringSTS r]) ∧
  (∀ s r v, r < 48 → s.opens (ringRP r) → (v % 16 ≠ 0 ∨ s.ringSize r ≤ v) → ∃ t, exec (.ringRpWrite r v) s = .next t
      ∧ t.fld (ringSTS r) CNV_RING_STS_STATUS = E_CNV_RANGE ∧ t.rdN (convWdrop r) = min 0xFFFFFFFF (s.rdN (convWdrop r) + 1)
      ∧ s.onlyRegs t [ringSTS r, convWdrop r])

/-- R255 to R262, R285 and Tables 8-3 and 8-8. -/
def Obligations.AcquisitionArmsOpensAndEndsWindows : Prop :=
  (∀ s y c v a, a = CNV_ACQ_CTL y c → y < 64 → c < 8 → s.opens a → s.flag a CNV_ACQ_CTL_ARM = false → bit v 31 = true →
      s.acqArmCheck y c v = 0 → ∃ t, exec (.cnvAcqArm y c v) s = .next t ∧ t.fld (CNV_ACQ_STS y c) fSTATUS = 0
      ∧ (bits v 29 28 ≠ 0 → t.rd a = ((s.rd a &&& ~~~(rwMask a)) ||| (BitVec.ofNat 64 v &&& rwMask a)) ∧ t.flag a CNV_ACQ_CTL_ARM = true)
      ∧ (bits v 29 28 = 0 → t.rd a = ((s.rd a &&& ~~~(rwMask a)) ||| (BitVec.ofNat 64 (v % 2 ^ 31) &&& rwMask a)) ∧ t.flag a CNV_ACQ_CTL_ARM = false)
      ∧ s.onlyRegs t [a, CNV_ACQ_STS y c, DSC_STS y c]) ∧
  (∀ s y c v, y < 64 → c < 8 → s.opens (CNV_ACQ_CTL y c) → s.flag (CNV_ACQ_CTL y c) CNV_ACQ_CTL_ARM = false → s.acqArmCheck y c v ≠ 0 →
    ∃ t, exec (.cnvAcqArm y c v) s = .next t ∧ t.fld (CNV_ACQ_STS y c) fSTATUS = s.acqArmCheck y c v
      ∧ s.onlyRegs t [CNV_ACQ_STS y c, IMG_DENY, IMG_DENY_CNT]) ∧
  (∀ s y c v a, a = CNV_ACQ_CTL y c → y < 64 → c < 8 → s.opens a → s.flag a CNV_ACQ_CTL_ARM = true → bit v 31 = false →
      BitVec.ofNat 64 v &&& rwMask a = s.rd a - BitVec.ofNat 64 (2 ^ 31) → ∃ t, exec (.cnvAcqDisarm y c v) s = .next t
      ∧ t.rd a = s.rd a - BitVec.ofNat 64 (2 ^ 31) ∧ (t.dem y c).wins = (s.dem y c).wins ∧ s.onlyRegs t [a, CNV_ACQ_STS y c, DSC_STS y c]) ∧
  (∀ s y c i, y < 64 → c < 8 → s.bus.held.find? (fun i => i.act == .start y c && s.due i.rel) = some i → s.fld (CNV_ACQ_CTL y c) CNV_ACQ_CTL_SRC = 1 →
      s.flag (CNV_ACQ_CTL y c) CNV_ACQ_CTL_ARM = true → (s.dev = dREADY ∨ s.dev = dRUN) → s.tb1Run = true → s.cst y c ≠ cOFF → s.cst y c ≠ cSTOPPED →
    ∃ t, exec (.acqTimerStart y c) s = .next t ∧ (t.dem y c).wins.getLast? = some ⟨(s.grp (s.groupOf y)).pass, ceilFt i.rel + 16 * s.fld (CNV_ACQ_DLY y c) CNV_ACQ_DLY_DLY,
          s.fld (CNV_ACQ_LEN y c) CNV_ACQ_LEN_LEN, s.fld (CNV_ACQ_CTL y c) CNV_ACQ_CTL_TAG, 1, false, true, 0, 0, 0, false, none, [], [], []⟩
      ∧ t.fld (CNV_ACQ_STS y c) CNV_ACQ_STS_ASTATE = 2 ∧ s.keeps t [CNV_ACQ_STS y c, CNV_ACQ_OVL_CNT y, DSC_STS y c]
      ∧ t.bus = { s.bus with held := s.bus.held.erase i } ∧ { t with regs := s.regs, cnv := s.cnv, bus := s.bus } = s) ∧
  (∀ s y c i, y < 64 → c < 8 → s.bus.held.find? (fun i => i.act == .start y c && s.due i.rel) = some i → s.fld (CNV_ACQ_CTL y c) CNV_ACQ_CTL_SRC = 1 →
      s.flag (CNV_ACQ_CTL y c) CNV_ACQ_CTL_ARM = true → (s.dev = dREADY ∨ s.dev = dRUN) → s.tb1Run = true → (s.cst y c = cOFF ∨ s.cst y c = cSTOPPED) →
    ∃ t, exec (.acqTimerStart y c) s = .next t ∧ t.rdN (DEM_MISS_CNT y) = min 0xFFFFFFFF (s.rdN (DEM_MISS_CNT y) + 1)
      ∧ t.bus = { s.bus with held := s.bus.held.erase i } ∧ s.keeps t [DEM_MISS_CNT y] ∧ { t with regs := s.regs, bus := s.bus } = s) ∧
  (∀ s y c e es, y < 64 → c < 8 → (s.dem y c).trigs = e :: es →
      s.fld (CNV_ACQ_CTL y c) CNV_ACQ_CTL_SRC = 2 → s.flag (CNV_ACQ_CTL y c) CNV_ACQ_CTL_ARM = true → (s.dev = dREADY ∨ s.dev = dRUN) →
      s.tb1Run = true → s.cst y c ≠ cOFF → s.cst y c ≠ cSTOPPED → ∃ t, exec (.acqTrigStart y c) s = .next t
      ∧ (t.dem y c).wins.getLast? = some ⟨(s.grp (s.groupOf y)).pass, ceilFt (e + 768) + 16 * s.fld (CNV_ACQ_DLY y c) CNV_ACQ_DLY_DLY,
          s.fld (CNV_ACQ_LEN y c) CNV_ACQ_LEN_LEN, s.fld (CNV_ACQ_CTL y c) CNV_ACQ_CTL_TAG, 2, false, true, 0, 0, 0, false, none, [], [], []⟩
      ∧ t.fld (CNV_ACQ_STS y c) CNV_ACQ_STS_ASTATE = 2 ∧ (t.dem y c).trigs = es ∧ s.keeps t [CNV_ACQ_STS y c, CNV_ACQ_OVL_CNT y, DSC_STS y c]
      ∧ { t with regs := s.regs, cnv := s.cnv } = s) ∧
  (∀ s y c xs w k, y < 64 → c < 8 → k = pairOf y → (s.dem y c).wins.find? (·.open_) = some w → s.reached (w.s0 + 16 * w.len) = true →
    ∃ t, exec (.acqWindowEnd y c xs) s = .next t ∧ (t.dem y c).wins = closeFirst (s.dem y c).wins
      ∧ (s.flag (CNV_ACQ_CTL y c) CNV_ACQ_CTL_RAW = false → t.cnv.res = s.cnv.res)
      ∧ (s.flag (CNV_ACQ_CTL y c) CNV_ACQ_CTL_RAW = true → s.ringOn k = true →
          (s.rawRecord y c w (xs.take (8 * w.len))).length ≤ s.ringRoom k →
          t.rdN (ringWP k) = (s.rdN (ringWP k) + (s.rawRecord y c w (xs.take (8 * w.len))).length) % s.ringSize k
          ∧ t.cnv.res = ringStore (4096 * s.fld (ringBASE k) CNV_RING_BASE_PAGE) (s.ringSize k) (s.rdN (ringWP k))
              (s.rawRecord y c w (xs.take (8 * w.len))) s.cnv.res)
      ∧ s.keeps t [CNV_ACQ_STS y c, DSC_STS y c, CNV_STS (k / 8) (k % 8), CNV_CLIP_CNT (k / 8) (k % 8), ringWP k, ringSTS k, ringDROP k]
      ∧ { t with regs := s.regs, cnv := s.cnv } = s)

/-- R264 to R281 and Table 8-9. -/
def Obligations.MonitorsScanInjectCheckAndCalibrate : Prop :=
  (∀ s m v, m < 16 → s.opens (monCTL m) → s.flag (monCTL m) MON_CTL_SCAN_EN = false → bit v 0 = true → s.monCtlOpen m v = true →
      s.scanCheck m (bits v 11 8) = 0 → ∃ t, exec (.monScanEnable m v) s = .next t
      ∧ t.rd (monCTL m) = ((s.rd (monCTL m) &&& ~~~(rwMask (monCTL m))) ||| (BitVec.ofNat 64 v &&& rwMask (monCTL m)))
      ∧ t.flag (monCTL m) MON_CTL_SCAN_EN = true ∧ t.fld (monSTS m) MON_STS_STATUS = 0 ∧ t.mon m = { s.mon m with entry := 0, cycles := 0 }
      ∧ s.keeps t [monCTL m, monSTS m] ∧ { t with regs := s.regs, cnv := s.cnv } = s) ∧
  (∀ s m v, m < 16 → s.opens (monCTL m) → s.flag (monCTL m) MON_CTL_SCAN_EN = true → v % 2 = 0 → s.monCtlOpen m v = true →
    ∃ t, exec (.monScanDisable m v) s = .next t ∧ t.flag (monCTL m) MON_CTL_SCAN_EN = false
      ∧ t.rd (monCTL m) = ((s.rd (monCTL m) &&& ~~~(rwMask (monCTL m))) ||| (BitVec.ofNat 64 v &&& rwMask (monCTL m)))
      ∧ s.onlyRegs t [monCTL m]) ∧
  (∀ s m v i, m < 16 → i = ⟨0, 0, bits v 31 20, 8 * m + v % 8, none⟩ → s.opens (MON_INJ (m / 4) (m % 4)) → s.injMay i = true → s.monSt m ≠ 0 →
      (s.mon m).waiting.length < 4 → (s.dev = dCAL ∨ s.dev = dREADY ∨ s.dev = dRUN) → ∃ t, exec (.monInj m v) s = .next t
      ∧ t.mon m = { s.mon m with waiting := (s.mon m).waiting ++ [i] }
      ∧ t.fld (MON_INJ_Q (m / 4) (m % 4)) MON_INJ_Q_WAIT = (s.mon m).waiting.length + 1 ∧ t.fld (monSTS m) MON_STS_STATUS = 0
      ∧ s.keeps t [monSTS m, MON_INJ_Q (m / 4) (m % 4)] ∧ { t with regs := s.regs, cnv := s.cnv } = s) ∧
  (∀ s m v, m < 16 → s.opens (MON_INJ (m / 4) (m % 4)) → s.injMay ⟨0, 0, bits v 31 20, 8 * m + v % 8, none⟩ = true → s.monSt m ≠ 0 →
      4 ≤ (s.mon m).waiting.length → ∃ t, exec (.monInj m v) s = .next t ∧ t.fld (monSTS m) MON_STS_STATUS = E_CNV_INJ_OVF
      ∧ t.rdN (MON_INJ_OVF_CNT (m / 4) (m % 4)) = min 0xFFFFFFFF (s.rdN (MON_INJ_OVF_CNT (m / 4) (m % 4)) + 1)
      ∧ s.onlyRegs t [monSTS m, MON_INJ_OVF_CNT (m / 4) (m % 4)]) ∧
  (∀ s m v, m < 16 → s.opens (MON_INJ (m / 4) (m % 4)) → s.injMay ⟨0, 0, bits v 31 20, 8 * m + v % 8, none⟩ = true → s.monSt m = 0 →
    ∃ t, exec (.monInj m v) s = .next t ∧ t.fld (monSTS m) MON_STS_STATUS = E_MON_STATE ∧ s.onlyRegs t [monSTS m]) ∧
  (∀ s m v, m < 16 → m % 2 = 0 → s.opens (monXCHK m) → s.flag (monXCHK m) MON_XCHK_EN = false → bit v 31 = true → bits v 26 19 ≠ 0 →
      s.ownOf 4 (8 * m + bits v 30 27) = none → ∃ t, exec (.monXchkEnable m v) s = .next t ∧ t.flag (monXCHK m) MON_XCHK_EN = true
      ∧ t.fld (monXCHK m) MON_XCHK_XIN = bits v 30 27 ∧ t.fld (monXCHK m) MON_XCHK_PER = bits v 26 19
      ∧ t.fld (monXCHK m) MON_XCHK_THR = v % 2 ^ 16 ∧ t.fld (monSTS m) MON_STS_STATUS = 0
      ∧ t.mon m = { s.mon m with cycles := 0, due := false } ∧ s.keeps t [monXCHK m, monSTS m] ∧ { t with regs := s.regs, cnv := s.cnv } = s) ∧
  (∀ s m v, m < 16 → m % 2 = 1 → s.opens (monXCHK m) → ∃ t, exec (.monXchkEnable m v) s = .next t
      ∧ t.rdN (convWdrop (32 + m)) = min 0xFFFFFFFF (s.rdN (convWdrop (32 + m)) + 1) ∧ s.onlyRegs t [convWdrop (32 + m)]) ∧
  (∀ s m, ∃ t, exec (.monCalRequest m) s = .next t ∧ t.mon m = { s.mon m with calReq := true } ∧ (∀ n, n ≠ m → t.mon n = s.mon n)
      ∧ { t with cnv := s.cnv } = s) ∧
  (∀ s m, m < 16 → (s.mon m).run = .cal → s.hubFt % monPeriod (s.mon m).dr = 0 → (s.mon m).waiting = [] → (s.mon m).calReq = false →
      (s.mon m).due = false → (s.mon m).join = false → s.flag (monCTL m) MON_CTL_SCAN_EN = false → s.dev = dREADY → ∃ t, exec (.monCalEnd m) s = .next t
      ∧ (t.mon m).run = .none ∧ (t.mon m).input = none ∧ (t.mon m).last1 = s.hubFt + 1 ∧ t.monSt m = 1
      ∧ s.keeps t [monSTS m, MON_INJ_Q (m / 4) (m % 4)] ∧ { t with regs := s.regs, cnv := s.cnv } = s) ∧
  (∀ s m i code code1 ovr1, m < 16 → s.dev = dREADY → s.monBoundary m = true → (s.mon m).run = .inj i → (s.mon m).uns = 0 → (s.mon m).waiting = [] →
      (s.mon m).calReq = false → (s.mon m).due = false → (s.mon m).join = false → s.flag (monCTL m) MON_CTL_SCAN_EN = false → s.injRing m i = false →
      s.fld (monCTL m) MON_CTL_DR = (s.mon m).dr → ∃ t, exec (.monWordBoundary m code false code1 ovr1) s = .next t
      ∧ t.rdN (MON_INJ_RES (m / 4) (m % 4)) = b01 (s.trimBad (0x1C0 + m)) * 2 ^ 31 + (s.mon m).input.getD 0 % 128 * 2 ^ 24 + code % 2 ^ 24
          + 2 ^ 32 * (i.tag % 4096 * 16 + 1)
      ∧ (t.mon m).run = .none ∧ (t.mon m).last1 = s.hubFt + 1 ∧ t.monSt m = 1
      ∧ (i.kind ≠ 1 → t.wch = s.wch)
      ∧ s.keeps t [MON_INJ_RES (m / 4) (m % 4), monSTS m, MON_INJ_Q (m / 4) (m % 4)] ∧ { t with regs := s.regs, cnv := s.cnv, wch := s.wch } = s) ∧
  (∀ s m, 32 ≤ m → exec (.settlingEnd m) s = .next s)

/-- R205, R207, R209, R294, R310 and R312; `demRetune` is what a change of the word does at a pin time. -/
def Obligations.HandOverMakesShadowCopiesActive : Prop :=
  (∀ s y, y < 64 → s.hoDue y ≠ [] → ∃ t, exec (.handover y) s = .next t
      ∧ (∀ c, c < 4 → bit (hoMask (s.hoDue y)) c = true → s.hoNow y c = false → s.willMake y c = true → (∀ a ∈ shdRegs y c, t.actRd a = s.rd a) ∧ t.shSt y c = shCLEAN)
      ∧ (∀ c, c < 4 → (bit (hoMask (s.hoDue y)) c = false ∨ s.hoNow y c = true ∨ s.willMake y c = false) →
          (∀ a ∈ shdRegs y c, t.actRd a = s.actRd a) ∧ t.shSt y c = s.shSt y c)
      ∧ t.ton.hos = s.ton.hos.filter (fun h => !(h.y == y && s.due h.h)) ∧ (∀ c, ∀ a ∈ shdRegs y c, t.rd a = s.rd a)
      ∧ s.keeps t [TON_HO_STS y, TON_SHD_STS y, TON_SHD_CTL y, TON_STS y, TON_HO_SKIP_CNT y]
      ∧ { t with regs := s.regs, act := s.act, ton := s.ton, cnv := s.cnv } = s) ∧
  (∀ s y, s.hoDue y = [] → exec (.handover y) s = .next s) ∧
  (∀ s y c f fs b, y < 64 → c < 8 → (s.dem y c).fades = f :: fs → f.stop ≤ s.clock.now → (s.dem y c).swaps = [] → (s.dem y c).held = some b → b ≠ f.new_ →
    ∃ t, exec (.kernelFadeEnd y c) s = .next t ∧ (t.dem y c).held = none ∧ t.fld (DEM_STS y c) DEM_STS_HELD = 0
      ∧ (t.dem y c).fades = ⟨f.stop, s.actAtF y 2 (DEM_KCFG y c) s.tb1 DEM_KCFG_XF, s.kR y c, f.new_, b⟩ :: (f :: fs).take 63
      ∧ s.keeps t [DEM_STS y c] ∧ { t with regs := s.regs, cnv := s.cnv } = s) ∧
  (∀ s y c f fs b, y < 64 → c < 8 → (s.dem y c).fades = f :: fs → f.stop ≤ s.clock.now → (s.dem y c).swaps = [] → (s.dem y c).held = some b → b = f.new_ →
    ∃ t, exec (.kernelFadeEnd y c) s = .next t ∧ t.dem y c = { s.dem y c with held := none } ∧ t.fld (DEM_STS y c) DEM_STS_HELD = 0
      ∧ s.keeps t [DEM_STS y c] ∧ { t with regs := s.regs, cnv := s.cnv } = s) ∧
  (∀ s y c, (∀ w ∈ (s.dem y c).swaps, s.clock.now < w.1) → ((s.dem y c).held = none ∨ ∀ f fs, (s.dem y c).fades = f :: fs → s.clock.now < f.stop) →
    ∃ t, exec (.kernelFadeEnd y c) s = .next t ∧ (∀ z e, t.dem z e = s.dem z e) ∧ { t with cnv := s.cnv } = s) ∧
  (∀ s y c x b, y < 64 → c < 8 → (s.dem y c).swaps = [(x, b)] → x ≤ s.clock.now → (s.dem y c).held = none →
      s.swapStart y c s.clock.now = s.clock.now → s.fading y c s.clock.now = false → s.bankAt y c s.clock.now ≠ b →
    ∃ t, exec (.kernelFadeEnd y c) s = .next t ∧ (t.dem y c).swaps = []
      ∧ (t.dem y c).fades = ⟨s.clock.now, s.actAtF y 2 (DEM_KCFG y c) s.tb1 DEM_KCFG_XF, s.kR y c, s.bankAt y c s.clock.now, b⟩ :: (s.dem y c).fades.take 63
      ∧ { t with cnv := s.cnv } = s) ∧
  (∀ s y c x b, y < 64 → c < 8 → b < 2 → (s.dem y c).swaps = [(x, b)] → x ≤ s.clock.now → (s.dem y c).held = none →
      s.swapStart y c s.clock.now = s.clock.now → s.fading y c s.clock.now = true → ∃ t, exec (.kernelFadeEnd y c) s = .next t
      ∧ t.dem y c = { s.dem y c with swaps := [], held := some b } ∧ t.fld (DEM_STS y c) DEM_STS_HELD = 1 ∧ t.fld (DEM_STS y c) DEM_STS_HBANK = b
      ∧ t.rdN (DEM_XFADE_HELD y) = min 0xFFFFFFFF (s.rdN (DEM_XFADE_HELD y) + 1)
      ∧ s.keeps t [DEM_STS y c, DEM_XFADE_HELD y] ∧ { t with regs := s.regs, cnv := s.cnv } = s) ∧
  (∀ s y c x f, y < 64 → c < 8 → s.tb1Run = true → accD ((demRetune y c x f s).dem y c).nco (s.actF (DEM_FREQ y c) DEM_FREQ_F) (32 * x : Nat) % 2 ^ 45
      = accD (s.dem y c).nco f (32 * x : Nat) % 2 ^ 45)

/-- R301, R304, R307, R309, R315, R329, R330 and Tables 9-4 to 9-6. -/
def Obligations.DemodulationChannelsTakeTheirSettings : Prop :=
  (∀ s y c v, y < 64 → c < 8 → s.opens (DEM_CTL y c) → bit v 31 ≠ s.flag (DEM_CTL y c) DEM_CTL_RUN → bits v 5 4 ≠ 3 →
      ((bits v 5 4 = s.fld (DEM_CTL y c) DEM_CTL_SECOND ∧ v % 2 = s.fld (DEM_CTL y c) DEM_CTL_FIRSEL) ∨ s.cst y c = cOFF ∨ s.cst y c = cSTOPPED) →
      (s.ygst y = gIDLE ∨ s.ygst y = gPAUSED) → (s.dev = dCAL ∨ s.dev = dREADY ∨ s.dev = dRUN) → ∃ t, exec (.demCtlWrite y c v) s = .next t
      ∧ t.rd (DEM_CTL y c) = ((s.rd (DEM_CTL y c) &&& ~~~(rwMask (DEM_CTL y c))) ||| (BitVec.ofNat 64 v &&& rwMask (DEM_CTL y c)))
      ∧ t.dem y c = { s.dem y c with edge := some s.nextEdge } ∧ s.keeps t [DEM_CTL y c] ∧ { t with regs := s.regs, cnv := s.cnv } = s) ∧
  (∀ s t y c e, y < 64 → c < 8 → (s.dem y c).edge = some e → e ≤ s.clock.now → s.flag (DEM_CTL y c) DEM_CTL_RUN = true → s.chanEn y c = true →
      s.cst y c = cSTOPPED → t = demEdge y c s → t.cst y c = cSETTLING ∧ (t.dem y c).startAt = s.clock.now ∧ (t.dem y c).edge = none
      ∧ (t.dem y c).uns.head? = some (s.clock.now, s.clock.now + 16 * (s.kN y c * s.kR y c)) ∧ (t.dem y c).wins = (s.dem y c).wins
      ∧ s.keeps t [DEM_STS y c] ∧ { t with regs := s.regs, cnv := s.cnv } = s) ∧
  (∀ s t y c e, y < 64 → c < 8 → (s.dem y c).edge = some e → e ≤ s.clock.now → s.flag (DEM_CTL y c) DEM_CTL_RUN = false →
      (s.cst y c = cSETTLING ∨ s.cst y c = cRUNNING) → t = demEdge y c s → t.cst y c = (if s.chanEn y c = true then cSTOPPED else cOFF)
      ∧ t.dem y c = { s.dem y c with edge := none, wins := (s.dem y c).wins.filter fun w => !w.open_ }
      ∧ s.keeps t [DEM_STS y c, CNV_ACQ_STS y c, DSC_STS y c] ∧ { t with regs := s.regs, cnv := s.cnv } = s) ∧
  (∀ s y c v, y < 64 → c < 8 → s.opens (DEM_CTL y c) → bit v 31 ≠ s.flag (DEM_CTL y c) DEM_CTL_RUN → s.ygst y ≠ gIDLE → s.ygst y ≠ gPAUSED →
    ∃ t, exec (.demCtlWrite y c v) s = .next t ∧ t.rdN (DEM_WDROP_CNT y) = min 0xFFFFFFFF (s.rdN (DEM_WDROP_CNT y) + 1)
      ∧ s.onlyRegs t [DEM_WDROP_CNT y]) ∧
  (∀ s y c v, y < 64 → c < 8 → s.opens (DEM_CTL y c) → bit v 31 = s.flag (DEM_CTL y c) DEM_CTL_RUN → bits v 5 4 ≠ 3 →
      bits v 5 4 ≠ s.fld (DEM_CTL y c) DEM_CTL_SECOND → s.cst y c ≠ cOFF → s.cst y c ≠ cSTOPPED → ∃ t, exec (.demCtlWrite y c v) s = .next t
      ∧ t.fld (DEM_STS y c) DEM_STS_STATUS = E_DEM_RUNNING ∧ t.rdN (DEM_WDROP_CNT y) = min 0xFFFFFFFF (s.rdN (DEM_WDROP_CNT y) + 1)
      ∧ s.onlyRegs t [DEM_STS y c, DEM_WDROP_CNT y]) ∧
  (∀ s y c, s.cst y c = cSETTLING → (s.dem y c).startAt + 16 * (s.kN y c * s.kR y c) ≤ s.clock.now →
    ∃ t, exec (.demSettlingEnd y c) s = .next t ∧ t.cst y c = cRUNNING ∧ s.onlyRegs t [DEM_STS y c]) ∧
  (∀ s y c b m v, y < 64 → c < 8 → b < 2 → m < 512 → s.opens (DEM_KW y c b m) → s.bankBusy y c b = false →
    ∃ t, exec (.kernelWeightWrite y c b m v) s = .next t ∧ t.rdN (DEM_KW y c b m) = v % 2 ^ 32 ∧ s.onlyRegs t [DEM_KW y c b m]) ∧
  (∀ s y c b m v, y < 64 → c < 8 → b < 2 → m < 512 → s.opens (DEM_KW y c b m) → s.bankBusy y c b = true →
    ∃ t, exec (.kernelWeightWrite y c b m v) s = .next t ∧ t.fld (DEM_STS y c) DEM_STS_STATUS = E_DEM_BANK_BUSY
      ∧ t.rdN (DEM_WDROP_CNT y) = min 0xFFFFFFFF (s.rdN (DEM_WDROP_CNT y) + 1) ∧ s.onlyRegs t [DEM_STS y c, DEM_WDROP_CNT y]) ∧
  (∀ s y c b v, y < 64 → c < 8 → s.opens (DEM_KLEN y c) → 0 < bits v 9 0 → bits v 9 0 ≤ 512 → 0 < bits v 25 16 → bits v 25 16 ≤ 512 →
      (bits v 9 0 = s.kLen y c 0 ∨ s.bankBusy y c 0 = false) → (bits v 25 16 = s.kLen y c 1 ∨ s.bankBusy y c 1 = false) →
    ∃ t, exec (.kernelWeightWrite y c b 512 v) s = .next t ∧ t.kLen y c 0 = bits v 9 0 ∧ t.kLen y c 1 = bits v 25 16
      ∧ s.onlyRegs t [DEM_KLEN y c]) ∧
  (∀ s y c v, y < 64 → c < 8 → s.opens (DSC_CFG y c) → s.yIdle y = true → s.dscCfgCheck y c v = 0 → ∃ t, exec (.dscCfgWrite y c v) s = .next t
      ∧ t.rd (DSC_CFG y c) = ((s.rd (DSC_CFG y c) &&& ~~~(rwMask (DSC_CFG y c))) ||| (BitVec.ofNat 64 v &&& rwMask (DSC_CFG y c)))
      ∧ t.fld (DSC_STS y c) DSC_STS_STATUS = 0 ∧ s.onlyRegs t [DSC_CFG y c, DSC_STS y c]) ∧
  (∀ s y c v, y < 64 → c < 8 → s.opens (DSC_CFG y c) → s.yIdle y = true → s.dscCfgCheck y c v ≠ 0 → ∃ t, exec (.dscCfgWrite y c v) s = .next t
      ∧ t.fld (DSC_STS y c) DSC_STS_STATUS = s.dscCfgCheck y c v ∧ s.onlyRegs t [DSC_STS y c, IMG_DENY, IMG_DENY_CNT]) ∧
  (∀ s y c v, y < 64 → c < 8 → s.opens (DSC_CFG y c) → s.yIdle y = false → ∃ t, exec (.dscCfgWrite y c v) s = .next t
      ∧ t.rdN (DSC_WDROP_CNT y) = min 0xFFFFFFFF (s.rdN (DSC_WDROP_CNT y) + 1) ∧ s.onlyRegs t [DSC_WDROP_CNT y])

/-- R304, R305, R308, R318 to R327, R331, R333 and Tables 10-1 and 16-11. `chain` is what mixer and filters make of the ADC
samples, `kernelIn` and `kernelRun` what one and all samples since the last evaluation do to the window. -/
def Obligations.WindowsAccumulateAndDecide : Prop :=
  (∀ s y c x w ws k v n i q, y < 64 → c < 8 → (s.dem y c).wins = w :: ws → w.k < s.kCount y c w → s.scoreHere y c w = true → x.ecc = false →
      (w.k + 1) % 16 ≠ 0 → s.chain y c x w = (k, v, n) →
      i = w.accI + (k.i * (s.weightAt y c w.k (s.pinNow (kPin w.s0 (s.kR y c) w.k))).1 - k.q * (s.weightAt y c w.k (s.pinNow (kPin w.s0 (s.kR y c) w.k))).2) →
      q = w.accQ + (k.i * (s.weightAt y c w.k (s.pinNow (kPin w.s0 (s.kR y c) w.k))).2 + k.q * (s.weightAt y c w.k (s.pinNow (kPin w.s0 (s.kR y c) w.k))).1) →
    ∃ t, exec (.checkpointEval y c [x]) s = .next t
      ∧ (t.dem y c).wins = { w with k := w.k + 1, accI := sat 64 i, accQ := sat 64 q, uns := w.uns || (k.uns || s.chanUns y c (kPin w.s0 (s.kR y c) w.k)), mix := v.mix, out1 := v.out1, out2 := v.out2 } :: ws
      ∧ s.keeps t [DEM_STS y c, DEM_SAT_CNT y c, DEM_UNS_CNT y c, CNV_ACQ_STS y c, DSC_STS y c] ∧ { t with regs := s.regs, cnv := s.cnv } = s) ∧
  (∀ s y c x w ws r st m p d, y < 64 → c < 8 → (s.dem y c).wins = w :: ws → w.k < s.kCount y c w → s.scoreHere y c w = true →
      r = kernelIn y c x w s → p = kPin r.1.s0 (s.kR y c) (r.1.k - 1) → r.1.k % 16 = 0 → 0 < r.1.k → r.1.k ≤ 512 →
      r.2.cpOpen y c (r.1.k / 16) r.1 = true →
      r.2.decide_ y c p (r.2.score y c r.1) (r.2.actAtF y 3 (DSC_CPF y c (r.1.k / 16)) p DSC_CPF_F) = (st, m) → r.2.earlyOk y c p st m = true →
      d = decWord st true (r.2.lowq y c p m r.1) (r.2.replayed y) → ∃ t, exec (.checkpointEval y c [x]) s = .next t
      ∧ (t.dem y c).wins = { r.1 with issued := some (d, r.1.k / 16, r.2.scoreE y c r.1 + 512) } :: ws
      ∧ t.fld (DSC_STS y c) DSC_STS_DEC = d ∧ t.fld (DSC_STS y c) DSC_STS_CP = r.1.k / 16
      ∧ t.cnv.formed = s.cnv.formed ++ [⟨if s.flag (DSC_CFG y c) DSC_CFG_SLOT_EN = true then s.fld (DSC_CFG y c) DSC_CFG_SLOT else 1024,
          d, r.2.scoreE y c r.1 + 512, y, c, 0, r.1.src == 0, r.1.s0, r.1.k / 16⟩]
      ∧ r.2.keeps t [DSC_STS y c, CNV_ACQ_STS y c] ∧ { t with regs := r.2.regs, cnv := r.2.cnv } = r.2) ∧
  (∀ s y c xs w ws, y < 64 → c < 8 → (s.dem y c).wins = w :: ws → w.open_ = false → s.kCount y c w = 0 →
      s.reached (w.s0 + 16 * (w.len + 22)) = true → ∃ t, exec (.finalScoreEval y c xs) s = .next t
      ∧ (t.dem y c).wins = ws ∧ t.flag (DEM_STS y c) DEM_STS_SHORT = true
      ∧ (∃ r, t.bus = { s.bus with recs := s.bus.recs ++ [r] } ∧ r.qid = s.yardQ y ∧ r.words.getD 1 0 = (w.s0 + 16 * (w.len + 22)) % 2 ^ 64)
      ∧ s.keeps t [DEM_STS y c, CNV_ACQ_STS y c, DSC_STS y c] ∧ { t with regs := s.regs, cnv := s.cnv, bus := s.bus, seq := s.seq } = s) ∧
  (∀ s y c xs w ws r st m p d e, y < 64 → c < 8 → (s.dem y c).wins = w :: ws → w.open_ = false → s.kCount y c w ≠ 0 →
      r = kernelRun y c xs w s → r.1.k = s.kCount y c w → p = kPin r.1.s0 (s.kR y c) (r.1.k - 1) → r.1.issued = none →
      r.2.decide_ y c p (r.2.score y c r.1) (2 ^ 15) = (st, m) → d = decWord st false (r.2.lowq y c p m r.1) (r.2.replayed y) →
      e = r.2.scoreE y c r.1 → ∃ t, exec (.finalScoreEval y c xs) s = .next t
      ∧ (t.dem y c).wins = ws ∧ t.fld (DSC_STS y c) DSC_STS_DEC = d ∧ t.fld (DSC_STS y c) DSC_STS_CP = 0
      ∧ t.cnv.formed = r.2.cnv.formed ++ [⟨if s.flag (DSC_CFG y c) DSC_CFG_SLOT_EN = true then s.fld (DSC_CFG y c) DSC_CFG_SLOT else 1024,
          d, e + 512, y, c, 0, r.1.src == 0, r.1.s0, 0⟩]
      ∧ (∃ x, t.bus = { r.2.bus with recs := r.2.bus.recs ++ [x] } ∧ x.qid = s.yardQ y ∧ x.words.getD 1 0 = (e + 512) % 2 ^ 64
          ∧ x.words.getD 2 0 = r.1.tag % 4096 + c * 2 ^ 16 + d * 2 ^ 24 + st * 2 ^ 40 + (b01 r.1.trunc * 2 + b01 r.1.uns * 8) * 2 ^ 48)
      ∧ r.2.keeps t [DSC_STS y c, CNV_ACQ_STS y c] ∧ { t with regs := r.2.regs, cnv := r.2.cnv, bus := r.2.bus, seq := r.2.seq } = r.2) ∧
  (∀ s y c xs w ws r st m p d n e, y < 64 → c < 8 → (s.dem y c).wins = w :: ws → w.open_ = false → s.kCount y c w ≠ 0 →
      r = kernelRun y c xs w s → r.1.k = s.kCount y c w → p = kPin r.1.s0 (s.kR y c) (r.1.k - 1) → r.1.issued = some (d, n, e) →
      r.2.decide_ y c p (r.2.score y c r.1) (2 ^ 15) = (st, m) → ∃ t, exec (.finalScoreEval y c xs) s = .next t
      ∧ (t.dem y c).wins = ws ∧ t.cnv.formed = r.2.cnv.formed
      ∧ t.rdN (DSC_FLIP_CNT y c) = (if st = d % 4 then r.2.rdN (DSC_FLIP_CNT y c) else min 0xFFFFFFFF (r.2.rdN (DSC_FLIP_CNT y c) + 1))
      ∧ (∃ x, t.bus = { r.2.bus with recs := r.2.bus.recs ++ [x] } ∧ x.qid = s.yardQ y ∧ x.words.getD 1 0 = e % 2 ^ 64)
      ∧ r.2.keeps t [DSC_STS y c, DSC_FLIP_CNT y c, CNV_ACQ_STS y c]
      ∧ { t with regs := r.2.regs, cnv := r.2.cnv, bus := r.2.bus, seq := r.2.seq } = r.2)

/-- R40, R327, R333, R335 to R346 and R474. -/
def Obligations.SheetEntersReleasesAndForwardsDecisions : Prop :=
  (∀ s y c d, s.cnv.formed.find? (fun d => d.yard == y && d.chan == c) = some d → s.reached (d.rel - 128) = true → (1024 ≤ d.slot ∨ s.tb1 ≤ d.rel) →
    ∃ t, exec (.sheetEntry y c) s = .next t
      ∧ t.cnv = { s.cnv with entered := s.cnv.entered ++ (if d.slot < 1024 then [d] else []), formed := s.cnv.formed.erase d }
      ∧ t.rdN (DSC_EARLY_CNT y c) = (if bit d.dec 3 = true then min 0xFFFFFFFF (s.rdN (DSC_EARLY_CNT y c) + 1) else s.rdN (DSC_EARLY_CNT y c))
      ∧ t.rdN (DSC_LOWQ_CNT y c) = (if bit d.dec 4 = true then min 0xFFFFFFFF (s.rdN (DSC_LOWQ_CNT y c) + 1) else s.rdN (DSC_LOWQ_CNT y c))
      ∧ t.rdN (DSC_LEAK_CNT y c) = (if d.dec % 4 = 2 then min 0xFFFFFFFF (s.rdN (DSC_LEAK_CNT y c) + 1) else s.rdN (DSC_LEAK_CNT y c))
      ∧ s.keeps t [DSC_EARLY_CNT y c, DSC_LOWQ_CNT y c, DSC_LEAK_CNT y c] ∧ { t with regs := s.regs, cnv := s.cnv } = s) ∧
  (∀ s y c d, s.cnv.formed.find? (fun d => d.yard == y && d.chan == c) = some d → d.slot < 1024 → d.rel < s.clock.tb1 → s.tb1Run = true →
    ∃ t, exec (.sheetEntry y c) s = .next t ∧ t.cnv = { s.cnv with formed := s.cnv.formed.erase d }
      ∧ t.rdN GLB_LATE_CNT = min 0xFFFFFFFF (s.rdN GLB_LATE_CNT + 1)
      ∧ s.keeps t [DSC_EARLY_CNT y c, DSC_LOWQ_CNT y c, DSC_LEAK_CNT y c, GLB_LATE_CNT] ∧ { t with regs := s.regs, cnv := s.cnv } = s) ∧
  (∀ s i d bad, i < 1024 → s.cnv.entered.find? (fun d => d.slot == i && s.atTb1 d.rel) = some d → (∀ x ∈ s.tapsOn i, x ∉ bad) →
    ∃ t, exec (.slotRelease i bad) s = .next t
      ∧ t.rd (SHT_SLOT i) = BitVec.ofNat 64 (d.rel % 2 ^ 40 * 2 ^ 24 + (if d.link = 0 then d.yard else 0x40 + d.link) * 2 ^ 16 + d.dec)
      ∧ t.slotRel i = d.rel ∧ t.cnv.entered = s.cnv.entered.erase d
      ∧ (∀ x, s.tapsOn i = [x] → (tapTake x i d.dec s).tapFull x = true →
          t.cnv.dets = s.cnv.dets ++ [(tapTake x i d.dec s).tapBit x d.rel]
          ∧ t.rdN SHT_TAP_FIRE_CNT = min 0xFFFFFFFF (s.rdN SHT_TAP_FIRE_CNT + 1) ∧ (t.tap x).sat = [])
      ∧ (s.tapsOn i = [] → t.cnv.dets = s.cnv.dets ∧ t.cnv.taps = s.cnv.taps)
      ∧ (∀ l, l < 6 → bit (s.fld (SHT_FWD i) SHT_FWD_LINKS) l = true → d.link ≠ l + 1 → s.linkUp l = true →
          ∃ r, r = max (d.rel + (if s.linkThree l = true then 1800 else 1440)) (tget s.ozl.fbLast l)
            ∧ (⟨l, d.slot, d.dec, r⟩ : Copy) ∈ t.cnv.copies ∧ tget t.ozl.fbLast l = r)
      ∧ (s.fld (SHT_FWD i) SHT_FWD_LINKS = 0 → t.cnv.copies = s.cnv.copies)
      ∧ s.keeps t [SHT_SLOT i, SHT_TAP_OVW_CNT, SHT_TAP_FIRE_CNT, SHT_FWD_DOWN_CNT] ∧ { t with regs := s.regs, cnv := s.cnv, ozl := s.ozl } = s) ∧
  (∀ s i d x bad, i < 1024 → s.cnv.entered.find? (fun d => d.slot == i && s.atTb1 d.rel) = some d → s.tapsOn i = [x] → x ∈ bad → x < 2048 →
    ∃ t, exec (.slotRelease i bad) s = .next t ∧ t.flag (SHT_TAP x) SHT_TAP_EN = false ∧ t.cnv.dets = s.cnv.dets
      ∧ t.tap x = default ∧ (∀ z, z ≠ x → t.tap z = s.tap z) ∧ t.bus = { s.bus with reports := s.bus.reports ++ [⟨E_SHT_ECC_UNCORR, false, islHub, x⟩] }
      ∧ s.keeps t [SHT_SLOT i, SHT_TAP x, SHT_FWD_DOWN_CNT] ∧ { t with regs := s.regs, cnv := s.cnv, ozl := s.ozl, bus := s.bus } = s) ∧
  (∀ s l j d rel, s.fld (SHT_IMAP l j) SHT_IMAP_EN = 1 → s.tb1 ≤ rel → ∃ t, exec (.fwdCopyArrival l j d rel false) s = .next t
      ∧ t.cnv.entered = s.cnv.entered ++ [⟨s.fld (SHT_IMAP l j) SHT_IMAP_LOCAL, d % 64, rel, 0, 0, l + 1, false, 0, 0⟩]
      ∧ t.regs = s.regs ∧ { t with cnv := s.cnv } = s) ∧
  (∀ s l j d rel ecc, s.fld (SHT_IMAP l j) SHT_IMAP_EN = 0 → ∃ t, exec (.fwdCopyArrival l j d rel ecc) s = .next t
      ∧ t.rdN SHT_FWD_DROP_CNT = min 0xFFFFFFFF (s.rdN SHT_FWD_DROP_CNT + 1) ∧ s.onlyRegs t [SHT_FWD_DROP_CNT]) ∧
  (∀ s l j d rel, s.fld (SHT_IMAP l j) SHT_IMAP_EN = 1 → rel < s.tb1 → ∃ t, exec (.fwdCopyArrival l j d rel false) s = .next t
      ∧ t.rdN SHT_FWD_LATE_CNT = min 0xFFFFFFFF (s.rdN SHT_FWD_LATE_CNT + 1) ∧ t.rdN GLB_LATE_CNT = min 0xFFFFFFFF (s.rdN GLB_LATE_CNT + 1)
      ∧ s.onlyRegs t [SHT_FWD_LATE_CNT, GLB_LATE_CNT]) ∧
  (∀ s l j d rel, l < 6 → j < 1024 → s.fld (SHT_IMAP l j) SHT_IMAP_EN = 1 → ∃ t, exec (.fwdCopyArrival l j d rel true) s = .next t
      ∧ t.fld (SHT_IMAP l j) SHT_IMAP_EN = 0 ∧ t.rdN SHT_FWD_DROP_CNT = min 0xFFFFFFFF (s.rdN SHT_FWD_DROP_CNT + 1)
      ∧ t.bus = { s.bus with reports := s.bus.reports ++ [⟨E_SHT_ECC_UNCORR, false, islHub, 1024 * l + j⟩] }
      ∧ s.keeps t [SHT_IMAP l j, SHT_FWD_DROP_CNT] ∧ { t with regs := s.regs, bus := s.bus } = s) ∧
  (∀ s x v w, x < 2048 → s.opens (SHT_TAP x) → w = BitVec.ofNat 64 v &&& rwMask (SHT_TAP x) → getF (s.tapWord x) SHT_TAP_EN = 0 →
      bit v 63 = true → tapCurrent w ≠ [] → s.tapOwned w = true → ∃ t, exec (.shtTapWrite x v) s = .next t
      ∧ t.rd (SHT_TAP x) = w ∧ t.tap x = default ∧ t.fld SHT_STS SHT_STS_STATUS = 0 ∧ s.keeps t [SHT_TAP x, SHT_STS]
      ∧ { t with regs := s.regs, cnv := s.cnv } = s) ∧
  (∀ s x v, x < 2048 → s.opens (SHT_TAP x) → getF (s.tapWord x) SHT_TAP_EN = 0 → bit v 63 = true →
      tapCurrent (BitVec.ofNat 64 v &&& rwMask (SHT_TAP x)) = [] → ∃ t, exec (.shtTapWrite x v) s = .next t
      ∧ t.fld SHT_STS SHT_STS_STATUS = E_SHT_TAP_CFG ∧ s.onlyRegs t [SHT_STS]) ∧
  (∀ s x v, x < 2048 → s.opens (SHT_TAP x) → getF (s.tapWord x) SHT_TAP_EN = 1 → bit v 63 = true → ∃ t, exec (.shtTapWrite x v) s = .next t
      ∧ t.fld SHT_STS SHT_STS_STATUS = E_SHT_TAP_BUSY ∧ s.onlyRegs t [SHT_STS]) ∧
  (∀ s x v, x < 2048 → s.opens (SHT_TAP x) → getF (s.tapWord x) SHT_TAP_EN = 1 → bit v 63 = false → ∃ t, exec (.shtTapWrite x v) s = .next t
      ∧ t.rd (SHT_TAP x) = BitVec.ofNat 64 v &&& rwMask (SHT_TAP x)
      ∧ ((s.tap x).off = none → t.tap x = { s.tap x with off := some (s.nextEdge, (s.tapWord x).toNat) } ∧ t.tapWord x = s.tapWord x) ∧ t.fld SHT_STS SHT_STS_STATUS = 0
      ∧ s.keeps t [SHT_TAP x, SHT_STS] ∧ { t with regs := s.regs, cnv := s.cnv } = s) ∧
  (∀ s l j v, l < 6 → j < 1024 → s.opens (SHT_IMAP l j) → (bit v 31 = false ∨ (s.ownOf 8 (v % 1024) ≠ none ∧ s.slotWriters (v % 1024) 64 0 = false)) →
    ∃ t, exec (.shtImapWrite l j v) s = .next t
      ∧ t.rd (SHT_IMAP l j) = ((s.rd (SHT_IMAP l j) &&& ~~~(rwMask (SHT_IMAP l j))) ||| (BitVec.ofNat 64 v &&& rwMask (SHT_IMAP l j)))
      ∧ t.fld SHT_STS SHT_STS_STATUS = 0 ∧ s.onlyRegs t [SHT_IMAP l j, SHT_STS]) ∧
  (∀ s l j v, l < 6 → j < 1024 → s.opens (SHT_IMAP l j) → bit v 31 = true → s.ownOf 8 (v % 1024) = none → ∃ t, exec (.shtImapWrite l j v) s = .next t
      ∧ t.fld SHT_STS SHT_STS_STATUS = E_IMG_RES_BUSY ∧ s.onlyRegs t [SHT_STS, IMG_DENY, IMG_DENY_CNT])

/-- R351, R352, R355 to R358, R362 and R364. With CLOSE set the clock closes the bulk round, so a context with a final round open
is left to R357's other half. -/
def Obligations.DecoderContextsTakeGraphsAndRounds : Prop :=
  (∀ s x ecc, x < 8 → s.opens (DEC_EN x) → s.gst (s.decGroup x) = gIDLE → s.decEn x = false → (s.decCheck x ecc).1 = 0 →
    ∃ t, exec (.decEnable x ecc) s = .next t ∧ t.decEn x = true ∧ t.xst x = xREADY ∧ t.fld (DEC_OBS x) DEC_OBS_LCOUNT = 0
      ∧ t.fld (DEC_CSTS x) DEC_CSTS_STATUS = 0
      ∧ t.ctx x = { (default : DCtx) with graph := readGraph s.dec.store (4096 * s.fld (DEC_GRAPH x) DEC_GRAPH_PAGE) }
      ∧ s.keeps t [DEC_EN x, DEC_CSTS x, DEC_DETAIL x, DEC_OBS x] ∧ { t with regs := s.regs, dec := s.dec } = s) ∧
  (∀ s x ecc, x < 8 → s.opens (DEC_EN x) → s.gst (s.decGroup x) = gIDLE → s.decEn x = false → (s.decCheck x ecc).1 ≠ 0 →
    ∃ t, exec (.decEnable x ecc) s = .next t ∧ t.fld (DEC_CSTS x) DEC_CSTS_STATUS = (s.decCheck x ecc).1
      ∧ t.rdN (DEC_DETAIL x) = (s.decCheck x ecc).2 % 2 ^ 64 ∧ s.onlyRegs t [DEC_CSTS x, DEC_DETAIL x, IMG_DENY, IMG_DENY_CNT]) ∧
  (∀ s x ecc, x < 8 → s.opens (DEC_EN x) → s.gst (s.decGroup x) ≠ gIDLE → ∃ t, exec (.decEnable x ecc) s = .next t
      ∧ t.fld (DEC_CSTS x) DEC_CSTS_STATUS = E_DEC_STATE ∧ s.onlyRegs t [DEC_CSTS x]) ∧
  (∀ s x, x < 8 → s.opens (DEC_EN x) → s.gst (s.decGroup x) = gIDLE → s.decEn x = true → ∃ t, exec (.decDisable x) s = .next t
      ∧ t.decEn x = false ∧ t.xst x = xOFF ∧ t.fld (DEC_CSTS x) DEC_CSTS_STATUS = 0 ∧ t.ctx x = default ∧ s.keeps t [DEC_EN x, DEC_CSTS x]
      ∧ { t with regs := s.regs, dec := s.dec } = s) ∧
  (∀ s d b, s.cnv.dets.find? (fun b => b.det == d && s.due b.rel) = some b → (∀ x f j, s.routeDet d = some (x, f, j) → (s.ctx x).on = false) →
    ∃ t, exec (.detectorArrival d) s = .next t ∧ t.cnv = { s.cnv with dets := s.cnv.dets.erase b }
      ∧ t.rdN DEC_DISC_CNT = min 0xFFFFFFFF (s.rdN DEC_DISC_CNT + 1) ∧ s.keeps t [DEC_DISC_CNT] ∧ { t with regs := s.regs, cnv := s.cnv } = s) ∧
  (∀ s d b x f j, s.cnv.dets.find? (fun b => b.det == d && s.due b.rel) = some b → s.routeDet d = some (x, f, j) → (s.ctx x).on = true →
      (∀ o ∈ (s.ctx x).opens, o.final ≠ f) → (s.flag (DEC_ROUND x) DEC_ROUND_CLOSE = true ∨ (s.ctx x).opens.length < 2) →
    ∃ t, exec (.detectorArrival d) s = .next t ∧ t.cnv = { s.cnv with dets := s.cnv.dets.erase b }
      ∧ t.ctx x = { s.ctx x with opens := (s.ctx x).opens ++ [⟨f, b.rel, [⟨j, b.val, b.erase, b.soft, false⟩]⟩] }
      ∧ t.regs = s.regs ∧ { t with cnv := s.cnv, dec := s.dec } = s) ∧
  (∀ s d b x f j o, s.cnv.dets.find? (fun b => b.det == d && s.due b.rel) = some b → s.routeDet d = some (x, f, j) → (s.ctx x).on = true →
      s.flag (DEC_ROUND x) DEC_ROUND_CLOSE = false → (s.ctx x).opens = [o] → o.final = f → (∀ z ∈ o.got, z.j ≠ j) →
    ∃ t, exec (.detectorArrival d) s = .next t
      ∧ (t.ctx x).opens = [{ o with got := o.got ++ [⟨j, b.val, b.erase, b.soft, false⟩] }]
      ∧ t.regs = s.regs ∧ { t with cnv := s.cnv, dec := s.dec } = s) ∧
  (∀ s x o r, x < 8 → (s.ctx x).opens = [o] → s.flag (DEC_ROUND x) DEC_ROUND_CLOSE = false → o.got.length = (s.ctx x).layerDets o →
      (s.ctx x).ovl = false → (s.ctx x).wait.length < 8 → r = s.closed_ x o (ceilFt s.tb1) → ∃ t, exec (.roundClose x) s = .next t
      ∧ (t.ctx x).opens = [] ∧ (t.ctx x).wait = (s.ctx x).wait ++ [r] ∧ (t.ctx x).idx = (s.ctx x).idx + 1
      ∧ t.rdN (DEC_RND_CNT x) = min 0xFFFFFFFF (s.rdN (DEC_RND_CNT x) + 1)
      ∧ t.fld (DEC_CSTS x) DEC_CSTS_BACKLOG = (s.ctx x).wait.length + 1
      ∧ (s.flag (DEC_CTL x) DEC_CTL_RAW = false → t.bus = s.bus)
      ∧ (s.flag (DEC_CTL x) DEC_CTL_RAW = true → ∃ y, t.bus = { s.bus with recs := s.bus.recs ++ [y] } ∧ y.qid = s.fld (DEC_QID x) DEC_QID_QID)
      ∧ s.keeps t [DEC_RND_CNT x, DEC_MISS_CNT x, DEC_LAT x, DEC_CSTS x] ∧ { t with regs := s.regs, dec := s.dec, bus := s.bus } = s) ∧
  (∀ s x o d r, x < 8 → (s.ctx x).opens = [o] → s.flag (DEC_ROUND x) DEC_ROUND_CLOSE = false →
      d = ceilFt o.opened + 16 * s.fld (DEC_ROUND x) DEC_ROUND_RDL → s.reached d = true → (s.ctx x).ovl = false → (s.ctx x).wait.length < 8 →
      r = s.closed_ x o d → (∀ z ∈ s.cnv.dets, s.due z.rel = false) → ∃ t, exec (.roundDeadline x) s = .next t
      ∧ (t.ctx x).opens = [] ∧ (t.ctx x).wait = (s.ctx x).wait ++ [r] ∧ (t.ctx x).idx = (s.ctx x).idx + 1
      ∧ t.rdN (DEC_RND_CNT x) = min 0xFFFFFFFF (s.rdN (DEC_RND_CNT x) + 1)
      ∧ s.keeps t [DEC_RND_CNT x, DEC_MISS_CNT x, DEC_LAT x, DEC_CSTS x] ∧ { t with regs := s.regs, dec := s.dec, bus := s.bus } = s) ∧
  (∀ s x at_ o r, x < 8 → s.flag (DEC_ROUND x) DEC_ROUND_CLOSE = true → (s.ctx x).on = true →
      at_ = (s.ctx x).org + (s.fld (DEC_RCLK x) DEC_RCLK_RB + (s.ctx x).idx * s.fld (DEC_RCLK x) DEC_RCLK_RP) * 16 → s.reached at_ = true →
      (∀ o ∈ (s.ctx x).opens, o.final = false) → o = ((s.ctx x).opens.head?).getD ⟨false, at_, []⟩ → (s.ctx x).ovl = false →
      (s.ctx x).wait.length < 8 → r = s.closed_ x o at_ → (∀ z ∈ s.cnv.dets, s.due z.rel = false) → ∃ t, exec (.roundClockClose x) s = .next t
      ∧ (t.ctx x).opens = [] ∧ (t.ctx x).wait = (s.ctx x).wait ++ [r] ∧ (t.ctx x).idx = (s.ctx x).idx + 1
      ∧ t.rdN (DEC_RND_CNT x) = min 0xFFFFFFFF (s.rdN (DEC_RND_CNT x) + 1)
      ∧ s.keeps t [DEC_RND_CNT x, DEC_MISS_CNT x, DEC_LAT x, DEC_CSTS x] ∧ { t with regs := s.regs, dec := s.dec, bus := s.bus } = s)

/-- R358 to R368 and R370 to R373. -/
def Obligations.DecodesCommitExchangeAndCorrect : Prop :=
  (∀ s x r rest c, (s.ctx x).tail = none → (s.ctx x).wait = r :: rest → s.reached r.s = true → (s.ctx x).cur = none → (s.ctx x).graph.spans = false →
      r.flush = 0 → r.final = false → r.log = none → rest.length < 16 → (s.ctx x).win.length + 1 < s.fld (DEC_CTL x) DEC_CTL_WIN →
      c = { s.ctx x with wait := rest, win := (s.ctx x).win ++ [r] } → ∃ t, exec (.decodeStart x false) s = .next t ∧ t.ctx x = c
      ∧ t.fld (DEC_CSTS x) DEC_CSTS_BACKLOG = rest.length ∧ s.keeps t [DEC_CSTS x] ∧ { t with regs := s.regs, dec := s.dec } = s) ∧
  (∀ s x r rest w es l, (s.ctx x).tail = none → (s.ctx x).wait = r :: rest → s.reached r.s = true → (s.ctx x).cur = none → (s.ctx x).graph.spans = false →
      r.flush = 0 → r.final = true → r.log = some l → w = (s.ctx x).win ++ [r] →
      es = (windowEdges (s.ctx x).graph w).filter (fun e => ({ s.ctx x with wait := rest, win := w } : DCtx).localCorr.contains e.pos) →
    ∃ t, exec (.decodeStart x false) s = .next t ∧ (t.ctx x).win = [] ∧ (t.ctx x).wait = rest ∧ (t.ctx x).acc = 0
      ∧ (t.ctx x).items = (s.ctx x).items ++ [⟨r.s + r.u * 16 + 640, pendingOf w es, true⟩]
      ∧ (t.ctx x).logs = (s.ctx x).logs ++ [(l, es.foldl (fun a e => a ^^^ e.e.obs) (s.ctx x).acc, (s.ctx x).deg, (s.ctx x).xcut)]
      ∧ s.keeps t [DEC_CSTS x] ∧ { t with regs := s.regs, dec := s.dec } = s) ∧
  (∀ s x r rest w, (s.ctx x).tail = none → (s.ctx x).wait = r :: rest → s.reached r.s = true → (s.ctx x).cur = none → (s.ctx x).graph.spans = true →
      w = (s.ctx x).win ++ [r] → ∃ t, exec (.decodeStart x false) s = .next t
      ∧ t.ctx x = { s.ctx x with wait := rest, win := w, cur := some ⟨growStart (windowEdges (s.ctx x).graph w) (windowEvents w), 0, r.s + r.v * 16, false, [], [], [], [], []⟩ }
      ∧ s.keeps t [DEC_CSTS x] ∧ { t with regs := s.regs, dec := s.dec } = s) ∧
  (∀ s x r rest, (s.ctx x).tail = none → (s.ctx x).wait = r :: rest → s.reached r.s = true → (s.ctx x).cur = none → (s.ctx x).on = true →
      (s.ctx x).ovl = false → (∀ q ∈ r :: rest, q.flush = 0) → (∀ q ∈ (s.ctx x).win, q.flush = 0) → ∃ t, exec (.decodeStart x true) s = .next t ∧ t.xst x = xOVERLOAD ∧ t.flag (DEC_CSTS x) DEC_CSTS_OVL_SEEN = true
      ∧ t.rdN (DEC_OVL_CNT x) = min 0xFFFFFFFF (s.rdN (DEC_OVL_CNT x) + 1) ∧ (t.ctx x).ovl = true ∧ (t.ctx x).wait = [] ∧ (t.ctx x).win = []
      ∧ (t.ctx x).items = [] ∧ t.bus.reports = s.bus.reports ++ [⟨E_DEC_ECC_UNCORR, false, islHub, x⟩]
      ∧ t.bus.recs.length = s.bus.recs.length + (rest.length + 1) ∧ s.keeps t [DEC_CSTS x, DEC_OVL_CNT x]) ∧
  (∀ s x r rest, (s.ctx x).tail = none → (s.ctx x).wait = r :: rest → s.reached r.s = true → (s.ctx x).cur = none → (s.ctx x).on = false →
    exec (.decodeStart x true) s = exec (.decodeStart x false) (s.report E_DEC_ECC_UNCORR islHub x)) ∧
  (∀ s x c0 c1 start l rel, (s.ctx x).cur = some c0 → start = c0.start + c0.pass * s.passFt x * 16 → s.reached start = true →
      c0.pass < s.passes x → c0.open_ = false → s.decLinks x = [l] → s.linkUp l = true → s.linkThree l = false → 106 ≤ s.passFt x →
      c1 = { c0 with pass := c0.pass + 1, open_ := true, inbox := [], answered := [], peel := [], route := [] } →
      (s.boundaryMsg x l c1).edges.length ≤ 30 → rel = start + (s.passFt x - 16) * 16 → tget s.ozl.fbLast l ≤ rel →
    ∃ t, exec (.boundaryPass x) s = .next t ∧ t.ctx x = { s.ctx x with cur := some c1 }
      ∧ t.dec.out = s.dec.out ++ [⟨l, rel, s.boundaryMsg x l c1⟩] ∧ (s.boundaryMsg x l c1).pass = c0.pass ∧ (s.boundaryMsg x l c1).peel = false
      ∧ tget t.ozl.fbLast l = rel ∧ t.regs = s.regs ∧ { t with dec := s.dec, ozl := s.ozl } = s) ∧
  (∀ s x l q cur, (s.ctx x).cur = some cur → cur.open_ = true → l ∈ s.decLinks x → l ∉ cur.answered → s.reached (s.passRel x cur) = false →
      s.reached (s.passRel x cur + 1) = false → ∃ t, exec (.boundaryMsgArrival x l (some q)) s = .next t
      ∧ t.ctx x = { s.ctx x with cur := some { cur with inbox := (cur.inbox.filter fun m => m.1 != l) ++ [(l, q)] } }
      ∧ t.regs = s.regs ∧ { t with dec := s.dec } = s) ∧
  (∀ s x l q cur, (s.ctx x).cur = some cur → l ∈ s.decLinks x → (s.reached (s.passRel x cur + 1) = true ∨ cur.open_ = false) →
    ∃ t, exec (.boundaryMsgArrival x l (some q)) s = .next t ∧ t.rdN GLB_LATE_CNT = min 0xFFFFFFFF (s.rdN GLB_LATE_CNT + 1)
      ∧ s.onlyRegs t [GLB_LATE_CNT]) ∧
  (∀ s x l q cur es, (s.ctx x).cur = some cur → cur.open_ = true → s.decLinks x = [l] → cur.answered = [] → cur.pass ≤ s.passes x →
      s.reached (s.passRel x cur) = true → cur.inbox = [(l, q)] → q.ctx = x → (∀ r, (s.ctx x).win.getLast? = some r → q.round = r.idx) →
      (s.ctx x).win ≠ [] → q.shot = (s.grp (s.decGroup x)).shot → q.replay = (s.grp (s.decGroup x)).attempt →
      es = windowEdges (s.ctx x).graph (s.ctx x).win → ∃ t, exec (.boundaryMsgArrival x l none) s = .next t
      ∧ t.ctx x = { s.ctx x with cur := some { cur with answered := [l], open_ := false, grow := growLoop es (2 * es.length + 2) (growRemote es (s.ctx x) l q cur.grow) } }
      ∧ t.regs = s.regs ∧ { t with dec := s.dec } = s) ∧
  (∀ s x l cur es, (s.ctx x).cur = some cur → cur.open_ = true → s.decLinks x = [l] → cur.answered = [] → cur.pass ≤ s.passes x →
      s.reached (s.passRel x cur) = true → cur.inbox = [] → es = windowEdges (s.ctx x).graph (s.ctx x).win →
    ∃ t, exec (.boundaryMsgArrival x l none) s = .next t
      ∧ t.ctx x = { s.ctx x with deg := true, cur := some { cur with answered := [l], open_ := false, grow := growLoop es (2 * es.length + 2) cur.grow } }
      ∧ t.rdN (DEC_XMISS_CNT x) = min 0xFFFFFFFF (s.rdN (DEC_XMISS_CNT x) + 1) ∧ t.flag (DEC_CSTS x) DEC_CSTS_XMISS_SEEN = true
      ∧ t.flag (DEC_CSTS x) DEC_CSTS_DEGRADED = true ∧ t.bus = { s.bus with reports := s.bus.reports ++ [⟨E_DEC_XMISS, false, islHub, x⟩] }
      ∧ s.keeps t [DEC_XMISS_CNT x, DEC_CSTS x] ∧ { t with regs := s.regs, dec := s.dec, bus := s.bus } = s) ∧
  (∀ s x b rest q p y z, (s.ctx x).items = b :: rest → s.reached (b.f - 160) = true → b.items = [(q, p)] → b.clear = false →
      (s.ctx x).graph.targets[q]? = some (y, z) → ∃ t, exec (.frameItemSend x) s = .next t ∧ (t.ctx x).items = rest
      ∧ (t.ctx x).mirror = (addPauli q p (s.ctx x).mirror).filter (fun m => m.2 % 4 != 0)
      ∧ t.bus = { s.bus with transit := s.bus.transit ++ [⟨b.f, islHub, y, .fb, .corr y z (bit p 1) (bit p 0) x⟩] } ∧ t.regs = s.regs
      ∧ { t with dec := s.dec, bus := s.bus } = s) ∧
  (∀ s x l acc deg xcut rest, (s.ctx x).logs = (l, acc, deg, xcut) :: rest → s.reached l.f = true → ∃ t, exec (.logicalRecord x) s = .next t
      ∧ t.rd (DEC_OBS x) = BitVec.ofNat 64 ((s.fld (DEC_OBS x) DEC_OBS_LCOUNT + 1) % 2 ^ 24 * 2 ^ 8 + logObs l acc)
      ∧ t.ctx x = { s.ctx x with logs := rest }
      ∧ (∃ y, t.bus = { s.bus with recs := s.bus.recs ++ [y] } ∧ y.qid = s.fld (DEC_QID x) DEC_QID_QID ∧ y.words.getD 1 0 = l.f % 2 ^ 64)
      ∧ s.keeps t [DEC_OBS x] ∧ { t with regs := s.regs, dec := s.dec, bus := s.bus } = s) ∧
  (∀ s x, s.xst x = xFLUSH → s.reached (s.ctx x).flushAt = true → (∀ l ∈ (s.ctx x).logs, (s.ctx x).on = true ∧ l.1.pass = s.decPass x) →
    ∃ t, exec (.decFlushComplete x) s = .next t ∧ t.xst x = (if (s.ctx x).on = true then xRUN else xREADY) ∧ s.onlyRegs t [DEC_CSTS x])

/-- R375, R377 to R381, R385, R393 and Table 12-1. -/
def Obligations.WinchArithmeticWritesItsRegister : Prop :=
  (∀ s x w, s.wGoes x 0 w → ∃ t, exec (.wchNop x 0) s = .next t ∧ s.wMoved t x [] ∧ { t with regs := s.regs } = s) ∧
  (∀ s x, ∃ t, exec (.wchNop x 1) s = .next t ∧ t.rdN (WCH_ECC_CNT x) = min 0xFFFFFFFF (s.rdN (WCH_ECC_CNT x) + 1)
      ∧ s.onlyRegs t [WCH_ECC_CNT x]) ∧
  (∀ s x, s.wReady x = true → ∃ t, exec (.wchNop x 2) s = .next t ∧ s.wStruck t x E_WCH_ECC_UNCORR) ∧
  (∀ s x w, s.wInsn x = w → 0x18 ≤ bits w 31 26 → s.wReady x = true → s.wBreak x = false →
    ∃ t, exec (.wchNop x 0) s = .next t ∧ s.wStruck t x E_WCH_RSVD_ENC) ∧
  (∀ s x w, s.wGoes x 1 w → ∃ t, exec (.wchMov x) s = .next t ∧ t.wD x (bits w 25 22) = s.wD x (bits w 21 18) % 2 ^ 48
      ∧ s.wMoved t x [WCH_REG x (bits w 25 22)] ∧ { t with regs := s.regs } = s) ∧
  (∀ s x w, s.wGoes x 2 w → ∃ t, exec (.wchMovi x) s = .next t ∧ t.wD x (bits w 25 22) = unsgn 48 (sgn 22 (bits w 21 0))
      ∧ s.wMoved t x [WCH_REG x (bits w 25 22)] ∧ { t with regs := s.regs } = s) ∧
  (∀ s x w, s.wGoes x 3 w → ∃ t, exec (.wchMovs x) s = .next t
      ∧ t.wD x (bits w 25 22) = (s.wD x (bits w 25 22) * 2 ^ 22 + bits w 21 0) % 2 ^ 48
      ∧ s.wMoved t x [WCH_REG x (bits w 25 22)] ∧ { t with regs := s.regs } = s) ∧
  (∀ s x w, s.wGoes x 4 w → bits w 13 10 ≤ 9 → ∃ t, exec (.wchAlu x) s = .next t
      ∧ t.wD x (bits w 25 22) = wAluCx (bit w 9) (bits w 13 10) (s.wD x (bits w 21 18)) (s.wD x (bits w 17 14)) % 2 ^ 48
      ∧ s.wMoved t x [WCH_REG x (bits w 25 22)] ∧ { t with regs := s.regs } = s) ∧
  (∀ s x w, s.wGoes x 4 w → 9 < bits w 13 10 → ∃ t, exec (.wchAlu x) s = .next t ∧ s.wStruck t x E_WCH_RSVD_ENC) ∧
  (∀ s x w n r, s.wGoes x 5 w → n = bits w 25 24 →
      r = macVal (s.wAcc x n) (s.wD x (bits w 23 20)) (s.wD x (bits w 19 16)) (bit w 15) (bit w 14) (bit w 13) (bit w 12) →
    ∃ t, exec (.mac x) s = .next t ∧ t.wAcc x n = r.1 % 2 ^ 104
      ∧ t.flag (WCH_CSTS x) WCH_CSTS_ACC_OVF = (s.flag (WCH_CSTS x) WCH_CSTS_ACC_OVF || r.2)
      ∧ s.wMoved t x [WCH_REG x (16 + 2 * n), WCH_REG x (17 + 2 * n)] ∧ { t with regs := s.regs } = s) ∧
  (∀ s x w r, s.wGoes x 7 w → r = accxVal (s.wAcc x (bits w 21 20)) (bits w 19 14) (bit w 13) → ∃ t, exec (.accx x) s = .next t
      ∧ t.wD x (bits w 25 22) = r.1 % 2 ^ 48 ∧ t.flag (WCH_CSTS x) WCH_CSTS_SAT = (s.flag (WCH_CSTS x) WCH_CSTS_SAT || r.2)
      ∧ s.wMoved t x [WCH_REG x (bits w 25 22)] ∧ { t with regs := s.regs } = s) ∧
  (∀ s x w n b, s.wGoes x 8 w → n = bits w 25 24 → b = s.wD x (bits w 23 20) → ∃ t, exec (.divs x) s = .next t
      ∧ t.wAcc x n = divStep (s.wAcc x n) b % 2 ^ 104 ∧ t.flag (WCH_CSTS x) WCH_CSTS_DIV0 = (s.flag (WCH_CSTS x) WCH_CSTS_DIV0 || b == 0)
      ∧ s.wMoved t x [WCH_REG x (16 + 2 * n), WCH_REG x (17 + 2 * n)] ∧ { t with regs := s.regs } = s) ∧
  (∀ s x w, s.wGoes x 0x0C w → bits w 21 17 ≤ 0x1D → ∃ t, exec (.mfs x) s = .next t
      ∧ t.wD x (bits w 25 22) = s.wSpr x (bits w 21 17) % 2 ^ 48 ∧ s.wMoved t x [WCH_REG x (bits w 25 22)] ∧ { t with regs := s.regs } = s) ∧
  (∀ s x w, s.wGoes x 0x11 w → ∃ t, exec (.gett x) s = .next t ∧ t.wD x (bits w 25 22) = s.tb1 % 2 ^ 48
      ∧ s.wMoved t x [WCH_REG x (bits w 25 22)] ∧ { t with regs := s.regs } = s)

/-- R382 to R386 and Table 12-2. -/
def Obligations.WinchMemoryLoopsAndBranches : Prop :=
  (∀ s x w n a, s.wGoes x 9 w → n = bits w 21 19 → s.wPoints x n a → ∃ t, exec (.ld x) s = .next t
      ∧ t.wD x (bits w 25 22) = s.wWord x a % 2 ^ 48 ∧ t.wSpr x n = s.wStepped x n (bits w 18 11)
      ∧ s.wMoved t x [WCH_REG x (bits w 25 22), WCH_REG x (24 + n)] ∧ { t with regs := s.regs } = s) ∧
  (∀ s x w n p, s.wGoes x 9 w → n = bits w 21 19 → s.wSpr x (0x10 + n) ≠ 0 → s.wSpr x (0x10 + n) ≤ s.wSpr x n → s.wSpr x n < 2 ^ 16 →
      p = s.wSpr x n % s.wSpr x (0x10 + n) → s.wSpr x (0x08 + n) + p < 65536 → ∃ t, exec (.ld x) s = .next t
      ∧ t.wD x (bits w 25 22) = s.wWord x (s.wSpr x (0x08 + n) + p) % 2 ^ 48 ∧ t.flag (WCH_CSTS x) WCH_CSTS_CIRC_CLAMP = true
      ∧ t.rdN (WCH_CLAMP_CNT x) = min 0xFFFFFFFF (s.rdN (WCH_CLAMP_CNT x) + 1)
      ∧ s.wMoved t x [WCH_REG x (bits w 25 22), WCH_REG x (24 + n), WCH_CLAMP_CNT x] ∧ { t with regs := s.regs } = s) ∧
  (∀ s x w n, s.wGoes x 9 w → n = bits w 21 19 → (s.wSpr x (0x10 + n) = 0 ∨ s.wSpr x n < s.wSpr x (0x10 + n)) →
      65536 ≤ s.wSpr x (0x08 + n) + s.wSpr x n → ∃ t, exec (.ld x) s = .next t ∧ s.wStruck t x E_WCH_ADDR) ∧
  (∀ s x w n a, s.wGoes x 0x0A w → n = bits w 21 19 → s.wPoints x n a → ∃ t, exec (.st x) s = .next t
      ∧ t.wWord x a = s.wD x (bits w 25 22)
      ∧ (∀ b, b < 524288 * x + 8 * a ∨ 524288 * x + 8 * a + 8 ≤ b → ldByte t.wch.mem b = ldByte s.wch.mem b)
      ∧ t.wSpr x n = s.wStepped x n (bits w 18 11) ∧ s.wMoved t x [WCH_REG x (24 + n)]
      ∧ t.wch.cores = s.wch.cores ∧ { t with regs := s.regs, wch := s.wch } = s) ∧
  (∀ s x w n a m r, s.wGoes x 6 w → n = bits w 19 17 → s.wPoints x n a → m = bits w 25 24 →
      r = macVal (s.wAcc x m) (s.wD x (bits w 23 20)) (s.wWord x a % 2 ^ 48) (bit w 16) (bit w 15) (bit w 14) (bit w 13) →
    ∃ t, exec (.macp x) s = .next t ∧ t.wAcc x m = r.1 % 2 ^ 104
      ∧ t.flag (WCH_CSTS x) WCH_CSTS_ACC_OVF = (s.flag (WCH_CSTS x) WCH_CSTS_ACC_OVF || r.2) ∧ t.wSpr x n = s.wStepped x n (bits w 12 5)
      ∧ s.wMoved t x [WCH_REG x (16 + 2 * m), WCH_REG x (17 + 2 * m), WCH_REG x (24 + n)] ∧ { t with regs := s.regs } = s) ∧
  (∀ s x w k v, s.wGoes x 0x0B w → k = bits w 25 21 → v = (if bit w 20 = true then s.wD x (bits w 3 0) else bits w 16 0) → k ≤ 0x1C →
      ∃ t, exec (.mts x) s = .next t ∧ t.wSpr x k = v % 2 ^ sprWidth k
      ∧ t.wPC x = (if s.wAgain x = true then s.wSpr x 0x19 else s.wPC x + 1) % 2 ^ 17 ∧ (k = 0x1A → t.wLA x = true)
      ∧ (k ≠ 0x1A → t.wLA x = (s.wLA x && (!s.wLast x || s.wAgain x))) ∧ t.wst x = s.wst x
      ∧ s.onlyRegs t [WCH_REG x (24 + k), WCH_PC x, WCH_CSTS x, WCH_REG x 48]) ∧
  (∀ s x w v, s.wGoes x 0x0B w → bits w 25 21 = 0x1D → v = (if bit w 20 = true then s.wD x (bits w 3 0) else bits w 16 0) →
      ∃ t, exec (.mts x) s = .next t ∧ t.rdN (WCH_IPEND x) = (s.rdN (WCH_IPEND x) &&& (7 - v % 8)) % 8
      ∧ s.wMoved t x [WCH_IPEND x] ∧ { t with regs := s.regs } = s) ∧
  (∀ s x w n b, s.wGoes x 0x0D w → n = s.wD x (bits w 25 22) % 2 ^ 20 → b = bits w 16 0 → 0 < n → 0 < b → s.wPC x + b ≤ 131071 →
    ∃ t, exec (.wchLoop x) s = .next t ∧ t.wSpr x 0x18 = n ∧ t.wSpr x 0x19 = s.wPC x + 1 ∧ t.wSpr x 0x1A = s.wPC x + b
      ∧ t.wLA x = true ∧ t.wPC x = s.wPC x + 1 ∧ t.wst x = s.wst x
      ∧ s.onlyRegs t [WCH_REG x 48, WCH_REG x 49, WCH_REG x 50, WCH_CSTS x, WCH_PC x]) ∧
  (∀ s x w, s.wGoes x 0x0D w → (s.wD x (bits w 25 22) % 2 ^ 20 = 0 ∨ bits w 16 0 = 0) → ∃ t, exec (.wchLoop x) s = .next t
      ∧ s.wStruck t x E_WCH_ZERO_LEN) ∧
  (∀ s x w, s.wGoes x 0x0E w → bits w 25 23 ≠ 7 → wCond (bits w 25 23) (s.wD x (bits w 22 19)) (s.wD x (bits w 18 15)) = false →
    ∃ t, exec (.wchBr x) s = .next t ∧ t.wPC x = (s.wPC x + 1) % 2 ^ 17 ∧ s.onlyRegs t [WCH_PC x]) ∧
  (∀ s x w n, s.wGoes x 0x0E w → bits w 25 23 ≠ 7 → wCond (bits w 25 23) (s.wD x (bits w 22 19)) (s.wD x (bits w 18 15)) = true →
      n = (((s.wPC x : Int) + 1 + sgn 15 (bits w 14 0)) % 131072).toNat → ∃ t, exec (.wchBr x) s = .next t ∧ t.wPC x = n
      ∧ t.wLA x = (s.wLA x && (decide (s.wSpr x 0x19 ≤ n) && decide (n ≤ s.wSpr x 0x1A))) ∧ t.wst x = s.wst x
      ∧ s.onlyRegs t [WCH_PC x, WCH_CSTS x]) ∧
  (∀ s x w, s.wGoes x 0x0F w → ∃ t, exec (.jl x) s = .next t ∧ t.wPC x = bits w 16 0 ∧ t.wD x (bits w 25 22) = s.wPC x + 1
      ∧ t.wLA x = (s.wLA x && (decide (s.wSpr x 0x19 ≤ bits w 16 0) && decide (bits w 16 0 ≤ s.wSpr x 0x1A))) ∧ t.wst x = s.wst x
      ∧ s.onlyRegs t [WCH_PC x, WCH_CSTS x, WCH_REG x (bits w 25 22)]) ∧
  (∀ s x w n, s.wGoes x 0x10 w → n = s.wD x (bits w 25 22) % 2 ^ 17 → ∃ t, exec (.jr x) s = .next t ∧ t.wPC x = n
      ∧ t.wLA x = (s.wLA x && (decide (s.wSpr x 0x19 ≤ n) && decide (n ≤ s.wSpr x 0x1A))) ∧ t.wst x = s.wst x
      ∧ s.onlyRegs t [WCH_PC x, WCH_CSTS x])

/-- R375, R387, R394 and Tables 12-2 and 12-4. -/
def Obligations.WinchCoresStartStopAndTakeInterrupts : Prop :=
  (∀ s x, x < 8 → s.opens (WCH_CTL x) → s.wst x = wIDLE → (s.dev = dREADY ∨ s.dev = dRUN) →
      (s.flag (WCH_CTL x) WCH_CTL_MODE = true ∨ ∀ z, z < 8 → z ≠ x → s.flag (WCH_CTL z) WCH_CTL_RUN = true →
        s.flag (WCH_CTL z) WCH_CTL_MODE = false → s.rdN (WCH_RQID z) ≠ s.rdN (WCH_RQID x)) →
    ∃ t, exec (.wchRunStart x) s = .next t ∧ t.flag (WCH_CTL x) WCH_CTL_RUN = true
      ∧ t.wst x = (if s.flag (WCH_CTL x) WCH_CTL_HALT = true then wHALTED else wRUN) ∧ t.fld (WCH_CSTS x) WCH_CSTS_STATUS = 0
      ∧ s.onlyRegs t [WCH_CTL x, WCH_CSTS x]) ∧
  (∀ s x, x < 8 → s.opens (WCH_CTL x) → (s.wst x ≠ wIDLE ∨ (s.dev ≠ dREADY ∧ s.dev ≠ dRUN)) → ∃ t, exec (.wchRunStart x) s = .next t
      ∧ t.fld (WCH_CSTS x) WCH_CSTS_STATUS = E_WCH_STATE ∧ s.onlyRegs t [WCH_CSTS x]) ∧
  (∀ s x, x < 8 → s.opens (WCH_CTL x) → s.wst x ≠ wOFF → s.wst x ≠ wIDLE → (s.core x).svc = none → (s.core x).xfers = [] →
    ∃ t, exec (.wchRunStop x) s = .next t ∧ t.flag (WCH_CTL x) WCH_CTL_RUN = false ∧ t.wst x = wIDLE ∧ (t.core x).stopping = false
      ∧ s.keeps t [WCH_CTL x, WCH_CSTS x] ∧ { t with regs := s.regs, wch := s.wch } = s) ∧
  (∀ s x, x < 8 → s.opens (WCH_CTL x) → (s.wst x = wRUN ∨ s.wst x = wWAIT) → (s.core x).svc = none → (s.core x).xfers ≠ [] →
    ∃ t, exec (.wchRunStop x) s = .next t ∧ t.flag (WCH_CTL x) WCH_CTL_RUN = false ∧ t.wst x = s.wst x
      ∧ t.core x = { s.core x with stopping := true } ∧ s.keeps t [WCH_CTL x, WCH_CSTS x] ∧ { t with regs := s.regs, wch := s.wch } = s) ∧
  (∀ s x v, x < 8 → s.opens (WCH_CTL x) → (s.wst x = wRUN ∨ s.wst x = wWAIT) → (s.core x).svc = some v → v.code = 0 → ∃ t, exec (.wchRunStop x) s = .next t
      ∧ t.flag (WCH_CTL x) WCH_CTL_RUN = false ∧ (t.core x).svc = none
      ∧ t.rdN (WCH_SVC_CNT x) = min 0xFFFFFFFF (s.rdN (WCH_SVC_CNT x) + 1)
      ∧ (∃ r, t.bus = { s.bus with recs := s.bus.recs ++ [r] } ∧ r.words.getD 0 0 % 2 ^ 16 = E_WCH_SVC_ABORTED)
      ∧ s.keeps t [WCH_CTL x, WCH_CSTS x, WCH_SVC_CNT x, WCH_HOLD]) ∧
  (∀ s x, s.opens (WCH_CTL x) → ∃ t, exec (.wchHaltSet x) s = .next t ∧ t.flag (WCH_CTL x) WCH_CTL_HALT = true
      ∧ t.wst x = (if s.wst x = wRUN ∨ s.wst x = wWAIT then wHALTED else s.wst x) ∧ s.onlyRegs t [WCH_CTL x, WCH_CSTS x]) ∧
  (∀ s x, s.opens (WCH_CTL x) → ∃ t, exec (.wchHaltClear x) s = .next t ∧ t.flag (WCH_CTL x) WCH_CTL_HALT = false
      ∧ t.wst x = (if s.wst x = wHALTED then wRUN else s.wst x) ∧ s.onlyRegs t [WCH_CTL x, WCH_CSTS x]) ∧
  (∀ s x m, s.opens (WCH_CTL x) → s.wst x = wIDLE → m < 2 → ∃ t, exec (.wchModeWrite x m) s = .next t
      ∧ t.fld (WCH_CTL x) WCH_CTL_MODE = m ∧ t.fld (WCH_CSTS x) WCH_CSTS_STATUS = 0 ∧ s.onlyRegs t [WCH_CTL x, WCH_CSTS x]) ∧
  (∀ s x m, s.opens (WCH_CTL x) → s.wst x ≠ wIDLE → ∃ t, exec (.wchModeWrite x m) s = .next t
      ∧ t.fld (WCH_CSTS x) WCH_CSTS_STATUS = E_WCH_STATE ∧ s.onlyRegs t [WCH_CSTS x]) ∧
  (∀ s x, s.opens (WCH_IPEND x) → ∃ t, exec (.wchDoorbell x) s = .next t ∧ t.flag (WCH_IPEND x) WCH_IPEND_DOORBELL = true
      ∧ t.wst x = (if s.wst x = wWAIT ∧ t.wPend x = true then wRUN else s.wst x) ∧ s.onlyRegs t [WCH_IPEND x, WCH_CSTS x]) ∧
  (∀ s x, s.wst x = wRUN → (s.core x).stopping = false → s.flag (WCH_CTL x) WCH_CTL_MODE = true → s.fld WCH_STS WCH_STS_CLK ≠ 2 → s.wIE x = true → s.wPend x = true → x < 8 →
    ∃ t, exec (.wchInterruptEntry x) s = .next t ∧ t.wSpr x 0x1B = s.wPC x ∧ t.wSpr x 0x1C = 2 * b01 (s.wLA x) ∧ t.wIE x = false
      ∧ t.wLA x = false ∧ t.wPC x = s.fld (WCH_IVEC x) WCH_IVEC_PC ∧ t.wst x = wRUN
      ∧ s.onlyRegs t [WCH_REG x 51, WCH_REG x 52, WCH_CSTS x, WCH_PC x]) ∧
  (∀ s x, (s.wIE x = false ∨ s.wPend x = false) → exec (.wchInterruptEntry x) s = .next s) ∧
  (∀ s x w, s.wGoes x 0x15 w → ∃ t, exec (.waiti x) s = .next t ∧ t.wPC x = (s.wPC x + 1) % 2 ^ 17
      ∧ t.wst x = (if s.wPend x = true then s.wst x else wWAIT) ∧ s.onlyRegs t [WCH_PC x, WCH_CSTS x]) ∧
  (∀ s x w, s.wGoes x 0x16 w → ∃ t, exec (.reti x) s = .next t ∧ t.wPC x = s.wSpr x 0x1B % 2 ^ 17 ∧ t.wLA x = bit (s.wSpr x 0x1C) 1
      ∧ t.wIE x = true ∧ t.wst x = s.wst x ∧ s.onlyRegs t [WCH_PC x, WCH_CSTS x, WCH_REG x 52]) ∧
  (∀ s x w, s.wGoes x 0x17 w → ∃ t, exec (.halt x) s = .next t ∧ t.wPC x = (s.wPC x + 1) % 2 ^ 17 ∧ t.wst x = wHALTED
      ∧ s.onlyRegs t [WCH_PC x, WCH_CSTS x])

/-- R389, R391, R392, R397 to R400 and Tables 12-5 to 12-7. -/
def Obligations.WinchItemsTransfersAndServices : Prop :=
  (∀ s x w n a rel off, s.wGoes x 0x12 w → s.wItems x < 16 → n = bits w 20 18 → s.wPoints x n a → a < 65535 → s.tb1Run = true →
      rel = emitRel s.tb1 (s.wD x (bits w 25 22)) (bit w 21) → s.tb1 + 640 ≤ rel → off = bits (s.wWord x a) 25 0 → s.wMayPage x off = true →
    ∃ t, exec (.emit x) s = .next t ∧ s.wMoved t x []
      ∧ t.bus = { s.bus with transit := s.bus.transit ++ [⟨rel, islWinch, (off - 0x1000000) / 0x40000, .ctrl, .emit off (BitVec.ofNat 64 (if bit (s.wWord x a) 28 = true then s.wWord x (a + 1) % w48 else s.wWord x (a + 1) % 2 ^ 32)) (bit (s.wWord x a) 28) x⟩] }
      ∧ { t with regs := s.regs, bus := s.bus } = s) ∧
  (∀ s x w n a, s.wGoes x 0x12 w → s.wItems x < 16 → n = bits w 20 18 → s.wPoints x n a → a < 65535 → s.tb1Run = false →
    ∃ t, exec (.emit x) s = .next t ∧ s.wMoved t x [WCH_IPEND x] ∧ t.flag (WCH_IPEND x) WCH_IPEND_EMIT_REF = true
      ∧ t.fld (WCH_CSTS x) WCH_CSTS_STATUS = E_GLB_TB1_STOPPED ∧ { t with regs := s.regs } = s) ∧
  (∀ s x w n a, s.wGoes x 0x12 w → s.wItems x < 16 → n = bits w 20 18 → s.wPoints x n a → a < 65535 → s.tb1Run = true →
      emitRel s.tb1 (s.wD x (bits w 25 22)) (bit w 21) < s.tb1 + 640 → ∃ t, exec (.emit x) s = .next t ∧ s.wMoved t x [WCH_IPEND x]
      ∧ t.flag (WCH_IPEND x) WCH_IPEND_EMIT_REF = true ∧ t.fld (WCH_CSTS x) WCH_CSTS_STATUS = E_GLB_LEAD_SHORT ∧ { t with regs := s.regs } = s) ∧
  (∀ s x w, s.wGoes x 0x12 w → 16 ≤ s.wItems x → exec (.emit x) s = .next s) ∧
  (∀ s x w n a d, s.wGoes x 0x13 w → n = bits w 25 23 → s.wPoints x n a → a < 65533 → d = 524288 * x + 8 * a →
    ∃ t, exec (.xfer x) s = .next t ∧ s.wMoved t x [IMG_DENY, IMG_DENY_CNT]
      ∧ (∃ q : Xfer, (t.core x).xfers = (s.core x).xfers ++ [q] ∧ q.desc = 8 * a ∧ q.kind = ldBytes s.wch.mem d 1 ∧ q.st = ldBytes s.wch.mem (d + 1) 1
          ∧ q.loc = ldBytes s.wch.mem (d + 4) 4 ∧ q.rem = ldBytes s.wch.mem (d + 8) 8 ∧ q.len = ldBytes s.wch.mem (d + 0x10) 4
          ∧ q.code = s.xferCheck x { q with code := 0 } (ldBytes s.wch.mem (d + 2) 2 != 0 || ldBytes s.wch.mem (d + 0x18) 8 != 0))
      ∧ t.wch.mem = s.wch.mem ∧ { t with regs := s.regs, wch := s.wch } = s) ∧
  (∀ s x i q a, (s.core x).xfers[i]? = some q → s.fld WCH_STS WCH_STS_CLK ≠ 2 → q.code ≠ 0 → (s.core x).stopping = false →
      a = 524288 * x + q.desc + 0x14 → ∃ t, exec (.xferComplete x i) s = .next t ∧ (t.core x).xfers = (s.core x).xfers.eraseIdx i
      ∧ ldBytes t.wch.mem a 4 = q.code % 2 ^ 16 * 2 ^ 16 + 1 ∧ (∀ b, b < a ∨ a + 4 ≤ b → ldByte t.wch.mem b = ldByte s.wch.mem b)
      ∧ t.flag (WCH_IPEND x) WCH_IPEND_XFER_DONE = true ∧ s.keeps t [WCH_IPEND x, WCH_CSTS x] ∧ { t with regs := s.regs, wch := s.wch } = s) ∧
  (∀ s x i q, (s.core x).xfers[i]? = some q → s.fld WCH_STS WCH_STS_CLK ≠ 2 → q.code = 0 → q.st = 1 → (s.core x).stopping = false →
    ∃ t, exec (.xferComplete x i) s = .next t ∧ (t.core x).xfers = (s.core x).xfers.eraseIdx i
      ∧ (q.kind = 1 → t.cnv = s.cnv ∧ t.wch.mem = stBytes (stList s.wch.mem (524288 * x + 8 * q.loc) (ldList s.cnv.res q.rem q.len))
          (524288 * x + q.desc + 0x14) 4 1)
      ∧ (q.kind = 2 → t.cnv = { s.cnv with res := stList s.cnv.res q.rem (ldList s.wch.mem (524288 * x + 8 * q.loc) q.len) }
          ∧ t.wch.mem = stBytes s.wch.mem (524288 * x + q.desc + 0x14) 4 1)
      ∧ t.flag (WCH_IPEND x) WCH_IPEND_XFER_DONE = true ∧ s.keeps t [WCH_IPEND x, WCH_CSTS x]) ∧
  (∀ s x w, s.wGoes x 0x14 w → (s.core x).xfers = [] → s.wItems x = 0 → ∃ t, exec (.wchFence x) s = .next t ∧ s.wMoved t x []
      ∧ { t with regs := s.regs } = s) ∧
  (∀ s x w, s.wGoes x 0x14 w → ((s.core x).xfers ≠ [] ∨ s.wItems x ≠ 0) → exec (.wchFence x) s = .next s) ∧
  (∀ p ∈ [(Instr.svcResSpec, 1), (Instr.svcRabi, 2), (Instr.svcRamsey, 3), (Instr.svcDrag, 4), (Instr.svcKtrain, 5), (Instr.svcFluxid, 6)],
      ∀ s x ws y q, s.svcReady x = true → svcCode (s.svcWords x ws) = p.2 → s.svcCheck x (s.svcWords x ws) = 0 → y = svcYard (s.svcWords x ws) →
      q = s.que (s.rdN (WCH_RQID x)) → ∃ t, exec (p.1 x ws) s = .next t ∧ (t.core x).svc = some ⟨s.svcWords x ws, 0, []⟩
      ∧ t.rd WCH_HOLD = s.rd WCH_HOLD ||| BitVec.ofNat 64 (2 ^ y) ∧ (t.grp (s.groupOf y)).byService = some x
      ∧ t.que (s.rdN (WCH_RQID x)) = { q with fetch := q.next q.cons 1, cons := q.next q.cons 1 }
      ∧ (∀ b, b < 262144 * y + 8 * svcProg (s.svcWords x ws) ∨ 262144 * y + 8 * svcProg (s.svcWords x ws) + 2048 ≤ b →
          ldByte t.seq.store b = ldByte s.seq.store b)
      ∧ s.keeps t [WCH_HOLD] ∧ { t with regs := s.regs, wch := s.wch, hif := s.hif, seq := s.seq, bus := s.bus } = s) ∧
  (∀ p ∈ [(Instr.svcStats, 0x10), (Instr.svcHist, 0x11)], ∀ s x ws q, s.svcReady x = true → svcCode (s.svcWords x ws) = p.2 →
      s.svcCheck x (s.svcWords x ws) = 0 → q = s.que (s.rdN (WCH_RQID x)) → ∃ t, exec (p.1 x ws) s = .next t
      ∧ (t.core x).svc = some ⟨s.svcWords x ws, 0, []⟩ ∧ t.que (s.rdN (WCH_RQID x)) = { q with fetch := q.next q.cons 1, cons := q.next q.cons 1 }
      ∧ t.regs = s.regs ∧ { t with wch := s.wch, hif := s.hif } = s) ∧
  (∀ s x ws i, s.svcReady x = true → svcCode (s.svcWords x ws) = 0x12 → s.svcCheck x (s.svcWords x ws) = 0 →
      i = ⟨1, (s.wPart x).getD 0, bits (svcArg (s.svcWords x ws) 0) 27 16, svcArg (s.svcWords x ws) 0 % 128, none⟩ →
      s.injCheck (i.input / 8) i = 0 → ∃ t, exec (.svcMoninj x ws) s = .next t ∧ (t.core x).svc = some ⟨s.svcWords x ws, 0, []⟩
      ∧ (t.mon (i.input / 8)).waiting = (s.mon (i.input / 8)).waiting ++ [i]
      ∧ s.keeps t [monSTS (i.input / 8), MON_INJ_Q (i.input / 8 / 4) (i.input / 8 % 4)]
      ∧ { t with regs := s.regs, wch := s.wch, hif := s.hif, cnv := s.cnv } = s) ∧
  (∀ p ∈ [(Instr.svcResSpec, 1), (Instr.svcRabi, 2), (Instr.svcRamsey, 3), (Instr.svcDrag, 4), (Instr.svcKtrain, 5), (Instr.svcFluxid, 6),
        (Instr.svcStats, 0x10), (Instr.svcHist, 0x11), (Instr.svcMoninj, 0x12)],
      ∀ s x ws, s.svcReady x = true → svcCode (s.svcWords x ws) = p.2 → s.svcCheck x (s.svcWords x ws) ≠ 0 → ∃ t, exec (p.1 x ws) s = .next t
      ∧ (t.core x).svc = none ∧ t.rdN (WCH_SVC_CNT x) = min 0xFFFFFFFF (s.rdN (WCH_SVC_CNT x) + 1)
      ∧ (∃ r, t.bus = { s.bus with recs := s.bus.recs ++ [r] } ∧ r.words.getD 0 0 = s.svcCheck x (s.svcWords x ws) % 2 ^ 16
          + p.2 * 2 ^ 16 + x * 2 ^ 24 + svcTag (s.svcWords x ws) * 2 ^ 32)
      ∧ s.keeps t [WCH_SVC_CNT x, IMG_DENY, IMG_DENY_CNT] ∧ { t with regs := s.regs, wch := s.wch, hif := s.hif, bus := s.bus } = s) ∧
  (∀ s x conv shots out summary writes v, (s.core x).svc = some v → s.fld WCH_STS WCH_STS_CLK ≠ 2 → s.wst x = wRUN → v.code = 0 →
      svcCode v.words ≠ 0x12 → (svcHolds v.words = true ∨ svcShots v.words ≤ shots ∨ s.yIdle (svcYard v.words) = true) →
      (svcHolds v.words = true → s.yIdle (svcYard v.words) = true) → ∃ t, exec (.svcComplete x conv shots out summary writes) s = .next t
      ∧ (t.core x).svc = none ∧ t.rdN (WCH_SVC_CNT x) = min 0xFFFFFFFF (s.rdN (WCH_SVC_CNT x) + 1)
      ∧ (∃ r, t.bus.recs = s.bus.recs ++ [r] ∧ r.qid = svcCqid v.words % 2 ^ 18
          ∧ r.words.getD 0 0 = (if conv = true then 0 else E_WCH_FIT) + svcCode v.words * 2 ^ 16 + x * 2 ^ 24 + svcTag v.words * 2 ^ 32)
      ∧ (svcPages v.words ≠ 0 → t.cnv = { s.cnv with res := stList s.cnv.res (4096 * svcPage v.words) (out.take (svcOutBytes v.words)) })
      ∧ (svcPages v.words = 0 → t.cnv = s.cnv)
      ∧ (conv = false ∨ bit (svcFlags v.words) 0 = false → t.bus.transit = s.bus.transit)
      ∧ (conv = true → bit (svcFlags v.words) 0 = true → s.tb1Run = true → ∀ i w, ((s.svcWrites v.words summary writes).filter (fun w => s.svcApplies v.words w.1))[i]? = some w →
          ∃ m ∈ t.bus.transit, m.rel = s.tb1 + 640 + i * 16 ∧ m.act = .emit w.1 (BitVec.ofNat 64 w.2.1) w.2.2 x)
      ∧ s.keeps t [WCH_SVC_CNT x, WCH_HOLD]) ∧
  (∀ s x conv shots out summary writes v, (s.core x).svc = some v → s.fld WCH_STS WCH_STS_CLK ≠ 2 → s.wst x = wRUN → v.code = 0 →
      svcCode v.words = 0x12 → v.res ≠ [] → ∃ t, exec (.svcComplete x conv shots out summary writes) s = .next t ∧ (t.core x).svc = none
      ∧ t.rdN (WCH_SVC_CNT x) = min 0xFFFFFFFF (s.rdN (WCH_SVC_CNT x) + 1)
      ∧ (∃ r, t.bus = { s.bus with recs := s.bus.recs ++ [r] } ∧ r.qid = svcCqid v.words % 2 ^ 18 ∧ r.words.getD 3 0 = v.res.getD 0 0 % 2 ^ 64)
      ∧ s.keeps t [WCH_SVC_CNT x] ∧ { t with regs := s.regs, wch := s.wch, bus := s.bus } = s) ∧
  (∀ s x conv shots out summary writes v, (s.core x).svc = some v → v.code = 0 → svcCode v.words = 0x12 → v.res = [] →
    exec (.svcComplete x conv shots out summary writes) s = .next s)

/-- R405, R408 to R411, R413 to R418, R421, R422 and Tables 13-3 to 13-5. -/
def Obligations.CaptureChannelsArmTriggerAndRecord : Prop :=
  (∀ s c v w u, c < 16 → s.opens (CNS_CTL c) → s.flag (CNS_CTL c) CNS_CTL_ARM = false → w = 2 ^ 31 + v % 2 ^ 31 → u = s.wrRW (CNS_CTL c) w →
      u.armCheck c = 0 → ∃ t, exec (.cnsArm c v) s = .next t ∧ t.rd (CNS_CTL c) = u.rd (CNS_CTL c) ∧ t.flag (CNS_CTL c) CNS_CTL_ARM = true
      ∧ t.fld (CNS_STS c) CNS_STS_STATUS = 0 ∧ t.rdN (CNS_REC_CNT c) = 0 ∧ t.rdN (CNS_WP c) = 0 ∧ t.rdN (CNS_RP c) = 0
      ∧ t.cnsSt c = (if bits w 29 28 = 2 then capSTREAMING else capFILLING) ∧ (t.cns c).start = ceilTo (t.cStep c) s.tb1
      ∧ (bits w 29 28 ≠ 2 → ldBytes t.cnv.res (4096 * s.cPage c) 4 = 0) ∧ (bits w 29 28 = 2 → t.cnv = s.cnv)
      ∧ (∀ b, b < 4096 * s.cPage c ∨ 4096 * s.cPage c + 4 ≤ b → ldByte t.cnv.res b = ldByte s.cnv.res b)
      ∧ s.keeps t [CNS_CTL c, CNS_STS c, CNS_REC_CNT c, CNS_WP c, CNS_RP c] ∧ { t with regs := s.regs, cap := s.cap, cnv := s.cnv } = s) ∧
  (∀ s c v, c < 16 → s.opens (CNS_CTL c) → s.flag (CNS_CTL c) CNS_CTL_ARM = false → (s.wrRW (CNS_CTL c) (2 ^ 31 + v % 2 ^ 31)).armCheck c ≠ 0 →
    ∃ t, exec (.cnsArm c v) s = .next t ∧ t.fld (CNS_STS c) CNS_STS_STATUS = (s.wrRW (CNS_CTL c) (2 ^ 31 + v % 2 ^ 31)).armCheck c
      ∧ s.onlyRegs t [CNS_STS c, IMG_DENY, IMG_DENY_CNT]) ∧
  (∀ s c v, c < 16 → s.opens (CNS_CTL c) → s.flag (CNS_CTL c) CNS_CTL_ARM = true → (v % 2 ^ 31) &&& (rwMask (CNS_CTL c)).toNat = s.rdN (CNS_CTL c) - 2 ^ 31 →
      s.cnsSt c ≠ capOFF → ∃ t, exec (.cnsDisarm c v) s = .next t ∧ t.flag (CNS_CTL c) CNS_CTL_ARM = false ∧ t.fld (CNS_STS c) CNS_STS_STATUS = 0
      ∧ (s.cnsSt c ≠ capTRIGGERED → t.cnsSt c = capIDLE ∧ t.cap = s.cap)
      ∧ (s.cnsSt c = capTRIGGERED → t.cnsSt c = capTRIGGERED ∧ t.cns c = { s.cns c with closing := 1, closeAt := s.tb1 })
      ∧ s.keeps t [CNS_CTL c, CNS_STS c] ∧ { t with regs := s.regs, cap := s.cap } = s) ∧
  (∀ s c v, c < 16 → s.opens (CNS_CTL c) → s.flag (CNS_CTL c) CNS_CTL_ARM = true → (v % 2 ^ 31) &&& (rwMask (CNS_CTL c)).toNat ≠ s.rdN (CNS_CTL c) - 2 ^ 31 →
    ∃ t, exec (.cnsDisarm c v) s = .next t ∧ t.fld (CNS_STS c) CNS_STS_STATUS = E_CNS_RUNNING
      ∧ t.rdN (CNS_WDROP_CNT c) = min 0xFFFFFFFF (s.rdN (CNS_WDROP_CNT c) + 1) ∧ s.onlyRegs t [CNS_STS c, CNS_WDROP_CNT c]) ∧
  (∀ s c p, c < 16 → s.opens (CNS_FORCE c) → s.cnsSt c = capFILLING → p = ceilTo (tapPeriod (s.cKind c)) s.tb1 → (s.cns c).start ≤ p →
      s.cDone c s.tb1 ≤ s.cOut c p + s.cPre c + s.cPost c → (s.fld (CNS_TRIG c) CNS_TRIG_SRC ≠ 2 ∨ s.fld (CNS_TRIG c) CNS_TRIG_TSEL ≠ c) →
    ∃ t, exec (.cnsForce c) s = .next t ∧ t.cnsSt c = capTRIGGERED
      ∧ t.cns c = { s.cns c with trig := some ⟨7, s.tb1, p, true, s.cDone c s.tb1⟩ }
      ∧ (∀ d, d < 16 → d ≠ c → s.fld (CNS_TRIG d) CNS_TRIG_SRC = 2 → s.fld (CNS_TRIG d) CNS_TRIG_TSEL = c → s.cnsSt d ≠ capOFF → s.cnsSt d ≠ capIDLE →
          (t.cns d).evs = (s.cns d).evs ++ [(2, s.tb1)])
      ∧ s.keeps t [CNS_STS c] ∧ { t with regs := s.regs, cap := s.cap } = s) ∧
  (∀ s c src inst xs p, c < 16 → src ≠ 1 → src ≠ 7 → (s.cns c).evs.contains (src, inst) = true → s.tb1 ≤ inst + 1024 → s.cnsSt c = capFILLING →
      p = ceilTo (tapPeriod (s.cKind c)) inst → (s.cns c).start ≤ p → s.cDone c s.tb1 ≤ s.cOut c p + s.cPre c + s.cPost c →
      (s.fld (CNS_TRIG c) CNS_TRIG_SRC ≠ 2 ∨ s.fld (CNS_TRIG c) CNS_TRIG_TSEL ≠ c) →
    ∃ t, exec (.cnsTrigger c src inst xs) s = .next t ∧ t.cnsSt c = capTRIGGERED
      ∧ t.cns c = { s.cns c with evs := (s.cns c).evs.erase (src, inst), trig := some ⟨src, inst, p, false, s.cDone c s.tb1⟩ }
      ∧ (∀ d, d < 16 → d ≠ c → s.fld (CNS_TRIG d) CNS_TRIG_SRC = 2 → s.fld (CNS_TRIG d) CNS_TRIG_TSEL = c → s.cnsSt d ≠ capOFF → s.cnsSt d ≠ capIDLE →
          (t.cns d).evs = (s.cns d).evs ++ [(2, inst)])
      ∧ s.keeps t [CNS_STS c] ∧ { t with regs := s.regs, cap := s.cap } = s) ∧
  (∀ s c src inst xs, c < 16 → src ≠ 1 → src ≠ 7 → (s.cns c).evs.contains (src, inst) = true → inst + 1024 < s.clock.tb1 → s.tb1Run = true →
    ∃ t, exec (.cnsTrigger c src inst xs) s = .next t ∧ t.cns c = { s.cns c with evs := (s.cns c).evs.erase (src, inst) }
      ∧ t.regs = s.regs ∧ { t with cap := s.cap } = s) ∧
  (∀ s c inst xs r i p, c < 16 → s.fld (CNS_TRIG c) CNS_TRIG_SRC = 1 → s.cnsSt c = capFILLING →
      levelScan (s.fld (CNS_TRIG c) CNS_TRIG_SLOPE) (sgn 16 (s.fld (CNS_LVL c) CNS_LVL_LEVEL)) (s.fld (CNS_LVL c) CNS_LVL_HYST) (s.cns c).ready 0 xs
        = (r, [i]) → p = ceilTo (tapPeriod (s.cKind c)) inst + i * tapPeriod (s.cKind c) → (s.cns c).start ≤ p →
      s.cDone c s.tb1 ≤ s.cOut c p + s.cPre c + s.cPost c → ∃ t, exec (.cnsTrigger c 1 inst xs) s = .next t ∧ t.cnsSt c = capTRIGGERED
      ∧ t.cns c = { s.cns c with trig := some ⟨1, p, p, false, s.cDone c s.tb1⟩, ready := r }
      ∧ s.keeps t [CNS_STS c] ∧ { t with regs := s.regs, cap := s.cap } = s) ∧
  (∀ s c src inst xs, c < 16 → src ≠ 1 → src ≠ 7 → (s.cns c).evs.contains (src, inst) = true → s.tb1 ≤ inst + 1024 → s.cnsSt c = capHOLDOFF →
    ∃ t, exec (.cnsTrigger c src inst xs) s = .next t ∧ t.rdN (CNS_TRIG_IGN_CNT c) = min 0xFFFFFFFF (s.rdN (CNS_TRIG_IGN_CNT c) + 1)
      ∧ t.cns c = { s.cns c with evs := (s.cns c).evs.erase (src, inst) }
      ∧ s.keeps t [CNS_TRIG_IGN_CNT c] ∧ { t with regs := s.regs, cap := s.cap } = s) ∧
  (∀ s c xs drops uns g a, c < 16 → (s.cns c).trig = some g → s.cnsSt c = capTRIGGERED → (s.cns c).closing = 0 → 0 < s.cPost c →
      s.reached ((s.cns c).start + (s.cOut c g.t + s.cPost c) * s.cStep c - tapPeriod (s.cKind c)) = true →
      a = 4096 * s.cPage c + s.cSlot c * ((s.cns c).recs % s.cNrec c) → ∃ t, exec (.cnsRecordEnd c xs drops uns) s = .next t
      ∧ t.cnsSt c = (if s.cMode c = 1 ∧ (s.cns c).recs + 1 < s.cNrec c then capHOLDOFF else capDONE)
      ∧ (t.cns c).trig = none ∧ (t.cns c).recs = (s.cns c).recs + 1 ∧ ldBytes t.cnv.res a 4 = 0x52534E43
      ∧ t.rdN (CNS_REC_CNT c) = min 0xFFFFFFFF (s.rdN (CNS_REC_CNT c) + 1)
      ∧ t.rdN (CNS_DROP_CNT c) = min 0xFFFFFFFF (s.rdN (CNS_DROP_CNT c) + drops.length)
      ∧ s.keeps t [CNS_STS c, CNS_REC_CNT c, CNS_DROP_CNT c] ∧ { t with regs := s.regs, cap := s.cap, cnv := s.cnv } = s) ∧
  (∀ s c a, c < 16 → s.cnsSt c = capHOLDOFF → s.reached (s.cns c).holdEnd = true → a = 4096 * s.cPage c + s.cSlot c * ((s.cns c).recs % s.cNrec c) →
    ∃ t, exec (.cnsHoldoffEnd c) s = .next t ∧ t.cnsSt c = capFILLING ∧ (t.cns c).start = ceilTo (s.cStep c) (s.cns c).holdEnd
      ∧ ldBytes t.cnv.res a 4 = 0 ∧ s.keeps t [CNS_STS c] ∧ { t with regs := s.regs, cap := s.cap, cnv := s.cnv } = s) ∧
  (∀ s c xs drops uns n, c < 16 → n = s.chunkElems c → s.cnsSt c = capSTREAMING → s.reached ((s.cns c).start + ((s.cns c).outs + n) * s.cStep c) = true →
      s.unread c < s.cPages c - 1 → ∃ t, exec (.cnsChunkWrite c xs drops uns) s = .next t ∧ t.rdN (CNS_WP c) = (s.rdN (CNS_WP c) + 1) % s.cPages c
      ∧ t.cns c = { s.cns c with outs := (s.cns c).outs + n, drops := 0, chunks := (s.cns c).chunks + 1 }
      ∧ ldBytes t.cnv.res (4096 * (s.cPage c + s.rdN (CNS_WP c))) 4 = (s.cns c).chunks % 2 ^ 32
      ∧ t.rdN (CNS_DROP_CNT c) = min 0xFFFFFFFF (s.rdN (CNS_DROP_CNT c) + drops)
      ∧ s.keeps t [CNS_WP c, CNS_DROP_CNT c] ∧ { t with regs := s.regs, cap := s.cap, cnv := s.cnv } = s) ∧
  (∀ s c xs drops uns n, c < 16 → n = s.chunkElems c → s.cnsSt c = capSTREAMING → s.reached ((s.cns c).start + ((s.cns c).outs + n) * s.cStep c) = true →
      s.cPages c - 1 ≤ s.unread c → ∃ t, exec (.cnsChunkWrite c xs drops uns) s = .next t
      ∧ t.cns c = { s.cns c with outs := (s.cns c).outs + n, drops := (s.cns c).drops + n }
      ∧ t.rdN (CNS_DROP_CNT c) = min 0xFFFFFFFF (s.rdN (CNS_DROP_CNT c) + n) ∧ s.keeps t [CNS_DROP_CNT c]
      ∧ { t with regs := s.regs, cap := s.cap } = s) ∧
  (∀ s c v, s.opens (CNS_RP c) → v < 2 ^ 13 → v < s.cPages c → (v + s.cPages c - s.rdN (CNS_RP c)) % s.cPages c ≤ s.unread c →
    ∃ t, exec (.cnsRpWrite c v) s = .next t ∧ t.rdN (CNS_RP c) = v ∧ s.onlyRegs t [CNS_RP c]) ∧
  (∀ s c v, s.opens (CNS_RP c) → s.cPages c ≤ v % 2 ^ 13 → ∃ t, exec (.cnsRpWrite c v) s = .next t
      ∧ t.fld (CNS_STS c) CNS_STS_STATUS = E_CNS_RANGE ∧ s.onlyRegs t [CNS_STS c])

/-- R425 to R430, R432 and Table 13-6. -/
def Obligations.FurlerRunsItsJobs : Prop :=
  (∀ s e v w x, e < 4 → s.opens (FRL_CTL e) → w = v / 16 * 16 + 1 → x = 4 * e + bits w 9 8 → s.frlCheck e w = 0 → ∃ t, exec (.frlStart e v) s = .next t
      ∧ t.fjob e = some ⟨x, bit w 13, s.rdN (FRL_SRC e), s.rdN (FRL_SRC_LEN e), 0, s.rdN (FRL_DST e), s.rdN (FRL_DST_LEN e), 0,
          bit w 20, bit w 21, bit w 22, []⟩
      ∧ t.fctx x = default ∧ t.ctxSt x = ctxACTIVE ∧ t.fld (FRL_CTXS x) FRL_CTXS_MODE = bits w 17 16
      ∧ t.fld (FRL_STS e) FRL_STS_STATUS = 0 ∧ t.fld (FRL_STS e) FRL_STS_ESTATE = 1
      ∧ s.keeps t [FRL_CTXS x, FRL_STS e] ∧ { t with regs := s.regs, cap := s.cap } = s) ∧
  (∀ s e v w x, e < 4 → s.opens (FRL_CTL e) → w = v / 16 * 16 + 2 → x = 4 * e + bits w 9 8 → s.frlCheck e w = 0 → (s.fctx x).pend = [] →
      (s.fctx x).acc.length < 8 → ∃ t, exec (.frlResume e v) s = .next t
      ∧ t.fjob e = some ⟨x, bit w 13, s.rdN (FRL_SRC e), s.rdN (FRL_SRC_LEN e), 0, s.rdN (FRL_DST e), s.rdN (FRL_DST_LEN e), 0,
          bit w 20, bit w 21, bit w 22, []⟩
      ∧ t.fctx x = s.fctx x ∧ t.ctxSt x = ctxACTIVE ∧ t.fld (FRL_STS e) FRL_STS_STATUS = 0 ∧ t.fld (FRL_STS e) FRL_STS_ESTATE = 1
      ∧ s.keeps t [FRL_CTXS x, FRL_STS e] ∧ { t with regs := s.regs, cap := s.cap } = s) ∧
  (∀ p ∈ [(Instr.frlStart, 1), (Instr.frlResume, 2)], ∀ s e v, e < 4 → s.opens (FRL_CTL e) → s.frlCheck e (v / 16 * 16 + p.2) ≠ 0 →
    ∃ t, exec (p.1 e v) s = .next t ∧ t.fld (FRL_STS e) FRL_STS_STATUS = s.frlCheck e (v / 16 * 16 + p.2)
      ∧ s.onlyRegs t [FRL_STS e, IMG_DENY, IMG_DENY_CNT]) ∧
  (∀ s e j, e < 4 → s.opens (FRL_CTL e) → s.fjob e = some j → j.ctx < 16 → ∃ t, exec (.frlAbort e) s = .next t ∧ t.fjob e = none
      ∧ t.ctxSt j.ctx = ctxEMPTY ∧ t.fctx j.ctx = default ∧ t.fld (FRL_STS e) FRL_STS_STATUS = E_FRL_ABORTED
      ∧ t.fld (FRL_STS e) FRL_STS_ESTATE = 0 ∧ t.rdN (FRL_CONSUMED e) = j.read % 2 ^ 64 ∧ t.rdN (FRL_PRODUCED e) = j.out % 2 ^ 64
      ∧ s.keeps t [FRL_CTXS j.ctx, FRL_STS e, FRL_CONSUMED e, FRL_PRODUCED e, FRL_CRC e] ∧ { t with regs := s.regs, cap := s.cap } = s) ∧
  (∀ s e, e < 4 → s.opens (FRL_CTL e) → s.fjob e = none → ∃ t, exec (.frlAbort e) s = .next t ∧ t.fld (FRL_STS e) FRL_STS_STATUS = 0
      ∧ s.onlyRegs t [FRL_STS e]) ∧
  (∀ s e x, e < 4 → x < 4 → s.opens (FRL_CTL e) → s.ctxSt (4 * e + x) ≠ ctxACTIVE → ∃ t, exec (.frlClear e x) s = .next t
      ∧ t.ctxSt (4 * e + x) = ctxEMPTY ∧ t.fctx (4 * e + x) = default ∧ t.fld (FRL_STS e) FRL_STS_STATUS = 0
      ∧ s.keeps t [FRL_CTXS (4 * e + x), FRL_STS e] ∧ { t with regs := s.regs, cap := s.cap } = s) ∧
  (∀ s e x, e < 4 → x < 4 → s.opens (FRL_CTL e) → s.ctxSt (4 * e + x) = ctxACTIVE → ∃ t, exec (.frlClear e x) s = .next t
      ∧ t.fld (FRL_STS e) FRL_STS_STATUS = E_FRL_BUSY ∧ s.onlyRegs t [FRL_STS e]) ∧
  (∀ s e hdr syms miss ok j n b, e < 4 → s.fjob e = some j → j.ctx < 16 → n = min 16384 (j.len - j.read) → 0 < n → (s.fctx j.ctx).pend = [] →
      j.buf.length ≤ n → n ≤ j.buf.length + s.frlAvail j → b = j.buf ++ s.frlInput j (n - j.buf.length) → j.nogain = true →
      (j.verify = false ∨ ok = true) → ∃ t, exec (.frlBlockEnd e hdr syms miss ok 0) s = .next t
      ∧ (∃ k, t.fjob e = some k ∧ k = { j with read := j.read + n, out := k.out, buf := [] })
      ∧ (t.fctx j.ctx).crc = b.foldl crcByte (s.fctx j.ctx).crc
      ∧ (t.fctx j.ctx).hist = ((s.fctx j.ctx).hist ++ b).drop (((s.fctx j.ctx).hist ++ b).length - 32768)
      ∧ s.keeps t ([FRL_TBLMISS_CNT e, FRL_NOGAIN_CNT e] ++ (if j.srck = true then [CNS_RP (j.src % 16)] else []))
      ∧ { t with regs := s.regs, cap := s.cap, cnv := s.cnv } = s) ∧
  (∀ s e hdr syms miss ok j n, e < 4 → s.fjob e = some j → n = min 16384 (j.len - j.read) → (s.fctx j.ctx).pend = [] →
      j.buf.length + s.frlAvail j < n → ∃ t, exec (.frlBlockEnd e hdr syms miss ok 0) s = .next t
      ∧ t.fjob e = some { j with buf := j.buf ++ s.frlInput j (s.frlAvail j) } ∧ t.cap.ctxs = s.cap.ctxs
      ∧ s.keeps t (if j.srck = true then [CNS_RP (j.src % 16)] else []) ∧ { t with regs := s.regs, cap := s.cap } = s) ∧
  (∀ s e hdr syms miss ok j n h, e < 4 → s.fjob e = some j → j.ctx < 16 → n = min 16384 (j.len - j.read) → 0 < n → (s.fctx j.ctx).pend = [] →
      j.buf.length ≤ n → n ≤ j.buf.length + s.frlAvail j → j.nogain = false →
      h = (if s.fld (FRL_CTXS j.ctx) FRL_CTXS_MODE = 0 ∨ miss = true then 0 else hdr.length) →
      3 + (8 - ((s.fctx j.ctx).acc.length + 3) % 8) % 8 + 32 + 8 * n ≤ (syms.map List.length).foldl (· + ·) (3 + h) →
    ∃ t, exec (.frlBlockEnd e hdr syms miss ok 0) s = .next t ∧ t.fjob e = none ∧ t.ctxSt j.ctx = ctxSUSPENDED ∧ t.fctx j.ctx = s.fctx j.ctx
      ∧ t.fld (FRL_STS e) FRL_STS_STATUS = E_FRL_NO_GAIN ∧ t.fld (FRL_STS e) FRL_STS_ESTATE = 0
      ∧ s.keeps t ([FRL_CTXS j.ctx, FRL_STS e, FRL_CONSUMED e, FRL_PRODUCED e, FRL_CRC e] ++ (if j.srck = true then [CNS_RP (j.src % 16)] else []))
      ∧ { t with regs := s.regs, cap := s.cap } = s) ∧
  (∀ s e hdr syms miss ok j, e < 4 → s.fjob e = some j → j.ctx < 16 → ∃ t, exec (.frlBlockEnd e hdr syms miss ok 2) s = .next t
      ∧ t.fjob e = none ∧ t.ctxSt j.ctx = ctxFAILED
      ∧ t.fld (FRL_STS e) FRL_STS_STATUS = E_FRL_ECC_UNCORR ∧ t.fld (FRL_STS e) FRL_STS_ESTATE = 0
      ∧ s.keeps t [FRL_CTXS j.ctx, FRL_STS e, FRL_CONSUMED e, FRL_PRODUCED e, FRL_CRC e] ∧ { t with regs := s.regs, cap := s.cap } = s) ∧
  (∀ s e j, e < 4 → s.fjob e = some j → j.ctx < 16 → ((s.fctx j.ctx).pend ≠ [] ∨ s.frlNoPad j = true) → ∃ t, exec (.frlOutFull e) s = .next t ∧ t.fjob e = none
      ∧ t.ctxSt j.ctx = ctxSUSPENDED ∧ t.fctx j.ctx = s.fctx j.ctx ∧ t.fld (FRL_STS e) FRL_STS_STATUS = E_FRL_OUT_FULL
      ∧ t.fld (FRL_STS e) FRL_STS_ESTATE = 0 ∧ t.rdN (FRL_CONSUMED e) = j.read % 2 ^ 64 ∧ t.rdN (FRL_PRODUCED e) = j.out % 2 ^ 64
      ∧ t.rdN (FRL_CRC e) = (s.fctx j.ctx).crc.toNat
      ∧ s.keeps t [FRL_CTXS j.ctx, FRL_STS e, FRL_CONSUMED e, FRL_PRODUCED e, FRL_CRC e] ∧ { t with regs := s.regs, cap := s.cap } = s) ∧
  (∀ s e j, e < 4 → s.fjob e = some j → j.ctx < 16 → j.read = j.len → (s.fctx j.ctx).pend = [] → (j.final = true → (s.fctx j.ctx).acc = []) →
    ∃ t, exec (.frlJobEnd e) s = .next t ∧ t.fjob e = none ∧ t.ctxSt j.ctx = (if j.final = true then ctxDONE else ctxSUSPENDED)
      ∧ t.fld (FRL_STS e) FRL_STS_STATUS = 0 ∧ t.fld (FRL_STS e) FRL_STS_ESTATE = 0 ∧ t.rdN (FRL_PRODUCED e) = j.out % 2 ^ 64
      ∧ s.keeps t [FRL_CTXS j.ctx, FRL_STS e, FRL_CONSUMED e, FRL_PRODUCED e, FRL_CRC e] ∧ { t with regs := s.regs, cap := s.cap } = s) ∧
  (∀ s e j, e < 4 → s.fjob e = some j → j.ctx < 16 → j.read = j.len → (s.fctx j.ctx).pend = [] → j.final = true → (s.fctx j.ctx).acc ≠ [] →
      (s.fctx j.ctx).acc.length < 8 → j.out < j.room → ∃ t, exec (.frlJobEnd e) s = .next t ∧ t.fjob e = none ∧ t.ctxSt j.ctx = ctxDONE
      ∧ t.fld (FRL_STS e) FRL_STS_STATUS = 0 ∧ t.fld (FRL_STS e) FRL_STS_ESTATE = 0 ∧ t.rdN (FRL_PRODUCED e) = (j.out + 1) % 2 ^ 64
      ∧ (∀ b, b ≠ j.dst + j.out → ldByte t.cnv.res b = ldByte s.cnv.res b)
      ∧ s.keeps t [FRL_CTXS j.ctx, FRL_STS e, FRL_CONSUMED e, FRL_PRODUCED e, FRL_CRC e]
      ∧ { t with regs := s.regs, cap := s.cap, cnv := s.cnv } = s)

/-- R435 to R441, R449 to R453 and Tables 14-2, 14-3 and 14-5; ACC 0 with a new TB1: R189. That a write of SYNCOUT ends a burst
is the model's choice (log 94). -/
def Obligations.TimeBasesStartStopStepAndSet : Prop :=
  (∀ s, s.opens STAY_CMD → s.tb1Free = true → s.tb1St = tbSTOPPED → ∃ t, exec .tb1Start s = .next t ∧ t.tb1St = tbSTARTING
      ∧ t.fld STAY_STS STAY_STS_STATUS = 0 ∧ t.stay = { s.stay with starts := some (s.clock.now + 20000) } ∧ s.keeps t [STAY_STS]
      ∧ { t with regs := s.regs, stay := s.stay } = s) ∧
  (∀ s, s.opens STAY_CMD → s.tb1Free = true → s.tb1St = tbSTOPPED → ∃ t, exec .tb1ArmSync s = .next t ∧ t.tb1St = tbSTARTING
      ∧ t.flag STAY_STS STAY_STS_SYNC_ARMED = true ∧ t.fld STAY_STS STAY_STS_STATUS = 0 ∧ s.onlyRegs t [STAY_STS]) ∧
  (∀ c ∈ [Instr.tb1Start, Instr.tb1ArmSync], ∀ s, s.opens STAY_CMD → (s.tb1Free = false ∨ s.tb1St ≠ tbSTOPPED) → ∃ t, exec c s = .next t
      ∧ t.fld STAY_STS STAY_STS_STATUS = E_STAY_STATE ∧ s.onlyRegs t [STAY_STS]) ∧
  (∀ s, s.opens STAY_CMD → s.tb1Free = true → s.allIdle = true → ∃ t, exec .tb1Stop s = .next t ∧ t.tb1St = tbSTOPPED ∧ t.clock.tb1 = 0
      ∧ t.fld STAY_STS STAY_STS_SYNC_ARMED = 0 ∧ t.fld STAY_STS STAY_STS_STATUS = 0 ∧ t.stay = { s.stay with starts := none }
      ∧ t.ton = { s.ton with ncos := [], last := [] } ∧ t.cnv = { s.cnv with hist := [], trigEv := [], rels := [], dems := t.cnv.dems }
      ∧ (∀ k, tget t.cnv.dems k = { tget s.cnv.dems k with nco := [], trigs := [] })
      ∧ s.keeps t [STAY_STS] ∧ { t with regs := s.regs, stay := s.stay, clock := s.clock, ton := s.ton, cnv := s.cnv } = s) ∧
  (∀ s, s.opens STAY_CMD → (s.tb1Free = false ∨ s.allIdle = false) → ∃ t, exec .tb1Stop s = .next t
      ∧ t.fld STAY_STS STAY_STS_STATUS = E_STAY_BUSY ∧ s.onlyRegs t [STAY_STS]) ∧
  (∀ s τ, s.stay.starts = some τ → s.tb1St = tbSTARTING → τ ≤ s.clock.now → ∃ t, exec .tb1Zero s = .next t ∧ t.tb1St = tbRUNNING
      ∧ t.clock = { s.clock with tb1 := s.clock.now - τ } ∧ t.stay = { s.stay with starts := none, tbn := [] } ∧ s.keeps t [STAY_STS]
      ∧ t.ton = { s.ton with ncos := [], last := [] } ∧ t.cnv = { s.cnv with hist := [], trigEv := [], rels := [], dems := t.cnv.dems }
      ∧ (∀ k, tget t.cnv.dems k = { tget s.cnv.dems k with nco := [], trigs := [] })
      ∧ { t with regs := s.regs, stay := s.stay, clock := s.clock, ton := s.ton, cnv := s.cnv } = s) ∧
  (∀ s, s.opens STAY_CMD → s.dev = dREADY → s.allIdle = true → ∃ t, exec .skewcal s = .next t ∧ t.flag STAY_STS STAY_STS_SKEWCAL = true
      ∧ t.fld STAY_STS STAY_STS_STATUS = 0 ∧ t.stay = { s.stay with skew := some (s.clock.now, []) } ∧ s.keeps t [STAY_STS]
      ∧ { t with regs := s.regs, stay := s.stay } = s) ∧
  (∀ s τ ps, s.stay.skew = some (τ, ps) → 256 ≤ ps.length → ∃ t, exec .skewcalComplete s = .next t
      ∧ t.fld STAY_SKEW STAY_SKEW_SHIFT = unsgn 8 (max (-64) (min 63 (64 - ps.foldl (· + ·) 0 / 256)))
      ∧ t.fld STAY_STS STAY_STS_SKEWCAL = 0 ∧ t.fld STAY_STS STAY_STS_STATUS = 0 ∧ t.stay = { s.stay with skew := none }
      ∧ s.keeps t [STAY_SKEW, STAY_STS] ∧ { t with regs := s.regs, stay := s.stay } = s) ∧
  (∀ s τ ps, s.stay.skew = some (τ, ps) → ps.length < 256 → τ + 20000000 ≤ s.clock.now → ∃ t, exec .skewcalComplete s = .next t
      ∧ t.fld STAY_STS STAY_STS_SKEWCAL = 0 ∧ t.fld STAY_STS STAY_STS_STATUS = E_STAY_TIMEOUT ∧ t.stay = { s.stay with skew := none }
      ∧ s.keeps t [STAY_STS] ∧ { t with regs := s.regs, stay := s.stay } = s) ∧
  (∀ s f e, e = ((128 * s.clock.now + f % 128 : Nat) : Int) - sgn 16 (s.fld STAY_SYNC_COMP STAY_SYNC_COMP_COMP) →
      s.flag STAY_STS STAY_STS_SYNC_ARMED = true → ∃ t, exec (.syncinEdge f) s = .next t ∧ t.fld STAY_STS STAY_STS_SYNC_ARMED = 0
      ∧ t.stay = { s.stay with starts := some ((e / 128 + 1).toNat + 16000) } ∧ s.keeps t [STAY_STS] ∧ { t with regs := s.regs, stay := s.stay } = s) ∧
  (∀ s f e, e = ((128 * s.clock.now + f % 128 : Nat) : Int) - sgn 16 (s.fld STAY_SYNC_COMP STAY_SYNC_COMP_COMP) →
      s.flag STAY_STS STAY_STS_SYNC_ARMED = false → s.stay.skew = none → ∃ t, exec (.syncinEdge f) s = .next t
      ∧ t.fld STAY_SYNC_PHASE STAY_SYNC_PHASE_PHASE = ((128 - e % 128) % 128).toNat
      ∧ (54 ≤ 128 - e % 128 → 128 - e % 128 ≤ 74 → s.onlyRegs t [STAY_SYNC_PHASE])
      ∧ (128 - e % 128 < 54 ∨ 74 < 128 - e % 128 → t.flag STAY_STS STAY_STS_SKEW_DRIFT = true
          ∧ t.bus = { s.bus with reports := s.bus.reports ++ [⟨E_STAY_SKEW_DRIFT, false, islHub, 0⟩] } ∧ s.keeps t [STAY_SYNC_PHASE, STAY_STS])) ∧
  (∀ s d, s.opens STAY_CMD → d = sgn 64 (s.rdN STAY_TB0_STEP) * uFRAC → (s.stay.lock1 = false ∨ d.natAbs ≤ s.jumpUnits) →
    ∃ t, exec .stayStep s = .next t ∧ t.stay = { s.stay with plan := s.stay.plan ++ [(s.nextFt, 0, d)] } ∧ t.fld STAY_STS STAY_STS_STATUS = 0
      ∧ t.fld STAY_STS STAY_STS_ASYM_SUSPECT = 0
      ∧ t.sst = (if s.stay.lock1 = false then s.sst else if s.staySrc = 0 then svFREERUN else svLOCKED)
      ∧ s.keeps t [STAY_STS] ∧ { t with regs := s.regs, stay := s.stay } = s) ∧
  (∀ s, s.opens STAY_CMD → s.stay.lock1 = true → s.jumpUnits < (sgn 64 (s.rdN STAY_TB0_STEP) * uFRAC).natAbs → ∃ t, exec .stayStep s = .next t
      ∧ t.fld STAY_STS STAY_STS_STATUS = E_STAY_JUMP_REFUSED ∧ t.flag STAY_STS STAY_STS_JUMP_REFUSED = true
      ∧ t.rdN STAY_JUMP_CNT = min 0xFFFFFFFF (s.rdN STAY_JUMP_CNT + 1)
      ∧ t.bus = { s.bus with reports := s.bus.reports ++ [⟨E_STAY_JUMP_REFUSED, false, islHub, 0⟩] }
      ∧ s.keeps t [STAY_STS, STAY_JUMP_CNT] ∧ { t with regs := s.regs, bus := s.bus } = s) ∧
  (∀ s v, s.opens STAY_CMD → v = baseOf (s.fld STAY_TB0_SET_SEC STAY_TB0_SET_SEC_SEC) (s.rdN STAY_TB0_SET_NS % 2 ^ 48) → s.staySrc = 0 →
      s.fld STAY_TB0_SET_NS STAY_TB0_SET_NS_NS ≤ 999999999 → (s.stay.lock1 = false ∨ ((v : Int) - s.stay.tb0).natAbs ≤ s.jumpUnits) →
    ∃ t, exec .staySet s = .next t ∧ t.stay = { s.stay with plan := s.stay.plan ++ [(s.nextFt, 1, (v : Int))], lock1 := true }
      ∧ t.fld STAY_STS STAY_STS_STATUS = 0 ∧ t.fld STAY_STS STAY_STS_ASYM_SUSPECT = 0 ∧ s.keeps t [STAY_STS]
      ∧ { t with regs := s.regs, stay := s.stay } = s) ∧
  (∀ s, s.opens STAY_CMD → s.staySrc ≠ 0 → ∃ t, exec .staySet s = .next t ∧ t.fld STAY_STS STAY_STS_STATUS = E_STAY_STATE
      ∧ s.onlyRegs t [STAY_STS]) ∧
  (∀ s, s.opens STAY_CMD → s.staySrc = 0 → 999999999 < s.fld STAY_TB0_SET_NS STAY_TB0_SET_NS_NS → ∃ t, exec .staySet s = .next t
      ∧ t.fld STAY_STS STAY_STS_STATUS = E_STAY_RANGE ∧ s.onlyRegs t [STAY_STS]) ∧
  (∀ s, s.opens STAY_CMD → s.sst = svASYM → ∃ t, exec .acceptAsym s = .next t ∧ t.rd STAY_MPD_REF = s.rd STAY_MPD
      ∧ t.fld STAY_STS STAY_STS_ASYM_SUSPECT = 0 ∧ t.fld STAY_STS STAY_STS_STATUS = 0 ∧ t.stay = { s.stay with mpds := [sgn 32 (s.rdN STAY_MPD)] }
      ∧ s.keeps t [STAY_MPD_REF, STAY_STS] ∧ { t with regs := s.regs, stay := s.stay } = s) ∧
  (∀ s, s.opens STAY_CMD → s.sst ≠ svASYM → ∃ t, exec .acceptAsym s = .next t ∧ t.fld STAY_STS STAY_STS_STATUS = E_STAY_STATE
      ∧ s.onlyRegs t [STAY_STS]) ∧
  (∀ s, s.opens STAY_CMD → ∃ t, exec .relock s = .next t
      ∧ t.sst = (if s.staySrc = 1 ∧ s.stay.master.isSome = true then svACQUIRING else svFREERUN)
      ∧ t.stay = { s.stay with lock1 := false, gather := [], mpds := [], excl := 0 } ∧ t.fld STAY_STS STAY_STS_ASYM_SUSPECT = 0
      ∧ t.fld STAY_STS STAY_STS_STATUS = 0 ∧ s.keeps t [STAY_STS] ∧ { t with regs := s.regs, stay := s.stay } = s) ∧
  (∀ s, s.opens STAY_SNAP → ∃ t, exec .staySnap s = .next t ∧ t.rdN STAY_SNAP_TB1 = s.tb1 % 2 ^ 64
      ∧ (∀ n ∈ [0, 2, 3, 4, 5, 6, 7], t.rdN (STAY_SNAP_SEC n) = baseSec (s.base n) % 2 ^ 64 ∧ t.rdN (STAY_SNAP_NS n) = baseNs (s.base n) % 2 ^ 64)
      ∧ s.onlyRegs t (STAY_SNAP_TB1 :: ([0, 2, 3, 4, 5, 6, 7].flatMap fun n => [STAY_SNAP_SEC n, STAY_SNAP_NS n]))) ∧
  (∀ s src, s.opens STAY_CTL → src < 8 → src ≠ s.staySrc → ∃ t, exec (.staySrcWrite src) s = .next t ∧ t.staySrc = src
      ∧ t.sst = (if s.stay.lock1 = true then svHOLDOVER else if src = 1 ∧ s.stay.master.isSome = true then svACQUIRING else svFREERUN)
      ∧ s.keeps t [STAY_CTL, STAY_STS] ∧ { t with regs := s.regs, stay := s.stay } = s) ∧
  (∀ s src, s.opens STAY_CTL → 8 ≤ src → src < 16 → ∃ t, exec (.staySrcWrite src) s = .next t ∧ t.staySrc = s.staySrc ∧ s.onlyRegs t [STAY_CTL]) ∧
  (∀ p ∈ [(Instr.syncoutPulse, 1, 1), (Instr.syncoutBurst, 2, 256)], ∀ s ps, s.opens STAY_SYNCOUT → s.hostMay 0x0C 0 = true →
      ps = (s.stay.pulses.filter fun p => decide (p.1 ≤ s.clock.now)).map (fun p => (p.1, min p.2 ((s.clock.now - p.1) / 20000 + 1))) →
    ∃ t, exec p.1 s = .next t ∧ t.stay = { s.stay with pulses := ps ++ [(s.clock.now + 1, p.2.2)] } ∧ t.fld STAY_SYNCOUT STAY_SYNCOUT_MODE = p.2.1
      ∧ t.fld STAY_STS STAY_STS_STATUS = 0 ∧ s.keeps t [STAY_SYNCOUT, STAY_STS] ∧ { t with regs := s.regs, stay := s.stay } = s) ∧
  (∀ s n ps, ∀ c ∈ [(Instr.syncoutOff, 0), (Instr.syncoutTimer n, 3)], s.opens STAY_SYNCOUT → s.hostMay 0x0C 0 = true → n < 128 →
      ps = (s.stay.pulses.filter fun p => decide (p.1 ≤ s.clock.now)).map (fun p => (p.1, min p.2 ((s.clock.now - p.1) / 20000 + 1))) →
    ∃ t, exec c.1 s = .next t ∧ t.stay = { s.stay with pulses := ps } ∧ t.fld STAY_SYNCOUT STAY_SYNCOUT_MODE = c.2
      ∧ (c.2 = 3 → t.fld STAY_SYNCOUT STAY_SYNCOUT_TSEL = n) ∧ t.fld STAY_STS STAY_STS_STATUS = 0
      ∧ s.keeps t [STAY_SYNCOUT, STAY_STS] ∧ { t with regs := s.regs, stay := s.stay } = s) ∧
  (∀ s n, ∀ c ∈ [Instr.syncoutOff, Instr.syncoutPulse, Instr.syncoutBurst, Instr.syncoutTimer n], s.opens STAY_SYNCOUT → s.hostMay 0x0C 0 = false →
    ∃ t, exec c s = .next t ∧ t.fld STAY_STS STAY_STS_STATUS = E_IMG_RES_BUSY ∧ s.onlyRegs t [STAY_STS, IMG_DENY, IMG_DENY_CNT])

/-- R443 to R446, R449, R450. The law of the steering term is not in the manual: RATE0 is a free value there, and the statement
leaves it open. -/
def Obligations.TimeMessagesMoveTheServo : Prop :=
  (∀ s ds t1 corr t2, s.ptpFrom ds = true → ∃ t, exec (.ptpSyncRx ds t1 corr t2) s = .next t
      ∧ t.stay = { s.stay with sync := some (t1.map (· + corr), t2 - (s.fld STAY_TP_LAT STAY_TP_LAT_RX : Nat) - (if t1.isSome = true then 0 else corr)) }
      ∧ t.regs = s.regs ∧ { t with stay := s.stay } = s) ∧
  (∀ s ds t1 corr t2, s.ptpFrom ds = false → exec (.ptpSyncRx ds t1 corr t2) s = .next s) ∧
  (∀ s ds t1 corr t2, s.ptpFrom ds = true → s.stay.sync = some (none, t2) → ∃ t, exec (.ptpFollowUpRx ds t1 corr) s = .next t
      ∧ t.stay = { s.stay with sync := some (some (t1 + corr), t2) } ∧ t.regs = s.regs ∧ { t with stay := s.stay } = s) ∧
  (∀ s ds t1 corr, s.ptpFrom ds = false → exec (.ptpFollowUpRx ds t1 corr) s = .next s) ∧
  (∀ s t3, s.staySrc = 1 → s.stay.master.isSome = true → ∃ t, exec (.ptpDelayReqTx t3) s = .next t
      ∧ t.stay = { s.stay with dreq := some (t3 + (s.fld STAY_TP_LAT STAY_TP_LAT_TX : Nat)) } ∧ t.regs = s.regs ∧ { t with stay := s.stay } = s) ∧
  (∀ s ds t1 t2 t3 t4 corr, s.ptpFrom ds = true → s.stay.sync = some (some t1, t2) → s.stay.dreq = some t3 →
    ∃ t, exec (.ptpDelayRespRx ds t4 corr) s = .next t ∧ t.stay.sync = none ∧ t.stay.dreq = none
      ∧ t.rdN STAY_MPD = unsgn 32 (((t2 - t1) + (t4 - corr - t3)) / 2)
      ∧ t.rdN STAY_OFFSET = unsgn 32 ((t2 - t1) - ((t2 - t1) + (t4 - corr - t3)) / 2 - sgn 32 (s.rdN STAY_ASYM))
      ∧ (s.sst = svFREERUN → s.keeps t [STAY_MPD, STAY_OFFSET] ∧ t.stay = { s.stay with sync := none, dreq := none })) ∧
  (∀ s ds t1 t2 t3 t4 corr d m, s.ptpFrom ds = true → s.stay.sync = some (some t1, t2) → s.stay.dreq = some t3 → s.sst = svLOCKED →
      d = ((t2 - t1) + (t4 - corr - t3)) / 2 → (d - sgn 32 (s.rdN STAY_MPD_REF)).natAbs ≤ s.rdN STAY_ASYM_THR →
      m = (s.stay.mpds ++ [d]).drop ((s.stay.mpds ++ [d]).length - 16) → ∃ t, exec (.ptpDelayRespRx ds t4 corr) s = .next t ∧ t.sst = svLOCKED
      ∧ t.rdN STAY_MPD_REF = unsgn 32 (mean m) ∧ t.stay.mpds = m ∧ t.stay.excl = 0
      ∧ s.keeps t [STAY_MPD, STAY_OFFSET, STAY_MPD_REF, STAY_TB0_RATE] ∧ { t with regs := s.regs, stay := s.stay, bus := s.bus } = s) ∧
  (∀ s ds t1 t2 t3 t4 corr, s.ptpFrom ds = true → s.stay.sync = some (some t1, t2) → s.stay.dreq = some t3 → s.sst = svLOCKED →
      s.rdN STAY_ASYM_THR < (((t2 - t1) + (t4 - corr - t3)) / 2 - sgn 32 (s.rdN STAY_MPD_REF)).natAbs → s.stay.excl + 1 = 4 →
    ∃ t, exec (.ptpDelayRespRx ds t4 corr) s = .next t ∧ t.sst = svASYM ∧ t.flag STAY_STS STAY_STS_ASYM_SUSPECT = true
      ∧ t.rdN STAY_ASYM_EXCL_CNT = min 0xFFFFFFFF (s.rdN STAY_ASYM_EXCL_CNT + 1)
      ∧ t.bus = { s.bus with reports := s.bus.reports ++ [⟨E_STAY_ASYM_SUSPECT, false, islHub, 0⟩] }
      ∧ s.keeps t [STAY_MPD, STAY_OFFSET, STAY_ASYM_EXCL_CNT, STAY_STS]) ∧
  (∀ s ds t4 corr, s.ptpFrom ds = false → exec (.ptpDelayRespRx ds t4 corr) s = .next s) ∧
  (∀ s domain ds k, domain ≠ s.fld STAY_PTP_CFG STAY_PTP_CFG_DOMAIN → exec (.ptpAnnounceRx domain ds k) s = .next s) ∧
  (∀ s domain ds k, domain = s.fld STAY_PTP_CFG STAY_PTP_CFG_DOMAIN → s.stay.master = none → s.stay.others = [] →
    ∃ t, exec (.ptpAnnounceRx domain ds k) s = .next t ∧ t.stay.master = some ⟨ds, s.clock.now, k⟩ ∧ t.stay.others = []
      ∧ t.sst = (if s.sst = svFREERUN ∧ s.staySrc = 1 then svACQUIRING else s.sst) ∧ s.keeps t [STAY_STS]
      ∧ { t with regs := s.regs, stay := s.stay } = s) ∧
  (∀ s domain ds k m, domain = s.fld STAY_PTP_CFG STAY_PTP_CFG_DOMAIN → s.stay.master = some m → s.stay.others = [] →
      m.ds.drop 7 ≠ ds.drop 7 → s.silent m = false → ∃ t, exec (.ptpAnnounceRx domain ds k) s = .next t
      ∧ t.stay.master = some (if dsLess ds m.ds = true then ⟨ds, s.clock.now, k⟩ else m) ∧ s.keeps t [STAY_STS]
      ∧ { t with regs := s.regs, stay := s.stay } = s) ∧
  (∀ s, exec .tportOtherFrame s = .next s) ∧
  (∀ s m, s.stay.master = some m → s.silent m = true → s.stay.others = [] → ∃ t, exec .announceTimeout s = .next t ∧ t.stay.master = none
      ∧ (s.staySrc = 1 → s.sst = svLOCKED → t.sst = svHOLDOVER ∧ t.bus = { s.bus with reports := s.bus.reports ++ [⟨E_STAY_HOLDOVER, false, islHub, 0⟩] })
      ∧ (s.staySrc = 1 → s.sst = svACQUIRING → t.sst = svFREERUN) ∧ (s.staySrc ≠ 1 → t.regs = s.regs) ∧ s.keeps t [STAY_STS]
      ∧ { t with regs := s.regs, stay := s.stay, bus := s.bus } = s) ∧
  (∀ s m, s.stay.master = some m → s.silent m = false → exec .announceTimeout s = .next s)

/-- R442 and R457 to R459. -/
def Obligations.UserDomainsAndTimersAct : Prop :=
  (∀ s n v u, 2 ≤ n → n < 8 → s.opens (STAY_TBN_SET_AT n) → s.hostMay 0x0B n = true → s.tb1Run = true → (v = 0 ∨ s.tb1 + 2560 ≤ v) →
      u = ceilFt (if v = 0 then s.tb1 + 2560 else v) → ∃ t, exec (.tbnSetAtWrite n v) s = .next t
      ∧ t.stay = { s.stay with sets := tput s.stay.sets n (some u) } ∧ s.keeps t [STAY_TBN_SET_AT n] ∧ { t with regs := s.regs, stay := s.stay } = s) ∧
  (∀ s n v, s.opens (STAY_TBN_SET_AT n) → s.hostMay 0x0B n = true → (s.tb1Run = false ∨ (v ≠ 0 ∧ v < s.tb1 + 2560)) →
    exec (.tbnSetAtWrite n v) s = .next s) ∧
  (∀ s n v, s.opens (STAY_TBN_SET_AT n) → s.hostMay 0x0B n = false → ∃ t, exec (.tbnSetAtWrite n v) s = .next t
      ∧ t.rdN IMG_DENY_CNT = min 0xFFFFFFFF (s.rdN IMG_DENY_CNT + 1) ∧ s.onlyRegs t [IMG_DENY, IMG_DENY_CNT]) ∧
  (∀ s n τ, 2 ≤ n → n < 8 → tget s.stay.sets n = some τ → s.due τ = true → ∃ t, exec (.tbnSetApply n) s = .next t
      ∧ t.base n = baseOf (s.fld (STAY_TBN_SET_SEC n) STAY_TBN_SET_SEC_SEC) (s.rdN (STAY_TBN_SET_NS n) % 2 ^ 48)
      ∧ tget t.stay.sets n = none ∧ (∀ m, m ≠ n → t.base m = s.base m) ∧ ((∀ i, i < 128 → s.tmrSt i ≠ tmARMED) → t.regs = s.regs)
      ∧ { t with regs := s.regs, stay := s.stay } = s) ∧
  (∀ s i v w, i < 128 → s.opens (STAY_TMR_CTL i) → s.flag (STAY_TMR_CTL i) STAY_TMR_CTL_EN = false → w = 2 ^ 31 + v % 2 ^ 31 → s.tmrCheck i w = 0 →
    ∃ t, exec (.timerArm i v) s = .next t
      ∧ t.rd (STAY_TMR_CTL i) = ((s.rd (STAY_TMR_CTL i) &&& ~~~(rwMask (STAY_TMR_CTL i))) ||| (BitVec.ofNat 64 w &&& rwMask (STAY_TMR_CTL i)))
      ∧ t.flag (STAY_TMR_CTL i) STAY_TMR_CTL_EN = true ∧ t.fld (STAY_TMR_STS i) STAY_TMR_STS_STATUS = 0 ∧ tget t.stay.tmrs i = default
      ∧ (bits w 30 28 = 0 → t.tmrSt i = tmFIXED ∧ t.rdN (STAY_TMR_E i) = ceilFt (s.rdN (STAY_TMR_CMP i)) % 2 ^ 64)
      ∧ (bits w 30 28 ≠ 0 → t.tmrSt i = tmARMED ∧ t.rd (STAY_TMR_E i) = s.rd (STAY_TMR_E i))
      ∧ s.keeps t [STAY_TMR_CTL i, STAY_TMR_STS i, STAY_TMR_E i] ∧ { t with regs := s.regs, stay := s.stay } = s) ∧
  (∀ s i v, i < 128 → s.opens (STAY_TMR_CTL i) → s.flag (STAY_TMR_CTL i) STAY_TMR_CTL_EN = false → s.tmrCheck i (2 ^ 31 + v % 2 ^ 31) ≠ 0 →
    ∃ t, exec (.timerArm i v) s = .next t ∧ t.fld (STAY_TMR_STS i) STAY_TMR_STS_STATUS = s.tmrCheck i (2 ^ 31 + v % 2 ^ 31)
      ∧ s.onlyRegs t [STAY_TMR_STS i, IMG_DENY, IMG_DENY_CNT]) ∧
  (∀ s i v, i < 128 → s.opens (STAY_TMR_CTL i) → s.flag (STAY_TMR_CTL i) STAY_TMR_CTL_EN = true → ∃ t, exec (.timerArm i v) s = .next t
      ∧ t.rdN STAY_WDROP_CNT = min 0xFFFFFFFF (s.rdN STAY_WDROP_CNT + 1) ∧ s.onlyRegs t [STAY_WDROP_CNT]) ∧
  (∀ s i r d, i < 128 → s.tmrSt i = tmARMED → s.tb1Run = true → r = (uST : Int) + s.baseRate (baseNo (s.tmrBase i)) → 0 < r →
      0 < (s.tmrCmp i : Int) - s.base (baseNo (s.tmrBase i)) → d = (((s.tmrCmp i : Int) - s.base (baseNo (s.tmrBase i)) + r - 1) / r).toNat →
    ∃ t, exec (.timerFix i) s = .next t ∧ (20000 < d → t = s)
      ∧ (d ≤ 20000 → t.tmrSt i = tmFIXED ∧ t.rdN (STAY_TMR_E i) = ceilFt (s.tb1 + d) % 2 ^ 64 ∧ s.onlyRegs t [STAY_TMR_STS i, STAY_TMR_E i])) ∧
  (∀ s i x, i < 128 → s.tmrSt i = tmARMED → s.tb1Run = true → 0 < (uST : Int) + s.baseRate (baseNo (s.tmrBase i)) → x = tget s.stay.tmrs i →
      (s.tmrCmp i : Int) ≤ s.base (baseNo (s.tmrBase i)) → ∃ t, exec (.timerFix i) s = .next t ∧ t.tmrSt i = tmFIXED
      ∧ t.rdN (STAY_TMR_E i) = ceilFt (s.tb1 + 256) % 2 ^ 64 ∧ t.flag (STAY_TMR_STS i) STAY_TMR_STS_LATE = true
      ∧ t.stay = { s.stay with tmrs := tput s.stay.tmrs i { x with k := x.k + skipped (s.tmrCmp i) (s.rdN (STAY_TMR_PER i) * uFRAC) (s.base (baseNo (s.tmrBase i))) } }
      ∧ s.keeps t [STAY_TMR_STS i, STAY_TMR_E i] ∧ { t with regs := s.regs, stay := s.stay } = s) ∧
  (∀ s i e a, i < 128 → s.tmrSt i = tmFIXED → e = s.rdN (STAY_TMR_E i) → s.reached (e - 256) = true →
      a = s.fld (STAY_TMR_CTL i) STAY_TMR_CTL_ARG → s.fld (STAY_TMR_CTL i) STAY_TMR_CTL_ACTION = 0 → s.fld (STAY_TMR_CTL i) STAY_TMR_CTL_MODE = 0 →
    ∃ t, exec (.timerFire i) s = .next t
      ∧ t.bus = { s.bus with held := insItem s.bus.held ⟨e, islHub, islHub, .ctrl, .timer i 0 a⟩, transit := s.bus.transit ++ (s.tmrChans i).map fun p => ⟨e, islHub, p.1, .ctrl, .start p.1 p.2⟩ }
      ∧ t.fld (STAY_TMR_CTL i) STAY_TMR_CTL_EN = 0 ∧ t.tmrSt i = tmIDLE ∧ t.fld (STAY_TMR_STS i) STAY_TMR_STS_STATUS = 0
      ∧ s.keeps t [STAY_TMR_CTL i, STAY_TMR_STS i] ∧ { t with regs := s.regs, bus := s.bus } = s) ∧
  (∀ s i e a k, i < 128 → s.tmrSt i = tmFIXED → e = s.rdN (STAY_TMR_E i) → s.reached (e - 256) = true →
      a = s.fld (STAY_TMR_CTL i) STAY_TMR_CTL_ARG → 2 ≤ s.fld (STAY_TMR_CTL i) STAY_TMR_CTL_ACTION →
      s.fld (STAY_TMR_CTL i) STAY_TMR_CTL_MODE = 1 → k = (tget s.stay.tmrs i).k + 1 → ∃ t, exec (.timerFire i) s = .next t
      ∧ t.bus = { s.bus with held := insItem s.bus.held ⟨e, islHub, islHub, .ctrl, .timer i (s.fld (STAY_TMR_CTL i) STAY_TMR_CTL_ACTION) a⟩ }
      ∧ tget t.stay.tmrs i = { tget s.stay.tmrs i with k := k }
      ∧ (s.tmrBase i = 0 → t.tmrSt i = tmFIXED ∧ t.rdN (STAY_TMR_E i) = ceilFt (s.rdN (STAY_TMR_CMP i) + k * s.rdN (STAY_TMR_PER i)) % 2 ^ 64)
      ∧ (s.tmrBase i ≠ 0 → t.tmrSt i = tmARMED)
      ∧ s.keeps t [STAY_TMR_STS i, STAY_TMR_E i] ∧ { t with regs := s.regs, bus := s.bus, stay := s.stay } = s) ∧
  (∀ s i e a g, i < 128 → s.tmrSt i = tmFIXED → e = s.rdN (STAY_TMR_E i) → 0 < e → s.reached (e - 256) = true →
      a = s.fld (STAY_TMR_CTL i) STAY_TMR_CTL_ARG → s.fld (STAY_TMR_CTL i) STAY_TMR_CTL_ACTION = 1 → s.fld (STAY_TMR_CTL i) STAY_TMR_CTL_MODE = 0 →
      g = a % 64 → s.lsgCheck g lcSTART e 16 = 0 →
    ∃ t, exec (.timerFire i) s = .next t ∧ (t.grp g).cmd = some ⟨lcSTART, ceilFt e⟩ ∧ t.fld (GLB_LSG_STAT g) GLB_LSG_STAT_PENDING = 1
      ∧ t.bus = ((s.hold ⟨e, islHub, islHub, .ctrl, .timer i 1 a⟩).setCmd g lcSTART (ceilFt e) islHub).bus
      ∧ t.fld (STAY_TMR_CTL i) STAY_TMR_CTL_EN = 0 ∧ t.tmrSt i = tmIDLE ∧ t.fld (STAY_TMR_STS i) STAY_TMR_STS_STATUS = 0
      ∧ s.keeps t [GLB_LSG_STAT g, STAY_TMR_CTL i, STAY_TMR_STS i] ∧ { t with regs := s.regs, seq := s.seq, bus := s.bus } = s)

/-- R464, R470, R477 to R481 and Table 15-8. -/
def Obligations.LinksTrainComeUpAndLoseLanes : Prop :=
  (∀ s l r, l < 6 → s.opens (OZL_CTL l) → s.flag (OZL_CTL l) OZL_CTL_EN = false → s.lst l = lsDISABLED → (s.dev = dCAL ∨ s.dev = dREADY ∨ s.dev = dRUN) →
      r ≤ 4 → ∃ t, exec (.ozlEnable l true r) s = .next t ∧ t.flag (OZL_CTL l) OZL_CTL_EN = true ∧ t.fld (OZL_CTL l) OZL_CTL_MAXRATE = r
      ∧ t.lst l = lsDETECT ∧ (∀ i, i < 4 → t.lane l i = lnTRAINING) ∧ (t.link l).seen = 0 ∧ (t.link l).at_ = s.clock.now
      ∧ ((∀ k, k < 6 → k ≠ l → s.lst k = lsDISABLED → s.flag (OZL_CTL k) OZL_CTL_EN = false) →
          s.keeps t ([OZL_CTL l, OZL_STS l, OZL_GSTS] ++ (List.range 4).map (OZL_LSTS l))) ∧ { t with regs := s.regs, ozl := s.ozl } = s) ∧
  (∀ s l r, l < 6 → s.opens (OZL_CTL l) → s.flag (OZL_CTL l) OZL_CTL_EN = true → ∃ t, exec (.ozlEnable l false r) s = .next t
      ∧ t.flag (OZL_CTL l) OZL_CTL_EN = false ∧ t.lst l = lsDISABLED ∧ (∀ i, i < 4 → t.lane l i = lnOFF)
      ∧ (t.link l).txq = [] ∧ (t.link l).retry = [] ∧ t.txMap l = 0 ∧ t.rxMap l = 0) ∧
  (∀ s l, l < 6 → s.opens (OZL_CTL l) → s.lst l ≠ lsDISABLED → s.lst l ≠ lsTEST → ∃ t, exec (.ozlRetrain l) s = .next t ∧ t.lst l = lsDETECT
      ∧ (∀ i, i < 4 → t.lane l i = lnTRAINING) ∧ t.fld (OZL_STS l) OZL_STS_STATUS = E_OZL_LINK_DOWN
      ∧ t.rdN (OZL_DOWN_CNT l) = min 0xFFFFFFFF (s.rdN (OZL_DOWN_CNT l) + 1) ∧ (t.link l).txq = [] ∧ (t.link l).retry = []) ∧
  (∀ s l i b inv, l < 6 → i < 4 → bits b 63 56 = 0x3C → crc16 48 (bits b 63 16) = bits b 15 0 → s.lst l = lsDETECT →
      (s.link l).retryAt ≤ s.clock.now → bits b 31 28 = (tget s.img.links l).peerDev → bits b 27 25 = (tget s.img.links l).peerLink →
    ∃ t, exec (.trainBlockRx l i b inv) s = .next t ∧ t.fld (OZL_PEER l) OZL_PEER_DEV = bits b 31 28 ∧ t.fld (OZL_PEER l) OZL_PEER_LINK = bits b 27 25
      ∧ t.flag (OZL_LSTS l i) OZL_LSTS_POL_INV = inv ∧ (t.link l).peerMax = bits b 50 48
      ∧ ((s.link l).seen ||| 2 ^ i = 0xF → t.lst l = lsTRAIN ∧ t.lRate l = 0 ∧ t.tphase l = 0 ∧ (t.link l).at_ = s.clock.now
          ∧ ∀ j, j < 4 → t.fld (OZL_LSTS l j) OZL_LSTS_PRE = (tget s.img.links l).pre % 16 ∧ t.fld (OZL_LSTS l j) OZL_LSTS_POST = (tget s.img.links l).post % 32)
      ∧ ((s.link l).seen ||| 2 ^ i ≠ 0xF → t.lst l = lsDETECT ∧ (t.link l).seen = (s.link l).seen ||| 2 ^ i ∧ s.keeps t [OZL_PEER l, OZL_LSTS l i, OZL_STS l, OZL_GSTS])
      ∧ s.keeps t ([OZL_PEER l, OZL_STS l, OZL_GSTS] ++ (List.range 4).map (OZL_LSTS l)) ∧ { t with regs := s.regs, ozl := s.ozl } = s) ∧
  (∀ s l i b inv, l < 6 → i < 4 → bits b 63 56 = 0x3C → crc16 48 (bits b 63 16) = bits b 15 0 → s.lst l = lsDETECT →
      (s.link l).retryAt ≤ s.clock.now → bits b 31 28 ≠ (tget s.img.links l).peerDev → ∃ t, exec (.trainBlockRx l i b inv) s = .next t
      ∧ t.lst l = lsDETECT ∧ t.fld (OZL_STS l) OZL_STS_STATUS = E_OZL_PEER ∧ t.bus.reports = s.bus.reports ++ [⟨E_OZL_PEER, false, islLink l, l⟩]
      ∧ s.keeps t [OZL_PEER l, OZL_LSTS l i, OZL_STS l]) ∧
  (∀ s l i b inv, (bits b 63 56 ≠ 0x3C ∨ crc16 48 (bits b 63 16) ≠ bits b 15 0) → exec (.trainBlockRx l i b inv) s = .next s) ∧
  (∀ s l, l < 6 → s.lst l = lsTRAIN → s.tphase l < 5 → ∃ t, exec (.trainPhaseDone l) s = .next t
      ∧ t.tphase l = (if s.tphase l = 2 ∧ s.lRate l < 2 then 4 else s.tphase l + 1) ∧ s.onlyRegs t [OZL_PEER l]) ∧
  (∀ s l m, l < 6 → s.lst l = lsTRAIN → 5 ≤ s.tphase l → m = min (s.fld (OZL_CTL l) OZL_CTL_MAXRATE) (s.link l).peerMax → s.lRate l < m →
      m ≤ 4 → ∃ t, exec (.trainPhaseDone l) s = .next t ∧ t.lRate l = s.lRate l + 1 ∧ t.tphase l = 0 ∧ t.lst l = lsTRAIN
      ∧ t.link l = { s.link l with at_ := s.clock.now, slotAt := 45 * s.clock.now, ans := [] } ∧ s.keeps t [OZL_PEER l, OZL_STS l] ∧ { t with regs := s.regs, ozl := s.ozl } = s) ∧
  (∀ s l, l < 6 → s.lst l = lsTRAIN → 5 ≤ s.tphase l → min (s.fld (OZL_CTL l) OZL_CTL_MAXRATE) (s.link l).peerMax ≤ s.lRate l → s.lRate l ≤ 4 →
    ∃ t, exec (.trainPhaseDone l) s = .next t ∧ t.lst l = (if s.lRate l = 4 then lsUP else lsUPSLOW) ∧ t.lRate l = s.lRate l
      ∧ t.txMap l = 0xF ∧ t.rxMap l = 0xF ∧ (∀ i, i < 4 → t.lane l i = lnACTIVE) ∧ t.fld (OZL_STS l) OZL_STS_STATUS = 0
      ∧ t.fld OZL_GSTS (l, 1) = (if s.lRate l = 4 then 1 else 0) ∧ (t.link l).resend = (s.link l).retry
      ∧ s.keeps t ([OZL_STS l, OZL_GSTS, STAY_LNK_STS l] ++ (List.range 4).map (OZL_LSTS l))
      ∧ { t with regs := s.regs, ozl := s.ozl, stay := s.stay } = s) ∧
  (∀ s l, l < 6 → s.lst l = lsRECOVERY → 5 ≤ s.tphase l → ∃ t, exec (.trainPhaseDone l) s = .next t
      ∧ t.lst l = (if s.txMap l = 0xF then lsUP else lsDEGRADED) ∧ t.lRate l = 4 ∧ t.txMap l = s.txMap l ∧ (t.link l).resend = (s.link l).retry) ∧
  (∀ s l failed, l < 6 → s.lst l = lsTRAIN → (s.link l).at_ + 40000000 ≤ s.clock.now → s.lRate l = 0 →
    ∃ t, exec (.trainRateTimeout l failed) s = .next t ∧ t.lst l = lsDETECT ∧ t.fld (OZL_STS l) OZL_STS_STATUS = E_OZL_TIMEOUT
      ∧ (t.link l).retryAt = s.clock.now + 2000000000) ∧
  (∀ s l failed i, l < 6 → i < 4 → s.lst l = lsTRAIN → (s.link l).at_ + 40000000 ≤ s.clock.now → s.lRate l = 4 → failed = 2 ^ i → 3 ≤ s.tphase l →
    ∃ t, exec (.trainRateTimeout l failed) s = .next t ∧ t.lst l = lsDEGRADED ∧ t.lRate l = 4 ∧ t.txMap l = 0xF - 2 ^ i ∧ t.rxMap l = 0xF - 2 ^ i
      ∧ t.lane l i = lnLOST) ∧
  (∀ s l failed, l < 6 → s.lst l = lsTRAIN → (s.link l).at_ + 40000000 ≤ s.clock.now → 0 < s.lRate l → s.lRate l < 4 →
    ∃ t, exec (.trainRateTimeout l failed) s = .next t ∧ t.lst l = lsUPSLOW ∧ t.lRate l = s.lRate l - 1 ∧ t.txMap l = 0xF
      ∧ t.fld (OZL_STS l) OZL_STS_STATUS = E_OZL_TRAIN_RATE ∧ t.bus.reports = s.bus.reports ++ [⟨E_OZL_TRAIN_RATE, false, islLink l, l⟩]) ∧
  (∀ s l i, s.lst l = lsDETECT → (s.link l).retryAt ≤ s.clock.now → ∃ t, exec (.ozlDetectRetry l i) s = .next t
      ∧ t.link l = { s.link l with retryAt := 0, seen := 0, at_ := s.clock.now } ∧ t.regs = s.regs ∧ { t with ozl := s.ozl } = s) ∧
  (∀ s l i, l < 6 → i < 4 → s.lst l = lsDEGRADED → s.lane l i = lnLOST → (s.link l).retryAt ≤ s.clock.now → ∃ t, exec (.ozlDetectRetry l i) s = .next t
      ∧ t.lane l i = lnTRAINING ∧ t.link l = { s.link l with retryAt := 0 } ∧ s.keeps t [OZL_LSTS l i] ∧ { t with regs := s.regs, ozl := s.ozl } = s) ∧
  (∀ s l, l < 6 → s.lst l = lsRECOVERY → (s.link l).at_ + 40000000 ≤ s.clock.now → ∃ t, exec (.recoveryTimeout l) s = .next t
      ∧ t.lst l = lsTRAIN ∧ t.lRate l = 0 ∧ t.tphase l = 0 ∧ t.link l = { s.link l with at_ := s.clock.now, slotAt := 45 * s.clock.now, ans := [] }
      ∧ s.keeps t ([OZL_STS l, OZL_GSTS, OZL_PEER l] ++ (List.range 4).map (OZL_LSTS l)) ∧ { t with regs := s.regs, ozl := s.ozl } = s) ∧
  (∀ s l i b bip ok, s.lCarries l = true → bits b 63 56 = 0x5A → crc16 48 (bits b 63 16) = bits b 15 0 → ∃ t, exec (.amRx l i b bip ok) s = .next t
      ∧ (t.link l).amMiss = tput (s.link l).amMiss i (if ok = true then 0 else tget (s.link l).amMiss i + 1)
      ∧ t.rdN (OZL_BIP_ERR l i) = (if bits b 41 34 = bip % 256 then s.rdN (OZL_BIP_ERR l i) else min 0xFFFFFFFF (s.rdN (OZL_BIP_ERR l i) + 1))
      ∧ s.keeps t [OZL_BIP_ERR l i] ∧ { t with regs := s.regs, ozl := s.ozl } = s) ∧
  (∀ s l b, l < 6 → s.lCarries l = true → bits b 63 56 = 0x66 → crc16 48 (bits b 63 16) = bits b 15 0 → bits b 49 42 = ((s.link l).rxEpoch + 1) % 256 →
    ∃ t, exec (.rsRx l b) s = .next t ∧ t.rxMap l = bits b 53 50 ∧ (t.link l).rxEpoch = bits b 49 42
      ∧ (∀ i ∈ laneList (bits b 53 50), t.lane l i = lnACTIVE) ∧ t.rdN (OZL_RESTRIPE_CNT l) = min 0xFFFFFFFF (s.rdN (OZL_RESTRIPE_CNT l) + 1)
      ∧ t.lst l = (if s.lst l = lsUPSLOW then lsUPSLOW else if s.txMap l = 0xF ∧ bits b 53 50 = 0xF then lsUP else lsDEGRADED)
      ∧ s.keeps t ([OZL_STS l, OZL_GSTS, OZL_RESTRIPE_CNT l] ++ (List.range 4).map (OZL_LSTS l)) ∧ { t with regs := s.regs, ozl := s.ozl } = s) ∧
  (∀ s l i, l < 6 → i < 4 → s.lCarries l = true → s.rxMap l = 0xF → (∀ j, j < 4 → s.lane l j = lnACTIVE) → ∃ t, exec (.laneLost l i) s = .next t
      ∧ t.lane l i = lnLOST ∧ t.fld (OZL_STS l) OZL_STS_STATUS = E_OZL_LANE_LOST
      ∧ (t.link l).ctl = (s.link l).ctl ++ [2 ^ 204 + i * 2 ^ 200] ∧ t.bus.reports = s.bus.reports ++ [⟨E_OZL_LANE_LOST, false, islLink l, l⟩]
      ∧ t.rxMap l = 0xF ∧ s.keeps t [OZL_LSTS l i, OZL_STS l, OZL_GSTS]) ∧
  (∀ s l i, l < 6 → i < 4 → s.lCarries l = true → bit (s.rxMap l) i = true → s.rxMap l ≠ 0xF → s.lane l i = lnACTIVE →
    ∃ t, exec (.laneLost l i) s = .next t ∧ t.lst l = lsDETECT ∧ t.fld (OZL_STS l) OZL_STS_STATUS = E_OZL_LINK_DOWN
      ∧ t.rdN (OZL_DOWN_CNT l) = min 0xFFFFFFFF (s.rdN (OZL_DOWN_CNT l) + 1)) ∧
  (∀ s l i, s.lCarries l = true → (s.lane l i = lnLOST ∨ s.lane l i = lnTRAINING) → ∃ t, exec (.laneRetrainDone l i) s = .next t
      ∧ t.lane l i = lnTRAINING ∧ (t.link l).ctl = (s.link l).ctl ++ [2 * 2 ^ 204 + i * 2 ^ 200] ∧ s.keeps t [OZL_LSTS l i]
      ∧ { t with regs := s.regs, ozl := s.ozl } = s) ∧
  (∀ s l v i, l < 6 → i < 4 → s.lCarries l = true → flGood v = true → flType v = 5 → bits (flPay v) 207 204 = 1 → bits (flPay v) 203 200 = i →
      s.txMap l = 0xF → ∃ t, exec (.laneDownRx l v) s = .next t ∧ t.txMap l = 0xF - 2 ^ i
      ∧ t.lst l = (if s.lst l = lsUPSLOW then lsUPSLOW else lsDEGRADED) ∧ (t.link l).epoch = ((s.link l).epoch + 1) % 256
      ∧ (t.link l).out.length = (s.link l).out.length + 1
      ∧ (∀ j ∈ laneList (0xF - 2 ^ i), (tget (t.link l).wire j).length = (tget (s.link l).wire j).length + 1) ∧ t.rdN (OZL_RESTRIPE_CNT l) = min 0xFFFFFFFF (s.rdN (OZL_RESTRIPE_CNT l) + 1)
      ∧ s.keeps t [OZL_STS l, OZL_GSTS, OZL_RESTRIPE_CNT l, OZL_PMSTS l] ∧ { t with regs := s.regs, ozl := s.ozl } = s) ∧
  (∀ s l v i, l < 6 → i < 4 → s.lCarries l = true → flGood v = true → flType v = 5 → bits (flPay v) 207 204 = 2 → bits (flPay v) 203 200 = i →
      bit (s.txMap l) i = false → ∃ t, exec (.laneReadyRx l v) s = .next t ∧ t.txMap l = s.txMap l + 2 ^ i
      ∧ t.lst l = (if s.lst l = lsUPSLOW then lsUPSLOW else if s.txMap l + 2 ^ i = 0xF ∧ s.rxMap l = 0xF then lsUP else lsDEGRADED)
      ∧ t.rdN (OZL_RESTRIPE_CNT l) = min 0xFFFFFFFF (s.rdN (OZL_RESTRIPE_CNT l) + 1)
      ∧ s.keeps t [OZL_STS l, OZL_GSTS, OZL_RESTRIPE_CNT l, OZL_PMSTS l] ∧ { t with regs := s.regs, ozl := s.ozl } = s)

/-- R454, R462, R463, R467 to R475, R482 and R483. The order of a block's bits in the scrambler is presumed (log 92). -/
def Obligations.FlitsAreTakenAcknowledgedAndRetried : Prop :=
  (∀ s l v x, l < 6 → s.lCarries l = true → flGood v = true → flType v = 0 → x = s.link l → ∃ t, exec (.idleFlitRx l v) s = .next t
      ∧ t.link l = (rxAck l v s).link l
      ∧ (bit v 248 = true → (x.retry.any fun r => r.1 == flAck v) = true → (t.link l).retry = (x.retry.dropWhile fun r => r.1 != flAck v).drop 1
          ∧ (t.link l).ackAt = s.clock.now ∧ (t.link l).resends = 0)
      ∧ (bit v 248 = false → (t.link l).retry = x.retry ∧ (t.link l).ackAt = x.ackAt)
      ∧ (bits v 228 224 ≠ 0 → tget (t.link l).credits (bits v 231 229) = min (ozlBuffers (bits v 231 229)) (tget x.credits (bits v 231 229) + bits v 228 224))
      ∧ (bits v 228 224 = 0 → (t.link l).credits = x.credits) ∧ t.fld (OZL_PMSTS l) OZL_PMSTS_RX_LS = 0
      ∧ s.keeps t [OZL_PMSTS l] ∧ { t with regs := s.regs, ozl := s.ozl } = s) ∧
  (∀ s l v, l < 6 → s.lCarries l = true → flGood v = true → flType v = 1 → flSeq v = (s.link l).rxNext → ∃ t, exec (.dataFlitRx l v) s = .next t
      ∧ (t.link l).rxNext = ((s.link l).rxNext + 1) % 256 ∧ (t.link l).rxAny = true ∧ (t.link l).nakked = false
      ∧ (t.link l).retry = ((rxAck l v s).link l).retry ∧ (flClass v ≠ 0 → (t.link l).owed = (s.link l).owed)
      ∧ (flClass v = 0 → tget (t.link l).owed 0 = tget (s.link l).owed 0 + 1)
      ∧ t.fld (OZL_PMSTS l) OZL_PMSTS_RX_LS = 0 ∧ s.keeps t [OZL_PMSTS l] ∧ { t with regs := s.regs, ozl := s.ozl } = s) ∧
  (∀ s l v, l < 6 → s.lCarries l = true → flGood v = true → flType v = 1 → flSeq v ≠ (s.link l).rxNext →
      (flSeq v + 256 - (s.link l).rxNext) % 256 < 128 → ∃ t, exec (.dataFlitRx l v) s = .next t ∧ (t.link l).rxNext = (s.link l).rxNext
      ∧ (t.link l).nakked = true ∧ ((s.link l).nakked = false → (t.link l).nak = true) ∧ s.keeps t [OZL_PMSTS l]
      ∧ { t with regs := s.regs, ozl := s.ozl } = s) ∧
  (∀ s l v arr, ∀ c ∈ [Instr.dataFlitRx l v, Instr.nakRx l v, Instr.idleFlitRx l v, Instr.timeFlitRx l v arr, Instr.timeTb0FlitRx l v,
        Instr.laneDownRx l v, Instr.laneReadyRx l v], s.lCarries l = true → flGood v = false → (s.link l).nakked = false →
    ∃ t, exec c s = .next t ∧ t.link l = { s.link l with nak := true, nakked := true } ∧ t.regs = s.regs ∧ { t with ozl := s.ozl } = s) ∧
  (∀ s l v x, l < 6 → s.lCarries l = true → flGood v = true → flType v = 2 → x = (rxAck l v s).link l → ∃ t, exec (.nakRx l v) s = .next t
      ∧ (x.retry = [] → t.link l = x) ∧ (t.link l).retry = x.retry ∧ t.rdN (OZL_RETRY_CNT l) = min 0xFFFFFFFF (s.rdN (OZL_RETRY_CNT l) + 1)
      ∧ (x.retry ≠ [] → x.resends + 1 < 8 → t.link l = { x with resend := x.retry, resends := x.resends + 1 })
      ∧ (x.retry ≠ [] → 8 ≤ x.resends + 1 → t.lst l = lsRECOVERY ∧ t.tphase l = 1
          ∧ t.link l = { x with resend := x.retry, resends := 0, at_ := s.clock.now } ∧ t.fld (OZL_STS l) OZL_STS_STATUS = E_OZL_RETRY_LIMIT)
      ∧ (x.retry = [] ∨ x.resends + 1 < 8 → s.keeps t [OZL_PMSTS l, OZL_RETRY_CNT l] ∧ { t with regs := s.regs, ozl := s.ozl } = s)) ∧
  (∀ s l v arr, l < 6 → s.lCarries l = true → flGood v = true → flType v = 3 → ∃ t, exec (.timeFlitRx l v arr) s = .next t
      ∧ (t.link l).peerSeq = bits (flPay v) 207 200 ∧ (t.link l).peerAt = arr % 2 ^ 51
      ∧ (bits (flPay v) 199 192 = (s.link l).mseq → (s.link l).timeAt ≠ 0 → (t.link l).trip
          = some ⟨diff51 (bits (flPay v) 140 90) (s.link l).txTs, diff51 arr (bits (flPay v) 191 141), bits (flPay v) 191 141 / 8,
              sgn 32 (bits (flPay v) 89 58), bits (flPay v) 57 55, bits (flPay v) 207 200, none⟩)
      ∧ (bits (flPay v) 199 192 ≠ (s.link l).mseq → (t.link l).trip = none) ∧ s.keeps t [OZL_PMSTS l] ∧ { t with regs := s.regs, ozl := s.ozl } = s) ∧
  (∀ s l v x, l < 6 → s.lCarries l = true → flGood v = true → flType v = 4 → (s.link l).trip = some x → x.mseq = bits (flPay v) 207 200 →
    ∃ t, exec (.timeTb0FlitRx l v) s = .next t
      ∧ (t.link l).trip = some { x with tb0 := some ((bits (flPay v) 199 152 * 10 ^ 9 + bits (flPay v) 151 120) * 65536 + bits (flPay v) 119 104) }
      ∧ s.keeps t [OZL_PMSTS l] ∧ { t with regs := s.regs, ozl := s.ozl } = s) ∧
  (∀ s l v a, l < 6 → s.lCarries l = true → flGood v = true → flType v = 5 → bits (flPay v) 207 204 = 3 → bits (flPay v) 203 200 = a → a < 3 →
    ∃ t, exec (.lsEnterRx l v) s = .next t ∧ t.fld (OZL_PMSTS l) OZL_PMSTS_RX_LS = a
      ∧ (t.link l).ctl = ((rxAck l v s).link l).ctl ++ [4 * 2 ^ 204 + a * 2 ^ 200] ∧ (a = 2 → t.fld (STAY_LNK_STS l) STAY_LNK_STS_VALID = 0)
      ∧ s.keeps t [OZL_PMSTS l, STAY_LNK_STS l] ∧ { t with regs := s.regs, ozl := s.ozl } = s) ∧
  (∀ s l v a, l < 6 → s.lCarries l = true → flGood v = true → flType v = 5 → bits (flPay v) 207 204 = 4 → bits (flPay v) 203 200 = a →
      (s.link l).lsAsk = a → 0 < a → a < 3 → ∃ t, exec (.lsAckRx l v) s = .next t ∧ t.fld (OZL_PMSTS l) OZL_PMSTS_TX_LS = a
      ∧ (t.link l).lsAsk = 0 ∧ (t.link l).lsAt = 0 ∧ (a = 2 → t.fld (STAY_LNK_STS l) STAY_LNK_STS_VALID = 0)
      ∧ s.keeps t [OZL_PMSTS l, STAY_LNK_STS l] ∧ { t with regs := s.regs, ozl := s.ozl } = s) ∧
  (∀ s l, s.lCarries l = true → (s.link l).retry ≠ [] → (s.link l).ackAt + 40000 ≤ s.clock.now → (s.link l).resends + 1 < 8 →
    ∃ t, exec (.ackTimeout l) s = .next t
      ∧ t.link l = { s.link l with resend := (s.link l).retry, resends := (s.link l).resends + 1, ackAt := s.clock.now }
      ∧ t.regs = s.regs ∧ { t with ozl := s.ozl } = s) ∧
  (∀ s l, l < 6 → s.lCarries l = true → (s.link l).retry ≠ [] → (s.link l).ackAt + 40000 ≤ s.clock.now → 8 ≤ (s.link l).resends + 1 →
    ∃ t, exec (.ackTimeout l) s = .next t ∧ t.lst l = lsRECOVERY ∧ t.tphase l = 1 ∧ (t.link l).resend = (s.link l).retry
      ∧ (t.link l).resends = 0 ∧ (t.link l).at_ = s.clock.now ∧ t.fld (OZL_STS l) OZL_STS_STATUS = E_OZL_RETRY_LIMIT
      ∧ t.bus = { s.bus with reports := s.bus.reports ++ [⟨E_OZL_RETRY_LIMIT, false, islLink l, l⟩] }
      ∧ s.keeps t [OZL_STS l, OZL_GSTS, OZL_PEER l] ∧ { t with regs := s.regs, ozl := s.ozl, bus := s.bus } = s) ∧
  (∀ s l x, l < 6 → (s.link l).txq.find? (fun t => t.cls == 4) = some x → tget (s.link l).credits 4 = 0 → max x.at_ (s.link l).dry + 200000 < s.clock.now →
    ∃ t, exec (.traceCreditTimeout l) s = .next t ∧ (t.link l).txq = (s.link l).txq.erase x
      ∧ t.rdN (OZL_TRACE_DROP_CNT l) = min 0xFFFFFFFF (s.rdN (OZL_TRACE_DROP_CNT l) + 1)) ∧
  (∀ s l x, (∀ c ∈ s.cnv.copies, c.link ≠ l) → (∀ m ∈ s.dec.out, m.link ≠ l) →
      (s.link l).txq.find? (fun t => t.cls == 0 && decide (t.at_ + 512 ≤ s.clock.now)) = some x → ∃ t, exec (.fbQueueStale l) s = .next t
      ∧ t.link l = { s.link l with txq := (s.link l).txq.filter fun u => u.cls != 0 || u.item != x.item, debts := (t.link l).debts }
      ∧ t.rdN (OZL_FB_STALE_CNT l) = min 0xFFFFFFFF (s.rdN (OZL_FB_STALE_CNT l) + 1) ∧ s.keeps t [OZL_FB_STALE_CNT l]
      ∧ { t with regs := s.regs, ozl := s.ozl } = s) ∧
  (∀ s l, s.lCarries l = true → s.tb1Run = true → s.fld (OZL_PMSTS l) OZL_PMSTS_TX_LS ≠ 2 → s.fld (OZL_PMSTS l) OZL_PMSTS_RX_LS ≠ 2 →
      (s.link l).timeAt + 20000000 ≤ s.clock.now → ∃ t, exec (.linkTimeTx l) s = .next t
      ∧ t.link l = { s.link l with timeAt := s.clock.now, timeAsk := true } ∧ t.regs = s.regs ∧ { t with ozl := s.ozl } = s) ∧
  (∀ s l x b ts, l < 6 → (s.link l).trip = some x → x.tb0 = some b → s.staySrc ≠ 2 + l →
      ts = (tget s.stay.lnks l).trips ++ [((x.out - x.back) * 25 / 8, (x.out + x.back) * 25 / 8)] → ts.length ≤ 16 → s.fld STAY_CTL STAY_CTL_LNK_THR = 0 →
    ∃ t, exec (.linkTimeRx l) s = .next t ∧ (t.link l).trip = none ∧ (tget t.stay.lnks l).trips = ts ∧ (ts.length < 16 → t.regs = s.regs)
      ∧ (ts.length = 16 → t.rdN (STAY_LNK_OFF l) = unsgn 32 (mean (ts.map (·.1))) ∧ t.rdN (STAY_LNK_DLY l) = unsgn 32 (mean (ts.map (·.2)))
          ∧ t.fld (STAY_LNK_STS l) STAY_LNK_STS_VALID = 1)
      ∧ s.keeps t [STAY_LNK_OFF l, STAY_LNK_DLY l, STAY_LNK_STS l] ∧ { t with regs := s.regs, ozl := s.ozl, stay := s.stay } = s) ∧
  (∀ s l f j, s.txMap l = 0xF → (s.link l).rr = 0 → (s.link l).rows < 16383 → j < 4 → tget ((flitBlocks l f s).link l).wire j = tget (s.link l).wire j
      ++ [2 ^ 64 + scramble ((tget (s.link l).scr j).getD (Config.scrSeed (4 * l + j)).toNat) (bits f (64 * j + 63) (64 * j))]) ∧
  (∀ s l f, s.txMap l = 0x7 → (s.link l).rr = 0 → (s.link l).rows < 16382 → ((flitBlocks l f s).link l).rr = 1
      ∧ (tget ((flitBlocks l f s).link l).wire 0).length = (tget (s.link l).wire 0).length + 2
      ∧ ∀ j ∈ [1, 2], (tget ((flitBlocks l f s).link l).wire j).length = (tget (s.link l).wire j).length + 1)

/-- R482 to R487. -/
def Obligations.LinksSavePowerParkLanesAndTest : Prop :=
  (∀ s l ls, l < 6 → s.opens (OZL_PM l) → s.lCarries l = true → 1 ≤ ls → ls ≤ 2 → s.linkNamed l = false → ∃ t, exec (.ozlPmRequest l ls) s = .next t
      ∧ t.fld (OZL_PM l) OZL_PM_TX_LS = ls ∧ t.fld (OZL_PMSTS l) OZL_PMSTS_STATUS = 0
      ∧ t.link l = { s.link l with lsAsk := ls, ctl := (s.link l).ctl ++ [3 * 2 ^ 204 + ls * 2 ^ 200] }
      ∧ s.keeps t [OZL_PM l, OZL_PMSTS l] ∧ { t with regs := s.regs, ozl := s.ozl } = s) ∧
  (∀ s l ls, l < 6 → s.opens (OZL_PM l) → s.lCarries l = true → 1 ≤ ls → ls ≤ 2 → s.linkNamed l = true → ∃ t, exec (.ozlPmRequest l ls) s = .next t
      ∧ t.fld (OZL_PMSTS l) OZL_PMSTS_STATUS = E_OZL_PM_BUSY ∧ s.onlyRegs t [OZL_PM l, OZL_PMSTS l]) ∧
  (∀ s l, l < 6 → s.opens (OZL_PM l) → s.lCarries l = true → s.fld (OZL_PMSTS l) OZL_PMSTS_TX_LS ≠ 0 → (s.link l).lsAt = 0 →
    ∃ t, exec (.ozlPmRequest l 0) s = .next t ∧ t.fld (OZL_PMSTS l) OZL_PMSTS_STATUS = 0
      ∧ t.link l = { s.link l with lsAt := s.clock.now + (if s.fld (OZL_PMSTS l) OZL_PMSTS_TX_LS = 1 then 4000 else 800000) }
      ∧ s.keeps t [OZL_PM l, OZL_PMSTS l] ∧ { t with regs := s.regs, ozl := s.ozl } = s) ∧
  (∀ s l ls, l < 6 → s.opens (OZL_PM l) → s.lCarries l = false → ∃ t, exec (.ozlPmRequest l ls) s = .next t ∧ s.onlyRegs t [OZL_PM l]) ∧
  (∀ s l, l < 6 → s.flag (OZL_PM l) OZL_PM_AUTO = true → s.lCarries l = true → s.fld (OZL_PMSTS l) OZL_PMSTS_TX_LS = 0 → (s.link l).lsAsk = 0 →
      (s.link l).txq = [] → (s.link l).dataAt + 16 * s.fld (OZL_PM l) OZL_PM_IDLE_FT ≤ s.clock.now → s.linkNamed l = false →
    ∃ t, exec (.lsAutoIdle l) s = .next t ∧ t.link l = { s.link l with lsAsk := 1, ctl := (s.link l).ctl ++ [3 * 2 ^ 204 + 2 ^ 200] }
      ∧ t.fld (OZL_PMSTS l) OZL_PMSTS_STATUS = 0 ∧ s.keeps t [OZL_PMSTS l] ∧ { t with regs := s.regs, ozl := s.ozl } = s) ∧
  (∀ s l, (s.link l).lsAt ≠ 0 → (s.link l).lsAt ≤ s.clock.now → ∃ t, exec (.lsExitComplete l) s = .next t
      ∧ t.link l = { s.link l with lsAt := 0, dataAt := s.clock.now } ∧ t.fld (OZL_PMSTS l) OZL_PMSTS_TX_LS = 0
      ∧ s.keeps t [OZL_PMSTS l] ∧ { t with regs := s.regs, ozl := s.ozl } = s) ∧
  (∀ s l i, l < 6 → i < 4 → s.opens (OZL_LCFG l i) → s.flag (OZL_LCFG l i) OZL_LCFG_PARK = false → s.txMap l = 0xF → s.rxMap l = 0xF →
    ∃ t, exec (.ozlPark l i true) s = .next t ∧ t.flag (OZL_LCFG l i) OZL_LCFG_PARK = true ∧ t.lane l i = lnPARKED ∧ t.txMap l = 0xF - 2 ^ i
      ∧ (t.link l).ctl = (s.link l).ctl ++ [2 ^ 204 + i * 2 ^ 200] ∧ t.rdN (OZL_RESTRIPE_CNT l) = min 0xFFFFFFFF (s.rdN (OZL_RESTRIPE_CNT l) + 1)
      ∧ (s.lst l = lsUP → t.lst l = lsDEGRADED)
      ∧ s.keeps t [OZL_LCFG l i, OZL_LSTS l i, OZL_STS l, OZL_GSTS, OZL_RESTRIPE_CNT l] ∧ { t with regs := s.regs, ozl := s.ozl } = s) ∧
  (∀ s l i j, l < 6 → i < 4 → j < 4 → j ≠ i → s.opens (OZL_LCFG l i) → s.flag (OZL_LCFG l i) OZL_LCFG_PARK = false →
      (bit (s.txMap l) j = false ∨ bit (s.rxMap l) j = false) → ∃ t, exec (.ozlPark l i true) s = .next t
      ∧ t.fld (OZL_STS l) OZL_STS_STATUS = E_OZL_STATE ∧ s.onlyRegs t [OZL_STS l]) ∧
  (∀ s l i, l < 6 → i < 4 → s.opens (OZL_LCFG l i) → s.flag (OZL_LCFG l i) OZL_LCFG_PARK = true → ∃ t, exec (.ozlPark l i false) s = .next t
      ∧ t.flag (OZL_LCFG l i) OZL_LCFG_PARK = false ∧ t.lane l i = lnTRAINING ∧ s.onlyRegs t [OZL_LCFG l i, OZL_LSTS l i]) ∧
  (∀ s l i v, l < 6 → i < 4 → s.opens (OZL_LCFG l i) → (s.laneIdle l i = true ∨ (bit v 3 = false ∧ bit v 2 = false)) →
    ∃ t, exec (.ozlPrbsCtl l i v) s = .next t ∧ t.flag (OZL_LCFG l i) OZL_LCFG_GEN = bit v 3 ∧ t.flag (OZL_LCFG l i) OZL_LCFG_CHK = bit v 2
      ∧ t.fld (OZL_LCFG l i) OZL_LCFG_PRBS_SEL = bits v 5 4 ∧ t.flag (OZL_LCFG l i) OZL_LCFG_PARK = s.flag (OZL_LCFG l i) OZL_LCFG_PARK
      ∧ s.onlyRegs t [OZL_LCFG l i]) ∧
  (∀ s l i v, l < 6 → i < 4 → s.opens (OZL_LCFG l i) → s.laneIdle l i = false → (bit v 3 = true ∨ bit v 2 = true) →
    ∃ t, exec (.ozlPrbsCtl l i v) s = .next t ∧ t.fld (OZL_STS l) OZL_STS_STATUS = E_OZL_STATE ∧ s.onlyRegs t [OZL_STS l]) ∧
  (∀ s l i, l < 6 → i < 4 → s.opens (OZL_LCFG l i) → s.flag (OZL_LCFG l i) OZL_LCFG_GEN = true → ∃ t, exec (.ozlPrbsInj l i) s = .next t
      ∧ tget t.ozl.injected (4 * l + i) = tget s.ozl.injected (4 * l + i) + 1
      ∧ ((s.fld (OZL_TEST l) OZL_TEST_LB = 1 ∨ s.fld (OZL_TEST l) OZL_TEST_LB = 2) → s.flag (OZL_LCFG l i) OZL_LCFG_CHK = true →
          t.rdN (OZL_PRBS_ERR l i) = min 0xFFFFFFFF (s.rdN (OZL_PRBS_ERR l i) + 1))
      ∧ (s.flag (OZL_LCFG l i) OZL_LCFG_CHK = false → t.regs = s.regs) ∧ s.keeps t [OZL_PRBS_ERR l i] ∧ { t with regs := s.regs, ozl := s.ozl } = s) ∧
  (∀ s l lb, l < 6 → lb < 4 → s.opens (OZL_TEST l) → s.flag (OZL_CTL l) OZL_CTL_EN = false → ∃ t, exec (.ozlLoopback l lb) s = .next t
      ∧ t.fld (OZL_TEST l) OZL_TEST_LB = lb ∧ t.lst l = (if lb = 0 then lsDISABLED else lsTEST)
      ∧ (∀ i, i < 4 → t.lane l i = (if lb = 0 then lnOFF else lnTEST)) ∧ t.fld (OZL_STS l) OZL_STS_STATUS = 0
      ∧ s.onlyRegs t ([OZL_TEST l, OZL_STS l, OZL_GSTS] ++ (List.range 4).map (OZL_LSTS l))) ∧
  (∀ s l lb, l < 6 → s.opens (OZL_TEST l) → s.flag (OZL_CTL l) OZL_CTL_EN = true → ∃ t, exec (.ozlLoopback l lb) s = .next t
      ∧ t.fld (OZL_STS l) OZL_STS_STATUS = E_OZL_STATE ∧ s.onlyRegs t [OZL_STS l]) ∧
  (∀ s l, s.opens (OZL_INJ l) → ∃ t, exec (.ozlFlitInj l) s = .next t ∧ t.link l = { s.link l with inj := true } ∧ t.regs = s.regs
      ∧ { t with ozl := s.ozl } = s)

/-- R494, R497, R499, R510, R511. Other queues and other registers keep their values. -/
def Obligations.QueueManagerCommandsAndDoorbells : Prop :=
  (∀ s v, s.opens QM_QIDX → v < 2 ^ 18 → ∃ t, exec (.qmQidxWrite v) s = .next t ∧ t.rdN QM_QIDX = v
      ∧ (∀ i, i < 8 → t.rd (QM_QD i) = BitVec.ofNat 64 ((s.que v).w i))
      ∧ t.rd QM_QSTS = BitVec.ofNat 64 ((s.que v).status % 2 ^ 16 * 2 ^ 16 + (s.que v).st)
      ∧ t.rd QM_QPROD = BitVec.ofNat 64 (s.que v).prod ∧ t.rd QM_QCONS = BitVec.ofNat 64 (s.que v).cons
      ∧ s.onlyRegs t (QM_QIDX :: QM_QSTS :: QM_QPROD :: QM_QCONS :: (List.range 8).map QM_QD)) ∧
  (∀ s, s.opens QM_QCMD → (s.que s.qidx).st = qOFF → ∃ t, exec .qmWrite s = .next t
      ∧ t.que s.qidx = { s.que s.qidx with desc := (List.range 8).map fun i => s.rdN (QM_QD i), status := 0 }
      ∧ (∀ r, r ≠ s.qidx → t.que r = s.que r) ∧ t.rdN QM_QSTS = qOFF ∧ s.keeps t [QM_QSTS] ∧ { t with regs := s.regs, hif := s.hif } = s) ∧
  (∀ s, s.opens QM_QCMD → (s.que s.qidx).st = qOFF → s.enableCheck s.qidx = 0 → ∃ t, exec .qmEnable s = .next t
      ∧ t.que s.qidx = { (default : Que) with desc := (s.que s.qidx).desc, lost := (s.que s.qidx).lost, st := qACTIVE }
      ∧ (∀ r, r ≠ s.qidx → t.que r = s.que r) ∧ t.rdN QM_QSTS = qACTIVE ∧ t.rdN QM_QPROD = 0 ∧ t.rdN QM_QCONS = 0
      ∧ s.keeps t [QM_QSTS, QM_QPROD, QM_QCONS] ∧ { t with regs := s.regs, hif := s.hif } = s) ∧
  (∀ s n, s.opens QM_QCMD → n = (if (s.que s.qidx).st = qACTIVE then qDRAINING else if (s.que s.qidx).st = qHALTED then qOFF else (s.que s.qidx).st) →
    ∃ t, exec .qmDisable s = .next t ∧ t.que s.qidx = { s.que s.qidx with st := n, status := 0 }
      ∧ (∀ r, r ≠ s.qidx → t.que r = s.que r) ∧ t.rd QM_QSTS = BitVec.ofNat 64 n ∧ s.keeps t [QM_QSTS]
      ∧ { t with regs := s.regs, hif := s.hif } = s) ∧
  (∀ s, s.opens QM_QCMD → (s.que s.qidx).st = qHALTED → ∃ t, exec .qmResume s = .next t
      ∧ t.que s.qidx = { s.que s.qidx with st := qACTIVE, status := 0 } ∧ (∀ r, r ≠ s.qidx → t.que r = s.que r)
      ∧ t.rdN QM_QSTS = qACTIVE ∧ s.keeps t [QM_QSTS] ∧ { t with regs := s.regs, hif := s.hif } = s) ∧
  (∀ s i, s.opens QM_QCMD → i ∈ [Instr.qmWrite, .qmEnable, .qmResume] →
      (i = Instr.qmResume → (s.que s.qidx).st ≠ qHALTED) → (i ≠ Instr.qmResume → (s.que s.qidx).st ≠ qOFF) →
    ∃ t, exec i s = .next t ∧ t.que s.qidx = { s.que s.qidx with status := E_QM_STATE } ∧ s.keeps t [QM_QSTS]
      ∧ { t with regs := s.regs, hif := s.hif } = s) ∧
  (∀ s q, (s.que q).st = qDRAINING → (∀ d ∈ (s.que q).descs, d.done = true) → (s.que q).spill = [] → s.svcFrom q = false →
    ∃ t, exec (.queueDrained q) s = .next t ∧ t.que q = { s.que q with st := qOFF } ∧ (∀ r, r ≠ q → t.que r = s.que r)
      ∧ { t with hif := s.hif } = s) ∧
  (∀ s q v, s.barUp = true → s.qClosed q = false → (s.que q).st = qACTIVE → (s.que q).kind ≠ kRESULT → v < 2 ^ 21 → v < 2 * (s.que q).entries →
      (s.que q).dist (s.que q).cons v ≤ (s.que q).entries → (s.que q).dist (s.que q).cons (s.que q).prod ≤ (s.que q).dist (s.que q).cons v →
    ∃ t, exec (.queueDoorbell q 8 v) s = .next t ∧ t.que q = { s.que q with prod := v } ∧ (∀ r, r ≠ q → t.que r = s.que r)
      ∧ { t with hif := s.hif } = s) ∧
  (∀ s q v, s.barUp = true → s.qClosed q = false → (s.que q).st = qACTIVE ∨ (s.que q).st = qDRAINING → (s.que q).kind = kRESULT → v < 2 ^ 21 →
      v < 2 * (s.que q).entries → (s.que q).dist (s.que q).cons v ≤ (s.que q).dist (s.que q).cons (s.que q).prod → (s.que q).spill = [] →
    ∃ t, exec (.queueDoorbell q 8 v) s = .next t ∧ t.que q = { s.que q with cons := v } ∧ (∀ r, r ≠ q → t.que r = s.que r)
      ∧ { t with hif := s.hif } = s) ∧
  (∀ s q v, s.barUp = true → q < 2 ^ 18 → s.qClosed q = false → (s.que q).st = qACTIVE → v < 2 ^ 21 → 2 * (s.que q).entries ≤ v →
    ∃ t, exec (.queueDoorbell q 8 v) s = .next t ∧ t.rdN HIF_DB_DROP_CNT = min 0xFFFFFFFF (s.rdN HIF_DB_DROP_CNT + 1)
      ∧ t.rdN HIF_DB_ERR = 0x11 * 2 ^ 18 + q ∧ s.onlyRegs t [HIF_DB_DROP_CNT, HIF_DB_ERR]) ∧
  (∀ s q, s.barUp = true → (s.que q).st = qACTIVE → (s.que q).kind = kRESULT → ∃ t, exec (.qmFenceDoorbell q 8 0) s = .next t
      ∧ t.que q = { s.que q with fences := (s.que q).fences ++ [s.tb1] } ∧ (∀ r, r ≠ q → t.que r = s.que r) ∧ { t with hif := s.hif } = s) ∧
  (∀ s y v, s.opens (QM_YQID y) → y < 64 → v < 2 ^ 18 → s.yardMay y 6 v = true → s.yIdle y = true → ∃ t, exec (.qmYqidWrite y v) s = .next t
      ∧ t.rdN (QM_YQID y) = v ∧ s.onlyRegs t [QM_YQID y]) ∧
  (∀ s y v, s.opens (QM_YQID y) → y < 64 → v < 2 ^ 18 → s.yardMay y 6 v = false → ∃ t, exec (.qmYqidWrite y v) s = .next t
      ∧ t.rdN IMG_DENY = v * 2 ^ 32 + 6 * 2 ^ 24 + 2 ^ 16 + y ∧ t.rdN IMG_DENY_CNT = min 0xFFFFFFFF (s.rdN IMG_DENY_CNT + 1)
      ∧ s.onlyRegs t [IMG_DENY, IMG_DENY_CNT])

/-- R493, R507 to R510, R512 and R618. -/
def Obligations.RecordsReachTheirQueuesAndTheHost : Prop :=
  (∀ s prod r x ws, s.bus.recs.find? (fun r => r.prod == prod) = some r → x = s.que r.qid → x.fences = [] → x.fenced = 0 → s.serviceTakes prod = false →
      prod < 80 → r.conts = [] → x.st = qACTIVE → x.kind = kRESULT → x.loc = false → s.hif.down = false → x.irqEn = false → x.spill = [] →
      x.dist x.cons x.prod < x.entries → ws = (if x.lost = true then markEntry 9 r.words else r.words) →
    ∃ t, exec (.resultEntry prod) s = .next t
      ∧ t.que r.qid = { x with prod := x.next x.prod 1, lost := false, irqN := x.irqN + 1, irqAt := if x.irqAt.isNone then some s.clock.now else x.irqAt }
      ∧ t.hif.out = s.hif.out ++ HostOut.mem (x.base + 64 * (x.prod % x.entries)) (wordBytes ws)
          :: (if x.wb = 0 then [] else [HostOut.mem x.wb (le 8 (x.next x.prod 1))])
      ∧ (∀ q, q ≠ r.qid → t.que q = s.que q) ∧ t.regs = s.regs ∧ t.bus = { s.bus with recs := s.bus.recs.erase r }
      ∧ (∀ y, t.mast y = if y = prod ∧ prod < 64 then { s.mast y with outRes := (s.mast y).outRes - 1 } else s.mast y)
      ∧ { t with bus := s.bus, hif := s.hif, seq := s.seq } = s) ∧
  (∀ s prod r x ws, s.bus.recs.find? (fun r => r.prod == prod) = some r → x = s.que r.qid → x.fences = [] → x.fenced = 0 → s.serviceTakes prod = false →
      prod < 80 → r.conts = [] → x.st = qACTIVE → x.kind = kRESULT → x.entries ≤ x.dist x.cons x.prod → x.spill.length < 64 * x.spillPages →
      ws = (if x.lost = true then markEntry 9 r.words else r.words) →
    ∃ t, exec (.resultEntry prod) s = .next t ∧ t.que r.qid = { x with lost := false, spill := x.spill ++ [ws] }
      ∧ t.rdN QM_SPILL_CNT = min 0xFFFFFFFF (s.rdN QM_SPILL_CNT + 1) ∧ t.hif.out = s.hif.out ∧ s.keeps t [QM_SPILL_CNT]
      ∧ { t with regs := s.regs, bus := s.bus, hif := s.hif, seq := s.seq } = s) ∧
  (∀ s prod r x, s.bus.recs.find? (fun r => r.prod == prod) = some r → x = s.que r.qid → x.fences = [] → x.fenced = 0 → s.serviceTakes prod = false →
      prod < 80 → r.conts = [] →
      (x.st ≠ qACTIVE ∨ x.kind ≠ kRESULT ∨ (x.entries ≤ x.dist x.cons x.prod ∧ 64 * x.spillPages ≤ x.spill.length)) →
    ∃ t, exec (.resultEntry prod) s = .next t ∧ t.que r.qid = { x with lost := true }
      ∧ t.rdN QM_DROP_CNT = min 0xFFFFFFFF (s.rdN QM_DROP_CNT + 1) ∧ t.hif.out = s.hif.out ∧ s.keeps t [QM_DROP_CNT]
      ∧ t.bus = { s.bus with recs := s.bus.recs.erase r } ∧ { t with regs := s.regs, bus := s.bus, hif := s.hif, seq := s.seq } = s) ∧
  (∀ s q x f rest, x = s.que q → x.fences = f :: rest → (∀ r ∈ s.bus.recs, r.qid = q → f < r.time) → x.st = qACTIVE → x.kind = kRESULT → x.loc = false →
      s.hif.down = false → x.irqEn = false → x.spill = [] → x.dist x.cons x.prod < x.entries → x.lost = false → f < 2 ^ 64 →
    ∃ t, exec (.fenceRecordPlace q) s = .next t
      ∧ t.que q = { x with fences := rest, fenced := f + 1, prod := x.next x.prod 1, irqN := x.irqN + 1, irqAt := if x.irqAt.isNone then some s.clock.now else x.irqAt }
      ∧ t.hif.out = s.hif.out ++ HostOut.mem (x.base + 64 * (x.prod % x.entries)) (wordBytes [7 + 0x48 * 2 ^ 8, f, 0, 0, 0, 0, 0, 0])
          :: (if x.wb = 0 then [] else [HostOut.mem x.wb (le 8 (x.next x.prod 1))])
      ∧ { t with hif := s.hif } = s) ∧
  (∀ s q n, (s.que q).irqAt = some n → (s.que q).irqEn = true → (s.que q).itime ≠ 0 → n + (s.que q).itime * 20000 ≤ s.clock.now →
    ∃ t, exec (.irqTimer q) s = .next t ∧ t.que q = { s.que q with irqN := 0, irqAt := none }
      ∧ t.hif.out = s.hif.out ++ (if s.msix (4 * (s.que q).vec + 3) % 2 = 1 then [] else [HostOut.irq (s.que q).vec])
      ∧ (s.msix (4 * (s.que q).vec + 3) % 2 = 1 → (s.que q).vec ∈ t.hif.pba) ∧ { t with hif := s.hif } = s) ∧
  (∀ s a bs, s.barUp = true → bs.length ≤ 4096 - a % 4096 → 0x20000000 ≤ a → a < 0x22000000 → (∀ p, s.partOfInst 7 ((a - 0x20000000) / 4096) = some p → s.closed p = false) →
    ∃ t, exec (.bar2Write a bs) s = .next t ∧ t = { s with cnv := { s.cnv with res := stList s.cnv.res (a - 0x20000000) bs } }) ∧
  (∀ s y off bs, s.barUp = true → bs.length ≤ 4096 - off % 4096 → y < 64 → off < 0x40000 → ((s.comp y).present = true → s.closed (s.partOf y) = false) → s.yIdle y = true →
    ∃ t, exec (.bar2Write (0x10000000 + 0x40000 * y + off) bs) s = .next t
      ∧ t = { s with seq := { s.seq with store := stList s.seq.store (262144 * y + off) bs } }) ∧
  (∀ s y off bs, s.barUp = true → bs.length ≤ 4096 - off % 4096 → y < 64 → off < 0x40000 → ((s.comp y).present = true → s.closed (s.partOf y) = false) → s.yIdle y = false →
    ∃ t, exec (.bar2Write (0x10000000 + 0x40000 * y + off) bs) s = .next t
      ∧ t.rdN (SEQ_WDROP_CNT y) = min 0xFFFFFFFF (s.rdN (SEQ_WDROP_CNT y) + 1) ∧ s.onlyRegs t [SEQ_WDROP_CNT y]) ∧
  (∀ s a bs n, s.barUp = true → n = bar2Left a → n < bs.length → bs.length ≤ 512 → ∃ u, exec (.bar2Write a (bs.take n)) s = .next u
      ∧ exec (.bar2Write a bs) s = exec (.bar2Write (a + n) (bs.drop n)) u) ∧
  (∀ s a p bs, s.barUp = true → bs.length ≤ 4096 - a % 4096 → 0x20000000 ≤ a → a < 0x22000000 → s.partOfInst 7 ((a - 0x20000000) / 4096) = some p → p < 16 → s.closed p = true →
    ∃ t, exec (.bar2Write a bs) s = .next t ∧ t.rdN SHR_SEAL_DROP_CNT = min 0xFFFFFFFF (s.rdN SHR_SEAL_DROP_CNT + 1)
      ∧ t.rdN SHR_DENY = a * 2 ^ 24 + 2 * 2 ^ 20 + p * 2 ^ 16 + E_SHR_SEALED ∧ s.onlyRegs t [SHR_SEAL_DROP_CNT, SHR_DENY]) ∧
  (∀ s, ∃ t, exec .pcieReset s = .next t ∧ t.rdN HIF_STS = 0 ∧ t.hif.msix = [] ∧ t.hif.pba = [] ∧ t.hif.down = true
      ∧ (∀ q, (s.que q).st = qACTIVE → (s.que q).kind ≠ kRESULT →
          t.que q = { s.que q with st := qHALTED, status := E_DMA_PCIE, descs := [], cons := (s.que q).fetch })
      ∧ (∀ q, (s.que q).st ≠ qACTIVE ∨ (s.que q).kind = kRESULT → t.que q = s.que q) ∧ s.keeps t [HIF_STS]) ∧
  (∀ s rate width flit, (∀ q, (s.que q).spill = []) → rate < 8 → width < 32 → ∃ t, exec (.pcieLinkUp rate width flit) s = .next t
      ∧ t.rdN HIF_STS = (if flit = true then 2048 else 0) + rate * 256 + width ∧ t.hif = { s.hif with down := false }
      ∧ s.keeps t [HIF_STS] ∧ { t with regs := s.regs, hif := s.hif } = s)

/-- R500 to R506, R508, R513 and R514, shown for host memory and the result store as endpoints. -/
def Obligations.DescriptorsAreFetchedMovedAndEnded : Prop :=
  (∀ s q ws x d, x = s.que q → x.st = qACTIVE → x.kind = kSUBMIT → x.fetch ≠ x.prod → (x.descs.filter fun e => !e.done).length < 4 →
      (∀ e ∈ x.descs, e.done = false → e.op ≠ 2) → x.loc = false → ws.length = 8 → (∀ w ∈ ws, w < 2 ^ 64) → d = ⟨x.fetch, ws, 0, 0, false, false, false, 0, false⟩ →
      s.descCheck q d = 0 → (∀ e ∈ x.descs, e.idx ≠ x.fetch) → ∃ t, exec (.descFetch q ws false) s = .next t
      ∧ t.que q = { x with fetch := x.next x.fetch 1, descs := x.descs ++ [{ d with arm := true }] } ∧ (∀ r, r ≠ q → t.que r = s.que r)
      ∧ (d.dkind = 2 → t.segOf d.dunit = { s.segOf d.dunit with state := .loading, stamp := s.hal.changes + 1, by_ := 64 }) ∧ (d.dkind ≠ 2 → t.hal = s.hal) ∧ { t with hif := s.hif, hal := s.hal } = s) ∧
  (∀ s q ws x d c, x = s.que q → x.st = qACTIVE → x.kind = kSUBMIT → x.fetch ≠ x.prod → x.descs = [] → x.loc = false → x.irqEn = false → x.wb = 0 →
      ws.length = 8 → (∀ w ∈ ws, w < 2 ^ 64) → d = ⟨x.fetch, ws, 0, 0, false, false, false, 0, false⟩ → d.irq = false → c = s.descCheck q d → c ≠ 0 →
      c ≠ E_IMG_RES_BUSY → c ≠ E_SHR_SEALED → c < 2 ^ 16 → ∃ t, exec (.descFetch q ws false) s = .next t
      ∧ t.que q = { x with fetch := x.next x.fetch 1, cons := x.next x.fetch 1, irqN := x.irqN + 1, irqAt := if x.irqAt.isNone then some s.clock.now else x.irqAt }
      ∧ t.hif.out = s.hif.out ++ [HostOut.mem (x.base + (64 * (x.fetch % x.entries) + 0x38)) (le 7 c), HostOut.mem (x.base + (64 * (x.fetch % x.entries) + 0x3F)) [0x80]]
      ∧ { t with hif := s.hif } = s) ∧
  (∀ s q ws, (s.que q).st = qACTIVE → ∃ t, exec (.descFetch q ws true) s = .next t
      ∧ t.que q = { s.que q with st := qHALTED, status := E_HIF_ECC_UNCORR } ∧ (∀ r, r ≠ q → t.que r = s.que r) ∧ { t with hif := s.hif } = s) ∧
  (∀ s q i bs d n, s.openDesc q i = some d → d.op = 1 → d.arm = true → s.inTurn q d = true → d.skind = 0 → d.dkind = 1 → n = min (d.len - d.moved) bs.length → 0 < n →
    ∃ t, exec (.dmaCopy q i bs) s = .next t ∧ t.cnv = { s.cnv with res := stList s.cnv.res (d.daddr + d.moved) (bs.take n) }
      ∧ t.que q = { s.que q with descs := (s.que q).descs.map fun e => if e.idx == i then { e with moved := e.moved + n, part := 0, run := true, fin := decide (e.len ≤ e.moved + n) } else e }
      ∧ (∀ r, r ≠ q → t.que r = s.que r) ∧ t.hif.out = s.hif.out ∧ { t with cnv := s.cnv, hif := s.hif } = s) ∧
  (∀ s q i bs d n, s.openDesc q i = some d → d.op = 1 → d.arm = true → s.inTurn q d = true → d.skind = 1 → d.dkind = 0 → n = d.len - d.moved → 0 < n →
    ∃ t, exec (.dmaCopy q i bs) s = .next t ∧ t.hif.out = s.hif.out ++ [HostOut.mem (d.daddr + d.moved) (ldList s.cnv.res (d.saddr + d.moved) n)]
      ∧ t.que q = { s.que q with descs := (s.que q).descs.map fun e => if e.idx == i then { e with moved := e.moved + n, part := 0, run := true, fin := decide (e.len ≤ e.moved + n) } else e }
      ∧ { t with hif := s.hif } = s) ∧
  (∀ s q i d, s.openDesc q i = some d → d.op = 2 → (∀ e ∈ (s.que q).descs.takeWhile (fun e => e.idx != i), e.done = true) →
    ∃ t, exec (.dmaFence q i) s = .next t
      ∧ t.que q = { s.que q with descs := (s.que q).descs.map fun e => if e.idx == i then { e with fin := true } else e } ∧ { t with hif := s.hif } = s) ∧
  (∀ s q i e, e ∈ (s.que q).descs.takeWhile (fun e => e.idx != i) → e.done = false → exec (.dmaFence q i) s = .next s) ∧
  (∀ s q i d, s.openDesc q i = some d → d.op = 3 → d.arm = true → s.inTurn q d = true → s.lineServed d.sunit = false → ∃ t, exec (.dmaRqcopy q i) s = .next t
      ∧ t.que q = { s.que q with descs := (s.que q).descs.map fun e => if e.idx == i then { e with run := true } else e } ∧ { t with hif := s.hif } = s) ∧
  (∀ s q i d r n, s.openDesc q i = some d → s.lineRing d.sunit = some r → d.op = 3 → d.run = true → d.dkind = 0 → d.part = 0 → r < 48 →
      s.flag (ringSTS r) CNV_RING_STS_REQ = true → n = min (256 * d.burst) (d.len - d.moved) → 0 < n → n ≤ s.ringHeld r →
    ∃ t, exec (.rqcopyBurst q i) s = .next t ∧ t.hif.out = s.hif.out ++ [HostOut.mem (d.daddr + d.moved) (s.lineBytes r n)]
      ∧ t.rd (ringRP r) = BitVec.ofNat 64 ((s.rdN (ringRP r) + n) % s.ringSize r)
      ∧ t.que q = { s.que q with descs := (s.que q).descs.map fun e => if e.idx == i then { e with moved := e.moved + n, part := 0, run := true, fin := decide (e.len ≤ e.moved + n) } else e }
      ∧ s.keeps t [ringRP r, ringSTS r] ∧ { t with regs := s.regs, hif := s.hif } = s) ∧
  (∀ s q i x d rest c cmd, x = s.que q → x.descs = d :: rest → d.idx = i → d.done = false → (∀ e ∈ rest, e.idx ≠ i ∧ e.done = false) →
      d.dkind ≠ 8 → d.dkind ≠ 2 → d.irq = false → x.irqEn = false → x.loc = false →
      ((cmd = Instr.descComplete q i ∧ d.fin = true ∧ c = 0) ∨ (cmd = Instr.dmaReadFail q i ∧ d.fin = false ∧ d.op = 1 ∧ d.skind = 0 ∧ c = E_DMA_PCIE)) →
    ∃ t, exec cmd s = .next t
      ∧ t.que q = { x with descs := rest, cons := x.next i 1, irqN := x.irqN + 1, irqAt := if x.irqAt.isNone then some s.clock.now else x.irqAt }
      ∧ t.hif.out = s.hif.out ++ HostOut.mem (x.base + (64 * (i % x.entries) + 0x38)) (le 7 (c % 2 ^ 16 + (d.moved - s.owedBytes q i) % 2 ^ 24 * 2 ^ 16))
          :: HostOut.mem (x.base + (64 * (i % x.entries) + 0x3F)) [0x80] :: (if x.wb = 0 then [] else [HostOut.mem x.wb (le 8 (x.next i 1))])
      ∧ { t with hif := s.hif } = s) ∧
  (∀ s q i, (∀ d ∈ (s.que q).descs, d.idx ≠ i) → (s.que q).st = qACTIVE → (s.que q).kind ≠ kRESULT → (s.que q).fetch ≠ (s.que q).prod → i = (s.que q).fetch →
    ∃ t, exec (.dmaReadFail q i) s = .next t
      ∧ t.que q = { s.que q with st := qHALTED, status := E_DMA_PCIE, fetch := (s.que q).next (s.que q).fetch 1 } ∧ { t with hif := s.hif } = s) ∧
  (∀ s l cls p part c, c = s.inCheck (bits p 203 196) (bits p 195 180) (bits p 179 116) (bits p 115 92) part → c ≠ E_IMG_RES_BUSY →
    ∃ t, exec (.postedHdrRx l cls p part) s = .next t
      ∧ t.hif = { s.hif with ins := s.hif.ins ++ [⟨l, cls, bits p 203 196, bits p 195 180, bits p 179 116, bits p 115 92, bits p 91 74, bits p 73 54, c == 0, []⟩] }
      ∧ tget (tget t.ozl.links l).owed cls = tget (tget s.ozl.links l).owed cls + 1
      ∧ (∃ n k, (tget t.ozl.links l).txq = (tget s.ozl.links l).txq ++ (if c = 0 then [] else
            [⟨2, 2 * 2 ^ 204 + c * 2 ^ 188 + bits p 91 74 * 2 ^ 170 + bits p 73 54 * 2 ^ 150, n, k⟩]))
      ∧ (bits p 203 196 = 2 → c = 0 → cls ≠ 3 → (t.segOf (bits p 195 180)).state = .loading) ∧ (bits p 203 196 ≠ 2 ∨ c ≠ 0 → t.hal = s.hal)
      ∧ { t with hif := s.hif, ozl := s.ozl, hal := s.hal } = s) ∧
  (∀ s l cls p i rest bs, s.hif.ins = i :: rest → i ∉ rest → i.link = l → i.cls = cls → i.ok = true → i.kind = 1 → bs = (payloadBytes p).take i.left →
    ∃ t, exec (.postedDataRx l cls p) s = .next t ∧ t.cnv = { s.cnv with res := stList s.cnv.res i.addr bs }
      ∧ t.hif.ins = (if i.left = bs.length then [] else [{ i with addr := i.addr + bs.length, left := i.left - bs.length }]) ++ rest
      ∧ tget (tget t.ozl.links l).owed cls = tget (tget s.ozl.links l).owed cls + 1 ∧ { t with cnv := s.cnv, hif := s.hif, ozl := s.ozl } = s) ∧
  (∀ s l p q x d, q = bits p 187 170 → x = s.que q → x.descs = [d] → d.done = false → d.dkind = 8 → d.idx % x.entries = bits p 169 150 → d.irq = false →
      x.irqEn = false → x.loc = false → x.wb = 0 → ∃ t, exec (.postedNackRx l p) s = .next t
      ∧ t.que q = { x with descs := [], cons := x.next d.idx 1, irqN := x.irqN + 1, irqAt := if x.irqAt.isNone then some s.clock.now else x.irqAt }
      ∧ t.hif.out = s.hif.out ++ [HostOut.mem (x.base + (64 * (d.idx % x.entries) + 0x38)) (le 7 (bits p 203 188)), HostOut.mem (x.base + (64 * (d.idx % x.entries) + 0x3F)) [0x80]]
      ∧ { t with hif := s.hif, ozl := s.ozl } = s) ∧
  (∀ s l p, bits p 207 204 = 0 → ∃ t, exec (.resultFlitRx l p) s = .next t
      ∧ t.hif = { s.hif with ins := s.hif.ins ++ [⟨l, 3, 0, 0, 0, 64, bits p 203 186, 0, true, []⟩] }
      ∧ tget (tget t.ozl.links l).owed 3 = tget (tget s.ozl.links l).owed 3 + 1 ∧ { t with hif := s.hif, ozl := s.ozl } = s) ∧
  (∀ s l p i rest x, bits p 207 204 ≠ 0 → s.hif.ins = i :: rest → i ∉ rest → i.link = l → i.cls = 3 → i.left ≤ (payloadBytes p).length → x = s.que i.qid →
      x.st = qACTIVE → x.kind = kRESULT → x.loc = false → s.hif.down = false → x.irqEn = false → x.spill = [] → x.lost = false →
      x.dist x.cons x.prod < x.entries → ∃ t, exec (.resultFlitRx l p) s = .next t ∧ t.hif.ins = rest
      ∧ (t.que i.qid).prod = x.next x.prod 1
      ∧ t.hif.out = s.hif.out ++ HostOut.mem (x.base + 64 * (x.prod % x.entries)) (wordBytes (bytesWords (i.buf ++ (payloadBytes p).take i.left)))
          :: (if x.wb = 0 then [] else [HostOut.mem x.wb (le 8 (x.next x.prod 1))])
      ∧ { t with hif := s.hif, ozl := s.ozl } = s)

/-- R515 to R519, R540, R541, R545, R658. Nonces, signatures and their checks are constants of Config without a value: each
clause holds whatever they are. -/
def Obligations.IdentityAnswersAndDebugUnlock : Prop :=
  (∀ s i c pay, (i, c, pay) ∈ [(Instr.spdmGetVersion, 0x04, [0x13]), (.spdmGetCapabilities, 0x61, [0x16, 0, 0, 0]),
      (.spdmNegotiateAlgorithms true true, 0x63, [0x80, 0, 0, 0, 2, 0, 0, 0]), (.spdmNegotiateAlgorithms true false, 0x63, [0x80, 0, 0, 0, 0, 0, 0, 0]),
      (.spdmNegotiateAlgorithms false true, 0x63, [0, 0, 0, 0, 2, 0, 0, 0]), (.spdmNegotiateAlgorithms false false, 0x63, [0, 0, 0, 0, 0, 0, 0, 0]),
      (.spdmGetDigests, 0x01, 1 :: sha Config.certChain), (.spdmUnsupported, 0x7F, [7])] →
      s.dev ≠ dOFF → s.dev ≠ dBOOT → s.lifecycle ≠ 3 →
    ∃ t, exec i s = .next t ∧ t = { s with shr := { s.shr with out := s.shr.out ++ [(c, pay)] } }) ∧
  (∀ s slot off len, s.dev ≠ dOFF → s.dev ≠ dBOOT → s.lifecycle ≠ 3 → ∃ t, exec (.spdmGetCertificate slot off len) s = .next t
      ∧ t = { s with shr := { s.shr with out := s.shr.out ++ [if slot = 0 then (0x02, slice Config.certChain off len) else (0x7F, [1])] } }) ∧
  (∀ s nonce, s.dev ≠ dOFF → s.dev ≠ dBOOT → s.lifecycle ≠ 3 → ∃ t, exec (.spdmChallenge 0 nonce) s = .next t
      ∧ (∃ fresh sig, fresh.length = 32 ∧ sig.length = 96 ∧ t.shr = { s.shr with out := s.shr.out ++ [(0x03, sha Config.certChain ++ fresh ++ sha (((List.range 15).map fun i => s.meas (i + 1)).flatten) ++ sig)] })
      ∧ { t with shr := s.shr, bus := s.bus } = s) ∧
  (∀ s i nonce, s.dev ≠ dOFF → s.dev ≠ dBOOT → s.lifecycle ≠ 3 → 1 ≤ i → i ≤ 15 → ∃ t, exec (.spdmGetMeasurements i nonce) s = .next t
      ∧ (∃ fresh sig, fresh.length = 32 ∧ sig.length = 96 ∧ t.shr = { s.shr with out := s.shr.out ++ [(0x60, [1, BitVec.ofNat 8 i] ++ s.meas i ++ fresh ++ sig)] })
      ∧ { t with shr := s.shr, bus := s.bus } = s) ∧
  (∀ s i nonce, s.dev ≠ dOFF → s.dev ≠ dBOOT → s.lifecycle ≠ 3 → 15 < i → i ≠ 0xFF → ∃ t, exec (.spdmGetMeasurements i nonce) s = .next t
      ∧ t = { s with shr := { s.shr with out := s.shr.out ++ [(0x7F, [1])] } }) ∧
  (∀ s i, i ∈ [Instr.spdmGetVersion, .spdmGetCapabilities, .spdmGetDigests, .spdmUnsupported] → s.dev ≠ dOFF → s.dev ≠ dBOOT → s.lifecycle = 3 →
    ∃ t, exec i s = .next t ∧ t = { s with shr := { s.shr with out := s.shr.out ++ [(0x7F, [7])] } }) ∧
  (∀ s, s.opens SHR_DBG_CTL → s.lifecycle ≠ 3 → s.flag SHR_STS SHR_STS_DBG_LOCKOUT = false → ∃ t, exec .dbgReq s = .next t
      ∧ t.shr = { s.shr with chal := true } ∧ t.fld SHR_STS SHR_STS_STATUS = 0 ∧ (∀ w, w < 8 → t.rdN (SHR_DBG_CHAL w) < 2 ^ 32)
      ∧ t.bus = { s.bus with free := s.bus.free + 8 }
      ∧ s.keeps t (SHR_STS :: (List.range 8).map SHR_DBG_CHAL) ∧ { t with regs := s.regs, shr := s.shr, bus := s.bus } = s) ∧
  (∀ s, s.opens SHR_DBG_CTL → s.lifecycle = 3 ∨ s.flag SHR_STS SHR_STS_DBG_LOCKOUT = true → ∃ t, exec .dbgReq s = .next t
      ∧ t.fld SHR_STS SHR_STS_STATUS = E_SHR_DBG ∧ s.onlyRegs t [SHR_STS]) ∧
  (∀ s, s.opens SHR_DBG_CTL → ∃ t, exec (.dbgSubmit 1) s = .next t
      ∧ (if s.dbgValid 1 = true then
          t.fld SHR_STS SHR_STS_STATUS = 0 ∧ t.fld SHR_STS SHR_STS_DBG_UNLOCKED = 1 ∧ t.shr = { s.shr with chal := false, level := 1 }
        else t.fld SHR_STS SHR_STS_STATUS = E_SHR_DBG ∧ t.shr = { s.shr with fails := s.shr.fails + 1 }
          ∧ t.fld SHR_STS SHR_STS_DBG_LOCKOUT = (if 2 ≤ s.shr.fails then 1 else s.fld SHR_STS SHR_STS_DBG_LOCKOUT))
      ∧ s.keeps t [SHR_STS] ∧ { t with regs := s.regs, shr := s.shr } = s) ∧
  (∀ s level, s.opens SHR_DBG_CTL → level ≠ 1 → ∃ t, exec (.dbgSubmit level) s = .next t ∧ t.fld SHR_STS SHR_STS_STATUS = E_SHR_RSVD_ENC
      ∧ s.onlyRegs t [SHR_STS]) ∧
  (∀ s, s.opens SHR_DBG_CTL → ∃ t, exec .dbgLock s = .next t ∧ t.fld SHR_STS SHR_STS_DBG_UNLOCKED = 0 ∧ t.fld SHR_STS SHR_STS_STATUS = 0
      ∧ t.shr = { s.shr with level := 0 }
      ∧ (s.lifecycle = 1 → s.keeps t [SHR_STS] ∧ { t with regs := s.regs, shr := s.shr } = s)
      ∧ (s.lifecycle ≠ 1 → (∀ y b, y < 64 → b < 4 → t.fld (RAT_MBRK y b) RAT_MBRK_EN = 0 ∧ t.flag (RAT_MSTS y) RAT_MSTS_HALTED = false)
          ∧ ∀ x b, x < 8 → b < 2 → t.fld (RAT_WBRK x b) RAT_WBRK_EN = 0)) ∧
  (∀ s, s.opens SHR_DBG_CTL → ∃ t, exec (.dbgScrap 3) s = .next t
      ∧ (if s.dbgValid 3 = true then t.fld SHR_STS SHR_STS_STATUS = 0 ∧ t.shr = { s.shr with chal := false, scrap := true }
        else t.fld SHR_STS SHR_STS_STATUS = E_SHR_DBG ∧ t.shr = { s.shr with fails := s.shr.fails + 1 })
      ∧ s.keeps t [SHR_STS] ∧ { t with regs := s.regs, shr := s.shr } = s)

/-- R527, R530 to R536, R538. Signatures, digests and tags are constants of Config: the clauses hold whatever they answer. -/
def Obligations.PartitionsSealExchangeAndZeroise : Prop :=
  (∀ s p, s.opens (SHR_PCMD p) → p < 8 → s.shrBusy p = false → s.sealCheck p = 0 → ∃ t, exec (.shrSeal p) s = .next t ∧ t.pst p = pSEALING
      ∧ t.fld (SHR_PSTS p) SHR_PSTS_JOB = 1 ∧ bit (t.fld SHR_STS SHR_STS_SEALED) p = true ∧ (t.shp p).job = some ⟨1, []⟩
      ∧ (∀ q, q < 8 → q ≠ p → t.pst q = s.pst q)
      ∧ (s.lifecycle = 1 → s.keeps t [SHR_PSTS p, SHR_STS, SHR_PSEAL_ID p] ∧ { t with regs := s.regs, shr := s.shr, bus := s.bus } = s)) ∧
  (∀ s p, s.opens (SHR_PCMD p) → p < 8 → s.shrBusy p = false → s.sealCheck p ≠ 0 → ∃ t, exec (.shrSeal p) s = .next t
      ∧ t.fld (SHR_PSTS p) SHR_PSTS_STATUS = s.sealCheck p ∧ t.pst p = s.pst p ∧ s.keeps t [SHR_PSTS p]
      ∧ { t with regs := s.regs, shr := s.shr } = s) ∧
  (∀ s p i blob, s.opens (SHR_PCMD p) → p < 8 → s.shrBusy p = true →
      i ∈ [Instr.shrSeal p, .shrStatement p, .shrKeyImport p blob, .shrImport p blob, .shrExport p, .shrRelease p blob] →
    ∃ t, exec i s = .next t ∧ t.fld (SHR_PSTS p) SHR_PSTS_STATUS = E_SHR_BUSY ∧ s.onlyRegs t [SHR_PSTS p]) ∧
  (∀ s p, s.pst p = pSEALING → p < 8 → ∃ t, exec (.sealComplete p) s = .next t ∧ t.pst p = pSEALED ∧ t.fld (SHR_PSTS p) SHR_PSTS_STATUS = 0
      ∧ t.fld (SHR_PSTS p) SHR_PSTS_JOB = 0 ∧ (t.shp p).job = none ∧ (t.shp p).sealStmt = s.stmtBody p (s.pmeasNow p)
      ∧ (t.shp p).pmeas = s.pmeasNow p ∧ (∀ w, w < 96 → t.rdN (SHR_PSTMT p w) = leAt (s.stmtBody p (s.pmeasNow p)) (4 * w) 4)
      ∧ s.keeps t (SHR_PSTS p :: SHR_STS :: (List.range 120).map (SHR_PSTMT p)) ∧ { t with regs := s.regs, shr := s.shr, bus := s.bus } = s) ∧
  (∀ s p c i blob, s.opens (SHR_PCMD p) → p < 8 → s.shrBusy p = false → s.pst p = pSEALED ∨ s.pst p = pKEYED →
      (i, c, blob) ∈ [(Instr.shrStatement p, 2, []), (.shrKeyImport p blob, 3, blob), (.shrRelease p blob, 6, blob)] →
      (c ≠ 2 → s.rdN (SHR_PSRC p) % 64 = 0 ∧ s.fld (SHR_PLEN p) SHR_PLEN_LEN = blob.length ∧ blob.length = (if c = 3 then 272 else 112) ∧ s.rdN (SHR_PSRC p) + blob.length ≤ 2 ^ 64) →
    ∃ t, exec i s = .next t ∧ (t.shp p).job = some ⟨c, blob⟩ ∧ t.fld (SHR_PSTS p) SHR_PSTS_JOB = 1 ∧ t.pst p = s.pst p
      ∧ s.keeps t [SHR_PSTS p] ∧ { t with regs := s.regs, shr := s.shr } = s) ∧
  (∀ s p blob, s.opens (SHR_PCMD p) → p < 8 → s.shrBusy p = false → s.pst p = pKEYED → s.rdN (SHR_PSRC p) % 64 = 0 →
      s.fld (SHR_PLEN p) SHR_PLEN_LEN = blob.length → 64 ≤ blob.length → s.rdN (SHR_PSRC p) + blob.length ≤ 2 ^ 64 → s.importCheck p blob = 0 →
    ∃ t, exec (.shrImport p blob) s = .next t ∧ (t.shp p).job = some ⟨4, blob⟩ ∧ t.fld (SHR_PSTS p) SHR_PSTS_JOB = 1
      ∧ t.shr.gcm = s.shr.gcm ++ [p] ∧ ((importDesc blob).dkind = 2 → (t.segOf (importDesc blob).dunit).state = .loading)
      ∧ ((importDesc blob).dkind ≠ 2 → t.hal = s.hal) ∧ s.keeps t [SHR_PSTS p] ∧ { t with regs := s.regs, shr := s.shr, hal := s.hal } = s) ∧
  (∀ s p, s.opens (SHR_PCMD p) → p < 8 → s.shrBusy p = false → s.pst p = pKEYED → s.exportCheck p = 0 → ∃ t, exec (.shrExport p) s = .next t
      ∧ (t.shp p).job = some ⟨5, s.exportBytes p⟩ ∧ t.fld (SHR_PSTS p) SHR_PSTS_JOB = 1 ∧ s.keeps t [SHR_PSTS p]
      ∧ { t with regs := s.regs, shr := s.shr } = s) ∧
  (∀ s p i c blob, s.opens (SHR_PCMD p) → p < 8 → s.shrBusy p = false → s.pst p = pOPEN →
      (i, c) ∈ [(Instr.shrStatement p, E_SHR_STATE), (.shrKeyImport p blob, E_SHR_STATE), (.shrImport p blob, E_SHR_NOKEY),
        (.shrExport p, E_SHR_STATE), (.shrRelease p blob, E_SHR_STATE)] →
    ∃ t, exec i s = .next t ∧ t.fld (SHR_PSTS p) SHR_PSTS_STATUS = c ∧ s.keeps t [SHR_PSTS p] ∧ { t with regs := s.regs, shr := s.shr } = s) ∧
  (∀ s p j, (s.shp p).job = some j → s.shr.gcm.contains p = true → s.shr.gcm.head? ≠ some p → exec (.shrJobEnd p) s = .next s) ∧
  (∀ s p bs, (s.shp p).job = some ⟨2, bs⟩ → p < 8 → (s.shr.gcm.contains p = true → s.shr.gcm.head? = some p) → ∃ t, exec (.shrJobEnd p) s = .next t ∧ (t.shp p).stmt = s.stmtBody p (s.pmeasNow p)
      ∧ (t.shp p).job = none ∧ t.fld (SHR_PSTS p) SHR_PSTS_STATUS = 0 ∧ t.pst p = s.pst p
      ∧ (∀ w, w < 96 → t.rdN (SHR_PSTMT p w) = leAt (s.stmtBody p (s.pmeasNow p)) (4 * w) 4)
      ∧ s.keeps t (SHR_PSTS p :: (List.range 120).map (SHR_PSTMT p)) ∧ { t with regs := s.regs, shr := s.shr, bus := s.bus } = s) ∧
  (∀ s p bs ok c, (s.shp p).job = some ⟨3, bs⟩ → p < 8 → (s.shr.gcm.contains p = true → s.shr.gcm.head? = some p) →
      ok = Config.ecdsaOk (s.partCfg p).tpk (slice bs 0 0xB0) (slice bs 0xB0 96) →
      c = (if zeroAt bs 5 3 = false ∨ zeroAt bs 0x7C 4 = false then E_SHR_RSVD_ENC else if leAt bs 0 4 ≠ 0x59454B53 ∨ leAt bs 4 1 ≠ p ∨ leAt bs 8 8 ≠ s.rdN (SHR_PSEAL_ID p) then E_SHR_RANGE else if ok = false then E_SHR_SIG
        else if Config.onCurve (slice bs 0x10 96) = false ∨ gcmTag (be 32 (Config.kek (s.shp p).xk (slice bs 0x10 96) (sha (s.shp p).sealStmt)).toNat) (slice bs 0x70 12) (slice bs 0 0x80) (slice bs 0x80 32)
          ≠ slice bs 0xA0 16 then E_SHR_AUTH else 0) → ∃ t, exec (.shrJobEnd p) s = .next t ∧ t.fld (SHR_PSTS p) SHR_PSTS_STATUS = c
      ∧ (t.shp p).job = none ∧ t.pst p = (if c = 0 then pKEYED else s.pst p)
      ∧ (if c = 0 then (t.shp p).tk.isSome = true ∧ (t.shp p).sseq = 0 ∧ t.rdN (SHR_PISEQ p) = 0 else t.rdN (SHR_PISEQ p) = s.rdN (SHR_PISEQ p))
      ∧ s.keeps t [SHR_PSTS p, SHR_STS, SHR_PISEQ p] ∧ { t with regs := s.regs, shr := s.shr } = s) ∧
  (∀ s p bs d iv, (s.shp p).job = some ⟨4, bs⟩ → p < 8 → (s.shr.gcm.contains p = true → s.shr.gcm.head? = some p) → d = importDesc bs → d.dkind = 1 → iv = slice bs 0x18 12 → ∃ t, exec (.shrJobEnd p) s = .next t
      ∧ (if gcmTag ((s.shp p).tk.getD []) iv (slice bs 0 0x30) (bs.drop 64) = slice bs 0x30 16 then
          t.cnv = { s.cnv with res := stList s.cnv.res d.daddr (gcm ((s.shp p).tk.getD []) iv (bs.drop 64)) }
            ∧ t.rdN (SHR_PISEQ p) = leAt bs 0x14 4 ∧ t.fld (SHR_PSTS p) SHR_PSTS_STATUS = 0
        else t.cnv = { s.cnv with res := stList s.cnv.res d.daddr (zeros (bs.drop 64).length) }
            ∧ t.rdN (SHR_PISEQ p) = s.rdN (SHR_PISEQ p) ∧ t.fld (SHR_PSTS p) SHR_PSTS_STATUS = E_SHR_AUTH)
      ∧ (t.shp p).job = none ∧ t.pst p = s.pst p ∧ s.keeps t [SHR_PSTS p, SHR_PISEQ p]
      ∧ { t with regs := s.regs, shr := s.shr, cnv := s.cnv } = s) ∧
  (∀ s p pay, (s.shp p).job = some ⟨5, pay⟩ → p < 8 → (s.shr.gcm.contains p = true → s.shr.gcm.head? = some p) → s.flag (SHR_PQID p) SHR_PQID_REGION = true → pay.length ≤ 65536 →
    ∃ t, exec (.shrJobEnd p) s = .next t ∧ (t.shp p).sseq = (s.shp p).sseq + 1 ∧ (t.shp p).job = none
      ∧ t.rdN (SHR_PRES p) = pay.length + 224 ∧ t.fld (SHR_PSTS p) SHR_PSTS_STATUS = 0
      ∧ (∃ bs, bs.length = pay.length + 224 ∧ t.hif = { s.hif with out := s.hif.out ++ [HostOut.mem (s.rdN (SHR_PDST p)) bs] })
      ∧ s.keeps t [SHR_PSTS p, SHR_PRES p] ∧ { t with regs := s.regs, shr := s.shr, hif := s.hif, bus := s.bus } = s) ∧
  (∀ s p bs c, (s.shp p).job = some ⟨6, bs⟩ → p < 8 → (s.shr.gcm.contains p = true → s.shr.gcm.head? = some p) →
      c = (if zeroAt bs 5 3 = false then E_SHR_RSVD_ENC else if leAt bs 0 4 ≠ 0x4C455253 ∨ leAt bs 4 1 ≠ p ∨ leAt bs 8 8 ≠ s.rdN (SHR_PSEAL_ID p) then E_SHR_RANGE
        else if Config.ecdsaOk (s.partCfg p).tpk (slice bs 0 16) (slice bs 16 96) = false then E_SHR_SIG else 0) →
    ∃ t, exec (.shrJobEnd p) s = .next t ∧ (t.shp p).job = none ∧ t.pst p = (if c = 0 then pZEROISING else s.pst p)
      ∧ t.fld (SHR_PSTS p) SHR_PSTS_STATUS = c ∧ s.keeps t [SHR_PSTS p, SHR_STS] ∧ { t with regs := s.regs, shr := s.shr } = s) ∧
  (∀ s p, s.pst p = pZEROISING → p < 8 → swf resetVal s.img.init = true → ∃ t, exec (.zeroiseComplete p) s = .next t ∧ t.pst p = pOPEN
      ∧ t.rdN (SHR_PVER p) = 0 ∧ t.rdN (SHR_PISEQ p) = 0 ∧ t.rdN (SHR_PSEAL_ID p) = 0 ∧ t.shp p = default
      ∧ (∀ a, ldByte t.cnv.res a = if s.partHas p 7 (a / 4096) = true then 0 else ldByte s.cnv.res a)
      ∧ (∀ a, ldByte t.seq.store a = if a / 262144 ∈ s.partYards p then 0 else ldByte s.seq.store a)
      ∧ (∀ a, ldByte t.dec.store a = if s.partHas p 9 (a / 4096) = true then 0 else ldByte s.dec.store a)
      ∧ (∀ a, ldByte t.wch.mem a = if a / 524288 ∈ s.partCores p then 0 else ldByte s.wch.mem a)
      ∧ (∀ y a r, y ∈ s.partYards p → 0x1000000 + 0x40000 * y ≤ a → a < 0x1040000 + 0x40000 * y → regRow a = some r → r.rw ≠ 0 → isWeight a = false →
          t.rd a &&& rwMask a = s.imgVal a &&& rwMask a)
      ∧ ∀ q, q < 8 → q ≠ p → t.pst q = s.pst q)

/-- R549 to R559: foreground and background calibration. Register indices of converters are below 0x1D0. -/
def Obligations.TrimCalibratesAndAppliesInTheRightPlaces : Prop :=
  (∀ s i, s.opens TRIM_CMD → (s.dev = dREADY ∨ s.dev = dRUN) → i < 0x1D0 →
      (∀ y ∈ s.convYards i, s.yIdle y = true ∧ ¬ (pSEALING ≤ s.pst (s.partOf y) ∧ s.pst (s.partOf y) ≤ pKEYED)) → s.trim.fg = none →
    ∃ t, exec (.trimFg i) s = .next t ∧ t.trim.fg = some i ∧ (t.trc i).staged = none ∧ t.fld TRIM_STS TRIM_STS_FG_RUN = 1
      ∧ t.fld TRIM_STS TRIM_STS_STATUS = 0 ∧ t.flag (TRIM_CSTS i) TRIM_CSTS_FG = true ∧ t.fld (TRIM_CSTS i) TRIM_CSTS_PENDING = 0
      ∧ (convClass i ≠ 3 → s.keeps t [TRIM_STS, TRIM_CSTS i] ∧ { t with regs := s.regs, trim := s.trim } = s)) ∧
  (∀ s i, s.opens TRIM_CMD → (s.dev = dREADY ∨ s.dev = dRUN) → i < 0x1D0 → s.bgMay i = true →
      (∀ y ∈ s.convYards i, ¬ (pSEALING ≤ s.pst (s.partOf y) ∧ s.pst (s.partOf y) ≤ pKEYED)) → s.trim.fg = none →
    ∃ t, exec (.trimBgNow i) s = .next t ∧ (t.trc i).step = true ∧ t.fld TRIM_STS TRIM_STS_STATUS = 0
      ∧ (∀ j, j ≠ i → t.trc j = s.trc j) ∧ (convClass i ≠ 5 → s.keeps t [TRIM_STS] ∧ { t with regs := s.regs, trim := s.trim } = s)) ∧
  (∀ s i bad, s.trim.fg = some i → i < 0x1D0 → bad.length ≤ spareTotal i →
      (∀ e ∈ bad, e < mappedTotal i + spareTotal i) → bad.Nodup →
    ∃ t, exec (.trimFgEnd i bad) s = .next t ∧ t.trim.fg = none ∧ t.fld TRIM_STS TRIM_STS_FG_RUN = 0 ∧ t.fld TRIM_STS TRIM_STS_STATUS = 0
      ∧ t.fld (TRIM_CSTS i) TRIM_CSTS_FG = 0
      ∧ t.fld (TRIM_CSTS i) TRIM_CSTS_HEALTH = (if bad = [] then 0 else if bad.length = spareTotal i then 2 else 1)) ∧
  (∀ s i bad, s.trim.fg = some i → i < 0x1D0 → spareTotal i < bad.length →
    ∃ t, exec (.trimFgEnd i bad) s = .next t ∧ t.trim.fg = none ∧ t.fld TRIM_STS TRIM_STS_STATUS = E_TRIM_FAILED
      ∧ t.fld (TRIM_CSTS i) TRIM_CSTS_FG = 0 ∧ t.fld (TRIM_CSTS i) TRIM_CSTS_HEALTH = 3) ∧
  (∀ s, (s.dev = dREADY ∨ s.dev = dRUN) → s.trim.bgAt + s.fld TRIM_CTL TRIM_CTL_BG_PER * 20000000 ≤ s.clock.now →
    ∃ t, exec .trimBgRun s = .next t ∧ t.trim.bgAt = s.clock.now
      ∧ ∀ i, i < 0x1D0 → (t.trc i).step = ((s.trc i).step || (bit (s.fld TRIM_CTL TRIM_CTL_BG_EN) (convClass i) && s.bgMay i))) ∧
  (∀ s i e m, (s.trc i).step = true → s.trimBad i = false → i < 0x1D0 → spareTotal i ≠ 0 → oldest (s.elems i).free = some e →
      oldest (s.elems i).mapped = some m →
    ∃ t, exec (.trimBgStepEnd i true) s = .next t ∧ (t.trc i).step = false ∧ (t.trc i).staged = some (.swap e.1 m.1)
      ∧ t.flag (TRIM_CSTS i) TRIM_CSTS_PENDING = true ∧ (t.elems i).retired = (s.elems i).retired) ∧
  (∀ s i e m, (s.trc i).step = true → s.trimBad i = false → i < 0x1D0 → spareTotal i ≠ 0 → oldest (s.elems i).free = some e →
      oldest (s.elems i).mapped = some m →
    ∃ t, exec (.trimBgStepEnd i false) s = .next t ∧ (t.trc i).step = false ∧ (t.trc i).staged = (s.trc i).staged
      ∧ (t.elems i).retired = (s.elems i).retired ++ [e.1] ∧ (t.elems i).free = (s.elems i).free.filter (fun f => f.1 != e.1)
      ∧ t.fld (TRIM_CSTS i) TRIM_CSTS_HEALTH = (if (s.elems i).free.all (fun f => f.1 == e.1) then 2 else 1)) ∧
  (∀ s i ok, (s.trc i).step = true → s.trimBad i = false → i < 0x1D0 → spareTotal i = 0 → convClass i ≠ 5 →
    ∃ t, exec (.trimBgStepEnd i ok) s = .next t ∧ (t.trc i).step = false ∧ (t.trc i).staged = some .values
      ∧ t.flag (TRIM_CSTS i) TRIM_CSTS_PENDING = true ∧ t.rdN (TRIM_CAL_COUNT i) = s.rdN (TRIM_CAL_COUNT i)) ∧
  (∀ s i ok, (s.trc i).step = true → s.trimBad i = false → i < 0x1D0 → convClass i = 5 → s.monCalibrates i = false →
    ∃ t, exec (.trimBgStepEnd i ok) s = .next t ∧ (t.trc i).step = false ∧ (t.trc i).staged = (s.trc i).staged
      ∧ t.rdN (TRIM_CAL_COUNT i) = min 0xFFFFFFFF (s.rdN (TRIM_CAL_COUNT i) + 1)) ∧
  (∀ s i e o, (s.trc i).staged = some (.swap e o) → s.phase = 0 → i < 0x1D0 → (∀ y ∈ s.convYards i, s.inPass (s.groupOf y) = false) →
    ∃ t, exec (.trimApply i) s = .next t ∧ (t.trc i).staged = none ∧ t.fld (TRIM_CSTS i) TRIM_CSTS_PENDING = 0
      ∧ t.rdN TRIM_APPLY_CNT = min 0xFFFFFFFF (s.rdN TRIM_APPLY_CNT + 1)
      ∧ t.rdN (TRIM_CAL_COUNT i) = min 0xFFFFFFFF (s.rdN (TRIM_CAL_COUNT i) + 1)
      ∧ (t.elems i).mapped.map (·.1) = (s.elems i).mapped.map (fun m => if m.1 = o then e else m.1)
      ∧ (t.elems i).free.map (·.1) = (s.elems i).free.map (fun f => if f.1 = e then o else f.1))

/-- R562 to R569, R573 to R579. Temperatures count 1/64 °C (7104 is 111 °C, 6848 is 107 °C). -/
def Obligations.ReefFollowsTemperatureAndPower : Prop :=
  (∀ s i v xs m, i < 48 → s.dev ≠ dOFF → s.sensBad i = false → xs = v :: tget s.reef.conv i → (∀ x ∈ xs, -2560 ≤ x ∧ x ≤ 9600) →
      convOk (xs.take 2) = true → m = meanT (xs.take 10) → m < 7104 → ∃ t, exec (.reefSensorConversion i v) s = .next t ∧ t.sensT i = m
      ∧ t.zoneT (i / 2) = max m (s.sensT (4 * (i / 2) + 1 - i)) ∧ t.flag (REEF_ZONE (i / 2)) REEF_ZONE_LOST = false
      ∧ (s.sensBad (4 * (i / 2) + 1 - i) = false → 512 < (m - s.sensT (4 * (i / 2) + 1 - i)).natAbs → t.flag (REEF_ZONE (i / 2)) REEF_ZONE_DISAGREE = true)
      ∧ tget t.reef.conv i = xs.take 10 ∧ s.keeps t [REEF_SENS i, REEF_ZONE (i / 2), REEF_PEAK, REEF_STS]
      ∧ { t with regs := s.regs, reef := s.reef, bus := s.bus } = s) ∧
  (∀ s i v xs m, i < 48 → s.sensBad i = false → xs = v :: tget s.reef.conv i → (∀ x ∈ xs, -2560 ≤ x ∧ x ≤ 9600) → convOk (xs.take 2) = true →
      m = meanT (xs.take 10) → 7104 ≤ m → s.dev ≠ dOFF → s.dev ≠ dSAFE → ∃ t, exec (.reefSensorConversion i v) s = .next t ∧ t.dev = dSAFE
      ∧ t.fld GLB_STATE GLB_STATE_SAFE_STATUS = E_REEF_OVERTEMP ∧ t.sensT i = m) ∧
  (∀ s i v m, i < 48 → s.dev = dOFF → s.sensBad i = false → m = meanT ((v :: tget s.reef.conv i).take 10) → -2560 ≤ m → m ≤ 9600 →
    ∃ t, exec (.reefSensorConversion i v) s = .next t ∧ t.sensT i = m ∧ tget t.reef.conv i = (v :: tget s.reef.conv i).take 10
      ∧ s.keeps t [REEF_SENS i, REEF_ZONE (i / 2)] ∧ { t with regs := s.regs, reef := s.reef } = s) ∧
  (∀ s i v, i < 48 → s.dev ≠ dOFF → s.sensBad i = false → s.sensBad (4 * (i / 2) + 1 - i) = false → (v < -2560 ∨ 9600 < v) → ∃ t, exec (.reefSensorConversion i v) s = .next t
      ∧ t.sensBad i = true ∧ t.sensT i = 6848 ∧ t.fld REEF_STS REEF_STS_SENS_FAIL = 1
      ∧ t.bus = { s.bus with reports := s.bus.reports ++ [⟨E_REEF_SENS_FAIL, false, 0x40, i⟩] }
      ∧ s.keeps t [REEF_SENS i, REEF_ZONE (i / 2), REEF_PEAK, REEF_STS] ∧ { t with regs := s.regs, reef := s.reef, bus := s.bus } = s) ∧
  (∀ s l n m, s.dev ≠ dOFF → s.tenMs s.reef.tAt = true → l = s.fld REEF_STS REEF_STS_TLEVEL →
      ((l < 7 ∧ n = l + 1 ∧ ∃ z, z < 24 ∧ 5952 + 128 * (n : Int) ≤ s.zoneT z)
        ∨ (0 < l ∧ n = l - 1 ∧ ∀ z, z < 24 → s.zoneT z < 5952 + 128 * (l : Int) - 192)) →
      m = max n (s.fld REEF_STS REEF_STS_PLEVEL) → ∃ t, exec .tlevelChange s = .next t ∧ t.fld REEF_STS REEF_STS_TLEVEL = n
      ∧ t.fld REEF_STS REEF_STS_LEVEL = m ∧ t.reef.tAt = some s.clock.now
      ∧ (s.fld REEF_STS REEF_STS_LEVEL ≠ m → t.fld CNS_GSTS CNS_GSTS_SHED = (if 1 ≤ m then 1 else 0)
          ∧ t.fld FRL_GSTS FRL_GSTS_SHED = (if 2 ≤ m then 1 else 0) ∧ t.fld WCH_STS WCH_STS_CLK = (if 6 ≤ m then 2 else if 3 ≤ m then 1 else 0)
          ∧ t.fld DEC_STS DEC_STS_LANES_EFF = (if 7 ≤ m then 2 else if 6 ≤ m then 4 else if 4 ≤ m then 8 else 16)
          ∧ t.fld REEF_STS REEF_STS_HOLD = (if 5 ≤ m then 1 else 0) ∧ t.rdN REEF_LVL_CNT = min 0xFFFFFFFF (s.rdN REEF_LVL_CNT + 1))
      ∧ (s.fld REEF_STS REEF_STS_LEVEL = m → s.keeps t [REEF_STS])) ∧
  (∀ s l n m, s.dev ≠ dOFF → s.tenMs s.reef.pAt = true → l = s.fld REEF_STS REEF_STS_PLEVEL →
      ((l < 7 ∧ n = l + 1 ∧ s.reef.lim < s.rdN REEF_PWR)
        ∨ (0 < l ∧ n = l - 1 ∧ 100 * s.rdN REEF_PWR < 95 * s.reef.lim)) →
      m = max (s.fld REEF_STS REEF_STS_TLEVEL) n → ∃ t, exec .plevelChange s = .next t ∧ t.fld REEF_STS REEF_STS_PLEVEL = n
      ∧ t.fld REEF_STS REEF_STS_LEVEL = m ∧ t.reef.pAt = some s.clock.now
      ∧ (s.fld REEF_STS REEF_STS_LEVEL = m → s.keeps t [REEF_STS])) ∧
  (∀ s vs, s.dev = dOFF → exec (.reefRailSample vs) s = .next s) ∧
  (∀ s vs mw, s.dev ≠ dOFF → mw = (((List.range 6).map fun r => (vs.getD r (0, 0)).1 * (vs.getD r (0, 0)).2).foldl (· + ·) 0) / 1000 →
      meanN ((mw :: s.reef.power).take 100) ≤ s.fld REEF_PLIM REEF_PLIM_W * 1000 → ∃ t, exec (.reefRailSample vs) s = .next t
      ∧ t.rdN REEF_PWR = meanN ((mw :: s.reef.power).take 100) % 2 ^ 32
      ∧ (∀ r, r < 6 → t.rdN (REEF_RAIL r) = meanN (((vs.getD r (0, 0) :: tget s.reef.rails r).take 100).map (·.1)) % 2 ^ 16 * 2 ^ 32
          + meanN (((vs.getD r (0, 0) :: tget s.reef.rails r).take 100).map (·.2)) % 2 ^ 32)
      ∧ t.reef.above = none ∧ t.reef.lim = s.fld REEF_PLIM REEF_PLIM_W * 1000 ∧ s.keeps t (REEF_PWR :: (List.range 6).map REEF_RAIL) ∧ { t with regs := s.regs, reef := s.reef } = s) ∧
  (∀ s vs mw a, s.dev ≠ dOFF → mw = (((List.range 6).map fun r => (vs.getD r (0, 0)).1 * (vs.getD r (0, 0)).2).foldl (· + ·) 0) / 1000 →
      s.fld REEF_PLIM REEF_PLIM_W * 1000 < meanN ((mw :: s.reef.power).take 100) → s.fld REEF_STS REEF_STS_PLEVEL = 7 → s.reef.above = some a →
      a + 2000000000 ≤ s.clock.now → s.reef.told = false → ∃ t, exec (.reefRailSample vs) s = .next t
      ∧ t.fld REEF_STS REEF_STS_PLIM_FAIL = 1 ∧ t.bus = { s.bus with reports := s.bus.reports ++ [⟨E_REEF_PLIM, false, 0x40, 0⟩] }) ∧
  (∀ s v, s.opens REEF_PLIM → 150 ≤ v → v ≤ 320 → ∃ t, exec (.reefPlimWrite v) s = .next t ∧ t.rdN REEF_PLIM = v
      ∧ t.fld REEF_STS REEF_STS_STATUS = 0 ∧ s.onlyRegs t [REEF_PLIM, REEF_STS]) ∧
  (∀ s v, s.opens REEF_PLIM → v < 150 ∨ (320 < v ∧ v < 512) → ∃ t, exec (.reefPlimWrite v) s = .next t
      ∧ t.fld REEF_STS REEF_STS_STATUS = E_REEF_RANGE ∧ s.onlyRegs t [REEF_STS]) ∧
  (∀ s i xs, s.opens REEF_CMD → i < 48 → xs.length = 10 → convOk xs = true → ∃ t, exec (.sensRetest i true xs) s = .next t
      ∧ t.sensBad i = false ∧ t.sensT i = meanT xs ∧ t.zoneT (i / 2) = max (meanT xs) (s.sensT (4 * (i / 2) + 1 - i))
      ∧ t.fld REEF_STS REEF_STS_STATUS = 0 ∧ s.keeps t [REEF_SENS i, REEF_ZONE (i / 2), REEF_PEAK, REEF_STS]
      ∧ { t with regs := s.regs, reef := s.reef, bus := s.bus } = s) ∧
  (∀ s i xs pass, s.opens REEF_CMD → i < 48 → s.sensBad (4 * (i / 2) + 1 - i) = false → (pass = false ∨ xs.length ≠ 10 ∨ convOk xs = false) →
    ∃ t, exec (.sensRetest i pass xs) s = .next t ∧ t.sensBad i = true ∧ t.sensT i = 6848 ∧ t.fld REEF_STS REEF_STS_STATUS = 0
      ∧ s.keeps t [REEF_SENS i, REEF_ZONE (i / 2), REEF_PEAK, REEF_STS] ∧ { t with regs := s.regs, reef := s.reef, bus := s.bus } = s) ∧
  (∀ s i xs pass, s.opens REEF_CMD → 48 ≤ i → i < 64 → ∃ t, exec (.sensRetest i pass xs) s = .next t
      ∧ t.fld REEF_STS REEF_STS_STATUS = E_REEF_RANGE ∧ s.onlyRegs t [REEF_STS]) ∧
  (∀ s, ∃ t, exec .analogTrip s = .next t ∧ s.resetBy t 3 ∧ t.rdN REEF_TRIP_CNT = min 0xFFFFFFFF (s.rdN REEF_TRIP_CNT + 1)
      ∧ t.fld REEF_STS REEF_STS_TRIPPED = 1 ∧ t.reef.tripped = true ∧ t.reef.cool = none) ∧
  (∀ s c, s.reef.cool = some c → s.reef.tripped = true → c + 20000000000 ≤ (s.clock.now : Int) → s.dev = dOFF → s.pwr.good = true →
    ∃ t, exec .tripRestart s = .next t ∧ t.dev = dBOOT ∧ t.reef.tripped = false ∧ s.keeps t [GLB_STATE]
      ∧ { t with regs := s.regs, reef := s.reef, clock := s.clock } = s)

/-- R580 to R585, R587 to R590 and R595. A repeat of one of the 8 newest unread entries only counts in that entry (R583). -/
def Obligations.FaultManagerLogsMarksAndTimesEdges : Prop :=
  (∀ s r rest, s.bus.reports = r :: rest → faultClass r.code r.program < 5 → s.logHeld = 0 → s.logWp < 512 →
      bit (s.fld FLT_IRQ FLT_IRQ_EN) (faultClass r.code r.program) = false →
    ∃ t, exec .faultReport s = .next t ∧ t.bus.reports = rest ∧ t.logWp = (s.logWp + 1) % 512
      ∧ t.rdN (FLT_LOG (s.logWp % 256) 0) = r.code % 2 ^ 16 * 2 ^ 16 + faultClass r.code r.program * 2 ^ 8
      ∧ t.rdN (FLT_LOG (s.logWp % 256) 1) = r.src % 256 * 2 ^ 24 + r.inst % 2 ^ 24
      ∧ t.rdN (FLT_LOG (s.logWp % 256) 2) = s.tb1 % 2 ^ 32 ∧ t.rdN (FLT_LOG (s.logWp % 256) 3) = s.tb1 / 2 ^ 32 % 2 ^ 32
      ∧ t.rdN (FLT_CNT (faultClass r.code r.program)) = min 0xFFFFFFFF (s.rdN (FLT_CNT (faultClass r.code r.program)) + 1)
      ∧ { t with regs := s.regs, bus := s.bus } = s) ∧
  (∀ s, s.opens FLT_CMD → ∃ t, exec .fltDiscard s = .next t ∧ t.logRp = s.logWp ∧ t.logHeld = 0 ∧ t.fld FLT_STS FLT_STS_STATUS = 0
      ∧ s.onlyRegs t [FLT_LOG_RP, FLT_STS]) ∧
  (∀ s v, s.opens FLT_LOG_RP → v < 512 → (v + 512 - s.logRp) % 512 ≤ s.logHeld → ∃ t, exec (.fltLogRpWrite v) s = .next t
      ∧ t.logRp = v ∧ t.fld FLT_STS FLT_STS_STATUS = 0 ∧ s.onlyRegs t [FLT_LOG_RP, FLT_STS]) ∧
  (∀ s v, s.opens FLT_LOG_RP → v < 512 → s.logHeld < (v + 512 - s.logRp) % 512 → ∃ t, exec (.fltLogRpWrite v) s = .next t
      ∧ t.logRp = s.logRp ∧ t.fld FLT_STS FLT_STS_STATUS = E_FLT_RANGE ∧ s.onlyRegs t [FLT_STS]) ∧
  (∀ s g r, s.opens FLT_MARK → s.tb1Run = true → s.members g ≠ [] →
      (∀ y ∈ s.members g, ¬ (pSEALING ≤ s.pst (s.partOf y) ∧ s.pst (s.partOf y) ≤ pKEYED)) → (∀ h, h < 64 → (s.grp h).mark = none) →
      (s.rdN FLT_MARK_REL = 0 ∨ s.clock.tb1 + 2560 ≤ s.rdN FLT_MARK_REL) →
      r = (if s.rdN FLT_MARK_REL = 0 then s.clock.tb1 + 2560 else s.rdN FLT_MARK_REL) → ∃ t, exec (.fltMark g) s = .next t
      ∧ t.grp g = { s.grp g with mark := some (ceilFt r) } ∧ (∀ h, h ≠ g → t.grp h = s.grp h) ∧ t.fld FLT_STS FLT_STS_STATUS = 0
      ∧ s.keeps t [FLT_STS] ∧ { t with regs := s.regs, seq := s.seq } = s) ∧
  (∀ s g r, (s.grp g).mark = some r → s.atTb1 r = true → s.gst g = gRUNNING → (s.inPass g = true ∨ (s.grp g).lastEnd = s.tb1) →
    ∃ t, exec (.fltMarkRelease g) s = .next t
      ∧ t.grp g = { s.grp g with mark := none, marks := (s.grp g).marks ++ [E_FLT_MARKED] } ∧ t.regs = s.regs
      ∧ t.bus.reports = s.bus.reports ++ [⟨E_FLT_MARKED, false, 0x40, g⟩] ∧ t.bus.recs.length = s.bus.recs.length
      ∧ { t with seq := s.seq, bus := s.bus } = s) ∧
  (∀ s g r, (s.grp g).mark = some r → s.atTb1 r = true → s.gst g = gIDLE → ∃ t, exec (.fltMarkRelease g) s = .next t
      ∧ t.grp g = { s.grp g with mark := none } ∧ t.fld FLT_STS FLT_STS_STATUS = E_FLT_STATE ∧ s.keeps t [FLT_STS]
      ∧ { t with regs := s.regs, seq := s.seq } = s) ∧
  (∀ s i v, s.opens (FLT_TRIG_CFG i) → i < 16 → v < 2 ^ 32 → bits v 4 0 ≤ 24 → (bit v 31 = true → s.xfMay i (bits v 29 24) = true) →
    ∃ t, exec (.fltTrigCfgWrite i v) s = .next t ∧ t.fld (FLT_TRIG_CFG i) (0, 5) = bits v 4 0 ∧ t.fld (FLT_TRIG_CFG i) (24, 8) = bits v 31 24
      ∧ t.fld FLT_STS FLT_STS_STATUS = 0 ∧ s.keeps t [FLT_TRIG_CFG i, FLT_STS] ∧ { t with regs := s.regs, flt := s.flt } = s) ∧
  (∀ s i up, (s.trig i).pend = none → (s.trig i).pin ≠ up → (s.trig i).level ≠ up → ∃ t, exec (.trigLevelChange i up) s = .next t
      ∧ (t.trig i).pin = up ∧ (t.trig i).pinAt = s.clock.now ∧ (t.trig i).level = (s.trig i).level
      ∧ (∃ c, (t.trig i).pend = some c ∧ c.e = s.clock.now ∧ c.level = up ∧ c.cfg = s.trigCfg i)
      ∧ t.regs = s.regs ∧ { t with flt := s.flt } = s) ∧
  (∀ s i c, (s.trig i).pend = some c → c.e + c.cfg % 32 * 16 ≤ s.clock.now → ∃ t, exec (.trigEdgeAccept i) s = .next t
      ∧ t.trig i = { s.trig i with level := c.level, pend := none, edges := (s.trig i).edges ++ [c] } ∧ { t with flt := s.flt } = s) ∧
  (∀ s i c rest e k, (s.trig i).edges = c :: rest → s.tb1Run = true → ceilFt (s.clock.tb1 + (c.e + 768) - s.clock.now) ≤ s.clock.tb1 →
      s.clock.now ≤ c.e + s.clock.tb1 → bit c.cfg 31 = false → e = s.clock.tb1 + c.e - s.clock.now → k = (2 * i + if c.level = true then 0 else 1) →
    ∃ t, exec (.trigEdgeDelivery i) s = .next t ∧ (t.trig i).edges = rest
      ∧ tget t.cnv.trigEv k = (e :: tget s.cnv.trigEv k).filter (fun x => decide (s.clock.tb1 ≤ x + 2048))
      ∧ (∀ y ch, y < 64 → ch < 8 → (t.dem y ch).trigs = (s.dem y ch).trigs ++ (if s.fld (CNV_ACQ_CTL y ch) CNV_ACQ_CTL_SRC = 2
          ∧ s.fld (CNV_ACQ_CTL y ch) CNV_ACQ_CTL_SEL = i ∧ s.flag (CNV_ACQ_CTL y ch) CNV_ACQ_CTL_EDGE = !c.level then [e] else []))
      ∧ t.regs = s.regs ∧ { t with flt := s.flt, cnv := s.cnv, cap := s.cap } = s) ∧
  (∀ s i c rest, (s.trig i).edges = c :: rest → s.tb1Run = false → c.e + 768 ≤ s.clock.now → bit c.cfg 31 = false →
    ∃ t, exec (.trigEdgeDelivery i) s = .next t ∧ t.trig i = { s.trig i with edges := rest } ∧ { t with flt := s.flt } = s)

/-- R607 to R609, R611 to R619 and Table 21-3. What a reset keeps: the straps, the trip count and TRIPPED, the revoked keys, the
firmware floor and the lifecycle. -/
def Obligations.ResetsSuppliesAndClocksAct : Prop :=
  (∀ s straps, s.pwr.straps = none → straps < 16 → ∃ t, exec (.powerGood straps) s = .next t ∧ t.pwr.good = true ∧ t.pwr.straps = some straps
      ∧ t.fld GLB_BOOT_STS (1, 4) = straps ∧ s.keeps t [GLB_BOOT_STS] ∧ { t with regs := s.regs, pwr := s.pwr } = s) ∧
  (∀ s straps, s.pwr.straps ≠ none → ∃ t, exec (.powerGood straps) s = .next t ∧ t = { s with pwr := { s.pwr with good := true } }) ∧
  (∀ s i k, (i, k) ∈ [(Instr.resetNAssert false, 1), (.railLoss, s.lastReset)] → s.dev ≠ dOFF → ∃ t, exec i s = .next t ∧ s.resetBy t k
      ∧ t.rd REEF_TRIP_CNT = s.rd REEF_TRIP_CNT ∧ t.fld REEF_STS REEF_STS_TRIPPED = s.fld REEF_STS REEF_STS_TRIPPED
      ∧ t.fld GLB_BOOT_STS (1, 4) = s.fld GLB_BOOT_STS (1, 4) ∧ t.pwr.straps = s.pwr.straps
      ∧ t.pwr.good = (if i = Instr.railLoss then false else s.pwr.good)) ∧
  (∀ s p, s.dev = dOFF → (p = true → s.flag GLB_BOOT_STS GLB_BOOT_STS_PERST_SEL = false) → exec (.resetNAssert p) s = .next s) ∧
  (∀ s, s.flag GLB_BOOT_STS GLB_BOOT_STS_PERST_SEL = true → exec (.resetNAssert true) s = exec .pcieReset s) ∧
  (∀ s, ∃ t, exec .auxLoss s = .next t ∧ t.dev = dOFF ∧ t.rd GLB_BOOT_STS = resetVal GLB_BOOT_STS ∧ t.rdN REEF_TRIP_CNT = 0
      ∧ t.fld REEF_STS REEF_STS_TRIPPED = 0 ∧ t.pwr.good = false ∧ t.pwr.straps = none ∧ t.pending = s.pending
      ∧ ∀ a, a ∉ [SHR_OKEY, GLB_FW_VER, SHR_STS, GLB_STATE] → t.rd a = resetVal a) ∧
  (∀ s i, i ∈ [Instr.synthLossOfLock, .refclkLoss] → s.flag GLB_CLK_STS GLB_CLK_STS_SYNTH_LOCK = true → s.dev ≠ dOFF → ∃ t, exec i s = .next t
      ∧ t.dev = dSAFE ∧ t.fld GLB_STATE GLB_STATE_SAFE_STATUS = E_FLT_SYNTH_LOCK ∧ t.tb1Run = false
      ∧ t.fld GLB_CLK_STS GLB_CLK_STS_SYNTH_LOCK = 0 ∧ t.fld GLB_CLK_STS GLB_CLK_STS_FALLBACK = 1
      ∧ t.rdN GLB_SYNTH_LOL_CNT = min 0xFFFFFFFF (s.rdN GLB_SYNTH_LOL_CNT + 1)
      ∧ (i = Instr.refclkLoss → t.fld GLB_CLK_STS GLB_CLK_STS_REFCLK_OK = 0 ∧ t.fld GLB_CLK_STS GLB_CLK_STS_AUX_LOCK = 0)) ∧
  (∀ s, s.dev = dSAFE → s.flag GLB_CLK_STS GLB_CLK_STS_FALLBACK = true → s.flag GLB_CLK_STS GLB_CLK_STS_SYNTH_LOCK = false →
      s.flag GLB_CLK_STS GLB_CLK_STS_REFCLK_OK = true → s.pwr.tryAt + 100000000 ≤ s.clock.now → ∃ t, exec (.synthRelockTry true) s = .next t ∧ t.fld GLB_CLK_STS GLB_CLK_STS_SYNTH_LOCK = 1
      ∧ t.pwr = { s.pwr with tryAt := s.clock.now, lockAt := some s.clock.now } ∧ s.keeps t [GLB_CLK_STS]
      ∧ { t with regs := s.regs, pwr := s.pwr } = s) ∧
  (∀ s l, s.pwr.lockAt = some l → l + 200000000 ≤ s.clock.now → ∃ t, exec .synthLockHeld s = .next t ∧ t.fld GLB_CLK_STS GLB_CLK_STS_FALLBACK = 0
      ∧ s.onlyRegs t [GLB_CLK_STS]) ∧
  (∀ s l, s.pwr.lockAt = some l → s.clock.now < l + 200000000 → exec .synthLockHeld s = .next s) ∧
  (∀ s, s.dev = dOFF → s.pwr.good = true → s.reef.tripped = false → ∃ t, exec .resetRelease s = .next t ∧ t.dev = dBOOT ∧ t.clock = default
      ∧ t.reef = { s.reef with cool := s.reef.cool.map (· - (s.clock.now : Int)) }
      ∧ s.keeps t [GLB_STATE] ∧ { t with regs := s.regs, clock := s.clock, reef := s.reef } = s) ∧
  (∀ s, s.dev ≠ dOFF ∨ s.pwr.good = false ∨ s.reef.tripped = true → exec .resetRelease s = .next s) ∧
  (∀ s v, s.opens GLB_RESET → bits v 31 16 = 0xA5C3 → v % 2 = 1 → s.pwr.glbAt = none → ∃ t, exec (.glbReset v) s = .next t
      ∧ t = { s with pwr := { s.pwr with glbAt := some (s.clock.now + 20000) } }) ∧
  (∀ s v, s.opens GLB_RESET → bits v 31 16 ≠ 0xA5C3 ∨ v % 2 ≠ 1 ∨ s.pwr.glbAt ≠ none → exec (.glbReset v) s = .next s) ∧
  (∀ s, s.dev ≠ dOFF → ∃ t, exec .refclkReturn s = .next t ∧ t.fld GLB_CLK_STS GLB_CLK_STS_REFCLK_OK = 1 ∧ t.fld GLB_CLK_STS GLB_CLK_STS_AUX_LOCK = 1
      ∧ s.onlyRegs t [GLB_CLK_STS])

/-- R620 to R629. Signatures are a constant of Config: the clauses about stage 6 speak of the outcome of its check, whatever it
is. -/
def Obligations.BootAdvancesAndSmbusAnswers : Prop :=
  (∀ s n a b k f z, s.dev = dBOOT → s.stage = n → n = 1 ∨ n = 3 ∨ (n = 4 ∧ z = []) → ∃ t, exec (.bootStageComplete ⟨0, z⟩ a b k f) s = .next t
      ∧ t.stage = n + 1 ∧ t.dev = dBOOT ∧ (n = 1 → t.stay.tb0 = 0) ∧ (n ≠ 1 → t.stay = s.stay) ∧ s.keeps t [GLB_BOOT_STS]
      ∧ { t with regs := s.regs, stay := s.stay } = s) ∧
  (∀ s a b k f i, s.dev = dBOOT → s.stage = 4 → i < 48 → s.sensBad (4 * (i / 2) + 1 - i) = false → ∃ t, exec (.bootStageComplete ⟨0, [i]⟩ a b k f) s = .next t
      ∧ t.stage = 5 ∧ t.dev = dBOOT ∧ t.sensBad i = true ∧ t.sensT i = 6848
      ∧ t.bus = { s.bus with reports := s.bus.reports ++ [⟨E_REEF_SENS_FAIL, false, 0x40, i⟩] }
      ∧ s.keeps t [GLB_BOOT_STS, REEF_SENS i, REEF_ZONE (i / 2), REEF_PEAK, REEF_STS] ∧ { t with regs := s.regs, reef := s.reef, bus := s.bus } = s) ∧
  (∀ s a b k f z, s.dev = dBOOT → s.stage = 2 → s.fld GLB_BOOT_STS GLB_BOOT_STS_CAUSE ≠ 1 → ∃ t, exec (.bootStageComplete ⟨0, z⟩ a b k f) s = .next t
      ∧ t.stage = 3 ∧ t.fld GLB_CLK_STS GLB_CLK_STS_REFCLK_OK = 1 ∧ t.fld GLB_CLK_STS GLB_CLK_STS_AUX_LOCK = 1
      ∧ t.fld GLB_CLK_STS GLB_CLK_STS_SYNTH_LOCK = 1 ∧ t.fld GLB_CLK_STS GLB_CLK_STS_FALLBACK = 0
      ∧ s.keeps t [GLB_BOOT_STS, GLB_CLK_STS] ∧ { t with regs := s.regs, pwr := s.pwr } = s) ∧
  (∀ s a b k f z, s.dev = dBOOT → s.stage = 2 → s.fld GLB_BOOT_STS GLB_BOOT_STS_CAUSE ≠ 1 → ∃ t, exec (.bootStageComplete ⟨1, z⟩ a b k f) s = .next t
      ∧ t.stage = 2 ∧ t.fld GLB_BOOT_STS GLB_BOOT_STS_CAUSE = 1 ∧ t.pwr = { s.pwr with tryAt := s.clock.now } ∧ s.keeps t [GLB_BOOT_STS]
      ∧ { t with regs := s.regs, pwr := s.pwr } = s) ∧
  (∀ s c a b k f z, s.dev = dBOOT → s.stage = 2 → s.fld GLB_BOOT_STS GLB_BOOT_STS_CAUSE = 1 → exec (.bootStageComplete ⟨c, z⟩ a b k f) s = .next s) ∧
  (∀ s a b k f z c, s.dev = dBOOT → (s.stage = 1 ∨ s.stage = 3 ∨ (s.stage = 4 ∧ z = []) ∨ s.stage = 5
        ∨ (s.stage = 2 ∧ c ≠ 1 ∧ s.fld GLB_BOOT_STS GLB_BOOT_STS_CAUSE ≠ 1)) → 0 < c → c < 256 →
    ∃ t, exec (.bootStageComplete ⟨c, z⟩ a b k f) s = .next t ∧ t.dev = dSAFE ∧ t.fld GLB_STATE GLB_STATE_SAFE_STATUS = E_FLT_BOOT
      ∧ t.fld GLB_BOOT_STS GLB_BOOT_STS_CAUSE = c) ∧
  (∀ s a b k f z cs, s.dev = dBOOT → s.stage = 5 → cs = bootCopies (s.flag GLB_BOOT_STS GLB_BOOT_STS_XSPI_MODE) a b → cs ≠ [] →
    ∃ t, exec (.bootStageComplete ⟨0, z⟩ a b k f) s = .next t ∧ t.stage = 6 ∧ t.pwr = { s.pwr with copies := cs } ∧ t.dev = dBOOT
      ∧ s.keeps t [GLB_BOOT_STS, SHR_OKEY] ∧ { t with regs := s.regs, pwr := s.pwr, shr := s.shr } = s) ∧
  (∀ s a b k f z, s.dev = dBOOT → s.stage = 5 → bootCopies (s.flag GLB_BOOT_STS GLB_BOOT_STS_XSPI_MODE) a b = [] →
    ∃ t, exec (.bootStageComplete ⟨0, z⟩ a b k f) s = .next t ∧ t.dev = dSAFE ∧ t.fld GLB_BOOT_STS GLB_BOOT_STS_CAUSE = 4) ∧
  (∀ s a b k f z n len off rest c e, s.dev = dBOOT → s.stage = 6 → s.pwr.copies = (n, len, off, 0) :: rest → n < 2 → s.lifecycle ≠ 3 → s.lastReset ≠ 3 →
      c = (if e = 0 then s.fwCause len f else e) → e < 256 → ∃ t, exec (.bootStageComplete ⟨e, z⟩ a b k f) s = .next t
      ∧ (if c = 0 then t.dev = dCONFIG ∧ t.stage = 7 ∧ t.fld GLB_FW_VER GLB_FW_VER_VER = leAt f 4 2 ∧ t.fld GLB_BOOT_STS GLB_BOOT_STS_COPY = n
            ∧ t.shr.fw = sha f ∧ t.pwr.copies = []
          else if rest = [] then t.dev = dSAFE ∧ t.fld GLB_BOOT_STS GLB_BOOT_STS_CAUSE = c
          else t = { s with pwr := { s.pwr with copies := rest } })) ∧
  (∀ s a b k f z c, s.dev ≠ dBOOT → exec (.bootStageComplete ⟨c, z⟩ a b k f) s = .next s) ∧
  (∀ s, s.dev = dBOOT → s.stage = 2 → s.fld GLB_BOOT_STS GLB_BOOT_STS_CAUSE = 1 → s.pwr.tryAt + 100000000 ≤ s.clock.now →
    ∃ t, exec (.auxPllRetry true) s = .next t ∧ t.fld GLB_CLK_STS GLB_CLK_STS_REFCLK_OK = 1 ∧ t.fld GLB_CLK_STS GLB_CLK_STS_AUX_LOCK = 1
      ∧ t.fld GLB_BOOT_STS GLB_BOOT_STS_CAUSE = 0 ∧ t.stage = 2 ∧ t.pwr = { s.pwr with tryAt := s.clock.now }
      ∧ s.keeps t [GLB_CLK_STS, GLB_BOOT_STS] ∧ { t with regs := s.regs, pwr := s.pwr } = s) ∧
  (∀ s i c v, (i, c, v) ∈ [(Instr.smbBootStsLow, 0, s.rdN GLB_BOOT_STS % 2 ^ 16), (.smbBootStsHigh, 1, s.rdN GLB_BOOT_STS / 2 ^ 16),
      (.smbState, 2, if s.dev = dOFF then 0 else s.rdN GLB_STATE % 2 ^ 16), (.smbReefSts, 3, s.rdN REEF_STS % 2 ^ 16),
      (.smbTripCnt, 4, s.rdN REEF_TRIP_CNT % 2 ^ 16)] ++ (List.range 24).map (fun z => (Instr.smbZoneTemp z, 0x10 + z, s.fld (REEF_ZONE z) REEF_ZONE_TEMP)) →
    ∃ t p, exec i s = .next t ∧ t = { s with pwr := { s.pwr with smb := [BitVec.ofNat 8 v, BitVec.ofNat 8 (v / 256), p] } }
      ∧ p = [BitVec.ofNat 8 (2 * (0x58 + s.fld GLB_BOOT_STS GLB_BOOT_STS_SMB_ADDR)), BitVec.ofNat 8 c,
          BitVec.ofNat 8 (2 * (0x58 + s.fld GLB_BOOT_STS GLB_BOOT_STS_SMB_ADDR) + 1), BitVec.ofNat 8 v, BitVec.ofNat 8 (v / 256)].foldl pecByte 0) ∧
  (∀ s r, r < 6 → ∃ t p, exec (.smbRail r) s = .next t
      ∧ t = { s with pwr := { s.pwr with smb := 6 :: le 6 (if s.dev = dOFF then 0 else s.rdN (REEF_RAIL r)) ++ [p] } }) ∧
  (∀ s, ∃ t, exec .smbOther s = .next t ∧ t = { s with pwr := { s.pwr with smb := [] } })

/-- R654 to R664. -/
def Obligations.RatlineReadsWritesHaltsAndSteps : Prop :=
  (∀ s, ∃ t, exec .tapReset s = .next t ∧ t = { s with rat := { s.rat with ir := 0x01, dr := 0 } }) ∧
  (∀ s, ∃ t, exec .tapIdcode s = .next t ∧ t = { s with rat := { s.rat with ir := 0x01, dr := 0x1A512B4B } }) ∧
  (∀ s ir, ir < 256 → ∃ t, exec (.tapBypass ir) s = .next t ∧ t = { s with rat := { s.rat with ir := ir, dr := 0 } }) ∧
  (∀ s, s.lifecycle ≠ 3 → ∃ t, exec .tapDbgStatus s = .next t ∧ t = { s with rat := { s.rat with ir := 0x10, dr := s.rdN RAT_STS } }) ∧
  (∀ s i w sp p a r d o, i ∈ [Instr.tapDbgStatus, .dbgAccessNop o, .dbgAccessRead w sp p a r, .dbgAccessWrite w sp a r d] → s.lifecycle = 3 →
    ∃ t, exec i s = .next t ∧ t = { s with rat := { s.rat with ir := 0xFF, dr := 0 } }) ∧
  (∀ s i w sp p a r d o e, i ∈ [Instr.dbgAccessNop o, .dbgAccessRead w sp p a r, .dbgAccessWrite w sp a r d] → s.lifecycle ≠ 3 → s.rat.busy = some e →
    ∃ t, exec i s = .next t ∧ t = { s with rat := { s.rat with ir := 0x11, dr := E_RAT_BUSY * 2 ^ 112 + s.rat.data } }) ∧
  (∀ s, s.lifecycle ≠ 3 → s.rat.busy = none → ∃ t, exec (.dbgAccessNop 0) s = .next t
      ∧ t = { s with rat := { s.rat with ir := 0x11, dr := s.rat.status * 2 ^ 112 + s.rat.data } }) ∧
  (∀ s i w sp p a r d, (i = Instr.dbgAccessNop 3 ∨ (0 < r ∧ (i = Instr.dbgAccessRead w sp p a r ∨ i = Instr.dbgAccessWrite w sp a r d))) →
      s.lifecycle ≠ 3 → s.rat.busy = none → ∃ t, exec i s = .next t
      ∧ t = { s with rat := { s.rat with ir := 0x11, dr := s.rat.status * 2 ^ 112 + s.rat.data, busy := some (E_RAT_RSVD_ENC, s.rat.data) } }) ∧
  (∀ s a r, s.lifecycle ≠ 3 → s.rat.busy = none → s.barUp = true → s.ratBar0 a = true → regRow a = some r → r.width = 32 → a % 4 = 0 →
    ∃ t, exec (.dbgAccessRead false 0 true a 0) s = .next t
      ∧ t = { s with rat := { s.rat with ir := 0x11, dr := s.rat.status * 2 ^ 112 + s.rat.data, busy := some (0, (s.view true a).toNat % 2 ^ 32) } }) ∧
  (∀ s a p d, s.lifecycle ≠ 3 → s.rat.busy = none → s.barUp = false → s.ratBar0 a = true → a % 4 = 0 →
    (∃ t, exec (.dbgAccessRead false 0 p a 0) s = .next t
        ∧ t = { s with rat := { s.rat with ir := 0x11, dr := s.rat.status * 2 ^ 112 + s.rat.data, busy := some (0, 0) } })
    ∧ ∃ t, exec (.dbgAccessWrite false 0 a 0 d) s = .next t
        ∧ t = { s with rat := { s.rat with ir := 0x11, dr := s.rat.status * 2 ^ 112 + s.rat.data, busy := some (0, s.rat.data) } }) ∧
  (∀ s a i p d, s.lifecycle ≠ 3 → s.rat.busy = none → s.ratBar0 a = false → a % 4 = 0 →
      i ∈ [Instr.dbgAccessRead false 0 p a 0, .dbgAccessWrite false 0 a 0 d] → ∃ t, exec i s = .next t
      ∧ t.rat = { s.rat with ir := 0x11, dr := s.rat.status * 2 ^ 112 + s.rat.data, busy := some (E_RAT_SCOPE, 0) }
      ∧ t.fld RAT_STS RAT_STS_DENY_CNT = min 0xFFFF (s.fld RAT_STS RAT_STS_DENY_CNT + 1) ∧ s.keeps t [RAT_STS]
      ∧ { t with regs := s.regs, rat := s.rat } = s) ∧
  (∀ s a d, s.lifecycle ≠ 3 → s.rat.busy = none → s.barUp = true → (∀ c, s.img.commit = some c → c.phase = 0) →
      (∃ y b, y < 64 ∧ b < 4 ∧ a = RAT_MBRK y b) ∨ (∃ x b, x < 8 ∧ b < 2 ∧ a = RAT_WBRK x b) → s.ratBar0 a = true → d < 2 ^ 32 →
    ∃ t, exec (.dbgAccessWrite false 0 a 0 d) s = .next t
      ∧ t.rat = { s.rat with ir := 0x11, dr := s.rat.status * 2 ^ 112 + s.rat.data, busy := some (0, s.rat.data) }
      ∧ t.rd a = (s.rd a &&& ~~~(rwMask a)) ||| (BitVec.ofNat 64 d &&& rwMask a) ∧ s.keeps t [a] ∧ { t with regs := s.regs, rat := s.rat } = s) ∧
  (∀ s a d, s.lifecycle ≠ 3 → s.rat.busy = none → s.barUp = true → 0x20000000 ≤ a → a + 4 ≤ 0x22000000 → a % 4 = 0 → s.ratBar2 a = true →
    ∃ t, exec (.dbgAccessWrite false 1 a 0 d) s = .next t
      ∧ t.rat = { s.rat with ir := 0x11, dr := s.rat.status * 2 ^ 112 + s.rat.data, busy := some (0, s.rat.data) }
      ∧ t.cnv = { s.cnv with res := stList s.cnv.res (a - 0x20000000) (leBytes 4 d) } ∧ { t with cnv := s.cnv, rat := s.rat } = s) ∧
  (∀ s st da, s.rat.busy = some (st, da) → ∃ t, exec .dbgAccessComplete s = .next t
      ∧ t = { s with rat := { s.rat with busy := none, status := st, data := da } }) ∧
  (∀ s, s.rat.busy = none → exec .dbgAccessComplete s = .next s) ∧
  (∀ s y, s.ratYard y = true → ∃ t, exec (.ratMastHalt y) s = .next t ∧ t.mast y = { s.mast y with haltReq := true }
      ∧ (∀ z, z ≠ y → t.mast z = s.mast z) ∧ { t with seq := s.seq } = s ∧ { t.seq with masts := s.seq.masts } = s.seq) ∧
  (∀ s i y x v, (i ∈ [Instr.ratMastHalt y, .ratMastStep y, .ratMastRelease y] ∧ s.ratYard y = false)
        ∨ (i ∈ [Instr.ratWchHalt x v, .ratWchStep x] ∧ s.ratCore x = false) → ∃ t, exec i s = .next t
      ∧ t.rat = { s.rat with status := E_RAT_SCOPE, data := 0 } ∧ t.fld RAT_STS RAT_STS_DENY_CNT = min 0xFFFF (s.fld RAT_STS RAT_STS_DENY_CNT + 1)
      ∧ s.keeps t [RAT_STS] ∧ { t with regs := s.regs, rat := s.rat } = s) ∧
  (∀ s y pc u w, s.ratYard y = true → y < 64 → s.flag (RAT_MSTS y) RAT_MSTS_HALTED = true → pc = s.fld (RAT_MSTS y) RAT_MSTS_PC → pc < 32767 →
      u = s.setPc y pc → w = u.word y pc → mop w = .movi → u.decodeErr y pc w = 0 → u.issueErr y w = 0 → (s.mast y).loops = [] →
    ∃ t, exec (.ratMastStep y) s = .next t ∧ t.g y (bits w 52 48) = bits w 47 0 ∧ t.pc y = pc + 1 ∧ t.fld (RAT_MSTS y) RAT_MSTS_PC = pc + 1
      ∧ t.fld (RAT_MSTS y) RAT_MSTS_STATUS = 0 ∧ t.flag (RAT_MSTS y) RAT_MSTS_HALTED = true
      ∧ s.keeps t [SEQ_G y (bits w 52 48), SEQ_PC y, RAT_MSTS y] ∧ { t with regs := s.regs, seq := s.seq } = s) ∧
  (∀ s y pc u w, s.ratYard y = true → y < 64 → s.flag (RAT_MSTS y) RAT_MSTS_HALTED = true → pc = s.fld (RAT_MSTS y) RAT_MSTS_PC → pc < 32767 →
      u = s.setPc y pc → w = u.word y pc → mop w = .wait → u.decodeErr y pc w = 0 → u.issueErr y w = 0 → (s.mast y).loops = [] →
      u.tq y + 16 * u.waitFt y w ≤ 2 ^ 48 - 16 → ∃ t, exec (.ratMastStep y) s = .next t ∧ t.tq y = s.tq y + 16 * u.waitFt y w
      ∧ t.fld (RAT_MSTS y) RAT_MSTS_PC = pc + 1 ∧ t.fld (RAT_MSTS y) RAT_MSTS_STATUS = 0 ∧ s.keeps t [SEQ_TQ y, SEQ_PC y, RAT_MSTS y]
      ∧ { t with regs := s.regs, seq := s.seq } = s) ∧
  (∀ s y pc u w, s.ratYard y = true → y < 64 → s.flag (RAT_MSTS y) RAT_MSTS_HALTED = true → pc = s.fld (RAT_MSTS y) RAT_MSTS_PC →
      u = s.setPc y pc → w = u.word y pc → mop w = .end_ → u.decodeErr y pc w = 0 → u.issueErr y w = 0 → ∃ t, exec (.ratMastStep y) s = .next t
      ∧ t.fld (RAT_MSTS y) RAT_MSTS_STATUS = E_RAT_STATE ∧ t.fld (RAT_MSTS y) RAT_MSTS_PC = pc ∧ s.onlyRegs t [SEQ_PC y, RAT_MSTS y]) ∧
  (∀ s y, s.ratYard y = true → y < 64 → s.flag (RAT_MSTS y) RAT_MSTS_HALTED = true → ∃ t, exec (.ratMastRelease y) s = .next t
      ∧ t.flag (RAT_MSTS y) RAT_MSTS_HALTED = false ∧ t.mst y = mIDLE
      ∧ t.fld RAT_STS RAT_STS_MHALT = (if (allYards.any fun z => z != y && s.flag (RAT_MSTS z) RAT_MSTS_HALTED) = true then 1 else 0)
      ∧ s.onlyRegs t [RAT_MSTS y, SEQ_STS y, RAT_STS]) ∧
  (∀ s y, s.ratYard y = true → s.flag (RAT_MSTS y) RAT_MSTS_HALTED = false → exec (.ratMastRelease y) s = .next s ∧ exec (.ratMastStep y) s = .next s) ∧
  (∀ s x, s.ratCore x = true → x < 8 → s.wst x = wRUN ∨ s.wst x = wWAIT → ∃ t, exec (.ratWchHalt x true) s = .next t ∧ t.wst x = wHALTED
      ∧ bit (t.fld RAT_STS RAT_STS_WHALT) x = true ∧ s.onlyRegs t [WCH_CSTS x, RAT_STS]) ∧
  (∀ s x, s.ratCore x = true → x < 8 → bit (s.fld RAT_STS RAT_STS_WHALT) x = true → s.wst x = wHALTED → ∃ t, exec (.ratWchHalt x false) s = .next t
      ∧ t.wst x = wRUN ∧ bit (t.fld RAT_STS RAT_STS_WHALT) x = false ∧ s.onlyRegs t [WCH_CSTS x, RAT_STS]) ∧
  (∀ s x u w, s.ratCore x = true → s.wst x = wHALTED → u = s.setCore x { s.core x with step := true } → u.wGoes x 2 w → (s.core x).step = false →
    ∃ t, exec (.ratWchStep x) s = .next t ∧ t.wD x (bits w 25 22) = unsgn 48 (sgn 22 (bits w 21 0)) ∧ s.wMoved t x [WCH_REG x (bits w 25 22)]
      ∧ t.wst x = wHALTED ∧ (∀ z, t.core z = s.core z)) ∧
  (∀ s x, s.ratCore x = true → s.wst x ≠ wHALTED → exec (.ratWchStep x) s = .next s)

/-- R12, for a part that answers BAR accesses (R620). -/
def Obligations.UnimplementedOffsetsReadZeroAndDiscardWrites : Prop :=
  ∀ s a v host, s.barUp = true → a % 4 = 0 → regRow a = none → (∀ r, regRow (a / 8 * 8) = some r → r.width = 32) → (a < 0x100 ∨ 0x260 ≤ a) →
    (a < 0x700000 ∨ 0x708100 ≤ a) → exec (.regWrite a v 4 host) s = .next s
      ∧ ∃ t, exec (.regReadClear a 4) s = .next t ∧ t = { s with bus := { s.bus with rdata := 0 } }

/-- R11, R13, R83, R97, R528, R620, R667. The clause on plain registers names some of each kind. -/
def Obligations.RegisterAccessesFollowTheirRules : Prop :=
  (∀ s a v n host, s.opens a → (n = 4 ∧ a ∈ [FLT_IRQ] ++ (List.range 8).map QM_QD ++ (List.range 8).map SHR_PLEN)
        ∨ (n = 8 ∧ a ∈ [GLB_LSG_REL, FLT_MARK_REL, IMG_SRC] ++ (List.range 8).map SHR_PSRC) → v < 2 ^ (8 * n) →
      (∀ p, p < 8 → a = SHR_PLEN p → s.shrBusy p = false) →
    ∃ t, exec (.regWrite a v n host) s = .next t ∧ t.rd a = (s.rd a &&& ~~~(rwMask a)) ||| (BitVec.ofNat 64 v &&& rwMask a)
      ∧ s.onlyRegs t [a]) ∧
  (∀ s p v host, s.opens (SHR_PLEN p) → p < 8 → s.shrBusy p = true → ∃ t, exec (.regWrite (SHR_PLEN p) v 4 host) s = .next t
      ∧ t.fld (SHR_PSTS p) SHR_PSTS_STATUS = E_SHR_BUSY ∧ s.onlyRegs t [SHR_PSTS p]) ∧
  (∀ s a r v host, s.opens a → regRow a = some r → r.w1c ≠ 0 → r.width = 32 → r.base ≠ BIA_STS 0 → ratOnly r.base = false →
      (a < 0x700000 ∨ 0x708000 ≤ a) → a % 4 = 0 → v < 2 ^ 32 → ∃ t, exec (.regWrite a v 4 host) s = .next t
      ∧ t.rd a = s.rd a &&& ~~~(BitVec.ofNat 64 v &&& BitVec.ofNat 64 r.w1c) ∧ s.onlyRegs t [a]) ∧
  (∀ s a r v n host, regRow a = some r → (n = 1 ∨ n = 2 ∨ (n = 4 ∧ r.width = 64)) → (a < 0x700000 ∨ 0x708000 ≤ a) →
    exec (.regWrite a v n host) s = .next s) ∧
  (∀ s a r v host u, regRow a = some r → r.width = 32 → a % 8 = 0 → (a < 0x700000 ∨ 0x708000 ≤ a) → exec (.regWrite a v 4 host) s = .next u →
    exec (.regWrite a v 8 host) s = exec (.regWrite (a + 4) (v / 2 ^ 32) 4 host) u) ∧
  (∀ s y a v host, s.opens a → y < 64 → a ∈ [SEQ_CTL y, SEQ_ENTRY y, SEQ_RST_ENTRY y, SEQ_PROG_LEN y] → s.yIdle y = true → v < 2 ^ 32 →
    ∃ t, exec (.regWrite a v 4 host) s = .next t ∧ t.rd a = (s.rd a &&& ~~~(rwMask a)) ||| (BitVec.ofNat 64 v &&& rwMask a) ∧ s.onlyRegs t [a]) ∧
  (∀ s y i v host, s.opens (SEQ_G y i) → y < 64 → i < 32 → s.yIdle y = true ∨ s.ygst y = gPAUSED → v < 2 ^ 64 →
    ∃ t, exec (.regWrite (SEQ_G y i) v 8 host) s = .next t ∧ t.g y i = (s.rdN (SEQ_G y i) / 2 ^ 48) * 2 ^ 48 + v % 2 ^ 48 ∧ s.onlyRegs t [SEQ_G y i]) ∧
  (∀ s y a n v host, s.opens a → y < 64 → s.yIdle y = false →
      (n = 4 ∧ a ∈ [SEQ_CTL y, SEQ_ENTRY y, SEQ_RST_ENTRY y, SEQ_PROG_LEN y]) ∨ (n = 8 ∧ s.ygst y ≠ gPAUSED ∧ ∃ i, i < 32 ∧ a = SEQ_G y i) →
    ∃ t, exec (.regWrite a v n host) s = .next t ∧ t.rdN (SEQ_WDROP_CNT y) = min 0xFFFFFFFF (s.rdN (SEQ_WDROP_CNT y) + 1)
      ∧ s.onlyRegs t [SEQ_WDROP_CNT y]) ∧
  (∀ s a r v host, s.barUp = true → s.pageBusy a = true → regRow a = some r → r.width = 32 → a % 4 = 0 → (a < 0x700000 ∨ 0x708000 ≤ a) →
    ∃ t, exec (.regWrite a v 4 host) s = .next t ∧ t.rdN IMG_DROP_CNT = min 0xFFFFFFFF (s.rdN IMG_DROP_CNT + 1) ∧ s.onlyRegs t [IMG_DROP_CNT]) ∧
  (∀ s a r v host p, s.barUp = true → s.pageBusy a = false → s.sealedBy a = some p → p < 16 → regRow a = some r → r.width = 32 → a % 4 = 0 →
      a < 0x700000 ∨ (0x708000 ≤ a ∧ a < 2 ^ 40) → ∃ t, exec (.regWrite a v 4 host) s = .next t
      ∧ t.rdN SHR_SEAL_DROP_CNT = min 0xFFFFFFFF (s.rdN SHR_SEAL_DROP_CNT + 1) ∧ t.rdN SHR_DENY = a * 2 ^ 24 + p * 2 ^ 16 + E_SHR_SEALED
      ∧ s.onlyRegs t [SHR_SEAL_DROP_CNT, SHR_DENY]) ∧
  (∀ s i a v n host, s.barUp = false → i ∈ [Instr.regWrite a v n host, .regReadClear a n] → exec i s = .next s) ∧
  (∀ s a r, s.barUp = true → regRow a = some r → (r.width = 32 ∨ r.width = 64) → a % (r.width / 8) = 0 → ∃ t, exec (.regReadClear a (r.width / 8)) s = .next t
      ∧ t.bus = { s.bus with rdata := BitVec.ofNat 64 ((s.hostSees false a).toNat % 2 ^ r.width) }
      ∧ t.rd a = s.rd a &&& ~~~(BitVec.ofNat 64 r.rc) ∧ s.keeps t [a] ∧ { t with regs := s.regs, bus := s.bus } = s) ∧
  (∀ s a r n, s.barUp = true → regRow a = some r → r.width = 32 ∨ r.width = 64 → a % (r.width / 8) = 0 → (n = 1 ∨ n = 2 ∨ (n = 4 ∧ r.width = 64)) →
    ∃ t, exec (.regReadClear a n) s = .next t
      ∧ t = { s with bus := { s.bus with rdata := BitVec.ofNat 64 ((s.hostSees false a).toNat % 2 ^ (8 * n)) } }) ∧
  (∀ (s : State) (a p : Nat), s.sealedBy a = some p → s.hostSees false a = 0)

/-- The queue and the tick are the model's (log entries 2 and 3). -/
def Obligations.StepRunsTheCommandAtTheFront : Prop :=
  (∀ c cs (s : State), step { s with pending := c :: cs } = exec c { s with pending := cs }) ∧
  (∀ s, s.pending = [] → s.dev = dOFF → s.pwr.glbAt = none → step s = .next { s with clock := ⟨s.clock.now + 1, if s.tb1Run = true then s.clock.tb1 + 1 else s.clock.tb1⟩ }) ∧
  (∀ s, ∃ t, step s = .next t)

/-- The values are those of the Reset columns; where a column gives none, log entry 1 names the model's and this statement says
nothing of it. -/
def Obligations.ResetLeavesTheValuesOfTheTables : Prop :=
  State.reset.dev = dBOOT ∧ State.reset.stage = 1 ∧ State.reset.fld GLB_CLK_STS GLB_CLK_STS_FALLBACK = 1 ∧ State.reset.tb1Run = false
    ∧ State.reset.rdN REEF_PLIM = 300 ∧ State.reset.rdN FLT_IRQ = 0x20 ∧ State.reset.fld DEC_STS DEC_STS_LANES_EFF = 16
    ∧ (∀ g, g < 64 → State.reset.gst g = gIDLE) ∧ (∀ y, y < 64 → State.reset.mst y = mIDLE ∧ State.reset.rdN (HAL_MRK_PIN y) = y)
    ∧ (∀ a, State.reset.rd a = resetVal a) ∧ (∀ a, ldByte State.reset.cnv.res a = 0) ∧ State.reset.pending = []
    ∧ State.reset.regsWf = true ∧ State.reset.storesWf = true ∧ State.reset.queueWf = true

/-- The queue is the model's own (log entry 2); it is first in, first out for every command and for the passing of time. -/
def Obligations.EveryStepTakesTheQueueInOrder : Prop :=
  ∀ s t, step s = .next t → t.pending = s.pending.tail ∧ (s.queueWf = true → t.queueWf = true)

/-- The canonical form of the register file and of the stores is the model's way of holding them; the statement covers all 363
commands and the passing of time. -/
def Obligations.EveryStepKeepsRegistersAndStoresCanonical : Prop :=
  ∀ s t, s.regsWf = true → s.storesWf = true → step s = .next t → t.regsWf = true ∧ t.storesWf = true
end

