-- ==== Sys2Proof/Laws/Tab.lean ====
section
/-! SUPPORT. What the operations on sparse tables do: a read after a write, and the canonical form. -/

namespace Sys2Proof.Laws

open Sys2Proof.Machine

variable {α : Type}

theorem sget_sdel_same (d : Nat → α) (t : Tab α) (k : Nat) : sget d (sdel t k) k = d k := by
  induction t with
  | nil => rfl
  | cons p t ih =>
    obtain ⟨j, v⟩ := p
    by_cases h : j = k
    · simp [sdel, h, ih]
    · simp [sdel, sget, h, ih]

theorem sget_sdel_ne (d : Nat → α) (t : Tab α) {k i : Nat} (h : i ≠ k) :
    sget d (sdel t k) i = sget d t i := by
  induction t with
  | nil => rfl
  | cons p t ih =>
    obtain ⟨j, v⟩ := p
    by_cases hj : j = k
    · subst hj
      have : ¬ j = i := fun e => h e.symm
      simp [sdel, sget, this, ih]
    · simp [sdel, sget, hj, ih]

theorem sget_sins_same (d : Nat → α) (t : Tab α) (k : Nat) (v : α) (h : ∀ p ∈ t, p.1 ≠ k) :
    sget d (sins t k v) k = v := by
  induction t with
  | nil => simp [sins, sget]
  | cons p t ih =>
    obtain ⟨j, w⟩ := p
    by_cases hj : k < j
    · simp [sins, sget, hj]
    · have hne : j ≠ k := h (j, w) (by simp)
      simp [sins, sget, hj, hne, ih (fun p hp => h p (by simp [hp]))]

theorem sget_sins_ne (d : Nat → α) (t : Tab α) (k : Nat) (v : α) {i : Nat} (h : i ≠ k) :
    sget d (sins t k v) i = sget d t i := by
  induction t with
  | nil => simp [sins, sget, h.symm]
  | cons p t ih =>
    obtain ⟨j, w⟩ := p
    by_cases hj : k < j
    · simp [sins, sget, hj, h.symm]
    · simp [sins, sget, hj, ih]

theorem sdel_keys (t : Tab α) (k : Nat) : ∀ p ∈ sdel t k, p.1 ≠ k := by
  induction t with
  | nil => simp [sdel]
  | cons p t ih =>
    obtain ⟨j, v⟩ := p
    by_cases h : j = k
    · simpa [sdel, h] using ih
    · intro p hp
      simp only [sdel, h, if_false, List.mem_cons] at hp
      rcases hp with rfl | hp
      · exact h
      · exact ih p hp

variable [DecidableEq α]

@[simp] theorem sget_sput_same (d : Nat → α) (t : Tab α) (k : Nat) (v : α) : sget d (sput d t k v) k = v := by
  by_cases h : v = d k
  · simp [sput, h, sget_sdel_same]
  · simp [sput, h, sget_sins_same d _ k v (sdel_keys t k)]

theorem sget_sput_ne (d : Nat → α) (t : Tab α) (k : Nat) (v : α) {i : Nat} (h : i ≠ k) :
    sget d (sput d t k v) i = sget d t i := by
  by_cases hv : v = d k
  · simp [sput, hv, sget_sdel_ne d t h]
  · simp [sput, hv, sget_sins_ne d _ k v h, sget_sdel_ne d t h]

theorem sget_sput (d : Nat → α) (t : Tab α) (k i : Nat) (v : α) :
    sget d (sput d t k v) i = if i = k then v else sget d t i := by
  by_cases h : i = k
  · subst h; simp
  · simp [h, sget_sput_ne d t k v h]

theorem swfFrom_mono (d : Nat → α) (t : Tab α) {lo lo' : Nat} (h : lo ≤ lo') (hw : swfFrom d lo' t = true) :
    swfFrom d lo t = true := by
  cases t with
  | nil => rfl
  | cons p t =>
    obtain ⟨j, v⟩ := p
    simp only [swfFrom, Bool.and_eq_true, decide_eq_true_eq] at hw ⊢
    exact ⟨⟨by omega, hw.1.2⟩, hw.2⟩

theorem swfFrom_sdel (d : Nat → α) (t : Tab α) (k lo : Nat) (hw : swfFrom d lo t = true) :
    swfFrom d lo (sdel t k) = true := by
  induction t generalizing lo with
  | nil => rfl
  | cons p t ih =>
    obtain ⟨j, v⟩ := p
    simp only [swfFrom, Bool.and_eq_true, decide_eq_true_eq] at hw
    by_cases h : j = k
    · simp only [sdel, h, if_true]
      exact ih lo (swfFrom_mono d t (by omega) hw.2)
    · simp only [sdel, h, if_false, swfFrom, Bool.and_eq_true, decide_eq_true_eq]
      exact ⟨hw.1, ih _ hw.2⟩

theorem swfFrom_sins (d : Nat → α) (t : Tab α) (k lo : Nat) (v : α) (hlo : lo ≤ k) (hv : v ≠ d k)
    (hk : ∀ p ∈ t, p.1 ≠ k) (hw : swfFrom d lo t = true) : swfFrom d lo (sins t k v) = true := by
  induction t generalizing lo with
  | nil => simp [sins, swfFrom, hlo, hv]
  | cons p t ih =>
    obtain ⟨j, w⟩ := p
    simp only [swfFrom, Bool.and_eq_true, decide_eq_true_eq] at hw
    by_cases h : k < j
    · simp only [sins, h, if_true, swfFrom, Bool.and_eq_true, decide_eq_true_eq]
      exact ⟨⟨hlo, hv⟩, ⟨by omega, hw.1.2⟩, hw.2⟩
    · have hne : j ≠ k := hk (j, w) (by simp)
      simp only [sins, h, if_false, swfFrom, Bool.and_eq_true, decide_eq_true_eq]
      exact ⟨hw.1, ih _ (by omega) (fun p hp => hk p (by simp [hp])) hw.2⟩

/-- A write keeps the canonical form. -/
theorem swf_sput (d : Nat → α) (t : Tab α) (k : Nat) (v : α) (hw : swf d t = true) : swf d (sput d t k v) = true := by
  by_cases h : v = d k
  · simpa [sput, h, swf] using swfFrom_sdel d t k 0 hw
  · simpa [sput, h, swf] using
      swfFrom_sins d _ k 0 v (by omega) h (sdel_keys t k) (swfFrom_sdel d t k 0 hw)

variable [Inhabited α]

@[simp] theorem tget_tput_same (t : Tab α) (k : Nat) (v : α) : tget (tput t k v) k = v := by
  simp [tget, tput]

theorem tget_tput (t : Tab α) (k i : Nat) (v : α) : tget (tput t k v) i = if i = k then v else tget t i := by
  simp [tget, tput, sget_sput]

theorem twf_tput (t : Tab α) (k : Nat) (v : α) (hw : twf t = true) : twf (tput t k v) = true :=
  swf_sput _ t k v hw

@[simp] theorem tget_nil (k : Nat) : tget ([] : Tab α) k = default := rfl

/-- A byte written is the byte read; every other byte is unchanged. -/
theorem ldByte_stByte (m : Store) (a i : Nat) (b : BitVec 8) :
    ldByte (stByte m a b) i = if i = a then b else ldByte m i := by
  simp [ldByte, stByte, tget_tput]

/-- Bytes outside the stored region are unchanged. -/
theorem ldByte_stBytes_ne (m : Store) (a n v i : Nat) (h : i < a ∨ a + n ≤ i) :
    ldByte (stBytes m a n v) i = ldByte m i := by
  induction n generalizing m a v with
  | zero => rfl
  | succ n ih =>
    rw [stBytes, ih _ _ _ (by omega), ldByte_stByte, if_neg (by omega)]

theorem ldByte_stList_ne (m : Store) (a i : Nat) (bs : List (BitVec 8)) (h : i < a ∨ a + bs.length ≤ i) :
    ldByte (stList m a bs) i = ldByte m i := by
  induction bs generalizing m a with
  | nil => rfl
  | cons b bs ih =>
    simp only [List.length_cons] at h
    rw [stList, ih _ _ (by omega), ldByte_stByte, if_neg (by omega)]

/-- Every memory operation keeps the canonical form. -/
theorem twf_stByte (m : Store) (a : Nat) (b : BitVec 8) (hw : twf m = true) : twf (stByte m a b) = true :=
  twf_tput m a b hw

theorem twf_stBytes (m : Store) (a n v : Nat) (hw : twf m = true) : twf (stBytes m a n v) = true := by
  induction n generalizing m a v with
  | zero => exact hw
  | succ n ih => exact ih _ _ _ (twf_stByte m a _ hw)

theorem twf_stList (m : Store) (a : Nat) (bs : List (BitVec 8)) (hw : twf m = true) : twf (stList m a bs) = true := by
  induction bs generalizing m a with
  | nil => exact hw
  | cons b bs ih => exact ih _ _ (twf_stByte m a b hw)

end Sys2Proof.Laws
end

