-- ==== Sys2Proof/Laws/State.lean ====
section
/-! SUPPORT. What the operations on State read and write: fields of words, the register file, and for each operation the parts of State
that it leaves alone. -/

namespace Sys2Proof.Laws

open Sys2Proof.Machine

/-! ### Fields of a word -/

theorem lowMask_getLsbD (w i : Nat) (h : w ≤ 64) : (lowMask w).getLsbD i = decide (i < w) := by
  simp only [lowMask, BitVec.getLsbD_ofNat, Nat.testBit_two_pow_sub_one]
  by_cases hi : i < w <;> simp [hi]; omega

/-- A field just replaced reads as the number put there, cut to its width. -/
theorem getF_insF (v : Word) (f : Fld) (n : Nat) (h : f.1 + f.2 ≤ 64) : getF (insF v f n) f = n % 2 ^ f.2 := by
  obtain ⟨o, w⟩ := f
  simp only at h
  have e : (insF v (o, w) n >>> o) &&& lowMask w = BitVec.ofNat 64 n &&& lowMask w := by
    apply BitVec.eq_of_getLsbD_eq
    intro i hi
    simp only [insF, BitVec.getLsbD_and, BitVec.getLsbD_or, BitVec.getLsbD_not, BitVec.getLsbD_ushiftRight, BitVec.getLsbD_shiftLeft]
    by_cases hw : i < w
    · have h1 : o + i < 64 := by omega
      have h2 : ¬ (o + i < o) := by omega
      have h3 : o + i - o = i := by omega
      simp [lowMask_getLsbD w _ (by omega), hw, h1, h3]
    · simp [lowMask_getLsbD w _ (by omega), hw]
  have l : lowMask w = BitVec.ofNat 64 (2 ^ w - 1) := rfl
  show ((insF v (o, w) n >>> o) &&& lowMask w).toNat = n % 2 ^ w
  rw [e, l, BitVec.toNat_and, BitVec.toNat_ofNat, BitVec.toNat_ofNat]
  have hw : 2 ^ w ≤ 2 ^ 64 := Nat.pow_le_pow_right (by omega) (by omega)
  have hp : 0 < 2 ^ w := by positivity
  rw [Nat.mod_eq_of_lt (a := 2 ^ w - 1) (by omega), Nat.and_two_pow_sub_one_eq_mod,
    Nat.mod_mod_of_dvd _ (Nat.pow_dvd_pow 2 (by omega))]

/-- A field beside the one replaced keeps its value. -/
theorem getF_insF_ne (v : Word) (f g : Fld) (n : Nat) (hf : f.1 + f.2 ≤ 64) (hg : g.1 + g.2 ≤ 64)
    (h : f.1 + f.2 ≤ g.1 ∨ g.1 + g.2 ≤ f.1) : getF (insF v f n) g = getF v g := by
  obtain ⟨o, w⟩ := f
  obtain ⟨p, u⟩ := g
  simp only at hf hg h
  have e : (insF v (o, w) n >>> p) &&& lowMask u = (v >>> p) &&& lowMask u := by
    apply BitVec.eq_of_getLsbD_eq
    intro i hi
    simp only [insF, BitVec.getLsbD_and, BitVec.getLsbD_or, BitVec.getLsbD_not, BitVec.getLsbD_ushiftRight, BitVec.getLsbD_shiftLeft]
    by_cases hu : i < u
    · have h1 : p + i < 64 := by omega
      by_cases ho : p + i < o
      · simp [lowMask_getLsbD u _ (by omega), hu, h1, ho]
      · have h2 : ¬ (p + i - o < w) := by omega
        simp [lowMask_getLsbD u _ (by omega), lowMask_getLsbD w _ (by omega), hu, h1, ho, h2]
    · simp [lowMask_getLsbD u _ (by omega), hu]
  exact congrArg BitVec.toNat e

theorem getF_lt (v : Word) (f : Fld) (h : f.2 ≤ 64) : getF v f < 2 ^ f.2 := by
  have l : lowMask f.2 = BitVec.ofNat 64 (2 ^ f.2 - 1) := rfl
  have hw : 2 ^ f.2 ≤ 2 ^ 64 := Nat.pow_le_pow_right (by omega) h
  have hp : 0 < 2 ^ f.2 := by positivity
  have : getF v f ≤ 2 ^ f.2 - 1 := by
    show ((v >>> f.1) &&& lowMask f.2).toNat ≤ _
    rw [BitVec.toNat_and, l, BitVec.toNat_ofNat, Nat.mod_eq_of_lt (by omega)]
    exact Nat.and_le_right
  omega

/-! ### The register file -/

@[simp] theorem rd_wr_same (s : State) (a : Nat) (v : Word) : (s.wr a v).rd a = v := by simp [State.rd, State.wr]

theorem rd_wr (s : State) (a b : Nat) (v : Word) : (s.wr a v).rd b = if b = a then v else s.rd b := by
  simp [State.rd, State.wr, sget_sput]

theorem rd_wr_ne (s : State) (a b : Nat) (v : Word) (h : b ≠ a) : (s.wr a v).rd b = s.rd b := by simp [rd_wr, h]

theorem rd_setF_ne (s : State) (a b : Nat) (f : Fld) (n : Nat) (h : b ≠ a) : (s.setF a f n).rd b = s.rd b := rd_wr_ne s a b _ h

theorem rd_wrN_ne (s : State) (a b n : Nat) (h : b ≠ a) : (s.wrN a n).rd b = s.rd b := rd_wr_ne s a b _ h

theorem rd_inc_ne (s : State) (a b : Nat) (h : b ≠ a) : (s.inc a).rd b = s.rd b := rd_wr_ne s a b _ h

theorem rd_wrRW_ne (s : State) (a b v : Nat) (h : b ≠ a) : (s.wrRW a v).rd b = s.rd b := rd_wr_ne s a b _ h

theorem rd_status_ne (s : State) (a b c : Nat) (h : b ≠ a) : (s.status a c).rd b = s.rd b := rd_wr_ne s a b _ h

/-- A field of a register just set. -/
theorem fld_setF (s : State) (a : Nat) (f : Fld) (n : Nat) (h : f.1 + f.2 ≤ 64) : (s.setF a f n).fld a f = n % 2 ^ f.2 := by
  simp [State.fld, State.setF, getF_insF _ _ _ h]

/-- Another field of the same register. -/
theorem fld_setF_beside (s : State) (a : Nat) (f g : Fld) (n : Nat) (hf : f.1 + f.2 ≤ 64) (hg : g.1 + g.2 ≤ 64)
    (h : f.1 + f.2 ≤ g.1 ∨ g.1 + g.2 ≤ f.1) : (s.setF a f n).fld a g = s.fld a g := by
  simp [State.fld, State.setF, getF_insF_ne _ _ _ _ hf hg h]

/-- A field of another register. -/
theorem fld_setF_ne (s : State) (a b : Nat) (f g : Fld) (n : Nat) (h : b ≠ a) : (s.setF a f n).fld b g = s.fld b g := by
  simp [State.fld, rd_setF_ne _ _ _ _ _ h]

theorem fld_wr_ne (s : State) (a b : Nat) (v : Word) (g : Fld) (h : b ≠ a) : (s.wr a v).fld b g = s.fld b g := by
  simp [State.fld, rd_wr_ne _ _ _ _ h]

theorem rdN_wrN (s : State) (a n : Nat) : (s.wrN a n).rdN a = n % 2 ^ 64 := by
  simp [State.rdN, State.wrN]

/-- The register file keeps its canonical form. -/
theorem regs_wr_wf (s : State) (a : Nat) (v : Word) (h : swf resetVal s.regs = true) : swf resetVal (s.wr a v).regs = true :=
  swf_sput resetVal s.regs a v h

/-! ### Groups and Masts -/

@[simp] theorem grp_setGrp (s : State) (g h : Nat) (v : Group) : (s.setGrp g v).grp h = if h = g then v else s.grp h := by
  simp [State.grp, State.setGrp, tget_tput]

@[simp] theorem grp_modGrp (s : State) (g h : Nat) (f : Group → Group) :
    (s.modGrp g f).grp h = if h = g then f (s.grp g) else s.grp h := by
  simp [State.modGrp]

@[simp] theorem mast_setMast (s : State) (y z : Nat) (m : Mast) : (s.setMast y m).mast z = if z = y then m else s.mast z := by
  simp [State.mast, State.setMast, tget_tput]

@[simp] theorem mast_modMast (s : State) (y z : Nat) (f : Mast → Mast) :
    (s.modMast y f).mast z = if z = y then f (s.mast y) else s.mast z := by
  simp [State.modMast]

@[simp] theorem mast_setGrp (s : State) (g y : Nat) (v : Group) : (s.setGrp g v).mast y = s.mast y := rfl
@[simp] theorem mast_modGrp (s : State) (g y : Nat) (f : Group → Group) : (s.modGrp g f).mast y = s.mast y := rfl
@[simp] theorem grp_setMast (s : State) (y g : Nat) (m : Mast) : (s.setMast y m).grp g = s.grp g := rfl
@[simp] theorem grp_modMast (s : State) (y g : Nat) (f : Mast → Mast) : (s.modMast y f).grp g = s.grp g := rfl

/-! ### What an operation leaves alone -/

section wr
variable (s : State) (a : Nat) (v : Word)
@[simp] theorem wr_act : (s.wr a v).act = s.act := rfl
@[simp] theorem wr_clock : (s.wr a v).clock = s.clock := rfl
@[simp] theorem wr_bus : (s.wr a v).bus = s.bus := rfl
@[simp] theorem wr_img : (s.wr a v).img = s.img := rfl
@[simp] theorem wr_seq : (s.wr a v).seq = s.seq := rfl
@[simp] theorem wr_hal : (s.wr a v).hal = s.hal := rfl
@[simp] theorem wr_ton : (s.wr a v).ton = s.ton := rfl
@[simp] theorem wr_cnv : (s.wr a v).cnv = s.cnv := rfl
@[simp] theorem wr_dec : (s.wr a v).dec = s.dec := rfl
@[simp] theorem wr_hif : (s.wr a v).hif = s.hif := rfl
@[simp] theorem wr_wch : (s.wr a v).wch = s.wch := rfl
@[simp] theorem wr_cap : (s.wr a v).cap = s.cap := rfl
@[simp] theorem wr_stay : (s.wr a v).stay = s.stay := rfl
@[simp] theorem wr_ozl : (s.wr a v).ozl = s.ozl := rfl
@[simp] theorem wr_shr : (s.wr a v).shr = s.shr := rfl
@[simp] theorem wr_trim : (s.wr a v).trim = s.trim := rfl
@[simp] theorem wr_reef : (s.wr a v).reef = s.reef := rfl
@[simp] theorem wr_flt : (s.wr a v).flt = s.flt := rfl
@[simp] theorem wr_pwr : (s.wr a v).pwr = s.pwr := rfl
@[simp] theorem wr_rat : (s.wr a v).rat = s.rat := rfl
@[simp] theorem wr_pending : (s.wr a v).pending = s.pending := rfl
end wr

section setF
variable (s : State) (a : Nat) (f : Fld) (n : Nat)
@[simp] theorem setF_act : (s.setF a f n).act = s.act := rfl
@[simp] theorem setF_clock : (s.setF a f n).clock = s.clock := rfl
@[simp] theorem setF_bus : (s.setF a f n).bus = s.bus := rfl
@[simp] theorem setF_img : (s.setF a f n).img = s.img := rfl
@[simp] theorem setF_seq : (s.setF a f n).seq = s.seq := rfl
@[simp] theorem setF_hal : (s.setF a f n).hal = s.hal := rfl
@[simp] theorem setF_ton : (s.setF a f n).ton = s.ton := rfl
@[simp] theorem setF_cnv : (s.setF a f n).cnv = s.cnv := rfl
@[simp] theorem setF_dec : (s.setF a f n).dec = s.dec := rfl
@[simp] theorem setF_hif : (s.setF a f n).hif = s.hif := rfl
@[simp] theorem setF_wch : (s.setF a f n).wch = s.wch := rfl
@[simp] theorem setF_cap : (s.setF a f n).cap = s.cap := rfl
@[simp] theorem setF_stay : (s.setF a f n).stay = s.stay := rfl
@[simp] theorem setF_ozl : (s.setF a f n).ozl = s.ozl := rfl
@[simp] theorem setF_shr : (s.setF a f n).shr = s.shr := rfl
@[simp] theorem setF_trim : (s.setF a f n).trim = s.trim := rfl
@[simp] theorem setF_reef : (s.setF a f n).reef = s.reef := rfl
@[simp] theorem setF_flt : (s.setF a f n).flt = s.flt := rfl
@[simp] theorem setF_pwr : (s.setF a f n).pwr = s.pwr := rfl
@[simp] theorem setF_rat : (s.setF a f n).rat = s.rat := rfl
@[simp] theorem setF_pending : (s.setF a f n).pending = s.pending := rfl
end setF

section wrN
variable (s : State) (a n : Nat)
@[simp] theorem wrN_act : (s.wrN a n).act = s.act := rfl
@[simp] theorem wrN_clock : (s.wrN a n).clock = s.clock := rfl
@[simp] theorem wrN_bus : (s.wrN a n).bus = s.bus := rfl
@[simp] theorem wrN_img : (s.wrN a n).img = s.img := rfl
@[simp] theorem wrN_seq : (s.wrN a n).seq = s.seq := rfl
@[simp] theorem wrN_hal : (s.wrN a n).hal = s.hal := rfl
@[simp] theorem wrN_ton : (s.wrN a n).ton = s.ton := rfl
@[simp] theorem wrN_cnv : (s.wrN a n).cnv = s.cnv := rfl
@[simp] theorem wrN_dec : (s.wrN a n).dec = s.dec := rfl
@[simp] theorem wrN_hif : (s.wrN a n).hif = s.hif := rfl
@[simp] theorem wrN_wch : (s.wrN a n).wch = s.wch := rfl
@[simp] theorem wrN_cap : (s.wrN a n).cap = s.cap := rfl
@[simp] theorem wrN_stay : (s.wrN a n).stay = s.stay := rfl
@[simp] theorem wrN_ozl : (s.wrN a n).ozl = s.ozl := rfl
@[simp] theorem wrN_shr : (s.wrN a n).shr = s.shr := rfl
@[simp] theorem wrN_trim : (s.wrN a n).trim = s.trim := rfl
@[simp] theorem wrN_reef : (s.wrN a n).reef = s.reef := rfl
@[simp] theorem wrN_flt : (s.wrN a n).flt = s.flt := rfl
@[simp] theorem wrN_pwr : (s.wrN a n).pwr = s.pwr := rfl
@[simp] theorem wrN_rat : (s.wrN a n).rat = s.rat := rfl
@[simp] theorem wrN_pending : (s.wrN a n).pending = s.pending := rfl
end wrN

section wrRW
variable (s : State) (a v : Nat)
@[simp] theorem wrRW_act : (s.wrRW a v).act = s.act := rfl
@[simp] theorem wrRW_clock : (s.wrRW a v).clock = s.clock := rfl
@[simp] theorem wrRW_bus : (s.wrRW a v).bus = s.bus := rfl
@[simp] theorem wrRW_img : (s.wrRW a v).img = s.img := rfl
@[simp] theorem wrRW_seq : (s.wrRW a v).seq = s.seq := rfl
@[simp] theorem wrRW_hal : (s.wrRW a v).hal = s.hal := rfl
@[simp] theorem wrRW_ton : (s.wrRW a v).ton = s.ton := rfl
@[simp] theorem wrRW_cnv : (s.wrRW a v).cnv = s.cnv := rfl
@[simp] theorem wrRW_dec : (s.wrRW a v).dec = s.dec := rfl
@[simp] theorem wrRW_hif : (s.wrRW a v).hif = s.hif := rfl
@[simp] theorem wrRW_wch : (s.wrRW a v).wch = s.wch := rfl
@[simp] theorem wrRW_cap : (s.wrRW a v).cap = s.cap := rfl
@[simp] theorem wrRW_stay : (s.wrRW a v).stay = s.stay := rfl
@[simp] theorem wrRW_ozl : (s.wrRW a v).ozl = s.ozl := rfl
@[simp] theorem wrRW_shr : (s.wrRW a v).shr = s.shr := rfl
@[simp] theorem wrRW_trim : (s.wrRW a v).trim = s.trim := rfl
@[simp] theorem wrRW_reef : (s.wrRW a v).reef = s.reef := rfl
@[simp] theorem wrRW_flt : (s.wrRW a v).flt = s.flt := rfl
@[simp] theorem wrRW_pwr : (s.wrRW a v).pwr = s.pwr := rfl
@[simp] theorem wrRW_rat : (s.wrRW a v).rat = s.rat := rfl
@[simp] theorem wrRW_pending : (s.wrRW a v).pending = s.pending := rfl
end wrRW

section inc
variable (s : State) (a : Nat)
@[simp] theorem inc_act : (s.inc a).act = s.act := rfl
@[simp] theorem inc_clock : (s.inc a).clock = s.clock := rfl
@[simp] theorem inc_bus : (s.inc a).bus = s.bus := rfl
@[simp] theorem inc_img : (s.inc a).img = s.img := rfl
@[simp] theorem inc_seq : (s.inc a).seq = s.seq := rfl
@[simp] theorem inc_hal : (s.inc a).hal = s.hal := rfl
@[simp] theorem inc_ton : (s.inc a).ton = s.ton := rfl
@[simp] theorem inc_cnv : (s.inc a).cnv = s.cnv := rfl
@[simp] theorem inc_dec : (s.inc a).dec = s.dec := rfl
@[simp] theorem inc_hif : (s.inc a).hif = s.hif := rfl
@[simp] theorem inc_wch : (s.inc a).wch = s.wch := rfl
@[simp] theorem inc_cap : (s.inc a).cap = s.cap := rfl
@[simp] theorem inc_stay : (s.inc a).stay = s.stay := rfl
@[simp] theorem inc_ozl : (s.inc a).ozl = s.ozl := rfl
@[simp] theorem inc_shr : (s.inc a).shr = s.shr := rfl
@[simp] theorem inc_trim : (s.inc a).trim = s.trim := rfl
@[simp] theorem inc_reef : (s.inc a).reef = s.reef := rfl
@[simp] theorem inc_flt : (s.inc a).flt = s.flt := rfl
@[simp] theorem inc_pwr : (s.inc a).pwr = s.pwr := rfl
@[simp] theorem inc_rat : (s.inc a).rat = s.rat := rfl
@[simp] theorem inc_pending : (s.inc a).pending = s.pending := rfl
end inc

section incBy
variable (s : State) (a n : Nat)
@[simp] theorem incBy_act : (s.incBy a n).act = s.act := rfl
@[simp] theorem incBy_clock : (s.incBy a n).clock = s.clock := rfl
@[simp] theorem incBy_bus : (s.incBy a n).bus = s.bus := rfl
@[simp] theorem incBy_img : (s.incBy a n).img = s.img := rfl
@[simp] theorem incBy_seq : (s.incBy a n).seq = s.seq := rfl
@[simp] theorem incBy_hal : (s.incBy a n).hal = s.hal := rfl
@[simp] theorem incBy_ton : (s.incBy a n).ton = s.ton := rfl
@[simp] theorem incBy_cnv : (s.incBy a n).cnv = s.cnv := rfl
@[simp] theorem incBy_dec : (s.incBy a n).dec = s.dec := rfl
@[simp] theorem incBy_hif : (s.incBy a n).hif = s.hif := rfl
@[simp] theorem incBy_wch : (s.incBy a n).wch = s.wch := rfl
@[simp] theorem incBy_cap : (s.incBy a n).cap = s.cap := rfl
@[simp] theorem incBy_stay : (s.incBy a n).stay = s.stay := rfl
@[simp] theorem incBy_ozl : (s.incBy a n).ozl = s.ozl := rfl
@[simp] theorem incBy_shr : (s.incBy a n).shr = s.shr := rfl
@[simp] theorem incBy_trim : (s.incBy a n).trim = s.trim := rfl
@[simp] theorem incBy_reef : (s.incBy a n).reef = s.reef := rfl
@[simp] theorem incBy_flt : (s.incBy a n).flt = s.flt := rfl
@[simp] theorem incBy_pwr : (s.incBy a n).pwr = s.pwr := rfl
@[simp] theorem incBy_rat : (s.incBy a n).rat = s.rat := rfl
@[simp] theorem incBy_pending : (s.incBy a n).pending = s.pending := rfl
end incBy

section incF
variable (s : State) (a : Nat) (f : Fld)
@[simp] theorem incF_act : (s.incF a f).act = s.act := rfl
@[simp] theorem incF_clock : (s.incF a f).clock = s.clock := rfl
@[simp] theorem incF_bus : (s.incF a f).bus = s.bus := rfl
@[simp] theorem incF_img : (s.incF a f).img = s.img := rfl
@[simp] theorem incF_seq : (s.incF a f).seq = s.seq := rfl
@[simp] theorem incF_hal : (s.incF a f).hal = s.hal := rfl
@[simp] theorem incF_ton : (s.incF a f).ton = s.ton := rfl
@[simp] theorem incF_cnv : (s.incF a f).cnv = s.cnv := rfl
@[simp] theorem incF_dec : (s.incF a f).dec = s.dec := rfl
@[simp] theorem incF_hif : (s.incF a f).hif = s.hif := rfl
@[simp] theorem incF_wch : (s.incF a f).wch = s.wch := rfl
@[simp] theorem incF_cap : (s.incF a f).cap = s.cap := rfl
@[simp] theorem incF_stay : (s.incF a f).stay = s.stay := rfl
@[simp] theorem incF_ozl : (s.incF a f).ozl = s.ozl := rfl
@[simp] theorem incF_shr : (s.incF a f).shr = s.shr := rfl
@[simp] theorem incF_trim : (s.incF a f).trim = s.trim := rfl
@[simp] theorem incF_reef : (s.incF a f).reef = s.reef := rfl
@[simp] theorem incF_flt : (s.incF a f).flt = s.flt := rfl
@[simp] theorem incF_pwr : (s.incF a f).pwr = s.pwr := rfl
@[simp] theorem incF_rat : (s.incF a f).rat = s.rat := rfl
@[simp] theorem incF_pending : (s.incF a f).pending = s.pending := rfl
end incF

section status
variable (s : State) (a c : Nat)
@[simp] theorem status_act : (s.status a c).act = s.act := rfl
@[simp] theorem status_clock : (s.status a c).clock = s.clock := rfl
@[simp] theorem status_bus : (s.status a c).bus = s.bus := rfl
@[simp] theorem status_img : (s.status a c).img = s.img := rfl
@[simp] theorem status_seq : (s.status a c).seq = s.seq := rfl
@[simp] theorem status_hal : (s.status a c).hal = s.hal := rfl
@[simp] theorem status_ton : (s.status a c).ton = s.ton := rfl
@[simp] theorem status_cnv : (s.status a c).cnv = s.cnv := rfl
@[simp] theorem status_dec : (s.status a c).dec = s.dec := rfl
@[simp] theorem status_hif : (s.status a c).hif = s.hif := rfl
@[simp] theorem status_wch : (s.status a c).wch = s.wch := rfl
@[simp] theorem status_cap : (s.status a c).cap = s.cap := rfl
@[simp] theorem status_stay : (s.status a c).stay = s.stay := rfl
@[simp] theorem status_ozl : (s.status a c).ozl = s.ozl := rfl
@[simp] theorem status_shr : (s.status a c).shr = s.shr := rfl
@[simp] theorem status_trim : (s.status a c).trim = s.trim := rfl
@[simp] theorem status_reef : (s.status a c).reef = s.reef := rfl
@[simp] theorem status_flt : (s.status a c).flt = s.flt := rfl
@[simp] theorem status_pwr : (s.status a c).pwr = s.pwr := rfl
@[simp] theorem status_rat : (s.status a c).rat = s.rat := rfl
@[simp] theorem status_pending : (s.status a c).pending = s.pending := rfl
end status

section actWr
variable (s : State) (a : Nat) (v : Word)
@[simp] theorem actWr_regs : (s.actWr a v).regs = s.regs := rfl
@[simp] theorem actWr_clock : (s.actWr a v).clock = s.clock := rfl
@[simp] theorem actWr_bus : (s.actWr a v).bus = s.bus := rfl
@[simp] theorem actWr_img : (s.actWr a v).img = s.img := rfl
@[simp] theorem actWr_seq : (s.actWr a v).seq = s.seq := rfl
@[simp] theorem actWr_hal : (s.actWr a v).hal = s.hal := rfl
@[simp] theorem actWr_ton : (s.actWr a v).ton = s.ton := rfl
@[simp] theorem actWr_cnv : (s.actWr a v).cnv = s.cnv := rfl
@[simp] theorem actWr_dec : (s.actWr a v).dec = s.dec := rfl
@[simp] theorem actWr_hif : (s.actWr a v).hif = s.hif := rfl
@[simp] theorem actWr_wch : (s.actWr a v).wch = s.wch := rfl
@[simp] theorem actWr_cap : (s.actWr a v).cap = s.cap := rfl
@[simp] theorem actWr_stay : (s.actWr a v).stay = s.stay := rfl
@[simp] theorem actWr_ozl : (s.actWr a v).ozl = s.ozl := rfl
@[simp] theorem actWr_shr : (s.actWr a v).shr = s.shr := rfl
@[simp] theorem actWr_trim : (s.actWr a v).trim = s.trim := rfl
@[simp] theorem actWr_reef : (s.actWr a v).reef = s.reef := rfl
@[simp] theorem actWr_flt : (s.actWr a v).flt = s.flt := rfl
@[simp] theorem actWr_pwr : (s.actWr a v).pwr = s.pwr := rfl
@[simp] theorem actWr_rat : (s.actWr a v).rat = s.rat := rfl
@[simp] theorem actWr_pending : (s.actWr a v).pending = s.pending := rfl
@[simp] theorem actWr_rd (b : Nat) : (s.actWr a v).rd b = s.rd b := rfl
end actWr

section report
variable (s : State) (c x i : Nat)
@[simp] theorem report_regs : (s.report c x i).regs = s.regs := rfl
@[simp] theorem report_act : (s.report c x i).act = s.act := rfl
@[simp] theorem report_clock : (s.report c x i).clock = s.clock := rfl
@[simp] theorem report_img : (s.report c x i).img = s.img := rfl
@[simp] theorem report_seq : (s.report c x i).seq = s.seq := rfl
@[simp] theorem report_hal : (s.report c x i).hal = s.hal := rfl
@[simp] theorem report_ton : (s.report c x i).ton = s.ton := rfl
@[simp] theorem report_cnv : (s.report c x i).cnv = s.cnv := rfl
@[simp] theorem report_dec : (s.report c x i).dec = s.dec := rfl
@[simp] theorem report_hif : (s.report c x i).hif = s.hif := rfl
@[simp] theorem report_wch : (s.report c x i).wch = s.wch := rfl
@[simp] theorem report_cap : (s.report c x i).cap = s.cap := rfl
@[simp] theorem report_stay : (s.report c x i).stay = s.stay := rfl
@[simp] theorem report_ozl : (s.report c x i).ozl = s.ozl := rfl
@[simp] theorem report_shr : (s.report c x i).shr = s.shr := rfl
@[simp] theorem report_trim : (s.report c x i).trim = s.trim := rfl
@[simp] theorem report_reef : (s.report c x i).reef = s.reef := rfl
@[simp] theorem report_flt : (s.report c x i).flt = s.flt := rfl
@[simp] theorem report_pwr : (s.report c x i).pwr = s.pwr := rfl
@[simp] theorem report_rat : (s.report c x i).rat = s.rat := rfl
@[simp] theorem report_pending : (s.report c x i).pending = s.pending := rfl
@[simp] theorem report_rd (b : Nat) : (s.report c x i).rd b = s.rd b := rfl
end report

section reportProg
variable (s : State) (c x i : Nat)
@[simp] theorem reportProg_regs : (s.reportProg c x i).regs = s.regs := rfl
@[simp] theorem reportProg_act : (s.reportProg c x i).act = s.act := rfl
@[simp] theorem reportProg_clock : (s.reportProg c x i).clock = s.clock := rfl
@[simp] theorem reportProg_img : (s.reportProg c x i).img = s.img := rfl
@[simp] theorem reportProg_seq : (s.reportProg c x i).seq = s.seq := rfl
@[simp] theorem reportProg_hal : (s.reportProg c x i).hal = s.hal := rfl
@[simp] theorem reportProg_ton : (s.reportProg c x i).ton = s.ton := rfl
@[simp] theorem reportProg_cnv : (s.reportProg c x i).cnv = s.cnv := rfl
@[simp] theorem reportProg_dec : (s.reportProg c x i).dec = s.dec := rfl
@[simp] theorem reportProg_hif : (s.reportProg c x i).hif = s.hif := rfl
@[simp] theorem reportProg_wch : (s.reportProg c x i).wch = s.wch := rfl
@[simp] theorem reportProg_cap : (s.reportProg c x i).cap = s.cap := rfl
@[simp] theorem reportProg_stay : (s.reportProg c x i).stay = s.stay := rfl
@[simp] theorem reportProg_ozl : (s.reportProg c x i).ozl = s.ozl := rfl
@[simp] theorem reportProg_shr : (s.reportProg c x i).shr = s.shr := rfl
@[simp] theorem reportProg_trim : (s.reportProg c x i).trim = s.trim := rfl
@[simp] theorem reportProg_reef : (s.reportProg c x i).reef = s.reef := rfl
@[simp] theorem reportProg_flt : (s.reportProg c x i).flt = s.flt := rfl
@[simp] theorem reportProg_pwr : (s.reportProg c x i).pwr = s.pwr := rfl
@[simp] theorem reportProg_rat : (s.reportProg c x i).rat = s.rat := rfl
@[simp] theorem reportProg_pending : (s.reportProg c x i).pending = s.pending := rfl
@[simp] theorem reportProg_rd (b : Nat) : (s.reportProg c x i).rd b = s.rd b := rfl
end reportProg

section nextFree
variable (s : State)
@[simp] theorem nextFree_regs : (s.nextFree).regs = s.regs := rfl
@[simp] theorem nextFree_act : (s.nextFree).act = s.act := rfl
@[simp] theorem nextFree_clock : (s.nextFree).clock = s.clock := rfl
@[simp] theorem nextFree_img : (s.nextFree).img = s.img := rfl
@[simp] theorem nextFree_seq : (s.nextFree).seq = s.seq := rfl
@[simp] theorem nextFree_hal : (s.nextFree).hal = s.hal := rfl
@[simp] theorem nextFree_ton : (s.nextFree).ton = s.ton := rfl
@[simp] theorem nextFree_cnv : (s.nextFree).cnv = s.cnv := rfl
@[simp] theorem nextFree_dec : (s.nextFree).dec = s.dec := rfl
@[simp] theorem nextFree_hif : (s.nextFree).hif = s.hif := rfl
@[simp] theorem nextFree_wch : (s.nextFree).wch = s.wch := rfl
@[simp] theorem nextFree_cap : (s.nextFree).cap = s.cap := rfl
@[simp] theorem nextFree_stay : (s.nextFree).stay = s.stay := rfl
@[simp] theorem nextFree_ozl : (s.nextFree).ozl = s.ozl := rfl
@[simp] theorem nextFree_shr : (s.nextFree).shr = s.shr := rfl
@[simp] theorem nextFree_trim : (s.nextFree).trim = s.trim := rfl
@[simp] theorem nextFree_reef : (s.nextFree).reef = s.reef := rfl
@[simp] theorem nextFree_flt : (s.nextFree).flt = s.flt := rfl
@[simp] theorem nextFree_pwr : (s.nextFree).pwr = s.pwr := rfl
@[simp] theorem nextFree_rat : (s.nextFree).rat = s.rat := rfl
@[simp] theorem nextFree_pending : (s.nextFree).pending = s.pending := rfl
@[simp] theorem nextFree_rd (b : Nat) : (s.nextFree).rd b = s.rd b := rfl
end nextFree

section hold
variable (s : State) (i : Item)
@[simp] theorem hold_regs : (s.hold i).regs = s.regs := rfl
@[simp] theorem hold_act : (s.hold i).act = s.act := rfl
@[simp] theorem hold_clock : (s.hold i).clock = s.clock := rfl
@[simp] theorem hold_img : (s.hold i).img = s.img := rfl
@[simp] theorem hold_seq : (s.hold i).seq = s.seq := rfl
@[simp] theorem hold_hal : (s.hold i).hal = s.hal := rfl
@[simp] theorem hold_ton : (s.hold i).ton = s.ton := rfl
@[simp] theorem hold_cnv : (s.hold i).cnv = s.cnv := rfl
@[simp] theorem hold_dec : (s.hold i).dec = s.dec := rfl
@[simp] theorem hold_hif : (s.hold i).hif = s.hif := rfl
@[simp] theorem hold_wch : (s.hold i).wch = s.wch := rfl
@[simp] theorem hold_cap : (s.hold i).cap = s.cap := rfl
@[simp] theorem hold_stay : (s.hold i).stay = s.stay := rfl
@[simp] theorem hold_ozl : (s.hold i).ozl = s.ozl := rfl
@[simp] theorem hold_shr : (s.hold i).shr = s.shr := rfl
@[simp] theorem hold_trim : (s.hold i).trim = s.trim := rfl
@[simp] theorem hold_reef : (s.hold i).reef = s.reef := rfl
@[simp] theorem hold_flt : (s.hold i).flt = s.flt := rfl
@[simp] theorem hold_pwr : (s.hold i).pwr = s.pwr := rfl
@[simp] theorem hold_rat : (s.hold i).rat = s.rat := rfl
@[simp] theorem hold_pending : (s.hold i).pending = s.pending := rfl
@[simp] theorem hold_rd (b : Nat) : (s.hold i).rd b = s.rd b := rfl
end hold

section send
variable (s : State) (i : Item)
@[simp] theorem send_regs : (s.send i).regs = s.regs := rfl
@[simp] theorem send_act : (s.send i).act = s.act := rfl
@[simp] theorem send_clock : (s.send i).clock = s.clock := rfl
@[simp] theorem send_img : (s.send i).img = s.img := rfl
@[simp] theorem send_seq : (s.send i).seq = s.seq := rfl
@[simp] theorem send_hal : (s.send i).hal = s.hal := rfl
@[simp] theorem send_ton : (s.send i).ton = s.ton := rfl
@[simp] theorem send_cnv : (s.send i).cnv = s.cnv := rfl
@[simp] theorem send_dec : (s.send i).dec = s.dec := rfl
@[simp] theorem send_hif : (s.send i).hif = s.hif := rfl
@[simp] theorem send_wch : (s.send i).wch = s.wch := rfl
@[simp] theorem send_cap : (s.send i).cap = s.cap := rfl
@[simp] theorem send_stay : (s.send i).stay = s.stay := rfl
@[simp] theorem send_ozl : (s.send i).ozl = s.ozl := rfl
@[simp] theorem send_shr : (s.send i).shr = s.shr := rfl
@[simp] theorem send_trim : (s.send i).trim = s.trim := rfl
@[simp] theorem send_reef : (s.send i).reef = s.reef := rfl
@[simp] theorem send_flt : (s.send i).flt = s.flt := rfl
@[simp] theorem send_pwr : (s.send i).pwr = s.pwr := rfl
@[simp] theorem send_rat : (s.send i).rat = s.rat := rfl
@[simp] theorem send_pending : (s.send i).pending = s.pending := rfl
@[simp] theorem send_rd (b : Nat) : (s.send i).rd b = s.rd b := rfl
end send

section keepHeld
variable (s : State) (p : Item → Bool)
@[simp] theorem keepHeld_regs : (s.keepHeld p).regs = s.regs := rfl
@[simp] theorem keepHeld_act : (s.keepHeld p).act = s.act := rfl
@[simp] theorem keepHeld_clock : (s.keepHeld p).clock = s.clock := rfl
@[simp] theorem keepHeld_img : (s.keepHeld p).img = s.img := rfl
@[simp] theorem keepHeld_seq : (s.keepHeld p).seq = s.seq := rfl
@[simp] theorem keepHeld_hal : (s.keepHeld p).hal = s.hal := rfl
@[simp] theorem keepHeld_ton : (s.keepHeld p).ton = s.ton := rfl
@[simp] theorem keepHeld_cnv : (s.keepHeld p).cnv = s.cnv := rfl
@[simp] theorem keepHeld_dec : (s.keepHeld p).dec = s.dec := rfl
@[simp] theorem keepHeld_hif : (s.keepHeld p).hif = s.hif := rfl
@[simp] theorem keepHeld_wch : (s.keepHeld p).wch = s.wch := rfl
@[simp] theorem keepHeld_cap : (s.keepHeld p).cap = s.cap := rfl
@[simp] theorem keepHeld_stay : (s.keepHeld p).stay = s.stay := rfl
@[simp] theorem keepHeld_ozl : (s.keepHeld p).ozl = s.ozl := rfl
@[simp] theorem keepHeld_shr : (s.keepHeld p).shr = s.shr := rfl
@[simp] theorem keepHeld_trim : (s.keepHeld p).trim = s.trim := rfl
@[simp] theorem keepHeld_reef : (s.keepHeld p).reef = s.reef := rfl
@[simp] theorem keepHeld_flt : (s.keepHeld p).flt = s.flt := rfl
@[simp] theorem keepHeld_pwr : (s.keepHeld p).pwr = s.pwr := rfl
@[simp] theorem keepHeld_rat : (s.keepHeld p).rat = s.rat := rfl
@[simp] theorem keepHeld_pending : (s.keepHeld p).pending = s.pending := rfl
@[simp] theorem keepHeld_rd (b : Nat) : (s.keepHeld p).rd b = s.rd b := rfl
end keepHeld

section keepTransit
variable (s : State) (p : Item → Bool)
@[simp] theorem keepTransit_regs : (s.keepTransit p).regs = s.regs := rfl
@[simp] theorem keepTransit_act : (s.keepTransit p).act = s.act := rfl
@[simp] theorem keepTransit_clock : (s.keepTransit p).clock = s.clock := rfl
@[simp] theorem keepTransit_img : (s.keepTransit p).img = s.img := rfl
@[simp] theorem keepTransit_seq : (s.keepTransit p).seq = s.seq := rfl
@[simp] theorem keepTransit_hal : (s.keepTransit p).hal = s.hal := rfl
@[simp] theorem keepTransit_ton : (s.keepTransit p).ton = s.ton := rfl
@[simp] theorem keepTransit_cnv : (s.keepTransit p).cnv = s.cnv := rfl
@[simp] theorem keepTransit_dec : (s.keepTransit p).dec = s.dec := rfl
@[simp] theorem keepTransit_hif : (s.keepTransit p).hif = s.hif := rfl
@[simp] theorem keepTransit_wch : (s.keepTransit p).wch = s.wch := rfl
@[simp] theorem keepTransit_cap : (s.keepTransit p).cap = s.cap := rfl
@[simp] theorem keepTransit_stay : (s.keepTransit p).stay = s.stay := rfl
@[simp] theorem keepTransit_ozl : (s.keepTransit p).ozl = s.ozl := rfl
@[simp] theorem keepTransit_shr : (s.keepTransit p).shr = s.shr := rfl
@[simp] theorem keepTransit_trim : (s.keepTransit p).trim = s.trim := rfl
@[simp] theorem keepTransit_reef : (s.keepTransit p).reef = s.reef := rfl
@[simp] theorem keepTransit_flt : (s.keepTransit p).flt = s.flt := rfl
@[simp] theorem keepTransit_pwr : (s.keepTransit p).pwr = s.pwr := rfl
@[simp] theorem keepTransit_rat : (s.keepTransit p).rat = s.rat := rfl
@[simp] theorem keepTransit_pending : (s.keepTransit p).pending = s.pending := rfl
@[simp] theorem keepTransit_rd (b : Nat) : (s.keepTransit p).rd b = s.rd b := rfl
end keepTransit

section emitRec
variable (s : State) (r : Rec)
@[simp] theorem emitRec_regs : (s.emitRec r).regs = s.regs := rfl
@[simp] theorem emitRec_act : (s.emitRec r).act = s.act := rfl
@[simp] theorem emitRec_clock : (s.emitRec r).clock = s.clock := rfl
@[simp] theorem emitRec_img : (s.emitRec r).img = s.img := rfl
@[simp] theorem emitRec_seq : (s.emitRec r).seq = s.seq := rfl
@[simp] theorem emitRec_hal : (s.emitRec r).hal = s.hal := rfl
@[simp] theorem emitRec_ton : (s.emitRec r).ton = s.ton := rfl
@[simp] theorem emitRec_cnv : (s.emitRec r).cnv = s.cnv := rfl
@[simp] theorem emitRec_dec : (s.emitRec r).dec = s.dec := rfl
@[simp] theorem emitRec_hif : (s.emitRec r).hif = s.hif := rfl
@[simp] theorem emitRec_wch : (s.emitRec r).wch = s.wch := rfl
@[simp] theorem emitRec_cap : (s.emitRec r).cap = s.cap := rfl
@[simp] theorem emitRec_stay : (s.emitRec r).stay = s.stay := rfl
@[simp] theorem emitRec_ozl : (s.emitRec r).ozl = s.ozl := rfl
@[simp] theorem emitRec_shr : (s.emitRec r).shr = s.shr := rfl
@[simp] theorem emitRec_trim : (s.emitRec r).trim = s.trim := rfl
@[simp] theorem emitRec_reef : (s.emitRec r).reef = s.reef := rfl
@[simp] theorem emitRec_flt : (s.emitRec r).flt = s.flt := rfl
@[simp] theorem emitRec_pwr : (s.emitRec r).pwr = s.pwr := rfl
@[simp] theorem emitRec_rat : (s.emitRec r).rat = s.rat := rfl
@[simp] theorem emitRec_pending : (s.emitRec r).pending = s.pending := rfl
@[simp] theorem emitRec_rd (b : Nat) : (s.emitRec r).rd b = s.rd b := rfl
end emitRec

section setGrp
variable (s : State) (g : Nat) (v : Group)
@[simp] theorem setGrp_regs : (s.setGrp g v).regs = s.regs := rfl
@[simp] theorem setGrp_act : (s.setGrp g v).act = s.act := rfl
@[simp] theorem setGrp_clock : (s.setGrp g v).clock = s.clock := rfl
@[simp] theorem setGrp_bus : (s.setGrp g v).bus = s.bus := rfl
@[simp] theorem setGrp_img : (s.setGrp g v).img = s.img := rfl
@[simp] theorem setGrp_hal : (s.setGrp g v).hal = s.hal := rfl
@[simp] theorem setGrp_ton : (s.setGrp g v).ton = s.ton := rfl
@[simp] theorem setGrp_cnv : (s.setGrp g v).cnv = s.cnv := rfl
@[simp] theorem setGrp_dec : (s.setGrp g v).dec = s.dec := rfl
@[simp] theorem setGrp_hif : (s.setGrp g v).hif = s.hif := rfl
@[simp] theorem setGrp_wch : (s.setGrp g v).wch = s.wch := rfl
@[simp] theorem setGrp_cap : (s.setGrp g v).cap = s.cap := rfl
@[simp] theorem setGrp_stay : (s.setGrp g v).stay = s.stay := rfl
@[simp] theorem setGrp_ozl : (s.setGrp g v).ozl = s.ozl := rfl
@[simp] theorem setGrp_shr : (s.setGrp g v).shr = s.shr := rfl
@[simp] theorem setGrp_trim : (s.setGrp g v).trim = s.trim := rfl
@[simp] theorem setGrp_reef : (s.setGrp g v).reef = s.reef := rfl
@[simp] theorem setGrp_flt : (s.setGrp g v).flt = s.flt := rfl
@[simp] theorem setGrp_pwr : (s.setGrp g v).pwr = s.pwr := rfl
@[simp] theorem setGrp_rat : (s.setGrp g v).rat = s.rat := rfl
@[simp] theorem setGrp_pending : (s.setGrp g v).pending = s.pending := rfl
@[simp] theorem setGrp_rd (b : Nat) : (s.setGrp g v).rd b = s.rd b := rfl
end setGrp

section modGrp
variable (s : State) (g : Nat) (h : Group → Group)
@[simp] theorem modGrp_regs : (s.modGrp g h).regs = s.regs := rfl
@[simp] theorem modGrp_act : (s.modGrp g h).act = s.act := rfl
@[simp] theorem modGrp_clock : (s.modGrp g h).clock = s.clock := rfl
@[simp] theorem modGrp_bus : (s.modGrp g h).bus = s.bus := rfl
@[simp] theorem modGrp_img : (s.modGrp g h).img = s.img := rfl
@[simp] theorem modGrp_hal : (s.modGrp g h).hal = s.hal := rfl
@[simp] theorem modGrp_ton : (s.modGrp g h).ton = s.ton := rfl
@[simp] theorem modGrp_cnv : (s.modGrp g h).cnv = s.cnv := rfl
@[simp] theorem modGrp_dec : (s.modGrp g h).dec = s.dec := rfl
@[simp] theorem modGrp_hif : (s.modGrp g h).hif = s.hif := rfl
@[simp] theorem modGrp_wch : (s.modGrp g h).wch = s.wch := rfl
@[simp] theorem modGrp_cap : (s.modGrp g h).cap = s.cap := rfl
@[simp] theorem modGrp_stay : (s.modGrp g h).stay = s.stay := rfl
@[simp] theorem modGrp_ozl : (s.modGrp g h).ozl = s.ozl := rfl
@[simp] theorem modGrp_shr : (s.modGrp g h).shr = s.shr := rfl
@[simp] theorem modGrp_trim : (s.modGrp g h).trim = s.trim := rfl
@[simp] theorem modGrp_reef : (s.modGrp g h).reef = s.reef := rfl
@[simp] theorem modGrp_flt : (s.modGrp g h).flt = s.flt := rfl
@[simp] theorem modGrp_pwr : (s.modGrp g h).pwr = s.pwr := rfl
@[simp] theorem modGrp_rat : (s.modGrp g h).rat = s.rat := rfl
@[simp] theorem modGrp_pending : (s.modGrp g h).pending = s.pending := rfl
@[simp] theorem modGrp_rd (b : Nat) : (s.modGrp g h).rd b = s.rd b := rfl
end modGrp

section setMast
variable (s : State) (y : Nat) (m : Mast)
@[simp] theorem setMast_regs : (s.setMast y m).regs = s.regs := rfl
@[simp] theorem setMast_act : (s.setMast y m).act = s.act := rfl
@[simp] theorem setMast_clock : (s.setMast y m).clock = s.clock := rfl
@[simp] theorem setMast_bus : (s.setMast y m).bus = s.bus := rfl
@[simp] theorem setMast_img : (s.setMast y m).img = s.img := rfl
@[simp] theorem setMast_hal : (s.setMast y m).hal = s.hal := rfl
@[simp] theorem setMast_ton : (s.setMast y m).ton = s.ton := rfl
@[simp] theorem setMast_cnv : (s.setMast y m).cnv = s.cnv := rfl
@[simp] theorem setMast_dec : (s.setMast y m).dec = s.dec := rfl
@[simp] theorem setMast_hif : (s.setMast y m).hif = s.hif := rfl
@[simp] theorem setMast_wch : (s.setMast y m).wch = s.wch := rfl
@[simp] theorem setMast_cap : (s.setMast y m).cap = s.cap := rfl
@[simp] theorem setMast_stay : (s.setMast y m).stay = s.stay := rfl
@[simp] theorem setMast_ozl : (s.setMast y m).ozl = s.ozl := rfl
@[simp] theorem setMast_shr : (s.setMast y m).shr = s.shr := rfl
@[simp] theorem setMast_trim : (s.setMast y m).trim = s.trim := rfl
@[simp] theorem setMast_reef : (s.setMast y m).reef = s.reef := rfl
@[simp] theorem setMast_flt : (s.setMast y m).flt = s.flt := rfl
@[simp] theorem setMast_pwr : (s.setMast y m).pwr = s.pwr := rfl
@[simp] theorem setMast_rat : (s.setMast y m).rat = s.rat := rfl
@[simp] theorem setMast_pending : (s.setMast y m).pending = s.pending := rfl
@[simp] theorem setMast_rd (b : Nat) : (s.setMast y m).rd b = s.rd b := rfl
end setMast

section modMast
variable (s : State) (y : Nat) (h : Mast → Mast)
@[simp] theorem modMast_regs : (s.modMast y h).regs = s.regs := rfl
@[simp] theorem modMast_act : (s.modMast y h).act = s.act := rfl
@[simp] theorem modMast_clock : (s.modMast y h).clock = s.clock := rfl
@[simp] theorem modMast_bus : (s.modMast y h).bus = s.bus := rfl
@[simp] theorem modMast_img : (s.modMast y h).img = s.img := rfl
@[simp] theorem modMast_hal : (s.modMast y h).hal = s.hal := rfl
@[simp] theorem modMast_ton : (s.modMast y h).ton = s.ton := rfl
@[simp] theorem modMast_cnv : (s.modMast y h).cnv = s.cnv := rfl
@[simp] theorem modMast_dec : (s.modMast y h).dec = s.dec := rfl
@[simp] theorem modMast_hif : (s.modMast y h).hif = s.hif := rfl
@[simp] theorem modMast_wch : (s.modMast y h).wch = s.wch := rfl
@[simp] theorem modMast_cap : (s.modMast y h).cap = s.cap := rfl
@[simp] theorem modMast_stay : (s.modMast y h).stay = s.stay := rfl
@[simp] theorem modMast_ozl : (s.modMast y h).ozl = s.ozl := rfl
@[simp] theorem modMast_shr : (s.modMast y h).shr = s.shr := rfl
@[simp] theorem modMast_trim : (s.modMast y h).trim = s.trim := rfl
@[simp] theorem modMast_reef : (s.modMast y h).reef = s.reef := rfl
@[simp] theorem modMast_flt : (s.modMast y h).flt = s.flt := rfl
@[simp] theorem modMast_pwr : (s.modMast y h).pwr = s.pwr := rfl
@[simp] theorem modMast_rat : (s.modMast y h).rat = s.rat := rfl
@[simp] theorem modMast_pending : (s.modMast y h).pending = s.pending := rfl
@[simp] theorem modMast_rd (b : Nat) : (s.modMast y h).rd b = s.rd b := rfl
end modMast

section setDev
variable (s : State) (d : Nat)
@[simp] theorem setDev_act : (s.setDev d).act = s.act := rfl
@[simp] theorem setDev_clock : (s.setDev d).clock = s.clock := rfl
@[simp] theorem setDev_bus : (s.setDev d).bus = s.bus := rfl
@[simp] theorem setDev_img : (s.setDev d).img = s.img := rfl
@[simp] theorem setDev_seq : (s.setDev d).seq = s.seq := rfl
@[simp] theorem setDev_hal : (s.setDev d).hal = s.hal := rfl
@[simp] theorem setDev_ton : (s.setDev d).ton = s.ton := rfl
@[simp] theorem setDev_cnv : (s.setDev d).cnv = s.cnv := rfl
@[simp] theorem setDev_dec : (s.setDev d).dec = s.dec := rfl
@[simp] theorem setDev_hif : (s.setDev d).hif = s.hif := rfl
@[simp] theorem setDev_wch : (s.setDev d).wch = s.wch := rfl
@[simp] theorem setDev_cap : (s.setDev d).cap = s.cap := rfl
@[simp] theorem setDev_stay : (s.setDev d).stay = s.stay := rfl
@[simp] theorem setDev_ozl : (s.setDev d).ozl = s.ozl := rfl
@[simp] theorem setDev_shr : (s.setDev d).shr = s.shr := rfl
@[simp] theorem setDev_trim : (s.setDev d).trim = s.trim := rfl
@[simp] theorem setDev_reef : (s.setDev d).reef = s.reef := rfl
@[simp] theorem setDev_flt : (s.setDev d).flt = s.flt := rfl
@[simp] theorem setDev_pwr : (s.setDev d).pwr = s.pwr := rfl
@[simp] theorem setDev_rat : (s.setDev d).rat = s.rat := rfl
@[simp] theorem setDev_pending : (s.setDev d).pending = s.pending := rfl
end setDev

section setMst
variable (s : State) (y v : Nat)
@[simp] theorem setMst_act : (s.setMst y v).act = s.act := rfl
@[simp] theorem setMst_clock : (s.setMst y v).clock = s.clock := rfl
@[simp] theorem setMst_bus : (s.setMst y v).bus = s.bus := rfl
@[simp] theorem setMst_img : (s.setMst y v).img = s.img := rfl
@[simp] theorem setMst_seq : (s.setMst y v).seq = s.seq := rfl
@[simp] theorem setMst_hal : (s.setMst y v).hal = s.hal := rfl
@[simp] theorem setMst_ton : (s.setMst y v).ton = s.ton := rfl
@[simp] theorem setMst_cnv : (s.setMst y v).cnv = s.cnv := rfl
@[simp] theorem setMst_dec : (s.setMst y v).dec = s.dec := rfl
@[simp] theorem setMst_hif : (s.setMst y v).hif = s.hif := rfl
@[simp] theorem setMst_wch : (s.setMst y v).wch = s.wch := rfl
@[simp] theorem setMst_cap : (s.setMst y v).cap = s.cap := rfl
@[simp] theorem setMst_stay : (s.setMst y v).stay = s.stay := rfl
@[simp] theorem setMst_ozl : (s.setMst y v).ozl = s.ozl := rfl
@[simp] theorem setMst_shr : (s.setMst y v).shr = s.shr := rfl
@[simp] theorem setMst_trim : (s.setMst y v).trim = s.trim := rfl
@[simp] theorem setMst_reef : (s.setMst y v).reef = s.reef := rfl
@[simp] theorem setMst_flt : (s.setMst y v).flt = s.flt := rfl
@[simp] theorem setMst_pwr : (s.setMst y v).pwr = s.pwr := rfl
@[simp] theorem setMst_rat : (s.setMst y v).rat = s.rat := rfl
@[simp] theorem setMst_pending : (s.setMst y v).pending = s.pending := rfl
end setMst

section setGst
variable (s : State) (g v : Nat)
@[simp] theorem setGst_act : (s.setGst g v).act = s.act := rfl
@[simp] theorem setGst_clock : (s.setGst g v).clock = s.clock := rfl
@[simp] theorem setGst_bus : (s.setGst g v).bus = s.bus := rfl
@[simp] theorem setGst_img : (s.setGst g v).img = s.img := rfl
@[simp] theorem setGst_seq : (s.setGst g v).seq = s.seq := rfl
@[simp] theorem setGst_hal : (s.setGst g v).hal = s.hal := rfl
@[simp] theorem setGst_ton : (s.setGst g v).ton = s.ton := rfl
@[simp] theorem setGst_cnv : (s.setGst g v).cnv = s.cnv := rfl
@[simp] theorem setGst_dec : (s.setGst g v).dec = s.dec := rfl
@[simp] theorem setGst_hif : (s.setGst g v).hif = s.hif := rfl
@[simp] theorem setGst_wch : (s.setGst g v).wch = s.wch := rfl
@[simp] theorem setGst_cap : (s.setGst g v).cap = s.cap := rfl
@[simp] theorem setGst_stay : (s.setGst g v).stay = s.stay := rfl
@[simp] theorem setGst_ozl : (s.setGst g v).ozl = s.ozl := rfl
@[simp] theorem setGst_shr : (s.setGst g v).shr = s.shr := rfl
@[simp] theorem setGst_trim : (s.setGst g v).trim = s.trim := rfl
@[simp] theorem setGst_reef : (s.setGst g v).reef = s.reef := rfl
@[simp] theorem setGst_flt : (s.setGst g v).flt = s.flt := rfl
@[simp] theorem setGst_pwr : (s.setGst g v).pwr = s.pwr := rfl
@[simp] theorem setGst_rat : (s.setGst g v).rat = s.rat := rfl
@[simp] theorem setGst_pending : (s.setGst g v).pending = s.pending := rfl
end setGst

end Sys2Proof.Laws
end

