-- ==== Sys2Proof/Laws/Ops.lean ====
section
/-! SUPPORT. What the readers of State see after the operations on it: registers after changes of groups, Masts and the bus, and groups,
Masts and the composition after changes of registers. -/

namespace Sys2Proof.Laws

open Sys2Proof.Machine

@[simp] theorem mast_wr (s : State) (a : Nat) (v : Word) (z : Nat) : (s.wr a v).mast z = s.mast z := rfl
@[simp] theorem grp_wr (s : State) (a : Nat) (v : Word) (h : Nat) : (s.wr a v).grp h = s.grp h := rfl
@[simp] theorem comp_wr (s : State) (a : Nat) (v : Word) (z : Nat) : (s.wr a v).comp z = s.comp z := rfl
@[simp] theorem members_wr (s : State) (a : Nat) (v : Word) (h : Nat) : (s.wr a v).members h = s.members h := rfl
@[simp] theorem groupOf_wr (s : State) (a : Nat) (v : Word) (z : Nat) : (s.wr a v).groupOf z = s.groupOf z := rfl
@[simp] theorem mast_setF (s : State) (a : Nat) (f : Fld) (n : Nat) (z : Nat) : (s.setF a f n).mast z = s.mast z := rfl
@[simp] theorem grp_setF (s : State) (a : Nat) (f : Fld) (n : Nat) (h : Nat) : (s.setF a f n).grp h = s.grp h := rfl
@[simp] theorem comp_setF (s : State) (a : Nat) (f : Fld) (n : Nat) (z : Nat) : (s.setF a f n).comp z = s.comp z := rfl
@[simp] theorem members_setF (s : State) (a : Nat) (f : Fld) (n : Nat) (h : Nat) : (s.setF a f n).members h = s.members h := rfl
@[simp] theorem groupOf_setF (s : State) (a : Nat) (f : Fld) (n : Nat) (z : Nat) : (s.setF a f n).groupOf z = s.groupOf z := rfl
@[simp] theorem mast_wrN (s : State) (a : Nat) (n : Nat) (z : Nat) : (s.wrN a n).mast z = s.mast z := rfl
@[simp] theorem grp_wrN (s : State) (a : Nat) (n : Nat) (h : Nat) : (s.wrN a n).grp h = s.grp h := rfl
@[simp] theorem comp_wrN (s : State) (a : Nat) (n : Nat) (z : Nat) : (s.wrN a n).comp z = s.comp z := rfl
@[simp] theorem members_wrN (s : State) (a : Nat) (n : Nat) (h : Nat) : (s.wrN a n).members h = s.members h := rfl
@[simp] theorem groupOf_wrN (s : State) (a : Nat) (n : Nat) (z : Nat) : (s.wrN a n).groupOf z = s.groupOf z := rfl
@[simp] theorem mast_wrRW (s : State) (a : Nat) (v : Nat) (z : Nat) : (s.wrRW a v).mast z = s.mast z := rfl
@[simp] theorem grp_wrRW (s : State) (a : Nat) (v : Nat) (h : Nat) : (s.wrRW a v).grp h = s.grp h := rfl
@[simp] theorem comp_wrRW (s : State) (a : Nat) (v : Nat) (z : Nat) : (s.wrRW a v).comp z = s.comp z := rfl
@[simp] theorem members_wrRW (s : State) (a : Nat) (v : Nat) (h : Nat) : (s.wrRW a v).members h = s.members h := rfl
@[simp] theorem groupOf_wrRW (s : State) (a : Nat) (v : Nat) (z : Nat) : (s.wrRW a v).groupOf z = s.groupOf z := rfl
@[simp] theorem mast_inc (s : State) (a : Nat) (z : Nat) : (s.inc a).mast z = s.mast z := rfl
@[simp] theorem grp_inc (s : State) (a : Nat) (h : Nat) : (s.inc a).grp h = s.grp h := rfl
@[simp] theorem comp_inc (s : State) (a : Nat) (z : Nat) : (s.inc a).comp z = s.comp z := rfl
@[simp] theorem members_inc (s : State) (a : Nat) (h : Nat) : (s.inc a).members h = s.members h := rfl
@[simp] theorem groupOf_inc (s : State) (a : Nat) (z : Nat) : (s.inc a).groupOf z = s.groupOf z := rfl
@[simp] theorem mast_incBy (s : State) (a : Nat) (n : Nat) (z : Nat) : (s.incBy a n).mast z = s.mast z := rfl
@[simp] theorem grp_incBy (s : State) (a : Nat) (n : Nat) (h : Nat) : (s.incBy a n).grp h = s.grp h := rfl
@[simp] theorem comp_incBy (s : State) (a : Nat) (n : Nat) (z : Nat) : (s.incBy a n).comp z = s.comp z := rfl
@[simp] theorem members_incBy (s : State) (a : Nat) (n : Nat) (h : Nat) : (s.incBy a n).members h = s.members h := rfl
@[simp] theorem groupOf_incBy (s : State) (a : Nat) (n : Nat) (z : Nat) : (s.incBy a n).groupOf z = s.groupOf z := rfl
@[simp] theorem mast_incF (s : State) (a : Nat) (f : Fld) (z : Nat) : (s.incF a f).mast z = s.mast z := rfl
@[simp] theorem grp_incF (s : State) (a : Nat) (f : Fld) (h : Nat) : (s.incF a f).grp h = s.grp h := rfl
@[simp] theorem comp_incF (s : State) (a : Nat) (f : Fld) (z : Nat) : (s.incF a f).comp z = s.comp z := rfl
@[simp] theorem members_incF (s : State) (a : Nat) (f : Fld) (h : Nat) : (s.incF a f).members h = s.members h := rfl
@[simp] theorem groupOf_incF (s : State) (a : Nat) (f : Fld) (z : Nat) : (s.incF a f).groupOf z = s.groupOf z := rfl
@[simp] theorem mast_status (s : State) (a : Nat) (c : Nat) (z : Nat) : (s.status a c).mast z = s.mast z := rfl
@[simp] theorem grp_status (s : State) (a : Nat) (c : Nat) (h : Nat) : (s.status a c).grp h = s.grp h := rfl
@[simp] theorem comp_status (s : State) (a : Nat) (c : Nat) (z : Nat) : (s.status a c).comp z = s.comp z := rfl
@[simp] theorem members_status (s : State) (a : Nat) (c : Nat) (h : Nat) : (s.status a c).members h = s.members h := rfl
@[simp] theorem groupOf_status (s : State) (a : Nat) (c : Nat) (z : Nat) : (s.status a c).groupOf z = s.groupOf z := rfl
@[simp] theorem rd_setGrp (s : State) (g : Nat) (v : Group) (b : Nat) : (s.setGrp g v).rd b = s.rd b := rfl
@[simp] theorem rdN_setGrp (s : State) (g : Nat) (v : Group) (b : Nat) : (s.setGrp g v).rdN b = s.rdN b := rfl
@[simp] theorem fld_setGrp (s : State) (g : Nat) (v : Group) (b : Nat) (k : Fld) : (s.setGrp g v).fld b k = s.fld b k := rfl
@[simp] theorem flag_setGrp (s : State) (g : Nat) (v : Group) (b : Nat) (k : Fld) : (s.setGrp g v).flag b k = s.flag b k := rfl
@[simp] theorem comp_setGrp (s : State) (g : Nat) (v : Group) (z : Nat) : (s.setGrp g v).comp z = s.comp z := rfl
@[simp] theorem members_setGrp (s : State) (g : Nat) (v : Group) (h : Nat) : (s.setGrp g v).members h = s.members h := rfl
@[simp] theorem groupOf_setGrp (s : State) (g : Nat) (v : Group) (z : Nat) : (s.setGrp g v).groupOf z = s.groupOf z := rfl
@[simp] theorem rd_modGrp (s : State) (g : Nat) (f : Group → Group) (b : Nat) : (s.modGrp g f).rd b = s.rd b := rfl
@[simp] theorem rdN_modGrp (s : State) (g : Nat) (f : Group → Group) (b : Nat) : (s.modGrp g f).rdN b = s.rdN b := rfl
@[simp] theorem fld_modGrp (s : State) (g : Nat) (f : Group → Group) (b : Nat) (k : Fld) : (s.modGrp g f).fld b k = s.fld b k := rfl
@[simp] theorem flag_modGrp (s : State) (g : Nat) (f : Group → Group) (b : Nat) (k : Fld) : (s.modGrp g f).flag b k = s.flag b k := rfl
@[simp] theorem comp_modGrp (s : State) (g : Nat) (f : Group → Group) (z : Nat) : (s.modGrp g f).comp z = s.comp z := rfl
@[simp] theorem members_modGrp (s : State) (g : Nat) (f : Group → Group) (h : Nat) : (s.modGrp g f).members h = s.members h := rfl
@[simp] theorem groupOf_modGrp (s : State) (g : Nat) (f : Group → Group) (z : Nat) : (s.modGrp g f).groupOf z = s.groupOf z := rfl
@[simp] theorem rd_setMast (s : State) (y : Nat) (m : Mast) (b : Nat) : (s.setMast y m).rd b = s.rd b := rfl
@[simp] theorem rdN_setMast (s : State) (y : Nat) (m : Mast) (b : Nat) : (s.setMast y m).rdN b = s.rdN b := rfl
@[simp] theorem fld_setMast (s : State) (y : Nat) (m : Mast) (b : Nat) (k : Fld) : (s.setMast y m).fld b k = s.fld b k := rfl
@[simp] theorem flag_setMast (s : State) (y : Nat) (m : Mast) (b : Nat) (k : Fld) : (s.setMast y m).flag b k = s.flag b k := rfl
@[simp] theorem comp_setMast (s : State) (y : Nat) (m : Mast) (z : Nat) : (s.setMast y m).comp z = s.comp z := rfl
@[simp] theorem members_setMast (s : State) (y : Nat) (m : Mast) (h : Nat) : (s.setMast y m).members h = s.members h := rfl
@[simp] theorem groupOf_setMast (s : State) (y : Nat) (m : Mast) (z : Nat) : (s.setMast y m).groupOf z = s.groupOf z := rfl
@[simp] theorem rd_modMast (s : State) (y : Nat) (f : Mast → Mast) (b : Nat) : (s.modMast y f).rd b = s.rd b := rfl
@[simp] theorem rdN_modMast (s : State) (y : Nat) (f : Mast → Mast) (b : Nat) : (s.modMast y f).rdN b = s.rdN b := rfl
@[simp] theorem fld_modMast (s : State) (y : Nat) (f : Mast → Mast) (b : Nat) (k : Fld) : (s.modMast y f).fld b k = s.fld b k := rfl
@[simp] theorem flag_modMast (s : State) (y : Nat) (f : Mast → Mast) (b : Nat) (k : Fld) : (s.modMast y f).flag b k = s.flag b k := rfl
@[simp] theorem comp_modMast (s : State) (y : Nat) (f : Mast → Mast) (z : Nat) : (s.modMast y f).comp z = s.comp z := rfl
@[simp] theorem members_modMast (s : State) (y : Nat) (f : Mast → Mast) (h : Nat) : (s.modMast y f).members h = s.members h := rfl
@[simp] theorem groupOf_modMast (s : State) (y : Nat) (f : Mast → Mast) (z : Nat) : (s.modMast y f).groupOf z = s.groupOf z := rfl
@[simp] theorem rd_report (s : State) (code src inst : Nat) (b : Nat) : (s.report code src inst).rd b = s.rd b := rfl
@[simp] theorem rdN_report (s : State) (code src inst : Nat) (b : Nat) : (s.report code src inst).rdN b = s.rdN b := rfl
@[simp] theorem fld_report (s : State) (code src inst : Nat) (b : Nat) (k : Fld) : (s.report code src inst).fld b k = s.fld b k := rfl
@[simp] theorem flag_report (s : State) (code src inst : Nat) (b : Nat) (k : Fld) : (s.report code src inst).flag b k = s.flag b k := rfl
@[simp] theorem grp_report (s : State) (code src inst : Nat) (h : Nat) : (s.report code src inst).grp h = s.grp h := rfl
@[simp] theorem mast_report (s : State) (code src inst : Nat) (z : Nat) : (s.report code src inst).mast z = s.mast z := rfl
@[simp] theorem comp_report (s : State) (code src inst : Nat) (z : Nat) : (s.report code src inst).comp z = s.comp z := rfl
@[simp] theorem members_report (s : State) (code src inst : Nat) (h : Nat) : (s.report code src inst).members h = s.members h := rfl
@[simp] theorem groupOf_report (s : State) (code src inst : Nat) (z : Nat) : (s.report code src inst).groupOf z = s.groupOf z := rfl
@[simp] theorem rd_reportProg (s : State) (code src inst : Nat) (b : Nat) : (s.reportProg code src inst).rd b = s.rd b := rfl
@[simp] theorem rdN_reportProg (s : State) (code src inst : Nat) (b : Nat) : (s.reportProg code src inst).rdN b = s.rdN b := rfl
@[simp] theorem fld_reportProg (s : State) (code src inst : Nat) (b : Nat) (k : Fld) : (s.reportProg code src inst).fld b k = s.fld b k := rfl
@[simp] theorem flag_reportProg (s : State) (code src inst : Nat) (b : Nat) (k : Fld) : (s.reportProg code src inst).flag b k = s.flag b k := rfl
@[simp] theorem grp_reportProg (s : State) (code src inst : Nat) (h : Nat) : (s.reportProg code src inst).grp h = s.grp h := rfl
@[simp] theorem mast_reportProg (s : State) (code src inst : Nat) (z : Nat) : (s.reportProg code src inst).mast z = s.mast z := rfl
@[simp] theorem comp_reportProg (s : State) (code src inst : Nat) (z : Nat) : (s.reportProg code src inst).comp z = s.comp z := rfl
@[simp] theorem members_reportProg (s : State) (code src inst : Nat) (h : Nat) : (s.reportProg code src inst).members h = s.members h := rfl
@[simp] theorem groupOf_reportProg (s : State) (code src inst : Nat) (z : Nat) : (s.reportProg code src inst).groupOf z = s.groupOf z := rfl
@[simp] theorem rd_hold (s : State) (i : Item) (b : Nat) : (s.hold i).rd b = s.rd b := rfl
@[simp] theorem rdN_hold (s : State) (i : Item) (b : Nat) : (s.hold i).rdN b = s.rdN b := rfl
@[simp] theorem fld_hold (s : State) (i : Item) (b : Nat) (k : Fld) : (s.hold i).fld b k = s.fld b k := rfl
@[simp] theorem flag_hold (s : State) (i : Item) (b : Nat) (k : Fld) : (s.hold i).flag b k = s.flag b k := rfl
@[simp] theorem grp_hold (s : State) (i : Item) (h : Nat) : (s.hold i).grp h = s.grp h := rfl
@[simp] theorem mast_hold (s : State) (i : Item) (z : Nat) : (s.hold i).mast z = s.mast z := rfl
@[simp] theorem comp_hold (s : State) (i : Item) (z : Nat) : (s.hold i).comp z = s.comp z := rfl
@[simp] theorem members_hold (s : State) (i : Item) (h : Nat) : (s.hold i).members h = s.members h := rfl
@[simp] theorem groupOf_hold (s : State) (i : Item) (z : Nat) : (s.hold i).groupOf z = s.groupOf z := rfl
@[simp] theorem rd_send (s : State) (i : Item) (b : Nat) : (s.send i).rd b = s.rd b := rfl
@[simp] theorem rdN_send (s : State) (i : Item) (b : Nat) : (s.send i).rdN b = s.rdN b := rfl
@[simp] theorem fld_send (s : State) (i : Item) (b : Nat) (k : Fld) : (s.send i).fld b k = s.fld b k := rfl
@[simp] theorem flag_send (s : State) (i : Item) (b : Nat) (k : Fld) : (s.send i).flag b k = s.flag b k := rfl
@[simp] theorem grp_send (s : State) (i : Item) (h : Nat) : (s.send i).grp h = s.grp h := rfl
@[simp] theorem mast_send (s : State) (i : Item) (z : Nat) : (s.send i).mast z = s.mast z := rfl
@[simp] theorem comp_send (s : State) (i : Item) (z : Nat) : (s.send i).comp z = s.comp z := rfl
@[simp] theorem members_send (s : State) (i : Item) (h : Nat) : (s.send i).members h = s.members h := rfl
@[simp] theorem groupOf_send (s : State) (i : Item) (z : Nat) : (s.send i).groupOf z = s.groupOf z := rfl
@[simp] theorem rd_nextFree (s : State) (b : Nat) : (s.nextFree).rd b = s.rd b := rfl
@[simp] theorem rdN_nextFree (s : State) (b : Nat) : (s.nextFree).rdN b = s.rdN b := rfl
@[simp] theorem fld_nextFree (s : State) (b : Nat) (k : Fld) : (s.nextFree).fld b k = s.fld b k := rfl
@[simp] theorem flag_nextFree (s : State) (b : Nat) (k : Fld) : (s.nextFree).flag b k = s.flag b k := rfl
@[simp] theorem grp_nextFree (s : State) (h : Nat) : (s.nextFree).grp h = s.grp h := rfl
@[simp] theorem mast_nextFree (s : State) (z : Nat) : (s.nextFree).mast z = s.mast z := rfl
@[simp] theorem comp_nextFree (s : State) (z : Nat) : (s.nextFree).comp z = s.comp z := rfl
@[simp] theorem members_nextFree (s : State) (h : Nat) : (s.nextFree).members h = s.members h := rfl
@[simp] theorem groupOf_nextFree (s : State) (z : Nat) : (s.nextFree).groupOf z = s.groupOf z := rfl
@[simp] theorem rd_emitRec (s : State) (r : Rec) (b : Nat) : (s.emitRec r).rd b = s.rd b := rfl
@[simp] theorem rdN_emitRec (s : State) (r : Rec) (b : Nat) : (s.emitRec r).rdN b = s.rdN b := rfl
@[simp] theorem fld_emitRec (s : State) (r : Rec) (b : Nat) (k : Fld) : (s.emitRec r).fld b k = s.fld b k := rfl
@[simp] theorem flag_emitRec (s : State) (r : Rec) (b : Nat) (k : Fld) : (s.emitRec r).flag b k = s.flag b k := rfl
@[simp] theorem grp_emitRec (s : State) (r : Rec) (h : Nat) : (s.emitRec r).grp h = s.grp h := rfl
@[simp] theorem mast_emitRec (s : State) (r : Rec) (z : Nat) : (s.emitRec r).mast z = s.mast z := rfl
@[simp] theorem comp_emitRec (s : State) (r : Rec) (z : Nat) : (s.emitRec r).comp z = s.comp z := rfl
@[simp] theorem members_emitRec (s : State) (r : Rec) (h : Nat) : (s.emitRec r).members h = s.members h := rfl
@[simp] theorem groupOf_emitRec (s : State) (r : Rec) (z : Nat) : (s.emitRec r).groupOf z = s.groupOf z := rfl
@[simp] theorem rd_keepHeld (s : State) (p : Item → Bool) (b : Nat) : (s.keepHeld p).rd b = s.rd b := rfl
@[simp] theorem rdN_keepHeld (s : State) (p : Item → Bool) (b : Nat) : (s.keepHeld p).rdN b = s.rdN b := rfl
@[simp] theorem fld_keepHeld (s : State) (p : Item → Bool) (b : Nat) (k : Fld) : (s.keepHeld p).fld b k = s.fld b k := rfl
@[simp] theorem flag_keepHeld (s : State) (p : Item → Bool) (b : Nat) (k : Fld) : (s.keepHeld p).flag b k = s.flag b k := rfl
@[simp] theorem grp_keepHeld (s : State) (p : Item → Bool) (h : Nat) : (s.keepHeld p).grp h = s.grp h := rfl
@[simp] theorem mast_keepHeld (s : State) (p : Item → Bool) (z : Nat) : (s.keepHeld p).mast z = s.mast z := rfl
@[simp] theorem comp_keepHeld (s : State) (p : Item → Bool) (z : Nat) : (s.keepHeld p).comp z = s.comp z := rfl
@[simp] theorem members_keepHeld (s : State) (p : Item → Bool) (h : Nat) : (s.keepHeld p).members h = s.members h := rfl
@[simp] theorem groupOf_keepHeld (s : State) (p : Item → Bool) (z : Nat) : (s.keepHeld p).groupOf z = s.groupOf z := rfl
@[simp] theorem rd_keepTransit (s : State) (p : Item → Bool) (b : Nat) : (s.keepTransit p).rd b = s.rd b := rfl
@[simp] theorem rdN_keepTransit (s : State) (p : Item → Bool) (b : Nat) : (s.keepTransit p).rdN b = s.rdN b := rfl
@[simp] theorem fld_keepTransit (s : State) (p : Item → Bool) (b : Nat) (k : Fld) : (s.keepTransit p).fld b k = s.fld b k := rfl
@[simp] theorem flag_keepTransit (s : State) (p : Item → Bool) (b : Nat) (k : Fld) : (s.keepTransit p).flag b k = s.flag b k := rfl
@[simp] theorem grp_keepTransit (s : State) (p : Item → Bool) (h : Nat) : (s.keepTransit p).grp h = s.grp h := rfl
@[simp] theorem mast_keepTransit (s : State) (p : Item → Bool) (z : Nat) : (s.keepTransit p).mast z = s.mast z := rfl
@[simp] theorem comp_keepTransit (s : State) (p : Item → Bool) (z : Nat) : (s.keepTransit p).comp z = s.comp z := rfl
@[simp] theorem members_keepTransit (s : State) (p : Item → Bool) (h : Nat) : (s.keepTransit p).members h = s.members h := rfl
@[simp] theorem groupOf_keepTransit (s : State) (p : Item → Bool) (z : Nat) : (s.keepTransit p).groupOf z = s.groupOf z := rfl
@[simp] theorem rd_actWr (s : State) (c : Nat) (v : Word) (b : Nat) : (s.actWr c v).rd b = s.rd b := rfl
@[simp] theorem rdN_actWr (s : State) (c : Nat) (v : Word) (b : Nat) : (s.actWr c v).rdN b = s.rdN b := rfl
@[simp] theorem fld_actWr (s : State) (c : Nat) (v : Word) (b : Nat) (k : Fld) : (s.actWr c v).fld b k = s.fld b k := rfl
@[simp] theorem flag_actWr (s : State) (c : Nat) (v : Word) (b : Nat) (k : Fld) : (s.actWr c v).flag b k = s.flag b k := rfl
@[simp] theorem grp_actWr (s : State) (c : Nat) (v : Word) (h : Nat) : (s.actWr c v).grp h = s.grp h := rfl
@[simp] theorem mast_actWr (s : State) (c : Nat) (v : Word) (z : Nat) : (s.actWr c v).mast z = s.mast z := rfl
@[simp] theorem comp_actWr (s : State) (c : Nat) (v : Word) (z : Nat) : (s.actWr c v).comp z = s.comp z := rfl
@[simp] theorem members_actWr (s : State) (c : Nat) (v : Word) (h : Nat) : (s.actWr c v).members h = s.members h := rfl
@[simp] theorem groupOf_actWr (s : State) (c : Nat) (v : Word) (z : Nat) : (s.actWr c v).groupOf z = s.groupOf z := rfl
@[simp] theorem rd_markGroup (s : State) (g code : Nat) (cause : Bool) (b : Nat) : (s.markGroup g code cause).rd b = s.rd b := rfl
@[simp] theorem rdN_markGroup (s : State) (g code : Nat) (cause : Bool) (b : Nat) : (s.markGroup g code cause).rdN b = s.rdN b := rfl
@[simp] theorem fld_markGroup (s : State) (g code : Nat) (cause : Bool) (b : Nat) (k : Fld) : (s.markGroup g code cause).fld b k = s.fld b k := rfl
@[simp] theorem flag_markGroup (s : State) (g code : Nat) (cause : Bool) (b : Nat) (k : Fld) : (s.markGroup g code cause).flag b k = s.flag b k := rfl
@[simp] theorem mast_markGroup (s : State) (g code : Nat) (cause : Bool) (z : Nat) : (s.markGroup g code cause).mast z = s.mast z := rfl
@[simp] theorem comp_markGroup (s : State) (g code : Nat) (cause : Bool) (z : Nat) : (s.markGroup g code cause).comp z = s.comp z := rfl
@[simp] theorem members_markGroup (s : State) (g code : Nat) (cause : Bool) (h : Nat) : (s.markGroup g code cause).members h = s.members h := rfl
@[simp] theorem groupOf_markGroup (s : State) (g code : Nat) (cause : Bool) (z : Nat) : (s.markGroup g code cause).groupOf z = s.groupOf z := rfl

theorem rdN_wrN_ne (s : State) (a b n : Nat) (h : b ≠ a) : (s.wrN a n).rdN b = s.rdN b := by
  simp [State.rdN, rd_wrN_ne _ _ _ _ h]

theorem rdN_setF_ne (s : State) (a b : Nat) (f : Fld) (n : Nat) (h : b ≠ a) : (s.setF a f n).rdN b = s.rdN b := by
  simp [State.rdN, rd_setF_ne _ _ _ _ _ h]

theorem rdN_inc_ne (s : State) (a b : Nat) (h : b ≠ a) : (s.inc a).rdN b = s.rdN b := by
  simp [State.rdN, rd_inc_ne _ _ _ h]

theorem fld_wrN_ne (s : State) (a b n : Nat) (f : Fld) (h : b ≠ a) : (s.wrN a n).fld b f = s.fld b f := by
  simp [State.fld, rd_wrN_ne _ _ _ _ h]

theorem fld_inc_ne (s : State) (a b : Nat) (f : Fld) (h : b ≠ a) : (s.inc a).fld b f = s.fld b f := by
  simp [State.fld, rd_inc_ne _ _ _ h]

theorem rdN_inc (s : State) (a : Nat) : (s.inc a).rdN a = min 0xFFFFFFFF (s.rdN a + 1) := by
  have : min max32 ((s.rd a).toNat + 1) < 2 ^ 64 := Nat.lt_of_le_of_lt (Nat.min_le_left _ _) (by decide)
  simp only [State.rdN, State.inc, rd_wr_same, BitVec.toNat_ofNat, Nat.mod_eq_of_lt this]
  rfl

theorem rd_setF_same (s : State) (a : Nat) (f : Fld) (n : Nat) : (s.setF a f n).rd a = insF (s.rd a) f n := by
  simp [State.setF]

end Sys2Proof.Laws
end

