-- ==== Sys2Proof/Machine/Package.lean ====
section
/-! DEFINITION. The package (chapter 22): the name of a ball, what each ball carries, the direction and termination of each
signal, and which outputs the part drives (R637, Table 1-9). -/

namespace Sys2Proof.Machine

/-- A supply rail. -/
inductive Rail where
  | core | sram | rf | vdda | io | aux
  deriving DecidableEq, Repr

/-- A signal of Table 22-8, with its number; an Ozlink lane is link, then lane. -/
inductive Sig where
  | txd (n : Nat) | txp (k : Nat) | flx (j : Nat) | bias (n : Nat) | biasRtn (n : Nat) | rxa (k : Nat) | rxb (k : Nat)
  | monin (m : Nat) | mrk (n : Nat) | trig (i : Nat) | pcieTx (j : Nat) | pcieRx (j : Nat) | perstN | ozTx (l i : Nat)
  | ozRx (l i : Nat) | tportTx | tportRx | refclk | syncin | syncout | tck | tms | tdi | tdo | trstN | smbScl | smbSda | resetN
  | thermtripN | xspiCk | xspiCsN | xspiDs | xspiIo (i : Nat) | perstSel | xspiMode | smbAddr (i : Nat) | coreSns
  deriving DecidableEq, Repr

/-- What a ball carries; `pos` and `neg` are the legs of a pair. -/
inductive Ball where
  | vss | rsvd | rail (x : Rail) | pos (x : Sig) | neg (x : Sig) | sig (x : Sig)
  deriving DecidableEq, Repr

/-! ### Names (R630) -/

/-- The letter of a row index from 1 to 19. -/
def rowLetter (k : Nat) : String := ["A", "B", "C", "D", "E", "F", "G", "H", "J", "K", "L", "M", "N", "P", "T", "U", "V", "W", "Y"].getD (k - 1) ""

/-- The name of a row (R630). -/
def rowName (r : Nat) : String :=
  if r ≤ 19 then rowLetter r
  else if r ≤ 38 then "A" ++ rowLetter (r - 19)
  else if r ≤ 57 then "B" ++ rowLetter (r - 38)
  else "C" ++ rowLetter (r - 57)

/-! ### The strip of a yard (R631, Tables 22-3, 22-4) -/

/-- A leg of a pair, by the strip column 1 or 2. -/
def leg (c : Nat) (x : Sig) : Ball := if c = 1 then .pos x else .neg x

/-- The ball of the strip of yard `n` in strip row `i` and strip column `c`. -/
def stripBall (n i c : Nat) : Ball :=
  if c = 0 then .vss
  else if i = 1 then leg c (.txd n)
  else if i = 3 then leg c (if n % 2 = 0 then .txp (n / 2) else .rxa (n / 2))
  else if i = 5 then
    (if n % 2 = 0 then leg c (.rxb (n / 2)) else if n % 4 = 1 then leg c (.monin (n / 4)) else .vss)
  else if 6 ≤ i ∧ i ≤ 9 then leg c (.flx (4 * n + i - 6))
  else if i = 10 then (if c = 1 then .sig (.bias n) else .sig (.biasRtn n))
  else if i = 11 then leg c (.mrk n)
  else .vss

/-- Row and column of the ball at a strip position of a yard (Table 22-4). -/
def stripAt (n i c : Nat) : Nat × Nat :=
  let d := 3 * (n % 16) + c
  match n / 16 with
  | 0 => (i, 14 + d)
  | 1 => (14 + d, 75 - i)
  | 2 => (75 - i, 61 - d)
  | _ => (61 - d, i)

/-! ### Corners (R632, R633, Tables 22-5, 22-6) -/

/-- A ball of the corners NW (0), NE (1) and SE (2), in NW coordinates. -/
def cornerBall (k r c : Nat) : Ball :=
  let q := (r - 1) / 3 * 4 + (c - 1) / 3
  let lane (tx : Bool) : Ball :=
    let x := match k with
      | 0 => if tx then Sig.pcieTx q else .pcieRx q
      | 1 => if tx then .ozTx (q / 4) (q % 4) else .ozRx (q / 4) (q % 4)
      | _ => if tx then .ozTx (q / 4 + 3) (q % 4) else .ozRx (q / 4 + 3) (q % 4)
    if k = 0 ∨ q < 12 then (if c % 3 = 1 then .pos x else .neg x) else .vss
  if r ≤ 11 ∧ c ≤ 11 ∧ r % 3 ≠ 0 ∧ c % 3 ≠ 0 then lane (r % 3 == 1)
  else if r = 12 ∧ c ≤ 10 then .rsvd
  else if r = 12 ∧ c = 13 then (if k = 0 then .sig .perstN else .vss)
  else if r = 13 ∨ c = 13 then .rail .io
  else .vss

/-- A row of the SW corner from its first column on. -/
def swRow (r : Nat) : List Ball :=
  let g := Ball.vss
  let s := Ball.sig
  match r with
  | 74 => [g, .pos .refclk, .neg .refclk, g, .pos .syncin, .neg .syncin, g, .pos .syncout, .neg .syncout, g, .pos .tportTx, .neg .tportTx]
  | 72 => (List.range 8).map (fun i => s (.trig i)) ++ [g, g, .pos .tportRx, .neg .tportRx]
  | 71 => (List.range 8).map fun i => s (.trig (8 + i))
  | 69 => [s .xspiCk, s .xspiCsN, s .xspiDs] ++ (List.range 8).map fun i => s (.xspiIo i)
  | 67 => [s .tck, s .tms, s .tdi, s .tdo, s .trstN, g, s .smbScl, s .smbSda, g, s .resetN, s .thermtripN]
  | 66 => List.replicate 10 .rsvd
  | 65 => [s .perstSel, s .xspiMode, s (.smbAddr 0), s (.smbAddr 1), g, g, .pos .coreSns, .neg .coreSns]
  | 64 => List.replicate 12 (.rail .io)
  | 63 => List.replicate 8 (.rail .aux)
  | 62 => List.replicate 12 (.rail .io)
  | _ => []

/-! ### The map (Table 22-2) -/

/-- A ball of the supply field in the centre (R634). -/
def centreBall (r c : Nat) : Ball :=
  let d (x : Nat) : Nat := if 2 * x < 75 then 75 - 2 * x else 2 * x - 75
  let k := (max (d r) (d c) - 1) / 2
  if (r + c) % 2 = 1 then .vss
  else .rail (if k ≤ 18 then .core else if k = 19 then .sram else if k ≤ 21 then .vdda else .rf)

/-- What the ball at row index `r` and column index `c` carries. -/
def ballAt (r c : Nat) : Ball :=
  let mid (x : Nat) : Bool := decide (14 ≤ x) && decide (x ≤ 61)
  if mid r ∧ mid c then centreBall r c
  else if mid c then
    (if r ≤ 12 then stripBall ((c - 14) / 3) r ((c - 14) % 3)
     else if 63 ≤ r then stripBall (32 + (61 - c) / 3) (75 - r) ((61 - c) % 3) else .vss)
  else if mid r then
    (if c ≤ 12 then stripBall (48 + (61 - r) / 3) c ((61 - r) % 3)
     else if 63 ≤ c then stripBall (16 + (r - 14) / 3) (75 - c) ((r - 14) % 3) else .vss)
  else if r ≤ 13 then (if c ≤ 13 then cornerBall 0 r c else cornerBall 1 r (75 - c))
  else if 62 ≤ c then cornerBall 2 (75 - r) (75 - c)
  else (swRow r).getD (c - 1) .vss

/-! ### Signals (R637, Table 22-8) -/

/-- The direction of a signal. -/
inductive Dir where
  | input | output | both | ret
  deriving DecidableEq, Repr

/-- The direction that Table 22-8 gives. -/
def Sig.dir : Sig → Dir
  | .txd _ | .txp _ | .flx _ | .bias _ | .mrk _ | .pcieTx _ | .ozTx _ _ | .tportTx | .syncout | .tdo | .thermtripN | .xspiCk
  | .xspiCsN | .coreSns => .output
  | .biasRtn _ => .ret
  | .smbScl | .smbSda | .xspiIo _ => .both
  | .rxa _ | .rxb _ | .monin _ | .trig _ | .pcieRx _ | .perstN | .ozRx _ _ | .tportRx | .refclk | .syncin | .tck | .tms | .tdi | .trstN
  | .resetN | .xspiDs | .perstSel | .xspiMode | .smbAddr _ => .input

/-- What stands at a signal on the die or is asked of the board. -/
inductive Term where
  | diff100 | receiver100 | pullUp50k | pullDown50k | boardPullUp | mohm1 | series10 | pcie | open_
  deriving DecidableEq, Repr

/-- The termination that Table 22-8 gives. -/
def Sig.term : Sig → Term
  | .txd _ | .txp _ | .flx _ | .rxa _ | .rxb _ | .ozTx _ _ | .ozRx _ _ | .tportTx | .tportRx | .refclk | .syncin => .diff100
  | .mrk _ | .syncout => .receiver100
  | .monin _ => .mohm1
  | .trig _ | .perstN | .tck | .trstN | .xspiDs => .pullDown50k
  | .tms | .tdi | .resetN => .pullUp50k
  | .pcieTx _ | .pcieRx _ => .pcie
  | .smbScl | .smbSda | .thermtripN => .boardPullUp
  | .coreSns => .series10
  | .bias _ | .biasRtn _ | .tdo | .xspiCk | .xspiCsN | .xspiIo _ | .perstSel | .xspiMode | .smbAddr _ => .open_

/-- Does the part drive a signal between commands? In OFF no output is driven (Table 1-9, R637), but for THERMTRIP_N, which the always-on
domain pulls low during a trip (R575); TDO is driven only while a scan shifts, and SMBus lines only within a transfer. -/
def State.drives (s : State) (x : Sig) : Bool :=
  match x with
  | .thermtripN => s.reef.tripped
  | .tdo | .smbScl | .smbSda | .xspiIo _ | .coreSns => false
  | x => x.dir == .output && s.dev != dOFF

end Sys2Proof.Machine
end

