-- ==== Sys2Proof/Tests/Slice0.lean ====
section
/-! SUPPORT. Tests of the model: for each statement states and operands that meet the hypotheses of each of its clauses, the worked
examples of the spec, and ill-formed commands. -/

set_option maxRecDepth 100000
set_option Elab.async false

open Sys2Proof Sys2Proof.Machine

namespace Sys2Proof.Tests

/-! ### Witnesses of the statements -/

/-- A state with fields of registers set. -/
def fl (rs : List (Nat × Fld × Nat)) (s : State) : State := rs.foldl (fun s r => s.setF r.1 r.2.1 r.2.2) s

/-- A state with registers set. -/
def rg (rs : List (Nat × Nat)) (s : State) : State := rs.foldl (fun s r => s.wrN r.1 r.2) s

/-- READY with TB1 running at 16,000 st, 32,000 st after the release of reset. -/
def up : State :=
  fl [(GLB_STATE, GLB_STATE_STATE, 4), (STAY_STS, STAY_STS_TB1STATE, 2)] { State.reset with clock := ⟨32000, 16000⟩ }

/-- A yard that is present, in a group and a partition. -/
def yd (y g p : Nat) (s : State) : State :=
  { s with img := { s.img with yards := tput s.img.yards y { (default : YardComp) with present := true, group := g, part := p } } }

/-- An owner range. -/
def own (cls okind owner first count : Nat) (s : State) : State :=
  { s with img := { s.img with owns := s.img.owns ++ [⟨cls, okind, owner, first, count⟩] } }

/-- An allotment. -/
def alt (block part first count : Nat) (s : State) : State :=
  { s with img := { s.img with allots := s.img.allots ++ [⟨block, part, first, count⟩] } }

/-- An instruction word of a yard's sequence store. -/
def ins (y pc w : Nat) (s : State) : State := { s with seq := { s.seq with store := stBytes s.seq.store (262144 * y + 8 * pc) 8 w } }

/-- A word of a Winch core's local memory. -/
def win (x a w : Nat) (s : State) : State := { s with wch := { s.wch with mem := stBytes s.wch.mem (524288 * x + 8 * a) 8 w } }

/-- Yard 1 of group 3, with all of its channels. -/
def y1 : State := { up with img := { up.img with yards := [(1, ⟨true, 3, 0, 255, 255, 255, 255⟩)] } }

/-- A state with active copies set. -/
def ac (rs : List (Nat × Nat)) (s : State) : State := rs.foldl (fun s r => s.actWr r.1 (BitVec.ofNat 64 r.2)) s

/-- A state, or a part of one, of the witnesses. -/
def w01 : State := rg [(SEQ_PROG_LEN 1, 4), (SEQ_SHOT_CNT 1, 5)] (yd 1 3 0 up)
/-- GroupCommandsArePendingUntilTheirRelease: states and operands that meet the hypotheses of each clause. -/
theorem witness_GroupCommandsArePendingUntilTheirRelease :
    (∃ (s : State) (g : ℕ) (c : ℕ) (i : Instr) (lead : ℕ) (svc : Bool), ((if svc = true then (s.grp g).byService.isSome = true ∧ lead = s.tb1 + 640 else s.opens GLB_LSG_CMD ∧ (c = 5 ∨ (s.grp g).byService = none) ∧ (s.rdN GLB_LSG_REL = 0 ∨ s.tb1 + 2560 ≤ s.rdN GLB_LSG_REL) ∧ lead = (if s.rdN GLB_LSG_REL = 0 then s.tb1 + 2560 else s.rdN GLB_LSG_REL))) ∧ (c, i) ∈ [(1, Instr.lsgArm g svc), (2, .lsgStart g svc), (3, .lsgPause g svc), (4, .lsgResume g svc), (5, .lsgAbort g svc), (6, .lsgDisarm g svc)] ∧ g < 64 ∧ s.members g ≠ [] ∧ s.tb1Run = true ∧ ((c ≠ 5 → (s.grp g).cmd = none ∧ s.gst g ≠ gRECONFIG)) ∧ (((c = 1 ∧ s.gst g = gIDLE ∧ s.armRefusal g = none) ∨ (c = 2 ∧ s.gst g = gARMED) ∨ (c = 3 ∧ s.gst g = gRUNNING) ∨ (c = 4 ∧ s.gst g = gPAUSED) ∨ (c = 5 ∧ s.gst g ≠ gABORTING) ∨ (c = 6 ∧ (s.gst g = gARMED ∨ s.gst g = gPAUSED)))) ∧ ((c = 1 ∨ c = 2 ∨ c = 4 → s.dev = dREADY ∨ s.dev = dRUN))) ∧
    (∃ (s : State) (g : ℕ) (c : ℕ) (i : Instr), s.opens GLB_LSG_CMD ∧ (c, i) ∈ [(1, Instr.lsgArm g false), (2, .lsgStart g false), (3, .lsgPause g false), (4, .lsgResume g false), (6, .lsgDisarm g false)] ∧ s.members g ≠ [] ∧ s.tb1Run = true ∧ (s.grp g).cmd ≠ none) :=
  ⟨⟨(w01), (3), (1), (Instr.lsgArm 3 false), (18560), (false), by unfold State.opens; decide +kernel, by decide +kernel⟩,
    ⟨(w01.setGrp 3 { (default : Group) with cmd := some ⟨5, 20000⟩ }), (3), (1), (Instr.lsgArm 3 false), by unfold State.opens; decide +kernel, by decide +kernel⟩⟩

/-- A state, or a part of one, of the witnesses. -/
def w01g (st c : Nat) : State := (fl [(GLB_LSG_STAT 3, GLB_LSG_STAT_GSTATE, st)] w01).setGrp 3 { (default : Group) with cmd := some ⟨c, 16000⟩ } |>.hold ⟨16000, 0x40, 0x40, .ctrl, .group 3 c⟩
/-- GroupCommandReleasesMoveTheGroup: states and operands that meet the hypotheses of each clause. -/
theorem witness_GroupCommandReleasesMoveTheGroup :
    (∃ (s : State) (g : ℕ) (r : ℕ), (s.grp g).cmd = some ⟨1, r⟩ ∧ s.atTb1 r = true ∧ s.bus.held.any (fun j => j.groupCmd g) = true ∧ g < 64 ∧ s.gst g = gIDLE ∧ s.armRefusal g = none) ∧
    (∃ (s : State) (g : ℕ) (r : ℕ), (s.grp g).cmd = some ⟨2, r⟩ ∧ s.atTb1 r = true ∧ s.bus.held.any (fun j => j.groupCmd g) = true ∧ g < 64 ∧ s.gst g = gARMED ∧ s.hold5 = false) ∧
    (∃ (s : State) (g : ℕ) (r : ℕ), (s.grp g).cmd = some ⟨3, r⟩ ∧ s.atTb1 r = true ∧ s.bus.held.any (fun j => j.groupCmd g) = true ∧ g < 64 ∧ s.gst g = gRUNNING ∧ (s.grp g).held = false ∧ (s.grp g).t0 = none) ∧
    (∃ (s : State) (g : ℕ) (r : ℕ), (s.grp g).cmd = some ⟨3, r⟩ ∧ s.atTb1 r = true ∧ s.bus.held.any (fun j => j.groupCmd g) = true ∧ g < 64 ∧ (s.grp g).held = true) ∧
    (∃ (s : State) (g : ℕ) (r : ℕ), (s.grp g).cmd = some ⟨4, r⟩ ∧ s.atTb1 r = true ∧ s.bus.held.any (fun j => j.groupCmd g) = true ∧ g < 64 ∧ s.gst g = gPAUSED ∧ (s.grp g).replayDue = false ∧ (s.grp g).held = false ∧ s.hold5 = false) ∧
    (∃ (s : State) (g : ℕ) (r : ℕ), (s.grp g).cmd = some ⟨5, r⟩ ∧ s.atTb1 r = true ∧ s.bus.held.any (fun j => j.groupCmd g) = true ∧ g < 64 ∧ s.gst g ≠ gIDLE ∧ s.gst g ≠ gABORTING ∧ (s.grp g).byService = none) ∧
    (∃ (s : State) (g : ℕ) (r : ℕ), (s.grp g).cmd = some ⟨6, r⟩ ∧ s.atTb1 r = true ∧ s.bus.held.any (fun j => j.groupCmd g) = true ∧ g < 64 ∧ ((s.gst g = gARMED ∨ s.gst g = gPAUSED))) :=
  ⟨⟨(w01g 0 1), (3), (16000), by decide +kernel⟩,
    ⟨(w01g 1 2), (3), (16000), by decide +kernel⟩,
    ⟨(w01g 2 3), (3), (16000), by decide +kernel⟩,
    ⟨((w01g 2 3).modGrp 3 (fun x => { x with held := true })), (3), (16000), by decide +kernel⟩,
    ⟨(w01g 4 4), (3), (16000), by decide +kernel⟩,
    ⟨(w01g 2 5), (3), (16000), by decide +kernel⟩,
    ⟨(w01g 4 6), (3), (16000), by decide +kernel⟩⟩

/-- A state, or a part of one, of the witnesses. -/
def w01t : State := (fl [(GLB_LSG_STAT 3, GLB_LSG_STAT_GSTATE, 2)] w01).setGrp 3 { (default : Group) with t0 := some 16000, shot := 7 }
/-- A state, or a part of one, of the witnesses. -/
def w01e : State := fl [(SEQ_STS 1, SEQ_STS_MSTATE, 6)] (rg [(SEQ_SHOT_CNT 1, 0xFFFFFFFF)] w01t)
/-- ShotsStartTogetherAndEndWithTheLastMember: states and operands that meet the hypotheses of each clause. -/
theorem witness_ShotsStartTogetherAndEndWithTheLastMember :
    (∃ (s : State) (g : ℕ) (r : ℕ), (s.grp g).t0 = some r ∧ s.reached r = true ∧ g < 64 ∧ s.hold5 = false ∧ (s.grp g).held = false ∧ s.gst g ≠ gPAUSING) ∧
    (∃ (s : State) (y : ℕ) (g : ℕ) (z : ℕ), g = s.groupOf y ∧ s.mst y = mSHOTEND ∧ (s.mast y).signalled = false ∧ s.shotDone y = true ∧ ((s.gst g = gRUNNING ∨ s.gst g = gPAUSING)) ∧ z ∈ s.members g ∧ z ≠ y ∧ (s.mast z).signalled = false) ∧
    (∃ (s : State) (y : ℕ) (g : ℕ), g = s.groupOf y ∧ s.mst y = mSHOTEND ∧ (s.mast y).signalled = false ∧ s.shotDone y = true ∧ s.gst g = gRUNNING ∧ ((∀ z ∈ s.members g, z ≠ y → (s.mast z).signalled = true)) ∧ (s.grp g).rpass = false ∧ (s.grp g).marks = [] ∧ ((∀ z ∈ s.members g, (s.mast z).endRun = false)) ∧ s.runEnds g = false ∧ s.decOf g = []) ∧
    (∃ (s : State) (g : ℕ) (r : ℕ), r = max (ceilFt ((s.grp g).lastEnd + 128)) (ceilFt s.clock.tb1) ∧ (s.grp g).replayDue = true ∧ s.reached r = true ∧ g < 64 ∧ s.causesClear g = true ∧ s.gst g = gRUNNING ∧ s.hold5 = false ∧ (s.grp g).held = false) :=
  ⟨⟨(w01t), (3), (16000), by decide +kernel⟩,
    ⟨(yd 2 3 0 w01e), (1), (3), (2), by decide +kernel⟩,
    ⟨(w01e), (1), (3), by decide +kernel⟩,
    ⟨(w01t.modGrp 3 (fun x => { x with replayDue := true })), (3), _, rfl, by decide +kernel⟩⟩

/-- A state, or a part of one, of the witnesses. -/
def w01i (r : Nat) : State := { w01 with bus := { w01.bus with transit := [⟨r, 1, 1, .ctrl, .timed 1 0 (.bias 5)⟩], held := [⟨16000, 1, 1, .ctrl, .timed 1 0 (.bias 5)⟩] } }
/-- StampedItemsApplyAtTheirRelease: states and operands that meet the hypotheses of each clause. -/
theorem witness_StampedItemsApplyAtTheirRelease :
    (∃ (s : State) (k : ℕ) (i : Item), s.bus.transit[k]? = some i ∧ (s.bus.transit.take k).any (fun j => j.src == i.src && j.dst == i.dst && j.cls == i.cls) = false ∧ s.tb1 ≤ i.rel) ∧
    (∃ (s : State) (k : ℕ) (i : Item), ((∀ a v w x, i.act ≠ .emit a v w x)) ∧ ((∀ g c, i.act ≠ .group g c)) ∧ s.bus.transit[k]? = some i ∧ (s.bus.transit.take k).any (fun j => j.src == i.src && j.dst == i.dst && j.cls == i.cls) = false ∧ i.rel < s.tb1) ∧
    (∃ (s : State) (k : ℕ) (i : Item) (g : ℕ) (c : ℕ), s.bus.transit[k]? = some i ∧ (s.bus.transit.take k).any (fun j => j.src == i.src && j.dst == i.dst && j.cls == i.cls) = false ∧ i.rel < s.tb1 ∧ i.act = .group g c) ∧
    (∃ (s : State) (y : ℕ) (pc : ℕ) (v : ℕ) (rel : ℕ), s.bus.held.find? (fun i => i.dst == y && s.itemDue i) = some ⟨rel, y, y, .ctrl, .timed y pc (.bias v)⟩ ∧ v < 2 ^ 20 ∧ s.biaEn y = true) ∧
    (∃ (s : State) (a : ℕ) (b : ℕ) (cls : ℕ) (l : ℕ), (s.seq.hangs.filter fun h => h.1 ≠ 0x41 + l) = [] ∧ l < 6 ∧ cls < 8 ∧ (((a = 0x40 ∧ b = 0x41 + l) ∨ (a = 0x41 + l ∧ b = 0x40)))) :=
  ⟨⟨(w01i 16000), (0), (⟨16000, 1, 1, .ctrl, .timed 1 0 (.bias 5)⟩), by decide +kernel⟩,
    ⟨(w01i 15999), (0), (⟨15999, 1, 1, .ctrl, .timed 1 0 (.bias 5)⟩), (by intro a v w x h; cases h), (by intro g c h; cases h), by decide +kernel⟩,
    ⟨({ w01 with bus := { w01.bus with transit := [⟨15999, 0x48, 0x40, .ctrl, .group 3 1⟩] } }), (0), (⟨15999, 0x48, 0x40, .ctrl, .group 3 1⟩), (3), (1), by decide +kernel⟩,
    ⟨({ w01i 16000 with img := { w01.img with yards := [(1, ⟨true, 3, 0, 0, 0, 0, 16⟩)] } }), (1), (0), (5), (16000), by decide +kernel⟩,
    ⟨(w01), (0x40), (0x46), (7), (5), by decide +kernel⟩⟩

/-- DeviceStateCommandsFollowTheTransitions: states and operands that meet the hypotheses of each clause. -/
theorem witness_DeviceStateCommandsFollowTheTransitions :
    (∃ (s : State), s.opens GLB_STATE_CMD) ∧
    (∃ (s : State), s.opens GLB_STATE_CMD ∧ s.dev = dSAFE ∧ s.causeCleared = true) ∧
    (∃ (s : State), s.opens GLB_STATE_CMD ∧ ¬ (s.dev = dSAFE ∧ s.causeCleared = true)) ∧
    (∃ (s : State), s.opens GLB_STATE_CMD ∧ s.dev = dREADY) ∧
    (∃ (s : State), s.opens GLB_STATE_CMD ∧ s.dev ≠ dREADY) ∧
    (∃ (s : State), s.dev = dCAL) ∧
    (∃ (s : State) (y : ℕ) (g : ℕ), g = s.groupOf y ∧ s.mst y = mSTOPPING ∧ s.gst g = gABORTING ∧ (s.mast y).outRes = 0 ∧ ((s.tb1Run = false ∨ (s.grp g).lastEnd + 256 ≤ s.clock.tb1)) ∧ s.img.commit = none ∧ y ∈ s.members g) :=
  ⟨⟨(up), by unfold State.opens; decide +kernel⟩,
    ⟨(fl [(GLB_STATE, GLB_STATE_STATE, 6), (GLB_STATE, GLB_STATE_SAFE_STATUS, E_FLT_GO_SAFE)] up), by unfold State.opens; decide +kernel, by decide +kernel⟩,
    ⟨(up), by unfold State.opens; decide +kernel, by decide +kernel⟩,
    ⟨(up), by unfold State.opens; decide +kernel, by decide +kernel⟩,
    ⟨(fl [(GLB_STATE, GLB_STATE_STATE, 5)] up), by unfold State.opens; decide +kernel, by decide +kernel⟩,
    ⟨(fl [(GLB_STATE, GLB_STATE_STATE, 3)] up), by decide +kernel⟩,
    ⟨(fl [(GLB_LSG_STAT 3, GLB_LSG_STAT_GSTATE, 5), (SEQ_STS 1, SEQ_STS_MSTATE, 8)] w01), (1), (3), by decide +kernel⟩⟩

/-- A state, or a part of one, of the witnesses. -/
def w02b (kind : BitVec 8) : List (BitVec 8) := List.replicate 6 0 ++ [kind, 1] ++ List.replicate 8 0 ++ [64, 0, 0, 0] ++ List.replicate 44 0
/-- A state, or a part of one, of the witnesses. -/
def w02 (ist kind : Nat) : State := let s := fl [(IMG_STS, IMG_STS_ISTATE, ist)] (rg [(IMG_LEN, 64), (IMG_SRC, 8)] (yd 1 3 0 up))
  { s with img := { s.img with staging := stList [] 0 (w02b (BitVec.ofNat 8 kind)), held := 64 } }
/-- ImagesAreStagedCheckedAndCommitted: states and operands that meet the hypotheses of each clause. -/
theorem witness_ImagesAreStagedCheckedAndCommitted :
    (∃ (s : State) (flash : Bool), s.opens IMG_CTL ∧ s.loadCheck false flash (s.rdN IMG_SRC) (s.fld IMG_LEN IMG_LEN_LEN) = 0) ∧
    (∃ (s : State) (flash : Bool), s.opens IMG_CTL ∧ s.loadCheck true flash (s.rdN IMG_SRC) (s.fld IMG_LEN IMG_LEN_LEN) = 0) ∧
    (∃ (s : State) (bs : List (BitVec 8)), s.ist = iFETCHING ∧ s.img.held = 0 ∧ bs.length = 64 ∧ s.img.auto_ = false ∧ ((∀ p, p < 8 → s.pst p ≠ pZEROISING)) ∧ ldBytes (stList [] 0 bs) 0x10 4 = s.fld IMG_LEN IMG_LEN_LEN ∧ (s.img.full = true ↔ ldBytes (stList [] 0 bs) 6 1 = 1)) ∧
    (∃ (s : State) (bs : List (BitVec 8)), s.ist = iFETCHING ∧ s.img.held = 0 ∧ bs.length = 64 ∧ s.img.auto_ = false ∧ ((∀ p, p < 8 → s.pst p ≠ pZEROISING)) ∧ ldBytes (stList [] 0 bs) 0x10 4 = s.fld IMG_LEN IMG_LEN_LEN ∧ s.img.full = false ∧ ldBytes (stList [] 0 bs) 6 1 = 1 ∧ s.dev ≠ dCONFIG ∧ s.dev ≠ dREADY) ∧
    (∃ (s : State) (bs : List (BitVec 8)), s.ist = iFETCHING ∧ ((∀ p, p < 8 → s.pst p ≠ pZEROISING)) ∧ s.img.held = 64 ∧ bs.length = s.iTotal ∧ bs.take 64 = ldList s.img.staging 0 64) ∧
    (∃ (s : State) (v : ℕ × ℕ × List (BitVec 8)), v = s.imgVerify (ldList s.img.staging 0 s.img.held) ∧ s.ist = iVERIFYING) ∧
    (∃ (s : State), s.ist = iCHECKING ∧ ((s.img.auto_ = false ∨ s.iKind ≠ 1 ∨ s.dev = dCONFIG))) ∧
    (∃ (s : State), s.opens IMG_CTL ∧ s.ist = iCHECKED ∧ ((s.iKind = 1 → s.dev = dCONFIG)) ∧ ((s.iKind ≠ 1 → (s.dev = dREADY ∨ s.dev = dRUN) ∧ s.scopeBusy = none))) ∧
    (∃ (s : State), s.opens IMG_CTL ∧ iFETCHING ≤ s.ist ∧ s.ist ≤ iCHECKED) ∧
    (∃ (s : State), s.opens IMG_CTL ∧ s.ist = iFAILED) :=
  ⟨⟨(w02 0 2), (true), by unfold State.opens; decide +kernel, by decide +kernel⟩,
    ⟨(w02 0 1), (false), by unfold State.opens; decide +kernel, by decide +kernel⟩,
    ⟨({ w02 1 1 with img := { (w02 1 1).img with held := 0, full := true } }), (w02b 1), by decide +kernel⟩,
    ⟨(fl [(GLB_STATE, GLB_STATE_STATE, 5)] { w02 1 1 with img := { (w02 1 1).img with held := 0 } }), (w02b 1), by decide +kernel⟩,
    ⟨(w02 1 1), (w02b 1), by decide +kernel⟩,
    ⟨(w02 2 1), _, rfl, by decide +kernel⟩,
    ⟨(w02 3 1), by decide +kernel⟩,
    ⟨(fl [(GLB_STATE, GLB_STATE_STATE, 2)] (w02 4 1)), by unfold State.opens; decide +kernel, by decide +kernel⟩,
    ⟨(w02 1 2), by unfold State.opens; decide +kernel, by decide +kernel⟩,
    ⟨(w02 6 2), by unfold State.opens; decide +kernel, by decide +kernel⟩⟩

/-- A state, or a part of one, of the witnesses. -/
def w02c (c : Commit) : State := { w02 5 c.kind with img := { (w02 5 c.kind).img with commit := some c } }
/-- CommitsPutTheImageInForce: states and operands that meet the hypotheses of each clause. -/
theorem witness_CommitsPutTheImageInForce :
    (∃ (s : State) (c : Commit), ((∀ w ∈ c.words, ∃ b h r, wordReg w.1 = some (b, h, r) ∧ isShd b = true)) ∧ s.img.commit = some c ∧ c.kind = 1 ∧ s.dev = dCONFIG) ∧
    (∃ (s : State) (c : Commit) (gs : List ℕ), gs = (List.range 64).filter (fun g => (scopeYards c.kind c.scope).any fun y => (s.comp y).present && s.groupOf y == g) ∧ s.img.commit = some c ∧ (c.kind = 2 ∨ c.kind = 3) ∧ c.phase = 0 ∧ c.rel ≤ s.clock.now) ∧
    (∃ (s : State) (c : Commit), s.img.commit = some c ∧ (c.kind = 2 ∨ c.kind = 3) ∧ c.phase = 1 ∧ c.rel + 1024 ≤ s.clock.now) ∧
    (∃ (s : State) (c : Commit) (a : ℕ) (v : ℕ) (b : ℕ) (h : ℕ) (r : RegRow), s.img.commit = some c ∧ (c.kind = 2 ∨ c.kind = 3) ∧ c.phase = 2 ∧ c.rel + (96 + c.next) * 16 ≤ s.clock.now ∧ c.words[c.next]? = some (a, v) ∧ wordReg a = some (b, h, r) ∧ isShd b = true ∧ r.base ≠ DEM_KSEL 0 0) ∧
    (∃ (s : State) (c : Commit), s.img.commit = some c ∧ (c.kind = 2 ∨ c.kind = 3) ∧ c.phase = 2 ∧ c.words.length ≤ c.next ∧ c.rel + (96 + c.words.length) * 16 ≤ s.clock.now) ∧
    (∃ (s : State) (c : Commit), ((∀ w ∈ c.words, ∃ b h r, wordReg w.1 = some (b, h, r) ∧ isShd b = true)) ∧ s.img.commit = some c ∧ c.kind = 4 ∧ c.scope < 6 ∧ c.rel ≤ s.clock.now) :=
  ⟨⟨(fl [(GLB_STATE, GLB_STATE_STATE, 2)] (w02c (⟨1, 0, 32000, 0, [(TON_GAIN 1 0, 5)], 0, []⟩))), (⟨1, 0, 32000, 0, [(TON_GAIN 1 0, 5)], 0, []⟩), (by intro w h; rcases List.mem_singleton.mp h with rfl; exact ⟨_, _, _, rfl, by decide +kernel⟩), by decide +kernel⟩,
    ⟨(w02c (⟨2, 1, 32000, 0, [], 0, []⟩)), (⟨2, 1, 32000, 0, [], 0, []⟩), _, rfl, by decide +kernel⟩,
    ⟨(w02c (⟨2, 1, 30976, 1, [], 0, [3]⟩)), (⟨2, 1, 30976, 1, [], 0, [3]⟩), by decide +kernel⟩,
    ⟨(w02c (⟨2, 1, 30464, 2, [(TON_GAIN 1 0, 5)], 0, [3]⟩)), (⟨2, 1, 30464, 2, [(TON_GAIN 1 0, 5)], 0, [3]⟩), (TON_GAIN 1 0), (5), (TON_GAIN 1 0), (0), (⟨"TON_GAIN", 0x100200C, [(0x40000, 64), (0x40, 16)], 32, 0, 0xFFFF, 0, 0, 0, 0, 0, 0xFFFF⟩), by decide +kernel⟩,
    ⟨(fl [(GLB_LSG_STAT 3, GLB_LSG_STAT_GSTATE, 6)] (w02c (⟨3, 0, 30464, 2, [], 0, [3]⟩))), (⟨3, 0, 30464, 2, [], 0, [3]⟩), by decide +kernel⟩,
    ⟨(w02c (⟨4, 5, 32000, 0, [], 0, []⟩)), (⟨4, 5, 32000, 0, [], 0, []⟩), (by intro w h; cases h), by decide +kernel⟩⟩

/-- A state, or a part of one, of the witnesses. -/
def w03c : State := (fl [(SEQ_STS 1, SEQ_STS_MSTATE, 2), (GLB_LSG_STAT 3, GLB_LSG_STAT_GSTATE, 2)] (rg [(SEQ_PROG_LEN 1, 8), (SEQ_ORIGIN 1, 16512), (SEQ_TQ 1, 16)]
    { up with img := { up.img with yards := [(1, ⟨true, 3, 0, 255, 255, 255, 255⟩)], owns := [⟨8, 1, 1, 0, 4⟩, ⟨2, 1, 1, 0, 4⟩, ⟨1, 1, 1, 0, 4⟩, ⟨6, 1, 1, 0, 8⟩] } })).modMast 1 fun zz => { zz with clk := 15952 }
/-- A state, or a part of one, of the witnesses. -/
def w03 (op f : Nat) : State := ins 1 0 (op * 2 ^ 56 + f) w03c
/-- UntimedInstructionsMoveTheCursorOrRecord: states and operands that meet the hypotheses of each clause. -/
theorem witness_UntimedInstructionsMoveTheCursorOrRecord :
    (∃ (s : State) (y : ℕ) (w : ℕ), s.ready y .nop w) ∧
    (∃ (s : State) (y : ℕ) (w : ℕ) (n : ℕ), n = s.tq y + 16 * (if bits w 55 55 = 1 then s.g y (bits w 52 48) % 2 ^ 40 else bits w 39 0) ∧ s.ready y .wait w ∧ n ≤ 2 ^ 48 - 16) ∧
    (∃ (s : State) (y : ℕ) (w : ℕ) (n : ℕ), s.ready y .syncAlign w ∧ s.tq y ≤ n ∧ n < s.tq y + 16 * 2 ^ bits w 5 0 ∧ n % (16 * 2 ^ bits w 5 0) = 0 ∧ n ≤ 2 ^ 48 - 16) ∧
    (∃ (s : State) (y : ℕ) (w : ℕ), s.ready y .result w) :=
  ⟨⟨(w03 0 0), (1), (0), by unfold State.ready; decide +kernel⟩,
    ⟨(w03 2 5), (1), (2 * 2 ^ 56 + 5), _, rfl, by unfold State.ready; decide +kernel, by decide +kernel⟩,
    ⟨(w03 3 (2 ^ 54 + 6)), (1), (3 * 2 ^ 56 + 2 ^ 54 + 6), (1024), by unfold State.ready; decide +kernel, by decide +kernel⟩,
    ⟨(w03 0x1C (5 * 2 ^ 44 + 2 ^ 33)), (1), (0x1C * 2 ^ 56 + 5 * 2 ^ 44 + 2 ^ 33), by unfold State.ready; decide +kernel⟩⟩

/-- AluMoviGetsWriteTheirLow48Bits: states and operands that meet the hypotheses of each clause. -/
theorem witness_AluMoviGetsWriteTheirLow48Bits :
    (∃ (s : State) (y : ℕ) (w : ℕ), s.ready y .movi w) ∧
    (∃ (s : State) (y : ℕ) (w : ℕ), s.ready y .gets w) ∧
    (∃ (s : State) (y : ℕ) (w : ℕ) (a : ℕ) (b : ℕ), a = s.g y (bits w 46 42) ∧ b = (if bits w 36 36 = 1 then (sgn 32 (bits w 31 0) % 2 ^ 48).toNat else s.g y (bits w 41 37)) ∧ s.ready y .alu w ∧ a < 2 ^ 48 ∧ b < 2 ^ 48) :=
  ⟨⟨(w03 0x18 (5 * 2 ^ 48 + 77)), (1), (0x18 * 2 ^ 56 + 5 * 2 ^ 48 + 77), by unfold State.ready; decide +kernel⟩,
    ⟨(w03 0x1B (2 * 2 ^ 52 + 31 * 2 ^ 47)), (1), (0x1B * 2 ^ 56 + 2 * 2 ^ 52 + 31 * 2 ^ 47), by unfold State.ready; decide +kernel⟩,
    ⟨(rg [(SEQ_G 1 2, 0xFFFFFFFFFFFF)] (w03 0x19 (7 * 2 ^ 52 + 4 * 2 ^ 47 + 2 * 2 ^ 42 + 2 ^ 36 + 0xFFFFFFFF))), (1), (0x19 * 2 ^ 56 + 7 * 2 ^ 52 + 4 * 2 ^ 47 + 2 * 2 ^ 42 + 2 ^ 36 + 0xFFFFFFFF), _, _, rfl, rfl, by unfold State.ready; decide +kernel, by decide +kernel⟩⟩

/-- BranchesAndLoopsSetThePc: states and operands that meet the hypotheses of each clause. -/
theorem witness_BranchesAndLoopsSetThePc :
    (∃ (s : State) (y : ℕ) (w : ℕ), s.ready y .br w) ∧
    (∃ (s : State) (y : ℕ) (w : ℕ) (b : ℕ), b = (if bits w 42 42 = 1 then 0 else s.g y (bits w 47 43)) ∧ s.ready y .brc w) ∧
    (∃ (s : State) (y : ℕ) (w : ℕ) (n : ℕ), n = (if bits w 53 53 = 1 then s.g y (bits w 52 48) % 2 ^ 20 else bits w 19 0) ∧ s.ready y .loop w ∧ ((∀ l ls, (s.mast y).loops = l :: ls → bits w 34 20 ≤ l.last ∧ l.first ≤ s.pc y + 1)) ∧ s.pc y + 1 ≤ bits w 34 20 ∧ ((∀ l ∈ (s.mast y).loops, l.lc ≠ bits w 55 54))) :=
  ⟨⟨(w03 8 3), (1), (8 * 2 ^ 56 + 3), by unfold State.ready; decide +kernel⟩,
    ⟨(w03 9 3), (1), (9 * 2 ^ 56 + 3), _, rfl, by unfold State.ready; decide +kernel⟩,
    ⟨(w03 0x0B (3 * 2 ^ 20 + 2)), (1), (0x0B * 2 ^ 56 + 3 * 2 ^ 20 + 2), _, rfl, by unfold State.ready; decide +kernel, (by intro l ls h; rw [show (State.mast (w03 0x0B (3 * 2 ^ 20 + 2)) 1).loops = [] by decide +kernel] at h; cases h), by decide +kernel⟩⟩

/-- LoopBodyEndCountsDown: a state and operands that meet its hypotheses. -/
theorem witness_LoopBodyEndCountsDown :
    (∃ (s : State) (y : ℕ) (w : ℕ) (l : LoopCtx) (ls : List LoopCtx), s.ready y .nop w ∧ (s.mast y).loops = l :: ls ∧ l.last = s.pc y ∧ l.first < 2 ^ 15 ∧ 0 < s.lc y l.lc ∧ s.lc y l.lc ≤ 0xFFFFF) :=
  ⟨((rg [(SEQ_LC 1 0, 1)] (w03 0 0)).modMast 1 (fun zz => { zz with loops := [⟨0, 0, 0⟩] })), (1), (0), (⟨0, 0, 0⟩), ([]), by unfold State.ready; decide +kernel, by decide +kernel⟩

/-- TimedInstructionsAreHeldForTheirRelease: states and operands that meet the hypotheses of each clause. -/
theorem witness_TimedInstructionsAreHeldForTheirRelease :
    (∃ (s : State) (y : ℕ) (w : ℕ), s.ready y .commit w ∧ s.timely y w ∧ s.tq y ≤ 2 ^ 48 - 16) ∧
    (∃ (s : State) (y : ℕ) (w : ℕ) (n : ℕ) (len : ℕ), len = s.playLen y (bits w 50 49) (bits w 48 37) ∧ n = s.tq y + (if bits w 36 36 = 1 then 16 * len else 0) ∧ s.ready y .play w ∧ s.timely y w ∧ n ≤ 2 ^ 48 - 16) ∧
    (∃ (s : State) (y : ℕ) (w : ℕ) (n : ℕ), n = s.tq y + (if bits w 47 47 = 1 then 16 * bits w 23 0 else 0) ∧ s.ready y .acq w ∧ s.timely y w ∧ n ≤ 2 ^ 48 - 16) ∧
    (∃ (s : State) (y : ℕ) (w : ℕ) (v : ℕ), v = (if bits w 51 49 = 4 then 0 else if bits w 48 48 = 1 then s.g y (bits w 47 43) % 2 ^ 40 else bits w 39 0) ∧ s.ready y .frame w ∧ s.timely y w ∧ s.tq y ≤ 2 ^ 48 - 16) ∧
    (∃ (s : State) (y : ℕ) (w : ℕ), s.ready y .bias w ∧ s.timely y w ∧ s.tq y ≤ 2 ^ 48 - 16) ∧
    (∃ (s : State) (y : ℕ) (w : ℕ), s.ready y .mark w ∧ s.timely y w ∧ s.tq y ≤ 2 ^ 48 - 16) ∧
    (∃ (s : State) (y : ℕ) (w : ℕ), s.ready y .setr w ∧ s.timely y w ∧ s.tq y ≤ 2 ^ 48 - 16) :=
  ⟨⟨(w03 5 (7 * 2 ^ 52)), (1), (5 * 2 ^ 56 + 7 * 2 ^ 52), by unfold State.ready; decide +kernel, by unfold State.timely; decide +kernel, by decide +kernel⟩,
    ⟨(w03 0x10 (2 ^ 51 + 2 ^ 36)), (1), (0x10 * 2 ^ 56 + 2 ^ 51 + 2 ^ 36), _, _, rfl, rfl, by unfold State.ready; decide +kernel, by unfold State.timely; decide +kernel, by decide +kernel⟩,
    ⟨(fl [(DEM_STS 1 0, DEM_STS_CSTATE, 2)] (w03 0x11 (2 ^ 48 + 2 ^ 47 + 8))), (1), (0x11 * 2 ^ 56 + 2 ^ 48 + 2 ^ 47 + 8), _, rfl, by unfold State.ready; decide +kernel, by unfold State.timely; decide +kernel, by decide +kernel⟩,
    ⟨(w03 0x12 (2 ^ 52 + 5)), (1), (0x12 * 2 ^ 56 + 2 ^ 52 + 5), _, rfl, by unfold State.ready; decide +kernel, by unfold State.timely; decide +kernel, by decide +kernel⟩,
    ⟨(w03 0x13 9), (1), (0x13 * 2 ^ 56 + 9), by unfold State.ready; decide +kernel, by unfold State.timely; decide +kernel, by decide +kernel⟩,
    ⟨(rg [(HAL_MRK_PIN 1, 1)] (w03 0x14 (2 ^ 53 + 2 ^ 51 + 4))), (1), (0x14 * 2 ^ 56 + 2 ^ 53 + 2 ^ 51 + 4), by unfold State.ready; decide +kernel, by unfold State.timely; decide +kernel, by decide +kernel⟩,
    ⟨(w03 0x15 (0x5000 * 2 ^ 38 + 1)), (1), (0x15 * 2 ^ 56 + 0x5000 * 2 ^ 38 + 1), by unfold State.ready; decide +kernel, by unfold State.timely; decide +kernel, by decide +kernel⟩⟩

/-- LateTimedInstructionIsAProgramFault: a state and operands that meet its hypotheses. -/
theorem witness_LateTimedInstructionIsAProgramFault :
    (∃ (s : State) (y : ℕ) (w : ℕ) (o : MOp) (i : Instr), s.ready y o w ∧ (o, i) ∈ [(MOp.frame, Instr.frame y), (.bias, .bias y), (.mark, .mark y), (.setr, .setr y), (.commit, .commit y), (.play, .play y), (.acq, .acq y)] ∧ s.issueErr y w = 0 ∧ 20 ≤ s.fld (SEQ_CTL y) SEQ_CTL_AHEAD_MAX ∧ s.origin y + s.tq y - 256 < s.issueTime y + 64) :=
  ⟨(rg [(SEQ_ORIGIN 1, 16271)] (w03 0x12 (2 ^ 52 + 5))), (1), (0x12 * 2 ^ 56 + 2 ^ 52 + 5), (.frame), (Instr.frame 1), by unfold State.ready; decide +kernel, by decide +kernel⟩

/-- WaitsAndStallsBegin: states and operands that meet the hypotheses of each clause. -/
theorem witness_WaitsAndStallsBegin :
    (∃ (s : State) (y : ℕ) (w : ℕ), s.ready y .end_ w) ∧
    (∃ (s : State) (y : ℕ) (w : ℕ), s.ready y .syncGroup w) ∧
    (∃ (s : State) (y : ℕ) (w : ℕ), s.ready y .syncTrig w ∧ s.issueErr y w = 0) ∧
    (∃ (s : State) (y : ℕ) (w : ℕ), s.ready y .fence w) ∧
    (∃ (s : State) (y : ℕ) (w : ℕ), s.ready y .ldd w ∧ s.issueErr y w = 0) ∧
    (∃ (s : State) (y : ℕ) (w : ℕ) (fs : List Staged) (ts : List Staged) (t1 : ℕ) (t2 : ℕ), s.ready y .waitd w ∧ s.issueErr y w = 0 ∧ stageRun y s 2 (s.pc y + 1) (s.issueTime y) = (fs, t1, none) ∧ stageRun y s 2 (bits w 14 0) t1 = (ts, t2, none) ∧ s.reached t2 = true) :=
  ⟨⟨(w03 1 1), (1), (2 ^ 56 + 1), by unfold State.ready; decide +kernel⟩,
    ⟨(w03 3 (2 ^ 22)), (1), (3 * 2 ^ 56 + 2 ^ 22), by unfold State.ready; decide +kernel⟩,
    ⟨(w03 3 (2 ^ 53 + 3 * 2 ^ 49 + 2 ^ 22)), (1), (3 * 2 ^ 56 + 2 ^ 53 + 3 * 2 ^ 49 + 2 ^ 22), by unfold State.ready; decide +kernel, by decide +kernel⟩,
    ⟨(w03 4 0), (1), (4 * 2 ^ 56), by unfold State.ready; decide +kernel⟩,
    ⟨(w03 0x1A (3 * 2 ^ 46 + 31 * 2 ^ 41)), (1), (0x1A * 2 ^ 56 + 3 * 2 ^ 46 + 31 * 2 ^ 41), by unfold State.ready; decide +kernel, by decide +kernel⟩,
    ⟨(w03 0x0A (3 * 2 ^ 46 + 2 ^ 42 + 100 * 2 ^ 16 + 5)), (1), (0x0A * 2 ^ 56 + 3 * 2 ^ 46 + 2 ^ 42 + 100 * 2 ^ 16 + 5), ([]), ([]), (16000), (16000), by unfold State.ready; decide +kernel, by decide +kernel⟩⟩

/-- A state, or a part of one, of the witnesses. -/
def w03w (f : Mast → Mast) : State := (fl [(SEQ_STS 1, SEQ_STS_MSTATE, 5)] (w03 3 0)).modMast 1 f
/-- WaitsAndStallsEnd: states and operands that meet the hypotheses of each clause. -/
theorem witness_WaitsAndStallsEnd :
    (∃ (s : State) (y : ℕ) (u : ℕ), (s.mast y).hold = .ahead u ∧ s.reached u = true) ∧
    (∃ (s : State) (y : ℕ), (s.mast y).hold = .fence ∧ s.fenceOk y = true ∧ (s.mast y).loops = []) ∧
    (∃ (s : State) (y : ℕ) (slot : ℕ) (gd : ℕ) (u : ℕ), (s.mast y).hold = .ldd slot gd u ∧ gd < 32 ∧ s.reached u = true ∧ s.slotMay y slot = true ∧ (s.mast y).loops = []) ∧
    (∃ (s : State) (y : ℕ) (x : SyncW) (e : ℕ) (n : ℕ), n = ceilFt (ceilFt (e + 768) - s.origin y) ∧ (s.mast y).sync = some x ∧ x.mode = 1 ∧ (s.mast y).hold = .none ∧ (s.mast y).loops = [] ∧ ((tget s.cnv.trigEv (2 * x.trig + x.edge)).filter fun e => decide (x.at_ ≤ e)).getLast? = some e ∧ s.yardMay y 2 x.trig = true ∧ e + 768 ≤ x.until_ ∧ s.reached (e + 768) = true ∧ n ≤ 2 ^ 48 - 16) ∧
    (∃ (s : State) (y : ℕ) (x : SyncW) (m : ℕ), (s.mast y).sync = some x ∧ x.mode = 0 ∧ ((∀ z ∈ s.members (s.groupOf y), s.atSyncGroup z = true ∧ s.syncInTime z = true ∧ (s.mast z).clk ≤ s.tb1 + 16 ∧ (s.mast z).hold = .none ∧ (s.mast z).loops = [] ∧ s.syncCursor z ≤ m ∧ ceilFt (max m (s.tb1 + 768) - s.origin z) ≤ 2 ^ 48 - 16)) ∧ ((m = 0 ∨ ∃ z ∈ s.members (s.groupOf y), s.syncCursor z = m))) :=
  ⟨⟨(w03w (fun zz => { zz with hold := .ahead 16000 })), (1), (16000), by decide +kernel⟩,
    ⟨(w03w (fun zz => { zz with hold := .fence })), (1), by decide +kernel⟩,
    ⟨(w03w (fun zz => { zz with hold := .ldd 3 31 16000 })), (1), (3), (31), (16000), by decide +kernel⟩,
    ⟨({ w03w (fun zz => { zz with sync := some ⟨1, 3, 0, 15968, 16000, 15200⟩ }) with cnv := { up.cnv with trigEv := [(6, [15200])] }, regs := (rg [(SEQ_ORIGIN 1, 15000)] (w03w id)).regs }), (1), (⟨1, 3, 0, 15968, 16000, 15200⟩), (15200), _, rfl, by decide +kernel⟩,
    ⟨({ w03w (fun zz => { zz with sync := some ⟨0, 0, 0, 16000, 17000, 15200⟩ }) with regs := (rg [(SEQ_ORIGIN 1, 15000)] (w03w id)).regs }), (1), (⟨0, 0, 0, 16000, 17000, 15200⟩), (17000), by decide +kernel⟩⟩

/-- A state, or a part of one, of the witnesses. -/
def w03d (dec dflt : Nat) : State := let s := (fl [(SEQ_STS 1, SEQ_STS_MSTATE, 4), (SHT_SLOT 3, SHT_SLOT_DEC, dec)] (rg [(SEQ_ORIGIN 1, 15000)] (w03 0x0A 0))).modMast 1 fun zz => { zz with waitd := some ⟨3, dflt, 1, false, 15500, 16000, 5, 0, 15900, [], []⟩ }
  { s with cnv := { s.cnv with rels := [(3, [(16000, dec)])] } }
/-- WaitdTakesThePathOfItsDecision: states and operands that meet the hypotheses of each clause. -/
theorem witness_WaitdTakesThePathOfItsDecision :
    (∃ (s : State) (y : ℕ) (x : WaitD) (r : ℕ) (v : ℕ) (d : ℕ) (toTarget : Bool), d = ceilFt r ∧ s.mst y = 4 ∧ (s.mast y).hold = .none ∧ (s.mast y).waitd = some x ∧ s.slotMay y x.slot = true ∧ ((tget s.cnv.rels x.slot).filter fun r => bit r.2 2 && decide (x.from_ ≤ r.1) && decide (r.1 ≤ x.deadline)).getLast? = some (r, v) ∧ ¬ (x.lqd = true ∧ bit v 4 = true ∧ x.dflt = 2) ∧ (toTarget = true ↔ if x.lqd = true ∧ bit v 4 = true then x.dflt = 1 else v % 4 = x.st ∧ x.st ≠ 3) ∧ (((x.stagedT = [] ∧ x.stagedF = []) ∨ x.clk + 32 ≤ d)) ∧ (if toTarget = true then x.stagedT else x.stagedF) = [] ∧ d + 288 - s.origin y < 2 ^ 48 ∧ x.target < 2 ^ 15) ∧
    (∃ (s : State) (y : ℕ) (x : WaitD), s.mst y = 4 ∧ (s.mast y).hold = .none ∧ (s.mast y).waitd = some x ∧ ((∀ r ∈ tget s.cnv.rels x.slot, ¬ (bit r.2 2 = true ∧ x.from_ ≤ r.1 ∧ r.1 ≤ x.deadline))) ∧ s.reached x.deadline = true ∧ x.dflt ≠ 2 ∧ (((x.stagedT = [] ∧ x.stagedF = []) ∨ x.clk + 32 ≤ x.deadline)) ∧ (if x.dflt = 1 then x.stagedT else x.stagedF) = [] ∧ x.deadline + 288 - s.origin y < 2 ^ 48 ∧ x.target < 2 ^ 15) ∧
    (∃ (s : State) (y : ℕ) (x : WaitD), s.mst y = 4 ∧ (s.mast y).hold = .none ∧ (s.mast y).waitd = some x ∧ ((∀ r ∈ tget s.cnv.rels x.slot, ¬ (bit r.2 2 = true ∧ x.from_ ≤ r.1 ∧ r.1 ≤ x.deadline))) ∧ s.reached x.deadline = true ∧ x.dflt = 2) ∧
    (∃ (s : State) (y : ℕ) (x : SyncW), (s.mast y).sync = some x ∧ x.until_ < s.tb1) :=
  ⟨⟨(w03d 5 0), (1), (⟨3, 0, 1, false, 15500, 16000, 5, 0, 15900, [], []⟩), (16000), (5), _, (true), rfl, by decide +kernel⟩,
    ⟨(w03d 1 1), (1), (⟨3, 1, 1, false, 15500, 16000, 5, 0, 15900, [], []⟩), by decide +kernel⟩,
    ⟨(w03d 1 2), (1), (⟨3, 2, 1, false, 15500, 16000, 5, 0, 15900, [], []⟩), by decide +kernel⟩,
    ⟨(w03w (fun zz => { zz with sync := some ⟨0, 0, 0, 15999, 17000, 15200⟩ })), (1), (⟨0, 0, 0, 15999, 17000, 15200⟩), by decide +kernel⟩⟩

/-- A state, or a part of one, of the witnesses. -/
def w04 : State := rg [(UC_LEN 1, 184), (UC_VER 1, 3 * 2 ^ 16)] (yd 1 3 0 up)
/-- A state, or a part of one, of the witnesses. -/
def w04h : List (BitVec 8) := leBytes 4 0x54504355 ++ leBytes 4 1 ++ leBytes 2 3 ++ leBytes 2 7 ++ leBytes 2 1 ++ leBytes 2 1 ++ leBytes 4 184
  ++ leBytes 4 0xB63CFBCD ++ leBytes 40 0 ++ [1#8, 2#8, 0#8, 0#8, 0#8, 0x20#8, 0#8, 0#8]
/-- A state, or a part of one, of the witnesses. -/
def w04l (f : Bool) (l c : Nat) : State := w04.modMast 1 fun zz => { zz with ucLoad := some ⟨f, l, 1, c, [⟨1, 2, 0, 0x2000⟩]⟩, ucMap := [⟨1, 3, 0, 0x2000⟩], ucWords := 1, ucCrc := 0x2144DF1C }
/-- MicrocodePatchesLoadVerifyAndLeave: states and operands that meet the hypotheses of each clause. -/
theorem witness_MicrocodePatchesLoadVerifyAndLeave :
    (∃ (s : State) (y : ℕ), s.opens (UC_CTL y) ∧ ((s.dev = dCONFIG ∨ s.dev = dREADY ∨ s.dev = dRUN)) ∧ s.ucBusy y = false ∧ 0 < s.fld (UC_LEN y) UC_LEN_LEN ∧ s.fld (UC_LEN y) UC_LEN_LEN ≤ 12288 ∧ s.rdN (UC_SRC y) % 8 = 0 ∧ s.rdN (UC_SRC y) + s.fld (UC_LEN y) UC_LEN_LEN ≤ 2 ^ 64) ∧
    (∃ (s : State) (y : ℕ), s.opens (UC_CTL y) ∧ ((s.dev = dCONFIG ∨ s.dev = dREADY ∨ s.dev = dRUN)) ∧ s.ucBusy y = true) ∧
    (∃ (s : State) (y : ℕ) (bs : List (BitVec 8)) (l : UcLoad), (s.mast y).ucLoad = some l ∧ l.body = false ∧ s.headerErr y bs = 0) ∧
    (∃ (s : State) (y : ℕ) (bs : List (BitVec 8)) (l : UcLoad), (s.mast y).ucLoad = some l ∧ l.body = false ∧ s.headerErr y bs ≠ 0 ∧ l.level < 8) ∧
    (∃ (s : State) (y : ℕ) (body : List (BitVec 8)) (ecc : ℕ) (l : UcLoad), (s.mast y).ucLoad = some l ∧ l.body = true ∧ l.level < 2 ^ 16 ∧ s.ucSealed y = false ∧ l.crc < 2 ^ 64 ∧ ecc < 2 ∧ crc32 (ldList (stList s.seq.patch (8192 * y) (body.take (4 * l.words))) (8192 * y) (4 * l.words)) = l.crc) ∧
    (∃ (s : State) (y : ℕ) (l : UcLoad), (s.mast y).ucLoad = some l ∧ l.body = true) ∧
    (∃ (s : State) (y : ℕ), s.opens (UC_CTL y) ∧ s.ucBusy y = false) ∧
    (∃ (s : State) (y : ℕ) (c : ℕ) (ecc : ℕ), c = crc32 (ldList s.seq.patch (8192 * y) (4 * (s.mast y).ucWords)) ∧ s.opens (UC_CTL y) ∧ ecc < 3) :=
  ⟨⟨(w04), (1), by unfold State.opens; decide +kernel, by decide +kernel⟩,
    ⟨(fl [(GLB_LSG_STAT 3, GLB_LSG_STAT_GSTATE, 2)] w04), (1), by unfold State.opens; decide +kernel, by decide +kernel⟩,
    ⟨(w04l false 3 0), (1), (w04h), (⟨false, 3, 1, 0, [⟨1, 2, 0, 0x2000⟩]⟩), by decide +kernel⟩,
    ⟨(w04l false 3 0), (1), ([]), (⟨false, 3, 1, 0, [⟨1, 2, 0, 0x2000⟩]⟩), by decide +kernel⟩,
    ⟨(w04l true 7 0xB63CFBCD), (1), ([1#8, 2#8, 3#8, 4#8, 5#8]), (1), (⟨true, 7, 1, 0xB63CFBCD, [⟨1, 2, 0, 0x2000⟩]⟩), by decide +kernel⟩,
    ⟨(w04l true 7 0xB63CFBCD), (1), (⟨true, 7, 1, 0xB63CFBCD, [⟨1, 2, 0, 0x2000⟩]⟩), by decide +kernel⟩,
    ⟨(w04l false 7 0), (1), by unfold State.opens; decide +kernel, by decide +kernel⟩,
    ⟨(w04l false 7 0), (1), _, (2), rfl, by unfold State.opens; decide +kernel, by decide +kernel⟩⟩

/-- A state, or a part of one, of the witnesses. -/
def w05g (st : SegState) (u : Nat) : Seg := ⟨0, 16, 4, true, 2, st, u, 0, 0⟩
/-- A state, or a part of one, of the witnesses. -/
def w05 (st : SegState) (u : Nat) : State := let s := own 0x0A 1 1 0 8 (rg [(HAL_SEG_IDX 1, 3)] (yd 1 3 0 up))
  { s with hal := { s.hal with segs := [(3, w05g st u)] } }
/-- SegmentTableCommandsAndSampleWrites: states and operands that meet the hypotheses of each clause. -/
theorem witness_SegmentTableCommandsAndSampleWrites :
    (∃ (s : State) (y : ℕ), s.opens (HAL_SEG_IDX y)) ∧
    (∃ (s : State) (y : ℕ) (i : ℕ), i = s.fld (HAL_SEG_IDX y) HAL_SEG_IDX_IDX ∧ s.opens (HAL_SEG_CTL y) ∧ s.segStale y i = false ∧ (s.seg (quad y) i).state ≠ .loading) ∧
    (∃ (s : State) (y : ℕ) (i : ℕ), i = s.fld (HAL_SEG_IDX y) HAL_SEG_IDX_IDX ∧ s.opens (HAL_SEG_CTL y) ∧ ((s.segStale y i = true ∨ (s.seg (quad y) i).state = .loading))) ∧
    (∃ (s : State) (y : ℕ) (i : ℕ) (start : ℕ) (len : ℕ) (count : ℕ), i = s.fld (HAL_SEG_IDX y) HAL_SEG_IDX_IDX ∧ start = s.fld (HAL_SEG_START y) HAL_SEG_START_START ∧ len = s.fld (HAL_SEG_LEN y) HAL_SEG_LEN_LEN ∧ count = s.fld (HAL_SEG_LOOP y) HAL_SEG_LOOP_COUNT ∧ s.opens (HAL_SEG_CTL y) ∧ s.segStale y i = false ∧ (((s.seg (quad y) i).state = .free ∨ (s.seg (quad y) i).state = .ready)) ∧ start % 8 = 0 ∧ 0 < len ∧ 0 < count ∧ start + 8 * len ≤ 2097152 ∧ ((∀ p ∈ segPages (quad y) start len, s.yardMay y 0x0A p = true))) ∧
    (∃ (s : State) (q : ℕ) (i : ℕ), ((∀ p, s.partOfInst 0x0A (512 * q + i / 4096) = some p → s.closed p = false)) ∧ s.sampleFree q i = true) ∧
    (∃ (s : State) (q : ℕ) (i : ℕ), ((∀ p, s.partOfInst 0x0A (512 * q + i / 4096) = some p → s.closed p = false)) ∧ s.sampleFree q i = false) :=
  ⟨⟨(w05 .ready 0), (1), by unfold State.opens; decide +kernel⟩,
    ⟨(w05 .active 1), (1), _, rfl, by unfold State.opens; decide +kernel, by decide +kernel⟩,
    ⟨(w05 .loading 0), (1), _, rfl, by unfold State.opens; decide +kernel, by decide +kernel⟩,
    ⟨(rg [(HAL_SEG_START 1, 4096), (HAL_SEG_LEN 1, 512), (HAL_SEG_LOOP 1, 3), (HAL_SEG_LINK 1, 7)] (w05 .free 0)), (1), _, _, _, _, rfl, rfl, rfl, rfl, by unfold State.opens; decide +kernel, by decide +kernel⟩,
    ⟨(w05 .ready 0), (0), (127), (by intro p h; rw [show State.partOfInst ((w05 .ready 0)) 0x0A (512 * ((0)) + ((127)) / 4096) = some 0 by decide +kernel] at h; cases h; decide +kernel), by decide +kernel⟩,
    ⟨(w05 .active 1), (0), (127), (by intro p h; rw [show State.partOfInst ((w05 .active 1)) 0x0A (512 * ((0)) + ((127)) / 4096) = some 0 by decide +kernel] at h; cases h; decide +kernel), by decide +kernel⟩⟩

/-- A state, or a part of one, of the witnesses. -/
def w05p (p : Option SegPlan) (b : Nat) : Play := { (default : Play) with src := 0, id := 3, r := 15000, entry := w05g .ready 0, passes := some 4, bound := b, plan := p }
/-- A state, or a part of one, of the witnesses. -/
def w05b (s : State) : State := { s with clock := ⟨32015, 16015⟩ }
/-- A state, or a part of one, of the witnesses. -/
def w05r (src id : Nat) : State := let s := w05b (w05 .ready 0)
  { s with hal := { s.hal with reqs := [⟨1, 2, 16048, 5, src, id, 9, none⟩] } }
/-- A state, or a part of one, of the witnesses. -/
def w05t (p : Play) : State := (w05 .active 1).setTgt 1 2 ⟨some p, none⟩
/-- PlaysAreCapturedChainedJumpedAndEnded: states and operands that meet the hypotheses of each clause. -/
theorem witness_PlaysAreCapturedChainedJumpedAndEnded :
    (∃ (s : State) (y : ℕ) (t₀ : ℕ) (r : PlayReq), ((∀ p, (s.tgt y t₀).play = some p → p.badDue s.tb1 = false)) ∧ s.capReq y t₀ = some r ∧ s.playCheck y r.src r.id = 0 ∧ s.hal.reqs.all (fun q => match q.cap with | some p => !p.badDue s.tb1 | none => true) = true) ∧
    (∃ (s : State) (y : ℕ) (t₀ : ℕ) (r : PlayReq), s.capReq y t₀ = some r ∧ s.playCheck y r.src r.id ≠ 0) ∧
    (∃ (s : State) (y : ℕ) (t₀ : ℕ) (r : PlayReq), s.capReq y t₀ = some r ∧ s.playCheck y r.src r.id = 0 ∧ r.src ≠ 1 ∧ (s.tgt y t₀).play = none ∧ s.hal.reqs.all (fun q => match q.cap with | some p => !p.badDue s.tb1 | none => true) = true) ∧
    (∃ (s : State) (y : ℕ) (t₀ : ℕ) (p : Play), ((∀ c i, s.boundaryGoal y t₀ p ≠ .fail c i)) ∧ (s.tgt y t₀).play = some p ∧ p.src = 0 ∧ p.plan = none ∧ s.reached (p.bound - 48 + 15) = true ∧ p.badDue s.tb1 = false ∧ s.hal.reqs.all (fun q => match q.cap with | some p => !p.badDue s.tb1 | none => true) = true) ∧
    (∃ (s : State) (y : ℕ) (t₀ : ℕ) (p : Play), (s.tgt y t₀).play = some p ∧ p.src = 0 ∧ p.plan = some .again ∧ s.reached p.bound = true ∧ s.playDue y t₀ p.bound = false ∧ (s.tgt y t₀).jump = none) ∧
    (∃ (s : State) (y : ℕ) (t₀ : ℕ) (p : Play), (s.tgt y t₀).play = some p ∧ p.src = 0 ∧ p.plan = some .stop ∧ s.reached p.bound = true ∧ s.playDue y t₀ p.bound = false ∧ (s.tgt y t₀).jump = none ∧ t₀ < 20) ∧
    (∃ (s : State) (y : ℕ) (t₀ : ℕ) (p : Play), s.opens (HAL_JUMP y t₀) ∧ t₀ < 20 ∧ (s.tgt y t₀).play = some p ∧ p.src = 0) ∧
    (∃ (s : State) (y : ℕ) (t₀ : ℕ), s.opens (HAL_JUMP y t₀) ∧ t₀ < 20 ∧ (s.tgt y t₀).play = none) ∧
    (∃ (s : State) (y : ℕ) (t₀ : ℕ) (p : Play), (s.tgt y t₀).play = some p ∧ p.src ≠ 0 ∧ p.plan = none ∧ s.starvedTgt y t₀ = false ∧ s.reached p.stop = true ∧ t₀ < 20) ∧
    (∃ (s : State) (y : ℕ) (t₀ : ℕ) (p : Play), (s.tgt y t₀).play = some p ∧ p.src ≠ 0 ∧ s.starvedTgt y t₀ = true ∧ s.reached p.stop = true) :=
  ⟨⟨(w05r 0 3), (1), (2), (⟨1, 2, 16048, 5, 0, 3, 9, none⟩), (by intro p h; rw [show (State.tgt (w05r 0 3) (1) (2)).play = none by decide +kernel] at h; cases h), by decide +kernel⟩,
    ⟨(w05r 1 64), (1), (2), (⟨1, 2, 16048, 5, 1, 64, 9, none⟩), by decide +kernel⟩,
    ⟨(w05r 0 3), (1), (2), (⟨1, 2, 16048, 5, 0, 3, 9, none⟩), by decide +kernel⟩,
    ⟨(w05b (w05t (w05p none 16048))), (1), (2), (w05p none 16048), (by intro c i h; rw [show State.boundaryGoal ((w05b (w05t (w05p none 16048)))) ((1)) ((2)) ((w05p none 16048)) = .again by decide +kernel] at h; cases h), by decide +kernel⟩,
    ⟨(w05t (w05p (some .again) 16000)), (1), (2), (w05p (some .again) 16000), by decide +kernel⟩,
    ⟨(w05t (w05p (some .stop) 16000)), (1), (2), (w05p (some .stop) 16000), by decide +kernel⟩,
    ⟨(w05t (w05p none 16048)), (1), (2), (w05p none 16048), by unfold State.opens; decide +kernel, by decide +kernel⟩,
    ⟨(w05 .ready 0), (1), (2), by unfold State.opens; decide +kernel, by decide +kernel⟩,
    ⟨(w05t { w05p none 0 with src := 1, stop := 16000 }), (1), (2), ({ w05p none 0 with src := 1, stop := 16000 }), by decide +kernel⟩,
    ⟨(fl [(HAL_TGT_STS 1 2, HAL_TGT_STS_TSTATE, 4)] (w05t { w05p none 0 with src := 2, stop := 16000 })), (1), (2), ({ w05p none 0 with src := 2, stop := 16000 }), by decide +kernel⟩⟩

/-- A state, or a part of one, of the witnesses. -/
def w05s (en rp wp sk : Nat) : State := (own 6 1 1 0 4 (fl [(HAL_STR_CTL 1 0, HAL_STR_CTL_EN, en), (HAL_STR_STS 1 0, HAL_STR_STS_RUNNING, en)] (w05 .ready 0))).setStrm 1 0 ⟨wp, rp, 0, sk, 4, 3, 2, none⟩
/-- A state, or a part of one, of the witnesses. -/
def w05q (wp : Nat) : State := let s := w05b (w05s 1 0 wp 1)
  { s with hal := { s.hal with reqs := [⟨1, 2, 16048, 5, 2, 0, 9, some { (default : Play) with src := 2 }⟩] } }
/-- A state, or a part of one, of the witnesses. -/
def w05h : State := let s := w05s 1 0 2 1
  { s with bus := { s.bus with held := [⟨16000, 1, 1, .posted, .batch 1 0 2⟩] } }
/-- A state, or a part of one, of the witnesses. -/
def w05m (es : List (Nat × Bool × Nat)) (lv : Bool) (la lo : Option Nat) : State := let s := rg [(HAL_MRK_PIN 1, 7)] (yd 1 3 0 up)
  { s with hal := { s.hal with pins := [(7, { (default : Pin) with level := lv, last := la, edges := es, lowAt := lo })] } }
/-- StreamsAndMarkersMoveOn: states and operands that meet the hypotheses of each clause. -/
theorem witness_StreamsAndMarkersMoveOn :
    (∃ (s : State) (y : ℕ) (c : ℕ) (v : ℕ) (e : Seg), e = s.seg (quad y) (bits v 11 0) ∧ s.opens (HAL_STR_CTL y c) ∧ c < 2 ∧ bit v 31 = true ∧ s.yIdle y = true ∧ s.flag (HAL_STR_CTL y c) HAL_STR_CTL_EN = false ∧ e.state = .ready ∧ 0 < bits v 27 16 ∧ e.len % bits v 27 16 = 0 ∧ 2 * bits v 27 16 ≤ e.len ∧ s.yardMay y 6 (s.fld (HAL_STR_QID y c) (0, 18)) = true ∧ v < 2 ^ 32) ∧
    (∃ (s : State) (y : ℕ) (c : ℕ) (v : ℕ), s.opens (HAL_STR_CTL y c) ∧ c < 2 ∧ s.yIdle y = true ∧ s.flag (HAL_STR_STS y c) HAL_STR_STS_RUNNING = true ∧ bit v 31 = false) ∧
    (∃ (s : State) (y : ℕ) (c : ℕ) (v : ℕ), s.opens (HAL_STR_CTL y c) ∧ c < 2 ∧ s.yIdle y = true ∧ s.flag (HAL_STR_STS y c) HAL_STR_STS_RUNNING = false ∧ bit v 31 = false) ∧
    (∃ (s : State) (y : ℕ) (c : ℕ) (v : ℕ), s.opens (HAL_STR_CTL y c) ∧ c < 2 ∧ s.yIdle y = false ∧ s.flag (HAL_STR_CTL y c) HAL_STR_CTL_EN = true ∧ bit v 31 = false) ∧
    (∃ (s : State) (y : ℕ) (c : ℕ) (n : ℕ) (rel : ℕ) (src : ℕ) (dst : ℕ) (cls : TClass), c < 2 ∧ s.bus.held.find? (fun i => match i.act with | .batch y' c' _ => y' == y && c' == c && s.due i.rel | _ => false) = some ⟨rel, src, dst, cls, .batch y c n⟩) ∧
    (∃ (s : State) (y : ℕ) (c : ℕ) (u : ℕ) (n : ℕ), s.bus.held = [] ∧ s.hal.batches = [(u, y, c, n)] ∧ u ≤ s.clock.now) ∧
    (∃ (s : State) (y : ℕ) (t₀ : ℕ) (r : PlayReq), s.hal.reqs.find? (fun q => q.y == y && q.tgt == t₀ && s.addressing q) = some r ∧ s.hal.reqs.find? (fun q => q.y == y && q.id == r.id && s.addressing q) = some r ∧ r.id < 2 ∧ (s.strm y r.id).starved = none ∧ (s.strm y r.id).rp < (s.strm y r.id).wp) ∧
    (∃ (s : State) (y : ℕ) (t₀ : ℕ) (r : PlayReq), s.hal.reqs.find? (fun q => q.y == y && q.tgt == t₀ && s.addressing q) = some r ∧ s.hal.reqs.find? (fun q => q.y == y && q.id == r.id && s.addressing q) = some r ∧ r.id < 2 ∧ (s.strm y r.id).starved = none ∧ (s.strm y r.id).wp ≤ (s.strm y r.id).rp) ∧
    (∃ (s : State) (pin : ℕ) (τ : ℕ) (up : Bool) (y : ℕ) (rest : List (ℕ × Bool × ℕ)), ((∀ l, (s.pin pin).lowAt = some l → τ < l)) ∧ ((∀ l, (s.pin pin).last = some l → l + 64 ≤ τ)) ∧ (s.pin pin).edges = (τ, up, y) :: rest ∧ τ / 8 ≤ s.clock.now ∧ (s.pin pin).level ≠ up) ∧
    (∃ (s : State) (pin : ℕ) (τ : ℕ) (up : Bool) (y : ℕ) (rest : List (ℕ × Bool × ℕ)), ((∀ l, (s.pin pin).lowAt = some l → τ < l)) ∧ (s.pin pin).edges = (τ, up, y) :: rest ∧ τ / 8 ≤ s.clock.now ∧ (s.pin pin).level = up) ∧
    (∃ (s : State) (pin : ℕ) (τ : ℕ) (up : Bool) (y : ℕ) (rest : List (ℕ × Bool × ℕ)) (l : ℕ), ((∀ k, (s.pin pin).lowAt = some k → τ < k)) ∧ (s.pin pin).edges = (τ, up, y) :: rest ∧ τ / 8 ≤ s.clock.now ∧ (s.pin pin).level ≠ up ∧ (s.pin pin).last = some l ∧ τ < l + 64) ∧
    (∃ (s : State) (pin : ℕ) (l : ℕ), (s.pin pin).edges = [] ∧ (s.pin pin).lowAt = some l ∧ l / 8 ≤ s.clock.now) ∧
    (∃ (s : State) (pin : ℕ), ((∀ l, (s.pin pin).last = some l → l + 64 ≤ s.clock.now * 8)) ∧ s.dev ≠ dRUN ∧ (s.pin pin).level = true ∧ (s.pin pin).edges = [] ∧ (s.pin pin).lowAt = none) :=
  ⟨⟨({ w05s 0 0 0 0 with hal := { (w05s 0 0 0 0).hal with strms := [] } }), (1), (0), (2 ^ 31 + 4 * 2 ^ 16 + 3), _, rfl, by unfold State.opens; decide +kernel, by decide +kernel⟩,
    ⟨(w05s 1 0 0 0), (1), (0), (3), by unfold State.opens; decide +kernel, by decide +kernel⟩,
    ⟨(w05s 0 0 0 0), (1), (0), (3), by unfold State.opens; decide +kernel, by decide +kernel⟩,
    ⟨(fl [(GLB_LSG_STAT 3, GLB_LSG_STAT_GSTATE, 1)] (w05s 1 0 0 0)), (1), (0), (3), by unfold State.opens; decide +kernel, by decide +kernel⟩,
    ⟨(w05h), (1), (0), (2), (16000), (1), (1), (.posted), by decide +kernel⟩,
    ⟨({ w05s 1 0 2 1 with hal := { (w05s 1 0 2 1).hal with batches := [(32000, 1, 0, 3)] } }), (1), (0), (32000), (3), by decide +kernel⟩,
    ⟨(w05q 2), (1), (2), (⟨1, 2, 16048, 5, 2, 0, 9, some { (default : Play) with src := 2 }⟩), by decide +kernel⟩,
    ⟨(w05q 0), (1), (2), (⟨1, 2, 16048, 5, 2, 0, 9, some { (default : Play) with src := 2 }⟩), by decide +kernel⟩,
    ⟨(w05m [(256000, true, 1), (256999, false, 1)] false (some 255936) none), (7), (256000), (true), (1), ([(256999, false, 1)]), (by intro l h; rw [show (((w05m [(256000, true, 1), (256999, false, 1)] false (some 255936) none)).pin ((7))).lowAt = none by decide +kernel] at h; cases h), (by intro l h; rw [show (((w05m [(256000, true, 1), (256999, false, 1)] false (some 255936) none)).pin ((7))).last = some 255936 by decide +kernel] at h; cases h; decide), by decide +kernel⟩,
    ⟨(w05m [(256000, true, 1)] true none none), (7), (256000), (true), (1), ([]), (by intro l h; rw [show (((w05m [(256000, true, 1)] true none none)).pin ((7))).lowAt = none by decide +kernel] at h; cases h), by decide +kernel⟩,
    ⟨(w05m [(256000, true, 1), (256999, false, 1)] false (some 255937) none), (7), (256000), (true), (1), ([(256999, false, 1)]), (255937), (by intro k h; rw [show (((w05m [(256000, true, 1), (256999, false, 1)] false (some 255937) none)).pin ((7))).lowAt = none by decide +kernel] at h; cases h), by decide +kernel⟩,
    ⟨(w05m [] true none (some 256000)), (7), (256000), by decide +kernel⟩,
    ⟨(w05m [] true none none), (7), (by intro l h; rw [show (((w05m [] true none none)).pin ((7))).last = none by decide +kernel] at h; cases h), by decide +kernel⟩⟩

/-- A state, or a part of one, of the witnesses. -/
def w06 (t : Nat) : Item := ⟨16000, 0x50, 1, .fb, .corr 1 t true true 0⟩
/-- A state, or a part of one, of the witnesses. -/
def w06s (t : Nat) : State := { y1 with bus := { y1.bus with held := [w06 t] } }
/-- FramesShadowsAndHandOverCommands: states and operands that meet the hypotheses of each clause. -/
theorem witness_FramesShadowsAndHandOverCommands :
    (∃ (s : State) (y : ℕ) (i : Item) (t : ℕ) (x : Bool) (z : Bool) (ctx : ℕ), s.corrDue y = some i ∧ i.act = .corr y t x z ctx ∧ t < 8 ∧ s.tgtEn y t = true) ∧
    (∃ (s : State) (y : ℕ) (i : Item) (t : ℕ) (x : Bool) (z : Bool) (ctx : ℕ), s.corrDue y = some i ∧ i.act = .corr y t x z ctx ∧ ((8 ≤ t ∨ s.tgtEn y t = false))) ∧
    (∃ (s : State) (y : ℕ) (off : ℕ) (v : ℕ) (a : ℕ) (c : ℕ), a = 0x1000000 + 0x40000 * y + off ∧ s.opens a ∧ c < 4 ∧ a ∈ shdRegs y c ∧ isShd a = true ∧ txpOdd y a = false ∧ shdCheck y a v = 0 ∧ s.shSt y c ≠ shSEALED) ∧
    (∃ (s : State) (y : ℕ) (off : ℕ) (v : ℕ) (a : ℕ) (c : ℕ), a = 0x1000000 + 0x40000 * y + off ∧ s.opens a ∧ c < 4 ∧ a ∈ shdRegs y c ∧ isShd a = true ∧ txpOdd y a = false ∧ shdCheck y a v = 0 ∧ s.shSt y c = shSEALED) ∧
    (∃ (s : State) (y : ℕ), s.opens (TON_SHD_CTL y)) ∧
    (∃ (s : State) (y : ℕ) (m : ℕ) (h : ℕ), h = ceilFt (if s.rdN (TON_HO_REL y) = 0 then s.tb1 + 2560 else s.rdN (TON_HO_REL y)) ∧ s.opens (TON_HO_CMD y) ∧ m % 16 ≠ 0 ∧ s.tb1Run = true ∧ s.flag (TON_HO_STS y) TON_HO_STS_PENDING = false ∧ ((s.rdN (TON_HO_REL y) = 0 ∨ s.tb1 + 2560 ≤ s.rdN (TON_HO_REL y)))) ∧
    (∃ (s : State) (y : ℕ) (m : ℕ), s.opens (TON_HO_CMD y) ∧ m % 16 ≠ 0 ∧ s.tb1Run = true ∧ s.flag (TON_HO_STS y) TON_HO_STS_PENDING = true) ∧
    (∃ (s : State) (k : ℕ) (i : ℕ) (ts : List (ℕ × ℕ)) (y : ℕ) (cfg : Word) (v : ℤ) (code : ℤ), k < 2 ∧ y = outYard k i ∧ y < 64 ∧ cfg = s.actAt y 0 (if k = 0 then TON_TXD_CFG y else TON_TXP_CFG y) (s.tb1 - interpDelay + 256) ∧ v = summerRaw (ts.map fun p => s.toneOut p.1 p.2) (getF cfg TON_TXD_CFG_OUT_SHIFT) ∧ code = (if getF cfg TON_TXD_CFG_MUTE = 1 then 0 else max (-8191) (min 8191 v))) :=
  ⟨⟨(w06s 7), (1), (w06 7), (7), (true), (true), (0), by decide +kernel⟩,
    ⟨(w06s 8), (1), (w06 8), (8), (true), (true), (0), by decide +kernel⟩,
    ⟨(y1), (1), (0x2D04), (0x50010), _, (1), rfl, by unfold State.opens; decide +kernel, by decide +kernel⟩,
    ⟨(fl [(TON_SHD_STS 1, (2, 2), 2)] y1), (1), (0x2D04), (0x50010), _, (1), rfl, by unfold State.opens; decide +kernel, by decide +kernel⟩,
    ⟨(fl [(TON_SHD_STS 1, (0, 2), 1), (TON_SHD_STS 1, (2, 2), 2), (TON_SHD_CTL 1, (1, 1), 1)] y1), (1), by unfold State.opens; decide +kernel⟩,
    ⟨(rg [(TON_HO_REL 1, 18561)] y1), (1), (5), _, rfl, by unfold State.opens; decide +kernel, by decide +kernel⟩,
    ⟨(fl [(TON_HO_STS 1, TON_HO_STS_PENDING, 1)] y1), (1), (5), by unfold State.opens; decide +kernel, by decide +kernel⟩,
    ⟨(y1), (1), (0), ([]), (0), (y1.actAt 0 0 (TON_TXP_CFG 0) (y1.tb1 - 112 + 256)), (0), (0), by decide +kernel⟩⟩

/-- A state, or a part of one, of the witnesses. -/
def w07 (ca cc l : Nat) : State := fl [(BIA_STS 1, BIA_STS_LATCHED, l), (BIA_STS 1, BIA_STS_BSTATE, 2)] (rg [(BIA_ACT 1, ca), (BIA_CODE 1, cc)] y1)
/-- BiasSourcesTakeCodesAndReportLoads: states and operands that meet the hypotheses of each clause. -/
theorem witness_BiasSourcesTakeCodesAndReportLoads :
    (∃ (s : State) (y : ℕ), s.opens (BIA_CODE y) ∧ s.biaEn y = true ∧ s.flag (BIA_STS y) BIA_STS_LATCHED = false ∧ s.trimBad (0x160 + y) = false ∧ ((s.dev = dREADY ∨ s.dev = dRUN))) ∧
    (∃ (s : State) (y : ℕ), s.barUp = true ∧ s.pageBusy (BIA_CODE y) = false ∧ s.sealedBy (BIA_CODE y) = none ∧ s.setrNow (BIA_CODE y) = true) ∧
    (∃ (s : State) (y : ℕ), s.biaAct y = s.biaTarget y) ∧
    (∃ (s : State) (y : ℕ), s.biaEn y = true ∧ s.fld (BIA_STS y) BIA_STS_LOAD ≠ 1) ∧
    (∃ (s : State) (y : ℕ), s.biaEn y = true ∧ s.fld (BIA_STS y) BIA_STS_LOAD ≠ 2 ∧ s.actF (BIA_CFG y) BIA_CFG_OL_EN = 1 ∧ s.biaLarge y = true) ∧
    (∃ (s : State) (y : ℕ), ((s.actF (BIA_CFG y) BIA_CFG_OL_EN ≠ 1 ∨ s.biaLarge y = false))) ∧
    (∃ (s : State) (y : ℕ), s.opens (BIA_STS y) ∧ s.flag (BIA_STS y) BIA_STS_LATCHED = true ∧ s.biaEn y = true ∧ s.trimBad (0x160 + y) = false ∧ ((s.dev = dREADY ∨ s.dev = dRUN))) :=
  ⟨⟨(w07 0 0 0), (1), by unfold State.opens; decide +kernel, by decide +kernel⟩,
    ⟨(let zz := w07 0 0 0; { zz with bus := { zz.bus with setrs := [(BIA_CODE 1, zz.clock.tb1 / 16)] } }), (1), by decide +kernel⟩,
    ⟨(w07 0xFFFFF 0xFFFFF 0), (1), by decide +kernel⟩,
    ⟨(w07 5 9 0), (1), by decide +kernel⟩,
    ⟨(let zz := w07 2622 9 0; { zz with act := [(BIA_CFG 1, 16#64)], clock := { zz.clock with now := 300000 }, ton := { zz.ton with big := [(1, 1000)] } }), (1), by decide +kernel⟩,
    ⟨(w07 5 9 0), (1), by decide +kernel⟩,
    ⟨(w07 0 9 1), (1), by unfold State.opens; decide +kernel, by decide +kernel⟩⟩

/-- A state, or a part of one, of the witnesses. -/
def w08 : State := own 5 3 0 0 8 (own 7 3 0 16 4 y1)
/-- A state, or a part of one, of the witnesses. -/
def w08r (en : Nat) : State := rg [(ringBASE 33, 16), (ringPAGES 33, 4), (ringWM 33, 1), (ringWP 33, 512), (ringCTL 33, en * 2 ^ 31 + 2)] w08
/-- ConvertersAreConfiguredAndRingsRun: states and operands that meet the hypotheses of each clause. -/
theorem witness_ConvertersAreConfiguredAndRingsRun :
    (∃ (s : State) (k : ℕ) (sel : ℕ) (v : ℕ) (a : ℕ), a = convPage k + (if sel = 0 then 0 else 4 + 4 * sel) ∧ s.opens a ∧ k < 32 ∧ sel < 3 ∧ ((sel ≠ 0 ∨ v % 4 ≠ 3))) ∧
    (∃ (s : State) (k : ℕ) (v : ℕ), s.opens (CNV_CFG (k / 8) (k % 8)) ∧ k < 32 ∧ v % 4 = 3) ∧
    (∃ (s : State) (k : ℕ), ((∀ u ∈ (s.adc k).uns, u.2 ≤ s.clock.now)) ∧ k < 32) ∧
    (∃ (s : State) (r : ℕ) (v : ℕ) (page : ℕ) (pages : ℕ), page = s.fld (ringBASE r) CNV_RING_BASE_PAGE ∧ pages = s.fld (ringPAGES r) CNV_RING_PAGES_PAGES ∧ s.opens (ringCTL r) ∧ r < 48 ∧ s.flag (ringCTL r) CNV_RING_CTL_EN = false ∧ bit v 31 = true ∧ 0 < pages ∧ page + pages ≤ 8192 ∧ 0 < s.fld (ringWM r) CNV_RING_WM_WM ∧ 256 * s.fld (ringWM r) CNV_RING_WM_WM < 4096 * pages ∧ s.ringBad r page pages (v % 128) = none) ∧
    (∃ (s : State) (r : ℕ), s.opens (ringCTL r) ∧ r < 48 ∧ s.flag (ringCTL r) CNV_RING_CTL_EN = true) ∧
    (∃ (s : State) (r : ℕ) (v : ℕ), s.opens (ringRP r) ∧ r < 48 ∧ v % 16 = 0 ∧ v < s.ringSize r ∧ (v + s.ringSize r - s.rdN (ringRP r)) % s.ringSize r ≤ s.ringHeld r) ∧
    (∃ (s : State) (r : ℕ) (v : ℕ), s.opens (ringRP r) ∧ r < 48 ∧ ((v % 16 ≠ 0 ∨ s.ringSize r ≤ v))) :=
  ⟨⟨(y1), (31), (0), (0x12), _, rfl, by unfold State.opens; decide +kernel, by decide +kernel⟩,
    ⟨(y1), (31), (3), by unfold State.opens; decide +kernel, by decide +kernel⟩,
    ⟨(fl [(CNV_STS 3 7, CNV_STS_SETTLING, 1)] { y1 with cnv := { y1.cnv with adcs := [(31, { (default : Adc) with uns := [(16, 32000)] })] } }), (31), (by intro u h; rw [show (((fl [(CNV_STS 3 7, CNV_STS_SETTLING, 1)] { y1 with cnv := { y1.cnv with adcs := [(31, { (default : Adc) with uns := [(16, 32000)] })] } })).adc ((31))).uns = [(16, 32000)] by decide +kernel] at h; rw [List.mem_singleton.mp h]; decide +kernel), by decide +kernel⟩,
    ⟨(w08r 0), (33), (2 ^ 31 + 3), _, _, rfl, rfl, by unfold State.opens; decide +kernel, by decide +kernel⟩,
    ⟨(w08r 1), (33), by unfold State.opens; decide +kernel, by decide +kernel⟩,
    ⟨(w08r 1), (33), (512), by unfold State.opens; decide +kernel, by decide +kernel⟩,
    ⟨(w08r 1), (33), (16384), by unfold State.opens; decide +kernel, by decide +kernel⟩⟩

/-- A state, or a part of one, of the witnesses. -/
def w08t : Item := ⟨16000, 0x40, 1, .fb, .start 1 7⟩
/-- A state, or a part of one, of the witnesses. -/
def w08a (ctl : Nat) : State := let s := fl [(DEM_STS 1 7, DEM_STS_CSTATE, 3)] (own 3 1 1 0 8 (own 2 1 1 0 8 (rg [(CNV_ACQ_CTL 1 7, ctl), (CNV_ACQ_LEN 1 7, 40), (CNV_ACQ_DLY 1 7, 3)] y1)))
  ({ s with bus := { s.bus with held := [w08t] } }).modDem 1 7 fun d => { d with trigs := [15979, 15990] }
/-- A state, or a part of one, of the witnesses. -/
def w08w : Win := ⟨0, 15000, 60, 9, 1, false, true, 0, 0, 0, false, none, [], [], []⟩
/-- AcquisitionArmsOpensAndEndsWindows: states and operands that meet the hypotheses of each clause. -/
theorem witness_AcquisitionArmsOpensAndEndsWindows :
    (∃ (s : State) (y : ℕ) (c : ℕ) (v : ℕ) (a : ℕ), a = CNV_ACQ_CTL y c ∧ s.opens a ∧ y < 64 ∧ c < 8 ∧ s.flag a CNV_ACQ_CTL_ARM = false ∧ bit v 31 = true ∧ s.acqArmCheck y c v = 0) ∧
    (∃ (s : State) (y : ℕ) (c : ℕ) (v : ℕ), s.opens (CNV_ACQ_CTL y c) ∧ y < 64 ∧ c < 8 ∧ s.flag (CNV_ACQ_CTL y c) CNV_ACQ_CTL_ARM = false ∧ s.acqArmCheck y c v ≠ 0) ∧
    (∃ (s : State) (y : ℕ) (c : ℕ) (v : ℕ) (a : ℕ), a = CNV_ACQ_CTL y c ∧ s.opens a ∧ y < 64 ∧ c < 8 ∧ s.flag a CNV_ACQ_CTL_ARM = true ∧ bit v 31 = false ∧ BitVec.ofNat 64 v &&& rwMask a = s.rd a - BitVec.ofNat 64 (2 ^ 31)) ∧
    (∃ (s : State) (y : ℕ) (c : ℕ) (i : Item), y < 64 ∧ c < 8 ∧ s.bus.held.find? (fun i => i.act == .start y c && s.due i.rel) = some i ∧ s.fld (CNV_ACQ_CTL y c) CNV_ACQ_CTL_SRC = 1 ∧ s.flag (CNV_ACQ_CTL y c) CNV_ACQ_CTL_ARM = true ∧ ((s.dev = dREADY ∨ s.dev = dRUN)) ∧ s.tb1Run = true ∧ s.cst y c ≠ cOFF ∧ s.cst y c ≠ cSTOPPED) ∧
    (∃ (s : State) (y : ℕ) (c : ℕ) (i : Item), y < 64 ∧ c < 8 ∧ s.bus.held.find? (fun i => i.act == .start y c && s.due i.rel) = some i ∧ s.fld (CNV_ACQ_CTL y c) CNV_ACQ_CTL_SRC = 1 ∧ s.flag (CNV_ACQ_CTL y c) CNV_ACQ_CTL_ARM = true ∧ ((s.dev = dREADY ∨ s.dev = dRUN)) ∧ s.tb1Run = true ∧ ((s.cst y c = cOFF ∨ s.cst y c = cSTOPPED))) ∧
    (∃ (s : State) (y : ℕ) (c : ℕ) (e : ℕ) (es : List ℕ), y < 64 ∧ c < 8 ∧ (s.dem y c).trigs = e :: es ∧ s.fld (CNV_ACQ_CTL y c) CNV_ACQ_CTL_SRC = 2 ∧ s.flag (CNV_ACQ_CTL y c) CNV_ACQ_CTL_ARM = true ∧ ((s.dev = dREADY ∨ s.dev = dRUN)) ∧ s.tb1Run = true ∧ s.cst y c ≠ cOFF ∧ s.cst y c ≠ cSTOPPED) ∧
    (∃ (s : State) (y : ℕ) (c : ℕ) (w : Win) (k : ℕ), k = pairOf y ∧ y < 64 ∧ c < 8 ∧ (s.dem y c).wins.find? (·.open_) = some w ∧ s.reached (w.s0 + 16 * w.len) = true) :=
  ⟨⟨(w08a 0), (1), (7), (2 ^ 31 + 2 ^ 28 + 9 * 2 ^ 16 + 5), _, rfl, by unfold State.opens; decide +kernel, by decide +kernel⟩,
    ⟨(w08a 0), (1), (7), (2 ^ 31 + 2 ^ 28 + 8), by unfold State.opens; decide +kernel, by decide +kernel⟩,
    ⟨(w08a (2 ^ 31 + 2 ^ 28 + 9 * 2 ^ 16 + 5)), (1), (7), (2 ^ 28 + 9 * 2 ^ 16 + 5), _, rfl, by unfold State.opens; decide +kernel, by decide +kernel⟩,
    ⟨(w08a (2 ^ 31 + 2 ^ 28 + 9 * 2 ^ 16 + 5)), (1), (7), (w08t), by decide +kernel⟩,
    ⟨(fl [(DEM_STS 1 7, DEM_STS_CSTATE, 1)] (w08a (2 ^ 31 + 2 ^ 28 + 9 * 2 ^ 16 + 5))), (1), (7), (w08t), by decide +kernel⟩,
    ⟨(w08a (2 ^ 31 + 2 ^ 29 + 9 * 2 ^ 16 + 128 + 5)), (1), (7), (15979), ([15990]), by decide +kernel⟩,
    ⟨((rg [(ringBASE 0, 16), (ringPAGES 0, 4), (ringWM 0, 1), (ringWP 0, 16000), (ringRP 0, 16000)] (fl [(ringSTS 0, CNV_RING_STS_RUNNING, 1)] (w08a (2 ^ 31 + 2 ^ 30 + 2 ^ 28)))).modDem 1 7 (fun zz => { zz with wins := [w08w] })), (1), (7), (w08w), _, rfl, by decide +kernel⟩⟩

/-- A state, or a part of one, of the witnesses. -/
def w08m (en : Nat) (x : Mon) : State := let s := fl [(ringSTS 37, CNV_RING_STS_RUNNING, 1), (monSTS 5, MON_STS_MSTATE, 1), (monCTL 5, MON_CTL_SCAN_EN, en), (monCTL 5, MON_CTL_DR, 7), (monSCAN 5 0, MON_SCAN_COUNT, 2)] y1
  { (s.setMon 5 x) with clock := ⟨80000, 16000⟩ }
/-- A state, or a part of one, of the witnesses. -/
def w08i (n : Nat) : Mon := { (default : Mon) with dr := 7, waiting := List.replicate n ⟨0, 0, 1, 40, none⟩ }
/-- MonitorsScanInjectCheckAndCalibrate: states and operands that meet the hypotheses of each clause. -/
theorem witness_MonitorsScanInjectCheckAndCalibrate :
    (∃ (s : State) (m : ℕ) (v : ℕ), s.opens (monCTL m) ∧ m < 16 ∧ s.flag (monCTL m) MON_CTL_SCAN_EN = false ∧ bit v 0 = true ∧ s.monCtlOpen m v = true ∧ s.scanCheck m (bits v 11 8) = 0) ∧
    (∃ (s : State) (m : ℕ) (v : ℕ), s.opens (monCTL m) ∧ m < 16 ∧ s.flag (monCTL m) MON_CTL_SCAN_EN = true ∧ v % 2 = 0 ∧ s.monCtlOpen m v = true) ∧
    (∃ (s : State) (m : ℕ) (v : ℕ) (i : Inj), i = ⟨0, 0, bits v 31 20, 8 * m + v % 8, none⟩ ∧ s.opens (MON_INJ (m / 4) (m % 4)) ∧ m < 16 ∧ s.injMay i = true ∧ s.monSt m ≠ 0 ∧ (s.mon m).waiting.length < 4 ∧ ((s.dev = dCAL ∨ s.dev = dREADY ∨ s.dev = dRUN))) ∧
    (∃ (s : State) (m : ℕ) (v : ℕ), s.opens (MON_INJ (m / 4) (m % 4)) ∧ m < 16 ∧ s.injMay ⟨0, 0, bits v 31 20, 8 * m + v % 8, none⟩ = true ∧ s.monSt m ≠ 0 ∧ 4 ≤ (s.mon m).waiting.length) ∧
    (∃ (s : State) (m : ℕ) (v : ℕ), s.opens (MON_INJ (m / 4) (m % 4)) ∧ m < 16 ∧ s.injMay ⟨0, 0, bits v 31 20, 8 * m + v % 8, none⟩ = true ∧ s.monSt m = 0) ∧
    (∃ (s : State) (m : ℕ) (v : ℕ), s.opens (monXCHK m) ∧ m < 16 ∧ m % 2 = 0 ∧ s.flag (monXCHK m) MON_XCHK_EN = false ∧ bit v 31 = true ∧ bits v 26 19 ≠ 0 ∧ s.ownOf 4 (8 * m + bits v 30 27) = none) ∧
    (∃ (s : State) (m : ℕ), s.opens (monXCHK m) ∧ m < 16 ∧ m % 2 = 1) ∧
    (∃ (s : State) (m : ℕ), m < 16 ∧ (s.mon m).run = .cal ∧ s.hubFt % monPeriod (s.mon m).dr = 0 ∧ (s.mon m).waiting = [] ∧ (s.mon m).calReq = false ∧ (s.mon m).due = false ∧ (s.mon m).join = false ∧ s.flag (monCTL m) MON_CTL_SCAN_EN = false ∧ s.dev = dREADY) ∧
    (∃ (s : State) (m : ℕ) (i : Inj), m < 16 ∧ s.dev = dREADY ∧ s.monBoundary m = true ∧ (s.mon m).run = .inj i ∧ (s.mon m).uns = 0 ∧ (s.mon m).waiting = [] ∧ (s.mon m).calReq = false ∧ (s.mon m).due = false ∧ (s.mon m).join = false ∧ s.flag (monCTL m) MON_CTL_SCAN_EN = false ∧ s.injRing m i = false ∧ s.fld (monCTL m) MON_CTL_DR = (s.mon m).dr) ∧
    (∃ (m : ℕ), 32 ≤ m) :=
  ⟨⟨(w08m 0 (w08i 0)), (5), (0x171), by unfold State.opens; decide +kernel, by decide +kernel⟩,
    ⟨(w08m 1 (w08i 0)), (5), (0x170), by unfold State.opens; decide +kernel, by decide +kernel⟩,
    ⟨(own 4 4 0 0 128 (w08m 0 (w08i 3))), (5), (0xFFF00007), _, rfl, by unfold State.opens; decide +kernel, by decide +kernel⟩,
    ⟨(own 4 4 0 0 128 (w08m 0 (w08i 4))), (5), (0xFFF00007), by unfold State.opens; decide +kernel, by decide +kernel⟩,
    ⟨(own 4 4 0 0 128 (fl [(monSTS 5, MON_STS_MSTATE, 0)] (w08m 0 (w08i 4)))), (5), (0xFFF00007), by unfold State.opens; decide +kernel, by decide +kernel⟩,
    ⟨(w08m 0 (w08i 0)), (4), (2 ^ 31 + 15 * 2 ^ 27 + 2 ^ 19 + 0x1234), by unfold State.opens; decide +kernel, by decide +kernel⟩,
    ⟨(w08m 0 (w08i 0)), (5), by unfold State.opens; decide +kernel, by decide +kernel⟩,
    ⟨(w08m 0 { w08i 0 with run := .cal }), (5), by decide +kernel⟩,
    ⟨(own 7 3 0 0 4 (w08m 0 { w08i 0 with run := .inj ⟨0, 0, 5, 41, none⟩, input := some 41 })), (5), (⟨0, 0, 5, 41, none⟩), by decide +kernel⟩,
    ⟨(32), by decide +kernel⟩⟩

/-- A state, or a part of one, of the witnesses. -/
def w09h : State := let s := fl [(TON_SHD_STS 1, (0, 2), 2), (TON_SHD_STS 1, (2, 2), 1), (TON_SHD_CTL 1, (5, 1), 1), (TON_SHD_STS 1, (6, 2), 1), (DSC_QTHR 1 7, (0, 8), 9), (TON_HO_STS 1, TON_HO_STS_PENDING, 1)] y1
  { s with ton := { s.ton with hos := [⟨1, 16000, 0x3, false⟩, ⟨2, 16000, 0xF, false⟩, ⟨1, 16000, 0x8, true⟩, ⟨1, 16016, 0x4, true⟩] } }
/-- A state, or a part of one, of the witnesses. -/
def w09f : Fade := ⟨15840, 10, 1, 0, 1⟩
/-- A state, or a part of one, of the witnesses. -/
def w09k (h : Option Nat) : State := { (y1.modDem 1 7 fun zz => { zz with fades := [w09f], held := h }) with clock := { y1.clock with now := 16000 } }
/-- A state, or a part of one, of the witnesses. -/
def w09s (x : Nat) : State := { (y1.modDem 1 7 fun zz => { zz with fades := [w09f], swaps := [(x, 0)] }) with clock := { y1.clock with now := x } }
/-- HandOverMakesShadowCopiesActive: states and operands that meet the hypotheses of each clause. -/
theorem witness_HandOverMakesShadowCopiesActive :
    (∃ (s : State) (y : ℕ), y < 64 ∧ s.hoDue y ≠ []) ∧
    (∃ (s : State) (y : ℕ), s.hoDue y = []) ∧
    (∃ (s : State) (y : ℕ) (c : ℕ) (f : Fade) (fs : List Fade) (b : ℕ), y < 64 ∧ c < 8 ∧ (s.dem y c).fades = f :: fs ∧ f.stop ≤ s.clock.now ∧ (s.dem y c).swaps = [] ∧ (s.dem y c).held = some b ∧ b ≠ f.new_) ∧
    (∃ (s : State) (y : ℕ) (c : ℕ) (f : Fade) (fs : List Fade) (b : ℕ), y < 64 ∧ c < 8 ∧ (s.dem y c).fades = f :: fs ∧ f.stop ≤ s.clock.now ∧ (s.dem y c).swaps = [] ∧ (s.dem y c).held = some b ∧ b = f.new_) ∧
    (∃ (s : State) (y : ℕ) (c : ℕ), (((s.dem y c).held = none ∨ ∀ f fs, (s.dem y c).fades = f :: fs → s.clock.now < f.stop)) ∧ ((∀ w ∈ (s.dem y c).swaps, s.clock.now < w.1))) ∧
    (∃ (s : State) (y : ℕ) (c : ℕ) (x : ℕ) (b : ℕ), y < 64 ∧ c < 8 ∧ (s.dem y c).swaps = [(x, b)] ∧ x ≤ s.clock.now ∧ (s.dem y c).held = none ∧ s.swapStart y c s.clock.now = s.clock.now ∧ s.fading y c s.clock.now = false ∧ s.bankAt y c s.clock.now ≠ b) ∧
    (∃ (s : State) (y : ℕ) (c : ℕ) (x : ℕ) (b : ℕ), y < 64 ∧ c < 8 ∧ b < 2 ∧ (s.dem y c).swaps = [(x, b)] ∧ x ≤ s.clock.now ∧ (s.dem y c).held = none ∧ s.swapStart y c s.clock.now = s.clock.now ∧ s.fading y c s.clock.now = true) ∧
    (∃ (s : State) (y : ℕ) (c : ℕ), y < 64 ∧ c < 8 ∧ s.tb1Run = true) :=
  ⟨⟨(w09h), (1), by decide +kernel⟩,
    ⟨(w09h), (3), by decide +kernel⟩,
    ⟨(w09k (some 0)), (1), (7), (w09f), ([]), (0), by decide +kernel⟩,
    ⟨(w09k (some 1)), (1), (7), (w09f), ([]), (1), by decide +kernel⟩,
    ⟨(w09k none), (1), (7), (Or.inl (by decide +kernel)), by decide +kernel⟩,
    ⟨(w09s 16000), (1), (7), (16000), (0), by decide +kernel⟩,
    ⟨(w09s 15850), (1), (7), (15850), (0), by decide +kernel⟩,
    ⟨((ac [(DEM_FREQ 1 7, 77)] y1).modDem 1 7 (fun zz => { zz with nco := [⟨15000, 5, 3⟩] })), (1), (7), by decide +kernel⟩⟩

/-- A state, or a part of one, of the witnesses. -/
def w09c (st ctl g : Nat) : State := fl [(DEM_STS 1 7, DEM_STS_CSTATE, st), (GLB_LSG_STAT 3, GLB_LSG_STAT_GSTATE, g)] (own 8 1 1 0 16 (rg [(DEM_CTL 1 7, ctl)] y1))
/-- DemodulationChannelsTakeTheirSettings: states and operands that meet the hypotheses of each clause. -/
theorem witness_DemodulationChannelsTakeTheirSettings :
    (∃ (s : State) (y : ℕ) (c : ℕ) (v : ℕ), s.opens (DEM_CTL y c) ∧ y < 64 ∧ c < 8 ∧ bit v 31 ≠ s.flag (DEM_CTL y c) DEM_CTL_RUN ∧ bits v 5 4 ≠ 3 ∧ (((bits v 5 4 = s.fld (DEM_CTL y c) DEM_CTL_SECOND ∧ v % 2 = s.fld (DEM_CTL y c) DEM_CTL_FIRSEL) ∨ s.cst y c = cOFF ∨ s.cst y c = cSTOPPED)) ∧ ((s.ygst y = gIDLE ∨ s.ygst y = gPAUSED)) ∧ ((s.dev = dCAL ∨ s.dev = dREADY ∨ s.dev = dRUN))) ∧
    (∃ (s : State) (t : State) (y : ℕ) (c : ℕ) (e : ℕ), y < 64 ∧ c < 8 ∧ (s.dem y c).edge = some e ∧ e ≤ s.clock.now ∧ s.flag (DEM_CTL y c) DEM_CTL_RUN = true ∧ s.chanEn y c = true ∧ s.cst y c = cSTOPPED ∧ t = demEdge y c s) ∧
    (∃ (s : State) (t : State) (y : ℕ) (c : ℕ) (e : ℕ), y < 64 ∧ c < 8 ∧ (s.dem y c).edge = some e ∧ e ≤ s.clock.now ∧ s.flag (DEM_CTL y c) DEM_CTL_RUN = false ∧ ((s.cst y c = cSETTLING ∨ s.cst y c = cRUNNING)) ∧ t = demEdge y c s) ∧
    (∃ (s : State) (y : ℕ) (c : ℕ) (v : ℕ), s.opens (DEM_CTL y c) ∧ y < 64 ∧ c < 8 ∧ bit v 31 ≠ s.flag (DEM_CTL y c) DEM_CTL_RUN ∧ s.ygst y ≠ gIDLE ∧ s.ygst y ≠ gPAUSED) ∧
    (∃ (s : State) (y : ℕ) (c : ℕ) (v : ℕ), s.opens (DEM_CTL y c) ∧ y < 64 ∧ c < 8 ∧ bit v 31 = s.flag (DEM_CTL y c) DEM_CTL_RUN ∧ bits v 5 4 ≠ 3 ∧ bits v 5 4 ≠ s.fld (DEM_CTL y c) DEM_CTL_SECOND ∧ s.cst y c ≠ cOFF ∧ s.cst y c ≠ cSTOPPED) ∧
    (∃ (s : State) (y : ℕ) (c : ℕ), s.cst y c = cSETTLING ∧ (s.dem y c).startAt + 16 * (s.kN y c * s.kR y c) ≤ s.clock.now) ∧
    (∃ (s : State) (y : ℕ) (c : ℕ) (b : ℕ) (m : ℕ), s.opens (DEM_KW y c b m) ∧ y < 64 ∧ c < 8 ∧ b < 2 ∧ m < 512 ∧ s.bankBusy y c b = false) ∧
    (∃ (s : State) (y : ℕ) (c : ℕ) (b : ℕ) (m : ℕ), s.opens (DEM_KW y c b m) ∧ y < 64 ∧ c < 8 ∧ b < 2 ∧ m < 512 ∧ s.bankBusy y c b = true) ∧
    (∃ (s : State) (y : ℕ) (c : ℕ) (v : ℕ), s.opens (DEM_KLEN y c) ∧ y < 64 ∧ c < 8 ∧ 0 < bits v 9 0 ∧ bits v 9 0 ≤ 512 ∧ 0 < bits v 25 16 ∧ bits v 25 16 ≤ 512 ∧ ((bits v 9 0 = s.kLen y c 0 ∨ s.bankBusy y c 0 = false)) ∧ ((bits v 25 16 = s.kLen y c 1 ∨ s.bankBusy y c 1 = false))) ∧
    (∃ (s : State) (y : ℕ) (c : ℕ) (v : ℕ), s.opens (DSC_CFG y c) ∧ y < 64 ∧ c < 8 ∧ s.yIdle y = true ∧ s.dscCfgCheck y c v = 0) ∧
    (∃ (s : State) (y : ℕ) (c : ℕ) (v : ℕ), s.opens (DSC_CFG y c) ∧ y < 64 ∧ c < 8 ∧ s.yIdle y = true ∧ s.dscCfgCheck y c v ≠ 0) ∧
    (∃ (s : State) (y : ℕ) (c : ℕ), s.opens (DSC_CFG y c) ∧ y < 64 ∧ c < 8 ∧ s.yIdle y = false) :=
  ⟨⟨(w09c 1 0 4), (1), (7), (2 ^ 31 + 2 ^ 4), by unfold State.opens; decide +kernel, by decide +kernel⟩,
    ⟨((w09c 1 (2 ^ 31 + 2 ^ 4) 4).modDem 1 7 (fun zz => { zz with edge := some 16000 })), (demEdge 1 7 ((w09c 1 (2 ^ 31 + 2 ^ 4) 4).modDem 1 7 (fun zz => { zz with edge := some 16000 }))), (1), (7), (16000), by decide +kernel⟩,
    ⟨((w09c 3 0 4).modDem 1 7 (fun zz => { zz with edge := some 16000 })), (demEdge 1 7 ((w09c 3 0 4).modDem 1 7 (fun zz => { zz with edge := some 16000 }))), (1), (7), (16000), by decide +kernel⟩,
    ⟨(w09c 3 (2 ^ 31 + 2 ^ 4) 2), (1), (7), (2 ^ 4), by unfold State.opens; decide +kernel, by decide +kernel⟩,
    ⟨(w09c 3 (2 ^ 31 + 2 ^ 4) 2), (1), (7), (2 ^ 31), by unfold State.opens; decide +kernel, by decide +kernel⟩,
    ⟨((w09c 2 (2 ^ 31 + 2 ^ 4) 2).modDem 1 7 (fun zz => { zz with startAt := 13000 })), (1), (7), by decide +kernel⟩,
    ⟨(w09c 1 0 0), (1), (7), (1), (511), by unfold State.opens; decide +kernel, by decide +kernel⟩,
    ⟨(w09c 1 0 0), (1), (7), (0), (511), by unfold State.opens; decide +kernel, by decide +kernel⟩,
    ⟨(rg [(DEM_KLEN 1 7, 0x400008)] (w09c 1 0 0)), (1), (7), (0x2000008), by unfold State.opens; decide +kernel, by decide +kernel⟩,
    ⟨(w09c 1 0 0), (1), (7), (0x1040F), by unfold State.opens; decide +kernel, by decide +kernel⟩,
    ⟨(w09c 1 0 0), (1), (7), (0x10410), by unfold State.opens; decide +kernel, by decide +kernel⟩,
    ⟨(w09c 1 0 2), (1), (7), by unfold State.opens; decide +kernel, by decide +kernel⟩⟩

/-- A state, or a part of one, of the witnesses. -/
def w09w (k len : Nat) (iss : Option (Nat × Nat × Nat)) : Win := ⟨0, 15000, len, 9, 0, false, false, k, 7, 8, false, iss, [], [], []⟩
/-- A state, or a part of one, of the witnesses. -/
def w09k0 : KSample := ⟨0, 0, false, false⟩
/-- A state, or a part of one, of the witnesses. -/
def w09x : KIn := ⟨List.replicate 8 ⟨0, []⟩, false⟩
/-- A state, or a part of one, of the witnesses. -/
def w09d (k len : Nat) (iss : Option (Nat × Nat × Nat)) : State := ac [(DSC_ECFG 1 7, 2 ^ 31 + 0x2001), (DSC_CPF 1 7 1, 0x8000), (DSC_C 1 7 1, 1000), (DSC_ETHR 1 7 1, 1000)]
  ((rg [(DEM_CTL 1 7, 1), (DSC_CFG 1 7, 0x405), (DEM_KLEN 1 7, 0x400040), (DEM_KW 1 7 0 4, 0x40008000)] y1).modDem 1 7 fun zz => { zz with wins := [w09w k len iss] })
/-- WindowsAccumulateAndDecide: states and operands that meet the hypotheses of each clause. -/
theorem witness_WindowsAccumulateAndDecide :
    (∃ (s : State) (y : ℕ) (c : ℕ) (x : KIn) (w : Win) (ws : List Win) (k : KSample) (v : Win) (n : ℕ) (i : ℤ) (q : ℤ), i = w.accI + (k.i * (s.weightAt y c w.k (s.pinNow (kPin w.s0 (s.kR y c) w.k))).1 - k.q * (s.weightAt y c w.k (s.pinNow (kPin w.s0 (s.kR y c) w.k))).2) ∧ q = w.accQ + (k.i * (s.weightAt y c w.k (s.pinNow (kPin w.s0 (s.kR y c) w.k))).2 + k.q * (s.weightAt y c w.k (s.pinNow (kPin w.s0 (s.kR y c) w.k))).1) ∧ y < 64 ∧ c < 8 ∧ (s.dem y c).wins = w :: ws ∧ w.k < s.kCount y c w ∧ s.scoreHere y c w = true ∧ x.ecc = false ∧ (w.k + 1) % 16 ≠ 0 ∧ s.chain y c x w = (k, v, n)) ∧
    (∃ (s : State) (y : ℕ) (c : ℕ) (x : KIn) (w : Win) (ws : List Win) (r : Win × State) (st : ℕ) (m : ℤ) (p : ℕ) (d : ℕ), r = kernelIn y c x w s ∧ p = kPin r.1.s0 (s.kR y c) (r.1.k - 1) ∧ d = decWord st true (r.2.lowq y c p m r.1) (r.2.replayed y) ∧ y < 64 ∧ c < 8 ∧ (s.dem y c).wins = w :: ws ∧ w.k < s.kCount y c w ∧ s.scoreHere y c w = true ∧ r.1.k % 16 = 0 ∧ 0 < r.1.k ∧ r.1.k ≤ 512 ∧ r.2.cpOpen y c (r.1.k / 16) r.1 = true ∧ r.2.decide_ y c p (r.2.score y c r.1) (r.2.actAtF y 3 (DSC_CPF y c (r.1.k / 16)) p DSC_CPF_F) = (st, m) ∧ r.2.earlyOk y c p st m = true) ∧
    (∃ (s : State) (y : ℕ) (c : ℕ) (w : Win) (ws : List Win), y < 64 ∧ c < 8 ∧ (s.dem y c).wins = w :: ws ∧ w.open_ = false ∧ s.kCount y c w = 0 ∧ s.reached (w.s0 + 16 * (w.len + 22)) = true) ∧
    (∃ (s : State) (y : ℕ) (c : ℕ) (xs : List KIn) (w : Win) (ws : List Win) (r : Win × State) (st : ℕ) (m : ℤ) (p : ℕ) (d : ℕ) (e : ℕ), r = kernelRun y c xs w s ∧ p = kPin r.1.s0 (s.kR y c) (r.1.k - 1) ∧ d = decWord st false (r.2.lowq y c p m r.1) (r.2.replayed y) ∧ e = r.2.scoreE y c r.1 ∧ y < 64 ∧ c < 8 ∧ (s.dem y c).wins = w :: ws ∧ w.open_ = false ∧ s.kCount y c w ≠ 0 ∧ r.1.k = s.kCount y c w ∧ r.1.issued = none ∧ r.2.decide_ y c p (r.2.score y c r.1) (2 ^ 15) = (st, m)) ∧
    (∃ (s : State) (y : ℕ) (c : ℕ) (xs : List KIn) (w : Win) (ws : List Win) (r : Win × State) (st : ℕ) (m : ℤ) (p : ℕ) (d : ℕ) (n : ℕ) (e : ℕ), r = kernelRun y c xs w s ∧ p = kPin r.1.s0 (s.kR y c) (r.1.k - 1) ∧ y < 64 ∧ c < 8 ∧ (s.dem y c).wins = w :: ws ∧ w.open_ = false ∧ s.kCount y c w ≠ 0 ∧ r.1.k = s.kCount y c w ∧ r.1.issued = some (d, n, e) ∧ r.2.decide_ y c p (r.2.score y c r.1) (2 ^ 15) = (st, m)) :=
  ⟨⟨(w09d 4 40 none), (1), (7), (w09x), (w09w 4 40 none), ([]), (w09k0), ({ w09w 4 40 none with mix := List.replicate 8 default, out1 := [default] }), (0), _, _, rfl, rfl, by decide +kernel⟩,
    ⟨(w09d 15 40 none), (1), (7), (w09x), (w09w 15 40 none), ([]), _, (1), (1000 * 2 ^ 23), _, _, rfl, rfl, rfl, by decide +kernel⟩,
    ⟨(w09d 0 0 none), (1), (7), (w09w 0 0 none), ([]), by decide +kernel⟩,
    ⟨(w09d 4 5 none), (1), (7), ([w09x]), (w09w 4 5 none), ([]), _, (1), (1000 * 2 ^ 23), _, _, _, rfl, rfl, rfl, rfl, by decide +kernel⟩,
    ⟨(w09d 4 5 (some (6, 1, 15600))), (1), (7), ([w09x]), (w09w 4 5 (some (6, 1, 15600))), ([]), _, (1), (1000 * 2 ^ 23), _, (6), (1), (15600), rfl, rfl, by decide +kernel⟩⟩

/-- A state, or a part of one, of the witnesses. -/
def w10d (sl d rel : Nat) : Dec := ⟨sl, d, rel, 1, 7, 0, true, 15000, 0⟩
/-- A state, or a part of one, of the witnesses. -/
def w10 (tap : Nat) : State := let s := fl [(OZL_STS 2, OZL_STS_LSTATE, 3), (OZL_STS 2, OZL_STS_TXMAP, 15)] (own 8 1 1 0 16 (rg [(SHT_TAP 2047, tap), (SHT_FWD 3, 4), (SHT_SLOT 4, 5), (SHT_IMAP 5 1023, 2 ^ 31 + 3)] y1))
  { s with cnv := { s.cnv with formed := [w10d 3 29 16100, w10d 3 5 16101], entered := [w10d 3 6 16000] } }
/-- A state, or a part of one, of the witnesses. -/
def w10t : Nat := 2 ^ 63 + 9 * 2 ^ 50 + 0xC04803
/-- SheetEntersReleasesAndForwardsDecisions: states and operands that meet the hypotheses of each clause. -/
theorem witness_SheetEntersReleasesAndForwardsDecisions :
    (∃ (s : State) (y : ℕ) (c : ℕ) (d : Dec), ((1024 ≤ d.slot ∨ s.tb1 ≤ d.rel)) ∧ s.cnv.formed.find? (fun d => d.yard == y && d.chan == c) = some d ∧ s.reached (d.rel - 128) = true) ∧
    (∃ (s : State) (y : ℕ) (c : ℕ) (d : Dec), s.cnv.formed.find? (fun d => d.yard == y && d.chan == c) = some d ∧ d.slot < 1024 ∧ d.rel < s.clock.tb1 ∧ s.tb1Run = true) ∧
    (∃ (s : State) (i : ℕ) (d : Dec) (bad : List ℕ), i < 1024 ∧ s.cnv.entered.find? (fun d => d.slot == i && s.atTb1 d.rel) = some d ∧ ((∀ x ∈ s.tapsOn i, x ∉ bad))) ∧
    (∃ (s : State) (i : ℕ) (d : Dec) (x : ℕ) (bad : List ℕ), i < 1024 ∧ s.cnv.entered.find? (fun d => d.slot == i && s.atTb1 d.rel) = some d ∧ s.tapsOn i = [x] ∧ x ∈ bad ∧ x < 2048) ∧
    (∃ (s : State) (l : ℕ) (j : ℕ) (rel : ℕ), s.fld (SHT_IMAP l j) SHT_IMAP_EN = 1 ∧ s.tb1 ≤ rel) ∧
    (∃ (s : State) (l : ℕ) (j : ℕ), s.fld (SHT_IMAP l j) SHT_IMAP_EN = 0) ∧
    (∃ (s : State) (l : ℕ) (j : ℕ) (rel : ℕ), s.fld (SHT_IMAP l j) SHT_IMAP_EN = 1 ∧ rel < s.tb1) ∧
    (∃ (s : State) (l : ℕ) (j : ℕ), l < 6 ∧ j < 1024 ∧ s.fld (SHT_IMAP l j) SHT_IMAP_EN = 1) ∧
    (∃ (s : State) (x : ℕ) (v : ℕ) (w : BitVec 64), w = BitVec.ofNat 64 v &&& rwMask (SHT_TAP x) ∧ s.opens (SHT_TAP x) ∧ x < 2048 ∧ getF (s.tapWord x) SHT_TAP_EN = 0 ∧ bit v 63 = true ∧ tapCurrent w ≠ [] ∧ s.tapOwned w = true) ∧
    (∃ (s : State) (x : ℕ) (v : ℕ), s.opens (SHT_TAP x) ∧ x < 2048 ∧ getF (s.tapWord x) SHT_TAP_EN = 0 ∧ bit v 63 = true ∧ tapCurrent (BitVec.ofNat 64 v &&& rwMask (SHT_TAP x)) = []) ∧
    (∃ (s : State) (x : ℕ) (v : ℕ), s.opens (SHT_TAP x) ∧ x < 2048 ∧ getF (s.tapWord x) SHT_TAP_EN = 1 ∧ bit v 63 = true) ∧
    (∃ (s : State) (x : ℕ) (v : ℕ), s.opens (SHT_TAP x) ∧ x < 2048 ∧ getF (s.tapWord x) SHT_TAP_EN = 1 ∧ bit v 63 = false) ∧
    (∃ (s : State) (l : ℕ) (j : ℕ) (v : ℕ), s.opens (SHT_IMAP l j) ∧ ((bit v 31 = false ∨ (s.ownOf 8 (v % 1024) ≠ none ∧ s.slotWriters (v % 1024) 64 0 = false))) ∧ l < 6 ∧ j < 1024) ∧
    (∃ (s : State) (l : ℕ) (j : ℕ) (v : ℕ), s.opens (SHT_IMAP l j) ∧ l < 6 ∧ j < 1024 ∧ bit v 31 = true ∧ s.ownOf 8 (v % 1024) = none) :=
  ⟨⟨(w10 0), (1), (7), (w10d 3 29 16100), (Or.inr (by decide +kernel)), by decide +kernel⟩,
    ⟨({ w10 0 with clock := ⟨32000, 16116⟩ }), (1), (7), (w10d 3 29 16100), by decide +kernel⟩,
    ⟨(w10 w10t), (3), (w10d 3 6 16000), ([7]), by decide +kernel⟩,
    ⟨(w10 w10t), (3), (w10d 3 6 16000), (2047), ([7, 2047]), by decide +kernel⟩,
    ⟨(w10 0), (5), (1023), (16000), by decide +kernel⟩,
    ⟨(w10 0), (5), (1022), by decide +kernel⟩,
    ⟨(w10 0), (5), (1023), (15999), by decide +kernel⟩,
    ⟨(w10 0), (5), (1023), by decide +kernel⟩,
    ⟨(w10 0), (2047), (w10t), _, rfl, by unfold State.opens; decide +kernel, by decide +kernel⟩,
    ⟨(w10 0), (2047), (2 ^ 63 + 0xC04), by unfold State.opens; decide +kernel, by decide +kernel⟩,
    ⟨(w10 w10t), (2047), (w10t), by unfold State.opens; decide +kernel, by decide +kernel⟩,
    ⟨(w10 w10t), (2047), (5), by unfold State.opens; decide +kernel, by decide +kernel⟩,
    ⟨(w10 0), (5), (1022), (2 ^ 31 + 15), by unfold State.opens; decide +kernel, (.inr (by decide +kernel)), by decide +kernel⟩,
    ⟨(w10 0), (5), (1022), (2 ^ 31 + 16), by unfold State.opens; decide +kernel, by decide +kernel⟩⟩

/-- A state, or a part of one, of the witnesses. -/
def w11s : Store := stList [] 8192 (leBytes 4 0x48504744 ++ leBytes 4 1 ++ leBytes 4 2 ++ leBytes 4 0 ++ leBytes 4 2 ++ leBytes 4 0 ++ leBytes 4 1 ++ leBytes 4 64
  ++ leBytes 4 0 ++ leBytes 4 96 ++ leBytes 4 0 ++ leBytes 4 104 ++ leBytes 4 0x9ACBABBB ++ leBytes 12 0
  ++ leBytes 8 0x0002000400010000 ++ leBytes 8 0x10000 ++ leBytes 8 0x00030005FFFF0001 ++ leBytes 8 0xFFFF ++ leBytes 8 1)
/-- A state, or a part of one, of the witnesses. -/
def w11g : DGraph := ⟨2, 0, 0, 0, [⟨0, 1, 4, 2, 0, 1, 0, 0, 0⟩, ⟨1, 0xFFFF, 5, 3, 0xFFFF, 0, 0, 0, 0⟩], [], [(1, 0)], []⟩
/-- A state, or a part of one, of the witnesses. -/
def w11 (en : Nat) (c : DCtx) : State := let s := own 6 3 0 0 8 (own 9 3 0 0 8 (alt 0x0B 0 0 16 (rg [(DEC_EN 5, en), (DEC_CTL 5, 3 * 2 ^ 24 + 4 * 2 ^ 18 + 2 * 2 ^ 13), (DEC_GRAPH 5, 0x1002), (DEC_ROUND 5, 20), (DEC_QID 5, 3)] y1)))
  let s := { s with dec := { s.dec with store := w11s }, cnv := { s.cnv with dets := [⟨1, 1, false, true, false, 16000⟩] } }
  if en = 1 then s.setCtx 5 c else s
/-- A state, or a part of one, of the witnesses. -/
def w11c : DCtx := { (default : DCtx) with graph := w11g, on := true, v := 30 }
/-- A state, or a part of one, of the witnesses. -/
def w11n (en : Nat) (c : DCtx) : State := let s := w11 en c; { s with cnv := { s.cnv with dets := [] } }
/-- DecoderContextsTakeGraphsAndRounds: states and operands that meet the hypotheses of each clause. -/
theorem witness_DecoderContextsTakeGraphsAndRounds :
    (∃ (s : State) (x : ℕ) (ecc : Bool), s.opens (DEC_EN x) ∧ x < 8 ∧ s.gst (s.decGroup x) = gIDLE ∧ s.decEn x = false ∧ (s.decCheck x ecc).1 = 0) ∧
    (∃ (s : State) (x : ℕ) (ecc : Bool), s.opens (DEC_EN x) ∧ x < 8 ∧ s.gst (s.decGroup x) = gIDLE ∧ s.decEn x = false ∧ (s.decCheck x ecc).1 ≠ 0) ∧
    (∃ (s : State) (x : ℕ), s.opens (DEC_EN x) ∧ x < 8 ∧ s.gst (s.decGroup x) ≠ gIDLE) ∧
    (∃ (s : State) (x : ℕ), s.opens (DEC_EN x) ∧ x < 8 ∧ s.gst (s.decGroup x) = gIDLE ∧ s.decEn x = true) ∧
    (∃ (s : State) (d : ℕ) (b : Det), ((∀ x f j, s.routeDet d = some (x, f, j) → (s.ctx x).on = false)) ∧ s.cnv.dets.find? (fun b => b.det == d && s.due b.rel) = some b) ∧
    (∃ (s : State) (d : ℕ) (b : Det) (x : ℕ) (f : Bool) (j : ℕ), s.cnv.dets.find? (fun b => b.det == d && s.due b.rel) = some b ∧ s.routeDet d = some (x, f, j) ∧ (s.ctx x).on = true ∧ ((∀ o ∈ (s.ctx x).opens, o.final ≠ f)) ∧ ((s.flag (DEC_ROUND x) DEC_ROUND_CLOSE = true ∨ (s.ctx x).opens.length < 2))) ∧
    (∃ (s : State) (d : ℕ) (b : Det) (x : ℕ) (f : Bool) (j : ℕ) (o : DOpen), s.cnv.dets.find? (fun b => b.det == d && s.due b.rel) = some b ∧ s.routeDet d = some (x, f, j) ∧ (s.ctx x).on = true ∧ s.flag (DEC_ROUND x) DEC_ROUND_CLOSE = false ∧ (s.ctx x).opens = [o] ∧ o.final = f ∧ ((∀ z ∈ o.got, z.j ≠ j))) ∧
    (∃ (s : State) (x : ℕ) (o : DOpen) (r : DRound), r = s.closed_ x o (ceilFt s.tb1) ∧ x < 8 ∧ (s.ctx x).opens = [o] ∧ s.flag (DEC_ROUND x) DEC_ROUND_CLOSE = false ∧ o.got.length = (s.ctx x).layerDets o ∧ (s.ctx x).ovl = false ∧ (s.ctx x).wait.length < 8) ∧
    (∃ (s : State) (x : ℕ) (o : DOpen) (d : ℕ) (r : DRound), d = ceilFt o.opened + 16 * s.fld (DEC_ROUND x) DEC_ROUND_RDL ∧ r = s.closed_ x o d ∧ x < 8 ∧ (s.ctx x).opens = [o] ∧ s.flag (DEC_ROUND x) DEC_ROUND_CLOSE = false ∧ s.reached d = true ∧ (s.ctx x).ovl = false ∧ (s.ctx x).wait.length < 8 ∧ ((∀ z ∈ s.cnv.dets, s.due z.rel = false))) ∧
    (∃ (s : State) (x : ℕ) (at_ : ℕ) (o : DOpen) (r : DRound), at_ = (s.ctx x).org + (s.fld (DEC_RCLK x) DEC_RCLK_RB + (s.ctx x).idx * s.fld (DEC_RCLK x) DEC_RCLK_RP) * 16 ∧ o = ((s.ctx x).opens.head?).getD ⟨false, at_, []⟩ ∧ r = s.closed_ x o at_ ∧ x < 8 ∧ s.flag (DEC_ROUND x) DEC_ROUND_CLOSE = true ∧ (s.ctx x).on = true ∧ s.reached at_ = true ∧ ((∀ o ∈ (s.ctx x).opens, o.final = false)) ∧ (s.ctx x).ovl = false ∧ (s.ctx x).wait.length < 8 ∧ ((∀ z ∈ s.cnv.dets, s.due z.rel = false))) :=
  ⟨⟨(w11 0 default), (5), (false), by unfold State.opens; decide +kernel, by decide +kernel⟩,
    ⟨(w11 0 default), (5), (true), by unfold State.opens; decide +kernel, by decide +kernel⟩,
    ⟨(fl [(GLB_LSG_STAT 3, GLB_LSG_STAT_GSTATE, 2)] (w11 0 default)), (5), by unfold State.opens; decide +kernel, by decide +kernel⟩,
    ⟨(w11 1 w11c), (5), by unfold State.opens; decide +kernel, by decide +kernel⟩,
    ⟨(w11 1 { w11c with on := false }), (1), (⟨1, 1, false, true, false, 16000⟩), (by intro x f j h; rw [show ((w11 1 { w11c with on := false })).routeDet ((1)) = some (5, false, 1) by decide +kernel] at h; cases h; decide +kernel), by decide +kernel⟩,
    ⟨(w11 1 w11c), (1), (⟨1, 1, false, true, false, 16000⟩), (5), (false), (1), by decide +kernel⟩,
    ⟨(w11 1 { w11c with opens := [⟨false, 15990, [⟨0, 1, false, false, false⟩]⟩] }), (1), (⟨1, 1, false, true, false, 16000⟩), (5), (false), (1), (⟨false, 15990, [⟨0, 1, false, false, false⟩]⟩), by decide +kernel⟩,
    ⟨(w11 1 { w11c with opens := [⟨false, 15990, [⟨0, 1, false, false, false⟩, ⟨1, 0, false, false, false⟩]⟩] }), (5), (⟨false, 15990, [⟨0, 1, false, false, false⟩, ⟨1, 0, false, false, false⟩]⟩), _, rfl, by decide +kernel⟩,
    ⟨(w11n 1 { w11c with opens := [⟨false, 15670, [⟨0, 1, false, false, false⟩]⟩] }), (5), (⟨false, 15670, [⟨0, 1, false, false, false⟩]⟩), _, _, rfl, rfl, by decide +kernel⟩,
    ⟨(rg [(DEC_ROUND 5, 2 ^ 31), (DEC_RCLK 5, 10 * 2 ^ 16 + 20)] (w11n 1 { w11c with org := 15000, idx := 2 })), (5), _, _, _, rfl, rfl, rfl, by decide +kernel⟩⟩

/-- A state, or a part of one, of the witnesses. -/
def w11r (f : Bool) (l : Option DLog) : DRound := ⟨2, f, 15800, 16000, 30, 30, [⟨0, 1, false, false, false⟩, ⟨1, 1, false, false, false⟩], [4, 5], [0, 1], l, false, false, 0⟩
/-- A state, or a part of one, of the witnesses. -/
def w11d (c : DCtx) : State := let s := fl [(DEC_CSTS 5, DEC_CSTS_CSTATE, 2)] (rg [(DEC_XCFG 5, 2 * 2 ^ 16 + 110 * 2 ^ 8 + 2), (OZL_STS 1, 15 * 2 ^ 8)] (w11 1 c))
  fl [(OZL_STS 1, OZL_STS_LSTATE, 3), (OZL_STS 1, OZL_STS_TXMAP, 15)] s
/-- A state, or a part of one, of the witnesses. -/
def w11q : DCtx := { w11c with graph := { w11g with edges := [⟨0, 2 ^ 15 + 2 ^ 11 + 1, 4, 2, 0xFFFF, 0, 0, 0, 7⟩, ⟨0, 1, 5, 3, 0, 1, 0, 0, 0⟩] } }
/-- A state, or a part of one, of the witnesses. -/
def w11u (p : Nat) (o : Bool) : DCur := ⟨growStart [] [], p, 16000, o, [], [], [], [], []⟩
/-- A state, or a part of one, of the witnesses. -/
def w11z : DCtx := { w11q with cur := some (w11u 1 true), win := [w11r false none] }
/-- A state, or a part of one, of the witnesses. -/
def w11l : DLog := ⟨15990, 0, [[5]], 3, 0, 0, false⟩
/-- A state, or a part of one, of the witnesses. -/
def w11t (c : DCtx) : State := { w11d c with clock := ⟨40000, 18000⟩ }
/-- A state, or a part of one, of the witnesses. -/
def w11x : BMsg := ⟨5, 2, 0, 0, 0, false, [⟨2, 7, true, false, 1, false⟩]⟩
/-- A state, or a part of one, of the witnesses. -/
def w11y : DCur := { w11u 1 true with inbox := [(1, w11x)] }
/-- DecodesCommitExchangeAndCorrect: states and operands that meet the hypotheses of each clause. -/
theorem witness_DecodesCommitExchangeAndCorrect :
    (∃ (s : State) (x : ℕ) (r : DRound) (rest : List DRound) (c : DCtx), c = { s.ctx x with wait := rest, win := (s.ctx x).win ++ [r] } ∧ (s.ctx x).tail = none ∧ (s.ctx x).wait = r :: rest ∧ s.reached r.s = true ∧ (s.ctx x).cur = none ∧ (s.ctx x).graph.spans = false ∧ r.flush = 0 ∧ r.final = false ∧ r.log = none ∧ rest.length < 16 ∧ (s.ctx x).win.length + 1 < s.fld (DEC_CTL x) DEC_CTL_WIN) ∧
    (∃ (s : State) (x : ℕ) (r : DRound) (rest : List DRound) (w : List DRound) (es : List WEdge) (l : DLog), w = (s.ctx x).win ++ [r] ∧ es = (windowEdges (s.ctx x).graph w).filter (fun e => ({ s.ctx x with wait := rest, win := w } : DCtx).localCorr.contains e.pos) ∧ (s.ctx x).tail = none ∧ (s.ctx x).wait = r :: rest ∧ s.reached r.s = true ∧ (s.ctx x).cur = none ∧ (s.ctx x).graph.spans = false ∧ r.flush = 0 ∧ r.final = true ∧ r.log = some l) ∧
    (∃ (s : State) (x : ℕ) (r : DRound) (rest : List DRound) (w : List DRound), w = (s.ctx x).win ++ [r] ∧ (s.ctx x).tail = none ∧ (s.ctx x).wait = r :: rest ∧ s.reached r.s = true ∧ (s.ctx x).cur = none ∧ (s.ctx x).graph.spans = true) ∧
    (∃ (s : State) (x : ℕ) (r : DRound) (rest : List DRound), (s.ctx x).tail = none ∧ (s.ctx x).wait = r :: rest ∧ s.reached r.s = true ∧ (s.ctx x).cur = none ∧ (s.ctx x).on = true ∧ (s.ctx x).ovl = false ∧ ((∀ q ∈ r :: rest, q.flush = 0)) ∧ ((∀ q ∈ (s.ctx x).win, q.flush = 0))) ∧
    (∃ (s : State) (x : ℕ) (r : DRound) (rest : List DRound), (s.ctx x).tail = none ∧ (s.ctx x).wait = r :: rest ∧ s.reached r.s = true ∧ (s.ctx x).cur = none ∧ (s.ctx x).on = false) ∧
    (∃ (s : State) (x : ℕ) (c0 : DCur) (c1 : DCur) (start : ℕ) (l : ℕ) (rel : ℕ), start = c0.start + c0.pass * s.passFt x * 16 ∧ c1 = { c0 with pass := c0.pass + 1, open_ := true, inbox := [], answered := [], peel := [], route := [] } ∧ rel = start + (s.passFt x - 16) * 16 ∧ (s.ctx x).cur = some c0 ∧ s.reached start = true ∧ c0.pass < s.passes x ∧ c0.open_ = false ∧ s.decLinks x = [l] ∧ s.linkUp l = true ∧ s.linkThree l = false ∧ 106 ≤ s.passFt x ∧ (s.boundaryMsg x l c1).edges.length ≤ 30 ∧ tget s.ozl.fbLast l ≤ rel) ∧
    (∃ (s : State) (x : ℕ) (l : ℕ) (cur : DCur), (s.ctx x).cur = some cur ∧ cur.open_ = true ∧ l ∈ s.decLinks x ∧ l ∉ cur.answered ∧ s.reached (s.passRel x cur) = false ∧ s.reached (s.passRel x cur + 1) = false) ∧
    (∃ (s : State) (x : ℕ) (l : ℕ) (cur : DCur), ((s.reached (s.passRel x cur + 1) = true ∨ cur.open_ = false)) ∧ (s.ctx x).cur = some cur ∧ l ∈ s.decLinks x) ∧
    (∃ (s : State) (x : ℕ) (l : ℕ) (q : BMsg) (cur : DCur) (es : List WEdge), es = windowEdges (s.ctx x).graph (s.ctx x).win ∧ ((∀ r, (s.ctx x).win.getLast? = some r → q.round = r.idx)) ∧ (s.ctx x).cur = some cur ∧ cur.open_ = true ∧ s.decLinks x = [l] ∧ cur.answered = [] ∧ cur.pass ≤ s.passes x ∧ s.reached (s.passRel x cur) = true ∧ cur.inbox = [(l, q)] ∧ q.ctx = x ∧ (s.ctx x).win ≠ [] ∧ q.shot = (s.grp (s.decGroup x)).shot ∧ q.replay = (s.grp (s.decGroup x)).attempt) ∧
    (∃ (s : State) (x : ℕ) (l : ℕ) (cur : DCur) (es : List WEdge), es = windowEdges (s.ctx x).graph (s.ctx x).win ∧ (s.ctx x).cur = some cur ∧ cur.open_ = true ∧ s.decLinks x = [l] ∧ cur.answered = [] ∧ cur.pass ≤ s.passes x ∧ s.reached (s.passRel x cur) = true ∧ cur.inbox = []) ∧
    (∃ (s : State) (x : ℕ) (b : DItems) (rest : List DItems) (q : ℕ) (p : ℕ) (y : ℕ) (z : ℕ), (s.ctx x).items = b :: rest ∧ s.reached (b.f - 160) = true ∧ b.items = [(q, p)] ∧ b.clear = false ∧ (s.ctx x).graph.targets[q]? = some (y, z)) ∧
    (∃ (s : State) (x : ℕ) (l : DLog) (acc : ℕ) (deg : Bool) (xcut : Bool) (rest : List (DLog × ℕ × Bool × Bool)), (s.ctx x).logs = (l, acc, deg, xcut) :: rest ∧ s.reached l.f = true) ∧
    (∃ (s : State) (x : ℕ), s.xst x = xFLUSH ∧ s.reached (s.ctx x).flushAt = true ∧ ((∀ l ∈ (s.ctx x).logs, (s.ctx x).on = true ∧ l.1.pass = s.decPass x))) :=
  ⟨⟨(w11d { w11c with wait := [w11r false none] }), (5), (w11r false none), ([]), _, rfl, by decide +kernel⟩,
    ⟨(w11d { w11c with wait := [w11r true (some w11l)], graph := { w11g with ndetF := 2, edgesF := w11g.edges } }), (5), (w11r true (some w11l)), ([]), _, _, (w11l), rfl, rfl, by decide +kernel⟩,
    ⟨(w11d { w11q with wait := [w11r false none] }), (5), (w11r false none), ([]), _, rfl, by decide +kernel⟩,
    ⟨(w11d { w11q with wait := [w11r false none] }), (5), (w11r false none), ([]), by decide +kernel⟩,
    ⟨(w11d { w11q with wait := [w11r false none], on := false }), (5), (w11r false none), ([]), by decide +kernel⟩,
    ⟨(w11d { w11q with cur := some (w11u 0 false), win := [w11r false none] }), (5), (w11u 0 false), _, _, (1), _, rfl, rfl, rfl, by decide +kernel⟩,
    ⟨(w11d w11z), (5), (1), (w11u 1 true), by decide +kernel⟩,
    ⟨(w11t w11z), (5), (1), (w11u 1 true), (Or.inl (by decide +kernel)), by decide +kernel⟩,
    ⟨(w11t { w11z with cur := some w11y }), (5), (1), (w11x), (w11y), _, rfl, (by intro r h; rw [show (((w11t { w11z with cur := some w11y })).ctx ((5))).win.getLast? = some (w11r false none) by decide +kernel] at h; cases h; decide +kernel), by decide +kernel⟩,
    ⟨(w11t w11z), (5), (1), (w11u 1 true), _, rfl, by decide +kernel⟩,
    ⟨(w11d { w11c with items := [⟨16160, [(0, 1)], false⟩] }), (5), (⟨16160, [(0, 1)], false⟩), ([]), (0), (1), (1), (0), by decide +kernel⟩,
    ⟨(w11d { w11c with logs := [(w11l, 1, true, false)] }), (5), (w11l), (1), (true), (false), ([]), by decide +kernel⟩,
    ⟨(fl [(DEC_CSTS 5, DEC_CSTS_CSTATE, 3)] (w11d { w11c with flushAt := 16000 })), (5), by decide +kernel⟩⟩

/-- A state, or a part of one, of the witnesses. -/
def w12c : State := fl [(WCH_CSTS 5, WCH_CSTS_CSTATE, 2), (WCH_CTL 5, WCH_CTL_MODE, 1)] (alt 0x0C 0 5 1 (rg [(WCH_REG 5 1, 5), (WCH_REG 5 2, 0xFFFFFFFFFFFF), (WCH_REG 5 18, 0x8000000000000000), (WCH_REG 5 19, 0x7FFFFFFFFF)] y1))
/-- A state, or a part of one, of the witnesses. -/
def w12 (op f : Nat) : State := win 5 0 (op * 2 ^ 26 + f) w12c
/-- WinchArithmeticWritesItsRegister: states and operands that meet the hypotheses of each clause. -/
theorem witness_WinchArithmeticWritesItsRegister :
    (∃ (s : State) (x : ℕ) (w : ℕ), s.wGoes x 0 w) ∧
    (∃ (s : State) (x : ℕ), s.wReady x = true) ∧
    (∃ (s : State) (x : ℕ) (w : ℕ), s.wInsn x = w ∧ 0x18 ≤ bits w 31 26 ∧ s.wReady x = true ∧ s.wBreak x = false) ∧
    (∃ (s : State) (x : ℕ) (w : ℕ), s.wGoes x 1 w) ∧
    (∃ (s : State) (x : ℕ) (w : ℕ), s.wGoes x 2 w) ∧
    (∃ (s : State) (x : ℕ) (w : ℕ), s.wGoes x 3 w) ∧
    (∃ (s : State) (x : ℕ) (w : ℕ), s.wGoes x 4 w ∧ bits w 13 10 ≤ 9) ∧
    (∃ (s : State) (x : ℕ) (w : ℕ), s.wGoes x 4 w ∧ 9 < bits w 13 10) ∧
    (∃ (s : State) (x : ℕ) (w : ℕ) (n : ℕ) (r : ℕ × Bool), n = bits w 25 24 ∧ r = macVal (s.wAcc x n) (s.wD x (bits w 23 20)) (s.wD x (bits w 19 16)) (bit w 15) (bit w 14) (bit w 13) (bit w 12) ∧ s.wGoes x 5 w) ∧
    (∃ (s : State) (x : ℕ) (w : ℕ) (r : ℕ × Bool), r = accxVal (s.wAcc x (bits w 21 20)) (bits w 19 14) (bit w 13) ∧ s.wGoes x 7 w) ∧
    (∃ (s : State) (x : ℕ) (w : ℕ) (n : ℕ) (b : ℕ), n = bits w 25 24 ∧ b = s.wD x (bits w 23 20) ∧ s.wGoes x 8 w) ∧
    (∃ (s : State) (x : ℕ) (w : ℕ), s.wGoes x 0x0C w ∧ bits w 21 17 ≤ 0x1D) ∧
    (∃ (s : State) (x : ℕ) (w : ℕ), s.wGoes x 0x11 w) :=
  ⟨⟨(w12 0 0), (5), (0), by unfold State.wGoes; decide +kernel⟩,
    ⟨(w12c), (5), by decide +kernel⟩,
    ⟨(w12 0x18 7), (5), (0x18 * 2 ^ 26 + 7), by decide +kernel⟩,
    ⟨(w12 1 (3 * 2 ^ 22 + 2 ^ 19)), (5), (2 ^ 26 + 3 * 2 ^ 22 + 2 ^ 19), by unfold State.wGoes; decide +kernel⟩,
    ⟨(w12 2 (15 * 2 ^ 22 + 2 ^ 21)), (5), (2 * 2 ^ 26 + 15 * 2 ^ 22 + 2 ^ 21), by unfold State.wGoes; decide +kernel⟩,
    ⟨(w12 3 (2 ^ 22 + 3)), (5), (3 * 2 ^ 26 + 2 ^ 22 + 3), by unfold State.wGoes; decide +kernel⟩,
    ⟨(w12 4 (3 * 2 ^ 22 + 2 ^ 18 + 2 * 2 ^ 14 + 9 * 2 ^ 10 + 2 ^ 9)), (5), (4 * 2 ^ 26 + 3 * 2 ^ 22 + 2 ^ 18 + 2 * 2 ^ 14 + 9 * 2 ^ 10 + 2 ^ 9), by unfold State.wGoes; decide +kernel, by decide +kernel⟩,
    ⟨(w12 4 (10 * 2 ^ 10)), (5), (4 * 2 ^ 26 + 10 * 2 ^ 10), by unfold State.wGoes; decide +kernel, by decide +kernel⟩,
    ⟨(w12 5 (2 ^ 24 + 2 * 2 ^ 20 + 2 ^ 16 + 2 ^ 12)), (5), (5 * 2 ^ 26 + 2 ^ 24 + 2 * 2 ^ 20 + 2 ^ 16 + 2 ^ 12), _, _, rfl, rfl, by unfold State.wGoes; decide +kernel⟩,
    ⟨(w12 7 (3 * 2 ^ 22 + 2 ^ 20 + 5 * 2 ^ 14 + 2 ^ 13)), (5), (7 * 2 ^ 26 + 3 * 2 ^ 22 + 2 ^ 20 + 5 * 2 ^ 14 + 2 ^ 13), _, rfl, by unfold State.wGoes; decide +kernel⟩,
    ⟨(w12 8 (2 ^ 24 + 3 * 2 ^ 20)), (5), (8 * 2 ^ 26 + 2 ^ 24 + 3 * 2 ^ 20), _, _, rfl, rfl, by unfold State.wGoes; decide +kernel⟩,
    ⟨(rg [(WCH_IPEND 5, 5)] (w12 0x0C (3 * 2 ^ 22 + 0x1D * 2 ^ 17))), (5), (0x0C * 2 ^ 26 + 3 * 2 ^ 22 + 0x1D * 2 ^ 17), by unfold State.wGoes; decide +kernel, by decide +kernel⟩,
    ⟨(w12 0x11 (3 * 2 ^ 22)), (5), (0x11 * 2 ^ 26 + 3 * 2 ^ 22), by unfold State.wGoes; decide +kernel⟩⟩

/-- A state, or a part of one, of the witnesses. -/
def w12p (o b r op f : Nat) : State := win 5 1000 0xFFFF123456789ABC (rg [(WCH_REG 5 27, o), (WCH_REG 5 35, b), (WCH_REG 5 43, r)] (w12 op f))
/-- WinchMemoryLoopsAndBranches: states and operands that meet the hypotheses of each clause. -/
theorem witness_WinchMemoryLoopsAndBranches :
    (∃ (s : State) (x : ℕ) (w : ℕ) (n : ℕ) (a : ℕ), n = bits w 21 19 ∧ s.wGoes x 9 w ∧ s.wPoints x n a) ∧
    (∃ (s : State) (x : ℕ) (w : ℕ) (n : ℕ) (p : ℕ), n = bits w 21 19 ∧ p = s.wSpr x n % s.wSpr x (0x10 + n) ∧ s.wGoes x 9 w ∧ s.wSpr x (0x10 + n) ≠ 0 ∧ s.wSpr x (0x10 + n) ≤ s.wSpr x n ∧ s.wSpr x n < 2 ^ 16 ∧ s.wSpr x (0x08 + n) + p < 65536) ∧
    (∃ (s : State) (x : ℕ) (w : ℕ) (n : ℕ), n = bits w 21 19 ∧ s.wGoes x 9 w ∧ ((s.wSpr x (0x10 + n) = 0 ∨ s.wSpr x n < s.wSpr x (0x10 + n))) ∧ 65536 ≤ s.wSpr x (0x08 + n) + s.wSpr x n) ∧
    (∃ (s : State) (x : ℕ) (w : ℕ) (n : ℕ) (a : ℕ), n = bits w 21 19 ∧ s.wGoes x 0x0A w ∧ s.wPoints x n a) ∧
    (∃ (s : State) (x : ℕ) (w : ℕ) (n : ℕ) (a : ℕ) (m : ℕ) (r : ℕ × Bool), n = bits w 19 17 ∧ m = bits w 25 24 ∧ r = macVal (s.wAcc x m) (s.wD x (bits w 23 20)) (s.wWord x a % 2 ^ 48) (bit w 16) (bit w 15) (bit w 14) (bit w 13) ∧ s.wGoes x 6 w ∧ s.wPoints x n a) ∧
    (∃ (s : State) (x : ℕ) (w : ℕ) (k : ℕ) (v : ℕ), k = bits w 25 21 ∧ v = (if bit w 20 = true then s.wD x (bits w 3 0) else bits w 16 0) ∧ s.wGoes x 0x0B w ∧ k ≤ 0x1C) ∧
    (∃ (s : State) (x : ℕ) (w : ℕ) (v : ℕ), v = (if bit w 20 = true then s.wD x (bits w 3 0) else bits w 16 0) ∧ s.wGoes x 0x0B w ∧ bits w 25 21 = 0x1D) ∧
    (∃ (s : State) (x : ℕ) (w : ℕ) (n : ℕ) (b : ℕ), n = s.wD x (bits w 25 22) % 2 ^ 20 ∧ b = bits w 16 0 ∧ s.wGoes x 0x0D w ∧ 0 < n ∧ 0 < b ∧ s.wPC x + b ≤ 131071) ∧
    (∃ (s : State) (x : ℕ) (w : ℕ), s.wGoes x 0x0D w ∧ ((s.wD x (bits w 25 22) % 2 ^ 20 = 0 ∨ bits w 16 0 = 0))) ∧
    (∃ (s : State) (x : ℕ) (w : ℕ), s.wGoes x 0x0E w ∧ bits w 25 23 ≠ 7 ∧ wCond (bits w 25 23) (s.wD x (bits w 22 19)) (s.wD x (bits w 18 15)) = false) ∧
    (∃ (s : State) (x : ℕ) (w : ℕ) (n : ℕ), n = (((s.wPC x : Int) + 1 + sgn 15 (bits w 14 0)) % 131072).toNat ∧ s.wGoes x 0x0E w ∧ bits w 25 23 ≠ 7 ∧ wCond (bits w 25 23) (s.wD x (bits w 22 19)) (s.wD x (bits w 18 15)) = true) ∧
    (∃ (s : State) (x : ℕ) (w : ℕ), s.wGoes x 0x0F w) ∧
    (∃ (s : State) (x : ℕ) (w : ℕ) (n : ℕ), n = s.wD x (bits w 25 22) % 2 ^ 17 ∧ s.wGoes x 0x10 w) :=
  ⟨⟨(w12p 7 993 8 9 (4 * 2 ^ 22 + 3 * 2 ^ 19 + 2 * 2 ^ 11)), (5), (9 * 2 ^ 26 + 4 * 2 ^ 22 + 3 * 2 ^ 19 + 2 * 2 ^ 11), _, (1000), rfl, by unfold State.wGoes; decide +kernel, by unfold State.wPoints; decide +kernel⟩,
    ⟨(w12p 8 1000 8 9 (4 * 2 ^ 22 + 3 * 2 ^ 19 + 0xFF * 2 ^ 11)), (5), (9 * 2 ^ 26 + 4 * 2 ^ 22 + 3 * 2 ^ 19 + 0xFF * 2 ^ 11), _, _, rfl, rfl, by unfold State.wGoes; decide +kernel, by decide +kernel⟩,
    ⟨(w12p 1 65535 0 9 (4 * 2 ^ 22 + 3 * 2 ^ 19)), (5), (9 * 2 ^ 26 + 4 * 2 ^ 22 + 3 * 2 ^ 19), _, rfl, by unfold State.wGoes; decide +kernel, by decide +kernel⟩,
    ⟨(w12p 0 65535 0 0x0A (2 * 2 ^ 22 + 3 * 2 ^ 19 + 0xFF * 2 ^ 11)), (5), (0x0A * 2 ^ 26 + 2 * 2 ^ 22 + 3 * 2 ^ 19 + 0xFF * 2 ^ 11), _, (65535), rfl, by unfold State.wGoes; decide +kernel, by unfold State.wPoints; decide +kernel⟩,
    ⟨(w12p 0 1000 4 6 (2 ^ 24 + 2 ^ 20 + 3 * 2 ^ 17 + 2 ^ 16 + 2 ^ 5)), (5), (6 * 2 ^ 26 + 2 ^ 24 + 2 ^ 20 + 3 * 2 ^ 17 + 2 ^ 16 + 2 ^ 5), _, (1000), _, _, rfl, rfl, rfl, by unfold State.wGoes; decide +kernel, by unfold State.wPoints; decide +kernel⟩,
    ⟨(rg [(WCH_REG 5 48, 3), (WCH_REG 5 49, 0)] (w12 0x0B (0x1A * 2 ^ 21 + 9))), (5), (0x0B * 2 ^ 26 + 0x1A * 2 ^ 21 + 9), _, _, rfl, rfl, by unfold State.wGoes; decide +kernel, by decide +kernel⟩,
    ⟨(rg [(WCH_IPEND 5, 7)] (w12 0x0B (0x1D * 2 ^ 21 + 2 ^ 20 + 1))), (5), (0x0B * 2 ^ 26 + 0x1D * 2 ^ 21 + 2 ^ 20 + 1), _, rfl, by unfold State.wGoes; decide +kernel, by decide +kernel⟩,
    ⟨(w12 0x0D (2 ^ 22 + 0x1FFFF)), (5), (0x0D * 2 ^ 26 + 2 ^ 22 + 0x1FFFF), _, _, rfl, rfl, by unfold State.wGoes; decide +kernel, by decide +kernel⟩,
    ⟨(w12 0x0D (3 * 2 ^ 22 + 4)), (5), (0x0D * 2 ^ 26 + 3 * 2 ^ 22 + 4), by unfold State.wGoes; decide +kernel, by decide +kernel⟩,
    ⟨(w12 0x0E (2 ^ 19)), (5), (0x0E * 2 ^ 26 + 2 ^ 19), by unfold State.wGoes; decide +kernel, by decide +kernel⟩,
    ⟨(w12 0x0E (2 ^ 23 + 2 ^ 19 + 0x7FFE)), (5), (0x0E * 2 ^ 26 + 2 ^ 23 + 2 ^ 19 + 0x7FFE), _, rfl, by unfold State.wGoes; decide +kernel, by decide +kernel⟩,
    ⟨(w12 0x0F (3 * 2 ^ 22 + 0x1FFFF)), (5), (0x0F * 2 ^ 26 + 3 * 2 ^ 22 + 0x1FFFF), by unfold State.wGoes; decide +kernel⟩,
    ⟨(w12 0x10 (2 * 2 ^ 22)), (5), (0x10 * 2 ^ 26 + 2 * 2 ^ 22), _, rfl, by unfold State.wGoes; decide +kernel⟩⟩

/-- A state, or a part of one, of the witnesses. -/
def w12s (st : Nat) (c : Core) : State := let s := fl [(WCH_CSTS 5, WCH_CSTS_CSTATE, st)] w12c
  { s with wch := { s.wch with cores := [(5, c)] } }
/-- A state, or a part of one, of the witnesses. -/
def w12x : Xfer := ⟨800, 1, 1, 100, 32, 16, 0⟩
/-- WinchCoresStartStopAndTakeInterrupts: states and operands that meet the hypotheses of each clause. -/
theorem witness_WinchCoresStartStopAndTakeInterrupts :
    (∃ (s : State) (x : ℕ), s.opens (WCH_CTL x) ∧ ((s.flag (WCH_CTL x) WCH_CTL_MODE = true ∨ ∀ z, z < 8 → z ≠ x → s.flag (WCH_CTL z) WCH_CTL_RUN = true → s.flag (WCH_CTL z) WCH_CTL_MODE = false → s.rdN (WCH_RQID z) ≠ s.rdN (WCH_RQID x))) ∧ x < 8 ∧ s.wst x = wIDLE ∧ ((s.dev = dREADY ∨ s.dev = dRUN))) ∧
    (∃ (s : State) (x : ℕ), s.opens (WCH_CTL x) ∧ x < 8 ∧ ((s.wst x ≠ wIDLE ∨ (s.dev ≠ dREADY ∧ s.dev ≠ dRUN)))) ∧
    (∃ (s : State) (x : ℕ), s.opens (WCH_CTL x) ∧ x < 8 ∧ s.wst x ≠ wOFF ∧ s.wst x ≠ wIDLE ∧ (s.core x).svc = none ∧ (s.core x).xfers = []) ∧
    (∃ (s : State) (x : ℕ), s.opens (WCH_CTL x) ∧ x < 8 ∧ ((s.wst x = wRUN ∨ s.wst x = wWAIT)) ∧ (s.core x).svc = none ∧ (s.core x).xfers ≠ []) ∧
    (∃ (s : State) (x : ℕ) (v : Svc), s.opens (WCH_CTL x) ∧ x < 8 ∧ ((s.wst x = wRUN ∨ s.wst x = wWAIT)) ∧ (s.core x).svc = some v ∧ v.code = 0) ∧
    (∃ (s : State) (x : ℕ), s.opens (WCH_CTL x)) ∧
    (∃ (s : State) (x : ℕ), s.opens (WCH_CTL x)) ∧
    (∃ (s : State) (x : ℕ) (m : ℕ), s.opens (WCH_CTL x) ∧ s.wst x = wIDLE ∧ m < 2) ∧
    (∃ (s : State) (x : ℕ), s.opens (WCH_CTL x) ∧ s.wst x ≠ wIDLE) ∧
    (∃ (s : State) (x : ℕ), s.opens (WCH_IPEND x)) ∧
    (∃ (s : State) (x : ℕ), s.wst x = wRUN ∧ (s.core x).stopping = false ∧ s.flag (WCH_CTL x) WCH_CTL_MODE = true ∧ s.fld WCH_STS WCH_STS_CLK ≠ 2 ∧ s.wIE x = true ∧ s.wPend x = true ∧ x < 8) ∧
    (∃ (s : State) (x : ℕ), ((s.wIE x = false ∨ s.wPend x = false))) ∧
    (∃ (s : State) (x : ℕ) (w : ℕ), s.wGoes x 0x15 w) ∧
    (∃ (s : State) (x : ℕ) (w : ℕ), s.wGoes x 0x16 w) ∧
    (∃ (s : State) (x : ℕ) (w : ℕ), s.wGoes x 0x17 w) :=
  ⟨⟨(w12s 1 default), (5), by unfold State.opens; decide +kernel, (.inl (by decide +kernel)), by decide +kernel⟩,
    ⟨(w12s 2 default), (5), by unfold State.opens; decide +kernel, by decide +kernel⟩,
    ⟨(w12s 5 default), (5), by unfold State.opens; decide +kernel, by decide +kernel⟩,
    ⟨(w12s 3 { (default : Core) with xfers := [w12x] }), (5), by unfold State.opens; decide +kernel, by decide +kernel⟩,
    ⟨(w12s 2 { (default : Core) with svc := some ⟨[0x12, 3, 0, 0, 0, 0, 40, 0], 0, []⟩ }), (5), (⟨[0x12, 3, 0, 0, 0, 0, 40, 0], 0, []⟩), by unfold State.opens; decide +kernel, by decide +kernel⟩,
    ⟨(w12s 3 default), (5), by unfold State.opens; decide +kernel⟩,
    ⟨(w12s 4 default), (5), by unfold State.opens; decide +kernel⟩,
    ⟨(w12s 1 default), (5), (1), by unfold State.opens; decide +kernel, by decide +kernel⟩,
    ⟨(w12s 2 default), (5), by unfold State.opens; decide +kernel, by decide +kernel⟩,
    ⟨(rg [(WCH_IEN 5, 1)] (w12s 3 default)), (5), by unfold State.opens; decide +kernel⟩,
    ⟨(rg [(WCH_IEN 5, 1), (WCH_IPEND 5, 1), (WCH_REG 5 52, 1), (WCH_IVEC 5, 0x100)] (w12s 2 default)), (5), by decide +kernel⟩,
    ⟨(w12s 2 default), (5), by decide +kernel⟩,
    ⟨(w12 0x15 0), (5), (0x15 * 2 ^ 26), by unfold State.wGoes; decide +kernel⟩,
    ⟨(rg [(WCH_REG 5 51, 77), (WCH_REG 5 52, 2)] (w12 0x16 0)), (5), (0x16 * 2 ^ 26), by unfold State.wGoes; decide +kernel⟩,
    ⟨(w12 0x17 0), (5), (0x17 * 2 ^ 26), by unfold State.wGoes; decide +kernel⟩⟩

/-- A state, or a part of one, of the witnesses. -/
def w12e (sm : State → State) : State := win 5 1001 0xFFFF123456789ABC (win 5 1000 (2 ^ 28 + 0x1042018) (sm (rg [(WCH_REG 5 1, 640), (WCH_REG 5 35, 1000)] (w12 0x12 (2 ^ 22 + 3 * 2 ^ 18)))))
/-- A state, or a part of one, of the witnesses. -/
def w12r (c ws1 : Nat) : State := let s := fl [(WCH_CTL 5, WCH_CTL_MODE, 0), (monSTS 5, MON_STS_MSTATE, 1)] (own 4 3 0 0 128 (own 6 3 0 0 8 (own 7 3 0 0 8 (rg [(WCH_RQID 5, 4)] (w12s 2 default)))))
  s.setQue 4 { (default : Que) with desc := [0, 0, 0, 0, 16, 2, 0, 0], st := 1, cons := c, prod := ws1 }
/-- A state, or a part of one, of the witnesses. -/
def w12v : Svc := ⟨[0x12, 3, 0, 0, 0, 0, 40, 0], 0, [77]⟩
/-- A state, or a part of one, of the witnesses. -/
def w12q : List Nat := [2 + 2 ^ 16 + 2 ^ 32, 3 + 2 ^ 33 + 2 ^ 48, 0x100 + 4 * 2 ^ 16 + 10 * 2 ^ 32, 0, 0, 1024 * 2 ^ 32, 0, 0]
/-- WinchItemsTransfersAndServices: states and operands that meet the hypotheses of each clause. -/
theorem witness_WinchItemsTransfersAndServices :
    (∃ (s : State) (x : ℕ) (w : ℕ) (n : ℕ) (a : ℕ) (rel : ℕ) (off : ℕ), n = bits w 20 18 ∧ rel = emitRel s.tb1 (s.wD x (bits w 25 22)) (bit w 21) ∧ off = bits (s.wWord x a) 25 0 ∧ s.wGoes x 0x12 w ∧ s.wPoints x n a ∧ s.wItems x < 16 ∧ a < 65535 ∧ s.tb1Run = true ∧ s.tb1 + 640 ≤ rel ∧ s.wMayPage x off = true) ∧
    (∃ (s : State) (x : ℕ) (w : ℕ) (n : ℕ) (a : ℕ), n = bits w 20 18 ∧ s.wGoes x 0x12 w ∧ s.wPoints x n a ∧ s.wItems x < 16 ∧ a < 65535 ∧ s.tb1Run = false) ∧
    (∃ (s : State) (x : ℕ) (w : ℕ) (n : ℕ) (a : ℕ), n = bits w 20 18 ∧ s.wGoes x 0x12 w ∧ s.wPoints x n a ∧ s.wItems x < 16 ∧ a < 65535 ∧ s.tb1Run = true ∧ emitRel s.tb1 (s.wD x (bits w 25 22)) (bit w 21) < s.tb1 + 640) ∧
    (∃ (s : State) (x : ℕ) (w : ℕ), s.wGoes x 0x12 w ∧ 16 ≤ s.wItems x) ∧
    (∃ (s : State) (x : ℕ) (w : ℕ) (n : ℕ) (a : ℕ) (d : ℕ), n = bits w 25 23 ∧ d = 524288 * x + 8 * a ∧ s.wGoes x 0x13 w ∧ s.wPoints x n a ∧ a < 65533) ∧
    (∃ (s : State) (x : ℕ) (i : ℕ) (q : Xfer) (a : ℕ), a = 524288 * x + q.desc + 0x14 ∧ (s.core x).xfers[i]? = some q ∧ s.fld WCH_STS WCH_STS_CLK ≠ 2 ∧ q.code ≠ 0 ∧ (s.core x).stopping = false) ∧
    (∃ (s : State) (x : ℕ) (i : ℕ) (q : Xfer), (s.core x).xfers[i]? = some q ∧ s.fld WCH_STS WCH_STS_CLK ≠ 2 ∧ q.code = 0 ∧ q.st = 1 ∧ (s.core x).stopping = false) ∧
    (∃ (s : State) (x : ℕ) (w : ℕ), s.wGoes x 0x14 w ∧ (s.core x).xfers = [] ∧ s.wItems x = 0) ∧
    (∃ (s : State) (x : ℕ) (w : ℕ), s.wGoes x 0x14 w ∧ (((s.core x).xfers ≠ [] ∨ s.wItems x ≠ 0))) ∧
    (∃ (p : (ℕ → List ℕ → Instr) × ℕ) (s : State) (x : ℕ) (ws : List ℕ) (y : ℕ) (q : Que), y = svcYard (s.svcWords x ws) ∧ q = s.que (s.rdN (WCH_RQID x)) ∧ p ∈ [(Instr.svcResSpec, 1), (Instr.svcRabi, 2), (Instr.svcRamsey, 3), (Instr.svcDrag, 4), (Instr.svcKtrain, 5), (Instr.svcFluxid, 6)] ∧ s.svcReady x = true ∧ svcCode (s.svcWords x ws) = p.2 ∧ s.svcCheck x (s.svcWords x ws) = 0) ∧
    (∃ (p : (ℕ → List ℕ → Instr) × ℕ) (s : State) (x : ℕ) (ws : List ℕ) (q : Que), q = s.que (s.rdN (WCH_RQID x)) ∧ p ∈ [(Instr.svcStats, 0x10), (Instr.svcHist, 0x11)] ∧ s.svcReady x = true ∧ svcCode (s.svcWords x ws) = p.2 ∧ s.svcCheck x (s.svcWords x ws) = 0) ∧
    (∃ (s : State) (x : ℕ) (ws : List ℕ) (i : Inj), i = ⟨1, (s.wPart x).getD 0, bits (svcArg (s.svcWords x ws) 0) 27 16, svcArg (s.svcWords x ws) 0 % 128, none⟩ ∧ s.svcReady x = true ∧ svcCode (s.svcWords x ws) = 0x12 ∧ s.svcCheck x (s.svcWords x ws) = 0 ∧ s.injCheck (i.input / 8) i = 0) ∧
    (∃ (p : (ℕ → List ℕ → Instr) × ℕ) (s : State) (x : ℕ) (ws : List ℕ), p ∈ [(Instr.svcResSpec, 1), (Instr.svcRabi, 2), (Instr.svcRamsey, 3), (Instr.svcDrag, 4), (Instr.svcKtrain, 5), (Instr.svcFluxid, 6), (Instr.svcStats, 0x10), (Instr.svcHist, 0x11), (Instr.svcMoninj, 0x12)] ∧ s.svcReady x = true ∧ svcCode (s.svcWords x ws) = p.2 ∧ s.svcCheck x (s.svcWords x ws) ≠ 0) ∧
    (∃ (s : State) (x : ℕ) (shots : ℕ) (v : Svc), ((svcHolds v.words = true ∨ svcShots v.words ≤ shots ∨ s.yIdle (svcYard v.words) = true)) ∧ (s.core x).svc = some v ∧ s.fld WCH_STS WCH_STS_CLK ≠ 2 ∧ s.wst x = wRUN ∧ v.code = 0 ∧ svcCode v.words ≠ 0x12 ∧ ((svcHolds v.words = true → s.yIdle (svcYard v.words) = true))) ∧
    (∃ (s : State) (x : ℕ) (v : Svc), (s.core x).svc = some v ∧ s.fld WCH_STS WCH_STS_CLK ≠ 2 ∧ s.wst x = wRUN ∧ v.code = 0 ∧ svcCode v.words = 0x12 ∧ v.res ≠ []) ∧
    (∃ (s : State) (x : ℕ) (v : Svc), (s.core x).svc = some v ∧ v.code = 0 ∧ svcCode v.words = 0x12 ∧ v.res = []) :=
  ⟨⟨(w12e id), (5), (0x12 * 2 ^ 26 + 2 ^ 22 + 3 * 2 ^ 18), _, (1000), _, _, rfl, rfl, rfl, by unfold State.wGoes; decide +kernel, by unfold State.wPoints; decide +kernel, by decide +kernel⟩,
    ⟨(w12e (fl [(STAY_STS, STAY_STS_TB1STATE, 0)])), (5), (0x12 * 2 ^ 26 + 2 ^ 22 + 3 * 2 ^ 18), _, (1000), rfl, by unfold State.wGoes; decide +kernel, by unfold State.wPoints; decide +kernel, by decide +kernel⟩,
    ⟨(rg [(WCH_REG 5 1, 639)] (w12e id)), (5), (0x12 * 2 ^ 26 + 2 ^ 22 + 3 * 2 ^ 18), _, (1000), rfl, by unfold State.wGoes; decide +kernel, by unfold State.wPoints; decide +kernel, by decide +kernel⟩,
    ⟨(w12e (fun zz => { zz with bus := { zz.bus with transit := List.replicate 16 ⟨20000, islWinch, 1, .ctrl, .emit 0x1042018 0 false 5⟩ } })), (5), (0x12 * 2 ^ 26 + 2 ^ 22 + 3 * 2 ^ 18), by unfold State.wGoes; decide +kernel, by decide +kernel⟩,
    ⟨(win 5 1002 0x100 (win 5 1001 0x1000 (win 5 1000 (0x101 + 100 * 2 ^ 32) (rg [(WCH_REG 5 35, 1000)] (w12 0x13 (3 * 2 ^ 23)))))), (5), (0x13 * 2 ^ 26 + 3 * 2 ^ 23), _, (1000), _, rfl, rfl, by unfold State.wGoes; decide +kernel, by unfold State.wPoints; decide +kernel, by decide +kernel⟩,
    ⟨(w12s 2 { (default : Core) with xfers := [w12x, { w12x with code := 0x1234 }] }), (5), (1), ({ w12x with code := 0x1234 }), _, rfl, by decide +kernel⟩,
    ⟨(w12s 2 { (default : Core) with xfers := [w12x, { w12x with code := 0x1234 }] }), (5), (0), (w12x), by decide +kernel⟩,
    ⟨(w12 0x14 0), (5), (0x14 * 2 ^ 26), by unfold State.wGoes; decide +kernel, by decide +kernel⟩,
    ⟨(let zz := w12 0x14 0; { zz with wch := { zz.wch with cores := [(5, { (default : Core) with xfers := [w12x] })] } }), (5), (0x14 * 2 ^ 26), by unfold State.wGoes; decide +kernel, by decide +kernel⟩,
    ⟨((Instr.svcRabi, 2)), (w12r 15 16), (5), (w12q), _, _, rfl, rfl, (.tail _ (.head _)), by decide +kernel⟩,
    ⟨((Instr.svcStats, 0x10)), (w12r 31 0), (5), ([0x10 + 2 ^ 16 + 2 ^ 24, 3 + 2 ^ 33 + 2 ^ 48, 10 * 2 ^ 32, 0, 0, 0, 0, 0]), _, rfl, (.head _), by decide +kernel⟩,
    ⟨(w12r 0 1), (5), ([0x12, 3, 0, 0, 0, 0, 7 * 2 ^ 16 + 40, 0]), _, rfl, by decide +kernel⟩,
    ⟨((Instr.svcFluxid, 6)), (w12r 0 1), (5), ([6 + 2 ^ 16 + 2 ^ 32, 3 + 2 ^ 33 + 2 ^ 48, 0x100 + 4 * 2 ^ 16 + 10 * 2 ^ 32, 0, 0, 1024 * 2 ^ 32, 0, 0]), (.tail _ (.tail _ (.tail _ (.tail _ (.tail _ (.head _)))))), by decide +kernel⟩,
    ⟨(w12s 2 { (default : Core) with svc := some ⟨w12q.set 0 (2 + 2 ^ 8 + 2 ^ 16 + 2 ^ 32), 0, []⟩ }), (5), (10), (⟨w12q.set 0 (2 + 2 ^ 8 + 2 ^ 16 + 2 ^ 32), 0, []⟩), (Or.inl (by decide +kernel)), by decide +kernel⟩,
    ⟨(w12s 2 { (default : Core) with svc := some w12v }), (5), (w12v), by decide +kernel⟩,
    ⟨(w12s 2 { (default : Core) with svc := some { w12v with res := [] } }), (5), ({ w12v with res := [] }), by decide +kernel⟩⟩

/-- A state, or a part of one, of the witnesses. -/
def w13 (ctl st src : Nat) : State := fl [(CNS_STS 5, CNS_STS_CSTATE, st), (CNS_TRIG 5, CNS_TRIG_SRC, src), (CNS_TAP 5, CNS_TAP_KIND, 4), (CNS_TAP 5, CNS_TAP_INDEX, 1)]
  (alt 0x0E 0 0 4 (alt 0x0D 0 5 1 (own 7 3 0 0 32 (rg [(CNS_CTL 5, ctl), (CNS_PRE 5, 8), (CNS_POST 5, 8), (CNS_REGION 5, 4), (CNS_PAGES 5, 4), (CNS_NREC 5, 3), (CNS_LVL 5, 100 * 2 ^ 16 + 10)] y1))))
/-- A state, or a part of one, of the witnesses. -/
def w13c (ctl st src : Nat) (x : Cns) : State := (w13 ctl st src).setCns 5 x
/-- A state, or a part of one, of the witnesses. -/
def w13a : Nat := 2 ^ 31 + 2 ^ 28
/-- A state, or a part of one, of the witnesses. -/
def w13s : Nat := 2 ^ 31 + 2 ^ 29
/-- A state, or a part of one, of the witnesses. -/
def w13t (t : Option CTrig) : Cns := { (default : Cns) with start := 15900, trig := t, recs := 1, holdEnd := 15999 }
/-- CaptureChannelsArmTriggerAndRecord: states and operands that meet the hypotheses of each clause. -/
theorem witness_CaptureChannelsArmTriggerAndRecord :
    (∃ (s : State) (c : ℕ) (v : ℕ) (w : ℕ) (u : State), w = 2 ^ 31 + v % 2 ^ 31 ∧ u = s.wrRW (CNS_CTL c) w ∧ s.opens (CNS_CTL c) ∧ c < 16 ∧ s.flag (CNS_CTL c) CNS_CTL_ARM = false ∧ u.armCheck c = 0) ∧
    (∃ (s : State) (c : ℕ) (v : ℕ), s.opens (CNS_CTL c) ∧ c < 16 ∧ s.flag (CNS_CTL c) CNS_CTL_ARM = false ∧ (s.wrRW (CNS_CTL c) (2 ^ 31 + v % 2 ^ 31)).armCheck c ≠ 0) ∧
    (∃ (s : State) (c : ℕ) (v : ℕ), s.opens (CNS_CTL c) ∧ c < 16 ∧ s.flag (CNS_CTL c) CNS_CTL_ARM = true ∧ (v % 2 ^ 31) &&& (rwMask (CNS_CTL c)).toNat = s.rdN (CNS_CTL c) - 2 ^ 31 ∧ s.cnsSt c ≠ capOFF) ∧
    (∃ (s : State) (c : ℕ) (v : ℕ), s.opens (CNS_CTL c) ∧ c < 16 ∧ s.flag (CNS_CTL c) CNS_CTL_ARM = true ∧ (v % 2 ^ 31) &&& (rwMask (CNS_CTL c)).toNat ≠ s.rdN (CNS_CTL c) - 2 ^ 31) ∧
    (∃ (s : State) (c : ℕ) (p : ℕ), p = ceilTo (tapPeriod (s.cKind c)) s.tb1 ∧ s.opens (CNS_FORCE c) ∧ c < 16 ∧ s.cnsSt c = capFILLING ∧ (s.cns c).start ≤ p ∧ s.cDone c s.tb1 ≤ s.cOut c p + s.cPre c + s.cPost c ∧ ((s.fld (CNS_TRIG c) CNS_TRIG_SRC ≠ 2 ∨ s.fld (CNS_TRIG c) CNS_TRIG_TSEL ≠ c))) ∧
    (∃ (s : State) (c : ℕ) (src : ℕ) (inst : ℕ) (p : ℕ), p = ceilTo (tapPeriod (s.cKind c)) inst ∧ c < 16 ∧ src ≠ 1 ∧ src ≠ 7 ∧ (s.cns c).evs.contains (src, inst) = true ∧ s.tb1 ≤ inst + 1024 ∧ s.cnsSt c = capFILLING ∧ (s.cns c).start ≤ p ∧ s.cDone c s.tb1 ≤ s.cOut c p + s.cPre c + s.cPost c ∧ ((s.fld (CNS_TRIG c) CNS_TRIG_SRC ≠ 2 ∨ s.fld (CNS_TRIG c) CNS_TRIG_TSEL ≠ c))) ∧
    (∃ (s : State) (c : ℕ) (src : ℕ) (inst : ℕ), c < 16 ∧ src ≠ 1 ∧ src ≠ 7 ∧ (s.cns c).evs.contains (src, inst) = true ∧ inst + 1024 < s.clock.tb1 ∧ s.tb1Run = true) ∧
    (∃ (s : State) (c : ℕ) (inst : ℕ) (xs : List ℤ) (r : Bool) (i : ℕ) (p : ℕ), p = ceilTo (tapPeriod (s.cKind c)) inst + i * tapPeriod (s.cKind c) ∧ c < 16 ∧ s.fld (CNS_TRIG c) CNS_TRIG_SRC = 1 ∧ s.cnsSt c = capFILLING ∧ levelScan (s.fld (CNS_TRIG c) CNS_TRIG_SLOPE) (sgn 16 (s.fld (CNS_LVL c) CNS_LVL_LEVEL)) (s.fld (CNS_LVL c) CNS_LVL_HYST) (s.cns c).ready 0 xs = (r, [i]) ∧ (s.cns c).start ≤ p ∧ s.cDone c s.tb1 ≤ s.cOut c p + s.cPre c + s.cPost c) ∧
    (∃ (s : State) (c : ℕ) (src : ℕ) (inst : ℕ), c < 16 ∧ src ≠ 1 ∧ src ≠ 7 ∧ (s.cns c).evs.contains (src, inst) = true ∧ s.tb1 ≤ inst + 1024 ∧ s.cnsSt c = capHOLDOFF) ∧
    (∃ (s : State) (c : ℕ) (g : CTrig) (a : ℕ), a = 4096 * s.cPage c + s.cSlot c * ((s.cns c).recs % s.cNrec c) ∧ c < 16 ∧ (s.cns c).trig = some g ∧ s.cnsSt c = capTRIGGERED ∧ (s.cns c).closing = 0 ∧ 0 < s.cPost c ∧ s.reached ((s.cns c).start + (s.cOut c g.t + s.cPost c) * s.cStep c - tapPeriod (s.cKind c)) = true) ∧
    (∃ (s : State) (c : ℕ) (a : ℕ), a = 4096 * s.cPage c + s.cSlot c * ((s.cns c).recs % s.cNrec c) ∧ c < 16 ∧ s.cnsSt c = capHOLDOFF ∧ s.reached (s.cns c).holdEnd = true) ∧
    (∃ (s : State) (c : ℕ) (n : ℕ), n = s.chunkElems c ∧ c < 16 ∧ s.cnsSt c = capSTREAMING ∧ s.reached ((s.cns c).start + ((s.cns c).outs + n) * s.cStep c) = true ∧ s.unread c < s.cPages c - 1) ∧
    (∃ (s : State) (c : ℕ) (n : ℕ), n = s.chunkElems c ∧ c < 16 ∧ s.cnsSt c = capSTREAMING ∧ s.reached ((s.cns c).start + ((s.cns c).outs + n) * s.cStep c) = true ∧ s.cPages c - 1 ≤ s.unread c) ∧
    (∃ (s : State) (c : ℕ) (v : ℕ), s.opens (CNS_RP c) ∧ v < 2 ^ 13 ∧ v < s.cPages c ∧ (v + s.cPages c - s.rdN (CNS_RP c)) % s.cPages c ≤ s.unread c) ∧
    (∃ (s : State) (c : ℕ) (v : ℕ), s.opens (CNS_RP c) ∧ s.cPages c ≤ v % 2 ^ 13) :=
  ⟨⟨(w13 0 1 3), (5), (w13a), _, _, rfl, rfl, by unfold State.opens; decide +kernel, by decide +kernel⟩,
    ⟨(fl [(CNS_POST 5, CNS_POST_COUNT, 0)] (w13 0 1 3)), (5), (w13a), by unfold State.opens; decide +kernel, by decide +kernel⟩,
    ⟨(w13c w13a 3 3 (w13t (some ⟨3, 15950, 15950, false, 60⟩))), (5), (2 ^ 28), by unfold State.opens; decide +kernel, by decide +kernel⟩,
    ⟨(w13c w13a 3 3 (w13t none)), (5), (2 ^ 28 + 2 ^ 16), by unfold State.opens; decide +kernel, by decide +kernel⟩,
    ⟨(w13c w13a 2 3 (w13t none)), (5), _, rfl, by unfold State.opens; decide +kernel, by decide +kernel⟩,
    ⟨(w13c w13a 2 4 { w13t none with evs := [(4, 15990)] }), (5), (4), (15990), _, rfl, by decide +kernel⟩,
    ⟨(w13c w13a 2 4 { w13t none with evs := [(4, 14970)] }), (5), (4), (14970), by decide +kernel⟩,
    ⟨(w13c w13a 2 1 (w13t none)), (5), (15990), ([95, 89, 99, 100, 101]), (false), (3), _, rfl, by decide +kernel⟩,
    ⟨(w13c w13a 4 3 { w13t none with evs := [(3, 15990)] }), (5), (3), (15990), by decide +kernel⟩,
    ⟨(w13c w13a 3 3 (w13t (some ⟨3, 15950, 15950, false, 60⟩))), (5), (⟨3, 15950, 15950, false, 60⟩), _, rfl, by decide +kernel⟩,
    ⟨(w13c w13a 4 3 (w13t none)), (5), _, rfl, by decide +kernel⟩,
    ⟨(rg [(CNS_WP 5, 1), (CNS_RP 5, 3)] (w13c w13s 6 0 { w13t none with start := 13000, chunks := 9, outs := 10, drops := 2 })), (5), _, rfl, by decide +kernel⟩,
    ⟨(rg [(CNS_WP 5, 2), (CNS_RP 5, 3)] (w13c w13s 6 0 { w13t none with start := 13000, chunks := 9, outs := 10, drops := 2 })), (5), _, rfl, by decide +kernel⟩,
    ⟨(rg [(CNS_WP 5, 1), (CNS_RP 5, 3)] (w13c w13s 6 0 (w13t none))), (5), (1), by unfold State.opens; decide +kernel, by decide +kernel⟩,
    ⟨(rg [(CNS_WP 5, 1), (CNS_RP 5, 3)] (w13c w13s 6 0 (w13t none))), (5), (4), by unfold State.opens; decide +kernel, by decide +kernel⟩⟩

/-- A state, or a part of one, of the witnesses. -/
def w13f (st : Nat) (x : FCtx) (j : Option FJob) : State := let s := fl [(FRL_CTXS 6, FRL_CTXS_XSTATE, st)] (rg [(FRL_SRC 1, 0), (FRL_SRC_LEN 1, 20000), (FRL_DST 1, 65536), (FRL_DST_LEN 1, 4096)] (w13 0 1 3))
  { s with cap := { s.cap with ctxs := [(6, x)], jobs := [(1, j)] } }
/-- A state, or a part of one, of the witnesses. -/
def w13x (p : List (List Bool)) (a : List Bool) : FCtx := { (default : FCtx) with hist := [1#8, 2#8], pend := p, acc := a, crc := 77#32 }
/-- A state, or a part of one, of the witnesses. -/
def w13j : FJob := ⟨6, false, 0, 100, 90, 65536, 4096, 4090, true, true, false, [9#8]⟩
/-- A state, or a part of one, of the witnesses. -/
def w13kj : FJob := ⟨6, true, 5, 100, 90, 65536, 4096, 4090, true, true, false, [9#8]⟩
/-- A state, or a part of one, of the witnesses. -/
def w13k : State := (rg [(CNS_WP 5, 0), (CNS_RP 5, 0)] (w13f 1 (w13x [] [true]) (some w13kj)))
/-- FurlerRunsItsJobs: states and operands that meet the hypotheses of each clause. -/
theorem witness_FurlerRunsItsJobs :
    (∃ (s : State) (e : ℕ) (v : ℕ) (w : ℕ) (x : ℕ), w = v / 16 * 16 + 1 ∧ x = 4 * e + bits w 9 8 ∧ s.opens (FRL_CTL e) ∧ e < 4 ∧ s.frlCheck e w = 0) ∧
    (∃ (s : State) (e : ℕ) (v : ℕ) (w : ℕ) (x : ℕ), w = v / 16 * 16 + 2 ∧ x = 4 * e + bits w 9 8 ∧ s.opens (FRL_CTL e) ∧ e < 4 ∧ s.frlCheck e w = 0 ∧ (s.fctx x).pend = [] ∧ (s.fctx x).acc.length < 8) ∧
    (∃ (p : (ℕ → ℕ → Instr) × ℕ) (s : State) (e : ℕ) (v : ℕ), p ∈ [(Instr.frlStart, 1), (Instr.frlResume, 2)] ∧ s.opens (FRL_CTL e) ∧ e < 4 ∧ s.frlCheck e (v / 16 * 16 + p.2) ≠ 0) ∧
    (∃ (s : State) (e : ℕ) (j : FJob), s.opens (FRL_CTL e) ∧ e < 4 ∧ s.fjob e = some j ∧ j.ctx < 16) ∧
    (∃ (s : State) (e : ℕ), s.opens (FRL_CTL e) ∧ e < 4 ∧ s.fjob e = none) ∧
    (∃ (s : State) (e : ℕ) (x : ℕ), s.opens (FRL_CTL e) ∧ e < 4 ∧ x < 4 ∧ s.ctxSt (4 * e + x) ≠ ctxACTIVE) ∧
    (∃ (s : State) (e : ℕ) (x : ℕ), s.opens (FRL_CTL e) ∧ e < 4 ∧ x < 4 ∧ s.ctxSt (4 * e + x) = ctxACTIVE) ∧
    (∃ (s : State) (e : ℕ) (ok : Bool) (j : FJob) (n : ℕ) (b : List (BitVec 8)), n = min 16384 (j.len - j.read) ∧ b = j.buf ++ s.frlInput j (n - j.buf.length) ∧ e < 4 ∧ s.fjob e = some j ∧ j.ctx < 16 ∧ 0 < n ∧ (s.fctx j.ctx).pend = [] ∧ j.buf.length ≤ n ∧ n ≤ j.buf.length + s.frlAvail j ∧ j.nogain = true ∧ ((j.verify = false ∨ ok = true))) ∧
    (∃ (s : State) (e : ℕ) (j : FJob) (n : ℕ), n = min 16384 (j.len - j.read) ∧ e < 4 ∧ s.fjob e = some j ∧ (s.fctx j.ctx).pend = [] ∧ j.buf.length + s.frlAvail j < n) ∧
    (∃ (s : State) (e : ℕ) (hdr : List Bool) (syms : List (List Bool)) (miss : Bool) (j : FJob) (n : ℕ) (h : ℕ), n = min 16384 (j.len - j.read) ∧ (h = (if s.fld (FRL_CTXS j.ctx) FRL_CTXS_MODE = 0 ∨ miss = true then 0 else hdr.length)) ∧ e < 4 ∧ s.fjob e = some j ∧ j.ctx < 16 ∧ 0 < n ∧ (s.fctx j.ctx).pend = [] ∧ j.buf.length ≤ n ∧ n ≤ j.buf.length + s.frlAvail j ∧ j.nogain = false ∧ 3 + (8 - ((s.fctx j.ctx).acc.length + 3) % 8) % 8 + 32 + 8 * n ≤ (syms.map List.length).foldl (· + ·) (3 + h)) ∧
    (∃ (s : State) (e : ℕ) (j : FJob), e < 4 ∧ s.fjob e = some j ∧ j.ctx < 16) ∧
    (∃ (s : State) (e : ℕ) (j : FJob), e < 4 ∧ s.fjob e = some j ∧ j.ctx < 16 ∧ (((s.fctx j.ctx).pend ≠ [] ∨ s.frlNoPad j = true))) ∧
    (∃ (s : State) (e : ℕ) (j : FJob), e < 4 ∧ s.fjob e = some j ∧ j.ctx < 16 ∧ j.read = j.len ∧ (s.fctx j.ctx).pend = [] ∧ ((j.final = true → (s.fctx j.ctx).acc = []))) ∧
    (∃ (s : State) (e : ℕ) (j : FJob), e < 4 ∧ s.fjob e = some j ∧ j.ctx < 16 ∧ j.read = j.len ∧ (s.fctx j.ctx).pend = [] ∧ j.final = true ∧ (s.fctx j.ctx).acc ≠ [] ∧ (s.fctx j.ctx).acc.length < 8 ∧ j.out < j.room) :=
  ⟨⟨(w13f 3 (w13x [] [true]) none), (1), (2 ^ 21 + 2 ^ 9 + 7), _, _, rfl, rfl, by unfold State.opens; decide +kernel, by decide +kernel⟩,
    ⟨(w13f 2 (w13x [] [true]) none), (1), (2 ^ 21 + 2 ^ 9 + 7), _, _, rfl, rfl, by unfold State.opens; decide +kernel, by decide +kernel⟩,
    ⟨((Instr.frlResume, 2)), (w13f 1 (w13x [] [true]) none), (1), (2 ^ 9), (.tail _ (.head _)), by unfold State.opens; decide +kernel, by decide +kernel⟩,
    ⟨(w13f 1 (w13x [] [true]) (some w13j)), (1), (w13j), by unfold State.opens; decide +kernel, by decide +kernel⟩,
    ⟨(w13f 1 (w13x [] [true]) none), (1), by unfold State.opens; decide +kernel, by decide +kernel⟩,
    ⟨(w13f 4 (w13x [] [true]) none), (1), (2), by unfold State.opens; decide +kernel, by decide +kernel⟩,
    ⟨(w13f 1 (w13x [] [true]) none), (1), (2), by unfold State.opens; decide +kernel, by decide +kernel⟩,
    ⟨(w13f 1 (w13x [] [true]) (some w13j)), (1), (false), (w13j), _, _, rfl, rfl, by decide +kernel⟩,
    ⟨(w13k), (1), (w13kj), _, rfl, by decide +kernel⟩,
    ⟨(w13f 1 (w13x [] [true]) (some { w13j with nogain := false })), (1), ([true]), (List.replicate 30 [true, false, true, true, true]), (false), ({ w13j with nogain := false }), _, _, rfl, rfl, by decide +kernel⟩,
    ⟨(w13f 1 (w13x [] [true]) (some w13j)), (1), (w13j), by decide +kernel⟩,
    ⟨(w13f 1 (w13x [[true]] [true]) (some w13j)), (1), (w13j), by decide +kernel⟩,
    ⟨(w13f 1 (w13x [] []) (some { w13j with read := 100 })), (1), ({ w13j with read := 100 }), by decide +kernel⟩,
    ⟨(w13f 1 (w13x [] [true]) (some { w13j with read := 100, out := 4095 })), (1), ({ w13j with read := 100, out := 4095 }), by decide +kernel⟩⟩

/-- A state, or a part of one, of the witnesses. -/
def w14 (fs : List (Nat × Fld × Nat)) (f : StayS → StayS) : State := let s := fl fs (own 0x0C 4 0 0 8 (own 0x0B 4 0 0 8 (own 3 4 0 0 128 y1)))
  { s with stay := f s.stay }
/-- A state, or a part of one, of the witnesses. -/
def w14t (n : Nat) : List (Nat × Fld × Nat) := [(STAY_STS, STAY_STS_TB1STATE, n)]
/-- TimeBasesStartStopStepAndSet: states and operands that meet the hypotheses of each clause. -/
theorem witness_TimeBasesStartStopStepAndSet :
    (∃ (s : State), s.opens STAY_CMD ∧ s.tb1Free = true ∧ s.tb1St = tbSTOPPED) ∧
    (∃ (s : State), s.opens STAY_CMD ∧ s.tb1Free = true ∧ s.tb1St = tbSTOPPED) ∧
    (∃ (c : Instr) (s : State), c ∈ [Instr.tb1Start, Instr.tb1ArmSync] ∧ s.opens STAY_CMD ∧ ((s.tb1Free = false ∨ s.tb1St ≠ tbSTOPPED))) ∧
    (∃ (s : State), s.opens STAY_CMD ∧ s.tb1Free = true ∧ s.allIdle = true) ∧
    (∃ (s : State), s.opens STAY_CMD ∧ ((s.tb1Free = false ∨ s.allIdle = false))) ∧
    (∃ (s : State) (τ : ℕ), s.stay.starts = some τ ∧ s.tb1St = tbSTARTING ∧ τ ≤ s.clock.now) ∧
    (∃ (s : State), s.opens STAY_CMD ∧ s.dev = dREADY ∧ s.allIdle = true) ∧
    (∃ (s : State) (τ : ℕ) (ps : List ℤ), s.stay.skew = some (τ, ps) ∧ 256 ≤ ps.length) ∧
    (∃ (s : State) (τ : ℕ) (ps : List ℤ), s.stay.skew = some (τ, ps) ∧ ps.length < 256 ∧ τ + 20000000 ≤ s.clock.now) ∧
    (∃ (s : State) (f : ℕ) (e : ℤ), e = ((128 * s.clock.now + f % 128 : Nat) : Int) - sgn 16 (s.fld STAY_SYNC_COMP STAY_SYNC_COMP_COMP) ∧ s.flag STAY_STS STAY_STS_SYNC_ARMED = true) ∧
    (∃ (s : State) (f : ℕ) (e : ℤ), e = ((128 * s.clock.now + f % 128 : Nat) : Int) - sgn 16 (s.fld STAY_SYNC_COMP STAY_SYNC_COMP_COMP) ∧ s.flag STAY_STS STAY_STS_SYNC_ARMED = false ∧ s.stay.skew = none) ∧
    (∃ (s : State) (d : ℤ), d = sgn 64 (s.rdN STAY_TB0_STEP) * uFRAC ∧ s.opens STAY_CMD ∧ ((s.stay.lock1 = false ∨ d.natAbs ≤ s.jumpUnits))) ∧
    (∃ (s : State), s.opens STAY_CMD ∧ s.stay.lock1 = true ∧ s.jumpUnits < (sgn 64 (s.rdN STAY_TB0_STEP) * uFRAC).natAbs) ∧
    (∃ (s : State) (v : ℕ), v = baseOf (s.fld STAY_TB0_SET_SEC STAY_TB0_SET_SEC_SEC) (s.rdN STAY_TB0_SET_NS % 2 ^ 48) ∧ s.opens STAY_CMD ∧ s.staySrc = 0 ∧ s.fld STAY_TB0_SET_NS STAY_TB0_SET_NS_NS ≤ 999999999 ∧ ((s.stay.lock1 = false ∨ ((v : Int) - s.stay.tb0).natAbs ≤ s.jumpUnits))) ∧
    (∃ (s : State), s.opens STAY_CMD ∧ s.staySrc ≠ 0) ∧
    (∃ (s : State), s.opens STAY_CMD ∧ s.staySrc = 0 ∧ 999999999 < s.fld STAY_TB0_SET_NS STAY_TB0_SET_NS_NS) ∧
    (∃ (s : State), s.opens STAY_CMD ∧ s.sst = svASYM) ∧
    (∃ (s : State), s.opens STAY_CMD ∧ s.sst ≠ svASYM) ∧
    (∃ (s : State), s.opens STAY_CMD) ∧
    (∃ (s : State), s.opens STAY_SNAP) ∧
    (∃ (s : State) (src : ℕ), s.opens STAY_CTL ∧ src < 8 ∧ src ≠ s.staySrc) ∧
    (∃ (s : State) (src : ℕ), s.opens STAY_CTL ∧ 8 ≤ src ∧ src < 16) ∧
    (∃ (p : Instr × ℕ × ℕ) (s : State) (ps : List (ℕ × ℕ)), p ∈ [(Instr.syncoutPulse, 1, 1), (Instr.syncoutBurst, 2, 256)] ∧ s.opens STAY_SYNCOUT ∧ s.hostMay 0x0C 0 = true ∧ ps = (s.stay.pulses.filter fun p => decide (p.1 ≤ s.clock.now)).map (fun p => (p.1, min p.2 ((s.clock.now - p.1) / 20000 + 1)))) ∧
    (∃ (s : State) (n : ℕ) (ps : List (ℕ × ℕ)) (c : Instr × ℕ), c ∈ [(Instr.syncoutOff, 0), (Instr.syncoutTimer n, 3)] ∧ s.opens STAY_SYNCOUT ∧ s.hostMay 0x0C 0 = true ∧ n < 128 ∧ ps = (s.stay.pulses.filter fun p => decide (p.1 ≤ s.clock.now)).map (fun p => (p.1, min p.2 ((s.clock.now - p.1) / 20000 + 1)))) ∧
    (∃ (s : State) (n : ℕ) (c : Instr), c ∈ [Instr.syncoutOff, Instr.syncoutPulse, Instr.syncoutBurst, Instr.syncoutTimer n] ∧ s.opens STAY_SYNCOUT ∧ s.hostMay 0x0C 0 = false) :=
  ⟨⟨(w14 (w14t 0) id), by unfold State.opens; decide +kernel, by decide +kernel⟩,
    ⟨(w14 (w14t 0) id), by unfold State.opens; decide +kernel, by decide +kernel⟩,
    ⟨(Instr.tb1ArmSync), (w14 (w14t 2) id), (.tail _ (.head _)), by unfold State.opens; decide +kernel, by decide +kernel⟩,
    ⟨(w14 (w14t 2) id), by unfold State.opens; decide +kernel, by decide +kernel⟩,
    ⟨(w14 [(GLB_LSG_STAT 3, GLB_LSG_STAT_GSTATE, 2)] id), by unfold State.opens; decide +kernel, by decide +kernel⟩,
    ⟨(w14 (w14t 1) (fun zz => { zz with starts := some 31999, tbn := [(2, 5)] })), (31999), by decide +kernel⟩,
    ⟨(w14 [] id), by unfold State.opens; decide +kernel, by decide +kernel⟩,
    ⟨(w14 [(STAY_STS, STAY_STS_SKEWCAL, 1)] (fun zz => { zz with skew := some (0, List.replicate 256 70) })), (0), (List.replicate 256 70), by decide +kernel⟩,
    ⟨(let zz := w14 [(STAY_STS, STAY_STS_SKEWCAL, 1)] (fun zz => { zz with skew := some (0, []) }); { zz with clock := ⟨20000000, 16000⟩ }), (0), ([]), by decide +kernel⟩,
    ⟨(w14 [(STAY_STS, STAY_STS_SYNC_ARMED, 1)] id), (100), _, rfl, by decide +kernel⟩,
    ⟨(w14 [] id), (53), _, rfl, by decide +kernel⟩,
    ⟨(w14 [] (fun zz => { zz with lock1 := true })), _, rfl, by unfold State.opens; decide +kernel, by decide +kernel⟩,
    ⟨(rg [(STAY_TB0_STEP, 2 ^ 63), (STAY_JUMP_THR, 100)] (w14 [] (fun zz => { zz with lock1 := true }))), by unfold State.opens; decide +kernel, by decide +kernel⟩,
    ⟨(rg [(STAY_TB0_SET_SEC, 5), (STAY_TB0_SET_NS, 999999999 * 65536)] (w14 [] id)), _, rfl, by unfold State.opens; decide +kernel, by decide +kernel⟩,
    ⟨(w14 [(STAY_CTL, STAY_CTL_SRC, 1)] id), by unfold State.opens; decide +kernel, by decide +kernel⟩,
    ⟨(rg [(STAY_TB0_SET_SEC, 5), (STAY_TB0_SET_NS, 1000000000 * 65536)] (w14 [] id)), by unfold State.opens; decide +kernel, by decide +kernel⟩,
    ⟨(rg [(STAY_MPD, 0xFFFFFFFF)] (w14 [(STAY_STS, STAY_STS_SSTATE, 4), (STAY_STS, STAY_STS_ASYM_SUSPECT, 1)] id)), by unfold State.opens; decide +kernel, by decide +kernel⟩,
    ⟨(w14 [] id), by unfold State.opens; decide +kernel, by decide +kernel⟩,
    ⟨(w14 [(STAY_CTL, STAY_CTL_SRC, 1), (STAY_STS, STAY_STS_SSTATE, 2)] (fun zz => { zz with master := some ⟨[1, 2], 5, 16⟩, lock1 := true, excl := 2 })), by unfold State.opens; decide +kernel⟩,
    ⟨(w14 [] (fun zz => { zz with tb0 := 7 * uSEC + 123456789, tbn := [(3, 2 * uSEC + 5)] })), by unfold State.opens; decide +kernel⟩,
    ⟨(w14 [] (fun zz => { zz with master := some ⟨[1, 2], 5, 16⟩ })), (1), by unfold State.opens; decide +kernel, by decide +kernel⟩,
    ⟨(w14 [] id), (8), by unfold State.opens; decide +kernel, by decide +kernel⟩,
    ⟨((Instr.syncoutBurst, 2, 256)), (w14 [] (fun zz => { zz with pulses := [(31000, 256)] })), ([(31000, 1)]), (.tail _ (.head _)), by unfold State.opens; decide +kernel, by decide +kernel⟩,
    ⟨(w14 [(STAY_SYNCOUT, STAY_SYNCOUT_MODE, 2)] (fun zz => { zz with pulses := [(11000, 256)] })), (127), ([(11000, 2)]), ((Instr.syncoutTimer 127, 3)), (.tail _ (.head _)), by unfold State.opens; decide +kernel, by decide +kernel⟩,
    ⟨(y1), (5), (Instr.syncoutTimer (5)), (.tail _ (.tail _ (.tail _ (.head _)))), by unfold State.opens; decide +kernel, by decide +kernel⟩⟩

/-- A state, or a part of one, of the witnesses. -/
def w14m : Master := ⟨[128, 6, 33, 1, 128, 9, 0, 7, 1], 1000, 16⟩
/-- A state, or a part of one, of the witnesses. -/
def w14p (st : Nat) : State := rg [(STAY_MPD_REF, 500), (STAY_ASYM, 3), (STAY_ASYM_THR, 100), (STAY_TP_LAT, 2 ^ 20 + 3)] (w14 [(STAY_CTL, STAY_CTL_SRC, 1), (STAY_STS, STAY_STS_SSTATE, st), (STAY_PTP_CFG, STAY_PTP_CFG_ANN_TMO, 3), (STAY_PTP_CFG, STAY_PTP_CFG_DOMAIN, 24)]
  (fun zz => { zz with master := some w14m, lock1 := true, sync := some (some 1000, 2000), dreq := some 3000, mpds := [510], excl := 3 }))
/-- A state, or a part of one, of the witnesses. -/
def w14n (st src : Nat) : State := let s := fl [(STAY_CTL, STAY_CTL_SRC, src)] (w14p st); { s with stay := { s.stay with master := none, sync := some (none, 2000) } }
/-- TimeMessagesMoveTheServo: states and operands that meet the hypotheses of each clause. -/
theorem witness_TimeMessagesMoveTheServo :
    (∃ (s : State) (ds : List ℕ), s.ptpFrom ds = true) ∧
    (∃ (s : State) (ds : List ℕ), s.ptpFrom ds = false) ∧
    (∃ (s : State) (ds : List ℕ) (t2 : ℤ), s.ptpFrom ds = true ∧ s.stay.sync = some (none, t2)) ∧
    (∃ (s : State) (ds : List ℕ), s.ptpFrom ds = false) ∧
    (∃ (s : State), s.staySrc = 1 ∧ s.stay.master.isSome = true) ∧
    (∃ (s : State) (ds : List ℕ) (t1 : ℤ) (t2 : ℤ) (t3 : ℤ), s.ptpFrom ds = true ∧ s.stay.sync = some (some t1, t2) ∧ s.stay.dreq = some t3) ∧
    (∃ (s : State) (ds : List ℕ) (t1 : ℤ) (t2 : ℤ) (t3 : ℤ) (t4 : ℤ) (corr : ℤ) (d : ℤ) (m : List ℤ), d = ((t2 - t1) + (t4 - corr - t3)) / 2 ∧ m = (s.stay.mpds ++ [d]).drop ((s.stay.mpds ++ [d]).length - 16) ∧ s.ptpFrom ds = true ∧ s.stay.sync = some (some t1, t2) ∧ s.stay.dreq = some t3 ∧ s.sst = svLOCKED ∧ (d - sgn 32 (s.rdN STAY_MPD_REF)).natAbs ≤ s.rdN STAY_ASYM_THR) ∧
    (∃ (s : State) (ds : List ℕ) (t1 : ℤ) (t2 : ℤ) (t3 : ℤ) (t4 : ℤ) (corr : ℤ), s.ptpFrom ds = true ∧ s.stay.sync = some (some t1, t2) ∧ s.stay.dreq = some t3 ∧ s.sst = svLOCKED ∧ s.rdN STAY_ASYM_THR < (((t2 - t1) + (t4 - corr - t3)) / 2 - sgn 32 (s.rdN STAY_MPD_REF)).natAbs ∧ s.stay.excl + 1 = 4) ∧
    (∃ (s : State) (ds : List ℕ), s.ptpFrom ds = false) ∧
    (∃ (s : State) (domain : ℕ), domain ≠ s.fld STAY_PTP_CFG STAY_PTP_CFG_DOMAIN) ∧
    (∃ (s : State) (domain : ℕ), domain = s.fld STAY_PTP_CFG STAY_PTP_CFG_DOMAIN ∧ s.stay.master = none ∧ s.stay.others = []) ∧
    (∃ (s : State) (domain : ℕ) (ds : List ℕ) (m : Master), domain = s.fld STAY_PTP_CFG STAY_PTP_CFG_DOMAIN ∧ s.stay.master = some m ∧ s.stay.others = [] ∧ m.ds.drop 7 ≠ ds.drop 7 ∧ s.silent m = false) ∧
    (∃ (s : State) (m : Master), s.stay.master = some m ∧ s.silent m = true ∧ s.stay.others = []) ∧
    (∃ (s : State) (m : Master), s.stay.master = some m ∧ s.silent m = false) :=
  ⟨⟨(w14p 2), (w14m.ds), by decide +kernel⟩,
    ⟨(w14p 2), ([]), by decide +kernel⟩,
    ⟨(let zz := w14p 2; { zz with stay := { zz.stay with sync := some (none, 2000) } }), (w14m.ds), (2000), by decide +kernel⟩,
    ⟨(w14p 2), ([]), by decide +kernel⟩,
    ⟨(w14p 2), by decide +kernel⟩,
    ⟨(w14p 0), (w14m.ds), (1000), (2000), (3000), by decide +kernel⟩,
    ⟨(w14p 2), (w14m.ds), (1000), (2000), (3000), (3105), (7), _, _, rfl, rfl, by decide +kernel⟩,
    ⟨(w14p 2), (w14m.ds), (1000), (2000), (3000), (3305), (7), by decide +kernel⟩,
    ⟨(w14p 2), ([]), by decide +kernel⟩,
    ⟨(w14p 2), (25), by decide +kernel⟩,
    ⟨(w14n 0 1), (24), by decide +kernel⟩,
    ⟨(w14p 2), (24), ([127, 6, 33, 1, 128, 9, 0, 8, 1]), (w14m), by decide +kernel⟩,
    ⟨(let zz := w14p 2; { zz with clock := ⟨60000001000, 16000⟩ }), (w14m), by decide +kernel⟩,
    ⟨(let zz := w14p 2; { zz with clock := ⟨60000000999, 16000⟩ }), (w14m), by decide +kernel⟩⟩

/-- A state, or a part of one, of the witnesses. -/
def w14u (st ctl e : Nat) : State := rg [(STAY_TMR_CTL 5, ctl), (STAY_TMR_E 5, e), (STAY_TMR_CMP 5, 16257), (STAY_TMR_PER 5, 320)] (w14 [(STAY_TMR_STS 5, STAY_TMR_STS_TSTATE, st), (GLB_LSG_STAT 3, GLB_LSG_STAT_GSTATE, 1)] id)
/-- UserDomainsAndTimersAct: states and operands that meet the hypotheses of each clause. -/
theorem witness_UserDomainsAndTimersAct :
    (∃ (s : State) (n : ℕ) (v : ℕ) (u : ℕ), u = ceilFt (if v = 0 then s.tb1 + 2560 else v) ∧ s.opens (STAY_TBN_SET_AT n) ∧ 2 ≤ n ∧ n < 8 ∧ s.hostMay 0x0B n = true ∧ s.tb1Run = true ∧ ((v = 0 ∨ s.tb1 + 2560 ≤ v))) ∧
    (∃ (s : State) (n : ℕ) (v : ℕ), s.opens (STAY_TBN_SET_AT n) ∧ s.hostMay 0x0B n = true ∧ ((s.tb1Run = false ∨ (v ≠ 0 ∧ v < s.tb1 + 2560)))) ∧
    (∃ (s : State) (n : ℕ), s.opens (STAY_TBN_SET_AT n) ∧ s.hostMay 0x0B n = false) ∧
    (∃ (s : State) (n : ℕ) (τ : ℕ), 2 ≤ n ∧ n < 8 ∧ tget s.stay.sets n = some τ ∧ s.due τ = true) ∧
    (∃ (s : State) (i : ℕ) (v : ℕ) (w : ℕ), w = 2 ^ 31 + v % 2 ^ 31 ∧ s.opens (STAY_TMR_CTL i) ∧ i < 128 ∧ s.flag (STAY_TMR_CTL i) STAY_TMR_CTL_EN = false ∧ s.tmrCheck i w = 0) ∧
    (∃ (s : State) (i : ℕ) (v : ℕ), s.opens (STAY_TMR_CTL i) ∧ i < 128 ∧ s.flag (STAY_TMR_CTL i) STAY_TMR_CTL_EN = false ∧ s.tmrCheck i (2 ^ 31 + v % 2 ^ 31) ≠ 0) ∧
    (∃ (s : State) (i : ℕ), s.opens (STAY_TMR_CTL i) ∧ i < 128 ∧ s.flag (STAY_TMR_CTL i) STAY_TMR_CTL_EN = true) ∧
    (∃ (s : State) (i : ℕ) (r : ℤ) (d : ℕ), r = (uST : Int) + s.baseRate (baseNo (s.tmrBase i)) ∧ d = (((s.tmrCmp i : Int) - s.base (baseNo (s.tmrBase i)) + r - 1) / r).toNat ∧ i < 128 ∧ s.tmrSt i = tmARMED ∧ s.tb1Run = true ∧ 0 < r ∧ 0 < (s.tmrCmp i : Int) - s.base (baseNo (s.tmrBase i))) ∧
    (∃ (s : State) (i : ℕ) (x : Tmr), x = tget s.stay.tmrs i ∧ i < 128 ∧ s.tmrSt i = tmARMED ∧ s.tb1Run = true ∧ 0 < (uST : Int) + s.baseRate (baseNo (s.tmrBase i)) ∧ (s.tmrCmp i : Int) ≤ s.base (baseNo (s.tmrBase i))) ∧
    (∃ (s : State) (i : ℕ) (e : ℕ) (a : ℕ), e = s.rdN (STAY_TMR_E i) ∧ a = s.fld (STAY_TMR_CTL i) STAY_TMR_CTL_ARG ∧ i < 128 ∧ s.tmrSt i = tmFIXED ∧ s.reached (e - 256) = true ∧ s.fld (STAY_TMR_CTL i) STAY_TMR_CTL_ACTION = 0 ∧ s.fld (STAY_TMR_CTL i) STAY_TMR_CTL_MODE = 0) ∧
    (∃ (s : State) (i : ℕ) (e : ℕ) (a : ℕ) (k : ℕ), e = s.rdN (STAY_TMR_E i) ∧ a = s.fld (STAY_TMR_CTL i) STAY_TMR_CTL_ARG ∧ k = (tget s.stay.tmrs i).k + 1 ∧ i < 128 ∧ s.tmrSt i = tmFIXED ∧ s.reached (e - 256) = true ∧ 2 ≤ s.fld (STAY_TMR_CTL i) STAY_TMR_CTL_ACTION ∧ s.fld (STAY_TMR_CTL i) STAY_TMR_CTL_MODE = 1) ∧
    (∃ (s : State) (i : ℕ) (e : ℕ) (a : ℕ) (g : ℕ), e = s.rdN (STAY_TMR_E i) ∧ a = s.fld (STAY_TMR_CTL i) STAY_TMR_CTL_ARG ∧ g = a % 64 ∧ i < 128 ∧ s.tmrSt i = tmFIXED ∧ 0 < e ∧ s.reached (e - 256) = true ∧ s.fld (STAY_TMR_CTL i) STAY_TMR_CTL_ACTION = 1 ∧ s.fld (STAY_TMR_CTL i) STAY_TMR_CTL_MODE = 0 ∧ s.lsgCheck g lcSTART e 16 = 0) :=
  ⟨⟨(w14u 0 0 0), (7), (18560), _, rfl, by unfold State.opens; decide +kernel, by decide +kernel⟩,
    ⟨(w14u 0 0 0), (7), (18559), by unfold State.opens; decide +kernel, by decide +kernel⟩,
    ⟨(y1), (7), by unfold State.opens; decide +kernel, by decide +kernel⟩,
    ⟨(let zz := rg [(STAY_TBN_SET_SEC 7, 9), (STAY_TBN_SET_NS 7, 65536)] (w14u 0 0 0); { zz with stay := { zz.stay with sets := [(7, some 16000)] } }), (7), (16000), by decide +kernel⟩,
    ⟨(w14u 0 0 0), (5), (2 ^ 26), _, rfl, by unfold State.opens; decide +kernel, by decide +kernel⟩,
    ⟨(w14u 0 0 0), (5), (3 * 2 ^ 24), by unfold State.opens; decide +kernel, by decide +kernel⟩,
    ⟨(w14u 0 (2 ^ 31) 0), (5), by unfold State.opens; decide +kernel, by decide +kernel⟩,
    ⟨(let zz := rg [(STAY_TMR_CMP 5, 0), (STAY_TMR_CMPF 5, 65536)] (w14u 1 (2 ^ 31 + 2 ^ 28) 0); { zz with stay := { zz.stay with tb0 := 5 } }), (5), _, _, rfl, rfl, by decide +kernel⟩,
    ⟨(let zz := rg [(STAY_TMR_CMP 5, 0), (STAY_TMR_CMPF 5, 65536)] (w14u 1 (2 ^ 31 + 2 ^ 28) 0); { zz with stay := { zz.stay with tb0 := 2 ^ 70 } }), (5), _, rfl, by decide +kernel⟩,
    ⟨(fl [(CNV_ACQ_CTL 1 2, CNV_ACQ_CTL_SRC, 1), (CNV_ACQ_CTL 1 2, CNV_ACQ_CTL_SEL, 5)] (w14u 2 (2 ^ 31) 16256)), (5), _, _, rfl, rfl, by decide +kernel⟩,
    ⟨(w14u 2 (2 ^ 31 + 2 ^ 26 + 2 ^ 25) 16256), (5), _, _, _, rfl, rfl, rfl, by decide +kernel⟩,
    ⟨(w14u 2 (2 ^ 31 + 2 ^ 24 + 3) 16256), (5), _, _, _, rfl, rfl, rfl, by decide +kernel⟩⟩

/-- A state, or a part of one, of the witnesses. -/
def w15 (st rate tx rx ln : Nat) (x : OzlLink) : State :=
  let s := fl [(OZL_STS 2, OZL_STS_LSTATE, st), (OZL_STS 2, OZL_STS_RATE, rate), (OZL_STS 2, OZL_STS_TXMAP, tx), (OZL_STS 2, OZL_STS_RXMAP, rx), (OZL_CTL 2, OZL_CTL_EN, 1), (OZL_CTL 2, OZL_CTL_MAXRATE, 4),
    (OZL_LSTS 2 0, OZL_LSTS_LANESTATE, ln), (OZL_LSTS 2 1, OZL_LSTS_LANESTATE, ln), (OZL_LSTS 2 2, OZL_LSTS_LANESTATE, ln), (OZL_LSTS 2 3, OZL_LSTS_LANESTATE, ln)] y1
  { s.setLink 2 x with img := { s.img with links := [(2, ⟨0, 5, 3, 4, 0, 0⟩)] } }
/-- A state, or a part of one, of the witnesses. -/
def w15u (x : OzlLink) : State := w15 3 4 15 15 2 x
/-- A state, or a part of one, of the witnesses. -/
def w15b (hi : Nat) : Nat := hi * 65536 + crc16 48 hi
/-- A state, or a part of one, of the witnesses. -/
def w15t : Nat := w15b (0x3C * 2 ^ 40 + 3 * 2 ^ 38 + 4 * 2 ^ 32 + 5 * 2 ^ 12 + 3 * 2 ^ 9)
/-- A state, or a part of one, of the witnesses. -/
def w15f (typ cls seq : Nat) (ackv : Bool) (ack crC crN pay : Nat) : Nat := flitSeal (flitBody typ cls seq ackv ack crC crN pay)
/-- A state, or a part of one, of the witnesses. -/
def w15x : OzlLink := { (default : OzlLink) with retry := [(254, 2, 7), (255, 0, 8)], seq := 0, txq := [⟨4, 9, 0, 1⟩], peerMax := 4 }
/-- LinksTrainComeUpAndLoseLanes: states and operands that meet the hypotheses of each clause. -/
theorem witness_LinksTrainComeUpAndLoseLanes :
    (∃ (s : State) (l : ℕ) (r : ℕ), s.opens (OZL_CTL l) ∧ l < 6 ∧ s.flag (OZL_CTL l) OZL_CTL_EN = false ∧ s.lst l = lsDISABLED ∧ ((s.dev = dCAL ∨ s.dev = dREADY ∨ s.dev = dRUN)) ∧ r ≤ 4) ∧
    (∃ (s : State) (l : ℕ), s.opens (OZL_CTL l) ∧ l < 6 ∧ s.flag (OZL_CTL l) OZL_CTL_EN = true) ∧
    (∃ (s : State) (l : ℕ), s.opens (OZL_CTL l) ∧ l < 6 ∧ s.lst l ≠ lsDISABLED ∧ s.lst l ≠ lsTEST) ∧
    (∃ (s : State) (l : ℕ) (i : ℕ) (b : ℕ), l < 6 ∧ i < 4 ∧ bits b 63 56 = 0x3C ∧ crc16 48 (bits b 63 16) = bits b 15 0 ∧ s.lst l = lsDETECT ∧ (s.link l).retryAt ≤ s.clock.now ∧ bits b 31 28 = (tget s.img.links l).peerDev ∧ bits b 27 25 = (tget s.img.links l).peerLink) ∧
    (∃ (s : State) (l : ℕ) (i : ℕ) (b : ℕ), l < 6 ∧ i < 4 ∧ bits b 63 56 = 0x3C ∧ crc16 48 (bits b 63 16) = bits b 15 0 ∧ s.lst l = lsDETECT ∧ (s.link l).retryAt ≤ s.clock.now ∧ bits b 31 28 ≠ (tget s.img.links l).peerDev) ∧
    (∃ (b : ℕ), ((bits b 63 56 ≠ 0x3C ∨ crc16 48 (bits b 63 16) ≠ bits b 15 0))) ∧
    (∃ (s : State) (l : ℕ), l < 6 ∧ s.lst l = lsTRAIN ∧ s.tphase l < 5) ∧
    (∃ (s : State) (l : ℕ) (m : ℕ), m = min (s.fld (OZL_CTL l) OZL_CTL_MAXRATE) (s.link l).peerMax ∧ l < 6 ∧ s.lst l = lsTRAIN ∧ 5 ≤ s.tphase l ∧ s.lRate l < m ∧ m ≤ 4) ∧
    (∃ (s : State) (l : ℕ), l < 6 ∧ s.lst l = lsTRAIN ∧ 5 ≤ s.tphase l ∧ min (s.fld (OZL_CTL l) OZL_CTL_MAXRATE) (s.link l).peerMax ≤ s.lRate l ∧ s.lRate l ≤ 4) ∧
    (∃ (s : State) (l : ℕ), l < 6 ∧ s.lst l = lsRECOVERY ∧ 5 ≤ s.tphase l) ∧
    (∃ (s : State) (l : ℕ), l < 6 ∧ s.lst l = lsTRAIN ∧ (s.link l).at_ + 40000000 ≤ s.clock.now ∧ s.lRate l = 0) ∧
    (∃ (s : State) (l : ℕ) (failed : ℕ) (i : ℕ), l < 6 ∧ i < 4 ∧ s.lst l = lsTRAIN ∧ (s.link l).at_ + 40000000 ≤ s.clock.now ∧ s.lRate l = 4 ∧ failed = 2 ^ i ∧ 3 ≤ s.tphase l) ∧
    (∃ (s : State) (l : ℕ), l < 6 ∧ s.lst l = lsTRAIN ∧ (s.link l).at_ + 40000000 ≤ s.clock.now ∧ 0 < s.lRate l ∧ s.lRate l < 4) ∧
    (∃ (s : State) (l : ℕ), s.lst l = lsDETECT ∧ (s.link l).retryAt ≤ s.clock.now) ∧
    (∃ (s : State) (l : ℕ) (i : ℕ), l < 6 ∧ i < 4 ∧ s.lst l = lsDEGRADED ∧ s.lane l i = lnLOST ∧ (s.link l).retryAt ≤ s.clock.now) ∧
    (∃ (s : State) (l : ℕ), l < 6 ∧ s.lst l = lsRECOVERY ∧ (s.link l).at_ + 40000000 ≤ s.clock.now) ∧
    (∃ (s : State) (l : ℕ) (b : ℕ), s.lCarries l = true ∧ bits b 63 56 = 0x5A ∧ crc16 48 (bits b 63 16) = bits b 15 0) ∧
    (∃ (s : State) (l : ℕ) (b : ℕ), l < 6 ∧ s.lCarries l = true ∧ bits b 63 56 = 0x66 ∧ crc16 48 (bits b 63 16) = bits b 15 0 ∧ bits b 49 42 = ((s.link l).rxEpoch + 1) % 256) ∧
    (∃ (s : State) (l : ℕ) (i : ℕ), l < 6 ∧ i < 4 ∧ s.lCarries l = true ∧ s.rxMap l = 0xF ∧ ((∀ j, j < 4 → s.lane l j = lnACTIVE))) ∧
    (∃ (s : State) (l : ℕ) (i : ℕ), l < 6 ∧ i < 4 ∧ s.lCarries l = true ∧ bit (s.rxMap l) i = true ∧ s.rxMap l ≠ 0xF ∧ s.lane l i = lnACTIVE) ∧
    (∃ (s : State) (l : ℕ) (i : ℕ), s.lCarries l = true ∧ ((s.lane l i = lnLOST ∨ s.lane l i = lnTRAINING))) ∧
    (∃ (s : State) (l : ℕ) (v : ℕ) (i : ℕ), l < 6 ∧ i < 4 ∧ s.lCarries l = true ∧ flGood v = true ∧ flType v = 5 ∧ bits (flPay v) 207 204 = 1 ∧ bits (flPay v) 203 200 = i ∧ s.txMap l = 0xF) ∧
    (∃ (s : State) (l : ℕ) (v : ℕ) (i : ℕ), l < 6 ∧ i < 4 ∧ s.lCarries l = true ∧ flGood v = true ∧ flType v = 5 ∧ bits (flPay v) 207 204 = 2 ∧ bits (flPay v) 203 200 = i ∧ bit (s.txMap l) i = false) :=
  ⟨⟨(fl [(OZL_CTL 2, OZL_CTL_EN, 0)] (w15 0 0 0 0 0 default)), (2), (4), by unfold State.opens; decide +kernel, by decide +kernel⟩,
    ⟨(w15u w15x), (2), by unfold State.opens; decide +kernel, by decide +kernel⟩,
    ⟨(w15u w15x), (2), by unfold State.opens; decide +kernel, by decide +kernel⟩,
    ⟨(w15 1 0 0 0 1 { w15x with seen := 7 }), (2), (3), (w15t), by decide +kernel⟩,
    ⟨(w15 1 0 0 0 1 { w15x with seen := 7 }), (2), (3), (w15b (0x3C * 2 ^ 40 + 4 * 2 ^ 12)), by decide +kernel⟩,
    ⟨(w15t ^^^ 1), by decide +kernel⟩,
    ⟨(fl [(OZL_PEER 2, OZL_PEER_TPHASE, 8)] (w15 2 1 0 0 1 w15x)), (2), by decide +kernel⟩,
    ⟨(fl [(OZL_PEER 2, OZL_PEER_TPHASE, 20)] (w15 2 3 0 0 1 w15x)), (2), _, rfl, by decide +kernel⟩,
    ⟨(fl [(OZL_PEER 2, OZL_PEER_TPHASE, 20)] (w15 2 4 0 0 1 w15x)), (2), by decide +kernel⟩,
    ⟨(fl [(OZL_PEER 2, OZL_PEER_TPHASE, 20)] (w15 6 4 7 15 1 w15x)), (2), by decide +kernel⟩,
    ⟨(let zz := w15 2 0 0 0 1 w15x; { zz with clock := ⟨40000000, 16000⟩ }), (2), by decide +kernel⟩,
    ⟨(let zz := fl [(OZL_PEER 2, OZL_PEER_TPHASE, 12)] (w15 2 4 0 0 1 w15x); { zz with clock := ⟨40000000, 16000⟩ }), (2), (8), (3), by decide +kernel⟩,
    ⟨(let zz := w15 2 3 0 0 1 w15x; { zz with clock := ⟨40000000, 16000⟩ }), (2), by decide +kernel⟩,
    ⟨(w15 1 0 0 0 1 { w15x with retryAt := 32000 }), (2), by decide +kernel⟩,
    ⟨(fl [(OZL_LSTS 2 3, OZL_LSTS_LANESTATE, 3)] (w15 4 4 7 7 2 { w15x with retryAt := 32000 })), (2), (3), by decide +kernel⟩,
    ⟨(let zz := w15 6 4 15 15 1 w15x; { zz with clock := ⟨40000000, 16000⟩ }), (2), by decide +kernel⟩,
    ⟨(w15u w15x), (2), (w15b (0x5A * 2 ^ 40 + 77 * 2 ^ 18)), by decide +kernel⟩,
    ⟨(w15u { w15x with rxEpoch := 255 }), (2), (w15b (0x66 * 2 ^ 40 + 7 * 2 ^ 34)), by decide +kernel⟩,
    ⟨(w15u w15x), (2), (3), by decide +kernel⟩,
    ⟨(fl [(OZL_LSTS 2 3, OZL_LSTS_LANESTATE, 3)] (w15 4 4 15 7 2 w15x)), (2), (0), by decide +kernel⟩,
    ⟨(fl [(OZL_LSTS 2 3, OZL_LSTS_LANESTATE, 3)] (w15 4 4 15 7 2 w15x)), (2), (3), by decide +kernel⟩,
    ⟨(w15u w15x), (2), (w15f 5 0 0 true 255 0 0 (2 ^ 204 + 3 * 2 ^ 200)), (3), by decide +kernel⟩,
    ⟨(w15 4 4 7 15 2 w15x), (2), (w15f 5 0 0 true 255 0 0 (2 * 2 ^ 204 + 3 * 2 ^ 200)), (3), by decide +kernel⟩⟩

/-- A state, or a part of one, of the witnesses. -/
def w15r : OzlTrip := ⟨100, 60, 15000, 7, 2, 9, none⟩
/-- FlitsAreTakenAcknowledgedAndRetried: states and operands that meet the hypotheses of each clause. -/
theorem witness_FlitsAreTakenAcknowledgedAndRetried :
    (∃ (s : State) (l : ℕ) (v : ℕ) (x : OzlLink), x = s.link l ∧ l < 6 ∧ s.lCarries l = true ∧ flGood v = true ∧ flType v = 0) ∧
    (∃ (s : State) (l : ℕ) (v : ℕ), l < 6 ∧ s.lCarries l = true ∧ flGood v = true ∧ flType v = 1 ∧ flSeq v = (s.link l).rxNext) ∧
    (∃ (s : State) (l : ℕ) (v : ℕ), l < 6 ∧ s.lCarries l = true ∧ flGood v = true ∧ flType v = 1 ∧ flSeq v ≠ (s.link l).rxNext ∧ (flSeq v + 256 - (s.link l).rxNext) % 256 < 128) ∧
    (∃ (s : State) (l : ℕ) (v : ℕ) (arr : ℕ) (c : Instr), c ∈ [Instr.dataFlitRx l v, Instr.nakRx l v, Instr.idleFlitRx l v, Instr.timeFlitRx l v arr, Instr.timeTb0FlitRx l v, Instr.laneDownRx l v, Instr.laneReadyRx l v] ∧ s.lCarries l = true ∧ flGood v = false ∧ (s.link l).nakked = false) ∧
    (∃ (s : State) (l : ℕ) (v : ℕ) (x : OzlLink), x = (rxAck l v s).link l ∧ l < 6 ∧ s.lCarries l = true ∧ flGood v = true ∧ flType v = 2) ∧
    (∃ (s : State) (l : ℕ) (v : ℕ), l < 6 ∧ s.lCarries l = true ∧ flGood v = true ∧ flType v = 3) ∧
    (∃ (s : State) (l : ℕ) (v : ℕ) (x : OzlTrip), l < 6 ∧ s.lCarries l = true ∧ flGood v = true ∧ flType v = 4 ∧ (s.link l).trip = some x ∧ x.mseq = bits (flPay v) 207 200) ∧
    (∃ (s : State) (l : ℕ) (v : ℕ) (a : ℕ), l < 6 ∧ s.lCarries l = true ∧ flGood v = true ∧ flType v = 5 ∧ bits (flPay v) 207 204 = 3 ∧ bits (flPay v) 203 200 = a ∧ a < 3) ∧
    (∃ (s : State) (l : ℕ) (v : ℕ) (a : ℕ), l < 6 ∧ s.lCarries l = true ∧ flGood v = true ∧ flType v = 5 ∧ bits (flPay v) 207 204 = 4 ∧ bits (flPay v) 203 200 = a ∧ (s.link l).lsAsk = a ∧ 0 < a ∧ a < 3) ∧
    (∃ (s : State) (l : ℕ), s.lCarries l = true ∧ (s.link l).retry ≠ [] ∧ (s.link l).ackAt + 40000 ≤ s.clock.now ∧ (s.link l).resends + 1 < 8) ∧
    (∃ (s : State) (l : ℕ), l < 6 ∧ s.lCarries l = true ∧ (s.link l).retry ≠ [] ∧ (s.link l).ackAt + 40000 ≤ s.clock.now ∧ 8 ≤ (s.link l).resends + 1) ∧
    (∃ (s : State) (l : ℕ) (x : OzlTx), l < 6 ∧ (s.link l).txq.find? (fun t => t.cls == 4) = some x ∧ tget (s.link l).credits 4 = 0 ∧ max x.at_ (s.link l).dry + 200000 < s.clock.now) ∧
    (∃ (s : State) (l : ℕ) (x : OzlTx), ((∀ c ∈ s.cnv.copies, c.link ≠ l)) ∧ ((∀ m ∈ s.dec.out, m.link ≠ l)) ∧ (s.link l).txq.find? (fun t => t.cls == 0 && decide (t.at_ + 512 ≤ s.clock.now)) = some x) ∧
    (∃ (s : State) (l : ℕ), s.lCarries l = true ∧ s.tb1Run = true ∧ s.fld (OZL_PMSTS l) OZL_PMSTS_TX_LS ≠ 2 ∧ s.fld (OZL_PMSTS l) OZL_PMSTS_RX_LS ≠ 2 ∧ (s.link l).timeAt + 20000000 ≤ s.clock.now) ∧
    (∃ (s : State) (l : ℕ) (x : OzlTrip) (b : ℕ) (ts : List (ℤ × ℤ)), ts = (tget s.stay.lnks l).trips ++ [((x.out - x.back) * 25 / 8, (x.out + x.back) * 25 / 8)] ∧ l < 6 ∧ (s.link l).trip = some x ∧ x.tb0 = some b ∧ s.staySrc ≠ 2 + l ∧ ts.length ≤ 16 ∧ s.fld STAY_CTL STAY_CTL_LNK_THR = 0) ∧
    (∃ (s : State) (l : ℕ) (j : ℕ), s.txMap l = 0xF ∧ (s.link l).rr = 0 ∧ (s.link l).rows < 16383 ∧ j < 4) ∧
    (∃ (s : State) (l : ℕ), s.txMap l = 0x7 ∧ (s.link l).rr = 0 ∧ (s.link l).rows < 16382) :=
  ⟨⟨(w15u w15x), (2), (w15f 0 0 0 true 254 2 31 0), _, rfl, by decide +kernel⟩,
    ⟨(w15u { w15x with rxNext := 255 }), (2), (w15f 1 0 255 true 254 2 31 (5 * 2 ^ 164 + 2 ^ 160 + (3 * 64 + 5) * 2 ^ 144)), by decide +kernel⟩,
    ⟨(w15u { w15x with rxNext := 255 }), (2), (w15f 1 2 126 true 254 2 31 5), by decide +kernel⟩,
    ⟨(w15u w15x), (2), (5), (0), (Instr.laneReadyRx (2) (5)), (.tail _ (.tail _ (.tail _ (.tail _ (.tail _ (.tail _ (.head _))))))), by decide +kernel⟩,
    ⟨(w15u w15x), (2), (w15f 2 0 0 true 254 0 0 0), _, rfl, by decide +kernel⟩,
    ⟨(w15u { w15x with mseq := 9, timeAt := 5, txTs := 100 }), (2), (w15f 3 0 0 false 0 0 0 (4 * 2 ^ 200 + 9 * 2 ^ 192 + 1000 * 2 ^ 141 + 90 * 2 ^ 90 + 6 * 2 ^ 58 + 2 * 2 ^ 55)), by decide +kernel⟩,
    ⟨(w15u { w15x with trip := some w15r }), (2), (w15f 4 0 0 false 0 0 0 (9 * 2 ^ 200 + 5 * 2 ^ 152 + 77 * 2 ^ 120 + 3 * 2 ^ 104)), (w15r), by decide +kernel⟩,
    ⟨(fl [(STAY_LNK_STS 2, STAY_LNK_STS_VALID, 1)] (w15u w15x)), (2), (w15f 5 0 0 false 0 0 0 (3 * 2 ^ 204 + 2 * 2 ^ 200)), (2), by decide +kernel⟩,
    ⟨(fl [(STAY_LNK_STS 2, STAY_LNK_STS_VALID, 1)] (w15u { w15x with lsAsk := 2 })), (2), (w15f 5 0 0 false 0 0 0 (4 * 2 ^ 204 + 2 * 2 ^ 200)), (2), by decide +kernel⟩,
    ⟨(let zz := w15u { w15x with resends := 6 }; { zz with clock := ⟨40000, 16000⟩ }), (2), by decide +kernel⟩,
    ⟨(let zz := w15u { w15x with resends := 7 }; { zz with clock := ⟨40000, 16000⟩ }), (2), by decide +kernel⟩,
    ⟨(let zz := w15u w15x; { zz with clock := ⟨200001, 16000⟩ }), (2), (⟨4, 9, 0, 1⟩), by decide +kernel⟩,
    ⟨(w15u { w15x with txq := [⟨0, 9, 31488, 1⟩, ⟨0, 10, 31490, 1⟩, ⟨0, 11, 31488, 2⟩] }), (2), (⟨0, 9, 31488, 1⟩), (by intro c h; cases h), (by intro c h; cases h), by decide +kernel⟩,
    ⟨(let zz := w15u w15x; { zz with clock := ⟨20000000, 16000⟩ }), (2), by decide +kernel⟩,
    ⟨(let zz := fl [(STAY_CTL, STAY_CTL_LNK_THR, 0)] (w15u { w15x with trip := some { w15r with tb0 := some 500 } }); { zz with stay := { zz.stay with lnks := [(2, ⟨List.replicate 15 (100, 200)⟩)] } }), (2), ({ w15r with tb0 := some 500 }), (500), _, rfl, by decide +kernel⟩,
    ⟨(w15u w15x), (2), (3), by decide +kernel⟩,
    ⟨(w15 4 4 7 15 2 w15x), (2), by decide +kernel⟩⟩

/-- A state, or a part of one, of the witnesses. -/
def w15n : State := rg [(SHT_FWD 3, 4)] (w15u w15x)
/-- A state, or a part of one, of the witnesses. -/
def w15o : State := fl [(OZL_CTL 2, OZL_CTL_EN, 0)] (w15 0 0 0 0 0 default)
/-- LinksSavePowerParkLanesAndTest: states and operands that meet the hypotheses of each clause. -/
theorem witness_LinksSavePowerParkLanesAndTest :
    (∃ (s : State) (l : ℕ) (ls : ℕ), s.opens (OZL_PM l) ∧ l < 6 ∧ s.lCarries l = true ∧ 1 ≤ ls ∧ ls ≤ 2 ∧ s.linkNamed l = false) ∧
    (∃ (s : State) (l : ℕ) (ls : ℕ), s.opens (OZL_PM l) ∧ l < 6 ∧ s.lCarries l = true ∧ 1 ≤ ls ∧ ls ≤ 2 ∧ s.linkNamed l = true) ∧
    (∃ (s : State) (l : ℕ), s.opens (OZL_PM l) ∧ l < 6 ∧ s.lCarries l = true ∧ s.fld (OZL_PMSTS l) OZL_PMSTS_TX_LS ≠ 0 ∧ (s.link l).lsAt = 0) ∧
    (∃ (s : State) (l : ℕ), s.opens (OZL_PM l) ∧ l < 6 ∧ s.lCarries l = false) ∧
    (∃ (s : State) (l : ℕ), l < 6 ∧ s.flag (OZL_PM l) OZL_PM_AUTO = true ∧ s.lCarries l = true ∧ s.fld (OZL_PMSTS l) OZL_PMSTS_TX_LS = 0 ∧ (s.link l).lsAsk = 0 ∧ (s.link l).txq = [] ∧ (s.link l).dataAt + 16 * s.fld (OZL_PM l) OZL_PM_IDLE_FT ≤ s.clock.now ∧ s.linkNamed l = false) ∧
    (∃ (s : State) (l : ℕ), (s.link l).lsAt ≠ 0 ∧ (s.link l).lsAt ≤ s.clock.now) ∧
    (∃ (s : State) (l : ℕ) (i : ℕ), s.opens (OZL_LCFG l i) ∧ l < 6 ∧ i < 4 ∧ s.flag (OZL_LCFG l i) OZL_LCFG_PARK = false ∧ s.txMap l = 0xF ∧ s.rxMap l = 0xF) ∧
    (∃ (s : State) (l : ℕ) (i : ℕ) (j : ℕ), s.opens (OZL_LCFG l i) ∧ l < 6 ∧ i < 4 ∧ j < 4 ∧ j ≠ i ∧ s.flag (OZL_LCFG l i) OZL_LCFG_PARK = false ∧ ((bit (s.txMap l) j = false ∨ bit (s.rxMap l) j = false))) ∧
    (∃ (s : State) (l : ℕ) (i : ℕ), s.opens (OZL_LCFG l i) ∧ l < 6 ∧ i < 4 ∧ s.flag (OZL_LCFG l i) OZL_LCFG_PARK = true) ∧
    (∃ (s : State) (l : ℕ) (i : ℕ) (v : ℕ), s.opens (OZL_LCFG l i) ∧ l < 6 ∧ i < 4 ∧ ((s.laneIdle l i = true ∨ (bit v 3 = false ∧ bit v 2 = false)))) ∧
    (∃ (s : State) (l : ℕ) (i : ℕ) (v : ℕ), s.opens (OZL_LCFG l i) ∧ l < 6 ∧ i < 4 ∧ s.laneIdle l i = false ∧ ((bit v 3 = true ∨ bit v 2 = true))) ∧
    (∃ (s : State) (l : ℕ) (i : ℕ), s.opens (OZL_LCFG l i) ∧ l < 6 ∧ i < 4 ∧ s.flag (OZL_LCFG l i) OZL_LCFG_GEN = true) ∧
    (∃ (s : State) (l : ℕ) (lb : ℕ), s.opens (OZL_TEST l) ∧ l < 6 ∧ lb < 4 ∧ s.flag (OZL_CTL l) OZL_CTL_EN = false) ∧
    (∃ (s : State) (l : ℕ), s.opens (OZL_TEST l) ∧ l < 6 ∧ s.flag (OZL_CTL l) OZL_CTL_EN = true) ∧
    (∃ (s : State) (l : ℕ), s.opens (OZL_INJ l)) :=
  ⟨⟨(w15u w15x), (2), (2), by unfold State.opens; decide +kernel, by decide +kernel⟩,
    ⟨(w15n), (2), (2), by unfold State.opens; decide +kernel, by decide +kernel⟩,
    ⟨(fl [(OZL_PMSTS 2, OZL_PMSTS_TX_LS, 2)] (w15u w15x)), (2), by unfold State.opens; decide +kernel, by decide +kernel⟩,
    ⟨(w15o), (2), by unfold State.opens; decide +kernel, by decide +kernel⟩,
    ⟨(fl [(OZL_PM 2, OZL_PM_AUTO, 1), (OZL_PM 2, OZL_PM_IDLE_FT, 2000)] (w15u { w15x with txq := [] })), (2), by decide +kernel⟩,
    ⟨(fl [(OZL_PMSTS 2, OZL_PMSTS_TX_LS, 2)] (w15u { w15x with lsAt := 32000 })), (2), by decide +kernel⟩,
    ⟨(w15u w15x), (2), (3), by unfold State.opens; decide +kernel, by decide +kernel⟩,
    ⟨(w15 4 4 7 15 2 w15x), (2), (0), (3), by unfold State.opens; decide +kernel, by decide +kernel⟩,
    ⟨(fl [(OZL_LCFG 2 3, OZL_LCFG_PARK, 1), (OZL_LSTS 2 3, OZL_LSTS_LANESTATE, 4)] (w15 4 4 7 7 2 w15x)), (2), (3), by unfold State.opens; decide +kernel, by decide +kernel⟩,
    ⟨(fl [(OZL_LCFG 2 3, OZL_LCFG_PARK, 1), (OZL_LSTS 2 3, OZL_LSTS_LANESTATE, 4)] (w15 4 4 7 7 2 w15x)), (2), (3), (0x3D), by unfold State.opens; decide +kernel, by decide +kernel⟩,
    ⟨(w15u w15x), (2), (3), (8), by unfold State.opens; decide +kernel, by decide +kernel⟩,
    ⟨(fl [(OZL_LCFG 2 3, OZL_LCFG_GEN, 1), (OZL_LCFG 2 3, OZL_LCFG_CHK, 1), (OZL_TEST 2, OZL_TEST_LB, 1)] w15o), (2), (3), by unfold State.opens; decide +kernel, by decide +kernel⟩,
    ⟨(w15o), (2), (3), by unfold State.opens; decide +kernel, by decide +kernel⟩,
    ⟨(w15u w15x), (2), by unfold State.opens; decide +kernel, by decide +kernel⟩,
    ⟨(w15u w15x), (2), by unfold State.opens; decide +kernel⟩⟩

/-- A state, or a part of one, of the witnesses. -/
def w16d (k : Nat) : List Nat := [0x10000, 1, 0x8000, 0, 16, k, 2 + 2 ^ 16, 3 + 5 * 2 ^ 16]
/-- A state, or a part of one, of the witnesses. -/
def w16 (st k cons prod : Nat) (f : Que → Que) : State := (own 6 3 0 0 8 (own 7 3 0 0 32 (rg [(QM_QIDX, 4), (QM_QD 0, 77), (QM_QD 7, 99)] y1))).setQue 4
  (f { (default : Que) with desc := w16d k, st := st, cons := cons, prod := prod, fetch := cons })
/-- QueueManagerCommandsAndDoorbells: states and operands that meet the hypotheses of each clause. -/
theorem witness_QueueManagerCommandsAndDoorbells :
    (∃ (s : State) (v : ℕ), s.opens QM_QIDX ∧ v < 2 ^ 18) ∧
    (∃ (s : State), s.opens QM_QCMD ∧ (s.que s.qidx).st = qOFF) ∧
    (∃ (s : State), s.opens QM_QCMD ∧ (s.que s.qidx).st = qOFF ∧ s.enableCheck s.qidx = 0) ∧
    (∃ (s : State) (n : ℕ), s.opens QM_QCMD ∧ n = (if (s.que s.qidx).st = qACTIVE then qDRAINING else if (s.que s.qidx).st = qHALTED then qOFF else (s.que s.qidx).st)) ∧
    (∃ (s : State), s.opens QM_QCMD ∧ (s.que s.qidx).st = qHALTED) ∧
    (∃ (s : State) (i : Instr), s.opens QM_QCMD ∧ i ∈ [Instr.qmWrite, .qmEnable, .qmResume] ∧ ((i = Instr.qmResume → (s.que s.qidx).st ≠ qHALTED)) ∧ ((i ≠ Instr.qmResume → (s.que s.qidx).st ≠ qOFF))) ∧
    (∃ (s : State) (q : ℕ), (s.que q).st = qDRAINING ∧ ((∀ d ∈ (s.que q).descs, d.done = true)) ∧ (s.que q).spill = [] ∧ s.svcFrom q = false) ∧
    (∃ (s : State) (q : ℕ) (v : ℕ), s.barUp = true ∧ s.qClosed q = false ∧ (s.que q).st = qACTIVE ∧ (s.que q).kind ≠ kRESULT ∧ v < 2 ^ 21 ∧ v < 2 * (s.que q).entries ∧ (s.que q).dist (s.que q).cons v ≤ (s.que q).entries ∧ (s.que q).dist (s.que q).cons (s.que q).prod ≤ (s.que q).dist (s.que q).cons v) ∧
    (∃ (s : State) (q : ℕ) (v : ℕ), s.barUp = true ∧ s.qClosed q = false ∧ ((s.que q).st = qACTIVE ∨ (s.que q).st = qDRAINING) ∧ (s.que q).kind = kRESULT ∧ v < 2 ^ 21 ∧ v < 2 * (s.que q).entries ∧ (s.que q).dist (s.que q).cons v ≤ (s.que q).dist (s.que q).cons (s.que q).prod ∧ (s.que q).spill = []) ∧
    (∃ (s : State) (q : ℕ) (v : ℕ), s.barUp = true ∧ q < 2 ^ 18 ∧ s.qClosed q = false ∧ (s.que q).st = qACTIVE ∧ v < 2 ^ 21 ∧ 2 * (s.que q).entries ≤ v) ∧
    (∃ (s : State) (q : ℕ), s.barUp = true ∧ (s.que q).st = qACTIVE ∧ (s.que q).kind = kRESULT) ∧
    (∃ (s : State) (y : ℕ) (v : ℕ), s.opens (QM_YQID y) ∧ y < 64 ∧ v < 2 ^ 18 ∧ s.yardMay y 6 v = true ∧ s.yIdle y = true) ∧
    (∃ (s : State) (y : ℕ) (v : ℕ), s.opens (QM_YQID y) ∧ y < 64 ∧ v < 2 ^ 18 ∧ s.yardMay y 6 v = false) :=
  ⟨⟨(w16 1 3 5 9 id), (4), by unfold State.opens; decide +kernel, by decide +kernel⟩,
    ⟨(w16 0 3 0 0 id), by unfold State.opens; decide +kernel, by decide +kernel⟩,
    ⟨(w16 0 3 0 0 (fun zz => { zz with lost := true, spill := [[1]] })), by unfold State.opens; decide +kernel, by decide +kernel⟩,
    ⟨(w16 1 3 0 0 id), (2), by unfold State.opens; decide +kernel, by decide +kernel⟩,
    ⟨(w16 3 1 0 0 id), by unfold State.opens; decide +kernel, by decide +kernel⟩,
    ⟨(w16 1 3 0 0 id), (Instr.qmEnable), by unfold State.opens; decide +kernel, (.tail _ (.head _)), by decide +kernel⟩,
    ⟨(w16 2 1 0 0 (fun zz => { zz with descs := [⟨3, [], 0, 0, true, false, true, 0, true⟩] })), (4), by decide +kernel⟩,
    ⟨(w16 1 1 31 1 id), (4), (15), by decide +kernel⟩,
    ⟨(w16 2 3 31 15 id), (4), (15), by decide +kernel⟩,
    ⟨(w16 1 1 31 15 id), (4), (32), by decide +kernel⟩,
    ⟨(w16 1 3 31 15 id), (4), by decide +kernel⟩,
    ⟨(own 6 1 1 9 1 y1), (1), (9), by unfold State.opens; decide +kernel, by decide +kernel⟩,
    ⟨(w16 0 0 0 0 id), (1), (2 ^ 18 - 1), by unfold State.opens; decide +kernel, by decide +kernel⟩⟩

/-- A state, or a part of one, of the witnesses. -/
def w16r (f : Que → Que) : State := let s := w16 1 3 31 15 f; { s.modMast 1 (fun zz => { zz with outRes := 3 }) with bus := { s.bus with recs := [⟨4, 2, 15000, [5, 1], [], false⟩, ⟨4, 1, 15999, [6, 7, 8], [], false⟩] } }
/-- A state, or a part of one, of the witnesses. -/
def w16x (p : Nat) (k : Nat) (f : Que → Que) : Que := f { (default : Que) with desc := w16d k, st := 1, cons := 31, prod := p, fetch := 31 }
/-- RecordsReachTheirQueuesAndTheHost: states and operands that meet the hypotheses of each clause. -/
theorem witness_RecordsReachTheirQueuesAndTheHost :
    (∃ (s : State) (prod : ℕ) (r : Rec) (x : Que) (ws : List ℕ), x = s.que r.qid ∧ ws = (if x.lost = true then markEntry 9 r.words else r.words) ∧ s.bus.recs.find? (fun r => r.prod == prod) = some r ∧ x.fences = [] ∧ x.fenced = 0 ∧ s.serviceTakes prod = false ∧ prod < 80 ∧ r.conts = [] ∧ x.st = qACTIVE ∧ x.kind = kRESULT ∧ x.loc = false ∧ s.hif.down = false ∧ x.irqEn = false ∧ x.spill = [] ∧ x.dist x.cons x.prod < x.entries) ∧
    (∃ (s : State) (prod : ℕ) (r : Rec) (x : Que) (ws : List ℕ), x = s.que r.qid ∧ ws = (if x.lost = true then markEntry 9 r.words else r.words) ∧ s.bus.recs.find? (fun r => r.prod == prod) = some r ∧ x.fences = [] ∧ x.fenced = 0 ∧ s.serviceTakes prod = false ∧ prod < 80 ∧ r.conts = [] ∧ x.st = qACTIVE ∧ x.kind = kRESULT ∧ x.entries ≤ x.dist x.cons x.prod ∧ x.spill.length < 64 * x.spillPages) ∧
    (∃ (s : State) (prod : ℕ) (r : Rec) (x : Que), x = s.que r.qid ∧ s.bus.recs.find? (fun r => r.prod == prod) = some r ∧ x.fences = [] ∧ x.fenced = 0 ∧ s.serviceTakes prod = false ∧ prod < 80 ∧ r.conts = [] ∧ ((x.st ≠ qACTIVE ∨ x.kind ≠ kRESULT ∨ (x.entries ≤ x.dist x.cons x.prod ∧ 64 * x.spillPages ≤ x.spill.length)))) ∧
    (∃ (s : State) (q : ℕ) (x : Que) (f : ℕ) (rest : List ℕ), x = s.que q ∧ x.fences = f :: rest ∧ ((∀ r ∈ s.bus.recs, r.qid = q → f < r.time)) ∧ x.st = qACTIVE ∧ x.kind = kRESULT ∧ x.loc = false ∧ s.hif.down = false ∧ x.irqEn = false ∧ x.spill = [] ∧ x.dist x.cons x.prod < x.entries ∧ x.lost = false ∧ f < 2 ^ 64) ∧
    (∃ (s : State) (q : ℕ) (n : ℕ), (s.que q).irqAt = some n ∧ (s.que q).irqEn = true ∧ (s.que q).itime ≠ 0 ∧ n + (s.que q).itime * 20000 ≤ s.clock.now) ∧
    (∃ (s : State) (a : ℕ) (bs : List (BitVec 8)), ((∀ p, s.partOfInst 7 ((a - 0x20000000) / 4096) = some p → s.closed p = false)) ∧ s.barUp = true ∧ bs.length ≤ 4096 - a % 4096 ∧ 0x20000000 ≤ a ∧ a < 0x22000000) ∧
    (∃ (s : State) (y : ℕ) (off : ℕ) (bs : List (BitVec 8)), s.barUp = true ∧ bs.length ≤ 4096 - off % 4096 ∧ y < 64 ∧ off < 0x40000 ∧ (((s.comp y).present = true → s.closed (s.partOf y) = false)) ∧ s.yIdle y = true) ∧
    (∃ (s : State) (y : ℕ) (off : ℕ) (bs : List (BitVec 8)), s.barUp = true ∧ bs.length ≤ 4096 - off % 4096 ∧ y < 64 ∧ off < 0x40000 ∧ (((s.comp y).present = true → s.closed (s.partOf y) = false)) ∧ s.yIdle y = false) ∧
    (∃ (s : State) (a : ℕ) (bs : List (BitVec 8)) (n : ℕ), n = bar2Left a ∧ s.barUp = true ∧ n < bs.length ∧ bs.length ≤ 512) ∧
    (∃ (s : State) (a : ℕ) (p : ℕ) (bs : List (BitVec 8)), s.barUp = true ∧ bs.length ≤ 4096 - a % 4096 ∧ 0x20000000 ≤ a ∧ a < 0x22000000 ∧ s.partOfInst 7 ((a - 0x20000000) / 4096) = some p ∧ p < 16 ∧ s.closed p = true) ∧
    (∃ (s : State) (rate : ℕ) (width : ℕ), ((∀ q, (s.que q).spill = [])) ∧ rate < 8 ∧ width < 32) :=
  ⟨⟨(w16r (fun zz => { zz with prod := 14, lost := true })), (1), (⟨4, 1, 15999, [6, 7, 8], [], false⟩), _, _, rfl, rfl, by decide +kernel⟩,
    ⟨(w16r (fun zz => { zz with lost := true, spill := [[5]] })), (1), (⟨4, 1, 15999, [6, 7, 8], [], false⟩), _, _, rfl, rfl, by decide +kernel⟩,
    ⟨(w16r (fun zz => { zz with lost := true, spill := List.replicate 64 [5] })), (1), (⟨4, 1, 15999, [6, 7, 8], [], false⟩), _, rfl, by decide +kernel⟩,
    ⟨(let zz := w16r (fun zz => { zz with prod := 14, fences := [15990] }); { zz with bus := { zz.bus with recs := [⟨4, 1, 15999, [6], [], false⟩] } }), (4), _, (15990), ([]), rfl, by decide +kernel⟩,
    ⟨(let zz := w16 1 3 0 0 (fun zz => { zz with irqAt := some 1, desc := [0, 0, 0, 0, 16, 3 + 64 + 7 * 2 ^ 16, 0, 2 ^ 16] }); { zz with clock := ⟨20001, 16000⟩ }), (4), (1), by decide +kernel⟩,
    ⟨(w16 0 0 0 0 id), (0x2000FFFE), ([1, 2]), (by intro p h; rw [show ((w16 0 0 0 0 id)).partOfInst 7 (((0x2000FFFE) - 0x20000000) / 4096) = some 0 by decide +kernel] at h; cases h; decide +kernel), by decide +kernel⟩,
    ⟨(y1), (1), (0x3FFFF), ([7]), by decide +kernel⟩,
    ⟨(fl [(GLB_LSG_STAT 3, GLB_LSG_STAT_GSTATE, 2)] y1), (1), (0x3FFFF), ([7]), by decide +kernel⟩,
    ⟨(w16 0 0 0 0 id), (0x2000FFFF), ([1, 2]), _, rfl, by decide +kernel⟩,
    ⟨(fl [(SHR_PSTS 0, SHR_PSTS_PSTATE, 3)] (w16 0 0 0 0 id)), (0x2000FFFE), (0), ([1, 2]), by decide +kernel⟩,
    ⟨({ y1 with hif := { y1.hif with down := true } }), (6), (16), (by intro q; rfl), by decide +kernel⟩⟩

/-- A state, or a part of one, of the witnesses. -/
def w16c (op sk dk ln : Nat) (a b u : Nat) : Desc := ⟨30, [op + sk * 2 ^ 16 + dk * 2 ^ 24 + ln * 2 ^ 32, a, b, u, 0, 0, 0, 0], 0, 0, true, false, false, 0, false⟩
/-- A state, or a part of one, of the witnesses. -/
def w16q (d : List Desc) (f : Que → Que) : State := fl [(ringSTS 33, CNV_RING_STS_RUNNING, 1), (ringSTS 33, CNV_RING_STS_REQ, 1)] (rg [(ringBASE 33, 16), (ringPAGES 33, 4), (ringWP 33, 512), (ringRP 33, 16000), (ringCTL 33, 2 ^ 31 + 2), (ringWM 33, 1)]
  (w16 1 1 30 15 (fun zz => f { zz with descs := d, desc := [0x10000, 1, 0, 0, 16, 1, 0, 0] })))
/-- DescriptorsAreFetchedMovedAndEnded: states and operands that meet the hypotheses of each clause. -/
theorem witness_DescriptorsAreFetchedMovedAndEnded :
    (∃ (s : State) (q : ℕ) (ws : List ℕ) (x : Que) (d : Desc), x = s.que q ∧ d = ⟨x.fetch, ws, 0, 0, false, false, false, 0, false⟩ ∧ x.st = qACTIVE ∧ x.kind = kSUBMIT ∧ x.fetch ≠ x.prod ∧ (x.descs.filter fun e => !e.done).length < 4 ∧ ((∀ e ∈ x.descs, e.done = false → e.op ≠ 2)) ∧ x.loc = false ∧ ws.length = 8 ∧ ((∀ w ∈ ws, w < 2 ^ 64)) ∧ s.descCheck q d = 0 ∧ ((∀ e ∈ x.descs, e.idx ≠ x.fetch))) ∧
    (∃ (s : State) (q : ℕ) (ws : List ℕ) (x : Que) (d : Desc) (c : ℕ), x = s.que q ∧ d = ⟨x.fetch, ws, 0, 0, false, false, false, 0, false⟩ ∧ c = s.descCheck q d ∧ x.st = qACTIVE ∧ x.kind = kSUBMIT ∧ x.fetch ≠ x.prod ∧ x.descs = [] ∧ x.loc = false ∧ x.irqEn = false ∧ x.wb = 0 ∧ ws.length = 8 ∧ ((∀ w ∈ ws, w < 2 ^ 64)) ∧ d.irq = false ∧ c ≠ 0 ∧ c ≠ E_IMG_RES_BUSY ∧ c ≠ E_SHR_SEALED ∧ c < 2 ^ 16) ∧
    (∃ (s : State) (q : ℕ), (s.que q).st = qACTIVE) ∧
    (∃ (s : State) (q : ℕ) (i : ℕ) (bs : List (BitVec 8)) (d : Desc) (n : ℕ), n = min (d.len - d.moved) bs.length ∧ s.openDesc q i = some d ∧ d.op = 1 ∧ d.arm = true ∧ s.inTurn q d = true ∧ d.skind = 0 ∧ d.dkind = 1 ∧ 0 < n) ∧
    (∃ (s : State) (q : ℕ) (i : ℕ) (d : Desc) (n : ℕ), n = d.len - d.moved ∧ s.openDesc q i = some d ∧ d.op = 1 ∧ d.arm = true ∧ s.inTurn q d = true ∧ d.skind = 1 ∧ d.dkind = 0 ∧ 0 < n) ∧
    (∃ (s : State) (q : ℕ) (i : ℕ) (d : Desc), s.openDesc q i = some d ∧ d.op = 2 ∧ ((∀ e ∈ (s.que q).descs.takeWhile (fun e => e.idx != i), e.done = true))) ∧
    (∃ (s : State) (q : ℕ) (i : ℕ) (e : Desc), e ∈ (s.que q).descs.takeWhile (fun e => e.idx != i) ∧ e.done = false) ∧
    (∃ (s : State) (q : ℕ) (i : ℕ) (d : Desc), s.openDesc q i = some d ∧ d.op = 3 ∧ d.arm = true ∧ s.inTurn q d = true ∧ s.lineServed d.sunit = false) ∧
    (∃ (s : State) (q : ℕ) (i : ℕ) (d : Desc) (r : ℕ) (n : ℕ), n = min (256 * d.burst) (d.len - d.moved) ∧ s.openDesc q i = some d ∧ s.lineRing d.sunit = some r ∧ d.op = 3 ∧ d.run = true ∧ d.dkind = 0 ∧ d.part = 0 ∧ r < 48 ∧ s.flag (ringSTS r) CNV_RING_STS_REQ = true ∧ 0 < n ∧ n ≤ s.ringHeld r) ∧
    (∃ (s : State) (q : ℕ) (i : ℕ) (x : Que) (d : Desc) (rest : List Desc) (c : ℕ) (cmd : Instr), x = s.que q ∧ (((cmd = Instr.descComplete q i ∧ d.fin = true ∧ c = 0) ∨ (cmd = Instr.dmaReadFail q i ∧ d.fin = false ∧ d.op = 1 ∧ d.skind = 0 ∧ c = E_DMA_PCIE))) ∧ x.descs = d :: rest ∧ d.idx = i ∧ d.done = false ∧ ((∀ e ∈ rest, e.idx ≠ i ∧ e.done = false)) ∧ d.dkind ≠ 8 ∧ d.dkind ≠ 2 ∧ d.irq = false ∧ x.irqEn = false ∧ x.loc = false) ∧
    (∃ (s : State) (q : ℕ) (i : ℕ), ((∀ d ∈ (s.que q).descs, d.idx ≠ i)) ∧ (s.que q).st = qACTIVE ∧ (s.que q).kind ≠ kRESULT ∧ (s.que q).fetch ≠ (s.que q).prod ∧ i = (s.que q).fetch) ∧
    (∃ (s : State) (p : ℕ) (part : ℕ) (c : ℕ), c = s.inCheck (bits p 203 196) (bits p 195 180) (bits p 179 116) (bits p 115 92) part ∧ c ≠ E_IMG_RES_BUSY) ∧
    (∃ (s : State) (l : ℕ) (cls : ℕ) (p : ℕ) (i : XferIn) (rest : List XferIn) (bs : List (BitVec 8)), bs = (payloadBytes p).take i.left ∧ s.hif.ins = i :: rest ∧ i ∉ rest ∧ i.link = l ∧ i.cls = cls ∧ i.ok = true ∧ i.kind = 1) ∧
    (∃ (s : State) (p : ℕ) (q : ℕ) (x : Que) (d : Desc), q = bits p 187 170 ∧ x = s.que q ∧ x.descs = [d] ∧ d.done = false ∧ d.dkind = 8 ∧ d.idx % x.entries = bits p 169 150 ∧ d.irq = false ∧ x.irqEn = false ∧ x.loc = false ∧ x.wb = 0) ∧
    (∃ (p : ℕ), bits p 207 204 = 0) ∧
    (∃ (s : State) (l : ℕ) (p : ℕ) (i : XferIn) (rest : List XferIn) (x : Que), x = s.que i.qid ∧ bits p 207 204 ≠ 0 ∧ s.hif.ins = i :: rest ∧ i ∉ rest ∧ i.link = l ∧ i.cls = 3 ∧ i.left ≤ (payloadBytes p).length ∧ x.st = qACTIVE ∧ x.kind = kRESULT ∧ x.loc = false ∧ s.hif.down = false ∧ x.irqEn = false ∧ x.spill = [] ∧ x.lost = false ∧ x.dist x.cons x.prod < x.entries) :=
  ⟨⟨(w16q [] id), (4), ((w16c 1 0 1 100 8 4096 0).words), _, _, rfl, rfl, by decide +kernel⟩,
    ⟨(w16q [] id), (4), ((w16c 4 0 1 100 8 4096 0).words), _, _, _, rfl, rfl, rfl, by decide +kernel⟩,
    ⟨(w16q [] id), (4), by decide +kernel⟩,
    ⟨(w16q [{ w16c 1 0 1 100 8 4096 0 with moved := 98 }] id), (4), (30), ([1, 2, 3, 4]), ({ w16c 1 0 1 100 8 4096 0 with moved := 98 }), _, rfl, by decide +kernel⟩,
    ⟨(w16q [w16c 1 1 0 10 4096 8 0] id), (4), (30), (w16c 1 1 0 10 4096 8 0), _, rfl, by decide +kernel⟩,
    ⟨(w16q [w16c 2 0 0 0 0 0 0] id), (4), (30), (w16c 2 0 0 0 0 0 0), by decide +kernel⟩,
    ⟨(w16q [w16c 1 1 0 10 4096 8 0, { w16c 2 0 0 0 0 0 0 with idx := 31 }] id), (4), (31), (w16c 1 1 0 10 4096 8 0), by decide +kernel⟩,
    ⟨(w16q [w16c 3 7 0 1000 0 8 (2 + 2 ^ 32)] id), (4), (30), (w16c 3 7 0 1000 0 8 (2 + 2 ^ 32)), by decide +kernel⟩,
    ⟨(w16q [{ w16c 3 7 0 1000 0 8 (2 + 2 ^ 32) with run := true }] id), (4), (30), ({ w16c 3 7 0 1000 0 8 (2 + 2 ^ 32) with run := true }), (33), _, rfl, by decide +kernel⟩,
    ⟨(w16q [{ w16c 1 1 0 10 4096 8 0 with fin := true, moved := 10 }] id), (4), (30), _, ({ w16c 1 1 0 10 4096 8 0 with fin := true, moved := 10 }), ([]), (0), (Instr.descComplete (4) (30)), rfl, (.inl ⟨rfl, by decide +kernel, rfl⟩), by decide +kernel⟩,
    ⟨(w16q [] id), (4), (30), by decide +kernel⟩,
    ⟨(w16q [] id), (2 ^ 196 + 4096 * 2 ^ 116 + 100 * 2 ^ 92 + 5 * 2 ^ 74 + 7 * 2 ^ 54), (0), _, rfl, by decide +kernel⟩,
    ⟨(let zz := w16q [] id; { zz with hif := { zz.hif with ins := [⟨2, 4, 1, 0, 4096, 30, 5, 7, true, []⟩] } }), (2), (4), (24 * 2 ^ 198 + 0x1234), (⟨2, 4, 1, 0, 4096, 30, 5, 7, true, []⟩), ([]), _, rfl, by decide +kernel⟩,
    ⟨(w16q [w16c 1 1 8 10 4096 8 0] id), (0x1234 * 2 ^ 188 + 4 * 2 ^ 170 + 14 * 2 ^ 150), _, _, (w16c 1 1 8 10 4096 8 0), rfl, rfl, by decide +kernel⟩,
    ⟨(4 * 2 ^ 186), by decide +kernel⟩,
    ⟨(let zz := w16r (fun zz => { zz with prod := 14 }); { zz with hif := { zz.hif with ins := [⟨2, 3, 0, 0, 0, 16, 4, 0, true, List.replicate 48 9#8⟩] } }), (2), (2 ^ 204 + 16 * 2 ^ 198 + 77), (⟨2, 3, 0, 0, 0, 16, 4, 0, true, List.replicate 48 9#8⟩), ([]), _, rfl, by decide +kernel⟩⟩

/-- A state, or a part of one, of the witnesses. -/
def w17 : State := { fl [(SHR_STS, SHR_STS_LIFECYCLE, 2)] y1 with shr := { y1.shr with chal := true, fails := 2, out := [(4, [0x13])] } }
/-- IdentityAnswersAndDebugUnlock: states and operands that meet the hypotheses of each clause. -/
theorem witness_IdentityAnswersAndDebugUnlock :
    (∃ (s : State) (i : Instr) (c : ℕ) (pay : List (BitVec 8)), (i, c, pay) ∈ [(Instr.spdmGetVersion, 0x04, [0x13]), (.spdmGetCapabilities, 0x61, [0x16, 0, 0, 0]), (.spdmNegotiateAlgorithms true true, 0x63, [0x80, 0, 0, 0, 2, 0, 0, 0]), (.spdmNegotiateAlgorithms true false, 0x63, [0x80, 0, 0, 0, 0, 0, 0, 0]), (.spdmNegotiateAlgorithms false true, 0x63, [0, 0, 0, 0, 2, 0, 0, 0]), (.spdmNegotiateAlgorithms false false, 0x63, [0, 0, 0, 0, 0, 0, 0, 0]), (.spdmGetDigests, 0x01, 1 :: sha Config.certChain), (.spdmUnsupported, 0x7F, [7])] ∧ s.dev ≠ dOFF ∧ s.dev ≠ dBOOT ∧ s.lifecycle ≠ 3) ∧
    (∃ (s : State), s.dev ≠ dOFF ∧ s.dev ≠ dBOOT ∧ s.lifecycle ≠ 3) ∧
    (∃ (s : State), s.dev ≠ dOFF ∧ s.dev ≠ dBOOT ∧ s.lifecycle ≠ 3) ∧
    (∃ (s : State) (i : ℕ), s.dev ≠ dOFF ∧ s.dev ≠ dBOOT ∧ s.lifecycle ≠ 3 ∧ 1 ≤ i ∧ i ≤ 15) ∧
    (∃ (s : State) (i : ℕ), s.dev ≠ dOFF ∧ s.dev ≠ dBOOT ∧ s.lifecycle ≠ 3 ∧ 15 < i ∧ i ≠ 0xFF) ∧
    (∃ (s : State) (i : Instr), i ∈ [Instr.spdmGetVersion, .spdmGetCapabilities, .spdmGetDigests, .spdmUnsupported] ∧ s.dev ≠ dOFF ∧ s.dev ≠ dBOOT ∧ s.lifecycle = 3) ∧
    (∃ (s : State), s.opens SHR_DBG_CTL ∧ s.lifecycle ≠ 3 ∧ s.flag SHR_STS SHR_STS_DBG_LOCKOUT = false) ∧
    (∃ (s : State), s.opens SHR_DBG_CTL ∧ (s.lifecycle = 3 ∨ s.flag SHR_STS SHR_STS_DBG_LOCKOUT = true)) ∧
    (∃ (s : State), s.opens SHR_DBG_CTL) ∧
    (∃ (s : State) (level : ℕ), s.opens SHR_DBG_CTL ∧ level ≠ 1) ∧
    (∃ (s : State), s.opens SHR_DBG_CTL) ∧
    (∃ (s : State), s.opens SHR_DBG_CTL) :=
  ⟨⟨(w17), (Instr.spdmUnsupported), (0x7F), ([7]), (by simp), by decide +kernel⟩,
    ⟨(w17), by decide +kernel⟩,
    ⟨(w17), by decide +kernel⟩,
    ⟨(w17), (15), by decide +kernel⟩,
    ⟨(w17), (0x10), by decide +kernel⟩,
    ⟨(fl [(SHR_STS, SHR_STS_LIFECYCLE, 3)] y1), (Instr.spdmUnsupported), (by simp), by decide +kernel⟩,
    ⟨(w17), by unfold State.opens; decide +kernel, by decide +kernel⟩,
    ⟨(fl [(SHR_STS, SHR_STS_DBG_LOCKOUT, 1)] w17), by unfold State.opens; decide +kernel, by decide +kernel⟩,
    ⟨(w17), by unfold State.opens; decide +kernel⟩,
    ⟨(w17), (0), by unfold State.opens; decide +kernel, by decide +kernel⟩,
    ⟨(fl [(SHR_STS, SHR_STS_LIFECYCLE, 2), (SHR_STS, SHR_STS_DBG_UNLOCKED, 1), (RAT_MSTS 1, RAT_MSTS_HALTED, 1), (RAT_MBRK 1 3, RAT_MBRK_EN, 1), (RAT_WBRK 7 1, RAT_WBRK_EN, 1), (RAT_STS, RAT_STS_WHALT, 128), (RAT_STS, RAT_STS_MHALT, 1)] w17), by unfold State.opens; decide +kernel⟩,
    ⟨(w17), by unfold State.opens; decide +kernel⟩⟩

/-- A state, or a part of one, of the witnesses. -/
def w17p (ps st : Nat) (f : ShrPart → ShrPart) : State :=
 own 7 3 0 0 32 (rg [(SHR_PSEAL_ID 0, 0x1122334455667788), (SHR_PISEQ 0, 6), (SHR_PVER 0, 9)] (fl [(SHR_PSTS 0, SHR_PSTS_PSTATE, ps), (SHR_PSTS 3, SHR_PSTS_PSTATE, 4), (SHR_PSTS 0, SHR_PSTS_STATUS, st), (SHR_STS, SHR_STS_SEALED, 8 + (if ps = 0 then 0 else 1))]
  { y1 with img := { y1.img with parts := [(0, ⟨1, List.replicate 96 5#8⟩)] }, shr := { y1.shr with parts := [(0, f ⟨3, 4, some [1], 7, [2], [3], [4], [5], none⟩)] } }))
/-- A state, or a part of one, of the witnesses. -/
def w17j (ps c : Nat) (blob : List (BitVec 8)) : State := fl [(SHR_PSTS 0, SHR_PSTS_JOB, 1)] (w17p ps 0 fun zz => { zz with job := some ⟨c, blob⟩ })
/-- A state, or a part of one, of the witnesses. -/
def w17i : List (BitVec 8) := [0x53, 0x49, 0x4D, 0x50, 0, 1, 0, 0] ++ le 8 0x1FC0 ++ le 4 64 ++ le 4 7 ++ List.replicate 40 0#8 ++ List.replicate 64 9#8
/-- A state, or a part of one, of the witnesses. -/
def w17k (p : Nat) (id : Nat) (m n : Nat) : List (BitVec 8) := le 4 m ++ [BitVec.ofNat 8 p, 0, 0, 0] ++ le 8 id ++ List.replicate n 0#8
/-- PartitionsSealExchangeAndZeroise: states and operands that meet the hypotheses of each clause. -/
theorem witness_PartitionsSealExchangeAndZeroise :
    (∃ (s : State) (p : ℕ), s.opens (SHR_PCMD p) ∧ p < 8 ∧ s.shrBusy p = false ∧ s.sealCheck p = 0) ∧
    (∃ (s : State) (p : ℕ), s.opens (SHR_PCMD p) ∧ p < 8 ∧ s.shrBusy p = false ∧ s.sealCheck p ≠ 0) ∧
    (∃ (s : State) (p : ℕ) (i : Instr) (blob : List (BitVec 8)), s.opens (SHR_PCMD p) ∧ i ∈ [Instr.shrSeal p, .shrStatement p, .shrKeyImport p blob, .shrImport p blob, .shrExport p, .shrRelease p blob] ∧ p < 8 ∧ s.shrBusy p = true) ∧
    (∃ (s : State) (p : ℕ), s.pst p = pSEALING ∧ p < 8) ∧
    (∃ (s : State) (p : ℕ) (c : ℕ) (i : Instr) (blob : List (BitVec 8)), s.opens (SHR_PCMD p) ∧ (i, c, blob) ∈ [(Instr.shrStatement p, 2, []), (.shrKeyImport p blob, 3, blob), (.shrRelease p blob, 6, blob)] ∧ p < 8 ∧ s.shrBusy p = false ∧ (s.pst p = pSEALED ∨ s.pst p = pKEYED) ∧ ((c ≠ 2 → s.rdN (SHR_PSRC p) % 64 = 0 ∧ s.fld (SHR_PLEN p) SHR_PLEN_LEN = blob.length ∧ blob.length = (if c = 3 then 272 else 112) ∧ s.rdN (SHR_PSRC p) + blob.length ≤ 2 ^ 64))) ∧
    (∃ (s : State) (p : ℕ) (blob : List (BitVec 8)), s.opens (SHR_PCMD p) ∧ p < 8 ∧ s.shrBusy p = false ∧ s.pst p = pKEYED ∧ s.rdN (SHR_PSRC p) % 64 = 0 ∧ s.fld (SHR_PLEN p) SHR_PLEN_LEN = blob.length ∧ 64 ≤ blob.length ∧ s.rdN (SHR_PSRC p) + blob.length ≤ 2 ^ 64 ∧ s.importCheck p blob = 0) ∧
    (∃ (s : State) (p : ℕ), s.opens (SHR_PCMD p) ∧ p < 8 ∧ s.shrBusy p = false ∧ s.pst p = pKEYED ∧ s.exportCheck p = 0) ∧
    (∃ (s : State) (p : ℕ) (i : Instr) (c : ℕ) (blob : List (BitVec 8)), s.opens (SHR_PCMD p) ∧ (i, c) ∈ [(Instr.shrStatement p, E_SHR_STATE), (.shrKeyImport p blob, E_SHR_STATE), (.shrImport p blob, E_SHR_NOKEY), (.shrExport p, E_SHR_STATE), (.shrRelease p blob, E_SHR_STATE)] ∧ p < 8 ∧ s.shrBusy p = false ∧ s.pst p = pOPEN) ∧
    (∃ (s : State) (p : ℕ) (j : ShrJob), (s.shp p).job = some j ∧ s.shr.gcm.contains p = true ∧ s.shr.gcm.head? ≠ some p) ∧
    (∃ (s : State) (p : ℕ) (bs : List (BitVec 8)), (s.shp p).job = some ⟨2, bs⟩ ∧ p < 8 ∧ ((s.shr.gcm.contains p = true → s.shr.gcm.head? = some p))) ∧
    (∃ (s : State) (p : ℕ) (bs : List (BitVec 8)) (ok : Bool) (c : ℕ), ok = Config.ecdsaOk (s.partCfg p).tpk (slice bs 0 0xB0) (slice bs 0xB0 96) ∧ (c = (if zeroAt bs 5 3 = false ∨ zeroAt bs 0x7C 4 = false then E_SHR_RSVD_ENC else if leAt bs 0 4 ≠ 0x59454B53 ∨ leAt bs 4 1 ≠ p ∨ leAt bs 8 8 ≠ s.rdN (SHR_PSEAL_ID p) then E_SHR_RANGE else if ok = false then E_SHR_SIG else if Config.onCurve (slice bs 0x10 96) = false ∨ gcmTag (be 32 (Config.kek (s.shp p).xk (slice bs 0x10 96) (sha (s.shp p).sealStmt)).toNat) (slice bs 0x70 12) (slice bs 0 0x80) (slice bs 0x80 32) ≠ slice bs 0xA0 16 then E_SHR_AUTH else 0)) ∧ (s.shp p).job = some ⟨3, bs⟩ ∧ p < 8 ∧ ((s.shr.gcm.contains p = true → s.shr.gcm.head? = some p))) ∧
    (∃ (s : State) (p : ℕ) (bs : List (BitVec 8)) (d : Desc) (iv : List (BitVec 8)), d = importDesc bs ∧ iv = slice bs 0x18 12 ∧ (s.shp p).job = some ⟨4, bs⟩ ∧ p < 8 ∧ ((s.shr.gcm.contains p = true → s.shr.gcm.head? = some p)) ∧ d.dkind = 1) ∧
    (∃ (s : State) (p : ℕ) (pay : List (BitVec 8)), (s.shp p).job = some ⟨5, pay⟩ ∧ p < 8 ∧ ((s.shr.gcm.contains p = true → s.shr.gcm.head? = some p)) ∧ s.flag (SHR_PQID p) SHR_PQID_REGION = true ∧ pay.length ≤ 65536) ∧
    (∃ (s : State) (p : ℕ) (bs : List (BitVec 8)) (c : ℕ), (c = (if zeroAt bs 5 3 = false then E_SHR_RSVD_ENC else if leAt bs 0 4 ≠ 0x4C455253 ∨ leAt bs 4 1 ≠ p ∨ leAt bs 8 8 ≠ s.rdN (SHR_PSEAL_ID p) then E_SHR_RANGE else if Config.ecdsaOk (s.partCfg p).tpk (slice bs 0 16) (slice bs 16 96) = false then E_SHR_SIG else 0)) ∧ (s.shp p).job = some ⟨6, bs⟩ ∧ p < 8 ∧ ((s.shr.gcm.contains p = true → s.shr.gcm.head? = some p))) ∧
    (∃ (s : State) (p : ℕ), s.pst p = pZEROISING ∧ p < 8 ∧ swf resetVal s.img.init = true) :=
  ⟨⟨(fl [(SHR_STS, SHR_STS_LIFECYCLE, 1)] (w17p 1 2 id)), (0), by unfold State.opens; decide +kernel, by decide +kernel⟩,
    ⟨(yd 2 4 0 (fl [(GLB_LSG_STAT 4, GLB_LSG_STAT_GSTATE, 1)] (w17p 1 2 id))), (0), by unfold State.opens; decide +kernel, by decide +kernel⟩,
    ⟨(w17j 4 2 []), (0), (Instr.shrSeal 0), ([]), by unfold State.opens; decide +kernel, (.head _), by decide +kernel⟩,
    ⟨(w17j 2 1 []), (0), by decide +kernel⟩,
    ⟨(fl [(SHR_PLEN 0, SHR_PLEN_LEN, 112)] (w17p 3 1 id)), (0), (6), (Instr.shrRelease 0 (List.replicate 112 0)), (List.replicate 112 0), by unfold State.opens; decide +kernel, (.tail _ (.tail _ (.head _))), by decide +kernel⟩,
    ⟨(fl [(SHR_PLEN 0, SHR_PLEN_LEN, 128)] (w17p 4 1 id)), (0), (w17i), by unfold State.opens; decide +kernel, by decide +kernel⟩,
    ⟨(fl [(SHR_PLEN 0, SHR_PLEN_LEN, 64), (SHR_PQID 0, SHR_PQID_REGION, 1), (SHR_PDLEN 0, SHR_PDLEN_LEN, 288)] (w17p 4 1 id)), (0), by unfold State.opens; decide +kernel, by decide +kernel⟩,
    ⟨(w17p 1 0 id), (0), (Instr.shrImport 0 []), (E_SHR_NOKEY), ([]), by unfold State.opens; decide +kernel, (.tail _ (.tail _ (.head _))), by decide +kernel⟩,
    ⟨(let zz := w17j 4 4 [1]; { zz with shr := { zz.shr with gcm := [3, 0] } }), (0), (⟨4, [1]⟩), by decide +kernel⟩,
    ⟨(w17j 4 2 [1]), (0), ([1]), by decide +kernel⟩,
    ⟨(w17j 3 3 (w17k 0 0x1122334455667788 0x59454B53 256)), (0), (w17k 0 0x1122334455667788 0x59454B53 256), _, _, rfl, rfl, by decide +kernel⟩,
    ⟨(w17j 4 4 w17i), (0), (w17i), _, _, rfl, rfl, by decide +kernel⟩,
    ⟨(fl [(SHR_PQID 0, SHR_PQID_REGION, 1)] (w17j 4 5 (List.replicate 64 3))), (0), (List.replicate 64 3), by decide +kernel⟩,
    ⟨(w17j 4 6 (w17k 0 0x1122334455667788 0x4C455253 96)), (0), (w17k 0 0x1122334455667788 0x4C455253 96), _, rfl, by decide +kernel⟩,
    ⟨(let zz := rg [(SEQ_PC 1, 99), (HAL_STR_CTL 1 0, 3)] (w17p 5 0 id); { zz with img := { zz.img with init := [(HAL_STR_CTL 1 1, 1)], allots := [⟨0x0C, 0, 1, 1⟩] }, wch := { zz.wch with mem := [(524287, 1), (524288, 2)] }, seq := { zz.seq with store := [(262144, 1), (524288, 1)] }, cnv := { zz.cnv with res := [(5, 5), (131072, 6)] } }), (0), by decide +kernel⟩⟩

/-- A state, or a part of one, of the witnesses. -/
def w18 (i : Nat) (c : TrimC) (fg : Option Nat) : State := fl [(TRIM_CTL, TRIM_CTL_BG_PER, 1), (TRIM_CSTS i, TRIM_CSTS_PENDING, 1), (TRIM_STS, TRIM_STS_STATUS, 7)] { y1 with trim := ⟨[(i, c)], fg, 3, 9⟩, clock := ⟨20000003, 16000⟩ }
/-- A state, or a part of one, of the witnesses. -/
def w18e : Elems := ⟨(List.range 16).map fun n => (n, 20 - n), [(17, 3)], [16]⟩
/-- TrimCalibratesAndAppliesInTheRightPlaces: states and operands that meet the hypotheses of each clause. -/
theorem witness_TrimCalibratesAndAppliesInTheRightPlaces :
    (∃ (s : State) (i : ℕ), s.opens TRIM_CMD ∧ ((s.dev = dREADY ∨ s.dev = dRUN)) ∧ i < 0x1D0 ∧ ((∀ y ∈ s.convYards i, s.yIdle y = true ∧ ¬ (pSEALING ≤ s.pst (s.partOf y) ∧ s.pst (s.partOf y) ≤ pKEYED))) ∧ s.trim.fg = none) ∧
    (∃ (s : State) (i : ℕ), s.opens TRIM_CMD ∧ ((s.dev = dREADY ∨ s.dev = dRUN)) ∧ i < 0x1D0 ∧ s.bgMay i = true ∧ ((∀ y ∈ s.convYards i, ¬ (pSEALING ≤ s.pst (s.partOf y) ∧ s.pst (s.partOf y) ≤ pKEYED))) ∧ s.trim.fg = none) ∧
    (∃ (s : State) (i : ℕ) (bad : List ℕ), s.trim.fg = some i ∧ i < 0x1D0 ∧ bad.length ≤ spareTotal i ∧ ((∀ e ∈ bad, e < mappedTotal i + spareTotal i)) ∧ bad.Nodup) ∧
    (∃ (s : State) (i : ℕ) (bad : List ℕ), s.trim.fg = some i ∧ i < 0x1D0 ∧ spareTotal i < bad.length) ∧
    (∃ (s : State), ((s.dev = dREADY ∨ s.dev = dRUN)) ∧ s.trim.bgAt + s.fld TRIM_CTL TRIM_CTL_BG_PER * 20000000 ≤ s.clock.now) ∧
    (∃ (s : State) (i : ℕ) (e : ℕ × ℕ) (m : ℕ × ℕ), (s.trc i).step = true ∧ s.trimBad i = false ∧ i < 0x1D0 ∧ spareTotal i ≠ 0 ∧ oldest (s.elems i).free = some e ∧ oldest (s.elems i).mapped = some m) ∧
    (∃ (s : State) (i : ℕ) (e : ℕ × ℕ) (m : ℕ × ℕ), (s.trc i).step = true ∧ s.trimBad i = false ∧ i < 0x1D0 ∧ spareTotal i ≠ 0 ∧ oldest (s.elems i).free = some e ∧ oldest (s.elems i).mapped = some m) ∧
    (∃ (s : State) (i : ℕ), (s.trc i).step = true ∧ s.trimBad i = false ∧ i < 0x1D0 ∧ spareTotal i = 0 ∧ convClass i ≠ 5) ∧
    (∃ (s : State) (i : ℕ), (s.trc i).step = true ∧ s.trimBad i = false ∧ i < 0x1D0 ∧ convClass i = 5 ∧ s.monCalibrates i = false) ∧
    (∃ (s : State) (i : ℕ) (e : ℕ) (o : ℕ), (s.trc i).staged = some (.swap e o) ∧ s.phase = 0 ∧ i < 0x1D0 ∧ ((∀ y ∈ s.convYards i, s.inPass (s.groupOf y) = false))) :=
  ⟨⟨(w18 0x1A0 ⟨none, some .values, false⟩ none), (0x1A0), by unfold State.opens; decide +kernel, by decide +kernel⟩,
    ⟨(w18 0x1CF ⟨none, none, false⟩ none), (0x1CF), by unfold State.opens; decide +kernel, by decide +kernel⟩,
    ⟨(w18 0x1A0 ⟨none, none, false⟩ (some 0x1A0)), (0x1A0), ([17, 3]), by decide +kernel⟩,
    ⟨(w18 0x161 ⟨none, none, false⟩ (some 0x161)), (0x161), ([0]), by decide +kernel⟩,
    ⟨(fl [(TRIM_CTL, TRIM_CTL_BG_EN, 63)] (w18 0x1A0 ⟨some { w18e with free := [] }, none, false⟩ none)), by decide +kernel⟩,
    ⟨(w18 0x1A0 ⟨some w18e, some (.swap 17 5), true⟩ none), (0x1A0), ((17, 3)), ((15, 5)), by decide +kernel⟩,
    ⟨(w18 0x1A0 ⟨some w18e, none, true⟩ none), (0x1A0), ((17, 3)), ((15, 5)), by decide +kernel⟩,
    ⟨(w18 0x60 ⟨none, none, true⟩ none), (0x60), by decide +kernel⟩,
    ⟨(w18 0x1C0 ⟨none, none, true⟩ none), (0x1C0), by decide +kernel⟩,
    ⟨(w18 0x1A0 ⟨some w18e, some (.swap 17 15), false⟩ none), (0x1A0), (17), (15), by decide +kernel⟩⟩

/-- A state, or a part of one, of the witnesses. -/
def w19 (f : ReefS → ReefS) (rs : List (Nat × Fld × Nat)) : State := fl rs (rg [(REEF_SENS 46, 0), (REEF_PLIM, 320)] { y1 with clock := ⟨3000000000, 16000⟩, reef := f { y1.reef with conv := [(47, [-64, -100, 7000])], tAt := some 5, pAt := some 6, cool := some 8, power := [350000, 340000], lim := 320000, above := some 5, tripped := false } })
/-- ReefFollowsTemperatureAndPower: states and operands that meet the hypotheses of each clause. -/
theorem witness_ReefFollowsTemperatureAndPower :
    (∃ (s : State) (i : ℕ) (v : ℤ) (xs : List ℤ) (m : ℤ), xs = v :: tget s.reef.conv i ∧ m = meanT (xs.take 10) ∧ i < 48 ∧ s.dev ≠ dOFF ∧ s.sensBad i = false ∧ ((∀ x ∈ xs, -2560 ≤ x ∧ x ≤ 9600)) ∧ convOk (xs.take 2) = true ∧ m < 7104) ∧
    (∃ (s : State) (i : ℕ) (v : ℤ) (xs : List ℤ) (m : ℤ), xs = v :: tget s.reef.conv i ∧ m = meanT (xs.take 10) ∧ i < 48 ∧ s.sensBad i = false ∧ ((∀ x ∈ xs, -2560 ≤ x ∧ x ≤ 9600)) ∧ convOk (xs.take 2) = true ∧ 7104 ≤ m ∧ s.dev ≠ dOFF ∧ s.dev ≠ dSAFE) ∧
    (∃ (s : State) (i : ℕ) (v : ℤ) (m : ℤ), m = meanT ((v :: tget s.reef.conv i).take 10) ∧ i < 48 ∧ s.dev = dOFF ∧ s.sensBad i = false ∧ -2560 ≤ m ∧ m ≤ 9600) ∧
    (∃ (s : State) (i : ℕ) (v : ℤ), i < 48 ∧ s.dev ≠ dOFF ∧ s.sensBad i = false ∧ s.sensBad (4 * (i / 2) + 1 - i) = false ∧ ((v < -2560 ∨ 9600 < v))) ∧
    (∃ (s : State) (l : ℤ) (n : ℤ) (m : ℤ), s.dev ≠ dOFF ∧ s.tenMs s.reef.tAt = true ∧ l = s.fld REEF_STS REEF_STS_TLEVEL ∧ (((l < 7 ∧ n = l + 1 ∧ ∃ z, z < 24 ∧ 5952 + 128 * (n : Int) ≤ s.zoneT z) ∨ (0 < l ∧ n = l - 1 ∧ ∀ z, z < 24 → s.zoneT z < 5952 + 128 * (l : Int) - 192))) ∧ m = max n (s.fld REEF_STS REEF_STS_PLEVEL)) ∧
    (∃ (s : State) (l : ℕ) (n : ℕ) (m : ℕ), s.dev ≠ dOFF ∧ s.tenMs s.reef.pAt = true ∧ l = s.fld REEF_STS REEF_STS_PLEVEL ∧ (((l < 7 ∧ n = l + 1 ∧ s.reef.lim < s.rdN REEF_PWR) ∨ (0 < l ∧ n = l - 1 ∧ 100 * s.rdN REEF_PWR < 95 * s.reef.lim))) ∧ m = max (s.fld REEF_STS REEF_STS_TLEVEL) n) ∧
    (∃ (s : State), s.dev = dOFF) ∧
    (∃ (s : State) (vs : List (ℕ × ℕ)) (mw : ℕ), mw = (((List.range 6).map fun r => (vs.getD r (0, 0)).1 * (vs.getD r (0, 0)).2).foldl (· + ·) 0) / 1000 ∧ s.dev ≠ dOFF ∧ meanN ((mw :: s.reef.power).take 100) ≤ s.fld REEF_PLIM REEF_PLIM_W * 1000) ∧
    (∃ (s : State) (vs : List (ℕ × ℕ)) (mw : ℕ) (a : ℕ), mw = (((List.range 6).map fun r => (vs.getD r (0, 0)).1 * (vs.getD r (0, 0)).2).foldl (· + ·) 0) / 1000 ∧ s.dev ≠ dOFF ∧ s.fld REEF_PLIM REEF_PLIM_W * 1000 < meanN ((mw :: s.reef.power).take 100) ∧ s.fld REEF_STS REEF_STS_PLEVEL = 7 ∧ s.reef.above = some a ∧ a + 2000000000 ≤ s.clock.now ∧ s.reef.told = false) ∧
    (∃ (s : State) (v : ℕ), s.opens REEF_PLIM ∧ 150 ≤ v ∧ v ≤ 320) ∧
    (∃ (s : State) (v : ℕ), s.opens REEF_PLIM ∧ (v < 150 ∨ (320 < v ∧ v < 512))) ∧
    (∃ (s : State) (i : ℕ) (xs : List ℤ), s.opens REEF_CMD ∧ i < 48 ∧ xs.length = 10 ∧ convOk xs = true) ∧
    (∃ (s : State) (i : ℕ) (xs : List ℤ) (pass : Bool), s.opens REEF_CMD ∧ i < 48 ∧ s.sensBad (4 * (i / 2) + 1 - i) = false ∧ ((pass = false ∨ xs.length ≠ 10 ∨ convOk xs = false))) ∧
    (∃ (s : State) (i : ℕ), s.opens REEF_CMD ∧ 48 ≤ i ∧ i < 64) ∧
    (∃ (s : State) (c : ℤ), s.reef.cool = some c ∧ s.reef.tripped = true ∧ c + 20000000000 ≤ (s.clock.now : Int) ∧ s.dev = dOFF ∧ s.pwr.good = true) :=
  ⟨⟨(w19 id []), (47), (-300), _, _, rfl, rfl, by decide +kernel⟩,
    ⟨(w19 id []), (46), (7104), _, _, rfl, rfl, by decide +kernel⟩,
    ⟨(w19 id [(GLB_STATE, GLB_STATE_STATE, 0)]), (47), (9000), _, rfl, by decide +kernel⟩,
    ⟨(w19 id [(REEF_SENS 0, REEF_SENS_FAILED, 1)]), (47), (9601), by decide +kernel⟩,
    ⟨(w19 id [(REEF_ZONE 23, REEF_ZONE_TEMP, 6848), (REEF_STS, REEF_STS_TLEVEL, 6), (REEF_STS, REEF_STS_PLEVEL, 5), (REEF_STS, REEF_STS_LEVEL, 6)]), (6), (7), (7), by decide +kernel⟩,
    ⟨(rg [(REEF_PWR, 303999)] (w19 id [(REEF_STS, REEF_STS_PLEVEL, 5), (REEF_STS, REEF_STS_LEVEL, 5)])), (5), (4), (4), by decide +kernel⟩,
    ⟨(w19 id [(GLB_STATE, GLB_STATE_STATE, 0)]), by decide +kernel⟩,
    ⟨(w19 (fun zz => { zz with rails := [(5, [(1, 2)])], told := true }) []), ([(800, 200000), (1000, 1)]), _, rfl, by decide +kernel⟩,
    ⟨(w19 (fun zz => { zz with above := some 1000000000 }) [(REEF_STS, REEF_STS_PLEVEL, 7), (REEF_STS, REEF_STS_LEVEL, 7)]), ([(1000, 400000)]), _, (1000000000), rfl, by decide +kernel⟩,
    ⟨(w19 id [(REEF_STS, REEF_STS_STATUS, 3)]), (150), by unfold State.opens; decide +kernel, by decide +kernel⟩,
    ⟨(w19 id []), (321), by unfold State.opens; decide +kernel, by decide +kernel⟩,
    ⟨(w19 id [(REEF_SENS 47, REEF_SENS_FAILED, 1), (REEF_ZONE 23, REEF_ZONE_LOST, 1)]), (47), ([0, 320, 640, 960, 1280, 1600, 1920, 2240, 2560, 2880]), by unfold State.opens; decide +kernel, by decide +kernel⟩,
    ⟨(w19 id []), (46), ([0, 0, 0, 0, 0, 0, 0, 0, 0]), (true), by unfold State.opens; decide +kernel, by decide +kernel⟩,
    ⟨(w19 id []), (63), by unfold State.opens; decide +kernel, by decide +kernel⟩,
    ⟨(let zz := w19 (fun zz => { zz with cool := some 9, tripped := true }) [(GLB_STATE, GLB_STATE_STATE, 0)]; { zz with clock := ⟨20000000009, 0⟩, pwr := { zz.pwr with good := true } }), (9), by decide +kernel⟩⟩

/-- A state, or a part of one, of the witnesses. -/
def w20 (x : TrigIn) (rs : List (Nat × Nat)) : State := let zz := own 2 3 0 15 1 (rg rs y1); { zz with flt := { zz.flt with trig := [(15, x)] }, bus := { zz.bus with reports := [⟨0x1234, false, 0x40, 7⟩, ⟨5, true, 1, 1⟩] } }
/-- A state, or a part of one, of the witnesses. -/
def w20g (m : Option Nat) : State := let zz := fl [(GLB_LSG_STAT 3, GLB_LSG_STAT_GSTATE, 2), (SEQ_STS 1, SEQ_STS_MSTATE, 2)] (w20 default []); { zz with seq := { zz.seq with groups := [(3, { (default : Group) with mark := m, marks := [9], shot := 4 })] } }
/-- FaultManagerLogsMarksAndTimesEdges: states and operands that meet the hypotheses of each clause. -/
theorem witness_FaultManagerLogsMarksAndTimesEdges :
    (∃ (s : State) (r : Report) (rest : List Report), s.bus.reports = r :: rest ∧ faultClass r.code r.program < 5 ∧ s.logHeld = 0 ∧ s.logWp < 512 ∧ bit (s.fld FLT_IRQ FLT_IRQ_EN) (faultClass r.code r.program) = false) ∧
    (∃ (s : State), s.opens FLT_CMD) ∧
    (∃ (s : State) (v : ℕ), s.opens FLT_LOG_RP ∧ v < 512 ∧ (v + 512 - s.logRp) % 512 ≤ s.logHeld) ∧
    (∃ (s : State) (v : ℕ), s.opens FLT_LOG_RP ∧ v < 512 ∧ s.logHeld < (v + 512 - s.logRp) % 512) ∧
    (∃ (s : State) (g : ℕ) (r : ℕ), r = (if s.rdN FLT_MARK_REL = 0 then s.clock.tb1 + 2560 else s.rdN FLT_MARK_REL) ∧ s.opens FLT_MARK ∧ s.tb1Run = true ∧ s.members g ≠ [] ∧ ((∀ y ∈ s.members g, ¬ (pSEALING ≤ s.pst (s.partOf y) ∧ s.pst (s.partOf y) ≤ pKEYED))) ∧ ((∀ h, h < 64 → (s.grp h).mark = none)) ∧ ((s.rdN FLT_MARK_REL = 0 ∨ s.clock.tb1 + 2560 ≤ s.rdN FLT_MARK_REL))) ∧
    (∃ (s : State) (g : ℕ) (r : ℕ), (s.grp g).mark = some r ∧ s.atTb1 r = true ∧ s.gst g = gRUNNING ∧ ((s.inPass g = true ∨ (s.grp g).lastEnd = s.tb1))) ∧
    (∃ (s : State) (g : ℕ) (r : ℕ), (s.grp g).mark = some r ∧ s.atTb1 r = true ∧ s.gst g = gIDLE) ∧
    (∃ (s : State) (i : ℕ) (v : ℕ), s.opens (FLT_TRIG_CFG i) ∧ i < 16 ∧ v < 2 ^ 32 ∧ bits v 4 0 ≤ 24 ∧ ((bit v 31 = true → s.xfMay i (bits v 29 24) = true))) ∧
    (∃ (s : State) (i : ℕ) (up : Bool), (s.trig i).pend = none ∧ (s.trig i).pin ≠ up ∧ (s.trig i).level ≠ up) ∧
    (∃ (s : State) (i : ℕ) (c : TrigCh), (s.trig i).pend = some c ∧ c.e + c.cfg % 32 * 16 ≤ s.clock.now) ∧
    (∃ (s : State) (i : ℕ) (c : TrigCh) (rest : List TrigCh) (e : ℕ) (k : ℕ), e = s.clock.tb1 + c.e - s.clock.now ∧ k = (2 * i + if c.level = true then 0 else 1) ∧ (s.trig i).edges = c :: rest ∧ s.tb1Run = true ∧ ceilFt (s.clock.tb1 + (c.e + 768) - s.clock.now) ≤ s.clock.tb1 ∧ s.clock.now ≤ c.e + s.clock.tb1 ∧ bit c.cfg 31 = false) ∧
    (∃ (s : State) (i : ℕ) (c : TrigCh) (rest : List TrigCh), (s.trig i).edges = c :: rest ∧ s.tb1Run = false ∧ c.e + 768 ≤ s.clock.now ∧ bit c.cfg 31 = false) :=
  ⟨⟨(w20 default [(FLT_LOG_WP, 511), (FLT_LOG_RP, 511)]), (⟨0x1234, false, 0x40, 7⟩), ([⟨5, true, 1, 1⟩]), by decide +kernel⟩,
    ⟨(w20 default [(FLT_LOG_WP, 3), (FLT_LOG_RP, 511)]), by unfold State.opens; decide +kernel⟩,
    ⟨(w20 default [(FLT_LOG_WP, 3), (FLT_LOG_RP, 511)]), (3), by unfold State.opens; decide +kernel, by decide +kernel⟩,
    ⟨(w20 default [(FLT_LOG_WP, 3), (FLT_LOG_RP, 511)]), (4), by unfold State.opens; decide +kernel, by decide +kernel⟩,
    ⟨(w20 default [(FLT_MARK_REL, 18560)]), (3), _, rfl, by unfold State.opens; decide +kernel, by decide +kernel⟩,
    ⟨(w20g (some 16000)), (3), (16000), by decide +kernel⟩,
    ⟨(let zz := w20g (some 16000); fl [(GLB_LSG_STAT 3, GLB_LSG_STAT_GSTATE, 0)] zz), (3), (16000), by decide +kernel⟩,
    ⟨(w20 default [(FLT_TRIG_CFG 15, 3)]), (15), (2 ^ 31 + 3 * 2 ^ 24 + 24), by unfold State.opens; decide +kernel, by decide +kernel⟩,
    ⟨(w20 ⟨false, false, 5, none, [], 0, 0⟩ [(FLT_TRIG_CFG 15, 3)]), (15), (true), by decide +kernel⟩,
    ⟨(w20 ⟨false, true, 31600, some ⟨31600, true, 25, none⟩, [], 0, 0⟩ []), (15), (⟨31600, true, 25, none⟩), by decide +kernel⟩,
    ⟨(w20 ⟨true, true, 31232, none, [⟨31232, true, 25, none⟩], 0, 0⟩ []), (15), (⟨31232, true, 25, none⟩), ([]), _, _, rfl, rfl, by decide +kernel⟩,
    ⟨(let zz := w20 ⟨true, true, 31232, none, [⟨31232, true, 25, none⟩], 0, 0⟩ []; fl [(STAY_STS, STAY_STS_TB1STATE, 0)] zz), (15), (⟨31232, true, 25, none⟩), ([]), by decide +kernel⟩⟩

/-- A state, or a part of one, of the witnesses. -/
def w21 (d : Nat) (f : PwrS → PwrS) (rs : List (Nat × Fld × Nat)) : State := { fl rs (fl [(GLB_STATE, GLB_STATE_STATE, d), (GLB_BOOT_STS, (1, 4), 9), (REEF_STS, REEF_STS_TRIPPED, 1)] (rg [(REEF_TRIP_CNT, 3), (SEQ_PC 1, 5)] y1)) with clock := ⟨500000000, 16000⟩, pwr := f { y1.pwr with good := true, straps := some 9, tryAt := 400000000 } }
/-- ResetsSuppliesAndClocksAct: states and operands that meet the hypotheses of each clause. -/
theorem witness_ResetsSuppliesAndClocksAct :
    (∃ (s : State) (straps : ℕ), s.pwr.straps = none ∧ straps < 16) ∧
    (∃ (s : State), s.pwr.straps ≠ none) ∧
    (∃ (s : State) (i : Instr) (k : ℕ), (i, k) ∈ [(Instr.resetNAssert false, 1), (.railLoss, s.lastReset)] ∧ s.dev ≠ dOFF) ∧
    (∃ (s : State) (p : Bool), s.dev = dOFF ∧ ((p = true → s.flag GLB_BOOT_STS GLB_BOOT_STS_PERST_SEL = false))) ∧
    (∃ (s : State), s.flag GLB_BOOT_STS GLB_BOOT_STS_PERST_SEL = true) ∧
    (∃ (s : State) (i : Instr), i ∈ [Instr.synthLossOfLock, .refclkLoss] ∧ s.flag GLB_CLK_STS GLB_CLK_STS_SYNTH_LOCK = true ∧ s.dev ≠ dOFF) ∧
    (∃ (s : State), s.dev = dSAFE ∧ s.flag GLB_CLK_STS GLB_CLK_STS_FALLBACK = true ∧ s.flag GLB_CLK_STS GLB_CLK_STS_SYNTH_LOCK = false ∧ s.flag GLB_CLK_STS GLB_CLK_STS_REFCLK_OK = true ∧ s.pwr.tryAt + 100000000 ≤ s.clock.now) ∧
    (∃ (s : State) (l : ℕ), s.pwr.lockAt = some l ∧ l + 200000000 ≤ s.clock.now) ∧
    (∃ (s : State) (l : ℕ), s.pwr.lockAt = some l ∧ s.clock.now < l + 200000000) ∧
    (∃ (s : State), s.dev = dOFF ∧ s.pwr.good = true ∧ s.reef.tripped = false) ∧
    (∃ (s : State), (s.dev ≠ dOFF ∨ s.pwr.good = false ∨ s.reef.tripped = true)) ∧
    (∃ (s : State) (v : ℕ), s.opens GLB_RESET ∧ bits v 31 16 = 0xA5C3 ∧ v % 2 = 1 ∧ s.pwr.glbAt = none) ∧
    (∃ (s : State) (v : ℕ), s.opens GLB_RESET ∧ (bits v 31 16 ≠ 0xA5C3 ∨ v % 2 ≠ 1 ∨ s.pwr.glbAt ≠ none)) ∧
    (∃ (s : State), s.dev ≠ dOFF) :=
  ⟨⟨(w21 0 (fun zz => { zz with good := false, straps := none }) []), (15), by decide +kernel⟩,
    ⟨(w21 0 (fun zz => { zz with good := false }) []), by decide +kernel⟩,
    ⟨(w21 4 id []), (Instr.railLoss), (0), (.tail _ (.head _)), by decide +kernel⟩,
    ⟨(w21 0 id [(GLB_BOOT_STS, GLB_BOOT_STS_PERST_SEL, 0)]), (true), by decide +kernel⟩,
    ⟨(w21 4 id [(GLB_BOOT_STS, GLB_BOOT_STS_PERST_SEL, 1)]), by decide +kernel⟩,
    ⟨(w21 5 id [(GLB_CLK_STS, GLB_CLK_STS_SYNTH_LOCK, 1), (GLB_LSG_STAT 3, GLB_LSG_STAT_GSTATE, 2), (SEQ_STS 1, SEQ_STS_MSTATE, 2)]), (Instr.refclkLoss), (.tail _ (.head _)), by decide +kernel⟩,
    ⟨(w21 6 id [(GLB_CLK_STS, GLB_CLK_STS_FALLBACK, 1), (GLB_CLK_STS, GLB_CLK_STS_REFCLK_OK, 1)]), by decide +kernel⟩,
    ⟨(w21 6 (fun zz => { zz with lockAt := some 300000000 }) [(GLB_CLK_STS, GLB_CLK_STS_FALLBACK, 1)]), (300000000), by decide +kernel⟩,
    ⟨(w21 6 (fun zz => { zz with lockAt := some 300000001 }) [(GLB_CLK_STS, GLB_CLK_STS_FALLBACK, 1)]), (300000001), by decide +kernel⟩,
    ⟨(w21 0 id []), by decide +kernel⟩,
    ⟨(w21 0 (fun zz => { zz with good := false }) []), by decide +kernel⟩,
    ⟨(w21 4 id []), (0xA5C30001), by unfold State.opens; decide +kernel, by decide +kernel⟩,
    ⟨(w21 4 id []), (0xA5C30002), by unfold State.opens; decide +kernel, by decide +kernel⟩,
    ⟨(w21 6 id []), by decide +kernel⟩⟩

/-- A state, or a part of one, of the witnesses. -/
def w21s (n : Nat) (rs : List (Nat × Fld × Nat)) : State := w21 1 (fun zz => { zz with copies := [(1, 200, 0x1000, 0), (0, 300, 0x2000, 0)] }) ((GLB_BOOT_STS, GLB_BOOT_STS_STAGE, n) :: rs)
/-- A state, or a part of one, of the witnesses. -/
def w21b (v : Nat) : List (BitVec 8) := le 4 0x5442514C ++ le 2 1 ++ le 2 1 ++ le 4 v ++ le 4 0x1000 ++ le 4 200 ++ le 4 0 ++ le 4 0x2000 ++ le 4 64 ++ le 4 0x1E04 ++ List.replicate 24 0#8
/-- A state, or a part of one, of the witnesses. -/
def w21h (v : Nat) : List (BitVec 8) := w21b v ++ le 4 (crc32 (w21b v))
/-- BootAdvancesAndSmbusAnswers: states and operands that meet the hypotheses of each clause. -/
theorem witness_BootAdvancesAndSmbusAnswers :
    (∃ (s : State) (n : ℕ) (z : List ℕ), s.dev = dBOOT ∧ s.stage = n ∧ (n = 1 ∨ n = 3 ∨ (n = 4 ∧ z = []))) ∧
    (∃ (s : State) (i : ℕ), s.dev = dBOOT ∧ s.stage = 4 ∧ i < 48 ∧ s.sensBad (4 * (i / 2) + 1 - i) = false) ∧
    (∃ (s : State), s.dev = dBOOT ∧ s.stage = 2 ∧ s.fld GLB_BOOT_STS GLB_BOOT_STS_CAUSE ≠ 1) ∧
    (∃ (s : State), s.dev = dBOOT ∧ s.stage = 2 ∧ s.fld GLB_BOOT_STS GLB_BOOT_STS_CAUSE ≠ 1) ∧
    (∃ (s : State), s.dev = dBOOT ∧ s.stage = 2 ∧ s.fld GLB_BOOT_STS GLB_BOOT_STS_CAUSE = 1) ∧
    (∃ (s : State) (z : List ℕ) (c : ℕ), s.dev = dBOOT ∧ ((s.stage = 1 ∨ s.stage = 3 ∨ (s.stage = 4 ∧ z = []) ∨ s.stage = 5 ∨ (s.stage = 2 ∧ c ≠ 1 ∧ s.fld GLB_BOOT_STS GLB_BOOT_STS_CAUSE ≠ 1))) ∧ 0 < c ∧ c < 256) ∧
    (∃ (s : State) (a : List (BitVec 8)) (b : List (BitVec 8)) (cs : List (ℕ × ℕ × ℕ × ℕ)), cs = bootCopies (s.flag GLB_BOOT_STS GLB_BOOT_STS_XSPI_MODE) a b ∧ s.dev = dBOOT ∧ s.stage = 5 ∧ cs ≠ []) ∧
    (∃ (s : State) (a : List (BitVec 8)) (b : List (BitVec 8)), s.dev = dBOOT ∧ s.stage = 5 ∧ bootCopies (s.flag GLB_BOOT_STS GLB_BOOT_STS_XSPI_MODE) a b = []) ∧
    (∃ (s : State) (f : List (BitVec 8)) (n : ℕ) (len : ℕ) (off : ℕ) (rest : List (ℕ × ℕ × ℕ × ℕ)) (c : ℕ) (e : ℕ), c = (if e = 0 then s.fwCause len f else e) ∧ s.dev = dBOOT ∧ s.stage = 6 ∧ s.pwr.copies = (n, len, off, 0) :: rest ∧ n < 2 ∧ s.lifecycle ≠ 3 ∧ s.lastReset ≠ 3 ∧ e < 256) ∧
    (∃ (s : State), s.dev ≠ dBOOT) ∧
    (∃ (s : State), s.dev = dBOOT ∧ s.stage = 2 ∧ s.fld GLB_BOOT_STS GLB_BOOT_STS_CAUSE = 1 ∧ s.pwr.tryAt + 100000000 ≤ s.clock.now) ∧
    (∃ (s : State) (i : Instr) (c : ℕ) (v : ℕ), (i, c, v) ∈ [(Instr.smbBootStsLow, 0, s.rdN GLB_BOOT_STS % 2 ^ 16), (.smbBootStsHigh, 1, s.rdN GLB_BOOT_STS / 2 ^ 16), (.smbState, 2, if s.dev = dOFF then 0 else s.rdN GLB_STATE % 2 ^ 16), (.smbReefSts, 3, s.rdN REEF_STS % 2 ^ 16), (.smbTripCnt, 4, s.rdN REEF_TRIP_CNT % 2 ^ 16)] ++ (List.range 24).map (fun z => (Instr.smbZoneTemp z, 0x10 + z, s.fld (REEF_ZONE z) REEF_ZONE_TEMP))) ∧
    (∃ (r : ℕ), r < 6) :=
  ⟨⟨(w21s 4 []), (4), ([]), by decide +kernel⟩,
    ⟨(w21s 4 []), (47), by decide +kernel⟩,
    ⟨(w21s 2 [(GLB_CLK_STS, GLB_CLK_STS_FALLBACK, 1), (GLB_BOOT_STS, GLB_BOOT_STS_CAUSE, 3)]), by decide +kernel⟩,
    ⟨(w21s 2 []), by decide +kernel⟩,
    ⟨(w21s 2 [(GLB_BOOT_STS, GLB_BOOT_STS_CAUSE, 1)]), by decide +kernel⟩,
    ⟨(w21s 2 []), ([]), (255), by decide +kernel⟩,
    ⟨(w21s 5 []), (w21h 5), (w21h 6), _, rfl, by decide +kernel⟩,
    ⟨(w21s 5 []), ([]), (w21b 6 ++ [0, 0, 0, 0]), by decide +kernel⟩,
    ⟨(w21s 6 []), ([]), (1), (200), (0x1000), ([(0, 300, 0x2000, 0)]), _, (0), rfl, by decide +kernel⟩,
    ⟨(w21s 7 [(GLB_STATE, GLB_STATE_STATE, 2)]), by decide +kernel⟩,
    ⟨(w21s 2 [(GLB_BOOT_STS, GLB_BOOT_STS_CAUSE, 1)]), by decide +kernel⟩,
    ⟨(w21 0 id [(REEF_ZONE 0, REEF_ZONE_TEMP, 0x1234)]), (Instr.smbZoneTemp 0), (0x10), (0x1234), (by decide +kernel)⟩,
    ⟨(5), by decide +kernel⟩⟩

/-- A state, or a part of one, of the witnesses. -/
def w24 (lc : Nat) (f : RatS → RatS) (s : State) : State := fl [(SHR_STS, SHR_STS_LIFECYCLE, lc)] { s with rat := f ⟨1, 0, none, 2, 77⟩ }
/-- A state, or a part of one, of the witnesses. -/
def w24h (w : Nat) : State := fl [(RAT_MSTS 1, RAT_MSTS_HALTED, 1), (RAT_MSTS 1, RAT_MSTS_PC, 3), (RAT_MSTS 1, RAT_MSTS_STATUS, 9), (RAT_STS, RAT_STS_MHALT, 1)] (w24 1 id (ins 1 3 w w03c))
/-- RatlineReadsWritesHaltsAndSteps: states and operands that meet the hypotheses of each clause. -/
theorem witness_RatlineReadsWritesHaltsAndSteps :
    (∃ (ir : ℕ), ir < 256) ∧
    (∃ (s : State), s.lifecycle ≠ 3) ∧
    (∃ (s : State) (i : Instr) (w : Bool) (sp : ℕ) (p : Bool) (a : ℕ) (r : ℕ) (d : ℕ) (o : ℕ), i ∈ [Instr.tapDbgStatus, .dbgAccessNop o, .dbgAccessRead w sp p a r, .dbgAccessWrite w sp a r d] ∧ s.lifecycle = 3) ∧
    (∃ (s : State) (i : Instr) (w : Bool) (sp : ℕ) (p : Bool) (a : ℕ) (r : ℕ) (d : ℕ) (o : ℕ) (e : ℕ × ℕ), i ∈ [Instr.dbgAccessNop o, .dbgAccessRead w sp p a r, .dbgAccessWrite w sp a r d] ∧ s.lifecycle ≠ 3 ∧ s.rat.busy = some e) ∧
    (∃ (s : State), s.lifecycle ≠ 3 ∧ s.rat.busy = none) ∧
    (∃ (s : State) (i : Instr) (w : Bool) (sp : ℕ) (p : Bool) (a : ℕ) (r : ℕ) (d : ℕ), ((i = Instr.dbgAccessNop 3 ∨ (0 < r ∧ (i = Instr.dbgAccessRead w sp p a r ∨ i = Instr.dbgAccessWrite w sp a r d)))) ∧ s.lifecycle ≠ 3 ∧ s.rat.busy = none) ∧
    (∃ (s : State) (a : ℕ) (r : RegRow), s.lifecycle ≠ 3 ∧ s.rat.busy = none ∧ s.barUp = true ∧ s.ratBar0 a = true ∧ regRow a = some r ∧ r.width = 32 ∧ a % 4 = 0) ∧
    (∃ (s : State) (a : ℕ), s.lifecycle ≠ 3 ∧ s.rat.busy = none ∧ s.barUp = false ∧ s.ratBar0 a = true ∧ a % 4 = 0) ∧
    (∃ (s : State) (a : ℕ) (i : Instr) (p : Bool) (d : ℕ), i ∈ [Instr.dbgAccessRead false 0 p a 0, .dbgAccessWrite false 0 a 0 d] ∧ s.lifecycle ≠ 3 ∧ s.rat.busy = none ∧ s.ratBar0 a = false ∧ a % 4 = 0) ∧
    (∃ (s : State) (a : ℕ) (d : ℕ), ((∀ c, s.img.commit = some c → c.phase = 0)) ∧ ((∃ y b, y < 64 ∧ b < 4 ∧ a = RAT_MBRK y b) ∨ (∃ x b, x < 8 ∧ b < 2 ∧ a = RAT_WBRK x b)) ∧ s.lifecycle ≠ 3 ∧ s.rat.busy = none ∧ s.barUp = true ∧ s.ratBar0 a = true ∧ d < 2 ^ 32) ∧
    (∃ (s : State) (a : ℕ), s.lifecycle ≠ 3 ∧ s.rat.busy = none ∧ s.barUp = true ∧ 0x20000000 ≤ a ∧ a + 4 ≤ 0x22000000 ∧ a % 4 = 0 ∧ s.ratBar2 a = true) ∧
    (∃ (s : State) (st : ℕ) (da : ℕ), s.rat.busy = some (st, da)) ∧
    (∃ (s : State), s.rat.busy = none) ∧
    (∃ (s : State) (y : ℕ), s.ratYard y = true) ∧
    (∃ (s : State) (i : Instr) (y : ℕ) (x : ℕ) (v : Bool), ((i ∈ [Instr.ratMastHalt y, .ratMastStep y, .ratMastRelease y] ∧ s.ratYard y = false) ∨ (i ∈ [Instr.ratWchHalt x v, .ratWchStep x] ∧ s.ratCore x = false))) ∧
    (∃ (s : State) (y : ℕ) (pc : ℕ) (u : State) (w : ℕ), u = s.setPc y pc ∧ w = u.word y pc ∧ s.ratYard y = true ∧ y < 64 ∧ s.flag (RAT_MSTS y) RAT_MSTS_HALTED = true ∧ pc = s.fld (RAT_MSTS y) RAT_MSTS_PC ∧ pc < 32767 ∧ mop w = .movi ∧ u.decodeErr y pc w = 0 ∧ u.issueErr y w = 0 ∧ (s.mast y).loops = []) ∧
    (∃ (s : State) (y : ℕ) (pc : ℕ) (u : State) (w : ℕ), u = s.setPc y pc ∧ w = u.word y pc ∧ s.ratYard y = true ∧ y < 64 ∧ s.flag (RAT_MSTS y) RAT_MSTS_HALTED = true ∧ pc = s.fld (RAT_MSTS y) RAT_MSTS_PC ∧ pc < 32767 ∧ mop w = .wait ∧ u.decodeErr y pc w = 0 ∧ u.issueErr y w = 0 ∧ (s.mast y).loops = [] ∧ u.tq y + 16 * u.waitFt y w ≤ 2 ^ 48 - 16) ∧
    (∃ (s : State) (y : ℕ) (pc : ℕ) (u : State) (w : ℕ), u = s.setPc y pc ∧ w = u.word y pc ∧ s.ratYard y = true ∧ y < 64 ∧ s.flag (RAT_MSTS y) RAT_MSTS_HALTED = true ∧ pc = s.fld (RAT_MSTS y) RAT_MSTS_PC ∧ mop w = .end_ ∧ u.decodeErr y pc w = 0 ∧ u.issueErr y w = 0) ∧
    (∃ (s : State) (y : ℕ), s.ratYard y = true ∧ y < 64 ∧ s.flag (RAT_MSTS y) RAT_MSTS_HALTED = true) ∧
    (∃ (s : State) (y : ℕ), s.ratYard y = true ∧ s.flag (RAT_MSTS y) RAT_MSTS_HALTED = false) ∧
    (∃ (s : State) (x : ℕ), s.ratCore x = true ∧ x < 8 ∧ (s.wst x = wRUN ∨ s.wst x = wWAIT)) ∧
    (∃ (s : State) (x : ℕ), s.ratCore x = true ∧ x < 8 ∧ bit (s.fld RAT_STS RAT_STS_WHALT) x = true ∧ s.wst x = wHALTED) ∧
    (∃ (s : State) (x : ℕ) (u : State) (w : ℕ), u = s.setCore x { s.core x with step := true } ∧ u.wGoes x 2 w ∧ s.ratCore x = true ∧ s.wst x = wHALTED ∧ (s.core x).step = false) ∧
    (∃ (s : State) (x : ℕ), s.ratCore x = true ∧ s.wst x ≠ wHALTED) :=
  ⟨⟨(254), by decide +kernel⟩,
    ⟨(w24 2 id (fl [(RAT_STS, RAT_STS_DENY_CNT, 9)] y1)), by decide +kernel⟩,
    ⟨(w24 3 id y1), (Instr.dbgAccessRead true 0 false 8 0), (true), (0), (false), (8), (0), (0), (0), (.tail _ (.tail _ (.head _))), by decide +kernel⟩,
    ⟨(w24 1 (fun zz => { zz with busy := some (1, 2) }) y1), (Instr.dbgAccessWrite true 0 8 0 5), (true), (0), (false), (8), (0), (5), (0), ((1, 2)), (.tail _ (.tail _ (.head _))), by decide +kernel⟩,
    ⟨(w24 1 id y1), by decide +kernel⟩,
    ⟨(w24 1 id y1), (Instr.dbgAccessWrite false 0 8 1 5), (false), (0), (false), (8), (1), (5), (.inr ⟨by decide, .inr rfl⟩), by decide +kernel⟩,
    ⟨(w24 1 id (rg [(FLT_IRQ, 0x1234)] y1)), (FLT_IRQ), (⟨"FLT_IRQ", 0xD00008, [], 32, 0x20, 0x7FF003F, 0, 0, 0, 0, 0, 0⟩), by decide +kernel⟩,
    ⟨(w24 1 id (fl [(GLB_STATE, GLB_STATE_STATE, 0)] y1)), (FLT_IRQ), by decide +kernel⟩,
    ⟨(w24 2 id y1), (FLT_IRQ), (Instr.dbgAccessWrite false 0 FLT_IRQ 0 5), (false), (5), (.tail _ (.head _)), by decide +kernel⟩,
    ⟨(w24 1 id y1), (RAT_WBRK 7 1), (0x80000005), (by intro c h; cases h), (.inr ⟨7, 1, by decide, by decide, rfl⟩), by decide +kernel⟩,
    ⟨(w24 1 id y1), (0x21FFFFFC), by decide +kernel⟩,
    ⟨(w24 1 (fun zz => { zz with busy := some (1, 2) }) y1), (1), (2), by decide +kernel⟩,
    ⟨(w24 1 id y1), by decide +kernel⟩,
    ⟨(w24 1 id y1), (63), by decide +kernel⟩,
    ⟨(w24 2 id y1), (Instr.ratWchHalt 7 true), (63), (7), (true), (.inr ⟨.head _, by decide +kernel⟩)⟩,
    ⟨(w24h (0x18 * 2 ^ 56 + 5 * 2 ^ 48 + 77)), (1), (3), _, _, rfl, rfl, by decide +kernel⟩,
    ⟨(w24h (2 * 2 ^ 56 + 5)), (1), (3), _, _, rfl, rfl, by decide +kernel⟩,
    ⟨(w24h (2 ^ 56)), (1), (3), _, _, rfl, rfl, by decide +kernel⟩,
    ⟨(w24h (2 ^ 56)), (1), by decide +kernel⟩,
    ⟨(w24 1 id y1), (1), by decide +kernel⟩,
    ⟨(w24 1 id (w12 0 0)), (5), by decide +kernel⟩,
    ⟨(fl [(WCH_CSTS 5, WCH_CSTS_CSTATE, 4), (RAT_STS, RAT_STS_WHALT, 33)] (w24 1 id (w12 0 0))), (5), by decide +kernel⟩,
    ⟨(fl [(WCH_CSTS 5, WCH_CSTS_CSTATE, 4), (RAT_STS, RAT_STS_WHALT, 33)] (w24 1 id (w12 2 (15 * 2 ^ 22 + 2 ^ 21)))), (5), _, (2 * 2 ^ 26 + 15 * 2 ^ 22 + 2 ^ 21), rfl, by unfold State.wGoes; decide +kernel, by decide +kernel⟩,
    ⟨(w24 1 id (w12 0 0)), (5), by decide +kernel⟩⟩

/-- UnimplementedOffsetsReadZeroAndDiscardWrites: a state and operands that meet its hypotheses. -/
theorem witness_UnimplementedOffsetsReadZeroAndDiscardWrites :
    (∃ (s : State) (a : ℕ), ((∀ r, regRow (a / 8 * 8) = some r → r.width = 32)) ∧ s.barUp = true ∧ a % 4 = 0 ∧ regRow a = none ∧ ((a < 0x100 ∨ 0x260 ≤ a)) ∧ ((a < 0x700000 ∨ 0x708100 ≤ a))) :=
  ⟨(y1), (0x260), (by intro r h; rw [show regRow (0x260 / 8 * 8) = none by decide +kernel] at h; cases h), by decide +kernel⟩

/-- A state, or a part of one, of the witnesses. -/
def w99c : Commit := ⟨2, 1, 0, 1, [], 0, []⟩
/-- A state, or a part of one, of the witnesses. -/
def w99n (o : Host.Outcome State Fault Refusal) : State := match o with | .next t => t | _ => up
/-- RegisterAccessesFollowTheirRules: states and operands that meet the hypotheses of each clause. -/
theorem witness_RegisterAccessesFollowTheirRules :
    (∃ (s : State) (a : ℕ) (v : ℕ) (n : ℕ), s.opens a ∧ ((∀ p, p < 8 → a = SHR_PLEN p → s.shrBusy p = false)) ∧ ((n = 4 ∧ a ∈ [FLT_IRQ] ++ (List.range 8).map QM_QD ++ (List.range 8).map SHR_PLEN) ∨ (n = 8 ∧ a ∈ [GLB_LSG_REL, FLT_MARK_REL, IMG_SRC] ++ (List.range 8).map SHR_PSRC)) ∧ v < 2 ^ (8 * n)) ∧
    (∃ (s : State) (p : ℕ), s.opens (SHR_PLEN p) ∧ p < 8 ∧ s.shrBusy p = true) ∧
    (∃ (s : State) (a : ℕ) (r : RegRow) (v : ℕ), s.opens a ∧ regRow a = some r ∧ r.w1c ≠ 0 ∧ r.width = 32 ∧ r.base ≠ BIA_STS 0 ∧ ratOnly r.base = false ∧ ((a < 0x700000 ∨ 0x708000 ≤ a)) ∧ a % 4 = 0 ∧ v < 2 ^ 32) ∧
    (∃ (a : ℕ) (r : RegRow) (n : ℕ), regRow a = some r ∧ ((n = 1 ∨ n = 2 ∨ (n = 4 ∧ r.width = 64))) ∧ ((a < 0x700000 ∨ 0x708000 ≤ a))) ∧
    (∃ (a : ℕ) (r : RegRow), regRow a = some r ∧ r.width = 32 ∧ a % 8 = 0 ∧ ((a < 0x700000 ∨ 0x708000 ≤ a))) ∧
    (∃ (s : State) (y : ℕ) (a : ℕ) (v : ℕ), s.opens a ∧ y < 64 ∧ a ∈ [SEQ_CTL y, SEQ_ENTRY y, SEQ_RST_ENTRY y, SEQ_PROG_LEN y] ∧ s.yIdle y = true ∧ v < 2 ^ 32) ∧
    (∃ (s : State) (y : ℕ) (i : ℕ) (v : ℕ), s.opens (SEQ_G y i) ∧ y < 64 ∧ i < 32 ∧ (s.yIdle y = true ∨ s.ygst y = gPAUSED) ∧ v < 2 ^ 64) ∧
    (∃ (s : State) (y : ℕ) (a : ℕ) (n : ℕ), s.opens a ∧ ((n = 4 ∧ a ∈ [SEQ_CTL y, SEQ_ENTRY y, SEQ_RST_ENTRY y, SEQ_PROG_LEN y]) ∨ (n = 8 ∧ s.ygst y ≠ gPAUSED ∧ ∃ i, i < 32 ∧ a = SEQ_G y i)) ∧ y < 64 ∧ s.yIdle y = false) ∧
    (∃ (s : State) (a : ℕ) (r : RegRow), s.barUp = true ∧ s.pageBusy a = true ∧ regRow a = some r ∧ r.width = 32 ∧ a % 4 = 0 ∧ ((a < 0x700000 ∨ 0x708000 ≤ a))) ∧
    (∃ (s : State) (a : ℕ) (r : RegRow) (p : ℕ), s.barUp = true ∧ s.pageBusy a = false ∧ s.sealedBy a = some p ∧ p < 16 ∧ regRow a = some r ∧ r.width = 32 ∧ a % 4 = 0 ∧ (a < 0x700000 ∨ (0x708000 ≤ a ∧ a < 2 ^ 40))) ∧
    (∃ (s : State) (i : Instr) (a : ℕ) (v : ℕ) (n : ℕ) (host : List (BitVec 8)), i ∈ [Instr.regWrite a v n host, .regReadClear a n] ∧ s.barUp = false) ∧
    (∃ (s : State) (a : ℕ) (r : RegRow), s.barUp = true ∧ regRow a = some r ∧ ((r.width = 32 ∨ r.width = 64)) ∧ a % (r.width / 8) = 0) ∧
    (∃ (s : State) (a : ℕ) (r : RegRow) (n : ℕ), s.barUp = true ∧ regRow a = some r ∧ (r.width = 32 ∨ r.width = 64) ∧ a % (r.width / 8) = 0 ∧ ((n = 1 ∨ n = 2 ∨ (n = 4 ∧ r.width = 64)))) ∧
    (∃ (s : State) (a : ℕ) (p : ℕ), s.sealedBy a = some p) :=
  ⟨⟨(y1), (SHR_PLEN 7), (0xFFFFFFFF), (4), by unfold State.opens; decide +kernel, (by decide +kernel), by decide +kernel⟩,
    ⟨({ y1 with shr := { y1.shr with parts := [(7, { (default : ShrPart) with job := some ⟨2, []⟩ })] } }), (7), by unfold State.opens; decide +kernel, by decide +kernel⟩,
    ⟨(fl [(FLT_STS, (0, 2), 3)] y1), (FLT_STS), (⟨"FLT_STS", 0xD00000, [], 32, 0, 0, 3, 0, 0, 0, 0, 0⟩), (1), by unfold State.opens; decide +kernel, by decide +kernel⟩,
    ⟨(FLT_IRQ), (⟨"FLT_IRQ", 0xD00008, [], 32, 0x20, 0x7FF003F, 0, 0, 0, 0, 0, 0⟩), (2), by decide +kernel⟩,
    ⟨(FLT_IRQ), (⟨"FLT_IRQ", 0xD00008, [], 32, 0x20, 0x7FF003F, 0, 0, 0, 0, 0, 0⟩), by decide +kernel⟩,
    ⟨(y1), (63), (SEQ_PROG_LEN 63), (0xFFFFFFFF), by unfold State.opens; decide +kernel, by decide +kernel⟩,
    ⟨(fl [(GLB_LSG_STAT 3, GLB_LSG_STAT_GSTATE, 4)] y1), (1), (31), (2 ^ 64 - 1), by unfold State.opens; decide +kernel, by decide +kernel⟩,
    ⟨(fl [(GLB_LSG_STAT 3, GLB_LSG_STAT_GSTATE, 2)] y1), (1), (SEQ_G 1 31), (8), by unfold State.opens; decide +kernel, (.inr ⟨rfl, by decide +kernel, 31, by decide, rfl⟩), by decide +kernel⟩,
    ⟨({ y1 with img := { y1.img with commit := some w99c } }), (SEQ_CTL 1), ((regRow (SEQ_CTL 1)).get rfl), by decide +kernel⟩,
    ⟨(fl [(SHR_PSTS 0, SHR_PSTS_PSTATE, 3)] y1), (SEQ_CTL 1), ((regRow (SEQ_CTL 1)).get rfl), (0), by decide +kernel⟩,
    ⟨(fl [(GLB_STATE, GLB_STATE_STATE, 0)] y1), (Instr.regReadClear FLT_IRQ 4), (FLT_IRQ), (1), (4), ([]), (.tail _ (.head _)), by decide +kernel⟩,
    ⟨(fl [(RAT_STS, RAT_STS_DENY_CNT, 9)] y1), (GLB_LSG_REL), ((regRow GLB_LSG_REL).get rfl), by decide +kernel⟩,
    ⟨(y1), (GLB_LSG_REL + 0), ((regRow GLB_LSG_REL).get rfl), (4), by decide +kernel⟩,
    ⟨(fl [(SHR_PSTS 0, SHR_PSTS_PSTATE, 3)] y1), (SEQ_CTL 1), (0), by decide +kernel⟩⟩

/-- StepRunsTheCommandAtTheFront: a state and operands that meet its hypotheses. -/
theorem witness_StepRunsTheCommandAtTheFront :
    (∃ (s : State), s.pending = [] ∧ s.dev = dOFF ∧ s.pwr.glbAt = none) :=
  ⟨({ State.reset with regs := (State.reset.setDev dOFF).regs }), by decide +kernel⟩

/-- EveryStepTakesTheQueueInOrder: a state and operands that meet its hypotheses. -/
theorem witness_EveryStepTakesTheQueueInOrder :
    (∃ (s : State) (t : State), step s = .next t) :=
  ⟨({ up with pending := [.refclkReturn, .refclkReturn] }), (w99n (step { up with pending := [.refclkReturn, .refclkReturn] })), (rfl)⟩

/-- EveryStepKeepsRegistersAndStoresCanonical: a state and operands that meet its hypotheses. -/
theorem witness_EveryStepKeepsRegistersAndStoresCanonical :
    (∃ (s : State) (t : State), step s = .next t ∧ s.regsWf = true ∧ s.storesWf = true) :=
  ⟨({ up with pending := [.refclkReturn, .refclkReturn] }), (w99n (step { up with pending := [.refclkReturn, .refclkReturn] })), (rfl), by decide +kernel⟩

/-! ### Worked examples and tables of the spec -/

/-- Worked example of spec/03: instruction 3 of Table 3-13, WAITD SLOT 301, ST 0b01, DEF 0b00, LQD 0, TIMEOUT 640, TARGET 5. -/
theorem test_waitd_encoding :
    mop 0x0A4B440002800005 = .waitd ∧ bits 0x0A4B440002800005 55 46 = 301 ∧ bits 0x0A4B440002800005 45 44 = 0
      ∧ bits 0x0A4B440002800005 43 42 = 1 ∧ bits 0x0A4B440002800005 41 41 = 0 ∧ bits 0x0A4B440002800005 39 16 = 640
      ∧ bits 0x0A4B440002800005 14 0 = 5 := by decide

/-- Table 6-12 of spec/06: PLAY TGT 2, SRC 0b01, ID 7, ADV 1, AMP 0x7FFF. -/
theorem test_play_encoding :
    mop 0x101200F07FFF0000 = .play ∧ (mFields .play).map (fun f => bits 0x101200F07FFF0000 f.1 f.2) = [2, 1, 7, 1, 0x7FFF] := by decide

/-- Table 6-12 of spec/06: FRAME TONE 2, FOP 0b000, VALUE 0x00_4000_0000. -/
theorem test_frame_encoding :
    mop 0x1220000040000000 = .frame ∧ bits 0x1220000040000000 55 52 = 2 ∧ bits 0x1220000040000000 51 49 = 0
      ∧ bits 0x1220000040000000 39 0 = 0x40000000 := by decide

/-- The descriptor of Table 6-11 (spec/06). -/
def drag : List Nat := [0x18000000, 0x00200800, 0x00333333, 0x000000E7, 0, 0, 0, 0]

/-- Stage 1 of sample `k` of the DRAG pulse of Table 6-13 at AMP 0x7FFF and GAIN 1.0, in units of 10⁻⁴. -/
def dragOut (k th : Nat) : Int × Int :=
  let b := stage1 ((prmExact drag k).1 / 2 ^ 96, (prmExact drag k).2 / 2 ^ 96) 0x7FFF 0x8000 th false false
  ((b.1 * 10000 + 2 ^ 22) / 2 ^ 23, (b.2 * 10000 + 2 ^ 22) / 2 ^ 23)

/-- Table 6-13, first pulse: samples 0, 8, 15 and 24. -/
theorem test_drag_samples :
    prmCheck drag = 0 ∧ [0, 8, 15, 24].map (fun k => dragOut k 0) = [(82, 155), (2355, 315), (3991, 33), (2005, -315)] := by decide +kernel

/-- Table 6-13, second pulse: a frame of a quarter turn maps (I, Q) to (−Q, I). -/
theorem test_drag_samples_turned :
    [0, 8, 15, 24].map (fun k => dragOut k (2 ^ 30)) = [(-155, 82), (-315, 2355), (-33, 3991), (315, 2005)] := by decide +kernel

/-- Addresses that the worked examples of spec/07 (Y26, F2), spec/10 (Y10, discriminator 6) and spec/17 (Y42, D1) state. -/
theorem test_register_addresses :
    FLX_CFG 26 2 = 0x1682A00 ∧ FLX_GAIN 26 2 = 0x1682A04 ∧ FLX_IIR_K 26 2 0 = 0x1682A20 ∧ FLX_IIR_L 26 2 0 = 0x1682A24
      ∧ DSC_CFG 10 6 = 0x1284A00 ∧ TON_GAIN 42 1 = 0x1A8204C ∧ HAL_JUMP 0 17 = 0x10008C4 := by decide

/-- Table 0-6 of spec/00: the arm checks of segments in quadrant 2, with every page of the store owned by the yard. -/
theorem test_segment_arm_checks :
    let s := own 10 1 33 1024 512 up
    s.segArmCheck 33 0 0x40000 1 = 0 ∧ s.segArmCheck 33 8 0x40000 1 = 0x0512 ∧ s.segArmCheck 33 1048576 0x20000 1 = 0
      ∧ s.segArmCheck 33 0 0xFFFFF 1 = 0x0512 ∧ s.segArmCheck 33 0 0 1 = E_HAL_ZERO_LEN := by decide +kernel

/-- The code of sample `n` of F2 in the worked example of spec/07: 96 samples of I = 0x26_6666, then zeros. -/
def flux26 (n : Nat) : Int :=
  let x (i : Nat) : Int := if i < 96 then fluxStage1 0x266666 0x7FFF 0x8000 else 0
  fluxCode (iirStep 0xFCF3CE 0x04D47D ((List.range n).foldl (fun z i => (iirStep 0xFCF3CE 0x04D47D z (x i)).1) 0) (x n)).2

/-- Table 7-10 of spec/07. -/
theorem test_flux_predistortion : [0, 9, 49, 95, 96, 148].map flux26 = [9370, 9443, 9649, 9754, 385, 143] := by decide +kernel

/-- The coefficients of discriminator 6 of Y10 (Table 10-10 of spec/10). -/
def d6 : State := ac [(DSC_A 10 6 0, 0x140000), (DSC_B 10 6 0, 0x050000), (DSC_C 10 6 0, 0xFDE000),
  (DSC_A 10 6 1, 0x080000), (DSC_B 10 6 1, 0x150000), (DSC_C 10 6 1, 0xFD799A)] up

/-- Worked example of spec/10: at checkpoint 14, f = 0.7, the score (0.054, 0.146) gives state 1 with M = 1.408, below 1.5. -/
theorem test_checkpoint_14_margin :
    (d6.decide_ 10 6 0 (452985, 1224737) 0x599A).1 = 1 ∧ (d6.decide_ 10 6 0 (452985, 1224737) 0x599A).2 < thr 0x18000
      ∧ thr 0x16800 < (d6.decide_ 10 6 0 (452985, 1224737) 0x599A).2 := by decide +kernel

/-- Worked example of spec/10: at checkpoint 15, f = 0.75, the score (0.055, 0.163) gives M = 1.648, and decision 0x0D follows. -/
theorem test_checkpoint_15_margin :
    (d6.decide_ 10 6 0 (461373, 1367343) 0x6000).1 = 1 ∧ thr 0x18000 < (d6.decide_ 10 6 0 (461373, 1367343) 0x6000).2
      ∧ decWord 1 true false false = 0x0D := by decide +kernel

/-- Worked example of spec/11: V = ceil(120 × 16 / (3 × 4)) = 160 ft with WIN 4 and 4 lanes. -/
theorem test_decode_time : decTime 120 4 4 0 = 160 := by decide

/-- Core 5 about to run LD D1, P2 with a step, with B2 = 0x4000 and the given P2 and L2; 0x400A, 0x4003 and 0x4004 hold 1, 2, 3. -/
def ring (p l step : Nat) : State :=
  win 5 0x400A 1 (win 5 0x4003 2 (win 5 0x4004 3 (rg [(WCH_REG 5 26, p), (WCH_REG 5 34, 0x4000), (WCH_REG 5 42, l)]
    (w12 9 (2 ^ 22 + 2 * 2 ^ 19 + step * 2 ^ 11)))))

/-- What stands in D1 and P2 after one LD. -/
def ringLd (s : State) : Nat × Nat := match exec (.ld 5) s with | .next t => (t.wD 5 1, t.rdN (WCH_REG 5 26)) | _ => (0, 0)

/-- Table 12-11 of spec/12, row 1: P2 = 10 of 12 reads 0x400A and moves to 11. -/
theorem test_ring_read : ringLd (ring 10 12 1) = (1, 11) := by decide +kernel

/-- Table 12-11, row 3: with L2 = 8, P2 = 11 is taken as 3, reads 0x4003 and moves to 4. -/
theorem test_ring_clamp : ringLd (ring 11 8 1) = (2, 4) := by decide +kernel

/-- Table 12-11, row 4: P2 = 4 reads 0x4004, and (4 − 5) mod 8 = 7. -/
theorem test_ring_back : ringLd (ring 4 8 0xFB) = (3, 7) := by decide +kernel

/-- Worked example of spec/13: PRE 1,024 and POST 7,168 on a read-out ADC make slots of 12,352 bytes. -/
theorem test_capture_slot : (fl [(CNS_TAP 2, CNS_TAP_KIND, 1), (CNS_PRE 2, CNS_PRE_COUNT, 1024), (CNS_POST 2, CNS_POST_COUNT, 7168)] up).cSlot 2 = 12352 := by
  decide +kernel

/-- Worked example of spec/17: a host write of TON_GAIN[1] of Y42, in sealed P-3, shows in SHR_DENY as OFFSET 0x1A8_204C, PART 3, CODE 0x1210. -/
theorem test_sealed_write_is_denied :
    (match exec (.regWrite 0x1A8204C 0x4000 4 []) (yd 42 14 3 (fl [(SHR_PSTS 3, SHR_PSTS_PSTATE, 4)] up)) with
      | .next t => t.rdN SHR_DENY | _ => 0) = 0x1A8204C * 2 ^ 24 + 3 * 2 ^ 16 + 0x1210 := by decide +kernel

/-- Worked example of spec/17: 200 records wait and SHR_PDLEN = 65,536 leaves room for 1,020, so 200 are exported. -/
theorem test_export_takes_what_waits :
    ((fl [(SHR_PDLEN 3, SHR_PDLEN_LEN, 65536), (SHR_PQID 3, SHR_PQID_QID, 0x20300)] up).setQue 0x20300
      { (default : Que) with desc := [0, 0, 0, 0, 256, 3, 0, 0], cons := 300, prod := 500 }).exportCount 3 = 200 := by decide +kernel

/-- Worked example of spec/18: slice 3 of ADC 12 fails its step; it is retired: TRIM_SPARE TOTAL 2, RETIRED 1, FREE 1, HEALTH SPARED. -/
theorem test_trim_retires_a_slice :
    (match exec (.trimBgStepEnd 0x1AC false) { up with trim := { up.trim with convs := [(0x1AC, ⟨some
        ⟨(List.range 16).map fun n => (if n = 3 then 16 else n, 9), [(3, 0), (17, 1)], []⟩, none, true⟩)] } } with
      | .next t => (t.fld (TRIM_SPARE 0x1AC) TRIM_SPARE_RETIRED, t.fld (TRIM_SPARE 0x1AC) TRIM_SPARE_FREE, (t.elems 0x1AC).retired,
          t.fld (TRIM_CSTS 0x1AC) TRIM_CSTS_HEALTH) | _ => (0, 0, [], 0)) = (1, 1, [3], 1) := by decide +kernel

/-- Worked example of spec/19: sensor 27 converts as −55 °C and fails; it and zone 13 read 107.0 °C. -/
theorem test_failed_sensor_reads_107 :
    (match exec (.reefSensorConversion 27 (-55 * 64)) (rg [(REEF_SENS 26, 97 * 64)] up) with
      | .next t => (t.sensT 27, t.zoneT 13) | _ => (0, 0)) = (107 * 64, 107 * 64) := by decide +kernel

/-- Worked example of spec/19: at 96.1 °C the level does not fall from 3 to 2, and at 95.9 °C it does. -/
theorem test_level_three_holds_at_96 :
    (match exec .tlevelChange (fl [(REEF_STS, REEF_STS_TLEVEL, 3), (REEF_ZONE 13, REEF_ZONE_TEMP, 6150)] up) with
      | .next t => t.fld REEF_STS REEF_STS_TLEVEL | _ => 0) = 3
    ∧ (match exec .tlevelChange (fl [(REEF_STS, REEF_STS_TLEVEL, 3), (REEF_ZONE 13, REEF_ZONE_TEMP, 6138)] up) with
      | .next t => t.fld REEF_STS REEF_STS_TLEVEL | _ => 0) = 2 := by decide +kernel

/-- spec/24, Table 24-1: the IDCODE register. -/
theorem test_idcode :
    (match exec .tapIdcode up with | .next t => t.rat.dr | _ => 0) = 0x1A512B4B := by decide +kernel

/-- spec/opcode_table.json gives no row any bits: no word spells a command. -/
theorem test_no_word_spells_a_command : decodeTableWord 32 0 = none ∧ decodeTableWord 64 0x101200F07FFF0000 = none := by decide

/-! ### Well-formedness -/


/-- Channel 2 of Y52 with the frequency word of the worked example of spec/09, in a ZONE of ADC 26. -/
def d52 (zone : Nat) : State := ac [(DEM_FREQ 52 2, 0x5A30553261)] (fl [(CNV_CFG 3 2, CNV_CFG_ZONE, zone)] up)

/-- Worked example of spec/09: 7.046 GHz lies in the band of ZONE 1 and not in that of ZONE 0 (R295). -/
theorem test_zone_miss : (d52 1).zoneMiss 52 2 = false ∧ (d52 0).zoneMiss 52 2 = true := by decide +kernel

/-- Worked example of spec/09: the NCO advances 0.7046 turn per ADC sample (rounded). -/
theorem test_mixer_phase : ((d52 1).mixPhase 52 2 2 * 10000 + 2 ^ 19) / 2 ^ 20 = 7046 := by decide +kernel

/-- R297: with all weight on the centre tap, here a quarter, the output is a quarter of the input 32 samples before the newest. -/
theorem test_decimator_delay :
    firRaw ((List.range 33).map fun i => if i = 32 then 2 ^ 15 else 0) ((List.range 65).map fun (i : Nat) => (i * 1000 : Int)) = 8000 := by decide +kernel

/-- R201: 2^17 in s1.17 is full scale, 8,192 in the 14-bit code, which saturates at 8,191; OUT_SHIFT 1 halves it. -/
theorem test_summer : summer [65536, 65536] 0 = 8191 ∧ summer [65536, 65536] 1 = 4096 ∧ summer [-65536, -65536, -1] 0 = -8191 := by decide

/-- Table 22-10 of spec/22. -/
theorem test_balls_of_y37 :
    ballAt 74 45 = .pos (.txd 37) ∧ ballAt 72 44 = .neg (.rxa 18) ∧ ballAt 70 45 = .pos (.monin 9) ∧ ballAt 66 45 = .pos (.flx 151)
      ∧ ballAt 65 44 = .sig (.biasRtn 37) ∧ ballAt 64 45 = .pos (.mrk 37) ∧ ballAt 72 48 = .pos (.txp 18) ∧ stripAt 37 5 1 = (70, 45)
      ∧ rowName 70 = "CN" := by decide

/-- Worked example of spec/22: lane 1 of L4, and balls AB31 and AB30. -/
theorem test_balls_of_l4 :
    ballAt 71 71 = .pos (.ozTx 4 1) ∧ ballAt 70 70 = .neg (.ozRx 4 1) ∧ rowName 71 = "CP" ∧ rowName 21 = "AB"
      ∧ ballAt 21 31 = .rail .core ∧ ballAt 21 30 = .vss := by decide

/-- Table 22-7 of spec/22: balls of VSS, RSVD, VDD_CORE and VDD_RF. -/
theorem test_ball_counts :
    let bs := (List.range 74).flatMap fun r => (List.range 74).map fun c => ballAt (r + 1) (c + 1)
    bs.count .vss = 2847 ∧ bs.count .rsvd = 40 ∧ bs.count (.rail .core) = 722 ∧ bs.count (.rail .rf) = 184 := by decide +kernel
/-- Commands with one number out of its range: well-formedness refuses each. -/
theorem test_ill_formed_1 : ([.regWrite 67108864 0 0 [], .regWrite 0 18446744073709551616 0 [], .regWrite 0 0 513 [], .itemArrival 65536, .itemRelease 73, .islandHang 73 0 0, .islandHang 64 73 0, .islandHang 64 0 8, .islandHang 0 0 0, .lsgArm 64 false, .lsgStart 64 false, .lsgPause 64 false, .lsgResume 64 false, .lsgAbort 64 false, .lsgDisarm 64 false, .armRelease 64, .startRelease 64, .pauseRelease 64, .resumeRelease 64, .abortRelease 64, .disarmRelease 64, .shotStart 64, .shotEndSignal 64, .replayStart 64, .mastStopComplete 64, .issueStallEnd 64, .nop 64 0, .nop 0 5, .end_ 64, .wait 64, .syncGroup 64, .syncTrig 64, .syncAlign 64, .syncSatisfied 64, .syncTimeout 64, .fence 64, .fenceComplete 64, .commit 64, .br 64, .brc 64, .waitd 64, .waitdResolve 64, .waitdDeadline 64, .loop 64, .play 64, .acq 64, .frame 64, .bias 64, .mark 64, .setr 64, .movi 64, .alu 64, .ldd 64, .lddResolve 64, .gets 64, .result 64, .ucLoad 64, .ucHeaderArrival 64 [], .ucBodyComplete 64 [] false 0, .ucBodyComplete 0 [] false 3] : List Instr).all (fun i => !i.wf) = true := by decide +kernel

/-- Commands with one number out of its range: well-formedness refuses each. -/
theorem test_ill_formed_2 : ([.ucRomOnly 64, .ucVerify ⟨64, 0⟩, .halSegIdxWrite 64 0, .halSegIdxWrite 0 18446744073709551616, .halSegFree 64, .halSegArm 64, .storeSampleWrite 4 0 0, .storeSampleWrite 0 2097152 0, .storeSampleWrite 0 0 18446744073709551616, .bar2Write 274877906944 [], .playCapture 64 0 none, .playCapture 0 20 none, .segBoundary 64 0 none, .segBoundary 0 20 none, .halJumpWrite 64 0 0, .halJumpWrite 0 20 0, .halJumpWrite 0 0 18446744073709551616, .strStart 64 0 0, .strStart 0 2 0, .strStart 0 0 18446744073709551616, .strStop 64 0 0, .strStop 0 2 0, .strStop 0 0 18446744073709551616, .strBlockAvailable 64 0, .strBlockAvailable 0 2, .streamBlockAddress 64 0, .streamBlockAddress 0 20, .markerEdge 64, .markerRunExitLow 64, .pfCorrection 64, .shadowWrite 64 0 0, .shadowWrite 0 262144 0, .shadowWrite 0 0 18446744073709551616, .tonShdCtlWrite 64 0, .tonShdCtlWrite 0 18446744073709551616, .tonHoCmd 64 0, .tonHoCmd 0 16, .handover 64, .biaCodeWrite 64 0, .biaCodeWrite 0 18446744073709551616, .biasCompliance 64, .biasOpen 64, .biasLoadNormal 64, .biasLatchRelease 64, .cnvCfgWrite 32 0 0, .cnvCfgWrite 0 3 0, .cnvCfgWrite 0 0 18446744073709551616, .settlingEnd 48, .cnvAcqArm 64 0 0, .cnvAcqArm 0 8 0, .cnvAcqArm 0 0 18446744073709551616, .cnvAcqDisarm 64 0 0, .cnvAcqDisarm 0 8 0, .cnvAcqDisarm 0 0 18446744073709551616, .acqTimerStart 64 0, .acqTimerStart 0 8, .acqTrigStart 64 0, .acqTrigStart 0 8, .acqWindowEnd 64 0 [], .acqWindowEnd 0 8 []] : List Instr).all (fun i => !i.wf) = true := by decide +kernel

/-- Commands with one number out of its range: well-formedness refuses each. -/
theorem test_ill_formed_3 : ([.monWordBoundary 16 0 false 0 false, .monWordBoundary 0 16777216 false 0 false, .monWordBoundary 0 0 false 16777216 false, .monScanEnable 16 0, .monScanEnable 0 18446744073709551616, .monScanDisable 16 0, .monScanDisable 0 18446744073709551616, .monInj 16 0, .monInj 0 18446744073709551616, .monXchkEnable 16 0, .monXchkEnable 0 18446744073709551616, .monCalRequest 16, .monCalEnd 16, .ringStart 48 0, .ringStart 0 18446744073709551616, .ringStop 48 0, .ringStop 0 18446744073709551616, .ringRpWrite 48 0, .ringRpWrite 0 18446744073709551616, .demCtlWrite 64 0 0, .demCtlWrite 0 8 0, .demCtlWrite 0 0 18446744073709551616, .demSettlingEnd 64 0, .demSettlingEnd 0 8, .kernelWeightWrite 64 0 0 0 0, .kernelWeightWrite 0 8 0 0 0, .kernelWeightWrite 0 0 2 0 0, .kernelWeightWrite 0 0 0 513 0, .kernelWeightWrite 0 0 0 0 18446744073709551616, .kernelFadeEnd 64 0, .kernelFadeEnd 0 8, .checkpointEval 64 0 [], .checkpointEval 0 8 [], .finalScoreEval 64 0 [], .finalScoreEval 0 8 [], .dscCfgWrite 64 0 0, .dscCfgWrite 0 8 0, .dscCfgWrite 0 0 18446744073709551616, .sheetEntry 64 0, .sheetEntry 0 8, .slotRelease 1024 [], .fwdCopyArrival 6 0 0 0 false, .fwdCopyArrival 0 1024 0 0 false, .fwdCopyArrival 0 0 2048 0 false, .fwdCopyArrival 0 0 0 18446744073709551616 false, .shtTapWrite 4096 0, .shtTapWrite 0 18446744073709551616, .shtImapWrite 6 0 0, .shtImapWrite 0 1024 0, .shtImapWrite 0 0 18446744073709551616, .decEnable 8 false, .decDisable 8, .detectorArrival 2048, .roundClose 8, .roundDeadline 8, .roundClockClose 8, .decodeStart 8 false, .boundaryPass 8, .boundaryMsgArrival 8 0 none, .boundaryMsgArrival 0 6 none] : List Instr).all (fun i => !i.wf) = true := by decide +kernel

/-- Commands with one number out of its range: well-formedness refuses each. -/
theorem test_ill_formed_4 : ([.frameItemSend 8, .logicalRecord 8, .decFlushComplete 8, .wchRunStart 8, .wchRunStop 8, .wchHaltSet 8, .wchHaltClear 8, .wchModeWrite 8 0, .wchModeWrite 0 2, .wchDoorbell 8, .wchInterruptEntry 8, .wchNop 8 0, .wchNop 0 5, .wchMov 8, .wchMovi 8, .wchMovs 8, .wchAlu 8, .mac 8, .macp 8, .accx 8, .divs 8, .ld 8, .st 8, .mts 8, .mfs 8, .wchLoop 8, .wchBr 8, .jl 8, .jr 8, .gett 8, .emit 8, .xfer 8, .xferComplete 8 0, .xferComplete 0 8, .wchFence 8, .waiti 8, .reti 8, .halt 8, .svcResSpec 8 [], .svcRabi 8 [], .svcRamsey 8 [], .svcDrag 8 [], .svcKtrain 8 [], .svcFluxid 8 [], .svcStats 8 [], .svcHist 8 [], .svcMoninj 8 [], .svcComplete 8 false 0 [] [] [], .svcComplete 0 false 4294967296 [] [] [], .cnsArm 16 0, .cnsArm 0 18446744073709551616, .cnsDisarm 16 0, .cnsDisarm 0 18446744073709551616, .cnsForce 16, .cnsTrigger 16 0 0 [], .cnsTrigger 0 8 0 [], .cnsTrigger 0 0 18446744073709551616 [], .cnsRecordEnd 16 [] [] false, .cnsHoldoffEnd 16, .cnsChunkWrite 16 [] 0 false] : List Instr).all (fun i => !i.wf) = true := by decide +kernel

/-- Commands with one number out of its range: well-formedness refuses each. -/
theorem test_ill_formed_5 : ([.cnsChunkWrite 0 [] 4294967296 false, .cnsRpWrite 16 0, .cnsRpWrite 0 18446744073709551616, .frlStart 4 0, .frlStart 0 18446744073709551616, .frlResume 4 0, .frlResume 0 18446744073709551616, .frlAbort 4, .frlClear 4 0, .frlClear 0 4, .frlBlockEnd 4 [] [] false false 0, .frlBlockEnd 0 [] [] false false 5, .frlOutFull 4, .frlJobEnd 4, .syncinEdge 128, .staySrcWrite 256, .ptpAnnounceRx 256 [] 0, .ptpAnnounceRx 0 [] 256, .tbnSetAtWrite 8 0, .tbnSetAtWrite 0 18446744073709551616, .tbnSetApply 8, .linkTimeTx 6, .linkTimeRx 6, .timerArm 128 0, .timerArm 0 18446744073709551616, .timerFix 128, .timerFire 128, .syncoutTimer 128, .ozlEnable 6 false 0, .ozlEnable 0 false 8, .ozlRetrain 6, .trainBlockRx 6 0 0 false, .trainBlockRx 0 4 0 false, .trainBlockRx 0 0 18446744073709551616 false, .trainPhaseDone 6, .trainRateTimeout 6 0, .trainRateTimeout 0 16, .ozlDetectRetry 6 0, .ozlDetectRetry 0 4, .amRx 6 0 0 0 false, .amRx 0 4 0 0 false, .amRx 0 0 18446744073709551616 0 false, .amRx 0 0 0 256 false, .rsRx 6 0, .rsRx 0 18446744073709551616, .laneLost 6 0, .laneLost 0 4, .dataFlitRx 6 0, .dataFlitRx 0 115792089237316195423570985008687907853269984665640564039457584007913129639936, .nakRx 6 0, .nakRx 0 115792089237316195423570985008687907853269984665640564039457584007913129639936, .idleFlitRx 6 0, .idleFlitRx 0 115792089237316195423570985008687907853269984665640564039457584007913129639936, .timeFlitRx 6 0 0, .timeFlitRx 0 115792089237316195423570985008687907853269984665640564039457584007913129639936 0, .timeFlitRx 0 0 18446744073709551616, .timeTb0FlitRx 6 0, .timeTb0FlitRx 0 115792089237316195423570985008687907853269984665640564039457584007913129639936, .laneDownRx 6 0, .laneDownRx 0 115792089237316195423570985008687907853269984665640564039457584007913129639936] : List Instr).all (fun i => !i.wf) = true := by decide +kernel

/-- Commands with one number out of its range: well-formedness refuses each. -/
theorem test_ill_formed_6 : ([.laneReadyRx 6 0, .laneReadyRx 0 115792089237316195423570985008687907853269984665640564039457584007913129639936, .lsEnterRx 6 0, .lsEnterRx 0 115792089237316195423570985008687907853269984665640564039457584007913129639936, .lsAckRx 6 0, .lsAckRx 0 115792089237316195423570985008687907853269984665640564039457584007913129639936, .ackTimeout 6, .recoveryTimeout 6, .traceCreditTimeout 6, .fbQueueStale 6, .laneRetrainDone 6 0, .laneRetrainDone 0 4, .ozlPmRequest 6 0, .ozlPmRequest 0 4, .lsAutoIdle 6, .lsExitComplete 6, .ozlPark 6 0 false, .ozlPark 0 4 false, .ozlPrbsCtl 6 0 0, .ozlPrbsCtl 0 4 0, .ozlPrbsCtl 0 0 18446744073709551616, .ozlPrbsInj 6 0, .ozlPrbsInj 0 4, .ozlLoopback 6 0, .ozlLoopback 0 4, .ozlFlitInj 6, .queueDoorbell 262144 0 0, .queueDoorbell 0 513 0, .queueDoorbell 0 0 18446744073709551616, .qmFenceDoorbell 262144 0 0, .qmFenceDoorbell 0 513 0, .qmFenceDoorbell 0 0 18446744073709551616, .fenceRecordPlace 262144, .qmQidxWrite 18446744073709551616, .queueDrained 262144, .descFetch 262144 [] false, .dmaCopy 262144 0 [], .dmaCopy 0 4294967296 [], .dmaFence 262144 0, .dmaFence 0 4294967296, .dmaRqcopy 262144 0, .dmaRqcopy 0 4294967296, .rqcopyBurst 262144 0, .rqcopyBurst 0 4294967296, .descComplete 262144 0, .descComplete 0 4294967296, .dmaReadFail 262144 0, .dmaReadFail 0 4294967296, .resultEntry 262144, .irqTimer 262144, .qmYqidWrite 64 0, .qmYqidWrite 0 18446744073709551616, .postedHdrRx 6 0 0 0, .postedHdrRx 0 8 0 0, .postedHdrRx 0 0 411376139330301510538742295639337626245683966408394965837152256 0, .postedHdrRx 0 0 0 8, .postedDataRx 6 0 0, .postedDataRx 0 8 0, .postedDataRx 0 0 411376139330301510538742295639337626245683966408394965837152256, .postedNackRx 6 0] : List Instr).all (fun i => !i.wf) = true := by decide +kernel

/-- Commands with one number out of its range: well-formedness refuses each. -/
theorem test_ill_formed_7 : ([.postedNackRx 0 411376139330301510538742295639337626245683966408394965837152256, .resultFlitRx 6 0, .resultFlitRx 0 411376139330301510538742295639337626245683966408394965837152256, .spdmGetCertificate 256 0 0, .spdmGetCertificate 0 65536 0, .spdmGetCertificate 0 0 65536, .spdmChallenge 256 [], .spdmGetMeasurements 256 [], .shrSeal 8, .sealComplete 8, .shrStatement 8, .shrKeyImport 8 [], .shrImport 8 [], .shrExport 8, .shrRelease 8 [], .zeroiseComplete 8, .dbgSubmit 4, .dbgScrap 4, .trimFg 512, .trimBgNow 512, .trimFgEnd 464 [], .trimBgStepEnd 464 false, .trimApply 464, .reefSensorConversion 48 0, .reefPlimWrite 18446744073709551616, .sensRetest 64 false [], .fltLogRpWrite 18446744073709551616, .fltMark 64, .fltMarkRelease 64, .fltTrigCfgWrite 16 0, .fltTrigCfgWrite 0 18446744073709551616, .trigLevelChange 16 false, .trigEdgeAccept 16, .trigEdgeDelivery 16, .powerGood 65536, .glbReset 18446744073709551616, .bootStageComplete ⟨256, []⟩ [] [] [] [], .smbZoneTemp 24, .smbRail 16, .tapBypass 256, .dbgAccessNop 4, .dbgAccessRead false 2 false 0 0, .dbgAccessRead false 0 false 1099511627776 0, .dbgAccessRead false 0 false 0 524288, .dbgAccessWrite false 2 0 0 0, .dbgAccessWrite false 0 1099511627776 0 0, .dbgAccessWrite false 0 0 524288 0, .dbgAccessWrite false 0 0 0 18446744073709551616, .ratMastHalt 64, .ratMastStep 64, .ratMastRelease 64, .ratWchHalt 8 false, .ratWchStep 8, .regReadClear 67108864 0, .regReadClear 0 513, .biasSlewEnd 64, .playEnd 64 0, .playEnd 0 20, .shrJobEnd 8, .pcieLinkUp 8 0 false] : List Instr).all (fun i => !i.wf) = true := by decide +kernel

/-- Commands with one number out of its range: well-formedness refuses each. -/
theorem test_ill_formed_8 : ([.pcieLinkUp 0 32 false, .ucVerify ⟨0, 3⟩] : List Instr).all (fun i => !i.wf) = true := by decide +kernel

/-- Numbers at 0 are in range. -/
theorem test_well_formed : ([.regWrite 0 0 0 [], .lsgPause 0 false, .pauseRelease 0, .replayStart 0, .syncGroup 0, .fenceComplete 0, .waitdDeadline 0, .mark 0, .gets 0, .ucVerify ⟨0, 0⟩, .playCapture 0 0 none, .streamBlockAddress 0 0, .tonHoCmd 0 0, .biasLatchRelease 0, .acqTrigStart 0 0, .monXchkEnable 0 0, .demCtlWrite 0 0 0, .dscCfgWrite 0 0 0, .decEnable 0 false, .decodeStart 0 false, .wchRunStart 0, .wchInterruptEntry 0, .mac 0, .mts 0, .gett 0, .reti 0, .svcKtrain 0 [], .cnsArm 0 0, .cnsChunkWrite 0 [] 0 false, .frlBlockEnd 0 [] [] false false 0, .tbnSetAtWrite 0 0, .timerFire 0, .trainRateTimeout 0 0, .nakRx 0 0, .lsEnterRx 0 0, .laneRetrainDone 0 0, .ozlPrbsInj 0 0, .qmQidxWrite 0, .rqcopyBurst 0 0, .postedHdrRx 0 0 0 0, .spdmGetMeasurements 0 [], .shrExport 0, .trimBgNow 0, .sensRetest 0 false [], .trigEdgeAccept 0, .smbRail 0, .ratMastStep 0, .playEnd 0 0] : List Instr).all (fun i => i.wf) = true := by decide +kernel

end Sys2Proof.Tests
end

section
namespace Sys2Proof.Laws
open Sys2Proof.Machine

-- One theorem after another: a thread for each of them passes the memory limit of the check.
set_option Elab.async false

/-! ### Tables -/

theorem swfFrom_filter {α : Type} [DecidableEq α] (d : Nat → α) (p : Nat × α → Bool) (t : Tab α) (lo : Nat)
    (hw : swfFrom d lo t = true) : swfFrom d lo (t.filter p) = true := by
  induction t generalizing lo with
  | nil => rfl
  | cons e t ih =>
    obtain ⟨j, v⟩ := e
    simp only [swfFrom, Bool.and_eq_true, decide_eq_true_eq] at hw
    obtain ⟨⟨hlo, hv⟩, ht⟩ := hw
    by_cases h : p (j, v) = true
    · simp only [List.filter_cons, h, if_true, swfFrom, Bool.and_eq_true, decide_eq_true_eq]
      exact ⟨⟨hlo, hv⟩, ih _ ht⟩
    · simp only [List.filter_cons, h]
      exact ih lo (swfFrom_mono d t (by omega) ht)

/-- Entries left out of a table keep its canonical form. -/
theorem swf_filter {α : Type} [DecidableEq α] (d : Nat → α) (p : Nat × α → Bool) (t : Tab α) (hw : swf d t = true) :
    swf d (t.filter p) = true := swfFrom_filter d p t 0 hw

theorem twf_filter (p : Nat × BitVec 8 → Bool) (m : Store) (hw : twf m = true) : twf (m.filter p) = true := swf_filter _ p m hw

theorem twf_stClear (m : Store) (p : Nat → Bool) (hw : twf m = true) : twf (stClear m p) = true := twf_filter _ m hw

theorem twf_ringStore (base size wp : Nat) (bs : List (BitVec 8)) (m : Store) (hw : twf m = true) :
    twf (ringStore base size wp bs m) = true := by
  induction bs generalizing wp m with
  | nil => exact hw
  | cons b bs ih => exact ih _ _ (twf_stByte m _ b hw)

/-- Steps that keep the canonical form, one after another. -/
theorem swf_foldl {α β : Type} [DecidableEq α] {d : Nat → α} {f : Tab α → β → Tab α}
    (hf : ∀ t x, swf d t = true → swf d (f t x) = true) (xs : List β) (t : Tab α) (ht : swf d t = true) :
    swf d (xs.foldl f t) = true :=
  List.foldlRecOn (motive := fun t => swf d t = true) xs f ht fun t ht x _ => hf t x ht

/-! ### What keeps the canonical form

`Tidy s t` says that `t` comes from `s` by operations that keep the canonical form of the register file, of the active copies and of each of
the six stores, and that leave the queue alone. It is stated with the place it starts from, so that the lemma of each function of the model,
`Tidy.f : Tidy s₀ s → Tidy s₀ (f s)`, is the chain of the lemmas of the functions it calls. -/

/-- `t` comes from `s` by operations that keep what is canonical: the register file, the active copies and each of the six stores are in
canonical form in `t` where they are in `s`, and the waiting commands are the same. -/
structure Tidy (s t : State) : Prop where
  regs : swf resetVal s.regs = true → swf resetVal t.regs = true
  act : swf resetVal s.act = true → swf resetVal t.act = true
  wave : twf s.hal.wave = true → twf t.hal.wave = true
  seqs : twf s.seq.store = true → twf t.seq.store = true
  patch : twf s.seq.patch = true → twf t.seq.patch = true
  res : twf s.cnv.res = true → twf t.cnv.res = true
  graph : twf s.dec.store = true → twf t.dec.store = true
  mem : twf s.wch.mem = true → twf t.wch.mem = true
  pending : t.pending = s.pending

/-- Nothing has happened yet. -/
theorem Tidy.rfl {s : State} : Tidy s s := ⟨id, id, id, id, id, id, id, id, Eq.refl _⟩

/-- One stretch after another. -/
theorem Tidy.trans {s t u : State} (h : Tidy s t) (k : Tidy t u) : Tidy s u where
  regs := k.regs ∘ h.regs
  act := k.act ∘ h.act
  wave := k.wave ∘ h.wave
  seqs := k.seqs ∘ h.seqs
  patch := k.patch ∘ h.patch
  res := k.res ∘ h.res
  graph := k.graph ∘ h.graph
  mem := k.mem ∘ h.mem
  pending := k.pending.trans h.pending

section
variable {s₀ s : State}

theorem Tidy.regsWf (h : Tidy s₀ s) (hs : s₀.regsWf = true) : s.regsWf = true := by
  simp only [State.regsWf, Bool.and_eq_true] at hs ⊢
  exact hs.imp h.regs h.act

theorem Tidy.storesWf (h : Tidy s₀ s) (hs : s₀.storesWf = true) : s.storesWf = true := by
  simp only [State.storesWf, Memory.wf, Bool.and_eq_true] at hs ⊢
  obtain ⟨⟨⟨⟨⟨hwave, hseqs⟩, hpatch⟩, hres⟩, hgraph⟩, hmem⟩ := hs
  exact ⟨⟨⟨⟨⟨h.wave hwave, h.seqs hseqs⟩, h.patch hpatch⟩, h.res hres⟩, h.graph hgraph⟩, h.mem hmem⟩

/-! ### A part of the state replaced -/

theorem Tidy.withRegs (h : Tidy s₀ s) {v : Tab Word} (hv : swf resetVal s.regs = true → swf resetVal v = true) :
    Tidy s₀ { s with regs := v } := { h with regs := hv ∘ h.regs }

theorem Tidy.withAct (h : Tidy s₀ s) {v : Tab Word} (hv : swf resetVal s.act = true → swf resetVal v = true) :
    Tidy s₀ { s with act := v } := { h with act := hv ∘ h.act }

theorem Tidy.withHal (h : Tidy s₀ s) {v : Hal} (hv : twf s.hal.wave = true → twf v.wave = true := by exact id) :
    Tidy s₀ { s with hal := v } := { h with wave := hv ∘ h.wave }

theorem Tidy.withSeq (h : Tidy s₀ s) {v : Seq} (hv : twf s.seq.store = true → twf v.store = true := by exact id)
    (hp : twf s.seq.patch = true → twf v.patch = true := by exact id) :
    Tidy s₀ { s with seq := v } := { h with seqs := hv ∘ h.seqs, patch := hp ∘ h.patch }

theorem Tidy.withCnv (h : Tidy s₀ s) {v : Cnv} (hv : twf s.cnv.res = true → twf v.res = true := by exact id) :
    Tidy s₀ { s with cnv := v } := { h with res := hv ∘ h.res }

theorem Tidy.withDec (h : Tidy s₀ s) {v : DecS} (hv : twf s.dec.store = true → twf v.store = true := by exact id) :
    Tidy s₀ { s with dec := v } := { h with graph := hv ∘ h.graph }

theorem Tidy.withWch (h : Tidy s₀ s) {v : Wch} (hv : twf s.wch.mem = true → twf v.mem = true := by exact id) :
    Tidy s₀ { s with wch := v } := { h with mem := hv ∘ h.mem }

theorem Tidy.withClock (h : Tidy s₀ s) {v : Clock} : Tidy s₀ { s with clock := v } := { h with }
theorem Tidy.withBus (h : Tidy s₀ s) {v : Bus} : Tidy s₀ { s with bus := v } := { h with }
theorem Tidy.withImg (h : Tidy s₀ s) {v : Img} : Tidy s₀ { s with img := v } := { h with }
theorem Tidy.withTon (h : Tidy s₀ s) {v : Ton} : Tidy s₀ { s with ton := v } := { h with }
theorem Tidy.withHif (h : Tidy s₀ s) {v : Hif} : Tidy s₀ { s with hif := v } := { h with }
theorem Tidy.withCap (h : Tidy s₀ s) {v : Cap} : Tidy s₀ { s with cap := v } := { h with }
theorem Tidy.withStay (h : Tidy s₀ s) {v : StayS} : Tidy s₀ { s with stay := v } := { h with }
theorem Tidy.withOzl (h : Tidy s₀ s) {v : OzlS} : Tidy s₀ { s with ozl := v } := { h with }
theorem Tidy.withShr (h : Tidy s₀ s) {v : Shr} : Tidy s₀ { s with shr := v } := { h with }
theorem Tidy.withTrim (h : Tidy s₀ s) {v : TrimS} : Tidy s₀ { s with trim := v } := { h with }
theorem Tidy.withReef (h : Tidy s₀ s) {v : ReefS} : Tidy s₀ { s with reef := v } := { h with }
theorem Tidy.withFlt (h : Tidy s₀ s) {v : FltS} : Tidy s₀ { s with flt := v } := { h with }
theorem Tidy.withPwr (h : Tidy s₀ s) {v : PwrS} : Tidy s₀ { s with pwr := v } := { h with }
theorem Tidy.withRat (h : Tidy s₀ s) {v : RatS} : Tidy s₀ { s with rat := v } := { h with }

/-- Several parts replaced at once that hold none of the tables. -/
theorem Tidy.keep {t : State} (h : Tidy s₀ s) (k : Tidy s t := by exact { Tidy.rfl with }) : Tidy s₀ t := h.trans k

/-! ### Conditions and loops -/

/-- A state that is used more than once is shown to be tidy once. -/
theorem Tidy.andThen {t : State} (h : Tidy s₀ s) (k : Tidy s₀ s → Tidy s₀ t) : Tidy s₀ t := k h

theorem Tidy.ite {t : State} (hs : Tidy s₀ s) (ht : Tidy s₀ t) {c : Prop} {d : Decidable c} : Tidy s₀ (if c then s else t) := by
  split
  · exact hs
  · exact ht

theorem Tidy.iteFst {α : Type} {a b : State × α} (ha : Tidy s₀ a.1) (hb : Tidy s₀ b.1) {c : Prop} {d : Decidable c} :
    Tidy s₀ (if c then a else b).1 := by
  split
  · exact ha
  · exact hb

theorem Tidy.iteSnd {α : Type} {a b : α × State} (ha : Tidy s₀ a.2) (hb : Tidy s₀ b.2) {c : Prop} {d : Decidable c} :
    Tidy s₀ (if c then a else b).2 := by
  split
  · exact ha
  · exact hb

theorem Tidy.foldl {α : Type} {xs : List α} {f : State → α → State} (h : Tidy s₀ s) (hf : ∀ x t, Tidy s₀ t → Tidy s₀ (f t x)) :
    Tidy s₀ (xs.foldl f s) := by
  induction xs generalizing s with
  | nil => exact h
  | cons x xs ih => exact ih (hf x s h)

theorem Tidy.forEach {α : Type} {xs : List α} {f : α → State → State} (h : Tidy s₀ s) (hf : ∀ x t, Tidy s₀ t → Tidy s₀ (f x t)) :
    Tidy s₀ (forEach xs s f) := h.foldl hf

/-! #### The functions of Sys2Proof/Machine/Ops.lean -/

theorem Tidy.wr {a : Nat} {v : Word} (h : Tidy s₀ s) : Tidy s₀ (s.wr a v) := h.withRegs (swf_sput resetVal s.regs a v)
theorem Tidy.wrRW {a v : Nat} (h : Tidy s₀ s) : Tidy s₀ (s.wrRW a v) := h.wr
theorem Tidy.setF {a : Nat} {f : Fld} {n : Nat} (h : Tidy s₀ s) : Tidy s₀ (s.setF a f n) := h.wr
theorem Tidy.inc {a : Nat} (h : Tidy s₀ s) : Tidy s₀ (s.inc a) := h.wr
theorem Tidy.incBy {a n : Nat} (h : Tidy s₀ s) : Tidy s₀ (s.incBy a n) := h.wr
theorem Tidy.incF {a : Nat} {f : Fld} (h : Tidy s₀ s) : Tidy s₀ (s.incF a f) := h.setF
theorem Tidy.wrN {a n : Nat} (h : Tidy s₀ s) : Tidy s₀ (s.wrN a n) := h.wr
theorem Tidy.status {a code : Nat} (h : Tidy s₀ s) : Tidy s₀ (s.status a code) := h.setF

theorem Tidy.actWr {a : Nat} {v : Word} (h : Tidy s₀ s) : Tidy s₀ (s.actWr a v) :=
  h.withAct (swf_sput resetVal s.act a v)

theorem Tidy.when {c : Bool} {f : State → State} (h : Tidy s₀ s) (hf : ∀ t, Tidy s₀ t → Tidy s₀ (f t)) : Tidy s₀ (s.when c f) :=
  (hf s h).ite h

theorem Tidy.setDev {d : Nat} (h : Tidy s₀ s) : Tidy s₀ (s.setDev d) := h.setF
theorem Tidy.report {code src inst : Nat} (h : Tidy s₀ s) : Tidy s₀ (s.report code src inst) := h.withBus
theorem Tidy.reportProg {code src inst : Nat} (h : Tidy s₀ s) : Tidy s₀ (s.reportProg code src inst) := h.withBus
theorem Tidy.nextFree (h : Tidy s₀ s) : Tidy s₀ (s.nextFree) := h.withBus
theorem Tidy.hold {i : Item} (h : Tidy s₀ s) : Tidy s₀ (s.hold i) := h.withBus
theorem Tidy.send {i : Item} (h : Tidy s₀ s) : Tidy s₀ (s.send i) := h.withBus
theorem Tidy.keepHeld {p : Item → Bool} (h : Tidy s₀ s) : Tidy s₀ (s.keepHeld p) := h.withBus
theorem Tidy.keepTransit {p : Item → Bool} (h : Tidy s₀ s) : Tidy s₀ (s.keepTransit p) := h.withBus
theorem Tidy.deny {cls inst rkind rindex : Nat} (h : Tidy s₀ s) : Tidy s₀ (s.deny cls inst rkind rindex) := h.wrN.inc

theorem Tidy.denyIf {code cls inst rkind rindex : Nat} (h : Tidy s₀ s) :
    Tidy s₀ (s.denyIf code cls inst rkind rindex) :=
  h.when fun _ h => h.deny

theorem Tidy.setGst {g v : Nat} (h : Tidy s₀ s) : Tidy s₀ (s.setGst g v) := h.setF
theorem Tidy.setGrp {g : Nat} {v : Group} (h : Tidy s₀ s) : Tidy s₀ (s.setGrp g v) := h.withSeq
theorem Tidy.modGrp {g : Nat} {f : Group → Group} (h : Tidy s₀ s) : Tidy s₀ (s.modGrp g f) := h.setGrp
theorem Tidy.setMast {y : Nat} {m : Mast} (h : Tidy s₀ s) : Tidy s₀ (s.setMast y m) := h.withSeq
theorem Tidy.modMast {y : Nat} {f : Mast → Mast} (h : Tidy s₀ s) : Tidy s₀ (s.modMast y f) := h.setMast
theorem Tidy.setMst {y v : Nat} (h : Tidy s₀ s) : Tidy s₀ (s.setMst y v) := h.setF
theorem Tidy.emitRec {r : Rec} (h : Tidy s₀ s) : Tidy s₀ (s.emitRec r) := h.withBus

theorem Tidy.passRec {y pass type time : Nat} {body : List Nat} {apart : Bool} (h : Tidy s₀ s) :
    Tidy s₀ (s.passRec y pass type time body apart) := by
  unfold Machine.State.passRec
  exact h.emitRec.modMast

theorem Tidy.dropShotRecs {g : Nat} (h : Tidy s₀ s) : Tidy s₀ (s.dropShotRecs g) :=
  (h.forEach fun _ _ h => h.modMast).withBus

theorem Tidy.markGroup {g code : Nat} {cause : Bool} (h : Tidy s₀ s) : Tidy s₀ (s.markGroup g code cause) := by
  unfold Machine.State.markGroup
  exact h.withBus.modGrp

theorem Tidy.yardRec {y type time : Nat} {body : List Nat} (h : Tidy s₀ s) : Tidy s₀ (s.yardRec y type time body) :=
  h.passRec

theorem Tidy.setCmd {g cmd rel src : Nat} (h : Tidy s₀ s) : Tidy s₀ (s.setCmd g cmd rel src) :=
  h.keepHeld.keepTransit.modGrp.setF.andThen fun k => k.hold.ite k.send

theorem Tidy.noCmd {g : Nat} (h : Tidy s₀ s) : Tidy s₀ (s.noCmd g) := h.keepHeld.keepTransit.modGrp.setF
theorem Tidy.faultAbort {g : Nat} (h : Tidy s₀ s) : Tidy s₀ (s.faultAbort g) := h.ite h.setCmd

theorem Tidy.progFault {y pc code : Nat} (h : Tidy s₀ s) : Tidy s₀ (progFault y pc code s) :=
  h.wrN.setMst.modMast.setF.faultAbort.yardRec.reportProg

/-! #### The functions of Sys2Proof/Machine/Flags.lean -/

theorem Tidy.clearRC {a : Nat} (h : Tidy s₀ s) : Tidy s₀ (clearRC a s) := h.ite h.wr
theorem Tidy.clearW1C {a v mask : Nat} (h : Tidy s₀ s) : Tidy s₀ (clearW1C a v mask s) := h.wr

/-! #### The functions of Sys2Proof/Machine/Gate.lean -/

theorem Tidy.shrDeny {off src part code : Nat} (h : Tidy s₀ s) : Tidy s₀ (s.shrDeny off src part code) := h.wrN

theorem Tidy.hostBar {f : State → State} (h : Tidy s₀ s) (hf : ∀ t, Tidy s₀ t → Tidy s₀ (f t)) : Tidy s₀ (hostBar f s) :=
  (hf s h).ite h

theorem Tidy.noteSetr {a : Nat} (h : Tidy s₀ s) : Tidy s₀ (s.noteSetr a) := h.withBus

theorem Tidy.hostWr {a : Nat} {f : State → State} (h : Tidy s₀ s) (hf : ∀ t, Tidy s₀ t → Tidy s₀ (f t)) :
    Tidy s₀ (hostWr a f s) := by
  unfold Machine.hostWr
  refine h.ite (h.inc.ite ?_)
  split
  · exact h.shrDeny.inc
  · exact (hf s h).wr.ite (hf s h)

/-! #### The functions of Sys2Proof/Machine/Halyard.lean -/

theorem Tidy.setSeg {q i : Nat} {e : Seg} (h : Tidy s₀ s) : Tidy s₀ (s.setSeg q i e) := h.withHal
theorem Tidy.changeSeg {y q i : Nat} {e : Seg} (h : Tidy s₀ s) : Tidy s₀ (s.changeSeg y q i e) := h.withHal
theorem Tidy.segIdxWrite {y v : Nat} (h : Tidy s₀ s) : Tidy s₀ (segIdxWrite y v s) := h.wrN.wrN.wrN.wrN.wrN.withHal

theorem Tidy.segFree {y : Nat} (h : Tidy s₀ s) : Tidy s₀ (segFree y s) := by
  unfold Machine.segFree
  refine h.status.ite ?_
  split
  · exact h.status
  · exact h.status
  · exact h.changeSeg.status
  · exact h.changeSeg.status
  · exact h.status

theorem Tidy.segArm {y : Nat} (h : Tidy s₀ s) : Tidy s₀ (segArm y s) := by
  unfold Machine.segArm
  refine h.status.ite ?_
  split
  · exact h.status
  · exact h.status
  · exact h.status
  · exact h.denyIf.status.ite h.changeSeg.status
  · exact h.denyIf.status.ite h.changeSeg.status

theorem Tidy.segCtlWrite {y v : Nat} (h : Tidy s₀ s) : Tidy s₀ (segCtlWrite y v s) := by
  unfold Machine.segCtlWrite
  split
  · exact h.segFree
  · exact h.status
  · exact h.segArm
  · exact h

theorem Tidy.storeSample {q i v : Nat} (h : Tidy s₀ s) : Tidy s₀ (storeSample q i v s) := by
  unfold Machine.storeSample
  dsimp only
  split
  · exact h.shrDeny.inc.ite ((h.withHal (by exact twf_stBytes _ _ _ _)).ite h.inc)
  · exact (h.withHal (by exact twf_stBytes _ _ _ _)).ite h.inc

theorem Tidy.setTgt {y t : Nat} {x : Target} (h : Tidy s₀ s) : Tidy s₀ (s.setTgt y t x) := h.withHal
theorem Tidy.toneState {y t : Nat} (h : Tidy s₀ s) : Tidy s₀ (s.toneState y t) := h.setF.ite h
theorem Tidy.setTstate {y t st seg : Nat} (h : Tidy s₀ s) : Tidy s₀ (s.setTstate y t st seg) := h.setF.setF.toneState

theorem Tidy.dropJump {y t : Nat} (h : Tidy s₀ s) : Tidy s₀ (s.dropJump y t) := by
  unfold Machine.State.dropJump
  dsimp only
  split
  · exact h.setTgt.setF.inc
  · exact h

theorem Tidy.endPlayUse {y : Nat} {p : Play} (h : Tidy s₀ s) : Tidy s₀ (s.endPlayUse y p) := h.setSeg.ite h

theorem Tidy.endPlanUse {y : Nat} {p : Play} (h : Tidy s₀ s) : Tidy s₀ (s.endPlanUse y p) := by
  unfold Machine.State.endPlanUse
  split
  · exact h.setSeg
  · exact h

theorem Tidy.idleTgt {y t : Nat} (h : Tidy s₀ s) : Tidy s₀ (s.idleTgt y t) := by
  unfold Machine.State.idleTgt
  dsimp only
  split
  · exact h.endPlayUse.endPlanUse.setTgt.setTstate
  · exact h.setTstate

theorem Tidy.setStrm {y c : Nat} {x : Strm} (h : Tidy s₀ s) : Tidy s₀ (s.setStrm y c x) := h.withHal
theorem Tidy.denySeg {y i c : Nat} (h : Tidy s₀ s) : Tidy s₀ (s.denySeg y i c) := h.denyIf
theorem Tidy.dropReq {r : PlayReq} (h : Tidy s₀ s) : Tidy s₀ (s.dropReq r) := h.withHal

theorem Tidy.storeError {y t : Nat} (h : Tidy s₀ s) : Tidy s₀ (storeError y t s) := by
  unfold Machine.storeError
  dsimp only
  split
  · refine (Tidy.withHal ?_).progFault
    split
    · exact h.setTgt.progFault.ite h
    · exact h
  · split
    · exact h.setTgt.progFault.ite h
    · exact h

theorem Tidy.playCapture {y t : Nat} {ecc : Option Nat} (h : Tidy s₀ s) : Tidy s₀ (playCapture y t ecc s) := by
  unfold Machine.playCapture
  dsimp only
  split
  · exact h
  · exact h.denySeg.dropReq.progFault.ite (h.withHal.setSeg.ite h.withHal).storeError

theorem Tidy.endsAt {y e : Nat} (h : Tidy s₀ s) : Tidy s₀ (s.endsAt y e) := h.modMast

theorem Tidy.playEnd {y t : Nat} (h : Tidy s₀ s) : Tidy s₀ (playEnd y t s) := by
  unfold Machine.playEnd
  dsimp only
  split
  · exact h
  · exact h.ite (h.setTgt.endsAt.ite h.idleTgt.endsAt)

theorem Tidy.boundaryPlan {y t : Nat} {p : Play} (h : Tidy s₀ s) : Tidy s₀ (boundaryPlan y t p s) := by
  unfold Machine.boundaryPlan
  dsimp only
  split
  · exact h.setTgt.setSeg
  · exact h.setTgt.denySeg.progFault
  · exact h.setTgt

theorem Tidy.boundaryMove {y t : Nat} {p : Play} {g : SegPlan} (h : Tidy s₀ s) : Tidy s₀ (boundaryMove y t p g s) := by
  unfold Machine.boundaryMove
  dsimp only
  split
  · exact (h.setTgt.setF.ite h).setTgt
  · exact (h.setTgt.setF.ite h).endPlayUse.setTgt.setTstate
  · exact (h.setTgt.setF.ite h).dropJump.endPlayUse.endsAt.setTgt.setTstate
  · exact (h.setTgt.setF.ite h).dropJump.endPlayUse.endsAt.setTgt

theorem Tidy.segBoundary {y t : Nat} {ecc : Option Nat} (h : Tidy s₀ s) : Tidy s₀ (segBoundary y t ecc s) := by
  unfold Machine.segBoundary
  split
  · exact h
  · refine h.ite ?_
    split
    · exact h.boundaryPlan.storeError.ite h
    · exact h.boundaryMove.ite h

theorem Tidy.preempt {y t r : Nat} {p : Play} (h : Tidy s₀ s) : Tidy s₀ (preempt y t r p s) := by
  unfold Machine.preempt
  dsimp only
  split
  · exact h.boundaryMove.ite h.playEnd
  · exact h.dropJump.idleTgt.inc.setF

theorem Tidy.starveTgts {y c r : Nat} (h : Tidy s₀ s) : Tidy s₀ (starveTgts y c r s) := by
  unfold Machine.starveTgts
  split
  · exact h.ite (h.forEach fun _ _ h => h.setTstate)
  · exact h

theorem Tidy.playRelease {y t r : Nat} (h : Tidy s₀ s) : Tidy s₀ (playRelease y t r s) := by
  unfold Machine.playRelease
  dsimp only
  split
  · exact h.withHal
  · split
    · exact h
    · refine (Tidy.setTgt ?_).setTstate.starveTgts.ite (Tidy.setTgt ?_).setTstate
      · split
        · exact h.withHal.preempt
        · exact h.withHal
      · split
        · exact h.withHal.preempt
        · exact h.withHal

theorem Tidy.jumpWrite {y t v j : Nat} (h : Tidy s₀ s) : Tidy s₀ (jumpWrite y t v j s) := by
  unfold Machine.jumpWrite
  dsimp only
  split
  · exact ((h.wrN.inc.ite h.wrN).andThen fun k => (k.setF.inc.ite k).setTgt.setF).ite h.wrN.inc
  · exact h.wrN.inc

theorem Tidy.jumpHost {y t v : Nat} (h : Tidy s₀ s) : Tidy s₀ (jumpHost y t v s) := h.inc.ite h.jumpWrite

theorem Tidy.strRefused {y c : Nat} {asked : Bool} (h : Tidy s₀ s) : Tidy s₀ (strRefused y c asked s) :=
  h.inc.when fun _ h => h.status

theorem Tidy.strStart {y c v : Nat} (h : Tidy s₀ s) : Tidy s₀ (strStart y c v s) :=
  h.strRefused.ite <| h.status.ite (h.status.ite (h.status.ite (h.deny.status.ite h.wrN.setSeg.setStrm.setF.status)))

theorem Tidy.strStop {y c v : Nat} (h : Tidy s₀ s) : Tidy s₀ (strStop y c v s) :=
  h.strRefused.ite (h.wrN.ite h.wrN.setSeg.setStrm.wrN.keepHeld.keepTransit.withHal)

theorem Tidy.strCtlWrite {y c v : Nat} (h : Tidy s₀ s) : Tidy s₀ (strCtlWrite y c v s) := h.strStart.ite h.strStop
theorem Tidy.strmArrive {y c n : Nat} (h : Tidy s₀ s) : Tidy s₀ (strmArrive y c n s) := h.setStrm.incBy

theorem Tidy.strmClock {y c : Nat} (h : Tidy s₀ s) : Tidy s₀ (strmClock y c s) :=
  h.withHal.forEach fun _ _ h => h.strmArrive

theorem Tidy.strBlockAvailable {y c : Nat} (h : Tidy s₀ s) : Tidy s₀ (strBlockAvailable y c s) := by
  unfold Machine.strBlockAvailable
  dsimp only
  split
  · exact h.strmClock
  · split
    · exact h.withBus.strmArrive
    · exact h

theorem Tidy.strStarve {y c r : Nat} (h : Tidy s₀ s) : Tidy s₀ (strStarve y c r s) :=
  h.setStrm.setF.inc.setF.markGroup.report

theorem Tidy.strLost {y c : Nat} (h : Tidy s₀ s) : Tidy s₀ (strLost y c s) := h.modGrp.ite h

theorem Tidy.streamBlock {y t : Nat} (h : Tidy s₀ s) : Tidy s₀ (streamBlock y t s) := by
  unfold Machine.streamBlock
  dsimp only
  split
  · exact h
  · split
    · exact h
    · exact h.ite ((h.withHal.setStrm.setF.ite h.withHal.setStrm).andThen fun k => (k.strStarve.ite k).strLost)

theorem Tidy.strShotStart {y : Nat} {first : Bool} (h : Tidy s₀ s) : Tidy s₀ (strShotStart y first s) :=
  h.forEach fun _ _ h => h.setStrm.setF.setF.ite h.setStrm.setF

theorem Tidy.strReplay {y : Nat} (h : Tidy s₀ s) : Tidy s₀ (strReplay y s) := h.forEach fun _ _ h => h.setStrm
theorem Tidy.strAttemptEnd {y : Nat} (h : Tidy s₀ s) : Tidy s₀ (strAttemptEnd y s) := h.forEach fun _ _ h => h.idleTgt
theorem Tidy.strStands {y : Nat} (h : Tidy s₀ s) : Tidy s₀ (strStands y s) := h.forEach fun _ _ h => h.setStrm
theorem Tidy.strAbort {y : Nat} (h : Tidy s₀ s) : Tidy s₀ (strAbort y s) := h.forEach fun _ _ h => h.setStrm
theorem Tidy.setPin {p : Nat} {x : Pin} (h : Tidy s₀ s) : Tidy s₀ (s.setPin p x) := h.withHal

theorem Tidy.markRelease {y set act width rel : Nat} (h : Tidy s₀ s) : Tidy s₀ (markRelease y set act width rel s) :=
  h.setPin

theorem Tidy.markerEdge {pin : Nat} (h : Tidy s₀ s) : Tidy s₀ (markerEdge pin s) := by
  unfold Machine.markerEdge
  dsimp only
  split
  · split
    · exact h.setPin.ite h
    · exact h
  · refine Tidy.ite ?_ (h.ite (h.setPin.ite (h.setPin.inc.setF.ite h.setPin)))
    split
    · exact h.setPin.ite h
    · exact h

theorem Tidy.pinCut {pin a : Nat} (h : Tidy s₀ s) : Tidy s₀ (pinCut pin a s) := h.setPin
theorem Tidy.markerCut {y a : Nat} (h : Tidy s₀ s) : Tidy s₀ (markerCut y a s) := h.pinCut
theorem Tidy.markersCut (h : Tidy s₀ s) : Tidy s₀ (markersCut s) := h.forEach fun _ _ h => h.pinCut
theorem Tidy.markerExitLow {pin : Nat} (h : Tidy s₀ s) : Tidy s₀ (markerExitLow pin s) := h.setPin.ite h
theorem Tidy.mrkPinWrite {y v : Nat} (h : Tidy s₀ s) : Tidy s₀ (mrkPinWrite y v s) := h.wrN.ite h.inc

theorem Tidy.halIdle {y : Nat} (h : Tidy s₀ s) : Tidy s₀ (halIdle y s) := by
  unfold Machine.halIdle
  refine (h.forEach fun _ _ h => ?_).withHal.forEach fun _ _ h => (h.setTgt.setF.ite h).idleTgt
  split
  · exact h.endPlayUse
  · exact h

/-! #### The functions of Sys2Proof/Machine/Tone.lean -/

theorem Tidy.setToneF {y t x f : Nat} (h : Tidy s₀ s) : Tidy s₀ (s.setToneF y t x f) := h.withTon.wrN
theorem Tidy.ncoClear (h : Tidy s₀ s) : Tidy s₀ (ncoClear s) := h.withTon

theorem Tidy.frameOp {y t fop v r : Nat} (h : Tidy s₀ s) : Tidy s₀ (frameOp y t fop v r s) := by
  unfold Machine.frameOp
  split
  · exact h.wrN
  · exact h.wrN
  · exact h.setToneF
  · exact h.setToneF
  · exact h.setToneF.wrN
  · exact h

theorem Tidy.armFrames {y : Nat} (h : Tidy s₀ s) : Tidy s₀ (armFrames y s) :=
  h.forEach fun _ _ h => h.frameOp.wrN.ite h.frameOp

theorem Tidy.xorPf {y t : Nat} {x z : Bool} (h : Tidy s₀ s) : Tidy s₀ (s.xorPf y t x z) := h.setF.setF

theorem Tidy.applyCorr {y t : Nat} {x z : Bool} (h : Tidy s₀ s) : Tidy s₀ (applyCorr y t x z s) :=
  h.xorPf.withTon.ite h.setF.inc

theorem Tidy.pfCorrection {y : Nat} (h : Tidy s₀ s) : Tidy s₀ (pfCorrection y s) := by
  unfold Machine.pfCorrection
  dsimp only
  split
  · split
    · exact h.withBus.applyCorr
    · exact h
  · exact h

theorem Tidy.rePf {y t : Nat} (h : Tidy s₀ s) : Tidy s₀ (rePf y t s) := h.forEach fun _ _ h => h.xorPf

theorem Tidy.tonStore {a v : Nat} (h : Tidy s₀ s) : Tidy s₀ (tonStore a v s) := by
  unfold Machine.tonStore
  exact (h.wrN.rePf.ite h.wrN).ite (h.wrN.ite h.wrN)

theorem Tidy.tonHostWrite {y a v : Nat} (h : Tidy s₀ s) : Tidy s₀ (tonHostWrite y a v s) := by
  unfold Machine.tonHostWrite
  exact h.tonStore.ite h.inc

theorem Tidy.fsWrite {y a v : Nat} (h : Tidy s₀ s) : Tidy s₀ (fsWrite y a v s) := h.inc.ite h.wrN
theorem Tidy.setShSt {y cls st : Nat} (h : Tidy s₀ s) : Tidy s₀ (s.setShSt y cls st) := h.setF.setF

theorem Tidy.shadowStore {y a v : Nat} (h : Tidy s₀ s) : Tidy s₀ (shadowStore y a v s) :=
  h.inc.setF.ite (h.inc.ite h).wrN.setShSt

theorem Tidy.shadowHost {y a v : Nat} (h : Tidy s₀ s) : Tidy s₀ (shadowHost y a v s) :=
  h.inc.ite (h.inc.ite h.shadowStore)

theorem Tidy.sealWrite {y cls : Nat} {one : Bool} (h : Tidy s₀ s) : Tidy s₀ (sealWrite y cls one s) :=
  ((h.inc.ite h).setShSt.ite (h.inc.ite h)).ite (h.setShSt.ite h)

theorem Tidy.shdCtlWrite {y v : Nat} (h : Tidy s₀ s) : Tidy s₀ (shdCtlWrite y v s) :=
  (h.forEach fun _ _ h => h.sealWrite).setF

theorem Tidy.makeActive {y cls : Nat} (h : Tidy s₀ s) : Tidy s₀ (makeActive y cls s) := h.forEach fun _ _ h => h.actWr

theorem Tidy.handClass {y cls : Nat} (h : Tidy s₀ s) : Tidy s₀ (handClass y cls s) :=
  h.withTon.ite (h.inc.setF.setF.withTon.ite h.makeActive.setShSt.withTon)

theorem Tidy.handBase {y mask : Nat} (h : Tidy s₀ s) : Tidy s₀ (handBase y mask s) :=
  (h.ite h.setF).forEach fun _ _ h => h.handClass

theorem Tidy.hoDone {y : Nat} (h : Tidy s₀ s) : Tidy s₀ (s.hoDone y) := (h.setF.ite h).withTon

theorem Tidy.hoCmdLead {y mask leadFt : Nat} (h : Tidy s₀ s) : Tidy s₀ (hoCmdLead y mask leadFt s) :=
  h.ite (h.status.ite (h.status.ite (h.status.ite h.withTon.setF.status)))

theorem Tidy.hoCmd {y mask : Nat} (h : Tidy s₀ s) : Tidy s₀ (hoCmd y mask s) := h.hoCmdLead
theorem Tidy.hoDiscard {y : Nat} (h : Tidy s₀ s) : Tidy s₀ (hoDiscard y s) := h.withTon.setF.status.ite h
theorem Tidy.toneTick {y t : Nat} (h : Tidy s₀ s) : Tidy s₀ (toneTick y t s) := h.withTon.inc.setF.ite h.withTon
theorem Tidy.feed {out : Nat} {code : Int} {pin : Nat} (h : Tidy s₀ s) : Tidy s₀ (feed out code pin s) := h.ite h.withTon

theorem Tidy.outTick {kind i : Nat} {ts : List (Nat × Nat)} (h : Tidy s₀ s) : Tidy s₀ (outTick kind i ts s) :=
  h.feed.inc.setF.ite h.feed

theorem Tidy.rfTick (h : Tidy s₀ s) : Tidy s₀ (rfTick s) :=
  h.forEach fun _ _ h => h.forEach fun _ _ h => h.feed.ite h.outTick

theorem Tidy.pinTick (h : Tidy s₀ s) : Tidy s₀ (pinTick s) := h.ite h.withTon
theorem Tidy.envClear {y : Nat} (h : Tidy s₀ s) : Tidy s₀ (envClear y s) := h.forEach fun _ _ h => h.withTon

/-! #### The functions of Sys2Proof/Machine/Flux.lean -/

theorem Tidy.setFluxF {y f : Nat} {x : FluxF} (h : Tidy s₀ s) : Tidy s₀ (s.setFluxF y f x) := h.withTon

theorem Tidy.fluxTick {y f : Nat} (h : Tidy s₀ s) : Tidy s₀ (fluxTick y f s) :=
  h.ite (h.setFluxF.feed.feed.incBy.incBy.andThen fun k => k.setF.ite k)

theorem Tidy.fluxClear {y : Nat} (h : Tidy s₀ s) : Tidy s₀ (fluxClear y s) := h.forEach fun _ _ h => h.setFluxF
theorem Tidy.fluxStates {y : Nat} (h : Tidy s₀ s) : Tidy s₀ (fluxStates y s) := h.forEach fun _ _ h => h.setF
theorem Tidy.biaRefresh {y : Nat} (h : Tidy s₀ s) : Tidy s₀ (biaRefresh y s) := h.setF.setF
theorem Tidy.biaCodeSet {y v : Nat} (h : Tidy s₀ s) : Tidy s₀ (biaCodeSet y v s) := h.wrN.biaRefresh
theorem Tidy.biaCodeHost {y v : Nat} (h : Tidy s₀ s) : Tidy s₀ (biaCodeHost y v s) := h.ite h.biaCodeSet
theorem Tidy.biaActSet {y : Nat} {i : Int} (h : Tidy s₀ s) : Tidy s₀ (biaActSet y i s) := h.wrN.feed.withTon
theorem Tidy.biaTick {y : Nat} (h : Tidy s₀ s) : Tidy s₀ (biaTick y s) := h.ite h.biaActSet
theorem Tidy.biaSlewEnd {y : Nat} (h : Tidy s₀ s) : Tidy s₀ (biaSlewEnd y s) := h.setF.ite h
theorem Tidy.biaZero {y : Nat} (h : Tidy s₀ s) : Tidy s₀ (biaZero y s) := h.biaActSet.biaRefresh

theorem Tidy.biaEntry {y load : Nat} (h : Tidy s₀ s) : Tidy s₀ (biaEntry y load s) :=
  h.ite (h.setF.setF.inc.report.setF.biaRefresh.ite h.setF.setF.inc.report)

theorem Tidy.biaCompliance {y : Nat} (h : Tidy s₀ s) : Tidy s₀ (biaCompliance y s) := h.biaEntry
theorem Tidy.biaOpen {y : Nat} (h : Tidy s₀ s) : Tidy s₀ (biaOpen y s) := h.biaEntry.ite h.biaEntry
theorem Tidy.biaNormal {y : Nat} (h : Tidy s₀ s) : Tidy s₀ (biaNormal y s) := h.setF
theorem Tidy.biaRelease {y : Nat} (h : Tidy s₀ s) : Tidy s₀ (biaRelease y s) := h.setF.biaRefresh.ite h

/-! #### The functions of Sys2Proof/Machine/Convert.lean -/

theorem Tidy.ringRefresh {r : Nat} (h : Tidy s₀ s) : Tidy s₀ (ringRefresh r s) := h.setF

theorem Tidy.ringPut {r : Nat} {bs : List (BitVec 8)} (h : Tidy s₀ s) : Tidy s₀ (ringPut r bs s) :=
  h.ite (h.inc.setF.ite (h.withCnv (by exact twf_ringStore _ _ _ _ _)).wrN.ringRefresh)

theorem Tidy.ringStart {r v : Nat} (h : Tidy s₀ s) : Tidy s₀ (ringStart r v s) :=
  h.denyIf.status.ite h.denyIf.status.wrN.wrN.wrN.setF.ringRefresh

theorem Tidy.ringStop {r v : Nat} (h : Tidy s₀ s) : Tidy s₀ (ringStop r v s) := h.wrN.setF.status

theorem Tidy.ringCtlWrite {r v : Nat} (h : Tidy s₀ s) : Tidy s₀ (ringCtlWrite r v s) :=
  h.ringStart.ite (h.ringStop.ite h.wrN)

theorem Tidy.ringGeomWrite {r a v : Nat} (h : Tidy s₀ s) : Tidy s₀ (ringGeomWrite r a v s) := h.status.inc.ite h.wrRW
theorem Tidy.ringRpWrite {r v : Nat} (h : Tidy s₀ s) : Tidy s₀ (ringRpWrite r v s) := h.status.inc.ite h.wrN.ringRefresh
theorem Tidy.ringAdvance {r n : Nat} (h : Tidy s₀ s) : Tidy s₀ (ringAdvance r n s) := h.wrN.ringRefresh
theorem Tidy.setAdc {k : Nat} {a : Adc} (h : Tidy s₀ s) : Tidy s₀ (s.setAdc k a) := h.withCnv
theorem Tidy.settleFrom {k from_ n : Nat} (h : Tidy s₀ s) : Tidy s₀ (settleFrom k from_ n s) := h.ite h.setAdc.setF

theorem Tidy.cnvCfgWrite {k sel v : Nat} (h : Tidy s₀ s) : Tidy s₀ (cnvCfgWrite k sel v s) :=
  h.inc.ite (h.wrRW.setAdc.settleFrom.ite h.wrRW.setAdc)

theorem Tidy.adcReady (h : Tidy s₀ s) : Tidy s₀ (adcReady s) := h.forEach fun _ _ h => h.settleFrom
theorem Tidy.settlingEnd {conv : Nat} (h : Tidy s₀ s) : Tidy s₀ (settlingEnd conv s) := h.setF.ite h

theorem Tidy.countSample {k p : Nat} {x : Samp} (h : Tidy s₀ s) : Tidy s₀ (countSample k p x s) :=
  h.ite ((h.setF.ite h).setF.ite (h.setF.ite h)).incBy

theorem Tidy.setDem {y c : Nat} {d : Dem} (h : Tidy s₀ s) : Tidy s₀ (s.setDem y c d) := h.withCnv
theorem Tidy.modDem {y c : Nat} {f : Dem → Dem} (h : Tidy s₀ s) : Tidy s₀ (s.modDem y c f) := h.setDem
theorem Tidy.acqRefresh {y c : Nat} (h : Tidy s₀ s) : Tidy s₀ (acqRefresh y c s) := h.setF.setF

theorem Tidy.openWindow {y c s0 len tag src : Nat} (h : Tidy s₀ s) : Tidy s₀ (openWindow y c s0 len tag src s) :=
  h.incBy.modDem.acqRefresh

theorem Tidy.autoStart {y c s0 : Nat} (h : Tidy s₀ s) : Tidy s₀ (autoStart y c s0 s) := h.ite (h.inc.ite h.openWindow)
theorem Tidy.acqEvent {y c e : Nat} (h : Tidy s₀ s) : Tidy s₀ (acqEvent y c e s) := h.autoStart.ite h

theorem Tidy.acqTimerStart {y c : Nat} (h : Tidy s₀ s) : Tidy s₀ (acqTimerStart y c s) := by
  unfold Machine.acqTimerStart
  dsimp only
  split
  · exact h
  · exact h.withBus.acqEvent

theorem Tidy.acqTrigStart {y c : Nat} (h : Tidy s₀ s) : Tidy s₀ (acqTrigStart y c s) := by
  unfold Machine.acqTrigStart
  dsimp only
  split
  · exact h
  · exact h.modDem.autoStart.ite h.modDem

theorem Tidy.acqArm {y c v : Nat} (h : Tidy s₀ s) : Tidy s₀ ((acqArm y c v s).1) :=
  Tidy.iteFst h.denyIf.status (Tidy.iteFst h.denyIf.status.wrRW h.denyIf.status.wrRW.acqRefresh)

theorem Tidy.acqDisarm {y c v : Nat} (h : Tidy s₀ s) : Tidy s₀ (acqDisarm y c v s) := h.setF.acqRefresh.ite h.inc

theorem Tidy.acqCtlWrite {y c v : Nat} (h : Tidy s₀ s) : Tidy s₀ ((acqCtlWrite y c v s).1) :=
  Tidy.iteFst h.acqDisarm (Tidy.iteFst h.acqArm h.wrRW)

theorem Tidy.acqGeomWrite {y c a v : Nat} (h : Tidy s₀ s) : Tidy s₀ (acqGeomWrite y c a v s) := h.inc.ite h.wrRW

theorem Tidy.endWins {y c : Nat} {p : Win → Bool} (h : Tidy s₀ s) : Tidy s₀ (endWins y c p s) :=
  h.withCnv.modDem.acqRefresh

theorem Tidy.acqAbort {y : Nat} (h : Tidy s₀ s) : Tidy s₀ (acqAbort y s) := h.forEach fun _ _ h => h.endWins
theorem Tidy.acqClear {y : Nat} (h : Tidy s₀ s) : Tidy s₀ (acqClear y s) := h.forEach fun _ _ h => h.setF.endWins

theorem Tidy.acqWindowEnd {y c : Nat} {xs : List Samp} (h : Tidy s₀ s) : Tidy s₀ (acqWindowEnd y c xs s) := by
  unfold Machine.acqWindowEnd
  dsimp only
  split
  · exact h
  · exact h.ite ((h.forEach fun _ _ h => h.countSample).when fun _ h => h.ringPut).modDem.acqRefresh

theorem Tidy.adcTick (h : Tidy s₀ s) : Tidy s₀ (adcTick s) := (h.forEach fun _ _ h => h.nextFree.countSample).ite h
theorem Tidy.setMon {m : Nat} {x : Mon} (h : Tidy s₀ s) : Tidy s₀ (s.setMon m x) := h.withCnv
theorem Tidy.monRefresh {m : Nat} (h : Tidy s₀ s) : Tidy s₀ (monRefresh m s) := h.setF.setF.setF
theorem Tidy.monReadback {input : Nat} (h : Tidy s₀ s) : Tidy s₀ (monReadback input s) := h.setMon.ite h

theorem Tidy.flxRbWrite {y v : Nat} (h : Tidy s₀ s) : Tidy s₀ (flxRbWrite y v s) :=
  h.inc.ite (h.wrN.ite h.wrN.monReadback)

theorem Tidy.readbackChanged {old : List (Nat × Nat)} (h : Tidy s₀ s) : Tidy s₀ (readbackChanged old s) :=
  h.forEach fun _ _ h => h.monReadback

theorem Tidy.scanStep {m e : Nat} (h : Tidy s₀ s) : Tidy s₀ (scanStep m e s) := h.setMon
theorem Tidy.xchkGo {m : Nat} (h : Tidy s₀ s) : Tidy s₀ (xchkGo m s) := h.setMon.monRefresh
theorem Tidy.xchkStart {j : Nat} (h : Tidy s₀ s) : Tidy s₀ (xchkStart j s) := h.xchkGo.setMon.ite h.xchkGo.xchkGo

theorem Tidy.monNext {m : Nat} (h : Tidy s₀ s) : Tidy s₀ (monNext m s) := by
  unfold Machine.monNext
  refine h.xchkGo.ite (h.setMon.ite ?_)
  split
  · exact (h.setF.inc.ite h).setMon
  · exact (h.setMon.inc.ite h).andThen fun k => k.xchkStart.ite (k.setMon.ite (k.ite k.scanStep))

theorem Tidy.scanWord {m : Nat} (h : Tidy s₀ s) : Tidy s₀ (scanWord m s) := h.setMon.ite h.setMon

theorem Tidy.injTell {i : Inj} {f : Svc → Svc} (h : Tidy s₀ s) : Tidy s₀ (injTell i f s) := by
  unfold Machine.injTell
  dsimp only
  split
  · exact h.withWch
  · exact h

theorem Tidy.injReturn {i : Inj} {w : Nat} (h : Tidy s₀ s) : Tidy s₀ (injReturn i w s) := h.injTell

theorem Tidy.monWord {m code : Nat} {ovr : Bool} (h : Tidy s₀ s) : Tidy s₀ (monWord m code ovr s) := by
  unfold Machine.monWord
  dsimp only
  split
  · exact (h.setF.ite h).ringPut.setMon.ite (h.setF.ite h).ringPut.scanWord
  · exact ((h.setF.ite h).ringPut.ite (h.setF.ite h)).andThen fun k => k.setMon.ite <|
      k.wrN.setMon.injReturn.ite k.wrN.setMon
  · exact (h.setF.ite h)

theorem Tidy.xchkWord {j code0 : Nat} {ovr0 : Bool} {code1 : Nat} {ovr1 : Bool} (h : Tidy s₀ s) :
    Tidy s₀ (xchkWord j code0 ovr0 code1 ovr1 s) :=
  ((h.setF.ite h).ringPut.andThen fun k => (k.setF.ite k).ringPut).setMon.setMon.andThen fun k =>
    k.setF.setF.inc.report.ite k

theorem Tidy.monRate {m : Nat} (h : Tidy s₀ s) : Tidy s₀ (monRate m s) := h.ite h.setMon
theorem Tidy.monBreak {m : Nat} (h : Tidy s₀ s) : Tidy s₀ (monBreak m s) := h.setMon.ite h
theorem Tidy.xchkBreak {j : Nat} (h : Tidy s₀ s) : Tidy s₀ (xchkBreak j s) := h.setMon.setMon.ite h

theorem Tidy.monWordBoundary {m code : Nat} {ovr : Bool} {code1 : Nat} {ovr1 : Bool} (h : Tidy s₀ s) :
    Tidy s₀ (monWordBoundary m code ovr code1 ovr1 s) := by
  unfold Machine.monWordBoundary
  dsimp only
  refine h.ite ?_
  split
  · exact h.setMon.monRate.monRefresh
  · exact h.setMon.setMon.ite <| h.setMon.setMon.xchkWord.xchkBreak.andThen fun k =>
      (k.ite k.monRate.monNext.monRefresh).andThen fun k => k.ite k.monRate.monNext.monRefresh
  · split
    · exact (h.setMon.monWord.monBreak.setF.inc.setMon.ite h.setMon.monWord.monBreak).monRate.monRefresh
    · exact h.setMon.monWord.monBreak.monRate.monNext.monRefresh

theorem Tidy.monScanEnable {m v : Nat} (h : Tidy s₀ s) : Tidy s₀ (monScanEnable m v s) :=
  h.inc.ite (h.denyIf.status.ite h.denyIf.status.wrRW.setMon)

theorem Tidy.monScanDisable {m v : Nat} (h : Tidy s₀ s) : Tidy s₀ (monScanDisable m v s) := h.inc.ite h.wrRW

theorem Tidy.monCtlWrite {m v : Nat} (h : Tidy s₀ s) : Tidy s₀ (monCtlWrite m v s) :=
  h.monScanEnable.ite (h.monScanDisable.ite (h.wrRW.ite h.inc))

theorem Tidy.monScanWrite {m a v : Nat} (h : Tidy s₀ s) : Tidy s₀ (monScanWrite m a v s) := h.wrRW.ite h.inc

theorem Tidy.injRequest {m : Nat} {i : Inj} (h : Tidy s₀ s) : Tidy s₀ ((injRequest m i s).1) :=
  Tidy.iteFst h.setMon.monRefresh (Tidy.iteFst h.inc (Tidy.iteFst h.deny h))

theorem Tidy.monInj {m v : Nat} (h : Tidy s₀ s) : Tidy s₀ (monInj m v s) := h.injRequest.status

theorem Tidy.monXchkEnable {m v : Nat} (h : Tidy s₀ s) : Tidy s₀ (monXchkEnable m v s) :=
  h.inc.ite (h.denyIf.status.andThen fun k => k.ite k.wrRW.setMon)

theorem Tidy.monXchkWrite {m v : Nat} (h : Tidy s₀ s) : Tidy s₀ (monXchkWrite m v s) :=
  h.inc.ite (h.monXchkEnable.ite (h.wrRW.when fun _ h => h.setMon))

theorem Tidy.monCalRequest {m : Nat} (h : Tidy s₀ s) : Tidy s₀ (monCalRequest m s) := h.setMon
theorem Tidy.monCalEnd {m : Nat} (h : Tidy s₀ s) : Tidy s₀ (monCalEnd m s) := h.setMon.monNext.monRefresh.ite h

theorem Tidy.injEnd {m : Nat} {i : Inj} (h : Tidy s₀ s) : Tidy s₀ (injEnd m i s) := by
  unfold Machine.injEnd
  split
  · exact h.status
  · exact h.injTell.ite h.status

theorem Tidy.monOff (h : Tidy s₀ s) : Tidy s₀ (monOff s) :=
  h.forEach fun _ _ h => (h.forEach fun _ _ h => h.injEnd).setMon.setF.monRefresh

theorem Tidy.monOn (h : Tidy s₀ s) : Tidy s₀ (monOn s) := h.forEach fun _ _ h => h.monRefresh

/-! #### The functions of Sys2Proof/Machine/Demod.lean -/

theorem Tidy.markChange {y c t : Nat} (h : Tidy s₀ s) : Tidy s₀ (markChange y c t s) := h.modDem
theorem Tidy.demRetune {y c x f0 : Nat} (h : Tidy s₀ s) : Tidy s₀ (demRetune y c x f0 s) := h.ite (h.modDem.ite h.modDem)

theorem Tidy.demRetuneAll {old : State} (h : Tidy s₀ s) : Tidy s₀ (demRetuneAll old s) :=
  h.forEach fun _ _ h => h.forEach fun _ _ h => h.demRetune

theorem Tidy.noteSat {y c n : Nat} (h : Tidy s₀ s) : Tidy s₀ (noteSat y c n s) := h.incBy.setF.ite h
theorem Tidy.kernelEcc {y c : Nat} {w : Win} (h : Tidy s₀ s) : Tidy s₀ (kernelEcc y c w s) := h.progFault.ite h.report

theorem Tidy.kernelStep {y c : Nat} {x : KSample} {w : Win} (h : Tidy s₀ s) : Tidy s₀ ((kernelStep y c x w s).2) :=
  (h.noteSat.inc.ite h.noteSat).kernelEcc.ite (h.noteSat.inc.ite h.noteSat)

theorem Tidy.kernelIn {y c : Nat} {x : KIn} {w : Win} (h : Tidy s₀ s) : Tidy s₀ ((kernelIn y c x w s).2) :=
  h.noteSat.kernelStep

theorem Tidy.mixTick (h : Tidy s₀ s) : Tidy s₀ (mixTick s) := (h.forEach fun _ _ h => h.ite h.withBus.noteSat).ite h
theorem Tidy.setCst {y c v : Nat} (h : Tidy s₀ s) : Tidy s₀ (s.setCst y c v) := h.setF
theorem Tidy.demStart {y c : Nat} (h : Tidy s₀ s) : Tidy s₀ (demStart y c s) := h.setCst.modDem.markChange.ite h
theorem Tidy.demHalt {y c : Nat} (h : Tidy s₀ s) : Tidy s₀ (demHalt y c s) := (h.setCst.ite h.setCst).acqRefresh

theorem Tidy.demEdge {y c : Nat} (h : Tidy s₀ s) : Tidy s₀ (demEdge y c s) := by
  unfold Machine.demEdge
  dsimp only
  split
  · exact h
  · exact h.ite (h.modDem.demStart.ite (h.modDem.endWins.demHalt.ite h.modDem))

theorem Tidy.demNext {y c : Nat} (h : Tidy s₀ s) : Tidy s₀ (demNext y c s) := h.modDem
theorem Tidy.demStop {y c : Nat} (h : Tidy s₀ s) : Tidy s₀ (demStop y c s) := h.setF.setF.setF.endWins.modDem.demHalt
theorem Tidy.demStopAll {y : Nat} (h : Tidy s₀ s) : Tidy s₀ (demStopAll y s) := h.forEach fun _ _ h => h.demStop
theorem Tidy.demEnable {y c : Nat} (h : Tidy s₀ s) : Tidy s₀ (demEnable y c s) := (h.setCst.ite h).ite h.setCst

theorem Tidy.demStartAll {y : Nat} (h : Tidy s₀ s) : Tidy s₀ (demStartAll y s) :=
  h.forEach fun _ _ h => h.demEnable.demStart

theorem Tidy.demStartNext {y : Nat} (h : Tidy s₀ s) : Tidy s₀ (demStartNext y s) :=
  h.forEach fun _ _ h => h.demEnable.demNext

theorem Tidy.demSettlingEnd {y c : Nat} (h : Tidy s₀ s) : Tidy s₀ (demSettlingEnd y c s) := h.setCst.ite h

theorem Tidy.demCtlWrite {y c v : Nat} (h : Tidy s₀ s) : Tidy s₀ (demCtlWrite y c v s) :=
  h.inc.ite (h.status.inc.ite (h.status.inc.ite (h.wrRW.demNext.ite h.wrRW)))

theorem Tidy.demFirWrite {y c a v : Nat} (h : Tidy s₀ s) : Tidy s₀ (demFirWrite y c a v s) := h.wrRW.ite h.status.inc
theorem Tidy.bankDrop {y c : Nat} (h : Tidy s₀ s) : Tidy s₀ (bankDrop y c s) := h.status.inc
theorem Tidy.kwWrite {y c b m v : Nat} (h : Tidy s₀ s) : Tidy s₀ (kwWrite y c b m v s) := h.bankDrop.ite h.wrN

theorem Tidy.klenWrite {y c v : Nat} (h : Tidy s₀ s) : Tidy s₀ ((klenWrite y c v s).1) :=
  Tidy.iteFst h.status (h.wrN.bankDrop.ite h.wrN)

theorem Tidy.fadeStart {y c t old new_ : Nat} (h : Tidy s₀ s) : Tidy s₀ (fadeStart y c t old new_ s) := by
  unfold Machine.fadeStart
  exact h.modDem

theorem Tidy.fadeEnd {y c : Nat} (h : Tidy s₀ s) : Tidy s₀ (fadeEnd y c s) := by
  unfold Machine.fadeEnd
  dsimp only
  split
  · exact h.ite (h.setF.setF.modDem.ite h.setF.setF.modDem.fadeStart)
  · exact h

theorem Tidy.swapGo {y c b : Nat} (h : Tidy s₀ s) : Tidy s₀ (swapGo y c b s) :=
  h.inc.setF.setF.modDem.ite (h.ite h.fadeStart)

theorem Tidy.swapsDue {y c : Nat} (h : Tidy s₀ s) : Tidy s₀ (swapsDue y c s) :=
  h.modDem.forEach fun _ _ h => h.modDem.ite h.swapGo

theorem Tidy.kernelFadeEnd {y c : Nat} (h : Tidy s₀ s) : Tidy s₀ (kernelFadeEnd y c s) := h.fadeEnd.swapsDue
theorem Tidy.swapRequest {y c h' : Nat} (h : Tidy s₀ s) : Tidy s₀ (swapRequest y c h' s) := h.modDem

theorem Tidy.afterHand {y cls h' : Nat} {old : State} (h : Tidy s₀ s) : Tidy s₀ (afterHand y cls h' old s) :=
  (h.monReadback.ite h).ite <| (h.forEach fun _ _ h => (h.demRetune.markChange.ite h.demRetune).swapRequest).ite h

theorem Tidy.handOver {y mask h' : Nat} (h : Tidy s₀ s) : Tidy s₀ (handOver y mask h' s) :=
  h.handBase.withCnv.forEach fun _ _ h => h.afterHand

theorem Tidy.handover {y : Nat} (h : Tidy s₀ s) : Tidy s₀ (handover y s) := by
  unfold Machine.handover
  split
  · exact h
  · exact h.hoDone.handOver

theorem Tidy.countDecision {y c d : Nat} (h : Tidy s₀ s) : Tidy s₀ (countDecision y c d s) :=
  ((h.inc.ite h).inc.ite (h.inc.ite h)).andThen fun k => k.inc.ite k

theorem Tidy.formDecision {y c d cp : Nat} {w : Win} (h : Tidy s₀ s) : Tidy s₀ (formDecision y c d cp w s) :=
  h.withCnv.setF.setF

theorem Tidy.setFirstWin {y c : Nat} {w : Win} (h : Tidy s₀ s) : Tidy s₀ (setFirstWin y c w s) := h.modDem

theorem Tidy.checkpoint {y c : Nat} {w : Win} (h : Tidy s₀ s) : Tidy s₀ ((checkpoint y c w s).2) :=
  Tidy.iteSnd (Tidy.iteSnd h.formDecision h) h

theorem Tidy.kernelRun {y c : Nat} {xs : List KIn} {w : Win} (h : Tidy s₀ s) : Tidy s₀ (kernelRun y c xs w s).2 := by
  induction xs generalizing w s with
  | nil => exact h
  | cons x xs ih =>
    unfold Machine.kernelRun
    split
    · exact h
    · exact ih h.kernelIn.checkpoint

theorem Tidy.checkpointEval {y c : Nat} {xs : List KIn} (h : Tidy s₀ s) : Tidy s₀ (checkpointEval y c xs s) := by
  unfold Machine.checkpointEval
  dsimp only
  split
  · exact h
  · exact h.kernelRun.setFirstWin.acqRefresh

theorem Tidy.windowRecord {y c : Nat} {w : Win} {time dec cp fin : Nat} {m : Int} {sc : Int × Int} {short flip : Bool}
    (h : Tidy s₀ s) :
    Tidy s₀ (windowRecord y c w time dec cp fin m sc short flip s) :=
  h.passRec

theorem Tidy.dropFirstWin {y c : Nat} (h : Tidy s₀ s) : Tidy s₀ (dropFirstWin y c s) := h.modDem.acqRefresh

theorem Tidy.finalScore {y c : Nat} {w : Win} (h : Tidy s₀ s) : Tidy s₀ (finalScore y c w s) := by
  unfold Machine.finalScore
  dsimp only
  split
  · exact (h.when fun _ h => h.inc).windowRecord.dropFirstWin
  · exact h.formDecision.windowRecord.dropFirstWin

theorem Tidy.shortScore {y c : Nat} {w : Win} (h : Tidy s₀ s) : Tidy s₀ (shortScore y c w s) :=
  h.setF.windowRecord.dropFirstWin

theorem Tidy.finalScoreEval {y c : Nat} {xs : List KIn} (h : Tidy s₀ s) : Tidy s₀ (finalScoreEval y c xs s) := by
  unfold Machine.finalScoreEval
  dsimp only
  split
  · exact h
  · exact h.ite ((h.shortScore.ite h).ite (h.kernelRun.setFirstWin.andThen fun k => k.finalScore.ite k))

theorem Tidy.dscCfgWrite {y c v : Nat} (h : Tidy s₀ s) : Tidy s₀ (dscCfgWrite y c v s) :=
  h.inc.ite (h.denyIf.status.wrRW.ite h.denyIf.status)

/-! #### The functions of Sys2Proof/Machine/Sheet.lean -/

theorem Tidy.slotClear {i : Nat} (h : Tidy s₀ s) : Tidy s₀ (slotClear i s) := h.wrN.withCnv
theorem Tidy.slotClearAll (h : Tidy s₀ s) : Tidy s₀ (slotClearAll s) := h.forEach fun _ _ h => h.slotClear

theorem Tidy.sheetEntry {y c : Nat} (h : Tidy s₀ s) : Tidy s₀ (sheetEntry y c s) := by
  unfold Machine.sheetEntry
  dsimp only
  split
  · exact h
  · exact h.ite (h.withCnv.countDecision.andThen fun k => k.ite (k.inc.ite k.withCnv))

theorem Tidy.withdrawFormed {y : Nat} {p : Dec → Bool} (h : Tidy s₀ s) : Tidy s₀ (withdrawFormed y p s) := h.withCnv
theorem Tidy.setTap {t : Nat} {x : TapSt} (h : Tidy s₀ s) : Tidy s₀ (s.setTap t x) := h.withCnv
theorem Tidy.tapTake {t slot d : Nat} (h : Tidy s₀ s) : Tidy s₀ (tapTake t slot d s) := h.incBy.setTap
theorem Tidy.tapFire {t rel : Nat} (h : Tidy s₀ s) : Tidy s₀ (tapFire t rel s) := h.setTap.inc.withCnv

theorem Tidy.tapRelease {slot d rel t : Nat} (h : Tidy s₀ s) : Tidy s₀ (tapRelease slot d rel t s) :=
  h.tapTake.tapFire.ite h.tapTake

theorem Tidy.fwdSend {d : Dec} {l : Nat} (h : Tidy s₀ s) : Tidy s₀ (fwdSend d l s) := by
  unfold Machine.fwdSend
  exact h.ite (h.keep.ite h.inc)

theorem Tidy.tapEcc {t : Nat} (h : Tidy s₀ s) : Tidy s₀ (tapEcc t s) := h.setF.setTap.report
theorem Tidy.imapEcc {l j : Nat} (h : Tidy s₀ s) : Tidy s₀ (imapEcc l j s) := h.setF.report
theorem Tidy.noteRel {slot rel dec : Nat} (h : Tidy s₀ s) : Tidy s₀ (s.noteRel slot rel dec) := h.withCnv

theorem Tidy.slotRelease {slot : Nat} {bad : List Nat} (h : Tidy s₀ s) : Tidy s₀ (slotRelease slot bad s) := by
  unfold Machine.slotRelease
  dsimp only
  split
  · exact h
  · exact ((h.withCnv.noteRel.wrN.forEach fun _ _ h => h.tapEcc).forEach fun _ _ h =>
      h.tapRelease).forEach fun _ _ h => h.fwdSend

theorem Tidy.fwdCopyArrival {l j d rel : Nat} {ecc : Bool} (h : Tidy s₀ s) : Tidy s₀ (fwdCopyArrival l j d rel ecc s) :=
  (h.when fun _ h => h.imapEcc).andThen fun k => k.inc.ite (k.inc.inc.ite k.withCnv)

theorem Tidy.tapWrite {t v : Nat} (h : Tidy s₀ s) : Tidy s₀ (tapWrite t v s) :=
  (h.status.ite h.wr.status.setTap).ite <| h.wr.status.ite (h.status.ite (h.deny.status.ite h.wr.status.setTap))

theorem Tidy.imapWrite {l j v : Nat} (h : Tidy s₀ s) : Tidy s₀ (imapWrite l j v s) :=
  h.denyIf.status.andThen fun k => k.wrRW.ite k

theorem Tidy.fwdWrite {i v : Nat} (h : Tidy s₀ s) : Tidy s₀ (fwdWrite i v s) := h.wrRW.status

/-! #### The functions of Sys2Proof/Machine/Mast.lean -/

theorem Tidy.setG {y i v : Nat} (h : Tidy s₀ s) : Tidy s₀ (s.setG y i v) := h.wrN
theorem Tidy.setTq {y v : Nat} (h : Tidy s₀ s) : Tidy s₀ (s.setTq y v) := h.wrN
theorem Tidy.setPc {y v : Nat} (h : Tidy s₀ s) : Tidy s₀ (s.setPc y v) := h.setF
theorem Tidy.setLc {y j v : Nat} (h : Tidy s₀ s) : Tidy s₀ (s.setLc y j v) := h.wrN
theorem Tidy.faultUse {y pc w code : Nat} (h : Tidy s₀ s) : Tidy s₀ (faultUse y pc w code s) := h.denyIf.progFault
theorem Tidy.lostUse {y pc cls i : Nat} (h : Tidy s₀ s) : Tidy s₀ (lostUse y pc cls i s) := h.deny.progFault

/-- The loops that end at an instruction count in their LC registers only. -/
theorem Tidy.loopEnds {y pc : Nat} {ls : List LoopCtx} (h : Tidy s₀ s) : Tidy s₀ (loopEnds y pc ls s).2.2 := by
  induction ls generalizing s with
  | nil => exact h
  | cons l ls ih =>
    unfold Machine.loopEnds
    split
    · exact h
    · split
      · exact h
      · dsimp only
        split
        · exact h.setLc
        · exact ih h.setLc

theorem Tidy.retire {y pc : Nat} (h : Tidy s₀ s) : Tidy s₀ (retire y pc s) :=
  h.loopEnds.modMast.setPc

theorem Tidy.jumpTo {y a : Nat} (h : Tidy s₀ s) : Tidy s₀ (jumpTo y a s) := h.modMast.setPc
theorem Tidy.setClk {y t : Nat} (h : Tidy s₀ s) : Tidy s₀ (s.setClk y t) := h.modMast
theorem Tidy.aluEffect {y w : Nat} (h : Tidy s₀ s) : Tidy s₀ (aluEffect y w s) := h.setG

theorem Tidy.loopEffect {y pc w : Nat} (h : Tidy s₀ s) : Tidy s₀ (loopEffect y pc w s) := by
  unfold Machine.loopEffect
  exact h.setLc.modMast

theorem Tidy.sendTimed {y pc rel : Nat} {a : TAct} (h : Tidy s₀ s) : Tidy s₀ (sendTimed y pc rel a s) := by
  unfold Machine.sendTimed
  dsimp only
  split
  · exact h.withTon
  · exact h.withHal.hold
  · exact h.hold

theorem Tidy.timedIssue {y pc w t : Nat} (h : Tidy s₀ s) : Tidy s₀ (timedIssue y pc w t s) := by
  unfold Machine.timedIssue
  exact h.setMst.modMast.ite <| h.faultUse.ite (h.progFault.ite (h.progFault.ite h.sendTimed.setTq.setClk.retire))

theorem Tidy.waitdIssue {y pc w t : Nat} (h : Tidy s₀ s) : Tidy s₀ (waitdIssue y pc w t s) := by
  unfold Machine.waitdIssue
  split
  split
  split
  · exact h.faultUse
  · exact h.faultUse
  · exact h.modMast.setMst.setF

theorem Tidy.releaseStaged {y : Nat} {xs : List Staged} (h : Tidy s₀ s) : Tidy s₀ (releaseStaged y xs s) := by
  induction xs generalizing s with
  | nil => exact h
  | cons x xs ih =>
    unfold Machine.releaseStaged
    dsimp only
    exact h.progFault.ite (ih h.sendTimed.setPc.setTq.retire)

theorem Tidy.waitdTake {y d : Nat} {x : WaitD} {take : Bool} (h : Tidy s₀ s) : Tidy s₀ (waitdTake y d x take s) :=
  h.setF.modMast.progFault.ite <| h.setF.modMast.setMst.setClk.andThen fun k =>
    (k.setTq.jumpTo.ite k.setTq.setPc).releaseStaged

theorem Tidy.waitdDefault {y d : Nat} {x : WaitD} (h : Tidy s₀ s) : Tidy s₀ (waitdDefault y d x s) :=
  h.progFault.ite h.waitdTake

theorem Tidy.waitdResolve {y : Nat} (h : Tidy s₀ s) : Tidy s₀ (waitdResolve y s) := by
  unfold Machine.waitdResolve
  split
  · exact h
  · split
    · exact h
    · exact h.waitdDefault.ite h.waitdTake

theorem Tidy.waitdDeadline {y : Nat} (h : Tidy s₀ s) : Tidy s₀ (waitdDeadline y s) := by
  unfold Machine.waitdDeadline
  dsimp only
  split
  · exact h
  · exact h.ite h.inc.modMast.waitdDefault

theorem Tidy.syncWait {y mode trig edge tmo t : Nat} (h : Tidy s₀ s) : Tidy s₀ (syncWait y mode trig edge tmo t s) := by
  unfold Machine.syncWait
  exact h.setMst.modMast

theorem Tidy.syncEnd {y c t : Nat} (h : Tidy s₀ s) : Tidy s₀ (syncEnd y c t s) := by
  unfold Machine.syncEnd
  dsimp only
  split
  · exact h
  · exact h.progFault.ite h.setTq.setMst.modMast.setClk.retire

theorem Tidy.syncTimeout {y : Nat} (h : Tidy s₀ s) : Tidy s₀ (syncTimeout y s) := by
  unfold Machine.syncTimeout
  split
  · exact h
  · exact h.progFault.ite h

theorem Tidy.endIssue {y w : Nat} (h : Tidy s₀ s) : Tidy s₀ (endIssue y w s) := by
  unfold Machine.endIssue
  exact h.setMst.modMast

theorem Tidy.journalWrite {y : Nat} (h : Tidy s₀ s) : Tidy s₀ (journalWrite y s) := h.modMast

theorem Tidy.journalRestore {y : Nat} (h : Tidy s₀ s) : Tidy s₀ (journalRestore y s) :=
  (h.forEach fun _ _ h => h.wr).forEach fun _ _ h => h.setToneF.wr

theorem Tidy.mastStart {y t0 entry shot attempt : Nat} {rpass : Bool} (h : Tidy s₀ s) :
    Tidy s₀ (mastStart y t0 entry shot attempt rpass s) := by
  unfold Machine.mastStart
  exact (h.wrN.setTq.wrN.forEach fun _ _ h => h.setLc).setF.setF.setMst.setPc.modMast

theorem Tidy.ratHalt {y pc : Nat} (h : Tidy s₀ s) : Tidy s₀ (ratHalt y pc s) := h.setF.setF.setF.modMast.progFault
theorem Tidy.seqHostWrite {y a v : Nat} (h : Tidy s₀ s) : Tidy s₀ (seqHostWrite y a v s) := h.wrRW.ite h.inc

/-! #### The functions of Sys2Proof/Machine/Micro.lean -/

theorem Tidy.ucDone {c : UcCtx} {t : Nat} (h : Tidy s₀ s) : Tidy s₀ (ucDone c t s) := by
  unfold Machine.ucDone
  dsimp only
  split
  · exact h.setClk.jumpTo
  · exact h.setClk.retire

/-- A microword that lets its routine go on leaves a state that comes from `s` in the same way. -/
def UcTidy (s : State) : UcStep → Prop
  | .go _ _ t => Tidy s t
  | .wait _ _ _ => True
  | .fault _ => True

theorem UcTidy.ite {a b : UcStep} (ha : UcTidy s₀ a) (hb : UcTidy s₀ b) {c : Prop} {d : Decidable c} : UcTidy s₀ (if c then a else b) := by
  split
  · exact ha
  · exact hb

theorem Tidy.go {c : UcCtx} {n : Option Nat} {t : State} (h : Tidy s₀ t) : UcTidy s₀ (.go c n t) := h

theorem UcTidy.fault {e : Nat} : UcTidy s₀ (.fault e) := trivial
theorem UcTidy.wait {c : UcCtx} {n t : Nat} : UcTidy s₀ (.wait c n t) := trivial

theorem Tidy.ucWrite {c : UcCtx} {sel v : Nat} (h : Tidy s₀ s) : UcTidy s₀ (ucWrite c sel v s) := by
  unfold Machine.ucWrite
  exact .ite h.setG.go <| .ite h.setLc.go <| .ite h.setTq.go <| .ite h.go <| .ite h.go <| .ite h.go .fault

theorem Tidy.ucExec {c : UcCtx} {m : Nat} (h : Tidy s₀ s) : UcTidy s₀ (ucExec c m s) := by
  unfold Machine.ucExec
  dsimp only
  split
  case h_1 =>
    split
    · exact h.ucWrite
    · exact .fault
  case h_2 => exact .ite .fault h.ucWrite
  case h_3 =>
    split
    · exact .ite .fault h.ucWrite
    · exact .fault
  case h_4 => exact (h.inc.ite h.hold).go
  case h_5 => exact h.setF.modMast.go
  case h_6 =>
    split
    · exact h.go
    · split
      · exact h.go
      · exact .fault
    · split
      · exact h.go
      · exact .fault
    · exact .fault
  case h_7 =>
    refine .ite .fault ?_
    split
    · exact .wait
    · exact .fault
  case h_8 => exact h.withBus.yardRec.go
  case h_9 =>
    split
    · exact .ite (.ite .fault h.go) .fault
    · exact .fault
  case h_10 => exact .fault

theorem Tidy.ucRun {total t left a : Nat} {c : UcCtx} (h : Tidy s₀ s) : Tidy s₀ (ucRun total t left a c s) := by
  induction left generalizing a c s with
  | zero => exact h.ucDone
  | succ left ih =>
    unfold Machine.ucRun
    refine h.progFault.ite ?_
    have hm : UcTidy s₀ (Machine.ucExec c (s.ucFetch c.y a) s) := h.ucExec
    split <;> rename_i he
    · exact h.progFault
    · rw [he] at hm
      exact ih hm
    · exact h.setMst.modMast

theorem Tidy.ucIssue {y pc w t a : Nat} (h : Tidy s₀ s) : Tidy s₀ (ucIssue y pc w t a s) :=
  h.setMst.modMast.ite (h.progFault.ite h.modMast.ucRun)

theorem Tidy.ucResume {y cond : Nat} {ok : Bool} {jump : Option Nat} (h : Tidy s₀ s) :
    Tidy s₀ (ucResume y cond ok jump s) := by
  unfold Machine.ucResume
  dsimp only
  split
  · exact h.ite (h.setMst.modMast.ucDone.ite h.setMst.modMast)
  · exact h

theorem Tidy.ucRest {y : Nat} (h : Tidy s₀ s) : Tidy s₀ (ucRest y s) := by
  unfold Machine.ucRest
  dsimp only
  split
  · exact h.ite h.modMast.ucRun
  · exact h

theorem Tidy.ucDecision {y d : Nat} {x : WaitD} {take : Bool} (h : Tidy s₀ s) : Tidy s₀ (ucDecision y d x take s) :=
  (h.setF.modMast.setTq.forEach fun _ _ h => h.sendTimed).ucResume

theorem Tidy.ucWaitd {y : Nat} {deadline : Bool} (h : Tidy s₀ s) : Tidy s₀ (ucWaitd y deadline s) := by
  unfold Machine.ucWaitd
  dsimp only
  split
  · exact h
  · split
    · exact h.ite ((h.progFault.ite h.ucDecision).ite h.ucDecision)
    · exact (h.inc.modMast.progFault.ite h.inc.modMast.ucDecision).ite h

theorem Tidy.ucLenWrite {y v : Nat} (h : Tidy s₀ s) : Tidy s₀ (ucLenWrite y v s) := h.status.ite h.wrRW
theorem Tidy.ucLoad {y : Nat} (h : Tidy s₀ s) : Tidy s₀ (ucLoad y s) := h.status.ite h.status.setF.modMast

theorem Tidy.ucHeader {y : Nat} {bs : List (BitVec 8)} (h : Tidy s₀ s) : Tidy s₀ (ucHeader y bs s) := by
  unfold Machine.ucHeader
  dsimp only
  split
  · exact h
  · exact h.ite (h.status.setF.modMast.ite h.modMast)

theorem Tidy.ucBodyFail {y code : Nat} (h : Tidy s₀ s) : Tidy s₀ (ucBodyFail y code s) := by
  unfold Machine.ucBodyFail
  exact h.status.setF.setF.modMast

theorem Tidy.ucBody {y : Nat} {body : List (BitVec 8)} {sig : Bool} {ecc : Nat} (h : Tidy s₀ s) :
    Tidy s₀ (ucBody y body sig ecc s) := by
  unfold Machine.ucBody
  dsimp only
  split
  · exact h
  · exact h.ite <| ((h.withSeq (by exact id) (by exact twf_stList _ _ _)).when fun _ h => h.inc).andThen fun k =>
      k.ucBodyFail.ite <| k.ucBodyFail.ite (k.wrN.ucBodyFail.ite k.wrN.status.setF.setF.setF.modMast)

theorem Tidy.ucAbortLoad {y : Nat} (h : Tidy s₀ s) : Tidy s₀ (ucAbortLoad y s) := by
  unfold Machine.ucAbortLoad
  split
  · exact h
  · exact h.ucBodyFail.ite h.status.setF.modMast

theorem Tidy.ucRomOnly {y : Nat} (h : Tidy s₀ s) : Tidy s₀ (ucRomOnly y s) := h.status.ite h.status.setF.setF.modMast

theorem Tidy.ucVerify {y ecc : Nat} (h : Tidy s₀ s) : Tidy s₀ (ucVerify y ecc s) :=
  (h.wrN.when fun _ h => h.inc).andThen fun k => k.status.setF.ite (k.status.setF.ite k.status)

theorem Tidy.ucCtlWrite {y v : Nat} (h : Tidy s₀ s) : Tidy s₀ (ucCtlWrite y v s) := by
  unfold Machine.ucCtlWrite
  split
  · exact h
  · exact h.ucLoad
  · exact h.ucRomOnly
  · exact h.ucVerify
  · exact h.status

theorem Tidy.ucGovern {y : Nat} (h : Tidy s₀ s) : Tidy s₀ (ucGovern y s) := h.modMast
theorem Tidy.ucEcc {y kind : Nat} (h : Tidy s₀ s) : Tidy s₀ (ucEcc y kind s) := h.inc.ite (h.setF.ite h).progFault

/-! #### The functions of Sys2Proof/Machine/Issue.lean -/

theorem Tidy.issueAt {y : Nat} {k : Nat → Nat → Nat → State → State} (h : Tidy s₀ s)
    (hk : ∀ pc w t u, Tidy s₀ u → Tidy s₀ (k pc w t u)) : Tidy s₀ (issueAt y k s) := by
  unfold Machine.issueAt
  refine h.ratHalt.ite ?_
  split
  · exact h.progFault.ite h.ucIssue
  · exact h.progFault.ite (h.progFault.ite (hk _ _ _ s h))

theorem Tidy.issue {y : Nat} {o : MOp} {k : Nat → Nat → Nat → State → State} (h : Tidy s₀ s)
    (hk : ∀ pc w t u, Tidy s₀ u → Tidy s₀ (k pc w t u)) : Tidy s₀ (issue y o k s) :=
  (h.issueAt hk).ite h

theorem Tidy.untimed {y pc t : Nat} {f : State → State} (h : Tidy s₀ s) (hf : ∀ t, Tidy s₀ t → Tidy s₀ (f t)) :
    Tidy s₀ (untimed y pc t f s) :=
  (hf s h).setClk.retire

theorem Tidy.takeBranch {y a t : Nat} (h : Tidy s₀ s) : Tidy s₀ (takeBranch y a t s) := h.setClk.jumpTo

theorem Tidy.moveTq {y pc t tq : Nat} (h : Tidy s₀ s) : Tidy s₀ (moveTq y pc t tq s) :=
  h.progFault.ite (h.untimed fun _ h => h.setTq)

theorem Tidy.fetchEcc {y kind : Nat} (h : Tidy s₀ s) : Tidy s₀ (fetchEcc y kind s) := h.ite (h.progFault.ite h.ucEcc)

theorem Tidy.issueNop {y : Nat} (h : Tidy s₀ s) : Tidy s₀ (issueNop y s) :=
  h.issue fun _ _ _ _ h => h.untimed fun _ h => h

theorem Tidy.issueBad {y : Nat} (h : Tidy s₀ s) : Tidy s₀ (issueBad y s) := h.issue fun _ _ _ _ h => h.progFault
theorem Tidy.issueEnd {y : Nat} (h : Tidy s₀ s) : Tidy s₀ (issueEnd y s) := h.issue fun _ _ _ _ h => h.endIssue
theorem Tidy.issueWait {y : Nat} (h : Tidy s₀ s) : Tidy s₀ (issueWait y s) := h.issue fun _ _ _ _ h => h.moveTq

theorem Tidy.issueSyncGroup {y : Nat} (h : Tidy s₀ s) : Tidy s₀ (issueSyncGroup y s) :=
  h.issue fun _ _ _ _ h => h.syncWait

theorem Tidy.issueSyncTrig {y : Nat} (h : Tidy s₀ s) : Tidy s₀ (issueSyncTrig y s) :=
  h.issue fun _ _ _ _ h => h.faultUse.ite h.syncWait

theorem Tidy.issueSyncAlign {y : Nat} (h : Tidy s₀ s) : Tidy s₀ (issueSyncAlign y s) := h.issue fun _ _ _ _ h => h.moveTq
theorem Tidy.issueFence {y : Nat} (h : Tidy s₀ s) : Tidy s₀ (issueFence y s) := h.issue fun _ _ _ _ h => h.setMst.modMast
theorem Tidy.issueBr {y : Nat} (h : Tidy s₀ s) : Tidy s₀ (issueBr y s) := h.issue fun _ _ _ _ h => h.takeBranch

theorem Tidy.issueBrc {y : Nat} (h : Tidy s₀ s) : Tidy s₀ (issueBrc y s) :=
  h.issue fun _ _ _ _ h => h.takeBranch.ite (h.untimed fun _ h => h)

theorem Tidy.issueWaitd {y : Nat} (h : Tidy s₀ s) : Tidy s₀ (issueWaitd y s) :=
  h.issue fun _ _ _ _ h => h.faultUse.ite (h.waitdIssue.ite h)

theorem Tidy.issueLoop {y : Nat} (h : Tidy s₀ s) : Tidy s₀ (issueLoop y s) :=
  h.issue fun _ _ _ _ h => h.progFault.ite h.loopEffect.setClk.setPc

theorem Tidy.issueMovi {y : Nat} (h : Tidy s₀ s) : Tidy s₀ (issueMovi y s) :=
  h.issue fun _ _ _ _ h => h.untimed fun _ h => h.setG

theorem Tidy.issueAlu {y : Nat} (h : Tidy s₀ s) : Tidy s₀ (issueAlu y s) :=
  h.issue fun _ _ _ _ h => h.untimed fun _ h => h.aluEffect

theorem Tidy.issueGets {y : Nat} (h : Tidy s₀ s) : Tidy s₀ (issueGets y s) :=
  h.issue fun _ _ _ _ h => h.untimed fun _ h => h.setG

theorem Tidy.issueLdd {y : Nat} (h : Tidy s₀ s) : Tidy s₀ (issueLdd y s) :=
  h.issue fun _ _ _ _ h => h.faultUse.ite h.setMst.modMast

theorem Tidy.issueResult {y : Nat} (h : Tidy s₀ s) : Tidy s₀ (issueResult y s) :=
  h.issue fun _ _ _ _ h => h.untimed fun _ h => h.yardRec

theorem Tidy.issueTimed {y : Nat} {o : MOp} (h : Tidy s₀ s) : Tidy s₀ (issueTimed y o s) := by
  unfold Machine.issueTimed
  exact h.issue fun _ _ _ _ h => h.timedIssue

theorem Tidy.syncFinish {y c t : Nat} (h : Tidy s₀ s) : Tidy s₀ (syncFinish y c t s) :=
  h.setTq.modMast.ucResume.ite h.syncEnd

theorem Tidy.syncSatisfied {y : Nat} (h : Tidy s₀ s) : Tidy s₀ (syncSatisfied y s) := by
  unfold Machine.syncSatisfied
  dsimp only
  split
  · exact h
  · refine ((h.forEach fun _ _ h => h.syncFinish).ite h).ite ?_
    split
    · exact h
    · exact (h.lostUse.ite h.syncFinish).ite h

theorem Tidy.issueStallEnd {y : Nat} (h : Tidy s₀ s) : Tidy s₀ (issueStallEnd y s) := by
  unfold Machine.issueStallEnd
  split
  · exact h.setMst.modMast.ite h
  · exact h.ucRest.ite h.ucResume
  · exact h

theorem Tidy.fenceComplete {y : Nat} (h : Tidy s₀ s) : Tidy s₀ (fenceComplete y s) := by
  unfold Machine.fenceComplete
  dsimp only
  split
  · exact h.setMst.modMast.retire.ite h
  · exact h.ucResume
  · exact h

theorem Tidy.lddResolve {y : Nat} (h : Tidy s₀ s) : Tidy s₀ (lddResolve y s) := by
  unfold Machine.lddResolve
  dsimp only
  split
  · exact h.ite (h.lostUse.ite h.setMst.modMast.setG.retire)
  · exact h

/-! #### The functions of Sys2Proof/Machine/Decoder.lean -/

theorem Tidy.setCtx {x : Nat} {c : DCtx} (h : Tidy s₀ s) : Tidy s₀ (s.setCtx x c) := h.withDec
theorem Tidy.modCtx {x : Nat} {f : DCtx → DCtx} (h : Tidy s₀ s) : Tidy s₀ (s.modCtx x f) := h.setCtx
theorem Tidy.setXst {x v : Nat} (h : Tidy s₀ s) : Tidy s₀ (s.setXst x v) := h.setF
theorem Tidy.decBacklog {x : Nat} (h : Tidy s₀ s) : Tidy s₀ (decBacklog x s) := h.setF

theorem Tidy.decEnWrite {x v : Nat} {ecc : Bool} (h : Tidy s₀ s) : Tidy s₀ (decEnWrite x v ecc s) :=
  h.status.ite <| (h.denyIf.wrN.status.setF.setXst.setF.setCtx.ite h.denyIf.wrN.status).ite <|
    h.setF.setXst.setCtx.status.ite h.status

theorem Tidy.decCfgWrite {x a v : Nat} (h : Tidy s₀ s) : Tidy s₀ (decCfgWrite x a v s) := h.status.ite h.wrRW

theorem Tidy.graphWrite {a : Nat} {bs : List (BitVec 8)} (h : Tidy s₀ s) : Tidy s₀ (graphWrite a bs s) :=
  h.inc.ite (h.withDec (by exact twf_stList _ _ _))

theorem Tidy.decCommit {x : Nat} {corr : List Nat} (h : Tidy s₀ s) : Tidy s₀ (decCommit x corr s) := by
  unfold Machine.decCommit
  dsimp only
  split
  · exact h
  · split
    · exact h.setCtx
    · exact h.setCtx

theorem Tidy.rawRecord {x : Nat} {r : DRound} (h : Tidy s₀ s) : Tidy s₀ (rawRecord x r s) := h.emitRec

theorem Tidy.logicalRecord {x : Nat} (h : Tidy s₀ s) : Tidy s₀ (logicalRecord x s) := by
  unfold Machine.logicalRecord
  dsimp only
  split
  · exact h.setCtx.wrN.emitRec.ite h
  · exact h

theorem Tidy.decOverload {x : Nat} (h : Tidy s₀ s) : Tidy s₀ (decOverload x s) :=
  (h.setXst.setF.inc.markGroup.forEach fun _ _ h => h.rawRecord).setCtx.decBacklog

theorem Tidy.closeRound {x : Nat} {o : DOpen} {at_ : Nat} (h : Tidy s₀ s) : Tidy s₀ (closeRound x o at_ s) :=
  h.inc.incBy.setF.setCtx.rawRecord.ite <| h.inc.incBy.setF.setCtx.decOverload.ite
    (h.inc.incBy.setF.setCtx.rawRecord.ite h.inc.incBy.setF.setCtx).decBacklog

theorem Tidy.closeOldest {x at_ : Nat} (h : Tidy s₀ s) : Tidy s₀ (closeOldest x at_ s) := by
  unfold Machine.closeOldest
  dsimp only
  split
  · exact h
  · split
    · exact h.modCtx.closeRound.modCtx.closeRound.ite h.modCtx.closeRound
    · exact h.modCtx.closeRound

theorem Tidy.joinRound {x : Nat} {final : Bool} {b : DBit} {rel : Nat} (h : Tidy s₀ s) :
    Tidy s₀ (joinRound x final b rel s) :=
  (h.setCtx.when fun _ h => h.inc).ite (h.setCtx.ite (h.modCtx.inc.closeOldest.ite h).modCtx)

theorem Tidy.detectorArrival {d : Nat} (h : Tidy s₀ s) : Tidy s₀ (detectorArrival d s) := by
  unfold Machine.detectorArrival
  dsimp only
  split
  · exact h
  · split
    · exact h.withCnv.joinRound.ite h.withCnv.inc
    · exact h.withCnv.inc

theorem Tidy.takeDets (h : Tidy s₀ s) : Tidy s₀ (takeDets s) := h.forEach fun _ _ h => h.detectorArrival

theorem Tidy.roundClose {x : Nat} (h : Tidy s₀ s) : Tidy s₀ (roundClose x s) := by
  unfold Machine.roundClose
  dsimp only
  split
  · exact h.closeOldest.ite h
  · exact h

theorem Tidy.roundDeadline {x : Nat} (h : Tidy s₀ s) : Tidy s₀ (roundDeadline x s) := by
  unfold Machine.roundDeadline
  dsimp only
  split
  · exact h.takeDets.closeOldest.ite h.takeDets
  · exact h.takeDets

theorem Tidy.roundClockClose {x : Nat} (h : Tidy s₀ s) : Tidy s₀ (roundClockClose x s) := by
  unfold Machine.roundClockClose
  refine Tidy.ite ?_ h.takeDets
  split
  · exact h.takeDets.setCtx.incBy.closeRound
  · exact h.takeDets.setCtx.closeRound

theorem Tidy.decodeWindow {x at_ v : Nat} (h : Tidy s₀ s) : Tidy s₀ (decodeWindow x at_ v s) := h.setCtx.ite h.decCommit

theorem Tidy.decodeStart {x : Nat} {ecc : Bool} (h : Tidy s₀ s) : Tidy s₀ (decodeStart x ecc s) := by
  unfold Machine.decodeStart
  dsimp only
  split
  · exact h.ite ((h.report.ite h).decOverload.ite (h.report.ite h)).modCtx.decodeWindow
  · exact h.ite <| (h.report.ite h).decOverload.ite ((h.report.ite h).decOverload.ite (h.report.ite
      h)).modCtx.decBacklog.decodeWindow
  · exact h

theorem Tidy.boundarySend {x l start : Nat} {cur : DCur} (h : Tidy s₀ s) : Tidy s₀ (boundarySend x l start cur s) := by
  unfold Machine.boundarySend
  exact h.keep.ite h.inc

theorem Tidy.answerPass {x l : Nat} {m : Option BMsg} (h : Tidy s₀ s) : Tidy s₀ (answerPass x l m s) := by
  unfold Machine.answerPass
  dsimp only
  split
  · exact h
  · exact (h.inc.setF.setF.report.ite h).andThen fun k => k.setCtx.ite <| (k.when fun _ h => h.setF).andThen fun k =>
      k.setCtx.decCommit.ite k.setCtx

theorem Tidy.passAnswers {x : Nat} (h : Tidy s₀ s) : Tidy s₀ (passAnswers x s) := by
  unfold Machine.passAnswers
  split
  · exact h
  · refine h.ite (h.forEach fun _ _ h => ?_)
    split
    · exact h.answerPass.ite h
    · exact h

theorem Tidy.boundaryPass {x : Nat} (h : Tidy s₀ s) : Tidy s₀ (boundaryPass x s) := by
  unfold Machine.boundaryPass
  dsimp only
  split
  · exact h
  · refine h.ite ?_
    split
    · exact h.passAnswers
    · exact h.passAnswers.setCtx.forEach fun _ _ h => h.boundarySend

theorem Tidy.boundaryArrival {x l : Nat} {m : Option BMsg} (h : Tidy s₀ s) : Tidy s₀ (boundaryArrival x l m s) := by
  unfold Machine.boundaryArrival
  dsimp only
  split
  · exact h
  · refine h.ite ?_
    split
    · exact (h.when fun _ h => h.inc).ite h.modCtx.passAnswers
    · exact h.passAnswers

theorem Tidy.sendItem {x rel q p : Nat} (h : Tidy s₀ s) : Tidy s₀ (sendItem x rel q p s) := by
  unfold Machine.sendItem
  dsimp only
  split
  · exact h.setCtx.send
  · exact h

theorem Tidy.clearMirror {x rel : Nat} (h : Tidy s₀ s) : Tidy s₀ (clearMirror x rel s) :=
  h.forEach fun _ _ h => h.sendItem

theorem Tidy.frameItemSend {x : Nat} (h : Tidy s₀ s) : Tidy s₀ (frameItemSend x s) := by
  unfold Machine.frameItemSend
  dsimp only
  split
  · exact ((h.modCtx.forEach fun _ _ h => h.sendItem).andThen fun k => k.clearMirror.ite k).ite h
  · exact h

theorem Tidy.decAttemptStart {g o : Nat} (h : Tidy s₀ s) : Tidy s₀ (decAttemptStart g o s) :=
  h.forEach fun _ _ h => (h.when fun _ h => h.nextFree).andThen fun k =>
    (k.setF.setCtx.ite k.setF.setCtx.setXst).andThen fun k => k.decOverload.ite k.decBacklog

theorem Tidy.closeAll {x at_ : Nat} (h : Tidy s₀ s) : Tidy s₀ (closeAll x at_ s) :=
  h.modCtx.forEach fun _ _ h => h.closeRound

theorem Tidy.decAttemptEnd {g : Nat} (h : Tidy s₀ s) : Tidy s₀ (decAttemptEnd g s) :=
  h.forEach fun _ _ h => h.ite <| h.modCtx.closeAll.clearMirror.andThen fun k =>
    k.modCtx.setXst.decBacklog.ite k.modCtx.setCtx.setXst.decBacklog

theorem Tidy.decFlushComplete {x : Nat} (h : Tidy s₀ s) : Tidy s₀ (decFlushComplete x s) := h.setXst.ite h

theorem Tidy.decAbort {g : Nat} (h : Tidy s₀ s) : Tidy s₀ (decAbort g s) :=
  h.forEach fun _ _ h => h.modCtx.clearMirror.modCtx.setXst.decBacklog

theorem Tidy.decSafe (h : Tidy s₀ s) : Tidy s₀ (decSafe s) := h.forEach fun _ _ h => h.modCtx.modCtx.setXst.decBacklog
theorem Tidy.decArm {g : Nat} (h : Tidy s₀ s) : Tidy s₀ (decArm g s) := h.forEach fun _ _ h => h.modCtx

theorem Tidy.decRecheck (h : Tidy s₀ s) : Tidy s₀ (decRecheck s) :=
  h.forEach fun _ _ h => h.ite h.setF.setXst.setCtx.status

/-! #### The functions of Sys2Proof/Machine/Queue.lean -/

theorem Tidy.toHost {o : HostOut} (h : Tidy s₀ s) : Tidy s₀ (s.toHost o) := h.withHif
theorem Tidy.fireVec {v : Nat} (h : Tidy s₀ s) : Tidy s₀ (fireVec v s) := (h.ite h.withHif).ite h.toHost
theorem Tidy.msixWrite {w v : Nat} (h : Tidy s₀ s) : Tidy s₀ (msixWrite w v s) := h.withHif.withHif.toHost.ite h.withHif
theorem Tidy.setQue {q : Nat} {x : Que} (h : Tidy s₀ s) : Tidy s₀ (s.setQue q x) := h.withHif
theorem Tidy.modQue {q : Nat} {f : Que → Que} (h : Tidy s₀ s) : Tidy s₀ (s.modQue q f) := h.setQue
theorem Tidy.showQue {q : Nat} (h : Tidy s₀ s) : Tidy s₀ (showQue q s) := (h.forEach fun _ _ h => h.wrN).wrN.wrN.wrN
theorem Tidy.qStatus {q code : Nat} (h : Tidy s₀ s) : Tidy s₀ (qStatus q code s) := h.modQue.wrN.denyIf
theorem Tidy.qidxWrite {v : Nat} (h : Tidy s₀ s) : Tidy s₀ (qidxWrite v s) := h.wrN.showQue
theorem Tidy.qWrite (h : Tidy s₀ s) : Tidy s₀ (qWrite s) := h.qStatus.ite h.modQue.qStatus
theorem Tidy.qEnable (h : Tidy s₀ s) : Tidy s₀ (qEnable s) := h.qStatus.ite (h.qStatus.ite h.modQue.qStatus.wrN.wrN)
theorem Tidy.qDisable (h : Tidy s₀ s) : Tidy s₀ (qDisable s) := h.modQue.qStatus
theorem Tidy.qResume (h : Tidy s₀ s) : Tidy s₀ (qResume s) := h.qStatus.ite h.modQue.qStatus

theorem Tidy.qcmdWrite {v : Nat} (h : Tidy s₀ s) : Tidy s₀ (qcmdWrite v s) := by
  unfold Machine.qcmdWrite
  split
  · exact h.qWrite
  · exact h.qEnable
  · exact h.qDisable
  · exact h.qResume

theorem Tidy.ringWrite {q off : Nat} {bs : List (BitVec 8)} (h : Tidy s₀ s) : Tidy s₀ (ringWrite q off bs s) :=
  (h.withCnv (by exact twf_stList _ _ _)).ite h.toHost

theorem Tidy.writeBack {q i : Nat} (h : Tidy s₀ s) : Tidy s₀ (writeBack q i s) := h.ite h.toHost
theorem Tidy.qVisible {q n : Nat} (h : Tidy s₀ s) : Tidy s₀ (qVisible q n s) := h.setQue.fireVec.ite h.setQue

theorem Tidy.irqTimer {q : Nat} (h : Tidy s₀ s) : Tidy s₀ (irqTimer q s) := by
  unfold Machine.irqTimer
  dsimp only
  split
  · exact h.setQue.fireVec.ite h
  · exact h

theorem Tidy.takeSlot {q : Nat} {ws : List Nat} (h : Tidy s₀ s) : Tidy s₀ (takeSlot q ws s) :=
  h.ringWrite.modQue.writeBack.qVisible

theorem Tidy.placeEntry {q : Nat} {mk : Bool} {ws : List Nat} (h : Tidy s₀ s) : Tidy s₀ (placeEntry q mk ws s) :=
  h.modQue.inc.ite (h.modQue.takeSlot.ite (h.modQue.inc.ite h.modQue.inc))

theorem Tidy.unspill {q n : Nat} (h : Tidy s₀ s) : Tidy s₀ (unspill q n s) := by
  induction n generalizing s with
  | zero => exact h
  | succ n ih =>
    unfold Machine.unspill
    dsimp only
    split
    · exact (ih h.modQue.takeSlot).ite h
    · exact h

theorem Tidy.resultEntry {prod : Nat} (h : Tidy s₀ s) : Tidy s₀ (resultEntry prod s) := by
  unfold Machine.resultEntry
  dsimp only
  split
  · exact h
  · exact h.ite <| (h.withBus.when fun _ h => h.modMast).andThen fun k => k.ite <| (k.when fun _ h =>
      h.inc).placeEntry.forEach fun _ _ h => h.placeEntry

theorem Tidy.dbDrop {q cause : Nat} (h : Tidy s₀ s) : Tidy s₀ (dbDrop q cause s) := h.inc.wrN

theorem Tidy.queueDoorbell {q n v : Nat} (h : Tidy s₀ s) : Tidy s₀ (queueDoorbell q n v s) :=
  h.dbDrop.ite <| h.dbDrop.ite <| h.dbDrop.ite (h.dbDrop.ite ((h.dbDrop.ite h.modQue.unspill).ite (h.dbDrop.ite
    h.modQue)))

theorem Tidy.fenceDoorbell {q n v : Nat} (h : Tidy s₀ s) : Tidy s₀ (fenceDoorbell q n v s) :=
  h.dbDrop.ite (h.dbDrop.ite (h.dbDrop.ite (h.dbDrop.ite h.modQue)))

theorem Tidy.fencePlace {q : Nat} (h : Tidy s₀ s) : Tidy s₀ (fencePlace q s) := by
  unfold Machine.fencePlace
  dsimp only
  split
  · exact h.ite h.modQue.placeEntry
  · exact h

theorem Tidy.queueDrained {q : Nat} (h : Tidy s₀ s) : Tidy s₀ (queueDrained q s) := h.modQue.ite h

theorem Tidy.yqidWrite {y v : Nat} (h : Tidy s₀ s) : Tidy s₀ ((yqidWrite y v s).1) :=
  Tidy.iteFst h.deny (Tidy.iteFst h h.wrN)

theorem Tidy.modDesc {q i : Nat} {f : Desc → Desc} (h : Tidy s₀ s) : Tidy s₀ (modDesc q i f s) := h.modQue

theorem Tidy.advanceCons {q n : Nat} (h : Tidy s₀ s) : Tidy s₀ (advanceCons q n s) := by
  induction n generalizing s with
  | zero => exact h
  | succ n ih =>
    unfold Machine.advanceCons
    dsimp only
    split
    · exact (ih h.setQue.writeBack).ite h
    · exact h

theorem Tidy.descDone {q i code : Nat} (h : Tidy s₀ s) : Tidy s₀ (descDone q i code s) := by
  unfold Machine.descDone
  dsimp only
  split
  · exact h
  · exact (h.ringWrite.ringWrite.changeSeg.ite h.ringWrite.ringWrite).modDesc.advanceCons.andThen fun k =>
      k.modQue.fireVec.ite k.qVisible

theorem Tidy.descFetch {q : Nat} {ws : List Nat} {ecc : Bool} (h : Tidy s₀ s) : Tidy s₀ (descFetch q ws ecc s) := by
  unfold Machine.descFetch
  refine h.setQue.ite (h.ite ((h.setQue.modDesc.changeSeg.ite h.setQue.modDesc).ite (Tidy.descDone ?_)))
  split
  · exact h.setQue.denyIf.when fun _ h => h.shrDeny
  · exact h.setQue.denyIf

theorem Tidy.ozlQueueBy {q i l cls : Nat} {ps : List Nat} (h : Tidy s₀ s) : Tidy s₀ (ozlQueueBy q i l cls ps s) :=
  h.withOzl

theorem Tidy.ozlQueue {l cls : Nat} {ps : List Nat} (h : Tidy s₀ s) : Tidy s₀ (ozlQueue l cls ps s) := h.ozlQueueBy
theorem Tidy.batchSend {y c n : Nat} (h : Tidy s₀ s) : Tidy s₀ (batchSend y c n s) := h.send.ite h.withHal

theorem Tidy.strmAppend {u moved : Nat} {bs : List (BitVec 8)} (h : Tidy s₀ s) : Tidy s₀ (strmAppend u moved bs s) :=
  (h.withHal (by exact twf_ringStore _ _ _ _ _)).andThen fun k => k.setStrm.ite k.setStrm.batchSend

theorem Tidy.seqPut {y off : Nat} {bs : List (BitVec 8)} (h : Tidy s₀ s) : Tidy s₀ (seqPut y off bs s) :=
  (h.withSeq (by exact twf_stList _ _ _)).ite h.inc

theorem Tidy.dstWrite {q : Nat} {d : Desc} {bs : List (BitVec 8)} (h : Tidy s₀ s) : Tidy s₀ (dstWrite q d bs s) := by
  unfold Machine.dstWrite
  dsimp only
  split
  · exact h.toHost
  · exact h.withCnv (by exact twf_stList _ _ _)
  · exact h.withHal (by exact twf_stList _ _ _)
  · exact h.seqPut
  · exact h.withDec (by exact twf_stList _ _ _)
  · exact h.withWch (by exact twf_stList _ _ _)
  · exact h.strmAppend
  · exact (h.ozlQueueBy.ite h).ozlQueueBy

theorem Tidy.descMoved {q i n : Nat} (h : Tidy s₀ s) : Tidy s₀ (descMoved q i n s) := h.modDesc

theorem Tidy.dmaCopy {q i : Nat} {bs : List (BitVec 8)} (h : Tidy s₀ s) : Tidy s₀ (dmaCopy q i bs s) := by
  unfold Machine.dmaCopy
  dsimp only
  split
  · exact h
  · exact h.ite h.dstWrite.descMoved

theorem Tidy.dmaFence {q i : Nat} (h : Tidy s₀ s) : Tidy s₀ (dmaFence q i s) := by
  unfold Machine.dmaFence
  split
  · exact h
  · exact h.modDesc.ite h

theorem Tidy.dmaRqcopy {q i : Nat} (h : Tidy s₀ s) : Tidy s₀ (dmaRqcopy q i s) := by
  unfold Machine.dmaRqcopy
  split
  · exact h.modDesc.ite h
  · exact h

theorem Tidy.burstEnd {q i n : Nat} {d : Desc} (h : Tidy s₀ s) : Tidy s₀ (burstEnd q i n d s) := by
  unfold Machine.burstEnd
  dsimp only
  split
  · exact h.descMoved.ringAdvance
  · exact h.descMoved

theorem Tidy.rqcopyBurst {q i : Nat} (h : Tidy s₀ s) : Tidy s₀ (rqcopyBurst q i s) := by
  unfold Machine.rqcopyBurst
  dsimp only
  split
  · exact h
  · refine h.ite (((h.burstEnd.ite h.descDone).ite h).ite ?_)
    split
    · exact h
    · exact h.ite (h.dstWrite.modDesc.ite h.dstWrite.burstEnd)

theorem Tidy.descComplete {q i : Nat} (h : Tidy s₀ s) : Tidy s₀ (descComplete q i s) := by
  unfold Machine.descComplete
  split
  · exact h
  · exact h.ite h.descDone

theorem Tidy.dmaReadFail {q i : Nat} (h : Tidy s₀ s) : Tidy s₀ (dmaReadFail q i s) := by
  unfold Machine.dmaReadFail
  dsimp only
  split
  · exact h.descDone.ite h
  · exact h.setQue.ite h

theorem Tidy.dmaAbortAll {code : Nat} (h : Tidy s₀ s) : Tidy s₀ (dmaAbortAll code s) :=
  h.forEach fun _ _ h => h.forEach fun _ _ h => h.descDone

theorem Tidy.dmaLinkDown {l : Nat} (h : Tidy s₀ s) : Tidy s₀ (dmaLinkDown l s) :=
  h.forEach fun _ _ h => h.forEach fun _ _ h => h.descDone

theorem Tidy.dmaTraceDrop {q i : Nat} (h : Tidy s₀ s) : Tidy s₀ (dmaTraceDrop q i s) := h.modDesc
theorem Tidy.owe {l cls : Nat} (h : Tidy s₀ s) : Tidy s₀ (owe l cls s) := h.withOzl
theorem Tidy.inSeg {i : XferIn} {v : SegState} (h : Tidy s₀ s) : Tidy s₀ (inSeg i v s) := h.changeSeg.ite h
theorem Tidy.insDrop {l : Nat} (h : Tidy s₀ s) : Tidy s₀ (insDrop l s) := (h.forEach fun _ _ h => h.inSeg).withHif

theorem Tidy.postedHdr {l cls p part : Nat} (h : Tidy s₀ s) : Tidy s₀ (postedHdr l cls p part s) :=
  h.withHif.owe.inSeg.ite h.withHif.owe.denyIf.ozlQueue

theorem Tidy.inWrite {i : XferIn} {bs : List (BitVec 8)} (h : Tidy s₀ s) : Tidy s₀ (inWrite i bs s) := h.dstWrite
theorem Tidy.putIn {i j : XferIn} (h : Tidy s₀ s) : Tidy s₀ (putIn i j s) := h.withHif

theorem Tidy.postedData {l cls p : Nat} (h : Tidy s₀ s) : Tidy s₀ (postedData l cls p s) := by
  unfold Machine.postedData
  dsimp only
  split
  · exact h
  · exact (h.inWrite.ite h).andThen fun k => (k.inSeg.ite k).putIn.owe

theorem Tidy.postedNack {l p : Nat} (h : Tidy s₀ s) : Tidy s₀ (postedNack l p s) := by
  unfold Machine.postedNack
  dsimp only
  split
  · exact h.owe.modDesc.descDone
  · exact h.owe

theorem Tidy.resultFlit {l p : Nat} (h : Tidy s₀ s) : Tidy s₀ (resultFlit l p s) := by
  unfold Machine.resultFlit
  refine h.withHif.owe.ite ?_
  split
  · exact h
  · exact h.putIn.owe.placeEntry.ite h.putIn.owe

theorem Tidy.sealDrop {off p : Nat} (h : Tidy s₀ s) : Tidy s₀ (sealDrop off p s) := h.shrDeny.inc

theorem Tidy.waveWrite {q off : Nat} {bs : List (BitVec 8)} (h : Tidy s₀ s) : Tidy s₀ (waveWrite q off bs s) := by
  have hw (xs : List (Nat × BitVec 8)) : twf s.hal.wave = true → twf (xs.foldl (fun m (i, b) =>
      if i < 12582912 ∧ s.sampleFree q (i / 6) then stByte m (12582912 * q + i) b else m) s.hal.wave) = true :=
    swf_foldl (fun m x hm => by
      dsimp only
      split
      · exact twf_stByte m _ _ hm
      · exact hm) xs _
  unfold Machine.waveWrite Machine.State.when
  dsimp only
  split
  · exact h.inc.withHal (hw _)
  · exact h.withHal (hw _)

theorem Tidy.bar2Put {k u off : Nat} {bs : List (BitVec 8)} (h : Tidy s₀ s) : Tidy s₀ (bar2Put k u off bs s) := by
  unfold Machine.bar2Put
  dsimp only
  split
  · exact h.withCnv (by exact twf_stList _ _ _)
  · exact h.waveWrite
  · exact h.seqPut
  · exact h.graphWrite
  · exact (h.withWch (by exact twf_stList _ _ _)).ite h.inc

theorem Tidy.bar2Piece {a : Nat} {bs : List (BitVec 8)} (h : Tidy s₀ s) : Tidy s₀ (bar2Piece a bs s) := by
  unfold Machine.bar2Piece
  split
  · exact h
  · split
    · exact h.sealDrop
    · exact h.bar2Put

theorem Tidy.bar2Write {a : Nat} {bs : List (BitVec 8)} (h : Tidy s₀ s) : Tidy s₀ (bar2Write a bs s) :=
  h.bar2Piece.bar2Piece.ite h.bar2Piece

theorem Tidy.pcieLinkUp {rate width : Nat} {flit : Bool} (h : Tidy s₀ s) : Tidy s₀ (pcieLinkUp rate width flit s) :=
  h.wrN.withHif.forEach fun _ _ h => h.unspill

theorem Tidy.loadFails {d : Desc} (h : Tidy s₀ s) : Tidy s₀ (loadFails d s) := h.changeSeg.ite h

theorem Tidy.pcieReset (h : Tidy s₀ s) : Tidy s₀ (pcieReset s) :=
  h.wrN.withHif.forEach fun _ _ h => (h.forEach fun _ _ h => h.loadFails).setQue.ite h

/-! #### The functions of Sys2Proof/Machine/Winch.lean -/

theorem Tidy.setCore {x : Nat} {c : Core} (h : Tidy s₀ s) : Tidy s₀ (s.setCore x c) := h.withWch
theorem Tidy.setWst {x v : Nat} (h : Tidy s₀ s) : Tidy s₀ (s.setWst x v) := h.setF
theorem Tidy.setWD {x i v : Nat} (h : Tidy s₀ s) : Tidy s₀ (s.setWD x i v) := h.wrN
theorem Tidy.setWAcc {x n v : Nat} (h : Tidy s₀ s) : Tidy s₀ (s.setWAcc x n v) := h.wrN.wrN
theorem Tidy.setWSpr {x k v : Nat} (h : Tidy s₀ s) : Tidy s₀ (s.setWSpr x k v) := h.wrN.ite h.wrN
theorem Tidy.setWLA {x : Nat} {b : Bool} (h : Tidy s₀ s) : Tidy s₀ (s.setWLA x b) := h.setF
theorem Tidy.setWPC {x v : Nat} (h : Tidy s₀ s) : Tidy s₀ (s.setWPC x v) := h.setF
theorem Tidy.wWake {x : Nat} (h : Tidy s₀ s) : Tidy s₀ (wWake x s) := h.setWst.ite h
theorem Tidy.wSetPend {x : Nat} {f : Fld} (h : Tidy s₀ s) : Tidy s₀ (wSetPend x f s) := h.setF.wWake

theorem Tidy.setWWord {x a v : Nat} (h : Tidy s₀ s) : Tidy s₀ (s.setWWord x a v) :=
  h.withWch (by exact twf_stBytes _ _ _ _)

theorem Tidy.wFault {x code : Nat} (h : Tidy s₀ s) : Tidy s₀ (wFault x code s) := h.setWst.setF.wrN

theorem Tidy.wRetire {x : Nat} (h : Tidy s₀ s) : Tidy s₀ (wRetire x s) :=
  (h.setWPC.ite (h.setWSpr.setWPC.ite h.setWSpr.setWLA.setWPC)).ite h.setWPC

theorem Tidy.wJump {x t : Nat} (h : Tidy s₀ s) : Tidy s₀ (wJump x t s) := (h.setWLA.ite h).setWPC
theorem Tidy.ratHalts {x : Nat} (h : Tidy s₀ s) : Tidy s₀ (ratHalts x s) := h.setWst.setF

theorem Tidy.wExec {x op : Nat} {f : Nat → State → State} (h : Tidy s₀ s) (hf : ∀ w t, Tidy s₀ t → Tidy s₀ (f w t)) :
    Tidy s₀ (wExec x op f s) :=
  h.ite (h.ratHalts.ite (h.wFault.ite (h.wFault.ite (hf _ s h))))

theorem Tidy.wPlain {x op : Nat} {f : Nat → State → State} (h : Tidy s₀ s) (hf : ∀ w t, Tidy s₀ t → Tidy s₀ (f w t)) :
    Tidy s₀ (wPlain x op f s) :=
  h.wExec fun w t h => (hf w t h).wRetire

theorem Tidy.wMac {x n a b : Nat} {cx cj neg clr : Bool} (h : Tidy s₀ s) : Tidy s₀ (wMac x n a b cx cj neg clr s) :=
  h.setWAcc.when fun _ h => h.setF

theorem Tidy.wClamp {x n : Nat} (h : Tidy s₀ s) : Tidy s₀ (wClamp x n s) := h.setWSpr.setF.inc.ite h
theorem Tidy.wStep {x n step : Nat} (h : Tidy s₀ s) : Tidy s₀ (wStep x n step s) := h.setWSpr

theorem Tidy.wAccess {x n : Nat} {f : Nat → State → State} (h : Tidy s₀ s) (hf : ∀ a t, Tidy s₀ t → Tidy s₀ (f a t)) :
    Tidy s₀ (wAccess x n f s) :=
  h.wClamp.wFault.ite (hf _ _ h.wClamp)

theorem Tidy.wNop {x ecc : Nat} (h : Tidy s₀ s) : Tidy s₀ (wNop x ecc s) :=
  h.inc.ite (h.wFault.ite ((h.ratHalts.ite h.wFault).ite (h.wPlain fun _ _ h => h)))

theorem Tidy.wMov {x : Nat} (h : Tidy s₀ s) : Tidy s₀ (wMov x s) := h.wPlain fun _ _ h => h.setWD
theorem Tidy.wMovi {x : Nat} (h : Tidy s₀ s) : Tidy s₀ (wMovi x s) := h.wPlain fun _ _ h => h.setWD
theorem Tidy.wMovs {x : Nat} (h : Tidy s₀ s) : Tidy s₀ (wMovs x s) := h.wPlain fun _ _ h => h.setWD
theorem Tidy.wAluI {x : Nat} (h : Tidy s₀ s) : Tidy s₀ (wAluI x s) := h.wExec fun _ _ h => h.wFault.ite h.setWD.wRetire
theorem Tidy.wMacI {x : Nat} (h : Tidy s₀ s) : Tidy s₀ (wMacI x s) := h.wPlain fun _ _ h => h.wMac

theorem Tidy.wMacp {x : Nat} (h : Tidy s₀ s) : Tidy s₀ (wMacp x s) :=
  h.wExec fun _ _ h => h.wAccess fun _ _ h => h.wMac.wStep.wRetire

theorem Tidy.wAccxI {x : Nat} (h : Tidy s₀ s) : Tidy s₀ (wAccxI x s) :=
  h.wPlain fun _ _ h => h.setWD.when fun _ h => h.setF

theorem Tidy.wDivs {x : Nat} (h : Tidy s₀ s) : Tidy s₀ (wDivs x s) :=
  h.wPlain fun _ _ h => h.setWAcc.when fun _ h => h.setF

theorem Tidy.wLd {x : Nat} (h : Tidy s₀ s) : Tidy s₀ (wLd x s) :=
  h.wExec fun _ _ h => h.wAccess fun _ _ h => h.setWD.wStep.wRetire

theorem Tidy.wSt {x : Nat} (h : Tidy s₀ s) : Tidy s₀ (wSt x s) :=
  h.wExec fun _ _ h => h.wAccess fun _ _ h => h.setWWord.wStep.wRetire

theorem Tidy.wMts {x : Nat} (h : Tidy s₀ s) : Tidy s₀ (wMts x s) :=
  h.wExec fun _ _ h => h.wFault.ite <| h.setWSpr.wRetire.ite (h.wRetire.setWSpr.when fun _ h => h.setWLA)

theorem Tidy.wMfs {x : Nat} (h : Tidy s₀ s) : Tidy s₀ (wMfs x s) := h.wExec fun _ _ h => h.wFault.ite h.setWD.wRetire

theorem Tidy.wLoop {x : Nat} (h : Tidy s₀ s) : Tidy s₀ (wLoop x s) :=
  h.wExec fun _ _ h => h.wFault.ite (h.wFault.ite h.setWSpr.setWSpr.setWSpr.setWLA.setWPC)

theorem Tidy.wBr {x : Nat} (h : Tidy s₀ s) : Tidy s₀ (wBr x s) :=
  h.wExec fun _ _ h => h.wFault.ite (h.wJump.ite h.setWPC)

theorem Tidy.wJl {x : Nat} (h : Tidy s₀ s) : Tidy s₀ (wJl x s) := h.wExec fun _ _ h => h.setWD.wJump
theorem Tidy.wJr {x : Nat} (h : Tidy s₀ s) : Tidy s₀ (wJr x s) := h.wExec fun _ _ h => h.wJump
theorem Tidy.wGett {x : Nat} (h : Tidy s₀ s) : Tidy s₀ (wGett x s) := h.wPlain fun _ _ h => h.setWD
theorem Tidy.wEmitRef {x code : Nat} (h : Tidy s₀ s) : Tidy s₀ (wEmitRef x code s) := h.status.wSetPend

theorem Tidy.wEmit {x : Nat} (h : Tidy s₀ s) : Tidy s₀ (wEmit x s) :=
  h.wExec fun _ _ h => h.ite <| h.wAccess fun _ _ h => h.wFault.ite <|
    h.wRetire.wEmitRef.ite (h.wRetire.wEmitRef.ite (h.wRetire.deny.wEmitRef.ite h.wRetire.send))

theorem Tidy.wXfer {x : Nat} (h : Tidy s₀ s) : Tidy s₀ (wXfer x s) :=
  h.wExec fun _ _ h => h.wAccess fun _ _ h => h.wFault.ite h.denyIf.wRetire.setCore

theorem Tidy.xferMove {x : Nat} {t : Xfer} (h : Tidy s₀ s) : Tidy s₀ (xferMove x t s) :=
  (h.withWch (by exact twf_stList _ _ _)).ite <| ((h.withCnv (by exact twf_stList _ _ _)).ite (h.graphWrite.ite
    h.waveWrite)).ite h.emitRec

theorem Tidy.wStopped {x : Nat} (h : Tidy s₀ s) : Tidy s₀ (wStopped x s) := h.setCore.setWst.ite h

theorem Tidy.xferComplete {x i : Nat} (h : Tidy s₀ s) : Tidy s₀ (xferComplete x i s) := by
  unfold Machine.xferComplete
  dsimp only
  split
  · exact h
  · exact h.ite ((h.xferMove.ite h).withWch (by exact twf_stBytes _ _ _ _)).setCore.wSetPend.wStopped

theorem Tidy.wFence {x : Nat} (h : Tidy s₀ s) : Tidy s₀ (wFence x s) := h.wExec fun _ _ h => h.wRetire.ite h
theorem Tidy.wWaiti {x : Nat} (h : Tidy s₀ s) : Tidy s₀ (wWaiti x s) := h.wExec fun _ _ h => h.setWPC.ite h.setWPC.setWst
theorem Tidy.wReti {x : Nat} (h : Tidy s₀ s) : Tidy s₀ (wReti x s) := h.wExec fun _ _ h => h.setWPC.setWLA.setWSpr
theorem Tidy.wHalt {x : Nat} (h : Tidy s₀ s) : Tidy s₀ (wHalt x s) := h.wExec fun _ _ h => h.setWPC.setWst
theorem Tidy.wInterrupt {x : Nat} (h : Tidy s₀ s) : Tidy s₀ (wInterrupt x s) := h.setWSpr.setWSpr.setWLA.setWPC.ite h

theorem Tidy.wAny {x : Nat} (h : Tidy s₀ s) : Tidy s₀ (wAny x s) := by
  unfold Machine.wAny
  split
  · exact h.wMov
  · exact h.wMovi
  · exact h.wMovs
  · exact h.wAluI
  · exact h.wMacI
  · exact h.wMacp
  · exact h.wAccxI
  · exact h.wDivs
  · exact h.wLd
  · exact h.wSt
  · exact h.wMts
  · exact h.wMfs
  · exact h.wLoop
  · exact h.wBr
  · exact h.wJl
  · exact h.wJr
  · exact h.wGett
  · exact h.wEmit
  · exact h.wXfer
  · exact h.wFence
  · exact h.wWaiti
  · exact h.wReti
  · exact h.wHalt
  · exact h.wNop

theorem Tidy.wStepOne {x : Nat} (h : Tidy s₀ s) : Tidy s₀ (wStepOne x s) :=
  h.ite (h.setCore.wAny.setCore.setWst.ite h.setCore.wAny.setCore)

theorem Tidy.svcFinish {x : Nat} {ws : List Nat} {code outBytes shots : Nat} {summary : List Nat} (h : Tidy s₀ s) :
    Tidy s₀ (svcFinish x ws code outBytes shots summary s) :=
  (h.setCore.when fun _ h => h.wr.modGrp).emitRec.inc

theorem Tidy.svcEnd {x code : Nat} (h : Tidy s₀ s) : Tidy s₀ (svcEnd x code s) := by
  unfold Machine.svcEnd
  split
  · exact h.svcFinish
  · exact h

theorem Tidy.svcDisturb {g code : Nat} (h : Tidy s₀ s) : Tidy s₀ (svcDisturb g code s) := by
  unfold Machine.svcDisturb
  dsimp only
  split
  · exact h.setCore
  · exact h

theorem Tidy.wRunStart {x : Nat} (h : Tidy s₀ s) : Tidy s₀ (wRunStart x s) := h.status.ite h.setF.status.setWst
theorem Tidy.wRunStop {x : Nat} (h : Tidy s₀ s) : Tidy s₀ (wRunStop x s) := h.setF.ite h.setF.svcEnd.setCore.wStopped
theorem Tidy.wHaltSet {x : Nat} (h : Tidy s₀ s) : Tidy s₀ (wHaltSet x s) := h.setF.setWst.ite h.setF
theorem Tidy.wHaltClear {x : Nat} (h : Tidy s₀ s) : Tidy s₀ (wHaltClear x s) := h.setF.setWst.ite h.setF
theorem Tidy.wModeWrite {x m : Nat} (h : Tidy s₀ s) : Tidy s₀ (wModeWrite x m s) := h.status.ite h.setF.status

theorem Tidy.wCtlWrite {x v : Nat} (h : Tidy s₀ s) : Tidy s₀ (wCtlWrite x v s) :=
  h.status.ite <| (h.wModeWrite.ite h).andThen fun k => (k.wHaltSet.ite (k.wHaltClear.ite k)).andThen fun k =>
    k.wRunStart.ite <| k.wRunStop.ite k

theorem Tidy.wDoorbell {x v : Nat} (h : Tidy s₀ s) : Tidy s₀ (wDoorbell x v s) := h.wSetPend.ite h
theorem Tidy.wIenWrite {x v : Nat} (h : Tidy s₀ s) : Tidy s₀ (wIenWrite x v s) := h.wrRW.wWake
theorem Tidy.wPcWrite {x a v : Nat} (h : Tidy s₀ s) : Tidy s₀ (wPcWrite x a v s) := h.wrRW.ite h.inc

theorem Tidy.wRegWrite {x r v : Nat} (h : Tidy s₀ s) : Tidy s₀ (wRegWrite x r v s) :=
  h.inc.ite (h.setWD.ite (h.wrN.ite (h.setWSpr.ite h)))

theorem Tidy.wStopAll (h : Tidy s₀ s) : Tidy s₀ (wStopAll s) := h.forEach fun _ _ h => h.ite h.svcEnd.setF.setWst.setCore
theorem Tidy.wHang (h : Tidy s₀ s) : Tidy s₀ (wHang s) := h.forEach fun _ _ h => h.ite (h.wFault.ite h.svcEnd)

theorem Tidy.wNewOwner {x : Nat} (h : Tidy s₀ s) : Tidy s₀ (wNewOwner x s) :=
  (((h.withWch (by exact twf_filter _ _)).forEach fun _ _ h => h.wrN).forEach fun _ _ h => h.wrN).setCore.wrN

/-! #### The functions of Sys2Proof/Machine/Service.lean -/

theorem Tidy.svcProgram {a : Nat} {bs : List (BitVec 8)} (h : Tidy s₀ s) :
    Tidy s₀ { s with seq := { s.seq with store := stList s.seq.store a bs } } := h.withSeq (twf_stList _ _ _)

theorem Tidy.svcHold {x : Nat} {ws : List Nat} (h : Tidy s₀ s) : Tidy s₀ (svcHold x ws s) := by
  unfold Machine.svcHold
  exact h.wr.modGrp.svcProgram.nextFree

theorem Tidy.svcTake {x : Nat} {row : Nat → Bool} {ws : List Nat} (h : Tidy s₀ s) : Tidy s₀ (svcTake x row ws s) :=
  h.ite <| h.setQue.writeBack.andThen fun k => k.denyIf.svcFinish.ite <|
    (k.injRequest.svcFinish.ite k.injRequest.setCore).ite (k.setCore.when fun _ h => h.svcHold)

theorem Tidy.svcEmit {x rel : Nat} {w : Nat × Nat × Bool} (h : Tidy s₀ s) : Tidy s₀ (svcEmit x rel w s) := h.ite h.send

theorem Tidy.svcApply {x : Nat} {ws : List Nat} {writes : List (Nat × Nat × Bool)} (h : Tidy s₀ s) :
    Tidy s₀ (svcApply x ws writes s) :=
  ((h.forEach fun _ _ h => h.svcEmit).when fun _ h => h.svcEmit).andThen fun k => k.ite k.svcEmit.svcEmit

theorem Tidy.svcComplete {x : Nat} {conv : Bool} {shots : Nat} {out : List (BitVec 8)} {summary : List Nat} {writes : List (Nat × Nat × Bool)}
    (h : Tidy s₀ s) :
    Tidy s₀ (svcComplete x conv shots out summary writes s) := by
  unfold Machine.svcComplete
  dsimp only
  split
  · exact h
  · exact h.ite <| h.ite <| h.svcFinish.ite <| h.svcFinish.ite ((h.withCnv (by exact twf_stList _ _ _)).when fun _ h =>
      h.svcApply).svcFinish

/-! #### The functions of Sys2Proof/Machine/Capture.lean -/

theorem Tidy.setCns {c : Nat} {x : Cns} (h : Tidy s₀ s) : Tidy s₀ (s.setCns c x) := h.withCap
theorem Tidy.setCnsSt {c v : Nat} (h : Tidy s₀ s) : Tidy s₀ (s.setCnsSt c v) := h.setF

theorem Tidy.cnsFill {c t : Nat} (h : Tidy s₀ s) : Tidy s₀ (cnsFill c t s) :=
  (h.withCnv (by exact twf_stBytes _ _ _ _)).setCns.setCnsSt

theorem Tidy.cnsArm {c v : Nat} (h : Tidy s₀ s) : Tidy s₀ (cnsArm c v s) :=
  h.denyIf.status.ite (h.wrRW.status.setCns.wrN.wrN.wrN.andThen fun k => k.setCnsSt.ite k.cnsFill)

theorem Tidy.cnsClose {c why : Nat} (h : Tidy s₀ s) : Tidy s₀ (cnsClose c why s) :=
  h.setF.ite (h.setF.setCns.ite h.setF.setCnsSt)

theorem Tidy.cnsCtlWrite {c v : Nat} (h : Tidy s₀ s) : Tidy s₀ (cnsCtlWrite c v s) :=
  (h.cnsClose.status.ite h.status.inc).ite (h.cnsArm.ite h.wrRW)

theorem Tidy.cnsCfgWrite {c a v : Nat} (h : Tidy s₀ s) : Tidy s₀ (cnsCfgWrite c a v s) := h.status.inc.ite h.wrRW
theorem Tidy.cnsCloseAll {why : Nat} (h : Tidy s₀ s) : Tidy s₀ (cnsCloseAll why s) := h.forEach fun _ _ h => h.cnsClose

theorem Tidy.cnsCloseYard {y : Nat} (h : Tidy s₀ s) : Tidy s₀ (cnsCloseYard y s) :=
  h.forEach fun _ _ h => h.when fun _ h => h.cnsClose

theorem Tidy.cnsEvent {c src inst : Nat} (h : Tidy s₀ s) : Tidy s₀ (cnsEvent c src inst s) := h.setCns.ite h
theorem Tidy.cnsFollow {c inst : Nat} (h : Tidy s₀ s) : Tidy s₀ (cnsFollow c inst s) := h.forEach fun _ _ h => h.cnsEvent

theorem Tidy.cnsEdge {i : Nat} {falling : Bool} {inst : Nat} (h : Tidy s₀ s) : Tidy s₀ (cnsEdge i falling inst s) :=
  h.forEach fun _ _ h => h.cnsEvent

theorem Tidy.cnsTimer {t inst : Nat} (h : Tidy s₀ s) : Tidy s₀ (cnsTimer t inst s) := h.forEach fun _ _ h => h.cnsEvent

theorem Tidy.cnsTrig {c src inst t : Nat} (h : Tidy s₀ s) : Tidy s₀ (cnsTrig c src inst t s) := by
  unfold Machine.cnsTrig
  refine h.inc.ite ((h.setCns.setCnsSt.cnsFollow.ite h.inc).ite (Tidy.ite ?_ h))
  split
  · exact h.inc.setCns.cnsFollow.ite (h.inc.setCns.ite h.inc)
  · exact h

theorem Tidy.cnsTrigger {c src inst : Nat} {xs : List Int} (h : Tidy s₀ s) : Tidy s₀ (cnsTrigger c src inst xs s) :=
  ((h.setCns.forEach fun _ _ h => h.cnsTrig).ite h).ite <| (h.cnsTrig.ite h).ite ((h.setCns.ite h.setCns.cnsTrig).ite h)

theorem Tidy.cnsForce {c v : Nat} (h : Tidy s₀ s) : Tidy s₀ (cnsForce c v s) := h.cnsTrigger.ite h

/-- A record's samples, its fields and its mark are written into the results memory. -/
theorem Tidy.recordBytes {a b c v : Nat} {xs ys : List (BitVec 8)} (h : Tidy s₀ s) :
    Tidy s₀ { s with cnv := { s.cnv with res := stBytes (stList (stList s.cnv.res a xs) b ys) c 4 v } } :=
  h.withCnv fun hs => twf_stBytes _ _ _ _ (twf_stList _ _ _ (twf_stList _ _ _ hs))

theorem Tidy.cnsRecordEnd {c : Nat} {xs drops : List Nat} {uns : Bool} (h : Tidy s₀ s) :
    Tidy s₀ (cnsRecordEnd c xs drops uns s) := by
  unfold Machine.cnsRecordEnd
  dsimp only
  split
  · exact h
  · refine h.ite (Tidy.andThen ?_ fun k => k.setCnsSt.ite (k.setCnsSt.ite k.setCnsSt))
    exact h.recordBytes.incBy.inc.setCns

theorem Tidy.cnsHoldoffEnd {c : Nat} (h : Tidy s₀ s) : Tidy s₀ (cnsHoldoffEnd c s) := h.cnsFill.ite h

theorem Tidy.cnsChunkWrite {c : Nat} {xs : List Nat} {drops : Nat} {uns : Bool} (h : Tidy s₀ s) :
    Tidy s₀ (cnsChunkWrite c xs drops uns s) :=
  h.ite (h.setCns.incBy.ite (h.withCnv (by exact twf_stList _ _ _)).wrN.setCns.incBy)

theorem Tidy.cnsRpWrite {c v : Nat} (h : Tidy s₀ s) : Tidy s₀ (cnsRpWrite c v s) := h.status.ite h.wrN
theorem Tidy.setFctx {x : Nat} {v : FCtx} (h : Tidy s₀ s) : Tidy s₀ (s.setFctx x v) := h.withCap
theorem Tidy.setFjob {e : Nat} {v : Option FJob} (h : Tidy s₀ s) : Tidy s₀ (s.setFjob e v) := h.withCap
theorem Tidy.setCtxSt {x v : Nat} (h : Tidy s₀ s) : Tidy s₀ (s.setCtxSt x v) := h.setF.setF

theorem Tidy.frlEmit {e : Nat} (h : Tidy s₀ s) : Tidy s₀ (frlEmit e s) := by
  unfold Machine.frlEmit
  dsimp only
  split
  · exact h
  · exact (h.withCnv (by exact twf_stList _ _ _)).setFctx.setFjob

theorem Tidy.frlEnd {e code xs : Nat} (h : Tidy s₀ s) : Tidy s₀ (frlEnd e code xs s) := by
  unfold Machine.frlEnd
  dsimp only
  split
  · exact h
  · exact (h.setFctx.ite h).setCtxSt.wrN.wrN.wrN.setFjob.status.setF

theorem Tidy.frlLenWrite {e a v : Nat} (h : Tidy s₀ s) : Tidy s₀ (frlLenWrite e a v s) := h.status.ite h.wrRW

theorem Tidy.frlBegin {e v : Nat} (h : Tidy s₀ s) : Tidy s₀ (frlBegin e v s) :=
  h.denyIf.status.ite (h.when fun _ h => h.setFctx.setF).setFjob.setCtxSt.status.setF.frlEmit

theorem Tidy.frlAbort {e : Nat} (h : Tidy s₀ s) : Tidy s₀ (frlAbort e s) := h.frlEnd.ite h.status
theorem Tidy.frlClear {e v : Nat} (h : Tidy s₀ s) : Tidy s₀ (frlClear e v s) := h.status.ite h.setFctx.setCtxSt.status

theorem Tidy.frlCtlWrite {e v : Nat} (h : Tidy s₀ s) : Tidy s₀ (frlCtlWrite e v s) := by
  unfold Machine.frlCtlWrite
  split
  · exact h
  · exact h.frlBegin
  · exact h.frlBegin
  · exact h.frlAbort
  · exact h.frlClear
  · exact h.status

theorem Tidy.frlSafe (h : Tidy s₀ s) : Tidy s₀ (frlSafe s) :=
  (h.forEach fun _ _ h => h.when fun _ h => h.frlAbort).forEach fun _ _ h => h.setFctx.setCtxSt

theorem Tidy.frlShed (h : Tidy s₀ s) : Tidy s₀ (frlShed s) := h.forEach fun _ _ h => h.frlEnd

theorem Tidy.frlRead {e : Nat} (h : Tidy s₀ s) : Tidy s₀ (frlRead e s) := by
  unfold Machine.frlRead
  dsimp only
  split
  · exact h
  · exact (h.when fun _ h => h.wrN).setFjob

theorem Tidy.frlBlockEnd {e : Nat} {hdr : List Bool} {syms : List (List Bool)} {miss ok : Bool} {ecc : Nat}
    (h : Tidy s₀ s) :
    Tidy s₀ (frlBlockEnd e hdr syms miss ok ecc s) := by
  unfold Machine.frlBlockEnd
  dsimp only
  split
  · exact (h.ite h.frlRead)
  · exact (h.ite h.frlRead).frlEnd.ite <| (h.ite h.frlRead).ite <| (h.ite h.frlRead).frlEnd.ite <|
      (((h.ite h.frlRead).when fun _ h => h.inc).when fun _ h => h.inc).setFctx.setFjob.frlEmit.andThen fun k =>
      k.frlEnd.ite k

theorem Tidy.frlOutFull {e : Nat} (h : Tidy s₀ s) : Tidy s₀ (frlOutFull e s) := by
  unfold Machine.frlOutFull
  split
  · exact h.frlEnd.ite h
  · exact h

theorem Tidy.frlJobEnd {e : Nat} (h : Tidy s₀ s) : Tidy s₀ (frlJobEnd e s) := by
  unfold Machine.frlJobEnd
  dsimp only
  split
  · exact h.ite ((h.withCnv (by exact twf_stList _ _ _)).setFctx.setFjob.frlEnd.ite h.frlEnd)
  · exact h

/-! #### The functions of Sys2Proof/Machine/Group.lean -/

theorem Tidy.lsgSend {g cmd rel lead src : Nat} (h : Tidy s₀ s) : Tidy s₀ ((lsgSend g cmd rel lead src s).1) :=
  Tidy.iteFst h h.setCmd

/-! #### The functions of Sys2Proof/Machine/Stay.lean -/

theorem Tidy.modStay {f : StayS → StayS} (h : Tidy s₀ s) : Tidy s₀ (s.modStay f) := h.withStay
theorem Tidy.stayReport {code : Nat} (h : Tidy s₀ s) : Tidy s₀ (stayReport code s) := h.report
theorem Tidy.setBase {n v : Nat} (h : Tidy s₀ s) : Tidy s₀ (s.setBase n v) := h.modStay
theorem Tidy.tmrFix {t e : Nat} (h : Tidy s₀ s) : Tidy s₀ (tmrFix t e s) := h.setF.wrN
theorem Tidy.tmrLate {t : Nat} (h : Tidy s₀ s) : Tidy s₀ (tmrLate t s) := h.modStay.tmrFix.setF
theorem Tidy.tmrStepped {n : Nat} (h : Tidy s₀ s) : Tidy s₀ (tmrStepped n s) := h.forEach fun _ _ h => h.tmrLate.ite h

theorem Tidy.applyPlan {p : Nat × Nat × Int} (h : Tidy s₀ s) : Tidy s₀ (applyPlan p s) := by
  unfold Machine.applyPlan
  split
  · exact h.setBase.tmrStepped
  · exact h.setBase.tmrStepped
  · exact h.modStay

theorem Tidy.stayDue (h : Tidy s₀ s) : Tidy s₀ (stayDue s) := h.modStay.forEach fun _ _ h => h.applyPlan
theorem Tidy.syncoutDone (h : Tidy s₀ s) : Tidy s₀ (syncoutDone s) := h.when fun _ h => h.setF

theorem Tidy.stayTick (h : Tidy s₀ s) : Tidy s₀ (stayTick s) :=
  (h.setBase.forEach fun _ _ h => h.setBase).stayDue.syncoutDone

theorem Tidy.setTb1St {v : Nat} (h : Tidy s₀ s) : Tidy s₀ (s.setTb1St v) := h.setF
theorem Tidy.tb1Start (h : Tidy s₀ s) : Tidy s₀ (tb1Start s) := h.status.ite h.status.setTb1St.modStay
theorem Tidy.tb1ArmSync (h : Tidy s₀ s) : Tidy s₀ (tb1ArmSync s) := h.status.ite h.status.setTb1St.setF
theorem Tidy.tb1Clear (h : Tidy s₀ s) : Tidy s₀ (tb1Clear s) := h.ncoClear.withCnv.forEach fun _ _ h => h.withCnv
theorem Tidy.tb1Halt (h : Tidy s₀ s) : Tidy s₀ (tb1Halt s) := h.tb1Clear.withClock.setTb1St.setF.modStay
theorem Tidy.tb1Stop (h : Tidy s₀ s) : Tidy s₀ (tb1Stop s) := h.status.ite h.status.tb1Halt

theorem Tidy.tb1Zero (h : Tidy s₀ s) : Tidy s₀ (tb1Zero s) := by
  unfold Machine.tb1Zero
  dsimp only
  split
  · exact h.tb1Clear.withClock.setTb1St.modStay.ite h
  · exact h

theorem Tidy.skewcal (h : Tidy s₀ s) : Tidy s₀ (skewcal s) := h.status.ite h.status.setF.modStay

theorem Tidy.syncinEdge {frac : Nat} (h : Tidy s₀ s) : Tidy s₀ (syncinEdge frac s) := by
  unfold Machine.syncinEdge
  refine h.setF.modStay.ite ?_
  split
  · exact h.modStay.ite h
  · exact h.setF.setF.stayReport.ite h.setF

theorem Tidy.skewcalComplete (h : Tidy s₀ s) : Tidy s₀ (skewcalComplete s) := by
  unfold Machine.skewcalComplete
  dsimp only
  split
  · exact h
  · exact h.setF.setF.modStay.status.ite (h.setF.modStay.status.ite h)

theorem Tidy.syncoutTrain {t n : Nat} (h : Tidy s₀ s) : Tidy s₀ (syncoutTrain t n s) := h.modStay

theorem Tidy.syncoutCut (h : Tidy s₀ s) : Tidy s₀ (syncoutCut s) := by
  unfold Machine.syncoutCut
  exact h.modStay

theorem Tidy.syncoutWrite {v : Nat} (h : Tidy s₀ s) : Tidy s₀ (syncoutWrite v s) := by
  unfold Machine.syncoutWrite
  refine h.deny.status.ite ?_
  split
  · exact h.wrRW.status.syncoutCut.syncoutTrain
  · exact h.wrRW.status.syncoutCut.syncoutTrain
  · exact h.wrRW.status.syncoutCut

theorem Tidy.setSst {v : Nat} (h : Tidy s₀ s) : Tidy s₀ (s.setSst v) := h.setF
theorem Tidy.jumpRefused (h : Tidy s₀ s) : Tidy s₀ (jumpRefused s) := h.setF.inc.stayReport
theorem Tidy.steer (h : Tidy s₀ s) : Tidy s₀ (steer s) := h.wrN.nextFree
theorem Tidy.estimate (h : Tidy s₀ s) : Tidy s₀ (estimate s) := h.modStay.nextFree
theorem Tidy.judge {off : Int} (h : Tidy s₀ s) : Tidy s₀ (judge off s) := h.setSst.steer.ite h.setSst.jumpRefused

theorem Tidy.exchange {mpd off : Int} {asym : Bool} {rate : Option Int} (h : Tidy s₀ s) :
    Tidy s₀ (exchange mpd off asym rate s) := by
  unfold Machine.exchange
  refine h.wrN.wrN.ite <| (h.wrN.wrN.inc.modStay.ite (Tidy.ite ?_ (Tidy.modStay
    ?_).setBase.tmrStepped.setSst.steer)).ite <| h.wrN.wrN.judge.ite <|
    ((Tidy.steer ?_).ite (h.wrN.wrN.wrN.modStay.judge.ite h.wrN.wrN.wrN.modStay)).ite <|
    h.wrN.wrN.inc.modStay.andThen fun k => k.setF.setSst.modStay.stayReport.ite k
  · split
    · exact h.wrN.wrN.wrN.modStay.modStay
    · exact h.wrN.wrN.wrN.modStay.estimate
  · split
    · exact h.wrN.wrN.wrN.modStay.modStay
    · exact h.wrN.wrN.wrN.modStay.estimate
  · split
    · exact h.wrN.wrN.wrN.modStay.modStay
    · exact h.wrN.wrN.wrN.modStay.estimate

theorem Tidy.tryAcquire (h : Tidy s₀ s) : Tidy s₀ (tryAcquire s) := h.setSst.modStay.ite h
theorem Tidy.afterJump (h : Tidy s₀ s) : Tidy s₀ (afterJump s) := h.setF.ite (h.setF.setSst.ite h.setF.setSst)
theorem Tidy.stayStep (h : Tidy s₀ s) : Tidy s₀ (stayStep s) := h.jumpRefused.status.ite h.modStay.afterJump.status

theorem Tidy.staySet (h : Tidy s₀ s) : Tidy s₀ (staySet s) :=
  h.status.ite (h.status.ite (h.jumpRefused.status.ite h.modStay.afterJump.modStay.status))

theorem Tidy.acceptAsym (h : Tidy s₀ s) : Tidy s₀ (acceptAsym s) := h.status.ite h.wrN.setF.modStay.status
theorem Tidy.relock (h : Tidy s₀ s) : Tidy s₀ (relock s) := h.setF.setSst.modStay.tryAcquire.status

theorem Tidy.stayCmd {v : Nat} (h : Tidy s₀ s) : Tidy s₀ (stayCmd v s) := by
  unfold Machine.stayCmd
  split
  · exact h
  · exact h.tb1Start
  · exact h.tb1ArmSync
  · exact h.tb1Stop
  · exact h.skewcal
  · exact h.stayStep
  · exact h.staySet
  · exact h.acceptAsym
  · exact h.relock
  · exact h.status

theorem Tidy.stayCtlWrite {v : Nat} (h : Tidy s₀ s) : Tidy s₀ (stayCtlWrite v s) :=
  h.ite (h.wrRW.ite (h.wrRW.setSst.ite h.wrRW.setSst.tryAcquire))

theorem Tidy.staySnap {v : Nat} (h : Tidy s₀ s) : Tidy s₀ (staySnap v s) := h.ite (h.wrN.forEach fun _ _ h => h.wrN.wrN)

theorem Tidy.stayRegWrite {a v : Nat} (h : Tidy s₀ s) : Tidy s₀ (stayRegWrite a v s) :=
  (h.wrRW.ite h).ite ((h.ite h.wrRW).ite (h.wrRW.setF.ite h.wrRW))

theorem Tidy.ptpSync {ds : List Nat} {t1 : Option Int} {corr t2 : Int} (h : Tidy s₀ s) :
    Tidy s₀ (ptpSync ds t1 corr t2 s) :=
  h.modStay.ite h

theorem Tidy.ptpFollowUp {ds : List Nat} {t1 corr : Int} (h : Tidy s₀ s) : Tidy s₀ (ptpFollowUp ds t1 corr s) := by
  unfold Machine.ptpFollowUp
  split
  · exact h.modStay.ite h
  · exact h

theorem Tidy.ptpDelayReq {t3 : Int} (h : Tidy s₀ s) : Tidy s₀ (ptpDelayReq t3 s) := h.modStay.ite h

theorem Tidy.ptpDelayResp {ds : List Nat} {t4 corr : Int} (h : Tidy s₀ s) : Tidy s₀ (ptpDelayResp ds t4 corr s) := by
  unfold Machine.ptpDelayResp
  dsimp only
  split
  · exact h.modStay.exchange.ite h
  · exact h

theorem Tidy.ptpAnnounce {domain : Nat} {ds : List Nat} {k : Nat} (h : Tidy s₀ s) :
    Tidy s₀ (ptpAnnounce domain ds k s) :=
  h.ite h.modStay.tryAcquire

theorem Tidy.announceTimeout (h : Tidy s₀ s) : Tidy s₀ (announceTimeout s) := by
  unfold Machine.announceTimeout
  dsimp only
  split
  · exact h.ite (h.modStay.ite (h.modStay.setSst.stayReport.ite (h.modStay.setSst.tryAcquire.ite h.modStay)))
  · exact h

theorem Tidy.tbnWrite {n a v : Nat} (h : Tidy s₀ s) : Tidy s₀ (tbnWrite n a v s) :=
  h.deny.ite (h.wrRW.modStay.ite h.wrRW)

theorem Tidy.tbnSetAt {n v : Nat} (h : Tidy s₀ s) : Tidy s₀ (tbnSetAt n v s) := h.deny.ite (h.ite (h.ite h.wrRW.modStay))

theorem Tidy.tbnSetApply {n : Nat} (h : Tidy s₀ s) : Tidy s₀ (tbnSetApply n s) := by
  unfold Machine.tbnSetApply
  dsimp only
  split
  · exact h.modStay.setBase.tmrStepped.ite h
  · exact h

theorem Tidy.tmrNext {t : Nat} (h : Tidy s₀ s) : Tidy s₀ (tmrNext t s) := h.tmrFix.ite h.setF

theorem Tidy.tmrArm {t v : Nat} (h : Tidy s₀ s) : Tidy s₀ (tmrArm t v s) :=
  h.denyIf.status.ite h.wrRW.status.modStay.tmrNext

theorem Tidy.tmrCtlWrite {t v : Nat} (h : Tidy s₀ s) : Tidy s₀ (tmrCtlWrite t v s) :=
  (h.inc.ite h.wrRW.setF).ite (h.tmrArm.ite h.wrRW)

theorem Tidy.tmrCfgWrite {t a v : Nat} (h : Tidy s₀ s) : Tidy s₀ (tmrCfgWrite t a v s) := h.inc.ite h.wrRW
theorem Tidy.timerFix {t : Nat} (h : Tidy s₀ s) : Tidy s₀ (timerFix t s) := h.ite (h.tmrLate.ite (h.tmrFix.ite h))

theorem Tidy.timerFire {t : Nat} (h : Tidy s₀ s) : Tidy s₀ (timerFire t s) :=
  h.ite <| (Tidy.iteFst h.hold.lsgSend (Tidy.iteFst (h.hold.forEach fun _ _ h =>
    h.send) h.hold)).status.andThen fun k => k.modStay.tmrNext.ite k.setF.setF

theorem Tidy.timerEvent {t act arg e : Nat} (h : Tidy s₀ s) : Tidy s₀ (timerEvent t act arg e s) := by
  unfold Machine.timerEvent
  dsimp only
  split
  · exact (h.when fun _ h => h.syncoutTrain).cnsTimer
  · exact (h.when fun _ h => h.syncoutTrain).injRequest.status
  · exact (h.when fun _ h => h.syncoutTrain)

theorem Tidy.linkTimeRx {l : Nat} {t1 t2 t3 t4 : Int} {tb0 at_ : Nat} {rate : Int} {sst : Nat} (h : Tidy s₀ s) :
    Tidy s₀ (linkTimeRx l t1 t2 t3 t4 tb0 at_ rate sst s) :=
  (h.modStay.ite (h.modStay.wrN.wrN.setF.setF.setF.stayReport.ite h.modStay.wrN.wrN.setF)).andThen fun k =>
    k.ite (k.setSst.modStay.ite k).exchange

theorem Tidy.linkTimeReset {l : Nat} (h : Tidy s₀ s) : Tidy s₀ (linkTimeReset l s) := h.modStay.setF

/-! #### The functions of Sys2Proof/Machine/Ozlink.lean -/

theorem Tidy.setLink {l : Nat} {x : OzlLink} (h : Tidy s₀ s) : Tidy s₀ (s.setLink l x) := h.withOzl
theorem Tidy.modLink {l : Nat} {f : OzlLink → OzlLink} (h : Tidy s₀ s) : Tidy s₀ (s.modLink l f) := h.setLink
theorem Tidy.setLst {l v : Nat} (h : Tidy s₀ s) : Tidy s₀ (s.setLst l v) := h.setF.setF
theorem Tidy.lEvent {l code : Nat} (h : Tidy s₀ s) : Tidy s₀ (lEvent l code s) := h.status.report
theorem Tidy.setLane {l i v : Nat} (h : Tidy s₀ s) : Tidy s₀ (s.setLane l i v) := h.setF
theorem Tidy.setLanes {l v : Nat} (h : Tidy s₀ s) : Tidy s₀ (s.setLanes l v) := h.forEach fun _ _ h => h.setLane

theorem Tidy.ozlFeed {l : Nat} (h : Tidy s₀ s) : Tidy s₀ (ozlFeed l s) := by
  unfold Machine.ozlFeed
  exact h.ite ((h.keep.forEach fun _ _ h => h.ozlQueue).forEach fun _ _ h => h.ozlQueue)

theorem Tidy.laneBlock {l i hdr v : Nat} (h : Tidy s₀ s) : Tidy s₀ (laneBlock l i hdr v s) := h.modLink

theorem Tidy.trainLane {l i : Nat} (h : Tidy s₀ s) : Tidy s₀ (trainLane l i s) := by
  unfold Machine.trainLane
  exact (h.when fun _ h => h.nextFree.nextFree).modLink

theorem Tidy.trainRow {l : Nat} {is : List Nat} (h : Tidy s₀ s) : Tidy s₀ (trainRow l is s) :=
  h.ite (h.forEach fun _ _ h => h.trainLane).modLink

theorem Tidy.rowStart {l : Nat} (h : Tidy s₀ s) : Tidy s₀ (rowStart l s) := by
  unfold Machine.rowStart
  exact (h.when fun _ h => (h.forEach fun _ _ h => h.laneBlock.modLink).modLink).trainRow.modLink

theorem Tidy.flitBlocks {l f : Nat} (h : Tidy s₀ s) : Tidy s₀ (flitBlocks l f s) :=
  h.forEach fun _ _ h => (h.when fun _ h => h.rowStart).laneBlock.modLink

theorem Tidy.ozlEmit {l typ cls seq payload : Nat} (h : Tidy s₀ s) : Tidy s₀ (ozlEmit l typ cls seq payload s) :=
  h.setLink.flitBlocks

theorem Tidy.ozlData {l cls payload : Nat} (h : Tidy s₀ s) : Tidy s₀ (ozlData l cls payload s) := h.setLink.ozlEmit

theorem Tidy.ozlSlot {l : Nat} (h : Tidy s₀ s) : Tidy s₀ (ozlSlot l s) := by
  unfold Machine.ozlSlot
  refine h.setLink.ozlEmit.ite ?_
  split
  · exact h.setLink.ozlEmit
  · split
    · exact h.setLink.ozlEmit
    · refine h.setLink.ozlEmit.ite ?_
      split
      · exact h.setLink.ozlEmit
      · split
        · exact h.setLink.ozlData
        · exact h.ozlEmit

theorem Tidy.lsExit {l : Nat} (h : Tidy s₀ s) : Tidy s₀ (lsExit l s) := h.modLink.ite h
theorem Tidy.trainTick {l : Nat} (h : Tidy s₀ s) : Tidy s₀ (trainTick l s) := h.trainRow.modLink.ite h

theorem Tidy.ozlTick {l : Nat} (h : Tidy s₀ s) : Tidy s₀ (ozlTick l s) :=
  h.trainTick.ite <| h.ite ((h.ozlFeed.ite (h.ozlFeed.lsExit.ite h.ozlFeed)).andThen fun k => k.ozlSlot.ite k)

theorem Tidy.lClear {l : Nat} (h : Tidy s₀ s) : Tidy s₀ (lClear l s) := by
  unfold Machine.lClear
  exact h.dmaLinkDown.insDrop.setLink.keep.setF.setF.setF.setF.setF.setF.linkTimeReset

theorem Tidy.linkDown {l : Nat} (h : Tidy s₀ s) : Tidy s₀ (linkDown l s) := by
  unfold Machine.linkDown
  exact h.ite h.lClear.setLst.setLanes.inc.lEvent

theorem Tidy.linksDown (h : Tidy s₀ s) : Tidy s₀ (linksDown s) := h.forEach fun _ _ h => h.linkDown

theorem Tidy.linksDevice (h : Tidy s₀ s) : Tidy s₀ (linksDevice s) := by
  unfold Machine.linksDevice
  exact h.forEach fun _ _ h => (h.ite h.lClear.setLst.setLanes).ite (h.setLst.setLanes.modLink.ite h)

theorem Tidy.linkUpAt {l st rate map : Nat} (h : Tidy s₀ s) : Tidy s₀ (linkUpAt l st rate map s) :=
  (h.setLst.setF.setF.setF.forEach fun _ _ h => h.setLane).modLink.linkTimeReset.status

theorem Tidy.setPhase {l p : Nat} (h : Tidy s₀ s) : Tidy s₀ (s.setPhase l p) := h.setF
theorem Tidy.setTaps {l i pre post : Nat} (h : Tidy s₀ s) : Tidy s₀ (setTaps l i pre post s) := h.setF.setF.setF

theorem Tidy.trainRate {l r : Nat} (h : Tidy s₀ s) : Tidy s₀ (trainRate l r s) := by
  unfold Machine.trainRate
  exact (h.when fun _ h => h.forEach fun _ _ h => h.setTaps).setF.setPhase.modLink

theorem Tidy.tapRequest {l i preReq postReq : Nat} (h : Tidy s₀ s) : Tidy s₀ (tapRequest l i preReq postReq s) := by
  unfold Machine.tapRequest
  exact h.setTaps.modLink

theorem Tidy.trainBlock {l i b : Nat} {inv : Bool} (h : Tidy s₀ s) : Tidy s₀ (trainBlock l i b inv s) := by
  unfold Machine.trainBlock
  exact h.ite <| h.tapRequest.ite <| h.ite <| h.ite <| (h.setF.setF.setF.setF.ite
    h.setF.setF.setF.setF.lClear.setLst).lEvent.ite <| (h.setF.setF.setF.setF.modLink.tapRequest.ite
    h.setF.setF.setF.setF.modLink).andThen fun k => k.setLst.trainRate.ite k

theorem Tidy.trainPhaseDone {l : Nat} (h : Tidy s₀ s) : Tidy s₀ (trainPhaseDone l s) :=
  (h.setPhase.ite (h.trainRate.ite (h.linkUpAt.ite h.linkUpAt))).ite <| (h.setPhase.ite h.linkUpAt).ite h

theorem Tidy.trainRateTimeout {l failed : Nat} (h : Tidy s₀ s) : Tidy s₀ (trainRateTimeout l failed s) := by
  unfold Machine.trainRateTimeout
  exact h.ite (h.lClear.setLst.lEvent.modLink.ite (h.linkUpAt.ite h.linkUpAt.lEvent))

theorem Tidy.detectRetry {l i : Nat} (h : Tidy s₀ s) : Tidy s₀ (detectRetry l i s) :=
  h.ite (h.setLink.ite (h.setLane.modLink.ite h))

theorem Tidy.toRecovery {l : Nat} (h : Tidy s₀ s) : Tidy s₀ (toRecovery l s) := h.setLst.setPhase.modLink.lEvent
theorem Tidy.recoveryTimeout {l : Nat} (h : Tidy s₀ s) : Tidy s₀ (recoveryTimeout l s) := h.setLst.trainRate.ite h

theorem Tidy.sendRs {l map : Nat} (h : Tidy s₀ s) : Tidy s₀ (sendRs l map s) :=
  (h.setLink.forEach fun _ _ h => h.laneBlock).setF.inc

theorem Tidy.lMapState {l : Nat} (h : Tidy s₀ s) : Tidy s₀ (lMapState l s) := h.setLst.ite h
theorem Tidy.sendCtl {l cmd arg : Nat} (h : Tidy s₀ s) : Tidy s₀ (sendCtl l cmd arg s) := h.modLink

theorem Tidy.rsRx {l b : Nat} (h : Tidy s₀ s) : Tidy s₀ (rsRx l b s) :=
  h.ite (h.modLink.setF.forEach fun _ _ h => h.setLane).inc.lMapState

theorem Tidy.laneLost {l i : Nat} (h : Tidy s₀ s) : Tidy s₀ (laneLost l i s) :=
  h.ite (h.linkDown.ite h.setLane.lEvent.sendCtl.lMapState)

theorem Tidy.amRx {l i b bip : Nat} {inRange : Bool} (h : Tidy s₀ s) : Tidy s₀ (amRx l i b bip inRange s) :=
  h.ite ((h.when fun _ h => h.inc).andThen fun k => k.modLink.laneLost.ite k.modLink)

theorem Tidy.laneRetrainDone {l i : Nat} (h : Tidy s₀ s) : Tidy s₀ (laneRetrainDone l i s) := h.setLane.sendCtl.ite h

theorem Tidy.park {l i : Nat} {on : Bool} (h : Tidy s₀ s) : Tidy s₀ (park l i on s) :=
  (h.status.ite (h.setF.setLane.sendCtl.andThen fun k => (k.sendRs.ite k).lMapState)).ite <| h.setF.setLane.ite h

theorem Tidy.rxAck {l f : Nat} (h : Tidy s₀ s) : Tidy s₀ (rxAck l f s) := h.setLink.setF
theorem Tidy.rxNak {l : Nat} (h : Tidy s₀ s) : Tidy s₀ (rxNak l s) := h.modLink

theorem Tidy.rxFlit {l typ v : Nat} {f : State → State} (h : Tidy s₀ s) (hf : ∀ t, Tidy s₀ t → Tidy s₀ (f t)) :
    Tidy s₀ (rxFlit l typ v f s) :=
  h.ite (h.rxNak.ite (h.ite (hf _ h.rxAck)))

theorem Tidy.dataFlit {l v : Nat} (h : Tidy s₀ s) : Tidy s₀ (dataFlit l v s) :=
  h.rxFlit fun _ h => (h.setLink.owe.ite h.setLink).ite (h.rxNak.ite h)

theorem Tidy.ozlResend {l : Nat} (h : Tidy s₀ s) : Tidy s₀ (ozlResend l s) := h.setLink.toRecovery.ite h.setLink
theorem Tidy.nakFlit {l v : Nat} (h : Tidy s₀ s) : Tidy s₀ (nakFlit l v s) := h.rxFlit fun _ h => (h.ite h.ozlResend).inc
theorem Tidy.idleFlit {l v : Nat} (h : Tidy s₀ s) : Tidy s₀ (idleFlit l v s) := h.rxFlit fun _ h => h
theorem Tidy.timeFlit {l v arr : Nat} (h : Tidy s₀ s) : Tidy s₀ (timeFlit l v arr s) := h.rxFlit fun _ h => h.setLink
theorem Tidy.timeTb0Flit {l v : Nat} (h : Tidy s₀ s) : Tidy s₀ (timeTb0Flit l v s) := h.rxFlit fun _ h => h.modLink

theorem Tidy.ctlFlit {l cmd v : Nat} {f : Nat → State → State} (h : Tidy s₀ s) (hf : ∀ x t, Tidy s₀ t → Tidy s₀ (f x t)) :
    Tidy s₀ (ctlFlit l cmd v f s) :=
  h.rxFlit fun t h => (hf _ t h).ite h

theorem Tidy.laneDownRx {l v : Nat} (h : Tidy s₀ s) : Tidy s₀ (laneDownRx l v s) :=
  h.ctlFlit fun _ _ h => h.ite (h.linkDown.ite h.sendRs.lMapState)

theorem Tidy.laneReadyRx {l v : Nat} (h : Tidy s₀ s) : Tidy s₀ (laneReadyRx l v s) :=
  h.ctlFlit fun _ _ h => h.ite h.sendRs.lMapState

theorem Tidy.lsEnterRx {l v : Nat} (h : Tidy s₀ s) : Tidy s₀ (lsEnterRx l v s) := h.ctlFlit fun _ _ h => h.setF.sendCtl
theorem Tidy.ls2Check {l : Nat} (h : Tidy s₀ s) : Tidy s₀ (ls2Check l s) := h.setF.ite h

theorem Tidy.lsAckRx {l v : Nat} (h : Tidy s₀ s) : Tidy s₀ (lsAckRx l v s) :=
  (h.ctlFlit fun _ _ h => h.modLink.setF.ite h).ls2Check

theorem Tidy.ackTimeout {l : Nat} (h : Tidy s₀ s) : Tidy s₀ (ackTimeout l s) := h.setLink.ozlResend.ite h

theorem Tidy.traceTimeout {l : Nat} (h : Tidy s₀ s) : Tidy s₀ (traceTimeout l s) := by
  unfold Machine.traceTimeout
  dsimp only
  split
  · refine Tidy.ite ?_ h
    split
    · exact h.setLink.inc.dmaTraceDrop
    · exact h.setLink.inc
  · exact h

theorem Tidy.fbStale {l : Nat} (h : Tidy s₀ s) : Tidy s₀ (fbStale l s) := by
  unfold Machine.fbStale
  dsimp only
  split
  · exact h.ozlFeed.setLink.inc
  · exact h.ozlFeed

theorem Tidy.ozlCtlWrite {l v : Nat} (h : Tidy s₀ s) : Tidy s₀ (ozlCtlWrite l v s) := by
  unfold Machine.ozlCtlWrite
  refine h.ite ?_
  split
  · exact (h.wrRW.lClear.setLst.setLanes.ite ((h.wrRW.when fun _ h => h.setLst.wrN).linksDevice.ite h.wrRW))
  · exact (h.wrRW.lClear.setLst.setLanes.ite ((h.wrRW.when fun _ h => h.setLst.wrN).linksDevice.ite h.wrRW)).linkDown
  · exact (h.wrRW.lClear.setLst.setLanes.ite ((h.wrRW.when fun _ h => h.setLst.wrN).linksDevice.ite h.wrRW)).status

theorem Tidy.lsRequest {l ls : Nat} (h : Tidy s₀ s) : Tidy s₀ (lsRequest l ls s) :=
  h.status.lsExit.ite (h.status.ite h.modLink.status.sendCtl)

theorem Tidy.ozlPmWrite {l v : Nat} (h : Tidy s₀ s) : Tidy s₀ (ozlPmWrite l v s) :=
  h.wrRW.setF.setF.andThen fun k => k.lsRequest.ite k

theorem Tidy.lsAuto {l : Nat} (h : Tidy s₀ s) : Tidy s₀ (lsAuto l s) := h.lsRequest.ite h
theorem Tidy.lsExitDone {l : Nat} (h : Tidy s₀ s) : Tidy s₀ (lsExitDone l s) := h.setLink.setF.ite h
theorem Tidy.prbsCtl {l i v : Nat} (h : Tidy s₀ s) : Tidy s₀ (prbsCtl l i v s) := h.status.ite h.wrN
theorem Tidy.prbsInj {l i : Nat} (h : Tidy s₀ s) : Tidy s₀ (prbsInj l i s) := (h.withOzl.when fun _ h => h.inc).ite h

theorem Tidy.ozlLcfgWrite {l i v : Nat} (h : Tidy s₀ s) : Tidy s₀ (ozlLcfgWrite l i v s) :=
  h.park.prbsCtl.prbsInj.ite h.park.prbsCtl

theorem Tidy.ozlTestWrite {l v : Nat} (h : Tidy s₀ s) : Tidy s₀ (ozlTestWrite l v s) :=
  h.status.ite (h.wrRW.status.setLst.setLanes.ite h.wrRW.status.setLst.setLanes)

theorem Tidy.ozlInjWrite {l v : Nat} (h : Tidy s₀ s) : Tidy s₀ (ozlInjWrite l v s) := h.modLink.ite h
theorem Tidy.linkTimeTx {l : Nat} (h : Tidy s₀ s) : Tidy s₀ (linkTimeTx l s) := h.setLink.ite h

theorem Tidy.linkTimeTake {l : Nat} (h : Tidy s₀ s) : Tidy s₀ (linkTimeTake l s) := by
  unfold Machine.linkTimeTake
  split
  · split
    · exact h.modLink.linkTimeRx
    · exact h
  · exact h

/-! #### The functions of Sys2Proof/Machine/Shroud.lean -/

theorem Tidy.setShp {p : Nat} {x : ShrPart} (h : Tidy s₀ s) : Tidy s₀ (s.setShp p x) := h.withShr
theorem Tidy.modShp {p : Nat} {f : ShrPart → ShrPart} (h : Tidy s₀ s) : Tidy s₀ (s.modShp p f) := h.setShp
theorem Tidy.setPst {p v : Nat} (h : Tidy s₀ s) : Tidy s₀ (s.setPst p v) := h.setF.setF

theorem Tidy.showBytes {reg : Nat → Nat} {n : Nat} {bs : List (BitVec 8)} (h : Tidy s₀ s) :
    Tidy s₀ (showBytes reg n bs s) :=
  h.forEach fun _ _ h => h.wrN

theorem Tidy.formStatement {p : Nat} (h : Tidy s₀ s) : Tidy s₀ (formStatement p s) := h.nextFree.modShp.showBytes
theorem Tidy.ratRelease {y : Nat} (h : Tidy s₀ s) : Tidy s₀ (ratRelease y s) := h.setF.setMst.setF.ite h
theorem Tidy.ratResume {x : Nat} (h : Tidy s₀ s) : Tidy s₀ (ratResume x s) := (h.setF.setWst.ite h.setF).ite h

theorem Tidy.ratLose (h : Tidy s₀ s) : Tidy s₀ (ratLose s) :=
  (h.forEach fun _ _ h => (h.forEach fun _ _ h => h.setF).modMast.ratRelease).forEach fun _ _ h =>
    (h.forEach fun _ _ h => h.setF).ratResume

theorem Tidy.shrEnd {p code : Nat} (h : Tidy s₀ s) : Tidy s₀ (shrEnd p code s) := h.withShr.modShp.setF.setF

theorem Tidy.shrBegin {p cmd : Nat} {blob : List (BitVec 8)} (h : Tidy s₀ s) : Tidy s₀ (shrBegin p cmd blob s) :=
  (h.withShr.ite h).modShp.setF

theorem Tidy.shrLenWrite {p a v : Nat} (h : Tidy s₀ s) : Tidy s₀ (shrLenWrite p a v s) := h.setF.ite h.wrRW

theorem Tidy.shrSeal {p : Nat} (h : Tidy s₀ s) : Tidy s₀ (shrSeal p s) :=
  h.setF.ite (h.shrEnd.ite h.nextFree.nextFree.nextFree.wr.modShp.shrBegin.setPst.ratLose)

theorem Tidy.sealComplete {p : Nat} (h : Tidy s₀ s) : Tidy s₀ (sealComplete p s) :=
  h.formStatement.modShp.setPst.shrEnd.ite h

theorem Tidy.shrCommand {p cmd : Nat} {blob : List (BitVec 8)} (h : Tidy s₀ s) : Tidy s₀ (shrCommand p cmd blob s) :=
  h.setF.ite ((h.denyIf.ite h.denyIf).shrEnd.ite (h.changeSeg.ite h).shrBegin)

theorem Tidy.shrPcmd {p v : Nat} {blob : List (BitVec 8)} (h : Tidy s₀ s) : Tidy s₀ (shrPcmd p v blob s) := by
  unfold Machine.shrPcmd
  split
  · exact h
  · exact h.shrSeal
  · exact h.shrCommand

theorem Tidy.keyImport {p : Nat} {bs : List (BitVec 8)} (h : Tidy s₀ s) : Tidy s₀ (keyImport p bs s) :=
  h.shrEnd.ite (h.shrEnd.ite (h.shrEnd.ite (h.shrEnd.ite h.modShp.wrN.setPst.shrEnd)))

theorem Tidy.strmZero {u n : Nat} (h : Tidy s₀ s) : Tidy s₀ (strmZero u n s) :=
  h.withHal (by exact twf_ringStore _ _ _ _ _)

theorem Tidy.importEnd {p : Nat} {bs : List (BitVec 8)} (h : Tidy s₀ s) : Tidy s₀ (importEnd p bs s) :=
  h.ite <| (h.dstWrite.wrN.changeSeg.ite h.dstWrite.wrN).shrEnd.ite <| (h.strmZero.ite h.dstWrite).andThen fun k =>
    (k.changeSeg.ite k).shrEnd

theorem Tidy.exportEnd {p : Nat} {pay : List (BitVec 8)} (h : Tidy s₀ s) : Tidy s₀ (exportEnd p pay s) :=
  h.nextFree.modShp.andThen fun k => (k.ite k.modQue.unspill).toHost.wrN.shrEnd

theorem Tidy.releaseEnd {p : Nat} {bs : List (BitVec 8)} (h : Tidy s₀ s) : Tidy s₀ (releaseEnd p bs s) :=
  h.shrEnd.ite (h.shrEnd.ite (h.shrEnd.ite h.setPst.shrEnd))

theorem Tidy.shrJobEnd {p : Nat} (h : Tidy s₀ s) : Tidy s₀ (shrJobEnd p s) := by
  unfold Machine.shrJobEnd
  split
  · exact h
  · refine h.ite ?_
    split
    · exact h.formStatement.shrEnd
    · exact h.keyImport
    · exact h.importEnd
    · exact h.exportEnd
    · exact h.releaseEnd
    · exact h

theorem Tidy.zeroiseAll (h : Tidy s₀ s) : Tidy s₀ (zeroiseAll s) := h.forEach fun _ _ h => h.shrEnd.setPst.ite h
theorem Tidy.decZero {x : Nat} (h : Tidy s₀ s) : Tidy s₀ (decZero x s) := h.setCtx

theorem Tidy.zeroiseComplete {p : Nat} (h : Tidy s₀ s) : Tidy s₀ (zeroiseComplete p s) := by
  unfold Machine.zeroiseComplete
  refine h.ite ?_
  extract_lets _ _ _ _ _ back _ put
  have hback (t : Tab Word) : swf resetVal t = true → swf resetVal (back t) = true :=
    swf_foldl (fun t e ht => by
      split
      · split
        · exact ht
        · exact swf_sput resetVal t _ _ ht
      · exact ht) t t
  have hput (xs : List (Nat × Word)) (t : Tab Word) : swf resetVal t = true → swf resetVal (xs.foldl put t) = true :=
    swf_foldl (fun t e => swf_sput resetVal t _ _) xs t
  refine Tidy.setPst <| Tidy.setShp <| Tidy.wrN <| Tidy.wrN <| Tidy.wrN <|
    Tidy.forEach (Tidy.forEach ?_ fun _ _ h => h.decZero) fun _ _ h => h.forEach fun _ _ h => h.acqRefresh
  exact
    { regs := fun hs => hput _ _ (hback _ (h.regs hs))
      act := fun hs => hput _ _ (hback _ (h.act hs))
      wave := twf_filter _ _ ∘ h.wave
      seqs := twf_filter _ _ ∘ h.seqs
      patch := h.patch
      res := twf_filter _ _ ∘ h.res
      graph := twf_filter _ _ ∘ h.graph
      mem := twf_filter _ _ ∘ h.mem
      pending := h.pending }

theorem Tidy.dbgStatus {code : Nat} (h : Tidy s₀ s) : Tidy s₀ (dbgStatus code s) := h.setF

theorem Tidy.dbgReq (h : Tidy s₀ s) : Tidy s₀ (dbgReq s) :=
  h.dbgStatus.ite (h.forEach fun _ _ h => h.wrN.nextFree).withShr.dbgStatus

theorem Tidy.dbgFail (h : Tidy s₀ s) : Tidy s₀ (dbgFail s) := h.withShr.dbgStatus.andThen fun k => k.setF.ite k

theorem Tidy.dbgSubmit {level : Nat} (h : Tidy s₀ s) : Tidy s₀ (dbgSubmit level s) :=
  h.dbgStatus.ite (h.withShr.dbgStatus.setF.ite h.dbgFail)

theorem Tidy.dbgLock (h : Tidy s₀ s) : Tidy s₀ (dbgLock s) := h.withShr.dbgStatus.setF.ratLose

theorem Tidy.dbgScrap {level : Nat} (h : Tidy s₀ s) : Tidy s₀ (dbgScrap level s) :=
  h.dbgStatus.ite (h.withShr.dbgStatus.ite h.dbgFail)

theorem Tidy.dbgCtlWrite {v : Nat} (h : Tidy s₀ s) : Tidy s₀ (dbgCtlWrite v s) :=
  (h.dbgReq.ite h).andThen fun k => (k.dbgSubmit.ite k).andThen fun k => (k.dbgLock.ite k).andThen fun k =>
    k.dbgScrap.ite k

theorem Tidy.spdmOut {code : Nat} {pay : List (BitVec 8)} (h : Tidy s₀ s) : Tidy s₀ (spdmOut code pay s) :=
  h.ite (h.withShr.ite h.withShr)

theorem Tidy.spdmError {e : Nat} (h : Tidy s₀ s) : Tidy s₀ (spdmError e s) := h.spdmOut
theorem Tidy.spdmVersion (h : Tidy s₀ s) : Tidy s₀ (spdmVersion s) := h.spdmOut
theorem Tidy.spdmCaps (h : Tidy s₀ s) : Tidy s₀ (spdmCaps s) := h.spdmOut
theorem Tidy.spdmAlgs {p384 sha384 : Bool} (h : Tidy s₀ s) : Tidy s₀ (spdmAlgs p384 sha384 s) := h.spdmOut
theorem Tidy.spdmDigests (h : Tidy s₀ s) : Tidy s₀ (spdmDigests s) := h.spdmOut

theorem Tidy.spdmCert {slot off len : Nat} (h : Tidy s₀ s) : Tidy s₀ (spdmCert slot off len s) :=
  h.spdmOut.ite h.spdmError

theorem Tidy.spdmSigned {code : Nat} {nonce pay : List (BitVec 8)} (h : Tidy s₀ s) :
    Tidy s₀ (spdmSigned code nonce pay s) :=
  h.nextFree.spdmOut

theorem Tidy.spdmChallenge {slot : Nat} {nonce : List (BitVec 8)} (h : Tidy s₀ s) :
    Tidy s₀ (spdmChallenge slot nonce s) :=
  h.nextFree.spdmSigned.ite h.spdmError

theorem Tidy.spdmMeas {index : Nat} {nonce : List (BitVec 8)} (h : Tidy s₀ s) : Tidy s₀ (spdmMeas index nonce s) :=
  h.nextFree.spdmSigned.ite (h.nextFree.spdmSigned.ite (h.nextFree.spdmSigned.ite h.spdmError))

/-! #### The functions of Sys2Proof/Machine/Trim.lean -/

theorem Tidy.setTrc {i : Nat} {x : TrimC} (h : Tidy s₀ s) : Tidy s₀ (s.setTrc i x) := h.withTrim
theorem Tidy.setElems {i : Nat} {e : Elems} (h : Tidy s₀ s) : Tidy s₀ (setElems i e s) := h.setTrc.setF.setF
theorem Tidy.trimStatus {code : Nat} (h : Tidy s₀ s) : Tidy s₀ (trimStatus code s) := h.setF
theorem Tidy.trimReport {i code : Nat} (h : Tidy s₀ s) : Tidy s₀ (trimReport i code s) := h.setF.report
theorem Tidy.setHealth {i h' : Nat} (h : Tidy s₀ s) : Tidy s₀ (setHealth i h' s) := h.setF
theorem Tidy.trimApplied {i : Nat} (h : Tidy s₀ s) : Tidy s₀ (trimApplied i s) := h.inc.wrN.wrN
theorem Tidy.unstage {i : Nat} (h : Tidy s₀ s) : Tidy s₀ (unstage i s) := h.setTrc.setF

theorem Tidy.trimFg {i : Nat} (h : Tidy s₀ s) : Tidy s₀ (trimFg i s) :=
  h.trimStatus.ite (h.trimStatus.withTrim.unstage.setF.setF.andThen fun k => k.biaZero.ite k)

theorem Tidy.fgResult {i : Nat} {bad : List Nat} (h : Tidy s₀ s) : Tidy s₀ (fgResult i bad s) :=
  h.setHealth.trimReport.ite (h.withTrim.setElems.setHealth.when fun _ h => h.trimReport).trimApplied

theorem Tidy.fgReturn {i : Nat} (h : Tidy s₀ s) : Tidy s₀ (fgReturn i s) := by
  unfold Machine.fgReturn
  dsimp only
  split
  · exact h.setF.biaRefresh
  · exact h.setF.settleFrom
  · exact h.setF

theorem Tidy.trimFgEnd {i : Nat} {bad : List Nat} (h : Tidy s₀ s) : Tidy s₀ (trimFgEnd i bad s) :=
  h.ite h.withTrim.setF.fgResult.fgReturn.trimStatus

theorem Tidy.calResults {bad : List (Nat × List Nat)} (h : Tidy s₀ s) : Tidy s₀ (calResults bad s) :=
  (h.forEach fun _ _ h => h.fgResult).setF.trimStatus

theorem Tidy.bgStart {i : Nat} (h : Tidy s₀ s) : Tidy s₀ (bgStart i s) := (h.setTrc.monCalRequest.ite h.setTrc).ite h
theorem Tidy.trimBgNow {i : Nat} (h : Tidy s₀ s) : Tidy s₀ (trimBgNow i s) := h.trimStatus.ite h.trimStatus.bgStart
theorem Tidy.trimBgRun (h : Tidy s₀ s) : Tidy s₀ (trimBgRun s) := (h.withTrim.forEach fun _ _ h => h.bgStart).setF.ite h

theorem Tidy.stage {i : Nat} {w : TrimSwap} (h : Tidy s₀ s) : Tidy s₀ (stage i w s) :=
  (h.when fun _ h => h.inc).setTrc.setF

theorem Tidy.retireElem {i e : Nat} (h : Tidy s₀ s) : Tidy s₀ (retireElem i e s) :=
  h.setElems.setHealth.trimReport.andThen fun k => k.setHealth.trimReport.ite k

theorem Tidy.trimStepEnd {i : Nat} {ok : Bool} (h : Tidy s₀ s) : Tidy s₀ (trimStepEnd i ok s) := by
  unfold Machine.trimStepEnd
  dsimp only
  refine h.ite (h.setTrc.setF.ite (h.setTrc.setF.trimApplied.ite (h.setTrc.setF.stage.ite ?_)))
  split
  · exact h.setTrc.setF.retireElem.ite h.setTrc.setF.withTrim.setElems.stage
  · exact h.setTrc.setF

theorem Tidy.trimApply {i : Nat} (h : Tidy s₀ s) : Tidy s₀ (trimApply i s) := by
  unfold Machine.trimApply
  dsimp only
  split
  · exact h
  · refine h.ite (Tidy.inc ?_).trimApplied
    split
    · exact h.unstage
    · exact h.unstage.setElems

theorem Tidy.trimSafe (h : Tidy s₀ s) : Tidy s₀ (trimSafe s) := by
  unfold Machine.trimSafe
  refine (((Tidy.trimStatus ?_).ite ?_).forEach fun _ _ h => h.unstage.setTrc).withTrim.setF.setF
  · split
    · exact h.setF.fgReturn
    · exact h
  · split
    · exact h.setF.fgReturn
    · exact h

theorem Tidy.trimCtlWrite {v : Nat} (h : Tidy s₀ s) : Tidy s₀ (trimCtlWrite v s) := h.ite h.wrRW

theorem Tidy.trimCmdWrite {v : Nat} (h : Tidy s₀ s) : Tidy s₀ (trimCmdWrite v s) := by
  unfold Machine.trimCmdWrite
  split
  · exact h
  · exact h.trimFg
  · exact h.trimBgNow
  · exact h.trimStatus

/-! #### The functions of Sys2Proof/Machine/Modes.lean -/

theorem Tidy.putLog {i code cls src inst time : Nat} (h : Tidy s₀ s) : Tidy s₀ (putLog i code cls src inst time s) :=
  h.wrN.wrN.wrN.wrN

theorem Tidy.logIrq {cls : Nat} (h : Tidy s₀ s) : Tidy s₀ (logIrq cls s) := h.fireVec.ite h

theorem Tidy.logReport {code : Nat} {program : Bool} {src inst : Nat} (h : Tidy s₀ s) :
    Tidy s₀ (logReport code program src inst s) := by
  unfold Machine.logReport
  dsimp only
  split
  · exact h.inc.setF
  · exact (h.inc.when fun _ h => h.setF).andThen fun k => k.putLog.setF.logIrq.ite <|
      k.inc.setF.putLog.logIrq.ite k.inc.setF

theorem Tidy.devRefresh (h : Tidy s₀ s) : Tidy s₀ (devRefresh s) := h.setDev.ite h

theorem Tidy.enterReady (h : Tidy s₀ s) : Tidy s₀ (enterReady s) :=
  (h.setDev.adcReady.forEach fun _ _ h => h.biaRefresh.fluxStates).linksDevice

theorem Tidy.enterCal (h : Tidy s₀ s) : Tidy s₀ (enterCal s) :=
  (h.setDev.wStopAll.markersCut.forEach fun _ _ h =>
    h.fluxClear.fluxStates.biaZero.demStartAll).monOn.setF.trimStatus.linksDevice

theorem Tidy.enterConfig (h : Tidy s₀ s) : Tidy s₀ (enterConfig s) :=
  (h.setDev.monOff.wStopAll.markersCut.forEach fun _ _ h => h.fluxClear.fluxStates.biaZero.demStopAll).linksDevice

theorem Tidy.mastAbort {y : Nat} (h : Tidy s₀ s) : Tidy s₀ (mastAbort y s) := by
  unfold Machine.mastAbort
  exact h.setMst.setF.modMast

theorem Tidy.yardCut {y a : Nat} (h : Tidy s₀ s) : Tidy s₀ (yardCut y a s) :=
  h.keepHeld.withBus.withTon.halIdle.strAbort.acqAbort.withdrawFormed.markerCut

theorem Tidy.groupClear {g : Nat} (h : Tidy s₀ s) : Tidy s₀ (groupClear g s) := h.noCmd.modGrp.withFlt

theorem Tidy.groupAbort {g a : Nat} (h : Tidy s₀ s) : Tidy s₀ (groupAbort g a s) :=
  h.groupClear.svcDisturb.andThen fun k => k.ite ((k.ite k.dropShotRecs).forEach fun _ _ h =>
    h.yardCut.mastAbort).decAbort.modGrp.setGst

theorem Tidy.groupSettle {g : Nat} (h : Tidy s₀ s) : Tidy s₀ (groupSettle g s) := h.setGst.devRefresh.ite h
theorem Tidy.mastStopped {y : Nat} (h : Tidy s₀ s) : Tidy s₀ (mastStopped y s) := h.setMst.groupSettle.ite h
theorem Tidy.imgStatus {code : Nat} (h : Tidy s₀ s) : Tidy s₀ (imgStatus code s) := h.setF
theorem Tidy.setIst {v : Nat} (h : Tidy s₀ s) : Tidy s₀ (s.setIst v) := h.setF
theorem Tidy.imgDrop (h : Tidy s₀ s) : Tidy s₀ (imgDrop s) := h.withImg
theorem Tidy.imgSafe (h : Tidy s₀ s) : Tidy s₀ (imgSafe s) := h.imgStatus.setIst.imgDrop.ite h

theorem Tidy.clearFormed (h : Tidy s₀ s) : Tidy s₀ { s with cnv := { s.cnv with formed := [] } } := h.withCnv

theorem Tidy.enterSafe {code : Nat} (h : Tidy s₀ s) : Tidy s₀ (enterSafe code s) := by
  unfold Machine.enterSafe
  refine h.ite ?_
  extract_lets _ _ _ s₁ _ _ s₂
  have hs₁ : Tidy s₀ s₁ := h.trimSafe.imgSafe.setDev.setF.forEach fun _ _ h => h.groupAbort
  have hs₂ : Tidy s₀ s₂ := hs₁.keepHeld.keepTransit.forEach fun _ _ h =>
    h.fluxClear.fluxStates.acqClear.demStopAll.ucAbortLoad.halIdle.hoDiscard.biaRefresh
  exact hs₂.clearFormed.markersCut.slotClearAll.decSafe.monOff.wStopAll.cnsCloseAll.frlSafe.dmaAbortAll.linksDown.linksDevice

theorem Tidy.fatal {code src inst : Nat} (h : Tidy s₀ s) : Tidy s₀ (fatal code src inst s) := h.logReport.enterSafe
theorem Tidy.stateStatus {code : Nat} (h : Tidy s₀ s) : Tidy s₀ (stateStatus code s) := h.setF
theorem Tidy.goSafe (h : Tidy s₀ s) : Tidy s₀ (goSafe s) := h.stateStatus.fatal
theorem Tidy.leaveSafe (h : Tidy s₀ s) : Tidy s₀ (leaveSafe s) := h.stateStatus.enterConfig.ite h.stateStatus
theorem Tidy.recal (h : Tidy s₀ s) : Tidy s₀ (recal s) := h.stateStatus.enterCal.ite h.stateStatus

theorem Tidy.stateCmd {v : Nat} (h : Tidy s₀ s) : Tidy s₀ (stateCmd v s) := by
  unfold Machine.stateCmd
  split
  · exact h
  · exact h.goSafe
  · exact h.leaveSafe
  · exact h.recal
  · exact h.stateStatus

/-! #### The functions of Sys2Proof/Machine/Faults.lean -/

theorem Tidy.fltStatus {code : Nat} (h : Tidy s₀ s) : Tidy s₀ (fltStatus code s) := h.setF

theorem Tidy.faultReport (h : Tidy s₀ s) : Tidy s₀ (faultReport s) := by
  unfold Machine.faultReport
  dsimp only
  split
  · exact h
  · exact h.withBus.fatal.ite h.withBus.logReport

theorem Tidy.fltDiscard (h : Tidy s₀ s) : Tidy s₀ (fltDiscard s) := h.setF.fltStatus

theorem Tidy.fltCmd {v : Nat} (h : Tidy s₀ s) : Tidy s₀ (fltCmd v s) := by
  unfold Machine.fltCmd
  split
  · exact h
  · exact h.fltDiscard
  · exact h.fltStatus

theorem Tidy.logRpWrite {v : Nat} (h : Tidy s₀ s) : Tidy s₀ (logRpWrite v s) := h.fltStatus.ite h.setF.fltStatus
theorem Tidy.fltMark {g : Nat} (h : Tidy s₀ s) : Tidy s₀ (fltMark g s) := h.fltStatus.ite h.modGrp.fltStatus

theorem Tidy.fltMarkRelease {g : Nat} (h : Tidy s₀ s) : Tidy s₀ (fltMarkRelease g s) := by
  unfold Machine.fltMarkRelease
  dsimp only
  split
  · exact h
  · exact h.ite (h.modGrp.markGroup.report.ite h.modGrp.fltStatus)

theorem Tidy.setTrig {i : Nat} {x : TrigIn} (h : Tidy s₀ s) : Tidy s₀ (s.setTrig i x) := h.withFlt

theorem Tidy.trigAccept {i : Nat} (h : Tidy s₀ s) : Tidy s₀ (trigAccept i s) := by
  unfold Machine.trigAccept
  dsimp only
  split
  · exact h
  · exact h.setTrig.ite h

theorem Tidy.trigLevel {i : Nat} {up : Bool} (h : Tidy s₀ s) : Tidy s₀ (trigLevel i up s) :=
  h.trigAccept.ite ((h.trigAccept.when fun _ h => h.inc).andThen fun k => k.setTrig.ite k.setTrig)

theorem Tidy.trigConsumers {i : Nat} {p : TrigCh} (h : Tidy s₀ s) : Tidy s₀ (trigConsumers i p s) :=
  (h.withCnv.forEach fun _ _ h => h.forEach fun _ _ h => h.modDem).cnsEdge.ite h

theorem Tidy.trigDeliver {i : Nat} (h : Tidy s₀ s) : Tidy s₀ (trigDeliver i s) := by
  unfold Machine.trigDeliver
  dsimp only
  split
  · exact h
  · exact h.ite (h.setTrig.trigConsumers.andThen fun k => k.ite (k.withFlt.markGroup.report.ite k.report))

theorem Tidy.trigCfgWrite {i v : Nat} (h : Tidy s₀ s) : Tidy s₀ (trigCfgWrite i v s) :=
  h.fltStatus.ite (h.deny.fltStatus.ite h.setTrig.wrRW.fltStatus)

theorem Tidy.xfRecheck (h : Tidy s₀ s) : Tidy s₀ (xfRecheck s) := h.forEach fun _ _ h => h.setF.ite h

/-! #### The functions of Sys2Proof/Machine/Reef.lean -/

theorem Tidy.reefStatus {code : Nat} (h : Tidy s₀ s) : Tidy s₀ (reefStatus code s) := h.setF

theorem Tidy.shed {old new_ : Nat} (h : Tidy s₀ s) : Tidy s₀ (shed old new_ s) :=
  (h.setF.setF.cnsCloseAll.ite h.setF.setF).andThen fun k => (k.frlShed.ite k).andThen fun k =>
    k.setF.setF.setF.withReef.ite k.setF.setF.setF

theorem Tidy.levelRefresh (h : Tidy s₀ s) : Tidy s₀ (levelRefresh s) := h.ite h.setF.inc.shed
theorem Tidy.tlevelChange (h : Tidy s₀ s) : Tidy s₀ (tlevelChange s) := h.ite h.withReef.setF.levelRefresh
theorem Tidy.plevelChange (h : Tidy s₀ s) : Tidy s₀ (plevelChange s) := h.ite h.withReef.setF.levelRefresh
theorem Tidy.setTemp {i : Nat} {t : Int} (h : Tidy s₀ s) : Tidy s₀ (setTemp i t s) := h.setF
theorem Tidy.sensFail (h : Tidy s₀ s) : Tidy s₀ (sensFail s) := h.setF
theorem Tidy.coolRefresh (h : Tidy s₀ s) : Tidy s₀ (coolRefresh s) := (h.ite h.withReef).ite h.withReef

theorem Tidy.zoneRefresh {z : Nat} (h : Tidy s₀ s) : Tidy s₀ (zoneRefresh z s) :=
  (h.setF.setF.ite h.setF).andThen fun k => (k.setF.setF.ite k).andThen fun k =>
    (k.report.ite k).setF.coolRefresh.andThen fun k => k.fatal.ite k

theorem Tidy.sensFails {i : Nat} (h : Tidy s₀ s) : Tidy s₀ (sensFails i s) :=
  h.withReef.setF.setTemp.sensFail.report.zoneRefresh

theorem Tidy.sensorConv {i : Nat} {v : Int} (h : Tidy s₀ s) : Tidy s₀ (sensorConv i v s) :=
  h.ite <| h.sensFails.ite <| h.withReef.setTemp.andThen fun k => k.setF.coolRefresh.ite <|
    k.zoneRefresh.andThen fun k => k.fatal.ite k

theorem Tidy.sensBoot {is : List Nat} (h : Tidy s₀ s) : Tidy s₀ (sensBoot is s) := h.forEach fun _ _ h => h.sensFails

theorem Tidy.sensRetest {i : Nat} {pass : Bool} {xs : List Int} (h : Tidy s₀ s) : Tidy s₀ (sensRetest i pass xs s) :=
  h.reefStatus.ite <| h.reefStatus.withReef.setF.setTemp.sensFail.zoneRefresh.ite h.reefStatus.sensFails

theorem Tidy.reefCmd {v : Nat} {pass : Bool} {xs : List Int} (h : Tidy s₀ s) : Tidy s₀ (reefCmd v pass xs s) := by
  unfold Machine.reefCmd
  split
  · exact h
  · exact h.sensRetest
  · exact h.reefStatus

theorem Tidy.railSample {vs : List (Nat × Nat)} (h : Tidy s₀ s) : Tidy s₀ (railSample vs s) :=
  h.ite <| (h.withReef.forEach fun _ _ h => h.wrN).andThen fun k =>
    (k.wrN.withReef.withReef.setF.report.ite k.wrN.withReef).ite k.wrN.withReef

theorem Tidy.plimWrite {v : Nat} (h : Tidy s₀ s) : Tidy s₀ (plimWrite v s) := h.reefStatus.ite h.wrN.reefStatus

/-! #### The functions of Sys2Proof/Machine/Power.lean -/

theorem Tidy.fullBegins (h : Tidy s₀ s) : Tidy s₀ (fullBegins s) := (h.enterConfig.ite h).zeroiseAll

theorem Tidy.imgLoad {full flash auto_ : Bool} {src len : Nat} (h : Tidy s₀ s) :
    Tidy s₀ (imgLoad full flash auto_ src len s) :=
  h.imgStatus.ite (h.imgStatus.setIst.imgDrop.andThen fun k => k.withImg.fullBegins.ite k.withImg)

/-- A state whose tables are all empty. -/
theorem Tidy.emptied {t : State} (h : Tidy s₀ s) (regs : t.regs = []) (act : t.act = []) (wave : t.hal.wave = [])
    (seqs : t.seq.store = []) (patch : t.seq.patch = []) (res : t.cnv.res = []) (graph : t.dec.store = []) (mem : t.wch.mem = [])
    (pending : t.pending = s.pending) : Tidy s₀ t where
  regs _ := by rw [regs]; rfl
  act _ := by rw [act]; rfl
  wave _ := by rw [wave]; rfl
  seqs _ := by rw [seqs]; rfl
  patch _ := by rw [patch]; rfl
  res _ := by rw [res]; rfl
  graph _ := by rw [graph]; rfl
  mem _ := by rw [mem]; rfl
  pending := pending.trans h.pending

theorem Tidy.deviceReset {kind : Nat} (h : Tidy s₀ s) : Tidy s₀ (deviceReset kind s) := by
  unfold Machine.deviceReset
  refine Tidy.setDev <| Tidy.setF <| Tidy.setF <| Tidy.setF <| Tidy.setF <| Tidy.wr <| Tidy.wr ?_
  refine h.emptied ?_ ?_ ?_ ?_ ?_ ?_ ?_ ?_ ?_
  all_goals rfl

theorem Tidy.resetRelease (h : Tidy s₀ s) : Tidy s₀ (resetRelease s) := by
  unfold Machine.resetRelease
  exact h.keep.setDev.ite h

theorem Tidy.resetAssert {perst : Bool} (h : Tidy s₀ s) : Tidy s₀ (resetAssert perst s) :=
  h.pcieReset.ite (h.ite h.deviceReset)

theorem Tidy.glbReset {v : Nat} (h : Tidy s₀ s) : Tidy s₀ (glbReset v s) := h.withPwr.ite h

theorem Tidy.glbResetTick (h : Tidy s₀ s) : Tidy s₀ (glbResetTick s) := by
  unfold Machine.glbResetTick
  split
  · exact h.deviceReset.ite h
  · exact h

theorem Tidy.analogTrip (h : Tidy s₀ s) : Tidy s₀ (analogTrip s) := h.deviceReset.inc.setF.withReef

theorem Tidy.tripRestart (h : Tidy s₀ s) : Tidy s₀ (tripRestart s) := by
  unfold Machine.tripRestart
  dsimp only
  split
  · exact h.withReef.resetRelease.ite h
  · exact h

theorem Tidy.powerGood {straps : Nat} (h : Tidy s₀ s) : Tidy s₀ (powerGood straps s) := by
  unfold Machine.powerGood
  dsimp only
  split
  · exact h.withPwr
  · exact h.withPwr.withPwr.wr

theorem Tidy.railLoss (h : Tidy s₀ s) : Tidy s₀ (railLoss s) := (h.ite h.deviceReset).withPwr
theorem Tidy.auxLoss (h : Tidy s₀ s) : Tidy s₀ (auxLoss s) := h.withReef.deviceReset.wr.wrN.setF.withPwr
theorem Tidy.synthLost (h : Tidy s₀ s) : Tidy s₀ (synthLost s) := h.setF.setF.inc.withPwr.tb1Halt.fatal.ite h
theorem Tidy.refclkLost (h : Tidy s₀ s) : Tidy s₀ (refclkLost s) := h.setF.setF.synthLost
theorem Tidy.refclkBack (h : Tidy s₀ s) : Tidy s₀ (refclkBack s) := h.ite h.setF.setF

theorem Tidy.relockTry {locks : Bool} (h : Tidy s₀ s) : Tidy s₀ (relockTry locks s) :=
  (h.withPwr.withPwr.setF.ite h.withPwr).ite h

theorem Tidy.lockHeld (h : Tidy s₀ s) : Tidy s₀ (lockHeld s) := by
  unfold Machine.lockHeld
  split
  · exact h.setF.ite h
  · exact h

theorem Tidy.setStage {n : Nat} (h : Tidy s₀ s) : Tidy s₀ (s.setStage n) := h.setF
theorem Tidy.bootFail {cause : Nat} (h : Tidy s₀ s) : Tidy s₀ (bootFail cause s) := h.setF.fatal
theorem Tidy.ownerKeys {r : List (BitVec 8)} (h : Tidy s₀ s) : Tidy s₀ (ownerKeys r s) := h.withShr.setF

theorem Tidy.bootDone (h : Tidy s₀ s) : Tidy s₀ (bootDone s) := by
  unfold Machine.bootDone
  dsimp only
  refine h.setStage.fatal.ite (h.setStage.fatal.ite ?_)
  split
  · exact h.setStage.enterConfig.ite h.setStage.enterConfig.imgLoad
  · exact h.setStage.enterConfig

theorem Tidy.bootStage {cause : Nat} {a b okr fw : List (BitVec 8)} {sens : List Nat} (h : Tidy s₀ s) :
    Tidy s₀ (bootStage cause a b okr fw sens s) := by
  unfold Machine.bootStage
  refine h.ite ?_
  split
  · exact h.bootFail.ite h.withStay.setStage
  · exact (h.ite h.withPwr).andThen fun k => k.ite <| k.setF.ite (k.setF.setF.setF.andThen fun k =>
      k.bootFail.ite k.setF.setF.setStage)
  · exact h.bootFail.ite h.setStage
  · exact h.sensBoot.ite (h.sensBoot.bootFail.ite h.sensBoot.setStage)
  · exact h.bootFail.ite (h.bootFail.ite h.withPwr.setStage.ownerKeys)
  · split
    · exact h
    · exact h.keep.setF.setF.bootDone.ite (h.withPwr.bootFail.ite h.withPwr)
  · exact h

theorem Tidy.auxRetry {locks : Bool} (h : Tidy s₀ s) : Tidy s₀ (auxRetry locks s) :=
  (h.withPwr.setF.setF.setF.ite h.withPwr).ite h

theorem Tidy.smbAnswer {cmd : Nat} {bs : List (BitVec 8)} (h : Tidy s₀ s) : Tidy s₀ (smbAnswer cmd bs s) := h.withPwr
theorem Tidy.smbWord {cmd v : Nat} (h : Tidy s₀ s) : Tidy s₀ (smbWord cmd v s) := h.smbAnswer
theorem Tidy.smbNack (h : Tidy s₀ s) : Tidy s₀ (smbNack s) := h.withPwr
theorem Tidy.smbZone {z : Nat} (h : Tidy s₀ s) : Tidy s₀ (smbZone z s) := h.smbWord.ite h.smbNack
theorem Tidy.smbRail {r : Nat} (h : Tidy s₀ s) : Tidy s₀ (smbRail r s) := h.smbAnswer.ite h.smbNack

/-! #### The functions of Sys2Proof/Machine/Lockstep.lean -/

theorem Tidy.lsgStatus {code : Nat} (h : Tidy s₀ s) : Tidy s₀ (lsgStatus code s) := h.setF
theorem Tidy.armRefused {y code : Nat} (h : Tidy s₀ s) : Tidy s₀ (armRefused y code s) := h.setF

theorem Tidy.lsgStage {g cmd rel lead : Nat} (h : Tidy s₀ s) : Tidy s₀ ((lsgStage g cmd rel lead s).1) := by
  unfold Machine.lsgStage
  refine Tidy.iteFst h (Tidy.iteFst h ?_)
  split
  · exact h.armRefused
  · exact h.lsgSend

theorem Tidy.lsgHost {g cmd lead : Nat} (h : Tidy s₀ s) : Tidy s₀ (lsgHost g cmd lead s) :=
  h.lsgStage.lsgStatus.andThen fun k => k.svcDisturb.ite k

theorem Tidy.lsgService {g cmd : Nat} (h : Tidy s₀ s) : Tidy s₀ (lsgService g cmd s) :=
  h.ite (h.lsgStage.ite h.lsgStage.svcDisturb)

theorem Tidy.lsgCommand {g cmd : Nat} {svc : Bool} (h : Tidy s₀ s) : Tidy s₀ (lsgCommand g cmd svc s) :=
  h.lsgService.ite (h.hostWr fun _ h => h.lsgHost)

/-! #### The functions of Sys2Proof/Machine/Graly.lean -/

theorem Tidy.imgDetail {cls record inst : Nat} (h : Tidy s₀ s) : Tidy s₀ (imgDetail cls record inst s) := h.wrN

theorem Tidy.imgFail {code cls record inst : Nat} (h : Tidy s₀ s) : Tidy s₀ (imgFail code cls record inst s) :=
  h.imgStatus.imgDetail.setIst

theorem Tidy.commitBegin (h : Tidy s₀ s) : Tidy s₀ (commitBegin s) := h.withImg.setIst.imgStatus

theorem Tidy.imgCommit (h : Tidy s₀ s) : Tidy s₀ (imgCommit s) := by
  unfold Machine.imgCommit
  refine h.imgStatus.ite ((h.commitBegin.ite h.imgStatus).ite (h.imgStatus.ite ?_))
  split
  · exact h.imgStatus.imgDetail
  · exact h.commitBegin

theorem Tidy.imgAbort (h : Tidy s₀ s) : Tidy s₀ (imgAbort s) := h.imgStatus.setIst.imgDrop.ite (h.imgStatus.ite h)
theorem Tidy.imgClear (h : Tidy s₀ s) : Tidy s₀ (imgClear s) := h.imgStatus.setIst.imgDrop.ite (h.ite h.imgStatus)
theorem Tidy.imgLenWrite {v : Nat} (h : Tidy s₀ s) : Tidy s₀ (imgLenWrite v s) := h.wrRW.ite h.imgStatus

theorem Tidy.imgCtlWrite {v : Nat} {full : Bool} (h : Tidy s₀ s) : Tidy s₀ (imgCtlWrite v full s) := by
  unfold Machine.imgCtlWrite
  split
  · exact h
  · exact h.imgLoad
  · exact h.imgCommit
  · exact h.imgAbort
  · exact h.imgClear
  · exact h.imgStatus

/-! #### The functions of Sys2Proof/Machine/Bus.lean -/

theorem Tidy.w1cWrite {b y a v mask : Nat} (h : Tidy s₀ s) : Tidy s₀ (w1cWrite b y a v mask s) :=
  (h.biaRelease.ite h).clearW1C

theorem Tidy.yardWrite {b : Nat} {ix : List Nat} {a v leadFt : Nat} (h : Tidy s₀ s) :
    Tidy s₀ (yardWrite b ix a v leadFt s) :=
  h.seqHostWrite.ite <| h.ucCtlWrite.ite <| h.ucLenWrite.ite <| h.segIdxWrite.ite <| h.segCtlWrite.ite <|
    h.mrkPinWrite.ite <| h.jumpHost.ite <| h.strCtlWrite.ite <| h.shdCtlWrite.ite <| h.hoCmdLead.ite <|
    h.fsWrite.ite <| h.tonHostWrite.ite <| h.flxRbWrite.ite <| h.biaCodeHost.ite <| h.acqCtlWrite.ite <|
    h.acqGeomWrite.ite <| h.demCtlWrite.ite <| h.demFirWrite.ite <|
    h.klenWrite.ite (h.kwWrite.ite (h.dscCfgWrite.ite (h.yqidWrite.ite (h.shadowHost.ite h.wrRW))))

theorem Tidy.convWrite {b : Nat} {ix : List Nat} {a v : Nat} (h : Tidy s₀ s) : Tidy s₀ (convWrite b ix a v s) :=
  h.cnvCfgWrite.ite <| h.cnvCfgWrite.ite <| h.cnvCfgWrite.ite <| h.monCtlWrite.ite <| h.monInj.ite <|
    h.monXchkWrite.ite <| h.monScanWrite.ite <| h.ringGeomWrite.ite <| h.ringCtlWrite.ite <|
    h.ringRpWrite.ite (h.ringGeomWrite.ite (h.ringCtlWrite.ite (h.ringRpWrite.ite h.wrRW)))

theorem Tidy.poolWrite {b : Nat} {ix : List Nat} {a v : Nat} (h : Tidy s₀ s) : Tidy s₀ (poolWrite b ix a v s) :=
  h.fwdWrite.ite <| h.imapWrite.ite <| h.tapWrite.ite <| h.decEnWrite.ite <| h.decCfgWrite.ite <| h.wCtlWrite.ite <|
    h.wPcWrite.ite <| h.wIenWrite.ite <| h.wDoorbell.ite <| h.wRegWrite.ite <| h.cnsCtlWrite.ite <|
    h.cnsCfgWrite.ite (h.cnsForce.ite (h.cnsRpWrite.ite (h.frlCtlWrite.ite (h.frlLenWrite.ite h.wrRW))))

theorem Tidy.timeWrite {b : Nat} {ix : List Nat} {a v : Nat} (h : Tidy s₀ s) : Tidy s₀ (timeWrite b ix a v s) :=
  h.stayCtlWrite.ite <| h.stayCmd.ite <| (h.staySnap.ite h).ite <| h.syncoutWrite.ite <| h.tbnWrite.ite <|
    h.tbnSetAt.ite <| h.tmrCtlWrite.ite <| h.tmrCfgWrite.ite <| h.ozlCtlWrite.ite <|
    h.ozlPmWrite.ite (h.ozlTestWrite.ite (h.ozlInjWrite.ite (h.ozlLcfgWrite.ite h.stayRegWrite)))

theorem Tidy.hubWrite {b : Nat} {ix : List Nat} {a v : Nat} {host : List (BitVec 8)} (h : Tidy s₀ s) :
    Tidy s₀ (hubWrite b ix a v host s) :=
  h.stateCmd.ite <| h.lsgHost.ite <| h.glbReset.ite <| h.imgCtlWrite.ite <| h.imgLenWrite.ite <| h.qidxWrite.ite <|
    h.qcmdWrite.ite <| h.shrPcmd.ite <| h.shrLenWrite.ite <| h.dbgCtlWrite.ite <| h.withShr.ite <|
    h.trimCtlWrite.ite <| h.trimCmdWrite.ite <| h.reefCmd.nextFree.ite <|
    h.plimWrite.ite (h.fltCmd.ite (h.logRpWrite.ite (h.fltMark.ite (h.trigCfgWrite.ite h.wrRW))))

theorem Tidy.hostStore {a v leadFt : Nat} {host : List (BitVec 8)} (h : Tidy s₀ s) :
    Tidy s₀ (hostStore a v leadFt host s) := by
  unfold Machine.hostStore
  dsimp only
  split
  · exact h
  · exact h.ite <| h.w1cWrite.ite (h.convWrite.ite (h.yardWrite.ite (h.poolWrite.ite (h.timeWrite.ite h.hubWrite))))

theorem Tidy.write32 {a v leadFt : Nat} {host : List (BitVec 8)} (h : Tidy s₀ s) :
    Tidy s₀ (write32 a v leadFt host s) := by
  unfold Machine.write32
  split
  · exact (h.hostWr fun _ h => h.hostStore).ite h
  · exact h

theorem Tidy.busWrite {a v n leadFt : Nat} {host : List (BitVec 8)} (h : Tidy s₀ s) :
    Tidy s₀ (busWrite a v n leadFt host s) := by
  unfold Machine.busWrite
  refine ((h.hostBar fun _ h => h.msixWrite).ite ((h.hostBar fun _ h => h.msixWrite.msixWrite).ite h)).ite <|
    h.write32.ite (Tidy.ite ?_ h)
  split
  · exact (h.hostWr fun _ h => h.hostStore).ite h.write32.write32
  · exact h.write32

theorem Tidy.openWrite {a v leadFt : Nat} (h : Tidy s₀ s) : Tidy s₀ (openWrite a v leadFt s) :=
  h.inc.ite (h.hostStore.wr.ite h.hostStore)

theorem Tidy.emit32 {a v : Nat} (h : Tidy s₀ s) : Tidy s₀ (emit32 a v s) := by
  unfold Machine.emit32
  split
  · exact h.openWrite.ite h
  · exact h

theorem Tidy.emitWrite {a v : Nat} {w64 : Bool} (h : Tidy s₀ s) : Tidy s₀ (emitWrite a v w64 s) := by
  unfold Machine.emitWrite
  refine (h.emit32.ite h).ite (h.ite ?_)
  split
  · exact h.openWrite.ite h.emit32.emit32
  · exact h.emit32

theorem Tidy.setrStore {y off v : Nat} (h : Tidy s₀ s) : Tidy s₀ ((setrStore y off v s).1) := by
  unfold Machine.setrStore
  dsimp only
  split
  · exact h
  · simp only [apply_ite Prod.fst]
    exact h.wrRW.ite <| h.ite <| h.tonStore.ite <| h.biaCodeSet.ite <| h.jumpWrite.ite <| h.strCtlWrite.ite <|
      h.acqCtlWrite.ite <| h.klenWrite.ite <| h.yqidWrite.ite <| (h.ite h.shadowStore).ite h.yardWrite

theorem Tidy.setrRelease {y pc off v : Nat} (h : Tidy s₀ s) : Tidy s₀ (setrRelease y pc off v s) :=
  h.setrStore.noteSetr.ite h.setrStore.progFault

theorem Tidy.readPart {rat peek : Bool} {a n : Nat} (h : Tidy s₀ s) : Tidy s₀ ((readPart rat peek a n s).1) :=
  h.clearRC.ite h

theorem Tidy.busRead {rat peek : Bool} {a n : Nat} (h : Tidy s₀ s) : Tidy s₀ ((busRead rat peek a n s).1) := by
  unfold Machine.busRead
  split
  · exact Tidy.readPart (rat := rat) h.readPart
  · exact h.readPart

/-! #### The functions of Sys2Proof/Machine/Image.lean -/

theorem Tidy.fullConfig (h : Tidy s₀ s) : Tidy s₀ (fullConfig s) := h.withImg
theorem Tidy.yardConfig (h : Tidy s₀ s) : Tidy s₀ (yardConfig s) := h.withImg
theorem Tidy.linkConfig (h : Tidy s₀ s) : Tidy s₀ (linkConfig s) := h.withImg
theorem Tidy.newConfig (h : Tidy s₀ s) : Tidy s₀ (newConfig s) := h.fullConfig.ite (h.linkConfig.ite h.yardConfig)

theorem Tidy.imageReset {kind scope : Nat} (h : Tidy s₀ s) : Tidy s₀ (imageReset kind scope s) :=
  ((((h.withRegs (swf_filter _ _ _)).withAct (swf_filter _ _ _)).withImg).forEach fun _ _ h => h.forEach fun _ _ h => h.setF.modDem)

theorem Tidy.allotBits (h : Tidy s₀ s) : Tidy s₀ (allotBits s) := h.setF.setF.setF.setF

theorem Tidy.newHands {old : State} (h : Tidy s₀ s) : Tidy s₀ (newHands old s) :=
  (((h.forEach fun _ _ h => h.wNewOwner).forEach fun _ _ h => h.withCap.setCnsSt).forEach fun _ _ h =>
    h.setFjob.forEach fun _ _ h => h.setFctx.setCtxSt).allotBits

theorem Tidy.outOfService {f : State → State} (h : Tidy s₀ s) (hf : ∀ t, Tidy s₀ t → Tidy s₀ (f t)) :
    Tidy s₀ (outOfService f s) :=
  ((hf _ (h.forEach fun _ _ h => h.setGst).setDev).forEach fun _ _ h => h.setGst).setDev

theorem Tidy.regInitPut {a v : Nat} (h : Tidy s₀ s) : Tidy s₀ (regInitPut a v s) := by
  unfold Machine.regInitPut
  dsimp only
  split
  · exact h
  · exact (h.wrRW.actWr.ite ((h.outOfService fun _ h => h.hostStore).ite h.wr)).andThen fun k =>
      k.withImg.setF.modDem.ite k.withImg

theorem Tidy.configBase (h : Tidy s₀ s) : Tidy s₀ (configBase s) := h.newConfig.imageReset.newHands

theorem Tidy.kindStaged (h : Tidy s₀ s) : Tidy s₀ (kindStaged s) :=
  h.ite (h.imgFail.ite (h.imgFail.ite (h.withImg.fullBegins.ite h.withImg)))

theorem Tidy.headerStaged {bs : List (BitVec 8)} (h : Tidy s₀ s) : Tidy s₀ (headerStaged bs s) :=
  h.ite (h.withImg.imgFail.ite h.withImg.kindStaged)

theorem Tidy.fetchComplete {bs : List (BitVec 8)} (h : Tidy s₀ s) : Tidy s₀ (fetchComplete bs s) :=
  h.ite h.withImg.setIst

theorem Tidy.verifyComplete (h : Tidy s₀ s) : Tidy s₀ (verifyComplete s) := h.ite (h.imgFail.ite h.withImg.setIst)

theorem Tidy.checkComplete (h : Tidy s₀ s) : Tidy s₀ (checkComplete s) := by
  unfold Machine.checkComplete
  refine h.ite ?_
  split
  · exact h.imgFail
  · exact h.imgStatus.setIst.andThen fun k => k.imgCommit.ite k

theorem Tidy.yardRefresh {y : Nat} (h : Tidy s₀ s) : Tidy s₀ (yardRefresh y s) :=
  (((h.forEach fun _ _ h => h.toneState).forEach fun _ _ h => (h.ite h.setCst).acqRefresh).forEach fun _ _ h =>
    h.slotClear).fluxStates.biaRefresh

theorem Tidy.shadowClean {y : Nat} (h : Tidy s₀ s) : Tidy s₀ (shadowClean y s) :=
  h.forEach fun _ _ h => (h.forEach fun _ _ h => h.wr).setShSt

theorem Tidy.adcChanged {old : State} (h : Tidy s₀ s) : Tidy s₀ (adcChanged old s) :=
  h.forEach fun _ _ h => h.setAdc.settleFrom

theorem Tidy.segRecheck {old : State} (h : Tidy s₀ s) : Tidy s₀ (segRecheck old s) := h.withHal

theorem Tidy.mastReset {y : Nat} (h : Tidy s₀ s) : Tidy s₀ (mastReset y s) := by
  unfold Machine.mastReset
  exact (h.withRegs (swf_filter _ _ _)).modMast

theorem Tidy.linkRegs {l : Nat} (h : Tidy s₀ s) : Tidy s₀ (linkRegs l s) :=
  h.setF.setF.setF.forEach fun _ _ h => h.setTaps

theorem Tidy.clearHung (h : Tidy s₀ s) : Tidy s₀ { s with seq := { s.seq with hung := [] } } := h.withSeq

theorem Tidy.fullCommit (h : Tidy s₀ s) : Tidy s₀ (fullCommit s) := by
  unfold Machine.fullCommit
  split
  · exact h
  · refine h.ite <| Tidy.andThen (Tidy.xfRecheck <| Tidy.decRecheck <| Tidy.withImg <| Tidy.imgDrop <| Tidy.setIst <|
      Tidy.imgStatus <| Tidy.wrN <| Tidy.withShr <| Tidy.forEach (Tidy.clearHung ?_) fun _ _ h => h.setPst)
      fun k => k.enterCal.ite k
    exact ((((((h.configBase.segRecheck.forEach fun _ _ h => h.forEach fun _ _ h => h.slotClear).forEach fun _ _ h =>
      h.setGst.groupClear).forEach fun _ _ h => h.mastAbort.setMst.wrN).forEach fun _ _ h => h.wrN.linkRegs).foldl
      fun _ _ h => h.regInitPut).demRetuneAll.forEach fun _ _ h => h.yardRefresh.shadowClean).adcChanged.readbackChanged

theorem Tidy.yardOut {y : Nat} (h : Tidy s₀ s) : Tidy s₀ (yardOut y s) :=
  h.yardCut.envClear.fluxClear.acqClear.demStopAll.cnsCloseYard.forEach fun _ _ h => h.slotClear

theorem Tidy.pcommitStart (h : Tidy s₀ s) : Tidy s₀ (pcommitStart s) := by
  unfold Machine.pcommitStart
  dsimp only
  split
  · exact ((h.forEach fun _ _ h => h.groupClear.setGst).forEach fun _ _ h => h.yardOut).withImg.devRefresh.ite h
  · exact h

theorem Tidy.pcommitApply (h : Tidy s₀ s) : Tidy s₀ (pcommitApply s) := by
  unfold Machine.pcommitApply
  dsimp only
  split
  · exact ((h.configBase.forEach fun _ _ h => h.groupClear.setGst).forEach fun _ _ h =>
      h.mastReset.yardRefresh).adcChanged.withImg.decRecheck.xfRecheck.ite h
  · exact h

theorem Tidy.pcommitWord (h : Tidy s₀ s) : Tidy s₀ (pcommitWord s) := by
  unfold Machine.pcommitWord
  dsimp only
  split
  · refine Tidy.ite ?_ h
    split
    · exact h.regInitPut.demRetuneAll.readbackChanged.withImg
    · exact h
  · exact h

theorem Tidy.tenantLog (h : Tidy s₀ s) : Tidy s₀ (tenantLog s) := by
  unfold Machine.tenantLog
  split
  · exact h.wrN
  · exact h

theorem Tidy.pcommitDone (h : Tidy s₀ s) : Tidy s₀ (pcommitDone s) :=
  h.tenantLog.withShr.imgStatus.setIst.imgDrop.withImg

theorem Tidy.pcommitEnd (h : Tidy s₀ s) : Tidy s₀ (pcommitEnd s) := by
  unfold Machine.pcommitEnd
  dsimp only
  split
  · exact (((h.forEach fun _ _ h => h.wrN).pcommitDone.forEach fun _ _ h =>
      h.shadowClean.demStartNext).withSeq.forEach fun _ _ h => (h.setGst.forEach fun _ _ h =>
      h.setMst).ite h.groupSettle).devRefresh.ite h
  · exact h

theorem Tidy.linkCommit (h : Tidy s₀ s) : Tidy s₀ (linkCommit s) := by
  unfold Machine.linkCommit
  dsimp only
  split
  · exact ((h.linkDown.configBase.linkRegs.foldl fun _ _ h => h.regInitPut).when fun _ h =>
      h.lClear.setLst.setLanes).wrN.pcommitDone.linksDevice.ite h
  · exact h

/-! #### The functions of Sys2Proof/Machine/Ratline.lean -/

theorem Tidy.tapSet {ir dr : Nat} (h : Tidy s₀ s) : Tidy s₀ (tapSet ir dr s) := h.withRat

theorem Tidy.tapDebug {f : State → State} (h : Tidy s₀ s) (hf : ∀ t, Tidy s₀ t → Tidy s₀ (f t)) : Tidy s₀ (tapDebug f s) :=
  h.tapSet.ite (hf s h)

theorem Tidy.ratDeny (h : Tidy s₀ s) : Tidy s₀ (ratDeny s) := h.incF
theorem Tidy.stepTq {y pc tq : Nat} (h : Tidy s₀ s) : Tidy s₀ ((stepTq y pc tq s).1) := Tidy.iteFst h h.setTq.retire

theorem Tidy.stepWaitd {y pc w : Nat} (h : Tidy s₀ s) : Tidy s₀ ((stepWaitd y pc w s).1) :=
  Tidy.iteFst h (Tidy.iteFst h (h.setTq.jumpTo.ite h.setTq.setPc))

theorem Tidy.stepEffect {y pc w : Nat} (h : Tidy s₀ s) : Tidy s₀ ((stepEffect y pc w s).1) := by
  unfold Machine.stepEffect
  dsimp only
  split
  · exact h
  · exact h.stepTq
  · exact h.stepTq
  · exact h.jumpTo
  · exact h.jumpTo.ite h.retire
  · exact h.stepWaitd
  · exact Tidy.iteFst h h.loopEffect.setPc
  · exact h.setG.retire
  · exact h.aluEffect.retire
  · exact h.setG.retire
  · exact h.setG.retire
  · exact Tidy.iteFst h.stepTq h.retire

theorem Tidy.stepInsn {y pc : Nat} (h : Tidy s₀ s) : Tidy s₀ ((stepInsn y pc s).1) :=
  Tidy.iteFst h (Tidy.iteFst h (Tidy.iteFst h.denyIf h.stepEffect))

theorem Tidy.mastStep {y : Nat} (h : Tidy s₀ s) : Tidy s₀ (mastStep y s) :=
  (h.setPc.stepInsn.setF.andThen fun k => k.setF.ite k).ite h

theorem Tidy.mastHalt {y : Nat} (h : Tidy s₀ s) : Tidy s₀ (mastHalt y s) := h.modMast

theorem Tidy.mctlWrite {y v : Nat} (h : Tidy s₀ s) : Tidy s₀ (mctlWrite y v s) :=
  ((h.when fun _ h => h.mastHalt).when fun _ h => h.mastStep).when fun _ h => h.ratRelease

theorem Tidy.wctlHalt {x : Nat} {v : Bool} (h : Tidy s₀ s) : Tidy s₀ (wctlHalt x v s) :=
  (h.ratHalts.ite h).ite h.ratResume

theorem Tidy.wctlWrite {x v : Nat} (h : Tidy s₀ s) : Tidy s₀ (wctlWrite x v s) := h.wStepOne.ite h.wctlHalt

theorem Tidy.ratReg {b : Nat} {ix : List Nat} {a v : Nat} (h : Tidy s₀ s) : Tidy s₀ (ratReg b ix a v s) :=
  h.mctlWrite.ite (h.wctlWrite.ite h.wrRW)

theorem Tidy.ratStore {a v : Nat} (h : Tidy s₀ s) : Tidy s₀ (ratStore a v s) := by
  unfold Machine.ratStore
  split
  · exact h
  · exact (h.inc.ite h.ratReg).ite h.openWrite

theorem Tidy.ratWrite32 {a v : Nat} (h : Tidy s₀ s) : Tidy s₀ (ratWrite32 a v s) := by
  unfold Machine.ratWrite32
  split
  · exact h.ratStore.ite h
  · exact h

theorem Tidy.ratBusWrite {a v n : Nat} (h : Tidy s₀ s) : Tidy s₀ (ratBusWrite a v n s) := by
  unfold Machine.ratBusWrite
  refine h.busWrite.ite (h.ratWrite32.ite ?_)
  split
  · exact h.ratStore.ite h.ratWrite32.ratWrite32
  · exact h.ratWrite32

theorem Tidy.ratBar2Write {a v n : Nat} (h : Tidy s₀ s) : Tidy s₀ (ratBar2Write a v n s) := by
  unfold Machine.ratBar2Write
  split
  · exact h.bar2Put
  · exact h

theorem Tidy.dbgRun {q : DbgReq} (h : Tidy s₀ s) : Tidy s₀ (dbgRun q s) :=
  h.withRat.ite <| h.ratDeny.withRat.ite <| h.withRat.ite ((h.withRat.ite h.busRead.withRat).ite (h.ratBar2Write.ite
    h.ratBusWrite).withRat)

theorem Tidy.dbgAccess {q : Option DbgReq} (h : Tidy s₀ s) : Tidy s₀ (dbgAccess q s) := by
  unfold Machine.dbgAccess
  dsimp only
  split
  · exact h.tapSet
  · split
    · exact h.tapSet.dbgRun
    · exact h.tapSet

theorem Tidy.ratScoped {ok : Bool} {f : State → State} (h : Tidy s₀ s) (hf : ∀ t, Tidy s₀ t → Tidy s₀ (f t)) :
    Tidy s₀ (ratScoped ok f s) :=
  (hf s h).ite h.withRat.ratDeny

/-! #### The functions of Sys2Proof/Machine/Global.lean -/

theorem Tidy.memberStart {y t0 shot attempt : Nat} {rpass : Bool} (h : Tidy s₀ s) :
    Tidy s₀ (memberStart y t0 shot attempt rpass s) :=
  (h.strShotStart.ite h.strShotStart.strReplay).andThen fun k => (k.mastStart.setMst.modMast.ite k.mastStart).ite <|
    (k.ite k.journalRestore).mastStart.andThen fun k => k.journalWrite.ite k

theorem Tidy.passStart {g t0 : Nat} {rpass : Bool} (h : Tidy s₀ s) : Tidy s₀ (passStart g t0 rpass s) :=
  ((h.modGrp.withFlt.ite h.modGrp.withFlt.setGst).devRefresh.forEach fun _ _ h => h.memberStart).andThen fun k =>
    k.ite k.decAttemptStart

theorem Tidy.shotStart {g : Nat} (h : Tidy s₀ s) : Tidy s₀ (shotStart g s) := by
  unfold Machine.shotStart
  split
  · exact h
  · split
    · exact h.passStart
    · exact h.modGrp.ite h

theorem Tidy.markRecords {g : Nat} (h : Tidy s₀ s) : Tidy s₀ (markRecords g s) :=
  h.forEach fun _ _ h => h.forEach fun _ _ h => h.yardRec

theorem Tidy.exhausted {g : Nat} (h : Tidy s₀ s) : Tidy s₀ (exhausted g s) := (h.forEach fun _ _ h => h.setF).report
theorem Tidy.setMembers {g v : Nat} (h : Tidy s₀ s) : Tidy s₀ (setMembers g v s) := h.forEach fun _ _ h => h.setMst

theorem Tidy.shotStands {g : Nat} {ended : Bool} (h : Tidy s₀ s) : Tidy s₀ (shotStands g ended s) :=
  (h.forEach fun _ _ h => h.strStands).andThen fun k => k.modGrp.setGst.setMembers.devRefresh.ite <|
    k.modGrp.setGst.setMembers.devRefresh.ite k.modGrp

theorem Tidy.passClose {g : Nat} (h : Tidy s₀ s) : Tidy s₀ (passClose g s) :=
  h.modGrp.forEach fun _ _ h => h.strAttemptEnd

theorem Tidy.passEnd {g : Nat} (h : Tidy s₀ s) : Tidy s₀ (passEnd g s) :=
  (h.ite h.decAttemptEnd).markRecords.passClose.andThen fun k => (k.modGrp.ite k.exhausted.shotStands).ite <|
    k.modGrp.ite k.shotStands

theorem Tidy.shotEndSignal {y : Nat} (h : Tidy s₀ s) : Tidy s₀ (shotEndSignal y s) :=
  (h.modMast.modGrp.passEnd.ite h.modMast.modGrp).ite h

theorem Tidy.replayStart {g : Nat} (h : Tidy s₀ s) : Tidy s₀ (replayStart g s) := by
  unfold Machine.replayStart
  refine h.ite ?_
  split
  · exact h.modGrp.ite h
  · exact (h.forEach fun _ _ h => h.inc).modGrp.passStart

theorem Tidy.cmdRelease {g cmd : Nat} {f : Nat → State → State} (h : Tidy s₀ s) (hf : ∀ rel t, Tidy s₀ t → Tidy s₀ (f rel t)) :
    Tidy s₀ (cmdRelease g cmd f s) := by
  unfold Machine.cmdRelease
  split
  · exact (hf _ _ h.noCmd).ite h
  · exact h

theorem Tidy.armRelease {g rel : Nat} (h : Tidy s₀ s) : Tidy s₀ (armRelease g rel s) := by
  unfold Machine.armRelease
  refine h.ite ?_
  split
  · exact h.armRefused.lsgStatus
  · exact (h.setGst.forEach fun _ _ h => h.setMst.handOver.armFrames.ucGovern).modGrp.decArm

theorem Tidy.startRelease {g rel : Nat} (h : Tidy s₀ s) : Tidy s₀ (startRelease g rel s) := h.ite h.modGrp.shotStart

theorem Tidy.resumeRelease {g rel : Nat} (h : Tidy s₀ s) : Tidy s₀ (resumeRelease g rel s) :=
  h.ite ((h.modGrp.ite h.setGst.devRefresh).ite h.modGrp.shotStart)

theorem Tidy.pauseRelease {g : Nat} (h : Tidy s₀ s) : Tidy s₀ (pauseRelease g s) :=
  h.modGrp.setGst.setMembers.devRefresh.ite <| h.ite (h.modGrp.setGst.setMembers.devRefresh.ite h.setGst)

theorem Tidy.abortRelease {g rel : Nat} (h : Tidy s₀ s) : Tidy s₀ (abortRelease g rel s) := h.groupAbort.devRefresh

theorem Tidy.disarmRelease {g : Nat} (h : Tidy s₀ s) : Tidy s₀ (disarmRelease g s) :=
  h.groupClear.setGst.setMembers.devRefresh.ite h

theorem Tidy.groupRelease {g cmd rel : Nat} (h : Tidy s₀ s) : Tidy s₀ (groupRelease g cmd rel s) :=
  h.armRelease.ite <| h.startRelease.ite <| h.pauseRelease.ite (h.resumeRelease.ite (h.abortRelease.ite
    (h.disarmRelease.ite h)))

theorem Tidy.dropTransit {i : Item} (h : Tidy s₀ s) : Tidy s₀ (dropTransit i s) := h.withBus
theorem Tidy.dropHeld {i : Item} (h : Tidy s₀ s) : Tidy s₀ (dropHeld i s) := h.withBus

theorem Tidy.lateItem {i : Item} (h : Tidy s₀ s) : Tidy s₀ (lateItem i s) := by
  unfold Machine.lateItem
  dsimp only
  split
  · exact h.inc.wEmitRef
  · exact h.inc.noCmd.report
  · exact h.inc.report

theorem Tidy.arrive {i : Item} (h : Tidy s₀ s) : Tidy s₀ (arrive i s) := h.dropTransit.lateItem.ite h.dropTransit.hold

theorem Tidy.itemArrival {k : Nat} (h : Tidy s₀ s) : Tidy s₀ (itemArrival k s) := by
  unfold Machine.itemArrival
  split
  · exact h
  · exact h.ite h.arrive

theorem Tidy.timedRelease {y pc rel : Nat} {a : TAct} (h : Tidy s₀ s) : Tidy s₀ (timedRelease y pc rel a s) := by
  unfold Machine.timedRelease
  dsimp only
  split
  · exact h.playRelease
  · exact h.forEach fun _ _ h => h.openWindow
  · exact h.frameOp
  · exact h.biaCodeSet.noteSetr
  · exact h.markRelease.ite h.lostUse
  · exact h.setrRelease
  · exact h.handOver
  · exact h

theorem Tidy.itemEffect {i : Item} (h : Tidy s₀ s) : Tidy s₀ (itemEffect i s) := by
  unfold Machine.itemEffect
  split
  · exact h.timedRelease
  · exact h.emitWrite
  · exact h.applyCorr
  · exact h.acqEvent
  · exact h.timerEvent
  · exact h.noCmd.groupRelease
  · exact h.strmArrive

theorem Tidy.itemRelease {dst : Nat} (h : Tidy s₀ s) : Tidy s₀ (itemRelease dst s) := by
  unfold Machine.itemRelease
  split
  · exact h.dropHeld.itemEffect
  · exact h

theorem Tidy.hangAbort {g : Nat} (h : Tidy s₀ s) : Tidy s₀ (hangAbort g s) := h.ite (h.faultAbort.ite h.groupAbort)

theorem Tidy.yardHang {y : Nat} (h : Tidy s₀ s) : Tidy s₀ (yardHang y s) :=
  h.withSeq.yardCut.envClear.andThen fun k => ((k.ite k.mastAbort).forEach fun _ _ h =>
    h.slotClear).fluxClear.fluxStates.acqClear.demStopAll.cnsCloseYard.biaCodeSet.hangAbort.decRecheck

theorem Tidy.winchHang (h : Tidy s₀ s) : Tidy s₀ (winchHang s) := (h.forEach fun _ _ h => h.hangAbort).wHang

theorem Tidy.islandReset {i : Nat} (h : Tidy s₀ s) : Tidy s₀ (islandReset i s) :=
  h.yardHang.ite (h.linkDown.ite (h.winchHang.ite (h.dmaAbortAll.ite h)))

theorem Tidy.islandHang {a b cls : Nat} (h : Tidy s₀ s) : Tidy s₀ (islandHang a b cls s) :=
  h.wrN.islandReset.report.andThen fun k => k.withSeq.fatal.ite k.withSeq

/-! #### The functions of Sys2Proof/Machine/Time.lean -/

theorem Tidy.releaseAll {p : State → Item → Bool} (h : Tidy s₀ s) : Tidy s₀ (releaseAll p s) :=
  h.forEach fun _ _ h => h.dropHeld.itemEffect.ite h

theorem Tidy.settleCommit (h : Tidy s₀ s) : Tidy s₀ (settleCommit s) :=
  h.pcommitStart.pcommitApply.pcommitWord.pcommitEnd.linkCommit

theorem Tidy.settleStay (h : Tidy s₀ s) : Tidy s₀ (settleStay s) :=
  ((h.tb1Zero.forEach fun _ _ h => h.tbnSetApply).forEach fun _ _ h =>
    h.timerFix.timerFire).skewcalComplete.announceTimeout

theorem Tidy.settleTrig (h : Tidy s₀ s) : Tidy s₀ (settleTrig s) := h.forEach fun _ _ h => h.trigAccept.trigDeliver

theorem Tidy.settlePlay (h : Tidy s₀ s) : Tidy s₀ (settlePlay s) :=
  (h.forEach fun _ _ h => h.segBoundary.playEnd.storeError).forEach fun _ _ h => (h.forEach fun _ _ h =>
    h.markerEdge).markerExitLow

theorem Tidy.settleConv (h : Tidy s₀ s) : Tidy s₀ (settleConv s) :=
  (h.forEach fun _ _ h => h.settlingEnd).forEach fun _ _ h => (h.forEach fun _ _ h =>
    h.acqTrigStart).demEdge.kernelFadeEnd.demSettlingEnd

theorem Tidy.settleSheet (h : Tidy s₀ s) : Tidy s₀ (settleSheet s) :=
  (h.forEach fun _ _ h => h.sheetEntry).forEach fun _ _ h => h.slotRelease

theorem Tidy.settleDec {x : Nat} (h : Tidy s₀ s) : Tidy s₀ (settleDec x s) :=
  (((h.forEach fun _ _ h => h.roundClose.roundDeadline).roundClockClose.decodeStart.boundaryPass.passAnswers.forEach
    fun _ _ h => h.frameItemSend).forEach fun _ _ h => h.logicalRecord).decFlushComplete

theorem Tidy.settleCns {c : Nat} (h : Tidy s₀ s) : Tidy s₀ (settleCns c s) :=
  (h.forEach fun _ _ h => h.cnsTrigger).cnsHoldoffEnd

theorem Tidy.mastWaits {y : Nat} (h : Tidy s₀ s) : Tidy s₀ (mastWaits y s) :=
  ((h.syncSatisfied.syncTimeout.andThen fun k => k.ucWaitd.ite ((k.waitdDeadline.ite k.waitdResolve).ite k)).andThen
    fun k => k.ucWaitd.ite ((k.waitdDeadline.ite k.waitdResolve).ite k)).lddResolve.issueStallEnd.fenceComplete

theorem Tidy.mastIssue {y : Nat} (h : Tidy s₀ s) : Tidy s₀ (mastIssue y s) := by
  unfold Machine.mastIssue
  split
  · exact h.issueNop
  · exact h.issueBad
  · exact h.issueEnd
  · exact h.issueWait
  · exact h.issueSyncGroup
  · exact h.issueSyncTrig
  · exact h.issueSyncAlign
  · exact h.issueFence
  · exact h.issueBr
  · exact h.issueBrc
  · exact h.issueWaitd
  · exact h.issueLoop
  · exact h.issueMovi
  · exact h.issueAlu
  · exact h.issueLdd
  · exact h.issueGets
  · exact h.issueResult
  · exact h.issueTimed
  · exact h.issueTimed
  · exact h.issueTimed
  · exact h.issueTimed
  · exact h.issueTimed
  · exact h.issueTimed
  · exact h.issueTimed

theorem Tidy.settleMast (h : Tidy s₀ s) : Tidy s₀ (settleMast s) :=
  (((h.forEach fun _ _ h => h.shotStart.replayStart).forEach fun _ _ h => h.mastWaits).forEach fun _ _ h =>
    h.mastIssue.ite h).forEach fun _ _ h => h.mastWaits

theorem Tidy.settleCapture (h : Tidy s₀ s) : Tidy s₀ (settleCapture s) :=
  (h.forEach fun _ _ h => h.playCapture.ite h).forEach fun _ _ h => (h.streamBlock.ite h).storeError

theorem Tidy.settleShots (h : Tidy s₀ s) : Tidy s₀ (settleShots s) := h.forEach fun _ _ h => h.shotEndSignal.mastStopped

theorem Tidy.settleUnits (h : Tidy s₀ s) : Tidy s₀ (settleUnits s) :=
  (h.trimBgRun.forEach fun _ _ h => h.trimApply).tlevelChange.plevelChange.lockHeld.tripRestart.forEach fun _ _ h =>
    h.ackTimeout.recoveryTimeout.linkTimeTx.traceTimeout.fbStale.lsAuto.lsExitDone.forEach fun _ _ h => h.detectRetry.ite h

theorem Tidy.settleQueues (h : Tidy s₀ s) : Tidy s₀ (settleQueues s) := by
  unfold Machine.settleQueues
  refine ((h.forEach fun _ _ h => ?_).forEach fun _ _ h => (h.forEach fun _ _ h =>
    h.fencePlace).queueDrained.irqTimer).forEach fun _ _ h => h.faultReport
  split
  · exact h.resultEntry.ite h
  · exact h

theorem Tidy.settle (h : Tidy s₀ s) : Tidy s₀ (settle s) := by
  unfold Machine.settle
  exact (((((h.forEach fun _ _ h => h.arrive).settleCommit.releaseAll.forEach fun _ _ h =>
    h.fltMarkRelease).forEach fun _ _ h =>
    h.strmClock).settleStay.settleTrig.releaseAll.settlePlay.settleConv.settleSheet.forEach fun _ _ h =>
    h.settleDec).settleMast.settleCapture.settleShots.forEach fun _ _ h => h.settleCns).settleUnits.settleQueues

theorem Tidy.sampleYard {y : Nat} (h : Tidy s₀ s) : Tidy s₀ (sampleYard y s) :=
  ((h.forEach fun _ _ h => h.toneTick).forEach fun _ _ h => h.fluxTick).andThen fun k =>
    k.biaTick.biaSlewEnd.ite k.biaTick

theorem Tidy.sample (h : Tidy s₀ s) : Tidy s₀ (sample s) :=
  h.adcTick.mixTick.andThen fun k => ((k.forEach fun _ _ h => h.sampleYard).ite k).rfTick

theorem Tidy.classWaitTick (h : Tidy s₀ s) : Tidy s₀ (classWaitTick s) :=
  h.forEach fun _ _ h => h.nextFree.when fun _ h => h.inc

theorem Tidy.clockTick (h : Tidy s₀ s) : Tidy s₀ (clockTick s) := h.withClock

theorem Tidy.startFt (h : Tidy s₀ s) : Tidy s₀ (startFt s) :=
  (h.forEach fun _ _ h => h.cmdRelease fun _ _ h => h.armRelease).releaseAll.forEach fun _ _ h => h.handover

theorem Tidy.tick (h : Tidy s₀ s) : Tidy s₀ (tick s) := by
  unfold Machine.tick
  exact h.clockTick.glbResetTick.ite <| (h.settle.sample.clockTick.stayTick.forEach fun _ _ h =>
    h.ozlTick).andThen fun k => (k.classWaitTick.ite k).glbResetTick.pinTick.andThen fun k => k.startFt.ite k

/-! ### The commands and the passing of time -/

/-- An outcome that leaves a state leaves one that comes from `s` by operations that keep what is canonical. -/
def NextTidy (s : State) : Host.Outcome State Fault Refusal → Prop
  | .next t => Tidy s t
  | _ => True

theorem NextTidy.ite {a b : Host.Outcome State Fault Refusal} (ha : NextTidy s₀ a) (hb : NextTidy s₀ b) {c : Prop} {d : Decidable c} :
    NextTidy s₀ (if c then a else b) := by
  split
  · exact ha
  · exact hb

theorem Tidy.next {t : State} (h : Tidy s₀ t) : NextTidy s₀ (.next t) := h

theorem Tidy.kernelWeightWrite {y c b m v : Nat} (h : Tidy s₀ s) : NextTidy s₀ (execKernelWeightWrite y c b m v s) :=
  .ite (h.hostWr fun _ h => h.klenWrite).next (h.hostWr fun _ h => h.kwWrite).next

theorem Tidy.dbgAccessComplete (h : Tidy s₀ s) : NextTidy s₀ (execDbgAccessComplete s) := by
  unfold execDbgAccessComplete
  split
  · exact h.withRat.next
  · exact h.next

theorem Tidy.regReadClear {a n : Nat} (h : Tidy s₀ s) : NextTidy s₀ (execRegReadClear a n s) :=
  .ite (h.busRead (rat := false)).withBus.next h.next

/-- Every command keeps what is canonical, and the queue. -/
theorem Tidy.exec {i : Instr} (h : Tidy s₀ s) : NextTidy s₀ (exec i s) := by
  cases i
  case regWrite => exact h.busWrite
  case itemArrival => exact h.itemArrival
  case itemRelease => exact h.itemRelease
  case islandHang => exact h.islandHang
  case lsgArm => exact h.lsgCommand
  case lsgStart => exact h.lsgCommand
  case lsgPause => exact h.lsgCommand
  case lsgResume => exact h.lsgCommand
  case lsgAbort => exact h.lsgCommand
  case lsgDisarm => exact h.lsgCommand
  case armRelease => exact h.cmdRelease fun _ _ h => h.armRelease
  case startRelease => exact h.cmdRelease fun _ _ h => h.startRelease
  case pauseRelease => exact h.cmdRelease fun _ _ h => h.pauseRelease
  case resumeRelease => exact h.cmdRelease fun _ _ h => h.resumeRelease
  case abortRelease => exact h.cmdRelease fun _ _ h => h.abortRelease
  case disarmRelease => exact h.cmdRelease fun _ _ h => h.disarmRelease
  case goSafe => exact h.hostWr fun _ h => h.goSafe
  case leaveSafe => exact h.hostWr fun _ h => h.leaveSafe
  case recal => exact h.hostWr fun _ h => h.recal
  case imgLoad => exact h.hostWr fun _ h => h.imgCtlWrite
  case imgHeaderStaged => exact h.headerStaged
  case imgFetchComplete => exact h.fetchComplete
  case imgVerifyComplete => exact h.verifyComplete
  case imgCheckComplete => exact h.checkComplete
  case imgCommit => exact h.hostWr fun _ h => h.imgCommit
  case imgAbort => exact h.hostWr fun _ h => h.imgAbort
  case imgClear => exact h.hostWr fun _ h => h.imgClear
  case fullCommitComplete => exact h.fullCommit
  case pcommitStart => exact h.pcommitStart
  case pcommitApply => exact h.pcommitApply
  case pcommitReginitWord => exact h.pcommitWord
  case pcommitEnd => exact h.pcommitEnd
  case linkCommit => exact h.linkCommit
  case shotStart => exact h.shotStart
  case shotEndSignal => exact h.shotEndSignal
  case replayStart => exact h.replayStart
  case mastStopComplete => exact h.mastStopped
  case issueStallEnd => exact h.issueStallEnd
  case nop => exact (h.issueBad.ite h.issueNop).ite h.fetchEcc
  case end_ => exact h.issueEnd
  case wait => exact h.issueWait
  case syncGroup => exact h.issueSyncGroup
  case syncTrig => exact h.issueSyncTrig
  case syncAlign => exact h.issueSyncAlign
  case syncSatisfied => exact h.syncSatisfied
  case syncTimeout => exact h.syncTimeout
  case fence => exact h.issueFence
  case fenceComplete => exact h.fenceComplete
  case commit => exact h.issueTimed
  case br => exact h.issueBr
  case brc => exact h.issueBrc
  case waitd => exact h.issueWaitd
  case waitdResolve => exact h.ucWaitd.ite (h.waitdResolve.ite h)
  case waitdDeadline => exact h.ucWaitd.ite (h.waitdDeadline.ite h)
  case loop => exact h.issueLoop
  case play => exact h.issueTimed
  case acq => exact h.issueTimed
  case frame => exact h.issueTimed
  case bias => exact h.issueTimed
  case mark => exact h.issueTimed
  case setr => exact h.issueTimed
  case movi => exact h.issueMovi
  case alu => exact h.issueAlu
  case ldd => exact h.issueLdd
  case lddResolve => exact h.lddResolve
  case gets => exact h.issueGets
  case result => exact h.issueResult
  case ucLoad => exact h.hostWr fun _ h => h.ucLoad
  case ucHeaderArrival => exact h.ucHeader
  case ucBodyComplete => exact h.ucBody
  case ucRomOnly => exact h.hostWr fun _ h => h.ucRomOnly
  case ucVerify => exact h.hostWr fun _ h => h.ucVerify
  case halSegIdxWrite => exact h.hostWr fun _ h => h.segIdxWrite
  case halSegFree => exact h.hostWr fun _ h => h.segFree
  case halSegArm => exact h.hostWr fun _ h => h.segArm
  case storeSampleWrite => exact h.storeSample
  case bar2Write => exact h.hostBar fun _ h => h.bar2Write
  case playCapture => exact h.playCapture
  case segBoundary => exact h.segBoundary
  case halJumpWrite => exact h.hostWr fun _ h => h.jumpHost
  case strStart => exact h.hostWr fun _ h => h.strStart
  case strStop => exact h.hostWr fun _ h => h.strStop
  case strBlockAvailable => exact h.strBlockAvailable
  case streamBlockAddress => exact h.streamBlock
  case markerEdge => exact h.markerEdge
  case markerRunExitLow => exact h.markerExitLow
  case pfCorrection => exact h.pfCorrection
  case shadowWrite => exact h.hostWr fun _ h => h.shadowHost.ite h
  case tonShdCtlWrite => exact h.hostWr fun _ h => h.shdCtlWrite
  case tonHoCmd => exact h.hostWr fun _ h => h.hoCmd
  case handover => exact h.handover
  case biaCodeWrite => exact h.hostWr fun _ h => h.biaCodeHost
  case biasCompliance => exact h.biaCompliance
  case biasOpen => exact h.biaOpen
  case biasLoadNormal => exact h.biaNormal
  case biasLatchRelease => exact h.hostWr fun _ h => h.biaRelease
  case cnvCfgWrite => exact h.hostWr fun _ h => h.cnvCfgWrite
  case settlingEnd => exact h.settlingEnd
  case cnvAcqArm => exact h.hostWr fun _ h => h.acqDisarm.ite h.acqArm
  case cnvAcqDisarm => exact h.hostWr fun _ h => h.acqCtlWrite
  case acqTimerStart => exact h.acqTimerStart
  case acqTrigStart => exact h.acqTrigStart
  case acqWindowEnd => exact h.acqWindowEnd
  case monWordBoundary => exact h.monWordBoundary
  case monScanEnable => exact h.hostWr fun _ h => h.monCtlWrite.ite h.monScanEnable
  case monScanDisable => exact h.hostWr fun _ h => h.monScanDisable
  case monInj => exact h.hostWr fun _ h => h.monInj
  case monXchkEnable => exact h.hostWr fun _ h => h.monXchkWrite
  case monCalRequest => exact h.monCalRequest
  case monCalEnd => exact h.monCalEnd
  case ringStart => exact h.hostWr fun _ h => h.ringCtlWrite
  case ringStop => exact h.hostWr fun _ h => h.ringStop.ite h.ringCtlWrite
  case ringRpWrite => exact h.hostWr fun _ h => h.ringRpWrite
  case demCtlWrite => exact h.hostWr fun _ h => h.demCtlWrite
  case demSettlingEnd => exact h.demSettlingEnd
  case kernelWeightWrite => exact h.kernelWeightWrite
  case kernelFadeEnd => exact h.kernelFadeEnd
  case checkpointEval => exact h.checkpointEval
  case finalScoreEval => exact h.finalScoreEval
  case dscCfgWrite => exact h.hostWr fun _ h => h.dscCfgWrite
  case sheetEntry => exact h.sheetEntry
  case slotRelease => exact h.slotRelease
  case fwdCopyArrival => exact h.fwdCopyArrival
  case shtTapWrite => exact h.hostWr fun _ h => h.tapWrite
  case shtImapWrite => exact h.hostWr fun _ h => h.imapWrite
  case decEnable => exact h.hostWr fun _ h => h.decEnWrite
  case decDisable => exact h.hostWr fun _ h => h.decEnWrite
  case detectorArrival => exact h.detectorArrival
  case roundClose => exact h.roundClose
  case roundDeadline => exact h.roundDeadline
  case roundClockClose => exact h.roundClockClose
  case decodeStart => exact h.decodeStart
  case boundaryPass => exact h.boundaryPass
  case boundaryMsgArrival => exact h.boundaryArrival
  case frameItemSend => exact h.frameItemSend
  case logicalRecord => exact h.logicalRecord
  case decFlushComplete => exact h.decFlushComplete
  case wchRunStart => exact h.hostWr fun _ h => h.wRunStart
  case wchRunStop => exact h.hostWr fun _ h => h.wRunStop
  case wchHaltSet => exact h.hostWr fun _ h => h.wHaltSet
  case wchHaltClear => exact h.hostWr fun _ h => h.wHaltClear
  case wchModeWrite => exact h.hostWr fun _ h => h.wModeWrite
  case wchDoorbell => exact h.hostWr fun _ h => h.wDoorbell
  case wchInterruptEntry => exact h.wInterrupt
  case wchNop => exact h.wNop
  case wchMov => exact h.wMov
  case wchMovi => exact h.wMovi
  case wchMovs => exact h.wMovs
  case wchAlu => exact h.wAluI
  case mac => exact h.wMacI
  case macp => exact h.wMacp
  case accx => exact h.wAccxI
  case divs => exact h.wDivs
  case ld => exact h.wLd
  case st => exact h.wSt
  case mts => exact h.wMts
  case mfs => exact h.wMfs
  case wchLoop => exact h.wLoop
  case wchBr => exact h.wBr
  case jl => exact h.wJl
  case jr => exact h.wJr
  case gett => exact h.wGett
  case emit => exact h.wEmit
  case xfer => exact h.wXfer
  case xferComplete => exact h.xferComplete
  case wchFence => exact h.wFence
  case waiti => exact h.wWaiti
  case reti => exact h.wReti
  case halt => exact h.wHalt
  case svcResSpec => exact h.svcTake
  case svcRabi => exact h.svcTake
  case svcRamsey => exact h.svcTake
  case svcDrag => exact h.svcTake
  case svcKtrain => exact h.svcTake
  case svcFluxid => exact h.svcTake
  case svcStats => exact h.svcTake
  case svcHist => exact h.svcTake
  case svcMoninj => exact h.svcTake
  case svcComplete => exact h.svcComplete
  case cnsArm => exact h.hostWr fun _ h => h.cnsCtlWrite
  case cnsDisarm => exact h.hostWr fun _ h => h.cnsCtlWrite
  case cnsForce => exact h.hostWr fun _ h => h.cnsForce
  case cnsTrigger => exact h.cnsTrigger
  case cnsRecordEnd => exact h.cnsRecordEnd
  case cnsHoldoffEnd => exact h.cnsHoldoffEnd
  case cnsChunkWrite => exact h.cnsChunkWrite
  case cnsRpWrite => exact h.hostWr fun _ h => h.cnsRpWrite
  case frlStart => exact h.hostWr fun _ h => h.frlCtlWrite
  case frlResume => exact h.hostWr fun _ h => h.frlCtlWrite
  case frlAbort => exact h.hostWr fun _ h => h.frlCtlWrite
  case frlClear => exact h.hostWr fun _ h => h.frlCtlWrite
  case frlBlockEnd => exact h.frlBlockEnd
  case frlOutFull => exact h.frlOutFull
  case frlJobEnd => exact h.frlJobEnd
  case tb1Start => exact h.hostWr fun _ h => h.stayCmd
  case tb1ArmSync => exact h.hostWr fun _ h => h.stayCmd
  case tb1Stop => exact h.hostWr fun _ h => h.stayCmd
  case tb1Zero => exact h.tb1Zero
  case skewcal => exact h.hostWr fun _ h => h.stayCmd
  case skewcalComplete => exact h.skewcalComplete
  case syncinEdge => exact h.syncinEdge
  case stayStep => exact h.hostWr fun _ h => h.stayCmd
  case staySet => exact h.hostWr fun _ h => h.stayCmd
  case acceptAsym => exact h.hostWr fun _ h => h.stayCmd
  case relock => exact h.hostWr fun _ h => h.stayCmd
  case staySnap => exact h.hostWr fun _ h => h.staySnap
  case staySrcWrite => exact h.hostWr fun _ h => h.stayCtlWrite
  case ptpSyncRx => exact h.ptpSync
  case ptpFollowUpRx => exact h.ptpFollowUp
  case ptpDelayReqTx => exact h.ptpDelayReq
  case ptpDelayRespRx => exact h.ptpDelayResp
  case ptpAnnounceRx => exact h.ptpAnnounce
  case tportOtherFrame => exact h
  case announceTimeout => exact h.announceTimeout
  case tbnSetAtWrite => exact h.hostWr fun _ h => h.tbnSetAt
  case tbnSetApply => exact h.tbnSetApply
  case linkTimeTx => exact h.linkTimeTx
  case linkTimeRx => exact h.linkTimeTake
  case timerArm => exact h.hostWr fun _ h => h.tmrCtlWrite
  case timerFix => exact h.timerFix
  case timerFire => exact h.timerFire
  case syncoutOff => exact h.hostWr fun _ h => h.syncoutWrite
  case syncoutPulse => exact h.hostWr fun _ h => h.syncoutWrite
  case syncoutBurst => exact h.hostWr fun _ h => h.syncoutWrite
  case syncoutTimer => exact h.hostWr fun _ h => h.syncoutWrite
  case ozlEnable => exact h.hostWr fun _ h => h.ozlCtlWrite
  case ozlRetrain => exact h.hostWr fun _ h => h.ozlCtlWrite
  case trainBlockRx => exact h.trainBlock
  case trainPhaseDone => exact h.trainPhaseDone
  case trainRateTimeout => exact h.trainRateTimeout
  case ozlDetectRetry => exact h.detectRetry
  case amRx => exact h.amRx
  case rsRx => exact h.rsRx
  case laneLost => exact h.laneLost
  case dataFlitRx => exact h.dataFlit
  case nakRx => exact h.nakFlit
  case idleFlitRx => exact h.idleFlit
  case timeFlitRx => exact h.timeFlit
  case timeTb0FlitRx => exact h.timeTb0Flit
  case laneDownRx => exact h.laneDownRx
  case laneReadyRx => exact h.laneReadyRx
  case lsEnterRx => exact h.lsEnterRx.ls2Check
  case lsAckRx => exact h.lsAckRx
  case ackTimeout => exact h.ackTimeout
  case recoveryTimeout => exact h.recoveryTimeout
  case traceCreditTimeout => exact h.traceTimeout
  case fbQueueStale => exact h.fbStale
  case laneRetrainDone => exact h.laneRetrainDone
  case ozlPmRequest => exact h.hostWr fun _ h => h.ozlPmWrite
  case lsAutoIdle => exact h.lsAuto
  case lsExitComplete => exact h.lsExitDone
  case ozlPark => exact h.hostWr fun _ h => h.park
  case ozlPrbsCtl => exact h.hostWr fun _ h => h.prbsCtl
  case ozlPrbsInj => exact h.hostWr fun _ h => h.prbsInj
  case ozlLoopback => exact h.hostWr fun _ h => h.ozlTestWrite
  case ozlFlitInj => exact h.hostWr fun _ h => h.ozlInjWrite
  case queueDoorbell => exact h.hostBar fun _ h => h.queueDoorbell
  case qmFenceDoorbell => exact h.hostBar fun _ h => h.fenceDoorbell
  case fenceRecordPlace => exact h.fencePlace
  case qmQidxWrite => exact h.hostWr fun _ h => h.qidxWrite
  case qmWrite => exact h.hostWr fun _ h => h.qWrite
  case qmEnable => exact h.hostWr fun _ h => h.qEnable
  case qmDisable => exact h.hostWr fun _ h => h.qDisable
  case qmResume => exact h.hostWr fun _ h => h.qResume
  case queueDrained => exact h.queueDrained
  case descFetch => exact h.descFetch
  case dmaCopy => exact h.dmaCopy
  case dmaFence => exact h.dmaFence
  case dmaRqcopy => exact h.dmaRqcopy
  case rqcopyBurst => exact h.rqcopyBurst
  case descComplete => exact h.descComplete
  case dmaReadFail => exact h.dmaReadFail
  case resultEntry => exact h.resultEntry
  case irqTimer => exact h.irqTimer
  case qmYqidWrite => exact h.hostWr fun _ h => h.yqidWrite
  case postedHdrRx => exact h.postedHdr
  case postedDataRx => exact h.postedData
  case postedNackRx => exact h.postedNack
  case resultFlitRx => exact h.resultFlit
  case pcieReset => exact h.pcieReset
  case spdmGetVersion => exact h.spdmVersion
  case spdmGetCapabilities => exact h.spdmCaps
  case spdmNegotiateAlgorithms => exact h.spdmAlgs
  case spdmGetDigests => exact h.spdmDigests
  case spdmGetCertificate => exact h.spdmCert
  case spdmChallenge => exact h.spdmChallenge
  case spdmGetMeasurements => exact h.spdmMeas
  case spdmUnsupported => exact h.spdmError
  case shrSeal => exact h.hostWr fun _ h => h.shrSeal
  case sealComplete => exact h.sealComplete
  case shrStatement => exact h.hostWr fun _ h => h.shrCommand
  case shrKeyImport => exact h.hostWr fun _ h => h.shrCommand
  case shrImport => exact h.hostWr fun _ h => h.shrCommand
  case shrExport => exact h.hostWr fun _ h => h.shrCommand
  case shrRelease => exact h.hostWr fun _ h => h.shrCommand
  case zeroiseComplete => exact h.zeroiseComplete
  case dbgReq => exact h.hostWr fun _ h => h.dbgReq
  case dbgSubmit => exact h.hostWr fun _ h => h.dbgSubmit
  case dbgLock => exact h.hostWr fun _ h => h.dbgLock
  case dbgScrap => exact h.hostWr fun _ h => h.dbgScrap
  case trimFg => exact h.hostWr fun _ h => h.trimFg
  case trimBgNow => exact h.hostWr fun _ h => h.trimBgNow
  case trimFgEnd => exact h.trimFgEnd
  case calComplete => exact h.calResults.enterReady.ite h
  case trimBgRun => exact h.trimBgRun
  case trimBgStepEnd => exact h.trimStepEnd
  case trimApply => exact h.trimApply
  case reefSensorConversion => exact h.sensorConv
  case tlevelChange => exact h.tlevelChange
  case plevelChange => exact h.plevelChange
  case reefRailSample => exact h.railSample
  case reefPlimWrite => exact h.hostWr fun _ h => h.plimWrite
  case sensRetest => exact h.hostWr fun _ h => h.sensRetest
  case analogTrip => exact h.analogTrip
  case tripRestart => exact h.tripRestart
  case faultReport => exact h.faultReport
  case fltDiscard => exact h.hostWr fun _ h => h.fltDiscard
  case fltLogRpWrite => exact h.hostWr fun _ h => h.logRpWrite
  case fltMark => exact h.hostWr fun _ h => h.fltMark
  case fltMarkRelease => exact h.fltMarkRelease
  case fltTrigCfgWrite => exact h.hostWr fun _ h => h.trigCfgWrite
  case trigLevelChange => exact h.trigLevel
  case trigEdgeAccept => exact h.trigAccept
  case trigEdgeDelivery => exact h.trigDeliver
  case powerGood => exact h.powerGood
  case railLoss => exact h.railLoss
  case auxLoss => exact h.auxLoss
  case refclkLoss => exact h.refclkLost
  case synthLossOfLock => exact h.synthLost
  case synthRelockTry => exact h.relockTry
  case synthLockHeld => exact h.lockHeld
  case resetNAssert => exact h.resetAssert
  case resetRelease => exact h.resetRelease
  case glbReset => exact h.hostWr fun _ h => h.glbReset
  case bootStageComplete => exact h.bootStage
  case auxPllRetry => exact h.auxRetry
  case smbBootStsLow => exact h.smbWord
  case smbBootStsHigh => exact h.smbWord
  case smbState => exact h.smbWord
  case smbReefSts => exact h.smbWord
  case smbTripCnt => exact h.smbWord
  case smbZoneTemp => exact h.smbZone
  case smbRail => exact h.smbRail
  case smbOther => exact h.smbNack
  case tapReset => exact h.tapSet
  case tapIdcode => exact h.tapSet
  case tapDbgStatus => exact h.tapDebug fun _ h => h.tapSet
  case tapBypass => exact h.tapSet
  case dbgAccessNop => exact h.tapDebug fun _ h => h.dbgAccess
  case dbgAccessRead => exact h.tapDebug fun _ h => h.dbgAccess
  case dbgAccessWrite => exact h.tapDebug fun _ h => h.dbgAccess
  case dbgAccessComplete => exact h.dbgAccessComplete
  case ratMastHalt => exact h.ratScoped fun _ h => h.mastHalt
  case ratMastStep => exact h.ratScoped fun _ h => h.mastStep
  case ratMastRelease => exact h.ratScoped fun _ h => h.ratRelease
  case ratWchHalt => exact h.ratScoped fun _ h => h.wctlHalt
  case ratWchStep => exact h.ratScoped fun _ h => h.wStepOne
  case regReadClear => exact h.regReadClear
  case biasSlewEnd => exact h.biaSlewEnd
  case playEnd => exact h.playEnd
  case shrJobEnd => exact h.shrJobEnd
  case refclkReturn => exact h.refclkBack
  case pcieLinkUp => exact h.pcieLinkUp

end

/-- One step keeps what is canonical; the state it acts on is the one with the rest of the queue. -/
theorem nextTidy_step (s : State) : NextTidy { s with pending := s.pending.tail } (step s) := by
  unfold step
  split
  · next c cs hq => simpa [hq] using (Tidy.rfl (s := { s with pending := cs })).exec (i := c)
  · next hq =>
    have hs : { s with pending := s.pending.tail } = s := by
      rw [hq]
      cases s
      cases hq
      rfl
    rw [hs]
    exact (Tidy.rfl.tick).next

/-- Settles O60: every function of the model keeps the canonical form, by one lemma each (`Tidy`), so every command and the passing of
time do. -/
theorem everyStepKeepsRegistersAndStoresCanonical : Obligations.EveryStepKeepsRegistersAndStoresCanonical := by
  intro s t hregs hstores ht
  have h := nextTidy_step s
  rw [ht] at h
  exact ⟨Tidy.regsWf h hregs, Tidy.storesWf h hstores⟩
end Sys2Proof.Laws
end

section
namespace Sys2Proof.Laws
open Sys2Proof.Machine

-- One theorem after another: a thread for each of them passes the memory limit of the check.
set_option Elab.async false

/-! ### One register written -/

theorem onlyRegs_wr (s : State) (a : Nat) (v : Word) : s.onlyRegs (s.wr a v) [a] :=
  ⟨rfl, fun b hb => rd_wr_ne s a b v (by simpa using hb)⟩

theorem onlyRegs_wr_wr (s : State) (a b : Nat) (v w : Word) : s.onlyRegs ((s.wr b w).wr a v) [a, b] := by
  refine ⟨rfl, fun c hc => ?_⟩
  simp only [List.mem_cons, List.not_mem_nil, or_false, not_or] at hc
  rw [rd_wr_ne _ _ _ _ hc.1, rd_wr_ne _ _ _ _ hc.2]

theorem rd_wrRW_same (s : State) (a v : Nat) :
    (s.wrRW a v).rd a = (s.rd a &&& ~~~(rwMask a)) ||| (BitVec.ofNat 64 v &&& rwMask a) := rd_wr_same ..

/-! ### What stands before a host write -/

theorem hostWr_of_opens {s : State} {a : Nat} (h : s.opens a) (f : State → State) : hostWr a f s = f s := by
  obtain ⟨hbar, hpage, hseal, hsetr⟩ := h
  simp [hostWr, hbar, hpage, hseal, hsetr]

theorem hostWr_of_not_barUp {s : State} (h : s.barUp = false) (a : Nat) (f : State → State) : hostWr a f s = s := by
  simp [hostWr, h]

theorem hostWr_of_pageBusy {s : State} {a : Nat} (hbar : s.barUp = true) (h : s.pageBusy a = true) (f : State → State) :
    hostWr a f s = s.inc IMG_DROP_CNT := by
  simp [hostWr, hbar, h]

theorem hostWr_of_sealedBy {s : State} {a p : Nat} (hbar : s.barUp = true) (hpage : s.pageBusy a = false)
    (h : s.sealedBy a = some p) (f : State → State) :
    hostWr a f s = (s.shrDeny a 0 p E_SHR_SEALED).inc SHR_SEAL_DROP_CNT := by
  simp [hostWr, hbar, hpage, h]

/-! ### The width of a write (R13, R667) -/

/-- An access of `n` bytes at `a` covers one register, and not a word of the MSI-X table. -/
def wholeReg (a n : Nat) : Bool :=
  (n == 4 || n == 8) && decide (a % n = 0) && decide (a < 0x700000 ∨ 0x708000 ≤ a) && (regRow a).any fun r => r.width == 8 * n

theorem wholeReg_four {a : Nat} {r : RegRow} (hr : regRow a = some r) (hw : r.width = 32) (ha : a % 4 = 0)
    (hx : a < 0x700000 ∨ 0x708000 ≤ a) : wholeReg a 4 = true := by
  simp [wholeReg, hr, hw, ha, hx]

theorem write32_of_width {a : Nat} {r : RegRow} (hr : regRow a = some r) (hw : r.width = 32) (v lead : Nat)
    (host : List (BitVec 8)) (s : State) : write32 a v lead host s = hostWr a (hostStore a (v % 2 ^ 32) lead host) s := by
  simp [write32, hr, hw]

theorem write32_of_not_barUp {s : State} (h : s.barUp = false) (a v lead : Nat) (host : List (BitVec 8)) :
    write32 a v lead host s = s := by
  unfold write32
  split
  · simp [hostWr_of_not_barUp h]
  · rfl

theorem busWrite_of_aligned {a : Nat} (ha : a % 4 = 0) (hx : a < 0x700000 ∨ 0x708000 ≤ a) (v lead : Nat)
    (host : List (BitVec 8)) (s : State) : busWrite a v 4 lead host s = write32 a v lead host s := by
  have hm : ¬ (0x700000 ≤ a ∧ a < 0x708000) := by omega
  simp [busWrite, hm, ha]

theorem busWrite_of_wholeReg {a n : Nat} (h : wholeReg a n = true) (v lead : Nat) (host : List (BitVec 8)) (s : State) :
    busWrite a v n lead host s = hostWr a (hostStore a (v % 2 ^ (8 * n)) lead host) s := by
  simp only [wholeReg, Bool.and_eq_true, Bool.or_eq_true, beq_iff_eq, decide_eq_true_eq, Option.any_eq_true] at h
  obtain ⟨⟨⟨hn, ha⟩, hx⟩, r, hr, hw⟩ := h
  obtain rfl | rfl := hn
  · rw [busWrite_of_aligned ha hx, write32_of_width hr hw]
  · have hm : ¬ (0x700000 ≤ a ∧ a < 0x708000) := by omega
    simp [busWrite, hm, ha, hr, hw]

theorem exec_regWrite_of_opens {s : State} {a n : Nat} (hs : s.opens a) (h : wholeReg a n = true) (v : Nat)
    (host : List (BitVec 8)) : exec (.regWrite a v n host) s = .next (hostStore a (v % 2 ^ (8 * n)) 160 host s) := by
  show Host.Outcome.next (busWrite a v n 160 host s) = _
  rw [busWrite_of_wholeReg h, hostWr_of_opens hs]

/-- A write narrower than its register is discarded. -/
theorem busWrite_of_narrower {a n : Nat} {r : RegRow} (hr : regRow a = some r) (hn : n = 1 ∨ n = 2 ∨ (n = 4 ∧ r.width = 64))
    (hx : a < 0x700000 ∨ 0x708000 ≤ a) (v lead : Nat) (host : List (BitVec 8)) (s : State) : busWrite a v n lead host s = s := by
  have hm : ¬ (0x700000 ≤ a ∧ a < 0x708000) := by omega
  obtain rfl | rfl | ⟨rfl, hw⟩ := hn
  · simp [busWrite, hm]
  · simp [busWrite, hm]
  · simp [busWrite, hm, write32, hr, hw]

/-- 64 bits over two 32-bit registers are two writes. -/
theorem busWrite_of_two {a : Nat} {r : RegRow} (hr : regRow a = some r) (hw : r.width = 32) (ha : a % 8 = 0)
    (hx : a < 0x700000 ∨ 0x708000 ≤ a) (v lead : Nat) (host : List (BitVec 8)) (s : State) :
    busWrite a v 8 lead host s = busWrite (a + 4) (v / 2 ^ 32) 4 lead host (busWrite a v 4 lead host s) := by
  have hm : ¬ (0x700000 ≤ a ∧ a < 0x708000) := by omega
  rw [busWrite_of_aligned (a := a) (by omega) hx, busWrite_of_aligned (a := a + 4) (by omega) (by omega)]
  simp [busWrite, hm, ha, hr, hw]

/-- Before BOOT is complete no write is taken (R620). -/
theorem busWrite_of_not_barUp {s : State} (h : s.barUp = false) (a v n lead : Nat) (host : List (BitVec 8)) :
    busWrite a v n lead host s = s := by
  have hbar (f : State → State) : hostBar f s = s := by simp [hostBar, h]
  unfold busWrite
  split
  · simp [hbar]
  · split
    · exact write32_of_not_barUp h ..
    · split
      · split
        · simp [hostWr_of_not_barUp h, write32_of_not_barUp h]
        · exact write32_of_not_barUp h ..
      · rfl

/-! ### Registers that a host write stores -/

/-- The hub registers whose write does more than store. -/
def hubRuled : List Nat :=
  [GLB_STATE_CMD, GLB_LSG_CMD, GLB_RESET, IMG_CTL, IMG_LEN, QM_QIDX, QM_QCMD, SHR_PCMD 0, SHR_PLEN 0, SHR_PDLEN 0, SHR_DBG_CTL,
    SHR_DBG_RESP 0, TRIM_CTL, TRIM_CMD, REEF_CMD, REEF_PLIM, FLT_CMD, FLT_LOG_RP, FLT_MARK, FLT_TRIG_CFG 0]

theorem hubWrite_of_not_ruled {b : Nat} (h : b ∉ hubRuled) (ix : List Nat) (a v : Nat) (host : List (BitVec 8)) (s : State) :
    hubWrite b ix a v host s = s.wrRW a v := by
  simp only [hubRuled, List.mem_cons, List.not_mem_nil, or_false, not_or] at h
  simp [hubWrite, h]

/-- The row of a hub register that software reaches and that has no W1C bits: a write of it goes to `hubWrite`. -/
def hubRow (r : RegRow) : Bool :=
  !ratOnly r.base && r.w1c == 0 && decide (r.base < 0x1000000) && !decide (0x800000 ≤ r.base ∧ r.base < 0xD00000)
    && !decide (0x400000 ≤ r.base ∧ r.base < 0x600000)

theorem hostStore_of_hubRow {a : Nat} {r : RegRow} (hr : regRow a = some r) (h : hubRow r = true) (v lead : Nat)
    (host : List (BitVec 8)) (s : State) :
    hostStore a v lead host s = hubWrite r.base (strideIdx (a - r.base) r.strides) a v host s := by
  simp only [hubRow, Bool.and_eq_true, Bool.not_eq_true', beq_iff_eq, decide_eq_true_eq, decide_eq_false_iff_not] at h
  obtain ⟨⟨⟨⟨hrat, hw1c⟩, hb⟩, hpool⟩, htime⟩ := h
  have hconv : ¬ 0x2000000 ≤ r.base := by omega
  have hyard : ¬ 0x1000000 ≤ r.base := by omega
  simp [hostStore, hr, hrat, hw1c, hconv, hyard, hpool, htime]

/-- A write of `n` bytes at `a` does no more than store the bits software may write. -/
def plainReg (a n : Nat) : Bool := wholeReg a n && (regRow a).any fun r => hubRow r && !hubRuled.contains r.base

theorem exec_regWrite_of_plainReg {s : State} {a n : Nat} (hs : s.opens a) (h : plainReg a n = true) {v : Nat}
    (hv : v < 2 ^ (8 * n)) (host : List (BitVec 8)) : exec (.regWrite a v n host) s = .next (s.wrRW a v) := by
  simp only [plainReg, Bool.and_eq_true, Bool.not_eq_true', Option.any_eq_true, List.contains_eq_mem, decide_eq_false_iff_not] at h
  obtain ⟨hreg, r, hr, hrow, hruled⟩ := h
  rw [exec_regWrite_of_opens hs hreg, hostStore_of_hubRow hr hrow, hubWrite_of_not_ruled hruled, Nat.mod_eq_of_lt hv]

theorem plainReg_four : ∀ a ∈ [FLT_IRQ] ++ (List.range 8).map QM_QD, plainReg a 4 = true := by decide +kernel

theorem plainReg_eight : ∀ a ∈ [GLB_LSG_REL, FLT_MARK_REL, IMG_SRC] ++ (List.range 8).map SHR_PSRC, plainReg a 8 = true := by
  decide +kernel

/-- The row of SHR_PLEN, whose write is refused while a job of its partition runs (R27). -/
def plenRow : RegRow := ⟨"SHR_PLEN", 0x110010, [(0x1000, 8)], 32, 0, 0xFFFFFF, 0, 0, 0, 0, 0, 0⟩

theorem regRow_shrPlen : ∀ p < 8, regRow (SHR_PLEN p) = some plenRow ∧ wholeReg (SHR_PLEN p) 4 = true := by decide +kernel

theorem hubWrite_plenRow (ix : List Nat) (a v : Nat) (host : List (BitVec 8)) (s : State) :
    hubWrite plenRow.base ix a v host s = shrLenWrite (ix.getD 0 0) a v s := rfl

theorem exec_regWrite_shrPlen {s : State} {p : Nat} (hs : s.opens (SHR_PLEN p)) (hp : p < 8) (v : Nat)
    (host : List (BitVec 8)) : exec (.regWrite (SHR_PLEN p) v 4 host) s = .next (shrLenWrite p (SHR_PLEN p) (v % 2 ^ 32) s) := by
  obtain ⟨hr, hreg⟩ := regRow_shrPlen p hp
  have hx : (strideIdx (SHR_PLEN p - plenRow.base) plenRow.strides).getD 0 0 = p := by
    simp [plenRow, SHR_PLEN, strideIdx]
  rw [exec_regWrite_of_opens hs hreg, hostStore_of_hubRow hr (by decide), hubWrite_plenRow, hx]

/-- The registers of a Mast that take a write only while the group is IDLE. -/
def seqRegs (y : Nat) : List Nat := [SEQ_CTL y, SEQ_ENTRY y, SEQ_RST_ENTRY y, SEQ_PROG_LEN y]

/-- The register at `a` is one of yard `y` that R97 closes. -/
def seqRow (y a n : Nat) : Bool :=
  wholeReg a n && (regRow a).any fun r =>
    !ratOnly r.base && r.w1c == 0 && decide (0x1000000 ≤ r.base ∧ r.base < 0x2000000)
      && [SEQ_CTL 0, SEQ_ENTRY 0, SEQ_RST_ENTRY 0, SEQ_PROG_LEN 0, SEQ_SHOT_CNT 0, SEQ_G 0 0].contains r.base
      && (strideIdx (a - r.base) r.strides).getD 0 0 == y

theorem hostStore_of_seqRow {y a n : Nat} (h : seqRow y a n = true) (v lead : Nat) (host : List (BitVec 8)) (s : State) :
    hostStore a v lead host s = seqHostWrite y a v s := by
  simp only [seqRow, Bool.and_eq_true, Bool.not_eq_true', beq_iff_eq, decide_eq_true_eq, Option.any_eq_true] at h
  obtain ⟨-, r, hr, ⟨⟨⟨hrat, hw1c⟩, hyard⟩, hseq⟩, hy⟩ := h
  have hconv : ¬ 0x2000000 ≤ r.base := by omega
  simp only [hostStore, hr, hrat, hw1c, hconv, hyard.1, Bool.false_eq_true, if_false, if_true, ne_eq, not_true_eq_false]
  unfold yardWrite
  rw [if_pos hseq, hy]

theorem exec_regWrite_of_seqRow {s : State} {y a n : Nat} (hs : s.opens a) (h : seqRow y a n = true) (v : Nat)
    (host : List (BitVec 8)) : exec (.regWrite a v n host) s = .next (seqHostWrite y a (v % 2 ^ (8 * n)) s) := by
  have hreg : wholeReg a n = true := by
    simp only [seqRow, Bool.and_eq_true] at h
    exact h.1
  rw [exec_regWrite_of_opens hs hreg, hostStore_of_seqRow h]

theorem seqRow_of_mem : ∀ y < 64, ∀ a ∈ seqRegs y, seqRow y a 4 = true := by decide +kernel

theorem seqRow_seqG : ∀ y < 64, ∀ i < 32, seqRow y (SEQ_G y i) 8 = true ∧ rwMask (SEQ_G y i) = BitVec.ofNat 64 (2 ^ 48 - 1) := by
  decide +kernel

theorem seqHostWrite_of_yIdle {s : State} {y : Nat} (h : s.yIdle y = true) (a v : Nat) : seqHostWrite y a v s = s.wrRW a v := by
  simp [seqHostWrite, h]

theorem seqHostWrite_seqG_of_paused {s : State} {y i : Nat} (h : s.ygst y = gPAUSED) (hi : i < 32) (v : Nat) :
    seqHostWrite y (SEQ_G y i) v s = s.wrRW (SEQ_G y i) v := by
  have hoff : 0x100 ≤ SEQ_G y i - (0x1000000 + 0x40000 * y) ∧ SEQ_G y i - (0x1000000 + 0x40000 * y) < 0x200 := by
    unfold SEQ_G
    omega
  simp [seqHostWrite, h, hoff]

theorem seqHostWrite_of_not_paused {s : State} {y : Nat} (h : s.yIdle y = false) (hp : s.ygst y ≠ gPAUSED) (a v : Nat) :
    seqHostWrite y a v s = s.inc (SEQ_WDROP_CNT y) := by
  simp [seqHostWrite, h, hp]

theorem seqHostWrite_of_not_yIdle {s : State} {y a : Nat} (h : s.yIdle y = false) (ha : a ∈ seqRegs y) (v : Nat) :
    seqHostWrite y a v s = s.inc (SEQ_WDROP_CNT y) := by
  have hoff : ¬ (0x100 ≤ a - (0x1000000 + 0x40000 * y) ∧ a - (0x1000000 + 0x40000 * y) < 0x200) := by
    simp only [seqRegs, SEQ_CTL, SEQ_ENTRY, SEQ_RST_ENTRY, SEQ_PROG_LEN, List.mem_cons, List.not_mem_nil, or_false] at ha
    omega
  simp only [seqHostWrite, h, hoff, decide_false, Bool.false_and, Bool.or_self, Bool.false_eq_true, if_false]

/-- The low 48 bits of a word replaced. -/
theorem toNat_low48_replaced (x : Word) (v : Nat) :
    ((x &&& ~~~(BitVec.ofNat 64 (2 ^ 48 - 1))) ||| (BitVec.ofNat 64 v &&& BitVec.ofNat 64 (2 ^ 48 - 1))).toNat
      = x.toNat / 2 ^ 48 * 2 ^ 48 + v % 2 ^ 48 := by
  have hv : v % 2 ^ 48 < 2 ^ 48 := Nat.mod_lt _ (by decide)
  rw [Nat.mul_comm, Nat.two_pow_add_eq_or_of_lt hv]
  apply Nat.eq_of_testBit_eq
  intro i
  simp only [← BitVec.getLsbD.eq_1, BitVec.getLsbD_or, BitVec.getLsbD_and, BitVec.getLsbD_not, BitVec.getLsbD_ofNat, Nat.testBit_or,
    Nat.testBit_two_pow_sub_one, Nat.testBit_mod_two_pow, Nat.testBit_two_pow_mul, Nat.testBit_div_two_pow]
  by_cases hi : i < 48
  · have : i < 64 := by omega
    have : ¬ 48 ≤ i := by omega
    simp [*]
  · have : 48 ≤ i := by omega
    simpa [hi, this] using BitVec.lt_of_getLsbD

/-! ### Reads (R12, R13, R667) -/

theorem regAt_of_regRow {a : Nat} {r : RegRow} (hr : regRow a = some r) (hw : r.width = 32 ∨ r.width = 64)
    (ha : a % (r.width / 8) = 0) : regAt a = (a, r.width) := by
  have hal : a / 4 * 4 = a := by
    obtain hw | hw := hw
    · rw [hw] at ha
      omega
    · rw [hw] at ha
      omega
  simp [regAt, hal, hr]

theorem busRead_of_regAt {a n w : Nat} (h : regAt a = (a, w)) (hn : 8 * n ≤ w) (s : State) :
    busRead false false a n s = (if 8 * n = w then clearRC a s else s, (s.hostSees false a).toNat % 2 ^ (8 * n)) := by
  have h32 : ¬ (n = 8 ∧ a % 8 = 0 ∧ w = 32) := by omega
  simp [busRead, readPart, h, h32]

theorem exec_regReadClear_of_regAt {a n w : Nat} (h : regAt a = (a, w)) (hn : 8 * n ≤ w) {s : State} (hbar : s.barUp = true) :
    exec (.regReadClear a n) s = .next { (if 8 * n = w then clearRC a s else s) with
      bus := { s.bus with rdata := BitVec.ofNat 64 ((s.hostSees false a).toNat % 2 ^ (8 * n)) } } := by
  have hbus : (if 8 * n = w then clearRC a s else s).bus = s.bus := by
    unfold clearRC
    split
    · split
      · rfl
      · rfl
    · rfl
  show execRegReadClear a n s = _
  simp only [execRegReadClear, hbar, if_true, busRead_of_regAt h hn, hbus]

theorem exec_regReadClear_of_not_barUp {s : State} (h : s.barUp = false) (a n : Nat) : exec (.regReadClear a n) s = .next s := by
  show execRegReadClear a n s = _
  simp [execRegReadClear, h]

theorem rd_clearRC (s : State) (a : Nat) : (clearRC a s).rd a = s.rd a &&& ~~~(rcMask a) := by
  unfold clearRC
  split
  · next h =>
    rw [h]
    exact BitVec.and_allOnes.symm
  · simp

theorem onlyRegs_clearRC (s : State) (a : Nat) : s.onlyRegs (clearRC a s) [a] := by
  unfold clearRC
  split
  · exact ⟨rfl, fun _ _ => rfl⟩
  · exact onlyRegs_wr s a _

theorem hostSees_of_sealedBy {s : State} {a p : Nat} (h : s.sealedBy a = some p) : s.hostSees false a = 0 := by
  simp [State.hostSees, h]

/-! ### Offsets that hold nothing (R12) -/

theorem regAt_of_unimplemented {a : Nat} (ha : a % 4 = 0) (hr : regRow a = none)
    (h64 : ∀ r, regRow (a / 8 * 8) = some r → r.width = 32) : regAt a = (a, 32) := by
  have hal : a / 4 * 4 = a := by omega
  unfold regAt
  rw [hal, hr]
  dsimp only
  split
  · next r hr8 => simp [h64 r hr8]
  · rfl

theorem hostSees_of_unimplemented {a : Nat} (hr : regRow a = none) (hcap : a < 0x100 ∨ 0x260 ≤ a)
    (hx : a < 0x700000 ∨ 0x708100 ≤ a) (s : State) : s.hostSees false a = 0 := by
  have hcap' : ¬ (0x100 ≤ a ∧ a < 0x260) := by omega
  have hmsix : ¬ (0x700000 ≤ a ∧ a < 0x708000) := by omega
  have hpba : ¬ (0x708000 ≤ a ∧ a < 0x708100) := by omega
  simp [State.hostSees, State.view, hr, hcap', hmsix, hpba]

theorem clearRC_of_unimplemented {a : Nat} (hr : regRow a = none) (s : State) : clearRC a s = s := by
  simp [clearRC, rcMask, hr]

theorem write32_of_unimplemented {a : Nat} (hr : regRow a = none) (v lead : Nat) (host : List (BitVec 8)) (s : State) :
    write32 a v lead host s = s := by
  simp [write32, hr]

/-- Settles O55: no row of the register table, no word of the capability list and none of the MSI-X table covers the offset. -/
theorem unimplementedOffsetsReadZeroAndDiscardWrites : Obligations.UnimplementedOffsetsReadZeroAndDiscardWrites := by
  intro s a v host hbar ha hr h64 hcap hx
  refine ⟨?_, _, ?_, rfl⟩
  · show Host.Outcome.next (busWrite a v 4 160 host s) = _
    rw [busWrite_of_aligned ha (by omega), write32_of_unimplemented hr]
  · rw [exec_regReadClear_of_regAt (regAt_of_unimplemented ha hr h64) (by decide) hbar, hostSees_of_unimplemented hr hcap hx,
      clearRC_of_unimplemented hr]
    rfl

/-! ### The clauses of O56 -/

theorem write_of_plain_register (s : State) (a v n : Nat) (host : List (BitVec 8)) (hs : s.opens a)
    (ha : (n = 4 ∧ a ∈ [FLT_IRQ] ++ (List.range 8).map QM_QD ++ (List.range 8).map SHR_PLEN)
      ∨ (n = 8 ∧ a ∈ [GLB_LSG_REL, FLT_MARK_REL, IMG_SRC] ++ (List.range 8).map SHR_PSRC)) (hv : v < 2 ^ (8 * n))
    (hbusy : ∀ p, p < 8 → a = SHR_PLEN p → s.shrBusy p = false) : exec (.regWrite a v n host) s = .next (s.wrRW a v) := by
  obtain ⟨rfl, ha⟩ | ⟨rfl, ha⟩ := ha
  · rw [List.mem_append] at ha
    obtain ha | ha := ha
    · exact exec_regWrite_of_plainReg hs (plainReg_four a ha) hv host
    · simp only [List.mem_map, List.mem_range] at ha
      obtain ⟨p, hp, rfl⟩ := ha
      have hjob : (s.shp p).job.isSome = false := hbusy p hp rfl
      rw [exec_regWrite_shrPlen hs hp, Nat.mod_eq_of_lt hv]
      simp [shrLenWrite, hjob]
  · exact exec_regWrite_of_plainReg hs (plainReg_eight a ha) hv host

theorem write_of_plen_busy (s : State) (p v : Nat) (host : List (BitVec 8)) (hs : s.opens (SHR_PLEN p)) (hp : p < 8)
    (hbusy : s.shrBusy p = true) :
    exec (.regWrite (SHR_PLEN p) v 4 host) s = .next (s.setF (SHR_PSTS p) SHR_PSTS_STATUS E_SHR_BUSY) := by
  have hjob : (s.shp p).job.isSome = true := hbusy
  rw [exec_regWrite_shrPlen hs hp]
  simp [shrLenWrite, hjob]

theorem write_of_w1c (s : State) (a : Nat) (r : RegRow) (v : Nat) (host : List (BitVec 8)) (hs : s.opens a) (hr : regRow a = some r)
    (hw1c : r.w1c ≠ 0) (hreg : wholeReg a 4 = true) (hbia : r.base ≠ BIA_STS 0) (hrat : ratOnly r.base = false) (hv : v < 2 ^ 32) :
    exec (.regWrite a v 4 host) s = .next (clearW1C a v r.w1c s) := by
  rw [exec_regWrite_of_opens hs hreg, Nat.mod_eq_of_lt hv]
  simp [hostStore, hr, hrat, hw1c, w1cWrite, hbia]

theorem write_of_seqRegs_not_idle (s : State) (y a n v : Nat) (host : List (BitVec 8)) (hs : s.opens a) (hy : y < 64)
    (hidle : s.yIdle y = false)
    (ha : (n = 4 ∧ a ∈ seqRegs y) ∨ (n = 8 ∧ s.ygst y ≠ gPAUSED ∧ ∃ i, i < 32 ∧ a = SEQ_G y i)) :
    exec (.regWrite a v n host) s = .next (s.inc (SEQ_WDROP_CNT y)) := by
  obtain ⟨rfl, ha⟩ | ⟨rfl, hp, i, hi, rfl⟩ := ha
  · rw [exec_regWrite_of_seqRow hs (seqRow_of_mem y hy a ha), seqHostWrite_of_not_yIdle hidle ha]
  · rw [exec_regWrite_of_seqRow hs (seqRow_seqG y hy i hi).1, seqHostWrite_of_not_paused hidle hp]

theorem write_of_seqG (s : State) (y i v : Nat) (host : List (BitVec 8)) (hs : s.opens (SEQ_G y i)) (hy : y < 64) (hi : i < 32)
    (hst : s.yIdle y = true ∨ s.ygst y = gPAUSED) (hv : v < 2 ^ 64) :
    exec (.regWrite (SEQ_G y i) v 8 host) s = .next (s.wrRW (SEQ_G y i) v) := by
  rw [exec_regWrite_of_seqRow hs (seqRow_seqG y hy i hi).1, Nat.mod_eq_of_lt hv]
  obtain h | h := hst
  · rw [seqHostWrite_of_yIdle h]
  · rw [seqHostWrite_seqG_of_paused h hi]

theorem g_wrRW_seqG (s : State) {y i : Nat} (hy : y < 64) (hi : i < 32) (v : Nat) :
    (s.wrRW (SEQ_G y i) v).g y i = s.rdN (SEQ_G y i) / 2 ^ 48 * 2 ^ 48 + v % 2 ^ 48 := by
  simp only [State.g, State.rdN, rd_wrRW_same, (seqRow_seqG y hy i hi).2, toNat_low48_replaced]

theorem write_of_sealed (s : State) (a v p : Nat) (host : List (BitVec 8)) (hbar : s.barUp = true) (hpage : s.pageBusy a = false)
    (hseal : s.sealedBy a = some p) (hreg : wholeReg a 4 = true) :
    exec (.regWrite a v 4 host) s = .next ((s.shrDeny a 0 p E_SHR_SEALED).inc SHR_SEAL_DROP_CNT) := by
  show Host.Outcome.next (busWrite a v 4 160 host s) = _
  rw [busWrite_of_wholeReg hreg, hostWr_of_sealedBy hbar hpage hseal]

theorem rdN_shrDeny_host (s : State) {a p : Nat} (ha : a < 2 ^ 40) (hp : p < 16) :
    (s.shrDeny a 0 p E_SHR_SEALED).rdN SHR_DENY = a * 2 ^ 24 + p * 2 ^ 16 + E_SHR_SEALED := by
  have hc : E_SHR_SEALED = 0x1210 := rfl
  rw [State.shrDeny, rdN_wrN, hc]
  omega

/-- Settles O56: each clause follows from what `hostWr` lets through, the width of the access and the rule of the register's row. -/
theorem registerAccessesFollowTheirRules : Obligations.RegisterAccessesFollowTheirRules := by
  refine ⟨?_, ?_, ?_, ?_, ?_, ?_, ?_, ?_, ?_, ?_, ?_, ?_, ?_, ?_⟩
  · intro s a v n host hs ha hv hbusy
    exact ⟨_, write_of_plain_register s a v n host hs ha hv hbusy, rd_wrRW_same .., onlyRegs_wr ..⟩
  · intro s p v host hs hp hbusy
    exact ⟨_, write_of_plen_busy s p v host hs hp hbusy, fld_setF _ _ _ _ (by decide), onlyRegs_wr ..⟩
  · intro s a r v host hs hr hw1c hw hbia hrat hx ha hv
    exact ⟨_, write_of_w1c s a r v host hs hr hw1c (wholeReg_four hr hw ha hx) hbia hrat hv, rd_wr_same .., onlyRegs_wr ..⟩
  · intro s a r v n host hr hn hx
    exact congrArg Host.Outcome.next (busWrite_of_narrower hr hn hx v 160 host s)
  · intro s a r v host u hr hw ha hx hu
    obtain rfl : busWrite a v 4 160 host s = u := Host.Outcome.next.inj hu
    exact congrArg Host.Outcome.next (busWrite_of_two hr hw ha hx v 160 host s)
  · intro s y a v host hs hy ha hidle hv
    refine ⟨s.wrRW a v, ?_, rd_wrRW_same .., onlyRegs_wr ..⟩
    rw [exec_regWrite_of_seqRow hs (seqRow_of_mem y hy a ha), seqHostWrite_of_yIdle hidle, Nat.mod_eq_of_lt hv]
  · intro s y i v host hs hy hi hst hv
    exact ⟨_, write_of_seqG s y i v host hs hy hi hst hv, g_wrRW_seqG s hy hi v, onlyRegs_wr ..⟩
  · intro s y a n v host hs hy hidle ha
    exact ⟨_, write_of_seqRegs_not_idle s y a n v host hs hy hidle ha, rdN_inc .., onlyRegs_wr ..⟩
  · intro s a r v host hbar hpage hr hw ha hx
    refine ⟨s.inc IMG_DROP_CNT, ?_, rdN_inc .., onlyRegs_wr ..⟩
    show Host.Outcome.next (busWrite a v 4 160 host s) = _
    rw [busWrite_of_wholeReg (wholeReg_four hr hw ha hx), hostWr_of_pageBusy hbar hpage]
  · intro s a r v host p hbar hpage hseal hp hr hw ha hx
    have hreg : wholeReg a 4 = true := wholeReg_four hr hw ha (by omega)
    refine ⟨_, write_of_sealed s a v p host hbar hpage hseal hreg, ?_, ?_, onlyRegs_wr_wr ..⟩
    · rw [rdN_inc, State.shrDeny, rdN_wrN_ne _ _ _ _ (by decide)]
    · rw [rdN_inc_ne _ _ _ (by decide), rdN_shrDeny_host s (by omega) hp]
  · intro s i a v n host hbar hi
    simp only [List.mem_cons, List.not_mem_nil, or_false] at hi
    obtain rfl | rfl := hi
    · exact congrArg Host.Outcome.next (busWrite_of_not_barUp hbar a v n 160 host)
    · exact exec_regReadClear_of_not_barUp hbar a n
  · intro s a r hbar hr hw ha
    have h8 : 8 * (r.width / 8) = r.width := by omega
    have hrc : rcMask a = BitVec.ofNat 64 r.rc := by simp [rcMask, hr]
    obtain ⟨hframe, hkeeps⟩ := onlyRegs_clearRC s a
    have hread := exec_regReadClear_of_regAt (regAt_of_regRow hr hw ha) (Nat.le_of_eq h8) hbar
    rw [if_pos h8, h8] at hread
    refine ⟨_, hread, rfl, ?_, hkeeps, ?_⟩
    · exact hrc ▸ rd_clearRC s a
    · exact congrArg (fun t : State => { t with bus := s.bus }) hframe
  · intro s a r n hbar hr hw ha hn
    have hne : ¬ 8 * n = r.width := by omega
    have hread := exec_regReadClear_of_regAt (n := n) (regAt_of_regRow hr hw ha) (by omega) hbar
    rw [if_neg hne] at hread
    exact ⟨_, hread, rfl⟩
  · intro s a p h
    exact hostSees_of_sealedBy h

end Sys2Proof.Laws
end

section
namespace Sys2Proof.Laws
open Sys2Proof.Machine

-- One theorem after another: a thread for each of them passes the memory limit of the check.
set_option Elab.async false

/-! ### Loops -/

/-- What holds before a loop and is kept by each of its rounds holds after it. -/
theorem forEach_induct {α : Type} {P : State → Prop} {xs : List α} {f : α → State → State} {s : State} (h : P s)
    (hf : ∀ x ∈ xs, ∀ t, P t → P (f x t)) : P (forEach xs s f) :=
  List.foldlRecOn (motive := P) xs _ h fun t ht x hx => hf x hx t ht

/-! ### What the Masts, the groups and the global registers keep

`Keeps Y s t` says that `t` comes from `s` without a change to the global registers (below 0x400000: chapters 1, 17, 18 and 19), to the Masts
of the yards in `Y` and their registers, to the groups but for their marks, to the composition and to the clock. As with `Tidy`, the lemma of
a function `f` of the model is `Keeps.f : Keeps Y s₀ s → Keeps Y s₀ (f s)`. -/

/-- The address is one of the Mast registers of a yard (Table 3-11): the first 256 bytes of its page. -/
def mastReg (y a : Nat) : Prop := 0x1000000 + 0x40000 * y ≤ a ∧ a < 0x1000100 + 0x40000 * y

/-- The address is neither one of the global registers nor one of any Mast. -/
def aside (a : Nat) : Prop := 0x400000 ≤ a ∧ (a < 0x1000000 ∨ 0x100 ≤ (a - 0x1000000) % 0x40000)

structure Keeps (Y : Nat → Prop) (s t : State) : Prop where
  low : ∀ a < 0x400000, t.rd a = s.rd a
  regs : ∀ y, Y y → ∀ a, mastReg y a → t.rd a = s.rd a
  mast : ∀ y, Y y → t.mast y = s.mast y
  grp : ∀ g, ∃ ms cs, t.grp g = { s.grp g with marks := ms, causes := cs }
  hangs : t.seq.hangs = s.seq.hangs
  img : t.img = s.img
  clock : t.clock = s.clock

/-- Every yard. -/
def anyYard : Nat → Prop := fun _ => True

theorem Keeps.rfl {Y : Nat → Prop} {s : State} : Keeps Y s s :=
  ⟨fun _ _ => Eq.refl _, fun _ _ _ _ => Eq.refl _, fun _ _ => Eq.refl _, fun _ => ⟨_, _, Eq.refl _⟩, Eq.refl _, Eq.refl _, Eq.refl _⟩

theorem Keeps.trans {Y : Nat → Prop} {s t u : State} (h : Keeps Y s t) (k : Keeps Y t u) : Keeps Y s u where
  low a ha := (k.low a ha).trans (h.low a ha)
  regs y hy a ha := (k.regs y hy a ha).trans (h.regs y hy a ha)
  mast y hy := (k.mast y hy).trans (h.mast y hy)
  grp g := by
    obtain ⟨ms, cs, hg⟩ := h.grp g
    obtain ⟨ms', cs', kg⟩ := k.grp g
    exact ⟨ms', cs', by rw [kg, hg]⟩
  hangs := k.hangs.trans h.hangs
  img := k.img.trans h.img
  clock := k.clock.trans h.clock

/-- What is kept of some yards is kept of fewer. -/
theorem Keeps.mono {Y Z : Nat → Prop} {s t : State} (h : Keeps Y s t) (hZ : ∀ y, Z y → Y y) : Keeps Z s t :=
  { h with regs := fun y hy => h.regs y (hZ y hy), mast := fun y hy => h.mast y (hZ y hy) }

section
variable {Y : Nat → Prop} {s₀ s : State}

theorem Keeps.ite {t : State} (hs : Keeps Y s₀ s) (ht : Keeps Y s₀ t) {c : Prop} {d : Decidable c} :
    Keeps Y s₀ (if c then s else t) := by
  split
  · exact hs
  · exact ht

/-- A state that is used more than once is dealt with once. -/
theorem Keeps.andThen {t : State} (h : Keeps Y s₀ s) (k : Keeps Y s₀ s → Keeps Y s₀ t) : Keeps Y s₀ t := k h

theorem Keeps.forEach {α : Type} {xs : List α} {f : α → State → State} (h : Keeps Y s₀ s)
    (hf : ∀ x ∈ xs, ∀ t, Keeps Y s₀ t → Keeps Y s₀ (f x t)) : Keeps Y s₀ (forEach xs s f) := forEach_induct h hf

/-- A part of the state replaced that holds none of it. -/
theorem Keeps.keep {t : State} (h : Keeps Y s₀ s) (hr : t.regs = s.regs := by rfl) (hs : t.seq = s.seq := by rfl)
    (hi : t.img = s.img := by rfl) (hc : t.clock = s.clock := by rfl) : Keeps Y s₀ t := by
  have hrd (a : Nat) : t.rd a = s.rd a := congrArg (sget resetVal · a) hr
  exact h.trans ⟨fun a _ => hrd a, fun _ _ a _ => hrd a, fun y _ => congrArg (fun q : Seq => tget q.masts y) hs,
    fun g => ⟨_, _, congrArg (fun q : Seq => tget q.groups g) hs⟩, congrArg Seq.hangs hs, hi, hc⟩

theorem Keeps.withHal {v : Hal} (h : Keeps Y s₀ s) : Keeps Y s₀ { s with hal := v } := h.keep
theorem Keeps.withTon {v : Ton} (h : Keeps Y s₀ s) : Keeps Y s₀ { s with ton := v } := h.keep
theorem Keeps.withCnv {v : Cnv} (h : Keeps Y s₀ s) : Keeps Y s₀ { s with cnv := v } := h.keep
theorem Keeps.withCnvDec {v : Cnv} {w : DecS} (h : Keeps Y s₀ s) : Keeps Y s₀ { s with cnv := v, dec := w } := h.keep
theorem Keeps.withHif {v : Hif} (h : Keeps Y s₀ s) : Keeps Y s₀ { s with hif := v } := h.keep
theorem Keeps.withBus {v : Bus} (h : Keeps Y s₀ s) : Keeps Y s₀ { s with bus := v } := h.keep

/-- A register written that is neither a global one nor one of a Mast kept. -/
theorem Keeps.wrOf {a : Nat} {v : Word} (h : Keeps Y s₀ s) (ha : 0x400000 ≤ a) (hm : ∀ y, Y y → ¬ mastReg y a) :
    Keeps Y s₀ (s.wr a v) := by
  refine h.trans { (Keeps.rfl : Keeps Y s s) with low := fun b hb => ?_, regs := fun y hy b hb => ?_ }
  · exact rd_wr_ne s a b v (by omega)
  · exact rd_wr_ne s a b v fun hab => hm y hy (hab ▸ hb)

/-- A register written that is neither a global one nor one of any Mast. -/
theorem Keeps.wr {a : Nat} {v : Word} (h : Keeps Y s₀ s) (ha : aside a) : Keeps Y s₀ (s.wr a v) :=
  h.wrOf ha.1 fun y _ => by
    unfold aside at ha
    unfold mastReg
    omega

theorem Keeps.setF {a : Nat} {f : Fld} {n : Nat} (h : Keeps Y s₀ s) (ha : aside a) : Keeps Y s₀ (s.setF a f n) := h.wr ha

theorem Keeps.wrN {a n : Nat} (h : Keeps Y s₀ s) (ha : aside a) : Keeps Y s₀ (s.wrN a n) := h.wr ha

theorem Keeps.inc {a : Nat} (h : Keeps Y s₀ s) (ha : aside a) : Keeps Y s₀ (s.inc a) := h.wr ha

/-- A register of a Mast written, when the Masts kept are others. -/
theorem Keeps.wrMast {a y : Nat} {v : Word} (h : Keeps Y s₀ s) (hy : ¬ Y y) (ha : 0x1000000 + 0x40000 * y ≤ a ∧ a < 0x1040000 + 0x40000 * y) :
    Keeps Y s₀ (s.wr a v) :=
  h.wrOf (by omega) fun z hz hm => by
    have hzy : z ≠ y := fun e => hy (e ▸ hz)
    unfold mastReg at hm
    omega

theorem Keeps.modMast {y : Nat} {f : Mast → Mast} (h : Keeps Y s₀ s) (hy : ¬ Y y) : Keeps Y s₀ (s.modMast y f) :=
  h.trans { (Keeps.rfl : Keeps Y s s) with
    mast := fun z hz => by
      have hzy : z ≠ y := fun e => hy (e ▸ hz)
      simp [hzy] }

/-! #### What moves on the bus -/

theorem Keeps.report {code src inst : Nat} (h : Keeps Y s₀ s) : Keeps Y s₀ (s.report code src inst) := h.keep
theorem Keeps.nextFree (h : Keeps Y s₀ s) : Keeps Y s₀ s.nextFree := h.keep
theorem Keeps.send {i : Item} (h : Keeps Y s₀ s) : Keeps Y s₀ (s.send i) := h.keep
theorem Keeps.emitRec {r : Rec} (h : Keeps Y s₀ s) : Keeps Y s₀ (s.emitRec r) := h.keep

theorem Keeps.when {c : Bool} {f : State → State} (h : Keeps Y s₀ s) (hf : ∀ t, Keeps Y s₀ t → Keeps Y s₀ (f t)) :
    Keeps Y s₀ (s.when c f) := (hf s h).ite h

/-- A mark changes nothing of its group but the marks. -/
theorem Keeps.markGroup {g code : Nat} {cause : Bool} (h : Keeps Y s₀ s) : Keeps Y s₀ (s.markGroup g code cause) := by
  refine h.trans { (Keeps.rfl : Keeps Y s s) with grp := fun k => ?_ }
  unfold Machine.State.markGroup
  rw [grp_modGrp]
  split
  · next hk => rw [hk]; exact ⟨_, _, Eq.refl _⟩
  · exact ⟨_, _, Eq.refl _⟩

/-! #### Halyard (chapter 5) -/

theorem Keeps.setSeg {q i : Nat} {e : Seg} (h : Keeps Y s₀ s) : Keeps Y s₀ (s.setSeg q i e) := h.keep
theorem Keeps.changeSeg {y q i : Nat} {e : Seg} (h : Keeps Y s₀ s) : Keeps Y s₀ (s.changeSeg y q i e) := h.keep
theorem Keeps.setTgt {y t : Nat} {x : Target} (h : Keeps Y s₀ s) : Keeps Y s₀ (s.setTgt y t x) := h.keep
theorem Keeps.setStrm {y c : Nat} {x : Strm} (h : Keeps Y s₀ s) : Keeps Y s₀ (s.setStrm y c x) := h.keep
theorem Keeps.markerCut {y a : Nat} (h : Keeps Y s₀ s) : Keeps Y s₀ (markerCut y a s) := h.keep
theorem Keeps.endPlayUse {y : Nat} {p : Play} (h : Keeps Y s₀ s) : Keeps Y s₀ (s.endPlayUse y p) := h.setSeg.ite h

theorem Keeps.endPlanUse {y : Nat} {p : Play} (h : Keeps Y s₀ s) : Keeps Y s₀ (s.endPlanUse y p) := by
  unfold Machine.State.endPlanUse
  split
  · exact h.setSeg
  · exact h

theorem Keeps.toneState {y t : Nat} (h : Keeps Y s₀ s) : Keeps Y s₀ (s.toneState y t) := by
  unfold Machine.State.toneState
  split
  · exact h.setF (by unfold aside TON_TSTS; omega)
  · exact h

theorem Keeps.setTstate {y t st seg : Nat} (ht : t < 20) (h : Keeps Y s₀ s) : Keeps Y s₀ (s.setTstate y t st seg) :=
  ((h.setF (by unfold aside HAL_TGT_STS; omega)).setF (by unfold aside HAL_TGT_STS; omega)).toneState

theorem Keeps.idleTgt {y t : Nat} (ht : t < 20) (h : Keeps Y s₀ s) : Keeps Y s₀ (s.idleTgt y t) := by
  unfold Machine.State.idleTgt
  dsimp only
  split
  · exact h.endPlayUse.endPlanUse.setTgt.setTstate ht
  · exact h.setTstate ht

theorem Keeps.strShotStart {y : Nat} {first : Bool} (h : Keeps Y s₀ s) : Keeps Y s₀ (strShotStart y first s) :=
  h.forEach fun c hc t h => by
    have hc : c < 2 := List.mem_range.mp hc
    have k := h.setStrm (y := y) (c := c) (x := { t.strm y c with m := if first then (t.strm y c).rp else (t.strm y c).m, starved := none })
      |>.setF (a := HAL_STR_STS y c) (f := HAL_STR_STS_STARVED) (n := 0) (by unfold aside HAL_STR_STS; omega)
    exact (k.setF (by unfold aside HAL_STR_STS; omega)).ite k

theorem Keeps.strReplay {y : Nat} (h : Keeps Y s₀ s) : Keeps Y s₀ (strReplay y s) := h.forEach fun _ _ _ h => h.setStrm
theorem Keeps.strStands {y : Nat} (h : Keeps Y s₀ s) : Keeps Y s₀ (strStands y s) := h.forEach fun _ _ _ h => h.setStrm
theorem Keeps.strAbort {y : Nat} (h : Keeps Y s₀ s) : Keeps Y s₀ (strAbort y s) := h.forEach fun _ _ _ h => h.setStrm

theorem Keeps.strAttemptEnd {y : Nat} (h : Keeps Y s₀ s) : Keeps Y s₀ (strAttemptEnd y s) :=
  h.forEach fun _ ht _ h => h.idleTgt (List.mem_range.mp (List.mem_of_mem_filter ht))

theorem Keeps.halIdle {y : Nat} (h : Keeps Y s₀ s) : Keeps Y s₀ (halIdle y s) := by
  refine (h.forEach fun r _ t h => ?_).withHal.forEach fun c hc t h => ?_
  · split
    · exact h.endPlayUse
    · exact h
  · have hc : c < 20 := List.mem_range.mp hc
    exact ((h.setTgt.setF (by unfold aside HAL_TGT_STS; omega)).ite h).idleTgt hc

/-! #### Tones (chapter 6) -/

theorem Keeps.setToneF {y t x f : Nat} (ht : t < 16) (h : Keeps Y s₀ s) : Keeps Y s₀ (s.setToneF y t x f) :=
  h.withTon.wrN (by unfold aside TON_FRAME_F; omega)

theorem Keeps.armFrames {y : Nat} (h : Keeps Y s₀ s) : Keeps Y s₀ (armFrames y s) :=
  h.forEach fun t ht u h => by
    have ht : t < 16 := List.mem_range.mp ht
    have k := (h.setToneF (y := y) (x := u.tb1) (f := u.rdN (TON_FREQ0 y t)) ht).wrN (a := TON_FRAME_P y t) (n := u.rdN (TON_PHASE0 y t))
      (by unfold aside TON_FRAME_P; omega)
    exact (k.wrN (by unfold aside TON_PF; omega)).ite k

theorem Keeps.makeActive {y cls : Nat} (h : Keeps Y s₀ s) : Keeps Y s₀ (makeActive y cls s) :=
  h.forEach fun _ _ _ h => Keeps.keep h

theorem Keeps.handClass {y cls : Nat} (h : Keeps Y s₀ s) : Keeps Y s₀ (handClass y cls s) := by
  unfold Machine.handClass
  dsimp only
  split
  · exact h.keep
  · split
    · exact (((h.inc (by unfold aside TON_HO_SKIP_CNT; omega)).setF (by unfold aside TON_STS; omega)).setF (by unfold aside TON_HO_STS; omega)).withTon
    · exact ((h.makeActive.setF (by unfold aside TON_SHD_STS; omega)).setF (by unfold aside TON_SHD_CTL; omega)).withTon

theorem Keeps.handBase {y mask : Nat} (h : Keeps Y s₀ s) : Keeps Y s₀ (handBase y mask s) :=
  (h.ite (h.setF (by unfold aside TON_HO_STS; omega))).forEach fun _ _ _ h => h.handClass

/-! #### Read-out (chapters 8, 9 and 10) -/

theorem Keeps.setDem {y c : Nat} {d : Dem} (h : Keeps Y s₀ s) : Keeps Y s₀ (s.setDem y c d) := h.keep
theorem Keeps.modDem {y c : Nat} {f : Dem → Dem} (h : Keeps Y s₀ s) : Keeps Y s₀ (s.modDem y c f) := h.keep
theorem Keeps.monReadback {i : Nat} (h : Keeps Y s₀ s) : Keeps Y s₀ (monReadback i s) := (Keeps.keep h).ite h
theorem Keeps.markChange {y c t : Nat} (h : Keeps Y s₀ s) : Keeps Y s₀ (markChange y c t s) := h.modDem
theorem Keeps.demRetune {y c x f : Nat} (h : Keeps Y s₀ s) : Keeps Y s₀ (demRetune y c x f s) := h.ite (h.modDem.ite h.modDem)
theorem Keeps.swapRequest {y c x : Nat} (h : Keeps Y s₀ s) : Keeps Y s₀ (swapRequest y c x s) := h.modDem

theorem Keeps.afterHand {y cls x : Nat} {old : State} (h : Keeps Y s₀ s) : Keeps Y s₀ (afterHand y cls x old s) :=
  (h.monReadback.ite h).ite <| (h.forEach fun _ _ _ h => (h.demRetune.markChange.ite h.demRetune).swapRequest).ite h

theorem Keeps.handOver {y mask x : Nat} (h : Keeps Y s₀ s) : Keeps Y s₀ (handOver y mask x s) :=
  h.handBase.withCnv.forEach fun _ _ _ h => h.afterHand

theorem Keeps.withdrawFormed {y : Nat} {p : Dec → Bool} (h : Keeps Y s₀ s) : Keeps Y s₀ (withdrawFormed y p s) := h.keep

theorem Keeps.acqRefresh {y c : Nat} (hc : c < 8) (h : Keeps Y s₀ s) : Keeps Y s₀ (acqRefresh y c s) :=
  (h.setF (by unfold aside CNV_ACQ_STS; omega)).setF (by unfold aside DSC_STS; omega)

theorem Keeps.endWins {y c : Nat} {p : Win → Bool} (hc : c < 8) (h : Keeps Y s₀ s) : Keeps Y s₀ (endWins y c p s) :=
  h.withCnv.modDem.acqRefresh hc

theorem Keeps.acqAbort {y : Nat} (h : Keeps Y s₀ s) : Keeps Y s₀ (acqAbort y s) :=
  h.forEach fun _ hc _ h => h.endWins (List.mem_range.mp hc)

/-! #### Syndrome decoder (chapter 11) -/

theorem Keeps.setCtx {x : Nat} {c : DCtx} (h : Keeps Y s₀ s) : Keeps Y s₀ (s.setCtx x c) := h.keep
theorem Keeps.modCtx {x : Nat} {f : DCtx → DCtx} (h : Keeps Y s₀ s) : Keeps Y s₀ (s.modCtx x f) := h.keep

theorem Keeps.setXst {x v : Nat} (hx : x < 8) (h : Keeps Y s₀ s) : Keeps Y s₀ (s.setXst x v) :=
  h.setF (by unfold aside DEC_CSTS; omega)

theorem Keeps.decBacklog {x : Nat} (hx : x < 8) (h : Keeps Y s₀ s) : Keeps Y s₀ (decBacklog x s) :=
  h.setF (by unfold aside DEC_CSTS; omega)

theorem Keeps.decOverload {x : Nat} (hx : x < 8) (h : Keeps Y s₀ s) : Keeps Y s₀ (decOverload x s) := by
  unfold Machine.decOverload
  exact Keeps.decBacklog hx <| Keeps.setCtx <| Keeps.forEach (Keeps.markGroup <| Keeps.inc (Keeps.setF (h.setXst hx)
    (by unfold aside DEC_CSTS; omega)) (by unfold aside DEC_OVL_CNT; omega)) fun _ _ _ h => h.emitRec

theorem Keeps.sendItem {x rel q p : Nat} (h : Keeps Y s₀ s) : Keeps Y s₀ (sendItem x rel q p s) := by
  unfold Machine.sendItem
  dsimp only
  split
  · exact h.setCtx.send
  · exact h

theorem Keeps.clearMirror {x rel : Nat} (h : Keeps Y s₀ s) : Keeps Y s₀ (clearMirror x rel s) :=
  h.forEach fun _ _ _ h => h.sendItem

theorem lt_of_mem_decOf {s : State} {g x : Nat} (hx : x ∈ s.decOf g) : x < 8 := List.mem_range.mp (List.mem_of_mem_filter hx)

theorem Keeps.decAttemptStart {g o : Nat} (h : Keeps Y s₀ s) : Keeps Y s₀ (decAttemptStart g o s) :=
  h.forEach fun x hx _ h => by
    have hx : x < 8 := lt_of_mem_decOf hx
    refine Keeps.andThen (Keeps.ite ?_ ?_) fun k => (k.decOverload hx).ite (k.decBacklog hx)
    · exact ((h.when fun _ h => h.nextFree).setF (by unfold aside DEC_LAT; omega)).setCtx
    · exact ((h.when fun _ h => h.nextFree).setF (by unfold aside DEC_LAT; omega)).setCtx.setXst hx

theorem Keeps.decAbort {g : Nat} (h : Keeps Y s₀ s) : Keeps Y s₀ (decAbort g s) :=
  h.forEach fun _ hx _ h => (h.modCtx.clearMirror.modCtx.setXst (lt_of_mem_decOf hx)).decBacklog (lt_of_mem_decOf hx)

theorem Keeps.decArm {g : Nat} (h : Keeps Y s₀ s) : Keeps Y s₀ (decArm g s) := h.forEach fun _ _ _ h => h.modCtx

/-! #### Queues and links (chapters 15 and 16) -/

theorem Keeps.toHost {o : HostOut} (h : Keeps Y s₀ s) : Keeps Y s₀ (s.toHost o) := h.keep
theorem Keeps.fireVec {v : Nat} (h : Keeps Y s₀ s) : Keeps Y s₀ (fireVec v s) := (h.ite h.withHif).ite h.toHost
theorem Keeps.setQue {q : Nat} {x : Que} (h : Keeps Y s₀ s) : Keeps Y s₀ (s.setQue q x) := h.keep
theorem Keeps.modQue {q : Nat} {f : Que → Que} (h : Keeps Y s₀ s) : Keeps Y s₀ (s.modQue q f) := h.keep

theorem Keeps.ringWrite {q off : Nat} {bs : List (BitVec 8)} (h : Keeps Y s₀ s) : Keeps Y s₀ (ringWrite q off bs s) :=
  h.withCnv.ite h.toHost

theorem Keeps.writeBack {q i : Nat} (h : Keeps Y s₀ s) : Keeps Y s₀ (writeBack q i s) := h.ite h.toHost
theorem Keeps.qVisible {q n : Nat} (h : Keeps Y s₀ s) : Keeps Y s₀ (qVisible q n s) := h.setQue.fireVec.ite h.setQue

theorem Keeps.advanceCons {q n : Nat} (h : Keeps Y s₀ s) : Keeps Y s₀ (advanceCons q n s) := by
  induction n generalizing s with
  | zero => exact h
  | succ n ih =>
    unfold Machine.advanceCons
    dsimp only
    split
    · split
      · exact ih h.setQue.writeBack
      · exact h
    · exact h

theorem Keeps.descDone {q i code : Nat} (h : Keeps Y s₀ s) : Keeps Y s₀ (descDone q i code s) := by
  unfold Machine.descDone
  split
  · exact h
  · exact Keeps.andThen (Keeps.advanceCons (Keeps.modQue (h.ringWrite.ringWrite.changeSeg.ite h.ringWrite.ringWrite))) fun k =>
      k.modQue.fireVec.ite k.qVisible

theorem Keeps.dmaLinkDown {l : Nat} (h : Keeps Y s₀ s) : Keeps Y s₀ (dmaLinkDown l s) :=
  h.forEach fun _ _ _ h => h.forEach fun _ _ _ h => h.descDone

theorem Keeps.dmaAbortAll {code : Nat} (h : Keeps Y s₀ s) : Keeps Y s₀ (dmaAbortAll code s) :=
  h.forEach fun _ _ _ h => h.forEach fun _ _ _ h => h.descDone

theorem Keeps.inSeg {i : XferIn} {v : SegState} (h : Keeps Y s₀ s) : Keeps Y s₀ (inSeg i v s) := h.changeSeg.ite h
theorem Keeps.insDrop {l : Nat} (h : Keeps Y s₀ s) : Keeps Y s₀ (insDrop l s) := (h.forEach fun _ _ _ h => h.inSeg).withHif
theorem Keeps.setLink {l : Nat} {x : OzlLink} (h : Keeps Y s₀ s) : Keeps Y s₀ (s.setLink l x) := h.keep

theorem Keeps.modStay {f : StayS → StayS} (h : Keeps Y s₀ s) : Keeps Y s₀ (s.modStay f) := h.keep

theorem Keeps.linkTimeReset {l : Nat} (hl : l < 6) (h : Keeps Y s₀ s) : Keeps Y s₀ (linkTimeReset l s) :=
  h.modStay.setF (by unfold aside STAY_LNK_STS; omega)

theorem Keeps.setLst {l v : Nat} (hl : l < 6) (h : Keeps Y s₀ s) : Keeps Y s₀ (s.setLst l v) :=
  (h.setF (by unfold aside OZL_STS; omega)).setF (by unfold aside OZL_GSTS; omega)

theorem Keeps.setLanes {l v : Nat} (hl : l < 6) (h : Keeps Y s₀ s) : Keeps Y s₀ (s.setLanes l v) :=
  h.forEach fun i hi _ h => by
    have hi : i < 4 := List.mem_range.mp hi
    exact h.setF (by unfold aside OZL_LSTS; omega)

theorem Keeps.lClear {l : Nat} (hl : l < 6) (h : Keeps Y s₀ s) : Keeps Y s₀ (lClear l s) := by
  have hsts : aside (OZL_STS l) := by unfold aside OZL_STS; omega
  have hpm : aside (OZL_PMSTS l) := by unfold aside OZL_PMSTS; omega
  have hpeer : aside (OZL_PEER l) := by unfold aside OZL_PEER; omega
  unfold Machine.lClear
  extract_lets _ _ _ _ s₁ _ _ s₂ s₃ s₄
  have h₂ : Keeps Y s₀ s₂ := h.dmaLinkDown.insDrop.setLink.withCnvDec
  have h₃ : Keeps Y s₀ s₃ := ((h₂.setF hsts).setF hsts).setF hsts
  have h₄ : Keeps Y s₀ s₄ := (h₃.setF hpm).setF hpm
  exact (h₄.setF hpeer).linkTimeReset hl

theorem Keeps.linkDown {l : Nat} (hl : l < 6) (h : Keeps Y s₀ s) : Keeps Y s₀ (linkDown l s) :=
  h.ite <| Keeps.report <| Keeps.setF ((((h.lClear hl).setLst hl).setLanes hl).inc (by unfold aside OZL_DOWN_CNT; omega))
    (by unfold aside OZL_STS; omega)

theorem Keeps.linksDevice (h : Keeps Y s₀ s) : Keeps Y s₀ (linksDevice s) :=
  h.forEach fun l hl _ h => by
    have hl : l < 6 := List.mem_range.mp hl
    exact (h.ite (((h.lClear hl).setLst hl).setLanes hl)).ite <| Keeps.ite (Keeps.setLink ((h.setLst hl).setLanes hl)) h

end
end Sys2Proof.Laws
end

section
namespace Sys2Proof.Laws
open Sys2Proof.Machine

-- One theorem after another: a thread for each of them passes the memory limit of the check.
set_option Elab.async false

/-! ### What keeps the device state

`SameMode s t` says that `t` reads GLB_STATE and TRIM_STS as `s` does. Its lemmas cover what an entry into SAFE, CONFIG, CAL or READY does once
the new state is set; what `Keeps` covers already is taken from there (`SameMode.via`). -/

structure SameMode (s t : State) : Prop where
  state : t.rd GLB_STATE = s.rd GLB_STATE
  trim : t.rd TRIM_STS = s.rd TRIM_STS

theorem SameMode.rfl {s : State} : SameMode s s := ⟨Eq.refl _, Eq.refl _⟩

theorem SameMode.trans {s t u : State} (h : SameMode s t) (k : SameMode t u) : SameMode s u :=
  ⟨k.state.trans h.state, k.trim.trans h.trim⟩

theorem SameMode.dev {s t : State} (h : SameMode s t) : t.dev = s.dev := congrArg (getF · GLB_STATE_STATE) h.state

section
variable {s₀ s : State}

/-- A stretch that keeps every global register. -/
theorem SameMode.via {t : State} (h : SameMode s₀ s) (k : Keeps (fun _ => False) s t) : SameMode s₀ t :=
  h.trans ⟨k.low _ (by decide), k.low _ (by decide)⟩

theorem SameMode.ite {t : State} (hs : SameMode s₀ s) (ht : SameMode s₀ t) {c : Prop} {d : Decidable c} :
    SameMode s₀ (if c then s else t) := by
  split
  · exact hs
  · exact ht

/-- A state that is used more than once is dealt with once. -/
theorem SameMode.andThen {t : State} (h : SameMode s₀ s) (k : SameMode s₀ s → SameMode s₀ t) : SameMode s₀ t := k h

theorem SameMode.forEach {α : Type} {xs : List α} {f : α → State → State} (h : SameMode s₀ s)
    (hf : ∀ x ∈ xs, ∀ t, SameMode s₀ t → SameMode s₀ (f x t)) : SameMode s₀ (forEach xs s f) := forEach_induct h hf

theorem SameMode.keep {t : State} (h : SameMode s₀ s) (hr : t.regs = s.regs := by rfl) : SameMode s₀ t :=
  h.trans ⟨congrArg (sget resetVal · GLB_STATE) hr, congrArg (sget resetVal · TRIM_STS) hr⟩

theorem SameMode.wrNe {a : Nat} {v : Word} (h : SameMode s₀ s) (ha : a ≠ 0x8000 ∧ a ≠ 0x300008) : SameMode s₀ (s.wr a v) :=
  h.trans ⟨rd_wr_ne s a _ v (Ne.symm ha.1), rd_wr_ne s a _ v (Ne.symm ha.2)⟩

theorem SameMode.wr {a : Nat} {v : Word} (h : SameMode s₀ s) (ha : 0x400000 ≤ a) : SameMode s₀ (s.wr a v) := h.wrNe (by omega)
theorem SameMode.setF {a : Nat} {f : Fld} {n : Nat} (h : SameMode s₀ s) (ha : 0x400000 ≤ a) : SameMode s₀ (s.setF a f n) := h.wr ha
theorem SameMode.wrN {a n : Nat} (h : SameMode s₀ s) (ha : 0x400000 ≤ a) : SameMode s₀ (s.wrN a n) := h.wr ha
theorem SameMode.inc {a : Nat} (h : SameMode s₀ s) (ha : 0x400000 ≤ a) : SameMode s₀ (s.inc a) := h.wr ha
theorem SameMode.status {a c : Nat} (h : SameMode s₀ s) (ha : 0x400000 ≤ a) : SameMode s₀ (s.status a c) := h.wr ha
theorem SameMode.modMast {y : Nat} {f : Mast → Mast} (h : SameMode s₀ s) : SameMode s₀ (s.modMast y f) := h.keep
theorem SameMode.modGrp {g : Nat} {f : Group → Group} (h : SameMode s₀ s) : SameMode s₀ (s.modGrp g f) := h.keep
theorem SameMode.withCnv {v : Cnv} (h : SameMode s₀ s) : SameMode s₀ { s with cnv := v } := h.keep
theorem SameMode.withTon {v : Ton} (h : SameMode s₀ s) : SameMode s₀ { s with ton := v } := h.keep
theorem SameMode.withBus {v : Bus} (h : SameMode s₀ s) : SameMode s₀ { s with bus := v } := h.keep
theorem SameMode.withFlt {v : FltS} (h : SameMode s₀ s) : SameMode s₀ { s with flt := v } := h.keep

/-! #### Outputs: markers, tones, flux and bias -/

theorem SameMode.markersCut (h : SameMode s₀ s) : SameMode s₀ (markersCut s) := h.forEach fun _ _ _ h => h.keep

theorem SameMode.hoDiscard {y : Nat} (h : SameMode s₀ s) : SameMode s₀ (hoDiscard y s) :=
  ((h.withTon.setF (by unfold TON_HO_STS; omega)).status (by unfold TON_HO_STS; omega)).ite h

theorem SameMode.fluxClear {y : Nat} (h : SameMode s₀ s) : SameMode s₀ (fluxClear y s) := h.forEach fun _ _ _ h => h.keep

theorem SameMode.fluxStates {y : Nat} (h : SameMode s₀ s) : SameMode s₀ (fluxStates y s) :=
  h.forEach fun _ _ _ h => h.setF (by unfold FLX_STS; omega)

theorem SameMode.biaRefresh {y : Nat} (h : SameMode s₀ s) : SameMode s₀ (biaRefresh y s) :=
  (h.setF (by unfold BIA_STS; omega)).setF (by unfold BIA_STS; omega)

theorem SameMode.feed {out : Nat} {code : Int} {pin : Nat} (h : SameMode s₀ s) : SameMode s₀ (feed out code pin s) := h.ite h.withTon

theorem SameMode.biaZero {y : Nat} (h : SameMode s₀ s) : SameMode s₀ (biaZero y s) :=
  (h.wrN (by unfold BIA_ACT; omega)).feed.withTon.biaRefresh

/-! #### Converters, windows and demodulation -/

theorem le_convPage (r : Nat) : 0x2000000 ≤ convPage r := by
  unfold convPage CNV_CFG MON_CTL
  split
  · omega
  · omega

theorem SameMode.adcReady (h : SameMode s₀ s) : SameMode s₀ (adcReady s) :=
  h.forEach fun k _ _ h => by
    have hk := le_convPage k
    exact h.ite (SameMode.setF (SameMode.keep h) (by omega))

theorem SameMode.monRefresh {m : Nat} (h : SameMode s₀ s) : SameMode s₀ (monRefresh m s) := by
  have hm := le_convPage (32 + m)
  exact ((h.setF (by unfold monSTS; omega)).setF (by omega)).setF (by omega)

theorem SameMode.monOn (h : SameMode s₀ s) : SameMode s₀ (monOn s) := h.forEach fun _ _ _ h => h.monRefresh

theorem SameMode.injTell {i : Inj} {f : Svc → Svc} (h : SameMode s₀ s) : SameMode s₀ (injTell i f s) := by
  unfold Machine.injTell
  split
  · exact h.keep
  · exact h

theorem SameMode.injEnd {m : Nat} {i : Inj} (h : SameMode s₀ s) : SameMode s₀ (injEnd m i s) := by
  have hm := le_convPage (32 + m)
  unfold Machine.injEnd
  split
  · exact h.status (by unfold STAY_TMR_STS; omega)
  · exact h.injTell.ite (h.status (by unfold monSTS; omega))

theorem SameMode.monOff (h : SameMode s₀ s) : SameMode s₀ (monOff s) :=
  h.forEach fun m _ _ h => by
    have hm := le_convPage (32 + m)
    exact SameMode.monRefresh <| SameMode.setF (SameMode.withCnv <| h.forEach fun _ _ _ h => h.injEnd) (by unfold monCTL; omega)

theorem SameMode.acqRefresh {y c : Nat} (h : SameMode s₀ s) : SameMode s₀ (acqRefresh y c s) :=
  (h.setF (by unfold CNV_ACQ_STS; omega)).setF (by unfold DSC_STS; omega)

theorem SameMode.modDem {y c : Nat} {f : Dem → Dem} (h : SameMode s₀ s) : SameMode s₀ (s.modDem y c f) := h.keep
theorem SameMode.endWins {y c : Nat} {p : Win → Bool} (h : SameMode s₀ s) : SameMode s₀ (endWins y c p s) := h.withCnv.modDem.acqRefresh

theorem SameMode.acqClear {y : Nat} (h : SameMode s₀ s) : SameMode s₀ (acqClear y s) :=
  h.forEach fun _ _ _ h => (h.setF (by unfold CNV_ACQ_CTL; omega)).endWins

theorem SameMode.setCst {y c v : Nat} (h : SameMode s₀ s) : SameMode s₀ (s.setCst y c v) := h.setF (by unfold DEM_STS; omega)

theorem SameMode.demStopAll {y : Nat} (h : SameMode s₀ s) : SameMode s₀ (demStopAll y s) :=
  h.forEach fun c _ _ h => by
    have hsts : 0x400000 ≤ DEM_STS y c := by unfold DEM_STS; omega
    exact (((h.setF hsts).setF hsts).setF hsts).endWins.modDem.andThen fun k => (k.setCst.ite k.setCst).acqRefresh

theorem SameMode.demStartAll {y : Nat} (h : SameMode s₀ s) : SameMode s₀ (demStartAll y s) :=
  h.forEach fun c _ t h => by
    have k : SameMode s₀ (demEnable y c t) := (h.setCst.ite h).ite h.setCst
    exact k.setCst.modDem.modDem.ite k

theorem SameMode.slotClearAll (h : SameMode s₀ s) : SameMode s₀ (slotClearAll s) :=
  h.forEach fun _ _ _ h => (h.wrN (by unfold SHT_SLOT; omega)).withCnv

/-! #### Microcode, decoder, Winch, capture, Furler and links -/

theorem SameMode.ucBodyFail {y code : Nat} (h : SameMode s₀ s) : SameMode s₀ (ucBodyFail y code s) := by
  have hsts : 0x400000 ≤ UC_STS y := by unfold UC_STS; omega
  have hver : 0x400000 ≤ UC_VER y := by unfold UC_VER; omega
  unfold Machine.ucBodyFail
  exact (((h.status hsts).setF hsts).setF hver).modMast

theorem SameMode.ucAbortLoad {y : Nat} (h : SameMode s₀ s) : SameMode s₀ (ucAbortLoad y s) := by
  have hsts : 0x400000 ≤ UC_STS y := by unfold UC_STS; omega
  unfold Machine.ucAbortLoad
  split
  · exact h
  · exact h.ucBodyFail.ite ((h.status hsts).setF hsts).modMast

theorem SameMode.modCtx {x : Nat} {f : DCtx → DCtx} (h : SameMode s₀ s) : SameMode s₀ (s.modCtx x f) := h.keep

theorem SameMode.decSafe (h : SameMode s₀ s) : SameMode s₀ (decSafe s) :=
  h.forEach fun _ _ _ h => (h.modCtx.modCtx.setF (by unfold DEC_CSTS; omega)).setF (by unfold DEC_CSTS; omega)

theorem SameMode.setCore {x : Nat} {c : Core} (h : SameMode s₀ s) : SameMode s₀ (s.setCore x c) := h.keep

theorem SameMode.svcDisturb {g code : Nat} (h : SameMode s₀ s) : SameMode s₀ (svcDisturb g code s) := by
  unfold Machine.svcDisturb
  split
  · exact h.setCore
  · exact h

theorem SameMode.svcEnd {x code : Nat} (h : SameMode s₀ s) : SameMode s₀ (svcEnd x code s) := by
  unfold Machine.svcEnd
  split
  · have k := h.setCore (x := x) (c := { s.core x with svc := none })
    exact (SameMode.withBus ((k.wr (by decide)).modGrp.ite k)).inc (by unfold WCH_SVC_CNT; omega)
  · exact h

theorem SameMode.wStopAll (h : SameMode s₀ s) : SameMode s₀ (wStopAll s) :=
  h.forEach fun _ _ _ h => h.ite
    ((h.svcEnd.setF (by unfold WCH_CTL; omega)).setF (by unfold WCH_CSTS; omega)).setCore

theorem SameMode.cnsCloseAll {why : Nat} (h : SameMode s₀ s) : SameMode s₀ (cnsCloseAll why s) :=
  h.forEach fun c _ t h => by
    have k := h.setF (a := CNS_CTL c) (f := CNS_CTL_ARM) (n := 0) (by unfold CNS_CTL; omega)
    exact k.ite ((SameMode.keep k).ite (k.setF (by unfold CNS_STS; omega)))

theorem SameMode.setFctx {x : Nat} {v : FCtx} (h : SameMode s₀ s) : SameMode s₀ (s.setFctx x v) := h.keep

theorem SameMode.setCtxSt {x v : Nat} (h : SameMode s₀ s) : SameMode s₀ (s.setCtxSt x v) :=
  (h.setF (by unfold FRL_CTXS; omega)).setF (by unfold FRL_CTXS; omega)

theorem SameMode.setFjob {e : Nat} {v : Option FJob} (h : SameMode s₀ s) : SameMode s₀ (s.setFjob e v) := h.keep

theorem SameMode.frlEnd {e code xs : Nat} (h : SameMode s₀ s) : SameMode s₀ (frlEnd e code xs s) := by
  have hsts : 0x400000 ≤ FRL_STS e := by unfold FRL_STS; omega
  unfold Machine.frlEnd
  split
  · exact h
  · exact (((((h.setFctx.ite h).setCtxSt.wrN (by unfold FRL_CONSUMED; omega)).wrN (by unfold FRL_PRODUCED; omega)).wrN
      (by unfold FRL_CRC; omega)).setFjob.status hsts).setF hsts

theorem SameMode.frlSafe (h : SameMode s₀ s) : SameMode s₀ (frlSafe s) :=
  (h.forEach fun _ _ _ h => (h.frlEnd.ite (h.status (by unfold FRL_STS; omega))).ite h).forEach
    fun _ _ _ h => h.setFctx.setCtxSt

theorem SameMode.linksDown (h : SameMode s₀ s) : SameMode s₀ (linksDown s) :=
  h.forEach fun _ hl _ h => h.via (Keeps.rfl.linkDown (List.mem_range.mp hl))

theorem SameMode.linksDevice (h : SameMode s₀ s) : SameMode s₀ (linksDevice s) := h.via Keeps.rfl.linksDevice
theorem SameMode.dmaAbortAll {code : Nat} (h : SameMode s₀ s) : SameMode s₀ (dmaAbortAll code s) := h.via Keeps.rfl.dmaAbortAll

/-! #### The stop of the groups -/

theorem SameMode.setLsgF {g n : Nat} {f : Fld} (hg : g < 64) (h : SameMode s₀ s) : SameMode s₀ (s.setF (GLB_LSG_STAT g) f n) :=
  h.wrNe (by unfold GLB_LSG_STAT; omega)

theorem SameMode.groupClear {g : Nat} (hg : g < 64) (h : SameMode s₀ s) : SameMode s₀ (groupClear g s) :=
  SameMode.withFlt (SameMode.modGrp (SameMode.setLsgF hg (SameMode.modGrp (h.withBus.withBus))))

theorem SameMode.dropShotRecs {g : Nat} (h : SameMode s₀ s) : SameMode s₀ (s.dropShotRecs g) :=
  (h.forEach fun _ _ _ h => h.modMast).withBus

theorem SameMode.yardCut {y a : Nat} (h : SameMode s₀ s) : SameMode s₀ (yardCut y a s) :=
  h.via (Keeps.rfl.withBus.withBus.withTon.halIdle.strAbort.acqAbort.withdrawFormed.markerCut)

theorem SameMode.mastAbort {y : Nat} (h : SameMode s₀ s) : SameMode s₀ (mastAbort y s) := by
  have hsts : 0x400000 ≤ SEQ_STS y := by unfold SEQ_STS; omega
  unfold Machine.mastAbort
  exact ((h.setF hsts).setF hsts).modMast

theorem SameMode.groupAbort {g a : Nat} (hg : g < 64) (h : SameMode s₀ s) : SameMode s₀ (groupAbort g a s) :=
  (h.groupClear hg).svcDisturb.andThen fun k => k.ite <| SameMode.setLsgF hg <| SameMode.modGrp <|
    ((k.ite k.dropShotRecs).forEach fun _ _ _ h => h.yardCut.mastAbort).via Keeps.rfl.decAbort

/-! #### The fault log -/

theorem SameMode.putLog {i code cls src inst time : Nat} (h : SameMode s₀ s) : SameMode s₀ (putLog i code cls src inst time s) := by
  have hlog (e w : Nat) : 0x400000 ≤ FLT_LOG e w := by unfold FLT_LOG; omega
  exact (((h.wrN (hlog ..)).wrN (hlog ..)).wrN (hlog ..)).wrN (hlog ..)

theorem SameMode.logIrq {cls : Nat} (h : SameMode s₀ s) : SameMode s₀ (logIrq cls s) := (h.via Keeps.rfl.fireVec).ite h

theorem SameMode.logReport {code src inst : Nat} {program : Bool} (h : SameMode s₀ s) : SameMode s₀ (logReport code program src inst s) := by
  have hcnt (c : Nat) : 0x400000 ≤ FLT_CNT c := by unfold FLT_CNT; omega
  unfold Machine.logReport
  dsimp only
  split
  · exact (h.inc (hcnt _)).setF (by unfold FLT_LOG; omega)
  · exact (((h.inc (hcnt _)).setF (by decide)).ite (h.inc (hcnt _))).andThen fun k =>
      (k.putLog.setF (by decide)).logIrq.ite <| ((k.inc (by decide)).setF (by decide)).andThen fun l => l.putLog.logIrq.ite l

end

/-! ### The device states (Tables 1-9, 1-10) -/

theorem dev_setDev (s : State) (d : Nat) : (s.setDev d).dev = d % 8 := fld_setF _ _ _ _ (by decide)

theorem dev_enterConfig (s : State) : (enterConfig s).dev = dCONFIG := by
  have h : SameMode (s.setDev dCONFIG) (enterConfig s) :=
    (SameMode.rfl.monOff.wStopAll.markersCut.forEach fun _ _ _ h => h.fluxClear.fluxStates.biaZero.demStopAll).linksDevice
  exact h.dev.trans (dev_setDev s dCONFIG)

theorem dev_enterReady (s : State) : (enterReady s).dev = dREADY := by
  have h : SameMode (s.setDev dREADY) (enterReady s) :=
    (SameMode.rfl.adcReady.forEach fun _ _ _ h => h.biaRefresh.fluxStates).linksDevice
  exact h.dev.trans (dev_setDev s dREADY)

/-- Entry into READY leaves Trim's status as it was. -/
theorem fld_trimSts_enterReady (s : State) (f : Fld) : (enterReady s).fld TRIM_STS f = s.fld TRIM_STS f := by
  have h : SameMode (s.setDev dREADY) (enterReady s) :=
    (SameMode.rfl.adcReady.forEach fun _ _ _ h => h.biaRefresh.fluxStates).linksDevice
  have hset : (s.setDev dREADY).rd TRIM_STS = s.rd TRIM_STS := rd_setF_ne _ _ _ _ _ (by decide)
  exact congrArg (getF · f) (h.trim.trans hset)

theorem enterCal_spec (s : State) : (enterCal s).dev = dCAL ∧ (enterCal s).fld TRIM_STS TRIM_STS_FG_RUN = 1 := by
  let u : State := monOn (forEach allYards (markersCut (wStopAll (s.setDev dCAL))) fun y s =>
    demStartAll y (biaZero y (fluxStates y (fluxClear y s))))
  let v : State := trimStatus 0 (u.setF TRIM_STS TRIM_STS_FG_RUN 1)
  have hu : SameMode (s.setDev dCAL) u :=
    (SameMode.rfl.wStopAll.markersCut.forEach fun _ _ _ h => h.fluxClear.fluxStates.biaZero.demStartAll).monOn
  have hv : SameMode v (enterCal s) := SameMode.rfl.linksDevice
  refine ⟨hv.dev.trans ?_, (congrArg (getF · TRIM_STS_FG_RUN) hv.trim).trans ?_⟩
  · exact (fld_setF_ne _ _ _ _ _ _ (by decide)).trans <| (fld_setF_ne _ _ _ _ _ _ (by decide)).trans <| hu.dev.trans (dev_setDev s dCAL)
  · exact (fld_setF_beside _ _ _ _ _ (by decide) (by decide) (by decide)).trans (fld_setF u _ _ _ (by decide))

/-- Entry into SAFE sets the state and its cause, and nothing that follows writes GLB_STATE. -/
theorem enterSafe_spec {s : State} (hs : s.dev ≠ dOFF) (code : Nat) :
    (enterSafe code s).dev = dSAFE ∧ (enterSafe code s).fld GLB_STATE GLB_STATE_SAFE_STATUS = code % 2 ^ 16 := by
  let u : State := ((imgSafe (trimSafe s)).setDev dSAFE).setF GLB_STATE GLB_STATE_SAFE_STATUS code
  have h : SameMode u (enterSafe code s) := by
    unfold enterSafe
    rw [if_neg hs]
    extract_lets a s₁ s₂ s₃ timed s₄ s₅ s₆
    have h₃ : SameMode u s₃ := SameMode.rfl.forEach fun _ hg _ h => h.groupAbort (List.mem_range.mp hg)
    have h₅ : SameMode u s₅ := h₃.withBus.withBus.forEach fun _ _ _ h =>
      SameMode.biaRefresh (SameMode.hoDiscard (h.fluxClear.fluxStates.acqClear.demStopAll.ucAbortLoad.via Keeps.rfl.halIdle))
    exact h₅.withCnv.markersCut.slotClearAll.decSafe.monOff.wStopAll.cnsCloseAll.frlSafe.dmaAbortAll.linksDown.linksDevice
  refine ⟨h.dev.trans ?_, (congrArg (getF · GLB_STATE_SAFE_STATUS) h.state).trans ?_⟩
  · exact (fld_setF_beside _ _ _ _ _ (by decide) (by decide) (by decide)).trans (dev_setDev _ dSAFE)
  · exact fld_setF _ _ _ _ (by decide)

theorem goSafe_spec {s : State} (hs : s.dev ≠ dOFF) :
    (goSafe s).dev = dSAFE ∧ (goSafe s).fld GLB_STATE GLB_STATE_SAFE_STATUS = E_FLT_GO_SAFE := by
  have hlog : (logReport E_FLT_GO_SAFE false islHost 0 (stateStatus 0 s)).dev = s.dev :=
    SameMode.dev (SameMode.logReport (SameMode.rfl.wrNe (by decide)))
  exact enterSafe_spec (hlog ▸ hs) E_FLT_GO_SAFE

theorem onlyRegs_stateStatus (s : State) (code : Nat) : s.onlyRegs (stateStatus code s) [GLB_CMD_STS] := onlyRegs_wr ..

theorem fld_stateStatus (s : State) : (stateStatus E_GLB_DEV_STATE s).fld GLB_CMD_STS GLB_CMD_STS_STATE_STATUS = E_GLB_DEV_STATE :=
  fld_setF _ _ _ _ (by decide)

/-- The device answers, so it is not OFF (R620). -/
theorem dev_ne_off_of_opens {s : State} {a : Nat} (hs : s.opens a) : s.dev ≠ dOFF := by
  obtain ⟨hbar, -, -, -⟩ := hs
  intro hoff
  simp [State.barUp, hoff, dOFF, dCONFIG] at hbar

end Sys2Proof.Laws
end

section
namespace Sys2Proof.Laws
open Sys2Proof.Machine

-- One theorem after another: a thread for each of them passes the memory limit of the check.
set_option Elab.async false

/-! ### States of groups and Masts -/

theorem gst_setGst {s : State} {g v : Nat} (hv : v < 8) : (s.setGst g v).gst g = v :=
  (fld_setF _ _ _ _ (by decide)).trans (Nat.mod_eq_of_lt hv)

theorem mst_setMst {s : State} {y v : Nat} (hv : v < 16) : (s.setMst y v).mst y = v :=
  (fld_setF _ _ _ _ (by decide)).trans (Nat.mod_eq_of_lt hv)

theorem mst_setMst_ne {s : State} {y z : Nat} (v : Nat) (h : z ≠ y) : (s.setMst y v).mst z = s.mst z :=
  fld_setF_ne _ _ _ _ _ _ (by unfold SEQ_STS; omega)

theorem gst_setMst {s : State} {g : Nat} (hg : g < 64) (y v : Nat) : (s.setMst y v).gst g = s.gst g :=
  fld_setF_ne _ _ _ _ _ _ (by unfold GLB_LSG_STAT SEQ_STS; omega)

theorem mst_setGst {s : State} {g : Nat} (hg : g < 64) (y v : Nat) : (s.setGst g v).mst y = s.mst y :=
  fld_setF_ne _ _ _ _ _ _ (by unfold GLB_LSG_STAT SEQ_STS; omega)

theorem nodup_members (s : State) (g : Nat) : (s.members g).Nodup := List.nodup_range.filter _

theorem groupOf_lt (s : State) (y : Nat) : s.groupOf y < 64 := Nat.mod_lt _ (by decide)

/-! ### Stretches that change registers only -/

theorem onlyRegs_rfl (s : State) (as : List Nat) : s.onlyRegs s as := ⟨rfl, fun _ _ => rfl⟩

theorem onlyRegs_trans {s t u : State} {as bs cs : List Nat} (h : s.onlyRegs t as) (k : t.onlyRegs u bs) (has : as ⊆ cs) (hbs : bs ⊆ cs) :
    s.onlyRegs u cs := by
  obtain ⟨hst, hrd⟩ := h
  obtain ⟨ktu, krd⟩ := k
  refine ⟨?_, fun a ha => (krd a fun hb => ha (hbs hb)).trans (hrd a fun hb => ha (has hb))⟩
  exact (congrArg (fun x : State => { x with regs := s.regs }) ktu).trans hst

theorem onlyRegs_setF (s : State) (a : Nat) (f : Fld) (n : Nat) : s.onlyRegs (s.setF a f n) [a] := onlyRegs_wr ..

/-- READY and RUN following the groups is a write of GLB_STATE. -/
theorem onlyRegs_devRefresh (s : State) : s.onlyRegs (devRefresh s) [GLB_STATE] := by
  unfold devRefresh
  split
  · exact onlyRegs_setF ..
  · exact onlyRegs_rfl ..

theorem fld_of_onlyRegs {s t : State} {as : List Nat} (h : s.onlyRegs t as) {a : Nat} (ha : a ∉ as) (f : Fld) : t.fld a f = s.fld a f :=
  congrArg (getF · f) (h.2 a ha)

theorem gst_devRefresh (s : State) (g : Nat) : (devRefresh s).gst g = s.gst g :=
  fld_of_onlyRegs (onlyRegs_devRefresh s) (by simp [GLB_LSG_STAT, GLB_STATE]; omega) _

theorem mst_devRefresh (s : State) (y : Nat) : (devRefresh s).mst y = s.mst y :=
  fld_of_onlyRegs (onlyRegs_devRefresh s) (by simp [SEQ_STS, GLB_STATE]; omega) _

/-! ### MAST_STOP_COMPLETE (Table 3-10) -/

theorem mastStopped_of_stopping {s : State} {y : Nat} (hm : s.mst y = mSTOPPING) (hg : s.gst (s.groupOf y) = gABORTING)
    (hout : (s.mast y).outRes = 0) (ht : s.tb1Run = false ∨ (s.grp (s.groupOf y)).lastEnd + 256 ≤ s.clock.tb1) :
    mastStopped y s = groupSettle (s.groupOf y) (s.setMst y mIDLE) := by
  have ht' : ¬ s.tb1Run = true ∨ (s.grp (s.groupOf y)).lastEnd + 16 * ft ≤ s.clock.tb1 := ht.imp_left (by simp)
  exact if_pos ⟨hm, hg, hout, ht'⟩

/-- A group leaves ABORTING with its last member, unless a commit holds it. -/
theorem groupSettle_spec {s : State} {g : Nat} (hg : s.gst g = gABORTING) (hc : s.img.commit = none) :
    (groupSettle g s).gst g = (if ∀ z ∈ s.members g, s.mst z = mIDLE then gIDLE else gABORTING)
      ∧ (∀ y, g < 64 → (groupSettle g s).mst y = s.mst y) ∧ s.onlyRegs (groupSettle g s) [GLB_LSG_STAT g, GLB_STATE] := by
  unfold groupSettle
  by_cases hall : ∀ z ∈ s.members g, s.mst z = mIDLE
  · rw [if_pos (by simpa [hg, hc] using hall), if_pos hall]
    refine ⟨(gst_devRefresh ..).trans (gst_setGst (by decide)), fun y hg => (mst_devRefresh ..).trans (mst_setGst hg ..), ?_⟩
    exact onlyRegs_trans (onlyRegs_setF ..) (onlyRegs_devRefresh _) (by simp) (by simp)
  · rw [if_neg (by simpa [hg, hc] using hall), if_neg hall]
    exact ⟨hg, fun _ _ => rfl, onlyRegs_rfl ..⟩

theorem mastStopComplete_spec {s : State} {y : Nat} (hm : s.mst y = mSTOPPING) (hg : s.gst (s.groupOf y) = gABORTING)
    (hout : (s.mast y).outRes = 0) (ht : s.tb1Run = false ∨ (s.grp (s.groupOf y)).lastEnd + 256 ≤ s.clock.tb1)
    (hc : s.img.commit = none) :
    (mastStopped y s).mst y = mIDLE
      ∧ (mastStopped y s).gst (s.groupOf y)
          = (if ∀ z ∈ s.members (s.groupOf y), z ≠ y → s.mst z = mIDLE then gIDLE else gABORTING)
      ∧ s.onlyRegs (mastStopped y s) [SEQ_STS y, GLB_LSG_STAT (s.groupOf y), GLB_STATE] := by
  have hlt := groupOf_lt s y
  have hidle : (s.setMst y mIDLE).mst y = mIDLE := mst_setMst (by decide)
  have hg' : (s.setMst y mIDLE).gst (s.groupOf y) = gABORTING := (gst_setMst hlt ..).trans hg
  have hall : (∀ z ∈ s.members (s.groupOf y), (s.setMst y mIDLE).mst z = mIDLE)
      ↔ ∀ z ∈ s.members (s.groupOf y), z ≠ y → s.mst z = mIDLE := by
    refine forall₂_congr fun z _ => ?_
    by_cases hz : z = y
    · simp [hz, hidle]
    · simp [hz, mst_setMst_ne]
  obtain ⟨hgst, hmst, hregs⟩ := groupSettle_spec hg' hc
  rw [mastStopped_of_stopping hm hg hout ht]
  refine ⟨(hmst y hlt).trans hidle, hgst.trans (if_congr hall rfl rfl), ?_⟩
  exact onlyRegs_trans (onlyRegs_setF ..) hregs (by simp) (by simp)

/-! ### The device state commands (R55, R56, Table 1-10) -/

theorem exec_goSafe {s : State} (hs : s.opens GLB_STATE_CMD) : exec .goSafe s = .next (goSafe s) :=
  congrArg Host.Outcome.next (hostWr_of_opens hs goSafe)

theorem exec_leaveSafe {s : State} (hs : s.opens GLB_STATE_CMD) : exec .leaveSafe s = .next (leaveSafe s) :=
  congrArg Host.Outcome.next (hostWr_of_opens hs leaveSafe)

theorem exec_recal {s : State} (hs : s.opens GLB_STATE_CMD) : exec .recal s = .next (recal s) :=
  congrArg Host.Outcome.next (hostWr_of_opens hs recal)

/-- Foreground calibration is over once its results stand. -/
theorem fgRun_calResults (bad : List (Nat × List Nat)) (s : State) : (calResults bad s).fld TRIM_STS TRIM_STS_FG_RUN = 0 :=
  (fld_setF_beside _ _ _ _ _ (by decide) (by decide) (by decide)).trans (fld_setF _ _ _ _ (by decide))

/-- Settles O5: each transition sets the device state first, and nothing that its entry goes on to do writes GLB_STATE (`SameMode`). -/
theorem deviceStateCommandsFollowTheTransitions : Obligations.DeviceStateCommandsFollowTheTransitions := by
  refine ⟨?_, ?_, ?_, ?_, ?_, ?_, ?_⟩
  · intro s hs
    exact ⟨_, exec_goSafe hs, goSafe_spec (dev_ne_off_of_opens hs)⟩
  · intro s hs hdev hcause
    exact ⟨_, exec_leaveSafe hs, by rw [leaveSafe, if_pos ⟨hdev, hcause⟩]; exact dev_enterConfig _⟩
  · intro s hs hno
    rw [exec_leaveSafe hs, leaveSafe, if_neg hno]
    exact ⟨_, rfl, fld_stateStatus s, onlyRegs_stateStatus ..⟩
  · intro s hs hdev
    rw [exec_recal hs, recal, if_pos hdev]
    exact ⟨_, rfl, enterCal_spec _⟩
  · intro s hs hdev
    rw [exec_recal hs, recal, if_neg hdev]
    exact ⟨_, rfl, fld_stateStatus s, onlyRegs_stateStatus ..⟩
  · intro s bad hdev
    have hexec : exec (.calComplete bad) s = .next (enterReady (calResults bad s)) := congrArg Host.Outcome.next (if_pos hdev)
    exact ⟨_, hexec, dev_enterReady _, (fld_trimSts_enterReady ..).trans (fgRun_calResults ..)⟩
  · rintro s y _ rfl hm hg hout ht hc -
    obtain ⟨hmst, hgst, hframe, hkeeps⟩ := mastStopComplete_spec hm hg hout ht hc
    exact ⟨_, rfl, hmst, hgst, hkeeps, hframe⟩

end Sys2Proof.Laws
end

section
namespace Sys2Proof.Laws
open Sys2Proof.Machine

-- One theorem after another: a thread for each of them passes the memory limit of the check.
set_option Elab.async false

/-! ### A group's pending command (R51) -/

theorem rd_setCmd_ne (s : State) (g c r src : Nat) {a : Nat} (h : a ≠ GLB_LSG_STAT g) : (s.setCmd g c r src).rd a = s.rd a := by
  unfold State.setCmd
  dsimp only
  split
  · exact rd_setF_ne _ _ _ _ _ h
  · exact rd_setF_ne _ _ _ _ _ h

theorem rd_setCmd_same (s : State) (g c r src : Nat) :
    (s.setCmd g c r src).rd (GLB_LSG_STAT g) = insF (s.rd (GLB_LSG_STAT g)) GLB_LSG_STAT_PENDING 1 := by
  unfold State.setCmd
  dsimp only
  split
  · exact rd_setF_same ..
  · exact rd_setF_same ..

theorem grp_setCmd (s : State) (g c r src h : Nat) :
    (s.setCmd g c r src).grp h = if h = g then { s.grp g with cmd := some ⟨c, r⟩ } else s.grp h := by
  unfold State.setCmd
  dsimp only
  split
  · simp
  · simp

/-- A command sent by another island is on its way to the hub in place of every other command of the group. -/
theorem setCmd_frame (s : State) (g c r : Nat) {src : Nat} (h : src ≠ islHub) :
    (s.setCmd g c r src).bus = { s.bus with
        held := s.bus.held.filter fun j => !j.groupCmd g
        transit := (s.bus.transit.filter fun j => !j.groupCmd g) ++ [⟨r, src, islHub, .ctrl, .group g c⟩] }
      ∧ (∀ y, (s.setCmd g c r src).mast y = s.mast y)
      ∧ { (s.setCmd g c r src) with regs := s.regs, seq := s.seq, bus := s.bus } = s := by
  unfold State.setCmd
  rw [if_neg h]
  exact ⟨rfl, fun _ => rfl, rfl⟩

/-! ### The check of a group command (R51 to R53, Table 1-8) -/

/-- The commands of Table 1-14 with their codes. -/
theorem exec_of_lsgInstr {g c : Nat} {i : Instr} {svc : Bool}
    (h : (c, i) ∈ [(1, Instr.lsgArm g svc), (2, .lsgStart g svc), (3, .lsgPause g svc), (4, .lsgResume g svc), (5, .lsgAbort g svc),
      (6, .lsgDisarm g svc)]) (s : State) : exec i s = .next (lsgCommand g c svc s) := by
  simp only [List.mem_cons, Prod.mk.injEq, List.not_mem_nil, or_false] at h
  obtain ⟨rfl, rfl⟩ | ⟨rfl, rfl⟩ | ⟨rfl, rfl⟩ | ⟨rfl, rfl⟩ | ⟨rfl, rfl⟩ | ⟨rfl, rfl⟩ := h
  all_goals rfl

/-- A group's state accepts a command (Table 1-8). -/
def lsgTakes (s : State) (g c : Nat) : Prop :=
  (c = 1 ∧ s.gst g = gIDLE ∧ s.armRefusal g = none) ∨ (c = 2 ∧ s.gst g = gARMED) ∨ (c = 3 ∧ s.gst g = gRUNNING) ∨ (c = 4 ∧ s.gst g = gPAUSED)
    ∨ (c = 5 ∧ s.gst g ≠ gABORTING) ∨ (c = 6 ∧ (s.gst g = gARMED ∨ s.gst g = gPAUSED))

theorem lsgValid_of_lsgTakes {s : State} {g c : Nat} (h : lsgTakes s g c) : lsgValid (s.gst g) c = true ∧ c ≠ 0 ∧ c ≠ 7 := by
  obtain ⟨rfl, h, -⟩ | ⟨rfl, h⟩ | ⟨rfl, h⟩ | ⟨rfl, h⟩ | ⟨rfl, h⟩ | ⟨rfl, h⟩ := h
  all_goals simp [lsgValid, h]

theorem armRefusal_of_lsgTakes {s : State} {g c : Nat} (h : lsgTakes s g c) : (if c = lcARM then s.armRefusal g else none) = none := by
  obtain ⟨-, -, h⟩ | ⟨rfl, -⟩ | ⟨rfl, -⟩ | ⟨rfl, -⟩ | ⟨rfl, -⟩ | ⟨rfl, -⟩ := h
  · simp [h]
  all_goals rfl

section
variable {s : State} {g c rel lead : Nat} (hm : s.members g ≠ []) (ht : s.tb1Run = true)
  (hfree : c ≠ 5 → (s.grp g).cmd = none ∧ s.gst g ≠ gRECONFIG) (hst : lsgTakes s g c) (hrel : rel = 0 ∨ s.tb1 + lead * ft ≤ rel)
include hm ht hfree hst hrel

theorem lsgCheck_of_accepted : s.lsgCheck g c rel lead = 0 := by
  obtain ⟨hvalid, hc0, hc7⟩ := lsgValid_of_lsgTakes hst
  have hbusy : ¬ (s.gst g = gRECONFIG ∧ c ≠ lcABORT) := fun h => (hfree h.2).2 h.1
  have hpend : ¬ ((s.grp g).cmd.isSome = true ∧ c ≠ lcABORT) := fun h => by simp [(hfree h.2).1] at h
  have hlead : ¬ (rel ≠ 0 ∧ rel < s.tb1 + lead * ft) := by omega
  simp [State.lsgCheck, hc0, hc7, hm, ht, hbusy, hpend, hvalid, hlead]

/-- A command that passes every check is sent. -/
theorem lsgStage_of_accepted (hdev : c = 1 ∨ c = 2 ∨ c = 4 → s.dev = dREADY ∨ s.dev = dRUN) :
    lsgStage g c rel lead s = (s.setCmd g c (s.lsgRel rel lead) (if lead = 160 then islHost else islWinch), 0) := by
  have hcheck := lsgCheck_of_accepted hm ht hfree hst hrel
  have hstart : ¬ (lcStarts c = true ∧ s.dev ≠ dREADY ∧ s.dev ≠ dRUN) := by
    rintro ⟨hc, hready, hrun⟩
    have hc' : c = 1 ∨ c = 2 ∨ c = 4 := by simpa [lcStarts, lcARM, lcSTART, lcRESUME, or_assoc] using hc
    exact (hdev hc').elim hready hrun
  simp only [lsgStage, lsgSend, hcheck, hstart, armRefusal_of_lsgTakes hst, if_false, ne_eq, not_true_eq_false]

end

/-- Host software writes GLB_LSG_CMD and no service holds the group. -/
theorem lsgCommand_of_host {s : State} {g c k : Nat} (hs : s.opens GLB_LSG_CMD) (hsvc : k = 0 → c = 5 ∨ (s.grp g).byService = none)
    {t : State} (h : lsgStage g c (s.rdN GLB_LSG_REL) 160 s = (t, k)) : lsgCommand g c false s = lsgStatus k t := by
  have hno : ¬ (k = 0 ∧ c ≠ lcABORT ∧ (s.grp g).byService.isSome = true) := by
    rintro ⟨hk, hc, hby⟩
    simp [(hsvc hk).resolve_left hc] at hby
  show hostWr GLB_LSG_CMD (lsgHost g c 160) s = _
  rw [hostWr_of_opens hs]
  simp only [lsgHost, h, hno, if_false]

theorem lsgCommand_of_service {s : State} {g c : Nat} (hsvc : (s.grp g).byService.isSome = true) {t : State}
    (h : lsgStage g c 0 40 s = (t, 0)) : lsgCommand g c true s = t := by
  have hno : ¬ (s.grp g).byService.isNone = true := by simpa [Option.isSome_iff_ne_none] using hsvc
  show lsgService g c s = t
  simp only [lsgService, h, hno, if_true]
  rfl

/-- The state in which a command is pending, with its status shown to host software. -/
theorem onlyRegs_lsgStatus (s : State) (k : Nat) : s.onlyRegs (lsgStatus k s) [GLB_CMD_STS] := onlyRegs_setF ..

theorem lsgStat_ne_cmdSts (g : Nat) : GLB_LSG_STAT g ≠ GLB_CMD_STS := by
  unfold GLB_LSG_STAT GLB_CMD_STS
  omega

/-- What an accepted command leaves: the command pending, its item on its way, and a status for host software. -/
theorem lsgCommand_spec {s : State} {g c lead : Nat} {svc : Bool}
    (hsend : if svc = true then (s.grp g).byService.isSome = true ∧ lead = s.tb1 + 640
      else s.opens GLB_LSG_CMD ∧ (c = 5 ∨ (s.grp g).byService = none) ∧ (s.rdN GLB_LSG_REL = 0 ∨ s.tb1 + 2560 ≤ s.rdN GLB_LSG_REL)
        ∧ lead = (if s.rdN GLB_LSG_REL = 0 then s.tb1 + 2560 else s.rdN GLB_LSG_REL))
    (hm : s.members g ≠ []) (ht : s.tb1Run = true) (hfree : c ≠ 5 → (s.grp g).cmd = none ∧ s.gst g ≠ gRECONFIG) (hst : lsgTakes s g c)
    (hdev : c = 1 ∨ c = 2 ∨ c = 4 → s.dev = dREADY ∨ s.dev = dRUN) :
    lsgCommand g c svc s = (if svc = true then s.setCmd g c (ceilFt lead) islWinch else lsgStatus 0 (s.setCmd g c (ceilFt lead) islHost)) := by
  cases svc with
  | true =>
    obtain ⟨hby, rfl⟩ := hsend
    exact lsgCommand_of_service hby (lsgStage_of_accepted hm ht hfree hst (.inl rfl) hdev)
  | false =>
    obtain ⟨hs, hby, hrel, rfl⟩ := hsend
    exact lsgCommand_of_host hs (fun _ => hby) (lsgStage_of_accepted hm ht hfree hst hrel hdev)

/-- R51's refusal: the group has a command pending. -/
theorem lsgStage_of_pending {s : State} {g c rel lead : Nat} (hc : c ≠ 0 ∧ c ≠ 5 ∧ c ≠ 7) (hm : s.members g ≠ []) (ht : s.tb1Run = true)
    (hcmd : (s.grp g).cmd ≠ none) : lsgStage g c rel lead s = (s, E_GLB_LSG_BUSY) := by
  obtain ⟨hc0, hc5, hc7⟩ := hc
  have hsome : (s.grp g).cmd.isSome = true := Option.isSome_iff_ne_none.mpr hcmd
  have hcheck : s.lsgCheck g c rel lead = E_GLB_LSG_BUSY := by
    simp [State.lsgCheck, hc0, hc7, hm, ht, hsome, show c ≠ lcABORT from hc5]
  have hne : E_GLB_LSG_BUSY ≠ 0 := by decide
  simp only [lsgStage, hcheck, hne, ne_eq, not_false_eq_true, if_true]

/-- Settles O1: an accepted command is `setCmd`, whose effect on each part of the state is one lemma; R51's refusal writes its status alone. -/
theorem groupCommandsArePendingUntilTheirRelease : Obligations.GroupCommandsArePendingUntilTheirRelease := by
  refine ⟨?_, ?_⟩
  · intro s g c i lead svc hi _ hsend hm ht hfree hst hdev
    rw [exec_of_lsgInstr hi, lsgCommand_spec hsend hm ht hfree hst hdev]
    cases svc with
    | true =>
      rw [if_pos rfl]
      obtain ⟨hbus, hmast, hrest⟩ := setCmd_frame s g c (ceilFt lead) (src := islWinch) (by decide)
      refine ⟨_, rfl, by simp [grp_setCmd], rd_setCmd_same .., by simp, fun h hh => by simp [grp_setCmd, hh], hmast, hbus, ?_, hrest⟩
      exact fun a ha => rd_setCmd_ne _ _ _ _ _ fun h => ha (by simp [h])
    | false =>
      rw [if_neg Bool.false_ne_true]
      obtain ⟨hbus, hmast, hrest⟩ := setCmd_frame s g c (ceilFt lead) (src := islHost) (by decide)
      obtain ⟨hframe, hkeeps⟩ := onlyRegs_lsgStatus (s.setCmd g c (ceilFt lead) islHost) 0
      refine ⟨_, rfl, by simp [lsgStatus, grp_setCmd], ?_, fun _ => fld_setF _ _ _ _ (by decide),
        fun h hh => by simp [lsgStatus, grp_setCmd, hh], hmast, hbus, ?_, hrest⟩
      · exact (hkeeps _ (by simp [lsgStat_ne_cmdSts])).trans (rd_setCmd_same ..)
      · intro a ha
        simp only [List.mem_cons, List.not_mem_nil, or_false, not_or] at ha
        exact (hkeeps a (by simp [ha.2])).trans (rd_setCmd_ne _ _ _ _ _ ha.1)
  · intro s g c i hi hs hm ht hcmd
    have hc : c ≠ 0 ∧ c ≠ 5 ∧ c ≠ 7 := by
      simp only [List.mem_cons, Prod.mk.injEq, List.not_mem_nil, or_false] at hi
      omega
    have hi' : (c, i) ∈ [(1, Instr.lsgArm g false), (2, .lsgStart g false), (3, .lsgPause g false), (4, .lsgResume g false),
        (5, .lsgAbort g false), (6, .lsgDisarm g false)] := by
      simp only [List.mem_cons] at hi ⊢
      tauto
    rw [exec_of_lsgInstr hi', lsgCommand_of_host hs (fun h => absurd h (by decide)) (lsgStage_of_pending hc hm ht hcmd)]
    exact ⟨_, rfl, fld_setF _ _ _ _ (by decide), onlyRegs_lsgStatus ..⟩

end Sys2Proof.Laws
end

section
namespace Sys2Proof.Laws
open Sys2Proof.Machine

-- One theorem after another: a thread for each of them passes the memory limit of the check.
set_option Elab.async false

/-! ### A group without a pending command (R51) -/

theorem grp_noCmd (s : State) (g h : Nat) : (s.noCmd g).grp h = if h = g then { s.grp g with cmd := none } else s.grp h := by
  simp [State.noCmd]

theorem onlyRegs_noCmd_ne (s : State) (g : Nat) {a : Nat} (h : a ≠ GLB_LSG_STAT g) : (s.noCmd g).rd a = s.rd a := rd_setF_ne _ _ _ _ _ h

theorem pending_noCmd (s : State) (g : Nat) : (s.noCmd g).fld (GLB_LSG_STAT g) GLB_LSG_STAT_PENDING = 0 := fld_setF _ _ _ _ (by decide)

theorem gst_noCmd (s : State) (g h : Nat) : (s.noCmd g).gst h = s.gst h := by
  by_cases hg : h = g
  · subst hg
    exact fld_setF_beside _ _ _ _ _ (by decide) (by decide) (by decide)
  · exact fld_setF_ne _ _ _ _ _ _ (by unfold GLB_LSG_STAT; omega)

theorem bus_noCmd (s : State) (g : Nat) : (s.noCmd g).bus = { s.bus with
    held := s.bus.held.filter fun j => !j.groupCmd g
    transit := s.bus.transit.filter fun j => !j.groupCmd g } := rfl

/-! ### Items on their way and held (R37 to R44) -/

theorem insItem_eq (l : List Item) (i : Item) :
    insItem l i = l.takeWhile (fun j => decide (j.rel ≤ i.rel)) ++ i :: l.dropWhile (fun j => decide (j.rel ≤ i.rel)) := by
  induction l with
  | nil => rfl
  | cons j l ih =>
    by_cases h : i.rel < j.rel
    · simp [insItem, h]
    · simp [insItem, h, Nat.le_of_not_lt h, ih]

/-- What a filter discards may be taken out before it. -/
theorem filter_erase_of_discarded {α : Type} [DecidableEq α] {p : α → Bool} {a : α} (h : p a = false) (l : List α) :
    (l.erase a).filter p = l.filter p := by
  induction l with
  | nil => rfl
  | cons b l ih =>
    by_cases hb : b = a
    · simp [hb, h]
    · rw [List.erase_cons_tail (by simpa using hb), List.filter_cons, List.filter_cons, ih]

section
variable {s : State} {k : Nat} {i : Item} (hk : s.bus.transit[k]? = some i)
  (hfirst : (s.bus.transit.take k).any (fun j => j.src == i.src && j.dst == i.dst && j.cls == i.cls) = false)
include hk hfirst

theorem itemArrival_of_first : itemArrival k s = arrive i s := by
  simp only [itemArrival, hk, hfirst]
  rfl

theorem itemArrival_of_timely (h : s.tb1 ≤ i.rel) : itemArrival k s = (dropTransit i s).hold i := by
  rw [itemArrival_of_first hk hfirst, arrive, if_neg (by omega)]

theorem itemArrival_of_late (h : i.rel < s.tb1) : itemArrival k s = lateItem i (dropTransit i s) := by
  rw [itemArrival_of_first hk hfirst, arrive, if_pos h]

end

/-- A late item other than an EMIT's or a group command is counted and reported. -/
theorem lateItem_of_plain {i : Item} (he : ∀ a v w x, i.act ≠ .emit a v w x) (hg : ∀ g c, i.act ≠ .group g c) (s : State) :
    lateItem i s = (s.inc GLB_LATE_CNT).report E_GLB_LATE_REL i.dst i.src := by
  unfold lateItem
  dsimp only
  split
  · next h => exact (he _ _ _ _ h).elim
  · next h => exact (hg _ _ h).elim
  · rfl

theorem lateItem_of_group {i : Item} {g c : Nat} (h : i.act = .group g c) (s : State) :
    lateItem i s = ((s.inc GLB_LATE_CNT).noCmd g).report E_GLB_LATE_REL i.dst i.src := by
  unfold lateItem
  rw [h]

theorem lateCnt_ne_lsgStat (g : Nat) : GLB_LATE_CNT ≠ GLB_LSG_STAT g := by
  unfold GLB_LATE_CNT GLB_LSG_STAT
  omega

/-- A late group command is pending no more, and the group's items are gone. -/
theorem lateGroup_spec {s : State} {i : Item} {g c : Nat} (h : i.act = .group g c) :
    (lateItem i (dropTransit i s)).grp g = { s.grp g with cmd := none }
      ∧ (lateItem i (dropTransit i s)).fld (GLB_LSG_STAT g) GLB_LSG_STAT_PENDING = 0
      ∧ s.itemsBut (lateItem i (dropTransit i s)) g
      ∧ (lateItem i (dropTransit i s)).bus.reports = s.bus.reports ++ [⟨0x114, false, i.dst, i.src⟩]
      ∧ (lateItem i (dropTransit i s)).rdN GLB_LATE_CNT = min 0xFFFFFFFF (s.rdN GLB_LATE_CNT + 1)
      ∧ s.keeps (lateItem i (dropTransit i s)) [GLB_LATE_CNT, GLB_LSG_STAT g] := by
  have hcmd : (!i.groupCmd g) = false := by simp [Item.groupCmd, h]
  rw [lateItem_of_group h]
  refine ⟨(grp_noCmd ..).trans (if_pos rfl), pending_noCmd .., ⟨?_, ?_⟩, rfl, ?_, fun a ha => ?_⟩
  · exact (List.filter_filter ..).trans (by simp [dropTransit])
  · refine (List.filter_filter ..).trans ?_
    simp only [Bool.and_self]
    exact filter_erase_of_discarded (p := fun j : Item => !j.groupCmd g) hcmd _
  · exact (congrArg BitVec.toNat (onlyRegs_noCmd_ne _ _ (lateCnt_ne_lsgStat g))).trans (rdN_inc ..)
  · simp only [List.mem_cons, List.not_mem_nil, or_false, not_or] at ha
    exact (onlyRegs_noCmd_ne _ _ ha.2).trans (rd_inc_ne _ _ _ ha.1)

/-- A BIAS item at its release: the code is taken, and the item is held no more. -/
theorem biasRelease_spec {s : State} {y pc v rel : Nat}
    (hfind : s.bus.held.find? (fun i => i.dst == y && s.itemDue i) = some ⟨rel, y, y, .ctrl, .timed y pc (.bias v)⟩) (hv : v < 2 ^ 20) :
    (itemRelease y s).bus.held = s.bus.held.erase ⟨rel, y, y, .ctrl, .timed y pc (.bias v)⟩ ∧ (itemRelease y s).rdN (BIA_CODE y) = v := by
  let u : State := dropHeld ⟨rel, y, y, .ctrl, .timed y pc (.bias v)⟩ s
  have hrel : itemRelease y s = (biaCodeSet y v u).noteSetr (BIA_CODE y) := by
    simp only [itemRelease, hfind]
    rfl
  have hne : BIA_CODE y ≠ BIA_STS y := by
    unfold BIA_CODE BIA_STS
    omega
  have hrd : (biaCodeSet y v u).rdN (BIA_CODE y) = v % 2 ^ 20 % 2 ^ 64 :=
    (rdN_setF_ne _ _ _ _ _ hne).trans <| (rdN_setF_ne _ _ _ _ _ hne).trans (rdN_wrN ..)
  rw [hrel]
  exact ⟨rfl, hrd.trans (by omega)⟩

/-! ### The hang of a link (R42, Table 1-6) -/

theorem hangList_of_no_other {l i now : Nat} {hs : List (Nat × Nat)} (h : (hs.filter fun h => h.1 ≠ i) = []) (hl : i = l) :
    hangList i now hs = [(l, now)] := by
  subst hl
  simp only [List.filter_eq_nil_iff, decide_eq_true_eq, not_not] at h
  simp only [hangList, List.cons.injEq, true_and, List.filter_eq_nil_iff, Bool.and_eq_true, bne_iff_ne, ne_eq, not_and]
  exact fun p hp hne => absurd (h p hp) hne

/-- What a hang leaves when it is the only one remembered. -/
theorem islandHang_of_single {s u : State} {a b cls i : Nat} {x : Nat × Nat} (hi : (if a = islHub then b else a) = i)
    (hu : islandReset i (s.wrN GLB_HANG_INFO (a % 256 * 2 ^ 24 + b % 256 * 2 ^ 16 + cls % 8)) = u)
    (hx : hangList i u.clock.now u.seq.hangs = [x]) :
    islandHang a b cls s = { (u.report E_FLT_ISL_HANG i 0) with seq := { u.seq with hangs := [x] } } := by
  unfold islandHang
  dsimp only
  rw [hi, hu, report_clock, report_seq, hx]
  exact if_neg (by simp)

theorem islandReset_of_link {l : Nat} (hl : l < 6) (s : State) : islandReset (0x41 + l) s = linkDown l s := by
  unfold islandReset
  rw [if_neg (by omega), if_pos (by omega), Nat.add_sub_cancel_left]

/-- A hang of a link with no other hang in the last 10 µs: the link goes down and the hang is recorded, reported and remembered. -/
theorem linkHang_spec {s : State} {a b cls l : Nat} (hs : (s.seq.hangs.filter fun h => h.1 ≠ 0x41 + l) = []) (hl : l < 6) (hcls : cls < 8)
    (hab : (a = 0x40 ∧ b = 0x41 + l) ∨ (a = 0x41 + l ∧ b = 0x40)) :
    (islandHang a b cls s).rdN GLB_HANG_INFO = a * 2 ^ 24 + b * 2 ^ 16 + cls
      ∧ (∃ p, (islandHang a b cls s).bus.reports = p ++ [⟨0x1510, false, 0x41 + l, 0⟩])
      ∧ (islandHang a b cls s).seq.hangs = [(0x41 + l, s.clock.now)] := by
  have hi : (if a = islHub then b else a) = 0x41 + l := by
    unfold islHub
    obtain ⟨ha, hb⟩ | ⟨ha, hb⟩ := hab
    · rw [if_pos ha, hb]
    · rw [if_neg (by omega), ha]
  obtain ⟨n, hn⟩ : ∃ n, n = a % 256 * 2 ^ 24 + b % 256 * 2 ^ 16 + cls % 8 := ⟨_, rfl⟩
  have hkeep : Keeps anyYard (s.wrN GLB_HANG_INFO n) (linkDown l (s.wrN GLB_HANG_INFO n)) := Keeps.rfl.linkDown hl
  have hlist : hangList (0x41 + l) (linkDown l (s.wrN GLB_HANG_INFO n)).clock.now (linkDown l (s.wrN GLB_HANG_INFO n)).seq.hangs
      = [(0x41 + l, s.clock.now)] := by
    rw [hkeep.hangs, hkeep.clock]
    exact hangList_of_no_other hs rfl
  have hinfo : (linkDown l (s.wrN GLB_HANG_INFO n)).rdN GLB_HANG_INFO = n % 2 ^ 64 :=
    (congrArg BitVec.toNat (hkeep.low _ (by decide))).trans (rdN_wrN ..)
  rw [islandHang_of_single hi (hn ▸ islandReset_of_link hl _) hlist]
  exact ⟨hinfo.trans (by omega), ⟨_, rfl⟩, rfl⟩

/-- Settles O4: an arrival is `arrive`, a late one `lateItem`; a BIAS release writes BIA_CODE; the reset of a link touches neither
GLB_HANG_INFO nor the hangs remembered (`Keeps`). -/
theorem stampedItemsApplyAtTheirRelease : Obligations.StampedItemsApplyAtTheirRelease := by
  refine ⟨?_, ?_, ?_, ?_, ?_⟩
  · intro s k i hk hfirst hrel
    refine ⟨_, congrArg Host.Outcome.next (itemArrival_of_timely hk hfirst hrel), ?_⟩
    simp only [State.hold, dropTransit, insItem_eq]
  · intro s k i hk hfirst hrel he hg
    refine ⟨_, congrArg Host.Outcome.next (itemArrival_of_late hk hfirst hrel), ?_⟩
    rw [lateItem_of_plain he hg]
    exact ⟨rfl, rdN_inc .., fun a ha => rd_inc_ne _ _ _ (by simpa using ha), rfl⟩
  · intro s k i g c hk hfirst hrel hact
    exact ⟨_, congrArg Host.Outcome.next (itemArrival_of_late hk hfirst hrel), lateGroup_spec hact⟩
  · intro s y pc v rel hfind hv _
    exact ⟨_, rfl, biasRelease_spec hfind hv⟩
  · intro s a b cls l hs hl hcls hab
    exact ⟨_, rfl, linkHang_spec hs hl hcls hab⟩

end Sys2Proof.Laws
end

section
namespace Sys2Proof.Laws
open Sys2Proof.Machine

-- One theorem after another: a thread for each of them passes the memory limit of the check.
set_option Elab.async false

/-! ### What is read of a state that keeps the Masts -/

theorem Keeps.gst {Y : Nat → Prop} {s t : State} (h : Keeps Y s t) {g : Nat} (hg : g < 64) : t.gst g = s.gst g :=
  congrArg (getF · GLB_LSG_STAT_GSTATE) (h.low _ (by unfold GLB_LSG_STAT; omega))

theorem Keeps.fldOf {Y : Nat → Prop} {s t : State} (h : Keeps Y s t) {y a : Nat} (hy : Y y) (ha : mastReg y a) (f : Fld) :
    t.fld a f = s.fld a f := congrArg (getF · f) (h.regs y hy a ha)

theorem Keeps.rdNOf {Y : Nat → Prop} {s t : State} (h : Keeps Y s t) {y a : Nat} (hy : Y y) (ha : mastReg y a) :
    t.rdN a = s.rdN a := congrArg BitVec.toNat (h.regs y hy a ha)

theorem Keeps.mst {Y : Nat → Prop} {s t : State} (h : Keeps Y s t) {y : Nat} (hy : Y y) : t.mst y = s.mst y :=
  h.fldOf hy (by unfold mastReg SEQ_STS; omega) _

theorem Keeps.members {Y : Nat → Prop} {s t : State} (h : Keeps Y s t) (g : Nat) : t.members g = s.members g := by
  unfold Machine.State.members Machine.State.comp
  rw [h.img]

/-! ### The members of a group, one after another -/

/-- What a loop over yards does to the Mast of one of them is what its own round does, when each round keeps the other Masts. -/
theorem forEach_member {ys : List Nat} {f : Nat → State → State} (hf : ∀ y t, Keeps (· ≠ y) t (f y t)) (hnd : ys.Nodup) (s : State) {y : Nat}
    (hy : y ∈ ys) : ∃ u, Keeps (· = y) s u ∧ Keeps (· = y) (f y u) (forEach ys s f) := by
  have others {z : Nat} (hz : z ≠ y) (t : State) : Keeps (· = y) t (f z t) := (hf z t).mono fun w hw => hw ▸ hz.symm
  induction ys generalizing s with
  | nil => simp at hy
  | cons z zs ih =>
    obtain ⟨hz, hnd⟩ := List.nodup_cons.mp hnd
    by_cases hzy : z = y
    · subst hzy
      exact ⟨s, Keeps.rfl, Keeps.rfl.forEach fun w hw t h => h.trans (others (fun e => hz (e ▸ hw)) t)⟩
    · obtain ⟨u, hu, ht⟩ := ih hnd (f z s) ((List.mem_cons.mp hy).resolve_left (Ne.symm hzy))
      exact ⟨u, (others hzy s).trans hu, ht⟩

/-- Rounds that keep the other Masts keep what is no Mast's. -/
theorem forEach_noMast {ys : List Nat} {f : Nat → State → State} (hf : ∀ y t, Keeps (· ≠ y) t (f y t)) (s : State) :
    Keeps (fun _ => False) s (forEach ys s f) :=
  Keeps.rfl.forEach fun y _ t h => h.trans ((hf y t).mono fun _ => False.elim)

/-! ### The Masts as a group moves -/

section
variable {Y : Nat → Prop} {s₀ s : State} {y : Nat} (hy : ¬ Y y)
include hy

theorem Keeps.setSts {f : Fld} {n : Nat} (h : Keeps Y s₀ s) : Keeps Y s₀ (s.setF (SEQ_STS y) f n) := h.wrMast hy (by unfold SEQ_STS; omega)
theorem Keeps.setMst {v : Nat} (h : Keeps Y s₀ s) : Keeps Y s₀ (s.setMst y v) := h.setSts hy

theorem Keeps.mastAbort (h : Keeps Y s₀ s) : Keeps Y s₀ (mastAbort y s) := by
  unfold Machine.mastAbort
  exact ((h.setMst hy).setSts hy).modMast hy

theorem Keeps.mastStart {t0 entry shot attempt : Nat} {rpass : Bool} (h : Keeps Y s₀ s) :
    Keeps Y s₀ (mastStart y t0 entry shot attempt rpass s) := by
  have horg : 0x1000000 + 0x40000 * y ≤ SEQ_ORIGIN y ∧ SEQ_ORIGIN y < 0x1040000 + 0x40000 * y := by unfold SEQ_ORIGIN; omega
  have htq : 0x1000000 + 0x40000 * y ≤ SEQ_TQ y ∧ SEQ_TQ y < 0x1040000 + 0x40000 * y := by unfold SEQ_TQ; omega
  have hidx : 0x1000000 + 0x40000 * y ≤ SEQ_SHOT_IDX y ∧ SEQ_SHOT_IDX y < 0x1040000 + 0x40000 * y := by unfold SEQ_SHOT_IDX; omega
  have hpc : 0x1000000 + 0x40000 * y ≤ SEQ_PC y ∧ SEQ_PC y < 0x1040000 + 0x40000 * y := by unfold SEQ_PC; omega
  have hlc (t : State) (k : Keeps Y s₀ t) : Keeps Y s₀ (Machine.forEach (List.range 4) t fun j s => s.setLc y j 0) :=
    k.forEach fun j _ _ k => k.wrMast hy (by unfold SEQ_LC; omega)
  unfold Machine.mastStart
  exact Keeps.modMast (Keeps.wrMast (Keeps.setMst hy <| Keeps.setSts hy <| Keeps.setSts hy <| hlc _ <|
    ((h.wrMast hy horg).wrMast hy htq).wrMast hy hidx) hy hpc) hy

end

theorem Keeps.journalRestore {Y : Nat → Prop} {s₀ s : State} {y : Nat} (h : Keeps Y s₀ s) : Keeps Y s₀ (journalRestore y s) :=
  (h.forEach fun i hi _ h => by
    have hi : i < 32 := List.mem_range.mp hi
    exact h.wr (by unfold aside SEQ_G; omega)).forEach fun t ht _ h => by
    have ht : t < 16 := List.mem_range.mp ht
    exact (h.setToneF ht).wr (by unfold aside TON_FRAME_P; omega)

theorem Keeps.journalWrite {Y : Nat → Prop} {s₀ s : State} {y : Nat} (hy : ¬ Y y) (h : Keeps Y s₀ s) : Keeps Y s₀ (journalWrite y s) :=
  h.modMast hy

theorem Keeps.memberStart {Y : Nat → Prop} {s₀ s : State} {y t0 shot attempt : Nat} {rpass : Bool} (hy : ¬ Y y) (h : Keeps Y s₀ s) :
    Keeps Y s₀ (memberStart y t0 shot attempt rpass s) :=
  (h.strShotStart.ite h.strShotStart.strReplay).andThen fun k =>
    (((k.mastStart hy).setMst hy).modMast hy |>.ite (k.mastStart hy)).ite <|
      ((k.ite k.journalRestore).mastStart hy).andThen fun k => (k.journalWrite hy).ite k

/-- What a Mast holds once it has started issue (R89, R123). -/
structure Started (s : State) (y t0 entry shot : Nat) : Prop where
  mst : s.mst y = mISSUE
  origin : s.rdN (SEQ_ORIGIN y) = (t0 + 512) % 2 ^ 64
  tq : s.tq y = 0
  idx : s.rdN (SEQ_SHOT_IDX y) = shot % 2 ^ 64
  pc : s.pc y = entry % 2 ^ 15
  loops : (s.mast y).loops = []
  clk : (s.mast y).clk = t0

theorem rd_lcCleared (s : State) (y : Nat) {a : Nat} (ha : a < 0x1000200 + 0x40000 * y) :
    (forEach (List.range 4) s fun j s => s.setLc y j 0).rd a = s.rd a :=
  forEach_induct (P := fun t => t.rd a = s.rd a) rfl fun _ _ _ ht => (rd_wrN_ne _ _ _ _ (by unfold SEQ_LC; omega)).trans ht

theorem rd_mastStart (s : State) (y t0 entry shot attempt : Nat) (rpass : Bool) {a : Nat} (ha : a < 0x1000200 + 0x40000 * y)
    (hsts : a ≠ SEQ_STS y) (hpc : a ≠ SEQ_PC y) : (mastStart y t0 entry shot attempt rpass s).rd a
      = (((s.wrN (SEQ_ORIGIN y) (t0 + 32 * ft)).wrN (SEQ_TQ y) 0).wrN (SEQ_SHOT_IDX y) shot).rd a :=
  (rd_modMast ..).trans <| (rd_setF_ne _ _ _ _ _ hpc).trans <| (rd_setF_ne _ _ _ _ _ hsts).trans <| (rd_setF_ne _ _ _ _ _ hsts).trans <|
    (rd_setF_ne _ _ _ _ _ hsts).trans (rd_lcCleared _ y ha)

theorem started_mastStart (s : State) (y t0 entry shot attempt : Nat) (rpass : Bool) :
    Started (mastStart y t0 entry shot attempt rpass s) y t0 entry shot := by
  have hsts : SEQ_STS y ≠ SEQ_PC y := by unfold SEQ_STS SEQ_PC; omega
  have htq : SEQ_TQ y ≠ SEQ_SHOT_IDX y := by unfold SEQ_TQ SEQ_SHOT_IDX; omega
  have hidx : SEQ_ORIGIN y ≠ SEQ_SHOT_IDX y := by unfold SEQ_ORIGIN SEQ_SHOT_IDX; omega
  have horg : SEQ_ORIGIN y ≠ SEQ_TQ y := by unfold SEQ_ORIGIN SEQ_TQ; omega
  have hrd {a : Nat} (ha : a ∈ [SEQ_ORIGIN y, SEQ_TQ y, SEQ_SHOT_IDX y]) :
      (mastStart y t0 entry shot attempt rpass s).rdN a
        = (((s.wrN (SEQ_ORIGIN y) (t0 + 512)).wrN (SEQ_TQ y) 0).wrN (SEQ_SHOT_IDX y) shot).rdN a := by
    have hbound : a < 0x1000200 + 0x40000 * y ∧ a ≠ SEQ_STS y ∧ a ≠ SEQ_PC y := by
      simp only [List.mem_cons, List.not_mem_nil, or_false, SEQ_ORIGIN, SEQ_TQ, SEQ_SHOT_IDX] at ha
      unfold SEQ_STS SEQ_PC
      omega
    obtain ⟨hlt, hs, hp⟩ := hbound
    exact congrArg BitVec.toNat (rd_mastStart s y t0 entry shot attempt rpass hlt hs hp)
  refine ⟨?_, ?_, ?_, ?_, ?_, by simp [mastStart], by simp [mastStart]⟩
  · exact (fld_modMast ..).trans <| (fld_setF_ne _ _ _ _ _ _ hsts).trans (mst_setMst (by decide))
  · exact (hrd (by simp)).trans <| (rdN_wrN_ne _ _ _ _ hidx).trans <| (rdN_wrN_ne _ _ _ _ horg).trans (rdN_wrN ..)
  · exact (hrd (by simp)).trans <| (rdN_wrN_ne _ _ _ _ htq).trans (rdN_wrN ..)
  · exact (hrd (by simp)).trans (rdN_wrN ..)
  · exact (fld_modMast ..).trans (fld_setF _ _ _ _ (by decide))

/-- What a Mast holds once started stands as long as the Mast is kept. -/
theorem Started.keeps {s t : State} {y t0 entry shot : Nat} (h : Started s y t0 entry shot) (k : Keeps (· = y) s t) : Started t y t0 entry shot where
  mst := (k.mst rfl).trans h.mst
  origin := (k.rdNOf rfl (by unfold mastReg SEQ_ORIGIN; omega)).trans h.origin
  tq := (k.rdNOf rfl (by unfold mastReg SEQ_TQ; omega)).trans h.tq
  idx := (k.rdNOf rfl (by unfold mastReg SEQ_SHOT_IDX; omega)).trans h.idx
  pc := (k.fldOf rfl (by unfold mastReg SEQ_PC; omega) _).trans h.pc
  loops := (congrArg Mast.loops (k.mast y rfl)).trans h.loops
  clk := (congrArg Mast.clk (k.mast y rfl)).trans h.clk

/-- The journal is no part of what issue starts from. -/
theorem Started.journalWrite {s : State} {y t0 entry shot : Nat} (h : Started s y t0 entry shot) :
    Started (journalWrite y s) y t0 entry shot := by
  obtain ⟨hmst, horg, htq, hidx, hpc, hloops, hclk⟩ := h
  exact ⟨hmst, horg, htq, hidx, hpc, by simpa [Machine.journalWrite] using hloops, by simpa [Machine.journalWrite] using hclk⟩

/-- A member starts a pass of the program at ENTRY (R123). -/
theorem started_memberStart (s : State) (y t0 shot attempt : Nat) :
    Started (memberStart y t0 shot attempt false s) y t0 (s.fld (SEQ_ENTRY y) SEQ_ENTRY_ENTRY) shot := by
  unfold memberStart
  by_cases ha : attempt = 0
  · simpa [ha] using (started_mastStart ..).journalWrite
  · simpa [ha] using started_mastStart ..

/-- But for the state, a member's Mast registers read after its start as they do after `mastStart`. -/
theorem memberStart_mastStart (s : State) (y t0 shot attempt : Nat) (rpass : Bool) :
    ∃ e u, Keeps anyYard s u
      ∧ ∀ a, a ≠ SEQ_STS y → (memberStart y t0 shot attempt rpass s).rd a = (mastStart y t0 e shot attempt rpass u).rd a := by
  have hk : Keeps anyYard s (if attempt = 0 then strShotStart y true s else strReplay y (strShotStart y false s)) :=
    Keeps.rfl.strShotStart.ite Keeps.rfl.strShotStart.strReplay
  cases rpass with
  | true =>
    refine ⟨s.fld (SEQ_RST_ENTRY y) SEQ_RST_ENTRY_ENTRY, _, hk, fun a ha => ?_⟩
    unfold memberStart
    dsimp only
    generalize (if attempt = 0 then strShotStart y true s else strReplay y (strShotStart y false s)) = u
    rw [if_pos rfl, if_pos rfl]
    split
    · exact (rd_modMast ..).trans (rd_setF_ne _ _ _ _ _ ha)
    · rfl
  | false =>
    by_cases ha : attempt = 0
    · exact ⟨s.fld (SEQ_ENTRY y) SEQ_ENTRY_ENTRY, strShotStart y true s, Keeps.rfl.strShotStart,
        fun a _ => by simp [memberStart, ha, journalWrite]⟩
    · exact ⟨s.fld (SEQ_ENTRY y) SEQ_ENTRY_ENTRY, journalRestore y (strReplay y (strShotStart y false s)),
        Keeps.rfl.strShotStart.strReplay.journalRestore, fun a _ => by simp [memberStart, ha]⟩

/-- A member's start sets its origin (R123) and leaves its count of replays (Table 3-11). -/
theorem origin_memberStart (s : State) (y t0 shot attempt : Nat) (rpass : Bool) :
    (memberStart y t0 shot attempt rpass s).rdN (SEQ_ORIGIN y) = (t0 + 512) % 2 ^ 64
      ∧ (memberStart y t0 shot attempt rpass s).rdN (SEQ_REPLAY_TOT y) = s.rdN (SEQ_REPLAY_TOT y) := by
  have hne : SEQ_ORIGIN y ≠ SEQ_STS y ∧ SEQ_REPLAY_TOT y ≠ SEQ_STS y ∧ SEQ_REPLAY_TOT y ≠ SEQ_PC y ∧ SEQ_REPLAY_TOT y ≠ SEQ_ORIGIN y
      ∧ SEQ_REPLAY_TOT y ≠ SEQ_TQ y ∧ SEQ_REPLAY_TOT y ≠ SEQ_SHOT_IDX y ∧ SEQ_REPLAY_TOT y < 0x1000200 + 0x40000 * y := by
    unfold SEQ_ORIGIN SEQ_STS SEQ_REPLAY_TOT SEQ_PC SEQ_TQ SEQ_SHOT_IDX
    omega
  obtain ⟨horg, hsts, hpc, hto, htq, hidx, hlt⟩ := hne
  obtain ⟨e, u, hu, hrd⟩ := memberStart_mastStart s y t0 shot attempt rpass
  refine ⟨(congrArg BitVec.toNat (hrd _ horg)).trans (started_mastStart ..).origin, congrArg BitVec.toNat ((hrd _ hsts).trans ?_)⟩
  rw [rd_mastStart _ _ _ _ _ _ _ hlt hsts hpc, rd_wrN_ne _ _ _ _ hidx, rd_wrN_ne _ _ _ _ htq, rd_wrN_ne _ _ _ _ hto]
  exact hu.regs y trivial _ (by unfold mastReg SEQ_REPLAY_TOT; omega)

/-! ### The start of a pass (R123, R128) -/

/-- What a pass of a shot is when it starts: the group's record of it, before the members start. -/
def passGroup (x : Group) (rpass : Bool) : Group :=
  { x with t0 := none, lastEnd := 0, replayDue := false, rpass := rpass, marks := [], causes := [], noReplay := false, held := false,
           pass := x.pass + 1, runEnd := x.runEnd && (decide (0 < x.attempt) || rpass) }

def passCleared (g : Nat) (rpass : Bool) (s : State) : State :=
  let s := s.modGrp g (passGroup · rpass)
  { s with flt := { s.flt with ext := tput s.flt.ext g [] } }

/-- The group running, before its members start. -/
def passOpened (g : Nat) (rpass : Bool) (s : State) : State :=
  let s := passCleared g rpass s
  devRefresh (if s.gst g = gPAUSING then s else s.setGst g gRUNNING)

theorem passStart_eq (g t0 : Nat) (rpass : Bool) (s : State) : passStart g t0 rpass s =
    let u := forEach ((passOpened g rpass s).members g) (passOpened g rpass s) fun y t => memberStart y t0 (s.grp g).shot (s.grp g).attempt rpass t
    if rpass then u else decAttemptStart g (t0 + 32 * ft) u := rfl

theorem seq_of_onlyRegs {s t : State} {as : List Nat} (h : s.onlyRegs t as) : t.seq = s.seq := by
  simpa using congrArg State.seq h.1

theorem img_of_onlyRegs {s t : State} {as : List Nat} (h : s.onlyRegs t as) : t.img = s.img := by
  simpa using congrArg State.img h.1

theorem seq_devRefresh (s : State) : (devRefresh s).seq = s.seq := seq_of_onlyRegs (onlyRegs_devRefresh s)
theorem img_devRefresh (s : State) : (devRefresh s).img = s.img := img_of_onlyRegs (onlyRegs_devRefresh s)

theorem grp_devRefresh (s : State) (g : Nat) : (devRefresh s).grp g = s.grp g := congrArg (fun q : Seq => tget q.groups g) (seq_devRefresh s)
theorem mast_devRefresh (s : State) (y : Nat) : (devRefresh s).mast y = s.mast y := congrArg (fun q : Seq => tget q.masts y) (seq_devRefresh s)

theorem members_devRefresh (s : State) (g : Nat) : (devRefresh s).members g = s.members g := by
  unfold Machine.State.members Machine.State.comp
  rw [img_devRefresh]

theorem rd_devRefresh (s : State) {a : Nat} (ha : 0x400000 ≤ a) : (devRefresh s).rd a = s.rd a :=
  (onlyRegs_devRefresh s).2 a (by simp [GLB_STATE]; omega)

theorem rd_setGst (s : State) {g : Nat} (hg : g < 64) (v : Nat) {a : Nat} (ha : 0x400000 ≤ a) : (s.setGst g v).rd a = s.rd a :=
  rd_setF_ne _ _ _ _ _ (by unfold GLB_LSG_STAT; omega)

/-- The group runs, and its Masts are as they were. -/
theorem passOpened_spec {s : State} {g : Nat} (rpass : Bool) (hg : g < 64) (hgst : s.gst g ≠ gPAUSING) :
    (passOpened g rpass s).gst g = gRUNNING ∧ (passOpened g rpass s).grp g = passGroup (s.grp g) rpass
      ∧ (passOpened g rpass s).members g = s.members g ∧ ∀ a, 0x400000 ≤ a → (passOpened g rpass s).rd a = s.rd a := by
  have hopen : passOpened g rpass s = devRefresh ((passCleared g rpass s).setGst g gRUNNING) := congrArg devRefresh (if_neg hgst)
  rw [hopen]
  refine ⟨(gst_devRefresh ..).trans (gst_setGst (by decide)), ?_, members_devRefresh .., fun a ha => ?_⟩
  · exact (grp_devRefresh ..).trans ((grp_modGrp s g g (passGroup · rpass)).trans (if_pos rfl))
  · exact (rd_devRefresh _ ha).trans (rd_setGst _ hg _ ha)

/-- A pass starts member by member on a state that runs the group. -/
theorem passStart_keeps (g t0 : Nat) (rpass : Bool) (s : State) : Keeps (fun _ => False) (passOpened g rpass s) (passStart g t0 rpass s) := by
  rw [passStart_eq]
  have hloop := forEach_noMast (ys := (passOpened g rpass s).members g) (fun y t => (Keeps.rfl (s := t)).memberStart (t0 := t0)
    (shot := (s.grp g).shot) (attempt := (s.grp g).attempt) (rpass := rpass) (not_not_intro rfl)) (passOpened g rpass s)
  exact hloop.ite hloop.decAttemptStart

/-- Each member's own start is what its Mast holds after the group's. -/
theorem passStart_member (g t0 : Nat) (rpass : Bool) (s : State) {y : Nat} (hy : y ∈ (passOpened g rpass s).members g) :
    ∃ u, Keeps (· = y) (passOpened g rpass s) u
      ∧ Keeps (· = y) (memberStart y t0 (s.grp g).shot (s.grp g).attempt rpass u) (passStart g t0 rpass s) := by
  rw [passStart_eq]
  obtain ⟨u, hu, ht⟩ := forEach_member (fun y t => (Keeps.rfl (s := t)).memberStart (t0 := t0) (shot := (s.grp g).shot)
    (attempt := (s.grp g).attempt) (rpass := rpass) (not_not_intro rfl)) (nodup_members ..) (passOpened g rpass s) hy
  exact ⟨u, hu, ht.ite ht.decAttemptStart⟩

/-- What a group holds once a pass has started. -/
structure Running (s t : State) (g : Nat) (rpass : Bool) : Prop where
  gst : t.gst g = gRUNNING
  cmd : (t.grp g).cmd = (s.grp g).cmd
  t0 : (t.grp g).t0 = none
  shot : (t.grp g).shot = (s.grp g).shot
  attempt : (t.grp g).attempt = (s.grp g).attempt
  rpass : (t.grp g).rpass = rpass
  replayDue : (t.grp g).replayDue = false

theorem running_passStart {s : State} {g : Nat} (t0 : Nat) (rpass : Bool) (hg : g < 64) (hgst : s.gst g ≠ gPAUSING) :
    Running s (passStart g t0 rpass s) g rpass := by
  obtain ⟨hrun, hgrp, -, -⟩ := passOpened_spec rpass hg hgst
  obtain ⟨ms, cs, h⟩ := (passStart_keeps g t0 rpass s).grp g
  rw [hgrp] at h
  refine ⟨((passStart_keeps ..).gst hg).trans hrun, ?_, ?_, ?_, ?_, ?_, ?_⟩
  all_goals simp [h, passGroup]

/-- Every member starts the program at ENTRY. -/
theorem started_passStart {s : State} {g y : Nat} (t0 : Nat) (hg : g < 64) (hgst : s.gst g ≠ gPAUSING) (hy : y ∈ s.members g) :
    Started (passStart g t0 false s) y t0 (s.fld (SEQ_ENTRY y) SEQ_ENTRY_ENTRY) (s.grp g).shot := by
  obtain ⟨-, -, hmem, hrd⟩ := passOpened_spec false hg hgst
  obtain ⟨u, hu, ht⟩ := passStart_member g t0 false s (hmem ▸ hy)
  have hentry : u.fld (SEQ_ENTRY y) SEQ_ENTRY_ENTRY = s.fld (SEQ_ENTRY y) SEQ_ENTRY_ENTRY :=
    (hu.fldOf rfl (by unfold mastReg SEQ_ENTRY; omega) _).trans (congrArg (getF · _) (hrd _ (by unfold SEQ_ENTRY; omega)))
  exact hentry ▸ (started_memberStart ..).keeps ht

/-- Every member's origin is set, and its count of replays stands. -/
theorem origin_passStart {s : State} {g y : Nat} (t0 : Nat) (rpass : Bool) (hg : g < 64) (hgst : s.gst g ≠ gPAUSING) (hy : y ∈ s.members g) :
    (passStart g t0 rpass s).rdN (SEQ_ORIGIN y) = (t0 + 512) % 2 ^ 64
      ∧ (passStart g t0 rpass s).rdN (SEQ_REPLAY_TOT y) = s.rdN (SEQ_REPLAY_TOT y) := by
  obtain ⟨-, -, hmem, hrd⟩ := passOpened_spec rpass hg hgst
  obtain ⟨u, hu, ht⟩ := passStart_member g t0 rpass s (hmem ▸ hy)
  obtain ⟨horg, htot⟩ := origin_memberStart u y t0 (s.grp g).shot (s.grp g).attempt rpass
  have htotu : u.rdN (SEQ_REPLAY_TOT y) = s.rdN (SEQ_REPLAY_TOT y) :=
    (hu.rdNOf rfl (by unfold mastReg SEQ_REPLAY_TOT; omega)).trans (congrArg BitVec.toNat (hrd _ (by unfold SEQ_REPLAY_TOT; omega)))
  exact ⟨(ht.rdNOf rfl (by unfold mastReg SEQ_ORIGIN; omega)).trans horg,
    (ht.rdNOf rfl (by unfold mastReg SEQ_REPLAY_TOT; omega)).trans (htot.trans htotu)⟩

/-- A shot due with no hold of Reef starts (R123, R498). -/
theorem shotStart_of_due {s : State} {g r : Nat} (ht0 : (s.grp g).t0 = some r) (hr : s.reached r = true) (hhold : s.hold5 = false)
    (hheld : (s.grp g).held = false) : shotStart g s = passStart g r false s := by
  unfold shotStart State.startAt
  simp [ht0, hr, hhold, hheld]

end Sys2Proof.Laws
end

section
namespace Sys2Proof.Laws
open Sys2Proof.Machine

-- One theorem after another: a thread for each of them passes the memory limit of the check.
set_option Elab.async false

/-! ### The release of a group command (R54) -/

/-- At its release a command that the hub holds takes effect, pending no more. -/
theorem cmdRelease_of_pending {s : State} {g c r : Nat} (hcmd : (s.grp g).cmd = some ⟨c, r⟩) (ht : s.atTb1 r = true)
    (hheld : s.bus.held.any (fun j => j.groupCmd g) = true) (f : Nat → State → State) : cmdRelease g c f s = f r (s.noCmd g) := by
  unfold cmdRelease
  rw [hcmd]
  exact if_pos ⟨rfl, ht, hheld⟩

theorem reached_of_atTb1 {s : State} {r : Nat} (h : s.atTb1 r = true) : s.reached r = true := by
  simp only [State.atTb1, Bool.and_eq_true, beq_iff_eq] at h
  obtain ⟨hrun, hr⟩ := h
  simp [State.reached, hrun, hr]

theorem rd_noCmd (s : State) {g : Nat} (hg : g < 64) {a : Nat} (ha : 0x400000 ≤ a) : (s.noCmd g).rd a = s.rd a :=
  onlyRegs_noCmd_ne s g (by unfold GLB_LSG_STAT; omega)

theorem fld_noCmd (s : State) {g : Nat} (hg : g < 64) {a : Nat} (ha : 0x400000 ≤ a) (f : Fld) : (s.noCmd g).fld a f = s.fld a f :=
  congrArg (getF · f) (rd_noCmd s hg ha)

theorem grp_noCmd_same (s : State) (g : Nat) : (s.noCmd g).grp g = { s.grp g with cmd := none } := (grp_noCmd ..).trans (if_pos rfl)

theorem armErr_noCmd (s : State) {g : Nat} (hg : g < 64) (y : Nat) : (s.noCmd g).armErr y = s.armErr y := by
  have hctl : (s.noCmd g).rd (SEQ_CTL y) = s.rd (SEQ_CTL y) := rd_noCmd s hg (by unfold SEQ_CTL; omega)
  have hlen : (s.noCmd g).rd (SEQ_PROG_LEN y) = s.rd (SEQ_PROG_LEN y) := rd_noCmd s hg (by unfold SEQ_PROG_LEN; omega)
  have hent : (s.noCmd g).rd (SEQ_ENTRY y) = s.rd (SEQ_ENTRY y) := rd_noCmd s hg (by unfold SEQ_ENTRY; omega)
  have hrst : (s.noCmd g).rd (SEQ_RST_ENTRY y) = s.rd (SEQ_RST_ENTRY y) := rd_noCmd s hg (by unfold SEQ_RST_ENTRY; omega)
  have hcnt : (s.noCmd g).rd (SEQ_SHOT_CNT y) = s.rd (SEQ_SHOT_CNT y) := rd_noCmd s hg (by unfold SEQ_SHOT_CNT; omega)
  unfold State.armErr State.progLen State.flag State.fld State.rdN
  rw [hctl, hlen, hent, hrst, hcnt]

theorem armAgrees_noCmd (s : State) {g : Nat} (hg : g < 64) (y z : Nat) : (s.noCmd g).armAgrees y z = s.armAgrees y z := by
  have hctl (y : Nat) : (s.noCmd g).rd (SEQ_CTL y) = s.rd (SEQ_CTL y) := rd_noCmd s hg (by unfold SEQ_CTL; omega)
  have hcnt (y : Nat) : (s.noCmd g).rd (SEQ_SHOT_CNT y) = s.rd (SEQ_SHOT_CNT y) := rd_noCmd s hg (by unfold SEQ_SHOT_CNT; omega)
  simp only [State.armAgrees, State.fld, State.rdN, hctl, hcnt]

theorem memberErr_noCmd (s : State) {g : Nat} (hg : g < 64) (z y : Nat) : (s.noCmd g).memberErr z y = s.memberErr z y := by
  have huc : (s.noCmd g).ust y = s.ust y := fld_noCmd s hg (by unfold UC_STS; omega) _
  have hrat : (s.noCmd g).flag (RAT_MSTS y) RAT_MSTS_HALTED = s.flag (RAT_MSTS y) RAT_MSTS_HALTED :=
    congrArg (· == 1) (fld_noCmd s hg (by unfold RAT_MSTS; omega) _)
  have hhung : (s.noCmd g).seq.hung = s.seq.hung := rfl
  have htrim : (s.noCmd g).trimHolds y = s.trimHolds y := rfl
  simp only [State.memberErr, armErr_noCmd s hg, armAgrees_noCmd s hg, huc, hrat, hhung, htrim]

/-- The checks of ARM do not look at the pending command. -/
theorem armRefusal_noCmd (s : State) {g : Nat} (hg : g < 64) : (s.noCmd g).armRefusal g = s.armRefusal g := by
  have hmem : (s.noCmd g).members g = s.members g := rfl
  simp only [State.armRefusal, hmem, memberErr_noCmd s hg]

/-! ### ARM (Table 1-8, R122) -/

/-- What ARM does to a member. -/
def memberArm (rel y : Nat) (s : State) : State := ucGovern y (armFrames y (handOver y 15 rel (s.setMst y mARMED)))

theorem armRelease_of_idle {s : State} {g : Nat} (rel : Nat) (hgst : s.gst g = gIDLE) (hok : s.armRefusal g = none) :
    armRelease g rel s = decArm g ((forEach (s.members g) (s.setGst g gARMED) (memberArm rel)).modGrp g fun x =>
      { x with t0 := none, replayDue := false, rpass := false, held := false }) := by
  unfold armRelease
  rw [hok]
  exact if_neg (by simp [hgst])

theorem Keeps.memberArm {rel : Nat} (y : Nat) (t : State) : Keeps (· ≠ y) t (memberArm rel y t) := by
  unfold Laws.memberArm ucGovern
  exact Keeps.modMast (Keeps.setMst (not_not_intro (Eq.refl _)) Keeps.rfl).handOver.armFrames (not_not_intro (Eq.refl _))

theorem mst_memberArm (rel y : Nat) (s : State) :
    (memberArm rel y s).mst y = mARMED ∧ ((memberArm rel y s).mast y).ucGov = (s.mast y).ucMap := by
  have hk : Keeps anyYard (s.setMst y mARMED) (armFrames y (handOver y 15 rel (s.setMst y mARMED))) := Keeps.rfl.handOver.armFrames
  refine ⟨(fld_modMast ..).trans ((hk.mst trivial).trans (mst_setMst (by decide))), ?_⟩
  exact (congrArg Mast.ucGov ((mast_modMast ..).trans (if_pos rfl))).trans (congrArg Mast.ucMap (hk.mast y trivial))

theorem Keeps.cmd {Y : Nat → Prop} {s t : State} (h : Keeps Y s t) (g : Nat) : (t.grp g).cmd = (s.grp g).cmd := by
  obtain ⟨ms, cs, hg⟩ := h.grp g
  rw [hg]

/-- ARM of an idle group whose checks pass. -/
theorem armRelease_spec {s : State} {g : Nat} (rel : Nat) (hg : g < 64) (hgst : s.gst g = gIDLE) (hok : s.armRefusal g = none) :
    (armRelease g rel s).gst g = gARMED ∧ ((armRelease g rel s).grp g).cmd = (s.grp g).cmd
      ∧ (armRelease g rel s).fld (GLB_LSG_STAT g) GLB_LSG_STAT_PENDING = s.fld (GLB_LSG_STAT g) GLB_LSG_STAT_PENDING
      ∧ ∀ y ∈ s.members g, (armRelease g rel s).mst y = mARMED ∧ ((armRelease g rel s).mast y).ucGov = (s.mast y).ucMap := by
  have hlow : GLB_LSG_STAT g < 0x400000 := by unfold GLB_LSG_STAT; omega
  rw [armRelease_of_idle rel hgst hok]
  obtain ⟨u, hu⟩ : ∃ u, u = forEach (s.members g) (s.setGst g gARMED) (memberArm rel) := ⟨_, rfl⟩
  have hloop : Keeps (fun _ => False) (s.setGst g gARMED) u := hu ▸ forEach_noMast Keeps.memberArm _
  rw [← hu]
  have hdec : Keeps anyYard _ (decArm g (u.modGrp g fun x => { x with t0 := none, replayDue := false, rpass := false, held := false })) :=
    Keeps.rfl.decArm
  refine ⟨(hdec.gst hg).trans ((hloop.gst hg).trans (gst_setGst (by decide))), ?_, ?_, fun y hy => ?_⟩
  · exact (hdec.cmd g).trans ((congrArg Group.cmd ((grp_modGrp ..).trans (if_pos rfl))).trans (hloop.cmd g))
  · exact (congrArg (getF · _) ((hdec.low _ hlow).trans (hloop.low _ hlow))).trans
      (fld_setF_beside _ _ _ _ _ (by decide) (by decide) (by decide))
  · obtain ⟨v, hv, ht⟩ := forEach_member Keeps.memberArm (nodup_members s g) (s.setGst g gARMED) hy
    obtain ⟨hmst, hgov⟩ := mst_memberArm rel y v
    rw [← hu] at ht
    exact ⟨(hdec.mst trivial).trans ((ht.mst rfl).trans hmst),
      (congrArg Mast.ucGov ((hdec.mast y trivial).trans (ht.mast y rfl))).trans (hgov.trans (congrArg Mast.ucMap (hv.mast y rfl)))⟩

/-! ### START and RESUME (Table 1-8, R123) -/

/-- A group started at its release: it runs, every member from ENTRY. -/
theorem shotStart_spec {s : State} {g r : Nat} (hg : g < 64) (ht0 : (s.grp g).t0 = some r) (hr : s.reached r = true) (hhold : s.hold5 = false)
    (hheld : (s.grp g).held = false) (hgst : s.gst g ≠ gPAUSING) :
    Running s (shotStart g s) g false
      ∧ ∀ y ∈ s.members g, Started (shotStart g s) y r (s.fld (SEQ_ENTRY y) SEQ_ENTRY_ENTRY) (s.grp g).shot := by
  rw [shotStart_of_due ht0 hr hhold hheld]
  exact ⟨running_passStart r false hg hgst, fun y hy => started_passStart r hg hgst hy⟩

theorem startRelease_of_armed {s : State} {g : Nat} (rel : Nat) (hgst : s.gst g = gARMED) :
    startRelease g rel s = shotStart g (s.modGrp g fun x =>
      { x with shot := 0, attempt := 0, rpass := false, replayDue := false, held := false, t0 := some rel }) := by
  unfold startRelease
  exact if_neg (by simp [hgst])

theorem resumeRelease_of_paused {s : State} {g : Nat} (rel : Nat) (hgst : s.gst g = gPAUSED) (hdue : (s.grp g).replayDue = false) :
    resumeRelease g rel s = shotStart g (s.modGrp g fun x => { x with t0 := some rel }) := by
  unfold resumeRelease
  rw [if_neg (by simp [hgst]), if_neg (by simp [hdue])]

theorem hold5_noCmd (s : State) {g : Nat} (hg : g < 64) : (s.noCmd g).hold5 = s.hold5 :=
  congrArg (getF · _ == 1) (onlyRegs_noCmd_ne s g (by unfold REEF_STS GLB_LSG_STAT; omega))

theorem atTb1_noCmd (s : State) {g : Nat} (hg : g < 64) (r : Nat) : (s.noCmd g).atTb1 r = s.atTb1 r := by
  have hrun : (s.noCmd g).tb1Run = s.tb1Run := congrArg (· == tbRUNNING) (fld_noCmd s hg (by decide) _)
  unfold State.atTb1
  rw [hrun]
  rfl

/-- A shot that START or RESUME sets to its own release begins there. -/
theorem shotStart_at_release {s : State} {g r : Nat} {f : Group → Group} (hg : g < 64) (ht : s.atTb1 r = true) (hhold : s.hold5 = false)
    (hgst : s.gst g ≠ gPAUSING) (hf : (f { s.grp g with cmd := none }).t0 = some r) (hheld : (f { s.grp g with cmd := none }).held = false) :
    (shotStart g ((s.noCmd g).modGrp g f)).gst g = gRUNNING
      ∧ ((shotStart g ((s.noCmd g).modGrp g f)).grp g).cmd = (f { s.grp g with cmd := none }).cmd
      ∧ ((shotStart g ((s.noCmd g).modGrp g f)).grp g).shot = (f { s.grp g with cmd := none }).shot
      ∧ ∀ y ∈ s.members g, Started (shotStart g ((s.noCmd g).modGrp g f)) y r (s.fld (SEQ_ENTRY y) SEQ_ENTRY_ENTRY)
          (f { s.grp g with cmd := none }).shot := by
  have hgrp : ((s.noCmd g).modGrp g f).grp g = f { s.grp g with cmd := none } := by
    rw [grp_modGrp, if_pos rfl, grp_noCmd_same]
  have hreach : ((s.noCmd g).modGrp g f).reached r = true := reached_of_atTb1 (s := s.noCmd g) ((atTb1_noCmd s hg r).trans ht)
  have hentry (y : Nat) : ((s.noCmd g).modGrp g f).fld (SEQ_ENTRY y) SEQ_ENTRY_ENTRY = s.fld (SEQ_ENTRY y) SEQ_ENTRY_ENTRY :=
    fld_noCmd s hg (by unfold SEQ_ENTRY; omega) _
  obtain ⟨hrun, hmem⟩ := shotStart_spec (s := (s.noCmd g).modGrp g f) hg (hgrp ▸ hf) hreach ((hold5_noCmd s hg).trans hhold) (hgrp ▸ hheld)
    (fun h => hgst ((gst_noCmd s g g).symm.trans h))
  refine ⟨hrun.gst, hrun.cmd.trans (congrArg _ hgrp), hrun.shot.trans (congrArg _ hgrp), fun y hy => ?_⟩
  have hstart := hmem y hy
  rwa [hentry, hgrp] at hstart

/-! ### PAUSE and DISARM (Table 1-8) -/

theorem setMembers_spec (s : State) {g v : Nat} (hv : v < 16) :
    Keeps (fun _ => False) s (setMembers g v s) ∧ ∀ y ∈ s.members g, (setMembers g v s).mst y = v := by
  have hk (y : Nat) (t : State) : Keeps (· ≠ y) t (t.setMst y v) := Keeps.setMst (not_not_intro (Eq.refl _)) Keeps.rfl
  refine ⟨forEach_noMast hk s, fun y hy => ?_⟩
  obtain ⟨u, -, ht⟩ := forEach_member hk (nodup_members s g) s hy
  exact (ht.mst rfl).trans (mst_setMst hv)

/-- A group put in a state at rest, with its members. -/
theorem groupAtRest_spec (s : State) {g v w : Nat} (hg : g < 64) (hv : v < 16) (hw : w < 8) :
    (devRefresh (setMembers g v (s.setGst g w))).gst g = w
      ∧ (∃ ms cs, (devRefresh (setMembers g v (s.setGst g w))).grp g = { s.grp g with marks := ms, causes := cs })
      ∧ ∀ y ∈ s.members g, (devRefresh (setMembers g v (s.setGst g w))).mst y = v := by
  obtain ⟨hk, hmst⟩ := setMembers_spec (s.setGst g w) (g := g) hv
  obtain ⟨ms, cs, hgrp⟩ := hk.grp g
  exact ⟨(gst_devRefresh ..).trans ((hk.gst hg).trans (gst_setGst hw)), ⟨ms, cs, (grp_devRefresh ..).trans hgrp⟩,
    fun y hy => (mst_devRefresh ..).trans (hmst y hy)⟩

theorem pauseRelease_of_held {s : State} {g : Nat} (h : (s.grp g).held = true) : pauseRelease g s =
    devRefresh (setMembers g mPAUSED ((s.modGrp g fun x => { x with t0 := none, held := false }).setGst g gPAUSED)) := by
  unfold pauseRelease
  exact if_pos h

theorem pauseRelease_of_running {s : State} {g : Nat} (hheld : (s.grp g).held = false) (hgst : s.gst g = gRUNNING)
    (ht0 : (s.grp g).t0 = none) : pauseRelease g s = s.setGst g gPAUSING := by
  unfold pauseRelease
  dsimp only
  rw [if_neg (by simp [hheld]), if_neg (by simp [hgst]), if_neg (by simp [ht0])]

theorem disarmRelease_of_armed {s : State} {g : Nat} (h : s.gst g = gARMED ∨ s.gst g = gPAUSED) :
    disarmRelease g s = devRefresh (setMembers g mIDLE ((groupClear g s).setGst g gIDLE)) := if_pos h

/-- A group's record with nothing due and nothing marked (R54). -/
def clearedGroup (x : Group) : Group :=
  { x with t0 := none, replayDue := false, rpass := false, marks := [], causes := [], noReplay := false, held := false, runEnd := false }

theorem grp_groupClear (s : State) (g : Nat) : (groupClear g s).grp g = clearedGroup { s.grp g with cmd := none } := by
  have h : (groupClear g s).grp g = clearedGroup ((s.noCmd g).grp g) := (grp_modGrp (s.noCmd g) g g clearedGroup).trans (if_pos rfl)
  rw [h, grp_noCmd_same]

theorem mst_groupClear (s : State) {g : Nat} (hg : g < 64) (y : Nat) : (groupClear g s).mst y = s.mst y :=
  fld_noCmd s hg (by unfold SEQ_STS; omega) _

/-! ### ABORT (Table 1-8, R89) -/

theorem svcDisturb_of_host {s : State} {g : Nat} (h : (s.grp g).byService = none) (code : Nat) : svcDisturb g code s = s := by
  unfold svcDisturb
  rw [h]

theorem dropShotRecs_keeps (s : State) (g : Nat) :
    Keeps (fun _ => False) s (s.dropShotRecs g) ∧ ∀ a, (s.dropShotRecs g).rd a = s.rd a := by
  refine ⟨(Keeps.rfl.forEach fun _ _ _ h => h.modMast not_false).withBus, fun a => ?_⟩
  exact forEach_induct (P := fun t => t.rd a = s.rd a) rfl fun _ _ _ h => (rd_modMast ..).trans h

theorem Keeps.yardCut {Y : Nat → Prop} {s₀ s : State} {y a : Nat} (h : Keeps Y s₀ s) : Keeps Y s₀ (yardCut y a s) :=
  h.withBus.withBus.withTon.halIdle.strAbort.acqAbort.withdrawFormed.markerCut

/-- What an abort makes of a Mast's state (Table 3-10). -/
def mstAborted (m : Nat) : Nat := if m = mIDLE ∨ m = mARMED ∨ m = mPAUSED then mIDLE else mSTOPPING

theorem mstAborted_lt (m : Nat) : mstAborted m < 16 := by
  unfold mstAborted
  split
  · decide
  · decide

theorem mastAbort_spec (s : State) (y : Nat) :
    (mastAbort y s).mst y = mstAborted (s.mst y) ∧ ((mastAbort y s).mast y).waitd = none ∧ ((mastAbort y s).mast y).sync = none := by
  have hmst : ((s.setMst y (mstAborted (s.mst y))).setF (SEQ_STS y) SEQ_STS_STAGED 0).mst y = mstAborted (s.mst y) :=
    (fld_setF_beside _ _ _ _ _ (by decide) (by decide) (by decide)).trans (mst_setMst (mstAborted_lt _))
  exact ⟨(fld_modMast ..).trans hmst, by simp [mastAbort], by simp [mastAbort]⟩

/-- What ABORT does to a member. -/
def memberAbort (a y : Nat) (s : State) : State := mastAbort y (yardCut y a s)

theorem Keeps.memberAbort {a : Nat} (y : Nat) (t : State) : Keeps (· ≠ y) t (memberAbort a y t) :=
  Keeps.mastAbort (not_not_intro (Eq.refl _)) Keeps.rfl.yardCut

/-- The state an aborted group is left in. -/
def gstAborted (v : Nat) : Nat := if v = gARMED ∨ v = gPAUSED then gIDLE else gABORTING

theorem gstAborted_lt (v : Nat) : gstAborted v < 8 := by
  unfold gstAborted
  split
  · decide
  · decide

/-- An abort of a group that no service holds: the commands and records of its shot go, every member is cut, and the state follows. -/
theorem groupAbort_of_host {s : State} {g : Nat} (a : Nat) (hidle : s.gst g ≠ gIDLE) (hab : s.gst g ≠ gABORTING)
    (hsvc : (s.grp g).byService = none) : ∃ d, Keeps (fun _ => False) (groupClear g s) d ∧ (∀ x, d.rd x = (groupClear g s).rd x)
      ∧ groupAbort g a s = ((decAbort g (forEach (s.members g) d (memberAbort a))).modGrp g fun x => { x with lastEnd := a }).setGst g
          (gstAborted (s.gst g)) := by
  have hby : ((groupClear g s).grp g).byService = none := (congrArg Group.byService (grp_groupClear s g)).trans hsvc
  have hno : ¬ (s.gst g = gIDLE ∨ s.gst g = gABORTING) := by simp [hidle, hab]
  unfold groupAbort
  rw [svcDisturb_of_host hby]
  dsimp only
  rw [if_neg hno]
  by_cases hrest : s.gst g = gARMED ∨ s.gst g = gPAUSED
  · rw [if_pos hrest]
    exact ⟨_, Keeps.rfl, fun _ => rfl, rfl⟩
  · rw [if_neg hrest]
    obtain ⟨hk, hrd⟩ := dropShotRecs_keeps (groupClear g s) g
    exact ⟨_, hk, hrd, rfl⟩

theorem groupAbort_spec {s : State} {g : Nat} (a : Nat) (hg : g < 64) (hidle : s.gst g ≠ gIDLE) (hab : s.gst g ≠ gABORTING)
    (hsvc : (s.grp g).byService = none) :
    (groupAbort g a s).gst g = gstAborted (s.gst g) ∧ ((groupAbort g a s).grp g).cmd = none ∧ ((groupAbort g a s).grp g).t0 = none
      ∧ ((groupAbort g a s).grp g).replayDue = false
      ∧ ∀ y ∈ s.members g, (groupAbort g a s).mst y = mstAborted (s.mst y)
          ∧ ((groupAbort g a s).mast y).waitd = none ∧ ((groupAbort g a s).mast y).sync = none := by
  obtain ⟨d, hd, hrd, habort⟩ := groupAbort_of_host a hidle hab hsvc
  obtain ⟨e, he⟩ : ∃ e, e = decAbort g (forEach (s.members g) d (memberAbort a)) := ⟨_, rfl⟩
  rw [habort, ← he]
  have hloop : Keeps (fun _ => False) d e := he ▸ (forEach_noMast Keeps.memberAbort d).decAbort
  obtain ⟨ms, cs, hgrp⟩ := (hd.trans hloop).grp g
  rw [grp_groupClear] at hgrp
  have hend : (((e.modGrp g fun x => { x with lastEnd := a }).setGst g (gstAborted (s.gst g))).grp g) = { e.grp g with lastEnd := a } :=
    (grp_modGrp e g g fun x => { x with lastEnd := a }).trans (if_pos rfl)
  rw [hend, hgrp]
  refine ⟨gst_setGst (gstAborted_lt _), rfl, rfl, rfl, fun y hy => ?_⟩
  obtain ⟨u, hu, ht⟩ := forEach_member Keeps.memberAbort (nodup_members s g) d hy
  have hte : Keeps (· = y) (memberAbort a y u) e := he ▸ ht.decAbort
  have hcut : Keeps anyYard u (yardCut y a u) := Keeps.rfl.yardCut
  obtain ⟨hmst, hwaitd, hsync⟩ := mastAbort_spec (yardCut y a u) y
  have hbefore : (yardCut y a u).mst y = s.mst y :=
    (hcut.mst trivial).trans <| (hu.mst rfl).trans <| (congrArg (getF · _) (hrd _)).trans (mst_groupClear s hg y)
  refine ⟨(mst_setGst hg ..).trans <| (fld_modGrp ..).trans <| (hte.mst rfl).trans (hmst.trans (congrArg _ hbefore)), ?_, ?_⟩
  · exact (congrArg Mast.waitd (hte.mast y rfl)).trans hwaitd
  · exact (congrArg Mast.sync (hte.mast y rfl)).trans hsync

/-- Settles O2: each release is the group's transition on the state without the pending command; what it does to a member is the member's own
round of the loop, which every other round keeps (`forEach_member`). -/
theorem groupCommandReleasesMoveTheGroup : Obligations.GroupCommandReleasesMoveTheGroup := by
  have hnext {i : Instr} {s : State} {g c r : Nat} {f : Nat → State → State} (hexec : exec i s = .next (cmdRelease g c f s))
      (hcmd : (s.grp g).cmd = some ⟨c, r⟩) (ht : s.atTb1 r = true) (hheld : s.bus.held.any (fun j => j.groupCmd g) = true) :
      exec i s = .next (f r (s.noCmd g)) := hexec.trans (congrArg _ (cmdRelease_of_pending hcmd ht hheld f))
  refine ⟨?_, ?_, ?_, ?_, ?_, ?_, ?_⟩
  · intro s g r hcmd ht hheld hg hgst hok
    obtain ⟨hst, hno, hpend, hmem⟩ := armRelease_spec (s := s.noCmd g) r hg ((gst_noCmd ..).trans hgst) ((armRefusal_noCmd s hg).trans hok)
    exact ⟨_, hnext rfl hcmd ht hheld, hst, hno.trans (congrArg Group.cmd (grp_noCmd_same s g)), hpend.trans (pending_noCmd ..), hmem⟩
  · intro s g r hcmd ht hheld hg hgst hhold
    refine ⟨_, (hnext rfl hcmd ht hheld).trans (congrArg _ (startRelease_of_armed r ((gst_noCmd ..).trans hgst))), ?_⟩
    obtain ⟨hrun, hno, hshot, hmem⟩ := shotStart_at_release (f := fun x =>
      { x with shot := 0, attempt := 0, rpass := false, replayDue := false, held := false, t0 := some r }) hg ht hhold (by rw [hgst]; decide) rfl rfl
    refine ⟨hrun, hno, hshot, fun y hy => ?_⟩
    obtain ⟨hmst, horg, htq, hidx, hpc, -, -⟩ := hmem y hy
    exact ⟨hmst, horg, htq, hidx, hpc.trans (Nat.mod_eq_of_lt (getF_lt _ _ (by decide)))⟩
  · intro s g r hcmd ht hheld hg hgst hx ht0
    have hpause : pauseRelease g (s.noCmd g) = (s.noCmd g).setGst g gPAUSING :=
      pauseRelease_of_running (grp_noCmd_same s g ▸ hx) ((gst_noCmd ..).trans hgst) (grp_noCmd_same s g ▸ ht0)
    refine ⟨_, (hnext (f := fun _ => pauseRelease g) rfl hcmd ht hheld).trans (congrArg _ hpause), ?_⟩
    refine ⟨gst_setGst (by decide), grp_noCmd_same s g, fun _ => rfl, bus_noCmd s g, fun a ha => ?_, rfl⟩
    have hne : a ≠ GLB_LSG_STAT g := by simpa using ha
    exact (rd_setF_ne _ _ _ _ _ hne).trans (onlyRegs_noCmd_ne s g hne)
  · intro s g r hcmd ht hheld hg hx
    refine ⟨_, (hnext (f := fun _ => pauseRelease g) rfl hcmd ht hheld).trans (congrArg _ (pauseRelease_of_held (grp_noCmd_same s g ▸ hx))), ?_⟩
    obtain ⟨hst, ⟨ms, cs, hend⟩, hmem⟩ := groupAtRest_spec ((s.noCmd g).modGrp g fun x => { x with t0 := none, held := false }) (g := g)
      (v := mPAUSED) (w := gPAUSED) hg (by decide) (by decide)
    rw [grp_modGrp, if_pos rfl] at hend
    exact ⟨hst, congrArg Group.t0 hend, congrArg Group.held hend, hmem⟩
  · intro s g r hcmd ht hheld hg hgst hdue hx hhold
    have hresume := resumeRelease_of_paused (s := s.noCmd g) r ((gst_noCmd ..).trans hgst) (grp_noCmd_same s g ▸ hdue)
    refine ⟨_, (hnext rfl hcmd ht hheld).trans (congrArg _ hresume), ?_⟩
    obtain ⟨hrun, hno, hshot, hmem⟩ := shotStart_at_release (f := fun x => { x with t0 := some r }) hg ht hhold (by rw [hgst]; decide) rfl hx
    exact ⟨hrun, hno, hshot, fun y hy => ⟨(hmem y hy).mst, (hmem y hy).origin⟩⟩
  · intro s g r hcmd ht hheld hg hidle hab hsvc
    obtain ⟨hst, hno, ht0, hdue, hmem⟩ := groupAbort_spec (s := s.noCmd g) r hg (by rwa [gst_noCmd]) (by rwa [gst_noCmd])
      (grp_noCmd_same s g ▸ hsvc)
    refine ⟨_, hnext rfl hcmd ht hheld, (gst_devRefresh ..).trans (hst.trans (congrArg _ (gst_noCmd s g g))), ?_, ?_, ?_, fun y hy => ?_⟩
    · exact (congrArg Group.cmd (grp_devRefresh ..)).trans hno
    · exact (congrArg Group.t0 (grp_devRefresh ..)).trans ht0
    · exact (congrArg Group.replayDue (grp_devRefresh ..)).trans hdue
    · obtain ⟨hmst, hwaitd, hsync⟩ := hmem y hy
      have hbefore : (s.noCmd g).mst y = s.mst y := fld_noCmd s hg (by unfold SEQ_STS; omega) _
      refine ⟨(mst_devRefresh ..).trans (hmst.trans (congrArg _ hbefore)), ?_, ?_⟩
      · exact (congrArg Mast.waitd (mast_devRefresh ..)).trans hwaitd
      · exact (congrArg Mast.sync (mast_devRefresh ..)).trans hsync
  · intro s g r hcmd ht hheld hg hgst
    refine ⟨_, (hnext (f := fun _ => disarmRelease g) rfl hcmd ht hheld).trans (congrArg _ (disarmRelease_of_armed (by rwa [gst_noCmd]))), ?_⟩
    obtain ⟨hst, ⟨ms, cs, hend⟩, hmem⟩ := groupAtRest_spec (groupClear g (s.noCmd g)) (g := g) (v := mIDLE) (w := gIDLE) hg
      (by decide) (by decide)
    rw [grp_groupClear] at hend
    exact ⟨hst, congrArg Group.cmd hend, congrArg Group.t0 hend, hmem⟩

end Sys2Proof.Laws
end

section
namespace Sys2Proof.Laws
open Sys2Proof.Machine

-- One theorem after another: a thread for each of them passes the memory limit of the check.
set_option Elab.async false

/-! ### The end of a shot (R124, R125) -/

theorem rd_toneState {a : Nat} (ha : ∀ z k, a ≠ HAL_TGT_STS z k) (s : State) (y t : Nat) : (s.toneState y t).rd a = s.rd a := by
  have hton : a ≠ TON_TSTS y t := fun h => ha y (0x5C8 + 0x10 * t) (h.trans (by unfold TON_TSTS HAL_TGT_STS; omega))
  unfold State.toneState
  split
  · exact rd_setF_ne s (TON_TSTS y t) a _ _ hton
  · rfl

theorem rd_setTstate {a : Nat} (ha : ∀ z k, a ≠ HAL_TGT_STS z k) (s : State) (y t st seg : Nat) : (s.setTstate y t st seg).rd a = s.rd a :=
  (rd_toneState ha ..).trans ((rd_setF_ne _ _ _ _ _ (ha y t)).trans (rd_setF_ne _ _ _ _ _ (ha y t)))

theorem rd_endUses (s : State) (y : Nat) (p : Play) (a : Nat) : ((s.endPlayUse y p).endPlanUse y p).rd a = s.rd a := by
  have hplay : (s.endPlayUse y p).rd a = s.rd a := by
    unfold State.endPlayUse
    split
    · rfl
    · rfl
  refine Eq.trans ?_ hplay
  unfold State.endPlanUse
  split
  · rfl
  · rfl

theorem rd_idleTgt {a : Nat} (ha : ∀ z k, a ≠ HAL_TGT_STS z k) (s : State) (y t : Nat) : (s.idleTgt y t).rd a = s.rd a := by
  unfold State.idleTgt
  dsimp only
  split
  · exact (rd_setTstate ha ..).trans (rd_endUses ..)
  · exact rd_setTstate ha ..

/-- The end of an attempt writes no register but the states of targets. -/
theorem rd_strAttemptEnd {a : Nat} (ha : ∀ z k, a ≠ HAL_TGT_STS z k) (y : Nat) (s : State) : (strAttemptEnd y s).rd a = s.rd a :=
  forEach_induct (P := fun t => t.rd a = s.rd a) rfl fun _ _ _ h => (rd_idleTgt ha ..).trans h

theorem rd_strStands (y : Nat) (s : State) (a : Nat) : (strStands y s).rd a = s.rd a :=
  forEach_induct (P := fun t => t.rd a = s.rd a) rfl fun _ _ _ h => h

/-- The group's record of an attempt that ended, with no END among its members' programs. -/
def passedGroup (x : Group) : Group := { x with past := ((x.pass, x.shot, x.attempt, x.marks) :: x.past).take 4 }

/-- The close of a pass that no END came in: the group's record of it, and the members' starved targets at rest. -/
theorem passClose_of_noEnd {s : State} {g : Nat} (hend : ∀ z ∈ s.members g, (s.mast z).endRun = false) :
    passClose g s = forEach (s.members g) (s.modGrp g passedGroup) strAttemptEnd := by
  have hrun : (!(s.grp g).rpass && (s.members g).any fun y => (s.mast y).endRun) = false := by
    rw [Bool.and_eq_false_iff]
    exact .inr (by simpa using hend)
  unfold passClose
  simp only [hrun, Bool.or_false]
  rfl

theorem keeps_strAttemptEnd {Y : Nat → Prop} (s : State) (ys : List Nat) : Keeps Y s (forEach ys s strAttemptEnd) :=
  Keeps.rfl.forEach fun _ _ _ h => h.strAttemptEnd

/-- An attempt with nothing marked ends its shot (R125). -/
theorem passEnd_of_unmarked {s : State} {g : Nat} (hmarks : (s.grp g).marks = []) (hrpass : (s.grp g).rpass = false) (hdec : s.decOf g = []) :
    passEnd g s = shotStands g ((passClose g s).runEnds g) (passClose g s) := by
  have hrec : markRecords g (decAttemptEnd g s) = s := by
    have hatt : decAttemptEnd g s = s := by
      unfold decAttemptEnd
      rw [hdec]
      rfl
    rw [hatt]
    unfold markRecords
    simp [hmarks, forEach]
  have hrep : replayable (s.grp g) = false := by simp [replayable, hmarks]
  unfold passEnd
  simp only [hrpass, hrep, Bool.false_eq_true, if_false, hrec]

/-- Nothing of the shots counted or of an END changes with the Masts kept. -/
theorem runEnds_of_keeps {s t : State} {g : Nat} (h : Keeps anyYard s t) : t.runEnds g = s.runEnds g := by
  obtain ⟨ms, cs, hg⟩ := h.grp g
  have hcnt (y : Nat) : t.rdN (SEQ_SHOT_CNT y) = s.rdN (SEQ_SHOT_CNT y) := h.rdNOf (y := y) trivial (by unfold mastReg SEQ_SHOT_CNT; omega)
  unfold State.runEnds State.leader
  rw [h.members, hcnt, hg]

/-- The next shot, due at a given time. -/
def nextShot (t : Nat) (x : Group) : Group :=
  { x with shot := (x.shot + 1) % 2 ^ 32, attempt := 0, rpass := false, replayDue := false, t0 := some t }

/-- A shot that stands in a running group whose run goes on: the next one is due 8 ft after the last end (R125). -/
theorem shotStands_of_running {s : State} {g : Nat} (hg : g < 64) (hgst : s.gst g = gRUNNING) :
    shotStands g false s = (forEach (s.members g) s strStands).modGrp g (nextShot (ceilFt ((s.grp g).lastEnd + 8 * ft))) := by
  have hk : Keeps anyYard s (forEach (s.members g) s strStands) := Keeps.rfl.forEach fun _ _ _ h => h.strStands
  obtain ⟨ms, cs, hgrp⟩ := hk.grp g
  have hno : ¬ (forEach (s.members g) s strStands).gst g = gPAUSING := by
    rw [hk.gst hg, hgst]
    decide
  have hlast : ((forEach (s.members g) s strStands).grp g).lastEnd = (s.grp g).lastEnd := by rw [hgrp]
  unfold shotStands
  dsimp only
  rw [if_neg Bool.false_ne_true, if_neg hno, hlast]
  rfl

/-- The end of an unmarked attempt in a running group whose run goes on. -/
theorem passEnd_spec {s : State} {g : Nat} (hg : g < 64) (hgst : s.gst g = gRUNNING) (hmarks : (s.grp g).marks = [])
    (hrpass : (s.grp g).rpass = false) (hdec : s.decOf g = []) (hend : ∀ z ∈ s.members g, (s.mast z).endRun = false)
    (hruns : s.runEnds g = false) :
    (∀ y, (passEnd g s).mast y = s.mast y) ∧ ((passEnd g s).grp g).t0 = some (ceilFt ((s.grp g).lastEnd + 128))
      ∧ ((passEnd g s).grp g).shot = ((s.grp g).shot + 1) % 2 ^ 32 ∧ ((passEnd g s).grp g).attempt = 0
      ∧ ∀ a, (∀ z k, a ≠ HAL_TGT_STS z k) → (passEnd g s).rd a = s.rd a := by
  have hgrp : (s.modGrp g passedGroup).grp g = passedGroup (s.grp g) := (grp_modGrp ..).trans (if_pos rfl)
  obtain ⟨v, hv⟩ : ∃ v, v = passClose g s := ⟨_, rfl⟩
  rw [passClose_of_noEnd hend] at hv
  have hk : Keeps anyYard (s.modGrp g passedGroup) v := hv ▸ keeps_strAttemptEnd ..
  have hrd {a : Nat} (ha : ∀ z k, a ≠ HAL_TGT_STS z k) : v.rd a = s.rd a := by
    rw [hv]
    exact forEach_induct (P := fun t => t.rd a = s.rd a) rfl fun _ _ _ h => (rd_strAttemptEnd ha ..).trans h
  have hruns' : v.runEnds g = false := by
    have hpassed : (s.modGrp g passedGroup).runEnds g = s.runEnds g := by
      unfold State.runEnds
      rw [hgrp]
      rfl
    exact (runEnds_of_keeps hk).trans (hpassed.trans hruns)
  obtain ⟨w, hw⟩ : ∃ w, w = forEach (v.members g) v strStands := ⟨_, rfl⟩
  have hkw : Keeps anyYard (s.modGrp g passedGroup) w := hk.trans (hw ▸ Keeps.rfl.forEach fun _ _ _ h => h.strStands)
  have hpass : passEnd g s = w.modGrp g (nextShot (ceilFt ((s.grp g).lastEnd + 8 * ft))) := by
    obtain ⟨ms, cs, hvg⟩ := hk.grp g
    have hlast : (v.grp g).lastEnd = (s.grp g).lastEnd := by rw [hvg, hgrp]; rfl
    rw [passEnd_of_unmarked hmarks hrpass hdec, passClose_of_noEnd hend, ← hv, hruns', shotStands_of_running hg ((hk.gst hg).trans hgst),
      ← hw, hlast]
  obtain ⟨ms, cs, hwg⟩ := hkw.grp g
  have hnext : (passEnd g s).grp g = nextShot (ceilFt ((s.grp g).lastEnd + 8 * ft)) (w.grp g) := by
    rw [hpass, grp_modGrp, if_pos rfl]
  rw [hgrp] at hwg
  refine ⟨fun y => ?_, congrArg Group.t0 hnext, ?_, congrArg Group.attempt hnext, fun a ha => ?_⟩
  · rw [hpass]
    exact hkw.mast y trivial
  · rw [hnext, hwg]
    rfl
  · rw [hpass, hw]
    exact (forEach_induct (P := fun t => t.rd a = v.rd a) rfl fun _ _ _ h => (rd_strStands ..).trans h).trans (hrd ha)

/-- The state in which a member has told that its shot is over. -/
def signalled (y : Nat) (s : State) : State :=
  (s.modMast y fun m => { m with signalled := true }).modGrp (s.groupOf y) fun x => { x with lastEnd := max x.lastEnd s.tb1 }

theorem mast_signalled (s : State) (y z : Nat) :
    (signalled y s).mast z = if z = y then { s.mast y with signalled := true } else s.mast z :=
  mast_modMast s y z fun m => { m with signalled := true }

theorem grp_signalled (s : State) (y : Nat) :
    (signalled y s).grp (s.groupOf y) = { s.grp (s.groupOf y) with lastEnd := max (s.grp (s.groupOf y)).lastEnd s.tb1 } :=
  (grp_modGrp ..).trans (if_pos rfl)

theorem shotEndSignal_of_done {s : State} {y : Nat} (hmst : s.mst y = mSHOTEND) (hsig : (s.mast y).signalled = false)
    (hdone : s.shotDone y = true) (hgst : s.gst (s.groupOf y) = gRUNNING ∨ s.gst (s.groupOf y) = gPAUSING) :
    shotEndSignal y s = if (s.members (s.groupOf y)).all fun z => ((signalled y s).mast z).signalled then passEnd (s.groupOf y) (signalled y s)
      else signalled y s := by
  unfold shotEndSignal
  exact if_pos ⟨hmst, by simp [hsig], hdone, hgst⟩

/-! ### The start of a replay (R128) -/

/-- The members' replays counted. -/
def replaysCounted (g : Nat) (s : State) : State := forEach (s.members g) s fun y s => s.inc (SEQ_REPLAY_TOT y)

theorem keeps_inc_replayTot (y : Nat) (t : State) : Keeps (· ≠ y) t (t.inc (SEQ_REPLAY_TOT y)) :=
  Keeps.rfl.wrMast (not_not_intro rfl) (by unfold SEQ_REPLAY_TOT; omega)

theorem keeps_replaysCounted (g : Nat) (s : State) : Keeps (fun _ => False) s (replaysCounted g s) := forEach_noMast keeps_inc_replayTot s

theorem replaysCounted_member {s : State} {g y : Nat} (hy : y ∈ s.members g) :
    (replaysCounted g s).rdN (SEQ_REPLAY_TOT y) = min 0xFFFFFFFF (s.rdN (SEQ_REPLAY_TOT y) + 1)
      ∧ (replaysCounted g s).rd (SEQ_CTL y) = s.rd (SEQ_CTL y) := by
  have hreg : mastReg y (SEQ_REPLAY_TOT y) ∧ mastReg y (SEQ_CTL y) ∧ SEQ_CTL y ≠ SEQ_REPLAY_TOT y := by
    unfold mastReg SEQ_REPLAY_TOT SEQ_CTL
    omega
  obtain ⟨htot, hctl, hne⟩ := hreg
  obtain ⟨u, hu, ht⟩ := forEach_member keeps_inc_replayTot (nodup_members s g) s hy
  refine ⟨(ht.rdNOf rfl htot).trans ((rdN_inc ..).trans ?_), (ht.regs y rfl _ hctl).trans ((rd_inc_ne _ _ _ hne).trans (hu.regs y rfl _ hctl))⟩
  rw [hu.rdNOf rfl htot]

/-- The state in which a replay's pass starts: its members' replays counted, and its own. -/
def replayBegun (g : Nat) (s : State) : State := (replaysCounted g s).modGrp g fun x => { x with attempt := x.attempt + 1 }

theorem replayBegun_grp (g : Nat) (s : State) :
    ∃ ms cs, (replayBegun g s).grp g = { s.grp g with attempt := (s.grp g).attempt + 1, marks := ms, causes := cs } := by
  obtain ⟨ms, cs, hgrp⟩ := (keeps_replaysCounted g s).grp g
  refine ⟨ms, cs, ?_⟩
  rw [replayBegun, grp_modGrp, if_pos rfl, hgrp]

theorem replayBegun_gst {g : Nat} (hg : g < 64) (s : State) : (replayBegun g s).gst g = s.gst g := (keeps_replaysCounted g s).gst hg
theorem replayBegun_members (g : Nat) (s : State) : (replayBegun g s).members g = s.members g := (keeps_replaysCounted g s).members g

theorem replayBegun_reset_iff (s : State) (g : Nat) :
    (((replayBegun g s).members g).any fun y => (replayBegun g s).flag (SEQ_CTL y) SEQ_CTL_RST_EN) = true
      ↔ ∃ y ∈ s.members g, s.flag (SEQ_CTL y) SEQ_CTL_RST_EN = true := by
  rw [replayBegun_members, List.any_eq_true]
  refine exists_congr fun y => and_congr_right fun hy => ?_
  have hctl : (replayBegun g s).rd (SEQ_CTL y) = s.rd (SEQ_CTL y) := (replaysCounted_member hy).2
  unfold State.flag State.fld
  rw [hctl]

/-- A replay due whose causes are gone starts, in a reset pass where a member has one (R128). -/
theorem replayStart_of_due {s : State} {g r : Nat} (hdue : (s.grp g).replayDue = true)
    (hr : r = max (ceilFt ((s.grp g).lastEnd + 128)) (ceilFt s.clock.tb1)) (hreach : s.reached r = true) (hclear : s.causesClear g = true)
    (hgst : s.gst g = gRUNNING) (hhold : s.hold5 = false) (hheld : (s.grp g).held = false) :
    replayStart g s = passStart g r (((replayBegun g s).members g).any fun y => (replayBegun g s).flag (SEQ_CTL y) SEQ_CTL_RST_EN)
      (replayBegun g s) := by
  have hstart : s.startAt g r = some r := by simp [State.startAt, hreach, hhold, hheld]
  have hno : ¬ (¬ (s.grp g).replayDue = true ∨ ¬ s.reached r = true ∨ ¬ s.causesClear g = true
      ∨ (s.gst g = gPAUSED ∧ ¬ (s.grp g).held = true)) := by
    simp [hdue, hreach, hclear, hgst, gRUNNING, gPAUSED]
  unfold replayStart
  dsimp only
  rw [show max (ceilFt ((s.grp g).lastEnd + 8 * ft)) (ceilFt s.clock.tb1) = r from hr.symm, if_neg hno, hstart]
  rfl

/-- Settles O3: START and REPLAY go through `passStart`, whose members each start by `mastStart`; the last signal goes through `passEnd`, which
writes no register but targets' states. -/
theorem shotsStartTogetherAndEndWithTheLastMember : Obligations.ShotsStartTogetherAndEndWithTheLastMember := by
  refine ⟨?_, ?_, ?_, ?_⟩
  · intro s g r ht0 hr hg hhold hheld hgst
    obtain ⟨hrun, hmem⟩ := shotStart_spec hg ht0 hr hhold hheld hgst
    refine ⟨_, rfl, hrun.gst, hrun.t0, hrun.shot, fun y hy => ?_⟩
    obtain ⟨hmst, horg, htq, hidx, hpc, hloops, hclk⟩ := hmem y hy
    exact ⟨hmst, horg, htq, hidx, hpc.trans (Nat.mod_eq_of_lt (getF_lt _ _ (by decide))), hloops, hclk⟩
  · rintro s y _ z rfl hmst hsig hdone hgst hz hzy hzsig
    have hnot : ¬ ((s.members (s.groupOf y)).all fun z => ((signalled y s).mast z).signalled) = true := by
      rw [List.all_eq_true]
      intro hall
      have hz' := hall z hz
      rw [mast_signalled, if_neg hzy, hzsig] at hz'
      exact Bool.false_ne_true hz'
    refine ⟨_, congrArg Host.Outcome.next ((shotEndSignal_of_done hmst hsig hdone hgst).trans (if_neg hnot)), ?_, grp_signalled s y, rfl, rfl⟩
    exact (mast_signalled ..).trans (if_pos rfl)
  · rintro s y _ rfl hmst hsig hdone hgst hothers hrpass hmarks hend hruns hdec
    have hall : ((s.members (s.groupOf y)).all fun z => ((signalled y s).mast z).signalled) = true := by
      rw [List.all_eq_true]
      intro z hz
      rw [mast_signalled]
      split
      · rfl
      · next hzy => exact hothers z hz hzy
    have hend' : ∀ z ∈ (signalled y s).members (s.groupOf y), ((signalled y s).mast z).endRun = false := by
      intro z hz
      rw [mast_signalled]
      split
      · next hzy => exact hend y (hzy ▸ hz)
      · exact hend z hz
    have hruns' : (signalled y s).runEnds (s.groupOf y) = false := by
      unfold State.runEnds
      rw [grp_signalled]
      exact hruns
    obtain ⟨hmast, ht0, hshot, hatt, hrd⟩ := passEnd_spec (s := signalled y s) (groupOf_lt s y) hgst (by rw [grp_signalled]; exact hmarks)
      (by rw [grp_signalled]; exact hrpass) hdec hend' hruns'
    refine ⟨_, congrArg Host.Outcome.next ((shotEndSignal_of_done hmst hsig hdone (.inl hgst)).trans (if_pos hall)), ?_, ?_, ?_, hatt, hrd⟩
    · rw [hmast, mast_signalled, if_pos rfl]
    · rw [ht0, grp_signalled]
    · rw [hshot, grp_signalled]
  · intro s g r hdue hr hreach hg hclear hgst hhold hheld
    have hbegun : (replayBegun g s).gst g ≠ gPAUSING := by
      rw [replayBegun_gst hg, hgst]
      decide
    obtain ⟨ms, cs, hgrp⟩ := replayBegun_grp g s
    obtain ⟨hst, -, -, hshot, hatt, hrpass, hnodue⟩ := running_passStart (s := replayBegun g s) r _ hg hbegun
    refine ⟨_, congrArg Host.Outcome.next (replayStart_of_due hdue hr hreach hclear hgst hhold hheld), hst, ?_, hnodue, ?_, ?_, fun y hy => ?_⟩
    · rw [hatt, hgrp]
    · rw [hshot, hgrp]
    · rw [hrpass, replayBegun_reset_iff]
    · obtain ⟨horg, htot⟩ := origin_passStart r _ hg hbegun (replayBegun_members g s ▸ hy)
      exact ⟨horg, htot.trans (replaysCounted_member hy).1⟩

end Sys2Proof.Laws
end

section
namespace Sys2Proof.Laws
open Sys2Proof.Machine

-- One theorem after another: a thread for each of them passes the memory limit of the check.
set_option Elab.async false

/-! ### What keeps the image manager

`SameImage s t` says that `t` holds what the image manager of `s` holds and is in the same state of Table 2-11. Only ISTATE of IMG_STS is
followed: a timer that an injected request names writes its own STATUS at an address that the state alone does not bound. -/

structure SameImage (s t : State) : Prop where
  img : t.img = s.img
  ist : t.ist = s.ist

theorem SameImage.rfl {s : State} : SameImage s s := ⟨Eq.refl _, Eq.refl _⟩

theorem SameImage.trans {s t u : State} (h : SameImage s t) (k : SameImage t u) : SameImage s u :=
  ⟨k.img.trans h.img, k.ist.trans h.ist⟩

section
variable {s₀ s : State}

theorem SameImage.ite {t : State} (hs : SameImage s₀ s) (ht : SameImage s₀ t) {c : Prop} {d : Decidable c} :
    SameImage s₀ (if c then s else t) := by
  split
  · exact hs
  · exact ht

/-- A state that is used more than once is dealt with once. -/
theorem SameImage.andThen {t : State} (h : SameImage s₀ s) (k : SameImage s₀ s → SameImage s₀ t) : SameImage s₀ t := k h

theorem SameImage.when {c : Bool} {f : State → State} (h : SameImage s₀ s) (hf : ∀ t, SameImage s₀ t → SameImage s₀ (f t)) :
    SameImage s₀ (s.when c f) := (hf s h).ite h

theorem SameImage.forEach {α : Type} {xs : List α} {f : α → State → State} (h : SameImage s₀ s)
    (hf : ∀ x ∈ xs, ∀ t, SameImage s₀ t → SameImage s₀ (f x t)) : SameImage s₀ (forEach xs s f) := forEach_induct h hf

theorem SameImage.keep {t : State} (h : SameImage s₀ s) (hr : t.regs = s.regs := by rfl) (hi : t.img = s.img := by rfl) :
    SameImage s₀ t := h.trans ⟨hi, congrArg (fun r => getF (sget resetVal r IMG_STS) IMG_STS_ISTATE) hr⟩

theorem SameImage.wr {a : Nat} {v : Word} (h : SameImage s₀ s) (ha : a ≠ 0xE00004) : SameImage s₀ (s.wr a v) :=
  h.trans ⟨Eq.refl _, fld_wr_ne s a _ v _ ha.symm⟩

theorem SameImage.setF {a : Nat} {f : Fld} {n : Nat} (h : SameImage s₀ s) (ha : a ≠ 0xE00004) : SameImage s₀ (s.setF a f n) := h.wr ha
theorem SameImage.wrN {a n : Nat} (h : SameImage s₀ s) (ha : a ≠ 0xE00004) : SameImage s₀ (s.wrN a n) := h.wr ha
theorem SameImage.inc {a : Nat} (h : SameImage s₀ s) (ha : a ≠ 0xE00004) : SameImage s₀ (s.inc a) := h.wr ha

/-- A status stands beside ISTATE, so that even a write of IMG_STS.STATUS keeps the state. -/
theorem SameImage.status {a c : Nat} (h : SameImage s₀ s) : SameImage s₀ (s.status a c) := by
  refine h.trans ⟨Eq.refl _, ?_⟩
  by_cases ha : IMG_STS = a
  · exact ha ▸ fld_setF_beside s IMG_STS fSTATUS IMG_STS_ISTATE c (by decide) (by decide) (by decide)
  · exact fld_setF_ne s a _ _ _ c ha

theorem SameImage.withCnv {v : Cnv} (h : SameImage s₀ s) : SameImage s₀ { s with cnv := v } := h.keep
theorem SameImage.withCnvDec {v : Cnv} {w : DecS} (h : SameImage s₀ s) : SameImage s₀ { s with cnv := v, dec := w } := h.keep
theorem SameImage.withTon {v : Ton} (h : SameImage s₀ s) : SameImage s₀ { s with ton := v } := h.keep
theorem SameImage.withHif {v : Hif} (h : SameImage s₀ s) : SameImage s₀ { s with hif := v } := h.keep
theorem SameImage.withBus {v : Bus} (h : SameImage s₀ s) : SameImage s₀ { s with bus := v } := h.keep
theorem SameImage.withWch {v : Wch} (h : SameImage s₀ s) : SameImage s₀ { s with wch := v } := h.keep
theorem SameImage.withCap {v : Cap} (h : SameImage s₀ s) : SameImage s₀ { s with cap := v } := h.keep
theorem SameImage.withShr {v : Shr} (h : SameImage s₀ s) : SameImage s₀ { s with shr := v } := h.keep
theorem SameImage.modGrp {g : Nat} {f : Group → Group} (h : SameImage s₀ s) : SameImage s₀ (s.modGrp g f) := h.keep

/-! #### Outputs, converters and demodulation -/

theorem SameImage.markersCut (h : SameImage s₀ s) : SameImage s₀ (markersCut s) := h.forEach fun _ _ _ h => h.keep
theorem SameImage.fluxClear {y : Nat} (h : SameImage s₀ s) : SameImage s₀ (fluxClear y s) := h.forEach fun _ _ _ h => h.keep

theorem SameImage.fluxStates {y : Nat} (h : SameImage s₀ s) : SameImage s₀ (fluxStates y s) :=
  h.forEach fun _ _ _ h => h.setF (by unfold FLX_STS; omega)

theorem SameImage.biaRefresh {y : Nat} (h : SameImage s₀ s) : SameImage s₀ (biaRefresh y s) :=
  (h.setF (by unfold BIA_STS; omega)).setF (by unfold BIA_STS; omega)

theorem SameImage.feed {out : Nat} {code : Int} {pin : Nat} (h : SameImage s₀ s) : SameImage s₀ (feed out code pin s) := h.ite h.withTon

theorem SameImage.biaZero {y : Nat} (h : SameImage s₀ s) : SameImage s₀ (biaZero y s) :=
  (h.wrN (by unfold BIA_ACT; omega)).feed.withTon.biaRefresh

theorem SameImage.monRefresh {m : Nat} (h : SameImage s₀ s) : SameImage s₀ (monRefresh m s) := by
  have hm := le_convPage (32 + m)
  exact ((h.setF (by unfold monSTS; omega)).setF (by omega)).setF (by omega)

theorem SameImage.injTell {i : Inj} {f : Svc → Svc} (h : SameImage s₀ s) : SameImage s₀ (injTell i f s) := by
  unfold Machine.injTell
  split
  · exact h.withWch
  · exact h

theorem SameImage.injEnd {m : Nat} {i : Inj} (h : SameImage s₀ s) : SameImage s₀ (injEnd m i s) := by
  unfold Machine.injEnd
  split
  · exact h.status
  · exact h.injTell.ite h.status

theorem SameImage.monOff (h : SameImage s₀ s) : SameImage s₀ (monOff s) :=
  h.forEach fun m _ _ h => by
    have hm := le_convPage (32 + m)
    exact SameImage.monRefresh <| SameImage.setF (SameImage.withCnv <| h.forEach fun _ _ _ h => h.injEnd) (by unfold monCTL; omega)

theorem SameImage.acqRefresh {y c : Nat} (h : SameImage s₀ s) : SameImage s₀ (acqRefresh y c s) :=
  (h.setF (by unfold CNV_ACQ_STS; omega)).setF (by unfold DSC_STS; omega)

theorem SameImage.modDem {y c : Nat} {f : Dem → Dem} (h : SameImage s₀ s) : SameImage s₀ (s.modDem y c f) := h.keep
theorem SameImage.endWins {y c : Nat} {p : Win → Bool} (h : SameImage s₀ s) : SameImage s₀ (endWins y c p s) := h.withCnv.modDem.acqRefresh
theorem SameImage.setCst {y c v : Nat} (h : SameImage s₀ s) : SameImage s₀ (s.setCst y c v) := h.setF (by unfold DEM_STS; omega)

theorem SameImage.demStopAll {y : Nat} (h : SameImage s₀ s) : SameImage s₀ (demStopAll y s) :=
  h.forEach fun c _ _ h => by
    have hsts : DEM_STS y c ≠ 0xE00004 := by unfold DEM_STS; omega
    exact (((h.setF hsts).setF hsts).setF hsts).endWins.modDem.andThen fun k => (k.setCst.ite k.setCst).acqRefresh

/-! #### Winch, capture and Furler -/

theorem SameImage.setCore {x : Nat} {c : Core} (h : SameImage s₀ s) : SameImage s₀ (s.setCore x c) := h.keep

theorem SameImage.svcEnd {x code : Nat} (hx : x < 8) (h : SameImage s₀ s) : SameImage s₀ (svcEnd x code s) := by
  unfold Machine.svcEnd
  split
  · have k := h.setCore (x := x) (c := { s.core x with svc := none })
    exact (SameImage.withBus ((k.wr (by decide)).modGrp.ite k)).inc (by unfold WCH_SVC_CNT; omega)
  · exact h

theorem SameImage.wStopAll (h : SameImage s₀ s) : SameImage s₀ (wStopAll s) :=
  h.forEach fun x hx _ h => by
    have hx : x < 8 := List.mem_range.mp hx
    exact h.ite (((h.svcEnd hx).setF (by unfold WCH_CTL; omega)).setF (by unfold WCH_CSTS; omega)).setCore

/-! #### Queues and links -/

theorem SameImage.toHost {o : HostOut} (h : SameImage s₀ s) : SameImage s₀ (s.toHost o) := h.keep
theorem SameImage.fireVec {v : Nat} (h : SameImage s₀ s) : SameImage s₀ (fireVec v s) := (h.ite h.withHif).ite h.toHost
theorem SameImage.setQue {q : Nat} {x : Que} (h : SameImage s₀ s) : SameImage s₀ (s.setQue q x) := h.keep
theorem SameImage.modQue {q : Nat} {f : Que → Que} (h : SameImage s₀ s) : SameImage s₀ (s.modQue q f) := h.keep

theorem SameImage.ringWrite {q off : Nat} {bs : List (BitVec 8)} (h : SameImage s₀ s) : SameImage s₀ (ringWrite q off bs s) :=
  h.withCnv.ite h.toHost

theorem SameImage.writeBack {q i : Nat} (h : SameImage s₀ s) : SameImage s₀ (writeBack q i s) := h.ite h.toHost
theorem SameImage.qVisible {q n : Nat} (h : SameImage s₀ s) : SameImage s₀ (qVisible q n s) := h.setQue.fireVec.ite h.setQue

theorem SameImage.advanceCons {q n : Nat} (h : SameImage s₀ s) : SameImage s₀ (advanceCons q n s) := by
  induction n generalizing s with
  | zero => exact h
  | succ n ih =>
    unfold Machine.advanceCons
    dsimp only
    split
    · split
      · exact ih h.setQue.writeBack
      · exact h
    · exact h

theorem SameImage.changeSeg {y q i : Nat} {e : Seg} (h : SameImage s₀ s) : SameImage s₀ (s.changeSeg y q i e) := h.keep

theorem SameImage.descDone {q i code : Nat} (h : SameImage s₀ s) : SameImage s₀ (descDone q i code s) := by
  unfold Machine.descDone
  split
  · exact h
  · exact SameImage.andThen (SameImage.advanceCons (SameImage.modQue (h.ringWrite.ringWrite.changeSeg.ite h.ringWrite.ringWrite))) fun k =>
      k.modQue.fireVec.ite k.qVisible

theorem SameImage.dmaLinkDown {l : Nat} (h : SameImage s₀ s) : SameImage s₀ (dmaLinkDown l s) :=
  h.forEach fun _ _ _ h => h.forEach fun _ _ _ h => h.descDone

theorem SameImage.insDrop {l : Nat} (h : SameImage s₀ s) : SameImage s₀ (insDrop l s) :=
  (h.forEach fun _ _ _ h => h.changeSeg.ite h).withHif

theorem SameImage.setLink {l : Nat} {x : OzlLink} (h : SameImage s₀ s) : SameImage s₀ (s.setLink l x) := h.keep
theorem SameImage.modStay {f : StayS → StayS} (h : SameImage s₀ s) : SameImage s₀ (s.modStay f) := h.keep

theorem SameImage.setLst {l v : Nat} (hl : l < 6) (h : SameImage s₀ s) : SameImage s₀ (s.setLst l v) :=
  (h.setF (by unfold OZL_STS; omega)).setF (by decide)

theorem SameImage.setLanes {l v : Nat} (h : SameImage s₀ s) : SameImage s₀ (s.setLanes l v) :=
  h.forEach fun i hi _ h => by
    have hi : i < 4 := List.mem_range.mp hi
    exact h.setF (by unfold OZL_LSTS; omega)

theorem SameImage.lClear {l : Nat} (hl : l < 6) (h : SameImage s₀ s) : SameImage s₀ (lClear l s) := by
  have hsts : OZL_STS l ≠ 0xE00004 := by unfold OZL_STS; omega
  have hpm : OZL_PMSTS l ≠ 0xE00004 := by unfold OZL_PMSTS; omega
  have hpeer : OZL_PEER l ≠ 0xE00004 := by unfold OZL_PEER; omega
  unfold Machine.lClear
  extract_lets _ _ _ _ s₁ _ _ s₂ s₃ s₄
  have h₂ : SameImage s₀ s₂ := h.dmaLinkDown.insDrop.setLink.withCnvDec
  have h₃ : SameImage s₀ s₃ := ((h₂.setF hsts).setF hsts).setF hsts
  have h₄ : SameImage s₀ s₄ := (h₃.setF hpm).setF hpm
  exact SameImage.setF (h₄.setF hpeer).modStay (by unfold STAY_LNK_STS; omega)

theorem SameImage.linksDevice (h : SameImage s₀ s) : SameImage s₀ (linksDevice s) :=
  h.forEach fun l hl _ h => by
    have hl : l < 6 := List.mem_range.mp hl
    exact (h.ite ((h.lClear hl).setLst hl).setLanes).ite <| SameImage.ite (SameImage.setLink (h.setLst hl).setLanes) h

/-! #### A full image begins (R75, R537) -/

theorem SameImage.enterConfig (h : SameImage s₀ s) : SameImage s₀ (enterConfig s) :=
  (SameImage.forEach (SameImage.setF h (by decide)).monOff.wStopAll.markersCut
    fun _ _ _ h => h.fluxClear.fluxStates.biaZero.demStopAll).linksDevice

theorem SameImage.setPst {p v : Nat} (hp : p < 8) (h : SameImage s₀ s) : SameImage s₀ (s.setPst p v) :=
  (h.setF (by unfold SHR_PSTS; omega)).setF (by decide)

theorem SameImage.shrEnd {p code : Nat} (hp : p < 8) (h : SameImage s₀ s) : SameImage s₀ (shrEnd p code s) := by
  have hsts : SHR_PSTS p ≠ 0xE00004 := by unfold SHR_PSTS; omega
  exact (h.withShr.withShr.setF hsts).setF hsts

theorem SameImage.zeroiseAll (h : SameImage s₀ s) : SameImage s₀ (zeroiseAll s) :=
  h.forEach fun _ hp _ h => ((h.shrEnd (List.mem_range.mp hp)).setPst (List.mem_range.mp hp)).ite h

theorem SameImage.fullBegins (h : SameImage s₀ s) : SameImage s₀ (fullBegins s) := (h.enterConfig.ite h).zeroiseAll

end

/-- No zeroisation writes GLB_STATE. -/
theorem SameMode.zeroiseAll {s₀ s : State} (h : SameMode s₀ s) : SameMode s₀ (zeroiseAll s) :=
  h.forEach fun p hp _ h => by
    have hp : p < 8 := List.mem_range.mp hp
    have hsts : SHR_PSTS p ≠ 0x8000 ∧ SHR_PSTS p ≠ 0x300008 := by unfold SHR_PSTS; omega
    refine SameMode.ite ?_ h
    exact SameMode.wrNe (SameMode.wrNe (SameMode.wrNe (SameMode.wrNe h.keep hsts) hsts) hsts) (by decide)

theorem dev_fullBegins {s : State} (h : s.dev = dCONFIG ∨ s.dev = dREADY) : (fullBegins s).dev = dCONFIG := by
  refine SameMode.rfl.zeroiseAll.dev.trans ?_
  split
  · exact dev_enterConfig s
  · next hready => exact h.resolve_right hready

end Sys2Proof.Laws
end

section
namespace Sys2Proof.Laws
open Sys2Proof.Machine

-- One theorem after another: a thread for each of them passes the memory limit of the check.
set_option Elab.async false

/-! ### Bytes stored in a row -/

theorem ldList_stList (m : Store) (a : Nat) (bs : List (BitVec 8)) : ldList (stList m a bs) a bs.length = bs := by
  induction bs generalizing m a with
  | nil => rfl
  | cons b bs ih =>
    have hb : ldByte (stList (stByte m a b) (a + 1) bs) a = b := by
      rw [ldByte_stList_ne _ _ _ _ (.inl (by omega)), ldByte_stByte, if_pos rfl]
    simp only [stList, List.length_cons, ldList, hb, ih]

/-! ### IMG_STS (Tables 2-11, 2-12)

Every command of the image manager sets STATUS and ISTATE together. -/

theorem ist_setIst (s : State) {v : Nat} (hv : v < 8) : (s.setIst v).ist = v :=
  (fld_setF _ _ _ _ (by decide)).trans (Nat.mod_eq_of_lt hv)

theorem status_setIst (s : State) (v : Nat) : (s.setIst v).fld IMG_STS IMG_STS_STATUS = s.fld IMG_STS IMG_STS_STATUS :=
  fld_setF_beside _ _ _ _ _ (by decide) (by decide) (by decide)

theorem status_imgStatus (s : State) {code : Nat} (hc : code < 2 ^ 16) : (imgStatus code s).fld IMG_STS IMG_STS_STATUS = code :=
  (fld_setF _ _ _ _ (by decide)).trans (Nat.mod_eq_of_lt hc)

theorem ist_imgStatus (s : State) (code : Nat) : (imgStatus code s).ist = s.ist :=
  fld_setF_beside _ _ _ _ _ (by decide) (by decide) (by decide)

theorem onlyRegs_setIst (s : State) (v : Nat) : s.onlyRegs (s.setIst v) [IMG_STS] := onlyRegs_setF ..

theorem onlyRegs_imgStatus (s : State) (code : Nat) : s.onlyRegs (imgStatus code s) [IMG_STS] := onlyRegs_setF ..

/-- STATUS and ISTATE of IMG_STS set. -/
def imgMoved (code v : Nat) (s : State) : State := (imgStatus code s).setIst v

theorem imgMoved_spec (s : State) {code v : Nat} (hc : code < 2 ^ 16) (hv : v < 8) :
    (imgMoved code v s).ist = v ∧ (imgMoved code v s).fld IMG_STS IMG_STS_STATUS = code ∧ s.onlyRegs (imgMoved code v s) [IMG_STS] :=
  ⟨ist_setIst _ hv, (status_setIst ..).trans (status_imgStatus s hc),
    onlyRegs_trans (onlyRegs_imgStatus ..) (onlyRegs_setIst ..) (List.Subset.refl _) (List.Subset.refl _)⟩

/-- A failure (Table 2-11). -/
theorem imgFail_spec (s : State) {code : Nat} (cls rec i : Nat) (hc : code < 2 ^ 16) :
    (imgFail code cls rec i s).ist = iFAILED ∧ (imgFail code cls rec i s).fld IMG_STS IMG_STS_STATUS = code
      ∧ (imgFail code cls rec i s).rdN IMG_DETAIL = i % 2 ^ 32 * 2 ^ 32 + rec % 2 ^ 16 * 2 ^ 16 + cls % 256
      ∧ s.onlyRegs (imgFail code cls rec i s) [IMG_STS, IMG_DETAIL] := by
  refine ⟨ist_setIst _ (by decide), ?_, ?_, ?_⟩
  · exact (status_setIst ..).trans <| (fld_wrN_ne _ _ _ _ _ (by decide)).trans (status_imgStatus s hc)
  · refine (rdN_setF_ne _ _ _ _ _ (by decide)).trans <| (rdN_wrN ..).trans (Nat.mod_eq_of_lt ?_)
    omega
  · have hdetail : s.onlyRegs (imgDetail cls rec i (imgStatus code s)) [IMG_STS, IMG_DETAIL] :=
      onlyRegs_trans (onlyRegs_imgStatus ..) (onlyRegs_wr ..) (by simp) (by simp)
    exact onlyRegs_trans hdetail (onlyRegs_setIst ..) (by simp) (by simp)

theorem img_imgFail (s : State) (code cls rec i : Nat) : (imgFail code cls rec i s).img = s.img :=
  (setF_img ..).trans <| (wrN_img ..).trans (setF_img ..)

/-! ### IMG_LOAD (R72, R75) -/

/-- What an accepted LOAD leaves before a full image takes effect on the device. -/
def loading (full flash : Bool) (s : State) : State :=
  let t := imgDrop (imgMoved 0 iFETCHING s)
  { t with img := { t.img with fromFlash := flash, auto_ := false, full := full } }

theorem exec_imgLoad {s : State} {full flash : Bool} (hs : s.opens IMG_CTL)
    (hok : s.loadCheck full flash (s.rdN IMG_SRC) (s.fld IMG_LEN IMG_LEN_LEN) = 0) :
    exec (.imgLoad flash full) s = .next (if full then fullBegins (loading full flash s) else loading full flash s) := by
  have hcmd : imgCtlWrite (1 + 16 * b01 flash) full s
      = imgLoad full flash false (s.rdN IMG_SRC) (s.fld IMG_LEN IMG_LEN_LEN) s := by
    cases flash
    · rfl
    · rfl
  refine congrArg Host.Outcome.next ((hostWr_of_opens hs _).trans (hcmd.trans ?_))
  simp only [imgLoad, hok]
  rfl

/-- A full image is loaded in CONFIG or READY only (R75). -/
theorem dev_of_loadCheck {s : State} {flash : Bool} {src len : Nat} (h : s.loadCheck true flash src len = 0) :
    s.dev = dCONFIG ∨ s.dev = dREADY := by
  by_contra hno
  obtain ⟨hcfg, hready⟩ := not_or.mp hno
  have hdev : true = true ∧ s.dev ≠ dCONFIG ∧ s.dev ≠ dREADY := ⟨rfl, hcfg, hready⟩
  unfold State.loadCheck at h
  rw [if_pos hdev] at h
  split_ifs at h
  all_goals exact absurd h (by decide)

theorem dev_loading (full flash : Bool) (s : State) : (loading full flash s).dev = s.dev :=
  (fld_setF_ne _ _ _ _ _ _ (by decide)).trans (fld_setF_ne _ _ _ _ _ _ (by decide))

/-! ### Header and fetch (R72, R76) -/

theorem not_zeroising {s : State} (h : ∀ p, p < 8 → s.pst p ≠ pZEROISING) :
    ((List.range 8).any fun p => s.pst p == pZEROISING) = false := by
  simpa using h

/-- The first bytes are staged. -/
def headStaged (bs : List (BitVec 8)) (s : State) : State := { s with img := { s.img with staging := stList [] 0 bs, held := 64 } }

theorem exec_imgHeaderStaged {s : State} {bs : List (BitVec 8)} (hist : s.ist = iFETCHING) (hheld : s.img.held = 0) (hlen : bs.length = 64)
    (hauto : s.img.auto_ = false) (hzer : ∀ p, p < 8 → s.pst p ≠ pZEROISING)
    (htotal : ldBytes (stList [] 0 bs) 0x10 4 = s.fld IMG_LEN IMG_LEN_LEN) :
    exec (.imgHeaderStaged bs) s = .next (kindStaged (headStaged bs s)) := by
  have hgo : ¬ (s.ist ≠ iFETCHING ∨ s.img.held ≠ 0 ∨ bs.length ≠ 64
      ∨ ((List.range 8).any fun p => s.pst p == pZEROISING) = true) := by
    simp [hist, hheld, hlen, not_zeroising hzer]
  have hwant : ¬ s.img.auto_ = true := by simp [hauto]
  exact congrArg Host.Outcome.next ((if_neg hgo).trans (if_neg (not_not_intro (htotal.trans (if_neg hwant).symm))))

/-- The header says what the LOAD was told. -/
theorem kindStaged_of_agrees {s : State} (h : s.img.full = true ↔ s.iKind = 1) : kindStaged s = s := by
  refine if_pos ?_
  rw [Bool.eq_iff_iff, h, beq_iff_eq]

/-- A full image found where none was announced, in a state that admits none (R75). -/
theorem kindStaged_of_refused {s : State} (hfull : s.img.full = false) (hkind : s.iKind = 1) (hcfg : s.dev ≠ dCONFIG)
    (hready : s.dev ≠ dREADY) : kindStaged s = imgFail E_GLB_DEV_STATE 0 0 0 s := by
  simp [kindStaged, hfull, hkind, hcfg, hready]

theorem exec_imgFetchComplete {s : State} {bs : List (BitVec 8)} (hist : s.ist = iFETCHING) (hzer : ∀ p, p < 8 → s.pst p ≠ pZEROISING)
    (hheld : s.img.held = 64) (hlen : bs.length = s.iTotal) (hhead : bs.take 64 = ldList s.img.staging 0 64) :
    exec (.imgFetchComplete bs) s
      = .next (({ s with img := { s.img with staging := stList [] 0 bs, held := bs.length } } : State).setIst iVERIFYING) := by
  refine congrArg Host.Outcome.next (if_neg ?_)
  simp [hist, hheld, hlen, hhead, not_zeroising hzer]

/-! ### Verification and check (R73, R524) -/

theorem verifyComplete_of_refused {s : State} (hist : s.ist = iVERIFYING) (hv : (s.imgVerify (ldList s.img.staging 0 s.img.held)).1 ≠ 0) :
    verifyComplete s = imgFail E_IMG_SIG 8 0 (s.imgVerify (ldList s.img.staging 0 s.img.held)).1 s :=
  (if_neg (not_not_intro hist)).trans (if_pos hv)

/-- The image as Shroud hands it on, decrypted, with the length of its signature and the tenant that signed it. -/
def verified (s : State) : State :=
  let v := s.imgVerify (ldList s.img.staging 0 s.img.held)
  { s with img := { s.img with
      staging := stList [] 0 v.2.2, sigLen := v.2.1, tenant := match s.signer s.iKind s.iScope with | .tenant p => some p | _ => none } }

theorem verifyComplete_of_accepted {s : State} (hist : s.ist = iVERIFYING) (hv : (s.imgVerify (ldList s.img.staging 0 s.img.held)).1 = 0) :
    verifyComplete s = (verified s).setIst iCHECKING :=
  (if_neg (not_not_intro hist)).trans (if_neg (not_not_intro hv))

theorem checkComplete_of_failure {s : State} {code cls rec i : Nat} (hist : s.ist = iCHECKING) (h : s.imgCheck = some (code, cls, rec, i)) :
    checkComplete s = imgFail code cls rec i s := by
  simp [checkComplete, hist, h]

theorem checkComplete_of_passed {s : State} (hist : s.ist = iCHECKING) (h : s.imgCheck = none) :
    checkComplete s = if s.img.auto_ ∧ s.iKind = 1 then imgCommit (imgMoved 0 iCHECKED s) else imgMoved 0 iCHECKED s := by
  simp only [checkComplete, hist, h]
  rfl

/-! ### COMMIT, ABORT and CLEAR (R76 to R78, Table 2-12) -/

/-- The commit under way: its kind and scope, its release, and the words that it is to write. -/
def committing (s : State) : State :=
  { s with img := { s.img with commit := some ⟨s.iKind, s.iScope, s.boundaryIn 16, 0, s.iWords, 0, []⟩ } }

theorem commitBegin_spec (s : State) :
    (commitBegin s).ist = iCOMMITTING ∧ (commitBegin s).fld IMG_STS IMG_STS_STATUS = 0
      ∧ (commitBegin s).img = (committing s).img ∧ s.keeps (commitBegin s) [IMG_STS]
      ∧ { commitBegin s with regs := s.regs, img := s.img } = s := by
  refine ⟨(ist_imgStatus ..).trans (ist_setIst _ (by decide)), status_imgStatus _ (by decide), rfl, ?_, rfl⟩
  exact (onlyRegs_trans (onlyRegs_setIst (committing s) iCOMMITTING) (onlyRegs_imgStatus _ 0) (List.Subset.refl _) (List.Subset.refl _)).2

theorem imgCommit_of_checked {s : State} (hist : s.ist = iCHECKED) (hfull : s.iKind = 1 → s.dev = dCONFIG)
    (hpart : s.iKind ≠ 1 → (s.dev = dREADY ∨ s.dev = dRUN) ∧ s.scopeBusy = none) : imgCommit s = commitBegin s := by
  refine (if_neg (not_not_intro hist)).trans ?_
  by_cases hkind : s.iKind = 1
  · rw [if_pos hkind, if_pos (hfull hkind)]
  · obtain ⟨hdev, hbusy⟩ := hpart hkind
    have hno : ¬ (s.dev ≠ dREADY ∧ s.dev ≠ dRUN) := fun h => hdev.elim h.1 h.2
    rw [if_neg hkind, if_neg hno, hbusy]

theorem imgAbort_of_held {s : State} (hlo : iFETCHING ≤ s.ist) (hhi : s.ist ≤ iCHECKED) :
    imgAbort s = imgDrop (imgMoved E_IMG_ABORTED iIDLE s) := if_pos ⟨hlo, hhi⟩

theorem imgClear_of_failed {s : State} (hist : s.ist = iFAILED) : imgClear s = imgDrop (imgMoved 0 iIDLE s) := if_pos hist

/-- Settles O6: each command sets IMG_STS (`imgMoved`, `imgFail`) and the staged image, and the entry of a full image into CONFIG keeps
both (`SameImage`). -/
theorem imagesAreStagedCheckedAndCommitted : Obligations.ImagesAreStagedCheckedAndCommitted := by
  refine ⟨?_, ?_, ?_, ?_, ?_, ?_, ?_, ?_, ?_, ?_⟩
  · intro s flash hs hok
    obtain ⟨hist, hstatus, -, hkeeps⟩ := imgMoved_spec s (code := 0) (v := iFETCHING) (by decide) (by decide)
    exact ⟨_, exec_imgLoad hs hok, hist, hstatus, rfl, hkeeps, rfl⟩
  · intro s flash hs hok
    have k : SameImage (loading true flash s) (fullBegins (loading true flash s)) := SameImage.rfl.fullBegins
    have hist : (loading true flash s).ist = iFETCHING := ist_setIst _ (by decide)
    refine ⟨_, exec_imgLoad hs hok, k.ist.trans hist, dev_fullBegins ?_, ?_, ?_, ?_, ?_⟩
    · rw [dev_loading]
      exact dev_of_loadCheck hok
    all_goals
      rw [if_pos rfl, k.img]
      rfl
  · intro s bs hist hheld hlen hauto hzer htotal hkind
    have hagree : kindStaged (headStaged bs s) = headStaged bs s := kindStaged_of_agrees hkind
    refine ⟨_, exec_imgHeaderStaged hist hheld hlen hauto hzer htotal, ?_⟩
    rw [hagree]
    exact ⟨rfl, hlen ▸ ldList_stList .., rfl, rfl⟩
  · intro s bs hist hheld hlen hauto hzer htotal hfull hkind hcfg hready
    have hfail : kindStaged (headStaged bs s) = imgFail E_GLB_DEV_STATE 0 0 0 (headStaged bs s) := kindStaged_of_refused hfull hkind hcfg hready
    obtain ⟨hfailed, hstatus, -, -, hkeeps⟩ := imgFail_spec (headStaged bs s) 0 0 0 (code := E_GLB_DEV_STATE) (by decide)
    refine ⟨_, exec_imgHeaderStaged hist hheld hlen hauto hzer htotal, ?_⟩
    rw [hfail]
    exact ⟨hfailed, hstatus, hkeeps⟩
  · intro s bs hist hzer hheld hlen hhead
    refine ⟨_, exec_imgFetchComplete hist hzer hheld hlen hhead, ist_setIst _ (by decide), rfl, ldList_stList .., ?_, rfl⟩
    exact (onlyRegs_setIst ({ s with img := { s.img with staging := stList [] 0 bs, held := bs.length } } : State) iVERIFYING).2
  · rintro s _ hist rfl
    refine ⟨_, rfl, fun hok => ?_, fun hbad => ?_⟩
    · rw [verifyComplete_of_accepted hist hok]
      exact ⟨ist_setIst _ (by decide), rfl, (onlyRegs_setIst (verified s) iCHECKING).2⟩
    · rw [verifyComplete_of_refused hist hbad]
      obtain ⟨hfailed, hstatus, -, honly⟩ := imgFail_spec s 8 0 (s.imgVerify (ldList s.img.staging 0 s.img.held)).1 (code := E_IMG_SIG) (by decide)
      exact ⟨hfailed, hstatus, img_imgFail .., honly⟩
  · intro s hist hwhen
    obtain ⟨hchecked, hstatus, honly⟩ := imgMoved_spec s (code := 0) (v := iCHECKED) (by decide) (by decide)
    refine ⟨_, rfl, fun hpass hno => ?_, fun hpass hauto hkind => ?_, fun code cls rec i hfail hc => ?_⟩
    · have hnot : ¬ (s.img.auto_ = true ∧ s.iKind = 1) := fun h => hno.elim (by simp [h.1]) (absurd h.2)
      rw [checkComplete_of_passed hist hpass, if_neg hnot]
      exact ⟨hchecked, hstatus, honly⟩
    · have hcfg : s.dev = dCONFIG := (hwhen.resolve_left (by simp [hauto])).resolve_left (not_not_intro hkind)
      have hdev : (imgMoved 0 iCHECKED s).dev = dCONFIG := (fld_of_onlyRegs honly (by decide) _).trans hcfg
      rw [checkComplete_of_passed hist hpass, if_pos ⟨hauto, hkind⟩, imgCommit_of_checked hchecked (fun _ => hdev) (absurd hkind)]
      obtain ⟨hcommitting, -, himg, -, -⟩ := commitBegin_spec (imgMoved 0 iCHECKED s)
      exact ⟨hcommitting, himg ▸ rfl⟩
    · rw [checkComplete_of_failure hist hfail]
      exact imgFail_spec s cls rec i hc
  · intro s hs hist hfull hpart
    refine ⟨_, congrArg Host.Outcome.next (hostWr_of_opens hs _), ?_⟩
    rw [imgCommit_of_checked hist hfull hpart]
    exact commitBegin_spec s
  · intro s hs hlo hhi
    refine ⟨_, congrArg Host.Outcome.next (hostWr_of_opens hs _), ?_⟩
    rw [imgAbort_of_held hlo hhi]
    obtain ⟨hist, hstatus, -, hkeeps⟩ := imgMoved_spec s (code := E_IMG_ABORTED) (v := iIDLE) (by decide) (by decide)
    exact ⟨hist, hstatus, rfl, rfl, hkeeps, rfl⟩
  · intro s hs hist
    refine ⟨_, congrArg Host.Outcome.next (hostWr_of_opens hs _), ?_⟩
    rw [imgClear_of_failed hist]
    obtain ⟨hidle, hstatus, -, hkeeps⟩ := imgMoved_spec s (code := 0) (v := iIDLE) (by decide) (by decide)
    exact ⟨hidle, hstatus, rfl, rfl, hkeeps, rfl⟩

end Sys2Proof.Laws
end

section
namespace Sys2Proof.Laws
open Sys2Proof.Machine

-- One theorem after another: a thread for each of them passes the memory limit of the check.
set_option Elab.async false

/-! ### What a new configuration keeps of the image manager (R71, R85) -/

section
variable {s₀ s : State}

theorem SameImage.wNewOwner {x : Nat} (hx : x < 8) (h : SameImage s₀ s) : SameImage s₀ (wNewOwner x s) := by
  have k := h.withWch (v := { s.wch with mem := s.wch.mem.filter fun p => p.1 / 524288 != x })
  refine SameImage.wrN (SameImage.setCore <| SameImage.forEach (k.forEach fun r hr _ h => ?_) fun a ha _ h => ?_)
    (by unfold WCH_CSTS; omega)
  · have hr : r < 54 := List.mem_range.mp hr
    exact h.wrN (by unfold WCH_REG; omega)
  · refine h.wrN ?_
    simp only [WCH_CTL, WCH_PC, WCH_IVEC, WCH_IEN, WCH_IPEND, WCH_FAULT, WCH_FAULT_PC, List.mem_cons, List.not_mem_nil, or_false] at ha
    omega

theorem SameImage.allotBits (h : SameImage s₀ s) : SameImage s₀ (allotBits s) :=
  (((h.setF (by decide)).setF (by decide)).setF (by decide)).setF (by decide)

theorem SameImage.setCtxSt {x v : Nat} (hx : x < 16) (h : SameImage s₀ s) : SameImage s₀ (s.setCtxSt x v) :=
  (h.setF (by unfold FRL_CTXS; omega)).setF (by unfold FRL_CTXS; omega)

theorem SameImage.newHands {old : State} (h : SameImage s₀ s) : SameImage s₀ (newHands old s) := by
  unfold Machine.newHands
  refine SameImage.allotBits <| ((h.forEach fun x hx _ h => h.wNewOwner ?_).forEach fun c hc _ h => ?_).forEach fun e he _ h => ?_
  · exact List.mem_range.mp (List.mem_of_mem_filter hx)
  · have hc : c < 16 := List.mem_range.mp (List.mem_of_mem_filter hc)
    exact h.withCap.setF (by unfold CNS_STS; omega)
  · have he : e < 4 := List.mem_range.mp (List.mem_of_mem_filter he)
    refine h.withCap.forEach fun k hk _ h => h.withCap.setCtxSt ?_
    have hk : k < 4 := List.mem_range.mp hk
    omega

theorem SameImage.linkRegs {l : Nat} (h : SameImage s₀ s) : SameImage s₀ (linkRegs l s) := by
  have hctl : OZL_CTL l ≠ 0xE00004 := by unfold OZL_CTL; omega
  refine (((h.setF hctl).setF hctl).setF (by unfold OZL_PM; omega)).forEach fun i hi _ h => ?_
  have hi : i < 4 := List.mem_range.mp hi
  have hsts : OZL_LSTS l i ≠ 0xE00004 := by unfold OZL_LSTS; omega
  exact ((h.setF hsts).setF hsts).setF hsts

end

/-- Going back to image values leaves who owns what. -/
theorem owns_imageReset (kind scope : Nat) (s : State) : (imageReset kind scope s).img.owns = s.img.owns := by
  unfold imageReset
  extract_lets gone keep i t
  have k : SameImage t (forEach (scopeYards kind scope) t fun y s => forEach (List.range 8) s fun c s =>
      (s.setF (DEM_STS y c) DEM_STS_ABANK 0).modDem y c fun d => { d with fades := [], held := none, swaps := [] }) :=
    SameImage.rfl.forEach fun y _ _ h => h.forEach fun c _ _ h => SameImage.modDem (h.setF (by unfold DEM_STS; omega))
  exact (congrArg Img.owns k.img :)

/-- The tables of a full image hold its OWNERSHIP section and nothing else. -/
theorem owns_configBase_of_full {s : State} (h : s.iKind = 1) : (configBase s).img.owns = s.iOwners.map s.owRange := by
  have hnew : (newConfig s).img.owns = s.iOwners.map s.owRange := by
    rw [newConfig, if_pos h]
    rfl
  exact (congrArg Img.owns SameImage.rfl.newHands.img).trans ((owns_imageReset ..).trans hnew)

/-- The OWNERSHIP section is read from the staged image alone. -/
theorem ownRanges_of_img {s t : State} (h : t.img = s.img) : t.iOwners.map t.owRange = s.iOwners.map s.owRange := by
  have hib : t.ib = s.ib := congrArg (fun i : Img => ldBytes i.staging) h
  have hrow : t.owRange = s.owRange := by
    funext o
    simp only [State.owRange, hib]
  simp only [State.iOwners, State.entriesOf, State.sect, State.iSects, State.dType, State.dOff, State.dLen, hib, hrow]

theorem owns_pcommitDone (s : State) : (pcommitDone s).img.owns = s.img.owns := by
  unfold pcommitDone tenantLog
  split
  · rfl
  · rfl

/-- A link commit puts the staged image in force by the KIND of that image. -/
theorem owns_linkCommit_of_full {s : State} {c : Commit} (hc : s.img.commit = some c) (hkind : c.kind = 4) (hscope : c.scope < 6)
    (hrel : c.at_ 0 s = true) (hwords : c.words = []) (hfull : s.iKind = 1) : (linkCommit s).img.owns = s.iOwners.map s.owRange := by
  have hdown : (linkDown c.scope s).img = s.img := (Keeps.rfl (Y := fun _ => False)).linkDown hscope |>.img
  have hbase : (configBase (linkDown c.scope s)).img.owns = s.iOwners.map s.owRange := by
    have hkind' : (linkDown c.scope s).iKind = 1 := (congrArg (fun i : Img => ldBytes i.staging 6 1) hdown).trans hfull
    exact (owns_configBase_of_full hkind').trans (ownRanges_of_img hdown)
  unfold linkCommit
  simp only [hc, hkind, hrel, hwords, and_self, if_true, List.foldl_nil]
  refine (congrArg Img.owns SameImage.rfl.linksDevice.img).trans ((owns_pcommitDone _).trans ?_)
  refine (congrArg Img.owns (SameImage.img ?_)).trans hbase
  exact SameImage.wrN (SameImage.when SameImage.rfl.linkRegs fun _ h => ((h.lClear hscope).setLst hscope).setLanes) (by unfold IMG_PVER_LINK; omega)

/-- The part after reset but for the image manager: number 0 of resource class 1 is owned, a link commit of link 0 is due, and the staged image
says that it is a full one, with no section. -/
def linkCommitOfFull : State :=
  { State.reset with img := { State.reset.img with staging := [(6, 1)], owns := [⟨1, 4, 0, 0, 1⟩], commit := some ⟨4, 0, 0, 0, [], 0, []⟩ } }

theorem owns_linkCommitOfFull : (linkCommit linkCommitOfFull).img.owns = [] :=
  owns_linkCommit_of_full (s := linkCommitOfFull) rfl rfl (by decide) (by decide) rfl (by decide)

/-- Refutes O7: its clause on link commits (as those on the other commits) reads the kind of the commit in progress, and no hypothesis ties
that kind to the KIND of the staged image, by which the tables are applied. In `linkCommitOfFull` the two differ: the commit is of a
link, the image a full one without an OWNERSHIP section, and the commit takes away the ownership that the clause says it leaves. COMMIT
itself makes the two kinds equal (`commitBegin`), so that such a state is not one that it leaves. -/
theorem not_commitsPutTheImageInForce : ¬ Obligations.CommitsPutTheImageInForce := by
  rintro ⟨-, -, -, -, -, hlink⟩
  obtain ⟨t, hexec, -, -, -, -, -, howns⟩ := hlink linkCommitOfFull ⟨4, 0, 0, 0, [], 0, []⟩ rfl rfl (by decide) (by decide)
    (fun _ h => absurd h (List.not_mem_nil))
  obtain rfl : linkCommit linkCommitOfFull = t := Host.Outcome.next.inj hexec
  rw [owns_linkCommitOfFull] at howns
  exact absurd howns (by decide)

end Sys2Proof.Laws
end

section
namespace Sys2Proof.Laws
open Sys2Proof.Machine

-- One theorem after another: a thread for each of them passes the memory limit of the check.
set_option Elab.async false

/-! ### What the Mast instructions change of the state: the Mast of a yard and registers

`Turn y as s₀ s` says that `s` comes from `s₀` with changes to the Mast of yard `y` and to the registers of `as` only. As with `Tidy`, the
lemma of an operation `f` is `Turn.f : Turn y as s₀ s → Turn y as s₀ (f s)`. -/

def Turn (y : Nat) (as : List Nat) (s t : State) : Prop := s.onlyMast t y ∧ s.keeps t as

theorem Turn.rfl {y : Nat} {as : List Nat} {s : State} : Turn y as s s :=
  ⟨⟨Eq.refl _, Eq.refl _, fun _ _ => Eq.refl _⟩, fun _ _ => Eq.refl _⟩

section
variable {y : Nat} {as : List Nat} {s₀ s : State}

theorem Turn.wr {a : Nat} {v : Word} (h : Turn y as s₀ s) (ha : a ∈ as) : Turn y as s₀ (s.wr a v) := by
  obtain ⟨hframe, hkeeps⟩ := h
  refine ⟨hframe, fun b hb => ?_⟩
  rw [rd_wr_ne s a b v fun e => hb (e ▸ ha)]
  exact hkeeps b hb

theorem Turn.modMast {f : Mast → Mast} (h : Turn y as s₀ s) : Turn y as s₀ (s.modMast y f) := by
  obtain ⟨⟨hframe, hseq, hmast⟩, hkeeps⟩ := h
  exact ⟨⟨hframe, hseq, fun z hz => by simp [hz, hmast z hz]⟩, hkeeps⟩

theorem Turn.setClk {c : Nat} (h : Turn y as s₀ s) : Turn y as s₀ (s.setClk y c) := h.modMast

/-- The end of loop bodies writes the LC registers of their loops (R115). -/
theorem Turn.loopEnds {pc : Nat} {ls : List LoopCtx} (h : Turn y as s₀ s) (hlc : ∀ l ∈ ls, SEQ_LC y (l.lc % 4) ∈ as) :
    Turn y as s₀ (loopEnds y pc ls s).2.2 := by
  induction ls generalizing s with
  | nil => exact h
  | cons l ls ih =>
    have hset : Turn y as s₀ (s.setLc y l.lc (s.lc y l.lc - 1)) := h.wr (hlc l List.mem_cons_self)
    unfold Machine.loopEnds
    dsimp only
    split
    · exact h
    · split
      · exact h
      · split
        · exact hset
        · exact ih hset fun m hm => hlc m (List.mem_cons_of_mem _ hm)

theorem Turn.retire {pc : Nat} (h : Turn y as s₀ s) (hpc : SEQ_PC y ∈ as) (hlc : ∀ l ∈ (s.mast y).loops, SEQ_LC y (l.lc % 4) ∈ as) :
    Turn y as s₀ (retire y pc s) := (h.loopEnds hlc).modMast.wr hpc

end

/-! ### The Mast registers, written and read -/

@[simp] theorem mast_setMst (s : State) (y v z : Nat) : (s.setMst y v).mast z = s.mast z := rfl
@[simp] theorem mast_setPc (s : State) (y v z : Nat) : (s.setPc y v).mast z = s.mast z := rfl
@[simp] theorem mast_setTq (s : State) (y v z : Nat) : (s.setTq y v).mast z = s.mast z := rfl
@[simp] theorem mast_setClk (s : State) (y c z : Nat) :
    (s.setClk y c).mast z = if z = y then { s.mast y with clk := c } else s.mast z := mast_modMast ..

theorem pc_setPc (s : State) (y v : Nat) : (s.setPc y v).pc y = v % 2 ^ 15 := fld_setF _ _ _ _ (by decide)

theorem tq_setTq (s : State) (y v : Nat) : (s.setTq y v).tq y = v % 2 ^ 64 := rdN_wrN ..

theorem g_setG (s : State) (y i v : Nat) : (s.setG y i v).g y i = v % 2 ^ 48 :=
  (rdN_wrN ..).trans (Nat.mod_eq_of_lt (Nat.lt_trans (Nat.mod_lt _ (by decide)) (by decide)))

theorem lc_setLc (s : State) (y j v : Nat) : (s.setLc y j v).lc y j = v % 2 ^ 20 :=
  (rdN_wrN ..).trans (Nat.mod_eq_of_lt (Nat.lt_trans (Nat.mod_lt _ (by decide)) (by decide)))

/-- A field of an instruction word is below two to its width. -/
theorem bits_lt (w hi lo : Nat) : bits w hi lo < 2 ^ (hi + 1 - lo) := Nat.mod_lt _ (Nat.two_pow_pos _)

/-! ### The instruction after (R115) -/

/-- Loops end by the LC registers alone. -/
theorem loopEnds_congr {y : Nat} {s t : State} (pc : Nat) (ls : List LoopCtx) (h : ∀ j, t.lc y j = s.lc y j) :
    (loopEnds y pc ls t).1 = (loopEnds y pc ls s).1 ∧ (loopEnds y pc ls t).2.1 = (loopEnds y pc ls s).2.1 := by
  induction ls generalizing s t with
  | nil => exact ⟨rfl, rfl⟩
  | cons l ls ih =>
    have hset (j : Nat) : (t.setLc y l.lc (s.lc y l.lc - 1)).lc y j = (s.setLc y l.lc (s.lc y l.lc - 1)).lc y j := by
      unfold State.lc State.setLc State.wrN State.rdN
      rw [rd_wr, rd_wr]
      split
      · rfl
      · exact h j
    unfold loopEnds
    dsimp only
    rw [h l.lc]
    split
    · exact ⟨rfl, rfl⟩
    · split
      · exact ⟨rfl, rfl⟩
      · split
        · exact ⟨rfl, rfl⟩
        · exact ih hset

theorem retire_of_loopEnds {y pc n : Nat} {s u : State} {ls : List LoopCtx} (h : loopEnds y pc (s.mast y).loops s = (ls, n, u)) :
    retire y pc s = (u.modMast y fun m => { m with loops := ls }).setPc y n := by
  unfold retire
  rw [h]

/-- Without a loop the next instruction follows. -/
theorem retire_of_noLoops {y : Nat} {s : State} (h : (s.mast y).loops = []) (pc : Nat) :
    retire y pc s = (s.modMast y fun m => { m with loops := [] }).setPc y (pc + 1) :=
  retire_of_loopEnds (by rw [h]; rfl)

theorem pc_retire (y pc : Nat) (s : State) : (retire y pc s).pc y = (loopEnds y pc (s.mast y).loops s).2.1 % 2 ^ 15 := pc_setPc ..

theorem mast_loopEnds (y pc : Nat) (ls : List LoopCtx) (s : State) (z : Nat) : (loopEnds y pc ls s).2.2.mast z = s.mast z := by
  induction ls generalizing s with
  | nil => rfl
  | cons l ls ih =>
    unfold loopEnds
    dsimp only
    split
    · rfl
    · split
      · rfl
      · split
        · rfl
        · exact ih _

theorem mast_retire (y pc : Nat) (s : State) :
    (retire y pc s).mast y = { s.mast y with loops := (loopEnds y pc (s.mast y).loops s).1 } := by
  unfold retire
  simp [mast_loopEnds]

/-- Moving past an instruction changes SEQ_PC, the LC registers and the Mast. -/
theorem turn_retire (y pc : Nat) (s : State) :
    Turn y (SEQ_PC y :: (s.mast y).loops.map fun l => SEQ_LC y (l.lc % 4)) s (retire y pc s) :=
  Turn.rfl.retire List.mem_cons_self fun _ hl => List.mem_cons_of_mem _ (List.mem_map_of_mem hl)

theorem retire_frame (y pc : Nat) (s : State) : { retire y pc s with regs := s.regs, seq := s.seq } = s := (turn_retire y pc s).1.1

theorem rd_retire (y pc : Nat) (s : State) {a : Nat} (hpc : a ≠ SEQ_PC y) (hlc : ∀ j < 4, a ≠ SEQ_LC y j) :
    (retire y pc s).rd a = s.rd a := by
  refine (turn_retire y pc s).2 a fun ha => ?_
  obtain ha | ha := List.mem_cons.mp ha
  · exact hpc ha
  · obtain ⟨l, -, hl⟩ := List.mem_map.mp ha
    exact hlc _ (Nat.mod_lt _ (by decide)) hl.symm

theorem tq_retire (y pc : Nat) (s : State) : (retire y pc s).tq y = s.tq y :=
  congrArg BitVec.toNat (rd_retire y pc s (by unfold SEQ_TQ SEQ_PC; omega) fun j _ => by unfold SEQ_TQ SEQ_LC; omega)

theorem g_retire (y pc : Nat) (s : State) {i : Nat} (hi : i < 32) : (retire y pc s).g y i = s.g y i :=
  congrArg BitVec.toNat (rd_retire y pc s (by unfold SEQ_G SEQ_PC; omega) fun j _ => by unfold SEQ_G SEQ_LC; omega)

theorem rd_sts_retire (y pc : Nat) (s : State) : (retire y pc s).rd (SEQ_STS y) = s.rd (SEQ_STS y) :=
  rd_retire y pc s (by unfold SEQ_STS SEQ_PC; omega) fun j _ => by unfold SEQ_STS SEQ_LC; omega

/-- After an effect on registers other than the LC registers the Mast moves past the instruction at SEQ_PC. -/
theorem passed_retire {s u : State} {y : Nat} {as : List Nat} (hseq : u.seq = s.seq) (hkeeps : s.keeps u as) (hlc : ∀ j < 4, SEQ_LC y j ∉ as) :
    s.passed (retire y (s.pc y) (u.setClk y (s.issueTime y + 16))) y as := by
  have hmast (z : Nat) : u.mast z = s.mast z := congrArg (fun q : Seq => tget q.masts z) hseq
  have hloops : ((u.setClk y (s.issueTime y + 16)).mast y).loops = (s.mast y).loops := by simp [hmast]
  have hends := loopEnds_congr (s := s) (t := u.setClk y (s.issueTime y + 16)) (s.pc y) (s.mast y).loops
    fun j => congrArg BitVec.toNat (hkeeps _ (hlc _ (Nat.mod_lt _ (by decide))))
  obtain ⟨⟨-, hq, hothers⟩, hregs⟩ := turn_retire y (s.pc y) (u.setClk y (s.issueTime y + 16))
  rw [hloops] at hregs
  refine ⟨?_, ?_, fun z hz => ?_, ?_, fun a ha => ?_⟩
  · rw [pc_retire, hloops, hends.2]
  · rw [mast_retire, hloops, hends.1]
    simp [hmast]
  · rw [hothers z hz]
    simp [hz, hmast]
  · rw [← hseq]
    exact congrArg (fun q : Seq => { q with masts := u.seq.masts }) hq
  · rw [List.mem_append, not_or] at ha
    exact (hregs a ha.1).trans (hkeeps a ha.2)

/-! ### The issue of an instruction (R92, R671) -/

theorem mop_of_ready {s : State} {y w : Nat} {o : MOp} (h : s.ready y o w) : mop w = o := by
  obtain ⟨rfl, hissues, -⟩ := h
  simp only [State.issues, Bool.and_eq_true, beq_iff_eq] at hissues
  exact hissues.1.2

theorem issue_of_ready {s : State} {y w : Nat} {o : MOp} (h : s.ready y o w) (k : Nat → Nat → Nat → State → State) :
    issue y o k s = k (s.pc y) w (s.issueTime y) s := by
  have hop := mop_of_ready h
  obtain ⟨rfl, hissues, hstop, hpatch, hdecode, hbody⟩ := h
  have hloop : ¬ (noBodyEnd (mop (s.word y (s.pc y))) = true ∧ ((s.mast y).loops.any fun l => l.last == s.pc y) = true) := by
    rw [hop]
    simpa using hbody
  unfold issue issueAt
  simp only [hissues, hstop, hpatch, hdecode, if_neg hloop, if_true, if_false, Bool.false_eq_true, ne_eq, not_true_eq_false]

/-- No field of an instruction that issues holds a reserved encoding (Table 3-5). -/
theorem rsvdEnc_of_ready {s : State} {y w : Nat} {o : MOp} (h : s.ready y o w) : rsvdEnc w = false := by
  obtain ⟨-, -, -, -, hdecode, -⟩ := h
  unfold State.decodeErr at hdecode
  by_contra henc
  rw [Bool.not_eq_false] at henc
  simp only [henc, or_true, if_true] at hdecode
  split at hdecode
  · exact absurd hdecode (by decide)
  · exact absurd hdecode (by decide)

end Sys2Proof.Laws
end

section
namespace Sys2Proof.Laws
open Sys2Proof.Machine

-- One theorem after another: a thread for each of them passes the memory limit of the check.
set_option Elab.async false

/-! ### The ALU functions (R100, Table 3-5) -/

theorem sgn_of_lt {w a : Nat} (h : a < 2 ^ w) : sgn w a = if a < 2 ^ (w - 1) then (a : Int) else (a : Int) - (2 ^ w : Nat) := by
  unfold sgn
  rw [Nat.mod_eq_of_lt h]

/-- Two's complement loses nothing of a number of its width. -/
theorem sgn48_inj {a b : Nat} (ha : a < 2 ^ 48) (hb : b < 2 ^ 48) (h : sgn 48 a = sgn 48 b) : a = b := by
  rw [sgn_of_lt ha, sgn_of_lt hb] at h
  norm_num at h ha hb
  split at h
  · split at h
    · omega
    · omega
  · split at h
    · omega
    · omega

theorem sgn48_bounds {a : Nat} (ha : a < 2 ^ 48) : -2 ^ 47 ≤ sgn 48 a ∧ sgn 48 a < 2 ^ 47 := by
  rw [sgn_of_lt ha]
  norm_num at ha ⊢
  split
  · omega
  · omega

theorem sgn48_unsgn48 {i : Int} (hlo : -2 ^ 47 ≤ i) (hhi : i < 2 ^ 47) : sgn 48 (unsgn 48 i) = i := by
  unfold sgn unsgn
  norm_num at hlo hhi ⊢
  split
  · omega
  · omega

theorem unsgn48_lt (i : Int) : unsgn 48 i < 2 ^ 48 := by
  unfold unsgn
  norm_num
  omega

/-- An arithmetic shift right is a division rounded down. -/
theorem sgn48_sar {a : Nat} (ha : a < 2 ^ 48) (b : Nat) : sgn 48 (aluOp 7 a b) = sgn 48 a / 2 ^ min (b % 64) 48 := by
  obtain ⟨hlo, hhi⟩ := sgn48_bounds ha
  have hshift : sgn 48 a >>> min (b % 64) 48 = sgn 48 a / 2 ^ min (b % 64) 48 := by
    rw [Int.shiftRight_eq_div_pow]
    norm_num
  have hpow : (1 : Int) ≤ 2 ^ min (b % 64) 48 := one_le_pow₀ (by norm_num)
  unfold aluOp
  dsimp only
  rw [hshift]
  refine sgn48_unsgn48 ?_ ?_
  · exact (Int.le_ediv_iff_mul_le (by omega)).mpr (by nlinarith)
  · exact Int.ediv_lt_of_lt_mul (by omega) (by nlinarith)

theorem aluOp_sub {a : Nat} (ha : a < 2 ^ 48) (b : Nat) : (aluOp 1 a b + b) % 2 ^ 48 = a := by
  unfold aluOp p48
  norm_num at ha ⊢
  omega

theorem aluOp_shl (a b : Nat) : aluOp 5 a b = if b % 64 < 48 then a * 2 ^ (b % 64) % 2 ^ 48 else 0 := by
  show (if 48 ≤ b % 64 then 0 else a * 2 ^ (b % 64) % 2 ^ 48) = _
  rw [← ite_not]
  exact if_congr Nat.not_le rfl rfl

theorem aluOp_shr (a b : Nat) : aluOp 6 a b = if b % 64 < 48 then a / 2 ^ (b % 64) else 0 := by
  show (if 48 ≤ b % 64 then 0 else a / 2 ^ (b % 64)) = _
  rw [← ite_not]
  exact if_congr Nat.not_le rfl rfl

/-- The signed maximum; at equal values the operands are equal. -/
theorem aluOp_max {a b : Nat} (ha : a < 2 ^ 48) (hb : b < 2 ^ 48) : aluOp 9 a b = if sgn 48 b ≤ sgn 48 a then a else b := by
  show (if sgn 48 a ≤ sgn 48 b then b else a) = _
  by_cases hab : sgn 48 a ≤ sgn 48 b
  · rw [if_pos hab]
    split
    · next hba => exact sgn48_inj hb ha (le_antisymm hba hab)
    · rfl
  · rw [if_neg hab, if_pos (le_of_not_ge hab)]

/-- Every function gives a value of 48 bits. -/
theorem aluOp_lt {f a b : Nat} (ha : a < 2 ^ 48) (hb : b < 2 ^ 48) : aluOp f a b < 2 ^ 48 := by
  have hmod (n : Nat) : n % p48 < 2 ^ 48 := Nat.mod_lt _ (by decide)
  unfold aluOp
  dsimp only
  split
  · exact hmod _
  · exact hmod _
  · exact Nat.and_lt_two_pow _ hb
  · exact Nat.or_lt_two_pow ha hb
  · exact Nat.xor_lt_two_pow ha hb
  · split
    · decide
    · exact hmod _
  · split
    · decide
    · exact Nat.lt_of_le_of_lt (Nat.div_le_self ..) ha
  · exact unsgn48_lt _
  · split
    · exact ha
    · exact hb
  · split
    · exact hb
    · exact ha
  · exact hmod _

/-! ### Writing a G register (R100) -/

theorem keeps_setG (s : State) (y i v : Nat) : s.keeps (s.setG y i v) [SEQ_G y i] :=
  fun _ ha => rd_wrN_ne _ _ _ _ fun e => ha (List.mem_singleton.mpr e)

/-- An instruction whose effect is a G register written. -/
theorem untimed_setG_spec (s : State) (y : Nat) {i : Nat} (hi : i < 32) (v : Nat) {t : State}
    (ht : t = untimed y (s.pc y) (s.issueTime y) (fun s => s.setG y i v) s) :
    t.g y i = v % 2 ^ 48 ∧ s.passed t y [SEQ_G y i] ∧ { t with regs := s.regs, seq := s.seq } = s := by
  subst ht
  refine ⟨(g_retire _ _ _ hi).trans (g_setG ..), passed_retire rfl (keeps_setG s y i v) fun j hj => ?_, ?_⟩
  · unfold SEQ_LC SEQ_G
    rw [List.mem_singleton]
    omega
  · exact congrArg (fun x : State => { x with regs := s.regs, seq := s.seq }) (retire_frame y (s.pc y) _)

theorem exec_movi {s : State} {y w : Nat} (h : s.ready y .movi w) :
    exec (.movi y) s = .next (untimed y (s.pc y) (s.issueTime y) (fun s => s.setG y (bits w 52 48) (bits w 47 0)) s) :=
  congrArg Host.Outcome.next (issue_of_ready h _)

theorem exec_gets {s : State} {y w : Nat} (h : s.ready y .gets w) :
    exec (.gets y) s = .next (untimed y (s.pc y) (s.issueTime y)
      (fun s => s.setG y (bits w 51 47) (s.getsVal y (bits w 55 52))) s) :=
  congrArg Host.Outcome.next (issue_of_ready h _)

theorem exec_alu {s : State} {y w : Nat} (h : s.ready y .alu w) :
    exec (.alu y) s = .next (untimed y (s.pc y) (s.issueTime y) (aluEffect y w) s) :=
  congrArg Host.Outcome.next (issue_of_ready h _)

/-- The immediate operand of an ALU word, sign-extended to 48 bits. -/
theorem aluB_eq (s : State) (y w : Nat) :
    s.aluB y w = if bits w 36 36 = 1 then (sgn 32 (bits w 31 0) % 2 ^ 48).toNat else s.g y (bits w 41 37) := by
  unfold State.aluB unsgn
  norm_num

theorem movi_spec {s : State} {y w : Nat} (h : s.ready y .movi w) : ∃ t, exec (.movi y) s = .next t ∧ t.g y (bits w 52 48) = bits w 47 0
      ∧ s.passed t y [SEQ_G y (bits w 52 48)] ∧ { t with regs := s.regs, seq := s.seq } = s := by
  obtain ⟨hg, hpassed, hframe⟩ := untimed_setG_spec s y (bits_lt w 52 48) (bits w 47 0) rfl
  exact ⟨_, exec_movi h, hg.trans (Nat.mod_eq_of_lt (bits_lt w 47 0)), hpassed, hframe⟩

theorem gets_spec {s : State} {y w : Nat} (h : s.ready y .gets w) : ∃ t, exec (.gets y) s = .next t
      ∧ t.g y (bits w 51 47) = s.getsVal y (bits w 55 52) % 2 ^ 48
      ∧ s.passed t y [SEQ_G y (bits w 51 47)] ∧ { t with regs := s.regs, seq := s.seq } = s :=
  ⟨_, exec_gets h, untimed_setG_spec s y (bits_lt w 51 47) _ rfl⟩

theorem alu_spec {s : State} {y w a b : Nat} (h : s.ready y .alu w) (hga : a = s.g y (bits w 46 42)) (ha : a < 2 ^ 48) (hgb : b = s.aluB y w)
    (hb : b < 2 ^ 48) : ∃ t, exec (.alu y) s = .next t ∧ t.g y (bits w 51 47) = aluOp (bits w 55 52) a b
      ∧ s.passed t y [SEQ_G y (bits w 51 47)] ∧ { t with regs := s.regs, seq := s.seq } = s := by
  have heffect : aluEffect y w s = s.setG y (bits w 51 47) (aluOp (bits w 55 52) a b) := by rw [aluEffect, ← hga, ← hgb]
  obtain ⟨hg, hpassed, hframe⟩ := untimed_setG_spec s y (bits_lt w 51 47) (aluOp (bits w 55 52) a b) rfl
  refine ⟨_, (exec_alu h).trans ?_, hg.trans (Nat.mod_eq_of_lt (aluOp_lt ha hb)), hpassed, hframe⟩
  rw [untimed, untimed, heffect]

/-- Settles O9: each of the three writes one G register and moves past its instruction (`untimed_setG_spec`); what an ALU word writes is
within 48 bits (`aluOp_lt`), so that the register holds the value of the function itself. -/
theorem aluMoviGetsWriteTheirLow48Bits : Obligations.AluMoviGetsWriteTheirLow48Bits := by
  refine ⟨fun s y w hready => movi_spec hready, fun s y w hready => ?_, fun s y w a b hready hga ha hgb hb => ?_⟩
  · obtain ⟨t, hexec, hg, hpassed, hframe⟩ := gets_spec hready
    refine ⟨t, hexec, ?_, ?_, ?_, ?_, ?_, hpassed, hframe⟩
    all_goals
      intro hsel
      rw [hg, hsel]
      rfl
  · obtain ⟨t, hexec, hg, hpassed, hframe⟩ := alu_spec hready hga ha (hgb.trans (aluB_eq s y w).symm) hb
    refine ⟨t, _, hexec, hg, ?_, ?_, ?_, ?_, ?_, ?_, ?_, ?_, ?_, ?_, ?_, hpassed, hframe⟩
    all_goals
      intro hfunc
      rw [hfunc]
    case refine_2 => exact ⟨aluOp_sub ha b, aluOp_lt ha hb⟩
    case refine_6 => exact aluOp_shl a b
    case refine_7 => exact aluOp_shr a b
    case refine_8 => exact sgn48_sar ha b
    case refine_10 => exact aluOp_max ha hb
    all_goals rfl

end Sys2Proof.Laws
end

section
namespace Sys2Proof.Laws
open Sys2Proof.Machine

-- One theorem after another: a thread for each of them passes the memory limit of the check.
set_option Elab.async false

/-! ### Branches (R118, Table 3-5) -/

theorem exec_br {s : State} {y w : Nat} (h : s.ready y .br w) :
    exec (.br y) s = .next (takeBranch y (bits w 14 0) (s.issueTime y) s) :=
  congrArg Host.Outcome.next (issue_of_ready h _)

theorem takeBranch_spec (s : State) (y t : Nat) {a : Nat} (ha : a < 2 ^ 15) :
    (takeBranch y a t s).pc y = a
      ∧ (takeBranch y a t s).mast y = { s.mast y with
          clk := t + 48
          loops := (s.mast y).loops.dropWhile fun l => decide (a < l.first ∨ l.last < a) }
      ∧ Turn y [SEQ_PC y] s (takeBranch y a t s) := by
  refine ⟨(pc_setPc ..).trans (Nat.mod_eq_of_lt ha), ?_, Turn.rfl.setClk.modMast.wr (List.mem_singleton.mpr rfl)⟩
  unfold takeBranch jumpTo
  simp [keepLoops, ft]

/-- The conditions of Table 3-5 by their number. -/
theorem brcTaken_iff {cond : Nat} (h : cond < 6) (a b : Nat) : brcTaken cond a b = true ↔
    (cond = 0 ∧ a = b) ∨ (cond = 1 ∧ a ≠ b) ∨ (cond = 2 ∧ sgn 48 a < sgn 48 b) ∨ (cond = 3 ∧ sgn 48 b ≤ sgn 48 a)
      ∨ (cond = 4 ∧ a < b) ∨ (cond = 5 ∧ b ≤ a) := by
  unfold brcTaken
  interval_cases cond
  all_goals simp

/-- A BRC that issues has one of the six conditions. -/
theorem brcCond_lt {s : State} {y w : Nat} (h : s.ready y .brc w) : bits w 55 53 < 6 := by
  have henc := rsvdEnc_of_ready h
  simpa [rsvdEnc, mop_of_ready h] using henc

theorem exec_brc {s : State} {y w b : Nat} (h : s.ready y .brc w) (hb : b = (if bits w 42 42 = 1 then 0 else s.g y (bits w 47 43))) :
    exec (.brc y) s = .next (if brcTaken (bits w 55 53) (s.g y (bits w 52 48)) b then takeBranch y (bits w 14 0) (s.issueTime y) s
      else untimed y (s.pc y) (s.issueTime y) id s) := by
  subst hb
  exact congrArg Host.Outcome.next (issue_of_ready h _)

/-- An instruction without an effect of its own. -/
theorem untimed_id_spec (s : State) (y : Nat) {t : State} (ht : t = untimed y (s.pc y) (s.issueTime y) id s) :
    s.passed t y [] ∧ { t with regs := s.regs, seq := s.seq } = s := by
  subst ht
  refine ⟨passed_retire rfl (fun _ _ => rfl) fun _ _ => List.not_mem_nil, ?_⟩
  exact congrArg (fun x : State => { x with regs := s.regs, seq := s.seq }) (retire_frame y (s.pc y) _)

/-! ### Loop starts (R115, R116) -/

/-- The conditions of R116 on a new loop. -/
theorem loopErr_of_nested {s : State} {y pc w : Nat} (hend : pc + 1 ≤ bits w 34 20) (hlc : ∀ l ∈ (s.mast y).loops, l.lc ≠ bits w 55 54)
    (hin : ∀ l ls, (s.mast y).loops = l :: ls → bits w 34 20 ≤ l.last ∧ l.first ≤ pc + 1) : s.loopErr y pc w = false := by
  have hany : ((s.mast y).loops.any fun l => l.lc == bits w 55 54) = false := by simpa using hlc
  unfold State.loopErr
  dsimp only
  rw [hany, decide_eq_false (by omega)]
  split
  · next l ls hl =>
    obtain ⟨hlast, hfirst⟩ := hin l ls hl
    simp only [Bool.false_or, decide_eq_false_iff_not]
    omega
  · rfl

theorem exec_loop {s : State} {y w : Nat} (h : s.ready y .loop w) (herr : s.loopErr y (s.pc y) w = false) :
    exec (.loop y) s = .next (((loopEffect y (s.pc y) w s).setClk y (s.issueTime y + ft)).setPc y (s.pc y + 1)) :=
  congrArg Host.Outcome.next ((issue_of_ready h _).trans (if_neg (by simp [herr])))

theorem loopStart_spec (s : State) (y pc w t : Nat) {n : Nat}
    (hn : n = (if bits w 53 53 = 1 then s.g y (bits w 52 48) % 2 ^ 20 else bits w 19 0)) {u : State}
    (hu : u = ((loopEffect y pc w s).setClk y t).setPc y (pc + 1)) :
    u.lc y (bits w 55 54) = n ∧ u.pc y = (pc + 1) % 2 ^ 15
      ∧ u.mast y = { s.mast y with loops := ⟨bits w 55 54, pc + 1, bits w 34 20⟩ :: (s.mast y).loops, clk := t }
      ∧ Turn y [SEQ_PC y, SEQ_LC y (bits w 55 54)] s u := by
  have hj : bits w 55 54 % 4 = bits w 55 54 := Nat.mod_eq_of_lt (bits_lt w 55 54)
  have hlt : n < 2 ^ 20 := by
    rw [hn]
    split
    · exact Nat.mod_lt _ (by decide)
    · exact bits_lt w 19 0
  subst hu
  refine ⟨?_, pc_setPc .., ?_, ?_⟩
  · refine (rdN_setF_ne _ _ _ _ _ (by unfold SEQ_LC SEQ_PC; omega)).trans ?_
    unfold loopEffect
    rw [← hn]
    exact (lc_setLc s y (bits w 55 54) n).trans (Nat.mod_eq_of_lt hlt)
  · unfold loopEffect State.setLc
    simp
  · exact Turn.wr (Turn.setClk (Turn.modMast (Turn.rfl.wr (by simp [hj])))) (by simp)

/-- Settles O10: a branch taken and a loop start write the Mast and the registers named (`takeBranch_spec`, `loopStart_spec`), a branch not
taken moves past its instruction. -/
theorem branchesAndLoopsSetThePc : Obligations.BranchesAndLoopsSetThePc := by
  refine ⟨fun s y w hready => ?_, fun s y w b hready hb => ?_, fun s y w n hready hn hend hlc hin => ?_⟩
  · obtain ⟨hpc, hmast, hframe, hkeeps⟩ := takeBranch_spec s y (s.issueTime y) (bits_lt w 14 0)
    exact ⟨_, exec_br hready, hpc, hmast, hframe, hkeeps⟩
  · rw [exec_brc hready hb, ← brcTaken_iff (brcCond_lt hready)]
    cases htaken : brcTaken (bits w 55 53) (s.g y (bits w 52 48)) b with
    | true =>
      obtain ⟨hpc, hmast, ⟨hframe, -, -⟩, hkeeps⟩ := takeBranch_spec s y (s.issueTime y) (bits_lt w 14 0)
      exact ⟨_, rfl, hframe, fun _ => ⟨hpc, congrArg Mast.clk hmast, hkeeps, congrArg Mast.loops hmast⟩, fun h => absurd rfl h⟩
    | false =>
      obtain ⟨hpassed, hframe⟩ := untimed_id_spec s y rfl
      exact ⟨_, rfl, hframe, fun h => absurd h Bool.false_ne_true, fun _ => hpassed⟩
  · obtain ⟨hn', hpc, hmast, hframe, hkeeps⟩ := loopStart_spec s y (s.pc y) w (s.issueTime y + ft) hn rfl
    exact ⟨_, exec_loop hready (loopErr_of_nested hend hlc hin), hn', hpc, hmast, hframe, hkeeps⟩

/-! ### The end of a loop body (R115) -/

section
variable {y pc : Nat} {l : LoopCtx} (ls : List LoopCtx) {s : State}

theorem loopEnds_elsewhere (h : l.last ≠ pc) : loopEnds y pc (l :: ls) s = (l :: ls, pc + 1, s) := if_pos h

theorem loopEnds_unbounded (hl : l.last = pc) (h : s.lc y l.lc = 0xFFFFF) : loopEnds y pc (l :: ls) s = (l :: ls, l.first, s) := by
  rw [loopEnds, if_neg (not_not.mpr hl), if_pos h]

theorem loopEnds_again (hl : l.last = pc) (h : 1 < s.lc y l.lc) (hb : s.lc y l.lc ≠ 0xFFFFF) :
    loopEnds y pc (l :: ls) s = (l :: ls, l.first, s.setLc y l.lc (s.lc y l.lc - 1)) := by
  rw [loopEnds, if_neg (not_not.mpr hl), if_neg hb]
  exact if_pos (by omega)

theorem loopEnds_last (hl : l.last = pc) (h : s.lc y l.lc = 1) :
    loopEnds y pc (l :: ls) s = loopEnds y pc ls (s.setLc y l.lc 0) := by
  rw [loopEnds, if_neg (not_not.mpr hl), h]
  rfl

/-- Where no loop ends there issue goes on behind the instruction. -/
theorem loopEnds_of_noEnd {ls : List LoopCtx} (h : ∀ m ∈ ls, m.last ≠ pc) : loopEnds y pc ls s = (ls, pc + 1, s) := by
  cases ls with
  | nil => rfl
  | cons m ls => exact loopEnds_elsewhere ls (h m List.mem_cons_self)

end

/-- What the Mast is left with when the loops at its instruction have ended. -/
theorem retire_spec {y pc n : Nat} {s u : State} {ls ms : List LoopCtx} (hloops : (s.mast y).loops = ms)
    (h : loopEnds y pc ms s = (ls, n, u)) :
    (retire y pc s).pc y = n % 2 ^ 15 ∧ ((retire y pc s).mast y).loops = ls ∧ ∀ j, (retire y pc s).lc y j = u.lc y j := by
  subst hloops
  refine ⟨?_, ?_, fun j => ?_⟩
  · rw [pc_retire, h]
  · rw [mast_retire, h]
  · rw [retire_of_loopEnds h]
    exact rdN_setF_ne _ _ _ _ _ (by unfold SEQ_LC SEQ_PC; omega)

theorem exec_nop {s : State} {y w : Nat} (h : s.ready y .nop w) :
    exec (.nop y 0) s = .next (untimed y (s.pc y) (s.issueTime y) id s) := by
  have hop : mop (s.word y (s.pc y)) ≠ .bad := by
    rw [h.1, mop_of_ready h]
    decide
  refine congrArg Host.Outcome.next ?_
  rw [if_pos rfl, if_neg hop]
  exact issue_of_ready h _

/-- Settles O11: what happens at the end of a body is one of three equations of `loopEnds`. -/
theorem loopBodyEndCountsDown : Obligations.LoopBodyEndCountsDown := by
  intro s y w l ls hready hloops hlast hfirst hpos hmax
  let u : State := s.setClk y (s.issueTime y + ft)
  have hu : (u.mast y).loops = l :: ls := by simpa [u] using hloops
  have hclk : (u.mast y).clk = s.issueTime y + 16 := by simp [u, ft]
  have hlc : u.lc y l.lc = s.lc y l.lc := rfl
  refine ⟨retire y (s.pc y) u, exec_nop hready, ?_, fun hunb => ?_, fun hgt hb => ?_, fun hone hothers => ?_⟩
  · rw [mast_retire]
    exact hclk
  · obtain ⟨hpc, hls, hlcs⟩ := retire_spec hu (loopEnds_unbounded ls hlast (hlc.trans hunb))
    exact ⟨(hlcs l.lc).trans (hlc.trans hunb), hpc.trans (Nat.mod_eq_of_lt hfirst), hls⟩
  · obtain ⟨hpc, hls, hlcs⟩ := retire_spec hu (loopEnds_again ls hlast hgt hb)
    refine ⟨(hlcs l.lc).trans ((lc_setLc ..).trans (Nat.mod_eq_of_lt ?_)), hpc.trans (Nat.mod_eq_of_lt hfirst), hls⟩
    rw [hlc]
    omega
  · have hend := (loopEnds_last ls hlast (hlc.trans hone)).trans (loopEnds_of_noEnd hothers)
    obtain ⟨hpc, hls, hlcs⟩ := retire_spec hu hend
    exact ⟨(hlcs l.lc).trans (lc_setLc ..), hpc, hls⟩

end Sys2Proof.Laws
end

section
namespace Sys2Proof.Laws
open Sys2Proof.Machine

-- One theorem after another: a thread for each of them passes the memory limit of the check.
set_option Elab.async false

/-! ### Timed instructions within their limits (R91, R93 to R96) -/

theorem sendTimed_keeps (y pc rel : Nat) (a : TAct) (s : State) :
    (sendTimed y pc rel a s).regs = s.regs ∧ (sendTimed y pc rel a s).seq = s.seq := by
  cases a
  all_goals exact ⟨rfl, rfl⟩

theorem timedIssue_of_timely {s : State} {y w : Nat} (h : s.timely y w) (htq : s.tq y + 16 * s.advance y w ≤ 2 ^ 48 - 16) :
    timedIssue y (s.pc y) w (s.issueTime y) s = retire y (s.pc y)
      (((sendTimed y (s.pc y) (s.origin y + s.tq y - 256) (s.capture y w) s).setTq y (s.tq y + 16 * s.advance y w)).setClk y
        (s.issueTime y + 16)) := by
  obtain ⟨herr, hlate, hahead⟩ := h
  have hrel : s.relAt y = s.origin y + s.tq y - 256 := rfl
  have hstall : ¬ (s.issueTime y + ft * s.fld (SEQ_CTL y) SEQ_CTL_AHEAD_MAX < s.relAt y) := by
    rw [hrel]
    exact not_lt.mpr hahead
  have hintime : ¬ (s.relAt y < s.issueTime y + 4 * ft) := by
    rw [hrel]
    exact not_lt.mpr hlate
  have hovf : ¬ (tqMax < s.tq y + ft * s.advance y w) := not_lt.mpr htq
  unfold timedIssue
  dsimp only
  rw [if_neg hstall, if_neg (not_not.mpr herr), if_neg hintime, if_neg hovf]
  rfl

theorem issueTimed_of_ready {s : State} {y w : Nat} {o : MOp} (h : s.ready y o w) :
    issueTimed y o s = timedIssue y (s.pc y) w (s.issueTime y) s := issue_of_ready h _

theorem timed_spec {s : State} {y w n : Nat} {o : MOp} (hready : s.ready y o w) (h : s.timely y w) (hn : n = s.tq y + 16 * s.advance y w)
    (hle : n ≤ 2 ^ 48 - 16) : ∃ t, issueTimed y o s = t ∧ t.tq y = n ∧ s.passed t y [SEQ_TQ y]
      ∧ { t with regs := s.regs, seq := s.seq } = sendTimed y (s.pc y) (s.origin y + s.tq y - 256) (s.capture y w) s := by
  subst hn
  obtain ⟨hregs, hseq⟩ := sendTimed_keeps y (s.pc y) (s.origin y + s.tq y - 256) (s.capture y w) s
  refine ⟨_, (issueTimed_of_ready hready).trans (timedIssue_of_timely h hle), ?_, passed_retire hseq (fun a ha => ?_) fun j hj => ?_, ?_⟩
  · exact (tq_retire ..).trans ((tq_setTq ..).trans (Nat.mod_eq_of_lt (by omega)))
  · refine (rd_wrN_ne _ _ _ _ fun e => ha (List.mem_singleton.mpr e)).trans ?_
    exact congrArg (sget resetVal · a) hregs
  · unfold SEQ_LC SEQ_TQ
    rw [List.mem_singleton]
    omega
  · refine (congrArg (fun x : State => { x with regs := s.regs, seq := s.seq }) (retire_frame y (s.pc y) _)).trans ?_
    rw [← hregs, ← hseq]
    rfl

/-- A timed instruction whose action is held as it is, from its issue to its release. -/
theorem timedHeld_spec {s : State} {y w n : Nat} {o : MOp} {i : Instr} {a : TAct} (hexec : exec i s = .next (issueTimed y o s))
    (hready : s.ready y o w) (h : s.timely y w) (hn : n = s.tq y + 16 * s.advance y w) (hle : n ≤ 2 ^ 48 - 16) (ha : s.capture y w = a)
    (hsend : ∀ pc rel, sendTimed y pc rel a s = s.hold ⟨rel, y, y, .ctrl, .timed y pc a⟩) : ∃ t, exec i s = .next t
      ∧ t.bus = { s.bus with held := insItem s.bus.held ⟨s.origin y + s.tq y - 256, y, y, .ctrl, .timed y (s.pc y) a⟩ }
      ∧ t.tq y = n ∧ s.passed t y [SEQ_TQ y] ∧ { t with regs := s.regs, seq := s.seq, bus := s.bus } = s := by
  obtain ⟨t, ht, htq, hpassed, hframe⟩ := timed_spec hready h hn hle
  rw [ha, hsend] at hframe
  refine ⟨t, hexec.trans (congrArg _ ht), congrArg State.bus hframe, htq, hpassed, ?_⟩
  exact congrArg (fun x : State => { x with bus := s.bus }) hframe

/-- An instruction without ADV leaves the cursor. -/
theorem advance_of_mop {s : State} {y w : Nat} {o : MOp} (h : mop w = o) (hp : o ≠ .play) (ha : o ≠ .acq) :
    s.tq y = s.tq y + 16 * s.advance y w := by
  subst h
  unfold State.advance
  split
  · next h => exact absurd h hp
  · next h => exact absurd h ha
  · rfl

theorem commit_spec {s : State} {y w : Nat} (hready : s.ready y .commit w) (h : s.timely y w) (hle : s.tq y ≤ 2 ^ 48 - 16) :
    ∃ t, exec (.commit y) s = .next t
      ∧ t.ton = { s.ton with hos := s.ton.hos ++ [⟨y, s.origin y + s.tq y - 256, bits w 55 52, false⟩] }
      ∧ t.tq y = s.tq y ∧ s.passed t y [SEQ_TQ y] ∧ { t with regs := s.regs, seq := s.seq, ton := s.ton } = s := by
  have hop := mop_of_ready hready
  have hcapture : s.capture y w = .commit (bits w 55 52) := by simp [State.capture, hop]
  obtain ⟨t, ht, htq, hpassed, hframe⟩ := timed_spec hready h (advance_of_mop hop (by decide) (by decide)) hle
  rw [hcapture] at hframe
  refine ⟨t, congrArg Host.Outcome.next ht, congrArg State.ton hframe, htq, hpassed, ?_⟩
  exact congrArg (fun x : State => { x with ton := s.ton }) hframe

theorem play_spec {s : State} {y w n len : Nat} (hready : s.ready y .play w) (h : s.timely y w)
    (hlen : len = s.playLen y (bits w 50 49) (bits w 48 37)) (hn : n = s.tq y + (if bits w 36 36 = 1 then 16 * len else 0))
    (hle : n ≤ 2 ^ 48 - 16) : ∃ t, exec (.play y) s = .next t
      ∧ t.bus = { s.bus with held := insItem s.bus.held ⟨s.origin y + s.tq y - 256, y, y, .ctrl, .timed y (s.pc y) (.play (bits w 55 51) (bits w 50 49) (bits w 48 37) (bits w 31 16) len)⟩ }
      ∧ t.hal = { s.hal with reqs := s.hal.reqs ++ [⟨y, bits w 55 51, s.origin y + s.tq y - 256, s.pc y, bits w 50 49, bits w 48 37, bits w 31 16, none⟩] }
      ∧ t.tq y = n ∧ s.passed t y [SEQ_TQ y] ∧ { t with regs := s.regs, seq := s.seq, bus := s.bus, hal := s.hal } = s := by
  subst hlen
  have hop := mop_of_ready hready
  have hcapture : s.capture y w = .play (bits w 55 51) (bits w 50 49) (bits w 48 37) (bits w 31 16) (s.playLen y (bits w 50 49) (bits w 48 37)) := by
    simp [State.capture, hop]
  have hadv : n = s.tq y + 16 * s.advance y w := by simp [hn, State.advance, hop]
  obtain ⟨t, ht, htq, hpassed, hframe⟩ := timed_spec hready h hadv hle
  rw [hcapture] at hframe
  refine ⟨t, congrArg Host.Outcome.next ht, congrArg State.bus hframe, congrArg State.hal hframe, htq, hpassed, ?_⟩
  exact congrArg (fun x : State => { x with bus := s.bus, hal := s.hal }) hframe

/-- Settles O12: within its limits a timed instruction sends its captured action out and moves past itself (`timed_spec`); all but COMMIT and
PLAY hold the action and do no more (`timedHeld_spec`). -/
theorem timedInstructionsAreHeldForTheirRelease : Obligations.TimedInstructionsAreHeldForTheirRelease := by
  refine ⟨fun s y w hready h hle => commit_spec hready h hle,
    fun s y w n len hready h hlen hn hle => play_spec hready h hlen hn hle,
    fun s y w n hready h hn hle => ?_, fun s y w v hready h hle hv => ?_, fun s y w hready h hle => ?_,
    fun s y w hready h hle => ?_, fun s y w hready h hle => ?_⟩
  case refine_1 =>
    have hop := mop_of_ready hready
    exact timedHeld_spec rfl hready h (by simp [hn, State.advance, hop]) hle (by simp [State.capture, hop]) fun _ _ => rfl
  all_goals
    have hop := mop_of_ready hready
    refine timedHeld_spec rfl hready h (advance_of_mop hop (by decide) (by decide)) hle ?_ fun _ _ => rfl
  · simp [State.capture, hop, hv]
  all_goals simp [State.capture, hop]

end Sys2Proof.Laws
end

section
namespace Sys2Proof.Laws
open Sys2Proof.Machine

-- One theorem after another: a thread for each of them passes the memory limit of the check.
set_option Elab.async false

/-! ### The abort that a program fault asks for (R51, R126) -/

theorem tb1_congr {s t : State} (hsts : t.rd STAY_STS = s.rd STAY_STS) (hclock : t.clock = s.clock) : t.tb1 = s.tb1 := by
  unfold State.tb1 State.tb1Run State.fld
  rw [hsts, hclock]

theorem mem_insItem (l : List Item) (i : Item) : i ∈ insItem l i := by
  rw [insItem_eq]
  simp

/-- An item that a test discards may be left out before it. -/
theorem filter_insItem_of_discarded {p : Item → Bool} {i : Item} (h : p i = false) (l : List Item) :
    (insItem l i).filter p = l.filter p := by
  rw [insItem_eq, List.filter_append, List.filter_cons_of_neg (by simp [h]), ← List.filter_append, List.takeWhile_append_dropWhile]

/-- The hub's own command is held at once, in place of every other command of the group. -/
theorem bus_setCmd_hub (s : State) (g c r : Nat) : (s.setCmd g c r islHub).bus = { s.bus with
    held := insItem (s.bus.held.filter fun j => !j.groupCmd g) ⟨r, islHub, islHub, .ctrl, .group g c⟩
    transit := s.bus.transit.filter fun j => !j.groupCmd g } := rfl

theorem holdsCmd_setCmd_hub (s : State) (g c r : Nat) : (s.setCmd g c r islHub).holdsCmd g c r := by
  refine ⟨?_, ?_, ?_⟩
  · rw [grp_setCmd, if_pos rfl]
  · unfold State.fld
    rw [rd_setCmd_same]
    exact getF_insF _ _ _ (by decide)
  · rw [bus_setCmd_hub]
    exact mem_insItem ..

theorem itemsBut_setCmd_hub (s : State) (g c r : Nat) : s.itemsBut (s.setCmd g c r islHub) g := by
  unfold State.itemsBut
  rw [bus_setCmd_hub]
  refine ⟨?_, List.filter_filter.trans (by simp)⟩
  rw [filter_insItem_of_discarded (by simp [Item.groupCmd])]
  exact List.filter_filter.trans (by simp)

/-- Does the group have an ABORT pending that is released no later than that of a fault now? -/
def abortsBy (s : State) (g : Nat) : Bool := (s.grp g).cmd.any fun c => c.cmd == 5 && decide (c.rel ≤ ceilFt (s.tb1 + 256))

theorem faultAbort_eq (s : State) (g : Nat) :
    s.faultAbort g = if abortsBy s g = true then s else s.setCmd g 5 (ceilFt (s.tb1 + 256)) islHub := rfl

theorem faultAbort_spec (s : State) (g : Nat) :
    (if abortsBy s g = true then (s.faultAbort g).grp g = s.grp g ∧ (s.faultAbort g).bus.held = s.bus.held
      else (s.faultAbort g).holdsCmd g 5 (ceilFt (s.tb1 + 256))) ∧ s.itemsBut (s.faultAbort g) g := by
  rw [faultAbort_eq]
  split
  · exact ⟨⟨rfl, rfl⟩, rfl, rfl⟩
  · exact ⟨holdsCmd_setCmd_hub .., itemsBut_setCmd_hub ..⟩

theorem faultAbort_frame (s : State) (g : Nat) :
    { (s.faultAbort g).bus with held := s.bus.held, transit := s.bus.transit } = s.bus
      ∧ { s.faultAbort g with regs := s.regs, seq := s.seq, bus := s.bus } = s ∧ (∀ y, (s.faultAbort g).mast y = s.mast y)
      ∧ ∀ a ≠ GLB_LSG_STAT g, (s.faultAbort g).rd a = s.rd a := by
  rw [faultAbort_eq]
  split
  · exact ⟨rfl, rfl, fun _ => rfl, fun _ _ => rfl⟩
  · exact ⟨rfl, rfl, fun _ => rfl, fun _ ha => rd_setCmd_ne _ _ _ _ _ ha⟩

/-! ### Program faults (R126) -/

/-- The Mast as a program fault stops it. -/
def mastStruck (y pc code : Nat) (s : State) : State :=
  ((((s.wrN (SEQ_FAULT y) (code % 2 ^ 16 * 2 ^ 16 + pc % 2 ^ 15)).setMst y mSTOPPING).modMast y
    fun m => { m with hold := .none, waitd := none, sync := none })).setF (SEQ_STS y) SEQ_STS_STAGED 0

theorem progFault_eq (y pc code : Nat) (s : State) : progFault y pc code s =
    (((mastStruck y pc code s).faultAbort (s.groupOf y)).yardRec y 3 ((mastStruck y pc code s).faultAbort (s.groupOf y)).tb1
      [code % 2 ^ 16 + pc % 2 ^ 15 * 2 ^ 16, 0, 0, 0, 0, 0]).reportProg code y pc := rfl

theorem turn_mastStruck (y pc code : Nat) (s : State) : Turn y [SEQ_FAULT y, SEQ_STS y] s (mastStruck y pc code s) :=
  (((Turn.rfl.wr (by simp)).wr (by simp)).modMast).wr (by simp)

theorem mastStruck_spec (y pc : Nat) {code : Nat} (hcode : code < 2 ^ 16) (s : State) :
    (mastStruck y pc code s).rdN (SEQ_FAULT y) = code * 2 ^ 16 + pc % 2 ^ 15 ∧ (mastStruck y pc code s).mst y = mSTOPPING
      ∧ (mastStruck y pc code s).fld (SEQ_STS y) SEQ_STS_STAGED = 0
      ∧ (mastStruck y pc code s).mast y = { s.mast y with hold := .none, waitd := none, sync := none } := by
  have hne : SEQ_FAULT y ≠ SEQ_STS y := by unfold SEQ_FAULT SEQ_STS; omega
  refine ⟨?_, ?_, fld_setF _ _ _ _ (by decide), by simp [mastStruck]⟩
  · refine (rdN_setF_ne _ _ _ _ _ hne).trans ((rdN_setF_ne _ _ _ _ _ hne).trans ((rdN_wrN ..).trans ?_))
    have hpc : pc % 2 ^ 15 < 2 ^ 15 := Nat.mod_lt _ (by decide)
    rw [Nat.mod_eq_of_lt hcode]
    exact Nat.mod_eq_of_lt (by omega)
  · exact (fld_setF_beside _ _ _ _ _ (by decide) (by decide) (by decide)).trans (mst_setMst (by decide))

/-- The FAULT record and the report of a program fault: what they say and what else they change. -/
theorem faultRecord_spec (s : State) (y pc code word : Nat) {t : State}
    (ht : t = (s.yardRec y 3 s.tb1 [word, 0, 0, 0, 0, 0]).reportProg code y pc) :
    (∃ r, t.bus = { s.bus with recs := s.bus.recs ++ [r], reports := s.bus.reports ++ [⟨code, true, y, pc⟩] }
        ∧ r.qid = s.yardQ y ∧ r.time = s.tb1 ∧ r.words.getD 2 0 = word)
      ∧ t.mast y = { s.mast y with outRes := (s.mast y).outRes + 1 } ∧ (∀ g, t.grp g = s.grp g) ∧ (∀ a, t.rd a = s.rd a)
      ∧ { t with seq := s.seq, bus := s.bus } = s := by
  subst ht
  exact ⟨⟨_, rfl, rfl, rfl, rfl⟩, by simp [State.yardRec, State.passRec], fun _ => rfl, fun _ => rfl, rfl⟩

/-- The effect of a program fault. -/
theorem progFaulted_progFault (s : State) (y pc : Nat) {code : Nat} (hcode : code < 2 ^ 16) :
    s.progFaulted (progFault y pc code s) y pc code := by
  have hg := groupOf_lt s y
  obtain ⟨u, hu⟩ : ∃ u, u = mastStruck y pc code s := ⟨_, rfl⟩
  obtain ⟨v, hv⟩ : ∃ v, v = u.faultAbort (s.groupOf y) := ⟨_, rfl⟩
  obtain ⟨t, ht⟩ : ∃ t, t = (v.yardRec y 3 v.tb1 [code % 2 ^ 16 + pc % 2 ^ 15 * 2 ^ 16, 0, 0, 0, 0, 0]).reportProg code y pc := ⟨_, rfl⟩
  have hprog : progFault y pc code s = t := by rw [ht, hv, hu, progFault_eq]
  obtain ⟨⟨huframe, huseq, -⟩, hukeeps⟩ := hu ▸ turn_mastStruck y pc code s
  obtain ⟨hfault, hmst, hstaged, humast⟩ := hu ▸ mastStruck_spec y pc hcode s
  obtain ⟨habort, hitems⟩ := hv ▸ faultAbort_spec u (s.groupOf y)
  obtain ⟨hvbus, hvframe, hvmast, hvkeeps⟩ := hv ▸ faultAbort_frame u (s.groupOf y)
  obtain ⟨⟨r, hbus, hqid, htime, hword⟩, htmast, htgrp, htrd, htframe⟩ := faultRecord_spec v y pc code _ ht
  rw [hprog]
  have hsts : SEQ_STS y ≠ GLB_LSG_STAT (s.groupOf y) := by unfold SEQ_STS GLB_LSG_STAT; omega
  have hflt : SEQ_FAULT y ≠ GLB_LSG_STAT (s.groupOf y) := by unfold SEQ_FAULT GLB_LSG_STAT; omega
  have hkeeps (a : Nat) (ha : a ∉ [SEQ_FAULT y, SEQ_STS y, GLB_LSG_STAT (s.groupOf y)]) : v.rd a = s.rd a := by
    simp only [List.mem_cons, List.not_mem_nil, or_false, not_or] at ha
    obtain ⟨hf, hs, hl⟩ := ha
    exact (hvkeeps a hl).trans (hukeeps a (by simp [hf, hs]))
  have htb1 : u.tb1 = s.tb1 :=
    tb1_congr (hukeeps _ (by simp [SEQ_FAULT, SEQ_STS, STAY_STS]; omega)) (congrArg State.clock huframe :)
  have hvtb1 : v.tb1 = s.tb1 :=
    (tb1_congr (hvkeeps _ (by unfold GLB_LSG_STAT STAY_STS; omega)) (congrArg State.clock hvframe :)).trans htb1
  have hubus : u.bus = s.bus := (congrArg State.bus huframe :)
  have hugrp : u.grp (s.groupOf y) = s.grp (s.groupOf y) := (congrArg (fun q : Seq => tget q.groups (s.groupOf y)) huseq :)
  have hall : t.mast y = { s.mast y with hold := .none, waitd := none, sync := none, outRes := (s.mast y).outRes + 1 } :=
    htmast.trans (by rw [hvmast, humast])
  refine ⟨(congrArg BitVec.toNat ((htrd _).trans (hvkeeps _ hflt))).trans hfault,
    (congrArg (getF · SEQ_STS_MSTATE) ((htrd _).trans (hvkeeps _ hsts))).trans hmst,
    (congrArg (getF · SEQ_STS_STAGED) ((htrd _).trans (hvkeeps _ hsts))).trans hstaged, congrArg Mast.hold hall, congrArg Mast.waitd hall,
    congrArg Mast.sync hall, ?_, ?_, ⟨r, ?_, hqid.trans ?_, htime.trans hvtb1, hword⟩, ?_, fun a ha => (htrd a).trans (hkeeps a ha)⟩
  · have haborts : abortsBy u (s.groupOf y) = abortsBy s (s.groupOf y) := by
      unfold abortsBy
      rw [htb1, hugrp]
    rw [haborts, htb1, hugrp, hubus] at habort
    unfold State.holdsCmd State.fld at habort ⊢
    rw [htgrp, hbus, htrd]
    exact habort
  · unfold State.itemsBut at hitems ⊢
    rw [hbus, ← hubus]
    exact hitems
  · rw [hbus, ← hubus]
    exact congrArg (fun b : Bus => { b with recs := b.recs ++ [r], reports := b.reports ++ [Report.mk code true y pc] }) hvbus
  · exact congrArg (getF · (0, 18)) (hkeeps _ (by simp [QM_YQID, SEQ_FAULT, SEQ_STS, GLB_LSG_STAT]; omega))
  · calc { t with regs := s.regs, seq := s.seq, bus := s.bus }
      _ = { v with regs := s.regs, seq := s.seq, bus := s.bus } :=
        congrArg (fun x : State => { x with regs := s.regs, seq := s.seq, bus := s.bus }) htframe
      _ = { u with regs := s.regs, seq := s.seq, bus := s.bus } :=
        congrArg (fun x : State => { x with regs := s.regs, seq := s.seq, bus := s.bus }) hvframe
      _ = s := (congrArg (fun x : State => { x with bus := s.bus }) huframe :)

/-! ### Late instructions (R93) -/

theorem timedIssue_of_late {s : State} {y w : Nat} (herr : s.issueErr y w = 0) (hahead : 20 ≤ s.fld (SEQ_CTL y) SEQ_CTL_AHEAD_MAX)
    (hlate : s.origin y + s.tq y - 256 < s.issueTime y + 64) :
    timedIssue y (s.pc y) w (s.issueTime y) s = progFault y (s.pc y) E_SEQ_LATE s := by
  have hrel : s.relAt y = s.origin y + s.tq y - 256 := rfl
  have hstall : ¬ (s.issueTime y + ft * s.fld (SEQ_CTL y) SEQ_CTL_AHEAD_MAX < s.relAt y) := by
    rw [hrel]
    unfold ft
    omega
  unfold timedIssue
  dsimp only
  rw [if_neg hstall, if_neg (not_not.mpr herr)]
  exact if_pos hlate

theorem exec_of_timedInstr {y : Nat} {o : MOp} {i : Instr} (h : (o, i) ∈ [(MOp.frame, Instr.frame y), (.bias, .bias y), (.mark, .mark y),
    (.setr, .setr y), (.commit, .commit y), (.play, .play y), (.acq, .acq y)]) (s : State) : exec i s = .next (issueTimed y o s) := by
  simp only [List.mem_cons, Prod.mk.injEq, List.not_mem_nil, or_false] at h
  obtain ⟨rfl, rfl⟩ | ⟨rfl, rfl⟩ | ⟨rfl, rfl⟩ | ⟨rfl, rfl⟩ | ⟨rfl, rfl⟩ | ⟨rfl, rfl⟩ | ⟨rfl, rfl⟩ := h
  all_goals rfl

/-- Settles O13: the late instruction becomes a program fault (`timedIssue_of_late`), whose effect is `progFaulted_progFault`. -/
theorem lateTimedInstructionIsAProgramFault : Obligations.LateTimedInstructionIsAProgramFault := by
  intro s y w o i hi hready herr hahead hlate
  refine ⟨_, (exec_of_timedInstr hi s).trans (congrArg _ ?_), progFaulted_progFault s y (s.pc y) (code := E_SEQ_LATE) (by decide)⟩
  exact (issueTimed_of_ready hready).trans (timedIssue_of_late herr hahead hlate)

end Sys2Proof.Laws
end

section
namespace Sys2Proof.Laws
open Sys2Proof.Machine

-- One theorem after another: a thread for each of them passes the memory limit of the check.
set_option Elab.async false

/-! ### Issue stops (R108, R114, R119, R120, R124) -/

/-- MSTATE written and the Mast changed. -/
theorem setMst_modMast_spec (s : State) (y v : Nat) (f : Mast → Mast) :
    ((s.setMst y v).modMast y f).rd (SEQ_STS y) = insF (s.rd (SEQ_STS y)) SEQ_STS_MSTATE v
      ∧ ((s.setMst y v).modMast y f).mast y = f (s.mast y) ∧ Turn y [SEQ_STS y] s ((s.setMst y v).modMast y f) :=
  ⟨rd_setF_same .., by simp, (Turn.rfl.wr List.mem_cons_self).modMast⟩

theorem exec_stops {i : Instr} {s : State} {y v : Nat} {f : Mast → Mast} (h : exec i s = .next ((s.setMst y v).modMast y f)) :
    ∃ t, exec i s = .next t ∧ t.rd (SEQ_STS y) = insF (s.rd (SEQ_STS y)) SEQ_STS_MSTATE v ∧ t.mast y = f (s.mast y)
      ∧ s.onlyMast t y ∧ s.keeps t [SEQ_STS y] := by
  obtain ⟨hsts, hmast, hframe, hkeeps⟩ := setMst_modMast_spec s y v f
  exact ⟨_, h, hsts, hmast, hframe, hkeeps⟩

theorem ownErr_of_issueErr {s : State} {y w : Nat} (h : s.issueErr y w = 0) : s.ownErr y w = false := by
  unfold State.issueErr at h
  by_contra hown
  rw [Bool.not_eq_false] at hown
  rw [if_pos hown] at h
  exact absurd h (by decide)

section
variable {s : State} {y w : Nat}

theorem exec_end (h : s.ready y .end_ w) : exec (.end_ y) s = .next ((s.setMst y mSHOTEND).modMast y fun m =>
      { m with endRun := m.endRun || bit w 0, endAt := max m.endAt (s.origin y + s.tq y), signalled := false }) :=
  congrArg Host.Outcome.next (issue_of_ready h _)

theorem exec_syncGroup (h : s.ready y .syncGroup w) : exec (.syncGroup y) s = .next ((s.setMst y mWAITS).modMast y fun m => { m with
      sync := some ⟨0, 0, 0, s.origin y + s.tq y + 16 * bits w 39 16, s.origin y + s.tq y, s.issueTime y⟩
      clk := s.issueTime y + 16 }) := congrArg Host.Outcome.next (issue_of_ready h _)

theorem exec_syncTrig (h : s.ready y .syncTrig w) (herr : s.issueErr y w = 0) :
    exec (.syncTrig y) s = .next ((s.setMst y mWAITS).modMast y fun m => { m with
      sync := some ⟨1, bits w 52 49, bits w 48 48, s.origin y + s.tq y + 16 * bits w 39 16, s.origin y + s.tq y, s.issueTime y⟩
      clk := s.issueTime y + 16 }) :=
  congrArg Host.Outcome.next ((issue_of_ready h _).trans (if_neg (by simp [ownErr_of_issueErr herr])))

theorem exec_fence (h : s.ready y .fence w) : exec (.fence y) s
    = .next ((s.setMst y mSTALL).modMast y fun m => { m with hold := .fence, clk := s.issueTime y + 16 }) :=
  congrArg Host.Outcome.next (issue_of_ready h _)

theorem exec_ldd (h : s.ready y .ldd w) (herr : s.issueErr y w = 0) : exec (.ldd y) s = .next ((s.setMst y mSTALL).modMast y fun m =>
      { m with hold := .ldd (bits w 55 46) (bits w 45 41) (s.origin y + s.tq y - 256), clk := s.issueTime y + 16 }) :=
  congrArg Host.Outcome.next ((issue_of_ready h _).trans (if_neg (by simp [ownErr_of_issueErr herr])))

/-- WAITD begins to wait when both paths are staged without a fault. -/
theorem exec_waitd {fs ts : List Staged} {t1 t2 : Nat} (h : s.ready y .waitd w) (herr : s.issueErr y w = 0)
    (hfall : stageRun y s 2 (s.pc y + 1) (s.issueTime y) = (fs, t1, none)) (htarget : stageRun y s 2 (bits w 14 0) t1 = (ts, t2, none))
    (hreached : s.reached t2 = true) : exec (.waitd y) s = .next (((s.modMast y fun m => { m with
        waitd := some ⟨bits w 55 46, bits w 45 44, bits w 43 42, bit w 41, s.origin y + s.tq y, s.origin y + s.tq y + 16 * bits w 39 16,
          bits w 14 0, s.pc y, t2, ts, fs⟩
        clk := t2 + 16 }).setMst y mWAITD).setF (SEQ_STS y) SEQ_STS_STAGED (b01 (!ts.isEmpty || !fs.isEmpty))) := by
  have hstaged : s.stagedBy y (s.pc y) w (s.issueTime y) = t2 := by
    unfold State.stagedBy
    rw [hfall]
    dsimp only
    rw [htarget]
    rfl
  have hissue := (issue_of_ready h fun pc w t s =>
    if s.ownErr y w then faultUse y pc w E_IMG_RES_BUSY s
    else if s.reached (s.stagedBy y pc w t) then waitdIssue y pc w t s else s)
  rw [if_neg (by simp [ownErr_of_issueErr herr]), hstaged, if_pos hreached] at hissue
  refine congrArg Host.Outcome.next (hissue.trans ?_)
  unfold waitdIssue
  rw [hfall]
  dsimp only
  rw [htarget]
  rfl

end

theorem b01_staged (ts fs : List Staged) : b01 (!ts.isEmpty || !fs.isEmpty) = if ts = [] ∧ fs = [] then 0 else 1 := by
  cases ts with
  | nil =>
    cases fs with
    | nil => rfl
    | cons => rfl
  | cons => rfl

/-- Settles O14: each of the instructions writes MSTATE and its Mast, and WAITD also STAGED. -/
theorem waitsAndStallsBegin : Obligations.WaitsAndStallsBegin := by
  refine ⟨fun s y w hready => (exec_stops (exec_end hready) :), fun s y w hready => (exec_stops (exec_syncGroup hready) :),
    fun s y w hready herr => (exec_stops (exec_syncTrig hready herr) :), fun s y w hready => (exec_stops (exec_fence hready) :),
    fun s y w hready herr => (exec_stops (exec_ldd hready herr) :), fun s y w fs ts t1 t2 hready herr hfall htarget hreached => ?_⟩
  rw [exec_waitd hready herr hfall htarget hreached, b01_staged]
  obtain ⟨hframe, hkeeps⟩ := ((Turn.rfl.modMast (s := s)).wr List.mem_cons_self).wr List.mem_cons_self
  exact ⟨_, rfl, (rd_setF_same ..).trans (congrArg (insF · _ _) (rd_setF_same ..)), by simp, hframe, hkeeps⟩

end Sys2Proof.Laws
end

section
namespace Sys2Proof.Laws
open Sys2Proof.Machine

-- One theorem after another: a thread for each of them passes the memory limit of the check.
set_option Elab.async false

/-! ### Issue resumes behind the instruction that waited (Table 3-8) -/

theorem retire_noLoops_spec {y : Nat} {s : State} (h : (s.mast y).loops = []) (pc : Nat) :
    (retire y pc s).pc y = (pc + 1) % 2 ^ 15 ∧ (retire y pc s).mast y = s.mast y := by
  rw [retire_of_noLoops h]
  refine ⟨pc_setPc .., ?_⟩
  rw [mast_setPc, mast_modMast, if_pos rfl, ← h]

theorem Turn.retireNoLoops {y pc : Nat} {as : List Nat} {s₀ s : State} (h : Turn y as s₀ s) (hpc : SEQ_PC y ∈ as)
    (hl : (s.mast y).loops = []) : Turn y as s₀ (Machine.retire y pc s) :=
  h.retire hpc fun _ hm => absurd (hl ▸ hm) List.not_mem_nil

theorem pc_setMst (s : State) (y v : Nat) : (s.setMst y v).pc y = s.pc y := fld_setF_ne _ _ _ _ _ _ (by unfold SEQ_PC SEQ_STS; omega)

theorem atWaitc_of_noHold {s : State} {y : Nat} (h : (s.mast y).hold = .none) (cond : Nat) : s.atWaitc y cond = false := by
  unfold State.atWaitc
  rw [h]

/-! ### The ends of stalls (R94, R114, R120) -/

theorem issueStallEnd_spec {s : State} {y u : Nat} (hhold : (s.mast y).hold = .ahead u) (hreached : s.reached u = true) {t : State}
    (ht : t = issueStallEnd y s) :
    t.rd (SEQ_STS y) = insF (s.rd (SEQ_STS y)) SEQ_STS_MSTATE 2 ∧ (t.mast y).hold = .none
      ∧ t.issueTime y = max u (16 * (microCount (s.word y (s.pc y)) - 1)) ∧ Turn y [SEQ_STS y] s t := by
  have heq : t = (s.setMst y mISSUE).modMast y fun m => { m with hold := .none, clk := u - 16 * (microCount (s.word y (s.pc y)) - 1) } := by
    rw [ht]
    unfold issueStallEnd
    rw [hhold]
    exact if_pos hreached
  subst heq
  obtain ⟨hsts, hmast, hturn⟩ := setMst_modMast_spec s y mISSUE fun m =>
    { m with hold := .none, clk := u - 16 * (microCount (s.word y (s.pc y)) - 1) }
  refine ⟨hsts, by rw [hmast], ?_, hturn⟩
  have hpc : ((s.setMst y mISSUE).modMast y fun m => { m with hold := .none, clk := u - 16 * (microCount (s.word y (s.pc y)) - 1) }).pc y
      = s.pc y := pc_setMst s y mISSUE
  unfold State.issueTime
  rw [hmast, hpc]
  show u - 16 * (microCount (s.word y (s.pc y)) - 1) + 16 * (microCount (s.word y (s.pc y)) - 1) = _
  omega

theorem fenceComplete_spec {s : State} {y : Nat} (hhold : (s.mast y).hold = .fence) (hok : s.fenceOk y = true)
    (hloops : (s.mast y).loops = []) {t : State} (ht : t = fenceComplete y s) :
    t.rd (SEQ_STS y) = insF (s.rd (SEQ_STS y)) SEQ_STS_MSTATE 2 ∧ t.pc y = (s.pc y + 1) % 2 ^ 15
      ∧ t.mast y = { s.mast y with hold := .none, clk := max (s.mast y).clk (ceilFt s.tb1) } ∧ Turn y [SEQ_STS y, SEQ_PC y] s t := by
  have heq : t = retire y (s.pc y) ((s.setMst y mISSUE).modMast y fun m =>
      { m with hold := .none, clk := max (s.mast y).clk (ceilFt s.tb1) }) := by
    rw [ht]
    unfold fenceComplete
    rw [hhold]
    exact if_pos hok
  subst heq
  obtain ⟨hsts, hmast, -⟩ := setMst_modMast_spec s y mISSUE fun m => { m with hold := .none, clk := max (s.mast y).clk (ceilFt s.tb1) }
  have hnone := (congrArg Mast.loops hmast).trans hloops
  obtain ⟨hpc, hmast'⟩ := retire_noLoops_spec hnone (s.pc y)
  exact ⟨(rd_sts_retire ..).trans hsts, hpc, hmast'.trans hmast,
    ((Turn.rfl.wr (as := [SEQ_STS y, SEQ_PC y]) List.mem_cons_self).modMast).retireNoLoops (by simp) hnone⟩

/-- Slot registers are not those of Mast states. -/
theorem slotDec_setMst (s : State) (y v slot : Nat) : (s.setMst y v).slotDec slot = s.slotDec slot :=
  fld_setF_ne _ _ _ _ _ _ (by unfold SHT_SLOT SEQ_STS; omega)

theorem lddVal_mod (s : State) (slot : Nat) : s.lddVal slot % 2 ^ 48 = s.slotDec slot % 2 ^ 8 + s.slotRel slot % 2 ^ 40 * 2 ^ 8 := by
  have hdec : s.slotDec slot < 2 ^ 6 := getF_lt _ _ (by decide)
  unfold State.lddVal
  omega

theorem lddResolve_spec {s : State} {y slot gd u : Nat} (hhold : (s.mast y).hold = .ldd slot gd u) (hgd : gd < 32)
    (hreached : s.reached u = true) (hmay : s.slotMay y slot = true) (hloops : (s.mast y).loops = []) {t : State} (ht : t = lddResolve y s) :
    t.g y gd = s.slotDec slot % 2 ^ 8 + s.slotRel slot % 2 ^ 40 * 2 ^ 8
      ∧ t.rd (SEQ_STS y) = insF (s.rd (SEQ_STS y)) SEQ_STS_MSTATE 2 ∧ t.pc y = (s.pc y + 1) % 2 ^ 15
      ∧ t.mast y = { s.mast y with hold := .none, clk := max (s.mast y).clk u } ∧ Turn y [SEQ_STS y, SEQ_PC y, SEQ_G y gd] s t := by
  obtain ⟨v, hv⟩ : ∃ v, v = (s.setMst y mISSUE).modMast y fun m => { m with hold := .none, clk := max (s.mast y).clk u } := ⟨_, rfl⟩
  obtain ⟨hsts, hmast, hturn⟩ := hv ▸ setMst_modMast_spec s y mISSUE fun m => { m with hold := .none, clk := max (s.mast y).clk u }
  have hpcv : v.pc y = s.pc y := hv ▸ pc_setMst s y mISSUE
  have hval : v.lddVal slot = s.lddVal slot := by
    rw [hv]
    exact congrArg (· + s.slotRel slot % 2 ^ 40 * 256) (slotDec_setMst s y mISSUE slot)
  have heq : t = retire y (v.pc y) (v.setG y gd (v.lddVal slot)) := by
    rw [ht, hv]
    unfold lddResolve
    rw [hhold]
    exact (if_neg (not_not.mpr hreached)).trans (if_neg (not_not.mpr hmay))
  rw [hpcv, hval] at heq
  subst heq
  have hnone : ((v.setG y gd (s.lddVal slot)).mast y).loops = [] := (congrArg Mast.loops hmast).trans hloops
  obtain ⟨hpc, hmast'⟩ := retire_noLoops_spec hnone (s.pc y)
  refine ⟨(g_retire _ _ _ hgd).trans ((g_setG ..).trans (lddVal_mod s slot)), ?_, hpc, hmast'.trans hmast, ?_⟩
  · exact (rd_sts_retire ..).trans ((rd_wrN_ne _ _ _ _ (by unfold SEQ_STS SEQ_G; omega)).trans hsts)
  · rw [hv]
    exact (((Turn.rfl.wr (as := [SEQ_STS y, SEQ_PC y, SEQ_G y gd]) List.mem_cons_self).modMast).wr (by simp)).retireNoLoops (by simp) (hv ▸ hnone)

/-! ### The end of a SYNC (R119, Table 3-8) -/

theorem syncEnd_spec {s : State} {y c clk : Nat} {x : SyncW} (hx : (s.mast y).sync = some x) (hloops : (s.mast y).loops = [])
    (hle : ceilFt (c - s.origin y) ≤ 2 ^ 48 - 16) {t : State} (ht : t = syncEnd y c clk s) :
    t.tq y = ceilFt (c - s.origin y) ∧ t.rd (SEQ_STS y) = insF (s.rd (SEQ_STS y)) SEQ_STS_MSTATE 2 ∧ t.pc y = (s.pc y + 1) % 2 ^ 15
      ∧ t.mast y = { s.mast y with sync := none, clk := clk } ∧ Turn y [SEQ_STS y, SEQ_PC y, SEQ_TQ y] s t := by
  obtain ⟨v, hv⟩ : ∃ v, v = (((s.setTq y (ceilFt (c - s.origin y))).setMst y mISSUE).modMast y fun m => { m with sync := none }) := ⟨_, rfl⟩
  have hpcv : v.pc y = s.pc y := by
    rw [hv]
    exact (pc_setMst ..).trans (fld_wrN_ne _ _ _ _ _ (by unfold SEQ_PC SEQ_TQ; omega))
  have heq : t = retire y (v.pc y) (v.setClk y clk) := by
    have hovf : ¬ tqMax < ceilFt (c - s.origin y) := not_lt.mpr hle
    rw [ht, hv]
    unfold syncEnd
    rw [hx]
    exact if_neg hovf
  rw [hpcv] at heq
  have hmast : (v.setClk y clk).mast y = { s.mast y with sync := none, clk := clk } := by simp [hv]
  have hnone := (congrArg Mast.loops hmast).trans hloops
  obtain ⟨hpc, hmast'⟩ := retire_noLoops_spec hnone (s.pc y)
  subst heq
  refine ⟨(tq_retire ..).trans ?_, (rd_sts_retire ..).trans ?_, hpc, hmast'.trans hmast, ?_⟩
  · rw [hv]
    refine (rdN_setF_ne _ _ _ _ _ (by unfold SEQ_STS SEQ_TQ; omega)).trans ((tq_setTq ..).trans (Nat.mod_eq_of_lt ?_))
    exact Nat.lt_of_le_of_lt hle (by decide)
  · rw [hv]
    exact (rd_setF_same ..).trans (congrArg (insF · _ _) (rd_wrN_ne _ _ _ _ (by unfold SEQ_STS SEQ_TQ; omega)))
  · refine Turn.retireNoLoops ?_ (by simp) hnone
    rw [hv]
    exact (((Turn.rfl.wr (by simp)).wr (by simp)).modMast).modMast

theorem syncFinish_of_noHold {s : State} {y : Nat} (h : (s.mast y).hold = .none) (c t : Nat) : syncFinish y c t s = syncEnd y c t s :=
  if_neg (by rw [atWaitc_of_noHold h]; decide)

theorem syncSatisfied_of_edge {s : State} {y e : Nat} {x : SyncW} (hx : (s.mast y).sync = some x) (hmode : x.mode = 1)
    (hhold : (s.mast y).hold = .none)
    (he : ((tget s.cnv.trigEv (2 * x.trig + x.edge)).filter fun e => decide (x.at_ ≤ e)).getLast? = some e) (hmay : s.yardMay y 2 x.trig = true)
    (hin : e + 768 ≤ x.until_) (hreached : s.reached (e + 768) = true) :
    syncSatisfied y s = syncEnd y (ceilFt (e + 768)) (ceilFt (e + 768)) s := by
  unfold syncSatisfied
  rw [hx]
  dsimp only
  rw [if_neg (by simp [hmode]), he]
  refine (if_pos ⟨hin, hreached⟩).trans ((if_neg (not_not.mpr hmay)).trans ?_)
  exact syncFinish_of_noHold hhold _ _

/-! ### The yards of a group, one after another, where each is ready for its round -/

/-- The Mast of a yard and its registers in Table 3-11 are in `t` as in `s`. -/
def SameYard (y : Nat) (s t : State) : Prop := t.mast y = s.mast y ∧ ∀ a, mastReg y a → t.rd a = s.rd a

theorem SameYard.rfl {y : Nat} {s : State} : SameYard y s s := ⟨Eq.refl _, fun _ _ => Eq.refl _⟩

theorem SameYard.trans {y : Nat} {s t u : State} (h : SameYard y s t) (k : SameYard y t u) : SameYard y s u :=
  ⟨k.1.trans h.1, fun a ha => (k.2 a ha).trans (h.2 a ha)⟩

theorem Turn.sameYard {y z : Nat} {as : List Nat} {s t : State} (h : Turn y as s t) (hz : z ≠ y) (has : ∀ a ∈ as, mastReg y a) :
    SameYard z s t := by
  obtain ⟨⟨-, -, hmast⟩, hkeeps⟩ := h
  refine ⟨hmast z hz, fun a ha => hkeeps a fun hmem => ?_⟩
  have hy := has a hmem
  unfold mastReg at ha hy
  omega

section
variable {f : Nat → State → State} {P : Nat → State → Prop} (hP : ∀ y s t, SameYard y s t → P y s → P y t)
  (hf : ∀ y s, P y s → ∀ z, z ≠ y → SameYard z s (f y s))
include hP hf

theorem forEach_sameYard {ys : List Nat} (hnd : ys.Nodup) {s : State} (hs : ∀ y ∈ ys, P y s) {z : Nat} (hz : z ∉ ys) :
    SameYard z s (forEach ys s f) := by
  induction ys generalizing s with
  | nil => exact SameYard.rfl
  | cons y ys ih =>
    obtain ⟨hy, hnd⟩ := List.nodup_cons.mp hnd
    obtain ⟨hzy, hz⟩ := not_or.mp (List.mem_cons.not.mp hz)
    have hround := hf y s (hs y List.mem_cons_self)
    refine (hround z hzy).trans (ih hnd (fun w hw => hP w s _ (hround w fun e => hy (e ▸ hw)) (hs w (List.mem_cons_of_mem _ hw))) hz)

/-- What the loop does to a yard is what its own round does. -/
theorem forEach_round {ys : List Nat} (hnd : ys.Nodup) {s : State} (hs : ∀ y ∈ ys, P y s) {z : Nat} (hz : z ∈ ys) :
    ∃ u, SameYard z s u ∧ P z u ∧ SameYard z (f z u) (forEach ys s f) := by
  induction ys generalizing s with
  | nil => exact absurd hz List.not_mem_nil
  | cons y ys ih =>
    obtain ⟨hy, hys⟩ := List.nodup_cons.mp hnd
    have hround := hf y s (hs y List.mem_cons_self)
    have hrest : ∀ w ∈ ys, P w (f y s) := fun w hw => hP w s _ (hround w fun e => hy (e ▸ hw)) (hs w (List.mem_cons_of_mem _ hw))
    by_cases hzy : z = y
    · subst hzy
      exact ⟨s, SameYard.rfl, hs z List.mem_cons_self, forEach_sameYard hP hf hys hrest hy⟩
    · obtain ⟨u, hu, hpu, hlast⟩ := ih hys hrest ((List.mem_cons.mp hz).resolve_left hzy)
      exact ⟨u, (hround z hzy).trans hu, hpu, hlast⟩

end

/-! ### SYNC GROUP (R119, Table 3-8) -/

/-- A member's SYNC may end with its cursor at `c`. -/
def SyncReady (c y : Nat) (s : State) : Prop :=
  (∃ x, (s.mast y).sync = some x) ∧ (s.mast y).hold = .none ∧ (s.mast y).loops = [] ∧ ceilFt (c - s.origin y) ≤ 2 ^ 48 - 16

theorem SameYard.syncReady {c y : Nat} {s t : State} (h : SameYard y s t) (k : SyncReady c y s) : SyncReady c y t := by
  have horigin : t.origin y = s.origin y := congrArg BitVec.toNat (h.2 _ (by unfold mastReg SEQ_ORIGIN; omega))
  unfold SyncReady
  rw [h.1, horigin]
  exact k

theorem turn_syncFinish {c clk y : Nat} {s : State} (h : SyncReady c y s) :
    Turn y [SEQ_STS y, SEQ_PC y, SEQ_TQ y] s (syncFinish y c clk s) := by
  obtain ⟨⟨x, hx⟩, hhold, hloops, hle⟩ := h
  obtain ⟨-, -, -, -, hturn⟩ := syncEnd_spec hx hloops hle (syncFinish_of_noHold hhold c clk)
  exact hturn

/-- Every member goes on behind its SYNC with the common cursor. -/
theorem forEach_syncFinish {ys : List Nat} (hnd : ys.Nodup) {s : State} {c : Nat} (clk : Nat) (hs : ∀ y ∈ ys, SyncReady c y s) {t : State}
    (ht : t = forEach ys s fun y u => syncFinish y c clk u) {z : Nat} (hz : z ∈ ys) :
    t.tq z = ceilFt (c - s.origin z) ∧ t.mst z = 2 ∧ (t.mast z).sync = none ∧ t.pc z = (s.pc z + 1) % 2 ^ 15 ∧ (t.mast z).clk = clk := by
  have hround (y : Nat) (s : State) (h : SyncReady c y s) (z : Nat) (hz : z ≠ y) : SameYard z s (syncFinish y c clk s) := by
    refine (turn_syncFinish h).sameYard hz fun a ha => ?_
    simp only [List.mem_cons, List.not_mem_nil, or_false, SEQ_STS, SEQ_PC, SEQ_TQ] at ha
    unfold mastReg
    omega
  obtain ⟨u, hu, ⟨⟨x, hx⟩, hhold, hloops, hle⟩, hlast⟩ :=
    forEach_round (P := SyncReady c) (fun _ _ _ h k => h.syncReady k) hround hnd hs hz
  obtain ⟨htq, hsts, hpc, hmast, -⟩ := syncEnd_spec hx hloops hle (syncFinish_of_noHold hhold c clk)
  have horigin : u.origin z = s.origin z := congrArg BitVec.toNat (hu.2 _ (by unfold mastReg SEQ_ORIGIN; omega))
  have hupc : u.pc z = s.pc z := congrArg (getF · SEQ_PC_PC) (hu.2 _ (by unfold mastReg SEQ_PC; omega))
  rw [← ht] at hlast
  have htmast := hlast.1.trans hmast
  refine ⟨?_, ?_, congrArg Mast.sync htmast, ?_, congrArg Mast.clk htmast⟩
  · exact (congrArg BitVec.toNat (hlast.2 _ (by unfold mastReg SEQ_TQ; omega))).trans (htq.trans (by rw [horigin]))
  · refine (congrArg (getF · SEQ_STS_MSTATE) ((hlast.2 _ (by unfold mastReg SEQ_STS; omega)).trans hsts)).trans ?_
    exact getF_insF _ _ _ (by decide)
  · exact (congrArg (getF · SEQ_PC_PC) (hlast.2 _ (by unfold mastReg SEQ_PC; omega))).trans (hpc.trans (by rw [hupc]))

theorem foldl_max_eq {xs : List Nat} {m : Nat} (hle : ∀ x ∈ xs, x ≤ m) (hm : m = 0 ∨ m ∈ xs) : xs.foldl max 0 = m := by
  rw [List.foldl_eq_foldr]
  refine le_antisymm (List.max_le_of_forall_le xs m hle) ?_
  obtain rfl | hm := hm
  · exact Nat.zero_le _
  · exact List.le_max_of_le hm le_rfl

theorem syncSatisfied_of_group {s : State} {y m : Nat} {x : SyncW} (hx : (s.mast y).sync = some x) (hmode : x.mode = 0)
    (hall : ∀ z ∈ s.members (s.groupOf y), s.atSyncGroup z = true ∧ s.syncInTime z = true ∧ (s.mast z).clk ≤ s.tb1 + 16)
    (hm : ((s.members (s.groupOf y)).map s.syncCursor).foldl max 0 = m) :
    syncSatisfied y s = forEach (s.members (s.groupOf y)) s fun z t => syncFinish z (max m (s.tb1 + 768)) (ceilFt s.tb1 + 256) t := by
  have harrived : ((s.members (s.groupOf y)).all fun z => s.atSyncGroup z && s.syncInTime z && decide ((s.mast z).clk ≤ s.tb1 + ft)) = true := by
    refine List.all_eq_true.mpr fun z hz => ?_
    obtain ⟨hat, hin, hclk⟩ := hall z hz
    rw [hat, hin]
    exact decide_eq_true hclk
  subst hm
  unfold syncSatisfied
  rw [hx]
  exact (if_pos hmode).trans (if_pos harrived)

/-- A member that has arrived at its SYNC GROUP waits at a SYNC. -/
theorem sync_of_atSyncGroup {s : State} {y : Nat} (h : s.atSyncGroup y = true) : ∃ x, (s.mast y).sync = some x := by
  unfold State.atSyncGroup at h
  split at h
  · next x hx => exact ⟨x, hx⟩
  · exact absurd h Bool.false_ne_true

/-- Settles O15: what ended the wait moves the Mast past its instruction (`fenceComplete_spec`, `lddResolve_spec`, `syncEnd_spec`); at a SYNC
GROUP each member's own round does (`forEach_syncFinish`). -/
theorem waitsAndStallsEnd : Obligations.WaitsAndStallsEnd := by
  refine ⟨fun s y u hhold hreached => ?_, fun s y hhold hok hloops => ?_, fun s y slot gd u hhold hgd hreached hmay hloops => ?_,
    fun s y x e n hx hmode hhold hloops he hmay hin hreached hn hle => ?_, fun s y x m hx hmode hall hm => ?_⟩
  · obtain ⟨hsts, hnone, htime, hframe, hkeeps⟩ := issueStallEnd_spec hhold hreached rfl
    exact ⟨_, rfl, hsts, hnone, htime, hframe, hkeeps⟩
  · obtain ⟨hsts, hpc, hmast, hframe, hkeeps⟩ := fenceComplete_spec hhold hok hloops rfl
    exact ⟨_, rfl, hsts, hpc, hmast, hframe, hkeeps⟩
  · obtain ⟨hg, hsts, hpc, hmast, hframe, hkeeps⟩ := lddResolve_spec hhold hgd hreached hmay hloops rfl
    exact ⟨_, rfl, hg, hsts, hpc, hmast, hframe, hkeeps⟩
  · subst hn
    obtain ⟨htq, hsts, hpc, hmast, hframe, hkeeps⟩ := syncEnd_spec hx hloops hle (clk := ceilFt (e + 768)) rfl
    exact ⟨_, congrArg Host.Outcome.next (syncSatisfied_of_edge hx hmode hhold he hmay hin hreached), htq, hsts, hpc, hmast, hframe, hkeeps⟩
  · have hcursor : ((s.members (s.groupOf y)).map s.syncCursor).foldl max 0 = m := by
      refine foldl_max_eq (fun c hc => ?_) (hm.imp_right fun ⟨z, hz, hzm⟩ => List.mem_map.mpr ⟨z, hz, hzm⟩)
      obtain ⟨z, hz, rfl⟩ := List.mem_map.mp hc
      obtain ⟨-, -, -, -, -, hle, -⟩ := hall z hz
      exact hle
    have harrived : ∀ z ∈ s.members (s.groupOf y), s.atSyncGroup z = true ∧ s.syncInTime z = true ∧ (s.mast z).clk ≤ s.tb1 + 16 := by
      intro z hz
      obtain ⟨hat, hin, hclk, -⟩ := hall z hz
      exact ⟨hat, hin, hclk⟩
    refine ⟨_, congrArg Host.Outcome.next (syncSatisfied_of_group hx hmode harrived hcursor), fun z hz => ?_⟩
    refine forEach_syncFinish (nodup_members s _) _ (fun w hw => ?_) rfl hz
    obtain ⟨hat, -, -, hhold, hloops, -, hle⟩ := hall w hw
    exact ⟨sync_of_atSyncGroup hat, hhold, hloops, hle⟩

end Sys2Proof.Laws
end

section
namespace Sys2Proof.Laws
open Sys2Proof.Machine

-- One theorem after another: a thread for each of them passes the memory limit of the check.
set_option Elab.async false

/-! ### WAITD takes a path (R111 to R113) -/

/-- In time for what is staged, or nothing is. -/
def inTimeFor (x : WaitD) (d : Nat) : Prop := (x.stagedT = [] ∧ x.stagedF = []) ∨ x.clk + 32 ≤ d

/-- The path taken has nothing staged. -/
def nothingStaged (x : WaitD) (take : Bool) : Prop := (if take = true then x.stagedT else x.stagedF) = []

/-- The Mast has left WAIT_D at D on the path taken. -/
structure TookPath (s t : State) (y d : Nat) (x : WaitD) (take : Bool) : Prop where
  tq : t.tq y = d + 288 - s.origin y
  pc : t.pc y = if take = true then x.target else (x.pc + 1) % 2 ^ 15
  sts : t.rd (SEQ_STS y) = insF (insF (s.rd (SEQ_STS y)) SEQ_STS_STAGED 0) SEQ_STS_MSTATE 2
  mast : t.mast y = { s.mast y with waitd := none, clk := max (d + 16) (x.clk + 16), loops := (t.mast y).loops }
  turn : Turn y [SEQ_STS y, SEQ_PC y, SEQ_TQ y] s t

/-- The Mast back in ISSUE with its cursor set, before the path. -/
def waitdResumed (y d : Nat) (x : WaitD) (s : State) : State :=
  ((((s.setF (SEQ_STS y) SEQ_STS_STAGED 0).modMast y fun m => { m with waitd := none }).setMst y mISSUE).setClk y
    (max (d + 16) (x.clk + 16))).setTq y (d + 288 - s.origin y)

theorem waitdTake_eq {s : State} {y d : Nat} {x : WaitD} {take : Bool} (hin : inTimeFor x d) (hrun : nothingStaged x take) :
    waitdTake y d x take s = if take = true then jumpTo y x.target (waitdResumed y d x s) else (waitdResumed y d x s).setPc y (x.pc + 1) := by
  have hintime : ¬ ((!x.stagedT.isEmpty || !x.stagedF.isEmpty) && decide (d < x.clk + 2 * ft)) = true := by
    obtain ⟨ht, hf⟩ | hlate := hin
    · simp [ht, hf]
    · have hnot : ¬ d < x.clk + 2 * ft := by
        unfold ft
        omega
      simp [hnot]
  have horigin : ((((s.setF (SEQ_STS y) SEQ_STS_STAGED 0).modMast y fun m => { m with waitd := none }).setMst y mISSUE).setClk y
      (max (d + ft) (x.clk + ft))).origin y = s.origin y := by
    have hne : SEQ_ORIGIN y ≠ SEQ_STS y := by unfold SEQ_ORIGIN SEQ_STS; omega
    exact (rdN_setF_ne _ _ _ _ _ hne).trans (rdN_setF_ne _ _ _ _ _ hne)
  unfold nothingStaged at hrun
  unfold waitdTake
  dsimp only
  rw [if_neg hintime, hrun, horigin]
  rfl

theorem tookPath_waitdTake {s : State} {y d : Nat} {x : WaitD} {take : Bool} (hin : inTimeFor x d) (hrun : nothingStaged x take)
    (hd : d + 288 - s.origin y < 2 ^ 48) (htarget : x.target < 2 ^ 15) : TookPath s (waitdTake y d x take s) y d x take := by
  obtain ⟨u, hu⟩ : ∃ u, u = waitdResumed y d x s := ⟨_, rfl⟩
  have hne : SEQ_STS y ≠ SEQ_TQ y := by unfold SEQ_STS SEQ_TQ; omega
  have hpsts : SEQ_STS y ≠ SEQ_PC y := by unfold SEQ_STS SEQ_PC; omega
  have hptq : SEQ_TQ y ≠ SEQ_PC y := by unfold SEQ_TQ SEQ_PC; omega
  have htq : u.tq y = d + 288 - s.origin y := by
    rw [hu]
    exact (tq_setTq ..).trans (Nat.mod_eq_of_lt (by omega))
  have hsts : u.rd (SEQ_STS y) = insF (insF (s.rd (SEQ_STS y)) SEQ_STS_STAGED 0) SEQ_STS_MSTATE 2 := by
    rw [hu]
    exact (rd_wrN_ne _ _ _ _ hne).trans ((rd_setF_same ..).trans (congrArg (insF · _ _) (rd_setF_same ..)))
  have hmast : u.mast y = { s.mast y with waitd := none, clk := max (d + 16) (x.clk + 16) } := by simp [hu, waitdResumed]
  have hturn : Turn y [SEQ_STS y, SEQ_PC y, SEQ_TQ y] s u := by
    rw [hu]
    exact (((Turn.rfl.wr (by simp)).modMast.wr (by simp)).setClk).wr (by simp)
  rw [waitdTake_eq hin hrun, ← hu]
  cases take with
  | true => exact {
      tq := (rdN_setF_ne _ _ _ _ _ hptq).trans htq
      pc := (pc_setPc ..).trans (Nat.mod_eq_of_lt htarget)
      sts := (rd_setF_ne _ _ _ _ _ hpsts).trans hsts
      mast := by simp [jumpTo, hmast]
      turn := hturn.modMast.wr (by simp) }
  | false => exact {
      tq := (rdN_setF_ne _ _ _ _ _ hptq).trans htq
      pc := pc_setPc ..
      sts := (rd_setF_ne _ _ _ _ _ hpsts).trans hsts
      mast := by simp [hmast]
      turn := hturn.wr (by simp) }

/-! ### The decision that counts, and the deadline (R108, R109, Table 3-6) -/

theorem exec_waitdResolve {s : State} {y : Nat} (hm : s.mst y = 4) (hhold : (s.mast y).hold = .none) :
    exec (.waitdResolve y) s = .next (waitdResolve y s) :=
  congrArg Host.Outcome.next ((if_neg (by rw [atWaitc_of_noHold hhold]; decide)).trans (if_pos hm))

theorem exec_waitdDeadline {s : State} {y : Nat} (hm : s.mst y = 4) (hhold : (s.mast y).hold = .none) :
    exec (.waitdDeadline y) s = .next (waitdDeadline y s) :=
  congrArg Host.Outcome.next ((if_neg (by rw [atWaitc_of_noHold hhold]; decide)).trans (if_pos hm))

/-- A decision that counts takes the path of its state, or the default path where LQD is set and it is of low quality. -/
theorem waitdResolve_of_counts {s : State} {y r v : Nat} {x : WaitD} {toTarget : Bool} (hx : (s.mast y).waitd = some x)
    (hmay : s.slotMay y x.slot = true)
    (hfirst : ((tget s.cnv.rels x.slot).filter fun r => bit r.2 2 && decide (x.from_ ≤ r.1) && decide (r.1 ≤ x.deadline)).getLast? = some (r, v))
    (hfault : ¬ (x.lqd = true ∧ bit v 4 = true ∧ x.dflt = 2))
    (hto : toTarget = true ↔ if x.lqd = true ∧ bit v 4 = true then x.dflt = 1 else v % 4 = x.st ∧ x.st ≠ 3) :
    waitdResolve y s = waitdTake y (ceilFt r) x toTarget s := by
  have hcounts : s.waitdFirst y x = some (r, v) := (if_neg (not_not.mpr hmay)).trans hfirst
  unfold waitdResolve
  rw [hx]
  dsimp only
  rw [hcounts]
  dsimp only
  by_cases hlow : x.lqd = true ∧ bit v 4 = true
  · rw [if_pos hlow] at hto
    rw [if_pos hlow, waitdDefault, if_neg fun h => hfault ⟨hlow.1, hlow.2, h⟩]
    rw [Bool.eq_iff_iff.mpr (hto.trans beq_iff_eq.symm)]
  · rw [if_neg hlow] at hto
    rw [if_neg hlow]
    rw [Bool.eq_iff_iff.mpr (hto.trans (by simp : _ ↔ (v % 4 == x.st && x.st != 3) = true))]

/-- The count of the time-outs, at the deadline. -/
def timedOut (y : Nat) (s : State) : State := (s.inc (SEQ_TO_CNT y)).modMast y fun m => { m with toShot := m.toShot + 1 }

theorem waitdDeadline_of_none {s : State} {y : Nat} {x : WaitD} (hx : (s.mast y).waitd = some x)
    (hnone : ∀ r ∈ tget s.cnv.rels x.slot, ¬ (bit r.2 2 = true ∧ x.from_ ≤ r.1 ∧ r.1 ≤ x.deadline)) (hreached : s.reached x.deadline = true) :
    waitdDeadline y s = waitdDefault y x.deadline x (timedOut y s) := by
  have hfilter : (tget s.cnv.rels x.slot).filter (fun r => bit r.2 2 && decide (x.from_ ≤ r.1) && decide (r.1 ≤ x.deadline)) = [] := by
    refine List.filter_eq_nil_iff.mpr fun r hr => ?_
    simpa [and_assoc] using hnone r hr
  have hfirst : s.waitdFirst y x = none := by
    unfold State.waitdFirst
    rw [hfilter]
    exact ite_self _
  unfold waitdDeadline
  rw [hx]
  dsimp only
  rw [hfirst]
  exact if_neg (by simp [hreached])

theorem turn_timedOut (y : Nat) (s : State) : Turn y [SEQ_TO_CNT y] s (timedOut y s) := (Turn.rfl.wr List.mem_cons_self).modMast

theorem toCnt_timedOut (y : Nat) (s : State) : (timedOut y s).rdN (SEQ_TO_CNT y) = min 0xFFFFFFFF (s.rdN (SEQ_TO_CNT y) + 1) := rdN_inc ..

theorem mast_timedOut (y : Nat) (s : State) : (timedOut y s).mast y = { s.mast y with toShot := (s.mast y).toShot + 1 } := by
  simp [timedOut]

/-- Changes to the same Mast, one after another. -/
theorem Turn.trans {y : Nat} {as bs cs : List Nat} {s t u : State} (h : Turn y as s t) (k : Turn y bs t u) (has : as ⊆ cs) (hbs : bs ⊆ cs) :
    Turn y cs s u := by
  obtain ⟨⟨hframe, hseq, hmast⟩, hkeeps⟩ := h
  obtain ⟨⟨kframe, kseq, kmast⟩, kkeeps⟩ := k
  refine ⟨⟨?_, ?_, fun z hz => (kmast z hz).trans (hmast z hz)⟩, fun a ha => ?_⟩
  · exact (congrArg (fun x : State => { x with regs := s.regs, seq := s.seq }) kframe).trans hframe
  · exact (congrArg (fun q : Seq => { q with masts := s.seq.masts }) kseq).trans hseq
  · exact (kkeeps a fun hb => ha (hbs hb)).trans (hkeeps a fun hb => ha (has hb))

theorem syncTimeout_of_late {s : State} {y : Nat} {x : SyncW} (hx : (s.mast y).sync = some x) (hlate : x.until_ < s.tb1) :
    syncTimeout y s = progFault y (s.pc y) E_SEQ_SYNC_TIMEOUT s := by
  unfold syncTimeout
  rw [hx]
  exact if_pos hlate

/-- Settles O16: the path is that of the decision or of DEF (`waitdResolve_of_counts`, `waitdDeadline_of_none`), and taking it is
`tookPath_waitdTake`; the two time-outs that are program faults are `progFaulted_progFault`. -/
theorem waitdTakesThePathOfItsDecision : Obligations.WaitdTakesThePathOfItsDecision := by
  refine ⟨fun s y x r v d toTarget hm hhold hx hmay hfirst hd hfault hto hin hrun htq htarget => ?_,
    fun s y x hm hhold hx hnone hreached hdflt hin hrun htq htarget => ?_, fun s y x hm hhold hx hnone hreached hdflt => ?_,
    fun s y x hx hlate => ?_⟩
  · subst hd
    have h := tookPath_waitdTake hin hrun htq htarget
    have hexec := (exec_waitdResolve hm hhold).trans (congrArg _ (waitdResolve_of_counts hx hmay hfirst hfault hto))
    exact ⟨_, hexec, h.tq, h.pc, h.sts, (congrArg Mast.waitd h.mast :), (congrArg Mast.clk h.mast :), h.turn.1, h.turn.2⟩
  · have horigin : (timedOut y s).origin y = s.origin y := rdN_inc_ne _ _ _ (by unfold SEQ_ORIGIN SEQ_TO_CNT; omega)
    have hsts : (timedOut y s).rd (SEQ_STS y) = s.rd (SEQ_STS y) := rd_inc_ne _ _ _ (by unfold SEQ_STS SEQ_TO_CNT; omega)
    have hrun' : nothingStaged x (x.dflt == 1) := by simpa [nothingStaged] using hrun
    have h := tookPath_waitdTake hin hrun' (s := timedOut y s) (y := y) (horigin ▸ htq) htarget
    have hexec := (exec_waitdDeadline hm hhold).trans (congrArg _ ((waitdDeadline_of_none hx hnone hreached).trans (if_neg hdflt)))
    have hcnt := h.turn.2 (SEQ_TO_CNT y) (by simp [SEQ_TO_CNT, SEQ_STS, SEQ_PC, SEQ_TQ])
    obtain ⟨hframe, hkeeps⟩ := (turn_timedOut y s).trans h.turn (cs := [SEQ_STS y, SEQ_PC y, SEQ_TQ y, SEQ_TO_CNT y]) (by simp) (by simp)
    refine ⟨_, hexec, h.tq.trans (by rw [horigin]), h.pc.trans (by simp), (congrArg BitVec.toNat hcnt).trans (toCnt_timedOut y s), ?_,
      h.sts.trans (by rw [hsts]), (congrArg Mast.waitd h.mast :), hframe, hkeeps⟩
    exact (congrArg Mast.toShot h.mast).trans (by rw [mast_timedOut])
  · have hexec := (exec_waitdDeadline hm hhold).trans (congrArg _ ((waitdDeadline_of_none hx hnone hreached).trans (if_pos hdflt)))
    obtain ⟨hfault, hmst, -, -, -, -, -, -, -, -, hkeeps⟩ := progFaulted_progFault (timedOut y s) y x.pc (code := E_SHT_FB_TIMEOUT) (by decide)
    have hg := groupOf_lt (timedOut y s) y
    have hcnt := hkeeps (SEQ_TO_CNT y) (by simp [SEQ_TO_CNT, SEQ_FAULT, SEQ_STS, GLB_LSG_STAT]; omega)
    exact ⟨_, hexec, hfault, hmst, (congrArg BitVec.toNat hcnt).trans (toCnt_timedOut y s)⟩
  · exact ⟨_, congrArg Host.Outcome.next (syncTimeout_of_late hx hlate), progFaulted_progFault s y (s.pc y) (by decide)⟩

end Sys2Proof.Laws
end

section
namespace Sys2Proof.Laws
open Sys2Proof.Machine

-- One theorem after another: a thread for each of them passes the memory limit of the check.
set_option Elab.async false

/-! ### UC_STS (Table 4-9)

Every command of the patch loader sets STATUS, and most set PSTATE with it. -/

theorem status_ucStatus (s : State) (y code : Nat) : (s.status (UC_STS y) code).fld (UC_STS y) UC_STS_STATUS = code % 2 ^ 16 :=
  fld_setF _ _ _ _ (by decide)

theorem ust_ucStatus (s : State) (y code : Nat) : (s.status (UC_STS y) code).ust y = s.ust y :=
  fld_setF_beside _ _ _ _ _ (by decide) (by decide) (by decide)

theorem onlyRegs_ucStatus (s : State) (y code : Nat) : s.onlyRegs (s.status (UC_STS y) code) [UC_STS y] := onlyRegs_setF ..

/-- STATUS and PSTATE of UC_STS set. -/
def patchMoved (y code p : Nat) (s : State) : State := (s.status (UC_STS y) code).setF (UC_STS y) UC_STS_PSTATE p

theorem ust_patchMoved (s : State) (y code : Nat) {p : Nat} (hp : p < 8) : (patchMoved y code p s).ust y = p :=
  (fld_setF _ _ _ _ (by decide)).trans (Nat.mod_eq_of_lt hp)

theorem status_patchMoved (s : State) (y code p : Nat) : (patchMoved y code p s).fld (UC_STS y) UC_STS_STATUS = code % 2 ^ 16 :=
  (fld_setF_beside _ _ _ _ _ (by decide) (by decide) (by decide)).trans (status_ucStatus s y code)

theorem onlyRegs_patchMoved (s : State) (y code p : Nat) : s.onlyRegs (patchMoved y code p s) [UC_STS y] :=
  onlyRegs_trans (onlyRegs_ucStatus ..) (onlyRegs_setF ..) (List.Subset.refl _) (List.Subset.refl _)

@[simp] theorem mast_patchMoved (s : State) (y code p z : Nat) : (patchMoved y code p s).mast z = s.mast z := rfl

theorem Turn.patchMoved {y code p : Nat} {as : List Nat} {s₀ s : State} (h : Turn y as s₀ s) (ha : UC_STS y ∈ as) :
    Turn y as s₀ (patchMoved y code p s) := (h.wr ha).wr ha

/-! ### LOAD and ROM_ONLY (R136, R137, R143) -/

/-- LOAD begins the header phase, which holds the PSTATE that a bad header brings back. -/
theorem ucLoad_of_accepted {s : State} {y : Nat} (hdev : s.dev = dCONFIG ∨ s.dev = dREADY ∨ s.dev = dRUN) (hfree : s.ucBusy y = false)
    (hlen : 0 < s.fld (UC_LEN y) UC_LEN_LEN) (hmax : s.fld (UC_LEN y) UC_LEN_LEN ≤ 12288) (halign : s.rdN (UC_SRC y) % 8 = 0)
    (hend : s.rdN (UC_SRC y) + s.fld (UC_LEN y) UC_LEN_LEN ≤ 2 ^ 64) :
    ucLoad y s = (patchMoved y 0 uLOADING s).modMast y fun m => { m with ucLoad := some ⟨false, s.ust y, 0, 0, []⟩ } := by
  simp only [ucLoad, hdev, hfree, halign, Nat.ne_of_gt hlen, Nat.not_lt.mpr hmax, Nat.not_lt.mpr hend, not_true_eq_false, ne_eq, if_false,
    Bool.false_eq_true, ust_ucStatus]
  rfl

theorem ucLoad_of_busy {s : State} {y : Nat} (hdev : s.dev = dCONFIG ∨ s.dev = dREADY ∨ s.dev = dRUN) (hbusy : s.ucBusy y = true) :
    ucLoad y s = s.status (UC_STS y) E_UC_BUSY := by
  have hcode : E_UC_BUSY ≠ 0 := by decide
  simp only [ucLoad, hdev, hbusy, not_true_eq_false, if_false, if_true, ne_eq, hcode, not_false_eq_true]

theorem ucRomOnly_of_free {s : State} {y : Nat} (hfree : s.ucBusy y = false) :
    ucRomOnly y s = ((patchMoved y 0 uNONE s).setF (UC_VER y) UC_VER_LEVEL 0).modMast y fun m => { m with ucMap := [] } :=
  if_neg (by simp [hfree])

/-! ### The header phase (R137, R138, R140) -/

theorem ucHeader_of_bad {s : State} {y : Nat} {bs : List (BitVec 8)} {l : UcLoad} (hl : (s.mast y).ucLoad = some l) (hphase : l.body = false)
    (hbad : s.headerErr y bs ≠ 0) :
    ucHeader y bs s = (patchMoved y (s.headerErr y bs) l.level s).modMast y fun m => { m with ucLoad := none } := by
  unfold ucHeader
  rw [hl]
  simp only [hphase, hbad, Bool.false_eq_true, if_false, ne_eq, not_false_eq_true, if_true]
  rfl

/-- The body phase that a header announces. -/
def announced (bs : List (BitVec 8)) : UcLoad :=
  ⟨true, leAt bs 0x0A 2, leAt bs 0x0C 2, leAt bs 0x14 4, (List.range (leAt bs 0x0E 2)).map (patchMap bs)⟩

theorem length_maps_announced (bs : List (BitVec 8)) : (announced bs).maps.length = leAt bs 0x0E 2 := by simp [announced]

theorem ucHeader_of_good {s : State} {y : Nat} {bs : List (BitVec 8)} {l : UcLoad} (hl : (s.mast y).ucLoad = some l) (hphase : l.body = false)
    (hgood : s.headerErr y bs = 0) :
    ucHeader y bs s = s.modMast y fun m => { m with ucMap := [], ucLoad := some (announced bs) } := by
  unfold ucHeader
  rw [hl]
  simp only [hphase, hgood, Bool.false_eq_true, if_false, ne_eq, not_true_eq_false]
  rfl

/-! ### Errors of the control store (R134) -/

/-- A corrected error of a read of patch RAM is counted. -/
def eccCounted (y ecc : Nat) (s : State) : State := s.when (ecc == 1) fun s => s.inc (UC_ECC_CNT y)

theorem eccCnt_eccCounted (s : State) (y : Nat) {ecc : Nat} (h : ecc = 1) :
    (eccCounted y ecc s).rdN (UC_ECC_CNT y) = min 0xFFFFFFFF (s.rdN (UC_ECC_CNT y) + 1) := by
  subst h
  exact rdN_inc ..

theorem onlyRegs_eccCounted (s : State) (y ecc : Nat) : s.onlyRegs (eccCounted y ecc s) (if ecc = 1 then [UC_ECC_CNT y] else []) := by
  by_cases h : ecc = 1
  · rw [if_pos h]
    subst h
    exact onlyRegs_wr ..
  · have hsame : eccCounted y ecc s = s := by simp [eccCounted, State.when, h]
    rw [hsame]
    exact onlyRegs_rfl ..

theorem rd_eccCounted (s : State) (y ecc : Nat) {a : Nat} (ha : a ≠ UC_ECC_CNT y) : (eccCounted y ecc s).rd a = s.rd a := by
  refine (onlyRegs_eccCounted s y ecc).2 a ?_
  split
  · simpa using ha
  · exact List.not_mem_nil

/-! ### The body phase (R139, R141) -/

/-- The body has been written to patch RAM and read back. -/
def bodyWritten (y : Nat) (body : List (BitVec 8)) (words ecc : Nat) (s : State) : State :=
  eccCounted y ecc { s with seq := { s.seq with patch := stList s.seq.patch (8192 * y) (body.take (4 * words)) } }

section
variable (s : State) (y : Nat) (body : List (BitVec 8)) (words ecc : Nat)

theorem seq_bodyWritten :
    (bodyWritten y body words ecc s).seq = { s.seq with patch := stList s.seq.patch (8192 * y) (body.take (4 * words)) } :=
  seq_of_onlyRegs (onlyRegs_eccCounted _ y ecc)

theorem mast_bodyWritten : (bodyWritten y body words ecc s).mast y = s.mast y :=
  (congrArg (fun q : Seq => tget q.masts y) (seq_bodyWritten s y body words ecc) :)

theorem keeps_bodyWritten : s.keeps (bodyWritten y body words ecc s) (if ecc = 1 then [UC_ECC_CNT y] else []) :=
  (onlyRegs_eccCounted _ y ecc).2

theorem rd_bodyWritten {a : Nat} (ha : a ≠ UC_ECC_CNT y) : (bodyWritten y body words ecc s).rd a = s.rd a := rd_eccCounted _ y ecc ha

end

/-- UC_CRC holds the CRC-32 that the header announced, as the body has been read back with it. -/
def bodyChecked (y : Nat) (body : List (BitVec 8)) (l : UcLoad) (ecc : Nat) (s : State) : State :=
  (bodyWritten y body l.words ecc s).wrN (UC_CRC y) l.crc

section
variable (s : State) (y : Nat) (body : List (BitVec 8)) (l : UcLoad) (ecc : Nat)

theorem rd_bodyChecked {a : Nat} (hcrc : a ≠ UC_CRC y) (hcnt : a ∉ if ecc = 1 then [UC_ECC_CNT y] else []) :
    (bodyChecked y body l ecc s).rd a = s.rd a := (rd_wrN_ne _ _ _ _ hcrc).trans (keeps_bodyWritten s y body l.words ecc a hcnt)

theorem crc_bodyChecked (hcrc : l.crc < 2 ^ 64) : (bodyChecked y body l ecc s).rdN (UC_CRC y) = l.crc :=
  (rdN_wrN ..).trans (Nat.mod_eq_of_lt hcrc)

theorem eccCnt_bodyChecked (h : ecc = 1) :
    (bodyChecked y body l ecc s).rdN (UC_ECC_CNT y) = min 0xFFFFFFFF (s.rdN (UC_ECC_CNT y) + 1) :=
  (rdN_wrN_ne _ _ _ _ (by simp [UC_ECC_CNT, UC_CRC])).trans (eccCnt_eccCounted _ y h)

theorem mast_bodyChecked : (bodyChecked y body l ecc s).mast y = s.mast y := mast_bodyWritten ..

/-- Patch RAM beyond the body of the new patch is unchanged. -/
theorem ldByte_patch_bodyChecked {a : Nat} (ha : a < 8192 * y ∨ 8192 * y + 4 * l.words ≤ a) :
    ldByte (bodyChecked y body l ecc s).seq.patch a = ldByte s.seq.patch a := by
  have hpatch : (bodyChecked y body l ecc s).seq.patch = stList s.seq.patch (8192 * y) (body.take (4 * l.words)) :=
    congrArg Seq.patch (seq_bodyWritten ..)
  have hlen : (body.take (4 * l.words)).length ≤ 4 * l.words := List.length_take_le ..
  rw [hpatch, ldByte_stList_ne _ _ _ _ (by omega)]

end

/-- The new patch is in force: PSTATE, UC_VER, UC_FLOOR and the map (R141). -/
def patchActive (y : Nat) (l : UcLoad) (s : State) : State :=
  let s := (patchMoved y 0 uACTIVE s).setF (UC_VER y) UC_VER_LEVEL l.level
  let s := s.setF (UC_FLOOR y) UC_FLOOR_FLOOR (max (s.fld (UC_FLOOR y) UC_FLOOR_FLOOR) l.level)
  s.modMast y fun m => { m with ucMap := l.maps, ucLoad := none, ucWords := l.words, ucCrc := l.crc }

section
variable (s : State) (y : Nat) (l : UcLoad)

theorem ust_patchActive : (patchActive y l s).ust y = uACTIVE :=
  calc (patchActive y l s).ust y
      = ((patchMoved y 0 uACTIVE s).setF (UC_VER y) UC_VER_LEVEL l.level).ust y := fld_setF_ne _ _ _ _ _ _ (by simp [UC_STS, UC_FLOOR])
    _ = (patchMoved y 0 uACTIVE s).ust y := fld_setF_ne _ _ _ _ _ _ (by simp [UC_STS, UC_VER])
    _ = uACTIVE := ust_patchMoved s y 0 (by decide)

theorem level_patchActive (hl : l.level < 2 ^ 16) : (patchActive y l s).fld (UC_VER y) UC_VER_LEVEL = l.level :=
  (fld_setF_ne _ _ _ _ _ _ (by simp [UC_VER, UC_FLOOR])).trans <| (fld_setF _ _ _ _ (by decide)).trans (Nat.mod_eq_of_lt hl)

theorem rom_patchActive : (patchActive y l s).fld (UC_VER y) UC_VER_ROM = s.fld (UC_VER y) UC_VER_ROM :=
  calc (patchActive y l s).fld (UC_VER y) UC_VER_ROM
      = ((patchMoved y 0 uACTIVE s).setF (UC_VER y) UC_VER_LEVEL l.level).fld (UC_VER y) UC_VER_ROM :=
        fld_setF_ne _ _ _ _ _ _ (by simp [UC_VER, UC_FLOOR])
    _ = (patchMoved y 0 uACTIVE s).fld (UC_VER y) UC_VER_ROM := fld_setF_beside _ _ _ _ _ (by decide) (by decide) (by decide)
    _ = s.fld (UC_VER y) UC_VER_ROM := fld_of_onlyRegs (onlyRegs_patchMoved ..) (by simp [UC_VER, UC_STS]) _

theorem floor_patchActive (hl : l.level < 2 ^ 16) :
    (patchActive y l s).fld (UC_FLOOR y) UC_FLOOR_FLOOR = max (s.fld (UC_FLOOR y) UC_FLOOR_FLOOR) l.level := by
  have hold : ((patchMoved y 0 uACTIVE s).setF (UC_VER y) UC_VER_LEVEL l.level).fld (UC_FLOOR y) UC_FLOOR_FLOOR
      = s.fld (UC_FLOOR y) UC_FLOOR_FLOOR :=
    (fld_setF_ne _ _ _ _ _ _ (by simp [UC_VER, UC_FLOOR])).trans (fld_of_onlyRegs (onlyRegs_patchMoved ..) (by simp [UC_FLOOR, UC_STS]) _)
  have hfloor : s.fld (UC_FLOOR y) UC_FLOOR_FLOOR < 2 ^ 16 := getF_lt _ _ (by decide)
  refine (fld_setF _ _ _ _ (by decide)).trans ?_
  rw [hold]
  exact Nat.mod_eq_of_lt (max_lt hfloor hl)

theorem mast_patchActive :
    (patchActive y l s).mast y = { s.mast y with ucMap := l.maps, ucLoad := none, ucWords := l.words, ucCrc := l.crc } :=
  (mast_modMast ..).trans (if_pos rfl)

theorem turn_patchActive : Turn y [UC_STS y, UC_VER y, UC_FLOOR y] s (patchActive y l s) :=
  (((Turn.rfl.patchMoved (by simp)).wr (by simp)).wr (by simp)).modMast

end

/-- A load that succeeds leaves alone every register but those of R134, R141 and R144. -/
theorem keeps_patchActive_bodyChecked (s : State) (y : Nat) (body : List (BitVec 8)) (l : UcLoad) (ecc : Nat) :
    s.keeps (patchActive y l (bodyChecked y body l ecc s))
      ([UC_STS y, UC_VER y, UC_FLOOR y, UC_CRC y] ++ if ecc = 1 then [UC_ECC_CNT y] else []) := by
  intro a ha
  obtain ⟨hlist, hcnt⟩ := not_or.mp (mt List.mem_append.mpr ha)
  simp only [List.mem_cons, List.not_mem_nil, or_false, not_or] at hlist
  obtain ⟨hsts, hver, hfloor, hcrc⟩ := hlist
  have hactive := (turn_patchActive (bodyChecked y body l ecc s) y l).2 a (by simp [hsts, hver, hfloor])
  exact hactive.trans (rd_bodyChecked s y body l ecc hcrc hcnt)

section
variable (s : State) (y code : Nat)

theorem ust_ucBodyFail : (ucBodyFail y code s).ust y = uFAILED :=
  (fld_setF_ne _ _ _ _ _ _ (by simp [UC_STS, UC_VER])).trans (ust_patchMoved s y code (by decide))

theorem status_ucBodyFail : (ucBodyFail y code s).fld (UC_STS y) UC_STS_STATUS = code % 2 ^ 16 :=
  (fld_setF_ne _ _ _ _ _ _ (by simp [UC_STS, UC_VER])).trans (status_patchMoved s y code uFAILED)

theorem level_ucBodyFail : (ucBodyFail y code s).fld (UC_VER y) UC_VER_LEVEL = 0 := fld_setF _ _ _ _ (by decide)

theorem turn_ucBodyFail : Turn y [UC_STS y, UC_VER y] s (ucBodyFail y code s) :=
  ((Turn.rfl.patchMoved (by simp)).wr (by simp)).modMast

end

/-- A yard whose body phase fails runs on ROM only; the body in patch RAM stays the new one. -/
theorem mast_ucBodyFail {s : State} {y : Nat} {l : UcLoad} (hl : (s.mast y).ucLoad = some l) (code : Nat) :
    (ucBodyFail y code s).mast y = { s.mast y with ucMap := [], ucLoad := none, ucWords := l.words, ucCrc := l.crc } := by
  simp [ucBodyFail, hl]

theorem ucBody_of_unsigned {s : State} {y ecc : Nat} {l : UcLoad} (hl : (s.mast y).ucLoad = some l) (hphase : l.body = true)
    (body : List (BitVec 8)) : ucBody y body false ecc s = ucBodyFail y E_UC_SIG (bodyWritten y body l.words ecc s) := by
  unfold ucBody
  rw [hl]
  simp only [hphase, not_true_eq_false, if_false, Bool.false_eq_true, not_false_eq_true, true_or, if_true]
  rfl

/-- Whether the seal refuses a patch rests on the image and on the states of the partitions, which the body leaves as they are. -/
theorem ucSealed_bodyWritten (s : State) (y : Nat) (body : List (BitVec 8)) (words ecc : Nat) :
    (bodyWritten y body words ecc s).ucSealed y = s.ucSealed y := by
  have himg : (bodyWritten y body words ecc s).img = s.img := (img_of_onlyRegs (onlyRegs_eccCounted _ y ecc) :)
  have hclosed (p : Nat) : (bodyWritten y body words ecc s).closed p = s.closed p :=
    congrArg (fun v => decide (pSEALING ≤ getF v SHR_PSTS_PSTATE)) (rd_bodyWritten s y body words ecc (by unfold SHR_PSTS UC_ECC_CNT; omega))
  simp only [State.ucSealed, State.partOf, State.comp, himg, hclosed]

/-- A signed body whose CRC-32 is the announced one becomes the patch in force. -/
theorem ucBody_of_verified {s : State} {y ecc : Nat} {l : UcLoad} {body : List (BitVec 8)} (hl : (s.mast y).ucLoad = some l)
    (hphase : l.body = true) (hopen : s.ucSealed y = false) (hecc : ecc < 2)
    (hcrc : crc32 (ldList (stList s.seq.patch (8192 * y) (body.take (4 * l.words))) (8192 * y) (4 * l.words)) = l.crc) :
    ucBody y body true ecc s = patchActive y l (bodyChecked y body l ecc s) := by
  have hopen' : (bodyWritten y body l.words ecc s).ucSealed y = false := (ucSealed_bodyWritten ..).trans hopen
  have hverdict : ¬ (¬ true = true ∨ (bodyWritten y body l.words ecc s).ucSealed y = true) := by simp [hopen']
  have hcrc' : crc32 (ldList (bodyWritten y body l.words ecc s).seq.patch (8192 * y) (4 * l.words)) = l.crc := by rw [seq_bodyWritten, hcrc]
  unfold ucBody
  rw [hl]
  dsimp only
  rw [if_neg (not_not_intro hphase)]
  refine (if_neg hverdict).trans ((if_neg (Nat.ne_of_lt hecc)).trans ?_)
  refine (if_neg (not_not_intro hcrc')).trans ?_
  exact congrArg (fun c => patchActive y l ((bodyWritten y body l.words ecc s).wrN (UC_CRC y) c)) hcrc'

/-! ### VERIFY (R144) -/

theorem crc32_lt (bs : List (BitVec 8)) : crc32 bs < 2 ^ 32 := BitVec.isLt _

/-- The CRC-32 of the body in patch RAM. -/
def patchCrc (y : Nat) (s : State) : Nat := crc32 (ldList s.seq.patch (8192 * y) (4 * (s.mast y).ucWords))

/-- The body has been read again: UC_CRC holds its CRC-32. -/
def crcRead (y ecc : Nat) (s : State) : State := eccCounted y ecc (s.wrN (UC_CRC y) (patchCrc y s))

theorem crc_crcRead (s : State) (y ecc : Nat) : (crcRead y ecc s).rdN (UC_CRC y) = patchCrc y s := by
  have hfits : patchCrc y s < 2 ^ 64 := (crc32_lt _).trans (by decide)
  calc (crcRead y ecc s).rdN (UC_CRC y)
      = (s.wrN (UC_CRC y) (patchCrc y s)).rdN (UC_CRC y) := congrArg BitVec.toNat (rd_eccCounted _ y ecc (by simp [UC_CRC, UC_ECC_CNT]))
    _ = patchCrc y s % 2 ^ 64 := rdN_wrN ..
    _ = patchCrc y s := Nat.mod_eq_of_lt hfits

theorem eccCnt_crcRead (s : State) (y : Nat) {ecc : Nat} (h : ecc = 1) :
    (crcRead y ecc s).rdN (UC_ECC_CNT y) = min 0xFFFFFFFF (s.rdN (UC_ECC_CNT y) + 1) := by
  rw [crcRead, eccCnt_eccCounted _ y h, rdN_wrN_ne _ _ _ _ (by simp [UC_CRC, UC_ECC_CNT])]

theorem onlyRegs_crcRead (s : State) (y ecc : Nat) :
    s.onlyRegs (crcRead y ecc s) (UC_CRC y :: if ecc = 1 then [UC_ECC_CNT y] else []) :=
  onlyRegs_trans (onlyRegs_wr ..) (onlyRegs_eccCounted ..) (by simp) (List.subset_cons_self ..)

theorem ucVerify_of_uncorr {s : State} {y ecc : Nat} (h : ecc = 2) :
    ucVerify y ecc s = patchMoved y E_UC_ECC_UNCORR uFAILED (crcRead y ecc s) := if_pos h

theorem ucVerify_of_mismatch {s : State} {y ecc : Nat} (h : ecc ≠ 2) (hcrc : patchCrc y s ≠ (s.mast y).ucCrc) :
    ucVerify y ecc s = patchMoved y E_UC_VERIFY uFAILED (crcRead y ecc s) := (if_neg h).trans (if_pos hcrc)

theorem ucVerify_of_match {s : State} {y ecc : Nat} (h : ecc ≠ 2) (hcrc : patchCrc y s = (s.mast y).ucCrc) :
    ucVerify y ecc s = (crcRead y ecc s).status (UC_STS y) 0 := (if_neg h).trans (if_neg (not_not_intro hcrc))

/-- After the body has been read, VERIFY writes UC_STS alone. -/
theorem onlyRegs_ucVerify (s : State) (y ecc : Nat) : (crcRead y ecc s).onlyRegs (ucVerify y ecc s) [UC_STS y] := by
  by_cases h : ecc = 2
  · rw [ucVerify_of_uncorr h]
    exact onlyRegs_patchMoved ..
  · by_cases hcrc : patchCrc y s = (s.mast y).ucCrc
    · rw [ucVerify_of_match h hcrc]
      exact onlyRegs_ucStatus ..
    · rw [ucVerify_of_mismatch h hcrc]
      exact onlyRegs_patchMoved ..

/-! ### The clauses of O17 -/

/-- Settles O17: each command is one of the equations above, and UC_STS, UC_VER, UC_FLOOR, UC_CRC and the Mast of the yard are read after it. -/
theorem microcodePatchesLoadVerifyAndLeave : Obligations.MicrocodePatchesLoadVerifyAndLeave := by
  refine ⟨fun s y hopens hdev hfree hlen hmax halign hend => ?_, fun s y hopens hdev hbusy => ?_, fun s y bs l hl hphase hgood => ?_,
    fun s y bs l hl hphase hbad hlevel => ?_, fun s y body ecc l hl hphase hlevel hopen hfits hecc hcrc => ?_,
    fun s y body ecc l hl hphase => ?_, fun s y hopens hfree => ?_, fun s y c ecc hopens hc hecc => ?_⟩
  · have hexec := (hostWr_of_opens hopens (ucLoad y)).trans (ucLoad_of_accepted hdev hfree hlen hmax halign hend)
    have hmoved : Turn y [UC_STS y] s (patchMoved y 0 uLOADING s) := Turn.rfl.patchMoved List.mem_cons_self
    obtain ⟨hframe, hkeeps⟩ := hmoved.modMast
    exact ⟨_, congrArg Host.Outcome.next hexec, ust_patchMoved s y 0 (by decide), status_patchMoved s y 0 uLOADING,
      ⟨⟨false, s.ust y, 0, 0, []⟩, by simp, rfl, rfl⟩, by simp, hframe, hkeeps⟩
  · have hexec := (hostWr_of_opens hopens (ucLoad y)).trans (ucLoad_of_busy hdev hbusy)
    exact ⟨_, congrArg Host.Outcome.next hexec, ust_ucStatus s y _, status_ucStatus s y _, onlyRegs_ucStatus s y _⟩
  · have hsame : Turn y [] s s := Turn.rfl
    obtain ⟨hframe, -⟩ := hsame.modMast
    exact ⟨_, congrArg Host.Outcome.next (ucHeader_of_good hl hphase hgood), by simp,
      ⟨announced bs, by simp, rfl, rfl, rfl, rfl, length_maps_announced bs⟩, rfl, hframe⟩
  · exact ⟨_, congrArg Host.Outcome.next (ucHeader_of_bad hl hphase hbad), by simp, by simp, ust_patchMoved s y _ hlevel,
      status_patchMoved s y _ _, rfl, (Turn.rfl.patchMoved List.mem_cons_self).modMast.2⟩
  · have hmast := mast_patchActive (bodyChecked y body l ecc s) y l
    have hkeeps := (turn_patchActive (bodyChecked y body l ecc s) y l).2
    have hold {a : Nat} (ha : a ≠ UC_CRC y) (hcnt : a ≠ UC_ECC_CNT y) (f : Fld) : (bodyChecked y body l ecc s).fld a f = s.fld a f :=
      congrArg (getF · f) (rd_bodyChecked s y body l ecc ha (by split <;> simp [hcnt]))
    refine ⟨_, congrArg Host.Outcome.next (ucBody_of_verified hl hphase hopen hecc hcrc), ust_patchActive .., level_patchActive _ _ _ hlevel,
      ?_, ?_, ?_, congrArg Mast.ucMap hmast, congrArg Mast.ucLoad hmast, ?_, fun a ha => ldByte_patch_bodyChecked s y body l ecc ha, fun h => ?_,
      keeps_patchActive_bodyChecked s y body l ecc⟩
    · exact (rom_patchActive ..).trans (hold (by simp [UC_VER, UC_CRC]) (by simp [UC_VER, UC_ECC_CNT]) _)
    · rw [floor_patchActive _ _ _ hlevel, hold (by simp [UC_FLOOR, UC_CRC]) (by simp [UC_FLOOR, UC_ECC_CNT])]
    · have hread := hkeeps (UC_CRC y) (by simp [UC_CRC, UC_STS, UC_VER, UC_FLOOR])
      exact (congrArg BitVec.toNat hread).trans (crc_bodyChecked s y body l ecc hfits)
    · rw [hmast, mast_bodyChecked]
    · have hread := hkeeps (UC_ECC_CNT y) (by simp [UC_ECC_CNT, UC_STS, UC_VER, UC_FLOOR])
      exact (congrArg BitVec.toNat hread).trans (eccCnt_bodyChecked s y body l ecc h)
  · have hl' : ((bodyWritten y body l.words ecc s).mast y).ucLoad = some l := (congrArg Mast.ucLoad (mast_bodyWritten ..)).trans hl
    have hmast := mast_ucBodyFail hl' E_UC_SIG
    refine ⟨_, congrArg Host.Outcome.next (ucBody_of_unsigned hl hphase body), ust_ucBodyFail .., status_ucBodyFail .., level_ucBodyFail ..,
      congrArg Mast.ucMap hmast, congrArg Mast.ucLoad hmast, congrArg Mast.ucWords hmast, congrArg Mast.ucCrc hmast, fun a ha => ?_⟩
    obtain ⟨hlist, hcnt⟩ := not_or.mp (mt List.mem_append.mpr ha)
    exact ((turn_ucBodyFail ..).2 a hlist).trans (keeps_bodyWritten s y body l.words ecc a hcnt)
  · have hexec := (hostWr_of_opens hopens (ucRomOnly y)).trans (ucRomOnly_of_free hfree)
    have hne : UC_STS y ≠ UC_VER y := by simp [UC_STS, UC_VER]
    have hmoved : Turn y [UC_STS y, UC_VER y] s (patchMoved y 0 uNONE s) := Turn.rfl.patchMoved (by simp)
    obtain ⟨hframe, hkeeps⟩ := (hmoved.wr (List.mem_cons_of_mem _ List.mem_cons_self)).modMast
    exact ⟨_, congrArg Host.Outcome.next hexec, (fld_setF_ne _ _ _ _ _ _ hne).trans (ust_patchMoved s y 0 (by decide)),
      (fld_setF_ne _ _ _ _ _ _ hne).trans (status_patchMoved s y 0 uNONE), fld_setF _ _ _ _ (by decide), by simp, hframe, hkeeps⟩
  · have hread := onlyRegs_ucVerify s y ecc
    have hsame {a : Nat} (ha : a ≠ UC_STS y) : (ucVerify y ecc s).rdN a = (crcRead y ecc s).rdN a :=
      congrArg BitVec.toNat (hread.2 a (by simpa using ha))
    have hust : (crcRead y ecc s).ust y = s.ust y := by
      refine fld_of_onlyRegs (onlyRegs_crcRead s y ecc) ?_ _
      split <;> simp [UC_STS, UC_CRC, UC_ECC_CNT]
    refine ⟨_, congrArg Host.Outcome.next (hostWr_of_opens hopens (ucVerify y ecc)), ?_, fun h hm => ?_, fun h hm => ?_, fun h => ?_,
      fun h => ?_, ?_⟩
    · exact (hsame (by simp [UC_CRC, UC_STS])).trans ((crc_crcRead s y ecc).trans hc.symm)
    · rw [ucVerify_of_match (Nat.ne_of_lt h) (hc.symm.trans hm)]
      exact ⟨(ust_ucStatus ..).trans hust, status_ucStatus ..⟩
    · rw [ucVerify_of_mismatch (Nat.ne_of_lt h) (fun e => hm (hc.trans e))]
      exact ⟨ust_patchMoved _ y _ (by decide), status_patchMoved ..⟩
    · exact (hsame (by simp [UC_ECC_CNT, UC_STS])).trans (eccCnt_crcRead s y h)
    · rw [ucVerify_of_uncorr h]
      exact ⟨ust_patchMoved _ y _ (by decide), status_patchMoved ..⟩
    · exact onlyRegs_trans (onlyRegs_crcRead s y ecc) hread (by simp) (by simp)

end Sys2Proof.Laws
end

section
namespace Sys2Proof.Laws
open Sys2Proof.Machine

-- One theorem after another: a thread for each of them passes the memory limit of the check.
set_option Elab.async false

/-! ### What the Halyard commands change of the state: the Halyard and registers

`HalTurn as s₀ s` says that `s` comes from `s₀` with changes to the Halyard and to the registers of `as` only. As with `Turn`, the lemma of an
operation `f` is `HalTurn.f : HalTurn as s₀ s → HalTurn as s₀ (f s)`. -/

def HalTurn (as : List Nat) (s t : State) : Prop := { t with regs := s.regs, hal := s.hal } = s ∧ s.keeps t as

theorem HalTurn.rfl {as : List Nat} {s : State} : HalTurn as s s := ⟨Eq.refl _, fun _ _ => Eq.refl _⟩

section
variable {as : List Nat} {s₀ s : State}

theorem HalTurn.wr {a : Nat} {v : Word} (h : HalTurn as s₀ s) (ha : a ∈ as) : HalTurn as s₀ (s.wr a v) := by
  obtain ⟨hframe, hkeeps⟩ := h
  refine ⟨hframe, fun b hb => ?_⟩
  rw [rd_wr_ne s a b v fun e => hb (e ▸ ha)]
  exact hkeeps b hb

theorem HalTurn.setSeg {q i : Nat} {e : Seg} (h : HalTurn as s₀ s) : HalTurn as s₀ (s.setSeg q i e) := h
theorem HalTurn.changeSeg {y q i : Nat} {e : Seg} (h : HalTurn as s₀ s) : HalTurn as s₀ (s.changeSeg y q i e) := h
theorem HalTurn.setTgt {y t : Nat} {x : Target} (h : HalTurn as s₀ s) : HalTurn as s₀ (s.setTgt y t x) := h
theorem HalTurn.setStrm {y c : Nat} {x : Strm} (h : HalTurn as s₀ s) : HalTurn as s₀ (s.setStrm y c x) := h
theorem HalTurn.setPin {p : Nat} {x : Pin} (h : HalTurn as s₀ s) : HalTurn as s₀ (s.setPin p x) := h

theorem HalTurn.when {c : Bool} {f : State → State} (h : HalTurn as s₀ s) (hf : ∀ t, HalTurn as s₀ t → HalTurn as s₀ (f t)) :
    HalTurn as s₀ (s.when c f) := by
  cases c
  · exact h
  · exact hf s h

end

/-! ### Registers after a status, a counter and a field -/

theorem fld_status (s : State) (a c : Nat) : (s.status a c).fld a fSTATUS = c % 2 ^ 16 := fld_setF _ _ _ _ (by decide)

theorem rdN_status_ne (s : State) (a b c : Nat) (h : b ≠ a) : (s.status a c).rdN b = s.rdN b := rdN_setF_ne _ _ _ _ _ h

theorem onlyRegs_status (s : State) (a c : Nat) : s.onlyRegs (s.status a c) [a] := onlyRegs_setF ..

theorem onlyRegs_inc (s : State) (a : Nat) : s.onlyRegs (s.inc a) [a] := onlyRegs_wr ..

/-! ### Segments (Table 5-1) -/

/-- An entry of a table has a place of its own. -/
theorem segKey_ne {q i p j : Nat} (hi : i < 4096) (hj : j < 4096) (h : (p, j) ≠ (q, i)) : 4096 * p + j ≠ 4096 * q + i := by
  rw [Ne, Prod.mk.injEq] at h
  omega

@[simp] theorem seg_setSeg_same (s : State) (q i : Nat) (e : Seg) : (s.setSeg q i e).seg q i = e := tget_tput_same ..

theorem seg_changeSeg_same (s : State) (y q i : Nat) (e : Seg) :
    (s.changeSeg y q i e).seg q i = { e with stamp := s.hal.changes + 1, by_ := y } := tget_tput_same ..

theorem seg_changeSeg_ne (s : State) (y : Nat) {q i p j : Nat} (e : Seg) (hi : i < 4096) (hj : j < 4096) (h : (p, j) ≠ (q, i)) :
    (s.changeSeg y q i e).seg p j = s.seg p j := (tget_tput ..).trans (if_neg (segKey_ne hi hj h))

theorem segIdx_lt (s : State) (y : Nat) : s.fld (HAL_SEG_IDX y) HAL_SEG_IDX_IDX < 4096 := getF_lt _ _ (by decide)

/-! ### The staging registers (R149) -/

/-- HAL_SEG_IDX and the staging registers written for entry `i`, which is `e`. -/
def segStaged (y i : Nat) (e : Seg) (s : State) : State :=
  ((((s.wrN (HAL_SEG_IDX y) i).wrN (HAL_SEG_START y) e.start).wrN (HAL_SEG_LEN y) e.len).wrN (HAL_SEG_LOOP y) e.count).wrN (HAL_SEG_LINK y)
    (e.next + 4096 * b01 e.nextEn)

theorem segIdxWrite_eq (y v : Nat) (s : State) : segIdxWrite y v s =
    { segStaged y (v % 4096) (s.seg (quad y) (v % 4096)) s with hal := { s.hal with idxStamp := tput s.hal.idxStamp y s.hal.changes } } := rfl

/-- The registers that a HAL_SEG_IDX write loads. -/
def stagingRegs (y : Nat) : List Nat := [HAL_SEG_IDX y, HAL_SEG_START y, HAL_SEG_LEN y, HAL_SEG_LOOP y, HAL_SEG_LINK y]

theorem nodup_stagingRegs (y : Nat) : (stagingRegs y).Nodup := by
  simp [stagingRegs, HAL_SEG_IDX, HAL_SEG_START, HAL_SEG_LEN, HAL_SEG_LOOP, HAL_SEG_LINK]

theorem segStaged_spec (y i : Nat) (e : Seg) (s : State) :
    (segStaged y i e s).rdN (HAL_SEG_IDX y) = i % 2 ^ 64 ∧ (segStaged y i e s).rdN (HAL_SEG_START y) = e.start % 2 ^ 64
      ∧ (segStaged y i e s).rdN (HAL_SEG_LEN y) = e.len % 2 ^ 64 ∧ (segStaged y i e s).rdN (HAL_SEG_LOOP y) = e.count % 2 ^ 64
      ∧ (segStaged y i e s).rdN (HAL_SEG_LINK y) = (e.next + 4096 * b01 e.nextEn) % 2 ^ 64 := by
  have hdistinct := nodup_stagingRegs y
  simp only [stagingRegs, List.nodup_cons, List.mem_cons, List.not_mem_nil, or_false, not_or] at hdistinct
  obtain ⟨⟨hidxStart, hidxLen, hidxLoop, hidxLink⟩, ⟨hstartLen, hstartLoop, hstartLink⟩, ⟨hlenLoop, hlenLink⟩, hloopLink, -⟩ := hdistinct
  refine ⟨?_, ?_, ?_, ?_, rdN_wrN ..⟩
  · exact (rdN_wrN_ne _ _ _ _ hidxLink).trans ((rdN_wrN_ne _ _ _ _ hidxLoop).trans ((rdN_wrN_ne _ _ _ _ hidxLen).trans
      ((rdN_wrN_ne _ _ _ _ hidxStart).trans (rdN_wrN ..))))
  · exact (rdN_wrN_ne _ _ _ _ hstartLink).trans ((rdN_wrN_ne _ _ _ _ hstartLoop).trans ((rdN_wrN_ne _ _ _ _ hstartLen).trans (rdN_wrN ..)))
  · exact (rdN_wrN_ne _ _ _ _ hlenLink).trans ((rdN_wrN_ne _ _ _ _ hlenLoop).trans (rdN_wrN ..))
  · exact (rdN_wrN_ne _ _ _ _ hloopLink).trans (rdN_wrN ..)

theorem halTurn_segStaged (y i : Nat) (e : Seg) (s : State) : HalTurn (stagingRegs y) s (segStaged y i e s) :=
  ((((HalTurn.rfl.wr (by simp [stagingRegs])).wr (by simp [stagingRegs])).wr (by simp [stagingRegs])).wr (by simp [stagingRegs])).wr
    (by simp [stagingRegs])

/-! ### FREE and ARM (R150, R151, Table 5-2) -/

section
variable {s : State} {y i : Nat} (hi : i = s.fld (HAL_SEG_IDX y) HAL_SEG_IDX_IDX)
include hi

theorem segFree_of_busy (h : s.segStale y i = true ∨ (s.seg (quad y) i).state = .loading) :
    segFree y s = s.status (HAL_SEG_STS y) E_HAL_SEG_BUSY := by
  subst hi
  unfold segFree
  obtain h | h := h
  · simp [h]
  · simp [h]

theorem segFree_of_resting (hstale : s.segStale y i = false) (h : (s.seg (quad y) i).state = .free ∨ (s.seg (quad y) i).state = .draining) :
    segFree y s = s.status (HAL_SEG_STS y) 0 := by
  subst hi
  unfold segFree
  obtain h | h := h
  · simp [h, hstale]
  · simp [h, hstale]

theorem segFree_of_ready (hstale : s.segStale y i = false) (h : (s.seg (quad y) i).state = .ready) :
    segFree y s = (s.changeSeg y (quad y) i { s.seg (quad y) i with state := .free }).status (HAL_SEG_STS y) 0 := by
  subst hi
  simp [segFree, h, hstale]

theorem segFree_of_active (hstale : s.segStale y i = false) (h : (s.seg (quad y) i).state = .active) :
    segFree y s = (s.changeSeg y (quad y) i { s.seg (quad y) i with state := .draining }).status (HAL_SEG_STS y) 0 := by
  subst hi
  simp [segFree, h, hstale]

end

/-- The entry as an ARM that passes leaves it (R151). -/
def armedSeg (y i : Nat) (s : State) : Seg :=
  { s.seg (quad y) i with
    start := s.fld (HAL_SEG_START y) HAL_SEG_START_START
    len := s.fld (HAL_SEG_LEN y) HAL_SEG_LEN_LEN
    count := s.fld (HAL_SEG_LOOP y) HAL_SEG_LOOP_COUNT
    nextEn := s.flag (HAL_SEG_LINK y) HAL_SEG_LINK_NEXT_EN
    next := s.fld (HAL_SEG_LINK y) HAL_SEG_LINK_NEXT
    state := .ready }

theorem segArmCheck_of_legal {s : State} {y start len count : Nat} (halign : start % 8 = 0) (hlen : 0 < len) (hcount : 0 < count)
    (hend : start + 8 * len ≤ 2097152) (hown : ∀ p ∈ segPages (quad y) start len, s.yardMay y 0x0A p = true) :
    s.segArmCheck y start len count = 0 := by
  have hzero : ¬ (len = 0 ∨ count = 0) := by omega
  have hall : (segPages (quad y) start len).all (s.yardMay y 0x0A) = true := List.all_eq_true.mpr hown
  unfold State.segArmCheck
  rw [if_neg (not_not_intro halign), if_neg hzero, if_neg (not_lt.mpr hend), if_pos hall]

theorem segArm_of_legal {s : State} {y i : Nat} (hi : i = s.fld (HAL_SEG_IDX y) HAL_SEG_IDX_IDX) (hstale : s.segStale y i = false)
    (hstate : (s.seg (quad y) i).state = .free ∨ (s.seg (quad y) i).state = .ready)
    (hcheck : s.segArmCheck y (s.fld (HAL_SEG_START y) HAL_SEG_START_START) (s.fld (HAL_SEG_LEN y) HAL_SEG_LEN_LEN)
      (s.fld (HAL_SEG_LOOP y) HAL_SEG_LOOP_COUNT) = 0) :
    segArm y s = (s.changeSeg y (quad y) i (armedSeg y i s)).status (HAL_SEG_STS y) 0 := by
  subst hi
  unfold segArm
  obtain h | h := hstate
  · simp [h, hstale, hcheck, armedSeg]
  · simp [h, hstale, hcheck, armedSeg]

/-- A command of the page has changed an entry and shown status 0. -/
theorem segChanged_spec (s : State) (y : Nat) {i : Nat} (e : Seg) (hi : i < 4096) {t : State}
    (ht : t = (s.changeSeg y (quad y) i e).status (HAL_SEG_STS y) 0) :
    t.fld (HAL_SEG_STS y) HAL_SEG_STS_STATUS = 0 ∧ t.seg (quad y) i = { e with stamp := s.hal.changes + 1, by_ := y }
      ∧ (∀ q j, (q, j) ≠ (quad y, i) → q < 4 → j < 4096 → t.seg q j = s.seg q j) ∧ HalTurn [HAL_SEG_STS y] s t := by
  subst ht
  exact ⟨fld_status .., seg_changeSeg_same .., fun q j hne _ hj => seg_changeSeg_ne s y e hi hj hne,
    HalTurn.rfl.changeSeg.wr List.mem_cons_self⟩

/-- FREE of a segment that is not LOADING, by the state of Table 5-2. -/
theorem segFree_spec {s : State} {y i : Nat} (hi : i = s.fld (HAL_SEG_IDX y) HAL_SEG_IDX_IDX) (hstale : s.segStale y i = false)
    (hstate : (s.seg (quad y) i).state ≠ .loading) {t : State} (ht : t = segFree y s) :
    t.fld (HAL_SEG_STS y) HAL_SEG_STS_STATUS = 0
      ∧ (t.seg (quad y) i).state = (match (s.seg (quad y) i).state with | .active => .draining | .draining => .draining | _ => .free)
      ∧ (∀ q j, (q, j) ≠ (quad y, i) → q < 4 → j < 4096 → t.seg q j = s.seg q j) ∧ HalTurn [HAL_SEG_STS y] s t := by
  have hlt : i < 4096 := hi ▸ segIdx_lt s y
  have hresting (h : (s.seg (quad y) i).state = .free ∨ (s.seg (quad y) i).state = .draining) :
      t = s.status (HAL_SEG_STS y) 0 := ht.trans (segFree_of_resting hi hstale h)
  have hsame : HalTurn [HAL_SEG_STS y] s (s.status (HAL_SEG_STS y) 0) := HalTurn.rfl.wr List.mem_cons_self
  cases h : (s.seg (quad y) i).state with
  | loading => exact absurd h hstate
  | free =>
    rw [hresting (.inl h)]
    exact ⟨fld_status .., h, fun _ _ _ _ _ => rfl, hsame⟩
  | draining =>
    rw [hresting (.inr h)]
    exact ⟨fld_status .., h, fun _ _ _ _ _ => rfl, hsame⟩
  | ready =>
    obtain ⟨hsts, hseg, hothers, hturn⟩ := segChanged_spec s y _ hlt (ht.trans (segFree_of_ready hi hstale h))
    exact ⟨hsts, congrArg Seg.state hseg, hothers, hturn⟩
  | active =>
    obtain ⟨hsts, hseg, hothers, hturn⟩ := segChanged_spec s y _ hlt (ht.trans (segFree_of_active hi hstale h))
    exact ⟨hsts, congrArg Seg.state hseg, hothers, hturn⟩

/-! ### Host writes of samples (R153) -/

theorem ldBytes_stBytes (m : Store) (a n v : Nat) : ldBytes (stBytes m a n v) a n = v % 256 ^ n := by
  induction n generalizing m a v with
  | zero => simp [ldBytes, Nat.mod_one]
  | succ n ih =>
    have hfirst : (ldByte (stBytes (stByte m a (BitVec.ofNat 8 v)) (a + 1) n (v / 256)) a).toNat = v % 256 := by
      rw [ldByte_stBytes_ne _ _ _ _ _ (.inl (Nat.lt_succ_self a)), ldByte_stByte, if_pos rfl, BitVec.toNat_ofNat]
    rw [stBytes, ldBytes, hfirst, ih, Nat.pow_succ', Nat.mod_mul]

theorem storeSample_of_open {s : State} {q i : Nat}
    (h : ∀ p, s.partOfInst 0x0A (512 * q + i / 4096) = some p → s.closed p = false) (v : Nat) :
    storeSample q i v s = if s.sampleFree q i = true then { s with hal := { s.hal with wave := stBytes s.hal.wave (sampleAddr q i) 6 v } }
      else s.inc (HAL_WDROP_CNT (16 * q)) := by
  unfold storeSample
  cases hp : s.partOfInst 0x0A (512 * q + i / 4096) with
  | none => rfl
  | some p => simp [h p hp]

/-! ### The clauses of O18 -/

/-- Settles O18: the staging registers are those of `segStaged_spec`, FREE goes by the states (`segFree_spec`), ARM writes the staged values
(`segArm_of_legal`), and a sample is stored as `ldBytes_stBytes` says. -/
theorem segmentTableCommandsAndSampleWrites : Obligations.SegmentTableCommandsAndSampleWrites := by
  refine ⟨fun s y v hopens => ?_, fun s y i hopens hi hstale hstate => ?_, fun s y i hopens hi hbusy => ?_,
    fun s y i start len count hopens hi hstale hstate hstart hlen hcount halign hlen0 hcount0 hend hown => ?_,
    fun s q i v hopen hfree => ?_, fun s q i v hopen hfree => ?_⟩
  · have hexec := (hostWr_of_opens hopens (segIdxWrite y v)).trans (segIdxWrite_eq y v s)
    obtain ⟨hidx, hstart, hlen, hloop, hlink⟩ := segStaged_spec y (v % 4096) (s.seg (quad y) (v % 4096)) s
    obtain ⟨hframe, hkeeps⟩ := halTurn_segStaged y (v % 4096) (s.seg (quad y) (v % 4096)) s
    refine ⟨_, congrArg Host.Outcome.next hexec, hidx.trans (Nat.mod_eq_of_lt (by omega)), hstart, hlen, hloop, hlink.trans ?_,
      fun _ _ => rfl, hkeeps, hframe⟩
    cases (s.seg (quad y) (v % 4096)).nextEn
    · rfl
    · rfl
  · obtain ⟨hsts, hseg, hothers, hframe, hkeeps⟩ := segFree_spec hi hstale hstate rfl
    exact ⟨_, congrArg Host.Outcome.next (hostWr_of_opens hopens (segFree y)), hsts, hseg, hothers, hkeeps, hframe⟩
  · have hexec := (hostWr_of_opens hopens (segFree y)).trans (segFree_of_busy hi hbusy)
    exact ⟨_, congrArg Host.Outcome.next hexec, fld_status .., onlyRegs_status ..⟩
  · subst hstart hlen hcount
    have hexec := (hostWr_of_opens hopens (segArm y)).trans
      (segArm_of_legal hi hstale hstate (segArmCheck_of_legal halign hlen0 hcount0 hend hown))
    obtain ⟨hsts, hseg, -, hframe, hkeeps⟩ := segChanged_spec s y (armedSeg y i s) (hi ▸ segIdx_lt s y) rfl
    exact ⟨_, congrArg Host.Outcome.next hexec, hsts, congrArg Seg.state hseg, congrArg Seg.start hseg, congrArg Seg.len hseg,
      congrArg Seg.count hseg, congrArg Seg.next hseg, (congrArg (Seg.nextEn · = true) hseg).to_iff.trans beq_iff_eq, hkeeps, hframe⟩
  · have hexec := (storeSample_of_open hopen v).trans (if_pos hfree)
    exact ⟨_, congrArg Host.Outcome.next hexec, ldBytes_stBytes .., fun a ha => ldByte_stBytes_ne _ _ _ _ _ ha, rfl, rfl⟩
  · have hexec := (storeSample_of_open hopen v).trans (if_neg (by simp [hfree]))
    exact ⟨_, congrArg Host.Outcome.next hexec, rdN_inc .., onlyRegs_inc ..⟩

end Sys2Proof.Laws
end

section
namespace Sys2Proof.Laws
open Sys2Proof.Machine

-- One theorem after another: a thread for each of them passes the memory limit of the check.
set_option Elab.async false

/-! ### Targets, and states that differ in the Halyard or in registers -/

@[simp] theorem tgt_setSeg (s : State) (q i : Nat) (e : Seg) (y t : Nat) : (s.setSeg q i e).tgt y t = s.tgt y t := rfl

@[simp] theorem tgt_setTgt_same (s : State) (y t : Nat) (x : Target) : (s.setTgt y t x).tgt y t = x := tget_tput_same ..

theorem hal_of_onlyRegs {s t : State} {as : List Nat} (h : s.onlyRegs t as) : t.hal = s.hal := (congrArg State.hal h.1 :)

theorem tgt_of_hal {s t : State} (h : t.hal = s.hal) (y k : Nat) : t.tgt y k = s.tgt y k := congrArg (fun x : Hal => tget x.tgts (32 * y + k)) h

theorem seg_of_hal {s t : State} (h : t.hal = s.hal) (q i : Nat) : t.seg q i = s.seg q i := congrArg (fun x : Hal => tget x.segs (4096 * q + i)) h

theorem mast_of_seq {s t : State} (h : t.seq = s.seq) (y : Nat) : t.mast y = s.mast y := congrArg (fun x : Seq => tget x.masts y) h

theorem tb1_of_hal {s t : State} (h : { t with hal := s.hal } = s) : t.tb1 = s.tb1 := (congrArg State.tb1 h :)

@[simp] theorem rd_setSeg (s : State) (q i : Nat) (e : Seg) (a : Nat) : (s.setSeg q i e).rd a = s.rd a := rfl
@[simp] theorem rd_setTgt (s : State) (y t : Nat) (x : Target) (a : Nat) : (s.setTgt y t x).rd a = s.rd a := rfl
@[simp] theorem rd_endsAt (s : State) (y e a : Nat) : (s.endsAt y e).rd a = s.rd a := rfl
@[simp] theorem tgt_endsAt (s : State) (z e y t : Nat) : (s.endsAt z e).tgt y t = s.tgt y t := rfl
@[simp] theorem seg_endsAt (s : State) (y e q i : Nat) : (s.endsAt y e).seg q i = s.seg q i := rfl
@[simp] theorem seg_setTgt (s : State) (y t : Nat) (x : Target) (q i : Nat) : (s.setTgt y t x).seg q i = s.seg q i := rfl
@[simp] theorem mast_setSeg (s : State) (q i : Nat) (e : Seg) (y : Nat) : (s.setSeg q i e).mast y = s.mast y := rfl
@[simp] theorem mast_setTgt (s : State) (y t : Nat) (x : Target) (z : Nat) : (s.setTgt y t x).mast z = s.mast z := rfl

/-! ### Lists of requests -/

section
variable {p hit : PlayReq → Bool} {f : PlayReq → PlayReq} {l : List PlayReq}

theorem exists_mem_updReq (h : ∃ x ∈ l, p x = true) : ∃ x, p x = true ∧ f x ∈ updReq p f l := by
  induction l with
  | nil => simp at h
  | cons x l ih =>
    by_cases hx : p x = true
    · exact ⟨x, hx, by simp [updReq, hx]⟩
    · obtain ⟨z, hz, hmem⟩ := ih (by simpa [hx] using h)
      exact ⟨z, hz, by simp [updReq, hx, hmem]⟩

theorem of_mem_updReq {q : PlayReq} (h : q ∈ updReq p f l) : q ∈ l ∨ ∃ x, p x = true ∧ q = f x := by
  induction l with
  | nil => exact .inl h
  | cons x l ih =>
    by_cases hx : p x = true
    · simp only [updReq, hx, if_true, List.mem_cons] at h
      obtain rfl | h := h
      · exact .inr ⟨x, hx, rfl⟩
      · exact .inl (List.mem_cons_of_mem _ h)
    · simp only [updReq, hx, Bool.false_eq_true, if_false, List.mem_cons] at h
      obtain rfl | h := h
      · exact .inl List.mem_cons_self
      · exact (ih h).imp_left (List.mem_cons_of_mem _)

/-- Where no request of a list passes a test, the first to pass it after a change of one of them is the changed one. -/
theorem find?_updReq (hold : ∀ x ∈ l, hit x = false) (hnew : ∀ x, p x = true → hit (f x) = true) (h : ∃ x ∈ l, p x = true) :
    ∃ x, p x = true ∧ (updReq p f l).find? hit = some (f x) := by
  induction l with
  | nil => simp at h
  | cons x l ih =>
    by_cases hx : p x = true
    · exact ⟨x, hx, by simp [updReq, hx, hnew x hx]⟩
    · obtain ⟨z, hz, hfind⟩ := ih (fun w hw => hold w (List.mem_cons_of_mem _ hw)) (by simpa [hx] using h)
      exact ⟨z, hz, by simp [updReq, hx, hold x List.mem_cons_self, hfind]⟩

theorem length_delReq_add_one (h : ∃ x ∈ l, p x = true) : (delReq p l).length + 1 = l.length := by
  induction l with
  | nil => simp at h
  | cons x l ih =>
    by_cases hx : p x = true
    · simp [delReq, hx]
    · simp [delReq, hx, ih (by simpa [hx] using h)]

end

/-! ### Read errors that fall due (R156) -/

/-- A captured request whose next failing sample has been addressed. -/
def reqDue (n : Nat) (q : PlayReq) : Bool := match q.cap with | some p => p.badDue n | none => false

/-- Such a request for a target. -/
def reqHit (y t n : Nat) (q : PlayReq) : Bool := q.y == y && q.tgt == t && reqDue n q

theorem reqDue_of_all {l : List PlayReq} {n : Nat} {f : PlayReq → Bool} (h : l.all f = true)
    (hf : ∀ q p, q.cap = some p → f q = !p.badDue n) : ∀ q ∈ l, reqDue n q = false := by
  intro q hq
  have hfq := List.all_eq_true.mp h q hq
  unfold reqDue
  cases hcap : q.cap with
  | none => rfl
  | some p => simpa [hf q p hcap] using hfq

theorem storeError_of_none {s : State} {y t : Nat} (hplay : ∀ p, (s.tgt y t).play = some p → p.badDue s.tb1 = false)
    (hreqs : ∀ q ∈ s.hal.reqs, reqDue s.tb1 q = false) : storeError y t s = s := by
  have hfind : s.hal.reqs.find? (reqHit y t s.tb1) = none :=
    List.find?_eq_none.mpr fun q hq => by simp [reqHit, hreqs q hq]
  unfold storeError
  cases hp : (s.tgt y t).play with
  | none =>
    dsimp only
    split
    · next heq => exact absurd (heq.symm.trans hfind) (by simp)
    · rfl
  | some p =>
    simp only [hplay p hp, Bool.false_eq_true, if_false]
    split
    · next heq => exact absurd (heq.symm.trans hfind) (by simp)
    · rfl

theorem storeError_of_req {s : State} {y t : Nat} {q : PlayReq} (hplay : (s.tgt y t).play = none)
    (hfind : s.hal.reqs.find? (reqHit y t s.tb1) = some q) : storeError y t s = progFault y q.pc E_HAL_ECC_UNCORR
      { s with hal := { s.hal with reqs := updReq (reqHit y t s.tb1) (fun x => { x with cap := x.cap.map (·.badTold s.tb1) }) s.hal.reqs } } := by
  unfold storeError
  rw [hplay]
  dsimp only
  split
  · next heq =>
    obtain rfl : _ = q := Option.some.inj (heq.symm.trans hfind)
    rfl
  · next heq => exact absurd (heq.symm.trans hfind) (by simp)

/-! ### The capture of a play (R157, R158) -/

theorem capReq_spec {s : State} {y t : Nat} {r : PlayReq} (h : s.capReq y t = some r) :
    r ∈ s.hal.reqs ∧ r.y = y ∧ r.tgt = t ∧ r.same r = true ∧ s.addresses r.r = true := by
  have hmem : r ∈ s.hal.reqs := List.mem_of_find?_eq_some h
  have htest := List.find?_some h
  simp only [Bool.and_eq_true, beq_iff_eq] at htest
  obtain ⟨⟨⟨hy, ht⟩, hcap⟩, haddr⟩ := htest
  exact ⟨hmem, hy, ht, by simp [PlayReq.same, hcap], haddr⟩

theorem same_spec {r x : PlayReq} (h : r.same x = true) : x.y = r.y ∧ x.tgt = r.tgt ∧ x.r = r.r ∧ x.pc = r.pc := by
  simp only [PlayReq.same, Bool.and_eq_true, beq_iff_eq] at h
  obtain ⟨⟨⟨⟨hy, ht⟩, hr⟩, hpc⟩, -⟩ := h
  exact ⟨hy.symm, ht.symm, hr.symm, hpc.symm⟩

/-- A sample addressed now has a release at most 3 ft from now. -/
theorem tb1_of_addresses {s : State} {r : Nat} (h : s.addresses r = true) : r - 3 * ft ≤ s.tb1 := by
  simp only [State.addresses, Bool.and_eq_true, decide_eq_true_eq] at h
  obtain ⟨⟨⟨hrun, hle⟩, -⟩, -⟩ := h
  simpa [State.tb1, hrun] using hle

theorem playCheck_lt (s : State) (y src id : Nat) : s.playCheck y src id < 2 ^ 16 := by
  unfold State.playCheck State.segPlayCheck prmCheck
  dsimp only
  split_ifs
  all_goals decide

/-- A segment that passes its check is READY or ACTIVE; its use makes it ACTIVE. -/
theorem beginUse_of_playCheck {s : State} {y i : Nat} (h : s.playCheck y 0 i = 0) :
    (s.seg (quad y) i).beginUse.state = .active ∧ (s.seg (quad y) i).beginUse.users = (s.seg (quad y) i).users + 1 := by
  refine ⟨?_, rfl⟩
  have husable : (s.seg (quad y) i).state = .ready ∨ (s.seg (quad y) i).state = .active := by
    by_contra hne
    have hcheck : s.playCheck y 0 i = E_HAL_SEG_STATE := if_pos (not_or.mp hne)
    exact absurd (hcheck.symm.trans h) (by decide)
  unfold Seg.beginUse
  obtain h | h := husable
  · simp [h]
  · simp [h]

/-- A request with what its capture found. -/
def reqWithCap (p : Play) (q : PlayReq) : PlayReq := { q with cap := some p }

/-- A request has been captured as `p`, and the use of its segment has begun. -/
def captureTaken (y : Nat) (r : PlayReq) (p : Play) (s : State) : State :=
  let u : State := { s with hal := { s.hal with reqs := updReq r.same (reqWithCap p) s.hal.reqs } }
  if r.src = 0 then u.setSeg (quad y) r.id (u.seg (quad y) r.id).beginUse else u

theorem captureTaken_spec (y : Nat) (r : PlayReq) (p : Play) (s : State) {u : State} (hu : u = captureTaken y r p s) :
    u.hal.reqs = updReq r.same (reqWithCap p) s.hal.reqs ∧ (∀ t, u.tgt y t = s.tgt y t)
      ∧ (r.src = 0 → u.seg (quad y) r.id = (s.seg (quad y) r.id).beginUse) ∧ { u with hal := s.hal } = s := by
  subst hu
  unfold captureTaken
  dsimp only
  split
  · exact ⟨rfl, fun _ => rfl, fun _ => seg_setSeg_same .., rfl⟩
  · next h => exact ⟨rfl, fun _ => rfl, fun k => absurd k h, rfl⟩

theorem hal_denySeg (s : State) (y i c : Nat) : (s.denySeg y i c).hal = s.hal := by
  unfold State.denySeg State.denyIf State.when State.deny
  split
  · exact (inc_hal ..).trans (wrN_hal ..)
  · rfl

theorem reqs_dropReq (s : State) (r : PlayReq) : (s.dropReq r).hal.reqs = delReq r.same s.hal.reqs := rfl

section
variable {s : State} {y t : Nat} {r : PlayReq} (hr : s.capReq y t = some r)
include hr

theorem playCapture_of_refused (h : s.playCheck y r.src r.id ≠ 0) (ecc : Option Nat) :
    playCapture y t ecc s = progFault y r.pc (s.playCheck y r.src r.id) ((s.denySeg y r.id (s.playCheck y r.src r.id)).dropReq r) := by
  unfold playCapture
  rw [hr]
  exact if_pos h

theorem playCapture_of_passed (h : s.playCheck y r.src r.id = 0) (ecc : Option Nat) :
    playCapture y t ecc s =
      storeError y t (captureTaken y r { s.captured r with bad := if r.src = 1 then [] else badAt r.r ecc } s) := by
  unfold playCapture
  rw [hr]
  exact if_neg (not_not_intro h)

/-- A capture with no read error falling due. -/
theorem playCapture_of_clean (h : s.playCheck y r.src r.id = 0) (hplay : ∀ p, (s.tgt y t).play = some p → p.badDue s.tb1 = false)
    (hreqs : ∀ q ∈ s.hal.reqs, reqDue s.tb1 q = false) : playCapture y t none s = captureTaken y r (s.captured r) s := by
  have hbad : { s.captured r with bad := if r.src = 1 then [] else badAt r.r none } = s.captured r := by simp [badAt, State.captured]
  obtain ⟨hlist, htgt, -, hframe⟩ := captureTaken_spec y r (s.captured r) s rfl
  rw [playCapture_of_passed hr h, hbad]
  refine storeError_of_none (fun p hp => ?_) fun q hq => ?_
  · rw [tb1_of_hal hframe]
    exact hplay p (htgt t ▸ hp)
  · rw [tb1_of_hal hframe]
    rw [hlist] at hq
    obtain hq | ⟨x, -, rfl⟩ := of_mem_updReq hq
    · exact hreqs q hq
    · rfl

/-- A capture whose first sample cannot be read (R156). -/
theorem playCapture_of_badFirst (h : s.playCheck y r.src r.id = 0) (hsrc : r.src ≠ 1) (hplay : (s.tgt y t).play = none)
    (hreqs : ∀ q ∈ s.hal.reqs, reqDue s.tb1 q = false) :
    ∃ u, playCapture y t (some 0) s = progFault y r.pc E_HAL_ECC_UNCORR u := by
  obtain ⟨hmem, hy, ht, hsame, haddr⟩ := capReq_spec hr
  obtain ⟨p, hbad, hpass⟩ : ∃ p, p.bad = [(r.r, false)] ∧ playCapture y t (some 0) s = storeError y t (captureTaken y r p s) :=
    ⟨_, by simp [badAt, hsrc], playCapture_of_passed hr h (some 0)⟩
  obtain ⟨hlist, htgt, -, hframe⟩ := captureTaken_spec y r p s rfl
  have hdue : p.badDue s.tb1 = true := by simpa [Play.badDue, hbad] using tb1_of_addresses haddr
  obtain ⟨x, hx, hfind⟩ := find?_updReq (f := reqWithCap p) (hit := reqHit y t s.tb1) (p := r.same)
    (fun q hq => by simp [reqHit, hreqs q hq])
    (fun q hq => by
      obtain ⟨hqy, hqt, -, -⟩ := same_spec hq
      simp [reqHit, reqDue, reqWithCap, hqy, hqt, hy, ht, hdue]) ⟨r, hmem, hsame⟩
  obtain ⟨-, -, -, hpc⟩ := same_spec hx
  rw [← hlist, ← tb1_of_hal hframe] at hfind
  have hfault := storeError_of_req ((congrArg Target.play (htgt t)).trans hplay) hfind
  rw [show (reqWithCap p x).pc = r.pc from hpc] at hfault
  exact ⟨_, hpass.trans hfault⟩

end

/-! ### Pass boundaries (R159, R160, R164) -/

theorem segBoundary_of_unplanned {s : State} {y t : Nat} {p : Play} (hp : (s.tgt y t).play = some p) (hsrc : p.src = 0)
    (hplan : p.plan = none) (hreached : s.reached (p.bound - 48 + 15) = true) :
    segBoundary y t none s = storeError y t (boundaryPlan y t p s) := by
  have hbad : { p with bad := p.bad ++ badAt p.bound none } = p := by simp [badAt]
  unfold segBoundary
  rw [hp]
  dsimp only
  rw [if_neg (not_not_intro hsrc), hplan]
  refine (if_pos hreached).trans ?_
  rw [← hplan, hbad]

theorem segBoundary_of_planned {s : State} {y t : Nat} {p : Play} {g : SegPlan} (hp : (s.tgt y t).play = some p) (hsrc : p.src = 0)
    (hplan : p.plan = some g) (hreached : s.reached p.bound = true) (hdue : s.playDue y t p.bound = false) :
    segBoundary y t none s = boundaryMove y t p g s := by
  unfold segBoundary
  rw [hp]
  dsimp only
  rw [if_neg (not_not_intro hsrc), hplan]
  exact if_pos ⟨hreached, by simp [hdue]⟩

theorem boundaryPlan_spec {s : State} {y t : Nat} {p : Play} (hok : ∀ c i, s.boundaryGoal y t p ≠ .fail c i) {u : State}
    (hu : u = boundaryPlan y t p s) :
    u.tgt y t = { s.tgt y t with play := some { p with plan := some (s.boundaryGoal y t p) } } ∧ u.hal.reqs = s.hal.reqs
      ∧ { u with hal := s.hal } = s := by
  subst hu
  unfold boundaryPlan
  dsimp only
  split
  · exact ⟨(tgt_setSeg ..).trans (tgt_setTgt_same ..), rfl, rfl⟩
  · next c i h => exact absurd h (hok c i)
  · exact ⟨tgt_setTgt_same .., rfl, rfl⟩

section
variable {s : State} {y t : Nat} {p : Play} (hjump : (s.tgt y t).jump = none)
include hjump

theorem jumpApplies_of_none : s.jumpApplies y t p = false := by
  unfold State.jumpApplies
  rw [hjump]

theorem boundaryMove_again : boundaryMove y t p .again s = s.setTgt y t { s.tgt y t with
    play := some { p with passes := p.passes.map (· - 1), bound := p.bound + ft * segSamples p.entry, plan := none } } := by
  unfold boundaryMove
  rw [jumpApplies_of_none hjump]
  rfl

theorem dropJump_of_none : s.dropJump y t = s := by
  unfold State.dropJump
  rw [hjump]

theorem boundaryMove_stop (hsrc : p.src = 0) : boundaryMove y t p .stop s =
    ((((s.setSeg (quad y) p.id (s.seg (quad y) p.id).endUse).endsAt y p.bound).setTgt y t { s.tgt y t with play := none }).setTstate y t tIDLE 0) := by
  unfold boundaryMove
  rw [jumpApplies_of_none hjump]
  simp only [Bool.false_eq_true, if_false]
  rw [dropJump_of_none hjump, State.endPlayUse, if_pos hsrc]
  rfl

end

/-! ### The state of a target (Table 5-4) -/

theorem onlyRegs_toneState (s : State) (y t : Nat) : s.onlyRegs (s.toneState y t) [TON_TSTS y t] := by
  unfold State.toneState
  split
  · exact onlyRegs_setF ..
  · exact onlyRegs_rfl ..

theorem onlyRegs_setTstate (s : State) (y t st seg : Nat) : s.onlyRegs (s.setTstate y t st seg) [HAL_TGT_STS y t, TON_TSTS y t] :=
  onlyRegs_trans (onlyRegs_trans (onlyRegs_setF ..) (onlyRegs_setF ..) (List.Subset.refl _) (List.Subset.refl _)) (onlyRegs_toneState ..)
    (by simp) (by simp)

theorem tstate_setTstate (s : State) (y t st seg : Nat) :
    (s.setTstate y t st seg).fld (HAL_TGT_STS y t) HAL_TGT_STS_TSTATE = st % 2 ^ 3 := by
  have hne : HAL_TGT_STS y t ∉ [TON_TSTS y t] := by
    simp only [List.mem_singleton, HAL_TGT_STS, TON_TSTS]
    omega
  calc (s.setTstate y t st seg).fld (HAL_TGT_STS y t) HAL_TGT_STS_TSTATE
      = ((s.setF (HAL_TGT_STS y t) HAL_TGT_STS_TSTATE st).setF (HAL_TGT_STS y t) HAL_TGT_STS_SEG seg).fld (HAL_TGT_STS y t)
          HAL_TGT_STS_TSTATE := fld_of_onlyRegs (onlyRegs_toneState ..) hne _
    _ = (s.setF (HAL_TGT_STS y t) HAL_TGT_STS_TSTATE st).fld (HAL_TGT_STS y t) HAL_TGT_STS_TSTATE :=
        fld_setF_beside _ _ _ _ _ (by decide) (by decide) (by decide)
    _ = st % 2 ^ 3 := fld_setF _ _ _ _ (by decide)

theorem endAt_endsAt (s : State) (y e : Nat) : ((s.endsAt y e).mast y).endAt = max (s.mast y).endAt (e + 256) := by
  simp [State.endsAt, ft]

/-! ### The end of a parametric or stream play (R162) -/

theorem idleTgt_of_noSeg {s : State} {y t : Nat} {p : Play} (hp : (s.tgt y t).play = some p) (hsrc : p.src ≠ 0) (hplan : p.plan = none) :
    s.idleTgt y t = (s.setTgt y t { s.tgt y t with play := none }).setTstate y t tIDLE 0 := by
  unfold State.idleTgt
  rw [hp]
  simp only [State.endPlayUse, if_neg hsrc, State.endPlanUse, hplan]

section
variable {s : State} {y t : Nat} {p : Play} (hp : (s.tgt y t).play = some p) (hsrc : p.src ≠ 0) (hstop : s.reached p.stop = true)
include hp hsrc hstop

theorem playEnd_of_playing (h : s.starvedTgt y t = false) : playEnd y t s = (s.idleTgt y t).endsAt y p.stop := by
  unfold playEnd
  rw [hp]
  simp [hsrc, hstop, h]

theorem playEnd_of_starved (h : s.starvedTgt y t = true) :
    playEnd y t s = (s.setTgt y t { s.tgt y t with play := none }).endsAt y p.stop := by
  unfold playEnd
  rw [hp]
  simp [hsrc, hstop, h]

end

/-! ### Jump requests (R164, R166, R167) -/

/-- The request is stored, and one that it replaces counted. -/
def jumpStored (y t v : Nat) (s : State) : State :=
  (s.wrN (HAL_JUMP y t) (v % 2 ^ 13)).when (s.tgt y t).jump.isSome fun s => s.inc (HAL_JDROP_CNT y)

/-- A late jump is told and counted (R166). -/
def jumpTold (y : Nat) (late : Bool) (s : State) : State :=
  s.when late fun s => (s.setF (HAL_STS y) HAL_STS_JUMP_LATE 1).inc (HAL_JLATE_CNT y)

theorem halTurn_jumpStored {as : List Nat} {y t : Nat} (hjump : HAL_JUMP y t ∈ as) (hdrop : HAL_JDROP_CNT y ∈ as) (v : Nat) (s : State) :
    HalTurn as s (jumpStored y t v s) := (HalTurn.rfl.wr hjump).when fun _ h => h.wr hdrop

theorem HalTurn.jumpTold {as : List Nat} {s₀ s : State} {y : Nat} (hsts : HAL_STS y ∈ as) (hlate : HAL_JLATE_CNT y ∈ as) {late : Bool}
    (h : HalTurn as s₀ s) : HalTurn as s₀ (jumpTold y late s) := h.when fun _ h => (h.wr hsts).wr hlate

theorem hal_jumpStored (y t v : Nat) (s : State) : (jumpStored y t v s).hal = s.hal := by
  unfold jumpStored State.when
  split
  · rfl
  · rfl

theorem hal_jumpTold (y : Nat) (late : Bool) (s : State) : (jumpTold y late s).hal = s.hal := by
  cases late
  · rfl
  · rfl

/-- A jump stands pending on a target with a segment play. -/
def jumpPending (y t v j : Nat) (p : Play) (s : State) : State :=
  ((jumpTold y (p.jumpLate j) (jumpStored y t v s)).setTgt y t { s.tgt y t with jump := some ⟨bit v 12, v % 4096, j, p.jumpLate j⟩ }).setF
    (HAL_TGT_STS y t) HAL_TGT_STS_JPEND 1

theorem jumpWrite_of_segPlay {s : State} {y t : Nat} {p : Play} (hp : (s.tgt y t).play = some p) (hsrc : p.src = 0) (v j : Nat) :
    jumpWrite y t v j s = jumpPending y t v j p s := by
  have htgt : (jumpTold y (p.jumpLate j) (jumpStored y t v s)).tgt y t = s.tgt y t :=
    tgt_of_hal ((hal_jumpTold ..).trans (hal_jumpStored ..)) y t
  have hplay : ((s.wrN (HAL_JUMP y t) (v % 2 ^ 13)).tgt y t).play = some p := hp
  unfold jumpWrite
  dsimp only
  rw [hplay]
  refine (if_pos hsrc).trans ?_
  rw [jumpPending, ← htgt]
  rfl

theorem jumpWrite_of_noPlay {s : State} {y t : Nat} (hp : (s.tgt y t).play = none) (v j : Nat) :
    jumpWrite y t v j s = (s.wrN (HAL_JUMP y t) (v % 2 ^ 13)).inc (HAL_JDROP_CNT y) := by
  have hplay : ((s.wrN (HAL_JUMP y t) (v % 2 ^ 13)).tgt y t).play = none := hp
  unfold jumpWrite
  dsimp only
  rw [hplay]

theorem exec_halJumpWrite {s : State} {y t : Nat} (h : s.opens (HAL_JUMP y t)) (v : Nat) :
    exec (.halJumpWrite y t v) s = .next (jumpWrite y t v s.tb1 s) := by
  have hsetr : s.setrNow (HAL_JUMP y t) = false := h.2.2.2
  refine congrArg Host.Outcome.next ((hostWr_of_opens h _).trans ?_)
  unfold jumpHost
  rw [hsetr]
  rfl

theorem tgt_jumpPending (y t v j : Nat) (p : Play) (s : State) : (jumpPending y t v j p s).tgt y t =
    { s.tgt y t with jump := some ⟨bit v 12, v % 4096, j, p.jumpLate j⟩ } := tgt_setTgt_same ..

theorem jpend_jumpPending (y t v j : Nat) (p : Play) (s : State) :
    (jumpPending y t v j p s).fld (HAL_TGT_STS y t) HAL_TGT_STS_JPEND = 1 := fld_setF _ _ _ _ (by decide)

theorem halTurn_jumpPending (y t v j : Nat) (p : Play) (s : State) :
    HalTurn [HAL_JUMP y t, HAL_TGT_STS y t, HAL_JDROP_CNT y, HAL_STS y, HAL_JLATE_CNT y] s (jumpPending y t v j p s) :=
  (((halTurn_jumpStored (by simp) (by simp) v s).jumpTold (by simp) (by simp)).setTgt).wr (by simp)

theorem halTurn_jumpPending_of_timely {p : Play} {j : Nat} (h : p.jumpLate j = false) (y t v : Nat) (s : State) :
    HalTurn [HAL_JUMP y t, HAL_TGT_STS y t, HAL_JDROP_CNT y] s (jumpPending y t v j p s) := by
  unfold jumpPending
  rw [h]
  exact (halTurn_jumpStored (by simp) (by simp) v s).setTgt.wr (by simp)

theorem rdN_jump_jumpPending (y t v j : Nat) (p : Play) (s : State) :
    (jumpPending y t v j p s).rdN (HAL_JUMP y t) = v % 2 ^ 13 := by
  have hstored : HalTurn [HAL_JDROP_CNT y] (s.wrN (HAL_JUMP y t) (v % 2 ^ 13)) (jumpStored y t v s) :=
    HalTurn.rfl.when fun _ h => h.wr List.mem_cons_self
  have htold : HalTurn [HAL_STS y, HAL_JLATE_CNT y] (jumpStored y t v s) (jumpTold y (p.jumpLate j) (jumpStored y t v s)) :=
    HalTurn.rfl.jumpTold (by simp) (by simp)
  calc (jumpPending y t v j p s).rdN (HAL_JUMP y t)
      = (jumpTold y (p.jumpLate j) (jumpStored y t v s)).rdN (HAL_JUMP y t) :=
        rdN_setF_ne _ _ _ _ _ (by unfold HAL_JUMP HAL_TGT_STS; omega)
    _ = (jumpStored y t v s).rdN (HAL_JUMP y t) := congrArg BitVec.toNat (htold.2 _ (by simp [HAL_JUMP, HAL_STS, HAL_JLATE_CNT]; omega))
    _ = (s.wrN (HAL_JUMP y t) (v % 2 ^ 13)).rdN (HAL_JUMP y t) :=
        congrArg BitVec.toNat (hstored.2 _ (by simp [HAL_JUMP, HAL_JDROP_CNT]; omega))
    _ = v % 2 ^ 13 := (rdN_wrN ..).trans (Nat.mod_eq_of_lt ((Nat.mod_lt _ (by decide)).trans (by decide)))

theorem rdN_jlate_jumpPending {p : Play} {j : Nat} (h : p.jumpLate j = true) (y t v : Nat) (s : State) :
    (jumpPending y t v j p s).rdN (HAL_JLATE_CNT y) = min 0xFFFFFFFF (s.rdN (HAL_JLATE_CNT y) + 1) := by
  have hstored : (jumpStored y t v s).rdN (HAL_JLATE_CNT y) = s.rdN (HAL_JLATE_CNT y) :=
    congrArg BitVec.toNat ((halTurn_jumpStored (as := [HAL_JUMP y t, HAL_JDROP_CNT y]) (by simp) (by simp) v s).2 _
      (by simp [HAL_JUMP, HAL_JDROP_CNT, HAL_JLATE_CNT]; omega))
  unfold jumpPending
  rw [h]
  calc _ = (jumpTold y true (jumpStored y t v s)).rdN (HAL_JLATE_CNT y) :=
        rdN_setF_ne _ _ _ _ _ (by unfold HAL_JLATE_CNT HAL_TGT_STS; omega)
    _ = min 0xFFFFFFFF (((jumpStored y t v s).setF (HAL_STS y) HAL_STS_JUMP_LATE 1).rdN (HAL_JLATE_CNT y) + 1) := rdN_inc ..
    _ = min 0xFFFFFFFF (s.rdN (HAL_JLATE_CNT y) + 1) := by
        rw [rdN_setF_ne _ _ _ _ _ (by simp [HAL_JLATE_CNT, HAL_STS]), hstored]

theorem jumpLate_iff (p : Play) (j : Nat) : p.jumpLate j = true ↔ j < p.bound ∧ p.bound < j + 64 := by
  simp only [Play.jumpLate, Bool.and_eq_true, decide_eq_true_eq]
  exact Iff.rfl

/-! ### The clauses of O19 -/

/-- Settles O19: a capture is `playCapture_of_clean`, its faults are those of `progFaulted_progFault`, a boundary is planned and moved at as
`boundaryPlan_spec`, `boundaryMove_again` and `boundaryMove_stop` say, a jump stands as in `jumpPending`, and a play ends in `playEnd`. -/
theorem playsAreCapturedChainedJumpedAndEnded : Obligations.PlaysAreCapturedChainedJumpedAndEnded := by
  refine ⟨fun s y t₀ r hr hcheck hplay hall => ?_, fun s y t₀ r hr hcheck => ?_, fun s y t₀ r hr hcheck hsrc hplay hall => ?_,
    fun s y t₀ p hp hsrc hplan hreached hbad hall hok => ?_, fun s y t₀ p hp hsrc hplan hreached hdue hjump => ?_,
    fun s y t₀ p hp hsrc hplan hreached hdue hjump _ => ?_, fun s y t₀ v p hopens _ hp hsrc => ?_, fun s y t₀ v hopens _ hp => ?_,
    fun s y t₀ p hp hsrc hplan hstarved hstop _ => ?_, fun s y t₀ p hp hsrc hstarved hstop => ?_⟩
  · have hreqs := reqDue_of_all hall fun q p h => by rw [h]
    obtain ⟨hmem, hy, ht, hsame, -⟩ := capReq_spec hr
    obtain ⟨hlist, -, hseg, hframe⟩ := captureTaken_spec y r (s.captured r) s rfl
    obtain ⟨x, hx, hnew⟩ := exists_mem_updReq (f := reqWithCap (s.captured r)) ⟨r, hmem, hsame⟩
    obtain ⟨hxy, hxt, hxr, -⟩ := same_spec hx
    rw [← hlist] at hnew
    refine ⟨_, congrArg Host.Outcome.next (playCapture_of_clean hr hcheck hplay hreqs),
      ⟨_, hnew, hxy.trans hy, hxt.trans ht, hxr, rfl⟩, fun hsrc => ?_, (congrArg State.regs hframe :), hframe⟩
    rw [hseg hsrc]
    exact beginUse_of_playCheck (hsrc ▸ hcheck)
  · obtain ⟨hmem, -, -, hsame, -⟩ := capReq_spec hr
    obtain ⟨u, hu⟩ : ∃ u, u = (s.denySeg y r.id (s.playCheck y r.src r.id)).dropReq r := ⟨_, rfl⟩
    obtain ⟨hfault, hmst, -, -, -, -, -, -, -, hframe, -⟩ := progFaulted_progFault u y r.pc (playCheck_lt s y r.src r.id)
    have hreqs : u.hal.reqs = delReq r.same s.hal.reqs := by rw [hu, reqs_dropReq, hal_denySeg]
    refine ⟨_, congrArg Host.Outcome.next ((playCapture_of_refused hr hcheck none).trans (by rw [← hu])), hmst, ?_, ?_⟩
    · rw [show (progFault y r.pc (s.playCheck y r.src r.id) u).hal = u.hal from (congrArg State.hal hframe :), hreqs]
      exact length_delReq_add_one ⟨r, hmem, hsame⟩
    · rw [Nat.mod_eq_of_lt (playCheck_lt s y r.src r.id)]
      exact hfault
  · have hreqs := reqDue_of_all hall fun q p h => by rw [h]
    obtain ⟨u, hexec⟩ := playCapture_of_badFirst hr hcheck hsrc hplay hreqs
    obtain ⟨hfault, hmst, -⟩ := progFaulted_progFault u y r.pc (code := E_HAL_ECC_UNCORR) (by decide)
    exact ⟨_, congrArg Host.Outcome.next hexec, hmst, hfault⟩
  · have hreqs := reqDue_of_all hall fun q p h => by rw [h]
    obtain ⟨htgt, hlist, hframe⟩ := boundaryPlan_spec hok rfl
    have hclean : storeError y t₀ (boundaryPlan y t₀ p s) = boundaryPlan y t₀ p s := by
      refine storeError_of_none (fun o ho => ?_) fun q hq => ?_
      · rw [htgt] at ho
        obtain rfl := Option.some.inj ho
        rw [tb1_of_hal hframe]
        exact hbad
      · rw [tb1_of_hal hframe]
        exact hreqs q (hlist ▸ hq)
    exact ⟨_, congrArg Host.Outcome.next ((segBoundary_of_unplanned hp hsrc hplan hreached).trans hclean), (congrArg Target.play htgt :),
      (congrArg Target.jump htgt :), (congrArg State.regs hframe :), hframe⟩
  · have hbound : ft * segSamples p.entry = 128 * p.entry.len := by
      simp only [ft, segSamples]
      omega
    have hexec := (segBoundary_of_planned hp hsrc hplan hreached hdue).trans (boundaryMove_again hjump)
    rw [hbound] at hexec
    exact ⟨_, congrArg Host.Outcome.next hexec, congrArg Target.play (tgt_setTgt_same ..), rfl, rfl⟩
  · have hexec := (segBoundary_of_planned hp hsrc hplan hreached hdue).trans (boundaryMove_stop hjump hsrc)
    obtain ⟨u, hu⟩ : ∃ u, u = ((s.setSeg (quad y) p.id (s.seg (quad y) p.id).endUse).endsAt y p.bound).setTgt y t₀
      { s.tgt y t₀ with play := none } := ⟨_, rfl⟩
    rw [← hu] at hexec
    have hregs := onlyRegs_setTstate u y t₀ tIDLE 0
    have htgt : u.tgt y t₀ = { s.tgt y t₀ with play := none } := by simp [hu]
    have hseg : u.seg (quad y) p.id = (s.seg (quad y) p.id).endUse := by simp [hu]
    have hmast : (u.mast y).endAt = max (s.mast y).endAt (p.bound + 256) := by simp [hu, endAt_endsAt]
    refine ⟨_, congrArg Host.Outcome.next hexec, ?_, tstate_setTstate .., ?_, ?_, fun a ha => (hregs.2 a ha).trans ?_⟩
    · rw [tgt_of_hal (hal_of_onlyRegs hregs), htgt]
    · rw [mast_of_seq (seq_of_onlyRegs hregs), hmast]
    · rw [seg_of_hal (hal_of_onlyRegs hregs), hseg]
      rfl
    · rw [hu, rd_setTgt, rd_endsAt, rd_setSeg]
  · have hexec := (exec_halJumpWrite hopens v).trans (congrArg _ (jumpWrite_of_segPlay hp hsrc v s.tb1))
    have htgt := tgt_jumpPending y t₀ v s.tb1 p s
    obtain ⟨hframe, hkeeps⟩ := halTurn_jumpPending y t₀ v s.tb1 p s
    refine ⟨_, hexec, congrArg Target.jump htgt, (congrArg Target.play htgt).trans hp, fun hlate => ?_, fun hlate => ?_, jpend_jumpPending ..,
      rdN_jump_jumpPending .., hkeeps, hframe⟩
    · exact rdN_jlate_jumpPending ((jumpLate_iff p s.tb1).mpr hlate) y t₀ v s
    · rw [← jumpLate_iff, Bool.not_eq_true] at hlate
      exact (halTurn_jumpPending_of_timely hlate y t₀ v s).2
  · have hexec := (exec_halJumpWrite hopens v).trans (congrArg _ (jumpWrite_of_noPlay hp v s.tb1))
    refine ⟨_, hexec, ?_, onlyRegs_trans (onlyRegs_wr ..) (onlyRegs_inc ..) (by simp) (by simp)⟩
    rw [rdN_inc, rdN_wrN_ne _ _ _ _ (by simp [HAL_JDROP_CNT, HAL_JUMP]; omega)]
  · have hexec := playEnd_of_playing hp hsrc hstop hstarved
    rw [idleTgt_of_noSeg hp hsrc hplan] at hexec
    have hregs := onlyRegs_setTstate (s.setTgt y t₀ { s.tgt y t₀ with play := none }) y t₀ tIDLE 0
    have hstate := tstate_setTstate (s.setTgt y t₀ { s.tgt y t₀ with play := none }) y t₀ tIDLE 0
    generalize (s.setTgt y t₀ { s.tgt y t₀ with play := none }).setTstate y t₀ tIDLE 0 = u at hexec hregs hstate
    refine ⟨_, congrArg Host.Outcome.next hexec, ?_, (congrArg (getF · HAL_TGT_STS_TSTATE) (rd_endsAt ..)).trans hstate, ?_,
      fun a ha => (rd_endsAt ..).trans ((hregs.2 a ha).trans (rd_setTgt ..)), ?_⟩
    · rw [tgt_endsAt, tgt_of_hal (hal_of_onlyRegs hregs), tgt_setTgt_same]
    · rw [endAt_endsAt, mast_of_seq (seq_of_onlyRegs hregs), mast_setTgt]
    · exact (congrArg (fun x : State => { x with hal := s.hal, seq := s.seq }) hregs.1 :)
  · exact ⟨_, congrArg Host.Outcome.next (playEnd_of_starved hp hsrc hstop hstarved), congrArg Target.play (tgt_setTgt_same ..), rfl,
      endAt_endsAt .., rfl⟩

end Sys2Proof.Laws
end

section
namespace Sys2Proof.Laws
open Sys2Proof.Machine

-- One theorem after another: a thread for each of them passes the memory limit of the check.
set_option Elab.async false

/-! ### Channels and pins -/

@[simp] theorem strm_setStrm_same (s : State) (y c : Nat) (x : Strm) : (s.setStrm y c x).strm y c = x := tget_tput_same ..

@[simp] theorem pin_setPin_same (s : State) (p : Nat) (x : Pin) : (s.setPin p x).pin p = x := tget_tput_same ..

@[simp] theorem strm_wrN (s : State) (a n y c : Nat) : (s.wrN a n).strm y c = s.strm y c := rfl
@[simp] theorem seg_wrN (s : State) (a n q i : Nat) : (s.wrN a n).seg q i = s.seg q i := rfl

theorem rdN_incBy (s : State) (a n : Nat) : (s.incBy a n).rdN a = min 0xFFFFFFFF (s.rdN a + n) := by
  have hfits : min max32 ((s.rd a).toNat + n) < 2 ^ 64 := Nat.lt_of_le_of_lt (Nat.min_le_left _ _) (by decide)
  simp only [State.rdN, State.incBy, rd_wr_same, BitVec.toNat_ofNat, Nat.mod_eq_of_lt hfits]
  rfl

/-! ### HAL_STR_CTL (R171) -/

theorem getF_ofNat {n : Nat} (hn : n < 2 ^ 64) (f : Fld) (hf : f.2 ≤ 64) : getF (BitVec.ofNat 64 n) f = n / 2 ^ f.1 % 2 ^ f.2 := by
  have hpos : 0 < 2 ^ f.2 := Nat.two_pow_pos _
  have hpow : 2 ^ f.2 ≤ 2 ^ 64 := Nat.pow_le_pow_right (by decide) hf
  have hmask : 2 ^ f.2 - 1 < 2 ^ 64 := by omega
  simp only [getF, lowMask, BitVec.toNat_and, BitVec.toNat_ushiftRight, BitVec.toNat_ofNat]
  rw [Nat.mod_eq_of_lt hn, Nat.mod_eq_of_lt hmask, Nat.and_two_pow_sub_one_eq_mod, Nat.shiftRight_eq_div_pow]

theorem strFields_lt (v : Nat) : strFields v < 2 ^ 32 := by
  have hen : bits v 31 31 < 2 := bits_lt ..
  have hblk : bits v 27 16 < 2 ^ 12 := bits_lt ..
  have hring : bits v 11 0 < 2 ^ 12 := bits_lt ..
  unfold strFields
  omega

/-- The fields of HAL_STR_CTL as a write stores them. -/
theorem getF_strFields (v : Nat) : getF (BitVec.ofNat 64 (strFields v)) HAL_STR_CTL_EN = bits v 31 31
    ∧ getF (BitVec.ofNat 64 (strFields v)) HAL_STR_CTL_BLK = bits v 27 16
    ∧ getF (BitVec.ofNat 64 (strFields v)) HAL_STR_CTL_RING = bits v 11 0 := by
  have hen : bits v 31 31 < 2 := bits_lt ..
  have hblk : bits v 27 16 < 2 ^ 12 := bits_lt ..
  have hring : bits v 11 0 < 2 ^ 12 := bits_lt ..
  have hfits : strFields v < 2 ^ 64 := (strFields_lt v).trans (by decide)
  rw [getF_ofNat hfits _ (by decide), getF_ofNat hfits _ (by decide), getF_ofNat hfits _ (by decide)]
  simp only [strFields, HAL_STR_CTL_EN, HAL_STR_CTL_BLK, HAL_STR_CTL_RING]
  omega

theorem bits_of_bit {v i : Nat} (h : bit v i = true) : bits v i i = 1 := by
  have hmod : v / 2 ^ i % 2 = 1 := by simpa [bit, Nat.testBit_eq_decide_div_mod_eq] using h
  simpa [bits] using hmod

/-- With EN 0 the other fields are stored as written. -/
theorem strFields_mod (v : Nat) : strFields (v % 2 ^ 31) = bits v 27 16 * 2 ^ 16 + bits v 11 0 := by
  have hen : bits (v % 2 ^ 31) 31 31 = 0 := by simp only [bits]; omega
  have hblk : bits (v % 2 ^ 31) 27 16 = bits v 27 16 := by simp only [bits]; omega
  have hring : bits (v % 2 ^ 31) 11 0 = bits v 11 0 := by simp only [bits]; omega
  rw [strFields, hen, hblk, hring, Nat.zero_mul, Nat.zero_add]

theorem strCtl_ne_strSts (y c : Nat) : HAL_STR_CTL y c ≠ HAL_STR_STS y c := by
  unfold HAL_STR_CTL HAL_STR_STS
  omega

/-- A channel has started on ring `ring`, an entry `e` of `n` blocks; HAL_STR_CTL holds `w`. -/
def strStarted (y c w ring n : Nat) (e : Seg) (s : State) : State :=
  ((((s.wrN (HAL_STR_CTL y c) w).setSeg (quad y) ring { e with state := .active, users := e.users + 1 }).setStrm y c
    { (default : Strm) with ringBlocks := n, ringSeg := ring }).setF (HAL_STR_STS y c) HAL_STR_STS_RUNNING 1).status (HAL_STR_STS y c) 0

theorem strStart_of_accepted {s : State} {y c v : Nat} {e : Seg} (hidle : s.yIdle y = true)
    (hen : s.flag (HAL_STR_CTL y c) HAL_STR_CTL_EN = false) (he : e = s.seg (quad y) (bits v 11 0)) (hstate : e.state = .ready)
    (hblk : 0 < bits v 27 16) (hwhole : e.len % bits v 27 16 = 0) (htwo : 2 * bits v 27 16 ≤ e.len)
    (hown : s.yardMay y 6 (s.fld (HAL_STR_QID y c) (0, 18)) = true) :
    strStart y c v s = strStarted y c (strFields v) (bits v 11 0) (e.len / bits v 27 16) e s := by
  subst he
  unfold strStart strStarted
  dsimp only
  rw [if_neg (by simp [hidle, hen]), if_neg (not_not_intro hstate), if_neg (Nat.ne_of_gt hblk), if_neg (by simp [hwhole, htwo]),
    if_neg (not_not_intro hown)]

section
variable (y c w ring n : Nat) (e : Seg) (s : State)

theorem halTurn_strStarted : HalTurn [HAL_STR_CTL y c, HAL_STR_STS y c] s (strStarted y c w ring n e s) :=
  (((HalTurn.rfl.wr (by simp)).setSeg.setStrm).wr (by simp)).wr (by simp)

theorem rd_strCtl_strStarted : (strStarted y c w ring n e s).rd (HAL_STR_CTL y c) = BitVec.ofNat 64 w :=
  (rd_status_ne _ _ _ _ (strCtl_ne_strSts y c)).trans ((rd_setF_ne _ _ _ _ _ (strCtl_ne_strSts y c)).trans (rd_wr_same ..))

theorem running_strStarted : (strStarted y c w ring n e s).fld (HAL_STR_STS y c) HAL_STR_STS_RUNNING = 1 :=
  (fld_setF_beside _ _ _ _ _ (by decide) (by decide) (by decide)).trans (fld_setF _ _ _ _ (by decide))

theorem seg_strStarted : (strStarted y c w ring n e s).seg (quad y) ring = { e with state := .active, users := e.users + 1 } := by
  show tget (tput s.hal.segs (4096 * quad y + ring) _) _ = _
  exact tget_tput_same ..

theorem strm_strStarted : (strStarted y c w ring n e s).strm y c = { (default : Strm) with ringBlocks := n, ringSeg := ring } := by
  show tget (tput s.hal.strms (2 * y + c) _) _ = _
  exact tget_tput_same ..

end

/-! ### The stop of a channel (R171) -/

/-- An item is no batch of a channel. -/
def otherItem (y c : Nat) (i : Item) : Bool := match i.act with | .batch y' c' _ => !(y' == y && c' == c) | _ => true

/-- A running channel has stopped: ring `ring` is released, and of the items those that pass `p` are kept; HAL_STR_CTL holds `w`. -/
def strStopped (y c w ring : Nat) (p : Item → Bool) (s : State) : State :=
  let u := (((((s.wrN (HAL_STR_CTL y c) w).setSeg (quad y) ring (s.seg (quad y) ring).endUse).setStrm y c default).wrN
    (HAL_STR_STS y c) 0).keepHeld p).keepTransit p
  { u with hal := { u.hal with batches := u.hal.batches.filter fun b => !(b.2.1 == y && b.2.2.1 == c) } }

theorem strStop_of_active {s : State} {y c : Nat} (hidle : s.yIdle y = false) (hen : s.flag (HAL_STR_CTL y c) HAL_STR_CTL_EN = true)
    (v : Nat) : strStop y c v s = (s.inc (HAL_WDROP_CNT y)).status (HAL_STR_STS y c) E_HAL_STR_STATE := by
  unfold strStop
  dsimp only
  rw [if_pos (by simp [hidle]), strRefused, hen]
  rfl

theorem running_wrCtl (s : State) (y c w : Nat) : (s.wrN (HAL_STR_CTL y c) w).flag (HAL_STR_STS y c) HAL_STR_STS_RUNNING
    = s.flag (HAL_STR_STS y c) HAL_STR_STS_RUNNING := by
  unfold State.flag
  rw [fld_wrN_ne _ _ _ _ _ (strCtl_ne_strSts y c).symm]

section
variable {s : State} {y c : Nat} (hidle : s.yIdle y = true)
include hidle

theorem strStop_of_stopped (hrun : s.flag (HAL_STR_STS y c) HAL_STR_STS_RUNNING = false) (v : Nat) :
    strStop y c v s = s.wrN (HAL_STR_CTL y c) (strFields (v % 2 ^ 31)) := by
  have hstopped := (running_wrCtl s y c (strFields (v % 2 ^ 31))).trans hrun
  exact (if_neg (not_not_intro hidle)).trans (if_pos (Bool.eq_false_iff.mp hstopped))

theorem strStop_of_running (hrun : s.flag (HAL_STR_STS y c) HAL_STR_STS_RUNNING = true) (v : Nat) :
    strStop y c v s = strStopped y c (strFields (v % 2 ^ 31)) (s.strm y c).ringSeg (otherItem y c) s := by
  have hrunning := (running_wrCtl s y c (strFields (v % 2 ^ 31))).trans hrun
  refine (if_neg (not_not_intro hidle)).trans ((if_neg (not_not_intro hrunning)).trans ?_)
  rw [strm_wrN]
  dsimp only
  rw [seg_wrN]
  rfl

end

section
variable (y c w ring : Nat) (p : Item → Bool) (s : State)

theorem keeps_strStopped : s.keeps (strStopped y c w ring p s) [HAL_STR_CTL y c, HAL_STR_STS y c] :=
  (onlyRegs_trans (onlyRegs_wr s (HAL_STR_CTL y c) _) (onlyRegs_wr _ (HAL_STR_STS y c) 0) (by simp) (by simp)).2

theorem rd_strCtl_strStopped : (strStopped y c w ring p s).rd (HAL_STR_CTL y c) = BitVec.ofNat 64 w :=
  (rd_wrN_ne _ _ _ _ (strCtl_ne_strSts y c)).trans (rd_wr_same ..)

theorem rdN_strSts_strStopped : (strStopped y c w ring p s).rdN (HAL_STR_STS y c) = 0 := rdN_wrN _ _ 0

theorem seg_strStopped : (strStopped y c w ring p s).seg (quad y) ring = (s.seg (quad y) ring).endUse :=
  tget_tput_same s.hal.segs (4096 * quad y + ring) (s.seg (quad y) ring).endUse

theorem strm_strStopped : (strStopped y c w ring p s).strm y c = default := tget_tput_same s.hal.strms (2 * y + c) default

theorem strStopped_frame : { strStopped y c w ring p s with regs := s.regs, hal := s.hal, bus := s.bus } = s := rfl

end

/-! ### Batches (R173, R177, R665) -/

/-- A batch of a channel whose release time has come. -/
def batchDue (s : State) (y c : Nat) (i : Item) : Bool :=
  match i.act with | .batch y' c' _ => y' == y && c' == c && s.due i.rel | _ => false

theorem strBlockAvailable_of_batch {s : State} {y c n rel src dst : Nat} {cls : TClass}
    (h : s.bus.held.find? (batchDue s y c) = some ⟨rel, src, dst, cls, .batch y c n⟩) :
    strBlockAvailable y c s = strmArrive y c n { s with bus := { s.bus with held := s.bus.held.erase ⟨rel, src, dst, cls, .batch y c n⟩ } } := by
  unfold strBlockAvailable
  dsimp only
  split
  · next heq => exact absurd (heq.symm.trans h) (by simp)
  · next heq =>
    obtain rfl := Option.some.inj (heq.symm.trans h)
    rfl

theorem strBlockAvailable_of_noBatch {s : State} (h : s.bus.held = []) (y c : Nat) : strBlockAvailable y c s = strmClock y c s := by
  unfold strBlockAvailable
  rw [h]
  rfl

theorem strmClock_of_single {s : State} {y c u n : Nat} (h : s.hal.batches = [(u, y, c, n)]) (hu : u ≤ s.clock.now) :
    strmClock y c s = strmArrive y c n { s with hal := { s.hal with batches := [] } } := by
  unfold strmClock
  rw [h]
  simp [forEach, hu]

theorem strmArrive_spec (y c n : Nat) (s : State) {u : State} (hu : u = strmArrive y c n s) :
    u.strm y c = { s.strm y c with wp := (s.strm y c).wp + n, skip := (s.strm y c).skip - min n (s.strm y c).skip, coming := (s.strm y c).coming - n }
      ∧ u.rdN (HAL_STR_SKIP_CNT y c) = min 0xFFFFFFFF (s.rdN (HAL_STR_SKIP_CNT y c) + min n (s.strm y c).skip)
      ∧ s.keeps u [HAL_STR_SKIP_CNT y c] := by
  subst hu
  exact ⟨strm_setStrm_same .., rdN_incBy .., (HalTurn.rfl.setStrm.wr List.mem_cons_self).2⟩

/-! ### The block of a play (R174, R175) -/

/-- A captured request that takes block `n`. -/
def reqWithBlock (n : Nat) (q : PlayReq) : PlayReq := { q with cap := q.cap.map fun p => { p with block := n } }

/-- A stream play takes the block at the read pointer of its channel, which advances. -/
def blockTaken (y : Nat) (r : PlayReq) (s : State) : State :=
  let x := s.strm y r.id
  let u : State := { s with hal := { s.hal with reqs := updReq (· == r) (reqWithBlock (x.rp + 1)) s.hal.reqs } }
  let u := u.setStrm y r.id { x with rp := x.rp + 1 }
  if x.ringBlocks - 1 < x.rp + 1 - x.m then u.setF (HAL_STR_STS y r.id) HAL_STR_STS_NOREPLAY 1 else u

theorem streamBlock_of_first {s : State} {y t : Nat} {r : PlayReq}
    (hmine : s.hal.reqs.find? (fun q => q.y == y && q.tgt == t && s.addressing q) = some r)
    (hfirst : s.hal.reqs.find? (fun q => q.y == y && q.id == r.id && s.addressing q) = some r) :
    streamBlock y t s = strLost y r.id
      (if (s.strm y r.id).starved.isNone ∧ (s.strm y r.id).wp ≤ (s.strm y r.id).rp then strStarve y r.id r.r (blockTaken y r s)
        else blockTaken y r s) := by
  unfold streamBlock
  rw [hmine]
  dsimp only
  rw [hfirst]
  exact if_neg (not_not_intro rfl)

theorem blockTaken_spec (y : Nat) (r : PlayReq) (s : State) {u : State} (hu : u = blockTaken y r s) :
    u.strm y r.id = { s.strm y r.id with rp := (s.strm y r.id).rp + 1 }
      ∧ u.hal.reqs = updReq (· == r) (reqWithBlock ((s.strm y r.id).rp + 1)) s.hal.reqs
      ∧ HalTurn [HAL_STR_STS y r.id] s u := by
  subst hu
  unfold blockTaken
  dsimp only
  split
  · exact ⟨strm_setStrm_same .., rfl, HalTurn.wr (HalTurn.rfl (s := s)) List.mem_cons_self⟩
  · exact ⟨strm_setStrm_same .., rfl, HalTurn.rfl (s := s)⟩

theorem strLost_of_unstarved {s : State} {y c : Nat} (h : (s.strm y c).starved = none) : strLost y c s = s :=
  if_neg (by simp [h])

/-- A channel that starves changes its group's attempt, three registers and its own state. -/
theorem strStarve_spec (y c r : Nat) (s : State) {u : State} (hu : u = strStarve y c r s) :
    u.strm y c = { s.strm y c with starved := some r } ∧ u.fld (HAL_STR_STS y c) HAL_STR_STS_STARVED = 1
      ∧ u.rdN (HAL_STR_UNDER_CNT y c) = min 0xFFFFFFFF (s.rdN (HAL_STR_UNDER_CNT y c) + 1)
      ∧ (u.grp (s.groupOf y)).marks = (s.grp (s.groupOf y)).marks ++ [E_HAL_UNDERRUN]
      ∧ u.bus.reports = s.bus.reports ++ [⟨E_HAL_UNDERRUN, false, y, c⟩]
      ∧ s.keeps u [HAL_STR_STS y c, HAL_STS y, HAL_STR_UNDER_CNT y c] := by
  subst hu
  obtain ⟨v, hv⟩ : ∃ v, v = (s.setStrm y c { s.strm y c with starved := some r }).setF (HAL_STS y) HAL_STS_UNDERRUN 1 := ⟨_, rfl⟩
  have hcnt : v.rdN (HAL_STR_UNDER_CNT y c) = s.rdN (HAL_STR_UNDER_CNT y c) := by
    rw [hv]
    exact rdN_setF_ne _ _ _ _ _ (by unfold HAL_STR_UNDER_CNT HAL_STS; omega)
  have hstarve : strStarve y c r s = (((v.inc (HAL_STR_UNDER_CNT y c)).setF (HAL_STR_STS y c) HAL_STR_STS_STARVED 1).markGroup
      (s.groupOf y) E_HAL_UNDERRUN true).report E_HAL_UNDERRUN y c := by
    rw [hv]
    rfl
  have hkeeps : HalTurn [HAL_STR_STS y c, HAL_STS y, HAL_STR_UNDER_CNT y c] s
      ((v.inc (HAL_STR_UNDER_CNT y c)).setF (HAL_STR_STS y c) HAL_STR_STS_STARVED 1) := by
    rw [hv]
    exact ((HalTurn.rfl.setStrm.wr (by simp)).wr (by simp)).wr (by simp)
  refine ⟨strm_setStrm_same .., ?_, ?_, ?_, rfl, ?_⟩
  · rw [hstarve]
    exact fld_setF _ _ _ _ (by decide)
  · rw [hstarve]
    refine (rdN_setF_ne _ _ _ _ _ (by unfold HAL_STR_UNDER_CNT HAL_STR_STS; omega)).trans ((rdN_inc ..).trans ?_)
    rw [hcnt]
  · rw [hstarve, hv]
    unfold State.markGroup
    simp
    rfl
  · rw [hstarve]
    exact hkeeps.2

/-- An attempt that is lost is not replayed; no more changes. -/
theorem strLost_spec (y c : Nat) (s : State) {u : State} (hu : u = strLost y c s) :
    u.regs = s.regs ∧ u.hal = s.hal ∧ u.bus = s.bus ∧ ∀ g, (u.grp g).marks = (s.grp g).marks := by
  subst hu
  unfold strLost
  split
  · refine ⟨rfl, rfl, rfl, fun g => ?_⟩
    rw [grp_modGrp]
    split
    · next h => rw [h]
    · rfl
  · exact ⟨rfl, rfl, rfl, fun _ => rfl⟩

/-! ### Marker edges (R181 to R183, R670) -/

/-- The pin is driven low no later than an edge at `τ`. -/
def cutBefore (x : Pin) (τ : Nat) : Bool := match x.lowAt with | some l => decide (l ≤ τ) | none => false

/-- An edge at `τ` is too close to the last one. -/
def tooClose (x : Pin) (τ : Nat) : Bool := match x.last with | some l => decide (τ < l + 64) | none => false

theorem not_cutBefore {x : Pin} {τ : Nat} (h : ∀ l, x.lowAt = some l → τ < l) : ¬ cutBefore x τ = true := by
  unfold cutBefore
  cases hl : x.lowAt with
  | none => exact Bool.false_ne_true
  | some l => simpa using h l hl

theorem not_tooClose {x : Pin} {τ : Nat} (h : ∀ l, x.last = some l → l + 64 ≤ τ) : ¬ tooClose x τ = true := by
  unfold tooClose
  cases hl : x.last with
  | none => exact Bool.false_ne_true
  | some l => simpa using h l hl

theorem tooClose_of_last {x : Pin} {τ l : Nat} (h : x.last = some l) (hclose : τ < l + 64) : tooClose x τ = true := by
  unfold tooClose
  rw [h]
  exact decide_eq_true hclose

section
variable {s : State} {pin τ y : Nat} {up : Bool} {rest : List (Nat × Bool × Nat)} (hedges : (s.pin pin).edges = (τ, up, y) :: rest)
  (hlow : ∀ l, (s.pin pin).lowAt = some l → τ < l) (hdue : τ / 8 ≤ s.clock.now)
include hedges hlow hdue

/-- An edge whose time has come, before any cut. -/
theorem markerEdge_of_due : markerEdge pin s =
    if (s.pin pin).level = up then s.setPin pin { s.pin pin with edges := rest }
    else if tooClose (s.pin pin) τ = true then
      ((s.setPin pin { s.pin pin with edges := rest }).inc (HAL_MRK_COLL_CNT y)).setF (HAL_STS y) HAL_STS_MRK_COLL 1
    else s.setPin pin { s.pin pin with edges := rest, level := up, last := some τ } := by
  have hpin : s.pinDue τ = true := decide_eq_true hdue
  unfold markerEdge
  dsimp only
  rw [hedges]
  exact (if_neg (not_cutBefore hlow)).trans (if_neg (not_not_intro hpin))

theorem markerEdge_of_level (h : (s.pin pin).level = up) : markerEdge pin s = s.setPin pin { s.pin pin with edges := rest } :=
  (markerEdge_of_due hedges hlow hdue).trans (if_pos h)

theorem markerEdge_of_free (h : (s.pin pin).level ≠ up) (hlast : ∀ l, (s.pin pin).last = some l → l + 64 ≤ τ) :
    markerEdge pin s = s.setPin pin { s.pin pin with edges := rest, level := up, last := some τ } :=
  (markerEdge_of_due hedges hlow hdue).trans ((if_neg h).trans (if_neg (not_tooClose hlast)))

theorem markerEdge_of_close {l : Nat} (h : (s.pin pin).level ≠ up) (hlast : (s.pin pin).last = some l) (hclose : τ < l + 64) :
    markerEdge pin s = ((s.setPin pin { s.pin pin with edges := rest }).inc (HAL_MRK_COLL_CNT y)).setF (HAL_STS y) HAL_STS_MRK_COLL 1 :=
  (markerEdge_of_due hedges hlow hdue).trans ((if_neg h).trans (if_pos (tooClose_of_last hlast hclose)))

end

theorem markerEdge_of_cut {s : State} {pin l : Nat} (hedges : (s.pin pin).edges = []) (hlow : (s.pin pin).lowAt = some l)
    (hdue : l / 8 ≤ s.clock.now) : markerEdge pin s = s.setPin pin { s.pin pin with
      lowAt := none, level := false, last := if (s.pin pin).level = true then some l else (s.pin pin).last } := by
  have hpin : s.pinDue l = true := decide_eq_true hdue
  unfold markerEdge
  dsimp only
  rw [hedges]
  dsimp only
  rw [hlow]
  exact if_pos hpin

theorem markerExitLow_of_high {s : State} {pin : Nat} (hdev : s.dev ≠ dRUN) (hlevel : (s.pin pin).level = true)
    (hedges : (s.pin pin).edges = []) (hlow : (s.pin pin).lowAt = none) (hlast : ∀ l, (s.pin pin).last = some l → l + 64 ≤ s.clock.now * 8) :
    markerExitLow pin s = s.setPin pin { s.pin pin with level := false, last := some (s.clock.now * 8) } := by
  unfold markerExitLow
  refine if_pos ⟨hdev, hlevel, hedges, hlow, ?_⟩
  cases hl : (s.pin pin).last with
  | none => rfl
  | some l => exact decide_eq_true (hlast l hl)

/-! ### The clauses of O20 -/

/-- Settles O20: a channel starts and stops as `strStarted` and `strStopped` say, a batch arrives by `strmArrive_spec`, a play takes its block
by `blockTaken_spec` and starves its channel by `strStarve_spec`, and each marker edge is one of the equations above. -/
theorem streamsAndMarkersMoveOn : Obligations.StreamsAndMarkersMoveOn := by
  refine ⟨fun s y c v e hopens _ hbit hidle hen he hstate hblk hwhole htwo hown _ => ?_, fun s y c v hopens _ hidle hrun _ => ?_,
    fun s y c v hopens _ hidle hrun _ => ?_, fun s y c v hopens _ hidle hen _ => ?_, fun s y c n rel src dst cls _ hfind => ?_,
    fun s y c u n hheld hbatches hu => ?_, fun s y t₀ r hmine hfirst _ hfed hblock => ?_, fun s y t₀ r hmine hfirst _ hfed hblock => ?_,
    fun s pin τ up y rest hedges hlow hdue hlevel hlast => ?_, fun s pin τ up y rest hedges hlow hdue hlevel => ?_,
    fun s pin τ up y rest l hedges hlow hdue hlevel hlast hclose => ?_, fun s pin l hedges hlow hdue => ?_,
    fun s pin hdev hlevel hedges hlow hlast => ?_⟩
  · subst he
    have hexec := (hostWr_of_opens hopens (strStart y c v)).trans (strStart_of_accepted hidle hen rfl hstate hblk hwhole htwo hown)
    generalize hw : strFields v = w at hexec
    generalize hn : (s.seg (quad y) (bits v 11 0)).len / bits v 27 16 = n at hexec ⊢
    generalize hring : bits v 11 0 = ring at hexec ⊢
    have hctl := rd_strCtl_strStarted y c w ring n (s.seg (quad y) ring) s
    obtain ⟨hfen, hfblk, hfring⟩ := getF_strFields v
    rw [hw] at hfen hfblk hfring
    obtain ⟨hframe, hkeeps⟩ := halTurn_strStarted y c w ring n (s.seg (quad y) ring) s
    have hseg := seg_strStarted y c w ring n (s.seg (quad y) ring) s
    have hstrm := strm_strStarted y c w ring n (s.seg (quad y) ring) s
    exact ⟨_, congrArg Host.Outcome.next hexec, (congrArg (getF · HAL_STR_CTL_EN) hctl).trans (hfen.trans (bits_of_bit hbit)),
      (congrArg (getF · HAL_STR_CTL_BLK) hctl).trans hfblk, (congrArg (getF · HAL_STR_CTL_RING) hctl).trans (hfring.trans hring),
      running_strStarted .., fld_status .., congrArg Seg.state hseg, congrArg Seg.users hseg, congrArg Strm.ringBlocks hstrm,
      congrArg Strm.wp hstrm, hkeeps, hframe⟩
  · have hexec := (hostWr_of_opens hopens (strStop y c v)).trans (strStop_of_running hidle hrun v)
    have hen : getF (BitVec.ofNat 64 (strFields (v % 2 ^ 31))) HAL_STR_CTL_EN = 0 := by
      obtain ⟨hfen, -, -⟩ := getF_strFields (v % 2 ^ 31)
      rw [hfen, bits]
      omega
    generalize strFields (v % 2 ^ 31) = w at hexec hen
    have hctl := rd_strCtl_strStopped y c w (s.strm y c).ringSeg (otherItem y c) s
    exact ⟨_, congrArg Host.Outcome.next hexec, (congrArg (getF · HAL_STR_CTL_EN) hctl).trans hen, rdN_strSts_strStopped ..,
      strm_strStopped .., seg_strStopped .., keeps_strStopped y c w (s.strm y c).ringSeg _ s, strStopped_frame ..⟩
  · have hexec := (hostWr_of_opens hopens (strStop y c v)).trans (strStop_of_stopped hidle hrun v)
    refine ⟨_, congrArg Host.Outcome.next hexec, (rdN_wrN ..).trans ?_, onlyRegs_wr ..⟩
    rw [Nat.mod_eq_of_lt ((strFields_lt _).trans (by decide)), strFields_mod]
  · have hexec := (hostWr_of_opens hopens (strStop y c v)).trans (strStop_of_active hidle hen v)
    refine ⟨_, congrArg Host.Outcome.next hexec, ?_, fld_status .., onlyRegs_trans (onlyRegs_inc ..) (onlyRegs_status ..) (by simp) (by simp)⟩
    rw [rdN_status_ne _ _ _ _ (by unfold HAL_WDROP_CNT HAL_STR_STS; omega), rdN_inc]
  · obtain ⟨hstrm, hskip, hkeeps⟩ := strmArrive_spec y c n
      { s with bus := { s.bus with held := s.bus.held.erase ⟨rel, src, dst, cls, .batch y c n⟩ } } rfl
    exact ⟨_, congrArg Host.Outcome.next (strBlockAvailable_of_batch hfind), hstrm, hskip, rfl, hkeeps⟩
  · have hexec := (strBlockAvailable_of_noBatch hheld y c).trans (strmClock_of_single hbatches hu)
    obtain ⟨hstrm, -, hkeeps⟩ := strmArrive_spec y c n { s with hal := { s.hal with batches := [] } } rfl
    exact ⟨_, congrArg Host.Outcome.next hexec, congrArg Strm.wp hstrm, rfl, hkeeps⟩
  · obtain ⟨hstrm, hlist, hframe, hkeeps⟩ := blockTaken_spec y r s rfl
    have hexec := (streamBlock_of_first hmine hfirst).trans (congrArg (strLost y r.id) (if_neg fun h => absurd h.2 (not_le.mpr hblock)))
    rw [strLost_of_unstarved ((congrArg Strm.starved hstrm).trans hfed)] at hexec
    have htest := List.find?_some hmine
    simp only [Bool.and_eq_true, beq_iff_eq] at htest
    obtain ⟨⟨hy, ht⟩, -⟩ := htest
    obtain ⟨x, hx, hnew⟩ := exists_mem_updReq (p := (· == r)) (f := reqWithBlock ((s.strm y r.id).rp + 1))
      ⟨r, List.mem_of_find?_eq_some hmine, beq_self_eq_true r⟩
    obtain rfl : x = r := eq_of_beq hx
    rw [← hlist] at hnew
    exact ⟨_, congrArg Host.Outcome.next hexec, hstrm, ⟨_, hnew, hy, ht, rfl, rfl⟩, hkeeps, hframe⟩
  · obtain ⟨u, hu⟩ : ∃ u, u = blockTaken y r s := ⟨_, rfl⟩
    obtain ⟨w, hw⟩ : ∃ w, w = strStarve y r.id r.r u := ⟨_, rfl⟩
    obtain ⟨hustrm, -, huframe, hukeeps⟩ := blockTaken_spec y r s hu
    obtain ⟨hwstrm, hstarved, hcnt, hmarks, hreports, hwkeeps⟩ := strStarve_spec y r.id r.r u hw
    obtain ⟨hregs, hhal, hbus, hlmarks⟩ := strLost_spec y r.id w rfl
    have hexec := (streamBlock_of_first hmine hfirst).trans (congrArg (strLost y r.id) (if_pos ⟨by simp [hfed], hblock⟩))
    rw [← hu, ← hw] at hexec
    have hrd (a : Nat) : (strLost y r.id w).rd a = w.rd a := congrArg (sget resetVal · a) hregs
    have hgroup : u.groupOf y = s.groupOf y := (congrArg (State.groupOf · y) huframe :)
    have hgrp : u.grp (s.groupOf y) = s.grp (s.groupOf y) := (congrArg (State.grp · (s.groupOf y)) huframe :)
    have hubus : u.bus = s.bus := (congrArg State.bus huframe :)
    have hucnt : u.rdN (HAL_STR_UNDER_CNT y r.id) = s.rdN (HAL_STR_UNDER_CNT y r.id) :=
      congrArg BitVec.toNat (hukeeps _ (by simp [HAL_STR_UNDER_CNT, HAL_STR_STS]))
    rw [hgroup, hgrp] at hmarks
    refine ⟨_, congrArg Host.Outcome.next hexec, ?_, (congrArg (getF · HAL_STR_STS_STARVED) (hrd _)).trans hstarved, ?_,
      (hlmarks _).trans hmarks, ?_, fun a ha => ?_⟩
    · rw [show (strLost y r.id w).strm y r.id = w.strm y r.id from congrArg (fun x : Hal => tget x.strms (2 * y + r.id)) hhal, hwstrm, hustrm]
    · rw [State.rdN, hrd]
      exact hcnt.trans (by rw [hucnt])
    · rw [hbus, hreports, hubus]
    · exact (hrd a).trans ((hwkeeps a ha).trans (hukeeps a fun h => ha (List.mem_singleton.mp h ▸ List.mem_cons_self)))
  · exact ⟨_, congrArg Host.Outcome.next (markerEdge_of_free hedges hlow hdue hlevel hlast), pin_setPin_same .., rfl, rfl⟩
  · exact ⟨_, congrArg Host.Outcome.next (markerEdge_of_level hedges hlow hdue hlevel), pin_setPin_same .., rfl, rfl⟩
  · obtain ⟨hframe, hkeeps⟩ : HalTurn [HAL_MRK_COLL_CNT y, HAL_STS y] s
        (((s.setPin pin { s.pin pin with edges := rest }).inc (HAL_MRK_COLL_CNT y)).setF (HAL_STS y) HAL_STS_MRK_COLL 1) :=
      (HalTurn.rfl.setPin.wr (by simp)).wr (by simp)
    refine ⟨_, congrArg Host.Outcome.next (markerEdge_of_close hedges hlow hdue hlevel hlast hclose), pin_setPin_same .., ?_,
      beq_iff_eq.mpr (fld_setF _ _ _ _ (by decide)), hkeeps, hframe⟩
    exact (rdN_setF_ne _ _ _ _ _ (by simp [HAL_MRK_COLL_CNT, HAL_STS])).trans (rdN_inc ..)
  · have hpin := pin_setPin_same s pin { s.pin pin with
      lowAt := none, level := false, last := if (s.pin pin).level = true then some l else (s.pin pin).last }
    exact ⟨_, congrArg Host.Outcome.next (markerEdge_of_cut hedges hlow hdue), congrArg Pin.level hpin, congrArg Pin.lowAt hpin, rfl, rfl⟩
  · exact ⟨_, congrArg Host.Outcome.next (markerExitLow_of_high hdev hlevel hedges hlow hlast), congrArg Pin.level (pin_setPin_same ..), rfl, rfl⟩

end Sys2Proof.Laws
end

section
namespace Sys2Proof.Laws
open Sys2Proof.Machine

-- One theorem after another: a thread for each of them passes the memory limit of the check.
set_option Elab.async false

/-! ### Frame corrections (R196, R197) -/

theorem flag_setF_b01 (s : State) (a i : Nat) (b : Bool) (hi : i < 64) : (s.setF a (i, 1) (b01 b)).flag a (i, 1) = b := by
  refine (congrArg (· == 1) (fld_setF s a (i, 1) (b01 b) hi)).trans ?_
  cases b
  · rfl
  · rfl

theorem fx_xorPf (s : State) (y t : Nat) (x z : Bool) : (s.xorPf y t x z).fx y t = (s.fx y t != x) :=
  (congrArg (· == 1) (fld_setF_beside _ _ _ _ _ (by decide) (by decide) (by decide))).trans (flag_setF_b01 _ _ 1 _ (by decide))

theorem fz_xorPf (s : State) (y t : Nat) (x z : Bool) : (s.xorPf y t x z).fz y t = (s.fz y t != z) :=
  flag_setF_b01 _ _ 0 _ (by decide)

theorem onlyRegs_xorPf (s : State) (y t : Nat) (x z : Bool) : s.onlyRegs (s.xorPf y t x z) [TON_PF y t] :=
  onlyRegs_trans (onlyRegs_setF ..) (onlyRegs_setF ..) (List.Subset.refl _) (List.Subset.refl _)

/-- An item leaves those held. -/
def itemTaken (i : Item) (s : State) : State := { s with bus := { s.bus with held := s.bus.held.erase i } }

theorem pfCorrection_of_due {s : State} {y t ctx : Nat} {x z : Bool} {i : Item} (hdue : s.corrDue y = some i)
    (hact : i.act = .corr y t x z ctx) : pfCorrection y s = applyCorr y t x z (itemTaken i s) := by
  simp only [pfCorrection, hdue, hact, itemTaken]

theorem applyCorr_of_drive {s : State} {y t : Nat} (ht : t < 8) (hen : s.tgtEn y t = true) (x z : Bool) :
    applyCorr y t x z s = { s.xorPf y t x z with
      ton := { s.ton with pf := ⟨s.clock.tb1 / 16, y, t, x, z⟩ :: s.ton.pf.filter fun c => c.at_ == s.clock.tb1 / 16 } } :=
  if_pos ⟨ht, hen⟩

theorem applyCorr_of_other {s : State} {y t : Nat} (h : 8 ≤ t ∨ s.tgtEn y t = false) (x z : Bool) :
    applyCorr y t x z s = (s.setF (TON_STS y) TON_STS_PF_REJ 1).inc DEC_PF_REJ_CNT := by
  refine if_neg fun ⟨ht, hen⟩ => ?_
  rcases h with h | h
  · omega
  · exact absurd hen (Bool.eq_false_iff.mp h)

/-! ### The registers of the shadow sets (R205) -/

theorem shdRegs_shift (y : Nat) {c : Nat} (hc : c < 4) : shdRegs y c = (shdRegs 0 c).map (· + 0x40000 * y) := by
  obtain rfl | rfl | rfl | rfl : c = 0 ∨ c = 1 ∨ c = 2 ∨ c = 3 := by omega
  · simp [shdRegs, TON_TXD_CFG, TON_TXP_CFG, TON_GAIN, Nat.add_right_comm]
  · simp [shdRegs, List.map_flatMap, BIA_CFG, FLX_CFG, FLX_GAIN, FLX_IIR_K.eq_unfold, FLX_IIR_L.eq_unfold, FLX_FIR.eq_unfold,
      Function.comp_def, Nat.add_right_comm]
  · simp [shdRegs, List.map_flatMap, DEM_FREQ, DEM_PHASE, DEM_DLY, DEM_KSEL, DEM_KCFG, Nat.add_right_comm]
  · simp [shdRegs, List.map_flatMap, DSC_ECFG, DSC_QTHR, DSC_A, DSC_B, DSC_C, DSC_ETHR, DSC_CPF, Function.comp_def, Nat.add_right_comm]

theorem offset_of_mem_shdRegs_zero : ∀ c < 4, ∀ a ∈ shdRegs 0 c, shdClass (a - 0x1000000) = c ∧ 0x1001830 ≤ a := by
  decide +kernel

/-- A register of a class lies in the part of the yard page by which its class is told, above the registers that govern the sets. -/
theorem offset_of_mem_shdRegs {y c a : Nat} (hc : c < 4) (ha : a ∈ shdRegs y c) :
    shdClass (a - (0x1000000 + 0x40000 * y)) = c ∧ 0x1001830 + 0x40000 * y ≤ a := by
  rw [shdRegs_shift y hc, List.mem_map] at ha
  obtain ⟨b, hb, rfl⟩ := ha
  obtain ⟨hcls, hlow⟩ := offset_of_mem_shdRegs_zero c hc b hb
  rw [Nat.add_sub_add_right]
  exact ⟨hcls, Nat.add_le_add_right hlow _⟩

/-! ### The states of the shadow sets (R206, R208, R210, R211, Table 6-6) -/

theorem shSt_of_rd {s t : State} {y : Nat} (h : t.rd (TON_SHD_STS y) = s.rd (TON_SHD_STS y)) (c : Nat) : t.shSt y c = s.shSt y c :=
  congrArg (getF · (2 * c, 2)) h

theorem shSt_setShSt (s : State) (y : Nat) {c d st : Nat} (hc : c < 4) (hd : d < 4) (hst : st < 4) :
    (s.setShSt y d st).shSt y c = if c = d then st else s.shSt y c := by
  refine (fld_setF_ne _ _ _ _ _ _ (by simp [TON_SHD_STS, TON_SHD_CTL])).trans ?_
  split
  · next h =>
    subst h
    exact (fld_setF _ _ _ _ (show 2 * c + 2 ≤ 64 by omega)).trans (Nat.mod_eq_of_lt hst)
  · exact fld_setF_beside _ _ _ _ _ (show 2 * d + 2 ≤ 64 by omega) (show 2 * c + 2 ≤ 64 by omega)
      (show 2 * d + 2 ≤ 2 * c ∨ 2 * c + 2 ≤ 2 * d by omega)

theorem onlyRegs_setShSt (s : State) (y c st : Nat) : s.onlyRegs (s.setShSt y c st) [TON_SHD_STS y, TON_SHD_CTL y] :=
  onlyRegs_trans (onlyRegs_setF ..) (onlyRegs_setF ..) (by simp) (by simp)

theorem onlyRegs_ite {s t u : State} {as : List Nat} {c : Prop} [Decidable c] (ht : s.onlyRegs t as) (hu : s.onlyRegs u as) :
    s.onlyRegs (if c then t else u) as := by
  split
  · exact ht
  · exact hu

/-- A write or a SEAL that comes in the ft of a hand-over is counted as late (R206, R208). -/
def lateCounted (y : Nat) (late : Bool) (s : State) : State := if late then s.inc (TON_SHADOW_LATE y) else s

theorem onlyRegs_lateCounted (y : Nat) (late : Bool) (s : State) : s.onlyRegs (lateCounted y late s) [TON_SHADOW_LATE y] :=
  onlyRegs_ite (onlyRegs_inc ..) (onlyRegs_rfl ..)

theorem shSt_lateCounted (y : Nat) (late : Bool) (s : State) (c : Nat) : (lateCounted y late s).shSt y c = s.shSt y c :=
  shSt_of_rd ((onlyRegs_lateCounted y late s).2 _ (by simp [TON_SHD_STS, TON_SHADOW_LATE])) c

/-- The state of a set after a write of its SEAL bit (Table 6-6). -/
def sealedState (one : Bool) (st : Nat) : Nat :=
  if one = true then (if st = shOPEN then shSEALED else st) else (if st = shSEALED then shOPEN else st)

theorem sealWrite_eq (y c : Nat) (one : Bool) (s : State) : sealWrite y c one s =
    let u := lateCounted y (one && (s.hoNow y c && (s.hoLast y c).wasOpen)) s
    if sealedState one (s.shSt y c) = s.shSt y c then u else u.setShSt y c (sealedState one (s.shSt y c)) := by
  cases one
  · by_cases h : s.shSt y c = shSEALED
    · simp [sealWrite, sealedState, lateCounted, h, shSEALED, shOPEN]
    · simp [sealWrite, sealedState, lateCounted, h]
  · by_cases h : s.shSt y c = shOPEN
    · simp [sealWrite, sealedState, lateCounted, h, shSEALED, shOPEN]
    · simp [sealWrite, sealedState, lateCounted, h]

theorem onlyRegs_sealWrite (y c : Nat) (one : Bool) (s : State) :
    s.onlyRegs (sealWrite y c one s) [TON_SHD_CTL y, TON_SHD_STS y, TON_SHADOW_LATE y] := by
  rw [sealWrite_eq]
  have hlate (late : Bool) := onlyRegs_lateCounted y late s
  exact onlyRegs_ite (onlyRegs_trans (hlate _) (onlyRegs_rfl ..) (by simp) (List.Subset.refl _))
    (onlyRegs_trans (hlate _) (onlyRegs_setShSt ..) (by simp) (by simp))

theorem shSt_lt (s : State) (y c : Nat) : s.shSt y c < 4 := getF_lt _ _ (show 2 ≤ 64 by decide)

theorem sealedState_lt (one : Bool) {st : Nat} (h : st < 4) : sealedState one st < 4 := by
  unfold sealedState shOPEN shSEALED
  split
  · split <;> omega
  · split <;> omega

theorem shSt_sealWrite (y : Nat) {c d : Nat} (hc : c < 4) (hd : d < 4) (one : Bool) (s : State) :
    (sealWrite y d one s).shSt y c = if c = d then sealedState one (s.shSt y c) else s.shSt y c := by
  rw [sealWrite_eq]
  dsimp only
  split
  · next hsame =>
    rw [shSt_lateCounted]
    split
    · next h => rw [h, hsame]
    · rfl
  · rw [shSt_setShSt _ _ hc hd (sealedState_lt one (shSt_lt s y d)), shSt_lateCounted]
    split
    · next h => rw [h]
    · rfl

/-- What one write of TON_SHD_CTL does to the four sets. -/
def sealsWritten (y v : Nat) (s : State) : State := forEach (List.range 4) s fun c s => sealWrite y c (bit v c) s

theorem shSt_sealsWritten (y v : Nat) (s : State) {c : Nat} (hc : c < 4) :
    (sealsWritten y v s).shSt y c = sealedState (bit v c) (s.shSt y c) := by
  show (sealWrite y 3 (bit v 3) (sealWrite y 2 (bit v 2) (sealWrite y 1 (bit v 1) (sealWrite y 0 (bit v 0) s)))).shSt y c = _
  rw [shSt_sealWrite y hc (by decide), shSt_sealWrite y hc (by decide), shSt_sealWrite y hc (by decide), shSt_sealWrite y hc (by decide)]
  obtain rfl | rfl | rfl | rfl : c = 0 ∨ c = 1 ∨ c = 2 ∨ c = 3 := by omega
  all_goals simp

theorem onlyRegs_sealsWritten (y v : Nat) (s : State) :
    s.onlyRegs (sealsWritten y v s) [TON_SHD_CTL y, TON_SHD_STS y, TON_SHADOW_LATE y] :=
  forEach_induct (P := fun t => s.onlyRegs t [TON_SHD_CTL y, TON_SHD_STS y, TON_SHADOW_LATE y]) (onlyRegs_rfl ..) fun c _ t h =>
    onlyRegs_trans h (onlyRegs_sealWrite y c (bit v c) t) (List.Subset.refl _) (List.Subset.refl _)

/-! ### Shadow writes (R206, R210, R211) -/

theorem exec_shadowWrite {s : State} {y off v a c : Nat} (ha : a = 0x1000000 + 0x40000 * y + off) (hc : c < 4) (hmem : a ∈ shdRegs y c)
    (hshd : isShd a = true) (hopens : s.opens a) (hodd : txpOdd y a = false) (hcheck : shdCheck y a v = 0) :
    exec (.shadowWrite y off v) s = .next (if s.shSt y c = shSEALED then
        (s.inc (TON_SHD_REJ_CNT y)).setF (TON_STS y) TON_STS_SHD_REJ 1
      else ((lateCounted y (s.hoNow y c && (s.hoLast y c).made) s).wrN a v).setShSt y c shOPEN) := by
  obtain ⟨hcls, -⟩ := offset_of_mem_shdRegs hc hmem
  subst ha
  refine congrArg Host.Outcome.next ((hostWr_of_opens hopens _).trans ((if_pos hshd).trans ?_))
  rw [shadowHost, hodd, hcheck, shadowStore, hcls]
  rfl

/-! ### Hand-over commands (R213, R214) -/

/-- The first ft boundary that a hand-over command asks for, with the lead of host software. -/
def hoAsked (s : State) (y : Nat) : Nat := ceilFt (if s.rdN (TON_HO_REL y) = 0 then s.tb1 + 2560 else s.rdN (TON_HO_REL y))

section
variable {s : State} {y m : Nat} (hm : m % 16 ≠ 0) (hrun : s.tb1Run = true)
include hm hrun

theorem hoCmd_of_pending (hpend : s.flag (TON_HO_STS y) TON_HO_STS_PENDING = true) :
    hoCmd y m s = s.status (TON_HO_STS y) E_TON_HO_BUSY := by
  unfold hoCmd hoCmdLead
  dsimp only
  rw [if_neg hm, if_neg (not_not_intro hrun), if_pos hpend]

theorem hoCmd_of_free (hpend : s.flag (TON_HO_STS y) TON_HO_STS_PENDING = false)
    (hlead : s.rdN (TON_HO_REL y) = 0 ∨ s.tb1 + 2560 ≤ s.rdN (TON_HO_REL y)) :
    hoCmd y m s = (({ s with ton := { s.ton with hos := s.ton.hos ++ [HoReq.mk y (hoAsked s y) (m % 16) true] } }).setF (TON_HO_STS y)
      TON_HO_STS_PENDING 1).status (TON_HO_STS y) 0 := by
  have hmet : ¬ (s.rdN (TON_HO_REL y) ≠ 0 ∧ s.rdN (TON_HO_REL y) < s.tb1 + 2560) := by omega
  unfold hoCmd hoCmdLead
  dsimp only
  rw [show 160 * ft = 2560 from rfl, if_neg hm, if_neg (not_not_intro hrun), if_neg (Bool.eq_false_iff.mp hpend), if_neg hmet, hoAsked,
    apply_ite ceilFt]

end

/-! ### Samples of the RF outputs (R185, R201, R207) -/

theorem summer_eq (xs : List Int) (shift : Nat) : summer xs shift = max (-8191) (min 8191 (summerRaw xs shift)) := by
  unfold summer
  dsimp only
  split
  · omega
  · split <;> omega

theorem summerSat_iff (xs : List Int) (shift : Nat) :
    summerSat xs shift = true ↔ ¬ (-8191 ≤ summerRaw xs shift ∧ summerRaw xs shift ≤ 8191) := by
  rw [summerSat, bne_iff_ne, summer_eq]
  omega

theorem feed_spec (out : Nat) (code : Int) (pin : Nat) (s : State) {u : State} (hu : u = feed out code pin s) :
    tget u.ton.fed out = code ∧ u.ton.line = s.ton.line ++ (if tget s.ton.fed out = code then [] else [(pin, out, code)])
      ∧ u.regs = s.regs ∧ { u with ton := s.ton } = s := by
  subst hu
  unfold feed
  split
  · next h => exact ⟨h, (List.append_nil _).symm, rfl, rfl⟩
  · exact ⟨tget_tput_same .., rfl, rfl, rfl⟩

/-- A saturated sum is counted (R201). -/
def clipCounted (a y : Nat) (clipped : Bool) (s : State) : State := if clipped then (s.inc a).setF (TON_STS y) TON_STS_CLIP 1 else s

theorem onlyRegs_clipCounted (a y : Nat) (clipped : Bool) (s : State) : s.onlyRegs (clipCounted a y clipped s) [a, TON_STS y] :=
  onlyRegs_ite (onlyRegs_trans (onlyRegs_inc ..) (onlyRegs_setF ..) (by simp) (by simp)) (onlyRegs_rfl ..)

theorem ton_clipCounted (a y : Nat) (clipped : Bool) (s : State) : (clipCounted a y clipped s).ton = s.ton :=
  (congrArg State.ton (onlyRegs_clipCounted a y clipped s).1 :)

theorem rdN_clipCounted {a y : Nat} (ha : a ≠ TON_STS y) (clipped : Bool) (s : State) :
    (clipCounted a y clipped s).rdN a = if clipped then min 0xFFFFFFFF (s.rdN a + 1) else s.rdN a := by
  cases clipped
  · rfl
  · exact (rdN_setF_ne _ _ _ _ _ ha).trans (rdN_inc ..)

/-- The clip counter of the page that configures an output. -/
def clipCnt (k y : Nat) : Nat := if k = 0 then TON_TXD_CLIP_CNT y else TON_TXP_CLIP_CNT y

theorem clipCnt_ne_sts (k y : Nat) : clipCnt k y ≠ TON_STS y := by
  unfold clipCnt TON_TXD_CLIP_CNT TON_TXP_CLIP_CNT TON_STS
  split <;> omega

theorem outTick_eq (k i : Nat) (ts : List (Nat × Nat)) (s : State) {y : Nat} {cfg : Word} {v code : Int} (hy : y = outYard k i)
    (hcfg : cfg = s.actAt y 0 (if k = 0 then TON_TXD_CFG y else TON_TXP_CFG y) (s.tb1 - interpDelay + 256))
    (hv : v = summerRaw (ts.map fun p => s.toneOut p.1 p.2) (getF cfg TON_TXD_CFG_OUT_SHIFT))
    (hcode : code = if getF cfg TON_TXD_CFG_MUTE = 1 then 0 else max (-8191) (min 8191 v)) :
    outTick k i ts s = clipCounted (clipCnt k y) y (!decide (-8191 ≤ v ∧ v ≤ 8191))
      (feed (64 * k + i) code (s.clock.now + 256 - interpDelay) s) := by
  have hsat : summerSat (ts.map fun p => s.toneOut p.1 p.2) (getF cfg TON_TXD_CFG_OUT_SHIFT) = !decide (-8191 ≤ v ∧ v ≤ 8191) := by
    rw [Bool.eq_iff_iff, summerSat_iff, hv, Bool.not_eq_true', decide_eq_false_iff_not]
  rw [hcode, ← hsat, hv, ← summer_eq, hcfg, hy]
  rfl

/-! ### The clauses of O21 -/

/-- Settles O21: a correction is `xorPf` or counted, a shadow write is one of the two of `exec_shadowWrite`, TON_SHD_CTL takes each set where
`sealedState` says, a hand-over command is stored or answered, and a sample is fed and counted as `feed_spec` and `clipCounted` say. -/
theorem framesShadowsAndHandOverCommands : Obligations.FramesShadowsAndHandOverCommands := by
  refine ⟨fun s y i t x z ctx hdue hact ht hen => ?_, fun s y i t x z ctx hdue hact hother => ?_,
    fun s y off v a c ha hc hmem hshd hopens hodd hcheck hst => ?_, fun s y off v a c ha hc hmem hshd hopens hodd hcheck hst => ?_,
    fun s y v hopens => ?_, fun s y m h hopens hm hrun hpend hlead hh => ?_, fun s y m hopens hm hrun hpend => ?_,
    fun s k i ts y cfg v code _ hy _ hcfg hv hcode => ?_⟩
  · have hexec := (pfCorrection_of_due hdue hact).trans (applyCorr_of_drive (s := itemTaken i s) ht hen x z)
    exact ⟨_, congrArg Host.Outcome.next hexec, fx_xorPf s y t x z, fz_xorPf s y t x z, rfl, rfl, (onlyRegs_xorPf s y t x z).2, rfl⟩
  · have hexec := (pfCorrection_of_due hdue hact).trans (applyCorr_of_other (s := itemTaken i s) hother x z)
    have hne : TON_STS y ≠ DEC_PF_REJ_CNT := by unfold TON_STS DEC_PF_REJ_CNT; omega
    have honly : (itemTaken i s).onlyRegs (((itemTaken i s).setF (TON_STS y) TON_STS_PF_REJ 1).inc DEC_PF_REJ_CNT) [TON_STS y, DEC_PF_REJ_CNT] :=
      onlyRegs_trans (onlyRegs_setF ..) (onlyRegs_inc ..) (by simp) (by simp)
    refine ⟨_, congrArg Host.Outcome.next hexec, ?_, (rdN_inc ..).trans ?_, rfl, honly.2, rfl⟩
    · exact beq_iff_eq.mpr ((fld_inc_ne _ _ _ _ hne).trans (fld_setF _ _ _ _ (by decide)))
    · rw [rdN_setF_ne _ _ _ _ _ hne.symm]
      rfl
  · obtain ⟨-, hlow⟩ := offset_of_mem_shdRegs hc hmem
    have hexec := (exec_shadowWrite ha hc hmem hshd hopens hodd hcheck).trans (congrArg Host.Outcome.next (if_neg hst))
    obtain ⟨u, hu⟩ : ∃ u, u = lateCounted y (s.hoNow y c && (s.hoLast y c).made) s := ⟨_, rfl⟩
    rw [← hu] at hexec
    have hset := onlyRegs_setShSt (u.wrN a v) y c shOPEN
    have honly : s.onlyRegs ((u.wrN a v).setShSt y c shOPEN) [a, TON_SHD_STS y, TON_SHD_CTL y, TON_SHADOW_LATE y] :=
      onlyRegs_trans (onlyRegs_trans (hu ▸ onlyRegs_lateCounted ..) (onlyRegs_wr u a _) (cs := [a, TON_SHADOW_LATE y]) (by simp) (by simp))
        hset (by simp) (by simp)
    obtain ⟨hframe, hkeeps⟩ := honly
    refine ⟨_, hexec, ?_, ?_, (congrArg State.act hframe :), hkeeps, hframe⟩
    · refine (congrArg BitVec.toNat (hset.2 a ?_)).trans (rdN_wrN ..)
      simp only [TON_SHD_STS, TON_SHD_CTL, List.mem_cons, List.not_mem_nil, or_false]
      omega
    · exact (shSt_setShSt _ _ hc hc (by decide)).trans (if_pos rfl)
  · have hexec := (exec_shadowWrite ha hc hmem hshd hopens hodd hcheck).trans (congrArg Host.Outcome.next (if_pos hst))
    refine ⟨_, hexec, ?_, onlyRegs_trans (onlyRegs_inc ..) (onlyRegs_setF ..) (by simp) (by simp)⟩
    exact (rdN_setF_ne _ _ _ _ _ (by simp [TON_SHD_REJ_CNT, TON_STS])).trans (rdN_inc ..)
  · have hexec : hostWr (TON_SHD_CTL y) (shdCtlWrite y v) s = (sealsWritten y v s).setF (TON_SHD_CTL y) TON_SHD_CTL_SEAL_EN (bits v 7 4) :=
      hostWr_of_opens hopens _
    refine ⟨_, congrArg Host.Outcome.next hexec, fun c hc => ?_, ?_,
      onlyRegs_trans (onlyRegs_sealsWritten y v s) (onlyRegs_setF ..) (List.Subset.refl _) (by simp)⟩
    · exact (shSt_of_rd (rd_setF_ne _ _ _ _ _ (by simp [TON_SHD_STS, TON_SHD_CTL])) c).trans (shSt_sealsWritten y v s hc)
    · exact (fld_setF _ _ _ _ (by decide)).trans (Nat.mod_eq_of_lt (bits_lt ..))
  · subst hh
    have hexec := (hostWr_of_opens hopens _).trans (hoCmd_of_free hm hrun hpend hlead)
    have hkeeps (u : State) : u.keeps ((u.setF (TON_HO_STS y) TON_HO_STS_PENDING 1).status (TON_HO_STS y) 0) [TON_HO_STS y] :=
      (onlyRegs_trans (onlyRegs_setF ..) (onlyRegs_status ..) (List.Subset.refl _) (List.Subset.refl _)).2
    refine ⟨_, congrArg Host.Outcome.next hexec, rfl, beq_iff_eq.mpr ?_, fld_status .., hkeeps _, rfl⟩
    exact (fld_setF_beside _ _ _ _ _ (by decide) (by decide) (by decide)).trans (fld_setF _ _ _ _ (by decide))
  · have hexec := (hostWr_of_opens hopens _).trans (hoCmd_of_pending hm hrun hpend)
    exact ⟨_, congrArg Host.Outcome.next hexec, fld_status .., (congrArg (· == 1)
      (fld_setF_beside _ _ _ _ _ (by decide) (by decide) (by decide))).trans hpend, onlyRegs_status ..⟩
  · rw [outTick_eq k i ts s hy hcfg hv hcode]
    obtain ⟨u, hu⟩ : ∃ u, u = feed (64 * k + i) code (s.clock.now + 256 - interpDelay) s := ⟨_, rfl⟩
    obtain ⟨hfed, hline, hregs, huframe⟩ := feed_spec _ _ _ _ hu
    rw [← hu]
    obtain ⟨hframe, hkeeps⟩ := onlyRegs_clipCounted (clipCnt k y) y (!decide (-8191 ≤ v ∧ v ≤ 8191)) u
    have hton := ton_clipCounted (clipCnt k y) y (!decide (-8191 ≤ v ∧ v ≤ 8191)) u
    have hrd (a : Nat) : u.rd a = s.rd a := congrArg (sget resetVal · a) hregs
    refine ⟨(congrArg (fun x : Ton => tget x.fed (64 * k + i)) hton).trans hfed, (congrArg Ton.line hton).trans hline, ?_,
      fun a ha => (hkeeps a ha).trans (hrd a), ?_⟩
    · refine (rdN_clipCounted (clipCnt_ne_sts k y) _ u).trans ?_
      rw [State.rdN, hrd]
      by_cases hin : -8191 ≤ v ∧ v ≤ 8191
      · rw [decide_eq_true hin, if_pos hin]
        rfl
      · rw [decide_eq_false hin, if_neg hin]
        rfl
    · exact (congrArg (fun x : State => { x with regs := s.regs, ton := s.ton }) hframe).trans
        (congrArg (fun x : State => { x with regs := s.regs }) huframe)

end Sys2Proof.Laws
end

section
namespace Sys2Proof.Laws
open Sys2Proof.Machine

-- One theorem after another: a thread for each of them passes the memory limit of the check.
set_option Elab.async false

/-! ### A set in the reserved state -/

/-- The part after reset, but TB1 runs, a hand-over of class 0 of yard 0 is due, and the SSTATE of that class reads 0b11, which the register
table reserves. -/
def reservedSetDue : State :=
  { (State.reset.setF STAY_STS STAY_STS_TB1STATE tbRUNNING).wrN (TON_SHD_STS 0) 3 with
    ton := { State.reset.ton with hos := [⟨0, 0, 1, true⟩] } }

theorem shSt_reservedSetDue : reservedSetDue.shSt 0 0 = 3 := by decide +kernel

theorem willMake_reservedSetDue : reservedSetDue.willMake 0 0 = false := by decide +kernel

theorem shSt_handover_reservedSetDue : (handover 0 reservedSetDue).shSt 0 0 = shCLEAN := by decide +kernel

/-- Refutes O26: its first clause says that a class which `willMake` does not name keeps its state, and no hypothesis leaves out the reserved
SSTATE 0b11. `willMake` does not name it, but `handClass` takes every set that is neither CLEAN nor OPEN with SEAL_EN for one to hand over:
in `reservedSetDue` the set becomes CLEAN. The model itself gives `setShSt`
only CLEAN, OPEN and SEALED, so that the clause fails on a state that its commands do not leave. -/
theorem not_handOverMakesShadowCopiesActive : ¬ Obligations.HandOverMakesShadowCopiesActive := by
  rintro ⟨htick, -⟩
  obtain ⟨t, hexec, -, hkept, -⟩ := htick reservedSetDue 0 (by decide) (by decide +kernel)
  obtain rfl : handover 0 reservedSetDue = t := Host.Outcome.next.inj hexec
  obtain ⟨-, hstate⟩ := hkept 0 (by decide) (.inr (.inr willMake_reservedSetDue))
  rw [shSt_handover_reservedSetDue, shSt_reservedSetDue] at hstate
  exact absurd hstate (by decide)

end Sys2Proof.Laws
end

section
namespace Sys2Proof.Laws
open Sys2Proof.Machine

-- One theorem after another: a thread for each of them passes the memory limit of the check.
set_option Elab.async false

/-! ### BSTATE and SLEWING of a bias source (R235, R242, Table 7-4) -/

theorem biaCode_ne_biaSts (y : Nat) : BIA_CODE y ≠ BIA_STS y := by unfold BIA_CODE BIA_STS; omega
theorem biaAct_ne_biaSts (y : Nat) : BIA_ACT y ≠ BIA_STS y := by unfold BIA_ACT BIA_STS; omega
theorem biaAct_ne_biaCode (y : Nat) : BIA_ACT y ≠ BIA_CODE y := by unfold BIA_ACT BIA_CODE; omega
theorem biaEvtCnt_ne_biaSts (y : Nat) : BIA_EVT_CNT y ≠ BIA_STS y := by unfold BIA_EVT_CNT BIA_STS; omega

theorem onlyRegs_biaRefresh (y : Nat) (s : State) : s.onlyRegs (biaRefresh y s) [BIA_STS y] :=
  onlyRegs_trans (onlyRegs_setF ..) (onlyRegs_setF ..) (List.Subset.refl _) (List.Subset.refl _)

/-- The fields of BIA_STS beside BSTATE and SLEWING stay. -/
theorem fld_biaRefresh_beside (y : Nat) (s : State) {g : Fld} (hg : g.1 + g.2 ≤ 64)
    (hb : BIA_STS_BSTATE.1 + BIA_STS_BSTATE.2 ≤ g.1 ∨ g.1 + g.2 ≤ BIA_STS_BSTATE.1)
    (hs : BIA_STS_SLEWING.1 + BIA_STS_SLEWING.2 ≤ g.1 ∨ g.1 + g.2 ≤ BIA_STS_SLEWING.1) :
    (biaRefresh y s).fld (BIA_STS y) g = s.fld (BIA_STS y) g :=
  (fld_setF_beside _ _ _ _ _ (by decide) hg hs).trans (fld_setF_beside _ _ _ _ _ (by decide) hg hb)

/-- SLEWING says whether the code in force differs from the target. -/
theorem slewing_biaRefresh (y : Nat) (s : State) :
    (biaRefresh y s).fld (BIA_STS y) BIA_STS_SLEWING = 1 ↔ s.biaAct y ≠ s.biaTarget y := by
  refine beq_iff_eq.symm.trans ?_
  rw [show ((biaRefresh y s).fld (BIA_STS y) BIA_STS_SLEWING == 1) = (s.biaAct y != s.biaTarget y) from flag_setF_b01 _ _ 4 _ (by decide)]
  exact bne_iff_ne

/-- The source delivers its code: enabled by the image, not latched, in service, and the device in READY or RUN. -/
structure BiaOn (s : State) (y : Nat) : Prop where
  enabled : s.biaEn y = true
  unlatched : s.flag (BIA_STS y) BIA_STS_LATCHED = false
  inService : s.trimBad (0x160 + y) = false
  dev : s.dev = dREADY ∨ s.dev = dRUN

theorem biaTarget_of_on {s : State} {y : Nat} (h : BiaOn s y) : s.biaTarget y = s.biaCode y := by
  obtain ⟨hen, hlatch, htrim, hdev⟩ := h
  simp [State.biaTarget, hen, hlatch, htrim, hdev]

theorem bstate_biaRefresh_of_on {s : State} {y : Nat} (h : BiaOn s y) : (biaRefresh y s).fld (BIA_STS y) BIA_STS_BSTATE = 2 := by
  obtain ⟨hen, hlatch, htrim, hdev⟩ := h
  have hlate : ¬(s.dev = dBOOT ∨ s.dev = dCONFIG ∨ s.dev = dCAL) := by
    rcases hdev with hdev | hdev
    · rw [hdev]; decide
    · rw [hdev]; decide
  refine (fld_setF_beside _ _ _ _ _ (by decide) (by decide) (by decide)).trans ((fld_setF _ _ _ _ (by decide)).trans ?_)
  simp only [not_or] at hlate
  simp [hen, hlatch, htrim, hlate, BIA_STS_BSTATE]

/-- What a source depends on beside its own BIA_CODE and BIA_STS is not touched by writes of these two. -/
theorem BiaOn.of_onlyRegs {s t : State} {y : Nat} {as : List Nat} (h : s.onlyRegs t as) (has : as ⊆ [BIA_CODE y, BIA_STS y])
    (hen : s.biaEn y = true) (htrim : s.trimBad (0x160 + y) = false) (hdev : s.dev = dREADY ∨ s.dev = dRUN)
    (hlatch : t.flag (BIA_STS y) BIA_STS_LATCHED = false) : BiaOn t y := by
  have hrd {a : Nat} (ha : a ≠ BIA_CODE y ∧ a ≠ BIA_STS y) : t.rd a = s.rd a :=
    h.2 a fun hmem => by simpa [ha.1, ha.2] using has hmem
  have hcsts : t.rd (TRIM_CSTS (0x160 + y)) = s.rd (TRIM_CSTS (0x160 + y)) := hrd (by unfold TRIM_CSTS BIA_CODE BIA_STS; omega)
  have hglb : t.rd GLB_STATE = s.rd GLB_STATE := hrd (by unfold GLB_STATE BIA_CODE BIA_STS; omega)
  refine ⟨?_, hlatch, ?_, ?_⟩
  · rwa [State.biaEn, State.comp, img_of_onlyRegs h]
  · rwa [State.trimBad, State.flag, State.fld, State.fld, hcsts]
  · rwa [State.dev, State.fld, hglb]

/-! ### BIA_CODE_WRITE and BIAS_LATCH_RELEASE (R231, R232, R234, R242) -/

theorem sgn_mod (w n : Nat) : sgn w (n % 2 ^ w) = sgn w n := by simp only [sgn, Nat.mod_mod]

theorem rdN_biaCode_biaCodeSet (y v : Nat) (s : State) : (biaCodeSet y v s).rdN (BIA_CODE y) = v % 2 ^ 20 := by
  have hrd : (biaCodeSet y v s).rdN (BIA_CODE y) = (s.wrN (BIA_CODE y) (v % 2 ^ 20)).rdN (BIA_CODE y) :=
    congrArg BitVec.toNat ((onlyRegs_biaRefresh y _).2 _ (by simpa using biaCode_ne_biaSts y))
  rw [hrd, rdN_wrN]
  omega

theorem onlyRegs_biaCodeSet (y v : Nat) (s : State) : s.onlyRegs (biaCodeSet y v s) [BIA_CODE y, BIA_STS y] :=
  onlyRegs_trans (onlyRegs_wr ..) (onlyRegs_biaRefresh ..) (by simp) (by simp)

/-- Of a code written only the low 20 bits count. -/
theorem biaCode_wrN (y v : Nat) (s : State) : (s.wrN (BIA_CODE y) (v % 2 ^ 20)).biaCode y = sgn 20 v := by
  rw [State.biaCode, rdN_wrN, show v % 2 ^ 20 % 2 ^ 64 = v % 2 ^ 20 by omega, sgn_mod]

/-- A register written with what stands in it. -/
theorem onlyRegs_wr_self (s : State) (a : Nat) : s.onlyRegs (s.wr a (s.rd a)) [] := by
  refine ⟨rfl, fun b _ => (rd_wr ..).trans ?_⟩
  split
  · next h => rw [h]
  · rfl

theorem biaCodeHost_of_not_setrNow {s : State} {y : Nat} (h : s.setrNow (BIA_CODE y) = false) (v : Nat) :
    biaCodeHost y v s = biaCodeSet y v s := if_neg (by simp [h])

theorem hostWr_biaCodeHost_of_setrNow {s : State} {y : Nat} (hbar : s.barUp = true) (hpage : s.pageBusy (BIA_CODE y) = false)
    (hseal : s.sealedBy (BIA_CODE y) = none) (hsetr : s.setrNow (BIA_CODE y) = true) (v : Nat) :
    hostWr (BIA_CODE y) (biaCodeHost y v) s = s.wr (BIA_CODE y) (s.rd (BIA_CODE y)) := by
  simp [hostWr, biaCodeHost, hbar, hpage, hseal, hsetr]

theorem onlyRegs_unlatched (y : Nat) (s : State) :
    s.onlyRegs (biaRefresh y (s.setF (BIA_STS y) BIA_STS_LATCHED 0)) [BIA_STS y] :=
  onlyRegs_trans (onlyRegs_setF ..) (onlyRegs_biaRefresh ..) (List.Subset.refl _) (List.Subset.refl _)

/-! ### Entries into COMPLIANCE and OPEN (R241, R242) -/

/-- The bit of BIA_STS that remembers an entry. -/
def biaSeen (load : Nat) : Fld := if load = 1 then BIA_STS_COMPL_SEEN else BIA_STS_OPEN_SEEN

/-- The code that reports an entry. -/
def biaEntryCode (load : Nat) : Nat := if load = 1 then E_BIA_COMPLIANCE else E_BIA_OPEN

/-- LOAD shows the entry, its bit remembers it, and it is counted and reported (R241). -/
def biaEntered (y load : Nat) (s : State) : State :=
  (((s.setF (BIA_STS y) BIA_STS_LOAD load).setF (BIA_STS y) (biaSeen load) 1).inc (BIA_EVT_CNT y)).report (biaEntryCode load) y y

/-- FLT_ACT latches the source (R242). -/
def biaFaultAct (y : Nat) (s : State) : State :=
  if s.actF (BIA_CFG y) BIA_CFG_FLT_ACT = 1 then biaRefresh y (s.setF (BIA_STS y) BIA_STS_LATCHED 1) else s

theorem biaEntry_of_enabled {s : State} {y load : Nat} (hen : s.biaEn y = true) (hload : s.fld (BIA_STS y) BIA_STS_LOAD ≠ load) :
    biaEntry y load s = biaFaultAct y (biaEntered y load s) :=
  if_neg (by simp [hen, hload])

/-- The count and the report of an entry do not touch BIA_STS. -/
theorem fld_biaEntered (y load : Nat) (s : State) (g : Fld) :
    (biaEntered y load s).fld (BIA_STS y) g = ((s.setF (BIA_STS y) BIA_STS_LOAD load).setF (BIA_STS y) (biaSeen load) 1).fld (BIA_STS y) g :=
  fld_inc_ne _ _ _ _ (biaEvtCnt_ne_biaSts y).symm

theorem onlyRegs_biaFaultAct (y : Nat) (s : State) : s.onlyRegs (biaFaultAct y s) [BIA_STS y] :=
  onlyRegs_ite (onlyRegs_trans (onlyRegs_setF ..) (onlyRegs_biaRefresh ..) (List.Subset.refl _) (List.Subset.refl _)) (onlyRegs_rfl ..)

/-- Latching leaves LOAD and the bits that remember entries. -/
theorem fld_biaFaultAct (y : Nat) (s : State) {g : Fld} (hg : g ∈ [BIA_STS_LOAD, BIA_STS_COMPL_SEEN, BIA_STS_OPEN_SEEN]) :
    (biaFaultAct y s).fld (BIA_STS y) g = s.fld (BIA_STS y) g := by
  have hbeside : ∀ g ∈ [BIA_STS_LOAD, BIA_STS_COMPL_SEEN, BIA_STS_OPEN_SEEN], g.1 + g.2 ≤ 64
      ∧ (BIA_STS_BSTATE.1 + BIA_STS_BSTATE.2 ≤ g.1 ∨ g.1 + g.2 ≤ BIA_STS_BSTATE.1)
      ∧ (BIA_STS_SLEWING.1 + BIA_STS_SLEWING.2 ≤ g.1 ∨ g.1 + g.2 ≤ BIA_STS_SLEWING.1)
      ∧ (BIA_STS_LATCHED.1 + BIA_STS_LATCHED.2 ≤ g.1 ∨ g.1 + g.2 ≤ BIA_STS_LATCHED.1) := by decide
  obtain ⟨h64, hbstate, hslewing, hlatched⟩ := hbeside g hg
  unfold biaFaultAct
  split
  · exact (fld_biaRefresh_beside y _ h64 hbstate hslewing).trans (fld_setF_beside _ _ _ _ _ (by decide) h64 hlatched)
  · rfl

theorem latched_biaFaultAct_of_act {s : State} {y : Nat} (h : s.actF (BIA_CFG y) BIA_CFG_FLT_ACT = 1) :
    (biaFaultAct y s).flag (BIA_STS y) BIA_STS_LATCHED = true := by
  rw [biaFaultAct, if_pos h]
  exact beq_iff_eq.mpr ((fld_biaRefresh_beside y _ (by decide) (by decide) (by decide)).trans (fld_setF _ _ _ _ (by decide)))

/-- What an entry into COMPLIANCE (1) or OPEN (2) does. -/
theorem biaEntry_spec {s t : State} {y load : Nat} (hl : load = 1 ∨ load = 2) (hen : s.biaEn y = true)
    (hload : s.fld (BIA_STS y) BIA_STS_LOAD ≠ load) (ht : t = biaEntry y load s) :
    t.fld (BIA_STS y) BIA_STS_LOAD = load ∧ t.flag (BIA_STS y) (biaSeen load) = true
      ∧ t.rdN (BIA_EVT_CNT y) = min 0xFFFFFFFF (s.rdN (BIA_EVT_CNT y) + 1)
      ∧ t.bus = { s.bus with reports := s.bus.reports ++ [⟨biaEntryCode load, false, y, y⟩] }
      ∧ (s.actF (BIA_CFG y) BIA_CFG_FLT_ACT = 1 → t.flag (BIA_STS y) BIA_STS_LATCHED = true)
      ∧ (s.actF (BIA_CFG y) BIA_CFG_FLT_ACT ≠ 1 → t.flag (BIA_STS y) BIA_STS_LATCHED = s.flag (BIA_STS y) BIA_STS_LATCHED)
      ∧ s.keeps t [BIA_STS y, BIA_EVT_CNT y] ∧ { t with regs := s.regs, bus := s.bus } = s := by
  obtain ⟨u, hu⟩ : ∃ u, u = biaEntered y load s := ⟨_, rfl⟩
  rw [biaEntry_of_enabled hen hload, ← hu] at ht
  subst ht
  have hseen : biaSeen load ∈ [BIA_STS_LOAD, BIA_STS_COMPL_SEEN, BIA_STS_OPEN_SEEN]
      ∧ (biaSeen load).1 + (biaSeen load).2 ≤ 64 ∧ 5 ≤ (biaSeen load).1 ∧ (biaSeen load).1 + (biaSeen load).2 ≤ 7
      ∧ 1 % 2 ^ (biaSeen load).2 = 1 ∧ load % 2 ^ 2 = load := by
    rcases hl with rfl | rfl
    · decide
    · decide
  obtain ⟨hmem, h64, hlow, hhigh, hone, hfits⟩ := hseen
  obtain ⟨hframe, hkeeps⟩ := onlyRegs_biaFaultAct y u
  have hfld (g : Fld) := fld_biaEntered y load s g
  have hact : u.act = s.act := hu ▸ rfl
  refine ⟨?_, ?_, ?_, ?_, fun h => latched_biaFaultAct_of_act ?_, fun h => ?_, fun a ha => ?_, ?_⟩
  · rw [fld_biaFaultAct y u (by simp), hu, hfld, fld_setF_beside _ _ _ _ _ h64 (by decide) (.inr (Nat.le_trans (by decide) hlow))]
    exact (fld_setF _ _ _ _ (by decide)).trans hfits
  · refine beq_iff_eq.mpr ?_
    rw [fld_biaFaultAct y u hmem, hu, hfld]
    exact (fld_setF _ _ _ _ h64).trans hone
  · refine (congrArg BitVec.toNat (hkeeps _ (by simpa using biaEvtCnt_ne_biaSts y))).trans ?_
    subst hu
    refine (rdN_inc ..).trans ?_
    rw [rdN_setF_ne _ _ _ _ _ (biaEvtCnt_ne_biaSts y), rdN_setF_ne _ _ _ _ _ (biaEvtCnt_ne_biaSts y)]
  · subst hu
    exact (congrArg State.bus hframe :)
  · rwa [State.actF, State.actRd, hact]
  · rw [biaFaultAct, if_neg (by rwa [State.actF, State.actRd, hact]), State.flag, hu, hfld,
      fld_setF_beside _ _ _ _ _ h64 (by decide) (.inl hhigh), fld_setF_beside _ _ _ _ _ (by decide) (by decide) (by decide)]
    rfl
  · simp only [List.mem_cons, List.not_mem_nil, or_false, not_or] at ha
    obtain ⟨hsts, hcnt⟩ := ha
    subst hu
    exact (hkeeps a (by simpa using hsts)).trans
      ((rd_inc_ne _ _ _ hcnt).trans ((rd_setF_ne _ _ _ _ _ hsts).trans (rd_setF_ne _ _ _ _ _ hsts)))
  · subst hu
    exact (congrArg (fun x : State => { x with regs := s.regs, bus := s.bus }) hframe :)

/-! ### The clauses of O22 -/

/-- Settles O22: a code write and a release of the latch are a write and `biaRefresh`, which shows the target of `biaTarget_of_on`; in the
ft of a BIAS release the write puts back what stands; the end of a slew and a normal load write one field of BIA_STS; an entry into
COMPLIANCE or OPEN is `biaEntry_spec`. -/
theorem biasSourcesTakeCodesAndReportLoads : Obligations.BiasSourcesTakeCodesAndReportLoads := by
  refine ⟨fun s y v hopens hen hlatch htrim hdev => ?_, fun s y v hbar hpage hseal hsetr => ?_, fun s y htarget => ?_, fun s y hen hload => ?_,
    fun s y hen hload hol hlarge => ?_, fun s y hsmall => ?_, fun s y => ?_, fun s y hopens hlatch hen htrim hdev => ?_⟩
  · have ⟨_, _, _, hsetr⟩ := hopens
    have hexec := (hostWr_of_opens hopens (biaCodeHost y v)).trans (biaCodeHost_of_not_setrNow hsetr v)
    have hon : BiaOn (s.wrN (BIA_CODE y) (v % 2 ^ 20)) y := BiaOn.of_onlyRegs (onlyRegs_wr ..) (by simp) hen htrim hdev
      ((congrArg (· == 1) (fld_wr_ne _ _ _ _ _ (biaCode_ne_biaSts y).symm)).trans hlatch)
    have hact : (s.wrN (BIA_CODE y) (v % 2 ^ 20)).biaAct y = s.biaAct y :=
      congrArg (fun w : Word => sgn 20 w.toNat) (rd_wrN_ne _ _ _ _ (biaAct_ne_biaCode y))
    have honly := onlyRegs_biaCodeSet y v s
    refine ⟨_, congrArg Host.Outcome.next hexec, rdN_biaCode_biaCodeSet y v s,
      honly.2 _ (by simp [biaAct_ne_biaSts, biaAct_ne_biaCode]), bstate_biaRefresh_of_on hon, ?_, honly⟩
    refine (slewing_biaRefresh y _).trans ?_
    rw [biaTarget_of_on hon, biaCode_wrN, hact, State.biaAct]
  · exact ⟨_, congrArg Host.Outcome.next (hostWr_biaCodeHost_of_setrNow hbar hpage hseal hsetr v), onlyRegs_wr_self ..⟩
  · have hexec : biaSlewEnd y s = s.setF (BIA_STS y) BIA_STS_SLEWING 0 := if_pos htarget
    exact ⟨_, congrArg Host.Outcome.next hexec, fld_setF _ _ _ _ (by decide), onlyRegs_setF ..⟩
  · exact ⟨_, rfl, biaEntry_spec (.inl rfl) hen hload rfl⟩
  · have hexec : biaOpen y s = biaEntry y 2 s := if_pos ⟨hol, hlarge⟩
    obtain ⟨hshown, hseen, hcount, hreport, -, -, hkeeps, hframe⟩ := biaEntry_spec (.inr rfl) hen hload rfl
    exact ⟨_, congrArg Host.Outcome.next hexec, hshown, hseen, hcount, hreport, hkeeps, hframe⟩
  · have hexec : biaOpen y s = biaCompliance y s := if_neg fun ⟨hol, hlarge⟩ => by
      rcases hsmall with hoff | hsmall
      · exact hoff hol
      · rw [hsmall] at hlarge
        exact Bool.false_ne_true hlarge
    exact congrArg Host.Outcome.next hexec
  · exact ⟨_, rfl, fld_setF _ _ _ _ (by decide),
      congrArg (· == 1) (fld_setF_beside _ _ _ _ _ (by decide) (by decide) (by decide)), onlyRegs_setF ..⟩
  · have hexec : hostWr (BIA_STS y) (biaRelease y) s = biaRefresh y (s.setF (BIA_STS y) BIA_STS_LATCHED 0) :=
      (hostWr_of_opens hopens _).trans (if_pos hlatch)
    have hlow : (s.setF (BIA_STS y) BIA_STS_LATCHED 0).flag (BIA_STS y) BIA_STS_LATCHED = false := flag_setF_b01 _ _ 7 false (by decide)
    have hon := BiaOn.of_onlyRegs (y := y) (onlyRegs_setF s _ BIA_STS_LATCHED 0) (by simp) hen htrim hdev hlow
    have hact : (s.setF (BIA_STS y) BIA_STS_LATCHED 0).biaAct y = s.biaAct y :=
      congrArg (sgn 20) (rdN_setF_ne _ _ _ _ _ (biaAct_ne_biaSts y))
    have hcode : (s.setF (BIA_STS y) BIA_STS_LATCHED 0).biaCode y = s.biaCode y :=
      congrArg (sgn 20) (rdN_setF_ne _ _ _ _ _ (biaCode_ne_biaSts y))
    have hkept : (biaRefresh y (s.setF (BIA_STS y) BIA_STS_LATCHED 0)).fld (BIA_STS y) BIA_STS_LATCHED
        = (s.setF (BIA_STS y) BIA_STS_LATCHED 0).fld (BIA_STS y) BIA_STS_LATCHED :=
      fld_biaRefresh_beside y _ (by decide) (by decide) (by decide)
    refine ⟨_, congrArg Host.Outcome.next hexec, (congrArg (· == 1) hkept).trans hlow, bstate_biaRefresh_of_on hon, ?_, onlyRegs_unlatched y s⟩
    refine (slewing_biaRefresh y _).trans ?_
    rw [biaTarget_of_on hon, hact, hcode]

end Sys2Proof.Laws
end

section
namespace Sys2Proof.Laws
open Sys2Proof.Machine

-- One theorem after another: a thread for each of them passes the memory limit of the check.
set_option Elab.async false

/-! ### What the converter commands change of the state: converters and registers

`CnvTurn as s₀ s` says that `s` comes from `s₀` with changes to the registers of `as` and to chapters 8 to 10's own part only. As with
`HalTurn`, the lemma of an operation `f` is `CnvTurn.f : CnvTurn as s₀ s → CnvTurn as s₀ (f s)`. -/

def CnvTurn (as : List Nat) (s t : State) : Prop := s.keeps t as ∧ { t with regs := s.regs, cnv := s.cnv } = s

theorem CnvTurn.rfl {as : List Nat} {s : State} : CnvTurn as s s := ⟨fun _ _ => Eq.refl _, Eq.refl _⟩

section
variable {as : List Nat} {s₀ s : State}

theorem CnvTurn.wr {a : Nat} {v : Word} (h : CnvTurn as s₀ s) (ha : a ∈ as) : CnvTurn as s₀ (s.wr a v) := by
  obtain ⟨hkeeps, hframe⟩ := h
  exact ⟨fun b hb => (rd_wr_ne s a b v fun e => hb (e ▸ ha)).trans (hkeeps b hb), hframe⟩

theorem CnvTurn.withCnv {v : Cnv} (h : CnvTurn as s₀ s) : CnvTurn as s₀ { s with cnv := v } := h
theorem CnvTurn.setAdc {k : Nat} {x : Adc} (h : CnvTurn as s₀ s) : CnvTurn as s₀ (s.setAdc k x) := h
theorem CnvTurn.setDem {y c : Nat} {x : Dem} (h : CnvTurn as s₀ s) : CnvTurn as s₀ (s.setDem y c x) := h
theorem CnvTurn.setMon {m : Nat} {x : Mon} (h : CnvTurn as s₀ s) : CnvTurn as s₀ (s.setMon m x) := h

theorem CnvTurn.ite {t u : State} {c : Prop} [Decidable c] (ht : CnvTurn as s₀ t) (hu : CnvTurn as s₀ u) :
    CnvTurn as s₀ (if c then t else u) := by
  split
  · exact ht
  · exact hu

end

/-- A state that differs from another in registers only comes from it so. -/
theorem CnvTurn.of_onlyRegs {as : List Nat} {s t : State} (h : s.onlyRegs t as) : CnvTurn as s t := by
  obtain ⟨hframe, hkeeps⟩ := h
  exact ⟨hkeeps, (congrArg (fun u : State => { u with cnv := s.cnv }) hframe :)⟩

theorem CnvTurn.trans {as : List Nat} {s t u : State} (h : CnvTurn as s t) (k : CnvTurn as t u) : CnvTurn as s u := by
  obtain ⟨hst, hframe⟩ := h
  obtain ⟨htu, kframe⟩ := k
  exact ⟨fun a ha => (htu a ha).trans (hst a ha),
    (congrArg (fun x : State => { x with regs := s.regs, cnv := s.cnv }) kframe).trans hframe⟩

theorem CnvTurn.mono {as bs : List Nat} {s t : State} (h : CnvTurn as s t) (hsub : as ⊆ bs) : CnvTurn bs s t :=
  ⟨fun a ha => h.1 a fun hmem => ha (hsub hmem), h.2⟩

/-- One more register written. -/
theorem onlyRegs_andWr {as : List Nat} {s t : State} {a : Nat} {v : Word} (h : s.onlyRegs t as) (ha : a ∈ as) : s.onlyRegs (t.wr a v) as :=
  onlyRegs_trans h (onlyRegs_wr t a v) (List.Subset.refl _) (by simpa using ha)

theorem cnv_of_onlyRegs {s t : State} {as : List Nat} (h : s.onlyRegs t as) : t.cnv = s.cnv := (congrArg State.cnv h.1 :)

theorem clock_of_onlyRegs {s t : State} {as : List Nat} (h : s.onlyRegs t as) : t.clock = s.clock := (congrArg State.clock h.1 :)

/-- A request that meets no foreign owner leaves no record (R69). -/
theorem denyIf_zero (s : State) (cls inst rkind rindex : Nat) : s.denyIf 0 cls inst rkind rindex = s := rfl

theorem onlyRegs_denyIf (s : State) (code cls inst rkind rindex : Nat) :
    s.onlyRegs (s.denyIf code cls inst rkind rindex) [IMG_DENY, IMG_DENY_CNT] := by
  unfold State.denyIf State.when
  split
  · exact onlyRegs_andWr (onlyRegs_andWr (onlyRegs_rfl ..) (by simp)) (by simp)
  · exact onlyRegs_rfl ..

/-! ### Fields of a value as a write stores it (R11) -/

/-- A field that software writes reads as the bits written. -/
theorem getF_masked (old mask : Word) (v : Nat) {f : Fld} (hf : f.1 + f.2 ≤ 64) (hmask : (mask >>> f.1) &&& lowMask f.2 = lowMask f.2) :
    getF ((old &&& ~~~mask) ||| (BitVec.ofNat 64 v &&& mask)) f = v / 2 ^ f.1 % 2 ^ f.2 := by
  have hsame : (((old &&& ~~~mask) ||| (BitVec.ofNat 64 v &&& mask)) >>> f.1) &&& lowMask f.2
      = (BitVec.ofNat 64 (v % 2 ^ 64) >>> f.1) &&& lowMask f.2 := by
    have hword : BitVec.ofNat 64 (v % 2 ^ 64) = BitVec.ofNat 64 v := BitVec.eq_of_toNat_eq (by simp)
    apply BitVec.eq_of_getLsbD_eq
    intro i hi
    rw [hword]
    have hbit := congrArg (·.getLsbD i) hmask
    simp only [BitVec.getLsbD_and, BitVec.getLsbD_or, BitVec.getLsbD_not, BitVec.getLsbD_ushiftRight] at hbit ⊢
    cases hlow : (lowMask f.2).getLsbD i with
    | false => simp
    | true =>
      rw [hlow, Bool.and_true] at hbit
      simp [hbit]
  refine (congrArg BitVec.toNat hsame).trans ((getF_ofNat (Nat.mod_lt _ (by decide)) f (by omega)).trans ?_)
  have hsplit : 2 ^ 64 = 2 ^ f.1 * 2 ^ (64 - f.1) := by rw [← Nat.pow_add]; congr 1; omega
  rw [hsplit, Nat.mod_mul_right_div_self, Nat.mod_mod_of_dvd _ (Nat.pow_dvd_pow 2 (by omega))]

theorem fld_wrRW (s : State) (v : Nat) {a : Nat} {mask : Word} {f : Fld} (ha : rwMask a = mask) (hf : f.1 + f.2 ≤ 64)
    (hmask : (mask >>> f.1) &&& lowMask f.2 = lowMask f.2) : (s.wrRW a v).fld a f = v / 2 ^ f.1 % 2 ^ f.2 := by
  rw [State.fld, rd_wrRW_same, ha, getF_masked _ _ _ hf hmask]

theorem flag_wrRW (s : State) (v : Nat) {a i : Nat} {mask : Word} (ha : rwMask a = mask) (hi : i < 64)
    (hmask : (mask >>> i) &&& lowMask 1 = lowMask 1) : (s.wrRW a v).flag a (i, 1) = bit v i := by
  rw [State.flag, fld_wrRW (f := (i, 1)) s v ha hi hmask, bit, Nat.testBit_eq_decide_div_mod_eq]
  exact beq_eq_decide ..

/-! ### Registers that each yard has -/

/-- The rows of the yard pages. -/
def yardRows : List RegRow := rows_yard_0 ++ rows_yard_1 ++ rows_yard_2 ++ rows_yard_3 ++ rows_yard_4 ++ rows_yard_5

/-- A row of the yard pages covers an address in every yard or in none. -/
def sameInYards (a : Nat) (r : RegRow) : Bool :=
  match r.strides with
  | (st, n) :: rest => st == 0x40000 && n == 64 && decide (a < r.base + 0x40000) && decide (r.base < a + 0x40000)
      && (decide (r.base ≤ a) || !onStrides (a + 0x40000 - r.base) rest)
  | [] => false

theorem covers_of_sameInYards {a y : Nat} {r : RegRow} (hy : y < 64) (h : sameInYards a r = true) :
    (decide (r.base ≤ a + 0x40000 * y) && onStrides (a + 0x40000 * y - r.base) r.strides)
      = (decide (r.base ≤ a) && onStrides (a - r.base) r.strides) := by
  unfold sameInYards at h
  split at h
  · next st n rest hst =>
    simp only [Bool.and_eq_true, Bool.or_eq_true, beq_iff_eq, decide_eq_true_eq, Bool.not_eq_true'] at h
    obtain ⟨⟨⟨⟨rfl, rfl⟩, hlow⟩, hhigh⟩, hcov⟩ := h
    rw [hst, onStrides, onStrides]
    by_cases hle : r.base ≤ a
    · have hquot : (a + 0x40000 * y - r.base) / 0x40000 < 64 ∧ (a - r.base) / 0x40000 < 64 := by omega
      have hrem : (a + 0x40000 * y - r.base) % 0x40000 = (a - r.base) % 0x40000 := by omega
      simp [hle, hquot, hrem, show r.base ≤ a + 0x40000 * y by omega]
    · have hnone := hcov.resolve_left hle
      cases y with
      | zero => simp
      | succ z =>
        have hrem : (a + 0x40000 * (z + 1) - r.base) % 0x40000 = a + 0x40000 - r.base := by omega
        simp [hle, hrem, hnone]
  · cases h

/-- A register that each yard has stands in the same row in each. -/
theorem regRow_yard {a y : Nat} (hy : y < 64) (hlow : 0x1000000 ≤ a) (hhigh : a < 0x1040000) (h : yardRows.all (sameInYards a) = true) :
    regRow (a + 0x40000 * y) = regRow a := by
  have hrows {b : Nat} (hb : 0x1000000 ≤ b ∧ b < 0x2000000) :
      regRow b = yardRows.find? fun r => decide (r.base ≤ b) && onStrides (b - r.base) r.strides := by
    rw [regRow, if_neg (by omega), rowsOf, if_neg (by omega), if_pos hb.1, yardRows]
  rw [hrows ⟨by omega, by omega⟩, hrows ⟨hlow, by omega⟩]
  exact List.find?_congr fun r hr => covers_of_sameInYards hy (List.all_eq_true.mp h r hr)

/-! ### The pages of the converters (Table 8-11) -/

theorem convPage_readOut {k : Nat} (hk : k < 32) : convPage k = CNV_CFG (k / 8) (k % 8) := if_pos hk

theorem convPage_monitor (m : Nat) : convPage (32 + m) = MON_CTL (m / 4) (m % 4) := by
  rw [convPage, if_neg (by omega), Nat.add_sub_cancel_left]

theorem cnvSts_eq {k : Nat} (hk : k < 32) : CNV_STS (k / 8) (k % 8) = convPage k + 4 := by
  rw [convPage_readOut hk]; unfold CNV_STS CNV_CFG; omega

theorem cnvClipCnt_eq {k : Nat} (hk : k < 32) : CNV_CLIP_CNT (k / 8) (k % 8) = convPage k + 0x10 := by
  rw [convPage_readOut hk]; unfold CNV_CLIP_CNT CNV_CFG; omega

theorem cnvWdropCnt_eq {k : Nat} (hk : k < 32) : CNV_WDROP_CNT (k / 8) (k % 8) = convWdrop k := by
  rw [convWdrop, if_pos hk, convPage_readOut hk]; unfold CNV_WDROP_CNT CNV_CFG; omega

theorem monInj_eq (m : Nat) : MON_INJ (m / 4) (m % 4) = convPage (32 + m) + 8 := by
  rw [convPage_monitor]; unfold MON_INJ MON_CTL; omega

theorem monInjQ_eq (m : Nat) : MON_INJ_Q (m / 4) (m % 4) = convPage (32 + m) + 0xC := by
  rw [convPage_monitor]; unfold MON_INJ_Q MON_CTL; omega

theorem monInjRes_eq (m : Nat) : MON_INJ_RES (m / 4) (m % 4) = convPage (32 + m) + 0x10 := by
  rw [convPage_monitor]; unfold MON_INJ_RES MON_CTL; omega

theorem monInjOvfCnt_eq (m : Nat) : MON_INJ_OVF_CNT (m / 4) (m % 4) = convPage (32 + m) + 0x28 := by
  rw [convPage_monitor]; unfold MON_INJ_OVF_CNT MON_CTL; omega

/-- A page of a converter lies above the registers of the yards and of the hub. -/
theorem convPage_add_ne {a : Nat} (ha : a < 0x2000000) (r i : Nat) : a ≠ convPage r + i := by
  have hpage := le_convPage r
  omega

theorem glbState_ne_convPage_add (r i : Nat) : GLB_STATE ≠ convPage r + i := convPage_add_ne (show GLB_STATE < 0x2000000 by decide) r i

theorem dev_of_onlyRegs {s t : State} {r i j : Nat} (h : s.onlyRegs t [convPage r + i, convPage r + j]) : t.dev = s.dev :=
  fld_of_onlyRegs h (by simp [glbState_ne_convPage_add]) _

/-! ### Rings (R283 to R287) -/

theorem onlyRegs_ringRefresh (r : Nat) (s : State) : s.onlyRegs (ringRefresh r s) [ringSTS r] := onlyRegs_setF ..

/-- REQ says whether the contents have reached the watermark (R287). -/
theorem req_ringRefresh (r : Nat) (s : State) : (ringRefresh r s).fld (ringSTS r) CNV_RING_STS_REQ
    = b01 (decide (256 * s.fld (ringWM r) CNV_RING_WM_WM ≤ s.ringHeld r)) := by
  refine (fld_setF _ _ _ _ (by decide)).trans (Nat.mod_eq_of_lt ?_)
  unfold b01
  split
  · decide
  · decide

theorem fld_ringRefresh_beside (r : Nat) (s : State) {g : Fld} (hg : g.1 + g.2 ≤ 64) (hreq : 2 ≤ g.1 ∨ g.1 + g.2 ≤ 1) :
    (ringRefresh r s).fld (ringSTS r) g = s.fld (ringSTS r) g :=
  fld_setF_beside _ _ _ _ _ (by decide) hg hreq

theorem rdN_ringRefresh_ne (r : Nat) (s : State) {a : Nat} (ha : a ≠ ringSTS r) : (ringRefresh r s).rdN a = s.rdN a := rdN_setF_ne _ _ _ _ _ ha

/-- The contents of a ring follow its pointers and its size. -/
theorem ringHeld_ringRefresh (r : Nat) (s : State) : (ringRefresh r s).ringHeld r = s.ringHeld r := by
  have hsize : (ringRefresh r s).ringSize r = s.ringSize r :=
    congrArg (4096 * ·) (fld_setF_ne _ _ _ _ _ _ (by simp [ringPAGES, ringSTS]))
  rw [State.ringHeld, hsize, rdN_ringRefresh_ne _ _ (by simp [ringWP, ringSTS]), rdN_ringRefresh_ne _ _ (by simp [ringRP, ringSTS])]
  rfl

theorem ringSize_lt (s : State) (r : Nat) : s.ringSize r < 2 ^ 26 := by
  have hpages : s.fld (ringPAGES r) CNV_RING_PAGES_PAGES < 2 ^ 14 := getF_lt _ _ (by decide)
  unfold State.ringSize
  omega

/-- A record that fits goes whole to a running ring (R285). -/
theorem ringPut_of_room {s : State} {r : Nat} {bs : List (BitVec 8)} (hon : s.ringOn r = true) (hroom : bs.length ≤ s.ringRoom r) :
    ringPut r bs s = ringRefresh r ({ s with cnv := { s.cnv with
        res := ringStore (4096 * s.fld (ringBASE r) CNV_RING_BASE_PAGE) (s.ringSize r) (s.rdN (ringWP r)) bs s.cnv.res } }.wrN (ringWP r)
      ((s.rdN (ringWP r) + bs.length) % s.ringSize r)) := by
  unfold ringPut
  rw [if_neg (by simp [hon]), if_neg (by omega)]
  rfl

theorem CnvTurn.ringPut {as : List Nat} {s₀ s : State} {r : Nat} {bs : List (BitVec 8)} (h : CnvTurn as s₀ s) (hwp : ringWP r ∈ as)
    (hsts : ringSTS r ∈ as) (hdrop : ringDROP r ∈ as) : CnvTurn as s₀ (ringPut r bs s) :=
  h.ite (((h.wr hdrop).wr hsts).ite ((h.withCnv.wr hwp).wr hsts))

/-- Nothing but the result store and registers changes. -/
theorem dem_ringPut (r : Nat) (bs : List (BitVec 8)) (s : State) (y c : Nat) : (ringPut r bs s).dem y c = s.dem y c := by
  unfold Machine.ringPut
  split
  · rfl
  · split
    · rfl
    · rfl

/-! ### Read-out ADCs (R249 to R252) -/

@[simp] theorem adc_setAdc_same (s : State) (k : Nat) (x : Adc) : (s.setAdc k x).adc k = x := tget_tput_same ..

/-- The settings in force at a time, by the changes kept, newest first; with none, as written. -/
def setAt (hist : List (Nat × Word × Word × Word)) (now : Word × Word × Word) (sel x : Nat) : Word :=
  pick3 sel (((hist.find? fun h => decide (h.1 ≤ x)).map (·.2)).getD now)

/-- The changes kept once new settings take force at an edge. -/
def histFrom (old : Word × Word × Word) (hist : List (Nat × Word × Word × Word)) (e : Nat) (new_ : Word × Word × Word) :
    List (Nat × Word × Word × Word) :=
  ((e, new_) :: (if hist.isEmpty then [(0, old)] else hist.filter fun h => decide (h.1 < e))).take 256

theorem adcOn_eq (s : State) (k sel x : Nat) : s.adcOn k sel x = if s.dev = dCAL ∧ sel = 0 then
      insF (insF (setAt (s.adc k).hist (s.adcRegs k) sel x) CNV_CFG_FS (getF (Config.trimCnv k) CNV_CFG_FS)) CNV_CFG_INSEL
        (getF (Config.trimCnv k) CNV_CFG_INSEL)
    else setAt (s.adc k).hist (s.adcRegs k) sel x := by
  unfold State.adcOn setAt
  cases (s.adc k).hist.find? fun h => decide (h.1 ≤ x) with
  | none => rfl
  | some h => rfl

theorem adcOn_congr {s t : State} {k sel x : Nat} (hdev : t.dev = s.dev)
    (hset : setAt (t.adc k).hist (t.adcRegs k) sel x = setAt (s.adc k).hist (s.adcRegs k) sel x) : t.adcOn k sel x = s.adcOn k sel x := by
  rw [adcOn_eq, adcOn_eq, hdev, hset]

/-- From the edge on the new settings are in force. -/
theorem setAt_histFrom_of_le {old new_ now : Word × Word × Word} {hist : List (Nat × Word × Word × Word)} {e x : Nat} (sel : Nat)
    (h : e ≤ x) : setAt (histFrom old hist e new_) now sel x = pick3 sel new_ := by
  simp [setAt, histFrom, h]

/-- Before it those of before are. -/
theorem setAt_histFrom_of_lt {old new_ now : Word × Word × Word} {hist : List (Nat × Word × Word × Word)} {e x : Nat} (sel : Nat)
    (h : x < e) (hlen : hist.length < 256) (hcov : hist = [] ∨ ∃ p ∈ hist, p.1 ≤ x) :
    setAt (histFrom old hist e new_) now sel x = setAt hist old sel x := by
  rcases hcov with rfl | ⟨p, hp, hpx⟩
  · simp [setAt, histFrom, Nat.not_le.mpr h]
  · have hne : hist ≠ [] := List.ne_nil_of_mem hp
    have hfit : (hist.filter fun h => decide (h.1 < e)).length ≤ 255 := (List.length_filter_le ..).trans (by omega)
    have hfind : (hist.filter fun h => decide (h.1 < e)).find? (fun h => decide (h.1 ≤ x)) = hist.find? fun h => decide (h.1 ≤ x) := by
      rw [List.find?_filter]
      congr 1
      funext q
      rw [Bool.eq_iff_iff]
      simp only [decide_eq_true_eq]
      omega
    have hsome : (hist.find? fun h => decide (h.1 ≤ x)).isSome = true := List.find?_isSome.mpr ⟨p, hp, by simpa using hpx⟩
    obtain ⟨q, hq⟩ := Option.isSome_iff_exists.mp hsome
    have hkept : histFrom old hist e new_ = (e, new_) :: hist.filter fun h => decide (h.1 < e) := by
      rw [histFrom, if_neg (by simpa using hne), List.take_of_length_le (Nat.succ_le_succ hfit)]
    rw [setAt, setAt, hkept, List.find?_cons_of_neg (by simpa using h), hfind, hq]
    rfl

/-- A write of registers other than its settings leaves what is in force. -/
theorem adcOn_of_onlyRegs {s t : State} {k i : Nat} (h : s.onlyRegs t [convPage k + 4, convPage k + i]) (hi : 0xC < i) (sel x : Nat) :
    t.adcOn k sel x = s.adcOn k sel x := by
  have hrd {j : Nat} (hj : j ≤ 0xC) (h4 : j ≠ 4) : t.rd (convPage k + j) = s.rd (convPage k + j) := h.2 _ (by simp; omega)
  have hregs : t.adcRegs k = s.adcRegs k := by
    rw [State.adcRegs, hrd (by decide) (by decide), hrd (by decide) (by decide), show convPage k = convPage k + 0 from rfl,
      hrd (by decide) (by decide)]
    rfl
  exact adcOn_congr (dev_of_onlyRegs h) (by rw [hregs, State.adc, cnv_of_onlyRegs h]; rfl)

end Sys2Proof.Laws
end

section
namespace Sys2Proof.Laws
open Sys2Proof.Machine

-- One theorem after another: a thread for each of them passes the memory limit of the check.
set_option Elab.async false

/-! ### Settings of a read-out ADC (R251 to R253, Table 8-2) -/

/-- The address of CNV_CFG, CNV_CORR_A or CNV_CORR_B in the page of an ADC. -/
def cfgReg (k sel : Nat) : Nat := convPage k + (if sel = 0 then 0 else 4 + 4 * sel)

/-- The settings written, to take force at the next ft boundary. -/
def cfgStored (k sel v : Nat) (s : State) : State :=
  (s.wrRW (cfgReg k sel) v).setAdc k
    { s.adc k with hist := histFrom (s.adcRegs k) (s.adc k).hist s.nextEdge ((s.wrRW (cfgReg k sel) v).adcRegs k) }

theorem cnvCfgWrite_of_taken {k sel v : Nat} (h : sel ≠ 0 ∨ v % 4 ≠ 3) (s : State) : cnvCfgWrite k sel v s =
    if sel = 0 ∧ (cfgStored k sel v s).dev ≠ dCAL then
      settleFrom k s.nextEdge (adcSettle (s.rd (convPage k)) ((cfgStored k sel v s).rd (convPage k))) (cfgStored k sel v s)
    else cfgStored k sel v s :=
  if_neg (by omega)

theorem cnvCfgWrite_of_reserved {k v : Nat} (h : v % 4 = 3) (s : State) : cnvCfgWrite k 0 v s = s.inc (convWdrop k) := if_pos ⟨rfl, h⟩

theorem pick3_adcRegs (s : State) (k : Nat) {sel : Nat} (h : sel < 3) : pick3 sel (s.adcRegs k) = s.rd (cfgReg k sel) := by
  match sel, h with
  | 0, _ => rfl
  | 1, _ => rfl
  | 2, _ => rfl

/-- Marking samples UNSETTLED touches neither the settings nor their history. -/
theorem hist_settleFrom (k e n : Nat) (s : State) : ((settleFrom k e n s).adc k).hist = (s.adc k).hist := by
  unfold settleFrom
  split
  · rfl
  · exact congrArg (·.hist) (adc_setAdc_same ..)

theorem CnvTurn.settleFrom {as : List Nat} {s₀ s : State} {k e n : Nat} (h : CnvTurn as s₀ s) (ha : convPage k + 4 ∈ as) :
    CnvTurn as s₀ (settleFrom k e n s) :=
  h.ite (h.setAdc.wr ha)

/-- The samples that a change marks (R253). -/
theorem settleFrom_spec (k e : Nat) {n : Nat} (hn : 0 < n) (s : State) :
    ((settleFrom k e n s).adc k).uns.head? = some (e, e + 2 * n) ∧ (settleFrom k e n s).fld (convPage k + 4) CNV_STS_SETTLING = 1 := by
  unfold Machine.settleFrom
  rw [if_neg (by omega)]
  exact ⟨congrArg (·.uns.head?) (adc_setAdc_same ..), fld_setF _ _ _ _ (by decide)⟩

theorem turn_cnvCfgWrite {k sel v : Nat} (h : sel ≠ 0 ∨ v % 4 ≠ 3) (s : State) :
    CnvTurn [cfgReg k sel, convPage k + 4] s (cnvCfgWrite k sel v s) := by
  have hstored : CnvTurn [cfgReg k sel, convPage k + 4] s (cfgStored k sel v s) := (CnvTurn.rfl.wr (by simp)).setAdc
  rw [cnvCfgWrite_of_taken h]
  exact (hstored.settleFrom (by simp)).ite hstored

/-- The marks leave the registers written and the history as they are stored. -/
theorem cnvCfgWrite_stored {k sel v : Nat} (h : sel ≠ 0 ∨ v % 4 ≠ 3) (s : State) :
    (∀ a, a ≠ convPage k + 4 → (cnvCfgWrite k sel v s).rd a = (s.wrRW (cfgReg k sel) v).rd a)
      ∧ ((cnvCfgWrite k sel v s).adc k).hist = histFrom (s.adcRegs k) (s.adc k).hist s.nextEdge ((s.wrRW (cfgReg k sel) v).adcRegs k) := by
  have hhist : ((cfgStored k sel v s).adc k).hist = histFrom (s.adcRegs k) (s.adc k).hist s.nextEdge ((s.wrRW (cfgReg k sel) v).adcRegs k) :=
    congrArg Adc.hist (adc_setAdc_same ..)
  rw [cnvCfgWrite_of_taken h]
  split
  · exact ⟨fun a ha => (CnvTurn.rfl.settleFrom (List.mem_singleton_self _)).1 a (by simpa using ha), (hist_settleFrom ..).trans hhist⟩
  · exact ⟨fun _ _ => rfl, hhist⟩

theorem cfgReg_ne_sts (k sel : Nat) : cfgReg k sel ≠ convPage k + 4 := by
  unfold cfgReg
  split
  · omega
  · omega

theorem cnvCfgWrite_adcRegs {k sel v : Nat} (h : sel ≠ 0 ∨ v % 4 ≠ 3) (s : State) :
    (cnvCfgWrite k sel v s).adcRegs k = (s.wrRW (cfgReg k sel) v).adcRegs k := by
  obtain ⟨hrd, -⟩ := cnvCfgWrite_stored h s
  rw [State.adcRegs, hrd _ (by omega), hrd _ (by omega), hrd _ (by omega)]
  rfl

theorem dev_of_cnvTurn {as : List Nat} {s t : State} (h : CnvTurn as s t) (ha : GLB_STATE ∉ as) : t.dev = s.dev :=
  congrArg (getF · GLB_STATE_STATE) (h.1 _ ha)

theorem dev_cnvCfgWrite {k sel v : Nat} (h : sel ≠ 0 ∨ v % 4 ≠ 3) (s : State) : (cnvCfgWrite k sel v s).dev = s.dev :=
  dev_of_cnvTurn (turn_cnvCfgWrite h s) (by simp [cfgReg, glbState_ne_convPage_add])

/-- From the next ft boundary on the value written is in force (R251). -/
theorem adcOn_cnvCfgWrite_of_le {k sel v x : Nat} (h : sel ≠ 0 ∨ v % 4 ≠ 3) (hsel : sel < 3) {s : State} (hx : s.nextEdge ≤ x)
    (hdev : s.dev ≠ dCAL ∨ sel ≠ 0) : (cnvCfgWrite k sel v s).adcOn k sel x = (cnvCfgWrite k sel v s).rd (cfgReg k sel) := by
  obtain ⟨-, hhist⟩ := cnvCfgWrite_stored h s
  rw [adcOn_eq, dev_cnvCfgWrite h, if_neg (by tauto), hhist, setAt_histFrom_of_le _ hx, ← cnvCfgWrite_adcRegs h, pick3_adcRegs _ _ hsel]

/-- Before it the values of before are. -/
theorem adcOn_cnvCfgWrite_of_lt {k sel v x : Nat} (h : sel ≠ 0 ∨ v % 4 ≠ 3) {s : State} (j : Nat) (hx : x < s.nextEdge)
    (hlen : (s.adc k).hist.length < 256) (hcov : (s.adc k).hist = [] ∨ ∃ p ∈ (s.adc k).hist, p.1 ≤ x) :
    (cnvCfgWrite k sel v s).adcOn k j x = s.adcOn k j x := by
  obtain ⟨-, hhist⟩ := cnvCfgWrite_stored h s
  exact adcOn_congr (dev_cnvCfgWrite h s) (by rw [hhist, setAt_histFrom_of_lt j hx hlen hcov])

/-- A change that Table 8-2 names marks the first samples from there. -/
theorem cnvCfgWrite_settles {k v n : Nat} (h : v % 4 ≠ 3) {s : State} (hdev : s.dev ≠ dCAL)
    (hn : n = adcSettle (s.rd (convPage k)) ((cnvCfgWrite k 0 v s).rd (convPage k))) (hpos : 0 < n) :
    ((cnvCfgWrite k 0 v s).adc k).uns.head? = some (s.nextEdge, s.nextEdge + 2 * n)
      ∧ (cnvCfgWrite k 0 v s).fld (convPage k + 4) CNV_STS_SETTLING = 1 := by
  have hstored : (cfgStored k 0 v s).dev = s.dev :=
    dev_of_cnvTurn (as := [cfgReg k 0]) ((CnvTurn.rfl.wr (by simp)).setAdc) (List.mem_singleton.not.mpr (glbState_ne_convPage_add k _))
  rw [(cnvCfgWrite_stored (.inr h) s).1 _ (by omega)] at hn
  rw [cnvCfgWrite_of_taken (.inr h), if_pos ⟨rfl, by rwa [hstored]⟩]
  exact hn ▸ settleFrom_spec k s.nextEdge hpos _

theorem settlingEnd_of_passed {s : State} {k : Nat} (hk : k < 32) (h : ∀ u ∈ (s.adc k).uns, u.2 ≤ s.clock.now) :
    settlingEnd k s = s.setF (convPage k + 4) CNV_STS_SETTLING 0 :=
  if_pos ⟨hk, List.all_eq_true.mpr fun u hu => decide_eq_true (h u hu)⟩

/-! ### RING_START, RING_STOP and RING_RP_WRITE (R283 to R288) -/

/-- The registers of a ring, each with an address of its own. -/
theorem nodup_ringRegs (r : Nat) : [ringPAGES r, ringWM r, ringCTL r, ringSTS r, ringWP r, ringRP r].Nodup := by
  simp [ringPAGES, ringWM, ringCTL, ringSTS, ringWP, ringRP]

theorem ringCheck_of_good {s : State} {r rq page pages : Nat} (hpage : page = s.fld (ringBASE r) CNV_RING_BASE_PAGE)
    (hpages : pages = s.fld (ringPAGES r) CNV_RING_PAGES_PAGES) (hpos : 0 < pages) (hfit : page + pages ≤ 8192)
    (hwm : 0 < s.fld (ringWM r) CNV_RING_WM_WM) (hlow : 256 * s.fld (ringWM r) CNV_RING_WM_WM < 4096 * pages)
    (hown : s.ringBad r page pages rq = none) : s.ringCheck r rq = 0 := by
  unfold State.ringCheck
  dsimp only
  rw [← hpage, ← hpages, if_neg (by omega), if_neg (by omega), if_neg (by omega), if_neg (by omega), hown]
  rfl

/-- An empty ring that runs, before REQ follows. -/
def ringEmptied (r v : Nat) (s : State) : State :=
  ((((s.status (ringSTS r) 0).wrN (ringWP r) 0).wrN (ringRP r) 0).wrN (ringCTL r) (2 ^ 31 + v % 128)).setF (ringSTS r) CNV_RING_STS_RUNNING 1

theorem ringStart_of_check {s : State} {r v : Nat} (h : s.ringCheck r (v % 128) = 0) :
    ringStart r v s = ringRefresh r (ringEmptied r v s) := by
  unfold ringStart
  dsimp only
  rw [h, denyIf_zero, if_neg (by simp)]
  rfl

theorem ringCtlWrite_of_start {s : State} {r v : Nat} (hen : s.flag (ringCTL r) CNV_RING_CTL_EN = false) (hbit : bit v 31 = true) :
    ringCtlWrite r v s = ringStart r v s :=
  if_pos ⟨hbit, by simp [hen]⟩

theorem onlyRegs_ringEmptied (r v : Nat) (s : State) : s.onlyRegs (ringEmptied r v s) [ringCTL r, ringWP r, ringRP r, ringSTS r] :=
  onlyRegs_andWr (onlyRegs_andWr (onlyRegs_andWr (onlyRegs_andWr (onlyRegs_andWr (onlyRegs_rfl ..) (by simp)) (by simp)) (by simp)) (by simp))
    (by simp)

theorem ringEmptied_spec (r v : Nat) (s : State) :
    (ringEmptied r v s).rdN (ringCTL r) = 2 ^ 31 + v % 128 ∧ (ringEmptied r v s).rdN (ringWP r) = 0 ∧ (ringEmptied r v s).rdN (ringRP r) = 0
      ∧ (ringEmptied r v s).fld (ringSTS r) CNV_RING_STS_RUNNING = 1 ∧ (ringEmptied r v s).fld (ringSTS r) CNV_RING_STS_STATUS = 0 := by
  have hdistinct := nodup_ringRegs r
  simp only [List.nodup_cons, List.mem_cons, List.not_mem_nil, or_false, not_or] at hdistinct
  obtain ⟨-, -, ⟨hctlSts, hctlWp, hctlRp⟩, ⟨hstsWp, hstsRp⟩, hwpRp, -⟩ := hdistinct
  refine ⟨?_, ?_, ?_, fld_setF _ _ _ _ (by decide), ?_⟩
  · rw [ringEmptied, rdN_setF_ne _ _ _ _ _ hctlSts, rdN_wrN]
    omega
  · rw [ringEmptied, rdN_setF_ne _ _ _ _ _ (Ne.symm hstsWp), rdN_wrN_ne _ _ _ _ (Ne.symm hctlWp), rdN_wrN_ne _ _ _ _ hwpRp]
    exact rdN_wrN _ _ 0
  · rw [ringEmptied, rdN_setF_ne _ _ _ _ _ (Ne.symm hstsRp), rdN_wrN_ne _ _ _ _ (Ne.symm hctlRp)]
    exact rdN_wrN _ _ 0
  · refine (fld_setF_beside _ _ _ _ _ (by decide) (by decide) (by decide)).trans ?_
    rw [fld_wrN_ne _ _ _ _ _ (Ne.symm hctlSts), fld_wrN_ne _ _ _ _ _ hstsRp, fld_wrN_ne _ _ _ _ _ hstsWp]
    exact fld_status _ _ 0

/-- A ring that starts holds nothing, and nothing is asked for (R283, R287). -/
theorem req_ringRefresh_of_empty {r : Nat} {s : State} (hwp : s.rdN (ringWP r) = 0) (hrp : s.rdN (ringRP r) = 0)
    (hwm : 0 < s.fld (ringWM r) CNV_RING_WM_WM) : (ringRefresh r s).fld (ringSTS r) CNV_RING_STS_REQ = 0 := by
  have hheld : s.ringHeld r = 0 := by simp [State.ringHeld, hwp, hrp]
  rw [req_ringRefresh, hheld, decide_eq_false (by omega)]
  rfl

/-- What a start that passes its checks leaves. -/
theorem ringRefresh_ringEmptied_spec {s t : State} {r v : Nat} (hwm : 0 < s.fld (ringWM r) CNV_RING_WM_WM)
    (ht : t = ringRefresh r (ringEmptied r v s)) :
    t.rdN (ringCTL r) = 2 ^ 31 + v % 128 ∧ t.rdN (ringWP r) = 0 ∧ t.rdN (ringRP r) = 0
      ∧ t.fld (ringSTS r) CNV_RING_STS_RUNNING = 1 ∧ t.fld (ringSTS r) CNV_RING_STS_STATUS = 0 ∧ t.fld (ringSTS r) CNV_RING_STS_REQ = 0
      ∧ s.onlyRegs t [ringCTL r, ringWP r, ringRP r, ringSTS r] := by
  subst ht
  obtain ⟨hctl, hwp, hrp, hrunning, hstatus⟩ := ringEmptied_spec r v s
  have honly := onlyRegs_ringEmptied r v s
  have hwmSame : (ringEmptied r v s).fld (ringWM r) CNV_RING_WM_WM = s.fld (ringWM r) CNV_RING_WM_WM :=
    fld_of_onlyRegs honly (by simp [ringWM, ringCTL, ringSTS, ringWP, ringRP]) _
  refine ⟨(rdN_ringRefresh_ne _ _ (by simp [ringCTL, ringSTS])).trans hctl, (rdN_ringRefresh_ne _ _ (by simp [ringWP, ringSTS])).trans hwp,
    (rdN_ringRefresh_ne _ _ (by simp [ringRP, ringSTS])).trans hrp, (fld_ringRefresh_beside _ _ (by decide) (by decide)).trans hrunning,
    (fld_ringRefresh_beside _ _ (by decide) (by decide)).trans hstatus, req_ringRefresh_of_empty hwp hrp (hwmSame ▸ hwm),
    onlyRegs_trans honly (onlyRegs_ringRefresh ..) (List.Subset.refl _) (by simp)⟩

theorem ringStop_spec (r v : Nat) (s : State) :
    (ringStop r v s).rdN (ringCTL r) = v % 128 ∧ (ringStop r v s).fld (ringSTS r) CNV_RING_STS_RUNNING = 0
      ∧ (ringStop r v s).fld (ringSTS r) CNV_RING_STS_STATUS = 0 ∧ s.onlyRegs (ringStop r v s) [ringCTL r, ringSTS r] := by
  have hne : ringCTL r ≠ ringSTS r := by simp [ringCTL, ringSTS]
  refine ⟨?_, ?_, fld_status _ _ 0, onlyRegs_andWr (onlyRegs_andWr (onlyRegs_andWr (onlyRegs_rfl ..) (by simp)) (by simp)) (by simp)⟩
  · rw [ringStop, rdN_status_ne _ _ _ _ hne, rdN_setF_ne _ _ _ _ _ hne, rdN_wrN]
    omega
  · exact (fld_setF_beside _ _ _ _ _ (by decide) (by decide) (by decide)).trans (fld_setF _ _ _ _ (by decide))

/-- A read pointer that lies in the ring and does not pass what it holds is taken (R285). -/
theorem ringRpWrite_of_legal {s : State} {r v : Nat} (halign : v % 16 = 0) (hsize : v < s.ringSize r)
    (hheld : (v + s.ringSize r - s.rdN (ringRP r)) % s.ringSize r ≤ s.ringHeld r) : ringRpWrite r v s = ringRefresh r (s.wrN (ringRP r) v) :=
  if_neg (by omega)

theorem ringRpWrite_of_outside {s : State} {r v : Nat} (h : v % 16 ≠ 0 ∨ s.ringSize r ≤ v) :
    ringRpWrite r v s = (s.status (ringSTS r) E_CNV_RANGE).inc (convWdrop r) :=
  if_pos (h.imp_right .inl)

theorem ringSts_ne_convWdrop (r : Nat) : ringSTS r ≠ convWdrop r := by
  unfold ringSTS convWdrop
  split
  · omega
  · omega

/-- REQ reads 1 just where the contents have reached the watermark, as the contents stand then. -/
theorem req_ringRefresh_iff (r : Nat) (s : State) : (ringRefresh r s).fld (ringSTS r) CNV_RING_STS_REQ = 1
    ↔ 256 * s.fld (ringWM r) CNV_RING_WM_WM ≤ (ringRefresh r s).ringHeld r := by
  rw [req_ringRefresh, ringHeld_ringRefresh]
  simp [b01]

/-! ### The clauses of O23 -/

/-- Settles O23: a write of the settings is `cfgStored`, whose history `histFrom` gives the value in force before and after the edge, and then
`settleFrom`; a ring that starts is `ringEmptied`; REQ follows the contents by `ringRefresh`. That a refused read pointer also counts in WDROP
is entry 41 of the assumption log. -/
theorem convertersAreConfiguredAndRingsRun : Obligations.ConvertersAreConfiguredAndRingsRun := by
  refine ⟨fun s k sel v a hk hsel ha hopens htaken => ?_, fun s k v hk hopens hres => ?_, fun s k hk hpassed => ?_,
    fun s r v page pages hr hopens hen hbit hpage hpages hpos hfit hwm hlow hown => ?_, fun s r v hr hopens hen => ?_,
    fun s r v hr hopens halign hsize hheld => ?_, fun s r v hr hopens hout => ?_⟩
  · have ha : a = cfgReg k sel := ha
    subst ha
    obtain ⟨hrd, -⟩ := cnvCfgWrite_stored (k := k) htaken s
    rw [cnvSts_eq hk, ← convPage_readOut hk]
    refine ⟨_, congrArg Host.Outcome.next (hostWr_of_opens hopens (cnvCfgWrite k sel v)), (hrd _ (cfgReg_ne_sts k sel)).trans (rd_wrRW_same ..),
      fun x hx hdev => adcOn_cnvCfgWrite_of_le htaken hsel hx hdev, fun j x _ hx hlen hcov => adcOn_cnvCfgWrite_of_lt htaken j hx hlen hcov,
      fun n hn hzero hpos hdev => ?_, turn_cnvCfgWrite htaken s⟩
    subst hzero
    exact cnvCfgWrite_settles (by tauto) hdev hn hpos
  · have hexec := (hostWr_of_opens (convPage_readOut hk ▸ hopens) (cnvCfgWrite k 0 v)).trans (cnvCfgWrite_of_reserved hres s)
    rw [cnvWdropCnt_eq hk]
    exact ⟨_, congrArg Host.Outcome.next hexec, rdN_inc .., onlyRegs_inc ..⟩
  · rw [cnvSts_eq hk]
    exact ⟨_, congrArg Host.Outcome.next (settlingEnd_of_passed hk hpassed), fld_setF _ _ _ _ (by decide), onlyRegs_setF ..⟩
  · have hexec := (hostWr_of_opens hopens (ringCtlWrite r v)).trans ((ringCtlWrite_of_start hen hbit).trans
      (ringStart_of_check (ringCheck_of_good hpage hpages hpos hfit hwm hlow hown)))
    exact ⟨_, congrArg Host.Outcome.next hexec, ringRefresh_ringEmptied_spec hwm rfl⟩
  · have hexec : hostWr (ringCTL r) (fun s => if s.flag (ringCTL r) CNV_RING_CTL_EN then ringStop r v s else ringCtlWrite r v s) s
        = ringStop r v s := (hostWr_of_opens hopens _).trans (if_pos hen)
    exact ⟨_, congrArg Host.Outcome.next hexec, ringStop_spec r v s⟩
  · have hexec := (hostWr_of_opens hopens (ringRpWrite r v)).trans (ringRpWrite_of_legal halign hsize hheld)
    have hwm : (s.wrN (ringRP r) v).fld (ringWM r) CNV_RING_WM_WM = s.fld (ringWM r) CNV_RING_WM_WM :=
      fld_wrN_ne _ _ _ _ _ (by simp [ringWM, ringRP])
    refine ⟨_, congrArg Host.Outcome.next hexec, ?_, hwm ▸ req_ringRefresh_iff r _,
      onlyRegs_trans (onlyRegs_wr ..) (onlyRegs_ringRefresh ..) (by simp) (by simp)⟩
    rw [rdN_ringRefresh_ne _ _ (by simp [ringRP, ringSTS]), rdN_wrN]
    exact Nat.mod_eq_of_lt (hsize.trans ((ringSize_lt s r).trans (by decide)))
  · have hexec := (hostWr_of_opens hopens (ringRpWrite r v)).trans (ringRpWrite_of_outside hout)
    refine ⟨_, congrArg Host.Outcome.next hexec, (fld_inc_ne _ _ _ _ (ringSts_ne_convWdrop r)).trans (fld_status _ _ E_CNV_RANGE), ?_,
      onlyRegs_trans (onlyRegs_status ..) (onlyRegs_inc ..) (by simp) (by simp)⟩
    rw [rdN_inc, rdN_status_ne _ _ _ _ (ringSts_ne_convWdrop r).symm]

end Sys2Proof.Laws
end

section
namespace Sys2Proof.Laws
open Sys2Proof.Machine

-- One theorem after another: a thread for each of them passes the memory limit of the check.
set_option Elab.async false

/-! ### Channels and their windows (R255 to R262, Table 8-4) -/

@[simp] theorem dem_setDem_same (s : State) (y c : Nat) (d : Dem) : (s.setDem y c d).dem y c = d := tget_tput_same ..

@[simp] theorem dem_modDem_same (s : State) (y c : Nat) (f : Dem → Dem) : (s.modDem y c f).dem y c = f (s.dem y c) := dem_setDem_same ..

theorem dem_acqRefresh (y c : Nat) (s : State) : (acqRefresh y c s).dem y c = s.dem y c := rfl

theorem acqSts_ne_dscSts (y c : Nat) : CNV_ACQ_STS y c ≠ DSC_STS y c := by unfold CNV_ACQ_STS DSC_STS; omega

theorem acqCtl_ne_acqSts (y c : Nat) : CNV_ACQ_CTL y c ≠ CNV_ACQ_STS y c := by unfold CNV_ACQ_CTL CNV_ACQ_STS; omega

theorem acqCtl_ne_dscSts (y c : Nat) : CNV_ACQ_CTL y c ≠ DSC_STS y c := by unfold CNV_ACQ_CTL DSC_STS; omega

theorem onlyRegs_acqRefresh (y c : Nat) (s : State) : s.onlyRegs (acqRefresh y c s) [CNV_ACQ_STS y c, DSC_STS y c] :=
  onlyRegs_andWr (onlyRegs_andWr (onlyRegs_rfl ..) (by simp)) (by simp)

theorem rd_acqCtl_acqRefresh (y c : Nat) (s : State) : (acqRefresh y c s).rd (CNV_ACQ_CTL y c) = s.rd (CNV_ACQ_CTL y c) :=
  (onlyRegs_acqRefresh y c s).2 _ (by simp [acqCtl_ne_acqSts, acqCtl_ne_dscSts])

/-- ASTATE and DSTATE leave the status of the last ARM. -/
theorem status_acqRefresh (y c : Nat) (s : State) : (acqRefresh y c s).fld (CNV_ACQ_STS y c) fSTATUS = s.fld (CNV_ACQ_STS y c) fSTATUS :=
  (fld_setF_ne _ _ _ _ _ _ (acqSts_ne_dscSts y c)).trans (fld_setF_beside _ _ _ _ _ (by decide) (by decide) (by decide))

/-- With a window open ASTATE reads OPEN. -/
theorem astate_acqRefresh_of_open {y c : Nat} {s : State} (h : (s.dem y c).wins.any (·.open_) = true) :
    (acqRefresh y c s).fld (CNV_ACQ_STS y c) CNV_ACQ_STS_ASTATE = 2 := by
  refine (fld_setF_ne _ _ _ _ _ _ (acqSts_ne_dscSts y c)).trans ((fld_setF _ _ _ _ (by decide)).trans ?_)
  rw [if_pos h]
  rfl

theorem CnvTurn.acqRefresh {as : List Nat} {s₀ s : State} {y c : Nat} (h : CnvTurn as s₀ s) (hsts : CNV_ACQ_STS y c ∈ as)
    (hdsc : DSC_STS y c ∈ as) : CnvTurn as s₀ (acqRefresh y c s) :=
  (h.wr hsts).wr hdsc

/-! ### CNV_ACQ_ARM and CNV_ACQ_DISARM (R258, R259) -/

theorem acqCtl_row : ∀ c < 8, yardRows.all (sameInYards (CNV_ACQ_CTL 0 c)) = true
    ∧ (regRow (CNV_ACQ_CTL 0 c)).map (fun r => (r.base, r.rw)) = some (0x1003000, 0xFFFF00FF) := by decide +kernel

theorem rwMask_acqCtl {y c : Nat} (hy : y < 64) (hc : c < 8) : rwMask (CNV_ACQ_CTL y c) = 0xFFFF00FF := by
  obtain ⟨hsame, hrow⟩ := acqCtl_row c hc
  have hyard : regRow (CNV_ACQ_CTL y c) = regRow (CNV_ACQ_CTL 0 c) := by
    rw [show CNV_ACQ_CTL y c = CNV_ACQ_CTL 0 c + 0x40000 * y by unfold CNV_ACQ_CTL; omega]
    exact regRow_yard hy (by unfold CNV_ACQ_CTL; omega) (by unfold CNV_ACQ_CTL; omega) hsame
  obtain ⟨r, hr, hfields⟩ := Option.map_eq_some_iff.mp hrow
  rw [Prod.mk.injEq] at hfields
  obtain ⟨hbase, hrw⟩ := hfields
  simp [rwMask, hyard, hr, hbase, hrw]

/-- A refusal of an ARM has one of four codes. -/
theorem acqArmCheck_lt (s : State) (y c v : Nat) : s.acqArmCheck y c v < 2 ^ 16 := by
  unfold State.acqArmCheck
  dsimp only
  split_ifs
  all_goals decide

theorem exec_cnvAcqArm_of_unarmed {s : State} {y c : Nat} (hopens : s.opens (CNV_ACQ_CTL y c))
    (harm : s.flag (CNV_ACQ_CTL y c) CNV_ACQ_CTL_ARM = false) (v : Nat) : exec (.cnvAcqArm y c v) s = .next (acqArm y c v s).1 :=
  congrArg Host.Outcome.next ((hostWr_of_opens hopens _).trans (if_neg (by simp [harm])))

/-- The status of an ARM that passes its checks. -/
def acqCleared (y c : Nat) (s : State) : State := s.status (CNV_ACQ_STS y c) 0

theorem acqArm_of_mast {s : State} {y c v : Nat} (h : s.acqArmCheck y c v = 0) (hsrc : bits v 29 28 = 0) :
    (acqArm y c v s).1 = (acqCleared y c s).wrRW (CNV_ACQ_CTL y c) (v % 2 ^ 31) := by
  unfold acqArm
  dsimp only
  rw [h, denyIf_zero, if_neg (by simp), if_pos hsrc]
  rfl

theorem acqArm_of_auto {s : State} {y c v : Nat} (h : s.acqArmCheck y c v = 0) (hsrc : bits v 29 28 ≠ 0) :
    (acqArm y c v s).1 = acqRefresh y c ((acqCleared y c s).wrRW (CNV_ACQ_CTL y c) v) := by
  unfold acqArm
  dsimp only
  rw [h, denyIf_zero, if_neg (by simp), if_neg hsrc]
  rfl

theorem acqArm_of_refused {s : State} {y c v : Nat} (h : s.acqArmCheck y c v ≠ 0) : (acqArm y c v s).1 =
    (s.denyIf (s.acqArmCheck y c v) (if bits v 29 28 = 1 then 3 else 2) (v % 128) 1 y).status (CNV_ACQ_STS y c) (s.acqArmCheck y c v) := by
  unfold acqArm
  dsimp only
  rw [if_pos h]

/-- The register as an ARM stores it, with the status cleared. -/
theorem acqStored_spec (s : State) {y c : Nat} (hy : y < 64) (hc : c < 8) (v : Nat) :
    ((acqCleared y c s).wrRW (CNV_ACQ_CTL y c) v).fld (CNV_ACQ_STS y c) fSTATUS = 0
      ∧ ((acqCleared y c s).wrRW (CNV_ACQ_CTL y c) v).rd (CNV_ACQ_CTL y c)
        = ((s.rd (CNV_ACQ_CTL y c) &&& ~~~(rwMask (CNV_ACQ_CTL y c))) ||| (BitVec.ofNat 64 v &&& rwMask (CNV_ACQ_CTL y c)))
      ∧ ((acqCleared y c s).wrRW (CNV_ACQ_CTL y c) v).flag (CNV_ACQ_CTL y c) CNV_ACQ_CTL_ARM = bit v 31
      ∧ s.onlyRegs ((acqCleared y c s).wrRW (CNV_ACQ_CTL y c) v) [CNV_ACQ_CTL y c, CNV_ACQ_STS y c, DSC_STS y c] := by
  refine ⟨(fld_wr_ne _ _ _ _ _ (acqCtl_ne_acqSts y c).symm).trans (fld_status _ _ 0), ?_,
    flag_wrRW _ v (rwMask_acqCtl hy hc) (by decide) (by decide), onlyRegs_andWr (onlyRegs_andWr (onlyRegs_rfl ..) (by simp)) (by simp)⟩
  rw [rd_wrRW_same, acqCleared, rd_status_ne _ _ _ _ (acqCtl_ne_acqSts y c)]

/-- A bit that is set is cleared by taking its weight away. -/
theorem insF_zero_of_getF {x : Word} {i : Nat} (hi : i < 64) (h : getF x (i, 1) = 1) :
    insF x (i, 1) 0 = x - BitVec.ofNat 64 (2 ^ i) ∧ insF (x - BitVec.ofNat 64 (2 ^ i)) (i, 1) 1 = x := by
  have hone : (BitVec.ofNat 64 1 &&& lowMask 1) <<< i = BitVec.twoPow 64 i := (BitVec.twoPow_eq 64 i).symm
  have hmask : lowMask 1 <<< i = BitVec.twoPow 64 i := (BitVec.twoPow_eq 64 i).symm
  have hzero : (BitVec.ofNat 64 0 &&& lowMask 1) <<< i = 0#64 := by simp
  have hpow : BitVec.ofNat 64 (2 ^ i) = BitVec.twoPow 64 i := BitVec.eq_of_toNat_eq (by simp [BitVec.toNat_twoPow])
  have hset : x.getLsbD i = true := by
    have hbit : ((x >>> i) &&& lowMask 1).getLsbD 0 = true := by
      rw [BitVec.eq_of_toNat_eq (y := 1#64) h]
      rfl
    simp only [BitVec.getLsbD_and, BitVec.getLsbD_ushiftRight, Bool.and_eq_true] at hbit
    exact hbit.1
  have hsplit : (x &&& ~~~BitVec.twoPow 64 i) ||| BitVec.twoPow 64 i = x := by
    apply BitVec.eq_of_getLsbD_eq
    intro j hj
    by_cases hij : i = j
    · subst hij
      simp [hset, hi]
    · simpa [hij] using fun _ => hj
  have hsub : x - BitVec.twoPow 64 i = x &&& ~~~BitVec.twoPow 64 i := by
    have hsum := BitVec.add_eq_or_of_and_eq_zero (x &&& ~~~BitVec.twoPow 64 i) (BitVec.twoPow 64 i) (by
      rw [BitVec.and_assoc, BitVec.and_comm (~~~_), show BitVec.twoPow 64 i &&& ~~~BitVec.twoPow 64 i = 0#64 from BitVec.and_not_self _,
        BitVec.and_zero])
    exact (congrArg (· - BitVec.twoPow 64 i) (hsum.trans hsplit)).symm.trans (BitVec.add_sub_cancel ..)
  rw [hpow, hsub, insF, insF, hmask, hzero, hone, BitVec.or_zero, BitVec.and_assoc, BitVec.and_self]
  exact ⟨rfl, hsplit⟩

/-- A write that only clears ARM stops further starts (R259). -/
theorem acqDisarm_of_clear {s : State} {y c v : Nat} (harm : s.flag (CNV_ACQ_CTL y c) CNV_ACQ_CTL_ARM = true) (hbit : bit v 31 = false)
    (hsame : BitVec.ofNat 64 v &&& rwMask (CNV_ACQ_CTL y c) = s.rd (CNV_ACQ_CTL y c) - BitVec.ofNat 64 (2 ^ 31)) :
    acqDisarm y c v s = acqRefresh y c (s.setF (CNV_ACQ_CTL y c) CNV_ACQ_CTL_ARM 0) := by
  have hset : getF (s.rd (CNV_ACQ_CTL y c)) CNV_ACQ_CTL_ARM = 1 := beq_iff_eq.mp harm
  obtain ⟨-, hback⟩ := insF_zero_of_getF (by decide) hset
  exact if_pos ⟨by rw [hsame]; exact hback, by simp [hbit]⟩

/-! ### Starts (R255, R257, R260, R316) -/

/-- The window that a start opens. -/
def newWin (s : State) (y s0 len tag src : Nat) : Win :=
  ⟨(s.grp (s.groupOf y)).pass, s0, len, tag, src, false, true, 0, 0, 0, false, none, [], [], []⟩

/-- A start of a window: the windows before it that it cuts are counted, and it stands last. -/
theorem dem_openWindow (y c s0 len tag src : Nat) (s : State) : (openWindow y c s0 len tag src s).dem y c =
    { s.dem y c with wins := (cutWins s0 (s.dem y c).wins).1 ++ [newWin s y s0 len tag src] } :=
  (dem_acqRefresh ..).trans (dem_modDem_same ..)

theorem openWindow_spec (y c s0 len tag src : Nat) (s : State) :
    ((openWindow y c s0 len tag src s).dem y c).wins.getLast? = some (newWin s y s0 len tag src)
      ∧ (openWindow y c s0 len tag src s).fld (CNV_ACQ_STS y c) CNV_ACQ_STS_ASTATE = 2
      ∧ ((openWindow y c s0 len tag src s).dem y c).trigs = (s.dem y c).trigs
      ∧ CnvTurn [CNV_ACQ_STS y c, CNV_ACQ_OVL_CNT y, DSC_STS y c] s (openWindow y c s0 len tag src s) := by
  refine ⟨by simp [dem_openWindow], astate_acqRefresh_of_open (by simp), by rw [dem_openWindow], ?_⟩
  exact CnvTurn.acqRefresh (CnvTurn.setDem (CnvTurn.rfl.wr (by simp))) (by simp) (by simp)

/-- A start comes to a channel: ARM stands, the device is in READY or RUN and TB1 runs (R257). -/
structure Startable (s : State) (y c : Nat) : Prop where
  arm : s.flag (CNV_ACQ_CTL y c) CNV_ACQ_CTL_ARM = true
  dev : s.dev = dREADY ∨ s.dev = dRUN
  tb1 : s.tb1Run = true

theorem autoStart_of_running {s : State} {y c : Nat} (h : Startable s y c) (hoff : s.cst y c ≠ cOFF) (hstop : s.cst y c ≠ cSTOPPED) (s0 : Nat) :
    autoStart y c s0 s = openWindow y c s0 (s.fld (CNV_ACQ_LEN y c) CNV_ACQ_LEN_LEN) (s.fld (CNV_ACQ_CTL y c) CNV_ACQ_CTL_TAG)
      (s.fld (CNV_ACQ_CTL y c) CNV_ACQ_CTL_SRC) s := by
  obtain ⟨harm, hdev, htb1⟩ := h
  unfold autoStart
  rw [if_neg (not_not_intro ⟨harm, hdev, htb1⟩), if_neg (not_or.mpr ⟨hoff, hstop⟩)]

theorem autoStart_of_stopped {s : State} {y c : Nat} (h : Startable s y c) (hcst : s.cst y c = cOFF ∨ s.cst y c = cSTOPPED) (s0 : Nat) :
    autoStart y c s0 s = s.inc (DEM_MISS_CNT y) := by
  obtain ⟨harm, hdev, htb1⟩ := h
  unfold autoStart
  rw [if_neg (not_not_intro ⟨harm, hdev, htb1⟩), if_pos hcst]

/-- The event of the timer that a channel selects leaves the held items and starts it (Table 8-3). -/
theorem acqTimerStart_of_due {s : State} {y c : Nat} {i : Item} (hdue : s.bus.held.find? (fun i => i.act == .start y c && s.due i.rel) = some i)
    (hsrc : s.fld (CNV_ACQ_CTL y c) CNV_ACQ_CTL_SRC = 1) : acqTimerStart y c s =
      autoStart y c (ceilFt i.rel + 16 * s.fld (CNV_ACQ_DLY y c) CNV_ACQ_DLY_DLY) (itemTaken i s) := by
  unfold acqTimerStart
  rw [hdue]
  exact if_pos hsrc

/-- A trigger edge leaves those that wait. -/
def edgeTaken (y c : Nat) (es : List Nat) (s : State) : State := s.modDem y c fun d => { d with trigs := es }

theorem acqTrigStart_of_edge {s : State} {y c e : Nat} {es : List Nat} (hedge : (s.dem y c).trigs = e :: es)
    (hsrc : s.fld (CNV_ACQ_CTL y c) CNV_ACQ_CTL_SRC = 2) : acqTrigStart y c s =
      autoStart y c (ceilFt (e + 768) + 16 * s.fld (CNV_ACQ_DLY y c) CNV_ACQ_DLY_DLY) (edgeTaken y c es s) := by
  unfold acqTrigStart
  rw [hedge]
  exact if_pos hsrc

/-! ### The end of a window (R249, R250, R262, Table 8-8) -/

/-- The samples of a window counted. -/
def samplesCounted (k s0 : Nat) (xs : List Samp) (s : State) : State := forEach (pinned s0 xs) s fun x s => countSample k x.1 x.2 s

theorem onlyRegs_samplesCounted (k s0 : Nat) (xs : List Samp) (s : State) :
    s.onlyRegs (samplesCounted k s0 xs s) [convPage k + 4, convPage k + 0x10] := by
  refine forEach_induct (P := fun t => s.onlyRegs t _) (onlyRegs_rfl ..) fun x _ t ht => ?_
  unfold countSample
  dsimp only
  split
  · exact ht
  · refine onlyRegs_andWr ?_ (by simp)
    split
    · split
      · exact onlyRegs_andWr (onlyRegs_andWr ht (by simp)) (by simp)
      · exact onlyRegs_andWr ht (by simp)
    · split
      · exact onlyRegs_andWr ht (by simp)
      · exact ht

theorem trimCsts_lt {y : Nat} (hy : y < 64) : TRIM_CSTS (0x1A0 + pairOf y) < 0x2000000 := by unfold TRIM_CSTS pairOf; omega

/-- Counting samples changes none of the registers that a record is made from. -/
theorem rawRecord_samplesCounted {y : Nat} (hy : y < 64) (s : State) (c : Nat) (w : Win) (s0 : Nat) (xs ys : List Samp) :
    (samplesCounted (pairOf y) s0 xs s).rawRecord y c w ys = s.rawRecord y c w ys := by
  obtain ⟨t, ht⟩ : ∃ t, t = samplesCounted (pairOf y) s0 xs s := ⟨_, rfl⟩
  have honly : s.onlyRegs t [convPage (pairOf y) + 4, convPage (pairOf y) + 0x10] := ht ▸ onlyRegs_samplesCounted ..
  have hadc := adcOn_of_onlyRegs honly (by decide)
  have hclock := clock_of_onlyRegs honly
  have hat (sel p : Nat) : t.adcAt (pairOf y) sel p = s.adcAt (pairOf y) sel p := by rw [State.adcAt, State.adcAt, hadc, hclock]
  have hcorr : t.corrected (pairOf y) = s.corrected (pairOf y) := by
    funext p code
    unfold State.corrected
    dsimp only
    rw [hat, hat]
  have htrim : t.rd (TRIM_CSTS (0x1A0 + pairOf y)) = s.rd (TRIM_CSTS (0x1A0 + pairOf y)) :=
    honly.2 _ (by simp [convPage_add_ne (trimCsts_lt hy)])
  have huns : t.adcUns (pairOf y) = s.adcUns (pairOf y) := by
    funext p
    simp only [State.adcUns, State.trimBad, State.flag, State.fld, State.adc, htrim, hclock, cnv_of_onlyRegs honly]
  rw [← ht]
  simp only [State.rawRecord, hcorr, huns]

/-- A pointer moved past a record that fits stays a register value, whatever the size of the ring. -/
theorem ringWp_next_lt {s : State} {k n : Nat} (h : n ≤ s.ringRoom k) : (s.rdN (ringWP k) + n) % s.ringSize k < 2 ^ 64 := by
  have hsize := ringSize_lt s k
  have hwp : s.rdN (ringWP k) < 2 ^ 64 := BitVec.isLt _
  have hrp : s.rdN (ringRP k) < 2 ^ 64 := BitVec.isLt _
  unfold State.ringRoom at h
  rcases Nat.eq_zero_or_pos (s.ringSize k) with hzero | hpos
  · rw [hzero, Nat.mod_zero] at h ⊢
    omega
  · exact (Nat.mod_lt _ hpos).trans (hsize.trans (by decide))

/-- What counting samples leaves of the registers of the ring and of the channel. -/
theorem rd_samplesCounted (k s0 : Nat) (xs : List Samp) (s : State) {a : Nat} (h4 : a ≠ convPage k + 4) (h10 : a ≠ convPage k + 0x10) :
    (samplesCounted k s0 xs s).rd a = s.rd a :=
  (onlyRegs_samplesCounted k s0 xs s).2 a (by simp [h4, h10])

theorem raw_samplesCounted {y : Nat} (hy : y < 64) {c : Nat} (hc : c < 8) (k s0 : Nat) (xs : List Samp) (s : State) :
    (samplesCounted k s0 xs s).flag (CNV_ACQ_CTL y c) CNV_ACQ_CTL_RAW = s.flag (CNV_ACQ_CTL y c) CNV_ACQ_CTL_RAW := by
  have hlow : CNV_ACQ_CTL y c < 0x2000000 := by unfold CNV_ACQ_CTL; omega
  rw [State.flag, State.flag, State.fld, State.fld, rd_samplesCounted _ _ _ _ (convPage_add_ne hlow _ _) (convPage_add_ne hlow _ _)]

/-- A record of a window that is put in the ring, once its samples have been counted. -/
theorem ringPut_samplesCounted {s : State} {k s0 : Nat} {bs : List (BitVec 8)} (xs : List Samp) (hon : s.ringOn k = true)
    (hroom : bs.length ≤ s.ringRoom k) :
    (ringPut k bs (samplesCounted k s0 xs s)).rdN (ringWP k) = (s.rdN (ringWP k) + bs.length) % s.ringSize k
      ∧ (ringPut k bs (samplesCounted k s0 xs s)).cnv.res
        = ringStore (4096 * s.fld (ringBASE k) CNV_RING_BASE_PAGE) (s.ringSize k) (s.rdN (ringWP k)) bs s.cnv.res := by
  obtain ⟨t, ht⟩ : ∃ t, t = samplesCounted k s0 xs s := ⟨_, rfl⟩
  have hrd {i : Nat} (hi : 0x10 < i) : t.rd (convPage k + i) = s.rd (convPage k + i) :=
    ht ▸ rd_samplesCounted k s0 xs s (by omega) (by omega)
  have hwp : t.rdN (ringWP k) = s.rdN (ringWP k) := congrArg BitVec.toNat (hrd (by decide))
  have hrp : t.rdN (ringRP k) = s.rdN (ringRP k) := congrArg BitVec.toNat (hrd (by decide))
  have hsize : t.ringSize k = s.ringSize k := congrArg (4096 * getF · CNV_RING_PAGES_PAGES) (hrd (by decide))
  have hbase : t.fld (ringBASE k) CNV_RING_BASE_PAGE = s.fld (ringBASE k) CNV_RING_BASE_PAGE :=
    congrArg (getF · CNV_RING_BASE_PAGE) (hrd (by decide))
  have hon' : t.ringOn k = true := (congrArg (getF · CNV_RING_STS_RUNNING == 1) (hrd (by decide))).trans hon
  have hroom' : t.ringRoom k = s.ringRoom k := by rw [State.ringRoom, State.ringRoom, hsize, hwp, hrp]
  have hcnv : t.cnv = s.cnv := ht ▸ cnv_of_onlyRegs (onlyRegs_samplesCounted k s0 xs s)
  rw [← ht, ringPut_of_room hon' (hroom' ▸ hroom), hbase, hsize, hwp, hcnv]
  refine ⟨?_, rfl⟩
  rw [rdN_ringRefresh_ne _ _ (by simp [ringWP, ringSTS]), rdN_wrN]
  exact Nat.mod_eq_of_lt (ringWp_next_lt hroom)

/-- The samples of a window counted, and with RAW its record in the ring of the pair's ADC. -/
def windowRecorded (y c : Nat) (w : Win) (xs : List Samp) (s : State) : State :=
  (samplesCounted (pairOf y) w.s0 xs s).when (s.flag (CNV_ACQ_CTL y c) CNV_ACQ_CTL_RAW)
    (ringPut (pairOf y) (s.rawRecord y c w (xs.take (8 * w.len))))

/-- The first open window, which has passed its last sample, is recorded and closes. -/
theorem acqWindowEnd_of_passed {s : State} {y c : Nat} (hy : y < 64) (hc : c < 8) {w : Win}
    (hopen : (s.dem y c).wins.find? (·.open_) = some w) (hpast : s.reached (w.s0 + 16 * w.len) = true) (xs : List Samp) :
    acqWindowEnd y c xs s = acqRefresh y c ((windowRecorded y c w xs s).modDem y c fun d => { d with wins := closeFirst d.wins }) := by
  have hend : acqWindowEnd y c xs s = acqRefresh y c (((samplesCounted (pairOf y) w.s0 xs s).when
        ((samplesCounted (pairOf y) w.s0 xs s).flag (CNV_ACQ_CTL y c) CNV_ACQ_CTL_RAW)
        (ringPut (pairOf y) ((samplesCounted (pairOf y) w.s0 xs s).rawRecord y c w (xs.take (8 * w.len))))).modDem y c
      fun d => { d with wins := closeFirst d.wins }) := by
    unfold acqWindowEnd
    rw [hopen]
    exact if_neg (not_not_intro hpast)
  rw [hend, raw_samplesCounted hy hc, rawRecord_samplesCounted hy, windowRecorded]

/-- The registers that the end of a window of the pair of ADC `k` may write in the page of that ADC. -/
def recordRegs (k : Nat) : List Nat := [convPage k + 4, convPage k + 0x10, ringWP k, ringSTS k, ringDROP k]

theorem windowRecorded_of_plain {s : State} {y c : Nat} (h : s.flag (CNV_ACQ_CTL y c) CNV_ACQ_CTL_RAW = false) (w : Win) (xs : List Samp) :
    windowRecorded y c w xs s = samplesCounted (pairOf y) w.s0 xs s := by
  rw [windowRecorded, h]
  rfl

theorem windowRecorded_of_raw {s : State} {y c : Nat} (h : s.flag (CNV_ACQ_CTL y c) CNV_ACQ_CTL_RAW = true) (w : Win) (xs : List Samp) :
    windowRecorded y c w xs s
      = ringPut (pairOf y) (s.rawRecord y c w (xs.take (8 * w.len))) (samplesCounted (pairOf y) w.s0 xs s) := by
  rw [windowRecorded, h]
  rfl

theorem windowRecorded_spec (y c : Nat) (w : Win) (xs : List Samp) (s : State) :
    (windowRecorded y c w xs s).dem y c = s.dem y c ∧ CnvTurn (recordRegs (pairOf y)) s (windowRecorded y c w xs s) := by
  have honly := onlyRegs_samplesCounted (pairOf y) w.s0 xs s
  have hdem : (samplesCounted (pairOf y) w.s0 xs s).dem y c = s.dem y c := congrArg (fun v : Cnv => tget v.dems (8 * y + c)) (cnv_of_onlyRegs honly)
  have hturn : CnvTurn (recordRegs (pairOf y)) s (samplesCounted (pairOf y) w.s0 xs s) := (CnvTurn.of_onlyRegs honly).mono (by simp [recordRegs])
  cases hraw : s.flag (CNV_ACQ_CTL y c) CNV_ACQ_CTL_RAW with
  | false =>
    rw [windowRecorded_of_plain hraw]
    exact ⟨hdem, hturn⟩
  | true =>
    rw [windowRecorded_of_raw hraw]
    exact ⟨(dem_ringPut ..).trans hdem, hturn.ringPut (by simp [recordRegs]) (by simp [recordRegs]) (by simp [recordRegs])⟩

/-! ### The clauses of O24 -/

/-- Settles O24: an ARM is `acqArm_of_mast`, `acqArm_of_auto` or `acqArm_of_refused`; a start is `autoStart`, which opens a window or counts a
miss; at the end of a window `samplesCounted` leaves all that its record is made from. That ASTATE reads OPEN from the start command on is
entry 39 of the assumption log. -/
theorem acquisitionArmsOpensAndEndsWindows : Obligations.AcquisitionArmsOpensAndEndsWindows := by
  refine ⟨fun s y c v a ha hy hc hopens harm hbit hcheck => ?_, fun s y c v hy hc hopens harm hcheck => ?_,
    fun s y c v a ha hy hc hopens harm hbit hsame => ?_, fun s y c i hy hc hdue hsrc harm hdev htb1 hoff hstop => ?_,
    fun s y c i hy hc hdue hsrc harm hdev htb1 hcst => ?_, fun s y c e es hy hc hedge hsrc harm hdev htb1 hoff hstop => ?_,
    fun s y c xs w k hy hc hk hopen hpast => ?_⟩
  · subst ha
    have hexec := exec_cnvAcqArm_of_unarmed hopens harm v
    by_cases hsrc : bits v 29 28 = 0
    · obtain ⟨hstatus, hrd, hflag, honly⟩ := acqStored_spec s hy hc (v % 2 ^ 31)
      rw [acqArm_of_mast hcheck hsrc] at hexec
      exact ⟨_, hexec, hstatus, fun h => absurd hsrc h, fun _ => ⟨hrd, hflag.trans (by rw [bit, Nat.testBit_mod_two_pow]; rfl)⟩, honly⟩
    · obtain ⟨hstatus, hrd, hflag, honly⟩ := acqStored_spec s hy hc v
      rw [acqArm_of_auto hcheck hsrc] at hexec
      have hctl := rd_acqCtl_acqRefresh y c ((acqCleared y c s).wrRW (CNV_ACQ_CTL y c) v)
      exact ⟨_, hexec, (status_acqRefresh ..).trans hstatus,
        fun _ => ⟨hctl.trans hrd, (congrArg (getF · CNV_ACQ_CTL_ARM == 1) hctl).trans (hflag.trans hbit)⟩, fun h => absurd h hsrc,
        onlyRegs_trans honly (onlyRegs_acqRefresh ..) (List.Subset.refl _) (by simp)⟩
  · have hexec := exec_cnvAcqArm_of_unarmed hopens harm v
    rw [acqArm_of_refused hcheck] at hexec
    exact ⟨_, hexec, (fld_status ..).trans (Nat.mod_eq_of_lt (acqArmCheck_lt s y c v)),
      onlyRegs_trans (onlyRegs_denyIf ..) (onlyRegs_status ..) (by simp) (by simp)⟩
  · subst ha
    have hset : getF (s.rd (CNV_ACQ_CTL y c)) CNV_ACQ_CTL_ARM = 1 := beq_iff_eq.mp harm
    have hexec : hostWr (CNV_ACQ_CTL y c) (fun s => (acqCtlWrite y c v s).1) s
        = acqRefresh y c (s.setF (CNV_ACQ_CTL y c) CNV_ACQ_CTL_ARM 0) := by
      rw [hostWr_of_opens hopens, acqCtlWrite, if_pos harm, acqDisarm_of_clear harm hbit hsame]
    refine ⟨_, congrArg Host.Outcome.next hexec, (rd_acqCtl_acqRefresh ..).trans ((rd_setF_same ..).trans ?_), rfl,
      onlyRegs_trans (onlyRegs_setF ..) (onlyRegs_acqRefresh ..) (by simp) (by simp)⟩
    exact (insF_zero_of_getF (by decide) hset).1
  · have hexec := (acqTimerStart_of_due hdue hsrc).trans (autoStart_of_running (s := itemTaken i s) ⟨harm, hdev, htb1⟩ hoff hstop _)
    rw [show (itemTaken i s).fld (CNV_ACQ_CTL y c) CNV_ACQ_CTL_SRC = 1 from hsrc] at hexec
    obtain ⟨hlast, hastate, -, hkeeps, hframe⟩ := openWindow_spec y c (ceilFt i.rel + 16 * s.fld (CNV_ACQ_DLY y c) CNV_ACQ_DLY_DLY)
      (s.fld (CNV_ACQ_LEN y c) CNV_ACQ_LEN_LEN) (s.fld (CNV_ACQ_CTL y c) CNV_ACQ_CTL_TAG) 1 (itemTaken i s)
    exact ⟨_, congrArg Host.Outcome.next hexec, hlast, hastate, hkeeps, (congrArg State.bus hframe :),
      (congrArg (fun t : State => { t with bus := s.bus }) hframe :)⟩
  · have hexec := (acqTimerStart_of_due hdue hsrc).trans (autoStart_of_stopped (s := itemTaken i s) ⟨harm, hdev, htb1⟩ hcst _)
    obtain ⟨-, hkeeps⟩ := onlyRegs_inc (itemTaken i s) (DEM_MISS_CNT y)
    exact ⟨_, congrArg Host.Outcome.next hexec, rdN_inc .., rfl, hkeeps, rfl⟩
  · have hexec := (acqTrigStart_of_edge hedge hsrc).trans (autoStart_of_running (s := edgeTaken y c es s) ⟨harm, hdev, htb1⟩ hoff hstop _)
    rw [show (edgeTaken y c es s).fld (CNV_ACQ_CTL y c) CNV_ACQ_CTL_SRC = 2 from hsrc] at hexec
    obtain ⟨hlast, hastate, htrigs, hturn⟩ := openWindow_spec y c (ceilFt (e + 768) + 16 * s.fld (CNV_ACQ_DLY y c) CNV_ACQ_DLY_DLY)
      (s.fld (CNV_ACQ_LEN y c) CNV_ACQ_LEN_LEN) (s.fld (CNV_ACQ_CTL y c) CNV_ACQ_CTL_TAG) 2 (edgeTaken y c es s)
    exact ⟨_, congrArg Host.Outcome.next hexec, hlast, hastate, htrigs.trans (congrArg Dem.trigs (dem_modDem_same ..)),
      (CnvTurn.rfl.setDem : CnvTurn _ s (edgeTaken y c es s)).trans hturn⟩
  · subst hk
    have hk : pairOf y < 32 := by unfold pairOf; omega
    obtain ⟨hdem, hturn⟩ := windowRecorded_spec y c w xs s
    have hne {i : Nat} : convPage (pairOf y) + i ∉ [CNV_ACQ_STS y c, DSC_STS y c] := by
      have hpage := le_convPage (pairOf y)
      have hlow : CNV_ACQ_STS y c < 0x2000000 ∧ DSC_STS y c < 0x2000000 := by unfold CNV_ACQ_STS DSC_STS; omega
      simp only [List.mem_cons, List.not_mem_nil, or_false]
      omega
    rw [cnvSts_eq hk, cnvClipCnt_eq hk]
    refine ⟨_, congrArg Host.Outcome.next (acqWindowEnd_of_passed hy hc hopen hpast xs), ?_, fun hraw => ?_, fun hraw hon hroom => ?_,
      ((hturn.mono (by simp [recordRegs])).setDem).acqRefresh (by simp) (by simp)⟩
    · rw [dem_acqRefresh, dem_modDem_same, hdem]
    · rw [windowRecorded_of_plain hraw]
      exact (congrArg Cnv.res (cnv_of_onlyRegs (onlyRegs_samplesCounted (pairOf y) w.s0 xs s)) :)
    · rw [windowRecorded_of_raw hraw]
      obtain ⟨hwp, hres⟩ := ringPut_samplesCounted (s0 := w.s0) xs hon hroom
      exact ⟨(congrArg BitVec.toNat ((onlyRegs_acqRefresh y c _).2 _ hne)).trans hwp, hres⟩

end Sys2Proof.Laws
end

section
namespace Sys2Proof.Laws
open Sys2Proof.Machine

-- One theorem after another: a thread for each of them passes the memory limit of the check.
set_option Elab.async false

/-! ### Monitor ADCs (Tables 8-6, 8-7) -/

theorem mon_setMon (s : State) (m n : Nat) (x : Mon) : (s.setMon m x).mon n = if n = m then x else s.mon n := tget_tput ..

@[simp] theorem mon_setMon_same (s : State) (m : Nat) (x : Mon) : (s.setMon m x).mon m = x := tget_tput_same ..

theorem monSts_ne_injQ (m : Nat) : monSTS m ≠ convPage (32 + m) + 0xC := by unfold monSTS; omega

theorem rwMask_monCtl : ∀ m < 16, rwMask (monCTL m) = 0xF71 := by decide +kernel

theorem rwMask_monXchk : ∀ m < 16, rwMask (monXCHK m) = 0xFFF8FFFF := by decide +kernel

theorem CnvTurn.monRefresh {as : List Nat} {s₀ s : State} {m : Nat} (h : CnvTurn as s₀ s) (hsts : monSTS m ∈ as)
    (hq : convPage (32 + m) + 0xC ∈ as) : CnvTurn as s₀ (monRefresh m s) :=
  ((h.wr hsts).wr hq).wr hq

/-- MON_INJ_Q shows how many requests wait. -/
theorem wait_monRefresh (m : Nat) (s : State) :
    (monRefresh m s).fld (convPage (32 + m) + 0xC) MON_INJ_Q_WAIT = (s.mon m).waiting.length % 2 ^ 3 :=
  (fld_setF_beside _ _ _ _ _ (by decide) (by decide) (by decide)).trans (fld_setF _ _ _ _ (by decide))

/-- In READY an ADC that converts nothing is IDLE. -/
theorem monSt_monRefresh_of_none {m : Nat} {s : State} (hdev : s.dev = dREADY) (hrun : (s.mon m).run = .none) :
    (monRefresh m s).monSt m = 1 := by
  have hne := monSts_ne_injQ m
  refine (fld_setF_ne _ _ _ _ _ _ hne).trans ((fld_setF_ne _ _ _ _ _ _ hne).trans ((fld_setF _ _ _ _ (by decide)).trans ?_))
  rw [hrun, hdev]
  rfl

/-! ### SCAN_EN and MON_XCHK (R267, R277) -/

theorem monScanEnable_of_check {s : State} {m v : Nat} (hctl : s.monCtlOpen m v = true) (hcheck : s.scanCheck m (bits v 11 8) = 0) :
    monScanEnable m v s = ((s.status (monSTS m) 0).wrRW (monCTL m) v).setMon m { s.mon m with entry := 0, cycles := 0 } := by
  unfold monScanEnable
  dsimp only
  rw [if_neg (not_not_intro hctl), hcheck, denyIf_zero, if_neg (by simp)]
  rfl

theorem monXchkWrite_of_enable {s : State} {m v : Nat} (heven : m % 2 = 0) (hen : s.flag (monXCHK m) MON_XCHK_EN = false)
    (hbit : bit v 31 = true) (hper : bits v 26 19 ≠ 0) (hown : s.ownOf 4 (8 * m + bits v 30 27) = none) :
    monXchkWrite m v s = ((s.status (monSTS m) 0).wrRW (monXCHK m) v).setMon m { s.mon m with cycles := 0, due := false } := by
  have hcheck : s.xchkCheck m v = 0 := by
    unfold State.xchkCheck
    rw [if_neg hper, hown]
  have hodd : ¬m % 2 = 1 := by omega
  unfold monXchkWrite monXchkEnable
  dsimp only
  rw [if_neg hodd, if_pos ⟨hbit, by simp [hen]⟩, if_neg hodd, hcheck, denyIf_zero, if_neg (by simp)]
  rfl

/-! ### Requests (R269 to R273, R277, R278) -/

/-- A request joins the queue. -/
def injQueued (m : Nat) (i : Inj) (s : State) : State := monRefresh m (s.setMon m { s.mon m with waiting := (s.mon m).waiting ++ [i] })

/-- A host's request of MON_INJ. -/
def hostInj (m v : Nat) : Inj := ⟨0, 0, bits v 31 20, 8 * m + v % 8, none⟩

section
variable {s : State} {m : Nat} {i : Inj} (hmay : s.injMay i = true)
include hmay

theorem injRequest_of_room (hst : s.monSt m ≠ 0) (hlen : (s.mon m).waiting.length < 4) : injRequest m i s = (injQueued m i s, 0) := by
  have hcheck : s.injCheck m i = 0 := by simp [State.injCheck, hmay, hst, hlen]
  unfold injRequest
  rw [hcheck]
  rfl

theorem injRequest_of_full (hst : s.monSt m ≠ 0) (hlen : 4 ≤ (s.mon m).waiting.length) :
    injRequest m i s = (s.inc (convPage (32 + m) + 0x28), E_CNV_INJ_OVF) := by
  have hcheck : s.injCheck m i = E_CNV_INJ_OVF := by simp [State.injCheck, hmay, hst, hlen]
  unfold injRequest
  rw [hcheck]
  rfl

theorem injRequest_of_off (hst : s.monSt m = 0) : injRequest m i s = (s, E_MON_STATE) := by
  have hcheck : s.injCheck m i = E_MON_STATE := by simp [State.injCheck, hmay, hst]
  unfold injRequest
  rw [hcheck]
  rfl

end

theorem monInj_of_request {s t : State} {m v code : Nat} (h : injRequest m (hostInj m v) s = (t, code)) :
    monInj m v s = t.status (monSTS m) code := by
  unfold monInj
  rw [show injRequest m ⟨0, 0, bits v 31 20, 8 * m + v % 8, none⟩ s = (t, code) from h]

/-! ### The next work of an ADC (R266, R271, R274, R278) -/

/-- Nothing waits for an ADC at a boundary: no request, no calibration, no cross-check and no scan. -/
structure Unclaimed (s : State) (m : Nat) : Prop where
  waiting : (s.mon m).waiting = []
  calReq : (s.mon m).calReq = false
  due : (s.mon m).due = false
  join : (s.mon m).join = false
  scan : s.flag (monCTL m) MON_CTL_SCAN_EN = false

theorem monNext_of_unclaimed {s : State} {m : Nat} (h : Unclaimed s m) : monNext m s = s.setMon m { s.mon m with run := .none, left := 0 } := by
  obtain ⟨hwait, hcal, hdue, hjoin, hscan⟩ := h
  simp [monNext, hwait, hcal, hdue, hjoin, hscan]

/-- An ADC that nothing waits for goes IDLE. -/
theorem monNext_idle_spec {s t : State} {m : Nat} (h : Unclaimed s m) (hdev : s.dev = dREADY) (ht : t = monRefresh m (monNext m s)) :
    t.mon m = { s.mon m with run := .none, left := 0 } ∧ t.monSt m = 1 ∧ CnvTurn [monSTS m, convPage (32 + m) + 0xC] s t := by
  rw [monNext_of_unclaimed h] at ht
  subst ht
  exact ⟨mon_setMon_same .., monSt_monRefresh_of_none hdev (congrArg Mon.run (mon_setMon_same ..)),
    (CnvTurn.rfl.setMon).monRefresh (by simp) (by simp)⟩

/-- The hub count of the boundary is noted with the ADC. -/
def calEnded (m : Nat) (s : State) : State := s.setMon m { s.mon m with run := .none, input := none, last1 := s.hubFt + 1 }

theorem monCalEnd_of_boundary {s : State} {m : Nat} (hrun : (s.mon m).run = .cal) (hedge : s.hubFt % monPeriod (s.mon m).dr = 0) :
    monCalEnd m s = monRefresh m (monNext m (calEnded m s)) := if_pos ⟨hrun, hedge⟩

/-! ### MON_WORD_BOUNDARY with a settled word of a request (R264, R271, R272) -/

/-- The word of a request as MON_INJ_RES shows it (Table 8-9). -/
def injWord (m code : Nat) (i : Inj) (s : State) : Nat :=
  b01 (s.trimBad (0x1C0 + m)) * 2 ^ 31 + (s.mon m).input.getD 0 % 128 * 2 ^ 24 + code % 2 ^ 24 + 2 ^ 32 * (i.tag % 4096 * 16 + 1)

theorem injWord_lt (m code : Nat) (i : Inj) (s : State) : injWord m code i s < 2 ^ 64 := by
  have hb : b01 (s.trimBad (0x1C0 + m)) ≤ 1 := by unfold b01; split <;> decide
  unfold injWord
  omega

/-- The result stands, and the ADC is free. -/
def injDone (m w : Nat) (s : State) : State :=
  (s.wrN (convPage (32 + m) + 0x10) w).setMon m { s.mon m with run := .none, left := 0 }

/-- The word of a request delivered, to MON_INJ_RES and to a service that waits for it. -/
def injServed (m w : Nat) (i : Inj) (s : State) : State := if i.kind = 1 then injReturn i w (injDone m w s) else injDone m w s

theorem monWord_of_inj {s : State} {m code : Nat} {i : Inj} (hrun : (s.mon m).run = .inj i) (huns : (s.mon m).uns = 0)
    (hring : s.injRing m i = false) : monWord m code false s = injServed m (injWord m code i s) i s := by
  simp [monWord, hrun, huns, hring, injServed, injWord, injDone, monCode, b01]

/-- A service that takes its word is all that changes (R272). -/
theorem injReturn_frame (i : Inj) (w : Nat) (s : State) : { injReturn i w s with wch := s.wch } = s := by
  unfold injReturn injTell
  split
  · rfl
  · rfl

theorem injServed_frame (m w : Nat) (i : Inj) (s : State) : { injServed m w i s with wch := s.wch } = injDone m w s := by
  unfold injServed
  split
  · exact injReturn_frame i w (injDone m w s)
  · rfl

theorem mon_injServed (m w : Nat) (i : Inj) (s : State) : (injServed m w i s).mon m = { s.mon m with run := .none, left := 0 } :=
  (congrArg (fun t : State => t.mon m) (injServed_frame m w i s) :).trans (mon_setMon_same ..)

theorem rd_injServed (m w : Nat) (i : Inj) (s : State) (a : Nat) : (injServed m w i s).rd a = (injDone m w s).rd a :=
  (congrArg (fun t : State => t.rd a) (injServed_frame m w i s) :)

theorem rd_injServed_ne (m w : Nat) (i : Inj) (s : State) {a : Nat} (ha : a ≠ convPage (32 + m) + 0x10) :
    (injServed m w i s).rd a = s.rd a :=
  (rd_injServed ..).trans (rd_wrN_ne _ _ _ _ ha)

/-- The hub count of the boundary noted with the ADC. -/
def boundaryNoted (m : Nat) (s : State) : State := s.setMon m { s.mon m with last1 := s.hubFt + 1 }

theorem mon_boundaryNoted (m : Nat) (s : State) : (boundaryNoted m s).mon m = { s.mon m with last1 := s.hubFt + 1 } := mon_setMon_same ..

theorem monBreak_of_not_scan {s : State} {m : Nat} (h : (s.mon m).run ≠ .scan) : monBreak m s = s := if_neg fun hscan => h hscan.1

theorem monRate_of_same {s : State} {m : Nat} (h : (s.mon m).dr = s.fld (monCTL m) MON_CTL_DR) : monRate m s = s := if_pos h

theorem injWord_boundaryNoted (m code : Nat) (i : Inj) (s : State) : injWord m code i (boundaryNoted m s) = injWord m code i s := by
  have hinput : ((boundaryNoted m s).mon m).input = (s.mon m).input := (congrArg Mon.input (mon_boundaryNoted m s) :)
  have htrim : (boundaryNoted m s).trimBad (0x1C0 + m) = s.trimBad (0x1C0 + m) := rfl
  rw [injWord, injWord, hinput, htrim]

/-- At a boundary the settled word of a request is delivered, and the ADC turns to its next work. -/
theorem monWordBoundary_of_inj {s : State} {m : Nat} {i : Inj} (hdev : s.dev = dREADY) (hedge : s.monBoundary m = true)
    (hrun : (s.mon m).run = .inj i) (huns : (s.mon m).uns = 0) (hring : s.injRing m i = false)
    (hrate : s.fld (monCTL m) MON_CTL_DR = (s.mon m).dr) (code code1 : Nat) (ovr1 : Bool) :
    monWordBoundary m code false code1 ovr1 s = monRefresh m (monNext m (injServed m (injWord m code i s) i (boundaryNoted m s))) := by
  have hnoted := mon_boundaryNoted m s
  obtain ⟨u, hu⟩ : ∃ u, u = injServed m (injWord m code i s) i (boundaryNoted m s) := ⟨_, rfl⟩
  have hfree : u.mon m = { (boundaryNoted m s).mon m with run := .none, left := 0 } := hu ▸ mon_injServed ..
  have hnone : (u.mon m).run = .none := congrArg Mon.run hfree
  have hdr : (u.mon m).dr = u.fld (monCTL m) MON_CTL_DR := by
    rw [hfree, hnoted, hu, State.fld, rd_injServed_ne _ _ _ _ (show monCTL m ≠ convPage (32 + m) + 0x10 by unfold monCTL; omega)]
    exact hrate.symm
  have hword : monBreak m (monWord m code false (s.setMon m { s.mon m with last1 := s.hubFt + 1 })) = u := by
    have hserved := monWord_of_inj (code := code) (s := boundaryNoted m s) ((congrArg Mon.run hnoted).trans hrun)
      ((congrArg Mon.uns hnoted).trans huns) hring
    rw [injWord_boundaryNoted, ← hu] at hserved
    rw [← boundaryNoted, hserved]
    exact monBreak_of_not_scan (by rw [hnone]; decide)
  have hon : ¬(s.dev = dBOOT ∨ s.dev = dCONFIG ∨ s.dev = dSAFE ∨ ¬s.monBoundary m = true) := by
    rw [hdev, hedge]
    decide
  rw [← hu]
  unfold monWordBoundary
  rw [if_neg hon]
  dsimp only at hword ⊢
  split
  · next h => exact absurd (hrun.symm.trans h) (by simp)
  · next h => exact absurd (hrun.symm.trans h) (by simp)
  · rw [hword, hnone, monRate_of_same hdr]

theorem rdN_injRes_injServed {m w : Nat} (hw : w < 2 ^ 64) (i : Inj) (s : State) : (injServed m w i s).rdN (convPage (32 + m) + 0x10) = w :=
  (congrArg BitVec.toNat (rd_injServed ..)).trans ((rdN_wrN s _ _).trans (Nat.mod_eq_of_lt hw))

/-- Delivering a word leaves what waits for the ADC. -/
theorem unclaimed_injServed {s : State} {m : Nat} (h : Unclaimed s m) (w : Nat) (i : Inj) :
    Unclaimed (injServed m w i (boundaryNoted m s)) m := by
  obtain ⟨hwait, hcal, hdue, hjoin, hscan⟩ := h
  have hmon := (mon_injServed m w i (boundaryNoted m s)).trans
    (congrArg (fun x : Mon => { x with run := .none, left := 0 }) (mon_boundaryNoted m s))
  have hctl : (injServed m w i (boundaryNoted m s)).rd (monCTL m) = s.rd (monCTL m) :=
    rd_injServed_ne _ _ _ _ (by unfold monCTL; omega)
  exact ⟨(congrArg Mon.waiting hmon).trans hwait, (congrArg Mon.calReq hmon).trans hcal, (congrArg Mon.due hmon).trans hdue,
    (congrArg Mon.join hmon).trans hjoin, (congrArg (getF · MON_CTL_SCAN_EN == 1) hctl).trans hscan⟩

/-- What a settled word of a request leaves: the word, an ADC that is IDLE, and of the Winch only what a service is told. -/
theorem injServed_idle_spec {s t : State} {m w : Nat} (hw : w < 2 ^ 64) {i : Inj} (h : Unclaimed s m) (hdev : s.dev = dREADY)
    (ht : t = monRefresh m (monNext m (injServed m w i (boundaryNoted m s)))) :
    t.rdN (convPage (32 + m) + 0x10) = w ∧ (t.mon m).run = .none ∧ (t.mon m).last1 = s.hubFt + 1 ∧ t.monSt m = 1
      ∧ (i.kind ≠ 1 → t.wch = s.wch) ∧ s.keeps t [convPage (32 + m) + 0x10, monSTS m, convPage (32 + m) + 0xC]
      ∧ { t with regs := s.regs, cnv := s.cnv, wch := s.wch } = s := by
  obtain ⟨u, hu⟩ : ∃ u, u = injServed m w i (boundaryNoted m s) := ⟨_, rfl⟩
  have hwch : { u with wch := s.wch } = injDone m w (boundaryNoted m s) := hu ▸ injServed_frame m w i (boundaryNoted m s)
  have hrd {a : Nat} (ha : a ≠ convPage (32 + m) + 0x10) : u.rd a = s.rd a := hu ▸ rd_injServed_ne m w i (boundaryNoted m s) ha
  have hres : u.rdN (convPage (32 + m) + 0x10) = w :=
    hu ▸ rdN_injRes_injServed hw i _
  have hlast : (u.mon m).last1 = s.hubFt + 1 := by rw [hu, mon_injServed, mon_boundaryNoted]
  have hdone : CnvTurn [convPage (32 + m) + 0x10] s (injDone m w (boundaryNoted m s)) := (CnvTurn.setMon CnvTurn.rfl).wr (by simp)
  have hkind (hk : i.kind ≠ 1) : u.wch = s.wch := by rw [hu, injServed, if_neg hk]; rfl
  have hudev : u.dev = dREADY := (congrArg (getF · GLB_STATE_STATE) (hrd (glbState_ne_convPage_add _ _))).trans hdev
  rw [← hu] at ht
  obtain ⟨hmon, hst, hkeeps, hframe⟩ := monNext_idle_spec (hu ▸ unclaimed_injServed h w i) hudev ht
  refine ⟨?_, congrArg Mon.run hmon, (congrArg Mon.last1 hmon).trans hlast, hst, fun hk => (congrArg State.wch hframe :).trans (hkind hk),
    fun a ha => ?_, ?_⟩
  · exact (congrArg BitVec.toNat (hkeeps _ (by simp [monSTS]))).trans hres
  · simp only [List.mem_cons, List.not_mem_nil, or_false, not_or] at ha
    obtain ⟨hne, hsts, hq⟩ := ha
    exact (hkeeps a (by simp [hsts, hq])).trans (hrd hne)
  · calc { t with regs := s.regs, cnv := s.cnv, wch := s.wch }
        = { u with regs := s.regs, cnv := s.cnv, wch := s.wch } :=
          (congrArg (fun x : State => { x with regs := s.regs, cnv := s.cnv, wch := s.wch }) hframe :)
      _ = { injDone m w (boundaryNoted m s) with regs := s.regs, cnv := s.cnv } :=
          congrArg (fun x : State => { x with regs := s.regs, cnv := s.cnv }) hwch
      _ = s := hdone.2

/-! ### The clauses of O25 -/

/-- Settles O25: a register write that passes its checks is stored by `wrRW`; a request is `injRequest`, by what it finds; at a boundary that
ends a calibration or delivers a settled word nothing else waits for the ADC, so that `monNext` leaves it IDLE. -/
theorem monitorsScanInjectCheckAndCalibrate : Obligations.MonitorsScanInjectCheckAndCalibrate := by
  refine ⟨fun s m v hm hopens hen hbit hctl hcheck => ?_, fun s m v hm hopens hen heven hctl => ?_,
    fun s m v i hm hi hopens hmay hst hlen hdev => ?_, fun s m v hm hopens hmay hst hlen => ?_, fun s m v hm hopens hmay hst => ?_,
    fun s m v hm heven hopens hen hbit hper hown => ?_, fun s m v hm hodd hopens => ?_, fun s m => ?_,
    fun s m hm hrun hedge hwait hcal hdue hjoin hscan hdev => ?_,
    fun s m i code code1 ovr1 hm hdev hedge hrun huns hwait hcal hdue hjoin hscan hring hrate => ?_, fun s m hm => ?_⟩
  · have hne : monCTL m ≠ monSTS m := by unfold monCTL monSTS; omega
    have hexec : exec (.monScanEnable m v) s = .next (monScanEnable m v s) :=
      congrArg Host.Outcome.next ((hostWr_of_opens hopens _).trans (if_neg (by simp [hen])))
    rw [monScanEnable_of_check hctl hcheck] at hexec
    refine ⟨_, hexec, ?_, (flag_wrRW _ v (rwMask_monCtl m hm) (by decide) (by decide)).trans hbit,
      (fld_wr_ne _ _ _ _ _ hne.symm).trans (fld_status _ _ 0), mon_setMon_same .., ((CnvTurn.rfl.wr (by simp)).wr (by simp)).setMon⟩
    exact (rd_wrRW_same ..).trans (by rw [rd_status_ne _ _ _ _ hne])
  · have hexec : exec (.monScanDisable m v) s = .next (s.wrRW (monCTL m) v) := by
      refine congrArg Host.Outcome.next ((hostWr_of_opens hopens _).trans ?_)
      rw [show v / 2 * 2 = v by omega, monScanDisable, if_neg (not_not_intro hctl)]
    refine ⟨_, hexec, (flag_wrRW _ v (rwMask_monCtl m hm) (by decide) (by decide)).trans ?_, rd_wrRW_same .., onlyRegs_wr ..⟩
    simpa [bit] using heven
  · subst hi
    have hexec := (hostWr_of_opens (monInj_eq m ▸ hopens) (monInj m v)).trans (monInj_of_request (injRequest_of_room hmay hst hlen))
    rw [monInjQ_eq]
    refine ⟨_, congrArg Host.Outcome.next hexec, mon_setMon_same .., ?_, fld_status _ _ 0,
      ((CnvTurn.rfl.setMon).monRefresh (by simp) (by simp)).wr (by simp)⟩
    refine (fld_setF_ne _ _ _ _ _ _ (monSts_ne_injQ m).symm).trans ((wait_monRefresh ..).trans ?_)
    rw [mon_setMon_same, List.length_append]
    exact Nat.mod_eq_of_lt (by simp; omega)
  · have hne : monSTS m ≠ convPage (32 + m) + 0x28 := by unfold monSTS; omega
    have hexec := (hostWr_of_opens (monInj_eq m ▸ hopens) (monInj m v)).trans (monInj_of_request (injRequest_of_full hmay hst hlen))
    rw [monInjOvfCnt_eq]
    exact ⟨_, congrArg Host.Outcome.next hexec, fld_status _ _ E_CNV_INJ_OVF, (rdN_status_ne _ _ _ _ hne.symm).trans (rdN_inc ..),
      onlyRegs_trans (onlyRegs_inc ..) (onlyRegs_status ..) (by simp) (by simp)⟩
  · have hexec := (hostWr_of_opens (monInj_eq m ▸ hopens) (monInj m v)).trans (monInj_of_request (injRequest_of_off hmay hst))
    exact ⟨_, congrArg Host.Outcome.next hexec, fld_status _ _ E_MON_STATE, onlyRegs_status ..⟩
  · have hne : monSTS m ≠ monXCHK m := by unfold monSTS monXCHK; omega
    have hexec := (hostWr_of_opens hopens (monXchkWrite m v)).trans (monXchkWrite_of_enable heven hen hbit hper hown)
    exact ⟨_, congrArg Host.Outcome.next hexec, (flag_wrRW _ v (rwMask_monXchk m hm) (by decide) (by decide)).trans hbit,
      fld_wrRW _ v (rwMask_monXchk m hm) (by decide) (by decide), fld_wrRW _ v (rwMask_monXchk m hm) (by decide) (by decide),
      (fld_wrRW _ v (rwMask_monXchk m hm) (by decide) (by decide)).trans (by simp [MON_XCHK_THR]),
      (fld_wr_ne _ _ _ _ _ hne).trans (fld_status _ _ 0), mon_setMon_same .., ((CnvTurn.rfl.wr (by simp)).wr (by simp)).setMon⟩
  · have hexec : hostWr (monXCHK m) (monXchkWrite m v) s = s.inc (convWdrop (32 + m)) := (hostWr_of_opens hopens _).trans (if_pos hodd)
    exact ⟨_, congrArg Host.Outcome.next hexec, rdN_inc .., onlyRegs_inc ..⟩
  · exact ⟨_, rfl, mon_setMon_same .., fun n hn => (mon_setMon ..).trans (if_neg hn), rfl⟩
  · have hnoted : (calEnded m s).mon m = { s.mon m with run := .none, input := none, last1 := s.hubFt + 1 } := mon_setMon_same ..
    have hfree : Unclaimed (calEnded m s) m := ⟨(congrArg Mon.waiting hnoted).trans hwait, (congrArg Mon.calReq hnoted).trans hcal,
      (congrArg Mon.due hnoted).trans hdue, (congrArg Mon.join hnoted).trans hjoin, hscan⟩
    obtain ⟨hmon, hst, hturn⟩ := monNext_idle_spec hfree hdev rfl
    rw [monInjQ_eq]
    exact ⟨_, congrArg Host.Outcome.next (monCalEnd_of_boundary hrun hedge), congrArg Mon.run hmon,
      (congrArg Mon.input hmon).trans (congrArg Mon.input hnoted), (congrArg Mon.last1 hmon).trans (congrArg Mon.last1 hnoted), hst,
      (CnvTurn.rfl.setMon : CnvTurn _ s (calEnded m s)).trans hturn⟩
  · rw [monInjRes_eq, monInjQ_eq]
    exact ⟨_, congrArg Host.Outcome.next (monWordBoundary_of_inj hdev hedge hrun huns hring hrate code code1 ovr1),
      injServed_idle_spec (injWord_lt m code i s) ⟨hwait, hcal, hdue, hjoin, hscan⟩ hdev rfl⟩
  · exact congrArg Host.Outcome.next (if_neg fun h => absurd h.1 (by omega))

end Sys2Proof.Laws
end

section
namespace Sys2Proof.Laws
open Sys2Proof.Machine

-- One theorem after another: a thread for each of them passes the memory limit of the check.
set_option Elab.async false

/-! ### DEM_CTL (R301, R315) -/

theorem demSts_ne_wdropCnt (y c : Nat) : DEM_STS y c ≠ DEM_WDROP_CNT y := by unfold DEM_STS DEM_WDROP_CNT; omega

/-- A write that the rules of the channel take is stored; with a change of RUN in CAL, READY or RUN the channel follows at the next edge. -/
theorem demCtlWrite_of_taken {s : State} {y c v : Nat} (hrun : bit v 31 ≠ s.flag (DEM_CTL y c) DEM_CTL_RUN) (hsec : bits v 5 4 ≠ 3)
    (hsel : (bits v 5 4 = s.fld (DEM_CTL y c) DEM_CTL_SECOND ∧ v % 2 = s.fld (DEM_CTL y c) DEM_CTL_FIRSEL) ∨ s.cst y c = cOFF
      ∨ s.cst y c = cSTOPPED)
    (hgrp : s.ygst y = gIDLE ∨ s.ygst y = gPAUSED) (hdev : s.dev = dCAL ∨ s.dev = dREADY ∨ s.dev = dRUN) :
    demCtlWrite y c v s = demNext y c (s.wrRW (DEM_CTL y c) v) := by
  have hdev' : (s.wrRW (DEM_CTL y c) v).dev = s.dev := fld_wr_ne _ _ _ _ _ (by unfold GLB_STATE DEM_CTL; omega)
  unfold demCtlWrite
  dsimp only
  rw [if_neg (by tauto), if_neg hsec, if_neg (by tauto), if_pos ⟨hrun, by rwa [hdev']⟩]

/-- A change of RUN while the yard's group is neither IDLE nor PAUSED is discarded (R315). -/
theorem demCtlWrite_of_busy {s : State} {y c v : Nat} (hrun : bit v 31 ≠ s.flag (DEM_CTL y c) DEM_CTL_RUN) (hidle : s.ygst y ≠ gIDLE)
    (hpaused : s.ygst y ≠ gPAUSED) : demCtlWrite y c v s = s.inc (DEM_WDROP_CNT y) :=
  if_pos ⟨hrun, hidle, hpaused⟩

/-- A change of SECOND while the channel runs is refused (R301). -/
theorem demCtlWrite_of_running {s : State} {y c v : Nat} (hrun : bit v 31 = s.flag (DEM_CTL y c) DEM_CTL_RUN) (hsec : bits v 5 4 ≠ 3)
    (hmove : bits v 5 4 ≠ s.fld (DEM_CTL y c) DEM_CTL_SECOND) (hoff : s.cst y c ≠ cOFF) (hstop : s.cst y c ≠ cSTOPPED) :
    demCtlWrite y c v s = (s.status (DEM_STS y c) E_DEM_RUNNING).inc (DEM_WDROP_CNT y) := by
  unfold demCtlWrite
  dsimp only
  rw [if_neg (fun h => h.1 hrun), if_neg hsec, if_pos ⟨.inl hmove, hoff, hstop⟩]

/-- A refusal stands in DEM_STS.STATUS and is counted (R301, R309). -/
theorem demRefused_spec (s : State) (y c : Nat) {code : Nat} (hcode : code < 2 ^ 16) {t : State}
    (ht : t = (s.status (DEM_STS y c) code).inc (DEM_WDROP_CNT y)) :
    t.fld (DEM_STS y c) DEM_STS_STATUS = code ∧ t.rdN (DEM_WDROP_CNT y) = min 0xFFFFFFFF (s.rdN (DEM_WDROP_CNT y) + 1)
      ∧ s.onlyRegs t [DEM_STS y c, DEM_WDROP_CNT y] := by
  subst ht
  refine ⟨?_, ?_, onlyRegs_trans (onlyRegs_status ..) (onlyRegs_inc ..) (by simp) (by simp)⟩
  · rw [fld_inc_ne _ _ _ _ (demSts_ne_wdropCnt y c)]
    exact (fld_status _ _ code).trans (Nat.mod_eq_of_lt hcode)
  · rw [rdN_inc, rdN_status_ne _ _ _ _ (demSts_ne_wdropCnt y c).symm]

/-! ### The edge at which a channel follows RUN (Tables 9-5, 9-6) -/

/-- The edge has come. -/
def edgeCome (y c : Nat) (s : State) : State := s.modDem y c fun d => { d with edge := none }

theorem dem_edgeCome (y c : Nat) (s : State) : (edgeCome y c s).dem y c = { s.dem y c with edge := none } := dem_modDem_same ..

theorem demEdge_of_start {s : State} {y c e : Nat} (hedge : (s.dem y c).edge = some e) (hnow : e ≤ s.clock.now)
    (hrun : s.flag (DEM_CTL y c) DEM_CTL_RUN = true) (hen : s.chanEn y c = true) (hcst : s.cst y c = cSTOPPED) :
    demEdge y c s = markChange y c s.clock.now (((edgeCome y c s).setCst y c cSETTLING).modDem y c fun d => { d with startAt := s.clock.now }) := by
  have hcome : demEdge y c s = demStart y c (edgeCome y c s) := by
    unfold demEdge
    rw [hedge]
    exact (if_neg (Nat.not_lt.mpr hnow)).trans (if_pos hrun)
  rw [hcome]
  exact if_pos ⟨hen, hcst, hrun⟩

theorem demEdge_of_stop {s : State} {y c e : Nat} (hedge : (s.dem y c).edge = some e) (hnow : e ≤ s.clock.now)
    (hrun : s.flag (DEM_CTL y c) DEM_CTL_RUN = false) (hcst : s.cst y c = cSETTLING ∨ s.cst y c = cRUNNING) :
    demEdge y c s = demHalt y c (endWins y c (·.open_) (edgeCome y c s)) := by
  unfold demEdge
  rw [hedge]
  exact (if_neg (Nat.not_lt.mpr hnow)).trans ((if_neg (Bool.eq_false_iff.mp hrun)).trans (if_pos hcst))

theorem demSts_ne_demCtl (y c : Nat) : DEM_STS y c ≠ DEM_CTL y c := by unfold DEM_STS DEM_CTL; omega

/-- A channel that starts is in SETTLING, and its first N kernel samples are marked (Table 9-4). -/
theorem demEdge_start_spec {s t : State} {y c e : Nat} (hedge : (s.dem y c).edge = some e) (hnow : e ≤ s.clock.now)
    (hrun : s.flag (DEM_CTL y c) DEM_CTL_RUN = true) (hen : s.chanEn y c = true) (hcst : s.cst y c = cSTOPPED) (ht : t = demEdge y c s) :
    t.cst y c = cSETTLING
      ∧ t.dem y c = { s.dem y c with edge := none, startAt := s.clock.now,
                                     uns := (s.clock.now, s.clock.now + 16 * (s.kN y c * s.kR y c)) :: (s.dem y c).uns.take 63 }
      ∧ CnvTurn [DEM_STS y c] s t := by
  rw [demEdge_of_start hedge hnow hrun hen hcst] at ht
  obtain ⟨u, hu⟩ : ∃ u, u = ((edgeCome y c s).setCst y c cSETTLING).modDem y c fun d => { d with startAt := s.clock.now } := ⟨_, rfl⟩
  have hsec : u.fld (DEM_CTL y c) DEM_CTL_SECOND = s.fld (DEM_CTL y c) DEM_CTL_SECOND :=
    hu ▸ fld_setF_ne _ _ _ _ _ _ (demSts_ne_demCtl y c).symm
  have hmarks : u.kN y c * u.kR y c = s.kN y c * s.kR y c := by
    unfold State.kN State.kR
    rw [hsec]
  have hdem : u.dem y c = { s.dem y c with edge := none, startAt := s.clock.now } := by
    have hcome : ((edgeCome y c s).setCst y c cSETTLING).dem y c = { s.dem y c with edge := none } := dem_edgeCome y c s
    rw [hu, dem_modDem_same, hcome]
  rw [← hu] at ht
  subst ht
  refine ⟨hu ▸ fld_setF _ _ _ _ (by decide), ?_, ?_⟩
  · rw [markChange, dem_modDem_same, hdem, hmarks]
    rfl
  · rw [hu]
    exact ((CnvTurn.rfl.setDem.wr (by simp)).setDem).setDem

/-- Where windows of a channel end without a record, the others stay. -/
theorem endWins_spec (y c : Nat) (p : Win → Bool) (s : State) :
    (endWins y c p s).dem y c = { s.dem y c with wins := (s.dem y c).wins.filter fun w => !p w }
      ∧ CnvTurn [CNV_ACQ_STS y c, DSC_STS y c] s (endWins y c p s) :=
  ⟨(dem_acqRefresh ..).trans (dem_modDem_same ..), (CnvTurn.rfl.withCnv.setDem).acqRefresh (by simp) (by simp)⟩

theorem demSts_not_mem_acqSts (y c : Nat) : DEM_STS y c ∉ [CNV_ACQ_STS y c, DSC_STS y c] := by
  simp only [List.mem_cons, List.not_mem_nil, or_false, DEM_STS, CNV_ACQ_STS, DSC_STS]
  omega

/-- A channel that stops is STOPPED, or OFF where the image disables it; nothing else of it changes. -/
theorem demHalt_spec (y c : Nat) (s : State) : (demHalt y c s).cst y c = (if s.chanEn y c = true then cSTOPPED else cOFF)
    ∧ (demHalt y c s).dem y c = s.dem y c ∧ s.onlyRegs (demHalt y c s) [DEM_STS y c, CNV_ACQ_STS y c, DSC_STS y c] := by
  have hcst {u : State} : (acqRefresh y c u).cst y c = u.cst y c :=
    fld_of_onlyRegs (onlyRegs_acqRefresh y c u) (demSts_not_mem_acqSts y c) _
  unfold demHalt
  by_cases hen : s.chanEn y c = true
  · rw [if_pos hen, if_pos hen]
    exact ⟨hcst.trans (fld_setF _ _ _ _ (by decide)), rfl, onlyRegs_trans (onlyRegs_setF ..) (onlyRegs_acqRefresh ..) (by simp) (by simp)⟩
  · rw [if_neg hen, if_neg hen]
    exact ⟨hcst.trans (fld_setF _ _ _ _ (by decide)), rfl, onlyRegs_trans (onlyRegs_setF ..) (onlyRegs_acqRefresh ..) (by simp) (by simp)⟩

/-- A channel that stops ends its open windows. -/
theorem demEdge_stop_spec {s t : State} {y c e : Nat} (hedge : (s.dem y c).edge = some e) (hnow : e ≤ s.clock.now)
    (hrun : s.flag (DEM_CTL y c) DEM_CTL_RUN = false) (hcst : s.cst y c = cSETTLING ∨ s.cst y c = cRUNNING) (ht : t = demEdge y c s) :
    t.cst y c = (if s.chanEn y c = true then cSTOPPED else cOFF)
      ∧ t.dem y c = { s.dem y c with edge := none, wins := (s.dem y c).wins.filter fun w => !w.open_ }
      ∧ CnvTurn [DEM_STS y c, CNV_ACQ_STS y c, DSC_STS y c] s t := by
  obtain ⟨u, hu⟩ : ∃ u, u = endWins y c (·.open_) (edgeCome y c s) := ⟨_, rfl⟩
  obtain ⟨hwins, hended⟩ := hu ▸ endWins_spec y c (·.open_) (edgeCome y c s)
  obtain ⟨hhalt, hsame, honly⟩ := demHalt_spec y c u
  rw [demEdge_of_stop hedge hnow hrun hcst, ← hu] at ht
  subst ht
  have hen : u.chanEn y c = s.chanEn y c := by rw [hu]; rfl
  refine ⟨hen ▸ hhalt, hsame.trans (hwins.trans ?_), CnvTurn.trans ?_ (CnvTurn.of_onlyRegs honly)⟩
  · rw [dem_edgeCome]
  · exact (CnvTurn.rfl.setDem : CnvTurn _ s (edgeCome y c s)).trans (hended.mono (by simp))

/-! ### Kernel banks (R307, R309) -/

/-- A write of a kernel weight reaches the rules of its bank. -/
theorem exec_kernelWeightWrite_of_weight {s : State} {y c b m : Nat} (hm : m < 512) (hopens : s.opens (DEM_KW y c b m)) (v : Nat) :
    exec (.kernelWeightWrite y c b m v) s = .next (kwWrite y c b m v s) :=
  (if_neg (by omega)).trans (congrArg Host.Outcome.next (hostWr_of_opens hopens _))

/-- Lengths that the banks take are stored. -/
theorem klenWrite_of_taken {s : State} {y c v : Nat} (ha : 0 < bits v 9 0 ∧ bits v 9 0 ≤ 512) (hb : 0 < bits v 25 16 ∧ bits v 25 16 ≤ 512)
    (hkeepA : bits v 9 0 = s.kLen y c 0 ∨ s.bankBusy y c 0 = false) (hkeepB : bits v 25 16 = s.kLen y c 1 ∨ s.bankBusy y c 1 = false) :
    (klenWrite y c v s).1 = s.wrN (DEM_KLEN y c) (bits v 9 0 + 2 ^ 16 * bits v 25 16) := by
  have hA : (bits v 9 0 != s.kLen y c 0 && s.bankBusy y c 0) = false := by rcases hkeepA with h | h <;> simp [h]
  have hB : (bits v 25 16 != s.kLen y c 1 && s.bankBusy y c 1) = false := by rcases hkeepB with h | h <;> simp [h]
  unfold klenWrite
  dsimp only
  rw [if_neg (show ¬ (bits v 25 16 = 0 ∨ bits v 9 0 = 0) by omega), if_neg (show ¬ (512 < bits v 25 16 ∨ 512 < bits v 9 0) by omega), hA, hB]
  rfl

/-- The two lengths as DEM_KLEN holds them. -/
theorem kLen_wrN (s : State) (y c : Nat) {a b : Nat} (ha : a < 2 ^ 10) (hb : b < 2 ^ 10) :
    (s.wrN (DEM_KLEN y c) (a + 2 ^ 16 * b)).kLen y c 0 = a ∧ (s.wrN (DEM_KLEN y c) (a + 2 ^ 16 * b)).kLen y c 1 = b := by
  have hfld (f : Fld) (hf : f.2 ≤ 64) :
      (s.wrN (DEM_KLEN y c) (a + 2 ^ 16 * b)).fld (DEM_KLEN y c) f = (a + 2 ^ 16 * b) / 2 ^ f.1 % 2 ^ f.2 := by
    rw [State.fld, State.wrN, rd_wr_same, getF_ofNat (by omega) f hf]
  unfold State.kLen
  rw [if_pos rfl, if_neg (by decide), hfld _ (by decide), hfld _ (by decide)]
  simp only [DEM_KLEN_LEN_A, DEM_KLEN_LEN_B]
  omega

/-! ### DSC_CFG (R329, R330) -/

theorem dscCfgWrite_of_idle {s : State} {y c v : Nat} (hidle : s.yIdle y = true) : dscCfgWrite y c v s =
    if s.dscCfgCheck y c v = 0 then
      ((s.denyIf (s.dscCfgCheck y c v) 8 (v % 1024) 1 y).status (DSC_STS y c) (s.dscCfgCheck y c v)).wrRW (DSC_CFG y c) v
    else (s.denyIf (s.dscCfgCheck y c v) 8 (v % 1024) 1 y).status (DSC_STS y c) (s.dscCfgCheck y c v) :=
  if_neg (not_not_intro hidle)

theorem dscCfgWrite_of_busy {s : State} {y : Nat} (hidle : s.yIdle y = false) (c v : Nat) : dscCfgWrite y c v s = s.inc (DSC_WDROP_CNT y) :=
  if_pos (by simp [hidle])

/-- A refusal of a write of DSC_CFG has one of three codes. -/
theorem dscCfgCheck_lt (s : State) (y c v : Nat) : s.dscCfgCheck y c v < 2 ^ 16 := by
  unfold State.dscCfgCheck
  dsimp only
  split_ifs
  all_goals decide

theorem dscSts_ne_dscCfg (y c : Nat) : DSC_STS y c ≠ DSC_CFG y c := by unfold DSC_STS DSC_CFG; omega

/-! ### The clauses of O27 -/

/-- Settles O27: a write of DEM_CTL is `demCtlWrite_of_taken`, `demCtlWrite_of_busy` or `demCtlWrite_of_running`; the edge after it is
`demEdge_start_spec` or `demEdge_stop_spec`; weights and lengths are stored or dropped by `bankBusy`, DSC_CFG by the group and its checks. -/
theorem demodulationChannelsTakeTheirSettings : Obligations.DemodulationChannelsTakeTheirSettings := by
  refine ⟨fun s y c v hy hc hopens hrun hsec hsel hgrp hdev => ?_, fun s t y c e hy hc hedge hnow hrun hen hcst ht => ?_,
    fun s t y c e hy hc hedge hnow hrun hcst ht => ?_, fun s y c v hy hc hopens hrun hidle hpaused => ?_,
    fun s y c v hy hc hopens hrun hsec hmove hoff hstop => ?_, fun s y c hcst hnow => ?_,
    fun s y c b m v hy hc hb hm hopens hfree => ?_, fun s y c b m v hy hc hb hm hopens hbusy => ?_,
    fun s y c b v hy hc hopens ha ha' hb hb' hkeepA hkeepB => ?_, fun s y c v hy hc hopens hidle hcheck => ?_,
    fun s y c v hy hc hopens hidle hcheck => ?_, fun s y c v hy hc hopens hidle => ?_⟩
  · have hexec := (hostWr_of_opens hopens (demCtlWrite y c v)).trans (demCtlWrite_of_taken hrun hsec hsel hgrp hdev)
    have htb1 : (s.wrRW (DEM_CTL y c) v).tb1Run = s.tb1Run :=
      congrArg (· == tbRUNNING) (fld_wr_ne _ _ _ _ _ (by unfold STAY_STS DEM_CTL; omega))
    have hedge : (s.wrRW (DEM_CTL y c) v).nextEdge = s.nextEdge := by
      unfold State.nextEdge State.phase
      rw [htb1]
      rfl
    refine ⟨_, congrArg Host.Outcome.next hexec, rd_wrRW_same .., (dem_modDem_same ..).trans ?_, (CnvTurn.rfl.wr (by simp)).setDem⟩
    rw [hedge]
    rfl
  · obtain ⟨hsettling, hdem, hturn⟩ := demEdge_start_spec hedge hnow hrun hen hcst ht
    rw [hdem]
    exact ⟨hsettling, rfl, rfl, rfl, rfl, hturn⟩
  · exact demEdge_stop_spec hedge hnow hrun hcst ht
  · have hexec := (hostWr_of_opens hopens (demCtlWrite y c v)).trans (demCtlWrite_of_busy hrun hidle hpaused)
    exact ⟨_, congrArg Host.Outcome.next hexec, rdN_inc .., onlyRegs_inc ..⟩
  · have hexec := (hostWr_of_opens hopens (demCtlWrite y c v)).trans (demCtlWrite_of_running hrun hsec hmove hoff hstop)
    exact ⟨_, congrArg Host.Outcome.next hexec, demRefused_spec s y c (by decide) rfl⟩
  · exact ⟨_, congrArg Host.Outcome.next (if_pos ⟨hcst, hnow⟩), fld_setF _ _ _ _ (by decide), onlyRegs_setF ..⟩
  · have hexec := (exec_kernelWeightWrite_of_weight hm hopens v).trans (congrArg Host.Outcome.next (if_neg (by simp [hfree])))
    exact ⟨_, hexec, (rdN_wrN ..).trans (by omega), onlyRegs_wr ..⟩
  · have hexec := (exec_kernelWeightWrite_of_weight hm hopens v).trans (congrArg Host.Outcome.next (if_pos hbusy))
    exact ⟨_, hexec, demRefused_spec s y c (by decide) rfl⟩
  · have hexec := (hostWr_of_opens hopens fun s => (klenWrite y c v s).1).trans (klenWrite_of_taken ⟨ha, ha'⟩ ⟨hb, hb'⟩ hkeepA hkeepB)
    obtain ⟨hA, hB⟩ := kLen_wrN s y c (a := bits v 9 0) (b := bits v 25 16) (by omega) (by omega)
    exact ⟨_, congrArg Host.Outcome.next hexec, hA, hB, onlyRegs_wr ..⟩
  · have hexec := (hostWr_of_opens hopens (dscCfgWrite y c v)).trans (dscCfgWrite_of_idle hidle)
    rw [hcheck, denyIf_zero, if_pos rfl] at hexec
    refine ⟨_, congrArg Host.Outcome.next hexec, ?_, (fld_wr_ne _ _ _ _ _ (dscSts_ne_dscCfg y c)).trans (fld_status _ _ 0),
      onlyRegs_trans (onlyRegs_status ..) (onlyRegs_wr ..) (by simp) (by simp)⟩
    rw [rd_wrRW_same, rd_status_ne _ _ _ _ (dscSts_ne_dscCfg y c).symm]
  · have hexec := (hostWr_of_opens hopens (dscCfgWrite y c v)).trans ((dscCfgWrite_of_idle hidle).trans (if_neg hcheck))
    exact ⟨_, congrArg Host.Outcome.next hexec, (fld_status ..).trans (Nat.mod_eq_of_lt (dscCfgCheck_lt s y c v)),
      onlyRegs_trans (onlyRegs_denyIf ..) (onlyRegs_status ..) (by simp) (by simp)⟩
  · have hexec := (hostWr_of_opens hopens (dscCfgWrite y c v)).trans (dscCfgWrite_of_busy hidle c v)
    exact ⟨_, congrArg Host.Outcome.next hexec, rdN_inc .., onlyRegs_inc ..⟩

end Sys2Proof.Laws
end

section
namespace Sys2Proof.Laws
open Sys2Proof.Machine

-- One theorem after another: a thread for each of them passes the memory limit of the check.
set_option Elab.async false

/-! ### What the evaluation of scores changes of the state: registers, converters, records and Masts

`ScoreTurn as s t` says that `t` comes from `s` with changes to the registers of `as`, to chapters 8 to 10's own part, to what moves on the bus
and to the Masts only. -/

def ScoreTurn (as : List Nat) (s t : State) : Prop := s.keeps t as ∧ { t with regs := s.regs, cnv := s.cnv, bus := s.bus, seq := s.seq } = s

theorem ScoreTurn.of_cnvTurn {as : List Nat} {s t : State} (h : CnvTurn as s t) : ScoreTurn as s t := by
  obtain ⟨hkeeps, hframe⟩ := h
  exact ⟨hkeeps, (congrArg (fun u : State => { u with bus := s.bus, seq := s.seq }) hframe :)⟩

theorem ScoreTurn.trans {as : List Nat} {s t u : State} (h : ScoreTurn as s t) (k : ScoreTurn as t u) : ScoreTurn as s u := by
  obtain ⟨hst, hframe⟩ := h
  obtain ⟨htu, kframe⟩ := k
  exact ⟨fun a ha => (htu a ha).trans (hst a ha),
    (congrArg (fun x : State => { x with regs := s.regs, cnv := s.cnv, bus := s.bus, seq := s.seq }) kframe).trans hframe⟩

theorem ScoreTurn.mono {as bs : List Nat} {s t : State} (h : ScoreTurn as s t) (hsub : as ⊆ bs) : ScoreTurn bs s t :=
  ⟨fun a ha => h.1 a fun hmem => ha (hsub hmem), h.2⟩

theorem ScoreTurn.groupOf {as : List Nat} {s t : State} (h : ScoreTurn as s t) (y : Nat) : t.groupOf y = s.groupOf y :=
  (congrArg (fun u : State => u.groupOf y) h.2 :)

/-! ### The sample path leaves a window but for what the filters hold (R289 to R300) -/

/-- `v` is the window `w` with other contents of its filters. -/
def FiltersMoved (w v : Win) : Prop := ∃ m o₁ o₂, v = { w with mix := m, out1 := o₁, out2 := o₂ }

theorem FiltersMoved.trans {u v w : Win} (h : FiltersMoved u v) (k : FiltersMoved v w) : FiltersMoved u w := by
  obtain ⟨_, _, _, rfl⟩ := h
  obtain ⟨_, _, _, rfl⟩ := k
  exact ⟨_, _, _, rfl⟩

theorem FiltersMoved.mix {w v : Win} {l : List CSamp} (h : FiltersMoved w v) : FiltersMoved w { v with mix := l } := h.trans ⟨_, _, _, rfl⟩
theorem FiltersMoved.out1 {w v : Win} {l : List CSamp} (h : FiltersMoved w v) : FiltersMoved w { v with out1 := l } := h.trans ⟨_, _, _, rfl⟩
theorem FiltersMoved.out2 {w v : Win} {l : List CSamp} (h : FiltersMoved w v) : FiltersMoved w { v with out2 := l } := h.trans ⟨_, _, _, rfl⟩

theorem mixEight_moves (s : State) (y c p : Nat) (xs : List DSamp) (w : Win) : FiltersMoved w (s.mixEight y c p xs w).1 := by
  unfold State.mixEight
  generalize (List.range 8).map _ = l
  exact List.foldlRecOn (motive := fun a : Win × Nat => FiltersMoved w a.1) l _ ⟨w.mix, w.out1, w.out2, rfl⟩ fun _ h _ _ => h.mix

theorem chainFt_moves (s : State) (y c m : Nat) (xs : List DSamp) (w : Win) : FiltersMoved w (s.chainFt y c m xs w).1 :=
  (mixEight_moves s y c _ xs w).out1

theorem chainTwo_moves (s : State) (y c m : Nat) (xs : List DSamp) (w : Win) : FiltersMoved w (s.chainTwo y c m xs w).1 :=
  ((chainFt_moves s y c m xs w).trans (chainFt_moves s y c (m + 1) (xs.drop 8) _)).out2

/-- A kernel sample keeps the ECC mark of its weight, and the chain moves the filters of the window only. -/
theorem chain_spec (s : State) (y c : Nat) (x : KIn) (w : Win) :
    (s.chain y c x w).1.ecc = x.ecc ∧ FiltersMoved w (s.chain y c x w).2.1 := by
  unfold State.chain
  dsimp only
  split
  · exact ⟨rfl, chainFt_moves ..⟩
  · exact ⟨rfl, chainTwo_moves ..⟩
  · exact ⟨rfl, FiltersMoved.trans (chainTwo_moves s y c (4 * w.k) x.adc w)
      (chainTwo_moves s y c (4 * w.k + 2) (x.adc.drop 16) (s.chainTwo y c (4 * w.k) x.adc w).1)⟩

/-! ### The registers that the kernel reads (R305 to R310) -/

theorem onlyRegs_noteSat (y c n : Nat) (s : State) : s.onlyRegs (noteSat y c n s) [DEM_SAT_CNT y c, DEM_STS y c] :=
  onlyRegs_ite (onlyRegs_andWr (onlyRegs_andWr (onlyRegs_rfl ..) (by simp)) (by simp)) (onlyRegs_rfl ..)

theorem demSts_ne_satCnt (y c : Nat) : DEM_STS y c ≠ DEM_SAT_CNT y c := by unfold DEM_STS DEM_SAT_CNT; omega

theorem abank_noteSat (y c n : Nat) (s : State) : (noteSat y c n s).fld (DEM_STS y c) DEM_STS_ABANK = s.fld (DEM_STS y c) DEM_STS_ABANK := by
  unfold noteSat
  split
  · exact (fld_setF_beside _ _ _ _ _ (by decide) (by decide) (by decide)).trans (fld_wr_ne _ _ _ _ _ (demSts_ne_satCnt y c))
  · rfl

theorem kR_congr {s t : State} {y c : Nat} (h : t.rd (DEM_CTL y c) = s.rd (DEM_CTL y c)) : t.kR y c = s.kR y c :=
  congrArg (2 ^ getF · DEM_CTL_SECOND) h

/-- What a kernel sample meets depends on the banks, their lengths and the bank in force only. -/
theorem weightAt_congr {s t : State} {y c : Nat} (hdem : t.dem y c = s.dem y c) (hlen : t.rd (DEM_KLEN y c) = s.rd (DEM_KLEN y c))
    (hkw : ∀ b m, t.rd (DEM_KW y c b m) = s.rd (DEM_KW y c b m))
    (habank : t.fld (DEM_STS y c) DEM_STS_ABANK = s.fld (DEM_STS y c) DEM_STS_ABANK) (m p : Nat) : t.weightAt y c m p = s.weightAt y c m p := by
  have hbank : t.bankAt y c p = s.bankAt y c p := by
    unfold State.bankAt
    rw [hdem, habank]
  have hweight (b : Nat) : t.weight y c b m = s.weight y c b m := by
    unfold State.weight State.kLen State.fld
    rw [hlen, hkw]
  unfold State.weightAt
  simp only [hdem, hbank, hweight]

theorem dem_of_dems {s t : State} (h : t.cnv.dems = s.cnv.dems) (y c : Nat) : t.dem y c = s.dem y c := congrArg (tget · (8 * y + c)) h

theorem weightAt_noteSat (y c n : Nat) (s : State) (m p : Nat) :
    (noteSat y c n s).weightAt y c m p = s.weightAt y c m p := by
  have honly := onlyRegs_noteSat y c n s
  refine weightAt_congr (dem_of_dems (congrArg Cnv.dems (cnv_of_onlyRegs honly)) y c) (honly.2 _ ?_)
    (fun b m => honly.2 _ ?_) (abank_noteSat y c n s) m p
  · simp only [DEM_KLEN, DEM_SAT_CNT, DEM_STS, List.mem_cons, List.not_mem_nil, or_false]
    omega
  · simp only [DEM_KW, DEM_SAT_CNT, DEM_STS, List.mem_cons, List.not_mem_nil, or_false]
    omega

theorem pinNow_noteSat (y c n : Nat) (s : State) (p : Nat) : (noteSat y c n s).pinNow p = s.pinNow p := by
  unfold State.pinNow
  rw [clock_of_onlyRegs (onlyRegs_noteSat y c n s)]

theorem chanUns_noteSat (y c n : Nat) (s : State) (p : Nat) : (noteSat y c n s).chanUns y c p = s.chanUns y c p := by
  simp only [State.chanUns, State.dem, pinNow_noteSat, cnv_of_onlyRegs (onlyRegs_noteSat y c n s)]

/-! ### One kernel sample (R304, R305, R314) -/

/-- The window once a kernel sample has joined it: the complex product with the weight it meets, saturated. -/
theorem kernelStep_window {x : KSample} (hecc : x.ecc = false) (y c : Nat) (w : Win) (s : State) {p : Int × Int}
    (hp : p = s.weightAt y c w.k (s.pinNow (kPin w.s0 (s.kR y c) w.k))) : (kernelStep y c x w s).1 =
      { w with k := w.k + 1, accI := sat 64 (w.accI + (x.i * p.1 - x.q * p.2)), accQ := sat 64 (w.accQ + (x.i * p.2 + x.q * p.1)),
               uns := w.uns || (x.uns || s.chanUns y c (kPin w.s0 (s.kR y c) w.k)) } := by
  subst hp
  unfold kernelStep
  simp [hecc]

/-- The saturated outputs and the marked sample of a kernel sample counted (R296, R304). -/
def kernelCounted (y c n m : Nat) (marked : Bool) (s : State) : State :=
  (noteSat y c m (noteSat y c n s)).when marked fun s => s.inc (DEM_UNS_CNT y c)

/-- The registers of a channel that its kernel samples count in. -/
def countRegs (y c : Nat) : List Nat := [DEM_STS y c, DEM_SAT_CNT y c, DEM_UNS_CNT y c]

theorem onlyRegs_kernelCounted (y c n m : Nat) (marked : Bool) (s : State) : s.onlyRegs (kernelCounted y c n m marked s) (countRegs y c) := by
  have hnoted : s.onlyRegs (noteSat y c m (noteSat y c n s)) (countRegs y c) :=
    onlyRegs_trans (onlyRegs_noteSat ..) (onlyRegs_noteSat ..) (by simp [countRegs]) (by simp [countRegs])
  unfold kernelCounted State.when
  exact onlyRegs_ite (onlyRegs_andWr hnoted (by simp [countRegs])) hnoted

/-- A kernel sample is counted; a weight that cannot be corrected is told besides. -/
theorem kernelIn_state (y c : Nat) (x : KIn) (w : Win) (s : State) : ∃ n m marked, (kernelIn y c x w s).2 =
    if x.ecc then kernelEcc y c (kernelIn y c x w s).1 (kernelCounted y c n m marked s) else kernelCounted y c n m marked s := by
  obtain ⟨hecc, -⟩ := chain_spec s y c x w
  rw [← hecc]
  exact ⟨_, _, _, rfl⟩

/-- The registers that a program fault of a yard of group `g` writes (R126). -/
def struckRegs (y g : Nat) : List Nat := [SEQ_FAULT y, SEQ_STS y, GLB_LSG_STAT g]

/-- The report of an ECC error changes nothing of chapters 8 to 10. -/
theorem kernelEcc_spec (y c : Nat) (w : Win) (s : State) :
    ScoreTurn (struckRegs y (s.groupOf y)) s (kernelEcc y c w s) ∧ (kernelEcc y c w s).cnv = s.cnv := by
  unfold kernelEcc
  split
  · obtain ⟨-, -, -, -, -, -, -, -, -, hframe, hkeeps⟩ :=
      progFaulted_progFault s y (s.fld (SEQ_PC y) (0, 15)) (code := E_DEM_ECC_UNCORR) (by decide)
    exact ⟨⟨hkeeps, (congrArg (fun u : State => { u with cnv := s.cnv }) hframe :)⟩, (congrArg State.cnv hframe :)⟩
  · exact ⟨⟨fun _ _ => rfl, rfl⟩, rfl⟩

/-- The registers that kernel samples and checkpoints of a channel may write, in a yard of group `g`. -/
def kernelRegs (y c g : Nat) : List Nat := DSC_STS y c :: (countRegs y c ++ struckRegs y g)

theorem kernelIn_spec (y c : Nat) (x : KIn) (w : Win) (s : State) :
    ScoreTurn (kernelRegs y c (s.groupOf y)) s (kernelIn y c x w s).2 ∧ (kernelIn y c x w s).2.cnv = s.cnv := by
  obtain ⟨n, m, marked, hstate⟩ := kernelIn_state y c x w s
  obtain ⟨u, hu⟩ : ∃ u, u = kernelCounted y c n m marked s := ⟨_, rfl⟩
  have honly := hu ▸ onlyRegs_kernelCounted y c n m marked s
  have hcounted : ScoreTurn (kernelRegs y c (s.groupOf y)) s u :=
    (ScoreTurn.of_cnvTurn (CnvTurn.of_onlyRegs honly)).mono (by simp [kernelRegs])
  obtain ⟨hturn, hcnv⟩ := kernelEcc_spec y c (kernelIn y c x w s).1 u
  rw [hcounted.groupOf] at hturn
  rw [hstate, ← hu]
  split
  · exact ⟨hcounted.trans (hturn.mono (by simp [kernelRegs])), hcnv.trans (cnv_of_onlyRegs honly)⟩
  · exact ⟨hcounted, cnv_of_onlyRegs honly⟩

/-- Without an ECC error the channel's own registers are all that a kernel sample writes. -/
theorem onlyRegs_kernelIn {x : KIn} (hecc : x.ecc = false) (y c : Nat) (w : Win) (s : State) :
    s.onlyRegs (kernelIn y c x w s).2 (countRegs y c) := by
  obtain ⟨n, m, marked, hstate⟩ := kernelIn_state y c x w s
  rw [hstate, if_neg (by simp [hecc])]
  exact onlyRegs_kernelCounted ..

theorem kernelIn_window {s : State} {y c : Nat} {x : KIn} (hecc : x.ecc = false) {w v : Win} {k : KSample} {n : Nat}
    (hchain : s.chain y c x w = (k, v, n)) {p : Int × Int} (hp : p = s.weightAt y c w.k (s.pinNow (kPin w.s0 (s.kR y c) w.k))) :
    (kernelIn y c x w s).1 =
      { w with k := w.k + 1, accI := sat 64 (w.accI + (k.i * p.1 - k.q * p.2)), accQ := sat 64 (w.accQ + (k.i * p.2 + k.q * p.1)),
               uns := w.uns || (k.uns || s.chanUns y c (kPin w.s0 (s.kR y c) w.k)), mix := v.mix, out1 := v.out1, out2 := v.out2 } := by
  obtain ⟨hkecc, hmoved⟩ := chain_spec s y c x w
  rw [hchain] at hkecc hmoved
  obtain ⟨mix, out1, out2, rfl⟩ := hmoved
  have hkR : (noteSat y c n s).kR y c = s.kR y c := kR_congr ((onlyRegs_noteSat y c n s).2 _ (by
    simp only [DEM_CTL, DEM_SAT_CNT, DEM_STS, List.mem_cons, List.not_mem_nil, or_false]
    omega))
  have hin : kernelIn y c x w s = kernelStep y c k { w with mix := mix, out1 := out1, out2 := out2 } (noteSat y c n s) := by
    unfold kernelIn
    rw [hchain]
  rw [hin, kernelStep_window (hkecc.trans hecc) y c _ _ (p := p) (by rw [hkR, weightAt_noteSat, pinNow_noteSat, hp]), hkR,
    chanUns_noteSat]

/-! ### Decisions and checkpoints (R318 to R327, R331, R333) -/

theorem decWord_lt (st : Nat) (early lowq replayed : Bool) : decWord st early lowq replayed < 64 := by
  have hbit (b : Bool) : b01 b ≤ 1 := by cases b <;> decide
  have h₁ := hbit early
  have h₂ := hbit lowq
  have h₃ := hbit replayed
  unfold decWord
  omega

/-- The slot that a decision of a channel sets out for; 1024 is none (R331). -/
def slotOf (s : State) (y c : Nat) : Nat := if s.flag (DSC_CFG y c) DSC_CFG_SLOT_EN = true then s.fld (DSC_CFG y c) DSC_CFG_SLOT else 1024

theorem slotOf_congr {s t : State} {y c : Nat} (h : t.rd (DSC_CFG y c) = s.rd (DSC_CFG y c)) : slotOf t y c = slotOf s y c := by
  unfold slotOf State.flag State.fld
  rw [h]

theorem formDecision_spec {s t : State} {y c d cp : Nat} {w : Win} (hd : d < 64) (hcp : cp < 64) (ht : t = formDecision y c d cp w s) :
    t.fld (DSC_STS y c) DSC_STS_DEC = d ∧ t.fld (DSC_STS y c) DSC_STS_CP = cp
      ∧ t.cnv = { s.cnv with formed := s.cnv.formed ++ [⟨slotOf s y c, d, s.scoreE y c w + 512, y, c, 0, w.src == 0, w.s0, cp⟩] }
      ∧ CnvTurn [DSC_STS y c] s t := by
  subst ht
  refine ⟨?_, (fld_setF _ _ _ _ (by decide)).trans (Nat.mod_eq_of_lt hcp), rfl, (CnvTurn.rfl.withCnv.wr (by simp)).wr (by simp)⟩
  exact (fld_setF_beside _ _ _ _ _ (by decide) (by decide) (by decide)).trans ((fld_setF _ _ _ _ (by decide)).trans (Nat.mod_eq_of_lt hd))

theorem checkpoint_of_between {w : Win} (h : w.k % 16 ≠ 0) (y c : Nat) (s : State) : checkpoint y c w s = (w, s) := if_neg fun k => h k.1

/-- An open checkpoint whose margin reaches the threshold issues a decision (R320, R321). -/
theorem checkpoint_of_early {s : State} {y c : Nat} {w : Win} {st p : Nat} {m : Int} (hk : w.k % 16 = 0) (hpos : 0 < w.k) (hle : w.k ≤ 512)
    (hopen : s.cpOpen y c (w.k / 16) w = true) (hp : p = kPin w.s0 (s.kR y c) (w.k - 1))
    (hdecide : s.decide_ y c p (s.score y c w) (s.actAtF y 3 (DSC_CPF y c (w.k / 16)) p DSC_CPF_F) = (st, m)) (hok : s.earlyOk y c p st m = true) :
    checkpoint y c w s =
      ({ w with issued := some (decWord st true (s.lowq y c p m w) (s.replayed y), w.k / 16, s.scoreE y c w + 512) },
        formDecision y c (decWord st true (s.lowq y c p m w) (s.replayed y)) (w.k / 16) w s) := by
  subst hp
  unfold checkpoint
  dsimp only
  rw [if_pos ⟨hk, by omega, by omega, hopen⟩, hdecide]
  exact if_pos hok

/-- A checkpoint forms a decision or changes nothing. -/
theorem checkpoint_spec (y c : Nat) (w : Win) (s : State) : (checkpoint y c w s).1.len = w.len
    ∧ (checkpoint y c w s).2.cnv.dems = s.cnv.dems ∧ CnvTurn [DSC_STS y c] s (checkpoint y c w s).2 := by
  have hform {d n : Nat} : CnvTurn [DSC_STS y c] s (formDecision y c d n w s) := (CnvTurn.rfl.withCnv.wr (by simp)).wr (by simp)
  unfold checkpoint
  dsimp only
  split
  · split
    · exact ⟨rfl, rfl, hform⟩
    · exact ⟨rfl, rfl, CnvTurn.rfl⟩
  · exact ⟨rfl, rfl, CnvTurn.rfl⟩

/-! ### Runs of kernel samples -/

theorem kernelRun_one {s : State} {y c : Nat} {w : Win} (hk : w.k < s.kCount y c w) (hhere : s.scoreHere y c w = true) (x : KIn) :
    kernelRun y c [x] w s = checkpoint y c (kernelIn y c x w s).1 (kernelIn y c x w s).2 :=
  if_neg (by simp [hhere, hk])

/-- A run leaves the length of its window and all other windows. -/
theorem kernelRun_spec (y c : Nat) (xs : List KIn) : ∀ (w : Win) (s : State), (kernelRun y c xs w s).1.len = w.len
    ∧ (kernelRun y c xs w s).2.cnv.dems = s.cnv.dems ∧ ScoreTurn (kernelRegs y c (s.groupOf y)) s (kernelRun y c xs w s).2 := by
  induction xs with
  | nil => exact fun w s => ⟨rfl, rfl, .of_cnvTurn CnvTurn.rfl⟩
  | cons x xs ih =>
    intro w s
    unfold kernelRun
    split
    · exact ⟨rfl, rfl, .of_cnvTurn CnvTurn.rfl⟩
    · obtain ⟨hin, hcnv⟩ := kernelIn_spec y c x w s
      obtain ⟨hlen, hdems, hcheck⟩ := checkpoint_spec y c (kernelIn y c x w s).1 (kernelIn y c x w s).2
      obtain ⟨ihlen, ihdems, ihturn⟩ := ih (checkpoint y c (kernelIn y c x w s).1 (kernelIn y c x w s).2).1
        (checkpoint y c (kernelIn y c x w s).1 (kernelIn y c x w s).2).2
      have hstep := hin.trans ((ScoreTurn.of_cnvTurn hcheck).mono (by simp [kernelRegs]))
      rw [hstep.groupOf] at ihturn
      have hwin : (kernelIn y c x w s).1.len = w.len := by
        obtain ⟨-, _, _, _, hmoved⟩ := chain_spec s y c x w
        exact (congrArg Win.len hmoved :)
      exact ⟨ihlen.trans (hlen.trans hwin), ihdems.trans (hdems.trans (congrArg Cnv.dems hcnv)), hstep.trans ihturn⟩

theorem not_mem_kernelRegs {y c a g : Nat} (hc : c < 8) (hg : g < 64) (ha : a ∈ [DEM_CTL y c, DSC_CFG y c, QM_YQID y]) :
    a ∉ kernelRegs y c g := by
  simp only [List.mem_cons, List.not_mem_nil, or_false, DEM_CTL, DSC_CFG, QM_YQID] at ha
  simp only [kernelRegs, countRegs, struckRegs, List.cons_append, List.nil_append, List.mem_cons, List.not_mem_nil, or_false, DSC_STS, DEM_STS,
    DEM_SAT_CNT, DEM_UNS_CNT, SEQ_FAULT, SEQ_STS, GLB_LSG_STAT]
  omega

end Sys2Proof.Laws
end

section
namespace Sys2Proof.Laws
open Sys2Proof.Machine

-- One theorem after another: a thread for each of them passes the memory limit of the check.
set_option Elab.async false

/-! ### CHECKPOINT_EVAL -/

theorem dem_setFirstWin (y c : Nat) (w : Win) (s : State) :
    (setFirstWin y c w s).dem y c = { s.dem y c with wins := w :: (s.dem y c).wins.drop 1 } := dem_modDem_same ..

theorem turn_setFirstWin (as : List Nat) (y c : Nat) (w : Win) (s : State) : ScoreTurn as s (setFirstWin y c w s) := .of_cnvTurn CnvTurn.rfl.setDem

/-- A kernel sample whose score has come is accumulated, and the checkpoint behind it is evaluated. -/
theorem checkpointEval_one {s u : State} {y c : Nat} {x : KIn} {v w : Win} {ws : List Win} {r : Win × State} (hwins : (s.dem y c).wins = w :: ws)
    (hk : w.k < s.kCount y c w) (hhere : s.scoreHere y c w = true) (hr : r = kernelIn y c x w s) (hcheck : checkpoint y c r.1 r.2 = (v, u)) :
    checkpointEval y c [x] s = acqRefresh y c (setFirstWin y c v u) := by
  subst hr
  unfold checkpointEval
  rw [hwins]
  dsimp only
  rw [kernelRun_one hk hhere, hcheck]

/-- The fields of DSC_STS beside DSTATE stay. -/
theorem fld_dscSts_acqRefresh (y c : Nat) (s : State) {f : Fld} (hf : f.1 + f.2 ≤ 64) (hbeside : 2 ≤ f.1) :
    (acqRefresh y c s).fld (DSC_STS y c) f = s.fld (DSC_STS y c) f :=
  (fld_setF_beside _ _ _ _ _ (by decide) hf (.inl (show 0 + 2 ≤ f.1 from hbeside))).trans (fld_setF_ne _ _ _ _ _ _ (acqSts_ne_dscSts y c).symm)

/-! ### FINAL_SCORE_EVAL (R308, R322 to R327, Table 16-11) -/

theorem finalScoreEval_of_short {s : State} {y c : Nat} {w : Win} {ws : List Win} (hwins : (s.dem y c).wins = w :: ws)
    (hclosed : w.open_ = false) (hcount : s.kCount y c w = 0) (hpast : s.reached (w.s0 + 16 * (w.len + 22)) = true) (xs : List KIn) :
    finalScoreEval y c xs s = shortScore y c w s := by
  unfold finalScoreEval
  rw [hwins]
  exact (if_neg (by simp [hclosed])).trans ((if_pos hcount).trans (if_pos hpast))

/-- Once the last kernel sample has come the score with LAST is evaluated. -/
theorem finalScoreEval_of_last {s : State} {y c : Nat} {w : Win} {ws : List Win} {r : Win × State} {xs : List KIn}
    (hwins : (s.dem y c).wins = w :: ws) (hclosed : w.open_ = false) (hcount : s.kCount y c w ≠ 0) (hr : r = kernelRun y c xs w s)
    (hlen : r.1.len = w.len) (hkR : r.2.kR y c = s.kR y c) (hlast : r.1.k = s.kCount y c w) :
    finalScoreEval y c xs s = finalScore y c r.1 (setFirstWin y c r.1 r.2) := by
  have hcount' : (setFirstWin y c r.1 r.2).kCount y c r.1 = s.kCount y c w := congrArg₂ (· / ·) hlen hkR
  unfold finalScoreEval
  rw [hwins]
  refine (if_neg (by simp [hclosed])).trans ((if_neg hcount).trans ?_)
  dsimp only
  rw [← hr]
  exact if_pos (hlast.trans hcount'.symm)

/-- Where no early decision went out the last score decides (R322). -/
theorem finalScore_of_undecided {s : State} {y c st p : Nat} {w : Win} {m : Int} (hissued : w.issued = none)
    (hp : p = kPin w.s0 (s.kR y c) (w.k - 1)) (hdecide : s.decide_ y c p (s.score y c w) (2 ^ 15) = (st, m)) :
    finalScore y c w s = dropFirstWin y c (windowRecord y c w (s.scoreE y c w + 512) (decWord st false (s.lowq y c p m w) (s.replayed y)) 0 st m
      (s.score y c w) false false (formDecision y c (decWord st false (s.lowq y c p m w) (s.replayed y)) 0 w s)) := by
  subst hp
  rw [show 512 = 32 * ft from rfl]
  unfold finalScore
  dsimp only
  rw [hdecide, hissued]

/-- Otherwise it is compared with the decision that went out (R323). -/
theorem finalScore_of_decided {s : State} {y c st p d n e : Nat} {w : Win} {m : Int} (hissued : w.issued = some (d, n, e))
    (hp : p = kPin w.s0 (s.kR y c) (w.k - 1)) (hdecide : s.decide_ y c p (s.score y c w) (2 ^ 15) = (st, m)) :
    finalScore y c w s = dropFirstWin y c (windowRecord y c w e d n st m (s.score y c w) false (st != d % 4)
      (s.when (st != d % 4) fun s => s.inc (DSC_FLIP_CNT y c))) := by
  subst hp
  unfold finalScore
  dsimp only
  rw [hdecide, hissued]

/-- A WINDOW record sets out and the window leaves. -/
theorem windowLeaves_spec {s t : State} {y c time dec cp fin : Nat} {w : Win} {m : Int} {sc : Int × Int} {short flip : Bool}
    (ht : t = dropFirstWin y c (windowRecord y c w time dec cp fin m sc short flip s)) :
    (t.dem y c).wins = (s.dem y c).wins.drop 1 ∧ t.cnv.formed = s.cnv.formed
      ∧ (∃ r, t.bus = { s.bus with recs := s.bus.recs ++ [r] } ∧ r.qid = s.yardQ y ∧ r.words.getD 1 0 = time % 2 ^ 64
        ∧ r.words.getD 2 0 = w.tag % 4096 + c * 2 ^ 16 + dec * 2 ^ 24 + cp * 2 ^ 32 + fin * 2 ^ 40
          + (b01 flip + b01 w.trunc * 2 + b01 short * 4 + b01 w.uns * 8) * 2 ^ 48)
      ∧ (∀ f : Fld, f.1 + f.2 ≤ 64 → 2 ≤ f.1 → t.fld (DSC_STS y c) f = s.fld (DSC_STS y c) f)
      ∧ ScoreTurn [DSC_STS y c, CNV_ACQ_STS y c] s t := by
  obtain ⟨u, hu⟩ : ∃ u, u = windowRecord y c w time dec cp fin m sc short flip s := ⟨_, rfl⟩
  have hrecord : ScoreTurn [DSC_STS y c, CNV_ACQ_STS y c] s u := hu ▸ ⟨fun _ _ => rfl, rfl⟩
  rw [← hu] at ht
  subst ht
  refine ⟨?_, ?_, ?_, fun f hf hbeside => (fld_dscSts_acqRefresh y c _ hf hbeside).trans ?_, hrecord.trans ?_⟩
  · rw [dropFirstWin, dem_acqRefresh, dem_modDem_same, hu]
    rfl
  · subst hu
    rfl
  · have hbody (h t b : Nat) (bs : List Nat) : (h :: t :: b :: bs).getD 2 0 = b := rfl
    subst hu
    exact ⟨_, rfl, rfl, rfl, hbody ..⟩
  · subst hu
    rfl
  · exact .of_cnvTurn (CnvTurn.rfl.setDem.acqRefresh (by simp) (by simp))

theorem yardQ_congr {s t : State} {y : Nat} (h : t.rd (QM_YQID y) = s.rd (QM_YQID y)) : t.yardQ y = s.yardQ y := congrArg (getF · (0, 18)) h

/-- A window with no kernel sample ends SHORT: a record without a decision sets out, and the window leaves (R308, R326). -/
theorem shortScore_spec {s t : State} {y c : Nat} {w : Win} (ht : t = shortScore y c w s) :
    (t.dem y c).wins = (s.dem y c).wins.drop 1 ∧ t.flag (DEM_STS y c) DEM_STS_SHORT = true
      ∧ (∃ r, t.bus = { s.bus with recs := s.bus.recs ++ [r] } ∧ r.qid = s.yardQ y
        ∧ r.words.getD 1 0 = (w.s0 + 16 * (w.len + 22)) % 2 ^ 64)
      ∧ ScoreTurn [DEM_STS y c, CNV_ACQ_STS y c, DSC_STS y c] s t := by
  obtain ⟨u, hu⟩ : ∃ u, u = s.setF (DEM_STS y c) DEM_STS_SHORT 1 := ⟨_, rfl⟩
  have honly : s.onlyRegs u [DEM_STS y c] := hu ▸ onlyRegs_setF ..
  have hset : u.flag (DEM_STS y c) DEM_STS_SHORT = true := hu ▸ congrArg (· == 1) (fld_setF _ _ _ _ (by decide))
  unfold shortScore at ht
  rw [← hu] at ht
  obtain ⟨hleft, -, ⟨r, hbus, hqid, htime, -⟩, -, hturn⟩ := windowLeaves_spec ht
  have hdem : u.dem y c = s.dem y c := dem_of_dems (by rw [cnv_of_onlyRegs honly]) y c
  have hbus' : u.bus = s.bus := (congrArg State.bus honly.1 :)
  have hyardQ : u.yardQ y = s.yardQ y := yardQ_congr (honly.2 _ (by
    simp only [QM_YQID, DEM_STS, List.mem_singleton]
    omega))
  have hkept : t.rd (DEM_STS y c) = u.rd (DEM_STS y c) := hturn.1 _ (by simpa [and_comm] using demSts_not_mem_acqSts y c)
  exact ⟨hleft.trans (by rw [hdem]), (congrArg (getF · DEM_STS_SHORT == 1) hkept).trans hset,
    ⟨r, hbus.trans (by rw [hbus']), hqid.trans hyardQ, htime⟩,
    ((ScoreTurn.of_cnvTurn (CnvTurn.of_onlyRegs honly)).mono (by simp)).trans (hturn.mono (by simp))⟩

/-- The last score decides: the decision and a record of it set out, and the window leaves. -/
theorem finalScore_undecided_spec {s t : State} {y c st p d : Nat} {w : Win} {m : Int} (hissued : w.issued = none)
    (hp : p = kPin w.s0 (s.kR y c) (w.k - 1)) (hdecide : s.decide_ y c p (s.score y c w) (2 ^ 15) = (st, m))
    (hd : d = decWord st false (s.lowq y c p m w) (s.replayed y)) (ht : t = finalScore y c w s) :
    (t.dem y c).wins = (s.dem y c).wins.drop 1 ∧ t.fld (DSC_STS y c) DSC_STS_DEC = d ∧ t.fld (DSC_STS y c) DSC_STS_CP = 0
      ∧ t.cnv.formed = s.cnv.formed ++ [⟨slotOf s y c, d, s.scoreE y c w + 512, y, c, 0, w.src == 0, w.s0, 0⟩]
      ∧ (∃ x, t.bus = { s.bus with recs := s.bus.recs ++ [x] } ∧ x.qid = s.yardQ y ∧ x.words.getD 1 0 = (s.scoreE y c w + 512) % 2 ^ 64
        ∧ x.words.getD 2 0 = w.tag % 4096 + c * 2 ^ 16 + d * 2 ^ 24 + st * 2 ^ 40 + (b01 w.trunc * 2 + b01 w.uns * 8) * 2 ^ 48)
      ∧ ScoreTurn [DSC_STS y c, CNV_ACQ_STS y c] s t := by
  obtain ⟨u, hu⟩ : ∃ u, u = formDecision y c d 0 w s := ⟨_, rfl⟩
  rw [finalScore_of_undecided hissued hp hdecide, ← hd, ← hu] at ht
  obtain ⟨hdec, hcp, hformed, hform⟩ := formDecision_spec (hd ▸ decWord_lt ..) (by decide) hu
  obtain ⟨hleft, hsame, ⟨x, hbus, hqid, htime, hword⟩, hfld, hturn⟩ := windowLeaves_spec ht
  have hdem : u.dem y c = s.dem y c := dem_of_dems (by rw [hformed]) y c
  have hbus' : u.bus = s.bus := (congrArg State.bus hform.2 :)
  have hyardQ : u.yardQ y = s.yardQ y := yardQ_congr (hform.1 _ (by
    simp only [QM_YQID, DSC_STS, List.mem_singleton]
    omega))
  refine ⟨hleft.trans (by rw [hdem]), (hfld _ (by decide) (by decide)).trans hdec, (hfld _ (by decide) (by decide)).trans hcp,
    hsame.trans (congrArg Cnv.formed hformed), ⟨x, hbus.trans (by rw [hbus']), hqid.trans hyardQ, htime, hword.trans (by simp [b01])⟩,
    (ScoreTurn.of_cnvTurn (hform.mono (by simp))).trans hturn⟩

theorem onlyRegs_flipped (y c : Nat) (flip : Bool) (s : State) :
    s.onlyRegs (s.when flip fun s => s.inc (DSC_FLIP_CNT y c)) [DSC_FLIP_CNT y c] :=
  onlyRegs_ite (onlyRegs_inc ..) (onlyRegs_rfl ..)

theorem rdN_flipped (y c : Nat) (flip : Bool) (s : State) : (s.when flip fun s => s.inc (DSC_FLIP_CNT y c)).rdN (DSC_FLIP_CNT y c) =
    if flip then min 0xFFFFFFFF (s.rdN (DSC_FLIP_CNT y c) + 1) else s.rdN (DSC_FLIP_CNT y c) := by
  cases flip with
  | true => exact rdN_inc ..
  | false => rfl

/-- The last score is only compared with the decision that went out; a record sets out and the window leaves. -/
theorem finalScore_decided_spec {s t : State} {y c st p d n e : Nat} {w : Win} {m : Int} (hissued : w.issued = some (d, n, e))
    (hp : p = kPin w.s0 (s.kR y c) (w.k - 1)) (hdecide : s.decide_ y c p (s.score y c w) (2 ^ 15) = (st, m)) (ht : t = finalScore y c w s) :
    (t.dem y c).wins = (s.dem y c).wins.drop 1 ∧ t.cnv.formed = s.cnv.formed
      ∧ t.rdN (DSC_FLIP_CNT y c) = (if st = d % 4 then s.rdN (DSC_FLIP_CNT y c) else min 0xFFFFFFFF (s.rdN (DSC_FLIP_CNT y c) + 1))
      ∧ (∃ x, t.bus = { s.bus with recs := s.bus.recs ++ [x] } ∧ x.qid = s.yardQ y ∧ x.words.getD 1 0 = e % 2 ^ 64)
      ∧ ScoreTurn [DSC_STS y c, DSC_FLIP_CNT y c, CNV_ACQ_STS y c] s t := by
  obtain ⟨u, hu⟩ : ∃ u, u = s.when (st != d % 4) fun s => s.inc (DSC_FLIP_CNT y c) := ⟨_, rfl⟩
  rw [finalScore_of_decided hissued hp hdecide, ← hu] at ht
  have honly := hu ▸ onlyRegs_flipped y c (st != d % 4) s
  obtain ⟨hleft, hsame, ⟨x, hbus, hqid, htime, -⟩, -, hturn⟩ := windowLeaves_spec ht
  have hcnv := cnv_of_onlyRegs honly
  have hdem : u.dem y c = s.dem y c := dem_of_dems (by rw [hcnv]) y c
  have hbus' : u.bus = s.bus := (congrArg State.bus honly.1 :)
  have hyardQ : u.yardQ y = s.yardQ y := yardQ_congr (honly.2 _ (by
    simp only [QM_YQID, DSC_FLIP_CNT, List.mem_singleton]
    omega))
  have hcount : t.rdN (DSC_FLIP_CNT y c) = u.rdN (DSC_FLIP_CNT y c) := congrArg BitVec.toNat (hturn.1 _ (by
    simp only [DSC_FLIP_CNT, DSC_STS, CNV_ACQ_STS, List.mem_cons, List.not_mem_nil, or_false]
    omega))
  refine ⟨hleft.trans (by rw [hdem]), hsame.trans (by rw [hcnv]), hcount.trans ?_, ⟨x, hbus.trans (by rw [hbus']), hqid.trans hyardQ, htime⟩,
    ((ScoreTurn.of_cnvTurn (CnvTurn.of_onlyRegs honly)).mono (by simp)).trans (hturn.mono (by simp))⟩
  rw [hu, rdN_flipped]
  by_cases h : st = d % 4
  · simp [h]
  · simp [h]

/-! ### The clauses of O28 -/

/-- What a run of kernel samples leaves, as the evaluation of the last score reads it. -/
theorem kernelRun_leaves {s : State} {y c : Nat} {w : Win} {ws : List Win} {xs : List KIn} {r : Win × State} (hc : c < 8)
    (hwins : (s.dem y c).wins = w :: ws) (hr : r = kernelRun y c xs w s) : r.1.len = w.len ∧ (r.2.dem y c).wins = w :: ws
      ∧ r.2.kR y c = s.kR y c ∧ slotOf r.2 y c = slotOf s y c ∧ r.2.yardQ y = s.yardQ y := by
  obtain ⟨hlen, hdems, hkeeps, -⟩ := hr ▸ kernelRun_spec y c xs w s
  have hrd {a : Nat} (ha : a ∈ [DEM_CTL y c, DSC_CFG y c, QM_YQID y]) : r.2.rd a = s.rd a :=
    hkeeps a (not_mem_kernelRegs hc (groupOf_lt s y) ha)
  exact ⟨hlen, (congrArg Dem.wins (dem_of_dems hdems y c)).trans hwins, kR_congr (hrd (by simp)), slotOf_congr (hrd (by simp)),
    yardQ_congr (hrd (by simp))⟩

/-- Settles O28: a kernel sample joins its window by `kernelIn_window`; a checkpoint decides by `checkpoint_of_early`; a window ends by
`shortScore_spec`, `finalScore_undecided_spec` or `finalScore_decided_spec`, whose record is that of `windowLeaves_spec`. -/
theorem windowsAccumulateAndDecide : Obligations.WindowsAccumulateAndDecide := by
  refine ⟨fun s y c x w ws k v n i q hy hc hwins hk hhere hecc hbetween hchain hi hq => ?_,
    fun s y c x w ws r st m p d hy hc hwins hk hhere hr hp hmod hpos hle hopen hdecide hok hd => ?_,
    fun s y c xs w ws hy hc hwins hclosed hcount hpast => ?_,
    fun s y c xs w ws r st m p d e hy hc hwins hclosed hcount hr hlast hp hissued hdecide hd he => ?_,
    fun s y c xs w ws r st m p d n e hy hc hwins hclosed hcount hr hlast hp hissued hdecide => ?_⟩
  · have hwin := kernelIn_window hecc hchain rfl
    rw [← hi, ← hq] at hwin
    have hexec := checkpointEval_one hwins hk hhere rfl (checkpoint_of_between (by rw [hwin]; exact hbetween) y c _)
    have honly := onlyRegs_kernelIn hecc y c w s
    have hdem := dem_of_dems (congrArg Cnv.dems (cnv_of_onlyRegs honly)) y c
    refine ⟨_, congrArg Host.Outcome.next hexec, ?_,
      CnvTurn.acqRefresh (((CnvTurn.of_onlyRegs honly).mono (by simp [countRegs])).setDem) (by simp) (by simp)⟩
    rw [dem_acqRefresh, dem_setFirstWin, hwin, hdem, hwins]
    rfl
  · obtain ⟨hturn, hcnv⟩ := hr ▸ kernelIn_spec y c x w s
    have hrd {a : Nat} (ha : a ∈ [DEM_CTL y c, DSC_CFG y c, QM_YQID y]) : r.2.rd a = s.rd a :=
      hturn.1 a (not_mem_kernelRegs hc (groupOf_lt s y) ha)
    have hslot : slotOf r.2 y c = slotOf s y c := slotOf_congr (hrd (by simp))
    have hearly := checkpoint_of_early hmod hpos hle hopen (hp.trans (by rw [kR_congr (hrd (by simp))])) hdecide hok
    rw [← hd] at hearly
    have hexec := checkpointEval_one hwins hk hhere hr hearly
    obtain ⟨u, hu⟩ : ∃ u, u = formDecision y c d (r.1.k / 16) r.1 r.2 := ⟨_, rfl⟩
    obtain ⟨hdec, hcp, hformed, hform⟩ := formDecision_spec (hd ▸ decWord_lt ..) (show r.1.k / 16 < 64 by omega) hu
    rw [← hu] at hexec
    have hdem : u.dem y c = s.dem y c := dem_of_dems (by rw [hformed, hcnv]) y c
    refine ⟨_, congrArg Host.Outcome.next hexec, ?_, (fld_dscSts_acqRefresh y c _ (by decide) (by decide)).trans hdec,
      (fld_dscSts_acqRefresh y c _ (by decide) (by decide)).trans hcp, ?_, CnvTurn.acqRefresh ((hform.mono (by simp)).setDem) (by simp) (by simp)⟩
    · rw [dem_acqRefresh, dem_setFirstWin, hdem, hwins]
      rfl
    · refine (congrArg Cnv.formed hformed).trans ?_
      rw [hslot, hcnv]
      rfl
  · obtain ⟨hleft, hspec⟩ := shortScore_spec (t := shortScore y c w s) rfl
    exact ⟨_, congrArg Host.Outcome.next (finalScoreEval_of_short hwins hclosed hcount hpast xs), hleft.trans (congrArg (List.drop 1) hwins), hspec⟩
  · obtain ⟨hlen, hwins', hkR, hslot, hqid'⟩ := kernelRun_leaves hc hwins hr
    have hexec := finalScoreEval_of_last hwins hclosed hcount hr hlen hkR hlast
    obtain ⟨hleft, hdec, hcp, hformed, ⟨x, hbus, hqid, htime, hword⟩, hturn⟩ :=
      finalScore_undecided_spec (s := setFirstWin y c r.1 r.2) hissued (hp.trans (by rw [← hkR]; rfl)) hdecide hd rfl
    subst he
    refine ⟨_, congrArg Host.Outcome.next hexec, hleft.trans ?_, hdec, hcp, hformed.trans ?_, ⟨x, hbus, hqid.trans hqid', htime, hword⟩,
      (turn_setFirstWin ..).trans hturn⟩
    · rw [dem_setFirstWin, hwins']
      rfl
    · rw [show slotOf (setFirstWin y c r.1 r.2) y c = slotOf s y c from hslot]
      rfl
  · obtain ⟨hlen, hwins', hkR, -, hqid'⟩ := kernelRun_leaves hc hwins hr
    have hexec := finalScoreEval_of_last hwins hclosed hcount hr hlen hkR hlast
    obtain ⟨hleft, hformed, hcount, ⟨x, hbus, hqid, htime⟩, hturn⟩ :=
      finalScore_decided_spec (s := setFirstWin y c r.1 r.2) hissued (hp.trans (by rw [← hkR]; rfl)) hdecide rfl
    refine ⟨_, congrArg Host.Outcome.next hexec, hleft.trans ?_, hformed, hcount, ⟨x, hbus, hqid.trans hqid', htime⟩,
      (turn_setFirstWin ..).trans hturn⟩
    rw [dem_setFirstWin, hwins']
    rfl

end Sys2Proof.Laws
end

section
namespace Sys2Proof.Laws
open Sys2Proof.Machine

-- One theorem after another: a thread for each of them passes the memory limit of the check.
set_option Elab.async false

/-! ### Decisions that enter the Sheet (R40, R327, R333) -/

/-- A counter that counts when a condition holds. -/
theorem rdN_incIf (s : State) (a : Nat) (c : Prop) [Decidable c] :
    (if c then s.inc a else s).rdN a = if c then min 0xFFFFFFFF (s.rdN a + 1) else s.rdN a := by
  split
  · exact rdN_inc ..
  · rfl

theorem rdN_incIf_ne (s : State) {a b : Nat} (h : b ≠ a) (c : Prop) [Decidable c] : (if c then s.inc a else s).rdN b = s.rdN b := by
  split
  · exact rdN_inc_ne _ _ _ h
  · rfl

/-- The counters that decisions of a channel count in (R327). -/
def decisionCounters (y c : Nat) : List Nat := [DSC_EARLY_CNT y c, DSC_LOWQ_CNT y c, DSC_LEAK_CNT y c]

theorem early_ne_lowq (y c : Nat) : DSC_EARLY_CNT y c ≠ DSC_LOWQ_CNT y c := by unfold DSC_EARLY_CNT DSC_LOWQ_CNT; omega
theorem early_ne_leak (y c : Nat) : DSC_EARLY_CNT y c ≠ DSC_LEAK_CNT y c := by unfold DSC_EARLY_CNT DSC_LEAK_CNT; omega
theorem lowq_ne_leak (y c : Nat) : DSC_LOWQ_CNT y c ≠ DSC_LEAK_CNT y c := by unfold DSC_LOWQ_CNT DSC_LEAK_CNT; omega

theorem countDecision_spec {s t : State} {y c d : Nat} (ht : t = countDecision y c d s) :
    t.rdN (DSC_EARLY_CNT y c) = (if bit d 3 = true then min 0xFFFFFFFF (s.rdN (DSC_EARLY_CNT y c) + 1) else s.rdN (DSC_EARLY_CNT y c))
      ∧ t.rdN (DSC_LOWQ_CNT y c) = (if bit d 4 = true then min 0xFFFFFFFF (s.rdN (DSC_LOWQ_CNT y c) + 1) else s.rdN (DSC_LOWQ_CNT y c))
      ∧ t.rdN (DSC_LEAK_CNT y c) = (if d % 4 = 2 then min 0xFFFFFFFF (s.rdN (DSC_LEAK_CNT y c) + 1) else s.rdN (DSC_LEAK_CNT y c))
      ∧ s.onlyRegs t (decisionCounters y c) := by
  subst ht
  unfold countDecision
  refine ⟨?_, ?_, ?_, ?_⟩
  · rw [rdN_incIf_ne _ (early_ne_leak y c), rdN_incIf_ne _ (early_ne_lowq y c), rdN_incIf]
  · rw [rdN_incIf_ne _ (lowq_ne_leak y c), rdN_incIf, rdN_incIf_ne _ (early_ne_lowq y c).symm]
  · rw [rdN_incIf, rdN_incIf_ne _ (lowq_ne_leak y c).symm, rdN_incIf_ne _ (early_ne_leak y c).symm]
  · have hcount {u : State} (hu : s.onlyRegs u (decisionCounters y c)) {a : Nat} (ha : a ∈ decisionCounters y c) (p : Prop) [Decidable p] :
        s.onlyRegs (if p then u.inc a else u) (decisionCounters y c) := onlyRegs_ite (onlyRegs_andWr hu ha) hu
    exact hcount (hcount (hcount (onlyRegs_rfl ..) (by simp [decisionCounters]) _) (by simp [decisionCounters]) _) (by simp [decisionCounters]) _

/-- A decision leaves its discriminator and is counted. -/
def decisionLeft (y c : Nat) (d : Dec) (s : State) : State :=
  countDecision y c d.dec { s with cnv := { s.cnv with formed := s.cnv.formed.erase d } }

theorem decisionLeft_spec {s t : State} {y c : Nat} {d : Dec} (ht : t = decisionLeft y c d s) :
    t.rdN (DSC_EARLY_CNT y c) = (if bit d.dec 3 = true then min 0xFFFFFFFF (s.rdN (DSC_EARLY_CNT y c) + 1) else s.rdN (DSC_EARLY_CNT y c))
      ∧ t.rdN (DSC_LOWQ_CNT y c) = (if bit d.dec 4 = true then min 0xFFFFFFFF (s.rdN (DSC_LOWQ_CNT y c) + 1) else s.rdN (DSC_LOWQ_CNT y c))
      ∧ t.rdN (DSC_LEAK_CNT y c) = (if d.dec % 4 = 2 then min 0xFFFFFFFF (s.rdN (DSC_LEAK_CNT y c) + 1) else s.rdN (DSC_LEAK_CNT y c))
      ∧ t.cnv = { s.cnv with formed := s.cnv.formed.erase d } ∧ t.clock = s.clock ∧ CnvTurn (decisionCounters y c) s t := by
  obtain ⟨hearly, hlowq, hleak, honly⟩ := countDecision_spec ht
  exact ⟨hearly, hlowq, hleak, cnv_of_onlyRegs honly, (clock_of_onlyRegs honly :), CnvTurn.trans CnvTurn.rfl.withCnv (.of_onlyRegs honly)⟩

/-- A decision with a slot enters the Sheet unless it is late. -/
def sheetTaken (d : Dec) (s : State) : State :=
  if 1024 ≤ d.slot then s
  else if d.rel < s.clock.tb1 then s.inc GLB_LATE_CNT
  else { s with cnv := { s.cnv with entered := s.cnv.entered ++ [d] } }

theorem sheetTaken_of_timely {d : Dec} {s : State} (h : 1024 ≤ d.slot ∨ s.clock.tb1 ≤ d.rel) :
    sheetTaken d s = { s with cnv := { s.cnv with entered := s.cnv.entered ++ (if d.slot < 1024 then [d] else []) } } := by
  unfold sheetTaken
  by_cases hslot : 1024 ≤ d.slot
  · rw [if_pos hslot, if_neg (Nat.not_lt.mpr hslot), List.append_nil]
  · rw [if_neg hslot, if_neg (Nat.not_lt.mpr (h.resolve_left hslot)), if_pos (Nat.not_le.mp hslot)]

theorem sheetTaken_of_late {d : Dec} {s : State} (hslot : d.slot < 1024) (hlate : d.rel < s.clock.tb1) :
    sheetTaken d s = s.inc GLB_LATE_CNT := (if_neg (Nat.not_le.mpr hslot)).trans (if_pos hlate)

/-- A decision sets out for the Sheet once its time of entry has come. -/
theorem sheetEntry_of_reached {s : State} {y c : Nat} {d : Dec} (hfind : s.cnv.formed.find? (fun d => d.yard == y && d.chan == c) = some d)
    (hreached : s.reached (d.rel - 128) = true) : sheetEntry y c s = sheetTaken d (decisionLeft y c d s) := by
  unfold sheetEntry
  rw [hfind]
  exact if_neg (not_not_intro hreached)

theorem tb1_of_reached {s : State} {a : Nat} (h : s.reached a = true) : s.tb1 = s.clock.tb1 := by
  have hrun : s.tb1Run = true := (Bool.and_eq_true_iff.mp h).1
  exact if_pos hrun

/-! ### The taps (R336 to R340) -/

theorem tap_setTap (s : State) (x z : Nat) (v : TapSt) : (s.setTap x v).tap z = if z = x then v else s.tap z := tget_tput ..

@[simp] theorem tap_setTap_same (s : State) (x : Nat) (v : TapSt) : (s.setTap x v).tap x = v := tget_tput_same ..

theorem CnvTurn.setTap {as : List Nat} {s₀ s : State} {x : Nat} {v : TapSt} (h : CnvTurn as s₀ s) : CnvTurn as s₀ (s.setTap x v) := h

/-- Two states hold the same of a tap: its state, and the word in force. -/
def SameTap (x : Nat) (s t : State) : Prop := t.tap x = s.tap x ∧ t.tapWord x = s.tapWord x

theorem tapWord_congr {s t : State} {x : Nat} (hoff : (t.tap x).off = (s.tap x).off) (hclock : t.clock = s.clock)
    (hrd : t.rd (SHT_TAP x) = s.rd (SHT_TAP x)) : t.tapWord x = s.tapWord x := by
  unfold State.tapWord
  rw [hoff, hclock, hrd]

theorem tapWord_of_off_none {s : State} {x : Nat} (h : (s.tap x).off = none) : s.tapWord x = s.rd (SHT_TAP x) := by
  unfold State.tapWord
  rw [h]

/-- The registers of the taps stand above the others of the Sheet. -/
theorem shtTap_ne {a : Nat} (ha : a < 0xB40000) (x : Nat) : SHT_TAP x ≠ a := by unfold SHT_TAP; omega

theorem off_tapTake (x slot d : Nat) (s : State) : ((tapTake x slot d s).tap x).off = (s.tap x).off := by
  unfold tapTake
  rw [tap_setTap_same]

theorem tapWord_tapTake (x slot d : Nat) (s : State) : (tapTake x slot d s).tapWord x = s.tapWord x :=
  tapWord_congr (off_tapTake ..) rfl (rd_wr_ne _ _ _ _ (shtTap_ne (by decide) x))

theorem SameTap.tapTake {x : Nat} {s t : State} (h : SameTap x s t) (slot d : Nat) : SameTap x (tapTake x slot d s) (tapTake x slot d t) := by
  obtain ⟨htap, hword⟩ := h
  refine ⟨?_, by rw [tapWord_tapTake, tapWord_tapTake, hword]⟩
  unfold Machine.tapTake
  rw [tap_setTap_same, tap_setTap_same, htap, hword]

theorem SameTap.tapFull {x : Nat} {s t : State} (h : SameTap x s t) : t.tapFull x = s.tapFull x := by
  unfold State.tapFull
  rw [h.1, h.2]

theorem SameTap.tapBit {x : Nat} {s t : State} (h : SameTap x s t) (rel : Nat) : t.tapBit x rel = s.tapBit x rel := by
  unfold State.tapBit
  rw [h.1, h.2]

/-- `t` comes from `s` with changes to what the taps hold and send and to their counters only. -/
def TapTurn (s t : State) : Prop :=
  CnvTurn [SHT_TAP_OVW_CNT, SHT_TAP_FIRE_CNT] s t ∧ { t.cnv with taps := s.cnv.taps, dets := s.cnv.dets } = s.cnv

theorem TapTurn.rfl {s : State} : TapTurn s s := ⟨CnvTurn.rfl, Eq.refl _⟩

theorem TapTurn.tapTake {s₀ s : State} (h : TapTurn s₀ s) (x slot d : Nat) : TapTurn s₀ (tapTake x slot d s) := ⟨h.1.wr (by simp), h.2⟩

theorem TapTurn.tapFire {s₀ s : State} (h : TapTurn s₀ s) (x rel : Nat) : TapTurn s₀ (tapFire x rel s) := ⟨h.1.wr (by simp), h.2⟩

theorem TapTurn.tapRelease {s₀ s : State} (h : TapTurn s₀ s) (slot d rel x : Nat) : TapTurn s₀ (tapRelease slot d rel x s) := by
  unfold Machine.tapRelease
  dsimp only
  split
  · exact (h.tapTake ..).tapFire ..
  · exact h.tapTake ..

theorem sat_tapFire (x rel : Nat) (s : State) : ((tapFire x rel s).tap x).sat = [] := by
  have htap : (tapFire x rel s).tap x =
      (s.setTap x { s.tap x with prev := (List.range 4).map fun n => decValue (s.slotAt (tapIn (s.tapWord x) n).2.2 rel), sat := [] }).tap x :=
    rfl
  rw [htap, tap_setTap_same]

/-- A tap whose last current input is released fires: its bit sets out, and its inputs are open again (R336, R337). -/
theorem tapRelease_of_full {s t : State} {slot d rel x : Nat} (hfull : (tapTake x slot d s).tapFull x = true)
    (ht : t = tapRelease slot d rel x s) : t.cnv.dets = s.cnv.dets ++ [(tapTake x slot d s).tapBit x rel]
      ∧ t.rdN SHT_TAP_FIRE_CNT = min 0xFFFFFFFF (s.rdN SHT_TAP_FIRE_CNT + 1) ∧ (t.tap x).sat = [] := by
  have hexec : t = tapFire x rel (tapTake x slot d s) := ht.trans (if_pos hfull)
  subst hexec
  have hcount : (tapTake x slot d s).rdN SHT_TAP_FIRE_CNT = s.rdN SHT_TAP_FIRE_CNT := congrArg BitVec.toNat (rd_wr_ne _ _ _ _ (by decide))
  refine ⟨rfl, (rdN_inc ..).trans (congrArg (min 0xFFFFFFFF <| · + 1) hcount), sat_tapFire ..⟩

/-! ### The taps on a slot -/

theorem filterMap_sdel {α β : Type} {f : Nat × α → Option β} {k : Nat} (hf : ∀ v, f (k, v) = none) (t : Tab α) :
    (sdel t k).filterMap f = t.filterMap f := by
  induction t with
  | nil => rfl
  | cons p t ih =>
    obtain ⟨j, v⟩ := p
    by_cases h : j = k
    · simp [sdel, h, hf, ih]
    · simp [sdel, h, List.filterMap_cons, ih]

theorem filterMap_sins {α β : Type} {f : Nat × α → Option β} {k : Nat} {v : α} (hf : f (k, v) = none) (t : Tab α) :
    (sins t k v).filterMap f = t.filterMap f := by
  induction t with
  | nil => simp [sins, hf]
  | cons p t ih =>
    obtain ⟨j, w⟩ := p
    by_cases h : k < j
    · simp [sins, h, hf, List.filterMap_cons]
    · simp [sins, h, List.filterMap_cons, ih]

/-- What a table says of its other keys is the same after a key is written. -/
theorem filterMap_sput {α β : Type} [DecidableEq α] {f : Nat × α → Option β} {k : Nat} (hf : ∀ v, f (k, v) = none) (d : Nat → α) (t : Tab α)
    (v : α) : (sput d t k v).filterMap f = t.filterMap f := by
  unfold sput
  split
  · exact filterMap_sdel hf t
  · exact (filterMap_sins (hf v) _).trans (filterMap_sdel hf t)

/-- The taps that the tables of a state list. -/
def tapRegs (s : State) : List Nat :=
  s.regs.filterMap fun (a, _) => if decide (0xB40000 ≤ a ∧ a < 0xB44000) then some ((a - 0xB40000) / 8) else none

/-- A tap is enabled with a current input on the slot. -/
def tapOn (s : State) (slot x : Nat) : Bool :=
  getF (s.tapWord x) SHT_TAP_EN == 1 && (tapCurrent (s.tapWord x)).any fun n => (tapIn (s.tapWord x) n).2.2 == slot

theorem tapsOn_eq (s : State) (slot : Nat) :
    s.tapsOn slot = (tapRegs s ++ (s.cnv.taps.map (·.1)).filter fun x => !(tapRegs s).contains x).filter (tapOn s slot) := rfl

theorem mem_tapsOn {s : State} {slot x : Nat} :
    x ∈ s.tapsOn slot ↔ (x ∈ tapRegs s ∨ x ∈ s.cnv.taps.map (·.1)) ∧ tapOn s slot x = true := by
  rw [tapsOn_eq, List.mem_filter, List.mem_append, List.mem_filter]
  by_cases h : x ∈ tapRegs s
  · simp [h]
  · simp [h]

theorem tapOn_congr {s t : State} {slot x : Nat} (h : t.tapWord x = s.tapWord x) : tapOn t slot x = tapOn s slot x := by
  unfold tapOn
  rw [h]

theorem tapsOn_congr {s t : State} (hregs : t.regs = s.regs) (hclock : t.clock = s.clock) (htaps : t.cnv.taps = s.cnv.taps) (slot : Nat) :
    t.tapsOn slot = s.tapsOn slot := by
  have hrd (a : Nat) : t.rd a = s.rd a := by rw [State.rd, hregs, State.rd]
  have htap (x : Nat) : t.tap x = s.tap x := by rw [State.tap, htaps, State.tap]
  have hon : tapOn t slot = tapOn s slot := funext fun x => tapOn_congr (tapWord_congr (by rw [htap]) hclock (hrd _))
  have hlist : tapRegs t = tapRegs s := by rw [tapRegs, hregs, tapRegs]
  rw [tapsOn_eq, tapsOn_eq, hlist, hon, htaps]

theorem tapsOn_wr {a : Nat} (ha : a < 0xB40000) (s : State) (v : Word) (slot : Nat) : (s.wr a v).tapsOn slot = s.tapsOn slot := by
  have hregs : tapRegs (s.wr a v) = tapRegs s := filterMap_sput (fun v => by simp [ha]) ..
  have hon : tapOn (s.wr a v) slot = tapOn s slot :=
    funext fun x => tapOn_congr (tapWord_congr rfl rfl (rd_wr_ne _ _ _ _ (shtTap_ne ha x)))
  rw [tapsOn_eq, tapsOn_eq, hregs, hon]
  rfl

theorem mem_of_mem_sput {α : Type} [DecidableEq α] {d : Nat → α} {t : Tab α} {k : Nat} {v : α} {p : Nat × α} (h : p ∈ sput d t k v)
    (hk : p.1 ≠ k) : p ∈ t := by
  have hp := filterMap_sput (f := fun q => if q.1 = k then none else some q) (fun _ => if_pos rfl) d t v
  have hkept : p ∈ (sput d t k v).filterMap fun q => if q.1 = k then none else some q := List.mem_filterMap.mpr ⟨p, h, if_neg hk⟩
  obtain ⟨q, hq, hqp⟩ := List.mem_filterMap.mp (hp ▸ hkept)
  split at hqp
  · cases hqp
  · exact Option.some.inj hqp ▸ hq

theorem mem_tapRegs {s : State} {x : Nat} : x ∈ tapRegs s ↔ ∃ p ∈ s.regs, (0xB40000 ≤ p.1 ∧ p.1 < 0xB44000) ∧ (p.1 - 0xB40000) / 8 = x := by
  simp [tapRegs, List.mem_filterMap]

/-- The tap of an entry in error is off, and the error is told (Table 10-9). -/
theorem tapEcc_spec {s t : State} {x : Nat} (ht : t = tapEcc x s) : t.flag (SHT_TAP x) SHT_TAP_EN = false ∧ t.tap x = default
    ∧ (∀ z, z ≠ x → t.tap z = s.tap z) ∧ t.bus = { s.bus with reports := s.bus.reports ++ [⟨E_SHT_ECC_UNCORR, false, islHub, x⟩] }
    ∧ { t.cnv with taps := s.cnv.taps } = s.cnv ∧ s.keeps t [SHT_TAP x] ∧ { t with regs := s.regs, cnv := s.cnv, bus := s.bus } = s := by
  subst ht
  exact ⟨congrArg (· == 1) (fld_setF s _ SHT_TAP_EN 0 (by decide)), tap_setTap_same .., fun z hz => (tap_setTap ..).trans (if_neg hz),
    rfl, rfl, (onlyRegs_setF ..).2, rfl⟩

/-- A tap whose entry is in error is on no slot any more, and all others are where they were. -/
theorem mem_tapsOn_tapEcc {s : State} {slot x z : Nat} (h : z ∈ (tapEcc x s).tapsOn slot) : z ∈ s.tapsOn slot ∧ z ≠ x := by
  obtain ⟨hflag, hdef, hothers, -, -, hkeeps, hframe⟩ := tapEcc_spec (s := s) (x := x) rfl
  obtain ⟨hlisted, hon⟩ := mem_tapsOn.mp h
  have hne : z ≠ x := by
    rintro rfl
    have hen : getF ((tapEcc z s).tapWord z) SHT_TAP_EN == 1 := (Bool.and_eq_true_iff.mp hon).1
    rw [tapWord_of_off_none (by rw [hdef]; rfl)] at hen
    exact absurd (hflag.symm.trans hen) (by decide)
  have hword : (tapEcc x s).tapWord z = s.tapWord z :=
    tapWord_congr (by rw [hothers z hne]) (congrArg State.clock hframe :) (hkeeps _ (by simp [SHT_TAP]; omega))
  refine ⟨mem_tapsOn.mpr ⟨hlisted.imp (fun hreg => ?_) (fun htap => ?_), tapOn_congr hword ▸ hon⟩, hne⟩
  · obtain ⟨p, hp, hrange, hz⟩ := mem_tapRegs.mp hreg
    exact mem_tapRegs.mpr ⟨p, mem_of_mem_sput hp (by unfold SHT_TAP; omega), hrange, hz⟩
  · obtain ⟨p, hp, rfl⟩ := List.mem_map.mp htap
    exact List.mem_map_of_mem (mem_of_mem_sput (show p ∈ tput s.cnv.taps x default from hp) hne)

theorem tapsOn_tapEcc_of_only {s : State} {slot x : Nat} (h : s.tapsOn slot = [x]) : (tapEcc x s).tapsOn slot = [] :=
  List.eq_nil_iff_forall_not_mem.mpr fun z hz => by
    obtain ⟨hmem, hne⟩ := mem_tapsOn_tapEcc hz
    exact hne (List.mem_singleton.mp (h ▸ hmem))

/-! ### Copies for other devices (R341, R343, R345, R474) -/

/-- The release time of a copy: the lead of its link, but not before an earlier copy of that link. -/
def copyRel (d : Dec) (l : Nat) (s : State) : Nat := max (d.rel + (if s.linkThree l = true then 1800 else 1440)) (tget s.ozl.fbLast l)

/-- `t` comes from `s` by copies sent on links of `ls`. -/
structure CopyTurn (ls : List Nat) (s t : State) : Prop where
  keeps : s.keeps t [SHT_FWD_DOWN_CNT]
  cnv : { t.cnv with copies := s.cnv.copies } = s.cnv
  frame : { t with regs := s.regs, cnv := s.cnv, ozl := s.ozl } = s
  copies : s.cnv.copies ⊆ t.cnv.copies
  last : ∀ l ∉ ls, tget t.ozl.fbLast l = tget s.ozl.fbLast l

theorem CopyTurn.rfl {ls : List Nat} {s : State} : CopyTurn ls s s :=
  ⟨fun _ _ => Eq.refl _, Eq.refl _, Eq.refl _, List.Subset.refl _, fun _ _ => Eq.refl _⟩

theorem CopyTurn.trans {ls ms : List Nat} {s t u : State} (h : CopyTurn ls s t) (k : CopyTurn ms t u) : CopyTurn (ls ++ ms) s u where
  keeps a ha := (k.keeps a ha).trans (h.keeps a ha)
  cnv := (congrArg (fun x : Cnv => { x with copies := s.cnv.copies }) k.cnv).trans h.cnv
  frame := (congrArg (fun x : State => { x with regs := s.regs, cnv := s.cnv, ozl := s.ozl }) k.frame).trans h.frame
  copies := List.Subset.trans h.copies k.copies
  last l hl := (k.last l fun hm => hl (List.mem_append_right _ hm)).trans (h.last l fun hm => hl (List.mem_append_left _ hm))

theorem fwdSend_of_up {d : Dec} {l : Nat} {s : State} (hback : d.link ≠ l + 1) (hup : s.linkUp l = true) : fwdSend d l s =
    { s with cnv := { s.cnv with copies := s.cnv.copies ++ [⟨l, d.slot, d.dec, copyRel d l s⟩] },
             ozl := { s.ozl with fbLast := tput s.ozl.fbLast l (copyRel d l s) } } := (if_neg hback).trans (if_pos hup)

theorem fwdSend_of_down {d : Dec} {l : Nat} {s : State} (hback : d.link ≠ l + 1) (hup : ¬ s.linkUp l = true) :
    fwdSend d l s = s.inc SHT_FWD_DOWN_CNT := (if_neg hback).trans (if_neg hup)

theorem copyTurn_fwdSend (d : Dec) (l : Nat) (s : State) : CopyTurn [l] s (fwdSend d l s) := by
  by_cases hback : d.link = l + 1
  · rw [show fwdSend d l s = s from if_pos hback]
    exact CopyTurn.rfl
  · by_cases hup : s.linkUp l = true
    · rw [fwdSend_of_up hback hup]
      exact ⟨fun _ _ => rfl, rfl, rfl, List.subset_append_left .., fun m hm => (tget_tput ..).trans (if_neg (by simpa using hm))⟩
    · rw [fwdSend_of_down hback hup]
      exact ⟨(onlyRegs_inc ..).2, rfl, rfl, List.Subset.refl _, fun _ _ => rfl⟩

theorem copyTurn_forEach (d : Dec) (ls : List Nat) (s : State) : CopyTurn ls s (forEach ls s (fwdSend d)) := by
  induction ls generalizing s with
  | nil => exact CopyTurn.rfl
  | cons l ls ih => exact (copyTurn_fwdSend d l s).trans (ih _)

theorem linkUp_congr {s t : State} {l : Nat} (h : ∀ a ∈ [OZL_STS l, OZL_PMSTS l], t.rd a = s.rd a) : t.linkUp l = s.linkUp l := by
  unfold State.linkUp State.fld
  rw [h _ (by simp), h _ (by simp)]

theorem copyRel_congr {s t : State} {l : Nat} (h : ∀ a ∈ [OZL_STS l, OZL_PMSTS l], t.rd a = s.rd a)
    (hlast : tget t.ozl.fbLast l = tget s.ozl.fbLast l) (d : Dec) : copyRel d l t = copyRel d l s := by
  unfold copyRel State.linkThree State.fld
  rw [h _ (by simp), hlast]

/-- The registers of a link stand below those of the Sheet. -/
theorem linkReg_ne {l a b : Nat} (hl : l < 6) (ha : a ∈ [OZL_STS l, OZL_PMSTS l]) (hb : 0xB00000 ≤ b) : a ≠ b := by
  simp only [OZL_STS, OZL_PMSTS, List.mem_cons, List.not_mem_nil, or_false] at ha
  omega

/-- A copy sets out on each link named that is up, but for the one that the decision came on. -/
theorem forEach_fwdSend_sent {d : Dec} {l : Nat} (hl : l < 6) (hback : d.link ≠ l + 1) {ls : List Nat} (hnd : ls.Nodup) (hmem : l ∈ ls)
    {s : State} (hup : s.linkUp l = true) : (⟨l, d.slot, d.dec, copyRel d l s⟩ : Copy) ∈ (forEach ls s (fwdSend d)).cnv.copies
      ∧ tget (forEach ls s (fwdSend d)).ozl.fbLast l = copyRel d l s := by
  induction ls generalizing s with
  | nil => cases hmem
  | cons m ms ih =>
    obtain ⟨hfresh, hnd⟩ := List.nodup_cons.mp hnd
    have hrest := copyTurn_forEach d ms (fwdSend d m s)
    rcases List.mem_cons.mp hmem with rfl | hlater
    · have hsent : (⟨l, d.slot, d.dec, copyRel d l s⟩ : Copy) ∈ (fwdSend d l s).cnv.copies := by simp [fwdSend_of_up hback hup]
      have hlast : tget (fwdSend d l s).ozl.fbLast l = copyRel d l s := by simp [fwdSend_of_up hback hup]
      exact ⟨hrest.copies hsent, (hrest.last l hfresh).trans hlast⟩
    · have hturn := copyTurn_fwdSend d m s
      have hrd : ∀ a ∈ [OZL_STS l, OZL_PMSTS l], (fwdSend d m s).rd a = s.rd a := fun a ha =>
        hturn.keeps a (by simpa using linkReg_ne hl ha (b := SHT_FWD_DOWN_CNT) (by decide))
      have hrel : copyRel d l (fwdSend d m s) = copyRel d l s :=
        copyRel_congr hrd (hturn.last l fun h => hfresh (List.mem_singleton.mp h ▸ hlater)) d
      rw [← hrel]
      exact ih hnd hlater ((linkUp_congr hrd).trans hup)

/-- The links that SHT_FWD of a slot names. -/
def linksNamed (slot : Nat) (s : State) : List Nat := (List.range 6).filter fun l => bit (s.fld (SHT_FWD slot) SHT_FWD_LINKS) l

theorem nodup_linksNamed (slot : Nat) (s : State) : (linksNamed slot s).Nodup := List.nodup_range.filter _

theorem mem_linksNamed {slot l : Nat} {s : State} : l ∈ linksNamed slot s ↔ l < 6 ∧ bit (s.fld (SHT_FWD slot) SHT_FWD_LINKS) l = true := by
  simp [linksNamed]

theorem linksNamed_of_none {slot : Nat} {s : State} (h : s.fld (SHT_FWD slot) SHT_FWD_LINKS = 0) : linksNamed slot s = [] := by
  simp [linksNamed, h, bit]

theorem linksNamed_congr {slot : Nat} {s t : State} (h : t.rd (SHT_FWD slot) = s.rd (SHT_FWD slot)) : linksNamed slot t = linksNamed slot s := by
  unfold linksNamed State.fld
  rw [h]

/-! ### SLOT_RELEASE (R333, R335 to R338, R341) -/

/-- A decision is no longer awaited; its release joins those of its slot. -/
def releaseNoted (slot : Nat) (d : Dec) (s : State) : State :=
  { s with cnv := { s.cnv with entered := s.cnv.entered.erase d } }.noteRel slot d.rel d.dec

/-- The decision stands in its slot. -/
def slotShown (slot : Nat) (d : Dec) (s : State) : State :=
  (releaseNoted slot d s).wrN (SHT_SLOT slot)
    (d.rel % 2 ^ 40 * 2 ^ 24 + (if d.link = 0 then d.yard else 0x40 + d.link) * 2 ^ 16 + d.dec)

/-- The taps on the slot take the decision. -/
def tapsServed (slot : Nat) (d : Dec) (s : State) : State := forEach (s.tapsOn slot) s fun x s => tapRelease slot d.dec d.rel x s

/-- The entries of the taps that are found uncorrectable are disabled. -/
def tapsChecked (slot : Nat) (bad : List Nat) (s : State) : State := forEach ((s.tapsOn slot).filter bad.contains) s tapEcc

/-- The copies of a decision set out. -/
def copiesSent (slot : Nat) (d : Dec) (s : State) : State := forEach (linksNamed slot s) s (fwdSend d)

theorem slotRelease_of_entered {s : State} {slot : Nat} {d : Dec}
    (h : s.cnv.entered.find? (fun d => d.slot == slot && s.atTb1 d.rel) = some d) (bad : List Nat) :
    slotRelease slot bad s = copiesSent slot d (tapsServed slot d (tapsChecked slot bad (slotShown slot d s))) := by
  unfold slotRelease
  rw [h]
  rfl

theorem shtSlot_lt {i : Nat} (hi : i < 1024) : SHT_SLOT i < 0xB20000 := by unfold SHT_SLOT; omega

theorem cnv_releaseNoted (i : Nat) (d : Dec) (s : State) : ∃ old, (releaseNoted i d s).cnv =
    { s.cnv with entered := s.cnv.entered.erase d, rels := tput s.cnv.rels i ((d.rel, d.dec) :: old) } := ⟨_, rfl⟩

theorem cnv_slotShown (i : Nat) (d : Dec) (s : State) : (slotShown i d s).cnv = (releaseNoted i d s).cnv := cnv_of_onlyRegs (onlyRegs_wr ..)

theorem cnvTurn_slotShown (i : Nat) (d : Dec) (s : State) : CnvTurn [SHT_SLOT i] s (slotShown i d s) :=
  CnvTurn.wr (s := releaseNoted i d s) CnvTurn.rfl.withCnv (by simp)

theorem tapsOn_slotShown {i : Nat} (hi : i < 1024) (d : Dec) (s : State) : (slotShown i d s).tapsOn i = s.tapsOn i :=
  (tapsOn_wr (Nat.lt_trans (shtSlot_lt hi) (by decide)) (releaseNoted i d s) _ i).trans (tapsOn_congr rfl rfl rfl i)

theorem sameTap_slotShown {i : Nat} (hi : i < 1024) (d : Dec) (s : State) (x : Nat) : SameTap x s (slotShown i d s) := by
  obtain ⟨hkeeps, hframe⟩ := cnvTurn_slotShown i d s
  have htap : (slotShown i d s).tap x = s.tap x := (congrArg (fun c : Cnv => tget c.taps x) (cnv_slotShown i d s) :)
  have hne : SHT_TAP x ≠ SHT_SLOT i := shtTap_ne (Nat.lt_trans (shtSlot_lt hi) (by decide)) x
  exact ⟨htap, tapWord_congr (by rw [htap]) (congrArg State.clock hframe :) (hkeeps _ (by simpa using hne))⟩

theorem slotRel_slotShown (i : Nat) (d : Dec) (s : State) : (slotShown i d s).slotRel i = d.rel := by
  obtain ⟨old, hcnv⟩ := cnv_releaseNoted i d s
  rw [State.slotRel, cnv_slotShown, hcnv, tget_tput_same]
  rfl

theorem tapTurn_tapsServed (i : Nat) (d : Dec) (s : State) : TapTurn s (tapsServed i d s) :=
  forEach_induct (P := TapTurn s) TapTurn.rfl fun _ _ _ h => h.tapRelease ..

theorem copyTurn_copiesSent (i : Nat) (d : Dec) (s : State) : CopyTurn (linksNamed i s) s (copiesSent i d s) := copyTurn_forEach ..

theorem tapsChecked_of_good {i : Nat} {bad : List Nat} {s : State} (h : ∀ x ∈ s.tapsOn i, x ∉ bad) : tapsChecked i bad s = s := by
  unfold tapsChecked
  rw [List.filter_eq_nil_iff.mpr (by simpa using h)]
  rfl

theorem ozl_of_cnvTurn {as : List Nat} {s t : State} (h : CnvTurn as s t) : t.ozl = s.ozl := (congrArg State.ozl h.2 :)

/-- The copies sent leave the rest of the Sheet. -/
theorem cnv_of_copyTurn {ls : List Nat} {s t : State} (h : CopyTurn ls s t) : t.cnv.entered = s.cnv.entered ∧ t.cnv.rels = s.cnv.rels
    ∧ t.cnv.taps = s.cnv.taps ∧ t.cnv.dets = s.cnv.dets :=
  ⟨(congrArg Cnv.entered h.cnv :), (congrArg Cnv.rels h.cnv :), (congrArg Cnv.taps h.cnv :), (congrArg Cnv.dets h.cnv :)⟩

/-- The taps served leave the rest of the Sheet. -/
theorem cnv_of_tapTurn {s t : State} (h : TapTurn s t) : t.cnv.entered = s.cnv.entered ∧ t.cnv.rels = s.cnv.rels ∧ t.cnv.copies = s.cnv.copies :=
  ⟨(congrArg Cnv.entered h.2 :), (congrArg Cnv.rels h.2 :), (congrArg Cnv.copies h.2 :)⟩

theorem shtSlot_not_mem (i : Nat) : SHT_SLOT i ∉ [SHT_TAP_OVW_CNT, SHT_TAP_FIRE_CNT, SHT_FWD_DOWN_CNT] := by
  simp only [SHT_SLOT, SHT_TAP_OVW_CNT, SHT_TAP_FIRE_CNT, SHT_FWD_DOWN_CNT, List.mem_cons, List.not_mem_nil, or_false]
  omega

/-- What a slot and its taps hold once a decision has been released and no entry was in error. -/
theorem tapsServed_spec {s t : State} {i : Nat} {d : Dec} (hi : i < 1024) (ht : t = tapsServed i d (slotShown i d s)) :
    t.rd (SHT_SLOT i) = BitVec.ofNat 64 (d.rel % 2 ^ 40 * 2 ^ 24 + (if d.link = 0 then d.yard else 0x40 + d.link) * 2 ^ 16 + d.dec)
      ∧ t.slotRel i = d.rel ∧ t.cnv.entered = s.cnv.entered.erase d ∧ t.cnv.copies = s.cnv.copies
      ∧ (∀ x, s.tapsOn i = [x] → (tapTake x i d.dec s).tapFull x = true →
          t.cnv.dets = s.cnv.dets ++ [(tapTake x i d.dec s).tapBit x d.rel]
            ∧ t.rdN SHT_TAP_FIRE_CNT = min 0xFFFFFFFF (s.rdN SHT_TAP_FIRE_CNT + 1) ∧ (t.tap x).sat = [])
      ∧ (s.tapsOn i = [] → t.cnv.dets = s.cnv.dets ∧ t.cnv.taps = s.cnv.taps)
      ∧ CnvTurn [SHT_SLOT i, SHT_TAP_OVW_CNT, SHT_TAP_FIRE_CNT] s t := by
  obtain ⟨r, hr⟩ : ∃ r, r = slotShown i d s := ⟨_, rfl⟩
  have hshown : CnvTurn [SHT_SLOT i] s r := hr ▸ cnvTurn_slotShown i d s
  have hon : r.tapsOn i = s.tapsOn i := hr ▸ tapsOn_slotShown hi d s
  have hsame (x : Nat) : SameTap x s r := hr ▸ sameTap_slotShown hi d s x
  obtain ⟨old, hnoted⟩ := cnv_releaseNoted i d s
  have hcnv := (hr ▸ cnv_slotShown i d s).trans hnoted
  have hword := (congrArg (State.rd · (SHT_SLOT i)) hr).trans (rd_wr_same ..)
  have hrel : r.slotRel i = d.rel := hr ▸ slotRel_slotShown i d s
  rw [← hr] at ht
  have hserve : TapTurn r t := ht ▸ tapTurn_tapsServed i d r
  obtain ⟨hentered, hrels, hcopies⟩ := cnv_of_tapTurn hserve
  have hturn := hserve.1
  refine ⟨(hturn.1 _ fun h => shtSlot_not_mem i (List.mem_append_left [SHT_FWD_DOWN_CNT] h)).trans hword, ?_, ?_, ?_, fun x hx hfull => ?_,
    fun hnone => ?_, (hshown.mono (by simp)).trans (hturn.mono (by simp))⟩
  · rwa [State.slotRel, hrels]
  · rw [hentered, hcnv]
  · rw [hcopies, hcnv]
  · have htake := (hsame x).tapTake i d.dec
    have hserved : t = tapRelease i d.dec d.rel x r := by
      rw [ht, tapsServed, hon, hx]
      rfl
    obtain ⟨hdets, hcount, hopen⟩ := tapRelease_of_full (htake.tapFull.trans hfull) hserved
    refine ⟨?_, ?_, hopen⟩
    · rw [hdets, htake.tapBit, hcnv]
    · rw [hcount, State.rdN, hshown.1 _ (by simp [SHT_SLOT, SHT_TAP_FIRE_CNT]; omega)]
      rfl
  · have hserved : t = r := by
      rw [ht, tapsServed, hon, hnone]
      rfl
    rw [hserved, hcnv]
    exact ⟨rfl, rfl⟩

/-- The copies that set out after a step which leaves the links' registers and SHT_FWD. -/
theorem copiesSent_spec {s u t : State} {i : Nat} {d : Dec} {as : List Nat} (hkeeps : s.keeps u as) (hozl : u.ozl = s.ozl)
    (hfwd : SHT_FWD i ∉ as) (has : ∀ a ∈ as, 0xB00000 ≤ a) (ht : t = copiesSent i d u) :
    (∀ l, l < 6 → bit (s.fld (SHT_FWD i) SHT_FWD_LINKS) l = true → d.link ≠ l + 1 → s.linkUp l = true →
        (⟨l, d.slot, d.dec, copyRel d l s⟩ : Copy) ∈ t.cnv.copies ∧ tget t.ozl.fbLast l = copyRel d l s)
      ∧ (s.fld (SHT_FWD i) SHT_FWD_LINKS = 0 → t = u) := by
  have hnamed : linksNamed i u = linksNamed i s := linksNamed_congr (hkeeps _ hfwd)
  rw [copiesSent, hnamed] at ht
  refine ⟨fun l hl hbit hback hup => ?_, fun hnone => ?_⟩
  · have hrd : ∀ a ∈ [OZL_STS l, OZL_PMSTS l], u.rd a = s.rd a := fun a ha => hkeeps a fun hmem => linkReg_ne hl ha (has a hmem) rfl
    rw [ht, ← copyRel_congr hrd (by rw [hozl]) d]
    exact forEach_fwdSend_sent hl hback (nodup_linksNamed i s) (mem_linksNamed.mpr ⟨hl, hbit⟩) ((linkUp_congr hrd).trans hup)
  · rw [ht, linksNamed_of_none hnone]
    rfl

/-- The decision of a slot is released, with the entries of the taps on it in order (R333, R336, R337, R341). -/
theorem slotRelease_good_spec {s t : State} {i : Nat} {d : Dec} {bad : List Nat} (hi : i < 1024)
    (hfind : s.cnv.entered.find? (fun d => d.slot == i && s.atTb1 d.rel) = some d) (hgood : ∀ x ∈ s.tapsOn i, x ∉ bad)
    (ht : t = slotRelease i bad s) :
    t.rd (SHT_SLOT i) = BitVec.ofNat 64 (d.rel % 2 ^ 40 * 2 ^ 24 + (if d.link = 0 then d.yard else 0x40 + d.link) * 2 ^ 16 + d.dec)
      ∧ t.slotRel i = d.rel ∧ t.cnv.entered = s.cnv.entered.erase d
      ∧ (∀ x, s.tapsOn i = [x] → (tapTake x i d.dec s).tapFull x = true →
          t.cnv.dets = s.cnv.dets ++ [(tapTake x i d.dec s).tapBit x d.rel]
            ∧ t.rdN SHT_TAP_FIRE_CNT = min 0xFFFFFFFF (s.rdN SHT_TAP_FIRE_CNT + 1) ∧ (t.tap x).sat = [])
      ∧ (s.tapsOn i = [] → t.cnv.dets = s.cnv.dets ∧ t.cnv.taps = s.cnv.taps)
      ∧ (∀ l, l < 6 → bit (s.fld (SHT_FWD i) SHT_FWD_LINKS) l = true → d.link ≠ l + 1 → s.linkUp l = true →
          (⟨l, d.slot, d.dec, copyRel d l s⟩ : Copy) ∈ t.cnv.copies ∧ tget t.ozl.fbLast l = copyRel d l s)
      ∧ (s.fld (SHT_FWD i) SHT_FWD_LINKS = 0 → t.cnv.copies = s.cnv.copies)
      ∧ s.keeps t [SHT_SLOT i, SHT_TAP_OVW_CNT, SHT_TAP_FIRE_CNT, SHT_FWD_DOWN_CNT]
      ∧ { t with regs := s.regs, cnv := s.cnv, ozl := s.ozl } = s := by
  obtain ⟨u, hu⟩ : ∃ u, u = tapsServed i d (slotShown i d s) := ⟨_, rfl⟩
  obtain ⟨hword, hrel, hentered, hcopies, hfires, hnoTap, hkeeps, hframe⟩ := tapsServed_spec hi hu
  rw [slotRelease_of_entered hfind, tapsChecked_of_good (by rwa [tapsOn_slotShown hi]), ← hu] at ht
  have hcopy := ht ▸ copyTurn_copiesSent i d u
  obtain ⟨hentered', hrels', htaps', hdets'⟩ := cnv_of_copyTurn hcopy
  obtain ⟨hsent, hnone⟩ := copiesSent_spec (i := i) hkeeps (ozl_of_cnvTurn ⟨hkeeps, hframe⟩)
    (by simp only [SHT_FWD, SHT_SLOT, SHT_TAP_OVW_CNT, SHT_TAP_FIRE_CNT, List.mem_cons, List.not_mem_nil, or_false]; omega)
    (by simp [SHT_SLOT, SHT_TAP_OVW_CNT, SHT_TAP_FIRE_CNT]; omega) ht
  refine ⟨(hcopy.keeps _ fun h => shtSlot_not_mem i (List.mem_append_right [SHT_TAP_OVW_CNT, SHT_TAP_FIRE_CNT] h)).trans hword, ?_,
    hentered'.trans hentered, fun x hx hfull => ?_, fun hx => ?_, hsent, fun h => (congrArg (·.cnv.copies) (hnone h)).trans hcopies,
    fun a ha => ?_, (congrArg (fun x : State => { x with regs := s.regs, cnv := s.cnv, ozl := s.ozl }) hcopy.frame).trans ?_⟩
  · rwa [State.slotRel, hrels']
  · obtain ⟨hdets, hcount, hopen⟩ := hfires x hx hfull
    refine ⟨hdets'.trans hdets, (congrArg BitVec.toNat (hcopy.keeps _ (by decide))).trans hcount, ?_⟩
    rwa [State.tap, htaps']
  · obtain ⟨hdets, htaps⟩ := hnoTap hx
    exact ⟨hdets'.trans hdets, htaps'.trans htaps⟩
  · simp only [List.mem_cons, List.not_mem_nil, or_false, not_or] at ha
    obtain ⟨hslot, hovw, hfire, hdown⟩ := ha
    exact (hcopy.keeps a (by simpa using hdown)).trans (hkeeps a (by simp [hslot, hovw, hfire]))
  · exact (congrArg (fun x : State => { x with ozl := s.ozl }) hframe :)

/-- The decision of a slot is released with the one tap on it in error: the tap goes off and nothing fires (Table 10-9). -/
theorem slotRelease_bad_spec {s t : State} {i x : Nat} {d : Dec} {bad : List Nat} (hi : i < 1024)
    (hfind : s.cnv.entered.find? (fun d => d.slot == i && s.atTb1 d.rel) = some d) (hon : s.tapsOn i = [x]) (hbad : x ∈ bad)
    (ht : t = slotRelease i bad s) :
    t.flag (SHT_TAP x) SHT_TAP_EN = false ∧ t.cnv.dets = s.cnv.dets ∧ t.tap x = default ∧ (∀ z, z ≠ x → t.tap z = s.tap z)
      ∧ t.bus = { s.bus with reports := s.bus.reports ++ [⟨E_SHT_ECC_UNCORR, false, islHub, x⟩] }
      ∧ s.keeps t [SHT_SLOT i, SHT_TAP x, SHT_FWD_DOWN_CNT] ∧ { t with regs := s.regs, cnv := s.cnv, ozl := s.ozl, bus := s.bus } = s := by
  obtain ⟨r, hr⟩ : ∃ r, r = slotShown i d s := ⟨_, rfl⟩
  obtain ⟨hshown, hframe⟩ := hr ▸ cnvTurn_slotShown i d s
  have honR : r.tapsOn i = [x] := hr ▸ (tapsOn_slotShown hi d s).trans hon
  have hsame (z : Nat) : r.tap z = s.tap z := hr ▸ (sameTap_slotShown hi d s z).1
  have hdets : r.cnv.dets = s.cnv.dets := by
    obtain ⟨old, hnoted⟩ := cnv_releaseNoted i d s
    rw [hr, cnv_slotShown, hnoted]
  obtain ⟨u, hu⟩ : ∃ u, u = tapEcc x r := ⟨_, rfl⟩
  obtain ⟨hoff, hdef, hothers, hbus, hcnv, hkeeps, hframeU⟩ := tapEcc_spec hu
  have hchecked : tapsChecked i bad r = u := by
    rw [tapsChecked, honR, List.filter_cons_of_pos (by simpa using hbad), hu]
    rfl
  have hserved : tapsServed i d u = u := by
    rw [tapsServed, hu, tapsOn_tapEcc_of_only honR]
    rfl
  rw [slotRelease_of_entered hfind, ← hr, hchecked, hserved] at ht
  have hcopy := ht ▸ copyTurn_copiesSent i d u
  obtain ⟨-, -, htaps', hdets'⟩ := cnv_of_copyTurn hcopy
  have htap (z : Nat) : t.tap z = u.tap z := congrArg (tget · z) htaps'
  refine ⟨?_, ?_, (htap x).trans hdef, fun z hz => (htap z).trans ((hothers z hz).trans (hsame z)), ?_, fun a ha => ?_, ?_⟩
  · rw [State.flag, State.fld, hcopy.keeps _ (by simpa using shtTap_ne (a := SHT_FWD_DOWN_CNT) (by decide) x)]
    exact hoff
  · exact hdets'.trans ((congrArg Cnv.dets hcnv :).trans hdets)
  · have hbusR : r.bus = s.bus := (congrArg State.bus hframe :)
    exact (congrArg State.bus hcopy.frame :).trans (hbus.trans (by rw [hbusR]))
  · simp only [List.mem_cons, List.not_mem_nil, or_false, not_or] at ha
    obtain ⟨hslot, htapx, hdown⟩ := ha
    exact (hcopy.keeps a (by simpa using hdown)).trans ((hkeeps a (by simpa using htapx)).trans (hshown a (by simpa using hslot)))
  · exact (congrArg (fun v : State => { v with regs := s.regs, cnv := s.cnv, ozl := s.ozl, bus := s.bus }) hcopy.frame).trans
      ((congrArg (fun v : State => { v with regs := s.regs, cnv := s.cnv, ozl := s.ozl, bus := s.bus }) hframeU).trans
        (congrArg (fun v : State => { v with ozl := s.ozl, bus := s.bus }) hframe))

/-! ### Copies that arrive (R342, R344) -/

theorem fwdCopyArrival_of_entry {s : State} {l j rel : Nat} (hen : s.fld (SHT_IMAP l j) SHT_IMAP_EN = 1) (hrel : s.tb1 ≤ rel) (d : Nat) :
    fwdCopyArrival l j d rel false s =
      { s with cnv := { s.cnv with entered := s.cnv.entered ++ [⟨s.fld (SHT_IMAP l j) SHT_IMAP_LOCAL, d % 64, rel, 0, 0, l + 1, false, 0, 0⟩] } } :=
  (if_neg fun h => absurd (hen.symm.trans h) (by decide)).trans (if_neg (Nat.not_lt.mpr hrel))

theorem fwdCopyArrival_of_late {s : State} {l j rel : Nat} (hen : s.fld (SHT_IMAP l j) SHT_IMAP_EN = 1) (hrel : rel < s.tb1) (d : Nat) :
    fwdCopyArrival l j d rel false s = (s.inc SHT_FWD_LATE_CNT).inc GLB_LATE_CNT :=
  (if_neg fun h => absurd (hen.symm.trans h) (by decide)).trans (if_pos hrel)

theorem fwdCopyArrival_of_noEntry {s : State} {l j : Nat} (hen : s.fld (SHT_IMAP l j) SHT_IMAP_EN = 0) (d rel : Nat) (ecc : Bool) :
    fwdCopyArrival l j d rel ecc s = s.inc SHT_FWD_DROP_CNT := by
  have hwhen : (s.when (ecc && s.flag (SHT_IMAP l j) SHT_IMAP_EN) (imapEcc l j)) = s := if_neg (by simp [State.flag, hen])
  unfold fwdCopyArrival
  rw [hwhen]
  exact if_pos hen

theorem en_imapEcc (l j : Nat) (s : State) : (imapEcc l j s).fld (SHT_IMAP l j) SHT_IMAP_EN = 0 := fld_setF s _ SHT_IMAP_EN 0 (by decide)

/-- A map entry in error is disabled, so its copy finds none. -/
theorem fwdCopyArrival_of_ecc {s : State} {l j : Nat} (hen : s.fld (SHT_IMAP l j) SHT_IMAP_EN = 1) (d rel : Nat) :
    fwdCopyArrival l j d rel true s = (imapEcc l j s).inc SHT_FWD_DROP_CNT := by
  have hwhen : s.when (true && s.flag (SHT_IMAP l j) SHT_IMAP_EN) (imapEcc l j) = imapEcc l j s := if_pos (by simp [State.flag, hen])
  unfold fwdCopyArrival
  rw [hwhen]
  exact if_pos (en_imapEcc l j s)

theorem shtImap_ne {a : Nat} (ha : a < 0xB30000) (l j : Nat) : SHT_IMAP l j ≠ a := by unfold SHT_IMAP; omega

/-! ### SHT_TAP (R340) -/

/-- The word of a tap is stored. -/
def tapStored (x : Nat) (w : Word) (s : State) : State := (s.wr (SHT_TAP x) w).status SHT_STS 0

theorem tapStored_spec {s t : State} {x : Nat} {w : Word} (ht : t = tapStored x w s) :
    t.rd (SHT_TAP x) = w ∧ t.fld SHT_STS SHT_STS_STATUS = 0 ∧ s.onlyRegs t [SHT_TAP x, SHT_STS] := by
  subst ht
  exact ⟨(rd_status_ne _ _ _ _ (shtTap_ne (by decide) x)).trans (rd_wr_same ..), fld_status _ _ 0,
    onlyRegs_andWr (onlyRegs_andWr (onlyRegs_rfl ..) (by simp)) (by simp)⟩

theorem tapWrite_of_enable {s : State} {x v : Nat} {w : Word} (hw : w = BitVec.ofNat 64 v &&& rwMask (SHT_TAP x))
    (hoff : getF (s.tapWord x) SHT_TAP_EN = 0) (hv : bit v 63 = true) (hcur : tapCurrent w ≠ []) (hown : s.tapOwned w = true) :
    tapWrite x v s = (tapStored x w s).setTap x default := by
  subst hw
  unfold tapWrite
  dsimp only
  rw [if_neg (by omega), if_neg (not_not_intro hv), if_neg hcur, if_neg (not_not_intro hown)]
  rfl

theorem tapWrite_of_noCurrent {s : State} {x v : Nat} (hoff : getF (s.tapWord x) SHT_TAP_EN = 0) (hv : bit v 63 = true)
    (hcur : tapCurrent (BitVec.ofNat 64 v &&& rwMask (SHT_TAP x)) = []) : tapWrite x v s = s.status SHT_STS E_SHT_TAP_CFG := by
  unfold tapWrite
  dsimp only
  rw [if_neg (by omega), if_neg (not_not_intro hv), if_pos hcur]

theorem tapWrite_of_busy {s : State} {x v : Nat} (hon : getF (s.tapWord x) SHT_TAP_EN = 1) (hv : bit v 63 = true) :
    tapWrite x v s = s.status SHT_STS E_SHT_TAP_BUSY := (if_pos hon).trans (if_pos hv)

theorem tapWrite_of_clear {s : State} {x v : Nat} (hon : getF (s.tapWord x) SHT_TAP_EN = 1) (hv : bit v 63 = false) :
    tapWrite x v s = (tapStored x (BitVec.ofNat 64 v &&& rwMask (SHT_TAP x)) s).setTap x
      { s.tap x with off := some (((s.tap x).off.map (·.1)).getD s.nextEdge, (s.tapWord x).toNat) } :=
  (if_pos hon).trans (if_neg (by simp [hv]))

theorem now_lt_nextEdge (s : State) : s.clock.now < s.nextEdge := by
  have hphase : s.phase < ft := Nat.mod_lt _ (by decide)
  unfold State.nextEdge
  omega

/-- Until the next ft boundary the old word of a cleared tap stands. -/
theorem tapWord_of_off {s : State} {x e : Nat} {w : Word} (hoff : (s.tap x).off = some (e, w.toNat)) (hnow : s.clock.now < e) :
    s.tapWord x = w := by
  unfold State.tapWord
  rw [hoff]
  exact (if_pos hnow).trans (BitVec.ofNat_toNat ..)

/-! ### SHT_IMAP (R332, R346) -/

theorem imapCheck_of_free {s : State} {v : Nat}
    (h : bit v 31 = false ∨ (s.ownOf 8 (v % 1024) ≠ none ∧ s.slotWriters (v % 1024) 64 0 = false)) (l j : Nat) : s.imapCheck l j v = 0 := by
  unfold State.imapCheck
  rcases h with hv | ⟨hown, hfree⟩
  · simp [hv]
  · simp [hown, hfree]

theorem imapCheck_of_unowned {s : State} {v : Nat} (hv : bit v 31 = true) (hown : s.ownOf 8 (v % 1024) = none) (l j : Nat) :
    s.imapCheck l j v = E_IMG_RES_BUSY := by
  unfold State.imapCheck
  simp [hv, hown]

theorem imapWrite_of_taken {s : State} {l j v : Nat} (h : s.imapCheck l j v = 0) :
    imapWrite l j v s = (s.status SHT_STS 0).wrRW (SHT_IMAP l j) v := by
  unfold imapWrite
  rw [h]
  rfl

theorem imapWrite_of_refused {s : State} {l j v c : Nat} (h : s.imapCheck l j v = c) (hc : c ≠ 0) :
    imapWrite l j v s = (s.denyIf c 8 (v % 1024) 4 0).status SHT_STS c := by
  unfold imapWrite
  rw [h]
  exact if_neg hc

/-! ### The clauses of O29 -/

/-- Settles O29: a decision enters by `sheetTaken_of_timely` or is late by `sheetTaken_of_late`; its release is `slotRelease_good_spec`, or
`slotRelease_bad_spec` for a tap in error; a copy that arrives meets one of the cases of `fwdCopyArrival`, and a write of SHT_TAP or SHT_IMAP
one of those of `tapWrite` and `imapWrite`. -/
theorem sheetEntersReleasesAndForwardsDecisions : Obligations.SheetEntersReleasesAndForwardsDecisions := by
  refine ⟨fun s y c d hfind hreached htime => ?_, fun s y c d hfind hslot hlate hrun => ?_, fun s i d bad hi hfind hgood => ?_,
    fun s i d x bad hi hfind hon hbad hx => ?_, fun s l j d rel hen hrel => ?_, fun s l j d rel ecc hen => ?_,
    fun s l j d rel hen hrel => ?_, fun s l j d rel hl hj hen => ?_, fun s x v w hx hopens hw hoff hv hcur hown => ?_,
    fun s x v hx hopens hoff hv hcur => ?_, fun s x v hx hopens hon hv => ?_, fun s x v hx hopens hon hv => ?_,
    fun s l j v hl hj hopens hfree => ?_, fun s l j v hl hj hopens hv hown => ?_⟩
  · obtain ⟨hearly, hlowq, hleak, hcnv, hclock, hturn⟩ := decisionLeft_spec (s := s) (y := y) (c := c) (d := d) rfl
    have htimely := htime.imp_right fun h => (congrArg Clock.tb1 hclock).trans_le (tb1_of_reached hreached ▸ h)
    refine ⟨_, congrArg Host.Outcome.next ((sheetEntry_of_reached hfind hreached).trans (sheetTaken_of_timely htimely)), ?_,
      hearly, hlowq, hleak, hturn⟩
    rw [hcnv]
  · obtain ⟨-, -, -, hcnv, hclock, hturn⟩ := decisionLeft_spec (s := s) (y := y) (c := c) (d := d) rfl
    have hreached : s.reached (d.rel - 128) = true := by simp [State.reached, hrun]; omega
    have hlate' := hlate.trans_eq (congrArg Clock.tb1 hclock).symm
    refine ⟨_, congrArg Host.Outcome.next ((sheetEntry_of_reached hfind hreached).trans (sheetTaken_of_late hslot hlate')),
      (cnv_of_onlyRegs (onlyRegs_inc ..)).trans hcnv, ?_, (hturn.mono (by simp [decisionCounters])).wr (by simp)⟩
    have hcount : (decisionLeft y c d s).rd GLB_LATE_CNT = s.rd GLB_LATE_CNT := hturn.1 _ (by
      simp only [decisionCounters, DSC_EARLY_CNT, DSC_LOWQ_CNT, DSC_LEAK_CNT, GLB_LATE_CNT, List.mem_cons, List.not_mem_nil, or_false]
      omega)
    rw [rdN_inc, State.rdN, hcount, State.rdN]
  · obtain ⟨hword, hrel, hentered, hfires, hnoTap, hsent, hnone, hkeeps, hframe⟩ := slotRelease_good_spec hi hfind hgood rfl
    exact ⟨_, rfl, hword, hrel, hentered, hfires, hnoTap, fun l hl hbit hback hup => ⟨_, rfl, hsent l hl hbit hback hup⟩, hnone, hkeeps, hframe⟩
  · exact ⟨_, rfl, slotRelease_bad_spec hi hfind hon hbad rfl⟩
  · exact ⟨_, congrArg Host.Outcome.next (fwdCopyArrival_of_entry hen hrel d), rfl, rfl, rfl⟩
  · exact ⟨_, congrArg Host.Outcome.next (fwdCopyArrival_of_noEntry hen d rel ecc), rdN_inc .., onlyRegs_inc ..⟩
  · refine ⟨_, congrArg Host.Outcome.next (fwdCopyArrival_of_late hen hrel d), ?_, ?_,
      onlyRegs_trans (onlyRegs_inc ..) (onlyRegs_inc ..) (by simp) (by simp)⟩
    · rw [rdN_inc_ne _ _ _ (by decide), rdN_inc]
    · rw [rdN_inc, rdN_inc_ne _ _ _ (by decide)]
  · refine ⟨_, congrArg Host.Outcome.next (fwdCopyArrival_of_ecc hen d rel), ?_, ?_, rfl, ?_, rfl⟩
    · rw [fld_inc_ne _ _ _ _ (shtImap_ne (by decide) l j)]
      exact en_imapEcc l j s
    · rw [rdN_inc]
      exact congrArg (min 0xFFFFFFFF <| · + 1) (rdN_setF_ne _ _ _ _ _ (shtImap_ne (by decide) l j).symm)
    · exact (onlyRegs_trans (onlyRegs_setF s (SHT_IMAP l j) SHT_IMAP_EN 0) (onlyRegs_inc ..) (by simp) (by simp)).2
  · obtain ⟨hword, hstatus, honly⟩ := tapStored_spec (s := s) (x := x) (w := w) rfl
    exact ⟨_, congrArg Host.Outcome.next ((hostWr_of_opens hopens _).trans (tapWrite_of_enable hw hoff hv hcur hown)), hword,
      tap_setTap_same .., hstatus, (CnvTurn.of_onlyRegs honly).setTap⟩
  · exact ⟨_, congrArg Host.Outcome.next ((hostWr_of_opens hopens _).trans (tapWrite_of_noCurrent hoff hv hcur)), fld_status .., onlyRegs_status ..⟩
  · exact ⟨_, congrArg Host.Outcome.next ((hostWr_of_opens hopens _).trans (tapWrite_of_busy hon hv)), fld_status .., onlyRegs_status ..⟩
  · obtain ⟨hword, hstatus, honly⟩ := tapStored_spec (s := s) (x := x) (w := BitVec.ofNat 64 v &&& rwMask (SHT_TAP x)) rfl
    refine ⟨_, congrArg Host.Outcome.next ((hostWr_of_opens hopens _).trans (tapWrite_of_clear hon hv)), hword, fun hnone => ?_, hstatus,
      (CnvTurn.of_onlyRegs honly).setTap⟩
    rw [hnone]
    exact ⟨tap_setTap_same .., tapWord_of_off (congrArg TapSt.off (tap_setTap_same ..)) (now_lt_nextEdge s)⟩
  · refine ⟨_, congrArg Host.Outcome.next ((hostWr_of_opens hopens _).trans (imapWrite_of_taken (imapCheck_of_free hfree l j))), ?_,
      (fld_wr_ne _ _ _ _ _ (shtImap_ne (by decide) l j).symm).trans (fld_status _ _ 0),
      onlyRegs_trans (onlyRegs_status ..) (onlyRegs_wr ..) (by simp) (by simp)⟩
    rw [rd_wrRW_same, rd_status_ne _ _ _ _ (shtImap_ne (by decide) l j)]
  · have hrefused := imapWrite_of_refused (imapCheck_of_unowned hv hown l j) (by decide)
    exact ⟨_, congrArg Host.Outcome.next ((hostWr_of_opens hopens _).trans hrefused), fld_status ..,
      onlyRegs_trans (onlyRegs_denyIf ..) (onlyRegs_status ..) (by simp) (by simp)⟩

end Sys2Proof.Laws
end

section
namespace Sys2Proof.Laws
open Sys2Proof.Machine

-- One theorem after another: a thread for each of them passes the memory limit of the check.
set_option Elab.async false

/-! ### The queue and the step -/

/-- Settles O59: every command and the passing of time leave the waiting commands alone (`nextTidy_step`), so that a step only takes the
front command off; what was well formed behind it still is. -/
theorem everyStepTakesTheQueueInOrder : Obligations.EveryStepTakesTheQueueInOrder := by
  intro s t ht
  have h := nextTidy_step s
  rw [ht] at h
  have hq : t.pending = s.pending.tail := Tidy.pending h
  refine ⟨hq, fun hs => ?_⟩
  simp only [State.queueWf, hq, List.all_eq_true] at hs ⊢
  exact fun i hi => hs i (List.mem_of_mem_tail hi)

theorem execDbgAccessComplete_answers (s : State) : ∃ t, execDbgAccessComplete s = .next t := by
  unfold execDbgAccessComplete
  split
  · exact ⟨_, rfl⟩
  · exact ⟨_, rfl⟩

theorem execKernelWeightWrite_answers (y c b m v : Nat) (s : State) : ∃ t, execKernelWeightWrite y c b m v s = .next t := by
  unfold execKernelWeightWrite
  split
  · exact ⟨_, rfl⟩
  · exact ⟨_, rfl⟩

theorem execRegReadClear_answers (a n : Nat) (s : State) : ∃ t, execRegReadClear a n s = .next t := by
  unfold execRegReadClear
  split
  · exact ⟨_, rfl⟩
  · exact ⟨_, rfl⟩

/-- No command faults or is refused: but for three that branch, each arm of `exec` is a next state as it stands. -/
theorem exec_answers (i : Instr) (s : State) : ∃ t, exec i s = .next t := by
  cases i
  case dbgAccessComplete => exact execDbgAccessComplete_answers s
  case kernelWeightWrite y c b m v => exact execKernelWeightWrite_answers y c b m v s
  case regReadClear a n => exact execRegReadClear_answers a n s
  all_goals exact ⟨_, rfl⟩

theorem step_of_empty {s : State} (h : s.pending = []) : step s = .next (tick s) := by
  unfold step
  rw [h]

theorem step_of_cons {s : State} {c : Instr} {cs : List Instr} (h : s.pending = c :: cs) : step s = exec c { s with pending := cs } := by
  unfold step
  rw [h]

theorem glbResetTick_of_none {s : State} (h : s.pwr.glbAt = none) : glbResetTick s = s := by
  unfold glbResetTick
  rw [h]

/-- In OFF without a reset that is due only the clock counts. -/
theorem tick_of_off {s : State} (hdev : s.dev = dOFF) (hglb : s.pwr.glbAt = none) : tick s = clockTick s :=
  (if_pos hdev).trans (glbResetTick_of_none (s := clockTick s) hglb)

/-- Settles O57: the two branches of `step`, and that no command faults or is refused (`exec_answers`). -/
theorem stepRunsTheCommandAtTheFront : Obligations.StepRunsTheCommandAtTheFront := by
  refine ⟨fun c cs s => step_of_cons rfl, fun s hq hdev hglb => ?_, fun s => ?_⟩
  · rw [step_of_empty hq, tick_of_off hdev hglb]
    rfl
  · cases hq : s.pending with
    | nil => exact ⟨_, step_of_empty hq⟩
    | cons c cs =>
      rw [step_of_cons hq]
      exact exec_answers c _

/-! ### Device reset -/

/-- Settles O58: the state after reset lists no register, so that each reads its reset value, and its tables and queue are empty. -/
theorem resetLeavesTheValuesOfTheTables : Obligations.ResetLeavesTheValuesOfTheTables := by
  refine ⟨?_, ?_, ?_, ?_, ?_, ?_, ?_, ?_, ?_, fun _ => rfl, fun _ => rfl, rfl, rfl, rfl, rfl⟩
  all_goals decide +kernel

end Sys2Proof.Laws
end

section
namespace Sys2Proof.Laws
open Sys2Proof.Machine

-- One theorem after another: a thread for each of them passes the memory limit of the check.
set_option Elab.async false

/-! ### Untimed instructions: the cursor, and a record -/

/-- What an effect and the move past its instruction leave alone. -/
theorem untimed_frame (s : State) (y pc t : Nat) (f : State → State) :
    { untimed y pc t f s with regs := s.regs, seq := s.seq } = { f s with regs := s.regs, seq := s.seq } := by
  have h := congrArg (fun x : State => { x with regs := s.regs, seq := s.seq }) (retire_frame y pc ((f s).setClk y (t + ft)))
  exact h

/-- A cursor moved within its range. -/
theorem moveTq_spec {s : State} {y n : Nat} (hle : n ≤ 2 ^ 48 - 16) {t : State} (ht : t = moveTq y (s.pc y) (s.issueTime y) n s) :
    t.tq y = n ∧ s.passed t y [SEQ_TQ y] ∧ { t with regs := s.regs, seq := s.seq } = s := by
  have hmove : t = untimed y (s.pc y) (s.issueTime y) (fun s => s.setTq y n) s := ht.trans (if_neg (not_lt.mpr hle))
  subst hmove
  refine ⟨(tq_retire ..).trans ((tq_setTq ..).trans (Nat.mod_eq_of_lt (by omega))), passed_retire rfl (fun a ha => ?_) fun j hj => ?_, ?_⟩
  · exact rd_wrN_ne _ _ _ _ fun e => ha (List.mem_singleton.mpr e)
  · unfold SEQ_LC SEQ_TQ
    rw [List.mem_singleton]
    omega
  · exact untimed_frame ..

theorem exec_nop_of_ready {s : State} {y w : Nat} (h : s.ready y .nop w) :
    exec (.nop y 0) s = .next (untimed y (s.pc y) (s.issueTime y) id s) := by
  have hop : mop (s.word y (s.pc y)) = .nop := by
    rw [h.1]
    exact mop_of_ready h
  have hbad : ¬ mop (s.word y (s.pc y)) = .bad := by
    rw [hop]
    decide
  exact congrArg Host.Outcome.next ((if_neg hbad).trans (issue_of_ready h _))

theorem exec_wait_of_ready {s : State} {y w : Nat} (h : s.ready y .wait w) :
    exec (.wait y) s = .next (moveTq y (s.pc y) (s.issueTime y) (s.tq y + ft * s.waitFt y w) s) :=
  congrArg Host.Outcome.next (issue_of_ready h _)

theorem exec_syncAlign_of_ready {s : State} {y w : Nat} (h : s.ready y .syncAlign w) :
    exec (.syncAlign y) s = .next (moveTq y (s.pc y) (s.issueTime y) (alignTq (s.tq y) (bits w 5 0)) s) :=
  congrArg Host.Outcome.next (issue_of_ready h _)

/-- The multiple of `m` that is not below `q` and less than `m` above it is `q` rounded up (Table 3-8). -/
theorem roundUp_unique {q m n : Nat} (hlo : q ≤ n) (hhi : n < q + m) (hmul : n % m = 0) : (q + m - 1) / m * m = n := by
  obtain ⟨k, rfl⟩ := Nat.dvd_of_mod_eq_zero hmul
  have hm : 0 < m := by omega
  have hk : (q + m - 1) / m = k := by
    refine Nat.div_eq_of_lt_le ?_ ?_
    · rw [Nat.mul_comm]
      omega
    · rw [Nat.succ_mul, Nat.mul_comm k m]
      omega
  rw [hk, Nat.mul_comm]

/-- The USER record that RESULT sends out (Table 16-11). -/
def userBody (s : State) (y w : Nat) : List Nat :=
  [bits w 55 44 + bits w 33 33 * 2 ^ 16, s.g y (bits w 43 39), if bits w 33 33 = 1 then s.g y (bits w 38 34) else 0, 0, 0, 0]

theorem exec_result_of_ready {s : State} {y w : Nat} (h : s.ready y .result w) :
    exec (.result y) s
      = .next (untimed y (s.pc y) (s.issueTime y) (fun s => s.yardRec y 1 (s.tq y) (userBody s y w)) s) :=
  congrArg Host.Outcome.next (issue_of_ready h _)

/-- A record that has set out counts one more on the way for the Mast, which then moves past the instruction. -/
theorem passed_retire_of_record {s u : State} {y : Nat} {o : Nat} (hmast : u.mast y = { s.mast y with outRes := o })
    (hothers : ∀ z, z ≠ y → u.mast z = s.mast z) (hseq : { u.seq with masts := s.seq.masts } = s.seq) (hregs : u.regs = s.regs) {t : State}
    (ht : t = retire y (s.pc y) (u.setClk y (s.issueTime y + 16))) : (t.mast y).outRes = o ∧ s.passed t y [] := by
  subst ht
  have hrd (a : Nat) : u.rd a = s.rd a := congrArg (sget resetVal · a) hregs
  have hloops : ((u.setClk y (s.issueTime y + 16)).mast y).loops = (s.mast y).loops := by simp [hmast]
  have hends := loopEnds_congr (y := y) (s := s) (t := u.setClk y (s.issueTime y + 16)) (s.pc y) (s.mast y).loops
    fun j => congrArg BitVec.toNat (hrd _)
  obtain ⟨⟨-, hq, hrest⟩, hkeeps⟩ := turn_retire y (s.pc y) (u.setClk y (s.issueTime y + 16))
  rw [hloops] at hkeeps
  have hafter : (retire y (s.pc y) (u.setClk y (s.issueTime y + 16))).mast y
      = { s.mast y with loops := (loopEnds y (s.pc y) (s.mast y).loops s).1, clk := s.issueTime y + 16, outRes := o } := by
    rw [mast_retire, hloops, hends.1]
    simp [hmast]
  refine ⟨by rw [hafter], ?_, ?_, fun z hz => ?_, ?_, fun a ha => ?_⟩
  · rw [pc_retire, hloops, hends.2]
  · rw [hafter]
  · rw [hrest z hz]
    simp [hz, hothers z hz]
  · have hrows := congrArg (fun q : Seq => { q with masts := s.seq.masts }) hq
    exact hrows.trans hseq
  · rw [List.append_nil] at ha
    exact (hkeeps a ha).trans (hrd a)

/-- RESULT sends its record, and the Mast moves on. -/
theorem result_spec {s t : State} {y w : Nat}
    (ht : t = untimed y (s.pc y) (s.issueTime y) (fun s => s.yardRec y 1 (s.tq y) (userBody s y w)) s) :
    t.bus = (s.yardRec y 1 (s.tq y) (userBody s y w)).bus ∧ (t.mast y).outRes = (s.mast y).outRes + 1 ∧ s.passed t y []
      ∧ { t with regs := s.regs, seq := s.seq, bus := s.bus } = s := by
  have hframe : { t with regs := s.regs, seq := s.seq } = { s.yardRec y 1 (s.tq y) (userBody s y w) with seq := s.seq } := by
    subst ht
    exact untimed_frame ..
  have hmast (z : Nat) : (s.yardRec y 1 (s.tq y) (userBody s y w)).mast z
      = if z = y then { s.mast y with outRes := (s.mast y).outRes + 1 } else s.mast z := mast_modMast ..
  obtain ⟨hout, hpassed⟩ := passed_retire_of_record (s := s) ((hmast y).trans (if_pos rfl)) (fun z hz => (hmast z).trans (if_neg hz))
    rfl rfl ht
  exact ⟨(congrArg State.bus hframe :), hout, hpassed, (congrArg (fun x : State => { x with bus := s.bus }) hframe :)⟩

/-- Settles O8: NOP, WAIT and SYNC ALIGN leave all but the cursor (`moveTq_spec`); the multiple that SYNC ALIGN rounds to is the only one of
its range (`roundUp_unique`); RESULT sends its record and counts it (`passed_retire_of_record`). -/
theorem untimedInstructionsMoveTheCursorOrRecord : Obligations.UntimedInstructionsMoveTheCursorOrRecord := by
  refine ⟨fun s y w h => ?_, fun s y w n h hn hle => ?_, fun s y w n h hlo hhi hmul hle => ?_, fun s y w h => ?_⟩
  · refine ⟨_, exec_nop_of_ready h, passed_retire rfl (fun _ _ => rfl) fun _ _ => List.not_mem_nil, ?_⟩
    exact untimed_frame ..
  · subst hn
    exact ⟨_, exec_wait_of_ready h, moveTq_spec hle rfl⟩
  · have halign : alignTq (s.tq y) (bits w 5 0) = n := roundUp_unique hlo hhi hmul
    rw [exec_syncAlign_of_ready h, halign]
    exact ⟨_, rfl, moveTq_spec hle rfl⟩
  · obtain ⟨hbus, hout, hpassed, hframe⟩ := result_spec (s := s) (y := y) (w := w) rfl
    exact ⟨_, exec_result_of_ready h, hbus, hout, hpassed, hframe⟩

end Sys2Proof.Laws
end

section
namespace Sys2Proof.Laws
open Sys2Proof.Machine

-- One theorem after another: a thread for each of them passes the memory limit of the check.
set_option Elab.async false

/-! ### Registers that keep their values, and fields after writes -/

theorem keeps_rfl (s : State) (as : List Nat) : s.keeps s as := fun _ _ => rfl

theorem keeps_trans {s t u : State} {as bs cs : List Nat} (h : s.keeps t as) (k : t.keeps u bs) (has : as ⊆ cs) (hbs : bs ⊆ cs) :
    s.keeps u cs := fun a ha => (k a fun hb => ha (hbs hb)).trans (h a fun hb => ha (has hb))

theorem keeps_mono {s t : State} {as bs : List Nat} (h : s.keeps t as) (hsub : as ⊆ bs) : s.keeps t bs :=
  fun a ha => h a fun hmem => ha (hsub hmem)

/-- One more register written. -/
theorem keeps_andWr {as : List Nat} {s t : State} {a : Nat} {v : Word} (h : s.keeps t as) (ha : a ∈ as) : s.keeps (t.wr a v) as :=
  fun b hb => (rd_wr_ne t a b v fun e => hb (e ▸ ha)).trans (h b hb)

/-- The same registers, whatever else has changed. -/
theorem keeps_of_regs {as : List Nat} {s t u : State} (h : s.keeps t as) (hregs : u.regs = t.regs) : s.keeps u as :=
  fun a ha => (congrArg (sget resetVal · a) hregs).trans (h a ha)

theorem rd_of_keeps {s t : State} {as : List Nat} (h : s.keeps t as) {a : Nat} (ha : a ∉ as) : t.rd a = s.rd a := h a ha

theorem fld_of_keeps {s t : State} {as : List Nat} (h : s.keeps t as) {a : Nat} (ha : a ∉ as) (f : Fld) : t.fld a f = s.fld a f :=
  congrArg (getF · f) (h a ha)

theorem rdN_of_keeps {s t : State} {as : List Nat} (h : s.keeps t as) {a : Nat} (ha : a ∉ as) : t.rdN a = s.rdN a :=
  congrArg BitVec.toNat (h a ha)

/-- A flag just set or cleared. -/
theorem flag_setF_same (s : State) (a i n : Nat) (hi : i < 64) (hn : n < 2) : (s.setF a (i, 1) n).flag a (i, 1) = (n == 1) := by
  have h : (s.setF a (i, 1) n).fld a (i, 1) = n := (fld_setF s a (i, 1) n (Nat.succ_le_of_lt hi)).trans (Nat.mod_eq_of_lt hn)
  exact congrArg (· == 1) h

theorem rdN_status (s : State) {a b : Nat} (c : Nat) (h : b ≠ a) : (s.status a c).rdN b = s.rdN b := rdN_setF_ne _ _ _ _ _ h

theorem fld_status_ne (s : State) {a b : Nat} (c : Nat) (f : Fld) (h : b ≠ a) : (s.status a c).fld b f = s.fld b f := fld_setF_ne _ _ _ _ _ _ h

/-- A status within its 16 bits reads as it was written. -/
theorem fld_status_of_lt (s : State) (a : Nat) {c : Nat} (hc : c < 2 ^ 16) : (s.status a c).fld a fSTATUS = c :=
  (fld_status s a c).trans (Nat.mod_eq_of_lt hc)

/-- What a host write that reaches its register answers. -/
theorem next_hostWr {s t : State} {a : Nat} (h : s.opens a) {f : State → State} (ht : f s = t) :
    (.next (hostWr a f s) : Host.Outcome State Fault Refusal) = .next t := congrArg _ ((hostWr_of_opens h f).trans ht)

end Sys2Proof.Laws
end

section
namespace Sys2Proof.Laws
open Sys2Proof.Machine

-- One theorem after another: a thread for each of them passes the memory limit of the check.
set_option Elab.async false

/-! ### Decoder contexts -/

@[simp] theorem ctx_setCtx_same (s : State) (x : Nat) (c : DCtx) : (s.setCtx x c).ctx x = c := tget_tput_same ..

@[simp] theorem ctx_modCtx_same (s : State) (x : Nat) (f : DCtx → DCtx) : (s.modCtx x f).ctx x = f (s.ctx x) := tget_tput_same ..

/-- `t` comes from `s` by changes to the registers of `as` and to the decoder only. -/
def DecTurn (as : List Nat) (s t : State) : Prop := s.keeps t as ∧ { t with regs := s.regs, dec := s.dec } = s

theorem DecTurn.rfl {as : List Nat} {s : State} : DecTurn as s s := ⟨keeps_rfl s as, Eq.refl _⟩

section
variable {as : List Nat} {s₀ s : State}

theorem DecTurn.wr {a : Nat} {v : Word} (h : DecTurn as s₀ s) (ha : a ∈ as) : DecTurn as s₀ (s.wr a v) := ⟨keeps_andWr h.1 ha, h.2⟩

theorem DecTurn.setCtx {x : Nat} {c : DCtx} (h : DecTurn as s₀ s) : DecTurn as s₀ (s.setCtx x c) := h

theorem DecTurn.modCtx {x : Nat} {f : DCtx → DCtx} (h : DecTurn as s₀ s) : DecTurn as s₀ (s.modCtx x f) := h

end

/-! ### DEC_EN (R351, R352) -/

/-- What a check list answers is 0 or the code of one of its checks. -/
theorem firstFail_lt {n : Nat} (hn : 0 < n) {xs : List (Bool × Nat × Nat)} (h : ∀ c ∈ xs, c.2.1 < n) : (firstFail xs).1 < n := by
  induction xs with
  | nil => exact hn
  | cons c xs ih =>
    obtain ⟨bad, code, ix⟩ := c
    obtain ⟨hc, hxs⟩ := List.forall_mem_cons.mp h
    unfold firstFail
    split
    · exact hc
    · exact ih hxs

theorem decCheck_lt (s : State) (x : Nat) (ecc : Bool) : (s.decCheck x ecc).1 < 2 ^ 16 := by
  have hreg : (firstFail (s.decRegChecks x)).1 < 2 ^ 16 := firstFail_lt (by decide) (by simp [State.decRegChecks]; decide)
  have hhead : (firstFail (s.decHeadChecks x)).1 < 2 ^ 16 := firstFail_lt (by decide) (by simp [State.decHeadChecks]; decide)
  have htable : (firstFail (s.decTableChecks x)).1 < 2 ^ 16 := firstFail_lt (by decide) (by simp [State.decTableChecks]; decide)
  unfold State.decCheck
  split
  · split
    · decide
    · split
      · exact htable
      · exact hhead
  · exact hreg

/-- The outcome of an enable, noted. -/
def decNoted (x : Nat) (r : Nat × Nat) (s : State) : State := (s.wrN (DEC_DETAIL x) r.2).status (DEC_CSTS x) r.1

/-- A context switched on, with the graph of its pages. -/
def decOn (x : Nat) (s : State) : State :=
  (((s.setF (DEC_EN x) DEC_EN_EN 1).setXst x xREADY).setF (DEC_OBS x) DEC_OBS_LCOUNT 0).setCtx x
    { (default : DCtx) with graph := readGraph s.dec.store (4096 * s.fld (DEC_GRAPH x) DEC_GRAPH_PAGE) }

/-- A context switched off. -/
def decOff (x : Nat) (s : State) : State :=
  (((s.setF (DEC_EN x) DEC_EN_EN 0).setXst x xOFF).setCtx x default).status (DEC_CSTS x) 0

section
variable {s : State} {x : Nat} {ecc : Bool}

theorem decEnWrite_of_notIdle (h : s.gst (s.decGroup x) ≠ gIDLE) (v : Nat) : decEnWrite x v ecc s = s.status (DEC_CSTS x) E_DEC_STATE :=
  if_pos h

theorem graphPage_ne (x : Nat) : DEC_GRAPH x ∉ [DEC_EN x, DEC_CSTS x, DEC_DETAIL x, DEC_OBS x] := by
  simp [DEC_GRAPH, DEC_EN, DEC_CSTS, DEC_DETAIL, DEC_OBS]

theorem decTurn_decNoted (r : Nat × Nat) : DecTurn [DEC_EN x, DEC_CSTS x, DEC_DETAIL x, DEC_OBS x] s (decNoted x r s) :=
  (DecTurn.rfl.wr (by simp)).wr (by simp)

theorem decTurn_decOn : DecTurn [DEC_EN x, DEC_CSTS x, DEC_DETAIL x, DEC_OBS x] s (decOn x s) :=
  (((DecTurn.rfl.wr (by simp)).wr (by simp)).wr (by simp)).setCtx

theorem decTurn_decOff : DecTurn [DEC_EN x, DEC_CSTS x] s (decOff x s) :=
  (((DecTurn.rfl.wr (by simp)).wr (by simp)).setCtx).wr (by simp)

theorem decOn_spec : (decOn x s).decEn x = true ∧ (decOn x s).xst x = xREADY ∧ (decOn x s).fld (DEC_OBS x) DEC_OBS_LCOUNT = 0
    ∧ (decOn x s).fld (DEC_CSTS x) DEC_CSTS_STATUS = s.fld (DEC_CSTS x) DEC_CSTS_STATUS
    ∧ (decOn x s).ctx x = { (default : DCtx) with graph := readGraph s.dec.store (4096 * s.fld (DEC_GRAPH x) DEC_GRAPH_PAGE) } := by
  have hen : DEC_EN x ≠ DEC_CSTS x ∧ DEC_EN x ≠ DEC_OBS x ∧ DEC_CSTS x ≠ DEC_OBS x ∧ DEC_CSTS x ≠ DEC_EN x := by
    simp [DEC_EN, DEC_CSTS, DEC_OBS]
  obtain ⟨hcsts, hobs, hlow, hback⟩ := hen
  refine ⟨?_, ?_, fld_setF _ _ DEC_OBS_LCOUNT 0 (by decide), ?_, ctx_setCtx_same ..⟩
  · exact congrArg (· == 1) ((fld_setF_ne _ _ _ _ _ _ hobs).trans ((fld_setF_ne _ _ _ _ _ _ hcsts).trans (fld_setF s _ DEC_EN_EN 1 (by decide))))
  · exact (fld_setF_ne _ _ _ _ _ _ hlow).trans (fld_setF _ _ DEC_CSTS_CSTATE xREADY (by decide))
  · exact (fld_setF_ne _ _ _ _ _ _ hlow).trans ((fld_setF_beside _ _ _ DEC_CSTS_STATUS _ (by decide) (by decide) (by decide)).trans
      (fld_setF_ne _ _ _ _ _ _ hback))

theorem decOff_spec : (decOff x s).decEn x = false ∧ (decOff x s).xst x = xOFF ∧ (decOff x s).fld (DEC_CSTS x) DEC_CSTS_STATUS = 0
    ∧ (decOff x s).ctx x = default := by
  have hcsts : DEC_EN x ≠ DEC_CSTS x := by simp [DEC_EN, DEC_CSTS]
  refine ⟨?_, ?_, fld_status .., ctx_setCtx_same ..⟩
  · exact congrArg (· == 1) ((fld_setF_ne _ _ _ _ _ _ hcsts).trans ((fld_setF_ne _ _ _ _ _ _ hcsts).trans (fld_setF s _ DEC_EN_EN 0 (by decide))))
  · exact (fld_setF_beside _ _ _ DEC_CSTS_CSTATE _ (by decide) (by decide) (by decide)).trans (fld_setF _ _ DEC_CSTS_CSTATE xOFF (by decide))

theorem decEnWrite_of_passed (hgst : s.gst (s.decGroup x) = gIDLE) (hen : s.decEn x = false) (h : (s.decCheck x ecc).1 = 0) :
    decEnWrite x 1 ecc s = decOn x (decNoted x (s.decCheck x ecc) s) := by
  unfold decEnWrite
  simp only [hgst, hen, h, ne_eq, not_true_eq_false, if_false, Bool.false_eq_true, not_false_eq_true, and_self, if_true, denyIf_zero]
  unfold decOn decNoted
  rw [h]
  congr 4
  exact fld_of_keeps (keeps_andWr (keeps_andWr (keeps_andWr (keeps_rfl _ _) (by simp)) (by simp)) (by simp)) (graphPage_ne x) _

theorem decEnWrite_of_failed (hgst : s.gst (s.decGroup x) = gIDLE) (hen : s.decEn x = false) (h : (s.decCheck x ecc).1 ≠ 0) :
    decEnWrite x 1 ecc s
      = decNoted x (s.decCheck x ecc) (s.denyIf (s.decCheck x ecc).1 (s.decLacks x).1 (s.decLacks x).2 2 0x0B) := by
  unfold decEnWrite
  simp only [hgst, hen, h, ne_eq, not_true_eq_false, if_false, Bool.false_eq_true, not_false_eq_true, and_self, if_true]
  rfl

theorem decEnWrite_of_off (hgst : s.gst (s.decGroup x) = gIDLE) (hen : s.decEn x = true) : decEnWrite x 0 ecc s = decOff x s := by
  unfold decEnWrite
  simp [hgst, hen]
  rfl

/-- A graph that passes the checks is read, and the context is READY. -/
theorem decEnable_passed_spec (hopen : s.opens (DEC_EN x)) (hgst : s.gst (s.decGroup x) = gIDLE) (hen : s.decEn x = false)
    (h : (s.decCheck x ecc).1 = 0) : ∃ t, exec (.decEnable x ecc) s = .next t ∧ t.decEn x = true ∧ t.xst x = xREADY
      ∧ t.fld (DEC_OBS x) DEC_OBS_LCOUNT = 0 ∧ t.fld (DEC_CSTS x) DEC_CSTS_STATUS = 0
      ∧ t.ctx x = { (default : DCtx) with graph := readGraph s.dec.store (4096 * s.fld (DEC_GRAPH x) DEC_GRAPH_PAGE) }
      ∧ DecTurn [DEC_EN x, DEC_CSTS x, DEC_DETAIL x, DEC_OBS x] s t := by
  refine ⟨_, next_hostWr hopen (decEnWrite_of_passed hgst hen h), ?_⟩
  have hnoted := decTurn_decNoted (s := s) (x := x) (s.decCheck x ecc)
  obtain ⟨hon, hxst, hobs, hstatus, hctx⟩ := decOn_spec (s := decNoted x (s.decCheck x ecc) s) (x := x)
  obtain ⟨hkeeps, hframe⟩ := decTurn_decOn (s := decNoted x (s.decCheck x ecc) s) (x := x)
  refine ⟨hon, hxst, hobs, hstatus.trans ?_, hctx.trans ?_, keeps_trans hnoted.1 hkeeps (List.Subset.refl _) (List.Subset.refl _), ?_⟩
  · exact (fld_status ..).trans (congrArg (· % 2 ^ 16) h)
  · rw [fld_of_keeps hnoted.1 (graphPage_ne x)]
    rfl
  · exact (congrArg (fun u : State => { u with regs := s.regs, dec := s.dec }) hframe).trans hnoted.2

/-- A failed check leaves its code and the index it names. -/
theorem decEnable_failed_spec (hopen : s.opens (DEC_EN x)) (hgst : s.gst (s.decGroup x) = gIDLE) (hen : s.decEn x = false)
    (h : (s.decCheck x ecc).1 ≠ 0) : ∃ t, exec (.decEnable x ecc) s = .next t ∧ t.fld (DEC_CSTS x) DEC_CSTS_STATUS = (s.decCheck x ecc).1
      ∧ t.rdN (DEC_DETAIL x) = (s.decCheck x ecc).2 % 2 ^ 64 ∧ s.onlyRegs t [DEC_CSTS x, DEC_DETAIL x, IMG_DENY, IMG_DENY_CNT] := by
  refine ⟨_, next_hostWr hopen (decEnWrite_of_failed hgst hen h),
    fld_status_of_lt _ _ (decCheck_lt ..), (rdN_status _ _ (by simp [DEC_DETAIL, DEC_CSTS])).trans (rdN_wrN ..), ?_⟩
  refine onlyRegs_trans (onlyRegs_denyIf ..) (onlyRegs_andWr (onlyRegs_andWr (onlyRegs_rfl _ [DEC_CSTS x, DEC_DETAIL x]) ?_) ?_) ?_ ?_
  all_goals simp

end

/-! ### Detectors (R355) -/

/-- A detector that the decoder has taken. -/
def detTaken (b : Det) (s : State) : State := { s with cnv := { s.cnv with dets := s.cnv.dets.erase b } }

section
variable {s : State} {d x j rel : Nat} {b : Det} {z : DBit} {final : Bool}

theorem detectorArrival_of_discarded (hb : s.cnv.dets.find? (fun b => b.det == d && s.due b.rel) = some b)
    (hoff : ∀ x f j, s.routeDet d = some (x, f, j) → (s.ctx x).on = false) : detectorArrival d s = (detTaken b s).inc DEC_DISC_CNT := by
  have hroute : (detTaken b s).routeDet d = s.routeDet d := rfl
  unfold detectorArrival
  rw [hb]
  show (match (detTaken b s).routeDet d with | some (x, final, j) => _ | none => _) = _
  rw [hroute]
  split
  · next x f j h => exact if_neg fun hon => Bool.false_ne_true ((hoff x f j h).symm.trans hon)
  · rfl

theorem detectorArrival_of_running (hb : s.cnv.dets.find? (fun b => b.det == d && s.due b.rel) = some b)
    (hroute : s.routeDet d = some (x, final, j)) (hon : (s.ctx x).on = true) :
    detectorArrival d s = joinRound x final ⟨j, b.val, b.erase, b.soft, false⟩ b.rel (detTaken b s) := by
  have hsame : (detTaken b s).routeDet d = some (x, final, j) := hroute
  unfold detectorArrival
  rw [hb]
  show (match (detTaken b s).routeDet d with | some (x, final, j) => _ | none => _) = _
  rw [hsame]
  exact if_pos hon

/-- Without an open round of its layer a detector opens one, if another round may be open. -/
theorem joinRound_of_new (hnone : ∀ o ∈ (s.ctx x).opens, o.final ≠ final)
    (hroom : s.flag (DEC_ROUND x) DEC_ROUND_CLOSE = true ∨ (s.ctx x).opens.length < 2) :
    joinRound x final z rel s = s.setCtx x { s.ctx x with opens := (s.ctx x).opens ++ [⟨final, rel, [z]⟩] } := by
  have hlayer : ((s.ctx x).opens.any fun o => o.final == final) = false := by simpa using hnone
  have hfits : ((s.ctx x).opens.any fun o => o.final == final && !(o.got.any fun y => y.j == z.j)) = false := by
    rw [List.any_eq_false]
    intro o ho
    simp [hnone o ho]
  have htwo : ((s.ctx x).opens.any fun o => o.final == final && o.got.any fun y => y.j == z.j) = false := by
    rw [List.any_eq_false]
    intro o ho
    simp [hnone o ho]
  unfold joinRound
  by_cases hclose : s.flag (DEC_ROUND x) DEC_ROUND_CLOSE = true
  · simp only [hclose, if_true, htwo, hlayer, Bool.false_eq_true, if_false, State.when, b01, Nat.add_zero]
  · have hfew : ¬ 2 ≤ (s.ctx x).opens.length := by
      obtain h | h := hroom
      · exact absurd h hclose
      · omega
    simp only [hclose, hfits, hfew, Bool.false_eq_true, if_false]
    rfl

/-- A detector that the one open round of its layer lacks joins it. -/
theorem joinRound_of_open {o : DOpen} (hclose : s.flag (DEC_ROUND x) DEC_ROUND_CLOSE = false) (hopens : (s.ctx x).opens = [o])
    (hfinal : o.final = final) (hnew : ∀ y ∈ o.got, y.j ≠ z.j) :
    joinRound x final z rel s = s.setCtx x { s.ctx x with opens := [{ o with got := o.got ++ [z] }] } := by
  have hfits : (o.final == final && !(o.got.any fun y => y.j == z.j)) = true := by
    simpa [hfinal] using hnew
  unfold joinRound
  simp only [hclose, hopens, List.any_cons, List.any_nil, hfits, Bool.or_false, Bool.false_eq_true, if_false, if_true, List.zipIdx_cons,
    List.zipIdx_nil, List.map_cons, List.map_nil, List.findIdx_cons, cond_true]

end

/-! ### The close of a round (R356 to R358, R362) -/

/-- A round counted, with its missing detectors and its latency. -/
def roundCounted (x : Nat) (r : DRound) (at_ : Nat) (s : State) : State :=
  let u := (s.inc (DEC_RND_CNT x)).incBy (DEC_MISS_CNT x) (r.bits.filter fun b => b.miss).length
  u.setF (DEC_LAT x) DEC_LAT_WORST (max (u.fld (DEC_LAT x) DEC_LAT_WORST) (min 0xFFFF ((r.s + r.u * ft + 40 * ft - at_) / ft)))

/-- What a context keeps of a round that has closed: the round waits for its decode. -/
def ctxWith (c : DCtx) (o : DOpen) (r : DRound) : DCtx :=
  { c with idx := c.idx + 1, free := r.s + r.u * ft, prev := if o.final then [] else r.bits, rounds := if o.final then 0 else c.rounds + 1,
           miss := if o.final then 0 else c.miss + (r.bits.filter fun b => b.miss).length, forced := if o.final then 0 else c.forced,
           items := if o.final then [] else c.items, wait := c.wait ++ [r] }

/-- The raw record of a round where the context asks for one. -/
def rawIf (x : Nat) (r : DRound) (s : State) : State := if s.flag (DEC_CTL x) DEC_CTL_RAW then rawRecord x r s else s

/-- A round of context `x` has closed and left the context as `c`: it is counted, BACKLOG follows, and it has a raw record where the context
asks for one. -/
structure RoundClosed (x : Nat) (c : DCtx) (s t : State) : Prop where
  ctx : t.ctx x = c
  counted : t.rdN (DEC_RND_CNT x) = min 0xFFFFFFFF (s.rdN (DEC_RND_CNT x) + 1)
  backlog : t.fld (DEC_CSTS x) DEC_CSTS_BACKLOG = c.wait.length
  quiet : s.flag (DEC_CTL x) DEC_CTL_RAW = false → t.bus = s.bus
  raw : s.flag (DEC_CTL x) DEC_CTL_RAW = true → ∃ y, t.bus = { s.bus with recs := s.bus.recs ++ [y] } ∧ y.qid = s.fld (DEC_QID x) DEC_QID_QID
  keeps : s.keeps t [DEC_RND_CNT x, DEC_MISS_CNT x, DEC_LAT x, DEC_CSTS x]
  frame : { t with regs := s.regs, dec := s.dec, bus := s.bus } = s

section
variable {s : State} {x at_ : Nat} {o : DOpen} {r : DRound}

theorem closeRound_of_room (hr : r = s.closed_ x o at_) (hovl : (s.ctx x).ovl = false) (hroom : (s.ctx x).wait.length < 8) :
    closeRound x o at_ s = decBacklog x (rawIf x r ((roundCounted x r at_ s).setCtx x (ctxWith (s.ctx x) o r))) := by
  subst hr
  have hnot : ¬ (s.ctx x).ovl = true := by simp [hovl]
  have hfull : ¬ decide (8 ≤ (s.ctx x).wait.length) = true := by simpa using hroom
  unfold closeRound
  exact (if_neg hnot).trans (if_neg hfull)

theorem decTurn_roundCounted : DecTurn [DEC_RND_CNT x, DEC_MISS_CNT x, DEC_LAT x, DEC_CSTS x] s (roundCounted x r at_ s) :=
  ((DecTurn.rfl.wr (by simp)).wr (by simp)).wr (by simp)

theorem rndCnt_roundCounted : (roundCounted x r at_ s).rdN (DEC_RND_CNT x) = min 0xFFFFFFFF (s.rdN (DEC_RND_CNT x) + 1) := by
  have hlat : DEC_RND_CNT x ≠ DEC_LAT x := by simp [DEC_RND_CNT, DEC_LAT]
  have hmiss : DEC_RND_CNT x ≠ DEC_MISS_CNT x := by simp [DEC_RND_CNT, DEC_MISS_CNT]
  exact (rdN_setF_ne _ _ _ _ _ hlat).trans ((congrArg BitVec.toNat (rd_wr_ne _ _ _ _ hmiss)).trans (rdN_inc ..))

theorem rawIf_of_quiet (h : s.flag (DEC_CTL x) DEC_CTL_RAW = false) : rawIf x r s = s := by simp [rawIf, h]

/-- The raw record of a round sets out for the queue of its context. -/
theorem rawRecord_spec (x : Nat) (r : DRound) (s : State) :
    ∃ y, (rawRecord x r s).bus = { s.bus with recs := s.bus.recs ++ [y] } ∧ y.qid = s.fld (DEC_QID x) DEC_QID_QID := ⟨_, rfl, rfl⟩

/-- A raw record changes nothing but what is on its way to the queues. -/
theorem rawIf_frame : (rawIf x r s).regs = s.regs ∧ (rawIf x r s).dec = s.dec ∧ { rawIf x r s with bus := s.bus } = s := by
  unfold rawIf
  split
  · exact ⟨rfl, rfl, rfl⟩
  · exact ⟨rfl, rfl, rfl⟩

/-- A round closes where its context has room for it: it is counted and waits. -/
theorem roundClosed_closeRound (hr : r = s.closed_ x o at_) (hovl : (s.ctx x).ovl = false) (hroom : (s.ctx x).wait.length < 8) :
    RoundClosed x (ctxWith (s.ctx x) o r) s (closeRound x o at_ s) := by
  obtain ⟨t, ht⟩ : ∃ t, t = closeRound x o at_ s := ⟨_, rfl⟩
  rw [← ht]
  rw [closeRound_of_room hr hovl hroom] at ht
  obtain ⟨hkeeps, hframe⟩ := decTurn_roundCounted (s := s) (x := x) (r := r) (at_ := at_)
  obtain ⟨u, hu⟩ : ∃ u, u = (roundCounted x r at_ s).setCtx x (ctxWith (s.ctx x) o r) := ⟨_, rfl⟩
  rw [← hu] at ht
  obtain ⟨hregs, hdec, hrest⟩ := rawIf_frame (s := u) (x := x) (r := r)
  have hctx : (rawIf x r u).ctx x = ctxWith (s.ctx x) o r := by
    unfold State.ctx
    rw [hdec, hu]
    exact ctx_setCtx_same ..
  have hku : s.keeps u [DEC_RND_CNT x, DEC_MISS_CNT x, DEC_LAT x, DEC_CSTS x] := by
    rw [hu]
    exact hkeeps
  have hctl : DEC_CTL x ∉ [DEC_RND_CNT x, DEC_MISS_CNT x, DEC_LAT x, DEC_CSTS x] := by simp [DEC_CTL, DEC_RND_CNT, DEC_MISS_CNT, DEC_LAT, DEC_CSTS]
  have hraw : u.flag (DEC_CTL x) DEC_CTL_RAW = s.flag (DEC_CTL x) DEC_CTL_RAW := congrArg (· == 1) (fld_of_keeps hku hctl _)
  have hbus : u.bus = s.bus := by rw [hu]; rfl
  have hcnt : (rawIf x r u).rdN (DEC_RND_CNT x) = u.rdN (DEC_RND_CNT x) := by rw [State.rdN, State.rd, hregs]; rfl
  refine ⟨?_, ?_, ?_, fun h => ?_, fun h => ?_, ?_, ?_⟩
  · rw [ht]
    exact hctx
  · rw [ht]
    refine (rdN_setF_ne _ _ _ _ _ (by simp [DEC_RND_CNT, DEC_CSTS])).trans (hcnt.trans ?_)
    rw [hu]
    exact rndCnt_roundCounted
  · rw [ht]
    refine (fld_setF _ _ DEC_CSTS_BACKLOG _ (by decide)).trans ?_
    rw [hctx]
    refine Nat.mod_eq_of_lt ?_
    simp only [ctxWith, List.length_append, List.length_singleton, DEC_CSTS_BACKLOG]
    omega
  · rw [ht, rawIf_of_quiet (hraw.trans h)]
    exact hbus
  · have hrec : rawIf x r u = rawRecord x r u := if_pos (hraw.trans h)
    obtain ⟨y, hy, hqid⟩ := rawRecord_spec x r u
    refine ⟨y, ?_, hqid.trans (fld_of_keeps hku (by simp [DEC_QID, DEC_RND_CNT, DEC_MISS_CNT, DEC_LAT, DEC_CSTS]) _)⟩
    rw [ht, hrec, ← hbus]
    exact hy
  · rw [ht]
    exact keeps_andWr (keeps_of_regs hku hregs) (by simp)
  · rw [ht]
    refine (congrArg (fun v : State => { v with regs := s.regs, dec := s.dec, bus := s.bus }) hrest).trans ?_
    rw [hu]
    exact congrArg (fun v : State => { v with bus := s.bus }) hframe

/-- A round closes and leaves no other open. -/
theorem roundClosed_last (hr : r = s.closed_ x o at_) (hovl : (s.ctx x).ovl = false) (hroom : (s.ctx x).wait.length < 8) :
    RoundClosed x (ctxWith { s.ctx x with opens := [] } o r) s (closeRound x o at_ (s.setCtx x { s.ctx x with opens := [] })) := by
  obtain ⟨u, hu⟩ : ∃ u, u = s.setCtx x { s.ctx x with opens := [] } := ⟨_, rfl⟩
  have hctx : u.ctx x = { s.ctx x with opens := [] } := by rw [hu, ctx_setCtx_same]
  have hclosed : r = u.closed_ x o at_ := by
    rw [hr, hu]
    unfold State.closed_
    rw [ctx_setCtx_same]
    rfl
  have h := roundClosed_closeRound hclosed (by rw [hctx]; exact hovl) (by rw [hctx]; exact hroom)
  rw [hctx] at h
  rw [← hu]
  obtain ⟨hc, hcounted, hbacklog, hquiet, hraw, hkeeps, hframe⟩ := h
  subst hu
  exact ⟨hc, hcounted, hbacklog, hquiet, hraw, hkeeps, (congrArg (fun v : State => { v with dec := s.dec }) hframe :)⟩

/-- A round that is the only open one closes. -/
theorem roundClosed_closeOldest (hopens : (s.ctx x).opens = [o]) (hr : r = s.closed_ x o at_) (hovl : (s.ctx x).ovl = false)
    (hroom : (s.ctx x).wait.length < 8) : RoundClosed x (ctxWith { s.ctx x with opens := [] } o r) s (closeOldest x at_ s) := by
  have h := roundClosed_last hr hovl hroom
  have hall : closeOldest x at_ s = closeRound x o at_ (s.setCtx x { s.ctx x with opens := [] }) := by
    unfold closeOldest State.modCtx
    rw [hopens]
    dsimp only
    rw [h.ctx]
    rfl
  rw [hall]
  exact h

/-- The statement of a close, in its terms. -/
theorem RoundClosed.spec {c : DCtx} {t : State} (h : RoundClosed x (ctxWith { c with opens := [] } o r) s t) :
    (t.ctx x).opens = [] ∧ (t.ctx x).wait = c.wait ++ [r] ∧ (t.ctx x).idx = c.idx + 1
      ∧ t.rdN (DEC_RND_CNT x) = min 0xFFFFFFFF (s.rdN (DEC_RND_CNT x) + 1) ∧ t.fld (DEC_CSTS x) DEC_CSTS_BACKLOG = c.wait.length + 1 := by
  refine ⟨?_, ?_, ?_, h.counted, ?_⟩
  · rw [h.ctx]
    rfl
  · rw [h.ctx]
    rfl
  · rw [h.ctx]
    rfl
  · rw [h.backlog]
    simp [ctxWith]

theorem roundClose_of_complete (hopens : (s.ctx x).opens = [o]) (hclose : s.flag (DEC_ROUND x) DEC_ROUND_CLOSE = false)
    (hfull : o.got.length = (s.ctx x).layerDets o) : roundClose x s = closeOldest x (ceilFt s.tb1) s := by
  unfold roundClose
  simp only [hopens, hclose, hfull, Bool.false_eq_true, not_false_eq_true, and_self, if_true]

theorem takeDets_of_none (h : ∀ z ∈ s.cnv.dets, s.due z.rel = false) : takeDets s = s := by
  have hnone : s.cnv.dets.filter (fun d => s.due d.rel) = [] := by simpa using h
  unfold takeDets
  rw [hnone]
  rfl

theorem roundDeadline_of_reached {d : Nat} (hdets : ∀ z ∈ s.cnv.dets, s.due z.rel = false) (hopens : (s.ctx x).opens = [o])
    (hclose : s.flag (DEC_ROUND x) DEC_ROUND_CLOSE = false) (hd : d = ceilFt o.opened + 16 * s.fld (DEC_ROUND x) DEC_ROUND_RDL)
    (hreached : s.reached d = true) : roundDeadline x s = closeOldest x d s := by
  have hft : ceilFt o.opened + s.fld (DEC_ROUND x) DEC_ROUND_RDL * ft = d := by rw [hd, Nat.mul_comm]; rfl
  unfold roundDeadline
  simp only [takeDets_of_none hdets, hopens, hclose, hft, hreached, Bool.false_eq_true, not_false_eq_true, and_self, if_true]

theorem roundClockClose_of_bulk (hdets : ∀ z ∈ s.cnv.dets, s.due z.rel = false) (hclose : s.flag (DEC_ROUND x) DEC_ROUND_CLOSE = true)
    (hon : (s.ctx x).on = true) (hat : at_ = (s.ctx x).org + (s.fld (DEC_RCLK x) DEC_RCLK_RB + (s.ctx x).idx * s.fld (DEC_RCLK x) DEC_RCLK_RP) * 16)
    (hreached : s.reached at_ = true) (hbulk : ∀ z ∈ (s.ctx x).opens, z.final = false) (ho : o = ((s.ctx x).opens.head?).getD ⟨false, at_, []⟩) :
    roundClockClose x s = closeRound x o at_ (s.setCtx x { s.ctx x with opens := [] }) := by
  have hfinal : (s.ctx x).opens.find? (fun o => o.final) = none := by simpa using hbulk
  have hfirst : (s.ctx x).opens.find? (fun o => !o.final) = (s.ctx x).opens.head? := by
    cases h : (s.ctx x).opens with
    | nil => rfl
    | cons p ps => simp [hbulk p (by simp [h])]
  unfold roundClockClose
  rw [takeDets_of_none hdets]
  dsimp only [ft]
  rw [← hat, if_pos ⟨hclose, hon, hreached⟩, hfinal, hfirst, ← ho]

end

/-- Settles O30: DEC_EN takes a context whose checks pass and leaves the code of one that fails (`decOn_spec`, `decCheck_lt`); a detector is
routed to the running context that has it (`joinRound_of_new`, `joinRound_of_open`); the three ways in which a round closes are one
(`roundClosed_closeRound`). -/
theorem decoderContextsTakeGraphsAndRounds : Obligations.DecoderContextsTakeGraphsAndRounds := by
  refine ⟨?_, ?_, ?_, ?_, ?_, ?_, ?_, ?_, ?_, ?_⟩
  · intro s x ecc _ hopen hgst hen hcheck
    exact decEnable_passed_spec hopen hgst hen hcheck
  · intro s x ecc _ hopen hgst hen hcheck
    exact decEnable_failed_spec hopen hgst hen hcheck
  · intro s x ecc _ hopen hgst
    exact ⟨_, next_hostWr hopen (decEnWrite_of_notIdle hgst 1), fld_status .., onlyRegs_status ..⟩
  · intro s x _ hopen hgst hen
    obtain ⟨hoff, hxst, hstatus, hctx⟩ := decOff_spec (s := s) (x := x)
    exact ⟨_, next_hostWr hopen (decEnWrite_of_off hgst hen), hoff, hxst, hstatus, hctx, decTurn_decOff⟩
  · intro s d b hb hoff
    refine ⟨_, congrArg Host.Outcome.next (detectorArrival_of_discarded hb hoff), rfl, rdN_inc .., ?_, rfl⟩
    exact keeps_andWr (keeps_rfl _ _) (List.mem_singleton.mpr rfl)
  · intro s d b x f j hb hroute hon hnone hroom
    exact ⟨_, congrArg Host.Outcome.next ((detectorArrival_of_running hb hroute hon).trans (joinRound_of_new hnone hroom)), rfl, ctx_setCtx_same ..,
      rfl, rfl⟩
  · intro s d b x f j o hb hroute hon hclose hopens hfinal hnew
    refine ⟨_, congrArg Host.Outcome.next ((detectorArrival_of_running hb hroute hon).trans (joinRound_of_open hclose hopens hfinal hnew)), ?_,
      rfl, rfl⟩
    exact congrArg DCtx.opens (ctx_setCtx_same ..)
  · intro s x o r _ hopens hclose hfull hovl hroom hr
    have h := roundClosed_closeOldest hopens hr hovl hroom
    obtain ⟨hnone, hwait, hidx, hcounted, hbacklog⟩ := h.spec
    exact ⟨_, congrArg Host.Outcome.next (roundClose_of_complete hopens hclose hfull), hnone, hwait, hidx, hcounted, hbacklog, h.quiet, h.raw, h.keeps,
      h.frame⟩
  · intro s x o d r _ hopens hclose hd hreached hovl hroom hr hdets
    have h := roundClosed_closeOldest hopens hr hovl hroom
    obtain ⟨hnone, hwait, hidx, hcounted, -⟩ := h.spec
    exact ⟨_, congrArg Host.Outcome.next (roundDeadline_of_reached hdets hopens hclose hd hreached), hnone, hwait, hidx, hcounted, h.keeps, h.frame⟩
  · intro s x at_ o r _ hclose hon hat hreached hbulk ho hovl hroom hr hdets
    have h := roundClosed_last hr hovl hroom
    obtain ⟨hnone, hwait, hidx, hcounted, -⟩ := h.spec
    exact ⟨_, congrArg Host.Outcome.next (roundClockClose_of_bulk hdets hclose hon hat hreached hbulk ho), hnone, hwait, hidx, hcounted, h.keeps,
      h.frame⟩

end Sys2Proof.Laws
end

section
namespace Sys2Proof.Laws
open Sys2Proof.Machine

-- One theorem after another: a thread for each of them passes the memory limit of the check.
set_option Elab.async false

/-! ### The decode of a round (R358 to R361) -/

/-- The context with a round taken from those that wait into its window. -/
def windowWith (c : DCtx) (r : DRound) (rest : List DRound) : DCtx := { c with wait := rest, win := c.win ++ [r] }

/-- The window has taken a round, and BACKLOG follows. -/
def roundTaken (x : Nat) (r : DRound) (rest : List DRound) (s : State) : State := decBacklog x (s.setCtx x (windowWith (s.ctx x) r rest))

section
variable {s : State} {x : Nat} {r : DRound} {rest : List DRound}

@[simp] theorem ctx_roundTaken : (roundTaken x r rest s).ctx x = windowWith (s.ctx x) r rest := ctx_setCtx_same ..

theorem decTurn_roundTaken : DecTurn [DEC_CSTS x] s (roundTaken x r rest s) := DecTurn.rfl.setCtx.wr (by simp)

theorem backlog_roundTaken (h : rest.length < 16) : (roundTaken x r rest s).fld (DEC_CSTS x) DEC_CSTS_BACKLOG = rest.length := by
  refine (fld_setF _ _ DEC_CSTS_BACKLOG _ (by decide)).trans ?_
  rw [ctx_setCtx_same]
  exact Nat.mod_eq_of_lt h

theorem getLast?_windowWith (c : DCtx) : (windowWith c r rest).win.getLast? = some r := by simp [windowWith]

theorem decodeStart_of_waiting (htail : (s.ctx x).tail = none) (hwait : (s.ctx x).wait = r :: rest) (hreached : s.reached r.s = true)
    (hcur : (s.ctx x).cur = none) : decodeStart x false s = decodeWindow x r.s r.v (roundTaken x r rest s) := by
  unfold decodeStart
  simp only [htail, hwait, hreached, hcur, Bool.false_and, Bool.false_eq_true, if_false, not_true_eq_false, Option.isSome_none, false_or, false_and]
  rfl

theorem decodeWindow_of_local (h : (s.ctx x).graph.spans = false) (at_ v : Nat) :
    decodeWindow x at_ v s = decCommit x (s.ctx x).localCorr s := by
  simp [decodeWindow, h]

theorem decodeWindow_of_spanning (h : (s.ctx x).graph.spans = true) (at_ v : Nat) :
    decodeWindow x at_ v s = s.setCtx x { s.ctx x with cur := some ⟨growStart (windowEdges (s.ctx x).graph (s.ctx x).win) (windowEvents (s.ctx x).win), 0, at_ + v * ft, false, [], [], [], [], []⟩ } := by
  simp [decodeWindow, h]

/-- A window below WIN rounds commits nothing (R360). -/
theorem decCommit_of_few (hlast : (s.ctx x).win.getLast? = some r) (hflush : r.flush = 0) (hfinal : r.final = false) (hlog : r.log = none)
    (hfew : (s.ctx x).win.length < s.fld (DEC_CTL x) DEC_CTL_WIN) (corr : List Nat) :
    decCommit x corr s = s.setCtx x { s.ctx x with cur := none } := by
  have hwin : ¬ s.fld (DEC_CTL x) DEC_CTL_WIN ≤ (s.ctx x).win.length := by omega
  unfold decCommit
  simp [hlast, hflush, hfinal, hlog, hwin, pendingOf]

/-- A final round commits the whole window, with its items and its logical record (R361, R368). -/
theorem decCommit_of_final {l : DLog} {es : List WEdge} {corr : List Nat} (hlast : (s.ctx x).win.getLast? = some r) (hflush : r.flush = 0)
    (hfinal : r.final = true) (hlog : r.log = some l) (hes : es = (windowEdges (s.ctx x).graph (s.ctx x).win).filter fun e => corr.contains e.pos) :
    decCommit x corr s = s.setCtx x { s.ctx x with
      win := [], cur := none, items := (s.ctx x).items ++ [⟨r.s + r.u * ft + 40 * ft, pendingOf (s.ctx x).win es, true⟩], acc := 0, deg := false, xcut := false
      logs := (s.ctx x).logs ++ [(l, es.foldl (fun a e => a ^^^ e.e.obs) (s.ctx x).acc, (s.ctx x).deg, (s.ctx x).xcut)] } := by
  subst hes
  unfold decCommit
  simp [hlast, hflush, hfinal, hlog]

end

/-! ### An uncorrectable error in lane memory (R353, R364) -/

/-- Raw records set out for every one of some rounds. -/
theorem forEach_rawRecord (x : Nat) (rs : List DRound) (s : State) :
    (forEach rs s fun r s => rawRecord x r s).bus.recs.length = s.bus.recs.length + rs.length
      ∧ (forEach rs s fun r s => rawRecord x r s).bus.reports = s.bus.reports ∧ (forEach rs s fun r s => rawRecord x r s).regs = s.regs := by
  induction rs generalizing s with
  | nil => exact ⟨rfl, rfl, rfl⟩
  | cons r rs ih =>
    obtain ⟨hlen, hreports, hregs⟩ := ih (rawRecord x r s)
    refine ⟨hlen.trans ?_, hreports, hregs⟩
    simp [rawRecord, State.emitRec]
    omega

/-- What a context in overload shows in its registers (R364). -/
def ovlShown (x : Nat) (s : State) : State := ((s.setXst x xOVERLOAD).setF (DEC_CSTS x) DEC_CSTS_OVL_SEEN 1).inc (DEC_OVL_CNT x)

/-- What a context in overload keeps of an attempt whose rounds are all of that attempt: the logical records of its waiting rounds. -/
def ctxOverloaded (c : DCtx) : DCtx :=
  { c with ovl := true, items := [], cur := none, wait := [], win := [],
           logs := c.logs ++ c.wait.filterMap fun r => r.log.map fun l => ({ l with ovl := true }, c.acc, c.deg, c.xcut) }

/-- The raw records of the rounds that wait, with the mark of the overload on the attempt. -/
def roundsRecorded (x : Nat) (s : State) : State :=
  forEach (s.ctx x).wait ((ovlShown x s).markGroup (s.decGroup x) E_DEC_OVERLOAD false) fun r s => rawRecord x r s

section
variable {s : State} {x : Nat}

theorem decOverload_of_current (htail : (s.ctx x).tail = none) (hwait : ∀ q ∈ (s.ctx x).wait, q.flush = 0)
    (hwin : ∀ q ∈ (s.ctx x).win, q.flush = 0) : decOverload x s = decBacklog x ((roundsRecorded x s).setCtx x (ctxOverloaded (s.ctx x))) := by
  have hnow : (s.ctx x).wait.filter (fun r => r.flush == 0) = (s.ctx x).wait := by simpa using hwait
  have hold : (s.ctx x).wait.filter (fun r => r.flush != 0) = [] := by simpa using hwait
  have hkeep : ((s.ctx x).win.any fun r => r.flush != 0) = false := by simpa using hwin
  have hgroup : ∀ u : State, u = ovlShown x s → u.decGroup x = s.decGroup x := by
    rintro u rfl
    exact fld_of_keeps (as := [DEC_CSTS x, DEC_OVL_CNT x]) (keeps_andWr (keeps_andWr (keeps_andWr (keeps_rfl _ _) (by simp)) (by simp)) (by simp))
      (by simp [DEC_CTL, DEC_CSTS, DEC_OVL_CNT]) _
  have hmark : ((ovlShown x s).markGroup ((ovlShown x s).decGroup x) E_DEC_OVERLOAD false) = (ovlShown x s).markGroup (s.decGroup x) E_DEC_OVERLOAD false :=
    congrArg (fun g => (ovlShown x s).markGroup g E_DEC_OVERLOAD false) (hgroup _ rfl)
  unfold decOverload roundsRecorded ctxOverloaded
  dsimp only
  rw [hnow, hold, hkeep, htail, ← hmark]
  rfl

/-- A context whose rounds all belong to the attempt in progress loses its window and its rounds, each with a raw record. -/
theorem decOverload_spec {t : State} (htail : (s.ctx x).tail = none) (hwait : ∀ q ∈ (s.ctx x).wait, q.flush = 0)
    (hwin : ∀ q ∈ (s.ctx x).win, q.flush = 0) (ht : t = decOverload x s) :
    t.xst x = xOVERLOAD ∧ t.flag (DEC_CSTS x) DEC_CSTS_OVL_SEEN = true
      ∧ t.rdN (DEC_OVL_CNT x) = min 0xFFFFFFFF (s.rdN (DEC_OVL_CNT x) + 1) ∧ t.ctx x = ctxOverloaded (s.ctx x)
      ∧ t.bus.reports = s.bus.reports ∧ t.bus.recs.length = s.bus.recs.length + (s.ctx x).wait.length
      ∧ s.keeps t [DEC_CSTS x, DEC_OVL_CNT x] := by
  rw [decOverload_of_current htail hwait hwin] at ht
  subst ht
  obtain ⟨hlen, hreports, hregs⟩ := forEach_rawRecord x (s.ctx x).wait ((ovlShown x s).markGroup (s.decGroup x) E_DEC_OVERLOAD false)
  have hrd (a : Nat) : (roundsRecorded x s).rd a = (ovlShown x s).rd a := congrArg (sget resetVal · a) hregs
  have hcnt : DEC_CSTS x ≠ DEC_OVL_CNT x ∧ DEC_OVL_CNT x ≠ DEC_CSTS x := by simp [DEC_CSTS, DEC_OVL_CNT]
  obtain ⟨hcnt, hcnt'⟩ := hcnt
  refine ⟨?_, ?_, ?_, ctx_setCtx_same .., hreports, hlen.trans ?_, ?_⟩
  · refine (fld_setF_beside _ _ _ DEC_CSTS_CSTATE _ (by decide) (by decide) (by decide)).trans ((congrArg (getF · DEC_CSTS_CSTATE) (hrd _)).trans ?_)
    refine (fld_inc_ne _ _ _ _ hcnt).trans ((fld_setF_beside _ _ _ DEC_CSTS_CSTATE _ (by decide) (by decide) (by decide)).trans ?_)
    exact fld_setF _ _ DEC_CSTS_CSTATE xOVERLOAD (by decide)
  · refine congrArg (· == 1) (?_ : (decBacklog x _).fld (DEC_CSTS x) DEC_CSTS_OVL_SEEN = 1)
    refine (fld_setF_beside _ _ _ DEC_CSTS_OVL_SEEN _ (by decide) (by decide) (by decide)).trans ?_
    refine (congrArg (getF · DEC_CSTS_OVL_SEEN) (hrd _)).trans ((fld_inc_ne _ _ _ _ hcnt).trans ?_)
    exact fld_setF _ _ DEC_CSTS_OVL_SEEN 1 (by decide)
  · refine (rdN_setF_ne _ _ _ _ _ hcnt').trans ((congrArg BitVec.toNat (hrd _)).trans ((rdN_inc ..).trans ?_))
    rw [rdN_setF_ne _ _ _ _ _ hcnt', State.setXst, rdN_setF_ne _ _ _ _ _ hcnt']
  · simp [State.markGroup, State.modGrp, State.setGrp, ovlShown, State.setXst]
  · refine keeps_andWr (keeps_of_regs (keeps_andWr (keeps_andWr (keeps_andWr (keeps_rfl _ _) ?_) ?_) ?_) hregs) ?_
    all_goals simp

theorem decodeStart_of_error {r : DRound} {rest : List DRound} (htail : (s.ctx x).tail = none) (hwait : (s.ctx x).wait = r :: rest)
    (hreached : s.reached r.s = true) (hcur : (s.ctx x).cur = none) (hon : (s.ctx x).on = true) (hovl : (s.ctx x).ovl = false) (hflush : r.flush = 0) :
    decodeStart x true s = decOverload x (s.report E_DEC_ECC_UNCORR islHub x) := by
  unfold decodeStart
  simp [htail, hwait, hreached, hcur, hon, hovl, hflush]

/-- With no attempt in progress an error is reported and changes nothing else. -/
theorem decodeStart_of_idleError {r : DRound} {rest : List DRound} (htail : (s.ctx x).tail = none) (hwait : (s.ctx x).wait = r :: rest)
    (hreached : s.reached r.s = true) (hcur : (s.ctx x).cur = none) (hon : (s.ctx x).on = false) :
    decodeStart x true s = decodeStart x false (s.report E_DEC_ECC_UNCORR islHub x) := by
  obtain ⟨u, hu⟩ : ∃ u, u = s.report E_DEC_ECC_UNCORR islHub x := ⟨_, rfl⟩
  have hctx : u.ctx x = s.ctx x := by rw [hu]; rfl
  have hru : u.reached r.s = true := by rw [hu]; exact hreached
  unfold decodeStart
  rw [← hu]
  simp [htail, hwait, hreached, hcur, hon, hctx, hru]

end

/-! ### Boundary exchange (R370 to R373) -/

section
variable {s : State} {x l : Nat}

theorem passAnswers_of_early {c0 : DCur} (hcur : (s.ctx x).cur = some c0) (h : c0.open_ = false ∨ s.reached (s.passRel x c0) = false) :
    passAnswers x s = s := by
  unfold passAnswers
  rw [hcur]
  refine if_pos ?_
  obtain h | h := h
  · exact .inl (by simp [h])
  · exact .inr (by simp [h])

/-- A message on a link that can carry it in time sets out (R373). -/
theorem boundarySend_of_able {start rel : Nat} {cur : DCur} (hup : s.linkUp l = true) (hfour : s.linkThree l = false) (hpt : 106 ≤ s.passFt x)
    (hedges : (s.boundaryMsg x l cur).edges.length ≤ 30) (hrel : rel = start + (s.passFt x - 16) * 16) (hlast : tget s.ozl.fbLast l ≤ rel) :
    boundarySend x l start cur s = { s with dec := { s.dec with out := s.dec.out ++ [⟨l, rel, s.boundaryMsg x l cur⟩] },
                                            ozl := { s.ozl with fbLast := tput s.ozl.fbLast l rel } } := by
  subst hrel
  have hlead : (if s.linkThree l = true then 113 else 90) ≤ s.passFt x - 16 := by
    rw [hfour]
    simp
    omega
  unfold boundarySend
  exact if_pos ⟨hup, hlead, hlast, hedges⟩

theorem boundaryPass_of_single {c0 c1 : DCur} {start : Nat} (hcur : (s.ctx x).cur = some c0) (hstart : start = c0.start + c0.pass * s.passFt x * 16)
    (hreached : s.reached start = true) (hpass : c0.pass < s.passes x) (hopen : c0.open_ = false) (hlinks : s.decLinks x = [l])
    (hc1 : c1 = { c0 with pass := c0.pass + 1, open_ := true, inbox := [], answered := [], peel := [], route := [] }) :
    boundaryPass x s = boundarySend x l start c1 (s.setCtx x { s.ctx x with cur := some c1 }) := by
  subst hstart hc1
  have hmore : ¬ s.passes x < c0.pass := by omega
  have hgrow : ¬ c0.pass = s.passes x := by omega
  have hnot : ¬ (¬ s.reached (c0.start + c0.pass * s.passFt x * ft) = true ∨ s.passes x < c0.pass) := by
    rw [not_or, not_not]
    exact ⟨hreached, hmore⟩
  unfold boundaryPass
  rw [hcur]
  dsimp only
  rw [if_neg hnot, passAnswers_of_early hcur (.inl hopen), hcur]
  dsimp only
  rw [if_neg hgrow]
  show forEach (s.decLinks x) _ _ = _
  rw [hlinks]
  rfl

/-- What a decode looks at does not hang on the message exchange in progress. -/
theorem boundaryMsg_setCtx (cur cur' : DCur) : (s.setCtx x { s.ctx x with cur := some cur' }).boundaryMsg x l cur = s.boundaryMsg x l cur := by
  unfold State.boundaryMsg
  rw [ctx_setCtx_same]
  rfl

theorem boundaryMsg_growth {cur : DCur} (h : cur.pass ≤ s.passes x) :
    (s.boundaryMsg x l cur).pass = cur.pass - 1 ∧ (s.boundaryMsg x l cur).peel = false :=
  ⟨rfl, decide_eq_false (by omega)⟩

/-- A growth pass begins: the context sends its message and waits for the answer (R370). -/
theorem boundaryPass_spec {c0 c1 : DCur} {start rel : Nat} (hcur : (s.ctx x).cur = some c0)
    (hstart : start = c0.start + c0.pass * s.passFt x * 16) (hreached : s.reached start = true) (hpass : c0.pass < s.passes x)
    (hopen : c0.open_ = false) (hlinks : s.decLinks x = [l]) (hup : s.linkUp l = true) (hfour : s.linkThree l = false) (hpt : 106 ≤ s.passFt x)
    (hc1 : c1 = { c0 with pass := c0.pass + 1, open_ := true, inbox := [], answered := [], peel := [], route := [] })
    (hedges : (s.boundaryMsg x l c1).edges.length ≤ 30) (hrel : rel = start + (s.passFt x - 16) * 16) (hlast : tget s.ozl.fbLast l ≤ rel) :
    ∃ t, exec (.boundaryPass x) s = .next t ∧ t.ctx x = { s.ctx x with cur := some c1 }
      ∧ t.dec.out = s.dec.out ++ [⟨l, rel, s.boundaryMsg x l c1⟩] ∧ (s.boundaryMsg x l c1).pass = c0.pass ∧ (s.boundaryMsg x l c1).peel = false
      ∧ tget t.ozl.fbLast l = rel ∧ t.regs = s.regs ∧ { t with dec := s.dec, ozl := s.ozl } = s := by
  obtain ⟨u, hu⟩ : ∃ u, u = s.setCtx x { s.ctx x with cur := some c1 } := ⟨_, rfl⟩
  have hmsg : u.boundaryMsg x l c1 = s.boundaryMsg x l c1 := by rw [hu, boundaryMsg_setCtx]
  have hsend : boundarySend x l start c1 u = { u with dec := { u.dec with out := u.dec.out ++ [⟨l, rel, u.boundaryMsg x l c1⟩] },
                                                      ozl := { u.ozl with fbLast := tput u.ozl.fbLast l rel } } := by
    refine boundarySend_of_able ?_ ?_ ?_ ?_ ?_ ?_
    case refine_4 =>
      rw [hmsg]
      exact hedges
    all_goals
      rw [hu]
      assumption
  obtain ⟨hmpass, hmpeel⟩ := boundaryMsg_growth (s := s) (x := x) (l := l) (cur := c1) (by rw [hc1]; exact hpass)
  have hbegun := boundaryPass_of_single hcur hstart hreached hpass hopen hlinks hc1
  rw [← hu, hsend, hmsg] at hbegun
  refine ⟨_, congrArg Host.Outcome.next hbegun, ?_, ?_, hmpass.trans (by rw [hc1]; rfl), hmpeel, tget_tput_same .., ?_, ?_⟩
  all_goals rw [hu]
  · exact ctx_setCtx_same ..
  all_goals rfl

/-- A message in time waits for its release. -/
theorem boundaryArrival_of_early {q : BMsg} {cur : DCur} (hcur : (s.ctx x).cur = some cur) (hopen : cur.open_ = true) (hl : l ∈ s.decLinks x)
    (hnew : l ∉ cur.answered) (hrel : s.reached (s.passRel x cur) = false) (hlate : s.reached (s.passRel x cur + 1) = false) :
    boundaryArrival x l (some q) s
      = s.setCtx x { s.ctx x with cur := some { cur with inbox := (cur.inbox.filter fun m => m.1 != l) ++ [(l, q)] } } := by
  unfold boundaryArrival
  simp only [hcur, hlate, hopen, List.contains_iff_mem, hl, hnew, Bool.not_true, Bool.or_false, Bool.false_eq_true, or_self, if_false, not_true_eq_false]
  refine passAnswers_of_early (congrArg DCtx.cur (ctx_modCtx_same ..)) (.inr hrel)

/-- A message after its release is discarded and counted (R40). -/
theorem boundaryArrival_of_late {q : BMsg} {cur : DCur} (hcur : (s.ctx x).cur = some cur) (hl : l ∈ s.decLinks x)
    (hlate : s.reached (s.passRel x cur + 1) = true ∨ cur.open_ = false) : boundaryArrival x l (some q) s = s.inc GLB_LATE_CNT := by
  have h : (s.reached (s.passRel x cur + 1) || !cur.open_) = true := by simpa using hlate
  unfold boundaryArrival
  simp [hcur, h, hl, State.when]

/-- The release of a pass with one link: it answers with what its inbox holds. -/
theorem boundaryArrival_of_release {cur : DCur} (hcur : (s.ctx x).cur = some cur) (hopen : cur.open_ = true) (hlinks : s.decLinks x = [l])
    (hnew : cur.answered = []) (hrel : s.reached (s.passRel x cur) = true) :
    boundaryArrival x l none s = answerPass x l (((cur.inbox.find? fun m => m.1 == l).map (·.2)).filter (s.msgFits x)) s := by
  have hanswers : passAnswers x s = answerPass x l (((cur.inbox.find? fun m => m.1 == l).map (·.2)).filter (s.msgFits x)) s := by
    unfold passAnswers
    simp only [hcur, hopen, hrel, hlinks, hnew, not_true_eq_false, or_self, if_false, forEach, List.foldl_cons, List.foldl_nil, List.contains_nil,
      Bool.false_eq_true, not_false_eq_true, and_self, if_true]
  unfold boundaryArrival
  simp only [hcur, hlinks, List.contains_cons, beq_self_eq_true, Bool.true_or, not_true_eq_false, if_false]
  exact hanswers

/-- A message that names the decode in progress fits it (R373). -/
theorem msgFits_of_same {q : BMsg} (hctx : q.ctx = x) (hround : ∀ r, (s.ctx x).win.getLast? = some r → q.round = r.idx) (hwin : (s.ctx x).win ≠ [])
    (hshot : q.shot = (s.grp (s.decGroup x)).shot) (hreplay : q.replay = (s.grp (s.decGroup x)).attempt) : s.msgFits x q = true := by
  have hlast := hround _ (List.getLast?_eq_some_getLast hwin)
  unfold State.msgFits
  simp [hctx, hshot, hreplay, List.getLast?_eq_some_getLast hwin, hlast]

/-- The exchange after the answer of the only link. -/
def answeredBy (l : Nat) (g : DGrow) (cur : DCur) : DCur := { cur with answered := [l], open_ := false, grow := g }

/-- The answer of the only link ends a growth pass: the clusters grow by what it holds. -/
theorem answerPass_of_message {q : BMsg} {cur : DCur} {es : List WEdge} (hcur : (s.ctx x).cur = some cur) (hlinks : s.decLinks x = [l])
    (hnew : cur.answered = []) (hpass : cur.pass ≤ s.passes x) (hes : es = windowEdges (s.ctx x).graph (s.ctx x).win) :
    answerPass x l (some q) s = s.setCtx x { s.ctx x with
      cur := some (answeredBy l (growLoop es (2 * es.length + 2) (growRemote es (s.ctx x) l q cur.grow)) cur) } := by
  subst hes
  unfold answerPass answeredBy
  simp [hcur, hlinks, hnew, hpass]

/-- A link without a valid message is counted and degrades the decode (R373). -/
def missNoted (x : Nat) (s : State) : State :=
  (((s.inc (DEC_XMISS_CNT x)).setF (DEC_CSTS x) DEC_CSTS_XMISS_SEEN 1).setF (DEC_CSTS x) DEC_CSTS_DEGRADED 1).report E_DEC_XMISS islHub x

theorem answerPass_of_missing {cur : DCur} {es : List WEdge} (hcur : (s.ctx x).cur = some cur) (hlinks : s.decLinks x = [l])
    (hnew : cur.answered = []) (hpass : cur.pass ≤ s.passes x) (hes : es = windowEdges (s.ctx x).graph (s.ctx x).win) :
    answerPass x l none s = (missNoted x s).setCtx x { s.ctx x with
      deg := true, cur := some (answeredBy l (growLoop es (2 * es.length + 2) cur.grow) cur) } := by
  have hxcfg : (missNoted x s).rd (DEC_XCFG x) = s.rd (DEC_XCFG x) :=
    rd_of_keeps (as := [DEC_XMISS_CNT x, DEC_CSTS x]) (keeps_andWr (keeps_andWr (keeps_andWr (keeps_rfl _ _) (by simp)) (by simp)) (by simp))
      (by simp [DEC_XCFG, DEC_XMISS_CNT, DEC_CSTS])
  have hpasses : (missNoted x s).passes x = s.passes x := congrArg (getF · DEC_XCFG_PASSES) hxcfg
  have hlinks' : (missNoted x s).decLinks x = [l] := by
    rw [← hlinks]
    unfold State.decLinks State.fld
    rw [hxcfg]
  subst hes
  unfold answerPass answeredBy
  unfold missNoted at hpasses hlinks' ⊢
  simp [hcur, hpasses, hpass, hlinks', hnew]

theorem missNoted_spec : (missNoted x s).rdN (DEC_XMISS_CNT x) = min 0xFFFFFFFF (s.rdN (DEC_XMISS_CNT x) + 1)
    ∧ (missNoted x s).flag (DEC_CSTS x) DEC_CSTS_XMISS_SEEN = true ∧ (missNoted x s).flag (DEC_CSTS x) DEC_CSTS_DEGRADED = true
    ∧ s.keeps (missNoted x s) [DEC_XMISS_CNT x, DEC_CSTS x] := by
  have hne : DEC_XMISS_CNT x ≠ DEC_CSTS x := by simp [DEC_XMISS_CNT, DEC_CSTS]
  refine ⟨?_, ?_, flag_setF_same _ _ 4 1 (by decide) (by decide), ?_⟩
  · exact (rdN_setF_ne _ _ _ _ _ hne).trans ((rdN_setF_ne _ _ _ _ _ hne).trans (rdN_inc ..))
  · refine congrArg (· == 1) (?_ : (missNoted x s).fld (DEC_CSTS x) DEC_CSTS_XMISS_SEEN = 1)
    exact (fld_setF_beside _ _ _ DEC_CSTS_XMISS_SEEN _ (by decide) (by decide) (by decide)).trans (fld_setF _ _ DEC_CSTS_XMISS_SEEN 1 (by decide))
  · exact keeps_andWr (keeps_andWr (keeps_andWr (keeps_rfl _ _) (by simp)) (by simp)) (by simp)

end

/-! ### Frame items, logical records, the end of a flush (R365 to R368) -/

section
variable {s : State} {x : Nat}

/-- An item that sets out after changes to the decoder alone. -/
theorem send_frame {u : State} (h : { u with dec := s.dec } = s) (i : Item) :
    (u.send i).regs = s.regs ∧ { u.send i with dec := s.dec, bus := s.bus } = s :=
  ⟨(congrArg State.regs h :), (congrArg (fun v : State => { v with bus := s.bus }) h :)⟩

theorem modCtx_setCtx_frame (f : DCtx → DCtx) (c : DCtx) : { (s.modCtx x f).setCtx x c with dec := s.dec } = s := rfl

theorem frameItemSend_of_one {b : DItems} {rest : List DItems} {q p y z : Nat} (hitems : (s.ctx x).items = b :: rest)
    (hreached : s.reached (b.f - 160) = true) (hone : b.items = [(q, p)]) (hclear : b.clear = false)
    (htarget : (s.ctx x).graph.targets[q]? = some (y, z)) : frameItemSend x s
      = ((s.modCtx x fun c => { c with items := rest }).setCtx x { s.ctx x with
          items := rest, mirror := (addPauli q p (s.ctx x).mirror).filter fun m => m.2 % 4 != 0 }).send
        ⟨b.f, islHub, y, .fb, .corr y z (bit p 1) (bit p 0) x⟩ := by
  unfold frameItemSend
  simp only [hitems, show 10 * ft = 160 from rfl, hreached, if_true, hone, hclear, forEach, List.foldl_cons, List.foldl_nil, Bool.false_eq_true, if_false]
  unfold sendItem
  rw [ctx_modCtx_same]
  dsimp only
  rw [htarget]

theorem logicalRecord_of_reached {l : DLog} {acc : Nat} {deg xcut : Bool} {rest : List (DLog × Nat × Bool × Bool)}
    (hlogs : (s.ctx x).logs = (l, acc, deg, xcut) :: rest) (hreached : s.reached l.f = true) : ∃ y, logicalRecord x s
      = ((s.setCtx x { s.ctx x with logs := rest }).wrN (DEC_OBS x)
          ((s.fld (DEC_OBS x) DEC_OBS_LCOUNT + 1) % 2 ^ 24 * 2 ^ 8 + logObs l acc)).emitRec y
      ∧ y.qid = s.fld (DEC_QID x) DEC_QID_QID ∧ y.words.getD 1 0 = l.f % 2 ^ 64 := by
  have hqid (v : Nat) : ((s.setCtx x { s.ctx x with logs := rest }).wrN (DEC_OBS x) v).fld (DEC_QID x) DEC_QID_QID = s.fld (DEC_QID x) DEC_QID_QID :=
    fld_wrN_ne _ _ _ _ _ (by simp [DEC_QID, DEC_OBS])
  unfold logicalRecord
  dsimp only
  rw [hlogs]
  dsimp only
  rw [if_pos hreached]
  exact ⟨_, rfl, hqid _, rfl⟩

theorem decFlushComplete_of_done (hxst : s.xst x = xFLUSH) (hreached : s.reached (s.ctx x).flushAt = true)
    (hlogs : ∀ l ∈ (s.ctx x).logs, (s.ctx x).on = true ∧ l.1.pass = s.decPass x) :
    decFlushComplete x s = s.setXst x (if (s.ctx x).on = true then xRUN else xREADY) := by
  have howed : ¬ ((s.ctx x).logs.any fun l => !(s.ctx x).on || l.1.pass != s.decPass x) = true := by
    rw [Bool.not_eq_true, List.any_eq_false]
    intro l hl
    obtain ⟨hon, hpass⟩ := hlogs l hl
    simp [hon, hpass]
  exact if_pos ⟨hxst, hreached, howed⟩

end

/-- Settles O31: a waiting round is taken into the window (`decodeStart_of_waiting`), whose decode commits nothing, all of it or starts its
passes; an error ends the attempt in overload (`decOverload_spec`); a pass sends its message and takes the answer at its release
(`boundaryPass_spec`, `answerPass_of_message`, `answerPass_of_missing`); items, logical record and flush come at their times. -/
theorem decodesCommitExchangeAndCorrect : Obligations.DecodesCommitExchangeAndCorrect := by
  refine ⟨?_, ?_, ?_, ?_, ?_, ?_, ?_, ?_, ?_, ?_, ?_, ?_, ?_⟩
  · intro s x r rest c htail hwait hreached hcur hspans hflush hfinal hlog hrest hfew hc
    obtain ⟨u, hu⟩ : ∃ u, u = roundTaken x r rest s := ⟨_, rfl⟩
    have hctx : u.ctx x = c := by rw [hu, ctx_roundTaken, hc]; rfl
    have hdecode : decodeStart x false s = u.setCtx x { u.ctx x with cur := none } := by
      rw [decodeStart_of_waiting htail hwait hreached hcur, ← hu, decodeWindow_of_local (by rw [hctx, hc]; exact hspans)]
      refine decCommit_of_few (r := r) ?_ hflush hfinal hlog ?_ _
      · rw [hu, ctx_roundTaken, getLast?_windowWith]
      · rw [hctx, hc, hu, fld_of_keeps decTurn_roundTaken.1 (by simp [DEC_CTL, DEC_CSTS])]
        simpa using hfew
    obtain ⟨hkeeps, hframe⟩ := decTurn_roundTaken (s := s) (x := x) (r := r) (rest := rest)
    refine ⟨_, congrArg Host.Outcome.next hdecode, ?_, ?_, ?_, ?_⟩
    · rw [ctx_setCtx_same, hctx, hc, ← hcur]
    all_goals rw [hu]
    · exact backlog_roundTaken hrest
    · exact hkeeps
    · exact hframe
  · intro s x r rest w es l htail hwait hreached hcur hspans hflush hfinal hlog hw hes
    obtain ⟨u, hu⟩ : ∃ u, u = roundTaken x r rest s := ⟨_, rfl⟩
    have hctx : u.ctx x = windowWith (s.ctx x) r rest := by rw [hu, ctx_roundTaken]
    subst hw
    have hdecode := decodeStart_of_waiting htail hwait hreached hcur
    rw [← hu, decodeWindow_of_local (by rw [hctx]; exact hspans), decCommit_of_final (r := r) (l := l) (es := es)
      (by rw [hctx, getLast?_windowWith]) hflush hfinal hlog (by rw [hctx, hes]; rfl)] at hdecode
    obtain ⟨hkeeps, hframe⟩ := decTurn_roundTaken (s := s) (x := x) (r := r) (rest := rest)
    refine ⟨_, congrArg Host.Outcome.next hdecode, ?_, ?_, ?_, ?_, ?_, ?_, ?_⟩
    · rw [ctx_setCtx_same]
    · rw [ctx_setCtx_same, hctx]
      rfl
    · rw [ctx_setCtx_same]
    · rw [ctx_setCtx_same, hctx]
      rfl
    · rw [ctx_setCtx_same, hctx]
      rfl
    all_goals rw [hu]
    · exact hkeeps
    · exact hframe
  · intro s x r rest w htail hwait hreached hcur hspans hw
    obtain ⟨u, hu⟩ : ∃ u, u = roundTaken x r rest s := ⟨_, rfl⟩
    have hctx : u.ctx x = windowWith (s.ctx x) r rest := by rw [hu, ctx_roundTaken]
    subst hw
    have hdecode := decodeStart_of_waiting htail hwait hreached hcur
    rw [← hu, decodeWindow_of_spanning (by rw [hctx]; exact hspans)] at hdecode
    obtain ⟨hkeeps, hframe⟩ := decTurn_roundTaken (s := s) (x := x) (r := r) (rest := rest)
    refine ⟨_, congrArg Host.Outcome.next hdecode, ?_, ?_, ?_⟩
    · rw [ctx_setCtx_same, hctx]
      rfl
    all_goals rw [hu]
    · exact hkeeps
    · exact hframe
  · intro s x r rest htail hwait hreached hcur hon hovl hall hwin
    have hflush : r.flush = 0 := hall r List.mem_cons_self
    obtain ⟨u, hu⟩ : ∃ u, u = s.report E_DEC_ECC_UNCORR islHub x := ⟨_, rfl⟩
    have hctx : u.ctx x = s.ctx x := by rw [hu]; rfl
    have hstart := decodeStart_of_error htail hwait hreached hcur hon hovl hflush
    rw [← hu] at hstart
    obtain ⟨hxst, hseen, hcnt, hafter, hreports, hrecs, hkeeps⟩ :=
      decOverload_spec (by rw [hctx]; exact htail) (by rw [hctx, hwait]; exact hall) (by rw [hctx]; exact hwin) hstart
    refine ⟨_, rfl, hxst, hseen, hcnt.trans (by rw [hu]; rfl), ?_, ?_, ?_, ?_, hreports.trans (by rw [hu]; rfl), hrecs.trans ?_, ?_⟩
    · rw [hafter]
      rfl
    · rw [hafter]
      rfl
    · rw [hafter]
      rfl
    · rw [hafter]
      rfl
    · rw [hctx, hwait, hu]
      rfl
    · rw [hu] at hkeeps
      exact hkeeps
  · intro s x r rest htail hwait hreached hcur hon
    exact congrArg Host.Outcome.next (decodeStart_of_idleError htail hwait hreached hcur hon)
  · intro s x c0 c1 start l rel hcur hstart hreached hpass hopen hlinks hup hfour hpt hc1 hedges hrel hlast
    exact boundaryPass_spec hcur hstart hreached hpass hopen hlinks hup hfour hpt hc1 hedges hrel hlast
  · intro s x l q cur hcur hopen hl hnew hrel hlate
    exact ⟨_, congrArg Host.Outcome.next (boundaryArrival_of_early hcur hopen hl hnew hrel hlate), ctx_setCtx_same .., rfl, rfl⟩
  · intro s x l q cur hcur hl hlate
    exact ⟨_, congrArg Host.Outcome.next (boundaryArrival_of_late hcur hl hlate), rdN_inc .., onlyRegs_inc ..⟩
  · intro s x l q cur es hcur hopen hlinks hnew hpass hrel hinbox hqctx hround hwin hshot hreplay hes
    have hmsg : ((cur.inbox.find? fun m => m.1 == l).map (·.2)).filter (s.msgFits x) = some q := by
      rw [hinbox]
      simp [msgFits_of_same hqctx hround hwin hshot hreplay]
    have harrival := boundaryArrival_of_release hcur hopen hlinks hnew hrel
    rw [hmsg, answerPass_of_message hcur hlinks hnew hpass hes] at harrival
    exact ⟨_, congrArg Host.Outcome.next harrival, ctx_setCtx_same .., rfl, rfl⟩
  · intro s x l cur es hcur hopen hlinks hnew hpass hrel hinbox hes
    have hmsg : ((cur.inbox.find? fun m => m.1 == l).map (·.2)).filter (s.msgFits x) = none := by
      rw [hinbox]
      rfl
    have harrival := boundaryArrival_of_release hcur hopen hlinks hnew hrel
    rw [hmsg, answerPass_of_missing hcur hlinks hnew hpass hes] at harrival
    obtain ⟨hcnt, hseen, hdeg, hkeeps⟩ := missNoted_spec (s := s) (x := x)
    exact ⟨_, congrArg Host.Outcome.next harrival, ctx_setCtx_same .., hcnt, hseen, hdeg, rfl, hkeeps, rfl⟩
  · intro s x b rest q p y z hitems hreached hone hclear htarget
    obtain ⟨hregs, hframe⟩ := send_frame (modCtx_setCtx_frame (s := s) (x := x) (fun c => { c with items := rest }) { s.ctx x with
      items := rest, mirror := (addPauli q p (s.ctx x).mirror).filter fun m => m.2 % 4 != 0 }) ⟨b.f, islHub, y, .fb, .corr y z (bit p 1) (bit p 0) x⟩
    refine ⟨_, congrArg Host.Outcome.next (frameItemSend_of_one hitems hreached hone hclear htarget), ?_, ?_, rfl, hregs, hframe⟩
    · exact congrArg DCtx.items (ctx_setCtx_same ..)
    · exact congrArg DCtx.mirror (ctx_setCtx_same ..)
  · intro s x l acc deg xcut rest hlogs hreached
    obtain ⟨y, hrecord, hqid, htime⟩ := logicalRecord_of_reached hlogs hreached
    refine ⟨_, congrArg Host.Outcome.next hrecord, rd_wr_same .., ctx_setCtx_same .., ⟨_, rfl, hqid, htime⟩, ?_, rfl⟩
    exact keeps_andWr (keeps_rfl _ _) (List.mem_singleton.mpr rfl)
  · intro s x hxst hreached hlogs
    refine ⟨_, congrArg Host.Outcome.next (decFlushComplete_of_done hxst hreached hlogs), ?_, onlyRegs_setF ..⟩
    refine (fld_setF _ _ DEC_CSTS_CSTATE _ (by decide)).trans (Nat.mod_eq_of_lt ?_)
    split
    · decide
    · decide

end Sys2Proof.Laws
end

section
namespace Sys2Proof.Laws
open Sys2Proof.Machine

-- One theorem after another: a thread for each of them passes the memory limit of the check.
set_option Elab.async false

/-! ### The registers of a Winch core (Table 12-2) -/

section
variable {s : State} {x : Nat}

@[simp] theorem wchReg_eq_iff (x i j : Nat) : WCH_REG x i = WCH_REG x j ↔ i = j := by unfold WCH_REG; omega

/-- A register of a core's page below its data registers is none of them. -/
theorem ne_wchReg {a : Nat} (x i : Nat) (h : a < 0xC10800 + 0x1000 * x) : a ≠ WCH_REG x i := by unfold WCH_REG; omega

@[simp] theorem wchPc_ne_reg (x i : Nat) : WCH_PC x ≠ WCH_REG x i := ne_wchReg x i (by unfold WCH_PC; omega)
@[simp] theorem wchCsts_ne_reg (x i : Nat) : WCH_CSTS x ≠ WCH_REG x i := ne_wchReg x i (by unfold WCH_CSTS; omega)
@[simp] theorem wchIpend_ne_reg (x i : Nat) : WCH_IPEND x ≠ WCH_REG x i := ne_wchReg x i (by unfold WCH_IPEND; omega)
@[simp] theorem wchClamp_ne_reg (x i : Nat) : WCH_CLAMP_CNT x ≠ WCH_REG x i := ne_wchReg x i (by unfold WCH_CLAMP_CNT; omega)
@[simp] theorem wchPc_ne_csts (x : Nat) : WCH_PC x ≠ WCH_CSTS x := by unfold WCH_PC WCH_CSTS; omega
@[simp] theorem wchPc_ne_ipend (x : Nat) : WCH_PC x ≠ WCH_IPEND x := by unfold WCH_PC WCH_IPEND; omega
@[simp] theorem wchPc_ne_clamp (x : Nat) : WCH_PC x ≠ WCH_CLAMP_CNT x := by unfold WCH_PC WCH_CLAMP_CNT; omega
@[simp] theorem wchCsts_ne_ipend (x : Nat) : WCH_CSTS x ≠ WCH_IPEND x := by unfold WCH_CSTS WCH_IPEND; omega
@[simp] theorem wchCsts_ne_clamp (x : Nat) : WCH_CSTS x ≠ WCH_CLAMP_CNT x := by unfold WCH_CSTS WCH_CLAMP_CNT; omega
@[simp] theorem wchIpend_ne_clamp (x : Nat) : WCH_IPEND x ≠ WCH_CLAMP_CNT x := by unfold WCH_IPEND WCH_CLAMP_CNT; omega

theorem reg_not_mem_retired (x : Nat) {i : Nat} (h : i ≠ 48) : WCH_REG x i ∉ [WCH_PC x, WCH_CSTS x, WCH_REG x 48] := by
  simp [h, (wchPc_ne_reg x i).symm, (wchCsts_ne_reg x i).symm]

theorem wSpr_eq (s : State) (x : Nat) {k : Nat} (h : k ≠ 0x1D) : s.wSpr x k = s.rdN (WCH_REG x (24 + k)) := if_neg h

theorem setWSpr_eq (s : State) (x : Nat) {k : Nat} (h : k ≠ 0x1D) (v : Nat) :
    s.setWSpr x k v = s.wrN (WCH_REG x (24 + k)) (v % 2 ^ sprWidth k) := if_neg h

theorem wSpr_setWSpr (s : State) (x : Nat) {k : Nat} (h : k ≠ 0x1D) (v : Nat) : (s.setWSpr x k v).wSpr x k = v % 2 ^ sprWidth k := by
  have hw : sprWidth k ≤ 64 := by unfold sprWidth; split_ifs <;> omega
  rw [wSpr_eq _ _ h, setWSpr_eq _ _ h, rdN_wrN]
  exact Nat.mod_eq_of_lt ((Nat.mod_lt _ (Nat.two_pow_pos _)).trans_le (Nat.pow_le_pow_right Nat.two_pos hw))

theorem wD_setWD (s : State) (x i v : Nat) : (s.setWD x i v).wD x i = v % 2 ^ 48 :=
  (rdN_wrN _ _ _).trans (Nat.mod_eq_of_lt ((Nat.mod_lt _ (by decide)).trans (by decide)))

theorem wAcc_setWAcc (s : State) (x m v : Nat) : (s.setWAcc x m v).wAcc x m = v % 2 ^ 104 := by
  have hlow : (s.setWAcc x m v).rdN (WCH_REG x (16 + 2 * m)) = v % 2 ^ 64 % 2 ^ 64 :=
    (rdN_wrN_ne _ _ _ _ (by simp)).trans (rdN_wrN ..)
  have hhigh : (s.setWAcc x m v).rdN (WCH_REG x (17 + 2 * m)) = v / 2 ^ 64 % 2 ^ 40 % 2 ^ 64 := rdN_wrN ..
  simp only [State.wAcc, hlow, hhigh]
  omega

theorem wPC_setWPC (s : State) (x v : Nat) : (s.setWPC x v).wPC x = v % 2 ^ 17 :=
  (fld_setF s (WCH_PC x) WCH_PC_PC (v % 2 ^ 17) (by decide)).trans (Nat.mod_mod _ _)

theorem wPC_lt (s : State) (x : Nat) : s.wPC x < 2 ^ 17 := getF_lt _ WCH_PC_PC (by decide)

theorem wLA_setWLA (s : State) (x : Nat) (b : Bool) : (s.setWLA x b).wLA x = b := flag_setF_b01 _ _ _ _ (by decide)

theorem wLA_congr {t : State} (h : t.fld (WCH_CSTS x) WCH_CSTS_LA = s.fld (WCH_CSTS x) WCH_CSTS_LA) : t.wLA x = s.wLA x :=
  congrArg (· == 1) h

theorem wLA_setWPC (s : State) (x n : Nat) : (s.setWPC x n).wLA x = s.wLA x := wLA_congr (fld_setF_ne _ _ _ _ _ _ (wchPc_ne_csts x).symm)

theorem wLA_setWSpr (s : State) (x v : Nat) {k : Nat} (h : k ≠ 0x1D) : (s.setWSpr x k v).wLA x = s.wLA x := by
  rw [setWSpr_eq _ _ h]
  exact wLA_congr (fld_wrN_ne _ _ _ _ _ (wchCsts_ne_reg x _))

theorem wst_setWst (s : State) (x : Nat) {v : Nat} (h : v < 8) : (s.setWst x v).wst x = v :=
  (fld_setF s (WCH_CSTS x) WCH_CSTS_CSTATE v (by decide)).trans (Nat.mod_eq_of_lt h)

/-- What LA leaves of the other fields of WCH_CSTS. -/
theorem csts_setWLA (s : State) (x : Nat) (b : Bool) {f : Fld} (hf : f.1 + f.2 ≤ 64) (hbeside : f.1 + f.2 ≤ 4 ∨ 5 ≤ f.1) :
    (s.setWLA x b).fld (WCH_CSTS x) f = s.fld (WCH_CSTS x) f :=
  fld_setF_beside s _ WCH_CSTS_LA f _ (by decide) hf hbeside.symm

/-- Registers that another page of registers does not hold keep what a special register of the core is. -/
theorem wSpr_of_keeps {t : State} {as : List Nat} (h : s.keeps t as) {k : Nat} (hk : k ≠ 0x1D) (ha : WCH_REG x (24 + k) ∉ as) :
    t.wSpr x k = s.wSpr x k := by
  rw [wSpr_eq _ _ hk, wSpr_eq _ _ hk]
  exact rdN_of_keeps h ha

end

/-! ### Retirement (R384, R385) -/

/-- `t` is `u` with the instruction at its PC retired: PC, LA and LC as the loop says, the rest as it was. -/
structure Retired (x : Nat) (u t : State) : Prop where
  only : u.onlyRegs t [WCH_PC x, WCH_CSTS x, WCH_REG x 48]
  pc : t.wPC x = (if u.wAgain x = true then u.wSpr x 0x19 else u.wPC x + 1) % 2 ^ 17
  la : t.wLA x = (u.wLA x && (!u.wLast x || u.wAgain x))
  lc : t.wSpr x 0x18 = (if u.wLast x = true ∧ u.wSpr x 0x18 ≠ 0xFFFFF then (u.wSpr x 0x18 - 1) % 2 ^ 20 else u.wSpr x 0x18)
  csts : ∀ f : Fld, f.1 + f.2 ≤ 64 → (f.1 + f.2 ≤ 4 ∨ 5 ≤ f.1) → t.fld (WCH_CSTS x) f = u.fld (WCH_CSTS x) f

section
variable {s u : State} {x : Nat}

theorem wLast_iff : u.wLast x = true ↔ u.wLA x = true ∧ u.wPC x = u.wSpr x 0x1A := by simp [State.wLast]

/-- A new PC and nothing else. -/
theorem Retired.of_next (h : u.wLast x = true → u.wSpr x 0x18 = 0xFFFFF)
    {n : Nat} (hn : n = if u.wAgain x = true then u.wSpr x 0x19 else u.wPC x + 1) : Retired x u (u.setWPC x n) where
  only := onlyRegs_andWr (onlyRegs_rfl _ _) (by simp)
  pc := hn ▸ wPC_setWPC ..
  la := by
    rw [wLA_setWPC]
    by_cases hl : u.wLast x = true <;> simp_all [State.wAgain]
  lc := by
    refine (rdN_setF_ne _ _ _ _ _ (wchPc_ne_reg x 48).symm).trans ?_
    rw [if_neg fun hc => hc.2 (h hc.1)]
    rfl
  csts _ _ _ := fld_setF_ne _ _ _ _ _ _ (wchPc_ne_csts x).symm

/-- The loop count at the end of the body, one less. -/
def lcCounted (x : Nat) (u : State) : State := u.setWSpr x 0x18 (u.wSpr x 0x18 - 1)

theorem onlyRegs_lcCounted : u.onlyRegs (lcCounted x u) [WCH_REG x 48] := onlyRegs_wr ..

theorem wSpr_lcCounted_ne {k : Nat} (hk : k ≠ 0x1D) (h : k ≠ 0x18) : (lcCounted x u).wSpr x k = u.wSpr x k :=
  wSpr_of_keeps onlyRegs_lcCounted.2 hk (by simp; omega)

/-- The body runs again. -/
theorem Retired.of_again (hlast : u.wLast x = true) (hc : u.wSpr x 0x18 ≠ 0xFFFFF) (hn : 1 < u.wSpr x 0x18) :
    Retired x u ((lcCounted x u).setWPC x ((lcCounted x u).wSpr x 0x19)) where
  only := onlyRegs_andWr (onlyRegs_trans onlyRegs_lcCounted (onlyRegs_rfl _ _) (by simp) (List.Subset.refl _)) (by simp)
  pc := by
    rw [wPC_setWPC, wSpr_lcCounted_ne (by decide) (by decide), if_pos (by simp [State.wAgain, hlast, hn])]
  la := by
    rw [wLA_setWPC, lcCounted, wLA_setWSpr _ _ _ (by decide)]
    simp [State.wAgain, hlast, hn]
  lc := by
    rw [if_pos ⟨hlast, hc⟩]
    refine Eq.trans ?_ (wSpr_setWSpr u x (by decide : 0x18 ≠ 0x1D) _)
    exact rdN_setF_ne _ _ _ _ _ (wchPc_ne_reg x 48).symm
  csts _ _ _ := (fld_setF_ne _ _ _ _ _ _ (wchPc_ne_csts x).symm).trans (fld_wrN_ne _ _ _ _ _ (wchCsts_ne_reg x _))

/-- The loop is left. -/
theorem Retired.of_left (hlast : u.wLast x = true) (hc : u.wSpr x 0x18 ≠ 0xFFFFF) (hn : ¬1 < u.wSpr x 0x18) :
    Retired x u (((lcCounted x u).setWLA x false).setWPC x (u.wPC x + 1)) where
  only := onlyRegs_andWr (onlyRegs_andWr (onlyRegs_trans onlyRegs_lcCounted (onlyRegs_rfl _ _) (by simp) (List.Subset.refl _)) (by simp)) (by simp)
  pc := by
    rw [wPC_setWPC, if_neg (by simp [State.wAgain, hc, hn])]
  la := by
    rw [wLA_setWPC, wLA_setWLA]
    simp [State.wAgain, hlast, hc, hn]
  lc := by
    rw [if_pos ⟨hlast, hc⟩]
    refine Eq.trans ?_ (wSpr_setWSpr u x (by decide : 0x18 ≠ 0x1D) _)
    exact (rdN_setF_ne _ _ _ _ _ (wchPc_ne_reg x 48).symm).trans (rdN_setF_ne _ _ _ _ _ (wchCsts_ne_reg x 48).symm)
  csts _ hf hb := (fld_setF_ne _ _ _ _ _ _ (wchPc_ne_csts x).symm).trans ((csts_setWLA _ _ _ hf hb).trans
    (fld_wrN_ne _ _ _ _ _ (wchCsts_ne_reg x _)))

theorem retired_wRetire (x : Nat) (u : State) : Retired x u (wRetire x u) := by
  unfold wRetire
  dsimp only
  by_cases hlast : u.wLA x = true ∧ u.wPC x = u.wSpr x 0x1A
  · rw [if_pos hlast]
    rw [← wLast_iff] at hlast
    by_cases hc : u.wSpr x 0x18 = 0xFFFFF
    · rw [if_pos hc]
      exact .of_next (fun _ => hc) (by simp [State.wAgain, hlast, hc])
    · rw [if_neg hc]
      by_cases hn : u.wSpr x 0x18 - 1 ≠ 0
      · exact (if_pos hn).symm ▸ .of_again hlast hc (by omega)
      · exact (if_neg hn).symm ▸ .of_left hlast hc (by omega)
  · rw [if_neg hlast]
    rw [← wLast_iff] at hlast
    exact .of_next (fun h => absurd h hlast) (by simp [State.wAgain, hlast])

/-- An instruction that leaves PC, loop and state of its core alone and retires has moved to the next one. -/
theorem Retired.moved {t : State} {as : List Nat} (h : Retired x u t) (hk : s.keeps u (WCH_CSTS x :: as)) (hla : u.wLA x = s.wLA x)
    (hst : u.wst x = s.wst x) (hpc : WCH_PC x ∉ as) (hloop : ∀ k ∈ [48, 49, 50], WCH_REG x k ∉ as) : s.wMoved t x as := by
  have hspr (k : Nat) (hk48 : k ∈ [0x18, 0x19, 0x1A]) : u.wSpr x k = s.wSpr x k := by
    refine wSpr_of_keeps hk (by rintro rfl; simp at hk48) ?_
    simp only [List.mem_cons, not_or]
    exact ⟨(wchCsts_ne_reg x _).symm, hloop _ (by simpa using (by simp at hk48; omega))⟩
  have hlc := hspr 0x18 (by simp)
  have hPC : u.wPC x = s.wPC x := fld_of_keeps hk (by simp [hpc]) _
  have hlast : u.wLast x = s.wLast x := by rw [State.wLast, State.wLast, hla, hPC, hspr 0x1A (by simp)]
  have hagain : u.wAgain x = s.wAgain x := by rw [State.wAgain, State.wAgain, hlast, hlc]
  refine ⟨?_, ?_, ?_, ?_, keeps_trans hk h.only.2 (by simp; intro a; simp; tauto) (by simp)⟩
  · rw [h.pc, hagain, hPC, hspr 0x19 (by simp)]
  · rw [h.la, hla, hlast, hagain]
  · rw [h.lc, hlast, hlc]
  · exact (h.csts _ (by decide) (by decide)).trans hst

theorem Retired.wD {t : State} (h : Retired x u t) {i : Nat} (hi : i ≠ 48) : t.wD x i = u.wD x i :=
  rdN_of_keeps h.only.2 (reg_not_mem_retired x hi)

theorem Retired.wSpr {t : State} (h : Retired x u t) {k : Nat} (hk : k ≠ 0x1D) (h18 : k ≠ 0x18) : t.wSpr x k = u.wSpr x k :=
  wSpr_of_keeps h.only.2 hk (reg_not_mem_retired x (by omega))

end

/-! ### Instructions, accesses and faults (R382, R383, R393) -/

section
variable {s u : State} {x op w : Nat}

theorem wExec_of_goes (h : s.wGoes x op w) (f : Nat → State → State) : wExec x op f s = f w s := by
  obtain ⟨hw, hop, hready, hbreak, hrsvd, hlast⟩ := h
  have hloop : ¬(wNotLast op = true ∧ s.wLA x = true ∧ s.wPC x = s.wSpr x 0x1A) := fun hc => hlast hc.1 hc.2
  simp only [wExec, hw, hop, hready, hbreak, hrsvd, hloop, not_true_eq_false, ne_eq, or_self, Bool.false_eq_true, if_false]

theorem wStruck_wFault {code : Nat} (hcode : code < 2 ^ 16) : s.wStruck (wFault x code s) x code := by
  have hfault : WCH_FAULT x ≠ WCH_FAULT_PC x := by unfold WCH_FAULT WCH_FAULT_PC; omega
  have hcsts : WCH_CSTS x ≠ WCH_FAULT x := by unfold WCH_FAULT WCH_CSTS; omega
  have hcsts' : WCH_CSTS x ≠ WCH_FAULT_PC x := by unfold WCH_FAULT_PC WCH_CSTS; omega
  refine ⟨?_, ?_, ?_, onlyRegs_andWr (onlyRegs_andWr (onlyRegs_andWr (onlyRegs_rfl _ _) (by simp)) (by simp)) (by simp)⟩
  · exact (fld_wrN_ne _ _ _ _ _ hcsts').trans ((fld_setF_ne _ _ _ _ _ _ hcsts).trans (wst_setWst s x (by decide)))
  · exact (fld_wrN_ne _ _ _ _ _ hfault).trans ((fld_setF _ _ WCH_FAULT_CODE _ (by decide)).trans (Nat.mod_eq_of_lt hcode))
  · exact (rdN_wrN ..).trans (Nat.mod_eq_of_lt ((wPC_lt s x).trans (by decide)))

/-- A pointer register beyond its ring, reduced (R383). -/
def clamped (x n : Nat) (s : State) : State :=
  ((s.setWSpr x n (s.wSpr x n % s.wSpr x (0x10 + n))).setF (WCH_CSTS x) WCH_CSTS_CIRC_CLAMP 1).inc (WCH_CLAMP_CNT x)

theorem wClamp_of_within {n : Nat} (h : s.wSpr x (0x10 + n) = 0 ∨ s.wSpr x n < s.wSpr x (0x10 + n)) : wClamp x n s = s :=
  if_neg (by omega)

theorem wClamp_of_beyond {n : Nat} (h0 : s.wSpr x (0x10 + n) ≠ 0) (h : s.wSpr x (0x10 + n) ≤ s.wSpr x n) : wClamp x n s = clamped x n s :=
  if_pos ⟨h0, h⟩

theorem onlyRegs_setWSpr (s : State) (x v : Nat) {k : Nat} (h : k ≠ 0x1D) : s.onlyRegs (s.setWSpr x k v) [WCH_REG x (24 + k)] := by
  rw [setWSpr_eq _ _ h]
  exact onlyRegs_wr ..

theorem onlyRegs_clamped {n : Nat} (hn : n < 8) : s.onlyRegs (clamped x n s) [WCH_REG x (24 + n), WCH_CSTS x, WCH_CLAMP_CNT x] :=
  onlyRegs_andWr (onlyRegs_andWr (onlyRegs_trans (onlyRegs_setWSpr s x _ (by omega)) (onlyRegs_rfl _ []) (by simp) (by simp)) (by simp)) (by simp)

theorem wSpr_clamped_same {n : Nat} (hn : n < 8) (hlt : s.wSpr x n < 2 ^ 16) :
    (clamped x n s).wSpr x n = s.wSpr x n % s.wSpr x (0x10 + n) := by
  have hset : (clamped x n s).wSpr x n = (s.setWSpr x n (s.wSpr x n % s.wSpr x (0x10 + n))).wSpr x n := by
    rw [wSpr_eq _ _ (by omega), wSpr_eq _ _ (by omega)]
    exact (rdN_inc_ne _ _ _ (wchClamp_ne_reg x _).symm).trans (rdN_setF_ne _ _ _ _ _ (wchCsts_ne_reg x _).symm)
  rw [hset, wSpr_setWSpr _ _ (by omega), sprWidth, if_pos (by omega)]
  exact Nat.mod_eq_of_lt ((Nat.mod_le ..).trans_lt hlt)

theorem wSpr_clamped_ne {n k : Nat} (hn : n < 8) (hk : k ≠ 0x1D) (h : k ≠ n) : (clamped x n s).wSpr x k = s.wSpr x k :=
  wSpr_of_keeps (onlyRegs_clamped hn).2 hk (by simp [h, (wchCsts_ne_reg x _).symm, (wchClamp_ne_reg x _).symm])

theorem wch_of_onlyRegs {as : List Nat} (h : s.onlyRegs u as) : u.wch = s.wch := (congrArg State.wch h.1 :)

theorem wWord_of_wch (h : u.wch = s.wch) (x a : Nat) : u.wWord x a = s.wWord x a := by rw [State.wWord, State.wWord, h]

theorem csts_clamped (x n : Nat) (hn : n < 8) {f : Fld} (hf : f.1 + f.2 ≤ 64) (hbeside : f.1 + f.2 ≤ 8) :
    (clamped x n s).fld (WCH_CSTS x) f = s.fld (WCH_CSTS x) f := by
  refine (fld_inc_ne _ _ _ _ (wchCsts_ne_clamp x)).trans ?_
  refine (fld_setF_beside _ _ WCH_CSTS_CIRC_CLAMP _ _ (by decide) hf (.inr hbeside)).trans ?_
  exact fld_of_onlyRegs (onlyRegs_setWSpr s x _ (by omega)) (by simp) f

theorem wAccess_of_local {n a : Nat} (hu : wClamp x n s = u) (ha : u.wSpr x (0x08 + n) + u.wSpr x n = a) (hlt : a < 65536)
    (f : Nat → State → State) : wAccess x n f s = f a u := by
  subst hu ha
  exact if_neg (Nat.not_le.mpr hlt)

theorem wAccess_of_points {n a : Nat} (h : s.wPoints x n a) (f : Nat → State → State) : wAccess x n f s = f a s :=
  wAccess_of_local (wClamp_of_within h.1) h.2.1.symm h.2.2 f

/-- A pointer after an access. -/
theorem wSpr_wStep {n : Nat} (hn : n < 8) (step : Nat) : (wStep x n step u).wSpr x n = u.wStepped x n step := by
  have hw : sprWidth n = 16 := if_pos (by omega)
  refine (wSpr_setWSpr u x (by omega) _).trans ?_
  rw [hw]
  rfl

theorem onlyRegs_wStep {n : Nat} (hn : n < 8) (step : Nat) : u.onlyRegs (wStep x n step u) [WCH_REG x (24 + n)] :=
  onlyRegs_setWSpr u x _ (by omega)

theorem wStepped_congr {n : Nat} (hp : u.wSpr x n = s.wSpr x n) (hl : u.wSpr x (0x10 + n) = s.wSpr x (0x10 + n)) (step : Nat) :
    u.wStepped x n step = s.wStepped x n step := by rw [State.wStepped, State.wStepped, hp, hl]

/-- An instruction that leaves PC, CSTS and the loop registers alone and retires has moved on. -/
theorem Retired.moved_of_keeps {t : State} {as : List Nat} (h : Retired x u t) (hk : s.keeps u as) (hcsts : WCH_CSTS x ∉ as)
    (hpc : WCH_PC x ∉ as) (hloop : ∀ k ∈ [48, 49, 50], WCH_REG x k ∉ as) : s.wMoved t x as :=
  h.moved (keeps_mono hk (List.subset_cons_self ..)) (wLA_congr (fld_of_keeps hk hcsts _)) (fld_of_keeps hk hcsts _) hpc hloop

theorem Retired.regs_only {t : State} (h : Retired x u t) (hu : { u with regs := s.regs } = s) : { t with regs := s.regs } = s :=
  (congrArg (fun v : State => { v with regs := s.regs }) h.only.1 : { t with regs := s.regs } = { u with regs := s.regs }).trans hu

/-! ### LD, ST and MACP -/

/-- LD with its address: the word in its data register, the pointer advanced. -/
def loaded (x i n step a : Nat) (u : State) : State := wStep x n step (u.setWD x i (u.wWord x a))

variable {i n step a : Nat}

theorem onlyRegs_loaded (hn : n < 8) : u.onlyRegs (loaded x i n step a u) [WCH_REG x i, WCH_REG x (24 + n)] :=
  onlyRegs_trans (onlyRegs_wr ..) (onlyRegs_wStep hn step) (by simp) (by simp)

theorem wD_loaded (hi : i < 16) (hn : n < 8) : (loaded x i n step a u).wD x i = u.wWord x a % 2 ^ 48 :=
  (rdN_of_keeps (onlyRegs_wStep hn step).2 (by simp; omega)).trans (wD_setWD ..)

theorem wSpr_loaded (hi : i < 16) (hn : n < 8) : (loaded x i n step a u).wSpr x n = u.wStepped x n step := by
  have hkeep : u.onlyRegs (u.setWD x i (u.wWord x a)) [WCH_REG x i] := onlyRegs_wr ..
  refine (wSpr_wStep hn step).trans (wStepped_congr (wSpr_of_keeps hkeep.2 (by omega) ?_) (wSpr_of_keeps hkeep.2 (by omega) ?_) step) <;>
    simp <;> omega

theorem exec_ld (h : s.wGoes x 9 w) (hn : n = bits w 21 19) (hu : wClamp x n s = u) (ha : u.wSpr x (0x08 + n) + u.wSpr x n = a)
    (hlt : a < 65536) : exec (.ld x) s = .next (wRetire x (loaded x (bits w 25 22) n (bits w 18 11) a u)) := by
  subst hn
  exact congrArg Host.Outcome.next ((wExec_of_goes h _).trans (wAccess_of_local hu ha hlt _))

theorem ld_spec (h : s.wGoes x 9 w) (hn : n = bits w 21 19) (hp : s.wPoints x n a) : ∃ t, exec (.ld x) s = .next t
    ∧ t.wD x (bits w 25 22) = s.wWord x a % 2 ^ 48 ∧ t.wSpr x n = s.wStepped x n (bits w 18 11)
    ∧ s.wMoved t x [WCH_REG x (bits w 25 22), WCH_REG x (24 + n)] ∧ { t with regs := s.regs } = s := by
  have hi : bits w 25 22 < 16 := bits_lt w 25 22
  have hn8 : n < 8 := hn ▸ bits_lt w 21 19
  have hret := retired_wRetire x (loaded x (bits w 25 22) n (bits w 18 11) a s)
  have honly := onlyRegs_loaded (u := s) (x := x) (i := bits w 25 22) (step := bits w 18 11) (a := a) hn8
  refine ⟨_, exec_ld h hn (wClamp_of_within hp.1) hp.2.1.symm hp.2.2, (hret.wD (by omega)).trans (wD_loaded hi hn8),
    (hret.wSpr (by omega) (by omega)).trans (wSpr_loaded hi hn8),
    hret.moved_of_keeps honly.2 (by simp) (by simp) (by simp; omega), hret.regs_only honly.1⟩

/-- LD with its pointer reduced first. -/
def clampedLoad (x i n step a : Nat) (s : State) : State := loaded x i n step a (clamped x n s)

theorem onlyRegs_clampedLoad (hn : n < 8) :
    s.onlyRegs (clampedLoad x i n step a s) (WCH_CSTS x :: [WCH_REG x i, WCH_REG x (24 + n), WCH_CLAMP_CNT x]) :=
  onlyRegs_trans (onlyRegs_clamped hn) (onlyRegs_loaded hn) (by simp) (by simp)

theorem csts_clampedLoad_eq_clamped (hn : n < 8) (f : Fld) :
    (clampedLoad x i n step a s).fld (WCH_CSTS x) f = (clamped x n s).fld (WCH_CSTS x) f := fld_of_onlyRegs (onlyRegs_loaded hn) (by simp) f

theorem csts_clampedLoad (hn : n < 8) {f : Fld} (hf : f.1 + f.2 ≤ 8) :
    (clampedLoad x i n step a s).fld (WCH_CSTS x) f = s.fld (WCH_CSTS x) f :=
  (csts_clampedLoad_eq_clamped hn f).trans (csts_clamped x n hn (by omega) hf)

theorem clampSeen_clampedLoad (hn : n < 8) : (clampedLoad x i n step a s).fld (WCH_CSTS x) WCH_CSTS_CIRC_CLAMP = 1 :=
  (csts_clampedLoad_eq_clamped hn _).trans ((fld_inc_ne _ _ _ _ (wchCsts_ne_clamp x)).trans (fld_setF _ _ WCH_CSTS_CIRC_CLAMP _ (by decide)))

theorem clampCnt_clampedLoad (hn : n < 8) :
    (clampedLoad x i n step a s).rdN (WCH_CLAMP_CNT x) = min 0xFFFFFFFF (s.rdN (WCH_CLAMP_CNT x) + 1) := by
  refine (rdN_of_keeps (onlyRegs_loaded hn).2 (by simp)).trans ((rdN_inc ..).trans ?_)
  rw [rdN_setF_ne _ _ _ _ _ (wchCsts_ne_clamp x).symm, rdN_of_keeps (onlyRegs_setWSpr s x _ (by omega)).2 (by simp)]

theorem ld_clamped_spec (h : s.wGoes x 9 w) (hn : n = bits w 21 19) (h0 : s.wSpr x (0x10 + n) ≠ 0)
    (hle : s.wSpr x (0x10 + n) ≤ s.wSpr x n) (hlt : s.wSpr x n < 2 ^ 16) {p : Nat} (hp : p = s.wSpr x n % s.wSpr x (0x10 + n))
    (ha : s.wSpr x (0x08 + n) + p < 65536) : ∃ t, exec (.ld x) s = .next t
    ∧ t.wD x (bits w 25 22) = s.wWord x (s.wSpr x (0x08 + n) + p) % 2 ^ 48 ∧ t.flag (WCH_CSTS x) WCH_CSTS_CIRC_CLAMP = true
    ∧ t.rdN (WCH_CLAMP_CNT x) = min 0xFFFFFFFF (s.rdN (WCH_CLAMP_CNT x) + 1)
    ∧ s.wMoved t x [WCH_REG x (bits w 25 22), WCH_REG x (24 + n), WCH_CLAMP_CNT x] ∧ { t with regs := s.regs } = s := by
  have hi : bits w 25 22 < 16 := bits_lt w 25 22
  have hn8 : n < 8 := hn ▸ bits_lt w 21 19
  obtain ⟨a, hadr⟩ : ∃ a, a = s.wSpr x (0x08 + n) + p := ⟨_, rfl⟩
  have hval : (clamped x n s).wSpr x (0x08 + n) + (clamped x n s).wSpr x n = a := by
    rw [wSpr_clamped_ne hn8 (by omega) (by omega), wSpr_clamped_same hn8 hlt, ← hp, hadr]
  have hexec := exec_ld h hn (wClamp_of_beyond h0 hle) hval (hadr ▸ ha)
  have hret := retired_wRetire x (clampedLoad x (bits w 25 22) n (bits w 18 11) a s)
  have honly := onlyRegs_clampedLoad (s := s) (x := x) (i := bits w 25 22) (step := bits w 18 11) (a := a) hn8
  have hmoved := hret.moved honly.2 (wLA_congr (csts_clampedLoad hn8 (by decide))) (csts_clampedLoad hn8 (by decide)) (by simp)
    (by simp [(wchClamp_ne_reg x _).symm]; omega)
  refine ⟨_, hexec, ?_, ?_, ?_, hmoved, hret.regs_only honly.1⟩
  · rw [← hadr, ← wWord_of_wch (wch_of_onlyRegs (onlyRegs_clamped hn8))]
    exact (hret.wD (by omega)).trans (wD_loaded hi hn8)
  · exact congrArg (· == 1) ((hret.csts WCH_CSTS_CIRC_CLAMP (by decide) (by decide)).trans (clampSeen_clampedLoad hn8))
  · exact (rdN_of_keeps hret.only.2 (by simp [(wchPc_ne_clamp x).symm, (wchCsts_ne_clamp x).symm])).trans (clampCnt_clampedLoad hn8)

theorem ld_struck (h : s.wGoes x 9 w) (hn : n = bits w 21 19) (hin : s.wSpr x (0x10 + n) = 0 ∨ s.wSpr x n < s.wSpr x (0x10 + n))
    (ha : 65536 ≤ s.wSpr x (0x08 + n) + s.wSpr x n) : ∃ t, exec (.ld x) s = .next t ∧ s.wStruck t x E_WCH_ADDR := by
  subst hn
  have haccess (f : Nat → State → State) : wAccess x (bits w 21 19) f s = wFault x E_WCH_ADDR s := by
    rw [wAccess, wClamp_of_within hin]
    exact if_pos ha
  exact ⟨_, congrArg Host.Outcome.next ((wExec_of_goes h _).trans (haccess _)), wStruck_wFault (by decide)⟩

/-- ST with its address: the word in local memory, the pointer advanced. -/
def stored (x i n step a : Nat) (u : State) : State := wStep x n step (u.setWWord x a (u.wD x i))

theorem onlyRegs_stored (hn : n < 8) : (u.setWWord x a (u.wD x i)).onlyRegs (stored x i n step a u) [WCH_REG x (24 + n)] :=
  onlyRegs_wStep hn step

theorem ldByte_setWWord_ne (v : Nat) {b : Nat} (hb : b < 524288 * x + 8 * a ∨ 524288 * x + 8 * a + 8 ≤ b) :
    ldByte (s.setWWord x a v).wch.mem b = ldByte s.wch.mem b := ldByte_stBytes_ne _ _ _ _ _ hb

theorem st_spec (h : s.wGoes x 0x0A w) (hn : n = bits w 21 19) (hp : s.wPoints x n a) : ∃ t, exec (.st x) s = .next t
    ∧ t.wWord x a = s.wD x (bits w 25 22)
    ∧ (∀ b, b < 524288 * x + 8 * a ∨ 524288 * x + 8 * a + 8 ≤ b → ldByte t.wch.mem b = ldByte s.wch.mem b)
    ∧ t.wSpr x n = s.wStepped x n (bits w 18 11) ∧ s.wMoved t x [WCH_REG x (24 + n)]
    ∧ t.wch.cores = s.wch.cores ∧ { t with regs := s.regs, wch := s.wch } = s := by
  have hn8 : n < 8 := hn ▸ bits_lt w 21 19
  obtain ⟨v, hv⟩ : ∃ v, v = s.setWWord x a (s.wD x (bits w 25 22)) := ⟨_, rfl⟩
  have hexec : exec (.st x) s = .next (wRetire x (wStep x n (bits w 18 11) v)) := by
    subst hn hv
    exact congrArg Host.Outcome.next ((wExec_of_goes h _).trans (wAccess_of_points hp _))
  have hregs : s.keeps v [] := keeps_of_regs (keeps_rfl _ _) (hv ▸ rfl)
  have hret := retired_wRetire x (wStep x n (bits w 18 11) v)
  have hstep := onlyRegs_wStep (u := v) (x := x) hn8 (bits w 18 11)
  have honly := onlyRegs_trans hstep hret.only (List.subset_append_left ..) (List.subset_append_right ..)
  have hwch := wch_of_onlyRegs honly
  have hspr {k : Nat} (hk : k ≠ 0x1D) : v.wSpr x k = s.wSpr x k := wSpr_of_keeps hregs hk (by simp)
  refine ⟨_, hexec, ?_, fun b hb => ?_, ?_, hret.moved_of_keeps (keeps_trans hregs hstep.2 (by simp) (by simp)) (by simp) (by simp)
    (by simp; omega), ?_, ?_⟩
  · rw [wWord_of_wch hwch, hv]
    exact (ldBytes_stBytes ..).trans (Nat.mod_eq_of_lt (BitVec.isLt _))
  · rw [hwch, hv]
    exact ldByte_setWWord_ne _ hb
  · exact (hret.wSpr (by omega) (by omega)).trans ((wSpr_wStep hn8 _).trans (wStepped_congr (hspr (by omega)) (hspr (by omega)) _))
  · rw [hwch, hv]
    rfl
  · refine (congrArg (fun u : State => { u with regs := s.regs, wch := s.wch }) honly.1 :).trans ?_
    rw [hv]
    rfl

/-- The registers of an accumulator. -/
def accRegs (x m : Nat) : List Nat := [WCH_REG x (16 + 2 * m), WCH_REG x (17 + 2 * m)]

theorem onlyRegs_setWAcc (x m v : Nat) : s.onlyRegs (s.setWAcc x m v) (accRegs x m) :=
  onlyRegs_andWr (onlyRegs_andWr (onlyRegs_rfl _ _) (by simp [accRegs])) (by simp [accRegs])

theorem wAcc_of_keeps {as : List Nat} {m : Nat} (h : s.keeps u as) (hlow : WCH_REG x (16 + 2 * m) ∉ as) (hhigh : WCH_REG x (17 + 2 * m) ∉ as) :
    u.wAcc x m = s.wAcc x m := by rw [State.wAcc, State.wAcc, rdN_of_keeps h hlow, rdN_of_keeps h hhigh]

section
variable {m b c : Nat} {cx cj neg clr : Bool}

theorem onlyRegs_wMac : s.onlyRegs (wMac x m b c cx cj neg clr s) (WCH_CSTS x :: accRegs x m) := by
  have hacc := onlyRegs_trans (cs := WCH_CSTS x :: accRegs x m) (onlyRegs_setWAcc (s := s) x m (macVal (s.wAcc x m) b c cx cj neg clr).1)
    (onlyRegs_rfl _ []) (by simp) (by simp)
  unfold wMac
  dsimp only
  cases (macVal (s.wAcc x m) b c cx cj neg clr).2
  · exact hacc
  · exact onlyRegs_andWr hacc (by simp)

theorem wAcc_wMac : (wMac x m b c cx cj neg clr s).wAcc x m = (macVal (s.wAcc x m) b c cx cj neg clr).1 % 2 ^ 104 := by
  have hacc := wAcc_setWAcc s x m (macVal (s.wAcc x m) b c cx cj neg clr).1
  unfold wMac
  dsimp only
  cases (macVal (s.wAcc x m) b c cx cj neg clr).2
  · exact hacc
  · refine (wAcc_of_keeps (onlyRegs_setF _ (WCH_CSTS x) WCH_CSTS_ACC_OVF 1).2 ?_ ?_).trans hacc <;> simp [(wchCsts_ne_reg x _).symm]

theorem overflow_wMac : (wMac x m b c cx cj neg clr s).flag (WCH_CSTS x) WCH_CSTS_ACC_OVF
    = (s.flag (WCH_CSTS x) WCH_CSTS_ACC_OVF || (macVal (s.wAcc x m) b c cx cj neg clr).2) := by
  have hacc : (s.setWAcc x m (macVal (s.wAcc x m) b c cx cj neg clr).1).fld (WCH_CSTS x) WCH_CSTS_ACC_OVF
      = s.fld (WCH_CSTS x) WCH_CSTS_ACC_OVF := fld_of_onlyRegs (onlyRegs_setWAcc x m _) (by simp [accRegs]) _
  unfold wMac
  dsimp only
  cases (macVal (s.wAcc x m) b c cx cj neg clr).2
  · exact (congrArg (· == 1) hacc).trans (Bool.or_false _).symm
  · exact (congrArg (· == 1) (fld_setF _ _ WCH_CSTS_ACC_OVF _ (by decide))).trans (Bool.or_true _).symm

/-- LA and CSTATE stand below the flags of the arithmetic. -/
theorem csts_wMac {f : Fld} (hf : f.1 + f.2 ≤ 5) : (wMac x m b c cx cj neg clr s).fld (WCH_CSTS x) f = s.fld (WCH_CSTS x) f := by
  have hacc : (s.setWAcc x m (macVal (s.wAcc x m) b c cx cj neg clr).1).fld (WCH_CSTS x) f
      = s.fld (WCH_CSTS x) f := fld_of_onlyRegs (onlyRegs_setWAcc x m _) (by simp [accRegs]) _
  unfold wMac
  dsimp only
  cases (macVal (s.wAcc x m) b c cx cj neg clr).2
  · exact hacc
  · exact (fld_setF_beside _ _ WCH_CSTS_ACC_OVF f _ (by decide) (by omega) (.inr (by simp only [WCH_CSTS_ACC_OVF]; omega))).trans hacc

end

theorem macp_spec (h : s.wGoes x 6 w) (hn : n = bits w 19 17) (hp : s.wPoints x n a) {m : Nat} (hm : m = bits w 25 24) {r : Nat × Bool}
    (hr : r = macVal (s.wAcc x m) (s.wD x (bits w 23 20)) (s.wWord x a % 2 ^ 48) (bit w 16) (bit w 15) (bit w 14) (bit w 13)) :
    ∃ t, exec (.macp x) s = .next t ∧ t.wAcc x m = r.1 % 2 ^ 104
      ∧ t.flag (WCH_CSTS x) WCH_CSTS_ACC_OVF = (s.flag (WCH_CSTS x) WCH_CSTS_ACC_OVF || r.2) ∧ t.wSpr x n = s.wStepped x n (bits w 12 5)
      ∧ s.wMoved t x [WCH_REG x (16 + 2 * m), WCH_REG x (17 + 2 * m), WCH_REG x (24 + n)] ∧ { t with regs := s.regs } = s := by
  have hn8 : n < 8 := hn ▸ bits_lt w 19 17
  have hm4 : m < 4 := hm ▸ bits_lt w 25 24
  obtain ⟨u, hu⟩ : ∃ u, u = wMac x m (s.wD x (bits w 23 20)) (s.wWord x a % w48) (bit w 16) (bit w 15) (bit w 14) (bit w 13) s := ⟨_, rfl⟩
  have hexec : exec (.macp x) s = .next (wRetire x (wStep x n (bits w 12 5) u)) := by
    subst hn hm hu
    exact congrArg Host.Outcome.next ((wExec_of_goes h _).trans (wAccess_of_points hp _))
  have hmac : s.onlyRegs u (WCH_CSTS x :: accRegs x m) := hu ▸ onlyRegs_wMac
  have hret := retired_wRetire x (wStep x n (bits w 12 5) u)
  have hstep := onlyRegs_wStep (u := u) (x := x) hn8 (bits w 12 5)
  have honly : s.onlyRegs (wStep x n (bits w 12 5) u) (WCH_CSTS x :: [WCH_REG x (16 + 2 * m), WCH_REG x (17 + 2 * m), WCH_REG x (24 + n)]) :=
    onlyRegs_trans hmac hstep (by simp [accRegs]) (by simp)
  have hcsts {f : Fld} (hf : f.1 + f.2 ≤ 5) : (wStep x n (bits w 12 5) u).fld (WCH_CSTS x) f = s.fld (WCH_CSTS x) f :=
    (fld_of_onlyRegs hstep (by simp) f).trans (hu ▸ csts_wMac hf)
  have hspr {k : Nat} (hk : k < 0x1D) : u.wSpr x k = s.wSpr x k :=
    wSpr_of_keeps hmac.2 (by omega) (by simp [accRegs, (wchCsts_ne_reg x _).symm]; omega)
  refine ⟨_, hexec, ?_, ?_, ?_, hret.moved honly.2 (wLA_congr (hcsts (by decide))) (hcsts (by decide)) (by simp) (by simp; omega),
    hret.regs_only honly.1⟩
  · rw [wAcc_of_keeps hret.only.2 (reg_not_mem_retired x (by omega)) (reg_not_mem_retired x (by omega)),
      wAcc_of_keeps hstep.2 (by simp; omega) (by simp; omega), hu, hr]
    exact wAcc_wMac
  · refine (congrArg (· == 1) ((hret.csts WCH_CSTS_ACC_OVF (by decide) (by decide)).trans (fld_of_onlyRegs hstep (by simp) _))).trans ?_
    rw [hr, hu]
    exact overflow_wMac
  · exact (hret.wSpr (by omega) (by omega)).trans ((wSpr_wStep hn8 _).trans (wStepped_congr (hspr (by omega)) (hspr (by omega)) _))

/-! ### MTS, loops, branches and jumps (R384 to R386) -/

/-- A special register moved to: LPE sets LA as well. -/
def moved (x k v : Nat) (u : State) : State := (u.setWSpr x k v).when (k == 0x1A) fun s => s.setWLA x true

section
variable {k v : Nat}

theorem onlyRegs_moved (hk : k ≠ 0x1D) : u.onlyRegs (moved x k v u) [WCH_REG x (24 + k), WCH_CSTS x] := by
  have hset := onlyRegs_trans (cs := [WCH_REG x (24 + k), WCH_CSTS x]) (onlyRegs_setWSpr u x v hk) (onlyRegs_rfl _ []) (by simp) (by simp)
  unfold moved State.when
  split
  · exact onlyRegs_andWr hset (by simp)
  · exact hset

theorem wSpr_moved (hk : k ≠ 0x1D) : (moved x k v u).wSpr x k = v % 2 ^ sprWidth k := by
  unfold moved State.when
  split
  · exact (wSpr_of_keeps (onlyRegs_setF _ (WCH_CSTS x) WCH_CSTS_LA 1).2 hk (by simp [(wchCsts_ne_reg x _).symm])).trans (wSpr_setWSpr u x hk v)
  · exact wSpr_setWSpr u x hk v

theorem wLA_moved (hk : k ≠ 0x1D) : (moved x k v u).wLA x = if k = 0x1A then true else u.wLA x := by
  by_cases h : k = 0x1A
  · subst h
    exact wLA_setWLA _ _ true
  · rw [if_neg h, moved, beq_false_of_ne h]
    exact wLA_setWSpr u x v hk

theorem wst_moved (hk : k ≠ 0x1D) : (moved x k v u).wst x = u.wst x := by
  have hset : (u.setWSpr x k v).wst x = u.wst x := fld_of_onlyRegs (onlyRegs_setWSpr u x v hk) (by simp) _
  unfold moved State.when
  split
  · exact (csts_setWLA _ _ _ (by decide) (by decide)).trans hset
  · exact hset

theorem mts_spec (h : s.wGoes x 0x0B w) (hk : k = bits w 25 21) (hv : v = if bit w 20 = true then s.wD x (bits w 3 0) else bits w 16 0)
    (hle : k ≤ 0x1C) : ∃ t, exec (.mts x) s = .next t ∧ t.wSpr x k = v % 2 ^ sprWidth k
      ∧ t.wPC x = (if s.wAgain x = true then s.wSpr x 0x19 else s.wPC x + 1) % 2 ^ 17 ∧ (k = 0x1A → t.wLA x = true)
      ∧ (k ≠ 0x1A → t.wLA x = (s.wLA x && (!s.wLast x || s.wAgain x))) ∧ t.wst x = s.wst x
      ∧ s.onlyRegs t [WCH_REG x (24 + k), WCH_PC x, WCH_CSTS x, WCH_REG x 48] := by
  have hne : k ≠ 0x1D := by omega
  have hexec : exec (.mts x) s = .next (moved x k v (wRetire x s)) := by
    subst hk hv
    exact congrArg Host.Outcome.next ((wExec_of_goes h _).trans ((if_neg (by omega)).trans (if_neg hne)))
  have hret := retired_wRetire x s
  have hmov := onlyRegs_moved (u := wRetire x s) (x := x) (v := v) hne
  refine ⟨_, hexec, wSpr_moved hne, (fld_of_onlyRegs hmov (by simp) _).trans hret.pc, fun h => ?_, fun h => ?_, ?_,
    onlyRegs_trans hret.only hmov (by simp) (by simp)⟩
  · rw [wLA_moved hne, if_pos h]
  · rw [wLA_moved hne, if_neg h, hret.la]
  · exact (wst_moved hne).trans (hret.csts _ (by decide) (by decide))

theorem mts_ipend_spec (h : s.wGoes x 0x0B w) (hk : bits w 25 21 = 0x1D)
    (hv : v = if bit w 20 = true then s.wD x (bits w 3 0) else bits w 16 0) : ∃ t, exec (.mts x) s = .next t
      ∧ t.rdN (WCH_IPEND x) = (s.rdN (WCH_IPEND x) &&& (7 - v % 8)) % 8 ∧ s.wMoved t x [WCH_IPEND x] ∧ { t with regs := s.regs } = s := by
  obtain ⟨u, hu⟩ : ∃ u, u = s.wrN (WCH_IPEND x) ((s.rdN (WCH_IPEND x) &&& (7 - v % 8)) % 8) := ⟨_, rfl⟩
  have hexec : exec (.mts x) s = .next (wRetire x u) := by
    subst hv hu
    refine congrArg Host.Outcome.next ((wExec_of_goes h _).trans ?_)
    simp only [hk]
    rfl
  have hret := retired_wRetire x u
  have honly : s.onlyRegs u [WCH_IPEND x] := hu ▸ onlyRegs_wr ..
  refine ⟨_, hexec, (rdN_of_keeps hret.only.2 ?_).trans ?_, hret.moved_of_keeps honly.2 (by simp) (by simp) (by simp [(wchIpend_ne_reg x _).symm]),
    hret.regs_only honly.1⟩
  · simp [(wchPc_ne_ipend x).symm, (wchCsts_ne_ipend x).symm]
  · rw [hu, rdN_wrN]
    exact Nat.mod_eq_of_lt ((Nat.mod_lt _ (by decide)).trans (by decide))

end

/-- The loop registers set by LOOP (R384). -/
def looped (x n b : Nat) (s : State) : State :=
  ((((s.setWSpr x 0x18 n).setWSpr x 0x19 (s.wPC x + 1)).setWSpr x 0x1A (s.wPC x + b)).setWLA x true).setWPC x (s.wPC x + 1)

theorem loop_spec {b : Nat} (h : s.wGoes x 0x0D w) (hn : n = s.wD x (bits w 25 22) % 2 ^ 20) (hb : b = bits w 16 0) (hn0 : 0 < n) (hb0 : 0 < b)
    (hend : s.wPC x + b ≤ 131071) : ∃ t, exec (.wchLoop x) s = .next t ∧ t.wSpr x 0x18 = n ∧ t.wSpr x 0x19 = s.wPC x + 1
      ∧ t.wSpr x 0x1A = s.wPC x + b ∧ t.wLA x = true ∧ t.wPC x = s.wPC x + 1 ∧ t.wst x = s.wst x
      ∧ s.onlyRegs t [WCH_REG x 48, WCH_REG x 49, WCH_REG x 50, WCH_CSTS x, WCH_PC x] := by
  have hexec : exec (.wchLoop x) s = .next (looped x n b s) := by
    subst hn hb
    exact congrArg Host.Outcome.next ((wExec_of_goes h _).trans ((if_neg (by omega)).trans (if_neg (by omega))))
  obtain ⟨u, hu⟩ : ∃ u, u = ((s.setWSpr x 0x18 n).setWSpr x 0x19 (s.wPC x + 1)).setWSpr x 0x1A (s.wPC x + b) := ⟨_, rfl⟩
  have hlast : u.onlyRegs (looped x n b s) [WCH_CSTS x, WCH_PC x] := by
    rw [looped, ← hu]
    exact onlyRegs_andWr (onlyRegs_andWr (onlyRegs_rfl _ _) (by simp)) (by simp)
  have hlpe : ((s.setWSpr x 0x18 n).setWSpr x 0x19 (s.wPC x + 1)).onlyRegs u [WCH_REG x 50] := hu ▸ onlyRegs_setWSpr _ x _ (by decide)
  have hlps : (s.setWSpr x 0x18 n).onlyRegs ((s.setWSpr x 0x18 n).setWSpr x 0x19 (s.wPC x + 1)) [WCH_REG x 49] := onlyRegs_setWSpr _ x _ (by decide)
  have hlc : s.onlyRegs (s.setWSpr x 0x18 n) [WCH_REG x 48] := onlyRegs_setWSpr _ x _ (by decide)
  have hcore : s.onlyRegs u [WCH_REG x 48, WCH_REG x 49, WCH_REG x 50] :=
    onlyRegs_trans (onlyRegs_trans hlc hlps (List.subset_append_left ..) (List.subset_append_right ..)) hlpe (by simp) (by simp)
  have hspr {k : Nat} (hk : k ≠ 0x1D) : (looped x n b s).wSpr x k = u.wSpr x k :=
    wSpr_of_keeps hlast.2 hk (by simp [(wchCsts_ne_reg x _).symm, (wchPc_ne_reg x _).symm])
  refine ⟨_, hexec, ?_, ?_, ?_, (wLA_setWPC ..).trans (wLA_setWLA _ _ true), (wPC_setWPC ..).trans (Nat.mod_eq_of_lt (by omega)), ?_,
    onlyRegs_trans hcore hlast (by simp) (by simp)⟩
  · rw [hspr (by decide), wSpr_of_keeps hlpe.2 (by decide) (by simp), wSpr_of_keeps hlps.2 (by decide) (by simp), wSpr_setWSpr _ _ (by decide)]
    exact Nat.mod_eq_of_lt (hn ▸ Nat.mod_lt _ (by decide))
  · rw [hspr (by decide), wSpr_of_keeps hlpe.2 (by decide) (by simp), wSpr_setWSpr _ _ (by decide)]
    exact Nat.mod_eq_of_lt (Nat.lt_of_le_of_lt (by omega) (by decide : 131071 < 2 ^ sprWidth 0x19))
  · rw [hspr (by decide), hu, wSpr_setWSpr _ _ (by decide)]
    exact Nat.mod_eq_of_lt (Nat.lt_of_le_of_lt hend (by decide : 131071 < 2 ^ sprWidth 0x1A))
  · refine (fld_setF_ne _ _ _ _ _ _ (wchPc_ne_csts x).symm).trans ((csts_setWLA _ _ _ (by decide) (by decide)).trans ?_)
    rw [← hu]
    exact fld_of_onlyRegs hcore (by simp) _

theorem loop_struck (h : s.wGoes x 0x0D w) (h0 : s.wD x (bits w 25 22) % 2 ^ 20 = 0 ∨ bits w 16 0 = 0) :
    ∃ t, exec (.wchLoop x) s = .next t ∧ s.wStruck t x E_WCH_ZERO_LEN :=
  ⟨_, congrArg Host.Outcome.next ((wExec_of_goes h _).trans (if_pos h0.symm)), wStruck_wFault (by decide)⟩

/-- What a jump to `n` leaves: the PC, and LA cleared where `n` lies outside the loop. -/
structure Jumped (x n : Nat) (u t : State) : Prop where
  only : u.onlyRegs t [WCH_PC x, WCH_CSTS x]
  pc : t.wPC x = n
  la : t.wLA x = (u.wLA x && (decide (u.wSpr x 0x19 ≤ n) && decide (n ≤ u.wSpr x 0x1A)))
  wst : t.wst x = u.wst x

theorem jumped_wJump {m : Nat} (hn : n = m % 2 ^ 17) : Jumped x n u (wJump x m u) := by
  have hlt : n < 2 ^ 17 := hn ▸ Nat.mod_lt _ (by decide)
  unfold wJump
  dsimp only
  rw [← hn]
  by_cases hout : n < u.wSpr x 0x19 ∨ u.wSpr x 0x1A < n
  · rw [if_pos hout]
    refine ⟨onlyRegs_andWr (onlyRegs_andWr (onlyRegs_rfl _ _) (by simp)) (by simp), (wPC_setWPC ..).trans (Nat.mod_eq_of_lt hlt), ?_, ?_⟩
    · rw [wLA_setWPC, wLA_setWLA]
      rcases hout with hlow | hhigh
      · simp [Nat.not_le.mpr hlow]
      · simp [Nat.not_le.mpr hhigh]
    · exact (fld_setF_ne _ _ _ _ _ _ (wchPc_ne_csts x).symm).trans (csts_setWLA _ _ _ (by decide) (by decide))
  · rw [if_neg hout]
    refine ⟨onlyRegs_andWr (onlyRegs_rfl _ _) (by simp), (wPC_setWPC ..).trans (Nat.mod_eq_of_lt hlt), ?_, ?_⟩
    · rw [wLA_setWPC]
      simp only [not_or, Nat.not_lt] at hout
      simp [hout.1, hout.2]
    · exact fld_setF_ne _ _ _ _ _ _ (wchPc_ne_csts x).symm

theorem br_spec (h : s.wGoes x 0x0E w) (hcond : bits w 25 23 ≠ 7) :
    ∃ t, exec (.wchBr x) s = .next t ∧ t = if wCond (bits w 25 23) (s.wD x (bits w 22 19)) (s.wD x (bits w 18 15)) = true
      then wJump x (((s.wPC x : Int) + 1 + sgn 15 (bits w 14 0)) % 131072).toNat s else s.setWPC x (s.wPC x + 1) :=
  ⟨_, congrArg Host.Outcome.next ((wExec_of_goes h _).trans (if_neg hcond)), rfl⟩

theorem jl_spec (h : s.wGoes x 0x0F w) : ∃ t, exec (.jl x) s = .next t ∧ t.wPC x = bits w 16 0 ∧ t.wD x (bits w 25 22) = s.wPC x + 1
      ∧ t.wLA x = (s.wLA x && (decide (s.wSpr x 0x19 ≤ bits w 16 0) && decide (bits w 16 0 ≤ s.wSpr x 0x1A))) ∧ t.wst x = s.wst x
      ∧ s.onlyRegs t [WCH_PC x, WCH_CSTS x, WCH_REG x (bits w 25 22)] := by
  have hi : bits w 25 22 < 16 := bits_lt w 25 22
  obtain ⟨u, hu⟩ : ∃ u, u = s.setWD x (bits w 25 22) (s.wPC x + 1) := ⟨_, rfl⟩
  have hd : s.onlyRegs u [WCH_REG x (bits w 25 22)] := hu ▸ onlyRegs_wr ..
  have hexec : exec (.jl x) s = .next (wJump x (bits w 16 0) u) := hu ▸ congrArg Host.Outcome.next (wExec_of_goes h _)
  have hj := jumped_wJump (u := u) (x := x) (Nat.mod_eq_of_lt (bits_lt w 16 0)).symm
  refine ⟨_, hexec, hj.pc, ?_, ?_, hj.wst.trans (fld_of_onlyRegs hd (by simp) _), onlyRegs_trans hd hj.only (by simp) (by simp)⟩
  · have hpc := wPC_lt s x
    refine (rdN_of_keeps hj.only.2 (by simp [(wchPc_ne_reg x _).symm, (wchCsts_ne_reg x _).symm])).trans ?_
    exact (hu ▸ wD_setWD s x (bits w 25 22) (s.wPC x + 1) : u.wD x _ = _).trans (Nat.mod_eq_of_lt (by omega))
  · rw [hj.la, wLA_congr (fld_of_onlyRegs hd (by simp) _), wSpr_of_keeps hd.2 (by decide) (by simp; omega),
      wSpr_of_keeps hd.2 (by decide) (by simp; omega)]

end

/-- Settles O33: an instruction's access goes through its pointer, LD, ST and MACP retire behind it; MTS, LOOP, BR, JL and JR by what they write. -/
theorem winchMemoryLoopsAndBranches : Obligations.WinchMemoryLoopsAndBranches := by
  refine ⟨fun s x w n a h hn hp => ld_spec h hn hp, fun s x w n p h hn h0 hle hlt hp ha => ld_clamped_spec h hn h0 hle hlt hp ha,
    fun s x w n h hn hin ha => ld_struck h hn hin ha, fun s x w n a h hn hp => st_spec h hn hp,
    fun s x w n a m r h hn hp hm hr => macp_spec h hn hp hm hr, fun s x w k v h hk hv hle => mts_spec h hk hv hle,
    fun s x w v h hk hv => mts_ipend_spec h hk hv, fun s x w n b h hn hb hn0 hb0 hend => loop_spec h hn hb hn0 hb0 hend,
    fun s x w h h0 => loop_struck h h0, fun s x w h hcond hfalse => ?_, fun s x w n h hcond htrue hn => ?_, fun s x w h => jl_spec h,
    fun s x w n h hn => ?_⟩
  · obtain ⟨t, hexec, rfl⟩ := br_spec h hcond
    rw [if_neg (by simp [hfalse])] at hexec
    exact ⟨_, hexec, wPC_setWPC .., onlyRegs_setF ..⟩
  · obtain ⟨t, hexec, rfl⟩ := br_spec h hcond
    rw [if_pos htrue, ← hn] at hexec
    have hj : Jumped x n s (wJump x n s) := jumped_wJump (by omega)
    exact ⟨_, hexec, hj.pc, hj.la, hj.wst, hj.only⟩
  · have hj : Jumped x n s (wJump x (s.wD x (bits w 25 22)) s) := jumped_wJump hn
    exact ⟨_, congrArg Host.Outcome.next (wExec_of_goes h _), hj.pc, hj.la, hj.wst, hj.only⟩

end Sys2Proof.Laws
end

section
namespace Sys2Proof.Laws
open Sys2Proof.Machine

-- One theorem after another: a thread for each of them passes the memory limit of the check.
set_option Elab.async false

/-! ### The control register of a core (Table 12-4, R375, R394) -/

section
variable {s u : State} {x : Nat}

@[simp] theorem wchCtl_ne_csts (x : Nat) : WCH_CTL x ≠ WCH_CSTS x := by unfold WCH_CTL WCH_CSTS; omega

@[simp] theorem core_setCore_same (s : State) (x : Nat) (c : Core) : (s.setCore x c).core x = c := tget_tput_same ..

@[simp] theorem core_setF (s : State) (a : Nat) (f : Fld) (n x : Nat) : (s.setF a f n).core x = s.core x := rfl

/-- CSTATE leaves every other field of WCH_CSTS. -/
theorem csts_setWst (s : State) (x v : Nat) {f : Fld} (hf : f.1 + f.2 ≤ 64) (hbeside : 3 ≤ f.1) :
    (s.setWst x v).fld (WCH_CSTS x) f = s.fld (WCH_CSTS x) f := fld_setF_beside s _ WCH_CSTS_CSTATE f _ (by decide) hf (.inl hbeside)

/-- STATUS leaves the fields below it. -/
theorem csts_status (s : State) (x c : Nat) {f : Fld} (hf : f.1 + f.2 ≤ 16) :
    (s.status (WCH_CSTS x) c).fld (WCH_CSTS x) f = s.fld (WCH_CSTS x) f :=
  fld_setF_beside s _ WCH_CSTS_STATUS f _ (by decide) (by omega) (.inr hf)

/-- A field of WCH_CTL set. -/
theorem wst_setCtl (s : State) (x : Nat) (f : Fld) (n : Nat) : (s.setF (WCH_CTL x) f n).wst x = s.wst x :=
  fld_setF_ne _ _ _ _ _ _ (wchCtl_ne_csts x).symm

theorem ctl_setWst (s : State) (x v : Nat) (f : Fld) : (s.setWst x v).flag (WCH_CTL x) f = s.flag (WCH_CTL x) f :=
  congrArg (· == 1) (fld_setF_ne _ _ _ _ _ _ (wchCtl_ne_csts x))

/-- A core started, HALTED where HALT is set. -/
def started (x : Nat) (s : State) : State :=
  ((s.setF (WCH_CTL x) WCH_CTL_RUN 1).status (WCH_CSTS x) 0).setWst x (if s.flag (WCH_CTL x) WCH_CTL_HALT = true then wHALTED else wRUN)

theorem wRunStart_of_idle (hidle : s.wst x = wIDLE) (hdev : s.dev = dREADY ∨ s.dev = dRUN)
    (hshared : s.flag (WCH_CTL x) WCH_CTL_MODE = true ∨ ∀ z, z < 8 → z ≠ x → s.flag (WCH_CTL z) WCH_CTL_RUN = true →
      s.flag (WCH_CTL z) WCH_CTL_MODE = false → s.rdN (WCH_RQID z) ≠ s.rdN (WCH_RQID x)) : wRunStart x s = started x s := by
  have hgo : ¬(s.wst x ≠ wIDLE ∨ (s.dev ≠ dREADY ∧ s.dev ≠ dRUN) ∨ (!s.flag (WCH_CTL x) WCH_CTL_MODE && (List.range 8).any fun z =>
      z != x && s.flag (WCH_CTL z) WCH_CTL_RUN && !s.flag (WCH_CTL z) WCH_CTL_MODE && s.rdN (WCH_RQID z) == s.rdN (WCH_RQID x)) = true) := by
    rintro (h | h | h)
    · exact h hidle
    · exact hdev.elim h.1 h.2
    · simp only [Bool.and_eq_true, Bool.not_eq_true', List.any_eq_true, List.mem_range, bne_iff_ne, beq_iff_eq] at h
      obtain ⟨hmode, z, hz, ⟨⟨hne, hrun⟩, hzmode⟩, hq⟩ := h
      rcases hshared with huser | hothers
      · simp [huser] at hmode
      · exact hothers z hz hne hrun hzmode hq
  refine (if_neg hgo).trans ?_
  have hhalt : ((s.setF (WCH_CTL x) WCH_CTL_RUN 1).status (WCH_CSTS x) 0).flag (WCH_CTL x) WCH_CTL_HALT = s.flag (WCH_CTL x) WCH_CTL_HALT :=
    congrArg (· == 1) ((fld_status_ne _ _ _ (wchCtl_ne_csts x)).trans (fld_setF_beside _ _ WCH_CTL_RUN WCH_CTL_HALT _ (by decide) (by decide) (by decide)))
  rw [hhalt]
  rfl

theorem started_spec : (started x s).flag (WCH_CTL x) WCH_CTL_RUN = true
    ∧ (started x s).wst x = (if s.flag (WCH_CTL x) WCH_CTL_HALT = true then wHALTED else wRUN)
    ∧ (started x s).fld (WCH_CSTS x) WCH_CSTS_STATUS = 0 ∧ s.onlyRegs (started x s) [WCH_CTL x, WCH_CSTS x] := by
  refine ⟨?_, wst_setWst _ _ (by split <;> decide), (csts_setWst _ _ _ (by decide) (by decide)).trans (fld_status ..),
    onlyRegs_andWr (onlyRegs_andWr (onlyRegs_andWr (onlyRegs_rfl _ _) (by simp)) (by simp)) (by simp)⟩
  refine (ctl_setWst ..).trans (congrArg (· == 1) ((fld_status_ne _ _ _ (wchCtl_ne_csts x)).trans ?_ : _ = 1))
  exact fld_setF _ _ WCH_CTL_RUN _ (by decide)

theorem wRunStart_of_refused (h : s.wst x ≠ wIDLE ∨ (s.dev ≠ dREADY ∧ s.dev ≠ dRUN)) :
    wRunStart x s = s.status (WCH_CSTS x) E_WCH_STATE :=
  if_pos (h.elim .inl fun hd => .inr (.inl hd))

/-- The service of a core ended early, its RUN written 0. -/
def runCleared (x : Nat) (s : State) : State := svcEnd x E_WCH_SVC_ABORTED (s.setF (WCH_CTL x) WCH_CTL_RUN 0)

theorem wRunStop_of_on (hoff : s.wst x ≠ wOFF) (hidle : s.wst x ≠ wIDLE) :
    wRunStop x s = wStopped x ((runCleared x s).setCore x { (runCleared x s).core x with stopping := true }) :=
  if_neg (by rw [wst_setCtl]; exact fun h => h.elim hoff hidle)

theorem svcEnd_of_none (h : (s.core x).svc = none) (code : Nat) : svcEnd x code s = s := by rw [svcEnd, h]

theorem runCleared_of_none (h : (s.core x).svc = none) : runCleared x s = s.setF (WCH_CTL x) WCH_CTL_RUN 0 := by
  rw [runCleared, svcEnd_of_none]
  rw [core_setF]
  exact h

theorem run_setRun (s : State) (x : Nat) : (s.setF (WCH_CTL x) WCH_CTL_RUN 0).flag (WCH_CTL x) WCH_CTL_RUN = false :=
  congrArg (· == 1) (fld_setF _ _ WCH_CTL_RUN _ (by decide))

/-- Without transfers a stopping core is IDLE. -/
theorem wStopped_of_done (hstop : (u.core x).stopping = true) (hx : (u.core x).xfers = []) :
    wStopped x u = (u.setCore x { u.core x with stopping := false }).setWst x wIDLE := if_pos ⟨hstop, hx⟩

theorem wStopped_of_transfers (hx : (u.core x).xfers ≠ []) : wStopped x u = u := if_neg fun h => hx h.2

theorem wStopped_of_running (hstop : (u.core x).stopping = false) : wStopped x u = u := if_neg fun h => by simp [hstop] at h

/-- Whatever a stopping core has outstanding, its service stays as it was, and only CSTS is written. -/
theorem wStopped_keeps (u : State) (x : Nat) : u.keeps (wStopped x u) [WCH_CSTS x] ∧ ((wStopped x u).core x).svc = (u.core x).svc
    ∧ (wStopped x u).bus = u.bus := by
  unfold wStopped
  dsimp only
  split
  · refine ⟨keeps_andWr (keeps_of_regs (keeps_rfl _ _) rfl) (by simp), ?_, rfl⟩
    rw [State.setWst, core_setF, core_setCore_same]
  · exact ⟨keeps_rfl _ _, rfl, rfl⟩

theorem runStop_idle_spec (hopen : s.opens (WCH_CTL x)) (hoff : s.wst x ≠ wOFF) (hidle : s.wst x ≠ wIDLE) (hsvc : (s.core x).svc = none)
    (hx : (s.core x).xfers = []) : ∃ t, exec (.wchRunStop x) s = .next t ∧ t.flag (WCH_CTL x) WCH_CTL_RUN = false ∧ t.wst x = wIDLE
      ∧ (t.core x).stopping = false ∧ s.keeps t [WCH_CTL x, WCH_CSTS x] ∧ { t with regs := s.regs, wch := s.wch } = s := by
  have ht := (wRunStop_of_on hoff hidle).trans (congrArg (fun v : State => wStopped x (v.setCore x { v.core x with stopping := true }))
    (runCleared_of_none hsvc))
  refine ⟨_, next_hostWr hopen (ht.trans (wStopped_of_done ?_ ?_)), (ctl_setWst ..).trans (run_setRun s x), wst_setWst _ _ (by decide), ?_,
    keeps_andWr (keeps_of_regs (keeps_andWr (keeps_rfl s _) (by simp)) rfl) (by simp), rfl⟩
  · rw [core_setCore_same]
  · rw [core_setCore_same]
    exact hx
  · rw [State.setWst, core_setF, core_setCore_same]

theorem runStop_waits_spec (hopen : s.opens (WCH_CTL x)) (hrun : s.wst x = wRUN ∨ s.wst x = wWAIT) (hsvc : (s.core x).svc = none)
    (hx : (s.core x).xfers ≠ []) : ∃ t, exec (.wchRunStop x) s = .next t ∧ t.flag (WCH_CTL x) WCH_CTL_RUN = false ∧ t.wst x = s.wst x
      ∧ t.core x = { s.core x with stopping := true } ∧ s.keeps t [WCH_CTL x, WCH_CSTS x] ∧ { t with regs := s.regs, wch := s.wch } = s := by
  have hon : s.wst x ≠ wOFF ∧ s.wst x ≠ wIDLE := by rcases hrun with h | h <;> rw [h] <;> decide
  have ht := (wRunStop_of_on hon.1 hon.2).trans (congrArg (fun v : State => wStopped x (v.setCore x { v.core x with stopping := true }))
    (runCleared_of_none hsvc))
  refine ⟨_, next_hostWr hopen (ht.trans (wStopped_of_transfers ?_)), run_setRun s x, wst_setCtl .., core_setCore_same ..,
    keeps_of_regs (keeps_andWr (keeps_rfl s _) (by simp)) rfl, rfl⟩
  rw [core_setCore_same]
  exact hx

/-! ### The end of a service (R399) -/

theorem wchSvcCnt_not_mem (x : Nat) : WCH_SVC_CNT x ∉ [WCH_CTL x, WCH_CSTS x, WCH_HOLD] := by
  unfold WCH_SVC_CNT WCH_CTL WCH_CSTS WCH_HOLD
  simp
  omega

/-- The yard that a completing service held is free again. -/
def yardFreed (x : Nat) (ws : List Nat) (s : State) : State :=
  (s.setCore x { s.core x with svc := none }).when (svcHolds ws && (s.core x).svc.isSome) fun s =>
    (s.wr WCH_HOLD (s.rd WCH_HOLD &&& ~~~(BitVec.ofNat 64 (2 ^ svcYard ws)))).modGrp (s.groupOf (svcYard ws)) fun g => { g with byService := none }

theorem yardFreed_keeps (ws : List Nat) : s.keeps (yardFreed x ws s) [WCH_HOLD] := by
  unfold yardFreed State.when
  split
  · exact keeps_of_regs (keeps_andWr (keeps_of_regs (keeps_rfl s _) rfl) (by simp)) rfl
  · exact keeps_of_regs (keeps_rfl s _) rfl

theorem core_yardFreed (ws : List Nat) : (yardFreed x ws s).core x = { s.core x with svc := none } := by
  unfold yardFreed State.when
  split <;> exact core_setCore_same ..

theorem bus_yardFreed (ws : List Nat) : (yardFreed x ws s).bus = s.bus := by
  unfold yardFreed State.when
  split <;> rfl

theorem svcFinish_keeps (ws : List Nat) (code outBytes shots : Nat) (summary : List Nat) :
    s.keeps (svcFinish x ws code outBytes shots summary s) [WCH_SVC_CNT x, WCH_HOLD] :=
  keeps_andWr (keeps_of_regs (keeps_mono (yardFreed_keeps (s := s) (x := x) ws) (by simp)) rfl) (by simp)

theorem svcCnt_svcFinish (ws : List Nat) (code outBytes shots : Nat) (summary : List Nat) :
    (svcFinish x ws code outBytes shots summary s).rdN (WCH_SVC_CNT x) = min 0xFFFFFFFF (s.rdN (WCH_SVC_CNT x) + 1) := by
  refine (rdN_inc ..).trans (congrArg (fun n => min 0xFFFFFFFF (n + 1)) ?_)
  exact rdN_of_keeps (keeps_of_regs (yardFreed_keeps (s := s) (x := x) ws) rfl) (by have := wchSvcCnt_not_mem x; simp at this ⊢; exact this.2.2)

theorem core_svcFinish (ws : List Nat) (code outBytes shots : Nat) (summary : List Nat) :
    (svcFinish x ws code outBytes shots summary s).core x = { s.core x with svc := none } := core_yardFreed ws

/-- The completion entry (Table 12-6). -/
def completionRec (x : Nat) (ws : List Nat) (code outBytes shots time : Nat) (summary : List Nat) : Rec :=
  ⟨svcCqid ws % 2 ^ 18, 0x50 + x, time,
    [code % 2 ^ 16 + svcCode ws * 2 ^ 16 + x * 2 ^ 24 + svcTag ws * 2 ^ 32, time, outBytes % 2 ^ 32 + shots % 2 ^ 32 * 2 ^ 32]
      ++ (List.range 5).map fun i => summary.getD i 0 % 2 ^ 64, [], true⟩

theorem bus_svcFinish (ws : List Nat) (code outBytes shots : Nat) (summary : List Nat) :
    ∃ time, (svcFinish x ws code outBytes shots summary s).bus
      = { s.bus with recs := s.bus.recs ++ [completionRec x ws code outBytes shots time summary] } :=
  ⟨_, (congrArg (fun b : Bus => { b with recs := b.recs ++ [completionRec x ws code outBytes shots (yardFreed x ws s).tb1 summary] })
    (bus_yardFreed ws) :)⟩

theorem svcEnd_of_some {v : Svc} (h : (s.core x).svc = some v) (hcode : v.code = 0) (code : Nat) :
    svcEnd x code s = svcFinish x v.words code 0 0 [] s := by
  rw [svcEnd, h]
  exact congrArg (fun c => svcFinish x v.words c 0 0 [] s) (if_pos hcode)

/-- RUN written 0 while a service is in progress: it ends with E_WCH_SVC_ABORTED, the core stops behind its transfers. -/
theorem runStop_service_spec {v : Svc} (hopen : s.opens (WCH_CTL x)) (hrun : s.wst x = wRUN ∨ s.wst x = wWAIT) (hsvc : (s.core x).svc = some v)
    (hcode : v.code = 0) : ∃ t, exec (.wchRunStop x) s = .next t ∧ t.flag (WCH_CTL x) WCH_CTL_RUN = false ∧ (t.core x).svc = none
      ∧ t.rdN (WCH_SVC_CNT x) = min 0xFFFFFFFF (s.rdN (WCH_SVC_CNT x) + 1)
      ∧ (∃ r, t.bus = { s.bus with recs := s.bus.recs ++ [r] } ∧ r.words.getD 0 0 % 2 ^ 16 = E_WCH_SVC_ABORTED)
      ∧ s.keeps t [WCH_CTL x, WCH_CSTS x, WCH_SVC_CNT x, WCH_HOLD] := by
  have hon : s.wst x ≠ wOFF ∧ s.wst x ≠ wIDLE := by rcases hrun with h | h <;> rw [h] <;> decide
  obtain ⟨hctl, hcsts, hhold⟩ : WCH_SVC_CNT x ≠ WCH_CTL x ∧ WCH_SVC_CNT x ≠ WCH_CSTS x ∧ WCH_SVC_CNT x ≠ WCH_HOLD := by
    simpa using wchSvcCnt_not_mem x
  obtain ⟨hctlhold, hcstshold⟩ : WCH_CTL x ≠ WCH_HOLD ∧ WCH_CSTS x ≠ WCH_HOLD := by unfold WCH_CTL WCH_CSTS WCH_HOLD; omega
  obtain ⟨c, hc⟩ : ∃ c, c = s.setF (WCH_CTL x) WCH_CTL_RUN 0 := ⟨_, rfl⟩
  obtain ⟨u, hu⟩ : ∃ u, u = svcFinish x v.words E_WCH_SVC_ABORTED 0 0 [] c := ⟨_, rfl⟩
  have hcleared : runCleared x s = u := by
    rw [runCleared, ← hc, hu]
    exact svcEnd_of_some (by rw [hc, core_setF, hsvc]) hcode _
  have hck : s.keeps c [WCH_CTL x] := hc ▸ (onlyRegs_setF ..).2
  have huk : c.keeps u [WCH_SVC_CNT x, WCH_HOLD] := hu ▸ svcFinish_keeps _ _ _ _ _
  have hcore : (u.core x).svc = none := by rw [hu, core_svcFinish]
  have hbus : ∃ time, u.bus = { s.bus with recs := s.bus.recs ++ [completionRec x v.words E_WCH_SVC_ABORTED 0 0 time []] } := by
    rw [hu, show s.bus = c.bus from hc ▸ rfl]
    exact bus_svcFinish ..
  obtain ⟨hstop, hstopsvc, hstopbus⟩ := wStopped_keeps (u.setCore x { u.core x with stopping := true }) x
  have hstopped : u.keeps (wStopped x (u.setCore x { u.core x with stopping := true })) [WCH_CSTS x] :=
    keeps_trans (keeps_of_regs (keeps_rfl u []) rfl) hstop (by simp) (by simp)
  refine ⟨_, next_hostWr hopen ((wRunStop_of_on hon.1 hon.2).trans (by rw [hcleared])), ?_, ?_, ?_, ?_,
    keeps_trans (keeps_trans hck huk (List.subset_append_left ..) (List.subset_append_right ..)) hstopped (by simp) (by simp)⟩
  · refine congrArg (· == 1) ((fld_of_keeps hstopped (by simp) _).trans ((fld_of_keeps huk (by simp [hctl.symm, hctlhold]) _).trans ?_) : _ = 0)
    rw [hc]
    exact fld_setF _ _ WCH_CTL_RUN _ (by decide)
  · rw [hstopsvc, core_setCore_same, hcore]
  · rw [rdN_of_keeps hstopped (by simp [hcsts]), hu, svcCnt_svcFinish, rdN_of_keeps hck (by simp [hctl])]
  · obtain ⟨time, htime⟩ := hbus
    refine ⟨_, hstopbus.trans htime, ?_⟩
    simp only [completionRec, List.cons_append, List.getD_cons_zero]
    have hmod : E_WCH_SVC_ABORTED % 2 ^ 16 = E_WCH_SVC_ABORTED := by decide
    rw [hmod]
    have hlt : E_WCH_SVC_ABORTED < 2 ^ 16 := by decide
    omega

/-! ### HALT, MODE and the doorbell -/

theorem haltSet_spec (hopen : s.opens (WCH_CTL x)) : ∃ t, exec (.wchHaltSet x) s = .next t ∧ t.flag (WCH_CTL x) WCH_CTL_HALT = true
      ∧ t.wst x = (if s.wst x = wRUN ∨ s.wst x = wWAIT then wHALTED else s.wst x) ∧ s.onlyRegs t [WCH_CTL x, WCH_CSTS x] := by
  have hset : (s.setF (WCH_CTL x) WCH_CTL_HALT 1).flag (WCH_CTL x) WCH_CTL_HALT = true :=
    congrArg (· == 1) (fld_setF _ _ WCH_CTL_HALT _ (by decide))
  have honly : s.onlyRegs (s.setF (WCH_CTL x) WCH_CTL_HALT 1) [WCH_CTL x, WCH_CSTS x] := onlyRegs_andWr (onlyRegs_rfl _ _) (by simp)
  refine ⟨_, next_hostWr hopen rfl, ?_⟩
  unfold wHaltSet
  dsimp only
  rw [wst_setCtl]
  by_cases h : s.wst x = wRUN ∨ s.wst x = wWAIT
  · rw [if_pos h, if_pos h]
    exact ⟨(ctl_setWst ..).trans hset, wst_setWst _ _ (by decide), onlyRegs_andWr honly (by simp)⟩
  · rw [if_neg h, if_neg h]
    exact ⟨hset, wst_setCtl .., honly⟩

theorem haltClear_spec (hopen : s.opens (WCH_CTL x)) : ∃ t, exec (.wchHaltClear x) s = .next t ∧ t.flag (WCH_CTL x) WCH_CTL_HALT = false
      ∧ t.wst x = (if s.wst x = wHALTED then wRUN else s.wst x) ∧ s.onlyRegs t [WCH_CTL x, WCH_CSTS x] := by
  have hset : (s.setF (WCH_CTL x) WCH_CTL_HALT 0).flag (WCH_CTL x) WCH_CTL_HALT = false :=
    congrArg (· == 1) (fld_setF _ _ WCH_CTL_HALT _ (by decide))
  have honly : s.onlyRegs (s.setF (WCH_CTL x) WCH_CTL_HALT 0) [WCH_CTL x, WCH_CSTS x] := onlyRegs_andWr (onlyRegs_rfl _ _) (by simp)
  refine ⟨_, next_hostWr hopen rfl, ?_⟩
  unfold wHaltClear
  dsimp only
  rw [wst_setCtl]
  by_cases h : s.wst x = wHALTED
  · rw [if_pos h, if_pos h]
    exact ⟨(ctl_setWst ..).trans hset, wst_setWst _ _ (by decide), onlyRegs_andWr honly (by simp)⟩
  · rw [if_neg h, if_neg h]
    exact ⟨hset, wst_setCtl .., honly⟩

theorem modeWrite_spec {m : Nat} (hopen : s.opens (WCH_CTL x)) (hidle : s.wst x = wIDLE) (hm : m < 2) : ∃ t, exec (.wchModeWrite x m) s = .next t
      ∧ t.fld (WCH_CTL x) WCH_CTL_MODE = m ∧ t.fld (WCH_CSTS x) WCH_CSTS_STATUS = 0 ∧ s.onlyRegs t [WCH_CTL x, WCH_CSTS x] :=
  ⟨_, next_hostWr hopen (if_neg (not_not_intro hidle)),
    (fld_status_ne _ _ _ (wchCtl_ne_csts x)).trans ((fld_setF _ _ WCH_CTL_MODE _ (by decide)).trans (Nat.mod_eq_of_lt hm)),
    fld_status .., onlyRegs_andWr (onlyRegs_andWr (onlyRegs_rfl _ _) (by simp)) (by simp)⟩

theorem wPend_setWst (s : State) (x v : Nat) : (s.setWst x v).wPend x = s.wPend x := by
  have hien : WCH_IEN x ≠ WCH_CSTS x := by unfold WCH_IEN WCH_CSTS; omega
  rw [State.wPend, State.wPend, State.setWst, rdN_setF_ne _ _ _ _ _ (wchCsts_ne_ipend x).symm, rdN_setF_ne _ _ _ _ _ hien]

/-- A waiting core goes on where an enabled interrupt is pending; nothing but CSTS changes. -/
theorem wWake_spec (u : State) (x : Nat) : (wWake x u).wst x = (if u.wst x = wWAIT ∧ (wWake x u).wPend x = true then wRUN else u.wst x)
    ∧ u.onlyRegs (wWake x u) [WCH_CSTS x] := by
  unfold wWake
  by_cases h : u.wst x = wWAIT ∧ u.wPend x = true
  · rw [if_pos h, wPend_setWst, if_pos h]
    exact ⟨wst_setWst _ _ (by decide), onlyRegs_setF ..⟩
  · rw [if_neg h, if_neg h]
    exact ⟨rfl, onlyRegs_rfl ..⟩

/-- A bit of IPEND set. -/
theorem wSetPend_spec (s : State) (x : Nat) {i : Nat} (hi : i < 64) : (wSetPend x (i, 1) s).flag (WCH_IPEND x) (i, 1) = true
    ∧ (wSetPend x (i, 1) s).wst x = (if s.wst x = wWAIT ∧ (wSetPend x (i, 1) s).wPend x = true then wRUN else s.wst x)
    ∧ s.onlyRegs (wSetPend x (i, 1) s) [WCH_IPEND x, WCH_CSTS x] := by
  obtain ⟨hwst, honly⟩ := wWake_spec (s.setF (WCH_IPEND x) (i, 1) 1) x
  have hkeep : (s.setF (WCH_IPEND x) (i, 1) 1).wst x = s.wst x := fld_setF_ne _ _ _ _ _ _ (wchCsts_ne_ipend x)
  refine ⟨?_, hkeep ▸ hwst, onlyRegs_trans (onlyRegs_setF ..) honly (by simp) (by simp)⟩
  exact (congrArg (· == 1) (fld_of_onlyRegs honly (by simp [(wchCsts_ne_ipend x).symm]) _)).trans (flag_setF_same _ _ _ _ hi (by decide))

/-! ### Interrupts (R387) -/

/-- An interrupt taken: PC and LA saved, LA and IE cleared. -/
def interrupted (x : Nat) (s : State) : State :=
  let u := (s.setWSpr x 0x1B (s.wPC x)).setWSpr x 0x1C (2 * b01 ((s.setWSpr x 0x1B (s.wPC x)).wLA x))
  (u.setWLA x false).setWPC x (u.fld (WCH_IVEC x) WCH_IVEC_PC)

theorem wSpr_setWPC_setWLA (u : State) (x n : Nat) (b : Bool) {k : Nat} (hk : k ≠ 0x1D) : ((u.setWLA x b).setWPC x n).wSpr x k = u.wSpr x k := by
  have honly : u.onlyRegs ((u.setWLA x b).setWPC x n) [WCH_CSTS x, WCH_PC x] :=
    onlyRegs_andWr (onlyRegs_andWr (onlyRegs_rfl _ _) (by simp)) (by simp)
  exact wSpr_of_keeps honly.2 hk (by simp [(wchPc_ne_reg x _).symm, (wchCsts_ne_reg x _).symm])

theorem wInterrupt_of_pending (hrun : s.wst x = wRUN) (hstop : (s.core x).stopping = false) (hmode : s.flag (WCH_CTL x) WCH_CTL_MODE = true)
    (hclk : s.fld WCH_STS WCH_STS_CLK ≠ 2) (hie : s.wIE x = true) (hpend : s.wPend x = true) : wInterrupt x s = interrupted x s :=
  if_pos ⟨hrun, by simp [hstop], hmode, hclk, hie, hpend⟩

theorem interrupted_spec (hrun : s.wst x = wRUN) : (interrupted x s).wSpr x 0x1B = s.wPC x
      ∧ (interrupted x s).wSpr x 0x1C = 2 * b01 (s.wLA x) ∧ (interrupted x s).wIE x = false
      ∧ (interrupted x s).wLA x = false ∧ (interrupted x s).wPC x = s.fld (WCH_IVEC x) WCH_IVEC_PC ∧ (interrupted x s).wst x = wRUN
      ∧ s.onlyRegs (interrupted x s) [WCH_REG x 51, WCH_REG x 52, WCH_CSTS x, WCH_PC x] := by
  have hivec : WCH_IVEC x ∉ [WCH_REG x 51, WCH_REG x 52, WCH_CSTS x] := by unfold WCH_IVEC WCH_REG WCH_CSTS; simp; omega
  obtain ⟨p, hp⟩ : ∃ p, p = s.setWSpr x 0x1B (s.wPC x) := ⟨_, rfl⟩
  obtain ⟨u, hu⟩ : ∃ u, u = p.setWSpr x 0x1C (2 * b01 (p.wLA x)) := ⟨_, rfl⟩
  have hpk : s.onlyRegs p [WCH_REG x 51] := hp ▸ onlyRegs_setWSpr _ _ _ (by decide)
  have huk : p.onlyRegs u [WCH_REG x 52] := hu ▸ onlyRegs_setWSpr _ _ _ (by decide)
  have hcore : s.onlyRegs u [WCH_REG x 51, WCH_REG x 52, WCH_CSTS x] := onlyRegs_trans hpk huk (by simp) (by simp)
  have hla : p.wLA x = s.wLA x := wLA_congr (fld_of_onlyRegs hpk (by simp) _)
  have hi : interrupted x s = (u.setWLA x false).setWPC x (u.fld (WCH_IVEC x) WCH_IVEC_PC) := by rw [hu, hp]; rfl
  have hstat : u.wSpr x 0x1C = 2 * b01 (s.wLA x) := by
    rw [hu, wSpr_setWSpr _ _ (by decide), hla]
    exact Nat.mod_eq_of_lt (by cases s.wLA x <;> decide)
  rw [hi]
  refine ⟨?_, (wSpr_setWPC_setWLA _ _ _ _ (by decide)).trans hstat, ?_, (wLA_setWPC ..).trans (wLA_setWLA _ _ false), ?_, ?_,
    onlyRegs_andWr (onlyRegs_andWr (onlyRegs_trans hcore (onlyRegs_rfl _ []) (by simp) (by simp)) (by simp)) (by simp)⟩
  · rw [wSpr_setWPC_setWLA _ _ _ _ (by decide), wSpr_of_keeps huk.2 (by decide) (by simp), hp, wSpr_setWSpr _ _ (by decide)]
    exact Nat.mod_eq_of_lt (wPC_lt s x)
  · rw [State.wIE, wSpr_setWPC_setWLA _ _ _ _ (by decide), hstat]
    cases s.wLA x <;> rfl
  · rw [wPC_setWPC]
    refine (Nat.mod_eq_of_lt (getF_lt _ WCH_IVEC_PC (by decide))).trans ?_
    exact fld_of_onlyRegs hcore hivec _
  · refine (fld_setF_ne _ _ _ _ _ _ (wchPc_ne_csts x).symm).trans ((csts_setWLA _ _ _ (by decide) (by decide)).trans ?_)
    rw [← hrun]
    exact (fld_of_onlyRegs huk (by simp) _).trans (fld_of_onlyRegs hpk (by simp) _)

theorem waiti_spec {w : Nat} (h : s.wGoes x 0x15 w) : ∃ t, exec (.waiti x) s = .next t ∧ t.wPC x = (s.wPC x + 1) % 2 ^ 17
      ∧ t.wst x = (if s.wPend x = true then s.wst x else wWAIT) ∧ s.onlyRegs t [WCH_PC x, WCH_CSTS x] := by
  have hien : WCH_IEN x ≠ WCH_PC x := by unfold WCH_IEN WCH_PC; omega
  have hpend : (s.setWPC x (s.wPC x + 1)).wPend x = s.wPend x := by
    rw [State.wPend, State.wPend, State.setWPC, rdN_setF_ne _ _ _ _ _ (wchPc_ne_ipend x).symm, rdN_setF_ne _ _ _ _ _ hien]
  have honly : s.onlyRegs (s.setWPC x (s.wPC x + 1)) [WCH_PC x, WCH_CSTS x] := onlyRegs_andWr (onlyRegs_rfl _ _) (by simp)
  refine ⟨_, congrArg Host.Outcome.next (wExec_of_goes h _), ?_⟩
  dsimp only
  rw [hpend]
  by_cases hp : s.wPend x = true
  · rw [if_pos hp, if_pos hp]
    exact ⟨wPC_setWPC .., fld_setF_ne _ _ _ _ _ _ (wchPc_ne_csts x).symm, honly⟩
  · rw [if_neg hp, if_neg hp]
    exact ⟨(fld_setF_ne _ _ _ _ _ _ (wchPc_ne_csts x)).trans (wPC_setWPC ..), wst_setWst _ _ (by decide), onlyRegs_andWr honly (by simp)⟩

theorem reti_spec {w : Nat} (h : s.wGoes x 0x16 w) : ∃ t, exec (.reti x) s = .next t ∧ t.wPC x = s.wSpr x 0x1B % 2 ^ 17
      ∧ t.wLA x = bit (s.wSpr x 0x1C) 1 ∧ t.wIE x = true ∧ t.wst x = s.wst x ∧ s.onlyRegs t [WCH_PC x, WCH_CSTS x, WCH_REG x 52] := by
  have honly : s.onlyRegs ((s.setWPC x (s.wSpr x 0x1B)).setWLA x (bit (s.wSpr x 0x1C) 1)) [WCH_PC x, WCH_CSTS x] :=
    onlyRegs_andWr (onlyRegs_andWr (onlyRegs_rfl _ _) (by simp)) (by simp)
  have hspr := onlyRegs_setWSpr ((s.setWPC x (s.wSpr x 0x1B)).setWLA x (bit (s.wSpr x 0x1C) 1)) x (s.wSpr x 0x1C ||| 1) (k := 0x1C) (by decide)
  refine ⟨_, congrArg Host.Outcome.next (wExec_of_goes h _), ?_, ?_, ?_, ?_, onlyRegs_trans honly hspr (by simp) (by simp)⟩
  · exact (fld_of_onlyRegs hspr (by simp) _).trans ((fld_setF_ne _ _ _ _ _ _ (wchPc_ne_csts x)).trans (wPC_setWPC ..))
  · exact (wLA_setWSpr _ _ _ (by decide)).trans (wLA_setWLA ..)
  · have hodd : (s.wSpr x 0x1C ||| 1) % 2 ^ sprWidth 0x1C % 2 = 1 := by
      rw [Nat.mod_mod_of_dvd _ (by decide), Nat.or_mod_two_eq_one]
      exact .inr rfl
    exact congrArg (· == 1) ((congrArg (· % 2) (wSpr_setWSpr _ x (by decide : 0x1C ≠ 0x1D) _)).trans hodd)
  · exact (fld_of_onlyRegs hspr (by simp) _).trans ((csts_setWLA _ _ _ (by decide) (by decide)).trans
      (fld_setF_ne _ _ _ _ _ _ (wchPc_ne_csts x).symm))

theorem halt_spec {w : Nat} (h : s.wGoes x 0x17 w) : ∃ t, exec (.halt x) s = .next t ∧ t.wPC x = (s.wPC x + 1) % 2 ^ 17 ∧ t.wst x = wHALTED
      ∧ s.onlyRegs t [WCH_PC x, WCH_CSTS x] :=
  ⟨_, congrArg Host.Outcome.next (wExec_of_goes h _), (fld_setF_ne _ _ _ _ _ _ (wchPc_ne_csts x)).trans (wPC_setWPC ..),
    wst_setWst _ _ (by decide), onlyRegs_andWr (onlyRegs_andWr (onlyRegs_rfl _ _) (by simp)) (by simp)⟩

end

/-- Settles O34: what a core's control register, its doorbell and its interrupts do. -/
theorem winchCoresStartStopAndTakeInterrupts : Obligations.WinchCoresStartStopAndTakeInterrupts := by
  refine ⟨fun s x _ hopen hidle hdev hshared => ⟨_, next_hostWr hopen (wRunStart_of_idle hidle hdev hshared), started_spec⟩,
    fun s x _ hopen h => ⟨_, next_hostWr hopen (wRunStart_of_refused h), fld_status .., onlyRegs_status ..⟩,
    fun s x _ hopen hoff hidle hsvc hx => runStop_idle_spec hopen hoff hidle hsvc hx,
    fun s x _ hopen hrun hsvc hx => runStop_waits_spec hopen hrun hsvc hx,
    fun s x v _ hopen hrun hsvc hcode => runStop_service_spec hopen hrun hsvc hcode,
    fun s x hopen => haltSet_spec hopen, fun s x hopen => haltClear_spec hopen, fun s x m hopen hidle hm => modeWrite_spec hopen hidle hm,
    fun s x m hopen h => ⟨_, next_hostWr hopen (if_pos h), fld_status .., onlyRegs_status ..⟩,
    fun s x hopen => ⟨_, next_hostWr hopen rfl, wSetPend_spec s x (by decide)⟩,
    fun s x hrun hstop hmode hclk hie hpend _ => ⟨interrupted x s, congrArg Host.Outcome.next (wInterrupt_of_pending hrun hstop hmode hclk hie hpend),
      interrupted_spec hrun⟩,
    fun s x h => congrArg Host.Outcome.next (if_neg fun hc => ?_),
    fun s x w h => waiti_spec h, fun s x w h => reti_spec h, fun s x w h => halt_spec h⟩
  obtain ⟨_, _, _, _, hie, hpend⟩ := hc
  rcases h with h | h
  · simp [h] at hie
  · simp [h] at hpend

end Sys2Proof.Laws
end

section
namespace Sys2Proof.Laws
open Sys2Proof.Machine

-- One theorem after another: a thread for each of them passes the memory limit of the check.
set_option Elab.async false

/-! ### EMIT and FENCE (R389, R392) -/

section
variable {s u t : State} {x w n a : Nat}

/-- A retiring instruction with no other effect has moved on. -/
theorem moved_wRetire (x : Nat) (s : State) : s.wMoved (wRetire x s) x [] :=
  (retired_wRetire x s).moved_of_keeps (keeps_rfl s []) (by simp) (by simp) (by simp)

theorem frame_wRetire (x : Nat) (s : State) : { wRetire x s with regs := s.regs } = s := (retired_wRetire x s).only.1

/-- A step that writes only IPEND and the upper half of CSTS behind a retired instruction. -/
theorem wMoved_andPend {as : List Nat} (h : s.wMoved u x as) (hk : u.keeps t [WCH_IPEND x, WCH_CSTS x])
    (hla : t.wLA x = u.wLA x) (hst : t.wst x = u.wst x) : s.wMoved t x (WCH_IPEND x :: as) := by
  obtain ⟨hpc, hla', hlc, hwst, hkeep⟩ := h
  refine ⟨(fld_of_keeps hk (by simp) _).trans hpc, hla.trans hla', ?_, hst.trans hwst, keeps_trans hkeep hk ?_ (by simp)⟩
  · exact (wSpr_of_keeps hk (by decide) (by simp [(wchIpend_ne_reg x _).symm, (wchCsts_ne_reg x _).symm])).trans hlc
  · intro b
    simp only [List.mem_cons]
    tauto

/-- A running or stepped core is not waiting. -/
theorem wst_ne_wait_of_goes {op : Nat} (h : s.wGoes x op w) : s.wst x ≠ wWAIT := by
  obtain ⟨_, _, hready, _⟩ := h
  simp only [State.wReady, Bool.and_eq_true] at hready
  have hst := hready.1.1.1.2
  split at hst
  · rw [beq_iff_eq.mp hst]
    decide
  · simp only [Bool.and_eq_true, beq_iff_eq] at hst
    rw [hst.1]
    decide

theorem lt_of_goes {op : Nat} (h : s.wGoes x op w) : x < 8 := by
  obtain ⟨_, _, hready, _⟩ := h
  simp only [State.wReady, Bool.and_eq_true, decide_eq_true_eq] at hready
  exact hready.1.1.1.1.1

/-- A refused EMIT (R389): EMIT_REF and the status, behind the retired instruction. -/
theorem emitRef_spec {op : Nat} (h : s.wGoes x op w) {code : Nat} (hcode : code < 2 ^ 16) :
    s.wMoved (wEmitRef x code (wRetire x s)) x [WCH_IPEND x]
      ∧ (wEmitRef x code (wRetire x s)).flag (WCH_IPEND x) WCH_IPEND_EMIT_REF = true
      ∧ (wEmitRef x code (wRetire x s)).fld (WCH_CSTS x) WCH_CSTS_STATUS = code
      ∧ { wEmitRef x code (wRetire x s) with regs := s.regs } = s := by
  have hmoved := moved_wRetire x s
  obtain ⟨u, hu⟩ : ∃ u, u = (wRetire x s).status (WCH_CSTS x) code := ⟨_, rfl⟩
  have honly : (wRetire x s).onlyRegs u [WCH_CSTS x] := hu ▸ onlyRegs_status ..
  have hst : u.wst x = s.wst x := by
    rw [hu]
    exact (csts_status _ _ _ (by decide)).trans hmoved.2.2.2.1
  have hla : u.wLA x = (wRetire x s).wLA x := hu ▸ wLA_congr (csts_status _ _ _ (by decide))
  obtain ⟨hflag, hwst, hpend⟩ := wSetPend_spec u x (i := 2) (by decide)
  have hwake : wSetPend x WCH_IPEND_EMIT_REF u = u.setF (WCH_IPEND x) WCH_IPEND_EMIT_REF 1 := by
    refine if_neg fun hc => ?_
    have hkeep : (u.setF (WCH_IPEND x) WCH_IPEND_EMIT_REF 1).wst x = u.wst x := fld_setF_ne _ _ _ _ _ _ (wchCsts_ne_ipend x)
    rw [hkeep, hst] at hc
    exact wst_ne_wait_of_goes h hc.1
  have ht : wEmitRef x code (wRetire x s) = u.setF (WCH_IPEND x) WCH_IPEND_EMIT_REF 1 := by rw [wEmitRef, ← hu, hwake]
  have hcsts (f : Fld) : (u.setF (WCH_IPEND x) WCH_IPEND_EMIT_REF 1).fld (WCH_CSTS x) f = u.fld (WCH_CSTS x) f :=
    fld_setF_ne _ _ _ _ _ _ (wchCsts_ne_ipend x)
  have hall : (wRetire x s).onlyRegs (u.setF (WCH_IPEND x) WCH_IPEND_EMIT_REF 1) [WCH_IPEND x, WCH_CSTS x] :=
    onlyRegs_andWr (onlyRegs_trans honly (onlyRegs_rfl _ []) (by simp) (by simp)) (by simp)
  rw [ht]
  refine ⟨wMoved_andPend hmoved hall.2 ((wLA_congr (hcsts _)).trans hla) ?_, hwake ▸ hflag, (hcsts _).trans ?_, ?_⟩
  · exact (hcsts _).trans (hst.trans hmoved.2.2.2.1.symm)
  · rw [hu]
    exact fld_status_of_lt _ _ hcode
  · exact (congrArg (fun v : State => { v with regs := s.regs }) hall.1 :).trans (frame_wRetire x s)

theorem tb1Run_wRetire (x : Nat) (s : State) : (wRetire x s).tb1Run = s.tb1Run := by
  refine congrArg (· == tbRUNNING) (fld_of_onlyRegs (retired_wRetire x s).only ?_ STAY_STS_TB1STATE)
  unfold STAY_STS WCH_PC WCH_CSTS WCH_REG
  simp
  omega

theorem clock_wRetire (x : Nat) (s : State) : (wRetire x s).clock = s.clock := (congrArg State.clock (frame_wRetire x s) :)
theorem img_wRetire (x : Nat) (s : State) : (wRetire x s).img = s.img := (congrArg State.img (frame_wRetire x s) :)
theorem wch_wRetire (x : Nat) (s : State) : (wRetire x s).wch = s.wch := (congrArg State.wch (frame_wRetire x s) :)

theorem tb1_wRetire (x : Nat) (s : State) : (wRetire x s).tb1 = s.tb1 := by
  rw [State.tb1, State.tb1, tb1Run_wRetire, clock_wRetire]

/-- The item of an EMIT of header `h` and value `v`. -/
def emitItem (x rel h v : Nat) : Item :=
  ⟨rel, islWinch, (bits h 25 0 - 0x1000000) / 0x40000, .ctrl, .emit (bits h 25 0) (BitVec.ofNat 64 (if bit h 28 then v % w48 else v % 2 ^ 32)) (bit h 28) x⟩

/-- What EMIT does at its address (R389). -/
def emitAt (x w a : Nat) (s : State) : State :=
  let h := s.wWord x a
  let rel := emitRel s.tb1 (s.wD x (bits w 25 22)) (bit w 21)
  if ¬ (wRetire x s).tb1Run then wEmitRef x E_GLB_TB1_STOPPED (wRetire x s)
  else if rel < (wRetire x s).tb1 + 40 * ft then wEmitRef x E_GLB_LEAD_SHORT (wRetire x s)
  else if ¬ (wRetire x s).wMayPage x (bits h 25 0) then
    wEmitRef x E_IMG_RES_BUSY ((wRetire x s).deny 0x03 ((bits h 25 0 - 0x1000000) / 0x40000) 3 (((wRetire x s).wPart x).getD 0))
  else (wRetire x s).send (emitItem x rel h (s.wWord x (a + 1)))

theorem exec_emit (h : s.wGoes x 0x12 w) (hroom : s.wItems x < 16) (hn : n = bits w 20 18) (hp : s.wPoints x n a) (ha : a < 65535) :
    exec (.emit x) s = .next (emitAt x w a s) := by
  subst hn
  exact congrArg Host.Outcome.next ((wExec_of_goes h _).trans ((if_neg (Nat.not_le.mpr hroom)).trans
    ((wAccess_of_points hp _).trans (if_neg (Nat.not_le.mpr ha)))))

theorem emitAt_of_stopped (hrun : s.tb1Run = false) : emitAt x w a s = wEmitRef x E_GLB_TB1_STOPPED (wRetire x s) :=
  if_pos (by simp [tb1Run_wRetire, hrun])

theorem emitAt_of_short (hrun : s.tb1Run = true) (hlead : emitRel s.tb1 (s.wD x (bits w 25 22)) (bit w 21) < s.tb1 + 640) :
    emitAt x w a s = wEmitRef x E_GLB_LEAD_SHORT (wRetire x s) :=
  (if_neg (by simp [tb1Run_wRetire, hrun])).trans (if_pos (by rw [tb1_wRetire]; exact hlead))

theorem emitAt_of_timely (hrun : s.tb1Run = true) (hlead : s.tb1 + 640 ≤ emitRel s.tb1 (s.wD x (bits w 25 22)) (bit w 21))
    (hpage : s.wMayPage x (bits (s.wWord x a) 25 0) = true) :
    emitAt x w a s = (wRetire x s).send (emitItem x (emitRel s.tb1 (s.wD x (bits w 25 22)) (bit w 21)) (s.wWord x a) (s.wWord x (a + 1))) := by
  have hmay : (wRetire x s).wMayPage x (bits (s.wWord x a) 25 0) = s.wMayPage x (bits (s.wWord x a) 25 0) := by
    simp only [State.wMayPage, State.comp, State.wPart, State.allotOf, State.partOf, img_wRetire]
  refine (if_neg (by simp [tb1Run_wRetire, hrun])).trans ((if_neg ?_).trans (if_neg (by simp [hmay, hpage])))
  rw [tb1_wRetire]
  exact Nat.not_lt.mpr hlead

theorem emit_sent (h : s.wGoes x 0x12 w) (hroom : s.wItems x < 16) (hn : n = bits w 20 18) (hp : s.wPoints x n a) (ha : a < 65535)
    (hrun : s.tb1Run = true) {rel off : Nat} (hrel : rel = emitRel s.tb1 (s.wD x (bits w 25 22)) (bit w 21)) (hlead : s.tb1 + 640 ≤ rel)
    (hoff : off = bits (s.wWord x a) 25 0) (hpage : s.wMayPage x off = true) : ∃ t, exec (.emit x) s = .next t ∧ s.wMoved t x []
      ∧ t.bus = { s.bus with transit := s.bus.transit ++ [⟨rel, islWinch, (off - 0x1000000) / 0x40000, .ctrl, .emit off (BitVec.ofNat 64 (if bit (s.wWord x a) 28 = true then s.wWord x (a + 1) % w48 else s.wWord x (a + 1) % 2 ^ 32)) (bit (s.wWord x a) 28) x⟩] }
      ∧ { t with regs := s.regs, bus := s.bus } = s := by
  subst hrel hoff
  obtain ⟨i, hi⟩ : ∃ i, i = emitItem x (emitRel s.tb1 (s.wD x (bits w 25 22)) (bit w 21)) (s.wWord x a) (s.wWord x (a + 1)) := ⟨_, rfl⟩
  have hexec := (exec_emit h hroom hn hp ha).trans (congrArg Host.Outcome.next (emitAt_of_timely hrun hlead hpage))
  rw [← hi] at hexec
  have hbus : (wRetire x s).bus = s.bus := (congrArg State.bus (frame_wRetire x s) :)
  refine ⟨_, hexec, moved_wRetire x s, ?_, ?_⟩
  · exact (congrArg (fun b : Bus => { b with transit := b.transit ++ [i] }) hbus).trans (by rw [hi])
  · exact (congrArg (fun v : State => { v with bus := s.bus }) (frame_wRetire x s) :)

theorem fence_passes (h : s.wGoes x 0x14 w) (hx : (s.core x).xfers = []) (hi : s.wItems x = 0) :
    ∃ t, exec (.wchFence x) s = .next t ∧ s.wMoved t x [] ∧ { t with regs := s.regs } = s :=
  ⟨_, congrArg Host.Outcome.next ((wExec_of_goes h _).trans (if_pos ⟨hx, hi⟩)), moved_wRetire x s, frame_wRetire x s⟩

/-! ### Transfers (R391, Table 12-3) -/

/-- The descriptor of a transfer at address `a` of local memory, unchecked. -/
def xferAt (x a : Nat) (s : State) : Xfer :=
  let d := 524288 * x + 8 * a
  ⟨8 * a, ldBytes s.wch.mem d 1, ldBytes s.wch.mem (d + 1) 1, ldBytes s.wch.mem (d + 4) 4, ldBytes s.wch.mem (d + 8) 8,
    ldBytes s.wch.mem (d + 0x10) 4, 0⟩

/-- The code of its check. -/
def xferCode (x a : Nat) (s : State) : Nat :=
  let d := 524288 * x + 8 * a
  s.xferCheck x (xferAt x a s) (ldBytes s.wch.mem (d + 2) 2 != 0 || ldBytes s.wch.mem (d + 0x18) 8 != 0)

/-- The refused region noted. -/
def xferDenied (x a : Nat) (s : State) : State :=
  s.denyIf (xferCode x a s) (xferAt x a s).insts.1
    (firstNot (xferAt x a s).insts.2 fun i => (s.wPart x).any fun p => s.partHas p (xferAt x a s).insts.1 i) 3 ((s.wPart x).getD 0)

/-- The transfer queued. -/
def xferQueued (x a : Nat) (s : State) : State :=
  (wRetire x (xferDenied x a s)).setCore x { (wRetire x (xferDenied x a s)).core x with
    xfers := ((wRetire x (xferDenied x a s)).core x).xfers ++ [{ xferAt x a s with code := xferCode x a s }] }

theorem exec_xfer (h : s.wGoes x 0x13 w) (hn : n = bits w 25 23) (hp : s.wPoints x n a) (ha : a < 65533) :
    exec (.xfer x) s = .next (xferQueued x a s) := by
  subst hn
  exact congrArg Host.Outcome.next ((wExec_of_goes h _).trans ((wAccess_of_points hp _).trans (if_neg (Nat.not_le.mpr ha))))

theorem xfer_spec {d : Nat} (h : s.wGoes x 0x13 w) (hn : n = bits w 25 23) (hp : s.wPoints x n a) (ha : a < 65533) (hd : d = 524288 * x + 8 * a) :
    ∃ t, exec (.xfer x) s = .next t ∧ s.wMoved t x [IMG_DENY, IMG_DENY_CNT]
      ∧ (∃ q : Xfer, (t.core x).xfers = (s.core x).xfers ++ [q] ∧ q.desc = 8 * a ∧ q.kind = ldBytes s.wch.mem d 1 ∧ q.st = ldBytes s.wch.mem (d + 1) 1
          ∧ q.loc = ldBytes s.wch.mem (d + 4) 4 ∧ q.rem = ldBytes s.wch.mem (d + 8) 8 ∧ q.len = ldBytes s.wch.mem (d + 0x10) 4
          ∧ q.code = s.xferCheck x { q with code := 0 } (ldBytes s.wch.mem (d + 2) 2 != 0 || ldBytes s.wch.mem (d + 0x18) 8 != 0))
      ∧ t.wch.mem = s.wch.mem ∧ { t with regs := s.regs, wch := s.wch } = s := by
  subst hd
  obtain ⟨u, hu⟩ : ∃ u, u = xferDenied x a s := ⟨_, rfl⟩
  have hdeny : s.onlyRegs u [IMG_DENY, IMG_DENY_CNT] := hu ▸ onlyRegs_denyIf ..
  have hx : x < 8 := lt_of_goes h
  have hnot {k : Nat} (hk : k < 0xE00000) : k ∉ [IMG_DENY, IMG_DENY_CNT] := by simp [IMG_DENY, IMG_DENY_CNT]; omega
  have hret := retired_wRetire x u
  have hmoved := hret.moved_of_keeps hdeny.2 (hnot (by unfold WCH_CSTS; omega)) (hnot (by unfold WCH_PC; omega))
    (fun k hk => hnot (by simp at hk; unfold WCH_REG; omega))
  have hwch : (wRetire x u).wch = s.wch := (wch_wRetire x u).trans (wch_of_onlyRegs hdeny)
  have hcore : (wRetire x u).core x = s.core x := congrArg (fun v : Wch => tget v.cores x) hwch
  obtain ⟨t, ht⟩ : ∃ t, t = (wRetire x u).setCore x { (wRetire x u).core x with
    xfers := ((wRetire x u).core x).xfers ++ [{ xferAt x a s with code := xferCode x a s }] } := ⟨_, rfl⟩
  have hexec : exec (.xfer x) s = .next t := by
    rw [ht, hu]
    exact exec_xfer h hn hp ha
  refine ⟨t, hexec, ?_, ⟨{ xferAt x a s with code := xferCode x a s }, ?_, rfl, rfl, rfl, rfl, rfl, rfl, rfl⟩, ?_, ?_⟩
  · rw [ht]
    exact hmoved
  · rw [ht, core_setCore_same, hcore]
  · rw [ht]
    exact (congrArg Wch.mem hwch :)
  · rw [ht]
    exact (congrArg (fun v : State => { v with wch := s.wch }) (hret.regs_only hdeny.1) :)

/-- The status word of a completed transfer written, the transfer gone (R391). -/
def xferPosted (x i : Nat) (q : Xfer) (s : State) : State :=
  let u : State := { s with wch := { s.wch with mem := stBytes s.wch.mem (524288 * x + q.desc + 0x14) 4 (q.code % 2 ^ 16 * 2 ^ 16 + 1) } }
  u.setCore x { u.core x with xfers := (u.core x).xfers.eraseIdx i }

def xferEnded (x i : Nat) (q : Xfer) (s : State) : State := wSetPend x WCH_IPEND_XFER_DONE (xferPosted x i q s)

theorem xferComplete_of_some {i : Nat} {q : Xfer} (h : (s.core x).xfers[i]? = some q) (hclk : s.fld WCH_STS WCH_STS_CLK ≠ 2) :
    xferComplete x i s = wStopped x (xferEnded x i q (if q.code = 0 then xferMove x q s else s)) := by
  unfold xferComplete
  rw [h]
  exact if_neg hclk

section
variable (x i : Nat) (q : Xfer) (s : State)

theorem mem_xferPosted : (xferPosted x i q s).wch.mem = stBytes s.wch.mem (524288 * x + q.desc + 0x14) 4 (q.code % 2 ^ 16 * 2 ^ 16 + 1) := rfl
theorem core_xferPosted : (xferPosted x i q s).core x = { s.core x with xfers := (s.core x).xfers.eraseIdx i } := core_setCore_same ..
theorem regs_xferPosted : (xferPosted x i q s).regs = s.regs := rfl
theorem xferPosted_frame : { xferPosted x i q s with wch := s.wch } = s := rfl

theorem xferEnded_only : (xferPosted x i q s).onlyRegs (xferEnded x i q s) [WCH_IPEND x, WCH_CSTS x] :=
  (wSetPend_spec (xferPosted x i q s) x (i := 1) (by decide)).2.2

theorem mem_xferEnded : (xferEnded x i q s).wch.mem = stBytes s.wch.mem (524288 * x + q.desc + 0x14) 4 (q.code % 2 ^ 16 * 2 ^ 16 + 1) := by
  rw [wch_of_onlyRegs (xferEnded_only x i q s), mem_xferPosted]

theorem core_xferEnded : (xferEnded x i q s).core x = { s.core x with xfers := (s.core x).xfers.eraseIdx i } := by
  rw [State.core, wch_of_onlyRegs (xferEnded_only x i q s)]
  exact core_xferPosted x i q s

theorem xferEnded_frame : { xferEnded x i q s with regs := s.regs, wch := s.wch } = s :=
  (congrArg (fun v : State => { v with regs := s.regs, wch := s.wch }) (xferEnded_only x i q s).1 :).trans (xferPosted_frame x i q s)

theorem xferEnded_regs : (xferEnded x i q s).flag (WCH_IPEND x) WCH_IPEND_XFER_DONE = true
    ∧ s.keeps (xferEnded x i q s) [WCH_IPEND x, WCH_CSTS x] :=
  ⟨(wSetPend_spec (xferPosted x i q s) x (i := 1) (by decide)).1,
    keeps_trans (keeps_of_regs (keeps_rfl s []) (regs_xferPosted x i q s)) (xferEnded_only x i q s).2 (by simp) (by simp)⟩

end

/-- A refused transfer completes: its status, and no data (R391). -/
theorem xferComplete_refused {i : Nat} {q : Xfer} (h : (s.core x).xfers[i]? = some q) (hclk : s.fld WCH_STS WCH_STS_CLK ≠ 2) (hcode : q.code ≠ 0)
    (hstop : (s.core x).stopping = false) (ha : a = 524288 * x + q.desc + 0x14) :
    ∃ t, exec (.xferComplete x i) s = .next t ∧ (t.core x).xfers = (s.core x).xfers.eraseIdx i
      ∧ ldBytes t.wch.mem a 4 = q.code % 2 ^ 16 * 2 ^ 16 + 1 ∧ (∀ b, b < a ∨ a + 4 ≤ b → ldByte t.wch.mem b = ldByte s.wch.mem b)
      ∧ t.flag (WCH_IPEND x) WCH_IPEND_XFER_DONE = true ∧ s.keeps t [WCH_IPEND x, WCH_CSTS x] ∧ { t with regs := s.regs, wch := s.wch } = s := by
  subst ha
  have ht : xferComplete x i s = xferEnded x i q s := by
    rw [xferComplete_of_some h hclk, if_neg hcode]
    exact wStopped_of_running (by rw [core_xferEnded]; exact hstop)
  obtain ⟨hflag, hkeep⟩ := xferEnded_regs x i q s
  refine ⟨_, congrArg Host.Outcome.next ht, by rw [core_xferEnded], ?_, fun b hb => ?_, hflag, hkeep, xferEnded_frame x i q s⟩
  · rw [mem_xferEnded, ldBytes_stBytes]
    omega
  · rw [mem_xferEnded]
    exact ldByte_stBytes_ne _ _ _ _ _ hb

theorem xferMove_regs (x : Nat) {q : Xfer} (hst : q.st = 1) (s : State) : s.keeps (xferMove x q s) [] ∧ (xferMove x q s).wch.cores = s.wch.cores := by
  unfold xferMove
  simp only [hst, if_true, Nat.reduceLeDiff, decide_false, Bool.false_and, Bool.false_eq_true, if_false]
  split
  · exact ⟨keeps_of_regs (keeps_rfl _ _) rfl, rfl⟩
  · split
    · exact ⟨keeps_of_regs (keeps_rfl _ _) rfl, rfl⟩
    · exact ⟨keeps_of_regs (keeps_rfl _ _) rfl, rfl⟩

theorem xferMove_load (x : Nat) {q : Xfer} (hst : q.st = 1) (hkind : q.kind = 1) (s : State) : xferMove x q s
    = { s with wch := { s.wch with mem := stList s.wch.mem (524288 * x + 8 * q.loc) (ldList s.cnv.res q.rem q.len) } } := by
  unfold xferMove
  simp only [hst, hkind, if_true]

theorem xferMove_store (x : Nat) {q : Xfer} (hst : q.st = 1) (hkind : q.kind = 2) (s : State) : xferMove x q s
    = { s with cnv := { s.cnv with res := stList s.cnv.res q.rem (ldList s.wch.mem (524288 * x + 8 * q.loc) q.len) } } := by
  unfold xferMove
  simp only [hst, hkind, if_true]
  rfl

theorem xferComplete_moved {i : Nat} {q : Xfer} (h : (s.core x).xfers[i]? = some q) (hclk : s.fld WCH_STS WCH_STS_CLK ≠ 2) (hcode : q.code = 0)
    (hst : q.st = 1) (hstop : (s.core x).stopping = false) :
    ∃ t, exec (.xferComplete x i) s = .next t ∧ (t.core x).xfers = (s.core x).xfers.eraseIdx i
      ∧ (q.kind = 1 → t.cnv = s.cnv ∧ t.wch.mem = stBytes (stList s.wch.mem (524288 * x + 8 * q.loc) (ldList s.cnv.res q.rem q.len))
          (524288 * x + q.desc + 0x14) 4 1)
      ∧ (q.kind = 2 → t.cnv = { s.cnv with res := stList s.cnv.res q.rem (ldList s.wch.mem (524288 * x + 8 * q.loc) q.len) }
          ∧ t.wch.mem = stBytes s.wch.mem (524288 * x + q.desc + 0x14) 4 1)
      ∧ t.flag (WCH_IPEND x) WCH_IPEND_XFER_DONE = true ∧ s.keeps t [WCH_IPEND x, WCH_CSTS x] := by
  obtain ⟨m, hm⟩ : ∃ m, m = xferMove x q s := ⟨_, rfl⟩
  obtain ⟨hregs, hcores⟩ := xferMove_regs x hst s
  rw [← hm] at hregs hcores
  have hcore : m.core x = s.core x := congrArg (fun c => tget c x) hcores
  have ht : xferComplete x i s = xferEnded x i q m := by
    rw [xferComplete_of_some h hclk, if_pos hcode, ← hm]
    exact wStopped_of_running (by rw [core_xferEnded, hcore]; exact hstop)
  obtain ⟨hflag, hkeep⟩ := xferEnded_regs x i q m
  have hcnv : (xferEnded x i q m).cnv = m.cnv := (congrArg State.cnv (xferEnded_frame x i q m) :)
  have hmem : (xferEnded x i q m).wch.mem = stBytes m.wch.mem (524288 * x + q.desc + 0x14) 4 1 := by
    rw [mem_xferEnded, hcode, Nat.zero_mod, Nat.zero_mul, Nat.zero_add]
  refine ⟨_, congrArg Host.Outcome.next ht, by rw [core_xferEnded, hcore], fun hk => ?_, fun hk => ?_, hflag, keeps_trans hregs hkeep (by simp) (by simp)⟩
  · rw [hcnv, hmem, hm, xferMove_load x hst hk s]
    exact ⟨rfl, rfl⟩
  · rw [hcnv, hmem, hm, xferMove_store x hst hk s]
    exact ⟨rfl, rfl⟩

end

end Sys2Proof.Laws
end

section
namespace Sys2Proof.Laws
open Sys2Proof.Machine

-- One theorem after another: a thread for each of them passes the memory limit of the check.
set_option Elab.async false

section
variable {s u t : State} {x w n a : Nat}

/-! ### Requests (R397 to R401) -/

theorem completionRec_head (x : Nat) (ws : List Nat) (code outBytes shots time : Nat) (summary : List Nat) :
    (completionRec x ws code outBytes shots time summary).words.getD 0 0
      = code % 2 ^ 16 + svcCode ws * 2 ^ 16 + x * 2 ^ 24 + svcTag ws * 2 ^ 32 := by
  simp only [completionRec, List.cons_append, List.getD_cons_zero]

theorem eq_of_onlyRegs {as : List Nat} (h : s.onlyRegs u as) : u = { s with regs := u.regs } :=
  (congrArg (fun v : State => { v with regs := u.regs }) h.1 :)

theorem when_of_true (s : State) {c : Bool} (h : c = true) (f : State → State) : s.when c f = f s := if_pos h
theorem when_of_false (s : State) {c : Bool} (h : c = false) (f : State → State) : s.when c f = s := if_neg (by simp [h])

theorem cnv_svcFinish (ws : List Nat) (code outBytes shots : Nat) (summary : List Nat) :
    (svcFinish x ws code outBytes shots summary s).cnv = s.cnv := by
  have hfree : (yardFreed x ws s).cnv = s.cnv := by
    unfold yardFreed State.when
    split <;> rfl
  exact hfree

/-- A completion that frees no yard (R399). -/
theorem svcFinish_unheld (ws : List Nat) (code outBytes shots : Nat) (summary : List Nat)
    (h : (svcHolds ws && (s.core x).svc.isSome) = false) : s.keeps (svcFinish x ws code outBytes shots summary s) [WCH_SVC_CNT x]
      ∧ ∃ r v b, svcFinish x ws code outBytes shots summary s = { s with regs := r, wch := v, bus := b } := by
  obtain ⟨u, hu⟩ : ∃ u, u = yardFreed x ws s := ⟨_, rfl⟩
  have hfree : u = s.setCore x { s.core x with svc := none } := hu.trans (if_neg (by simp [h]))
  have hfin : svcFinish x ws code outBytes shots summary s
      = (u.emitRec (completionRec x ws code outBytes shots u.tb1 summary)).inc (WCH_SVC_CNT x) := by
    rw [hu]
    rfl
  rw [hfin, hfree]
  exact ⟨keeps_andWr (keeps_of_regs (keeps_rfl s _) rfl) (by simp), _, _, _, rfl⟩

/-- The next request taken from the queue of a core. -/
def reqTaken (x : Nat) (s : State) : State :=
  let qi := s.rdN (WCH_RQID x)
  let q := s.que qi
  writeBack qi (q.next q.cons 1) (s.setQue qi { q with fetch := q.next q.cons 1, cons := q.next q.cons 1 })

/-- The write-back of an index is at most one write to the host. -/
theorem writeBack_eq (q i : Nat) (s : State) : writeBack q i s = s ∨ ∃ o, writeBack q i s = s.toHost o := by
  by_cases h : (s.que q).wb = 0
  · exact .inl (if_pos h)
  · exact .inr ⟨_, if_neg h⟩

/-- A request taken changes its queue and what goes to the host. -/
theorem reqTaken_eq (x : Nat) (s : State) {q : Que} (hq : q = s.que (s.rdN (WCH_RQID x))) : ∃ h : Hif, reqTaken x s = { s with hif := h }
    ∧ tget h.ques (s.rdN (WCH_RQID x)) = { q with fetch := q.next q.cons 1, cons := q.next q.cons 1 } := by
  subst hq
  unfold reqTaken
  dsimp only
  obtain ⟨c, hc⟩ : ∃ c, c = (s.que (s.rdN (WCH_RQID x))).next (s.que (s.rdN (WCH_RQID x))).cons 1 := ⟨_, rfl⟩
  rw [← hc]
  obtain ⟨u, hu⟩ : ∃ u, u = s.setQue (s.rdN (WCH_RQID x)) { s.que (s.rdN (WCH_RQID x)) with fetch := c, cons := c } := ⟨_, rfl⟩
  have hframe : u = { s with hif := u.hif } := by rw [hu]; rfl
  have hque : tget u.hif.ques (s.rdN (WCH_RQID x)) = { s.que (s.rdN (WCH_RQID x)) with fetch := c, cons := c } := by
    rw [hu]
    exact tget_tput_same ..
  rw [← hu]
  obtain h | ⟨o, h⟩ := writeBack_eq (s.rdN (WCH_RQID x)) c u <;> rw [h]
  · exact ⟨u.hif, hframe, hque⟩
  · refine ⟨(u.toHost o).hif, ?_, hque⟩
    rw [hframe]
    rfl

theorem reqTaken_frame (x : Nat) (s : State) : ∃ h : Hif, reqTaken x s = { s with hif := h } := (reqTaken_eq x s rfl).imp fun _ h => h.1

theorem que_reqTaken (x : Nat) (s : State) {q : Que} (hq : q = s.que (s.rdN (WCH_RQID x))) :
    (reqTaken x s).que (s.rdN (WCH_RQID x)) = { q with fetch := q.next q.cons 1, cons := q.next q.cons 1 } := by
  obtain ⟨h, hframe, hque⟩ := reqTaken_eq x s hq
  rw [hframe]
  exact hque

theorem regs_reqTaken (x : Nat) (s : State) : (reqTaken x s).regs = s.regs := by
  obtain ⟨h, hframe⟩ := reqTaken_frame x s
  rw [hframe]

theorem bus_reqTaken (x : Nat) (s : State) : (reqTaken x s).bus = s.bus := by
  obtain ⟨h, hframe⟩ := reqTaken_frame x s
  rw [hframe]

theorem core_reqTaken (x : Nat) (s : State) : (reqTaken x s).core x = s.core x := by
  obtain ⟨h, hframe⟩ := reqTaken_frame x s
  rw [hframe]
  rfl

theorem keeps_reqTaken (x : Nat) (s : State) : s.keeps (reqTaken x s) [] := keeps_of_regs (keeps_rfl s []) (regs_reqTaken x s)

/-- Each service command takes the requests of its code. -/
theorem exec_svc {p : (Nat → List Nat → Instr) × Nat} (h : p ∈ [(Instr.svcResSpec, 1), (Instr.svcRabi, 2), (Instr.svcRamsey, 3), (Instr.svcDrag, 4), (Instr.svcKtrain, 5),
    (Instr.svcFluxid, 6), (Instr.svcStats, 0x10), (Instr.svcHist, 0x11), (Instr.svcMoninj, 0x12)]) (x : Nat) (ws : List Nat) (s : State) :
    ∃ row : Nat → Bool, row p.2 = true ∧ exec (p.1 x ws) s = .next (svcTake x row ws s) := by
  simp only [List.mem_cons, List.not_mem_nil, or_false] at h
  rcases h with rfl | rfl | rfl | rfl | rfl | rfl | rfl | rfl | rfl <;> exact ⟨_, by decide, rfl⟩

section
variable {ws : List Nat} {row : Nat → Bool} {q : Que} (hready : s.svcReady x = true) (hrow : row (svcCode (s.svcWords x ws)) = true)
include hready hrow

theorem svcTake_of_refused (hcheck : s.svcCheck x (s.svcWords x ws) ≠ 0) : svcTake x row ws s
    = svcFinish x (s.svcWords x ws) (s.svcCheck x (s.svcWords x ws)) 0 0 [] ((reqTaken x s).denyIf (s.svcCheck x (s.svcWords x ws))
        ((s.svcForeign x (s.svcWords x ws)).getD (0, 0)).1 ((s.svcForeign x (s.svcWords x ws)).getD (0, 0)).2 3 ((s.wPart x).getD 0)) :=
  (if_neg (by simp [hready, hrow])).trans (if_pos hcheck)

theorem svcTake_of_begun (hcheck : s.svcCheck x (s.svcWords x ws) = 0) (hmon : svcCode (s.svcWords x ws) ≠ 0x12) : svcTake x row ws s
    = ((reqTaken x s).setCore x { (reqTaken x s).core x with svc := some ⟨s.svcWords x ws, 0, []⟩ }).when (svcHolds (s.svcWords x ws))
        (svcHold x (s.svcWords x ws)) :=
  (if_neg (by simp [hready, hrow])).trans ((if_neg (not_not_intro hcheck)).trans (if_neg hmon))

end

/-- A request taken and begun. -/
def svcBegun (x : Nat) (ws : List Nat) (s : State) : State :=
  (reqTaken x s).setCore x { (reqTaken x s).core x with svc := some ⟨ws, 0, []⟩ }

theorem core_svcBegun (x : Nat) (ws : List Nat) (s : State) : ((svcBegun x ws s).core x).svc = some ⟨ws, 0, []⟩ :=
  congrArg Core.svc (core_setCore_same ..)

theorem que_setCore (s : State) (x : Nat) (c : Core) (k : Nat) : (s.setCore x c).que k = s.que k := rfl

theorem que_svcBegun (x : Nat) (ws : List Nat) (s : State) {q : Que} (hq : q = s.que (s.rdN (WCH_RQID x))) :
    (svcBegun x ws s).que (s.rdN (WCH_RQID x)) = { q with fetch := q.next q.cons 1, cons := q.next q.cons 1 } := by
  rw [svcBegun, que_setCore]
  exact que_reqTaken x s hq

theorem svcBegun_frame (x : Nat) (ws : List Nat) (s : State) : ∃ (v : Wch) (h : Hif), svcBegun x ws s = { s with wch := v, hif := h } := by
  obtain ⟨h, hframe⟩ := reqTaken_frame x s
  rw [svcBegun, hframe]
  exact ⟨_, _, rfl⟩

/-- The yard of a holding service taken, and `prog` where its program goes (R398). -/
def svcHeld (x : Nat) (ws : List Nat) (prog : List (BitVec 8)) (u : State) : State :=
  let y := svcYard ws
  let s := u.wr WCH_HOLD (u.rd WCH_HOLD ||| BitVec.ofNat 64 (2 ^ y))
  let s := s.modGrp (s.groupOf y) fun g => { g with byService := some x }
  ({ s with seq := { s.seq with store := stList s.seq.store (262144 * y + 8 * svcProg ws) prog } }).nextFree

theorem svcHold_eq (x : Nat) (ws : List Nat) (u : State) : ∃ prog, prog.length = 2048 ∧ svcHold x ws u = svcHeld x ws prog u :=
  ⟨_, by simp, rfl⟩

/-- What a holding service takes hold of. -/
theorem svcHeld_spec (x : Nat) (ws : List Nat) (u : State) {prog : List (BitVec 8)} (hlen : prog.length = 2048) :
    (svcHeld x ws prog u).rd WCH_HOLD = u.rd WCH_HOLD ||| BitVec.ofNat 64 (2 ^ svcYard ws)
    ∧ ((svcHeld x ws prog u).grp (u.groupOf (svcYard ws))).byService = some x
    ∧ (∀ b, b < 262144 * svcYard ws + 8 * svcProg ws ∨ 262144 * svcYard ws + 8 * svcProg ws + 2048 ≤ b →
          ldByte (svcHeld x ws prog u).seq.store b = ldByte u.seq.store b)
    ∧ u.keeps (svcHeld x ws prog u) [WCH_HOLD] ∧ ∃ r q b, svcHeld x ws prog u = { u with regs := r, seq := q, bus := b } := by
  refine ⟨rd_wr_same .., ?_, fun b hb => ?_, keeps_of_regs (keeps_andWr (keeps_rfl u _) (by simp)) rfl, _, _, _, rfl⟩
  · exact congrArg Group.byService (tget_tput_same ..)
  · exact ldByte_stList_ne _ _ _ _ (by rw [hlen]; exact hb)

/-- A holding service is begun (R397, R398). -/
theorem svc_held {p : (Nat → List Nat → Instr) × Nat} {ws : List Nat} {y : Nat} {q : Que}
    (hp : p ∈ [(Instr.svcResSpec, 1), (Instr.svcRabi, 2), (Instr.svcRamsey, 3), (Instr.svcDrag, 4), (Instr.svcKtrain, 5), (Instr.svcFluxid, 6)])
    (hready : s.svcReady x = true) (hcode : svcCode (s.svcWords x ws) = p.2) (hcheck : s.svcCheck x (s.svcWords x ws) = 0)
    (hy : y = svcYard (s.svcWords x ws)) (hq : q = s.que (s.rdN (WCH_RQID x))) : ∃ t, exec (p.1 x ws) s = .next t
      ∧ (t.core x).svc = some ⟨s.svcWords x ws, 0, []⟩
      ∧ t.rd WCH_HOLD = s.rd WCH_HOLD ||| BitVec.ofNat 64 (2 ^ y) ∧ (t.grp (s.groupOf y)).byService = some x
      ∧ t.que (s.rdN (WCH_RQID x)) = { q with fetch := q.next q.cons 1, cons := q.next q.cons 1 }
      ∧ (∀ b, b < 262144 * y + 8 * svcProg (s.svcWords x ws) ∨ 262144 * y + 8 * svcProg (s.svcWords x ws) + 2048 ≤ b →
          ldByte t.seq.store b = ldByte s.seq.store b)
      ∧ s.keeps t [WCH_HOLD] ∧ { t with regs := s.regs, wch := s.wch, hif := s.hif, seq := s.seq, bus := s.bus } = s := by
  subst hy
  have hrange : 1 ≤ p.2 ∧ p.2 ≤ 6 := by
    simp only [List.mem_cons, List.not_mem_nil, or_false] at hp
    rcases hp with rfl | rfl | rfl | rfl | rfl | rfl <;> decide
  have hholds : svcHolds (s.svcWords x ws) = true := by simp [svcHolds, hcode, hrange]
  obtain ⟨row, hrow, hexec⟩ := exec_svc (List.mem_append_left [(Instr.svcStats, 0x10), (Instr.svcHist, 0x11), (Instr.svcMoninj, 0x12)] hp) x ws s
  obtain ⟨vs, hvs⟩ : ∃ vs, vs = s.svcWords x ws := ⟨_, rfl⟩
  obtain ⟨u, hu⟩ : ∃ u, u = svcBegun x vs s := ⟨_, rfl⟩
  have ht : svcTake x row ws s = svcHold x vs u := by
    rw [svcTake_of_begun hready (hcode.symm ▸ hrow) hcheck (by omega), when_of_true _ hholds, hu, hvs, svcBegun]
  obtain ⟨v, h, hbegun⟩ := svcBegun_frame x vs s
  have hcore := core_svcBegun x vs s
  have hque := que_svcBegun x vs s hq
  rw [← hu] at hbegun hcore hque
  have hkeep : s.keeps u [] := keeps_of_regs (keeps_rfl s []) (by rw [hbegun])
  have hgroup : u.groupOf (svcYard vs) = s.groupOf (svcYard vs) := by
    rw [hbegun]
    rfl
  obtain ⟨prog, hlen, hheld⟩ := svcHold_eq x vs u
  obtain ⟨hhold, hgrp, hstore, hk, r, sq, b, hframe⟩ := svcHeld_spec x vs u hlen
  obtain ⟨t, htt⟩ : ∃ t, t = svcHeld x vs prog u := ⟨_, rfl⟩
  rw [ht, hheld] at hexec
  rw [← htt] at hexec hhold hgrp hstore hk hframe
  rw [← hvs]
  refine ⟨t, hexec, ?_, ?_, ?_, ?_, fun b hb => ?_, keeps_trans hkeep hk (by simp) (by simp), ?_⟩
  · rw [hframe]
    exact hcore
  · rw [hhold, hkeep WCH_HOLD (by simp)]
  · rw [← hgroup]
    exact hgrp
  · rw [hframe]
    exact hque
  · rw [hstore b hb, hbegun]
  · rw [hframe, hbegun]

/-- STATS and HIST are begun and hold nothing (R397, R401). -/
theorem svc_looks {p : (Nat → List Nat → Instr) × Nat} {ws : List Nat} {q : Que} (hp : p ∈ [(Instr.svcStats, 0x10), (Instr.svcHist, 0x11)])
    (hready : s.svcReady x = true) (hcode : svcCode (s.svcWords x ws) = p.2) (hcheck : s.svcCheck x (s.svcWords x ws) = 0)
    (hq : q = s.que (s.rdN (WCH_RQID x))) : ∃ t, exec (p.1 x ws) s = .next t ∧ (t.core x).svc = some ⟨s.svcWords x ws, 0, []⟩
      ∧ t.que (s.rdN (WCH_RQID x)) = { q with fetch := q.next q.cons 1, cons := q.next q.cons 1 } ∧ t.regs = s.regs
      ∧ { t with wch := s.wch, hif := s.hif } = s := by
  have hrange : p.2 = 0x10 ∨ p.2 = 0x11 := by
    simp only [List.mem_cons, List.not_mem_nil, or_false] at hp
    rcases hp with rfl | rfl <;> decide
  have hholds : svcHolds (s.svcWords x ws) = false := by simp [svcHolds, hcode]; omega
  obtain ⟨row, hrow, hexec⟩ := exec_svc (p := p) (by simp only [List.mem_cons] at hp ⊢; tauto) x ws s
  rw [svcTake_of_begun hready (hcode.symm ▸ hrow) hcheck (by omega), when_of_false _ hholds] at hexec
  rw [← svcBegun] at hexec
  have hcore := core_svcBegun x (s.svcWords x ws) s
  have hque := que_svcBegun x (s.svcWords x ws) s hq
  obtain ⟨v, h, hbegun⟩ := svcBegun_frame x (s.svcWords x ws) s
  obtain ⟨t, ht⟩ : ∃ t, t = svcBegun x (s.svcWords x ws) s := ⟨_, rfl⟩
  rw [← ht] at hcore hque hbegun
  refine ⟨t, hexec.trans (congrArg Host.Outcome.next ht.symm), hcore, hque, ?_, ?_⟩ <;> rw [hbegun]

/-- A refused request is completed at once with its code (R397). -/
theorem svc_refused {p : (Nat → List Nat → Instr) × Nat} {ws : List Nat}
    (hp : p ∈ [(Instr.svcResSpec, 1), (Instr.svcRabi, 2), (Instr.svcRamsey, 3), (Instr.svcDrag, 4), (Instr.svcKtrain, 5),
      (Instr.svcFluxid, 6), (Instr.svcStats, 0x10), (Instr.svcHist, 0x11), (Instr.svcMoninj, 0x12)])
    (hready : s.svcReady x = true) (hcode : svcCode (s.svcWords x ws) = p.2) (hcheck : s.svcCheck x (s.svcWords x ws) ≠ 0) :
    ∃ t, exec (p.1 x ws) s = .next t
      ∧ (t.core x).svc = none ∧ t.rdN (WCH_SVC_CNT x) = min 0xFFFFFFFF (s.rdN (WCH_SVC_CNT x) + 1)
      ∧ (∃ r, t.bus = { s.bus with recs := s.bus.recs ++ [r] } ∧ r.words.getD 0 0 = s.svcCheck x (s.svcWords x ws) % 2 ^ 16
          + p.2 * 2 ^ 16 + x * 2 ^ 24 + svcTag (s.svcWords x ws) * 2 ^ 32)
      ∧ s.keeps t [WCH_SVC_CNT x, IMG_DENY, IMG_DENY_CNT] ∧ { t with regs := s.regs, wch := s.wch, hif := s.hif, bus := s.bus } = s := by
  obtain ⟨row, hrow, hexec⟩ := exec_svc hp x ws s
  have hfree : (s.core x).svc = none := by
    simp only [State.svcReady, Bool.and_eq_true, Option.isNone_iff_eq_none] at hready
    obtain ⟨⟨⟨⟨⟨⟨-, hsvc⟩, -⟩, -⟩, -⟩, -⟩, -⟩ := hready
    exact hsvc
  have hx : x < 8 := by
    simp only [State.svcReady, Bool.and_eq_true, decide_eq_true_eq] at hready
    tauto
  rw [svcTake_of_refused hready (hcode.symm ▸ hrow) hcheck] at hexec
  obtain ⟨vs, hvs⟩ : ∃ vs, vs = s.svcWords x ws := ⟨_, rfl⟩
  obtain ⟨code, hc⟩ : ∃ code, code = s.svcCheck x vs := ⟨_, rfl⟩
  rw [← hvs, ← hc] at hexec
  rw [← hvs] at hcode
  obtain ⟨h, hreq⟩ := reqTaken_frame x s
  obtain ⟨v, hv⟩ : ∃ v, v = reqTaken x s := ⟨_, rfl⟩
  obtain ⟨u, hu⟩ : ∃ u, u = v.denyIf code ((s.svcForeign x vs).getD (0, 0)).1 ((s.svcForeign x vs).getD (0, 0)).2 3 ((s.wPart x).getD 0) :=
    ⟨_, rfl⟩
  rw [← hv] at hexec hreq
  have hdeny : v.onlyRegs u [IMG_DENY, IMG_DENY_CNT] := hu ▸ onlyRegs_denyIf ..
  have hframeu := eq_of_onlyRegs hdeny
  rw [hreq] at hframeu
  have hcore : u.core x = s.core x := by rw [hframeu]; rfl
  have hnone : (u.core x).svc = none := hcore ▸ hfree
  have hbus : u.bus = s.bus := by rw [hframeu]
  rw [← hu] at hexec
  have hkeepu : s.keeps u [IMG_DENY, IMG_DENY_CNT] :=
    keeps_trans (keeps_of_regs (keeps_rfl s []) (by rw [hreq])) hdeny.2 (by simp) (by simp)
  obtain ⟨hkeep, r, v, b, hframe⟩ := svcFinish_unheld (x := x) vs code 0 0 [] (by simp [hnone] : (svcHolds vs && (u.core x).svc.isSome) = false)
  obtain ⟨time, htime⟩ := bus_svcFinish (s := u) (x := x) vs code 0 0 []
  rw [hbus] at htime
  rw [← hvs, ← hc]
  refine ⟨_, hexec, by rw [core_svcFinish], ?_, ⟨_, htime, ?_⟩, keeps_trans hkeepu hkeep (by simp) (by simp), ?_⟩
  · rw [svcCnt_svcFinish, rdN_of_keeps hkeepu (by unfold WCH_SVC_CNT IMG_DENY IMG_DENY_CNT; simp; omega)]
  · rw [completionRec_head, hcode]
  · rw [hframe, hframeu]

theorem injRequest_of_check {m : Nat} {i : Inj} (h : s.injCheck m i = 0) : injRequest m i s = (injQueued m i s, 0) := if_pos h

theorem injQueued_spec (m : Nat) (i : Inj) (s : State) : ((injQueued m i s).mon m).waiting = (s.mon m).waiting ++ [i]
    ∧ s.keeps (injQueued m i s) [monSTS m, MON_INJ_Q (m / 4) (m % 4)] ∧ ∃ r c, injQueued m i s = { s with regs := r, cnv := c } := by
  refine ⟨congrArg Mon.waiting (tget_tput_same ..), ?_, _, _, rfl⟩
  rw [monInjQ_eq]
  exact keeps_andWr (keeps_andWr (keeps_andWr (keeps_of_regs (keeps_rfl s _) rfl) (by simp)) (by simp)) (by simp)

/-- The request that a MONINJ service injects. -/
def svcInj (x : Nat) (vs : List Nat) (s : State) : Inj := ⟨1, (s.wPart x).getD 0, bits (svcArg vs 0) 27 16, svcArg vs 0 % 128, none⟩

theorem svcTake_of_injected {ws : List Nat} {row : Nat → Bool} (hready : s.svcReady x = true) (hrow : row (svcCode (s.svcWords x ws)) = true)
    (hcheck : s.svcCheck x (s.svcWords x ws) = 0) (hmon : svcCode (s.svcWords x ws) = 0x12)
    (hinj : (reqTaken x s).injCheck (svcArg (s.svcWords x ws) 0 % 128 / 8) (svcInj x (s.svcWords x ws) s) = 0) : svcTake x row ws s
      = (injQueued (svcArg (s.svcWords x ws) 0 % 128 / 8) (svcInj x (s.svcWords x ws) s) (reqTaken x s)).setCore x
          { (injQueued (svcArg (s.svcWords x ws) 0 % 128 / 8) (svcInj x (s.svcWords x ws) s) (reqTaken x s)).core x with
            svc := some ⟨s.svcWords x ws, 0, []⟩ } := by
  refine (if_neg (by simp [hready, hrow])).trans ((if_neg (not_not_intro hcheck)).trans ((if_pos hmon).trans ?_))
  have hr := injRequest_of_check hinj
  dsimp only [svcInj, reqTaken] at hr ⊢
  rw [hr]
  rfl

/-- MONINJ is begun with its request queued at the monitor (R281, R397). -/
theorem svc_injects {ws : List Nat} {i : Inj} (hready : s.svcReady x = true) (hcode : svcCode (s.svcWords x ws) = 0x12)
    (hcheck : s.svcCheck x (s.svcWords x ws) = 0)
    (hi : i = ⟨1, (s.wPart x).getD 0, bits (svcArg (s.svcWords x ws) 0) 27 16, svcArg (s.svcWords x ws) 0 % 128, none⟩)
    (hinj : s.injCheck (i.input / 8) i = 0) : ∃ t, exec (.svcMoninj x ws) s = .next t ∧ (t.core x).svc = some ⟨s.svcWords x ws, 0, []⟩
      ∧ (t.mon (i.input / 8)).waiting = (s.mon (i.input / 8)).waiting ++ [i]
      ∧ s.keeps t [monSTS (i.input / 8), MON_INJ_Q (i.input / 8 / 4) (i.input / 8 % 4)]
      ∧ { t with regs := s.regs, wch := s.wch, hif := s.hif, cnv := s.cnv } = s := by
  obtain ⟨vs, hvs⟩ : ∃ vs, vs = s.svcWords x ws := ⟨_, rfl⟩
  have hsvc : i = svcInj x vs s := by rw [hi, hvs]; rfl
  have hinput : svcArg vs 0 % 128 / 8 = i.input / 8 := by rw [hsvc]; rfl
  obtain ⟨h, hreq⟩ := reqTaken_frame x s
  obtain ⟨v, hv⟩ : ∃ v, v = reqTaken x s := ⟨_, rfl⟩
  have hinjv : v.injCheck (i.input / 8) i = 0 := by
    rw [hv, hreq]
    exact hinj
  have ht := svcTake_of_injected (ws := ws) (row := (· == 0x12)) hready (by simp [hcode]) hcheck hcode (by rw [← hvs, hinput, ← hsvc, ← hv]; exact hinjv)
  rw [← hvs, hinput, ← hsvc, ← hv] at ht
  rw [← hv] at hreq
  obtain ⟨hmon, hkeep, r, c, hq⟩ := injQueued_spec (i.input / 8) i v
  obtain ⟨u, hu⟩ : ∃ u, u = injQueued (i.input / 8) i v := ⟨_, rfl⟩
  rw [← hu] at ht hmon hkeep hq
  rw [← hvs]
  refine ⟨_, congrArg Host.Outcome.next ht, congrArg Core.svc (core_setCore_same ..), ?_, ?_, ?_⟩
  · refine hmon.trans ?_
    rw [hreq]
    rfl
  · exact keeps_of_regs (keeps_trans (keeps_of_regs (keeps_rfl s []) (by rw [hreq])) hkeep (by simp) (List.Subset.refl _)) rfl
  · rw [hq, hreq]
    rfl

/-! ### The completion of a service (R399, R400) -/

/-- `t` is `s` with items on their way. -/
def ItemsSent (s t : State) : Prop := ∃ is, t = { s with bus := { s.bus with transit := s.bus.transit ++ is } }

theorem ItemsSent.rfl : ItemsSent s s := ⟨[], by simp⟩

theorem ItemsSent.trans (h : ItemsSent s t) (k : ItemsSent t u) : ItemsSent s u := by
  obtain ⟨is, rfl⟩ := h
  obtain ⟨js, rfl⟩ := k
  exact ⟨is ++ js, by simp⟩

theorem ItemsSent.mem (h : ItemsSent s t) {i : Item} (hi : i ∈ s.bus.transit) : i ∈ t.bus.transit := by
  obtain ⟨is, rfl⟩ := h
  exact List.mem_append_left _ hi

/-- The item of an APPLY write. -/
def applyItem (x rel : Nat) (w : Nat × Nat × Bool) : Item :=
  ⟨rel, islWinch, (w.1 - 0x1000000) / 0x40000, .ctrl, .emit w.1 (BitVec.ofNat 64 w.2.1) w.2.2 x⟩

theorem svcEmit_of_running (h : s.tb1Run = true) (x rel : Nat) (w : Nat × Nat × Bool) : svcEmit x rel w s = s.send (applyItem x rel w) :=
  if_neg (not_not_intro h)

theorem itemsSent_svcEmit (x rel : Nat) (w : Nat × Nat × Bool) (s : State) : ItemsSent s (svcEmit x rel w s) := by
  by_cases h : s.tb1Run = true
  · rw [svcEmit_of_running h]
    exact ⟨[applyItem x rel w], Eq.refl _⟩
  · have hstopped : svcEmit x rel w s = s := if_pos h
    rw [hstopped]
    exact .rfl

theorem ItemsSent.tb1Run (h : ItemsSent s t) : t.tb1Run = s.tb1Run := by
  obtain ⟨is, rfl⟩ := h
  rfl

/-- The writes of a list, each `i` ft after `r0`. -/
def applyWrites (x r0 : Nat) (l : List ((Nat × Nat × Bool) × Nat)) (s : State) : State :=
  forEach l s fun p s => svcEmit x (r0 + p.2 * ft) p.1 s

theorem itemsSent_applyWrites (x r0 : Nat) (l : List ((Nat × Nat × Bool) × Nat)) (s : State) : ItemsSent s (applyWrites x r0 l s) :=
  forEach_induct ItemsSent.rfl fun _ _ _ h => h.trans (itemsSent_svcEmit ..)

theorem mem_applyWrites {x r0 : Nat} {l : List ((Nat × Nat × Bool) × Nat)} (hrun : s.tb1Run = true) {p : (Nat × Nat × Bool) × Nat} (hp : p ∈ l) :
    applyItem x (r0 + p.2 * ft) p.1 ∈ (applyWrites x r0 l s).bus.transit := by
  induction l generalizing s with
  | nil => simp at hp
  | cons q l ih =>
    have hhead := itemsSent_svcEmit x (r0 + q.2 * ft) q.1 s
    rcases List.mem_cons.mp hp with rfl | hp
    · refine (itemsSent_applyWrites x r0 l (svcEmit x (r0 + p.2 * ft) p.1 s)).mem ?_
      rw [svcEmit_of_running hrun]
      exact List.mem_append_right _ (List.mem_singleton_self _)
    · exact ih (hhead.tb1Run.trans hrun) hp

/-- SEAL and the hand-over behind the writes of APPLY. -/
theorem svcApply_eq (x : Nat) (ws : List Nat) (writes : List (Nat × Nat × Bool)) (s : State) :
    ItemsSent (applyWrites x (s.tb1 + 40 * ft) (writes.filter fun w => s.svcApplies ws w.1).zipIdx s) (svcApply x ws writes s) := by
  have hwhen (c : Bool) (rel : Nat) (w : Nat × Nat × Bool) (u : State) : ItemsSent u (u.when c (svcEmit x rel w)) := by
    cases c
    · exact .rfl
    · exact itemsSent_svcEmit x rel w u
  unfold svcApply
  dsimp only
  split
  · exact hwhen ..
  · exact (hwhen ..).trans ((itemsSent_svcEmit ..).trans (itemsSent_svcEmit ..))

/-- The output block of a service at its pages. -/
def svcStored (ws : List Nat) (out : List (BitVec 8)) (s : State) : State :=
  { s with cnv := { s.cnv with res := stList s.cnv.res (4096 * svcPage ws) (if svcPages ws = 0 then [] else out.take (svcOutBytes ws)) } }

theorem cnv_svcStored_of_pages {ws : List Nat} (h : svcPages ws ≠ 0) (out : List (BitVec 8)) (s : State) :
    (svcStored ws out s).cnv = { s.cnv with res := stList s.cnv.res (4096 * svcPage ws) (out.take (svcOutBytes ws)) } := by
  rw [svcStored, if_neg h]

theorem cnv_svcStored_of_none {ws : List Nat} (h : svcPages ws = 0) (out : List (BitVec 8)) (s : State) : (svcStored ws out s).cnv = s.cnv := by
  rw [svcStored, if_pos h]
  rfl

/-- Its writes set out. -/
def svcApplied (x : Nat) (conv : Bool) (ws summary : List Nat) (writes : List (Nat × Nat × Bool)) (s : State) : State :=
  s.when (conv && bit (svcFlags ws) 0) (svcApply x ws (s.svcWrites ws summary writes))

section
variable {conv : Bool} {shots : Nat} {out : List (BitVec 8)} {summary : List Nat} {writes : List (Nat × Nat × Bool)} {v : Svc}

theorem itemsSent_svcApplied (x : Nat) (ws : List Nat) (s : State) : ItemsSent s (svcApplied x conv ws summary writes s) := by
  unfold svcApplied
  cases conv && bit (svcFlags ws) 0
  · exact .rfl
  · exact (itemsSent_applyWrites ..).trans (svcApply_eq ..)

theorem mem_svcApplied (x : Nat) {ws : List Nat} (hconv : conv = true) (hflag : bit (svcFlags ws) 0 = true) (hrun : s.tb1Run = true) {i : Nat}
    {w : Nat × Nat × Bool} (hw : ((s.svcWrites ws summary writes).filter (fun w => s.svcApplies ws w.1))[i]? = some w) :
    applyItem x (s.tb1 + 640 + i * 16) w ∈ (svcApplied x conv ws summary writes s).bus.transit := by
  rw [svcApplied, when_of_true _ (by simp [hconv, hflag])]
  refine (svcApply_eq ..).mem ?_
  exact mem_applyWrites (p := (w, i)) hrun (List.mem_zipIdx_iff_getElem?.mpr hw)

theorem svcComplete_of_done (hsvc : (s.core x).svc = some v) (hclk : s.fld WCH_STS WCH_STS_CLK ≠ 2) (hst : s.wst x = wRUN)
    (hcode : v.code = 0) (hmon : svcCode v.words ≠ 0x12)
    (hshots : svcHolds v.words = true ∨ svcShots v.words ≤ shots ∨ s.yIdle (svcYard v.words) = true)
    (hheld : svcHolds v.words = true → s.yIdle (svcYard v.words) = true) : svcComplete x conv shots out summary writes s
      = svcFinish x v.words (if conv = true then 0 else E_WCH_FIT) (if svcPages v.words = 0 then [] else out.take (svcOutBytes v.words)).length
          shots summary (svcApplied x conv v.words summary writes (svcStored v.words out s)) := by
  have hready : ¬(s.fld WCH_STS WCH_STS_CLK = 2 ∨ s.wst x ≠ wRUN ∨ (svcHolds v.words = true ∧ ¬s.yIdle (svcYard v.words) = true)) := by
    rintro (h | h | ⟨h, h'⟩)
    · exact hclk h
    · exact h hst
    · exact h' (hheld h)
  have hseen : ¬(v.code = 0 ∧ (((svcCode v.words == 0x12) = true ∧ v.res = []) ∨ ((svcCode v.words == 0x10 || svcCode v.words == 0x11) = true
      ∧ shots < svcShots v.words ∧ ¬s.yIdle (svcYard v.words) = true))) := by
    rintro ⟨-, ⟨h, -⟩ | ⟨h, hlt, hrun⟩⟩
    · exact hmon (beq_iff_eq.mp h)
    · rcases hshots with hold | hle | hidle
      · simp only [svcHolds, Bool.and_eq_true, decide_eq_true_eq, Bool.or_eq_true, beq_iff_eq] at hold h
        omega
      · omega
      · exact hrun hidle
  unfold svcComplete
  rw [hsvc]
  refine (if_neg hready).trans ((if_neg hseen).trans ((if_neg (not_not_intro hcode)).trans ((if_neg (by simp [hmon])).trans ?_)))
  rfl

theorem svcComplete_of_settled (hsvc : (s.core x).svc = some v) (hclk : s.fld WCH_STS WCH_STS_CLK ≠ 2) (hst : s.wst x = wRUN)
    (hcode : v.code = 0) (hmon : svcCode v.words = 0x12) (hres : v.res ≠ []) :
    svcComplete x conv shots out summary writes s = svcFinish x v.words 0 0 0 v.res s := by
  have hholds : svcHolds v.words = false := by simp [svcHolds, hmon]
  unfold svcComplete
  rw [hsvc]
  exact (if_neg (by simp [hclk, hst, hholds])).trans ((if_neg (by simp [hmon, hres])).trans ((if_neg (not_not_intro hcode)).trans
    (if_pos (by simp [hmon]))))

theorem svcComplete_of_waiting (hsvc : (s.core x).svc = some v) (hcode : v.code = 0) (hmon : svcCode v.words = 0x12) (hres : v.res = []) :
    svcComplete x conv shots out summary writes s = s := by
  unfold svcComplete
  rw [hsvc]
  dsimp only
  split
  · rfl
  · exact if_pos (by simp [hcode, hmon, hres])

/-- A service that has seen its shots completes (R399, R400). -/
theorem svc_completes (hsvc : (s.core x).svc = some v) (hclk : s.fld WCH_STS WCH_STS_CLK ≠ 2) (hst : s.wst x = wRUN)
    (hcode : v.code = 0) (hmon : svcCode v.words ≠ 0x12)
    (hshots : svcHolds v.words = true ∨ svcShots v.words ≤ shots ∨ s.yIdle (svcYard v.words) = true)
    (hheld : svcHolds v.words = true → s.yIdle (svcYard v.words) = true) : ∃ t, exec (.svcComplete x conv shots out summary writes) s = .next t
      ∧ (t.core x).svc = none ∧ t.rdN (WCH_SVC_CNT x) = min 0xFFFFFFFF (s.rdN (WCH_SVC_CNT x) + 1)
      ∧ (∃ r, t.bus.recs = s.bus.recs ++ [r] ∧ r.qid = svcCqid v.words % 2 ^ 18
          ∧ r.words.getD 0 0 = (if conv = true then 0 else E_WCH_FIT) + svcCode v.words * 2 ^ 16 + x * 2 ^ 24 + svcTag v.words * 2 ^ 32)
      ∧ (svcPages v.words ≠ 0 → t.cnv = { s.cnv with res := stList s.cnv.res (4096 * svcPage v.words) (out.take (svcOutBytes v.words)) })
      ∧ (svcPages v.words = 0 → t.cnv = s.cnv)
      ∧ (conv = false ∨ bit (svcFlags v.words) 0 = false → t.bus.transit = s.bus.transit)
      ∧ (conv = true → bit (svcFlags v.words) 0 = true → s.tb1Run = true → ∀ i w, ((s.svcWrites v.words summary writes).filter (fun w => s.svcApplies v.words w.1))[i]? = some w →
          ∃ m ∈ t.bus.transit, m.rel = s.tb1 + 640 + i * 16 ∧ m.act = .emit w.1 (BitVec.ofNat 64 w.2.1) w.2.2 x)
      ∧ s.keeps t [WCH_SVC_CNT x, WCH_HOLD] := by
  have ht := svcComplete_of_done (conv := conv) (out := out) (summary := summary) (writes := writes) hsvc hclk hst hcode hmon hshots hheld
  obtain ⟨n, hn⟩ : ∃ n, n = (if svcPages v.words = 0 then [] else out.take (svcOutBytes v.words)).length := ⟨_, rfl⟩
  obtain ⟨code, hc⟩ : ∃ code, code = if conv = true then 0 else E_WCH_FIT := ⟨_, rfl⟩
  obtain ⟨d, hd⟩ : ∃ d, d = svcStored v.words out s := ⟨_, rfl⟩
  obtain ⟨u, hu⟩ : ∃ u, u = svcApplied x conv v.words summary writes d := ⟨_, rfl⟩
  rw [← hn, ← hc, ← hd, ← hu] at ht
  have hsent : ItemsSent d u := hu ▸ itemsSent_svcApplied x v.words d
  obtain ⟨is, his⟩ := hsent
  have hkeep : s.keeps u [] := keeps_of_regs (keeps_rfl s []) (by rw [his, hd]; rfl)
  obtain ⟨time, hbus⟩ := bus_svcFinish (s := u) (x := x) v.words code n shots summary
  have hrecs : u.bus.recs = s.bus.recs := by rw [his, hd]; rfl
  have hcnv : (svcFinish x v.words code n shots summary u).cnv = d.cnv := by
    rw [cnv_svcFinish, his]
  have hcodemod : code % 2 ^ 16 = code := by
    rw [hc]
    cases conv <;> decide
  refine ⟨_, congrArg Host.Outcome.next ht, by rw [core_svcFinish], ?_, ⟨completionRec x v.words code n shots time summary, ?_, rfl, ?_⟩, fun h => ?_, fun h => ?_, fun h => ?_, fun hconv hflag hrun i w hw => ?_,
    keeps_trans hkeep (svcFinish_keeps _ _ _ _ _) (by simp) (by simp)⟩
  · rw [svcCnt_svcFinish, rdN_of_keeps hkeep (by simp)]
  · rw [hbus, hrecs]
  · rw [completionRec_head, hcodemod, hc]
  · rw [hcnv, hd, cnv_svcStored_of_pages h]
  · rw [hcnv, hd, cnv_svcStored_of_none h]
  · have happ : u = d := hu.trans (when_of_false _ (by rcases h with h | h <;> simp [h]) _)
    rw [hbus, happ, hd]
    rfl
  · refine ⟨applyItem x (s.tb1 + 640 + i * 16) w, ?_, rfl, rfl⟩
    rw [hbus, hu]
    have hmem := mem_svcApplied (s := d) (summary := summary) (writes := writes) x hconv hflag (by rw [hd]; exact hrun) (i := i) (w := w)
      (by rw [hd]; exact hw)
    rw [hd] at hmem ⊢
    exact hmem

/-- MONINJ completes with its settled word (R272). -/
theorem svc_settles (hsvc : (s.core x).svc = some v) (hclk : s.fld WCH_STS WCH_STS_CLK ≠ 2) (hst : s.wst x = wRUN)
    (hcode : v.code = 0) (hmon : svcCode v.words = 0x12) (hres : v.res ≠ []) :
    ∃ t, exec (.svcComplete x conv shots out summary writes) s = .next t ∧ (t.core x).svc = none
      ∧ t.rdN (WCH_SVC_CNT x) = min 0xFFFFFFFF (s.rdN (WCH_SVC_CNT x) + 1)
      ∧ (∃ r, t.bus = { s.bus with recs := s.bus.recs ++ [r] } ∧ r.qid = svcCqid v.words % 2 ^ 18 ∧ r.words.getD 3 0 = v.res.getD 0 0 % 2 ^ 64)
      ∧ s.keeps t [WCH_SVC_CNT x] ∧ { t with regs := s.regs, wch := s.wch, bus := s.bus } = s := by
  have hholds : svcHolds v.words = false := by simp [svcHolds, hmon]
  obtain ⟨hkeep, r, c, b, hframe⟩ := svcFinish_unheld (s := s) (x := x) v.words 0 0 0 v.res (by simp [hholds])
  obtain ⟨time, hbus⟩ := bus_svcFinish (s := s) (x := x) v.words 0 0 0 v.res
  refine ⟨_, congrArg Host.Outcome.next (svcComplete_of_settled hsvc hclk hst hcode hmon hres), by rw [core_svcFinish], svcCnt_svcFinish ..,
    ⟨_, hbus, rfl, ?_⟩, hkeep, ?_⟩
  · simp only [completionRec, List.cons_append, List.nil_append, List.getD_cons_succ]
    rfl
  · rw [hframe]

end

end

/-- Settles O35: EMIT, XFER and FENCE by what stands behind their retirement, services by the request taken, held and completed. -/
theorem winchItemsTransfersAndServices : Obligations.WinchItemsTransfersAndServices := by
  refine ⟨fun s x w n a rel off h hroom hn hp ha hrun hrel hlead hoff hpage => emit_sent h hroom hn hp ha hrun hrel hlead hoff hpage,
    fun s x w n a h hroom hn hp ha hrun => ?_, fun s x w n a h hroom hn hp ha hrun hlead => ?_,
    fun s x w h hfull => congrArg Host.Outcome.next ((wExec_of_goes h _).trans (if_pos hfull)),
    fun s x w n a d h hn hp ha hd => xfer_spec h hn hp ha hd,
    fun s x i q a h hclk hcode hstop ha => xferComplete_refused h hclk hcode hstop ha,
    fun s x i q h hclk hcode hst hstop => xferComplete_moved h hclk hcode hst hstop,
    fun s x w h hx hi => fence_passes h hx hi,
    fun s x w h hwait => congrArg Host.Outcome.next ((wExec_of_goes h _).trans (if_neg fun hc => hwait.elim (· hc.1) (· hc.2))),
    fun p hp s x ws y q hready hcode hcheck hy hq => svc_held hp hready hcode hcheck hy hq,
    fun p hp s x ws q hready hcode hcheck hq => svc_looks hp hready hcode hcheck hq,
    fun s x ws i hready hcode hcheck hi hinj => svc_injects hready hcode hcheck hi hinj,
    fun p hp s x ws hready hcode hcheck => svc_refused hp hready hcode hcheck,
    fun s x conv shots out summary writes v hsvc hclk hst hcode hmon hshots hheld => svc_completes hsvc hclk hst hcode hmon hshots hheld,
    fun s x conv shots out summary writes v hsvc hclk hst hcode hmon hres => svc_settles hsvc hclk hst hcode hmon hres,
    fun s x conv shots out summary writes v hsvc hcode hmon hres => congrArg Host.Outcome.next (svcComplete_of_waiting hsvc hcode hmon hres)⟩
  · exact ⟨_, (exec_emit h hroom hn hp ha).trans (congrArg Host.Outcome.next (emitAt_of_stopped hrun)), emitRef_spec h (by decide)⟩
  · exact ⟨_, (exec_emit h hroom hn hp ha).trans (congrArg Host.Outcome.next (emitAt_of_short hrun hlead)), emitRef_spec h (by decide)⟩

end Sys2Proof.Laws
end

section
namespace Sys2Proof.Laws
open Sys2Proof.Machine

-- One theorem after another: a thread for each of them passes the memory limit of the check.
set_option Elab.async false

/-! ### Numbers at the head of a run of bytes -/

theorem le_succ (n w : Nat) : le (n + 1) w = BitVec.ofNat 8 w :: le n (w / 256) := by
  have hdiv (i : Nat) : w / 256 ^ (i + 1) = w / 256 / 256 ^ i := by rw [Nat.pow_succ', Nat.div_div_eq_div_mul]
  simp [le, List.range_succ_eq_map, hdiv, Function.comp_def]

theorem stList_le_append (m : Store) (a n w : Nat) (bs : List (BitVec 8)) :
    stList m a (le n w ++ bs) = stList (stBytes m a n w) (a + n) bs := by
  induction n generalizing m a w with
  | zero => rfl
  | succ n ih =>
    rw [le_succ, List.cons_append, stList, ih, stBytes]
    congr 1
    omega

theorem ldBytes_congr {m m' : Store} {a n : Nat} (h : ∀ b, a ≤ b → b < a + n → ldByte m b = ldByte m' b) : ldBytes m a n = ldBytes m' a n := by
  induction n generalizing a with
  | zero => rfl
  | succ n ih => rw [ldBytes, ldBytes, h a (by omega) (by omega), ih fun b hb hlt => h b (by omega) (by omega)]

/-- A number stored at the head of a run of bytes is read back. -/
theorem ldBytes_stList_le (m : Store) (a n w : Nat) (bs : List (BitVec 8)) : ldBytes (stList m a (le n w ++ bs)) a n = w % 256 ^ n := by
  rw [stList_le_append, ← ldBytes_stBytes m a n w]
  exact ldBytes_congr fun b _ hb => ldByte_stList_ne _ _ _ _ (.inl (by omega))

/-! ### The setting of a capture channel (R403 to R406) -/

/-- The registers that a channel shows and counts in, beside its setting. -/
def cnsShown (c : Nat) : List Nat := [CNS_STS c, CNS_WP c, CNS_RP c, CNS_REC_CNT c, CNS_DROP_CNT c, CNS_TRIG_IGN_CNT c, CNS_WDROP_CNT c]

/-- The registers of its setting. -/
def cnsSetting (c : Nat) : List Nat :=
  [CNS_CTL c, CNS_TAP c, CNS_TRIG c, CNS_LVL c, CNS_PRE c, CNS_POST c, CNS_REGION c, CNS_PAGES c, CNS_NREC c, CNS_HOLDOFF c]

theorem setting_not_shown {c d a : Nat} (h : a ∈ cnsSetting d) : a ∉ cnsShown c := by
  simp only [cnsSetting, cnsShown, List.mem_cons, List.not_mem_nil, or_false, not_or, CNS_CTL, CNS_TAP, CNS_TRIG, CNS_LVL, CNS_PRE, CNS_POST,
    CNS_REGION, CNS_PAGES, CNS_NREC, CNS_HOLDOFF, CNS_STS, CNS_WP, CNS_RP, CNS_REC_CNT, CNS_DROP_CNT, CNS_TRIG_IGN_CNT, CNS_WDROP_CNT] at h ⊢
  omega

/-- The settings of every channel are in `t` as in `s`, and so is TB1. -/
structure SameSetting (s t : State) : Prop where
  rd : ∀ d, ∀ a ∈ cnsSetting d, t.rd a = s.rd a
  run : t.tb1Run = s.tb1Run
  clock : t.clock = s.clock

section
variable {s t u : State} {c : Nat}

theorem SameSetting.of_keeps {as : List Nat} (h : s.keeps t as) (has : as ⊆ cnsShown c) (hclock : t.clock = s.clock) : SameSetting s t where
  rd _ a ha := h a fun hmem => setting_not_shown ha (has hmem)
  run := by
    refine congrArg (· == tbRUNNING) (fld_of_keeps h (fun hmem => ?_) STAY_STS_TB1STATE)
    have := has hmem
    simp only [cnsShown, List.mem_cons, List.not_mem_nil, or_false, STAY_STS, CNS_STS, CNS_WP, CNS_RP, CNS_REC_CNT, CNS_DROP_CNT,
      CNS_TRIG_IGN_CNT, CNS_WDROP_CNT] at this
    omega
  clock := hclock

theorem SameSetting.of_regs (h : t.regs = s.regs) (hclock : t.clock = s.clock) : SameSetting s t where
  rd _ a _ := congrArg (fun r => sget resetVal r a) h
  run := congrArg (fun r => getF (sget resetVal r STAY_STS) STAY_STS_TB1STATE == tbRUNNING) h
  clock := hclock

theorem SameSetting.trans (h : SameSetting s t) (k : SameSetting t u) : SameSetting s u where
  rd d a ha := (k.rd d a ha).trans (h.rd d a ha)
  run := k.run.trans h.run
  clock := k.clock.trans h.clock

theorem SameSetting.fld (h : SameSetting s t) (d : Nat) {a : Nat} (ha : a ∈ cnsSetting d) (f : Fld) : t.fld a f = s.fld a f :=
  congrArg (getF · f) (h.rd d a ha)

section
variable (h : SameSetting s t) (d : Nat)
include h

theorem SameSetting.kind : t.cKind d = s.cKind d := h.fld d (by simp [cnsSetting]) _
theorem SameSetting.mode : t.cMode d = s.cMode d := h.fld d (by simp [cnsSetting]) _
theorem SameSetting.pre : t.cPre d = s.cPre d := h.fld d (by simp [cnsSetting]) _
theorem SameSetting.post : t.cPost d = s.cPost d := h.fld d (by simp [cnsSetting]) _
theorem SameSetting.page : t.cPage d = s.cPage d := h.fld d (by simp [cnsSetting]) _
theorem SameSetting.pages : t.cPages d = s.cPages d := h.fld d (by simp [cnsSetting]) _
theorem SameSetting.trig (f : Fld) : t.fld (CNS_TRIG d) f = s.fld (CNS_TRIG d) f := h.fld d (by simp [cnsSetting]) _
theorem SameSetting.level (f : Fld) : t.fld (CNS_LVL d) f = s.fld (CNS_LVL d) f := h.fld d (by simp [cnsSetting]) _
theorem SameSetting.step : t.cStep d = s.cStep d := by
  rw [State.cStep, State.cStep, h.kind, State.cD, State.cD, h.fld d (by simp [cnsSetting]) _]
theorem SameSetting.nrec : t.cNrec d = s.cNrec d := by
  rw [State.cNrec, State.cNrec, h.mode, h.fld d (by simp [cnsSetting]) _]
theorem SameSetting.slot : t.cSlot d = s.cSlot d := by
  rw [State.cSlot, State.cSlot, h.pre, h.post, State.cNib, State.cNib, h.kind, State.cMinmax, State.cMinmax,
    h.fld d (by simp [cnsSetting]) CNS_CTL_DECM]
omit d in
theorem SameSetting.tb1 : t.tb1 = s.tb1 := by rw [State.tb1, State.tb1, h.run, h.clock]

theorem SameSetting.out (hstart : (t.cns d).start = (s.cns d).start) (p : Nat) : t.cOut d p = s.cOut d p := by
  rw [State.cOut, State.cOut, h.step, hstart]
theorem SameSetting.done (hstart : (t.cns d).start = (s.cns d).start) (p : Nat) : t.cDone d p = s.cDone d p := by
  rw [State.cDone, State.cDone, h.step, hstart]

end

@[simp] theorem cns_setCns_same (s : State) (c : Nat) (x : Cns) : (s.setCns c x).cns c = x := tget_tput_same ..
theorem cns_setCns_ne (s : State) (x : Cns) {c d : Nat} (h : d ≠ c) : (s.setCns c x).cns d = s.cns d := (tget_tput ..).trans (if_neg h)
@[simp] theorem cns_setF (s : State) (a : Nat) (f : Fld) (n d : Nat) : (s.setF a f n).cns d = s.cns d := rfl

theorem cnsSt_setCnsSt (s : State) (c : Nat) {v : Nat} (h : v < 8) : (s.setCnsSt c v).cnsSt c = v :=
  (fld_setF s (CNS_STS c) CNS_STS_CSTATE v (by decide)).trans (Nat.mod_eq_of_lt h)

theorem cnsSt_of_regs (h : t.regs = s.regs) (d : Nat) : t.cnsSt d = s.cnsSt d :=
  congrArg (fun r => getF (sget resetVal r (CNS_STS d)) CNS_STS_CSTATE) h

theorem cnsSts_inj {c d : Nat} (h : d ≠ c) : CNS_STS d ≠ CNS_STS c := by unfold CNS_STS; omega

/-- CSTATE leaves STATUS. -/
theorem status_setCnsSt (s : State) (c v : Nat) : (s.setCnsSt c v).fld (CNS_STS c) CNS_STS_STATUS = s.fld (CNS_STS c) CNS_STS_STATUS :=
  fld_setF_beside s _ CNS_STS_CSTATE CNS_STS_STATUS _ (by decide) (by decide) (by decide)

theorem cnsSt_status (s : State) (c code : Nat) : (s.status (CNS_STS c) code).cnsSt c = s.cnsSt c :=
  fld_setF_beside s _ CNS_STS_STATUS CNS_STS_CSTATE _ (by decide) (by decide) (by decide)

/-! ### A channel fills (R414, R416) -/

/-- A slot taken for the next record: its MAGIC is 0. -/
theorem cnsFill_spec (c at_ : Nat) (s : State) {a : Nat} (ha : a = 4096 * s.cPage c + s.cSlot c * ((s.cns c).recs % s.cNrec c)) :
    (cnsFill c at_ s).cnsSt c = capFILLING ∧ ((cnsFill c at_ s).cns c).start = ceilTo (s.cStep c) at_ ∧ ldBytes (cnsFill c at_ s).cnv.res a 4 = 0
      ∧ (∀ b, b < a ∨ a + 4 ≤ b → ldByte (cnsFill c at_ s).cnv.res b = ldByte s.cnv.res b)
      ∧ (cnsFill c at_ s).fld (CNS_STS c) CNS_STS_STATUS = s.fld (CNS_STS c) CNS_STS_STATUS
      ∧ s.keeps (cnsFill c at_ s) [CNS_STS c] ∧ ∃ r k v, cnsFill c at_ s = { s with regs := r, cap := k, cnv := v } := by
  subst ha
  refine ⟨cnsSt_setCnsSt _ _ (by decide), congrArg Cns.start (cns_setCns_same ..), ldBytes_stBytes .., fun b hb => ldByte_stBytes_ne _ _ _ _ _ hb,
    status_setCnsSt .., keeps_andWr (keeps_of_regs (keeps_rfl s _) rfl) (by simp), _, _, _, rfl⟩

theorem holdoffEnd_spec {a : Nat} (hst : s.cnsSt c = capHOLDOFF) (hend : s.reached (s.cns c).holdEnd = true)
    (ha : a = 4096 * s.cPage c + s.cSlot c * ((s.cns c).recs % s.cNrec c)) : ∃ t, exec (.cnsHoldoffEnd c) s = .next t ∧ t.cnsSt c = capFILLING
      ∧ (t.cns c).start = ceilTo (s.cStep c) (s.cns c).holdEnd
      ∧ ldBytes t.cnv.res a 4 = 0 ∧ s.keeps t [CNS_STS c] ∧ { t with regs := s.regs, cap := s.cap, cnv := s.cnv } = s := by
  obtain ⟨t, ht⟩ : ∃ t, t = cnsFill c (s.cns c).holdEnd s := ⟨_, rfl⟩
  obtain ⟨hstate, hstart, hmagic, _, _, hkeep, r, k, v, hframe⟩ := cnsFill_spec c (s.cns c).holdEnd s ha
  have hexec : exec (.cnsHoldoffEnd c) s = .next t := (congrArg Host.Outcome.next (if_pos ⟨hst, hend⟩)).trans (by rw [ht])
  rw [← ht] at hstate hstart hmagic hkeep hframe
  exact ⟨t, hexec, hstate, hstart, hmagic, hkeep, by rw [hframe]⟩

/-! ### ARM written (R413, R418, R419) -/

theorem rwMask_cnsCtl : ∀ c < 16, rwMask (CNS_CTL c) = 0xB30F0000 := by decide +kernel

theorem arm_wrCtl {w : Nat} (hc : c < 16) (hbit : bit w 31 = true) : (s.wrRW (CNS_CTL c) w).flag (CNS_CTL c) CNS_CTL_ARM = true :=
  (flag_wrRW s w (rwMask_cnsCtl c hc) (by decide) (by decide)).trans hbit

theorem mode_wrCtl {w : Nat} (hc : c < 16) : (s.wrRW (CNS_CTL c) w).cMode c = bits w 29 28 :=
  fld_wrRW s w (rwMask_cnsCtl c hc) (f := CNS_CTL_MODE) (by decide) (by decide)

/-- The arm that passed its checks, its counters cleared (R413). -/
def cnsCleared (c : Nat) (u : State) : State :=
  ((((u.status (CNS_STS c) 0).setCns c { (default : Cns) with start := ceilTo (u.cStep c) u.tb1 }).wrN
    (CNS_REC_CNT c) 0).wrN (CNS_WP c) 0).wrN (CNS_RP c) 0

/-- An arm accepted. -/
def cnsArmed (c : Nat) (u : State) : State :=
  if (cnsCleared c u).cMode c = 2 then (cnsCleared c u).setCnsSt c capSTREAMING else cnsFill c (cnsCleared c u).tb1 (cnsCleared c u)

theorem cnsCtlWrite_of_arm {v : Nat} (harm : s.flag (CNS_CTL c) CNS_CTL_ARM = false) (hbit : bit v 31 = true) : cnsCtlWrite c v s = cnsArm c v s :=
  (if_neg (by simp [harm])).trans (if_pos hbit)

theorem cnsArm_of_accepted {v : Nat} (h : (s.wrRW (CNS_CTL c) v).armCheck c = 0) : cnsArm c v s = cnsArmed c (s.wrRW (CNS_CTL c) v) :=
  if_neg (not_not_intro h)

theorem bit31_armed (v : Nat) : bit (2 ^ 31 + v % 2 ^ 31) 31 = true := by
  rw [bit, Nat.testBit_eq_decide_div_mod_eq, decide_eq_true_eq]
  omega

/-- The counters of a channel. -/
def cnsCounts (c : Nat) : List Nat := [CNS_STS c, CNS_REC_CNT c, CNS_WP c, CNS_RP c]

theorem keeps_cnsCleared (u : State) : u.keeps (cnsCleared c u) (cnsCounts c) :=
  keeps_andWr (keeps_andWr (keeps_andWr (keeps_of_regs (keeps_andWr (keeps_rfl u _) (by simp [cnsCounts])) rfl) (by simp [cnsCounts]))
    (by simp [cnsCounts])) (by simp [cnsCounts])

theorem same_cnsCleared (u : State) : SameSetting u (cnsCleared c u) :=
  .of_keeps (c := c) (keeps_cnsCleared u) (by simp [cnsCounts, cnsShown]) rfl

theorem cns_cnsCleared (u : State) : (cnsCleared c u).cns c = { (default : Cns) with start := ceilTo (u.cStep c) u.tb1 } :=
  cns_setCns_same ..

theorem cleared_spec (u : State) : (cnsCleared c u).fld (CNS_STS c) CNS_STS_STATUS = 0 ∧ (cnsCleared c u).rdN (CNS_REC_CNT c) = 0
    ∧ (cnsCleared c u).rdN (CNS_WP c) = 0 ∧ (cnsCleared c u).rdN (CNS_RP c) = 0 := by
  refine ⟨?_, ?_, ?_, rdN_wrN ..⟩
  · refine (fld_wrN_ne _ _ _ _ _ ?_).trans ((fld_wrN_ne _ _ _ _ _ ?_).trans ((fld_wrN_ne _ _ _ _ _ ?_).trans (fld_status ..))) <;>
      simp [CNS_STS, CNS_RP, CNS_WP, CNS_REC_CNT]
  · refine (rdN_wrN_ne _ _ _ _ ?_).trans ((rdN_wrN_ne _ _ _ _ ?_).trans (rdN_wrN ..)) <;> simp [CNS_RP, CNS_WP, CNS_REC_CNT]
  · exact (rdN_wrN_ne _ _ _ _ (by simp [CNS_RP, CNS_WP])).trans (rdN_wrN ..)

/-- What the accepted arm leaves of the cleared channel: only its state and, filling, the slot. -/
theorem cnsArmed_spec (u : State) : (cnsArmed c u).cnsSt c = (if u.cMode c = 2 then capSTREAMING else capFILLING)
    ∧ ((cnsArmed c u).cns c).start = ceilTo (u.cStep c) u.tb1
    ∧ (u.cMode c ≠ 2 → ldBytes (cnsArmed c u).cnv.res (4096 * u.cPage c) 4 = 0) ∧ (u.cMode c = 2 → (cnsArmed c u).cnv = u.cnv)
    ∧ (∀ b, b < 4096 * u.cPage c ∨ 4096 * u.cPage c + 4 ≤ b → ldByte (cnsArmed c u).cnv.res b = ldByte u.cnv.res b)
    ∧ (cnsArmed c u).fld (CNS_STS c) CNS_STS_STATUS = 0 ∧ (cnsCleared c u).keeps (cnsArmed c u) [CNS_STS c]
    ∧ ∃ r k v, cnsArmed c u = { u with regs := r, cap := k, cnv := v } := by
  have hsame := same_cnsCleared (c := c) u
  have hcns := cns_cnsCleared (c := c) u
  have hframe : ∃ r k, cnsCleared c u = { u with regs := r, cap := k } := ⟨_, _, rfl⟩
  have hstatus := (cleared_spec (c := c) u).1
  obtain ⟨d, hd⟩ : ∃ d, d = cnsCleared c u := ⟨_, rfl⟩
  unfold cnsArmed
  rw [← hd] at hsame hcns hframe hstatus ⊢
  obtain ⟨r, k, hdu⟩ := hframe
  have hcnv : d.cnv = u.cnv := by rw [hdu]
  rw [← hsame.mode]
  by_cases hmode : d.cMode c = 2
  · rw [if_pos hmode, if_pos hmode]
    refine ⟨cnsSt_setCnsSt _ _ (by decide), by rw [State.setCnsSt, cns_setF, hcns], fun h => absurd hmode h, fun _ => hcnv,
      fun b _ => congrArg (fun v : Cnv => ldByte v.res b) hcnv, (status_setCnsSt ..).trans hstatus, (onlyRegs_setF ..).2, ?_⟩
    rw [hdu]
    exact ⟨_, _, _, rfl⟩
  · rw [if_neg hmode, if_neg hmode]
    have ha : 4096 * u.cPage c = 4096 * d.cPage c + d.cSlot c * ((d.cns c).recs % d.cNrec c) := by
      rw [hsame.page, hcns, show (default : Cns).recs = 0 from rfl, Nat.zero_mod, Nat.mul_zero, Nat.add_zero]
    obtain ⟨hst, hstart, hmagic, hrest, hsts, hkeep, r', k', v', hfill⟩ := cnsFill_spec c d.tb1 d ha
    refine ⟨hst, ?_, fun _ => hmagic, fun h => absurd h hmode, fun b hb => (hrest b hb).trans (congrArg (fun v : Cnv => ldByte v.res b) hcnv),
      hsts.trans hstatus, hkeep, ?_⟩
    · rw [hstart, hsame.step, hsame.tb1]
    · rw [hfill, hdu]
      exact ⟨_, _, _, rfl⟩

theorem arm_spec {v w : Nat} (hc : c < 16) (hopen : s.opens (CNS_CTL c)) (harm : s.flag (CNS_CTL c) CNS_CTL_ARM = false)
    (hw : w = 2 ^ 31 + v % 2 ^ 31) (hu : u = s.wrRW (CNS_CTL c) w) (hcheck : u.armCheck c = 0) : ∃ t, exec (.cnsArm c v) s = .next t
      ∧ t.rd (CNS_CTL c) = u.rd (CNS_CTL c) ∧ t.flag (CNS_CTL c) CNS_CTL_ARM = true
      ∧ t.fld (CNS_STS c) CNS_STS_STATUS = 0 ∧ t.rdN (CNS_REC_CNT c) = 0 ∧ t.rdN (CNS_WP c) = 0 ∧ t.rdN (CNS_RP c) = 0
      ∧ t.cnsSt c = (if bits w 29 28 = 2 then capSTREAMING else capFILLING) ∧ (t.cns c).start = ceilTo (t.cStep c) s.tb1
      ∧ (bits w 29 28 ≠ 2 → ldBytes t.cnv.res (4096 * s.cPage c) 4 = 0) ∧ (bits w 29 28 = 2 → t.cnv = s.cnv)
      ∧ (∀ b, b < 4096 * s.cPage c ∨ 4096 * s.cPage c + 4 ≤ b → ldByte t.cnv.res b = ldByte s.cnv.res b)
      ∧ s.keeps t [CNS_CTL c, CNS_STS c, CNS_REC_CNT c, CNS_WP c, CNS_RP c] ∧ { t with regs := s.regs, cap := s.cap, cnv := s.cnv } = s := by
  have hbit : bit w 31 = true := hw ▸ bit31_armed v
  have hmode : u.cMode c = bits w 29 28 := hu ▸ mode_wrCtl hc
  have harmed : u.flag (CNS_CTL c) CNS_CTL_ARM = true := hu ▸ arm_wrCtl hc hbit
  have honly : s.onlyRegs u [CNS_CTL c] := hu ▸ onlyRegs_wr ..
  have hpage : u.cPage c = s.cPage c := fld_of_onlyRegs honly (by simp [CNS_REGION, CNS_CTL]) _
  have hrun : u.tb1Run = s.tb1Run := congrArg (· == tbRUNNING)
    (fld_of_onlyRegs honly (by simp only [List.mem_singleton, STAY_STS, CNS_CTL]; omega) STAY_STS_TB1STATE)
  have hframeu := eq_of_onlyRegs honly
  have htb1 : u.tb1 = s.tb1 := by rw [State.tb1, State.tb1, hrun, clock_of_onlyRegs honly]
  have hcnv : u.cnv = s.cnv := cnv_of_onlyRegs honly
  have hexec : exec (.cnsArm c v) s = .next (cnsArmed c u) := by
    subst hw hu
    exact next_hostWr hopen ((cnsCtlWrite_of_arm harm hbit).trans (cnsArm_of_accepted hcheck))
  have hclear := keeps_cnsCleared (c := c) u
  obtain ⟨_, hrec, hwp, hrp⟩ := cleared_spec (c := c) u
  obtain ⟨hst, hstart, hmagic, hsame, hrest, hsts, hkeep, r, k, q, hframe⟩ := cnsArmed_spec (c := c) u
  obtain ⟨t, ht⟩ : ∃ t, t = cnsArmed c u := ⟨_, rfl⟩
  rw [← ht] at hexec hst hstart hmagic hsame hrest hsts hkeep hframe
  have hall : u.keeps t (cnsCounts c) := keeps_trans hclear hkeep (List.Subset.refl _) (by simp [cnsCounts])
  have hset : SameSetting u t := .of_keeps (c := c) hall (by simp [cnsCounts, cnsShown]) (by rw [hframe])
  have hctl : CNS_CTL c ∉ cnsCounts c := by simp [cnsCounts, CNS_CTL, CNS_STS, CNS_REC_CNT, CNS_WP, CNS_RP]
  rw [← hmode, ← hpage, ← hcnv]
  refine ⟨t, hexec, hall _ hctl, (congrArg (· == 1) (fld_of_keeps hall hctl CNS_CTL_ARM)).trans harmed, hsts,
    (rdN_of_keeps hkeep ?_).trans hrec, (rdN_of_keeps hkeep ?_).trans hwp, (rdN_of_keeps hkeep ?_).trans hrp, hst, ?_, hmagic, hsame, hrest,
    keeps_trans honly.2 hall (by simp) (by simp [cnsCounts]), ?_⟩
  · simp [CNS_REC_CNT, CNS_STS]
  · simp [CNS_WP, CNS_STS]
  · simp [CNS_RP, CNS_STS]
  · rw [hstart, hset.step, htb1]
  · rw [hframe, hframeu]

theorem armCheck_lt (s : State) (c : Nat) : s.armCheck c < 2 ^ 16 := by
  unfold State.armCheck
  dsimp only
  repeat' split
  all_goals decide

theorem arm_refused {v : Nat} (hopen : s.opens (CNS_CTL c)) (harm : s.flag (CNS_CTL c) CNS_CTL_ARM = false)
    (hcheck : (s.wrRW (CNS_CTL c) (2 ^ 31 + v % 2 ^ 31)).armCheck c ≠ 0) : ∃ t, exec (.cnsArm c v) s = .next t
      ∧ t.fld (CNS_STS c) CNS_STS_STATUS = (s.wrRW (CNS_CTL c) (2 ^ 31 + v % 2 ^ 31)).armCheck c
      ∧ s.onlyRegs t [CNS_STS c, IMG_DENY, IMG_DENY_CNT] :=
  ⟨_, next_hostWr hopen ((cnsCtlWrite_of_arm harm (bit31_armed v)).trans (if_pos hcheck)), fld_status_of_lt _ _ (armCheck_lt ..),
    onlyRegs_trans (onlyRegs_denyIf ..) (onlyRegs_status ..) (by simp) (by simp)⟩

section
variable {v : Nat} (hopen : s.opens (CNS_CTL c)) (harm : s.flag (CNS_CTL c) CNS_CTL_ARM = true)
include hopen harm

/-- ARM cleared and nothing else: the channel closes (R419). -/
theorem disarm_spec (hsame : (v % 2 ^ 31) &&& (rwMask (CNS_CTL c)).toNat = s.rdN (CNS_CTL c) - 2 ^ 31) (hon : s.cnsSt c ≠ capOFF) :
    ∃ t, exec (.cnsDisarm c v) s = .next t ∧ t.flag (CNS_CTL c) CNS_CTL_ARM = false ∧ t.fld (CNS_STS c) CNS_STS_STATUS = 0
      ∧ (s.cnsSt c ≠ capTRIGGERED → t.cnsSt c = capIDLE ∧ t.cap = s.cap)
      ∧ (s.cnsSt c = capTRIGGERED → t.cnsSt c = capTRIGGERED ∧ t.cns c = { s.cns c with closing := 1, closeAt := s.tb1 })
      ∧ s.keeps t [CNS_CTL c, CNS_STS c] ∧ { t with regs := s.regs, cap := s.cap } = s := by
  have hne : CNS_CTL c ≠ CNS_STS c := by simp [CNS_CTL, CNS_STS]
  obtain ⟨u, hu⟩ : ∃ u, u = s.setF (CNS_CTL c) CNS_CTL_ARM 0 := ⟨_, rfl⟩
  have honly : s.onlyRegs u [CNS_CTL c] := hu ▸ onlyRegs_setF ..
  have hst : u.cnsSt c = s.cnsSt c := fld_of_onlyRegs honly (by simp [hne.symm]) _
  have hclear : u.flag (CNS_CTL c) CNS_CTL_ARM = false := by rw [hu]; exact flag_setF_same _ _ _ _ (by decide) (by decide)
  have hrun : u.tb1Run = s.tb1Run := congrArg (· == tbRUNNING)
    (fld_of_onlyRegs honly (by simp only [List.mem_singleton, STAY_STS, CNS_CTL]; omega) STAY_STS_TB1STATE)
  have htb1 : u.tb1 = s.tb1 := by rw [State.tb1, State.tb1, hrun, clock_of_onlyRegs honly]
  have hframe := eq_of_onlyRegs honly
  have hcns : u.cns c = s.cns c := by rw [hframe]; rfl
  have harmed (w : State) (code : Nat) (h : w.flag (CNS_CTL c) CNS_CTL_ARM = false) : (w.status (CNS_STS c) code).flag (CNS_CTL c) CNS_CTL_ARM = false :=
    (congrArg (· == 1) (fld_status_ne _ _ _ hne)).trans h
  have hwrite : cnsCtlWrite c (v % 2 ^ 31) s = (cnsClose c 1 s).status (CNS_STS c) 0 := (if_pos harm).trans (if_pos hsame)
  have hclose : cnsClose c 1 s = if u.cnsSt c = capOFF ∨ u.cnsSt c = capIDLE then u
      else if u.cnsSt c = capTRIGGERED then u.setCns c { u.cns c with closing := 1, closeAt := u.tb1 } else u.setCnsSt c capIDLE := by rw [hu]; rfl
  rw [hst, hcns, htb1] at hclose
  rw [hclose] at hwrite
  refine ⟨_, next_hostWr hopen hwrite, ?_⟩
  by_cases hidle : s.cnsSt c = capOFF ∨ s.cnsSt c = capIDLE
  · have hsts : s.cnsSt c = capIDLE := hidle.resolve_left hon
    rw [if_pos hidle]
    refine ⟨harmed _ _ hclear, fld_status .., fun _ => ⟨(cnsSt_status ..).trans (hst.trans hsts), ?_⟩, fun h => ?_, ?_, ?_⟩
    · rw [hframe]
      rfl
    · rw [h] at hsts
      exact absurd hsts (by decide)
    · exact keeps_trans honly.2 (onlyRegs_status ..).2 (by simp) (by simp)
    · rw [hframe]
      rfl
  · rw [if_neg hidle]
    by_cases htrig : s.cnsSt c = capTRIGGERED
    · rw [if_pos htrig]
      refine ⟨harmed _ _ hclear, fld_status .., fun h => absurd htrig h, fun _ => ⟨(cnsSt_status ..).trans (hst.trans htrig), ?_⟩, ?_, ?_⟩
      · rw [State.status, cns_setF, cns_setCns_same]
      · exact keeps_trans honly.2 (keeps_andWr (keeps_of_regs (keeps_rfl u [CNS_STS c]) rfl) (by simp)) (by simp) (by simp)
      · rw [hframe]
        rfl
    · rw [if_neg htrig]
      refine ⟨harmed _ _ ((congrArg (· == 1) (fld_setF_ne _ _ _ _ _ _ hne)).trans hclear), fld_status ..,
        fun _ => ⟨(cnsSt_status ..).trans (cnsSt_setCnsSt _ _ (by decide)), ?_⟩, fun h => absurd h htrig, ?_, ?_⟩
      · rw [hframe]
        rfl
      · exact keeps_trans honly.2 (keeps_andWr (keeps_andWr (keeps_rfl u [CNS_STS c]) (by simp)) (by simp)) (by simp) (by simp)
      · rw [hframe]
        rfl

theorem disarm_refused (hdiff : (v % 2 ^ 31) &&& (rwMask (CNS_CTL c)).toNat ≠ s.rdN (CNS_CTL c) - 2 ^ 31) :
    ∃ t, exec (.cnsDisarm c v) s = .next t ∧ t.fld (CNS_STS c) CNS_STS_STATUS = E_CNS_RUNNING
      ∧ t.rdN (CNS_WDROP_CNT c) = min 0xFFFFFFFF (s.rdN (CNS_WDROP_CNT c) + 1) ∧ s.onlyRegs t [CNS_STS c, CNS_WDROP_CNT c] := by
  have hne : CNS_STS c ≠ CNS_WDROP_CNT c := by simp [CNS_STS, CNS_WDROP_CNT]
  refine ⟨_, next_hostWr hopen ((if_pos harm).trans (if_neg hdiff)), (fld_inc_ne _ _ _ _ hne).trans (fld_status_of_lt _ _ (by decide)), ?_,
    onlyRegs_trans (onlyRegs_status ..) (onlyRegs_inc ..) (by simp) (by simp)⟩
  rw [rdN_inc, rdN_status _ _ hne.symm]

end

/-! ### Triggers (R408 to R412) -/

/-- What follows a trigger of channel `c`: other channels get an event, and nothing else changes. -/
structure Followed (c inst : Nat) (ds : List Nat) (s t : State) : Prop where
  frame : ∃ k, t = { s with cap := k }
  apart : ∀ d, d ∉ ds ∨ s.fld (CNS_TRIG d) CNS_TRIG_SRC ≠ 2 → t.cns d = s.cns d
  told : ds.Nodup → ∀ d ∈ ds, s.fld (CNS_TRIG d) CNS_TRIG_SRC = 2 → s.cnsSt d ≠ capOFF → s.cnsSt d ≠ capIDLE →
    (t.cns d).evs = (s.cns d).evs ++ [(2, inst)]

theorem cnsEvent_frame (d src inst : Nat) (s : State) : (∃ k, cnsEvent d src inst s = { s with cap := k })
    ∧ ∀ e, e ≠ d → (cnsEvent d src inst s).cns e = s.cns e := by
  unfold cnsEvent
  split
  · exact ⟨⟨_, rfl⟩, fun e he => cns_setCns_ne _ _ he⟩
  · exact ⟨⟨s.cap, rfl⟩, fun _ _ => rfl⟩

theorem followed_forEach (c inst : Nat) (ds : List Nat) (s : State) : Followed c inst ds s (forEach ds s fun d s => cnsEvent d 2 inst s) := by
  induction ds generalizing s with
  | nil => exact ⟨⟨s.cap, rfl⟩, fun _ _ => rfl, by simp⟩
  | cons e ds ih =>
    obtain ⟨⟨k, hk⟩, hother⟩ := cnsEvent_frame e 2 inst s
    obtain ⟨⟨k', hframe⟩, hapart, htold⟩ := ih (cnsEvent e 2 inst s)
    have hfld (d : Nat) : (cnsEvent e 2 inst s).fld (CNS_TRIG d) CNS_TRIG_SRC = s.fld (CNS_TRIG d) CNS_TRIG_SRC := by rw [hk]; rfl
    have hst (d : Nat) : (cnsEvent e 2 inst s).cnsSt d = s.cnsSt d := by rw [hk]; rfl
    refine ⟨⟨k', hframe.trans (by rw [hk])⟩, fun d hd => ?_, fun hnd d hd hsrc hoff hidle => ?_⟩
    · rcases hd with hd | hd
      · rw [List.mem_cons, not_or] at hd
        exact (hapart d (.inl hd.2)).trans (hother d hd.1)
      · refine (hapart d (.inr (by rw [hfld]; exact hd))).trans ?_
        by_cases he : d = e
        · subst he
          exact congrArg (State.cns · d) (if_neg fun h => hd h.1)
        · exact hother d he
    · rw [List.nodup_cons] at hnd
      rcases List.mem_cons.mp hd with rfl | hd
      · have hgo : cnsEvent d 2 inst s = s.setCns d { s.cns d with evs := (s.cns d).evs ++ [(2, inst)] } := if_pos ⟨hsrc, hoff, hidle⟩
        refine (congrArg Cns.evs (hapart d (.inl hnd.1))).trans ?_
        rw [hgo, cns_setCns_same]
      · refine (htold hnd.2 d hd (by rw [hfld]; exact hsrc) (by rw [hst]; exact hoff) (by rw [hst]; exact hidle)).trans ?_
        rw [hother d fun he => hnd.1 (he ▸ hd)]

/-- The trigger of a channel in FILLING taken (R410). -/
def trigTaken (c src inst p : Nat) (s : State) : State :=
  (s.setCns c { s.cns c with trig := some ⟨src, inst, p, src == 7, s.cDone c s.tb1⟩ }).setCnsSt c capTRIGGERED

section
variable {src inst p : Nat}

theorem cnsTrig_of_held (hst : s.cnsSt c = capFILLING) (hstart : (s.cns c).start ≤ p)
    (hheld : s.cDone c s.tb1 ≤ s.cOut c p + s.cPre c + s.cPost c) : cnsTrig c src inst p s = cnsFollow c inst (trigTaken c src inst p s) :=
  (if_neg (by rw [hst]; decide)).trans ((if_pos hst).trans (if_pos (by simp [hstart, hheld])))

/-- A held trigger, and the channels told of it. -/
structure TrigHeld (c src inst p : Nat) (s t : State) : Prop where
  state : t.cnsSt c = capTRIGGERED
  trig : s.fld (CNS_TRIG c) CNS_TRIG_SRC ≠ 2 ∨ s.fld (CNS_TRIG c) CNS_TRIG_TSEL ≠ c →
    t.cns c = { s.cns c with trig := some ⟨src, inst, p, src == 7, s.cDone c s.tb1⟩ }
  told : ∀ d, d < 16 → d ≠ c → s.fld (CNS_TRIG d) CNS_TRIG_SRC = 2 → s.fld (CNS_TRIG d) CNS_TRIG_TSEL = c → s.cnsSt d ≠ capOFF →
    s.cnsSt d ≠ capIDLE → (t.cns d).evs = (s.cns d).evs ++ [(2, inst)]
  keeps : s.keeps t [CNS_STS c]
  frame : ∃ r k, t = { s with regs := r, cap := k }

theorem trigHeld_of_held (hst : s.cnsSt c = capFILLING) (hstart : (s.cns c).start ≤ p)
    (hheld : s.cDone c s.tb1 ≤ s.cOut c p + s.cPre c + s.cPost c) : TrigHeld c src inst p s (cnsTrig c src inst p s) := by
  rw [cnsTrig_of_held hst hstart hheld]
  have hu : s.keeps (trigTaken c src inst p s) [CNS_STS c] := keeps_andWr (keeps_of_regs (keeps_rfl s _) rfl) (by simp)
  have hframe : ∃ r k, trigTaken c src inst p s = { s with regs := r, cap := k } := ⟨_, _, rfl⟩
  have hstate : (trigTaken c src inst p s).cnsSt c = capTRIGGERED := cnsSt_setCnsSt _ _ (by decide)
  have hcns : (trigTaken c src inst p s).cns c = { s.cns c with trig := some ⟨src, inst, p, src == 7, s.cDone c s.tb1⟩ } := cns_setCns_same ..
  have hne (d : Nat) (h : d ≠ c) : (trigTaken c src inst p s).cns d = s.cns d := cns_setCns_ne _ _ h
  obtain ⟨u, hut⟩ : ∃ u, u = trigTaken c src inst p s := ⟨_, rfl⟩
  rw [← hut] at hu hframe hstate hcns hne ⊢
  have htrig (d : Nat) (f : Fld) : u.fld (CNS_TRIG d) f = s.fld (CNS_TRIG d) f :=
    fld_of_keeps hu (by simp only [List.mem_singleton, CNS_TRIG, CNS_STS]; omega) f
  have hfollow := followed_forEach c inst ((List.range 16).filter fun d => u.fld (CNS_TRIG d) CNS_TRIG_TSEL == c) u
  rw [show forEach _ u _ = cnsFollow c inst u from rfl] at hfollow
  obtain ⟨⟨k, hk⟩, hapart, htold⟩ := hfollow
  obtain ⟨r, k₀, hus⟩ := hframe
  refine ⟨?_, fun h => ?_, fun d hd hdc hsrc hsel hoff hidle => ?_, ?_, r, k, ?_⟩
  · rw [hk]
    exact hstate
  · refine (hapart c ?_).trans hcns
    rcases h with h | h
    · exact .inr (by rw [htrig]; exact h)
    · exact .inl (by simp [htrig, h])
  · have hstd : u.cnsSt d = s.cnsSt d := fld_of_keeps hu (by simp [cnsSts_inj hdc]) _
    rw [htold (List.Nodup.filter _ List.nodup_range) d (by simp [htrig, hd, hsel]) (by rw [htrig]; exact hsrc) (by rw [hstd]; exact hoff)
      (by rw [hstd]; exact hidle), hne d hdc]
  · exact keeps_of_regs hu (by rw [hk])
  · rw [hk, hus]

theorem TrigHeld.frame_eq (h : TrigHeld c src inst p s t) : { t with regs := s.regs, cap := s.cap } = s := by
  obtain ⟨r, k, hk⟩ := h.frame
  rw [hk]

theorem force_spec (hopen : s.opens (CNS_FORCE c)) (hst : s.cnsSt c = capFILLING) (hp : p = ceilTo (tapPeriod (s.cKind c)) s.tb1)
    (hstart : (s.cns c).start ≤ p) (hheld : s.cDone c s.tb1 ≤ s.cOut c p + s.cPre c + s.cPost c) :
    ∃ t, exec (.cnsForce c) s = .next t ∧ TrigHeld c 7 s.tb1 p s t := by
  subst hp
  have hforce : cnsForce c 1 s = cnsTrigger c 7 s.tb1 [] s := if_pos rfl
  have htrigger : cnsTrigger c 7 s.tb1 [] s = cnsTrig c 7 s.tb1 (ceilTo (tapPeriod (s.cKind c)) s.tb1) s := by
    rw [cnsTrigger, if_neg (by decide : 7 ≠ 1), if_pos rfl, if_pos rfl]
  exact ⟨_, next_hostWr hopen (hforce.trans htrigger), trigHeld_of_held hst hstart hheld⟩

section
variable {xs : List Int} (hsrc1 : src ≠ 1) (hsrc7 : src ≠ 7) (hev : (s.cns c).evs.contains (src, inst) = true)
include hsrc1 hsrc7 hev

/-- The event has reached the channel. -/
def evTaken (c src inst : Nat) (s : State) : State := s.setCns c { s.cns c with evs := (s.cns c).evs.erase (src, inst) }

omit hsrc1 hsrc7 hev in
theorem same_evTaken : SameSetting s (evTaken c src inst s) := .of_regs rfl rfl

theorem cnsTrigger_of_late (hlate : inst + 1024 < s.tb1) : cnsTrigger c src inst xs s = evTaken c src inst s := by
  have h := (same_evTaken (s := s) (c := c) (src := src) (inst := inst)).tb1
  exact (if_neg hsrc1).trans ((if_neg hsrc7).trans ((if_pos hev).trans (if_pos (by rw [← h] at hlate; exact hlate))))

theorem cnsTrigger_of_event (htime : s.tb1 ≤ inst + 1024) :
    cnsTrigger c src inst xs s = cnsTrig c src inst (ceilTo (tapPeriod (s.cKind c)) inst) (evTaken c src inst s) := by
  have h := (same_evTaken (s := s) (c := c) (src := src) (inst := inst)).tb1
  exact (if_neg hsrc1).trans ((if_neg hsrc7).trans ((if_pos hev).trans (if_neg (by rw [← h] at htime; exact Nat.not_lt.mpr htime))))

theorem event_spec (htime : s.tb1 ≤ inst + 1024) (hst : s.cnsSt c = capFILLING) (hp : p = ceilTo (tapPeriod (s.cKind c)) inst)
    (hstart : (s.cns c).start ≤ p) (hheld : s.cDone c s.tb1 ≤ s.cOut c p + s.cPre c + s.cPost c)
    (hself : s.fld (CNS_TRIG c) CNS_TRIG_SRC ≠ 2 ∨ s.fld (CNS_TRIG c) CNS_TRIG_TSEL ≠ c) :
    ∃ t, exec (.cnsTrigger c src inst xs) s = .next t ∧ t.cnsSt c = capTRIGGERED
      ∧ t.cns c = { s.cns c with evs := (s.cns c).evs.erase (src, inst), trig := some ⟨src, inst, p, false, s.cDone c s.tb1⟩ }
      ∧ (∀ d, d < 16 → d ≠ c → s.fld (CNS_TRIG d) CNS_TRIG_SRC = 2 → s.fld (CNS_TRIG d) CNS_TRIG_TSEL = c → s.cnsSt d ≠ capOFF → s.cnsSt d ≠ capIDLE →
          (t.cns d).evs = (s.cns d).evs ++ [(2, inst)])
      ∧ s.keeps t [CNS_STS c] ∧ { t with regs := s.regs, cap := s.cap } = s := by
  have hsame := same_evTaken (s := s) (c := c) (src := src) (inst := inst)
  have hcns : (evTaken c src inst s).cns c = { s.cns c with evs := (s.cns c).evs.erase (src, inst) } := cns_setCns_same ..
  have hother (d : Nat) (h : d ≠ c) : (evTaken c src inst s).cns d = s.cns d := cns_setCns_ne _ _ h
  have hregs : (evTaken c src inst s).regs = s.regs := rfl
  have hframe : ∃ k, evTaken c src inst s = { s with cap := k } := ⟨_, rfl⟩
  have hexec : exec (.cnsTrigger c src inst xs) s = .next (cnsTrig c src inst (ceilTo (tapPeriod (s.cKind c)) inst) (evTaken c src inst s)) :=
    congrArg Host.Outcome.next (cnsTrigger_of_event hsrc1 hsrc7 hev htime)
  obtain ⟨u, hu⟩ : ∃ u, u = evTaken c src inst s := ⟨_, rfl⟩
  rw [← hu] at hsame hcns hother hregs hframe hexec
  have hst' (d : Nat) : u.cnsSt d = s.cnsSt d := cnsSt_of_regs hregs d
  have hstarts : (u.cns c).start = (s.cns c).start := by rw [hcns]
  have hseen : u.cDone c u.tb1 = s.cDone c s.tb1 := by rw [hsame.tb1, hsame.done c hstarts]
  have hh : TrigHeld c src inst p u (cnsTrig c src inst p u) := by
    refine trigHeld_of_held ((hst' c).trans hst) (hstarts ▸ hstart) ?_
    rw [hseen, hsame.out c hstarts, hsame.pre, hsame.post]
    exact hheld
  rw [← hp] at hexec
  refine ⟨_, hexec, hh.state, ?_, fun d hd hdc hsrc hsel hoff hidle => ?_, keeps_trans (keeps_of_regs (keeps_rfl s []) hregs) hh.keeps (by simp) (by simp), ?_⟩
  · rw [hh.trig (by rw [hsame.trig, hsame.trig]; exact hself), hcns, hseen, beq_false_of_ne hsrc7]
  · rw [hh.told d hd hdc (by rw [hsame.trig]; exact hsrc) (by rw [hsame.trig]; exact hsel) (by rw [hst']; exact hoff) (by rw [hst']; exact hidle),
      hother d hdc]
  · obtain ⟨r, k, hk⟩ := hh.frame
    obtain ⟨k₀, hk₀⟩ := hframe
    rw [hk, hk₀]

theorem event_late (hlate : inst + 1024 < s.clock.tb1) (hrun : s.tb1Run = true) :
    ∃ t, exec (.cnsTrigger c src inst xs) s = .next t ∧ t.cns c = { s.cns c with evs := (s.cns c).evs.erase (src, inst) }
      ∧ t.regs = s.regs ∧ { t with cap := s.cap } = s := by
  have htb1 : s.tb1 = s.clock.tb1 := if_pos hrun
  exact ⟨_, congrArg Host.Outcome.next (cnsTrigger_of_late hsrc1 hsrc7 hev (by rw [htb1]; exact hlate)), cns_setCns_same .., rfl, rfl⟩

theorem event_ignored (htime : s.tb1 ≤ inst + 1024) (hst : s.cnsSt c = capHOLDOFF) :
    ∃ t, exec (.cnsTrigger c src inst xs) s = .next t ∧ t.rdN (CNS_TRIG_IGN_CNT c) = min 0xFFFFFFFF (s.rdN (CNS_TRIG_IGN_CNT c) + 1)
      ∧ t.cns c = { s.cns c with evs := (s.cns c).evs.erase (src, inst) }
      ∧ s.keeps t [CNS_TRIG_IGN_CNT c] ∧ { t with regs := s.regs, cap := s.cap } = s := by
  have hst' : (evTaken c src inst s).cnsSt c = capHOLDOFF := hst
  exact ⟨_, congrArg Host.Outcome.next ((cnsTrigger_of_event hsrc1 hsrc7 hev htime).trans (if_pos hst')), rdN_inc .., cns_setCns_same ..,
    keeps_andWr (keeps_of_regs (keeps_rfl s _) rfl) (by simp), rfl⟩

end

/-- A LEVEL trigger (R408): the one sample of the run that triggers. -/
theorem level_spec {xs : List Int} {r : Bool} {i : Nat} (hsrc : s.fld (CNS_TRIG c) CNS_TRIG_SRC = 1) (hst : s.cnsSt c = capFILLING)
    (hscan : levelScan (s.fld (CNS_TRIG c) CNS_TRIG_SLOPE) (sgn 16 (s.fld (CNS_LVL c) CNS_LVL_LEVEL)) (s.fld (CNS_LVL c) CNS_LVL_HYST)
      (s.cns c).ready 0 xs = (r, [i])) (hp : p = ceilTo (tapPeriod (s.cKind c)) inst + i * tapPeriod (s.cKind c))
    (hstart : (s.cns c).start ≤ p) (hheld : s.cDone c s.tb1 ≤ s.cOut c p + s.cPre c + s.cPost c) :
    ∃ t, exec (.cnsTrigger c 1 inst xs) s = .next t ∧ t.cnsSt c = capTRIGGERED
      ∧ t.cns c = { s.cns c with trig := some ⟨1, p, p, false, s.cDone c s.tb1⟩, ready := r }
      ∧ s.keeps t [CNS_STS c] ∧ { t with regs := s.regs, cap := s.cap } = s := by
  obtain ⟨u, hu⟩ : ∃ u, u = s.setCns c { s.cns c with ready := r } := ⟨_, rfl⟩
  have hexec : exec (.cnsTrigger c 1 inst xs) s = .next (cnsTrig c 1 p p u) := by
    have htrigger : cnsTrigger c 1 inst xs s = cnsTrig c 1 p p u := by
      rw [cnsTrigger, if_pos rfl, if_pos ⟨hsrc, by rw [hst]; decide, by rw [hst]; decide⟩, hscan, hu, hp]
      rfl
    exact congrArg Host.Outcome.next htrigger
  have hregs : u.regs = s.regs := by rw [hu]; rfl
  have hsame : SameSetting s u := .of_regs hregs (by rw [hu]; rfl)
  have hcns : u.cns c = { s.cns c with ready := r } := by rw [hu, cns_setCns_same]
  have hstarts : (u.cns c).start = (s.cns c).start := by rw [hcns]
  have hseen : u.cDone c u.tb1 = s.cDone c s.tb1 := by rw [hsame.tb1, hsame.done c hstarts]
  have hh : TrigHeld c 1 p p u (cnsTrig c 1 p p u) := by
    refine trigHeld_of_held ((cnsSt_of_regs hregs c).trans hst) (hstarts ▸ hstart) ?_
    rw [hseen, hsame.out c hstarts, hsame.pre, hsame.post]
    exact hheld
  refine ⟨_, hexec, hh.state, ?_, keeps_trans (keeps_of_regs (keeps_rfl s []) hregs) hh.keeps (by simp) (by simp), ?_⟩
  · rw [hh.trig (by rw [hsame.trig, hsrc]; exact .inl (by decide)), hcns, hseen]
    rfl
  · obtain ⟨r, k, hk⟩ := hh.frame
    rw [hk, hu]
    rfl

end

/-! ### Records (R413 to R417) -/

/-- The record written and counted, the channel's account of it closed. -/
def recordWritten (c drops next : Nat) (res : Store) (s : State) : State :=
  let a := 4096 * s.cPage c + s.cSlot c * ((s.cns c).recs % s.cNrec c)
  ((({ s with cnv := { s.cnv with res := stBytes res a 4 0x52534E43 } }).incBy (CNS_DROP_CNT c) drops).inc (CNS_REC_CNT c)).setCns c
    { s.cns c with trig := none, recs := (s.cns c).recs + 1, closing := 0, holdEnd := next }

/-- The channel's next state. -/
def recordEnded (c drops next : Nat) (res : Store) (s : State) : State :=
  if (recordWritten c drops next res s).cMode c = 1 ∧ (s.cns c).recs + 1 < (recordWritten c drops next res s).cNrec c
    then (recordWritten c drops next res s).setCnsSt c capHOLDOFF else (recordWritten c drops next res s).setCnsSt c capDONE

theorem cnsRecordEnd_of_due {xs drops : List Nat} {uns : Bool} {g : CTrig} (htrig : (s.cns c).trig = some g) (hst : s.cnsSt c = capTRIGGERED)
    (hopen : (s.cns c).closing = 0) (hpost : 0 < s.cPost c)
    (hdue : s.reached ((s.cns c).start + (s.cOut c g.t + s.cPost c) * s.cStep c - tapPeriod (s.cKind c)) = true) :
    ∃ next res, cnsRecordEnd c xs drops uns s = recordEnded c drops.length next res s := by
  have hlen : (if (if (s.cns c).closing = 0 then s.cOut c g.t + s.cPost c else min (s.cOut c g.t + s.cPost c) (s.cDone c (s.cns c).closeAt + 1)) ≤ s.cOut c g.t
      then 1 else (if (s.cns c).closing = 0 then s.cOut c g.t + s.cPost c else min (s.cOut c g.t + s.cPost c) (s.cDone c (s.cns c).closeAt + 1))
        - s.cOut c g.t) = s.cPost c := by
    rw [if_pos hopen, if_neg (by omega)]
    omega
  unfold cnsRecordEnd
  dsimp only
  rw [htrig]
  dsimp only
  rw [hlen]
  refine ⟨_, _, (if_neg ?_).trans (if_neg (not_not_intro hopen))⟩
  simp [hst, hdue]

section
variable {n next : Nat} {res : Store}

/-- The registers that a record counts in. -/
def recordCounts (c : Nat) : List Nat := [CNS_REC_CNT c, CNS_DROP_CNT c]

theorem keeps_recordWritten : s.keeps (recordWritten c n next res s) (recordCounts c) :=
  keeps_of_regs (keeps_andWr (keeps_andWr (keeps_of_regs (keeps_rfl s _) rfl) (by simp [recordCounts])) (by simp [recordCounts])) rfl

theorem recordWritten_spec : (recordWritten c n next res s).cns c
      = { s.cns c with trig := none, recs := (s.cns c).recs + 1, closing := 0, holdEnd := next }
    ∧ ldBytes (recordWritten c n next res s).cnv.res (4096 * s.cPage c + s.cSlot c * ((s.cns c).recs % s.cNrec c)) 4 = 0x52534E43
    ∧ (recordWritten c n next res s).rdN (CNS_REC_CNT c) = min 0xFFFFFFFF (s.rdN (CNS_REC_CNT c) + 1)
    ∧ (recordWritten c n next res s).rdN (CNS_DROP_CNT c) = min 0xFFFFFFFF (s.rdN (CNS_DROP_CNT c) + n)
    ∧ ∃ r k v, recordWritten c n next res s = { s with regs := r, cap := k, cnv := v } := by
  have hne : CNS_REC_CNT c ≠ CNS_DROP_CNT c := by simp [CNS_REC_CNT, CNS_DROP_CNT]
  obtain ⟨m, hm⟩ : ∃ m : State, m = { s with cnv := { s.cnv with res := stBytes res (4096 * s.cPage c + s.cSlot c * ((s.cns c).recs % s.cNrec c)) 4 0x52534E43 } } :=
    ⟨_, rfl⟩
  have hregs (b : Nat) : m.rdN b = s.rdN b := by rw [hm]; rfl
  have hdef : recordWritten c n next res s = ((m.incBy (CNS_DROP_CNT c) n).inc (CNS_REC_CNT c)).setCns c
      { s.cns c with trig := none, recs := (s.cns c).recs + 1, closing := 0, holdEnd := next } := by rw [hm]; rfl
  have hrec : ((m.incBy (CNS_DROP_CNT c) n).inc (CNS_REC_CNT c)).rdN (CNS_REC_CNT c) = min 0xFFFFFFFF (s.rdN (CNS_REC_CNT c) + 1) := by
    rw [rdN_inc, ← hregs]
    exact congrArg (fun k => min 0xFFFFFFFF (k + 1)) (congrArg BitVec.toNat (rd_wr_ne _ _ _ _ hne))
  have hdrop : ((m.incBy (CNS_DROP_CNT c) n).inc (CNS_REC_CNT c)).rdN (CNS_DROP_CNT c) = min 0xFFFFFFFF (s.rdN (CNS_DROP_CNT c) + n) := by
    rw [rdN_inc_ne _ _ _ hne.symm, rdN_incBy, hregs]
  refine ⟨cns_setCns_same .., ldBytes_stBytes .., ?_, ?_, _, _, _, rfl⟩
  · rw [hdef]
    exact hrec
  · rw [hdef]
    exact hdrop

end

theorem recordEnd_spec {xs drops : List Nat} {uns : Bool} {g : CTrig} {a : Nat} (htrig : (s.cns c).trig = some g) (hst : s.cnsSt c = capTRIGGERED)
    (hopen : (s.cns c).closing = 0) (hpost : 0 < s.cPost c)
    (hdue : s.reached ((s.cns c).start + (s.cOut c g.t + s.cPost c) * s.cStep c - tapPeriod (s.cKind c)) = true)
    (ha : a = 4096 * s.cPage c + s.cSlot c * ((s.cns c).recs % s.cNrec c)) : ∃ t, exec (.cnsRecordEnd c xs drops uns) s = .next t
      ∧ t.cnsSt c = (if s.cMode c = 1 ∧ (s.cns c).recs + 1 < s.cNrec c then capHOLDOFF else capDONE)
      ∧ (t.cns c).trig = none ∧ (t.cns c).recs = (s.cns c).recs + 1 ∧ ldBytes t.cnv.res a 4 = 0x52534E43
      ∧ t.rdN (CNS_REC_CNT c) = min 0xFFFFFFFF (s.rdN (CNS_REC_CNT c) + 1)
      ∧ t.rdN (CNS_DROP_CNT c) = min 0xFFFFFFFF (s.rdN (CNS_DROP_CNT c) + drops.length)
      ∧ s.keeps t [CNS_STS c, CNS_REC_CNT c, CNS_DROP_CNT c] ∧ { t with regs := s.regs, cap := s.cap, cnv := s.cnv } = s := by
  obtain ⟨next, res, hend⟩ := cnsRecordEnd_of_due (xs := xs) (drops := drops) (uns := uns) htrig hst hopen hpost hdue
  have hkeep := keeps_recordWritten (s := s) (c := c) (n := drops.length) (next := next) (res := res)
  obtain ⟨hcns, hmagic, hrec, hdrop, r, k, v, hframe⟩ := recordWritten_spec (s := s) (c := c) (n := drops.length) (next := next) (res := res)
  have hsame : SameSetting s (recordWritten c drops.length next res s) := .of_keeps (c := c) hkeep (by simp [recordCounts, cnsShown]) (by rw [hframe])
  unfold recordEnded at hend
  rw [hsame.mode, hsame.nrec] at hend
  obtain ⟨u, hu⟩ : ∃ u, u = recordWritten c drops.length next res s := ⟨_, rfl⟩
  rw [← hu] at hend hkeep hcns hmagic hrec hdrop hframe
  obtain ⟨st, hlt, hste⟩ : ∃ st, st < 8 ∧ st = if s.cMode c = 1 ∧ (s.cns c).recs + 1 < s.cNrec c then capHOLDOFF else capDONE :=
    ⟨_, by split <;> decide, rfl⟩
  have hset : cnsRecordEnd c xs drops uns s = u.setCnsSt c st := by
    rw [hend, hste]
    split <;> rfl
  have hne : CNS_REC_CNT c ≠ CNS_STS c ∧ CNS_DROP_CNT c ≠ CNS_STS c := by simp [CNS_REC_CNT, CNS_DROP_CNT, CNS_STS]
  rw [ha, ← hste]
  refine ⟨_, congrArg Host.Outcome.next hset, cnsSt_setCnsSt _ _ hlt, ?_, ?_, hmagic, (rdN_setF_ne _ _ _ _ _ hne.1).trans hrec,
    (rdN_setF_ne _ _ _ _ _ hne.2).trans hdrop, keeps_andWr (keeps_mono hkeep (by simp [recordCounts])) (by simp), ?_⟩
  · rw [State.setCnsSt, cns_setF, hcns]
  · rw [State.setCnsSt, cns_setF, hcns]
  · rw [hframe]
    rfl

/-! ### Streams (R421, R422) -/

/-- A chunk placed in its ring (Table 13-5). -/
def chunkWritten (c n drops : Nat) (page : List (BitVec 8)) (s : State) : State :=
  let u : State := { s with cnv := { s.cnv with res := stList s.cnv.res (4096 * (s.cPage c + s.rdN (CNS_WP c))) (le 4 (s.cns c).chunks ++ page) } }
  ((u.wrN (CNS_WP c) ((u.rdN (CNS_WP c) + 1) % u.cPages c)).setCns c
    { s.cns c with outs := (s.cns c).outs + n, drops := 0, chunks := (s.cns c).chunks + 1 }).incBy (CNS_DROP_CNT c) drops

section
variable {xs : List Nat} {drops n : Nat} {uns : Bool} (hn : n = s.chunkElems c) (hst : s.cnsSt c = capSTREAMING)
  (hdue : s.reached ((s.cns c).start + ((s.cns c).outs + n) * s.cStep c) = true)
include hn hst hdue

theorem cnsChunkWrite_of_room (hroom : s.unread c < s.cPages c - 1) : ∃ page, cnsChunkWrite c xs drops uns s = chunkWritten c n drops page s := by
  subst hn
  unfold cnsChunkWrite
  dsimp only
  rw [if_neg (by simp [hst, hdue]), if_neg (Nat.not_le.mpr hroom)]
  simp only [List.append_assoc]
  exact ⟨_, rfl⟩

theorem chunk_spec (hroom : s.unread c < s.cPages c - 1) : ∃ t, exec (.cnsChunkWrite c xs drops uns) s = .next t
      ∧ t.rdN (CNS_WP c) = (s.rdN (CNS_WP c) + 1) % s.cPages c
      ∧ t.cns c = { s.cns c with outs := (s.cns c).outs + n, drops := 0, chunks := (s.cns c).chunks + 1 }
      ∧ ldBytes t.cnv.res (4096 * (s.cPage c + s.rdN (CNS_WP c))) 4 = (s.cns c).chunks % 2 ^ 32
      ∧ t.rdN (CNS_DROP_CNT c) = min 0xFFFFFFFF (s.rdN (CNS_DROP_CNT c) + drops)
      ∧ s.keeps t [CNS_WP c, CNS_DROP_CNT c] ∧ { t with regs := s.regs, cap := s.cap, cnv := s.cnv } = s := by
  obtain ⟨page, hpage⟩ := cnsChunkWrite_of_room (xs := xs) (drops := drops) (uns := uns) hn hst hdue hroom
  have hne : CNS_WP c ≠ CNS_DROP_CNT c := by simp [CNS_WP, CNS_DROP_CNT]
  have hpages : s.cPages c < 2 ^ 14 := getF_lt _ CNS_PAGES_PAGES (by decide)
  obtain ⟨u, hu⟩ : ∃ u : State, u = { s with cnv := { s.cnv with res := stList s.cnv.res (4096 * (s.cPage c + s.rdN (CNS_WP c))) (le 4 (s.cns c).chunks ++ page) } } :=
    ⟨_, rfl⟩
  have hregs : u.regs = s.regs := by rw [hu]
  have hwp : u.rdN (CNS_WP c) = s.rdN (CNS_WP c) := congrArg (fun r => (sget resetVal r (CNS_WP c)).toNat) hregs
  have hps : u.cPages c = s.cPages c := congrArg (fun r => getF (sget resetVal r (CNS_PAGES c)) CNS_PAGES_PAGES) hregs
  have hdrops : u.rdN (CNS_DROP_CNT c) = s.rdN (CNS_DROP_CNT c) := congrArg (fun r => (sget resetVal r (CNS_DROP_CNT c)).toNat) hregs
  obtain ⟨v, hv⟩ : ∃ v : State, v = (u.wrN (CNS_WP c) ((s.rdN (CNS_WP c) + 1) % s.cPages c)).setCns c
    { s.cns c with outs := (s.cns c).outs + n, drops := 0, chunks := (s.cns c).chunks + 1 } := ⟨_, rfl⟩
  have hdef : cnsChunkWrite c xs drops uns s = v.incBy (CNS_DROP_CNT c) drops := by
    rw [hpage, hv, ← hwp, ← hps, hu]
    rfl
  have hvwp : v.rdN (CNS_WP c) = (s.rdN (CNS_WP c) + 1) % s.cPages c := by
    have hlt : (s.rdN (CNS_WP c) + 1) % s.cPages c < s.cPages c := Nat.mod_lt _ (by omega)
    rw [hv]
    exact (rdN_wrN ..).trans (Nat.mod_eq_of_lt (by omega))
  have hvdrop : v.rdN (CNS_DROP_CNT c) = s.rdN (CNS_DROP_CNT c) := by
    rw [← hdrops, hv]
    exact rdN_wrN_ne _ _ _ _ hne.symm
  have hcns : v.cns c = { s.cns c with outs := (s.cns c).outs + n, drops := 0, chunks := (s.cns c).chunks + 1 } := by rw [hv, cns_setCns_same]
  have hcnv : v.cnv = u.cnv := by rw [hv]; rfl
  have hkeep : s.keeps v [CNS_WP c] := by
    rw [hv]
    exact keeps_of_regs (keeps_andWr (keeps_of_regs (keeps_rfl s _) hregs) (by simp)) rfl
  refine ⟨_, congrArg Host.Outcome.next hdef, ?_, hcns, ?_, (rdN_incBy ..).trans (by rw [hvdrop]), keeps_andWr (keeps_mono hkeep (by simp)) (by simp), ?_⟩
  · exact (congrArg BitVec.toNat (rd_wr_ne _ _ _ _ hne)).trans hvwp
  · refine (congrArg (fun q : Cnv => ldBytes q.res _ 4) (hcnv.trans (by rw [hu]))).trans ?_
    exact ldBytes_stList_le ..
  · rw [hv, hu]
    rfl

theorem chunk_dropped (hfull : s.cPages c - 1 ≤ s.unread c) : ∃ t, exec (.cnsChunkWrite c xs drops uns) s = .next t
      ∧ t.cns c = { s.cns c with outs := (s.cns c).outs + n, drops := (s.cns c).drops + n }
      ∧ t.rdN (CNS_DROP_CNT c) = min 0xFFFFFFFF (s.rdN (CNS_DROP_CNT c) + n) ∧ s.keeps t [CNS_DROP_CNT c]
      ∧ { t with regs := s.regs, cap := s.cap } = s := by
  subst hn
  exact ⟨_, congrArg Host.Outcome.next ((if_neg (by simp [hst, hdue])).trans (if_pos hfull)), cns_setCns_same .., rdN_incBy ..,
    keeps_andWr (keeps_of_regs (keeps_rfl s _) rfl) (by simp), rfl⟩

end

end

/-- Settles O36: an arm, its triggers, its records and its chunks, each from the state that the channel's setting and account give. -/
theorem captureChannelsArmTriggerAndRecord : Obligations.CaptureChannelsArmTriggerAndRecord := by
  refine ⟨fun s c v w u hc hopen harm hw hu hcheck => arm_spec hc hopen harm hw hu hcheck,
    fun s c v _ hopen harm hcheck => arm_refused hopen harm hcheck,
    fun s c v _ hopen harm hsame hon => disarm_spec hopen harm hsame hon, fun s c v _ hopen harm hdiff => disarm_refused hopen harm hdiff,
    fun s c p _ hopen hst hp hstart hheld hself => ?_,
    fun s c src inst xs p _ h1 h7 hev htime hst hp hstart hheld hself => event_spec h1 h7 hev htime hst hp hstart hheld hself,
    fun s c src inst xs _ h1 h7 hev hlate hrun => event_late h1 h7 hev hlate hrun,
    fun s c inst xs r i p _ hsrc hst hscan hp hstart hheld => level_spec hsrc hst hscan hp hstart hheld,
    fun s c src inst xs _ h1 h7 hev htime hst => event_ignored h1 h7 hev htime hst,
    fun s c xs drops uns g a _ htrig hst hclosing hpost hdue ha => recordEnd_spec htrig hst hclosing hpost hdue ha,
    fun s c a _ hst hend ha => holdoffEnd_spec hst hend ha, fun s c xs drops uns n _ hn hst hdue hroom => chunk_spec hn hst hdue hroom,
    fun s c xs drops uns n _ hn hst hdue hfull => chunk_dropped hn hst hdue hfull, fun s c v hopen hv hlt hle => ?_, fun s c v hopen hle => ?_⟩
  · obtain ⟨t, hexec, hh⟩ := force_spec hopen hst hp hstart hheld
    exact ⟨t, hexec, hh.state, hh.trig hself, hh.told, hh.keeps, hh.frame_eq⟩
  · have hmod : v % 2 ^ 13 = v := Nat.mod_eq_of_lt hv
    refine ⟨s.wrN (CNS_RP c) v, next_hostWr hopen ?_, (rdN_wrN ..).trans (Nat.mod_eq_of_lt (hv.trans (by decide))), onlyRegs_wr ..⟩
    rw [cnsRpWrite, hmod]
    exact if_neg (by omega)
  · exact ⟨_, next_hostWr hopen (if_pos (.inl hle)), fld_status_of_lt _ _ (by decide), onlyRegs_status ..⟩

end Sys2Proof.Laws
end

section
namespace Sys2Proof.Laws
open Sys2Proof.Machine

-- One theorem after another: a thread for each of them passes the memory limit of the check.
set_option Elab.async false

/-! ### The contexts and jobs of Furler (R424, Table 13-6) -/

section
variable {s t u : State} {e x : Nat} {j : FJob}

@[simp] theorem fctx_setFctx_same (s : State) (x : Nat) (v : FCtx) : (s.setFctx x v).fctx x = v := tget_tput_same ..
@[simp] theorem fjob_setFjob_same (s : State) (e : Nat) (v : Option FJob) : (s.setFjob e v).fjob e = v := tget_tput_same ..
@[simp] theorem fctx_setFjob (s : State) (e : Nat) (v : Option FJob) (x : Nat) : (s.setFjob e v).fctx x = s.fctx x := rfl
@[simp] theorem fjob_setFctx (s : State) (x : Nat) (v : FCtx) (e : Nat) : (s.setFctx x v).fjob e = s.fjob e := rfl
@[simp] theorem fctx_setF (s : State) (a : Nat) (f : Fld) (n x : Nat) : (s.setF a f n).fctx x = s.fctx x := rfl
@[simp] theorem fjob_setF (s : State) (a : Nat) (f : Fld) (n e : Nat) : (s.setF a f n).fjob e = s.fjob e := rfl

theorem regs_setFctx_setFjob (s : State) (x e : Nat) (v : FCtx) (j : Option FJob) : ((s.setFctx x v).setFjob e j).regs = s.regs := rfl

theorem frlSts_ne_ctxs (e : Nat) (hx : x < 16) : FRL_STS e ≠ FRL_CTXS x := by unfold FRL_STS FRL_CTXS; omega

/-- A context's state shown. -/
theorem ctxSt_setCtxSt (s : State) (x : Nat) {v : Nat} (h : v < 8) : (s.setCtxSt x v).ctxSt x = v :=
  (fld_setF_beside _ _ FRL_CTXS_NBITS FRL_CTXS_XSTATE _ (by decide) (by decide) (by decide)).trans
    ((fld_setF s (FRL_CTXS x) FRL_CTXS_XSTATE v (by decide)).trans (Nat.mod_eq_of_lt h))

theorem mode_setCtxSt (s : State) (x v : Nat) : (s.setCtxSt x v).fld (FRL_CTXS x) FRL_CTXS_MODE = s.fld (FRL_CTXS x) FRL_CTXS_MODE :=
  (fld_setF_beside _ _ FRL_CTXS_NBITS FRL_CTXS_MODE _ (by decide) (by decide) (by decide)).trans
    (fld_setF_beside _ _ FRL_CTXS_XSTATE FRL_CTXS_MODE _ (by decide) (by decide) (by decide))

theorem onlyRegs_setCtxSt (s : State) (x v : Nat) : s.onlyRegs (s.setCtxSt x v) [FRL_CTXS x] :=
  onlyRegs_andWr (onlyRegs_andWr (onlyRegs_rfl s _) (by simp)) (by simp)

theorem cap_of_onlyRegs {as : List Nat} (h : s.onlyRegs t as) : t.cap = s.cap := (congrArg State.cap h.1 :)
theorem fctx_of_cap (h : t.cap = s.cap) (x : Nat) : t.fctx x = s.fctx x := congrArg (fun c : Cap => tget c.ctxs x) h
theorem fjob_of_cap (h : t.cap = s.cap) (e : Nat) : t.fjob e = s.fjob e := congrArg (fun c : Cap => tget c.jobs e) h

/-! ### The end of a job (R427, R428, R432) -/

/-- The registers of an engine's result. -/
def frlResult (e : Nat) : List Nat := [FRL_CONSUMED e, FRL_PRODUCED e, FRL_CRC e]

/-- The result registers written. -/
def resultsShown (e : Nat) (j : FJob) (crc : Nat) (s : State) : State :=
  ((s.wrN (FRL_CONSUMED e) j.read).wrN (FRL_PRODUCED e) j.out).wrN (FRL_CRC e) crc

theorem resultsShown_spec (e : Nat) (j : FJob) (crc : Nat) (s : State) :
    (resultsShown e j crc s).rdN (FRL_CONSUMED e) = j.read % 2 ^ 64 ∧ (resultsShown e j crc s).rdN (FRL_PRODUCED e) = j.out % 2 ^ 64
      ∧ (resultsShown e j crc s).rdN (FRL_CRC e) = crc % 2 ^ 64 ∧ s.onlyRegs (resultsShown e j crc s) (frlResult e) := by
  refine ⟨?_, ?_, rdN_wrN .., onlyRegs_andWr (onlyRegs_andWr (onlyRegs_andWr (onlyRegs_rfl s _) (by simp [frlResult])) (by simp [frlResult])) (by simp [frlResult])⟩
  · refine (rdN_wrN_ne _ _ _ _ ?_).trans ((rdN_wrN_ne _ _ _ _ ?_).trans (rdN_wrN ..)) <;> simp [FRL_CONSUMED, FRL_PRODUCED, FRL_CRC]
  · exact (rdN_wrN_ne _ _ _ _ (by simp [FRL_PRODUCED, FRL_CRC])).trans (rdN_wrN ..)

/-- What the end of the job `j` of an engine leaves: no job, its code, the context in state `xs`, the counts. -/
structure JobEnded (e : Nat) (j : FJob) (code xs : Nat) (s t : State) : Prop where
  job : t.fjob e = none
  state : t.ctxSt j.ctx = xs
  dropped : xs = ctxEMPTY → t.fctx j.ctx = default
  kept : xs ≠ ctxEMPTY → t.fctx j.ctx = s.fctx j.ctx
  status : t.fld (FRL_STS e) FRL_STS_STATUS = code
  idle : t.fld (FRL_STS e) FRL_STS_ESTATE = 0
  consumed : t.rdN (FRL_CONSUMED e) = j.read % 2 ^ 64
  produced : t.rdN (FRL_PRODUCED e) = j.out % 2 ^ 64
  crc : t.rdN (FRL_CRC e) = (t.fctx j.ctx).crc.toNat
  keeps : s.keeps t [FRL_CTXS j.ctx, FRL_STS e, FRL_CONSUMED e, FRL_PRODUCED e, FRL_CRC e]
  frame : ∃ r k, t = { s with regs := r, cap := k }

theorem jobEnded_frlEnd {code xs : Nat} (hj : s.fjob e = some j) (hctx : j.ctx < 16) (hcode : code < 2 ^ 16) (hxs : xs < 8) :
    JobEnded e j code xs s (frlEnd e code xs s) := by
  obtain ⟨a, ha⟩ : ∃ a, a = if xs = ctxEMPTY then s.setFctx j.ctx default else s := ⟨_, rfl⟩
  obtain ⟨b, hb⟩ : ∃ b, b = a.setCtxSt j.ctx xs := ⟨_, rfl⟩
  obtain ⟨c, hc⟩ : ∃ c, c = resultsShown e j (b.fctx j.ctx).crc.toNat b := ⟨_, rfl⟩
  obtain ⟨d, hd⟩ : ∃ d, d = ((c.setFjob e none).status (FRL_STS e) code).setF (FRL_STS e) FRL_STS_ESTATE 0 := ⟨_, rfl⟩
  have hend : frlEnd e code xs s = d := by
    rw [frlEnd, hj]
    dsimp only
    rw [← ha, ← hb, hd, hc]
    rfl
  have hak : s.keeps a [] := by
    rw [ha]
    split
    · exact keeps_of_regs (keeps_rfl s _) rfl
    · exact keeps_rfl s _
  have haf : ∃ k, a = { s with cap := k } := by
    rw [ha]
    split
    · exact ⟨_, rfl⟩
    · exact ⟨s.cap, rfl⟩
  have hbo : a.onlyRegs b [FRL_CTXS j.ctx] := hb ▸ onlyRegs_setCtxSt ..
  obtain ⟨hcon, hpro, hcrc, hco⟩ := resultsShown_spec e j (b.fctx j.ctx).crc.toNat b
  rw [← hc] at hcon hpro hcrc hco
  have hdk : c.keeps d [FRL_STS e] := hd ▸ keeps_andWr (keeps_andWr (keeps_of_regs (keeps_rfl c _) rfl) (by simp)) (by simp)
  have hdf : d.fctx j.ctx = a.fctx j.ctx := by
    rw [hd, fctx_setF, State.status, fctx_setF, fctx_setFjob, fctx_of_cap (cap_of_onlyRegs hco), fctx_of_cap (cap_of_onlyRegs hbo)]
  have hsts : FRL_STS e ≠ FRL_CTXS j.ctx := frlSts_ne_ctxs e hctx
  have hres : ∀ r ∈ frlResult e, r ∉ [FRL_STS e] ∧ r ≠ FRL_CTXS j.ctx := by
    simp [frlResult, FRL_CONSUMED, FRL_PRODUCED, FRL_CRC, FRL_STS, FRL_CTXS]
    omega
  rw [hend]
  refine ⟨?_, ?_, fun h => ?_, fun h => ?_, ?_, ?_, ?_, ?_, ?_, ?_, ?_⟩
  · rw [hd, fjob_setF, State.status, fjob_setF, fjob_setFjob_same]
  · refine (fld_of_keeps hdk (by simp [hsts.symm]) _).trans ((fld_of_onlyRegs hco ?_ _).trans ?_)
    · intro hmem
      exact (hres _ hmem).2 rfl
    · rw [hb]
      exact ctxSt_setCtxSt _ _ hxs
  · rw [hdf, ha, if_pos h, fctx_setFctx_same]
  · rw [hdf, ha, if_neg h]
  · rw [hd]
    exact (fld_setF_beside _ _ FRL_STS_ESTATE FRL_STS_STATUS _ (by decide) (by decide) (by decide)).trans (fld_status_of_lt _ _ hcode)
  · rw [hd]
    exact fld_setF _ _ FRL_STS_ESTATE _ (by decide)
  · exact (rdN_of_keeps hdk (hres _ (by simp [frlResult])).1).trans hcon
  · exact (rdN_of_keeps hdk (hres _ (by simp [frlResult])).1).trans hpro
  · rw [rdN_of_keeps hdk (hres _ (by simp [frlResult])).1, hcrc, hdf, fctx_of_cap (cap_of_onlyRegs hbo)]
    exact Nat.mod_eq_of_lt ((BitVec.isLt _).trans (by decide))
  · exact keeps_trans (keeps_trans (keeps_trans hak hbo.2 (List.nil_subset _) (List.Subset.refl _)) hco.2 (List.subset_append_left ..)
      (List.subset_append_right ..)) hdk (by simp [frlResult]) (by simp)
  · obtain ⟨k, hk⟩ := haf
    rw [hd, eq_of_onlyRegs hco, eq_of_onlyRegs hbo, hk]
    exact ⟨_, _, rfl⟩

theorem JobEnded.frame_eq {code xs : Nat} (h : JobEnded e j code xs s t) : { t with regs := s.regs, cap := s.cap } = s := by
  obtain ⟨r, k, hk⟩ := h.frame
  rw [hk]

/-! ### What the destination takes (R428) -/

theorem bitBytes_of_short (n : Nat) {bs : List Bool} (h : bs.length < 8) : bitBytes n bs = ([], bs) := by
  cases n with
  | zero => rfl
  | succ n => rw [bitBytes, if_pos h]

/-- A job without waiting symbols and with less than a byte in hand writes nothing. -/
theorem frlEmit_of_empty (hj : s.fjob e = some j) (hpend : (s.fctx j.ctx).pend = []) (hacc : (s.fctx j.ctx).acc.length < 8) :
    (frlEmit e s).fjob e = some j ∧ (frlEmit e s).fctx j.ctx = s.fctx j.ctx ∧ ∃ k, frlEmit e s = { s with cap := k } := by
  obtain ⟨x, hx⟩ : ∃ x, s.fctx j.ctx = x := ⟨_, rfl⟩
  rw [hx] at hpend hacc
  obtain ⟨hist, pend, acc, crc⟩ := x
  obtain rfl : pend = [] := hpend
  have hemit : frlEmit e s = (s.setFctx j.ctx ⟨hist, [], acc, crc⟩).setFjob e (some j) := by
    rw [frlEmit, hj]
    dsimp only
    rw [hx]
    dsimp only [takeSyms]
    rw [bitBytes_of_short _ hacc]
    rfl
  rw [hemit]
  exact ⟨fjob_setFjob_same .., (fctx_setFctx_same ..).trans hx.symm, _, rfl⟩

/-- Whatever the destination takes, the job goes on and the history and CRC of its context stand. -/
theorem frlEmit_spec (hj : s.fjob e = some j) : (∃ out, (frlEmit e s).fjob e = some { j with out := out })
    ∧ ((frlEmit e s).fctx j.ctx).hist = (s.fctx j.ctx).hist ∧ ((frlEmit e s).fctx j.ctx).crc = (s.fctx j.ctx).crc
    ∧ ∃ k v, frlEmit e s = { s with cap := k, cnv := v } := by
  rw [frlEmit, hj]
  refine ⟨⟨_, fjob_setFjob_same ..⟩, ?_, ?_, _, _, rfl⟩
  · rw [fctx_setFjob, fctx_setFctx_same]
  · rw [fctx_setFjob, fctx_setFctx_same]

/-! ### START, RESUME, ABORT and CLEAR (R430, R432) -/

/-- The job that a command begins. -/
def jobOf (e w : Nat) (s : State) : FJob :=
  ⟨4 * e + bits w 9 8, bit w 13, s.rdN (FRL_SRC e), s.rdN (FRL_SRC_LEN e), 0, s.rdN (FRL_DST e), s.rdN (FRL_DST_LEN e), 0,
    bit w 20, bit w 21, bit w 22, []⟩

/-- A context of START: new history, its mode. -/
def ctxReset (x mode : Nat) (s : State) : State := (s.setFctx x default).setF (FRL_CTXS x) FRL_CTXS_MODE mode

/-- The engine runs a job, its context is ACTIVE. -/
def jobBegun (e : Nat) (j : FJob) (s : State) : State :=
  (((s.setFjob e (some j)).setCtxSt j.ctx ctxACTIVE).status (FRL_STS e) 0).setF (FRL_STS e) FRL_STS_ESTATE 1

theorem jobBegun_spec (hctx : j.ctx < 16) (s : State) : (jobBegun e j s).fjob e = some j ∧ (jobBegun e j s).fctx j.ctx = s.fctx j.ctx
    ∧ (jobBegun e j s).ctxSt j.ctx = ctxACTIVE ∧ (jobBegun e j s).fld (FRL_CTXS j.ctx) FRL_CTXS_MODE = s.fld (FRL_CTXS j.ctx) FRL_CTXS_MODE
    ∧ (jobBegun e j s).fld (FRL_STS e) FRL_STS_STATUS = 0 ∧ (jobBegun e j s).fld (FRL_STS e) FRL_STS_ESTATE = 1
    ∧ s.keeps (jobBegun e j s) [FRL_CTXS j.ctx, FRL_STS e] ∧ ∃ r k, jobBegun e j s = { s with regs := r, cap := k } := by
  have hsts : FRL_CTXS j.ctx ≠ FRL_STS e := (frlSts_ne_ctxs e hctx).symm
  have hctxs (u : State) (f : Fld) : (((u.status (FRL_STS e) 0).setF (FRL_STS e) FRL_STS_ESTATE 1)).fld (FRL_CTXS j.ctx) f = u.fld (FRL_CTXS j.ctx) f :=
    (fld_setF_ne _ _ _ _ _ _ hsts).trans (fld_status_ne _ _ _ hsts)
  refine ⟨fjob_setFjob_same .., rfl, (hctxs _ _).trans (ctxSt_setCtxSt _ _ (by decide)), (hctxs _ _).trans (mode_setCtxSt ..),
    (fld_setF_beside _ _ FRL_STS_ESTATE FRL_STS_STATUS _ (by decide) (by decide) (by decide)).trans (fld_status ..),
    fld_setF _ _ FRL_STS_ESTATE _ (by decide), ?_, _, _, rfl⟩
  exact keeps_andWr (keeps_andWr (keeps_andWr (keeps_andWr (keeps_of_regs (keeps_rfl s _) rfl) (by simp)) (by simp)) (by simp)) (by simp)

theorem frlBegin_of_start {w : Nat} (hcheck : s.frlCheck e w = 0) (hcmd : w % 16 = 1) : frlBegin e w s
    = frlEmit e (jobBegun e (jobOf e w (ctxReset (4 * e + bits w 9 8) (bits w 17 16) s)) (ctxReset (4 * e + bits w 9 8) (bits w 17 16) s)) := by
  unfold frlBegin
  dsimp only
  rw [if_neg (not_not_intro hcheck), when_of_true _ (by simp [hcmd])]
  rfl

theorem frlBegin_of_resume {w : Nat} (hcheck : s.frlCheck e w = 0) (hcmd : w % 16 = 2) :
    frlBegin e w s = frlEmit e (jobBegun e (jobOf e w s) s) := by
  unfold frlBegin
  dsimp only
  rw [if_neg (not_not_intro hcheck), when_of_false _ (by simp [hcmd])]
  rfl

theorem ctx_lt {w : Nat} (he : e < 4) : 4 * e + bits w 9 8 < 16 := by
  have := bits_lt w 9 8
  omega

theorem jobOf_ctxReset {w mode : Nat} (hx : x < 16) : jobOf e w (ctxReset x mode s) = jobOf e w s := by
  have hne (a : Nat) (ha : 0x801000 ≤ a) : (ctxReset x mode s).rdN a = s.rdN a :=
    rdN_setF_ne _ _ _ _ _ (by unfold FRL_CTXS; omega)
  rw [jobOf, jobOf, hne _ (by unfold FRL_SRC; omega), hne _ (by unfold FRL_SRC_LEN; omega), hne _ (by unfold FRL_DST; omega),
    hne _ (by unfold FRL_DST_LEN; omega)]

theorem frlCtlWrite_begin {w : Nat} (h : w % 16 = 1 ∨ w % 16 = 2) : frlCtlWrite e w s = frlBegin e w s := by
  rcases h with h | h <;> rw [frlCtlWrite, h] <;> rfl

theorem start_spec {v w : Nat} (he : e < 4) (hopen : s.opens (FRL_CTL e)) (hw : w = v / 16 * 16 + 1) (hx : x = 4 * e + bits w 9 8)
    (hcheck : s.frlCheck e w = 0) : ∃ t, exec (.frlStart e v) s = .next t
      ∧ t.fjob e = some ⟨x, bit w 13, s.rdN (FRL_SRC e), s.rdN (FRL_SRC_LEN e), 0, s.rdN (FRL_DST e), s.rdN (FRL_DST_LEN e), 0,
          bit w 20, bit w 21, bit w 22, []⟩
      ∧ t.fctx x = default ∧ t.ctxSt x = ctxACTIVE ∧ t.fld (FRL_CTXS x) FRL_CTXS_MODE = bits w 17 16
      ∧ t.fld (FRL_STS e) FRL_STS_STATUS = 0 ∧ t.fld (FRL_STS e) FRL_STS_ESTATE = 1
      ∧ s.keeps t [FRL_CTXS x, FRL_STS e] ∧ { t with regs := s.regs, cap := s.cap } = s := by
  have hcmd : w % 16 = 1 := by omega
  have hx16 : x < 16 := hx ▸ ctx_lt he
  obtain ⟨c, hc⟩ : ∃ c, c = ctxReset x (bits w 17 16) s := ⟨_, rfl⟩
  obtain ⟨j, hj⟩ : ∃ j, j = jobOf e w s := ⟨_, rfl⟩
  have hjx : j.ctx = x := by rw [hj, hx]; rfl
  have hwrite : frlCtlWrite e (v / 16 * 16 + 1) s = frlEmit e (jobBegun e j c) := by
    rw [← hw, frlCtlWrite_begin (.inl hcmd), frlBegin_of_start hcheck hcmd, ← hx, jobOf_ctxReset hx16, ← hj, ← hc]
  have hcctx : c.fctx x = default := by rw [hc, ctxReset, fctx_setF, fctx_setFctx_same]
  have hmode : c.fld (FRL_CTXS x) FRL_CTXS_MODE = bits w 17 16 := by
    rw [hc]
    exact (fld_setF _ _ FRL_CTXS_MODE _ (by decide)).trans (Nat.mod_eq_of_lt (bits_lt w 17 16))
  have hck : s.keeps c [FRL_CTXS x] := hc ▸ keeps_andWr (keeps_of_regs (keeps_rfl s _) rfl) (by simp)
  have hcf : ∃ r k, c = { s with regs := r, cap := k } := ⟨_, _, hc⟩
  obtain ⟨hjob, hctx, hst, hmd, hsts, hest, hkeep, r, k, hframe⟩ := jobBegun_spec (e := e) (hjx ▸ hx16 : j.ctx < 16) c
  rw [hjx] at hctx hst hmd hkeep
  rw [hcctx] at hctx
  obtain ⟨u, hu⟩ : ∃ u, u = jobBegun e j c := ⟨_, rfl⟩
  rw [← hu] at hwrite hjob hctx hst hmd hsts hest hkeep hframe
  obtain ⟨hjob', hctx', k', hemit⟩ := frlEmit_of_empty hjob (by rw [hjx, hctx]; rfl) (by rw [hjx, hctx]; decide)
  rw [hjx, hctx] at hctx'
  obtain ⟨t, ht⟩ : ∃ t, t = frlEmit e u := ⟨_, rfl⟩
  rw [← ht] at hwrite hjob' hctx' hemit
  have hregs : t.regs = u.regs := by rw [hemit]
  have hut : u.keeps t [] := keeps_of_regs (keeps_rfl u _) hregs
  refine ⟨t, next_hostWr hopen hwrite, ?_, hctx', (fld_of_keeps hut (by simp) _).trans hst, (fld_of_keeps hut (by simp) _).trans (hmd.trans hmode),
    (fld_of_keeps hut (by simp) _).trans hsts, (fld_of_keeps hut (by simp) _).trans hest,
    keeps_trans (keeps_trans hck hkeep (by simp) (List.Subset.refl _)) hut (List.Subset.refl _) (by simp), ?_⟩
  · rw [hjob', hj, hx]
    rfl
  · obtain ⟨r₀, k₀, hcs⟩ := hcf
    rw [hemit, hframe, hcs]

theorem resume_spec {v w : Nat} (he : e < 4) (hopen : s.opens (FRL_CTL e)) (hw : w = v / 16 * 16 + 2) (hx : x = 4 * e + bits w 9 8)
    (hcheck : s.frlCheck e w = 0) (hpend : (s.fctx x).pend = []) (hacc : (s.fctx x).acc.length < 8) : ∃ t, exec (.frlResume e v) s = .next t
      ∧ t.fjob e = some ⟨x, bit w 13, s.rdN (FRL_SRC e), s.rdN (FRL_SRC_LEN e), 0, s.rdN (FRL_DST e), s.rdN (FRL_DST_LEN e), 0,
          bit w 20, bit w 21, bit w 22, []⟩
      ∧ t.fctx x = s.fctx x ∧ t.ctxSt x = ctxACTIVE ∧ t.fld (FRL_STS e) FRL_STS_STATUS = 0 ∧ t.fld (FRL_STS e) FRL_STS_ESTATE = 1
      ∧ s.keeps t [FRL_CTXS x, FRL_STS e] ∧ { t with regs := s.regs, cap := s.cap } = s := by
  have hcmd : w % 16 = 2 := by omega
  have hx16 : x < 16 := hx ▸ ctx_lt he
  obtain ⟨j, hj⟩ : ∃ j, j = jobOf e w s := ⟨_, rfl⟩
  have hjx : j.ctx = x := by rw [hj, hx]; rfl
  have hwrite : frlCtlWrite e (v / 16 * 16 + 2) s = frlEmit e (jobBegun e j s) := by
    rw [← hw, frlCtlWrite_begin (.inr hcmd), frlBegin_of_resume hcheck hcmd, ← hj]
  obtain ⟨hjob, hctx, hst, _, hsts, hest, hkeep, r, k, hframe⟩ := jobBegun_spec (e := e) (hjx ▸ hx16 : j.ctx < 16) s
  rw [hjx] at hctx hst hkeep
  obtain ⟨u, hu⟩ : ∃ u, u = jobBegun e j s := ⟨_, rfl⟩
  rw [← hu] at hwrite hjob hctx hst hsts hest hkeep hframe
  obtain ⟨hjob', hctx', k', hemit⟩ := frlEmit_of_empty hjob (by rw [hjx, hctx]; exact hpend) (by rw [hjx, hctx]; exact hacc)
  rw [hjx, hctx] at hctx'
  obtain ⟨t, ht⟩ : ∃ t, t = frlEmit e u := ⟨_, rfl⟩
  rw [← ht] at hwrite hjob' hctx' hemit
  have hregs : t.regs = u.regs := by rw [hemit]
  have hut : u.keeps t [] := keeps_of_regs (keeps_rfl u _) hregs
  refine ⟨t, next_hostWr hopen hwrite, ?_, hctx', (fld_of_keeps hut (by simp) _).trans hst, (fld_of_keeps hut (by simp) _).trans hsts,
    (fld_of_keeps hut (by simp) _).trans hest, keeps_trans hkeep hut (List.Subset.refl _) (by simp), ?_⟩
  · rw [hjob', hj, hx]
    rfl
  · rw [hemit, hframe]

theorem ite_lt_of {p : Prop} [Decidable p] {a b n : Nat} (ha : a < n) (hb : b < n) : (if p then a else b) < n := by
  split
  · exact ha
  · exact hb

theorem frlCheck_lt (s : State) (e v : Nat) : s.frlCheck e v < 2 ^ 16 := by
  unfold State.frlCheck
  iterate 8 refine ite_lt_of (by decide) ?_
  cases s.allotOf 0x0E e with
  | none => exact (by decide : E_IMG_RES_BUSY < 2 ^ 16)
  | some p => exact ite_lt_of (by decide) (ite_lt_of (by decide) (ite_lt_of (by decide) (by decide)))

theorem begin_refused {w : Nat} (hcheck : s.frlCheck e w ≠ 0) (hcmd : w % 16 = 1 ∨ w % 16 = 2) :
    (frlCtlWrite e w s).fld (FRL_STS e) FRL_STS_STATUS = s.frlCheck e w ∧ s.onlyRegs (frlCtlWrite e w s) [FRL_STS e, IMG_DENY, IMG_DENY_CNT] := by
  have hbegin : frlBegin e w s = (s.denyIf (s.frlCheck e w) (s.frlLacks e (bit w 13)).1 (s.frlLacks e (bit w 13)).2 3
    ((s.allotOf 0x0E e).getD 0)).status (FRL_STS e) (s.frlCheck e w) := if_pos hcheck
  rw [frlCtlWrite_begin hcmd, hbegin]
  exact ⟨fld_status_of_lt _ _ (frlCheck_lt ..), onlyRegs_trans (onlyRegs_denyIf ..) (onlyRegs_status ..) (by simp) (by simp)⟩

theorem abort_spec (hopen : s.opens (FRL_CTL e)) (hj : s.fjob e = some j) (hctx : j.ctx < 16) : ∃ t, exec (.frlAbort e) s = .next t
    ∧ JobEnded e j E_FRL_ABORTED ctxEMPTY s t :=
  ⟨_, next_hostWr hopen (if_pos (by rw [hj]; rfl)), jobEnded_frlEnd hj hctx (by decide) (by decide)⟩

theorem abort_idle (hopen : s.opens (FRL_CTL e)) (hj : s.fjob e = none) : ∃ t, exec (.frlAbort e) s = .next t
    ∧ t.fld (FRL_STS e) FRL_STS_STATUS = 0 ∧ s.onlyRegs t [FRL_STS e] :=
  ⟨_, next_hostWr hopen (if_neg (by simp [hj])), fld_status .., onlyRegs_status ..⟩

theorem frlCtlWrite_clear (hx : x < 4) : frlCtlWrite e (x % 4 * 256 + 4) s = if s.ctxSt (4 * e + x) = ctxACTIVE
    then s.status (FRL_STS e) E_FRL_BUSY else ((s.setFctx (4 * e + x) default).setCtxSt (4 * e + x) ctxEMPTY).status (FRL_STS e) 0 := by
  have hcmd : (x % 4 * 256 + 4) % 16 = 4 := by omega
  have hbits : bits (x % 4 * 256 + 4) 9 8 = x := by unfold bits; omega
  rw [frlCtlWrite, hcmd]
  refine Eq.trans (b := frlClear e (x % 4 * 256 + 4) s) rfl ?_
  unfold frlClear
  rw [hbits]

theorem clear_spec (he : e < 4) (hx : x < 4) (hopen : s.opens (FRL_CTL e)) (hst : s.ctxSt (4 * e + x) ≠ ctxACTIVE) :
    ∃ t, exec (.frlClear e x) s = .next t ∧ t.ctxSt (4 * e + x) = ctxEMPTY ∧ t.fctx (4 * e + x) = default ∧ t.fld (FRL_STS e) FRL_STS_STATUS = 0
      ∧ s.keeps t [FRL_CTXS (4 * e + x), FRL_STS e] ∧ { t with regs := s.regs, cap := s.cap } = s := by
  refine ⟨_, next_hostWr hopen ((frlCtlWrite_clear hx).trans (if_neg hst)), ?_, fctx_setFctx_same .., fld_status .., ?_, rfl⟩
  · exact (fld_status_ne _ _ _ (frlSts_ne_ctxs e (by omega)).symm).trans (ctxSt_setCtxSt _ _ (by decide))
  · exact keeps_andWr (keeps_andWr (keeps_andWr (keeps_of_regs (keeps_rfl s _) rfl) (by simp)) (by simp)) (by simp)

theorem clear_busy (hx : x < 4) (hopen : s.opens (FRL_CTL e)) (hst : s.ctxSt (4 * e + x) = ctxACTIVE) :
    ∃ t, exec (.frlClear e x) s = .next t ∧ t.fld (FRL_STS e) FRL_STS_STATUS = E_FRL_BUSY ∧ s.onlyRegs t [FRL_STS e] :=
  ⟨_, next_hostWr hopen ((frlCtlWrite_clear hx).trans (if_pos hst)), fld_status_of_lt _ _ (by decide), onlyRegs_status ..⟩

/-! ### The blocks of a job (R425 to R431) -/

/-- The chunks of a stream that a job has read are given back. -/
def chunksBack (j : FJob) (k : Nat) (s : State) : State :=
  s.when j.srck fun u => u.wrN (CNS_RP (j.src % 16)) ((s.rdN (CNS_RP (j.src % 16)) + ((j.read + j.buf.length) % 4096 + k) / 4096) % s.cPages (j.src % 16))

/-- A job that has read `k` bytes on. -/
def readOn (e k : Nat) (j : FJob) (s : State) : State := (chunksBack j k s).setFjob e (some { j with buf := j.buf ++ s.frlInput j k })

/-- The read pointer that a job moves. -/
def pointerOf (j : FJob) : List Nat := if j.srck = true then [CNS_RP (j.src % 16)] else []

theorem frlRead_eq {k : Nat} (hj : s.fjob e = some j) (hk : k = min (min 16384 (j.len - j.read) - j.buf.length) (s.frlAvail j)) :
    frlRead e s = readOn e k j s := by
  unfold frlRead
  rw [hj, hk]
  rfl

theorem onlyRegs_chunksBack (j : FJob) (k : Nat) (s : State) : s.onlyRegs (chunksBack j k s) (pointerOf j) := by
  unfold chunksBack pointerOf
  cases j.srck
  · exact onlyRegs_rfl s _
  · exact onlyRegs_andWr (onlyRegs_rfl s _) (by simp)

theorem readOn_spec (e k : Nat) (j : FJob) (s : State) : (readOn e k j s).fjob e = some { j with buf := j.buf ++ s.frlInput j k }
    ∧ (readOn e k j s).cap.ctxs = s.cap.ctxs ∧ s.keeps (readOn e k j s) (pointerOf j)
    ∧ ∃ r c, readOn e k j s = { s with regs := r, cap := c } := by
  have h := onlyRegs_chunksBack j k s
  refine ⟨fjob_setFjob_same .., (congrArg Cap.ctxs (cap_of_onlyRegs h) :), ?_, ?_⟩
  · exact keeps_of_regs h.2 rfl
  · rw [readOn, eq_of_onlyRegs h]
    exact ⟨_, _, rfl⟩

theorem ctxs_not_pointer (hx : x < 16) (j : FJob) : FRL_CTXS x ∉ pointerOf j := by
  unfold pointerOf
  split
  · simp only [List.mem_singleton, FRL_CTXS, CNS_RP]
    omega
  · simp

theorem length_ldList (m : Store) (a n : Nat) : (ldList m a n).length = n := by
  induction n generalizing a with
  | zero => rfl
  | succ n ih => exact congrArg (· + 1) (ih (a + 1))

theorem length_frlInput (s : State) (j : FJob) (n : Nat) : (s.frlInput j n).length = n := by
  unfold State.frlInput
  dsimp only
  split
  · rw [List.length_map, List.length_range]
  · exact length_ldList ..

/-- A block in its own code: BFINAL, BTYPE and the tables, then its symbols. -/
def blockCoded (last fixed : Bool) (hdr : List Bool) (syms : List (List Bool)) : List (List Bool) :=
  (last :: (if fixed then [true, false] else [false, true]) ++ (if fixed then [] else hdr)) :: syms

/-- A block as it is, behind its length on a byte boundary. -/
def blockStored (last : Bool) (held n : Nat) (block : List (BitVec 8)) : List (List Bool) :=
  (last :: [false, false] ++ List.replicate ((8 - (held + 3) % 8) % 8) false ++ bitsOf 16 n ++ bitsOf 16 (65535 - n))
    :: block.map fun b => bitsOf 8 b.toNat

/-- The bits of a block. -/
def bitCount (b : List (List Bool)) : Nat := (b.map List.length).foldl (· + ·) 0

theorem length_bitsOf (n v : Nat) : (bitsOf n v).length = n := by rw [bitsOf, List.length_map, List.length_range]

theorem bitCount_blockCoded (last fixed : Bool) (hdr : List Bool) (syms : List (List Bool)) :
    bitCount (blockCoded last fixed hdr syms) = (syms.map List.length).foldl (· + ·) (3 + if fixed then 0 else hdr.length) := by
  have hhead : (last :: (if fixed then [true, false] else [false, true]) ++ (if fixed then [] else hdr)).length = 3 + if fixed then 0 else hdr.length := by
    cases fixed
    · exact Nat.add_comm hdr.length 3
    · rfl
  rw [bitCount, blockCoded, List.map_cons, List.foldl_cons, hhead, Nat.zero_add]

theorem foldl_bytes (block : List (BitVec 8)) (n : Nat) :
    ((block.map fun b => bitsOf 8 b.toNat).map List.length).foldl (· + ·) n = n + 8 * block.length := by
  induction block generalizing n with
  | nil => rfl
  | cons b bs ih =>
    rw [List.map_cons, List.map_cons, List.foldl_cons, ih, length_bitsOf, List.length_cons]
    omega

theorem bitCount_blockStored (last : Bool) (held n : Nat) (block : List (BitVec 8)) :
    bitCount (blockStored last held n block) = 3 + (8 - (held + 3) % 8) % 8 + 32 + 8 * block.length := by
  rw [bitCount, blockStored, List.map_cons, List.foldl_cons, foldl_bytes]
  simp only [List.length_append, List.length_cons, List.length_nil, List.length_replicate, length_bitsOf]
  omega

/-- The states of a block that gains, or may gain nothing: counted, its bytes in history and CRC, its bits waiting. -/
def blockCounted (e n : Nat) (j : FJob) (fewer gain : Bool) (bits : List (List Bool)) (s : State) : State :=
  (((s.when fewer fun s => s.inc (FRL_TBLMISS_CNT e)).when (!gain) fun s => s.inc (FRL_NOGAIN_CNT e)).setFctx j.ctx
    { s.fctx j.ctx with
      hist := ((s.fctx j.ctx).hist ++ j.buf).drop (((s.fctx j.ctx).hist ++ j.buf).length - 32768), pend := bits,
      crc := j.buf.foldl crcByte (s.fctx j.ctx).crc }).setFjob e (some { j with read := j.read + n, buf := [] })

/-- What a block with its bytes read does. -/
def blockDone (e n : Nat) (j : FJob) (hdr : List Bool) (syms : List (List Bool)) (miss ok : Bool) (s : State) : State :=
  let last := j.final && j.read + n == j.len
  let mode := s.fld (FRL_CTXS j.ctx) FRL_CTXS_MODE
  let coded := blockCoded last (mode == 0 || miss) hdr syms
  let stored := blockStored last (s.fctx j.ctx).acc.length n j.buf
  let gain := decide (bitCount coded < bitCount stored)
  if ¬ gain ∧ ¬ j.nogain then frlEnd e E_FRL_NO_GAIN ctxSUSPENDED s
  else
    let s := frlEmit e (blockCounted e n j (mode == 1 && miss) gain (if gain then coded else stored) s)
    if j.verify ∧ ¬ ok then frlEnd e E_FRL_VERIFY ctxFAILED s else s

theorem frlBlockEnd_of_read {hdr : List Bool} {syms : List (List Bool)} {miss ok : Bool} {n : Nat} {b : List (BitVec 8)}
    (hj : s.fjob e = some j) (hpend : (s.fctx j.ctx).pend = []) (hn : n = min 16384 (j.len - j.read)) (hu : u = frlRead e s)
    (huj : u.fjob e = some { j with buf := b }) (hux : u.fctx j.ctx = s.fctx j.ctx) :
    frlBlockEnd e hdr syms miss ok 0 s = if b.length < n ∨ n = 0 then u else blockDone e n { j with buf := b } hdr syms miss ok u := by
  have hread : ¬ (((s.fjob e).any fun j => (s.fctx j.ctx).pend != []) = true ∨ 0 = 2) := by simp [hj, hpend]
  unfold frlBlockEnd
  rw [if_neg hread, ← hu]
  dsimp only
  rw [huj]
  dsimp only
  have hpend' : (u.fctx j.ctx).pend = [] := hux ▸ hpend
  rw [if_neg (by decide), ← hn]
  by_cases h : b.length < n ∨ n = 0
  · rw [if_pos h, if_pos (h.elim (fun h => .inr (.inr h)) .inl)]
  · rw [if_neg h, if_neg fun h' => h'.elim (fun h' => h (.inr h')) fun h' => h'.elim (fun h' => h' hpend') fun h' => h (.inl h')]
    rfl

theorem block_short {hdr : List Bool} {syms : List (List Bool)} {miss ok : Bool} {n : Nat} (hj : s.fjob e = some j)
    (hn : n = min 16384 (j.len - j.read)) (hpend : (s.fctx j.ctx).pend = []) (hshort : j.buf.length + s.frlAvail j < n) :
    ∃ t, exec (.frlBlockEnd e hdr syms miss ok 0) s = .next t ∧ t.fjob e = some { j with buf := j.buf ++ s.frlInput j (s.frlAvail j) }
      ∧ t.cap.ctxs = s.cap.ctxs ∧ s.keeps t (pointerOf j) ∧ { t with regs := s.regs, cap := s.cap } = s := by
  obtain ⟨hjob, hctxs, hkeep, r, c, hframe⟩ := readOn_spec e (s.frlAvail j) j s
  have hread : frlRead e s = readOn e (s.frlAvail j) j s := frlRead_eq hj (by omega)
  have hend := frlBlockEnd_of_read (hdr := hdr) (syms := syms) (miss := miss) (ok := ok) hj hpend hn hread.symm hjob (congrArg (tget · j.ctx) hctxs)
  rw [if_pos (.inl (by rw [List.length_append, length_frlInput]; omega))] at hend
  exact ⟨_, congrArg Host.Outcome.next hend, hjob, hctxs, hkeep, by rw [hframe]⟩

theorem block_noGain {hdr : List Bool} {syms : List (List Bool)} {miss ok : Bool} {n h : Nat} (hj : s.fjob e = some j) (hctx : j.ctx < 16)
    (hn : n = min 16384 (j.len - j.read)) (h0 : 0 < n) (hpend : (s.fctx j.ctx).pend = []) (hle : j.buf.length ≤ n)
    (havail : n ≤ j.buf.length + s.frlAvail j) (hgain : j.nogain = false)
    (hh : h = if s.fld (FRL_CTXS j.ctx) FRL_CTXS_MODE = 0 ∨ miss = true then 0 else hdr.length)
    (hmore : 3 + (8 - ((s.fctx j.ctx).acc.length + 3) % 8) % 8 + 32 + 8 * n ≤ (syms.map List.length).foldl (· + ·) (3 + h)) :
    ∃ t, exec (.frlBlockEnd e hdr syms miss ok 0) s = .next t ∧ t.fjob e = none ∧ t.ctxSt j.ctx = ctxSUSPENDED ∧ t.fctx j.ctx = s.fctx j.ctx
      ∧ t.fld (FRL_STS e) FRL_STS_STATUS = E_FRL_NO_GAIN ∧ t.fld (FRL_STS e) FRL_STS_ESTATE = 0
      ∧ s.keeps t ([FRL_CTXS j.ctx, FRL_STS e, FRL_CONSUMED e, FRL_PRODUCED e, FRL_CRC e] ++ pointerOf j)
      ∧ { t with regs := s.regs, cap := s.cap } = s := by
  obtain ⟨u, hu⟩ : ∃ u, u = readOn e (n - j.buf.length) j s := ⟨_, rfl⟩
  obtain ⟨hjob, hctxs, hkeep, hframe⟩ := readOn_spec e (n - j.buf.length) j s
  rw [← hu] at hjob hctxs hkeep hframe
  have hread : frlRead e s = u := hu ▸ frlRead_eq hj (by omega)
  have hux : u.fctx j.ctx = s.fctx j.ctx := congrArg (tget · j.ctx) hctxs
  have hlen : (j.buf ++ s.frlInput j (n - j.buf.length)).length = n := by rw [List.length_append, length_frlInput]; omega
  have hend := frlBlockEnd_of_read (hdr := hdr) (syms := syms) (miss := miss) (ok := ok) hj hpend hn hread.symm hjob hux
  have hmode : u.fld (FRL_CTXS j.ctx) FRL_CTXS_MODE = s.fld (FRL_CTXS j.ctx) FRL_CTXS_MODE := fld_of_keeps hkeep (ctxs_not_pointer hctx j) _
  have hcount (last : Bool) : ¬ bitCount (blockCoded last (u.fld (FRL_CTXS j.ctx) FRL_CTXS_MODE == 0 || miss) hdr syms)
      < bitCount (blockStored last (u.fctx j.ctx).acc.length n (j.buf ++ s.frlInput j (n - j.buf.length))) := by
    have hfix : (if (u.fld (FRL_CTXS j.ctx) FRL_CTXS_MODE == 0 || miss) = true then 0 else hdr.length) = h := by
      rw [hmode, hh]
      exact if_congr (by simp) rfl rfl
    rw [bitCount_blockCoded, bitCount_blockStored, hlen, hux, hfix]
    exact Nat.not_lt.mpr hmore
  rw [hlen, if_neg (by omega), blockDone] at hend
  dsimp only at hend
  rw [if_pos ⟨by simpa using hcount _, by simp [hgain]⟩] at hend
  have hdone := jobEnded_frlEnd (code := E_FRL_NO_GAIN) (xs := ctxSUSPENDED) hjob hctx (by decide) (by decide)
  refine ⟨_, congrArg Host.Outcome.next hend, hdone.job, hdone.state, (hdone.kept (by decide)).trans hux, hdone.status, hdone.idle,
    keeps_trans hkeep hdone.keeps (List.subset_append_right ..) (List.subset_append_left ..), ?_⟩
  obtain ⟨r, k, hf⟩ := hdone.frame
  obtain ⟨r₀, k₀, hf₀⟩ := hframe
  rw [hf, hf₀]

theorem onlyRegs_whenInc (b : Bool) {a : Nat} {as : List Nat} (ha : a ∈ as) (s : State) : s.onlyRegs (s.when b fun s => s.inc a) as := by
  cases b
  · exact onlyRegs_rfl s _
  · exact onlyRegs_andWr (onlyRegs_rfl s _) ha

theorem onlyRegs_counted (e : Nat) (fewer gain : Bool) (s : State) :
    s.onlyRegs ((s.when fewer fun s => s.inc (FRL_TBLMISS_CNT e)).when (!gain) fun s => s.inc (FRL_NOGAIN_CNT e))
      [FRL_TBLMISS_CNT e, FRL_NOGAIN_CNT e] :=
  onlyRegs_trans (onlyRegs_whenInc _ (by simp) s) (onlyRegs_whenInc _ (by simp) _) (List.Subset.refl _) (List.Subset.refl _)

theorem blockCounted_spec {n : Nat} {fewer gain : Bool} {bits : List (List Bool)} :
    (blockCounted e n j fewer gain bits s).fjob e = some { j with read := j.read + n, buf := [] }
    ∧ ((blockCounted e n j fewer gain bits s).fctx j.ctx).crc = j.buf.foldl crcByte (s.fctx j.ctx).crc
    ∧ ((blockCounted e n j fewer gain bits s).fctx j.ctx).hist
      = ((s.fctx j.ctx).hist ++ j.buf).drop (((s.fctx j.ctx).hist ++ j.buf).length - 32768)
    ∧ s.keeps (blockCounted e n j fewer gain bits s) [FRL_TBLMISS_CNT e, FRL_NOGAIN_CNT e]
    ∧ ∃ r c, blockCounted e n j fewer gain bits s = { s with regs := r, cap := c } := by
  refine ⟨fjob_setFjob_same .., ?_, ?_, ?_, ?_⟩
  · rw [blockCounted, fctx_setFjob, fctx_setFctx_same]
  · rw [blockCounted, fctx_setFjob, fctx_setFctx_same]
  all_goals
    have hcount := onlyRegs_counted e fewer gain s
    rw [blockCounted]
    obtain ⟨v, hv⟩ : ∃ v, v = (s.when fewer fun s => s.inc (FRL_TBLMISS_CNT e)).when (!gain) fun s => s.inc (FRL_NOGAIN_CNT e) := ⟨_, rfl⟩
    rw [← hv] at hcount ⊢
  · exact keeps_of_regs hcount.2 (regs_setFctx_setFjob ..)
  · rw [eq_of_onlyRegs hcount]
    exact ⟨_, _, rfl⟩

theorem block_taken {hdr : List Bool} {syms : List (List Bool)} {miss ok : Bool} {n : Nat} {b : List (BitVec 8)} (hj : s.fjob e = some j)
    (hn : n = min 16384 (j.len - j.read)) (h0 : 0 < n) (hpend : (s.fctx j.ctx).pend = []) (hle : j.buf.length ≤ n)
    (havail : n ≤ j.buf.length + s.frlAvail j) (hb : b = j.buf ++ s.frlInput j (n - j.buf.length)) (hgain : j.nogain = true)
    (hok : j.verify = false ∨ ok = true) : ∃ t, exec (.frlBlockEnd e hdr syms miss ok 0) s = .next t
      ∧ (∃ k, t.fjob e = some k ∧ k = { j with read := j.read + n, out := k.out, buf := [] })
      ∧ (t.fctx j.ctx).crc = b.foldl crcByte (s.fctx j.ctx).crc
      ∧ (t.fctx j.ctx).hist = ((s.fctx j.ctx).hist ++ b).drop (((s.fctx j.ctx).hist ++ b).length - 32768)
      ∧ s.keeps t ([FRL_TBLMISS_CNT e, FRL_NOGAIN_CNT e] ++ pointerOf j)
      ∧ { t with regs := s.regs, cap := s.cap, cnv := s.cnv } = s := by
  obtain ⟨u, hu⟩ : ∃ u, u = readOn e (n - j.buf.length) j s := ⟨_, rfl⟩
  obtain ⟨hjob, hctxs, hkeep, r₀, k₀, hf₀⟩ := readOn_spec e (n - j.buf.length) j s
  rw [← hu] at hjob hctxs hkeep hf₀
  rw [← hb] at hjob
  have hread : frlRead e s = u := hu ▸ frlRead_eq hj (by omega)
  have hux : u.fctx j.ctx = s.fctx j.ctx := congrArg (tget · j.ctx) hctxs
  have hlen : b.length = n := by rw [hb, List.length_append, length_frlInput]; omega
  have hend := frlBlockEnd_of_read (hdr := hdr) (syms := syms) (miss := miss) (ok := ok) hj hpend hn hread.symm hjob hux
  rw [hlen, if_neg (by omega), blockDone] at hend
  dsimp only at hend
  rw [if_neg fun h => h.2 hgain, if_neg fun h => h.2 (hok.resolve_left fun hv => absurd h.1 (by simp [hv]))] at hend
  obtain ⟨bits, gain, hend⟩ : ∃ bits gain, frlBlockEnd e hdr syms miss ok 0 s = frlEmit e (blockCounted e n { j with buf := b }
    (u.fld (FRL_CTXS j.ctx) FRL_CTXS_MODE == 1 && miss) gain bits u) := ⟨_, _, hend⟩
  obtain ⟨hcj, hcrc, hhist, hck, r₁, k₁, hf₁⟩ := blockCounted_spec (s := u) (e := e) (n := n) (j := { j with buf := b })
    (fewer := u.fld (FRL_CTXS j.ctx) FRL_CTXS_MODE == 1 && miss) (gain := gain) (bits := bits)
  obtain ⟨c, hc⟩ : ∃ c, c = blockCounted e n { j with buf := b } (u.fld (FRL_CTXS j.ctx) FRL_CTXS_MODE == 1 && miss) gain bits u := ⟨_, rfl⟩
  rw [← hc] at hend hcj hcrc hhist hck hf₁
  obtain ⟨⟨out, hout⟩, hhist', hcrc', k₂, v₂, hf₂⟩ := frlEmit_spec hcj
  have hregs : (frlEmit e c).regs = c.regs := by rw [hf₂]
  refine ⟨_, congrArg Host.Outcome.next hend, ⟨_, hout, rfl⟩, hcrc'.trans (hcrc.trans (by rw [hux])), hhist'.trans (hhist.trans (by rw [hux])), ?_, ?_⟩
  · exact keeps_of_regs (keeps_trans hkeep hck (List.subset_append_right ..) (List.subset_append_left ..)) hregs
  · rw [hf₂, hf₁, hf₀]

theorem block_uncorrectable {hdr : List Bool} {syms : List (List Bool)} {miss ok : Bool} (hj : s.fjob e = some j) (hctx : j.ctx < 16) :
    ∃ t, exec (.frlBlockEnd e hdr syms miss ok 2) s = .next t ∧ JobEnded e j E_FRL_ECC_UNCORR ctxFAILED s t := by
  have hend : frlBlockEnd e hdr syms miss ok 2 s = frlEnd e E_FRL_ECC_UNCORR ctxFAILED s := by
    unfold frlBlockEnd
    rw [if_pos (.inr rfl)]
    dsimp only
    rw [hj]
    exact if_pos rfl
  exact ⟨_, congrArg Host.Outcome.next hend, jobEnded_frlEnd hj hctx (by decide) (by decide)⟩

/-! ### A full destination and the end of the input (R427, R428) -/

theorem outFull_spec (hj : s.fjob e = some j) (hctx : j.ctx < 16) (hfull : (s.fctx j.ctx).pend ≠ [] ∨ s.frlNoPad j = true) :
    ∃ t, exec (.frlOutFull e) s = .next t ∧ JobEnded e j E_FRL_OUT_FULL ctxSUSPENDED s t := by
  have hend : frlOutFull e s = frlEnd e E_FRL_OUT_FULL ctxSUSPENDED s := by
    rw [frlOutFull, hj]
    exact if_pos hfull
  exact ⟨_, congrArg Host.Outcome.next hend, jobEnded_frlEnd hj hctx (by decide) (by decide)⟩

/-- The last byte of a FINAL job is padded and written. -/
def lastPadded (e : Nat) (j : FJob) (s : State) : State :=
  let w := (bitBytes 1 ((s.fctx j.ctx).acc ++ List.replicate ((8 - (s.fctx j.ctx).acc.length) % 8) false)).1
  (({ s with cnv := { s.cnv with res := stList s.cnv.res (j.dst + j.out) w } }).setFctx j.ctx { s.fctx j.ctx with acc := [] }).setFjob e
    (some { j with out := j.out + w.length })

theorem frlJobEnd_eq (hj : s.fjob e = some j) (hread : j.read = j.len) (hpend : (s.fctx j.ctx).pend = []) (hpad : s.frlNoPad j = false) :
    frlJobEnd e s = if j.final = true then frlEnd e 0 ctxDONE (lastPadded e j s) else frlEnd e 0 ctxSUSPENDED s := by
  rw [frlJobEnd, hj]
  exact if_neg (by simp [hread, hpend, hpad])

theorem noPad_of_open (hroom : j.out < j.room) : s.frlNoPad j = false := by simp [State.frlNoPad, hroom]

theorem noPad_of_empty (h : j.final = true → (s.fctx j.ctx).acc = []) : s.frlNoPad j = false := by
  cases hf : j.final
  · simp [State.frlNoPad, hf]
  · simp [State.frlNoPad, h hf]

theorem bitBytes_byte {bs : List Bool} (h : bs.length = 8) : ∃ b, (bitBytes 1 bs).1 = [b] := by
  rw [bitBytes, if_neg (by omega)]
  exact ⟨_, rfl⟩

theorem jobEnd_even (hj : s.fjob e = some j) (hctx : j.ctx < 16) (hread : j.read = j.len) (hpend : (s.fctx j.ctx).pend = [])
    (hacc : j.final = true → (s.fctx j.ctx).acc = []) : ∃ t, exec (.frlJobEnd e) s = .next t ∧ t.fjob e = none
      ∧ t.ctxSt j.ctx = (if j.final = true then ctxDONE else ctxSUSPENDED)
      ∧ t.fld (FRL_STS e) FRL_STS_STATUS = 0 ∧ t.fld (FRL_STS e) FRL_STS_ESTATE = 0 ∧ t.rdN (FRL_PRODUCED e) = j.out % 2 ^ 64
      ∧ s.keeps t [FRL_CTXS j.ctx, FRL_STS e, FRL_CONSUMED e, FRL_PRODUCED e, FRL_CRC e] ∧ { t with regs := s.regs, cap := s.cap } = s := by
  have hend := frlJobEnd_eq hj hread hpend (noPad_of_empty hacc)
  cases hf : j.final with
  | false =>
    rw [hf, if_neg (by decide)] at hend
    have hdone := jobEnded_frlEnd (code := 0) (xs := ctxSUSPENDED) hj hctx (by decide) (by decide)
    exact ⟨_, congrArg Host.Outcome.next hend, hdone.job, hdone.state, hdone.status, hdone.idle, hdone.produced, hdone.keeps, hdone.frame_eq⟩
  | true =>
    have hpad : lastPadded e j s = { s with cap := (lastPadded e j s).cap } := by rw [lastPadded, hacc hf]; rfl
    have hjob : (lastPadded e j s).fjob e = some j := by
      rw [lastPadded, hacc hf]
      exact fjob_setFjob_same ..
    obtain ⟨u, hu⟩ : ∃ u, u = lastPadded e j s := ⟨_, rfl⟩
    rw [hf, if_pos rfl, ← hu] at hend
    rw [← hu] at hpad hjob
    have hdone := jobEnded_frlEnd (code := 0) (xs := ctxDONE) hjob hctx (by decide) (by decide)
    have hsu : s.keeps u [] := keeps_of_regs (keeps_rfl s _) (by rw [hpad])
    refine ⟨_, congrArg Host.Outcome.next hend, hdone.job, hdone.state, hdone.status, hdone.idle, hdone.produced,
      keeps_trans hsu hdone.keeps (List.nil_subset _) (List.Subset.refl _), ?_⟩
    obtain ⟨r, k, hframe⟩ := hdone.frame
    rw [hframe, hpad]

theorem jobEnd_padded (hj : s.fjob e = some j) (hctx : j.ctx < 16) (hread : j.read = j.len) (hpend : (s.fctx j.ctx).pend = [])
    (hf : j.final = true) (hacc : (s.fctx j.ctx).acc ≠ []) (hshort : (s.fctx j.ctx).acc.length < 8) (hroom : j.out < j.room) :
    ∃ t, exec (.frlJobEnd e) s = .next t ∧ t.fjob e = none ∧ t.ctxSt j.ctx = ctxDONE
      ∧ t.fld (FRL_STS e) FRL_STS_STATUS = 0 ∧ t.fld (FRL_STS e) FRL_STS_ESTATE = 0 ∧ t.rdN (FRL_PRODUCED e) = (j.out + 1) % 2 ^ 64
      ∧ (∀ b, b ≠ j.dst + j.out → ldByte t.cnv.res b = ldByte s.cnv.res b)
      ∧ s.keeps t [FRL_CTXS j.ctx, FRL_STS e, FRL_CONSUMED e, FRL_PRODUCED e, FRL_CRC e]
      ∧ { t with regs := s.regs, cap := s.cap, cnv := s.cnv } = s := by
  have hend := frlJobEnd_eq hj hread hpend (noPad_of_open hroom)
  have hpos := List.length_pos_iff.mpr hacc
  obtain ⟨c, hc⟩ := bitBytes_byte (bs := (s.fctx j.ctx).acc ++ List.replicate ((8 - (s.fctx j.ctx).acc.length) % 8) false)
    (by rw [List.length_append, List.length_replicate]; omega)
  have hjob : (lastPadded e j s).fjob e = some { j with out := j.out + 1 } := by
    rw [lastPadded, hc]
    exact fjob_setFjob_same ..
  have hres : (lastPadded e j s).cnv.res = tput s.cnv.res (j.dst + j.out) c := by
    rw [lastPadded, hc]
    rfl
  have hpad : ∃ k v, lastPadded e j s = { s with cap := k, cnv := v } := ⟨_, _, rfl⟩
  obtain ⟨u, hu⟩ : ∃ u, u = lastPadded e j s := ⟨_, rfl⟩
  rw [hf, if_pos rfl, ← hu] at hend
  rw [← hu] at hpad hjob hres
  obtain ⟨k₀, v₀, hpad⟩ := hpad
  have hdone := jobEnded_frlEnd (code := 0) (xs := ctxDONE) hjob hctx (by decide) (by decide)
  have hsu : s.keeps u [] := keeps_of_regs (keeps_rfl s _) (by rw [hpad])
  obtain ⟨r, k, hframe⟩ := hdone.frame
  refine ⟨_, congrArg Host.Outcome.next hend, hdone.job, hdone.state, hdone.status, hdone.idle, hdone.produced, fun b hb => ?_,
    keeps_trans hsu hdone.keeps (List.nil_subset _) (List.Subset.refl _), ?_⟩
  · have hcnv : (frlEnd e 0 ctxDONE u).cnv = u.cnv := by rw [hframe]
    rw [hcnv, hres]
    exact (tget_tput ..).trans (if_neg hb)
  · rw [hframe, hpad]

end

/-- Settles O37: the commands begin and end the jobs of R430 to R432, a block is read into history and CRC, and each end leaves
its code, the context's state and the counts. -/
theorem furlerRunsItsJobs : Obligations.FurlerRunsItsJobs := by
  refine ⟨fun s e v w x he hopen hw hx hcheck => start_spec he hopen hw hx hcheck,
    fun s e v w x he hopen hw hx hcheck hpend hacc => resume_spec he hopen hw hx hcheck hpend hacc, fun p hp s e v he hopen hcheck => ?_,
    fun s e j he hopen hj hctx => ?_, fun s e he hopen hj => abort_idle hopen hj, fun s e x he hx hopen hst => clear_spec he hx hopen hst,
    fun s e x he hx hopen hst => clear_busy hx hopen hst,
    fun s e hdr syms miss ok j n b he hj hctx hn h0 hpend hle havail hb hgain hok => block_taken hj hn h0 hpend hle havail hb hgain hok,
    fun s e hdr syms miss ok j n he hj hn hpend hshort => block_short hj hn hpend hshort,
    fun s e hdr syms miss ok j n h he hj hctx hn h0 hpend hle havail hgain hh hmore =>
      block_noGain hj hctx hn h0 hpend hle havail hgain hh hmore,
    fun s e hdr syms miss ok j he hj hctx => ?_, fun s e j he hj hctx hfull => ?_,
    fun s e j he hj hctx hread hpend hacc => jobEnd_even hj hctx hread hpend hacc,
    fun s e j he hj hctx hread hpend hf hacc hshort hroom => jobEnd_padded hj hctx hread hpend hf hacc hshort hroom⟩
  · obtain rfl | rfl : p = (Instr.frlStart, 1) ∨ p = (Instr.frlResume, 2) := by simpa using hp
    · exact ⟨_, next_hostWr hopen rfl, begin_refused hcheck (.inl (by omega))⟩
    · exact ⟨_, next_hostWr hopen rfl, begin_refused hcheck (.inr (by omega))⟩
  · obtain ⟨t, hexec, hd⟩ := abort_spec hopen hj hctx
    exact ⟨t, hexec, hd.job, hd.state, hd.dropped rfl, hd.status, hd.idle, hd.consumed, hd.produced, hd.keeps, hd.frame_eq⟩
  · obtain ⟨t, hexec, hd⟩ := block_uncorrectable (hdr := hdr) (syms := syms) (miss := miss) (ok := ok) hj hctx
    exact ⟨t, hexec, hd.job, hd.state, hd.status, hd.idle, hd.keeps, hd.frame_eq⟩
  · obtain ⟨t, hexec, hd⟩ := outFull_spec hj hctx hfull
    have hkept := hd.kept (by decide)
    exact ⟨t, hexec, hd.job, hd.state, hkept, hd.status, hd.idle, hd.consumed, hd.produced, hd.crc.trans (by rw [hkept]), hd.keeps, hd.frame_eq⟩

end Sys2Proof.Laws
end

section
namespace Sys2Proof.Laws
open Sys2Proof.Machine

-- One theorem after another: a thread for each of them passes the memory limit of the check.
set_option Elab.async false

/-! ### Reads past an update of a register, or of another part of the state -/

section
variable {s t : State} {as : List Nat} {a b n : Nat} {f : Fld}

theorem keeps_setF (h : s.keeps t as) (ha : a ∈ as) : s.keeps (t.setF a f n) as := keeps_andWr h ha
theorem keeps_status (h : s.keeps t as) (ha : a ∈ as) : s.keeps (t.status a n) as := keeps_andWr h ha
theorem keeps_wrN (h : s.keeps t as) (ha : a ∈ as) : s.keeps (t.wrN a n) as := keeps_andWr h ha
theorem keeps_wrRW (h : s.keeps t as) (ha : a ∈ as) : s.keeps (t.wrRW a n) as := keeps_andWr h ha
theorem keeps_countUp (h : s.keeps t as) (ha : a ∈ as) : s.keeps (t.inc a) as := keeps_andWr h ha
theorem keeps_modStay {g : StayS → StayS} (h : s.keeps t as) : s.keeps (t.modStay g) as := keeps_of_regs h rfl
theorem keeps_stayReport (h : s.keeps t as) : s.keeps (stayReport n t) as := keeps_of_regs h rfl

theorem fld_modStay (s : State) (g : StayS → StayS) (a : Nat) (f : Fld) : (s.modStay g).fld a f = s.fld a f := rfl
theorem rdN_modStay (s : State) (g : StayS → StayS) (a : Nat) : (s.modStay g).rdN a = s.rdN a := rfl
theorem fld_stayReport (s : State) (c a : Nat) (f : Fld) : (stayReport c s).fld a f = s.fld a f := rfl

end

/-! ### TB1 (R435 to R437) -/

section
variable {s t : State}

/-- The demodulation chains without what they kept by TB1. -/
def demsCleared (d : Tab Dem) (ks : List Nat) : Tab Dem := ks.foldl (fun d k => tput d k { tget d k with nco := [], trigs := [] }) d

theorem tget_demsCleared (d : Tab Dem) (ks : List Nat) (k : Nat) :
    tget (demsCleared d ks) k = if k ∈ ks then { tget d k with nco := [], trigs := [] } else tget d k := by
  induction ks generalizing d with
  | nil => rfl
  | cons j js ih =>
    rw [demsCleared, List.foldl_cons, ← demsCleared, ih, tget_tput]
    by_cases hkj : k = j
    · subst hkj
      simp
    · simp [hkj]

theorem tget_of_unlisted {α : Type} [Inhabited α] {d : Tab α} {k : Nat} (h : k ∉ d.map (·.1)) : tget d k = default := by
  induction d with
  | nil => rfl
  | cons p ps ih =>
    rw [List.map_cons, List.mem_cons, not_or] at h
    exact (if_neg fun hp => h.1 hp.symm).trans (ih h.2)

theorem tget_demsCleared_keys (d : Tab Dem) (k : Nat) :
    tget (demsCleared d (d.map (·.1))) k = { tget d k with nco := [], trigs := [] } := by
  rw [tget_demsCleared]
  split
  · rfl
  · next h =>
    rw [tget_of_unlisted h]
    rfl

theorem forEach_demCleared (ks : List Nat) (s : State) :
    forEach ks s (fun k s => { s with cnv := { s.cnv with dems := tput s.cnv.dems k { tget s.cnv.dems k with nco := [], trigs := [] } } })
      = { s with cnv := { s.cnv with dems := demsCleared s.cnv.dems ks } } := by
  induction ks generalizing s with
  | nil => rfl
  | cons j js ih => exact ih _

theorem tb1Clear_eq (s : State) : tb1Clear s = { s with
    ton := { s.ton with ncos := [], last := [] },
    cnv := { s.cnv with hist := [], trigEv := [], rels := [], dems := demsCleared s.cnv.dems (s.cnv.dems.map (·.1)) } } :=
  forEach_demCleared _ _

theorem tb1Start_spec (hopen : s.opens STAY_CMD) (hfree : s.tb1Free = true) (hst : s.tb1St = tbSTOPPED) :
    ∃ t, exec .tb1Start s = .next t ∧ t.tb1St = tbSTARTING ∧ t.fld STAY_STS STAY_STS_STATUS = 0
      ∧ t.stay = { s.stay with starts := some (s.clock.now + 20000) } ∧ s.keeps t [STAY_STS]
      ∧ { t with regs := s.regs, stay := s.stay } = s := by
  have hstart : stayCmd 1 s = ((s.status STAY_STS 0).setTb1St tbSTARTING).modStay fun x => { x with starts := some (s.clock.now + 1250 * ft) } :=
    if_neg (by simp [hfree, hst])
  refine ⟨_, next_hostWr hopen hstart, fld_setF _ _ STAY_STS_TB1STATE _ (by decide), ?_, rfl,
    keeps_modStay (keeps_setF (keeps_status (keeps_rfl s _) (by simp)) (by simp)), rfl⟩
  simp (disch := decide) only [fld_modStay, State.setTb1St, fld_setF_beside]
  exact fld_status ..

theorem tb1ArmSync_spec (hopen : s.opens STAY_CMD) (hfree : s.tb1Free = true) (hst : s.tb1St = tbSTOPPED) :
    ∃ t, exec .tb1ArmSync s = .next t ∧ t.tb1St = tbSTARTING
      ∧ t.flag STAY_STS STAY_STS_SYNC_ARMED = true ∧ t.fld STAY_STS STAY_STS_STATUS = 0 ∧ s.onlyRegs t [STAY_STS] := by
  have harm : stayCmd 2 s = ((s.status STAY_STS 0).setTb1St tbSTARTING).setF STAY_STS STAY_STS_SYNC_ARMED 1 := if_neg (by simp [hfree, hst])
  refine ⟨_, next_hostWr hopen harm, ?_, flag_setF_same _ _ _ _ (by decide) (by decide), ?_, onlyRegs_andWr (onlyRegs_andWr
    (onlyRegs_status ..) (by simp)) (by simp)⟩
  · simp (disch := decide) only [State.tb1St, State.setTb1St, fld_setF_beside]
    exact fld_setF _ _ STAY_STS_TB1STATE _ (by decide)
  · simp (disch := decide) only [State.setTb1St, fld_setF_beside]
    exact fld_status ..

theorem tb1_refused (hno : s.tb1Free = false ∨ s.tb1St ≠ tbSTOPPED) :
    stayCmd 1 s = s.status STAY_STS E_STAY_STATE ∧ stayCmd 2 s = s.status STAY_STS E_STAY_STATE := by
  have h : ¬ s.tb1Free = true ∨ s.tb1St ≠ tbSTOPPED := hno.imp_left (by simp)
  exact ⟨if_pos h, if_pos h⟩

/-- What a new life of TB1 leaves of the tones and the converters. -/
structure Tb1Cleared (s t : State) : Prop where
  ton : t.ton = { s.ton with ncos := [], last := [] }
  cnv : t.cnv = { s.cnv with hist := [], trigEv := [], rels := [], dems := t.cnv.dems }
  dems : ∀ k, tget t.cnv.dems k = { tget s.cnv.dems k with nco := [], trigs := [] }

theorem tb1Cleared_of (hton : t.ton = (tb1Clear s).ton) (hcnv : t.cnv = (tb1Clear s).cnv) : Tb1Cleared s t := by
  rw [tb1Clear_eq] at hton hcnv
  refine ⟨hton, ?_, fun k => ?_⟩
  · rw [hcnv]
  · rw [hcnv]
    exact tget_demsCleared_keys ..

theorem tb1Stop_spec (hopen : s.opens STAY_CMD) (hfree : s.tb1Free = true) (hidle : s.allIdle = true) :
    ∃ t, exec .tb1Stop s = .next t ∧ t.tb1St = tbSTOPPED ∧ t.clock.tb1 = 0
      ∧ t.fld STAY_STS STAY_STS_SYNC_ARMED = 0 ∧ t.fld STAY_STS STAY_STS_STATUS = 0 ∧ t.stay = { s.stay with starts := none }
      ∧ Tb1Cleared s t ∧ s.keeps t [STAY_STS]
      ∧ { t with regs := s.regs, stay := s.stay, clock := s.clock, ton := s.ton, cnv := s.cnv } = s := by
  obtain ⟨u, hu⟩ : ∃ u, u = s.status STAY_STS 0 := ⟨_, rfl⟩
  obtain ⟨v, hv⟩ : ∃ v : State, v = { tb1Clear u with clock := { u.clock with tb1 := 0 } } := ⟨_, rfl⟩
  have hstop : stayCmd 3 s = ((v.setTb1St tbSTOPPED).setF STAY_STS STAY_STS_SYNC_ARMED 0).modStay fun x => { x with starts := none } := by
    rw [hv, hu]
    exact if_neg (by simp [hfree, hidle])
  have hus : s.onlyRegs u [STAY_STS] := hu ▸ onlyRegs_status ..
  have hvu : v = { u with
      clock := { u.clock with tb1 := 0 }, ton := { u.ton with ncos := [], last := [] },
      cnv := { u.cnv with hist := [], trigEv := [], rels := [], dems := demsCleared u.cnv.dems (u.cnv.dems.map (·.1)) } } := by
    rw [hv, tb1Clear_eq]
  have husts : u.fld STAY_STS STAY_STS_STATUS = 0 := hu ▸ fld_status ..
  have hregs : v.regs = u.regs := by rw [hvu]
  have heq := eq_of_onlyRegs hus
  refine ⟨_, next_hostWr hopen hstop, ?_, ?_, fld_setF _ _ STAY_STS_SYNC_ARMED _ (by decide), ?_, ?_, ?_, ?_, ?_⟩
  · simp (disch := decide) only [State.tb1St, State.setTb1St, fld_modStay, fld_setF_beside]
    exact fld_setF _ _ STAY_STS_TB1STATE _ (by decide)
  · rw [hv]
    rfl
  · simp (disch := decide) only [State.setTb1St, fld_modStay, fld_setF_beside]
    exact (congrArg (fun r => getF (sget resetVal r STAY_STS) STAY_STS_STATUS) hregs).trans husts
  · rw [hvu, heq]
    rfl
  · refine tb1Cleared_of ?_ ?_
    · rw [hvu, heq, tb1Clear_eq]
      rfl
    · rw [hvu, heq, tb1Clear_eq]
      rfl
  · exact keeps_modStay (keeps_setF (keeps_setF (keeps_of_regs hus.2 hregs) (by simp)) (by simp))
  · rw [hvu, heq]
    rfl

theorem tb1Zero_spec {τ : Nat} (hstarts : s.stay.starts = some τ) (hst : s.tb1St = tbSTARTING) (hnow : τ ≤ s.clock.now) :
    ∃ t, exec .tb1Zero s = .next t ∧ t.tb1St = tbRUNNING
      ∧ t.clock = { s.clock with tb1 := s.clock.now - τ } ∧ t.stay = { s.stay with starts := none, tbn := [] } ∧ s.keeps t [STAY_STS]
      ∧ Tb1Cleared s t ∧ { t with regs := s.regs, stay := s.stay, clock := s.clock, ton := s.ton, cnv := s.cnv } = s := by
  obtain ⟨v, hv⟩ : ∃ v : State, v = { tb1Clear s with clock := { s.clock with tb1 := s.clock.now - τ } } := ⟨_, rfl⟩
  have hzero : tb1Zero s = (v.setTb1St tbRUNNING).modStay fun x => { x with starts := none, tbn := [] } := by
    rw [hv, tb1Zero, hstarts]
    exact if_pos ⟨hst, hnow⟩
  have hvs : v = { s with
      clock := { s.clock with tb1 := s.clock.now - τ }, ton := { s.ton with ncos := [], last := [] },
      cnv := { s.cnv with hist := [], trigEv := [], rels := [], dems := demsCleared s.cnv.dems (s.cnv.dems.map (·.1)) } } := by
    rw [hv, tb1Clear_eq]
  refine ⟨_, congrArg Host.Outcome.next hzero, fld_setF _ _ STAY_STS_TB1STATE _ (by decide), ?_, ?_, ?_, ?_, ?_⟩
  · rw [hv]
    rfl
  · rw [hvs]
    rfl
  · exact keeps_modStay (keeps_setF (keeps_of_regs (keeps_rfl s _) (by rw [hvs])) (by simp))
  · refine tb1Cleared_of ?_ ?_
    · rw [hv]
      rfl
    · rw [hv]
      rfl
  · rw [hvs]
    rfl

/-! ### Skew calibration and SYNCIN (R437 to R441) -/

theorem skewcal_spec (hopen : s.opens STAY_CMD) (hdev : s.dev = dREADY) (hidle : s.allIdle = true) :
    ∃ t, exec .skewcal s = .next t ∧ t.flag STAY_STS STAY_STS_SKEWCAL = true
      ∧ t.fld STAY_STS STAY_STS_STATUS = 0 ∧ t.stay = { s.stay with skew := some (s.clock.now, []) } ∧ s.keeps t [STAY_STS]
      ∧ { t with regs := s.regs, stay := s.stay } = s := by
  have hcal : stayCmd 4 s = ((s.status STAY_STS 0).setF STAY_STS STAY_STS_SKEWCAL 1).modStay fun x => { x with skew := some (s.clock.now, []) } :=
    if_neg (by simp [hdev, hidle])
  refine ⟨_, next_hostWr hopen hcal, flag_setF_same _ _ _ _ (by decide) (by decide), ?_, rfl,
    keeps_modStay (keeps_setF (keeps_status (keeps_rfl s _) (by simp)) (by simp)), rfl⟩
  simp (disch := decide) only [fld_modStay, fld_setF_beside]
  exact fld_status ..

/-- SKEWCAL is at its end. -/
def skewClosed (s : State) : State := (s.setF STAY_STS STAY_STS_SKEWCAL 0).modStay fun x => { x with skew := none }

theorem skewcal_measured {τ : Nat} {ps : List Int} (hskew : s.stay.skew = some (τ, ps)) (hall : 256 ≤ ps.length) :
    ∃ t, exec .skewcalComplete s = .next t
      ∧ t.fld STAY_SKEW STAY_SKEW_SHIFT = unsgn 8 (max (-64) (min 63 (64 - ps.foldl (· + ·) 0 / 256)))
      ∧ t.fld STAY_STS STAY_STS_SKEWCAL = 0 ∧ t.fld STAY_STS STAY_STS_STATUS = 0 ∧ t.stay = { s.stay with skew := none }
      ∧ s.keeps t [STAY_SKEW, STAY_STS] ∧ { t with regs := s.regs, stay := s.stay } = s := by
  obtain ⟨n, hn⟩ : ∃ n, n = unsgn 8 (max (-64) (min 63 (64 - ps.foldl (· + ·) 0 / 256))) := ⟨_, rfl⟩
  have hlt : n < 2 ^ 8 := by
    rw [hn, unsgn]
    omega
  have hend : skewcalComplete s = (skewClosed (s.setF STAY_SKEW STAY_SKEW_SHIFT n)).status STAY_STS 0 := by
    rw [skewcalComplete, hskew, hn]
    exact if_pos hall
  rw [← hn]
  refine ⟨_, congrArg Host.Outcome.next hend, ?_, ?_, fld_status .., rfl,
    keeps_status (keeps_modStay (keeps_setF (keeps_setF (keeps_rfl s _) (by simp)) (by simp))) (by simp), rfl⟩
  · refine (fld_status_ne _ _ _ (by decide)).trans ((fld_setF_ne _ _ _ _ _ _ (by decide)).trans ?_)
    exact (fld_setF _ _ STAY_SKEW_SHIFT _ (by decide)).trans (Nat.mod_eq_of_lt hlt)
  · exact (fld_setF_beside _ _ fSTATUS STAY_STS_SKEWCAL _ (by decide) (by decide) (by decide)).trans (fld_setF _ _ STAY_STS_SKEWCAL _ (by decide))

theorem skewcal_timedOut {τ : Nat} {ps : List Int} (hskew : s.stay.skew = some (τ, ps)) (hless : ps.length < 256) (hlate : τ + 20000000 ≤ s.clock.now) :
    ∃ t, exec .skewcalComplete s = .next t
      ∧ t.fld STAY_STS STAY_STS_SKEWCAL = 0 ∧ t.fld STAY_STS STAY_STS_STATUS = E_STAY_TIMEOUT ∧ t.stay = { s.stay with skew := none }
      ∧ s.keeps t [STAY_STS] ∧ { t with regs := s.regs, stay := s.stay } = s := by
  have hend : skewcalComplete s = (skewClosed s).status STAY_STS E_STAY_TIMEOUT := by
    rw [skewcalComplete, hskew]
    exact (if_neg (Nat.not_le.mpr hless)).trans (if_pos hlate)
  refine ⟨_, congrArg Host.Outcome.next hend, ?_, fld_status_of_lt _ _ (by decide), rfl,
    keeps_status (keeps_modStay (keeps_setF (keeps_rfl s _) (by simp))) (by simp), rfl⟩
  exact (fld_setF_beside _ _ fSTATUS STAY_STS_SKEWCAL _ (by decide) (by decide) (by decide)).trans (fld_setF _ _ STAY_STS_SKEWCAL _ (by decide))

/-- The position of an edge of SYNCIN in 1/128 st, less the compensation. -/
def edgeAt (s : State) (f : Nat) : Int := ((128 * s.clock.now + f % 128 : Nat) : Int) - sgn 16 (s.fld STAY_SYNC_COMP STAY_SYNC_COMP_COMP)

theorem syncinEdge_armed {f : Nat} (harm : s.flag STAY_STS STAY_STS_SYNC_ARMED = true) : ∃ t, exec (.syncinEdge f) s = .next t
      ∧ t.fld STAY_STS STAY_STS_SYNC_ARMED = 0
      ∧ t.stay = { s.stay with starts := some ((edgeAt s f / 128 + 1).toNat + 16000) } ∧ s.keeps t [STAY_STS]
      ∧ { t with regs := s.regs, stay := s.stay } = s := by
  have hedge : syncinEdge f s = (s.setF STAY_STS STAY_STS_SYNC_ARMED 0).modStay
      fun x => { x with starts := some ((edgeAt s f / 128 + 1).toNat + 16000) } := if_pos harm
  exact ⟨_, congrArg Host.Outcome.next hedge, fld_setF _ _ STAY_STS_SYNC_ARMED _ (by decide), rfl,
    keeps_modStay (keeps_setF (keeps_rfl s _) (by simp)), rfl⟩

theorem syncinEdge_phase {f : Nat} {e : Int} (he : e = edgeAt s f) (harm : s.flag STAY_STS STAY_STS_SYNC_ARMED = false) (hskew : s.stay.skew = none) :
    ∃ t, exec (.syncinEdge f) s = .next t ∧ t.fld STAY_SYNC_PHASE STAY_SYNC_PHASE_PHASE = ((128 - e % 128) % 128).toNat
      ∧ (54 ≤ 128 - e % 128 → 128 - e % 128 ≤ 74 → s.onlyRegs t [STAY_SYNC_PHASE])
      ∧ (128 - e % 128 < 54 ∨ 74 < 128 - e % 128 → t.flag STAY_STS STAY_STS_SKEW_DRIFT = true
          ∧ t.bus = { s.bus with reports := s.bus.reports ++ [⟨E_STAY_SKEW_DRIFT, false, islHub, 0⟩] } ∧ s.keeps t [STAY_SYNC_PHASE, STAY_STS]) := by
  obtain ⟨u, hu⟩ : ∃ u, u = s.setF STAY_SYNC_PHASE STAY_SYNC_PHASE_PHASE ((128 - e % 128) % 128).toNat := ⟨_, rfl⟩
  have hedge : syncinEdge f s = if 128 - e % 128 < 54 ∨ 74 < 128 - e % 128
      then stayReport E_STAY_SKEW_DRIFT (u.setF STAY_STS STAY_STS_SKEW_DRIFT 1) else u := by
    unfold syncinEdge
    rw [harm, hskew, hu, he]
    rfl
  have hphase : u.fld STAY_SYNC_PHASE STAY_SYNC_PHASE_PHASE = ((128 - e % 128) % 128).toNat := by
    rw [hu, fld_setF _ _ STAY_SYNC_PHASE_PHASE _ (by decide)]
    exact Nat.mod_eq_of_lt (show _ < 2 ^ 7 by omega)
  have huo : s.onlyRegs u [STAY_SYNC_PHASE] := hu ▸ onlyRegs_setF ..
  by_cases hdrift : 128 - e % 128 < 54 ∨ 74 < 128 - e % 128
  · rw [if_pos hdrift] at hedge
    refine ⟨_, congrArg Host.Outcome.next hedge, (fld_setF_ne _ _ _ _ _ _ (by decide)).trans hphase, fun h1 h2 => by omega, fun _ => ⟨?_, ?_, ?_⟩⟩
    · exact flag_setF_same _ _ _ _ (by decide) (by decide)
    · rw [eq_of_onlyRegs huo]
      rfl
    · exact keeps_stayReport (keeps_setF (keeps_mono huo.2 (by simp)) (by simp))
  · rw [if_neg hdrift] at hedge
    exact ⟨u, congrArg Host.Outcome.next hedge, hphase, fun _ _ => huo, fun h => absurd h hdrift⟩

/-! ### STEP, SET, ACCEPT_ASYM and RELOCK (R449, R452, R453) -/

theorem sst_setF_asym (s : State) (n : Nat) : (s.setF STAY_STS STAY_STS_ASYM_SUSPECT n).sst = s.sst :=
  fld_setF_beside _ _ STAY_STS_ASYM_SUSPECT STAY_STS_SSTATE _ (by decide) (by decide) (by decide)

theorem sst_status (s : State) (c : Nat) : (s.status STAY_STS c).sst = s.sst :=
  fld_setF_beside _ _ fSTATUS STAY_STS_SSTATE _ (by decide) (by decide) (by decide)

theorem sst_setSst (s : State) {n : Nat} (hn : n < 8) : (s.setSst n).sst = n := (fld_setF s STAY_STS STAY_STS_SSTATE n (by decide)).trans (Nat.mod_eq_of_lt hn)

theorem asym_setSst (s : State) (n : Nat) : (s.setSst n).fld STAY_STS STAY_STS_ASYM_SUSPECT = s.fld STAY_STS STAY_STS_ASYM_SUSPECT :=
  fld_setF_beside _ _ STAY_STS_SSTATE STAY_STS_ASYM_SUSPECT _ (by decide) (by decide) (by decide)

theorem asym_status (s : State) (c : Nat) : (s.status STAY_STS c).fld STAY_STS STAY_STS_ASYM_SUSPECT = s.fld STAY_STS STAY_STS_ASYM_SUSPECT :=
  fld_setF_beside _ _ fSTATUS STAY_STS_ASYM_SUSPECT _ (by decide) (by decide) (by decide)

theorem asym_cleared (s : State) : (s.setF STAY_STS STAY_STS_ASYM_SUSPECT 0).fld STAY_STS STAY_STS_ASYM_SUSPECT = 0 :=
  fld_setF _ _ STAY_STS_ASYM_SUSPECT _ (by decide)

/-- An accepted jump changes the servo's state and no more. -/
theorem afterJump_spec (s : State) : s.onlyRegs (afterJump s) [STAY_STS] ∧ (afterJump s).fld STAY_STS STAY_STS_ASYM_SUSPECT = 0
    ∧ (afterJump s).sst = if s.stay.lock1 = false then s.sst else if s.staySrc = 0 then svFREERUN else svLOCKED := by
  have hsrc : (s.setF STAY_STS STAY_STS_ASYM_SUSPECT 0).staySrc = s.staySrc := fld_setF_ne _ _ _ _ _ _ (by decide)
  have hcl : s.onlyRegs (s.setF STAY_STS STAY_STS_ASYM_SUSPECT 0) [STAY_STS] := onlyRegs_setF ..
  cases hlock : s.stay.lock1 with
  | false =>
    have h : afterJump s = s.setF STAY_STS STAY_STS_ASYM_SUSPECT 0 := if_pos (by simp [hlock])
    rw [h]
    exact ⟨hcl, asym_cleared s, sst_setF_asym ..⟩
  | true =>
    have h : afterJump s = (s.setF STAY_STS STAY_STS_ASYM_SUSPECT 0).setSst (if s.staySrc = 0 then svFREERUN else svLOCKED) := by
      unfold afterJump
      dsimp only
      rw [hsrc, if_neg (by simp [hlock])]
      split
      · rfl
      · rfl
    rw [h]
    refine ⟨onlyRegs_andWr hcl (by simp), (asym_setSst ..).trans (asym_cleared s), sst_setSst _ ?_⟩
    split
    · decide
    · decide

theorem stayStep_spec {d : Int} (hopen : s.opens STAY_CMD) (hd : d = sgn 64 (s.rdN STAY_TB0_STEP) * uFRAC)
    (hsmall : s.stay.lock1 = false ∨ d.natAbs ≤ s.jumpUnits) : ∃ t, exec .stayStep s = .next t
      ∧ t.stay = { s.stay with plan := s.stay.plan ++ [(s.nextFt, 0, d)] } ∧ t.fld STAY_STS STAY_STS_STATUS = 0
      ∧ t.fld STAY_STS STAY_STS_ASYM_SUSPECT = 0
      ∧ t.sst = (if s.stay.lock1 = false then s.sst else if s.staySrc = 0 then svFREERUN else svLOCKED)
      ∧ s.keeps t [STAY_STS] ∧ { t with regs := s.regs, stay := s.stay } = s := by
  obtain ⟨u, hu⟩ : ∃ u, u = afterJump (s.modStay fun x => { x with plan := x.plan ++ [(s.nextFt, 0, d)] }) := ⟨_, rfl⟩
  have hstep : stayCmd 5 s = u.status STAY_STS 0 := by
    rw [hu, hd]
    refine if_neg fun h => ?_
    rcases hsmall with hlock | hle
    · exact absurd h.1 (by simp [hlock])
    · exact Nat.not_lt.mpr (hd ▸ hle) h.2
  obtain ⟨honly, hasym, hsst⟩ := afterJump_spec (s.modStay fun x => { x with plan := x.plan ++ [(s.nextFt, 0, d)] })
  rw [← hu] at honly hasym hsst
  have heq := eq_of_onlyRegs honly
  refine ⟨_, next_hostWr hopen hstep, ?_, fld_status .., (asym_status ..).trans hasym, (sst_status ..).trans hsst,
    keeps_status (keeps_trans (keeps_modStay (keeps_rfl s [])) honly.2 (by simp) (List.Subset.refl _)) (by simp), ?_⟩
  · rw [heq]
    rfl
  · rw [heq]
    rfl

/-- A refused jump is counted, shown and reported. -/
theorem jumpRefused_spec (s : State) : (jumpRefused s).flag STAY_STS STAY_STS_JUMP_REFUSED = true
    ∧ (jumpRefused s).rdN STAY_JUMP_CNT = min 0xFFFFFFFF (s.rdN STAY_JUMP_CNT + 1)
    ∧ (jumpRefused s).bus = { s.bus with reports := s.bus.reports ++ [⟨E_STAY_JUMP_REFUSED, false, islHub, 0⟩] }
    ∧ s.keeps (jumpRefused s) [STAY_STS, STAY_JUMP_CNT] ∧ { jumpRefused s with regs := s.regs, bus := s.bus } = s := by
  refine ⟨?_, ?_, rfl, keeps_stayReport (keeps_countUp (keeps_setF (keeps_rfl s _) (by simp)) (by simp)), rfl⟩
  · have h : (jumpRefused s).fld STAY_STS STAY_STS_JUMP_REFUSED = (s.setF STAY_STS STAY_STS_JUMP_REFUSED 1).fld STAY_STS STAY_STS_JUMP_REFUSED :=
      fld_inc_ne _ _ _ _ (by decide)
    exact (congrArg (· == 1) h).trans (flag_setF_same _ _ _ _ (by decide) (by decide))
  · exact (rdN_inc ..).trans (by rw [rdN_setF_ne _ _ _ _ _ (by decide)])

theorem stayStep_refused (hopen : s.opens STAY_CMD) (hlock : s.stay.lock1 = true)
    (hlarge : s.jumpUnits < (sgn 64 (s.rdN STAY_TB0_STEP) * uFRAC).natAbs) : ∃ t, exec .stayStep s = .next t
      ∧ t.fld STAY_STS STAY_STS_STATUS = E_STAY_JUMP_REFUSED ∧ t.flag STAY_STS STAY_STS_JUMP_REFUSED = true
      ∧ t.rdN STAY_JUMP_CNT = min 0xFFFFFFFF (s.rdN STAY_JUMP_CNT + 1)
      ∧ t.bus = { s.bus with reports := s.bus.reports ++ [⟨E_STAY_JUMP_REFUSED, false, islHub, 0⟩] }
      ∧ s.keeps t [STAY_STS, STAY_JUMP_CNT] ∧ { t with regs := s.regs, bus := s.bus } = s := by
  have hstep : stayCmd 5 s = (jumpRefused s).status STAY_STS E_STAY_JUMP_REFUSED := if_pos ⟨hlock, hlarge⟩
  obtain ⟨hflag, hcnt, hbus, hkeep, hframe⟩ := jumpRefused_spec s
  refine ⟨_, next_hostWr hopen hstep, fld_status_of_lt _ _ (by decide), ?_, (rdN_status _ _ (by decide)).trans hcnt, hbus,
    keeps_status hkeep (by simp), hframe⟩
  exact (congrArg (· == 1) (fld_setF_beside _ _ fSTATUS STAY_STS_JUMP_REFUSED _ (by decide) (by decide) (by decide))).trans hflag

theorem staySet_spec {v : Nat} (hopen : s.opens STAY_CMD)
    (hv : v = baseOf (s.fld STAY_TB0_SET_SEC STAY_TB0_SET_SEC_SEC) (s.rdN STAY_TB0_SET_NS % 2 ^ 48)) (hsrc : s.staySrc = 0)
    (hns : s.fld STAY_TB0_SET_NS STAY_TB0_SET_NS_NS ≤ 999999999) (hsmall : s.stay.lock1 = false ∨ ((v : Int) - s.stay.tb0).natAbs ≤ s.jumpUnits) :
    ∃ t, exec .staySet s = .next t ∧ t.stay = { s.stay with plan := s.stay.plan ++ [(s.nextFt, 1, (v : Int))], lock1 := true }
      ∧ t.fld STAY_STS STAY_STS_STATUS = 0 ∧ t.fld STAY_STS STAY_STS_ASYM_SUSPECT = 0 ∧ s.keeps t [STAY_STS]
      ∧ { t with regs := s.regs, stay := s.stay } = s := by
  obtain ⟨u, hu⟩ : ∃ u, u = afterJump (s.modStay fun x => { x with plan := x.plan ++ [(s.nextFt, 1, (v : Int))] }) := ⟨_, rfl⟩
  have hset : stayCmd 6 s = (u.modStay fun x => { x with lock1 := true }).status STAY_STS 0 := by
    rw [hu, hv]
    refine (if_neg (not_not_intro hsrc)).trans ((if_neg (Nat.not_lt.mpr hns)).trans (if_neg fun h => ?_))
    rcases hsmall with hlock | hle
    · exact absurd h.1 (by simp [hlock])
    · exact Nat.not_lt.mpr (hv ▸ hle) h.2
  obtain ⟨honly, hasym, -⟩ := afterJump_spec (s.modStay fun x => { x with plan := x.plan ++ [(s.nextFt, 1, (v : Int))] })
  rw [← hu] at honly hasym
  have heq := eq_of_onlyRegs honly
  refine ⟨_, next_hostWr hopen hset, ?_, fld_status .., (asym_status ..).trans hasym,
    keeps_status (keeps_modStay (keeps_trans (keeps_modStay (keeps_rfl s [])) honly.2 (by simp) (List.Subset.refl _))) (by simp), ?_⟩
  · rw [heq]
    rfl
  · rw [heq]
    rfl

theorem acceptAsym_spec (hopen : s.opens STAY_CMD) (hst : s.sst = svASYM) : ∃ t, exec .acceptAsym s = .next t
      ∧ t.rd STAY_MPD_REF = s.rd STAY_MPD ∧ t.fld STAY_STS STAY_STS_ASYM_SUSPECT = 0 ∧ t.fld STAY_STS STAY_STS_STATUS = 0
      ∧ t.stay = { s.stay with mpds := [sgn 32 (s.rdN STAY_MPD)] }
      ∧ s.keeps t [STAY_MPD_REF, STAY_STS] ∧ { t with regs := s.regs, stay := s.stay } = s := by
  have haccept : stayCmd 7 s = (((s.wrN STAY_MPD_REF (s.rdN STAY_MPD)).setF STAY_STS STAY_STS_ASYM_SUSPECT 0).modStay
    fun x => { x with mpds := [sgn 32 (s.rdN STAY_MPD)] }).status STAY_STS 0 := if_neg (not_not_intro hst)
  refine ⟨_, next_hostWr hopen haccept, ?_, (asym_status ..).trans (asym_cleared _), fld_status .., rfl,
    keeps_status (keeps_modStay (keeps_setF (keeps_wrN (keeps_rfl s _) (by simp)) (by simp))) (by simp), rfl⟩
  refine (rd_status_ne _ _ _ _ (by decide)).trans ((rd_setF_ne _ _ _ _ _ (by decide)).trans ((rd_wr_same ..).trans ?_))
  exact BitVec.eq_of_toNat_eq (by simp [State.rdN])

theorem tryAcquire_spec (s : State) : s.keeps (tryAcquire s) [STAY_STS]
    ∧ (tryAcquire s).sst = (if s.sst = svFREERUN ∧ s.staySrc = 1 ∧ s.stay.master.isSome = true then svACQUIRING else s.sst)
    ∧ (tryAcquire s).fld STAY_STS STAY_STS_ASYM_SUSPECT = s.fld STAY_STS STAY_STS_ASYM_SUSPECT
    ∧ ∃ r g, tryAcquire s = { s with regs := r, stay := { s.stay with gather := g } } ∧ (s.stay.gather = [] → g = []) := by
  by_cases h : s.sst = svFREERUN ∧ s.staySrc = 1 ∧ s.stay.master.isSome = true
  · rw [show tryAcquire s = (s.setSst svACQUIRING).modStay fun x => { x with gather := [] } from if_pos h, if_pos h]
    exact ⟨keeps_modStay (keeps_setF (keeps_rfl s _) (by simp)), sst_setSst _ (by decide), asym_setSst .., _, [], rfl, fun _ => rfl⟩
  · rw [show tryAcquire s = s from if_neg h, if_neg h]
    exact ⟨keeps_rfl s _, rfl, rfl, s.regs, s.stay.gather, rfl, id⟩

theorem relock_spec (hopen : s.opens STAY_CMD) : ∃ t, exec .relock s = .next t
      ∧ t.sst = (if s.staySrc = 1 ∧ s.stay.master.isSome = true then svACQUIRING else svFREERUN)
      ∧ t.stay = { s.stay with lock1 := false, gather := [], mpds := [], excl := 0 } ∧ t.fld STAY_STS STAY_STS_ASYM_SUSPECT = 0
      ∧ t.fld STAY_STS STAY_STS_STATUS = 0 ∧ s.keeps t [STAY_STS] ∧ { t with regs := s.regs, stay := s.stay } = s := by
  obtain ⟨u, hu⟩ : ∃ u, u = ((s.setF STAY_STS STAY_STS_ASYM_SUSPECT 0).setSst svFREERUN).modStay fun x =>
    { x with lock1 := false, gather := [], mpds := [], excl := 0 } := ⟨_, rfl⟩
  have hrelock : stayCmd 8 s = (tryAcquire u).status STAY_STS 0 := by
    rw [hu]
    rfl
  obtain ⟨hkeep, hsst, hasym, r, g, hframe, hg⟩ := tryAcquire_spec u
  have husst : u.sst = svFREERUN := hu ▸ sst_setSst _ (by decide)
  have husrc : u.staySrc = s.staySrc := by
    rw [hu]
    exact (fld_setF_ne _ _ _ _ _ _ (by decide)).trans (fld_setF_ne _ _ _ _ _ _ (by decide))
  have husty : u.stay = { s.stay with lock1 := false, gather := [], mpds := [], excl := 0 } := by rw [hu]; rfl
  have huasym : u.fld STAY_STS STAY_STS_ASYM_SUSPECT = 0 := by
    rw [hu]
    exact (asym_setSst ..).trans (asym_cleared s)
  have hsu : s.keeps u [STAY_STS] := hu ▸ keeps_modStay (keeps_setF (keeps_setF (keeps_rfl s _) (by simp)) (by simp))
  obtain ⟨v, hv⟩ : ∃ v, v = tryAcquire u := ⟨_, rfl⟩
  rw [← hv] at hrelock hkeep hsst hasym hframe
  refine ⟨_, next_hostWr hopen hrelock, (sst_status ..).trans (hsst.trans ?_), ?_, (asym_status ..).trans (hasym.trans huasym), fld_status ..,
    keeps_status (keeps_trans hsu hkeep (List.Subset.refl _) (List.Subset.refl _)) (by simp), ?_⟩
  · rw [husst, husrc, husty]
    exact if_congr (by simp) rfl rfl
  · rw [hframe, hg (by rw [husty])]
    exact congrArg (fun x : StayS => { x with gather := [] }) husty
  · rw [hframe, hu]
    rfl

/-! ### SNAP and the source of TB0 (R433, R450) -/

/-- The registers of a snapshot of a base. -/
def snapRegs (n : Nat) : List Nat := [STAY_SNAP_SEC n, STAY_SNAP_NS n]

/-- A base is shown. -/
def snapShown (n : Nat) (s : State) : State := (s.wrN (STAY_SNAP_SEC n) (baseSec (s.base n))).wrN (STAY_SNAP_NS n) (baseNs (s.base n))

theorem base_of_stay (h : t.stay = s.stay) (n : Nat) : t.base n = s.base n := by
  unfold State.base
  rw [h]

theorem snapShown_spec (n : Nat) (s : State) : (snapShown n s).rdN (STAY_SNAP_SEC n) = baseSec (s.base n) % 2 ^ 64
    ∧ (snapShown n s).rdN (STAY_SNAP_NS n) = baseNs (s.base n) % 2 ^ 64 ∧ s.onlyRegs (snapShown n s) (snapRegs n) := by
  refine ⟨(rdN_wrN_ne _ _ _ _ ?_).trans (rdN_wrN ..), rdN_wrN .., onlyRegs_andWr (onlyRegs_andWr (onlyRegs_rfl s _) ?_) ?_⟩
  · unfold STAY_SNAP_SEC STAY_SNAP_NS
    omega
  · exact List.mem_cons_self
  · exact List.mem_cons_of_mem _ List.mem_cons_self

theorem snapRegs_disjoint {m n : Nat} (hm : m < 8) (hn : n < 8) (hne : m ≠ n) : ∀ a ∈ snapRegs m, a ∉ snapRegs n := by
  simp only [snapRegs, STAY_SNAP_SEC, STAY_SNAP_NS, List.mem_cons, List.not_mem_nil, or_false]
  omega

theorem forEach_snapShown {ns : List Nat} (hlt : ∀ n ∈ ns, n < 8) (hnd : ns.Nodup) (s : State) :
    s.onlyRegs (forEach ns s snapShown) (ns.flatMap snapRegs) ∧ ∀ n ∈ ns, (forEach ns s snapShown).rdN (STAY_SNAP_SEC n) = baseSec (s.base n) % 2 ^ 64
      ∧ (forEach ns s snapShown).rdN (STAY_SNAP_NS n) = baseNs (s.base n) % 2 ^ 64 := by
  induction ns generalizing s with
  | nil => exact ⟨onlyRegs_rfl s _, fun _ h => absurd h List.not_mem_nil⟩
  | cons m ms ih =>
    obtain ⟨hm, hms⟩ := List.forall_mem_cons.mp hlt
    obtain ⟨hnot, hnd⟩ := List.nodup_cons.mp hnd
    obtain ⟨hsec, hns, honly⟩ := snapShown_spec m s
    obtain ⟨hrest, hvals⟩ := ih hms hnd (snapShown m s)
    have hbase (n : Nat) : (snapShown m s).base n = s.base n := base_of_stay rfl n
    have hout : ∀ a ∈ snapRegs m, a ∉ ms.flatMap snapRegs := fun a ha hmem => by
      obtain ⟨n, hn, han⟩ := List.mem_flatMap.mp hmem
      exact snapRegs_disjoint hm (hms n hn) (fun h => hnot (h ▸ hn)) a ha han
    refine ⟨?_, List.forall_mem_cons.mpr ⟨⟨?_, ?_⟩, fun n hn => ?_⟩⟩
    · rw [List.flatMap_cons]
      exact onlyRegs_trans honly hrest (List.subset_append_left ..) (List.subset_append_right ..)
    · exact (congrArg BitVec.toNat (hrest.2 _ (hout _ List.mem_cons_self))).trans hsec
    · exact (congrArg BitVec.toNat (hrest.2 _ (hout _ (List.mem_cons_of_mem _ List.mem_cons_self)))).trans hns
    · rw [← hbase n]
      exact hvals n hn

theorem staySnap_spec (hopen : s.opens STAY_SNAP) : ∃ t, exec .staySnap s = .next t ∧ t.rdN STAY_SNAP_TB1 = s.tb1 % 2 ^ 64
      ∧ (∀ n ∈ [0, 2, 3, 4, 5, 6, 7], t.rdN (STAY_SNAP_SEC n) = baseSec (s.base n) % 2 ^ 64 ∧ t.rdN (STAY_SNAP_NS n) = baseNs (s.base n) % 2 ^ 64)
      ∧ s.onlyRegs t (STAY_SNAP_TB1 :: [0, 2, 3, 4, 5, 6, 7].flatMap snapRegs) := by
  obtain ⟨u, hu⟩ : ∃ u, u = s.wrN STAY_SNAP_TB1 s.tb1 := ⟨_, rfl⟩
  have hsnap : staySnap 1 s = forEach [0, 2, 3, 4, 5, 6, 7] u snapShown := by
    rw [hu]
    rfl
  obtain ⟨honly, hvals⟩ := forEach_snapShown (ns := [0, 2, 3, 4, 5, 6, 7]) (by decide) (by decide) u
  have hbase (n : Nat) : u.base n = s.base n := base_of_stay (by rw [hu]; rfl) n
  refine ⟨_, next_hostWr hopen hsnap, ?_, fun n hn => hbase n ▸ hvals n hn, ?_⟩
  · refine (congrArg BitVec.toNat (honly.2 _ (by decide))).trans ?_
    rw [hu]
    exact rdN_wrN ..
  · have hus : s.onlyRegs u [STAY_SNAP_TB1] := hu ▸ onlyRegs_wr s _ _
    exact onlyRegs_trans hus honly (List.cons_subset_cons _ (List.nil_subset _)) (List.subset_cons_self ..)

theorem staySrcWrite_spec {src : Nat} (hopen : s.opens STAY_CTL) (hlt : src < 8) (hne : src ≠ s.staySrc) :
    ∃ t, exec (.staySrcWrite src) s = .next t ∧ t.staySrc = src
      ∧ t.sst = (if s.stay.lock1 = true then svHOLDOVER else if src = 1 ∧ s.stay.master.isSome = true then svACQUIRING else svFREERUN)
      ∧ s.keeps t [STAY_CTL, STAY_STS] ∧ { t with regs := s.regs, stay := s.stay } = s := by
  have hmod : (s.rdN STAY_CTL / 16 * 16 + src % 16) % 16 = src := by omega
  obtain ⟨w, hw⟩ : ∃ w, w = s.rdN STAY_CTL / 16 * 16 + src % 16 := ⟨_, rfl⟩
  rw [← hw] at hmod
  obtain ⟨u, hu⟩ : ∃ u, u = s.wrRW STAY_CTL w := ⟨_, rfl⟩
  have hwrite : stayCtlWrite (s.rdN STAY_CTL / 16 * 16 + src % 16) s
      = if s.stay.lock1 = true then u.setSst svHOLDOVER else tryAcquire (u.setSst svFREERUN) := by
    rw [← hw, hu]
    unfold stayCtlWrite
    dsimp only
    rw [hmod, if_neg (by omega), if_neg hne]
    rfl
  have hus : s.onlyRegs u [STAY_CTL] := hu ▸ onlyRegs_wr s _ _
  have husrc : u.staySrc = src := by
    have hmask : rwMask STAY_CTL = 0xFF000F#64 := by decide +kernel
    rw [hu, State.staySrc, fld_wrRW s w hmask (by decide) (by decide)]
    exact (congrArg (· % 16) (Nat.div_one w)).trans hmod
  have hsrc (n : Nat) : (u.setSst n).staySrc = src := (fld_setF_ne _ _ _ _ _ _ (by decide)).trans husrc
  have hkeep (n : Nat) : s.keeps (u.setSst n) [STAY_CTL, STAY_STS] := keeps_setF (keeps_mono hus.2 (by simp)) (by simp)
  have heq := eq_of_onlyRegs hus
  cases hlock : s.stay.lock1 with
  | true =>
    rw [hlock, if_pos rfl] at hwrite
    exact ⟨_, next_hostWr hopen hwrite, hsrc _, sst_setSst _ (by decide), hkeep _, by rw [heq]; rfl⟩
  | false =>
    rw [hlock, if_neg (by decide)] at hwrite
    obtain ⟨hk, hsst, -, r, g, hframe, -⟩ := tryAcquire_spec (u.setSst svFREERUN)
    have hstay : (u.setSst svFREERUN).stay = s.stay := by rw [heq]; rfl
    refine ⟨_, next_hostWr hopen hwrite, (fld_of_keeps hk (by decide) _).trans (hsrc _), hsst.trans ?_, keeps_trans (hkeep _) hk (List.Subset.refl _) (by simp), ?_⟩
    · rw [sst_setSst _ (by decide), hsrc, hstay]
      exact (if_congr (by simp) rfl rfl).trans (if_neg Bool.false_ne_true).symm
    · rw [hframe, heq]
      rfl

theorem staySrcWrite_reserved {src : Nat} (hopen : s.opens STAY_CTL) (hge : 8 ≤ src) (hlt : src < 16) :
    ∃ t, exec (.staySrcWrite src) s = .next t ∧ t.staySrc = s.staySrc ∧ s.onlyRegs t [STAY_CTL] := by
  have hmod : (s.rdN STAY_CTL / 16 * 16 + src % 16) % 16 = src := by omega
  have hwrite : stayCtlWrite (s.rdN STAY_CTL / 16 * 16 + src % 16) s = s := if_pos (by rw [hmod]; exact hge)
  exact ⟨s, next_hostWr hopen hwrite, rfl, onlyRegs_rfl s _⟩

/-! ### SYNCOUT (Table 14-3) -/

/-- The pulses that have risen. -/
def risenPulses (s : State) : List (Nat × Nat) :=
  (s.stay.pulses.filter fun p => decide (p.1 ≤ s.clock.now)).map fun p => (p.1, min p.2 ((s.clock.now - p.1) / 20000 + 1))

/-- SYNCOUT is written, a burst ended, and the trains follow. -/
def syncoutTaken (v : Nat) (ps : List (Nat × Nat)) (s : State) : State :=
  ((s.wrRW STAY_SYNCOUT v).status STAY_STS 0).modStay fun x => { x with pulses := ps }

theorem syncoutWrite_eq {v : Nat} (hmay : s.hostMay 0x0C 0 = true) : syncoutWrite v s
    = syncoutTaken v (risenPulses s ++ if bits v 9 8 = 1 then [(s.clock.now + 1, 1)] else if bits v 9 8 = 2 then [(s.clock.now + 1, 256)] else []) s := by
  unfold syncoutWrite
  rw [if_neg (not_not_intro hmay)]
  have hlt := bits_lt v 9 8
  obtain ⟨m, hm⟩ : ∃ m, m = bits v 9 8 := ⟨_, rfl⟩
  dsimp only
  rw [← hm] at hlt ⊢
  obtain h | h | h : m = 1 ∨ m = 2 ∨ (m ≠ 1 ∧ m ≠ 2) := by omega
  · subst h
    rfl
  · subst h
    rfl
  · rw [if_neg h.1, if_neg h.2, List.append_nil]
    split
    · exact absurd rfl h.1
    · exact absurd rfl h.2
    · rfl

theorem syncoutWrite_of_noTrain {v : Nat} (hmay : s.hostMay 0x0C 0 = true) (h1 : bits v 9 8 ≠ 1) (h2 : bits v 9 8 ≠ 2) :
    syncoutWrite v s = syncoutTaken v (risenPulses s) s := by
  rw [syncoutWrite_eq hmay, if_neg h1, if_neg h2, List.append_nil]

theorem mode_wrRW_syncout (s : State) {v m : Nat} (h : bits v 9 8 = m) : (s.wrRW STAY_SYNCOUT v).fld STAY_SYNCOUT STAY_SYNCOUT_MODE = m := by
  have hmask : rwMask STAY_SYNCOUT = 0x37F#64 := by decide +kernel
  exact (fld_wrRW s v hmask (by decide) (by decide)).trans h

theorem syncoutTaken_spec (v : Nat) (ps : List (Nat × Nat)) (s : State) : (syncoutTaken v ps s).stay = { s.stay with pulses := ps }
    ∧ (syncoutTaken v ps s).fld STAY_SYNCOUT STAY_SYNCOUT_MODE = bits v 9 8 ∧ (syncoutTaken v ps s).fld STAY_STS STAY_STS_STATUS = 0
    ∧ s.keeps (syncoutTaken v ps s) [STAY_SYNCOUT, STAY_STS] ∧ { syncoutTaken v ps s with regs := s.regs, stay := s.stay } = s :=
  ⟨rfl, (fld_status_ne _ _ _ (by decide)).trans (mode_wrRW_syncout s rfl), fld_status ..,
    keeps_modStay (keeps_status (keeps_wrRW (keeps_rfl s _) (by simp)) (by simp)), rfl⟩

theorem syncoutWrite_denied {v : Nat} (hmay : s.hostMay 0x0C 0 = false) : (syncoutWrite v s).fld STAY_STS STAY_STS_STATUS = E_IMG_RES_BUSY
    ∧ s.onlyRegs (syncoutWrite v s) [STAY_STS, IMG_DENY, IMG_DENY_CNT] := by
  have h : syncoutWrite v s = (s.deny 0x0C 0 4 0).status STAY_STS E_IMG_RES_BUSY := if_pos (by simp [hmay])
  rw [h]
  exact ⟨fld_status_of_lt _ _ (by decide), onlyRegs_andWr (onlyRegs_andWr (onlyRegs_andWr (onlyRegs_rfl s _) (by simp)) (by simp)) (by simp)⟩

/-- Settles O38: each command of STAY_CMD, SYNCIN, SKEWCAL, SNAP, the source of TB0 and SYNCOUT leaves what R435 to R453 say. -/
theorem timeBasesStartStopStepAndSet : Obligations.TimeBasesStartStopStepAndSet := by
  refine ⟨fun s hopen hfree hst => tb1Start_spec hopen hfree hst, fun s hopen hfree hst => tb1ArmSync_spec hopen hfree hst,
    fun c hc s hopen hno => ?_, fun s hopen hfree hidle => ?_, fun s hopen hno => ?_, fun s τ hstarts hst hnow => ?_,
    fun s hopen hdev hidle => skewcal_spec hopen hdev hidle, fun s τ ps hskew hall => skewcal_measured hskew hall,
    fun s τ ps hskew hless hlate => skewcal_timedOut hskew hless hlate, fun s f e he harm => he ▸ syncinEdge_armed harm,
    fun s f e he harm hskew => syncinEdge_phase he harm hskew, fun s d hopen hd hsmall => stayStep_spec hopen hd hsmall,
    fun s hopen hlock hlarge => stayStep_refused hopen hlock hlarge,
    fun s v hopen hv hsrc hns hsmall => staySet_spec hopen hv hsrc hns hsmall, fun s hopen hsrc => ?_, fun s hopen hsrc hns => ?_,
    fun s hopen hst => acceptAsym_spec hopen hst, fun s hopen hst => ?_, fun s hopen => relock_spec hopen, fun s hopen => staySnap_spec hopen,
    fun s src hopen hlt hne => staySrcWrite_spec hopen hlt hne, fun s src hopen hge hlt => staySrcWrite_reserved hopen hge hlt,
    fun p hp s ps hopen hmay hps => ?_, fun s n ps c hc hopen hmay hn hps => ?_, fun s n c hc hopen hmay => ?_⟩
  · have hno := tb1_refused hno
    obtain rfl | rfl : c = Instr.tb1Start ∨ c = Instr.tb1ArmSync := by simpa using hc
    · exact ⟨_, next_hostWr hopen hno.1, fld_status_of_lt _ _ (by decide), onlyRegs_status ..⟩
    · exact ⟨_, next_hostWr hopen hno.2, fld_status_of_lt _ _ (by decide), onlyRegs_status ..⟩
  · obtain ⟨t, hexec, hst, hclk, harm, hsts, hstay, hclear, hkeep, hframe⟩ := tb1Stop_spec hopen hfree hidle
    exact ⟨t, hexec, hst, hclk, harm, hsts, hstay, hclear.ton, hclear.cnv, hclear.dems, hkeep, hframe⟩
  · have hbusy : stayCmd 3 s = s.status STAY_STS E_STAY_BUSY := if_pos (by simpa using hno)
    exact ⟨_, next_hostWr hopen hbusy, fld_status_of_lt _ _ (by decide), onlyRegs_status ..⟩
  · obtain ⟨t, hexec, hst, hclk, hstay, hkeep, hclear, hframe⟩ := tb1Zero_spec hstarts hst hnow
    exact ⟨t, hexec, hst, hclk, hstay, hkeep, hclear.ton, hclear.cnv, hclear.dems, hframe⟩
  · exact ⟨_, next_hostWr hopen (if_pos hsrc), fld_status_of_lt _ _ (by decide), onlyRegs_status ..⟩
  · exact ⟨_, next_hostWr hopen ((if_neg (not_not_intro hsrc)).trans (if_pos hns)), fld_status_of_lt _ _ (by decide), onlyRegs_status ..⟩
  · exact ⟨_, next_hostWr hopen (if_pos hst), fld_status_of_lt _ _ (by decide), onlyRegs_status ..⟩
  · obtain rfl : ps = risenPulses s := hps
    obtain rfl | rfl : p = (Instr.syncoutPulse, 1, 1) ∨ p = (Instr.syncoutBurst, 2, 256) := by simpa using hp
    · exact ⟨_, next_hostWr hopen (syncoutWrite_eq hmay), syncoutTaken_spec 0x100 (risenPulses s ++ [(s.clock.now + 1, 1)]) s⟩
    · exact ⟨_, next_hostWr hopen (syncoutWrite_eq hmay), syncoutTaken_spec 0x200 (risenPulses s ++ [(s.clock.now + 1, 256)]) s⟩
  · obtain rfl : ps = risenPulses s := hps
    obtain rfl | rfl : c = (Instr.syncoutOff, 0) ∨ c = (Instr.syncoutTimer n, 3) := by simpa using hc
    · have hoff := syncoutWrite_of_noTrain (v := 0) hmay (by decide) (by decide)
      obtain ⟨hstay, hmode, hsts, hkeep, hframe⟩ := syncoutTaken_spec 0 (risenPulses s) s
      exact ⟨_, next_hostWr hopen hoff, hstay, hmode, fun h => absurd h (by decide), hsts, hkeep, hframe⟩
    · have hbits : bits (0x300 + n % 128) 9 8 = 3 := by unfold bits; omega
      have htimer := syncoutWrite_of_noTrain (v := 0x300 + n % 128) hmay (by omega) (by omega)
      obtain ⟨hstay, hmode, hsts, hkeep, hframe⟩ := syncoutTaken_spec (0x300 + n % 128) (risenPulses s) s
      refine ⟨_, next_hostWr hopen htimer, hstay, hmode.trans hbits, fun _ => ?_, hsts, hkeep, hframe⟩
      have hmask : rwMask STAY_SYNCOUT = 0x37F#64 := by decide +kernel
      refine (fld_status_ne _ _ _ (by decide)).trans ((fld_wrRW s _ hmask (by decide) (by decide)).trans ?_)
      show (0x300 + n % 128) / 1 % 128 = n
      omega
  · obtain rfl | rfl | rfl | rfl : c = Instr.syncoutOff ∨ c = Instr.syncoutPulse ∨ c = Instr.syncoutBurst ∨ c = Instr.syncoutTimer n := by
      simpa using hc
    all_goals exact ⟨_, next_hostWr hopen rfl, syncoutWrite_denied hmay⟩

end
end Sys2Proof.Laws
end

section
namespace Sys2Proof.Laws
open Sys2Proof.Machine

-- One theorem after another: a thread for each of them passes the memory limit of the check.
set_option Elab.async false

/-! ### An exchange of time messages (R444 to R450) -/

section
variable {s t u : State} {a n : Nat}

/-- Path delay, offset and the times of the messages are those of the state before. -/
structure MsgKept (s t : State) : Prop where
  mpd : t.rdN STAY_MPD = s.rdN STAY_MPD
  offset : t.rdN STAY_OFFSET = s.rdN STAY_OFFSET
  sync : t.stay.sync = s.stay.sync
  dreq : t.stay.dreq = s.stay.dreq

theorem MsgKept.same (s : State) : MsgKept s s := ⟨rfl, rfl, rfl, rfl⟩

theorem MsgKept.wr {v : Word} (h : MsgKept s t) (h1 : STAY_MPD ≠ a) (h2 : STAY_OFFSET ≠ a) : MsgKept s (t.wr a v) :=
  ⟨(congrArg BitVec.toNat (rd_wr_ne _ _ _ _ h1)).trans h.mpd, (congrArg BitVec.toNat (rd_wr_ne _ _ _ _ h2)).trans h.offset, h.sync, h.dreq⟩

theorem MsgKept.modStay {f : StayS → StayS} (h : MsgKept s t) (hs : ∀ x, (f x).sync = x.sync := by exact fun _ => rfl)
    (hd : ∀ x, (f x).dreq = x.dreq := by exact fun _ => rfl) :
    MsgKept s (t.modStay f) := ⟨h.mpd, h.offset, (hs _).trans h.sync, (hd _).trans h.dreq⟩

theorem MsgKept.sts {f : Fld} (h : MsgKept s t) : MsgKept s (t.setF STAY_STS f n) := h.wr (by decide) (by decide)
theorem MsgKept.report (h : MsgKept s t) : MsgKept s (stayReport n t) := ⟨h.mpd, h.offset, h.sync, h.dreq⟩
theorem MsgKept.nextFree (h : MsgKept s t) : MsgKept s t.nextFree := ⟨h.mpd, h.offset, h.sync, h.dreq⟩

theorem MsgKept.ite {p : Prop} [Decidable p] (h : MsgKept s t) (k : MsgKept s u) : MsgKept s (if p then t else u) := by
  split
  · exact h
  · exact k

theorem MsgKept.estimate (h : MsgKept s t) : MsgKept s (estimate t) := h.modStay.nextFree
theorem MsgKept.steer (h : MsgKept s t) : MsgKept s (steer t) := (h.wr (by decide) (by decide)).nextFree
theorem MsgKept.jumpRefused (h : MsgKept s t) : MsgKept s (jumpRefused t) := (h.sts.wr (by decide) (by decide)).report
theorem MsgKept.judge {off : Int} (h : MsgKept s t) : MsgKept s (judge off t) := h.sts.steer.ite h.sts.jumpRefused

theorem tmrReg_ne (i : Nat) : STAY_MPD ≠ STAY_TMR_STS i ∧ STAY_OFFSET ≠ STAY_TMR_STS i ∧ STAY_MPD ≠ STAY_TMR_E i ∧ STAY_OFFSET ≠ STAY_TMR_E i := by
  unfold STAY_MPD STAY_OFFSET STAY_TMR_STS STAY_TMR_E
  omega

theorem MsgKept.tmrLate (i : Nat) (h : MsgKept s t) : MsgKept s (tmrLate i t) := by
  obtain ⟨h1, h2, h3, h4⟩ := tmrReg_ne i
  exact ((h.modStay.wr h1 h2).wr h3 h4).wr h1 h2

theorem MsgKept.tmrStepped (h : MsgKept s t) : MsgKept s (tmrStepped n t) :=
  forEach_induct (P := MsgKept s) h fun _ _ _ k => (k.tmrLate _).ite k

theorem MsgKept.setBase0 (h : MsgKept s t) : MsgKept s (t.setBase 0 n) := h.modStay

/-- Path delay and offset as an exchange shows them. -/
def delayShown (mpd off : Int) (s : State) : State := (s.wrN STAY_MPD (unsgn 32 mpd)).wrN STAY_OFFSET (unsgn 32 off)

theorem unsgn_lt (w : Nat) (i : Int) : unsgn w i < 2 ^ w := by
  have h : (0 : Int) < (2 ^ w : Nat) := by exact_mod_cast Nat.two_pow_pos w
  have h1 := Int.emod_nonneg i h.ne'
  have h2 := Int.emod_lt_of_pos i h
  unfold unsgn
  omega

theorem rdN_wrN_unsgn (s : State) (a : Nat) (i : Int) : (s.wrN a (unsgn 32 i)).rdN a = unsgn 32 i :=
  (rdN_wrN ..).trans (Nat.mod_eq_of_lt ((unsgn_lt 32 i).trans (by decide)))

theorem delayShown_spec (mpd off : Int) (s : State) : (delayShown mpd off s).rdN STAY_MPD = unsgn 32 mpd
    ∧ (delayShown mpd off s).rdN STAY_OFFSET = unsgn 32 off ∧ s.onlyRegs (delayShown mpd off s) [STAY_MPD, STAY_OFFSET] :=
  ⟨(rdN_wrN_ne _ _ _ _ (by decide)).trans (rdN_wrN_unsgn ..), rdN_wrN_unsgn ..,
    onlyRegs_andWr (onlyRegs_andWr (onlyRegs_rfl s _) (by simp)) (by simp)⟩

/-- Whatever an exchange does to the servo, it shows its path delay and offset and leaves the messages. -/
theorem msgKept_exchange (mpd off : Int) (asym : Bool) (s : State) : MsgKept (delayShown mpd off s) (exchange mpd off asym none s) := by
  unfold exchange
  dsimp only
  rw [← delayShown]
  have k := MsgKept.same (delayShown mpd off s)
  have kref (m : Nat) : MsgKept (delayShown mpd off s) ((delayShown mpd off s).wrN STAY_MPD_REF m) := k.wr (by decide) (by decide)
  have kexcl : MsgKept (delayShown mpd off s) ((delayShown mpd off s).inc STAY_ASYM_EXCL_CNT) := k.wr (by decide) (by decide)
  refine k.ite (MsgKept.ite (MsgKept.ite ?_ (MsgKept.ite ?_ ?_)) (MsgKept.ite k.judge (MsgKept.ite (MsgKept.ite ?_ (MsgKept.ite ?_ ?_)) (MsgKept.ite ?_ ?_))))
  · exact kexcl.modStay
  · exact (kref _).modStay.estimate
  · exact MsgKept.steer (MsgKept.sts (MsgKept.tmrStepped (MsgKept.setBase0
      (MsgKept.modStay (kref _).modStay.estimate))))
  · exact (kref _).modStay.estimate.steer
  · exact (kref _).modStay.judge
  · exact (kref _).modStay
  · exact (kexcl.modStay.sts.sts.modStay).report
  · exact kexcl.modStay

theorem exchange_of_freerun (mpd off : Int) (h : s.sst = svFREERUN) : exchange mpd off true none s = delayShown mpd off s :=
  if_pos ((fld_of_onlyRegs (delayShown_spec mpd off s).2.2 (by decide) _).trans h)

/-- The last 16 path delays. -/
def lastDelays (ms : List Int) (d : Int) : List Int := (ms ++ [d]).drop ((ms ++ [d]).length - 16)

/-- An exchange that a LOCKED servo takes: a new reference, no exclusion in a row. -/
def referenceTaken (m : List Int) (s : State) : State := (s.wrN STAY_MPD_REF (unsgn 32 (mean m))).modStay fun x => { x with mpds := m, excl := 0 }

theorem locked_ne {k : Nat} (h : k ≠ svLOCKED) (hs : s.sst = svLOCKED) : s.sst ≠ k := hs ▸ h.symm

theorem exchange_of_locked {mpd off : Int} (hst : s.sst = svLOCKED)
    (hin : (mpd - sgn 32 (s.rdN STAY_MPD_REF)).natAbs ≤ s.rdN STAY_ASYM_THR) :
    exchange mpd off true none s = steer (estimate (referenceTaken (lastDelays s.stay.mpds mpd) (delayShown mpd off s))) := by
  obtain ⟨-, -, honly⟩ := delayShown_spec mpd off s
  have hthr : (delayShown mpd off s).rdN STAY_ASYM_THR = s.rdN STAY_ASYM_THR := congrArg BitVec.toNat (honly.2 _ (by decide))
  have hust : (delayShown mpd off s).sst = svLOCKED := (fld_of_onlyRegs honly (by decide) _).trans hst
  have href : (referenceTaken (lastDelays s.stay.mpds mpd) (delayShown mpd off s)).sst = svLOCKED :=
    (fld_wrN_ne _ _ _ _ _ (by decide)).trans hust
  unfold exchange
  dsimp only
  rw [← delayShown, if_neg (locked_ne (by decide) hust), if_neg (locked_ne (by decide) hust),
    if_neg fun h => locked_ne (by decide) hust h.1, if_pos (by simp [hthr, hin])]
  exact if_pos href

theorem exchange_excluded {mpd off : Int} (hst : s.sst = svLOCKED)
    (hout : s.rdN STAY_ASYM_THR < (mpd - sgn 32 (s.rdN STAY_MPD_REF)).natAbs) (hn : s.stay.excl + 1 = 4) :
    exchange mpd off true none s = stayReport E_STAY_ASYM_SUSPECT
      ((((((delayShown mpd off s).inc STAY_ASYM_EXCL_CNT).modStay fun x => { x with excl := 4 }).setF STAY_STS STAY_STS_ASYM_SUSPECT 1).setSst svASYM).modStay
        fun x => { x with excl := 0 }) := by
  obtain ⟨-, -, honly⟩ := delayShown_spec mpd off s
  have hthr : (delayShown mpd off s).rdN STAY_ASYM_THR = s.rdN STAY_ASYM_THR := congrArg BitVec.toNat (honly.2 _ (by decide))
  have hust : (delayShown mpd off s).sst = svLOCKED := (fld_of_onlyRegs honly (by decide) _).trans hst
  have hcnt : (((delayShown mpd off s).inc STAY_ASYM_EXCL_CNT).modStay fun x => { x with excl := 4 }).sst = svLOCKED :=
    (fld_inc_ne _ _ _ _ (by decide)).trans hust
  have hexcl : (delayShown mpd off s).stay.excl + 1 = 4 := hn
  unfold exchange
  dsimp only
  rw [← delayShown, if_neg (locked_ne (by decide) hust), if_neg (locked_ne (by decide) hust),
    if_neg fun h => locked_ne (by decide) hust h.1, if_neg (by simp [hthr, hout, hust, svLOCKED, svACQUIRING]), hexcl]
  exact if_pos ⟨.inl hcnt, Nat.le_refl 4⟩

/-! ### The messages (R443, R444) -/

/-- Path delay and offset of R444. -/
def mpdOf (t1 t2 t3 t4 corr : Int) : Int := ((t2 - t1) + (t4 - corr - t3)) / 2
def offOf (s : State) (t1 t2 t3 t4 corr : Int) : Int := (t2 - t1) - mpdOf t1 t2 t3 t4 corr - sgn 32 (s.rdN STAY_ASYM)

/-- The messages of an exchange that has ended. -/
def msgsTaken (s : State) : State := s.modStay fun x => { x with sync := none, dreq := none }

variable {ds : List Nat} {t1 t2 t3 t4 corr : Int}

theorem ptpDelayResp_eq (hfrom : s.ptpFrom ds = true) (hsync : s.stay.sync = some (some t1, t2)) (hdreq : s.stay.dreq = some t3) :
    ptpDelayResp ds t4 corr s = exchange (mpdOf t1 t2 t3 t4 corr) (offOf s t1 t2 t3 t4 corr) true none (msgsTaken s) := by
  unfold ptpDelayResp
  rw [hsync, hdreq]
  exact if_pos hfrom

theorem ptpDelayResp_shown (hfrom : s.ptpFrom ds = true) (hsync : s.stay.sync = some (some t1, t2)) (hdreq : s.stay.dreq = some t3) :
    ∃ t, exec (.ptpDelayRespRx ds t4 corr) s = .next t ∧ t.stay.sync = none ∧ t.stay.dreq = none
      ∧ t.rdN STAY_MPD = unsgn 32 (mpdOf t1 t2 t3 t4 corr) ∧ t.rdN STAY_OFFSET = unsgn 32 (offOf s t1 t2 t3 t4 corr)
      ∧ (s.sst = svFREERUN → s.keeps t [STAY_MPD, STAY_OFFSET] ∧ t.stay = { s.stay with sync := none, dreq := none }) := by
  have hresp := ptpDelayResp_eq (t4 := t4) (corr := corr) hfrom hsync hdreq
  have hkept := msgKept_exchange (mpdOf t1 t2 t3 t4 corr) (offOf s t1 t2 t3 t4 corr) true (msgsTaken s)
  obtain ⟨hmpd, hoff, honly⟩ := delayShown_spec (mpdOf t1 t2 t3 t4 corr) (offOf s t1 t2 t3 t4 corr) (msgsTaken s)
  refine ⟨_, congrArg Host.Outcome.next hresp, hkept.sync, hkept.dreq, hkept.mpd.trans hmpd, hkept.offset.trans hoff, fun hst => ?_⟩
  rw [exchange_of_freerun _ _ (show (msgsTaken s).sst = svFREERUN from hst)]
  exact ⟨honly.2, (congrArg State.stay (eq_of_onlyRegs honly) :)⟩

theorem steer_estimate_spec (s : State) : (steer (estimate s)).sst = s.sst ∧ (steer (estimate s)).stay.mpds = s.stay.mpds
    ∧ (steer (estimate s)).stay.excl = s.stay.excl ∧ s.keeps (steer (estimate s)) [STAY_TB0_RATE]
    ∧ { steer (estimate s) with regs := s.regs, stay := s.stay, bus := s.bus } = s := by
  refine ⟨fld_wrN_ne _ _ _ _ _ (by decide), rfl, rfl, ?_, rfl⟩
  exact keeps_of_regs (t := (estimate s).wrN STAY_TB0_RATE _) (keeps_wrN (keeps_of_regs (keeps_rfl s _) rfl) (by simp)) rfl

theorem ptpDelayResp_locked {d : Int} {m : List Int} (hfrom : s.ptpFrom ds = true) (hsync : s.stay.sync = some (some t1, t2))
    (hdreq : s.stay.dreq = some t3) (hst : s.sst = svLOCKED) (hd : d = mpdOf t1 t2 t3 t4 corr)
    (hin : (d - sgn 32 (s.rdN STAY_MPD_REF)).natAbs ≤ s.rdN STAY_ASYM_THR) (hm : m = lastDelays s.stay.mpds d) :
    ∃ t, exec (.ptpDelayRespRx ds t4 corr) s = .next t ∧ t.sst = svLOCKED
      ∧ t.rdN STAY_MPD_REF = unsgn 32 (mean m) ∧ t.stay.mpds = m ∧ t.stay.excl = 0
      ∧ s.keeps t [STAY_MPD, STAY_OFFSET, STAY_MPD_REF, STAY_TB0_RATE] ∧ { t with regs := s.regs, stay := s.stay, bus := s.bus } = s := by
  obtain ⟨-, -, honly⟩ := delayShown_spec d (offOf s t1 t2 t3 t4 corr) (msgsTaken s)
  have hresp : ptpDelayResp ds t4 corr s = steer (estimate (referenceTaken m (delayShown d (offOf s t1 t2 t3 t4 corr) (msgsTaken s)))) := by
    rw [ptpDelayResp_eq hfrom hsync hdreq, ← hd, hm]
    exact exchange_of_locked hst hin
  obtain ⟨v, hv⟩ : ∃ v, v = delayShown d (offOf s t1 t2 t3 t4 corr) (msgsTaken s) := ⟨_, rfl⟩
  rw [← hv] at hresp honly
  obtain ⟨hsst, hmpds, hexcl, hkeep, hframe⟩ := steer_estimate_spec (referenceTaken m v)
  have hvsst : v.sst = svLOCKED := (fld_of_onlyRegs honly (by decide) _).trans hst
  have hsv : s.keeps v [STAY_MPD, STAY_OFFSET] := keeps_trans (keeps_of_regs (keeps_rfl s []) rfl) honly.2 (by simp) (List.Subset.refl _)
  have href : s.keeps (referenceTaken m v) [STAY_MPD, STAY_OFFSET, STAY_MPD_REF] := keeps_modStay (keeps_wrN (keeps_mono hsv (by simp)) (by simp))
  refine ⟨_, congrArg Host.Outcome.next hresp, hsst.trans ((fld_wrN_ne _ _ _ _ _ (by decide)).trans hvsst), ?_, hmpds, hexcl,
    keeps_trans href hkeep (by simp) (by simp), ?_⟩
  · exact (rdN_of_keeps hkeep (by decide)).trans (rdN_wrN_unsgn ..)
  · have hvs : { referenceTaken m v with regs := s.regs, stay := s.stay, bus := s.bus } = s := by
      rw [referenceTaken, eq_of_onlyRegs honly]
      rfl
    exact (congrArg (fun x : State => { x with regs := s.regs, stay := s.stay, bus := s.bus }) hframe).trans hvs

theorem ptpDelayResp_suspect (hfrom : s.ptpFrom ds = true) (hsync : s.stay.sync = some (some t1, t2)) (hdreq : s.stay.dreq = some t3)
    (hst : s.sst = svLOCKED) (hout : s.rdN STAY_ASYM_THR < (mpdOf t1 t2 t3 t4 corr - sgn 32 (s.rdN STAY_MPD_REF)).natAbs) (hn : s.stay.excl + 1 = 4) :
    ∃ t, exec (.ptpDelayRespRx ds t4 corr) s = .next t ∧ t.sst = svASYM ∧ t.flag STAY_STS STAY_STS_ASYM_SUSPECT = true
      ∧ t.rdN STAY_ASYM_EXCL_CNT = min 0xFFFFFFFF (s.rdN STAY_ASYM_EXCL_CNT + 1)
      ∧ t.bus = { s.bus with reports := s.bus.reports ++ [⟨E_STAY_ASYM_SUSPECT, false, islHub, 0⟩] }
      ∧ s.keeps t [STAY_MPD, STAY_OFFSET, STAY_ASYM_EXCL_CNT, STAY_STS] := by
  obtain ⟨-, -, honly⟩ := delayShown_spec (mpdOf t1 t2 t3 t4 corr) (offOf s t1 t2 t3 t4 corr) (msgsTaken s)
  have hresp := (ptpDelayResp_eq (t4 := t4) (corr := corr) hfrom hsync hdreq).trans (exchange_excluded (s := msgsTaken s) hst hout hn)
  obtain ⟨v, hv⟩ : ∃ v, v = delayShown (mpdOf t1 t2 t3 t4 corr) (offOf s t1 t2 t3 t4 corr) (msgsTaken s) := ⟨_, rfl⟩
  rw [← hv] at hresp honly
  have hsv : s.keeps v [STAY_MPD, STAY_OFFSET] := keeps_trans (keeps_of_regs (keeps_rfl s []) rfl) honly.2 (by simp) (List.Subset.refl _)
  refine ⟨_, congrArg Host.Outcome.next hresp, sst_setSst _ (by decide), ?_, ?_, ?_, ?_⟩
  · exact (congrArg (· == 1) (asym_setSst ..)).trans (flag_setF_same _ _ _ _ (by decide) (by decide))
  · refine (rdN_setF_ne _ _ _ _ _ (by decide)).trans ((rdN_setF_ne _ _ _ _ _ (by decide)).trans ((rdN_inc ..).trans ?_))
    rw [rdN_of_keeps hsv (by decide)]
  · rw [eq_of_onlyRegs honly]
    rfl
  · exact keeps_stayReport (keeps_modStay (keeps_setF (keeps_setF (keeps_modStay (keeps_countUp (keeps_mono hsv (by simp)) (by simp))) (by simp)) (by simp)))

theorem ptpFollowUp_of_other (h : s.ptpFrom ds = false) : ptpFollowUp ds t1 corr s = s := by
  unfold ptpFollowUp
  split
  · exact if_neg (by simp [h])
  · rfl

theorem ptpDelayResp_of_other (h : s.ptpFrom ds = false) : ptpDelayResp ds t4 corr s = s := by
  unfold ptpDelayResp
  split
  · exact if_neg (by simp [h])
  · rfl

/-! ### Announce messages (R443, R450) -/

theorem announce_first {domain k : Nat} (hdom : domain = s.fld STAY_PTP_CFG STAY_PTP_CFG_DOMAIN) (hnone : s.stay.master = none)
    (hothers : s.stay.others = []) : ∃ t, exec (.ptpAnnounceRx domain ds k) s = .next t ∧ t.stay.master = some ⟨ds, s.clock.now, k⟩
      ∧ t.stay.others = [] ∧ t.sst = (if s.sst = svFREERUN ∧ s.staySrc = 1 then svACQUIRING else s.sst) ∧ s.keeps t [STAY_STS]
      ∧ { t with regs := s.regs, stay := s.stay } = s := by
  obtain ⟨u, hu⟩ : ∃ u, u = s.modStay fun x => { x with master := some ⟨ds, s.clock.now, k⟩, others := [] } := ⟨_, rfl⟩
  have hann : ptpAnnounce domain ds k s = tryAcquire u := by
    rw [hu]
    unfold ptpAnnounce
    rw [if_neg (not_not_intro hdom), hnone, hothers]
    simp [bestMaster]
  obtain ⟨hkeep, hsst, -, r, g, hframe, -⟩ := tryAcquire_spec u
  have hsu : s.keeps u [] := hu ▸ keeps_modStay (keeps_rfl s _)
  have hst : u.sst = s.sst := by rw [hu]; rfl
  have hsrc : u.staySrc = s.staySrc := by rw [hu]; rfl
  have hm : u.stay.master = some ⟨ds, s.clock.now, k⟩ := by rw [hu]; rfl
  have ho : u.stay.others = [] := by rw [hu]; rfl
  refine ⟨_, congrArg Host.Outcome.next hann, ?_, ?_, hsst.trans ?_, keeps_trans hsu hkeep (by simp) (List.Subset.refl _), ?_⟩
  · rw [hframe]
    exact hm
  · rw [hframe]
    exact ho
  · rw [hst, hsrc, hm]
    exact if_congr (by simp) rfl rfl
  · rw [hframe, hu]
    rfl

theorem announce_second {domain k : Nat} {m : Master} (hdom : domain = s.fld STAY_PTP_CFG STAY_PTP_CFG_DOMAIN) (hm : s.stay.master = some m)
    (hothers : s.stay.others = []) (hne : m.ds.drop 7 ≠ ds.drop 7) (hsilent : s.silent m = false) :
    ∃ t, exec (.ptpAnnounceRx domain ds k) s = .next t
      ∧ t.stay.master = some (if dsLess ds m.ds = true then ⟨ds, s.clock.now, k⟩ else m) ∧ s.keeps t [STAY_STS]
      ∧ { t with regs := s.regs, stay := s.stay } = s := by
  obtain ⟨b, hb⟩ : ∃ b, b = (if dsLess ds m.ds = true then ⟨ds, s.clock.now, k⟩ else m : Master) := ⟨_, rfl⟩
  have hbest : bestMaster [m, ⟨ds, s.clock.now, k⟩] = some b := by
    rw [hb]
    exact (apply_ite some ..).symm
  obtain ⟨u, hu⟩ : ∃ u, u = s.modStay fun x =>
    { x with master := some b, others := [m, ⟨ds, s.clock.now, k⟩].filter fun m => some m != some b } := ⟨_, rfl⟩
  have hann : ptpAnnounce domain ds k s = tryAcquire u := by
    have hall : ((((some m).toList ++ []).filter fun m : Master => m.ds.drop 7 != ds.drop 7).filter fun m => !s.silent m) ++ [⟨ds, s.clock.now, k⟩]
        = [m, ⟨ds, s.clock.now, k⟩] := by simp [hne, hsilent]
    rw [hu, ← hbest, ptpAnnounce, if_neg (not_not_intro hdom), hm, hothers]
    dsimp only
    rw [hall]
  obtain ⟨hkeep, -, -, r, g, hframe, -⟩ := tryAcquire_spec u
  have hsu : s.keeps u [] := hu ▸ keeps_modStay (keeps_rfl s _)
  have hmas : u.stay.master = some b := by rw [hu]; rfl
  rw [← hb]
  refine ⟨_, congrArg Host.Outcome.next hann, ?_, keeps_trans hsu hkeep (by simp) (List.Subset.refl _), ?_⟩
  · rw [hframe]
    exact hmas
  · rw [hframe, hu]
    rfl

/-- No master is selected any more. -/
def masterLost (s : State) : State := s.modStay fun x => { x with master := none, others := [] }

theorem announceTimeout_eq {m : Master} (hm : s.stay.master = some m) (hsilent : s.silent m = true) (hothers : s.stay.others = []) :
    announceTimeout s = if s.staySrc ≠ 1 then masterLost s
      else if s.sst = svLOCKED then stayReport E_STAY_HOLDOVER ((masterLost s).setSst svHOLDOVER)
      else if s.sst = svACQUIRING then tryAcquire ((masterLost s).setSst svFREERUN) else masterLost s := by
  unfold announceTimeout
  rw [hm]
  dsimp only
  rw [if_neg (not_not_intro hsilent), hothers]
  rfl

theorem announceTimeout_spec {m : Master} (hm : s.stay.master = some m) (hsilent : s.silent m = true) (hothers : s.stay.others = []) :
    ∃ t, exec .announceTimeout s = .next t ∧ t.stay.master = none
      ∧ (s.staySrc = 1 → s.sst = svLOCKED → t.sst = svHOLDOVER ∧ t.bus = { s.bus with reports := s.bus.reports ++ [⟨E_STAY_HOLDOVER, false, islHub, 0⟩] })
      ∧ (s.staySrc = 1 → s.sst = svACQUIRING → t.sst = svFREERUN) ∧ (s.staySrc ≠ 1 → t.regs = s.regs) ∧ s.keeps t [STAY_STS]
      ∧ { t with regs := s.regs, stay := s.stay, bus := s.bus } = s := by
  have hend := announceTimeout_eq hm hsilent hothers
  have hlost : s.keeps (masterLost s) [STAY_STS] := keeps_modStay (keeps_rfl s _)
  by_cases hsrc : s.staySrc = 1
  · rw [if_neg (not_not_intro hsrc)] at hend
    by_cases hlock : s.sst = svLOCKED
    · rw [if_pos hlock] at hend
      exact ⟨_, congrArg Host.Outcome.next hend, rfl, fun _ _ => ⟨sst_setSst _ (by decide), rfl⟩, fun _ h => absurd h (locked_ne (by decide) hlock),
        fun h => absurd hsrc h, keeps_stayReport (keeps_setF hlost (by simp)), rfl⟩
    · rw [if_neg hlock] at hend
      by_cases hacq : s.sst = svACQUIRING
      · have hstay : tryAcquire ((masterLost s).setSst svFREERUN) = (masterLost s).setSst svFREERUN := if_neg fun h => Bool.false_ne_true h.2.2
        rw [if_pos hacq, hstay] at hend
        exact ⟨_, congrArg Host.Outcome.next hend, rfl, fun _ h => absurd h hlock, fun _ _ => sst_setSst _ (by decide),
          fun h => absurd hsrc h, keeps_setF hlost (by simp), rfl⟩
      · rw [if_neg hacq] at hend
        exact ⟨_, congrArg Host.Outcome.next hend, rfl, fun _ h => absurd h hlock, fun _ h => absurd h hacq, fun _ => rfl, hlost, rfl⟩
  · rw [if_pos hsrc] at hend
    exact ⟨_, congrArg Host.Outcome.next hend, rfl, fun h => absurd h hsrc, fun h => absurd h hsrc, fun _ => rfl, hlost, rfl⟩

end

/-- Settles O39: the messages of the selected master make the exchange of R444, and Announce messages choose the master. -/
theorem timeMessagesMoveTheServo : Obligations.TimeMessagesMoveTheServo := by
  refine ⟨fun s ds t1 corr t2 hfrom => ⟨_, congrArg Host.Outcome.next (if_pos hfrom), rfl, rfl, rfl⟩,
    fun s ds t1 corr t2 hno => congrArg Host.Outcome.next (if_neg (by simp [hno])), fun s ds t1 corr t2 hfrom hsync => ?_,
    fun s ds t1 corr hno => congrArg Host.Outcome.next (ptpFollowUp_of_other hno),
    fun s t3 hsrc hm => ⟨_, congrArg Host.Outcome.next (if_pos ⟨hsrc, hm⟩), rfl, rfl, rfl⟩,
    fun s ds t1 t2 t3 t4 corr hfrom hsync hdreq => ptpDelayResp_shown hfrom hsync hdreq,
    fun s ds t1 t2 t3 t4 corr d m hfrom hsync hdreq hst hd hin hm => ptpDelayResp_locked hfrom hsync hdreq hst hd hin hm,
    fun s ds t1 t2 t3 t4 corr hfrom hsync hdreq hst hout hn => ptpDelayResp_suspect hfrom hsync hdreq hst hout hn,
    fun s ds t4 corr hno => congrArg Host.Outcome.next (ptpDelayResp_of_other hno),
    fun s domain ds k hdom => congrArg Host.Outcome.next (if_pos hdom),
    fun s domain ds k hdom hnone hothers => announce_first hdom hnone hothers,
    fun s domain ds k m hdom hm hothers hne hsilent => announce_second hdom hm hothers hne hsilent, fun s => rfl,
    fun s m hm hsilent hothers => announceTimeout_spec hm hsilent hothers, fun s m hm hsilent => ?_⟩
  · have hfollow : ptpFollowUp ds t1 corr s = s.modStay fun x => { x with sync := some (some (t1 + corr), t2) } := by
      rw [ptpFollowUp, hsync]
      exact if_pos hfrom
    exact ⟨_, congrArg Host.Outcome.next hfollow, rfl, rfl, rfl⟩
  · have hstill : announceTimeout s = s := by
      rw [announceTimeout, hm]
      exact if_pos (by simp [hsilent])
    exact congrArg Host.Outcome.next hstill

end Sys2Proof.Laws
end

section
namespace Sys2Proof.Laws
open Sys2Proof.Machine

-- One theorem after another: a thread for each of them passes the memory limit of the check.
set_option Elab.async false

/-! ### Scheduled sets of the user domains (R442) -/

section
variable {s t u : State} {i n v w : Nat}

theorem tbnSetAt_taken (hmay : s.hostMay 0x0B n = true) (hrun : s.tb1Run = true) (hv : v = 0 ∨ s.tb1 + 2560 ≤ v) :
    tbnSetAt n v s = (s.wrRW (STAY_TBN_SET_AT n) v).modStay fun x =>
      { x with sets := tput x.sets n (some (ceilFt (if v = 0 then s.tb1 + 2560 else v))) } := by
  have hlead : ¬ (v ≠ 0 ∧ v < s.tb1 + 160 * ft) := fun h => hv.elim h.1 fun hle => Nat.not_lt.mpr hle h.2
  unfold tbnSetAt
  rw [if_neg (not_not_intro hmay), if_neg (not_not_intro hrun), if_neg hlead]
  rfl

theorem tbnSetAt_ignored (hmay : s.hostMay 0x0B n = true) (hno : s.tb1Run = false ∨ (v ≠ 0 ∧ v < s.tb1 + 2560)) : tbnSetAt n v s = s := by
  unfold tbnSetAt
  rw [if_neg (not_not_intro hmay)]
  by_cases hrun : s.tb1Run = true
  · rw [if_neg (not_not_intro hrun)]
    exact if_pos (hno.resolve_left (by simp [hrun]))
  · exact if_pos hrun

theorem deny_spec (s : State) (cls i k r : Nat) : (s.deny cls i k r).rdN IMG_DENY_CNT = min 0xFFFFFFFF (s.rdN IMG_DENY_CNT + 1)
    ∧ s.onlyRegs (s.deny cls i k r) [IMG_DENY, IMG_DENY_CNT] :=
  ⟨(rdN_inc ..).trans (by rw [rdN_wrN_ne _ _ _ _ (by decide)]), onlyRegs_andWr (onlyRegs_andWr (onlyRegs_rfl s _) (by simp)) (by simp)⟩

/-- A step of a base changes the timers and no other part of Stay. -/
theorem tmrStepped_frame (n : Nat) (s : State) : ∃ r k, tmrStepped n s = { s with regs := r, stay := { s.stay with tmrs := k } } := by
  refine forEach_induct (P := fun t => ∃ r k, t = { s with regs := r, stay := { s.stay with tmrs := k } }) ⟨s.regs, s.stay.tmrs, rfl⟩ ?_
  rintro x _ t ⟨r, k, rfl⟩
  dsimp only
  split
  · exact ⟨_, _, rfl⟩
  · exact ⟨r, k, rfl⟩

theorem tmrStepped_unarmed (n : Nat) (h : ∀ i, i < 128 → s.tmrSt i ≠ tmARMED) : tmrStepped n s = s := by
  refine forEach_induct (P := fun t => t = s) rfl ?_
  rintro x hx t rfl
  exact if_neg fun hc => h x (List.mem_range.mp hx) hc.1

/-- The set of a user domain is made. -/
def setMade (n v : Nat) (s : State) : State := (s.modStay fun x => { x with sets := tput x.sets n none }).setBase n v

theorem base_setMade (hn : 2 ≤ n) (v m : Nat) (s : State) : (setMade n v s).base m = if m = n then v else s.base m := by
  have h0 : n ≠ 0 := by omega
  unfold setMade State.setBase State.modStay State.base
  simp only [h0, if_false, tget_tput]
  split
  · next h =>
    subst h
    rw [if_neg (by omega)]
  · rfl

theorem tbnSetApply_spec {τ : Nat} (hn : 2 ≤ n) (hset : tget s.stay.sets n = some τ) (hdue : s.due τ = true) :
    ∃ t, exec (.tbnSetApply n) s = .next t
      ∧ t.base n = baseOf (s.fld (STAY_TBN_SET_SEC n) STAY_TBN_SET_SEC_SEC) (s.rdN (STAY_TBN_SET_NS n) % 2 ^ 48)
      ∧ tget t.stay.sets n = none ∧ (∀ m, m ≠ n → t.base m = s.base m) ∧ ((∀ i, i < 128 → s.tmrSt i ≠ tmARMED) → t.regs = s.regs)
      ∧ { t with regs := s.regs, stay := s.stay } = s := by
  obtain ⟨v, hv⟩ : ∃ v, v = baseOf (s.fld (STAY_TBN_SET_SEC n) STAY_TBN_SET_SEC_SEC) (s.rdN (STAY_TBN_SET_NS n) % 2 ^ 48) := ⟨_, rfl⟩
  have happly : tbnSetApply n s = tmrStepped n (setMade n v s) := by
    unfold tbnSetApply
    rw [hset, hv]
    exact if_pos hdue
  obtain ⟨r, k, hframe⟩ := tmrStepped_frame n (setMade n v s)
  have hbase (m : Nat) : (tmrStepped n (setMade n v s)).base m = if m = n then v else s.base m := by
    rw [hframe]
    exact base_setMade hn v m s
  rw [← hv]
  refine ⟨_, congrArg Host.Outcome.next happly, (hbase n).trans (if_pos rfl), ?_, fun m hm => (hbase m).trans (if_neg hm), fun hidle => ?_, ?_⟩
  · rw [hframe]
    have h0 : n ≠ 0 := by omega
    simp only [setMade, State.setBase, State.modStay, h0, if_false]
    exact tget_tput_same ..
  · rw [tmrStepped_unarmed (s := setMade n v s) n hidle]
    rfl
  · rw [hframe]
    rfl

/-! ### Event timers (R457 to R460) -/

/-- The registers of a timer that its commands write. -/
theorem tmrRegs_ne (i : Nat) : STAY_TMR_CTL i ≠ STAY_TMR_STS i ∧ STAY_TMR_E i ≠ STAY_TMR_STS i ∧ STAY_TMR_CTL i ≠ STAY_TMR_E i
    ∧ STAY_TMR_CMP i ≠ STAY_TMR_CTL i ∧ STAY_TMR_CMP i ≠ STAY_TMR_STS i ∧ STAY_TMR_PER i ≠ STAY_TMR_CTL i ∧ STAY_TMR_PER i ≠ STAY_TMR_STS i := by
  unfold STAY_TMR_CTL STAY_TMR_STS STAY_TMR_E STAY_TMR_CMP STAY_TMR_PER
  omega

theorem tmrSt_setF (s : State) (i : Nat) {n : Nat} (hn : n < 4) : (s.setF (STAY_TMR_STS i) STAY_TMR_STS_TSTATE n).tmrSt i = n :=
  (fld_setF s _ STAY_TMR_STS_TSTATE n (by decide)).trans (Nat.mod_eq_of_lt hn)

theorem status_setTstate (s : State) (i n : Nat) :
    (s.setF (STAY_TMR_STS i) STAY_TMR_STS_TSTATE n).fld (STAY_TMR_STS i) STAY_TMR_STS_STATUS = s.fld (STAY_TMR_STS i) STAY_TMR_STS_STATUS :=
  fld_setF_beside _ _ STAY_TMR_STS_TSTATE STAY_TMR_STS_STATUS _ (by decide) (by decide) (by decide)

/-- E is fixed: TSTATE and the value, and only these. -/
theorem tmrFix_spec (i e : Nat) (s : State) : (tmrFix i e s).tmrSt i = tmFIXED ∧ (tmrFix i e s).rdN (STAY_TMR_E i) = e % 2 ^ 64
    ∧ (tmrFix i e s).fld (STAY_TMR_STS i) STAY_TMR_STS_STATUS = s.fld (STAY_TMR_STS i) STAY_TMR_STS_STATUS
    ∧ s.onlyRegs (tmrFix i e s) [STAY_TMR_STS i, STAY_TMR_E i] := by
  obtain ⟨-, hne, -⟩ := tmrRegs_ne i
  exact ⟨(fld_wrN_ne _ _ _ _ _ hne.symm).trans (tmrSt_setF _ _ (by decide)), rdN_wrN .., (fld_wrN_ne _ _ _ _ _ hne.symm).trans (status_setTstate ..),
    onlyRegs_andWr (onlyRegs_andWr (onlyRegs_rfl s _) (by simp)) (by simp)⟩

/-- The next compare of a timer on TB1 is fixed, on another base it is waited for. -/
theorem tmrNext_spec (i : Nat) (s : State) :
    (s.tmrBase i = 0 → (tmrNext i s).tmrSt i = tmFIXED
      ∧ (tmrNext i s).rdN (STAY_TMR_E i) = ceilFt (s.rdN (STAY_TMR_CMP i) + (tget s.stay.tmrs i).k * s.rdN (STAY_TMR_PER i)) % 2 ^ 64)
    ∧ (s.tmrBase i ≠ 0 → (tmrNext i s).tmrSt i = tmARMED ∧ (tmrNext i s).rd (STAY_TMR_E i) = s.rd (STAY_TMR_E i))
    ∧ (tmrNext i s).fld (STAY_TMR_STS i) STAY_TMR_STS_STATUS = s.fld (STAY_TMR_STS i) STAY_TMR_STS_STATUS
    ∧ s.onlyRegs (tmrNext i s) [STAY_TMR_STS i, STAY_TMR_E i] := by
  by_cases hb : s.tmrBase i = 0
  · have hnext : tmrNext i s = tmrFix i (ceilFt (s.rdN (STAY_TMR_CMP i) + (tget s.stay.tmrs i).k * s.rdN (STAY_TMR_PER i))) s := by
      have hcmp : s.tmrCmp i = s.rdN (STAY_TMR_CMP i) + (tget s.stay.tmrs i).k * s.rdN (STAY_TMR_PER i) := if_pos hb
      rw [← hcmp]
      exact if_pos hb
    obtain ⟨hst, he, hsts, honly⟩ := tmrFix_spec i (ceilFt (s.rdN (STAY_TMR_CMP i) + (tget s.stay.tmrs i).k * s.rdN (STAY_TMR_PER i))) s
    rw [hnext]
    exact ⟨fun _ => ⟨hst, he⟩, fun h => absurd hb h, hsts, honly⟩
  · have hnext : tmrNext i s = s.setF (STAY_TMR_STS i) STAY_TMR_STS_TSTATE tmARMED := if_neg hb
    obtain ⟨-, hne, -⟩ := tmrRegs_ne i
    rw [hnext]
    exact ⟨fun h => absurd h hb, fun _ => ⟨tmrSt_setF _ _ (by decide), rd_setF_ne _ _ _ _ _ hne⟩, status_setTstate ..,
      onlyRegs_andWr (onlyRegs_rfl s _) (by simp)⟩

theorem rwMask_tmrCtl : ∀ i < 128, rwMask (STAY_TMR_CTL i) = 0xFFFFFFFF#64 := by decide +kernel

theorem bit_31 (v : Nat) : bit (2 ^ 31 + v % 2 ^ 31) 31 = true := by
  unfold bit
  rw [Nat.testBit_two_pow_add_eq, Nat.testBit_lt_two_pow (Nat.mod_lt _ (Nat.two_pow_pos 31))]
  rfl

/-- A timer that passes its checks is armed and begins at its first compare. -/
def tmrArmed (i w : Nat) (s : State) : State :=
  ((s.wrRW (STAY_TMR_CTL i) w).status (STAY_TMR_STS i) 0).modStay fun x => { x with tmrs := tput x.tmrs i default }

theorem tmrCtlWrite_arm (hen : s.flag (STAY_TMR_CTL i) STAY_TMR_CTL_EN = false) (hbit : bit w 31 = true) : tmrCtlWrite i w s = tmrArm i w s := by
  unfold tmrCtlWrite
  rw [hen, if_neg Bool.false_ne_true, if_pos hbit]

theorem timerArm_spec (hi : i < 128) (hopen : s.opens (STAY_TMR_CTL i)) (hen : s.flag (STAY_TMR_CTL i) STAY_TMR_CTL_EN = false)
    (hw : w = 2 ^ 31 + v % 2 ^ 31) (hcheck : s.tmrCheck i w = 0) : ∃ t, exec (.timerArm i v) s = .next t
      ∧ t.rd (STAY_TMR_CTL i) = ((s.rd (STAY_TMR_CTL i) &&& ~~~(rwMask (STAY_TMR_CTL i))) ||| (BitVec.ofNat 64 w &&& rwMask (STAY_TMR_CTL i)))
      ∧ t.flag (STAY_TMR_CTL i) STAY_TMR_CTL_EN = true ∧ t.fld (STAY_TMR_STS i) STAY_TMR_STS_STATUS = 0 ∧ tget t.stay.tmrs i = default
      ∧ (bits w 30 28 = 0 → t.tmrSt i = tmFIXED ∧ t.rdN (STAY_TMR_E i) = ceilFt (s.rdN (STAY_TMR_CMP i)) % 2 ^ 64)
      ∧ (bits w 30 28 ≠ 0 → t.tmrSt i = tmARMED ∧ t.rd (STAY_TMR_E i) = s.rd (STAY_TMR_E i))
      ∧ s.keeps t [STAY_TMR_CTL i, STAY_TMR_STS i, STAY_TMR_E i] ∧ { t with regs := s.regs, stay := s.stay } = s := by
  obtain ⟨hcs, hes, hce, hmc, hms, hpc, hps⟩ := tmrRegs_ne i
  have hbit : bit w 31 = true := hw ▸ bit_31 v
  have hmask := rwMask_tmrCtl i hi
  obtain ⟨u, hu⟩ : ∃ u, u = tmrArmed i w s := ⟨_, rfl⟩
  have harm : tmrCtlWrite i (2 ^ 31 + v % 2 ^ 31) s = tmrNext i u := by
    rw [← hw, tmrCtlWrite_arm hen hbit, hu]
    exact if_neg (not_not_intro hcheck)
  have hctl : u.rd (STAY_TMR_CTL i) = (s.wrRW (STAY_TMR_CTL i) w).rd (STAY_TMR_CTL i) := hu ▸ rd_status_ne _ _ _ _ hcs
  have hbase : u.tmrBase i = bits w 30 28 := (congrArg (getF · STAY_TMR_CTL_BASE) hctl).trans
    (fld_wrRW s w hmask (f := STAY_TMR_CTL_BASE) (by decide) (by decide))
  have hsu : s.keeps u [STAY_TMR_CTL i, STAY_TMR_STS i] := hu ▸ keeps_modStay (keeps_status (keeps_wrRW (keeps_rfl s _) (by simp)) (by simp))
  have hsts : u.fld (STAY_TMR_STS i) STAY_TMR_STS_STATUS = 0 := hu ▸ fld_status ..
  have htmr : tget u.stay.tmrs i = default := by
    rw [hu]
    exact tget_tput_same s.stay.tmrs i default
  have hcmp : u.rdN (STAY_TMR_CMP i) = s.rdN (STAY_TMR_CMP i) := rdN_of_keeps hsu (by simp [hmc, hms])
  have he : u.rd (STAY_TMR_E i) = s.rd (STAY_TMR_E i) := rd_of_keeps hsu (by simp [hce.symm, hes])
  have husty : { u with regs := s.regs, stay := s.stay } = s := by
    rw [hu]
    rfl
  obtain ⟨hfix, hwait, hst, honly⟩ := tmrNext_spec i u
  have hctlT : (tmrNext i u).rd (STAY_TMR_CTL i) = u.rd (STAY_TMR_CTL i) := honly.2 _ (by simp [hcs, hce])
  refine ⟨_, next_hostWr hopen harm, hctlT.trans (hctl.trans (rd_wrRW_same ..)), ?_, hst.trans hsts, ?_, fun hb => ?_, fun hb => ?_,
    keeps_trans hsu honly.2 (by simp) (by simp), ?_⟩
  · exact (congrArg (fun x => getF x STAY_TMR_CTL_EN == 1) (hctlT.trans hctl)).trans
      ((flag_wrRW s w hmask (by decide) (by decide)).trans hbit)
  · rw [eq_of_onlyRegs honly]
    exact htmr
  · obtain ⟨h1, h2⟩ := hfix (hbase.trans hb)
    refine ⟨h1, h2.trans ?_⟩
    rw [htmr, hcmp]
    exact congrArg (fun x => ceilFt x % 2 ^ 64) (by rw [show (default : Tmr).k = 0 from rfl, Nat.zero_mul, Nat.add_zero])
  · obtain ⟨h1, h2⟩ := hwait (hbase ▸ hb)
    exact ⟨h1, h2.trans he⟩
  · rw [eq_of_onlyRegs honly]
    exact husty

theorem tmrCheck_lt (s : State) (i v : Nat) : s.tmrCheck i v < 2 ^ 16 := by
  unfold State.tmrCheck
  iterate 6 refine ite_lt_of (by decide) ?_
  decide

theorem timerArm_refused (hopen : s.opens (STAY_TMR_CTL i)) (hen : s.flag (STAY_TMR_CTL i) STAY_TMR_CTL_EN = false)
    (hcheck : s.tmrCheck i (2 ^ 31 + v % 2 ^ 31) ≠ 0) : ∃ t, exec (.timerArm i v) s = .next t
      ∧ t.fld (STAY_TMR_STS i) STAY_TMR_STS_STATUS = s.tmrCheck i (2 ^ 31 + v % 2 ^ 31)
      ∧ s.onlyRegs t [STAY_TMR_STS i, IMG_DENY, IMG_DENY_CNT] :=
  ⟨_, next_hostWr hopen ((tmrCtlWrite_arm hen (bit_31 v)).trans (if_pos hcheck)), fld_status_of_lt _ _ (tmrCheck_lt ..),
    onlyRegs_trans (onlyRegs_denyIf ..) (onlyRegs_status ..) (by simp) (by simp)⟩

theorem timerArm_running (hopen : s.opens (STAY_TMR_CTL i)) (hen : s.flag (STAY_TMR_CTL i) STAY_TMR_CTL_EN = true) :
    ∃ t, exec (.timerArm i v) s = .next t
      ∧ t.rdN STAY_WDROP_CNT = min 0xFFFFFFFF (s.rdN STAY_WDROP_CNT + 1) ∧ s.onlyRegs t [STAY_WDROP_CNT] :=
  ⟨_, next_hostWr hopen ((if_pos hen).trans (if_pos (bit_31 v))), rdN_inc .., onlyRegs_inc ..⟩

theorem timerFix_of_near {r : Int} {d : Nat} (hst : s.tmrSt i = tmARMED) (hrun : s.tb1Run = true)
    (hr : r = (uST : Int) + s.baseRate (baseNo (s.tmrBase i))) (hpos : 0 < r)
    (hgap : 0 < (s.tmrCmp i : Int) - s.base (baseNo (s.tmrBase i)))
    (hd : d = (((s.tmrCmp i : Int) - s.base (baseNo (s.tmrBase i)) + r - 1) / r).toNat) :
    timerFix i s = if d ≤ 20000 then tmrFix i (ceilFt (s.tb1 + d)) s else s := by
  unfold timerFix
  dsimp only
  rw [← hr, if_neg (by simp [hst, hrun, hpos]), if_neg (not_le.mpr hgap), ← hd]
  rfl

theorem timerFix_spec {r : Int} {d : Nat} (hst : s.tmrSt i = tmARMED) (hrun : s.tb1Run = true)
    (hr : r = (uST : Int) + s.baseRate (baseNo (s.tmrBase i))) (hpos : 0 < r)
    (hgap : 0 < (s.tmrCmp i : Int) - s.base (baseNo (s.tmrBase i)))
    (hd : d = (((s.tmrCmp i : Int) - s.base (baseNo (s.tmrBase i)) + r - 1) / r).toNat) :
    ∃ t, exec (.timerFix i) s = .next t ∧ (20000 < d → t = s)
      ∧ (d ≤ 20000 → t.tmrSt i = tmFIXED ∧ t.rdN (STAY_TMR_E i) = ceilFt (s.tb1 + d) % 2 ^ 64 ∧ s.onlyRegs t [STAY_TMR_STS i, STAY_TMR_E i]) := by
  have hfix := timerFix_of_near hst hrun hr hpos hgap hd
  by_cases hnear : d ≤ 20000
  · rw [if_pos hnear] at hfix
    obtain ⟨h1, h2, -, h3⟩ := tmrFix_spec i (ceilFt (s.tb1 + d)) s
    exact ⟨_, congrArg Host.Outcome.next hfix, fun h => absurd hnear (Nat.not_le.mpr h), fun _ => ⟨h1, h2, h3⟩⟩
  · rw [if_neg hnear] at hfix
    exact ⟨s, congrArg Host.Outcome.next hfix, fun _ => rfl, fun h => absurd h hnear⟩

/-- A timer whose compare is past counts the occurrences it leaves out. -/
def skippedCounted (i : Nat) (s : State) : State := s.modStay fun y => { y with
  tmrs := tput y.tmrs i { tget s.stay.tmrs i with
    k := (tget s.stay.tmrs i).k + skipped (s.tmrCmp i) (s.rdN (STAY_TMR_PER i) * uFRAC) (s.base (baseNo (s.tmrBase i))) } }

theorem tb1_modStay (s : State) (f : StayS → StayS) : (s.modStay f).tb1 = s.tb1 := rfl

theorem tmrLate_eq (i : Nat) (s : State) :
    tmrLate i s = (tmrFix i (ceilFt (s.tb1 + 256)) (skippedCounted i s)).setF (STAY_TMR_STS i) STAY_TMR_STS_LATE 1 := by
  have htb1 : (skippedCounted i s).tb1 = s.tb1 := tb1_modStay ..
  have hlead : 256 = 16 * ft := rfl
  rw [← htb1, hlead]
  unfold tmrLate skippedCounted
  rfl

theorem timerFix_late (hst : s.tmrSt i = tmARMED) (hrun : s.tb1Run = true) (hpos : 0 < (uST : Int) + s.baseRate (baseNo (s.tmrBase i)))
    (hpast : (s.tmrCmp i : Int) ≤ s.base (baseNo (s.tmrBase i))) : ∃ t, exec (.timerFix i) s = .next t ∧ t.tmrSt i = tmFIXED
      ∧ t.rdN (STAY_TMR_E i) = ceilFt (s.tb1 + 256) % 2 ^ 64 ∧ t.flag (STAY_TMR_STS i) STAY_TMR_STS_LATE = true
      ∧ t.stay = (skippedCounted i s).stay
      ∧ s.keeps t [STAY_TMR_STS i, STAY_TMR_E i] ∧ { t with regs := s.regs, stay := s.stay } = s := by
  obtain ⟨u, hu⟩ : ∃ u, u = skippedCounted i s := ⟨_, rfl⟩
  have hus : u = { s with stay := u.stay } := hu ▸ rfl
  have hlate : timerFix i s = (tmrFix i (ceilFt (s.tb1 + 256)) u).setF (STAY_TMR_STS i) STAY_TMR_STS_LATE 1 := by
    unfold timerFix
    dsimp only
    rw [if_neg (by simp [hst, hrun, hpos]), if_pos (by omega), hu, tmrLate_eq]
  obtain ⟨h1, h2, -, h3⟩ := tmrFix_spec i (ceilFt (s.tb1 + 256)) u
  obtain ⟨-, hes, -⟩ := tmrRegs_ne i
  have hsu : s.keeps u [] := hu ▸ keeps_modStay (keeps_rfl s _)
  rw [← hu]
  refine ⟨_, congrArg Host.Outcome.next hlate, ?_, (rdN_setF_ne _ _ _ _ _ hes).trans h2, flag_setF_same _ _ _ _ (by decide) (by decide), ?_,
    keeps_setF (keeps_trans hsu h3.2 (by simp) (List.Subset.refl _)) (by simp), ?_⟩
  · exact (fld_setF_beside _ _ STAY_TMR_STS_LATE STAY_TMR_STS_TSTATE _ (by decide) (by decide) (by decide)).trans h1
  · rw [eq_of_onlyRegs h3]
    rfl
  · rw [eq_of_onlyRegs h3, hus]
    rfl

/-! ### A timer fires (R459) -/

/-- What a timer has sent to the hub itself. -/
def firedItem (i e : Nat) (s : State) : Item :=
  ⟨e, islHub, islHub, .ctrl, .timer i (s.fld (STAY_TMR_CTL i) STAY_TMR_CTL_ACTION) (s.fld (STAY_TMR_CTL i) STAY_TMR_CTL_ARG)⟩

/-- A one-shot timer is at its end. -/
def timerOff (i : Nat) (s : State) : State := (s.setF (STAY_TMR_CTL i) STAY_TMR_CTL_EN 0).setF (STAY_TMR_STS i) STAY_TMR_STS_TSTATE tmIDLE

theorem timerOff_spec (i : Nat) (s : State) : (timerOff i s).fld (STAY_TMR_CTL i) STAY_TMR_CTL_EN = 0 ∧ (timerOff i s).tmrSt i = tmIDLE
    ∧ (timerOff i s).fld (STAY_TMR_STS i) STAY_TMR_STS_STATUS = s.fld (STAY_TMR_STS i) STAY_TMR_STS_STATUS
    ∧ s.onlyRegs (timerOff i s) [STAY_TMR_CTL i, STAY_TMR_STS i] := by
  obtain ⟨hne, -⟩ := tmrRegs_ne i
  exact ⟨(fld_setF_ne _ _ _ _ _ _ hne).trans (fld_setF _ _ STAY_TMR_CTL_EN _ (by decide)), tmrSt_setF _ _ (by decide),
    (status_setTstate ..).trans (fld_setF_ne _ _ _ _ _ _ hne.symm), onlyRegs_andWr (onlyRegs_andWr (onlyRegs_rfl s _) (by simp)) (by simp)⟩

/-- A periodic timer goes on to its next compare. -/
def timerOn (i : Nat) (s : State) : State :=
  tmrNext i (s.modStay fun y => { y with tmrs := tput y.tmrs i { tget s.stay.tmrs i with k := (tget s.stay.tmrs i).k + 1 } })

/-- What a timer sends at its event: the state after it, and its status. -/
def timerSent (i e : Nat) (s : State) : State × Nat :=
  let u := s.hold (firedItem i e s)
  if s.fld (STAY_TMR_CTL i) STAY_TMR_CTL_ACTION = 1 then lsgSend (s.fld (STAY_TMR_CTL i) STAY_TMR_CTL_ARG % 64) lcSTART e 16 islHub u
  else if s.fld (STAY_TMR_CTL i) STAY_TMR_CTL_ACTION = 0 then (forEach (s.tmrChans i) u fun p s => s.send ⟨e, islHub, p.1, .ctrl, .start p.1 p.2⟩, 0)
  else (u, s.fld (STAY_TMR_STS i) fSTATUS)

theorem timerFire_eq {e : Nat} (hst : s.tmrSt i = tmFIXED) (he : e = s.rdN (STAY_TMR_E i)) (hreach : s.reached (e - 256) = true)
    (hu : u = (timerSent i e s).1.status (STAY_TMR_STS i) (timerSent i e s).2) :
    timerFire i s = if u.fld (STAY_TMR_CTL i) STAY_TMR_CTL_MODE = 1 then timerOn i u else timerOff i u := by
  unfold timerFire
  dsimp only
  rw [← he, if_neg fun h => h.elim (fun h => h hst) fun h => h hreach, hu]
  rfl

theorem forEach_send {α : Type} (xs : List α) (f : α → Item) (s : State) :
    forEach xs s (fun p s => s.send (f p)) = { s with bus := { s.bus with transit := s.bus.transit ++ xs.map f } } := by
  induction xs generalizing s with
  | nil =>
    rw [List.map_nil, List.append_nil]
    rfl
  | cons x xs ih =>
    refine (ih (s.send (f x))).trans ?_
    rw [List.map_cons, List.append_cons]
    rfl

theorem timerFire_event {e a : Nat} (hst : s.tmrSt i = tmFIXED) (he : e = s.rdN (STAY_TMR_E i)) (hreach : s.reached (e - 256) = true)
    (ha : a = s.fld (STAY_TMR_CTL i) STAY_TMR_CTL_ARG) (hact : s.fld (STAY_TMR_CTL i) STAY_TMR_CTL_ACTION = 0)
    (hmode : s.fld (STAY_TMR_CTL i) STAY_TMR_CTL_MODE = 0) : ∃ t, exec (.timerFire i) s = .next t
      ∧ t.bus = { s.bus with
          held := insItem s.bus.held ⟨e, islHub, islHub, .ctrl, .timer i 0 a⟩,
          transit := s.bus.transit ++ (s.tmrChans i).map fun p => ⟨e, islHub, p.1, .ctrl, .start p.1 p.2⟩ }
      ∧ t.fld (STAY_TMR_CTL i) STAY_TMR_CTL_EN = 0 ∧ t.tmrSt i = tmIDLE ∧ t.fld (STAY_TMR_STS i) STAY_TMR_STS_STATUS = 0
      ∧ s.keeps t [STAY_TMR_CTL i, STAY_TMR_STS i] ∧ { t with regs := s.regs, bus := s.bus } = s := by
  obtain ⟨hne, -⟩ := tmrRegs_ne i
  obtain ⟨b, hb⟩ : ∃ b : State, b = { s with bus := { s.bus with
    held := insItem s.bus.held ⟨e, islHub, islHub, .ctrl, .timer i 0 a⟩,
    transit := s.bus.transit ++ (s.tmrChans i).map fun p => ⟨e, islHub, p.1, .ctrl, .start p.1 p.2⟩ } } := ⟨_, rfl⟩
  have hsent : timerSent i e s = (b, 0) := by
    rw [hb, timerSent, if_neg (by rw [hact]; decide), if_pos hact, forEach_send, firedItem, hact, ← ha]
    rfl
  obtain ⟨u, hu⟩ : ∃ u, u = b.status (STAY_TMR_STS i) 0 := ⟨_, rfl⟩
  have hfire := timerFire_eq (u := u) hst he hreach (by rw [hsent, hu])
  have hbs : s.keeps b [] := hb ▸ keeps_of_regs (keeps_rfl s _) rfl
  have hbu : b.onlyRegs u [STAY_TMR_STS i] := hu ▸ onlyRegs_status ..
  have hsu : s.keeps u [STAY_TMR_STS i] := keeps_trans hbs hbu.2 (by simp) (List.Subset.refl _)
  rw [fld_of_keeps hsu (by simp [hne]), hmode, if_neg (by decide)] at hfire
  obtain ⟨hen, hidle, hsts, honly⟩ := timerOff_spec i u
  have hstatus : u.fld (STAY_TMR_STS i) STAY_TMR_STS_STATUS = 0 := hu ▸ fld_status ..
  refine ⟨_, congrArg Host.Outcome.next hfire, ?_, hen, hidle, hsts.trans hstatus, keeps_trans hsu honly.2 (by simp) (List.Subset.refl _), ?_⟩
  · rw [eq_of_onlyRegs honly, eq_of_onlyRegs hbu, hb]
  · rw [eq_of_onlyRegs honly, eq_of_onlyRegs hbu, hb]

theorem timerFire_periodic {e a k : Nat} (hst : s.tmrSt i = tmFIXED) (he : e = s.rdN (STAY_TMR_E i)) (hreach : s.reached (e - 256) = true)
    (ha : a = s.fld (STAY_TMR_CTL i) STAY_TMR_CTL_ARG) (hact : 2 ≤ s.fld (STAY_TMR_CTL i) STAY_TMR_CTL_ACTION)
    (hmode : s.fld (STAY_TMR_CTL i) STAY_TMR_CTL_MODE = 1) (hk : k = (tget s.stay.tmrs i).k + 1) : ∃ t, exec (.timerFire i) s = .next t
      ∧ t.bus = { s.bus with held := insItem s.bus.held ⟨e, islHub, islHub, .ctrl, .timer i (s.fld (STAY_TMR_CTL i) STAY_TMR_CTL_ACTION) a⟩ }
      ∧ tget t.stay.tmrs i = { tget s.stay.tmrs i with k := k }
      ∧ (s.tmrBase i = 0 → t.tmrSt i = tmFIXED ∧ t.rdN (STAY_TMR_E i) = ceilFt (s.rdN (STAY_TMR_CMP i) + k * s.rdN (STAY_TMR_PER i)) % 2 ^ 64)
      ∧ (s.tmrBase i ≠ 0 → t.tmrSt i = tmARMED)
      ∧ s.keeps t [STAY_TMR_STS i, STAY_TMR_E i] ∧ { t with regs := s.regs, bus := s.bus, stay := s.stay } = s := by
  obtain ⟨hcs, -, hce, -, hms, -, hps⟩ := tmrRegs_ne i
  obtain ⟨b, hb⟩ : ∃ b, b = s.hold (firedItem i e s) := ⟨_, rfl⟩
  have hsent : timerSent i e s = (b, s.fld (STAY_TMR_STS i) fSTATUS) := by
    rw [hb, timerSent, if_neg (by omega), if_neg (by omega)]
  obtain ⟨u, hu⟩ : ∃ u, u = b.status (STAY_TMR_STS i) (s.fld (STAY_TMR_STS i) fSTATUS) := ⟨_, rfl⟩
  have hfire := timerFire_eq (u := u) hst he hreach (by rw [hsent, hu])
  have hbs : s.keeps b [] := hb ▸ keeps_of_regs (keeps_rfl s _) rfl
  have hbu : b.onlyRegs u [STAY_TMR_STS i] := hu ▸ onlyRegs_status ..
  have hsu : s.keeps u [STAY_TMR_STS i] := keeps_trans hbs hbu.2 (by simp) (List.Subset.refl _)
  rw [fld_of_keeps hsu (by simp [hcs]), hmode, if_pos rfl, timerOn] at hfire
  have htmr : tget u.stay.tmrs i = tget s.stay.tmrs i := by rw [eq_of_onlyRegs hbu, hb]; rfl
  rw [htmr, ← hk] at hfire
  obtain ⟨v, hv⟩ : ∃ v, v = u.modStay fun y => { y with tmrs := tput y.tmrs i { tget s.stay.tmrs i with k := k } } := ⟨_, rfl⟩
  rw [← hv] at hfire
  have hsv : s.keeps v [STAY_TMR_STS i] := hv ▸ keeps_modStay hsu
  obtain ⟨hfix, hwait, -, honly⟩ := tmrNext_spec i v
  have hvk : tget v.stay.tmrs i = { tget s.stay.tmrs i with k := k } := by
    rw [hv]
    exact tget_tput_same u.stay.tmrs i _
  have hbase : v.tmrBase i = s.tmrBase i := fld_of_keeps hsv (by simp [hcs]) _
  refine ⟨_, congrArg Host.Outcome.next hfire, ?_, ?_, fun h => ?_, fun h => (hwait (hbase ▸ h)).1, keeps_trans hsv honly.2 (by simp) (List.Subset.refl _), ?_⟩
  · rw [eq_of_onlyRegs honly, hv, eq_of_onlyRegs hbu, hb, ha]
    rfl
  · rw [eq_of_onlyRegs honly]
    exact hvk
  · obtain ⟨h1, h2⟩ := hfix (hbase.trans h)
    rw [hvk, rdN_of_keeps hsv (by simp [hms]), rdN_of_keeps hsv (by simp [hps])] at h2
    exact ⟨h1, h2⟩
  · rw [eq_of_onlyRegs honly, hv, eq_of_onlyRegs hbu, hb]
    rfl

theorem setCmd_parts (s : State) (g c r src : Nat) : ∃ rg q b, s.setCmd g c r src = { s with regs := rg, seq := q, bus := b } := by
  unfold State.setCmd
  dsimp only
  split
  · exact ⟨_, _, _, rfl⟩
  · exact ⟨_, _, _, rfl⟩

theorem keeps_setCmd (s : State) (g c r src : Nat) : s.keeps (s.setCmd g c r src) [GLB_LSG_STAT g] :=
  fun _ ha => rd_setCmd_ne s g c r src (by simpa using ha)

theorem tmrSts_ne_lsgStat {g : Nat} (hg : g < 64) (i : Nat) : GLB_LSG_STAT g ≠ STAY_TMR_CTL i ∧ GLB_LSG_STAT g ≠ STAY_TMR_STS i := by
  unfold GLB_LSG_STAT STAY_TMR_CTL STAY_TMR_STS
  omega

theorem timerFire_start {e a g : Nat} (hst : s.tmrSt i = tmFIXED) (he : e = s.rdN (STAY_TMR_E i)) (hpos : 0 < e)
    (hreach : s.reached (e - 256) = true) (ha : a = s.fld (STAY_TMR_CTL i) STAY_TMR_CTL_ARG)
    (hact : s.fld (STAY_TMR_CTL i) STAY_TMR_CTL_ACTION = 1) (hmode : s.fld (STAY_TMR_CTL i) STAY_TMR_CTL_MODE = 0)
    (hg : g = a % 64) (hcheck : s.lsgCheck g lcSTART e 16 = 0) :
    ∃ t, exec (.timerFire i) s = .next t ∧ (t.grp g).cmd = some ⟨lcSTART, ceilFt e⟩ ∧ t.fld (GLB_LSG_STAT g) GLB_LSG_STAT_PENDING = 1
      ∧ t.bus = ((s.hold ⟨e, islHub, islHub, .ctrl, .timer i 1 a⟩).setCmd g lcSTART (ceilFt e) islHub).bus
      ∧ t.fld (STAY_TMR_CTL i) STAY_TMR_CTL_EN = 0 ∧ t.tmrSt i = tmIDLE ∧ t.fld (STAY_TMR_STS i) STAY_TMR_STS_STATUS = 0
      ∧ s.keeps t [GLB_LSG_STAT g, STAY_TMR_CTL i, STAY_TMR_STS i] ∧ { t with regs := s.regs, seq := s.seq, bus := s.bus } = s := by
  obtain ⟨hne, -⟩ := tmrRegs_ne i
  obtain ⟨hgc, hgs⟩ := tmrSts_ne_lsgStat (show g < 64 by omega) i
  obtain ⟨h, hh⟩ : ∃ h, h = s.hold ⟨e, islHub, islHub, .ctrl, .timer i 1 a⟩ := ⟨_, rfl⟩
  obtain ⟨b, hb⟩ : ∃ b, b = h.setCmd g lcSTART (ceilFt e) islHub := ⟨_, rfl⟩
  have hrel : h.lsgRel e 16 = ceilFt e := congrArg ceilFt (if_neg (by omega))
  have hsent : timerSent i e s = (b, 0) := by
    have hchk : h.lsgCheck g lcSTART e 16 = 0 := by
      rw [hh]
      exact hcheck
    rw [timerSent, if_pos hact, firedItem, hact, ← ha, ← hg, ← hh, lsgSend, hchk, hrel, hb]
    rfl
  obtain ⟨u, hu⟩ : ∃ u, u = b.status (STAY_TMR_STS i) 0 := ⟨_, rfl⟩
  have hfire := timerFire_eq (u := u) hst he hreach (by rw [hsent, hu])
  have hsh : s.keeps h [] := hh ▸ keeps_of_regs (keeps_rfl s _) rfl
  have hhb : h.keeps b [GLB_LSG_STAT g] := hb ▸ keeps_setCmd h g lcSTART (ceilFt e) islHub
  have hbu : b.onlyRegs u [STAY_TMR_STS i] := hu ▸ onlyRegs_status ..
  have hsu : s.keeps u [GLB_LSG_STAT g, STAY_TMR_STS i] :=
    keeps_trans (keeps_trans hsh hhb (by simp) (List.Subset.refl _)) hbu.2 (by simp) (by simp)
  rw [fld_of_keeps hsu (by simp [hne, hgc.symm]), hmode, if_neg (by decide)] at hfire
  obtain ⟨hen, hidle, hsts, honly⟩ := timerOff_spec i u
  have hstatus : u.fld (STAY_TMR_STS i) STAY_TMR_STS_STATUS = 0 := hu ▸ fld_status ..
  obtain ⟨hcmd, hpend, -⟩ := holdsCmd_setCmd_hub h g lcSTART (ceilFt e)
  rw [← hb] at hcmd hpend
  obtain ⟨rg, q, bs, hparts⟩ := setCmd_parts h g lcSTART (ceilFt e) islHub
  rw [← hb] at hparts
  refine ⟨_, congrArg Host.Outcome.next hfire, ?_, ?_, ?_, hen, hidle, hsts.trans hstatus, keeps_trans hsu honly.2 (by simp) (by simp), ?_⟩
  · rw [eq_of_onlyRegs honly, eq_of_onlyRegs hbu]
    exact hcmd
  · exact (fld_of_onlyRegs honly (by simp [hgc, hgs]) _).trans ((fld_of_onlyRegs hbu (by simp [hgs]) _).trans hpend)
  · rw [eq_of_onlyRegs honly, eq_of_onlyRegs hbu, ← hh, hb]
  · rw [eq_of_onlyRegs honly, eq_of_onlyRegs hbu, hparts, hh]
    rfl

end

/-- Settles O40: scheduled sets are stored and made, and a timer is armed, fixed, late and fires as R457 to R460 say. -/
theorem userDomainsAndTimersAct : Obligations.UserDomainsAndTimersAct := by
  refine ⟨fun s n v u _ _ hopen hmay hrun hv hu => ?_, fun s n v hopen hmay hno => next_hostWr hopen (tbnSetAt_ignored hmay hno),
    fun s n v hopen hmay => ?_, fun s n τ hn _ hset hdue => tbnSetApply_spec hn hset hdue,
    fun s i v w hi hopen hen hw hcheck => timerArm_spec hi hopen hen hw hcheck, fun s i v _ hopen hen hcheck => timerArm_refused hopen hen hcheck,
    fun s i v _ hopen hen => timerArm_running hopen hen, fun s i r d _ hst hrun hr hpos hgap hd => timerFix_spec hst hrun hr hpos hgap hd,
    fun s i x _ hst hrun hpos hx hpast => hx ▸ timerFix_late hst hrun hpos hpast,
    fun s i e a _ hst he hreach ha hact hmode => timerFire_event hst he hreach ha hact hmode,
    fun s i e a k _ hst he hreach ha hact hmode hk => timerFire_periodic hst he hreach ha hact hmode hk,
    fun s i e a g _ hst he hpos hreach ha hact hmode hg hcheck => timerFire_start hst he hpos hreach ha hact hmode hg hcheck⟩
  · exact ⟨_, next_hostWr hopen (tbnSetAt_taken hmay hrun hv), hu ▸ rfl, keeps_modStay (keeps_wrRW (keeps_rfl s _) (by simp)), rfl⟩
  · exact ⟨_, next_hostWr hopen (if_pos (by simp [hmay])), deny_spec s 0x0B n 4 0⟩

end Sys2Proof.Laws
end

section
namespace Sys2Proof.Laws
open Sys2Proof.Machine

-- One theorem after another: a thread for each of them passes the memory limit of the check.
set_option Elab.async false

/-! ### A write of OZL_CTL with a reserved MAXRATE (Table 15-1) -/

/-- A device in CONFIG whose link L0 is enabled. -/
def enabledLink : State := (State.reset.setDev dCONFIG).setF (OZL_CTL 0) OZL_CTL_EN 1

/-- A write that clears EN but names a reserved MAXRATE is discarded whole. -/
theorem ozlEnable_reserved {s : State} {l : Nat} (hopen : s.opens (OZL_CTL l)) : exec (.ozlEnable l false 5) s = .next s :=
  next_hostWr hopen (if_pos (by decide))

/-- Refutes O41: a write of OZL_CTL that clears EN with MAXRATE 5 is discarded (Table 15-1), so that an enabled link stays enabled; the clause
on disabling holds for MAXRATE up to 4 only. -/
theorem not_linksTrainComeUpAndLoseLanes : ¬ Obligations.LinksTrainComeUpAndLoseLanes := by
  rintro ⟨-, hdisable, -⟩
  have hopen : enabledLink.opens (OZL_CTL 0) := by
    unfold State.opens
    decide +kernel
  have henabled : enabledLink.flag (OZL_CTL 0) OZL_CTL_EN = true := by decide +kernel
  obtain ⟨t, hexec, hcleared, -⟩ := hdisable enabledLink 0 5 (by decide) hopen henabled
  obtain rfl : enabledLink = t := Host.Outcome.next.inj ((ozlEnable_reserved hopen).symm.trans hexec)
  exact Bool.false_ne_true (hcleared.symm.trans henabled)

end Sys2Proof.Laws
end

section
namespace Sys2Proof.Laws
open Sys2Proof.Machine

-- One theorem after another: a thread for each of them passes the memory limit of the check.
set_option Elab.async false

/-! ### The state of a link -/

section
variable {s t u : State} {l i n : Nat} {x : OzlLink}

@[simp] theorem link_setLink_same (s : State) (l : Nat) (x : OzlLink) : (s.setLink l x).link l = x := tget_tput_same s.ozl.links l x
@[simp] theorem link_setF (s : State) (a : Nat) (f : Fld) (n l : Nat) : (s.setF a f n).link l = s.link l := rfl
@[simp] theorem link_inc (s : State) (a l : Nat) : (s.inc a).link l = s.link l := rfl
@[simp] theorem link_modLink_same (s : State) (l : Nat) (f : OzlLink → OzlLink) : (s.modLink l f).link l = f (s.link l) := link_setLink_same ..

theorem rd_setLink (s : State) (l : Nat) (x : OzlLink) (a : Nat) : (s.setLink l x).rd a = s.rd a := rfl
theorem fld_setLink (s : State) (l : Nat) (x : OzlLink) (a : Nat) (f : Fld) : (s.setLink l x).fld a f = s.fld a f := rfl
theorem keeps_setLink {as : List Nat} (h : s.keeps t as) : s.keeps (t.setLink l x) as := keeps_of_regs h rfl

/-- Only registers and the links' own state differ. -/
def linkOnly (s t : State) : Prop := { t with regs := s.regs, ozl := s.ozl } = s

theorem linkOnly_eq (h : linkOnly s t) : t = { s with regs := t.regs, ozl := t.ozl } := by
  rw [← h]

theorem linkOnly_rfl (s : State) : linkOnly s s := rfl

theorem linkOnly_trans (h : linkOnly s t) (k : linkOnly t u) : linkOnly s u := by
  unfold linkOnly
  rw [linkOnly_eq k, linkOnly_eq h]

theorem linkOnly_setLink (s : State) (l : Nat) (x : OzlLink) : linkOnly s (s.setLink l x) := rfl
theorem linkOnly_setF (s : State) (a : Nat) (f : Fld) (n : Nat) : linkOnly s (s.setF a f n) := rfl
theorem linkOnly_inc (s : State) (a : Nat) : linkOnly s (s.inc a) := rfl

theorem linkOnly_of_onlyRegs {as : List Nat} (h : s.onlyRegs t as) : linkOnly s t := by
  unfold linkOnly
  rw [eq_of_onlyRegs h]

theorem clock_of_linkOnly (h : linkOnly s t) : t.clock = s.clock := by rw [linkOnly_eq h]

/-! ### ACK and credits of a good flit (R469, R470, Table 15-6a) -/

/-- Does a flit acknowledge a flit that waits for it? -/
def ackKnown (f : Nat) (x : OzlLink) : Bool := bit f 248 && x.retry.any fun r => r.1 == flAck f

/-- The flits behind the acknowledged one. -/
def unacked (f : Nat) (x : OzlLink) : List (Nat × Nat × Nat) := (x.retry.dropWhile fun r => r.1 != flAck f).drop 1

/-- A link after the ACK of a flit. -/
def ackTaken (f now : Nat) (x : OzlLink) : OzlLink :=
  if ackKnown f x = true then { x with retry := unacked f x, resend := x.resend.filter (unacked f x).contains, ackAt := now, resends := 0 } else x

/-- A link after the credits of a flit. -/
def creditsTaken (f : Nat) (x : OzlLink) : OzlLink :=
  if bits f 228 224 = 0 then x
  else { x with
    credits := tput x.credits (bits f 231 229) (min (ozlBuffers (bits f 231 229)) (tget x.credits (bits f 231 229) + bits f 228 224)),
    debts := payDebts (bits f 231 229) (bits f 228 224) x.debts }

/-- A link after the ACK and the credits of a flit. -/
def acked (f now : Nat) (x : OzlLink) : OzlLink := creditsTaken f (ackTaken f now x)

theorem rxAck_eq (l f : Nat) (s : State) : rxAck l f s = (s.setLink l (acked f s.clock.now (s.link l))).setF (OZL_PMSTS l) OZL_PMSTS_RX_LS 0 := by
  unfold rxAck acked ackTaken
  dsimp only
  rw [← ackKnown]
  cases ackKnown f (s.link l)
  · rfl
  · rfl

/-- The parts that credits may change. -/
theorem creditsTaken_rest (f : Nat) (x : OzlLink) : ∃ c d, creditsTaken f x = { x with credits := c, debts := d } := by
  unfold creditsTaken
  split
  · exact ⟨x.credits, x.debts, rfl⟩
  · exact ⟨_, _, rfl⟩

/-- The parts that an ACK may change. -/
theorem ackTaken_rest (f now : Nat) (x : OzlLink) : ∃ r e a n, ackTaken f now x = { x with retry := r, resend := e, ackAt := a, resends := n } := by
  unfold ackTaken
  split
  · exact ⟨_, _, _, _, rfl⟩
  · exact ⟨x.retry, x.resend, x.ackAt, x.resends, rfl⟩

/-- The parts that an ACK and credits may change. -/
theorem acked_rest (f now : Nat) (x : OzlLink) : ∃ r e a n c d,
    acked f now x = { x with retry := r, resend := e, ackAt := a, resends := n, credits := c, debts := d } := by
  obtain ⟨r, e, a, n, h⟩ := ackTaken_rest f now x
  obtain ⟨c, d, k⟩ := creditsTaken_rest f (ackTaken f now x)
  refine ⟨r, e, a, n, c, d, ?_⟩
  rw [acked, k, h]

theorem acked_of_known {f now : Nat} (hb : bit f 248 = true) (hany : (x.retry.any fun r => r.1 == flAck f) = true) :
    (acked f now x).retry = unacked f x ∧ (acked f now x).ackAt = now ∧ (acked f now x).resends = 0 := by
  have hk : ackKnown f x = true := by rw [ackKnown, hb, hany]; rfl
  obtain ⟨c, d, h⟩ := creditsTaken_rest f (ackTaken f now x)
  rw [acked, h, ackTaken, if_pos hk]
  exact ⟨rfl, rfl, rfl⟩

theorem acked_of_noAck {f now : Nat} (hb : bit f 248 = false) : (acked f now x).retry = x.retry ∧ (acked f now x).ackAt = x.ackAt := by
  have hk : ¬ ackKnown f x = true := by rw [ackKnown, hb]; exact Bool.false_ne_true
  obtain ⟨c, d, h⟩ := creditsTaken_rest f (ackTaken f now x)
  rw [acked, h, ackTaken, if_neg hk]
  exact ⟨rfl, rfl⟩

theorem credits_acked (f now : Nat) (x : OzlLink) : (acked f now x).credits = if bits f 228 224 = 0 then x.credits
    else tput x.credits (bits f 231 229) (min (ozlBuffers (bits f 231 229)) (tget x.credits (bits f 231 229) + bits f 228 224)) := by
  obtain ⟨r, e, a, n, h⟩ := ackTaken_rest f now x
  rw [acked, h, creditsTaken]
  split
  · rfl
  · rfl

/-- What the ACK and credits of a flit leave. -/
theorem rxAck_spec (l f : Nat) (s : State) : (rxAck l f s).link l = acked f s.clock.now (s.link l)
    ∧ (rxAck l f s).fld (OZL_PMSTS l) OZL_PMSTS_RX_LS = 0 ∧ s.keeps (rxAck l f s) [OZL_PMSTS l] ∧ linkOnly s (rxAck l f s) := by
  rw [rxAck_eq]
  exact ⟨by rw [link_setF, link_setLink_same], fld_setF _ _ OZL_PMSTS_RX_LS _ (by decide),
    keeps_setF (keeps_setLink (keeps_rfl s _)) (by simp), rfl⟩

theorem rxFlit_of_good {typ v : Nat} {f : State → State} (hc : s.lCarries l = true) (hg : flGood v = true) (ht : flType v = typ) :
    rxFlit l typ v f s = f (rxAck l v s) := by
  unfold rxFlit
  rw [if_neg (not_not_intro hc), if_neg (not_not_intro hg), if_neg (not_not_intro ht)]

theorem rxFlit_of_bad {typ v : Nat} {f : State → State} (hc : s.lCarries l = true) (hg : flGood v = false) : rxFlit l typ v f s = rxNak l s := by
  unfold rxFlit
  rw [if_neg (not_not_intro hc), if_pos (by simp [hg])]

theorem rxNak_link (l : Nat) (s : State) : (rxNak l s).link l = if (s.link l).nakked = true then s.link l else { s.link l with nak := true, nakked := true } :=
  link_modLink_same ..

/-! ### Flits of each type (R454, R468 to R470) -/

theorem idleFlit_spec {v : Nat} (hx : x = s.link l) (hc : s.lCarries l = true) (hg : flGood v = true) (ht : flType v = 0) :
    ∃ t, exec (.idleFlitRx l v) s = .next t
      ∧ t.link l = (rxAck l v s).link l
      ∧ (bit v 248 = true → (x.retry.any fun r => r.1 == flAck v) = true → (t.link l).retry = (x.retry.dropWhile fun r => r.1 != flAck v).drop 1
          ∧ (t.link l).ackAt = s.clock.now ∧ (t.link l).resends = 0)
      ∧ (bit v 248 = false → (t.link l).retry = x.retry ∧ (t.link l).ackAt = x.ackAt)
      ∧ (bits v 228 224 ≠ 0 → tget (t.link l).credits (bits v 231 229) = min (ozlBuffers (bits v 231 229)) (tget x.credits (bits v 231 229) + bits v 228 224))
      ∧ (bits v 228 224 = 0 → (t.link l).credits = x.credits) ∧ t.fld (OZL_PMSTS l) OZL_PMSTS_RX_LS = 0
      ∧ s.keeps t [OZL_PMSTS l] ∧ { t with regs := s.regs, ozl := s.ozl } = s := by
  obtain ⟨hlink, hls, hkeep, hframe⟩ := rxAck_spec l v s
  refine ⟨rxAck l v s, congrArg Host.Outcome.next (rxFlit_of_good hc hg ht), rfl, ?_, ?_, ?_, ?_, hls, hkeep, hframe⟩
  · rw [hlink, hx]
    exact acked_of_known
  · rw [hlink, hx]
    exact acked_of_noAck
  · intro hn
    rw [hlink, credits_acked, if_neg hn, tget_tput_same, hx]
  · intro hn
    rw [hlink, credits_acked, if_pos hn, hx]

theorem owe_link (l c : Nat) (s : State) : (owe l c s).link l = { s.link l with owed := tput (s.link l).owed c (tget (s.link l).owed c + 1) } :=
  tget_tput_same s.ozl.links l _

theorem rxNext_acked (f now : Nat) (x : OzlLink) : (acked f now x).rxNext = x.rxNext := by
  obtain ⟨r, e, a, n, c, d, h⟩ := acked_rest f now x
  rw [h]

theorem nakked_acked (f now : Nat) (x : OzlLink) : (acked f now x).nakked = x.nakked := by
  obtain ⟨r, e, a, n, c, d, h⟩ := acked_rest f now x
  rw [h]

theorem owed_acked (f now : Nat) (x : OzlLink) : (acked f now x).owed = x.owed := by
  obtain ⟨r, e, a, n, c, d, h⟩ := acked_rest f now x
  rw [h]

theorem trip_acked (f now : Nat) (x : OzlLink) : (acked f now x).trip = x.trip := by
  obtain ⟨r, e, a, n, c, d, h⟩ := acked_rest f now x
  rw [h]

theorem lsAsk_acked (f now : Nat) (x : OzlLink) : (acked f now x).lsAsk = x.lsAsk := by
  obtain ⟨r, e, a, n, c, d, h⟩ := acked_rest f now x
  rw [h]

theorem timeOf_acked (f now : Nat) (x : OzlLink) : (acked f now x).mseq = x.mseq ∧ (acked f now x).timeAt = x.timeAt ∧ (acked f now x).txTs = x.txTs := by
  obtain ⟨r, e, a, n, c, d, h⟩ := acked_rest f now x
  rw [h]
  exact ⟨rfl, rfl, rfl⟩

/-- The flit that was expected is taken. -/
def flitTaken (x : OzlLink) : OzlLink := { x with rxNext := (x.rxNext + 1) % 256, rxAny := true, nakked := false }

theorem dataFlit_taken {v : Nat} (hc : s.lCarries l = true) (hg : flGood v = true) (ht : flType v = 1) (hseq : flSeq v = (s.link l).rxNext) :
    ∃ t, exec (.dataFlitRx l v) s = .next t
      ∧ (t.link l).rxNext = ((s.link l).rxNext + 1) % 256 ∧ (t.link l).rxAny = true ∧ (t.link l).nakked = false
      ∧ (t.link l).retry = ((rxAck l v s).link l).retry ∧ (flClass v ≠ 0 → (t.link l).owed = (s.link l).owed)
      ∧ (flClass v = 0 → tget (t.link l).owed 0 = tget (s.link l).owed 0 + 1)
      ∧ t.fld (OZL_PMSTS l) OZL_PMSTS_RX_LS = 0 ∧ s.keeps t [OZL_PMSTS l] ∧ { t with regs := s.regs, ozl := s.ozl } = s := by
  obtain ⟨hlink, hls, hkeep, hframe⟩ := rxAck_spec l v s
  have hflit : dataFlit l v s = _ := rxFlit_of_good hc hg ht
  obtain ⟨u, hu⟩ : ∃ u, u = rxAck l v s := ⟨_, rfl⟩
  rw [← hu] at hlink hls hkeep hframe hflit
  have hnext : (u.link l).rxNext = (s.link l).rxNext := by rw [hlink, rxNext_acked]
  have howed : (u.link l).owed = (s.link l).owed := by rw [hlink, owed_acked]
  dsimp only at hflit
  rw [if_pos (hseq.trans hnext.symm), ← flitTaken] at hflit
  obtain ⟨w, hw⟩ : ∃ w, w = u.setLink l (flitTaken (u.link l)) := ⟨_, rfl⟩
  rw [← hw] at hflit
  have hwl : w.link l = flitTaken (u.link l) := hw ▸ link_setLink_same ..
  have hwk : s.keeps w [OZL_PMSTS l] := hw ▸ keeps_setLink hkeep
  have hwf : linkOnly s w := hw ▸ linkOnly_trans hframe (linkOnly_setLink ..)
  have hwls : w.fld (OZL_PMSTS l) OZL_PMSTS_RX_LS = 0 := hw ▸ hls
  have hrx : (flitTaken (u.link l)).rxNext = ((s.link l).rxNext + 1) % 256 := congrArg (fun n => (n + 1) % 256) hnext
  rw [← hu]
  by_cases hcls : flClass v = 0
  · rw [if_pos hcls] at hflit
    refine ⟨_, congrArg Host.Outcome.next hflit, ?_⟩
    rw [owe_link, hwl]
    exact ⟨hrx, rfl, rfl, rfl, fun h => absurd hcls h, fun _ => (tget_tput_same _ 0 _).trans (congrArg (fun o => tget o 0 + 1) howed), hwls,
      keeps_of_regs hwk rfl, linkOnly_trans hwf rfl⟩
  · rw [if_neg hcls] at hflit
    refine ⟨_, congrArg Host.Outcome.next hflit, ?_⟩
    rw [hwl]
    exact ⟨hrx, rfl, rfl, rfl, fun _ => howed, fun h => absurd h hcls, hwls, hwk, hwf⟩

theorem dataFlit_ahead {v : Nat} (hc : s.lCarries l = true) (hg : flGood v = true) (ht : flType v = 1) (hseq : flSeq v ≠ (s.link l).rxNext)
    (hgap : (flSeq v + 256 - (s.link l).rxNext) % 256 < 128) : ∃ t, exec (.dataFlitRx l v) s = .next t ∧ (t.link l).rxNext = (s.link l).rxNext
      ∧ (t.link l).nakked = true ∧ ((s.link l).nakked = false → (t.link l).nak = true) ∧ s.keeps t [OZL_PMSTS l]
      ∧ { t with regs := s.regs, ozl := s.ozl } = s := by
  obtain ⟨hlink, -, hkeep, hframe⟩ := rxAck_spec l v s
  have hflit : dataFlit l v s = _ := rxFlit_of_good hc hg ht
  obtain ⟨u, hu⟩ : ∃ u, u = rxAck l v s := ⟨_, rfl⟩
  rw [← hu] at hlink hkeep hframe hflit
  have hnext : (u.link l).rxNext = (s.link l).rxNext := by rw [hlink, rxNext_acked]
  have hnak : (u.link l).nakked = (s.link l).nakked := by rw [hlink, nakked_acked]
  dsimp only at hflit
  rw [hnext, if_neg hseq, if_pos hgap] at hflit
  have hrl := rxNak_link l u
  refine ⟨_, congrArg Host.Outcome.next hflit, ?_, ?_, fun hno => ?_, keeps_of_regs hkeep rfl, linkOnly_trans hframe rfl⟩
  · rw [hrl]
    split
    · exact hnext
    · exact hnext
  · rw [hrl]
    split
    · next h => exact h
    · rfl
  · rw [hrl, if_neg (by simp [hnak, hno])]

theorem laneDownRx_of_bad {v : Nat} (hcar : s.lCarries l = true) (hg : flGood v = false) : laneDownRx l v s = rxNak l s := by
  unfold laneDownRx ctlFlit
  exact rxFlit_of_bad hcar hg

theorem laneReadyRx_of_bad {v : Nat} (hcar : s.lCarries l = true) (hg : flGood v = false) : laneReadyRx l v s = rxNak l s := by
  unfold laneReadyRx ctlFlit
  exact rxFlit_of_bad hcar hg

theorem flit_corrupt {v arr : Nat} {c : Instr} (hc : c ∈ [Instr.dataFlitRx l v, Instr.nakRx l v, Instr.idleFlitRx l v, Instr.timeFlitRx l v arr,
      Instr.timeTb0FlitRx l v, Instr.laneDownRx l v, Instr.laneReadyRx l v]) (hcar : s.lCarries l = true) (hg : flGood v = false) :
    exec c s = .next (rxNak l s) := by
  obtain rfl | rfl | rfl | rfl | rfl | rfl | rfl : c = .dataFlitRx l v ∨ c = .nakRx l v ∨ c = .idleFlitRx l v ∨ c = .timeFlitRx l v arr
    ∨ c = .timeTb0FlitRx l v ∨ c = .laneDownRx l v ∨ c = .laneReadyRx l v := by simpa using hc
  · exact congrArg Host.Outcome.next (show dataFlit l v s = _ from rxFlit_of_bad hcar hg)
  · exact congrArg Host.Outcome.next (show nakFlit l v s = _ from rxFlit_of_bad hcar hg)
  · exact congrArg Host.Outcome.next (show idleFlit l v s = _ from rxFlit_of_bad hcar hg)
  · exact congrArg Host.Outcome.next (show timeFlit l v arr s = _ from rxFlit_of_bad hcar hg)
  · exact congrArg Host.Outcome.next (show timeTb0Flit l v s = _ from rxFlit_of_bad hcar hg)
  · exact congrArg Host.Outcome.next (laneDownRx_of_bad hcar hg)
  · exact congrArg Host.Outcome.next (laneReadyRx_of_bad hcar hg)

/-! ### Sending again (R470) -/

theorem lst_setLst (s : State) (l : Nat) {n : Nat} (hl : l < 6) (hn : n < 16) : (s.setLst l n).lst l = n := by
  have hne : OZL_STS l ≠ OZL_GSTS := by unfold OZL_STS OZL_GSTS; omega
  exact (fld_setF_ne _ _ _ _ _ _ hne).trans ((fld_setF _ _ OZL_STS_LSTATE _ (by decide)).trans (Nat.mod_eq_of_lt hn))

theorem onlyRegs_setLst (s : State) (l n : Nat) : s.onlyRegs (s.setLst l n) [OZL_STS l, OZL_GSTS] :=
  onlyRegs_andWr (onlyRegs_andWr (onlyRegs_rfl s _) (by simp)) (by simp)

theorem tphase_setPhase (s : State) (l : Nat) {n : Nat} (hn : n < 8) : (s.setPhase l n).tphase l = n := by
  have h : (s.setPhase l n).fld (OZL_PEER l) OZL_PEER_TPHASE = 4 * n % 2 ^ 5 := fld_setF _ _ OZL_PEER_TPHASE _ (by decide)
  rw [State.tphase, h]
  omega

theorem linkRegs_ne (l : Nat) : OZL_PEER l ≠ OZL_STS l ∧ OZL_STS l ≠ OZL_GSTS ∧ OZL_PEER l ≠ OZL_GSTS ∧ OZL_RETRY_CNT l ≠ OZL_STS l ∧ OZL_RETRY_CNT l ≠ OZL_GSTS
    ∧ OZL_RETRY_CNT l ≠ OZL_PEER l ∧ OZL_RETRY_CNT l ≠ OZL_PMSTS l := by
  unfold OZL_PEER OZL_STS OZL_GSTS OZL_RETRY_CNT OZL_PMSTS
  omega

theorem link_lEvent (l c k : Nat) (s : State) : (lEvent l c s).link k = s.link k := rfl

/-- What the entry into RECOVERY leaves. -/
structure Recovering (l : Nat) (s t : State) : Prop where
  lst : t.lst l = lsRECOVERY
  phase : t.tphase l = 1
  link : t.link l = { s.link l with at_ := s.clock.now, resends := 0 }
  status : t.fld (OZL_STS l) OZL_STS_STATUS = E_OZL_RETRY_LIMIT
  bus : t.bus = { s.bus with reports := s.bus.reports ++ [⟨E_OZL_RETRY_LIMIT, false, islLink l, l⟩] }
  keeps : s.keeps t [OZL_STS l, OZL_GSTS, OZL_PEER l]
  frame : { t with regs := s.regs, ozl := s.ozl, bus := s.bus } = s

theorem recovering_toRecovery (hl : l < 6) (s : State) : Recovering l s (toRecovery l s) := by
  obtain ⟨hps, hsg, hpg, -⟩ := linkRegs_ne l
  obtain ⟨u, hu⟩ : ∃ u, u = (s.setLst l lsRECOVERY).setPhase l 1 := ⟨_, rfl⟩
  have hrec : toRecovery l s = lEvent l E_OZL_RETRY_LIMIT (u.modLink l fun x => { x with at_ := s.clock.now, resends := 0 }) := by
    rw [hu]
    rfl
  have hsu : s.onlyRegs u [OZL_STS l, OZL_GSTS, OZL_PEER l] := hu ▸ onlyRegs_trans (onlyRegs_setLst s l lsRECOVERY) (onlyRegs_setF ..) (by simp) (by simp)
  have hlst : u.lst l = lsRECOVERY := hu ▸ (fld_setF_ne _ _ _ _ _ _ hps.symm).trans (lst_setLst s l hl (by decide))
  have hphase : u.tphase l = 1 := hu ▸ tphase_setPhase _ _ (by decide)
  have heq := eq_of_onlyRegs hsu
  rw [hrec]
  refine ⟨?_, ?_, ?_, fld_status_of_lt _ _ (by decide), ?_, keeps_of_regs (keeps_status (keeps_setLink hsu.2) (by simp)) rfl, ?_⟩
  · exact (fld_setF_beside _ _ fSTATUS OZL_STS_LSTATE _ (by decide) (by decide) (by decide)).trans hlst
  · exact (congrArg (· / 4) (fld_status_ne _ _ _ hps)).trans hphase
  · rw [link_lEvent, link_modLink_same, heq]
    rfl
  · rw [heq]
    rfl
  · rw [heq]
    rfl

theorem ozlResend_eq (l : Nat) (s : State) : ozlResend l s = if 8 ≤ (s.link l).resends + 1
    then toRecovery l (s.setLink l { s.link l with resend := (s.link l).retry, resends := (s.link l).resends + 1 })
    else s.setLink l { s.link l with resend := (s.link l).retry, resends := (s.link l).resends + 1 } := rfl

theorem nakFlit_spec {v : Nat} (hl : l < 6) (hc : s.lCarries l = true) (hg : flGood v = true) (ht : flType v = 2) (hx : x = (rxAck l v s).link l) :
    ∃ t, exec (.nakRx l v) s = .next t
      ∧ (x.retry = [] → t.link l = x) ∧ (t.link l).retry = x.retry ∧ t.rdN (OZL_RETRY_CNT l) = min 0xFFFFFFFF (s.rdN (OZL_RETRY_CNT l) + 1)
      ∧ (x.retry ≠ [] → x.resends + 1 < 8 → t.link l = { x with resend := x.retry, resends := x.resends + 1 })
      ∧ (x.retry ≠ [] → 8 ≤ x.resends + 1 → t.lst l = lsRECOVERY ∧ t.tphase l = 1
          ∧ t.link l = { x with resend := x.retry, resends := 0, at_ := s.clock.now } ∧ t.fld (OZL_STS l) OZL_STS_STATUS = E_OZL_RETRY_LIMIT)
      ∧ (x.retry = [] ∨ x.resends + 1 < 8 → s.keeps t [OZL_PMSTS l, OZL_RETRY_CNT l] ∧ { t with regs := s.regs, ozl := s.ozl } = s) := by
  obtain ⟨-, -, hkeep, hframe⟩ := rxAck_spec l v s
  obtain ⟨hps, hsg, hpg, hrs, hrg, hrp, hrm⟩ := linkRegs_ne l
  have hflit : nakFlit l v s = _ := rxFlit_of_good hc hg ht
  obtain ⟨u, hu⟩ : ∃ u, u = rxAck l v s := ⟨_, rfl⟩
  rw [← hu] at hkeep hframe hflit hx
  rw [← hx, ozlResend_eq, ← hx] at hflit
  have hcnt {w : State} (hw : w.rd (OZL_RETRY_CNT l) = u.rd (OZL_RETRY_CNT l)) :
      (w.inc (OZL_RETRY_CNT l)).rdN (OZL_RETRY_CNT l) = min 0xFFFFFFFF (s.rdN (OZL_RETRY_CNT l) + 1) := by
    rw [rdN_inc, ← rdN_of_keeps hkeep (by simp [hrm]), State.rdN, hw]
    rfl
  by_cases hre : x.retry = []
  · rw [if_pos hre] at hflit
    exact ⟨_, congrArg Host.Outcome.next hflit, fun _ => hx.symm, congrArg OzlLink.retry hx.symm, hcnt rfl, fun h => absurd hre h, fun h => absurd hre h,
      fun _ => ⟨keeps_countUp (keeps_mono hkeep (by simp)) (by simp), linkOnly_trans hframe rfl⟩⟩
  · rw [if_neg hre] at hflit
    obtain ⟨w, hw⟩ : ∃ w, w = u.setLink l { x with resend := x.retry, resends := x.resends + 1 } := ⟨_, rfl⟩
    have hwl : w.link l = { x with resend := x.retry, resends := x.resends + 1 } := hw ▸ link_setLink_same ..
    rw [← hw] at hflit
    by_cases hlim : 8 ≤ x.resends + 1
    · rw [if_pos hlim] at hflit
      have hrec := recovering_toRecovery hl w
      have hclk : w.clock = s.clock := by
        rw [hw]
        exact clock_of_linkOnly hframe
      have htl : (toRecovery l w).link l = { x with resend := x.retry, resends := 0, at_ := s.clock.now } := by
        rw [hrec.link, hwl, hclk]
      have hrd : (toRecovery l w).rd (OZL_RETRY_CNT l) = u.rd (OZL_RETRY_CNT l) := by
        rw [hrec.keeps _ (by simp [hrs, hrg, hrp]), hw]
        rfl
      refine ⟨_, congrArg Host.Outcome.next hflit, fun h => absurd h hre, (congrArg OzlLink.retry htl :), hcnt hrd, fun _ h => absurd hlim (by omega),
        fun _ _ => ⟨?_, ?_, htl, ?_⟩, fun h => absurd h (by simp [hre, hlim])⟩
      · exact (fld_inc_ne _ _ _ _ hrs.symm).trans hrec.lst
      · exact (congrArg (· / 4) (fld_inc_ne _ _ _ _ hrp.symm)).trans hrec.phase
      · exact (fld_inc_ne _ _ _ _ hrs.symm).trans hrec.status
    · rw [if_neg hlim] at hflit
      have hwk : s.keeps w [OZL_PMSTS l] := hw ▸ keeps_setLink hkeep
      have hwf : linkOnly s w := hw ▸ linkOnly_trans hframe rfl
      exact ⟨_, congrArg Host.Outcome.next hflit, fun h => absurd h hre, (congrArg OzlLink.retry hwl :), hcnt (hw ▸ rfl), fun _ _ => hwl,
        fun _ h => absurd h hlim, fun _ => ⟨keeps_countUp (keeps_mono hwk (by simp)) (by simp), linkOnly_trans hwf rfl⟩⟩

theorem ackTimeout_eq (hc : s.lCarries l = true) (hre : (s.link l).retry ≠ []) (hlate : (s.link l).ackAt + 40000 ≤ s.clock.now) :
    ackTimeout l s = ozlResend l (s.setLink l { s.link l with ackAt := s.clock.now }) := if_pos ⟨hc, hre, hlate⟩

theorem ackTimeout_again (hc : s.lCarries l = true) (hre : (s.link l).retry ≠ []) (hlate : (s.link l).ackAt + 40000 ≤ s.clock.now)
    (hfew : (s.link l).resends + 1 < 8) : ∃ t, exec (.ackTimeout l) s = .next t
      ∧ t.link l = { s.link l with resend := (s.link l).retry, resends := (s.link l).resends + 1, ackAt := s.clock.now }
      ∧ t.regs = s.regs ∧ { t with ozl := s.ozl } = s := by
  have htime := ackTimeout_eq hc hre hlate
  rw [ozlResend_eq, link_setLink_same, if_neg (Nat.not_le.mpr hfew)] at htime
  exact ⟨_, congrArg Host.Outcome.next htime, link_setLink_same .., rfl, rfl⟩

theorem ackTimeout_recovery (hl : l < 6) (hc : s.lCarries l = true) (hre : (s.link l).retry ≠ []) (hlate : (s.link l).ackAt + 40000 ≤ s.clock.now)
    (hlim : 8 ≤ (s.link l).resends + 1) : ∃ t, exec (.ackTimeout l) s = .next t ∧ t.lst l = lsRECOVERY ∧ t.tphase l = 1
      ∧ (t.link l).resend = (s.link l).retry
      ∧ (t.link l).resends = 0 ∧ (t.link l).at_ = s.clock.now ∧ t.fld (OZL_STS l) OZL_STS_STATUS = E_OZL_RETRY_LIMIT
      ∧ t.bus = { s.bus with reports := s.bus.reports ++ [⟨E_OZL_RETRY_LIMIT, false, islLink l, l⟩] }
      ∧ s.keeps t [OZL_STS l, OZL_GSTS, OZL_PEER l] ∧ { t with regs := s.regs, ozl := s.ozl, bus := s.bus } = s := by
  have htime := ackTimeout_eq hc hre hlate
  rw [ozlResend_eq, link_setLink_same, if_pos hlim] at htime
  obtain ⟨w, hw⟩ : ∃ w : State, w = (s.setLink l { s.link l with ackAt := s.clock.now }).setLink l
    { s.link l with ackAt := s.clock.now, resend := (s.link l).retry, resends := (s.link l).resends + 1 } := ⟨_, rfl⟩
  have hwl : (w.link l).resend = (s.link l).retry := by rw [hw, link_setLink_same]
  have hwf : w = { s with ozl := w.ozl } := hw ▸ rfl
  have htime : ackTimeout l s = toRecovery l w := hw ▸ htime
  have hrec := recovering_toRecovery hl w
  refine ⟨_, congrArg Host.Outcome.next htime, hrec.lst, hrec.phase, ?_, ?_, ?_, hrec.status, ?_, ?_, ?_⟩
  · rw [hrec.link]
    exact hwl
  · rw [hrec.link]
  · rw [hrec.link, hwf]
  · rw [hrec.bus, hwf]
  · exact keeps_trans (keeps_of_regs (keeps_rfl s []) (by rw [hwf])) hrec.keeps (by simp) (List.Subset.refl _)
  · exact (congrArg (fun x : State => { x with regs := s.regs, ozl := s.ozl, bus := s.bus }) hrec.frame).trans (by rw [hwf])

/-! ### Time messages (R454, R468) -/

/-- The round trip that a TIME flit makes. -/
def tripOf (v arr : Nat) (x : OzlLink) : Option OzlTrip :=
  if bits (flPay v) 199 192 = x.mseq ∧ x.timeAt ≠ 0 then
    some ⟨diff51 (bits (flPay v) 140 90) x.txTs, diff51 arr (bits (flPay v) 191 141), bits (flPay v) 191 141 / 8,
      sgn 32 (bits (flPay v) 89 58), bits (flPay v) 57 55, bits (flPay v) 207 200, none⟩
  else none

theorem timeFlit_eq {v arr : Nat} (hc : s.lCarries l = true) (hg : flGood v = true) (ht : flType v = 3) : timeFlit l v arr s
    = (rxAck l v s).setLink l { (rxAck l v s).link l with
        peerSeq := bits (flPay v) 207 200, peerAt := arr % 2 ^ 51, trip := tripOf v arr ((rxAck l v s).link l) } := by
  unfold timeFlit
  rw [rxFlit_of_good hc hg ht]
  rfl

theorem timeFlit_spec {v arr : Nat} (hc : s.lCarries l = true) (hg : flGood v = true) (ht : flType v = 3) :
    ∃ t, exec (.timeFlitRx l v arr) s = .next t
      ∧ (t.link l).peerSeq = bits (flPay v) 207 200 ∧ (t.link l).peerAt = arr % 2 ^ 51
      ∧ (bits (flPay v) 199 192 = (s.link l).mseq → (s.link l).timeAt ≠ 0 → (t.link l).trip
          = some ⟨diff51 (bits (flPay v) 140 90) (s.link l).txTs, diff51 arr (bits (flPay v) 191 141), bits (flPay v) 191 141 / 8,
              sgn 32 (bits (flPay v) 89 58), bits (flPay v) 57 55, bits (flPay v) 207 200, none⟩)
      ∧ (bits (flPay v) 199 192 ≠ (s.link l).mseq → (t.link l).trip = none) ∧ s.keeps t [OZL_PMSTS l] ∧ { t with regs := s.regs, ozl := s.ozl } = s := by
  obtain ⟨hlink, -, hkeep, hframe⟩ := rxAck_spec l v s
  have hflit := timeFlit_eq (arr := arr) hc hg ht
  obtain ⟨u, hu⟩ : ∃ u, u = rxAck l v s := ⟨_, rfl⟩
  rw [← hu] at hlink hkeep hframe hflit
  obtain ⟨hm, ha, htx⟩ := timeOf_acked v s.clock.now (s.link l)
  refine ⟨_, congrArg Host.Outcome.next hflit, ?_⟩
  rw [link_setLink_same, ← hm, ← ha, ← htx, ← hlink]
  exact ⟨rfl, rfl, fun h1 h2 => if_pos ⟨h1, h2⟩, fun h => if_neg fun h' => h h'.1, keeps_setLink hkeep, linkOnly_trans hframe (linkOnly_setLink ..)⟩

/-- The TB0 value of a TIME_TB0 flit in 2⁻¹⁶ ns. -/
def tb0Of (v : Nat) : Nat := (bits (flPay v) 199 152 * 10 ^ 9 + bits (flPay v) 151 120) * 65536 + bits (flPay v) 119 104

theorem timeTb0Flit_spec {v : Nat} {r : OzlTrip} (hc : s.lCarries l = true) (hg : flGood v = true) (ht : flType v = 4)
    (htrip : (s.link l).trip = some r) (hseq : r.mseq = bits (flPay v) 207 200) : ∃ t, exec (.timeTb0FlitRx l v) s = .next t
      ∧ (t.link l).trip = some { r with tb0 := some (tb0Of v) } ∧ s.keeps t [OZL_PMSTS l] ∧ { t with regs := s.regs, ozl := s.ozl } = s := by
  obtain ⟨hlink, -, hkeep, hframe⟩ := rxAck_spec l v s
  have hflit : timeTb0Flit l v s = (rxAck l v s).modLink l fun x =>
      { x with trip := x.trip.map fun t => if t.mseq = bits (flPay v) 207 200 then { t with tb0 := some (tb0Of v) } else t } := by
    unfold timeTb0Flit
    rw [rxFlit_of_good hc hg ht]
    rfl
  obtain ⟨u, hu⟩ : ∃ u, u = rxAck l v s := ⟨_, rfl⟩
  rw [← hu] at hlink hkeep hframe hflit
  have htu : (u.link l).trip = some r := by rw [hlink, trip_acked, htrip]
  refine ⟨_, congrArg Host.Outcome.next hflit, ?_, keeps_of_regs hkeep rfl, linkOnly_trans hframe rfl⟩
  rw [link_modLink_same, htu]
  exact congrArg some (if_pos hseq)

theorem linkTimeTx_spec (hc : s.lCarries l = true) (hrun : s.tb1Run = true) (htx : s.fld (OZL_PMSTS l) OZL_PMSTS_TX_LS ≠ 2)
    (hrx : s.fld (OZL_PMSTS l) OZL_PMSTS_RX_LS ≠ 2) (hlate : (s.link l).timeAt + 20000000 ≤ s.clock.now) : ∃ t, exec (.linkTimeTx l) s = .next t
      ∧ t.link l = { s.link l with timeAt := s.clock.now, timeAsk := true } ∧ t.regs = s.regs ∧ { t with ozl := s.ozl } = s :=
  ⟨_, congrArg Host.Outcome.next (if_pos ⟨hc, hrun, htx, hrx, hlate⟩), link_setLink_same .., rfl, rfl⟩

/-- The round trips of a link. -/
def tripsSet (l : Nat) (ts : List (Int × Int)) (s : State) : State :=
  s.modStay fun y => { y with lnks := tput y.lnks l { tget s.stay.lnks l with trips := ts } }

/-- Offset and delay of a link, from its round trips. -/
def offsetShown (l : Nat) (ts : List (Int × Int)) (s : State) : State :=
  ((s.wrN (STAY_LNK_OFF l) (unsgn 32 (mean (ts.map (·.1))))).wrN (STAY_LNK_DLY l) (unsgn 32 (mean (ts.map (·.2))))).setF
    (STAY_LNK_STS l) STAY_LNK_STS_VALID 1

theorem lnkRegs_ne (l : Nat) : STAY_LNK_OFF l ≠ STAY_LNK_DLY l ∧ STAY_LNK_OFF l ≠ STAY_LNK_STS l ∧ STAY_LNK_DLY l ≠ STAY_LNK_STS l := by
  unfold STAY_LNK_OFF STAY_LNK_DLY STAY_LNK_STS
  omega

theorem stayCtl_ne (l : Nat) : STAY_CTL ≠ STAY_LNK_OFF l ∧ STAY_CTL ≠ STAY_LNK_DLY l ∧ STAY_CTL ≠ STAY_LNK_STS l := by
  unfold STAY_CTL STAY_LNK_OFF STAY_LNK_DLY STAY_LNK_STS
  omega

theorem offsetShown_spec (l : Nat) (ts : List (Int × Int)) (s : State) :
    (offsetShown l ts s).rdN (STAY_LNK_OFF l) = unsgn 32 (mean (ts.map (·.1)))
      ∧ (offsetShown l ts s).rdN (STAY_LNK_DLY l) = unsgn 32 (mean (ts.map (·.2)))
      ∧ (offsetShown l ts s).fld (STAY_LNK_STS l) STAY_LNK_STS_VALID = 1
      ∧ s.onlyRegs (offsetShown l ts s) [STAY_LNK_OFF l, STAY_LNK_DLY l, STAY_LNK_STS l] := by
  obtain ⟨hod, hos, hds⟩ := lnkRegs_ne l
  exact ⟨(rdN_setF_ne _ _ _ _ _ hos).trans ((rdN_wrN_ne _ _ _ _ hod).trans (rdN_wrN_unsgn ..)), (rdN_setF_ne _ _ _ _ _ hds).trans (rdN_wrN_unsgn ..),
    fld_setF _ _ STAY_LNK_STS_VALID _ (by decide), onlyRegs_andWr (onlyRegs_andWr (onlyRegs_andWr (onlyRegs_rfl s _) (by simp)) (by simp)) (by simp)⟩

/-- A round trip on a link that is not the source of TB0. -/
theorem linkTimeRx_eq {out back rate : Int} {tb0 at_ sst : Nat} {ts : List (Int × Int)}
    (hts : ts = (tget s.stay.lnks l).trips ++ [((out - back) * 25 / 8, (out + back) * 25 / 8)]) (hlen : ts.length ≤ 16)
    (hsrc : s.staySrc ≠ 2 + l) (hthr : s.fld STAY_CTL STAY_CTL_LNK_THR = 0) : linkTimeRx l 0 out 0 back tb0 at_ rate sst s
      = if ts.length < 16 then tripsSet l ts s else offsetShown l ts (tripsSet l ts s) := by
  have hdrop : (ts.drop (ts.length - 16)) = ts := by rw [Nat.sub_eq_zero_of_le hlen, List.drop_zero]
  have hpair : ((tget s.stay.lnks l).trips ++ [((out - 0 - (back - 0)) * 25 / 8, (out - 0 + (back - 0)) * 25 / 8)]) = ts := by
    rw [hts, Int.sub_zero, Int.sub_zero]
  obtain ⟨-, -, -, honly⟩ := offsetShown_spec l ts (tripsSet l ts s)
  obtain ⟨hco, hcd, hcs⟩ := stayCtl_ne l
  have hctl (f : Fld) : (offsetShown l ts (tripsSet l ts s)).fld STAY_CTL f = s.fld STAY_CTL f := fld_of_onlyRegs honly (by simp [hco, hcd, hcs]) f
  unfold linkTimeRx
  dsimp only
  rw [hpair, hdrop]
  by_cases h : ts.length < 16
  · rw [if_pos h, if_pos h]
    exact if_pos (.inl hsrc)
  · rw [if_neg h, if_neg h, ← tripsSet]
    have hthr' : (offsetShown l ts (tripsSet l ts s)).fld STAY_CTL STAY_CTL_LNK_THR = 0 := (hctl _).trans hthr
    rw [← offsetShown, hthr', if_neg (c := (0 : Nat) ≠ 0 ∧ _) fun h => h.1 rfl]
    exact if_pos (.inl fun h => hsrc ((hctl _).symm.trans h))

theorem linkTimeTake_spec {r : OzlTrip} {b : Nat} {ts : List (Int × Int)} (htrip : (s.link l).trip = some r) (htb0 : r.tb0 = some b)
    (hsrc : s.staySrc ≠ 2 + l) (hts : ts = (tget s.stay.lnks l).trips ++ [((r.out - r.back) * 25 / 8, (r.out + r.back) * 25 / 8)])
    (hlen : ts.length ≤ 16) (hthr : s.fld STAY_CTL STAY_CTL_LNK_THR = 0) :
    ∃ t, exec (.linkTimeRx l) s = .next t ∧ (t.link l).trip = none ∧ (tget t.stay.lnks l).trips = ts ∧ (ts.length < 16 → t.regs = s.regs)
      ∧ (ts.length = 16 → t.rdN (STAY_LNK_OFF l) = unsgn 32 (mean (ts.map (·.1))) ∧ t.rdN (STAY_LNK_DLY l) = unsgn 32 (mean (ts.map (·.2)))
          ∧ t.fld (STAY_LNK_STS l) STAY_LNK_STS_VALID = 1)
      ∧ s.keeps t [STAY_LNK_OFF l, STAY_LNK_DLY l, STAY_LNK_STS l] ∧ { t with regs := s.regs, ozl := s.ozl, stay := s.stay } = s := by
  obtain ⟨v, hv⟩ : ∃ v, v = s.modLink l fun x => { x with trip := none } := ⟨_, rfl⟩
  have hvl : (v.link l).trip = none := by rw [hv, link_modLink_same]
  have hvs : v = { s with ozl := v.ozl } := hv ▸ rfl
  have hvstay : v.stay = s.stay := by rw [hvs]
  have hvfld (a : Nat) (f : Fld) : v.fld a f = s.fld a f := by rw [hv]; rfl
  have htake : linkTimeTake l s = if ts.length < 16 then tripsSet l ts v else offsetShown l ts (tripsSet l ts v) := by
    have hnear (n : Nat) : s.near48 n = v.near48 n := by rw [hv]; rfl
    have h := linkTimeRx_eq (s := v) (l := l) (tb0 := b) (at_ := s.near48 r.tb1) (rate := r.rate) (sst := r.sst) (by rw [hvstay]; exact hts) hlen
      (by rw [State.staySrc, hvfld]; exact hsrc) (by rw [hvfld]; exact hthr)
    rw [← h, linkTimeTake, htrip]
    dsimp only
    rw [htb0, hv]
  have hset : (tget (tripsSet l ts v).stay.lnks l).trips = ts := congrArg LnkTime.trips (tget_tput_same v.stay.lnks l _)
  have hsk : s.keeps (tripsSet l ts v) [] := keeps_modStay (keeps_of_regs (keeps_rfl s _) (by rw [hvs]))
  by_cases h : ts.length < 16
  · rw [if_pos h] at htake
    refine ⟨_, congrArg Host.Outcome.next htake, hvl, hset, fun _ => ?_, fun h' => absurd h (by omega), keeps_mono hsk (by simp), ?_⟩
    · show v.regs = s.regs
      rw [hvs]
    · show { v with regs := s.regs, ozl := s.ozl, stay := s.stay } = s
      rw [hvs]
  · rw [if_neg h] at htake
    obtain ⟨hoff, hdly, hvalid, honly⟩ := offsetShown_spec l ts (tripsSet l ts v)
    have heq := eq_of_onlyRegs honly
    refine ⟨_, congrArg Host.Outcome.next htake, ?_, ?_, fun h' => absurd h' h, fun _ => ⟨hoff, hdly, hvalid⟩,
      keeps_trans hsk honly.2 (by simp) (List.Subset.refl _), ?_⟩
    · rw [heq]
      exact hvl
    · rw [heq]
      exact hset
    · rw [heq]
      show { v with regs := s.regs, ozl := s.ozl, stay := s.stay } = s
      rw [hvs]


/-! ### Sleep and its answer (R482, R483) -/

theorem ctlFlit_of_good {cmd v : Nat} {f : Nat → State → State} (hc : s.lCarries l = true) (hg : flGood v = true) (ht : flType v = 5)
    (hcmd : bits (flPay v) 207 204 = cmd) : ctlFlit l cmd v f s = f (bits (flPay v) 203 200) (rxAck l v s) :=
  (rxFlit_of_good hc hg ht).trans (if_pos hcmd)

/-- Time messages stop once one direction sleeps in LS2; nothing else of the state moves. -/
theorem ls2Check_spec (l : Nat) (s : State) : (ls2Check l s).link l = s.link l ∧ s.keeps (ls2Check l s) [STAY_LNK_STS l] ∧ linkOnly s (ls2Check l s)
    ∧ (s.fld (OZL_PMSTS l) OZL_PMSTS_TX_LS = 2 ∨ s.fld (OZL_PMSTS l) OZL_PMSTS_RX_LS = 2 →
        (ls2Check l s).fld (STAY_LNK_STS l) STAY_LNK_STS_VALID = 0) := by
  unfold ls2Check
  split
  next => exact ⟨rfl, keeps_setF (keeps_rfl s _) (by simp), rfl, fun _ => fld_setF _ _ STAY_LNK_STS_VALID _ (by decide)⟩
  next h => exact ⟨rfl, keeps_rfl s _, rfl, fun hls => absurd hls h⟩

theorem pmsts_notMem (l : Nat) (hl : l < 6) : OZL_PMSTS l ∉ [STAY_LNK_STS l] := by
  simp only [List.mem_singleton]
  unfold OZL_PMSTS STAY_LNK_STS
  omega

theorem lsEnter_spec {v a : Nat} (hl : l < 6) (hc : s.lCarries l = true) (hg : flGood v = true) (ht : flType v = 5)
    (hcmd : bits (flPay v) 207 204 = 3) (harg : bits (flPay v) 203 200 = a) (ha : a < 3) : ∃ t, exec (.lsEnterRx l v) s = .next t
      ∧ t.fld (OZL_PMSTS l) OZL_PMSTS_RX_LS = a ∧ (t.link l).ctl = ((rxAck l v s).link l).ctl ++ [4 * 2 ^ 204 + a * 2 ^ 200]
      ∧ (a = 2 → t.fld (STAY_LNK_STS l) STAY_LNK_STS_VALID = 0) ∧ s.keeps t [OZL_PMSTS l, STAY_LNK_STS l]
      ∧ { t with regs := s.regs, ozl := s.ozl } = s := by
  obtain ⟨-, -, hkeep, hframe⟩ := rxAck_spec l v s
  obtain ⟨u, hu⟩ : ∃ u, u = sendCtl l 4 a ((rxAck l v s).setF (OZL_PMSTS l) OZL_PMSTS_RX_LS a) := ⟨_, rfl⟩
  have henter : exec (.lsEnterRx l v) s = .next (ls2Check l u) := by
    rw [hu, ← harg]
    exact congrArg (fun w => Host.Outcome.next (ls2Check l w)) (ctlFlit_of_good hc hg ht hcmd)
  obtain ⟨hlink, hkeep', hframe', hvalid⟩ := ls2Check_spec l u
  have hrx : u.fld (OZL_PMSTS l) OZL_PMSTS_RX_LS = a :=
    hu ▸ (fld_setF (rxAck l v s) (OZL_PMSTS l) OZL_PMSTS_RX_LS a (by decide)).trans (Nat.mod_eq_of_lt (Nat.lt_trans ha (by decide)))
  have hctl : (u.link l).ctl = ((rxAck l v s).link l).ctl ++ [4 * 2 ^ 204 + a * 2 ^ 200] := by
    rw [hu, sendCtl, link_modLink_same, link_setF]
  have hsu : s.keeps u [OZL_PMSTS l] := hu ▸ keeps_of_regs (keeps_setF (n := a) (f := OZL_PMSTS_RX_LS) hkeep (by simp)) rfl
  exact ⟨_, henter, (fld_of_keeps hkeep' (pmsts_notMem l hl) _).trans hrx, hlink ▸ hctl, fun h => hvalid (.inr (hrx.trans h)),
    keeps_trans hsu hkeep' (by simp) (by simp), linkOnly_trans (linkOnly_trans hframe (hu ▸ rfl)) hframe'⟩

theorem lsAckRx_spec {v a : Nat} (hl : l < 6) (hc : s.lCarries l = true) (hg : flGood v = true) (ht : flType v = 5)
    (hcmd : bits (flPay v) 207 204 = 4) (harg : bits (flPay v) 203 200 = a) (hask : (s.link l).lsAsk = a) (hpos : 0 < a) (ha : a < 3) :
    ∃ t, exec (.lsAckRx l v) s = .next t ∧ t.fld (OZL_PMSTS l) OZL_PMSTS_TX_LS = a ∧ (t.link l).lsAsk = 0 ∧ (t.link l).lsAt = 0
      ∧ (a = 2 → t.fld (STAY_LNK_STS l) STAY_LNK_STS_VALID = 0) ∧ s.keeps t [OZL_PMSTS l, STAY_LNK_STS l]
      ∧ { t with regs := s.regs, ozl := s.ozl } = s := by
  obtain ⟨hlink, -, hkeep, hframe⟩ := rxAck_spec l v s
  have hask' : ((rxAck l v s).link l).lsAsk = a := by rw [hlink, lsAsk_acked, hask]
  obtain ⟨u, hu⟩ : ∃ u, u = ((rxAck l v s).modLink l fun x => { x with lsAsk := 0, lsAt := 0 }).setF (OZL_PMSTS l) OZL_PMSTS_TX_LS a := ⟨_, rfl⟩
  have hack : exec (.lsAckRx l v) s = .next (ls2Check l u) := by
    have h := ctlFlit_of_good (f := fun a s => if (s.link l).lsAsk = a ∧ a ≠ 0 then
      (s.modLink l fun x => { x with lsAsk := 0, lsAt := 0 }).setF (OZL_PMSTS l) OZL_PMSTS_TX_LS a else s) hc hg ht hcmd
    rw [harg, if_pos ⟨hask', Nat.ne_of_gt hpos⟩, ← hu] at h
    exact congrArg (fun w => Host.Outcome.next (ls2Check l w)) h
  obtain ⟨hlink', hkeep', hframe', hvalid⟩ := ls2Check_spec l u
  have htx : u.fld (OZL_PMSTS l) OZL_PMSTS_TX_LS = a :=
    hu ▸ (fld_setF _ (OZL_PMSTS l) OZL_PMSTS_TX_LS a (by decide)).trans (Nat.mod_eq_of_lt (Nat.lt_trans ha (by decide)))
  have hul : (u.link l).lsAsk = 0 ∧ (u.link l).lsAt = 0 := by
    rw [hu, link_setF, link_modLink_same]
    exact ⟨rfl, rfl⟩
  have hsu : s.keeps u [OZL_PMSTS l] := hu ▸ keeps_setF (keeps_of_regs hkeep rfl) (by simp)
  exact ⟨_, hack, (fld_of_keeps hkeep' (pmsts_notMem l hl) _).trans htx, hlink' ▸ hul.1, hlink' ▸ hul.2, fun h => hvalid (.inl (htx.trans h)),
    keeps_trans hsu hkeep' (by simp) (by simp), linkOnly_trans (linkOnly_trans hframe (hu ▸ rfl)) hframe'⟩

/-! ### What waits too long (R473) -/

/-- A transfer whose flit was dropped ends, where the flit was one of a transfer. -/
def transferEnded (d : Option (Nat × Nat × Nat × Nat)) (s : State) : State :=
  match d with
  | some d => dmaTraceDrop d.2.1 d.2.2.1 s
  | none => s

theorem traceTimeout_spec (hx : (s.link l).txq.find? (fun t => t.cls == 4) = some y) (hcr : tget (s.link l).credits 4 = 0)
    (hlate : max y.at_ (s.link l).dry + 200000 < s.clock.now) : ∃ t, exec (.traceCreditTimeout l) s = .next t
      ∧ (t.link l).txq = (s.link l).txq.erase y ∧ t.rdN (OZL_TRACE_DROP_CNT l) = min 0xFFFFFFFF (s.rdN (OZL_TRACE_DROP_CNT l) + 1) := by
  obtain ⟨r, hr⟩ : ∃ r, r = cutDebt 4 ((s.link l).aloft 4) (s.link l).debts := ⟨_, rfl⟩
  obtain ⟨u, hu⟩ : ∃ u, u = (s.setLink l { s.link l with txq := (s.link l).txq.erase y, debts := r.2 }).inc (OZL_TRACE_DROP_CNT l) := ⟨_, rfl⟩
  have hdrop : traceTimeout l s = transferEnded r.1 u := by
    unfold traceTimeout
    dsimp only
    rw [hx]
    dsimp only
    rw [if_pos ⟨hcr, hlate⟩, ← hr, ← hu]
    rfl
  have hul : (u.link l).txq = (s.link l).txq.erase y := by
    rw [hu, link_inc, link_setLink_same]
  have hcnt : u.rdN (OZL_TRACE_DROP_CNT l) = min 0xFFFFFFFF (s.rdN (OZL_TRACE_DROP_CNT l) + 1) := hu ▸ rdN_inc ..
  refine ⟨_, congrArg Host.Outcome.next hdrop, ?_⟩
  unfold transferEnded
  split
  · exact ⟨hul, hcnt⟩
  · exact ⟨hul, hcnt⟩

theorem fbStale_spec (hcopies : ∀ c ∈ s.cnv.copies, c.link ≠ l) (hout : ∀ m ∈ s.dec.out, m.link ≠ l)
    (hx : (s.link l).txq.find? (fun t => t.cls == 0 && decide (t.at_ + 512 ≤ s.clock.now)) = some y) : ∃ t, exec (.fbQueueStale l) s = .next t
      ∧ t.link l = { s.link l with txq := (s.link l).txq.filter fun u => u.cls != 0 || u.item != y.item, debts := (t.link l).debts }
      ∧ t.rdN (OZL_FB_STALE_CNT l) = min 0xFFFFFFFF (s.rdN (OZL_FB_STALE_CNT l) + 1) ∧ s.keeps t [OZL_FB_STALE_CNT l]
      ∧ { t with regs := s.regs, ozl := s.ozl } = s := by
  have hfeed : ozlFeed l s = s := if_pos ⟨List.filter_eq_nil_iff.2 fun c hc => by simpa using hcopies c hc,
    List.filter_eq_nil_iff.2 fun m hm => by simpa using hout m hm⟩
  have hgone : (fun u : OzlTx => !(u.cls == 0 && u.item == y.item)) = fun u => u.cls != 0 || u.item != y.item :=
    funext fun u => Bool.not_and _ _
  have hstale : ∃ ds, fbStale l s
      = (s.setLink l { s.link l with txq := (s.link l).txq.filter fun u => u.cls != 0 || u.item != y.item, debts := ds }).inc (OZL_FB_STALE_CNT l) := by
    unfold fbStale
    dsimp only
    rw [hfeed, show 32 * ft = 512 from rfl, hx]
    dsimp only
    rw [hgone]
    exact ⟨_, rfl⟩
  obtain ⟨ds, hds⟩ := hstale
  refine ⟨_, congrArg Host.Outcome.next hds, ?_, rdN_inc .., keeps_countUp (keeps_setLink (keeps_rfl s _)) (by simp), rfl⟩
  rw [link_inc, link_setLink_same]

/-! ### The blocks of a flit (R462, R463) -/

/-- Between `s` and `t` nothing left on the lanes of `is`; the map and the turn of the lanes are the same. -/
def quiet (l : Nat) (is : List Nat) (s t : State) : Prop := t.regs = s.regs ∧ (t.link l).rr = (s.link l).rr
  ∧ ∀ i ∈ is, tget (t.link l).wire i = tget (s.link l).wire i ∧ tget (t.link l).scr i = tget (s.link l).scr i

theorem trainLane_quiet {is : List Nat} (hi : i ∉ is) (s : State) : quiet l is s (trainLane l i s)
    ∧ ((trainLane l i s).link l).rows = (s.link l).rows := by
  have htrain : ∃ (w : Nat) (u : State), u.regs = s.regs ∧ u.ozl = s.ozl
      ∧ trainLane l i s = u.modLink l fun x => { x with wire := tput x.wire i (tget x.wire i ++ [w]) } := by
    unfold trainLane
    dsimp only
    refine ⟨_, _, ?_, ?_, rfl⟩ <;> cases (s.fld (OZL_PEER l) OZL_PEER_TPHASE / 4 == 3) <;> rfl
  obtain ⟨w, u, hregs, hozl, htrain⟩ := htrain
  have hlink : (trainLane l i s).link l = { s.link l with wire := tput (s.link l).wire i (tget (s.link l).wire i ++ [w]) } := by
    rw [htrain, link_modLink_same, State.link, hozl]
    rfl
  rw [quiet, hlink]
  refine ⟨⟨htrain ▸ hregs, rfl, fun k hk => ⟨?_, rfl⟩⟩, rfl⟩
  exact (tget_tput ..).trans (if_neg fun hki : k = i => hi (hki ▸ hk))

theorem quiet_trans {is : List Nat} (h : quiet l is s t) (k : quiet l is t u) : quiet l is s u :=
  ⟨k.1.trans h.1, k.2.1.trans h.2.1, fun i hi => ⟨(k.2.2 i hi).1.trans (h.2.2 i hi).1, (k.2.2 i hi).2.trans (h.2.2 i hi).2⟩⟩

theorem trainRow_quiet {is js : List Nat} (hjs : ∀ j ∈ js, j ∉ is) (s : State) : quiet l is s (trainRow l js s)
    ∧ ((trainRow l js s).link l).rows = (s.link l).rows := by
  unfold trainRow
  split
  next => exact ⟨⟨rfl, rfl, fun _ _ => ⟨rfl, rfl⟩⟩, rfl⟩
  next =>
    have hlanes : quiet l is s (forEach js s fun i s => trainLane l i s)
        ∧ ((forEach js s fun i s => trainLane l i s).link l).rows = (s.link l).rows :=
      forEach_induct (P := fun t => quiet l is s t ∧ (t.link l).rows = (s.link l).rows) ⟨⟨rfl, rfl, fun _ _ => ⟨rfl, rfl⟩⟩, rfl⟩
        fun j hj t ht => ⟨quiet_trans ht.1 (trainLane_quiet (hjs j hj) t).1, (trainLane_quiet (hjs j hj) t).2.trans ht.2⟩
    refine ⟨quiet_trans hlanes.1 ⟨rfl, ?_⟩, ?_⟩ <;> rw [link_modLink_same]
    · exact ⟨rfl, fun _ _ => ⟨rfl, rfl⟩⟩
    · exact hlanes.2

/-- A row that begins with no AM due. -/
theorem rowStart_quiet (hrows : (s.link l).rows ≠ 16383) : quiet l (laneList (s.txMap l)) s (rowStart l s)
    ∧ ((rowStart l s).link l).rows = (s.link l).rows + 1 := by
  obtain ⟨u, hu⟩ : ∃ u, u = trainRow l ((List.range 4).filter fun i => !(laneList (s.txMap l)).contains i && s.lane l i == lnTRAINING) s := ⟨_, rfl⟩
  have hrow : rowStart l s = u.modLink l fun x => { x with rows := x.rows + 1 } := by
    unfold rowStart
    dsimp only
    rw [when_of_false s (by simp [hrows]), ← hu]
  have htrain := trainRow_quiet (l := l) (is := laneList (s.txMap l))
    (js := (List.range 4).filter fun i => !(laneList (s.txMap l)).contains i && s.lane l i == lnTRAINING) (by simp +contextual) s
  rw [← hu] at htrain
  rw [hrow]
  refine ⟨quiet_trans htrain.1 ⟨rfl, ?_⟩, ?_⟩ <;> rw [link_modLink_same]
  · exact ⟨rfl, fun _ _ => ⟨rfl, rfl⟩⟩
  · exact congrArg (· + 1) htrain.2

/-- Block `j` of a flit, over the lanes `is` of the map. -/
def blockOut (is : List Nat) (l f j : Nat) (s : State) : State :=
  let p := (s.link l).rr % is.length
  let s := s.when (p == 0) (rowStart l)
  (laneBlock l (is.getD p 0) 1 (bits f (64 * j + 63) (64 * j)) s).modLink l fun x => { x with rr := (p + 1) % is.length }

theorem forEach_range_four (f : Nat → State → State) (s : State) : forEach (List.range 4) s f = f 3 (f 2 (f 1 (f 0 s))) := rfl

theorem flitBlocks_eq {is : List Nat} (his : laneList (s.txMap l) = is) (f : Nat) :
    flitBlocks l f s = blockOut is l f 3 (blockOut is l f 2 (blockOut is l f 1 (blockOut is l f 0 s))) :=
  his ▸ forEach_range_four (blockOut (laneList (s.txMap l)) l f) s

/-- A block as it leaves on lane `i`. -/
def blockOn (s : State) (l f j i : Nat) : Nat :=
  2 ^ 64 + scramble ((tget (s.link l).scr i).getD (Config.scrSeed (4 * l + i)).toNat) (bits f (64 * j + 63) (64 * j))

/-- Block `j` of a flit leaves on lane `i`, at turn `p` of the lanes `is`: the others keep theirs. -/
structure BlockSent (is : List Nat) (l f j i p : Nat) (s t : State) : Prop where
  map : laneList (t.txMap l) = is
  rr : (t.link l).rr = (p + 1) % is.length
  rows : (t.link l).rows = (s.link l).rows + if p = 0 then 1 else 0
  wire : tget (t.link l).wire i = tget (s.link l).wire i ++ [blockOn s l f j i]
  rest : ∀ k ∈ is, k ≠ i → tget (t.link l).wire k = tget (s.link l).wire k ∧ tget (t.link l).scr k = tget (s.link l).scr k

theorem txMap_of_regs (h : t.regs = s.regs) : t.txMap l = s.txMap l := by
  unfold State.txMap State.fld State.rd
  rw [h]

theorem blockOut_sent {f j i p : Nat} {is : List Nat} (his : laneList (s.txMap l) = is) (hp : (s.link l).rr = p) (hi : is[p]? = some i)
    (hrows : p = 0 → (s.link l).rows ≠ 16383) : BlockSent is l f j i p s (blockOut is l f j s) := by
  have hmem : i ∈ is := List.mem_of_getElem? hi
  have hget : is.getD p 0 = i := by rw [List.getD_eq_getElem?_getD, hi, Option.getD_some]
  obtain ⟨u, hu⟩ : ∃ u, u = s.when (p == 0) (rowStart l) := ⟨_, rfl⟩
  have hpre : quiet l is s u ∧ (u.link l).rows = (s.link l).rows + if p = 0 then 1 else 0 := by
    by_cases h0 : p = 0
    · rw [hu, when_of_true s (by simp [h0]), if_pos h0, ← his]
      exact rowStart_quiet (hrows h0)
    · rw [hu, when_of_false s (by simp [h0]), if_neg h0]
      exact ⟨⟨rfl, rfl, fun _ _ => ⟨rfl, rfl⟩⟩, rfl⟩
  obtain ⟨⟨hregs, -, hlanes⟩, hrow⟩ := hpre
  obtain ⟨hwire, hscr⟩ := hlanes i hmem
  have hsent : blockOn s l f j i
      = 1 * 2 ^ 64 + scramble ((tget (u.link l).scr i).getD (Config.scrSeed (4 * l + i)).toNat) (bits f (64 * j + 63) (64 * j)) := by
    rw [hscr, Nat.one_mul]
    rfl
  unfold blockOut
  dsimp only
  rw [hp, Nat.mod_eq_of_lt (List.getElem?_eq_some_iff.1 hi).1, hget, ← hu]
  refine ⟨?_, ?_, ?_, ?_, fun k hk hne => ?_⟩
  · exact (congrArg laneList (txMap_of_regs hregs)).trans his
  all_goals rw [link_modLink_same, laneBlock, link_modLink_same]
  · exact hrow
  · exact (tget_tput_same ..).trans (by rw [hwire, hsent])
  · dsimp only
    rw [tget_tput, if_neg hne, tget_tput, if_neg hne]
    exact hlanes k hk

theorem blockOn_of_scr {f j i : Nat} (h : tget (t.link l).scr i = tget (s.link l).scr i) : blockOn t l f j i = blockOn s l f j i := by
  unfold blockOn
  rw [h]

/-- A flit on four lanes: block `j` on lane `j`. -/
theorem flitBlocks_four {f j : Nat} (hmap : s.txMap l = 0xF) (hrr : (s.link l).rr = 0) (hrows : (s.link l).rows < 16383) (hj : j < 4) :
    tget ((flitBlocks l f s).link l).wire j = tget (s.link l).wire j ++ [blockOn s l f j j] := by
  have his : laneList (s.txMap l) = [0, 1, 2, 3] := by
    rw [hmap]
    rfl
  have h0 := blockOut_sent (f := f) (j := 0) his hrr rfl fun _ => by omega
  obtain ⟨a, ha⟩ : ∃ a, a = blockOut [0, 1, 2, 3] l f 0 s := ⟨_, rfl⟩
  rw [← ha] at h0
  have h1 := blockOut_sent (f := f) (j := 1) (p := 1) h0.map h0.rr rfl (absurd · (by decide))
  obtain ⟨b, hb⟩ : ∃ b, b = blockOut [0, 1, 2, 3] l f 1 a := ⟨_, rfl⟩
  rw [← hb] at h1
  have h2 := blockOut_sent (f := f) (j := 2) (p := 2) h1.map h1.rr rfl (absurd · (by decide))
  obtain ⟨c, hc⟩ : ∃ c, c = blockOut [0, 1, 2, 3] l f 2 b := ⟨_, rfl⟩
  rw [← hc] at h2
  have h3 := blockOut_sent (f := f) (j := 3) (p := 3) h2.map h2.rr rfl (absurd · (by decide))
  rw [flitBlocks_eq his, ← ha, ← hb, ← hc]
  interval_cases j
  · rw [(h3.rest 0 (by decide) (by decide)).1, (h2.rest 0 (by decide) (by decide)).1, (h1.rest 0 (by decide) (by decide)).1, h0.wire]
  · have r0 := h0.rest 1 (by decide) (by decide)
    rw [(h3.rest 1 (by decide) (by decide)).1, (h2.rest 1 (by decide) (by decide)).1, h1.wire, r0.1, blockOn_of_scr r0.2]
  · have r0 := h0.rest 2 (by decide) (by decide)
    have r1 := h1.rest 2 (by decide) (by decide)
    rw [(h3.rest 2 (by decide) (by decide)).1, h2.wire, r1.1, r0.1, blockOn_of_scr (r1.2.trans r0.2)]
  · have r0 := h0.rest 3 (by decide) (by decide)
    have r1 := h1.rest 3 (by decide) (by decide)
    have r2 := h2.rest 3 (by decide) (by decide)
    rw [h3.wire, r2.1, r1.1, r0.1, blockOn_of_scr (r2.2.trans (r1.2.trans r0.2))]

/-- A flit on three lanes: its fourth block goes round to the first lane. -/
theorem flitBlocks_three {f : Nat} (hmap : s.txMap l = 0x7) (hrr : (s.link l).rr = 0) (hrows : (s.link l).rows < 16382) :
    ((flitBlocks l f s).link l).rr = 1 ∧ (tget ((flitBlocks l f s).link l).wire 0).length = (tget (s.link l).wire 0).length + 2
      ∧ ∀ j ∈ [1, 2], (tget ((flitBlocks l f s).link l).wire j).length = (tget (s.link l).wire j).length + 1 := by
  have his : laneList (s.txMap l) = [0, 1, 2] := by
    rw [hmap]
    rfl
  have h0 := blockOut_sent (f := f) (j := 0) his hrr rfl fun _ => by omega
  obtain ⟨a, ha⟩ : ∃ a, a = blockOut [0, 1, 2] l f 0 s := ⟨_, rfl⟩
  rw [← ha] at h0
  have h1 := blockOut_sent (f := f) (j := 1) (p := 1) h0.map h0.rr rfl (absurd · (by decide))
  obtain ⟨b, hb⟩ : ∃ b, b = blockOut [0, 1, 2] l f 1 a := ⟨_, rfl⟩
  rw [← hb] at h1
  have h2 := blockOut_sent (f := f) (j := 2) (p := 2) h1.map h1.rr rfl (absurd · (by decide))
  obtain ⟨c, hc⟩ : ∃ c, c = blockOut [0, 1, 2] l f 2 b := ⟨_, rfl⟩
  rw [← hc] at h2
  have hrow : (c.link l).rows = (s.link l).rows + 1 := h2.rows.trans (h1.rows.trans h0.rows)
  have h3 := blockOut_sent (f := f) (j := 3) (p := 0) h2.map h2.rr rfl fun _ => by omega
  rw [flitBlocks_eq his, ← ha, ← hb, ← hc]
  refine ⟨h3.rr, ?_, fun j hj => ?_⟩
  · rw [h3.wire, (h2.rest 0 (by decide) (by decide)).1, (h1.rest 0 (by decide) (by decide)).1, h0.wire]
    simp
  · rcases List.mem_pair.1 hj with rfl | rfl
    · rw [(h3.rest 1 (by decide) (by decide)).1, (h2.rest 1 (by decide) (by decide)).1, h1.wire, (h0.rest 1 (by decide) (by decide)).1]
      simp
    · rw [(h3.rest 2 (by decide) (by decide)).1, h2.wire, (h1.rest 2 (by decide) (by decide)).1, (h0.rest 2 (by decide) (by decide)).1]
      simp

end

/-! ### The obligation -/

/-- Settles O42: a flit is answered, taken, retried or dropped as its type and its number say; each time message moves the round trip by one step,
and the blocks of a flit leave in the turn of the lanes. -/
theorem flitsAreTakenAcknowledgedAndRetried : Obligations.FlitsAreTakenAcknowledgedAndRetried := by
  unfold Obligations.FlitsAreTakenAcknowledgedAndRetried
  refine ⟨?_, ?_, ?_, ?_, ?_, ?_, ?_, ?_, ?_, ?_, ?_, ?_, ?_, ?_, ?_, ?_, ?_⟩
  · exact fun _ _ _ _ _ hc hg ht hx => idleFlit_spec hx hc hg ht
  · exact fun _ _ _ _ hc hg ht hseq => dataFlit_taken hc hg ht hseq
  · exact fun _ _ _ _ hc hg ht hseq hahead => dataFlit_ahead hc hg ht hseq hahead
  · exact fun s l _ _ _ hc hcar hg hnak => ⟨_, flit_corrupt hc hcar hg, (rxNak_link l s).trans (if_neg (by simp [hnak])), rfl, rfl⟩
  · exact fun _ _ _ _ hl hc hg ht hx => nakFlit_spec hl hc hg ht hx
  · exact fun _ _ _ _ _ hc hg ht => timeFlit_spec hc hg ht
  · exact fun _ _ _ _ _ hc hg ht htrip hseq => timeTb0Flit_spec hc hg ht htrip hseq
  · exact fun _ _ _ _ hl hc hg ht hcmd harg ha => lsEnter_spec hl hc hg ht hcmd harg ha
  · exact fun _ _ _ _ hl hc hg ht hcmd harg hask hpos ha => lsAckRx_spec hl hc hg ht hcmd harg hask hpos ha
  · exact fun _ _ hc hre hlate hn => ackTimeout_again hc hre hlate hn
  · exact fun _ _ hl hc hre hlate hn => ackTimeout_recovery hl hc hre hlate hn
  · exact fun _ _ _ _ hx hcr hlate => traceTimeout_spec hx hcr hlate
  · exact fun _ _ _ hcopies hout hx => fbStale_spec hcopies hout hx
  · exact fun _ _ hc hrun htx hrx hlate => linkTimeTx_spec hc hrun htx hrx hlate
  · exact fun _ _ _ _ _ _ htrip htb0 hsrc hts hlen hthr => linkTimeTake_spec htrip htb0 hsrc hts hlen hthr
  · exact fun _ _ _ _ hmap hrr hrows hj => flitBlocks_four hmap hrr hrows hj
  · exact fun _ _ _ hmap hrr hrows => flitBlocks_three hmap hrr hrows

end Sys2Proof.Laws
end

section
namespace Sys2Proof.Laws
open Sys2Proof.Machine

-- One theorem after another: a thread for each of them passes the memory limit of the check.
set_option Elab.async false

/-! ### A test over the listed registers -/

section
variable {α : Type} {P : Nat × α → Bool} {k : Nat}

theorem any_sdel (h : ∀ v, P (k, v) = false) (t : Tab α) : (sdel t k).any P = t.any P := by
  induction t with
  | nil => rfl
  | cons p t ih =>
    obtain ⟨j, v⟩ := p
    unfold sdel
    split
    next hj => rw [ih, List.any_cons, hj, h, Bool.false_or]
    next => rw [List.any_cons, List.any_cons, ih]

theorem any_sins (h : ∀ v, P (k, v) = false) (t : Tab α) (v : α) : (sins t k v).any P = t.any P := by
  induction t with
  | nil => simp [sins, h]
  | cons p t ih =>
    obtain ⟨j, w⟩ := p
    unfold sins
    split
    next => rw [List.any_cons, h, Bool.false_or]
    next => rw [List.any_cons, List.any_cons, ih]

theorem any_sput [DecidableEq α] {d : Nat → α} (h : ∀ v, P (k, v) = false) (t : Tab α) (v : α) : (sput d t k v).any P = t.any P := by
  unfold sput
  split
  next => exact any_sdel h t
  next => rw [any_sins h, any_sdel h]

end

section
variable {s t u : State} {l i n : Nat} {x : OzlLink}

/-! ### Power states (R482, R483) -/

theorem linkNamed_wr {a : Nat} (h : a < 0xB20000) (hx : ∀ x < 8, DEC_XCFG x ≠ a ∧ DEC_EN x ≠ a) (v : Word) :
    (s.wr a v).linkNamed l = s.linkNamed l := by
  have hfwd : (s.wr a v).regs.any (fun (a, v) => decide (0xB20000 ≤ a ∧ a < 0xB21000) && (getF v SHT_FWD_LINKS).testBit l)
      = s.regs.any fun (a, v) => decide (0xB20000 ≤ a ∧ a < 0xB21000) && (getF v SHT_FWD_LINKS).testBit l :=
    any_sput (fun w => by simp [Nat.not_le.2 h]) s.regs v
  unfold State.linkNamed State.decEn State.flag
  rw [hfwd]
  congr 1
  rw [Bool.eq_iff_iff, List.any_eq_true, List.any_eq_true]
  refine exists_congr fun x => and_congr_right fun hm => ?_
  obtain ⟨hcfg, hen⟩ := hx x (List.mem_range.1 hm)
  rw [fld_wr_ne _ _ _ _ _ hcfg, fld_wr_ne _ _ _ _ _ hen]

theorem pm_apart (hl : l < 6) : OZL_PM l < 0xB20000 ∧ (∀ x < 8, DEC_XCFG x ≠ OZL_PM l ∧ DEC_EN x ≠ OZL_PM l)
    ∧ OZL_PMSTS l ≠ OZL_PM l ∧ OZL_STS l ≠ OZL_PM l := by
  refine ⟨?_, fun x hx => ?_, ?_, ?_⟩ <;> simp only [OZL_PM, DEC_XCFG, DEC_EN, OZL_PMSTS, OZL_STS] <;> omega

theorem lCarries_of_keeps {as : List Nat} (h : s.keeps t as) (hl : OZL_STS l ∉ as) : t.lCarries l = s.lCarries l := by
  unfold State.lCarries State.lst
  rw [fld_of_keeps h hl]

/-- OZL_PM after a write. -/
def pmSet (l v : Nat) (s : State) : State :=
  ((s.wrRW (OZL_PM l) v).setF (OZL_PM l) OZL_PM_IDLE_FT (if v % 65536 = 0 then s.fld (OZL_PM l) OZL_PM_IDLE_FT else v % 65536)).setF
    (OZL_PM l) OZL_PM_TX_LS (bits v 17 16)

theorem onlyRegs_pmSet (l v : Nat) (s : State) : s.onlyRegs (pmSet l v s) [OZL_PM l] :=
  onlyRegs_andWr (onlyRegs_andWr (onlyRegs_wr ..) (by simp)) (by simp)

theorem link_pmSet (l v k : Nat) (s : State) : (pmSet l v s).link k = s.link k := rfl

theorem linkNamed_pmSet (hl : l < 6) (v : Nat) : (pmSet l v s).linkNamed l = s.linkNamed l := by
  obtain ⟨hlow, hx, -, -⟩ := pm_apart hl
  exact (linkNamed_wr hlow hx _).trans ((linkNamed_wr hlow hx _).trans (linkNamed_wr hlow hx _))

theorem txLs_pmSet (l v : Nat) (s : State) : (pmSet l v s).fld (OZL_PM l) OZL_PM_TX_LS = bits v 17 16 :=
  (fld_setF _ _ OZL_PM_TX_LS _ (by decide)).trans (Nat.mod_eq_of_lt (Nat.mod_lt _ (by decide)))

theorem ozlPmWrite_eq {v : Nat} (hl : l < 6) (h : bits v 17 16 ≠ 3) : ozlPmWrite l v s
    = if s.lCarries l = true then lsRequest l (bits v 17 16) (pmSet l v s) else pmSet l v s := by
  obtain ⟨-, -, -, hsts⟩ := pm_apart hl
  have hcar : (pmSet l v s).lCarries l = s.lCarries l := lCarries_of_keeps (onlyRegs_pmSet l v s).2 (by simpa using hsts)
  unfold ozlPmWrite
  dsimp only
  rw [if_neg h, ← pmSet, hcar]
  exact if_congr (and_iff_right h) rfl rfl

theorem bits_pmRequest (v ls : Nat) : bits (v &&& 0xFFFC_FFFF ||| ls % 4 * 2 ^ 16) 17 16 = ls % 4 := by
  show (v &&& 0xFFFC_FFFF ||| ls % 4 * 2 ^ 16) / 2 ^ 16 % 2 ^ 2 = ls % 4
  rw [← Nat.shiftRight_eq_div_pow, Nat.shiftRight_or_distrib, Nat.shiftRight_and_distrib, Nat.or_mod_two_pow, Nat.and_mod_two_pow,
    show (0xFFFC_FFFF >>> 16) % 2 ^ 2 = 0 from rfl, Nat.and_zero, Nat.zero_or, Nat.shiftRight_eq_div_pow, Nat.mul_div_cancel _ (Nat.two_pow_pos 16)]
  exact Nat.mod_mod ..

/-- A request of another state is sent, or refused on a link that decisions or boundary messages go over. -/
theorem lsRequest_sent (hn : n ≠ 0) (h : s.linkNamed l = false) :
    lsRequest l n s = sendCtl l 3 n ((s.modLink l fun x => { x with lsAsk := n }).status (OZL_PMSTS l) 0) := by
  unfold lsRequest
  rw [if_neg hn, if_neg (by simp [h])]

/-- A request that is sent. -/
theorem requested_spec (l n : Nat) (s : State) : ∃ t, sendCtl l 3 n ((s.modLink l fun x => { x with lsAsk := n }).status (OZL_PMSTS l) 0) = t
    ∧ t.link l = { s.link l with lsAsk := n, ctl := (s.link l).ctl ++ [3 * 2 ^ 204 + n * 2 ^ 200] } ∧ t.fld (OZL_PMSTS l) OZL_PMSTS_STATUS = 0
    ∧ s.keeps t [OZL_PMSTS l] ∧ linkOnly s t := by
  refine ⟨_, rfl, ?_, fld_setF (s.modLink l _) (OZL_PMSTS l) OZL_PMSTS_STATUS 0 (by decide), ?_, rfl⟩
  · rw [sendCtl, link_modLink_same, State.status, link_setF, link_modLink_same]
  · exact keeps_setLink (keeps_status (keeps_setLink (keeps_rfl s _)) (by simp))

theorem pmRequest_sent {ls : Nat} (hl : l < 6) (hopen : s.opens (OZL_PM l)) (hc : s.lCarries l = true) (hlo : 1 ≤ ls) (hhi : ls ≤ 2)
    (hnamed : s.linkNamed l = false) : ∃ t, exec (.ozlPmRequest l ls) s = .next t
      ∧ t.fld (OZL_PM l) OZL_PM_TX_LS = ls ∧ t.fld (OZL_PMSTS l) OZL_PMSTS_STATUS = 0
      ∧ t.link l = { s.link l with lsAsk := ls, ctl := (s.link l).ctl ++ [3 * 2 ^ 204 + ls * 2 ^ 200] }
      ∧ s.keeps t [OZL_PM l, OZL_PMSTS l] ∧ { t with regs := s.regs, ozl := s.ozl } = s := by
  obtain ⟨v, hv⟩ : ∃ v, v = s.rdN (OZL_PM l) &&& 0xFFFC_FFFF ||| ls % 4 * 2 ^ 16 := ⟨_, rfl⟩
  have hbits : bits v 17 16 = ls := hv ▸ (bits_pmRequest ..).trans (Nat.mod_eq_of_lt (by omega))
  obtain ⟨t, ht, hlink, hsts, hkeep, hframe⟩ := requested_spec l ls (pmSet l v s)
  have hreq : ozlPmWrite l v s = t := by
    rw [ozlPmWrite_eq hl (by omega), if_pos hc, hbits, lsRequest_sent (by omega) ((linkNamed_pmSet hl v).trans hnamed), ht]
  obtain ⟨-, -, hne, -⟩ := pm_apart hl
  refine ⟨t, next_hostWr hopen (hv ▸ hreq), ?_, hsts, hlink, keeps_trans (onlyRegs_pmSet l v s).2 hkeep (by simp) (by simp),
    linkOnly_trans (linkOnly_of_onlyRegs (onlyRegs_pmSet l v s)) hframe⟩
  rw [fld_of_keeps hkeep (by simpa using hne.symm), txLs_pmSet, hbits]

theorem pmRequest_busy {ls : Nat} (hl : l < 6) (hopen : s.opens (OZL_PM l)) (hc : s.lCarries l = true) (hlo : 1 ≤ ls) (hhi : ls ≤ 2)
    (hnamed : s.linkNamed l = true) : ∃ t, exec (.ozlPmRequest l ls) s = .next t
      ∧ t.fld (OZL_PMSTS l) OZL_PMSTS_STATUS = E_OZL_PM_BUSY ∧ s.onlyRegs t [OZL_PM l, OZL_PMSTS l] := by
  obtain ⟨v, hv⟩ : ∃ v, v = s.rdN (OZL_PM l) &&& 0xFFFC_FFFF ||| ls % 4 * 2 ^ 16 := ⟨_, rfl⟩
  have hbits : bits v 17 16 = ls := hv ▸ (bits_pmRequest ..).trans (Nat.mod_eq_of_lt (by omega))
  have hreq : ozlPmWrite l v s = (pmSet l v s).status (OZL_PMSTS l) E_OZL_PM_BUSY := by
    rw [ozlPmWrite_eq hl (by omega), if_pos hc, hbits, lsRequest, if_neg (by omega), if_pos ((linkNamed_pmSet hl v).trans hnamed)]
  exact ⟨_, next_hostWr hopen (hv ▸ hreq), fld_status_of_lt _ _ (by decide),
    onlyRegs_andWr (onlyRegs_trans (onlyRegs_pmSet l v s) (onlyRegs_rfl _ []) (by simp) (by simp)) (by simp)⟩

theorem pmRequest_exit (hl : l < 6) (hopen : s.opens (OZL_PM l)) (hc : s.lCarries l = true) (hls : s.fld (OZL_PMSTS l) OZL_PMSTS_TX_LS ≠ 0)
    (hat : (s.link l).lsAt = 0) : ∃ t, exec (.ozlPmRequest l 0) s = .next t ∧ t.fld (OZL_PMSTS l) OZL_PMSTS_STATUS = 0
      ∧ t.link l = { s.link l with lsAt := s.clock.now + (if s.fld (OZL_PMSTS l) OZL_PMSTS_TX_LS = 1 then 4000 else 800000) }
      ∧ s.keeps t [OZL_PM l, OZL_PMSTS l] ∧ { t with regs := s.regs, ozl := s.ozl } = s := by
  obtain ⟨v, hv⟩ : ∃ v, v = s.rdN (OZL_PM l) &&& 0xFFFC_FFFF ||| 0 % 4 * 2 ^ 16 := ⟨_, rfl⟩
  have hbits : bits v 17 16 = 0 := hv ▸ bits_pmRequest ..
  obtain ⟨-, -, hne, -⟩ := pm_apart hl
  obtain ⟨u, hu⟩ : ∃ u, u = (pmSet l v s).status (OZL_PMSTS l) 0 := ⟨_, rfl⟩
  have honly : s.onlyRegs u [OZL_PM l, OZL_PMSTS l] :=
    hu ▸ onlyRegs_trans (onlyRegs_pmSet l v s) (onlyRegs_status ..) (by simp) (by simp)
  have htx : u.fld (OZL_PMSTS l) OZL_PMSTS_TX_LS = s.fld (OZL_PMSTS l) OZL_PMSTS_TX_LS :=
    hu ▸ (fld_setF_beside _ _ fSTATUS OZL_PMSTS_TX_LS _ (by decide) (by decide) (by decide)).trans
      (fld_of_keeps (onlyRegs_pmSet l v s).2 (by simpa using hne) _)
  have hul : u.link l = s.link l := hu ▸ rfl
  have htime : (if s.fld (OZL_PMSTS l) OZL_PMSTS_TX_LS = 1 then 250 else 50000) * ft
      = if s.fld (OZL_PMSTS l) OZL_PMSTS_TX_LS = 1 then 4000 else 800000 := ite_mul ..
  have hreq : ozlPmWrite l v s = u.setLink l { s.link l with
      lsAt := s.clock.now + (if s.fld (OZL_PMSTS l) OZL_PMSTS_TX_LS = 1 then 4000 else 800000) } := by
    rw [ozlPmWrite_eq hl (by omega), if_pos hc, hbits, lsRequest, if_pos rfl, ← hu, lsExit]
    dsimp only
    rw [htx, hul, if_pos ⟨hls, hat⟩, State.modLink, hul, htime, clock_of_onlyRegs honly]
  refine ⟨_, next_hostWr hopen (hv ▸ hreq), ?_, link_setLink_same .., keeps_setLink honly.2, linkOnly_trans (linkOnly_of_onlyRegs honly) rfl⟩
  exact hu ▸ fld_status_of_lt (pmSet l v s) (OZL_PMSTS l) (by decide : 0 < 2 ^ 16)

theorem pmRequest_down (hl : l < 6) (ls : Nat) (hopen : s.opens (OZL_PM l)) (hc : s.lCarries l = false) :
    ∃ t, exec (.ozlPmRequest l ls) s = .next t ∧ s.onlyRegs t [OZL_PM l] := by
  have hreq (v : Nat) : ∃ t, ozlPmWrite l v s = t ∧ s.onlyRegs t [OZL_PM l] := by
    refine ⟨_, rfl, ?_⟩
    unfold ozlPmWrite
    dsimp only
    rw [if_neg]
    · exact onlyRegs_andWr (onlyRegs_andWr (onlyRegs_wr ..) (by simp)) (by simp)
    · obtain ⟨-, -, -, hsts⟩ := pm_apart hl
      rw [lCarries_of_keeps (keeps_setF (keeps_setF (keeps_wrRW (keeps_rfl s [OZL_PM l]) (by simp)) (by simp)) (by simp)) (by simpa using hsts)]
      simp [hc]
  obtain ⟨t, ht, honly⟩ := hreq (s.rdN (OZL_PM l) &&& 0xFFFC_FFFF ||| ls % 4 * 2 ^ 16)
  exact ⟨t, next_hostWr hopen ht, honly⟩

theorem lsAuto_spec (hauto : s.flag (OZL_PM l) OZL_PM_AUTO = true) (hc : s.lCarries l = true) (hls : s.fld (OZL_PMSTS l) OZL_PMSTS_TX_LS = 0)
    (hask : (s.link l).lsAsk = 0) (htxq : (s.link l).txq = []) (hidle : (s.link l).dataAt + 16 * s.fld (OZL_PM l) OZL_PM_IDLE_FT ≤ s.clock.now)
    (hnamed : s.linkNamed l = false) : ∃ t, exec (.lsAutoIdle l) s = .next t
      ∧ t.link l = { s.link l with lsAsk := 1, ctl := (s.link l).ctl ++ [3 * 2 ^ 204 + 2 ^ 200] }
      ∧ t.fld (OZL_PMSTS l) OZL_PMSTS_STATUS = 0 ∧ s.keeps t [OZL_PMSTS l] ∧ { t with regs := s.regs, ozl := s.ozl } = s := by
  obtain ⟨t, ht, hlink, hsts, hkeep, hframe⟩ := requested_spec l 1 s
  have hidle' : (s.link l).dataAt + s.fld (OZL_PM l) OZL_PM_IDLE_FT * ft ≤ s.clock.now := Nat.mul_comm 16 _ ▸ hidle
  have hreq : lsAuto l s = t := (if_pos ⟨hauto, hc, hls, hask, htxq, hidle'⟩).trans ((lsRequest_sent (by decide) hnamed).trans ht)
  exact ⟨t, congrArg Host.Outcome.next hreq, hlink.trans (by rw [Nat.one_mul]), hsts, hkeep, hframe⟩

theorem lsExitDone_spec (hne : (s.link l).lsAt ≠ 0) (hat : (s.link l).lsAt ≤ s.clock.now) : ∃ t, exec (.lsExitComplete l) s = .next t
      ∧ t.link l = { s.link l with lsAt := 0, dataAt := s.clock.now } ∧ t.fld (OZL_PMSTS l) OZL_PMSTS_TX_LS = 0
      ∧ s.keeps t [OZL_PMSTS l] ∧ { t with regs := s.regs, ozl := s.ozl } = s :=
  ⟨_, congrArg Host.Outcome.next (if_pos ⟨hne, hat⟩), (link_setF ..).trans (link_setLink_same ..),
    fld_setF (s.setLink l _) (OZL_PMSTS l) OZL_PMSTS_TX_LS 0 (by decide), keeps_setF (keeps_setLink (keeps_rfl s _)) (by simp), rfl⟩

/-! ### Parking a lane (R485) -/

theorem laneBlock_frame (l i hdr v : Nat) (s : State) : (laneBlock l i hdr v s).regs = s.regs ∧ ((laneBlock l i hdr v s).link l).ctl = (s.link l).ctl
    ∧ linkOnly s (laneBlock l i hdr v s) :=
  ⟨rfl, (congrArg OzlLink.ctl (link_modLink_same ..) :), rfl⟩

/-- An RS block on the lanes of a map makes it the map of the transmitter. -/
theorem sendRs_spec (l : Nat) {m : Nat} (hm : m < 16) (s : State) : (sendRs l m s).txMap l = m ∧ ((sendRs l m s).link l).ctl = (s.link l).ctl
    ∧ (sendRs l m s).rxMap l = s.rxMap l ∧ (sendRs l m s).lst l = s.lst l
    ∧ (sendRs l m s).rdN (OZL_RESTRIPE_CNT l) = min 0xFFFFFFFF (s.rdN (OZL_RESTRIPE_CNT l) + 1)
    ∧ s.keeps (sendRs l m s) [OZL_STS l, OZL_RESTRIPE_CNT l] ∧ linkOnly s (sendRs l m s) := by
  have hrs : ∃ u, sendRs l m s = (u.setF (OZL_STS l) OZL_STS_TXMAP m).inc (OZL_RESTRIPE_CNT l) ∧ u.regs = s.regs ∧ (u.link l).ctl = (s.link l).ctl
      ∧ linkOnly s u := by
    unfold sendRs
    refine ⟨_, rfl, ?_⟩
    refine forEach_induct (P := fun u => u.regs = s.regs ∧ (u.link l).ctl = (s.link l).ctl ∧ linkOnly s u) ⟨rfl, ?_, rfl⟩ fun i _ t ht => ?_
    · rw [link_setLink_same]
    · obtain ⟨hregs, hctl, hframe⟩ := laneBlock_frame l i 2 _ t
      exact ⟨hregs.trans ht.1, hctl.trans ht.2.1, linkOnly_trans ht.2.2 hframe⟩
  obtain ⟨u, hu, hregs, hctl, hframe⟩ := hrs
  have hkeep : s.keeps u [] := keeps_of_regs (keeps_rfl s _) hregs
  have hne : OZL_STS l ≠ OZL_RESTRIPE_CNT l := by unfold OZL_STS OZL_RESTRIPE_CNT; omega
  have hbeside (f : Fld) (hf : f.1 + f.2 ≤ 64) (h : OZL_STS_TXMAP.1 + OZL_STS_TXMAP.2 ≤ f.1 ∨ f.1 + f.2 ≤ OZL_STS_TXMAP.1) :
      (sendRs l m s).fld (OZL_STS l) f = s.fld (OZL_STS l) f := by
    rw [hu, fld_inc_ne _ _ _ _ hne, fld_setF_beside _ _ _ _ _ (by decide) hf h]
    exact fld_of_keeps hkeep List.not_mem_nil f
  refine ⟨?_, by rw [hu]; exact hctl, hbeside _ (by decide) (by decide), hbeside _ (by decide) (by decide), ?_, ?_, by rw [hu]; exact hframe⟩
  · rw [State.txMap, hu, fld_inc_ne _ _ _ _ hne, fld_setF _ _ OZL_STS_TXMAP _ (by decide)]
    exact Nat.mod_eq_of_lt hm
  · rw [hu, rdN_inc, rdN_setF_ne _ _ _ _ _ hne.symm, rdN_of_keeps hkeep List.not_mem_nil]
  · rw [hu]
    exact keeps_countUp (keeps_setF (keeps_mono hkeep (by simp)) (by simp)) (by simp)

/-- UP or DEGRADED as the maps say. -/
theorem lMapState_spec (hl : l < 6) (s : State) : (lMapState l s).link l = s.link l ∧ (lMapState l s).txMap l = s.txMap l
    ∧ (s.lst l = lsUP → s.txMap l ≠ 0xF → (lMapState l s).lst l = lsDEGRADED) ∧ s.onlyRegs (lMapState l s) [OZL_STS l, OZL_GSTS] := by
  have hne : OZL_STS l ≠ OZL_GSTS := by unfold OZL_STS OZL_GSTS; omega
  unfold lMapState
  split
  next =>
    refine ⟨rfl, ?_, fun _ hmap => ?_, onlyRegs_setLst ..⟩
    · exact (fld_setF_ne _ _ _ _ _ _ hne).trans (fld_setF_beside _ _ OZL_STS_LSTATE OZL_STS_TXMAP _ (by decide) (by decide) (by decide))
    · rw [if_neg fun h => hmap h.1]
      exact lst_setLst s l hl (by decide)
  next h => exact ⟨rfl, rfl, fun hup => absurd (.inl hup) h, onlyRegs_rfl s _⟩

theorem lane_apart (hl : l < 6) (hi : i < 4) : OZL_LSTS l i ≠ OZL_LCFG l i ∧ OZL_STS l ≠ OZL_LCFG l i ∧ OZL_STS l ≠ OZL_LSTS l i
    ∧ OZL_RESTRIPE_CNT l ≠ OZL_LCFG l i ∧ OZL_RESTRIPE_CNT l ≠ OZL_LSTS l i ∧ OZL_LCFG l i ≠ OZL_GSTS ∧ OZL_LSTS l i ≠ OZL_GSTS
    ∧ OZL_RESTRIPE_CNT l ≠ OZL_STS l ∧ OZL_RESTRIPE_CNT l ≠ OZL_GSTS := by
  simp only [OZL_LSTS, OZL_LCFG, OZL_STS, OZL_RESTRIPE_CNT, OZL_GSTS]
  omega

theorem lane_setLane (s : State) (l i : Nat) {v : Nat} (hv : v < 8) : (s.setLane l i v).lane l i = v :=
  (fld_setF _ _ OZL_LSTS_LANESTATE _ (by decide)).trans (Nat.mod_eq_of_lt hv)

/-- A lane whose PARK and state are written. -/
def parkSet (l i on v : Nat) (s : State) : State := (s.setF (OZL_LCFG l i) OZL_LCFG_PARK on).setLane l i v

theorem parkSet_spec (hl : l < 6) (hi : i < 4) {on v : Nat} (hon : on < 2) (hv : v < 8) (s : State) :
    (parkSet l i on v s).flag (OZL_LCFG l i) OZL_LCFG_PARK = (on == 1) ∧ (parkSet l i on v s).lane l i = v
      ∧ s.onlyRegs (parkSet l i on v s) [OZL_LCFG l i, OZL_LSTS l i] := by
  obtain ⟨hls, -⟩ := lane_apart hl hi
  exact ⟨(congrArg (· == 1) (fld_setF_ne _ _ _ _ _ _ hls.symm)).trans (flag_setF_same _ _ 31 _ (by decide) hon), lane_setLane _ _ _ hv,
    onlyRegs_andWr (onlyRegs_andWr (onlyRegs_rfl s _) (by simp)) (by simp)⟩

theorem parked_map (hi : i < 4) : 0xF - 2 ^ i < 16 ∧ 0xF - 2 ^ i ≠ 0xF ∧ bit 0xF i = true := by
  interval_cases i <;> decide

theorem park_spec (hl : l < 6) (hi : i < 4) (hopen : s.opens (OZL_LCFG l i)) (hpark : s.flag (OZL_LCFG l i) OZL_LCFG_PARK = false)
    (htx : s.txMap l = 0xF) (hrx : s.rxMap l = 0xF) : ∃ t, exec (.ozlPark l i true) s = .next t ∧ t.flag (OZL_LCFG l i) OZL_LCFG_PARK = true
      ∧ t.lane l i = lnPARKED ∧ t.txMap l = 0xF - 2 ^ i
      ∧ (t.link l).ctl = (s.link l).ctl ++ [2 ^ 204 + i * 2 ^ 200] ∧ t.rdN (OZL_RESTRIPE_CNT l) = min 0xFFFFFFFF (s.rdN (OZL_RESTRIPE_CNT l) + 1)
      ∧ (s.lst l = lsUP → t.lst l = lsDEGRADED)
      ∧ s.keeps t [OZL_LCFG l i, OZL_LSTS l i, OZL_STS l, OZL_GSTS, OZL_RESTRIPE_CNT l] ∧ { t with regs := s.regs, ozl := s.ozl } = s := by
  obtain ⟨hll, hsc, hsl, hrc, hrl, hcg, hlg, hrs, hrg⟩ := lane_apart hl hi
  obtain ⟨hm, hmF, hbit⟩ := parked_map hi
  obtain ⟨hflag, hlane, honly⟩ := parkSet_spec hl hi (by decide : 1 < 2) (by decide : lnPARKED < 8) s
  obtain ⟨u, hu⟩ : ∃ u, u = sendCtl l 1 i (parkSet l i 1 lnPARKED s) := ⟨_, rfl⟩
  have hul : (u.link l).ctl = (s.link l).ctl ++ [2 ^ 204 + i * 2 ^ 200] := by
    rw [hu, sendCtl, link_modLink_same, Nat.one_mul]
    rfl
  have huk : s.keeps u [OZL_LCFG l i, OZL_LSTS l i] := hu ▸ keeps_of_regs honly.2 rfl
  have hur : u.regs = (parkSet l i 1 lnPARKED s).regs := hu ▸ rfl
  have hpu : (parkSet l i 1 lnPARKED s).keeps u [] := keeps_of_regs (keeps_rfl _ _) hur
  have huf : linkOnly s u := hu ▸ linkOnly_trans (linkOnly_of_onlyRegs honly) rfl
  have husts (f : Fld) : u.fld (OZL_STS l) f = s.fld (OZL_STS l) f := fld_of_keeps huk (by simp [hsc, hsl]) f
  have hany : ((List.range 4).any fun j => j != i && (!bit (s.txMap l) j || !bit (s.rxMap l) j)) = false := by
    rw [htx, hrx]
    interval_cases i <;> rfl
  have hparked : park l i true s = lMapState l (sendRs l (0xF - 2 ^ i) u) := by
    have hmap : u.txMap l = 0xF := (husts _).trans htx
    unfold park
    dsimp only
    rw [if_pos ⟨rfl, by simp [hpark]⟩, if_neg (by simp [hany]), ← parkSet, ← hu, hmap, if_pos hbit]
  obtain ⟨hrtx, hrctl, hrrx, hrlst, hrcnt, hrkeep, hrframe⟩ := sendRs_spec l hm u
  obtain ⟨hmlink, hmtx, hmdeg, hmonly⟩ := lMapState_spec hl (sendRs l (0xF - 2 ^ i) u)
  have hend : u.keeps (lMapState l (sendRs l (0xF - 2 ^ i) u)) [OZL_STS l, OZL_RESTRIPE_CNT l, OZL_GSTS] :=
    keeps_trans hrkeep hmonly.2 (by simp) (by simp)
  refine ⟨_, next_hostWr hopen hparked, ?_, ?_, hmtx.trans hrtx, ?_, ?_, fun hup => hmdeg ?_ ?_,
    keeps_trans huk hend (by simp) (by simp), linkOnly_trans huf (linkOnly_trans hrframe (linkOnly_of_onlyRegs hmonly))⟩
  · rw [State.flag, fld_of_keeps hend (by simp [hsc.symm, hrc.symm, hcg]), fld_of_keeps hpu List.not_mem_nil]
    exact hflag
  · rw [State.lane, fld_of_keeps hend (by simp [hsl.symm, hrl.symm, hlg]), fld_of_keeps hpu List.not_mem_nil]
    exact hlane
  · rw [hmlink, hrctl, hul]
  · rw [rdN_of_keeps hmonly.2 (by simp [hrs, hrg]), hrcnt, rdN_of_keeps huk (by simp [hrc, hrl])]
  · exact hrlst.trans ((husts _).trans hup)
  · exact fun h => hmF (hrtx.symm.trans h)

theorem park_refused {j : Nat} (hj : j < 4) (hji : j ≠ i) (hopen : s.opens (OZL_LCFG l i)) (hpark : s.flag (OZL_LCFG l i) OZL_LCFG_PARK = false)
    (hmap : bit (s.txMap l) j = false ∨ bit (s.rxMap l) j = false) : ∃ t, exec (.ozlPark l i true) s = .next t
      ∧ t.fld (OZL_STS l) OZL_STS_STATUS = E_OZL_STATE ∧ s.onlyRegs t [OZL_STS l] := by
  have hany : ((List.range 4).any fun j => j != i && (!bit (s.txMap l) j || !bit (s.rxMap l) j)) = true :=
    List.any_eq_true.2 ⟨j, List.mem_range.2 hj, by simpa [hji] using hmap⟩
  have hparked : park l i true s = s.status (OZL_STS l) E_OZL_STATE := by
    unfold park
    dsimp only
    rw [if_pos ⟨rfl, by simp [hpark]⟩, if_pos hany]
  exact ⟨_, next_hostWr hopen hparked, fld_status_of_lt _ _ (by decide), onlyRegs_status ..⟩

theorem unpark_spec (hl : l < 6) (hi : i < 4) (hopen : s.opens (OZL_LCFG l i)) (hpark : s.flag (OZL_LCFG l i) OZL_LCFG_PARK = true) :
    ∃ t, exec (.ozlPark l i false) s = .next t ∧ t.flag (OZL_LCFG l i) OZL_LCFG_PARK = false ∧ t.lane l i = lnTRAINING
      ∧ s.onlyRegs t [OZL_LCFG l i, OZL_LSTS l i] := by
  obtain ⟨hflag, hlane, honly⟩ := parkSet_spec hl hi (by decide : 0 < 2) (by decide : lnTRAINING < 8) s
  have hback : park l i false s = parkSet l i 0 lnTRAINING s := by
    unfold park
    dsimp only
    rw [if_neg (by simp), if_pos ⟨by simp, hpark⟩]
    rfl
  exact ⟨_, next_hostWr hopen hback, hflag, hlane, honly⟩

/-! ### Test streams (R484, R486, R487) -/

theorem prbs_refused {v : Nat} (hopen : s.opens (OZL_LCFG l i)) (hidle : s.laneIdle l i = false) (hv : bit v 3 = true ∨ bit v 2 = true) :
    ∃ t, exec (.ozlPrbsCtl l i v) s = .next t ∧ t.fld (OZL_STS l) OZL_STS_STATUS = E_OZL_STATE ∧ s.onlyRegs t [OZL_STS l] :=
  ⟨_, next_hostWr hopen (if_pos ⟨hv, by simp [hidle]⟩), fld_status_of_lt _ _ (by decide), onlyRegs_status ..⟩

theorem fld_wrN (s : State) (a : Nat) {n : Nat} (hn : n < 2 ^ 64) (f : Fld) (hf : f.2 ≤ 64) : (s.wrN a n).fld a f = n / 2 ^ f.1 % 2 ^ f.2 := by
  rw [State.fld, State.wrN, rd_wr_same, getF_ofNat hn f hf]

theorem fld_eq_rdN (s : State) (a : Nat) (f : Fld) (hf : f.2 ≤ 64) : s.fld a f = s.rdN a / 2 ^ f.1 % 2 ^ f.2 := by
  rw [State.rdN, ← getF_ofNat (s.rd a).isLt f hf, BitVec.ofNat_toNat, BitVec.setWidth_eq]
  rfl

theorem prbsSet_bound (s : State) (a v : Nat) : s.rdN a / 2 ^ 31 * 2 ^ 31 + bits v 5 2 * 4 < 2 ^ 64 := by
  have hlt : s.rdN a < 2 ^ 64 := (s.rd a).isLt
  have hb : bits v 5 2 < 2 ^ 4 := bits_lt ..
  omega

theorem prbs_set {v : Nat} (hopen : s.opens (OZL_LCFG l i)) (h : s.laneIdle l i = true ∨ (bit v 3 = false ∧ bit v 2 = false)) :
    ∃ t, exec (.ozlPrbsCtl l i v) s = .next t ∧ t.flag (OZL_LCFG l i) OZL_LCFG_GEN = bit v 3 ∧ t.flag (OZL_LCFG l i) OZL_LCFG_CHK = bit v 2
      ∧ t.fld (OZL_LCFG l i) OZL_LCFG_PRBS_SEL = bits v 5 4 ∧ t.flag (OZL_LCFG l i) OZL_LCFG_PARK = s.flag (OZL_LCFG l i) OZL_LCFG_PARK
      ∧ s.onlyRegs t [OZL_LCFG l i] := by
  have hset : prbsCtl l i v s = s.wrN (OZL_LCFG l i) (s.rdN (OZL_LCFG l i) / 2 ^ 31 * 2 ^ 31 + bits v 5 2 * 4) :=
    if_neg fun hb => h.elim (fun h => hb.2 h) fun h => by simp [h.1, h.2] at hb
  have hfld := fld_wrN s (OZL_LCFG l i) (prbsSet_bound s (OZL_LCFG l i) v)
  refine ⟨_, next_hostWr hopen hset, ?_, ?_, ?_, ?_, onlyRegs_wr ..⟩
  · rw [State.flag, hfld _ (by decide), bit, Nat.testBit_eq_decide_div_mod_eq, beq_eq_decide]
    simp only [OZL_LCFG_GEN, bits]
    congr 2
    omega
  · rw [State.flag, hfld _ (by decide), bit, Nat.testBit_eq_decide_div_mod_eq, beq_eq_decide]
    simp only [OZL_LCFG_CHK, bits]
    congr 2
    omega
  · rw [hfld _ (by decide)]
    simp only [OZL_LCFG_PRBS_SEL, bits]
    omega
  · rw [State.flag, State.flag, hfld _ (by decide), fld_eq_rdN _ _ _ (by decide)]
    simp only [OZL_LCFG_PARK, bits]
    congr 1
    omega

/-- A bit of the stream of a lane is inverted. -/
def injectedOn (l i : Nat) (s : State) : State :=
  { s with ozl := { s.ozl with injected := tput s.ozl.injected (4 * l + i) (tget s.ozl.injected (4 * l + i) + 1) } }

theorem prbsInj_eq (hgen : s.flag (OZL_LCFG l i) OZL_LCFG_GEN = true) : prbsInj l i s = (injectedOn l i s).when
    ((s.fld (OZL_TEST l) OZL_TEST_LB == 1 || s.fld (OZL_TEST l) OZL_TEST_LB == 2) && s.flag (OZL_LCFG l i) OZL_LCFG_CHK) fun s => s.inc (OZL_PRBS_ERR l i) :=
  if_pos hgen

theorem prbsInj_spec (hopen : s.opens (OZL_LCFG l i)) (hgen : s.flag (OZL_LCFG l i) OZL_LCFG_GEN = true) : ∃ t, exec (.ozlPrbsInj l i) s = .next t
      ∧ tget t.ozl.injected (4 * l + i) = tget s.ozl.injected (4 * l + i) + 1
      ∧ ((s.fld (OZL_TEST l) OZL_TEST_LB = 1 ∨ s.fld (OZL_TEST l) OZL_TEST_LB = 2) → s.flag (OZL_LCFG l i) OZL_LCFG_CHK = true →
          t.rdN (OZL_PRBS_ERR l i) = min 0xFFFFFFFF (s.rdN (OZL_PRBS_ERR l i) + 1))
      ∧ (s.flag (OZL_LCFG l i) OZL_LCFG_CHK = false → t.regs = s.regs) ∧ s.keeps t [OZL_PRBS_ERR l i] ∧ { t with regs := s.regs, ozl := s.ozl } = s := by
  refine ⟨_, next_hostWr hopen (prbsInj_eq hgen), ?_⟩
  have hset : tget (injectedOn l i s).ozl.injected (4 * l + i) = tget s.ozl.injected (4 * l + i) + 1 :=
    tget_tput_same s.ozl.injected (4 * l + i) (tget s.ozl.injected (4 * l + i) + 1)
  cases hc : (s.fld (OZL_TEST l) OZL_TEST_LB == 1 || s.fld (OZL_TEST l) OZL_TEST_LB == 2) && s.flag (OZL_LCFG l i) OZL_LCFG_CHK with
  | true =>
    rw [when_of_true _ rfl]
    exact ⟨hset, fun _ _ => rdN_inc .., fun h => by simp [h] at hc, keeps_countUp (keeps_of_regs (keeps_rfl s _) rfl) (by simp), rfl⟩
  | false =>
    rw [when_of_false _ rfl]
    refine ⟨hset, fun hlb hchk => ?_, fun _ => rfl, keeps_of_regs (keeps_rfl s _) rfl, rfl⟩
    rcases hlb with h | h <;> simp [h, hchk] at hc

/-- The state of a link and of its lanes. -/
def linkLanes (l ls ln : Nat) (s : State) : State := (s.setLst l ls).setLanes l ln

theorem forEach_lanes (l v : Nat) (s : State) : s.onlyRegs (s.setLanes l v) ((List.range 4).map (OZL_LSTS l)) :=
  forEach_induct (P := fun t => s.onlyRegs t ((List.range 4).map (OZL_LSTS l))) (onlyRegs_rfl s _)
    fun _ hi _ ht => onlyRegs_andWr ht (List.mem_map_of_mem hi)

theorem lane_setLanes (hi : i < 4) {v : Nat} (hv : v < 8) (s : State) : (s.setLanes l v).lane l i = v := by
  have hother (t : State) (j : Nat) (h : i ≠ j) : (t.setLane l j v).lane l i = t.lane l i :=
    fld_setF_ne _ _ _ _ _ _ (by simp only [OZL_LSTS]; omega)
  rw [State.setLanes, forEach_range_four]
  interval_cases i
  · rw [hother _ 3 (by decide), hother _ 2 (by decide), hother _ 1 (by decide), lane_setLane _ _ _ hv]
  · rw [hother _ 3 (by decide), hother _ 2 (by decide), lane_setLane _ _ _ hv]
  · rw [hother _ 3 (by decide), lane_setLane _ _ _ hv]
  · exact lane_setLane _ _ _ hv

theorem test_apart (l : Nat) : OZL_TEST l ∉ [OZL_STS l, OZL_GSTS] ∧ OZL_STS l ∉ [OZL_GSTS]
    ∧ (∀ a ∈ [OZL_TEST l, OZL_STS l], a ∉ (List.range 4).map (OZL_LSTS l)) := by
  simp only [List.mem_cons, List.not_mem_nil, or_false, List.mem_map, OZL_TEST, OZL_STS, OZL_GSTS, OZL_LSTS]
  refine ⟨by omega, by omega, ?_⟩
  rintro a ha ⟨i, -, hi⟩
  omega

theorem linkLanes_spec (hl : l < 6) {ls ln : Nat} (hls : ls < 16) (hln : ln < 8) (s : State) : (linkLanes l ls ln s).lst l = ls
    ∧ (∀ i, i < 4 → (linkLanes l ls ln s).lane l i = ln) ∧ (linkLanes l ls ln s).fld (OZL_STS l) OZL_STS_STATUS = s.fld (OZL_STS l) OZL_STS_STATUS
    ∧ (linkLanes l ls ln s).fld (OZL_TEST l) OZL_TEST_LB = s.fld (OZL_TEST l) OZL_TEST_LB
    ∧ s.onlyRegs (linkLanes l ls ln s) ([OZL_STS l, OZL_GSTS] ++ (List.range 4).map (OZL_LSTS l)) := by
  obtain ⟨htest, hsts, hlanes⟩ := test_apart l
  have honly := forEach_lanes l ln (s.setLst l ls)
  have hfld (a : Nat) (ha : a ∈ [OZL_TEST l, OZL_STS l]) (f : Fld) : (linkLanes l ls ln s).fld a f = (s.setLst l ls).fld a f :=
    fld_of_keeps honly.2 (hlanes a ha) f
  refine ⟨(hfld _ (by simp) _).trans (lst_setLst s l hl hls), fun i hi => lane_setLanes hi hln _, ?_, ?_,
    onlyRegs_trans (onlyRegs_setLst ..) honly (by simp) (by simp)⟩
  · rw [hfld _ (by simp), State.setLst, fld_setF_ne _ _ _ _ _ _ (by simpa using hsts)]
    exact fld_setF_beside _ _ OZL_STS_LSTATE OZL_STS_STATUS _ (by decide) (by decide) (by decide)
  · rw [hfld _ (by simp)]
    exact fld_of_keeps (onlyRegs_setLst s l ls).2 htest _

theorem rwMask_test : ∀ l < 6, rwMask (OZL_TEST l) = 3 := by decide +kernel

theorem loopback_spec {lb : Nat} (hl : l < 6) (hlb : lb < 4) (hopen : s.opens (OZL_TEST l)) (hen : s.flag (OZL_CTL l) OZL_CTL_EN = false) :
    ∃ t, exec (.ozlLoopback l lb) s = .next t
      ∧ t.fld (OZL_TEST l) OZL_TEST_LB = lb ∧ t.lst l = (if lb = 0 then lsDISABLED else lsTEST)
      ∧ (∀ i, i < 4 → t.lane l i = (if lb = 0 then lnOFF else lnTEST)) ∧ t.fld (OZL_STS l) OZL_STS_STATUS = 0
      ∧ s.onlyRegs t ([OZL_TEST l, OZL_STS l, OZL_GSTS] ++ (List.range 4).map (OZL_LSTS l)) := by
  obtain ⟨u, hu⟩ : ∃ u, u = (s.wrRW (OZL_TEST l) (lb % 4)).status (OZL_STS l) 0 := ⟨_, rfl⟩
  have htest : ozlTestWrite l (lb % 4) s = linkLanes l (if lb = 0 then lsDISABLED else lsTEST) (if lb = 0 then lnOFF else lnTEST) u := by
    unfold ozlTestWrite
    dsimp only
    rw [if_neg (by simp [hen]), ← hu, Nat.mod_mod, Nat.mod_eq_of_lt hlb]
    split <;> rfl
  have hsts : u.fld (OZL_STS l) OZL_STS_STATUS = 0 := hu ▸ fld_status_of_lt (s.wrRW _ _) (OZL_STS l) (by decide : 0 < 2 ^ 16)
  have hne : OZL_TEST l ≠ OZL_STS l := by unfold OZL_TEST OZL_STS; omega
  have hulb : u.fld (OZL_TEST l) OZL_TEST_LB = lb := by
    rw [hu, State.status, fld_setF_ne _ _ _ _ _ _ hne, fld_wrRW s _ (rwMask_test l hl) (by decide) (by decide)]
    simp only [OZL_TEST_LB]
    omega
  have huo : s.onlyRegs u [OZL_TEST l, OZL_STS l] := hu ▸ onlyRegs_andWr (onlyRegs_andWr (onlyRegs_rfl s _) (by simp)) (by simp)
  obtain ⟨hlst, hlane, hst, hlb', honly⟩ := linkLanes_spec (ls := if lb = 0 then lsDISABLED else lsTEST) (ln := if lb = 0 then lnOFF else lnTEST) hl
    (by split <;> decide) (by split <;> decide) u
  exact ⟨_, next_hostWr hopen htest, hlb'.trans hulb, hlst, hlane, hst.trans hsts,
    onlyRegs_trans huo honly (by simp) (by simp)⟩

theorem loopback_refused {lb : Nat} (hopen : s.opens (OZL_TEST l)) (hen : s.flag (OZL_CTL l) OZL_CTL_EN = true) :
    ∃ t, exec (.ozlLoopback l lb) s = .next t ∧ t.fld (OZL_STS l) OZL_STS_STATUS = E_OZL_STATE ∧ s.onlyRegs t [OZL_STS l] :=
  ⟨_, next_hostWr hopen (if_pos hen), fld_status_of_lt _ _ (by decide), onlyRegs_status ..⟩

end

/-! ### The obligation -/

/-- Settles O43: a request for a power state is sent or refused, and ends as its answer or its time says; lanes are parked, trained and tested
each by the rule of its write. -/
theorem linksSavePowerParkLanesAndTest : Obligations.LinksSavePowerParkLanesAndTest := by
  unfold Obligations.LinksSavePowerParkLanesAndTest
  refine ⟨?_, ?_, ?_, ?_, ?_, ?_, ?_, ?_, ?_, ?_, ?_, ?_, ?_, ?_, ?_⟩
  · exact fun _ _ _ hl hopen hc hlo hhi hnamed => pmRequest_sent hl hopen hc hlo hhi hnamed
  · exact fun _ _ _ hl hopen hc hlo hhi hnamed => pmRequest_busy hl hopen hc hlo hhi hnamed
  · exact fun _ _ hl hopen hc hls hat => pmRequest_exit hl hopen hc hls hat
  · exact fun _ _ _ hl hopen hc => pmRequest_down hl _ hopen hc
  · exact fun _ _ _ hauto hc hls hask htxq hidle hnamed => lsAuto_spec hauto hc hls hask htxq hidle hnamed
  · exact fun _ _ hne hat => lsExitDone_spec hne hat
  · exact fun _ _ _ hl hi hopen hpark htx hrx => park_spec hl hi hopen hpark htx hrx
  · exact fun _ _ _ _ _ _ hj hji hopen hpark hmap => park_refused hj hji hopen hpark hmap
  · exact fun _ _ _ hl hi hopen hpark => unpark_spec hl hi hopen hpark
  · exact fun _ _ _ _ _ _ hopen h => prbs_set hopen h
  · exact fun _ _ _ _ _ _ hopen hidle hv => prbs_refused hopen hidle hv
  · exact fun _ _ _ _ _ hopen hgen => prbsInj_spec hopen hgen
  · exact fun _ _ _ hl hlb hopen hen => loopback_spec hl hlb hopen hen
  · exact fun _ _ _ _ hopen hen => loopback_refused hopen hen
  · exact fun _ _ hopen => ⟨_, next_hostWr hopen (if_pos rfl), link_modLink_same .., rfl, rfl⟩

end Sys2Proof.Laws
end

section
namespace Sys2Proof.Laws
open Sys2Proof.Machine

-- One theorem after another: a thread for each of them passes the memory limit of the check.
set_option Elab.async false

section
variable {s t u : State} {q r i n v y : Nat} {x : Que}

/-! ### The queues of the host interface -/

@[simp] theorem que_setQue_same (s : State) (q : Nat) (x : Que) : (s.setQue q x).que q = x := tget_tput_same s.hif.ques q x
theorem que_setQue_ne (s : State) (x : Que) (h : r ≠ q) : (s.setQue q x).que r = s.que r := (tget_tput ..).trans (if_neg h)
theorem que_setQue (s : State) (x : Que) : (s.setQue q x).que r = if r = q then x else s.que r := tget_tput ..
@[simp] theorem que_modQue_same (s : State) (q : Nat) (f : Que → Que) : (s.modQue q f).que q = f (s.que q) := que_setQue_same ..
theorem que_modQue_ne (s : State) (f : Que → Que) (h : r ≠ q) : (s.modQue q f).que r = s.que r := que_setQue_ne _ _ h
@[simp] theorem que_wr (s : State) (a : Nat) (w : Word) (q : Nat) : (s.wr a w).que q = s.que q := rfl
@[simp] theorem que_wrN (s : State) (a w q : Nat) : (s.wrN a w).que q = s.que q := rfl
@[simp] theorem que_inc (s : State) (a q : Nat) : (s.inc a).que q = s.que q := rfl
@[simp] theorem que_toHost (s : State) (o : HostOut) (q : Nat) : (s.toHost o).que q = s.que q := rfl

/-! ### The queue manager (R497, Table 16-5) -/

/-- QM_QSTS after a command whose code denies nothing. -/
theorem qStatus_eq {code : Nat} (h : code ≠ E_IMG_RES_BUSY) : qStatus q code s = (s.modQue q fun x => { x with status := code }).wrN QM_QSTS
    (code % 2 ^ 16 * 2 ^ 16 + (s.que q).st) := by
  unfold qStatus
  dsimp only
  rw [que_modQue_same]
  exact if_neg (by simpa using h)

/-- What a command that ends with a code leaves: the queue's state and its status. -/
theorem qStatus_spec {code : Nat} (h : code ≠ E_IMG_RES_BUSY) (f : Que → Que) :
    ∃ t, qStatus q code (s.modQue q f) = t ∧ t.que q = { f (s.que q) with status := code } ∧ (∀ r, r ≠ q → t.que r = s.que r)
      ∧ t.rd QM_QSTS = BitVec.ofNat 64 (code % 2 ^ 16 * 2 ^ 16 + (f (s.que q)).st) ∧ s.keeps t [QM_QSTS] ∧ { t with regs := s.regs, hif := s.hif } = s := by
  refine ⟨_, qStatus_eq h, ?_, fun r hr => ?_, ?_, keeps_wrN (keeps_of_regs (keeps_rfl s _) rfl) (by simp), rfl⟩
  · rw [que_wrN, que_modQue_same, que_modQue_same]
  · rw [que_wrN, que_modQue_ne _ _ hr, que_modQue_ne _ _ hr]
  · rw [State.wrN, rd_wr_same, que_modQue_same]

theorem forEach_range_succ (f : Nat → State → State) (n : Nat) (s : State) :
    forEach (List.range (n + 1)) s f = f n (forEach (List.range n) s f) := by
  simp [forEach, List.range_succ]

/-- Registers of a row that are written each with its own value. -/
theorem rd_forEach_wrN {a v : Nat → Nat} (ha : Function.Injective a) (s : State) (hi : i < n) :
    (forEach (List.range n) s fun i s => s.wrN (a i) (v i)).rd (a i) = BitVec.ofNat 64 (v i) := by
  induction n with
  | zero => exact absurd hi (Nat.not_lt_zero i)
  | succ n ih =>
    rw [forEach_range_succ]
    obtain hlt | rfl := Nat.lt_succ_iff_lt_or_eq.1 hi
    · exact (rd_wrN_ne _ _ _ _ fun h => Nat.ne_of_lt hlt (ha h)).trans (ih hlt)
    · exact rd_wr_same ..

theorem onlyRegs_forEach_wrN (a v : Nat → Nat) (n : Nat) (s : State) :
    s.onlyRegs (forEach (List.range n) s fun i s => s.wrN (a i) (v i)) ((List.range n).map a) :=
  forEach_induct (P := fun t => s.onlyRegs t ((List.range n).map a)) (onlyRegs_rfl s _) fun _ hi _ ht => onlyRegs_andWr ht (List.mem_map_of_mem hi)

theorem qd_injective : Function.Injective QM_QD := fun i j h => by
  unfold QM_QD at h
  omega

theorem qd_ne (i : Nat) : QM_QD i ≠ QM_QIDX ∧ QM_QD i ≠ QM_QSTS ∧ QM_QD i ≠ QM_QPROD ∧ QM_QD i ≠ QM_QCONS := by
  unfold QM_QD QM_QIDX QM_QSTS QM_QPROD QM_QCONS
  omega

theorem qidx_spec (hopen : s.opens QM_QIDX) (hv : v < 2 ^ 18) : ∃ t, exec (.qmQidxWrite v) s = .next t ∧ t.rdN QM_QIDX = v
      ∧ (∀ i, i < 8 → t.rd (QM_QD i) = BitVec.ofNat 64 ((s.que v).w i))
      ∧ t.rd QM_QSTS = BitVec.ofNat 64 ((s.que v).status % 2 ^ 16 * 2 ^ 16 + (s.que v).st)
      ∧ t.rd QM_QPROD = BitVec.ofNat 64 (s.que v).prod ∧ t.rd QM_QCONS = BitVec.ofNat 64 (s.que v).cons
      ∧ s.onlyRegs t (QM_QIDX :: QM_QSTS :: QM_QPROD :: QM_QCONS :: (List.range 8).map QM_QD) := by
  obtain ⟨u, hu⟩ : ∃ u, u = forEach (List.range 8) (s.wrN QM_QIDX v) fun i t => t.wrN (QM_QD i) ((s.que v).w i) := ⟨_, rfl⟩
  have hshow : qidxWrite v s = ((u.wrN QM_QSTS ((s.que v).status % 2 ^ 16 * 2 ^ 16 + (s.que v).st)).wrN QM_QPROD (s.que v).prod).wrN QM_QCONS (s.que v).cons := by
    unfold qidxWrite showQue
    rw [Nat.mod_eq_of_lt hv, hu]
    rfl
  have honly : (s.wrN QM_QIDX v).onlyRegs u ((List.range 8).map QM_QD) := hu ▸ onlyRegs_forEach_wrN ..
  have hidx : QM_QIDX ∉ (List.range 8).map QM_QD := fun h => by
    obtain ⟨i, -, hi⟩ := List.mem_map.1 h
    exact (qd_ne i).1 hi
  refine ⟨_, next_hostWr hopen hshow, ?_, fun i hi => ?_, ?_, ?_, rd_wr_same .., ?_⟩
  · rw [rdN_wrN_ne _ _ _ _ (by decide), rdN_wrN_ne _ _ _ _ (by decide), rdN_wrN_ne _ _ _ _ (by decide), rdN_of_keeps honly.2 hidx]
    exact (rdN_wrN ..).trans (Nat.mod_eq_of_lt (by omega))
  · obtain ⟨-, hsts, hprod, hcons⟩ := qd_ne i
    rw [rd_wrN_ne _ _ _ _ hcons, rd_wrN_ne _ _ _ _ hprod, rd_wrN_ne _ _ _ _ hsts, hu]
    exact rd_forEach_wrN qd_injective _ hi
  · rw [rd_wrN_ne _ _ _ _ (by decide), rd_wrN_ne _ _ _ _ (by decide)]
    exact rd_wr_same ..
  · rw [rd_wrN_ne _ _ _ _ (by decide)]
    exact rd_wr_same ..
  · exact onlyRegs_andWr (onlyRegs_andWr (onlyRegs_andWr (onlyRegs_trans (onlyRegs_wr s QM_QIDX _) honly (List.cons_subset_cons _ (List.nil_subset _))
      fun a ha => by simp only [List.mem_cons]; tauto) (by simp)) (by simp)) (by simp)

theorem qWrite_spec (hopen : s.opens QM_QCMD) (hoff : (s.que s.qidx).st = qOFF) : ∃ t, exec .qmWrite s = .next t
      ∧ t.que s.qidx = { s.que s.qidx with desc := (List.range 8).map fun i => s.rdN (QM_QD i), status := 0 }
      ∧ (∀ r, r ≠ s.qidx → t.que r = s.que r) ∧ t.rdN QM_QSTS = qOFF ∧ s.keeps t [QM_QSTS] ∧ { t with regs := s.regs, hif := s.hif } = s := by
  obtain ⟨t, ht, hque, hother, hsts, hkeep, hframe⟩ := qStatus_spec (s := s) (q := s.qidx) (code := 0) (by decide)
    fun x => { x with desc := (List.range 8).map fun i => s.rdN (QM_QD i) }
  have hw : qWrite s = t := (if_neg (not_not_intro hoff)).trans ht
  refine ⟨t, next_hostWr hopen hw, hque, hother, ?_, hkeep, hframe⟩
  rw [State.rdN, hsts, hoff]
  rfl

theorem qEnable_spec (hopen : s.opens QM_QCMD) (hoff : (s.que s.qidx).st = qOFF) (hcheck : s.enableCheck s.qidx = 0) :
    ∃ t, exec .qmEnable s = .next t
      ∧ t.que s.qidx = { (default : Que) with desc := (s.que s.qidx).desc, lost := (s.que s.qidx).lost, st := qACTIVE }
      ∧ (∀ r, r ≠ s.qidx → t.que r = s.que r) ∧ t.rdN QM_QSTS = qACTIVE ∧ t.rdN QM_QPROD = 0 ∧ t.rdN QM_QCONS = 0
      ∧ s.keeps t [QM_QSTS, QM_QPROD, QM_QCONS] ∧ { t with regs := s.regs, hif := s.hif } = s := by
  obtain ⟨t, ht, hque, hother, hsts, hkeep, hframe⟩ := qStatus_spec (s := s) (q := s.qidx) (code := 0) (by decide)
    fun x => { (default : Que) with desc := x.desc, lost := x.lost, st := qACTIVE }
  have hen : qEnable s = (t.wrN QM_QPROD 0).wrN QM_QCONS 0 := by
    unfold qEnable
    dsimp only
    rw [if_neg (not_not_intro hoff), if_neg (not_not_intro hcheck), ht]
  refine ⟨_, next_hostWr hopen hen, hque, hother, ?_, ?_, ?_,
    keeps_wrN (keeps_wrN (keeps_mono hkeep (by simp)) (by simp)) (by simp), hframe⟩
  · rw [rdN_wrN_ne _ _ _ _ (by decide), rdN_wrN_ne _ _ _ _ (by decide), State.rdN, hsts]
    rfl
  · exact (rdN_wrN_ne _ _ _ _ (by decide)).trans (rdN_wrN ..)
  · exact rdN_wrN ..

theorem qDisable_spec (hopen : s.opens QM_QCMD)
    (hn : n = (if (s.que s.qidx).st = qACTIVE then qDRAINING else if (s.que s.qidx).st = qHALTED then qOFF else (s.que s.qidx).st)) :
    ∃ t, exec .qmDisable s = .next t ∧ t.que s.qidx = { s.que s.qidx with st := n, status := 0 }
      ∧ (∀ r, r ≠ s.qidx → t.que r = s.que r) ∧ t.rd QM_QSTS = BitVec.ofNat 64 n ∧ s.keeps t [QM_QSTS]
      ∧ { t with regs := s.regs, hif := s.hif } = s := by
  obtain ⟨t, ht, hque, hother, hsts, hkeep, hframe⟩ := qStatus_spec (s := s) (q := s.qidx) (code := 0) (by decide) fun x => { x with st := n }
  have hdis : qDisable s = t := ht ▸ hn ▸ rfl
  exact ⟨t, next_hostWr hopen hdis, hque, hother, hsts.trans (congrArg (BitVec.ofNat 64) (Nat.zero_add n)), hkeep, hframe⟩

theorem qResume_spec (hopen : s.opens QM_QCMD) (hhalt : (s.que s.qidx).st = qHALTED) : ∃ t, exec .qmResume s = .next t
      ∧ t.que s.qidx = { s.que s.qidx with st := qACTIVE, status := 0 } ∧ (∀ r, r ≠ s.qidx → t.que r = s.que r)
      ∧ t.rdN QM_QSTS = qACTIVE ∧ s.keeps t [QM_QSTS] ∧ { t with regs := s.regs, hif := s.hif } = s := by
  obtain ⟨t, ht, hque, hother, hsts, hkeep, hframe⟩ := qStatus_spec (s := s) (q := s.qidx) (code := 0) (by decide) fun x => { x with st := qACTIVE }
  have hres : qResume s = t := (if_neg (not_not_intro hhalt)).trans ht
  refine ⟨t, next_hostWr hopen hres, hque, hother, ?_, hkeep, hframe⟩
  rw [State.rdN, hsts]
  rfl

theorem qCommand_refused {c : Instr} (hopen : s.opens QM_QCMD) (hc : c ∈ [Instr.qmWrite, .qmEnable, .qmResume])
    (hres : c = Instr.qmResume → (s.que s.qidx).st ≠ qHALTED) (hoff : c ≠ Instr.qmResume → (s.que s.qidx).st ≠ qOFF) :
    ∃ t, exec c s = .next t ∧ t.que s.qidx = { s.que s.qidx with status := E_QM_STATE } ∧ s.keeps t [QM_QSTS]
      ∧ { t with regs := s.regs, hif := s.hif } = s := by
  have href : exec c s = .next (qStatus s.qidx E_QM_STATE s) := by
    obtain rfl | rfl | rfl : c = .qmWrite ∨ c = .qmEnable ∨ c = .qmResume := by simpa using hc
    · exact next_hostWr hopen (if_pos (hoff nofun))
    · exact next_hostWr hopen (if_pos (hoff nofun))
    · exact next_hostWr hopen (if_pos (hres rfl))
  refine ⟨_, href, ?_, ?_, ?_⟩ <;> rw [qStatus_eq (by decide)]
  · rw [que_wrN, que_modQue_same]
  · exact keeps_wrN (keeps_of_regs (keeps_rfl s _) rfl) (by simp)
  · rfl

theorem queueDrained_spec (hst : (s.que q).st = qDRAINING) (hdone : ∀ d ∈ (s.que q).descs, d.done = true) (hspill : (s.que q).spill = [])
    (hsvc : s.svcFrom q = false) : ∃ t, exec (.queueDrained q) s = .next t ∧ t.que q = { s.que q with st := qOFF }
      ∧ (∀ r, r ≠ q → t.que r = s.que r) ∧ { t with hif := s.hif } = s :=
  ⟨_, congrArg Host.Outcome.next (if_pos ⟨hst, List.all_eq_true.2 hdone, hspill, by simp [hsvc]⟩), que_modQue_same .., fun _ hr => que_modQue_ne _ _ hr, rfl⟩

/-! ### Doorbells (R494, R499, R510) -/

theorem next_hostBar {f : State → State} (hbar : s.barUp = true) (hf : f s = t) :
    (.next (hostBar f s) : Host.Outcome State Fault Refusal) = .next t := congrArg _ ((if_pos hbar).trans hf)

theorem doorbell_eq (hv : v < 2 ^ 21) (hopen : s.qClosed q = false)
    (hst : (s.que q).st = qACTIVE ∨ (s.que q).st = qDRAINING ∧ (s.que q).kind = kRESULT) : queueDoorbell q 8 v s
      = if (s.que q).kind = kRESULT then
          if 2 * (s.que q).entries ≤ v ∨ (s.que q).dist (s.que q).cons (s.que q).prod < (s.que q).dist (s.que q).cons v then dbDrop q 0x11 s
          else unspill q (64 * (s.que q).spillPages) (s.modQue q fun x => { x with cons := v })
        else
          if 2 * (s.que q).entries ≤ v ∨ (s.que q).entries < (s.que q).dist (s.que q).cons v
            ∨ (s.que q).dist (s.que q).cons v < (s.que q).dist (s.que q).cons (s.que q).prod then dbDrop q 0x11 s
          else s.modQue q fun x => { x with prod := v } := by
  unfold queueDoorbell
  dsimp only
  rw [if_neg (by decide), if_neg (Nat.not_le.2 hv), if_neg (by simp [hopen]), if_neg]
  rintro ⟨hact, hdr⟩
  exact hst.elim hact hdr

theorem unspill_of_nil (h : (s.que q).spill = []) (n : Nat) : unspill q n s = s := by
  cases n with
  | zero => rfl
  | succ n => rw [unspill, h]

theorem producer_spec (hbar : s.barUp = true) (hopen : s.qClosed q = false) (hst : (s.que q).st = qACTIVE) (hk : (s.que q).kind ≠ kRESULT)
    (hv : v < 2 ^ 21) (hlt : v < 2 * (s.que q).entries) (hd : (s.que q).dist (s.que q).cons v ≤ (s.que q).entries)
    (hmove : (s.que q).dist (s.que q).cons (s.que q).prod ≤ (s.que q).dist (s.que q).cons v) : ∃ t, exec (.queueDoorbell q 8 v) s = .next t
      ∧ t.que q = { s.que q with prod := v } ∧ (∀ r, r ≠ q → t.que r = s.que r) ∧ { t with hif := s.hif } = s := by
  have h := doorbell_eq hv hopen (.inl hst)
  rw [if_neg hk, if_neg (by omega)] at h
  exact ⟨_, next_hostBar hbar h, que_modQue_same .., fun _ hr => que_modQue_ne _ _ hr, rfl⟩

theorem consumer_spec (hbar : s.barUp = true) (hopen : s.qClosed q = false) (hst : (s.que q).st = qACTIVE ∨ (s.que q).st = qDRAINING)
    (hk : (s.que q).kind = kRESULT) (hv : v < 2 ^ 21) (hlt : v < 2 * (s.que q).entries)
    (hmove : (s.que q).dist (s.que q).cons v ≤ (s.que q).dist (s.que q).cons (s.que q).prod) (hspill : (s.que q).spill = []) :
    ∃ t, exec (.queueDoorbell q 8 v) s = .next t
      ∧ t.que q = { s.que q with cons := v } ∧ (∀ r, r ≠ q → t.que r = s.que r) ∧ { t with hif := s.hif } = s := by
  have h := doorbell_eq hv hopen (hst.imp_right fun h => ⟨h, hk⟩)
  rw [if_pos hk, if_neg (by omega), unspill_of_nil (by rw [que_modQue_same]; exact hspill)] at h
  exact ⟨_, next_hostBar hbar h, que_modQue_same .., fun _ hr => que_modQue_ne _ _ hr, rfl⟩

theorem doorbell_refused (hbar : s.barUp = true) (hq : q < 2 ^ 18) (hopen : s.qClosed q = false) (hst : (s.que q).st = qACTIVE) (hv : v < 2 ^ 21)
    (hge : 2 * (s.que q).entries ≤ v) : ∃ t, exec (.queueDoorbell q 8 v) s = .next t
      ∧ t.rdN HIF_DB_DROP_CNT = min 0xFFFFFFFF (s.rdN HIF_DB_DROP_CNT + 1)
      ∧ t.rdN HIF_DB_ERR = 0x11 * 2 ^ 18 + q ∧ s.onlyRegs t [HIF_DB_DROP_CNT, HIF_DB_ERR] := by
  have h := doorbell_eq hv hopen (.inl hst)
  rw [if_pos (c := _ ∨ _) (.inl hge), if_pos (c := _ ∨ _) (.inl hge), ite_self] at h
  refine ⟨_, next_hostBar hbar h, ?_, ?_, onlyRegs_andWr (onlyRegs_andWr (onlyRegs_rfl s _) (by simp)) (by simp)⟩
  · exact (rdN_wrN_ne _ _ _ _ (by decide)).trans (rdN_inc ..)
  · exact (rdN_wrN ..).trans (Nat.mod_eq_of_lt (by omega))

theorem fence_spec (hbar : s.barUp = true) (hst : (s.que q).st = qACTIVE) (hk : (s.que q).kind = kRESULT) :
    ∃ t, exec (.qmFenceDoorbell q 8 0) s = .next t
      ∧ t.que q = { s.que q with fences := (s.que q).fences ++ [s.tb1] } ∧ (∀ r, r ≠ q → t.que r = s.que r) ∧ { t with hif := s.hif } = s := by
  have hf : fenceDoorbell q 8 0 s = s.modQue q fun x => { x with fences := x.fences ++ [s.tb1] } := by
    unfold fenceDoorbell
    dsimp only
    rw [if_neg (by decide), if_neg (by decide), if_neg (not_not_intro hst), if_neg (not_not_intro hk)]
  exact ⟨_, next_hostBar hbar hf, que_modQue_same .., fun _ hr => que_modQue_ne _ _ hr, rfl⟩

/-! ### The queue of a yard (R511) -/

theorem yqid_taken (hopen : s.opens (QM_YQID y)) (hv : v < 2 ^ 18) (hmay : s.yardMay y 6 v = true) (hidle : s.yIdle y = true) :
    ∃ t, exec (.qmYqidWrite y v) s = .next t ∧ t.rdN (QM_YQID y) = v ∧ s.onlyRegs t [QM_YQID y] := by
  have hw : (yqidWrite y v s).1 = s.wrN (QM_YQID y) v := by
    unfold yqidWrite
    rw [Nat.mod_eq_of_lt hv, if_neg (not_not_intro hmay), if_neg (not_not_intro hidle)]
  exact ⟨_, next_hostWr hopen hw, (rdN_wrN ..).trans (Nat.mod_eq_of_lt (by omega)), onlyRegs_wr ..⟩

theorem yqid_denied (hopen : s.opens (QM_YQID y)) (hy : y < 64) (hv : v < 2 ^ 18) (hmay : s.yardMay y 6 v = false) :
    ∃ t, exec (.qmYqidWrite y v) s = .next t
      ∧ t.rdN IMG_DENY = v * 2 ^ 32 + 6 * 2 ^ 24 + 2 ^ 16 + y ∧ t.rdN IMG_DENY_CNT = min 0xFFFFFFFF (s.rdN IMG_DENY_CNT + 1)
      ∧ s.onlyRegs t [IMG_DENY, IMG_DENY_CNT] := by
  have hw : (yqidWrite y v s).1 = s.deny 6 v 1 y := by
    unfold yqidWrite
    rw [Nat.mod_eq_of_lt hv, if_pos (by simp [hmay])]
  obtain ⟨hcnt, honly⟩ := deny_spec s 6 v 1 y
  refine ⟨_, next_hostWr hopen hw, ?_, hcnt, honly⟩
  refine (rdN_inc_ne _ _ _ (by decide)).trans ((rdN_wrN ..).trans ?_)
  omega

end

/-! ### The obligation -/

/-- Settles O44: a command of the queue manager moves the state of the queue it names, and a doorbell one of its indices. -/
theorem queueManagerCommandsAndDoorbells : Obligations.QueueManagerCommandsAndDoorbells := by
  unfold Obligations.QueueManagerCommandsAndDoorbells
  refine ⟨?_, ?_, ?_, ?_, ?_, ?_, ?_, ?_, ?_, ?_, ?_, ?_, ?_⟩
  · exact fun _ _ hopen hv => qidx_spec hopen hv
  · exact fun _ hopen hoff => qWrite_spec hopen hoff
  · exact fun _ hopen hoff hcheck => qEnable_spec hopen hoff hcheck
  · exact fun _ _ hopen hn => qDisable_spec hopen hn
  · exact fun _ hopen hhalt => qResume_spec hopen hhalt
  · exact fun _ _ hopen hc hres hoff => qCommand_refused hopen hc hres hoff
  · exact fun _ _ hst hdone hspill hsvc => queueDrained_spec hst hdone hspill hsvc
  · exact fun _ _ _ hbar hopen hst hk hv hlt hd hmove => producer_spec hbar hopen hst hk hv hlt hd hmove
  · exact fun _ _ _ hbar hopen hst hk hv hlt hmove hspill => consumer_spec hbar hopen hst hk hv hlt hmove hspill
  · exact fun _ _ _ hbar hq hopen hst hv hge => doorbell_refused hbar hq hopen hst hv hge
  · exact fun _ _ hbar hst hk => fence_spec hbar hst hk
  · exact fun _ _ _ hopen _ hv hmay hidle => yqid_taken hopen hv hmay hidle
  · exact fun _ _ _ hopen hy hv hmay => yqid_denied hopen hy hv hmay

end Sys2Proof.Laws
end

section
namespace Sys2Proof.Laws
open Sys2Proof.Machine

-- One theorem after another: a thread for each of them passes the memory limit of the check.
set_option Elab.async false

section
variable {s t u : State} {q r n y prod : Nat} {x : Que} {ws : List Nat}

/-! ### Entries in a ring (R507 to R509, R512) -/

/-- A state that differs in the host interface only. -/
theorem eq_of_hifOnly (h : { t with hif := s.hif } = s) : t = { s with hif := t.hif } := by
  rw [← h]

/-- A queue that one more entry has reached, with no interrupt for it. -/
def entryTaken (now : Nat) (x : Que) : Que :=
  { x with prod := x.next x.prod 1, lost := false, irqN := x.irqN + 1, irqAt := if x.irqAt.isNone then some now else x.irqAt }

/-- What the next entry of a ring in host memory sends: the entry and the index write-back. -/
def entrySent (x : Que) (ws : List Nat) : List HostOut :=
  HostOut.mem (x.base + 64 * (x.prod % x.entries)) (wordBytes ws) :: (if x.wb = 0 then [] else [HostOut.mem x.wb (le 8 (x.next x.prod 1))])

theorem writeBack_spec (q i : Nat) (s : State) : ∃ o, writeBack q i s = { s with hif := { s.hif with out := o } }
    ∧ o = s.hif.out ++ (if (s.que q).wb = 0 then [] else [HostOut.mem (s.que q).wb (le 8 i)]) := by
  unfold writeBack
  dsimp only
  by_cases h : (s.que q).wb = 0
  · rw [if_pos h, if_pos h]
    exact ⟨s.hif.out, rfl, (List.append_nil _).symm⟩
  · rw [if_neg h, if_neg h]
    exact ⟨_, rfl, rfl⟩

theorem qVisible_silent (h : (s.que q).irqEn = false) (n : Nat) : qVisible q n s = s.setQue q { s.que q with
    irqN := (s.que q).irqN + n, irqAt := if (s.que q).irqAt.isNone then some s.clock.now else (s.que q).irqAt } := by
  unfold qVisible
  dsimp only
  rw [if_neg (by simp [h])]

theorem takeSlot_spec (hloc : (s.que q).loc = false) (hirq : (s.que q).irqEn = false) (hlost : (s.que q).lost = false) (ws : List Nat) :
    ∃ t, takeSlot q ws s = t ∧ t.que q = entryTaken s.clock.now (s.que q) ∧ t.hif.out = s.hif.out ++ entrySent (s.que q) ws
      ∧ (∀ r, r ≠ q → t.que r = s.que r) ∧ t.hif.ins = s.hif.ins ∧ { t with hif := s.hif } = s := by
  obtain ⟨x, hx⟩ : ∃ x, x = s.que q := ⟨_, rfl⟩
  rw [← hx] at hloc hirq hlost ⊢
  obtain ⟨u, hu⟩ : ∃ u, u = (s.toHost (.mem (x.base + 64 * (x.prod % x.entries)) (wordBytes ws))).modQue q fun y =>
    { y with prod := x.next x.prod 1 } := ⟨_, rfl⟩
  have huq : u.que q = { x with prod := x.next x.prod 1 } := by rw [hu, que_modQue_same, que_toHost, ← hx]
  obtain ⟨o, hwb, ho⟩ := writeBack_spec q (x.next x.prod 1) u
  have hslot : takeSlot q ws s = qVisible q 1 (writeBack q (x.next x.prod 1) u) := by
    unfold takeSlot ringWrite
    dsimp only
    rw [← hx, if_neg (by simp [hloc]), hu]
  obtain ⟨v, hv⟩ : ∃ v, v = { u with hif := { u.hif with out := o } } := ⟨_, rfl⟩
  have hvq : v.que q = { x with prod := x.next x.prod 1 } := hv ▸ huq
  have hvis : takeSlot q ws s = v.setQue q (entryTaken s.clock.now x) := by
    have hnow : v.clock.now = s.clock.now := by rw [hv, hu]; rfl
    rw [hslot, hwb, ← hv, qVisible_silent (by rw [hvq]; exact hirq), hvq, hnow, entryTaken, ← hlost]
  have hout : v.hif.out = s.hif.out ++ entrySent x ws := by
    rw [hv, ho, huq, hu]
    exact List.append_assoc ..
  have hframe : { v with hif := s.hif } = s := by rw [hv, hu]; rfl
  refine ⟨_, hvis, que_setQue_same .., hout, fun r hr => (que_setQue_ne _ _ hr).trans ?_, ?_, hframe⟩
  · have hur : u.que r = s.que r := by rw [hu, que_modQue_ne _ _ hr, que_toHost]
    rw [hv]
    exact hur
  · rw [hv, hu]
    rfl

/-- A record that the ring takes. -/
theorem placeEntry_slot (hx : x = s.que q) (hst : x.st = qACTIVE) (hk : x.kind = kRESULT) (hloc : x.loc = false) (hup : s.hif.down = false)
    (hirq : x.irqEn = false) (hspill : x.spill = []) (hroom : x.dist x.cons x.prod < x.entries) (ws : List Nat) :
    ∃ t, placeEntry q true ws s = t ∧ t.que q = entryTaken s.clock.now x
      ∧ t.hif.out = s.hif.out ++ entrySent x (if x.lost = true then markEntry 9 ws else ws)
      ∧ (∀ r, r ≠ q → t.que r = s.que r) ∧ t.hif.ins = s.hif.ins ∧ { t with hif := s.hif } = s := by
  obtain ⟨u, hu⟩ : ∃ u, u = s.modQue q fun x => { x with lost := false } := ⟨_, rfl⟩
  have huq : u.que q = { x with lost := false } := by rw [hu, que_modQue_same, hx]
  have hplace : placeEntry q true ws s = takeSlot q (if x.lost = true then markEntry 9 ws else ws) u := by
    unfold placeEntry
    dsimp only
    rw [← hx, if_neg (by simp [hst, hk]), if_pos ⟨hroom, hspill, by simp [hup]⟩, hu]
    simp only [and_true]
  obtain ⟨t, ht, hque, hout, hother, hins, hframe⟩ := takeSlot_spec (s := u) (q := q) (by rw [huq]; exact hloc) (by rw [huq]; exact hirq) (by rw [huq])
    (if x.lost = true then markEntry 9 ws else ws)
  refine ⟨t, hplace.trans ht, ?_, ?_, fun r hr => (hother r hr).trans (hu ▸ que_modQue_ne _ _ hr),
    hins.trans (hu ▸ rfl), ?_⟩
  · rw [hque, huq, hu]
    rfl
  · rw [hout, huq, hu]
    rfl
  · rw [eq_of_hifOnly hframe, hu]
    rfl

/-- A record with no room in the ring, taken by the spill. -/
theorem placeEntry_spilled (hx : x = s.que q) (hst : x.st = qACTIVE) (hk : x.kind = kRESULT) (hfull : x.entries ≤ x.dist x.cons x.prod)
    (hroom : x.spill.length < 64 * x.spillPages) (ws : List Nat) : placeEntry q true ws s
      = (s.modQue q fun x => { x with lost := false, spill := x.spill ++ [if (s.que q).lost = true then markEntry 9 ws else ws] }).inc QM_SPILL_CNT := by
  unfold placeEntry
  dsimp only
  rw [← hx, if_neg (by simp [hst, hk]), if_neg (by omega), if_pos hroom]
  simp only [and_true]

/-- A record that neither ring nor spill takes. -/
theorem placeEntry_dropped (hx : x = s.que q)
    (h : x.st ≠ qACTIVE ∨ x.kind ≠ kRESULT ∨ (x.entries ≤ x.dist x.cons x.prod ∧ 64 * x.spillPages ≤ x.spill.length)) (ws : List Nat) :
    placeEntry q true ws s = (s.modQue q fun x => { x with lost := true }).inc QM_DROP_CNT := by
  unfold placeEntry
  dsimp only
  rw [← hx]
  split
  next => rfl
  next hact =>
    have hfull : x.entries ≤ x.dist x.cons x.prod ∧ 64 * x.spillPages ≤ x.spill.length := by tauto
    rw [if_neg (by omega), if_neg (by omega)]

/-! ### Records (R508 to R510) -/

/-- A record leaves its producer. -/
def recLeft (prod : Nat) (r : Rec) (s : State) : State :=
  ({ s with bus := { s.bus with recs := s.bus.recs.erase r } }).when (decide (prod < 64)) fun s => s.modMast prod fun m => { m with outRes := m.outRes - 1 }

theorem recLeft_spec (prod : Nat) (r : Rec) (s : State) : ∃ k, recLeft prod r s
      = { s with bus := { s.bus with recs := s.bus.recs.erase r }, seq := { s.seq with masts := k } }
    ∧ ∀ y, tget k y = if y = prod ∧ prod < 64 then { s.mast y with outRes := (s.mast y).outRes - 1 } else s.mast y := by
  unfold recLeft
  by_cases h : prod < 64
  · rw [when_of_true _ (decide_eq_true h)]
    refine ⟨_, rfl, fun y => ?_⟩
    by_cases hy : y = prod
    · subst hy
      rw [if_pos ⟨rfl, h⟩]
      exact tget_tput_same ..
    · rw [if_neg fun hy' => hy hy'.1]
      exact (tget_tput ..).trans (if_neg hy)
  · rw [when_of_false _ (decide_eq_false h)]
    exact ⟨s.seq.masts, rfl, fun y => (if_neg fun hy => h hy.2).symm⟩

theorem resultEntry_eq {rec : Rec} (hfind : s.bus.recs.find? (fun r => r.prod == prod) = some rec) (hf : (s.que rec.qid).fences = [])
    (hd : (s.que rec.qid).fenced = 0) (hsvc : s.serviceTakes prod = false) (hprod : prod < 80) (hc : rec.conts = []) :
    resultEntry prod s = placeEntry rec.qid true rec.words (recLeft prod rec s) := by
  obtain ⟨k, hk, -⟩ := recLeft_spec prod rec s
  have hsvc' : (recLeft prod rec s).serviceTakes prod = false := by rw [hk]; exact hsvc
  unfold resultEntry
  rw [hfind]
  dsimp only
  rw [hf, hd, ← recLeft, hc, if_neg (by simp), if_neg (by simp [hsvc'])]
  simp [State.when, hprod, forEach]

section
variable {rec : Rec} (hfind : s.bus.recs.find? (fun r => r.prod == prod) = some rec) (hx : x = s.que rec.qid) (hf : x.fences = [])
  (hd : x.fenced = 0) (hsvc : s.serviceTakes prod = false) (hprod : prod < 80) (hc : rec.conts = [])
include hfind hx hf hd hsvc hprod hc

theorem resultEntry_slot {ws : List Nat} (hst : x.st = qACTIVE) (hk : x.kind = kRESULT) (hloc : x.loc = false) (hup : s.hif.down = false)
    (hirq : x.irqEn = false) (hspill : x.spill = []) (hroom : x.dist x.cons x.prod < x.entries)
    (hws : ws = if x.lost = true then markEntry 9 rec.words else rec.words) : ∃ t, exec (.resultEntry prod) s = .next t
      ∧ t.que rec.qid = entryTaken s.clock.now x ∧ t.hif.out = s.hif.out ++ entrySent x ws
      ∧ (∀ q, q ≠ rec.qid → t.que q = s.que q) ∧ t.regs = s.regs ∧ t.bus = { s.bus with recs := s.bus.recs.erase rec }
      ∧ (∀ y, t.mast y = if y = prod ∧ prod < 64 then { s.mast y with outRes := (s.mast y).outRes - 1 } else s.mast y)
      ∧ { t with bus := s.bus, hif := s.hif, seq := s.seq } = s := by
  obtain ⟨k, hk', hmast⟩ := recLeft_spec prod rec s
  obtain ⟨t, ht, hque, hout, hother, -, hframe⟩ := placeEntry_slot (s := recLeft prod rec s) (q := rec.qid) (x := x) (by rw [hk']; exact hx) hst hk hloc
    (by rw [hk']; exact hup) hirq hspill hroom rec.words
  have hentry := (resultEntry_eq hfind (hx ▸ hf) (hx ▸ hd) hsvc hprod hc).trans ht
  rw [hk'] at hque hout hother hframe
  have htf := eq_of_hifOnly hframe
  refine ⟨t, congrArg Host.Outcome.next hentry, hque, hws ▸ hout, hother, ?_, ?_, fun y => ?_, ?_⟩
  · rw [htf]
  · rw [htf]
  · rw [htf]
    exact hmast y
  · rw [htf]

theorem resultEntry_spilled {ws : List Nat} (hst : x.st = qACTIVE) (hk : x.kind = kRESULT) (hfull : x.entries ≤ x.dist x.cons x.prod)
    (hroom : x.spill.length < 64 * x.spillPages) (hws : ws = if x.lost = true then markEntry 9 rec.words else rec.words) :
    ∃ t, exec (.resultEntry prod) s = .next t ∧ t.que rec.qid = { x with lost := false, spill := x.spill ++ [ws] }
      ∧ t.rdN QM_SPILL_CNT = min 0xFFFFFFFF (s.rdN QM_SPILL_CNT + 1) ∧ t.hif.out = s.hif.out ∧ s.keeps t [QM_SPILL_CNT]
      ∧ { t with regs := s.regs, bus := s.bus, hif := s.hif, seq := s.seq } = s := by
  obtain ⟨k, hk', -⟩ := recLeft_spec prod rec s
  have hxl : x = (recLeft prod rec s).que rec.qid := by rw [hk']; exact hx
  have hentry := (resultEntry_eq hfind (hx ▸ hf) (hx ▸ hd) hsvc hprod hc).trans (placeEntry_spilled hxl hst hk hfull hroom rec.words)
  have hkeep : s.keeps (recLeft prod rec s) [] := keeps_of_regs (keeps_rfl s _) (by rw [hk'])
  refine ⟨_, congrArg Host.Outcome.next hentry, ?_, ?_, ?_, ?_, ?_⟩
  · rw [que_inc, que_modQue_same, ← hxl, hws]
  · exact (rdN_inc ..).trans (congrArg (fun n => min 0xFFFFFFFF (n + 1)) (rdN_of_keeps hkeep List.not_mem_nil))
  · rw [hk']
    rfl
  · exact keeps_countUp (keeps_of_regs (keeps_mono hkeep (by simp)) rfl) (by simp)
  · rw [hk']
    rfl

theorem resultEntry_dropped (h : x.st ≠ qACTIVE ∨ x.kind ≠ kRESULT ∨ (x.entries ≤ x.dist x.cons x.prod ∧ 64 * x.spillPages ≤ x.spill.length)) :
    ∃ t, exec (.resultEntry prod) s = .next t ∧ t.que rec.qid = { x with lost := true }
      ∧ t.rdN QM_DROP_CNT = min 0xFFFFFFFF (s.rdN QM_DROP_CNT + 1) ∧ t.hif.out = s.hif.out ∧ s.keeps t [QM_DROP_CNT]
      ∧ t.bus = { s.bus with recs := s.bus.recs.erase rec } ∧ { t with regs := s.regs, bus := s.bus, hif := s.hif, seq := s.seq } = s := by
  obtain ⟨k, hk', -⟩ := recLeft_spec prod rec s
  have hxl : x = (recLeft prod rec s).que rec.qid := by rw [hk']; exact hx
  have hentry := (resultEntry_eq hfind (hx ▸ hf) (hx ▸ hd) hsvc hprod hc).trans (placeEntry_dropped hxl h rec.words)
  have hkeep : s.keeps (recLeft prod rec s) [] := keeps_of_regs (keeps_rfl s _) (by rw [hk'])
  refine ⟨_, congrArg Host.Outcome.next hentry, ?_, ?_, ?_, ?_, ?_, ?_⟩
  · rw [que_inc, que_modQue_same, ← hxl]
  · exact (rdN_inc ..).trans (congrArg (fun n => min 0xFFFFFFFF (n + 1)) (rdN_of_keeps hkeep List.not_mem_nil))
  · rw [hk']
    rfl
  · exact keeps_countUp (keeps_of_regs (keeps_mono hkeep (by simp)) rfl) (by simp)
  · rw [hk']
    rfl
  · rw [hk']
    rfl

end

theorem fencePlace_spec {f : Nat} {rest : List Nat} (hx : x = s.que q) (hf : x.fences = f :: rest)
    (hearlier : ∀ r ∈ s.bus.recs, r.qid = q → f < r.time) (hst : x.st = qACTIVE) (hk : x.kind = kRESULT) (hloc : x.loc = false)
    (hup : s.hif.down = false) (hirq : x.irqEn = false) (hspill : x.spill = []) (hroom : x.dist x.cons x.prod < x.entries) (hlost : x.lost = false)
    (hlt : f < 2 ^ 64) : ∃ t, exec (.fenceRecordPlace q) s = .next t
      ∧ t.que q = { x with fences := rest, fenced := f + 1, prod := x.next x.prod 1, irqN := x.irqN + 1, irqAt := if x.irqAt.isNone then some s.clock.now else x.irqAt }
      ∧ t.hif.out = s.hif.out ++ entrySent x [7 + 0x48 * 2 ^ 8, f, 0, 0, 0, 0, 0, 0] ∧ { t with hif := s.hif } = s := by
  obtain ⟨u, hu⟩ : ∃ u, u = s.modQue q fun x => { x with fences := rest, fenced := f + 1 } := ⟨_, rfl⟩
  have huq : { x with fences := rest, fenced := f + 1 } = u.que q := by rw [hu, que_modQue_same, hx]
  have hnone : (s.bus.recs.any fun r => r.qid == q && decide (r.time ≤ f)) = false :=
    List.any_eq_false.2 fun r hr => by simpa using hearlier r hr
  have hplace : fencePlace q s = placeEntry q true [7 + 0x48 * 2 ^ 8, f, 0, 0, 0, 0, 0, 0] u := by
    unfold fencePlace
    dsimp only
    rw [← hx, hf]
    dsimp only
    rw [if_neg (by simp [hnone]), ← hu, Nat.mod_eq_of_lt hlt]
    rfl
  obtain ⟨t, ht, hque, hout, -, -, hframe⟩ := placeEntry_slot huq hst hk hloc (by rw [hu]; exact hup) hirq hspill hroom [7 + 0x48 * 2 ^ 8, f, 0, 0, 0, 0, 0, 0]
  refine ⟨t, congrArg Host.Outcome.next (hplace.trans ht), ?_, ?_, ?_⟩
  · rw [hque, hu, entryTaken, ← hlost]
    rfl
  · rw [hout, hu]
    dsimp only
    rw [if_neg (by simp [hlost])]
    rfl
  · rw [eq_of_hifOnly hframe, hu]
    rfl

/-! ### Interrupts (R512) -/

theorem fireVec_spec (v : Nat) (s : State) : ∃ t, fireVec v s = t ∧ (∀ q, t.que q = s.que q)
      ∧ t.hif.out = s.hif.out ++ (if s.msix (4 * v + 3) % 2 = 1 then [] else [HostOut.irq v])
      ∧ (s.msix (4 * v + 3) % 2 = 1 → v ∈ t.hif.pba) ∧ { t with hif := s.hif } = s := by
  refine ⟨_, rfl, ?_⟩
  unfold fireVec
  by_cases h : s.msix (4 * v + 3) % 2 = 1
  · rw [if_pos h, if_pos h, List.append_nil]
    split
    next hc => exact ⟨fun _ => rfl, rfl, fun _ => List.contains_iff_mem.1 hc, rfl⟩
    next => exact ⟨fun _ => rfl, rfl, fun _ => List.mem_append_right _ (List.mem_singleton_self v), rfl⟩
  · rw [if_neg h, if_neg h]
    exact ⟨fun _ => rfl, rfl, fun h' => absurd h' h, rfl⟩

theorem irqTimer_spec (hat : (s.que q).irqAt = some n) (hen : (s.que q).irqEn = true) (hit : (s.que q).itime ≠ 0)
    (hdue : n + (s.que q).itime * 20000 ≤ s.clock.now) : ∃ t, exec (.irqTimer q) s = .next t ∧ t.que q = { s.que q with irqN := 0, irqAt := none }
      ∧ t.hif.out = s.hif.out ++ (if s.msix (4 * (s.que q).vec + 3) % 2 = 1 then [] else [HostOut.irq (s.que q).vec])
      ∧ (s.msix (4 * (s.que q).vec + 3) % 2 = 1 → (s.que q).vec ∈ t.hif.pba) ∧ { t with hif := s.hif } = s := by
  obtain ⟨u, hu⟩ : ∃ u, u = s.setQue q { s.que q with irqN := 0, irqAt := none } := ⟨_, rfl⟩
  obtain ⟨t, ht, hque, hout, hpba, hframe⟩ := fireVec_spec (s.que q).vec u
  have hfire : irqTimer q s = t := by
    unfold irqTimer
    dsimp only
    rw [hat]
    dsimp only
    rw [if_pos ⟨hen, hit, by rw [Nat.mul_assoc]; exact hdue⟩, ← hu, ht]
  refine ⟨t, congrArg Host.Outcome.next hfire, (hque q).trans (hu ▸ que_setQue_same ..), ?_, ?_, ?_⟩
  · rw [hout, hu]
    rfl
  · rw [hu] at hpba
    exact hpba
  · rw [eq_of_hifOnly hframe, hu]
    rfl

/-! ### BAR2 (R491 to R493, Table 17-8) -/

/-- A write that stays on its page. -/
theorem bar2Write_page {a : Nat} {bs : List (BitVec 8)} (h : bs.length ≤ bar2Left a) : bar2Write a bs s = bar2Piece a bs s := by
  unfold bar2Write
  dsimp only
  rw [if_neg (Nat.not_lt.2 h), List.take_of_length_le h]

theorem bar2Store_res {a : Nat} (hlo : 0x20000000 ≤ a) (hhi : a < 0x22000000) : bar2Store a = some (1, 0, a - 0x20000000) := by
  unfold bar2Store
  rw [if_neg (by omega), if_neg (by omega), if_pos ⟨hlo, hhi⟩]

theorem bar2Store_seq {y off : Nat} (hy : y < 64) (hoff : off < 0x40000) : bar2Store (0x10000000 + 0x40000 * y + off) = some (3, y, off) := by
  unfold bar2Store
  rw [if_neg (by omega), if_pos (by omega)]
  refine congrArg some (Prod.ext rfl (Prod.ext ?_ ?_)) <;> dsimp only <;> omega

theorem bar2Left_of_store {a k u off : Nat} (h : bar2Store a = some (k, u, off)) (hk : k ≠ 2) : bar2Left a = 4096 - a % 4096 := by
  unfold bar2Left
  rw [h]
  split
  next heq => exact absurd (congrArg Prod.fst (Option.some.inj heq)) hk
  next => rfl

theorem bar2Piece_open {a k u off : Nat} {bs : List (BitVec 8)} (h : bar2Store a = some (k, u, off)) (hopen : ∀ p, s.bar2Part k u off = some p → s.closed p = false) :
    bar2Piece a bs s = bar2Put k u off bs s := by
  have hnone : (s.bar2Part k u off).filter s.closed = none := by
    cases hp : s.bar2Part k u off with
    | none => rfl
    | some p => simp [hopen p hp]
  unfold bar2Piece
  rw [h]
  dsimp only
  rw [hnone]

theorem bar2_res {a : Nat} {bs : List (BitVec 8)} (hbar : s.barUp = true) (hlen : bs.length ≤ 4096 - a % 4096) (hlo : 0x20000000 ≤ a)
    (hhi : a < 0x22000000) (hopen : ∀ p, s.partOfInst 7 ((a - 0x20000000) / 4096) = some p → s.closed p = false) :
    ∃ t, exec (.bar2Write a bs) s = .next t ∧ t = { s with cnv := { s.cnv with res := stList s.cnv.res (a - 0x20000000) bs } } := by
  have hstore := bar2Store_res hlo hhi
  have hw := (bar2Write_page (s := s) (by rw [bar2Left_of_store hstore (by decide)]; exact hlen)).trans (bar2Piece_open (bs := bs) hstore hopen)
  exact ⟨_, next_hostBar hbar hw, rfl⟩

theorem bar2Write_seq {y off : Nat} {bs : List (BitVec 8)} (hlen : bs.length ≤ 4096 - off % 4096) (hy : y < 64) (hoff : off < 0x40000)
    (hopen : (s.comp y).present = true → s.closed (s.partOf y) = false) : bar2Write (0x10000000 + 0x40000 * y + off) bs s = seqPut y off bs s := by
  have hstore := bar2Store_seq hy hoff
  refine (bar2Write_page (by rw [bar2Left_of_store hstore (by decide)]; omega)).trans (bar2Piece_open hstore fun p hp => ?_)
  have hp' : (if (s.comp y).present = true then some (s.partOf y) else none) = some p := hp
  split at hp'
  next hpres => exact Option.some.inj hp' ▸ hopen hpres
  next => cases hp'

theorem bar2_seq {y off : Nat} {bs : List (BitVec 8)} (hbar : s.barUp = true) (hlen : bs.length ≤ 4096 - off % 4096) (hy : y < 64)
    (hoff : off < 0x40000) (hopen : (s.comp y).present = true → s.closed (s.partOf y) = false) (hidle : s.yIdle y = true) :
    ∃ t, exec (.bar2Write (0x10000000 + 0x40000 * y + off) bs) s = .next t
      ∧ t = { s with seq := { s.seq with store := stList s.seq.store (262144 * y + off) bs } } :=
  ⟨_, next_hostBar hbar ((bar2Write_seq hlen hy hoff hopen).trans (if_pos hidle)), rfl⟩

theorem bar2_seqBusy {y off : Nat} {bs : List (BitVec 8)} (hbar : s.barUp = true) (hlen : bs.length ≤ 4096 - off % 4096) (hy : y < 64)
    (hoff : off < 0x40000) (hopen : (s.comp y).present = true → s.closed (s.partOf y) = false) (hidle : s.yIdle y = false) :
    ∃ t, exec (.bar2Write (0x10000000 + 0x40000 * y + off) bs) s = .next t
      ∧ t.rdN (SEQ_WDROP_CNT y) = min 0xFFFFFFFF (s.rdN (SEQ_WDROP_CNT y) + 1) ∧ s.onlyRegs t [SEQ_WDROP_CNT y] :=
  ⟨_, next_hostBar hbar ((bar2Write_seq hlen hy hoff hopen).trans (if_neg (by simp [hidle]))), rdN_inc .., onlyRegs_inc ..⟩

theorem bar2_sealed {a p : Nat} {bs : List (BitVec 8)} (hbar : s.barUp = true) (hlen : bs.length ≤ 4096 - a % 4096) (hlo : 0x20000000 ≤ a)
    (hhi : a < 0x22000000) (hpart : s.partOfInst 7 ((a - 0x20000000) / 4096) = some p) (hp : p < 16) (hclosed : s.closed p = true) :
    ∃ t, exec (.bar2Write a bs) s = .next t ∧ t.rdN SHR_SEAL_DROP_CNT = min 0xFFFFFFFF (s.rdN SHR_SEAL_DROP_CNT + 1)
      ∧ t.rdN SHR_DENY = a * 2 ^ 24 + 2 * 2 ^ 20 + p * 2 ^ 16 + E_SHR_SEALED ∧ s.onlyRegs t [SHR_SEAL_DROP_CNT, SHR_DENY] := by
  have hstore := bar2Store_res hlo hhi
  have hfilter : (s.bar2Part 1 0 (a - 0x20000000)).filter s.closed = some p :=
    (congrArg (Option.filter s.closed) hpart).trans (by simp [hclosed])
  have hw : bar2Write a bs s = sealDrop a p s := by
    refine (bar2Write_page (by rw [bar2Left_of_store hstore (by decide)]; exact hlen)).trans ?_
    unfold bar2Piece
    rw [hstore]
    dsimp only
    rw [hfilter]
  refine ⟨_, next_hostBar hbar hw, ?_, ?_, onlyRegs_andWr (onlyRegs_andWr (onlyRegs_rfl s _) (by simp)) (by simp)⟩
  · exact (rdN_inc ..).trans (congrArg (fun n => min 0xFFFFFFFF (n + 1)) (rdN_wrN_ne _ _ _ _ (by decide)))
  · refine (rdN_inc_ne _ _ _ (by decide)).trans ((rdN_wrN ..).trans ?_)
    unfold E_SHR_SEALED
    omega

/-- No write through BAR2 changes the device's state. -/
theorem glbState_bar2Piece (a : Nat) (bs : List (BitVec 8)) (s : State) : (bar2Piece a bs s).rd GLB_STATE = s.rd GLB_STATE := by
  have hinc (t : State) (c : Nat) (h : GLB_STATE < c) : (t.inc c).rd GLB_STATE = t.rd GLB_STATE := rd_inc_ne _ _ _ (Nat.ne_of_lt h)
  have hput (k u off : Nat) : (bar2Put k u off bs s).rd GLB_STATE = s.rd GLB_STATE := by
    unfold bar2Put
    split
    next => rfl
    next =>
      unfold waveWrite State.when
      dsimp only
      split
      next => exact hinc _ _ (by unfold GLB_STATE HAL_WDROP_CNT; omega)
      next => rfl
    next =>
      unfold seqPut
      split
      next => rfl
      next => exact hinc _ _ (by unfold GLB_STATE SEQ_WDROP_CNT; omega)
    next =>
      unfold graphWrite
      dsimp only
      split
      next => exact hinc _ _ (by decide)
      next => rfl
    next =>
      split
      next => rfl
      next => exact hinc _ _ (by unfold GLB_STATE WCH_WDROP_CNT; omega)
  unfold bar2Piece
  split
  next => rfl
  next =>
    split
    next => exact (hinc _ _ (by decide)).trans (rd_wrN_ne _ _ _ _ (by decide))
    next => exact hput ..

theorem bar2Left_wave {a : Nat} (h : a < 0x4000000) : bar2Left a = 24576 - a % 0x1000000 % 24576 := by
  have hstore : bar2Store a = some (2, a / 0x1000000, a % 0x1000000) := if_pos h
  rw [bar2Left, hstore]
  rfl

theorem bar2Left_rest {a : Nat} (h : 0x4000000 ≤ a) : bar2Left a = 4096 - a % 4096 := by
  unfold bar2Left bar2Store
  rw [if_neg (Nat.not_lt.2 h)]
  split_ifs <;> rfl

/-- After the end of a page comes a whole page. -/
theorem bar2Left_next {a : Nat} (h : bar2Left a ≤ 512) : 512 ≤ bar2Left (a + bar2Left a) := by
  by_cases hw : a < 0x4000000
  · have hleft := bar2Left_wave hw
    have hleft' := bar2Left_wave (a := a + bar2Left a) (by omega)
    omega
  · have hleft := bar2Left_rest (Nat.not_lt.1 hw)
    have hleft' := bar2Left_rest (a := a + bar2Left a) (by omega)
    omega

theorem bar2_split {a : Nat} {bs : List (BitVec 8)} (hbar : s.barUp = true) (hn : n = bar2Left a) (hlt : n < bs.length) (hlen : bs.length ≤ 512) :
    ∃ u, exec (.bar2Write a (bs.take n)) s = .next u ∧ exec (.bar2Write a bs) s = exec (.bar2Write (a + n) (bs.drop n)) u := by
  have hfirst : bar2Write a (bs.take n) s = bar2Piece a (bs.take n) s :=
    bar2Write_page (by rw [← hn]; exact List.length_take_le ..)
  have hbar' : (bar2Piece a (bs.take n) s).barUp = true := by
    rw [State.barUp, State.dev, State.fld, glbState_bar2Piece]
    exact hbar
  have hrest : bar2Write (a + n) (bs.drop n) (bar2Piece a (bs.take n) s) = bar2Piece (a + n) (bs.drop n) (bar2Piece a (bs.take n) s) := by
    have hnext := bar2Left_next (a := a) (by omega)
    exact bar2Write_page (by rw [List.length_drop, hn]; omega)
  have hwhole : bar2Write a bs s = bar2Piece (a + n) (bs.drop n) (bar2Piece a (bs.take n) s) := by
    unfold bar2Write
    dsimp only
    rw [← hn, if_pos hlt]
  exact ⟨_, next_hostBar hbar hfirst, (next_hostBar hbar hwhole).trans (next_hostBar hbar' hrest).symm⟩

/-! ### PCIe (R490, R618) -/

/-- A queue at a PCIe reset. -/
def haltedQue (x : Que) : Que :=
  if x.st = qACTIVE ∧ x.kind ≠ kRESULT then { x with st := qHALTED, status := E_DMA_PCIE, descs := [], cons := x.fetch } else x

/-- What a PCIe reset does to one queue. -/
def resetQue (q : Nat) (s : State) : State :=
  if (s.que q).st = qACTIVE ∧ (s.que q).kind ≠ kRESULT then
    (forEach (s.que q).descs s loadFails).setQue q { s.que q with st := qHALTED, status := E_DMA_PCIE, descs := [], cons := (s.que q).fetch }
  else s

theorem haltedQue_idem (x : Que) : haltedQue (haltedQue x) = haltedQue x := by
  by_cases h : x.st = qACTIVE ∧ x.kind ≠ kRESULT
  · rw [haltedQue, haltedQue, if_pos h, if_neg fun h' => absurd (h'.1 : qHALTED = qACTIVE) (by decide)]
  · rw [haltedQue, haltedQue, if_neg h, if_neg h]

/-- The registers, the vectors and the link are as they were. -/
def resetSame (s t : State) : Prop := t.regs = s.regs ∧ t.hif.msix = s.hif.msix ∧ t.hif.pba = s.hif.pba ∧ t.hif.down = s.hif.down

theorem resetSame_trans (h : resetSame s t) (k : resetSame t u) : resetSame s u :=
  ⟨k.1.trans h.1, k.2.1.trans h.2.1, k.2.2.1.trans h.2.2.1, k.2.2.2.trans h.2.2.2⟩

theorem loadFails_frame (d : Desc) (s : State) : (loadFails d s).regs = s.regs ∧ (loadFails d s).hif = s.hif := by
  unfold loadFails
  split <;> exact ⟨rfl, rfl⟩

theorem resetQue_spec (q : Nat) (s : State) : resetSame s (resetQue q s) ∧ ∀ r, (resetQue q s).que r = if r = q then haltedQue (s.que r) else s.que r := by
  unfold resetQue
  split
  next h =>
    obtain ⟨u, hu⟩ : ∃ u, u = forEach (s.que q).descs s loadFails := ⟨_, rfl⟩
    have hloads : u.regs = s.regs ∧ u.hif = s.hif := hu ▸ forEach_induct (P := fun t => t.regs = s.regs ∧ t.hif = s.hif) ⟨rfl, rfl⟩
      fun d _ t ht => ⟨(loadFails_frame d t).1.trans ht.1, (loadFails_frame d t).2.trans ht.2⟩
    obtain ⟨hregs, hhif⟩ := hloads
    have hque (r : Nat) : u.que r = s.que r := by rw [State.que, hhif]; rfl
    rw [← hu]
    refine ⟨⟨hregs, (congrArg Hif.msix hhif :), (congrArg Hif.pba hhif :), (congrArg Hif.down hhif :)⟩, fun r => ?_⟩
    rw [que_setQue, hque]
    by_cases hr : r = q
    · rw [if_pos hr, if_pos hr, hr, haltedQue, if_pos h]
    · rw [if_neg hr, if_neg hr]
  next h =>
    refine ⟨⟨rfl, rfl, rfl, rfl⟩, fun r => ?_⟩
    by_cases hr : r = q
    · rw [if_pos hr, hr, haltedQue, if_neg h]
    · rw [if_neg hr]

theorem forEach_resetQue (qs : List Nat) (s : State) : resetSame s (forEach qs s resetQue)
    ∧ ∀ r, (forEach qs s resetQue).que r = if r ∈ qs then haltedQue (s.que r) else s.que r := by
  induction qs generalizing s with
  | nil => exact ⟨⟨rfl, rfl, rfl, rfl⟩, fun _ => rfl⟩
  | cons q qs ih =>
    obtain ⟨hsame, hque⟩ := resetQue_spec q s
    obtain ⟨hsame', hque'⟩ := ih (resetQue q s)
    refine ⟨resetSame_trans hsame hsame', fun r => (hque' r).trans ?_⟩
    rw [hque]
    by_cases hr : r = q
    · by_cases hmem : r ∈ qs <;> simp [hr, haltedQue_idem]
    · simp [hr]

theorem haltedQue_default : haltedQue default = default := rfl

theorem pcieReset_spec (s : State) : ∃ t, exec .pcieReset s = .next t ∧ t.rdN HIF_STS = 0 ∧ t.hif.msix = [] ∧ t.hif.pba = [] ∧ t.hif.down = true
      ∧ (∀ q, (s.que q).st = qACTIVE → (s.que q).kind ≠ kRESULT →
          t.que q = { s.que q with st := qHALTED, status := E_DMA_PCIE, descs := [], cons := (s.que q).fetch })
      ∧ (∀ q, (s.que q).st ≠ qACTIVE ∨ (s.que q).kind = kRESULT → t.que q = s.que q) ∧ s.keeps t [HIF_STS] := by
  obtain ⟨u, hu⟩ : ∃ u, u = ({ s.wrN HIF_STS 0 with hif := { (s.wrN HIF_STS 0).hif with msix := [], pba := [], down := true } } : State) := ⟨_, rfl⟩
  have hreset : pcieReset s = forEach (s.hif.ques.map (·.1)) u resetQue := by
    rw [hu]
    rfl
  obtain ⟨⟨hregs, hmsix, hpba, hdown⟩, hque⟩ := forEach_resetQue (s.hif.ques.map (·.1)) u
  have huq (q : Nat) : u.que q = s.que q := by rw [hu]; rfl
  have hall (q : Nat) : (forEach (s.hif.ques.map (·.1)) u resetQue).que q = haltedQue (s.que q) := by
    rw [hque, huq]
    split
    next => rfl
    next hno =>
      have hd : s.que q = default := tget_of_unlisted hno
      rw [hd, haltedQue_default]
  rw [← hreset] at hregs hmsix hpba hdown hall
  have hkeep : u.keeps (pcieReset s) [] := keeps_of_regs (keeps_rfl u _) hregs
  have hsu : s.keeps u [HIF_STS] := hu ▸ keeps_of_regs (keeps_wrN (t := s) (n := 0) (keeps_rfl s [HIF_STS]) (List.mem_singleton_self _)) rfl
  refine ⟨_, rfl, ?_, hmsix.trans (by rw [hu]), hpba.trans (by rw [hu]), hdown.trans (by rw [hu]), fun q hst hk => ?_, fun q h => ?_,
    keeps_trans hsu hkeep (by simp) (by simp)⟩
  · rw [rdN_of_keeps hkeep List.not_mem_nil, hu]
    exact rdN_wrN s HIF_STS 0
  · rw [hall, haltedQue, if_pos ⟨hst, hk⟩]
  · rw [hall, haltedQue, if_neg (by tauto)]

theorem pcieLinkUp_spec {rate width : Nat} {flit : Bool} (hspill : ∀ q, (s.que q).spill = []) (hrate : rate < 8) (hwidth : width < 32) :
    ∃ t, exec (.pcieLinkUp rate width flit) s = .next t
      ∧ t.rdN HIF_STS = (if flit = true then 2048 else 0) + rate * 256 + width ∧ t.hif = { s.hif with down := false }
      ∧ s.keeps t [HIF_STS] ∧ { t with regs := s.regs, hif := s.hif } = s := by
  obtain ⟨v, hv⟩ : ∃ v, v = b01 flit * 2 ^ 11 + rate % 8 * 2 ^ 8 + width % 32 := ⟨_, rfl⟩
  obtain ⟨u, hu⟩ : ∃ u, u = ({ s.wrN HIF_STS v with hif := { (s.wrN HIF_STS v).hif with down := false } } : State) := ⟨_, rfl⟩
  have hrun : forEach (s.hif.ques.map (·.1)) u (fun q s => unspill q (s.que q).spill.length s) = u :=
    forEach_induct (P := fun t => t = u) rfl fun q _ t ht => by
      subst ht
      exact unspill_of_nil (by rw [hu]; exact hspill q) _
  have hup : pcieLinkUp rate width flit s = u := by
    refine Eq.trans ?_ hrun
    rw [hu, hv]
    rfl
  have hval : v = (if flit = true then 2048 else 0) + rate * 256 + width := by
    rw [hv, Nat.mod_eq_of_lt hrate, Nat.mod_eq_of_lt hwidth]
    cases flit <;> rfl
  refine ⟨u, congrArg Host.Outcome.next hup, ?_, hu ▸ rfl, ?_, hu ▸ rfl⟩
  · rw [hu]
    refine Eq.trans (b := v % 2 ^ 64) (rdN_wrN s HIF_STS v) ?_
    rw [hval]
    split <;> omega
  · exact hu ▸ keeps_of_regs (keeps_wrN (t := s) (n := v) (keeps_rfl s [HIF_STS]) (List.mem_singleton_self _)) rfl

end

/-! ### The obligation -/

/-- Settles O45: a record goes to the ring, the spill or nowhere as the room of its queue says; writes through BAR2 reach their store or are
counted, and a PCIe reset halts what the host has to start again. -/
theorem recordsReachTheirQueuesAndTheHost : Obligations.RecordsReachTheirQueuesAndTheHost := by
  unfold Obligations.RecordsReachTheirQueuesAndTheHost
  refine ⟨?_, ?_, ?_, ?_, ?_, ?_, ?_, ?_, ?_, ?_, ?_, ?_⟩
  · exact fun _ _ _ _ _ hfind hx hf hd hsvc hprod hc hst hk hloc hup hirq hspill hroom hws =>
      resultEntry_slot hfind hx hf hd hsvc hprod hc hst hk hloc hup hirq hspill hroom hws
  · exact fun _ _ _ _ _ hfind hx hf hd hsvc hprod hc hst hk hfull hroom hws => resultEntry_spilled hfind hx hf hd hsvc hprod hc hst hk hfull hroom hws
  · exact fun _ _ _ _ hfind hx hf hd hsvc hprod hc h => resultEntry_dropped hfind hx hf hd hsvc hprod hc h
  · exact fun _ _ _ _ _ hx hf hearlier hst hk hloc hup hirq hspill hroom hlost hlt =>
      fencePlace_spec hx hf hearlier hst hk hloc hup hirq hspill hroom hlost hlt
  · exact fun _ _ _ hat hen hit hdue => irqTimer_spec hat hen hit hdue
  · exact fun _ _ _ hbar hlen hlo hhi hopen => bar2_res hbar hlen hlo hhi hopen
  · exact fun _ _ _ _ hbar hlen hy hoff hopen hidle => bar2_seq hbar hlen hy hoff hopen hidle
  · exact fun _ _ _ _ hbar hlen hy hoff hopen hidle => bar2_seqBusy hbar hlen hy hoff hopen hidle
  · exact fun _ _ _ _ hbar hn hlt hlen => bar2_split hbar hn hlt hlen
  · exact fun _ _ _ _ hbar hlen hlo hhi hpart hp hclosed => bar2_sealed hbar hlen hlo hhi hpart hp hclosed
  · exact pcieReset_spec
  · exact fun _ _ _ _ hspill hrate hwidth => pcieLinkUp_spec hspill hrate hwidth

end Sys2Proof.Laws
end

section
namespace Sys2Proof.Laws
open Sys2Proof.Machine

-- One theorem after another: a thread for each of them passes the memory limit of the check.
set_option Elab.async false

section
variable {s t u : State} {q r n i l y prod : Nat} {x : Que} {ws : List Nat} {d : Desc}

/-! ### The words of an entry and what its end writes -/

/-- A descriptor as it stands when its entry has been read. -/
def fetched (idx : Nat) (ws : List Nat) : Desc := ⟨idx, ws, 0, 0, false, false, false, 0, false⟩

theorem words_read (hlen : ws.length = 8) (hlt : ∀ w ∈ ws, w < 2 ^ 64) : ((List.range 8).map fun i => ws.getD i 0 % 2 ^ 64) = ws := by
  refine List.ext_getElem (by simp [hlen]) fun k h1 h2 => ?_
  rw [List.getElem_map, List.getElem_range, List.getD_eq_getElem _ _ h2]
  exact Nat.mod_eq_of_lt (hlt _ (List.getElem_mem h2))

theorem que_modDesc (q i : Nat) (f : Desc → Desc) (s : State) :
    (modDesc q i f s).que q = { s.que q with descs := (s.que q).descs.map fun d => if d.idx == i then f d else d } := que_modQue_same ..

theorem modDesc_spec (q i : Nat) (f : Desc → Desc) (s : State) : ∃ t, modDesc q i f s = t
    ∧ t.que q = { s.que q with descs := (s.que q).descs.map fun d => if d.idx == i then f d else d }
    ∧ (∀ r, r ≠ q → t.que r = s.que r) ∧ t.hif.out = s.hif.out ∧ { t with hif := s.hif } = s :=
  ⟨_, rfl, que_modDesc .., fun _ hr => que_modQue_ne _ _ hr, rfl, rfl⟩

theorem map_if_of_forall_ne {f : Desc → Desc} {ds : List Desc} (h : ∀ e ∈ ds, e.idx ≠ i) : (ds.map fun d => if d.idx == i then f d else d) = ds :=
  (List.map_congr_left fun e he => if_neg (by simpa using h e he)).trans (List.map_id' ds)

/-! ### The end of a descriptor (R502, R505) -/

theorem advanceCons_stop (h : ∀ e ∈ (s.que q).descs, e.done = false) (n : Nat) : advanceCons q n s = s := by
  cases n with
  | zero => rfl
  | succ n =>
    unfold advanceCons
    dsimp only
    split
    next e es heq => rw [if_neg (by simp [h e (by simp [heq])])]
    next => rfl

/-- The consumer index moves over the one descriptor that has ended. -/
theorem advanceCons_one {es : List Desc} (hds : (s.que q).descs = d :: es) (hdone : d.done = true) (hrest : ∀ e ∈ es, e.done = false) (n : Nat) :
    ∃ t, advanceCons q (n + 1) s = t ∧ t.que q = { s.que q with descs := es, cons := (s.que q).next d.idx 1 }
      ∧ t.hif.out = s.hif.out ++ (if (s.que q).wb = 0 then [] else [HostOut.mem (s.que q).wb (le 8 ((s.que q).next d.idx 1))])
      ∧ (∀ r, r ≠ q → t.que r = s.que r) ∧ { t with hif := s.hif } = s := by
  obtain ⟨u, hu⟩ : ∃ u, u = s.setQue q { s.que q with descs := es, cons := (s.que q).next d.idx 1 } := ⟨_, rfl⟩
  have huq : u.que q = { s.que q with descs := es, cons := (s.que q).next d.idx 1 } := hu ▸ que_setQue_same ..
  obtain ⟨o, hwb, ho⟩ := writeBack_spec q ((s.que q).next d.idx 1) u
  have hstep : advanceCons q (n + 1) s = advanceCons q n (writeBack q ((s.que q).next d.idx 1) u) := by
    rw [advanceCons, hds]
    dsimp only
    rw [if_pos hdone, hu]
  have hstop : advanceCons q n { u with hif := { u.hif with out := o } } = { u with hif := { u.hif with out := o } } :=
    advanceCons_stop (fun e he => hrest e (by have h : e ∈ (u.que q).descs := he; rw [huq] at h; exact h)) n
  refine ⟨_, (hstep.trans (by rw [hwb])).trans hstop, huq, ?_, fun r hr => ?_, ?_⟩
  · rw [huq, hu] at ho
    exact ho
  · have h : u.que r = s.que r := hu ▸ que_setQue_ne _ _ hr
    exact h
  · rw [hu]
    rfl

/-- What the end of a descriptor sends to a ring in host memory: CODE and MOVED, DONE, and the index write-back. -/
def endSent (x : Que) (i v : Nat) : List HostOut :=
  HostOut.mem (x.base + (64 * (i % x.entries) + 0x38)) (le 7 v) :: HostOut.mem (x.base + (64 * (i % x.entries) + 0x3F)) [0x80]
    :: (if x.wb = 0 then [] else [HostOut.mem x.wb (le 8 (x.next i 1))])

/-- A queue whose first descriptor has ended and left it. -/
def endTaken (now i : Nat) (es : List Desc) (x : Que) : Que :=
  { x with descs := es, cons := x.next i 1, irqN := x.irqN + 1, irqAt := if x.irqAt.isNone then some now else x.irqAt }

theorem ringWrite_host (h : (s.que q).loc = false) (off : Nat) (bs : List (BitVec 8)) : ringWrite q off bs s = s.toHost (.mem ((s.que q).base + off) bs) := by
  unfold ringWrite
  dsimp only
  rw [if_neg (by simp [h])]

theorem descDone_spec {es : List Desc} {code : Nat} (hx : x = s.que q) (hds : x.descs = d :: es) (hidx : d.idx = i) (hdone : d.done = false)
    (hrest : ∀ e ∈ es, e.idx ≠ i ∧ e.done = false) (hseg : ¬ (d.dkind = 2 ∧ d.arm = true)) (hirq : d.irq = false) (hen : x.irqEn = false)
    (hloc : x.loc = false) : ∃ t, descDone q i code s = t ∧ t.que q = endTaken s.clock.now i es x
      ∧ t.hif.out = s.hif.out ++ endSent x i (code % 2 ^ 16 + (d.moved - s.owedBytes q i) % 2 ^ 24 * 2 ^ 16)
      ∧ (∀ r, r ≠ q → t.que r = s.que r) ∧ { t with hif := s.hif } = s := by
  have hfind : (s.que q).descs.find? (fun d => d.idx == i && !d.done) = some d := by
    rw [← hx, hds]
    exact List.find?_cons_of_pos (by simp [hidx, hdone])
  obtain ⟨w, hw⟩ : ∃ w, w = (s.toHost (.mem (x.base + (64 * (i % x.entries) + 0x38)) (le 7 (code % 2 ^ 16 + (d.moved - s.owedBytes q i) % 2 ^ 24 * 2 ^ 16)))).toHost
    (.mem (x.base + (64 * (i % x.entries) + 0x3F)) [0x80]) := ⟨_, rfl⟩
  have hwq (r : Nat) : w.que r = s.que r := hw ▸ rfl
  obtain ⟨v, hv⟩ : ∃ v, v = modDesc q i (fun d => { d with done := true, code := code }) w := ⟨_, rfl⟩
  have hvq : v.que q = { x with descs := { d with done := true, code := code } :: es } := by
    rw [hv, que_modDesc, hwq, ← hx, hds, List.map_cons, if_pos (by simp [hidx]), map_if_of_forall_ne fun e he => (hrest e he).1]
  obtain ⟨u, hu, huq, huout, huother, huframe⟩ := advanceCons_one (s := v) (q := q) (d := { d with done := true, code := code }) (es := es)
    (by rw [hvq]) rfl (fun e he => (hrest e he).2) es.length
  rw [hvq] at huq huout
  have hend : descDone q i code s = u.setQue q (endTaken s.clock.now i es x) := by
    have hnow : u.clock.now = s.clock.now := by rw [eq_of_hifOnly huframe, hv, hw]; rfl
    have hvis := qVisible_silent (s := u) (q := q) (by rw [huq]; exact hen) 1
    have hlen : (v.que q).descs.length = es.length + 1 := by rw [hvq]; rfl
    have hone : ringWrite q (64 * (i % x.entries) + 0x3F) [0x80] (ringWrite q (64 * (i % x.entries) + 0x38)
        (le 7 (code % 2 ^ 16 + (d.moved - s.owedBytes q i) % 2 ^ 24 * 2 ^ 16)) s) = w := by
      have hloc' : (s.que q).loc = false := hx ▸ hloc
      rw [ringWrite_host (s := s) hloc', ringWrite_host (by rw [que_toHost]; exact hloc'), hw, que_toHost, ← hx]
    unfold descDone
    rw [hfind]
    dsimp only
    rw [← hx, hone, if_neg hseg, ← hv, hlen, hu, if_neg (by simp [hirq]), hvis, huq, hnow]
    rw [← hidx]
    rfl
  refine ⟨_, hend, que_setQue_same .., ?_, fun r hr => ?_, ?_⟩
  · have hvout : v.hif.out = s.hif.out ++ [HostOut.mem (x.base + (64 * (i % x.entries) + 0x38)) (le 7 (code % 2 ^ 16 + (d.moved - s.owedBytes q i) % 2 ^ 24 * 2 ^ 16)),
        HostOut.mem (x.base + (64 * (i % x.entries) + 0x3F)) [0x80]] := by
      rw [hv, hw]
      exact List.append_assoc ..
    refine Eq.trans (b := u.hif.out) rfl ?_
    rw [huout, hvout, List.append_assoc, ← hidx]
    rfl
  · rw [que_setQue_ne _ _ hr, huother r hr, hv]
    exact (que_modQue_ne _ _ hr).trans (hwq r)
  · have h := eq_of_hifOnly huframe
    rw [hv, hw] at h
    rw [h]
    rfl

/-! ### Entries that are read (R500 to R503) -/

/-- The queue once an entry has been read. -/
def entryRead (x : Que) (d : Desc) : Que := { x with fetch := x.next x.fetch 1, descs := x.descs ++ [d] }

section
variable (hx : x = s.que q) (hst : x.st = qACTIVE) (hk : x.kind = kSUBMIT) (hne : x.fetch ≠ x.prod)
  (hopen : (x.descs.filter fun e => !e.done).length < 4) (hfence : ∀ e ∈ x.descs, e.done = false → e.op ≠ 2) (hloc : x.loc = false)
  (hlen : ws.length = 8) (hlt : ∀ w ∈ ws, w < 2 ^ 64) (hd : d = fetched x.fetch ws)
include hx hst hk hne hopen hfence hloc hlen hlt hd

theorem descFetch_pass (hcheck : s.descCheck q d = 0) : descFetch q ws false s = if d.dkind = 2 then
      (modDesc q d.idx (fun d => { d with arm := true }) (s.setQue q (entryRead x d))).changeSeg 64 (d.dunit / 4096 % 4) (d.dunit % 4096)
        { s.segOf d.dunit with state := .loading }
    else modDesc q d.idx (fun d => { d with arm := true }) (s.setQue q (entryRead x d)) := by
  have hany : ((x.descs.filter fun e => !e.done).any fun e => e.op == 2) = false := List.any_eq_false.2 fun e he => by
    obtain ⟨hmem, hdn⟩ := List.mem_filter.1 he
    simpa using hfence e hmem (by simpa using hdn)
  have hwords := words_read hlen hlt
  unfold descFetch
  dsimp only
  rw [← hx, if_neg (by simp), if_neg (by simp [hst, hk, hne, hany]; omega), hloc]
  simp only [Bool.false_eq_true, if_false]
  rw [hwords, ← fetched, ← hd, if_pos hcheck, show x.fetch = d.idx from hd ▸ rfl, entryRead, show x.fetch = d.idx from hd ▸ rfl]
  rfl

theorem descFetch_fail (hcheck : s.descCheck q d ≠ 0) (hbusy : s.descCheck q d ≠ E_IMG_RES_BUSY) (hseal : s.descCheck q d ≠ E_SHR_SEALED) :
    descFetch q ws false s = descDone q d.idx (s.descCheck q d) (s.setQue q (entryRead x d)) := by
  have hany : ((x.descs.filter fun e => !e.done).any fun e => e.op == 2) = false := List.any_eq_false.2 fun e he => by
    obtain ⟨hmem, hdn⟩ := List.mem_filter.1 he
    simpa using hfence e hmem (by simpa using hdn)
  have hwords := words_read hlen hlt
  unfold descFetch
  dsimp only
  rw [← hx, if_neg (by simp), if_neg (by simp [hst, hk, hne, hany]; omega), hloc]
  simp only [Bool.false_eq_true, if_false]
  rw [hwords, ← fetched, ← hd, if_neg hcheck, State.denyIf, when_of_false _ (by simpa using hbusy), show x.fetch = d.idx from hd ▸ rfl, entryRead,
    show x.fetch = d.idx from hd ▸ rfl]
  split
  next => rw [when_of_false _ (by simpa using hseal)]
  next => rfl

/-- An entry that is read and passes its checks. -/
theorem descFetch_armed (hcheck : s.descCheck q d = 0)
    (hidx : ∀ e ∈ x.descs, e.idx ≠ x.fetch) : ∃ t, exec (.descFetch q ws false) s = .next t
      ∧ t.que q = { x with fetch := x.next x.fetch 1, descs := x.descs ++ [{ d with arm := true }] } ∧ (∀ r, r ≠ q → t.que r = s.que r)
      ∧ (d.dkind = 2 → t.segOf d.dunit = { s.segOf d.dunit with state := .loading, stamp := s.hal.changes + 1, by_ := 64 })
      ∧ (d.dkind ≠ 2 → t.hal = s.hal) ∧ { t with hif := s.hif, hal := s.hal } = s := by
  have hpass := descFetch_pass hx hst hk hne hopen hfence hloc hlen hlt hd hcheck
  obtain ⟨u, hu⟩ : ∃ u, u = modDesc q d.idx (fun d => { d with arm := true }) (s.setQue q (entryRead x d)) := ⟨_, rfl⟩
  have huq : u.que q = { x with fetch := x.next x.fetch 1, descs := x.descs ++ [{ d with arm := true }] } := by
    have hdi : d.idx = x.fetch := hd ▸ rfl
    rw [hu, que_modDesc, que_setQue_same, entryRead, List.map_append, map_if_of_forall_ne (hdi ▸ hidx)]
    simp
  have huo (r : Nat) (hr : r ≠ q) : u.que r = s.que r := by rw [hu, modDesc, que_modQue_ne _ _ hr, que_setQue_ne _ _ hr]
  have huf : { u with hif := s.hif } = s := hu ▸ rfl
  rw [← hu] at hpass
  by_cases h2 : d.dkind = 2
  · rw [if_pos h2] at hpass
    refine ⟨_, congrArg Host.Outcome.next hpass, huq, huo, fun _ => ?_, fun h => absurd h2 h, ?_⟩
    · refine (tget_tput_same u.hal.segs _ _).trans ?_
      rw [eq_of_hifOnly huf]
    · show { u with hif := s.hif, hal := s.hal } = s
      rw [eq_of_hifOnly huf]
  · rw [if_neg h2] at hpass
    exact ⟨u, congrArg Host.Outcome.next hpass, huq, huo, fun h => absurd h h2, fun _ => hu ▸ rfl, by rw [eq_of_hifOnly huf]⟩

end

/-- An entry that fails its check ends at once. -/
theorem descFetch_refused {c : Nat} (hx : x = s.que q) (hst : x.st = qACTIVE) (hk : x.kind = kSUBMIT) (hne : x.fetch ≠ x.prod) (hds : x.descs = [])
    (hloc : x.loc = false) (hen : x.irqEn = false) (hwb : x.wb = 0) (hlen : ws.length = 8) (hlt : ∀ w ∈ ws, w < 2 ^ 64) (hd : d = fetched x.fetch ws)
    (hirq : d.irq = false) (hc : c = s.descCheck q d) (hc0 : c ≠ 0) (hbusy : c ≠ E_IMG_RES_BUSY) (hseal : c ≠ E_SHR_SEALED) (hc16 : c < 2 ^ 16) :
    ∃ t, exec (.descFetch q ws false) s = .next t
      ∧ t.que q = { x with fetch := x.next x.fetch 1, cons := x.next x.fetch 1, irqN := x.irqN + 1, irqAt := if x.irqAt.isNone then some s.clock.now else x.irqAt }
      ∧ t.hif.out = s.hif.out ++ [HostOut.mem (x.base + (64 * (x.fetch % x.entries) + 0x38)) (le 7 c),
          HostOut.mem (x.base + (64 * (x.fetch % x.entries) + 0x3F)) [0x80]]
      ∧ { t with hif := s.hif } = s := by
  have hfail := descFetch_fail hx hst hk hne (by simp [hds]) (by simp [hds]) hloc hlen hlt hd (hc ▸ hc0) (hc ▸ hbusy) (hc ▸ hseal)
  obtain ⟨t, ht, hque, hout, -, hframe⟩ := descDone_spec (s := s.setQue q (entryRead x d)) (q := q) (i := d.idx) (d := d) (es := []) (code := c)
    (que_setQue_same ..).symm (by rw [entryRead, hds]; rfl) rfl (hd ▸ rfl) (by simp) (fun h => absurd h.2 (by rw [hd]; exact Bool.false_ne_true)) hirq hen hloc
  have hdi : d.idx = x.fetch := hd ▸ rfl
  have hmv : d.moved = 0 := hd ▸ rfl
  refine ⟨t, congrArg Host.Outcome.next (hfail.trans (hc ▸ ht)), ?_, ?_, ?_⟩
  · rw [hque, hdi, endTaken, entryRead, ← hds]
    rfl
  · rw [hout, hdi, hmv, Nat.zero_sub, Nat.zero_mod, Nat.zero_mul, Nat.add_zero, Nat.mod_eq_of_lt hc16, endSent]
    refine congrArg (s.hif.out ++ ·) ?_
    refine congrArg (List.cons _) (congrArg (List.cons _) (if_pos hwb))
  · rw [eq_of_hifOnly hframe]
    rfl

theorem descFetch_ecc (ws : List Nat) (hst : (s.que q).st = qACTIVE) : ∃ t, exec (.descFetch q ws true) s = .next t
      ∧ t.que q = { s.que q with st := qHALTED, status := E_HIF_ECC_UNCORR } ∧ (∀ r, r ≠ q → t.que r = s.que r) ∧ { t with hif := s.hif } = s :=
  ⟨_, congrArg Host.Outcome.next (if_pos ⟨rfl, hst⟩), que_setQue_same .., fun _ hr => que_setQue_ne _ _ hr, rfl⟩

/-! ### Data that moves (R502 to R504) -/

/-- A descriptor after `n` more bytes. -/
def movedOn (n : Nat) (e : Desc) : Desc := { e with moved := e.moved + n, part := 0, run := true, fin := decide (e.len ≤ e.moved + n) }

theorem dmaCopy_eq {bs bs' : List (BitVec 8)} (hd : s.openDesc q i = some d) (hop : d.op = 1) (harm : d.arm = true) (hturn : s.inTurn q d = true)
    (hk : d.dkind ≠ 6) (hbs : bs' = if d.skind = 0 then bs.take (d.len - d.moved) else s.srcBytes d.skind d.sunit (d.saddr + d.moved) (d.len - d.moved))
    (hpos : 0 < bs'.length) : dmaCopy q i bs s = descMoved q i bs'.length (dstWrite q d bs' s) := by
  have hne : bs' ≠ [] := List.ne_nil_of_length_pos hpos
  unfold dmaCopy
  rw [hd]
  dsimp only
  rw [if_neg hk, ← hbs, if_neg]
  simp [hop, harm, hturn, hne]

theorem dstWrite_host {bs : List (BitVec 8)} (hdk : d.dkind = 0) : dstWrite q d bs s = s.toHost (.mem (d.daddr + d.moved) bs) := by
  unfold dstWrite
  rw [hdk]
  rfl

theorem dstWrite_res {bs : List (BitVec 8)} (hdk : d.dkind = 1) :
    dstWrite q d bs s = { s with cnv := { s.cnv with res := stList s.cnv.res (d.daddr + d.moved) bs } } := by
  unfold dstWrite
  rw [hdk]
  rfl

theorem dmaCopy_toStore {bs : List (BitVec 8)} (hd : s.openDesc q i = some d) (hop : d.op = 1) (harm : d.arm = true) (hturn : s.inTurn q d = true)
    (hsk : d.skind = 0) (hdk : d.dkind = 1) (hn : n = min (d.len - d.moved) bs.length) (hpos : 0 < n) :
    ∃ t, exec (.dmaCopy q i bs) s = .next t ∧ t.cnv = { s.cnv with res := stList s.cnv.res (d.daddr + d.moved) (bs.take n) }
      ∧ t.que q = { s.que q with descs := (s.que q).descs.map fun e => if e.idx == i then movedOn n e else e }
      ∧ (∀ r, r ≠ q → t.que r = s.que r) ∧ t.hif.out = s.hif.out ∧ { t with cnv := s.cnv, hif := s.hif } = s := by
  have htake : bs.take n = bs.take (d.len - d.moved) := by rw [hn, ← List.take_take, List.take_length]
  have hlen : (bs.take n).length = n := by rw [List.length_take, hn]; omega
  have hcopy := dmaCopy_eq hd hop harm hturn (by rw [hdk]; decide) (bs := bs) (bs' := bs.take n) (by rw [if_pos hsk, htake]) (by rw [hlen]; exact hpos)
  obtain ⟨t, ht, hque, hother, hout, hframe⟩ := modDesc_spec q i (movedOn n) { s with cnv := { s.cnv with res := stList s.cnv.res (d.daddr + d.moved) (bs.take n) } }
  rw [hlen, dstWrite_res hdk] at hcopy
  refine ⟨t, congrArg Host.Outcome.next (hcopy.trans ht), ?_, hque, hother, hout, ?_⟩
  · rw [eq_of_hifOnly hframe]
  · rw [eq_of_hifOnly hframe]

theorem dmaCopy_toHost {bs : List (BitVec 8)} (hd : s.openDesc q i = some d) (hop : d.op = 1) (harm : d.arm = true) (hturn : s.inTurn q d = true)
    (hsk : d.skind = 1) (hdk : d.dkind = 0) (hn : n = d.len - d.moved) (hpos : 0 < n) :
    ∃ t, exec (.dmaCopy q i bs) s = .next t ∧ t.hif.out = s.hif.out ++ [HostOut.mem (d.daddr + d.moved) (ldList s.cnv.res (d.saddr + d.moved) n)]
      ∧ t.que q = { s.que q with descs := (s.que q).descs.map fun e => if e.idx == i then movedOn n e else e } ∧ { t with hif := s.hif } = s := by
  have hlen : (ldList s.cnv.res (d.saddr + d.moved) n).length = n := length_ldList ..
  have hcopy := dmaCopy_eq hd hop harm hturn (by rw [hdk]; decide) (bs := bs) (bs' := ldList s.cnv.res (d.saddr + d.moved) n)
    (by rw [if_neg (by rw [hsk]; decide), hsk, ← hn]; rfl) (by rw [hlen]; exact hpos)
  rw [hlen, dstWrite_host hdk] at hcopy
  exact ⟨_, congrArg Host.Outcome.next hcopy, rfl, que_modDesc .., rfl⟩

theorem dmaFence_spec (hd : s.openDesc q i = some d) (hop : d.op = 2) (hall : ∀ e ∈ (s.que q).descs.takeWhile (fun e => e.idx != i), e.done = true) :
    ∃ t, exec (.dmaFence q i) s = .next t
      ∧ t.que q = { s.que q with descs := (s.que q).descs.map fun e => if e.idx == i then { e with fin := true } else e } ∧ { t with hif := s.hif } = s := by
  have hfence : dmaFence q i s = modDesc q i (fun d => { d with fin := true }) s := by
    unfold dmaFence
    rw [hd]
    dsimp only
    rw [if_pos ⟨hop, List.all_eq_true.2 hall⟩]
  exact ⟨_, congrArg Host.Outcome.next hfence, que_modDesc .., rfl⟩

theorem dmaFence_waits {e : Desc} (he : e ∈ (s.que q).descs.takeWhile (fun e => e.idx != i)) (hdone : e.done = false) :
    exec (.dmaFence q i) s = .next s := by
  have hfence : dmaFence q i s = s := by
    unfold dmaFence
    split
    next => rfl
    next => exact if_neg fun h => by simp [List.all_eq_true.1 h.2 e he] at hdone
  exact congrArg Host.Outcome.next hfence

theorem dmaRqcopy_spec (hd : s.openDesc q i = some d) (hop : d.op = 3) (harm : d.arm = true) (hturn : s.inTurn q d = true)
    (hserved : s.lineServed d.sunit = false) : ∃ t, exec (.dmaRqcopy q i) s = .next t
      ∧ t.que q = { s.que q with descs := (s.que q).descs.map fun e => if e.idx == i then { e with run := true } else e } ∧ { t with hif := s.hif } = s := by
  have hcopy : dmaRqcopy q i s = modDesc q i (fun d => { d with run := true }) s := by
    unfold dmaRqcopy
    rw [hd]
    dsimp only
    rw [if_pos ⟨hop, harm, hturn, by simp [hserved]⟩]
  exact ⟨_, congrArg Host.Outcome.next hcopy, que_modDesc .., rfl⟩

theorem burstEnd_eq (h : (descMoved q i n s).lineRing d.sunit = some r) : burstEnd q i n d s = ringAdvance r n (descMoved q i n s) := by
  unfold burstEnd
  dsimp only
  rw [h]

theorem rqcopyBurst_spec (hd : s.openDesc q i = some d) (hline : s.lineRing d.sunit = some r) (hop : d.op = 3) (hrun : d.run = true) (hdk : d.dkind = 0)
    (hpart : d.part = 0) (hreq : s.flag (ringSTS r) CNV_RING_STS_REQ = true) (hn : n = min (256 * d.burst) (d.len - d.moved)) (hpos : 0 < n)
    (hheld : n ≤ s.ringHeld r) : ∃ t, exec (.rqcopyBurst q i) s = .next t
      ∧ t.hif.out = s.hif.out ++ [HostOut.mem (d.daddr + d.moved) (s.lineBytes r n)]
      ∧ t.rd (ringRP r) = BitVec.ofNat 64 ((s.rdN (ringRP r) + n) % s.ringSize r)
      ∧ t.que q = { s.que q with descs := (s.que q).descs.map fun e => if e.idx == i then movedOn n e else e }
      ∧ s.keeps t [ringRP r, ringSTS r] ∧ { t with regs := s.regs, hif := s.hif } = s := by
  obtain ⟨u, hu⟩ : ∃ u, u = descMoved q i n (s.toHost (.mem (d.daddr + d.moved) (s.lineBytes r n))) := ⟨_, rfl⟩
  have hur : u.regs = s.regs := hu ▸ rfl
  have hurd (a : Nat) : u.rdN a = s.rdN a := hu ▸ rfl
  have husz : u.ringSize r = s.ringSize r := hu ▸ rfl
  have hul : u.lineRing d.sunit = some r := hu ▸ hline
  have hburst : rqcopyBurst q i s = ringAdvance r n u := by
    unfold rqcopyBurst
    rw [hd]
    dsimp only
    rw [if_neg (by simp [hop, hrun]), if_neg (by simp [hdk]), hline]
    dsimp only
    rw [if_neg (c := d.dkind = 6) (by simp [hdk]), ← hn, if_neg (by simp [hpart, hreq]; omega), if_neg (by simp [hdk, hpart]), hpart, Nat.zero_add,
      List.drop_zero]
    refine (congrArg (burstEnd q i n d) (dstWrite_host (d := _) hdk)).trans ?_
    rw [hu] at hul ⊢
    exact burstEnd_eq hul
  have honly := onlyRegs_ringRefresh r (u.wrN (ringRP r) ((u.rdN (ringRP r) + n) % u.ringSize r))
  have hne : ringRP r ∉ [ringSTS r] := by
    unfold ringRP ringSTS
    simp
  refine ⟨_, congrArg Host.Outcome.next hburst, hu ▸ rfl, ?_, ?_, ?_, ?_⟩
  · rw [ringAdvance, rd_of_keeps honly.2 hne, hurd, husz]
    exact rd_wr_same ..
  · exact hu ▸ que_modDesc ..
  · exact keeps_trans (keeps_wrN (keeps_of_regs (keeps_rfl s [ringRP r]) hur) (by simp)) honly.2 (by simp) (by simp)
  · rw [hu]
    rfl

/-! ### Descriptors that end (R505, R506) -/

theorem find_first {P : Desc → Bool} {es : List Desc} (hds : (s.que q).descs = d :: es) (h : P d = true) : (s.que q).descs.find? P = some d := by
  rw [hds, List.find?_cons_of_pos h]

theorem descEnd_spec {es : List Desc} {c : Nat} {cmd : Instr} (hx : x = s.que q) (hds : x.descs = d :: es) (hidx : d.idx = i) (hdone : d.done = false)
    (hrest : ∀ e ∈ es, e.idx ≠ i ∧ e.done = false) (h8 : d.dkind ≠ 8) (h2 : d.dkind ≠ 2) (hirq : d.irq = false) (hen : x.irqEn = false)
    (hloc : x.loc = false) (hcmd : (cmd = Instr.descComplete q i ∧ d.fin = true ∧ c = 0)
      ∨ (cmd = Instr.dmaReadFail q i ∧ d.fin = false ∧ d.op = 1 ∧ d.skind = 0 ∧ c = E_DMA_PCIE)) :
    ∃ t, exec cmd s = .next t ∧ t.que q = endTaken s.clock.now i es x
      ∧ t.hif.out = s.hif.out ++ endSent x i (c % 2 ^ 16 + (d.moved - s.owedBytes q i) % 2 ^ 24 * 2 ^ 16) ∧ { t with hif := s.hif } = s := by
  have hds' : (s.que q).descs = d :: es := hx ▸ hds
  have hexec : exec cmd s = .next (descDone q i c s) := by
    rcases hcmd with ⟨rfl, hfin, rfl⟩ | ⟨rfl, hfin, hop, hsk, rfl⟩
    · have hend : descComplete q i s = descDone q i 0 s := by
        unfold descComplete
        rw [find_first hds' (by simp [hidx, hdone, hfin])]
        exact if_neg fun h => h8 h.1
      exact congrArg Host.Outcome.next hend
    · have hend : dmaReadFail q i s = descDone q i E_DMA_PCIE s := by
        unfold dmaReadFail State.openDesc
        rw [find_first hds' (by simp [hidx, hdone, hfin])]
        exact if_pos ⟨hop, hsk⟩
      exact congrArg Host.Outcome.next hend
  obtain ⟨t, ht, hque, hout, -, hframe⟩ := descDone_spec (code := c) hx hds hidx hdone hrest (fun h => h2 h.1) hirq hen hloc
  exact ⟨t, hexec.trans (congrArg Host.Outcome.next ht), hque, hout, hframe⟩

theorem readFail_halts (hnone : ∀ d ∈ (s.que q).descs, d.idx ≠ i) (hst : (s.que q).st = qACTIVE) (hk : (s.que q).kind ≠ kRESULT)
    (hne : (s.que q).fetch ≠ (s.que q).prod) (hi : i = (s.que q).fetch) : ∃ t, exec (.dmaReadFail q i) s = .next t
      ∧ t.que q = { s.que q with st := qHALTED, status := E_DMA_PCIE, fetch := (s.que q).next (s.que q).fetch 1 } ∧ { t with hif := s.hif } = s := by
  have hopen : s.openDesc q i = none := List.find?_eq_none.2 fun d hd => by simp [hnone d hd]
  have hhalt : dmaReadFail q i s = s.setQue q { s.que q with st := qHALTED, status := E_DMA_PCIE, fetch := (s.que q).next (s.que q).fetch 1 } := by
    unfold dmaReadFail
    rw [hopen]
    exact if_pos ⟨hst, hk, hne, hi⟩
  exact ⟨_, congrArg Host.Outcome.next hhalt, que_setQue_same .., rfl⟩

/-! ### Transfers from peers (R508, R513, R514) -/

theorem owed_owe (l c : Nat) (s : State) : tget (tget (owe l c s).ozl.links l).owed c = tget (tget s.ozl.links l).owed c + 1 := by
  show tget ((owe l c s).link l).owed c = _
  rw [owe_link]
  exact tget_tput_same (tget s.ozl.links l).owed c (tget (tget s.ozl.links l).owed c + 1)

theorem txq_owe (l c : Nat) (s : State) : (tget (owe l c s).ozl.links l).txq = (tget s.ozl.links l).txq := by
  show ((owe l c s).link l).txq = _
  rw [owe_link]
  rfl

/-- The transfer that a header opens. -/
def headIn (l cls p code : Nat) : XferIn :=
  ⟨l, cls, bits p 203 196, bits p 195 180, bits p 179 116, bits p 115 92, bits p 91 74, bits p 73 54, code == 0, []⟩

/-- A header that has been taken: its transfer is listed and its credit owed. -/
def headTaken (l cls p code : Nat) (s : State) : State := owe l cls { s with hif := { s.hif with ins := s.hif.ins ++ [headIn l cls p code] } }

theorem postedHdr_eq {l cls p part c : Nat} (hc : c = s.inCheck (bits p 203 196) (bits p 195 180) (bits p 179 116) (bits p 115 92) part)
    (hbusy : c ≠ E_IMG_RES_BUSY) : postedHdr l cls p part s = if c = 0 then inSeg (headIn l cls p c) .loading (headTaken l cls p c s)
      else ozlQueue l 2 [2 * 2 ^ 204 + c * 2 ^ 188 + bits p 91 74 * 2 ^ 170 + bits p 73 54 * 2 ^ 150] (headTaken l cls p c s) := by
  unfold postedHdr
  dsimp only
  rw [← hc, State.denyIf, when_of_false _ (by simpa using hbusy)]
  rfl

theorem postedHdr_spec {l cls p part c : Nat} (hc : c = s.inCheck (bits p 203 196) (bits p 195 180) (bits p 179 116) (bits p 115 92) part)
    (hbusy : c ≠ E_IMG_RES_BUSY) : ∃ t, exec (.postedHdrRx l cls p part) s = .next t
      ∧ t.hif = { s.hif with ins := s.hif.ins ++ [headIn l cls p c] }
      ∧ tget (tget t.ozl.links l).owed cls = tget (tget s.ozl.links l).owed cls + 1
      ∧ (∃ n k, (tget t.ozl.links l).txq = (tget s.ozl.links l).txq ++ (if c = 0 then [] else
            [⟨2, 2 * 2 ^ 204 + c * 2 ^ 188 + bits p 91 74 * 2 ^ 170 + bits p 73 54 * 2 ^ 150, n, k⟩]))
      ∧ (bits p 203 196 = 2 → c = 0 → cls ≠ 3 → (t.segOf (bits p 195 180)).state = .loading) ∧ (bits p 203 196 ≠ 2 ∨ c ≠ 0 → t.hal = s.hal)
      ∧ { t with hif := s.hif, ozl := s.ozl, hal := s.hal } = s := by
  have heq := postedHdr_eq (l := l) (cls := cls) hc hbusy
  have howed : tget (tget (headTaken l cls p c s).ozl.links l).owed cls = tget (tget s.ozl.links l).owed cls + 1 := owed_owe l cls _
  have htxq : (tget (headTaken l cls p c s).ozl.links l).txq = (tget s.ozl.links l).txq := txq_owe l cls _
  by_cases h0 : c = 0
  · rw [if_pos h0] at heq
    have htx : ∃ n k, (tget (headTaken l cls p c s).ozl.links l).txq = (tget s.ozl.links l).txq ++ (if c = 0 then [] else
        [⟨2, 2 * 2 ^ 204 + c * 2 ^ 188 + bits p 91 74 * 2 ^ 170 + bits p 73 54 * 2 ^ 150, n, k⟩]) :=
      ⟨0, 0, by rw [if_pos h0, List.append_nil, htxq]⟩
    by_cases hseg : bits p 203 196 = 2 ∧ cls ≠ 3
    · have hin : inSeg (headIn l cls p c) .loading (headTaken l cls p c s) = (headTaken l cls p c s).changeSeg 64 (bits p 195 180 / 4096 % 4)
          (bits p 195 180 % 4096) { (headTaken l cls p c s).segOf (bits p 195 180) with state := .loading } :=
        if_pos ⟨hseg.1, hseg.2, by simp [headIn, h0]⟩
      rw [hin] at heq
      exact ⟨_, congrArg Host.Outcome.next heq, rfl, howed, htx, fun _ _ _ => congrArg Seg.state (tget_tput_same s.hal.segs _ _),
        fun h => absurd h (by simp [hseg.1, h0]), rfl⟩
    · have hin : inSeg (headIn l cls p c) .loading (headTaken l cls p c s) = headTaken l cls p c s := if_neg fun h => hseg ⟨h.1, h.2.1⟩
      rw [hin] at heq
      exact ⟨_, congrArg Host.Outcome.next heq, rfl, howed, htx, fun h2 _ h3 => absurd ⟨h2, h3⟩ hseg, fun _ => rfl, rfl⟩
  · rw [if_neg h0] at heq
    obtain ⟨v, hv⟩ : ∃ v, v = headTaken l cls p c s := ⟨_, rfl⟩
    have hlink : tget (ozlQueue l 2 [2 * 2 ^ 204 + c * 2 ^ 188 + bits p 91 74 * 2 ^ 170 + bits p 73 54 * 2 ^ 150] v).ozl.links l = _ :=
      tget_tput_same v.ozl.links l _
    rw [← hv] at heq howed htxq
    refine ⟨_, congrArg Host.Outcome.next heq, hv ▸ rfl, ?_, ⟨v.clock.now, (tget v.ozl.links l).items + 1, ?_⟩, fun _ h => absurd h h0, fun _ => hv ▸ rfl, hv ▸ rfl⟩
    · rw [hlink]
      exact howed
    · rw [hlink, if_neg h0, ← htxq]
      rfl

/-- The data of a transfer in place. -/
theorem ins_putIn {a b : XferIn} {rest : List XferIn} (hins : s.hif.ins = a :: rest) (hnot : a ∉ rest) :
    (putIn a b s).hif.ins = (if b.left = 0 then [] else [b]) ++ rest := by
  have hrest : (rest.filterMap fun x => if x = a then (if b.left = 0 then none else some b) else some x) = rest := by
    refine (List.filterMap_congr fun x hx => if_neg fun h : x = a => hnot (h ▸ hx)).trans ?_
    exact List.filterMap_some
  show (s.hif.ins.filterMap fun x => if x = a then (if b.left = 0 then none else some b) else some x) = _
  rw [hins]
  by_cases h0 : b.left = 0
  · rw [List.filterMap_cons_none (by simp [h0]), hrest, if_pos h0, List.nil_append]
  · rw [List.filterMap_cons_some (b := b) (by simp [h0]), hrest, if_neg h0, List.singleton_append]

theorem find_in {a : XferIn} {rest : List XferIn} {l cls : Nat} (hins : s.hif.ins = a :: rest) (hl : a.link = l) (hcls : a.cls = cls) :
    s.hif.ins.find? (fun i => i.link == l && i.cls == cls) = some a := by
  rw [hins, List.find?_cons_of_pos (by simp [hl, hcls])]

theorem word_zero {w : Nat} (h : d.words = w :: ws) : d.w 0 = w := by
  rw [Desc.w, h]
  rfl

theorem inWrite_res {a : XferIn} (hk : a.kind = 1) (bs : List (BitVec 8)) :
    inWrite a bs s = { s with cnv := { s.cnv with res := stList s.cnv.res a.addr bs } } := by
  obtain ⟨e, he⟩ : ∃ e : Desc, e = ⟨0, [1 + a.kind * 2 ^ 24, 0, a.addr, a.unit_ * 2 ^ 16], 0, 0, true, true, false, 0, false⟩ := ⟨_, rfl⟩
  have hdk : e.dkind = 1 := by
    have hwords : e.words = [1 + a.kind * 2 ^ 24, 0, a.addr, a.unit_ * 2 ^ 16] := by rw [he]
    rw [Desc.dkind, word_zero hwords, hk]
    decide
  have hat : e.daddr + e.moved = a.addr := he ▸ rfl
  rw [inWrite, ← he, dstWrite_res hdk, hat]

theorem postedData_spec {l cls p : Nat} {a : XferIn} {rest : List XferIn} {bs : List (BitVec 8)} (hins : s.hif.ins = a :: rest) (hnot : a ∉ rest)
    (hl : a.link = l) (hcls : a.cls = cls) (hok : a.ok = true) (hk : a.kind = 1) (hbs : bs = (payloadBytes p).take a.left) :
    ∃ t, exec (.postedDataRx l cls p) s = .next t ∧ t.cnv = { s.cnv with res := stList s.cnv.res a.addr bs }
      ∧ t.hif.ins = (if a.left = bs.length then [] else [{ a with addr := a.addr + bs.length, left := a.left - bs.length }]) ++ rest
      ∧ tget (tget t.ozl.links l).owed cls = tget (tget s.ozl.links l).owed cls + 1 ∧ { t with cnv := s.cnv, hif := s.hif, ozl := s.ozl } = s := by
  obtain ⟨u, hu⟩ : ∃ u, u = ({ s with cnv := { s.cnv with res := stList s.cnv.res a.addr bs } } : State) := ⟨_, rfl⟩
  have hle : bs.length ≤ a.left := hbs ▸ List.length_take_le ..
  have hwrite : inWrite a bs s = u := (inWrite_res hk bs).trans hu.symm
  have hseg (v : State) : inSeg a .ready v = v := if_neg fun h => absurd (hk.symm.trans h.1) (by decide)
  have hdata : postedData l cls p s = owe l cls (putIn a { a with addr := a.addr + bs.length, left := a.left - bs.length } u) := by
    unfold postedData
    rw [find_in hins hl hcls]
    dsimp only
    rw [← hbs, if_pos hok, hwrite, hseg, ite_self]
  have huins : u.hif.ins = a :: rest := hu ▸ hins
  refine ⟨_, congrArg Host.Outcome.next hdata, ?_, ?_, ?_, ?_⟩
  · rw [hu]
    rfl
  · refine (ins_putIn huins hnot).trans (congrArg (· ++ rest) (if_congr ?_ rfl rfl))
    dsimp only
    omega
  · exact (owed_owe l cls _).trans (hu ▸ rfl)
  · rw [hu]
    rfl

theorem postedNack_spec {l p : Nat} (hq : q = bits p 187 170) (hx : x = s.que q) (hds : x.descs = [d]) (hdone : d.done = false) (h8 : d.dkind = 8)
    (hslot : d.idx % x.entries = bits p 169 150) (hirq : d.irq = false) (hen : x.irqEn = false) (hloc : x.loc = false) (hwb : x.wb = 0) :
    ∃ t, exec (.postedNackRx l p) s = .next t
      ∧ t.que q = { x with descs := [], cons := x.next d.idx 1, irqN := x.irqN + 1, irqAt := if x.irqAt.isNone then some s.clock.now else x.irqAt }
      ∧ t.hif.out = s.hif.out ++ [HostOut.mem (x.base + (64 * (d.idx % x.entries) + 0x38)) (le 7 (bits p 203 188)),
          HostOut.mem (x.base + (64 * (d.idx % x.entries) + 0x3F)) [0x80]]
      ∧ { t with hif := s.hif, ozl := s.ozl } = s := by
  obtain ⟨v, hv⟩ : ∃ v, v = owe l 2 s := ⟨_, rfl⟩
  have hvq : v.que q = x := hv ▸ hx.symm
  obtain ⟨u, hu⟩ : ∃ u, u = modDesc q d.idx (fun d => { d with moved := 0 }) v := ⟨_, rfl⟩
  have huq : u.que q = { x with descs := [{ d with moved := 0 }] } := by
    rw [hu, que_modDesc, hvq, hds, List.map_singleton, if_pos (by simp)]
  have hnack : postedNack l p s = descDone q d.idx (bits p 203 188) u := by
    unfold postedNack
    dsimp only
    rw [← hq, ← hv, hvq, hds, List.find?_cons_of_pos (by simp [hdone, hslot, h8]), hu]
  obtain ⟨t, ht, hque, hout, -, hframe⟩ := descDone_spec (s := u) (q := q) (i := d.idx) (d := { d with moved := 0 }) (es := []) (code := bits p 203 188)
    huq.symm rfl rfl hdone (by simp) (fun h => absurd (h8.symm.trans h.1) (by decide)) hirq hen hloc
  refine ⟨t, congrArg Host.Outcome.next (hnack.trans ht), ?_, ?_, ?_⟩
  · rw [hque, hu, hv]
    rfl
  · have hlt : bits p 203 188 < 2 ^ 16 := bits_lt ..
    rw [hout, Nat.zero_sub, Nat.zero_mod, Nat.zero_mul, Nat.add_zero, Nat.mod_eq_of_lt hlt, endSent, hu, hv]
    exact congrArg (s.hif.out ++ ·) (congrArg (List.cons _) (congrArg (List.cons _) (if_pos hwb)))
  · rw [eq_of_hifOnly hframe, hu, hv]
    rfl

theorem resultHead_spec {l p : Nat} (h : bits p 207 204 = 0) : ∃ t, exec (.resultFlitRx l p) s = .next t
      ∧ t.hif = { s.hif with ins := s.hif.ins ++ [⟨l, 3, 0, 0, 0, 64, bits p 203 186, 0, true, []⟩] }
      ∧ tget (tget t.ozl.links l).owed 3 = tget (tget s.ozl.links l).owed 3 + 1 ∧ { t with hif := s.hif, ozl := s.ozl } = s :=
  ⟨_, congrArg Host.Outcome.next (if_pos h), rfl, owed_owe l 3 _, rfl⟩

theorem resultData_spec {l p : Nat} {a : XferIn} {rest : List XferIn} (hsub : bits p 207 204 ≠ 0) (hins : s.hif.ins = a :: rest) (hnot : a ∉ rest)
    (hl : a.link = l) (hcls : a.cls = 3) (hleft : a.left ≤ (payloadBytes p).length) (hx : x = s.que a.qid)
    (hst : x.st = qACTIVE) (hk : x.kind = kRESULT) (hloc : x.loc = false) (hup : s.hif.down = false) (hirq : x.irqEn = false) (hspill : x.spill = [])
    (hlost : x.lost = false) (hroom : x.dist x.cons x.prod < x.entries) : ∃ t, exec (.resultFlitRx l p) s = .next t ∧ t.hif.ins = rest
      ∧ (t.que a.qid).prod = x.next x.prod 1
      ∧ t.hif.out = s.hif.out ++ entrySent x (bytesWords (a.buf ++ (payloadBytes p).take a.left))
      ∧ { t with hif := s.hif, ozl := s.ozl } = s := by
  have hzero : a.left - ((payloadBytes p).take a.left).length = 0 := by
    rw [List.length_take]
    omega
  obtain ⟨u, hu⟩ : ∃ u, u = owe l 3 (putIn a { a with left := a.left - ((payloadBytes p).take a.left).length, buf := a.buf ++ (payloadBytes p).take a.left } s) :=
    ⟨_, rfl⟩
  have huins : u.hif.ins = rest := by
    rw [hu]
    refine (ins_putIn hins hnot).trans ?_
    rw [if_pos hzero, List.nil_append]
  obtain ⟨t, ht, hque, hout, -, htins, hframe⟩ := placeEntry_slot (s := u) (q := a.qid) (x := x) (hu ▸ hx) hst hk hloc (hu ▸ hup) hirq hspill hroom
    (bytesWords (a.buf ++ (payloadBytes p).take a.left))
  have hflit : resultFlit l p s = t := by
    unfold resultFlit
    rw [if_neg hsub, find_in hins hl hcls]
    dsimp only
    rw [if_pos hzero, ← hu, ht]
  refine ⟨t, congrArg Host.Outcome.next hflit, htins.trans huins, congrArg Que.prod hque, ?_, ?_⟩
  · rw [hout, if_neg (by simp [hlost]), hu]
    rfl
  · rw [eq_of_hifOnly hframe, hu]
    rfl

end

/-! ### The obligation -/

/-- Settles O46: an entry is read, checked, moved and ended by the rule of its operation, and a transfer from a peer fills its store or its queue. -/
theorem descriptorsAreFetchedMovedAndEnded : Obligations.DescriptorsAreFetchedMovedAndEnded := by
  unfold Obligations.DescriptorsAreFetchedMovedAndEnded
  refine ⟨?_, ?_, ?_, ?_, ?_, ?_, ?_, ?_, ?_, ?_, ?_, ?_, ?_, ?_, ?_, ?_⟩
  · exact fun _ _ _ _ _ hx hst hk hne hopen hfence hloc hlen hlt hd hcheck hidx =>
      descFetch_armed hx hst hk hne hopen hfence hloc hlen hlt hd hcheck hidx
  · exact fun _ _ _ _ _ _ hx hst hk hne hds hloc hen hwb hlen hlt hd hirq hc hc0 hbusy hseal hc16 =>
      descFetch_refused hx hst hk hne hds hloc hen hwb hlen hlt hd hirq hc hc0 hbusy hseal hc16
  · exact fun _ _ ws hst => descFetch_ecc ws hst
  · exact fun _ _ _ _ _ _ hd hop harm hturn hsk hdk hn hpos => dmaCopy_toStore hd hop harm hturn hsk hdk hn hpos
  · exact fun _ _ _ _ _ _ hd hop harm hturn hsk hdk hn hpos => dmaCopy_toHost hd hop harm hturn hsk hdk hn hpos
  · exact fun _ _ _ _ hd hop hall => dmaFence_spec hd hop hall
  · exact fun _ _ _ _ he hdone => dmaFence_waits he hdone
  · exact fun _ _ _ _ hd hop harm hturn hserved => dmaRqcopy_spec hd hop harm hturn hserved
  · exact fun _ _ _ _ _ _ hd hline hop hrun hdk hpart _ hreq hn hpos hheld => rqcopyBurst_spec hd hline hop hrun hdk hpart hreq hn hpos hheld
  · exact fun _ _ _ _ _ _ _ _ hx hds hidx hdone hrest h8 h2 hirq hen hloc hcmd => descEnd_spec hx hds hidx hdone hrest h8 h2 hirq hen hloc hcmd
  · exact fun _ _ _ hnone hst hk hne hi => readFail_halts hnone hst hk hne hi
  · exact fun _ _ _ _ _ _ hc hbusy => postedHdr_spec hc hbusy
  · exact fun _ _ _ _ _ _ _ hins hnot hl hcls hok hk hbs => postedData_spec hins hnot hl hcls hok hk hbs
  · exact fun _ _ _ _ _ _ hq hx hds hdone h8 hslot hirq hen hloc hwb => postedNack_spec hq hx hds hdone h8 hslot hirq hen hloc hwb
  · exact fun _ _ _ h => resultHead_spec h
  · exact fun _ _ _ _ _ _ hsub hins hnot hl hcls hleft hx hst hk hloc hup hirq hspill hlost hroom =>
      resultData_spec hsub hins hnot hl hcls hleft hx hst hk hloc hup hirq hspill hlost hroom

end Sys2Proof.Laws
end

section
namespace Sys2Proof.Laws
open Sys2Proof.Machine

-- One theorem after another: a thread for each of them passes the memory limit of the check.
set_option Elab.async false

section
variable {s t u : State} {x y n i w p q a : Nat}

/-! ### Bytes -/

@[simp] theorem length_le (n w : Nat) : (le n w).length = n := by simp [le]
@[simp] theorem length_be (n w : Nat) : (be n w).length = n := by simp [be]
@[simp] theorem length_sha (bs : List (BitVec 8)) : (sha bs).length = 48 := length_be ..

/-! ### SPDM (R515 to R519) -/

/-- A response of the mailbox. -/
def answered (code : Nat) (pay : List (BitVec 8)) (s : State) : State := { s with shr := { s.shr with out := s.shr.out ++ [(code, pay)] } }

section
variable (hoff : s.dev ≠ dOFF) (hboot : s.dev ≠ dBOOT)
include hoff hboot

theorem spdmOut_eq (hlc : s.lifecycle ≠ 3) (code : Nat) (pay : List (BitVec 8)) : spdmOut code pay s = answered code pay s := by
  unfold spdmOut
  rw [if_neg (by simp [hoff, hboot]), if_neg hlc]
  rfl

theorem spdmOut_scrapped (hlc : s.lifecycle = 3) (code : Nat) (pay : List (BitVec 8)) : spdmOut code pay s = answered 0x7F [7] s := by
  unfold spdmOut
  rw [if_neg (by simp [hoff, hboot]), if_pos hlc]
  rfl

theorem spdm_fixed {c : Nat} {pay : List (BitVec 8)} {cmd : Instr} (hlc : s.lifecycle ≠ 3)
    (h : (cmd, c, pay) ∈ [(Instr.spdmGetVersion, 0x04, [0x13]), (.spdmGetCapabilities, 0x61, [0x16, 0, 0, 0]),
      (.spdmNegotiateAlgorithms true true, 0x63, [0x80, 0, 0, 0, 2, 0, 0, 0]), (.spdmNegotiateAlgorithms true false, 0x63, [0x80, 0, 0, 0, 0, 0, 0, 0]),
      (.spdmNegotiateAlgorithms false true, 0x63, [0, 0, 0, 0, 2, 0, 0, 0]), (.spdmNegotiateAlgorithms false false, 0x63, [0, 0, 0, 0, 0, 0, 0, 0]),
      (.spdmGetDigests, 0x01, 1 :: sha Config.certChain), (.spdmUnsupported, 0x7F, [7])]) :
    ∃ t, exec cmd s = .next t ∧ t = { s with shr := { s.shr with out := s.shr.out ++ [(c, pay)] } } := by
  have hanswer : exec cmd s = .next (spdmOut c pay s) := by
    simp only [List.mem_cons, List.not_mem_nil, or_false, Prod.mk.injEq] at h
    obtain ⟨rfl, rfl, rfl⟩ | ⟨rfl, rfl, rfl⟩ | ⟨rfl, rfl, rfl⟩ | ⟨rfl, rfl, rfl⟩ | ⟨rfl, rfl, rfl⟩ | ⟨rfl, rfl, rfl⟩ | ⟨rfl, rfl, rfl⟩ | ⟨rfl, rfl, rfl⟩ := h <;> rfl
  exact ⟨_, hanswer.trans (congrArg Host.Outcome.next (spdmOut_eq hoff hboot hlc c pay)), rfl⟩

theorem spdm_scrapped {cmd : Instr} (hlc : s.lifecycle = 3)
    (h : cmd ∈ [Instr.spdmGetVersion, .spdmGetCapabilities, .spdmGetDigests, .spdmUnsupported]) :
    ∃ t, exec cmd s = .next t ∧ t = { s with shr := { s.shr with out := s.shr.out ++ [(0x7F, [7])] } } := by
  have hanswer : ∃ c pay, exec cmd s = .next (spdmOut c pay s) := by
    obtain rfl | rfl | rfl | rfl : cmd = .spdmGetVersion ∨ cmd = .spdmGetCapabilities ∨ cmd = .spdmGetDigests ∨ cmd = .spdmUnsupported := by
      simpa using h
    all_goals exact ⟨_, _, rfl⟩
  obtain ⟨c, pay, hanswer⟩ := hanswer
  exact ⟨_, hanswer.trans (congrArg Host.Outcome.next (spdmOut_scrapped hoff hboot hlc c pay)), rfl⟩

theorem spdmCert_spec (hlc : s.lifecycle ≠ 3) (slot off len : Nat) : ∃ t, exec (.spdmGetCertificate slot off len) s = .next t
      ∧ t = { s with shr := { s.shr with out := s.shr.out ++ [if slot = 0 then (0x02, slice Config.certChain off len) else (0x7F, [1])] } } := by
  have hcert : spdmCert slot off len s = spdmOut (if slot = 0 then 0x02 else 0x7F) (if slot = 0 then slice Config.certChain off len else [1]) s := by
    unfold spdmCert
    split <;> rfl
  refine ⟨_, congrArg Host.Outcome.next (hcert.trans (spdmOut_eq hoff hboot hlc _ _)), ?_⟩
  unfold answered
  split <;> rfl

/-- A signed response: a nonce and a signature are drawn. -/
theorem spdmSigned_spec (hlc : s.lifecycle ≠ 3) (code : Nat) (nonce pay : List (BitVec 8)) : ∃ t, spdmSigned code nonce pay s.nextFree = t
      ∧ (∃ sig, sig.length = 96 ∧ t.shr = { s.shr with out := s.shr.out ++ [(code, pay ++ sig)] }) ∧ { t with shr := s.shr, bus := s.bus } = s := by
  refine ⟨_, spdmOut_eq (s := s.nextFree.nextFree) hoff hboot hlc code _, ⟨_, length_be 96 _, rfl⟩, rfl⟩

theorem spdmChallenge_spec (hlc : s.lifecycle ≠ 3) (nonce : List (BitVec 8)) : ∃ t, exec (.spdmChallenge 0 nonce) s = .next t
      ∧ (∃ fresh sig, fresh.length = 32 ∧ sig.length = 96
          ∧ t.shr = { s.shr with out := s.shr.out ++ [(0x03, sha Config.certChain ++ fresh ++ sha (((List.range 15).map fun i => s.meas (i + 1)).flatten) ++ sig)] })
      ∧ { t with shr := s.shr, bus := s.bus } = s := by
  obtain ⟨t, ht, ⟨sig, hsig, hshr⟩, hframe⟩ := spdmSigned_spec hoff hboot hlc 0x03 nonce
    (sha Config.certChain ++ s.freshNonce ++ sha (((List.range 15).map fun i => s.meas (i + 1)).flatten))
  have hch : spdmChallenge 0 nonce s = t := (if_pos rfl).trans ht
  exact ⟨t, congrArg Host.Outcome.next hch, ⟨s.freshNonce, sig, by simp [State.freshNonce], hsig, hshr⟩, hframe⟩

theorem spdmMeas_spec (hlc : s.lifecycle ≠ 3) (nonce : List (BitVec 8)) (hlo : 1 ≤ i) (hhi : i ≤ 15) : ∃ t, exec (.spdmGetMeasurements i nonce) s = .next t
      ∧ (∃ fresh sig, fresh.length = 32 ∧ sig.length = 96 ∧ t.shr = { s.shr with out := s.shr.out ++ [(0x60, [1, BitVec.ofNat 8 i] ++ s.meas i ++ fresh ++ sig)] })
      ∧ { t with shr := s.shr, bus := s.bus } = s := by
  have hpay : le 1 1 ++ le 1 i = [1, BitVec.ofNat 8 i] := by simp [le]
  obtain ⟨t, ht, ⟨sig, hsig, hshr⟩, hframe⟩ := spdmSigned_spec hoff hboot hlc 0x60 nonce (le 1 1 ++ le 1 i ++ s.meas i ++ s.freshNonce)
  have hm : spdmMeas i nonce s = t := by
    unfold spdmMeas
    rw [if_neg (by omega), if_pos hhi, ht]
  exact ⟨t, congrArg Host.Outcome.next hm, ⟨s.freshNonce, sig, by simp [State.freshNonce], hsig, hpay ▸ hshr⟩, hframe⟩

theorem spdmMeas_none (hlc : s.lifecycle ≠ 3) (nonce : List (BitVec 8)) (hi : 15 < i) (hne : i ≠ 0xFF) : ∃ t, exec (.spdmGetMeasurements i nonce) s = .next t
      ∧ t = { s with shr := { s.shr with out := s.shr.out ++ [(0x7F, [1])] } } := by
  have hm : spdmMeas i nonce s = spdmOut 0x7F [1] s := by
    unfold spdmMeas
    rw [if_neg (by omega), if_neg (by omega), if_neg hne]
    rfl
  exact ⟨_, congrArg Host.Outcome.next (hm.trans (spdmOut_eq hoff hboot hlc _ _)), rfl⟩

end

/-! ### What Ratline gives up (R658) -/

/-- A property that a step over each element sets and no other step breaks. -/
theorem forEach_each {α : Type} {P : α → State → Prop} {f : α → State → State} {xs : List α} (hset : ∀ x ∈ xs, ∀ s, P x (f x s))
    (hkeep : ∀ x ∈ xs, ∀ y ∈ xs, y ≠ x → ∀ s, P x s → P x (f y s)) (s : State) : ∀ x ∈ xs, P x (forEach xs s f) := by
  classical
  induction xs generalizing s with
  | nil => exact fun x hx => absurd hx List.not_mem_nil
  | cons z zs ih =>
    intro x hx
    by_cases hmem : x ∈ zs
    · exact ih (fun x hx => hset x (List.mem_cons_of_mem z hx))
        (fun x hx y hy => hkeep x (List.mem_cons_of_mem z hx) y (List.mem_cons_of_mem z hy)) (f z s) x hmem
    · obtain rfl : x = z := (List.mem_cons.1 hx).resolve_right hmem
      exact forEach_induct (P := P x) (xs := zs) (hset x hx s) fun y hy t ht =>
        hkeep x hx y (List.mem_cons_of_mem x hy) (fun h => hmem (h ▸ hy)) t ht

/-- What Ratline gives up of a yard, and of a core. -/
def mastLost (y : Nat) (s : State) : State :=
  ratRelease y ((forEach (List.range 4) s fun b s => s.setF (RAT_MBRK y b) RAT_MBRK_EN 0).modMast y fun m => { m with haltReq := false })
def coreLost (x : Nat) (s : State) : State := ratResume x (forEach (List.range 2) s fun b s => s.setF (RAT_WBRK x b) RAT_WBRK_EN 0)

theorem ratLose_eq (s : State) : ratLose s = forEach ((List.range 8).filter fun x => !(forEach (allYards.filter fun y => !s.ratYard y) s mastLost).ratCore x)
    (forEach (allYards.filter fun y => !s.ratYard y) s mastLost) coreLost := rfl

theorem onlyRegs_ratRelease (y : Nat) (s : State) : s.onlyRegs (ratRelease y s) [RAT_MSTS y, SEQ_STS y, RAT_STS] := by
  unfold ratRelease
  split
  next => exact onlyRegs_andWr (onlyRegs_andWr (onlyRegs_andWr (onlyRegs_rfl s _) (by simp)) (by simp)) (by simp)
  next => exact onlyRegs_rfl s _

theorem onlyRegs_ratResume (x : Nat) (s : State) : s.onlyRegs (ratResume x s) [RAT_STS, WCH_CSTS x] := by
  unfold ratResume
  dsimp only
  split
  next =>
    split
    next => exact onlyRegs_andWr (onlyRegs_andWr (onlyRegs_rfl s _) (by simp)) (by simp)
    next => exact onlyRegs_andWr (onlyRegs_rfl s _) (by simp)
  next => exact onlyRegs_rfl s _

theorem keeps_mastLost (y : Nat) (s : State) : s.keeps (mastLost y s) ([RAT_MSTS y, SEQ_STS y, RAT_STS] ++ (List.range 4).map (RAT_MBRK y))
    ∧ (mastLost y s).shr = s.shr := by
  obtain ⟨u, hu⟩ : ∃ u, u = forEach (List.range 4) s fun b s => s.setF (RAT_MBRK y b) RAT_MBRK_EN 0 := ⟨_, rfl⟩
  have hmarks : s.onlyRegs u ((List.range 4).map (RAT_MBRK y)) := hu ▸
    forEach_induct (P := fun t => s.onlyRegs t ((List.range 4).map (RAT_MBRK y))) (onlyRegs_rfl s _) fun _ hb _ ht => onlyRegs_andWr ht (List.mem_map_of_mem hb)
  have hrel := onlyRegs_ratRelease y (u.modMast y fun m => { m with haltReq := false })
  rw [mastLost, ← hu]
  refine ⟨keeps_trans (keeps_of_regs hmarks.2 rfl) hrel.2 (List.subset_append_right _ _) (List.subset_append_left _ _), ?_⟩
  rw [eq_of_onlyRegs hrel, eq_of_onlyRegs hmarks]
  rfl

theorem onlyRegs_coreLost (x : Nat) (s : State) : s.onlyRegs (coreLost x s) ([RAT_STS, WCH_CSTS x] ++ (List.range 2).map (RAT_WBRK x)) := by
  have hmarks : s.onlyRegs (forEach (List.range 2) s fun b s => s.setF (RAT_WBRK x b) RAT_WBRK_EN 0) ((List.range 2).map (RAT_WBRK x)) :=
    forEach_induct (P := fun t => s.onlyRegs t ((List.range 2).map (RAT_WBRK x))) (onlyRegs_rfl s _) fun _ hb _ ht => onlyRegs_andWr ht (List.mem_map_of_mem hb)
  exact onlyRegs_trans hmarks (onlyRegs_ratResume x _) (List.subset_append_right _ _) (List.subset_append_left _ _)

/-- The registers that Ratline lies above: what it gives up leaves Shroud's as they are. -/
theorem ratLose_low (s : State) : (∀ a, a < 0xC00000 → (ratLose s).rd a = s.rd a) ∧ (ratLose s).shr = s.shr := by
  have hmast (y : Nat) (t : State) (ht : (∀ a, a < 0xC00000 → t.rd a = s.rd a) ∧ t.shr = s.shr) :
      (∀ a, a < 0xC00000 → (mastLost y t).rd a = s.rd a) ∧ (mastLost y t).shr = s.shr := by
    obtain ⟨hkeep, hshr⟩ := keeps_mastLost y t
    refine ⟨fun a ha => (rd_of_keeps hkeep ?_).trans (ht.1 a ha), hshr.trans ht.2⟩
    simp only [List.mem_append, List.mem_cons, List.not_mem_nil, or_false, List.mem_map, RAT_MSTS, SEQ_STS, RAT_STS, RAT_MBRK]
    rintro (h | ⟨b, -, h⟩) <;> omega
  have hcore (x : Nat) (t : State) (ht : (∀ a, a < 0xC00000 → t.rd a = s.rd a) ∧ t.shr = s.shr) :
      (∀ a, a < 0xC00000 → (coreLost x t).rd a = s.rd a) ∧ (coreLost x t).shr = s.shr := by
    have honly := onlyRegs_coreLost x t
    refine ⟨fun a ha => (rd_of_keeps honly.2 ?_).trans (ht.1 a ha), by rw [eq_of_onlyRegs honly]; exact ht.2⟩
    simp only [List.mem_append, List.mem_cons, List.not_mem_nil, or_false, List.mem_map, RAT_STS, WCH_CSTS, RAT_WBRK]
    rintro (h | ⟨b, -, h⟩) <;> omega
  rw [ratLose_eq]
  exact forEach_induct (P := fun t => (∀ a, a < 0xC00000 → t.rd a = s.rd a) ∧ t.shr = s.shr)
    (forEach_induct (P := fun t => (∀ a, a < 0xC00000 → t.rd a = s.rd a) ∧ t.shr = s.shr) ⟨fun _ _ => rfl, rfl⟩ fun y _ t ht => hmast y t ht)
    fun x _ t ht => hcore x t ht

/-- In a part that is open to Ratline nothing is given up. -/
theorem ratLose_open (h : s.lifecycle = 1) : ratLose s = s := by
  have hpart (p : Option Nat) : s.ratPart p = true := if_pos h
  have hyards : (allYards.filter fun y => !s.ratYard y) = [] := List.filter_eq_nil_iff.2 fun y _ => by simp [State.ratYard, hpart]
  have hcores : ((List.range 8).filter fun x => !s.ratCore x) = [] := List.filter_eq_nil_iff.2 fun x _ => by simp [State.ratCore, hpart]
  rw [ratLose_eq, hyards]
  show forEach ((List.range 8).filter fun x => !s.ratCore x) s coreLost = s
  rw [hcores]
  rfl

/-- What is given up of a yard: no breakpoint, and no halted Mast. -/
def yardGiven (y : Nat) (s : State) : Prop :=
  (∀ b, b < 4 → s.fld (RAT_MBRK y b) RAT_MBRK_EN = 0) ∧ s.flag (RAT_MSTS y) RAT_MSTS_HALTED = false

/-- What is given up of a core. -/
def coreGiven (x : Nat) (s : State) : Prop := ∀ b, b < 2 → s.fld (RAT_WBRK x b) RAT_WBRK_EN = 0

/-- A row of registers of which one field is cleared. -/
theorem fld_forEach_setF {a : Nat → Nat} (ha : Function.Injective a) (f : Fld) (hf : f.1 + f.2 ≤ 64) {v : Nat} (n : Nat) (s : State) (i : Nat) (hi : i < n) :
    (forEach (List.range n) s fun i s => s.setF (a i) f v).fld (a i) f = v % 2 ^ f.2 := by
  refine forEach_each (P := fun i t => t.fld (a i) f = v % 2 ^ f.2) (fun i _ s => fld_setF s (a i) f v hf) (fun i _ j _ hne t ht => ?_) s i (List.mem_range.2 hi)
  exact (fld_setF_ne _ _ _ _ _ _ fun h => hne (ha h).symm).trans ht

theorem yardGiven_mastLost (y : Nat) (s : State) : yardGiven y (mastLost y s) := by
  obtain ⟨u, hu⟩ : ∃ u, u = (forEach (List.range 4) s fun b s => s.setF (RAT_MBRK y b) RAT_MBRK_EN 0).modMast y fun m => { m with haltReq := false } :=
    ⟨_, rfl⟩
  have hmarks (b : Nat) (hb : b < 4) : u.fld (RAT_MBRK y b) RAT_MBRK_EN = 0 :=
    hu ▸ fld_forEach_setF (fun b c h => by unfold RAT_MBRK at h; omega) RAT_MBRK_EN (by decide) 4 s b hb
  rw [mastLost, ← hu]
  refine ⟨fun b hb => (fld_of_keeps (onlyRegs_ratRelease y u).2 ?_ _).trans (hmarks b hb), ?_⟩
  · simp only [List.mem_cons, List.not_mem_nil, or_false, RAT_MSTS, SEQ_STS, RAT_STS, RAT_MBRK]
    omega
  · unfold ratRelease
    split
    next =>
      have hne : RAT_MSTS y ≠ RAT_STS ∧ RAT_MSTS y ≠ SEQ_STS y := by unfold RAT_MSTS RAT_STS SEQ_STS; omega
      rw [State.flag, fld_setF_ne _ _ _ _ _ _ hne.1, State.setMst, fld_setF_ne _ _ _ _ _ _ hne.2, fld_setF _ _ RAT_MSTS_HALTED _ (by decide)]
      rfl
    next h => exact Bool.eq_false_iff.2 h

theorem yardGiven_keeps {as : List Nat} (hmark : ∀ b, b < 4 → RAT_MBRK y b ∉ as) (hsts : RAT_MSTS y ∉ as) (h : s.keeps t as) (hg : yardGiven y s) :
    yardGiven y t :=
  ⟨fun b hb => (fld_of_keeps h (hmark b hb) _).trans (hg.1 b hb), (congrArg (· == 1) (fld_of_keeps h hsts _)).trans hg.2⟩

theorem yardGiven_mastLost_ne {z : Nat} (hy : y < 64) (hz : z < 64) (hne : z ≠ y) (h : yardGiven y s) : yardGiven y (mastLost z s) := by
  refine yardGiven_keeps (fun b hb => ?_) ?_ (keeps_mastLost z s).1 h <;>
    simp only [List.mem_append, List.mem_cons, List.not_mem_nil, or_false, List.mem_map, List.mem_range, RAT_MSTS, SEQ_STS, RAT_STS, RAT_MBRK]
  · rintro (h | ⟨c, hc, h⟩) <;> omega
  · rintro (h | ⟨c, hc, h⟩) <;> omega

theorem yardGiven_coreLost (hx : x < 8) (h : yardGiven y s) : yardGiven y (coreLost x s) := by
  refine yardGiven_keeps (fun b hb => ?_) ?_ (onlyRegs_coreLost x s).2 h <;>
    simp only [List.mem_append, List.mem_cons, List.not_mem_nil, or_false, List.mem_map, List.mem_range, RAT_MSTS, RAT_STS, RAT_MBRK, WCH_CSTS, RAT_WBRK]
  · rintro (h | ⟨c, hc, h⟩) <;> omega
  · rintro (h | ⟨c, hc, h⟩) <;> omega

theorem coreGiven_coreLost (x : Nat) (s : State) : coreGiven x (coreLost x s) := by
  intro b hb
  refine (fld_of_keeps (onlyRegs_ratResume x _).2 ?_ _).trans
    (fld_forEach_setF (a := RAT_WBRK x) (fun b c h => by unfold RAT_WBRK at h; omega) RAT_WBRK_EN (by decide) 2 s b hb)
  simp only [List.mem_cons, List.not_mem_nil, or_false, RAT_STS, WCH_CSTS, RAT_WBRK]
  omega

theorem coreGiven_coreLost_ne {z : Nat} (hx : x < 8) (hz : z < 8) (hne : z ≠ x) (h : coreGiven x s) : coreGiven x (coreLost z s) := by
  intro b hb
  refine (fld_of_keeps (onlyRegs_coreLost z s).2 ?_ _).trans (h b hb)
  simp only [List.mem_append, List.mem_cons, List.not_mem_nil, or_false, List.mem_map, List.mem_range, RAT_STS, WCH_CSTS, RAT_WBRK]
  rintro (h | ⟨c, hc, h⟩) <;> omega

/-- With no scope at all everything is given up. -/
theorem ratLose_closed (h1 : s.lifecycle ≠ 1) (hlock : s.flag SHR_STS SHR_STS_DBG_UNLOCKED = false) :
    (∀ y, y < 64 → yardGiven y (ratLose s)) ∧ ∀ x, x < 8 → coreGiven x (ratLose s) := by
  have hpart (t : State) (ht : t.rd SHR_STS = s.rd SHR_STS) (p : Option Nat) : t.ratPart p = false := by
    have hlc : t.lifecycle = s.lifecycle := congrArg (getF · SHR_STS_LIFECYCLE) ht
    have hun : t.flag SHR_STS SHR_STS_DBG_UNLOCKED = false := (congrArg (fun w => getF w SHR_STS_DBG_UNLOCKED == 1) ht).trans hlock
    unfold State.ratPart
    rw [if_neg (hlc ▸ h1), if_pos (.inr (by simp [hun]))]
  obtain ⟨u, hu⟩ : ∃ u, u = forEach (allYards.filter fun y => !s.ratYard y) s mastLost := ⟨_, rfl⟩
  have hyards : (allYards.filter fun y => !s.ratYard y) = allYards := List.filter_eq_self.2 fun y _ => by simp [State.ratYard, hpart s rfl]
  have hsts : u.rd SHR_STS = s.rd SHR_STS := hu ▸ forEach_induct (P := fun t => t.rd SHR_STS = s.rd SHR_STS) rfl fun y _ t ht => by
    refine (rd_of_keeps (keeps_mastLost y t).1 ?_).trans ht
    simp only [List.mem_append, List.mem_cons, List.not_mem_nil, or_false, List.mem_map, SHR_STS, RAT_MSTS, SEQ_STS, RAT_STS, RAT_MBRK]
    rintro (h | ⟨b, -, h⟩) <;> omega
  have hcores : ((List.range 8).filter fun x => !u.ratCore x) = List.range 8 := List.filter_eq_self.2 fun x _ => by simp [State.ratCore, hpart u hsts]
  have huy (y : Nat) (hy : y < 64) : yardGiven y u := by
    rw [hu, hyards]
    exact forEach_each (P := yardGiven) (fun y _ s => yardGiven_mastLost y s)
      (fun y hy z hz hne s h => yardGiven_mastLost_ne (List.mem_range.1 hy) (List.mem_range.1 hz) hne h) s y (List.mem_range.2 hy)
  rw [ratLose_eq, ← hu, hcores]
  refine ⟨fun y hy => forEach_induct (P := yardGiven y) (huy y hy) fun x hx t ht => yardGiven_coreLost (List.mem_range.1 hx) ht, fun x hx => ?_⟩
  exact forEach_each (P := coreGiven) (fun x _ s => coreGiven_coreLost x s)
    (fun x hx z hz hne s h => coreGiven_coreLost_ne (List.mem_range.1 hx) (List.mem_range.1 hz) hne h) u x (List.mem_range.2 hx)

/-! ### Debug unlock (R540 to R545) -/

theorem onlyRegs_dbgStatus (code : Nat) (s : State) : s.onlyRegs (dbgStatus code s) [SHR_STS] := onlyRegs_setF ..

theorem sts_dbgStatus {code : Nat} (h : code < 2 ^ 16) (s : State) : (dbgStatus code s).fld SHR_STS SHR_STS_STATUS = code :=
  (fld_setF _ _ SHR_STS_STATUS _ (by decide)).trans (Nat.mod_eq_of_lt h)

/-- The challenge is drawn word by word. -/
theorem drawn_spec (n : Nat) (s : State) : ∃ t, (forEach (List.range n) s fun w s => (s.wrN (SHR_DBG_CHAL w) (s.freeW.toNat % 2 ^ 32)).nextFree) = t
    ∧ (∀ w, w < n → t.rdN (SHR_DBG_CHAL w) < 2 ^ 32) ∧ t.bus = { s.bus with free := s.bus.free + n } ∧ s.keeps t ((List.range n).map SHR_DBG_CHAL)
    ∧ { t with regs := s.regs, bus := s.bus } = s := by
  induction n with
  | zero => exact ⟨s, rfl, fun w hw => absurd hw (Nat.not_lt_zero w), rfl, keeps_rfl s _, rfl⟩
  | succ n ih =>
    obtain ⟨t, ht, hlt, hbus, hkeep, hframe⟩ := ih
    refine ⟨(t.wrN (SHR_DBG_CHAL n) (t.freeW.toNat % 2 ^ 32)).nextFree, by rw [forEach_range_succ, ht], fun w hw => ?_, ?_, ?_, ?_⟩
    · have hval : t.freeW.toNat % 2 ^ 32 < 2 ^ 32 := Nat.mod_lt _ (Nat.two_pow_pos 32)
      obtain h | rfl := Nat.lt_succ_iff_lt_or_eq.1 hw
      · have hne : SHR_DBG_CHAL w ≠ SHR_DBG_CHAL n := by unfold SHR_DBG_CHAL; omega
        exact (rdN_wrN_ne t _ _ _ hne) ▸ hlt w h
      · have h : (t.wrN (SHR_DBG_CHAL w) (t.freeW.toNat % 2 ^ 32)).rdN (SHR_DBG_CHAL w) = _ := rdN_wrN ..
        exact lt_of_eq_of_lt (h.trans (Nat.mod_eq_of_lt (by omega))) hval
    · rw [State.nextFree]
      show { t.bus with free := t.bus.free + 1 } = _
      rw [hbus]
      rfl
    · refine keeps_of_regs (keeps_wrN (keeps_mono hkeep ?_) ?_) rfl
      · exact List.map_subset _ (List.range_subset.2 (Nat.le_succ n))
      · exact List.mem_map_of_mem (List.mem_range.2 (Nat.lt_succ_self n))
    · exact hframe

theorem dbgReq_spec (hopen : s.opens SHR_DBG_CTL) (hlc : s.lifecycle ≠ 3) (hlock : s.flag SHR_STS SHR_STS_DBG_LOCKOUT = false) :
    ∃ t, exec .dbgReq s = .next t
      ∧ t.shr = { s.shr with chal := true } ∧ t.fld SHR_STS SHR_STS_STATUS = 0 ∧ (∀ w, w < 8 → t.rdN (SHR_DBG_CHAL w) < 2 ^ 32)
      ∧ t.bus = { s.bus with free := s.bus.free + 8 }
      ∧ s.keeps t (SHR_STS :: (List.range 8).map SHR_DBG_CHAL) ∧ { t with regs := s.regs, shr := s.shr, bus := s.bus } = s := by
  obtain ⟨u, hu, hlt, hbus, hkeep, hframe⟩ := drawn_spec 8 s
  have hreq : dbgReq s = dbgStatus 0 { u with shr := { u.shr with chal := true } } := by
    unfold dbgReq
    rw [if_neg (by simp [hlc, hlock]), hu]
  have hush : u.shr = s.shr := (congrArg State.shr hframe :)
  have honly := onlyRegs_dbgStatus 0 { u with shr := { u.shr with chal := true } }
  refine ⟨_, next_hostWr hopen hreq, ?_, sts_dbgStatus (by decide) _, fun w hw => ?_, hbus, ?_, ?_⟩
  · rw [← hush]
    rfl
  · refine lt_of_eq_of_lt (rdN_of_keeps honly.2 ?_) (hlt w hw)
    simp only [List.mem_singleton, SHR_DBG_CHAL, SHR_STS]
    omega
  · exact keeps_trans (keeps_of_regs hkeep rfl) honly.2 (List.subset_cons_self _ _) (by simp)
  · exact (congrArg (fun t : State => { t with shr := s.shr }) hframe :)

theorem dbgReq_refused (hopen : s.opens SHR_DBG_CTL) (h : s.lifecycle = 3 ∨ s.flag SHR_STS SHR_STS_DBG_LOCKOUT = true) : ∃ t, exec .dbgReq s = .next t
      ∧ t.fld SHR_STS SHR_STS_STATUS = E_SHR_DBG ∧ s.onlyRegs t [SHR_STS] :=
  ⟨_, next_hostWr hopen (if_pos h), sts_dbgStatus (by decide) _, onlyRegs_dbgStatus ..⟩

theorem dbgFail_spec (s : State) : (dbgFail s).fld SHR_STS SHR_STS_STATUS = E_SHR_DBG ∧ (dbgFail s).shr = { s.shr with fails := s.shr.fails + 1 }
    ∧ (dbgFail s).fld SHR_STS SHR_STS_DBG_LOCKOUT = (if 2 ≤ s.shr.fails then 1 else s.fld SHR_STS SHR_STS_DBG_LOCKOUT)
    ∧ s.keeps (dbgFail s) [SHR_STS] ∧ { dbgFail s with regs := s.regs, shr := s.shr } = s := by
  obtain ⟨u, hu⟩ : ∃ u, u = dbgStatus E_SHR_DBG { s with shr := { s.shr with fails := s.shr.fails + 1 } } := ⟨_, rfl⟩
  have hst : u.fld SHR_STS SHR_STS_STATUS = E_SHR_DBG := hu ▸ sts_dbgStatus (by decide) _
  have hlo : u.fld SHR_STS SHR_STS_DBG_LOCKOUT = s.fld SHR_STS SHR_STS_DBG_LOCKOUT :=
    hu ▸ fld_setF_beside _ _ SHR_STS_STATUS SHR_STS_DBG_LOCKOUT _ (by decide) (by decide) (by decide)
  have hkeep : s.keeps u [SHR_STS] := hu ▸ keeps_setF (keeps_of_regs (keeps_rfl s _) rfl) (by simp)
  have hfail : dbgFail s = if 3 ≤ s.shr.fails + 1 then u.setF SHR_STS SHR_STS_DBG_LOCKOUT 1 else u := by
    rw [hu]
    rfl
  rw [hfail]
  by_cases h : 2 ≤ s.shr.fails
  · rw [if_pos (by omega), if_pos h]
    exact ⟨(fld_setF_beside _ _ SHR_STS_DBG_LOCKOUT SHR_STS_STATUS _ (by decide) (by decide) (by decide)).trans hst, hu ▸ rfl,
      fld_setF _ _ SHR_STS_DBG_LOCKOUT _ (by decide), keeps_setF hkeep (by simp), hu ▸ rfl⟩
  · rw [if_neg (by omega), if_neg h]
    exact ⟨hst, hu ▸ rfl, hlo, hkeep, hu ▸ rfl⟩

theorem dbgSubmit_spec (hopen : s.opens SHR_DBG_CTL) : ∃ t, exec (.dbgSubmit 1) s = .next t
      ∧ (if s.dbgValid 1 = true then
          t.fld SHR_STS SHR_STS_STATUS = 0 ∧ t.fld SHR_STS SHR_STS_DBG_UNLOCKED = 1 ∧ t.shr = { s.shr with chal := false, level := 1 }
        else t.fld SHR_STS SHR_STS_STATUS = E_SHR_DBG ∧ t.shr = { s.shr with fails := s.shr.fails + 1 }
          ∧ t.fld SHR_STS SHR_STS_DBG_LOCKOUT = (if 2 ≤ s.shr.fails then 1 else s.fld SHR_STS SHR_STS_DBG_LOCKOUT))
      ∧ s.keeps t [SHR_STS] ∧ { t with regs := s.regs, shr := s.shr } = s := by
  have hsub : dbgSubmit 1 s = if s.dbgValid 1 = true then
      (dbgStatus 0 { s with shr := { s.shr with chal := false, level := 1 } }).setF SHR_STS SHR_STS_DBG_UNLOCKED 1 else dbgFail s :=
    if_neg (not_not_intro rfl)
  refine ⟨_, next_hostWr hopen hsub, ?_⟩
  by_cases h : s.dbgValid 1 = true
  · rw [if_pos h, if_pos h]
    exact ⟨⟨(fld_setF_beside _ _ SHR_STS_DBG_UNLOCKED SHR_STS_STATUS _ (by decide) (by decide) (by decide)).trans (sts_dbgStatus (by decide) _),
      fld_setF _ _ SHR_STS_DBG_UNLOCKED _ (by decide), rfl⟩, keeps_setF (keeps_setF (keeps_of_regs (keeps_rfl s _) rfl) (by simp)) (by simp), rfl⟩
  · rw [if_neg h, if_neg h]
    obtain ⟨hst, hshr, hlo, hkeep, hframe⟩ := dbgFail_spec s
    exact ⟨⟨hst, hshr, hlo⟩, hkeep, hframe⟩

theorem dbgScrap_spec (hopen : s.opens SHR_DBG_CTL) : ∃ t, exec (.dbgScrap 3) s = .next t
      ∧ (if s.dbgValid 3 = true then t.fld SHR_STS SHR_STS_STATUS = 0 ∧ t.shr = { s.shr with chal := false, scrap := true }
        else t.fld SHR_STS SHR_STS_STATUS = E_SHR_DBG ∧ t.shr = { s.shr with fails := s.shr.fails + 1 })
      ∧ s.keeps t [SHR_STS] ∧ { t with regs := s.regs, shr := s.shr } = s := by
  have hsub : dbgScrap 3 s = if s.dbgValid 3 = true then dbgStatus 0 { s with shr := { s.shr with chal := false, scrap := true } } else dbgFail s :=
    if_neg (not_not_intro rfl)
  refine ⟨_, next_hostWr hopen hsub, ?_⟩
  by_cases h : s.dbgValid 3 = true
  · rw [if_pos h, if_pos h]
    exact ⟨⟨sts_dbgStatus (by decide) _, rfl⟩, keeps_setF (keeps_of_regs (keeps_rfl s _) rfl) (by simp), rfl⟩
  · rw [if_neg h, if_neg h]
    obtain ⟨hst, hshr, -, hkeep, hframe⟩ := dbgFail_spec s
    exact ⟨⟨hst, hshr⟩, hkeep, hframe⟩

theorem dbgLock_spec (hopen : s.opens SHR_DBG_CTL) : ∃ t, exec .dbgLock s = .next t ∧ t.fld SHR_STS SHR_STS_DBG_UNLOCKED = 0
      ∧ t.fld SHR_STS SHR_STS_STATUS = 0 ∧ t.shr = { s.shr with level := 0 }
      ∧ (s.lifecycle = 1 → s.keeps t [SHR_STS] ∧ { t with regs := s.regs, shr := s.shr } = s)
      ∧ (s.lifecycle ≠ 1 → (∀ y b, y < 64 → b < 4 → t.fld (RAT_MBRK y b) RAT_MBRK_EN = 0 ∧ t.flag (RAT_MSTS y) RAT_MSTS_HALTED = false)
          ∧ ∀ x b, x < 8 → b < 2 → t.fld (RAT_WBRK x b) RAT_WBRK_EN = 0) := by
  obtain ⟨u, hu⟩ : ∃ u, u = (dbgStatus 0 { s with shr := { s.shr with level := 0 } }).setF SHR_STS SHR_STS_DBG_UNLOCKED 0 := ⟨_, rfl⟩
  have hlock : dbgLock s = ratLose u := by
    rw [hu]
    rfl
  obtain ⟨hlow, hshr⟩ := ratLose_low u
  have hfld (f : Fld) : (ratLose u).fld SHR_STS f = u.fld SHR_STS f := congrArg (getF · f) (hlow SHR_STS (by decide))
  have hun : u.fld SHR_STS SHR_STS_DBG_UNLOCKED = 0 := hu ▸ fld_setF _ _ SHR_STS_DBG_UNLOCKED _ (by decide)
  have hst : u.fld SHR_STS SHR_STS_STATUS = 0 := hu ▸
    (fld_setF_beside _ _ SHR_STS_DBG_UNLOCKED SHR_STS_STATUS _ (by decide) (by decide) (by decide)).trans (sts_dbgStatus (by decide) _)
  have hlc : u.lifecycle = s.lifecycle := hu ▸
    (fld_setF_beside _ _ SHR_STS_DBG_UNLOCKED SHR_STS_LIFECYCLE _ (by decide) (by decide) (by decide)).trans
      (fld_setF_beside _ _ SHR_STS_STATUS SHR_STS_LIFECYCLE _ (by decide) (by decide) (by decide))
  refine ⟨_, next_hostWr hopen hlock, (hfld _).trans hun, (hfld _).trans hst, hshr.trans (hu ▸ rfl), fun h1 => ?_, fun h1 => ?_⟩
  · rw [ratLose_open (hlc.trans h1), hu]
    exact ⟨keeps_setF (keeps_setF (keeps_of_regs (keeps_rfl s _) rfl) (by simp)) (by simp), rfl⟩
  · obtain ⟨hyards, hcores⟩ := ratLose_closed (s := u) (hlc ▸ h1) (by rw [State.flag, hun]; rfl)
    exact ⟨fun y b hy hb => ⟨(hyards y hy).1 b hb, (hyards y hy).2⟩, fun x b hx hb => hcores x hx b hb⟩

end

/-! ### The obligation -/

/-- Settles O47: each request of SPDM has its one response, and the debug commands move the challenge, the unlock and what Ratline holds. -/
theorem identityAnswersAndDebugUnlock : Obligations.IdentityAnswersAndDebugUnlock := by
  unfold Obligations.IdentityAnswersAndDebugUnlock
  refine ⟨?_, ?_, ?_, ?_, ?_, ?_, ?_, ?_, ?_, ?_, ?_, ?_⟩
  · exact fun _ _ _ _ h hoff hboot hlc => spdm_fixed hoff hboot hlc h
  · exact fun _ slot off len hoff hboot hlc => spdmCert_spec hoff hboot hlc slot off len
  · exact fun _ nonce hoff hboot hlc => spdmChallenge_spec hoff hboot hlc nonce
  · exact fun _ _ nonce hoff hboot hlc hlo hhi => spdmMeas_spec hoff hboot hlc nonce hlo hhi
  · exact fun _ _ nonce hoff hboot hlc hi hne => spdmMeas_none hoff hboot hlc nonce hi hne
  · exact fun _ _ h hoff hboot hlc => spdm_scrapped hoff hboot hlc h
  · exact fun _ hopen hlc hlock => dbgReq_spec hopen hlc hlock
  · exact fun _ hopen h => dbgReq_refused hopen h
  · exact fun _ hopen => dbgSubmit_spec hopen
  · exact fun _ _ hopen hlevel => ⟨_, next_hostWr hopen (if_pos hlevel), sts_dbgStatus (by decide) _, onlyRegs_dbgStatus ..⟩
  · exact fun _ hopen => dbgLock_spec hopen
  · exact fun _ hopen => dbgScrap_spec hopen

end Sys2Proof.Laws
end

section
namespace Sys2Proof.Laws
open Sys2Proof.Machine

-- One theorem after another: a thread for each of them passes the memory limit of the check.
set_option Elab.async false

section
variable {s t u : State} {i j a n : Nat}

/-! ### The state and the registers of a converter -/

theorem trc_setTrc_same (s : State) (i : Nat) (x : TrimC) : (s.setTrc i x).trc i = x := tget_tput_same s.trim.convs i x
theorem trc_setTrc_ne (s : State) (x : TrimC) (h : j ≠ i) : (s.setTrc i x).trc j = s.trc j :=
  (tget_tput s.trim.convs i j x).trans (if_neg h)

theorem trc_congr (h : t.trim = s.trim) (i : Nat) : t.trc i = s.trc i := by rw [State.trc, State.trc, h]

theorem elems_of_stored {e : Elems} (h : (s.trc i).elems = some e) : s.elems i = e := by rw [State.elems, h]; rfl

theorem elems_congr (h : (t.trc i).elems = (s.trc i).elems) : t.elems i = s.elems i := by rw [State.elems, State.elems, h]

theorem trimBad_congr (h : t.rd (TRIM_CSTS i) = s.rd (TRIM_CSTS i)) : t.trimBad i = s.trimBad i := by
  unfold State.trimBad State.flag State.fld
  rw [h]

/-- The registers of a converter (Table 18-7). -/
def convRegs (i : Nat) : List Nat := [TRIM_CSTS i, TRIM_CAL_COUNT i, TRIM_CAL_LAST_SEC i, TRIM_CAL_LAST_NS i, TRIM_SPARE i]

theorem sts_notMem_convRegs (i : Nat) : TRIM_STS ∉ convRegs i := by
  simp only [convRegs, TRIM_STS, TRIM_CSTS, TRIM_CAL_COUNT, TRIM_CAL_LAST_SEC, TRIM_CAL_LAST_NS, TRIM_SPARE, List.mem_cons, List.not_mem_nil, or_false]
  omega

theorem csts_ne_sts (i : Nat) : TRIM_CSTS i ≠ TRIM_STS := by unfold TRIM_CSTS TRIM_STS; omega
theorem count_ne_sts (i : Nat) : TRIM_CAL_COUNT i ≠ TRIM_STS := by unfold TRIM_CAL_COUNT TRIM_STS; omega
theorem count_ne_csts (i : Nat) : TRIM_CAL_COUNT i ≠ TRIM_CSTS i := by unfold TRIM_CAL_COUNT TRIM_CSTS; omega
theorem count_ne_spare (i : Nat) : TRIM_CAL_COUNT i ≠ TRIM_SPARE i := by unfold TRIM_CAL_COUNT TRIM_SPARE; omega
theorem csts_ne_spare (i : Nat) : TRIM_CSTS i ≠ TRIM_SPARE i := by unfold TRIM_CSTS TRIM_SPARE; omega

/-! ### What the parts of a calibration write -/

/-- Storing the elements, with RETIRED and FREE. -/
theorem setElems_spec (i : Nat) (e : Elems) (s : State) :
    (setElems i e s).trc i = { s.trc i with elems := some e } ∧ (setElems i e s).trim.fg = s.trim.fg
      ∧ s.keeps (setElems i e s) [TRIM_SPARE i] :=
  ⟨trc_setTrc_same .., rfl, keeps_setF (keeps_setF (keeps_rfl s _) (by simp)) (by simp)⟩

/-- A report shows its code and leaves the other fields. -/
theorem trimReport_spec (i code : Nat) (s : State) :
    (trimReport i code s).trim = s.trim ∧ (trimReport i code s).fld (TRIM_CSTS i) TRIM_CSTS_HEALTH = s.fld (TRIM_CSTS i) TRIM_CSTS_HEALTH
      ∧ s.keeps (trimReport i code s) [TRIM_CSTS i] :=
  ⟨rfl, fld_setF_beside s _ TRIM_CSTS_STATUS TRIM_CSTS_HEALTH _ (by decide) (by decide) (by decide),
    keeps_of_regs (keeps_setF (keeps_rfl s _) (by simp)) rfl⟩

/-- An application counts, and notes the time (R560). -/
theorem trimApplied_spec (i : Nat) (s : State) :
    (trimApplied i s).trim = s.trim ∧ (trimApplied i s).rdN (TRIM_CAL_COUNT i) = min 0xFFFFFFFF (s.rdN (TRIM_CAL_COUNT i) + 1)
      ∧ s.keeps (trimApplied i s) [TRIM_CAL_COUNT i, TRIM_CAL_LAST_SEC i, TRIM_CAL_LAST_NS i] := by
  refine ⟨rfl, ?_, keeps_wrN (keeps_wrN (keeps_countUp (keeps_rfl s _) (by simp)) (by simp)) (by simp)⟩
  have hsec : TRIM_CAL_COUNT i ≠ TRIM_CAL_LAST_SEC i := by unfold TRIM_CAL_COUNT TRIM_CAL_LAST_SEC; omega
  have hns : TRIM_CAL_COUNT i ≠ TRIM_CAL_LAST_NS i := by unfold TRIM_CAL_COUNT TRIM_CAL_LAST_NS; omega
  exact (rdN_wrN_ne _ _ _ _ hns).trans ((rdN_wrN_ne _ _ _ _ hsec).trans (rdN_inc ..))

theorem fld_csts_trimApplied (i : Nat) (f : Fld) (s : State) : (trimApplied i s).fld (TRIM_CSTS i) f = s.fld (TRIM_CSTS i) f := by
  obtain ⟨_, _, hkeeps⟩ := trimApplied_spec i s
  refine fld_of_keeps hkeeps ?_ f
  simp only [TRIM_CSTS, TRIM_CAL_COUNT, TRIM_CAL_LAST_SEC, TRIM_CAL_LAST_NS, List.mem_cons, List.not_mem_nil, or_false]
  omega

theorem fld_setHealth {h : Nat} (hh : h < 4) (s : State) : (setHealth i h s).fld (TRIM_CSTS i) TRIM_CSTS_HEALTH = h :=
  (fld_setF _ _ TRIM_CSTS_HEALTH _ (by decide)).trans (Nat.mod_eq_of_lt hh)

/-- The source of a yard set to zero: of the registers, only those of its yard. -/
theorem biaZero_spec (y : Nat) (s : State) : (biaZero y s).trim = s.trim ∧ s.keeps (biaZero y s) [BIA_ACT y, BIA_STS y] := by
  obtain ⟨u, hu⟩ : ∃ u, u = biaActSet y 0 s := ⟨_, rfl⟩
  obtain ⟨v, hv⟩ : ∃ v, v = feed (384 + y) 0 (s.clock.now + 16 * ft) (s.wrN (BIA_ACT y) (unsgn 20 0)) := ⟨_, rfl⟩
  obtain ⟨_, _, hregs, hrest⟩ := feed_spec _ _ _ _ hv
  have htrim : u.trim = s.trim := by
    rw [hu, Machine.biaActSet, ← hv]
    exact (congrArg State.trim hrest :)
  have hkeeps : s.keeps u [BIA_ACT y] := by
    rw [hu, Machine.biaActSet, ← hv]
    exact keeps_of_regs (keeps_wrN (keeps_rfl s _) (by simp)) hregs
  have hlast : u.onlyRegs (biaZero y s) [BIA_STS y] := by
    rw [Machine.biaZero, ← hu]
    exact onlyRegs_biaRefresh y u
  exact ⟨(congrArg State.trim (eq_of_onlyRegs hlast)).trans htrim, keeps_trans hkeeps hlast.2 (by simp) (by simp)⟩

/-! ### A foreground calibration begins (R548 to R551) -/

theorem E_TRIM_lt : E_TRIM_FAILED < 2 ^ 16 := by decide

/-- The converter out of service. -/
def fgBegun (i : Nat) (s : State) : State :=
  ((unstage i { trimStatus 0 s with trim := { s.trim with fg := some i } }).setF TRIM_STS TRIM_STS_FG_RUN 1).setF (TRIM_CSTS i) TRIM_CSTS_FG 1

theorem fgBegun_spec (i : Nat) (s : State) {u : State} (hu : u = fgBegun i s) :
    u.trim.fg = some i ∧ (u.trc i).staged = none ∧ u.fld TRIM_STS TRIM_STS_FG_RUN = 1 ∧ u.fld TRIM_STS TRIM_STS_STATUS = 0
      ∧ u.flag (TRIM_CSTS i) TRIM_CSTS_FG = true ∧ u.fld (TRIM_CSTS i) TRIM_CSTS_PENDING = 0 ∧ s.keeps u [TRIM_STS, TRIM_CSTS i]
      ∧ { u with regs := s.regs, trim := s.trim } = s := by
  subst hu
  have hne := csts_ne_sts i
  refine ⟨rfl, congrArg (·.staged) (trc_setTrc_same { trimStatus 0 s with trim := { s.trim with fg := some i } } i _), ?_, ?_,
    flag_setF_same _ _ _ _ (by decide) (by decide), ?_,
    keeps_setF (keeps_setF (keeps_setF (keeps_of_regs (keeps_setF (keeps_rfl s _) (by simp)) rfl) (by simp)) (by simp)) (by simp), rfl⟩
  · exact (fld_setF_ne _ _ _ _ _ _ hne.symm).trans (fld_setF _ _ TRIM_STS_FG_RUN _ (by decide))
  · refine (fld_setF_ne _ _ _ _ _ _ hne.symm).trans ((fld_setF_beside _ _ TRIM_STS_FG_RUN TRIM_STS_STATUS _ (by decide) (by decide)
      (by decide)).trans ((fld_setF_ne _ _ _ _ _ _ hne.symm).trans ?_))
    exact fld_setF s TRIM_STS TRIM_STS_STATUS 0 (by decide)
  · exact (fld_setF_beside _ _ TRIM_CSTS_FG TRIM_CSTS_PENDING _ (by decide) (by decide) (by decide)).trans
      ((fld_setF_ne _ _ _ _ _ _ hne).trans (fld_setF _ _ TRIM_CSTS_PENDING _ (by decide)))

/-- The checks of R550 pass. -/
theorem trimCheck_zero (fg : Bool) (hdev : s.dev = dREADY ∨ s.dev = dRUN) (hi : i < 0x1D0)
    (hy : ∀ y ∈ s.convYards i, (fg = true → s.yIdle y = true) ∧ ¬ (pSEALING ≤ s.pst (s.partOf y) ∧ s.pst (s.partOf y) ≤ pKEYED))
    (hfg : s.trim.fg = none) : s.trimCheck i fg = 0 := by
  have hseal : ¬ (s.convYards i).any (fun y => pSEALING ≤ s.pst (s.partOf y) && s.pst (s.partOf y) ≤ pKEYED) = true := by
    simpa using fun y hmem => not_and.1 (hy y hmem).2
  have hbusy : ¬ ((fg = true ∧ ¬ (s.convYards i).all (fun y => s.yIdle y) = true) ∨ s.trim.fg.isSome = true) := by
    rw [hfg]
    rintro (⟨h, hall⟩ | h)
    · exact hall (List.all_eq_true.2 fun y hmem => (hy y hmem).1 h)
    · exact Bool.false_ne_true h
  unfold State.trimCheck
  rw [if_neg (by omega), if_neg (by omega), if_neg hseal, if_neg hbusy]

theorem trimFg_of_passed (h : s.trimCheck i true = 0) :
    trimFg i s = if convClass i = 3 then biaZero (i - 0x160) (fgBegun i s) else fgBegun i s := by
  unfold Machine.trimFg
  rw [h]
  exact if_neg (fun h => h rfl)

/-- The registers of a yard's source are none of Trim. -/
theorem biaRegs_apart (y : Nat) {a : Nat} (ha : a < 0x1000000) : a ∉ [BIA_ACT y, BIA_STS y] := by
  simp only [BIA_ACT, BIA_STS, List.mem_cons, List.not_mem_nil, or_false]
  omega

theorem csts_low (hi : i < 0x1D0) : TRIM_CSTS i < 0x1000000 := by unfold TRIM_CSTS; omega

theorem trimFg_begins (hi : i < 0x1D0) (h : s.trimCheck i true = 0) :
    (trimFg i s).trim.fg = some i ∧ ((trimFg i s).trc i).staged = none ∧ (trimFg i s).fld TRIM_STS TRIM_STS_FG_RUN = 1
      ∧ (trimFg i s).fld TRIM_STS TRIM_STS_STATUS = 0 ∧ (trimFg i s).flag (TRIM_CSTS i) TRIM_CSTS_FG = true
      ∧ (trimFg i s).fld (TRIM_CSTS i) TRIM_CSTS_PENDING = 0
      ∧ (convClass i ≠ 3 → s.keeps (trimFg i s) [TRIM_STS, TRIM_CSTS i] ∧ { trimFg i s with regs := s.regs, trim := s.trim } = s) := by
  obtain ⟨u, hu⟩ : ∃ u, u = fgBegun i s := ⟨_, rfl⟩
  obtain ⟨hfg, hstaged, hrun, hstatus, hflag, hpending, hkeeps, hrest⟩ := fgBegun_spec i s hu
  rw [trimFg_of_passed h, ← hu]
  by_cases h3 : convClass i = 3
  · rw [if_pos h3]
    obtain ⟨htrim, hk⟩ := biaZero_spec (i - 0x160) u
    have hsts := fld_of_keeps hk (biaRegs_apart (i - 0x160) (a := TRIM_STS) (by decide))
    have hcsts := fld_of_keeps hk (biaRegs_apart (i - 0x160) (csts_low hi))
    exact ⟨(congrArg TrimS.fg htrim).trans hfg, (congrArg TrimC.staged (trc_congr htrim i)).trans hstaged, (hsts _).trans hrun, (hsts _).trans hstatus,
      (congrArg (· == 1) (hcsts _)).trans hflag, (hcsts _).trans hpending, fun hne => absurd h3 hne⟩
  · rw [if_neg h3]
    exact ⟨hfg, hstaged, hrun, hstatus, hflag, hpending, fun _ => ⟨hkeeps, hrest⟩⟩

/-! ### A foreground calibration ends (R549, R552) -/

theorem trim_settleFrom (k e n : Nat) (s : State) : (settleFrom k e n s).trim = s.trim := by
  unfold Machine.settleFrom
  split
  · rfl
  · rfl

theorem keeps_settleFrom (k e n : Nat) (s : State) : s.keeps (settleFrom k e n s) [convPage k + 4] := by
  unfold Machine.settleFrom
  split
  · exact keeps_rfl s _
  · exact keeps_setF (keeps_of_regs (keeps_rfl s _) rfl) (by simp)

/-- The converter back in service: FG clears, and of Trim's registers nothing else changes. -/
theorem fgReturn_spec (hi : i < 0x1D0) (s : State) {u : State} (hu : u = fgReturn i s) :
    u.trim = s.trim ∧ ∀ a, a < 0x1000000 → u.rd a = (s.setF (TRIM_CSTS i) TRIM_CSTS_FG 0).rd a := by
  subst hu
  obtain ⟨v, hv⟩ : ∃ v, v = s.setF (TRIM_CSTS i) TRIM_CSTS_FG 0 := ⟨_, rfl⟩
  have htrim : v.trim = s.trim := by rw [hv]; rfl
  unfold Machine.fgReturn
  rw [← hv, ← htrim]
  dsimp only
  split
  · have hreg := onlyRegs_biaRefresh (i - 0x160) v
    exact ⟨(congrArg State.trim (eq_of_onlyRegs hreg)).trans rfl,
      fun a ha => hreg.2 a fun h => biaRegs_apart _ ha (List.mem_cons_of_mem _ h)⟩
  · next h4 =>
    refine ⟨trim_settleFrom .., fun a ha => keeps_settleFrom _ _ _ _ a fun h => ?_⟩
    have hk : i - 0x1A0 < 32 := by
      unfold convClass at h4
      by_contra hlt
      simp only [show ¬ i < 0x40 by omega, show ¬ i < 0x60 by omega, show ¬ i < 0x160 by omega, show ¬ i < 0x1A0 by omega,
        show ¬ i < 0x1C0 by omega, if_false] at h4
      omega
    rw [List.mem_singleton.1 h, convPage, if_pos hk, CNV_CFG] at ha
    omega
  · exact ⟨rfl, fun a _ => rfl⟩

/-- The elements inside their range, the first of them in service. -/
def goodElems (i : Nat) (bad : List Nat) (n : Nat) : List (Nat × Nat) :=
  ((List.range (mappedTotal i + spareTotal i)).filter fun e => !bad.contains e).map fun e => (e, n)

theorem length_goodElems {bad : List Nat} (hlt : ∀ e ∈ bad, e < mappedTotal i + spareTotal i) (hnd : bad.Nodup) (n : Nat) :
    (goodElems i bad n).length + bad.length = mappedTotal i + spareTotal i := by
  rw [goodElems, List.length_map]
  have hperm : ((List.range (mappedTotal i + spareTotal i)).filter fun e => bad.contains e).Perm bad := by
    refine (List.perm_ext_iff_of_nodup (List.nodup_range.filter _) hnd).2 fun e => ?_
    simp only [List.mem_filter, List.mem_range, List.contains_iff_mem]
    exact ⟨fun h => h.2, fun h => ⟨hlt e h, h⟩⟩
  have hsplit := List.length_eq_length_filter_add (l := List.range (mappedTotal i + spareTotal i)) fun e => bad.contains e
  rw [hperm.length_eq, List.length_range] at hsplit
  omega

/-- HEALTH of a converter that is brought within its range (R549). -/
def fgHealth (i : Nat) (bad : List Nat) (n : Nat) : Nat :=
  if bad = [] then 0 else if (goodElems i bad n).length ≤ mappedTotal i then 2 else 1

theorem fgHealth_lt (i : Nat) (bad : List Nat) (n : Nat) : fgHealth i bad n < 4 := ite_lt_of (by decide) (ite_lt_of (by decide) (by decide))

/-- HEALTH tells whether a spare is left. -/
theorem fgHealth_eq {bad : List Nat} (hlen : bad.length ≤ spareTotal i) (hlt : ∀ e ∈ bad, e < mappedTotal i + spareTotal i) (hnd : bad.Nodup)
    (n : Nat) : fgHealth i bad n = if bad = [] then 0 else if bad.length = spareTotal i then 2 else 1 := by
  have hsum := length_goodElems hlt hnd n
  have hiff : (goodElems i bad n).length ≤ mappedTotal i ↔ bad.length = spareTotal i := by omega
  simp only [fgHealth, hiff]

/-- What a foreground calibration leaves: its HEALTH, and in TRIM only the registers of the converter changed. -/
theorem fgResult_spec (i : Nat) (bad : List Nat) (s : State) {u : State} (hu : u = fgResult i bad s) :
    u.trim.fg = s.trim.fg ∧ s.keeps u (convRegs i)
      ∧ u.fld (TRIM_CSTS i) TRIM_CSTS_HEALTH = if spareTotal i < bad.length then 3 else fgHealth i bad (s.trim.count + 1) := by
  subst hu
  unfold Machine.fgResult
  by_cases h : spareTotal i < bad.length
  · rw [if_pos h, if_pos h]
    obtain ⟨htrim, hhealth, hkeeps⟩ := trimReport_spec i E_TRIM_FAILED (setHealth i 3 s)
    exact ⟨(congrArg TrimS.fg htrim).trans rfl, keeps_trans (keeps_setF (keeps_rfl s [TRIM_CSTS i]) (by simp)) hkeeps (by simp [convRegs]) (by simp [convRegs]),
      hhealth.trans (fld_setHealth (by decide) s)⟩
  · rw [if_neg h, if_neg h]
    dsimp only
    rw [← goodElems, ← fgHealth]
    obtain ⟨v, hv⟩ : ∃ v, v = setElems i ⟨(goodElems i bad (s.trim.count + 1)).take (mappedTotal i),
      (goodElems i bad (s.trim.count + 1)).drop (mappedTotal i), bad⟩ { s with trim := { s.trim with count := s.trim.count + 1 } } := ⟨_, rfl⟩
    have hvfg : v.trim.fg = s.trim.fg := by rw [hv]; exact (setElems_spec ..).2.1
    have hvk : s.keeps v (convRegs i) := by
      rw [hv]
      exact keeps_mono (as := [TRIM_SPARE i]) (setElems_spec ..).2.2 (by simp [convRegs])
    rw [← hv]
    obtain ⟨w, hw⟩ : ∃ w, w = (setHealth i (fgHealth i bad (s.trim.count + 1)) v).when (fgHealth i bad (s.trim.count + 1) == 2)
      (trimReport i E_TRIM_DEGRADED) := ⟨_, rfl⟩
    have hwspec : w.trim.fg = s.trim.fg ∧ s.keeps w (convRegs i) ∧ w.fld (TRIM_CSTS i) TRIM_CSTS_HEALTH = fgHealth i bad (s.trim.count + 1) := by
      have hk : s.keeps (setHealth i (fgHealth i bad (s.trim.count + 1)) v) (convRegs i) := keeps_setF hvk (by simp [convRegs])
      have hh := fld_setHealth (i := i) (fgHealth_lt i bad (s.trim.count + 1)) v
      rw [hw]
      cases hc : fgHealth i bad (s.trim.count + 1) == 2
      · rw [when_of_false _ rfl]
        exact ⟨hvfg, hk, hh⟩
      · rw [when_of_true _ rfl]
        obtain ⟨htrim, hhealth, hkeeps⟩ := trimReport_spec i E_TRIM_DEGRADED (setHealth i (fgHealth i bad (s.trim.count + 1)) v)
        exact ⟨(congrArg TrimS.fg htrim).trans hvfg, keeps_trans hk hkeeps (by simp) (by simp [convRegs]), hhealth.trans hh⟩
    rw [← hw]
    obtain ⟨hwfg, hwk, hwh⟩ := hwspec
    obtain ⟨htrim, _, hkeeps⟩ := trimApplied_spec i w
    exact ⟨(congrArg TrimS.fg htrim).trans hwfg, keeps_trans hwk hkeeps (by simp) (by simp [convRegs]), (fld_csts_trimApplied i _ w).trans hwh⟩

/-- TRIM_FG_END of the converter in foreground calibration. -/
theorem trimFgEnd_spec {bad : List Nat} (hi : i < 0x1D0) (h : s.trim.fg = some i) {t : State} (ht : t = trimFgEnd i bad s) :
    t.trim.fg = none ∧ t.fld TRIM_STS TRIM_STS_FG_RUN = 0
      ∧ t.fld TRIM_STS TRIM_STS_STATUS = (if spareTotal i < bad.length then E_TRIM_FAILED else 0) ∧ t.fld (TRIM_CSTS i) TRIM_CSTS_FG = 0
      ∧ t.fld (TRIM_CSTS i) TRIM_CSTS_HEALTH = if spareTotal i < bad.length then 3 else fgHealth i bad (s.trim.count + 1) := by
  subst ht
  unfold Machine.trimFgEnd
  rw [if_neg (fun hne => hne h)]
  obtain ⟨u, hu⟩ : ∃ u : State, u = ({ s with trim := { s.trim with fg := none } } : State).setF TRIM_STS TRIM_STS_FG_RUN 0 := ⟨_, rfl⟩
  have hufg : u.trim.fg = none := by rw [hu]; rfl
  have hucount : u.trim.count = s.trim.count := by rw [hu]; rfl
  have hurun : u.fld TRIM_STS TRIM_STS_FG_RUN = 0 := by
    rw [hu]
    exact fld_setF _ _ TRIM_STS_FG_RUN 0 (by decide)
  obtain ⟨v, hv⟩ : ∃ v, v = fgResult i bad u := ⟨_, rfl⟩
  obtain ⟨hvfg, hvk, hvh⟩ := fgResult_spec i bad u hv
  obtain ⟨w, hw⟩ : ∃ w, w = fgReturn i v := ⟨_, rfl⟩
  obtain ⟨hwtrim, hwrd⟩ := fgReturn_spec hi v hw
  have hwf (a : Nat) (f : Fld) (ha : a < 0x1000000) : w.fld a f = (v.setF (TRIM_CSTS i) TRIM_CSTS_FG 0).fld a f := by
    rw [State.fld, State.fld, hwrd a ha]
  dsimp only
  rw [← hu, ← hv, ← hw, ← hucount]
  have hstatus : (if spareTotal i < bad.length then E_TRIM_FAILED else 0) < 2 ^ 16 := ite_lt_of E_TRIM_lt (by decide)
  refine ⟨(congrArg TrimS.fg hwtrim).trans (hvfg.trans hufg), ?_,
    (fld_setF w TRIM_STS TRIM_STS_STATUS _ (by decide)).trans (Nat.mod_eq_of_lt hstatus), ?_, ?_⟩
  · calc _ = w.fld TRIM_STS TRIM_STS_FG_RUN := fld_setF_beside _ _ TRIM_STS_STATUS TRIM_STS_FG_RUN _ (by decide) (by decide) (by decide)
      _ = v.fld TRIM_STS TRIM_STS_FG_RUN := (hwf _ _ (by decide)).trans (fld_setF_ne _ _ _ _ _ _ (csts_ne_sts i).symm)
      _ = 0 := (fld_of_keeps hvk (sts_notMem_convRegs i) _).trans hurun
  · exact (fld_setF_ne _ _ _ _ _ _ (csts_ne_sts i)).trans ((hwf _ _ (csts_low hi)).trans (fld_setF _ _ TRIM_CSTS_FG 0 (by decide)))
  · calc _ = w.fld (TRIM_CSTS i) TRIM_CSTS_HEALTH := fld_setF_ne _ _ _ _ _ _ (csts_ne_sts i)
      _ = v.fld (TRIM_CSTS i) TRIM_CSTS_HEALTH := (hwf _ _ (csts_low hi)).trans
        (fld_setF_beside _ _ TRIM_CSTS_FG TRIM_CSTS_HEALTH _ (by decide) (by decide) (by decide))
      _ = _ := hvh

/-! ### Background steps begin (R553, R555) -/

/-- A step begins: the converter's own state and its monitor's request. -/
theorem bgStart_spec (j : Nat) (s : State) {u : State} (hu : u = bgStart j s) :
    u.regs = s.regs ∧ u.trim.bgAt = s.trim.bgAt ∧ (∀ i, i ≠ j → u.trc i = s.trc i) ∧ (u.trc j).elems = (s.trc j).elems
      ∧ (u.trc j).step = ((s.trc j).step || s.bgMay j) ∧ (convClass j ≠ 5 → { u with trim := s.trim } = s) := by
  subst hu
  unfold Machine.bgStart
  by_cases h : s.bgMay j = true
  · rw [if_pos h, h]
    obtain ⟨v, hv⟩ : ∃ v, v = s.setTrc j { s.trc j with step := true } := ⟨_, rfl⟩
    have hvj : v.trc j = { s.trc j with step := true } := by rw [hv]; exact trc_setTrc_same ..
    have hvspec : v.regs = s.regs ∧ v.trim.bgAt = s.trim.bgAt ∧ (∀ i, i ≠ j → v.trc i = s.trc i) ∧ { v with trim := s.trim } = s := by
      rw [hv]
      exact ⟨rfl, rfl, fun i hne => trc_setTrc_ne _ _ hne, rfl⟩
    obtain ⟨hregs, hat, hne, hrest⟩ := hvspec
    have hel : (v.trc j).elems = (s.trc j).elems := (congrArg TrimC.elems hvj :)
    have hstep : (v.trc j).step = ((s.trc j).step || true) := (congrArg TrimC.step hvj :).trans (Bool.or_true _).symm
    rw [← hv]
    dsimp only
    split
    · next h5 => exact ⟨hregs, hat, hne, hel, hstep, fun hn => absurd h5 hn⟩
    · exact ⟨hregs, hat, hne, hel, hstep, fun _ => hrest⟩
  · rw [if_neg h, Bool.eq_false_iff.2 h, Bool.or_false]
    exact ⟨rfl, rfl, fun _ _ => rfl, rfl, rfl, fun _ => rfl⟩

theorem bgMay_congr (hrd : t.rd (TRIM_CSTS i) = s.rd (TRIM_CSTS i)) (hel : (t.trc i).elems = (s.trc i).elems) : t.bgMay i = s.bgMay i := by
  rw [State.bgMay, State.bgMay, trimBad_congr hrd, elems_congr hel]

/-- Between the steps that a run begins: the registers stand, and a converter has its step once its turn is past. -/
def bgUnder (s : State) (done : List Nat) (t : State) : Prop :=
  t.regs = s.regs ∧ t.trim.bgAt = s.trim.bgAt ∧ ∀ i, (t.trc i).elems = (s.trc i).elems
    ∧ (t.trc i).step = ((s.trc i).step || (decide (i ∈ done) && s.bgMay i))

theorem bgUnder_bgStart {done : List Nat} (h : bgUnder s done t) (j : Nat) : bgUnder s (j :: done) (bgStart j t) := by
  obtain ⟨hregs, hat, hconv⟩ := h
  obtain ⟨u, hu⟩ : ∃ u, u = bgStart j t := ⟨_, rfl⟩
  obtain ⟨huregs, huat, hune, huel, hustep, _⟩ := bgStart_spec j t hu
  rw [← hu]
  refine ⟨huregs.trans hregs, huat.trans hat, fun i => ?_⟩
  obtain ⟨hel, hstep⟩ := hconv i
  by_cases hij : i = j
  · subst hij
    have hmay : t.bgMay i = s.bgMay i := bgMay_congr (by rw [State.rd, State.rd, hregs]) hel
    refine ⟨huel.trans hel, hustep.trans ?_⟩
    rw [hmay, hstep]
    simp only [List.mem_cons, true_or, decide_true, Bool.true_and]
    cases s.bgMay i
    · simp
    · simp
  · rw [hune i hij]
    refine ⟨hel, hstep.trans ?_⟩
    simp [hij]

theorem forEach_bgStart (xs : List Nat) {done : List Nat} (h : bgUnder s done t) : bgUnder s (xs.reverse ++ done) (forEach xs t bgStart) := by
  induction xs generalizing done t with
  | nil => exact h
  | cons x xs ih =>
    have hrest := ih (bgUnder_bgStart h x)
    rwa [List.reverse_cons, List.append_assoc]

/-- A run begins a step of each converter that may run one. -/
theorem trimBgRun_spec (hdev : s.dev = dREADY ∨ s.dev = dRUN) (hat : s.trim.bgAt + s.fld TRIM_CTL TRIM_CTL_BG_PER * 20000000 ≤ s.clock.now) :
    (trimBgRun s).trim.bgAt = s.clock.now ∧ ∀ i, i < 0x1D0 →
      ((trimBgRun s).trc i).step = ((s.trc i).step || (bit (s.fld TRIM_CTL TRIM_CTL_BG_EN) (convClass i) && s.bgMay i)) := by
  unfold Machine.trimBgRun
  rw [if_pos ⟨hdev, hat⟩]
  dsimp only
  obtain ⟨u, hu⟩ : ∃ u : State, u = ({ s with trim := { s.trim with bgAt := s.clock.now } } : State) := ⟨_, rfl⟩
  have huat : u.trim.bgAt = s.clock.now := by rw [hu]
  have hutrc (i : Nat) : u.trc i = s.trc i := by rw [hu]; rfl
  have humay (i : Nat) : u.bgMay i = s.bgMay i := bgMay_congr (by rw [hu]; rfl) (by rw [hutrc])
  rw [← hu]
  have hstart : bgUnder u [] u := ⟨rfl, rfl, fun i => ⟨rfl, by simp⟩⟩
  obtain ⟨_, hvat, hconv⟩ := forEach_bgStart (allConvs.filter fun i => bit (s.fld TRIM_CTL TRIM_CTL_BG_EN) (convClass i)) hstart
  refine ⟨hvat.trans huat, fun i hi => ((hconv i).2).trans ?_⟩
  rw [hutrc, humay]
  simp [allConvs, hi]

/-- TRIM_BG_NOW with its checks passed. -/
theorem trimBgNow_spec (h : s.trimCheck i false = 0) (hmay : s.bgMay i = true) {t : State} (ht : t = trimBgNow i s) :
    (t.trc i).step = true ∧ t.fld TRIM_STS TRIM_STS_STATUS = 0 ∧ (∀ j, j ≠ i → t.trc j = s.trc j)
      ∧ (convClass i ≠ 5 → s.keeps t [TRIM_STS] ∧ { t with regs := s.regs, trim := s.trim } = s) := by
  subst ht
  unfold Machine.trimBgNow
  rw [h]
  dsimp only
  rw [if_neg (fun hne => hne rfl)]
  obtain ⟨u, hu⟩ : ∃ u, u = trimStatus 0 s := ⟨_, rfl⟩
  have huspec : u.trim = s.trim ∧ s.keeps u [TRIM_STS] ∧ u.fld TRIM_STS TRIM_STS_STATUS = 0 ∧ { u with regs := s.regs } = s := by
    rw [hu]
    exact ⟨rfl, keeps_setF (keeps_rfl s _) (by simp), fld_setF s TRIM_STS TRIM_STS_STATUS 0 (by decide), rfl⟩
  obtain ⟨htrim, hkeeps, hstatus, hrest⟩ := huspec
  have hmayu : u.bgMay i = true :=
    (bgMay_congr (rd_of_keeps hkeeps (by simpa using csts_ne_sts i)) (congrArg TrimC.elems (trc_congr htrim i))).trans hmay
  rw [← hu]
  obtain ⟨v, hv⟩ : ∃ v, v = bgStart i u := ⟨_, rfl⟩
  obtain ⟨hregs, _, hne, _, hstep, hother⟩ := bgStart_spec i u hv
  rw [← hv]
  refine ⟨hstep.trans (by rw [hmayu, Bool.or_true]), ?_, fun j hj => (hne j hj).trans (trc_congr htrim j), fun h5 => ⟨keeps_of_regs hkeeps hregs, ?_⟩⟩
  · rw [State.fld, State.rd, hregs]
    exact hstatus
  · exact (congrArg (fun x : State => { x with regs := s.regs, trim := s.trim }) (hother h5) :).trans
      ((congrArg (fun x : State => { x with trim := s.trim }) hrest :).trans rfl)

/-! ### A background step ends (R555 to R559) -/

/-- The step is over. -/
def stepOver (i : Nat) (s : State) : State :=
  let t := s.setTrc i { s.trc i with step := false }
  t.setF TRIM_STS TRIM_STS_BG_RUN (if t.trim.convs.any fun c => c.2.step then t.fld TRIM_STS TRIM_STS_BG_RUN else 0)

theorem stepOver_spec (i : Nat) (s : State) {u : State} (hu : u = stepOver i s) :
    u.trc i = { s.trc i with step := false } ∧ s.keeps u [TRIM_STS] := by
  subst hu
  exact ⟨trc_setTrc_same .., keeps_setF (keeps_of_regs (keeps_rfl s _) rfl) (by simp)⟩

/-- What a good step of an element leaves: a new calibration number on the spare, and the swap staged (R556). -/
def elemStaged (i e m : Nat) (s : State) : State :=
  let n := s.trim.count + 1
  stage i (.swap e m) (setElems i { s.elems i with free := (s.elems i).free.map fun f => if f.1 == e then (f.1, n) else f }
    { s with trim := { s.trim with count := n } })

/-- The step of a converter in service does its work by the class. -/
theorem trimStepEnd_eq (ok : Bool) (hstep : (s.trc i).step = true) (hmon : s.monCalibrates i = false) (hbad : s.trimBad i = false) {u : State}
    (hu : u = stepOver i s) :
    trimStepEnd i ok s = if convClass i = 5 then trimApplied i u else if spareTotal i = 0 then stage i .values u
      else trimStepEnd i ok s := by
  have hbadu : u.trimBad i = false := (trimBad_congr (rd_of_keeps (stepOver_spec i s hu).2 (by simpa using csts_ne_sts i))).trans hbad
  split
  · next h5 =>
    unfold Machine.trimStepEnd
    rw [if_neg (by simp [hstep, hmon])]
    dsimp only
    rw [hu, stepOver] at hbadu
    rw [hbadu, if_neg Bool.false_ne_true, if_pos h5, hu, stepOver]
  · next h5 =>
    split
    · next h0 =>
      unfold Machine.trimStepEnd
      rw [if_neg (by simp [hstep, hmon])]
      dsimp only
      rw [hu, stepOver] at hbadu
      rw [hbadu, if_neg Bool.false_ne_true, if_neg h5, if_pos h0, hu, stepOver]
    · rfl

/-- The step of a converter with spares is that of its oldest elements. -/
theorem trimStepEnd_elems (ok : Bool) (hstep : (s.trc i).step = true) (hbad : s.trimBad i = false) (hspare : spareTotal i ≠ 0) {e m : Nat × Nat}
    (hfree : oldest (s.elems i).free = some e) (hmapped : oldest (s.elems i).mapped = some m) {u : State} (hu : u = stepOver i s) :
    trimStepEnd i ok s = if ok then elemStaged i e.1 m.1 u else retireElem i e.1 u := by
  obtain ⟨htrc, hkeeps⟩ := stepOver_spec i s hu
  have h5 : convClass i ≠ 5 := by
    intro h
    unfold spareTotal at hspare
    rw [h] at hspare
    exact hspare rfl
  have hmon : s.monCalibrates i = false := by rw [State.monCalibrates, beq_false_of_ne h5, Bool.false_and]
  have hbadu : u.trimBad i = false := (trimBad_congr (rd_of_keeps hkeeps (by simpa using csts_ne_sts i))).trans hbad
  have hel : u.elems i = s.elems i := elems_congr (congrArg TrimC.elems htrc :)
  have hfreeu : oldest (u.elems i).free = some e := by rw [hel, hfree]
  have hmappedu : oldest (u.elems i).mapped = some m := by rw [hel, hmapped]
  unfold Machine.trimStepEnd
  rw [if_neg (by simp [hstep, hmon])]
  dsimp only
  rw [hu, stepOver] at hbadu hfreeu hmappedu
  rw [hbadu, if_neg Bool.false_ne_true, if_neg h5, if_neg hspare, hfreeu, hmappedu, hu, stepOver]
  cases ok
  · exact if_pos (by decide)
  · exact if_neg (by decide)

/-- A correction is staged, and PENDING shows it. -/
theorem stage_spec (i : Nat) (w : TrimSwap) (s : State) {u : State} (hu : u = stage i w s) :
    u.trc i = { s.trc i with staged := some w } ∧ u.flag (TRIM_CSTS i) TRIM_CSTS_PENDING = true
      ∧ s.keeps u [TRIM_SUPERSEDE_CNT, TRIM_CSTS i] := by
  subst hu
  obtain ⟨v, hv⟩ : ∃ v, v = s.when (s.trc i).staged.isSome fun s => s.inc TRIM_SUPERSEDE_CNT := ⟨_, rfl⟩
  have hvspec : v.trim = s.trim ∧ s.keeps v [TRIM_SUPERSEDE_CNT, TRIM_CSTS i] := by
    rw [hv]
    cases (s.trc i).staged.isSome
    · exact ⟨rfl, keeps_rfl s _⟩
    · exact ⟨rfl, keeps_countUp (keeps_rfl s _) (by simp)⟩
  obtain ⟨htrim, hkeeps⟩ := hvspec
  unfold Machine.stage
  rw [← hv]
  exact ⟨(trc_setTrc_same v i _).trans (by rw [trc_congr htrim]), flag_setF_same _ _ _ _ (by decide) (by decide),
    keeps_setF (keeps_of_regs hkeeps rfl) (by simp)⟩

theorem elemStaged_spec (i e m : Nat) (s : State) {u : State} (hu : u = elemStaged i e m s) :
    (u.trc i).step = (s.trc i).step ∧ (u.trc i).staged = some (.swap e m) ∧ u.flag (TRIM_CSTS i) TRIM_CSTS_PENDING = true
      ∧ (u.elems i).retired = (s.elems i).retired := by
  obtain ⟨v, hv⟩ : ∃ v : State, v = ({ s with trim := { s.trim with count := s.trim.count + 1 } } : State) := ⟨_, rfl⟩
  have hvtrc : v.trc i = s.trc i := by rw [hv]; rfl
  obtain ⟨x, hx⟩ : ∃ x : Elems, x = { s.elems i with free := (s.elems i).free.map fun f => if f.1 == e then (f.1, s.trim.count + 1) else f } :=
    ⟨_, rfl⟩
  have hret : x.retired = (s.elems i).retired := by rw [hx]
  rw [elemStaged] at hu
  dsimp only at hu
  rw [← hv, ← hx] at hu
  obtain ⟨htrc, _, _⟩ := setElems_spec i x v
  obtain ⟨hst, hflag, _⟩ := stage_spec i _ _ hu
  rw [htrc, hvtrc] at hst
  exact ⟨(congrArg TrimC.step hst :), (congrArg TrimC.staged hst :), hflag,
    (congrArg Elems.retired (elems_of_stored (congrArg TrimC.elems hst :))).trans hret⟩

/-- A spare outside its range is retired (R558, R559). -/
theorem retireElem_spec (i e : Nat) (s : State) {u : State} (hu : u = retireElem i e s) :
    u.trc i = { s.trc i with elems := some { s.elems i with
        free := (s.elems i).free.filter fun f => f.1 != e, retired := (s.elems i).retired ++ [e] } }
      ∧ u.fld (TRIM_CSTS i) TRIM_CSTS_HEALTH = if ((s.elems i).free.filter fun f => f.1 != e).isEmpty then 2 else 1 := by
  subst hu
  obtain ⟨x, hx⟩ : ∃ x : Elems, x = { s.elems i with
    free := (s.elems i).free.filter fun f => f.1 != e, retired := (s.elems i).retired ++ [e] } := ⟨_, rfl⟩
  obtain ⟨v, hv⟩ : ∃ v, v = trimReport i E_TRIM_SPARE_USED (setHealth i 1 (setElems i x s)) := ⟨_, rfl⟩
  obtain ⟨htrim, hhealth, _⟩ := trimReport_spec i E_TRIM_SPARE_USED (setHealth i 1 (setElems i x s))
  have hvtrc : v.trc i = { s.trc i with elems := some x } := by
    rw [hv, trc_congr htrim]
    exact (setElems_spec i x s).1
  have hvh : v.fld (TRIM_CSTS i) TRIM_CSTS_HEALTH = 1 := by
    rw [hv, hhealth]
    exact fld_setHealth (by decide) _
  unfold Machine.retireElem
  dsimp only
  rw [← hx, ← hv]
  split
  · obtain ⟨htrim, hhealth, _⟩ := trimReport_spec i E_TRIM_DEGRADED (setHealth i 2 v)
    exact ⟨(trc_congr htrim i).trans hvtrc, hhealth.trans (fld_setHealth (by decide) v)⟩
  · exact ⟨hvtrc, hvh⟩

/-! ### A correction is applied (R554, R560) -/

/-- The elements after a swap. -/
def swapped (x : Elems) (sp old : Nat) : Elems :=
  let stamp (e : Nat) (l : List (Nat × Nat)) : Nat := ((l.find? fun f => f.1 == e).map (·.2)).getD 0
  { x with mapped := x.mapped.map (fun m => if m.1 == old then (sp, stamp sp x.free) else m),
           free := x.free.map (fun f => if f.1 == sp then (old, stamp old x.mapped) else f) }

theorem map_fst_replace (l : List (Nat × Nat)) (a b n : Nat) :
    (l.map fun m => if m.1 == a then (b, n) else m).map (·.1) = l.map fun m => if m.1 = a then b else m.1 := by
  rw [List.map_map]
  refine List.map_congr_left fun m _ => ?_
  simp only [Function.comp_apply, beq_iff_eq]
  exact apply_ite Prod.fst _ _ _

theorem trimApply_spec {e o : Nat} (h : (s.trc i).staged = some (.swap e o)) (hphase : s.phase = 0)
    (hpass : ∀ y ∈ s.convYards i, s.inPass (s.groupOf y) = false) {t : State} (ht : t = trimApply i s) :
    (t.trc i).staged = none ∧ t.fld (TRIM_CSTS i) TRIM_CSTS_PENDING = 0 ∧ t.rdN TRIM_APPLY_CNT = min 0xFFFFFFFF (s.rdN TRIM_APPLY_CNT + 1)
      ∧ t.rdN (TRIM_CAL_COUNT i) = min 0xFFFFFFFF (s.rdN (TRIM_CAL_COUNT i) + 1) ∧ t.elems i = swapped (s.elems i) e o := by
  have hany : (s.convYards i).any (fun y => s.inPass (s.groupOf y)) = false := by simpa using hpass
  obtain ⟨u, hu⟩ : ∃ u, u = unstage i s := ⟨_, rfl⟩
  have hutrc : u.trc i = { s.trc i with staged := none } := by rw [hu]; exact trc_setTrc_same ..
  have huk : s.keeps u [TRIM_CSTS i] := by
    rw [hu]
    exact keeps_setF (keeps_of_regs (keeps_rfl s _) rfl) (by simp)
  have hupend : u.fld (TRIM_CSTS i) TRIM_CSTS_PENDING = 0 := by
    rw [hu]
    exact fld_setF _ _ TRIM_CSTS_PENDING 0 (by decide)
  have hel : u.elems i = s.elems i := elems_congr (congrArg TrimC.elems hutrc :)
  obtain ⟨v, hv⟩ : ∃ v, v = setElems i (swapped (u.elems i) e o) u := ⟨_, rfl⟩
  have heq : trimApply i s = trimApplied i (v.inc TRIM_APPLY_CNT) := by
    unfold Machine.trimApply
    rw [h]
    dsimp only
    rw [hany, if_neg (by simp [hphase]), ← hu, hv, swapped]
  obtain ⟨hvtrc, _, hvk⟩ := setElems_spec i (swapped (u.elems i) e o) u
  rw [← hv] at hvtrc hvk
  obtain ⟨htrim, hcount, hkeeps⟩ := trimApplied_spec i (v.inc TRIM_APPLY_CNT)
  have happly : TRIM_APPLY_CNT ∉ [TRIM_CAL_COUNT i, TRIM_CAL_LAST_SEC i, TRIM_CAL_LAST_NS i] := by
    simp only [TRIM_APPLY_CNT, TRIM_CAL_COUNT, TRIM_CAL_LAST_SEC, TRIM_CAL_LAST_NS, List.mem_cons, List.not_mem_nil, or_false]
    omega
  have happly_csts : TRIM_APPLY_CNT ≠ TRIM_CSTS i := by unfold TRIM_APPLY_CNT TRIM_CSTS; omega
  have happly_spare : TRIM_APPLY_CNT ≠ TRIM_SPARE i := by unfold TRIM_APPLY_CNT TRIM_SPARE; omega
  have happly_count : TRIM_CAL_COUNT i ≠ TRIM_APPLY_CNT := by unfold TRIM_APPLY_CNT TRIM_CAL_COUNT; omega
  have htrc : t.trc i = v.trc i := by
    rw [ht, heq]
    exact trc_congr (s := v) htrim i
  rw [hutrc] at hvtrc
  refine ⟨?_, ?_, ?_, ?_, ?_⟩
  · rw [htrc, hvtrc]
  · rw [ht, heq, fld_csts_trimApplied, fld_inc_ne _ _ _ _ happly_csts.symm, fld_of_keeps hvk (by simpa using csts_ne_spare i), hupend]
  · rw [ht, heq, rdN_of_keeps hkeeps happly, rdN_inc, rdN_of_keeps hvk (by simpa using happly_spare), rdN_of_keeps huk (by simpa using happly_csts)]
  · rw [ht, heq, hcount, rdN_inc_ne _ _ _ happly_count, rdN_of_keeps hvk (by simpa using count_ne_spare i),
      rdN_of_keeps huk (by simpa using count_ne_csts i)]
  · rw [elems_of_stored (congrArg TrimC.elems (htrc.trans hvtrc) :), hel]

end

/-- Settles O49: each command's effect on the converter, its elements and the registers of Trim. -/
theorem trimCalibratesAndAppliesInTheRightPlaces : Obligations.TrimCalibratesAndAppliesInTheRightPlaces := by
  unfold Obligations.TrimCalibratesAndAppliesInTheRightPlaces
  refine ⟨fun s i hopen hdev hi hy hfg => ?_, fun s i hopen hdev hi hmay hy hfg => ?_, fun s i bad hfg hi hlen hlt hnd => ?_,
    fun s i bad hfg hi hlen => ?_, fun s hdev hat => ⟨_, rfl, trimBgRun_spec hdev hat⟩, fun s i e m hstep hbad _ hspare hfree hmapped => ?_,
    fun s i e m hstep hbad _ hspare hfree hmapped => ?_, fun s i ok hstep hbad _ hspare h5 => ?_, fun s i ok hstep hbad _ h5 hmon => ?_,
    fun s i e o hst hphase _ hpass => ?_⟩
  · have hcheck := trimCheck_zero true hdev hi (fun y hmem => ⟨fun _ => (hy y hmem).1, (hy y hmem).2⟩) hfg
    exact ⟨_, next_hostWr hopen rfl, trimFg_begins hi hcheck⟩
  · have hcheck := trimCheck_zero false hdev hi (fun y hmem => ⟨fun h => absurd h Bool.false_ne_true, hy y hmem⟩) hfg
    exact ⟨_, next_hostWr hopen rfl, trimBgNow_spec hcheck hmay rfl⟩
  · obtain ⟨hnone, hrun, hstatus, hflag, hhealth⟩ := trimFgEnd_spec (bad := bad) hi hfg rfl
    rw [if_neg (Nat.not_lt.2 hlen)] at hstatus hhealth
    exact ⟨_, rfl, hnone, hrun, hstatus, hflag, hhealth.trans (fgHealth_eq hlen hlt hnd _)⟩
  · obtain ⟨hnone, _, hstatus, hflag, hhealth⟩ := trimFgEnd_spec (bad := bad) hi hfg rfl
    rw [if_pos hlen] at hstatus hhealth
    exact ⟨_, rfl, hnone, hstatus, hflag, hhealth⟩
  · obtain ⟨u, hu⟩ : ∃ u, u = stepOver i s := ⟨_, rfl⟩
    have htrc := (stepOver_spec i s hu).1
    obtain ⟨hst, hstaged, hflag, hret⟩ := elemStaged_spec i e.1 m.1 u rfl
    refine ⟨_, congrArg Host.Outcome.next ((trimStepEnd_elems true hstep hbad hspare hfree hmapped hu).trans (if_pos rfl)),
      hst.trans (congrArg TrimC.step htrc :), hstaged, hflag, hret.trans ?_⟩
    rw [elems_congr (congrArg TrimC.elems htrc :)]
  · obtain ⟨u, hu⟩ : ∃ u, u = stepOver i s := ⟨_, rfl⟩
    have htrc := (stepOver_spec i s hu).1
    have hel : u.elems i = s.elems i := elems_congr (congrArg TrimC.elems htrc :)
    obtain ⟨hst, hhealth⟩ := retireElem_spec i e.1 u rfl
    have helems := elems_of_stored (congrArg TrimC.elems hst :)
    rw [hel] at helems hhealth
    refine ⟨_, congrArg Host.Outcome.next ((trimStepEnd_elems false hstep hbad hspare hfree hmapped hu).trans (if_neg Bool.false_ne_true)),
      (congrArg TrimC.step hst :).trans (congrArg TrimC.step htrc :), (congrArg TrimC.staged hst :).trans (congrArg TrimC.staged htrc :),
      congrArg Elems.retired helems, congrArg Elems.free helems, hhealth.trans ?_⟩
    have hiff : ((s.elems i).free.filter fun f => f.1 != e.1).isEmpty = (s.elems i).free.all fun f => f.1 == e.1 := by
      rw [Bool.eq_iff_iff]
      simp [List.isEmpty_iff, List.filter_eq_nil_iff]
    rw [hiff]
  · obtain ⟨u, hu⟩ : ∃ u, u = stepOver i s := ⟨_, rfl⟩
    obtain ⟨htrc, hkeeps⟩ := stepOver_spec i s hu
    have hmon : s.monCalibrates i = false := by rw [State.monCalibrates, beq_false_of_ne h5, Bool.false_and]
    obtain ⟨hst, hflag, hstk⟩ := stage_spec i .values u rfl
    have hcnt : TRIM_CAL_COUNT i ∉ [TRIM_SUPERSEDE_CNT, TRIM_CSTS i] := by
      simp only [TRIM_CAL_COUNT, TRIM_SUPERSEDE_CNT, TRIM_CSTS, List.mem_cons, List.not_mem_nil, or_false]
      omega
    refine ⟨_, congrArg Host.Outcome.next ((trimStepEnd_eq ok hstep hmon hbad hu).trans ((if_neg h5).trans (if_pos hspare))),
      (congrArg TrimC.step hst :).trans (congrArg TrimC.step htrc :), (congrArg TrimC.staged hst :), hflag, ?_⟩
    rw [rdN_of_keeps hstk hcnt, rdN_of_keeps hkeeps (by simpa using count_ne_sts i)]
  · obtain ⟨u, hu⟩ : ∃ u, u = stepOver i s := ⟨_, rfl⟩
    obtain ⟨htrc, hkeeps⟩ := stepOver_spec i s hu
    obtain ⟨htrim, hcount, _⟩ := trimApplied_spec i u
    have htrc' := (trc_congr htrim i).trans htrc
    refine ⟨_, congrArg Host.Outcome.next ((trimStepEnd_eq ok hstep hmon hbad hu).trans (if_pos h5)), (congrArg TrimC.step htrc' :),
      (congrArg TrimC.staged htrc' :), hcount.trans ?_⟩
    rw [rdN_of_keeps hkeeps (by simpa using count_ne_sts i)]
  · obtain ⟨hnone, hpend, happly, hcount, hel⟩ := trimApply_spec hst hphase hpass rfl
    refine ⟨_, rfl, hnone, hpend, happly, hcount, ?_, ?_⟩
    · rw [hel]
      exact map_fst_replace ..
    · rw [hel]
      exact map_fst_replace ..

end Sys2Proof.Laws
end

section
namespace Sys2Proof.Laws
open Sys2Proof.Machine

-- One theorem after another: a thread for each of them passes the memory limit of the check.
set_option Elab.async false

section
variable {s t u : State} {p q cmd code v : Nat} {blob bs pay : List (BitVec 8)}

/-! ### The state and the registers of a partition -/

theorem shp_setShp (s : State) (p : Nat) (x : ShrPart) : (s.setShp p x).shp p = x := tget_tput_same s.shr.parts p x

theorem shp_modShp (s : State) (p : Nat) (f : ShrPart → ShrPart) : (s.modShp p f).shp p = f (s.shp p) := shp_setShp ..

theorem shp_congr (h : t.shr = s.shr) (p : Nat) : t.shp p = s.shp p := by rw [State.shp, State.shp, h]

theorem psts_ne_sts (p : Nat) : SHR_PSTS p ≠ SHR_STS := by unfold SHR_PSTS SHR_STS; omega
theorem psts_ne (h : q ≠ p) : SHR_PSTS q ≠ SHR_PSTS p := by unfold SHR_PSTS; omega
theorem psts_ne_pstmt (q p : Nat) {w : Nat} (_ : w < 120) : SHR_PSTS q ≠ SHR_PSTMT p w := by unfold SHR_PSTS SHR_PSTMT; omega
theorem sts_ne_pstmt (p w : Nat) : SHR_STS ≠ SHR_PSTMT p w := by unfold SHR_STS SHR_PSTMT; omega
theorem piseq_ne_psts (p : Nat) : SHR_PISEQ p ≠ SHR_PSTS p := by unfold SHR_PISEQ SHR_PSTS; omega
theorem piseq_ne_sts (p : Nat) : SHR_PISEQ p ≠ SHR_STS := by unfold SHR_PISEQ SHR_STS; omega
theorem pres_ne_psts (p : Nat) : SHR_PRES p ≠ SHR_PSTS p := by unfold SHR_PRES SHR_PSTS; omega
theorem psealId_ne_psts (p : Nat) : SHR_PSTS p ≠ SHR_PSEAL_ID p := by unfold SHR_PSEAL_ID SHR_PSTS; omega
theorem sts_ne_psealId (p : Nat) : SHR_STS ≠ SHR_PSEAL_ID p := by unfold SHR_PSEAL_ID SHR_STS; omega

/-- SEALED with the bit of a partition set. -/
theorem sealed_set : ∀ m < 256, ∀ p < 8, bit ((if bit m p then m - 2 ^ p else m) + 2 ^ p) p = true ∧ (if bit m p then m - 2 ^ p else m) + 2 ^ p < 256 := by
  decide +kernel

/-- PSTATE changes, and of the other fields only SEALED. -/
theorem setPst_spec (p : Nat) (hv : v < 8) (s : State) {u : State} (hu : u = s.setPst p v) :
    u.pst p = v ∧ u.fld (SHR_PSTS p) SHR_PSTS_JOB = s.fld (SHR_PSTS p) SHR_PSTS_JOB
      ∧ u.fld (SHR_PSTS p) SHR_PSTS_STATUS = s.fld (SHR_PSTS p) SHR_PSTS_STATUS ∧ u.lifecycle = s.lifecycle
      ∧ s.keeps u [SHR_PSTS p, SHR_STS] ∧ { u with regs := s.regs } = s := by
  subst hu
  have hne := psts_ne_sts p
  refine ⟨(fld_setF_ne _ _ _ _ _ _ hne).trans ((fld_setF _ _ SHR_PSTS_PSTATE _ (by decide)).trans (Nat.mod_eq_of_lt hv)), ?_, ?_, ?_,
    keeps_setF (keeps_setF (keeps_rfl s _) (by simp)) (by simp), rfl⟩
  · exact (fld_setF_ne _ _ _ _ _ _ hne).trans (fld_setF_beside _ _ SHR_PSTS_PSTATE SHR_PSTS_JOB _ (by decide) (by decide) (by decide))
  · exact (fld_setF_ne _ _ _ _ _ _ hne).trans (fld_setF_beside _ _ SHR_PSTS_PSTATE SHR_PSTS_STATUS _ (by decide) (by decide) (by decide))
  · exact (fld_setF_beside _ _ SHR_STS_SEALED SHR_STS_LIFECYCLE _ (by decide) (by decide) (by decide)).trans (fld_setF_ne _ _ _ _ _ _ hne.symm)

/-- SEALING sets the partition's bit of SEALED. -/
theorem sealed_setPst (hp : p < 8) (s : State) : bit ((s.setPst p pSEALING).fld SHR_STS SHR_STS_SEALED) p = true := by
  obtain ⟨hbit, hlt⟩ := sealed_set (s.fld SHR_STS SHR_STS_SEALED) (getF_lt _ SHR_STS_SEALED (by decide)) p hp
  have h : (s.setPst p pSEALING).fld SHR_STS SHR_STS_SEALED
      = (if bit (s.fld SHR_STS SHR_STS_SEALED) p then s.fld SHR_STS SHR_STS_SEALED - 2 ^ p else s.fld SHR_STS SHR_STS_SEALED) + 2 ^ p :=
    (fld_setF _ _ SHR_STS_SEALED _ (by decide)).trans (Nat.mod_eq_of_lt hlt)
  rw [h]
  exact hbit

theorem pst_of_keeps {as : List Nat} (h : s.keeps t as) (ha : SHR_PSTS q ∉ as) : t.pst q = s.pst q := fld_of_keeps h ha _

theorem lifecycle_of_keeps {as : List Nat} (h : s.keeps t as) (ha : SHR_STS ∉ as) : t.lifecycle = s.lifecycle := fld_of_keeps h ha _

/-- The end of a job (R535). -/
theorem shrEnd_spec (p : Nat) (hc : code < 2 ^ 16) (s : State) {u : State} (hu : u = shrEnd p code s) :
    u.shp p = { s.shp p with job := none } ∧ u.fld (SHR_PSTS p) SHR_PSTS_STATUS = code ∧ u.fld (SHR_PSTS p) SHR_PSTS_JOB = 0
      ∧ u.pst p = s.pst p ∧ s.keeps u [SHR_PSTS p] ∧ { u with regs := s.regs, shr := s.shr } = s := by
  subst hu
  refine ⟨shp_modShp { s with shr := { s.shr with gcm := s.shr.gcm.filter fun g => g != p } } p (fun x => { x with job := none }),
    (fld_setF _ _ SHR_PSTS_STATUS _ (by decide)).trans (Nat.mod_eq_of_lt hc), ?_, ?_,
    keeps_setF (keeps_setF (keeps_of_regs (keeps_rfl s _) rfl) (by simp)) (by simp), rfl⟩
  · exact (fld_setF_beside _ _ SHR_PSTS_STATUS SHR_PSTS_JOB _ (by decide) (by decide) (by decide)).trans
      (fld_setF _ _ SHR_PSTS_JOB 0 (by decide))
  · exact (fld_setF_beside _ _ SHR_PSTS_STATUS SHR_PSTS_PSTATE _ (by decide) (by decide) (by decide)).trans
      (fld_setF_beside _ _ SHR_PSTS_JOB SHR_PSTS_PSTATE _ (by decide) (by decide) (by decide))

/-- A job begins (R535). -/
theorem shrBegin_spec (p cmd : Nat) (blob : List (BitVec 8)) (s : State) {u : State} (hu : u = shrBegin p cmd blob s) :
    u.shp p = { s.shp p with job := some ⟨cmd, blob⟩ } ∧ u.shr.gcm = (if 3 ≤ cmd ∧ cmd ≤ 5 then s.shr.gcm ++ [p] else s.shr.gcm)
      ∧ u.fld (SHR_PSTS p) SHR_PSTS_JOB = 1 ∧ u.pst p = s.pst p ∧ s.keeps u [SHR_PSTS p] ∧ { u with regs := s.regs, shr := s.shr } = s := by
  obtain ⟨v, hv⟩ : ∃ v : State, v = if 3 ≤ cmd ∧ cmd ≤ 5 then { s with shr := { s.shr with gcm := s.shr.gcm ++ [p] } } else s := ⟨_, rfl⟩
  have hvspec : v.shr.parts = s.shr.parts ∧ v.shr.gcm = (if 3 ≤ cmd ∧ cmd ≤ 5 then s.shr.gcm ++ [p] else s.shr.gcm)
      ∧ { v with shr := s.shr } = s := by
    rw [hv]
    split
    · exact ⟨rfl, rfl, rfl⟩
    · exact ⟨rfl, rfl, rfl⟩
  obtain ⟨hparts, hgcm, hrest⟩ := hvspec
  have hregs : v.regs = s.regs := (congrArg State.regs hrest :)
  have hshp : v.shp p = s.shp p := by rw [State.shp, State.shp, hparts]
  unfold Machine.shrBegin at hu
  dsimp only at hu
  rw [← hv] at hu
  subst hu
  refine ⟨(shp_modShp v p fun x => { x with job := some ⟨cmd, blob⟩ }).trans (by rw [hshp]), hgcm, fld_setF _ _ SHR_PSTS_JOB 1 (by decide), ?_,
    keeps_setF (keeps_of_regs (keeps_rfl s _) hregs) (by simp), (congrArg (fun x : State => { x with regs := s.regs }) hrest :)⟩
  refine (fld_setF_beside _ _ SHR_PSTS_JOB SHR_PSTS_PSTATE _ (by decide) (by decide) (by decide)).trans ?_
  exact congrArg (fun r => getF (sget resetVal r (SHR_PSTS p)) SHR_PSTS_PSTATE) hregs

/-! ### SEAL (R527) -/

/-- The draws of SEAL. -/
def sealDrawn (p : Nat) (s : State) : State :=
  (s.nextFree.nextFree.nextFree.wr (SHR_PSEAL_ID p) s.freeW).modShp p fun x => { x with rk := s.bus.free + 2, xk := s.bus.free + 3 }

theorem shrSeal_of_passed (hb : s.shrBusy p = false) (hc : s.sealCheck p = 0) :
    shrSeal p s = ratLose ((shrBegin p 1 [] (sealDrawn p s)).setPst p pSEALING) := by
  unfold Machine.shrSeal
  rw [hb, hc]
  rfl

theorem sealCheck_lt (s : State) (p : Nat) : s.sealCheck p < 2 ^ 16 :=
  ite_lt_of (by decide) (ite_lt_of (by decide) (ite_lt_of (by decide) (ite_lt_of (by decide) (by decide))))

theorem shrSeal_of_failed (hb : s.shrBusy p = false) (hc : s.sealCheck p ≠ 0) : shrSeal p s = shrEnd p (s.sealCheck p) s := by
  unfold Machine.shrSeal
  rw [hb, if_neg Bool.false_ne_true]
  exact if_pos hc

theorem shrSeal_spec (hp : p < 8) (hb : s.shrBusy p = false) (hc : s.sealCheck p = 0) {t : State} (ht : t = shrSeal p s) :
    t.pst p = pSEALING ∧ t.fld (SHR_PSTS p) SHR_PSTS_JOB = 1 ∧ bit (t.fld SHR_STS SHR_STS_SEALED) p = true ∧ (t.shp p).job = some ⟨1, []⟩
      ∧ (∀ q, q < 8 → q ≠ p → t.pst q = s.pst q)
      ∧ (s.lifecycle = 1 → s.keeps t [SHR_PSTS p, SHR_STS, SHR_PSEAL_ID p] ∧ { t with regs := s.regs, shr := s.shr, bus := s.bus } = s) := by
  obtain ⟨d, hd⟩ : ∃ d, d = sealDrawn p s := ⟨_, rfl⟩
  have hdk : s.keeps d [SHR_PSEAL_ID p] := by
    rw [hd]
    exact keeps_of_regs (keeps_andWr (keeps_of_regs (keeps_rfl s _) rfl) (by simp)) rfl
  have hdrest : { d with regs := s.regs, shr := s.shr, bus := s.bus } = s := by rw [hd]; rfl
  obtain ⟨b, hbeg⟩ : ∃ b, b = shrBegin p 1 [] d := ⟨_, rfl⟩
  obtain ⟨hbshp, _, hbjob, _, hbk, hbrest⟩ := shrBegin_spec p 1 [] d hbeg
  obtain ⟨w, hw⟩ : ∃ w, w = b.setPst p pSEALING := ⟨_, rfl⟩
  obtain ⟨hwpst, hwjob, _, hwlc, hwk, hwrest⟩ := setPst_spec p (v := pSEALING) (by decide) b hw
  have hwshr : w.shr = b.shr := (congrArg State.shr hwrest :)
  have hk : s.keeps w [SHR_PSTS p, SHR_STS, SHR_PSEAL_ID p] :=
    keeps_trans (keeps_trans hdk hbk (cs := [SHR_PSTS p, SHR_STS, SHR_PSEAL_ID p]) (by simp) (by simp)) hwk (by simp) (by simp)
  rw [shrSeal_of_passed hb hc, ← hd, ← hbeg, ← hw] at ht
  obtain ⟨hlow, hshr⟩ := ratLose_low w
  rw [← ht] at hlow hshr
  have hfld (a : Nat) (f : Fld) (ha : a < 0xC00000) : t.fld a f = w.fld a f := by rw [State.fld, State.fld, hlow a ha]
  have hpsts (q : Nat) (hq : q < 8) (f : Fld) : t.fld (SHR_PSTS q) f = w.fld (SHR_PSTS q) f := hfld _ f (by unfold SHR_PSTS; omega)
  refine ⟨(hpsts p hp _).trans hwpst, (hpsts p hp _).trans (hwjob.trans hbjob), ?_, ?_, fun q hq hne => (hpsts q hq _).trans ?_, fun h1 => ?_⟩
  · rw [hfld _ _ (by decide), hw]
    exact sealed_setPst hp b
  · rw [shp_congr hshr, shp_congr hwshr, hbshp]
  · refine pst_of_keeps hk ?_
    simp only [SHR_PSTS, SHR_STS, SHR_PSEAL_ID, List.mem_cons, List.not_mem_nil, or_false]
    omega
  · have hlc : w.lifecycle = 1 := by
      rw [hwlc, lifecycle_of_keeps hbk (by simpa using (psts_ne_sts p).symm), lifecycle_of_keeps hdk (by simpa using sts_ne_psealId p), h1]
    rw [ratLose_open hlc] at ht
    subst ht
    refine ⟨hk, ?_⟩
    calc { t with regs := s.regs, shr := s.shr, bus := s.bus }
        = { b with regs := s.regs, shr := s.shr, bus := s.bus } := (congrArg (fun x : State => { x with regs := s.regs, shr := s.shr, bus := s.bus }) hwrest :)
      _ = { d with regs := s.regs, shr := s.shr, bus := s.bus } := (congrArg (fun x : State => { x with regs := s.regs, shr := s.shr, bus := s.bus }) hbrest :)
      _ = s := hdrest

/-! ### Statements (R530, Table 17-9) -/

theorem leAt_lt (bs : List (BitVec 8)) (o n : Nat) : leAt bs o n < 256 ^ n := by
  have h (l : List (BitVec 8)) : l.foldr (fun b acc => b.toNat + 256 * acc) 0 < 256 ^ l.length := by
    induction l with
    | nil => exact Nat.one_pos
    | cons b l ih =>
      have hb := b.isLt
      rw [List.foldr_cons, List.length_cons, Nat.pow_succ]
      omega
  exact Nat.lt_of_lt_of_le (h _) (Nat.pow_le_pow_right (by decide) (List.length_take_le ..))

theorem leAt_append {o n : Nat} (h : o + n ≤ bs.length) (cs : List (BitVec 8)) : leAt (bs ++ cs) o n = leAt bs o n := by
  rw [leAt, List.drop_append_of_le_length (by omega), List.take_append_of_le_length (by rw [List.length_drop]; omega), ← leAt]

theorem length_flatten_words (n : Nat) (f : Nat → Nat) : ((List.range n).map fun w => le 4 (f w)).flatten.length = 4 * n := by
  simp [List.length_flatten, Function.comp_def, Nat.mul_comm]

theorem length_stmtBody (hlen : bs.length = 48) : (s.stmtBody p bs).length = 384 := by
  simp only [State.stmtBody, List.length_append, length_le, length_be, length_sha, length_flatten_words, hlen]

theorem length_pmeasNow (s : State) (p : Nat) : (s.pmeasNow p).length = 48 := length_sha _

theorem pstmt_injective (p : Nat) : Function.Injective (SHR_PSTMT p) := fun a b h => by unfold SHR_PSTMT at h; omega

/-- The statement now, in the partition and in its registers. -/
theorem formStatement_spec (p : Nat) (s : State) {u : State} (hu : u = formStatement p s) :
    u.shp p = { s.shp p with stmt := s.stmtBody p (s.pmeasNow p), pmeas := s.pmeasNow p }
      ∧ (∀ w, w < 96 → u.rdN (SHR_PSTMT p w) = leAt (s.stmtBody p (s.pmeasNow p)) (4 * w) 4)
      ∧ s.keeps u ((List.range 120).map (SHR_PSTMT p)) ∧ { u with regs := s.regs, shr := s.shr, bus := s.bus } = s := by
  obtain ⟨body, hbody⟩ : ∃ body, body = s.stmtBody p (s.pmeasNow p) := ⟨_, rfl⟩
  obtain ⟨sig, hsig⟩ : ∃ sig, sig = be 96 (Config.ecdsaSig 0 s.bus.free body).toNat := ⟨_, rfl⟩
  have hlen : body.length = 384 := hbody ▸ length_stmtBody (length_pmeasNow s p)
  obtain ⟨v, hv⟩ : ∃ v, v = s.nextFree.modShp p fun x => { x with stmt := body, pmeas := s.pmeasNow p } := ⟨_, rfl⟩
  have hvspec : v.shp p = { s.shp p with stmt := body, pmeas := s.pmeasNow p } ∧ v.regs = s.regs
      ∧ { v with regs := s.regs, shr := s.shr, bus := s.bus } = s := by
    rw [hv]
    exact ⟨shp_modShp s.nextFree p _, rfl, rfl⟩
  obtain ⟨hvshp, hvregs, hvrest⟩ := hvspec
  unfold Machine.formStatement at hu
  dsimp only at hu
  rw [← hbody, ← hsig, ← hv, showBytes] at hu
  have honly : v.onlyRegs u ((List.range 120).map (SHR_PSTMT p)) := by rw [hu]; exact onlyRegs_forEach_wrN _ _ _ _
  have hue := eq_of_onlyRegs honly
  have hushr : u.shr = v.shr := (congrArg State.shr hue :)
  rw [← hbody]
  refine ⟨(shp_congr hushr p).trans hvshp, fun w hw => ?_, keeps_trans (keeps_of_regs (keeps_rfl s []) hvregs) honly.2 (by simp) (by simp), ?_⟩
  · have hrd : u.rd (SHR_PSTMT p w) = BitVec.ofNat 64 (leAt (body ++ sig) (4 * w) 4) := by
      rw [hu]
      exact rd_forEach_wrN (v := fun w => leAt (body ++ sig) (4 * w) 4) (pstmt_injective p) v (by omega)
    have hlt := leAt_lt body (4 * w) 4
    rw [State.rdN, hrd, leAt_append (by omega), BitVec.toNat_ofNat, Nat.mod_eq_of_lt (by omega)]
  · exact (congrArg (fun x : State => { x with regs := s.regs, shr := s.shr, bus := s.bus }) hue :).trans hvrest

theorem notMem_pstmt (q p : Nat) : SHR_PSTS q ∉ (List.range 120).map (SHR_PSTMT p) := by
  rw [List.mem_map]
  rintro ⟨w, hw, h⟩
  exact psts_ne_pstmt q p (List.mem_range.1 hw) h.symm

theorem sealComplete_spec (h : s.pst p = pSEALING) {t : State} (ht : t = sealComplete p s) :
    t.pst p = pSEALED ∧ t.fld (SHR_PSTS p) SHR_PSTS_STATUS = 0
      ∧ t.fld (SHR_PSTS p) SHR_PSTS_JOB = 0 ∧ (t.shp p).job = none ∧ (t.shp p).sealStmt = s.stmtBody p (s.pmeasNow p)
      ∧ (t.shp p).pmeas = s.pmeasNow p ∧ (∀ w, w < 96 → t.rdN (SHR_PSTMT p w) = leAt (s.stmtBody p (s.pmeasNow p)) (4 * w) 4)
      ∧ s.keeps t (SHR_PSTS p :: SHR_STS :: (List.range 120).map (SHR_PSTMT p)) ∧ { t with regs := s.regs, shr := s.shr, bus := s.bus } = s := by
  obtain ⟨f, hf⟩ : ∃ f, f = formStatement p s := ⟨_, rfl⟩
  obtain ⟨hfshp, hfrd, hfk, hfrest⟩ := formStatement_spec p s hf
  obtain ⟨m, hm⟩ : ∃ m, m = f.modShp p fun x => { x with sealStmt := x.stmt } := ⟨_, rfl⟩
  have hmspec : m.shp p = { f.shp p with sealStmt := (f.shp p).stmt } ∧ m.regs = f.regs
      ∧ { m with regs := s.regs, shr := s.shr, bus := s.bus } = { f with regs := s.regs, shr := s.shr, bus := s.bus } := by
    rw [hm]
    exact ⟨shp_modShp f p _, rfl, rfl⟩
  obtain ⟨hmshp, hmregs, hmrest⟩ := hmspec
  obtain ⟨w, hw⟩ : ∃ w, w = m.setPst p pSEALED := ⟨_, rfl⟩
  obtain ⟨hwpst, _, _, _, hwk, hwrest⟩ := setPst_spec p (v := pSEALED) (by decide) m hw
  have hwshr : w.shr = m.shr := (congrArg State.shr hwrest :)
  unfold Machine.sealComplete at ht
  rw [if_pos h] at ht
  dsimp only at ht
  rw [← hf, ← hm, ← hw] at ht
  obtain ⟨htshp, htstatus, htjob, htpst, htk, htrest⟩ := shrEnd_spec p (code := 0) (by decide) w ht
  have hshp : t.shp p = { s.shp p with stmt := s.stmtBody p (s.pmeasNow p), pmeas := s.pmeasNow p, sealStmt := s.stmtBody p (s.pmeasNow p), job := none } := by
    rw [htshp, shp_congr hwshr, hmshp, hfshp]
  have hend : f.keeps t [SHR_PSTS p, SHR_STS] := 
    keeps_trans (keeps_trans (keeps_of_regs (keeps_rfl f []) hmregs) hwk (cs := [SHR_PSTS p, SHR_STS]) (by simp) (by simp)) htk (by simp) (by simp)
  refine ⟨htpst.trans hwpst, htstatus, htjob, (congrArg ShrPart.job hshp :), (congrArg ShrPart.sealStmt hshp :), (congrArg ShrPart.pmeas hshp :),
    fun w hw => (rdN_of_keeps hend ?_).trans (hfrd w hw), keeps_trans hfk hend ?_ ?_, ?_⟩
  · simp only [List.mem_cons, List.not_mem_nil, or_false]
    rintro (h | h)
    · exact psts_ne_pstmt p p (by omega) h.symm
    · exact sts_ne_pstmt p w h.symm
  · exact fun a ha => List.mem_cons_of_mem _ (List.mem_cons_of_mem _ ha)
  · exact List.cons_subset_cons _ (List.cons_subset_cons _ (List.nil_subset _))
  · calc { t with regs := s.regs, shr := s.shr, bus := s.bus }
        = { w with regs := s.regs, shr := s.shr, bus := s.bus } := (congrArg (fun x : State => { x with regs := s.regs, shr := s.shr, bus := s.bus }) htrest :)
      _ = { m with regs := s.regs, shr := s.shr, bus := s.bus } := (congrArg (fun x : State => { x with regs := s.regs, shr := s.shr, bus := s.bus }) hwrest :)
      _ = s := hmrest.trans hfrest

/-! ### The other commands (R530 to R536) -/

/-- A command once its check has given a code. -/
def cmdRun (p cmd : Nat) (blob : List (BitVec 8)) (code : Nat) (s : State) : State :=
  let d := importDesc blob
  if s.shrBusy p then s.setF (SHR_PSTS p) SHR_PSTS_STATUS E_SHR_BUSY
  else if code ≠ 0 then
    let e := s.endInsts d.dkind d.dunit d.daddr d.len
    shrEnd p code (if cmd = 4 then s.denyIf code e.1 (e.2.headD 0) 3 p
      else s.denyIf code (if s.flag (SHR_PQID p) SHR_PQID_REGION then 7 else 6)
        (if s.flag (SHR_PQID p) SHR_PQID_REGION then s.rdN (SHR_PSRC p) / 4096 else s.fld (SHR_PQID p) SHR_PQID_QID) 3 p)
  else
    let s := if cmd = 4 ∧ d.dkind = 2 then
        s.changeSeg 64 (d.dunit / 4096 % 4) (d.dunit % 4096) { s.segOf d.dunit with state := .loading }
      else s
    shrBegin p cmd (if cmd = 5 then s.exportBytes p else blob) s

/-- Is a partition sealed? -/
def State.live (s : State) (p : Nat) : Bool := s.pst p == pSEALED || s.pst p == pKEYED

/-- The check of a blob of a fixed length. -/
def State.blobCode (s : State) (p n : Nat) (blob : List (BitVec 8)) : Nat :=
  if s.fld (SHR_PLEN p) SHR_PLEN_LEN = 0 then E_SHR_ZERO_LEN else if s.rdN (SHR_PSRC p) % 64 ≠ 0 then E_SHR_ALIGN
    else if s.fld (SHR_PLEN p) SHR_PLEN_LEN ≠ n ∨ blob.length ≠ n ∨ 2 ^ 64 < s.rdN (SHR_PSRC p) + s.fld (SHR_PLEN p) SHR_PLEN_LEN then E_SHR_LEN_EXCEEDS
    else 0

theorem statement_eq (p : Nat) (blob : List (BitVec 8)) (s : State) :
    shrCommand p 2 blob s = cmdRun p 2 blob (if State.live s p then 0 else E_SHR_STATE) s := rfl

theorem keyImport_eq (p : Nat) (blob : List (BitVec 8)) (s : State) :
    shrCommand p 3 blob s = cmdRun p 3 blob (if State.live s p then State.blobCode s p 272 blob else E_SHR_STATE) s := rfl

theorem import_eq (p : Nat) (blob : List (BitVec 8)) (s : State) :
    shrCommand p 4 blob s = cmdRun p 4 blob (if s.pst p ≠ pKEYED then E_SHR_NOKEY
      else if s.fld (SHR_PLEN p) SHR_PLEN_LEN = 0 then E_SHR_ZERO_LEN
      else if s.rdN (SHR_PSRC p) % 64 ≠ 0 then E_SHR_ALIGN
      else if s.fld (SHR_PLEN p) SHR_PLEN_LEN < 64 ∨ blob.length ≠ s.fld (SHR_PLEN p) SHR_PLEN_LEN
          ∨ 2 ^ 64 < s.rdN (SHR_PSRC p) + s.fld (SHR_PLEN p) SHR_PLEN_LEN then E_SHR_LEN_EXCEEDS
      else s.importCheck p blob) s := rfl

theorem export_eq (p : Nat) (blob : List (BitVec 8)) (s : State) :
    shrCommand p 5 blob s = cmdRun p 5 blob (if s.pst p = pKEYED then s.exportCheck p else E_SHR_STATE) s := rfl

theorem release_eq (p : Nat) (blob : List (BitVec 8)) (s : State) :
    shrCommand p 6 blob s = cmdRun p 6 blob (if State.live s p then State.blobCode s p 112 blob else E_SHR_STATE) s := rfl

theorem cmdRun_of_busy (h : s.shrBusy p = true) (cmd : Nat) (blob : List (BitVec 8)) (code : Nat) :
    cmdRun p cmd blob code s = s.setF (SHR_PSTS p) SHR_PSTS_STATUS E_SHR_BUSY := if_pos h

theorem cmdRun_of_refused (h : s.shrBusy p = false) (cmd : Nat) (blob : List (BitVec 8)) (hc : code ≠ 0) (hdeny : code ≠ E_IMG_RES_BUSY) :
    cmdRun p cmd blob code s = shrEnd p code s := by
  have hd (cls inst rkind rindex : Nat) : s.denyIf code cls inst rkind rindex = s := if_neg (by simpa using hdeny)
  unfold cmdRun
  rw [h, if_neg Bool.false_ne_true, if_pos hc, hd]
  dsimp only
  rw [hd, ite_self]

theorem cmdRun_of_passed (h : s.shrBusy p = false) (h4 : cmd ≠ 4) (blob : List (BitVec 8)) :
    cmdRun p cmd blob 0 s = shrBegin p cmd (if cmd = 5 then s.exportBytes p else blob) s := by
  unfold cmdRun
  rw [h, if_neg Bool.false_ne_true, if_neg (fun h => h rfl)]
  dsimp only
  rw [if_neg (c := cmd = 4 ∧ _) fun h => h4 h.1]

/-- IMPORT to a segment makes it LOADING. -/
def importLoading (blob : List (BitVec 8)) (s : State) : State :=
  if (importDesc blob).dkind = 2 then
    s.changeSeg 64 ((importDesc blob).dunit / 4096 % 4) ((importDesc blob).dunit % 4096) { s.segOf (importDesc blob).dunit with state := .loading }
  else s

theorem cmdRun_import (h : s.shrBusy p = false) (blob : List (BitVec 8)) :
    cmdRun p 4 blob 0 s = shrBegin p 4 blob (importLoading blob s) := by
  unfold cmdRun importLoading
  rw [h, if_neg Bool.false_ne_true, if_neg (fun h => h rfl)]
  dsimp only
  by_cases h2 : (importDesc blob).dkind = 2
  · rw [if_pos (c := 4 = 4 ∧ _) ⟨rfl, h2⟩, if_pos h2, if_neg (c := 4 = 5) (by decide)]
  · rw [if_neg (c := 4 = 4 ∧ _) (fun h => h2 h.2), if_neg h2, if_neg (c := 4 = 5) (by decide)]

theorem importLoading_spec (blob : List (BitVec 8)) (s : State) {u : State} (hu : u = importLoading blob s) :
    ((importDesc blob).dkind = 2 → (u.segOf (importDesc blob).dunit).state = .loading) ∧ ((importDesc blob).dkind ≠ 2 → u.hal = s.hal)
      ∧ u.regs = s.regs ∧ u.shr = s.shr ∧ { u with hal := s.hal } = s := by
  subst hu
  unfold importLoading
  split
  · next h2 =>
    exact ⟨fun _ => congrArg Seg.state (tget_tput_same s.hal.segs _ _), fun hne => absurd h2 hne, rfl, rfl, rfl⟩
  · next h2 => exact ⟨fun h => absurd h h2, fun _ => rfl, rfl, rfl, rfl⟩

theorem pst_congr (h : t.regs = s.regs) (p : Nat) : t.pst p = s.pst p := by rw [State.pst, State.pst, State.fld, State.fld, State.rd, State.rd, h]

/-- IMPORT begins (R532). -/
theorem shrImport_begins (hb : s.shrBusy p = false) (hst : s.pst p = pKEYED) (hal : s.rdN (SHR_PSRC p) % 64 = 0)
    (hlen : s.fld (SHR_PLEN p) SHR_PLEN_LEN = blob.length) (h64 : 64 ≤ blob.length) (htop : s.rdN (SHR_PSRC p) + blob.length ≤ 2 ^ 64)
    (hc : s.importCheck p blob = 0) {t : State} (ht : t = shrCommand p 4 blob s) :
    (t.shp p).job = some ⟨4, blob⟩ ∧ t.fld (SHR_PSTS p) SHR_PSTS_JOB = 1
      ∧ t.shr.gcm = s.shr.gcm ++ [p] ∧ ((importDesc blob).dkind = 2 → (t.segOf (importDesc blob).dunit).state = .loading)
      ∧ ((importDesc blob).dkind ≠ 2 → t.hal = s.hal) ∧ s.keeps t [SHR_PSTS p] ∧ { t with regs := s.regs, shr := s.shr, hal := s.hal } = s := by
  rw [import_eq, if_neg (fun h => h hst), if_neg (by omega), if_neg (fun h => h hal), if_neg (by omega), hc, cmdRun_import hb] at ht
  obtain ⟨u, hu⟩ : ∃ u, u = importLoading blob s := ⟨_, rfl⟩
  obtain ⟨hload, hhal, hregs, hshr, hrest⟩ := importLoading_spec blob s hu
  rw [← hu] at ht
  obtain ⟨htshp, htgcm, htjob, _, htk, htrest⟩ := shrBegin_spec p 4 blob u ht
  have hthal : t.hal = u.hal := (congrArg State.hal htrest :)
  refine ⟨congrArg ShrPart.job htshp, htjob, htgcm.trans (by rw [hshr]; rfl), fun h2 => ?_, fun hne => hthal.trans (hhal hne),
    keeps_trans (keeps_of_regs (keeps_rfl s []) hregs) htk (by simp) (by simp), ?_⟩
  · rw [State.segOf, State.seg, hthal]
    exact hload h2
  · exact (congrArg (fun x : State => { x with regs := s.regs, shr := s.shr, hal := s.hal }) htrest :).trans
      (congrArg (fun x : State => { x with regs := s.regs, shr := s.shr }) hrest :)

/-- What begins a job without a segment. -/
theorem shrBegin_job {t : State} (ht : t = shrBegin p cmd blob s) :
    (t.shp p).job = some ⟨cmd, blob⟩ ∧ t.fld (SHR_PSTS p) SHR_PSTS_JOB = 1 ∧ t.pst p = s.pst p
      ∧ s.keeps t [SHR_PSTS p] ∧ { t with regs := s.regs, shr := s.shr } = s := by
  obtain ⟨htshp, _, htjob, htpst, htk, htrest⟩ := shrBegin_spec p cmd blob s ht
  exact ⟨congrArg ShrPart.job htshp, htjob, htpst, htk, htrest⟩

theorem blobCode_zero {n : Nat} (hn : 0 < n) (hal : s.rdN (SHR_PSRC p) % 64 = 0) (hlen : s.fld (SHR_PLEN p) SHR_PLEN_LEN = blob.length)
    (hblob : blob.length = n) (htop : s.rdN (SHR_PSRC p) + blob.length ≤ 2 ^ 64) : State.blobCode s p n blob = 0 := by
  unfold State.blobCode
  rw [if_neg (by omega), if_neg (by omega), if_neg (by omega)]

theorem live_of (h : s.pst p = pSEALED ∨ s.pst p = pKEYED) : State.live s p = true := by
  simpa [State.live] using h

theorem live_of_open (h : s.pst p = pOPEN) : State.live s p = false := by
  rw [State.live, h]
  rfl

end

end Sys2Proof.Laws
end

section
namespace Sys2Proof.Laws
open Sys2Proof.Machine

-- One theorem after another: a thread for each of them passes the memory limit of the check.
set_option Elab.async false

section
variable {s t u : State} {p q code v : Nat} {blob bs pay : List (BitVec 8)}

/-! ### The end of a job (R531 to R536) -/

/-- A job that waits for its turn at the engine stands. -/
theorem shrJobEnd_of_waiting {j : ShrJob} (hj : (s.shp p).job = some j) (hgcm : s.shr.gcm.contains p = true) (hhead : s.shr.gcm.head? ≠ some p) :
    shrJobEnd p s = s := by
  unfold Machine.shrJobEnd
  rw [hj]
  exact if_pos ⟨hgcm, hhead⟩

/-- The job of a command ends in its turn. -/
theorem shrJobEnd_in_turn {cmd : Nat} (hj : (s.shp p).job = some ⟨cmd, bs⟩) (hturn : s.shr.gcm.contains p = true → s.shr.gcm.head? = some p) :
    (cmd = 2 → shrJobEnd p s = shrEnd p 0 (formStatement p s)) ∧ (cmd = 3 → shrJobEnd p s = keyImport p bs s)
      ∧ (cmd = 4 → shrJobEnd p s = importEnd p bs s) ∧ (cmd = 5 → shrJobEnd p s = exportEnd p bs s)
      ∧ (cmd = 6 → shrJobEnd p s = releaseEnd p bs s) := by
  have hnot : ¬ (s.shr.gcm.contains p = true ∧ s.shr.gcm.head? ≠ some p) := fun h => h.2 (hturn h.1)
  unfold Machine.shrJobEnd
  rw [hj]
  dsimp only
  rw [if_neg hnot]
  refine ⟨fun h => ?_, fun h => ?_, fun h => ?_, fun h => ?_, fun h => ?_⟩
  · simp only [h]
  · simp only [h]
  · simp only [h]
  · simp only [h]
  · simp only [h]

theorem statementEnd_spec {t : State} (ht : t = shrEnd p 0 (formStatement p s)) :
    (t.shp p).stmt = s.stmtBody p (s.pmeasNow p)
      ∧ (t.shp p).job = none ∧ t.fld (SHR_PSTS p) SHR_PSTS_STATUS = 0 ∧ t.pst p = s.pst p
      ∧ (∀ w, w < 96 → t.rdN (SHR_PSTMT p w) = leAt (s.stmtBody p (s.pmeasNow p)) (4 * w) 4)
      ∧ s.keeps t (SHR_PSTS p :: (List.range 120).map (SHR_PSTMT p)) ∧ { t with regs := s.regs, shr := s.shr, bus := s.bus } = s := by
  obtain ⟨f, hf⟩ : ∃ f, f = formStatement p s := ⟨_, rfl⟩
  obtain ⟨hfshp, hfrd, hfk, hfrest⟩ := formStatement_spec p s hf
  rw [← hf] at ht
  obtain ⟨htshp, htstatus, _, htpst, htk, htrest⟩ := shrEnd_spec p (code := 0) (by decide) f ht
  rw [hfshp] at htshp
  refine ⟨(congrArg ShrPart.stmt htshp :), (congrArg ShrPart.job htshp :), htstatus, htpst.trans (pst_of_keeps hfk (notMem_pstmt p p)),
    fun w hw => (rdN_of_keeps htk ?_).trans (hfrd w hw), keeps_trans hfk htk (List.subset_cons_self _ _) (by simp), ?_⟩
  · simpa using (psts_ne_pstmt p p (w := w) (by omega)).symm
  · exact (congrArg (fun x : State => { x with regs := s.regs, shr := s.shr, bus := s.bus }) htrest :).trans hfrest

/-- The check of KEY_IMPORT (R531) with the verdict `ok` on its signature. -/
def State.keyCode (s : State) (p : Nat) (bs : List (BitVec 8)) (ok : Bool) : Nat :=
  if zeroAt bs 5 3 = false ∨ zeroAt bs 0x7C 4 = false then E_SHR_RSVD_ENC
  else if leAt bs 0 4 ≠ 0x59454B53 ∨ leAt bs 4 1 ≠ p ∨ leAt bs 8 8 ≠ s.rdN (SHR_PSEAL_ID p) then E_SHR_RANGE
  else if ok = false then E_SHR_SIG
  else if Config.onCurve (slice bs 0x10 96) = false ∨ gcmTag (be 32 (Config.kek (s.shp p).xk (slice bs 0x10 96) (sha (s.shp p).sealStmt)).toNat)
      (slice bs 0x70 12) (slice bs 0 0x80) (slice bs 0x80 32) ≠ slice bs 0xA0 16 then E_SHR_AUTH
  else 0

theorem keyCode_lt (s : State) (p : Nat) (bs : List (BitVec 8)) (ok : Bool) : State.keyCode s p bs ok < 2 ^ 16 :=
  ite_lt_of (by decide) (ite_lt_of (by decide) (ite_lt_of (by decide) (ite_lt_of (by decide) (by decide))))

/-- The key taken. -/
def keyTaken (p : Nat) (bs : List (BitVec 8)) (s : State) : State :=
  let kek := be 32 (Config.kek (s.shp p).xk (slice bs 0x10 96) (sha (s.shp p).sealStmt)).toNat
  let tk := gcm kek (slice bs 0x70 12) (slice bs 0x80 32)
  (((s.modShp p fun x => { x with tk := some tk, sseq := 0, lastSig := [] }).wrN (SHR_PISEQ p) 0).setPst p pKEYED)

theorem keyImport_run {ok : Bool} (hok : ok = Config.ecdsaOk (s.partCfg p).tpk (slice bs 0 0xB0) (slice bs 0xB0 96)) :
    keyImport p bs s = shrEnd p (State.keyCode s p bs ok) (if State.keyCode s p bs ok = 0 then keyTaken p bs s else s) := by
  unfold Machine.keyImport State.keyCode
  rw [← hok]
  simp only [Bool.not_eq_true]
  by_cases h1 : zeroAt bs 5 3 = false ∨ zeroAt bs 0x7C 4 = false
  · rw [if_pos h1, if_pos h1, if_neg (by decide)]
  rw [if_neg h1, if_neg h1]
  by_cases h2 : leAt bs 0 4 ≠ 0x59454B53 ∨ leAt bs 4 1 ≠ p ∨ leAt bs 8 8 ≠ s.rdN (SHR_PSEAL_ID p)
  · rw [if_pos h2, if_pos h2, if_neg (by decide)]
  rw [if_neg h2, if_neg h2]
  by_cases h3 : ok = false
  · rw [if_pos h3, if_pos h3, if_neg (by decide)]
  rw [if_neg h3, if_neg h3]
  by_cases h4 : Config.onCurve (slice bs 0x10 96) = false ∨ gcmTag (be 32 (Config.kek (s.shp p).xk (slice bs 0x10 96) (sha (s.shp p).sealStmt)).toNat)
      (slice bs 0x70 12) (slice bs 0 0x80) (slice bs 0x80 32) ≠ slice bs 0xA0 16
  · rw [if_pos h4, if_pos h4, if_neg (by decide)]
  · rw [if_neg h4, if_neg h4, if_pos rfl, keyTaken]

theorem keyTaken_spec (p : Nat) (bs : List (BitVec 8)) (s : State) {u : State} (hu : u = keyTaken p bs s) :
    u.pst p = pKEYED ∧ (u.shp p).tk.isSome = true ∧ (u.shp p).sseq = 0 ∧ u.rdN (SHR_PISEQ p) = 0 ∧ s.keeps u [SHR_PSTS p, SHR_STS, SHR_PISEQ p]
      ∧ { u with regs := s.regs, shr := s.shr } = s := by
  obtain ⟨tk, htk⟩ : ∃ tk, tk = gcm (be 32 (Config.kek (s.shp p).xk (slice bs 0x10 96) (sha (s.shp p).sealStmt)).toNat) (slice bs 0x70 12)
    (slice bs 0x80 32) := ⟨_, rfl⟩
  obtain ⟨m, hm⟩ : ∃ m, m = s.modShp p fun x => { x with tk := some tk, sseq := 0, lastSig := [] } := ⟨_, rfl⟩
  have hmshp : m.shp p = { s.shp p with tk := some tk, sseq := 0, lastSig := [] } := by rw [hm]; exact shp_modShp s p _
  obtain ⟨w, hw⟩ : ∃ w, w = m.wrN (SHR_PISEQ p) 0 := ⟨_, rfl⟩
  have hwspec : w.rdN (SHR_PISEQ p) = 0 ∧ s.keeps w [SHR_PISEQ p] ∧ w.shr = m.shr ∧ { w with regs := s.regs, shr := s.shr } = s := by
    rw [hw, hm]
    exact ⟨congrArg BitVec.toNat (rd_wr_same ..), keeps_wrN (keeps_of_regs (keeps_rfl s _) rfl) (by simp), rfl, rfl⟩
  obtain ⟨hwrd, hwk, hwshr, hwrest⟩ := hwspec
  unfold keyTaken at hu
  dsimp only at hu
  rw [← htk, ← hm, ← hw] at hu
  obtain ⟨hpst, _, _, _, hk, hrest⟩ := setPst_spec p (v := pKEYED) (by decide) w hu
  have hushr : u.shr = w.shr := (congrArg State.shr hrest :)
  have hushp := (shp_congr (hushr.trans hwshr) p).trans hmshp
  refine ⟨hpst, ?_, ?_, (rdN_of_keeps hk ?_).trans hwrd, keeps_trans hwk hk (by simp) (by simp),
    (congrArg (fun x : State => { x with regs := s.regs, shr := s.shr }) hrest :).trans hwrest⟩
  · rw [hushp]
    rfl
  · rw [hushp]
  · simpa using ⟨piseq_ne_psts p, piseq_ne_sts p⟩

theorem keyImport_spec {ok : Bool} (hok : ok = Config.ecdsaOk (s.partCfg p).tpk (slice bs 0 0xB0) (slice bs 0xB0 96))
    {c : Nat} (hc : c = State.keyCode s p bs ok) {t : State} (ht : t = keyImport p bs s) :
    t.fld (SHR_PSTS p) SHR_PSTS_STATUS = c ∧ (t.shp p).job = none ∧ t.pst p = (if c = 0 then pKEYED else s.pst p)
      ∧ (if c = 0 then (t.shp p).tk.isSome = true ∧ (t.shp p).sseq = 0 ∧ t.rdN (SHR_PISEQ p) = 0 else t.rdN (SHR_PISEQ p) = s.rdN (SHR_PISEQ p))
      ∧ s.keeps t [SHR_PSTS p, SHR_STS, SHR_PISEQ p] ∧ { t with regs := s.regs, shr := s.shr } = s := by
  have hlt : c < 2 ^ 16 := hc ▸ keyCode_lt s p bs ok
  rw [keyImport_run hok, ← hc] at ht
  obtain ⟨u, hu⟩ : ∃ u, u = if c = 0 then keyTaken p bs s else s := ⟨_, rfl⟩
  rw [← hu] at ht
  obtain ⟨hshp, hstatus, _, hpst, hk, hrest⟩ := shrEnd_spec p hlt u ht
  have hpiseq : t.rdN (SHR_PISEQ p) = u.rdN (SHR_PISEQ p) := rdN_of_keeps hk (by simpa using piseq_ne_psts p)
  rw [hpst, hpiseq, hshp]
  by_cases h0 : c = 0
  · rw [if_pos h0] at hu
    obtain ⟨hupst, hutk, husseq, hupiseq, huk, hurest⟩ := keyTaken_spec p bs s hu
    rw [if_pos h0, if_pos h0]
    exact ⟨hstatus, rfl, hupst, ⟨hutk, husseq, hupiseq⟩, keeps_trans huk hk (by simp) (by simp),
      (congrArg (fun x : State => { x with regs := s.regs, shr := s.shr }) hrest :).trans hurest⟩
  · rw [if_neg h0] at hu
    subst hu
    rw [if_neg h0, if_neg h0]
    exact ⟨hstatus, rfl, rfl, rfl, keeps_mono hk (by simp), hrest⟩

/-- IMPORT to the result store (R533). -/
theorem importEnd_res (hdk : (importDesc bs).dkind = 1) {iv : List (BitVec 8)} (hiv : iv = slice bs 0x18 12) {t : State} (ht : t = importEnd p bs s) :
    (if gcmTag ((s.shp p).tk.getD []) iv (slice bs 0 0x30) (bs.drop 64) = slice bs 0x30 16 then
          t.cnv = { s.cnv with res := stList s.cnv.res (importDesc bs).daddr (gcm ((s.shp p).tk.getD []) iv (bs.drop 64)) }
            ∧ t.rdN (SHR_PISEQ p) = leAt bs 0x14 4 ∧ t.fld (SHR_PSTS p) SHR_PSTS_STATUS = 0
        else t.cnv = { s.cnv with res := stList s.cnv.res (importDesc bs).daddr (zeros (bs.drop 64).length) }
            ∧ t.rdN (SHR_PISEQ p) = s.rdN (SHR_PISEQ p) ∧ t.fld (SHR_PSTS p) SHR_PSTS_STATUS = E_SHR_AUTH)
      ∧ (t.shp p).job = none ∧ t.pst p = s.pst p ∧ s.keeps t [SHR_PSTS p, SHR_PISEQ p]
      ∧ { t with regs := s.regs, shr := s.shr, cnv := s.cnv } = s := by
  have hmoved : (importDesc bs).moved = 0 := rfl
  have h6 : ¬ ((importDesc bs).dkind = 6 ∧ s.strmSpace (importDesc bs).dunit 0 < (importDesc bs).len) := by omega
  have h2 : (importDesc bs).dkind ≠ 2 := by omega
  have h6' : (importDesc bs).dkind ≠ 6 := by omega
  have hpsts : SHR_PSTS p ∉ [SHR_PISEQ p] := by simpa using (piseq_ne_psts p).symm
  have hpiseq : SHR_PISEQ p ∉ [SHR_PSTS p] := by simpa using piseq_ne_psts p
  unfold Machine.importEnd at ht
  dsimp only at ht
  rw [if_neg h6, ← hiv] at ht
  by_cases htag : gcmTag ((s.shp p).tk.getD []) iv (slice bs 0 0x30) (bs.drop 64) = slice bs 0x30 16
  · rw [if_pos htag, if_neg h2, dstWrite_res hdk, hmoved, Nat.add_zero] at ht
    obtain ⟨res, hres⟩ : ∃ res, res = stList s.cnv.res (importDesc bs).daddr (gcm ((s.shp p).tk.getD []) iv (bs.drop 64)) := ⟨_, rfl⟩
    rw [← hres] at ht ⊢
    obtain ⟨w, hw⟩ : ∃ w : State, w = ({ s with cnv := { s.cnv with res := res } } : State).wrN (SHR_PISEQ p) (leAt bs 0x14 4) := ⟨_, rfl⟩
    have hwspec : w.cnv = { s.cnv with res := res }
        ∧ w.rdN (SHR_PISEQ p) = leAt bs 0x14 4 ∧ s.keeps w [SHR_PISEQ p] ∧ { w with regs := s.regs, cnv := s.cnv } = s := by
      have hlt := leAt_lt bs 0x14 4
      rw [hw]
      refine ⟨rfl, ?_, keeps_wrN (keeps_of_regs (keeps_rfl s _) rfl) (by simp), rfl⟩
      rw [rdN_wrN, Nat.mod_eq_of_lt (by omega)]
    obtain ⟨hwcnv, hwrd, hwk, hwrest⟩ := hwspec
    rw [← hw] at ht
    obtain ⟨hshp, hstatus, _, hpst, hk, hrest⟩ := shrEnd_spec p (code := 0) (by decide) w ht
    rw [if_pos htag, hshp]
    have hcnv : t.cnv = w.cnv := (congrArg State.cnv hrest :)
    exact ⟨⟨hcnv.trans hwcnv, (rdN_of_keeps hk hpiseq).trans hwrd, hstatus⟩, rfl, hpst.trans (pst_of_keeps hwk hpsts),
      keeps_trans hwk hk (by simp) (by simp), (congrArg (fun x : State => { x with regs := s.regs, shr := s.shr, cnv := s.cnv }) hrest :).trans
        (congrArg (fun x : State => { x with shr := s.shr }) hwrest :)⟩
  · rw [if_neg htag, if_neg h2, if_neg h6', dstWrite_res hdk, hmoved, Nat.add_zero] at ht
    obtain ⟨w, hw⟩ : ∃ w : State, w = ({ s with cnv := { s.cnv with res := stList s.cnv.res (importDesc bs).daddr (zeros (bs.drop 64).length) } } : State) :=
      ⟨_, rfl⟩
    have hwspec : w.cnv = { s.cnv with res := stList s.cnv.res (importDesc bs).daddr (zeros (bs.drop 64).length) } ∧ w.regs = s.regs
        ∧ { w with cnv := s.cnv } = s := by
      rw [hw]
      exact ⟨rfl, rfl, rfl⟩
    obtain ⟨hwcnv, hwregs, hwrest⟩ := hwspec
    have hwk : s.keeps w [] := keeps_of_regs (keeps_rfl s _) hwregs
    rw [← hw] at ht
    obtain ⟨hshp, hstatus, _, hpst, hk, hrest⟩ := shrEnd_spec p (code := E_SHR_AUTH) (by decide) w ht
    rw [if_neg htag, hshp]
    have hcnv : t.cnv = w.cnv := (congrArg State.cnv hrest :)
    exact ⟨⟨hcnv.trans hwcnv, (rdN_of_keeps hk hpiseq).trans (rdN_of_keeps hwk (by simp)), hstatus⟩, rfl, hpst.trans (pst_congr hwregs p),
      keeps_trans hwk hk (by simp) (by simp), (congrArg (fun x : State => { x with regs := s.regs, shr := s.shr, cnv := s.cnv }) hrest :).trans
        (congrArg (fun x : State => { x with regs := s.regs, shr := s.shr }) hwrest :)⟩

/-- The header of an export blob (Table 17-12). -/
def exportHead (p : Nat) (pay : List (BitVec 8)) (s : State) : List (BitVec 8) :=
  let x := s.shp p
  let region := s.flag (SHR_PQID p) SHR_PQID_REGION
  le 4 0x50584553 ++ le 1 p ++ le 1 (b01 region) ++ zeros 2 ++ le 4 (if region then s.rdN (SHR_PSRC p) else s.fld (SHR_PQID p) SHR_PQID_QID)
    ++ le 4 pay.length ++ le 8 (s.rdN (SHR_PSEAL_ID p)) ++ le 8 x.sseq ++ le 8 s.tb1 ++ ([1, 0, 0, 0] ++ le 8 x.sseq) ++ zeros 12
    ++ (if x.sseq = 0 then sha x.stmt else sha x.lastSig)

/-- The blob without its signature. -/
def exportBody (p : Nat) (pay : List (BitVec 8)) (s : State) : List (BitVec 8) :=
  let x := s.shp p
  let iv := [1, 0, 0, 0] ++ le 8 x.sseq
  let ct := gcm (x.tk.getD []) iv pay
  exportHead p pay s ++ gcmTag (x.tk.getD []) iv (exportHead p pay s) ct ++ ct

theorem length_gcm (key iv bs : List (BitVec 8)) : (gcm key iv bs).length = bs.length := by simp [gcm]

theorem length_exportHead (p : Nat) (pay : List (BitVec 8)) (s : State) : (exportHead p pay s).length = 112 := by
  have hchain : (if (s.shp p).sseq = 0 then sha (s.shp p).stmt else sha (s.shp p).lastSig).length = 48 := by
    split
    · exact length_sha _
    · exact length_sha _
  simp only [exportHead, List.length_append, length_le, zeros, List.length_replicate, hchain, List.length_cons, List.length_nil]

theorem length_exportBody (p : Nat) (pay : List (BitVec 8)) (s : State) : (exportBody p pay s).length = pay.length + 128 := by
  simp only [exportBody, List.length_append, length_exportHead, gcmTag, length_be, length_gcm]
  omega

/-- The blob with its signature. -/
def exportBlob (p : Nat) (pay : List (BitVec 8)) (s : State) : List (BitVec 8) :=
  exportBody p pay s ++ be 96 (Config.ecdsaSig (s.shp p).rk s.bus.free (exportBody p pay s)).toNat

/-- The count and the signature of an export in its partition. -/
def exportSigned (p : Nat) (sig : List (BitVec 8)) (s : State) : State :=
  s.nextFree.modShp p fun x => { x with sseq := x.sseq + 1, lastSig := sig }

/-- An export of a region. -/
theorem exportEnd_region (h : s.flag (SHR_PQID p) SHR_PQID_REGION = true) (pay : List (BitVec 8)) :
    exportEnd p pay s = shrEnd p 0 (((exportSigned p (be 96 (Config.ecdsaSig (s.shp p).rk s.bus.free (exportBody p pay s)).toNat) s).toHost
      (.mem (s.rdN (SHR_PDST p)) (exportBlob p pay s))).wrN (SHR_PRES p) ((exportBody p pay s).length + 96)) := by
  unfold Machine.exportEnd exportBlob exportBody exportHead
  rw [h]
  rfl

theorem exportEnd_spec (h : s.flag (SHR_PQID p) SHR_PQID_REGION = true) (hlen : pay.length ≤ 65536) {t : State} (ht : t = exportEnd p pay s) :
    (t.shp p).sseq = (s.shp p).sseq + 1 ∧ (t.shp p).job = none
      ∧ t.rdN (SHR_PRES p) = pay.length + 224 ∧ t.fld (SHR_PSTS p) SHR_PSTS_STATUS = 0
      ∧ (∃ bs, bs.length = pay.length + 224 ∧ t.hif = { s.hif with out := s.hif.out ++ [HostOut.mem (s.rdN (SHR_PDST p)) bs] })
      ∧ s.keeps t [SHR_PSTS p, SHR_PRES p] ∧ { t with regs := s.regs, shr := s.shr, hif := s.hif, bus := s.bus } = s := by
  have hblob : (exportBlob p pay s).length = pay.length + 224 := by rw [exportBlob, List.length_append, length_exportBody, length_be]
  obtain ⟨sig, hsig⟩ : ∃ sig, sig = be 96 (Config.ecdsaSig (s.shp p).rk s.bus.free (exportBody p pay s)).toNat := ⟨_, rfl⟩
  obtain ⟨m, hm⟩ : ∃ m, m = exportSigned p sig s := ⟨_, rfl⟩
  have hmspec : m.shp p = { s.shp p with sseq := (s.shp p).sseq + 1, lastSig := sig } ∧ m.regs = s.regs ∧ m.hif = s.hif
      ∧ { m with shr := s.shr, bus := s.bus } = s := by
    rw [hm]
    exact ⟨shp_modShp s.nextFree p _, rfl, rfl, rfl⟩
  obtain ⟨hmshp, hmregs, hmhif, hmrest⟩ := hmspec
  rw [exportEnd_region h, ← hsig, ← hm, length_exportBody] at ht
  obtain ⟨w, hw⟩ : ∃ w, w = (m.toHost (.mem (s.rdN (SHR_PDST p)) (exportBlob p pay s))).wrN (SHR_PRES p) (pay.length + 128 + 96) := ⟨_, rfl⟩
  have hwspec : w.shr = m.shr ∧ w.rdN (SHR_PRES p) = pay.length + 224 ∧ s.keeps w [SHR_PRES p]
      ∧ w.hif = { s.hif with out := s.hif.out ++ [HostOut.mem (s.rdN (SHR_PDST p)) (exportBlob p pay s)] }
      ∧ { w with regs := m.regs, hif := m.hif } = m := by
    rw [hw, ← hmhif]
    refine ⟨rfl, ?_, keeps_wrN (keeps_of_regs (keeps_rfl s _) hmregs) (by simp), rfl, rfl⟩
    rw [rdN_wrN, Nat.mod_eq_of_lt (by omega)]
  obtain ⟨hwshr, hwrd, hwk, hwhif, hwrest⟩ := hwspec
  rw [← hw] at ht
  obtain ⟨hshp, hstatus, _, _, hk, hrest⟩ := shrEnd_spec p (code := 0) (by decide) w ht
  rw [shp_congr hwshr, hmshp] at hshp
  have hhif : t.hif = w.hif := (congrArg State.hif hrest :)
  refine ⟨(congrArg ShrPart.sseq hshp :), (congrArg ShrPart.job hshp :), (rdN_of_keeps hk (by simpa using pres_ne_psts p)).trans hwrd, hstatus,
    ⟨_, hblob, hhif.trans hwhif⟩, keeps_trans hwk hk (by simp) (by simp), ?_⟩
  calc { t with regs := s.regs, shr := s.shr, hif := s.hif, bus := s.bus }
      = { w with regs := s.regs, shr := s.shr, hif := s.hif, bus := s.bus } :=
        (congrArg (fun x : State => { x with regs := s.regs, shr := s.shr, hif := s.hif, bus := s.bus }) hrest :)
    _ = { m with regs := s.regs, shr := s.shr, hif := s.hif, bus := s.bus } :=
        (congrArg (fun x : State => { x with regs := s.regs, shr := s.shr, hif := s.hif, bus := s.bus }) hwrest :)
    _ = s := (congrArg (fun x : State => { x with regs := s.regs, hif := s.hif }) hmrest :)

/-- The check of RELEASE (R536). -/
def State.releaseCode (s : State) (p : Nat) (bs : List (BitVec 8)) : Nat :=
  if zeroAt bs 5 3 = false then E_SHR_RSVD_ENC
  else if leAt bs 0 4 ≠ 0x4C455253 ∨ leAt bs 4 1 ≠ p ∨ leAt bs 8 8 ≠ s.rdN (SHR_PSEAL_ID p) then E_SHR_RANGE
  else if Config.ecdsaOk (s.partCfg p).tpk (slice bs 0 16) (slice bs 16 96) = false then E_SHR_SIG else 0

theorem releaseCode_lt (s : State) (p : Nat) (bs : List (BitVec 8)) : State.releaseCode s p bs < 2 ^ 16 :=
  ite_lt_of (by decide) (ite_lt_of (by decide) (ite_lt_of (by decide) (by decide)))

theorem releaseEnd_run (p : Nat) (bs : List (BitVec 8)) (s : State) :
    releaseEnd p bs s = shrEnd p (State.releaseCode s p bs) (if State.releaseCode s p bs = 0 then s.setPst p pZEROISING else s) := by
  unfold Machine.releaseEnd State.releaseCode
  simp only [Bool.not_eq_true]
  by_cases h1 : zeroAt bs 5 3 = false
  · rw [if_pos h1, if_pos h1, if_neg (by decide)]
  rw [if_neg h1, if_neg h1]
  by_cases h2 : leAt bs 0 4 ≠ 0x4C455253 ∨ leAt bs 4 1 ≠ p ∨ leAt bs 8 8 ≠ s.rdN (SHR_PSEAL_ID p)
  · rw [if_pos h2, if_pos h2, if_neg (by decide)]
  rw [if_neg h2, if_neg h2]
  by_cases h3 : Config.ecdsaOk (s.partCfg p).tpk (slice bs 0 16) (slice bs 16 96) = false
  · rw [if_pos h3, if_pos h3, if_neg (by decide)]
  · rw [if_neg h3, if_neg h3, if_pos rfl]

theorem releaseEnd_spec {c : Nat} (hc : c = State.releaseCode s p bs) {t : State} (ht : t = releaseEnd p bs s) :
    (t.shp p).job = none ∧ t.pst p = (if c = 0 then pZEROISING else s.pst p)
      ∧ t.fld (SHR_PSTS p) SHR_PSTS_STATUS = c ∧ s.keeps t [SHR_PSTS p, SHR_STS] ∧ { t with regs := s.regs, shr := s.shr } = s := by
  have hlt : c < 2 ^ 16 := hc ▸ releaseCode_lt s p bs
  rw [releaseEnd_run, ← hc] at ht
  obtain ⟨u, hu⟩ : ∃ u, u = if c = 0 then s.setPst p pZEROISING else s := ⟨_, rfl⟩
  rw [← hu] at ht
  obtain ⟨hshp, hstatus, _, hpst, hk, hrest⟩ := shrEnd_spec p hlt u ht
  rw [hpst, hshp]
  by_cases h0 : c = 0
  · rw [if_pos h0] at hu
    obtain ⟨hupst, _, _, _, huk, hurest⟩ := setPst_spec p (v := pZEROISING) (by decide) s hu
    rw [if_pos h0]
    exact ⟨rfl, hupst, hstatus, keeps_trans huk hk (by simp) (by simp),
      (congrArg (fun x : State => { x with regs := s.regs, shr := s.shr }) hrest :).trans (congrArg (fun x : State => { x with shr := s.shr }) hurest :)⟩
  · rw [if_neg h0] at hu
    subst hu
    rw [if_neg h0]
    exact ⟨rfl, rfl, hstatus, keeps_mono hk (by simp), hrest⟩

end

end Sys2Proof.Laws
end

section
namespace Sys2Proof.Laws
open Sys2Proof.Machine

-- One theorem after another: a thread for each of them passes the memory limit of the check.
set_option Elab.async false

section
variable {s t u : State} {p q a y : Nat} {ys : List Nat}

/-! ### Tables -/

theorem sget_of_notKey {α : Type} (d : Nat → α) {t : Tab α} {k : Nat} (h : k ∉ t.map (·.1)) : sget d t k = d k := by
  induction t with
  | nil => rfl
  | cons e es ih =>
    rw [List.map_cons, List.mem_cons, not_or] at h
    rw [sget, if_neg fun heq => h.1 heq.symm]
    exact ih h.2

/-- The keys of a table in canonical form rise, so that each has one entry. -/
theorem sget_of_mem {α : Type} [DecidableEq α] (d : Nat → α) {t : Tab α} (hw : swf d t = true) {e : Nat × α} (he : e ∈ t) :
    sget d t e.1 = e.2 := by
  have h (lo : Nat) (t : Tab α) (hw : swfFrom d lo t = true) : ∀ e ∈ t, lo ≤ e.1 ∧ sget d t e.1 = e.2 := by
    induction t generalizing lo with
    | nil => exact fun e he => absurd he List.not_mem_nil
    | cons x xs ih =>
      simp only [swfFrom, Bool.and_eq_true, decide_eq_true_eq] at hw
      obtain ⟨⟨hlo, _⟩, hrest⟩ := hw
      intro e he
      obtain rfl | he := List.mem_cons.1 he
      · exact ⟨hlo, if_pos rfl⟩
      · obtain ⟨hle, hget⟩ := ih _ hrest e he
        exact ⟨by omega, by rw [sget, if_neg (by omega), hget]⟩
  exact (h 0 t hw e he).2

/-- A store with a part of it cleared. -/
theorem ldByte_stClear (m : Store) (f : Nat → Bool) (a : Nat) : ldByte (stClear m f) a = if f a = true then 0 else ldByte m a := by
  induction m with
  | nil => exact (ite_self _).symm
  | cons e es ih =>
    obtain ⟨k, b⟩ := e
    have hcons : ldByte ((k, b) :: es) a = if k = a then b else ldByte es a := rfl
    cases hk : f k
    · have hclear : stClear ((k, b) :: es) f = (k, b) :: stClear es f := List.filter_cons_of_pos (by simp [hk])
      have hcons' : ldByte ((k, b) :: stClear es f) a = if k = a then b else ldByte (stClear es f) a := rfl
      rw [hclear, hcons, hcons', ih]
      by_cases hka : k = a
      · rw [if_pos hka, if_pos hka, if_neg (by rw [← hka, hk]; exact Bool.false_ne_true)]
      · rw [if_neg hka, if_neg hka]
    · have hclear : stClear ((k, b) :: es) f = stClear es f := List.filter_cons_of_neg (by simp [hk])
      rw [hclear, hcons, ih]
      by_cases hka : k = a
      · rw [← hka, if_pos hk, if_pos hk]
      · rw [if_neg hka]

/-! ### Zeroisation (R538) -/

/-- Bits of a word that a mask selects, taken from another. -/
def masked (old new mask : Word) : Word := (old &&& ~~~mask) ||| (new &&& mask)

theorem masked_and (old new mask : Word) : masked old new mask &&& mask = new &&& mask := by
  unfold masked
  ext i hi
  simp only [BitVec.getElem_and, BitVec.getElem_or, BitVec.getElem_not]
  cases mask[i]
  · simp
  · simp

/-- Is an address in the page of one of the yards? -/
def inYards (ys : List Nat) (a : Nat) : Bool := decide (0x1000000 ≤ a ∧ a < 0x2000000) && ys.contains ((a - 0x1000000) / 0x40000)

/-- A register of the yards goes to its image value. -/
def backOne (ys : List Nat) (s : State) (t : Tab Word) (e : Nat × Word) : Tab Word :=
  match regRow e.1 with
  | some r =>
    if ¬ inYards ys e.1 ∨ r.rw = 0 then t
    else sput resetVal t e.1 (if isWeight e.1 then 0 else masked e.2 (s.imgVal e.1) (rwMask e.1))
  | none => t

/-- A REG_INIT value put into its register. -/
def putOne (t : Tab Word) (e : Nat × Word) : Tab Word := sput resetVal t e.1 (masked (sget resetVal t e.1) e.2 (rwMask e.1))

theorem sget_backOne_ne (s : State) (t : Tab Word) {e : Nat × Word} (h : a ≠ e.1) : sget resetVal (backOne ys s t e) a = sget resetVal t a := by
  unfold backOne
  split
  · split
    · rfl
    · exact sget_sput_ne _ _ _ _ h
  · rfl

theorem backOne_outside (s : State) (t : Tab Word) {e : Nat × Word} (h : inYards ys e.1 = false) : backOne ys s t e = t := by
  unfold backOne
  split
  · exact if_pos (.inl (by simp [h]))
  · rfl

theorem sget_backOne_same (s : State) (t : Tab Word) {e : Nat × Word} (h : inYards ys e.1 = true) {r : RegRow} (hr : regRow e.1 = some r) (hrw : r.rw ≠ 0)
    (hw : isWeight e.1 = false) : sget resetVal (backOne ys s t e) e.1 = masked e.2 (s.imgVal e.1) (rwMask e.1) := by
  unfold backOne
  split
  · next r' hr' =>
    obtain rfl : r = r' := Option.some.inj (hr.symm.trans hr')
    rw [if_neg (by simp [h, hrw]), hw, if_neg Bool.false_ne_true]
    exact sget_sput_same ..
  · next hr' => exact absurd (hr.symm.trans hr') (by simp)

/-- A register outside the yards stands. -/
theorem sget_foldl_backOne_outside (s : State) (h : inYards ys a = false) (l t : Tab Word) :
    sget resetVal (l.foldl (backOne ys s) t) a = sget resetVal t a := by
  refine List.foldlRecOn (motive := fun u => sget resetVal u a = sget resetVal t a) l _ rfl fun u hu e _ => ?_
  by_cases hea : a = e.1
  · rw [backOne_outside s u (hea ▸ h), hu]
  · rw [sget_backOne_ne s u hea, hu]

/-- A writable register of the yards has its image value in the bits that software writes, or was never entered. -/
theorem sget_foldl_backOne (s : State) (h : inYards ys a = true) {r : RegRow} (hr : regRow a = some r) (hrw : r.rw ≠ 0) (hw : isWeight a = false)
    (l t : Tab Word) : (a ∈ l.map (·.1) → sget resetVal (l.foldl (backOne ys s) t) a &&& rwMask a = s.imgVal a &&& rwMask a)
      ∧ (a ∉ l.map (·.1) → sget resetVal (l.foldl (backOne ys s) t) a = sget resetVal t a) := by
  induction l generalizing t with
  | nil => exact ⟨fun h => absurd h List.not_mem_nil, fun _ => rfl⟩
  | cons e es ih =>
    obtain ⟨hmem, hnot⟩ := ih (backOne ys s t e)
    rw [List.map_cons, List.mem_cons, List.foldl_cons]
    refine ⟨fun hor => ?_, fun hn => ?_⟩
    · by_cases hes : a ∈ es.map (·.1)
      · exact hmem hes
      · obtain rfl : a = e.1 := hor.resolve_right hes
        rw [hnot hes, sget_backOne_same s t h hr hrw hw, masked_and]
    · rw [not_or] at hn
      rw [hnot hn.2, sget_backOne_ne s t hn.1]

theorem sget_putOne_ne (t : Tab Word) {e : Nat × Word} (h : a ≠ e.1) : sget resetVal (putOne t e) a = sget resetVal t a := sget_sput_ne _ _ _ _ h

theorem sget_foldl_putOne_ne {l : Tab Word} (h : ∀ e ∈ l, a ≠ e.1) (t : Tab Word) : sget resetVal (l.foldl putOne t) a = sget resetVal t a :=
  List.foldlRecOn (motive := fun u => sget resetVal u a = sget resetVal t a) l _ rfl fun u hu e he => (sget_putOne_ne u (h e he)).trans hu

/-- The bits that the image gives a register. -/
theorem sget_foldl_putOne {l : Tab Word} {v : Word} (hv : ∀ e ∈ l, e.1 = a → e.2 = v) (t : Tab Word) (h : a ∈ l.map (·.1)) :
    sget resetVal (l.foldl putOne t) a &&& rwMask a = v &&& rwMask a := by
  induction l generalizing t with
  | nil => exact absurd h List.not_mem_nil
  | cons e es ih =>
    rw [List.foldl_cons]
    by_cases hes : a ∈ es.map (·.1)
    · exact ih (fun f hf => hv f (List.mem_cons_of_mem _ hf)) _ hes
    · obtain rfl : a = e.1 := (List.mem_cons.1 h).resolve_right hes
      rw [sget_foldl_putOne_ne (fun f hf heq => hes (List.mem_map.2 ⟨f, hf, heq.symm⟩)), putOne, sget_sput_same, masked_and,
        hv e List.mem_cons_self rfl]

/-- The registers of the yards from the image. -/
def yardRegs (ys : List Nat) (s : State) (t : Tab Word) : Tab Word :=
  (s.img.init.filter fun e => inYards ys e.1 && !isWeight e.1).foldl putOne (t.foldl (backOne ys s) t)

theorem sget_yardRegs_outside (s : State) (h : inYards ys a = false) (t : Tab Word) : sget resetVal (yardRegs ys s t) a = sget resetVal t a := by
  refine (sget_foldl_putOne_ne (fun e he heq => ?_) _).trans (sget_foldl_backOne_outside s h t t)
  have hin : inYards ys e.1 = true := by
    have := (List.mem_filter.1 he).2
    rw [Bool.and_eq_true] at this
    exact this.1
  rw [← heq, h] at hin
  exact Bool.false_ne_true hin

theorem sget_yardRegs (hwf : swf resetVal s.img.init = true) (h : inYards ys a = true) {r : RegRow} (hr : regRow a = some r) (hrw : r.rw ≠ 0)
    (hw : isWeight a = false) (t : Tab Word) : sget resetVal (yardRegs ys s t) a &&& rwMask a = s.imgVal a &&& rwMask a := by
  have hkeys : a ∈ (s.img.init.filter fun e => inYards ys e.1 && !isWeight e.1).map (·.1) ↔ a ∈ s.img.init.map (·.1) := by
    constructor
    · intro hmem
      obtain ⟨e, he, heq⟩ := List.mem_map.1 hmem
      exact List.mem_map.2 ⟨e, (List.mem_filter.1 he).1, heq⟩
    · intro hmem
      obtain ⟨e, he, rfl⟩ := List.mem_map.1 hmem
      exact List.mem_map.2 ⟨e, List.mem_filter.2 ⟨he, by rw [h, hw]; rfl⟩, rfl⟩
  by_cases hmem : a ∈ s.img.init.map (·.1)
  · refine sget_foldl_putOne (v := s.imgVal a) (fun e he heq => ?_) _ (hkeys.2 hmem)
    rw [← heq]
    exact (sget_of_mem resetVal hwf (List.mem_filter.1 he).1).symm
  · have himg : s.imgVal a = resetVal a := sget_of_notKey resetVal hmem
    have hput : sget resetVal (yardRegs ys s t) a = sget resetVal (t.foldl (backOne ys s) t) a :=
      sget_foldl_putOne_ne (fun e he heq => hmem (hkeys.1 (List.mem_map.2 ⟨e, he, heq.symm⟩))) _
    obtain ⟨hin, hout⟩ := sget_foldl_backOne s h hr hrw hw t t
    rw [hput]
    by_cases hkey : a ∈ t.map (·.1)
    · exact hin hkey
    · rw [hout hkey, sget_of_notKey resetVal hkey, himg]

/-- The stores without what the partition owns, and the registers of its yards from the image. -/
def storesCleared (p : Nat) (s : State) : State :=
  { s with
    regs := yardRegs (s.partYards p) s s.regs
    act := ((s.img.init.filter fun e => inYards (s.partYards p) e.1 && !isWeight e.1).filter fun e => isShd e.1).foldl putOne
      (s.act.foldl (backOne (s.partYards p) s) s.act)
    cnv := { s.cnv with res := stClear s.cnv.res fun a => s.partHas p 7 (a / 4096) }
    hal := { s.hal with wave := stClear s.hal.wave fun a => s.partHas p 0x0A (512 * (a / 12582912) + a % 12582912 / 24576) }
    seq := { s.seq with store := stClear s.seq.store fun a => (s.partYards p).contains (a / 262144) }
    dec := { s.dec with store := stClear s.dec.store fun a => s.partHas p 9 (a / 4096) }
    wch := { s.wch with mem := stClear s.wch.mem fun a => (s.partCores p).contains (a / 524288) } }

/-- The acquisition of the yards and the decoder's lanes after it. -/
def yardsRefreshed (ys xs : List Nat) (s : State) : State :=
  forEach ys (forEach xs s decZero) fun y s => forEach (List.range 8) s fun c s => acqRefresh y c s

/-- The partition's numbers and its own state. -/
def partCleared (p : Nat) (s : State) : State :=
  ((((s.wrN (SHR_PVER p) 0).wrN (SHR_PISEQ p) 0).wrN (SHR_PSEAL_ID p) 0).setShp p default).setPst p pOPEN

theorem zeroiseComplete_eq (h : s.pst p = pZEROISING) :
    zeroiseComplete p s = partCleared p (yardsRefreshed (s.partYards p) (s.partCtxs p) (storesCleared p s)) := by
  unfold Machine.zeroiseComplete
  rw [if_neg (fun hne => hne h)]
  rfl

/-- Does software write a register? -/
def writable (a : Nat) : Prop := ∃ r, regRow a = some r ∧ r.rw ≠ 0

theorem acqSts_row : ∀ c < 8, yardRows.all (sameInYards (CNV_ACQ_STS 0 c)) = true ∧ (regRow (CNV_ACQ_STS 0 c)).all (·.rw == 0) = true := by
  decide +kernel

theorem dscSts_row : ∀ c < 8, yardRows.all (sameInYards (DSC_STS 0 c)) = true ∧ (regRow (DSC_STS 0 c)).all (·.rw == 0) = true := by
  decide +kernel

theorem not_writable_of_row {b : Nat} (hy : y < 64) (hlow : 0x1000000 ≤ b) (hhigh : b < 0x1040000)
    (h : yardRows.all (sameInYards b) = true ∧ (regRow b).all (·.rw == 0) = true) : ¬ writable (b + 0x40000 * y) := by
  rintro ⟨r, hr, hrw⟩
  rw [regRow_yard hy hlow hhigh h.1] at hr
  have hall := h.2
  rw [hr, Option.all_some, beq_iff_eq] at hall
  exact hrw hall

theorem not_writable_acqSts {c : Nat} (hy : y < 64) (hc : c < 8) : ¬ writable (CNV_ACQ_STS y c) := by
  have h := not_writable_of_row (b := CNV_ACQ_STS 0 c) hy (by unfold CNV_ACQ_STS; omega) (by unfold CNV_ACQ_STS; omega) (acqSts_row c hc)
  rwa [show CNV_ACQ_STS 0 c + 0x40000 * y = CNV_ACQ_STS y c by unfold CNV_ACQ_STS; omega] at h

theorem not_writable_dscSts {c : Nat} (hy : y < 64) (hc : c < 8) : ¬ writable (DSC_STS y c) := by
  have h := not_writable_of_row (b := DSC_STS 0 c) hy (by unfold DSC_STS; omega) (by unfold DSC_STS; omega) (dscSts_row c hc)
  rwa [show DSC_STS 0 c + 0x40000 * y = DSC_STS y c by unfold DSC_STS; omega] at h

/-- What the refresh leaves: registers below the yards' and those that software writes, and everything that is neither register nor decoder
context. -/
def refreshKept (s t : State) : Prop :=
  (∀ a, a < 0x1000000 ∨ writable a → t.rd a = s.rd a) ∧ { t with regs := s.regs, dec := s.dec } = s ∧ t.dec.store = s.dec.store

theorem refreshKept_rfl (s : State) : refreshKept s s := ⟨fun _ _ => rfl, rfl, rfl⟩

theorem refreshKept_decZero (x : Nat) (h : refreshKept s t) : refreshKept s (decZero x t) := by
  obtain ⟨hrd, hrest, hstore⟩ := h
  exact ⟨hrd, hrest, hstore⟩

theorem refreshKept_acqRefresh {c : Nat} (hy : y < 64) (hc : c < 8) (h : refreshKept s t) : refreshKept s (acqRefresh y c t) := by
  obtain ⟨hrd, hrest, hstore⟩ := h
  have hreg := onlyRegs_acqRefresh y c t
  refine ⟨fun a ha => (hreg.2 a ?_).trans (hrd a ha), (congrArg (fun x : State => { x with regs := s.regs, dec := s.dec }) hreg.1 :).trans hrest,
    (congrArg (fun x : State => x.dec.store) hreg.1 :).trans hstore⟩
  rw [List.mem_cons, List.mem_singleton]
  rintro (rfl | rfl)
  · exact ha.elim (fun h => by unfold CNV_ACQ_STS at h; omega) (not_writable_acqSts hy hc)
  · exact ha.elim (fun h => by unfold DSC_STS at h; omega) (not_writable_dscSts hy hc)

theorem refreshKept_yardsRefreshed (hys : ∀ y ∈ ys, y < 64) (xs : List Nat) (s : State) : refreshKept s (yardsRefreshed ys xs s) := by
  refine forEach_induct (P := refreshKept s) ?_ fun y hy t ht => forEach_induct (P := refreshKept s) ht fun c hc u hu =>
    refreshKept_acqRefresh (hys y hy) (List.mem_range.1 hc) hu
  exact forEach_induct (P := refreshKept s) (refreshKept_rfl s) fun x _ t ht => refreshKept_decZero x ht

/-- The registers that the end of zeroisation clears. -/
def partRegs (p : Nat) : List Nat := [SHR_PSTS p, SHR_STS, SHR_PVER p, SHR_PISEQ p, SHR_PSEAL_ID p]

theorem partCleared_spec (p : Nat) (s : State) {u : State} (hu : u = partCleared p s) :
    u.pst p = pOPEN ∧ u.rdN (SHR_PVER p) = 0 ∧ u.rdN (SHR_PISEQ p) = 0 ∧ u.rdN (SHR_PSEAL_ID p) = 0 ∧ u.shp p = default
      ∧ s.keeps u (partRegs p) ∧ { u with regs := s.regs, shr := s.shr } = s := by
  obtain ⟨w, hw⟩ : ∃ w, w = (((s.wrN (SHR_PVER p) 0).wrN (SHR_PISEQ p) 0).wrN (SHR_PSEAL_ID p) 0).setShp p default := ⟨_, rfl⟩
  have hver : SHR_PVER p ≠ SHR_PSEAL_ID p ∧ SHR_PVER p ≠ SHR_PISEQ p := by
    unfold SHR_PVER SHR_PSEAL_ID SHR_PISEQ
    omega
  have hiseq : SHR_PISEQ p ≠ SHR_PSEAL_ID p := by unfold SHR_PSEAL_ID SHR_PISEQ; omega
  have hwspec : w.rdN (SHR_PVER p) = 0 ∧ w.rdN (SHR_PISEQ p) = 0 ∧ w.rdN (SHR_PSEAL_ID p) = 0 ∧ w.shp p = default
      ∧ s.keeps w (partRegs p) ∧ { w with regs := s.regs, shr := s.shr } = s := by
    rw [hw]
    refine ⟨?_, ?_, rdN_wrN _ _ _, shp_setShp _ _ _,
      keeps_of_regs (keeps_wrN (keeps_wrN (keeps_wrN (keeps_rfl s _) (by simp [partRegs])) (by simp [partRegs])) (by simp [partRegs])) rfl, rfl⟩
    · exact (rdN_wrN_ne _ _ _ _ hver.1).trans ((rdN_wrN_ne _ _ _ _ hver.2).trans (rdN_wrN _ _ _))
    · exact (rdN_wrN_ne _ _ _ _ hiseq).trans (rdN_wrN _ _ _)
  obtain ⟨hwver, hwiseq, hwid, hwshp, hwk, hwrest⟩ := hwspec
  unfold partCleared at hu
  rw [← hw] at hu
  obtain ⟨hpst, _, _, _, hk, hrest⟩ := setPst_spec p (v := pOPEN) (by decide) w hu
  have hushr : u.shr = w.shr := (congrArg State.shr hrest :)
  refine ⟨hpst, (rdN_of_keeps hk ?_).trans hwver, (rdN_of_keeps hk ?_).trans hwiseq, (rdN_of_keeps hk ?_).trans hwid, (shp_congr hushr p).trans hwshp,
    keeps_trans hwk hk (List.Subset.refl _) (by simp [partRegs]), (congrArg (fun x : State => { x with regs := s.regs, shr := s.shr }) hrest :).trans hwrest⟩
  · simp only [SHR_PVER, SHR_PSTS, SHR_STS, List.mem_cons, List.not_mem_nil, or_false]
    omega
  · simpa using ⟨piseq_ne_psts p, piseq_ne_sts p⟩
  · simpa using ⟨(psealId_ne_psts p).symm, (sts_ne_psealId p).symm⟩

theorem partYards_lt : ∀ y ∈ s.partYards p, y < 64 := fun _ hy => List.mem_range.1 (List.mem_filter.1 hy).1

theorem zeroiseComplete_spec (hp : p < 8) (h : s.pst p = pZEROISING) (hwf : swf resetVal s.img.init = true) {t : State} (ht : t = zeroiseComplete p s) :
    t.pst p = pOPEN
      ∧ t.rdN (SHR_PVER p) = 0 ∧ t.rdN (SHR_PISEQ p) = 0 ∧ t.rdN (SHR_PSEAL_ID p) = 0 ∧ t.shp p = default
      ∧ (∀ a, ldByte t.cnv.res a = if s.partHas p 7 (a / 4096) = true then 0 else ldByte s.cnv.res a)
      ∧ (∀ a, ldByte t.seq.store a = if a / 262144 ∈ s.partYards p then 0 else ldByte s.seq.store a)
      ∧ (∀ a, ldByte t.dec.store a = if s.partHas p 9 (a / 4096) = true then 0 else ldByte s.dec.store a)
      ∧ (∀ a, ldByte t.wch.mem a = if a / 524288 ∈ s.partCores p then 0 else ldByte s.wch.mem a)
      ∧ (∀ y a r, y ∈ s.partYards p → 0x1000000 + 0x40000 * y ≤ a → a < 0x1040000 + 0x40000 * y → regRow a = some r → r.rw ≠ 0 → isWeight a = false →
          t.rd a &&& rwMask a = s.imgVal a &&& rwMask a)
      ∧ ∀ q, q < 8 → q ≠ p → t.pst q = s.pst q := by
  obtain ⟨c, hc⟩ : ∃ c, c = storesCleared p s := ⟨_, rfl⟩
  have hcregs : c.regs = yardRegs (s.partYards p) s s.regs := by rw [hc]; rfl
  have hcres : c.cnv.res = stClear s.cnv.res fun a => s.partHas p 7 (a / 4096) := by rw [hc]; rfl
  have hcseq : c.seq.store = stClear s.seq.store fun a => (s.partYards p).contains (a / 262144) := by rw [hc]; rfl
  have hcdec : c.dec.store = stClear s.dec.store fun a => s.partHas p 9 (a / 4096) := by rw [hc]; rfl
  have hcwch : c.wch.mem = stClear s.wch.mem fun a => (s.partCores p).contains (a / 524288) := by rw [hc]; rfl
  obtain ⟨v, hv⟩ : ∃ v, v = yardsRefreshed (s.partYards p) (s.partCtxs p) c := ⟨_, rfl⟩
  obtain ⟨hvrd, hvrest, hvstore⟩ : refreshKept c v := hv ▸ refreshKept_yardsRefreshed partYards_lt _ c
  rw [zeroiseComplete_eq h, ← hc, ← hv] at ht
  obtain ⟨hpst, hver, hiseq, hid, hshp, hk, hrest⟩ := partCleared_spec p v ht
  have hres : t.cnv.res = c.cnv.res := (congrArg (fun x : State => x.cnv.res) hrest :).trans (congrArg (fun x : State => x.cnv.res) hvrest :)
  have hseq : t.seq.store = c.seq.store := (congrArg (fun x : State => x.seq.store) hrest :).trans (congrArg (fun x : State => x.seq.store) hvrest :)
  have hdec : t.dec.store = c.dec.store := (congrArg (fun x : State => x.dec.store) hrest :).trans hvstore
  have hwch : t.wch.mem = c.wch.mem := (congrArg (fun x : State => x.wch.mem) hrest :).trans (congrArg (fun x : State => x.wch.mem) hvrest :)
  refine ⟨hpst, hver, hiseq, hid, hshp, fun a => ?_, fun a => ?_, fun a => ?_, fun a => ?_, fun y a r hy hlow hhigh hr hrw hw => ?_, fun q hq hne => ?_⟩
  · rw [hres, hcres, ldByte_stClear]
  · rw [hseq, hcseq, ldByte_stClear]
    simp only [List.contains_iff_mem]
  · rw [hdec, hcdec, ldByte_stClear]
  · rw [hwch, hcwch, ldByte_stClear]
    simp only [List.contains_iff_mem]
  · have hy64 := partYards_lt y hy
    have hin : inYards (s.partYards p) a = true := by
      have hdiv : (a - 0x1000000) / 0x40000 = y := by omega
      unfold inYards
      rw [hdiv, Bool.and_eq_true, decide_eq_true_eq, List.contains_iff_mem]
      exact ⟨by omega, hy⟩
    have hpart : a ∉ partRegs p := by
      simp only [partRegs, SHR_PSTS, SHR_STS, SHR_PVER, SHR_PISEQ, SHR_PSEAL_ID, List.mem_cons, List.not_mem_nil, or_false]
      omega
    rw [rd_of_keeps hk hpart, hvrd a (.inr ⟨r, hr, hrw⟩), State.rd, hcregs]
    exact sget_yardRegs hwf hin hr hrw hw s.regs
  · have hpart : SHR_PSTS q ∉ partRegs p := by
      simp only [partRegs, SHR_PSTS, SHR_STS, SHR_PVER, SHR_PISEQ, SHR_PSEAL_ID, List.mem_cons, List.not_mem_nil, or_false]
      omega
    have hin : inYards (s.partYards p) (SHR_PSTS q) = false := by
      unfold inYards
      rw [decide_eq_false (by unfold SHR_PSTS; omega)]
      rfl
    refine (fld_of_keeps hk hpart _).trans ?_
    rw [State.fld, hvrd _ (.inl (by unfold SHR_PSTS; omega)), State.rd, hcregs, sget_yardRegs_outside s hin]
    rfl

end

/-- Settles O48: SEAL, the checks and the jobs of the other commands, and zeroisation by what each leaves in the partition and its registers. -/
theorem partitionsSealExchangeAndZeroise : Obligations.PartitionsSealExchangeAndZeroise := by
  unfold Obligations.PartitionsSealExchangeAndZeroise
  refine ⟨fun s p hopen hp hb hc => ⟨_, next_hostWr hopen rfl, shrSeal_spec hp hb hc rfl⟩, fun s p hopen _ hb hc => ?_,
    fun s p i blob hopen _ hb hi => ?_, fun s p h _ => ⟨_, rfl, sealComplete_spec h rfl⟩, fun s p c i blob hopen _ hb hst hi hblob => ?_,
    fun s p blob hopen _ hb hst hal hlen h64 htop hc => ⟨_, next_hostWr hopen rfl, shrImport_begins hb hst hal hlen h64 htop hc rfl⟩,
    fun s p hopen _ hb hst hc => ?_, fun s p i c blob hopen _ hb hst hi => ?_, fun s p j hj hgcm hhead =>
      congrArg Host.Outcome.next (shrJobEnd_of_waiting hj hgcm hhead), fun s p bs hj _ hturn => ?_, fun s p bs ok c hj _ hturn hok hc => ?_,
    fun s p bs d iv hj _ hturn hd hdk hiv => ?_, fun s p pay hj _ hturn hreg hlen => ?_, fun s p bs c hj _ hturn hc => ?_,
    fun s p h hp hwf => ⟨_, rfl, zeroiseComplete_spec hp h hwf rfl⟩⟩
  · obtain ⟨_, hstatus, _, hpst, hk, hrest⟩ := shrEnd_spec p (sealCheck_lt s p) s rfl
    exact ⟨_, next_hostWr hopen (shrSeal_of_failed hb hc), hstatus, hpst, hk, hrest⟩
  · have hbusy : (s.setF (SHR_PSTS p) SHR_PSTS_STATUS E_SHR_BUSY).fld (SHR_PSTS p) SHR_PSTS_STATUS = E_SHR_BUSY
        ∧ s.onlyRegs (s.setF (SHR_PSTS p) SHR_PSTS_STATUS E_SHR_BUSY) [SHR_PSTS p] := ⟨fld_status_of_lt s _ (by decide), onlyRegs_setF ..⟩
    simp only [List.mem_cons, List.not_mem_nil, or_false] at hi
    rcases hi with rfl | rfl | rfl | rfl | rfl | rfl
    · exact ⟨_, next_hostWr hopen (if_pos hb), hbusy⟩
    · exact ⟨_, next_hostWr hopen ((statement_eq ..).trans (cmdRun_of_busy hb ..)), hbusy⟩
    · exact ⟨_, next_hostWr hopen ((keyImport_eq ..).trans (cmdRun_of_busy hb ..)), hbusy⟩
    · exact ⟨_, next_hostWr hopen ((import_eq ..).trans (cmdRun_of_busy hb ..)), hbusy⟩
    · exact ⟨_, next_hostWr hopen ((export_eq ..).trans (cmdRun_of_busy hb ..)), hbusy⟩
    · exact ⟨_, next_hostWr hopen ((release_eq ..).trans (cmdRun_of_busy hb ..)), hbusy⟩
  · have hlive := live_of hst
    simp only [List.mem_cons, Prod.mk.injEq, List.not_mem_nil, or_false] at hi
    rcases hi with ⟨rfl, rfl, rfl⟩ | ⟨rfl, rfl, -⟩ | ⟨rfl, rfl, -⟩
    · have heq : shrCommand p 2 [] s = shrBegin p 2 [] s := by
        rw [statement_eq, hlive, if_pos rfl, cmdRun_of_passed hb (by decide), if_neg (by decide)]
      exact ⟨_, next_hostWr hopen heq, shrBegin_job rfl⟩
    · obtain ⟨hal, hlen, h272, htop⟩ := hblob (by decide)
      have heq : shrCommand p 3 blob s = shrBegin p 3 blob s := by
        rw [keyImport_eq, hlive, if_pos rfl, blobCode_zero (n := 272) (by decide) hal hlen h272 htop, cmdRun_of_passed hb (by decide), if_neg (by decide)]
      exact ⟨_, next_hostWr hopen heq, shrBegin_job rfl⟩
    · obtain ⟨hal, hlen, h112, htop⟩ := hblob (by decide)
      have heq : shrCommand p 6 blob s = shrBegin p 6 blob s := by
        rw [release_eq, hlive, if_pos rfl, blobCode_zero (n := 112) (by decide) hal hlen h112 htop, cmdRun_of_passed hb (by decide), if_neg (by decide)]
      exact ⟨_, next_hostWr hopen heq, shrBegin_job rfl⟩
  · have heq : shrCommand p 5 [] s = shrBegin p 5 (s.exportBytes p) s := by
      rw [export_eq, if_pos hst, hc, cmdRun_of_passed hb (by decide), if_pos rfl]
    obtain ⟨hjob, hflag, _, hk, hrest⟩ := shrBegin_job (p := p) (cmd := 5) (blob := s.exportBytes p) (s := s) rfl
    exact ⟨_, next_hostWr hopen heq, hjob, hflag, hk, hrest⟩
  · have hlive := live_of_open hst
    have hkeyed : s.pst p ≠ pKEYED := by rw [hst]; decide
    have hend (c : Nat) (hc : c < 2 ^ 16) : (shrEnd p c s).fld (SHR_PSTS p) SHR_PSTS_STATUS = c ∧ s.keeps (shrEnd p c s) [SHR_PSTS p]
        ∧ { shrEnd p c s with regs := s.regs, shr := s.shr } = s := by
      obtain ⟨_, hstatus, _, _, hk, hrest⟩ := shrEnd_spec p hc s rfl
      exact ⟨hstatus, hk, hrest⟩
    simp only [List.mem_cons, Prod.mk.injEq, List.not_mem_nil, or_false] at hi
    rcases hi with ⟨rfl, rfl⟩ | ⟨rfl, rfl⟩ | ⟨rfl, rfl⟩ | ⟨rfl, rfl⟩ | ⟨rfl, rfl⟩
    · refine ⟨_, next_hostWr hopen ((statement_eq ..).trans ?_), hend E_SHR_STATE (by decide)⟩
      rw [hlive, if_neg Bool.false_ne_true]
      exact cmdRun_of_refused hb _ _ (by decide) (by decide)
    · refine ⟨_, next_hostWr hopen ((keyImport_eq ..).trans ?_), hend E_SHR_STATE (by decide)⟩
      rw [hlive, if_neg Bool.false_ne_true]
      exact cmdRun_of_refused hb _ _ (by decide) (by decide)
    · refine ⟨_, next_hostWr hopen ((import_eq ..).trans ?_), hend E_SHR_NOKEY (by decide)⟩
      rw [if_pos hkeyed]
      exact cmdRun_of_refused hb _ _ (by decide) (by decide)
    · refine ⟨_, next_hostWr hopen ((export_eq ..).trans ?_), hend E_SHR_STATE (by decide)⟩
      rw [if_neg hkeyed]
      exact cmdRun_of_refused hb _ _ (by decide) (by decide)
    · refine ⟨_, next_hostWr hopen ((release_eq ..).trans ?_), hend E_SHR_STATE (by decide)⟩
      rw [hlive, if_neg Bool.false_ne_true]
      exact cmdRun_of_refused hb _ _ (by decide) (by decide)
  · obtain ⟨heq, _, _, _, _⟩ := shrJobEnd_in_turn hj hturn
    exact ⟨_, congrArg Host.Outcome.next (heq rfl), statementEnd_spec rfl⟩
  · obtain ⟨_, heq, _, _, _⟩ := shrJobEnd_in_turn hj hturn
    exact ⟨_, congrArg Host.Outcome.next (heq rfl), keyImport_spec hok hc rfl⟩
  · obtain ⟨_, _, heq, _, _⟩ := shrJobEnd_in_turn hj hturn
    subst hd
    exact ⟨_, congrArg Host.Outcome.next (heq rfl), importEnd_res hdk hiv rfl⟩
  · obtain ⟨_, _, _, heq, _⟩ := shrJobEnd_in_turn hj hturn
    exact ⟨_, congrArg Host.Outcome.next (heq rfl), exportEnd_spec hreg hlen rfl⟩
  · obtain ⟨_, _, _, _, heq⟩ := shrJobEnd_in_turn hj hturn
    exact ⟨_, congrArg Host.Outcome.next (heq rfl), releaseEnd_spec hc rfl⟩

end Sys2Proof.Laws
end

section
namespace Sys2Proof.Laws
open Sys2Proof.Machine

-- One theorem after another: a thread for each of them passes the memory limit of the check.
set_option Elab.async false

/-! ### What an entry into SAFE or CONFIG leaves alone

`Calm s t` says that `t` has the registers of the reset and clock controller, of Reef and of TB1's state as `s` has them, and its power and
Shroud states. As with `Keeps`, the lemma of a function `f` of the model is `Calm.f : Calm s₀ s → Calm s₀ (f s)`. -/

/-- The registers of chapters 1 and 21 up to the groups' status, of chapter 19, and STAY_STS. -/
def calmReg (a : Nat) : Prop := (0x8000 ≤ a ∧ a < 0x8100) ∨ (0x200000 ≤ a ∧ a < 0x300000) ∨ a = 0x400004

structure Calm (s t : State) : Prop where
  regs : ∀ a, calmReg a → t.rd a = s.rd a
  pwr : t.pwr = s.pwr
  shr : t.shr = s.shr

theorem Calm.rfl {s : State} : Calm s s := ⟨fun _ _ => Eq.refl _, Eq.refl _, Eq.refl _⟩

theorem Calm.trans {s t u : State} (h : Calm s t) (k : Calm t u) : Calm s u :=
  ⟨fun a ha => (k.regs a ha).trans (h.regs a ha), k.pwr.trans h.pwr, k.shr.trans h.shr⟩

theorem Calm.fld {s t : State} (h : Calm s t) {a : Nat} (ha : calmReg a) (f : Fld) : t.fld a f = s.fld a f := congrArg (getF · f) (h.regs a ha)

theorem Calm.rdN {s t : State} (h : Calm s t) {a : Nat} (ha : calmReg a) : t.rdN a = s.rdN a := congrArg BitVec.toNat (h.regs a ha)

theorem Calm.dev {s t : State} (h : Calm s t) : t.dev = s.dev := h.fld (.inl (by decide)) _

theorem calmReg_glbState : calmReg GLB_STATE := .inl (by decide)
theorem calmReg_bootSts : calmReg GLB_BOOT_STS := .inl (by decide)
theorem calmReg_clkSts : calmReg GLB_CLK_STS := .inl (by decide)
theorem calmReg_fwVer : calmReg GLB_FW_VER := .inl (by decide)
theorem calmReg_lolCnt : calmReg GLB_SYNTH_LOL_CNT := .inl (by decide)
theorem calmReg_staySts : calmReg STAY_STS := .inr (.inr (Eq.refl _))

section
variable {s₀ s : State}

theorem Calm.ite {t : State} (hs : Calm s₀ s) (ht : Calm s₀ t) {c : Prop} {d : Decidable c} : Calm s₀ (if c then s else t) := by
  split
  · exact hs
  · exact ht

/-- A state that is used more than once is dealt with once. -/
theorem Calm.andThen {t : State} (h : Calm s₀ s) (k : Calm s₀ s → Calm s₀ t) : Calm s₀ t := k h

theorem Calm.forEach {α : Type} {xs : List α} {f : α → State → State} (h : Calm s₀ s) (hf : ∀ x ∈ xs, ∀ t, Calm s₀ t → Calm s₀ (f x t)) :
    Calm s₀ (forEach xs s f) := forEach_induct h hf

/-- A part of the state replaced that holds none of it. -/
theorem Calm.keep {t : State} (h : Calm s₀ s) (hr : t.regs = s.regs := by rfl) (hp : t.pwr = s.pwr := by rfl) (hs : t.shr = s.shr := by rfl) :
    Calm s₀ t := h.trans ⟨fun a _ => congrArg (sget resetVal · a) hr, hp, hs⟩

theorem Calm.wrOf {a : Nat} {v : Word} (h : Calm s₀ s) (ha : ¬ calmReg a) : Calm s₀ (s.wr a v) :=
  h.trans ⟨fun b hb => rd_wr_ne s a b v fun hab => ha (hab ▸ hb), Eq.refl _, Eq.refl _⟩

/-- A register above them written. -/
theorem Calm.wr {a : Nat} {v : Word} (h : Calm s₀ s) (ha : 0x400004 < a) : Calm s₀ (s.wr a v) := h.wrOf (by unfold calmReg; omega)
theorem Calm.setF {a : Nat} {f : Fld} {n : Nat} (h : Calm s₀ s) (ha : 0x400004 < a) : Calm s₀ (s.setF a f n) := h.wr ha
theorem Calm.wrN {a n : Nat} (h : Calm s₀ s) (ha : 0x400004 < a) : Calm s₀ (s.wrN a n) := h.wr ha
theorem Calm.inc {a : Nat} (h : Calm s₀ s) (ha : 0x400004 < a) : Calm s₀ (s.inc a) := h.wr ha
theorem Calm.status {a c : Nat} (h : Calm s₀ s) (ha : 0x400004 < a) : Calm s₀ (s.status a c) := h.wr ha

theorem Calm.modMast {y : Nat} {f : Mast → Mast} (h : Calm s₀ s) : Calm s₀ (s.modMast y f) := h.keep
theorem Calm.modGrp {g : Nat} {f : Group → Group} (h : Calm s₀ s) : Calm s₀ (s.modGrp g f) := h.keep
theorem Calm.withHal {v : Hal} (h : Calm s₀ s) : Calm s₀ { s with hal := v } := h.keep
theorem Calm.withTon {v : Ton} (h : Calm s₀ s) : Calm s₀ { s with ton := v } := h.keep
theorem Calm.withCnv {v : Cnv} (h : Calm s₀ s) : Calm s₀ { s with cnv := v } := h.keep
theorem Calm.withCnvDec {v : Cnv} {w : DecS} (h : Calm s₀ s) : Calm s₀ { s with cnv := v, dec := w } := h.keep
theorem Calm.withHif {v : Hif} (h : Calm s₀ s) : Calm s₀ { s with hif := v } := h.keep
theorem Calm.withBus {v : Bus} (h : Calm s₀ s) : Calm s₀ { s with bus := v } := h.keep
theorem Calm.withFlt {v : FltS} (h : Calm s₀ s) : Calm s₀ { s with flt := v } := h.keep
theorem Calm.withImg {v : Img} (h : Calm s₀ s) : Calm s₀ { s with img := v } := h.keep
theorem Calm.withTrim {v : TrimS} (h : Calm s₀ s) : Calm s₀ { s with trim := v } := h.keep
theorem Calm.report {code src inst : Nat} (h : Calm s₀ s) : Calm s₀ (s.report code src inst) := h.keep
theorem Calm.send {i : Item} (h : Calm s₀ s) : Calm s₀ (s.send i) := h.keep

/-! #### Halyard and the outputs -/

theorem Calm.setSeg {q i : Nat} {e : Seg} (h : Calm s₀ s) : Calm s₀ (s.setSeg q i e) := h.keep
theorem Calm.changeSeg {y q i : Nat} {e : Seg} (h : Calm s₀ s) : Calm s₀ (s.changeSeg y q i e) := h.keep
theorem Calm.setTgt {y t : Nat} {x : Target} (h : Calm s₀ s) : Calm s₀ (s.setTgt y t x) := h.keep
theorem Calm.setStrm {y c : Nat} {x : Strm} (h : Calm s₀ s) : Calm s₀ (s.setStrm y c x) := h.keep
theorem Calm.markerCut {y a : Nat} (h : Calm s₀ s) : Calm s₀ (markerCut y a s) := h.keep
theorem Calm.endPlayUse {y : Nat} {p : Play} (h : Calm s₀ s) : Calm s₀ (s.endPlayUse y p) := h.setSeg.ite h

theorem Calm.endPlanUse {y : Nat} {p : Play} (h : Calm s₀ s) : Calm s₀ (s.endPlanUse y p) := by
  unfold Machine.State.endPlanUse
  split
  · exact h.setSeg
  · exact h

theorem Calm.toneState {y t : Nat} (h : Calm s₀ s) : Calm s₀ (s.toneState y t) := by
  unfold Machine.State.toneState
  split
  · exact h.setF (by unfold TON_TSTS; omega)
  · exact h

theorem Calm.setTstate {y t st seg : Nat} (h : Calm s₀ s) : Calm s₀ (s.setTstate y t st seg) :=
  ((h.setF (by unfold HAL_TGT_STS; omega)).setF (by unfold HAL_TGT_STS; omega)).toneState

theorem Calm.idleTgt {y t : Nat} (h : Calm s₀ s) : Calm s₀ (s.idleTgt y t) := by
  unfold Machine.State.idleTgt
  dsimp only
  split
  · exact h.endPlayUse.endPlanUse.setTgt.setTstate
  · exact h.setTstate

theorem Calm.halIdle {y : Nat} (h : Calm s₀ s) : Calm s₀ (halIdle y s) := by
  refine (h.forEach fun r _ t h => ?_).withHal.forEach fun c _ t h =>
    ((h.setTgt.setF (by unfold HAL_TGT_STS; omega)).ite h).idleTgt
  split
  · exact h.endPlayUse
  · exact h

theorem Calm.strAbort {y : Nat} (h : Calm s₀ s) : Calm s₀ (strAbort y s) := h.forEach fun _ _ _ h => h.setStrm

theorem Calm.markersCut (h : Calm s₀ s) : Calm s₀ (markersCut s) := h.forEach fun _ _ _ h => h.keep

theorem Calm.hoDiscard {y : Nat} (h : Calm s₀ s) : Calm s₀ (hoDiscard y s) :=
  ((h.withTon.setF (by unfold TON_HO_STS; omega)).status (by unfold TON_HO_STS; omega)).ite h

theorem Calm.fluxClear {y : Nat} (h : Calm s₀ s) : Calm s₀ (fluxClear y s) := h.forEach fun _ _ _ h => h.keep

theorem Calm.fluxStates {y : Nat} (h : Calm s₀ s) : Calm s₀ (fluxStates y s) :=
  h.forEach fun _ _ _ h => h.setF (by unfold FLX_STS; omega)

theorem Calm.biaRefresh {y : Nat} (h : Calm s₀ s) : Calm s₀ (biaRefresh y s) :=
  (h.setF (by unfold BIA_STS; omega)).setF (by unfold BIA_STS; omega)

theorem Calm.feed {out : Nat} {code : Int} {pin : Nat} (h : Calm s₀ s) : Calm s₀ (feed out code pin s) := h.ite h.withTon

theorem Calm.biaZero {y : Nat} (h : Calm s₀ s) : Calm s₀ (biaZero y s) :=
  (h.wrN (by unfold BIA_ACT; omega)).feed.withTon.biaRefresh

/-! #### Converters, windows and demodulation -/

theorem Calm.settleFrom {k e n : Nat} (h : Calm s₀ s) : Calm s₀ (settleFrom k e n s) := by
  have hk := le_convPage k
  exact h.ite (Calm.setF (Calm.keep h) (by omega))

theorem Calm.monRefresh {m : Nat} (h : Calm s₀ s) : Calm s₀ (monRefresh m s) := by
  have hm := le_convPage (32 + m)
  exact ((h.setF (by unfold monSTS; omega)).setF (by omega)).setF (by omega)

theorem Calm.injTell {i : Inj} {f : Svc → Svc} (h : Calm s₀ s) : Calm s₀ (injTell i f s) := by
  unfold Machine.injTell
  split
  · exact h.keep
  · exact h

theorem Calm.injEnd {m : Nat} {i : Inj} (h : Calm s₀ s) : Calm s₀ (injEnd m i s) := by
  have hm := le_convPage (32 + m)
  unfold Machine.injEnd
  split
  · exact h.status (by unfold STAY_TMR_STS; omega)
  · exact h.injTell.ite (h.status (by unfold monSTS; omega))

theorem Calm.monOff (h : Calm s₀ s) : Calm s₀ (monOff s) :=
  h.forEach fun m _ _ h => by
    have hm := le_convPage (32 + m)
    exact Calm.monRefresh <| Calm.setF (Calm.withCnv <| h.forEach fun _ _ _ h => h.injEnd) (by unfold monCTL; omega)

theorem Calm.acqRefresh {y c : Nat} (h : Calm s₀ s) : Calm s₀ (acqRefresh y c s) :=
  (h.setF (by unfold CNV_ACQ_STS; omega)).setF (by unfold DSC_STS; omega)

theorem Calm.modDem {y c : Nat} {f : Dem → Dem} (h : Calm s₀ s) : Calm s₀ (s.modDem y c f) := h.keep
theorem Calm.endWins {y c : Nat} {p : Win → Bool} (h : Calm s₀ s) : Calm s₀ (endWins y c p s) := h.withCnv.modDem.acqRefresh
theorem Calm.acqAbort {y : Nat} (h : Calm s₀ s) : Calm s₀ (acqAbort y s) := h.forEach fun _ _ _ h => h.endWins

theorem Calm.acqClear {y : Nat} (h : Calm s₀ s) : Calm s₀ (acqClear y s) :=
  h.forEach fun _ _ _ h => (h.setF (by unfold CNV_ACQ_CTL; omega)).endWins

theorem Calm.setCst {y c v : Nat} (h : Calm s₀ s) : Calm s₀ (s.setCst y c v) := h.setF (by unfold DEM_STS; omega)

theorem Calm.demStopAll {y : Nat} (h : Calm s₀ s) : Calm s₀ (demStopAll y s) :=
  h.forEach fun c _ _ h => by
    have hsts : 0x400004 < DEM_STS y c := by unfold DEM_STS; omega
    exact (((h.setF hsts).setF hsts).setF hsts).endWins.modDem.andThen fun k => (k.setCst.ite k.setCst).acqRefresh

theorem Calm.slotClearAll (h : Calm s₀ s) : Calm s₀ (slotClearAll s) :=
  h.forEach fun _ _ _ h => (h.wrN (by unfold SHT_SLOT; omega)).withCnv

theorem Calm.withdrawFormed {y : Nat} {p : Dec → Bool} (h : Calm s₀ s) : Calm s₀ (withdrawFormed y p s) := h.keep

/-! #### Microcode, decoder, Winch, capture and Furler -/

theorem Calm.ucBodyFail {y code : Nat} (h : Calm s₀ s) : Calm s₀ (ucBodyFail y code s) := by
  have hsts : 0x400004 < UC_STS y := by unfold UC_STS; omega
  have hver : 0x400004 < UC_VER y := by unfold UC_VER; omega
  unfold Machine.ucBodyFail
  exact (((h.status hsts).setF hsts).setF hver).modMast

theorem Calm.ucAbortLoad {y : Nat} (h : Calm s₀ s) : Calm s₀ (ucAbortLoad y s) := by
  have hsts : 0x400004 < UC_STS y := by unfold UC_STS; omega
  unfold Machine.ucAbortLoad
  split
  · exact h
  · exact h.ucBodyFail.ite ((h.status hsts).setF hsts).modMast

theorem Calm.setCtx {x : Nat} {c : DCtx} (h : Calm s₀ s) : Calm s₀ (s.setCtx x c) := h.keep
theorem Calm.modCtx {x : Nat} {f : DCtx → DCtx} (h : Calm s₀ s) : Calm s₀ (s.modCtx x f) := h.keep
theorem Calm.setXst {x v : Nat} (h : Calm s₀ s) : Calm s₀ (s.setXst x v) := h.setF (by unfold DEC_CSTS; omega)
theorem Calm.decBacklog {x : Nat} (h : Calm s₀ s) : Calm s₀ (decBacklog x s) := h.setF (by unfold DEC_CSTS; omega)

theorem Calm.sendItem {x rel q p : Nat} (h : Calm s₀ s) : Calm s₀ (sendItem x rel q p s) := by
  unfold Machine.sendItem
  dsimp only
  split
  · exact h.setCtx.send
  · exact h

theorem Calm.clearMirror {x rel : Nat} (h : Calm s₀ s) : Calm s₀ (clearMirror x rel s) := h.forEach fun _ _ _ h => h.sendItem

theorem Calm.decAbort {g : Nat} (h : Calm s₀ s) : Calm s₀ (decAbort g s) :=
  h.forEach fun _ _ _ h => h.modCtx.clearMirror.modCtx.setXst.decBacklog

theorem Calm.decSafe (h : Calm s₀ s) : Calm s₀ (decSafe s) :=
  h.forEach fun _ _ _ h => (h.modCtx.modCtx.setF (by unfold DEC_CSTS; omega)).setF (by unfold DEC_CSTS; omega)

theorem Calm.setCore {x : Nat} {c : Core} (h : Calm s₀ s) : Calm s₀ (s.setCore x c) := h.keep

theorem Calm.svcDisturb {g code : Nat} (h : Calm s₀ s) : Calm s₀ (svcDisturb g code s) := by
  unfold Machine.svcDisturb
  split
  · exact h.setCore
  · exact h

theorem Calm.svcEnd {x code : Nat} (h : Calm s₀ s) : Calm s₀ (svcEnd x code s) := by
  unfold Machine.svcEnd
  split
  · have k := h.setCore (x := x) (c := { s.core x with svc := none })
    exact (Calm.withBus ((k.wr (by decide)).modGrp.ite k)).inc (by unfold WCH_SVC_CNT; omega)
  · exact h

theorem Calm.wStopAll (h : Calm s₀ s) : Calm s₀ (wStopAll s) :=
  h.forEach fun _ _ _ h => h.ite ((h.svcEnd.setF (by unfold WCH_CTL; omega)).setF (by unfold WCH_CSTS; omega)).setCore

theorem Calm.cnsCloseAll {why : Nat} (h : Calm s₀ s) : Calm s₀ (cnsCloseAll why s) :=
  h.forEach fun c _ t h => by
    have k := h.setF (a := CNS_CTL c) (f := CNS_CTL_ARM) (n := 0) (by unfold CNS_CTL; omega)
    exact k.ite ((Calm.keep k).ite (k.setF (by unfold CNS_STS; omega)))

theorem Calm.setFctx {x : Nat} {v : FCtx} (h : Calm s₀ s) : Calm s₀ (s.setFctx x v) := h.keep

theorem Calm.setCtxSt {x v : Nat} (h : Calm s₀ s) : Calm s₀ (s.setCtxSt x v) :=
  (h.setF (by unfold FRL_CTXS; omega)).setF (by unfold FRL_CTXS; omega)

theorem Calm.setFjob {e : Nat} {v : Option FJob} (h : Calm s₀ s) : Calm s₀ (s.setFjob e v) := h.keep

theorem Calm.frlEnd {e code xs : Nat} (h : Calm s₀ s) : Calm s₀ (frlEnd e code xs s) := by
  have hsts : 0x400004 < FRL_STS e := by unfold FRL_STS; omega
  unfold Machine.frlEnd
  split
  · exact h
  · exact (((((h.setFctx.ite h).setCtxSt.wrN (by unfold FRL_CONSUMED; omega)).wrN (by unfold FRL_PRODUCED; omega)).wrN
      (by unfold FRL_CRC; omega)).setFjob.status hsts).setF hsts

theorem Calm.frlSafe (h : Calm s₀ s) : Calm s₀ (frlSafe s) :=
  (h.forEach fun _ _ _ h => (h.frlEnd.ite (h.status (by unfold FRL_STS; omega))).ite h).forEach fun _ _ _ h => h.setFctx.setCtxSt

/-! #### Queues and links -/

theorem Calm.toHost {o : HostOut} (h : Calm s₀ s) : Calm s₀ (s.toHost o) := h.keep
theorem Calm.fireVec {v : Nat} (h : Calm s₀ s) : Calm s₀ (fireVec v s) := (h.ite h.withHif).ite h.toHost
theorem Calm.setQue {q : Nat} {x : Que} (h : Calm s₀ s) : Calm s₀ (s.setQue q x) := h.keep
theorem Calm.modQue {q : Nat} {f : Que → Que} (h : Calm s₀ s) : Calm s₀ (s.modQue q f) := h.keep

theorem Calm.ringWrite {q off : Nat} {bs : List (BitVec 8)} (h : Calm s₀ s) : Calm s₀ (ringWrite q off bs s) := h.withCnv.ite h.toHost

theorem Calm.writeBack {q i : Nat} (h : Calm s₀ s) : Calm s₀ (writeBack q i s) := h.ite h.toHost
theorem Calm.qVisible {q n : Nat} (h : Calm s₀ s) : Calm s₀ (qVisible q n s) := h.setQue.fireVec.ite h.setQue

theorem Calm.advanceCons {q n : Nat} (h : Calm s₀ s) : Calm s₀ (advanceCons q n s) := by
  induction n generalizing s with
  | zero => exact h
  | succ n ih =>
    unfold Machine.advanceCons
    dsimp only
    split
    · split
      · exact ih h.setQue.writeBack
      · exact h
    · exact h

theorem Calm.descDone {q i code : Nat} (h : Calm s₀ s) : Calm s₀ (descDone q i code s) := by
  unfold Machine.descDone
  split
  · exact h
  · exact Calm.andThen (Calm.advanceCons (Calm.modQue (h.ringWrite.ringWrite.changeSeg.ite h.ringWrite.ringWrite))) fun k =>
      k.modQue.fireVec.ite k.qVisible

theorem Calm.dmaLinkDown {l : Nat} (h : Calm s₀ s) : Calm s₀ (dmaLinkDown l s) :=
  h.forEach fun _ _ _ h => h.forEach fun _ _ _ h => h.descDone

theorem Calm.dmaAbortAll {code : Nat} (h : Calm s₀ s) : Calm s₀ (dmaAbortAll code s) :=
  h.forEach fun _ _ _ h => h.forEach fun _ _ _ h => h.descDone

theorem Calm.inSeg {i : XferIn} {v : SegState} (h : Calm s₀ s) : Calm s₀ (inSeg i v s) := h.changeSeg.ite h
theorem Calm.insDrop {l : Nat} (h : Calm s₀ s) : Calm s₀ (insDrop l s) := (h.forEach fun _ _ _ h => h.inSeg).withHif
theorem Calm.setLink {l : Nat} {x : OzlLink} (h : Calm s₀ s) : Calm s₀ (s.setLink l x) := h.keep
theorem Calm.modStay {f : StayS → StayS} (h : Calm s₀ s) : Calm s₀ (s.modStay f) := h.keep

theorem Calm.linkTimeReset {l : Nat} (h : Calm s₀ s) : Calm s₀ (linkTimeReset l s) := h.modStay.setF (by unfold STAY_LNK_STS; omega)

theorem Calm.setLst {l v : Nat} (h : Calm s₀ s) : Calm s₀ (s.setLst l v) :=
  (h.setF (by unfold OZL_STS; omega)).setF (by unfold OZL_GSTS; omega)

theorem Calm.setLanes {l v : Nat} (h : Calm s₀ s) : Calm s₀ (s.setLanes l v) := h.forEach fun _ _ _ h => h.setF (by unfold OZL_LSTS; omega)

theorem Calm.lClear {l : Nat} (h : Calm s₀ s) : Calm s₀ (lClear l s) := by
  have hsts : 0x400004 < OZL_STS l := by unfold OZL_STS; omega
  have hpm : 0x400004 < OZL_PMSTS l := by unfold OZL_PMSTS; omega
  have hpeer : 0x400004 < OZL_PEER l := by unfold OZL_PEER; omega
  unfold Machine.lClear
  extract_lets _ _ _ _ s₁ _ _ s₂ s₃ s₄
  have h₂ : Calm s₀ s₂ := h.dmaLinkDown.insDrop.setLink.withCnvDec
  have h₃ : Calm s₀ s₃ := ((h₂.setF hsts).setF hsts).setF hsts
  have h₄ : Calm s₀ s₄ := (h₃.setF hpm).setF hpm
  exact (h₄.setF hpeer).linkTimeReset

theorem Calm.linkDown {l : Nat} (h : Calm s₀ s) : Calm s₀ (linkDown l s) :=
  h.ite <| Calm.report <| Calm.setF (h.lClear.setLst.setLanes.inc (by unfold OZL_DOWN_CNT; omega)) (by unfold OZL_STS; omega)

theorem Calm.linksDown (h : Calm s₀ s) : Calm s₀ (linksDown s) := h.forEach fun _ _ _ h => h.linkDown

theorem Calm.linksDevice (h : Calm s₀ s) : Calm s₀ (linksDevice s) :=
  h.forEach fun _ _ _ h => (h.ite h.lClear.setLst.setLanes).ite <| Calm.ite (Calm.setLink h.setLst.setLanes) h

/-! #### The stop of the groups, Trim and the image manager -/

theorem Calm.setLsgF {g n : Nat} {f : Fld} (hg : g < 64) (h : Calm s₀ s) : Calm s₀ (s.setF (GLB_LSG_STAT g) f n) :=
  h.wrOf (by unfold calmReg GLB_LSG_STAT; omega)

theorem Calm.groupClear {g : Nat} (hg : g < 64) (h : Calm s₀ s) : Calm s₀ (groupClear g s) :=
  Calm.withFlt (Calm.modGrp (Calm.setLsgF hg (Calm.modGrp (h.withBus.withBus))))

theorem Calm.dropShotRecs {g : Nat} (h : Calm s₀ s) : Calm s₀ (s.dropShotRecs g) := (h.forEach fun _ _ _ h => h.modMast).withBus

theorem Calm.yardCut {y a : Nat} (h : Calm s₀ s) : Calm s₀ (yardCut y a s) :=
  h.withBus.withBus.withTon.halIdle.strAbort.acqAbort.withdrawFormed.markerCut

theorem Calm.mastAbort {y : Nat} (h : Calm s₀ s) : Calm s₀ (mastAbort y s) := by
  have hsts : 0x400004 < SEQ_STS y := by unfold SEQ_STS; omega
  unfold Machine.mastAbort
  exact ((h.setF hsts).setF hsts).modMast

theorem Calm.groupAbort {g a : Nat} (hg : g < 64) (h : Calm s₀ s) : Calm s₀ (groupAbort g a s) :=
  (h.groupClear hg).svcDisturb.andThen fun k => k.ite <| Calm.setLsgF hg <| Calm.modGrp <|
    ((k.ite k.dropShotRecs).forEach fun _ _ _ h => h.yardCut.mastAbort).decAbort

/-- A register of Trim or of the image manager written. -/
theorem Calm.setLowF {a n : Nat} {f : Fld} (h : Calm s₀ s) (ha : ¬ calmReg a) : Calm s₀ (s.setF a f n) := h.wrOf ha

theorem not_calmReg_csts (i : Nat) : ¬ calmReg (TRIM_CSTS i) := by unfold calmReg TRIM_CSTS; omega

theorem not_calmReg_trimSts : ¬ calmReg TRIM_STS := by unfold calmReg TRIM_STS; omega

theorem Calm.fgReturn {i : Nat} (h : Calm s₀ s) : Calm s₀ (fgReturn i s) := by
  have k := h.setLowF (f := TRIM_CSTS_FG) (n := 0) (not_calmReg_csts i)
  unfold Machine.fgReturn
  dsimp only
  split
  · exact k.biaRefresh
  · exact k.settleFrom
  · exact k

theorem Calm.trimStatus {code : Nat} (h : Calm s₀ s) : Calm s₀ (trimStatus code s) := h.setLowF not_calmReg_trimSts
theorem Calm.unstage {i : Nat} (h : Calm s₀ s) : Calm s₀ (unstage i s) := h.withTrim.setLowF (not_calmReg_csts i)

theorem Calm.setTrc {i : Nat} {x : TrimC} (h : Calm s₀ s) : Calm s₀ (s.setTrc i x) := h.keep

theorem Calm.trimSafe (h : Calm s₀ s) : Calm s₀ (trimSafe s) := by
  have hrun (i : Nat) : Calm s₀ (Machine.fgReturn i (s.setF (TRIM_CSTS i) TRIM_CSTS_STATUS E_TRIM_ABORTED)) :=
    (h.setLowF (not_calmReg_csts i)).fgReturn
  unfold Machine.trimSafe
  refine Calm.setLowF (Calm.setLowF (Calm.withTrim <| ((Calm.trimStatus ?_).ite ?_).forEach fun _ _ _ h => h.unstage.setTrc) not_calmReg_trimSts)
    not_calmReg_trimSts
  · split
    · exact hrun _
    · exact h
  · split
    · exact hrun _
    · exact h

theorem Calm.imgSafe (h : Calm s₀ s) : Calm s₀ (imgSafe s) :=
  ((h.setF (by decide)).setF (by decide)).withImg.ite h

/-! #### The fault log -/

theorem Calm.putLog {i code cls src inst time : Nat} (h : Calm s₀ s) : Calm s₀ (putLog i code cls src inst time s) := by
  have hlog (e w : Nat) : 0x400004 < FLT_LOG e w := by unfold FLT_LOG; omega
  exact (((h.wrN (hlog ..)).wrN (hlog ..)).wrN (hlog ..)).wrN (hlog ..)

theorem Calm.logIrq {cls : Nat} (h : Calm s₀ s) : Calm s₀ (logIrq cls s) := h.fireVec.ite h

theorem Calm.logReport {code src inst : Nat} {program : Bool} (h : Calm s₀ s) : Calm s₀ (logReport code program src inst s) := by
  have hcnt (c : Nat) : 0x400004 < FLT_CNT c := by unfold FLT_CNT; omega
  unfold Machine.logReport
  dsimp only
  split
  · exact (h.inc (hcnt _)).setF (by unfold FLT_LOG; omega)
  · exact (((h.inc (hcnt _)).setF (by decide)).ite (h.inc (hcnt _))).andThen fun k =>
      (k.putLog.setF (by decide)).logIrq.ite <| ((k.inc (by decide)).setF (by decide)).andThen fun l => l.putLog.logIrq.ite l

end

/-! ### The entries -/

/-- A register that an entry into SAFE leaves. -/
theorem enterSafe_calm (code : Nat) (s : State) {a : Nat} (ha : calmReg a) (hne : a ≠ GLB_STATE) : (enterSafe code s).rd a = s.rd a := by
  unfold Machine.enterSafe
  split
  · exact Eq.refl _
  · extract_lets a s₁ s₂ s₃ timed s₄ s₅ s₆
    have h₁ : Calm s s₁ := Calm.rfl.trimSafe.imgSafe
    have h₃ : Calm s₂ s₃ := Calm.rfl.forEach fun _ hg _ h => h.groupAbort (List.mem_range.mp hg)
    have h₅ : Calm s₂ s₅ := h₃.withBus.withBus.forEach fun _ _ _ h =>
      h.fluxClear.fluxStates.acqClear.demStopAll.ucAbortLoad.halIdle.hoDiscard.biaRefresh
    have h := h₅.withCnv (v := { s₅.cnv with formed := [] }) |>.markersCut.slotClearAll.decSafe.monOff.wStopAll.cnsCloseAll (why := 1)
      |>.frlSafe.dmaAbortAll (code := E_DMA_ABORTED) |>.linksDown.linksDevice
    have h₂ : s₂.rd _ = s₁.rd _ := (rd_setF_ne (s₁.setDev dSAFE) GLB_STATE _ GLB_STATE_SAFE_STATUS code hne).trans (rd_setF_ne _ _ _ _ _ hne)
    exact (h.regs _ ha).trans (h₂.trans (h₁.regs _ ha))

/-- A FATAL report: the device is in SAFE with its code, and the registers of the controller and of Reef are as they were. -/
theorem fatal_spec {s : State} (hdev : s.dev ≠ dOFF) {code : Nat} (hcode : code < 2 ^ 16) (src inst : Nat) :
    (fatal code src inst s).dev = dSAFE ∧ (fatal code src inst s).fld GLB_STATE GLB_STATE_SAFE_STATUS = code
      ∧ ∀ a, calmReg a → a ≠ GLB_STATE → (fatal code src inst s).rd a = s.rd a := by
  have hlog : Calm s (logReport code false src inst s) := Calm.rfl.logReport
  obtain ⟨hsafe, hstatus⟩ := enterSafe_spec (hlog.dev ▸ hdev) code
  exact ⟨hsafe, hstatus.trans (Nat.mod_eq_of_lt hcode), fun a ha hne => (enterSafe_calm code _ ha hne).trans (hlog.regs a ha)⟩

/-- Entry into CONFIG changes the device state, and leaves the controller's other registers, the power and the Shroud states. -/
theorem enterConfig_calm (s : State) : Calm (s.setDev dCONFIG) (enterConfig s) :=
  (Calm.rfl.monOff.wStopAll.markersCut.forEach fun _ _ _ h => h.fluxClear.fluxStates.biaZero.demStopAll).linksDevice

end Sys2Proof.Laws
end

section
namespace Sys2Proof.Laws
open Sys2Proof.Machine

-- One theorem after another: a thread for each of them passes the memory limit of the check.
set_option Elab.async false

section
variable {s t u : State} {kind a n : Nat}

/-! ### A device reset (Table 21-3) -/

/-- GLB_BOOT_STS after a reset. -/
def bootWord (kind : Nat) (s : State) : Word :=
  insF (insF (insF (insF (s.rd GLB_BOOT_STS) GLB_BOOT_STS_LAST_RESET kind) GLB_BOOT_STS_STAGE 1) GLB_BOOT_STS_CAUSE 0) GLB_BOOT_STS_COPY 0

/-- The blocks after a reset, with every register at its reset value. -/
def blocksReset (s : State) : State :=
  { State.reset with
    pending := s.pending
    clock := { (default : Clock) with now := s.clock.now }
    bus := { (default : Bus) with free := s.bus.free }
    hif := { (default : Hif) with out := s.hif.out, down := true }
    pwr := { (default : PwrS) with good := s.pwr.good, straps := s.pwr.straps, smb := s.pwr.smb }
    reef := { (default : ReefS) with conv := s.reef.conv, cool := s.reef.cool, tripped := s.reef.tripped } }

/-- The registers of the always-on domain and the fuses put back. -/
def fusesKept (boot : Word) (s t : State) : State :=
  let t := (t.wr GLB_BOOT_STS boot).wr REEF_TRIP_CNT (s.rd REEF_TRIP_CNT)
  let t := t.setF REEF_STS REEF_STS_TRIPPED (s.fld REEF_STS REEF_STS_TRIPPED)
  let t := t.setF SHR_OKEY SHR_OKEY_REVOKED (s.fld SHR_OKEY SHR_OKEY_REVOKED)
  let t := t.setF GLB_FW_VER GLB_FW_VER_FLOOR (s.fld GLB_FW_VER GLB_FW_VER_FLOOR)
  (t.setF SHR_STS SHR_STS_LIFECYCLE (if s.shr.scrap then 3 else s.lifecycle)).setDev dOFF

theorem deviceReset_eq (kind : Nat) (s : State) : deviceReset kind s = fusesKept (bootWord kind s) s (blocksReset s) := rfl

/-- The registers that a reset does not leave at their reset values. -/
def resetKept : List Nat := [GLB_BOOT_STS, REEF_TRIP_CNT, REEF_STS, SHR_OKEY, GLB_FW_VER, SHR_STS, GLB_STATE]

theorem fusesKept_spec (boot : Word) (s t : State) {u : State} (hu : u = fusesKept boot s t) :
    u.dev = dOFF ∧ u.rd GLB_BOOT_STS = boot ∧ u.rd REEF_TRIP_CNT = s.rd REEF_TRIP_CNT
      ∧ u.rd REEF_STS = insF (t.rd REEF_STS) REEF_STS_TRIPPED (s.fld REEF_STS REEF_STS_TRIPPED) ∧ t.onlyRegs u resetKept := by
  obtain ⟨v, hv⟩ : ∃ v, v = (t.wr GLB_BOOT_STS boot).wr REEF_TRIP_CNT (s.rd REEF_TRIP_CNT) := ⟨_, rfl⟩
  obtain ⟨w, hw⟩ : ∃ w, w = v.setF REEF_STS REEF_STS_TRIPPED (s.fld REEF_STS REEF_STS_TRIPPED) := ⟨_, rfl⟩
  have hvonly : t.onlyRegs v resetKept := by
    rw [hv]
    exact onlyRegs_andWr (onlyRegs_andWr (onlyRegs_rfl t _) (by simp [resetKept])) (by simp [resetKept])
  have hwonly : t.onlyRegs w resetKept := by
    rw [hw]
    exact onlyRegs_andWr hvonly (by simp [resetKept])
  unfold fusesKept at hu
  dsimp only at hu
  rw [← hv, ← hw] at hu
  have hrest : w.keeps u [SHR_OKEY, GLB_FW_VER, SHR_STS, GLB_STATE] := by
    rw [hu]
    exact keeps_setF (keeps_setF (keeps_setF (keeps_setF (keeps_rfl w _) (by simp)) (by simp)) (by simp)) (by simp)
  have honly : t.onlyRegs u resetKept := by
    rw [hu]
    exact onlyRegs_andWr (onlyRegs_andWr (onlyRegs_andWr (onlyRegs_andWr hwonly (by simp [resetKept])) (by simp [resetKept]))
      (by simp [resetKept])) (by simp [resetKept])
  refine ⟨?_, ?_, ?_, ?_, honly⟩
  · rw [hu]
    exact dev_setDev _ _
  · rw [rd_of_keeps hrest (by decide), hw, rd_setF_ne _ _ _ _ _ (by decide), hv, rd_wr_ne _ _ _ _ (by decide), rd_wr_same]
  · rw [rd_of_keeps hrest (by decide), hw, rd_setF_ne _ _ _ _ _ (by decide), hv, rd_wr_same]
  · rw [rd_of_keeps hrest (by decide), hw, rd_setF_same, hv, rd_wr_ne _ _ _ _ (by decide), rd_wr_ne _ _ _ _ (by decide)]

theorem rd_blocksReset (s : State) (a : Nat) : (blocksReset s).rd a = resetVal a := rfl

/-- What a device reset leaves. -/
theorem deviceReset_spec (hk : kind < 4) (s : State) {u : State} (hu : u = deviceReset kind s) :
    s.resetBy u kind ∧ u.rd GLB_BOOT_STS = bootWord kind s ∧ u.rd REEF_TRIP_CNT = s.rd REEF_TRIP_CNT
      ∧ u.rd REEF_STS = insF (resetVal REEF_STS) REEF_STS_TRIPPED (s.fld REEF_STS REEF_STS_TRIPPED)
      ∧ { u with regs := [] } = blocksReset s ∧ ∀ a, a ∉ resetKept → u.rd a = resetVal a := by
  rw [deviceReset_eq] at hu
  obtain ⟨hdev, hboot, htrip, hsts, honly⟩ := fusesKept_spec _ _ _ hu
  have hrest := eq_of_onlyRegs honly
  have hblocks : { u with regs := [] } = blocksReset s := (congrArg (fun x : State => { x with regs := [] }) hrest :)
  have hrd (a : Nat) (ha : a ∉ resetKept) : u.rd a = resetVal a := honly.2 a ha
  have hlast : u.fld GLB_BOOT_STS GLB_BOOT_STS_LAST_RESET = kind := by
    rw [State.fld, hboot, bootWord, getF_insF_ne _ _ _ _ (by decide) (by decide) (by decide), getF_insF_ne _ _ _ _ (by decide) (by decide) (by decide),
      getF_insF_ne _ _ _ _ (by decide) (by decide) (by decide), getF_insF _ _ _ (by decide)]
    exact Nat.mod_eq_of_lt hk
  refine ⟨⟨hdev, hlast, (congrArg State.pending hrest :), (congrArg State.act hrest :), hrd, ?_⟩, hboot, htrip, hsts, hblocks, hrd⟩
  exact (congrArg (fun x : State => { x with regs := [], clock := s.clock, bus := s.bus, hif := s.hif, pwr := s.pwr, reef := s.reef, pending := [] }) hrest :)

/-- The straps stand in GLB_BOOT_STS. -/
theorem straps_bootWord (kind : Nat) (s : State) : getF (bootWord kind s) (1, 4) = s.fld GLB_BOOT_STS (1, 4) := by
  rw [bootWord, getF_insF_ne _ _ _ _ (by decide) (by decide) (by decide), getF_insF_ne _ _ _ _ (by decide) (by decide) (by decide),
    getF_insF_ne _ _ _ _ (by decide) (by decide) (by decide), getF_insF_ne _ _ _ _ (by decide) (by decide) (by decide)]
  rfl

/-- What a reset keeps. -/
theorem deviceReset_keeps (hk : kind < 4) (s : State) {u : State} (hu : u = deviceReset kind s) :
    u.rd REEF_TRIP_CNT = s.rd REEF_TRIP_CNT ∧ u.fld REEF_STS REEF_STS_TRIPPED = s.fld REEF_STS REEF_STS_TRIPPED
      ∧ u.fld GLB_BOOT_STS (1, 4) = s.fld GLB_BOOT_STS (1, 4) ∧ u.pwr.straps = s.pwr.straps ∧ u.pwr.good = s.pwr.good := by
  obtain ⟨_, hboot, htrip, hsts, hblocks, _⟩ := deviceReset_spec hk s hu
  refine ⟨htrip, ?_, ?_, (congrArg (fun x : State => x.pwr.straps) hblocks :), (congrArg (fun x : State => x.pwr.good) hblocks :)⟩
  · rw [State.fld, hsts, getF_insF _ _ _ (by decide)]
    exact Nat.mod_eq_of_lt (getF_lt _ REEF_STS_TRIPPED (by decide))
  · rw [State.fld, hboot, straps_bootWord]

theorem resetBy_withPwr (h : s.resetBy t kind) (p : PwrS) : s.resetBy { t with pwr := p } kind := h

theorem lastReset_lt (s : State) : s.lastReset < 4 := getF_lt _ GLB_BOOT_STS_LAST_RESET (by decide)

/-- A loss of the auxiliary supply. -/
theorem auxLoss_spec (s : State) {t : State} (ht : t = auxLoss s) :
    t.dev = dOFF ∧ t.rd GLB_BOOT_STS = resetVal GLB_BOOT_STS ∧ t.rdN REEF_TRIP_CNT = 0
      ∧ t.fld REEF_STS REEF_STS_TRIPPED = 0 ∧ t.pwr.good = false ∧ t.pwr.straps = none ∧ t.pending = s.pending
      ∧ ∀ a, a ∉ [SHR_OKEY, GLB_FW_VER, SHR_STS, GLB_STATE] → t.rd a = resetVal a := by
  obtain ⟨d, hd⟩ : ∃ d, d = deviceReset 0 { s with reef := default } := ⟨_, rfl⟩
  obtain ⟨⟨hdev, _, hpend, _⟩, _, _, hsts, _, hrd⟩ := deviceReset_spec (kind := 0) (by decide) _ hd
  obtain ⟨w, hw⟩ : ∃ w, w = ((d.wr GLB_BOOT_STS (resetVal GLB_BOOT_STS)).wrN REEF_TRIP_CNT 0).setF REEF_STS REEF_STS_TRIPPED 0 := ⟨_, rfl⟩
  have htw : t = { w with pwr := default } := by rw [ht, hw, hd]; rfl
  have hrdt (a : Nat) : t.rd a = w.rd a := by rw [htw]; rfl
  have hkeeps : d.keeps w [GLB_BOOT_STS, REEF_TRIP_CNT, REEF_STS] := by
    rw [hw]
    exact keeps_setF (keeps_wrN (keeps_andWr (keeps_rfl d _) (by simp)) (by simp)) (by simp)
  have hboot : w.rd GLB_BOOT_STS = resetVal GLB_BOOT_STS := by
    rw [hw, rd_setF_ne _ _ _ _ _ (by decide), rd_wrN_ne _ _ _ _ (by decide), rd_wr_same]
  have htrip : w.rd REEF_TRIP_CNT = 0 := by
    rw [hw, rd_setF_ne _ _ _ _ _ (by decide)]
    exact rd_wr_same ..
  have hsts' : w.rd REEF_STS = insF (insF (resetVal REEF_STS) REEF_STS_TRIPPED (s.fld REEF_STS REEF_STS_TRIPPED)) REEF_STS_TRIPPED 0 := by
    rw [hw, rd_setF_same, rd_wrN_ne _ _ _ _ (by decide), rd_wr_ne _ _ _ _ (by decide), hsts]
    rfl
  have htripped : ∀ n < 2, insF (insF (resetVal REEF_STS) REEF_STS_TRIPPED n) REEF_STS_TRIPPED 0 = resetVal REEF_STS := by decide +kernel
  have hstsReset : w.rd REEF_STS = resetVal REEF_STS := hsts'.trans (htripped _ (getF_lt _ REEF_STS_TRIPPED (by decide)))
  refine ⟨?_, (hrdt _).trans hboot, ?_, ?_, ?_, ?_, ?_, fun a ha => ?_⟩
  · rw [State.dev, State.fld, hrdt, rd_of_keeps hkeeps (by decide)]
    exact hdev
  · rw [State.rdN, hrdt, htrip]
    rfl
  · rw [State.fld, hrdt, hsts', getF_insF _ _ _ (by decide)]
    rfl
  · rw [htw]
    rfl
  · rw [htw]
    rfl
  · rw [htw, hw]
    exact hpend
  · rw [hrdt]
    by_cases h1 : a = GLB_BOOT_STS
    · rw [h1, hboot]
    · by_cases h2 : a = REEF_TRIP_CNT
      · rw [h2, htrip]
        decide +kernel
      · by_cases h3 : a = REEF_STS
        · rw [h3, hstsReset]
        · refine (rd_of_keeps hkeeps (by simp [h1, h2, h3])).trans (hrd a ?_)
          simp only [List.mem_cons, List.not_mem_nil, or_false, not_or] at ha
          simp [resetKept, h1, h2, h3, ha]

/-! ### Clocks (R611 to R614) -/

/-- TB1 stopped, in STAY_STS. -/
theorem tb1Halt_spec (s : State) {u : State} (hu : u = tb1Halt s) : u.tb1Run = false ∧ s.keeps u [STAY_STS] := by
  obtain ⟨v, hv⟩ : ∃ v : State, v = { tb1Clear s with clock := { s.clock with tb1 := 0 } } := ⟨_, rfl⟩
  have hregs : v.regs = s.regs := by rw [hv, tb1Clear_eq]
  have huv : u = ((v.setTb1St tbSTOPPED).setF STAY_STS STAY_STS_SYNC_ARMED 0).modStay fun x => { x with starts := none } := by
    rw [hu, hv, tb1Clear_eq, Machine.tb1Halt, tb1Clear_eq]
  have hst : u.fld STAY_STS STAY_STS_TB1STATE = tbSTOPPED := by
    rw [huv, fld_modStay, fld_setF_beside _ _ STAY_STS_SYNC_ARMED STAY_STS_TB1STATE _ (by decide) (by decide) (by decide)]
    exact fld_setF _ _ _ _ (by decide)
  refine ⟨?_, ?_⟩
  · rw [State.tb1Run, hst]
    rfl
  · rw [huv]
    exact keeps_modStay (keeps_setF (keeps_setF (keeps_of_regs (keeps_rfl s _) hregs) (by simp)) (by simp))

/-- Lock lost: the fallback clock, and the count. -/
def lockLost (s : State) : State :=
  { ((s.setF GLB_CLK_STS GLB_CLK_STS_SYNTH_LOCK 0).setF GLB_CLK_STS GLB_CLK_STS_FALLBACK 1).inc GLB_SYNTH_LOL_CNT with
    pwr := { s.pwr with lockAt := none, tryAt := s.clock.now } }

theorem lockLost_spec (s : State) {u : State} (hu : u = lockLost s) :
    u.fld GLB_CLK_STS GLB_CLK_STS_SYNTH_LOCK = 0 ∧ u.fld GLB_CLK_STS GLB_CLK_STS_FALLBACK = 1
      ∧ u.fld GLB_CLK_STS GLB_CLK_STS_REFCLK_OK = s.fld GLB_CLK_STS GLB_CLK_STS_REFCLK_OK
      ∧ u.fld GLB_CLK_STS GLB_CLK_STS_AUX_LOCK = s.fld GLB_CLK_STS GLB_CLK_STS_AUX_LOCK
      ∧ u.rdN GLB_SYNTH_LOL_CNT = min 0xFFFFFFFF (s.rdN GLB_SYNTH_LOL_CNT + 1) ∧ s.keeps u [GLB_CLK_STS, GLB_SYNTH_LOL_CNT] := by
  have hfld (f : Fld) : u.fld GLB_CLK_STS f
      = ((s.setF GLB_CLK_STS GLB_CLK_STS_SYNTH_LOCK 0).setF GLB_CLK_STS GLB_CLK_STS_FALLBACK 1).fld GLB_CLK_STS f := by
    rw [hu]
    exact fld_inc_ne _ _ _ _ (by decide)
  have hbeside (f : Fld) (hf : f.1 + f.2 ≤ 64) (h : 2 ≤ f.1) : u.fld GLB_CLK_STS f = s.fld GLB_CLK_STS f := by
    rw [hfld, fld_setF_beside _ _ GLB_CLK_STS_FALLBACK f _ (by decide) hf (.inl (Nat.le_trans (by decide) h)),
      fld_setF_beside _ _ GLB_CLK_STS_SYNTH_LOCK f _ (by decide) hf (.inl h)]
  refine ⟨?_, ?_, hbeside _ (by decide) (by decide), hbeside _ (by decide) (by decide), ?_, ?_⟩
  · rw [hfld, fld_setF_beside _ _ GLB_CLK_STS_FALLBACK GLB_CLK_STS_SYNTH_LOCK _ (by decide) (by decide) (by decide), fld_setF _ _ _ _ (by decide)]
    rfl
  · rw [hfld, fld_setF _ _ _ _ (by decide)]
    rfl
  · rw [hu]
    exact (rdN_inc ..).trans (by rw [rdN_setF_ne _ _ _ _ _ (by decide), rdN_setF_ne _ _ _ _ _ (by decide)])
  · rw [hu]
    exact keeps_of_regs (keeps_countUp (keeps_setF (keeps_setF (keeps_rfl s _) (by simp)) (by simp)) (by simp)) rfl

/-- Loss of the synthesiser's lock: fallback, SAFE, TB1 stopped. -/
theorem synthLost_spec (h : s.flag GLB_CLK_STS GLB_CLK_STS_SYNTH_LOCK = true) (hdev : s.dev ≠ dOFF) {t : State} (ht : t = synthLost s) :
    t.dev = dSAFE ∧ t.fld GLB_STATE GLB_STATE_SAFE_STATUS = E_FLT_SYNTH_LOCK ∧ t.tb1Run = false
      ∧ t.fld GLB_CLK_STS GLB_CLK_STS_SYNTH_LOCK = 0 ∧ t.fld GLB_CLK_STS GLB_CLK_STS_FALLBACK = 1
      ∧ t.rdN GLB_SYNTH_LOL_CNT = min 0xFFFFFFFF (s.rdN GLB_SYNTH_LOL_CNT + 1)
      ∧ t.fld GLB_CLK_STS GLB_CLK_STS_REFCLK_OK = s.fld GLB_CLK_STS GLB_CLK_STS_REFCLK_OK
      ∧ t.fld GLB_CLK_STS GLB_CLK_STS_AUX_LOCK = s.fld GLB_CLK_STS GLB_CLK_STS_AUX_LOCK := by
  obtain ⟨u, hu⟩ : ∃ u, u = lockLost s := ⟨_, rfl⟩
  obtain ⟨hlock, hfall, href, haux, hcnt, huk⟩ := lockLost_spec s hu
  obtain ⟨v, hv⟩ : ∃ v, v = tb1Halt u := ⟨_, rfl⟩
  obtain ⟨hrun, hvk⟩ := tb1Halt_spec u hv
  have hvdev : v.dev ≠ dOFF := by
    rw [State.dev, fld_of_keeps hvk (by decide), fld_of_keeps huk (by decide)]
    exact hdev
  have heq : t = fatal E_FLT_SYNTH_LOCK islHub 0 v := by
    rw [ht, hv, hu]
    exact if_pos h
  obtain ⟨htdev, htsafe, htrd⟩ := fatal_spec hvdev (code := E_FLT_SYNTH_LOCK) (by decide) islHub 0
  rw [← heq] at htdev htsafe htrd
  have hclk (f : Fld) : t.fld GLB_CLK_STS f = u.fld GLB_CLK_STS f := by
    rw [State.fld, htrd _ calmReg_clkSts (by decide), rd_of_keeps hvk (by decide)]
    rfl
  refine ⟨htdev, htsafe, ?_, (hclk _).trans hlock, (hclk _).trans hfall, ?_, (hclk _).trans href, (hclk _).trans haux⟩
  · rw [State.tb1Run, State.fld, htrd _ calmReg_staySts (by decide)]
    exact hrun
  · rw [State.rdN, htrd _ calmReg_lolCnt (by decide), rd_of_keeps hvk (by decide)]
    exact hcnt

theorem refclkLost_spec (h : s.flag GLB_CLK_STS GLB_CLK_STS_SYNTH_LOCK = true) (hdev : s.dev ≠ dOFF) {t : State} (ht : t = refclkLost s) :
    t.dev = dSAFE ∧ t.fld GLB_STATE GLB_STATE_SAFE_STATUS = E_FLT_SYNTH_LOCK ∧ t.tb1Run = false
      ∧ t.fld GLB_CLK_STS GLB_CLK_STS_SYNTH_LOCK = 0 ∧ t.fld GLB_CLK_STS GLB_CLK_STS_FALLBACK = 1
      ∧ t.rdN GLB_SYNTH_LOL_CNT = min 0xFFFFFFFF (s.rdN GLB_SYNTH_LOL_CNT + 1)
      ∧ t.fld GLB_CLK_STS GLB_CLK_STS_REFCLK_OK = 0 ∧ t.fld GLB_CLK_STS GLB_CLK_STS_AUX_LOCK = 0 := by
  obtain ⟨u, hu⟩ : ∃ u, u = (s.setF GLB_CLK_STS GLB_CLK_STS_REFCLK_OK 0).setF GLB_CLK_STS GLB_CLK_STS_AUX_LOCK 0 := ⟨_, rfl⟩
  have huk : s.keeps u [GLB_CLK_STS] := by
    rw [hu]
    exact keeps_setF (keeps_setF (keeps_rfl s _) (by simp)) (by simp)
  have hlock : u.flag GLB_CLK_STS GLB_CLK_STS_SYNTH_LOCK = true := by
    rw [State.flag, hu, fld_setF_beside _ _ GLB_CLK_STS_AUX_LOCK GLB_CLK_STS_SYNTH_LOCK _ (by decide) (by decide) (by decide),
      fld_setF_beside _ _ GLB_CLK_STS_REFCLK_OK GLB_CLK_STS_SYNTH_LOCK _ (by decide) (by decide) (by decide)]
    exact h
  have href : u.fld GLB_CLK_STS GLB_CLK_STS_REFCLK_OK = 0 := by
    rw [hu, fld_setF_beside _ _ GLB_CLK_STS_AUX_LOCK GLB_CLK_STS_REFCLK_OK _ (by decide) (by decide) (by decide), fld_setF _ _ _ _ (by decide)]
    rfl
  have haux : u.fld GLB_CLK_STS GLB_CLK_STS_AUX_LOCK = 0 := by
    rw [hu, fld_setF _ _ _ _ (by decide)]
    rfl
  have hudev : u.dev ≠ dOFF := by
    rw [State.dev, fld_of_keeps huk (by decide)]
    exact hdev
  rw [Machine.refclkLost, ← hu] at ht
  obtain ⟨hdev', hsafe, hrun, hsl, hfb, hcnt, hro, hal⟩ := synthLost_spec hlock hudev ht
  rw [rdN_of_keeps huk (by decide)] at hcnt
  exact ⟨hdev', hsafe, hrun, hsl, hfb, hcnt, hro.trans href, hal.trans haux⟩

/-- A retry that finds lock. -/
theorem relockTry_finds (hdev : s.dev = dSAFE) (hfall : s.flag GLB_CLK_STS GLB_CLK_STS_FALLBACK = true)
    (hlock : s.flag GLB_CLK_STS GLB_CLK_STS_SYNTH_LOCK = false) (href : s.flag GLB_CLK_STS GLB_CLK_STS_REFCLK_OK = true)
    (hat : s.pwr.tryAt + 100000000 ≤ s.clock.now) :
    relockTry true s = ({ s with pwr := { s.pwr with tryAt := s.clock.now, lockAt := some s.clock.now } } : State).setF GLB_CLK_STS GLB_CLK_STS_SYNTH_LOCK 1 := by
  unfold Machine.relockTry
  exact (if_pos ⟨hdev, hfall, by simp [hlock], href, hat⟩).trans (if_pos rfl)

theorem lockHeld_of {l : Nat} (h : s.pwr.lockAt = some l) :
    lockHeld s = if l + 200000000 ≤ s.clock.now then s.setF GLB_CLK_STS GLB_CLK_STS_FALLBACK 0 else s := by
  unfold Machine.lockHeld
  rw [h]
  rfl

end

/-- Settles O52: each reset, supply and clock command by what it leaves. -/
theorem resetsSuppliesAndClocksAct : Obligations.ResetsSuppliesAndClocksAct := by
  unfold Obligations.ResetsSuppliesAndClocksAct
  refine ⟨fun s straps hnone hlt => ?_, fun s straps hsome => ?_, fun s i k hi hdev => ?_, fun s p hoff hp => ?_, fun s hsel => ?_,
    fun s => ⟨_, rfl, auxLoss_spec s rfl⟩, fun s i hi hlock hdev => ?_, fun s hdev hfall hlock href hat => ?_, fun s l hl hle => ?_,
    fun s l hl hlt => ?_, fun s hoff hgood htrip => ?_, fun s h => ?_, fun s v hopen hkey hv hnone => ?_, fun s v hopen h => ?_, fun s hdev => ?_⟩
  · refine ⟨({ s with pwr := { s.pwr with good := true, straps := some straps } } : State).setF GLB_BOOT_STS (1, 4) straps, ?_, rfl, rfl, ?_,
      keeps_setF (keeps_of_regs (keeps_rfl s _) rfl) (by simp), rfl⟩
    · show Host.Outcome.next (powerGood straps s) = _
      unfold Machine.powerGood
      dsimp only
      rw [hnone, Nat.mod_eq_of_lt hlt]
      rfl
    · exact (fld_setF _ _ _ _ (by decide)).trans (Nat.mod_eq_of_lt hlt)
  · refine ⟨_, ?_, rfl⟩
    show Host.Outcome.next (powerGood straps s) = _
    unfold Machine.powerGood
    obtain ⟨v, hv⟩ := Option.ne_none_iff_exists'.1 hsome
    dsimp only
    rw [hv]
  · simp only [List.mem_cons, Prod.mk.injEq, List.not_mem_nil, or_false] at hi
    rcases hi with ⟨rfl, rfl⟩ | ⟨rfl, rfl⟩
    · obtain ⟨d, hd⟩ : ∃ d, d = deviceReset 1 s := ⟨_, rfl⟩
      obtain ⟨hreset, _⟩ := deviceReset_spec (by decide) s hd
      obtain ⟨htrip, htripped, hboot, hstraps, hgood⟩ := deviceReset_keeps (by decide) s hd
      refine ⟨d, ?_, hreset, htrip, htripped, hboot, hstraps, hgood.trans (if_neg (by simp)).symm⟩
      rw [hd]
      exact congrArg Host.Outcome.next ((if_neg (by simp)).trans (if_neg hdev))
    · obtain ⟨d, hd⟩ : ∃ d, d = deviceReset s.lastReset s := ⟨_, rfl⟩
      obtain ⟨hreset, _⟩ := deviceReset_spec (lastReset_lt s) s hd
      obtain ⟨htrip, htripped, hboot, hstraps, _⟩ := deviceReset_keeps (lastReset_lt s) s hd
      refine ⟨{ d with pwr := { d.pwr with good := false } }, ?_, resetBy_withPwr hreset _, htrip, htripped, hboot, hstraps, (if_pos rfl).symm⟩
      show Host.Outcome.next (railLoss s) = _
      unfold Machine.railLoss
      rw [if_neg hdev, ← hd]
  · refine congrArg Host.Outcome.next ((if_neg fun h => ?_).trans (if_pos hoff))
    rw [hp h.1] at h
    exact Bool.false_ne_true h.2
  · exact congrArg Host.Outcome.next (if_pos ⟨rfl, hsel⟩)
  · simp only [List.mem_cons, List.not_mem_nil, or_false] at hi
    rcases hi with rfl | rfl
    · obtain ⟨hsafe, hcode, hrun, hsl, hfb, hcnt, _, _⟩ := synthLost_spec hlock hdev rfl
      exact ⟨_, rfl, hsafe, hcode, hrun, hsl, hfb, hcnt, fun h => by cases h⟩
    · obtain ⟨hsafe, hcode, hrun, hsl, hfb, hcnt, href, haux⟩ := refclkLost_spec hlock hdev rfl
      exact ⟨_, rfl, hsafe, hcode, hrun, hsl, hfb, hcnt, fun _ => ⟨href, haux⟩⟩
  · exact ⟨_, congrArg Host.Outcome.next (relockTry_finds hdev hfall hlock href hat), fld_setF _ _ GLB_CLK_STS_SYNTH_LOCK _ (by decide), rfl,
      keeps_setF (keeps_of_regs (keeps_rfl s _) rfl) (by simp), rfl⟩
  · exact ⟨_, congrArg Host.Outcome.next ((lockHeld_of hl).trans (if_pos hle)), fld_setF _ _ GLB_CLK_STS_FALLBACK _ (by decide), onlyRegs_setF ..⟩
  · exact congrArg Host.Outcome.next ((lockHeld_of hl).trans (if_neg (by omega)))
  · exact ⟨_, congrArg Host.Outcome.next (if_pos ⟨hoff, hgood, by simp [htrip]⟩), dev_setDev _ _, rfl, rfl,
      keeps_setF (keeps_of_regs (keeps_rfl s _) rfl) (by simp), rfl⟩
  · refine congrArg Host.Outcome.next (if_neg fun hc => ?_)
    obtain ⟨hoff, hgood, htrip⟩ := hc
    rcases h with h | h | h
    · exact h hoff
    · rw [h] at hgood
      exact Bool.false_ne_true hgood
    · exact htrip h
  · exact ⟨_, next_hostWr hopen (if_pos ⟨hkey, hv, hnone⟩), rfl⟩
  · refine next_hostWr hopen (if_neg fun hc => ?_)
    obtain ⟨hkey, hv, hnone⟩ := hc
    rcases h with h | h | h
    · exact h hkey
    · exact h hv
    · exact h hnone
  · refine ⟨_, congrArg Host.Outcome.next (if_neg hdev), ?_, fld_setF _ _ GLB_CLK_STS_AUX_LOCK _ (by decide),
      onlyRegs_andWr (onlyRegs_setF ..) (by simp)⟩
    exact (fld_setF_beside _ _ GLB_CLK_STS_AUX_LOCK GLB_CLK_STS_REFCLK_OK _ (by decide) (by decide) (by decide)).trans
      (fld_setF _ _ GLB_CLK_STS_REFCLK_OK _ (by decide))

end Sys2Proof.Laws
end

section
namespace Sys2Proof.Laws
open Sys2Proof.Machine

-- One theorem after another: a thread for each of them passes the memory limit of the check.
set_option Elab.async false

section
variable {s t u : State} {i j z n m a : Nat} {v T : Int} {xs : List Int}

/-! ### Temperatures as registers show them -/

theorem sgn16_unsgn16 (hlo : -32768 ≤ T) (hhi : T < 32768) : sgn 16 (unsgn 16 T) = T := by
  unfold sgn unsgn
  norm_num
  split <;> omega

theorem sgn16_bounds (n : Nat) : -32768 ≤ sgn 16 n ∧ sgn 16 n < 32768 := by
  unfold sgn
  norm_num
  split <;> omega

/-- A temperature written to a field of 16 bits. -/
theorem sgn_setF (s : State) (a : Nat) (hlo : -32768 ≤ T) (hhi : T < 32768) : sgn 16 ((s.setF a (0, 16) (unsgn 16 T)).fld a (0, 16)) = T := by
  rw [fld_setF _ _ _ _ (by decide)]
  exact (sgn_mod 16 _).trans (sgn16_unsgn16 hlo hhi)

theorem sensT_bounds (s : State) (i : Nat) : -32768 ≤ s.sensT i ∧ s.sensT i < 32768 := sgn16_bounds _

/-- The two sensors of a zone. -/
theorem zone_pair (i : Nat) : (i = 2 * (i / 2) ∧ 4 * (i / 2) + 1 - i = 2 * (i / 2) + 1) ∨ (i = 2 * (i / 2) + 1 ∧ 4 * (i / 2) + 1 - i = 2 * (i / 2)) := by
  omega

theorem foldl_add_bounds (hxs : ∀ x ∈ xs, -2560 ≤ x ∧ x ≤ 9600) (c : Int) :
    c - 2560 * xs.length ≤ xs.foldl (· + ·) c ∧ xs.foldl (· + ·) c ≤ c + 9600 * xs.length := by
  induction xs generalizing c with
  | nil => simp
  | cons x xs ih =>
    obtain ⟨hlo, hhi⟩ := hxs x List.mem_cons_self
    obtain ⟨h1, h2⟩ := ih (fun y hy => hxs y (List.mem_cons_of_mem _ hy)) (c + x)
    rw [List.foldl_cons, List.length_cons]
    push_cast
    omega

/-- A mean lies between the values. -/
theorem meanT_bounds (hne : xs ≠ []) (hxs : ∀ x ∈ xs, -2560 ≤ x ∧ x ≤ 9600) : -2560 ≤ meanT xs ∧ meanT xs ≤ 9600 := by
  have hlen : (0 : Int) < xs.length := by exact_mod_cast List.length_pos_iff.2 hne
  obtain ⟨h1, h2⟩ := foldl_add_bounds hxs 0
  rw [meanT, if_neg hne]
  exact ⟨Int.le_ediv_of_mul_le hlen (by omega), Int.ediv_le_of_le_mul hlen (by omega)⟩

/-- Conversions that pass their checks lie in the range of a sensor (R563). -/
theorem bounds_of_convOk (h : convOk xs = true) : ∀ x ∈ xs, -2560 ≤ x ∧ x ≤ 9600 := by
  induction xs with
  | nil => exact fun x hx => absurd hx List.not_mem_nil
  | cons x xs ih =>
    cases xs with
    | nil =>
      simp only [convOk, deg, Bool.and_eq_true] at h
      have hlo := of_decide_eq_true h.1
      have hhi := of_decide_eq_true h.2
      intro y hy
      rw [List.mem_singleton.1 hy]
      omega
    | cons y ys =>
      simp only [convOk, deg, Bool.and_eq_true] at h
      obtain ⟨⟨⟨hlo, hhi⟩, _⟩, hrest⟩ := h
      have hlo := of_decide_eq_true hlo
      have hhi := of_decide_eq_true hhi
      intro w hw
      obtain rfl | hw := List.mem_cons.1 hw
      · omega
      · exact ih hrest w hw

/-- A conversion out of range fails its check. -/
theorem convOk_of_outside (h : v < -2560 ∨ 9600 < v) (xs : List Int) : convOk (v :: xs) = false := by
  have hnot : ¬ (deg (-40) ≤ v ∧ v ≤ deg 150) := by
    unfold deg
    omega
  cases xs with
  | nil => rw [convOk, ← Bool.decide_and, decide_eq_false hnot]
  | cons y ys => rw [convOk, ← Bool.decide_and, decide_eq_false hnot, Bool.false_and, Bool.false_and]

/-! ### Registers of sensors and zones -/

theorem sens_ne_zone (hi : i < 48) (z : Nat) : REEF_SENS i ≠ REEF_ZONE z := by unfold REEF_SENS REEF_ZONE; omega
theorem sens_ne_sts (i : Nat) : REEF_SENS i ≠ REEF_STS := by unfold REEF_SENS REEF_STS; omega
theorem sens_ne_peak (i : Nat) : REEF_SENS i ≠ REEF_PEAK := by unfold REEF_SENS REEF_PEAK; omega
theorem zone_ne_sts (z : Nat) : REEF_ZONE z ≠ REEF_STS := by unfold REEF_ZONE REEF_STS; omega
theorem zone_ne_peak (z : Nat) : REEF_ZONE z ≠ REEF_PEAK := by unfold REEF_ZONE REEF_PEAK; omega
theorem sens_ne (h : j ≠ i) : REEF_SENS j ≠ REEF_SENS i := by unfold REEF_SENS; omega

theorem sensT_of_keeps {as : List Nat} (h : s.keeps t as) (ha : REEF_SENS i ∉ as) : t.sensT i = s.sensT i := by
  rw [State.sensT, State.sensT, fld_of_keeps h ha]

theorem sensBad_of_keeps {as : List Nat} (h : s.keeps t as) (ha : REEF_SENS i ∉ as) : t.sensBad i = s.sensBad i := by
  rw [State.sensBad, State.sensBad, State.flag, State.flag, fld_of_keeps h ha]

/-! ### A zone follows its sensors (R564, R574) -/

/-- Of Reef's own state only the time since which it is cool. -/
theorem coolRefresh_spec (s : State) {u : State} (hu : u = coolRefresh s) :
    u.regs = s.regs ∧ u.bus = s.bus ∧ { u with reef := s.reef } = s ∧ { u.reef with cool := s.reef.cool } = s.reef := by
  subst hu
  unfold Machine.coolRefresh
  split
  · split
    · exact ⟨rfl, rfl, rfl, rfl⟩
    · exact ⟨rfl, rfl, rfl, rfl⟩
  · exact ⟨rfl, rfl, rfl, rfl⟩

/-- Temperature and peak of a zone. -/
def zoneTemp (z : Nat) (T : Int) (s : State) : State :=
  let s := s.setF (REEF_ZONE z) REEF_ZONE_TEMP (unsgn 16 T)
  if sgn 16 (s.fld REEF_PEAK REEF_PEAK_TEMP) < T then s.setF REEF_PEAK REEF_PEAK_TEMP (unsgn 16 T) else s

/-- DISAGREE, with its report when it is new. -/
def zoneDisagree (z : Nat) (dis new : Bool) (s : State) : State :=
  let s := if dis then (s.setF (REEF_ZONE z) REEF_ZONE_DISAGREE 1).setF REEF_STS REEF_STS_DISAGREE 1 else s
  if new then s.report E_REEF_SENS_DISAGREE islHub z else s

/-- Do the sensors of a zone disagree? -/
def State.zoneDis (s : State) (z : Nat) : Bool :=
  (!s.sensBad (2 * z) && !s.sensBad (2 * z + 1)) && decide (8 * 64 < (s.sensT (2 * z) - s.sensT (2 * z + 1)).natAbs)

theorem zoneRefresh_of_found (h : (s.sensBad (2 * z) && s.sensBad (2 * z + 1)) = false) :
    zoneRefresh z s = coolRefresh ((zoneDisagree z (State.zoneDis s z) (State.zoneDis s z && !s.flag (REEF_ZONE z) REEF_ZONE_DISAGREE)
      (zoneTemp z (max (s.sensT (2 * z)) (s.sensT (2 * z + 1))) s)).setF (REEF_ZONE z) REEF_ZONE_LOST 0) := by
  unfold Machine.zoneRefresh
  dsimp only
  rw [h, if_neg (fun h => Bool.false_ne_true h.1)]
  rfl

theorem zoneTemp_spec (z : Nat) (hlo : -32768 ≤ T) (hhi : T < 32768) (s : State) {u : State} (hu : u = zoneTemp z T s) :
    u.zoneT z = T ∧ s.onlyRegs u [REEF_ZONE z, REEF_PEAK] := by
  obtain ⟨v, hv⟩ : ∃ v, v = s.setF (REEF_ZONE z) REEF_ZONE_TEMP (unsgn 16 T) := ⟨_, rfl⟩
  have hvT : v.zoneT z = T := by
    rw [hv]
    exact sgn_setF s _ hlo hhi
  have hvk : s.onlyRegs v [REEF_ZONE z, REEF_PEAK] := by
    rw [hv]
    exact onlyRegs_andWr (onlyRegs_rfl s _) (by simp)
  unfold zoneTemp at hu
  dsimp only at hu
  rw [← hv] at hu
  split at hu
  · subst hu
    refine ⟨?_, onlyRegs_andWr hvk (by simp)⟩
    rw [State.zoneT, fld_setF_ne _ _ _ _ _ _ (zone_ne_peak z)]
    exact hvT
  · subst hu
    exact ⟨hvT, hvk⟩

theorem zoneDisagree_spec (z : Nat) (dis new : Bool) (s : State) {u : State} (hu : u = zoneDisagree z dis new s) :
    u.zoneT z = s.zoneT z ∧ (dis = true → u.flag (REEF_ZONE z) REEF_ZONE_DISAGREE = true) ∧ s.keeps u [REEF_ZONE z, REEF_STS]
      ∧ (∀ f : Fld, f.1 + f.2 ≤ 64 → 2 ≤ f.1 → u.fld REEF_STS f = s.fld REEF_STS f) ∧ u.reef = s.reef ∧ (new = false → u.bus = s.bus)
      ∧ { u with regs := s.regs, bus := s.bus } = s := by
  obtain ⟨v, hv⟩ : ∃ v, v = if dis then (s.setF (REEF_ZONE z) REEF_ZONE_DISAGREE 1).setF REEF_STS REEF_STS_DISAGREE 1 else s := ⟨_, rfl⟩
  have hvspec : v.zoneT z = s.zoneT z ∧ (dis = true → v.flag (REEF_ZONE z) REEF_ZONE_DISAGREE = true) ∧ s.keeps v [REEF_ZONE z, REEF_STS]
      ∧ (∀ f : Fld, f.1 + f.2 ≤ 64 → 2 ≤ f.1 → v.fld REEF_STS f = s.fld REEF_STS f) ∧ { v with regs := s.regs } = s := by
    cases dis
    · rw [if_neg Bool.false_ne_true] at hv
      rw [hv]
      exact ⟨rfl, fun h => absurd h Bool.false_ne_true, keeps_rfl s _, fun _ _ _ => rfl, rfl⟩
    · rw [if_pos rfl] at hv
      rw [hv]
      refine ⟨?_, fun _ => ?_, keeps_setF (keeps_setF (keeps_rfl s _) (by simp)) (by simp), fun f hf h => ?_, rfl⟩
      · rw [State.zoneT, fld_setF_ne _ _ _ _ _ _ (zone_ne_sts z),
          fld_setF_beside _ _ REEF_ZONE_DISAGREE REEF_ZONE_TEMP _ (by decide) (by decide) (by decide)]
        rfl
      · rw [State.flag, fld_setF_ne _ _ _ _ _ _ (zone_ne_sts z), fld_setF _ _ _ _ (by decide)]
        rfl
      · rw [fld_setF_beside _ _ REEF_STS_DISAGREE f _ (by decide) hf (.inl h), fld_setF_ne _ _ _ _ _ _ (zone_ne_sts z).symm]
  obtain ⟨hT, hdis, hk, hsts, hrest⟩ := hvspec
  have hreef : v.reef = s.reef := (congrArg State.reef hrest :)
  have hbus : v.bus = s.bus := (congrArg State.bus hrest :)
  unfold zoneDisagree at hu
  dsimp only at hu
  rw [← hv] at hu
  cases new
  · rw [if_neg Bool.false_ne_true] at hu
    subst hu
    exact ⟨hT, hdis, hk, hsts, hreef, fun _ => hbus, (congrArg (fun x : State => { x with bus := s.bus }) hrest :)⟩
  · rw [if_pos rfl] at hu
    subst hu
    exact ⟨hT, hdis, keeps_of_regs hk rfl, hsts, hreef, fun h => by simp at h, (congrArg (fun x : State => { x with bus := s.bus }) hrest :)⟩

/-- A zone with a sensor that works. -/
theorem zoneRefresh_spec (hfound : (s.sensBad (2 * z) && s.sensBad (2 * z + 1)) = false) {u : State} (hu : u = zoneRefresh z s) :
    u.zoneT z = max (s.sensT (2 * z)) (s.sensT (2 * z + 1)) ∧ u.flag (REEF_ZONE z) REEF_ZONE_LOST = false
      ∧ (State.zoneDis s z = true → u.flag (REEF_ZONE z) REEF_ZONE_DISAGREE = true) ∧ s.keeps u [REEF_ZONE z, REEF_PEAK, REEF_STS]
      ∧ (∀ f : Fld, f.1 + f.2 ≤ 64 → 2 ≤ f.1 → u.fld REEF_STS f = s.fld REEF_STS f) ∧ { u.reef with cool := s.reef.cool } = s.reef
      ∧ (State.zoneDis s z = false → u.bus = s.bus) ∧ { u with regs := s.regs, reef := s.reef, bus := s.bus } = s := by
  rw [zoneRefresh_of_found hfound] at hu
  obtain ⟨v, hv⟩ : ∃ v, v = zoneTemp z (max (s.sensT (2 * z)) (s.sensT (2 * z + 1))) s := ⟨_, rfl⟩
  have hb1 := sensT_bounds s (2 * z)
  have hb2 := sensT_bounds s (2 * z + 1)
  obtain ⟨hvT, hvonly⟩ := zoneTemp_spec z (by omega) (by omega) s hv
  obtain ⟨w, hw⟩ : ∃ w, w = zoneDisagree z (State.zoneDis s z) (State.zoneDis s z && !s.flag (REEF_ZONE z) REEF_ZONE_DISAGREE) v := ⟨_, rfl⟩
  obtain ⟨hwT, hwdis, hwk, hwsts, hwreef, hwbus, hwrest⟩ := zoneDisagree_spec z _ _ v hw
  rw [← hv, ← hw] at hu
  obtain ⟨x, hx⟩ : ∃ x, x = w.setF (REEF_ZONE z) REEF_ZONE_LOST 0 := ⟨_, rfl⟩
  have hxonly : w.onlyRegs x [REEF_ZONE z] := by rw [hx]; exact onlyRegs_setF ..
  have hxe := eq_of_onlyRegs hxonly
  rw [← hx] at hu
  obtain ⟨huregs, hubus, hurest, hucool⟩ := coolRefresh_spec x hu
  have hrd (a : Nat) : u.rd a = x.rd a := by rw [State.rd, State.rd, huregs]
  have hfld (a : Nat) (f : Fld) : u.fld a f = x.fld a f := by rw [State.fld, State.fld, hrd]
  have hxreef : x.reef = s.reef := ((congrArg State.reef hxe :)).trans (hwreef.trans (congrArg State.reef (eq_of_onlyRegs hvonly) :))
  refine ⟨?_, ?_, fun h => ?_, ?_, fun f hf h => ?_, ?_, fun h => ?_, ?_⟩
  · rw [State.zoneT, hfld, hx, fld_setF_beside _ _ REEF_ZONE_LOST REEF_ZONE_TEMP _ (by decide) (by decide) (by decide)]
    exact hwT.trans hvT
  · rw [State.flag, hfld, hx, fld_setF _ _ _ _ (by decide)]
    rfl
  · rw [State.flag, hfld, hx, fld_setF_beside _ _ REEF_ZONE_LOST REEF_ZONE_DISAGREE _ (by decide) (by decide) (by decide)]
    exact hwdis h
  · refine keeps_of_regs (keeps_trans (keeps_trans hvonly.2 hwk (cs := [REEF_ZONE z, REEF_PEAK, REEF_STS]) (by simp) (by simp)) hxonly.2 (by simp) (by simp)) huregs
  · rw [hfld, fld_of_keeps hxonly.2 (by simpa using (zone_ne_sts z).symm), hwsts f hf h, fld_of_keeps hvonly.2]
    simpa using ⟨(zone_ne_sts z).symm, by decide⟩
  · rw [hxreef] at hucool
    exact hucool
  · have hvbus : v.bus = s.bus := (congrArg State.bus (eq_of_onlyRegs hvonly) :)
    have hxbus : x.bus = w.bus := (congrArg State.bus hxe :)
    rw [hubus, hxbus, hwbus (by rw [h, Bool.false_and]), hvbus]
  · calc { u with regs := s.regs, reef := s.reef, bus := s.bus }
        = { x with regs := s.regs, reef := s.reef, bus := s.bus } := (congrArg (fun y : State => { y with regs := s.regs, reef := s.reef, bus := s.bus }) hurest :)
      _ = { w with regs := s.regs, reef := s.reef, bus := s.bus } := (congrArg (fun y : State => { y with regs := s.regs, reef := s.reef, bus := s.bus }) hxe :)
      _ = { v with regs := s.regs, reef := s.reef, bus := s.bus } := (congrArg (fun y : State => { y with regs := s.regs, reef := s.reef, bus := s.bus }) hwrest :)
      _ = s := (congrArg (fun y : State => { y with regs := s.regs, reef := s.reef, bus := s.bus }) (eq_of_onlyRegs hvonly) :)

/-- The same told of a sensor and the other one of its zone. -/
theorem zoneRefresh_of_pair (hj : j = 4 * (i / 2) + 1 - i) (hfound : s.sensBad i = false ∨ s.sensBad j = false) {u : State} (hu : u = zoneRefresh (i / 2) s) :
    u.zoneT (i / 2) = max (s.sensT i) (s.sensT j) ∧ u.flag (REEF_ZONE (i / 2)) REEF_ZONE_LOST = false
      ∧ (s.sensBad i = false → s.sensBad j = false → 512 < (s.sensT i - s.sensT j).natAbs → u.flag (REEF_ZONE (i / 2)) REEF_ZONE_DISAGREE = true)
      ∧ s.keeps u [REEF_ZONE (i / 2), REEF_PEAK, REEF_STS]
      ∧ (∀ f : Fld, f.1 + f.2 ≤ 64 → 2 ≤ f.1 → u.fld REEF_STS f = s.fld REEF_STS f) ∧ { u.reef with cool := s.reef.cool } = s.reef
      ∧ (s.sensBad i = true → u.bus = s.bus) ∧ { u with regs := s.regs, reef := s.reef, bus := s.bus } = s := by
  obtain ⟨h1, h2⟩ | ⟨h1, h2⟩ := zone_pair i
  · rw [← hj] at h2
    have hf : (s.sensBad (2 * (i / 2)) && s.sensBad (2 * (i / 2) + 1)) = false := by
      rw [← h2, ← h1, Bool.and_eq_false_iff]
      exact hfound
    obtain ⟨hT, hlost, hdis, hk, hsts, hcool, hbus, hrest⟩ := zoneRefresh_spec hf hu
    rw [State.zoneDis, ← h2, ← h1] at hdis hbus
    rw [← h2, ← h1] at hT
    exact ⟨hT, hlost, fun hi hj h => hdis (by simp [hi, hj, h]), hk, hsts, hcool, fun h => hbus (by simp [h]), hrest⟩
  · rw [← hj] at h2
    have hf : (s.sensBad (2 * (i / 2)) && s.sensBad (2 * (i / 2) + 1)) = false := by
      rw [← h1, ← h2, Bool.and_eq_false_iff]
      exact hfound.symm
    obtain ⟨hT, hlost, hdis, hk, hsts, hcool, hbus, hrest⟩ := zoneRefresh_spec hf hu
    rw [State.zoneDis, ← h1, ← h2] at hdis hbus
    rw [← h1, ← h2] at hT
    refine ⟨hT.trans (max_comm _ _), hlost, fun hi hj h => hdis ?_, hk, hsts, hcool, fun h => hbus (by simp [h]), hrest⟩
    rw [hi, hj, decide_eq_true (by omega)]
    rfl

/-! ### A sensor converts, fails and is tested (R562, R563, R565) -/

theorem setTemp_spec (i : Nat) (hlo : -32768 ≤ T) (hhi : T < 32768) (s : State) :
    (setTemp i T s).sensT i = T ∧ (setTemp i T s).sensBad i = s.sensBad i ∧ s.onlyRegs (setTemp i T s) [REEF_SENS i] := by
  refine ⟨sgn_setF s _ hlo hhi, ?_, onlyRegs_setF ..⟩
  exact congrArg (· == 1) (fld_setF_beside _ _ REEF_SENS_TEMP REEF_SENS_FAILED _ (by decide) (by decide) (by decide))

/-- The other sensor of the zone. -/
theorem other_ne (hi : i < 48) (hj : j = 4 * (i / 2) + 1 - i) : j ≠ i ∧ j < 48 := by omega

theorem sens_notMem (hi : i < 48) (z : Nat) : REEF_SENS i ∉ [REEF_ZONE z, REEF_PEAK, REEF_STS] := by
  simpa using ⟨sens_ne_zone hi z, sens_ne_peak i, sens_ne_sts i⟩

/-- SENS_FAIL follows the sensors. -/
theorem sensFail_spec (s : State) {u : State} (hu : u = sensFail s) :
    ((∃ i < 48, s.sensBad i = true) → u.fld REEF_STS REEF_STS_SENS_FAIL = 1) ∧ s.onlyRegs u [REEF_STS]
      ∧ u.fld REEF_STS REEF_STS_STATUS = s.fld REEF_STS REEF_STS_STATUS := by
  subst hu
  refine ⟨fun ⟨i, hi, hbad⟩ => ?_, onlyRegs_setF .., fld_setF_beside _ _ REEF_STS_SENS_FAIL REEF_STS_STATUS _ (by decide) (by decide) (by decide)⟩
  have hany : ((List.range 48).any fun i => s.sensBad i) = true := List.any_eq_true.2 ⟨i, List.mem_range.2 hi, hbad⟩
  unfold Machine.sensFail
  rw [hany, fld_setF _ _ _ _ (by decide)]
  rfl

/-- A sensor fails, the other of its zone works. -/
theorem sensFails_spec (hi : i < 48) (hother : s.sensBad (4 * (i / 2) + 1 - i) = false) {u : State} (hu : u = sensFails i s) :
    u.sensBad i = true ∧ u.sensT i = 6848 ∧ u.fld REEF_STS REEF_STS_SENS_FAIL = 1
      ∧ u.fld REEF_STS REEF_STS_STATUS = s.fld REEF_STS REEF_STS_STATUS
      ∧ u.bus = { s.bus with reports := s.bus.reports ++ [⟨E_REEF_SENS_FAIL, false, 0x40, i⟩] }
      ∧ s.keeps u [REEF_SENS i, REEF_ZONE (i / 2), REEF_PEAK, REEF_STS] ∧ { u with regs := s.regs, reef := s.reef, bus := s.bus } = s := by
  obtain ⟨j, hj⟩ : ∃ j, j = 4 * (i / 2) + 1 - i := ⟨_, rfl⟩
  rw [← hj] at hother
  obtain ⟨hji, hj48⟩ := other_ne hi hj
  obtain ⟨c, hc⟩ : ∃ c : State, c = { s with reef := { s.reef with conv := tput s.reef.conv i [] } } := ⟨_, rfl⟩
  have hcspec : c.regs = s.regs ∧ c.bus = s.bus ∧ { c with reef := s.reef } = s := by
    rw [hc]
    exact ⟨rfl, rfl, rfl⟩
  obtain ⟨hcregs, hcbus, hcrest⟩ := hcspec
  obtain ⟨f, hf⟩ : ∃ f, f = c.setF (REEF_SENS i) REEF_SENS_FAILED 1 := ⟨_, rfl⟩
  have hfbad : f.sensBad i = true := by
    rw [hf, State.sensBad]
    exact flag_setF_same _ _ _ _ (by decide) (by decide)
  have hfonly : c.onlyRegs f [REEF_SENS i] := by rw [hf]; exact onlyRegs_setF ..
  obtain ⟨g, hg⟩ : ∃ g, g = setTemp i (deg 107) f := ⟨_, rfl⟩
  obtain ⟨hgT, hgbad, hgonly⟩ := setTemp_spec i (T := deg 107) (by decide) (by decide) f
  rw [← hg] at hgT hgbad hgonly
  obtain ⟨k, hk⟩ : ∃ k, k = sensFail g := ⟨_, rfl⟩
  obtain ⟨hkfail, hkonly, hkstatus⟩ := sensFail_spec g hk
  obtain ⟨r, hr⟩ : ∃ r, r = k.report E_REEF_SENS_FAIL islHub i := ⟨_, rfl⟩
  have hrspec : r.regs = k.regs ∧ r.bus = { k.bus with reports := k.bus.reports ++ [⟨E_REEF_SENS_FAIL, false, 0x40, i⟩] } ∧ { r with bus := k.bus } = k := by
    rw [hr]
    exact ⟨rfl, rfl, rfl⟩
  obtain ⟨hrregs, hrbus, hrrest⟩ := hrspec
  have hck : s.keeps r [REEF_SENS i, REEF_STS] :=
    keeps_of_regs (keeps_trans (keeps_trans (keeps_trans (keeps_of_regs (keeps_rfl s []) hcregs) hfonly.2 (cs := [REEF_SENS i, REEF_STS]) (by simp) (by simp))
      hgonly.2 (cs := [REEF_SENS i, REEF_STS]) (by simp) (by simp)) hkonly.2 (by simp) (by simp)) hrregs
  have hgr : g.keeps r [REEF_STS] := keeps_of_regs hkonly.2 hrregs
  have hsens : REEF_SENS i ∉ [REEF_STS] := by simpa using sens_ne_sts i
  have hrbad : r.sensBad i = true := (sensBad_of_keeps hgr hsens).trans (hgbad.trans hfbad)
  have hrother : r.sensBad j = false := by
    rw [sensBad_of_keeps hck (by simpa using ⟨sens_ne hji, sens_ne_sts j⟩)]
    exact hother
  have huz : u = zoneRefresh (i / 2) r := by rw [hu, hr, hk, hg, hf, hc]; rfl
  obtain ⟨_, _, _, huk, husts, _, hubus, hurest⟩ := zoneRefresh_of_pair hj (.inr hrother) huz
  have hkfail' : k.fld REEF_STS REEF_STS_SENS_FAIL = 1 := hkfail ⟨i, hi, hgbad.trans hfbad⟩
  have hrfld (f : Fld) : r.fld REEF_STS f = k.fld REEF_STS f := by rw [State.fld, State.fld, State.rd, State.rd, hrregs]
  have hcstatus : g.fld REEF_STS REEF_STS_STATUS = s.fld REEF_STS REEF_STS_STATUS := by
    rw [fld_of_keeps hgonly.2 (by simpa using (sens_ne_sts i).symm), fld_of_keeps hfonly.2 (by simpa using (sens_ne_sts i).symm),
      State.fld, State.fld, State.rd, State.rd, hcregs]
  have hkbus : k.bus = s.bus := by
    have h1 : k.bus = g.bus := (congrArg State.bus (eq_of_onlyRegs hkonly) :)
    have h2 : g.bus = f.bus := (congrArg State.bus (eq_of_onlyRegs hgonly) :)
    have h3 : f.bus = c.bus := (congrArg State.bus (eq_of_onlyRegs hfonly) :)
    rw [h1, h2, h3, hcbus]
  refine ⟨(sensBad_of_keeps huk (sens_notMem hi _)).trans hrbad, ?_, ?_, ?_, ?_, ?_, ?_⟩
  · rw [sensT_of_keeps huk (sens_notMem hi _), sensT_of_keeps hgr hsens, hgT]
    rfl
  · rw [husts _ (by decide) (by decide), hrfld, hkfail']
  · rw [husts _ (by decide) (by decide), hrfld, hkstatus, hcstatus]
  · rw [hubus hrbad, hrbus, hkbus]
  · exact keeps_trans hck huk (by simp) (by simp)
  · calc { u with regs := s.regs, reef := s.reef, bus := s.bus }
        = { r with regs := s.regs, reef := s.reef, bus := s.bus } := (congrArg (fun y : State => { y with regs := s.regs, reef := s.reef, bus := s.bus }) hurest :)
      _ = { k with regs := s.regs, reef := s.reef, bus := s.bus } := (congrArg (fun y : State => { y with regs := s.regs, reef := s.reef, bus := s.bus }) hrrest :)
      _ = { g with regs := s.regs, reef := s.reef, bus := s.bus } :=
        (congrArg (fun y : State => { y with regs := s.regs, reef := s.reef, bus := s.bus }) (eq_of_onlyRegs hkonly) :)
      _ = { f with regs := s.regs, reef := s.reef, bus := s.bus } :=
        (congrArg (fun y : State => { y with regs := s.regs, reef := s.reef, bus := s.bus }) (eq_of_onlyRegs hgonly) :)
      _ = { c with regs := s.regs, reef := s.reef, bus := s.bus } :=
        (congrArg (fun y : State => { y with regs := s.regs, reef := s.reef, bus := s.bus }) (eq_of_onlyRegs hfonly) :)
      _ = s := (congrArg (fun y : State => { y with regs := s.regs, bus := s.bus }) hcrest :)

/-- A conversion taken into the sensor's mean. -/
def converted (i : Nat) (xs : List Int) (s : State) : State :=
  setTemp i (meanT (xs.take 10)) { s with reef := { s.reef with conv := tput s.reef.conv i (xs.take 10) } }

theorem converted_spec (hm1 : -2560 ≤ meanT (xs.take 10)) (hm2 : meanT (xs.take 10) ≤ 9600) (i : Nat) (s : State) {u : State} (hu : u = converted i xs s) :
    u.sensT i = meanT (xs.take 10) ∧ u.sensBad i = s.sensBad i ∧ tget u.reef.conv i = xs.take 10 ∧ s.keeps u [REEF_SENS i]
      ∧ { u with regs := s.regs, reef := s.reef } = s := by
  obtain ⟨c, hc⟩ : ∃ c : State, c = { s with reef := { s.reef with conv := tput s.reef.conv i (xs.take 10) } } := ⟨_, rfl⟩
  have hcspec : c.regs = s.regs ∧ tget c.reef.conv i = xs.take 10 ∧ { c with reef := s.reef } = s := by
    rw [hc]
    exact ⟨rfl, tget_tput_same .., rfl⟩
  obtain ⟨hcregs, hcconv, hcrest⟩ := hcspec
  rw [converted, ← hc] at hu
  obtain ⟨hT, hbad, honly⟩ := setTemp_spec i (T := meanT (xs.take 10)) (by omega) (by omega) c
  rw [← hu] at hT hbad honly
  have hreef : u.reef = c.reef := (congrArg State.reef (eq_of_onlyRegs honly) :)
  refine ⟨hT, hbad.trans ?_, by rw [hreef, hcconv], keeps_trans (keeps_of_regs (keeps_rfl s []) hcregs) honly.2 (by simp) (by simp), ?_⟩
  · rw [State.sensBad, State.sensBad, State.flag, State.flag, State.fld, State.fld, State.rd, State.rd, hcregs]
  · exact (congrArg (fun y : State => { y with regs := s.regs, reef := s.reef }) (eq_of_onlyRegs honly) :).trans
      (congrArg (fun y : State => { y with regs := s.regs }) hcrest :)

/-- A conversion that passes its checks, out of OFF. -/
theorem sensorConv_passed (hi : i < 48) (hoff : s.dev ≠ dOFF) (hbad : s.sensBad i = false) (hxs : xs = v :: tget s.reef.conv i)
    (hok : convOk (xs.take 2) = true) {u : State} (hu : u = zoneRefresh (i / 2) (converted i xs s)) :
    sensorConv i v s = if deg 111 ≤ meanT (xs.take 10) ∧ ¬ (u.dev == dSAFE && u.fld GLB_STATE GLB_STATE_SAFE_STATUS == E_REEF_OVERTEMP) = true then
      fatal E_REEF_OVERTEMP islHub i u else u := by
  have hok' : convOk (v :: (tget s.reef.conv i).take 1) = true := by
    rw [hxs, List.take_succ_cons] at hok
    exact hok
  have hdev : (converted i xs s).dev ≠ dOFF := by
    rw [State.dev]
    exact (fld_setF_ne _ _ _ _ _ _ (by unfold GLB_STATE REEF_SENS; omega)).trans_ne hoff
  have hu' : u = zoneRefresh (i / 2) (setTemp i (meanT ((v :: tget s.reef.conv i).take 10))
      { s with reef := { s.reef with conv := tput s.reef.conv i ((v :: tget s.reef.conv i).take 10) } }) := by rw [hu, converted, hxs]
  rw [converted, hxs] at hdev
  unfold Machine.sensorConv
  dsimp only
  rw [if_neg (by rintro (h | h) <;> [omega; simp [hbad] at h]), if_neg (fun h => h.2 hok'), if_neg hdev, ← hu', hxs]

theorem sensorConv_failed (hi : i < 48) (hoff : s.dev ≠ dOFF) (hbad : s.sensBad i = false) (hout : v < -2560 ∨ 9600 < v) :
    sensorConv i v s = sensFails i s := by
  unfold Machine.sensorConv
  dsimp only
  rw [if_neg (by rintro (h | h) <;> [omega; simp [hbad] at h]), if_pos ⟨hoff, by rw [convOk_of_outside hout]; exact Bool.false_ne_true⟩]

theorem sensorConv_off (hi : i < 48) (hoff : s.dev = dOFF) (hbad : s.sensBad i = false) (hxs : xs = v :: tget s.reef.conv i) {u : State}
    (hu : u = converted i xs s) :
    sensorConv i v s = coolRefresh (u.setF (REEF_ZONE (i / 2)) REEF_ZONE_TEMP (unsgn 16 (max (u.sensT (i / 2 * 2)) (u.sensT (i / 2 * 2 + 1))))) := by
  have hdev : (converted i xs s).dev = dOFF := by
    rw [State.dev]
    exact (fld_setF_ne _ _ _ _ _ _ (by unfold GLB_STATE REEF_SENS; omega)).trans hoff
  rw [converted, hxs] at hdev
  unfold Machine.sensorConv
  dsimp only
  rw [if_neg (by rintro (h | h) <;> [omega; simp [hbad] at h]), if_neg (fun h => h.1 hoff), if_pos hdev, hu, converted, hxs]

end

end Sys2Proof.Laws
end

section
namespace Sys2Proof.Laws
open Sys2Proof.Machine

-- One theorem after another: a thread for each of them passes the memory limit of the check.
set_option Elab.async false

section
variable {s₀ s t u : State} {a n m l e : Nat} {f : Fld}

/-! ### What the shedding of captures and jobs leaves (Table 19-2) -/

/-- Reef's own state and the two SHED bits are as before. -/
structure ShedKept (s t : State) : Prop where
  reef : t.reef = s.reef
  cns : t.fld CNS_GSTS CNS_GSTS_SHED = s.fld CNS_GSTS CNS_GSTS_SHED
  frl : t.fld FRL_GSTS FRL_GSTS_SHED = s.fld FRL_GSTS FRL_GSTS_SHED

theorem ShedKept.rfl {s : State} : ShedKept s s := ⟨Eq.refl _, Eq.refl _, Eq.refl _⟩

theorem ShedKept.ite (hs : ShedKept s₀ s) (ht : ShedKept s₀ t) {c : Prop} {d : Decidable c} : ShedKept s₀ (if c then s else t) := by
  by_cases hc : c
  · rwa [if_pos hc]
  · rwa [if_neg hc]

theorem ShedKept.forEach {α : Type} {xs : List α} {g : α → State → State} (h : ShedKept s₀ s)
    (hg : ∀ x ∈ xs, ∀ t, ShedKept s₀ t → ShedKept s₀ (g x t)) : ShedKept s₀ (forEach xs s g) :=
  forEach_induct h hg

theorem ShedKept.cap (h : ShedKept s₀ s) {v : Cap} : ShedKept s₀ { s with cap := v } := ⟨h.reef, h.cns, h.frl⟩

theorem ShedKept.wr (h : ShedKept s₀ s) {v : Word} (hc : a ≠ CNS_GSTS) (hf : a ≠ FRL_GSTS) : ShedKept s₀ (s.wr a v) :=
  ⟨h.reef, (congrArg (getF · CNS_GSTS_SHED) (rd_wr_ne s _ _ v hc.symm)).trans h.cns, (congrArg (getF · FRL_GSTS_SHED) (rd_wr_ne s _ _ v hf.symm)).trans h.frl⟩

theorem ShedKept.setF (h : ShedKept s₀ s) (hc : a ≠ CNS_GSTS) (hf : a ≠ FRL_GSTS) : ShedKept s₀ (s.setF a f n) := h.wr hc hf
theorem ShedKept.wrN (h : ShedKept s₀ s) (hc : a ≠ CNS_GSTS) (hf : a ≠ FRL_GSTS) : ShedKept s₀ (s.wrN a n) := h.wr hc hf
theorem ShedKept.status (h : ShedKept s₀ s) (hc : a ≠ CNS_GSTS) (hf : a ≠ FRL_GSTS) : ShedKept s₀ (s.status a n) := h.wr hc hf

/-- A field of fewer than 16 bits, low in its register. -/
theorem ShedKept.setLow (h : ShedKept s₀ s) (hf : f.1 + f.2 ≤ 16) (ha : a ≠ FRL_GSTS) (n : Nat) : ShedKept s₀ (s.setF a f n) := by
  refine ⟨h.reef, ?_, (fld_setF_ne _ _ _ _ _ _ ha.symm).trans h.frl⟩
  by_cases hc : a = CNS_GSTS
  · rw [hc, fld_setF_beside _ _ f CNS_GSTS_SHED _ (by omega) (by decide) (.inl hf)]
    exact h.cns
  · exact (fld_setF_ne _ _ _ _ _ _ (Ne.symm hc)).trans h.cns

theorem ShedKept.cnsCloseAll {why : Nat} (h : ShedKept s₀ s) : ShedKept s₀ (cnsCloseAll why s) :=
  h.forEach fun c _ t h => by
    have k : ShedKept s₀ (t.setF (CNS_CTL c) CNS_CTL_ARM 0) := h.wr (by unfold CNS_CTL CNS_GSTS; omega) (by unfold CNS_CTL FRL_GSTS; omega)
    exact k.ite (k.cap.ite (k.setF (by unfold CNS_STS CNS_GSTS; omega) (by unfold CNS_STS FRL_GSTS; omega)))

theorem ShedKept.setCtxSt {x v : Nat} (h : ShedKept s₀ s) : ShedKept s₀ (s.setCtxSt x v) := by
  have ha : FRL_CTXS x ≠ FRL_GSTS := by unfold FRL_CTXS FRL_GSTS; omega
  exact (h.setLow (by decide) ha _).setLow (by decide) ha _

theorem ShedKept.frlEnd {code xs : Nat} (he : e < 4) (h : ShedKept s₀ s) : ShedKept s₀ (frlEnd e code xs s) := by
  have hsts : FRL_STS e ≠ CNS_GSTS ∧ FRL_STS e ≠ FRL_GSTS := by unfold FRL_STS CNS_GSTS FRL_GSTS; omega
  obtain ⟨hsts1, hsts2⟩ := hsts
  unfold Machine.frlEnd
  split
  · exact h
  · next j _ =>
    obtain ⟨v, hv⟩ : ∃ v, v = if xs = ctxEMPTY then s.setFctx j.ctx default else s := ⟨_, Eq.refl _⟩
    have k : ShedKept s₀ v := by
      rw [hv]
      exact h.cap.ite h
    dsimp only
    rw [← hv]
    exact (((((k.setCtxSt.wrN (by unfold FRL_CONSUMED CNS_GSTS; omega) (by unfold FRL_CONSUMED FRL_GSTS; omega)).wrN
      (by unfold FRL_PRODUCED CNS_GSTS; omega) (by unfold FRL_PRODUCED FRL_GSTS; omega)).wrN
      (by unfold FRL_CRC CNS_GSTS; omega) (by unfold FRL_CRC FRL_GSTS; omega)).cap).status hsts1 hsts2).setF hsts1 hsts2

theorem ShedKept.frlShed (h : ShedKept s₀ s) : ShedKept s₀ (frlShed s) :=
  h.forEach fun _ he _ h => h.frlEnd (List.mem_range.1 he)

/-- Captures and jobs that a new LEVEL ends. -/
def shedWork (old new_ : Nat) (s : State) : State :=
  let s := if old < 1 ∧ 1 ≤ new_ then cnsCloseAll 2 s else s
  if old < 2 ∧ 2 ≤ new_ then frlShed s else s

theorem shedWork_spec (old new_ : Nat) (s : State) : Calm s (shedWork old new_ s) ∧ ShedKept s (shedWork old new_ s) := by
  obtain ⟨v, hv⟩ : ∃ v, v = if old < 1 ∧ 1 ≤ new_ then cnsCloseAll 2 s else s := ⟨_, rfl⟩
  have hcalm : Calm s v := by
    rw [hv]
    exact Calm.rfl.cnsCloseAll.ite Calm.rfl
  have hkept : ShedKept s v := by
    rw [hv]
    exact ShedKept.rfl.cnsCloseAll.ite ShedKept.rfl
  unfold shedWork
  dsimp only
  rw [← hv]
  exact ⟨(hcalm.forEach fun _ _ _ h => h.frlEnd).ite hcalm, hkept.frlShed.ite hkept⟩

/-! ### LEVEL and what it sheds (R568, R569) -/

/-- The registers that show what a level sheds. -/
def shedRegs (m : Nat) (s : State) : State :=
  let s := s.setF WCH_STS WCH_STS_CLK (if 6 ≤ m then 2 else if 3 ≤ m then 1 else 0)
  let s := s.setF DEC_STS DEC_STS_LANES_EFF (if 7 ≤ m then 2 else if 6 ≤ m then 4 else if 4 ≤ m then 8 else 16)
  s.setF REEF_STS REEF_STS_HOLD (b01 (decide (5 ≤ m)))

theorem shed_eq (old new_ : Nat) (s : State) :
    shed old new_ s = (fun x : State => if 5 ≤ old ∧ new_ < 5 then { x with reef := { x.reef with resume := x.clock.now + 16 * ft } } else x)
      (shedRegs new_ (shedWork old new_ ((s.setF CNS_GSTS CNS_GSTS_SHED (b01 (decide (1 ≤ new_)))).setF FRL_GSTS FRL_GSTS_SHED (b01 (decide (2 ≤ new_)))))) :=
  rfl

theorem fld_b01 (s : State) (a i : Nat) (c : Prop) [Decidable c] (hi : i < 64) :
    (s.setF a (i, 1) (b01 (decide c))).fld a (i, 1) = if c then 1 else 0 := by
  rw [fld_setF _ _ _ _ (by simpa using hi)]
  by_cases hc : c
  · rw [if_pos hc, decide_eq_true hc]
    rfl
  · rw [if_neg hc, decide_eq_false hc]
    rfl

theorem shedRegs_spec (m : Nat) (s : State) :
    (shedRegs m s).fld WCH_STS WCH_STS_CLK = (if 6 ≤ m then 2 else if 3 ≤ m then 1 else 0)
      ∧ (shedRegs m s).fld DEC_STS DEC_STS_LANES_EFF = (if 7 ≤ m then 2 else if 6 ≤ m then 4 else if 4 ≤ m then 8 else 16)
      ∧ (shedRegs m s).fld REEF_STS REEF_STS_HOLD = (if 5 ≤ m then 1 else 0)
      ∧ (∀ f : Fld, f.1 + f.2 ≤ 15 → (shedRegs m s).fld REEF_STS f = s.fld REEF_STS f)
      ∧ s.onlyRegs (shedRegs m s) [WCH_STS, DEC_STS, REEF_STS] := by
  refine ⟨?_, ?_, fld_b01 _ _ _ _ (by decide), fun f hf => ?_, onlyRegs_andWr (onlyRegs_andWr (onlyRegs_andWr (onlyRegs_rfl s _) (by simp)) (by simp)) (by simp)⟩
  · refine (fld_setF_ne _ _ _ _ _ _ (by decide)).trans ((fld_setF_ne _ _ _ _ _ _ (by decide)).trans ((fld_setF _ _ _ _ (by decide)).trans ?_))
    split_ifs <;> rfl
  · refine (fld_setF_ne _ _ _ _ _ _ (by decide)).trans ((fld_setF _ _ _ _ (by decide)).trans ?_)
    split_ifs <;> rfl
  · refine (fld_setF_beside _ _ REEF_STS_HOLD f _ (by decide) (by omega) (.inr hf)).trans ?_
    exact (fld_setF_ne _ _ _ _ _ _ (by decide)).trans (fld_setF_ne _ _ _ _ _ _ (by decide))

/-- A change of LEVEL. -/
theorem shed_spec (old m : Nat) (s : State) {u : State} (hu : u = shed old m s) :
    u.fld CNS_GSTS CNS_GSTS_SHED = (if 1 ≤ m then 1 else 0) ∧ u.fld FRL_GSTS FRL_GSTS_SHED = (if 2 ≤ m then 1 else 0)
      ∧ u.fld WCH_STS WCH_STS_CLK = (if 6 ≤ m then 2 else if 3 ≤ m then 1 else 0)
      ∧ u.fld DEC_STS DEC_STS_LANES_EFF = (if 7 ≤ m then 2 else if 6 ≤ m then 4 else if 4 ≤ m then 8 else 16)
      ∧ u.fld REEF_STS REEF_STS_HOLD = (if 5 ≤ m then 1 else 0) ∧ u.rdN REEF_LVL_CNT = s.rdN REEF_LVL_CNT
      ∧ (∀ f : Fld, f.1 + f.2 ≤ 15 → u.fld REEF_STS f = s.fld REEF_STS f) ∧ { u.reef with resume := s.reef.resume } = s.reef := by
  obtain ⟨v, hv⟩ : ∃ v, v = (s.setF CNS_GSTS CNS_GSTS_SHED (b01 (decide (1 ≤ m)))).setF FRL_GSTS FRL_GSTS_SHED (b01 (decide (2 ≤ m))) := ⟨_, rfl⟩
  have hvcns : v.fld CNS_GSTS CNS_GSTS_SHED = (if 1 ≤ m then 1 else 0) := by
    rw [hv, fld_setF_ne _ _ _ _ _ _ (by decide)]
    exact fld_b01 _ _ _ _ (by decide)
  have hvfrl : v.fld FRL_GSTS FRL_GSTS_SHED = (if 2 ≤ m then 1 else 0) := by
    rw [hv]
    exact fld_b01 _ _ _ _ (by decide)
  have hvonly : s.onlyRegs v [CNS_GSTS, FRL_GSTS] := by
    rw [hv]
    exact onlyRegs_andWr (onlyRegs_andWr (onlyRegs_rfl s _) (by simp)) (by simp)
  have hvreef : v.reef = s.reef := (congrArg State.reef (eq_of_onlyRegs hvonly) :)
  obtain ⟨w, hw⟩ : ∃ w, w = shedWork old m v := ⟨_, rfl⟩
  obtain ⟨hcalm, hkept⟩ := shedWork_spec old m v
  rw [← hw] at hcalm hkept
  obtain ⟨x, hx⟩ : ∃ x, x = shedRegs m w := ⟨_, rfl⟩
  obtain ⟨hwch, hdec, hhold, hsts, honly⟩ := shedRegs_spec m w
  rw [← hx] at hwch hdec hhold hsts honly
  have hxreef : x.reef = w.reef := (congrArg State.reef (eq_of_onlyRegs honly) :)
  have hux : u.regs = x.regs ∧ { u.reef with resume := x.reef.resume } = x.reef := by
    rw [hu, shed_eq, ← hv, ← hw, ← hx]
    dsimp only
    split
    · exact ⟨rfl, rfl⟩
    · exact ⟨rfl, rfl⟩
  obtain ⟨huregs, hureef⟩ := hux
  have hfld (a : Nat) (f : Fld) : u.fld a f = x.fld a f := by rw [State.fld, State.fld, State.rd, State.rd, huregs]
  refine ⟨?_, ?_, ?_, ?_, ?_, ?_, fun f hf => ?_, ?_⟩
  · rw [hfld, fld_of_keeps honly.2 (by decide), hkept.cns, hvcns]
  · rw [hfld, fld_of_keeps honly.2 (by decide), hkept.frl, hvfrl]
  · rw [hfld, hwch]
  · rw [hfld, hdec]
  · rw [hfld, hhold]
  · have h1 : u.rdN REEF_LVL_CNT = x.rdN REEF_LVL_CNT := by rw [State.rdN, State.rdN, State.rd, State.rd, huregs]
    rw [h1, rdN_of_keeps honly.2 (by decide), hcalm.rdN (.inr (.inl (by decide))), rdN_of_keeps hvonly.2 (by decide)]
  · rw [hfld, hsts f hf, hcalm.fld (.inr (.inl (by decide))), fld_of_keeps hvonly.2 (by decide)]
  · rw [hxreef, hkept.reef, hvreef] at hureef
    exact hureef

theorem lt_eight_of_max {m n k : Nat} (hn : n < 8) (hk : k < 8) (hm : m = max n k) : m % 2 ^ 3 = m := by omega

/-- LEVEL follows the larger of TLEVEL and PLEVEL. -/
theorem levelRefresh_spec (hm : m = max (s.fld REEF_STS REEF_STS_TLEVEL) (s.fld REEF_STS REEF_STS_PLEVEL)) {u : State} (hu : u = levelRefresh s) :
    u.fld REEF_STS REEF_STS_TLEVEL = s.fld REEF_STS REEF_STS_TLEVEL ∧ u.fld REEF_STS REEF_STS_PLEVEL = s.fld REEF_STS REEF_STS_PLEVEL
      ∧ u.fld REEF_STS REEF_STS_LEVEL = m ∧ { u.reef with resume := s.reef.resume } = s.reef
      ∧ (s.fld REEF_STS REEF_STS_LEVEL ≠ m → u.fld CNS_GSTS CNS_GSTS_SHED = (if 1 ≤ m then 1 else 0)
          ∧ u.fld FRL_GSTS FRL_GSTS_SHED = (if 2 ≤ m then 1 else 0) ∧ u.fld WCH_STS WCH_STS_CLK = (if 6 ≤ m then 2 else if 3 ≤ m then 1 else 0)
          ∧ u.fld DEC_STS DEC_STS_LANES_EFF = (if 7 ≤ m then 2 else if 6 ≤ m then 4 else if 4 ≤ m then 8 else 16)
          ∧ u.fld REEF_STS REEF_STS_HOLD = (if 5 ≤ m then 1 else 0) ∧ u.rdN REEF_LVL_CNT = min 0xFFFFFFFF (s.rdN REEF_LVL_CNT + 1))
      ∧ (s.fld REEF_STS REEF_STS_LEVEL = m → u = s) := by
  have ht8 : s.fld REEF_STS REEF_STS_TLEVEL < 8 := getF_lt _ REEF_STS_TLEVEL (by decide)
  have hp8 : s.fld REEF_STS REEF_STS_PLEVEL < 8 := getF_lt _ REEF_STS_PLEVEL (by decide)
  have hm8 : m % 2 ^ 3 = m := lt_eight_of_max ht8 hp8 hm
  unfold Machine.levelRefresh at hu
  dsimp only at hu
  rw [← hm] at hu
  by_cases hold : s.fld REEF_STS REEF_STS_LEVEL = m
  · rw [if_pos hold] at hu
    rw [hu]
    exact ⟨rfl, rfl, hold, rfl, fun h => absurd hold h, fun _ => rfl⟩
  · rw [if_neg hold] at hu
    obtain ⟨v, hv⟩ : ∃ v, v = s.setF REEF_STS REEF_STS_LEVEL m := ⟨_, rfl⟩
    obtain ⟨w, hw⟩ : ∃ w, w = v.inc REEF_LVL_CNT := ⟨_, rfl⟩
    have hwf (f : Fld) : w.fld REEF_STS f = v.fld REEF_STS f := by
      rw [hw]
      exact fld_inc_ne _ _ _ _ (by decide)
    have hwcnt : w.rdN REEF_LVL_CNT = min 0xFFFFFFFF (s.rdN REEF_LVL_CNT + 1) := by
      rw [hw, rdN_inc, hv, rdN_setF_ne _ _ _ _ _ (by decide)]
    have hvf (f : Fld) (h : f.1 + f.2 ≤ 64) (hb : 7 ≤ f.1) : v.fld REEF_STS f = s.fld REEF_STS f := by
      rw [hv]
      exact fld_setF_beside _ _ REEF_STS_LEVEL f _ (by decide) h (.inl hb)
    have hvlevel : v.fld REEF_STS REEF_STS_LEVEL = m := by
      rw [hv, fld_setF _ _ _ _ (by decide)]
      exact hm8
    have hwreef : w.reef = s.reef := by
      rw [hw, hv]
      rfl
    rw [← hv, ← hw] at hu
    obtain ⟨hcns, hfrl, hwch, hdec, hhold, hcnt, hsts, hreef⟩ := shed_spec _ m w hu
    rw [hwreef] at hreef
    refine ⟨?_, ?_, ?_, hreef, fun _ => ⟨hcns, hfrl, hwch, hdec, hhold, hcnt.trans hwcnt⟩, fun h => absurd h hold⟩
    · rw [hsts _ (by decide), hwf, hvf _ (by decide) (by decide)]
    · rw [hsts _ (by decide), hwf, hvf _ (by decide) (by decide)]
    · rw [hsts _ (by decide), hwf, hvlevel]

/-! ### The two levels (R566, R567) -/

/-- TLEVEL takes a new value. -/
def tlevelTo (n : Nat) (s : State) : State :=
  ({ s with reef := { s.reef with tAt := some s.clock.now } } : State).setF REEF_STS REEF_STS_TLEVEL n

/-- PLEVEL takes a new value. -/
def plevelTo (n : Nat) (s : State) : State :=
  ({ s with reef := { s.reef with pAt := some s.clock.now } } : State).setF REEF_STS REEF_STS_PLEVEL n

theorem theta_eq (n : Nat) : theta n = 5952 + 128 * (n : Int) := by
  unfold theta deg
  ring

/-- One step up at θ(n + 1), one step down below θ(n) - 3 °C. -/
theorem tlevelChange_eq (hoff : s.dev ≠ dOFF) (hten : s.tenMs s.reef.tAt = true) (hl : l = s.fld REEF_STS REEF_STS_TLEVEL)
    (h : (l < 7 ∧ n = l + 1 ∧ ∃ z, z < 24 ∧ 5952 + 128 * (n : Int) ≤ s.zoneT z)
      ∨ (0 < l ∧ n = l - 1 ∧ ∀ z, z < 24 → s.zoneT z < 5952 + 128 * (l : Int) - 192)) :
    tlevelChange s = levelRefresh (tlevelTo n s) := by
  obtain ⟨up, hup⟩ : ∃ up : Bool, up = (decide (l < 7) && allZones.any fun z => decide (theta (l + 1) ≤ s.zoneT z)) := ⟨_, rfl⟩
  obtain ⟨down, hdown⟩ : ∃ down : Bool, down = (decide (0 < l) && allZones.all fun z => decide (s.zoneT z < theta l - deg 3)) := ⟨_, rfl⟩
  have hstep : (up = true ∨ down = true) ∧ (if up = true then l + 1 else l - 1) = n := by
    obtain ⟨hl7, hn, z, hz, hhot⟩ | ⟨hl0, hn, hcold⟩ := h
    · have hyes : up = true := by
        rw [hup, decide_eq_true hl7, Bool.true_and, List.any_eq_true]
        exact ⟨z, List.mem_range.2 hz, decide_eq_true (by rw [← hn, theta_eq]; exact hhot)⟩
      exact ⟨.inl hyes, (if_pos hyes).trans hn.symm⟩
    · have hno : up = false := by
        rw [hup, Bool.and_eq_false_iff]
        refine .inr (List.any_eq_false.2 fun z hz => ?_)
        have := hcold z (List.mem_range.1 hz)
        rw [decide_eq_true_eq, theta_eq]
        push_cast
        omega
      have hyes : down = true := by
        rw [hdown, decide_eq_true hl0, Bool.true_and, List.all_eq_true]
        refine fun z hz => decide_eq_true ?_
        have := hcold z (List.mem_range.1 hz)
        rw [theta_eq]
        unfold deg
        omega
      exact ⟨.inr hyes, (if_neg (by rw [hno]; exact Bool.false_ne_true)).trans hn.symm⟩
  obtain ⟨hgo, hn⟩ := hstep
  unfold Machine.tlevelChange
  dsimp only
  rw [← hl, ← hup, ← hdown, if_neg (by rintro (h | h | h) <;> [exact hoff h; exact h hten; exact h hgo]), hn]
  rfl

/-- One step up above the limit, one step down below 95 % of it. -/
theorem plevelChange_eq (hoff : s.dev ≠ dOFF) (hten : s.tenMs s.reef.pAt = true) (hl : l = s.fld REEF_STS REEF_STS_PLEVEL)
    (h : (l < 7 ∧ n = l + 1 ∧ s.reef.lim < s.rdN REEF_PWR) ∨ (0 < l ∧ n = l - 1 ∧ 100 * s.rdN REEF_PWR < 95 * s.reef.lim)) :
    plevelChange s = levelRefresh (plevelTo n s) := by
  obtain ⟨up, hup⟩ : ∃ up : Bool, up = (decide (l < 7) && decide (s.reef.lim < s.rdN REEF_PWR)) := ⟨_, rfl⟩
  obtain ⟨down, hdown⟩ : ∃ down : Bool, down = (decide (0 < l) && decide (100 * s.rdN REEF_PWR < 95 * s.reef.lim)) := ⟨_, rfl⟩
  have hstep : (up = true ∨ down = true) ∧ (if up = true then l + 1 else l - 1) = n := by
    obtain ⟨hl7, hn, hover⟩ | ⟨hl0, hn, hunder⟩ := h
    · have hyes : up = true := by rw [hup, decide_eq_true hl7, decide_eq_true hover, Bool.and_self]
      exact ⟨.inl hyes, (if_pos hyes).trans hn.symm⟩
    · have hno : up = false := by rw [hup, decide_eq_false (p := s.reef.lim < _) (by omega), Bool.and_false]
      have hyes : down = true := by rw [hdown, decide_eq_true hl0, decide_eq_true hunder, Bool.and_self]
      exact ⟨.inr hyes, (if_neg (by rw [hno]; exact Bool.false_ne_true)).trans hn.symm⟩
  obtain ⟨hgo, hn⟩ := hstep
  unfold Machine.plevelChange
  dsimp only
  rw [← hl, ← hup, ← hdown, if_neg (by rintro (h | h | h) <;> [exact hoff h; exact h hten; exact h hgo]), hn]
  rfl

theorem lt_eight_of_step (hl : l = s.fld REEF_STS f) (hf : f.2 = 3) (h : (l < 7 ∧ n = l + 1) ∨ (0 < l ∧ n = l - 1)) : n % 2 ^ 3 = n := by
  have hlt : s.fld REEF_STS f < 2 ^ f.2 := getF_lt _ f (by omega)
  rw [hf] at hlt
  omega

theorem tlevelTo_spec (hn : n % 2 ^ 3 = n) (s : State) {u : State} (hu : u = tlevelTo n s) :
    u.fld REEF_STS REEF_STS_TLEVEL = n ∧ u.fld REEF_STS REEF_STS_PLEVEL = s.fld REEF_STS REEF_STS_PLEVEL
      ∧ u.fld REEF_STS REEF_STS_LEVEL = s.fld REEF_STS REEF_STS_LEVEL ∧ u.reef.tAt = some s.clock.now ∧ u.rdN REEF_LVL_CNT = s.rdN REEF_LVL_CNT
      ∧ s.keeps u [REEF_STS] := by
  subst hu
  refine ⟨(fld_setF _ _ _ _ (by decide)).trans hn, fld_setF_beside _ _ REEF_STS_TLEVEL REEF_STS_PLEVEL _ (by decide) (by decide) (by decide),
    fld_setF_beside _ _ REEF_STS_TLEVEL REEF_STS_LEVEL _ (by decide) (by decide) (by decide), rfl, rdN_setF_ne _ _ _ _ _ (by decide), ?_⟩
  exact keeps_setF (keeps_of_regs (keeps_rfl s _) rfl) (by simp)

theorem plevelTo_spec (hn : n % 2 ^ 3 = n) (s : State) {u : State} (hu : u = plevelTo n s) :
    u.fld REEF_STS REEF_STS_PLEVEL = n ∧ u.fld REEF_STS REEF_STS_TLEVEL = s.fld REEF_STS REEF_STS_TLEVEL
      ∧ u.fld REEF_STS REEF_STS_LEVEL = s.fld REEF_STS REEF_STS_LEVEL ∧ u.reef.pAt = some s.clock.now ∧ s.keeps u [REEF_STS] := by
  subst hu
  refine ⟨(fld_setF _ _ _ _ (by decide)).trans hn, fld_setF_beside _ _ REEF_STS_PLEVEL REEF_STS_TLEVEL _ (by decide) (by decide) (by decide),
    fld_setF_beside _ _ REEF_STS_PLEVEL REEF_STS_LEVEL _ (by decide) (by decide) (by decide), rfl, ?_⟩
  exact keeps_setF (keeps_of_regs (keeps_rfl s _) rfl) (by simp)

end

end Sys2Proof.Laws
end

section
namespace Sys2Proof.Laws
open Sys2Proof.Machine

-- One theorem after another: a thread for each of them passes the memory limit of the check.
set_option Elab.async false

section
variable {s t u : State} {i n m r lim mean : Nat} {v : Int} {xs : List Int} {vs : List (Nat × Nat)}

/-! ### The outcome of a conversion -/

theorem take_ten_bounds (hxs : ∀ x ∈ xs, -2560 ≤ x ∧ x ≤ 9600) (hne : xs ≠ []) : -2560 ≤ meanT (xs.take 10) ∧ meanT (xs.take 10) ≤ 9600 :=
  meanT_bounds (by simpa using hne) fun x hx => hxs x (List.mem_of_mem_take hx)

/-- A conversion that passes its checks, and the zone after it. -/
theorem passed_spec (hi : i < 48) (hbad : s.sensBad i = false) (hxs : xs = v :: tget s.reef.conv i) (hrange : ∀ x ∈ xs, -2560 ≤ x ∧ x ≤ 9600)
    {m : Int} (hm : m = meanT (xs.take 10)) (hu : u = zoneRefresh (i / 2) (converted i xs s)) :
    u.sensT i = m ∧ u.zoneT (i / 2) = max m (s.sensT (4 * (i / 2) + 1 - i)) ∧ u.flag (REEF_ZONE (i / 2)) REEF_ZONE_LOST = false
      ∧ (s.sensBad (4 * (i / 2) + 1 - i) = false → 512 < (m - s.sensT (4 * (i / 2) + 1 - i)).natAbs → u.flag (REEF_ZONE (i / 2)) REEF_ZONE_DISAGREE = true)
      ∧ tget u.reef.conv i = xs.take 10 ∧ s.keeps u [REEF_SENS i, REEF_ZONE (i / 2), REEF_PEAK, REEF_STS]
      ∧ { u with regs := s.regs, reef := s.reef, bus := s.bus } = s := by
  obtain ⟨j, hj⟩ : ∃ j, j = 4 * (i / 2) + 1 - i := ⟨_, rfl⟩
  obtain ⟨hji, _⟩ := other_ne hi hj
  obtain ⟨hlo, hhi⟩ := take_ten_bounds hrange (by rw [hxs]; exact List.cons_ne_nil _ _)
  obtain ⟨c, hc⟩ : ∃ c, c = converted i xs s := ⟨_, rfl⟩
  obtain ⟨hcT, hcbad, hcconv, hck, hcrest⟩ := converted_spec hlo hhi i s hc
  have hcj : c.sensT j = s.sensT j := sensT_of_keeps hck (by simpa using sens_ne hji)
  have hcjbad : c.sensBad j = s.sensBad j := sensBad_of_keeps hck (by simpa using sens_ne hji)
  rw [hbad] at hcbad
  rw [← hc] at hu
  obtain ⟨huT, hulost, hudis, huk, _, hucool, _, hurest⟩ := zoneRefresh_of_pair hj (.inl hcbad) hu
  rw [hcT, hcj, ← hm] at huT hudis
  rw [← hj]
  refine ⟨?_, huT, hulost, fun h => hudis hcbad (hcjbad.trans h), ?_, keeps_trans hck huk (by simp) (by simp), ?_⟩
  · rw [sensT_of_keeps huk (sens_notMem hi _), hcT, hm]
  · have hconv : u.reef.conv = c.reef.conv := (congrArg ReefS.conv hucool :)
    rw [hconv, hcconv]
  · exact (congrArg (fun x : State => { x with regs := s.regs, reef := s.reef, bus := s.bus }) hurest :).trans
      (congrArg (fun x : State => { x with bus := s.bus }) hcrest :)

theorem safe_of_hot (hdev : u.dev = s.dev) (hsafe : s.dev ≠ dSAFE) :
    ¬ (u.dev == dSAFE && u.fld GLB_STATE GLB_STATE_SAFE_STATUS == E_REEF_OVERTEMP) = true := by
  rw [hdev, beq_eq_false_iff_ne.2 hsafe, Bool.false_and]
  exact Bool.false_ne_true

theorem sens_ne_glbState (i : Nat) : GLB_STATE ∉ [REEF_SENS i, REEF_ZONE (i / 2), REEF_PEAK, REEF_STS] := by
  simp only [List.mem_cons, List.not_mem_nil, or_false, GLB_STATE, REEF_SENS, REEF_ZONE, REEF_PEAK, REEF_STS]
  omega

/-- A conversion in OFF counts for the cool-down only (R576). -/
theorem off_spec (hxs : xs = v :: tget s.reef.conv i) {m : Int} (hm : m = meanT (xs.take 10)) (hi : i < 48) (hlo : -2560 ≤ m) (hhi : m ≤ 9600) {w : State} (hw : w = converted i xs s)
    (hu : u = coolRefresh (w.setF (REEF_ZONE (i / 2)) REEF_ZONE_TEMP (unsgn 16 (max (w.sensT (i / 2 * 2)) (w.sensT (i / 2 * 2 + 1)))))) :
    u.sensT i = m ∧ tget u.reef.conv i = (v :: tget s.reef.conv i).take 10 ∧ s.keeps u [REEF_SENS i, REEF_ZONE (i / 2)]
      ∧ { u with regs := s.regs, reef := s.reef } = s := by
  rw [hm] at hlo hhi
  obtain ⟨hwT, _, hwconv, hwk, hwrest⟩ := converted_spec hlo hhi i s hw
  obtain ⟨x, hx⟩ : ∃ x, x = w.setF (REEF_ZONE (i / 2)) REEF_ZONE_TEMP (unsgn 16 (max (w.sensT (i / 2 * 2)) (w.sensT (i / 2 * 2 + 1)))) := ⟨_, rfl⟩
  have honly : w.onlyRegs x [REEF_ZONE (i / 2)] := by rw [hx]; exact onlyRegs_setF ..
  have hxreef : x.reef = w.reef := (congrArg State.reef (eq_of_onlyRegs honly) :)
  rw [← hx] at hu
  obtain ⟨huregs, _, hurest, hucool⟩ := coolRefresh_spec x hu
  have hk : w.keeps u [REEF_ZONE (i / 2)] := keeps_of_regs honly.2 huregs
  refine ⟨?_, ?_, keeps_trans hwk hk (by simp) (by simp), ?_⟩
  · rw [sensT_of_keeps hk (by simpa using sens_ne_zone hi _), hwT, hm]
  · have hconv : u.reef.conv = x.reef.conv := (congrArg ReefS.conv hucool :)
    rw [hconv, hxreef, hwconv, hxs]
  · calc { u with regs := s.regs, reef := s.reef }
        = { x with regs := s.regs, reef := s.reef } := (congrArg (fun y : State => { y with regs := s.regs, reef := s.reef }) hurest :)
      _ = { w with regs := s.regs, reef := s.reef } := (congrArg (fun y : State => { y with regs := s.regs, reef := s.reef }) (eq_of_onlyRegs honly) :)
      _ = s := hwrest

/-! ### The retest of a sensor (R565) -/

theorem reefStatus_spec (code : Nat) (hcode : code < 2 ^ 16) (s : State) {u : State} (hu : u = reefStatus code s) :
    u.fld REEF_STS REEF_STS_STATUS = code ∧ s.onlyRegs u [REEF_STS] := by
  subst hu
  exact ⟨(fld_setF _ _ _ _ (by decide)).trans (Nat.mod_eq_of_lt hcode), onlyRegs_setF ..⟩

/-- A sensor that passes its test again. -/
def retested (i : Nat) (xs : List Int) (s : State) : State :=
  setTemp i (meanT xs) (({ s with reef := { s.reef with conv := tput s.reef.conv i xs.reverse } } : State).setF (REEF_SENS i) REEF_SENS_FAILED 0)

theorem retested_spec (hlo : -2560 ≤ meanT xs) (hhi : meanT xs ≤ 9600) (i : Nat) (s : State) (hu : u = retested i xs s) :
    u.sensT i = meanT xs ∧ u.sensBad i = false ∧ s.keeps u [REEF_SENS i] ∧ { u with regs := s.regs, reef := s.reef } = s := by
  obtain ⟨c, hc⟩ : ∃ c : State, c = { s with reef := { s.reef with conv := tput s.reef.conv i xs.reverse } } := ⟨_, rfl⟩
  have hcspec : c.regs = s.regs ∧ { c with reef := s.reef } = s := by
    rw [hc]
    exact ⟨rfl, rfl⟩
  obtain ⟨hcregs, hcrest⟩ := hcspec
  rw [retested, ← hc] at hu
  obtain ⟨f, hf⟩ : ∃ f, f = c.setF (REEF_SENS i) REEF_SENS_FAILED 0 := ⟨_, rfl⟩
  have hfbad : f.sensBad i = false := by
    rw [hf, State.sensBad, State.flag, fld_setF _ _ _ _ (by decide)]
    rfl
  have hfonly : c.onlyRegs f [REEF_SENS i] := by rw [hf]; exact onlyRegs_setF ..
  obtain ⟨hT, hbad, honly⟩ := setTemp_spec i (T := meanT xs) (by omega) (by omega) f
  rw [← hf] at hu
  rw [← hu] at hT hbad honly
  refine ⟨hT, hbad.trans hfbad, keeps_trans (keeps_trans (keeps_of_regs (keeps_rfl s []) hcregs) hfonly.2 (cs := [REEF_SENS i]) (by simp) (by simp))
    honly.2 (by simp) (by simp), ?_⟩
  calc { u with regs := s.regs, reef := s.reef }
      = { f with regs := s.regs, reef := s.reef } := (congrArg (fun y : State => { y with regs := s.regs, reef := s.reef }) (eq_of_onlyRegs honly) :)
    _ = { c with regs := s.regs, reef := s.reef } := (congrArg (fun y : State => { y with regs := s.regs, reef := s.reef }) (eq_of_onlyRegs hfonly) :)
    _ = s := (congrArg (fun y : State => { y with regs := s.regs }) hcrest :)

theorem sensRetest_passed (hi : i < 48) (hlen : xs.length = 10) (hok : convOk xs = true) :
    sensRetest i true xs s = zoneRefresh (i / 2) (sensFail (retested i xs (reefStatus 0 s))) :=
  (if_neg (by omega)).trans (if_pos ⟨rfl, hlen, hok⟩)

theorem sensRetest_failed (hi : i < 48) {pass : Bool} (h : pass = false ∨ xs.length ≠ 10 ∨ convOk xs = false) :
    sensRetest i pass xs s = sensFails i (reefStatus 0 s) := by
  refine (if_neg (by omega)).trans (if_neg fun ⟨hpass, hlen, hok⟩ => ?_)
  obtain h | h | h := h
  · exact Bool.false_ne_true (h.symm.trans hpass)
  · exact h hlen
  · exact Bool.false_ne_true (h.symm.trans hok)

theorem sensRetest_out (hi : 48 ≤ i) (pass : Bool) : sensRetest i pass xs s = reefStatus E_REEF_RANGE s := if_pos (by omega)

theorem retest_passed_spec (hi : i < 48) (hlen : xs.length = 10) (hok : convOk xs = true) (hu : u = sensRetest i true xs s) :
    u.sensBad i = false ∧ u.sensT i = meanT xs ∧ u.zoneT (i / 2) = max (meanT xs) (s.sensT (4 * (i / 2) + 1 - i))
      ∧ u.fld REEF_STS REEF_STS_STATUS = 0 ∧ s.keeps u [REEF_SENS i, REEF_ZONE (i / 2), REEF_PEAK, REEF_STS]
      ∧ { u with regs := s.regs, reef := s.reef, bus := s.bus } = s := by
  obtain ⟨j, hj⟩ : ∃ j, j = 4 * (i / 2) + 1 - i := ⟨_, rfl⟩
  obtain ⟨hji, _⟩ := other_ne hi hj
  obtain ⟨hlo, hhi⟩ := meanT_bounds (List.ne_nil_of_length_pos (by omega)) (bounds_of_convOk hok)
  rw [sensRetest_passed hi hlen hok] at hu
  obtain ⟨a, ha⟩ : ∃ a, a = reefStatus 0 s := ⟨_, rfl⟩
  obtain ⟨hastatus, haonly⟩ := reefStatus_spec 0 (by decide) s ha
  obtain ⟨b, hb⟩ : ∃ b, b = retested i xs a := ⟨_, rfl⟩
  obtain ⟨hbT, hbbad, hbk, hbrest⟩ := retested_spec hlo hhi i a hb
  obtain ⟨c, hc⟩ : ∃ c, c = sensFail b := ⟨_, rfl⟩
  obtain ⟨_, hconly, hcstatus⟩ := sensFail_spec b hc
  rw [← ha, ← hb, ← hc] at hu
  have hck : s.keeps c [REEF_SENS i, REEF_STS] :=
    keeps_trans (keeps_trans haonly.2 hbk (cs := [REEF_SENS i, REEF_STS]) (by simp) (by simp)) hconly.2 (by simp) (by simp)
  have hcbad : c.sensBad i = false := (sensBad_of_keeps hconly.2 (by simpa using sens_ne_sts i)).trans hbbad
  have hcT : c.sensT i = meanT xs := (sensT_of_keeps hconly.2 (by simpa using sens_ne_sts i)).trans hbT
  have hcj : c.sensT j = s.sensT j := sensT_of_keeps hck (by simpa using ⟨sens_ne hji, sens_ne_sts j⟩)
  obtain ⟨huT, _, _, huk, husts, _, _, hurest⟩ := zoneRefresh_of_pair hj (.inl hcbad) hu
  rw [← hj]
  refine ⟨(sensBad_of_keeps huk (sens_notMem hi _)).trans hcbad, (sensT_of_keeps huk (sens_notMem hi _)).trans hcT, by rw [huT, hcT, hcj], ?_,
    keeps_trans hck huk (by simp) (by simp), ?_⟩
  · rw [husts _ (by decide) (by decide), hcstatus, fld_of_keeps hbk (by simpa using (sens_ne_sts i).symm), hastatus]
  · calc { u with regs := s.regs, reef := s.reef, bus := s.bus }
        = { c with regs := s.regs, reef := s.reef, bus := s.bus } := (congrArg (fun y : State => { y with regs := s.regs, reef := s.reef, bus := s.bus }) hurest :)
      _ = { b with regs := s.regs, reef := s.reef, bus := s.bus } :=
        (congrArg (fun y : State => { y with regs := s.regs, reef := s.reef, bus := s.bus }) (eq_of_onlyRegs hconly) :)
      _ = { a with regs := s.regs, reef := s.reef, bus := s.bus } := (congrArg (fun y : State => { y with regs := s.regs, reef := s.reef, bus := s.bus }) hbrest :)
      _ = s := (congrArg (fun y : State => { y with regs := s.regs, reef := s.reef, bus := s.bus }) (eq_of_onlyRegs haonly) :)

theorem retest_failed_spec (hi : i < 48) (hother : s.sensBad (4 * (i / 2) + 1 - i) = false) {pass : Bool}
    (h : pass = false ∨ xs.length ≠ 10 ∨ convOk xs = false) (hu : u = sensRetest i pass xs s) :
    u.sensBad i = true ∧ u.sensT i = 6848 ∧ u.fld REEF_STS REEF_STS_STATUS = 0
      ∧ s.keeps u [REEF_SENS i, REEF_ZONE (i / 2), REEF_PEAK, REEF_STS] ∧ { u with regs := s.regs, reef := s.reef, bus := s.bus } = s := by
  rw [sensRetest_failed hi h] at hu
  obtain ⟨a, ha⟩ : ∃ a, a = reefStatus 0 s := ⟨_, rfl⟩
  obtain ⟨hastatus, haonly⟩ := reefStatus_spec 0 (by decide) s ha
  rw [← ha] at hu
  have hother' : a.sensBad (4 * (i / 2) + 1 - i) = false := (sensBad_of_keeps haonly.2 (by simpa using sens_ne_sts _)).trans hother
  obtain ⟨hbad, hT, _, hstatus, _, hk, hrest⟩ := sensFails_spec hi hother' hu
  refine ⟨hbad, hT, hstatus.trans hastatus, keeps_trans haonly.2 hk (by simp) (by simp), ?_⟩
  calc { u with regs := s.regs, reef := s.reef, bus := s.bus }
      = { a with regs := s.regs, reef := s.reef, bus := s.bus } := (congrArg (fun y : State => { y with regs := s.regs, reef := s.reef, bus := s.bus }) hrest :)
    _ = s := (congrArg (fun y : State => { y with regs := s.regs, reef := s.reef, bus := s.bus }) (eq_of_onlyRegs haonly) :)

/-! ### Rails and the power limit (R578, R579) -/

/-- The samples of the rails with a new one. -/
def railsTaken (vs : List (Nat × Nat)) (n : Nat) (t : Tab (List (Nat × Nat))) : Tab (List (Nat × Nat)) :=
  (List.range n).foldl (fun t r => tput t r ((vs.getD r (0, 0) :: tget t r).take 100)) t

theorem tget_railsTaken (t : Tab (List (Nat × Nat))) (r n : Nat) :
    tget (railsTaken vs n t) r = if r < n then (vs.getD r (0, 0) :: tget t r).take 100 else tget t r := by
  induction n with
  | zero => rfl
  | succ n ih =>
    rw [railsTaken, List.range_succ, List.foldl_append, List.foldl_cons, List.foldl_nil, tget_tput]
    by_cases hr : r = n
    · rw [if_pos hr, if_pos (by omega), hr]
      rw [hr, if_neg (Nat.lt_irrefl n)] at ih
      exact congrArg (fun l => (vs.getD n (0, 0) :: l).take 100) ih
    · rw [if_neg hr]
      refine ih.trans ?_
      by_cases hlt : r < n
      · rw [if_pos hlt, if_pos (by omega)]
      · rw [if_neg hlt, if_neg (by omega)]

/-- Voltage and current of a rail as its register shows them. -/
def railWord (xs : List (Nat × Nat)) : Nat := meanN (xs.map (·.1)) % 2 ^ 16 * 2 ^ 32 + meanN (xs.map (·.2)) % 2 ^ 32

theorem railWord_lt (xs : List (Nat × Nat)) : railWord xs < 2 ^ 64 := by
  unfold railWord
  omega

/-- Reef's samples with the new ones. -/
def railReef (vs : List (Nat × Nat)) (power : List Nat) (lim : Nat) (x : ReefS) : ReefS :=
  { x with rails := railsTaken vs 6 x.rails, power := power, lim := lim }

/-- The means of the rails and of the power. -/
def railRegs (x : ReefS) (mean : Nat) (s : State) : State :=
  (forEach (List.range 6) s fun r s => s.wrN (REEF_RAIL r) (railWord (tget x.rails r))).wrN REEF_PWR (mean % 2 ^ 32)

/-- A sample of the rails, before the power is held against its limit. -/
def railState (x : ReefS) (mean : Nat) (s : State) : State := railRegs x mean { s with reef := x }

theorem forEach_congr {α : Type} {P : State → Prop} {f g : α → State → State} (h : ∀ x t, P t → f x t = g x t ∧ P (g x t)) {xs : List α} (hs : P s) :
    forEach xs s f = forEach xs s g := by
  induction xs generalizing s with
  | nil => rfl
  | cons x xs ih =>
    obtain ⟨heq, hP⟩ := h x s hs
    exact (congrArg (fun u => forEach xs u f) heq).trans (ih hP)

theorem reef_wrN (s : State) (a n : Nat) : (s.wrN a n).reef = s.reef := rfl

/-- The means of the rails, read from the samples that Reef holds. -/
def railWrite (s : State) : State :=
  forEach (List.range 6) s fun r s => s.wrN (REEF_RAIL r) (railWord (tget s.reef.rails r))

theorem railWrite_eq {x : ReefS} (hs : s.reef = x) :
    railWrite s = forEach (List.range 6) s fun r s => s.wrN (REEF_RAIL r) (railWord (tget x.rails r)) := by
  refine forEach_congr (P := fun t => t.reef = x) (g := fun r s => s.wrN (REEF_RAIL r) (railWord (tget x.rails r))) (fun r t ht => ⟨?_, (reef_wrN ..).trans ht⟩) hs
  rw [ht]

theorem rail_injective : Function.Injective REEF_RAIL := fun i j h => by
  unfold REEF_RAIL at h
  omega

theorem railState_spec (x : ReefS) (mean : Nat) (s : State) (hu : u = railState x mean s) :
    u.rdN REEF_PWR = mean % 2 ^ 32 ∧ (∀ r, r < 6 → u.rdN (REEF_RAIL r) = railWord (tget x.rails r))
      ∧ s.keeps u (REEF_PWR :: (List.range 6).map REEF_RAIL) ∧ u.reef = x ∧ { u with regs := s.regs, reef := s.reef } = s := by
  obtain ⟨c, hc⟩ : ∃ c : State, c = { s with reef := x } := ⟨_, rfl⟩
  have hcspec : c.regs = s.regs ∧ c.reef = x ∧ { c with reef := s.reef } = s := by
    rw [hc]
    exact ⟨rfl, rfl, rfl⟩
  obtain ⟨hcregs, hcreef, hcrest⟩ := hcspec
  obtain ⟨f, hf⟩ : ∃ f, f = forEach (List.range 6) c fun r s => s.wrN (REEF_RAIL r) (railWord (tget x.rails r)) := ⟨_, rfl⟩
  have hfonly : c.onlyRegs f ((List.range 6).map REEF_RAIL) := by
    rw [hf]
    exact onlyRegs_forEach_wrN _ _ _ _
  rw [railState, railRegs, ← hc, ← hf] at hu
  have hne (r : Nat) : REEF_RAIL r ≠ REEF_PWR := by unfold REEF_RAIL REEF_PWR; omega
  have honly : c.onlyRegs u (REEF_PWR :: (List.range 6).map REEF_RAIL) := by
    rw [hu]
    exact onlyRegs_andWr (onlyRegs_trans (onlyRegs_rfl c []) hfonly (by simp) (by simp)) (by simp)
  refine ⟨?_, fun r hr => ?_, keeps_trans (keeps_of_regs (keeps_rfl s []) hcregs) honly.2 (by simp) (by simp), ?_, ?_⟩
  · rw [hu, rdN_wrN]
    exact Nat.mod_eq_of_lt (by omega)
  · rw [hu, rdN_wrN_ne _ _ _ _ (hne r), State.rdN, hf, rd_forEach_wrN rail_injective _ hr, BitVec.toNat_ofNat]
    exact Nat.mod_eq_of_lt (railWord_lt _)
  · exact (congrArg State.reef (eq_of_onlyRegs honly) :).trans hcreef
  · exact (congrArg (fun y : State => { y with regs := s.regs, reef := s.reef }) (eq_of_onlyRegs honly) :).trans
      (congrArg (fun y : State => { y with regs := s.regs }) hcrest :)

/-- The power against its limit. -/
def powerCheck (lim mean : Nat) (s : State) : State :=
  if lim < mean then
    let since := s.reef.above.getD s.clock.now
    let s := { s with reef := { s.reef with above := some since } }
    if s.fld REEF_STS REEF_STS_PLEVEL = 7 ∧ since + 100 * msSt ≤ s.clock.now ∧ ¬ s.reef.told then
      let s := { s with reef := { s.reef with told := true } }
      (s.setF REEF_STS REEF_STS_PLIM_FAIL 1).report E_REEF_PLIM islHub 0
    else s
  else { s with reef := { s.reef with above := none, told := false } }

theorem railSample_off (hoff : s.dev = dOFF) : railSample vs s = s := if_pos hoff

theorem railSample_eq (hoff : s.dev ≠ dOFF) {mw : Nat} (hmw : mw = (((List.range 6).map fun r => (vs.getD r (0, 0)).1 * (vs.getD r (0, 0)).2).foldl (· + ·) 0) / 1000)
    {power : List Nat} (hpower : power = (mw :: s.reef.power).take 100) (hlim : lim = s.fld REEF_PLIM REEF_PLIM_W * 1000) :
    railSample vs s = powerCheck lim (meanN power) (railState (railReef vs power lim s.reef) (meanN power) s) := by
  have hraw : railSample vs s = powerCheck lim (meanN power) ((railWrite { s with reef := railReef vs power lim s.reef }).wrN REEF_PWR (meanN power % 2 ^ 32)) := by
    subst hmw hpower hlim
    exact if_neg hoff
  rw [hraw, railWrite_eq (x := railReef vs power lim s.reef) rfl]
  rfl

theorem powerCheck_below (h : mean ≤ lim) (s : State) : powerCheck lim mean s = { s with reef := { s.reef with above := none, told := false } } :=
  if_neg (by omega)

theorem powerCheck_told {a : Nat} (h : lim < mean) (hp : s.fld REEF_STS REEF_STS_PLEVEL = 7) (ha : s.reef.above = some a)
    (hat : a + 2000000000 ≤ s.clock.now) (htold : s.reef.told = false) (hu : u = powerCheck lim mean s) :
    u.fld REEF_STS REEF_STS_PLIM_FAIL = 1 ∧ u.bus = { s.bus with reports := s.bus.reports ++ [⟨E_REEF_PLIM, false, 0x40, 0⟩] } := by
  unfold powerCheck at hu
  dsimp only at hu
  rw [if_pos h, ha, if_pos (by exact ⟨hp, hat, by rw [htold]; exact Bool.false_ne_true⟩)] at hu
  subst hu
  exact ⟨fld_setF _ _ _ _ (by decide), rfl⟩

theorem plimWrite_legal {v : Nat} (hlo : 150 ≤ v) (hhi : v ≤ 320) : plimWrite v s = reefStatus 0 (s.wrN REEF_PLIM v) := by
  rw [plimWrite, Nat.mod_eq_of_lt (by omega : v < 512), if_neg (by omega)]

theorem plimWrite_range {v : Nat} (h : v < 150 ∨ (320 < v ∧ v < 512)) : plimWrite v s = reefStatus E_REEF_RANGE s := by
  rw [plimWrite, Nat.mod_eq_of_lt (by omega : v < 512), if_pos (by omega)]

/-! ### A step of TLEVEL (R566) -/

theorem tlevelChange_spec {l : Nat} (hoff : s.dev ≠ dOFF) (hten : s.tenMs s.reef.tAt = true) (hl : l = s.fld REEF_STS REEF_STS_TLEVEL)
    (h : (l < 7 ∧ n = l + 1 ∧ ∃ z, z < 24 ∧ 5952 + 128 * (n : Int) ≤ s.zoneT z)
      ∨ (0 < l ∧ n = l - 1 ∧ ∀ z, z < 24 → s.zoneT z < 5952 + 128 * (l : Int) - 192)) (hm : m = max n (s.fld REEF_STS REEF_STS_PLEVEL)) :
    ∃ t, tlevelChange s = t ∧ t.fld REEF_STS REEF_STS_TLEVEL = n
      ∧ t.fld REEF_STS REEF_STS_LEVEL = m ∧ t.reef.tAt = some s.clock.now
      ∧ (s.fld REEF_STS REEF_STS_LEVEL ≠ m → t.fld CNS_GSTS CNS_GSTS_SHED = (if 1 ≤ m then 1 else 0)
          ∧ t.fld FRL_GSTS FRL_GSTS_SHED = (if 2 ≤ m then 1 else 0) ∧ t.fld WCH_STS WCH_STS_CLK = (if 6 ≤ m then 2 else if 3 ≤ m then 1 else 0)
          ∧ t.fld DEC_STS DEC_STS_LANES_EFF = (if 7 ≤ m then 2 else if 6 ≤ m then 4 else if 4 ≤ m then 8 else 16)
          ∧ t.fld REEF_STS REEF_STS_HOLD = (if 5 ≤ m then 1 else 0) ∧ t.rdN REEF_LVL_CNT = min 0xFFFFFFFF (s.rdN REEF_LVL_CNT + 1))
      ∧ (s.fld REEF_STS REEF_STS_LEVEL = m → s.keeps t [REEF_STS]) := by
  obtain ⟨w, hw⟩ : ∃ w, w = tlevelTo n s := ⟨_, rfl⟩
  have hn : n % 2 ^ 3 = n := lt_eight_of_step (f := REEF_STS_TLEVEL) hl rfl (h.imp (fun h => ⟨h.1, h.2.1⟩) fun h => ⟨h.1, h.2.1⟩)
  obtain ⟨hwt, hwp, hwl, hwat, hwcnt, hwk⟩ := tlevelTo_spec hn s hw
  obtain ⟨hut, _, hul, hureef, hshed, hsame⟩ := levelRefresh_spec (s := w) (m := m) (by rw [hwt, hwp]; exact hm) rfl
  have heq := tlevelChange_eq hoff hten hl h
  rw [← hw] at heq
  refine ⟨_, heq, hut.trans hwt, hul, ?_, fun hne => ?_, fun hold => ?_⟩
  · exact ((congrArg ReefS.tAt hureef :)).trans hwat
  · obtain ⟨hcns, hfrl, hwch, hdec, hhold, hcnt⟩ := hshed (by rw [hwl]; exact hne)
    exact ⟨hcns, hfrl, hwch, hdec, hhold, by rw [hcnt, hwcnt]⟩
  · rw [hsame (hwl.trans hold)]
    exact hwk

/-! ### Trip and restart (R575, R576) -/

theorem analogTrip_spec (s : State) (hu : u = analogTrip s) :
    s.resetBy u 3 ∧ u.rdN REEF_TRIP_CNT = min 0xFFFFFFFF (s.rdN REEF_TRIP_CNT + 1) ∧ u.fld REEF_STS REEF_STS_TRIPPED = 1
      ∧ u.reef.tripped = true ∧ u.reef.cool = none := by
  obtain ⟨d, hd⟩ : ∃ d, d = deviceReset 3 s := ⟨_, rfl⟩
  obtain ⟨⟨hdev, hlast, hpend, hact, hrd, hblocks⟩, _, htrip, _⟩ := deviceReset_spec (kind := 3) (by decide) s hd
  obtain ⟨w, hw⟩ : ∃ w, w = (d.inc REEF_TRIP_CNT).setF REEF_STS REEF_STS_TRIPPED 1 := ⟨_, rfl⟩
  have hwonly : d.onlyRegs w [REEF_TRIP_CNT, REEF_STS] := by
    rw [hw]
    exact onlyRegs_andWr (onlyRegs_andWr (onlyRegs_rfl d _) (by simp)) (by simp)
  have hwe := eq_of_onlyRegs hwonly
  have huw : u = { w with reef := { w.reef with tripped := true, cool := none } } := by
    rw [hu, hw, hd]
    rfl
  have hreset : s.resetBy u 3 := by
    rw [huw]
    refine ⟨?_, ?_, ?_, ?_, fun a ha => ?_, ?_⟩
    · exact (fld_of_keeps (a := GLB_STATE) hwonly.2 (by decide) _).trans hdev
    · exact (fld_of_keeps (a := GLB_BOOT_STS) hwonly.2 (by decide) _).trans hlast
    · exact (congrArg State.pending hwe :).trans hpend
    · exact (congrArg State.act hwe :).trans hact
    · refine (hwonly.2 a fun h => ha ?_).trans (hrd a ha)
      obtain rfl | h := List.mem_cons.1 h
      · decide
      · rw [List.mem_singleton.1 h]
        decide
    · exact (congrArg (fun x : State => { x with regs := [], clock := s.clock, bus := s.bus, hif := s.hif, pwr := s.pwr, reef := s.reef, pending := [] }) hwe :).trans hblocks
  have hcnt : w.rdN REEF_TRIP_CNT = min 0xFFFFFFFF (s.rdN REEF_TRIP_CNT + 1) := by
    rw [hw, rdN_setF_ne _ _ _ _ _ (by decide), rdN_inc, State.rdN, htrip]
    rfl
  have hsts : w.fld REEF_STS REEF_STS_TRIPPED = 1 := by
    rw [hw, fld_setF _ _ _ _ (by decide)]
    rfl
  refine ⟨hreset, ?_, ?_, ?_, ?_⟩
  · rw [huw]
    exact hcnt
  · rw [huw]
    exact hsts
  · rw [huw]
  · rw [huw]

/-- The clock that counts from the release, and Reef after it. -/
def restarted (s : State) : State :=
  { s with clock := default, reef := { s.reef with tripped := false, cool := s.reef.cool.map (· - s.clock.now) } }

theorem tripRestart_eq {c : Int} (hcool : s.reef.cool = some c) (htrip : s.reef.tripped = true) (hat : c + 20000000000 ≤ (s.clock.now : Int)) (hdev : s.dev = dOFF)
    (hgood : s.pwr.good = true) : tripRestart s = (restarted s).setDev dBOOT := by
  have hcond : s.reef.tripped = true ∧ c + 1000 * (msSt : Int) ≤ s.clock.now := ⟨htrip, hat⟩
  obtain ⟨v, hv⟩ : ∃ v : State, v = { s with reef := { s.reef with tripped := false } } := ⟨_, rfl⟩
  have hvtrip : v.dev = dOFF ∧ v.pwr.good = true ∧ ¬ v.reef.tripped = true := by
    rw [hv]
    exact ⟨hdev, hgood, Bool.false_ne_true⟩
  unfold Machine.tripRestart
  rw [hcool]
  dsimp only
  rw [← hv, Machine.resetRelease, if_pos hvtrip, if_pos (by exact_mod_cast hcond), hv]
  rfl

theorem tripRestart_spec (hu : u = (restarted s).setDev dBOOT) :
    u.dev = dBOOT ∧ u.reef.tripped = false ∧ s.keeps u [GLB_STATE] ∧ { u with regs := s.regs, reef := s.reef, clock := s.clock } = s := by
  subst hu
  exact ⟨dev_setDev _ dBOOT, rfl, keeps_setF (keeps_of_regs (keeps_rfl s _) rfl) (by simp), rfl⟩

end

/-- Settles O50: a conversion goes through `converted` and the refresh of its zone, a level through `levelRefresh`, a sample through `powerCheck`. -/
theorem reefFollowsTemperatureAndPower : Obligations.ReefFollowsTemperatureAndPower := by
  unfold Obligations.ReefFollowsTemperatureAndPower
  refine ⟨?_, ?_, ?_, ?_, ?_, ?_, ?_, ?_, ?_, ?_, ?_, ?_, ?_, ?_, ?_, ?_⟩
  · intro s i v xs m hi hoff hbad hxs hrange hok hm hcold
    obtain ⟨u, hu⟩ : ∃ u, u = zoneRefresh (i / 2) (converted i xs s) := ⟨_, rfl⟩
    have heq := sensorConv_passed hi hoff hbad hxs hok hu
    rw [if_neg (fun h => absurd h.1 (by rw [← hm]; unfold deg; omega))] at heq
    exact ⟨u, congrArg Host.Outcome.next heq, passed_spec hi hbad hxs hrange hm hu⟩
  · intro s i v xs m hi hbad hxs hrange hok hm hhot hoff hsafe
    obtain ⟨u, hu⟩ : ∃ u, u = zoneRefresh (i / 2) (converted i xs s) := ⟨_, rfl⟩
    obtain ⟨hT, _, _, _, _, hk, _⟩ := passed_spec hi hbad hxs hrange hm hu
    have hdev : u.dev = s.dev := fld_of_keeps hk (sens_ne_glbState i) _
    have heq := sensorConv_passed hi hoff hbad hxs hok hu
    rw [if_pos ⟨by rw [← hm]; unfold deg; omega, safe_of_hot hdev hsafe⟩] at heq
    obtain ⟨hd, hcode, hrd⟩ := fatal_spec (hdev ▸ hoff) (code := E_REEF_OVERTEMP) (by decide) islHub i
    refine ⟨_, congrArg Host.Outcome.next heq, hd, hcode, ?_⟩
    have hsens : (fatal E_REEF_OVERTEMP islHub i u).rd (REEF_SENS i) = u.rd (REEF_SENS i) :=
      hrd _ (.inr (.inl (by unfold REEF_SENS; omega))) (by unfold REEF_SENS GLB_STATE; omega)
    exact (congrArg (fun w => sgn 16 (getF w REEF_SENS_TEMP)) hsens).trans hT
  · intro s i v m hi hoff hbad hm hlo hhi
    exact ⟨_, congrArg Host.Outcome.next (sensorConv_off hi hoff hbad rfl rfl), off_spec rfl hm hi hlo hhi rfl rfl⟩
  · intro s i v hi hoff hbad hother hout
    obtain ⟨hfails, hT, hsts, _, hbus, hk, hrest⟩ := sensFails_spec (s := s) hi hother rfl
    exact ⟨_, congrArg Host.Outcome.next (sensorConv_failed hi hoff hbad hout), hfails, hT, hsts, hbus, hk, hrest⟩
  · intro s l n m hoff hten hl h hm
    obtain ⟨k, hk⟩ : ∃ k : Nat, n = k := Int.eq_ofNat_of_zero_le (by omega)
    subst hl hk
    have hm' : m = (max k (s.fld REEF_STS REEF_STS_PLEVEL) : Nat) := by exact_mod_cast hm
    obtain ⟨t, ht, htl, hlev, hat, hshed, hsame⟩ := tlevelChange_spec hoff hten rfl (n := k)
      (h.imp (fun ⟨h7, hn, hz⟩ => ⟨by omega, by omega, hz⟩) fun ⟨h0, hn, hz⟩ => ⟨by omega, by omega, hz⟩) rfl
    rw [hm']
    refine ⟨t, congrArg Host.Outcome.next ht, congrArg Nat.cast htl, congrArg Nat.cast hlev, hat, fun hne => ?_, fun he => hsame (by exact_mod_cast he)⟩
    exact_mod_cast hshed (by exact_mod_cast hne)
  · intro s l n m hoff hten hl h hm
    obtain ⟨w, hw⟩ : ∃ w, w = plevelTo n s := ⟨_, rfl⟩
    have hn : n % 2 ^ 3 = n := lt_eight_of_step (f := REEF_STS_PLEVEL) hl rfl (h.imp (fun h => ⟨h.1, h.2.1⟩) fun h => ⟨h.1, h.2.1⟩)
    obtain ⟨hwp, hwt, hwl, hwat, hwk⟩ := plevelTo_spec hn s hw
    obtain ⟨_, hup, hul, hureef, _, hsame⟩ := levelRefresh_spec (s := w) (m := m) (by rw [hwt, hwp]; exact hm) rfl
    have heq := plevelChange_eq hoff hten hl h
    rw [← hw] at heq
    refine ⟨_, congrArg Host.Outcome.next heq, hup.trans hwp, hul, ((congrArg ReefS.pAt hureef :)).trans hwat, fun hold => ?_⟩
    rw [hsame (hwl.trans hold)]
    exact hwk
  · exact fun s vs hoff => congrArg Host.Outcome.next (railSample_off hoff)
  · intro s vs mw hoff hmw hbelow
    have heq := railSample_eq hoff hmw rfl rfl
    rw [powerCheck_below hbelow] at heq
    obtain ⟨w, hw⟩ : ∃ w, w = railState (railReef vs ((mw :: s.reef.power).take 100) (s.fld REEF_PLIM REEF_PLIM_W * 1000) s.reef)
      (meanN ((mw :: s.reef.power).take 100)) s := ⟨_, rfl⟩
    obtain ⟨hpwr, hrails, hk, hreef, hrest⟩ := railState_spec _ _ _ hw
    rw [← hw] at heq
    refine ⟨_, congrArg Host.Outcome.next heq, hpwr, fun r hr => ?_, rfl, (congrArg ReefS.lim hreef :), keeps_of_regs hk rfl,
      (congrArg (fun x : State => { x with reef := s.reef }) hrest :)⟩
    refine (hrails r hr).trans (congrArg railWord ?_)
    exact (tget_railsTaken _ r 6).trans (if_pos hr)
  · intro s vs mw a hoff hmw habove hp ha hat htold
    have heq := railSample_eq hoff hmw rfl rfl
    obtain ⟨w, hw⟩ : ∃ w, w = railState (railReef vs ((mw :: s.reef.power).take 100) (s.fld REEF_PLIM REEF_PLIM_W * 1000) s.reef)
      (meanN ((mw :: s.reef.power).take 100)) s := ⟨_, rfl⟩
    obtain ⟨_, _, hk, hreef, hrest⟩ := railState_spec _ _ _ hw
    rw [← hw] at heq
    have hnow : w.clock.now = s.clock.now := (congrArg (fun x : State => x.clock.now) hrest :)
    have hbus : w.bus = s.bus := (congrArg State.bus hrest :)
    obtain ⟨hfail, htbus⟩ := powerCheck_told habove ((fld_of_keeps (a := REEF_STS) hk (by decide) _).trans hp) ((congrArg ReefS.above hreef :).trans ha)
      (hnow ▸ hat) ((congrArg ReefS.told hreef :).trans htold) rfl
    exact ⟨_, congrArg Host.Outcome.next heq, hfail, by rw [htbus, hbus]⟩
  · intro s v hopen hlo hhi
    obtain ⟨hstatus, honly⟩ := reefStatus_spec 0 (by decide) (s.wrN REEF_PLIM v) rfl
    refine ⟨_, next_hostWr hopen (plimWrite_legal hlo hhi), ?_, hstatus, onlyRegs_trans (onlyRegs_andWr (onlyRegs_rfl s [REEF_PLIM]) (by simp)) honly (by simp) (by simp)⟩
    rw [rdN_of_keeps honly.2 (by decide), rdN_wrN]
    exact Nat.mod_eq_of_lt (by omega)
  · intro s v hopen hv
    exact ⟨_, next_hostWr hopen (plimWrite_range hv), reefStatus_spec _ (by decide) s rfl⟩
  · intro s i xs hopen hi hlen hok
    exact ⟨_, next_hostWr hopen rfl, retest_passed_spec hi hlen hok rfl⟩
  · intro s i xs pass hopen hi hother h
    exact ⟨_, next_hostWr hopen rfl, retest_failed_spec hi hother h rfl⟩
  · intro s i xs pass hopen hi _
    exact ⟨_, next_hostWr hopen (sensRetest_out hi pass), reefStatus_spec _ (by decide) s rfl⟩
  · exact fun s => ⟨_, rfl, analogTrip_spec s rfl⟩
  · intro s c hcool htrip hat hdev hgood
    exact ⟨_, congrArg Host.Outcome.next (tripRestart_eq hcool htrip hat hdev hgood), tripRestart_spec rfl⟩

end Sys2Proof.Laws
end

section
namespace Sys2Proof.Laws
open Sys2Proof.Machine

-- One theorem after another: a thread for each of them passes the memory limit of the check.
set_option Elab.async false

section
variable {s t u : State} {c n i : Nat} {a b k f : List (BitVec 8)} {z : List Nat}

/-! ### The stages of BOOT (Table 21-4) -/

theorem bootStage_of_notBoot (h : s.dev ≠ dBOOT) : bootStage c a b k f z s = s := if_pos h

theorem bootStage_one (hdev : s.dev = dBOOT) (hst : s.stage = 1) :
    bootStage c a b k f z s = if c ≠ 0 then bootFail c s else ({ s with stay := { s.stay with tb0 := 0 } } : State).setStage 2 := by
  unfold Machine.bootStage
  rw [if_neg (not_not.2 hdev)]
  simp only [hst]

theorem bootStage_three (hdev : s.dev = dBOOT) (hst : s.stage = 3) : bootStage c a b k f z s = if c ≠ 0 then bootFail c s else s.setStage 4 := by
  unfold Machine.bootStage
  rw [if_neg (not_not.2 hdev)]
  simp only [hst]

/-- The clocks of the auxiliary PLL in lock (R621). -/
def auxLocked (s : State) : State :=
  ((s.setF GLB_CLK_STS GLB_CLK_STS_REFCLK_OK 1).setF GLB_CLK_STS GLB_CLK_STS_AUX_LOCK 1).setF GLB_BOOT_STS GLB_BOOT_STS_CAUSE 0

/-- The time of a try is noted. -/
def tryNoted (s : State) : State := { s with pwr := { s.pwr with tryAt := s.clock.now } }

theorem bootStage_two (hdev : s.dev = dBOOT) (hst : s.stage = 2) (hcause : s.fld GLB_BOOT_STS GLB_BOOT_STS_CAUSE ≠ 1) :
    bootStage c a b k f z s = if c = 1 then (tryNoted s).setF GLB_BOOT_STS GLB_BOOT_STS_CAUSE 1
      else if c ≠ 0 then bootFail c (auxLocked (tryNoted s))
      else (((auxLocked (tryNoted s)).setF GLB_CLK_STS GLB_CLK_STS_SYNTH_LOCK 1).setF GLB_CLK_STS GLB_CLK_STS_FALLBACK 0).setStage 3 := by
  unfold Machine.bootStage
  rw [if_neg (not_not.2 hdev)]
  simp only [hst, beq_eq_false_iff_ne.2 hcause, Bool.false_eq_true, if_false]
  rfl

theorem bootStage_waits (hdev : s.dev = dBOOT) (hst : s.stage = 2) (hcause : s.fld GLB_BOOT_STS GLB_BOOT_STS_CAUSE = 1) :
    bootStage c a b k f z s = s := by
  unfold Machine.bootStage
  rw [if_neg (not_not.2 hdev)]
  simp only [hst, hcause, beq_self_eq_true, if_true]

theorem bootStage_four (hdev : s.dev = dBOOT) (hst : s.stage = 4) (hu : u = sensBoot z s) (hdevu : u.dev = dBOOT) :
    bootStage c a b k f z s = if c ≠ 0 then bootFail c u else u.setStage 5 := by
  unfold Machine.bootStage
  rw [if_neg (not_not.2 hdev)]
  simp only [hst, ← hu, hdevu, ne_eq, not_true_eq_false, if_false]

theorem bootStage_five (hdev : s.dev = dBOOT) (hst : s.stage = 5) :
    bootStage c a b k f z s = if c ≠ 0 then bootFail c s
      else if bootCopies (s.flag GLB_BOOT_STS GLB_BOOT_STS_XSPI_MODE) a b = [] then bootFail 4 s
      else ownerKeys k (({ s with pwr := { s.pwr with copies := bootCopies (s.flag GLB_BOOT_STS GLB_BOOT_STS_XSPI_MODE) a b } } : State).setStage 6) := by
  unfold Machine.bootStage
  rw [if_neg (not_not.2 hdev)]
  simp only [hst]

/-- A copy of the firmware that passes its checks. -/
def bootTaken (n len off : Nat) (f : List (BitVec 8)) (s : State) : State :=
  (({ s with pwr := { s.pwr with copies := [], auto_ := some (off, len) }, shr := { s.shr with fw := sha f } } : State).setF GLB_FW_VER GLB_FW_VER_VER
    (leAt f 4 2)).setF GLB_BOOT_STS GLB_BOOT_STS_COPY n

theorem bootStage_six {len off ilen e : Nat} {rest : List (Nat × Nat × Nat × Nat)} (hdev : s.dev = dBOOT) (hst : s.stage = 6)
    (hcopies : s.pwr.copies = (n, len, off, ilen) :: rest) (hc : c = if e = 0 then s.fwCause len f else e) :
    bootStage e a b k f z s = if c = 0 then bootDone (bootTaken n ilen off f s)
      else if rest = [] then bootFail c { s with pwr := { s.pwr with copies := rest } } else { s with pwr := { s.pwr with copies := rest } } := by
  have hc' : c = if e ≠ 0 then e else s.fwCause len f := by rw [hc, ite_not]
  unfold Machine.bootStage
  rw [if_neg (not_not.2 hdev)]
  simp only [hst, hcopies, ← hc']
  rfl

theorem sensBoot_nil (s : State) : sensBoot [] s = s := by
  unfold Machine.sensBoot
  rw [List.filter_eq_nil_iff.2 (fun _ _ => by simp)]
  rfl

theorem sensBoot_one (hi : i < 48) (s : State) : sensBoot [i] s = sensFails i s := by
  have hone : ∀ i < 48, ((List.range 48).filter fun k => [i].contains k) = [i] := by decide
  unfold Machine.sensBoot
  rw [hone i hi]
  rfl

/-! ### The effects of a stage -/

theorem setStage_spec (hn : n < 8) (s : State) : (s.setStage n).stage = n ∧ (s.setStage n).dev = s.dev ∧ s.onlyRegs (s.setStage n) [GLB_BOOT_STS] :=
  ⟨(fld_setF _ _ _ _ (by decide)).trans (Nat.mod_eq_of_lt (hn.trans (by decide))), fld_setF_ne _ _ _ _ _ _ (by decide), onlyRegs_setF ..⟩

/-- A boot failure (R622). -/
theorem bootFail_spec (hdev : s.dev ≠ dOFF) (hc : c < 256) :
    (bootFail c s).dev = dSAFE ∧ (bootFail c s).fld GLB_STATE GLB_STATE_SAFE_STATUS = E_FLT_BOOT ∧ (bootFail c s).fld GLB_BOOT_STS GLB_BOOT_STS_CAUSE = c := by
  obtain ⟨w, hw⟩ : ∃ w, w = s.setF GLB_BOOT_STS GLB_BOOT_STS_CAUSE c := ⟨_, rfl⟩
  have hwdev : w.dev ≠ dOFF := by
    rw [hw]
    exact (fld_setF_ne _ _ _ _ _ _ (by decide)).trans_ne hdev
  have hwcause : w.fld GLB_BOOT_STS GLB_BOOT_STS_CAUSE = c := by
    rw [hw, fld_setF _ _ _ _ (by decide)]
    exact Nat.mod_eq_of_lt hc
  obtain ⟨hsafe, hstatus, hrd⟩ := fatal_spec hwdev (code := E_FLT_BOOT) (by decide) islHub c
  rw [bootFail, ← hw]
  exact ⟨hsafe, hstatus, (congrArg (getF · GLB_BOOT_STS_CAUSE) (hrd GLB_BOOT_STS calmReg_bootSts (by decide))).trans hwcause⟩

theorem boot_ne_off (h : s.dev = dBOOT) : s.dev ≠ dOFF := by
  rw [h]
  decide

theorem auxLocked_spec (s : State) :
    (auxLocked s).fld GLB_CLK_STS GLB_CLK_STS_REFCLK_OK = 1 ∧ (auxLocked s).fld GLB_CLK_STS GLB_CLK_STS_AUX_LOCK = 1
      ∧ (auxLocked s).fld GLB_BOOT_STS GLB_BOOT_STS_CAUSE = 0 ∧ (auxLocked s).stage = s.stage ∧ s.onlyRegs (auxLocked s) [GLB_CLK_STS, GLB_BOOT_STS] := by
  refine ⟨?_, ?_, fld_setF _ _ _ _ (by decide), ?_, onlyRegs_andWr (onlyRegs_andWr (onlyRegs_andWr (onlyRegs_rfl s _) (by simp)) (by simp)) (by simp)⟩
  · rw [auxLocked, fld_setF_ne _ _ _ _ _ _ (by decide),
      fld_setF_beside _ _ GLB_CLK_STS_AUX_LOCK GLB_CLK_STS_REFCLK_OK _ (by decide) (by decide) (by decide)]
    exact fld_setF _ _ _ _ (by decide)
  · rw [auxLocked, fld_setF_ne _ _ _ _ _ _ (by decide)]
    exact fld_setF _ _ _ _ (by decide)
  · rw [State.stage, auxLocked, fld_setF_beside _ _ GLB_BOOT_STS_CAUSE GLB_BOOT_STS_STAGE _ (by decide) (by decide) (by decide),
      fld_setF_ne _ _ _ _ _ _ (by decide), fld_setF_ne _ _ _ _ _ _ (by decide)]
    rfl

/-- Stage 2 without failure. -/
def clocksLocked (s : State) : State :=
  (((auxLocked (tryNoted s)).setF GLB_CLK_STS GLB_CLK_STS_SYNTH_LOCK 1).setF GLB_CLK_STS GLB_CLK_STS_FALLBACK 0).setStage 3

theorem clocksLocked_spec (hu : u = clocksLocked s) :
    u.stage = 3 ∧ u.fld GLB_CLK_STS GLB_CLK_STS_REFCLK_OK = 1 ∧ u.fld GLB_CLK_STS GLB_CLK_STS_AUX_LOCK = 1
      ∧ u.fld GLB_CLK_STS GLB_CLK_STS_SYNTH_LOCK = 1 ∧ u.fld GLB_CLK_STS GLB_CLK_STS_FALLBACK = 0
      ∧ s.keeps u [GLB_BOOT_STS, GLB_CLK_STS] ∧ { u with regs := s.regs, pwr := s.pwr } = s := by
  obtain ⟨w, hw⟩ : ∃ w, w = auxLocked (tryNoted s) := ⟨_, rfl⟩
  obtain ⟨href, haux, _, _, honly⟩ := auxLocked_spec (tryNoted s)
  rw [← hw] at href haux honly
  obtain ⟨x, hx⟩ : ∃ x, x = (w.setF GLB_CLK_STS GLB_CLK_STS_SYNTH_LOCK 1).setF GLB_CLK_STS GLB_CLK_STS_FALLBACK 0 := ⟨_, rfl⟩
  have hxonly : w.onlyRegs x [GLB_CLK_STS] := by
    rw [hx]
    exact onlyRegs_andWr (onlyRegs_andWr (onlyRegs_rfl w _) (by simp)) (by simp)
  rw [clocksLocked, ← hw, ← hx] at hu
  obtain ⟨hstage, _, huonly⟩ := setStage_spec (n := 3) (by decide) x
  rw [← hu] at hstage huonly
  have hclk (f : Fld) : u.fld GLB_CLK_STS f = x.fld GLB_CLK_STS f := fld_of_keeps huonly.2 (by decide) f
  refine ⟨hstage, ?_, ?_, ?_, ?_, ?_, ?_⟩
  · rw [hclk, hx, fld_setF_beside _ _ GLB_CLK_STS_FALLBACK GLB_CLK_STS_REFCLK_OK _ (by decide) (by decide) (by decide),
      fld_setF_beside _ _ GLB_CLK_STS_SYNTH_LOCK GLB_CLK_STS_REFCLK_OK _ (by decide) (by decide) (by decide), href]
  · rw [hclk, hx, fld_setF_beside _ _ GLB_CLK_STS_FALLBACK GLB_CLK_STS_AUX_LOCK _ (by decide) (by decide) (by decide),
      fld_setF_beside _ _ GLB_CLK_STS_SYNTH_LOCK GLB_CLK_STS_AUX_LOCK _ (by decide) (by decide) (by decide), haux]
  · rw [hclk, hx, fld_setF_beside _ _ GLB_CLK_STS_FALLBACK GLB_CLK_STS_SYNTH_LOCK _ (by decide) (by decide) (by decide)]
    exact fld_setF _ _ _ _ (by decide)
  · rw [hclk, hx]
    exact fld_setF _ _ _ _ (by decide)
  · exact keeps_trans (keeps_trans (keeps_trans (keeps_of_regs (keeps_rfl s []) (u := tryNoted s) rfl) honly.2 (cs := [GLB_BOOT_STS, GLB_CLK_STS]) (by simp) (by simp)) hxonly.2
      (cs := [GLB_BOOT_STS, GLB_CLK_STS]) (by simp) (by simp)) huonly.2 (by simp) (by simp)
  · calc { u with regs := s.regs, pwr := s.pwr }
        = { x with regs := s.regs, pwr := s.pwr } := (congrArg (fun y : State => { y with regs := s.regs, pwr := s.pwr }) (eq_of_onlyRegs huonly) :)
      _ = { w with regs := s.regs, pwr := s.pwr } := (congrArg (fun y : State => { y with regs := s.regs, pwr := s.pwr }) (eq_of_onlyRegs hxonly) :)
      _ = { tryNoted s with regs := s.regs, pwr := s.pwr } := (congrArg (fun y : State => { y with regs := s.regs, pwr := s.pwr }) (eq_of_onlyRegs honly) :)
      _ = s := rfl

/-- The keys of the owner touch their register and the Shroud state (R626). -/
theorem ownerKeys_spec (r : List (BitVec 8)) (s : State) (hu : u = ownerKeys r s) : s.keeps u [SHR_OKEY] ∧ { u with regs := s.regs, shr := s.shr } = s := by
  subst hu
  exact ⟨keeps_setF (keeps_of_regs (keeps_rfl s _) rfl) (by simp), rfl⟩

theorem fwCause_lt (len : Nat) (f : List (BitVec 8)) : s.fwCause len f < 256 := by
  unfold State.fwCause
  dsimp only
  split_ifs <;> decide

theorem bootTaken_spec {len off : Nat} (hn : n < 2) (hu : u = bootTaken n len off f s) :
    u.fld GLB_FW_VER GLB_FW_VER_VER = leAt f 4 2 ∧ u.fld GLB_BOOT_STS GLB_BOOT_STS_COPY = n ∧ u.lifecycle = s.lifecycle ∧ u.lastReset = s.lastReset
      ∧ u.shr.fw = sha f ∧ u.pwr.copies = [] ∧ u.pwr.auto_ = some (off, len) := by
  have hver : leAt f 4 2 % 2 ^ GLB_FW_VER_VER.2 = leAt f 4 2 := Nat.mod_eq_of_lt (leAt_lt ..)
  subst hu
  refine ⟨?_, (fld_setF _ _ _ _ (by decide)).trans (Nat.mod_eq_of_lt hn), ?_, ?_, rfl, rfl, rfl⟩
  · exact (fld_setF_ne _ _ _ _ _ _ (by decide)).trans ((fld_setF _ _ _ _ (by decide)).trans hver)
  · exact (fld_setF_ne _ _ _ _ _ _ (by decide)).trans (fld_setF_ne _ _ _ _ _ _ (by decide))
  · exact (fld_setF_beside _ _ GLB_BOOT_STS_COPY GLB_BOOT_STS_LAST_RESET _ (by decide) (by decide) (by decide)).trans (fld_setF_ne _ _ _ _ _ _ (by decide))

theorem bootDone_eq {off : Nat} (hlife : s.lifecycle ≠ 3) (hlast : s.lastReset ≠ 3) (hauto : s.pwr.auto_ = some (off, 0)) :
    bootDone s = enterConfig (s.setStage 7) := by
  obtain ⟨w, hw⟩ : ∃ w, w = s.setStage 7 := ⟨_, rfl⟩
  have hwlife : w.lifecycle ≠ 3 := by
    rw [hw]
    exact (fld_setF_ne _ _ _ _ _ _ (by decide)).trans_ne hlife
  have hwlast : w.lastReset ≠ 3 := by
    rw [hw]
    exact (fld_setF_beside _ _ GLB_BOOT_STS_STAGE GLB_BOOT_STS_LAST_RESET _ (by decide) (by decide) (by decide)).trans_ne hlast
  have hwauto : (enterConfig w).pwr.auto_ = some (off, 0) := by
    have hpwr : (enterConfig w).pwr = (w.setDev dCONFIG).pwr := (enterConfig_calm w).pwr
    rw [hpwr, hw]
    exact hauto
  unfold Machine.bootDone
  dsimp only
  rw [← hw, if_neg hwlife, if_neg hwlast]
  simp only [hwauto, if_true]

theorem bootDone_spec {off : Nat} (hlife : s.lifecycle ≠ 3) (hlast : s.lastReset ≠ 3) (hauto : s.pwr.auto_ = some (off, 0)) (hu : u = bootDone s) :
    u.dev = dCONFIG ∧ u.stage = 7 ∧ u.rd GLB_FW_VER = s.rd GLB_FW_VER ∧ u.fld GLB_BOOT_STS GLB_BOOT_STS_COPY = s.fld GLB_BOOT_STS GLB_BOOT_STS_COPY
      ∧ u.shr = s.shr ∧ u.pwr = s.pwr := by
  rw [bootDone_eq hlife hlast hauto] at hu
  have hcalm := enterConfig_calm (s.setStage 7)
  rw [← hu] at hcalm
  have hboot (f : Fld) : u.fld GLB_BOOT_STS f = (s.setStage 7).fld GLB_BOOT_STS f :=
    (hcalm.fld calmReg_bootSts f).trans (fld_setF_ne _ _ _ _ _ _ (by decide))
  refine ⟨hcalm.dev.trans (dev_setDev _ dCONFIG), ?_, ?_, ?_, hcalm.shr, hcalm.pwr⟩
  · rw [State.stage, hboot]
    exact (setStage_spec (by decide) s).1
  · rw [hcalm.regs _ calmReg_fwVer]
    exact (rd_setF_ne _ _ _ _ _ (by decide)).trans (rd_setF_ne _ _ _ _ _ (by decide))
  · rw [hboot]
    exact fld_setF_beside _ _ GLB_BOOT_STS_STAGE GLB_BOOT_STS_COPY _ (by decide) (by decide) (by decide)

theorem auxRetry_locks (hdev : s.dev = dBOOT) (hst : s.stage = 2) (hcause : s.fld GLB_BOOT_STS GLB_BOOT_STS_CAUSE = 1)
    (hat : s.pwr.tryAt + 100000000 ≤ s.clock.now) : auxRetry true s = auxLocked (tryNoted s) :=
  if_pos (c := s.dev = dBOOT ∧ s.stage = 2 ∧ s.fld GLB_BOOT_STS GLB_BOOT_STS_CAUSE = 1 ∧ s.pwr.tryAt + 5 * msSt ≤ s.clock.now) ⟨hdev, hst, hcause, hat⟩

/-! ### SMBus (R629) -/

/-- The answer with the PEC over address, command, address and data. -/
def smbPec (c : Nat) (bs : List (BitVec 8)) (s : State) : BitVec 8 :=
  ([BitVec.ofNat 8 (2 * (0x58 + s.fld GLB_BOOT_STS GLB_BOOT_STS_SMB_ADDR)), BitVec.ofNat 8 c,
    BitVec.ofNat 8 (2 * (0x58 + s.fld GLB_BOOT_STS GLB_BOOT_STS_SMB_ADDR) + 1)] ++ bs).foldl pecByte 0

theorem le_two (v : Nat) : le 2 v = [BitVec.ofNat 8 v, BitVec.ofNat 8 (v / 256)] := by
  have h0 : v / 256 ^ 0 = v := by rw [pow_zero, Nat.div_one]
  have h1 : v / 256 ^ 1 = v / 256 := by rw [pow_one]
  exact congrArg₂ (fun x y => [BitVec.ofNat 8 x, BitVec.ofNat 8 y]) h0 h1

theorem smbAnswer_eq (c : Nat) (bs : List (BitVec 8)) (s : State) :
    smbAnswer c bs s = { s with pwr := { s.pwr with smb := bs ++ [smbPec c bs s] } } := rfl

theorem smbWord_eq (c v : Nat) (s : State) : smbWord c v s = { s with pwr := { s.pwr with smb :=
    [BitVec.ofNat 8 v, BitVec.ofNat 8 (v / 256), smbPec c [BitVec.ofNat 8 v, BitVec.ofNat 8 (v / 256)] s] } } := by
  rw [smbWord, le_two, smbAnswer_eq]
  rfl

/-- The reads of words, with their command and value. -/
theorem exec_smbWord {j : Instr} {v : Nat}
    (h : (j, c, v) ∈ [(Instr.smbBootStsLow, 0, s.rdN GLB_BOOT_STS % 2 ^ 16), (.smbBootStsHigh, 1, s.rdN GLB_BOOT_STS / 2 ^ 16),
      (.smbState, 2, if s.dev = dOFF then 0 else s.rdN GLB_STATE % 2 ^ 16), (.smbReefSts, 3, s.rdN REEF_STS % 2 ^ 16),
      (.smbTripCnt, 4, s.rdN REEF_TRIP_CNT % 2 ^ 16)] ++ (List.range 24).map (fun z => (Instr.smbZoneTemp z, 0x10 + z, s.fld (REEF_ZONE z) REEF_ZONE_TEMP))) :
    exec j s = .next (smbWord c v s) := by
  obtain h | h := List.mem_append.1 h
  · simp only [List.mem_cons, List.not_mem_nil, or_false, Prod.mk.injEq] at h
    obtain ⟨rfl, rfl, rfl⟩ | ⟨rfl, rfl, rfl⟩ | ⟨rfl, rfl, rfl⟩ | ⟨rfl, rfl, rfl⟩ | ⟨rfl, rfl, rfl⟩ := h
    · rfl
    · rfl
    · rfl
    · rfl
    · rfl
  · obtain ⟨z, hz, heq⟩ := List.mem_map.1 h
    obtain ⟨rfl, hrest⟩ := Prod.mk.inj heq
    obtain ⟨rfl, rfl⟩ := Prod.mk.inj hrest
    exact congrArg Host.Outcome.next (if_pos (List.mem_range.1 hz))

end

/-- Settles O53: one equation for each stage of `bootStage`, and one for the answers of SMBus. -/
theorem bootAdvancesAndSmbusAnswers : Obligations.BootAdvancesAndSmbusAnswers := by
  unfold Obligations.BootAdvancesAndSmbusAnswers
  refine ⟨?_, ?_, ?_, ?_, ?_, ?_, ?_, ?_, ?_, ?_, ?_, ?_, ?_, ?_⟩
  · intro s n a b k f z hdev hst hn
    obtain rfl | rfl | ⟨rfl, rfl⟩ := hn
    · obtain ⟨c, hc⟩ : ∃ c : State, c = { s with stay := { s.stay with tb0 := 0 } } := ⟨_, rfl⟩
      obtain ⟨hstage, hd, honly⟩ := setStage_spec (n := 2) (by decide) c
      have hcs : c.regs = s.regs ∧ c.stay.tb0 = 0 ∧ c.dev = s.dev ∧ { c with stay := s.stay } = s := by
        rw [hc]
        exact ⟨rfl, rfl, rfl, rfl⟩
      obtain ⟨hcregs, hctb0, hcdev, hcrest⟩ := hcs
      refine ⟨_, congrArg Host.Outcome.next ((bootStage_one hdev hst).trans ((if_neg (not_not.2 rfl)).trans (congrArg (State.setStage · 2) hc.symm))), hstage,
        hd.trans (hcdev.trans hdev), fun _ => hctb0, fun h => absurd rfl h, keeps_trans (keeps_of_regs (keeps_rfl s []) hcregs) honly.2 (by simp) (by simp), ?_⟩
      exact (congrArg (fun x : State => { x with regs := s.regs, stay := s.stay }) (eq_of_onlyRegs honly) :).trans
        (congrArg (fun x : State => { x with regs := s.regs }) hcrest :)
    · obtain ⟨hstage, hd, honly⟩ := setStage_spec (n := 4) (by decide) s
      exact ⟨_, congrArg Host.Outcome.next ((bootStage_three hdev hst).trans (if_neg (not_not.2 rfl))), hstage, hd.trans hdev, fun h => absurd h (by decide),
        fun _ => rfl, honly.2, rfl⟩
    · obtain ⟨hstage, hd, honly⟩ := setStage_spec (n := 5) (by decide) s
      exact ⟨_, congrArg Host.Outcome.next ((bootStage_four hdev hst (sensBoot_nil s).symm hdev).trans (if_neg (not_not.2 rfl))), hstage, hd.trans hdev,
        fun h => absurd h (by decide), fun _ => rfl, honly.2, rfl⟩
  · intro s a b k f i hdev hst hi hother
    obtain ⟨u, hu⟩ : ∃ u, u = sensFails i s := ⟨_, rfl⟩
    obtain ⟨hbad, hT, _, _, hbus, hk, hrest⟩ := sensFails_spec hi hother hu
    have hudev : u.dev = dBOOT := (fld_of_keeps hk (sens_ne_glbState i) _).trans hdev
    obtain ⟨hstage, hd, honly⟩ := setStage_spec (n := 5) (by decide) u
    have hsens : REEF_SENS i ∉ [GLB_BOOT_STS] := by
      rw [List.mem_singleton]
      unfold REEF_SENS GLB_BOOT_STS
      omega
    refine ⟨_, congrArg Host.Outcome.next ((bootStage_four hdev hst (hu.trans (sensBoot_one hi s).symm) hudev).trans (if_neg (not_not.2 rfl))), hstage, hd.trans hudev,
      (sensBad_of_keeps honly.2 hsens).trans hbad, (sensT_of_keeps honly.2 hsens).trans hT, hbus, keeps_trans hk honly.2 (by simp) (by simp), ?_⟩
    exact (congrArg (fun x : State => { x with regs := s.regs, reef := s.reef, bus := s.bus }) (eq_of_onlyRegs honly) :).trans hrest
  · intro s a b k f z hdev hst hcause
    exact ⟨_, congrArg Host.Outcome.next ((bootStage_two hdev hst hcause).trans ((if_neg Nat.zero_ne_one).trans (if_neg (not_not.2 rfl)))), clocksLocked_spec rfl⟩
  · intro s a b k f z hdev hst hcause
    refine ⟨_, congrArg Host.Outcome.next ((bootStage_two hdev hst hcause).trans (if_pos rfl)), ?_, fld_setF _ _ _ _ (by decide), rfl,
      keeps_setF (keeps_of_regs (keeps_rfl s _) rfl) (by simp), rfl⟩
    exact (fld_setF_beside _ _ GLB_BOOT_STS_CAUSE GLB_BOOT_STS_STAGE _ (by decide) (by decide) (by decide)).trans hst
  · exact fun s c a b k f z hdev hst hcause => congrArg Host.Outcome.next (bootStage_waits hdev hst hcause)
  · intro s a b k f z c hdev hst hpos hlt
    have hc : c ≠ 0 := by omega
    obtain hst | hst | ⟨hst, rfl⟩ | hst | ⟨hst, hc1, hcause⟩ := hst
    · exact ⟨_, congrArg Host.Outcome.next ((bootStage_one hdev hst).trans (if_pos hc)), bootFail_spec (boot_ne_off hdev) hlt⟩
    · exact ⟨_, congrArg Host.Outcome.next ((bootStage_three hdev hst).trans (if_pos hc)), bootFail_spec (boot_ne_off hdev) hlt⟩
    · exact ⟨_, congrArg Host.Outcome.next ((bootStage_four hdev hst (sensBoot_nil s).symm hdev).trans (if_pos hc)), bootFail_spec (boot_ne_off hdev) hlt⟩
    · exact ⟨_, congrArg Host.Outcome.next ((bootStage_five hdev hst).trans (if_pos hc)), bootFail_spec (boot_ne_off hdev) hlt⟩
    · obtain ⟨_, _, _, _, honly⟩ := auxLocked_spec (tryNoted s)
      have hlocked : (auxLocked (tryNoted s)).dev = dBOOT := (fld_of_keeps (a := GLB_STATE) honly.2 (by decide) _).trans hdev
      exact ⟨_, congrArg Host.Outcome.next ((bootStage_two hdev hst hcause).trans ((if_neg hc1).trans (if_pos hc))), bootFail_spec (boot_ne_off hlocked) hlt⟩
  · intro s a b k f z cs hdev hst hcs hne
    obtain ⟨c, hc⟩ : ∃ c : State, c = { s with pwr := { s.pwr with copies := cs } } := ⟨_, rfl⟩
    have hcspec : c.regs = s.regs ∧ c.pwr = { s.pwr with copies := cs } ∧ c.dev = s.dev ∧ { c with pwr := s.pwr } = s := by
      rw [hc]
      exact ⟨rfl, rfl, rfl, rfl⟩
    obtain ⟨hcregs, hcpwr, hcdev, hcrest⟩ := hcspec
    obtain ⟨hstage, hd, honly⟩ := setStage_spec (n := 6) (by decide) c
    obtain ⟨w, hw⟩ : ∃ w, w = c.setStage 6 := ⟨_, rfl⟩
    rw [← hw] at hstage hd honly
    have heq := (bootStage_five (c := 0) (a := a) (b := b) (k := k) (f := f) (z := z) hdev hst).trans (if_neg (not_not.2 rfl))
    rw [← hcs, if_neg hne, ← hc, ← hw] at heq
    obtain ⟨hk, hrest⟩ := ownerKeys_spec k w rfl
    refine ⟨_, congrArg Host.Outcome.next heq, (fld_of_keeps (a := GLB_BOOT_STS) hk (by decide) _).trans hstage, ?_, ?_, ?_, ?_⟩
    · exact (congrArg State.pwr hrest :).trans ((congrArg State.pwr (eq_of_onlyRegs honly) :).trans hcpwr)
    · exact (fld_of_keeps (a := GLB_STATE) hk (by decide) _).trans (hd.trans (hcdev.trans hdev))
    · exact keeps_trans (keeps_trans (keeps_of_regs (keeps_rfl s []) hcregs) honly.2 (cs := [GLB_BOOT_STS, SHR_OKEY]) (by simp) (by simp)) hk (by simp) (by simp)
    · calc { ownerKeys k w with regs := s.regs, pwr := s.pwr, shr := s.shr }
          = { w with regs := s.regs, pwr := s.pwr, shr := s.shr } := (congrArg (fun x : State => { x with regs := s.regs, pwr := s.pwr, shr := s.shr }) hrest :)
        _ = { c with regs := s.regs, pwr := s.pwr, shr := s.shr } :=
          (congrArg (fun x : State => { x with regs := s.regs, pwr := s.pwr, shr := s.shr }) (eq_of_onlyRegs honly) :)
        _ = s := (congrArg (fun x : State => { x with regs := s.regs, shr := s.shr }) hcrest :)
  · intro s a b k f z hdev hst hcs
    obtain ⟨hsafe, _, hcause⟩ := bootFail_spec (c := 4) (boot_ne_off hdev) (by decide)
    exact ⟨_, congrArg Host.Outcome.next ((bootStage_five hdev hst).trans ((if_neg (not_not.2 rfl)).trans (if_pos hcs))), hsafe, hcause⟩
  · intro s a b k f z n len off rest c e hdev hst hcopies hn hlife hlast hc he
    refine ⟨_, congrArg Host.Outcome.next (bootStage_six hdev hst hcopies hc), ?_⟩
    by_cases hc0 : c = 0
    · rw [if_pos hc0, if_pos hc0]
      obtain ⟨u, hu⟩ : ∃ u, u = bootTaken n 0 off f s := ⟨_, rfl⟩
      obtain ⟨hver, hcopy, hulife, hulast, hfw, hnone, hauto⟩ := bootTaken_spec hn hu
      obtain ⟨hd, hstage, hfwv, hcp, hshr, hpwr⟩ := bootDone_spec (hulife.trans_ne hlife) (hulast.trans_ne hlast) hauto rfl
      rw [← hu]
      exact ⟨hd, hstage, (congrArg (getF · GLB_FW_VER_VER) hfwv).trans hver, hcp.trans hcopy, (congrArg Shr.fw hshr).trans hfw, (congrArg PwrS.copies hpwr).trans hnone⟩
    · rw [if_neg hc0, if_neg hc0]
      by_cases hrest : rest = []
      · have hlt : c < 256 := by
          rw [hc]
          split
          · exact fwCause_lt ..
          · exact he
        rw [if_pos hrest, if_pos hrest]
        obtain ⟨hsafe, _, hcause⟩ := bootFail_spec (s := { s with pwr := { s.pwr with copies := rest } }) (c := c) (boot_ne_off hdev) hlt
        exact ⟨hsafe, hcause⟩
      · rw [if_neg hrest, if_neg hrest]
  · exact fun s a b k f z c hdev => congrArg Host.Outcome.next (bootStage_of_notBoot hdev)
  · intro s hdev hst hcause hat
    obtain ⟨href, haux, hcz, hstage, honly⟩ := auxLocked_spec (tryNoted s)
    refine ⟨_, congrArg Host.Outcome.next (auxRetry_locks hdev hst hcause hat), href, haux, hcz, hstage.trans hst, (congrArg State.pwr (eq_of_onlyRegs honly) :), honly.2, ?_⟩
    exact (congrArg (fun x : State => { x with regs := s.regs, pwr := s.pwr }) (eq_of_onlyRegs honly) :)
  · intro s i c v h
    exact ⟨_, _, exec_smbWord h, smbWord_eq c v s, rfl⟩
  · intro s r hr
    exact ⟨_, smbPec (0x40 + r) (le 1 6 ++ le 6 (if s.dev = dOFF then 0 else s.rdN (REEF_RAIL r))) s, congrArg Host.Outcome.next (if_pos hr), rfl⟩
  · exact fun s => ⟨_, rfl, rfl⟩

end Sys2Proof.Laws
end

section
namespace Sys2Proof.Laws
open Sys2Proof.Machine

-- One theorem after another: a thread for each of them passes the memory limit of the check.
set_option Elab.async false

section
variable {s t u : State} {g i k n code cls src inst v : Nat} {program : Bool}

/-! ### The fault log (R580 to R585) -/

theorem logWord_ne (h : n ≠ k) (e : Nat) : FLT_LOG e n ≠ FLT_LOG e k := by
  unfold FLT_LOG
  omega

theorem log_ne {e a : Nat} (ha : a < 0xD01000) (w : Nat) : a ≠ FLT_LOG e w := by
  unfold FLT_LOG
  omega

theorem putLog_spec (cls src inst time : Nat) (s : State) {e : Nat} (he : e = i % 256) (hu : u = putLog i code cls src inst time s) (hcls : cls < 256) :
    u.rdN (FLT_LOG e 0) = code % 2 ^ 16 * 2 ^ 16 + cls * 2 ^ 8 ∧ u.rdN (FLT_LOG e 1) = src % 256 * 2 ^ 24 + inst % 2 ^ 24
      ∧ u.rdN (FLT_LOG e 2) = time % 2 ^ 32 ∧ u.rdN (FLT_LOG e 3) = time / 2 ^ 32 % 2 ^ 32
      ∧ s.onlyRegs u [FLT_LOG e 0, FLT_LOG e 1, FLT_LOG e 2, FLT_LOG e 3] := by
  have hput : putLog i code cls src inst time s = (((s.wrN (FLT_LOG e 0) (code % 2 ^ 16 * 2 ^ 16 + cls * 2 ^ 8)).wrN (FLT_LOG e 1) (src % 256 * 2 ^ 24 + inst % 2 ^ 24)).wrN
    (FLT_LOG e 2) (time % 2 ^ 32)).wrN (FLT_LOG e 3) (time / 2 ^ 32 % 2 ^ 32) := by
    rw [he]
    rfl
  rw [hput] at hu
  rw [hu]
  refine ⟨?_, ?_, ?_, ?_, ?_⟩
  · rw [rdN_wrN_ne _ _ _ _ (logWord_ne (by decide) e), rdN_wrN_ne _ _ _ _ (logWord_ne (by decide) e),
      rdN_wrN_ne _ _ _ _ (logWord_ne (by decide) e), rdN_wrN]
    exact Nat.mod_eq_of_lt (by omega)
  · rw [rdN_wrN_ne _ _ _ _ (logWord_ne (by decide) e), rdN_wrN_ne _ _ _ _ (logWord_ne (by decide) e), rdN_wrN]
    exact Nat.mod_eq_of_lt (by omega)
  · rw [rdN_wrN_ne _ _ _ _ (logWord_ne (by decide) e), rdN_wrN]
    exact Nat.mod_eq_of_lt (by omega)
  · rw [rdN_wrN]
    exact Nat.mod_eq_of_lt (by omega)
  · exact onlyRegs_andWr (onlyRegs_andWr (onlyRegs_andWr (onlyRegs_andWr (onlyRegs_rfl s _) (by simp)) (by simp)) (by simp)) (by simp)

theorem cnt_ne {a : Nat} (hcls : cls < 5) (ha : a < 0xD00040 ∨ 0xD00060 ≤ a) : a ≠ FLT_CNT cls := by
  unfold FLT_CNT
  omega

/-- The log after a report counted in its class. -/
def logged (code cls src inst : Nat) (s : State) : State :=
  (putLog s.logWp code cls src inst s.tb1 s).setF FLT_LOG_WP FLT_LOG_WP_INDEX ((s.logWp + 1) % 512)

/-- With no unread entry a report is no repeat. -/
theorem logReport_of_empty (hc : faultClass code program = cls) (hcls : cls < 5) {w : State} (hw : w = s.inc (FLT_CNT cls)) (hheld : w.logHeld = 0) :
    logReport code program src inst s = logIrq cls (logged code cls src inst w) := by
  have hfatal : (cls == 5) = false := beq_eq_false_iff_ne.2 (by omega)
  have hnone : List.range (min 8 0) = [] := rfl
  unfold Machine.logReport
  dsimp only
  rw [hc, ← hw, hheld, hnone, List.find?_nil]
  dsimp only
  rw [when_of_false _ hfatal, if_pos (by decide)]
  rfl

theorem logIrq_off (h : bit (s.fld FLT_IRQ FLT_IRQ_EN) cls = false) : logIrq cls s = s := if_neg (by rw [h]; exact Bool.false_ne_true)

theorem logHeld_of_keeps {as : List Nat} (h : s.keeps t as) (hw : FLT_LOG_WP ∉ as) (hr : FLT_LOG_RP ∉ as) : t.logHeld = s.logHeld := by
  rw [State.logHeld, State.logHeld, State.logWp, State.logWp, State.logRp, State.logRp, fld_of_keeps h hw, fld_of_keeps h hr]

theorem logged_spec (hcls : cls < 5) {e : Nat} (he : e = s.logWp % 256) (hu : u = logged code cls src inst s) :
    u.logWp = (s.logWp + 1) % 512 ∧ u.rdN (FLT_LOG e 0) = code % 2 ^ 16 * 2 ^ 16 + cls * 2 ^ 8 ∧ u.rdN (FLT_LOG e 1) = src % 256 * 2 ^ 24 + inst % 2 ^ 24
      ∧ u.rdN (FLT_LOG e 2) = s.tb1 % 2 ^ 32 ∧ u.rdN (FLT_LOG e 3) = s.tb1 / 2 ^ 32 % 2 ^ 32
      ∧ s.onlyRegs u [FLT_LOG_WP, FLT_LOG e 0, FLT_LOG e 1, FLT_LOG e 2, FLT_LOG e 3] := by
  obtain ⟨w, hw⟩ : ∃ w, w = putLog s.logWp code cls src inst s.tb1 s := ⟨_, rfl⟩
  obtain ⟨h0, h1, h2, h3, honly⟩ := putLog_spec cls src inst s.tb1 s he hw (by omega)
  rw [logged, ← hw] at hu
  have hrd (n : Nat) : u.rdN (FLT_LOG e n) = w.rdN (FLT_LOG e n) := by
    rw [hu]
    exact rdN_setF_ne _ _ _ _ _ (log_ne (by decide) n).symm
  refine ⟨?_, (hrd 0).trans h0, (hrd 1).trans h1, (hrd 2).trans h2, (hrd 3).trans h3, ?_⟩
  · rw [State.logWp, hu, fld_setF _ _ _ _ (by decide)]
    exact Nat.mod_eq_of_lt ((Nat.mod_lt _ (by decide)).trans_le (by decide))
  · rw [hu]
    exact onlyRegs_andWr (onlyRegs_trans (onlyRegs_rfl s []) honly (by simp) (by simp)) (by simp)

theorem tb1_of_keeps {as : List Nat} (h : s.keeps t as) (ha : STAY_STS ∉ as) (hclock : t.clock = s.clock) : t.tb1 = s.tb1 := by
  rw [State.tb1, State.tb1, State.tb1Run, State.tb1Run, fld_of_keeps h ha, hclock]

/-- A report that is not FATAL, with nothing unread and its interrupt masked. -/
theorem faultReport_spec {r : Report} {rest : List Report} (hr : s.bus.reports = r :: rest) (hc : faultClass r.code r.program = cls) (hcls : cls < 5)
    (hheld : s.logHeld = 0) (hirq : bit (s.fld FLT_IRQ FLT_IRQ_EN) cls = false) {e : Nat} (he : e = s.logWp % 256) (hu : u = faultReport s) :
    u.bus.reports = rest ∧ u.logWp = (s.logWp + 1) % 512 ∧ u.rdN (FLT_LOG e 0) = r.code % 2 ^ 16 * 2 ^ 16 + cls * 2 ^ 8
      ∧ u.rdN (FLT_LOG e 1) = r.src % 256 * 2 ^ 24 + r.inst % 2 ^ 24 ∧ u.rdN (FLT_LOG e 2) = s.tb1 % 2 ^ 32
      ∧ u.rdN (FLT_LOG e 3) = s.tb1 / 2 ^ 32 % 2 ^ 32 ∧ u.rdN (FLT_CNT cls) = min 0xFFFFFFFF (s.rdN (FLT_CNT cls) + 1)
      ∧ { u with regs := s.regs, bus := s.bus } = s := by
  obtain ⟨c, hcd⟩ : ∃ c : State, c = { s with bus := { s.bus with reports := rest } } := ⟨_, rfl⟩
  have hcspec : c.regs = s.regs ∧ c.clock = s.clock ∧ c.bus.reports = rest ∧ { c with bus := s.bus } = s := by
    rw [hcd]
    exact ⟨rfl, rfl, rfl, rfl⟩
  obtain ⟨hcregs, hcclock, hcreports, hcrest⟩ := hcspec
  obtain ⟨w, hw⟩ : ∃ w, w = c.inc (FLT_CNT cls) := ⟨_, rfl⟩
  have hwonly : c.onlyRegs w [FLT_CNT cls] := by
    rw [hw]
    exact onlyRegs_inc ..
  have hwe := eq_of_onlyRegs hwonly
  have hwk : s.keeps w [FLT_CNT cls] := keeps_trans (keeps_of_regs (keeps_rfl s []) hcregs) hwonly.2 (by simp) (by simp)
  have hwp : FLT_LOG_WP ∉ [FLT_CNT cls] := by simpa using cnt_ne hcls (a := FLT_LOG_WP) (by decide)
  have hrp : FLT_LOG_RP ∉ [FLT_CNT cls] := by simpa using cnt_ne hcls (a := FLT_LOG_RP) (by decide)
  have hwlog : w.logWp = s.logWp := fld_of_keeps hwk hwp _
  have hwtb1 : w.tb1 = s.tb1 := tb1_of_keeps hwk (by simpa using cnt_ne hcls (a := STAY_STS) (by decide)) ((congrArg State.clock hwe :).trans hcclock)
  have hwcnt : w.rdN (FLT_CNT cls) = min 0xFFFFFFFF (s.rdN (FLT_CNT cls) + 1) := by
    rw [hw, rdN_inc, State.rdN, State.rdN, State.rd, State.rd, hcregs]
  obtain ⟨x, hx⟩ : ∃ x, x = logged r.code cls r.src r.inst w := ⟨_, rfl⟩
  obtain ⟨hxwp, h0, h1, h2, h3, hxonly⟩ := logged_spec hcls (e := e) (by rw [hwlog, he]) hx
  have hxe := eq_of_onlyRegs hxonly
  have hirqx : bit (x.fld FLT_IRQ FLT_IRQ_EN) cls = false := by
    have hmem : FLT_IRQ ∉ [FLT_LOG_WP, FLT_LOG e 0, FLT_LOG e 1, FLT_LOG e 2, FLT_LOG e 3] := by
      simpa using ⟨by decide, log_ne (by decide) 0, log_ne (by decide) 1, log_ne (by decide) 2, log_ne (by decide) 3⟩
    rw [fld_of_keeps hxonly.2 hmem, fld_of_keeps hwk (by simpa using cnt_ne hcls (a := FLT_IRQ) (by decide))]
    exact hirq
  have hux : u = x := by
    have hlog := logReport_of_empty (code := r.code) (src := r.src) (inst := r.inst) hc hcls hw ((logHeld_of_keeps hwk hwp hrp).trans hheld)
    rw [← hx, logIrq_off hirqx] at hlog
    rw [hu]
    unfold Machine.faultReport
    simp only [hr]
    rw [← hcd, if_neg (by rw [hc]; omega)]
    exact hlog
  have hcntx : x.rdN (FLT_CNT cls) = w.rdN (FLT_CNT cls) := by
    have hmem : FLT_CNT cls ∉ [FLT_LOG_WP, FLT_LOG e 0, FLT_LOG e 1, FLT_LOG e 2, FLT_LOG e 3] := by
      simp only [List.mem_cons, List.not_mem_nil, or_false, FLT_CNT, FLT_LOG_WP, FLT_LOG]
      omega
    exact rdN_of_keeps hxonly.2 hmem
  rw [hux]
  refine ⟨?_, hxwp.trans (by rw [hwlog]), h0, h1, h2.trans (by rw [hwtb1]), h3.trans (by rw [hwtb1]), hcntx.trans hwcnt, ?_⟩
  · exact (congrArg (fun y : State => y.bus.reports) hxe :).trans ((congrArg (fun y : State => y.bus.reports) hwe :).trans hcreports)
  · calc { x with regs := s.regs, bus := s.bus }
        = { w with regs := s.regs, bus := s.bus } := (congrArg (fun y : State => { y with regs := s.regs, bus := s.bus }) hxe :)
      _ = { c with regs := s.regs, bus := s.bus } := (congrArg (fun y : State => { y with regs := s.regs, bus := s.bus }) hwe :)
      _ = s := (congrArg (fun y : State => { y with regs := s.regs }) hcrest :)

/-- The status of a write of the fault manager. -/
theorem fltStatus_spec (hcode : code < 2 ^ 16) (s : State) (hu : u = fltStatus code s) : u.fld FLT_STS FLT_STS_STATUS = code ∧ s.onlyRegs u [FLT_STS] := by
  subst hu
  exact ⟨(fld_setF _ _ _ _ (by decide)).trans (Nat.mod_eq_of_lt hcode), onlyRegs_setF ..⟩

/-- The read index takes a value. -/
def readTo (v : Nat) (s : State) : State := fltStatus 0 (s.setF FLT_LOG_RP FLT_LOG_RP_INDEX v)

theorem readTo_spec (hv : v < 512) (s : State) (hu : u = readTo v s) :
    u.logRp = v ∧ u.logWp = s.logWp ∧ u.fld FLT_STS FLT_STS_STATUS = 0 ∧ s.onlyRegs u [FLT_LOG_RP, FLT_STS] := by
  obtain ⟨w, hw⟩ : ∃ w, w = s.setF FLT_LOG_RP FLT_LOG_RP_INDEX v := ⟨_, rfl⟩
  have hwonly : s.onlyRegs w [FLT_LOG_RP] := by rw [hw]; exact onlyRegs_setF ..
  have hwrp : w.logRp = v := by
    rw [State.logRp, hw, fld_setF _ _ _ _ (by decide)]
    exact Nat.mod_eq_of_lt hv
  rw [readTo, ← hw] at hu
  obtain ⟨hstatus, honly⟩ := fltStatus_spec (code := 0) (by decide) w hu
  refine ⟨(fld_of_keeps (a := FLT_LOG_RP) honly.2 (by decide) _).trans hwrp, ?_, hstatus, onlyRegs_trans hwonly honly (by simp) (by simp)⟩
  exact (fld_of_keeps (a := FLT_LOG_WP) honly.2 (by decide) _).trans (fld_of_keeps (a := FLT_LOG_WP) hwonly.2 (by decide) _)

theorem logWp_lt (s : State) : s.logWp < 512 := getF_lt _ FLT_LOG_WP_INDEX (by decide)

theorem logRpWrite_forward (hv : v < 512) (h : (v + 512 - s.logRp) % 512 ≤ s.logHeld) : logRpWrite v s = readTo v s := by
  rw [logRpWrite, Nat.mod_eq_of_lt hv, if_neg (by omega)]
  rfl

theorem logRpWrite_past (hv : v < 512) (h : s.logHeld < (v + 512 - s.logRp) % 512) : logRpWrite v s = fltStatus E_FLT_RANGE s := by
  rw [logRpWrite, Nat.mod_eq_of_lt hv, if_pos h]

/-! ### Marks (R595) -/

theorem markCheck_ok (hrun : s.tb1Run = true) (hmem : s.members g ≠ []) (hseal : ∀ y ∈ s.members g, ¬ (pSEALING ≤ s.pst (s.partOf y) ∧ s.pst (s.partOf y) ≤ pKEYED))
    (hnone : ∀ h, h < 64 → (s.grp h).mark = none) (hrel : s.rdN FLT_MARK_REL = 0 ∨ s.clock.tb1 + 2560 ≤ s.rdN FLT_MARK_REL) : s.markCheck g = 0 := by
  have hopen : ((s.members g).any fun y => pSEALING ≤ s.pst (s.partOf y) && s.pst (s.partOf y) ≤ pKEYED) = false :=
    List.any_eq_false.2 fun y hy h => hseal y hy (by simpa using h)
  have hidle : ((List.range 64).any fun h => (s.grp h).mark.isSome) = false := List.any_eq_false.2 fun h hh => by
    rw [hnone h (List.mem_range.1 hh)]
    exact Bool.false_ne_true
  have hlead : ¬ (s.rdN FLT_MARK_REL ≠ 0 ∧ s.rdN FLT_MARK_REL < s.clock.tb1 + 160 * ft) := by
    unfold ft
    omega
  unfold State.markCheck
  dsimp only
  rw [if_neg (not_not.2 hrun), if_neg hmem, hopen, if_neg Bool.false_ne_true, if_neg hlead, hidle, if_neg Bool.false_ne_true]

/-- The mark of a group. -/
def setMark (g : Nat) (m : Option Nat) (s : State) : State := s.modGrp g fun x => { x with mark := m }

theorem setMark_spec (g : Nat) (m : Option Nat) (s : State) (hu : u = setMark g m s) :
    u.grp g = { s.grp g with mark := m } ∧ (∀ h, h ≠ g → u.grp h = s.grp h) ∧ u.regs = s.regs ∧ u.clock = s.clock ∧ u.bus = s.bus ∧ { u with seq := s.seq } = s := by
  subst hu
  refine ⟨?_, fun h hne => ?_, rfl, rfl, rfl, rfl⟩
  · rw [setMark, grp_modGrp, if_pos rfl]
  · rw [setMark, grp_modGrp, if_neg hne]

theorem fltMark_ok {r : Nat} (hok : s.markCheck g = 0) (hr : r = if s.rdN FLT_MARK_REL = 0 then s.clock.tb1 + 2560 else s.rdN FLT_MARK_REL) :
    fltMark g s = fltStatus 0 (setMark g (some (ceilFt r)) s) := by
  unfold Machine.fltMark
  dsimp only
  rw [hok, if_neg (not_not.2 rfl), hr]
  rfl

theorem atTb1_run {r : Nat} (h : s.atTb1 r = true) : ¬ ¬ s.atTb1 r = true := not_not.2 h

theorem fltMarkRelease_eq {r : Nat} (hm : (s.grp g).mark = some r) (hat : s.atTb1 r = true) (hu : u = setMark g none s) :
    fltMarkRelease g s = if (u.passNow g).isSome then (u.markGroup g E_FLT_MARKED false).report E_FLT_MARKED islHub g else fltStatus E_FLT_STATE u := by
  subst hu
  unfold Machine.fltMarkRelease
  simp only [hm]
  rw [if_neg (atTb1_run hat)]
  rfl

theorem passNow_running (hgst : s.gst g = gRUNNING) (h : s.inPass g = true ∨ (s.grp g).lastEnd = s.tb1) : (s.passNow g).isSome = true := by
  have hlive : (s.gst g == gRUNNING || s.gst g == gPAUSING) = true := by
    rw [hgst]
    rfl
  have hpass : (s.inPass g || (s.grp g).lastEnd == s.tb1) = true := by
    rw [Bool.or_eq_true, beq_iff_eq]
    exact h
  unfold State.passNow
  dsimp only
  rw [hlive, hpass]
  rfl

theorem passNow_idle (hgst : s.gst g = gIDLE) : (s.passNow g).isSome = false := by
  unfold State.passNow
  dsimp only
  rw [hgst]
  rfl

theorem markGroup_spec (g code : Nat) (s : State) (hu : u = s.markGroup g code false) :
    u.grp g = { s.grp g with marks := (s.grp g).marks ++ [code] } ∧ u.regs = s.regs ∧ u.bus.reports = s.bus.reports
      ∧ u.bus.recs.length = s.bus.recs.length ∧ { u with seq := s.seq, bus := s.bus } = s := by
  subst hu
  refine ⟨?_, rfl, rfl, List.length_map _, rfl⟩
  unfold State.markGroup
  dsimp only
  rw [grp_modGrp, if_pos rfl]
  rfl

/-! ### TRIG inputs (R587 to R590) -/

theorem trig_setTrig (s : State) (i : Nat) (x : TrigIn) : (s.setTrig i x).trig i = x := tget_tput_same ..

theorem trigCfgWrite_ok (hfilt : bits v 4 0 ≤ 24) (hxf : bit v 31 = true → s.xfMay i (bits v 29 24) = true) :
    trigCfgWrite i v s = fltStatus 0 ((s.setTrig i { s.trig i with was := s.trigCfg i, cfgAt := s.nextFt }).wrRW (FLT_TRIG_CFG i) v) := by
  have h1 : ¬ 24 < cfgFilt v := by
    unfold cfgFilt
    omega
  exact (if_neg h1).trans (if_neg fun h => h.2 (hxf h.1))

theorem rwMask_trigCfg (hi : i < 16) : rwMask (FLT_TRIG_CFG i) = 0xFF00001F := by
  have hall : ∀ i < 16, rwMask (FLT_TRIG_CFG i) = 0xFF00001F := by decide +kernel
  exact hall i hi

theorem trigCfg_ne_sts (i : Nat) : FLT_TRIG_CFG i ≠ FLT_STS := by
  unfold FLT_TRIG_CFG FLT_STS
  omega

theorem trigCfgWrite_spec (hi : i < 16) (x : TrigIn) (s : State) (hu : u = fltStatus 0 ((s.setTrig i x).wrRW (FLT_TRIG_CFG i) v)) :
    u.fld (FLT_TRIG_CFG i) (0, 5) = bits v 4 0 ∧ u.fld (FLT_TRIG_CFG i) (24, 8) = bits v 31 24 ∧ u.fld FLT_STS FLT_STS_STATUS = 0
      ∧ s.keeps u [FLT_TRIG_CFG i, FLT_STS] ∧ { u with regs := s.regs, flt := s.flt } = s := by
  obtain ⟨c, hc⟩ : ∃ c, c = s.setTrig i x := ⟨_, rfl⟩
  have hcspec : c.regs = s.regs ∧ { c with flt := s.flt } = s := by
    rw [hc]
    exact ⟨rfl, rfl⟩
  obtain ⟨hcregs, hcrest⟩ := hcspec
  obtain ⟨w, hw⟩ : ∃ w, w = c.wrRW (FLT_TRIG_CFG i) v := ⟨_, rfl⟩
  have hwonly : c.onlyRegs w [FLT_TRIG_CFG i] := by
    rw [hw]
    exact onlyRegs_andWr (onlyRegs_rfl c _) (by simp)
  have hfilt : w.fld (FLT_TRIG_CFG i) (0, 5) = bits v 4 0 := by
    rw [hw, fld_wrRW _ _ (rwMask_trigCfg hi) (by decide) (by decide)]
    rfl
  have htop : w.fld (FLT_TRIG_CFG i) (24, 8) = bits v 31 24 := by
    rw [hw, fld_wrRW _ _ (rwMask_trigCfg hi) (by decide) (by decide)]
    rfl
  rw [← hc, ← hw] at hu
  obtain ⟨hstatus, honly⟩ := fltStatus_spec (code := 0) (by decide) w hu
  have hcfg : FLT_TRIG_CFG i ∉ [FLT_STS] := by simpa using trigCfg_ne_sts i
  refine ⟨(fld_of_keeps honly.2 hcfg _).trans hfilt, (fld_of_keeps honly.2 hcfg _).trans htop, hstatus, ?_, ?_⟩
  · exact keeps_trans (keeps_trans (keeps_of_regs (keeps_rfl s []) hcregs) hwonly.2 (cs := [FLT_TRIG_CFG i]) (by simp) (by simp)) honly.2 (by simp) (by simp)
  · calc { u with regs := s.regs, flt := s.flt }
        = { w with regs := s.regs, flt := s.flt } := (congrArg (fun y : State => { y with regs := s.regs, flt := s.flt }) (eq_of_onlyRegs honly) :)
      _ = { c with regs := s.regs, flt := s.flt } := (congrArg (fun y : State => { y with regs := s.regs, flt := s.flt }) (eq_of_onlyRegs hwonly) :)
      _ = s := (congrArg (fun y : State => { y with regs := s.regs }) hcrest :)

theorem trigAccept_none (h : (s.trig i).pend = none) : trigAccept i s = s := by
  unfold Machine.trigAccept
  simp only [h]

theorem trigAccept_held {c : TrigCh} (h : (s.trig i).pend = some c) (hat : c.e + c.cfg % 32 * 16 ≤ s.clock.now) :
    trigAccept i s = s.setTrig i { s.trig i with level := c.level, pend := none, edges := (s.trig i).edges ++ [c] } := by
  have hheld : c.e + cfgFilt c.cfg * ft ≤ s.clock.now := by
    have hbits : cfgFilt c.cfg = c.cfg % 32 := by
      unfold cfgFilt bits
      norm_num
    rw [hbits]
    exact hat
  unfold Machine.trigAccept
  simp only [h]
  rw [if_pos hheld]

theorem trigLevel_begins {up : Bool} (hpend : (s.trig i).pend = none) (hpin : (s.trig i).pin ≠ up) (hlevel : (s.trig i).level ≠ up) :
    trigLevel i up s = s.setTrig i { s.trig i with pin := up, pinAt := s.clock.now, pend := some ⟨s.clock.now, up, s.trigCfg i, s.passNow (cfgGroup (s.trigCfg i))⟩ } := by
  unfold Machine.trigLevel
  rw [trigAccept_none hpend]
  dsimp only
  rw [if_neg hpin, hpend, Option.isSome_none, when_of_false _ rfl, if_neg hlevel.symm]

end

end Sys2Proof.Laws
end

section
namespace Sys2Proof.Laws
open Sys2Proof.Machine

-- One theorem after another: a thread for each of them passes the memory limit of the check.
set_option Elab.async false

section
variable {s t u : State} {g i k e y ch : Nat} {c : TrigCh} {rest : List TrigCh} {ks : List Nat}

/-! ### An edge reaches the acquisition channels (R588) -/

/-- Channels, by their keys, with an edge at `e` more. -/
def demsTold (e : Nat) (ks : List Nat) (t : Tab Dem) : Tab Dem :=
  ks.foldl (fun t k => tput t k { tget t k with trigs := (tget t k).trigs ++ [e] }) t

theorem trigs_demsTold (hnd : ks.Nodup) (t : Tab Dem) (k : Nat) :
    (tget (demsTold e ks t) k).trigs = (tget t k).trigs ++ if k ∈ ks then [e] else [] := by
  induction ks generalizing t with
  | nil => exact (List.append_nil _).symm
  | cons j ks ih =>
    obtain ⟨hj, hnd⟩ := List.nodup_cons.1 hnd
    refine (ih hnd _).trans ?_
    rw [tget_tput]
    by_cases hk : k = j
    · rw [if_pos hk, hk, if_neg hj, if_pos List.mem_cons_self, List.append_nil]
    · rw [if_neg hk]
      simp only [List.mem_cons, hk, false_or]

theorem demsTold_append (e : Nat) (ks ls : List Nat) (t : Tab Dem) : demsTold e (ks ++ ls) t = demsTold e ls (demsTold e ks t) :=
  List.foldl_append

/-- The acquisition channels with an edge more. -/
def dems (d : Tab Dem) (s : State) : State := { s with cnv := { s.cnv with dems := d } }

theorem modDem_told (y ch e : Nat) (s : State) :
    s.modDem y ch (fun d => { d with trigs := d.trigs ++ [e] }) = dems (demsTold e [8 * y + ch] s.cnv.dems) s := rfl

/-- Channels of a yard. -/
theorem forEach_told (e y : Nat) (cs : List Nat) (s : State) :
    forEach cs s (fun c s => s.modDem y c fun d => { d with trigs := d.trigs ++ [e] }) = dems (demsTold e (cs.map (8 * y + ·)) s.cnv.dems) s := by
  induction cs generalizing s with
  | nil => rfl
  | cons c cs ih => exact ih (s := s.modDem y c fun d => { d with trigs := d.trigs ++ [e] })

/-- The channels of a yard that an edge of an input starts. -/
def State.edgeChans (s : State) (i : Nat) (level : Bool) (y : Nat) : List Nat :=
  (List.range 8).filter fun c => s.fld (CNV_ACQ_CTL y c) CNV_ACQ_CTL_SRC == 2
    && s.fld (CNV_ACQ_CTL y c) CNV_ACQ_CTL_SEL == i && s.flag (CNV_ACQ_CTL y c) CNV_ACQ_CTL_EDGE == !level

/-- The keys of the channels of some yards that an edge starts. -/
def State.edgeKeys (s : State) (i : Nat) (level : Bool) (ys : List Nat) : List Nat := ys.flatMap fun y => (State.edgeChans s i level y).map (8 * y + ·)

theorem edgeChans_dems (d : Tab Dem) (s : State) : State.edgeChans (dems d s) i = State.edgeChans s i := rfl

theorem forEach_yards_told (i e : Nat) (level : Bool) (ys : List Nat) (s : State) :
    forEach ys s (fun y s => forEach (State.edgeChans s i level y) s fun c s => s.modDem y c fun d => { d with trigs := d.trigs ++ [e] })
      = dems (demsTold e (State.edgeKeys s i level ys) s.cnv.dems) s := by
  induction ys generalizing s with
  | nil => rfl
  | cons y ys ih =>
    have hfirst := forEach_told e y (State.edgeChans s i level y) s
    obtain ⟨d, hd⟩ : ∃ d, d = demsTold e ((State.edgeChans s i level y).map (8 * y + ·)) s.cnv.dems := ⟨_, rfl⟩
    rw [← hd] at hfirst
    have hkeys : State.edgeKeys s i level (y :: ys) = (State.edgeChans s i level y).map (8 * y + ·) ++ State.edgeKeys s i level ys := List.flatMap_cons
    rw [hkeys, demsTold_append, ← hd]
    refine (congrArg (fun u => forEach ys u fun y s => forEach (State.edgeChans s i level y) s fun c s => s.modDem y c fun d => { d with trigs := d.trigs ++ [e] }) hfirst).trans ?_
    exact ih (dems d s)

theorem mem_edgeChans {level : Bool} : ch ∈ State.edgeChans s i level y ↔ ch < 8 ∧ s.fld (CNV_ACQ_CTL y ch) CNV_ACQ_CTL_SRC = 2
    ∧ s.fld (CNV_ACQ_CTL y ch) CNV_ACQ_CTL_SEL = i ∧ s.flag (CNV_ACQ_CTL y ch) CNV_ACQ_CTL_EDGE = !level := by
  simp only [State.edgeChans, List.mem_filter, List.mem_range, Bool.and_eq_true, beq_iff_eq, and_assoc]

theorem mem_edgeKeys {level : Bool} {ys : List Nat} (hch : ch < 8) : 8 * y + ch ∈ State.edgeKeys s i level ys ↔ y ∈ ys ∧ ch ∈ State.edgeChans s i level y := by
  rw [State.edgeKeys, List.mem_flatMap]
  constructor
  · rintro ⟨z, hz, hmem⟩
    obtain ⟨d, hd, heq⟩ := List.mem_map.1 hmem
    have hd8 := (mem_edgeChans.1 hd).1
    obtain rfl : z = y := by omega
    obtain rfl : d = ch := by omega
    exact ⟨hz, hd⟩
  · exact fun ⟨hy, hc⟩ => ⟨y, hy, List.mem_map_of_mem hc⟩

theorem nodup_edgeKeys {level : Bool} {ys : List Nat} (hnd : ys.Nodup) : (State.edgeKeys s i level ys).Nodup := by
  refine List.nodup_flatMap.2 ⟨fun y _ => ?_, hnd.imp ?_⟩
  · exact (List.nodup_range.filter _).map fun a b h => by simpa using h
  · intro y z hyz k hk hk'
    obtain ⟨a, ha, rfl⟩ := List.mem_map.1 hk
    obtain ⟨b, hb, heq⟩ := List.mem_map.1 hk'
    have ha8 := (mem_edgeChans.1 ha).1
    have hb8 := (mem_edgeChans.1 hb).1
    omega

/-! ### Delivery (R588) -/

theorem cnsEdge_frame (i : Nat) (falling : Bool) (e : Nat) (s : State) : ∃ k, cnsEdge i falling e s = { s with cap := k } :=
  forEach_induct (P := fun t => ∃ k, t = { s with cap := k }) ⟨s.cap, rfl⟩ fun c _ t ⟨k, hk⟩ => by
    obtain ⟨⟨j, hj⟩, _⟩ := cnsEvent_frame c 3 e t
    exact ⟨j, hj.trans (congrArg (fun x : State => { x with cap := j }) hk :)⟩

/-- The recent edges of an input and direction. -/
def evsTold (k e : Nat) (s : State) : State :=
  { s with cnv := { s.cnv with trigEv := tput s.cnv.trigEv k ((e :: tget s.cnv.trigEv k).filter fun t => decide (s.clock.tb1 ≤ t + 128 * ft)) } }

theorem trigConsumers_eq (hrun : s.tb1Run = true) (hnow : s.clock.now ≤ c.e + s.clock.tb1) (he : e = s.tb1At c.e) (hk : k = 2 * i + b01 (!c.level))
    {w : State} (hw : w = evsTold k e s) :
    trigConsumers i c s = cnsEdge i (!c.level) e (dems (demsTold e (State.edgeKeys w i c.level allYards) w.cnv.dems) w) := by
  have hraw : trigConsumers i c s = cnsEdge i (!c.level) e (forEach allYards w fun y s => forEach (State.edgeChans s i c.level y) s fun c s =>
      s.modDem y c fun d => { d with trigs := d.trigs ++ [e] }) := by
    subst hw he hk
    exact if_pos ⟨hrun, hnow⟩
  rw [hraw, forEach_yards_told]

theorem trigConsumers_stopped (hrun : s.tb1Run = false) : trigConsumers i c s = s := if_neg fun h => by simp [hrun] at h

theorem trigConsumers_spec (hrun : s.tb1Run = true) (hnow : s.clock.now ≤ c.e + s.clock.tb1) (he : e = s.tb1At c.e) (hk : k = 2 * i + b01 (!c.level))
    (hu : u = trigConsumers i c s) :
    tget u.cnv.trigEv k = (e :: tget s.cnv.trigEv k).filter (fun x => decide (s.clock.tb1 ≤ x + 2048))
      ∧ (∀ y ch, y < 64 → ch < 8 → (u.dem y ch).trigs = (s.dem y ch).trigs ++ if s.fld (CNV_ACQ_CTL y ch) CNV_ACQ_CTL_SRC = 2
        ∧ s.fld (CNV_ACQ_CTL y ch) CNV_ACQ_CTL_SEL = i ∧ s.flag (CNV_ACQ_CTL y ch) CNV_ACQ_CTL_EDGE = !c.level then [e] else [])
      ∧ u.regs = s.regs ∧ u.flt = s.flt ∧ { u with cnv := s.cnv, cap := s.cap } = s := by
  obtain ⟨w, hw⟩ : ∃ w, w = evsTold k e s := ⟨_, rfl⟩
  have hwspec : tget w.cnv.trigEv k = (e :: tget s.cnv.trigEv k).filter (fun x => decide (s.clock.tb1 ≤ x + 2048)) ∧ w.cnv.dems = s.cnv.dems
      ∧ w.regs = s.regs ∧ w.flt = s.flt ∧ { w with cnv := s.cnv } = s := by
    rw [hw]
    exact ⟨tget_tput_same .., rfl, rfl, rfl, rfl⟩
  obtain ⟨hwev, hwdems, hwregs, hwflt, hwrest⟩ := hwspec
  rw [trigConsumers_eq hrun hnow he hk hw] at hu
  obtain ⟨d, hd⟩ : ∃ d, d = demsTold e (State.edgeKeys w i c.level allYards) w.cnv.dems := ⟨_, rfl⟩
  rw [← hd] at hu
  obtain ⟨x, hx⟩ : ∃ x, x = dems d w := ⟨_, rfl⟩
  have hxspec : x.cnv.trigEv = w.cnv.trigEv ∧ x.cnv.dems = d ∧ x.regs = w.regs ∧ x.flt = w.flt ∧ { x with cnv := w.cnv } = w := by
    rw [hx]
    exact ⟨rfl, rfl, rfl, rfl, rfl⟩
  obtain ⟨hxev, hxdems, hxregs, hxflt, hxrest⟩ := hxspec
  rw [← hx] at hu
  obtain ⟨j, hj⟩ := cnsEdge_frame i (!c.level) e x
  rw [← hu] at hj
  have hucnv : u.cnv = x.cnv := (congrArg State.cnv hj :)
  refine ⟨?_, fun y ch hy hch => ?_, ?_, ?_, ?_⟩
  · rw [hucnv, hxev, hwev]
  · have hiff : 8 * y + ch ∈ State.edgeKeys w i c.level allYards ↔ s.fld (CNV_ACQ_CTL y ch) CNV_ACQ_CTL_SRC = 2
        ∧ s.fld (CNV_ACQ_CTL y ch) CNV_ACQ_CTL_SEL = i ∧ s.flag (CNV_ACQ_CTL y ch) CNV_ACQ_CTL_EDGE = !c.level := by
      have hrd (f : Fld) : w.fld (CNV_ACQ_CTL y ch) f = s.fld (CNV_ACQ_CTL y ch) f := by rw [State.fld, State.fld, State.rd, State.rd, hwregs]
      rw [mem_edgeKeys hch, mem_edgeChans, State.flag, State.flag, hrd, hrd, hrd]
      exact ⟨fun h => h.2.2, fun h => ⟨List.mem_range.2 hy, hch, h⟩⟩
    rw [State.dem, State.dem, hucnv, hxdems, hd, trigs_demsTold (nodup_edgeKeys (ys := allYards) List.nodup_range), hwdems]
    exact congrArg _ (if_congr hiff rfl rfl)
  · exact (congrArg State.regs hj :).trans (hxregs.trans hwregs)
  · exact (congrArg State.flt hj :).trans (hxflt.trans hwflt)
  · calc { u with cnv := s.cnv, cap := s.cap }
        = { x with cnv := s.cnv, cap := s.cap } := (congrArg (fun z : State => { z with cnv := s.cnv, cap := s.cap }) hj :)
      _ = { w with cnv := s.cnv, cap := s.cap } := (congrArg (fun z : State => { z with cnv := s.cnv, cap := s.cap }) hxrest :)
      _ = s := (congrArg (fun z : State => { z with cap := s.cap }) hwrest :)

/-- A mark that is taken leaves the pass in progress as it was. -/
theorem passNow_setMark {w : State} (hw : w = setMark g none s) (hgst : s.gst g = gRUNNING) (h : s.inPass g = true ∨ (s.grp g).lastEnd = s.tb1) :
    (w.passNow g).isSome = true := by
  subst hw
  refine passNow_running hgst (h.imp id fun hend => ?_)
  rw [setMark, grp_modGrp, if_pos rfl]
  exact hend

/-- When an edge is due. -/
theorem trigDeliver_due (hedges : (s.trig i).edges = c :: rest)
    (hdue : (if s.tb1Run then decide (ceilFt (s.tb1At (c.e + 48 * ft)) ≤ s.clock.tb1) else decide (c.e + 48 * ft ≤ s.clock.now)) = true)
    (hxf : bit c.cfg 31 = false) : trigDeliver i s = trigConsumers i c (s.setTrig i { s.trig i with edges := rest }) := by
  unfold Machine.trigDeliver
  simp only [hedges]
  rw [if_neg (not_not.2 hdue), hxf, Bool.false_and, if_pos Bool.false_ne_true]

end

/-- Settles O51: the log by `logReport_of_empty`, marks by `setMark`, edges by `trigConsumers_spec`. -/
theorem faultManagerLogsMarksAndTimesEdges : Obligations.FaultManagerLogsMarksAndTimesEdges := by
  unfold Obligations.FaultManagerLogsMarksAndTimesEdges
  refine ⟨?_, ?_, ?_, ?_, ?_, ?_, ?_, ?_, ?_, ?_, ?_, ?_⟩
  · intro s r rest hr hclass hheld _ hirq
    exact ⟨_, rfl, faultReport_spec hr rfl hclass hheld hirq rfl rfl⟩
  · intro s hopen
    obtain ⟨hrp, hwp, hstatus, honly⟩ := readTo_spec (logWp_lt s) s rfl
    have hdiscard : fltDiscard s = readTo s.logWp s := rfl
    refine ⟨_, next_hostWr hopen hdiscard, hrp, ?_, hstatus, honly⟩
    rw [State.logHeld, hrp, hwp]
    omega
  · intro s v hopen hv h
    obtain ⟨hrp, _, hstatus, honly⟩ := readTo_spec hv s rfl
    exact ⟨_, next_hostWr hopen (logRpWrite_forward hv h), hrp, hstatus, honly⟩
  · intro s v hopen hv h
    obtain ⟨hstatus, honly⟩ := fltStatus_spec (code := E_FLT_RANGE) (by decide) s rfl
    exact ⟨_, next_hostWr hopen (logRpWrite_past hv h), fld_of_keeps (a := FLT_LOG_RP) honly.2 (by decide) _, hstatus, honly⟩
  · intro s g r hopen hrun hmem hseal hnone hrel hr
    obtain ⟨w, hw⟩ : ∃ w, w = setMark g (some (ceilFt r)) s := ⟨_, rfl⟩
    obtain ⟨hgrp, hothers, hregs, _, _, hrest⟩ := setMark_spec g _ s hw
    obtain ⟨hstatus, honly⟩ := fltStatus_spec (code := 0) (by decide) w rfl
    have hseq : (fltStatus 0 w).seq = w.seq := (congrArg State.seq (eq_of_onlyRegs honly) :)
    have heq := fltMark_ok (markCheck_ok hrun hmem hseal hnone hrel) hr
    rw [← hw] at heq
    refine ⟨_, next_hostWr hopen heq, ?_, fun h hne => ?_, hstatus, keeps_trans (keeps_of_regs (keeps_rfl s []) hregs) honly.2 (by simp) (by simp), ?_⟩
    · rw [State.grp, hseq]
      exact hgrp
    · rw [State.grp, hseq]
      exact hothers h hne
    · exact (congrArg (fun x : State => { x with regs := s.regs, seq := s.seq }) (eq_of_onlyRegs honly) :).trans
        (congrArg (fun x : State => { x with regs := s.regs }) hrest :)
  · intro s g r hm hat hgst hpass
    obtain ⟨w, hw⟩ : ∃ w, w = setMark g none s := ⟨_, rfl⟩
    obtain ⟨hgrp, _, hregs, hclock, hbus, hrest⟩ := setMark_spec g _ s hw
    obtain ⟨x, hx⟩ : ∃ x, x = w.markGroup g E_FLT_MARKED false := ⟨_, rfl⟩
    obtain ⟨hxgrp, hxregs, hxreports, hxrecs, hxrest⟩ := markGroup_spec g E_FLT_MARKED w hx
    have heq := fltMarkRelease_eq hm hat hw
    rw [if_pos (passNow_setMark hw hgst hpass), ← hx] at heq
    refine ⟨_, congrArg Host.Outcome.next heq, ?_, hxregs.trans hregs, ?_, ?_, ?_⟩
    · refine (show (x.report E_FLT_MARKED islHub g).grp g = x.grp g from rfl).trans (hxgrp.trans ?_)
      rw [hgrp]
    · exact congrArg (· ++ [(⟨E_FLT_MARKED, false, 0x40, g⟩ : Report)]) (hxreports.trans (congrArg Bus.reports hbus))
    · exact hxrecs.trans (congrArg (fun b : Bus => b.recs.length) hbus)
    · calc { x.report E_FLT_MARKED islHub g with seq := s.seq, bus := s.bus }
          = { w with seq := s.seq, bus := s.bus } := (congrArg (fun z : State => { z with seq := s.seq, bus := s.bus }) hxrest :)
        _ = s := (congrArg (fun z : State => { z with bus := s.bus }) hrest :)
  · intro s g r hm hat hgst
    obtain ⟨w, hw⟩ : ∃ w, w = setMark g none s := ⟨_, rfl⟩
    obtain ⟨hgrp, _, hregs, hclock, hbus, hrest⟩ := setMark_spec g _ s hw
    have hwgst : w.gst g = gIDLE := by
      rw [State.gst, State.fld, State.rd, hregs]
      exact hgst
    obtain ⟨hstatus, honly⟩ := fltStatus_spec (code := E_FLT_STATE) (by decide) w rfl
    have hseq : (fltStatus E_FLT_STATE w).seq = w.seq := (congrArg State.seq (eq_of_onlyRegs honly) :)
    have heq := fltMarkRelease_eq hm hat hw
    rw [passNow_idle hwgst, if_neg Bool.false_ne_true] at heq
    refine ⟨_, congrArg Host.Outcome.next heq, ?_, hstatus, keeps_trans (keeps_of_regs (keeps_rfl s []) hregs) honly.2 (by simp) (by simp), ?_⟩
    · rw [State.grp, hseq]
      exact hgrp
    · exact (congrArg (fun x : State => { x with regs := s.regs, seq := s.seq }) (eq_of_onlyRegs honly) :).trans
        (congrArg (fun x : State => { x with regs := s.regs }) hrest :)
  · intro s i v hopen hi _ hfilt hxf
    exact ⟨_, next_hostWr hopen (trigCfgWrite_ok hfilt hxf), trigCfgWrite_spec hi _ s rfl⟩
  · intro s i up hpend hpin hlevel
    refine ⟨_, congrArg Host.Outcome.next (trigLevel_begins hpend hpin hlevel), congrArg TrigIn.pin (trig_setTrig ..), congrArg TrigIn.pinAt (trig_setTrig ..),
      (congrArg TrigIn.level (trig_setTrig ..) :), ⟨⟨s.clock.now, up, s.trigCfg i, s.passNow (cfgGroup (s.trigCfg i))⟩, congrArg TrigIn.pend (trig_setTrig ..), rfl, rfl, rfl⟩, rfl, rfl⟩
  · intro s i c hpend hat
    exact ⟨_, congrArg Host.Outcome.next (trigAccept_held hpend hat), trig_setTrig .., rfl⟩
  · intro s i c rest e k hedges hrun hdue hnow hxf he hk
    obtain ⟨w, hw⟩ : ∃ w, w = s.setTrig i { s.trig i with edges := rest } := ⟨_, rfl⟩
    have hwspec : w.tb1Run = s.tb1Run ∧ w.clock = s.clock ∧ w.cnv = s.cnv ∧ w.regs = s.regs ∧ (w.trig i).edges = rest ∧ { w with flt := s.flt } = s := by
      rw [hw]
      exact ⟨rfl, rfl, rfl, rfl, congrArg TrigIn.edges (trig_setTrig ..), rfl⟩
    obtain ⟨hwrun, hwclock, hwcnv, hwregs, hwedges, hwrest⟩ := hwspec
    have hlate : (if s.tb1Run then decide (ceilFt (s.tb1At (c.e + 48 * ft)) ≤ s.clock.tb1) else decide (c.e + 48 * ft ≤ s.clock.now)) = true := by
      rw [if_pos hrun]
      exact decide_eq_true hdue
    have heq := trigDeliver_due hedges hlate hxf
    rw [← hw] at heq
    have hk' : k = 2 * i + b01 (!c.level) := by
      rw [hk]
      cases c.level
      · rfl
      · rfl
    have hnow' : w.clock.now ≤ c.e + w.clock.tb1 := by
      rw [hwclock]
      exact hnow
    have he' : e = w.tb1At c.e := by
      rw [State.tb1At, hwclock]
      exact he
    obtain ⟨hev, hdems, hregs, hflt, hrest⟩ := trigConsumers_spec (hwrun.trans hrun) hnow' he' hk' rfl
    refine ⟨_, congrArg Host.Outcome.next heq, ?_, ?_, fun y ch hy hch => ?_, hregs.trans hwregs, ?_⟩
    · rw [State.trig, hflt]
      exact hwedges
    · rw [hev, hwcnv, hwclock]
    · rw [hdems y ch hy hch, State.dem, State.dem, hwcnv, State.flag, State.flag, State.fld, State.fld, State.fld, State.fld, State.fld, State.fld, State.rd, State.rd, hwregs]
    · calc { trigConsumers i c w with flt := s.flt, cnv := s.cnv, cap := s.cap }
          = { w with flt := s.flt, cnv := s.cnv, cap := s.cap } := (congrArg (fun z : State => { z with flt := s.flt, cnv := s.cnv, cap := s.cap }) hrest :)
        _ = s := (congrArg (fun z : State => { z with cnv := s.cnv, cap := s.cap }) hwrest :)
  · intro s i c rest hedges hrun hdue hxf
    have hlate : (if s.tb1Run then decide (ceilFt (s.tb1At (c.e + 48 * ft)) ≤ s.clock.tb1) else decide (c.e + 48 * ft ≤ s.clock.now)) = true := by
      rw [hrun]
      exact decide_eq_true hdue
    exact ⟨_, congrArg Host.Outcome.next ((trigDeliver_due hedges hlate hxf).trans (trigConsumers_stopped hrun)), trig_setTrig .., rfl⟩

end Sys2Proof.Laws
end

section
namespace Sys2Proof.Laws
open Sys2Proof.Machine

-- One theorem after another: a thread for each of them passes the memory limit of the check.
set_option Elab.async false

section
variable {s t u : State} {a d i n y x st da : Nat} {q : DbgReq}

/-! ### The test access port (R654 to R656) -/

theorem tapDebug_of_scrapped (h : s.lifecycle = 3) (f : State → State) : tapDebug f s = { s with rat := { s.rat with ir := 0xFF, dr := 0 } } := if_pos h

theorem tapDebug_of_live (h : s.lifecycle ≠ 3) (f : State → State) : tapDebug f s = f s := if_neg h

/-- What Capture-DR shows of the access before. -/
def captured (s : State) : State := { s with rat := { s.rat with ir := 0x11, dr := s.rat.status * 2 ^ 112 + s.rat.data } }

/-- An access that acts, with the outcome that is held until it is complete. -/
def underWay (st da : Nat) (s : State) : State := { s with rat := { s.rat with busy := some (st, da) } }

theorem access_busy (h : s.lifecycle ≠ 3) {e : Nat × Nat} (hb : s.rat.busy = some e) (q : Option DbgReq) :
    tapDebug (dbgAccess q) s = { s with rat := { s.rat with ir := 0x11, dr := E_RAT_BUSY * 2 ^ 112 + s.rat.data } } := by
  have hshown : dbgAccess q s = tapSet irDBG_ACCESS (E_RAT_BUSY * 2 ^ 112 + s.rat.data) s := by
    unfold Machine.dbgAccess
    simp only [hb]
  exact (tapDebug_of_live h _).trans hshown

theorem access_none (h : s.lifecycle ≠ 3) (hb : s.rat.busy = none) : tapDebug (dbgAccess none) s = captured s := by
  rw [tapDebug_of_live h]
  unfold Machine.dbgAccess
  simp only [hb]
  rfl

theorem access_starts (h : s.lifecycle ≠ 3) (hb : s.rat.busy = none) (q : DbgReq) : tapDebug (dbgAccess (some q)) s = dbgRun q (captured s) := by
  rw [tapDebug_of_live h]
  unfold Machine.dbgAccess
  simp only [hb]
  rfl

/-- The outcome of a DBG_ACCESS in `s`. -/
def shownRat (st da : Nat) (s : State) : RatS := { s.rat with ir := 0x11, dr := s.rat.status * 2 ^ 112 + s.rat.data, busy := some (st, da) }

theorem underWay_captured (st da : Nat) (s : State) : underWay st da (captured s) = { s with rat := shownRat st da s } := rfl

theorem dbgRun_of_bad (h : q.bad = true) : dbgRun q s = underWay E_RAT_RSVD_ENC s.rat.data s := if_pos h

theorem dbgRun_of_scope (hq : q.bad = false) (h : s.ratMay q = false) : dbgRun q s = underWay E_RAT_SCOPE 0 (ratDeny s) := by
  unfold Machine.dbgRun
  dsimp only
  rw [if_neg (by rw [hq]; exact Bool.false_ne_true), if_pos (by rw [h]; exact Bool.false_ne_true)]
  rfl

theorem dbgRun_of_down (hq : q.bad = false) (h : s.ratMay q = true) (hbar : s.barUp = false) :
    dbgRun q s = underWay 0 (if q.op = 1 then 0 else s.rat.data) s := by
  unfold Machine.dbgRun
  dsimp only
  rw [if_neg (by rw [hq]; exact Bool.false_ne_true), if_neg (not_not.2 h), if_pos (by rw [hbar]; exact Bool.false_ne_true)]
  rfl

theorem dbgRun_of_read (hq : q.bad = false) (h : s.ratMay q = true) (hbar : s.barUp = true) (hop : q.op = 1) (hsp : q.space ≠ 1) :
    dbgRun q s = underWay 0 (busRead true q.peek q.addr (if q.w64 then 8 else 4) s).2 (busRead true q.peek q.addr (if q.w64 then 8 else 4) s).1 := by
  unfold Machine.dbgRun
  dsimp only
  rw [if_neg (by rw [hq]; exact Bool.false_ne_true), if_neg (not_not.2 h), if_neg (not_not.2 hbar), if_pos hop, if_neg hsp]
  rfl

theorem dbgRun_of_write (hq : q.bad = false) (h : s.ratMay q = true) (hbar : s.barUp = true) (hop : q.op ≠ 1) :
    dbgRun q s = underWay 0 s.rat.data (if q.space = 1 then ratBar2Write q.addr q.data (if q.w64 then 8 else 4) s
      else ratBusWrite q.addr q.data (if q.w64 then 8 else 4) s) := by
  unfold Machine.dbgRun
  dsimp only
  rw [if_neg (by rw [hq]; exact Bool.false_ne_true), if_neg (not_not.2 h), if_neg (not_not.2 hbar), if_neg hop]
  rfl

/-- A 32-bit access of BAR0, read (`op` 1) or write (`op` 2). -/
def lowReq (op : Nat) (peek : Bool) (a d : Nat) : DbgReq := ⟨op, false, 0, peek, a, 0, d⟩

theorem bad_lowReq {op : Nat} (hop : op = 1 ∨ op = 2) {p : Bool} (ha : a % 4 = 0) : (lowReq op p a d).bad = false := by
  have h4 : (a % 4 != 0) = false := by rw [ha]; rfl
  obtain rfl | rfl := hop
  · exact h4
  · exact h4

theorem ratMay_lowReq {op : Nat} {p : Bool} : (captured s).ratMay (lowReq op p a d) = s.ratBar0 a := Bool.and_true _

/-- An access with a reserved bit set, or with OP 0b11, breaks the encoding. -/
theorem bad_of_reserved {op r : Nat} {w p : Bool} {sp : Nat} (h : op = 3 ∨ 0 < r) : (⟨op, w, sp, p, a, r, d⟩ : DbgReq).bad = true := by
  obtain rfl | hr := h
  · exact Bool.true_or _
  · have hne : (r != 0) = true := bne_iff_ne.2 (by omega)
    unfold DbgReq.bad
    dsimp only
    rw [hne, Bool.or_true, Bool.true_or]

theorem access_bad (h : s.lifecycle ≠ 3) (hb : s.rat.busy = none) (hq : q.bad = true) :
    tapDebug (dbgAccess (some q)) s = { s with rat := shownRat E_RAT_RSVD_ENC s.rat.data s } := (access_starts h hb q).trans (dbgRun_of_bad hq)

theorem access_down {op : Nat} {p : Bool} (h : s.lifecycle ≠ 3) (hb : s.rat.busy = none) (hbar : s.barUp = false) (hmay : s.ratBar0 a = true) (ha : a % 4 = 0)
    (hop : op = 1 ∨ op = 2) : tapDebug (dbgAccess (some (lowReq op p a d))) s = { s with rat := shownRat 0 (if op = 1 then 0 else s.rat.data) s } :=
  (access_starts h hb _).trans (dbgRun_of_down (bad_lowReq hop ha) (ratMay_lowReq.trans hmay) hbar)

/-! #### Out of scope (R657) -/

theorem ratDeny_spec (s : State) (hu : u = ratDeny s) :
    u.fld RAT_STS RAT_STS_DENY_CNT = min 0xFFFF (s.fld RAT_STS RAT_STS_DENY_CNT + 1) ∧ s.onlyRegs u [RAT_STS] := by
  subst hu
  refine ⟨(fld_setF _ _ _ _ (by decide)).trans (Nat.mod_eq_of_lt ?_), onlyRegs_setF ..⟩
  exact (Nat.min_le_left _ _).trans_lt (by decide)

theorem access_denied {op : Nat} {p : Bool} (h : s.lifecycle ≠ 3) (hb : s.rat.busy = none) (hmay : s.ratBar0 a = false) (ha : a % 4 = 0) (hop : op = 1 ∨ op = 2)
    (hu : u = tapDebug (dbgAccess (some (lowReq op p a d))) s) :
    u.rat = shownRat E_RAT_SCOPE 0 s ∧ u.fld RAT_STS RAT_STS_DENY_CNT = min 0xFFFF (s.fld RAT_STS RAT_STS_DENY_CNT + 1) ∧ s.keeps u [RAT_STS]
      ∧ { u with regs := s.regs, rat := s.rat } = s := by
  rw [access_starts h hb, dbgRun_of_scope (bad_lowReq hop ha) (ratMay_lowReq.trans hmay)] at hu
  obtain ⟨v, hv⟩ : ∃ v, v = ratDeny (captured s) := ⟨_, rfl⟩
  obtain ⟨hcnt, honly⟩ := ratDeny_spec (captured s) hv
  have hve := eq_of_onlyRegs honly
  have hvrat : v.rat = (captured s).rat := (congrArg State.rat hve :)
  rw [← hv] at hu
  have huspec : u.regs = v.regs ∧ u.rat = { v.rat with busy := some (E_RAT_SCOPE, 0) } ∧ { u with rat := v.rat } = v := by
    rw [hu]
    exact ⟨rfl, rfl, rfl⟩
  obtain ⟨huregs, hurat, hurest⟩ := huspec
  refine ⟨?_, ?_, keeps_of_regs honly.2 huregs, ?_⟩
  · rw [hurat, hvrat]
    rfl
  · rw [State.fld, State.rd, huregs]
    exact hcnt
  · calc { u with regs := s.regs, rat := s.rat }
        = { v with regs := s.regs, rat := s.rat } := (congrArg (fun z : State => { z with regs := s.regs, rat := s.rat }) hurest :)
      _ = s := (congrArg (fun z : State => { z with regs := s.regs, rat := s.rat }) hve :)

/-! #### Reads -/

theorem regAt_of_row {r : RegRow} (ha : a % 4 = 0) (hr : regRow a = some r) : regAt a = (a, r.width) := by
  have ha4 : a / 4 * 4 = a := by omega
  unfold Machine.regAt
  simp only [ha4, hr]

theorem busRead_peek {r : RegRow} (ha : a % 4 = 0) (hr : regRow a = some r) (s : State) :
    busRead true true a 4 s = (s, (s.view true a).toNat % 2 ^ 32) := by
  have hsees : s.hostSees true a = s.view true a := if_neg fun h => h.2 rfl
  unfold Machine.busRead
  rw [if_neg (fun h => absurd h.1 (by decide))]
  unfold Machine.readPart
  rw [regAt_of_row ha hr]
  dsimp only
  rw [if_neg (fun h => h.2.2 rfl), hsees, Nat.sub_self, Nat.mul_zero, pow_zero, Nat.div_one]

theorem view_captured (s : State) (a : Nat) : (captured s).view true a = s.view true a := rfl

theorem access_read {r : RegRow} (h : s.lifecycle ≠ 3) (hb : s.rat.busy = none) (hbar : s.barUp = true) (hmay : s.ratBar0 a = true) (hr : regRow a = some r)
    (ha : a % 4 = 0) : tapDebug (dbgAccess (some (lowReq 1 true a 0))) s = { s with rat := shownRat 0 ((s.view true a).toNat % 2 ^ 32) s } := by
  have hread : busRead true true a 4 (captured s) = (captured s, (s.view true a).toNat % 2 ^ 32) := (busRead_peek ha hr _).trans (by rw [view_captured])
  refine (access_starts h hb _).trans ((dbgRun_of_read (bad_lowReq (.inl rfl) ha) (ratMay_lowReq.trans hmay) hbar rfl Nat.zero_ne_one).trans ?_)
  exact congrArg (fun p : State × Nat => underWay 0 p.2 p.1) hread

theorem view_ratSts (s : State) : s.view true RAT_STS = s.rd RAT_STS := by
  have hrow : (regRow RAT_STS).map (·.base) = some RAT_STS := by decide +kernel
  obtain ⟨r, hr, hbase⟩ := Option.map_eq_some_iff.1 hrow
  unfold State.view
  rw [if_neg (by decide), if_neg (by decide), if_neg (by decide), hr]
  dsimp only
  rw [if_neg (fun h => h.2 rfl), hbase]
  rfl

/-! #### Writes -/

theorem mbrk_row : ∀ b < 4, yardRows.all (sameInYards (RAT_MBRK 0 b)) = true ∧ (regRow (RAT_MBRK 0 b)).map (fun r => (r.base, r.width)) = some (RAT_MBRK 0 0, 32) := by
  decide +kernel

theorem wbrk_row : ∀ x < 8, ∀ b < 2, (regRow (RAT_WBRK x b)).map (fun r => (r.base, r.width)) = some (RAT_WBRK 0 0, 32) := by
  decide +kernel

/-- The row of a breakpoint register. -/
theorem brk_row (h : (∃ y b, y < 64 ∧ b < 4 ∧ a = RAT_MBRK y b) ∨ ∃ x b, x < 8 ∧ b < 2 ∧ a = RAT_WBRK x b) :
    ∃ r, regRow a = some r ∧ r.width = 32 ∧ (r.base = RAT_MBRK 0 0 ∨ r.base = RAT_WBRK 0 0) := by
  obtain ⟨y, b, hy, hb, rfl⟩ | ⟨x, b, hx, hb, rfl⟩ := h
  · obtain ⟨hsame, hrow⟩ := mbrk_row b hb
    obtain ⟨r, hr, heq⟩ := Option.map_eq_some_iff.1 hrow
    obtain ⟨hbase, hwidth⟩ := Prod.mk.inj heq
    have haddr : RAT_MBRK 0 b + 0x40000 * y = RAT_MBRK y b := by unfold RAT_MBRK; omega
    refine ⟨r, ?_, hwidth, .inl hbase⟩
    rw [← haddr, regRow_yard hy (by unfold RAT_MBRK; omega) (by unfold RAT_MBRK; omega) hsame, hr]
  · obtain ⟨r, hr, heq⟩ := Option.map_eq_some_iff.1 (wbrk_row x hx b hb)
    obtain ⟨hbase, hwidth⟩ := Prod.mk.inj heq
    exact ⟨r, hr, hwidth, .inr hbase⟩

theorem brk_addr (h : (∃ y b, y < 64 ∧ b < 4 ∧ a = RAT_MBRK y b) ∨ ∃ x b, x < 8 ∧ b < 2 ∧ a = RAT_WBRK x b) : 0x708000 ≤ a ∧ a % 4 = 0 := by
  obtain ⟨y, b, _, _, rfl⟩ | ⟨x, b, _, _, rfl⟩ := h
  · unfold RAT_MBRK
    omega
  · unfold RAT_WBRK
    omega

theorem pageBusy_of_prepared (h : ∀ c, s.img.commit = some c → c.phase = 0) (a : Nat) : s.pageBusy a = false := by
  unfold State.pageBusy
  split
  · next c hc => rw [h c hc, decide_eq_false (by decide), Bool.and_false, Bool.false_and]
  · rfl

theorem ratReg_other {b : Nat} (hm : b ≠ RAT_MCTL 0) (hw : b ≠ RAT_WCTL 0) (ix : List Nat) (a v : Nat) (s : State) : ratReg b ix a v s = s.wrRW a v := by
  unfold Machine.ratReg
  dsimp only
  rw [if_neg hm, if_neg hw]

/-- A breakpoint register is written as it is. -/
theorem ratBusWrite_brk (h : (∃ y b, y < 64 ∧ b < 4 ∧ a = RAT_MBRK y b) ∨ ∃ x b, x < 8 ∧ b < 2 ∧ a = RAT_WBRK x b) (hpage : s.pageBusy a = false) (hd : d < 2 ^ 32) :
    ratBusWrite a d 4 s = s.wrRW a d := by
  obtain ⟨r, hr, hwidth, hbase⟩ := brk_row h
  obtain ⟨haddr, _⟩ := brk_addr h
  have honly : ratOnly r.base = true := by
    obtain hb | hb := hbase
    · rw [hb]
      decide
    · rw [hb]
      decide
  have hreg (ix : List Nat) (v : Nat) : ratReg r.base ix a v s = s.wrRW a v := by
    obtain hb | hb := hbase
    · rw [hb]
      exact ratReg_other (by decide) (by decide) ix a v s
    · rw [hb]
      exact ratReg_other (by decide) (by decide) ix a v s
  unfold Machine.ratBusWrite
  rw [if_neg (by omega), if_pos rfl]
  unfold Machine.ratWrite32
  simp only [hr, hwidth, if_true]
  unfold Machine.ratStore
  simp only [hr, honly, if_true, hpage, Bool.false_eq_true, if_false]
  rw [hreg, Nat.mod_eq_of_lt hd]

theorem access_brk (h : s.lifecycle ≠ 3) (hb : s.rat.busy = none) (hbar : s.barUp = true) (hcommit : ∀ c, s.img.commit = some c → c.phase = 0)
    (hbrk : (∃ y b, y < 64 ∧ b < 4 ∧ a = RAT_MBRK y b) ∨ ∃ x b, x < 8 ∧ b < 2 ∧ a = RAT_WBRK x b) (hmay : s.ratBar0 a = true) (hd : d < 2 ^ 32) :
    tapDebug (dbgAccess (some (lowReq 2 false a d))) s = underWay 0 s.rat.data ((captured s).wrRW a d) := by
  refine (access_starts h hb _).trans ((dbgRun_of_write (bad_lowReq (.inr rfl) (brk_addr hbrk).2) (ratMay_lowReq.trans hmay) hbar (by decide : (2 : Nat) ≠ 1)).trans ?_)
  exact congrArg (underWay 0 s.rat.data) ((if_neg Nat.zero_ne_one).trans (ratBusWrite_brk hbrk (pageBusy_of_prepared hcommit a) hd))

/-- The result store with bytes more. -/
def resStored (off : Nat) (bs : List (BitVec 8)) (s : State) : State := { s with cnv := { s.cnv with res := stList s.cnv.res off bs } }

theorem access_res (h : s.lifecycle ≠ 3) (hb : s.rat.busy = none) (hbar : s.barUp = true) (hlo : 0x20000000 ≤ a) (hhi : a + 4 ≤ 0x22000000) (ha : a % 4 = 0)
    (hmay : s.ratBar2 a = true) :
    tapDebug (dbgAccess (some ⟨2, false, 1, false, a, 0, d⟩)) s = underWay 0 s.rat.data (resStored (a - 0x20000000) (leBytes 4 d) (captured s)) := by
  have hbad : (⟨2, false, 1, false, a, 0, d⟩ : DbgReq).bad = false := by
    have h4 : (a % 4 != 0) = false := by rw [ha]; rfl
    exact h4
  have hput : ratBar2Write a d 4 (captured s) = resStored (a - 0x20000000) (leBytes 4 d) (captured s) := by
    unfold Machine.ratBar2Write
    rw [bar2Store_res hlo (by omega)]
    rfl
  refine (access_starts h hb _).trans ((dbgRun_of_write hbad (show (captured s).ratMay _ = true from hmay) hbar (by decide : (2 : Nat) ≠ 1)).trans ?_)
  exact congrArg (underWay 0 s.rat.data) ((if_pos rfl).trans hput)

end

end Sys2Proof.Laws
end

section
namespace Sys2Proof.Laws
open Sys2Proof.Machine

-- One theorem after another: a thread for each of them passes the memory limit of the check.
set_option Elab.async false

section
variable {s t u r : State} {n y z x w pc tq code : Nat}

theorem complete_busy {st da : Nat} (h : s.rat.busy = some (st, da)) :
    execDbgAccessComplete s = .next { s with rat := { s.rat with busy := none, status := st, data := da } } := by
  unfold execDbgAccessComplete
  simp only [h]

theorem complete_none (h : s.rat.busy = none) : execDbgAccessComplete s = .next s := by
  unfold execDbgAccessComplete
  simp only [h]

/-! ### Halt, step and release of a Mast (R659 to R662) -/

theorem ratScoped_in {ok : Bool} (h : ok = true) (f : State → State) : ratScoped ok f s = f s := if_pos h

theorem ratScoped_out {ok : Bool} (h : ok = false) (f : State → State) :
    ratScoped ok f s = ratDeny { s with rat := { s.rat with status := E_RAT_SCOPE, data := 0 } } := if_neg (by rw [h]; exact Bool.false_ne_true)

/-- A command out of scope. -/
theorem denied_spec (s : State) (hu : u = ratDeny { s with rat := { s.rat with status := E_RAT_SCOPE, data := 0 } }) :
    u.rat = { s.rat with status := E_RAT_SCOPE, data := 0 } ∧ u.fld RAT_STS RAT_STS_DENY_CNT = min 0xFFFF (s.fld RAT_STS RAT_STS_DENY_CNT + 1)
      ∧ s.keeps u [RAT_STS] ∧ { u with regs := s.regs, rat := s.rat } = s := by
  obtain ⟨v, hv⟩ : ∃ v : State, v = { s with rat := { s.rat with status := E_RAT_SCOPE, data := 0 } } := ⟨_, rfl⟩
  have hvspec : v.regs = s.regs ∧ v.rat = { s.rat with status := E_RAT_SCOPE, data := 0 } ∧ { v with rat := s.rat } = s := by
    rw [hv]
    exact ⟨rfl, rfl, rfl⟩
  obtain ⟨hvregs, hvrat, hvrest⟩ := hvspec
  rw [← hv] at hu
  obtain ⟨hcnt, honly⟩ := ratDeny_spec v hu
  have hue := eq_of_onlyRegs honly
  refine ⟨(congrArg State.rat hue :).trans hvrat, ?_, keeps_trans (keeps_of_regs (keeps_rfl s []) hvregs) honly.2 (by simp) (by simp), ?_⟩
  · rw [hcnt, State.fld, State.fld, State.rd, State.rd, hvregs]
  · exact (congrArg (fun z : State => { z with regs := s.regs, rat := s.rat }) hue :).trans (congrArg (fun z : State => { z with regs := s.regs }) hvrest :)

theorem msts_ne_pc (y : Nat) : RAT_MSTS y ≠ SEQ_PC y := by unfold RAT_MSTS SEQ_PC; omega
theorem msts_ne_tq (y : Nat) : RAT_MSTS y ≠ SEQ_TQ y := by unfold RAT_MSTS SEQ_TQ; omega
theorem msts_ne_g (y i : Nat) : RAT_MSTS y ≠ SEQ_G y i := by unfold RAT_MSTS SEQ_G; omega

/-- A stepped instruction that is done: its status 0 and the PC after it. -/
def stepDone (y : Nat) (r : State) : State := (r.setF (RAT_MSTS y) RAT_MSTS_STATUS 0).setF (RAT_MSTS y) RAT_MSTS_PC (r.pc y)

theorem stepDone_spec (y : Nat) (r : State) (hu : u = stepDone y r) :
    u.fld (RAT_MSTS y) RAT_MSTS_PC = r.pc y ∧ u.fld (RAT_MSTS y) RAT_MSTS_STATUS = 0
      ∧ u.flag (RAT_MSTS y) RAT_MSTS_HALTED = r.flag (RAT_MSTS y) RAT_MSTS_HALTED ∧ r.onlyRegs u [RAT_MSTS y] := by
  have hpc : r.pc y < 2 ^ 15 := getF_lt _ SEQ_PC_PC (by decide)
  subst hu
  refine ⟨(fld_setF _ _ _ _ (by decide)).trans (Nat.mod_eq_of_lt hpc), ?_, congrArg (· == 1) ?_, onlyRegs_andWr (onlyRegs_setF ..) (by simp)⟩
  · exact (fld_setF_beside _ _ RAT_MSTS_PC RAT_MSTS_STATUS _ (by decide) (by decide) (by decide)).trans (fld_setF _ _ _ _ (by decide))
  · exact (fld_setF_beside _ _ RAT_MSTS_PC RAT_MSTS_HALTED _ (by decide) (by decide) (by decide)).trans
      (fld_setF_beside _ _ RAT_MSTS_STATUS RAT_MSTS_HALTED _ (by decide) (by decide) (by decide))

theorem mastStep_idle (h : s.flag (RAT_MSTS y) RAT_MSTS_HALTED = false) : mastStep y s = s := if_neg (by rw [h]; exact Bool.false_ne_true)

theorem mastStep_done (h : s.flag (RAT_MSTS y) RAT_MSTS_HALTED = true) (hpc : pc = s.fld (RAT_MSTS y) RAT_MSTS_PC)
    (hr : stepInsn y pc (s.setPc y pc) = (r, 0)) : mastStep y s = stepDone y r := by
  have hrpc : (r.setF (RAT_MSTS y) RAT_MSTS_STATUS 0).pc y = r.pc y := fld_setF_ne _ _ _ _ _ _ (msts_ne_pc y).symm
  unfold Machine.mastStep
  dsimp only
  rw [if_pos h, ← hpc, hr]
  dsimp only
  rw [if_pos rfl, hrpc]
  rfl

theorem mastStep_refused (h : s.flag (RAT_MSTS y) RAT_MSTS_HALTED = true) (hpc : pc = s.fld (RAT_MSTS y) RAT_MSTS_PC)
    (hr : stepInsn y pc (s.setPc y pc) = (r, code)) (hcode : code ≠ 0) : mastStep y s = r.setF (RAT_MSTS y) RAT_MSTS_STATUS code := by
  unfold Machine.mastStep
  dsimp only
  rw [if_pos h, ← hpc, hr]
  dsimp only
  rw [if_neg hcode]

/-- A stepped instruction without a fault has its effect. -/
theorem stepInsn_ok (hw : w = u.word y pc) (hd : u.decodeErr y pc w = 0) (hi : u.issueErr y w = 0) (hb : noBodyEnd (mop w) = false ∨ mop w = .end_) :
    stepInsn y pc u = stepEffect y pc w u := by
  unfold Machine.stepInsn
  dsimp only
  rw [← hw, if_neg (not_not.2 hd), if_neg (fun h => ?_), if_neg (not_not.2 hi)]
  obtain hb | hb := hb
  · exact absurd h.1 (by rw [hb]; exact Bool.false_ne_true)
  · exact h.2.1 hb

/-- The instruction done, the Mast at the next one. -/
theorem retire_next (hloops : (u.mast y).loops = []) (hpc : pc < 32767) (hr : r = retire y pc u) :
    r.pc y = pc + 1 ∧ u.keeps r [SEQ_PC y] ∧ { r with regs := u.regs, seq := u.seq } = u := by
  rw [retire_of_noLoops hloops] at hr
  subst hr
  refine ⟨?_, keeps_setF (keeps_of_regs (keeps_rfl u _) rfl) (by simp), rfl⟩
  rw [pc_setPc]
  omega

/-- A stepped instruction that writes registers of its Mast and goes on. -/
theorem stepped_spec {v : State} {as : List Nat} (hh : s.flag (RAT_MSTS y) RAT_MSTS_HALTED = true) (hu : u = s.setPc y pc) (hv : u.onlyRegs v as)
    (hloops : (s.mast y).loops = []) (hpc : pc < 32767) (hmem : RAT_MSTS y ∉ as) (hr : r = retire y pc v) (ht : t = stepDone y r) :
    t.pc y = pc + 1 ∧ t.fld (RAT_MSTS y) RAT_MSTS_PC = pc + 1 ∧ t.fld (RAT_MSTS y) RAT_MSTS_STATUS = 0 ∧ t.flag (RAT_MSTS y) RAT_MSTS_HALTED = true
      ∧ v.keeps t [SEQ_PC y, RAT_MSTS y] ∧ s.keeps t (as ++ [SEQ_PC y, RAT_MSTS y]) ∧ { t with regs := s.regs, seq := s.seq } = s := by
  have hue : s.onlyRegs u [SEQ_PC y] := by
    rw [hu]
    exact onlyRegs_setF ..
  have hve := eq_of_onlyRegs hv
  have hvloops : (v.mast y).loops = [] := by
    have hmast : v.mast y = s.mast y := (congrArg (fun z : State => z.mast y) hve :).trans (congrArg (fun z : State => z.mast y) (eq_of_onlyRegs hue) :)
    rw [hmast]
    exact hloops
  obtain ⟨hrpc, hrk, hrrest⟩ := retire_next hvloops hpc hr
  obtain ⟨htpc, htst, hth, htonly⟩ := stepDone_spec y r ht
  have hne : RAT_MSTS y ∉ [SEQ_PC y] := by simpa using msts_ne_pc y
  have hflag : r.flag (RAT_MSTS y) RAT_MSTS_HALTED = true := by
    rw [State.flag, fld_of_keeps hrk hne, fld_of_keeps hv.2 hmem, fld_of_keeps hue.2 hne]
    exact hh
  have hvt : v.keeps t [SEQ_PC y, RAT_MSTS y] := keeps_trans hrk htonly.2 (by simp) (by simp)
  refine ⟨(fld_of_keeps htonly.2 (by simpa using (msts_ne_pc y).symm) _).trans hrpc, htpc.trans hrpc, htst, hth.trans hflag, hvt, ?_, ?_⟩
  · exact keeps_trans (keeps_trans hue.2 hv.2 (cs := as ++ [SEQ_PC y, RAT_MSTS y]) (by simp) (by simp)) hvt (by simp) (by simp)
  · calc { t with regs := s.regs, seq := s.seq }
        = { r with regs := s.regs, seq := s.seq } := (congrArg (fun z : State => { z with regs := s.regs, seq := s.seq }) (eq_of_onlyRegs htonly) :)
      _ = { v with regs := s.regs, seq := s.seq } := (congrArg (fun z : State => { z with regs := s.regs, seq := s.seq }) hrrest :)
      _ = { u with regs := s.regs, seq := s.seq } := (congrArg (fun z : State => { z with regs := s.regs, seq := s.seq }) hve :)
      _ = s := (congrArg (fun z : State => { z with regs := s.regs, seq := s.seq }) (eq_of_onlyRegs hue) :)

theorem stepEffect_movi (h : mop w = .movi) : stepEffect y pc w u = (retire y pc (u.setG y (bits w 52 48) (bits w 47 0)), 0) := by
  unfold Machine.stepEffect
  simp only [h]

theorem stepEffect_wait (h : mop w = .wait) (htq : u.tq y + 16 * u.waitFt y w ≤ 2 ^ 48 - 16) :
    stepEffect y pc w u = (retire y pc (u.setTq y (u.tq y + 16 * u.waitFt y w)), 0) := by
  have hmax : ¬ tqMax < u.tq y + 16 * u.waitFt y w := by
    unfold tqMax
    omega
  unfold Machine.stepEffect
  simp only [h]
  exact if_neg hmax

theorem stepEffect_end (h : mop w = .end_) : stepEffect y pc w u = (u, E_RAT_STATE) := by
  unfold Machine.stepEffect
  simp only [h]

/-- The Mast of a yard is released (R662). -/
def released (y : Nat) (s : State) : State := (s.setF (RAT_MSTS y) RAT_MSTS_HALTED 0).setMst y mIDLE

theorem ratRelease_eq (h : s.flag (RAT_MSTS y) RAT_MSTS_HALTED = true) (hr : r = released y s) :
    ratRelease y s = r.setF RAT_STS RAT_STS_MHALT (b01 (allYards.any fun y => r.flag (RAT_MSTS y) RAT_MSTS_HALTED)) := by
  rw [hr]
  exact if_pos h

theorem ratRelease_idle (h : s.flag (RAT_MSTS y) RAT_MSTS_HALTED = false) : ratRelease y s = s := if_neg (by rw [h]; exact Bool.false_ne_true)

theorem msts_ne_sts (z y : Nat) : RAT_MSTS z ≠ SEQ_STS y := by unfold RAT_MSTS SEQ_STS; omega

/-- Who is halted after the release. -/
theorem halted_released (y z : Nat) (s : State) : (released y s).flag (RAT_MSTS z) RAT_MSTS_HALTED = (z != y && s.flag (RAT_MSTS z) RAT_MSTS_HALTED) := by
  have hfirst (f : Fld) : (released y s).fld (RAT_MSTS z) f = (s.setF (RAT_MSTS y) RAT_MSTS_HALTED 0).fld (RAT_MSTS z) f :=
    fld_setF_ne _ _ _ _ _ _ (msts_ne_sts z y)
  by_cases h : z = y
  · rw [State.flag, hfirst, h, fld_setF _ _ _ _ (by decide), bne_self_eq_false, Bool.false_and]
    rfl
  · rw [State.flag, hfirst, fld_setF_ne _ _ _ _ _ _ (by unfold RAT_MSTS; omega), bne_iff_ne.2 h, Bool.true_and]
    rfl

theorem ratRelease_spec (h : s.flag (RAT_MSTS y) RAT_MSTS_HALTED = true) (hu : u = ratRelease y s) :
    u.flag (RAT_MSTS y) RAT_MSTS_HALTED = false ∧ u.mst y = mIDLE
      ∧ u.fld RAT_STS RAT_STS_MHALT = (if (allYards.any fun z => z != y && s.flag (RAT_MSTS z) RAT_MSTS_HALTED) = true then 1 else 0) := by
  obtain ⟨r, hr⟩ : ∃ r, r = released y s := ⟨_, rfl⟩
  have hany : (allYards.any fun z => r.flag (RAT_MSTS z) RAT_MSTS_HALTED) = allYards.any fun z => z != y && s.flag (RAT_MSTS z) RAT_MSTS_HALTED := by
    rw [hr]
    exact congrArg allYards.any (funext fun z => halted_released y z s)
  have hself : r.flag (RAT_MSTS y) RAT_MSTS_HALTED = false := by rw [hr, halted_released, bne_self_eq_false, Bool.false_and]
  have hmst : r.mst y = mIDLE := by
    rw [hr]
    exact fld_setF _ _ _ _ (by decide)
  have hmsts : RAT_MSTS y ≠ RAT_STS := by unfold RAT_MSTS RAT_STS; omega
  have hsts : SEQ_STS y ≠ RAT_STS := by unfold SEQ_STS RAT_STS; omega
  rw [ratRelease_eq h hr] at hu
  subst hu
  refine ⟨(congrArg (· == 1) (fld_setF_ne _ _ _ _ _ _ hmsts)).trans hself, (fld_setF_ne _ _ _ _ _ _ hsts).trans hmst, ?_⟩
  rw [fld_setF _ _ _ _ (by decide), hany]
  cases (allYards.any fun z => z != y && s.flag (RAT_MSTS z) RAT_MSTS_HALTED)
  · rfl
  · rfl

/-! ### Halt, resume and step of a core (R663, R664) -/

theorem wchCsts_ne_ratSts (x : Nat) (hx : x < 8) : WCH_CSTS x ≠ RAT_STS := by unfold WCH_CSTS RAT_STS; omega

theorem ratHalts_spec (hx : x < 8) (s : State) (hu : u = ratHalts x s) :
    u.wst x = wHALTED ∧ bit (u.fld RAT_STS RAT_STS_WHALT) x = true ∧ s.onlyRegs u [WCH_CSTS x, RAT_STS] := by
  have hne := wchCsts_ne_ratSts x hx
  have hm : s.fld RAT_STS RAT_STS_WHALT < 2 ^ 8 := getF_lt _ RAT_STS_WHALT (by decide)
  have hor : s.fld RAT_STS RAT_STS_WHALT ||| 2 ^ x < 2 ^ 8 := Nat.or_lt_two_pow hm (Nat.pow_lt_pow_right (by decide) hx)
  subst hu
  refine ⟨(fld_setF_ne _ _ _ _ _ _ hne).trans (wst_setWst s x (by decide)), ?_, onlyRegs_andWr (onlyRegs_andWr (onlyRegs_rfl s _) (by simp)) (by simp)⟩
  have hfld : (ratHalts x s).fld RAT_STS RAT_STS_WHALT = s.fld RAT_STS RAT_STS_WHALT ||| 2 ^ x :=
    (fld_setF _ _ _ _ (by decide)).trans (Nat.mod_eq_of_lt hor)
  rw [hfld, bit, Nat.testBit_or, Nat.testBit_two_pow_self, Bool.or_true]

theorem bit_sub_two_pow {m : Nat} (h : bit m x = true) : bit (m - 2 ^ x) x = false := by
  have hle : 2 ^ x ≤ m := Nat.ge_two_pow_of_testBit h
  have hflip := Nat.testBit_two_pow_add_eq (m - 2 ^ x) x
  rw [Nat.add_sub_cancel' hle] at hflip
  rw [bit] at h
  rw [h] at hflip
  rw [bit]
  simpa using hflip

theorem ratResume_spec (hx : x < 8) (hm : bit (s.fld RAT_STS RAT_STS_WHALT) x = true) (hst : s.wst x = wHALTED) (hu : u = ratResume x s) :
    u.wst x = wRUN ∧ bit (u.fld RAT_STS RAT_STS_WHALT) x = false ∧ s.onlyRegs u [WCH_CSTS x, RAT_STS] := by
  have hne := wchCsts_ne_ratSts x hx
  have hlt : s.fld RAT_STS RAT_STS_WHALT - 2 ^ x < 2 ^ 8 := (Nat.sub_le _ _).trans_lt (getF_lt _ RAT_STS_WHALT (by decide))
  obtain ⟨v, hv⟩ : ∃ v, v = s.setF RAT_STS RAT_STS_WHALT (s.fld RAT_STS RAT_STS_WHALT - 2 ^ x) := ⟨_, rfl⟩
  have hvst : v.wst x = wHALTED := by
    rw [hv]
    exact (fld_setF_ne _ _ _ _ _ _ hne).trans hst
  have hvm : v.fld RAT_STS RAT_STS_WHALT = s.fld RAT_STS RAT_STS_WHALT - 2 ^ x := by
    rw [hv]
    exact (fld_setF _ _ _ _ (by decide)).trans (Nat.mod_eq_of_lt hlt)
  have hvonly : s.onlyRegs v [RAT_STS] := by
    rw [hv]
    exact onlyRegs_setF ..
  have huv : u = v.setWst x wRUN := by
    rw [hu, Machine.ratResume]
    dsimp only
    rw [if_pos hm, ← hv, if_pos hvst]
  subst huv
  refine ⟨wst_setWst v x (by decide), ?_, onlyRegs_trans hvonly (onlyRegs_setF ..) (by simp) (by simp)⟩
  rw [State.setWst, fld_setF_ne _ _ _ _ _ _ hne.symm, hvm]
  exact bit_sub_two_pow hm

theorem wctlHalt_set (h : s.wst x = wRUN ∨ s.wst x = wWAIT) : wctlHalt x true s = ratHalts x s := (if_pos rfl).trans (if_pos h)

theorem wctlHalt_clear (x : Nat) (s : State) : wctlHalt x false s = ratResume x s := if_neg Bool.false_ne_true

/-- A core with the mark of a step. -/
def stepping (x : Nat) (b : Bool) (s : State) : State := s.setCore x { s.core x with step := b }

theorem wAny_movi (h : s.wGoes x 2 w) : wAny x s = wRetire x (s.setWD x (bits w 25 22) (unsgn 48 (sgn 22 (bits w 21 0)))) := by
  obtain ⟨hw, hop, _⟩ := id h
  unfold Machine.wAny
  rw [hw]
  simp only [hop]
  exact wExec_of_goes h fun w s => wRetire x (s.setWD x (bits w 25 22) (unsgn 48 (sgn 22 (bits w 21 0))))

theorem wStepOne_other (h : s.wst x ≠ wHALTED) : wStepOne x s = s := if_pos h

theorem wStepOne_stays (h : s.wst x = wHALTED) (hr : r = stepping x false (wAny x (stepping x true s))) (hst : r.wst x = wHALTED) : wStepOne x s = r := by
  unfold Machine.wStepOne
  rw [if_neg (not_not.2 h)]
  have hstay : ¬ (r.wst x = wRUN ∨ r.wst x = wWAIT) := by
    rw [hst]
    decide
  rw [hr] at hstay ⊢
  exact if_neg hstay

theorem wMoved_congr {s' t' : State} {as : List Nat} (h : s.wMoved t x as) (hs : s'.regs = s.regs) (ht : t'.regs = t.regs) : s'.wMoved t' x as := by
  have hrs (a : Nat) : s'.rd a = s.rd a := by rw [State.rd, State.rd, hs]
  have hrt (a : Nat) : t'.rd a = t.rd a := by rw [State.rd, State.rd, ht]
  have hfs : s'.rd = s.rd := funext hrs
  have hft : t'.rd = t.rd := funext hrt
  unfold State.wMoved State.keeps State.wAgain State.wLast State.wst State.wPC State.wLA State.wSpr State.flag State.fld State.rdN at h ⊢
  rw [hfs, hft]
  exact h

/-- A stepped MOVI of a core. -/
theorem wchStep_spec (hst : s.wst x = wHALTED) (hgoes : (stepping x true s).wGoes x 2 w) (hstep : (s.core x).step = false) (hu : u = wStepOne x s) :
    u.wD x (bits w 25 22) = unsgn 48 (sgn 22 (bits w 21 0)) ∧ s.wMoved u x [WCH_REG x (bits w 25 22)] ∧ u.wst x = wHALTED ∧ ∀ z, u.core z = s.core z := by
  have hi : bits w 25 22 < 16 := bits_lt w 25 22
  obtain ⟨v, hv⟩ : ∃ v, v = stepping x true s := ⟨_, rfl⟩
  have hvspec : v.regs = s.regs ∧ ∀ z, v.core z = if z = x then { s.core x with step := true } else s.core z := by
    rw [hv]
    exact ⟨rfl, fun z => tget_tput ..⟩
  obtain ⟨hvregs, hvcore⟩ := hvspec
  rw [← hv] at hgoes
  obtain ⟨d, hd⟩ : ∃ d, d = v.setWD x (bits w 25 22) (unsgn 48 (sgn 22 (bits w 21 0))) := ⟨_, rfl⟩
  have hdonly : v.onlyRegs d [WCH_REG x (bits w 25 22)] := by
    rw [hd]
    exact onlyRegs_wr ..
  have hdval : d.wD x (bits w 25 22) = unsgn 48 (sgn 22 (bits w 21 0)) := by
    have hlt := unsgn_lt 48 (sgn 22 (bits w 21 0))
    rw [hd]
    refine (rdN_wrN ..).trans ?_
    unfold w48
    omega
  obtain ⟨m, hm⟩ : ∃ m, m = wRetire x d := ⟨_, rfl⟩
  have hret : Retired x d m := by
    rw [hm]
    exact retired_wRetire x d
  have hmoved : v.wMoved m x [WCH_REG x (bits w 25 22)] := hret.moved_of_keeps hdonly.2 (by simp [wchCsts_ne_reg])
    (by simp [wchPc_ne_reg]) (by simp only [List.mem_cons, List.not_mem_nil, or_false]; unfold WCH_REG; omega)
  obtain ⟨r, hr⟩ : ∃ r, r = stepping x false m := ⟨_, rfl⟩
  have hrspec : r.regs = m.regs ∧ ∀ z, r.core z = if z = x then { m.core x with step := false } else m.core z := by
    rw [hr]
    exact ⟨rfl, fun z => tget_tput ..⟩
  obtain ⟨hrregs, hrcore⟩ := hrspec
  have hcores : m.wch = v.wch := (congrArg State.wch (eq_of_onlyRegs hret.only) :).trans (congrArg State.wch (eq_of_onlyRegs hdonly) :)
  have hmcore (z : Nat) : m.core z = v.core z := by rw [State.core, State.core, hcores]
  have hrmoved : s.wMoved r x [WCH_REG x (bits w 25 22)] := wMoved_congr hmoved hvregs.symm hrregs
  obtain ⟨_, _, _, hrst, _⟩ := id hrmoved
  have hrhalted : r.wst x = wHALTED := hrst.trans hst
  have hur : u = r := by
    rw [hu]
    exact wStepOne_stays hst (by rw [hr, hm, hd, ← hv, wAny_movi hgoes]) hrhalted
  have hrd : r.wD x (bits w 25 22) = m.wD x (bits w 25 22) := by rw [State.wD, State.wD, State.rdN, State.rdN, State.rd, State.rd, hrregs]
  rw [hur]
  refine ⟨hrd.trans ((hret.wD (by omega)).trans hdval), hrmoved, hrhalted, fun z => ?_⟩
  rw [hrcore]
  by_cases hz : z = x
  · rw [if_pos hz, hmcore, hvcore, if_pos rfl, hz, ← hstep]
  · rw [if_neg hz, hmcore, hvcore, if_neg hz]

end

/-- Settles O54: the accesses by the cases of `dbgRun`, the steps by `stepped_spec` and `wchStep_spec`. -/
theorem ratlineReadsWritesHaltsAndSteps : Obligations.RatlineReadsWritesHaltsAndSteps := by
  unfold Obligations.RatlineReadsWritesHaltsAndSteps
  refine ⟨?_, ?_, ?_, ?_, ?_, ?_, ?_, ?_, ?_, ?_, ?_, ?_, ?_, ?_, ?_, ?_, ?_, ?_, ?_, ?_, ?_, ?_, ?_, ?_, ?_, ?_⟩
  · exact fun s => ⟨_, rfl, rfl⟩
  · exact fun s => ⟨_, rfl, rfl⟩
  · exact fun s ir hir => ⟨_, congrArg (fun n => Host.Outcome.next (tapSet n 0 s)) (Nat.mod_eq_of_lt hir), rfl⟩
  · intro s hlife
    refine ⟨_, congrArg Host.Outcome.next (tapDebug_of_live hlife _), ?_⟩
    rw [view_ratSts]
    rfl
  · intro s i w sp p a r d o hi hlife
    simp only [List.mem_cons, List.not_mem_nil, or_false] at hi
    obtain rfl | rfl | rfl | rfl := hi
    · exact ⟨_, congrArg Host.Outcome.next (tapDebug_of_scrapped hlife _), rfl⟩
    · exact ⟨_, congrArg Host.Outcome.next (tapDebug_of_scrapped hlife _), rfl⟩
    · exact ⟨_, congrArg Host.Outcome.next (tapDebug_of_scrapped hlife _), rfl⟩
    · exact ⟨_, congrArg Host.Outcome.next (tapDebug_of_scrapped hlife _), rfl⟩
  · intro s i w sp p a r d o e hi hlife hb
    simp only [List.mem_cons, List.not_mem_nil, or_false] at hi
    obtain rfl | rfl | rfl := hi
    · exact ⟨_, congrArg Host.Outcome.next (access_busy hlife hb _), rfl⟩
    · exact ⟨_, congrArg Host.Outcome.next (access_busy hlife hb _), rfl⟩
    · exact ⟨_, congrArg Host.Outcome.next (access_busy hlife hb _), rfl⟩
  · exact fun s hlife hb => ⟨_, congrArg Host.Outcome.next (access_none hlife hb), rfl⟩
  · intro s i w sp p a r d hi hlife hb
    obtain rfl | ⟨hr, rfl | rfl⟩ := hi
    · exact ⟨_, congrArg Host.Outcome.next (access_bad hlife hb (bad_of_reserved (.inl rfl))), rfl⟩
    · exact ⟨_, congrArg Host.Outcome.next (access_bad hlife hb (bad_of_reserved (.inr hr))), rfl⟩
    · exact ⟨_, congrArg Host.Outcome.next (access_bad hlife hb (bad_of_reserved (.inr hr))), rfl⟩
  · intro s a r hlife hb hbar hmay hr _ ha
    exact ⟨_, congrArg Host.Outcome.next (access_read hlife hb hbar hmay hr ha), rfl⟩
  · intro s a p d hlife hb hbar hmay ha
    exact ⟨⟨_, congrArg Host.Outcome.next (access_down (op := 1) (d := 0) hlife hb hbar hmay ha (.inl rfl)), rfl⟩,
      ⟨_, congrArg Host.Outcome.next (access_down (op := 2) (p := false) (d := d) hlife hb hbar hmay ha (.inr rfl)), rfl⟩⟩
  · intro s a i p d hlife hb hmay ha hi
    simp only [List.mem_cons, List.not_mem_nil, or_false] at hi
    obtain rfl | rfl := hi
    · exact ⟨_, rfl, access_denied (op := 1) (p := p) (d := 0) hlife hb hmay ha (.inl rfl) rfl⟩
    · exact ⟨_, rfl, access_denied (op := 2) (p := false) (d := d) hlife hb hmay ha (.inr rfl) rfl⟩
  · intro s a d hlife hb hbar hcommit hbrk hmay hd
    refine ⟨_, congrArg Host.Outcome.next (access_brk hlife hb hbar hcommit hbrk hmay hd), rfl, ?_, ?_, rfl⟩
    · exact rd_wrRW_same (captured s) a d
    · exact keeps_of_regs (keeps_wrRW (keeps_of_regs (keeps_rfl s [a]) (u := captured s) rfl) (by simp)) rfl
  · intro s a d hlife hb hbar hlo hhi ha hmay
    exact ⟨_, congrArg Host.Outcome.next (access_res hlife hb hbar hlo hhi ha hmay), rfl, rfl, rfl⟩
  · intro s st da hb
    refine ⟨_, ?_, rfl⟩
    exact complete_busy hb
  · exact fun s hb => complete_none hb
  · intro s y hscope
    refine ⟨_, congrArg Host.Outcome.next (ratScoped_in hscope _), ?_, fun z hz => ?_, rfl, rfl⟩
    · exact (mast_modMast ..).trans (if_pos rfl)
    · exact (mast_modMast ..).trans (if_neg hz)
  · intro s i y x v hi
    obtain ⟨hi, hscope⟩ | ⟨hi, hscope⟩ := hi
    · simp only [List.mem_cons, List.not_mem_nil, or_false] at hi
      obtain rfl | rfl | rfl := hi
      · exact ⟨_, congrArg Host.Outcome.next (ratScoped_out hscope _), denied_spec s rfl⟩
      · exact ⟨_, congrArg Host.Outcome.next (ratScoped_out hscope _), denied_spec s rfl⟩
      · exact ⟨_, congrArg Host.Outcome.next (ratScoped_out hscope _), denied_spec s rfl⟩
    · simp only [List.mem_cons, List.not_mem_nil, or_false] at hi
      obtain rfl | rfl := hi
      · exact ⟨_, congrArg Host.Outcome.next (ratScoped_out hscope _), denied_spec s rfl⟩
      · exact ⟨_, congrArg Host.Outcome.next (ratScoped_out hscope _), denied_spec s rfl⟩
  · intro s y pc u w hscope _ hh hpc hlt hu hw hmop hd hi hloops
    have hstep := (stepInsn_ok hw hd hi (.inl (by rw [hmop]; rfl))).trans (stepEffect_movi hmop)
    rw [hu] at hstep
    obtain ⟨v, hv⟩ : ∃ v, v = (s.setPc y pc).setG y (bits w 52 48) (bits w 47 0) := ⟨_, rfl⟩
    rw [← hv] at hstep
    have hvonly : (s.setPc y pc).onlyRegs v [SEQ_G y (bits w 52 48)] := by
      rw [hv]
      exact onlyRegs_wr ..
    have hvg : v.g y (bits w 52 48) = bits w 47 0 := by
      rw [hv, g_setG]
      exact Nat.mod_eq_of_lt (bits_lt w 47 0)
    obtain ⟨htpc, hmpc, hstatus, hhalted, hvt, hk, hrest⟩ := stepped_spec hh rfl hvonly hloops hlt (by simpa using msts_ne_g y _) rfl rfl
    have hgmem : SEQ_G y (bits w 52 48) ∉ [SEQ_PC y, RAT_MSTS y] := by
      simp only [List.mem_cons, List.not_mem_nil, or_false, SEQ_G, SEQ_PC, RAT_MSTS]
      omega
    exact ⟨_, congrArg Host.Outcome.next ((ratScoped_in hscope _).trans (mastStep_done hh hpc hstep)), (rdN_of_keeps hvt hgmem).trans hvg, htpc, hmpc, hstatus,
      hhalted, hk, hrest⟩
  · intro s y pc u w hscope _ hh hpc hlt hu hw hmop hd hi hloops htq
    have hstep := (stepInsn_ok hw hd hi (.inl (by rw [hmop]; rfl))).trans (stepEffect_wait hmop htq)
    obtain ⟨k, hkd⟩ : ∃ k, k = 16 * u.waitFt y w := ⟨_, rfl⟩
    have hutq : u.tq y = s.tq y := by
      rw [hu]
      exact rdN_setF_ne _ _ _ _ _ (by unfold SEQ_TQ SEQ_PC; omega)
    rw [← hkd] at htq hstep ⊢
    rw [hutq] at htq hstep
    rw [hu] at hstep
    obtain ⟨v, hv⟩ : ∃ v, v = (s.setPc y pc).setTq y (s.tq y + k) := ⟨_, rfl⟩
    rw [← hv] at hstep
    have hvonly : (s.setPc y pc).onlyRegs v [SEQ_TQ y] := by
      rw [hv]
      exact onlyRegs_wr ..
    have hvtq : v.tq y = s.tq y + k := by
      rw [hv, tq_setTq]
      omega
    obtain ⟨_, hmpc, hstatus, _, hvt, hk, hrest⟩ := stepped_spec hh rfl hvonly hloops hlt (by simpa using msts_ne_tq y) rfl rfl
    have htmem : SEQ_TQ y ∉ [SEQ_PC y, RAT_MSTS y] := by
      simp only [List.mem_cons, List.not_mem_nil, or_false, SEQ_TQ, SEQ_PC, RAT_MSTS]
      omega
    exact ⟨_, congrArg Host.Outcome.next ((ratScoped_in hscope _).trans (mastStep_done hh hpc hstep)), (rdN_of_keeps hvt htmem).trans hvtq, hmpc, hstatus, hk, hrest⟩
  · intro s y pc u w hscope _ hh hpc hu hw hmop hd hi
    have hstep := (stepInsn_ok hw hd hi (.inr hmop)).trans (stepEffect_end hmop)
    rw [hu] at hstep
    refine ⟨_, congrArg Host.Outcome.next ((ratScoped_in hscope _).trans (mastStep_refused hh hpc hstep (by decide))), fld_setF _ _ _ _ (by decide), ?_,
      onlyRegs_andWr (onlyRegs_andWr (onlyRegs_rfl s _) (by simp)) (by simp)⟩
    rw [fld_setF_beside _ _ RAT_MSTS_STATUS RAT_MSTS_PC _ (by decide) (by decide) (by decide), hpc]
    exact fld_setF_ne _ _ _ _ _ _ (msts_ne_pc y)
  · intro s y hscope _ hh
    obtain ⟨hflag, hmst, hmhalt⟩ := ratRelease_spec hh rfl
    exact ⟨_, congrArg Host.Outcome.next (ratScoped_in hscope _), hflag, hmst, hmhalt, onlyRegs_ratRelease y s⟩
  · intro s y hscope hh
    exact ⟨congrArg Host.Outcome.next ((ratScoped_in hscope _).trans (ratRelease_idle hh)),
      congrArg Host.Outcome.next ((ratScoped_in hscope _).trans (mastStep_idle hh))⟩
  · intro s x hscope hx hst
    exact ⟨_, congrArg Host.Outcome.next ((ratScoped_in hscope _).trans (wctlHalt_set hst)), ratHalts_spec hx s rfl⟩
  · intro s x hscope hx hm hst
    exact ⟨_, congrArg Host.Outcome.next ((ratScoped_in hscope _).trans (wctlHalt_clear x s)), ratResume_spec hx hm hst rfl⟩
  · intro s x u w hscope hst hu hgoes hstep
    obtain ⟨hd, hmoved, hst', hcore⟩ := wchStep_spec hst (hu ▸ hgoes) hstep rfl
    exact ⟨_, congrArg Host.Outcome.next (ratScoped_in hscope _), hd, hmoved, hst', hcore⟩
  · exact fun s x hscope hst => congrArg Host.Outcome.next ((ratScoped_in hscope _).trans (wStepOne_other hst))

end Sys2Proof.Laws
end
